-- ==== Sys2Proof/Word.lean ====
section
/-!
DEFINITION. The widths of data the Y1600 works on and their plainest arithmetic.
-/

namespace Sys2Proof

/-- A register, a gaffer register and an instruction word are 32 bits wide (R29, R50). -/
abbrev Word := BitVec 32

/-- A byte of memory or of a packet. -/
abbrev Byte := BitVec 8

/-- A wide value is held in up to 192 bits (R43). -/
abbrev Wide := BitVec 192

end Sys2Proof
end

