-- ==== Sys2Proof/Config.lean ====
section
/-!
DEFINITION. What an implementation fixes and the spec leaves open: free values, constants without a body,
so that nothing in Lean can evaluate one or prove a value of it (log entry 5); and the names of requesters and of
outside outcomes that commands carry as operands.
-/

namespace Sys2Proof

/-- The `n`-th free value of a run: a TRNG or DRBG draw (R173), an LFSR choice (R118, R151), a randomised
cell or countdown (R183, R195), a nonce.  The step reads and advances the counter it is applied to. -/
opaque Config.freeValue : Nat → Nat

/-- A value the spec does not state for the given operands (`site` names the place in the model). -/
opaque Config.unstated : (site : Nat) → (operands : List Nat) → Nat

/-- A function of device secrets or private keys (signatures, session keys, identity keys): `use` names the
purpose, the bytes are the data it is computed over. -/
opaque Config.secret : (use : Nat) → List Byte → List Byte

/-- Who makes an access (R29, R30, R48): the manager on a host port with its PCIe requester ID, firmware on a
CPX pair, or Welbor. -/
inductive Requester where
  | manager (port rid : Nat)
  | firmware (pair : Nat)
  | welbor
  deriving DecidableEq, Repr

/-- Whether a requester is the firmware. -/
def Requester.isFirmware : Requester → Bool
  | .firmware _ => true
  | _ => false

/-- Whether a requester is the manager. -/
def Requester.isManager : Requester → Bool
  | .manager _ _ => true
  | _ => false

/-- GCTL_AERR_SRC.RID (R48). -/
def Requester.rid : Requester → Nat
  | .manager _ rid => rid
  | .firmware pair => 0xFFF0 + pair
  | .welbor => 0xFFFF

/-- Why the link discards a received TLP (R295). -/
inductive LinkError where
  | malformed | ecrc | flowControl
  deriving DecidableEq, Repr

/-- How the host answers a read the adapter issues (R283, R295): data, no translation present, Unsupported Request or
Completer Abort, no answer in time, a poisoned completion, or a TLP that the link discards. -/
inductive HostAnswer where
  | data | notPresent | refused | timeout | poisoned
  | discarded (error : LinkError)
  deriving DecidableEq, Repr

/-- What an outstanding host read was issued for (R276, R295). -/
inductive ReadTarget where
  /-- The submission entry or indirect table that a queue fetches next. -/
  | fetch (queue : Nat)
  /-- The data of a fetched entry. -/
  | entry (queue index : Nat)
  /-- A mover's source burst. -/
  | mover (mover : Nat)
  /-- The data of a storage wire command (R234), or of Connect (R239). -/
  | wire (wire : Nat)
  deriving DecidableEq, Repr

/-- The transports on which Welbor answers SPDM (R377): the DOE mailboxes of PF0 and PF1 of a host port, MCTP over SMBus, and
the channel of a slice. -/
inductive Transport where
  | pf0 (port : Nat)
  | pf1 (port : Nat)
  | mctp
  | slice (slice : Nat)
  deriving DecidableEq, Repr

/-- An end of a mailbox channel (R388). -/
inductive MailEnd where
  | manager (channel : Nat)
  | firmware (channel : Nat)
  | x (channel : Nat)
  | y (channel : Nat)
  | tenant (slice : Nat)
  | welbor (slice : Nat)
  deriving DecidableEq, Repr

/-- What a boot stage finds in an image of the boot flash (R371): its set (0 A, 1 B), kind, magic number, SVN, length, whether
the signature verifies under the key that the lifecycle state names, the digest of its header, and its body. -/
structure BootImage where
  set : Nat
  kind : Nat
  magic : Nat
  svn : Nat
  length : Nat
  signed : Bool
  digest : List Byte
  body : List Byte
  deriving DecidableEq, Repr

end Sys2Proof
end

