-- ==== Sys2Proof/Syntax.lean ====
section
/-!
DEFINITION. The commands of the block: one constructor per row of spec/opcode_table.json.
-/

namespace Sys2Proof

/-- A command. Each constructor is the row of spec/opcode_table.json whose rule its docstring cites. -/
inductive Instr where
  /-- R37. A write to a register field that has no row of its own, applied under its access type. -/
  | registerWrite (req : Requester) (addr : Nat) (value : Word) (be : BitVec 4)
  /-- R37. A read of an RC counter, peak or minimum register returns the value and clears or reloads it. -/
  | counterReadClear (req : Requester) (addr : Nat) (be : BitVec 4)
  /-- R40. Every 4096 island cycles, the parity of every RWP register of a page is checked. -/
  | parityBackgroundScan (page : Nat) (upsets : List (Nat × Nat))
  /-- R41. A write of 1 to SCAN_NOW starts a full report-only parity scan of the page. -/
  | scanNow (req : Requester) (page : Nat)
  /-- R42. A W1C write to BLK_FAULT.CFG_PARITY starts a recheck that clears SAFE if no mismatch is found. -/
  | cfgParityRecheck (req : Requester) (page : Nat)
  /-- R43. A WMB_SEL write with WRITE = 0 captures a wide value into WMB_D0-D5 and sets VALID or ERR. -/
  | wmbCapture (req : Requester) (page : Nat) (index : BitVec 16)
  /-- R43. A WMB_SEL write with WRITE = 1 commits WMB_D0-D5 to the selected wide value in one cycle. -/
  | wmbCommit (req : Requester) (page : Nat) (index : BitVec 16)
  /-- R46. A write to a broadcast or group page is forwarded to every selected, attached, powered instance. -/
  | broadcastWrite (req : Requester) (addr : Nat) (value : Word) (be : BitVec 4)
  /-- R46. A read of a broadcast or group page returns the OR of the targets without consuming RC fields. -/
  | broadcastRead (req : Requester) (addr : Nat)
  /-- R474. The parity of group-page masks is checked by background scan and at each forwarded access. -/
  | groupMaskParityScan (region group : Nat) (upsets : List (Nat × Nat))
  /-- R53. GAF dispatch places a waiting first pass or reheat on a free context and loads the header window. -/
  | packetDispatch (packet : Nat)
  /-- R58. Opcode 0x00 or a reserved opcode raises ILLEGAL subcode 1. -/
  | ill (core : Nat)
  /-- R58. Adds two registers, setting Z and C. -/
  | add (core : Nat)
  /-- R58. Subtracts two registers, setting Z and borrow. -/
  | sub (core : Nat)
  /-- R58. Bitwise AND of two registers. -/
  | and (core : Nat)
  /-- R58. Bitwise OR of two registers. -/
  | or (core : Nat)
  /-- R58. Bitwise XOR of two registers. -/
  | xor (core : Nat)
  /-- R58. Shifts a register left by a register amount. -/
  | shl (core : Nat)
  /-- R58. Shifts a register right logically by a register amount. -/
  | shr (core : Nat)
  /-- R58. Copies a register. -/
  | mov (core : Nat)
  /-- R58. Adds a sign-extended immediate. -/
  | addi (core : Nat)
  /-- R58. ANDs a zero-extended immediate. -/
  | andi (core : Nat)
  /-- R58. ORs a zero-extended immediate. -/
  | ori (core : Nat)
  /-- R58. XORs a zero-extended immediate. -/
  | xori (core : Nat)
  /-- R58. Shifts left by an immediate amount. -/
  | shli (core : Nat)
  /-- R58. Shifts right logically by an immediate amount. -/
  | shri (core : Nat)
  /-- R58. Loads a zero-extended immediate. -/
  | movi (core : Nat)
  /-- R58. Loads a 16-bit immediate into the upper half of a register. -/
  | movhi (core : Nat)
  /-- R58. Extracts a bit field from a register. -/
  | ext (core : Nat)
  /-- R58. Inserts a bit field into a register. -/
  | ins (core : Nat)
  /-- R56. Loads one header-window byte with bounds checking. -/
  | ld8 (core : Nat)
  /-- R56. Loads two window bytes big-endian. -/
  | ld16 (core : Nat)
  /-- R56. Loads four window bytes big-endian. -/
  | ld32 (core : Nat)
  /-- R58. Extracts a bit field from four window bytes. -/
  | extw (core : Nat)
  /-- R58. Sets the cursor. -/
  | curset (core : Nat)
  /-- R58. Adds to the cursor. -/
  | curadd (core : Nat)
  /-- R58. Copies the cursor to a register. -/
  | curget (core : Nat)
  /-- R55. Extends the header window to 512 bytes and suspends the context while bytes load. -/
  | wext (core : Nat)
  /-- R55. A context suspended by WEXT resumes once the added window bytes are loaded. -/
  | wextResume (ctx : Nat)
  /-- R59. Branches on a comparison of two registers. -/
  | br (core : Nat)
  /-- R59. Branches on a comparison with an immediate. -/
  | bri (core : Nat)
  /-- R58. Branches on a flag or flag word bit. -/
  | bf (core : Nat)
  /-- R58. Jumps to an absolute target. -/
  | j (core : Nat)
  /-- R58. Pushes the return address and jumps. -/
  | call (core : Nat)
  /-- R58. Pops the return stack and jumps. -/
  | ret (core : Nat)
  /-- R60. Dense table dispatch on the low bits of a register. -/
  | disp (core : Nat)
  /-- R60. Sparse key-match dispatch over following table words. -/
  | dmat (core : Nat)
  /-- R58. Resets both hash accumulators and selects a Toeplitz key. -/
  | hinit (core : Nat)
  /-- R61. Feeds window bytes to the CRC32C accumulator. -/
  | hcrc (core : Nat)
  /-- R61. Feeds register bytes to the CRC32C accumulator. -/
  | hcrcr (core : Nat)
  /-- R62. Feeds window bytes to the Toeplitz hash. -/
  | htoe (core : Nat)
  /-- R62. Feeds register bytes to the Toeplitz hash. -/
  | htoer (core : Nat)
  /-- R61. Reads a hash unit result into a register. -/
  | hrd (core : Nat)
  /-- R64. Writes low register bytes into the metadata record. -/
  | emit (core : Nat)
  /-- R64. Copies window bytes into the metadata record. -/
  | emitw (core : Nat)
  /-- R58. Sets a program flag word bit. -/
  | fset (core : Nat)
  /-- R58. Clears a program flag word bit. -/
  | fclr (core : Nat)
  /-- R58. Writes the reheat hint and sets REHEAT_REQ. -/
  | rhint (core : Nat)
  /-- R67. Ends the pass and hands the record and flag word toward CLS. -/
  | done (core : Nat)
  /-- R58. Does nothing for one cycle. -/
  | nop (core : Nat)
  /-- R73. A context parity error ends the pass and restarts it on another core, or raises CTX_PARITY on a repeat. -/
  | contextParityError (ctx : Nat)
  /-- R73. An uncorrectable program store fetch restarts the pass elsewhere and stops the cluster. -/
  | programStoreUe (ctx : Nat)
  /-- R67. A completed record leaves the release buffer once its predecessors of the same source and pass are released. -/
  | recordRelease (packet : Nat)
  /-- R71. The exception queue offers its head packet to CLSG for a walk of the exception tree. -/
  | exceptionDelivery
  /-- R74. A GAF_PS_DATA write stores a word if the bank is writable and auto-increments WORD. -/
  | programStoreWrite (req : Requester) (cluster : Nat) (value : Word)
  /-- R77. A GAF_PS_DATA read returns the stored word and auto-increments WORD. -/
  | programStoreRead (req : Requester) (cluster : Nat)
  /-- R77. A bank CRC recomputation ends after the last store write and updates GAF_PS_CRCn. -/
  | psCrcRecompute (cluster bank : Nat)
  /-- R75. A write of GAFG_FLIP.GO = 1 requests a program bank flip. -/
  | flipRequest (req : Requester)
  /-- R75. Once no CRC is busy, the flip is checked and either refused or takes effect in one GAF cycle. -/
  | flipCheck
  /-- R75. When the old bank's inflight count reaches 0, OLD_BUSY and GO clear and event 155 pulses. -/
  | oldBankFree
  /-- R90. CLSG accepts a record from the release buffer or exception queue and assigns it to an engine. -/
  | recordAccept (packet : Nat)
  /-- R88. An engine selects a tree, walks it to a leaf and matches the leaf's rules. -/
  | treeWalk (packet : Nat)
  /-- R91. A walk result leaves the reorder buffer for TBL in acceptance order. -/
  | resultHandoff (packet : Nat)
  /-- R92. CLS_BATCH_STAGE with UNSTAGE = 0 stages a FREE batch after checks. -/
  | batchStage (req : Requester) (batch : BitVec 4)
  /-- R92. CLS_BATCH_STAGE with UNSTAGE = 1 returns a STAGED batch to FREE. -/
  | batchUnstage (req : Requester) (batch : BitVec 4)
  /-- R96. CLS_BATCH_SWAP makes a STAGED batch current and the old one DRAINING. -/
  | batchSwap (req : Requester) (batch : BitVec 4)
  /-- R92. A DRAINING batch whose inflight count reads 0 becomes RETIRED and event 178 pulses. -/
  | batchRetire (batch : BitVec 4)
  /-- R92. Writing 1 to a RETIRED bit returns that batch to FREE. -/
  | batchRetiredClear (req : Requester) (mask : BitVec 16)
  /-- R115. A bank probes an exact-match table, returning the first matching good entry or a miss. -/
  | emProbe (packet probe : Nat)
  /-- R115. A privileged probe that missed during a relocation repeats after the relocating insert ends. -/
  | privilegedReprobe (packet probe : Nat)
  /-- R121. An LPM lookup filters lengths and probes candidates longest first. -/
  | lpmProbe (packet probe : Nat)
  /-- R123. A hit refresh reaching the bank writes AGE if VALID and GEN still match. -/
  | ageRefresh
  /-- R117. TBLG INSERT adds or replaces an entry, relocating or evicting as needed. -/
  | insert
  /-- R117. TBLG INSERT_NOEVICT inserts without ever evicting. -/
  | insertNoevict
  /-- R116. TBLG DELETE clears the entry with the given key. -/
  | delete
  /-- R116. TBLG LOOKUP probes without refresh and copies the entry to OPRES. -/
  | lookup
  /-- R116. TBLG CLEAR_SLOT clears a slot, bad or not. -/
  | clearSlot
  /-- R121. TBLG BLOOM_REBUILD starts a paced walk that builds a new filter for one length. -/
  | bloomRebuild
  /-- R121. At the end of the rebuild walk, BLOOM_BASE and BLOOM_LOG2 are written and GO clears. -/
  | bloomRebuildEnd
  /-- R116. A GO held during a running operation starts once it ends, capturing the registers then. -/
  | heldOperationStart (page : Nat)
  /-- R122. The learn engine takes a queued learn request and inserts, refreshes or moves the entry. -/
  | learnExecute
  /-- R123. Each AGE_TICK the epoch advances and a sweep round starts. -/
  | epochAdvance
  /-- R123. The paced sweep visits a bucket or overflow set and issues compare-and-clears for aged entries. -/
  | sweepBucketVisit
  /-- R123. A sweep compare-and-clear reaching the bank deletes the entry if AGE and GEN still match. -/
  | compareAndClear
  /-- R125. A waiting notification record is written to the host ring once it has room. -/
  | notificationRecordWrite
  /-- R125. A write of TBLG_NR_CONS is accepted or discarded against PROD and the ring size. -/
  | nrConsWrite (req : Requester) (value : Word)
  /-- R138. ACT applies a pass's action words stage by stage and disposes of the packet. -/
  | actionApply (packet : Nat)
  /-- R148. A meter lane applies one two-rate three-colour update in arrival order. -/
  | meterUpdate (packet : Nat)
  /-- R149. A counter lane adds one packet and its length to a counter. -/
  | counterUpdate (lane : Nat)
  /-- R142. A template read not complete within 2.1 µs is abandoned and the template treated as absent. -/
  | templateReadAbandon (packet : Nat)
  /-- R153. A waiting decision trace record is written to the host ring. -/
  | traceRecordWrite
  /-- R153. A write of ACTG_TRACE_CONS is accepted or discarded against PROD and the ring size. -/
  | traceConsWrite (req : Requester) (value : Word)
  /-- R150. ACTG CNT_READ copies a counter to OPRES. -/
  | cntRead
  /-- R150. ACTG CNT_READ_CLEAR reads and zeroes a counter in one lane cycle. -/
  | cntReadClear
  /-- R150. ACTG CNT_PRESET writes OPBUF to a counter. -/
  | cntPreset
  /-- R150. ACTG METER_WRITE configures a meter and refills its buckets. -/
  | meterWrite
  /-- R150. ACTG METER_READ copies a meter to OPRES. -/
  | meterRead
  /-- R150. ACTG METER_DISABLE clears a meter's VALID. -/
  | meterDisable
  /-- R158. A copy is enqueued to a TC or host queue if within its colour limit. -/
  | copyEnqueue (copy : Nat)
  /-- R156. A port scheduler selects the next copy by strict priority, DWRR and shapers. -/
  | portSchedule (mac : Nat)
  /-- R157. SCHH selects the next host copy by manager priority and slice and queue DWRR. -/
  | hostDelivery
  /-- R161. When a frame's first bytes arrive, CRU admits it on-die, spills it, or drops it. -/
  | frameArrival (mac : Nat) (head : List Byte)
  /-- R179. LEHG checks a submitted job and queues it for cells. -/
  | lehrJobSubmit
  /-- R183. A job's block is issued to a free random cell as cells become free. -/
  | lehrBlockIssue (job segment : Nat)
  /-- R172. A cell finishes a block after its real and dummy rounds, with verify or spot comparison. -/
  | lehrBlockComplete (unit cell : Nat) (agree : Bool)
  /-- R179. After its blocks and GHASH combine, a job ends OK, AUTH or FAULT and returns its result. -/
  | lehrJobEnd (job : Nat) (failed : Option Nat)
  /-- R196. Each period a cell or multiplier runs its known-answer test. -/
  | knownAnswerTest (unit cell : Nat) (pass : Bool)
  /-- R173. After 2^20 generate requests a cluster generator reseeds from the TRNG. -/
  | drbgReseed (unit generator : Nat) (seeded : Bool)
  /-- R191. An unwrap of a wrapped key record completes and fills the cache, or fails and zeroises the slot. -/
  | keyUnwrap
  /-- R190. KEY INSTALL writes key material and descriptor into an EMPTY slot, or pair. -/
  | install
  /-- R190. KEY RETIRE moves a READY slot to RETIRING. -/
  | retire
  /-- R190. KEY QUERY copies a slot descriptor to KEY_DESC. -/
  | query
  /-- R190. A RETIRING slot whose inflight count reaches 0 is zeroised and becomes EMPTY. -/
  | slotZeroise (slot : Nat)
  /-- R210. An SXP lane checks the SA, assigns or infers the sequence and applies the window before the lehr job. -/
  | sxpPrecheck (lane : Nat)
  /-- R210. When the lehr job returns, the lane applies the final window check, updates and delivers or discards. -/
  | sxpPostcheck (lane : Nat)
  /-- R208. SXP WRITE installs an SA image. -/
  | sxpWrite
  /-- R208. SXP READ copies an SA to OPRES. -/
  | sxpRead
  /-- R208. SXP DISABLE clears an SA's VALID. -/
  | sxpDisable
  /-- R217. SXP ROLL moves an SA to its successor. -/
  | sxpRoll
  /-- R217. When the rolled SA's inflight count reaches 0, waiting packets proceed on the successor. -/
  | rollComplete (sa : Nat)
  /-- R221. A read of SXP_LIMIT_FIFO pops one SOFT or HARD entry. -/
  | limitFifoPop (req : Requester)
  /-- R235. A storage READ entry is checked and cut into wire commands. -/
  | read (queue : Nat)
  /-- R234. A storage WRITE entry is checked and cut into wire commands with held, encrypted data. -/
  | write (queue : Nat)
  /-- R237. A storage FLUSH waits for earlier entries and sends one Flush. -/
  | flush (queue : Nat)
  /-- R236. A storage TRIM sends one Dataset Management deallocate. -/
  | trim (queue : Nat)
  /-- R233. A wire command takes a free command slot and its CapsuleCmd is sent. -/
  | wireCommandIssue (wire : Nat) (answer : HostAnswer)
  /-- R235. A C2HData PDU is checked, decrypted and placed or discarded. -/
  | c2hdataReceive (session : Nat)
  /-- R233. A CapsuleResp settles its wire command and frees its slot. -/
  | capsuleRespReceive (session : Nat)
  /-- R234. An R2T is served with H2CData PDUs from held bytes. -/
  | readyToTransferReceive (session : Nat)
  /-- R242. A received C2HTermReq fails the session. -/
  | c2htermreqReceive (session : Nat)
  /-- R239. A valid ICResp moves the session to CONNECT. -/
  | icrespReceive (session : Nat)
  /-- R239. TCP establishment moves the session to HANDSHAKE or ICREQ. -/
  | synAckReceive
  /-- R242. A received TCP RST fails the session. -/
  | tcpRstReceive
  /-- R225. A TCP segment is accepted in order, or discarded with a duplicate ACK. -/
  | tcpSegmentReceive
  /-- R241. The RTO expires; the segment is retransmitted or the session fails after RETRIES. -/
  | retransmissionTimeout (session : Nat)
  /-- R242. A wire command exceeding CMD_TIMEOUT fails the session, or frees an orphan slot. -/
  | cmdTimeout (wire : Nat)
  /-- R231. An entry waiting for its session to open ends TIMEOUT after CMD_TIMEOUT. -/
  | openWaitTimeout (queue index : Nat)
  /-- R230. STO VOL_WRITE writes a volume's manager fields. -/
  | volWrite
  /-- R245. STO VOL_READ copies a volume to OPRES. -/
  | volRead
  /-- R245. STO VOL_DISABLE clears a volume's VALID. -/
  | volDisable
  /-- R230. STO VOL_BIND_KEY writes a volume's Welbor key fields. -/
  | stoVolBindKey
  /-- R245. STO SES_WRITE writes a CLOSED session. -/
  | sesWrite
  /-- R245. STO SES_READ copies a session to OPRES. -/
  | sesRead
  /-- R239. STO SES_OPEN sends SYN and enters CONNECTING. -/
  | sesOpen
  /-- R240. STO SES_GO ends HANDSHAKE and sends ICReq. -/
  | sesGo
  /-- R239. STO SES_CLOSE moves a READY session to DRAINING. -/
  | sesClose
  /-- R239. STO SES_RESET sends RST, frees slots and cells, and enters CLOSED. -/
  | sesReset
  /-- R239. A DRAINING session with no outstanding commands exchanges FIN and becomes CLOSED. -/
  | sessionDrained (session : Nat)
  /-- R252. At a frame's end the MAC checks FCS, length and code errors and admits or discards it. -/
  | frameReceiveEnd (mac : Nat) (bytes : List Byte) (codeError : Bool)
  /-- R256. A PAUSE frame loads the port pause timer. -/
  | pauseReceive (mac : Nat) (bytes : List Byte)
  /-- R256. A PFC frame loads the timers of its enabled classes' TCs. -/
  | pfcReceive (mac : Nat) (bytes : List Byte)
  /-- R256. A pause timer reaches 0 and the TC resumes. -/
  | pauseTimerExpiry (mac timer : Nat)
  /-- R257. A TC stopped for MAC_PAUSE_WDOG µs is resumed and pause for it ignored. -/
  | pauseWatchdog (mac tc : Nat)
  /-- R257. The watchdog hold ends and pause for the TC is honoured again. -/
  | pauseHoldEnd (mac tc : Nat)
  /-- R255. Loss of CDR or alignment lock takes the link to DOWN. -/
  | laneLockLoss (mac lost dark : Nat)
  /-- R255. All lanes locked and aligned move the link to ALIGN. -/
  | laneLockAcquire (mac : Nat) (snr : List Nat)
  /-- R255. UP_HOLD ms without fault sequences moves the link to UP. -/
  | upHoldExpiry (mac : Nat)
  /-- R255. Local or remote fault sequences move an UP link to FAULT. -/
  | faultSequenceReceive (mac : Nat) (localFault remoteFault : Bool)
  /-- R255. At the end of each 1 ms window the corrected-symbol count sets or clears FEC_DEGRADED. -/
  | fecDegradeWindow (mac corrected uncorrectable symbols : Nat)
  /-- R258. A requested XOFF, XON or PAUSE frame is sent at the next frame boundary. -/
  | flowControlFrameSend (mac : Nat)
  /-- R258. While XOFF holds, the PFC frame is repeated at the refresh interval. -/
  | pfcRefresh (mac cls : Nat)
  /-- R259. The MAC starts sending a copy once the start threshold is buffered. -/
  | frameTransmitStart (mac : Nat)
  /-- R259. A byte not arrived when due ends the frame with a bad FCS and raises the start threshold. -/
  | txUnderrun (mac : Nat)
  /-- R94. A copy finishes sending; counters, slice counters and departure accounting follow. -/
  | frameTransmitEnd (mac : Nat)
  /-- R260. MAC_SNAP.GO copies every MAC counter into its shadows in one cycle. -/
  | macSnapshot (req : Requester) (mac : Nat)
  /-- R260. MACG_SNAP.GO snapshots all 16 MACs in one common cycle. -/
  | macgSnapshot (req : Requester)
  /-- R263. A capture of MAC wide value 0x0030 removes the head timestamp record. -/
  | tsFifoCapture (req : Requester) (mac : Nat)
  /-- R259. A write of MAC_TX_START_BASE sets the current start threshold. -/
  | txStartBaseWrite (req : Requester) (mac : Nat) (value : Word)
  /-- R250. A PCS_MODE write is accepted and starts a retune, or is refused. -/
  | pcsModeWrite (req : Requester) (group : Nat) (mode : BitVec 2)
  /-- R250. All lanes retuned; BUSY clears and held MAC enables take effect. -/
  | pcsRetuneDone (group : Nat)
  /-- R265. CAGE_TWI.GO starts one two-wire byte transaction. -/
  | cageTwiStart (req : Requester) (group : Nat)
  /-- R265. A two-wire transaction ends with data or NACK and event 125 pulses. -/
  | cageTwiDone (group : Nat) (data : Option (BitVec 8))
  /-- R265. A module is inserted or removed. -/
  | cagePresenceChange (group : Nat) (present : Bool)
  /-- R265. A module's interrupt signal changes level. -/
  | cageModuleInterrupt (group : Nat) (level : Bool)
  /-- R266. A cage supply fault or trip opens the supply and clears PWR_EN. -/
  | cageSupplyFault (group : Nat)
  /-- R313. A tenant read of a _LO wire counter clears the tenant copy and latches _HI. -/
  | sliceCounterLoRead (slice counter : Nat)
  /-- R296. A host port's data link comes up. -/
  | linkUp (port speed width : Nat) (flit : Bool)
  /-- R296. Loss or containment of a host link abandons requests and halts its queues. -/
  | linkDown (port : Nat)
  /-- R296. An FLR of PF0 or PF1 halts that function's queues and resets its configuration. -/
  | functionLevelReset (port pf : Nat)
  /-- R282. An invalidation stops use of matching translation entries. -/
  | atsInvalidationRequest (port pf pasid range : Nat)
  /-- R282. Once requests under matching entries complete, the Invalidation Completion is sent. -/
  | atsInvalidationComplete (port : Nat)
  /-- R283. A page request response releases or fails the held request. -/
  | prgResponse (port group : Nat) (success : Bool)
  /-- R283. No response within HIF_PRI_TO ends the entry with TIMEOUT. -/
  | pageRequestTimeout (port group : Nat)
  /-- R295. A host read completion arrives, possibly UR, CA or poisoned. -/
  | readCompletionReceive (port : Nat) (target : ReadTarget) (answer : HostAnswer)
  /-- R295. A host read completion times out. -/
  | completionTimeout (port : Nat) (target : ReadTarget)
  /-- R279. A PF1 window access is applied or refused by slice state and TDISP. -/
  | sliceWindowAccess (port slice offset rid : Nat) (write : Bool) (value : Word) (be : BitVec 4) (stream : Option Nat) (tbit : Bool)
  /-- R288. HIF_SIT_OP WRITE programs a slice interrupt entry. -/
  | sitWrite (port : Nat)
  /-- R288. HIF_SIT_OP CLEAR invalidates a slice interrupt entry. -/
  | sitClear (port : Nat)
  /-- R288. HIF_SIT_OP READ copies a slice interrupt entry. -/
  | sitRead (port : Nat)
  /-- R289. A slice interrupt is sent, held as PENDING, or discarded. -/
  | sliceInterruptRaise (slice entry stamp : Nat)
  /-- R289. A tenant MASK write; unmasking with PENDING sends one message. -/
  | sitMaskWrite (slice entry : Nat) (mask : Bool)
  /-- R286. Unmasking a vector sends one message for each pending bit. -/
  | msixUnmask (port : Nat) (vector : Option Nat)
  /-- R284. An IDE stream failing integrity becomes Insecure and its TDIs enter ERROR. -/
  | ideIntegrityFailure (port stream : Nat)
  /-- R310. A TDISP lock request binds the slice confidentially or is refused. -/
  | lockInterfaceRequest (slice stream : Nat)
  /-- R305. SLC CREATE makes a FREE slice ACTIVE. -/
  | slcCreate
  /-- R307. SLC MODIFY replaces an ACTIVE slice's charter. -/
  | slcModify
  /-- R308. SLC DESTROY moves a slice to DESTROYING and starts teardown. -/
  | slcDestroy
  /-- R314. SLC READ copies a charter to OPRES. -/
  | slcRead
  /-- R308. When keys, queues and firmware steps are done, the slice enters QUARANTINE. -/
  | teardownComplete (slice : Nat)
  /-- R309. A quarantined slice with nothing in flight and its minimum time passed becomes FREE. -/
  | quarantineEnd (slice : Nat)
  /-- R318. QUE CREATE installs a queue context. -/
  | queCreate
  /-- R318. QUE MODIFY replaces a queue's modifiable fields. -/
  | queModify
  /-- R318. QUE DESTROY frees an IDLE queue. -/
  | queDestroy
  /-- R318. QUE READ copies a queue context. -/
  | queRead
  /-- R323. A submission PI doorbell advances PI or stops the queue with SQ_DOORBELL. -/
  | sqPiDoorbell (port queue : Nat) (owner : Option Nat) (value : BitVec 17)
  /-- R323. A completion CI doorbell advances CI and drains the backlog, or stops the queue. -/
  | cqCiDoorbell (port queue : Nat) (owner : Option Nat) (value : BitVec 17)
  /-- R320. START moves an IDLE queue to RUN. -/
  | queueStart (req : Option Requester) (queue : Nat)
  /-- R327. STOP ends outstanding entries with ABORTED and moves the queue to STOPPING. -/
  | queueStop (req : Option Requester) (queue : Nat)
  /-- R327. RESET aborts entries, resets indices and increments QGEN. -/
  | queueReset (req : Option Requester) (queue : Nat)
  /-- R326. RESUME restarts fetch of an ERROR queue at QERR_IDX. -/
  | queueResume (req : Option Requester) (queue : Nat)
  /-- R324. A doorbell read returns state, QGEN and CI and flushes earlier writes. -/
  | doorbellRead (port queue : Nat) (owner : Option Nat)
  /-- R326. QUE fetches submission entries within credit and checks them. -/
  | entryFetch (queue : Nat) (answer : HostAnswer)
  /-- R329. A SEND entry gathers a frame into the crucible for transmit or handshake. -/
  | send (queue : Nat) (answer : HostAnswer)
  /-- R330. A RECV entry posts a receive buffer. -/
  | recv (queue : Nat)
  /-- R331. A CIPHER entry submits a lehr job. -/
  | cipher (queue : Nat) (answer : HostAnswer)
  /-- R328. A completion is written to the ring once there is room, raising the interrupt by count. -/
  | completionWrite (queue : Nat)
  /-- R328. IRQ_US after the first uncovered completion the queue raises its interrupt. -/
  | irqDelayExpiry (queue : Nat)
  /-- R330. A copy is placed into posted RX entries, holding if the next entry is unavailable. -/
  | framePlacement (queue : Nat)
  /-- R330. The RX hold timer expires and the frame completes TRUNCATED. -/
  | rxHoldExpiry (queue : Nat)
  /-- R345. BLP_CTL.GO starts a chain from BLP_HEAD, or is ignored while running. -/
  | moverGo (req : Requester) (mover : Nat)
  /-- R345. BLP_CTL.STOP halts the chain at the next burst boundary. -/
  | moverStop (req : Requester) (mover : Nat)
  /-- R346. An event-fabric trigger starts a chain, is held, or is ignored. -/
  | moverTrigger (mover : Nat)
  /-- R345. The mover fetches and checks the next descriptor when the previous one's last burst issues. -/
  | descriptorFetch (mover : Nat)
  /-- R347. A burst issues, paced by its port's request line where named. -/
  | burstIssue (mover : Nat) (portReady : Bool) (answer : HostAnswer)
  /-- R349. Once a descriptor or chain's writes are acknowledged the mover pulses its event. -/
  | chainEnd (mover : Nat)
  /-- R294. A CPX FENCE completes when its write buffer is drained and acknowledged. -/
  | fence (pair : Nat)
  /-- R350. A CPX DCINV invalidates a range of its data cache. -/
  | dcinv (pair addr len : Nat)
  /-- R360. A source asserts, sets PEND and delivers to its sinks when PEND & ~MASK rises. -/
  | eventSourceAssert (source : Nat)
  /-- R360. A W1C write clears PEND bits. -/
  | pendClear (req : Requester) (word : Nat) (mask : Word)
  /-- R361. Writing MASK = 0 with PEND set delivers once. -/
  | routeUnmask (req : Requester) (source : Nat)
  /-- R368. EVTG_SWSET pulses software event sources. -/
  | softwareEvent (req : Requester) (events : BitVec 16)
  /-- R364. A board input active for MIN_PW samples is accepted or ignored in hold-off. -/
  | binActivation (input : Nat)
  /-- R365. A board input active for STUCK ms is masked as stuck. -/
  | binStuck (input : Nat)
  /-- R365. Writing 1 to BIN_STAT.STUCK unmasks the input. -/
  | binUnmask (req : Requester) (mask : BitVec 4)
  /-- R389. A SEND write queues the staged message with its stamp, or is refused when full. -/
  | mbxSend (req : Requester) (box : MailEnd) (pasid : Option Nat)
  /-- R387. A POP write removes the head message. -/
  | mbxPop (req : Requester) (box : MailEnd)
  /-- R303. The manager's SLICE_CREATE request is logged by Welbor and issued. -/
  | sliceCreate (channel : Nat)
  /-- R303. The manager's SLICE_MODIFY request is logged and issued. -/
  | sliceModify (channel : Nat)
  /-- R303. The manager's SLICE_DESTROY request is logged and issued. -/
  | sliceDestroy (channel : Nat)
  /-- R381. POOL_SET sets a Welbor allocation pool. -/
  | poolSet (channel : Nat)
  /-- R392. MOVE has firmware run a mover transfer for the manager. -/
  | move (channel mover : Nat) (answer : HostAnswer)
  /-- R385. OTP_WRITE programs the next OTP generation. -/
  | otpWrite (channel : Nat)
  /-- R385. OTP programming ends and the response is sent. -/
  | otpProgramEnd
  /-- R374. LIFECYCLE_ADVANCE moves the lifecycle to a higher state at next reset. -/
  | lifecycleAdvance (channel : Nat)
  /-- R466. Firmware completes initialisation and announces readiness. -/
  | fwReady (result : Nat) (failed : List Nat)
  /-- R380. Welbor KEY_INSTALL allocates and installs a key slot. -/
  | keyInstall
  /-- R380. Welbor KEY_RETIRE retires an owned slot. -/
  | keyRetire
  /-- R380. Welbor KEY_QUERY returns an owned slot's descriptor. -/
  | keyQuery
  /-- R380. Welbor SA_WRITE installs a tenant SA. -/
  | saWrite
  /-- R380. Welbor SA_DISABLE disables a tenant SA. -/
  | saDisable
  /-- R380. Welbor SA_ROLL rolls a tenant SA. -/
  | saRoll
  /-- R380. Welbor SA_READ returns a tenant SA image. -/
  | saRead
  /-- R380. Welbor VOL_BIND_KEY binds a tenant's XTS key to its volume. -/
  | volBindKey
  /-- R380. Welbor QUEUE_OP issues a QUE operation for the slice. -/
  | queueOp
  /-- R380. Welbor SES_CTL issues SES_GO, SES_CLOSE or SES_RESET for the slice. -/
  | sesCtl
  /-- R380. Welbor CHARTER_HISTORY returns a logged charter image. -/
  | charterHistory
  /-- R376. SPDM GET_VERSION. -/
  | getVersion (via : Transport)
  /-- R376. SPDM GET_CAPABILITIES. -/
  | getCapabilities (via : Transport)
  /-- R376. SPDM NEGOTIATE_ALGORITHMS. -/
  | negotiateAlgorithms (via : Transport) (supported : Bool)
  /-- R376. SPDM GET_DIGESTS. -/
  | getDigests (via : Transport)
  /-- R376. SPDM GET_CERTIFICATE for slot 0. -/
  | getCertificate (via : Transport) (slot offset length : Nat)
  /-- R376. SPDM CHALLENGE. -/
  | challenge (via : Transport) (slot : Nat) (nonce : List Byte)
  /-- R372. SPDM GET_MEASUREMENTS returns signed measurement blocks. -/
  | getMeasurements (via : Transport) (index : Nat) (nonce : Option (List Byte))
  /-- R377. SPDM KEY_EXCHANGE opens a secure session or is refused at the limit. -/
  | keyExchange (via : Transport) (summary : Bool)
  /-- R376. SPDM FINISH completes session establishment. -/
  | finish (session : Nat) (good : Bool)
  /-- R377. SPDM HEARTBEAT keeps a session alive. -/
  | heartbeat (session : Nat)
  /-- R376. SPDM KEY_UPDATE updates session keys. -/
  | keyUpdate (session : Nat)
  /-- R377. SPDM END_SESSION ends a session and erases its keys. -/
  | endSession (session : Nat)
  /-- R379. An SPDM vendor request carries a Welbor operation, refused outside a session. -/
  | vendorDefinedRequest (via : Transport) (session : Option Nat) (payload : List Byte)
  /-- R377. Two heartbeat periods without traffic end a session. -/
  | spdmSessionTimeout (session : Nat)
  /-- R370. RST releases Welbor and boot stage 0 begins. -/
  | welborRelease
  /-- R370. A boot stage ends and the next begins after image verification. -/
  | bootStageEnd (pass : Bool) (images : List BootImage)
  /-- R404. PWR_REQ.GO requests a power state and is checked or refused. -/
  | powerRequest (req : Requester) (target : BitVec 3)
  /-- R404. A move among RUN, LEAN and DOZE completes. -/
  | powerTransitionComplete
  /-- R406. The STANDBY entry sequence completes and STATE becomes STANDBY. -/
  | standbyEntryComplete
  /-- R402. Every 1 µs in LEAN and DOZE, PWR gates or ungates one GAF and one LEH cluster. -/
  | leanStep
  /-- R403. An access to GDDR6 group 1 in DOZE is held and the adapter returns to RUN. -/
  | dozeDemand (addr : Nat)
  /-- R403. After L1_IDLE µs without traffic in DOZE, HIF requests L1. -/
  | l1IdleTimeout (port : Nat)
  /-- R408. A wake source starts the exit from STANDBY or DOZE, or is latched during entry. -/
  | wakeRequest (kind source : Nat)
  /-- R409. A regulator or oscillator step misses its limit and is retried, moved to the alternate, or fails. -/
  | exitStepTimeout (step unit : Nat)
  /-- R409. The STANDBY exit completes and STATE becomes RUN. -/
  | standbyExitComplete
  /-- R407. PWR_PAD_RELEASE hands held pads back to their logic. -/
  | padRelease (req : Requester) (groups : Word)
  /-- R451. A feed above 35.0 V for 10 ms is declared good. -/
  | feedGood (feed : Nat)
  /-- R452. A feed out of range for 20 µs is declared lost and journaled. -/
  | feedLost (feed : Nat)
  /-- R416. 3.3Vaux rising causes a power-on reset. -/
  | auxPowerOn
  /-- R464. Loss of 3.3Vaux takes the module OFF. -/
  | auxPowerLoss
  /-- R416. PERST# resets one host port. -/
  | perstAssert (port : Nat)
  /-- R417. RST_CTL KIND 1 resets every switched domain. -/
  | deviceReset (req : Requester) (confirm : BitVec 16)
  /-- R417. RST_CTL KIND 2 or 3 resets one host port. -/
  | hostPortReset (req : Requester) (kind : BitVec 4) (confirm : BitVec 16)
  /-- R416. A Welbor core fault restarts it from boot stage 1. -/
  | welborRestart
  /-- R463. A die sensor at 115 °C opens both feed switches. -/
  | thermalTrip
  /-- R411. Nanoseconds wrap into seconds and PPS out rises. -/
  | ptpSecondWrap
  /-- R411. A PPS input edge captures the PTP time. -/
  | ppsInEdge
  /-- R412. A commit of TIM wide value 0x0002 loads the clock and clears TIM_COARSE. -/
  | ptpClockLoad (req : Requester)
  /-- R412. A commit of TIM wide value 0x0003 adds an offset and clears TIM_COARSE. -/
  | ptpOffsetAdjust (req : Requester)
  /-- R413. No crystal edge for 4 windows switches the slow clock to the RC oscillator. -/
  | slowCrystalFail
  /-- R413. Every 2^20 slow cycles TIM records the slow sources' frequencies. -/
  | slowFreqMeasure (source : Nat) (frequency : BitVec 64)
  /-- R459. Loss of the 10 MHz input switches timing to a module oscillator. -/
  | refInputLoss
  /-- R430. A failed reference oscillator is replaced hitlessly, or PLLs hold over. -/
  | oscillatorFail (oscillator : Nat)
  /-- R425. An uncorrectable burst is rebuilt from its parity group and written back. -/
  | gddrBurstRebuild (device addr : Nat)
  /-- R426. A write of MEM_CTL.FAIL declares the device failed. -/
  | memFailWrite (req : Requester) (device : Nat)
  /-- R427. Each scrub period a controller reads, corrects and rebuilds every burst. -/
  | scrubRound (device corrected : Nat)
  /-- R428. A lockstep mismatch fences the pair and hands its work to a takeover pair. -/
  | cpxMismatch (pair : Nat)
  /-- R428. A fenced pair's BIST ends in STANDBY or FAILED. -/
  | cpxBistEnd (pair : Nat) (pass : Bool)
  /-- R429. CPX_RETURN.GO returns a STANDBY pair to duty. -/
  | cpxReturn (req : Requester) (pair : Nat)
  /-- R433. SVC_REQ with ACTION OUT starts taking a unit out of service. -/
  | svcOut (req : Requester) (type inst : Nat)
  /-- R433. SVC_REQ with ACTION IN returns a PASSED unit to service. -/
  | svcIn (req : Requester) (type inst : Nat)
  /-- R433. The punty's state copy ends and the switch takes place. -/
  | svcSyncEnd (unit : Nat)
  /-- R433. Work accepted by the out-of-service unit completes and BIST starts. -/
  | svcDrainEnd (unit : Nat)
  /-- R433. The unit's BIST ends as PASSED or FAILED. -/
  | svcBistEnd (unit : Nat) (pass : Bool)
  /-- R435. A unit detects a logic fault; it is taken out automatically if enabled. -/
  | logicParityFault (page checkPoint : Nat)
  /-- R36. A crossing parity error is retried once, or becomes a unit fault. -/
  | crossingParityError (page sender : Nat) (retryGood : Bool)
  /-- R423. A failed converter phase is shed and journaled. -/
  | phaseShed (rail phase : Nat)
  /-- R443. A corrected or uncorrectable SRAM error is counted and may spare its row. -/
  | sramError (bank row page : Nat) (corrected : Bool)
  /-- R439. A queued fault record is written to MRAM, or a class 1 record suppressed. -/
  | journalRecordWrite
  /-- R440. A write of FLT_RD_SEQ fetches a journal record into FLT_RD0-15. -/
  | journalRead (req : Requester) (seq : Word)
  /-- R442. Each second FLT adjusts an island's supply by margin. -/
  | avsStep (island margin : Nat)
  /-- R285. A TDISP START_INTERFACE_REQUEST moves a CONFIG_LOCKED TDI to RUN. -/
  | startInterfaceRequest (slice : Nat)
  /-- R285. A TDISP STOP_INTERFACE_REQUEST returns a locked, running or ERROR TDI to CONFIG_UNLOCKED. -/
  | stopInterfaceRequest (slice : Nat)
  /-- R284. An IDE_KM message in an SPDM session programs or activates the keys of an IDE stream. -/
  | ideKmRequest (session port stream : Nat) (activate : Bool)
  /-- R377. An MCTP control message over SMBus is answered, by AON in STANDBY, for example to set the endpoint ID. -/
  | mctpControlMessage (setEid : Option Nat)
  /-- R277. A configuration write moves PF0 or PF1 to D3hot, stopping its memory space and DMA, or back to D0. -/
  | pciPowerStateChange (port pf : Nat) (d3 : Bool)
  /-- R454. PERST# of a host port is released and link training may start. -/
  | perstDeassert (port : Nat)
  /-- R364. A board input sampled inactive for MIN_PW service cycles becomes inactive and re-arms a stuck input. -/
  | binInactive (input : Nat)
  /-- R411. PPS out falls PPS_WIDTH ms after it rose. -/
  | ppsWidthExpiry
  /-- R430. After 10 minutes of holdover with both oscillators failed, the PLLs lose their hold and links leave UP. -/
  | holdoverExpiry
  /-- R404. A host port that has not entered L1.2 within PWR_CFG.L12_WAIT ms refuses the STANDBY request with CAUSE 2. -/
  | l12WaitExpiry (port : Nat)
  /-- R406. Each host link reaching L1.2 lets the STANDBY entry sequence continue past step 3. -/
  | linkL12Entry (port : Nat)
  /-- R453. With both feeds lost, the bus falls below its hold-up and the module loses power, reaching STANDBY uncontrolled. -/
  | busHoldUpExpiry
  /-- R48. A read of a block page or mailbox end whose domain is off returns Completer Abort or a bus error and records an access error. -/
  | poweredDownPageRead (req : Requester) (addr : Nat)
  deriving DecidableEq, Repr

end Sys2Proof
end

