-- ==== Sys2Proof/Decode.lean ====
section
/-!
DEFINITION. The command that a word spells by the bits of spec/opcode_table.json.  No row of the table gives a command any bits
(each has "fields": []), so no word spells one (log entry 9).
-/

namespace Sys2Proof

/-- The command whose bits, numbered as the table numbers them, are `w`: none, for any word. -/
def decodeTableWord (_nbits _w : Nat) : Option Instr := none

end Sys2Proof
end

