-- ==== Sys2Proof/Machine/Operands.lean ====
section
/-!
DEFINITION. Operand forms: bit fields of numbers and words, sign extension, little- and big-endian byte sequences (R5),
and the CRC32C of R61.
-/

namespace Sys2Proof.Machine

/-- Bits [lo+w-1:lo] of `n`. -/
def bits (n lo w : Nat) : Nat := n / 2 ^ lo % 2 ^ w

/-- Bit `i` of `n`. -/
def bitAt (n i : Nat) : Bool := n / 2 ^ i % 2 == 1

/-- `n` with its bits [lo+w-1:lo] replaced by the low `w` bits of `v`. -/
def setBits (n lo w v : Nat) : Nat :=
  n % 2 ^ lo + v % 2 ^ w * 2 ^ lo + n / 2 ^ (lo + w) * 2 ^ (lo + w)

/-- `b` as a number. -/
def b2n (b : Bool) : Nat := if b then 1 else 0

/-- The low `w` bits of `n` read as a two's-complement number. -/
def signed (w n : Nat) : Int :=
  if n % 2 ^ w < 2 ^ (w - 1) then (n % 2 ^ w : Nat) else ((n % 2 ^ w : Nat) : Int) - (2 ^ w : Nat)

/-- The number that `bs` spells with its first byte least significant (R5). -/
def ofLe : List Byte → Nat
  | [] => 0
  | b :: bs => b.toNat + 256 * ofLe bs

/-- The `n` bytes of `v`, least significant first (R5). -/
def toLe : Nat → Nat → List Byte
  | 0, _ => []
  | n + 1, v => BitVec.ofNat 8 v :: toLe n (v / 256)

/-- The number that `bs` spells in network order (R5). -/
def ofBe (bs : List Byte) : Nat := bs.foldl (fun acc b => acc * 256 + b.toNat) 0

/-- The `n` bytes of `v` in network order (R5). -/
def toBe (n v : Nat) : List Byte := (toLe n v).reverse

/-- `n` bytes of `bs` from offset `o`; bytes past the end read 0. -/
def cut (bs : List Byte) (o n : Nat) : List Byte :=
  let part := (bs.drop o).take n
  part ++ List.replicate (n - part.length) 0

/-- Byte `i` of `bs`, 0 past the end. -/
def byteAt (bs : List Byte) (i : Nat) : Nat := (bs.getD i 0).toNat

/-- `bs` with `new` written over the bytes from offset `o` (bytes past the end of `bs` are not written). -/
def overwrite (bs : List Byte) (o : Nat) (new : List Byte) : List Byte :=
  bs.take o ++ new.take (bs.length - o) ++ bs.drop (o + new.length)

/-- Word `i` (little-endian) of an image held as a list of words; 0 past the end. -/
def wordAt (ws : List Word) (i : Nat) : Nat := (ws.getD i 0).toNat

/-- Word `i` of a byte image (little-endian). -/
def leWord (bs : List Byte) (i : Nat) : Nat := ofLe (cut bs (4 * i) 4)

/-- The bytes of a list of words, each little-endian. -/
def wordBytes (ws : List Word) : List Byte := ws.flatMap (fun w => toLe 4 w.toNat)

/-- The words of a byte image. -/
def bytesWords (n : Nat) (bs : List Byte) : List Word :=
  (List.range n).map (fun i => BitVec.ofNat 32 (leWord bs i))

/-- One bit step of the reflected CRC32C register (R61): polynomial 0x1EDC_6F41, reflected 0x82F6_3B78. -/
def crcShift : Nat → Word → Word
  | 0, c => c
  | n + 1, c => crcShift n (if c.getLsbD 0 then (c >>> 1) ^^^ 0x82F63B78#32 else c >>> 1)

/-- The CRC32C register after one byte (R61). -/
def crcByte (c : Word) (b : Byte) : Word := crcShift 8 (c ^^^ b.zeroExtend 32)

/-- The CRC32C register after `bs`, from register value `c` (R61). -/
def crcFeed (c : Word) (bs : List Byte) : Word := bs.foldl crcByte c

/-- The CRC32C of `bs`: initial value and final XOR of all ones (R61). -/
def crc32c (bs : List Byte) : Word := crcFeed 0xFFFFFFFF#32 bs ^^^ 0xFFFFFFFF#32

/-! ## Byte enables -/

/-- The bits of the enabled bytes (R29). -/
def byteMask (be : BitVec 4) : Nat := ((List.range 4).map (fun i => if be.getLsbD i then 0xFF * 2 ^ (8 * i) else 0)).sum

/-- `a` without the bits of `b`. -/
def without (a b : Nat) : Nat := a - (a &&& b)

/-- What a write of `v` under the enabled bits `m` makes of `old`: disabled bits keep their values (R29). -/
def merge (old v m : Nat) : Nat := without old m + (v &&& m)

end Sys2Proof.Machine
end

