-- ==== Sys2Proof/Machine/Edits.lean ====
section
/-!
DEFINITION. Edits of a packet's bytes (R140-R144, R146): the offset map through earlier edits of a pass, tags, SET, TTL,
decapsulation, encapsulation from a template, segmentation, and the checksums they fix.
-/

namespace Sys2Proof.Machine

/-- An edit that changed positions: at offset `pos`, `removed` bytes gave way to `inserted` bytes (R140). -/
structure Move where
  pos : Nat
  removed : Nat
  inserted : Nat
  deriving DecidableEq, Repr

/-- A packet under edit: the bytes before the received FCS, and the moves of this pass so far. -/
structure Edit where
  bytes : List Byte
  moves : List Move := []
  /-- The payload bytes of a segment (R146). -/
  payload : Option Nat := none
  deriving DecidableEq, Repr

/-- Why an edit drops the packet. -/
inductive EditFail where
  | range | ttl | seg
  deriving DecidableEq, Repr

/-- Where the byte at an offset of the packet as the gaffer saw it stands now; none when it was removed (R140). -/
def mapOffset : List Move → Nat → Option Nat
  | [], o => some o
  | m :: rest, o =>
    if o < m.pos then mapOffset rest o
    else if o < m.pos + m.removed then none
    else mapOffset rest (o - m.removed + m.inserted)

/-- The packet offset that two metadata bytes name (R136); the byte after the last reads 0. -/
def moff (md : List Byte) (m : Nat) : Nat := byteAt md m * 256 + byteAt md (m + 1)

/-- Replace `removed` bytes at `pos` by `new`. -/
def Edit.splice (e : Edit) (pos removed : Nat) (new : List Byte) : Edit :=
  { e with
    bytes := e.bytes.take pos ++ new ++ e.bytes.drop (pos + removed)
    moves := e.moves ++ [⟨pos, removed, new.length⟩] }

/-- Overwrite bytes in place. -/
def Edit.put (e : Edit) (pos : Nat) (new : List Byte) : Edit := { e with bytes := overwrite e.bytes pos new }

/-- The edited packet may be no longer than 262,400 bytes (R140). -/
def Edit.fits (e : Edit) : Option Edit := if e.bytes.length ≤ 262400 then some e else none

/-- The big-endian 16-bit number at an offset. -/
def be16 (bs : List Byte) (o : Nat) : Nat := byteAt bs o * 256 + byteAt bs (o + 1)

/-! ## Checksums -/

/-- Sum of the 16-bit words of `bs`; an odd last byte is padded with 0. -/
def sum16 : List Byte → Nat
  | [] => 0
  | [a] => a.toNat * 256
  | a :: b :: rest => a.toNat * 256 + b.toNat + sum16 rest

/-- The one's complement 16-bit value of a sum. -/
def fold16 (n : Nat) : Nat := if n = 0 then 0 else (n - 1) % 65535 + 1

/-- The Internet checksum of a sum. -/
def checksum16 (n : Nat) : Nat := 65535 - fold16 n

/-- A computed UDP checksum of 0 is sent as all ones (log entry 4). -/
def udpSum (c : Nat) : Nat := if c = 0 then 0xFFFF else c

/-- The IP version at an offset: 4 or 6 with room for the header, else 0. -/
def ipVersion (bs : List Byte) (o : Nat) : Nat :=
  let v := byteAt bs o / 16
  if v = 4 ∧ o + 20 ≤ bs.length ∧ 5 ≤ byteAt bs o % 16 ∧ o + 4 * (byteAt bs o % 16) ≤ bs.length then 4
  else if v = 6 ∧ o + 40 ≤ bs.length then 6 else 0

/-- Length of the IP header at an offset. -/
def ipLen (bs : List Byte) (o : Nat) : Nat := if ipVersion bs o = 4 then 4 * (byteAt bs o % 16) else 40

/-- The protocol or next header field. -/
def ipProto (bs : List Byte) (o : Nat) : Nat := if ipVersion bs o = 4 then byteAt bs (o + 9) else byteAt bs (o + 6)

/-- The bytes with the IPv4 header checksum at `o` recomputed; unchanged when no IPv4 header is there (R141). -/
def fixIp4 (bs : List Byte) (o : Nat) : List Byte :=
  if ipVersion bs o ≠ 4 then bs
  else
    let zeroed := overwrite bs (o + 10) [0, 0]
    overwrite bs (o + 10) (toBe 2 (checksum16 (sum16 (cut zeroed o (ipLen bs o)))))

/-- Sum of the pseudo-header of the IP header at `o` for `len` bytes of protocol `proto`. -/
def pseudoSum (bs : List Byte) (o proto len : Nat) : Nat :=
  (if ipVersion bs o = 4 then sum16 (cut bs (o + 12) 8) else sum16 (cut bs (o + 8) 32)) + proto + len

/-- Offset of the checksum in a TCP or UDP header. -/
def l4SumAt (proto : Nat) : Nat := if proto = 6 then 16 else 6

/-- Update a TCP or UDP checksum incrementally (RFC 1624) for words of `old` that became `new`; the IP header is at `base`.
A UDP checksum of 0 stays 0 (R141). -/
def updateL4 (bs : List Byte) (base : Nat) (old new : List Byte) : List Byte :=
  let proto := ipProto bs base
  let at_ := base + ipLen bs base + l4SumAt proto
  if bs.length < at_ + 2 ∨ (proto = 17 ∧ be16 bs at_ = 0) then bs
  else
    let c := checksum16 ((65535 - be16 bs at_) + (65535 - fold16 (sum16 old)) + sum16 new)
    overwrite bs at_ (toBe 2 (if proto = 17 then udpSum c else c))

/-! ## SET and TTL_DEC (R136, R141) -/

/-- The positions of `n` bytes from packet offset `o`, all present in the packet. -/
def Edit.positions (e : Edit) (o n : Nat) : Option (List Nat) :=
  let ps := (List.range n).map (fun i => mapOffset e.moves (o + i))
  if ps.all (fun p => match p with | some q => decide (q < e.bytes.length) | none => false) then some (ps.filterMap id) else none

/-- Write one byte at each position. -/
def putAt (bs : List Byte) : List Nat → List Byte → List Byte
  | p :: ps, b :: rest => putAt (overwrite bs p [b]) ps rest
  | _, _ => bs

/-- The 16-bit words, counted from `base`, that hold a position. -/
def wordsAt (bs : List Byte) (base : Nat) (ps : List Nat) : List Byte :=
  ((ps.map (fun p => (p - base) / 2)).dedup).flatMap (fun w => [bs.getD (base + 2 * w) 0, bs.getD (base + 2 * w + 1) 0])

/-- Whether a position lies in the addresses of the IP header at `base`, or beyond that header. -/
def inPseudo (bs : List Byte) (base p : Nat) : Bool :=
  let a := if ipVersion bs base = 4 then base + 12 else base + 8
  let n := if ipVersion bs base = 4 then 8 else 32
  (decide (a ≤ p) && decide (p < a + n)) || decide (base + ipLen bs base ≤ p)

/-- SET with its operand, value and the packet's metadata (R136, R141).  An offset from metadata is mapped through the earlier edits;
base 0 of BASE 0x7F is not from metadata, so OFF is an offset of the packet as it stands (R140).  With CSUM the header at BASE is
needed too, so a removed one is EDIT_RANGE (R140); where BASE names no IP header, no checksum is fixed (log entry 20). -/
def Edit.set (e : Edit) (md : List Byte) (x value : Nat) : Except EditFail Edit :=
  let base := bits x 14 7
  let b := if base = 0x7F then 0 else moff md base
  let moves := if base = 0x7F then [] else e.moves
  let n := 2 ^ bits x 3 2
  match { e with moves := moves }.positions (b + bits x 5 9) n with
  | none => .error .range
  | some ps =>
    let new := putAt e.bytes ps (toBe n value)
    let e1 := { e with bytes := new }
    if !bitAt x 2 then .ok e1
    else
      match mapOffset moves b with
      | none => .error .range
      | some o =>
        if ipVersion e.bytes o = 0 ∨ ipVersion new o = 0 then .ok e1
        else
          let proto := ipProto new o
          let l4 := if (proto = 6 ∨ proto = 17) ∧ ps.any (inPseudo e.bytes o) then
              updateL4 new o (wordsAt e.bytes o ps) (wordsAt new o ps)
            else new
          .ok { e with bytes := fixIp4 l4 o }

/-- TTL_DEC (R141). -/
def Edit.ttlDec (e : Edit) (md : List Byte) (x : Nat) : Except EditFail Edit :=
  match mapOffset e.moves (moff md (bits x 14 7)) with
  | none => .error .range
  | some o =>
    let v := ipVersion e.bytes o
    if v = 0 then .error .range
    else
      let at_ := if v = 4 then o + 8 else o + 7
      if byteAt e.bytes at_ ≤ 1 then .error .ttl
      else .ok { e with bytes := fixIp4 (overwrite e.bytes at_ (toBe 1 (byteAt e.bytes at_ - 1))) o }

/-! ## Tags (R140) -/

def isTpid (n : Nat) : Bool := n == 0x8100 || n == 0x88A8

/-- TAG_PUSH: the tag is inserted at offset 12. -/
def Edit.tagPush (e : Edit) (x : Nat) : Except EditFail Edit :=
  if e.bytes.length < 12 then .error .range
  else
    match (e.splice 12 0 (toBe 2 (if bitAt x 20 then 0x88A8 else 0x8100) ++ toBe 2 (bits x 0 16))).fits with
    | some e1 => .ok e1
    | none => .error .range

/-- TAG_POP of one tag: whether one was there, and the packet after it. -/
def Edit.popOne (e : Edit) : Except EditFail (Bool × Edit) :=
  if !isTpid (be16 e.bytes 12) ∨ e.bytes.length < 14 then .ok (false, e)
  else if e.bytes.length < 16 then .error .range
  else .ok (true, e.splice 12 4 [])

/-- TAG_POP, COUNT times: whether any tag was removed. -/
def Edit.tagPop (e : Edit) : Nat → Except EditFail (Bool × Edit)
  | 0 => .ok (false, e)
  | n + 1 =>
    match e.popOne with
    | .error r => .error r
    | .ok (false, e1) => .ok (false, e1)
    | .ok (true, e1) =>
      match e1.tagPop n with
      | .error r => .error r
      | .ok (_, e2) => .ok (true, e2)

/-! ## Decapsulation (R144) -/

/-- The ECN field of the IP header at an offset. -/
def ecnOf (bs : List Byte) (o : Nat) : Nat :=
  if ipVersion bs o = 4 then byteAt bs (o + 1) % 4 else byteAt bs (o + 1) / 16 % 4

/-- Set the ECN field and fix the header checksum. -/
def setEcn (bs : List Byte) (o v : Nat) : List Byte :=
  if ipVersion bs o = 4 then fixIp4 (overwrite bs (o + 1) (toBe 1 (byteAt bs (o + 1) / 4 * 4 + v))) o
  else overwrite bs (o + 1) (toBe 1 (setBits (byteAt bs (o + 1)) 4 2 v))

/-- The kept inner IP header: at KEEP in MODE 1, behind an untagged Ethernet header at KEEP in MODE 0 (log entry 20). -/
def innerIp (bs : List Byte) (mode1 : Bool) (keep : Nat) : Option Nat :=
  let o := if mode1 then keep else keep + 14
  let typed := mode1 || be16 bs (keep + 12) == 0x0800 || be16 bs (keep + 12) == 0x86DD
  if typed ∧ ipVersion bs o ≠ 0 then some o else none

/-- The normal mode of RFC 6040 on decapsulation, with the outer ECN field and the inner header's offset (R144): an outer CE marks
an inner ECT(0) or ECT(1), and is counted over an inner Not-ECT; an outer ECT(1) replaces an inner ECT(0). -/
def decapEcn (bs : List Byte) (outer o : Nat) : Bool × List Byte :=
  let inner := ecnOf bs o
  if outer = 3 then
    if inner = 0 then (true, bs) else if inner = 3 then (false, bs) else (false, setEcn bs o 3)
  else if outer = 1 ∧ inner = 2 then (false, setEcn bs o 1)
  else (false, bs)

/-- DECAP: the packet after it, and whether an outer CE met an inner Not-ECT. -/
def Edit.decap (e : Edit) (md : List Byte) (x : Nat) : Except EditFail (Bool × Edit) :=
  let mode1 := bitAt x 20
  match mapOffset e.moves (moff md (bits x 13 7)), mapOffset e.moves (moff md (bits x 6 7)) with
  | some keep, some l3 =>
    if keep ≤ l3 ∨ e.bytes.length ≤ keep then .error .range
    else
      let version := byteAt e.bytes keep / 16
      if mode1 ∧ ((version ≠ 4 ∧ version ≠ 6) ∨ l3 < 2) then .error .range
      else
        let outer := if ipVersion e.bytes l3 = 0 then 0 else ecnOf e.bytes l3
        let r := match innerIp e.bytes mode1 keep with
          | some o => decapEcn e.bytes outer o
          | none => (false, e.bytes)
        let e1 := { e with bytes := r.2 }
        if mode1 then
          .ok (r.1, (e1.splice l3 (keep - l3) []).put (l3 - 2) (toBe 2 (if version = 4 then 0x0800 else 0x86DD)))
        else .ok (r.1, e1.splice 0 keep [])
  | _, _ => .error .range

/-! ## Encapsulation (R142, R143) -/

/-- A template: its descriptor words and header bytes. -/
structure Template where
  words : List Nat
  bytes : List Byte
  deriving DecidableEq, Repr

def Template.len (t : Template) : Nat := bits (t.words.getD 0 0) 0 8
def Template.tun (t : Template) : Nat := bits (t.words.getD 0 0) 8 3
def Template.v6 (t : Template) : Bool := bitAt (t.words.getD 0 0) 11
def Template.replaces (t : Template) : Bool := bitAt (t.words.getD 0 0) 12
def Template.udpCsum (t : Template) : Bool := bitAt (t.words.getD 0 0) 13
def Template.keepId (t : Template) : Bool := bitAt (t.words.getD 0 0) 14
def Template.copyTos (t : Template) : Bool := bitAt (t.words.getD 0 0) 15
def Template.l3 (t : Template) : Nat := bits (t.words.getD 0 0) 16 8
def Template.l4 (t : Template) : Nat := bits (t.words.getD 0 0) 24 8
def Template.hashMoff (t : Template) : Nat := bits (t.words.getD 1 0) 0 7
/-- The template has an outer IP header: always under a tunnel, and under TUN 0 when an offset is given. -/
def Template.hasIp (t : Template) : Bool := t.tun != 0 || t.l3 != 0 || t.l4 != 0
def Template.ipBytes (t : Template) : Nat := if t.v6 then 40 else 20

/-- A template that is not absent (R142): valid, with LEN, TUN and offsets in range. -/
def Template.good (t : Template) : Bool :=
  bitAt (t.words.getD 15 0) 31 && decide (14 ≤ t.len) && decide (t.len ≤ 128) && decide (t.tun ≤ 5)
    && (!t.hasIp || decide (t.l3 + t.ipBytes ≤ t.len))
    && (t.l4 == 0 || (decide (t.l3 + t.ipBytes ≤ t.l4) && decide (t.l4 + (if t.tun = 3 then 4 else 8) ≤ t.len)))
    && decide (t.hashMoff ≤ 124)

/-- DSCP and ECN of the IP header at an offset, as one byte. -/
def tosOf (bs : List Byte) (o : Nat) : Nat :=
  if ipVersion bs o = 4 then byteAt bs (o + 1) else byteAt bs o % 16 * 16 + byteAt bs (o + 1) / 16

/-- Write DSCP and ECN into an outer IP header. -/
def putTos (bs : List Byte) (o : Nat) (v6 : Bool) (tos : Nat) : List Byte :=
  if v6 then overwrite bs o (toBe 2 (byteAt bs o / 16 * 4096 + tos * 16 + byteAt bs (o + 1) % 16))
  else overwrite bs (o + 1) (toBe 1 tos)

/-- The fields of R143 written into the new outer headers of `bs`; `inner` is the byte of DSCP and ECN to copy, `ident` the
next identification. -/
def Template.finish (t : Template) (md bs : List Byte) (inner : Option Nat) (ident : Nat) : List Byte :=
  if !t.hasIp then bs
  else
    let hash := ofBe (cut md t.hashMoff 4)
    let total := bs.length - t.l3
    let b1 := match t.copyTos, inner with
      | true, some tos => putTos bs t.l3 t.v6 tos
      | _, _ => bs
    let b2 := if t.v6 then overwrite b1 (t.l3 + 4) (toBe 2 (total - 40)) else overwrite b1 (t.l3 + 2) (toBe 2 total)
    let b3 := if t.v6 ∨ t.keepId then b2 else overwrite b2 (t.l3 + 4) (toBe 2 ident)
    let proto := if t.v6 then byteAt b3 (t.l3 + 6) else byteAt b3 (t.l3 + 9)
    let b4 := if t.tun = 4 ∧ t.l4 ≠ 0 then overwrite b3 (t.l4 + 7) (toBe 1 hash) else b3
    let b5 := if t.l4 = 0 ∨ proto ≠ 17 then b4
      else
        let len := bs.length - t.l4
        let port := bits (t.words.getD 2 0) 0 16 ||| (hash % 65536 &&& bits (t.words.getD 2 0) 16 16)
        let u := overwrite (overwrite (overwrite b4 t.l4 (toBe 2 port)) (t.l4 + 4) (toBe 2 len)) (t.l4 + 6) [0, 0]
        if t.udpCsum then
          overwrite u (t.l4 + 6) (toBe 2 (udpSum (checksum16 (pseudoSum u t.l3 17 len + sum16 (u.drop t.l4)))))
        else u
    if t.v6 then b5 else fixIp4 b5 t.l3

/-- ENCAP (R142, R143): `l3` is the packet's L3 offset now, when it is there. -/
def Edit.encap (e : Edit) (t : Template) (md : List Byte) (l3 : Option Nat) (prepend : Bool) (ident : Nat) :
    Except EditFail Edit :=
  let inner := match l3 with
    | some o => if ipVersion e.bytes o = 0 then none else some (tosOf e.bytes o)
    | none => none
  let cutAt := if t.replaces ∧ !prepend then l3 else some 0
  match cutAt with
  | none => .error .range
  | some n =>
    if e.bytes.length < n then .error .range
    else
      let e1 := e.splice 0 n (t.bytes.take t.len)
      match e1.fits with
      | none => .error .range
      | some e2 => .ok { e2 with bytes := t.finish md e2.bytes inner ident }

/-! ## Segmentation (R146) -/

/-- The headers SEGMENT works on: IP header offset, L4 offset, end of the headers; none when they are not what R146 asks. -/
def segHeaders (bs : List Byte) (l3 : Nat) (udp : Bool) : Option (Nat × Nat) :=
  let proto := if udp then 17 else 6
  if ipVersion bs l3 = 0 ∨ ipProto bs l3 ≠ proto then none
  else
    let l4 := l3 + ipLen bs l3
    let fin := if udp then l4 + 8 else l4 + 4 * (byteAt bs (l4 + 12) / 16)
    if bs.length < fin ∨ fin < l4 + (if udp then 8 else 20) ∨ 512 < fin then none else some (l4, fin)

/-- Segment `i` of a packet (R146). -/
def segmentBytes (bs : List Byte) (l3 l4 fin mss i count : Nat) (udp : Bool) : List Byte :=
  let part := (bs.drop (fin + i * mss)).take mss
  let s0 := bs.take fin ++ part
  let total := s0.length - l3
  let s1 := if ipVersion bs l3 = 4 then
      fixIp4 (overwrite (overwrite s0 (l3 + 2) (toBe 2 total)) (l3 + 4) (toBe 2 (be16 bs (l3 + 4) + i))) l3
    else overwrite s0 (l3 + 4) (toBe 2 (total - 40))
  let len := s1.length - l4
  if udp then
    let u := overwrite s1 (l4 + 4) (toBe 2 len)
    if be16 bs (l4 + 6) = 0 then u
    else
      let z := overwrite u (l4 + 6) [0, 0]
      overwrite z (l4 + 6) (toBe 2 (udpSum (checksum16 (pseudoSum z l3 17 len + sum16 (z.drop l4)))))
  else
    let f0 := byteAt bs (l4 + 13)
    let f1 := if i + 1 = count then f0 else setBits (setBits f0 0 1 0) 3 1 0
    let f2 := if i = 0 then f1 else setBits f1 7 1 0
    let t := overwrite (overwrite (overwrite s1 (l4 + 4) (toBe 4 (ofBe (cut bs (l4 + 4) 4) + i * mss))) (l4 + 13) (toBe 1 f2))
      (l4 + 16) [0, 0]
    overwrite t (l4 + 16) (toBe 2 (checksum16 (pseudoSum t l3 6 len + sum16 (t.drop l4))))

/-- SEGMENT with an MSS: none when it is skipped. -/
def Edit.segment (e : Edit) (l3 : Option Nat) (udp : Bool) (mss : Nat) : Except EditFail (Option (List Edit)) :=
  if mss = 0 then .ok none
  else
    match l3 with
    | none => .error .range
    | some o =>
      match segHeaders e.bytes o udp with
      | none => .error .seg
      | some (l4, fin) =>
        let n := e.bytes.length - fin
        let count := (n + mss - 1) / mss
        if n ≤ mss then .ok none
        else if 4096 < count then .error .seg
        else .ok (some ((List.range count).map (fun i => { e with
          bytes := segmentBytes e.bytes o l4 fin mss i count udp, payload := some (min mss (n - i * mss)) })))

/-- The new cells that an edited segment's headers take; 0 for a packet that was not segmented (R146). -/
def Edit.heads (e : Edit) : Nat :=
  match e.payload with
  | none => 0
  | some n => (e.bytes.length - n + 255) / 256

end Sys2Proof.Machine
end

