-- ==== Sys2Proof/Machine/State.lean ====
section
/-!
DEFINITION. The state of the Y1600 as plain data: register space, wide values, memories, the state of every block,
the outputs an observer sees, and the queue of waiting commands.  A list of (key, value) pairs named `… : List (Nat × α)`
is a table in canonical form: keys strictly rising, no entry equal to the table's default (Machine/Store.lean).
-/

namespace Sys2Proof.Machine

/-- Nothing in this model stops with a fault: the spec's faults are latched in registers (R36), reported in completion
codes (R7) and journaled (R437), and the block goes on.  The type has one constructor so that a later stop has a name. -/
inductive Fault where
  /-- Raised by no meaning (safe). -/
  | unreachable
  deriving DecidableEq, Repr

/-- Why a command is refused. -/
inductive Refusal where
  /-- Raised by `exec` for a command without a meaning (safe). -/
  | notModelled (mnemonic : String)
  deriving DecidableEq, Repr

/-- What a request to the host carries (R274, R281, R285, R290, R291): the requesting function, its PASID, Relaxed Ordering,
No-Snoop, a translated address, and the bound selective stream, on which the T bit is set. -/
structure ReqAttr where
  pf : Nat := 0
  pasid : Option Nat := none
  relaxed : Bool := false
  noSnoop : Bool := false
  translated : Bool := false
  stream : Option Nat := none
  deriving DecidableEq, Repr

/-- What a MAC sends beside its frames (R255): nothing (DISABLED), idles only, remote fault, or frames and idles. -/
inductive LineSignal where
  | off
  | idle
  | remoteFault
  | traffic
  deriving DecidableEq, Repr

/-- What leaves the adapter, in order of emission. -/
inductive Output where
  /-- What a MAC sends between frames, or instead of them, has changed (R255). -/
  | signal (mac : Nat) (s : LineSignal)
  /-- A transaction on a cage's two-wire bus starts: cage, device address, read, byte address, byte written (R265). -/
  | twi (cage device : Nat) (read : Bool) (addr data : Nat)
  /-- The answer to a read of a register or window (R29, R46, R48, R279). -/
  | readData (value : Word)
  /-- Completer Abort (host) or bus error (firmware) for a powered-down page (R48). -/
  | abort (write : Bool)
  /-- Unsupported Request (R279). -/
  | unsupported
  /-- A PF0 MSI-X message: host port, vector, address, data (R286). -/
  | msix (port vector addr data : Nat)
  /-- A slice interrupt message: host port, slice, address, data, attributes (R285, R289). -/
  | sliceIrq (port slice addr data : Nat) (attr : ReqAttr)
  /-- A write to host memory: port, address, bytes, attributes (R290, R291). -/
  | hostWrite (port addr : Nat) (bytes : List Byte) (attr : ReqAttr)
  /-- A read of host memory: port, address, length, attributes (R276, R290). -/
  | hostRead (port addr len : Nat) (attr : ReqAttr)
  /-- A frame (or flow-control frame) on a wire: MAC, bytes, good FCS (R258, R259). -/
  | wire (mac : Nat) (bytes : List Byte) (fcsOk : Bool)
  /-- A TCP segment or a control segment of a storage session (R225, R239-R242): session, kind, bytes. -/
  | tcp (session kind : Nat) (bytes : List Byte)
  /-- A response of Welbor or firmware to a requester: channel, code, bytes (R380, R392). -/
  | response (channel code : Nat) (bytes : List Byte)
  /-- An SPDM, TDISP, IDE_KM or MCTP response: transport, code, bytes (R376, R377). -/
  | spdm (via : Transport) (code : Nat) (bytes : List Byte)
  /-- A PCIe message other than the above: kind, port, argument (R282, R283, R295): 1 Page Request, 2 Invalidation Completion,
  3 Translation Request, 4 ERR_COR, 5 ERR_NONFATAL, 6 ERR_FATAL. -/
  | pcie (kind port arg : Nat)
  deriving DecidableEq, Repr

/-! ## Board inputs, movers, journal, power and time (chapters 14, 15, 17, 18, 19) -/

/-- A board input (R364, R365): its conditioned level, the time of the last accepted activation, whether the stuck
timer runs, and whether it must be seen inactive before it fires again. -/
structure BinState where
  active : Bool := false
  lastAccepted : Option Nat := none
  timing : Bool := false
  needsInactive : Bool := false
  deriving DecidableEq, Repr

/-- What a mover holds of the descriptor in progress (R342, R345).  BLP_STAT, BLP_CUR, BLP_REMAIN and BLP_DESC_CNT are
registers. -/
structure MoverState where
  /-- A descriptor has been fetched and its last burst has not issued. -/
  fetched : Bool := false
  src : Nat := 0
  dst : Nat := 0
  len : Nat := 0
  control : Nat := 0
  nextWord : Nat := 0
  /-- Address (with SPACE in bit 0) of the descriptor to fetch next. -/
  nextDesc : Nat := 0
  /-- Descriptors whose last burst has issued and whose writes are not yet acknowledged: END, PULSE (R349). -/
  acks : List (Bool × Bool) := []
  /-- The manager-firmware channel whose MOVE request firmware runs on this mover (R392). -/
  move : Option Nat := none
  deriving DecidableEq, Repr

/-- A fault record before it gets its SEQ (R437). -/
structure FaultRecord where
  typ : Nat := 0
  inst : Nat := 0
  kind : Nat := 0
  cls : Nat := 0
  work : Nat := 0
  outcome : Nat := 0
  ident : Nat := 0
  done : Nat := 0
  touched : Nat := 0
  owner : Nat := 0
  detail : List Nat := []
  /-- PTP time at detection: seconds, nanoseconds, COARSE. -/
  sec : Nat := 0
  ns : Nat := 0
  coarse : Nat := 0
  deriving DecidableEq, Repr

/-- The journal (R437-R440): writer queue, suppressed counts by kind 1-4 since the last SUPPRESSED record, MRAM slots
and counts of records accepted and written. -/
structure Journal where
  queue : List FaultRecord := []
  waiting : List FaultRecord := []
  suppressed : List Nat := [0, 0, 0, 0]
  mram : List (Nat × List Word) := []
  seq : Nat := 0
  accepted : Nat := 0
  written : Nat := 0
  deriving DecidableEq, Repr

/-- What a front-panel LED shows (R460). -/
inductive Led where
  | dark | green | amber | flashing
  deriving DecidableEq, Repr

/-- Power states (R400); OFF is the absence of 3.3Vaux. -/
inductive PowerState where
  | run | lean | doze | standby | off
  deriving DecidableEq, Repr

/-- What PWR runs (R404, R406, R409): nothing, a move among RUN, LEAN and DOZE, the STANDBY entry at a step, or the
STANDBY exit at a step. -/
inductive Transition where
  | none
  | move (target : PowerState)
  | entry (step : Nat)
  | exit (step : Nat)
  deriving DecidableEq, Repr

/-- PWR and the board supplies (R399-R410, R451-R464). -/
structure Power where
  state : PowerState := .standby
  trans : Transition := .none
  /-- Bit d: domain d is on (R399). -/
  domains : Nat := 0
  /-- Bit n: GAF (LEH) cluster n is gated (R402). -/
  gafGated : Nat := 0
  lehGated : Nat := 0
  /-- Microseconds for which each GAF (LEH) cluster has been without busy contexts (cells). -/
  gafIdle : List (Nat × Nat) := []
  lehIdle : List (Nat × Nat) := []
  vaux : Bool := true
  feedA : Bool := false
  feedB : Bool := false
  bothLost : Bool := false
  busHoldUp : Bool := false
  tripped : Bool := false
  /-- A wake request latched during entry: kind and source (R408). -/
  wakeLatched : Option (Nat × Nat) := Option.none
  wakeFailed : Bool := false
  /-- Attempts made in the current exit step with the unit in use, and whether the alternate is in use (R409). -/
  attempts : Nat := 0
  alternate : Bool := false
  padHeld : Nat := 0
  /-- Levels that AON sampled when it latched a pad group (R407): the cages' control pads as CAGE_CTL bits [2:0], PPS out, and the
  LEDs of cage 0, cage 1 and the module. -/
  padCage : List (Nat × Nat) := []
  padPps : Bool := false
  padLeds : List Led := []
  /-- The address of a held demand access to GDDR6 group 1 (R403). -/
  demand : Option Nat := Option.none
  /-- Host ports that have reached L1.2 during the entry. -/
  l12 : Nat := 0
  alert : Bool := false
  /-- Bit n: PERST# of host port n is asserted. -/
  perst : Nat := 3
  /-- The wake request that started the last exit (R408). -/
  causeKind : Nat := 5
  causeSource : Nat := 0
  replayed : Bool := false
  /-- Firmware has sent FW_READY since it was last started (R466). -/
  ready : Bool := false
  /-- RST has released Welbor (R416). -/
  welborReleased : Bool := false
  /-- GDDR6 contents were retained through the last STANDBY (R405, R466), and the SRAM banks that were (R405). -/
  warm : Bool := false
  kept : List Nat := []
  deriving DecidableEq, Repr

/-- The entry record of TIM (R413): PTP time, AON count, source, recorded frequencies. -/
structure EntryRecord where
  sec : Nat := 0
  ns : Nat := 0
  frac : Nat := 0
  count : Nat := 0
  source : Nat := 0
  freq0 : Nat := 0
  freq1 : Nat := 0
  deriving DecidableEq, Repr

/-- TIM (R411-R414): the PTP clock (with the sub-unit remainder of its rate adjustment), the AON counter and its source. -/
structure Time where
  sec : Nat := 0
  ns : Nat := 0
  frac : Nat := 0
  rest : Nat := 0
  aonCount : Nat := 0
  slowRc : Bool := false
  /-- The AON count at which the slow clock switched to the RC oscillator. -/
  switchedAt : Option Nat := none
  record : Option EntryRecord := none
  ppsOut : Bool := false
  refLost : Bool := false
  deriving DecidableEq, Repr

/-- What SVC runs beside its SVC_PUNTY registers (R433), per punty type 0-4: during RETURN, new work already goes back to
the unit; the punty itself has failed (R436). -/
structure Punty where
  switchedBack : Bool := false
  failed : Bool := false
  deriving DecidableEq, Repr

/-- Fault tolerance (R425-R443): times of recent rebuilds per device, oscillators, shed phases,
pair work, SRAM row errors and spares, island supplies and margins. -/
structure FaultTol where
  /-- State of each GDDR6 device: 0 ACTIVE, 1 SELF_REFRESH, 2 FAILED (R446). -/
  memState : List (Nat × Nat) := []
  rebuilds : List (Nat × List Nat) := []
  /-- 64-byte lines of GDDR6 and of the on-die store that cannot be read correctly (R425, R88). -/
  uncorrectable : List Nat := []
  dieUncorrectable : List Nat := []
  osc0Failed : Bool := false
  osc1Failed : Bool := false
  oscUsed : Nat := 0
  holdover : Bool := false
  shed : List (Nat × Nat) := []
  rowErrors : List (Nat × List Nat) := []
  sparesUsed : List (Nat × Nat) := []
  spared : List Nat := []
  supply : List (Nat × Nat) := []
  margin : List (Nat × Nat) := []
  punty : List (Nat × Punty) := []
  /-- Units that stay fenced with no stand-in (R424): punty type × 256 + number. -/
  fenced : List Nat := []
  /-- Parity scans and rechecks that run (R41, R42): page and the time at which each ends; 0: none. -/
  scans : List (Nat × Nat) := []
  /-- A record of class 3 or above has been written since reset (R460). -/
  degraded : Bool := false
  deriving DecidableEq, Repr

/-- A CPX pair (R294, R350, R428, R429): stores waiting in its write buffer (address with space in bit 40, bytes), cached
lines of GDDR6 and on-die store. -/
structure CpxPair where
  buffer : List (Nat × List Byte) := []
  cache : List Nat := []
  deriving DecidableEq, Repr

/-! ## Host link, slices and queues (chapters 11, 12, 13) -/

/-- An MSI-X table entry (R286). -/
structure MsixEntry where
  addr : Nat := 0
  data : Nat := 0
  masked : Bool := true
  pending : Bool := false
  deriving DecidableEq, Repr

/-- State of an IDE stream (R284). -/
inductive IdeState where
  | unconfigured | keyed | secure | insecure
  deriving DecidableEq, Repr

/-- A cached translation (R282): function 0 or 1, PASID, page address (4 KiB units). -/
structure Translation where
  pf : Nat
  pasid : Nat
  page : Nat
  deriving DecidableEq, Repr

/-- The Advanced Error Reporting registers of a function (R280, R295): uncorrectable status, mask and severity, correctable status
and mask, the first error and its header. -/
structure Aer where
  unc : Nat := 0
  uncMask : Nat := 0x400000
  uncSev : Nat := 0x462030
  cor : Nat := 0
  corMask : Nat := 0xE000
  first : Option Nat := none
  header : List Nat := []
  deriving DecidableEq, Repr

/-- What configuration space holds of a function (R274, R277, R280): power state, Device Control, BAR addresses, the enables of ATS,
Page Request and PASID, ACS control, AER; and the next page request group. -/
structure PciFunction where
  d3 : Bool := false
  control : Nat := 0x2810
  bars : List Nat := [0, 0, 0]
  ats : Bool := false
  pri : Bool := false
  pasid : Bool := false
  acs : Nat := 0
  aer : Aer := {}
  nextGroup : Nat := 0
  deriving DecidableEq, Repr

/-- An invalidation whose completion has not been sent (R282): function, PASID, the first of its 2^log2 pages, and the reads
issued under a matching entry that have not completed, each with the index that tells it from a later one. -/
structure Invalidation where
  pf : Nat
  pasid : Nat
  page : Nat
  log2 : Nat := 0
  reads : List (ReadTarget × Nat) := []
  deriving DecidableEq, Repr

/-- A host port (R274-R297). -/
structure HostPort where
  linkUp : Bool := false
  speed : Nat := 0
  width : Nat := 0
  flit : Bool := false
  pf0 : PciFunction := {}
  pf1 : PciFunction := {}
  msix : List (Nat × MsixEntry) := []
  functionMask : Bool := false
  atc : List Translation := []
  /-- Invalidations whose completion has not been sent. -/
  invalidations : List Invalidation := []
  /-- Page requests waiting for a response: group (PF1's count from 512) and the read they hold. -/
  pageRequests : List (Nat × ReadTarget) := []
  ide : List (Nat × IdeState) := []
  l1 : Bool := false
  deriving DecidableEq, Repr

/-- A SerDes lane (R271): clock recovered, signal detected, receive SNR; PCS_LANEj_STAT holds their slow copy (R38). -/
structure Lane where
  lock : Bool := false
  signal : Bool := false
  snr : Nat := 0
  deriving DecidableEq, Repr

/-- A slice interrupt entry (R287). -/
structure SitEntry where
  addr : Nat := 0
  data : Nat := 0
  incarnation : Nat := 0
  valid : Bool := false
  pending : Bool := false
  mask : Bool := true
  deriving DecidableEq, Repr

/-- Slice states (R299). -/
inductive SliceState where
  | free | active | destroying | quarantine
  deriving DecidableEq, Repr

/-- TDISP states of a slice's TDI (R285, R313). -/
inductive TdiState where
  | unlocked | locked | run | error
  deriving DecidableEq, Repr

/-- Wire counters of a slice (R261): transmitted and received frames and bytes. -/
structure WireCounters where
  txf : Nat := 0
  txb : Nat := 0
  rxf : Nat := 0
  rxb : Nat := 0
  deriving DecidableEq, Repr

/-- A slice (R299-R315).  `charter` holds words 0-31 of the image ([] when never created). -/
structure Slice where
  state : SliceState := .free
  tdi : TdiState := .unlocked
  stream : Option Nat := none
  incarnation : Nat := 0
  charter : List Word := []
  inflight : Nat := 0
  tblUsed : Nat := 0
  keyUsed : Nat := 0
  queuesUsed : Nat := 0
  keysRetired : Bool := false
  firmwareDone : Bool := false
  /-- The time of DESTROY (R309). -/
  destroyedAt : Nat := 0
  mgrWire : WireCounters := {}
  tenantWire : WireCounters := {}
  /-- Latched _HI words (R313). -/
  hiLatch : WireCounters := {}
  /-- Welbor's log (R302): DIGEST, CHAIN, the last 16 images. -/
  digest : List Byte := []
  chain : List Byte := []
  images : List (List Word) := []
  deriving DecidableEq, Repr

/-- Queue states (R320). -/
inductive QueueState where
  | free | idle | run | error | stopping | halted | resetting
  deriving DecidableEq, Repr

/-- A completion before PHASE is known (R332): its eight words, the stamps it carries (R334) and the count of journal
records that must be in MRAM before it (R439). -/
structure Completion where
  words : List Nat
  qgen : Nat
  incarnation : Nat
  journal : Nat := 0
  /-- It reports a copy that arrived from a MAC (R261). -/
  fromWire : Bool := false
  deriving DecidableEq, Repr

/-- A fetched work entry whose completion has not been produced (R326-R328). -/
structure QueueEntry where
  index : Nat
  opcode : Nat
  head : List Byte
  frags : List (Nat × Nat)
  qgen : Nat
  incarnation : Nat
  /-- Work on it has begun. -/
  started : Bool := false
  /-- Progress that an ABORTED completion states (LEN, OUT_LEN, or DONE of a storage entry), and TOUCHED. -/
  progress : Nat := 0
  touched : Nat := 0
  /-- The entry has ended with these words; it waits for its turn in ring order. -/
  ended : Option (List Nat) := none
  /-- Journal records that must reach MRAM before its completion. -/
  journal : Nat := 0
  fromWire : Bool := false
  /-- It has been counted as waiting for cells (R161). -/
  counted : Bool := false
  /-- A RECV entry has been posted (R330); a storage entry has passed the checks of R231. -/
  accepted : Bool := false
  /-- The first failure of a storage entry, code and DETAIL, and when it was detected (R8, R236). -/
  failure : Option (Nat × Nat) := none
  failedAt : Nat := 0
  /-- NVMe status of the first failed CapsuleResp of a storage entry (R227). -/
  nvme : Nat := 0
  /-- NBUF that an ABORTED receive completion states (R327, R332). -/
  nbuf : Nat := 0
  /-- The job descriptor of a CIPHER entry, as read when the entry was fetched (R331). -/
  desc : List Byte := []
  deriving DecidableEq, Repr

/-- A frame being placed (R330): its copy, the bytes without FCS, the first entry used and the number used, the bytes placed,
whether the hold timer runs, the receive time, and the USER_TAG of the rule of its final pass. -/
structure Placement where
  copy : Nat
  bytes : List Byte
  first : Option Nat := none
  used : Nat := 0
  placed : Nat := 0
  hold : Bool := false
  fromWire : Bool := false
  time : Option (Nat × Nat × Nat) := none
  tag : Nat := 0
  deriving DecidableEq, Repr

/-- What QUE holds on-die of a queue (R319, R320, R322, R326-R330). -/
structure Queue where
  state : QueueState := .free
  qgen : Nat := 0
  errIdx : Nat := 0
  errCode : Nat := 0
  enable : Bool := false
  sqPi : Nat := 0
  sqCi : Nat := 0
  cqPi : Nat := 0
  cqCi : Nat := 0
  entries : List QueueEntry := []
  backlog : List Completion := []
  /-- Incarnation of the owner when the queue was created (R312). -/
  incarnation : Nat := 0
  sinceIrq : Nat := 0
  irqFrom : Option Nat := none
  placing : Option Placement := none
  waited : Bool := false
  /-- The submission PI as it stood when STOP or RESET took effect (R327). -/
  stopBound : Option Nat := none
  deriving DecidableEq, Repr

/-- An operation on a port (R116): the OP word, the words captured with it, and who wrote GO. -/
structure PortOp where
  req : Requester
  word : Nat
  buf : List Word
  deriving DecidableEq, Repr

/-- A register operation port (R116): the operation that runs, the requester of a GO held behind it, and the reserved bits that
the last write of OP carried (R190). -/
structure PortState where
  run : Option PortOp := none
  held : Option Requester := none
  stray : Nat := 0
  deriving DecidableEq, Repr

/-! ## Packets, gaffer contexts, copies (chapters 3-6) -/

/-- A probe's result (R112). -/
structure ProbeResult where
  table : Nat
  hit : Bool := false
  err : Bool := false
  bad : Bool := false
  len : Nat := 0
  slot : Nat := 0
  result : List Nat := [0, 0, 0, 0]
  deriving DecidableEq, Repr

/-- Where a packet stands on the walk of R16. -/
inductive Stage where
  /-- Bytes are still arriving (step 1, R161). -/
  | receiving
  /-- Waits for its first dispatch, or for the dispatch of a reheat (step 3, R53, R100). -/
  | waiting | reheat
  /-- Runs on a gaffer context (step 4), or waits for one on which an ended pass restarts (R73). -/
  | running (ctx : Nat) | parked
  /-- In the release buffer; released to CLSG (R67). -/
  | done | released
  /-- In the exception queue; offered to CLSG (R71). -/
  | exception | offered
  /-- Walked by an engine; in the reorder buffer (R90, R91). -/
  | walking (engine : Nat) | walked
  /-- Handed to TBL and ACT: probes and meters (steps 6 and 7). -/
  | acting
  /-- At stage 11 of ACT (R138): in SXP or the lehr. -/
  | cipher
  /-- The last pass has ended; copies remain (step 8). -/
  | leaving
  /-- Lost to a fault of ACT, SXP or CRU: dropped once the journal has reached this count (R424, R439). -/
  | lost (journal : Nat)
  deriving DecidableEq, Repr

/-- A segment of a packet between stage 8 and stage 13 of ACT (R138, R146), with its way through SXP and the lehr. -/
structure Segment where
  bytes : List Byte
  /-- New cells of its headers; 0 when it is the whole packet (R146). -/
  heads : Nat := 0
  /-- 0: waits for SXP; 1: held there; 2: in the lehr; 3: done; 4: discarded. -/
  cipher : Nat := 0
  deriving DecidableEq, Repr

/-- The free lists of the crucible, oldest first, as ranges (first, count): the cullet list of on-die cells, and the deep cells
(R160). -/
structure Cullet where
  die : List (Nat × Nat) := [(0, 393216)]
  deep : List (Nat × Nat) := []
  deriving DecidableEq, Repr

/-- A pass that ended on a context by a parity or program store error and is to restart (R73): the context it left, whether it may
restart in the same cluster, and what it carries over: cycles charged so far and errors met. -/
structure Restart where
  left : Nat
  same : Bool
  before : Nat
  parityHits : Nat
  storeHits : Nat
  /-- Records accepted when its own was: the pass restarts once they have reached MRAM (R439). -/
  journal : Nat
  deriving DecidableEq, Repr

/-- A packet in the crucible (R16, R159), with what its current pass has produced so far (R154). -/
structure Packet where
  gen : Nat := 0
  bytes : List Byte := []
  srcKind : Nat := 0
  srcId : Nat := 0
  seq : Nat := 0
  /-- R18: none is the manager identity. -/
  stamp : Option (Nat × Nat) := none
  pool : Option Nat := none
  /-- On-die cells and deep cells in the order of their links, as ranges (first, count) (R159). -/
  cells : List (Nat × Nat) := []
  deepCells : List (Nat × Nat) := []
  stage : Stage := .receiving
  /-- Its pass waits for a context to restart on (R73). -/
  restart : Option Restart := none
  /-- Time of admission: `now`, and PTP seconds and nanoseconds. -/
  arrived : Nat := 0
  sec : Nat := 0
  ns : Nat := 0
  pass : Nat := 0
  /-- Program bank stamp once dispatched (R74), batch stamp once accepted (R93). -/
  bank : Option Nat := none
  batch : Option Nat := none
  /-- The hint of the reheat word that requested this pass (R68). -/
  hintWord : Nat := 0
  md : List Byte := []
  flags : Nat := 0
  dispatched : Nat := 0
  accepted : Nat := 0
  /-- Position in CLSG's order of acceptance (R91). -/
  order : Nat := 0
  /-- The rule of the pass: index and words (R87). -/
  ruleIndex : Nat := 0
  rule : List Word := []
  probes : List (Option ProbeResult) := []
  /-- Probes whose buckets a relocation has touched since (R115). -/
  touched : List Nat := []
  /-- Probes repeated for that reason, one entry each time (R115). -/
  repeats : List Nat := []
  /-- Colours of the METER words applied so far (R148). -/
  colours : List Nat := []
  /-- Red with RED_DROP. -/
  redDrop : Bool := false
  applied : Nat := 0
  skipped : Nat := 0
  lenIn : Nat := 0
  lenOut : Nat := 0
  dest : Option Nat := none
  actedAt : Nat := 0
  /-- Selected by the global sampler (R152); selected by a session in this pass. -/
  traceGlobal : Bool := false
  traceSession : Option Nat := none
  segments : List Segment := []
  /-- Copies that have not left, and whether one has left (R94). -/
  copies : Nat := 0
  anyLeft : Bool := false
  /-- The transmit entry it came from (R329): queue, index; MSS; a transmit time is wanted. -/
  entry : Option (Nat × Nat) := none
  mss : Nat := 0
  wantTime : Bool := false
  tag : Nat := 0
  /-- Receive time from the MAC: seconds, nanoseconds, fraction (R262). -/
  rxTime : Option (Nat × Nat × Nat) := none
  /-- The work entry marks it for one-step timestamping (R264). -/
  oneStep : Bool := false
  /-- MACsec protected it in its last pass (R211, R253). -/
  macsec : Bool := false
  /-- Sessions that selected the pass and make a copy at stage 12, and the packet's L3 offset after its edits (R142, R151). -/
  mirrors : List Nat := []
  l3At : Option Nat := none
  /-- Head cells and growth that ACT drew from the reserve for it (R160). -/
  extra : List (Nat × Nat) := []
  /-- A segment that reheats on its own: the packet whose payload cells it refers to (R146, R160). -/
  parent : Option Nat := none
  /-- Its segments reheat on their own: they write the records of its later passes. -/
  split : Bool := false
  /-- A template read for a mirror copy of this pass was abandoned (R142). -/
  noTemplate : Bool := false
  /-- Its drop has been counted and traced; it ends when its copies have left. -/
  recorded : Bool := false
  /-- The tenant-clear mark: the slice whose SA decrypted it (R218). -/
  clear : Option Nat := none
  deriving DecidableEq, Repr

/-- A gaffer context that runs a pass (R51, R54). -/
structure Ctx where
  packet : Nat
  bank : Nat
  g : List Word
  cur : Nat := 0
  z : Bool := false
  c : Bool := false
  o : Bool := false
  stack : List Nat := []
  crc : Word := 0xFFFFFFFF#32
  toeKey : Nat := 0
  toe : Word := 0#32
  toeBytes : Nat := 0
  wlen : Nat
  extended : Bool := false
  suspended : Bool := false
  md : List Byte
  flags : Nat := 0
  pc : Nat
  charged : Nat := 0
  /-- Cycles charged to the attempts of this pass that were restarted (R99), and the numbers of context parity errors and
  of uncorrectable program store errors met (R73). -/
  before : Nat := 0
  parityHits : Nat := 0
  storeHits : Nat := 0
  entry : Nat := 0
  deriving DecidableEq, Repr

/-- What a transmit entry of a slice queue waits for (R329): a MAC has sent its frame, with the time, or the frame has been
dropped. -/
structure SentNote where
  queue : Nat
  index : Nat
  len : Nat
  time : Option (Nat × Nat × Nat) := none
  deriving DecidableEq, Repr

/-- A copy of a packet on its way out (R16 step 8, R158). -/
structure Copy where
  packet : Nat
  gen : Nat
  bytes : List Byte
  /-- Its own head cells (R160). -/
  own : List (Nat × Nat) := []
  /-- The bytes end in the received FCS (R140). -/
  fcs : Bool := false
  /-- Destination in FWD operand form (R136). -/
  dest : Nat := 0
  colour : Nat := 0
  mirror : Bool := false
  queued : Bool := false
  /-- The device queue of a host copy. -/
  queue : Nat := 0
  /-- Its transmit time is wanted (R263), under a tag; it is marked one-step (R264); MACsec protected it (R253). -/
  wantTime : Bool := false
  tag : Nat := 0
  oneStep : Bool := false
  macsec : Bool := false
  deriving DecidableEq, Repr

/-! ## Forwarding tables (chapter 5) -/

/-- A learn request (R122). -/
structure Learn where
  table : Nat
  key : List Byte
  result : List Nat
  stamp : Option (Nat × Nat)
  deriving DecidableEq, Repr

/-- Where the marver sweep stands (R123): a bucket of a table, or an overflow set of a bank. -/
inductive SweepAt where
  | bucket (table index : Nat)
  | set (bank index : Nat)
  deriving DecidableEq, Repr

/-- A compare-and-clear on its way to a bank (R123): the table, the slot, the overflow way when it is one, and the AGE and
GEN that the sweep read. -/
structure AgedClear where
  table : Nat
  slot : Nat
  way : Option Nat := none
  age : Nat
  gen : Nat
  deriving DecidableEq, Repr

/-! ## Schedulers and MACs (chapters 6 and 10) -/

/-- A traffic class (R156): its copies, its deficit, and by how much its shaper stands below full, in 10^-6 bit. -/
structure TcState where
  fifo : List Nat := []
  deficit : Nat := 0
  used : Nat := 0
  deriving DecidableEq, Repr

/-- A port scheduler (R156): its TCs, the TC the round robin serves and whether its visit has begun, and the port shaper's
fill with the time of the last refill. -/
structure Sched where
  tcs : List (Nat × TcState) := []
  cur : Nat := 0
  visited : Bool := false
  used : Nat := 0
  at_ : Nat := 0
  deriving DecidableEq, Repr

/-- SCHH (R157): copies by device queue and the copies for STO, deficits of queues and slices, the slice and the queues that
the round robins serve, fills of the rate caps in 10^-6 bit with the time of the last refill. -/
structure HostSched where
  queues : List (Nat × List Nat) := []
  sto : List Nat := []
  qDeficit : List (Nat × Nat) := []
  sDeficit : List (Nat × Nat) := []
  sUsed : List (Nat × Nat) := []
  mgrUsed : Nat := 0
  at_ : Nat := 0
  slice : Nat := 0
  sVisited : Bool := false
  queue : List (Nat × Nat) := []
  qVisited : List (Nat × Bool) := []
  deriving DecidableEq, Repr

/-- A MAC (R249-R264): live counters of the snapshot set by wide index, the frame being received (its head cell once
admitted, its receive time), the copy the scheduler has handed over and the frame being sent, pause timers (class, or 8
for PAUSE; the TC it stops), since when TCs are stopped, TCs whose pause is ignored, pools told XOFF, and the FIFO of
two-step timestamps (tag, seconds, nanoseconds, fraction). -/
structure Mac where
  counters : List (Nat × Nat) := []
  rxBusy : Bool := false
  rx : Option Nat := none
  rxTime : Nat × Nat × Nat := (0, 0, 0)
  /-- The tag that R253 inserts in the frame in reception if it has none, from MAC_TAG_CTL at its first byte (R267). -/
  rxTag : Option (List Byte) := none
  slot : Option Nat := none
  /-- Copies selected whose TC was stopped before they started (R256), in order. -/
  parked : List Nat := []
  sending : Option (List Byte) := none
  txTime : Nat × Nat × Nat := (0, 0, 0)
  /-- The frame being sent will count in ONE_STEP_MISS (R260, R264). -/
  missed : Bool := false
  timers : List (Nat × Nat) := []
  stopped : List (Nat × Nat) := []
  ignored : Nat := 0
  told : Nat := 0
  /-- Classes (8: the port) whose refresh frame waits for a frame boundary (R258), bit n. -/
  refresh : Nat := 0
  enableHeld : Bool := false
  stamps : List (Nat × Nat × Nat × Nat) := []
  deriving DecidableEq, Repr

/-! ## Lehr and key store (chapter 7) -/

/-- A key slot (R189).  `state`: 0 EMPTY, 1 READY, 2 RETIRING.  `key` is held on-chip for slots 0-65,535 only. -/
structure KeySlot where
  gen : Nat := 0
  state : Nat := 0
  wide : Bool := false
  pair : Bool := false
  modes : Nat := 0
  enc : Bool := false
  dec : Bool := false
  conf : Bool := false
  owner : Nat := 0
  mgr : Bool := false
  incarnation : Nat := 0
  inflight : Nat := 0
  key : List Byte := []
  deriving DecidableEq, Repr

/-- An entry of a cluster's key cache (R192): slot, GEN, and the key material it was expanded from. -/
structure CacheEntry where
  slot : Nat
  gen : Nat
  key : List Byte
  deriving DecidableEq, Repr

/-- Who submitted a lehr job (R177): a CIPHER entry, SXP under a tag, or STO for a wire command and a byte offset in it. -/
inductive JobSource where
  | cipher (queue index qgen : Nat)
  | sxp (tag : Nat)
  | sto (wire offset : Nat)
  deriving DecidableEq, Repr

/-- A segment of a striped job on one cluster (R183): its blocks, how many have been issued and are done, how many are to be
computed once more on two further cells, the first pairs of those blocks (R194), and the cell of a chained job. -/
structure JobSeg where
  cluster : Nat
  count : Nat
  issued : Nat := 0
  done : Nat := 0
  again : Nat := 0
  avoid : List (Nat × Nat) := []
  cell : Option Nat := none
  deriving DecidableEq, Repr

/-- A lehr job: its descriptor image (R178), whether its SA or session asks for verify mode, how the key slot's salt enters the
nonce (0 not, 1 XOR, 2 in front; R207), the input stream (R177), the requester identity (R193), the identity the journal names
(R437), its segments, attempts, the key material once at hand, the journal records a rerun waits for, and the code that ends
it early. -/
structure LehrJob where
  src : JobSource
  desc : List Byte
  verify : Bool := false
  salt : Nat := 0
  input : List Byte
  stamp : Option (Nat × Nat)
  /-- OWNER and INCARNATION of a manager's SA (R207). -/
  mgrId : Nat × Nat := (0, 0)
  work : Nat := 0
  /-- The lengths of its streams disagree with the submitter's fragments. -/
  badStream : Bool := false
  segs : List JobSeg := []
  reruns : Nat := 0
  /-- Cells whose blocks of this job were suspect: a rerun takes other cells (R198). -/
  shun : List Nat := []
  /-- The cluster whose multiplier computes a product of the job again (R194). -/
  multAgain : Option Nat := none
  key : Option (List Byte) := none
  /-- KLEN of its slot. -/
  wide : Bool := false
  journal : Nat := 0
  verdict : Option Nat := none
  deriving DecidableEq, Repr

/-- What a cell is busy with: a block of a job's segment; the second cell of a block computed twice; that it is the second
cell; that the block is computed again after a mismatch (R194). -/
structure CellWork where
  job : Nat
  seg : Nat
  partner : Option Nat := none
  second : Bool := false
  repeated : Bool := false
  deriving DecidableEq, Repr

/-- A job that a block of a cell's trace belongs to (R197, R198): number, journal identity, owner. -/
structure JobRef where
  job : Nat
  work : Nat
  stamp : Option (Nat × Nat)
  deriving DecidableEq, Repr

/-- A cluster's multiplier outside verify mode: its products since the last checked one (R195), and the jobs they belong to
with their number (R197). -/
structure Multiplier where
  since : Nat := 0
  trace : List (JobRef × Nat) := []
  deriving DecidableEq, Repr

/-- LEH, LEHG and KEY.  Cell keys are unit × 256 + cell (128: the multiplier); unit 64 is the punty cluster. -/
structure Lehr where
  /-- Jobs submitted and not yet checked. -/
  submits : List LehrJob := []
  jobs : List (Nat × Option LehrJob) := []
  nextJob : Nat := 0
  cells : List (Nat × Option CellWork) := []
  /-- Spot-check countdowns; 0: not drawn yet (R195). -/
  countdown : List (Nat × Nat) := []
  /-- Blocks of each cell since its last passed check or test (R197). -/
  traces : List (Nat × List JobRef) := []
  /-- First pairs of a mismatch whose cells have still to be tested, and whether all tested cells passed (R194). -/
  tests : List (List Nat × Bool) := []
  fenced : List Nat := []
  fencedUnits : List Nat := []
  caches : List (Nat × List CacheEntry) := []
  mults : List (Nat × Multiplier) := []
  /-- Unwraps that wait for a lane: unit and job (R191). -/
  unwraps : List (Nat × Nat) := []
  /-- The unwrap lanes at work, oldest first: lane, unit and job.  The six cells of a lane compute the six blocks of a record
  (R171, R191). -/
  lanes : List (Nat × Nat × Nat) := []
  /-- Generate requests of each generator since its last reseed: unit × 2 + generator (R173). -/
  requests : List (Nat × Nat) := []
  /-- Generators that could not be reseeded: unit × 2 + generator (R173). -/
  stalled : List Nat := []
  stallRest : Nat := 0
  keys : List (Nat × KeySlot) := []
  /-- Draws of the wrap key, and wraps made (R191). -/
  kwDraws : Nat := 0
  wrapCount : Nat := 0
  deriving DecidableEq, Repr

/-! ## Secure transports (chapter 8) -/

/-- What SXP protects or verifies: a packet segment (R205), or a TLS record of a session with its content type. -/
inductive SxpSource where
  | packet (head gen seg : Nat)
  | record (session kind : Nat)
  deriving DecidableEq, Repr

/-- A request for a precheck: the SA it names, DIR, its bytes. -/
structure SxpReq where
  src : SxpSource
  sa : Nat
  dir : Nat
  bytes : List Byte
  deriving DecidableEq, Repr

/-- A request between precheck and postcheck: the SA that served it and its words, the sequence number, the bytes in front of
and behind the protected ones, and the length at entry. -/
structure SxpJob where
  src : SxpSource
  sa : Nat
  words : List Nat
  seq : Nat
  bytes : List Byte
  front : List Byte := []
  lenIn : Nat := 0
  l3 : Nat := 0
  deriving DecidableEq, Repr

/-- SXP (R205-R222): requests that wait for a lane, jobs in the lehr, what they returned, the limit FIFO and the rolls under
way.  The SA table and the replay bitmaps stand in GDDR6. -/
structure Sxp where
  queue : List SxpReq := []
  jobs : List (Nat × Option SxpJob) := []
  nextJob : Nat := 0
  /-- Returned jobs: tag, code, output. -/
  done : List (Nat × Nat × List Byte) := []
  /-- SXP_LIMIT_FIFO: HARD and SA (R216). -/
  limit : List (Bool × Nat) := []
  /-- Rolled SAs that have not drained (R217). -/
  rolling : List Nat := []
  deriving DecidableEq, Repr

/-! ## Storage (chapter 9) -/

/-- How far a wire command has come (R234-R236): its data is not yet fetched, is being encrypted, is ready; it is sent; it has
settled OK, or failed. -/
inductive WirePhase where
  | start | encrypting | ready | sent | settled | failed
  deriving DecidableEq, Repr

/-- A wire command (R232-R236).  `op` is the opcode of its entry, or 0 for Connect. -/
structure WireCmd where
  session : Nat
  queue : Nat
  index : Nat
  op : Nat
  volume : Nat := 0
  /-- First volume sector, entry byte offset, length in bytes (sectors for TRIM). -/
  first : Nat := 0
  off : Nat := 0
  len : Nat := 0
  phase : WirePhase := .start
  slot : Nat := 0
  gen : Nat := 0
  held : List Byte := []
  cells : List (Nat × Nat) := []
  deepCells : List (Nat × Nat) := []
  /-- READ: the cells that hold received data until it is placed (R235): end offset, on-die cells, deep cells. -/
  rx : List (Nat × List (Nat × Nat) × List (Nat × Nat)) := []
  /-- READ: bytes received, checked bytes not yet placed or decrypted, bytes placed, decryptions under way. -/
  received : Nat := 0
  pending : List Byte := []
  submitted : Nat := 0
  placed : Nat := 0
  /-- NVMe status once answered. -/
  status : Option Nat := none
  /-- First failure: code and DETAIL. -/
  fail : Option (Nat × Nat) := none
  orphan : Bool := false
  /-- Bytes of a WRITE that have been sent. -/
  sentTo : Nat := 0
  /-- Its slot is allocated. -/
  live : Bool := false
  /-- The identity it is stamped with (R18, R309). -/
  stamp : Option (Nat × Nat) := none
  deriving DecidableEq, Repr

/-- What STO holds on-die of a session (R233, R239-R241): TCP, record and PDU streams, slots. -/
structure StoSession where
  /-- A connection exists; bytes from SND_UNA on that are not acknowledged; a FIN follows them. -/
  open_ : Bool := false
  sendBuf : List Byte := []
  fin : Bool := false
  finAcked : Bool := false
  /-- The peer's window in bytes, its window scale, and whether it uses timestamps; TS.Recent. -/
  window : Nat := 0
  scale : Nat := 0
  stamps : Bool := false
  recent : Nat := 0
  mss : Nat := 536
  /-- NewReno (RFC 5681, RFC 6582): congestion window, threshold, duplicate ACKs, whether fast recovery is under way, and SND_NXT
  as the last recovery or timeout began. -/
  cwnd : Nat := 0
  ssthresh : Nat := 0
  dupAcks : Nat := 0
  fast : Bool := false
  recover : Option Nat := none
  /-- RFC 6298, in µs: SRTT × 8 and RTTVAR × 4 once measured, RTO; the segment being timed and since when; expiries in a row. -/
  rtt : Option (Nat × Nat) := none
  rto : Nat := 0
  timed : Option (Nat × Nat) := none
  expiries : Nat := 0
  /-- Received bytes: of an incomplete TLS record, of the PDU stream, of the handshake channel by segment. -/
  raw : List Byte := []
  stream : List Byte := []
  hand : List (List Byte) := []
  /-- A record is being verified; the receive side waits for a roll (R240). -/
  verifying : Bool := false
  waits : Bool := false
  /-- Digests in use: bit 0 header, bit 1 data. -/
  digests : Nat := 0
  /-- Free slots, the one free longest first, and the generations of slots. -/
  freeSlots : List Nat := []
  gens : List (Nat × Nat) := []
  /-- The peer's FIN has been received. -/
  closing : Bool := false
  /-- The session has failed and its H2CTermReq is still with SXP (R242). -/
  term : Bool := false
  deriving DecidableEq, Repr

/-- STO (R223-R247): what it holds on-die of its sessions, and the wire commands.  Volumes and session words stand in GDDR6. -/
structure Sto where
  sessions : List (Nat × StoSession) := []
  wires : List (Nat × Option WireCmd) := []
  nextWire : Nat := 0
  /-- Sessions that SES_WRITE has written, and whether firmware has zeroed the session area: until either, words 11 and 12 of a
  session hold the reset values of R238. -/
  written : List (Nat × Bool) := []
  zeroed : Bool := false
  deriving DecidableEq, Repr

/-! ## Welbor, OTP and mailboxes (chapter 16) -/

/-- A message of 64 bytes as sixteen words, with its stamp (R386, R390). -/
structure Message where
  words : List Nat
  stamp : Nat := 0
  deriving DecidableEq, Repr

/-- An end of a mailbox channel (R387): staging words, receive queue, MBX_DISC. -/
structure MailBox where
  tx : List Nat := List.replicate 16 0
  queue : List Message := []
  disc : Nat := 0
  deriving DecidableEq, Repr

/-- Welbor's end of a slice channel (R393): the partial message and the chunk number expected next, the complete request not
answered yet, the chunks to be sent with the incarnation that each is meant for, and the incarnation recorded when the channel
was set up (R312, R390). -/
structure SliceChannel where
  part : List Byte := []
  expect : Nat := 0
  request : Option (List Byte) := none
  chunks : List (Nat × List Nat) := []
  incarnation : Nat := 0
  deriving DecidableEq, Repr

/-- An SPDM session (R377): its transport, whether FINISH has completed it, and the number of key updates. -/
structure SpdmSession where
  via : Transport
  finished : Bool := false
  epoch : Nat := 0
  deriving DecidableEq, Repr

/-- A vendor request that waits for Welbor (R379): session, transport, payload. -/
structure VendorRequest where
  session : Nat
  via : Transport
  payload : List Byte
  deriving DecidableEq, Repr

/-- A programming of OTP in progress (R385): channel, tag, generation, its 256 bytes. -/
structure OtpJob where
  channel : Nat
  tag : Nat
  gen : Nat
  bytes : List Byte
  deriving DecidableEq, Repr

/-- What Welbor and OTP hold (R370-R385): the lifecycle code in the fuses, generations 0-7 ([] is blank), the identity
secret's fuses, the programming in progress, the image facts of the running set, the measurement blocks frozen at boot,
the pools (first, count) by kind, SPDM sessions, the negotiation of each transport, vendor requests, slice channels, and
the MCTP endpoint ID. -/
structure Welbor where
  lifecycle : Nat := 2
  /-- The lifecycle state in effect since the last reset (R374). -/
  inEffect : Nat := 2
  gens : List (Nat × List Byte) := []
  udsMasked : Bool := false
  udsDestroyed : Bool := false
  job : Option OtpJob := none
  svnWelbor : Nat := 0
  svnCpx : Nat := 0
  blocks : List (Nat × List Byte) := []
  pools : List (Nat × (Nat × Nat)) := []
  sessions : List (Nat × Option SpdmSession) := []
  nextSession : Nat := 1
  negotiated : List (Nat × Nat) := []
  requests : List VendorRequest := []
  channels : List (Nat × SliceChannel) := []
  eid : Nat := 0
  deriving DecidableEq, Repr

/-! ## The whole machine -/

/-- Everything the block holds but its queue of waiting commands. -/
structure Dev where
  /-- Nanoseconds since the power-on reset (log entry 7). -/
  now : Nat := 0
  /-- Register space: key = PF0 BAR0 address; an unlisted register holds its reset value (R25, R31). -/
  regs : List (Nat × Word) := []
  /-- Wide values held as such: key = page address × 2^16 + index (R43). -/
  wide : List (Nat × Wide) := []
  /-- Registers whose stored parity does not match (R40, R474). -/
  badParity : List Nat := []
  /-- Mismatches already counted (R40). -/
  seenParity : List Nat := []
  /-- GDDR6 data memory, byte addressed (R107 and the chapters that place tables there). -/
  gddr : List Host.Cell := []
  /-- The on-die store: tree store and firmware control SRAM (R341). -/
  die : List Host.Cell := []
  /-- Host memory behind port 0, as the adapter reads and writes it (R290). -/
  host0 : List Host.Cell := []
  /-- Host memory behind port 1. -/
  host1 : List Host.Cell := []
  /-- What has left the adapter, in order. -/
  out : List Output := []
  /-- The model's own counter of free values taken (log entry 5). -/
  free : Nat := 0
  /-- Board inputs 0-3 (R364). -/
  bins : List (Nat × BinState) := []
  /-- Levels of mode-0 board outputs held in STANDBY, bit n (R366). -/
  boutHeld : Nat := 0
  /-- Movers 0-63. -/
  movers : List (Nat × MoverState) := []
  /-- Unit port → mover + 1 serving it, 0 when free (R347). -/
  portOwner : List (Nat × Nat) := []
  /-- Bytes accepted by each unit port (R347). -/
  portData : List (Nat × List Byte) := []
  /-- Fault journal. -/
  journal : Journal := {}
  /-- Power states and supplies. -/
  pwr : Power := {}
  /-- Time base. -/
  tim : Time := {}
  /-- Fault tolerance. -/
  ft : FaultTol := {}
  /-- CPX pairs 0-3. -/
  cpx : List (Nat × CpxPair) := []
  /-- Host ports 0 and 1. -/
  hif : List (Nat × HostPort) := []
  /-- Slice interrupt entries: key = slice × 16 + entry. -/
  sit : List (Nat × SitEntry) := []
  /-- Slices 0-4095. -/
  slices : List (Nat × Slice) := []
  /-- Queues 0-65,535. -/
  queues : List (Nat × Queue) := []
  /-- Operation ports by page address: TBLG, ACTG, KEY, SXP, STO, SLC, QUE, HIF_SIT, SVC (R116). -/
  ports : List (Nat × PortState) := []
  /-- GAF program stores: key = unit × 4096 + bank × 2048 + word; unit 24 is the punty cluster (R50, R432). -/
  store : List (Nat × Word) := []
  /-- Banks whose CRC is being recomputed: unit × 2 + bank (R77). -/
  crcBusy : List Nat := []
  /-- Busy gaffer contexts: key = unit × 128 + core × 4 + context (R51). -/
  ctxs : List (Nat × Option Ctx) := []
  /-- The context of each core that issued last (R52): key = unit × 32 + core. -/
  lastIssued : List (Nat × Nat) := []
  /-- Fenced contexts (R73). -/
  fencedCtx : List Nat := []
  /-- Times of parity errors of each context (R73). -/
  ctxErrors : List (Nat × List Nat) := []
  /-- Clusters stopped by an uncorrectable program store error (R73). -/
  gafStopped : List Nat := []
  /-- Flip requests that wait for their check (R75). -/
  flips : Nat := 0
  /-- Packets in the crucible by head cell (R159). -/
  packets : List (Nat × Packet) := []
  /-- Generation of each cell as a head (R159). -/
  headGen : List (Nat × Nat) := []
  /-- Next sequence number of each source: key = kind × 65536 + id (R16). -/
  srcSeq : List (Nat × Nat) := []
  /-- Packets that wait for their first dispatch (R53). -/
  dispatchQ : List Nat := []
  /-- Packets that wait for the dispatch of a reheat (R100). -/
  reheatQ : List Nat := []
  /-- The head of the reheat queue has been counted as deferred (R100). -/
  reheatSeen : Bool := false
  /-- The reheat credit C (R99). -/
  credit : Int := 65536
  /-- The exception queue (R71). -/
  excQ : List Nat := []
  /-- Records accepted by CLSG so far (R91). -/
  acceptNo : Nat := 0
  /-- Free on-die cells as ranges, first to be allocated first (R160). -/
  cullet : Cullet := {}
  /-- Copies by number (R158). -/
  copies : List (Nat × Option Copy) := []
  /-- The next copy's number. -/
  nextCopy : Nat := 1
  /-- Trace records that wait for the ring (R153). -/
  traceQ : List (List Nat) := []
  /-- Pools for which CRU has asked XOFF (R161). -/
  xoffAsked : List (Nat × Bool) := []
  /-- Overflow tags (R114): key = bank × 16384 + set × 8 + way; table and H2[31:11]. -/
  ovfTags : List (Nat × Option (Nat × Nat)) := []
  /-- Overflow tags that fail their check (R128). -/
  ovfBad : List Nat := []
  /-- Set bits of the Bloom store (R108, R120). -/
  bloom : List (Nat × Bool) := []
  /-- Notification records that wait for the ring (R127). -/
  noteQ : List (List Nat) := []
  /-- SEQ of the next notification record (R126). -/
  noteSeq : Nat := 0
  /-- Learn requests (R122). -/
  learnQ : List Learn := []
  /-- Age refreshes on their way to a bank: slot and GEN (R123). -/
  refreshQ : List (Nat × Nat) := []
  /-- Compare-and-clears on their way to a bank (R123). -/
  clearQ : List AgedClear := []
  /-- The sweep round in progress (R123). -/
  sweep : Option SweepAt := none
  /-- A round starts when the present one ends (R123). -/
  sweepAgain : Bool := false
  /-- BLOOM_REBUILD in progress: table, length, new base, new size (R121). -/
  rebuild : Option (Nat × Nat × Nat × Nat) := none
  /-- The next IPv4 identification of an encapsulation (R143). -/
  encapId : Nat := 0
  /-- Counter updates on their way to a lane (R149): index and bytes. -/
  counterQ : List (Nat × Nat) := []
  /-- Port schedulers 0-15. -/
  sched : List (Nat × Sched) := []
  /-- Host delivery. -/
  host : HostSched := {}
  /-- MACs 0-15. -/
  macs : List (Nat × Mac) := []
  /-- SerDes lanes 0-15 (lane 8g + j of R249). -/
  lanes : List (Nat × Lane) := []
  /-- Transmit entries whose frame has been sent or dropped (R263, R329). -/
  sentQ : List SentNote := []
  /-- LEH, LEHG and KEY. -/
  lehr : Lehr := {}
  /-- Secure transports. -/
  sxp : Sxp := {}
  /-- Storage offload. -/
  sto : Sto := {}
  /-- Mailbox ends (R386): key = kind × 65536 + channel (Machine/Boxes.lean). -/
  mail : List (Nat × MailBox) := []
  /-- Welbor and OTP. -/
  wel : Welbor := {}
  deriving DecidableEq, Repr

/-- The state of the block: its own state, and the commands that are waiting, first in first out. -/
structure State where
  dev : Dev
  pending : List Instr
  deriving DecidableEq, Repr

/-- Right after the power-on reset (R416, R454): 3.3Vaux present, no feed good, STANDBY, every switched domain off,
every register at its reset value, no table entry listed, nothing waiting (log entries 3, 4 and 6). -/
def State.reset : State := { dev := {}, pending := [] }

end Sys2Proof.Machine
end

