-- ==== Sys2Proof/Machine/Flags.lean ====
section
/-!
DEFINITION. The condition flags Z, C and O of a gaffer context (R51, R58, R56) and the branch conditions (R59).
-/

namespace Sys2Proof.Machine

/-- Z: the result is 0. -/
def flagZ (v : Word) : Bool := v == 0#32
/-- C of an addition: the carry out. -/
def flagCarry (a b : Word) : Bool := decide (2 ^ 32 ≤ a.toNat + b.toNat)
/-- C of a subtraction: the borrow. -/
def flagBorrow (a b : Word) : Bool := decide (a.toNat < b.toNat)

/-- The context with Z and C set from a result and a carry; O is unchanged. -/
def Ctx.withZC (x : Ctx) (v : Word) (c : Bool) : Ctx := { x with z := flagZ v, c := c }
/-- The context with Z set from a result; C and O are unchanged. -/
def Ctx.withZ (x : Ctx) (v : Word) : Ctx := { x with z := flagZ v }

/-- The conditions of BR and BRI (R59): EQ, NE, LTU, GEU, LT, GE, ANY, NONE. -/
def condHolds (cond : Nat) (a b : Word) : Bool :=
  match cond with
  | 0 => a == b
  | 1 => a != b
  | 2 => decide (a.toNat < b.toNat)
  | 3 => decide (b.toNat ≤ a.toNat)
  | 4 => decide (a.toInt < b.toInt)
  | 5 => decide (b.toInt ≤ a.toInt)
  | 6 => a &&& b != 0#32
  | _ => a &&& b == 0#32

end Sys2Proof.Machine
end

