-- ==== Sys2Proof/Machine/RegMap.lean ====
section
/-!
DEFINITION. The register map: every register field of the spec's register tables (access type and reset value),
the pages that hold them (R25-R27, R31-R36), and a named constant for each field.  The tables were set from the
spec's own tables (the rules named at each page kind).
-/

namespace Sys2Proof.Machine

/-- Access types (R37). -/
inductive Access where
  | rw | rwp | ro | w1c | rc | sc | wo | rs
  deriving DecidableEq, Repr

/-- A named register field: effective offset, lowest bit, width. -/
structure Fld where
  off : Nat
  lo : Nat
  w : Nat
  deriving DecidableEq, Repr

/-- Field `f` of the `i`-th register of a group of equal registers `stride` bytes apart. -/
def Fld.nth (f : Fld) (stride i : Nat) : Fld := { f with off := f.off + stride * i }

/-- What becomes of a written value outside the field's range (the register tables' "is stored as" notes). -/
inductive Fix where
  | keep
  | atLeast (lo : Nat)
  | atMost (hi : Nat)
  | clamp (lo hi : Nat)
  | within (lo hi other : Nat)
  deriving DecidableEq, Repr

/-- One row of a register table: `n` registers `stride` apart from `off`, their field at `lo` of width `w`. -/
structure FieldRow where
  off : Nat
  stride : Nat
  n : Nat
  lo : Nat
  w : Nat
  acc : Access
  rst : Nat
  fix : Fix
  deriving DecidableEq, Repr

/-- The kinds of register page (R25, R27 and the page lists of the owning chapters). -/
inductive PageKind where
  | gctl | rst | otp | tim | pwr | evtg | evtRoute | evtState | evtAon
  | mbx | flt | svc | hif | slc | mac | pcs | macg | gaf
  | gafg | cls | clsg | tbl | tblg | sch | actg | cru | schh
  | leh | lehg | key | sxp | sto | que | blp | mem | cpx
  deriving DecidableEq, Repr

namespace Reg

/-- R2, RO. -/ def GCTL_ID_DEVICE : Fld := ⟨0x40, 16, 16⟩
/-- R2, RO. -/ def GCTL_ID_STEP_MAJOR : Fld := ⟨0x40, 4, 4⟩
/-- R2, RO. -/ def GCTL_ID_STEP_MINOR : Fld := ⟨0x40, 0, 4⟩
/-- R474, W1C. -/ def GCTL_GRP_PERR_VALID : Fld := ⟨0x50, 31, 1⟩
/-- R474, RO. -/ def GCTL_GRP_PERR_REGION : Fld := ⟨0x50, 16, 4⟩
/-- R474, RO. -/ def GCTL_GRP_PERR_GROUP : Fld := ⟨0x50, 0, 4⟩
/-- R48, RC. -/ def GCTL_AERR_CNT_CNT : Fld := ⟨0x44, 0, 32⟩
/-- R48, W1C. -/ def GCTL_AERR_ADDR_VALID : Fld := ⟨0x48, 31, 1⟩
/-- R48, RO. -/ def GCTL_AERR_ADDR_ADDR : Fld := ⟨0x48, 0, 24⟩
/-- R48, RO. -/ def GCTL_AERR_SRC_RID : Fld := ⟨0x4C, 16, 16⟩
/-- R48, RO. -/ def GCTL_AERR_SRC_WRITE : Fld := ⟨0x4C, 3, 1⟩
/-- R48, RO. -/ def GCTL_AERR_SRC_KIND : Fld := ⟨0x4C, 0, 3⟩
/-- R77, RO. -/ def GAF_BSTAT_FENCED_CTX : Fld := ⟨0x10, 24, 8⟩
/-- R77, RO. -/ def GAF_BSTAT_BUSY_CTX : Fld := ⟨0x10, 16, 8⟩
/-- R77, RW. -/ def GAF_PS_ADDR_BANK : Fld := ⟨0x100, 11, 1⟩
/-- R77, RW. -/ def GAF_PS_ADDR_WORD : Fld := ⟨0x100, 0, 11⟩
/-- R77, RW. -/ def GAF_PS_DATA_INSN : Fld := ⟨0x104, 0, 32⟩
/-- R77, RO. -/ def GAF_PS_CRC0_CRC : Fld := ⟨0x108, 0, 32⟩
/-- R77, RO. -/ def GAF_PS_CRC1_CRC : Fld := ⟨0x10C, 0, 32⟩
/-- R77, W1C. -/ def GAF_PS_STAT_WR_REJ : Fld := ⟨0x110, 1, 1⟩
/-- R77, RO. -/ def GAF_PS_STAT_CRC_BUSY : Fld := ⟨0x110, 0, 1⟩
/-- R77, RC. -/ def GAF_PASS_CNT_CNT : Fld := ⟨0x114, 0, 32⟩
/-- R77, RC. -/ def GAF_EXC_CNT_CNT : Fld := ⟨0x118, 0, 32⟩
/-- R77, RC. -/ def GAF_PARITY_CNT_CNT : Fld := ⟨0x11C, 0, 32⟩
/-- R77, RO. -/ def GAF_FENCE_MAP : Fld := ⟨0x120, 0, 32⟩
/-- R78, RO. -/ def GAFG_BANK_ERR_CAUSE : Fld := ⟨0x100, 3, 3⟩
/-- R78, W1C. -/ def GAFG_BANK_FLIP_ERR : Fld := ⟨0x100, 2, 1⟩
/-- R78, RO. -/ def GAFG_BANK_OLD_BUSY : Fld := ⟨0x100, 1, 1⟩
/-- R78, RO. -/ def GAFG_BANK_ACTIVE : Fld := ⟨0x100, 0, 1⟩
/-- R78, SC. -/ def GAFG_FLIP_GO : Fld := ⟨0x104, 0, 1⟩
/-- R78, RWP. -/ def GAFG_IMAGE_CRC_CRC : Fld := ⟨0x108, 0, 32⟩
/-- R78, RO. -/ def GAFG_ACTIVE_CRC_CRC : Fld := ⟨0x10C, 0, 32⟩
/-- R78, RO. -/ def GAFG_INFLIGHT0_CNT : Fld := ⟨0x110, 0, 24⟩
/-- R78, RO. -/ def GAFG_INFLIGHT1_CNT : Fld := ⟨0x114, 0, 24⟩
/-- R78, RWP. -/ def GAFG_CYCLE_LIMIT_LIMIT : Fld := ⟨0x118, 0, 12⟩
/-- R78, RWP. -/ def GAFG_EXC_CTL_DELIVER : Fld := ⟨0x11C, 16, 1⟩
/-- R78, RWP. -/ def GAFG_EXC_CTL_TREE : Fld := ⟨0x11C, 0, 16⟩
/-- R78, RO. -/ def GAFG_EXC_DEPTH_DEPTH : Fld := ⟨0x120, 0, 11⟩
/-- R78, RC. -/ def GAFG_EXC_DROP_CNT : Fld := ⟨0x124, 0, 32⟩
/-- R78, RO. -/ def GAFG_DISP_DEPTH_DEPTH : Fld := ⟨0x128, 0, 20⟩
/-- R78, RC. -/ def GAFG_DISP_PEAK_PEAK : Fld := ⟨0x12C, 0, 20⟩
/-- R78, RWP. -/ def GAFG_DISP_THR_THR : Fld := ⟨0x130, 0, 20⟩
/-- R78, RO. -/ def GAFG_EXC_HEAD_TOTAL : Fld := ⟨0x134, 6, 26⟩
/-- R78, RO. -/ def GAFG_EXC_HEAD_NEXT : Fld := ⟨0x134, 0, 6⟩
/-- R78, RC. -/ def GAFG_REDISP_CNT_CNT : Fld := ⟨0x138, 0, 32⟩
/-- R101, RO. -/ def CLS_BSTAT_ACTIVE : Fld := ⟨0x10, 16, 8⟩
/-- R101, RC. -/ def CLS_WALK_CNT_CNT : Fld := ⟨0x100, 0, 32⟩
/-- R101, RC. -/ def CLS_NODE_CNT_CNT : Fld := ⟨0x104, 0, 32⟩
/-- R101, RC. -/ def CLS_RULE_GDDR_CNT_CNT : Fld := ⟨0x108, 0, 32⟩
/-- R102, RO. -/ def CLS_BATCH_CUR_CUR_VALID : Fld := ⟨0x100, 4, 1⟩
/-- R102, RO. -/ def CLS_BATCH_CUR_CUR : Fld := ⟨0x100, 0, 4⟩
/-- R102, SC. -/ def CLS_BATCH_SWAP_GO : Fld := ⟨0x104, 31, 1⟩
/-- R102, RWP. -/ def CLS_BATCH_SWAP_NEW : Fld := ⟨0x104, 0, 4⟩
/-- R102, SC. -/ def CLS_BATCH_STAGE_GO : Fld := ⟨0x108, 31, 1⟩
/-- R102, RW. -/ def CLS_BATCH_STAGE_UNSTAGE : Fld := ⟨0x108, 8, 1⟩
/-- R102, RW. -/ def CLS_BATCH_STAGE_N : Fld := ⟨0x108, 0, 4⟩
/-- R102, W1C. -/ def CLS_BATCH_RETIRED_MAP : Fld := ⟨0x10C, 0, 16⟩
/-- R102, RO. -/ def CLS_BATCH_STATE0_STATE : Fld := ⟨0x110, 0, 32⟩
/-- R102, RO. -/ def CLS_BATCH_STATE1_STATE : Fld := ⟨0x114, 0, 32⟩
/-- R102, RO. -/ def CLS_BATCH_ERR_BATCH : Fld := ⟨0x118, 4, 4⟩
/-- R102, RO. -/ def CLS_BATCH_ERR_CAUSE : Fld := ⟨0x118, 1, 3⟩
/-- R102, W1C. -/ def CLS_BATCH_ERR_ERR : Fld := ⟨0x118, 0, 1⟩
/-- R102, RWP. -/ def CLS_TSEL_MOFF : Fld := ⟨0x11C, 0, 7⟩
/-- R102, RWP. -/ def CLS_WALK_MAX_MAX : Fld := ⟨0x120, 0, 6⟩
/-- R102, RWP. -/ def CLS_RULE_BASE_SEG : Fld := ⟨0x124, 0, 6⟩
/-- R102, RWP. -/ def CLS_REHEAT_SHARE_CAP : Fld := ⟨0x128, 8, 20⟩
/-- R102, RWP. -/ def CLS_REHEAT_SHARE_RATE : Fld := ⟨0x128, 0, 8⟩
/-- R102, RO. -/ def CLS_REHEAT_CREDIT_C : Fld := ⟨0x12C, 0, 32⟩
/-- R102, RC. -/ def CLS_REHEAT_DEFER_CNT : Fld := ⟨0x130, 0, 32⟩
/-- R102, RC. -/ def CLS_REHEAT_LIMIT_DROP_CNT : Fld := ⟨0x134, 0, 32⟩
/-- R102, RC. -/ def CLS_MISS_CNT_CNT : Fld := ⟨0x138, 0, 32⟩
/-- R102, RC. -/ def CLS_ERR_CNT_CNT : Fld := ⟨0x13C, 0, 32⟩
/-- R102, RC. -/ def CLS_ABSENT_CNT_CNT : Fld := ⟨0x140, 0, 32⟩
/-- R102, RC. -/ def CLS_DROP_CNT_CNT : Fld := ⟨0x144, 0, 32⟩
/-- R102, RO. -/ def CLS_BATCH_INFLIGHT_CNT : Fld := ⟨0x180, 0, 24⟩
/-- R102, RWP. -/ def CLS_BD_ROOT_ROOT_BASE : Fld := ⟨0x1C0, 0, 19⟩
/-- R102, RWP. -/ def CLS_BD_NROOT_NROOT : Fld := ⟨0x1C4, 0, 13⟩
/-- R102, RWP. -/ def CLS_BD_MISS_RULE : Fld := ⟨0x1C8, 0, 23⟩
/-- R102, RWP. -/ def CLS_BD_ERR_RULE : Fld := ⟨0x1CC, 0, 23⟩
/-- R130, RC. -/ def TBL_PROBE_CNT_CNT : Fld := ⟨0x100, 0, 32⟩
/-- R130, RC. -/ def TBL_HIT_CNT_CNT : Fld := ⟨0x104, 0, 32⟩
/-- R130, RC. -/ def TBL_CMISS_CNT_CNT : Fld := ⟨0x108, 0, 32⟩
/-- R130, RO. -/ def TBL_OVF_USED_USED : Fld := ⟨0x10C, 0, 15⟩
/-- R130, RWP. -/ def TBL_OVF_THR_THR : Fld := ⟨0x110, 0, 15⟩
/-- R130, RC. -/ def TBL_AGE_RACE_CNT : Fld := ⟨0x114, 0, 32⟩
/-- R130, RC. -/ def TBL_REFRESH_STALE_CNT : Fld := ⟨0x118, 0, 32⟩
/-- R130, RC. -/ def TBL_REPROBE_CNT_CNT : Fld := ⟨0x11C, 0, 32⟩
/-- R130, RC. -/ def TBL_BLOOM_FP_CNT : Fld := ⟨0x120, 0, 32⟩
/-- R130, RC. -/ def TBL_PERR_CNT_CNT : Fld := ⟨0x124, 0, 32⟩
/-- R130, W1C. -/ def TBL_PERR_ADDR_VALID : Fld := ⟨0x128, 31, 1⟩
/-- R130, RO. -/ def TBL_PERR_ADDR_KIND : Fld := ⟨0x128, 29, 2⟩
/-- R130, RO. -/ def TBL_PERR_ADDR_ADDR : Fld := ⟨0x128, 0, 29⟩
/-- R131, SC. -/ def TBLG_OP_GO : Fld := ⟨0x100, 31, 1⟩
/-- R131, RW. -/ def TBLG_OP_OPCODE : Fld := ⟨0x100, 24, 4⟩
/-- R131, RW. -/ def TBLG_OP_TABLE : Fld := ⟨0x100, 8, 6⟩
/-- R131, RW. -/ def TBLG_OP_ARG : Fld := ⟨0x100, 0, 8⟩
/-- R131, RO. -/ def TBLG_OP_STAT_CODE : Fld := ⟨0x104, 24, 8⟩
/-- R131, RO. -/ def TBLG_OP_STAT_FOUND : Fld := ⟨0x104, 23, 1⟩
/-- R131, RO. -/ def TBLG_OP_STAT_EVICTED : Fld := ⟨0x104, 22, 1⟩
/-- R131, RO. -/ def TBLG_OP_STAT_OVF : Fld := ⟨0x104, 21, 1⟩
/-- R131, RO. -/ def TBLG_OP_STAT_RELOCS : Fld := ⟨0x104, 15, 6⟩
/-- R131, RO. -/ def TBLG_OP_SLOT_SLOT : Fld := ⟨0x108, 0, 29⟩
/-- R131, RO. -/ def TBLG_EPOCH_EPOCH : Fld := ⟨0x10C, 0, 8⟩
/-- R131, RWP. -/ def TBLG_AGE_TICK_MS : Fld := ⟨0x110, 0, 16⟩
/-- R131, RWP. -/ def TBLG_SWEEP_RATE_RATE : Fld := ⟨0x114, 0, 16⟩
/-- R131, RO. -/ def TBLG_SWEEP_STAT_ROUND : Fld := ⟨0x118, 16, 16⟩
/-- R131, RO. -/ def TBLG_SWEEP_STAT_ACTIVE : Fld := ⟨0x118, 7, 1⟩
/-- R131, RO. -/ def TBLG_SWEEP_STAT_TABLE : Fld := ⟨0x118, 0, 6⟩
/-- R131, RWP. -/ def TBLG_NR_CTL_ENABLE : Fld := ⟨0x11C, 31, 1⟩
/-- R131, RWP. -/ def TBLG_NR_CTL_SIZE_LOG2 : Fld := ⟨0x11C, 0, 5⟩
/-- R131, RO. -/ def TBLG_NR_PROD_PROD : Fld := ⟨0x120, 0, 32⟩
/-- R131, RW. -/ def TBLG_NR_CONS_CONS : Fld := ⟨0x124, 0, 32⟩
/-- R131, RO. -/ def TBLG_NR_BACKLOG_DEPTH : Fld := ⟨0x128, 0, 9⟩
/-- R131, RO. -/ def TBLG_LEARN_DEPTH_DEPTH : Fld := ⟨0x12C, 0, 13⟩
/-- R131, RC. -/ def TBL_LEARN_CNT_CNT : Fld := ⟨0x130, 0, 32⟩
/-- R131, RC. -/ def TBL_LEARN_DROP_CNT : Fld := ⟨0x134, 0, 32⟩
/-- R131, RC. -/ def TBL_EVICT_CNT_CNT : Fld := ⟨0x138, 0, 32⟩
/-- R131, RC. -/ def TBL_AGE_DEL_CNT_CNT : Fld := ⟨0x13C, 0, 32⟩
/-- R131, RC. -/ def TBL_SWEEP_LATE_CNT : Fld := ⟨0x140, 0, 32⟩
/-- R131, RC. -/ def TBL_NOTE_HOLD_CNT : Fld := ⟨0x144, 0, 32⟩
/-- R131, RW. -/ def TBLG_OPBUF_DATA : Fld := ⟨0x180, 0, 32⟩
/-- R131, RO. -/ def TBLG_OPRES_DATA : Fld := ⟨0x1C0, 0, 32⟩
/-- R164, SC. -/ def ACTG_OP_GO : Fld := ⟨0x100, 31, 1⟩
/-- R164, RW. -/ def ACTG_OP_OPCODE : Fld := ⟨0x100, 24, 4⟩
/-- R164, RW. -/ def ACTG_OP_INDEX : Fld := ⟨0x100, 0, 21⟩
/-- R164, RO. -/ def ACTG_OP_STAT_CODE : Fld := ⟨0x104, 24, 8⟩
/-- R164, RWP. -/ def ACTG_LAYOUT_COLOR_EN : Fld := ⟨0x108, 31, 1⟩
/-- R164, RWP. -/ def ACTG_LAYOUT_COLOR_MOFF : Fld := ⟨0x108, 8, 7⟩
/-- R164, RWP. -/ def ACTG_LAYOUT_L3_MOFF : Fld := ⟨0x108, 0, 7⟩
/-- R164, RWP. -/ def ACTG_TRACE_CTL_ENABLE : Fld := ⟨0x10C, 31, 1⟩
/-- R164, RWP. -/ def ACTG_TRACE_CTL_SIZE_LOG2 : Fld := ⟨0x10C, 0, 5⟩
/-- R164, RWP. -/ def ACTG_TRACE_RATE_N : Fld := ⟨0x110, 0, 24⟩
/-- R164, RO. -/ def ACTG_TRACE_PROD_PROD : Fld := ⟨0x114, 0, 32⟩
/-- R164, RW. -/ def ACTG_TRACE_CONS_CONS : Fld := ⟨0x118, 0, 32⟩
/-- R164, RC. -/ def ACTG_TRACE_LOST_CNT : Fld := ⟨0x11C, 0, 32⟩
/-- R164, RO. -/ def ACTG_TRACE_BACKLOG_DEPTH : Fld := ⟨0x120, 0, 10⟩
/-- R164, RW. -/ def ACTG_OPBUF_DATA : Fld := ⟨0x140, 0, 32⟩
/-- R164, RO. -/ def ACTG_OPRES_DATA : Fld := ⟨0x180, 0, 32⟩
/-- R164, RC. -/ def ACTG_DROP_CNT : Fld := ⟨0x200, 0, 32⟩
/-- R166, RO. -/ def CRU_FREE_CELLS : Fld := ⟨0x100, 0, 19⟩
/-- R166, RO. -/ def CRU_DEEP_FREE_CELLS : Fld := ⟨0x104, 0, 26⟩
/-- R166, RWP. -/ def CRU_RESERVE_CELLS : Fld := ⟨0x108, 0, 19⟩
/-- R166, RWP. -/ def CRU_SPILL_THR_CELLS : Fld := ⟨0x10C, 0, 19⟩
/-- R166, RWP. -/ def CRU_FREE_LOW_CELLS : Fld := ⟨0x110, 0, 19⟩
/-- R166, RC. -/ def CRU_FREE_MIN_CELLS : Fld := ⟨0x114, 0, 19⟩
/-- R166, RWP. -/ def CRU_DEEP_CTL_ENABLE : Fld := ⟨0x118, 31, 1⟩
/-- R166, RC. -/ def CRU_STALE_CNT_CNT : Fld := ⟨0x11C, 0, 32⟩
/-- R166, RC. -/ def CRU_HOST_WAIT_CNT : Fld := ⟨0x120, 0, 32⟩
/-- R166, RC. -/ def CRU_CELL_UE_CNT : Fld := ⟨0x124, 0, 32⟩
/-- R168, RWP. -/ def SCH_PORT_RATE_KBPS : Fld := ⟨0x100, 0, 32⟩
/-- R168, RWP. -/ def SCH_BURST_BYTES : Fld := ⟨0x104, 0, 24⟩
/-- R168, RWP. -/ def SCH_COLOR_YFRAC : Fld := ⟨0x108, 8, 8⟩
/-- R168, RWP. -/ def SCH_COLOR_RFRAC : Fld := ⟨0x108, 0, 8⟩
/-- R168, RO. -/ def SCH_PAUSED_LINK_UP : Fld := ⟨0x10C, 8, 1⟩
/-- R168, RO. -/ def SCH_PAUSED_TC : Fld := ⟨0x10C, 0, 8⟩
/-- R168, RWP. -/ def SCH_TC_CFG_SP : Fld := ⟨0x140, 31, 1⟩
/-- R168, RWP. -/ def SCH_TC_CFG_QUANTUM : Fld := ⟨0x140, 0, 24⟩
/-- R168, RWP. -/ def SCH_TC_RATE_KBPS : Fld := ⟨0x144, 0, 32⟩
/-- R168, RWP. -/ def SCH_TC_GLIM_CELLS : Fld := ⟨0x148, 0, 26⟩
/-- R168, RO. -/ def SCH_TC_DEPTH_CELLS : Fld := ⟨0x14C, 0, 26⟩
/-- R169, RWP. -/ def SCHH_MGR_RATE_KBPS : Fld := ⟨0x100, 0, 32⟩
/-- R169, RWP. -/ def SCHH_STO_LIM_CELLS : Fld := ⟨0x104, 0, 26⟩
/-- R169, RO. -/ def SCHH_DEPTH_CELLS : Fld := ⟨0x108, 0, 26⟩
/-- R200, RO. -/ def LEH_BSTAT_FENCED : Fld := ⟨0x10, 24, 8⟩
/-- R200, RO. -/ def LEH_BSTAT_BUSY : Fld := ⟨0x10, 16, 8⟩
/-- R200, RO. -/ def LEH_FENCE_MAP : Fld := ⟨0x100, 0, 32⟩
/-- R200, RC. -/ def LEH_BLOCK_CNT_CNT : Fld := ⟨0x110, 0, 32⟩
/-- R200, RC. -/ def LEH_CHECK_CNT_CNT : Fld := ⟨0x114, 0, 32⟩
/-- R200, RC. -/ def LEH_MISMATCH_CNT_CNT : Fld := ⟨0x118, 0, 32⟩
/-- R200, RC. -/ def LEH_KAT_CNT_CNT : Fld := ⟨0x11C, 0, 32⟩
/-- R200, RC. -/ def LEH_CACHE_MISS_CNT : Fld := ⟨0x120, 0, 32⟩
/-- R201, RWP. -/ def LEHG_CM_CTL_SPOT_OFF : Fld := ⟨0x100, 4, 1⟩
/-- R201, RWP. -/ def LEHG_CM_CTL_RANDCELL_OFF : Fld := ⟨0x100, 3, 1⟩
/-- R201, RWP. -/ def LEHG_CM_CTL_SHUFFLE_OFF : Fld := ⟨0x100, 2, 1⟩
/-- R201, RWP. -/ def LEHG_CM_CTL_DUMMY_OFF : Fld := ⟨0x100, 1, 1⟩
/-- R201, RWP. -/ def LEHG_CM_CTL_VERIFY_ALL : Fld := ⟨0x100, 0, 1⟩
/-- R201, RWP. -/ def LEHG_STRIPE_THR : Fld := ⟨0x104, 8, 13⟩
/-- R201, RWP. -/ def LEHG_STRIPE_MAXCL : Fld := ⟨0x104, 0, 5⟩
/-- R201, RWP. -/ def LEHG_KAT_PERIOD_MS : Fld := ⟨0x108, 0, 10⟩
/-- R201, RO. -/ def LEHG_JOB_DEPTH_DEPTH : Fld := ⟨0x10C, 0, 15⟩
/-- R201, RC. -/ def LEHG_JOB_CNT_CNT : Fld := ⟨0x110, 0, 32⟩
/-- R201, RC. -/ def LEHG_AUTH_CNT_CNT : Fld := ⟨0x114, 0, 32⟩
/-- R201, RC. -/ def LEHG_ACCESS_CNT_CNT : Fld := ⟨0x118, 0, 32⟩
/-- R201, RC. -/ def LEHG_MALFORMED_CNT_CNT : Fld := ⟨0x11C, 0, 32⟩
/-- R201, RC. -/ def LEHG_RERUN_CNT_CNT : Fld := ⟨0x120, 0, 32⟩
/-- R201, RC. -/ def LEHG_FAULT_CNT_CNT : Fld := ⟨0x124, 0, 32⟩
/-- R201, RC. -/ def LEHG_DRBG_STALL_CNT : Fld := ⟨0x128, 0, 32⟩
/-- R202, SC. -/ def KEY_OP_GO : Fld := ⟨0x100, 31, 1⟩
/-- R202, RW. -/ def KEY_OP_OPCODE : Fld := ⟨0x100, 24, 4⟩
/-- R202, RW. -/ def KEY_OP_PAIR : Fld := ⟨0x100, 20, 1⟩
/-- R202, RW. -/ def KEY_OP_SLOT : Fld := ⟨0x100, 0, 20⟩
/-- R202, RO. -/ def KEY_OP_STAT_CODE : Fld := ⟨0x104, 24, 8⟩
/-- R202, RW. -/ def KEY_DESC_DATA : Fld := ⟨0x108, 0, 32⟩
/-- R202, RC. -/ def KEY_STALE_CNT_CNT : Fld := ⟨0x118, 0, 32⟩
/-- R202, RC. -/ def KEY_UNWRAP_FAIL_CNT : Fld := ⟨0x11C, 0, 32⟩
/-- R202, RO. -/ def KEY_IN_USE_CNT : Fld := ⟨0x120, 0, 21⟩
/-- R202, WO. -/ def KEY_KBUF_DATA : Fld := ⟨0x140, 0, 32⟩
/-- R202, WO. -/ def KEY_KBUF_DATA_180 : Fld := ⟨0x180, 0, 32⟩
/-- R221, SC. -/ def SXP_OP_GO : Fld := ⟨0x100, 31, 1⟩
/-- R221, RW. -/ def SXP_OP_OPCODE : Fld := ⟨0x100, 24, 4⟩
/-- R221, RW. -/ def SXP_OP_SA : Fld := ⟨0x100, 0, 20⟩
/-- R221, RO. -/ def SXP_OP_STAT_CODE : Fld := ⟨0x104, 24, 8⟩
/-- R221, RC. -/ def SXP_LIMIT_FIFO_VALID : Fld := ⟨0x108, 31, 1⟩
/-- R221, RC. -/ def SXP_LIMIT_FIFO_HARD : Fld := ⟨0x108, 30, 1⟩
/-- R221, RC. -/ def SXP_LIMIT_FIFO_SA : Fld := ⟨0x108, 0, 20⟩
/-- R221, RC. -/ def SXP_LIMIT_LOST_CNT : Fld := ⟨0x10C, 0, 32⟩
/-- R221, RW. -/ def SXP_OPBUF_DATA : Fld := ⟨0x180, 0, 32⟩
/-- R221, RO. -/ def SXP_OPRES_DATA : Fld := ⟨0x200, 0, 32⟩
/-- R221, RC. -/ def SXP_DISC_CNT : Fld := ⟨0x284, 0, 32⟩
/-- R246, SC. -/ def STO_OP_GO : Fld := ⟨0x100, 31, 1⟩
/-- R246, RW. -/ def STO_OP_OPCODE : Fld := ⟨0x100, 24, 4⟩
/-- R246, RW. -/ def STO_OP_INDEX : Fld := ⟨0x100, 0, 18⟩
/-- R246, RO. -/ def STO_OP_STAT_CODE : Fld := ⟨0x104, 24, 8⟩
/-- R246, RC. -/ def STO_CMD_CNT_CNT : Fld := ⟨0x108, 0, 32⟩
/-- R246, RC. -/ def STO_LATE_CNT_CNT : Fld := ⟨0x10C, 0, 32⟩
/-- R246, RC. -/ def STO_HDGST_ERR_CNT : Fld := ⟨0x110, 0, 32⟩
/-- R246, RC. -/ def STO_DDGST_ERR_CNT : Fld := ⟨0x114, 0, 32⟩
/-- R246, RC. -/ def STO_RETX_CNT_CNT : Fld := ⟨0x118, 0, 32⟩
/-- R246, RC. -/ def STO_SES_FAIL_CNT : Fld := ⟨0x11C, 0, 32⟩
/-- R246, RC. -/ def STO_ORPHAN_CNT : Fld := ⟨0x120, 0, 32⟩
/-- R246, RC. -/ def STO_OOO_DROP_CNT : Fld := ⟨0x124, 0, 32⟩
/-- R246, RO. -/ def STO_READY_CNT : Fld := ⟨0x128, 0, 17⟩
/-- R246, RW. -/ def STO_OPBUF_DATA : Fld := ⟨0x180, 0, 32⟩
/-- R246, RO. -/ def STO_OPRES_DATA : Fld := ⟨0x200, 0, 32⟩
/-- R269, RO. -/ def MAC_BSTAT_LANES : Fld := ⟨0x10, 8, 8⟩
/-- R269, RWP. -/ def MAC_CFG_FC_MODE : Fld := ⟨0x100, 4, 2⟩
/-- R269, RWP. -/ def MAC_CFG_TX_EN : Fld := ⟨0x100, 2, 1⟩
/-- R269, RWP. -/ def MAC_CFG_RX_EN : Fld := ⟨0x100, 1, 1⟩
/-- R269, RWP. -/ def MAC_MAX_FRAME_BYTES : Fld := ⟨0x104, 0, 14⟩
/-- R269, RWP. -/ def MAC_PCP_MAP_DEF_PRIO : Fld := ⟨0x108, 24, 3⟩
/-- R269, RWP. -/ def MAC_PCP_MAP_MAP : Fld := ⟨0x108, 0, 24⟩
/-- R269, RWP. -/ def MAC_PFC_MAP_MAP : Fld := ⟨0x10C, 0, 24⟩
/-- R269, RWP. -/ def MAC_FC_TX_REFRESH : Fld := ⟨0x110, 16, 16⟩
/-- R269, RWP. -/ def MAC_FC_TX_QUANTA : Fld := ⟨0x110, 0, 16⟩
/-- R269, RWP. -/ def MAC_PAUSE_WDOG_US : Fld := ⟨0x114, 0, 20⟩
/-- R269, RWP. -/ def MAC_PAUSE_HOLD_MS : Fld := ⟨0x118, 0, 16⟩
/-- R269, RWP. -/ def MAC_TX_START_BASE_BYTES : Fld := ⟨0x11C, 0, 14⟩
/-- R269, RO. -/ def MAC_TX_START_CUR_BYTES : Fld := ⟨0x120, 0, 14⟩
/-- R269, RWP. -/ def MAC_TX_START_CEIL_BYTES : Fld := ⟨0x124, 0, 14⟩
/-- R269, RWP. -/ def MAC_TAG_CTL_RX_PVID_EN : Fld := ⟨0x128, 31, 1⟩
/-- R269, RWP. -/ def MAC_TAG_CTL_TX_STRIP_EN : Fld := ⟨0x128, 30, 1⟩
/-- R269, RWP. -/ def MAC_TAG_CTL_TX_PUSH_EN : Fld := ⟨0x128, 29, 1⟩
/-- R269, RWP. -/ def MAC_TAG_CTL_RX_SVLAN : Fld := ⟨0x128, 28, 1⟩
/-- R269, RWP. -/ def MAC_TAG_CTL_TX_SVLAN : Fld := ⟨0x128, 27, 1⟩
/-- R269, RWP. -/ def MAC_TAG_CTL_UNTAG_VID : Fld := ⟨0x128, 0, 12⟩
/-- R269, RWP. -/ def MAC_TAG_TCI_PUSH_TCI : Fld := ⟨0x12C, 16, 16⟩
/-- R269, RWP. -/ def MAC_TAG_TCI_PVID_TCI : Fld := ⟨0x12C, 0, 16⟩
/-- R269, RWP. -/ def MAC_TS_CFG_ONE_STEP_EN : Fld := ⟨0x130, 0, 1⟩
/-- R269, RWP. -/ def MAC_TS_RX_ADJ_ADJ : Fld := ⟨0x134, 0, 32⟩
/-- R269, RWP. -/ def MAC_TS_TX_ADJ_ADJ : Fld := ⟨0x138, 0, 32⟩
/-- R269, RO. -/ def MAC_TS_DEPTH_DEPTH : Fld := ⟨0x13C, 0, 7⟩
/-- R269, RO. -/ def MAC_LINK_ALL_LOCK : Fld := ⟨0x140, 11, 1⟩
/-- R269, RO. -/ def MAC_LINK_FEC_DEGRADED : Fld := ⟨0x140, 10, 1⟩
/-- R269, RO. -/ def MAC_LINK_RX_REMOTE_FAULT : Fld := ⟨0x140, 9, 1⟩
/-- R269, RO. -/ def MAC_LINK_RX_LOCAL_FAULT : Fld := ⟨0x140, 8, 1⟩
/-- R269, RO. -/ def MAC_LINK_STATE : Fld := ⟨0x140, 0, 3⟩
/-- R269, RWP. -/ def MAC_LINK_CFG_UP_HOLD : Fld := ⟨0x144, 0, 16⟩
/-- R269, RWP. -/ def MAC_FEC_DEGRADE_THR : Fld := ⟨0x148, 0, 20⟩
/-- R269, RO. -/ def MAC_SNAP_SEQ : Fld := ⟨0x14C, 8, 8⟩
/-- R269, SC. -/ def MAC_SNAP_GO : Fld := ⟨0x14C, 0, 1⟩
/-- R269, RWP. -/ def MAC_SA_LO_SA : Fld := ⟨0x150, 0, 32⟩
/-- R269, RWP. -/ def MAC_SA_HI_SA : Fld := ⟨0x154, 0, 16⟩
/-- R269, RC. -/ def MAC_WDOG_CNT_CNT : Fld := ⟨0x158, 0, 32⟩
/-- R269, RC. -/ def MAC_UNDERRUN_CNT_CNT : Fld := ⟨0x15C, 0, 32⟩
/-- R269, RC. -/ def MAC_LINKDOWN_CNT_CNT : Fld := ⟨0x160, 0, 32⟩
/-- R271, RO. -/ def PCS_MODE_BUSY : Fld := ⟨0x100, 31, 1⟩
/-- R271, RWP. -/ def PCS_MODE_MODE : Fld := ⟨0x100, 0, 2⟩
/-- R271, RWP. -/ def PCS_LANE_POL_RX_INV : Fld := ⟨0x104, 8, 8⟩
/-- R271, RWP. -/ def PCS_LANE_POL_TX_INV : Fld := ⟨0x104, 0, 8⟩
/-- R271, RWP. -/ def PCS_LANE_TXEQ_TAPS : Fld := ⟨0x140, 0, 32⟩
/-- R271, RS. -/ def PCS_LANE_STAT_SNR : Fld := ⟨0x160, 8, 8⟩
/-- R271, RS. -/ def PCS_LANE_STAT_SIGNAL : Fld := ⟨0x160, 1, 1⟩
/-- R271, RS. -/ def PCS_LANE_STAT_CDR_LOCK : Fld := ⟨0x160, 0, 1⟩
/-- R271, RWP. -/ def CAGE_CTL_BUDGET : Fld := ⟨0x180, 16, 8⟩
/-- R271, RWP. -/ def CAGE_CTL_FAST : Fld := ⟨0x180, 8, 1⟩
/-- R271, RWP. -/ def CAGE_CTL_LPWN : Fld := ⟨0x180, 2, 1⟩
/-- R271, RWP. -/ def CAGE_CTL_RESET : Fld := ⟨0x180, 1, 1⟩
/-- R271, RWP. -/ def CAGE_CTL_PWR_EN : Fld := ⟨0x180, 0, 1⟩
/-- R271, RO. -/ def CAGE_STAT_PWR_GOOD : Fld := ⟨0x184, 2, 1⟩
/-- R271, RO. -/ def CAGE_STAT_INT : Fld := ⟨0x184, 1, 1⟩
/-- R271, RO. -/ def CAGE_STAT_PRESENT : Fld := ⟨0x184, 0, 1⟩
/-- R271, SC. -/ def CAGE_TWI_GO : Fld := ⟨0x188, 31, 1⟩
/-- R271, RW. -/ def CAGE_TWI_RD : Fld := ⟨0x188, 30, 1⟩
/-- R271, RW. -/ def CAGE_TWI_WDATA : Fld := ⟨0x188, 16, 8⟩
/-- R271, RW. -/ def CAGE_TWI_ADDR : Fld := ⟨0x188, 0, 8⟩
/-- R271, RO. -/ def CAGE_TWI_STAT_NACK : Fld := ⟨0x18C, 8, 1⟩
/-- R271, RO. -/ def CAGE_TWI_STAT_RDATA : Fld := ⟨0x18C, 0, 8⟩
/-- R272, RO. -/ def MACG_SNAP_SEQ : Fld := ⟨0x100, 8, 8⟩
/-- R272, SC. -/ def MACG_SNAP_GO : Fld := ⟨0x100, 0, 1⟩
/-- R297, RS. -/ def HIF_LINK_DL_UP : Fld := ⟨0x100, 31, 1⟩
/-- R297, RS. -/ def HIF_LINK_FLIT : Fld := ⟨0x100, 30, 1⟩
/-- R297, RS. -/ def HIF_LINK_WIDTH : Fld := ⟨0x100, 8, 5⟩
/-- R297, RS. -/ def HIF_LINK_SPEED : Fld := ⟨0x100, 0, 3⟩
/-- R297, RO. -/ def HIF_CFG_SRIS : Fld := ⟨0x104, 1, 1⟩
/-- R297, RO. -/ def HIF_CFG_SPLIT : Fld := ⟨0x104, 0, 1⟩
/-- R297, RC. -/ def HIF_CPL_TO_CNT_CNT : Fld := ⟨0x108, 0, 32⟩
/-- R297, RC. -/ def HIF_POISON_CNT_CNT : Fld := ⟨0x10C, 0, 32⟩
/-- R297, RC. -/ def HIF_UR_CNT_CNT : Fld := ⟨0x110, 0, 32⟩
/-- R297, RC. -/ def HIF_ATS_INV_CNT_CNT : Fld := ⟨0x114, 0, 32⟩
/-- R297, RC. -/ def HIF_PRI_FAIL_CNT_CNT : Fld := ⟨0x118, 0, 32⟩
/-- R297, RWP. -/ def HIF_PRI_TO_MS : Fld := ⟨0x11C, 0, 16⟩
/-- R297, RW. -/ def HIF_SIT_SEL_SLICE : Fld := ⟨0x120, 4, 12⟩
/-- R297, RW. -/ def HIF_SIT_SEL_ENTRY : Fld := ⟨0x120, 0, 4⟩
/-- R297, RW. -/ def HIF_SIT_ADDR_LO_ADDR : Fld := ⟨0x124, 2, 30⟩
/-- R297, RW. -/ def HIF_SIT_ADDR_HI_ADDR : Fld := ⟨0x128, 0, 32⟩
/-- R297, RW. -/ def HIF_SIT_DATA_DATA : Fld := ⟨0x12C, 0, 32⟩
/-- R297, SC. -/ def HIF_SIT_OP_GO : Fld := ⟨0x130, 31, 1⟩
/-- R297, RW. -/ def HIF_SIT_OP_OP : Fld := ⟨0x130, 0, 2⟩
/-- R297, RO. -/ def HIF_SIT_STAT_CODE : Fld := ⟨0x134, 0, 8⟩
/-- R297, RC. -/ def HIF_TEE_REJ_CNT_CNT : Fld := ⟨0x138, 0, 32⟩
/-- R297, RO. -/ def HIF_RD_OUTST_CNT : Fld := ⟨0x13C, 0, 13⟩
/-- R314, SC. -/ def SLC_OP_GO : Fld := ⟨0x100, 31, 1⟩
/-- R314, RW. -/ def SLC_OP_OPCODE : Fld := ⟨0x100, 24, 4⟩
/-- R314, RW. -/ def SLC_OP_SLICE : Fld := ⟨0x100, 0, 12⟩
/-- R314, RO. -/ def SLC_OP_STAT_CODE : Fld := ⟨0x104, 24, 8⟩
/-- R314, RO. -/ def SLC_COUNT_CNT : Fld := ⟨0x108, 0, 13⟩
/-- R314, RO. -/ def SLC_QUAR_CNT : Fld := ⟨0x10C, 0, 13⟩
/-- R314, RWP. -/ def SLC_QUAR_MIN_MS : Fld := ⟨0x110, 0, 16⟩
/-- R314, RC. -/ def SLC_STALE_CNT_CNT : Fld := ⟨0x114, 0, 32⟩
/-- R314, W1C. -/ def SLC_LAST_STALE_VALID : Fld := ⟨0x118, 31, 1⟩
/-- R314, RO. -/ def SLC_LAST_STALE_KIND : Fld := ⟨0x118, 28, 3⟩
/-- R314, RO. -/ def SLC_LAST_STALE_INCARNATION : Fld := ⟨0x118, 20, 8⟩
/-- R314, RO. -/ def SLC_LAST_STALE_SLICE : Fld := ⟨0x118, 0, 12⟩
/-- R314, RC. -/ def SLC_CONF_REJ_CNT : Fld := ⟨0x11C, 0, 32⟩
/-- R314, RW. -/ def SLC_OPBUF_DATA : Fld := ⟨0x180, 0, 32⟩
/-- R314, RO. -/ def SLC_OPRES_DATA : Fld := ⟨0x200, 0, 32⟩
/-- R337, SC. -/ def QUE_OP_GO : Fld := ⟨0x100, 31, 1⟩
/-- R337, RW. -/ def QUE_OP_OPCODE : Fld := ⟨0x100, 24, 4⟩
/-- R337, RW. -/ def QUE_OP_QUEUE : Fld := ⟨0x100, 0, 16⟩
/-- R337, RO. -/ def QUE_OP_STAT_CODE : Fld := ⟨0x104, 24, 8⟩
/-- R337, RW. -/ def QUE_QSEL_QUEUE : Fld := ⟨0x108, 0, 16⟩
/-- R337, WO. -/ def QUE_QCTL_RESUME : Fld := ⟨0x10C, 2, 1⟩
/-- R337, WO. -/ def QUE_QCTL_RESET : Fld := ⟨0x10C, 1, 1⟩
/-- R337, RW. -/ def QUE_QCTL_ENABLE : Fld := ⟨0x10C, 0, 1⟩
/-- R337, RO. -/ def QUE_QSTAT_BACKLOG : Fld := ⟨0x110, 24, 7⟩
/-- R337, RO. -/ def QUE_QSTAT_HOLD : Fld := ⟨0x110, 23, 1⟩
/-- R337, RO. -/ def QUE_QSTAT_INFLIGHT : Fld := ⟨0x110, 16, 7⟩
/-- R337, RO. -/ def QUE_QSTAT_QGEN : Fld := ⟨0x110, 8, 8⟩
/-- R337, RO. -/ def QUE_QSTAT_STATE : Fld := ⟨0x110, 0, 3⟩
/-- R337, RO. -/ def QUE_QERR_IDX_IDX : Fld := ⟨0x114, 0, 32⟩
/-- R337, RO. -/ def QUE_QERR_CODE_CODE : Fld := ⟨0x118, 0, 8⟩
/-- R337, RO. -/ def QUE_SQ_PI_PI : Fld := ⟨0x11C, 0, 32⟩
/-- R337, RO. -/ def QUE_SQ_CI_CI : Fld := ⟨0x120, 0, 32⟩
/-- R337, RO. -/ def QUE_CQ_PI_PI : Fld := ⟨0x124, 0, 32⟩
/-- R337, RO. -/ def QUE_CQ_CI_CI : Fld := ⟨0x128, 0, 32⟩
/-- R337, RO. -/ def QUE_COUNT_CNT : Fld := ⟨0x12C, 0, 17⟩
/-- R337, RC. -/ def QUE_ERR_CNT_CNT : Fld := ⟨0x130, 0, 32⟩
/-- R337, RC. -/ def QUE_STALE_CNT_CNT : Fld := ⟨0x134, 0, 32⟩
/-- R337, RC. -/ def QUE_CQ_FULL_CNT_CNT : Fld := ⟨0x138, 0, 32⟩
/-- R337, RC. -/ def QUE_RX_TRUNC_CNT_CNT : Fld := ⟨0x13C, 0, 32⟩
/-- R337, RC. -/ def QUE_DB_DROP_CNT : Fld := ⟨0x140, 0, 32⟩
/-- R337, RC. -/ def QUE_CMD_IGN_CNT : Fld := ⟨0x144, 0, 32⟩
/-- R337, RW. -/ def QUE_OPBUF_DATA : Fld := ⟨0x180, 0, 32⟩
/-- R337, RO. -/ def QUE_OPRES_DATA : Fld := ⟨0x1C0, 0, 32⟩
/-- R351, RWP. -/ def BLP_HEAD_LO_ADDR : Fld := ⟨0x100, 5, 27⟩
/-- R351, RWP. -/ def BLP_HEAD_LO_SPACE : Fld := ⟨0x100, 0, 1⟩
/-- R351, RWP. -/ def BLP_HEAD_HI_ADDR : Fld := ⟨0x104, 0, 3⟩
/-- R351, SC. -/ def BLP_CTL_GO : Fld := ⟨0x108, 31, 1⟩
/-- R351, SC. -/ def BLP_CTL_STOP : Fld := ⟨0x108, 30, 1⟩
/-- R351, RWP. -/ def BLP_CTL_TRIG_EN : Fld := ⟨0x108, 0, 1⟩
/-- R351, RO. -/ def BLP_STAT_ERR : Fld := ⟨0x10C, 8, 8⟩
/-- R351, RO. -/ def BLP_STAT_TRIG_PEND : Fld := ⟨0x10C, 3, 1⟩
/-- R351, RO. -/ def BLP_STAT_STATE : Fld := ⟨0x10C, 0, 3⟩
/-- R351, RO. -/ def BLP_CUR_LO_ADDR : Fld := ⟨0x110, 0, 32⟩
/-- R351, RO. -/ def BLP_CUR_HI_ADDR : Fld := ⟨0x114, 0, 3⟩
/-- R351, RO. -/ def BLP_REMAIN_BYTES : Fld := ⟨0x118, 0, 25⟩
/-- R351, RO. -/ def BLP_DESC_CNT_CNT : Fld := ⟨0x11C, 0, 32⟩
/-- R351, RWP. -/ def BLP_DESC_MAX_MAX : Fld := ⟨0x120, 0, 24⟩
/-- R351, RC. -/ def BLP_GO_IGN_CNT : Fld := ⟨0x124, 0, 32⟩
/-- R351, RC. -/ def BLP_ERR_CNT_CNT : Fld := ⟨0x128, 0, 32⟩
/-- R368, WO. -/ def EVTG_SWSET_SW : Fld := ⟨0x100, 0, 16⟩
/-- R368, RC. -/ def EVTG_MERGE_CNT_CNT : Fld := ⟨0x104, 0, 32⟩
/-- R368, RWP. -/ def EVT_RTA_HOST_EN : Fld := ⟨0x100, 31, 1⟩
/-- R368, RWP. -/ def EVT_RTA_HOST_PORT : Fld := ⟨0x100, 30, 1⟩
/-- R368, RWP. -/ def EVT_RTA_VECTOR : Fld := ⟨0x100, 16, 11⟩
/-- R368, RWP. -/ def EVT_RTA_CPX_EN : Fld := ⟨0x100, 15, 1⟩
/-- R368, RWP. -/ def EVT_RTA_PAIR : Fld := ⟨0x100, 12, 2⟩
/-- R368, RWP. -/ def EVT_RTA_LINE : Fld := ⟨0x100, 0, 6⟩
/-- R368, RWP. -/ def EVT_RTB_MASK : Fld := ⟨0x104, 31, 1⟩
/-- R368, RWP. -/ def EVT_RTB_AUTOCLR : Fld := ⟨0x104, 30, 1⟩
/-- R368, RWP. -/ def EVT_RTB_MOVER_EN : Fld := ⟨0x104, 23, 1⟩
/-- R368, RWP. -/ def EVT_RTB_MOVER : Fld := ⟨0x104, 16, 6⟩
/-- R368, RWP. -/ def EVT_RTB_BOUT_EN : Fld := ⟨0x104, 15, 1⟩
/-- R368, RWP. -/ def EVT_RTB_BOUT : Fld := ⟨0x104, 8, 2⟩
/-- R368, RO. -/ def EVT_RAW_RAW : Fld := ⟨0x100, 0, 32⟩
/-- R368, W1C. -/ def EVT_PEND_PEND : Fld := ⟨0x140, 0, 32⟩
/-- R368, RWP. -/ def EVT_BIN_CFG_POL : Fld := ⟨0x100, 31, 1⟩
/-- R368, RWP. -/ def EVT_BIN_CFG_MIN_PW : Fld := ⟨0x100, 16, 8⟩
/-- R368, RWP. -/ def EVT_BIN_CFG_HOLDOFF : Fld := ⟨0x100, 0, 16⟩
/-- R368, RWP. -/ def EVT_BIN_STUCK_STUCK : Fld := ⟨0x104, 0, 16⟩
/-- R368, W1C. -/ def EVT_BIN_STAT_STUCK : Fld := ⟨0x120, 4, 4⟩
/-- R368, RS. -/ def EVT_BIN_STAT_LEVEL : Fld := ⟨0x120, 0, 4⟩
/-- R368, RC. -/ def EVT_BIN_HOLD_CNT_CNT : Fld := ⟨0x124, 0, 32⟩
/-- R368, RWP. -/ def EVT_BOUT_CTL_POL0 : Fld := ⟨0x128, 2, 1⟩
/-- R368, RWP. -/ def EVT_BOUT_CTL_POL1 : Fld := ⟨0x128, 6, 1⟩
/-- R368, RWP. -/ def EVT_BOUT_CTL_POL2 : Fld := ⟨0x128, 10, 1⟩
/-- R368, RWP. -/ def EVT_BOUT_CTL_POL3 : Fld := ⟨0x128, 14, 1⟩
/-- R368, RWP. -/ def EVT_BOUT_CTL_MODE0 : Fld := ⟨0x128, 0, 2⟩
/-- R368, RWP. -/ def EVT_BOUT_CTL_MODE1 : Fld := ⟨0x128, 4, 2⟩
/-- R368, RWP. -/ def EVT_BOUT_CTL_MODE2 : Fld := ⟨0x128, 8, 2⟩
/-- R368, RWP. -/ def EVT_BOUT_CTL_MODE3 : Fld := ⟨0x128, 12, 2⟩
/-- R368, RWP. -/ def EVT_WAKE_EN : Fld := ⟨0x130, 0, 32⟩
/-- R368, RWP. -/ def EVT_WAKE2_EN : Fld := ⟨0x138, 0, 16⟩
/-- R396, RO. -/ def OTP_STAT_PROG_BUSY : Fld := ⟨0x100, 31, 1⟩
/-- R396, RO. -/ def OTP_STAT_LIFECYCLE : Fld := ⟨0x100, 24, 3⟩
/-- R396, RO. -/ def OTP_STAT_BLANK : Fld := ⟨0x100, 16, 8⟩
/-- R396, RO. -/ def OTP_STAT_SKIPPED : Fld := ⟨0x100, 8, 8⟩
/-- R396, RO. -/ def OTP_STAT_DEFAULTS : Fld := ⟨0x100, 4, 1⟩
/-- R396, RO. -/ def OTP_STAT_GOVERN : Fld := ⟨0x100, 0, 3⟩
/-- R396, RO. -/ def OTP_LIVE0_BYTES4_7 : Fld := ⟨0x104, 0, 32⟩
/-- R396, RO. -/ def OTP_LIVE1_PAD_LATCH : Fld := ⟨0x108, 0, 32⟩
/-- R396, RO. -/ def OTP_LIVE2_SVN : Fld := ⟨0x10C, 0, 32⟩
/-- R396, RO. -/ def OTP_BOOT_IMAGE : Fld := ⟨0x110, 12, 1⟩
/-- R396, RO. -/ def OTP_BOOT_ERR : Fld := ⟨0x110, 8, 4⟩
/-- R396, RO. -/ def OTP_BOOT_STAGE : Fld := ⟨0x110, 0, 4⟩
/-- R396, RO. -/ def OTP_SERIAL_LO_SERIAL : Fld := ⟨0x114, 0, 32⟩
/-- R396, RO. -/ def OTP_SERIAL_HI_SERIAL : Fld := ⟨0x118, 0, 32⟩
/-- R397, RO. -/ def MBX_MSUM_RX : Fld := ⟨0x40, 0, 32⟩
/-- R397, RO. -/ def MBX_FSUM_RX : Fld := ⟨0x44, 0, 32⟩
/-- R418, SC. -/ def RST_CTL_GO : Fld := ⟨0x100, 31, 1⟩
/-- R418, WO. -/ def RST_CTL_CONFIRM : Fld := ⟨0x100, 12, 16⟩
/-- R418, WO. -/ def RST_CTL_KIND : Fld := ⟨0x100, 0, 4⟩
/-- R418, RO. -/ def RST_CAUSE_LAST : Fld := ⟨0x104, 28, 4⟩
/-- R418, RO. -/ def RST_CAUSE_SRC : Fld := ⟨0x104, 26, 2⟩
/-- R418, W1C. -/ def RST_CAUSE_HOST1 : Fld := ⟨0x104, 9, 1⟩
/-- R418, W1C. -/ def RST_CAUSE_HOST0 : Fld := ⟨0x104, 8, 1⟩
/-- R418, W1C. -/ def RST_CAUSE_WELBOR : Fld := ⟨0x104, 0, 1⟩
/-- R418, RO. -/ def RST_CNT_CNT : Fld := ⟨0x108, 0, 32⟩
/-- R419, RS. -/ def PWR_STATE_BUSY : Fld := ⟨0x100, 31, 1⟩
/-- R419, RS. -/ def PWR_STATE_TARGET : Fld := ⟨0x100, 8, 3⟩
/-- R419, RS. -/ def PWR_STATE_STATE : Fld := ⟨0x100, 0, 3⟩
/-- R419, SC. -/ def PWR_REQ_GO : Fld := ⟨0x104, 31, 1⟩
/-- R419, RW. -/ def PWR_REQ_TARGET : Fld := ⟨0x104, 0, 3⟩
/-- R419, W1C. -/ def PWR_REQ_STAT_REFUSED : Fld := ⟨0x108, 31, 1⟩
/-- R419, RO. -/ def PWR_REQ_STAT_CAUSE : Fld := ⟨0x108, 0, 4⟩
/-- R419, RWP. -/ def PWR_CFG_L12_WAIT : Fld := ⟨0x10C, 24, 8⟩
/-- R419, RWP. -/ def PWR_CFG_L1_IDLE : Fld := ⟨0x10C, 8, 16⟩
/-- R419, RWP. -/ def PWR_CFG_WARM_FW : Fld := ⟨0x10C, 2, 1⟩
/-- R419, RWP. -/ def PWR_CFG_DOZE_RET : Fld := ⟨0x10C, 1, 1⟩
/-- R419, RWP. -/ def PWR_CFG_DOZE_GROUP : Fld := ⟨0x10C, 0, 1⟩
/-- R419, RWP. -/ def PWR_LEAN_IDLE_US : Fld := ⟨0x110, 16, 16⟩
/-- R419, RWP. -/ def PWR_LEAN_LEH_MIN : Fld := ⟨0x110, 8, 7⟩
/-- R419, RWP. -/ def PWR_LEAN_GAF_MIN : Fld := ⟨0x110, 0, 5⟩
/-- R419, RWP. -/ def PWR_LEAN_THR_LEH_UP : Fld := ⟨0x114, 16, 16⟩
/-- R419, RWP. -/ def PWR_LEAN_THR_GAF_UP : Fld := ⟨0x114, 0, 16⟩
/-- R419, RS. -/ def PWR_WAKE_CAUSE_KIND : Fld := ⟨0x118, 28, 4⟩
/-- R419, RS. -/ def PWR_WAKE_CAUSE_REPLAYED : Fld := ⟨0x118, 16, 1⟩
/-- R419, RS. -/ def PWR_WAKE_CAUSE_SOURCE : Fld := ⟨0x118, 0, 9⟩
/-- R419, W1C. -/ def PWR_WAKE_FAIL_FAIL : Fld := ⟨0x11C, 31, 1⟩
/-- R419, RO. -/ def PWR_WAKE_FAIL_ATTEMPTS : Fld := ⟨0x11C, 8, 8⟩
/-- R419, RO. -/ def PWR_WAKE_FAIL_STEP : Fld := ⟨0x11C, 4, 4⟩
/-- R419, RO. -/ def PWR_WAKE_FAIL_UNIT : Fld := ⟨0x11C, 0, 4⟩
/-- R419, RC. -/ def PWR_RETRY_CNT_CNT : Fld := ⟨0x120, 0, 32⟩
/-- R419, RC. -/ def PWR_DEMAND_CNT_CNT : Fld := ⟨0x124, 0, 32⟩
/-- R419, RS. -/ def PWR_FEED_B_GOOD : Fld := ⟨0x128, 1, 1⟩
/-- R419, RS. -/ def PWR_FEED_A_GOOD : Fld := ⟨0x128, 0, 1⟩
/-- R419, WO. -/ def PWR_PAD_RELEASE_GROUP : Fld := ⟨0x12C, 0, 32⟩
/-- R419, RS. -/ def PWR_PAD_HELD_GROUP : Fld := ⟨0x130, 0, 32⟩
/-- R419, RS. -/ def PWR_DOM_ON : Fld := ⟨0x140, 0, 32⟩
/-- R419, RWP. -/ def PWR_RET_VALID : Fld := ⟨0x180, 31, 1⟩
/-- R419, RWP. -/ def PWR_RET_BANK : Fld := ⟨0x180, 0, 10⟩
/-- R419, RO. -/ def PWR_RET_REFUSED_ENTRY : Fld := ⟨0x200, 0, 32⟩
/-- R420, RWP. -/ def TIM_CTL_PPS_WIDTH : Fld := ⟨0x100, 8, 8⟩
/-- R420, RWP. -/ def TIM_CTL_PPS_OUT_EN : Fld := ⟨0x100, 1, 1⟩
/-- R420, RWP. -/ def TIM_CTL_REF : Fld := ⟨0x100, 0, 1⟩
/-- R420, RWP. -/ def TIM_FREQ_ADJ : Fld := ⟨0x104, 0, 32⟩
/-- R420, W1C. -/ def TIM_COARSE_COARSE : Fld := ⟨0x108, 0, 1⟩
/-- R420, RS. -/ def TIM_SLOW_XTAL_OK : Fld := ⟨0x10C, 1, 1⟩
/-- R420, RS. -/ def TIM_SLOW_SRC : Fld := ⟨0x10C, 0, 1⟩
/-- R420, RS. -/ def TIM_AON_LO_CNT : Fld := ⟨0x110, 0, 32⟩
/-- R420, RS. -/ def TIM_AON_HI_CNT : Fld := ⟨0x114, 0, 16⟩
/-- R444, RO. -/ def FLT_HEAD_SEQ : Fld := ⟨0x100, 0, 32⟩
/-- R444, RW. -/ def FLT_RD_SEQ_SEQ : Fld := ⟨0x104, 0, 32⟩
/-- R444, RO. -/ def FLT_RD_STAT_GONE : Fld := ⟨0x108, 1, 1⟩
/-- R444, RO. -/ def FLT_RD_STAT_VALID : Fld := ⟨0x108, 0, 1⟩
/-- R444, RC. -/ def FLT_SUPP_CNT_CNT : Fld := ⟨0x10C, 0, 32⟩
/-- R444, RO. -/ def FLT_QDEPTH_DEPTH : Fld := ⟨0x110, 0, 11⟩
/-- R444, RO. -/ def FLT_AGE_MIN_ISLAND : Fld := ⟨0x114, 16, 8⟩
/-- R444, RO. -/ def FLT_AGE_MIN_MARGIN : Fld := ⟨0x114, 0, 10⟩
/-- R444, RO. -/ def FLT_SPARE_MIN_BANK : Fld := ⟨0x118, 16, 10⟩
/-- R444, RO. -/ def FLT_SPARE_MIN_LEFT : Fld := ⟨0x118, 0, 5⟩
/-- R444, RO. -/ def FLT_RD_DATA : Fld := ⟨0x140, 0, 32⟩
/-- R445, SC. -/ def SVC_REQ_GO : Fld := ⟨0x100, 31, 1⟩
/-- R445, RW. -/ def SVC_REQ_ACTION : Fld := ⟨0x100, 24, 1⟩
/-- R445, RW. -/ def SVC_REQ_TYPE : Fld := ⟨0x100, 16, 8⟩
/-- R445, RW. -/ def SVC_REQ_INSTANCE : Fld := ⟨0x100, 0, 8⟩
/-- R445, RO. -/ def SVC_REQ_STAT_CODE : Fld := ⟨0x104, 24, 8⟩
/-- R445, RWP. -/ def SVC_CTL_AUTO_RETURN : Fld := ⟨0x108, 8, 1⟩
/-- R445, RWP. -/ def SVC_CTL_AUTO : Fld := ⟨0x108, 0, 5⟩
/-- R445, RO. -/ def SVC_PUNTY_STATE : Fld := ⟨0x110, 29, 3⟩
/-- R445, RO. -/ def SVC_PUNTY_UNIT_STATE : Fld := ⟨0x110, 25, 3⟩
/-- R445, RO. -/ def SVC_PUNTY_TYPE : Fld := ⟨0x110, 8, 8⟩
/-- R445, RO. -/ def SVC_PUNTY_INSTANCE : Fld := ⟨0x110, 0, 8⟩
/-- R446, WO. -/ def MEM_CTL_FAIL : Fld := ⟨0x100, 0, 1⟩
/-- R446, RO. -/ def MEM_STAT_PARITY : Fld := ⟨0x104, 8, 1⟩
/-- R446, RS. -/ def MEM_STAT_STATE : Fld := ⟨0x104, 0, 3⟩
/-- R446, RC. -/ def MEM_CE_CNT_CNT : Fld := ⟨0x108, 0, 32⟩
/-- R446, RC. -/ def MEM_UE_CNT_CNT : Fld := ⟨0x10C, 0, 32⟩
/-- R446, RC. -/ def MEM_REBUILD_CNT_CNT : Fld := ⟨0x110, 0, 32⟩
/-- R446, RWP. -/ def MEM_SCRUB_HOURS : Fld := ⟨0x114, 0, 16⟩
/-- R447, RO. -/ def CPX_STAT_TAKEOVER : Fld := ⟨0x100, 8, 2⟩
/-- R447, RO. -/ def CPX_STAT_STATE : Fld := ⟨0x100, 0, 3⟩
/-- R447, RC. -/ def CPX_MISMATCH_CNT_CNT : Fld := ⟨0x104, 0, 32⟩
/-- R447, SC. -/ def CPX_RETURN_GO : Fld := ⟨0x108, 0, 1⟩

end Reg

namespace FaultBit

def gctl_GRP_PARITY : Nat := 16
def gaf_PS_UE : Nat := 18
def gaf_CTX_FENCED : Nat := 17
def gaf_CTX_PARITY : Nat := 16
def gafg_EXC_OVERFLOW : Nat := 17
def gafg_FLIP_REFUSED : Nat := 16
def cls_RULE_UE : Nat := 17
def cls_TREE_UE : Nat := 16
def clsg_DEFAULT_DROP : Nat := 17
def clsg_SWAP_REFUSED : Nat := 16
def tbl_OVF_HIGH : Nat := 18
def tbl_ENTRY_UE : Nat := 17
def tbl_ENTRY_PARITY : Nat := 16
def tblg_NOTE_FULL : Nat := 18
def tblg_SWEEP_LATE : Nat := 17
def tblg_OP_REFUSED : Nat := 16
def actg_LINE_UE : Nat := 19
def actg_TRACE_LOST : Nat := 18
def actg_TMPL_ABSENT : Nat := 17
def actg_ACT_MALFORMED : Nat := 16
def cru_STALE : Nat := 19
def cru_HEADROOM : Nat := 18
def cru_DEEP_FULL : Nat := 17
def cru_CELL_UE : Nat := 16
def sch_TAIL_DROP : Nat := 16
def leh_GHASH_FAIL : Nat := 19
def leh_CELL_FENCED : Nat := 18
def leh_KAT_FAIL : Nat := 17
def leh_MISMATCH : Nat := 16
def lehg_DRBG_STALL : Nat := 16
def key_UNWRAP_FAIL : Nat := 16
def sxp_SA_UE : Nat := 17
def sxp_OP_REFUSED : Nat := 16
def sto_LINE_UE : Nat := 17
def sto_OP_REFUSED : Nat := 16
def mac_FEC_DEGRADED : Nat := 20
def mac_TS_OVF : Nat := 19
def mac_TX_UNDERRUN : Nat := 18
def mac_PAUSE_WDOG : Nat := 17
def mac_LINK_DOWN : Nat := 16
def pcs_MODE_REFUSED : Nat := 19
def pcs_TWI_NACK : Nat := 18
def pcs_CAGE_PRESENT_CHG : Nat := 17
def pcs_CAGE_PWR : Nat := 16
def hif_FLR : Nat := 20
def hif_IDE_ERR : Nat := 19
def hif_POISON_RX : Nat := 18
def hif_CPL_TIMEOUT : Nat := 17
def hif_LINK_LOST : Nat := 16
def slc_OP_REFUSED : Nat := 16
def que_CTX_UE : Nat := 17
def que_OP_REFUSED : Nat := 16
def blp_XFER_ERR : Nat := 16
def evtAon_BIN_STUCK : Nat := 16
def otp_BOOT_FAIL : Nat := 17
def otp_GEN_SKIPPED : Nat := 16
def flt_SPARES_OUT : Nat := 18
def flt_AGE_LIMIT : Nat := 17
def flt_JOURNAL_WAIT : Nat := 16
def mem_DEV_FAILED : Nat := 17
def mem_BURST_UE : Nat := 16
def cpx_BIST_FAIL : Nat := 17
def cpx_MISMATCH : Nat := 16

end FaultBit

/-- Register fields of gctl pages (R2, R48, R474). -/
def rows_gctl : List FieldRow :=
  [⟨0x40, 0, 1, 16, 16, .ro, 0x1600, .keep⟩,
   ⟨0x40, 0, 1, 4, 4, .ro, 0x1, .keep⟩,
   ⟨0x40, 0, 1, 0, 4, .ro, 0x1, .keep⟩,
   ⟨0x50, 0, 1, 31, 1, .w1c, 0x0, .keep⟩,
   ⟨0x50, 0, 1, 16, 4, .ro, 0x0, .keep⟩,
   ⟨0x50, 0, 1, 0, 4, .ro, 0x0, .keep⟩,
   ⟨0x44, 0, 1, 0, 32, .rc, 0x0, .keep⟩,
   ⟨0x48, 0, 1, 31, 1, .w1c, 0x0, .keep⟩,
   ⟨0x48, 0, 1, 0, 24, .ro, 0x0, .keep⟩,
   ⟨0x4C, 0, 1, 16, 16, .ro, 0x0, .keep⟩,
   ⟨0x4C, 0, 1, 3, 1, .ro, 0x0, .keep⟩,
   ⟨0x4C, 0, 1, 0, 3, .ro, 0x0, .keep⟩]

/-- Register fields of rst pages (R418). -/
def rows_rst : List FieldRow :=
  [⟨0x100, 0, 1, 31, 1, .sc, 0x0, .keep⟩,
   ⟨0x100, 0, 1, 12, 16, .wo, 0x0, .keep⟩,
   ⟨0x100, 0, 1, 0, 4, .wo, 0x0, .keep⟩,
   ⟨0x104, 0, 1, 28, 4, .ro, 0x1, .keep⟩,
   ⟨0x104, 0, 1, 26, 2, .ro, 0x0, .keep⟩,
   ⟨0x104, 0, 1, 9, 1, .w1c, 0x0, .keep⟩,
   ⟨0x104, 0, 1, 8, 1, .w1c, 0x0, .keep⟩,
   ⟨0x104, 0, 1, 0, 1, .w1c, 0x0, .keep⟩,
   ⟨0x108, 0, 1, 0, 32, .ro, 0x0, .keep⟩]

/-- Register fields of otp pages (R396). -/
def rows_otp : List FieldRow :=
  [⟨0x100, 0, 1, 31, 1, .ro, 0x0, .keep⟩,
   ⟨0x100, 0, 1, 24, 3, .ro, 0x0, .keep⟩,
   ⟨0x100, 0, 1, 16, 8, .ro, 0x0, .keep⟩,
   ⟨0x100, 0, 1, 8, 8, .ro, 0x0, .keep⟩,
   ⟨0x100, 0, 1, 4, 1, .ro, 0x0, .keep⟩,
   ⟨0x100, 0, 1, 0, 3, .ro, 0x0, .keep⟩,
   ⟨0x104, 0, 1, 0, 32, .ro, 0x0, .keep⟩,
   ⟨0x108, 0, 1, 0, 32, .ro, 0x0, .keep⟩,
   ⟨0x10C, 0, 1, 0, 32, .ro, 0x0, .keep⟩,
   ⟨0x110, 0, 1, 12, 1, .ro, 0x0, .keep⟩,
   ⟨0x110, 0, 1, 8, 4, .ro, 0x0, .keep⟩,
   ⟨0x110, 0, 1, 0, 4, .ro, 0x0, .keep⟩,
   ⟨0x114, 0, 1, 0, 32, .ro, 0x0, .keep⟩,
   ⟨0x118, 0, 1, 0, 32, .ro, 0x0, .keep⟩]

/-- Register fields of tim pages (R420). -/
def rows_tim : List FieldRow :=
  [⟨0x100, 0, 1, 8, 8, .rwp, 0x64, .atLeast 1⟩,
   ⟨0x100, 0, 1, 1, 1, .rwp, 0x0, .keep⟩,
   ⟨0x100, 0, 1, 0, 1, .rwp, 0x0, .keep⟩,
   ⟨0x104, 0, 1, 0, 32, .rwp, 0x0, .keep⟩,
   ⟨0x108, 0, 1, 0, 1, .w1c, 0x1, .keep⟩,
   ⟨0x10C, 0, 1, 1, 1, .rs, 0x0, .keep⟩,
   ⟨0x10C, 0, 1, 0, 1, .rs, 0x0, .keep⟩,
   ⟨0x110, 0, 1, 0, 32, .rs, 0x0, .keep⟩,
   ⟨0x114, 0, 1, 0, 16, .rs, 0x0, .keep⟩]

/-- Register fields of pwr pages (R419). -/
def rows_pwr : List FieldRow :=
  [⟨0x100, 0, 1, 31, 1, .rs, 0x0, .keep⟩,
   ⟨0x100, 0, 1, 8, 3, .rs, 0x0, .keep⟩,
   ⟨0x100, 0, 1, 0, 3, .rs, 0x0, .keep⟩,
   ⟨0x104, 0, 1, 31, 1, .sc, 0x0, .keep⟩,
   ⟨0x104, 0, 1, 0, 3, .rw, 0x0, .keep⟩,
   ⟨0x108, 0, 1, 31, 1, .w1c, 0x0, .keep⟩,
   ⟨0x108, 0, 1, 0, 4, .ro, 0x0, .keep⟩,
   ⟨0x10C, 0, 1, 24, 8, .rwp, 0xA, .atLeast 1⟩,
   ⟨0x10C, 0, 1, 8, 16, .rwp, 0xA, .keep⟩,
   ⟨0x10C, 0, 1, 2, 1, .rwp, 0x0, .keep⟩,
   ⟨0x10C, 0, 1, 1, 1, .rwp, 0x0, .keep⟩,
   ⟨0x10C, 0, 1, 0, 1, .rwp, 0x1, .keep⟩,
   ⟨0x110, 0, 1, 16, 16, .rwp, 0x64, .keep⟩,
   ⟨0x110, 0, 1, 8, 7, .rwp, 0x8, .within 1 64 64⟩,
   ⟨0x110, 0, 1, 0, 5, .rwp, 0x4, .within 1 24 24⟩,
   ⟨0x114, 0, 1, 16, 16, .rwp, 0x40, .keep⟩,
   ⟨0x114, 0, 1, 0, 16, .rwp, 0x100, .keep⟩,
   ⟨0x118, 0, 1, 28, 4, .rs, 0x5, .keep⟩,
   ⟨0x118, 0, 1, 16, 1, .rs, 0x0, .keep⟩,
   ⟨0x118, 0, 1, 0, 9, .rs, 0x0, .keep⟩,
   ⟨0x11C, 0, 1, 31, 1, .w1c, 0x0, .keep⟩,
   ⟨0x11C, 0, 1, 8, 8, .ro, 0x0, .keep⟩,
   ⟨0x11C, 0, 1, 4, 4, .ro, 0x0, .keep⟩,
   ⟨0x11C, 0, 1, 0, 4, .ro, 0x0, .keep⟩,
   ⟨0x120, 0, 1, 0, 32, .rc, 0x0, .keep⟩,
   ⟨0x124, 0, 1, 0, 32, .rc, 0x0, .keep⟩,
   ⟨0x128, 0, 1, 1, 1, .rs, 0x0, .keep⟩,
   ⟨0x128, 0, 1, 0, 1, .rs, 0x0, .keep⟩,
   ⟨0x12C, 0, 1, 0, 32, .wo, 0x0, .keep⟩,
   ⟨0x130, 0, 1, 0, 32, .rs, 0x0, .keep⟩] ++
  [⟨0x140, 4, 3, 0, 32, .rs, 0x0, .keep⟩,
   ⟨0x180, 4, 32, 31, 1, .rwp, 0x0, .keep⟩,
   ⟨0x180, 4, 32, 0, 10, .rwp, 0x0, .atMost 639⟩,
   ⟨0x200, 0, 1, 0, 32, .ro, 0x0, .keep⟩]

/-- Register fields of evtg pages (R368). -/
def rows_evtg : List FieldRow :=
  [⟨0x100, 0, 1, 0, 16, .wo, 0x0, .keep⟩,
   ⟨0x104, 0, 1, 0, 32, .rc, 0x0, .keep⟩]

/-- Register fields of evtRoute pages (R368). -/
def rows_evtRoute : List FieldRow :=
  [⟨0x100, 8, 128, 31, 1, .rwp, 0x0, .keep⟩,
   ⟨0x100, 8, 128, 30, 1, .rwp, 0x0, .keep⟩,
   ⟨0x100, 8, 128, 16, 11, .rwp, 0x0, .keep⟩,
   ⟨0x100, 8, 128, 15, 1, .rwp, 0x0, .keep⟩,
   ⟨0x100, 8, 128, 12, 2, .rwp, 0x0, .keep⟩,
   ⟨0x100, 8, 128, 0, 6, .rwp, 0x0, .keep⟩,
   ⟨0x104, 8, 128, 31, 1, .rwp, 0x1, .keep⟩,
   ⟨0x104, 8, 128, 30, 1, .rwp, 0x0, .keep⟩,
   ⟨0x104, 8, 128, 23, 1, .rwp, 0x0, .keep⟩,
   ⟨0x104, 8, 128, 16, 6, .rwp, 0x0, .keep⟩,
   ⟨0x104, 8, 128, 15, 1, .rwp, 0x0, .keep⟩,
   ⟨0x104, 8, 128, 8, 2, .rwp, 0x0, .keep⟩]

/-- Register fields of evtState pages (R368). -/
def rows_evtState : List FieldRow :=
  [⟨0x100, 4, 16, 0, 32, .ro, 0x0, .keep⟩,
   ⟨0x140, 4, 16, 0, 32, .w1c, 0x0, .keep⟩]

/-- Register fields of evtAon pages (R368). -/
def rows_evtAon : List FieldRow :=
  [⟨0x100, 8, 4, 31, 1, .rwp, 0x1, .keep⟩,
   ⟨0x100, 8, 4, 16, 8, .rwp, 0x19, .atLeast 1⟩,
   ⟨0x100, 8, 4, 0, 16, .rwp, 0x3E8, .keep⟩,
   ⟨0x104, 8, 4, 0, 16, .rwp, 0x3E8, .keep⟩,
   ⟨0x120, 0, 1, 4, 4, .w1c, 0x0, .keep⟩,
   ⟨0x120, 0, 1, 0, 4, .rs, 0x0, .keep⟩,
   ⟨0x124, 0, 1, 0, 32, .rc, 0x0, .keep⟩,
   ⟨0x128, 0, 1, 2, 1, .rwp, 0x1, .keep⟩,
   ⟨0x128, 0, 1, 6, 1, .rwp, 0x1, .keep⟩,
   ⟨0x128, 0, 1, 10, 1, .rwp, 0x1, .keep⟩,
   ⟨0x128, 0, 1, 14, 1, .rwp, 0x1, .keep⟩,
   ⟨0x128, 0, 1, 0, 2, .rwp, 0x1, .within 0 2 1⟩,
   ⟨0x128, 0, 1, 4, 2, .rwp, 0x1, .within 0 2 1⟩,
   ⟨0x128, 0, 1, 8, 2, .rwp, 0x1, .within 0 2 1⟩,
   ⟨0x128, 0, 1, 12, 2, .rwp, 0x1, .within 0 2 1⟩,
   ⟨0x130, 4, 2, 0, 32, .rwp, 0x0, .keep⟩,
   ⟨0x138, 0, 1, 0, 16, .rwp, 0x0, .keep⟩]

/-- Register fields of mbx pages (R397). -/
def rows_mbx : List FieldRow :=
  [⟨0x40, 0, 1, 0, 32, .ro, 0x0, .keep⟩,
   ⟨0x44, 0, 1, 0, 32, .ro, 0x0, .keep⟩]

/-- Register fields of flt pages (R444). -/
def rows_flt : List FieldRow :=
  [⟨0x100, 0, 1, 0, 32, .ro, 0x0, .keep⟩,
   ⟨0x104, 0, 1, 0, 32, .rw, 0x0, .keep⟩,
   ⟨0x108, 0, 1, 1, 1, .ro, 0x0, .keep⟩,
   ⟨0x108, 0, 1, 0, 1, .ro, 0x0, .keep⟩,
   ⟨0x10C, 0, 1, 0, 32, .rc, 0x0, .keep⟩,
   ⟨0x110, 0, 1, 0, 11, .ro, 0x0, .keep⟩,
   ⟨0x114, 0, 1, 16, 8, .ro, 0x0, .keep⟩,
   ⟨0x114, 0, 1, 0, 10, .ro, 0x0, .keep⟩,
   ⟨0x118, 0, 1, 16, 10, .ro, 0x0, .keep⟩,
   ⟨0x118, 0, 1, 0, 5, .ro, 0x10, .keep⟩,
   ⟨0x140, 4, 16, 0, 32, .ro, 0x0, .keep⟩]

/-- Register fields of svc pages (R445). -/
def rows_svc : List FieldRow :=
  [⟨0x100, 0, 1, 31, 1, .sc, 0x0, .keep⟩,
   ⟨0x100, 0, 1, 24, 1, .rw, 0x0, .keep⟩,
   ⟨0x100, 0, 1, 16, 8, .rw, 0x0, .keep⟩,
   ⟨0x100, 0, 1, 0, 8, .rw, 0x0, .keep⟩,
   ⟨0x104, 0, 1, 24, 8, .ro, 0x0, .keep⟩,
   ⟨0x108, 0, 1, 8, 1, .rwp, 0x0, .keep⟩,
   ⟨0x108, 0, 1, 0, 5, .rwp, 0x1F, .keep⟩,
   ⟨0x110, 4, 5, 29, 3, .ro, 0x0, .keep⟩,
   ⟨0x110, 4, 5, 25, 3, .ro, 0x0, .keep⟩,
   ⟨0x110, 4, 5, 8, 8, .ro, 0x0, .keep⟩,
   ⟨0x110, 4, 5, 0, 8, .ro, 0x0, .keep⟩]

/-- Register fields of hif pages (R297). -/
def rows_hif : List FieldRow :=
  [⟨0x100, 0, 1, 31, 1, .rs, 0x0, .keep⟩,
   ⟨0x100, 0, 1, 30, 1, .rs, 0x0, .keep⟩,
   ⟨0x100, 0, 1, 8, 5, .rs, 0x0, .keep⟩,
   ⟨0x100, 0, 1, 0, 3, .rs, 0x0, .keep⟩,
   ⟨0x104, 0, 1, 1, 1, .ro, 0x0, .keep⟩,
   ⟨0x104, 0, 1, 0, 1, .ro, 0x0, .keep⟩,
   ⟨0x108, 0, 1, 0, 32, .rc, 0x0, .keep⟩,
   ⟨0x10C, 0, 1, 0, 32, .rc, 0x0, .keep⟩,
   ⟨0x110, 0, 1, 0, 32, .rc, 0x0, .keep⟩,
   ⟨0x114, 0, 1, 0, 32, .rc, 0x0, .keep⟩,
   ⟨0x118, 0, 1, 0, 32, .rc, 0x0, .keep⟩,
   ⟨0x11C, 0, 1, 0, 16, .rwp, 0xA, .atLeast 1⟩,
   ⟨0x120, 0, 1, 4, 12, .rw, 0x0, .keep⟩,
   ⟨0x120, 0, 1, 0, 4, .rw, 0x0, .keep⟩,
   ⟨0x124, 0, 1, 2, 30, .rw, 0x0, .keep⟩,
   ⟨0x128, 0, 1, 0, 32, .rw, 0x0, .keep⟩,
   ⟨0x12C, 0, 1, 0, 32, .rw, 0x0, .keep⟩,
   ⟨0x130, 0, 1, 31, 1, .sc, 0x0, .keep⟩,
   ⟨0x130, 0, 1, 0, 2, .rw, 0x0, .keep⟩,
   ⟨0x134, 0, 1, 0, 8, .ro, 0x0, .keep⟩,
   ⟨0x138, 0, 1, 0, 32, .rc, 0x0, .keep⟩,
   ⟨0x13C, 0, 1, 0, 13, .ro, 0x0, .keep⟩]

/-- Register fields of slc pages (R314). -/
def rows_slc : List FieldRow :=
  [⟨0x100, 0, 1, 31, 1, .sc, 0x0, .keep⟩,
   ⟨0x100, 0, 1, 24, 4, .rw, 0x0, .keep⟩,
   ⟨0x100, 0, 1, 0, 12, .rw, 0x0, .keep⟩,
   ⟨0x104, 0, 1, 24, 8, .ro, 0x0, .keep⟩,
   ⟨0x108, 0, 1, 0, 13, .ro, 0x0, .keep⟩,
   ⟨0x10C, 0, 1, 0, 13, .ro, 0x0, .keep⟩,
   ⟨0x110, 0, 1, 0, 16, .rwp, 0x32, .atLeast 1⟩,
   ⟨0x114, 0, 1, 0, 32, .rc, 0x0, .keep⟩,
   ⟨0x118, 0, 1, 31, 1, .w1c, 0x0, .keep⟩,
   ⟨0x118, 0, 1, 28, 3, .ro, 0x0, .keep⟩,
   ⟨0x118, 0, 1, 20, 8, .ro, 0x0, .keep⟩,
   ⟨0x118, 0, 1, 0, 12, .ro, 0x0, .keep⟩,
   ⟨0x11C, 0, 1, 0, 32, .rc, 0x0, .keep⟩,
   ⟨0x180, 4, 32, 0, 32, .rw, 0x0, .keep⟩,
   ⟨0x200, 4, 32, 0, 32, .ro, 0x0, .keep⟩]

/-- Register fields of mac pages (R269). -/
def rows_mac : List FieldRow :=
  [⟨0x10, 0, 1, 8, 8, .ro, 0x0, .keep⟩,
   ⟨0x100, 0, 1, 4, 2, .rwp, 0x0, .within 0 2 0⟩,
   ⟨0x100, 0, 1, 2, 1, .rwp, 0x1, .keep⟩,
   ⟨0x100, 0, 1, 1, 1, .rwp, 0x1, .keep⟩,
   ⟨0x104, 0, 1, 0, 14, .rwp, 0x3F00, .clamp 64 16128⟩,
   ⟨0x108, 0, 1, 24, 3, .rwp, 0x0, .keep⟩,
   ⟨0x108, 0, 1, 0, 24, .rwp, 0xFAC688, .keep⟩,
   ⟨0x10C, 0, 1, 0, 24, .rwp, 0xFAC688, .keep⟩,
   ⟨0x110, 0, 1, 16, 16, .rwp, 0x8000, .keep⟩,
   ⟨0x110, 0, 1, 0, 16, .rwp, 0xFFFF, .keep⟩,
   ⟨0x114, 0, 1, 0, 20, .rwp, 0x186A0, .keep⟩,
   ⟨0x118, 0, 1, 0, 16, .rwp, 0x64, .keep⟩,
   ⟨0x11C, 0, 1, 0, 14, .rwp, 0x200, .atLeast 64⟩,
   ⟨0x120, 0, 1, 0, 14, .ro, 0x200, .keep⟩,
   ⟨0x124, 0, 1, 0, 14, .rwp, 0x3F00, .atMost 16128⟩,
   ⟨0x128, 0, 1, 31, 1, .rwp, 0x0, .keep⟩,
   ⟨0x128, 0, 1, 30, 1, .rwp, 0x0, .keep⟩,
   ⟨0x128, 0, 1, 29, 1, .rwp, 0x0, .keep⟩,
   ⟨0x128, 0, 1, 28, 1, .rwp, 0x0, .keep⟩,
   ⟨0x128, 0, 1, 27, 1, .rwp, 0x0, .keep⟩,
   ⟨0x128, 0, 1, 0, 12, .rwp, 0x0, .keep⟩,
   ⟨0x12C, 0, 1, 16, 16, .rwp, 0x0, .keep⟩,
   ⟨0x12C, 0, 1, 0, 16, .rwp, 0x0, .keep⟩,
   ⟨0x130, 0, 1, 0, 1, .rwp, 0x0, .keep⟩,
   ⟨0x134, 0, 1, 0, 32, .rwp, 0x0, .keep⟩,
   ⟨0x138, 0, 1, 0, 32, .rwp, 0x0, .keep⟩,
   ⟨0x13C, 0, 1, 0, 7, .ro, 0x0, .keep⟩,
   ⟨0x140, 0, 1, 11, 1, .ro, 0x0, .keep⟩,
   ⟨0x140, 0, 1, 10, 1, .ro, 0x0, .keep⟩,
   ⟨0x140, 0, 1, 9, 1, .ro, 0x0, .keep⟩] ++
  [⟨0x140, 0, 1, 8, 1, .ro, 0x0, .keep⟩,
   ⟨0x140, 0, 1, 0, 3, .ro, 0x0, .keep⟩,
   ⟨0x144, 0, 1, 0, 16, .rwp, 0xA, .atLeast 1⟩,
   ⟨0x148, 0, 1, 0, 20, .rwp, 0x8000, .keep⟩,
   ⟨0x14C, 0, 1, 8, 8, .ro, 0x0, .keep⟩,
   ⟨0x14C, 0, 1, 0, 1, .sc, 0x0, .keep⟩,
   ⟨0x150, 0, 1, 0, 32, .rwp, 0x0, .keep⟩,
   ⟨0x154, 0, 1, 0, 16, .rwp, 0x0, .keep⟩,
   ⟨0x158, 0, 1, 0, 32, .rc, 0x0, .keep⟩,
   ⟨0x15C, 0, 1, 0, 32, .rc, 0x0, .keep⟩,
   ⟨0x160, 0, 1, 0, 32, .rc, 0x0, .keep⟩]

/-- Register fields of pcs pages (R271). -/
def rows_pcs : List FieldRow :=
  [⟨0x100, 0, 1, 31, 1, .ro, 0x0, .keep⟩,
   ⟨0x100, 0, 1, 0, 2, .rwp, 0x3, .keep⟩,
   ⟨0x104, 0, 1, 8, 8, .rwp, 0x0, .keep⟩,
   ⟨0x104, 0, 1, 0, 8, .rwp, 0x0, .keep⟩,
   ⟨0x140, 4, 8, 0, 32, .rwp, 0xFC3800, .keep⟩,
   ⟨0x160, 4, 8, 8, 8, .rs, 0x0, .keep⟩,
   ⟨0x160, 4, 8, 1, 1, .rs, 0x0, .keep⟩,
   ⟨0x160, 4, 8, 0, 1, .rs, 0x0, .keep⟩,
   ⟨0x180, 0, 1, 16, 8, .rwp, 0x78, .atMost 120⟩,
   ⟨0x180, 0, 1, 8, 1, .rwp, 0x0, .keep⟩,
   ⟨0x180, 0, 1, 2, 1, .rwp, 0x1, .keep⟩,
   ⟨0x180, 0, 1, 1, 1, .rwp, 0x1, .keep⟩,
   ⟨0x180, 0, 1, 0, 1, .rwp, 0x0, .keep⟩,
   ⟨0x184, 0, 1, 2, 1, .ro, 0x0, .keep⟩,
   ⟨0x184, 0, 1, 1, 1, .ro, 0x0, .keep⟩,
   ⟨0x184, 0, 1, 0, 1, .ro, 0x0, .keep⟩,
   ⟨0x188, 0, 1, 31, 1, .sc, 0x0, .keep⟩,
   ⟨0x188, 0, 1, 30, 1, .rw, 0x0, .keep⟩,
   ⟨0x188, 0, 1, 16, 8, .rw, 0x0, .keep⟩,
   ⟨0x188, 0, 1, 0, 8, .rw, 0x0, .keep⟩,
   ⟨0x18C, 0, 1, 8, 1, .ro, 0x0, .keep⟩,
   ⟨0x18C, 0, 1, 0, 8, .ro, 0x0, .keep⟩]

/-- Register fields of macg pages (R272). -/
def rows_macg : List FieldRow :=
  [⟨0x100, 0, 1, 8, 8, .ro, 0x0, .keep⟩,
   ⟨0x100, 0, 1, 0, 1, .sc, 0x0, .keep⟩]

/-- Register fields of gaf pages (R77). -/
def rows_gaf : List FieldRow :=
  [⟨0x10, 0, 1, 24, 8, .ro, 0x0, .keep⟩,
   ⟨0x10, 0, 1, 16, 8, .ro, 0x0, .keep⟩,
   ⟨0x100, 0, 1, 11, 1, .rw, 0x0, .keep⟩,
   ⟨0x100, 0, 1, 0, 11, .rw, 0x0, .keep⟩,
   ⟨0x104, 0, 1, 0, 32, .rw, 0x0, .keep⟩,
   ⟨0x108, 0, 1, 0, 32, .ro, 0x6A1A5C90, .keep⟩,
   ⟨0x10C, 0, 1, 0, 32, .ro, 0x6A1A5C90, .keep⟩,
   ⟨0x110, 0, 1, 1, 1, .w1c, 0x0, .keep⟩,
   ⟨0x110, 0, 1, 0, 1, .ro, 0x0, .keep⟩,
   ⟨0x114, 0, 1, 0, 32, .rc, 0x0, .keep⟩,
   ⟨0x118, 0, 1, 0, 32, .rc, 0x0, .keep⟩,
   ⟨0x11C, 0, 1, 0, 32, .rc, 0x0, .keep⟩,
   ⟨0x120, 4, 4, 0, 32, .ro, 0x0, .keep⟩]

/-- Register fields of gafg pages (R78). -/
def rows_gafg : List FieldRow :=
  [⟨0x100, 0, 1, 3, 3, .ro, 0x0, .keep⟩,
   ⟨0x100, 0, 1, 2, 1, .w1c, 0x0, .keep⟩,
   ⟨0x100, 0, 1, 1, 1, .ro, 0x0, .keep⟩,
   ⟨0x100, 0, 1, 0, 1, .ro, 0x0, .keep⟩,
   ⟨0x104, 0, 1, 0, 1, .sc, 0x0, .keep⟩,
   ⟨0x108, 0, 1, 0, 32, .rwp, 0x0, .keep⟩,
   ⟨0x10C, 0, 1, 0, 32, .ro, 0x6A1A5C90, .keep⟩,
   ⟨0x110, 0, 1, 0, 24, .ro, 0x0, .keep⟩,
   ⟨0x114, 0, 1, 0, 24, .ro, 0x0, .keep⟩,
   ⟨0x118, 0, 1, 0, 12, .rwp, 0x800, .clamp 64 2048⟩,
   ⟨0x11C, 0, 1, 16, 1, .rwp, 0x0, .keep⟩,
   ⟨0x11C, 0, 1, 0, 16, .rwp, 0x0, .keep⟩,
   ⟨0x120, 0, 1, 0, 11, .ro, 0x0, .keep⟩,
   ⟨0x124, 0, 1, 0, 32, .rc, 0x0, .keep⟩,
   ⟨0x128, 0, 1, 0, 20, .ro, 0x0, .keep⟩,
   ⟨0x12C, 0, 1, 0, 20, .rc, 0x0, .keep⟩,
   ⟨0x130, 0, 1, 0, 20, .rwp, 0x10000, .keep⟩,
   ⟨0x134, 0, 1, 6, 26, .ro, 0x0, .keep⟩,
   ⟨0x134, 0, 1, 0, 6, .ro, 0x0, .keep⟩,
   ⟨0x138, 0, 1, 0, 32, .rc, 0x0, .keep⟩]

/-- Register fields of cls pages (R101). -/
def rows_cls : List FieldRow :=
  [⟨0x10, 0, 1, 16, 8, .ro, 0x0, .keep⟩,
   ⟨0x100, 0, 1, 0, 32, .rc, 0x0, .keep⟩,
   ⟨0x104, 0, 1, 0, 32, .rc, 0x0, .keep⟩,
   ⟨0x108, 0, 1, 0, 32, .rc, 0x0, .keep⟩]

/-- Register fields of clsg pages (R102). -/
def rows_clsg : List FieldRow :=
  [⟨0x100, 0, 1, 4, 1, .ro, 0x0, .keep⟩,
   ⟨0x100, 0, 1, 0, 4, .ro, 0x0, .keep⟩,
   ⟨0x104, 0, 1, 31, 1, .sc, 0x0, .keep⟩,
   ⟨0x104, 0, 1, 0, 4, .rwp, 0x0, .keep⟩,
   ⟨0x108, 0, 1, 31, 1, .sc, 0x0, .keep⟩,
   ⟨0x108, 0, 1, 8, 1, .rw, 0x0, .keep⟩,
   ⟨0x108, 0, 1, 0, 4, .rw, 0x0, .keep⟩,
   ⟨0x10C, 0, 1, 0, 16, .w1c, 0x0, .keep⟩,
   ⟨0x110, 0, 1, 0, 32, .ro, 0x0, .keep⟩,
   ⟨0x114, 0, 1, 0, 32, .ro, 0x0, .keep⟩,
   ⟨0x118, 0, 1, 4, 4, .ro, 0x0, .keep⟩,
   ⟨0x118, 0, 1, 1, 3, .ro, 0x0, .keep⟩,
   ⟨0x118, 0, 1, 0, 1, .w1c, 0x0, .keep⟩,
   ⟨0x11C, 0, 1, 0, 7, .rwp, 0x10, .atMost 126⟩,
   ⟨0x120, 0, 1, 0, 6, .rwp, 0x20, .atLeast 1⟩,
   ⟨0x124, 0, 1, 0, 6, .rwp, 0x0, .keep⟩,
   ⟨0x128, 0, 1, 8, 20, .rwp, 0x10000, .keep⟩,
   ⟨0x128, 0, 1, 0, 8, .rwp, 0xC0, .atMost 192⟩,
   ⟨0x12C, 0, 1, 0, 32, .ro, 0x10000, .keep⟩,
   ⟨0x130, 0, 1, 0, 32, .rc, 0x0, .keep⟩,
   ⟨0x134, 0, 1, 0, 32, .rc, 0x0, .keep⟩,
   ⟨0x138, 0, 1, 0, 32, .rc, 0x0, .keep⟩,
   ⟨0x13C, 0, 1, 0, 32, .rc, 0x0, .keep⟩,
   ⟨0x140, 0, 1, 0, 32, .rc, 0x0, .keep⟩,
   ⟨0x144, 0, 1, 0, 32, .rc, 0x0, .keep⟩,
   ⟨0x180, 4, 16, 0, 24, .ro, 0x0, .keep⟩,
   ⟨0x1C0, 16, 16, 0, 19, .rwp, 0x0, .keep⟩,
   ⟨0x1C4, 16, 16, 0, 13, .rwp, 0x0, .keep⟩,
   ⟨0x1C8, 16, 16, 0, 23, .rwp, 0x0, .keep⟩,
   ⟨0x1CC, 16, 16, 0, 23, .rwp, 0x0, .keep⟩]

/-- Register fields of tbl pages (R130). -/
def rows_tbl : List FieldRow :=
  [⟨0x100, 0, 1, 0, 32, .rc, 0x0, .keep⟩,
   ⟨0x104, 0, 1, 0, 32, .rc, 0x0, .keep⟩,
   ⟨0x108, 0, 1, 0, 32, .rc, 0x0, .keep⟩,
   ⟨0x10C, 0, 1, 0, 15, .ro, 0x0, .keep⟩,
   ⟨0x110, 0, 1, 0, 15, .rwp, 0x3000, .keep⟩,
   ⟨0x114, 0, 1, 0, 32, .rc, 0x0, .keep⟩,
   ⟨0x118, 0, 1, 0, 32, .rc, 0x0, .keep⟩,
   ⟨0x11C, 0, 1, 0, 32, .rc, 0x0, .keep⟩,
   ⟨0x120, 0, 1, 0, 32, .rc, 0x0, .keep⟩,
   ⟨0x124, 0, 1, 0, 32, .rc, 0x0, .keep⟩,
   ⟨0x128, 0, 1, 31, 1, .w1c, 0x0, .keep⟩,
   ⟨0x128, 0, 1, 29, 2, .ro, 0x0, .keep⟩,
   ⟨0x128, 0, 1, 0, 29, .ro, 0x0, .keep⟩]

/-- Register fields of tblg pages (R131). -/
def rows_tblg : List FieldRow :=
  [⟨0x100, 0, 1, 31, 1, .sc, 0x0, .keep⟩,
   ⟨0x100, 0, 1, 24, 4, .rw, 0x0, .keep⟩,
   ⟨0x100, 0, 1, 8, 6, .rw, 0x0, .keep⟩,
   ⟨0x100, 0, 1, 0, 8, .rw, 0x0, .keep⟩,
   ⟨0x104, 0, 1, 24, 8, .ro, 0x0, .keep⟩,
   ⟨0x104, 0, 1, 23, 1, .ro, 0x0, .keep⟩,
   ⟨0x104, 0, 1, 22, 1, .ro, 0x0, .keep⟩,
   ⟨0x104, 0, 1, 21, 1, .ro, 0x0, .keep⟩,
   ⟨0x104, 0, 1, 15, 6, .ro, 0x0, .keep⟩,
   ⟨0x108, 0, 1, 0, 29, .ro, 0x0, .keep⟩,
   ⟨0x10C, 0, 1, 0, 8, .ro, 0x0, .keep⟩,
   ⟨0x110, 0, 1, 0, 16, .rwp, 0x3E8, .keep⟩,
   ⟨0x114, 0, 1, 0, 16, .rwp, 0x40, .keep⟩,
   ⟨0x118, 0, 1, 16, 16, .ro, 0x0, .keep⟩,
   ⟨0x118, 0, 1, 7, 1, .ro, 0x0, .keep⟩,
   ⟨0x118, 0, 1, 0, 6, .ro, 0x0, .keep⟩,
   ⟨0x11C, 0, 1, 31, 1, .rwp, 0x0, .keep⟩,
   ⟨0x11C, 0, 1, 0, 5, .rwp, 0x6, .within 6 16 6⟩,
   ⟨0x120, 0, 1, 0, 32, .ro, 0x0, .keep⟩,
   ⟨0x124, 0, 1, 0, 32, .rw, 0x0, .keep⟩,
   ⟨0x128, 0, 1, 0, 9, .ro, 0x0, .keep⟩,
   ⟨0x12C, 0, 1, 0, 13, .ro, 0x0, .keep⟩,
   ⟨0x130, 0, 1, 0, 32, .rc, 0x0, .keep⟩,
   ⟨0x134, 0, 1, 0, 32, .rc, 0x0, .keep⟩,
   ⟨0x138, 0, 1, 0, 32, .rc, 0x0, .keep⟩,
   ⟨0x13C, 0, 1, 0, 32, .rc, 0x0, .keep⟩,
   ⟨0x140, 0, 1, 0, 32, .rc, 0x0, .keep⟩,
   ⟨0x144, 0, 1, 0, 32, .rc, 0x0, .keep⟩,
   ⟨0x180, 4, 16, 0, 32, .rw, 0x0, .keep⟩,
   ⟨0x1C0, 4, 16, 0, 32, .ro, 0x0, .keep⟩]

/-- Register fields of sch pages (R168). -/
def rows_sch : List FieldRow :=
  [⟨0x100, 0, 1, 0, 32, .rwp, 0x0, .keep⟩,
   ⟨0x104, 0, 1, 0, 24, .rwp, 0x8000, .atLeast 16128⟩,
   ⟨0x108, 0, 1, 8, 8, .rwp, 0xC0, .keep⟩,
   ⟨0x108, 0, 1, 0, 8, .rwp, 0x80, .keep⟩,
   ⟨0x10C, 0, 1, 8, 1, .ro, 0x0, .keep⟩,
   ⟨0x10C, 0, 1, 0, 8, .ro, 0x0, .keep⟩,
   ⟨0x140, 16, 8, 31, 1, .rwp, 0x0, .keep⟩,
   ⟨0x140, 16, 8, 0, 24, .rwp, 0x4000, .keep⟩,
   ⟨0x144, 16, 8, 0, 32, .rwp, 0x0, .keep⟩,
   ⟨0x148, 16, 8, 0, 26, .rwp, 0x4000, .keep⟩,
   ⟨0x14C, 16, 8, 0, 26, .ro, 0x0, .keep⟩]

/-- Register fields of actg pages (R164). -/
def rows_actg : List FieldRow :=
  [⟨0x100, 0, 1, 31, 1, .sc, 0x0, .keep⟩,
   ⟨0x100, 0, 1, 24, 4, .rw, 0x0, .keep⟩,
   ⟨0x100, 0, 1, 0, 21, .rw, 0x0, .keep⟩,
   ⟨0x104, 0, 1, 24, 8, .ro, 0x0, .keep⟩,
   ⟨0x108, 0, 1, 31, 1, .rwp, 0x0, .keep⟩,
   ⟨0x108, 0, 1, 8, 7, .rwp, 0x0, .keep⟩,
   ⟨0x108, 0, 1, 0, 7, .rwp, 0x6C, .keep⟩,
   ⟨0x10C, 0, 1, 31, 1, .rwp, 0x0, .keep⟩,
   ⟨0x10C, 0, 1, 0, 5, .rwp, 0x6, .within 6 16 6⟩,
   ⟨0x110, 0, 1, 0, 24, .rwp, 0x0, .keep⟩,
   ⟨0x114, 0, 1, 0, 32, .ro, 0x0, .keep⟩,
   ⟨0x118, 0, 1, 0, 32, .rw, 0x0, .keep⟩,
   ⟨0x11C, 0, 1, 0, 32, .rc, 0x0, .keep⟩,
   ⟨0x120, 0, 1, 0, 10, .ro, 0x0, .keep⟩,
   ⟨0x140, 4, 16, 0, 32, .rw, 0x0, .keep⟩,
   ⟨0x180, 4, 16, 0, 32, .ro, 0x0, .keep⟩,
   ⟨0x200, 4, 32, 0, 32, .rc, 0x0, .keep⟩]

/-- Register fields of cru pages (R166). -/
def rows_cru : List FieldRow :=
  [⟨0x100, 0, 1, 0, 19, .ro, 0x60000, .keep⟩,
   ⟨0x104, 0, 1, 0, 26, .ro, 0x0, .keep⟩,
   ⟨0x108, 0, 1, 0, 19, .rwp, 0x2000, .atLeast 4096⟩,
   ⟨0x10C, 0, 1, 0, 19, .rwp, 0x10000, .keep⟩,
   ⟨0x110, 0, 1, 0, 19, .rwp, 0x4000, .keep⟩,
   ⟨0x114, 0, 1, 0, 19, .rc, 0x60000, .keep⟩,
   ⟨0x118, 0, 1, 31, 1, .rwp, 0x0, .keep⟩,
   ⟨0x11C, 0, 1, 0, 32, .rc, 0x0, .keep⟩,
   ⟨0x120, 0, 1, 0, 32, .rc, 0x0, .keep⟩,
   ⟨0x124, 0, 1, 0, 32, .rc, 0x0, .keep⟩]

/-- Register fields of schh pages (R169). -/
def rows_schh : List FieldRow :=
  [⟨0x100, 0, 1, 0, 32, .rwp, 0x0, .keep⟩,
   ⟨0x104, 0, 1, 0, 26, .rwp, 0x8000, .keep⟩,
   ⟨0x108, 0, 1, 0, 26, .ro, 0x0, .keep⟩]

/-- Register fields of leh pages (R200). -/
def rows_leh : List FieldRow :=
  [⟨0x10, 0, 1, 24, 8, .ro, 0x0, .keep⟩,
   ⟨0x10, 0, 1, 16, 8, .ro, 0x0, .keep⟩,
   ⟨0x100, 4, 4, 0, 32, .ro, 0x0, .keep⟩,
   ⟨0x110, 0, 1, 0, 32, .rc, 0x0, .keep⟩,
   ⟨0x114, 0, 1, 0, 32, .rc, 0x0, .keep⟩,
   ⟨0x118, 0, 1, 0, 32, .rc, 0x0, .keep⟩,
   ⟨0x11C, 0, 1, 0, 32, .rc, 0x0, .keep⟩,
   ⟨0x120, 0, 1, 0, 32, .rc, 0x0, .keep⟩]

/-- Register fields of lehg pages (R201). -/
def rows_lehg : List FieldRow :=
  [⟨0x100, 0, 1, 4, 1, .rwp, 0x0, .keep⟩,
   ⟨0x100, 0, 1, 3, 1, .rwp, 0x0, .keep⟩,
   ⟨0x100, 0, 1, 2, 1, .rwp, 0x0, .keep⟩,
   ⟨0x100, 0, 1, 1, 1, .rwp, 0x0, .keep⟩,
   ⟨0x100, 0, 1, 0, 1, .rwp, 0x0, .keep⟩,
   ⟨0x104, 0, 1, 8, 13, .rwp, 0x80, .atLeast 1⟩,
   ⟨0x104, 0, 1, 0, 5, .rwp, 0x8, .within 1 16 16⟩,
   ⟨0x108, 0, 1, 0, 10, .rwp, 0xA, .keep⟩,
   ⟨0x10C, 0, 1, 0, 15, .ro, 0x0, .keep⟩,
   ⟨0x110, 0, 1, 0, 32, .rc, 0x0, .keep⟩,
   ⟨0x114, 0, 1, 0, 32, .rc, 0x0, .keep⟩,
   ⟨0x118, 0, 1, 0, 32, .rc, 0x0, .keep⟩,
   ⟨0x11C, 0, 1, 0, 32, .rc, 0x0, .keep⟩,
   ⟨0x120, 0, 1, 0, 32, .rc, 0x0, .keep⟩,
   ⟨0x124, 0, 1, 0, 32, .rc, 0x0, .keep⟩,
   ⟨0x128, 0, 1, 0, 32, .rc, 0x0, .keep⟩]

/-- Register fields of key pages (R202). -/
def rows_key : List FieldRow :=
  [⟨0x100, 0, 1, 31, 1, .sc, 0x0, .keep⟩,
   ⟨0x100, 0, 1, 24, 4, .rw, 0x0, .keep⟩,
   ⟨0x100, 0, 1, 20, 1, .rw, 0x0, .keep⟩,
   ⟨0x100, 0, 1, 0, 20, .rw, 0x0, .keep⟩,
   ⟨0x104, 0, 1, 24, 8, .ro, 0x0, .keep⟩,
   ⟨0x108, 4, 4, 0, 32, .rw, 0x0, .keep⟩,
   ⟨0x118, 0, 1, 0, 32, .rc, 0x0, .keep⟩,
   ⟨0x11C, 0, 1, 0, 32, .rc, 0x0, .keep⟩,
   ⟨0x120, 0, 1, 0, 21, .ro, 0x0, .keep⟩,
   ⟨0x140, 4, 16, 0, 32, .wo, 0x0, .keep⟩,
   ⟨0x180, 4, 16, 0, 32, .wo, 0x0, .keep⟩]

/-- Register fields of sxp pages (R221). -/
def rows_sxp : List FieldRow :=
  [⟨0x100, 0, 1, 31, 1, .sc, 0x0, .keep⟩,
   ⟨0x100, 0, 1, 24, 4, .rw, 0x0, .keep⟩,
   ⟨0x100, 0, 1, 0, 20, .rw, 0x0, .keep⟩,
   ⟨0x104, 0, 1, 24, 8, .ro, 0x0, .keep⟩,
   ⟨0x108, 0, 1, 31, 1, .rc, 0x0, .keep⟩,
   ⟨0x108, 0, 1, 30, 1, .rc, 0x0, .keep⟩,
   ⟨0x108, 0, 1, 0, 20, .rc, 0x0, .keep⟩,
   ⟨0x10C, 0, 1, 0, 32, .rc, 0x0, .keep⟩,
   ⟨0x180, 4, 32, 0, 32, .rw, 0x0, .keep⟩,
   ⟨0x200, 4, 32, 0, 32, .ro, 0x0, .keep⟩,
   ⟨0x284, 4, 15, 0, 32, .rc, 0x0, .keep⟩]

/-- Register fields of sto pages (R246). -/
def rows_sto : List FieldRow :=
  [⟨0x100, 0, 1, 31, 1, .sc, 0x0, .keep⟩,
   ⟨0x100, 0, 1, 24, 4, .rw, 0x0, .keep⟩,
   ⟨0x100, 0, 1, 0, 18, .rw, 0x0, .keep⟩,
   ⟨0x104, 0, 1, 24, 8, .ro, 0x0, .keep⟩,
   ⟨0x108, 0, 1, 0, 32, .rc, 0x0, .keep⟩,
   ⟨0x10C, 0, 1, 0, 32, .rc, 0x0, .keep⟩,
   ⟨0x110, 0, 1, 0, 32, .rc, 0x0, .keep⟩,
   ⟨0x114, 0, 1, 0, 32, .rc, 0x0, .keep⟩,
   ⟨0x118, 0, 1, 0, 32, .rc, 0x0, .keep⟩,
   ⟨0x11C, 0, 1, 0, 32, .rc, 0x0, .keep⟩,
   ⟨0x120, 0, 1, 0, 32, .rc, 0x0, .keep⟩,
   ⟨0x124, 0, 1, 0, 32, .rc, 0x0, .keep⟩,
   ⟨0x128, 0, 1, 0, 17, .ro, 0x0, .keep⟩,
   ⟨0x180, 4, 32, 0, 32, .rw, 0x0, .keep⟩,
   ⟨0x200, 4, 32, 0, 32, .ro, 0x0, .keep⟩]

/-- Register fields of que pages (R337). -/
def rows_que : List FieldRow :=
  [⟨0x100, 0, 1, 31, 1, .sc, 0x0, .keep⟩,
   ⟨0x100, 0, 1, 24, 4, .rw, 0x0, .keep⟩,
   ⟨0x100, 0, 1, 0, 16, .rw, 0x0, .keep⟩,
   ⟨0x104, 0, 1, 24, 8, .ro, 0x0, .keep⟩,
   ⟨0x108, 0, 1, 0, 16, .rw, 0x0, .keep⟩,
   ⟨0x10C, 0, 1, 2, 1, .wo, 0x0, .keep⟩,
   ⟨0x10C, 0, 1, 1, 1, .wo, 0x0, .keep⟩,
   ⟨0x10C, 0, 1, 0, 1, .rw, 0x0, .keep⟩,
   ⟨0x110, 0, 1, 24, 7, .ro, 0x0, .keep⟩,
   ⟨0x110, 0, 1, 23, 1, .ro, 0x0, .keep⟩,
   ⟨0x110, 0, 1, 16, 7, .ro, 0x0, .keep⟩,
   ⟨0x110, 0, 1, 8, 8, .ro, 0x0, .keep⟩,
   ⟨0x110, 0, 1, 0, 3, .ro, 0x0, .keep⟩,
   ⟨0x114, 0, 1, 0, 32, .ro, 0x0, .keep⟩,
   ⟨0x118, 0, 1, 0, 8, .ro, 0x0, .keep⟩,
   ⟨0x11C, 0, 1, 0, 32, .ro, 0x0, .keep⟩,
   ⟨0x120, 0, 1, 0, 32, .ro, 0x0, .keep⟩,
   ⟨0x124, 0, 1, 0, 32, .ro, 0x0, .keep⟩,
   ⟨0x128, 0, 1, 0, 32, .ro, 0x0, .keep⟩,
   ⟨0x12C, 0, 1, 0, 17, .ro, 0x0, .keep⟩,
   ⟨0x130, 0, 1, 0, 32, .rc, 0x0, .keep⟩,
   ⟨0x134, 0, 1, 0, 32, .rc, 0x0, .keep⟩,
   ⟨0x138, 0, 1, 0, 32, .rc, 0x0, .keep⟩,
   ⟨0x13C, 0, 1, 0, 32, .rc, 0x0, .keep⟩,
   ⟨0x140, 0, 1, 0, 32, .rc, 0x0, .keep⟩,
   ⟨0x144, 0, 1, 0, 32, .rc, 0x0, .keep⟩,
   ⟨0x180, 4, 16, 0, 32, .rw, 0x0, .keep⟩,
   ⟨0x1C0, 4, 16, 0, 32, .ro, 0x0, .keep⟩]

/-- Register fields of blp pages (R351). -/
def rows_blp : List FieldRow :=
  [⟨0x100, 0, 1, 5, 27, .rwp, 0x0, .keep⟩,
   ⟨0x100, 0, 1, 0, 1, .rwp, 0x0, .keep⟩,
   ⟨0x104, 0, 1, 0, 3, .rwp, 0x0, .keep⟩,
   ⟨0x108, 0, 1, 31, 1, .sc, 0x0, .keep⟩,
   ⟨0x108, 0, 1, 30, 1, .sc, 0x0, .keep⟩,
   ⟨0x108, 0, 1, 0, 1, .rwp, 0x0, .keep⟩,
   ⟨0x10C, 0, 1, 8, 8, .ro, 0x0, .keep⟩,
   ⟨0x10C, 0, 1, 3, 1, .ro, 0x0, .keep⟩,
   ⟨0x10C, 0, 1, 0, 3, .ro, 0x0, .keep⟩,
   ⟨0x110, 0, 1, 0, 32, .ro, 0x0, .keep⟩,
   ⟨0x114, 0, 1, 0, 3, .ro, 0x0, .keep⟩,
   ⟨0x118, 0, 1, 0, 25, .ro, 0x0, .keep⟩,
   ⟨0x11C, 0, 1, 0, 32, .ro, 0x0, .keep⟩,
   ⟨0x120, 0, 1, 0, 24, .rwp, 0x0, .keep⟩,
   ⟨0x124, 0, 1, 0, 32, .rc, 0x0, .keep⟩,
   ⟨0x128, 0, 1, 0, 32, .rc, 0x0, .keep⟩]

/-- Register fields of mem pages (R446). -/
def rows_mem : List FieldRow :=
  [⟨0x100, 0, 1, 0, 1, .wo, 0x0, .keep⟩,
   ⟨0x104, 0, 1, 8, 1, .ro, 0x0, .keep⟩,
   ⟨0x104, 0, 1, 0, 3, .rs, 0x0, .keep⟩,
   ⟨0x108, 0, 1, 0, 32, .rc, 0x0, .keep⟩,
   ⟨0x10C, 0, 1, 0, 32, .rc, 0x0, .keep⟩,
   ⟨0x110, 0, 1, 0, 32, .rc, 0x0, .keep⟩,
   ⟨0x114, 0, 1, 0, 16, .rwp, 0x18, .keep⟩]

/-- Register fields of cpx pages (R447). -/
def rows_cpx : List FieldRow :=
  [⟨0x100, 0, 1, 8, 2, .ro, 0x0, .keep⟩,
   ⟨0x100, 0, 1, 0, 3, .ro, 0x0, .keep⟩,
   ⟨0x104, 0, 1, 0, 32, .rc, 0x0, .keep⟩,
   ⟨0x108, 0, 1, 0, 1, .sc, 0x0, .keep⟩]

/-- The register table of a page kind. -/
def PageKind.rows : PageKind → List FieldRow
  | .gctl => rows_gctl
  | .rst => rows_rst
  | .otp => rows_otp
  | .tim => rows_tim
  | .pwr => rows_pwr
  | .evtg => rows_evtg
  | .evtRoute => rows_evtRoute
  | .evtState => rows_evtState
  | .evtAon => rows_evtAon
  | .mbx => rows_mbx
  | .flt => rows_flt
  | .svc => rows_svc
  | .hif => rows_hif
  | .slc => rows_slc
  | .mac => rows_mac
  | .pcs => rows_pcs
  | .macg => rows_macg
  | .gaf => rows_gaf
  | .gafg => rows_gafg
  | .cls => rows_cls
  | .clsg => rows_clsg
  | .tbl => rows_tbl
  | .tblg => rows_tblg
  | .sch => rows_sch
  | .actg => rows_actg
  | .cru => rows_cru
  | .schh => rows_schh
  | .leh => rows_leh
  | .lehg => rows_lehg
  | .key => rows_key
  | .sxp => rows_sxp
  | .sto => rows_sto
  | .que => rows_que
  | .blp => rows_blp
  | .mem => rows_mem
  | .cpx => rows_cpx

/-- BLK_ID.TYPE (R32). -/
def PageKind.typeCode : PageKind → Nat
  | .gctl => 0x1
  | .rst => 0x2
  | .otp => 0x3
  | .tim => 0x4
  | .pwr => 0x5
  | .evtg => 0x6
  | .evtRoute => 0x6
  | .evtState => 0x6
  | .evtAon => 0x6
  | .mbx => 0x7
  | .flt => 0x8
  | .svc => 0x9
  | .hif => 0x10
  | .slc => 0x11
  | .mac => 0x12
  | .pcs => 0x13
  | .macg => 0x12
  | .gaf => 0x14
  | .gafg => 0x14
  | .cls => 0x15
  | .clsg => 0x15
  | .tbl => 0x16
  | .tblg => 0x16
  | .sch => 0x18
  | .actg => 0x17
  | .cru => 0x19
  | .schh => 0x18
  | .leh => 0x1A
  | .lehg => 0x1A
  | .key => 0x1B
  | .sxp => 0x1C
  | .sto => 0x1D
  | .que => 0x1E
  | .blp => 0x1F
  | .mem => 0x20
  | .cpx => 0x21

/-- BLK_CAP (R33, given by each owning chapter). -/
def PageKind.cap : PageKind → Nat
  | .gctl => 0x8
  | .rst => 0x8
  | .otp => 0x80008
  | .tim => 0x20038
  | .pwr => 0x600029
  | .evtg => 0x2000028
  | .evtRoute => 0x80002A
  | .evtState => 0x2000008
  | .evtAon => 0x40028
  | .mbx => 0x10001A
  | .flt => 0x20028
  | .svc => 0x50028
  | .hif => 0x20038
  | .slc => 0x10000039
  | .mac => 0x80039
  | .pcs => 0x80028
  | .macg => 0x10000018
  | .gaf => 0x200028
  | .gafg => 0x180038
  | .cls => 0x200028
  | .clsg => 0x100039
  | .tbl => 0x400028
  | .tblg => 0x400039
  | .sch => 0x80038
  | .actg => 0x10003A
  | .cru => 0x600039
  | .schh => 0x10000039
  | .leh => 0x800028
  | .lehg => 0x400039
  | .key => 0x100039
  | .sxp => 0x200039
  | .sto => 0x400039
  | .que => 0x400039
  | .blp => 0x400039
  | .mem => 0x100028
  | .cpx => 0x20028

/-- The implemented block-specific BLK_FAULT bits, as a mask of bits [31:16] (R36). -/
def PageKind.faultBits : PageKind → Nat
  | .gctl => 0x10000
  | .rst => 0x0
  | .otp => 0x30000
  | .tim => 0x0
  | .pwr => 0x0
  | .evtg => 0x0
  | .evtRoute => 0x0
  | .evtState => 0x0
  | .evtAon => 0x10000
  | .mbx => 0x0
  | .flt => 0x70000
  | .svc => 0x0
  | .hif => 0x1F0000
  | .slc => 0x10000
  | .mac => 0x1F0000
  | .pcs => 0xF0000
  | .macg => 0x0
  | .gaf => 0x70000
  | .gafg => 0x30000
  | .cls => 0x30000
  | .clsg => 0x30000
  | .tbl => 0x70000
  | .tblg => 0x70000
  | .sch => 0x10000
  | .actg => 0xF0000
  | .cru => 0xF0000
  | .schh => 0x0
  | .leh => 0xF0000
  | .lehg => 0x10000
  | .key => 0x10000
  | .sxp => 0x30000
  | .sto => 0x30000
  | .que => 0x30000
  | .blp => 0x10000
  | .mem => 0x30000
  | .cpx => 0x30000

end Sys2Proof.Machine
end

