-- ==== Sys2Proof/Machine/Store.lean ====
section
/-!
DEFINITION. Tables as canonical lists of (key, value) pairs: keys strictly rising, no entry equal to what an unlisted
key reads as.  Registers, wide values, memories and per-index records are all held this way.
-/

namespace Sys2Proof.Machine

variable {α : Type}

/-- The value at key `k`; an unlisted key reads `dflt k`. -/
def Sparse.get (dflt : Nat → α) : List (Nat × α) → Nat → α
  | [], k => dflt k
  | (k', v) :: rest, k => if k = k' then v else Sparse.get dflt rest k

/-- The table with `v` at key `k`, in canonical form when the table is. -/
def Sparse.set [DecidableEq α] (dflt : Nat → α) : List (Nat × α) → Nat → α → List (Nat × α)
  | [], k, v => if v = dflt k then [] else [(k, v)]
  | (k', v') :: rest, k, v =>
    if k < k' then
      if v = dflt k then (k', v') :: rest else (k, v) :: (k', v') :: rest
    else if k = k' then
      if v = dflt k then rest else (k, v) :: rest
    else (k', v') :: Sparse.set dflt rest k v

/-- Every key of the table is at least `lo`, keys rise strictly, and no entry equals the default. -/
def Sparse.wfFrom [DecidableEq α] (dflt : Nat → α) : Nat → List (Nat × α) → Bool
  | _, [] => true
  | lo, (k, v) :: rest => decide (lo ≤ k) && decide (v ≠ dflt k) && Sparse.wfFrom dflt (k + 1) rest

/-- The canonical form. -/
def Sparse.wf [DecidableEq α] (dflt : Nat → α) (m : List (Nat × α)) : Bool := Sparse.wfFrom dflt 0 m

/-- The table with every entry whose key fails `keep` back at its default. -/
def Sparse.restrict (keep : Nat → Bool) (m : List (Nat × α)) : List (Nat × α) := m.filter (fun e => keep e.1)

/-- What an unlisted byte of a memory reads as: 0 (log entry 6). -/
def Memory.dflt : Nat → Byte := fun _ => 0

/-- The byte at address `a`. -/
def Memory.byte (m : List Host.Cell) (a : Nat) : Byte := Sparse.get Memory.dflt m a

/-- The memory with byte `b` at address `a`. -/
def Memory.setByte (m : List Host.Cell) (a : Nat) (b : Byte) : List Host.Cell := Sparse.set Memory.dflt m a b

/-- The canonical form of a memory. -/
def Memory.wf (m : List Host.Cell) : Bool := Sparse.wf Memory.dflt m

/-- The `n` bytes from address `a`. -/
def Memory.read (m : List Host.Cell) (a : Nat) : Nat → List Byte
  | 0 => []
  | n + 1 => Memory.byte m a :: Memory.read m (a + 1) n

/-- The memory with `bs` from address `a`. -/
def Memory.write (m : List Host.Cell) (a : Nat) : List Byte → List Host.Cell
  | [] => m
  | b :: bs => Memory.write (Memory.setByte m a b) (a + 1) bs

end Sys2Proof.Machine
end

