-- ==== Sys2Proof/Machine/Ops.lean ====
section
/-!
DEFINITION. Named operations over the register space, the wide values and the memories; the page map (R25-R28) and
the base addresses of pages; faults latched in BLK_FAULT (R36); completion codes (R7).
-/

namespace Sys2Proof.Machine

/-! ## Pages -/

namespace Page
/-- Base addresses of the register pages, from the page lists of the owning chapters. -/
def gctl : Nat := 0x0
def rst : Nat := 0x1000
def otp : Nat := 0x2000
def tim : Nat := 0x3000
def pwr : Nat := 0x4000
def evtg : Nat := 0x8000
def evtRoute (j : Nat) : Nat := 0x9000 + j * 0x1000
def evtState : Nat := 0xD000
def evtAon : Nat := 0xE000
def mbx (c : Nat) : Nat := 0x10000 + c * 0x1000
def flt : Nat := 0x30000
def svc : Nat := 0x31000
def hif (n : Nat) : Nat := 0x100000 + n * 0x1000
def slc : Nat := 0x102000
def mac (n : Nat) : Nat := 0x200000 + n * 0x1000
def pcs (g : Nat) : Nat := 0x210000 + g * 0x1000
def macg : Nat := 0x212000
def gaf (n : Nat) : Nat := 0x300000 + n * 0x1000
def gafg : Nat := 0x318000
def cls (n : Nat) : Nat := 0x400000 + n * 0x1000
def clsg : Nat := 0x410000
def tbl (n : Nat) : Nat := 0x500000 + n * 0x1000
def tblg : Nat := 0x520000
def sch (n : Nat) : Nat := 0x600000 + n * 0x1000
def actg : Nat := 0x610000
def cru : Nat := 0x611000
def schh : Nat := 0x612000
def leh (n : Nat) : Nat := 0x700000 + n * 0x1000
def lehg : Nat := 0x740000
def key : Nat := 0x741000
def sxp : Nat := 0x800000
def sto : Nat := 0x900000
def que : Nat := 0xA00000
def blp (n : Nat) : Nat := 0xB00000 + n * 0x1000
def mem (n : Nat) : Nat := 0xC00000 + n * 0x1000
def cpx (n : Nat) : Nat := 0xD00000 + n * 0x1000
end Page

/-- The kind and instance number of block page `p` of region `r` (R25-R27), with HIF page 1 populated only when
`split` (R275). -/
def pageKind (split : Bool) (r p : Nat) : Option (PageKind × Nat) :=
  match r with
  | 0 =>
    if p = 0 then some (.gctl, 0) else if p = 1 then some (.rst, 0) else if p = 2 then some (.otp, 0)
    else if p = 3 then some (.tim, 0) else if p = 4 then some (.pwr, 0) else if p = 8 then some (.evtg, 0)
    else if 9 ≤ p ∧ p ≤ 12 then some (.evtRoute, p - 8) else if p = 13 then some (.evtState, 5)
    else if p = 14 then some (.evtAon, 6) else if 16 ≤ p ∧ p ≤ 47 then some (.mbx, p - 16)
    else if p = 48 then some (.flt, 0) else if p = 49 then some (.svc, 0) else none
  | 1 => if p = 0 then some (.hif, 0) else if p = 1 then (if split then some (.hif, 1) else none)
    else if p = 2 then some (.slc, 0) else none
  | 2 => if p < 16 then some (.mac, p) else if p < 18 then some (.pcs, p - 16) else if p = 18 then some (.macg, 0xFF) else none
  | 3 => if p < 24 then some (.gaf, p) else if p = 24 then some (.gafg, 0xFF) else none
  | 4 => if p < 16 then some (.cls, p) else if p = 16 then some (.clsg, 0xFF) else none
  | 5 => if p < 32 then some (.tbl, p) else if p = 32 then some (.tblg, 0xFF) else none
  | 6 => if p < 16 then some (.sch, p) else if p = 16 then some (.actg, 0) else if p = 17 then some (.cru, 0)
    else if p = 18 then some (.schh, 0xFF) else none
  | 7 => if p < 64 then some (.leh, p) else if p = 64 then some (.lehg, 0xFF) else if p = 65 then some (.key, 0) else none
  | 8 => if p = 0 then some (.sxp, 0) else none
  | 9 => if p = 0 then some (.sto, 0) else none
  | 10 => if p = 0 then some (.que, 0) else none
  | 11 => if p < 64 then some (.blp, p) else none
  | 12 => if p < 18 then some (.mem, p) else none
  | 13 => if p < 4 then some (.cpx, p) else none
  | _ => none

/-- The region of an address, the page within it, and the offset within the page (R25). -/
def regionOf (a : Nat) : Nat := a / 0x100000
def pageNumber (a : Nat) : Nat := a / 0x1000 % 256
def offsetOf (a : Nat) : Nat := a % 0x1000
def pageBase (a : Nat) : Nat := a / 0x1000 * 0x1000

/-- eff(o) of R28. -/
def effOffset (bodyLog2 o : Nat) : Nat :=
  if o < 0x80 then o
  else if o < 0x100 then o - 0x80
  else 0x100 + (o - 0x100) % 2 ^ bodyLog2

/-- BODY_LOG2 of a page kind (R33). -/
def PageKind.bodyLog2 (k : PageKind) : Nat := k.cap % 16
/-- BLK_CAP.WMB and BLK_CAP.PARITY (R33). -/
def PageKind.hasWmb (k : PageKind) : Bool := bitAt k.cap 4
def PageKind.hasParity (k : PageKind) : Bool := bitAt k.cap 5

/-- The number of the broadcast type's instances of a region, which occupy its first pages but for MBX (R27). -/
def broadcastCount (region : Nat) : Nat :=
  [32, 2, 16, 24, 16, 32, 16, 64, 1, 1, 1, 64, 18, 4].getD region 0

/-- The page base of instance `n` of a region's broadcast type (R27). -/
def broadcastPage (region n : Nat) : Nat :=
  region * 0x100000 + (if region = 0 then 0x10000 else 0) + n * 0x1000

/-! ## Registers -/

/-- Whether a row's registers include effective offset `off`. -/
def FieldRow.covers (row : FieldRow) (off : Nat) : Bool :=
  if row.stride = 0 then off == row.off
  else decide (row.off ≤ off) && decide ((off - row.off) / row.stride < row.n) && ((off - row.off) % row.stride == 0)

/-- The rows of the register at effective offset `off` of a page kind. -/
def PageKind.fieldsAt (k : PageKind) (off : Nat) : List FieldRow := k.rows.filter (fun row => row.covers off)

/-- The reset value of a register (R32-R36 for the header, the register tables for the rest). -/
def headerReset (k : PageKind) (region page inst off : Nat) : Option Nat :=
  if off = 0x0 then some (k.typeCode * 2 ^ 24 + region * 2 ^ 16 + page * 2 ^ 8 + inst)
  else if off = 0x4 then some 0x101
  else if off = 0x8 then some k.cap
  else if off = 0xC then some (if region = 0 then 1 else 0)
  else if off = 0x10 then some (if region = 0 then 3 else 2)
  else if off = 0x18 then some (k.faultBits + 0x1D)
  else if off < 0x40 then some 0
  else none

/-- What an unlisted register reads as: its reset value. -/
def resetWord (a : Nat) : Word :=
  match pageKind true (regionOf a) (pageNumber a) with
  | none => 0#32
  | some (k, inst) =>
    match headerReset k (regionOf a) (pageNumber a) inst (offsetOf a) with
    | some v => BitVec.ofNat 32 v
    | none => BitVec.ofNat 32 (((k.fieldsAt (offsetOf a)).map (fun row => row.rst * 2 ^ row.lo)).sum)

/-- The word stored for the register at address `a`. -/
def Dev.rd (d : Dev) (a : Nat) : Word := Sparse.get resetWord d.regs a

/-- Store `v` for the register at address `a`. -/
def Dev.wr (d : Dev) (a : Nat) (v : Word) : Dev := { d with regs := Sparse.set resetWord d.regs a v }

/-- Field `f` of page `p`. -/
def Dev.fget (d : Dev) (p : Nat) (f : Fld) : Nat := bits (d.rd (p + f.off)).toNat f.lo f.w

/-- Bit field `f` of page `p` as a truth value. -/
def Dev.fbit (d : Dev) (p : Nat) (f : Fld) : Bool := d.fget p f != 0

/-- Set field `f` of page `p` to the low bits of `v`. -/
def Dev.fset (d : Dev) (p : Nat) (f : Fld) (v : Nat) : Dev :=
  d.wr (p + f.off) (BitVec.ofNat 32 (setBits (d.rd (p + f.off)).toNat f.lo f.w v))

/-! ## Parity of registers (R40) -/

/-- A rising list with `a` added. -/
def addTo (a : Nat) : List Nat → List Nat
  | [] => [a]
  | b :: rest => if a < b then a :: b :: rest else if a = b then b :: rest else b :: addTo a rest

/-- A write of a register sets its parity afresh (R40). -/
def Dev.setParity (d : Dev) (a : Nat) : Dev :=
  { d with badParity := d.badParity.filter (· != a), seenParity := d.seenParity.filter (· != a) }

/-- Set an RWP field, by a write or by the hardware update that R49 names: its register's parity follows. -/
def Dev.fsetP (d : Dev) (p : Nat) (f : Fld) (v : Nat) : Dev := (d.fset p f v).setParity (p + f.off)

/-- Add `n` to counter field `f` of page `p`; it wraps to 0 after its maximum (R39). -/
def Dev.count (d : Dev) (p : Nat) (f : Fld) (n : Nat := 1) : Dev := d.fset p f (d.fget p f + n)

/-- Add `n` to saturating counter field `f` of page `p` (R39). -/
def Dev.countSat (d : Dev) (p : Nat) (f : Fld) (n : Nat := 1) : Dev :=
  d.fset p f (min (2 ^ f.w - 1) (d.fget p f + n))

/-- Set the register at address `a` only in the bits of `mask`. -/
def Dev.setBitsAt (d : Dev) (a : Nat) (mask : Word) : Dev := d.wr a (d.rd a ||| mask)
def Dev.clearBitsAt (d : Dev) (a : Nat) (mask : Word) : Dev := d.wr a (d.rd a &&& ~~~mask)

namespace Hdr
/-- Header registers (R31, R34-R36, R41, R43). -/
def ctl : Nat := 0xC
def stat : Nat := 0x10
def fault : Nat := 0x14
def faultEn : Nat := 0x18
def parity : Nat := 0x1C
def enable : Fld := ⟨0xC, 0, 1⟩
def test : Fld := ⟨0xC, 1, 1⟩
def detach : Fld := ⟨0xC, 2, 1⟩
def parityCont : Fld := ⟨0xC, 3, 1⟩
def safe : Fld := ⟨0x10, 2, 1⟩
def scanNow : Fld := ⟨0x1C, 0, 1⟩
def scanBusy : Fld := ⟨0x1C, 1, 1⟩
def errCnt : Fld := ⟨0x1C, 16, 16⟩
def firstOffset : Fld := ⟨0x1C, 4, 12⟩
def wmbStat : Nat := 0x24
def wmbValid : Fld := ⟨0x24, 0, 1⟩
def wmbErr : Fld := ⟨0x24, 1, 1⟩
def wmbSeq : Fld := ⟨0x24, 8, 8⟩
def wmbIndex : Fld := ⟨0x24, 16, 16⟩
def wmbData (n : Nat) : Nat := 0x28 + 4 * n
end Hdr

/-- BLK_FAULT bits common to every page (R36). -/
def faultCfgParity : Nat := 0
def faultSramCe : Nat := 1
def faultSramUe : Nat := 2
def faultXing : Nat := 3
def faultAccess : Nat := 4

/-- Whether a block accepts new work (R34, R40): ENABLE is 1 and it is not in its safe state. -/
def Dev.accepts (d : Dev) (p : Nat) : Bool := d.fbit p Hdr.enable && !d.fbit p Hdr.safe

/-! ## Wide values -/

/-- The key of wide value `index` of page `p`. -/
def wideKey (p index : Nat) : Nat := p * 0x10000 + index

/-- What an unlisted wide value reads as: 0, but for CRU pool descriptors (LIMIT 0x3000, R167) and the lehr cell limits
of slices (8192, R201). -/
def resetWide (k : Nat) : Wide :=
  if k / 0x10000 = Page.lehg ∧ 0x1000 ≤ k % 0x10000 ∧ k % 0x10000 < 0x2000 then 8192
  else if k / 0x10000 = Page.cru ∧ 0x100 ≤ k % 0x10000 ∧ k % 0x10000 < 0x180 then 0x3000
  else 0

/-- Wide value `index` of page `p`. -/
def Dev.wget (d : Dev) (p index : Nat) : Nat := (Sparse.get resetWide d.wide (wideKey p index)).toNat

/-- Set wide value `index` of page `p`. -/
def Dev.wset (d : Dev) (p index v : Nat) : Dev :=
  { d with wide := Sparse.set resetWide d.wide (wideKey p index) (BitVec.ofNat 192 v) }

/-- Add `n` to 64-bit counter `index` of page `p` (it wraps, R39). -/
def Dev.wcount (d : Dev) (p index : Nat) (n : Nat := 1) : Dev := d.wset p index ((d.wget p index + n) % 2 ^ 64)

/-! ## Memories -/

/-- `n` bytes of GDDR6 from address `a`. -/
def Dev.gread (d : Dev) (a n : Nat) : List Byte := Memory.read d.gddr a n
/-- Write `bs` to GDDR6 from address `a`. -/
def Dev.gwrite (d : Dev) (a : Nat) (bs : List Byte) : Dev := { d with gddr := Memory.write d.gddr a bs }
/-- The little-endian `n`-byte number at GDDR6 address `a`. -/
def Dev.gnum (d : Dev) (a n : Nat) : Nat := ofLe (d.gread a n)
def Dev.gsetNum (d : Dev) (a n v : Nat) : Dev := d.gwrite a (toLe n v)
/-- The 32-bit word at GDDR6 address `a`. -/
def Dev.gword (d : Dev) (a : Nat) : Nat := d.gnum a 4
def Dev.gsetWord (d : Dev) (a v : Nat) : Dev := d.gsetNum a 4 v
/-- `n` words from GDDR6 address `a`. -/
def Dev.gwords (d : Dev) (a n : Nat) : List Word := bytesWords n (d.gread a (4 * n))

/-- The GDDR6 device that holds data address `a` (R403, R425). -/
def memDevice (a : Nat) : Nat := a / 2 ^ 34 * 9 + a % 2 ^ 34 / 64 % 8

/-- The state of a GDDR6 device: 0 ACTIVE, 1 SELF_REFRESH, 2 FAILED (R446). -/
def Dev.memState (d : Dev) (n : Nat) : Nat := Sparse.get (fun _ => 0) d.ft.memState n

/-- Another device of device `n`'s parity group has failed (R424). -/
def Dev.groupFailed (d : Dev) (n : Nat) : Bool :=
  (List.range 9).any (fun i => n / 9 * 9 + i != n && d.memState (n / 9 * 9 + i) == 2)

/-- Whether the 64-byte line at a GDDR6 address cannot be read: its burst cannot be rebuilt, or its device and another of
its parity group have failed (R424-R426). -/
def Dev.lineUncorrectable (d : Dev) (a : Nat) : Bool :=
  d.ft.uncorrectable.contains (a / 64) || (d.memState (memDevice a) == 2 && d.groupFailed (memDevice a))

/-- Lines of `n` bytes from a line-aligned GDDR6 address have been written anew: they can be read again. -/
def Dev.renewLines (d : Dev) (a n : Nat) : Dev :=
  { d with ft := { d.ft with uncorrectable := d.ft.uncorrectable.filter (fun k => !(decide (a / 64 ≤ k) && decide (k < (a + n) / 64))) } }

/-- The on-die store (R341). -/
def Dev.dread (d : Dev) (a n : Nat) : List Byte := Memory.read d.die a n
def Dev.dwrite (d : Dev) (a : Nat) (bs : List Byte) : Dev := { d with die := Memory.write d.die a bs }
def Dev.dword (d : Dev) (a : Nat) : Nat := ofLe (d.dread a 4)

/-- Host memory behind a port (R290). -/
def Dev.hread (d : Dev) (port a n : Nat) : List Byte :=
  if port = 0 then Memory.read d.host0 a n else Memory.read d.host1 a n

/-- Emit an output. -/
def Dev.emit (d : Dev) (o : Output) : Dev := { d with out := d.out ++ [o] }

/-- Take the next free value (log entry 5). -/
def Dev.fresh (d : Dev) : Nat × Dev := (Config.freeValue d.free, { d with free := d.free + 1 })

/-! ## Records held by index -/

/-- Default of a table of records. -/
def blank {α : Type} (v : α) : Nat → α := fun _ => v

def Dev.mover (d : Dev) (n : Nat) : MoverState := Sparse.get (blank {}) d.movers n
def Dev.setMover (d : Dev) (n : Nat) (m : MoverState) : Dev := { d with movers := Sparse.set (blank {}) d.movers n m }
def Dev.bin (d : Dev) (n : Nat) : BinState := Sparse.get (blank {}) d.bins n
def Dev.setBin (d : Dev) (n : Nat) (b : BinState) : Dev := { d with bins := Sparse.set (blank {}) d.bins n b }
def Dev.pair (d : Dev) (n : Nat) : CpxPair := Sparse.get (blank {}) d.cpx n
def Dev.setPair (d : Dev) (n : Nat) (c : CpxPair) : Dev := { d with cpx := Sparse.set (blank {}) d.cpx n c }
def Dev.hostPort (d : Dev) (n : Nat) : HostPort := Sparse.get (blank {}) d.hif n
def Dev.lane (d : Dev) (k : Nat) : Lane := Sparse.get (blank {}) d.lanes k
def Dev.setLane (d : Dev) (k : Nat) (v : Lane) : Dev := { d with lanes := Sparse.set (blank {}) d.lanes k v }
def Dev.setHostPort (d : Dev) (n : Nat) (h : HostPort) : Dev := { d with hif := Sparse.set (blank {}) d.hif n h }
/-- A function of a host port (R277). -/
def HostPort.fn (h : HostPort) (pf : Nat) : PciFunction := if pf = 0 then h.pf0 else h.pf1
def HostPort.setFn (h : HostPort) (pf : Nat) (f : PciFunction) : HostPort := if pf = 0 then { h with pf0 := f } else { h with pf1 := f }
def HostPort.msixEntry (h : HostPort) (v : Nat) : MsixEntry := Sparse.get (blank {}) h.msix v
def HostPort.setMsix (h : HostPort) (v : Nat) (e : MsixEntry) : HostPort := { h with msix := Sparse.set (blank {}) h.msix v e }
def HostPort.ideState (h : HostPort) (s : Nat) : IdeState := Sparse.get (blank .unconfigured) h.ide s
def HostPort.setIde (h : HostPort) (s : Nat) (v : IdeState) : HostPort := { h with ide := Sparse.set (blank .unconfigured) h.ide s v }
def sitKey (s e : Nat) : Nat := s * 16 + e
def Dev.sitEntry (d : Dev) (s e : Nat) : SitEntry := Sparse.get (blank {}) d.sit (sitKey s e)
def Dev.setSit (d : Dev) (s e : Nat) (v : SitEntry) : Dev := { d with sit := Sparse.set (blank {}) d.sit (sitKey s e) v }
def Dev.slice (d : Dev) (s : Nat) : Slice := Sparse.get (blank {}) d.slices s
def Dev.setSlice (d : Dev) (s : Nat) (v : Slice) : Dev := { d with slices := Sparse.set (blank {}) d.slices s v }
def Dev.queue (d : Dev) (q : Nat) : Queue := Sparse.get (blank {}) d.queues q
def Dev.setQueue (d : Dev) (q : Nat) (v : Queue) : Dev := { d with queues := Sparse.set (blank {}) d.queues q v }

/-! ## Power domains of pages (R399) -/

/-- The domain of a page, none for AON. -/
def pageDomain (k : PageKind) (inst : Nat) : Option Nat :=
  match k with
  | .gctl | .rst | .otp | .pwr | .evtAon => none
  | .tim | .macg => some 5
  | .evtg | .evtRoute | .evtState | .mbx | .flt | .svc | .blp | .cpx => some 1
  | .hif | .slc | .que => some 2
  | .cls | .clsg | .tbl | .tblg | .sch | .actg | .cru | .schh | .lehg | .key | .sxp | .sto | .gafg => some 3
  | .mem => some 4
  | .mac => some (6 + inst / 8)
  | .pcs => some (6 + inst)
  | .gaf => some (8 + inst)
  | .leh => some (32 + inst)

/-- Whether domain `n` is on. -/
def Dev.domainOn (d : Dev) (n : Nat) : Bool := bitAt d.pwr.domains n

/-- HIF_CFG.SPLIT (R275). -/
def Dev.split (d : Dev) : Bool := d.fbit (Page.hif 0) Reg.HIF_CFG_SPLIT

/-- The page at an address: kind and instance, none when unpopulated (R26). -/
def Dev.pageAt (d : Dev) (a : Nat) : Option (PageKind × Nat) := pageKind d.split (regionOf a) (pageNumber a)

/-- Whether the page's domain is on. -/
def Dev.pagePowered (d : Dev) (k : PageKind) (inst : Nat) : Bool :=
  match pageDomain k inst with
  | none => true
  | some n => d.domainOn n

/-! ## Completion codes (R7) -/

namespace Code
def ok : Nat := 0x00
def partialDone : Nat := 0x01
def aborted : Nat := 0x02
def truncated : Nat := 0x03
def malformed : Nat := 0x04
def access : Nat := 0x05
def auth : Nat := 0x06
def digest : Nat := 0x07
def remote : Nat := 0x08
def timeout : Nat := 0x09
def fault : Nat := 0x0A
def replay : Nat := 0x0B
def seqExhausted : Nat := 0x0C
def resource : Nat := 0x0D
end Code

/-- The rank of a completion code (R7); lower ranks win when conditions meet in one cycle (R8). -/
def codeRank (c : Nat) : Nat := [14, 13, 4, 12, 1, 2, 6, 9, 10, 11, 3, 7, 8, 5].getD c 15

/-- The code of the first failing check of an ordered list of (passes, code), or OK (R475). -/
def firstFailure : List (Bool × Nat) → Nat
  | [] => Code.ok
  | (good, c) :: rest => if good then firstFailure rest else c

end Sys2Proof.Machine
end

