-- ==== Sys2Proof/Machine/Events.lean ====
section
/-!
DEFINITION. The event fabric (chapter 15): sources, PEND, routes, delivery to MSI-X vectors, movers, CPX lines and board
outputs (R354-R368); MSI-X messages (R286); mover starts (R345, R346); wake requests (R363, R408); and latching a bit of
BLK_FAULT with the level source it drives (R36).
-/

namespace Sys2Proof.Machine

/-! ## Sources -/

/-- The pages whose BLK_FAULT & BLK_FAULT_EN assert a Level source (R356, R273, R298 and the owning chapters). -/
def faultPages (n : Nat) : List Nat :=
  if n = 0 then [Page.gctl] else if n = 2 then [Page.rst] else if n = 3 then [Page.otp] else if n = 5 then [Page.tim]
  else if n = 8 then [Page.evtg, Page.evtRoute 0, Page.evtRoute 1, Page.evtRoute 2, Page.evtRoute 3, Page.evtState, Page.evtAon]
  else if n = 9 then (List.range 64).map Page.blp
  else if n = 32 then [Page.pwr]
  else if n = 64 ∨ n = 65 then [Page.hif (n - 64)]
  else if n = 80 then [Page.slc]
  else if 96 ≤ n ∧ n < 112 then [Page.mac (n - 96)]
  else if n = 112 ∨ n = 113 then [Page.pcs (n - 112)]
  else if n = 114 then [Page.macg]
  else if 128 ≤ n ∧ n < 152 then [Page.gaf (n - 128)]
  else if n = 152 then [Page.gafg]
  else if n = 176 then (List.range 16).map Page.cls
  else if n = 177 then [Page.clsg]
  else if n = 192 then (List.range 32).map Page.tbl
  else if n = 193 then [Page.tblg]
  else if n = 208 then [Page.actg] else if n = 209 then [Page.cru]
  else if n = 210 then (List.range 16).map Page.sch
  else if n = 211 then [Page.schh]
  else if 240 ≤ n ∧ n < 244 then (List.range 16).map (fun i => Page.leh (16 * (n - 240) + i))
  else if n = 244 then [Page.lehg] else if n = 304 then [Page.key] else if n = 312 then [Page.sxp]
  else if n = 320 then [Page.sto] else if n = 352 then [Page.que]
  else if 448 ≤ n ∧ n < 466 then [Page.mem (n - 448)]
  else if n = 480 then (List.range 4).map Page.cpx
  else if n = 482 then [Page.flt, Page.svc]
  else if n = 488 then (List.range 32).map Page.mbx
  else []

/-- The Level source that summarises the faults of a page, and for a mover page the BLP summary (R353, R356). -/
def faultSource (k : PageKind) (inst : Nat) : Option Nat :=
  match k with
  | .gctl => some 0 | .rst => some 2 | .otp => some 3 | .tim => some 5
  | .evtg | .evtRoute | .evtState | .evtAon => some 8
  | .blp => some 9 | .pwr => some 32 | .hif => some (64 + inst) | .slc => some 80
  | .mac => some (96 + inst) | .pcs => some (112 + inst) | .macg => some 114
  | .gaf => some (128 + inst) | .gafg => some 152 | .cls => some 176 | .clsg => some 177
  | .tbl => some 192 | .tblg => some 193 | .actg => some 208 | .cru => some 209 | .sch => some 210 | .schh => some 211
  | .leh => some (240 + inst / 16) | .lehg => some 244 | .key => some 304 | .sxp => some 312 | .sto => some 320
  | .que => some 352 | .mem => some (448 + inst) | .cpx => some 480 | .flt | .svc => some 482 | .mbx => some 488

/-- The Level sources that do not summarise faults: a pad group held (R407), a module interrupt (R273), a manager or
firmware mailbox end holding a message (R398). -/
def conditionSource (n : Nat) : Bool := n == 43 || n == 121 || n == 122 || n == 489 || n == 490

/-- Whether a source is a Level source (R354). -/
def isLevel (n : Nat) : Bool := conditionSource n || !(faultPages n).isEmpty

/-- Sources marked "Reserved, never asserted" (R80, R104, R133, R170, R203, R223, R248, R273, R298, R316, R339, R356, R357, R398,
R421, R448): ranges of numbers. -/
def reservedRanges : List (Nat × Nat) :=
  [(10, 15), (44, 63), (75, 79), (88, 95), (127, 127), (159, 175), (184, 191), (203, 207), (223, 239), (250, 303), (309, 311),
   (318, 318), (327, 351), (362, 383), (469, 479), (494, 495), (505, 511)]

/-- Whether a source is never asserted: it is reserved, or no source has the number (R354). -/
def isReserved (n : Nat) : Bool := decide (512 ≤ n) || reservedRanges.any (fun r => decide (r.1 ≤ n) && decide (n ≤ r.2))

/-- Whether a page reports a fault: BLK_FAULT & BLK_FAULT_EN ≠ 0 (R36). -/
def Dev.pageFaulty (d : Dev) (p : Nat) : Bool := d.rd (p + Hdr.fault) &&& d.rd (p + Hdr.faultEn) != 0#32

/-- The level of a Level source (R354). -/
def Dev.levelOf (d : Dev) (n : Nat) : Bool :=
  if n = 43 then d.pwr.padHeld != 0
  else if n = 121 ∨ n = 122 then d.fbit (Page.pcs (n - 121)) Reg.CAGE_STAT_INT
  else if n = 489 then d.rd (Page.mbx 0 + Reg.MBX_MSUM_RX.off) != 0#32
  else if n = 490 then d.rd (Page.mbx 0 + Reg.MBX_FSUM_RX.off) != 0#32
  else (faultPages n).any d.pageFaulty

/-! ## Routes -/

/-- The fields of a source's route words and its PEND and RAW bits (R358, R368). -/
def routePage (n : Nat) : Nat := Page.evtRoute (n / 128)
def routeFld (f : Fld) (n : Nat) : Fld := f.nth 8 (n % 128)
def Dev.route (d : Dev) (n : Nat) (f : Fld) : Nat := d.fget (routePage n) (routeFld f n)
def pendFld (n : Nat) : Fld := ⟨Reg.EVT_PEND_PEND.off + 4 * (n / 32), n % 32, 1⟩
def rawFld (n : Nat) : Fld := ⟨Reg.EVT_RAW_RAW.off + 4 * (n / 32), n % 32, 1⟩
def Dev.pend (d : Dev) (n : Nat) : Bool := d.fbit Page.evtState (pendFld n)
def Dev.setPend (d : Dev) (n : Nat) (b : Bool) : Dev := d.fset Page.evtState (pendFld n) (b2n b)
def Dev.raw (d : Dev) (n : Nat) : Bool := d.fbit Page.evtState (rawFld n)
def Dev.setRaw (d : Dev) (n : Nat) (b : Bool) : Dev := d.fset Page.evtState (rawFld n) (b2n b)
def Dev.masked (d : Dev) (n : Nat) : Bool := d.route n Reg.EVT_RTB_MASK != 0

/-- PEND & ~MASK of a source. -/
def Dev.active (d : Dev) (n : Nat) : Bool := d.pend n && !d.masked n

/-- The pair that serves pair `p`'s routes (R428): its takeover pair while it is not in RUN. -/
def Dev.servingPair (d : Dev) (p : Nat) : Nat :=
  if d.fget (Page.cpx p) Reg.CPX_STAT_STATE = 0 then p else d.fget (Page.cpx p) Reg.CPX_STAT_TAKEOVER

/-- The level of interrupt line `line` of CPX pair `p` (R360): the OR over the sources routed to it. -/
def Dev.cpxLine (d : Dev) (p line : Nat) : Bool :=
  (List.range 512).any (fun n => d.active n && d.accepts (routePage n) && d.route n Reg.EVT_RTA_CPX_EN == 1
    && d.servingPair (d.route n Reg.EVT_RTA_PAIR) == p && d.route n Reg.EVT_RTA_LINE == line)

/-- The OR of routed PEND & ~MASK that drives board output `b` in mode 0 (R366). -/
def Dev.boutRouted (d : Dev) (b : Nat) : Bool :=
  (List.range 512).any (fun n => d.active n && d.accepts (routePage n) && d.route n Reg.EVT_RTB_BOUT_EN == 1
    && d.route n Reg.EVT_RTB_BOUT == b)

def boutMode (b : Nat) : Fld := ⟨Reg.EVT_BOUT_CTL_MODE0.off, 4 * b, 2⟩
def boutPol (b : Nat) : Fld := ⟨Reg.EVT_BOUT_CTL_MODE0.off, 4 * b + 2, 1⟩

/-- Whether board output `b` is active (R366): routed in mode 0 (held in STANDBY), inactive in mode 1, active in mode 2. -/
def Dev.boutActive (d : Dev) (b : Nat) : Bool :=
  let mode := d.fget Page.evtAon (boutMode b)
  if mode = 0 then (if d.pwr.state = .standby then bitAt d.boutHeld b else d.boutRouted b)
  else mode == 2

/-- The electrical level of pin BOUT`b`. -/
def Dev.boutPin (d : Dev) (b : Nat) : Bool := d.boutActive b == d.fbit Page.evtAon (boutPol b)

/-! ## Sinks -/

/-- Whether host port `n` can issue PF0 messages: its link is up and PF0 is not in D3hot (R277, R296). -/
def Dev.hostReady (d : Dev) (n : Nat) : Bool := (d.hostPort n).linkUp && !(d.hostPort n).pf0.d3

/-- Send vector `v` of a host port, or set its PBA bit while it or the function is masked (R286). -/
def Dev.msixRaise (d : Dev) (port v : Nat) : Dev :=
  let h := d.hostPort port
  let e := h.msixEntry v
  if e.masked || h.functionMask then d.setHostPort port (h.setMsix v { e with pending := true })
  else (d.wcount (Page.hif port) 3).emit (.msix port v e.addr e.data)

/-- Mover states (R345). -/
def moverIdle : Nat := 0
def moverRun : Nat := 1
def moverWait : Nat := 2
def moverStopped : Nat := 3
def moverError : Nat := 4

def Dev.moverState (d : Dev) (m : Nat) : Nat := d.fget (Page.blp m) Reg.BLP_STAT_STATE

/-- Set BLP_STAT.STATE; BLP_CTL.GO reads 1 in RUN and WAIT (R351). -/
def Dev.setMoverState (d : Dev) (m st : Nat) : Dev :=
  (d.fset (Page.blp m) Reg.BLP_STAT_STATE st).fset (Page.blp m) Reg.BLP_CTL_GO (b2n (st == moverRun || st == moverWait))

/-- BLP_HEAD as an address with SPACE in bit 0. -/
def Dev.moverHead (d : Dev) (m : Nat) : Nat :=
  (d.rd (Page.blp m + Reg.BLP_HEAD_LO_ADDR.off)).toNat + d.fget (Page.blp m) Reg.BLP_HEAD_HI_ADDR * 2 ^ 32

/-- Start a chain from BLP_HEAD (R345): ERR, DESC_CNT and REMAIN clear, and the mover runs. -/
def Dev.startChain (d : Dev) (m : Nat) : Dev :=
  let p := Page.blp m
  let d1 := ((d.fset p Reg.BLP_STAT_ERR 0).fset p Reg.BLP_DESC_CNT_CNT 0).fset p Reg.BLP_REMAIN_BYTES 0
  (d1.setMoverState m moverRun).setMover m { nextDesc := d.moverHead m }

/-- A trigger from the event fabric (R345, R346). -/
def Dev.trigger (d : Dev) (m : Nat) : Dev :=
  let p := Page.blp m
  if !d.accepts p then d
  else if !d.fbit p Reg.BLP_CTL_TRIG_EN || d.fbit p Reg.BLP_STAT_TRIG_PEND then d.count p Reg.BLP_GO_IGN_CNT
  else if d.moverState m = moverRun ∨ d.moverState m = moverWait then d.fset p Reg.BLP_STAT_TRIG_PEND 1
  else d.startChain m

/-- Deliver a source once to each enabled sink (R360-R362); AUTOCLR clears PEND of a Pulse source unless its host
message was discarded. -/
def Dev.deliver (d : Dev) (n : Nat) : Dev :=
  if !d.accepts (routePage n) then d
  else
    let hostEn := d.route n Reg.EVT_RTA_HOST_EN == 1
    let port := d.route n Reg.EVT_RTA_HOST_PORT
    let lost := hostEn && !d.hostReady port
    let d1 := if hostEn && !lost then d.msixRaise port (d.route n Reg.EVT_RTA_VECTOR) else d
    let d2 := if d.route n Reg.EVT_RTB_MOVER_EN = 1 then d1.trigger (d.route n Reg.EVT_RTB_MOVER) else d1
    if d.route n Reg.EVT_RTB_AUTOCLR = 1 ∧ !isLevel n ∧ !lost then d2.setPend n false else d2

/-! ## Wake -/

/-- Whether a source's wake enable is 1 (R363). -/
def Dev.wakeEnabled (d : Dev) (n : Nat) : Bool :=
  if n < 64 then d.fbit Page.evtAon ⟨Reg.EVT_WAKE_EN.off + 4 * (n / 32), n % 32, 1⟩
  else if 496 ≤ n ∧ n < 512 then d.fbit Page.evtAon ⟨Reg.EVT_WAKE2_EN.off, n - 496, 1⟩
  else false

/-- Record the request that starts an exit (R408). -/
def Power.cause (p : Power) (kind source : Nat) (replayed : Bool) : Power :=
  { p with causeKind := kind, causeSource := source, replayed := replayed }

/-- Start the exit that a wake request asks for: the STANDBY exit at its first step, or a move from DOZE to RUN (LEAN when
DOZE_RET is 1 and the request is no demand) (R408). -/
def Dev.startExit (d : Dev) (kind source : Nat) (replayed : Bool) : Dev :=
  let p := d.pwr.cause kind source replayed
  if d.pwr.state = .standby then
    { d with pwr := { p with trans := .exit 1, attempts := 0, alternate := false, wakeFailed := false, alert := false } }
  else
    let tgt := if d.fbit Page.pwr Reg.PWR_CFG_DOZE_RET && kind != 3 then PowerState.lean else .run
    { d with pwr := { p with trans := .move tgt } }

/-- Whether an entry sequence (to STANDBY or DOZE) is running (R406). -/
def Transition.entering : Transition → Bool
  | .entry _ => true
  | .move .doze => true
  | _ => false

/-- A wake request (R408, R409): it starts the exit, is latched during an entry, and adds nothing during an exit; after a
failed wake only an MCTP request (kind 4), or a feed becoming good after both were lost, starts a new exit. -/
def Dev.requestWake (d : Dev) (kind source : Nat) : Dev :=
  if d.pwr.trans.entering then
    match d.pwr.wakeLatched with
    | none => { d with pwr := { d.pwr with wakeLatched := some (kind, source) } }
    | some _ => d
  else if d.pwr.trans ≠ .none then d
  else if d.pwr.state = .standby then
    if d.pwr.wakeFailed ∧ ¬ (kind = 4 ∨ (kind = 5 ∧ d.pwr.bothLost)) then d else d.startExit kind source false
  else if d.pwr.state = .doze ∧ kind ≠ 5 then d.startExit kind source false
  else d

/-- The wake that an asserted source requests, when enabled (R363). -/
def Dev.wakeOf (d : Dev) (n : Nat) : Dev := if d.wakeEnabled n then d.requestWake 1 n else d

/-! ## Assertion -/

/-- A pulse of source `n` (R360): a set PEND merges and counts; otherwise PEND is set and, unmasked, the source is
delivered.  While the CPX domain is off, which holds the event fabric (R399), only AON's wake enables see it (R363). -/
def Dev.pulse (d : Dev) (n : Nat) : Dev :=
  if isReserved n then d
  else
    let d1 := d.wakeOf n
    if !d1.domainOn 1 then d1
    else if d1.pend n then d1.count Page.evtg Reg.EVTG_MERGE_CNT_CNT
    else
      let d2 := d1.setPend n true
      if d2.masked n then d2 else d2.deliver n

/-- A Level source follows its condition (R354, R360): while asserted it sets PEND; PEND & ~MASK rising delivers. -/
def Dev.refreshLevel (d : Dev) (n : Nat) : Dev :=
  if !d.domainOn 1 then (if d.levelOf n then d.wakeOf n else d)
  else if d.levelOf n then
    let d1 := if d.raw n then d else (d.setRaw n true).wakeOf n
    if d1.pend n then d1
    else
      let d2 := d1.setPend n true
      if d2.masked n then d2 else d2.deliver n
  else d.setRaw n false

/-- Software clears PEND bits (R360): a Level source still asserted sets it again in the same cycle, which counts as a
change and delivers once more. -/
def Dev.clearPend (d : Dev) (n : Nat) : Dev :=
  if d.pend n then (d.setPend n false).refreshLevel n else d

/-- Unmasking or enabling delivers a source once whose PEND is set (R361, R362). -/
def Dev.deliverPending (d : Dev) (n : Nat) : Dev := if d.active n then d.deliver n else d

/-! ## Faults -/

/-- Bring the Level source of page `p` up to date. -/
def Dev.refreshFault (d : Dev) (p : Nat) : Dev :=
  match d.pageAt p with
  | none => d
  | some (k, inst) =>
    match faultSource k inst with
    | none => d
    | some n => d.refreshLevel n

/-- Latch BLK_FAULT bit `bit` of page `p`, whatever its enable says, and assert the block's fault event when enabled (R36). -/
def Dev.latchFault (d : Dev) (p bit : Nat) : Dev :=
  (d.fset p ⟨Hdr.fault, bit, 1⟩ 1).refreshFault p

/-- Latch BLK_FAULT.ACCESS (R36, R48). -/
def Dev.accessFault (d : Dev) (p : Nat) : Dev := d.latchFault p faultAccess

/-- A port operation or request ends with a code other than OK: OP_REFUSED where the page has it. -/
def Dev.latchWhen (d : Dev) (c : Bool) (p bit : Nat) : Dev := if c then d.latchFault p bit else d

end Sys2Proof.Machine
end

