-- ==== Sys2Proof/Machine/Faults.lean ====
section
/-!
DEFINITION. The fault journal's writer (R437-R440), the stale-identity check of deliveries (R18, R312), and how a meaning
answers a next state.
-/

namespace Sys2Proof.Machine

/-- The meaning of a command that goes on: the same queue, the given device state. -/
def State.become (s : State) (d : Dev) : Host.Outcome State Fault Refusal := .next { s with dev := d }

/-! ## Access errors (R48) -/

/-- Record an access error (R48): every error counts, the first is latched and pulses source 1. -/
def Dev.accessError (d : Dev) (req : Requester) (addr : Nat) (write : Bool) (kind : Nat) : Dev :=
  let d1 := d.countSat Page.gctl Reg.GCTL_AERR_CNT_CNT
  if d1.fbit Page.gctl Reg.GCTL_AERR_ADDR_VALID then d1
  else
    let d2 := (d1.fset Page.gctl Reg.GCTL_AERR_ADDR_ADDR addr).fset Page.gctl Reg.GCTL_AERR_ADDR_VALID 1
    let d3 := ((d2.fset Page.gctl Reg.GCTL_AERR_SRC_RID req.rid).fset Page.gctl Reg.GCTL_AERR_SRC_WRITE (b2n write)).fset
      Page.gctl Reg.GCTL_AERR_SRC_KIND kind
    d3.pulse 1

/-- A write that reaches a field closed to its requester (R48). -/
def Dev.closedWrite (d : Dev) (req : Requester) (addr : Nat) : Dev :=
  (d.accessFault (pageBase addr)).accessError req addr true 3

/-- Why an access does not reach a register: 1 unpopulated, 2 powered down (R48). -/
def Dev.unreachable (d : Dev) (addr : Nat) : Option Nat :=
  match d.pageAt addr with
  | none => some 1
  | some (k, inst) => if d.pagePowered k inst then none else some 2

/-- An access of the manager through a PF0 that is in D3hot, which stops its memory space (R277). -/
def Dev.asleep (d : Dev) (req : Requester) : Bool :=
  match req with
  | .manager port _ => (d.hostPort port).pf0.d3
  | _ => false

/-- Apply a write's effect `f` when its page is reached; otherwise the write is discarded and recorded, and firmware and
Welbor get a bus error from a powered-down page (R48). -/
def Dev.onWrite (d : Dev) (req : Requester) (addr : Nat) (f : Dev → Dev) : Dev :=
  if d.asleep req then d
  else match d.unreachable addr with
  | none => f d
  | some kind =>
    let d1 := d.accessError req addr true kind
    if kind = 2 ∧ !req.isManager then d1.emit (.abort true) else d1

/-- As `onWrite`, for a field closed to the manager. -/
def Dev.onFirmwareWrite (d : Dev) (req : Requester) (addr : Nat) (f : Dev → Dev) : Dev :=
  d.onWrite req addr (fun d => if req.isManager then d.closedWrite req addr else f d)

/-! ## Journal -/

namespace Kind
/-- Kinds of fault record (R438). -/
def cfgParity : Nat := 0x01
def sramUe : Nat := 0x02
def rowSpared : Nat := 0x03
def xingFail : Nat := 0x04
def logic : Nat := 0x05
def redispatch : Nat := 0x06
def lehrRerun : Nat := 0x07
def lehrEmitted : Nat := 0x08
def gddrRebuild : Nat := 0x09
def gddrDevFail : Nat := 0x0A
def cpxMismatch : Nat := 0x0B
def oscSwitch : Nat := 0x0C
def phaseShed : Nat := 0x0D
def feedLost : Nat := 0x0E
def svc : Nat := 0x0F
def avs : Nat := 0x10
def suppressed : Nat := 0x11
end Kind

/-- Update FLT_QDEPTH. -/
def Dev.showQueueDepth (d : Dev) : Dev := d.fset Page.flt Reg.FLT_QDEPTH_DEPTH d.journal.queue.length

/-- Offer a record to the journal's writer (R439): a class 1 record that finds more than 512 queued is suppressed and
counted; another record that finds the queue full waits, and JOURNAL_WAIT is set.  Times are taken at detection. -/
def Dev.journalAdd (d : Dev) (r : FaultRecord) : Dev :=
  let r := { r with sec := d.tim.sec, ns := d.tim.ns, coarse := d.fget Page.tim Reg.TIM_COARSE_COARSE }
  let j := d.journal
  if r.cls = 1 ∧ 512 < j.queue.length then
    let d1 := { d with journal := { j with suppressed := j.suppressed.modify (r.kind - 1) (· + 1) } }
    d1.countSat Page.flt Reg.FLT_SUPP_CNT_CNT
  else if j.queue.length < 1024 then
    { d with journal := { j with queue := j.queue ++ [r], accepted := j.accepted + 1 } }.showQueueDepth
  else
    { d with journal := { j with waiting := j.waiting ++ [r], accepted := j.accepted + 1 } }.latchFault Page.flt
      FaultBit.flt_JOURNAL_WAIT

/-- The sixteen words of a record under a SEQ (R437). -/
def FaultRecord.words (r : FaultRecord) (seq : Nat) : List Word :=
  let w := [seq, r.ns, r.sec % 2 ^ 32, r.sec / 2 ^ 32 % 2 ^ 16 + r.coarse * 2 ^ 16,
    r.typ + r.inst * 2 ^ 8 + r.kind * 2 ^ 16 + r.cls * 2 ^ 24, r.work + r.outcome * 2 ^ 8,
    r.ident % 2 ^ 32, r.ident / 2 ^ 32, r.done, r.touched, r.owner,
    r.detail.getD 0 0, r.detail.getD 1 0, r.detail.getD 2 0, r.detail.getD 3 0].map (BitVec.ofNat 32)
  w ++ [crc32c (wordBytes w)]

/-- Write one record to MRAM under the next SEQ (R439): FLT_HEAD advances, event 483 pulses, and event 486 for class 5. -/
def Dev.journalPut (d : Dev) (r : FaultRecord) : Dev :=
  let j := d.journal
  let d1 := { d with journal := { j with
    mram := Sparse.set (blank []) j.mram (j.seq % 131072) (r.words j.seq), seq := (j.seq + 1) % 2 ^ 32 } }
  let d1 := if 3 ≤ r.cls then { d1 with ft := { d1.ft with degraded := true } } else d1
  let d2 := (d1.fset Page.flt Reg.FLT_HEAD_SEQ d1.journal.seq).pulse 483
  if r.cls = 5 then d2.pulse 486 else d2

/-- Whether `n` accepted records have reached MRAM (R439). -/
def Dev.journalReached (d : Dev) (n : Nat) : Bool := n ≤ d.journal.written

/-- The writer's next record (R439): a SUPPRESSED record first when any was suppressed, then the head of the queue; a
waiting record takes the freed place. -/
def Dev.journalWrite (d : Dev) : Dev :=
  let j := d.journal
  match j.queue with
  | [] => d
  | r :: rest =>
    let d1 := if j.suppressed.any (· != 0) then
        { d with journal := { j with suppressed := [0, 0, 0, 0] } }.journalPut
          { typ := 0x08, kind := Kind.suppressed, cls := 1, outcome := 0xFF, detail := j.suppressed,
            sec := d.tim.sec, ns := d.tim.ns, coarse := d.fget Page.tim Reg.TIM_COARSE_COARSE }
      else d
    let d2 := d1.journalPut r
    let j2 := d2.journal
    let j3 := { j2 with queue := rest ++ j2.waiting.take 1, waiting := j2.waiting.drop 1, written := j2.written + 1 }
    { d2 with journal := j3 }.showQueueDepth

/-- FLT_RD_SEQ selects a record (R440): present when among the last 131,072 before FLT_HEAD. -/
def Dev.journalSelect (d : Dev) (seq : Nat) : Dev :=
  let d := d.fset Page.flt Reg.FLT_RD_SEQ_SEQ seq
  let age := (d.journal.seq + 2 ^ 32 - seq) % 2 ^ 32
  let words := Sparse.get (blank []) d.journal.mram (seq % 131072)
  if 1 ≤ age ∧ age ≤ 131072 ∧ words.getD 0 0 = BitVec.ofNat 32 seq ∧ words ≠ [] then
    let d1 := (List.range 16).foldl
      (fun (d : Dev) i => d.fset Page.flt (Reg.FLT_RD_DATA.nth 4 i) (wordAt words i)) d
    (d1.fset Page.flt Reg.FLT_RD_STAT_VALID 1).fset Page.flt Reg.FLT_RD_STAT_GONE 0
  else (d.fset Page.flt Reg.FLT_RD_STAT_VALID 0).fset Page.flt Reg.FLT_RD_STAT_GONE 1

/-- R440. -/
def execJournalRead (req : Requester) (seq : Word) (s : State) : Host.Outcome State Fault Refusal :=
  s.become (s.dev.onWrite req (Page.flt + Reg.FLT_RD_SEQ_SEQ.off) (·.journalSelect seq.toNat))

/-! ## Identity -/

/-- The stamp of a packet or work item (R18): the manager identity, or a slice with an incarnation. -/
abbrev Stamp := Option (Nat × Nat)

/-- Kinds of delivery (R312, R314). -/
def kindPacket : Nat := 1
def kindCompletion : Nat := 2
def kindInterrupt : Nat := 3
def kindMailbox : Nat := 4

/-- Whether the item's stamp is the manager identity or slice `t` with its current incarnation (R312). -/
def Dev.stampGood (d : Dev) (t : Nat) (stamp : Stamp) : Bool :=
  match stamp with
  | none => true
  | some (s, inc) => s == t && inc == (d.slice t).incarnation

/-- Whether a delivery to a target of slice `t`, which recorded incarnation `target`, may proceed (R312). -/
def Dev.deliverable (d : Dev) (t target : Nat) (stamp : Stamp) : Bool :=
  d.stampGood t stamp && target == (d.slice t).incarnation

/-- Discard a stale delivery of `kind` to slice `t` (R312, R314, R315). -/
def Dev.discardStale (d : Dev) (kind t target : Nat) (stamp : Stamp) : Dev :=
  let d1 := (d.count Page.slc Reg.SLC_STALE_CNT_CNT).wcount Page.slc kind
  let d2 :=
    if d1.fbit Page.slc Reg.SLC_LAST_STALE_VALID then d1
    else
      let inc := if d.stampGood t stamp then target else (match stamp with | none => target | some (_, i) => i)
      ((d1.fset Page.slc Reg.SLC_LAST_STALE_KIND kind).fset Page.slc Reg.SLC_LAST_STALE_INCARNATION inc).fset
        Page.slc Reg.SLC_LAST_STALE_SLICE t |>.fset Page.slc Reg.SLC_LAST_STALE_VALID 1
  d2.pulse 85

/-- Charter fields of a slice (R301). -/
def Slice.word (v : Slice) (i : Nat) : Nat := wordAt v.charter i
def Slice.hostPort (v : Slice) : Nat := bits (v.word 0) 28 1
def Slice.pasid (v : Slice) : Nat := bits (v.word 1) 0 20
def Slice.queueBudget (v : Slice) : Nat := bits (v.word 3) 0 11
def Slice.weight (v : Slice) : Nat := bits (v.word 4) 0 16
def Slice.maxRate (v : Slice) : Nat := v.word 5
def Slice.tableQuota (v : Slice) : Nat := bits (v.word 6) 0 27
def Slice.keyQuota (v : Slice) : Nat := bits (v.word 7) 0 21
def Slice.lehrCells (v : Slice) : Nat := bits (v.word 8) 0 14
def Slice.seq (v : Slice) : Nat := v.word 16

/-- Whether the slice's TDI is CONFIG_LOCKED or RUN (R311). -/
def Slice.isLocked (v : Slice) : Bool := v.tdi == .locked || v.tdi == .run
/-- The selective stream that requests for a slice use while its TDI is locked (R285). -/
def Slice.boundStream (v : Slice) : Option Nat := if v.isLocked then v.stream else none

/-- A manager action on slice `s` is refused because its TDI is CONFIG_LOCKED or RUN (R311). -/
def Dev.confRefused (d : Dev) (s : Nat) : Dev := if (d.slice s).isLocked then d.count Page.slc Reg.SLC_CONF_REJ_CNT else d

/-- Add `n` (remove `n`) to a slice's INFLIGHT (R309). -/
def Dev.holdSlice (d : Dev) (stamp : Stamp) : Dev :=
  match stamp with
  | none => d
  | some (s, _) => let v := d.slice s; d.setSlice s { v with inflight := v.inflight + 1 }
def Dev.releaseSlice (d : Dev) (stamp : Stamp) : Dev :=
  match stamp with
  | none => d
  | some (s, _) => let v := d.slice s; d.setSlice s { v with inflight := v.inflight - 1 }

/-- Send the message of a slice interrupt entry (R289). -/
def Dev.sitSend (d : Dev) (s : Nat) (e : SitEntry) : Dev :=
  let port := (d.slice s).hostPort
  if (d.hostPort port).linkUp ∧ ¬ (d.hostPort port).pf1.d3 then
    (d.wcount (Page.hif port) 3).emit (.sliceIrq port s e.addr e.data { pf := 1, stream := (d.slice s).boundStream })
  else d

/-- Raise entry `e` of slice `s` for an item stamped with incarnation `inc` (R289): an invalid entry discards without a
count; a stale one is discarded under R312; a masked one becomes pending. -/
def Dev.sliceInterrupt (d : Dev) (s e inc : Nat) : Dev :=
  let v := d.sitEntry s e
  if !v.valid then d
  else if !d.deliverable s v.incarnation (some (s, inc)) then d.discardStale kindInterrupt s v.incarnation (some (s, inc))
  else if v.mask then d.setSit s e { v with pending := true }
  else d.sitSend s v

end Sys2Proof.Machine
end

