-- ==== Sys2Proof/Machine/Units.lean ====
section
/-!
DEFINITION. Units and their punty units (R432, R433): which unit takes the new work of an instance, and whether an instance
is in service.
-/

namespace Sys2Proof.Machine

/-! ## Power and clocks of units (R401, R402) -/

def Dev.setPwr (d : Dev) (p : Power) : Dev := { d with pwr := p }

/-- Island clocks in MHz in RUN and LEAN (R11, R401). -/
def gafMhz : Nat := 2000
def tableMhz : Nat := 1800
def lehMhz : Nat := 1600
def cpxMhz : Nat := 2400

/-- The clock of a logic island whose full clock is `full` MHz: half of it in DOZE (R401). -/
def Dev.clockMhz (d : Dev) (full : Nat) : Nat := if d.pwr.state = .doze then full / 2 else full

/-- The body bias of the powered logic islands in mV, forward positive; that of the retained banks in STANDBY (R401). -/
def Dev.bodyBias (d : Dev) : Int :=
  match d.pwr.state with
  | .run | .lean => 200
  | .doze => -300
  | .standby => -500
  | .off => 0

/-- Whether the SRAM arrays of logic islands run with read assist (R401). -/
def Dev.readAssist (d : Dev) : Bool := d.pwr.state == .doze

/-- Gate or ungate a gaffer cluster (R402): event 37. -/
def Dev.gateGaf (d : Dev) (c : Nat) (gate : Bool) : Dev :=
  (d.setPwr { d.pwr with gafGated := if gate then d.pwr.gafGated + 2 ^ c else d.pwr.gafGated - 2 ^ c }).pulse 37

/-- Punty types (R432): GAF cluster, CLS engine, TBL bank, LEH cluster, mover. -/
def puntyGaf : Nat := 0
def puntyCls : Nat := 1
def puntyTbl : Nat := 2
def puntyLeh : Nat := 3
def puntyBlp : Nat := 4

/-- BLK_ID.TYPE, number of instances, and base page of a punty type. -/
def puntyTypeCode (t : Nat) : Nat := [0x14, 0x15, 0x16, 0x1A, 0x1F].getD t 0
def puntyCount (t : Nat) : Nat := [24, 16, 32, 64, 64].getD t 0
def puntyPage (t n : Nat) : Nat :=
  match t with
  | 0 => Page.gaf n
  | 1 => Page.cls n
  | 2 => Page.tbl n
  | 3 => Page.leh n
  | _ => Page.blp n
def puntyOfType (code : Nat) : Option Nat := [0, 1, 2, 3, 4].find? (fun t => puntyTypeCode t == code)

/-- SVC_PUNTYt fields (R445). -/
def puntyState (t : Nat) : Fld := Reg.SVC_PUNTY_STATE.nth 4 t
def puntyUnitState (t : Nat) : Fld := Reg.SVC_PUNTY_UNIT_STATE.nth 4 t
def puntyInst (t : Nat) : Fld := Reg.SVC_PUNTY_INSTANCE.nth 4 t
def puntyTypeFld (t : Nat) : Fld := Reg.SVC_PUNTY_TYPE.nth 4 t

/-- The service record of a punty type. -/
def Dev.punty (d : Dev) (t : Nat) : Punty := Sparse.get (blank {}) d.ft.punty t
def Dev.setPunty (d : Dev) (t : Nat) (p : Punty) : Dev :=
  { d with ft := { d.ft with punty := Sparse.set (blank {}) d.ft.punty t p } }

/-- The instance whose new work the punty of type `t` takes (R433): from SWITCH until the switch back. -/
def Dev.diverted (d : Dev) (t : Nat) : Option Nat :=
  let st := d.fget Page.svc (puntyState t)
  if st = 3 ∨ (st = 4 ∧ !(d.punty t).switchedBack) then some (d.fget Page.svc (puntyInst t)) else none

/-- The unit that takes the new work of instance `n`: itself, or the punty, numbered after the last instance. -/
def Dev.unitOf (d : Dev) (t n : Nat) : Nat := if d.diverted t = some n then puntyCount t else n

/-- The instance whose register page a unit serves (R432). -/
def Dev.pageOfUnit (d : Dev) (t unit : Nat) : Nat :=
  if unit = puntyCount t then d.fget Page.svc (puntyInst t) else unit

/-- Whether an instance has a unit for new work: it is not fenced without a stand-in (R424). -/
def Dev.hasUnit (d : Dev) (t n : Nat) : Bool :=
  if d.diverted t = some n then !(d.punty t).failed else !d.ft.fenced.contains (t * 256 + n)

/-! ## Taking a unit out of service -/

/-- The service steps start (R433): the punty of type `t` enters SYNC for instance `n`. -/
def Dev.svcStart (d : Dev) (t n : Nat) : Dev :=
  let d1 := ((d.fset Page.svc (puntyState t) 1).fset Page.svc (puntyUnitState t) 0).fset Page.svc (puntyTypeFld t) (puntyTypeCode t)
  (d1.fset Page.svc (puntyInst t) n).setPunty t { switchedBack := false, failed := (d.punty t).failed }

/-- A unit that detects a fault of its own (R435): taken out when SVC_CTL.AUTO is set for its type and the punty is FREE.
Otherwise a unit whose punty is in use stays fenced (R424). -/
def Dev.svcAuto (d : Dev) (t n : Nat) (fence : Bool) : Dev :=
  if d.fget Page.svc (puntyState t) = 0 ∧ !(d.punty t).failed then
    (if bitAt (d.fget Page.svc Reg.SVC_CTL_AUTO) t then d.svcStart t n else d)
  else if d.diverted t = some n then d.setPunty t { d.punty t with failed := true }
  else if fence ∧ !d.ft.fenced.contains (t * 256 + n) then
    { d with ft := { d.ft with fenced := d.ft.fenced ++ [t * 256 + n] } }
  else d

end Sys2Proof.Machine
end

