-- ==== Sys2Proof/Machine/Packets.lean ====
section
/-!
DEFINITION. Packets in the crucible: handles and generations (R159), cells and pools (R160, R161), drops by reason (R155),
the decision trace (R152-R154), and the end of a packet when its last copy has left (R94).
-/

namespace Sys2Proof.Machine

/-! ## Records -/

def Dev.packet (d : Dev) (h : Nat) : Packet := Sparse.get (blank {}) d.packets h
def Dev.setPacket (d : Dev) (h : Nat) (p : Packet) : Dev := { d with packets := Sparse.set (blank {}) d.packets h p }
def Dev.modPacket (d : Dev) (h : Nat) (f : Packet → Packet) : Dev := d.setPacket h (f (d.packet h))
def Dev.setStage (d : Dev) (h : Nat) (st : Stage) : Dev := d.modPacket h (fun p => { p with stage := st })

/-- Whether head cell `h` holds a packet. -/
def Dev.holds (d : Dev) (h : Nat) : Bool := (d.packet h).gen != 0

/-- PKT_HANDLE of the packet at head cell `h` (R159). -/
def handleWord (h gen : Nat) : Nat := h + gen % 8192 * 2 ^ 19

/-- The 21-bit source key of a packet. -/
def Packet.source (p : Packet) : Nat := p.srcKind * 65536 + p.srcId

/-- Slice ID of a stamp (0 for the manager identity), manager bit and incarnation (R63). -/
def stampSlice (s : Stamp) : Nat := match s with | none => 0 | some (n, _) => n
def stampMgr (s : Stamp) : Bool := s.isNone
def stampInc (s : Stamp) : Nat := match s with | none => 0 | some (_, i) => i

/-! ## Cells -/

/-- Cells of a list of ranges. -/
def rangeCount (rs : List (Nat × Nat)) : Nat := (rs.map (·.2)).sum

/-- Take `n` cells from the front of the cullet list. -/
def takeCells (n : Nat) : List (Nat × Nat) → List (Nat × Nat) × List (Nat × Nat)
  | [] => ([], [])
  | (a, k) :: rest =>
    if n = 0 then ([], (a, k) :: rest)
    else if k ≤ n then
      let r := takeCells (n - k) rest
      ((a, k) :: r.1, r.2)
    else ([(a, n)], (a + n, k - n) :: rest)

/-- Free on-die cells. -/
def Dev.freeDie (d : Dev) : Nat := d.fget Page.cru Reg.CRU_FREE_CELLS
/-- Free deep cells. -/
def Dev.freeDeep (d : Dev) : Nat := d.fget Page.cru Reg.CRU_DEEP_FREE_CELLS

/-- CRU_FREE takes a new value: CRU_FREE_MIN follows it down, and a downward crossing of CRU_FREE_LOW pulses event 215
(R166). -/
def Dev.setFreeDie (d : Dev) (n : Nat) : Dev :=
  let old := d.freeDie
  let low := d.fget Page.cru Reg.CRU_FREE_LOW_CELLS
  let d1 := d.fset Page.cru Reg.CRU_FREE_CELLS n
  let d2 := if n < d1.fget Page.cru Reg.CRU_FREE_MIN_CELLS then d1.fset Page.cru Reg.CRU_FREE_MIN_CELLS n else d1
  if low ≤ old ∧ n < low then d2.pulse 215 else d2

/-- Allocate `n` on-die cells from the cullet list (R160). -/
def Dev.allocCells (d : Dev) (n : Nat) : List (Nat × Nat) × Dev :=
  let r := takeCells n d.cullet.die
  (r.1, ({ d with cullet := { d.cullet with die := r.2 } }.setFreeDie (d.freeDie - n)).wcount Page.cru 1 n)

/-- Return on-die cells to the cullet list (R160). -/
def Dev.freeCells (d : Dev) (rs : List (Nat × Nat)) : Dev :=
  if rangeCount rs = 0 then d
  else { d with cullet := { d.cullet with die := d.cullet.die ++ rs } }.setFreeDie (d.freeDie + rangeCount rs)

/-- Take `n` cells from the free list of the deep cells; reaching 0 sets DEEP_FULL and pulses event 216 (R162). -/
def Dev.allocDeep (d : Dev) (n : Nat) : List (Nat × Nat) × Dev :=
  let r := takeCells n d.cullet.deep
  let left := d.freeDeep - n
  let d1 := { d with cullet := { d.cullet with deep := r.2 } }.fset Page.cru Reg.CRU_DEEP_FREE_CELLS left
  (r.1, if left = 0 ∧ n ≠ 0 then (d1.latchFault Page.cru FaultBit.cru_DEEP_FULL).pulse 216 else d1)

/-- Cells that hold bytes in the deep crucible are counted as spilled (R167). -/
def Dev.countSpill (d : Dev) (n : Nat) : Dev := d.wcount Page.cru 2 n

/-- Return deep cells to their free list (R160). -/
def Dev.returnDeep (d : Dev) (rs : List (Nat × Nat)) : Dev :=
  { d with cullet := { d.cullet with deep := d.cullet.deep ++ rs } }.fset Page.cru Reg.CRU_DEEP_FREE_CELLS
    (d.freeDeep + rangeCount rs)

/-- The deep crucible takes a configuration (R162, R167): base in MiB, size in units of 2 MiB, of 8192 cells each. -/
def Dev.setDeepCrucible (d : Dev) (v : Nat) : Dev :=
  ({ d with cullet := { d.cullet with deep := [(0, bits v 16 13 * 8192)] } }.wset Page.cru 0x10
    (bits v 0 15 + bits v 16 13 * 2 ^ 16)).fset Page.cru Reg.CRU_DEEP_FREE_CELLS (bits v 16 13 * 8192)

/-- The cells of a list of ranges, one by one. -/
def rangeCells (rs : List (Nat × Nat)) : List Nat := rs.flatMap (fun r => (List.range r.2).map (r.1 + ·))

/-- The link table's entries for a packet's cells (R159): of each cell but the last, whether the next cell is deep, and its index. -/
def Packet.links (p : Packet) : List Nat :=
  ((rangeCells p.cells) ++ (rangeCells p.deepCells).map (· + 2 ^ 26)).drop 1

/-- Cells of `n` bytes (R159). -/
def cellsOf (n : Nat) : Nat := (n + 255) / 256

/-! ## Pools (R161, R167) -/

def poolIndex (m p : Nat) : Nat := 8 * m + p
def Dev.poolConfig (d : Dev) (i : Nat) : Nat := d.wget Page.cru (0x100 + i)
def Dev.poolLimit (d : Dev) (i : Nat) : Nat := bits (d.poolConfig i) 0 26
def Dev.poolXoff (d : Dev) (i : Nat) : Nat := bits (d.poolConfig i) 32 26
def Dev.poolXon (d : Dev) (i : Nat) : Nat := bits (d.poolConfig i) 64 26
def Dev.poolHeadroom (d : Dev) (i : Nat) : Nat := bits (d.poolConfig i) 96 26
def Dev.poolLossless (d : Dev) (i : Nat) : Bool := bitAt (d.poolConfig i) 127
def Dev.poolUsage (d : Dev) (i : Nat) : Nat := d.wget Page.cru (0x300 + i)

/-- Whether CRU has asked pool `i`'s MAC for XOFF (R161). -/
def Dev.xoffOf (d : Dev) (i : Nat) : Bool := Sparse.get (blank false) d.xoffAsked i

/-- A pool's usage changes: a lossless pool asks for XOFF at XOFF and for XON at XON (R161). -/
def Dev.setPoolUsage (d : Dev) (i u : Nat) : Dev :=
  let d1 := d.wset Page.cru (0x300 + i) u
  if !d1.poolLossless i then d1
  else if d1.poolXoff i ≤ u ∧ !d1.xoffOf i then { d1 with xoffAsked := Sparse.set (blank false) d1.xoffAsked i true }
  else if u ≤ d1.poolXon i ∧ d1.xoffOf i then { d1 with xoffAsked := Sparse.set (blank false) d1.xoffAsked i false }
  else d1

/-- Return `n` cells to a packet's pool. -/
def Dev.poolReturn (d : Dev) (pool : Option Nat) (n : Nat) : Dev :=
  match pool with
  | none => d
  | some i => d.setPoolUsage i (d.poolUsage i - n)

/-! ## Trace (R152-R154) -/

/-- Colours (R148). -/
def green : Nat := 0
def yellow : Nat := 1
def red : Nat := 2

/-- The in-colour of a pass before any meter (R148). -/
def Dev.firstColour (d : Dev) (md : List Byte) : Nat :=
  if d.fbit Page.actg Reg.ACTG_LAYOUT_COLOR_EN then min red (byteAt md (d.fget Page.actg Reg.ACTG_LAYOUT_COLOR_MOFF) % 4) else green

/-- The colour of a pass so far: its last meter's, or the in-colour (R148). -/
def Dev.passColour (d : Dev) (p : Packet) : Nat := p.colours.getLastD (d.firstColour p.md)

/-- Whether the packet's current pass is traced. -/
def Packet.traced (p : Packet) : Bool := p.traceGlobal || p.traceSession.isSome

/-- A saturated 32-bit duration. -/
def sat32 (n : Nat) : Nat := min n (2 ^ 32 - 1)

/-- Six words of a probe in a trace record. -/
def probeWords (p : Option ProbeResult) : List Nat :=
  match p with
  | none => [0, 0, 0, 0, 0, 0]
  | some r => [r.table + b2n r.hit * 2 ^ 6 + b2n r.err * 2 ^ 7 + b2n r.bad * 2 ^ 8 + r.len * 2 ^ 16, r.slot] ++ r.result

/-- The 48 words of a decision trace record without PHASE (R154), with the pass colour. -/
def Packet.traceWords (p : Packet) (h kind reason colour now : Nat) : List Nat :=
  [bits kind 0 3 * 2 ^ 28 + p.pass * 2 ^ 26 + b2n p.batch.isSome * 2 ^ 25 + p.batch.getD 0 * 2 ^ 21 + p.bank.getD 0 * 2 ^ 20
      + (if kind = 3 then reason * 2 ^ 12 else 0) + p.probes.length * 2 ^ 9 + b2n p.traceGlobal * 2 ^ 8
      + (if p.traceGlobal then 0 else p.traceSession.getD 0),
    handleWord h p.gen,
    p.srcId + byteAt p.md 13 * 2 ^ 16 + p.srcKind * 2 ^ 24,
    stampSlice p.stamp + b2n (stampMgr p.stamp) * 2 ^ 12 + stampInc p.stamp * 2 ^ 16 + colour * 2 ^ 24,
    p.ruleIndex,
    bits (wordAt p.rule 15) 0 24 + bits (wordAt p.rule 14) 12 4 * 2 ^ 24,
    p.applied + p.skipped * 2 ^ 8,
    p.lenIn, p.lenOut,
    (match p.dest with | none => 0 | some x => 2 ^ 21 + x),
    p.ns, p.sec % 2 ^ 32,
    sat32 (p.dispatched - p.arrived), sat32 (p.accepted - p.arrived), sat32 (p.actedAt - p.arrived),
    (if kind = 1 then 0 else sat32 (now - p.arrived))]
    ++ (List.range 4).flatMap (fun i => probeWords (p.probes.getD i none))
    ++ (List.range 8).map (fun i => wordAt p.rule i)

/-- A trace record joins the backlog; one that finds it full is discarded (R153). -/
def Dev.traceAdd (d : Dev) (words : List Nat) : Dev :=
  if d.traceQ.length < 512 then { d with traceQ := d.traceQ ++ [words] }
  else ((d.count Page.actg Reg.ACTG_TRACE_LOST_CNT).latchFault Page.actg FaultBit.actg_TRACE_LOST).pulse 213

/-- Write the trace record of a packet's pass when the pass is traced. -/
def Dev.traceWrite (d : Dev) (h kind reason : Nat) : Dev :=
  let p := d.packet h
  if p.traced then d.traceAdd (p.traceWords h kind reason (d.passColour p) d.now) else d

/-! ## Drops -/

namespace Drop
/-- Reasons (R155). -/
def rule : Nat := 0x01
def meterRed : Nat := 0x02
def actMalformed : Nat := 0x03
def noDest : Nat := 0x04
def tmplAbsent : Nat := 0x05
def editRange : Nat := 0x06
def ttlExpired : Nat := 0x07
def segErr : Nat := 0x08
def oversize : Nat := 0x09
def qTail : Nat := 0x0A
def destDown : Nat := 0x0B
def admitSrcLimit : Nat := 0x0C
def admitNobuf : Nat := 0x0D
def admitHeadroom : Nat := 0x0E
def cellUe : Nat := 0x0F
def reheatLimit : Nat := 0x10
def clsDefault : Nat := 0x11
def gafExc : Nat := 0x12
def staleId : Nat := 0x13
def lehr : Nat := 0x14
end Drop

/-- Count a drop under its reason (R155). -/
def Dev.countDrop (d : Dev) (reason : Nat) : Dev := d.count Page.actg (Reg.ACTG_DROP_CNT.nth 4 reason)

/-- Decrement a saturated-at-zero count field. -/
def Dev.uncount (d : Dev) (p : Nat) (f : Fld) : Dev := d.fset p f (d.fget p f - 1)

/-- GAFG_INFLIGHTn and CLS_BATCH_INFLIGHTn (R74, R93). -/
def inflightBank (b : Nat) : Fld := if b = 0 then Reg.GAFG_INFLIGHT0_CNT else Reg.GAFG_INFLIGHT1_CNT
def inflightBatch (b : Nat) : Fld := Reg.CLS_BATCH_INFLIGHT_CNT.nth 4 b

/-- Whether a packet's copies are outside the counts of R94 already: its batch is counted from acceptance to departure. -/
def Dev.departCounts (d : Dev) (p : Packet) : Dev :=
  let d1 := match p.bank with
    | none => d
    | some b => d.uncount Page.gafg (inflightBank b)
  match p.batch with
  | none => d1
  | some b => d1.uncount Page.clsg (inflightBatch b)

/-- A transmit entry that waits for its frame's transmit time learns that the frame is gone (R329). -/
def Dev.noteGone (d : Dev) (p : Packet) : Dev :=
  match p.entry, p.wantTime, p.stamp with
  | some (q, i), true, some _ => { d with sentQ := d.sentQ ++ [{ queue := q, index := i, len := p.bytes.length }] }
  | _, _, _ => d

/-- An SXP discard (R219): counted by reason and under ACTG_DROP LEHR; event 316. -/
def Dev.sxpDiscard (d : Dev) (n : Nat) : Dev :=
  ((d.count Page.sxp (Reg.SXP_DISC_CNT.nth 4 (n - 1))).countDrop Drop.lehr).pulse 316

/-- RTO_MIN, RTO_MAX, RETRIES and CMD_TIMEOUT at reset (R238). -/
def sesResetWord (i : Nat) : Option Nat :=
  if i = 11 then some (1000 + 1000 * 2 ^ 16) else if i = 12 then some (8 + 30000 * 2 ^ 16) else none

/-- Word `i` of storage session `s` (R238), and the slice that owns the session. -/
def Dev.sesAddr (d : Dev) (s : Nat) : Nat := bits (d.wget Page.sto 0x10) 0 15 * 2 ^ 20 + s * 128
def Dev.sesWord (d : Dev) (s i : Nat) : Nat :=
  match sesResetWord i with
  | some v => if d.sto.zeroed || Sparse.get (blank false) d.sto.written s then d.gword (d.sesAddr s + 4 * i) else v
  | none => d.gword (d.sesAddr s + 4 * i)
def Dev.sesOwnedBy (d : Dev) (s slice : Nat) : Bool :=
  !bitAt (d.sesWord s 1) 12 && bits (d.sesWord s 1) 0 12 == slice && bitAt (d.sesWord s 0) 31

/-- A packet ends: its cells return (R160), its counts fall (R74, R94), its slice's INFLIGHT falls (R309), and its handle
dies.  A segment that reheated on its own leaves the counts to the packet it is a copy of. -/
def Dev.retireOne (d : Dev) (h : Nat) : Dev :=
  let p := d.packet h
  let n := rangeCount p.cells + rangeCount p.deepCells
  let d1 := (((d.freeCells p.cells).freeCells p.extra).returnDeep p.deepCells).poolReturn p.pool n
  let d2 := if p.recorded ∨ p.parent.isSome then d1 else d1.departCounts p
  let d3 := d2.noteGone p
  (if p.parent.isSome then d3 else d3.releaseSlice p.stamp).setPacket h {}

/-- A packet ends, and with the last of its segments the packet that they are copies of (R94, R160). -/
def Dev.retireUp (d : Dev) (h : Nat) : Nat → Dev
  | 0 => d.retireOne h
  | n + 1 =>
    let d1 := d.retireOne h
    match (d.packet h).parent with
    | none => d1
    | some k =>
      let p := d1.packet k
      let d2 := d1.setPacket k { p with copies := p.copies - 1 }
      if p.copies ≤ 1 ∧ p.stage = .leaving then d2.retireUp k n else d2

/-- A packet ends; a segment of a segment may reheat, over at most four passes (R98). -/
def Dev.retire (d : Dev) (h : Nat) : Dev := d.retireUp h 3

/-- A packet is dropped whole (R155): the reason counts, its trace record is written, and it ends; while mirror copies of it
remain, its cells stay (R94, R160). -/
def Dev.dropPacket (d : Dev) (h reason : Nat) : Dev :=
  let d1 := (d.countDrop reason).traceWrite h 3 reason
  let p := d1.packet h
  if p.copies = 0 then d1.retire h
  else (if p.parent.isSome then d1 else d1.departCounts p).setPacket h { p with stage := .leaving, recorded := true }

/-- One copy of a packet has left (`reason = none`) or was dropped; after the last, the packet ends (R94, R160): DEPART when
any copy left, DROP with the last reason otherwise. -/
def Dev.copyGone (d : Dev) (h : Nat) (reason : Option Nat) : Dev :=
  let d0 := match reason with
    | some r => d.countDrop r
    | none => d
  let p := d0.packet h
  let p1 := { p with copies := p.copies - 1, anyLeft := p.anyLeft || reason.isNone }
  let d1 := d0.setPacket h p1
  if p1.copies = 0 ∧ p1.stage = .leaving then
    let d2 := if p1.recorded ∨ p1.split then d1 else if p1.anyLeft then d1.traceWrite h 2 0 else d1.traceWrite h 3 (reason.getD 0)
    d2.retire h
  else d1

/-- The handle of copy or job has died (R159): the use is discarded and counted. -/
def Dev.staleHandle (d : Dev) : Dev :=
  ((d.count Page.cru Reg.CRU_STALE_CNT_CNT).latchFault Page.cru FaultBit.cru_STALE).pulse 222

/-- A handle is current (R159): its head cell holds a packet of that generation. -/
def Dev.handleGood (d : Dev) (h gen : Nat) : Bool := d.holds h && (d.packet h).gen % 8192 == gen % 8192

/-- A cell or link that SEC-DED cannot correct drops the packet (R159). -/
def Dev.cellUe (d : Dev) (h : Nat) : Dev :=
  ((d.countSat Page.cru Reg.CRU_CELL_UE_CNT).latchFault Page.cru FaultBit.cru_CELL_UE).dropPacket h Drop.cellUe

/-! ## Copies -/

def Dev.copy (d : Dev) (c : Nat) : Option Copy := Sparse.get (blank none) d.copies c
def Dev.setCopy (d : Dev) (c : Nat) (v : Option Copy) : Dev := { d with copies := Sparse.set (blank none) d.copies c v }

/-- Create a copy (R158); ACTG wide value 0x0002 counts it. -/
def Dev.addCopy (d : Dev) (c : Copy) : Dev :=
  let d1 := { (d.setCopy d.nextCopy (some c)) with nextCopy := d.nextCopy + 1 }
  (d1.modPacket c.packet (fun p => { p with copies := p.copies + 1 })).wcount Page.actg 2

/-- A copy's record ends, and its own head cells return (R160). -/
def Dev.closeCopy (d : Dev) (c : Nat) (v : Copy) : Dev := (d.setCopy c none).freeCells v.own

/-- A copy ends: it has left, or was dropped for a reason. -/
def Dev.endCopy (d : Dev) (c : Nat) (reason : Option Nat) : Dev :=
  match d.copy c with
  | none => d
  | some v => (d.closeCopy c v).copyGone v.packet reason

/-- A copy whose packet's handle has died (R159). -/
def Dev.staleCopy (d : Dev) (c : Nat) (v : Copy) : Dev := (d.closeCopy c v).staleHandle

end Sys2Proof.Machine
end

