-- ==== Sys2Proof/Machine/Gaffer.lean ====
section
/-!
DEFINITION. The gaffer parse cores (chapter 3): contexts, dispatch, the header window, the instruction set, exceptions, and
the end of a pass.
-/

namespace Sys2Proof.Machine

/-! ## Clusters and contexts -/

/-- A context number from its parts, and the parts (R51): unit × 128 + core × 4 + context. -/
def ctxUnit (c : Nat) : Nat := c / 128
def ctxCore (c : Nat) : Nat := c / 4 % 32
def ctxSlot (c : Nat) : Nat := c % 4

def Dev.ctxAt (d : Dev) (c : Nat) : Option Ctx := Sparse.get (blank none) d.ctxs c
def Dev.setCtx (d : Dev) (c : Nat) (x : Option Ctx) : Dev := { d with ctxs := Sparse.set (blank none) d.ctxs c x }

/-- The GAF page of a unit (R432). -/
def Dev.gafPage (d : Dev) (u : Nat) : Nat := Page.gaf (d.pageOfUnit puntyGaf u)

/-- Program store word `w` of bank `b` of unit `u` (R50). -/
def storeKey (u b w : Nat) : Nat := u * 4096 + b * 2048 + w
def Dev.storeWord (d : Dev) (u b w : Nat) : Word := Sparse.get (blank 0#32) d.store (storeKey u b w)
def Dev.setStoreWord (d : Dev) (u b w : Nat) (v : Word) : Dev :=
  { d with store := Sparse.set (blank 0#32) d.store (storeKey u b w) v }

/-- Whether a cluster's page reads ENABLED = 1 (R34, R73). -/
def Dev.gafEnabled (d : Dev) (u : Nat) : Bool := d.accepts (d.gafPage u) && !d.gafStopped.contains u

/-- Whether context `c` is free and unfenced. -/
def Dev.ctxFree (d : Dev) (c : Nat) : Bool := (d.ctxAt c).isNone && !d.fencedCtx.contains c

/-- Free, unfenced contexts of core `k` of unit `u`, and of the unit. -/
def Dev.coreFree (d : Dev) (u k : Nat) : Nat := (List.range 4).countP (fun i => d.ctxFree (u * 128 + k * 4 + i))
def Dev.unitFree (d : Dev) (u : Nat) : Nat := ((List.range 32).map (d.coreFree u)).sum

/-- Units that take new passes (R53, R402, R432): each position's unit, powered, ungated, enabled. -/
def Dev.gafUnits (d : Dev) : List Nat :=
  (List.range 24).filterMap (fun n =>
    let u := d.unitOf puntyGaf n
    if d.hasUnit puntyGaf n && d.domainOn (8 + n) && !bitAt d.pwr.gafGated n && d.gafEnabled u then some u else none)

/-- The first element with the greatest measure. -/
def argMax (f : Nat → Nat) : List Nat → Option Nat
  | [] => none
  | a :: rest =>
    match argMax f rest with
    | none => some a
    | some b => if f b ≤ f a then some a else some b

/-- The context chosen for a pass among `units` (R53): the unit, the core, the lowest free context. -/
def Dev.chooseCtx (d : Dev) (units : List Nat) : Option Nat :=
  match argMax d.unitFree (units.filter (fun u => d.unitFree u != 0)) with
  | none => none
  | some u =>
    match argMax (d.coreFree u) (List.range 32) with
    | none => none
    | some k => ((List.range 4).map (fun i => u * 128 + k * 4 + i)).find? d.ctxFree

/-! ## Dispatch -/

/-- GAFG_DISP_DEPTH (R78): packets waiting, first passes and reheats together. -/
def Dev.dispDepth (d : Dev) : Nat := d.dispatchQ.length + d.reheatQ.length

/-- The dispatch depth rose to its present value from one less: DISP_PEAK follows, and a rise above THR pulses event 158. -/
def Dev.depthRose (d : Dev) : Dev :=
  let n := d.dispDepth
  let d1 := d.fset Page.gafg Reg.GAFG_DISP_DEPTH_DEPTH n
  let d2 := if d1.fget Page.gafg Reg.GAFG_DISP_PEAK_PEAK < n then d1.fset Page.gafg Reg.GAFG_DISP_PEAK_PEAK n else d1
  if n - 1 ≤ d.fget Page.gafg Reg.GAFG_DISP_THR_THR ∧ d.fget Page.gafg Reg.GAFG_DISP_THR_THR < n then d2.pulse 158 else d2

/-- Queue a packet for its first dispatch, or for a reheat (R68, R100). -/
def Dev.queueFirst (d : Dev) (h : Nat) : Dev :=
  { (d.setStage h .waiting) with dispatchQ := d.dispatchQ ++ [h] }.depthRose
def Dev.queueReheat (d : Dev) (h : Nat) : Dev :=
  { (d.setStage h .reheat) with reheatQ := d.reheatQ ++ [h] }.depthRose

/-- The reheat credit takes a new value (R99): a fall from above 0 to 0 or below pulses event 181 (R100). -/
def Dev.setCredit (d : Dev) (c : Int) : Dev :=
  let d1 := { d with credit := c }.fset Page.clsg Reg.CLS_REHEAT_CREDIT_C (c % 2 ^ 32).toNat
  if 0 < d.credit ∧ c ≤ 0 then d1.pulse 181 else d1

/-- A reheat at the head of its queue while C ≤ 0 is counted once (R100). -/
def Dev.deferReheat (d : Dev) : Dev :=
  match d.reheatQ with
  | [] => d
  | _ :: _ =>
    if d.credit ≤ 0 ∧ !d.reheatSeen then
      { (d.count Page.clsg Reg.CLS_REHEAT_DEFER_CNT) with reheatSeen := true }
    else d

/-- The saturated FRAME_LEN (R63). -/
def frameLen (bytes : List Byte) : Nat := min bytes.length 0xFFFF

/-- Metadata at the start of a pass (R54, R63). -/
def Packet.startMeta (p : Packet) (h bank hint : Nat) : List Byte :=
  toLe 4 (handleWord h p.gen) ++ toLe 2 (frameLen p.bytes) ++ toLe 1 p.srcKind
    ++ toLe 1 (p.pass * 64 + b2n p.batch.isSome * 32 + bank * 16 + p.batch.getD 0) ++ toLe 2 p.srcId
    ++ toLe 2 (stampSlice p.stamp + b2n (stampMgr p.stamp) * 2 ^ 15) ++ toLe 1 (stampInc p.stamp) ++ toLe 1 hint ++ [0, 0]
    ++ List.replicate 96 0 ++ (if p.pass = 0 then List.replicate 16 0 else cut p.md 112 16)

/-- The context at the start of a pass (R54), from metadata `md`, the hint and the entry word's address. -/
def Ctx.start (h bank hint addr entry : Nat) (bytes : List Byte) (md : List Byte) : Ctx := {
  packet := h, bank := bank,
  g := [BitVec.ofNat 32 (frameLen bytes),
      BitVec.ofNat 32 (byteAt md 6 * 2 ^ 24 + byteAt md 7 * 2 ^ 16 + ofLe (cut md 8 2)),
      BitVec.ofNat 32 hint] ++ List.replicate 13 0#32,
  wlen := min (frameLen bytes) 256, md := md, pc := addr, entry := entry }

/-! ## Ending a pass by an exception (R69-R72) -/

/-- Exception codes (R69). -/
def excWindow : Nat := 1
def excCycle : Nat := 2
def excIllegal : Nat := 3
def excParity : Nat := 4

/-- The 128-bit exception record (R72); an issue past word 2047 has PC 2047 (R58). -/
def excRecord (p : Packet) (h exc pc c unitNo bank cycles : Nat) : Nat :=
  handleWord h p.gen + p.srcId * 2 ^ 32 + p.srcKind * 2 ^ 48 + p.pass * 2 ^ 50 + exc * 2 ^ 56 + min pc 2047 * 2 ^ 64
    + ctxCore c * 2 ^ 75 + unitNo * 2 ^ 80 + ctxSlot c * 2 ^ 85 + bank * 2 ^ 87 + cycles % 4096 * 2 ^ 88
    + stampSlice p.stamp * 2 ^ 100 + b2n (stampMgr p.stamp) * 2 ^ 112

/-- Write an exception record into the ring and pulse event 153 (R72). -/
def Dev.writeExcRecord (d : Dev) (r : Nat) : Dev :=
  let slot := d.fget Page.gafg Reg.GAFG_EXC_HEAD_NEXT
  let d1 := (d.wset Page.gafg (0x40 + slot) r).fset Page.gafg Reg.GAFG_EXC_HEAD_NEXT (slot + 1)
  (d1.count Page.gafg Reg.GAFG_EXC_HEAD_TOTAL).pulse 153

/-- Counts of a pass that ended (R77, R79) and its charge against the reheat credit (R99). -/
def Dev.passEnded (d : Dev) (c pass charged before : Nat) : Dev :=
  let d1 := ((d.count (d.gafPage (ctxUnit c)) Reg.GAF_PASS_CNT_CNT).wcount Page.gafg 1).wcount Page.gafg 2 charged
  if pass = 0 then d1 else d1.setCredit (d1.credit - Int.ofNat (charged + before))

/-- An excepting packet enters the exception queue, or is dropped when DELIVER is 0 or the queue is full (R71). -/
def Dev.excEnqueue (d : Dev) (h : Nat) : Dev :=
  let deliver := d.fbit Page.gafg Reg.GAFG_EXC_CTL_DELIVER
  if deliver ∧ d.excQ.length < 1024 then
    let d1 := { (d.setStage h .exception) with excQ := d.excQ ++ [h] }
    d1.fset Page.gafg Reg.GAFG_EXC_DEPTH_DEPTH d1.excQ.length
  else
    let d1 := ((d.count Page.gafg Reg.GAFG_EXC_DROP_CNT).pulse 154).latchWhen deliver Page.gafg FaultBit.gafg_EXC_OVERFLOW
    d1.dropPacket h Drop.gafExc

/-- The pass on context `c` ends by exception `code` with `sub` at `pc` (R69, R71, R72): the context is free, the partial
record holds the exception and flag word bit 63. -/
def Dev.raise (d : Dev) (c : Nat) (x : Ctx) (code sub pc : Nat) : Dev :=
  let h := x.packet
  let p := d.packet h
  let exc := code * 16 + sub
  let p1 := { p with md := overwrite x.md 14 [BitVec.ofNat 8 exc], flags := x.flags % 2 ^ 63 + 2 ^ 63 }
  let u := ctxUnit c
  let d1 := ((d.setCtx c none).setPacket h p1).count (d.gafPage u) Reg.GAF_EXC_CNT_CNT
  let cnt := d1.wget Page.gafg 3
  let d2 := d1.wset Page.gafg 3 (setBits cnt (32 * (code - 1)) 32 (bits cnt (32 * (code - 1)) 32 + 1))
  let d3 := d2.writeExcRecord (excRecord p h exc pc c (d.pageOfUnit puntyGaf u) x.bank x.charged)
  (d3.passEnded c p.pass x.charged x.before).excEnqueue h

/-! ## Placing a pass -/

/-- Place a pass of packet `h` on context `c` (R54): its metadata and state at entry; an invalid entry word raises ILLEGAL
subcode 7 before the first instruction. `prior` carries what an earlier attempt of the pass leaves (R73). -/
def Dev.place (d : Dev) (h c bank hint : Nat) (md : List Byte) (prior : Ctx → Ctx) : Dev :=
  let p := d.packet h
  let entry := if p.pass = 0 then 0 else hint % 16
  let w := (d.storeWord (ctxUnit c) bank entry).toNat
  let x := prior (Ctx.start h bank (if p.pass = 0 then 0 else hint) (bits w 0 11) entry p.bytes md)
  let d1 := (d.setCtx c (some x)).setStage h (.running c)
  if !bitAt w 31 ∨ bits w 0 11 < 16 ∨ bits w 11 20 ≠ 0 then d1.raise c x excIllegal 7 entry else d1

/-- The hint that enters a pass (R68): 0 on a first pass; the reheat word's hint when it is not 0, else REHEAT_HINT as the
previous pass left it. -/
def Packet.entryHint (p : Packet) : Nat :=
  if p.pass = 0 then 0 else if p.hintWord ≠ 0 then p.hintWord else byteAt p.md 13

/-- Dispatch packet `h` (R53, R54, R74): a first pass is stamped with the active bank and counted. -/
def Dev.dispatchPass (d : Dev) (h c : Nat) : Dev :=
  let p := d.packet h
  let bank := p.bank.getD (d.fget Page.gafg Reg.GAFG_BANK_ACTIVE)
  let d1 := if p.bank.isNone then d.count Page.gafg (inflightBank bank) else d
  let hint := p.entryHint
  let md := p.startMeta h bank hint
  let p1 := { p with
    bank := some bank, md := md, flags := 0, dispatched := d.now, probes := [], touched := [], repeats := [], noTemplate := false, colours := [], redDrop := false
    applied := 0, skipped := 0, lenOut := 0, dest := none, traceSession := none, rule := [], ruleIndex := 0
    accepted := p.arrived, actedAt := p.arrived, lenIn := p.bytes.length, segments := [] }
  (d1.setPacket h p1).place h c bank hint md id

/-- Records waiting in the release buffer (R67). -/
def Dev.releaseDepth (d : Dev) : Nat := d.packets.countP (fun e => e.2.stage == .done)

/-- Whether `h` is the first packet of its source in the dispatch queue (R53). -/
def Dev.firstOfSource (d : Dev) (h : Nat) : Bool :=
  (d.dispatchQ.find? (fun k => (d.packet k).source == (d.packet h).source)) == some h

/-- The context on which a pass restarts that context `c` left (R73): on another core, in another cluster when one has a free
context; in another cluster only, when `same` is false. -/
def Dev.restartCtx (d : Dev) (c : Nat) (same : Bool) : Option Nat :=
  let u := ctxUnit c
  match d.chooseCtx (d.gafUnits.filter (· != u)) with
  | some c2 => some c2
  | none =>
    let core := (List.range 4).map (fun i => c / 4 * 4 + i)
    if same then { d with fencedCtx := d.fencedCtx ++ core }.chooseCtx d.gafUnits else none

/-- A packet's ended pass restarts once its record has reached MRAM (R439) and a context is free for it, with the state of R54, flag word bit 60 set, and the cycles of
the ended attempt kept for the reheat credit (R73, R99). -/
def Dev.restart (d : Dev) (h : Nat) : Dev :=
  let p := d.packet h
  match p.restart with
  | none => d
  | some r =>
    match (if d.journalReached r.journal then d.restartCtx r.left r.same else none) with
    | none => d
    | some c =>
      (d.setPacket h { p with restart := none }).place h c (p.bank.getD 0) p.entryHint p.md (fun y => { y with
        flags := setBits y.flags 60 1 1, before := r.before, parityHits := r.parityHits, storeHits := r.storeHits })

/-- PACKET_DISPATCH (R53, R100): a pass that waits for its restart goes first; while C > 0 the oldest reheat goes before any first pass; the release buffer must have
room, and a context must be free. -/
def Dev.dispatch (d0 : Dev) (h : Nat) : Dev :=
  let d := d0.deferReheat
  if (d.packet h).restart.isSome then d.restart h
  else if 4096 ≤ d.releaseDepth then d
  else
    match d.chooseCtx d.gafUnits with
    | none => d
    | some c =>
      let reheatFirst := decide (0 < d.credit)
      match d.reheatQ with
      | r :: rest =>
        if reheatFirst then
          if r ≠ h then d
          else
            let d1 := { d with reheatQ := rest, reheatSeen := false }
            (d1.fset Page.gafg Reg.GAFG_DISP_DEPTH_DEPTH d1.dispDepth).dispatchPass h c
        else if d.dispatchQ.contains h ∧ d.firstOfSource h then
          let d1 := { d with dispatchQ := d.dispatchQ.filter (· != h) }
          (d1.fset Page.gafg Reg.GAFG_DISP_DEPTH_DEPTH d1.dispDepth).dispatchPass h c
        else d
      | [] =>
        if d.dispatchQ.contains h ∧ d.firstOfSource h then
          let d1 := { d with dispatchQ := d.dispatchQ.filter (· != h) }
          (d1.fset Page.gafg Reg.GAFG_DISP_DEPTH_DEPTH d1.dispDepth).dispatchPass h c
        else d

/-- R53, R54, R100. -/
def execPacketDispatch (packet : Nat) (s : State) : Host.Outcome State Fault Refusal := s.become (s.dev.dispatch packet)

/-! ## Issue -/

/-- What an instruction reads beside its context: the program store, the packet's window bytes, its length and the
Toeplitz key. -/
structure View where
  word : Nat
  table : List Nat
  bytes : List Byte
  key : List Byte
  deriving DecidableEq, Repr

/-- What an instruction does: its cost, the ILLEGAL subcodes that apply, a WINDOW_OVERRUN subcode, the context after it, and
whether it ends the pass. -/
structure Issued where
  cost : Nat := 1
  illegal : List Nat := []
  overrun : Option Nat := none
  next : Ctx
  ends : Bool := false
  deriving DecidableEq, Repr

/-- ILLEGAL subcode `n` when `b`. -/
def illIf (b : Bool) (n : Nat) : List Nat := if b then [n] else []

/-- General register `i`. -/
def Ctx.reg (x : Ctx) (i : Nat) : Word := x.g.getD i 0#32
def Ctx.setReg (x : Ctx) (i : Nat) (v : Word) : Ctx := { x with g := x.g.set i v }
/-- The context at the next word. -/
def Ctx.advance (x : Ctx) : Ctx := { x with pc := x.pc + 1 }

/-- Fields of the formats of R57. -/
def fD (w : Nat) : Nat := bits w 22 4
def fS (w : Nat) : Nat := bits w 18 4
def fT (w : Nat) : Nat := bits w 14 4
def fImm18 (w : Nat) : Nat := bits w 0 18

/-- Format A: gd = f gs gt with Z and carry `c` (R58). -/
def formA (f : Word → Word → Word) (carry : Word → Word → Bool) (v : View) (x : Ctx) : Issued :=
  let a := x.reg (fS v.word)
  let b := x.reg (fT v.word)
  { illegal := illIf (bits v.word 0 14 != 0) 2, next := ((x.setReg (fD v.word) (f a b)).withZC (f a b) (carry a b)).advance }

/-- Format B with an operand `imm` made of imm18 and reserved bits checked by `bad` (R58). -/
def formB (f : Word → Word → Word) (carry : Word → Word → Bool) (imm : Nat → Word) (bad : Nat → Bool) (v : View) (x : Ctx) :
    Issued :=
  let a := x.reg (fS v.word)
  let b := imm (fImm18 v.word)
  { illegal := illIf (bad v.word) 2, next := ((x.setReg (fD v.word) (f a b)).withZC (f a b) (carry a b)).advance }

def noCarry : Word → Word → Bool := fun _ _ => false
def zext18 (n : Nat) : Word := BitVec.ofNat 32 n
def sext18 (n : Nat) : Word := BitVec.ofInt 32 (signed 18 n)

def insAdd : View → Ctx → Issued := formA (· + ·) flagCarry
def insSub : View → Ctx → Issued := formA (· - ·) flagBorrow
def insAnd : View → Ctx → Issued := formA (· &&& ·) noCarry
def insOr : View → Ctx → Issued := formA (· ||| ·) noCarry
def insXor : View → Ctx → Issued := formA (· ^^^ ·) noCarry
def insShl : View → Ctx → Issued := formA (fun a b => a <<< (b.toNat % 32)) noCarry
def insShr : View → Ctx → Issued := formA (fun a b => a >>> (b.toNat % 32)) noCarry
def insMov (v : View) (x : Ctx) : Issued :=
  { illegal := illIf (bits v.word 0 18 != 0) 2, next := (x.setReg (fD v.word) (x.reg (fS v.word))).advance }
def insAddi : View → Ctx → Issued := formB (· + ·) flagCarry sext18 (fun _ => false)
def insAndi : View → Ctx → Issued := formB (· &&& ·) noCarry zext18 (fun _ => false)
def insOri : View → Ctx → Issued := formB (· ||| ·) noCarry zext18 (fun _ => false)
def insXori : View → Ctx → Issued := formB (· ^^^ ·) noCarry zext18 (fun _ => false)
def insShli : View → Ctx → Issued :=
  formB (fun a b => a <<< (b.toNat % 32)) noCarry zext18 (fun w => bits w 5 13 != 0)
def insShri : View → Ctx → Issued :=
  formB (fun a b => a >>> (b.toNat % 32)) noCarry zext18 (fun w => bits w 5 13 != 0)
def insMovi (v : View) (x : Ctx) : Issued :=
  { illegal := illIf (fS v.word != 0) 2, next := (x.setReg (fD v.word) (zext18 (fImm18 v.word))).advance }
def insMovhi (v : View) (x : Ctx) : Issued :=
  { illegal := illIf (fS v.word != 0 || bits v.word 16 2 != 0) 2,
    next := (x.setReg (fD v.word)
      (BitVec.ofNat 32 (bits v.word 0 16 * 2 ^ 16 + (x.reg (fD v.word)).toNat % 2 ^ 16))).advance }

/-- Format X: pos and length of a bit field (R57). -/
def xPos (w : Nat) : Nat := bits w 13 5
def xLen (w : Nat) : Nat := bits w 8 5 + 1
def xIllegal (w : Nat) : List Nat := illIf (bits w 0 8 != 0) 2 ++ illIf (decide (32 < xPos w + xLen w)) 3

def insExt (v : View) (x : Ctx) : Issued :=
  let r := BitVec.ofNat 32 (bits (x.reg (fS v.word)).toNat (xPos v.word) (xLen v.word))
  { illegal := xIllegal v.word, next := ((x.setReg (fD v.word) r).withZ r).advance }
def insIns (v : View) (x : Ctx) : Issued :=
  let r := BitVec.ofNat 32 (setBits (x.reg (fD v.word)).toNat (xPos v.word) (xLen v.word) (x.reg (fS v.word)).toNat)
  { illegal := xIllegal v.word, next := (x.setReg (fD v.word) r).advance }

/-! ## The header window (R55, R56) -/

/-- e of R56. -/
def Ctx.offset (x : Ctx) (rel : Bool) (off9 : Nat) : Nat := (if rel then x.cur else 0) + off9

/-- FRAME_LEN as the hardware header holds it. -/
def Ctx.frameLen (x : Ctx) : Nat := ofLe (cut x.md 4 2)

/-- The subcode of a hard access out of bounds (R56). -/
def overrunCode (flen e w : Nat) : Nat := if 512 < e + w then 3 else if flen < e + w then 2 else 1

/-- Whether an access of `w` bytes at `e` is in bounds. -/
def Ctx.inBounds (x : Ctx) (e w : Nat) : Bool := decide (e + w ≤ x.wlen)

/-- The window bytes an access reads, 0 for those out of bounds; and those in bounds only. -/
def Ctx.window (x : Ctx) (v : View) (e w : Nat) : List Byte := cut (v.bytes.take x.wlen) e w
def Ctx.windowPresent (x : Ctx) (v : View) (e w : Nat) : List Byte := ((v.bytes.take x.wlen).drop e).take w

/-- O and flag word bit 59 after an access (R56). -/
def Ctx.access (x : Ctx) (e w : Nat) : Ctx :=
  if x.inBounds e w then { x with o := false } else { x with o := true, flags := setBits x.flags 59 1 1 }

/-- WINDOW_OVERRUN of a hard access (R56). -/
def Ctx.overrun (x : Ctx) (soft : Bool) (e w : Nat) : Option Nat :=
  if soft || x.inBounds e w then none else some (overrunCode x.frameLen e w)

/-- Format L: a load of `w` bytes (R57, R58). -/
def insLoad (n : Nat) (field : Bool) (v : View) (x : Ctx) : Issued :=
  let w := v.word
  let e := x.offset (bitAt w 12) (bits w 13 9)
  let soft := bitAt w 11
  let pos := bits w 6 5
  let len := bits w 1 5 + 1
  let raw := ofBe (x.window v e n)
  let r := BitVec.ofNat 32 (if field then bits raw pos len else raw)
  { illegal := illIf (bitAt w 0 || (!field && bits w 1 10 != 0)) 2
      ++ illIf (field && decide (32 < pos + len)) 3,
    overrun := x.overrun soft e n,
    next := (((x.access e n).setReg (fD w) r).withZ r).advance }

/-- Format C: CUR = base + (U ? gs : 0) + imm10 mod 2^16 (R58). -/
def insCursor (add : Bool) (v : View) (x : Ctx) : Issued :=
  let w := v.word
  let u := bitAt w 17
  let r := ((if add then x.cur else 0) + (if u then (x.reg (fS w)).toNat else 0) + bits w 0 10) % 2 ^ 16
  { illegal := illIf (fD w != 0 || bits w 10 7 != 0 || (!u && fS w != 0)) 2, next := { x with cur := r }.advance }

def insCurget (v : View) (x : Ctx) : Issued :=
  { illegal := illIf (bits v.word 0 22 != 0) 2, next := (x.setReg (fD v.word) (BitVec.ofNat 32 x.cur)).advance }

/-- WEXT (R55). -/
def insWext (v : View) (x : Ctx) : Issued :=
  let extend := decide (256 < x.frameLen) && !x.extended
  let x1 := if extend then
      { x with wlen := min x.frameLen 512, flags := setBits x.flags 62 1 1, extended := true, suspended := true }
    else x
  { illegal := illIf (bits v.word 0 26 != 0) 2, next := x1.advance }

/-! ## Control flow (R58-R60) -/

/-- A jump to `target`, taken when `take`. -/
def Ctx.jump (x : Ctx) (take : Bool) (target : Nat) : Ctx := if take then { x with pc := target } else x.advance
def badTarget (take : Bool) (target : Nat) : List Nat := illIf (take && decide (target < 16)) 4

def insBr (v : View) (x : Ctx) : Issued :=
  let w := v.word
  let take := condHolds (bits w 15 3) (x.reg (fD w)) (x.reg (fS w))
  { cost := if take then 2 else 1, illegal := illIf (bits w 11 4 != 0) 2 ++ badTarget take (bits w 0 11),
    next := x.jump take (bits w 0 11) }

def insBri (v : View) (x : Ctx) : Issued :=
  let w := v.word
  let take := condHolds (bits w 19 3) (x.reg (fD w)) (BitVec.ofNat 32 (bits w 11 8))
  { cost := if take then 2 else 1, illegal := badTarget take (bits w 0 11), next := x.jump take (bits w 0 11) }

def insBf (v : View) (x : Ctx) : Issued :=
  let w := v.word
  let sel := bits w 24 2
  let value := if sel = 0 then x.z else if sel = 1 then x.c else if sel = 2 then x.o else bitAt x.flags (bits w 17 6)
  let take := value == bitAt w 23
  { cost := if take then 2 else 1,
    illegal := illIf (bits w 11 6 != 0 || (sel != 3 && bits w 17 6 != 0)) 2 ++ badTarget take (bits w 0 11),
    next := x.jump take (bits w 0 11) }

def insJ (v : View) (x : Ctx) : Issued :=
  let w := v.word
  { cost := 2, illegal := illIf (bits w 11 15 != 0) 2 ++ badTarget true (bits w 0 11), next := x.jump true (bits w 0 11) }

def insCall (v : View) (x : Ctx) : Issued :=
  let w := v.word
  { cost := 2,
    illegal := illIf (bits w 11 15 != 0) 2 ++ badTarget true (bits w 0 11) ++ illIf (decide (4 ≤ x.stack.length)) 5,
    next := { x with stack := (x.pc + 1) :: x.stack }.jump true (bits w 0 11) }

def insRet (v : View) (x : Ctx) : Issued :=
  { cost := 2, illegal := illIf (bits v.word 0 26 != 0) 2 ++ illIf (x.stack == []) 5,
    next := { x with stack := x.stack.tail }.jump true (x.stack.headD 0) }

/-- DISP (R60): the table follows the instruction; `v.table` holds the words after it, up to word 2047. -/
def insDisp (v : View) (x : Ctx) : Issued :=
  let k := bits v.word 17 5
  let i := (x.reg (fD v.word)).toNat % 2 ^ k
  let t := v.table.getD i 0
  let past := decide (2047 < x.pc + 2 ^ k)
  { cost := 3,
    illegal := illIf (bits v.word 0 17 != 0) 2
      ++ illIf (k == 0 || decide (8 < k) || (decide (i < v.table.length) && bits t 11 21 != 0)) 3
      ++ illIf (past || decide (bits t 0 11 < 16)) 4,
    next := x.jump true (bits t 0 11) }

/-- DMAT (R60). -/
def insDmat (v : View) (x : Ctx) : Issued :=
  let n := bits v.word 17 5
  let key := (x.reg (fD v.word)).toNat % 2 ^ 16
  let found := (v.table.take n).find? (fun t => bits t 16 16 == key)
  { cost := if n ≤ 8 then 2 else 3,
    illegal := illIf (bits v.word 0 17 != 0) 2
      ++ illIf (n == 0 || decide (16 < n) || (match found with | some t => bits t 11 5 != 0 | none => false)) 3
      ++ illIf (decide (2047 < x.pc + n) || (match found with | some t => decide (bits t 0 11 < 16) | none => false)) 4,
    next := match found with
      | some t => { x with pc := bits t 0 11 }
      | none => { x with pc := x.pc + 1 + n } }

/-! ## Hash units (R61, R62) -/

/-- 32 key bits from bit `j`, with key bit `j` most significant (R62). -/
def toeplitzWindow (key : List Byte) (j : Nat) : Word :=
  let n := ofBe (cut key (j / 8) 5)
  BitVec.ofNat 32 (n / 2 ^ (8 - j % 8))

/-- Feed one byte to the Toeplitz unit as input byte number `i`. -/
def toeplitzByte (key : List Byte) (acc : Word) (i : Nat) (b : Byte) : Word :=
  (List.range 8).foldl (fun a k => if b.getLsbD (7 - k) then a ^^^ toeplitzWindow key (8 * i + k) else a) acc

/-- Feed bytes to the Toeplitz unit from input byte number `i`. -/
def toeplitzFeed (key : List Byte) : Word → Nat → List Byte → Word
  | acc, _, [] => acc
  | acc, i, b :: bs => toeplitzFeed key (toeplitzByte key acc i b) (i + 1) bs

def Ctx.feedCrc (x : Ctx) (bs : List Byte) : Ctx := { x with crc := crcFeed x.crc bs }
def Ctx.feedToe (x : Ctx) (v : View) (bs : List Byte) : Ctx :=
  { x with toe := toeplitzFeed v.key x.toe x.toeBytes bs, toeBytes := x.toeBytes + bs.length }

def insHinit (v : View) (x : Ctx) : Issued :=
  let w := v.word
  { illegal := illIf (bits w 0 20 != 0 || fD w != 0) 2,
    next := { x with crc := 0xFFFFFFFF#32, toe := 0#32, toeBytes := 0, toeKey := bits w 20 2 }.advance }

/-- Format H: n window bytes fed to a hash unit (R57, R58). -/
def insHashWindow (toe : Bool) (v : View) (x : Ctx) : Issued :=
  let w := v.word
  let n := bits w 20 6 + 1
  let e := x.offset (bitAt w 10) (bits w 11 9)
  let soft := bitAt w 9
  let bs := if soft then x.windowPresent v e n else x.window v e n
  let x1 := if toe then (x.access e n).feedToe v bs else (x.access e n).feedCrc bs
  { cost := 1 + (if toe then (n + 3) / 4 else (n + 7) / 8),
    illegal := illIf (bits w 0 9 != 0) 2 ++ illIf (toe && decide (36 < x.toeBytes + bs.length)) 6,
    overrun := x.overrun soft e n, next := x1.advance }

/-- Format HR: 1, 2 or 4 low bytes of g, most significant first (R58, R61). -/
def insHashReg (toe : Bool) (v : View) (x : Ctx) : Issued :=
  let w := v.word
  let sel := bits w 20 2
  let bs := toBe (2 ^ sel) (x.reg (fD w)).toNat
  { illegal := illIf (bits w 0 20 != 0) 2 ++ illIf (sel == 3) 3 ++ illIf (toe && sel != 3 && decide (36 < x.toeBytes + bs.length)) 6,
    next := (if toe then x.feedToe v bs else x.feedCrc bs).advance }

def insHrd (v : View) (x : Ctx) : Issued :=
  let w := v.word
  { illegal := illIf (bits w 0 20 != 0 || bitAt w 21) 2,
    next := (x.setReg (fD w) (if bitAt w 20 then x.toe else x.crc ^^^ 0xFFFFFFFF#32)).advance }

/-! ## Metadata and flag word (R64, R65) -/

def Ctx.writeMeta (x : Ctx) (off : Nat) (bs : List Byte) : Ctx := { x with md := overwrite x.md off bs }

def insEmit (v : View) (x : Ctx) : Issued :=
  let w := v.word
  let moff := bits w 15 7
  let size := bits w 13 2
  let n := 2 ^ size
  { illegal := illIf (bits w 0 13 != 0) 2 ++ illIf (size == 3 || decide (moff < 16) || decide (128 < moff + n)) 3,
    next := (x.writeMeta moff (toBe n (x.reg (fD w)).toNat)).advance }

def insEmitw (v : View) (x : Ctx) : Issued :=
  let w := v.word
  let n := bits w 21 5 + 1
  let moff := bits w 14 7
  let e := x.offset (bitAt w 4) (bits w 5 9)
  let soft := bitAt w 3
  { cost := if n ≤ 16 then 1 else 2,
    illegal := illIf (bits w 0 3 != 0) 2 ++ illIf (decide (moff < 16) || decide (128 < moff + n)) 3,
    overrun := x.overrun soft e n,
    next := ((x.access e n).writeMeta moff (x.window v e n)).advance }

/-- Format F: v (R57). -/
def fV (w : Nat) : Nat := bits w 18 8

def insFlag (value : Nat) (v : View) (x : Ctx) : Issued :=
  let b := bits (fV v.word) 0 6
  { illegal := illIf (bits v.word 0 18 != 0 || bits (fV v.word) 6 2 != 0) 2 ++ illIf (decide (56 ≤ b)) 3,
    next := { x with flags := setBits x.flags b 1 value }.advance }

def insRhint (v : View) (x : Ctx) : Issued :=
  { illegal := illIf (bits v.word 0 18 != 0) 2,
    next := { x.writeMeta 13 [BitVec.ofNat 8 (fV v.word)] with flags := setBits x.flags 61 1 1 }.advance }

def insNop (v : View) (x : Ctx) : Issued := { illegal := illIf (bits v.word 0 26 != 0) 2, next := x.advance }
def insDone (v : View) (x : Ctx) : Issued := { illegal := illIf (bits v.word 0 26 != 0) 2, next := x.advance, ends := true }
def insIll (_ : View) (x : Ctx) : Issued := { illegal := [1], next := x.advance }
/-- The issue after word 2047 completed without a jump (R58): ILLEGAL 4, costed as one cycle. -/
def insPast (_ : View) (x : Ctx) : Issued := { illegal := [4], next := x }

/-! ## Issuing -/

/-- The Toeplitz key bytes of key `k` of bank `b` (R76). -/
def Dev.toeplitzKey (d : Dev) (b k : Nat) : List Byte :=
  toLe 24 (d.wget Page.gafg (0x100 + 8 * b + 2 * k)) ++ toLe 16 (d.wget Page.gafg (0x101 + 8 * b + 2 * k))

/-- What the context sees of the program store and the packet. -/
def Dev.view (d : Dev) (c : Nat) (x : Ctx) : View := {
  word := (d.storeWord (ctxUnit c) x.bank x.pc).toNat
  table := (List.range (min 256 (2047 - x.pc))).map (fun i => (d.storeWord (ctxUnit c) x.bank (x.pc + 1 + i)).toNat)
  bytes := (d.packet x.packet).bytes.take 512
  key := d.toeplitzKey x.bank x.toeKey }

/-- The opcode at a context's program counter: 0 for the reserved opcodes, none past word 2047. -/
def opcodeOf (w : Nat) : Nat :=
  let op := bits w 26 6
  if op = 0x13 ∨ 0x31 ≤ op then 0 else op

/-- The end of a pass by DONE (R67): the record waits for its release, and the context is free. -/
def Dev.donePass (d : Dev) (c : Nat) (x : Ctx) : Dev :=
  let h := x.packet
  let p := d.packet h
  ((d.setCtx c none).setPacket h { p with md := x.md, flags := x.flags, stage := .done }).passEnded c p.pass x.charged x.before

/-- The order of R70: CYCLE_LIMIT, then the lowest ILLEGAL subcode, then WINDOW_OVERRUN; otherwise the instruction takes
effect and its cost is charged. -/
def Dev.settleIssue (d : Dev) (c : Nat) (x : Ctx) (r : Issued) : Dev :=
  let pc := min x.pc 2047
  if d.fget Page.gafg Reg.GAFG_CYCLE_LIMIT_LIMIT < x.charged + r.cost then d.raise c x excCycle 0 pc
  else
    match r.illegal.min? with
    | some sub => d.raise c x excIllegal sub pc
    | none =>
      match r.overrun with
      | some sub => d.raise c x excWindow sub pc
      | none =>
        let x1 := { r.next with charged := x.charged + r.cost }
        if r.ends then d.donePass c x1 else d.setCtx c (some x1)

/-- The next context of core `k` (unit × 32 + core) to issue (R52): round robin after the one that issued last, among those
ready.  Where the round robin of a core starts before any of its contexts has issued is not stated: at context 0 (DESIGN CHOICE,
log entry 94). -/
def Dev.readyCtx (d : Dev) (k : Nat) : Option (Nat × Ctx) :=
  let last := Sparse.get (blank 3) d.lastIssued k
  ((List.range 4).filterMap (fun i =>
    let c := k * 4 + (last + 1 + i) % 4
    match d.ctxAt c with
    | some x => if x.suspended then none else some (c, x)
    | none => none)).head?

/-- Core `k` issues its next instruction, when that is an instruction with opcode `op` (R52). -/
def Dev.issue (d : Dev) (k op : Nat) (f : View → Ctx → Issued) : Dev :=
  match d.readyCtx k with
  | none => d
  | some (c, x) =>
    let d1 := { d with lastIssued := Sparse.set (blank 3) d.lastIssued k (c % 4) }
    if 2047 < x.pc then (if op = 0 then d1.settleIssue c x (insPast (d.view c x) x) else d)
    else
      let v := d.view c x
      if opcodeOf v.word = op then d1.settleIssue c x (f v x) else d

/-- R58, R69. -/
def execIll (core : Nat) (s : State) : Host.Outcome State Fault Refusal :=
  s.become (s.dev.issue core 0x00 insIll)
/-- R58. -/
def execAdd (core : Nat) (s : State) : Host.Outcome State Fault Refusal :=
  s.become (s.dev.issue core 0x01 insAdd)
/-- R58. -/
def execSub (core : Nat) (s : State) : Host.Outcome State Fault Refusal :=
  s.become (s.dev.issue core 0x02 insSub)
/-- R58. -/
def execAnd (core : Nat) (s : State) : Host.Outcome State Fault Refusal :=
  s.become (s.dev.issue core 0x03 insAnd)
/-- R58. -/
def execOr (core : Nat) (s : State) : Host.Outcome State Fault Refusal :=
  s.become (s.dev.issue core 0x04 insOr)
/-- R58. -/
def execXor (core : Nat) (s : State) : Host.Outcome State Fault Refusal :=
  s.become (s.dev.issue core 0x05 insXor)
/-- R58. -/
def execShl (core : Nat) (s : State) : Host.Outcome State Fault Refusal :=
  s.become (s.dev.issue core 0x06 insShl)
/-- R58. -/
def execShr (core : Nat) (s : State) : Host.Outcome State Fault Refusal :=
  s.become (s.dev.issue core 0x07 insShr)
/-- R58. -/
def execMov (core : Nat) (s : State) : Host.Outcome State Fault Refusal :=
  s.become (s.dev.issue core 0x08 insMov)
/-- R58. -/
def execAddi (core : Nat) (s : State) : Host.Outcome State Fault Refusal :=
  s.become (s.dev.issue core 0x09 insAddi)
/-- R58. -/
def execAndi (core : Nat) (s : State) : Host.Outcome State Fault Refusal :=
  s.become (s.dev.issue core 0x0A insAndi)
/-- R58. -/
def execOri (core : Nat) (s : State) : Host.Outcome State Fault Refusal :=
  s.become (s.dev.issue core 0x0B insOri)
/-- R58. -/
def execXori (core : Nat) (s : State) : Host.Outcome State Fault Refusal :=
  s.become (s.dev.issue core 0x0C insXori)
/-- R58. -/
def execShli (core : Nat) (s : State) : Host.Outcome State Fault Refusal :=
  s.become (s.dev.issue core 0x0D insShli)
/-- R58. -/
def execShri (core : Nat) (s : State) : Host.Outcome State Fault Refusal :=
  s.become (s.dev.issue core 0x0E insShri)
/-- R58. -/
def execMovi (core : Nat) (s : State) : Host.Outcome State Fault Refusal :=
  s.become (s.dev.issue core 0x0F insMovi)
/-- R58. -/
def execMovhi (core : Nat) (s : State) : Host.Outcome State Fault Refusal :=
  s.become (s.dev.issue core 0x10 insMovhi)
/-- R58. -/
def execExt (core : Nat) (s : State) : Host.Outcome State Fault Refusal :=
  s.become (s.dev.issue core 0x11 insExt)
/-- R58. -/
def execIns (core : Nat) (s : State) : Host.Outcome State Fault Refusal :=
  s.become (s.dev.issue core 0x12 insIns)
/-- R56, R58. -/
def execLd8 (core : Nat) (s : State) : Host.Outcome State Fault Refusal :=
  s.become (s.dev.issue core 0x14 (insLoad 1 false))
/-- R56, R58. -/
def execLd16 (core : Nat) (s : State) : Host.Outcome State Fault Refusal :=
  s.become (s.dev.issue core 0x15 (insLoad 2 false))
/-- R56, R58. -/
def execLd32 (core : Nat) (s : State) : Host.Outcome State Fault Refusal :=
  s.become (s.dev.issue core 0x16 (insLoad 4 false))
/-- R56, R58. -/
def execExtw (core : Nat) (s : State) : Host.Outcome State Fault Refusal :=
  s.become (s.dev.issue core 0x17 (insLoad 4 true))
/-- R58. -/
def execCurset (core : Nat) (s : State) : Host.Outcome State Fault Refusal :=
  s.become (s.dev.issue core 0x18 (insCursor false))
/-- R58. -/
def execCuradd (core : Nat) (s : State) : Host.Outcome State Fault Refusal :=
  s.become (s.dev.issue core 0x19 (insCursor true))
/-- R58. -/
def execCurget (core : Nat) (s : State) : Host.Outcome State Fault Refusal :=
  s.become (s.dev.issue core 0x1A insCurget)
/-- R55. -/
def execWext (core : Nat) (s : State) : Host.Outcome State Fault Refusal :=
  s.become (s.dev.issue core 0x1B insWext)
/-- R59. -/
def execBr (core : Nat) (s : State) : Host.Outcome State Fault Refusal :=
  s.become (s.dev.issue core 0x1C insBr)
/-- R59. -/
def execBri (core : Nat) (s : State) : Host.Outcome State Fault Refusal :=
  s.become (s.dev.issue core 0x1D insBri)
/-- R58. -/
def execBf (core : Nat) (s : State) : Host.Outcome State Fault Refusal :=
  s.become (s.dev.issue core 0x1E insBf)
/-- R58. -/
def execJ (core : Nat) (s : State) : Host.Outcome State Fault Refusal :=
  s.become (s.dev.issue core 0x1F insJ)
/-- R58. -/
def execCall (core : Nat) (s : State) : Host.Outcome State Fault Refusal :=
  s.become (s.dev.issue core 0x20 insCall)
/-- R58. -/
def execRet (core : Nat) (s : State) : Host.Outcome State Fault Refusal :=
  s.become (s.dev.issue core 0x21 insRet)
/-- R60. -/
def execDisp (core : Nat) (s : State) : Host.Outcome State Fault Refusal :=
  s.become (s.dev.issue core 0x22 insDisp)
/-- R60. -/
def execDmat (core : Nat) (s : State) : Host.Outcome State Fault Refusal :=
  s.become (s.dev.issue core 0x23 insDmat)
/-- R58. -/
def execHinit (core : Nat) (s : State) : Host.Outcome State Fault Refusal :=
  s.become (s.dev.issue core 0x24 insHinit)
/-- R61. -/
def execHcrc (core : Nat) (s : State) : Host.Outcome State Fault Refusal :=
  s.become (s.dev.issue core 0x25 (insHashWindow false))
/-- R61. -/
def execHcrcr (core : Nat) (s : State) : Host.Outcome State Fault Refusal :=
  s.become (s.dev.issue core 0x26 (insHashReg false))
/-- R62. -/
def execHtoe (core : Nat) (s : State) : Host.Outcome State Fault Refusal :=
  s.become (s.dev.issue core 0x27 (insHashWindow true))
/-- R62. -/
def execHtoer (core : Nat) (s : State) : Host.Outcome State Fault Refusal :=
  s.become (s.dev.issue core 0x28 (insHashReg true))
/-- R61. -/
def execHrd (core : Nat) (s : State) : Host.Outcome State Fault Refusal :=
  s.become (s.dev.issue core 0x29 insHrd)
/-- R64. -/
def execEmit (core : Nat) (s : State) : Host.Outcome State Fault Refusal :=
  s.become (s.dev.issue core 0x2A insEmit)
/-- R64. -/
def execEmitw (core : Nat) (s : State) : Host.Outcome State Fault Refusal :=
  s.become (s.dev.issue core 0x2B insEmitw)
/-- R58. -/
def execFset (core : Nat) (s : State) : Host.Outcome State Fault Refusal :=
  s.become (s.dev.issue core 0x2C (insFlag 1))
/-- R58. -/
def execFclr (core : Nat) (s : State) : Host.Outcome State Fault Refusal :=
  s.become (s.dev.issue core 0x2D (insFlag 0))
/-- R58. -/
def execRhint (core : Nat) (s : State) : Host.Outcome State Fault Refusal :=
  s.become (s.dev.issue core 0x2E insRhint)
/-- R67. -/
def execDone (core : Nat) (s : State) : Host.Outcome State Fault Refusal :=
  s.become (s.dev.issue core 0x2F insDone)
/-- R58. -/
def execNop (core : Nat) (s : State) : Host.Outcome State Fault Refusal :=
  s.become (s.dev.issue core 0x30 insNop)

/-- R55: the added window bytes are loaded and the context is ready again. -/
def execWextResume (ctx : Nat) (s : State) : Host.Outcome State Fault Refusal :=
  s.become (match s.dev.ctxAt ctx with
    | some x => s.dev.setCtx ctx (some { x with suspended := false })
    | none => s.dev)

end Sys2Proof.Machine
end

