-- ==== Sys2Proof/Machine/Ports.lean ====
section
/-!
DEFINITION. The register operation ports, which all work as the TBLG port of R116 does: a GO captures the OP and OPBUF
registers, one operation runs, one GO may be held behind it, and the outcome stands in OP_STAT once GO reads 0.
-/

namespace Sys2Proof.Machine

/-- What an operation port looks like: its page, the GO and OPCODE fields, the highest opcode, the captured registers
(offset of the first and count), the CODE field, the BLK_FAULT bit of a refused operation and the event that pulses when
an operation ends, where the port has them. -/
structure PortInfo where
  page : Nat
  go : Fld
  opcode : Fld
  lastOp : Nat
  bufs : List (Nat × Nat)
  code : Fld
  refused : Option Nat
  event : Option Nat
  /-- Further fields of the outcome, which an operation that does nothing leaves 0. -/
  outcome : List Fld := []
  deriving DecidableEq, Repr

def portTblg : PortInfo := ⟨Page.tblg, Reg.TBLG_OP_GO, Reg.TBLG_OP_OPCODE, 6, [(0x180, 16)], Reg.TBLG_OP_STAT_CODE,
  some FaultBit.tblg_OP_REFUSED, some 199,
  [Reg.TBLG_OP_STAT_FOUND, Reg.TBLG_OP_STAT_EVICTED, Reg.TBLG_OP_STAT_OVF, Reg.TBLG_OP_STAT_RELOCS]⟩
def portActg : PortInfo := ⟨Page.actg, Reg.ACTG_OP_GO, Reg.ACTG_OP_OPCODE, 6, [(0x140, 16)], Reg.ACTG_OP_STAT_CODE,
  none, some 214, []⟩
def portKey : PortInfo := ⟨Page.key, Reg.KEY_OP_GO, Reg.KEY_OP_OPCODE, 3, [(0x108, 4), (0x140, 32)], Reg.KEY_OP_STAT_CODE,
  none, some 307, []⟩
def portSxp : PortInfo := ⟨Page.sxp, Reg.SXP_OP_GO, Reg.SXP_OP_OPCODE, 4, [(0x180, 32)], Reg.SXP_OP_STAT_CODE,
  some FaultBit.sxp_OP_REFUSED, some 317, []⟩
def portSto : PortInfo := ⟨Page.sto, Reg.STO_OP_GO, Reg.STO_OP_OPCODE, 10, [(0x180, 32)], Reg.STO_OP_STAT_CODE,
  some FaultBit.sto_OP_REFUSED, some 321, []⟩
def portSlc : PortInfo := ⟨Page.slc, Reg.SLC_OP_GO, Reg.SLC_OP_OPCODE, 4, [(0x180, 32)], Reg.SLC_OP_STAT_CODE,
  some FaultBit.slc_OP_REFUSED, none, []⟩
def portQue : PortInfo := ⟨Page.que, Reg.QUE_OP_GO, Reg.QUE_OP_OPCODE, 4, [(0x180, 16)], Reg.QUE_OP_STAT_CODE,
  some FaultBit.que_OP_REFUSED, some 353, []⟩
def portSit (n : Nat) : PortInfo := ⟨Page.hif n, Reg.HIF_SIT_OP_GO, Reg.HIF_SIT_OP_OP, 3, [(0x120, 4)], Reg.HIF_SIT_STAT_CODE,
  none, none, []⟩
def portSvc : PortInfo := ⟨Page.svc, Reg.SVC_REQ_GO, Reg.SVC_REQ_ACTION, 1, [], Reg.SVC_REQ_STAT_CODE, none, none, []⟩

def Dev.port (d : Dev) (p : Nat) : PortState := Sparse.get (blank {}) d.ports p
def Dev.setPort (d : Dev) (p : Nat) (v : PortState) : Dev := { d with ports := Sparse.set (blank {}) d.ports p v }

/-- The registers a port captures (R116). -/
def Dev.captureBufs (d : Dev) (i : PortInfo) : List Word :=
  i.bufs.flatMap (fun b => (List.range b.2).map (fun n => d.rd (i.page + b.1 + 4 * n)))

/-- The outcome of an operation (R116): CODE, the refused fault, the event; GO clears unless a GO is held. -/
def Dev.portEnd (d : Dev) (i : PortInfo) (code : Nat) : Dev :=
  let st := d.port i.page
  let d1 := (d.setPort i.page { st with run := none }).fset i.page i.go (b2n st.held.isSome)
  let d2 := d1.fset i.page i.code code
  let d3 := match i.refused with
    | some bit => d2.latchWhen (code != Code.ok) i.page bit
    | none => d2
  match i.event with
  | some n => d3.pulse n
  | none => d3

/-- An operation starts: it captures OP, with the reserved bits last written to it, and its buffers as they stand.  An opcode
outside the port's list is MALFORMED, and no field of an earlier outcome stays (R116). -/
def Dev.portStart (d : Dev) (i : PortInfo) (req : Requester) : Dev :=
  let op := d.fget i.page i.opcode
  let word := (d.rd (i.page + i.opcode.off)).toNat ||| (d.port i.page).stray
  let d1 := (d.setPort i.page { d.port i.page with run := some ⟨req, word, d.captureBufs i⟩ }).fset i.page i.go 1
  if (op = 0 ∧ i.page ≠ Page.svc) ∨ i.lastOp < op then
    (i.outcome.foldl (fun (d : Dev) f => d.fset i.page f 0) d1).portEnd i Code.malformed
  else d1

/-- GO is written (R116): the operation starts, or is held while one runs; a further GO has no effect while one is held. -/
def Dev.portGo (d : Dev) (i : PortInfo) (req : Requester) : Dev :=
  match (d.port i.page).run, (d.port i.page).held with
  | none, none => d.portStart i req
  | some _, none => d.setPort i.page { d.port i.page with held := some req }
  | _, some _ => d

/-- The running operation when its opcode is `op`. -/
def Dev.portRunning (d : Dev) (i : PortInfo) (op : Nat) : Option PortOp :=
  match (d.port i.page).run with
  | none => none
  | some o => if bits o.word i.opcode.lo i.opcode.w = op then some o else none

/-- A GO held during the previous operation starts once it has ended, capturing the registers then (R116). -/
def Dev.portHeldStart (d : Dev) (i : PortInfo) : Dev :=
  match (d.port i.page).run, (d.port i.page).held with
  | none, some req => (d.setPort i.page { d.port i.page with held := none }).portStart i req
  | _, _ => d

/-- Carry out the running operation with opcode `op`: `f` gives its code and effect on the captured operation. -/
def Dev.portExec (d : Dev) (i : PortInfo) (op : Nat) (f : Dev → PortOp → Nat × Dev) : Dev :=
  match d.portRunning i op with
  | none => d
  | some o => let r := f d o; r.2.portEnd i r.1

/-- The port of a page, for HELD_OPERATION_START. -/
def portOf (page : Nat) : Option PortInfo :=
  [portTblg, portActg, portKey, portSxp, portSto, portSlc, portQue, portSit 0, portSit 1].find? (fun i => i.page == page)

/-- R116. -/
def execHeldOperationStart (page : Nat) (s : State) : Host.Outcome State Fault Refusal :=
  s.become (match portOf page with
    | some i => s.dev.portHeldStart i
    | none => s.dev)

end Sys2Proof.Machine
end

