-- ==== Sys2Proof/Machine/Requests.lean ====
section
/-!
DEFINITION. Requests on a host link (chapter 11): functions and their error registers (R277, R280, R295), attributes of requests
(R281, R285, R290, R291), their division into TLPs (R274, R276), translations (R282), page requests (R283), and the answers of the
host to reads (R295).
-/

namespace Sys2Proof.Machine

/-! ## Functions -/

/-- Whether a function of a host port is reachable and may issue requests: link up, and in D0 (R277, R296). -/
def Dev.fnReady (d : Dev) (port pf : Nat) : Bool := (d.hostPort port).linkUp && !((d.hostPort port).fn pf).d3

/-- Change a function of a host port. -/
def Dev.modFn (d : Dev) (port pf : Nat) (f : PciFunction → PciFunction) : Dev :=
  let h := d.hostPort port
  d.setHostPort port (h.setFn pf (f (h.fn pf)))

namespace AerBit
/-- Bits of the AER uncorrectable status register (PCI Express Base Specification). -/
def flowControl : Nat := 13
def poisoned : Nat := 12
def completionTimeout : Nat := 14
def completerAbort : Nat := 15
def malformed : Nat := 18
def ecrc : Nat := 19
def unsupported : Nat := 20
def internal : Nat := 22
/-- Bits of the correctable status register. -/
def advisory : Nat := 13
def correctedInternal : Nat := 14
end AerBit

/-- Log an error in a function's AER registers: its status bit, an advisory one in the correctable status too, and, for the first
unmasked error since the last was cleared, its bit and header. -/
def Aer.log (a : Aer) (bit : Nat) (advisory : Bool) (header : List Nat) : Aer :=
  let b := { a with unc := a.unc ||| 2 ^ bit, cor := if advisory then a.cor ||| 2 ^ AerBit.advisory else a.cor }
  if a.first.isSome ∨ bitAt a.uncMask bit then b else { b with first := some bit, header := header }

/-- The error message that AER severity and masks and the enables of Device Control give (R295): `Output.pcie` kind 4 ERR_COR,
5 ERR_NONFATAL, 6 ERR_FATAL. -/
def PciFunction.message (f : PciFunction) (bit : Nat) (advisory : Bool) : Option Nat :=
  let fatal := bitAt f.aer.uncSev bit
  if bitAt f.aer.uncMask bit then none
  else if advisory ∧ !fatal then (if bitAt f.aer.corMask AerBit.advisory ∨ !bitAt f.control 0 then none else some 4)
  else if fatal then (if bitAt f.control 2 then some 6 else none)
  else if bitAt f.control 1 then some 5 else none

/-- An uncorrectable error of a function is logged with its header and signalled (R295). -/
def Dev.aerError (d : Dev) (port pf bit : Nat) (advisory : Bool) (header : List Nat) : Dev :=
  let f := (d.hostPort port).fn pf
  let d1 := d.modFn port pf (fun f => { f with aer := f.aer.log bit advisory header })
  match f.message bit advisory with
  | none => d1
  | some kind => d1.emit (.pcie kind port pf)

/-- A correctable error of a function is logged and signalled (R295). -/
def Dev.aerCorrectable (d : Dev) (port pf bit : Nat) (header : List Nat) : Dev :=
  let f := (d.hostPort port).fn pf
  let d1 := d.modFn port pf (fun f => { f with aer := { f.aer with
    cor := f.aer.cor ||| 2 ^ bit, header := if f.aer.first.isSome ∨ header = [] then f.aer.header else header } })
  if bitAt f.aer.corMask bit ∨ !bitAt f.control 0 then d1 else d1.emit (.pcie 4 port pf)

/-- A TLP that the link discards (R295). -/
def linkErrorBit : LinkError → Nat
  | .malformed => AerBit.malformed
  | .ecrc => AerBit.ecrc
  | .flowControl => AerBit.flowControl
def Dev.linkError (d : Dev) (port : Nat) (e : LinkError) : Dev := d.aerError port 0 (linkErrorBit e) false []

/-! ## Translations (R282) -/

/-- A request for a page whose translation is not cached sends a Translation Request first; the port keeps 8192 entries. -/
def Dev.translatePage (d : Dev) (port : Nat) (t : Translation) : Dev :=
  let h := d.hostPort port
  if h.atc.contains t then d
  else (d.setHostPort port { h with atc := (h.atc ++ [t]).drop (h.atc.length + 1 - 8192) }).emit (.pcie 3 port t.page)

/-- The 4 KiB pages of a span. -/
def pagesOfSpan (a n : Nat) : List Nat := (List.range ((a % 4096 + n + 4095) / 4096)).map (fun i => a / 4096 + i)

/-- Translate a span for a function that has ATS enabled. -/
def Dev.translate (d : Dev) (port : Nat) (attr : ReqAttr) (a n : Nat) : Dev :=
  if !((d.hostPort port).fn attr.pf).ats then d
  else (pagesOfSpan a n).foldl (fun (d : Dev) p => d.translatePage port ⟨attr.pf, attr.pasid.getD 0, p⟩) d

/-! ## Reads and writes of host memory -/

/-- Cut a span into requests of at most `size` bytes that cross no 4 KiB boundary (R276). -/
def tlpSpans (size : Nat) : Nat → Nat → Nat → List (Nat × Nat)
  | 0, _, _ => []
  | fuel + 1, a, n =>
    if n = 0 then []
    else
      let k := min n (min (max 1 size) (4096 - a % 4096))
      (a, k) :: tlpSpans size fuel (a + k) (n - k)

/-- The attributes as a function sends them: Relaxed Ordering and No-Snoop as Device Control enables them, translated with ATS. -/
def PciFunction.sends (f : PciFunction) (attr : ReqAttr) : ReqAttr :=
  { attr with relaxed := attr.relaxed && bitAt f.control 4, noSnoop := attr.noSnoop && bitAt f.control 11, translated := f.ats }

/-- Max_Payload_Size and Max_Read_Request_Size of a function, from Device Control (R274). -/
def PciFunction.payload (f : PciFunction) : Nat := min 512 (128 * 2 ^ bits f.control 5 3)
def PciFunction.readSize (f : PciFunction) : Nat := min 4096 (128 * 2 ^ bits f.control 12 3)

/-- The bytes of a host write as its TLPs carry them. -/
def writeTlps (port : Nat) (attr : ReqAttr) (a : Nat) (bs : List Byte) (spans : List (Nat × Nat)) : List Output :=
  spans.map (fun s => .hostWrite port s.1 (cut bs (s.1 - a) s.2) attr)

/-- Write host memory behind a port, count the bytes (HIF wide value 0x0002) and emit the TLPs (R290, R291). -/
def Dev.hwrite (d0 : Dev) (port a : Nat) (bs : List Byte) (attr : ReqAttr) : Dev :=
  let f := (d0.hostPort port).fn attr.pf
  let d1 := d0.translate port attr a bs.length
  let d := if port = 0 then { d1 with host0 := Memory.write d1.host0 a bs } else { d1 with host1 := Memory.write d1.host1 a bs }
  { (d.wcount (Page.hif port) 2 bs.length) with
    out := d.out ++ writeTlps port (f.sends attr) a bs (tlpSpans f.payload bs.length a bs.length) }

/-- Read host memory behind a port: the bytes, and the device once it has sent the read requests and counted the bytes (HIF wide
value 0x0001; R276, R290). -/
def Dev.hostFetch (d : Dev) (port a n : Nat) (attr : ReqAttr) : List Byte × Dev :=
  let f := (d.hostPort port).fn attr.pf
  let d1 := (d.translate port attr a n).wcount (Page.hif port) 1 n
  (d.hread port a n, { d1 with
    out := d1.out ++ (tlpSpans f.readSize n a n).map (fun s => .hostRead port s.1 s.2 (f.sends attr)) })

/-! ## Page requests (R283) -/

/-- Whether a read is held by a page request. -/
def Dev.heldByPrg (d : Dev) (port : Nat) (t : ReadTarget) : Bool := (d.hostPort port).pageRequests.any (fun e => e.2 == t)

/-- The next free group number of a function: 512 requests outstanding at most (R280); groups of PF1 count from 512. -/
def HostPort.freeGroup (h : HostPort) (pf : Nat) : Option Nat :=
  ((List.range 512).map (fun i => pf % 2 * 512 + ((h.fn pf).nextGroup + i) % 512)).find? (fun g =>
    h.pageRequests.all (fun e => e.1 != g))

/-- Send a page request that holds a read; while 512 are outstanding, the read waits without one. -/
def Dev.sendPageRequest (d : Dev) (port pf : Nat) (t : ReadTarget) : Dev :=
  let h := d.hostPort port
  match h.freeGroup pf with
  | none => d
  | some g =>
    let h1 := h.setFn pf { h.fn pf with nextGroup := (g + 1) % 512 }
    (d.setHostPort port { h1 with pageRequests := h1.pageRequests ++ [(g, t)] }).emit (.pcie 1 port g)

/-- A page request fails: HIF_PRI_FAIL_CNT and event 70. -/
def Dev.pageFailed (d : Dev) (port : Nat) : Dev := (d.count (Page.hif port) Reg.HIF_PRI_FAIL_CNT_CNT).pulse 70

/-- A translation is not present: a page request holds the read, or, with Page Request disabled, it fails as an Invalid Request
does. -/
def Dev.notPresent (d : Dev) (port pf : Nat) (t : ReadTarget) (fail : Dev → Dev) : Dev :=
  if ((d.hostPort port).fn pf).pri then d.sendPageRequest port pf t else (fail d).pageFailed port

/-! ## Answers to reads (R295) -/

/-- A read timed out. -/
def Dev.noteTimeout (d : Dev) (port pf : Nat) : Dev :=
  (((d.count (Page.hif port) Reg.HIF_CPL_TO_CNT_CNT).latchFault (Page.hif port) FaultBit.hif_CPL_TIMEOUT).pulse 67).aerError port pf
    AerBit.completionTimeout false []

/-- A read completion was poisoned; its header is the host's. -/
def Dev.notePoison (d : Dev) (port pf : Nat) : Dev :=
  (((d.count (Page.hif port) Reg.HIF_POISON_CNT_CNT).latchFault (Page.hif port) FaultBit.hif_POISON_RX).pulse 68).aerError port pf
    AerBit.poisoned true (Config.unstated 44 [port, pf, d.now] :: [])

/-- Note a failed data read on its port. -/
def Dev.noteAnswer (d : Dev) (port pf : Nat) (a : HostAnswer) : Dev :=
  match a with
  | .timeout => d.noteTimeout port pf
  | .poisoned => d.notePoison port pf
  | .discarded e => d.linkError port e
  | _ => d

/-- The code with which a refused host read ends its work (R283, R295, R333). -/
def answerCode : HostAnswer → Nat
  | .timeout => Code.timeout
  | .poisoned => Code.fault
  | _ => Code.access

/-- A data read is answered (R283, R295): good data goes on with `f`; a translation that is not present is requested, or fails;
a TLP that the link discards answers nothing; any other answer fails the work with its code. -/
def Dev.onAnswer (d : Dev) (port pf : Nat) (t : ReadTarget) (a : HostAnswer) (f : Dev → Dev) (fail : Nat → Dev → Dev) : Dev :=
  if d.heldByPrg port t then d
  else match a with
    | .data => f d
    | .notPresent => d.notPresent port pf t (fail Code.access)
    | .discarded e => d.linkError port e
    | a => fail (answerCode a) (d.noteAnswer port pf a)

end Sys2Proof.Machine
end

