-- ==== Sys2Proof/Machine/Queues.lean ====
section
/-!
DEFINITION. Queue pairs (chapter 13): contexts (R319), rings and indices (R322), queue errors and halts (R326, R335),
completions, credit and interrupts (R328, R332-R334), the fetch of entries (R326), queue commands (R320, R321, R327) and
doorbells (R323, R324); answers of the host to reads (R283, R295).
-/

namespace Sys2Proof.Machine

/-! ## Contexts -/

/-- Address of queue `q`'s context (R319). -/
def Dev.ctxAddr (d : Dev) (q : Nat) : Nat := bits (d.wget Page.que 0x10) 0 15 * 2 ^ 20 + q * 64
/-- Word `i` of queue `q`'s context. -/
def Dev.ctx (d : Dev) (q i : Nat) : Nat := d.gword (d.ctxAddr q + 4 * i)

def Dev.qType (d : Dev) (q : Nat) : Nat := bits (d.ctx q 0) 0 3
def Dev.qRelaxed (d : Dev) (q : Nat) : Bool := bitAt (d.ctx q 0) 4
def Dev.qIrqEn (d : Dev) (q : Nat) : Bool := bitAt (d.ctx q 0) 5
def Dev.sqSize (d : Dev) (q : Nat) : Nat := 2 ^ bits (d.ctx q 0) 8 5
def Dev.cqSize (d : Dev) (q : Nat) : Nat := 2 ^ bits (d.ctx q 0) 16 5
def Dev.qSlice (d : Dev) (q : Nat) : Nat := bits (d.ctx q 1) 0 12
def Dev.qManager (d : Dev) (q : Nat) : Bool := bitAt (d.ctx q 1) 12
def Dev.qLocal (d : Dev) (q : Nat) : Nat := bits (d.ctx q 1) 16 10
def Dev.sqBase (d : Dev) (q : Nat) : Nat := d.ctx q 2 + d.ctx q 3 * 2 ^ 32
def Dev.cqBase (d : Dev) (q : Nat) : Nat := d.ctx q 4 + d.ctx q 5 * 2 ^ 32
def Dev.qIrq (d : Dev) (q : Nat) : Nat := bits (d.ctx q 6) 0 11
def Dev.qIrqCnt (d : Dev) (q : Nat) : Nat := bits (d.ctx q 6) 16 7
def Dev.qIrqUs (d : Dev) (q : Nat) : Nat := bits (d.ctx q 7) 0 10
def Dev.qWeight (d : Dev) (q : Nat) : Nat := bits (d.ctx q 8) 0 16
def Dev.qGlim (d : Dev) (q : Nat) : Nat := bits (d.ctx q 9) 0 26
/-- The host port of a queue (R319): the context's for a manager queue, the charter's for a slice queue. -/
def Dev.qPort (d : Dev) (q : Nat) : Nat :=
  if d.qManager q then bits (d.ctx q 1) 13 1 else (d.slice (d.qSlice q)).hostPort

def Dev.qNoSnoop (d : Dev) (q : Nat) : Bool := bitAt (d.ctx q 0) 3

/-- Function and PASID of a queue's requests (R278, R281). -/
def Dev.qPf (d : Dev) (q : Nat) : Nat := if d.qManager q then 0 else 1

/-- The attributes of a slice's requests (R281, R285): PF1, its PASID, the stream its TDI is bound to. -/
def Dev.sliceAttr (d : Dev) (s : Nat) : ReqAttr := { pf := 1, pasid := some (d.slice s).pasid, stream := (d.slice s).boundStream }

/-- The attributes of a queue's requests: of its owner; those for data also as its context enables them (R290, R291). -/
def Dev.qAttr (d : Dev) (q : Nat) (data : Bool) : ReqAttr :=
  let a : ReqAttr := if d.qManager q then {} else d.sliceAttr (d.qSlice q)
  { a with relaxed := data && d.qRelaxed q, noSnoop := data && d.qNoSnoop q }

/-- Whether the function that serves a queue may issue requests (R277). -/
def Dev.qReady (d : Dev) (q : Nat) : Bool := d.fnReady (d.qPort q) (d.qPf q)

/-- Queue types (R317). -/
def typeTx : Nat := 1
def typeRx : Nat := 2
def typeSto : Nat := 3
def typeCipher : Nat := 4
def typeHandshake : Nat := 5

/-- The number of a queue state (R320). -/
def QueueState.num : QueueState → Nat
  | .free => 0 | .idle => 1 | .run => 2 | .error => 3 | .stopping => 4 | .halted => 5 | .resetting => 6

/-- The stamp of a queue's work (R18): its owner, with the incarnation recorded at CREATE. -/
def Dev.qStamp (d : Dev) (q : Nat) : Stamp := if d.qManager q then none else some (d.qSlice q, (d.queue q).incarnation)

/-- Set a queue's state, and the STATE field of its context (R319, R320). -/
def Dev.setQState (d : Dev) (q : Nat) (st : QueueState) : Dev :=
  (d.setQueue q { d.queue q with state := st }).gsetWord (d.ctxAddr q + 48) st.num

/-- Set a queue's generation, and the QGEN field of its context (R319, R334). -/
def Dev.setQGen (d : Dev) (q g : Nat) : Dev :=
  (d.setQueue q { d.queue q with qgen := g % 256 }).gsetWord (d.ctxAddr q + 44) (g % 256)

/-- QUE_COUNT: queues not FREE (R337). -/
def Dev.showQueueCount (d : Dev) : Dev :=
  d.fset Page.que Reg.QUE_COUNT_CNT (d.queues.countP (fun e => e.2.state != QueueState.free))

/-! ## Discards, errors, halts -/

/-- A doorbell or command is discarded or ignored (R320, R323). -/
def Dev.dropDoorbell (d : Dev) : Dev := (d.count Page.que Reg.QUE_DB_DROP_CNT).pulse 360
def Dev.ignoreCommand (d : Dev) : Dev := (d.count Page.que Reg.QUE_CMD_IGN_CNT).pulse 360

/-- A result is discarded under R334. -/
def Dev.discardResult (d : Dev) : Dev := (d.count Page.que Reg.QUE_STALE_CNT_CNT).pulse 358

/-- A result of an item with this stamp is discarded under R334, and counts under R312 as well when the incarnation differs. -/
def Dev.discardLate (d : Dev) (q : Nat) (stamp : Stamp) : Dev :=
  let e := d.discardResult
  match stamp with
  | none => e
  | some (s, _) =>
    if d.deliverable s (d.queue q).incarnation stamp then e else e.discardStale kindCompletion s (d.queue q).incarnation stamp

/-- A queue error (R326): QERR latches, the state becomes ERROR, the error counts and pulses event 354. -/
def Dev.queueError (d : Dev) (q idx code : Nat) : Dev :=
  let d1 := (d.setQueue q { d.queue q with errIdx := idx, errCode := code }).setQState q .error
  (d1.count Page.que Reg.QUE_ERR_CNT_CNT).pulse 354

namespace QErr
/-- Queue error codes (R326). -/
def opcode : Nat := 0x01
def reserved : Nat := 0x02
def fragCount : Nat := 0x03
def fragLen : Nat := 0x04
def table : Nat := 0x05
def total : Nat := 0x06
def sqDoorbell : Nat := 0x07
def cqDoorbell : Nat := 0x08
def fetchAccess : Nat := 0x09
def fetchTimeout : Nat := 0x0A
def fetchPoison : Nat := 0x0B
def context : Nat := 0x0C
end QErr

/-- Release the slice counts held by the entries of a queue. -/
def Dev.releaseEntries (d : Dev) (n : Nat) (stamp : Stamp) : Dev :=
  (List.range n).foldl (fun (d : Dev) _ => d.releaseSlice stamp) d

/-! ## Wire commands of a queue -/

def Dev.wire (d : Dev) (n : Nat) : Option WireCmd := Sparse.get (blank none) d.sto.wires n
def Dev.setWire (d : Dev) (n : Nat) (w : Option WireCmd) : Dev :=
  { d with sto := { d.sto with wires := Sparse.set (blank none) d.sto.wires n w } }

/-- The cells that hold a wire command's data return (R234). -/
def Dev.freeHeld (d : Dev) (w : WireCmd) : Dev := (d.freeCells w.cells).returnDeep w.deepCells

/-- The cells that hold received data return (R235). -/
def Dev.freeRx (d : Dev) (rx : List (Nat × List (Nat × Nat) × List (Nat × Nat))) : Dev :=
  rx.foldl (fun (d : Dev) r => (d.freeCells r.2.1).returnDeep r.2.2) d

/-- A wire command is gone: its cells return and its slice's INFLIGHT falls (R309). -/
def Dev.dropWire (d : Dev) (n : Nat) : Dev :=
  match d.wire n with
  | none => d
  | some w => (((d.freeHeld w).freeRx w.rx).setWire n none).releaseSlice w.stamp

/-- The outstanding wire commands of a storage queue become orphans (R243); those that hold no slot end. -/
def Dev.orphanWires (d : Dev) (q : Nat) : Dev :=
  (d.sto.wires.map (·.1)).foldl (fun (d : Dev) n =>
    match d.wire n with
    | none => d
    | some w =>
      if w.op = 0 ∨ w.queue ≠ q ∨ w.orphan then d
      else if w.live then (d.setWire n (some { w with orphan := true })).count Page.sto Reg.STO_ORPHAN_CNT
      else d.dropWire n) d

/-- A queue halts (R335): entries in flight and a part-way placed frame are abandoned, nothing more is written. -/
def Dev.haltQueue (d : Dev) (q : Nat) : Dev :=
  let v := d.queue q
  if v.state = .run ∨ v.state = .error ∨ v.state = .stopping ∨ v.state = .resetting then
    let d0 := match v.placing with
      | some p => d.endCopy p.copy (some Drop.destDown)
      | none => d
    let d1 := (d0.orphanWires q).releaseEntries (v.entries.length + v.backlog.length) (d.qStamp q)
    let d2 := d1.setQueue q { v with entries := [], backlog := [], placing := none, irqFrom := none, sinceIrq := 0, stopBound := none }
    (d2.setQState q .halted).pulse 361
  else d

/-- Halt every queue that `sel` selects (R296, R335). -/
def Dev.haltQueues (d : Dev) (sel : Nat → Bool) : Dev :=
  (d.queues.map (·.1)).foldl (fun (d : Dev) q => if sel q then d.haltQueue q else d) d

/-! ## Completions -/

/-- The words of a completion with common fields filled in (R332): STATUS, OPCODE, DETAIL, SQ_INDEX, INCARNATION. -/
def completionWords (status opcode detail index incarnation : Nat) (w2 w3 w4 w5 w6 w7 : Nat) : List Nat :=
  [status + opcode * 2 ^ 8 + detail * 2 ^ 16, index, w2, w3, w4, w5, incarnation + w6 / 256 * 256, w7]

/-- VOLUME of a storage entry (R226). -/
def QueueEntry.volume (e : QueueEntry) : Nat := bits (ofLe (cut e.head 4 4)) 0 18

/-- The words of a storage completion (R227): DONE, TOUCHED, NVME_STATUS and VOLUME with every STATUS. -/
def QueueEntry.stoWords (e : QueueEntry) (code detail : Nat) : List Nat :=
  completionWords code e.opcode detail e.index e.incarnation e.progress e.touched e.nvme e.volume 0 0

/-- Whether a queue's completions are written in ring order (R327, R333). -/
def Dev.ringOrder (d : Dev) (q : Nat) : Bool :=
  let t := d.qType q
  let st := (d.queue q).state
  !(t == typeSto || t == typeCipher) || st == .stopping || st == .resetting

/-- Free slots of the completion ring (R322). -/
def Dev.cqRoom (d : Dev) (q : Nat) : Nat :=
  let v := d.queue q
  d.cqSize q - (v.cqPi + 2 ^ 32 - v.cqCi) % 2 ^ 32

/-- Completion ring full (R322). -/
def Dev.cqFull (d : Dev) (q : Nat) : Bool := d.cqRoom q == 0

/-- Put a produced completion into the backlog (R328): one that has to wait for ring space, behind those already produced, counts,
and the first that begins to wait pulses event 355. -/
def Dev.pushCompletion (d : Dev) (q : Nat) (c : Completion) : Dev :=
  let v := d.queue q
  let waits := decide (d.cqRoom q ≤ v.backlog.length)
  let d1 := d.setQueue q { v with backlog := v.backlog ++ [c], waited := v.waited || waits }
  let d2 := if waits then d1.count Page.que Reg.QUE_CQ_FULL_CNT_CNT else d1
  if waits ∧ !v.waited then d2.pulse 355 else d2

/-- The completion of an ended entry. -/
def QueueEntry.completion (e : QueueEntry) (words : List Nat) : Completion :=
  { words := words, qgen := e.qgen, incarnation := e.incarnation, journal := e.journal, fromWire := e.fromWire }

/-- Move the ended entries at the head of the list to the backlog: in ring order up to the first that has not ended,
otherwise every ended one. -/
def Dev.flushEnded (d : Dev) (q : Nat) : Nat → Dev
  | 0 => d
  | fuel + 1 =>
    let v := d.queue q
    let ready := if d.ringOrder q then v.entries.take 1 |>.filter (·.ended.isSome) else v.entries.filter (·.ended.isSome)
    match ready with
    | [] => d
    | e :: _ =>
      let d1 := d.setQueue q { v with entries := v.entries.filter (fun x => x.index != e.index) }
      (d1.pushCompletion q (e.completion (e.ended.getD []))).flushEnded q fuel

/-- Change the entry with submission index `idx`. -/
def Dev.modEntry (d : Dev) (q idx : Nat) (f : QueueEntry → QueueEntry) : Dev :=
  let v := d.queue q
  d.setQueue q { v with entries := v.entries.map (fun e => if e.index = idx then f e else e) }

/-- The entry with submission index `idx`. -/
def Dev.entry (d : Dev) (q idx : Nat) : Option QueueEntry := (d.queue q).entries.find? (fun e => e.index == idx)

/-- An entry ends with the given completion words, exactly once (R8, R333); in FREE, IDLE and HALTED, or under another
QGEN, the result is discarded (R334). -/
def Dev.endEntry (d : Dev) (q idx : Nat) (words : List Nat) : Dev :=
  match d.entry q idx with
  | none => d.discardResult
  | some e =>
    if e.ended.isSome then d
    else if e.qgen ≠ (d.queue q).qgen then d.discardResult
    else (d.modEntry q idx (fun e => { e with ended := some words })).flushEnded q 64

/-- An entry ends with a code, its own opcode and index, and `w2` as progress. -/
def Dev.endWith (d : Dev) (q idx code w2 : Nat) : Dev :=
  match d.entry q idx with
  | none => d.discardResult
  | some e => d.endEntry q idx (completionWords code e.opcode 0 idx e.incarnation w2 0 0 0 0 0)

/-! ## Interrupts of queues -/

/-- The queue raises its interrupt (R328): through its slice interrupt entry or its MSI-X vector. -/
def Dev.raiseQueueIrq (d : Dev) (q : Nat) : Dev :=
  let d1 := d.setQueue q { d.queue q with sinceIrq := 0, irqFrom := none }
  if d.qManager q then (if d.hostReady (d.qPort q) then d1.msixRaise (d.qPort q) (d.qIrq q) else d1)
  else d1.sliceInterrupt (d.qSlice q) (d.qIrq q) (d.queue q).incarnation

/-- A completion has been written: count it toward the interrupt (R328). -/
def Dev.countIrq (d : Dev) (q : Nat) : Dev :=
  let v := d.queue q
  if !d.qIrqEn q then d
  else
    let d1 := d.setQueue q { v with sinceIrq := v.sinceIrq + 1, irqFrom := some (v.irqFrom.getD d.now) }
    if d.qIrqCnt q ≤ v.sinceIrq + 1 then d1.raiseQueueIrq q else d1

/-- IRQ_US µs have passed since the first uncovered completion (R328). -/
def Dev.irqDelay (d : Dev) (q : Nat) : Dev :=
  match (d.queue q).irqFrom with
  | none => d
  | some t => if d.qIrqEn q ∧ d.qIrqUs q ≠ 0 ∧ t + d.qIrqUs q * 1000 ≤ d.now then d.raiseQueueIrq q else d

/-- R328. -/
def execIrqDelayExpiry (queue : Nat) (s : State) : Host.Outcome State Fault Refusal := s.become (s.dev.irqDelay queue)

/-! ## Stopping -/

/-- QUE gives a queue back (R318): FREE, its LOCAL number released, QUE_COUNT and QUEUES_USED fall; QGEN stays (R334).  A copy taken
for it that has not begun to be placed is discarded as the other copies for a FREE queue are (R157). -/
def Dev.freeQueue (d0 : Dev) (q : Nat) : Dev :=
  let d := match (d0.queue q).placing with
    | some p => d0.endCopy p.copy (some Drop.destDown)
    | none => d0
  let d1 := if d.qManager q then d
    else
      let v := d.slice (d.qSlice q)
      d.setSlice (d.qSlice q) { v with queuesUsed := v.queuesUsed - 1 }
  (((d1.setQueue q { qgen := (d.queue q).qgen }).gsetWord (d.ctxAddr q + 48) 0).gsetWord (d.ctxAddr q + 60) 0).showQueueCount

/-- Whether a slice has no queue that is not FREE. -/
def Dev.noQueues (d : Dev) (s : Nat) : Bool :=
  d.queues.all (fun e => e.2.state == .free || d.qManager e.1 || d.qSlice e.1 != s)

/-- The end of teardown (R308): keys retired, firmware's steps done, no queue left. -/
def Dev.endTeardown (d : Dev) (s : Nat) : Dev :=
  let v := d.slice s
  if v.state = .destroying ∧ v.keysRetired ∧ v.firmwareDone ∧ d.noQueues s then d.setSlice s { v with state := .quarantine }
  else d

/-- A queue of a slice under teardown is destroyed as it reaches IDLE (R308). -/
def Dev.teardownQueue (d : Dev) (q : Nat) : Dev :=
  if !d.qManager q ∧ (d.slice (d.qSlice q)).state = .destroying ∧ (d.queue q).state = .idle then
    (d.freeQueue q).endTeardown (d.qSlice q)
  else d

/-- The end of STOPPING or RESETTING once every completion is written (R320, R327): IDLE and event 359; RESET sets the
indices to 0 and increments QGEN. -/
def Dev.settle (d : Dev) (q : Nat) : Dev :=
  let v := d.queue q
  if (v.state = .stopping ∨ v.state = .resetting) ∧ v.entries = [] ∧ v.backlog = [] ∧ v.stopBound = none then
    if v.state = .resetting then
      let d1 := (d.setQueue q { v with sqPi := 0, sqCi := 0, cqPi := 0, cqCi := 0, waited := false }).setQGen q (v.qgen + 1)
      ((d1.setQState q .idle).pulse 359).teardownQueue q
    else ((d.setQState q .idle).pulse 359).teardownQueue q
  else d

/-- The words of an ABORTED completion (R327): progress as it stands; DETAIL 0x0C on a storage queue (R243). -/
def abortedWords (typ : Nat) (e : QueueEntry) : List Nat :=
  if typ = typeSto then e.stoWords Code.aborted 0x0C
  else completionWords Code.aborted e.opcode 0 e.index e.incarnation e.progress (e.nbuf * 2 ^ 24) 0 0 0 0

/-- A part-way placed frame ends (R327): its first entry states the bytes placed and the entries used, and the remainder, cut short,
counts as the copy having left (R94).  A frame of which nothing has been placed stays at the head of its queue (R157). -/
def Dev.cutPlacement (d : Dev) (q : Nat) : Dev :=
  match (d.queue q).placing with
  | none => d
  | some p =>
    match p.first with
    | none => d
    | some i =>
      let d1 := (d.setQueue q { d.queue q with placing := none }).endCopy p.copy none
      (d1.modEntry q i (fun e => { e with progress := p.placed, nbuf := if d.qType q = typeHandshake then 1 else p.used })).count
        Page.que Reg.QUE_RX_TRUNC_CNT_CNT

/-- The lehr jobs of a queue stop at their next block (R327): those not yet accepted go, the others end without a result. -/
def Dev.cancelJobs (d : Dev) (q : Nat) : Dev :=
  let mine (j : LehrJob) : Bool := match j.src with
    | .cipher k _ _ => k == q
    | _ => false
  { d with lehr := { d.lehr with
    submits := d.lehr.submits.filter (fun j => !mine j)
    jobs := d.lehr.jobs.map (fun e => (e.1, e.2.map (fun j =>
      if mine j ∧ j.verdict.isNone then { j with verdict := some Code.aborted } else j))) } }

/-- STOP and RESET end every outstanding entry (R327): fetch stops, entries not ended become ABORTED in ring order, and
the range up to the submission PI of this moment is aborted unfetched as the ring takes completions. -/
def Dev.beginStop (d : Dev) (q : Nat) (st : QueueState) : Dev :=
  let d1 := ((d.cutPlacement q).orphanWires q).cancelJobs q
  let v := d1.queue q
  let t := d1.qType q
  let entries := v.entries.map (fun e => match e.ended with
    | some _ => e
    | none => { e with ended := some (abortedWords t e) })
  let bound := if v.sqCi = v.sqPi then none else some v.sqPi
  let d2 := (d1.setQueue q { v with entries := entries, stopBound := bound }).setQState q st
  (d2.flushEnded q 64).settle q

/-- Produce the ABORTED completion of the next entry that was never fetched (R327): OPCODE 0x00, its own index, progress 0. -/
def Dev.abortUnfetched (d : Dev) (q : Nat) : Dev :=
  let v := d.queue q
  match v.stopBound with
  | none => d
  | some bound =>
    if v.entries ≠ [] ∨ v.backlog ≠ [] then d
    else
      let inc := if d.qManager q then 0 else v.incarnation
      let words := completionWords Code.aborted 0 (if d.qType q = typeSto then 0x0C else 0) v.sqCi inc 0 0 0 0 0 0
      let ci := (v.sqCi + 1) % 2 ^ 32
      let d1 := d.setQueue q { v with sqCi := ci, stopBound := if ci = bound then none else some bound }
      (d1.holdSlice (d.qStamp q)).pushCompletion q { words := words, qgen := v.qgen, incarnation := inc }

/-! ## Writing completions -/

/-- Add a completed receive copy to the RX wire counters of its slice (R261). -/
def Dev.countRxWire (d : Dev) (q : Nat) (c : Completion) : Dev :=
  let status := bits (c.words.getD 0 0) 0 8
  if !c.fromWire ∨ d.qManager q ∨ ¬ (status = Code.ok ∨ status = Code.truncated) then d
  else
    let s := d.qSlice q
    let v := d.slice s
    let add (w : WireCounters) : WireCounters :=
      { w with rxf := (w.rxf + 1) % 2 ^ 64, rxb := (w.rxb + c.words.getD 2 0) % 2 ^ 64 }
    d.setSlice s { v with mgrWire := add v.mgrWire, tenantWire := add v.tenantWire }

/-- The entries of a slice queue whose frames have been sent or dropped end, with the transmit time when there is one (R263,
R329). -/
def Dev.takeSent (d : Dev) (q : Nat) : Dev :=
  let mine := d.sentQ.filter (fun n => n.queue == q)
  mine.foldl (fun (d : Dev) n =>
    match d.entry q n.index with
    | none => d.discardResult
    | some e =>
      let w := match n.time with
        | some (sec, ns, frac) => (frac + 2 ^ 16, ns, sec % 2 ^ 32, sec / 2 ^ 32 % 2 ^ 16 * 2 ^ 16)
        | none => (0, 0, 0, 0)
      d.endEntry q n.index (completionWords Code.ok e.opcode 0 n.index e.incarnation e.progress w.1 w.2.1 w.2.2.1 w.2.2.2 0))
    { d with sentQ := d.sentQ.filter (fun n => n.queue != q) }

/-- Write the head of the backlog to the ring when there is room (R328): after its journal records have reached MRAM
(R439), and only under the checks of R334 and R312; the completion carries PHASE, counts and raises the interrupt. -/
def Dev.writeCompletion (d0 : Dev) (q : Nat) : Dev :=
  let d := (d0.takeSent q).abortUnfetched q
  let v := d.queue q
  match v.backlog with
  | [] => d.settle q
  | c :: rest =>
    let stamp : Stamp := if d.qManager q then none else some (d.qSlice q, c.incarnation)
    let popped := { v with backlog := rest, waited := v.waited && rest != [] }
    if !d.journalReached c.journal then d
    else if v.state = .free ∨ v.state = .idle ∨ v.state = .halted ∨ c.qgen ≠ v.qgen then
      ((d.setQueue q popped).discardLate q stamp).releaseSlice stamp |>.settle q
    else if !d.qManager q ∧ !d.deliverable (d.qSlice q) v.incarnation stamp then
      ((d.setQueue q popped).discardStale kindCompletion (d.qSlice q) v.incarnation stamp).releaseSlice stamp |>.settle q
    else if d.cqFull q ∨ !d.qReady q then d
    else
      let n := d.cqSize q
      let phase := if v.cqPi / n % 2 = 0 then 2 ^ 31 else 0
      let words := match c.words with
        | [] => []
        | w :: ws => (w + phase) :: ws
      let d1 := d.setQueue q { popped with cqPi := (v.cqPi + 1) % 2 ^ 32 }
      let d2 := d1.hwrite (d.qPort q) (d.cqBase q + v.cqPi % n * 32) (words.flatMap (toLe 4)) (d.qAttr q false)
      let d3 := (d2.wcount Page.que 2).countRxWire q c
      ((d3.countIrq q).releaseSlice stamp).settle q

/-- R328, R334, R439. -/
def execCompletionWrite (queue : Nat) (s : State) : Host.Outcome State Fault Refusal := s.become (s.dev.writeCompletion queue)

/-! ## Queue commands -/

/-- START (R320). -/
def Dev.startQueue (d : Dev) (q : Nat) : Dev :=
  if (d.queue q).state = .idle then d.setQState q .run else d.ignoreCommand

/-- STOP (R320, R327). -/
def Dev.stopQueue (d : Dev) (q : Nat) : Dev :=
  if (d.queue q).state = .run ∨ (d.queue q).state = .error then d.beginStop q .stopping else d.ignoreCommand

/-- RESET (R320, R327): from ERROR it ends outstanding work; from HALTED it writes no completions; in IDLE it
re-initialises the indices. -/
def Dev.resetQueue (d : Dev) (q : Nat) : Dev :=
  let v := d.queue q
  if v.state = .error then d.beginStop q .resetting
  else if v.state = .halted then (d.setQState q .resetting).settle q
  else if v.state = .idle then
    (d.setQueue q { v with sqPi := 0, sqCi := 0, cqPi := 0, cqCi := 0, waited := false }).setQGen q (v.qgen + 1)
  else d.ignoreCommand

/-- RESUME (R320, R326): not after CONTEXT. -/
def Dev.resumeQueue (d : Dev) (q : Nat) : Dev :=
  if (d.queue q).state = .error ∧ (d.queue q).errCode ≠ QErr.context then d.setQState q .run else d.ignoreCommand

/-- A command of the manager or firmware on a locked slice's queue is refused under R311 (R321); `none` is the owner's
control doorbell. -/
def Dev.commandQueue (d : Dev) (req : Option Requester) (q : Nat) (f : Dev → Dev) : Dev :=
  match req with
  | none => if (d.queue q).state = .free then d.dropDoorbell else if d.qReady q then f d else d
  | some r =>
    d.onWrite r (Page.que + Reg.QUE_QCTL_ENABLE.off) (fun d =>
      if r ≠ .welbor ∧ !d.qManager q ∧ (d.slice (d.qSlice q)).isLocked ∧ (d.queue q).state ≠ .free then
        (d.closedWrite r (Page.que + Reg.QUE_QCTL_ENABLE.off)).count Page.slc Reg.SLC_CONF_REJ_CNT
      else f d)

/-- Record the ENABLE bit of QUE_QCTL for a queue (R321). -/
def Dev.recordEnable (d : Dev) (req : Option Requester) (q : Nat) (b : Bool) : Dev :=
  if req.isSome then d.setQueue q { d.queue q with enable := b } else d

/-- R320, R321. -/
def execQueueStart (req : Option Requester) (queue : Nat) (s : State) : Host.Outcome State Fault Refusal :=
  s.become (s.dev.commandQueue req queue (fun d => (d.recordEnable req queue true).startQueue queue))

/-- R327. -/
def execQueueStop (req : Option Requester) (queue : Nat) (s : State) : Host.Outcome State Fault Refusal :=
  s.become (s.dev.commandQueue req queue (fun d => (d.recordEnable req queue false).stopQueue queue))

/-- R327. -/
def execQueueReset (req : Option Requester) (queue : Nat) (s : State) : Host.Outcome State Fault Refusal :=
  s.become (s.dev.commandQueue req queue (·.resetQueue queue))

/-- R326. -/
def execQueueResume (req : Option Requester) (queue : Nat) (s : State) : Host.Outcome State Fault Refusal :=
  s.become (s.dev.commandQueue req queue (·.resumeQueue queue))

/-! ## Doorbells -/

/-- The device queue of slice `s` with slice-local number `localNo` (R317). -/
def Dev.localQueue (d : Dev) (s localNo : Nat) : Option Nat :=
  (d.queues.map (·.1)).find? (fun q => (d.queue q).state != .free && !d.qManager q && d.qSlice q == s && d.qLocal q == localNo)

/-- The queue a doorbell names (R323): a manager queue by device number on its host port, a slice queue by LOCAL in the
slice's window. -/
def Dev.doorbellQueue (d : Dev) (port : Nat) (owner : Option Nat) (n : Nat) : Option Nat :=
  match owner with
  | none => if (d.queue n).state ≠ .free ∧ d.qManager n ∧ d.qPort n = port then some n else none
  | some s => if (d.slice s).hostPort = port then d.localQueue s n else none

/-- The full index that 17 written bits name (R323). -/
def rebuildIndex (old value : Nat) : Nat := (old + (value + 2 ^ 17 - old % 2 ^ 17) % 2 ^ 17) % 2 ^ 32

/-- A submission PI doorbell (R323). -/
def Dev.sqDoorbell (d : Dev) (q value : Nat) : Dev :=
  let v := d.queue q
  let pi := rebuildIndex v.sqPi value
  if (pi + 2 ^ 32 - v.sqCi) % 2 ^ 32 ≤ d.sqSize q then d.setQueue q { v with sqPi := pi }
  else if v.state = .run then d.queueError q v.sqCi QErr.sqDoorbell
  else d.dropDoorbell

/-- A completion CI doorbell (R323): it may not pass the completion PI. -/
def Dev.cqDoorbell (d : Dev) (q value : Nat) : Dev :=
  let v := d.queue q
  let ci := rebuildIndex v.cqCi value
  if (v.cqPi + 2 ^ 32 - ci) % 2 ^ 32 ≤ (v.cqPi + 2 ^ 32 - v.cqCi) % 2 ^ 32 then d.setQueue q { v with cqCi := ci }
  else if v.state = .run then d.queueError q v.sqCi QErr.cqDoorbell
  else d.dropDoorbell

/-- A doorbell write of a full word (R323): reserved bits, KIND 2 and unknown commands are discarded, as is a queue the
requester does not own. -/
def Dev.doorbellWrite (d : Dev) (port : Nat) (owner : Option Nat) (n w : Nat) : Dev :=
  match d.doorbellQueue port owner n with
  | none => d.dropDoorbell
  | some q =>
    let kind := bits w 30 2
    if bits w 17 13 ≠ 0 ∨ kind = 2 then d.dropDoorbell
    else if kind = 0 then d.sqDoorbell q (bits w 0 17)
    else if kind = 1 then d.cqDoorbell q (bits w 0 17)
    else
      let cmd := bits w 0 17
      if cmd = 1 then d.startQueue q else if cmd = 2 then d.stopQueue q else if cmd = 3 then d.resetQueue q
      else if cmd = 4 then d.resumeQueue q else d.dropDoorbell

/-- Whether a doorbell reaches the adapter: the link is up and the function that holds it is in D0 (R277). -/
def Dev.doorbellOpen (d : Dev) (port : Nat) (owner : Option Nat) : Bool := d.fnReady port (if owner.isSome then 1 else 0)

/-- R323. -/
def execSqPiDoorbell (port queue : Nat) (owner : Option Nat) (value : BitVec 17) (s : State) :
    Host.Outcome State Fault Refusal :=
  s.become (if s.dev.doorbellOpen port owner then s.dev.doorbellWrite port owner queue value.toNat else s.dev)

/-- R323, R328. -/
def execCqCiDoorbell (port queue : Nat) (owner : Option Nat) (value : BitVec 17) (s : State) :
    Host.Outcome State Fault Refusal :=
  s.become (if s.dev.doorbellOpen port owner then s.dev.doorbellWrite port owner queue (value.toNat + 2 ^ 30) else s.dev)

/-- A doorbell read (R324): STATE, QGEN and the submission CI; 0 to a requester that does not own the queue. -/
def Dev.doorbellValue (d : Dev) (port : Nat) (owner : Option Nat) (n : Nat) : Nat :=
  match d.doorbellQueue port owner n with
  | none => 0
  | some q => (d.queue q).state.num * 2 ^ 29 + (d.queue q).qgen * 2 ^ 21 + (d.queue q).sqCi % 2 ^ 17

/-- R324. -/
def execDoorbellRead (port queue : Nat) (owner : Option Nat) (s : State) : Host.Outcome State Fault Refusal :=
  s.become (if s.dev.doorbellOpen port owner then s.dev.emit (.readData (BitVec.ofNat 32 (s.dev.doorbellValue port owner queue)))
    else s.dev)

/-! ## Host answers -/

/-- What a failed read does to what it was issued for: a fetch stops its queue (R295, R326), a data read ends its entry
with ACCESS, TIMEOUT or FAULT (R283, R295, R333). -/
def Dev.failRead (d : Dev) (t : ReadTarget) (fetchCode endCode : Nat) : Dev :=
  match t with
  | .fetch q => if (d.queue q).state = .run then d.queueError q (d.queue q).sqCi fetchCode else d
  | .entry q idx => d.endWith q idx endCode 0
  | .mover _ => d
  | .wire _ => d

/-! ## Fetch -/

/-- An inline fragment (R326). -/
def inlineFrag (img : List Byte) (k : Nat) : Nat × Nat × Nat :=
  (ofLe (cut img (16 + 12 * k) 8), ofLe (cut img (24 + 12 * k) 3), byteAt img (27 + 12 * k))

/-- The opcodes a queue type allows (R317, R326). -/
def opcodeAllowed (typ op : Nat) : Bool :=
  (typ == typeTx && op == 0x01) || (typ == typeRx && op == 0x10) || (typ == typeSto && 0x30 ≤ op && op ≤ 0x33)
    || (typ == typeCipher && op == 0x20) || (typ == typeHandshake && (op == 0x01 || op == 0x10))

/-- The fragments of an entry, inline or from its indirect table (R326). -/
def Dev.fragments (d : Dev) (port : Nat) (img : List Byte) : List (Nat × Nat) :=
  if bitAt (byteAt img 1) 3 then
    let table := d.hread port (ofLe (cut img 16 8)) (16 * ofLe (cut img 24 2))
    (List.range (ofLe (cut img 24 2))).map (fun i => (ofLe (cut table (16 * i) 8), ofLe (cut table (16 * i + 8) 3)))
  else (List.range (bits (byteAt img 1) 0 3)).map (fun k => ((inlineFrag img k).1, (inlineFrag img k).2.1))

/-- The first check of R326 that an entry breaks, in the order of the table. -/
def Dev.entryError (d : Dev) (q : Nat) (img : List Byte) : Option Nat :=
  let typ := d.qType q
  let op := byteAt img 0
  let b1 := byteAt img 1
  let nfrag := bits b1 0 3
  let indirect := bitAt b1 3
  let count := ofLe (cut img 24 2)
  let port := d.qPort q
  let table := d.hread port (ofLe (cut img 16 8)) (16 * min count 256)
  let bare := (op == 0x32 || op == 0x33) && typ == typeSto
  let frags := d.fragments port img
  let total := (frags.map (·.2)).sum
  if !opcodeAllowed typ op then some QErr.opcode
  else if bits b1 4 4 ≠ 0 ∨ (!bare ∧ indirect ∧ (img.drop 26).any (· != 0))
      ∨ (!bare ∧ !indirect ∧ (List.range (min nfrag 4)).any (fun k => (inlineFrag img k).2.2 != 0)) then some QErr.reserved
  else if 4 < nfrag ∨ (indirect ∧ nfrag ≠ 0)
      ∨ ((typ = typeTx ∨ typ = typeRx ∨ typ = typeHandshake) ∧ !indirect ∧ nfrag = 0) then some QErr.fragCount
  else if !bare ∧ !indirect ∧ ((List.range nfrag).any (fun k => (inlineFrag img k).2.1 == 0)
      ∨ (img.drop (16 + 12 * nfrag)).any (· != 0)) then some QErr.fragLen
  else if !bare ∧ indirect ∧ (ofLe (cut img 16 8) % 16 ≠ 0 ∨ count = 0 ∨ 256 < count
      ∨ (List.range count).any (fun i => ofLe (cut table (16 * i + 8) 3) == 0 || ofLe (cut table (16 * i + 11) 5) != 0)) then
    some QErr.table
  else if (typ = typeTx ∧ (total < 14 ∨ 262144 < total))
      ∨ (op = 0x10 ∧ (total < 256 ∨ 1048576 < total))
      ∨ (typ = typeHandshake ∧ op = 0x01 ∧ (total < 1 ∨ 16384 < total)) then some QErr.total
  else none

/-- Whether QUE may fetch the next entry of a queue (R320, R322, R328): in RUN, an entry posted, credit left, and no
completion waiting for ring space. -/
def Dev.mayFetch (d : Dev) (q : Nat) : Bool :=
  let v := d.queue q
  v.state == .run && v.sqPi != v.sqCi && decide (v.entries.length + v.backlog.length < 64)
    && !d.cqFull q && d.accepts Page.que && d.qReady q
    && !d.heldByPrg (d.qPort q) (.fetch q)

/-- Whether the indirect table of an entry is read: the entry names one in good form (R326). -/
def Dev.readsTable (d : Dev) (q : Nat) (img : List Byte) : Bool :=
  let n := ofLe (cut img 24 2)
  bitAt (byteAt img 1) 3 && opcodeAllowed (d.qType q) (byteAt img 0) && byteAt img 0 != 0x32 && byteAt img 0 != 0x33
    && bits (byteAt img 1) 0 3 == 0 && ofLe (cut img 16 8) % 16 == 0 && n != 0 && decide (n ≤ 256)

/-- The address of a CIPHER entry's job descriptor (R331); none when it is misaligned. -/
def descAddr (img : List Byte) : Option Nat :=
  let a := ofLe (cut img 8 8)
  if byteAt img 0 = 0x20 ∧ a % 32 = 0 then some a else none

/-- The job descriptor that is read with an entry that passes its checks, with snoop (R331). -/
def Dev.fetchDesc (d : Dev) (q : Nat) (img : List Byte) : List Byte × Dev :=
  match descAddr img, d.entryError q img with
  | some a, none => d.hostFetch (d.qPort q) a 32 (d.qAttr q false)
  | _, _ => ([], d)

/-- Take a fetched entry image: an error of R326 stops the queue at it, otherwise it becomes outstanding. -/
def Dev.takeEntry (d : Dev) (q : Nat) (img desc : List Byte) : Dev :=
  let v := d.queue q
  match d.entryError q img with
  | some code => d.queueError q v.sqCi code
  | none =>
    let e : QueueEntry := {
      index := v.sqCi, opcode := byteAt img 0, head := img,
      frags := if byteAt img 0 = 0x32 ∨ byteAt img 0 = 0x33 then [] else d.fragments (d.qPort q) img,
      qgen := v.qgen, incarnation := if d.qManager q then 0 else v.incarnation, desc := desc }
    let d1 := d.setQueue q { v with entries := v.entries ++ [e], sqCi := (v.sqCi + 1) % 2 ^ 32 }
    (d1.wcount Page.que 1).holdSlice (d.qStamp q)

/-- ENTRY_FETCH (R326): the next entry is read with snoop and checked; an uncorrectable context or a failed read stops the
queue. -/
def Dev.fetchEntry (d : Dev) (q : Nat) (answer : HostAnswer) : Dev :=
  let v := d.queue q
  let port := d.qPort q
  if !d.mayFetch q then d
  else if d.lineUncorrectable (d.ctxAddr q) then
    (d.queueError q v.sqCi QErr.context).latchFault Page.que FaultBit.que_CTX_UE
  else
    let a := d.sqBase q + v.sqCi % d.sqSize q * 64
    match answer with
    | .data =>
      let r := d.hostFetch port a 64 (d.qAttr q false)
      let t := if d.readsTable q r.1 then
          (r.2.hostFetch port (ofLe (cut r.1 16 8)) (16 * ofLe (cut r.1 24 2)) (d.qAttr q false)).2 else r.2
      let c := t.fetchDesc q r.1
      c.2.takeEntry q r.1 c.1
    | .notPresent => d.notPresent port (d.qPf q) (.fetch q) (fun d => d.queueError q v.sqCi QErr.fetchAccess)
    | .refused => d.queueError q v.sqCi QErr.fetchAccess
    | .timeout => (d.queueError q v.sqCi QErr.fetchTimeout).noteTimeout port (d.qPf q)
    | .poisoned => (d.queueError q v.sqCi QErr.fetchPoison).notePoison port (d.qPf q)
    | .discarded e => d.linkError port e

/-- R326. -/
def execEntryFetch (queue : Nat) (answer : HostAnswer) (s : State) : Host.Outcome State Fault Refusal :=
  s.become (s.dev.fetchEntry queue answer)

end Sys2Proof.Machine
end

