-- ==== Sys2Proof/Machine/GafferFarm.lean ====
section
/-!
DEFINITION. The gaffer farm around the instructions: context parity and program store errors (R73), the release buffer (R67),
the exception queue (R71), program loading (R74, R77) and the flip (R75).
-/

namespace Sys2Proof.Machine

/-! ## Errors (R73) -/

/-- Context errors within 2^32 GAF cycles, which is 2^31 ns, and the context's fence (R73); a cluster with more than 8 fenced
contexts is taken out of service (R435). -/
def Dev.noteCtxError (d : Dev) (c : Nat) : Dev :=
  let times := (Sparse.get (blank []) d.ctxErrors c).filter (fun t => decide (d.now < t + 2 ^ 31)) ++ [d.now]
  let d1 := { d with ctxErrors := Sparse.set (blank []) d.ctxErrors c times }
  if 2 ≤ times.length ∧ !d1.fencedCtx.contains c then
    let d2 := ({ d1 with fencedCtx := d1.fencedCtx ++ [c] }.latchFault (d1.gafPage (ctxUnit c)) FaultBit.gaf_CTX_FENCED).pulse 157
    if 8 < d2.fencedCtx.countP (fun k => ctxUnit k == ctxUnit c) then
      d2.svcAuto puntyGaf (d2.pageOfUnit puntyGaf (ctxUnit c)) false
    else d2
  else d1

/-- The pass on context `c` ends there without an exception and is to restart (R73): the re-dispatch counts, for a context parity
error and for a program store error alike (DESIGN CHOICE, log entry 95), and is journaled (R438). -/
def Dev.endForRestart (d : Dev) (x : Ctx) (c parity store : Nat) (same : Bool) : Dev :=
  let p := d.packet x.packet
  let record := excRecord p x.packet 0 x.pc c (d.pageOfUnit puntyGaf (ctxUnit c)) x.bank x.charged
  let d1 := ((d.setCtx c none).count Page.gafg Reg.GAFG_REDISP_CNT_CNT).wcount Page.gafg 4
  let d2 := d1.journalAdd {
    typ := 0x14, inst := d.pageOfUnit puntyGaf (ctxUnit c), kind := Kind.redispatch, cls := 2,
    work := 1, outcome := 0xFF, ident := handleWord x.packet p.gen + 2 ^ 32, detail := [bits record 64 32]
    owner := stampSlice p.stamp + b2n (stampMgr p.stamp) * 2 ^ 12 + stampInc p.stamp * 2 ^ 16 }
  d2.setPacket x.packet { p with
    stage := .parked
    restart := some ⟨c, same, x.before + x.charged, x.parityHits + parity, x.storeHits + store, d2.journal.accepted⟩ }

/-- A parity error in the state of context `c` (R73): the event counts and the context may be fenced; the second in a pass raises
CTX_PARITY, otherwise the pass restarts as soon as its record has reached MRAM and another core has a free context. -/
def Dev.ctxParity (d : Dev) (c : Nat) : Dev :=
  match d.ctxAt c with
  | none => d
  | some x =>
    let page := d.gafPage (ctxUnit c)
    let d1 := ((d.countSat page Reg.GAF_PARITY_CNT_CNT).latchFault page FaultBit.gaf_CTX_PARITY).noteCtxError c
    if x.parityHits ≠ 0 then d1.raise c x excParity 1 x.pc
    else (d1.endForRestart x c 1 0 true).restart x.packet

/-- R73. -/
def execContextParityError (ctx : Nat) (s : State) : Host.Outcome State Fault Refusal := s.become (s.dev.ctxParity ctx)

/-- An uncorrectable program store error on context `c`'s fetch (R73, R435): the cluster stops; the pass restarts in another
cluster as soon as one has a free context, or raises CTX_PARITY subcode 2 on the second such error. -/
def Dev.storeUe (d : Dev) (c : Nat) : Dev :=
  match d.ctxAt c with
  | none => d
  | some x =>
    let u := ctxUnit c
    let stopped := { d with gafStopped := if d.gafStopped.contains u then d.gafStopped else d.gafStopped ++ [u] }
    let d1 := (stopped.latchFault (d.gafPage u) FaultBit.gaf_PS_UE).svcAuto puntyGaf (d.pageOfUnit puntyGaf u) false
    if x.storeHits ≠ 0 then d1.raise c x excParity 2 x.pc
    else (d1.endForRestart x c 0 1 false).restart x.packet

/-- R73. -/
def execProgramStoreUe (ctx : Nat) (s : State) : Host.Outcome State Fault Refusal := s.become (s.dev.storeUe ctx)

/-! ## Release and exceptions -/

/-- Whether a packet of the same source and pass with a lower sequence number still runs or waits for its release (R67). -/
def Dev.hasPredecessor (d : Dev) (h : Nat) : Bool :=
  let p := d.packet h
  d.packets.any (fun e => e.1 != h && e.2.source == p.source && e.2.pass == p.pass && decide (e.2.seq < p.seq)
    && (match e.2.stage with | .running _ | .parked | .done => true | _ => false))

/-- R67. -/
def Dev.releaseRecord (d : Dev) (h : Nat) : Dev :=
  if (d.packet h).stage = .done ∧ !d.hasPredecessor h then d.setStage h .released else d

/-- R67. -/
def execRecordRelease (packet : Nat) (s : State) : Host.Outcome State Fault Refusal := s.become (s.dev.releaseRecord packet)

/-- The exception queue offers its head packet (R71); with DELIVER = 0 the head is dropped. -/
def Dev.offerException (d : Dev) : Dev :=
  match d.excQ with
  | [] => d
  | h :: rest =>
    if d.fbit Page.gafg Reg.GAFG_EXC_CTL_DELIVER then
      (if (d.packet h).stage = .exception then d.setStage h .offered else d)
    else
      let d1 := { d with excQ := rest }.fset Page.gafg Reg.GAFG_EXC_DEPTH_DEPTH rest.length
      ((d1.count Page.gafg Reg.GAFG_EXC_DROP_CNT).pulse 154).dropPacket h Drop.gafExc

/-- R71. -/
def execExceptionDelivery (s : State) : Host.Outcome State Fault Refusal := s.become s.dev.offerException

/-! ## Program stores -/

/-- Busy contexts of a unit (R77). -/
def Dev.busyCtx (d : Dev) (u : Nat) : Nat := d.ctxs.countP (fun e => ctxUnit e.1 == u && e.2.isSome)

/-- The active bank (R78). -/
def Dev.activeBank (d : Dev) : Nat := d.fget Page.gafg Reg.GAFG_BANK_ACTIVE

/-- Whether bank `b` is writable on every cluster (R74, cases 1 and 2). -/
def Dev.bankWritable (d : Dev) (b : Nat) : Bool :=
  (b != d.activeBank && d.fget Page.gafg (inflightBank b) == 0)
    || ((List.range 24).all (fun n => !d.gafEnabled (d.unitOf puntyGaf n)) && d.fget Page.gafg (inflightBank 0) == 0
      && d.fget Page.gafg (inflightBank 1) == 0)

/-- Whether unit `u`'s bank `b` is writable (R74). -/
def Dev.storeWritable (d : Dev) (u b : Nat) : Bool :=
  d.bankWritable b
    || (b == d.activeBank && d.fbit (d.gafPage u) ⟨Hdr.fault, FaultBit.gaf_PS_UE, 1⟩ && d.busyCtx u == 0)

/-- GAF_PS_ADDR.WORD advances after every access to GAF_PS_DATA (R77). -/
def Dev.nextStoreWord (d : Dev) (page : Nat) : Dev := d.count page Reg.GAF_PS_ADDR_WORD

/-- A write of GAF_PS_DATA to cluster `n` (R74): stored when the bank is writable, and the CRC recomputed; otherwise
discarded. A write during SYNC of the cluster reaches its punty too (R433), and one to a gated cluster ungates it (R402). -/
def Dev.storeWrite (d : Dev) (n : Nat) (v : Word) : Dev :=
  let page := Page.gaf n
  let u := d.unitOf puntyGaf n
  let b := d.fget page Reg.GAF_PS_ADDR_BANK
  let w := d.fget page Reg.GAF_PS_ADDR_WORD
  let d1 :=
    if d.storeWritable u b then
      let d0 := if bitAt d.pwr.gafGated n then d.gateGaf n false else d
      let d2 := (d0.setStoreWord u b w v).fset page Reg.GAF_PS_STAT_CRC_BUSY 1
      let d3 := { d2 with crcBusy := if d2.crcBusy.contains (u * 2 + b) then d2.crcBusy else d2.crcBusy ++ [u * 2 + b] }
      if d3.fget Page.svc (puntyState puntyGaf) = 1 ∧ d3.fget Page.svc (puntyInst puntyGaf) = n then d3.setStoreWord 24 b w v
      else d3
    else (d.fset page Reg.GAF_PS_STAT_WR_REJ 1).accessFault page
  (d1.fset page Reg.GAF_PS_DATA_INSN v.toNat).nextStoreWord page

/-- R74. -/
def execProgramStoreWrite (req : Requester) (cluster : Nat) (value : Word) (s : State) : Host.Outcome State Fault Refusal :=
  s.become (s.dev.onWrite req (Page.gaf cluster + 0x104) (·.storeWrite cluster value))

/-- A read of GAF_PS_DATA (R77): the stored word, and WORD advances. -/
def Dev.storeRead (d : Dev) (n : Nat) : Word × Dev :=
  let page := Page.gaf n
  (d.storeWord (d.unitOf puntyGaf n) (d.fget page Reg.GAF_PS_ADDR_BANK) (d.fget page Reg.GAF_PS_ADDR_WORD), d.nextStoreWord page)

/-- The CRC32C of a bank: 2048 words, each as 4 little-endian bytes (R76). -/
def Dev.bankCrc (d : Dev) (u b : Nat) : Word :=
  crc32c ((List.range 2048).flatMap (fun w => toLe 4 (d.storeWord u b w).toNat))

def crcFld (b : Nat) : Fld := if b = 0 then Reg.GAF_PS_CRC0_CRC else Reg.GAF_PS_CRC1_CRC

/-- The end of a CRC recomputation (R77). -/
def Dev.recomputeCrc (d : Dev) (n b : Nat) : Dev :=
  let u := d.unitOf puntyGaf n
  if d.crcBusy.contains (u * 2 + b) then
    let d1 := { d with crcBusy := d.crcBusy.filter (· != u * 2 + b) }
    let d2 := d1.fset (Page.gaf n) (crcFld b) (d1.bankCrc u b).toNat
    if d2.crcBusy.contains (u * 2 + (1 - b)) then d2 else d2.fset (Page.gaf n) Reg.GAF_PS_STAT_CRC_BUSY 0
  else d

/-- R77. -/
def execPsCrcRecompute (cluster bank : Nat) (s : State) : Host.Outcome State Fault Refusal :=
  s.become (s.dev.recomputeCrc cluster bank)

/-- BLK_CTL.ENABLE = 1 written on a stopped cluster (R74): it accepts work again when the active bank's CRC is right. -/
def Dev.restartCluster (d : Dev) (n : Nat) : Dev :=
  let u := d.unitOf puntyGaf n
  if d.fget (Page.gaf n) (crcFld d.activeBank) = d.fget Page.gafg Reg.GAFG_ACTIVE_CRC_CRC then
    { d with gafStopped := d.gafStopped.filter (· != u) }
  else d

/-! ## The flip (R75) -/

/-- A write of GAFG_FLIP.GO = 1 is a request; GO reads 1. -/
def Dev.requestFlip (d : Dev) : Dev := { d with flips := d.flips + 1 }.fset Page.gafg Reg.GAFG_FLIP_GO 1

/-- R75. -/
def execFlipRequest (req : Requester) (s : State) : Host.Outcome State Fault Refusal :=
  s.become (s.dev.onWrite req (Page.gafg + 0x104) (·.requestFlip))

/-- The cause of a refusal, 0 for none (R75): in-service clusters are all positions not taken out without a stand-in. -/
def Dev.flipCause (d : Dev) : Nat :=
  let idle := 1 - d.activeBank
  let positions := (List.range 24).filter (d.hasUnit puntyGaf)
  let want := d.rd (Page.gafg + Reg.GAFG_IMAGE_CRC_CRC.off)
  if d.fbit Page.gafg Reg.GAFG_BANK_OLD_BUSY then 1
  else if positions.any (fun n => d.fget (Page.gaf n) (crcFld idle) != want.toNat) then 2
  else if positions.any (fun n =>
      let w := (d.storeWord (d.unitOf puntyGaf n) idle 0).toNat
      !bitAt w 31 || decide (bits w 0 11 < 16) || bits w 11 20 != 0) then 3
  else 0

/-- The check of step 2 and the flip of step 3 (R75), once no cluster's CRC is being recomputed.  GO stays 1 while a further request
waits at step 1, also after a refusal or a step 5 that would clear it (DESIGN CHOICE, log entry 96). -/
def Dev.checkFlip (d : Dev) : Dev :=
  if d.flips = 0 ∨ d.crcBusy ≠ [] then d
  else
    let d0 := { d with flips := d.flips - 1 }
    let cause := d.flipCause
    if cause ≠ 0 then
      let d1 := (d0.fset Page.gafg Reg.GAFG_BANK_FLIP_ERR 1).fset Page.gafg Reg.GAFG_BANK_ERR_CAUSE cause
      let d2 := (d1.latchFault Page.gafg FaultBit.gafg_FLIP_REFUSED).pulse 156
      if cause = 1 ∨ d2.flips ≠ 0 then d2 else d2.fset Page.gafg Reg.GAFG_FLIP_GO 0
    else
      let b := 1 - d.activeBank
      ((d0.fset Page.gafg Reg.GAFG_BANK_ACTIVE b).fset Page.gafg Reg.GAFG_ACTIVE_CRC_CRC
        (d.rd (Page.gafg + Reg.GAFG_IMAGE_CRC_CRC.off)).toNat).fset Page.gafg Reg.GAFG_BANK_OLD_BUSY 1

/-- R75. -/
def execFlipCheck (s : State) : Host.Outcome State Fault Refusal := s.become s.dev.checkFlip

/-- Step 5 (R75): the old bank holds no packets. -/
def Dev.freeOldBank (d : Dev) : Dev :=
  if d.fbit Page.gafg Reg.GAFG_BANK_OLD_BUSY ∧ d.fget Page.gafg (inflightBank (1 - d.activeBank)) = 0 then
    let d1 := (d.fset Page.gafg Reg.GAFG_BANK_OLD_BUSY 0).pulse 155
    if d1.flips = 0 then d1.fset Page.gafg Reg.GAFG_FLIP_GO 0 else d1
  else d

/-- R75. -/
def execOldBankFree (s : State) : Host.Outcome State Fault Refusal := s.become s.dev.freeOldBank

end Sys2Proof.Machine
end

