-- ==== Sys2Proof/Machine/Classifier.lean ====
section
/-!
DEFINITION. The classifier (chapter 4): acceptance and batch stamps, tree walks and rule matching, hand-off, and batches.
-/

namespace Sys2Proof.Machine

/-! ## Nodes and rules (R82-R89) -/

/-- Outcome of a read of an indivisible 64-byte object (R83): its 16 words, or none when it cannot be corrected. -/
def Dev.readNode (d : Dev) (n : Nat) : Option (List Nat) :=
  if d.ft.dieUncorrectable.contains n then none
  else some ((bytesWords 16 (d.dread (n * 64) 64)).map (·.toNat))

/-- GDDR6 address of rule `r` (R82). -/
def Dev.ruleAddr (d : Dev) (r : Nat) : Nat := d.fget Page.clsg Reg.CLS_RULE_BASE_SEG * 2 ^ 29 + r * 64

def Dev.readRule (d : Dev) (r : Nat) : Option (List Nat) :=
  if d.lineUncorrectable (d.ruleAddr r) then none else some ((d.gwords (d.ruleAddr r) 16).map (·.toNat))

/-- Word `i` of an object. -/
def nth (ws : List Nat) (i : Nat) : Nat := ws.getD i 0

/-- v32 of R85: metadata bytes OFF to OFF + 3 in network order, or half of the flag word. -/
def sourceWord (md : List Byte) (fw : Nat) (src : Bool) (off : Nat) : Nat :=
  if src then bits fw (8 * off) 32 else ofBe (cut md off 4)

/-- Whether an SRC and OFF obey R85. -/
def sourceGood (src : Bool) (off : Nat) : Bool := if src then off == 0 || off == 4 else decide (off ≤ 124)

/-- The fields of a field specification word (R85). -/
def specSrc (f : Nat) : Bool := bitAt f 31
def specOff (f : Nat) : Nat := bits f 24 7
def specPos (f : Nat) : Nat := bits f 19 5
def specWidth (f : Nat) : Nat := bits f 16 3

def cutSpecGood (f : Nat) : Bool :=
  sourceGood (specSrc f) (specOff f) && bits f 0 16 == 0 && decide (specWidth f ≤ 4)
    && decide (specPos f + specWidth f ≤ 32)

def rangeSpecGood (f : Nat) : Bool :=
  sourceGood (specSrc f) (specOff f) && bits f 0 19 == 0 && decide (specPos f ≤ 16)

def cutField (md : List Byte) (fw f : Nat) : Nat := bits (sourceWord md fw (specSrc f) (specOff f)) (specPos f) (specWidth f)
def rangeField (md : List Byte) (fw f : Nat) : Nat := bits (sourceWord md fw (specSrc f) (specOff f)) (specPos f) 16

/-- KIND and VALID of a node (R86). -/
def nodeKind (ws : List Nat) : Nat := bits (nth ws 0) 30 2
def nodeValid (ws : List Nat) : Bool := bitAt (nth ws 15) 31

/-- Threshold Tj, j from 1 (R86). -/
def threshold (ws : List Nat) (j : Nat) : Nat := bits (nth ws (2 + (j - 1) / 2)) (16 * ((j - 1) % 2)) 16

/-- Whether words i to j - 1 are 0. -/
def zeroWords (ws : List Nat) (i j : Nat) : Bool := (List.range (j - i)).all (fun k => nth ws (i + k) == 0)

/-- Whether a list rises strictly. -/
def rises : List Nat → Bool
  | a :: b :: rest => decide (a < b) && rises (b :: rest)
  | _ => true

def cutNodeGood (ws : List Nat) : Bool :=
  let nf := bits (nth ws 0) 28 2 + 1
  let specs := (List.range nf).map (fun i => nth ws (1 + i))
  let width := (specs.map specWidth).sum
  bits (nth ws 0) 0 28 == 0 && specs.all cutSpecGood && zeroWords ws (1 + nf) 12 && nth ws 14 == 0
    && bits (nth ws 15) 19 12 == 0 && decide (1 ≤ width ∧ width ≤ 4)

def rangeNodeGood (ws : List Nat) : Bool :=
  let n := bits (nth ws 0) 26 4
  bits (nth ws 0) 0 26 == 0 && n != 0 && rangeSpecGood (nth ws 1)
    && (List.range 16).all (fun i => decide (i < n) || threshold ws (i + 1) == 0)
    && rises ((List.range n).map (fun i => threshold ws (i + 1)))
    && zeroWords ws 10 12 && nth ws 14 == 0 && bits (nth ws 15) 19 12 == 0

def leafNodeGood (ws : List Nat) : Bool :=
  let n := bits (nth ws 0) 26 4
  decide (n ≤ 8) && bits (nth ws 0) 23 3 == 0 && decide (bits (nth ws 0) 0 23 + n ≤ 8388608) && zeroWords ws 1 15
    && bits (nth ws 15) 0 31 == 0

/-- The child slot of index `i` (R86). -/
def nodeMap (ws : List Nat) (i : Nat) : Nat := bits (nth ws (12 + i / 8)) (4 * (i % 8)) 4

/-- The index of a CUT or RANGE node (R86). -/
def cutIndex (md : List Byte) (fw : Nat) (ws : List Nat) : Nat :=
  (List.range (bits (nth ws 0) 28 2 + 1)).foldl
    (fun i f => i * 2 ^ specWidth (nth ws (1 + f)) + cutField md fw (nth ws (1 + f))) 0
def rangeIndex (md : List Byte) (fw : Nat) (ws : List Nat) : Nat :=
  (List.range (bits (nth ws 0) 26 4)).countP (fun j => decide (threshold ws (j + 1) ≤ rangeField md fw (nth ws 1)))

/-- The term of a rule in words `i` to `i` + 2 (R87). -/
def termEn (ws : List Nat) (i : Nat) : Bool := bitAt (nth ws i) 31
def termGood (ws : List Nat) (i : Nat) : Bool :=
  !termEn ws i || (bits (nth ws i) 0 23 == 0 && sourceGood (bitAt (nth ws i) 30) (bits (nth ws i) 23 7))
def termHolds (md : List Byte) (fw : Nat) (ws : List Nat) (i : Nat) : Bool :=
  !termEn ws i ||
    sourceWord md fw (bitAt (nth ws i) 30) (bits (nth ws i) 23 7) &&& nth ws (i + 2) == nth ws (i + 1) &&& nth ws (i + 2)

def ruleNact (ws : List Nat) : Nat := bits (nth ws 14) 12 4
def rulePriority (ws : List Nat) : Nat := bits (nth ws 14) 16 16
def ruleValid (ws : List Nat) : Bool := bitAt (nth ws 15) 31

/-- Whether a rule is well formed (R87, R89). -/
def ruleGood (ws : List Nat) : Bool :=
  decide (ruleNact ws ≤ 8) && zeroWords ws (ruleNact ws) 8 && termGood ws 8 && termGood ws 11 && bits (nth ws 14) 0 12 == 0
    && bits (nth ws 15) 24 7 == 0

/-! ## The walk (R88) -/

/-- What a walk comes to, with what it counted: node reads, rule reads, absent objects, and uncorrectable reads. -/
structure Walk where
  /-- 0: a matched rule; 1: MISS; 2: ERR. -/
  outcome : Nat := 1
  rule : Nat := 0
  nodes : Nat := 0
  rules : Nat := 0
  absent : Nat := 0
  treeUe : Bool := false
  ruleUe : Bool := false
  deriving DecidableEq, Repr

/-- match of R88 over rules `base` to `base` + `cnt` - 1; `best` is the best rule so far with its priority. -/
def Dev.matchRules (d : Dev) (md : List Byte) (fw : Nat) : Nat → Nat → Option (Nat × Nat) → Walk → Walk
  | 0, _, best, w =>
    match best with
    | some (r, _) => { w with outcome := 0, rule := r }
    | none => { w with outcome := 1 }
  | cnt + 1, r, best, w =>
    let w1 := { w with rules := w.rules + 1 }
    match d.readRule r with
    | none => { w1 with outcome := 2, ruleUe := true }
    | some ws =>
      if !ruleGood ws then { w1 with outcome := 2 }
      else if !ruleValid ws then d.matchRules md fw cnt (r + 1) best { w1 with absent := w1.absent + 1 }
      else if termHolds md fw ws 8 && termHolds md fw ws 11 then
        let better := match best with
          | none => true
          | some (_, p) => decide (p < rulePriority ws)
        d.matchRules md fw cnt (r + 1) (if better then some (r, rulePriority ws) else best) w1
      else d.matchRules md fw cnt (r + 1) best w1

/-- The walk from node `n` with at most `fuel` node reads left (R88). -/
def Dev.walkFrom (d : Dev) (md : List Byte) (fw : Nat) : Nat → Nat → Walk → Walk
  | 0, _, w => { w with outcome := 2 }
  | fuel + 1, n, w =>
    let w1 := { w with nodes := w.nodes + 1 }
    match d.readNode n with
    | none => { w1 with outcome := 2, treeUe := true }
    | some ws =>
      if !nodeValid ws then { w1 with outcome := 2, absent := w1.absent + 1 }
      else
        let child (i : Nat) : Walk :=
          let c := bits (nth ws 15) 0 19 + nodeMap ws i
          if 524288 ≤ c then { w1 with outcome := 2 } else d.walkFrom md fw fuel c w1
        match nodeKind ws with
        | 0 => if cutNodeGood ws then child (cutIndex md fw ws) else { w1 with outcome := 2 }
        | 1 => if rangeNodeGood ws then child (rangeIndex md fw ws) else { w1 with outcome := 2 }
        | 2 =>
          if leafNodeGood ws then d.matchRules md fw (bits (nth ws 0) 26 4) (bits (nth ws 0) 0 23) none w1
          else { w1 with outcome := 2 }
        | _ => { w1 with outcome := 2 }

/-- Batch descriptor fields (R102). -/
def bdRoot (b : Nat) : Fld := Reg.CLS_BD_ROOT_ROOT_BASE.nth 16 b
def bdNroot (b : Nat) : Fld := Reg.CLS_BD_NROOT_NROOT.nth 16 b
def bdMiss (b : Nat) : Fld := Reg.CLS_BD_MISS_RULE.nth 16 b
def bdErr (b : Nat) : Fld := Reg.CLS_BD_ERR_RULE.nth 16 b

/-- Tree selection and walk of a pass (R84, R88) under batch `b`. -/
def Dev.walk (d : Dev) (md : List Byte) (fw b : Nat) : Walk :=
  let tid := if bitAt fw 63 then d.fget Page.gafg Reg.GAFG_EXC_CTL_TREE
    else ofBe (cut md (d.fget Page.clsg Reg.CLS_TSEL_MOFF) 2)
  if d.fget Page.clsg (bdNroot b) ≤ tid then {}
  else d.walkFrom md fw (d.fget Page.clsg Reg.CLS_WALK_MAX_MAX) (d.fget Page.clsg (bdRoot b) + tid) {}

/-- Count `n` reads that may have missed the table cache, whose contents the spec leaves open: each miss is a free value. -/
def Dev.countMisses (d : Dev) (p : Nat) (f : Fld) : Nat → Dev
  | 0 => d
  | n + 1 => let r := d.fresh; (r.2.count p f (r.1 % 2)).countMisses p f n

/-- A packet is dropped by CLS (R89, R93). -/
def Dev.clsDrop (d : Dev) (h : Nat) : Dev :=
  (((d.count Page.clsg Reg.CLS_DROP_CNT_CNT).latchFault Page.clsg FaultBit.clsg_DEFAULT_DROP).pulse 183).dropPacket h Drop.clsDefault

/-- A walk of packet `h` on engine `e` ends (R88, R89): the rule is stored for the hand-off; a MISS or ERR rule that cannot
be used drops the packet, and an absent one counts (R102); its fetch may miss the table cache too (R90, R101). -/
def Dev.endWalk (d : Dev) (h e : Nat) (w : Walk) : Dev :=
  let p := d.packet h
  let b := p.batch.getD 0
  let page := Page.cls (d.pageOfUnit puntyCls e)
  let d1 := (((d.count page Reg.CLS_WALK_CNT_CNT).count page Reg.CLS_NODE_CNT_CNT w.nodes).wcount Page.clsg 1).wcount Page.clsg 2 w.nodes
  let d2 := (d1.countMisses page Reg.CLS_RULE_GDDR_CNT_CNT w.rules).count Page.clsg Reg.CLS_ABSENT_CNT_CNT w.absent
  let d3 := (d2.latchWhen w.treeUe page FaultBit.cls_TREE_UE).latchWhen w.ruleUe page FaultBit.cls_RULE_UE
  let take (d : Dev) (r : Nat) (ws : List Nat) : Dev :=
    d.setPacket h { p with stage := .walked, ruleIndex := r, rule := ws.map (BitVec.ofNat 32) }
  if w.outcome = 0 then take d3 w.rule ((d3.readRule w.rule).getD [])
  else
    let r := d3.fget Page.clsg (if w.outcome = 1 then bdMiss b else bdErr b)
    let d4 := d3.count Page.clsg (if w.outcome = 1 then Reg.CLS_MISS_CNT_CNT else Reg.CLS_ERR_CNT_CNT)
    let d5 := (if w.outcome = 2 then d4.pulse 182 else d4).countMisses page Reg.CLS_RULE_GDDR_CNT_CNT 1
    match d5.readRule r with
    | none => (d5.latchFault page FaultBit.cls_RULE_UE).clsDrop h
    | some ws =>
      if !ruleGood ws then d5.clsDrop h
      else if ruleValid ws then take d5 r ws
      else (d5.count Page.clsg Reg.CLS_ABSENT_CNT_CNT).clsDrop h

/-- R88. -/
def execTreeWalk (packet : Nat) (s : State) : Host.Outcome State Fault Refusal :=
  s.become (let p := s.dev.packet packet
    match p.stage with
    | .walking e => s.dev.endWalk packet e (s.dev.walk p.md p.flags (p.batch.getD 0))
    | _ => s.dev)

/-! ## Acceptance (R90, R91, R93) -/

/-- Walks in progress on a unit (R101). -/
def Dev.engineLoad (d : Dev) (e : Nat) : Nat :=
  d.packets.countP (fun x => match x.2.stage with | .walking k => k == e | _ => false)

/-- The engine that takes a record (R90): in service, enabled, fewest walks below 32, lowest number. -/
def Dev.chooseEngine (d : Dev) : Option Nat :=
  let units := (List.range 16).filterMap (fun n =>
    let u := d.unitOf puntyCls n
    if d.hasUnit puntyCls n && d.accepts (Page.cls n) && decide (d.engineLoad u < 32) then some u else none)
  argMax (fun u => 32 - d.engineLoad u) units

/-- Whether an earlier record of the same source and pass waits to be accepted. -/
def Dev.earlierReleased (d : Dev) (h : Nat) : Bool :=
  let p := d.packet h
  d.packets.any (fun e => e.1 != h && e.2.stage == .released && e.2.source == p.source && e.2.pass == p.pass
    && decide (e.2.seq < p.seq))

/-- Take the record out of the exception queue when it comes from there. -/
def Dev.leaveExcQ (d : Dev) (h : Nat) : Dev :=
  let d1 := { d with excQ := d.excQ.filter (· != h) }
  d1.fset Page.gafg Reg.GAFG_EXC_DEPTH_DEPTH d1.excQ.length

/-- CLSG accepts a record (R90, R93): a pass-0 record takes the current batch's stamp, or is dropped while there is none.  An entry
of the reorder buffer is taken to hold a finished result only; walks in progress may end beyond 4096 of them (DESIGN CHOICE, log
entry 98). -/
def Dev.acceptRecord (d : Dev) (h : Nat) : Dev :=
  let p := d.packet h
  if ¬ (p.stage = .released ∨ p.stage = .offered) ∨ !d.accepts Page.clsg ∨ d.earlierReleased h
      ∨ 4096 ≤ d.packets.countP (fun e => e.2.stage == .walked) then d
  else
    match d.chooseEngine with
    | none => d
    | some e =>
      let d0 := if p.stage = .offered then d.leaveExcQ h else d
      if p.pass = 0 ∧ !d0.fbit Page.clsg Reg.CLS_BATCH_CUR_CUR_VALID then d0.clsDrop h
      else
        let cur := d0.fget Page.clsg Reg.CLS_BATCH_CUR_CUR
        let stamped := if p.pass = 0 then (d0.count Page.clsg (inflightBatch cur)).wcount Page.clsg (0x10 + cur) else d0
        let p1 := if p.pass = 0 then
            let b7 := setBits (setBits (byteAt p.md 7) 5 1 1) 0 4 cur
            { p with batch := some cur, md := overwrite p.md 7 [BitVec.ofNat 8 b7] }
          else p
        { (stamped.setPacket h { p1 with stage := .walking e, accepted := d.now, order := d.acceptNo }) with
          acceptNo := d.acceptNo + 1 }

/-- R90. -/
def execRecordAccept (packet : Nat) (s : State) : Host.Outcome State Fault Refusal := s.become (s.dev.acceptRecord packet)

/-- The OP of action word `i` of a rule, and the number of PROBE words (R135, R136). -/
def opOf (w : Nat) : Nat := bits w 26 6

/-- A walk result leaves the reorder buffer in order of acceptance within its source and pass (R91). -/
def Dev.handOff (d : Dev) (h : Nat) : Dev :=
  let p := d.packet h
  let blocked := d.packets.any (fun e => e.1 != h && e.2.source == p.source && e.2.pass == p.pass && decide (e.2.order < p.order)
    && (match e.2.stage with | .walking _ => true | .walked => true | _ => false))
  if p.stage = .walked ∧ !blocked then d.setStage h .acting else d

/-- R91. -/
def execResultHandoff (packet : Nat) (s : State) : Host.Outcome State Fault Refusal := s.become (s.dev.handOff packet)

/-! ## Batches (R92, R96) -/

/-- The state of batch `b`: 0 FREE, 1 STAGED, 2 CURRENT, 3 DRAINING, 4 RETIRED (R92, R102). -/
def batchFld (b : Nat) : Fld := ⟨Reg.CLS_BATCH_STATE0_STATE.off + 4 * (b / 8), 4 * (b % 8), 4⟩
def Dev.batchState (d : Dev) (b : Nat) : Nat := d.fget Page.clsg (batchFld b)
def Dev.setBatchState (d : Dev) (b st : Nat) : Dev := d.fset Page.clsg (batchFld b) st

/-- A request is refused (R92): CLS_BATCH_ERR, SWAP_REFUSED and event 179. -/
def Dev.refuseBatch (d : Dev) (b cause : Nat) : Dev :=
  let d1 := ((d.fset Page.clsg Reg.CLS_BATCH_ERR_BATCH b).fset Page.clsg Reg.CLS_BATCH_ERR_CAUSE cause).fset Page.clsg
    Reg.CLS_BATCH_ERR_ERR 1
  (d1.latchFault Page.clsg FaultBit.clsg_SWAP_REFUSED).pulse 179

/-- Stage (R92). -/
def Dev.stageBatch (d : Dev) (b : Nat) : Dev :=
  let nroot := d.fget Page.clsg (bdNroot b)
  if d.batchState b ≠ 0 then d.refuseBatch b 1
  else if nroot = 0 ∨ 4096 < nroot ∨ 524288 < d.fget Page.clsg (bdRoot b) + nroot then d.refuseBatch b 2
  else d.setBatchState b 1

/-- Unstage (R92). -/
def Dev.unstageBatch (d : Dev) (b : Nat) : Dev :=
  if d.batchState b = 1 then d.setBatchState b 0 else d.refuseBatch b 1

/-- Swap (R96). -/
def Dev.swapBatch (d : Dev) (b : Nat) : Dev :=
  if d.batchState b ≠ 1 then d.refuseBatch b 3
  else
    let d1 := if d.fbit Page.clsg Reg.CLS_BATCH_CUR_CUR_VALID then
        d.setBatchState (d.fget Page.clsg Reg.CLS_BATCH_CUR_CUR) 3
      else d
    ((d1.setBatchState b 2).fset Page.clsg Reg.CLS_BATCH_CUR_CUR b).fset Page.clsg Reg.CLS_BATCH_CUR_CUR_VALID 1

/-- The fields a request writes beside GO. -/
def Dev.stageFields (d : Dev) (b unstage : Nat) : Dev :=
  (d.fset Page.clsg Reg.CLS_BATCH_STAGE_N b).fset Page.clsg Reg.CLS_BATCH_STAGE_UNSTAGE unstage

/-- R92. -/
def execBatchStage (req : Requester) (batch : BitVec 4) (s : State) : Host.Outcome State Fault Refusal :=
  s.become (s.dev.onWrite req (Page.clsg + 0x108) (fun d => (d.stageFields batch.toNat 0).stageBatch batch.toNat))

/-- R92. -/
def execBatchUnstage (req : Requester) (batch : BitVec 4) (s : State) : Host.Outcome State Fault Refusal :=
  s.become (s.dev.onWrite req (Page.clsg + 0x108) (fun d => (d.stageFields batch.toNat 1).unstageBatch batch.toNat))

/-- R96. -/
def execBatchSwap (req : Requester) (batch : BitVec 4) (s : State) : Host.Outcome State Fault Refusal :=
  s.become (s.dev.onWrite req (Page.clsg + 0x104) (fun d =>
    (d.fsetP Page.clsg Reg.CLS_BATCH_SWAP_NEW batch.toNat).swapBatch batch.toNat))

/-- A DRAINING batch whose count reads 0 retires (R92, R96). -/
def Dev.retireBatch (d : Dev) (b : Nat) : Dev :=
  if d.batchState b = 3 ∧ d.fget Page.clsg (inflightBatch b) = 0 then
    ((d.setBatchState b 4).fset Page.clsg ⟨Reg.CLS_BATCH_RETIRED_MAP.off, b, 1⟩ 1).pulse 178
  else d

/-- R92. -/
def execBatchRetire (batch : BitVec 4) (s : State) : Host.Outcome State Fault Refusal := s.become (s.dev.retireBatch batch.toNat)

/-- Clear one RETIRED bit (R92, R97): no effect unless the batch is RETIRED. -/
def Dev.clearRetired (d : Dev) (b : Nat) : Dev :=
  if d.batchState b = 4 then (d.setBatchState b 0).fset Page.clsg ⟨Reg.CLS_BATCH_RETIRED_MAP.off, b, 1⟩ 0 else d

/-- Clear the RETIRED bits of a mask. -/
def Dev.clearRetiredMask (d : Dev) (mask : Nat) : Dev :=
  (List.range 16).foldl (fun (d : Dev) b => if bitAt mask b then d.clearRetired b else d) d

/-- R92. -/
def execBatchRetiredClear (req : Requester) (mask : BitVec 16) (s : State) : Host.Outcome State Fault Refusal :=
  s.become (s.dev.onWrite req (Page.clsg + 0x10C) (·.clearRetiredMask mask.toNat))

end Sys2Proof.Machine
end

