-- ==== Sys2Proof/Machine/Rules.lean ====
section
/-!
DEFINITION. The action words of a rule (R135-R137): how a rule's words are read as actions, when a list is malformed, and
where a word takes its operand from.
-/

namespace Sys2Proof.Machine

namespace Op
/-- Opcodes (R136). -/
def nop : Nat := 0x00
def probe : Nat := 0x01
def fwd : Nat := 0x02
def drop : Nat := 0x03
def count : Nat := 0x04
def meter : Nat := 0x05
def tagPush : Nat := 0x06
def tagPop : Nat := 0x07
def set : Nat := 0x08
def ttlDec : Nat := 0x09
def encap : Nat := 0x0A
def decap : Nat := 0x0B
def segment : Nat := 0x0C
def cipher : Nat := 0x0D
def mirror : Nat := 0x0E
def reheat : Nat := 0x0F
def learn : Nat := 0x10
end Op

/-- An action word (R135): its position in the rule, its fields, and for a SET with IND = 0 the word that follows it. -/
structure Act where
  pos : Nat
  op : Nat
  ind : Bool
  prb : Nat
  rw : Nat
  operand : Nat
  value : Option Nat := none
  deriving DecidableEq, Repr

/-- The fields of a word (R135). -/
def actOf (pos w : Nat) : Act :=
  { pos := pos, op := bits w 26 6, ind := bitAt w 25, prb := bits w 23 2, rw := bits w 21 2, operand := bits w 0 21 }

/-- The actions of a word list (R136): a SET with IND = 0 consumes the word after it. -/
def parseActs : Nat → List Nat → List Act
  | _, [] => []
  | i, [w] => [actOf i w]
  | i, w :: v :: rest =>
    if (actOf i w).op = Op.set ∧ !(actOf i w).ind then { actOf i w with value := some v } :: parseActs (i + 2) rest
    else actOf i w :: parseActs (i + 1) (v :: rest)

/-- The actions of a rule: its first NACT action words (R87). -/
def ruleActs (rule : List Word) : List Act :=
  parseActs 0 ((List.range (min 8 (ruleNact (rule.map (·.toNat))))).map (wordAt rule))

/-- Lanes per MAC in a port group's mode (R249). -/
def lanesPerMac (mode : Nat) : Nat := [8, 4, 2, 1].getD mode 8

/-- Whether MAC `m` exists in its group's mode (R249). -/
def Dev.macExists (d : Dev) (m : Nat) : Bool :=
  decide (m < 16) && m % 8 % lanesPerMac (d.fget (Page.pcs (m / 8)) Reg.PCS_MODE_MODE) == 0

/-- A destination in FWD operand form is in range (R136, R137). -/
def Dev.destGood (d : Dev) (x : Nat) : Bool :=
  let kind := bits x 19 2
  if kind = 0 then d.macExists (bits x 0 16) else if kind = 2 then bits x 12 4 == 0 else true

/-- An operand is in range and its reserved bits are 0 (R136, R137). -/
def Dev.operandGood (d : Dev) (op x : Nat) : Bool :=
  if op = Op.nop ∨ op = Op.drop then x == 0
  else if op = Op.probe then bits x 0 15 == 0
  else if op = Op.fwd then d.destGood x
  else if op = Op.tagPush then bits x 16 4 == 0
  else if op = Op.tagPop then x == 1 || x == 2
  else if op = Op.set then bits x 3 2 != 3 && bits x 0 2 == 0
  else if op = Op.ttlDec then bits x 0 14 == 0
  else if op = Op.encap then bits x 18 3 == 0
  else if op = Op.decap then bits x 0 6 == 0
  else if op = Op.segment then
    bits x 16 4 == 0 && (bits x 0 16 == 0 || (decide (64 ≤ bits x 0 16) && decide (bits x 0 16 ≤ 16000)))
  else if op = Op.mirror ∨ op = Op.reheat then bits x 8 13 == 0
  else if op = Op.learn then bits x 0 8 == 0 && decide (bits x 8 7 ≤ 112)
  else op == Op.count || op == Op.meter || op == Op.cipher

/-- Opcodes that may take their operand from a probe (R136). -/
def indAllowed (op : Nat) : Bool := [0x02, 0x04, 0x05, 0x06, 0x08, 0x0A, 0x0D, 0x0E].contains op

/-- How often an opcode may stand in one list (R137); other opcodes have no limit. -/
def opLimit (op : Nat) : Nat :=
  if op = Op.probe then 4
  else if op = Op.meter ∨ op = Op.count ∨ op = Op.mirror ∨ op = Op.tagPush then 2
  else if op = Op.nop ∨ op = Op.set ∨ op = Op.ttlDec then 8
  else 1

/-- Occurrences of an opcode. -/
def actCount (acts : List Act) (op : Nat) : Nat := acts.countP (fun a => a.op == op)

/-- One action breaks no rule of R137: a word with IND = 1 has operand 0, but for SET, whose operand keeps its fields. -/
def Dev.actGood (d : Dev) (acts : List Act) (a : Act) : Bool :=
  decide (a.op ≤ 0x10) && decide (actCount acts a.op ≤ opLimit a.op)
    && (if a.ind then indAllowed a.op && decide (a.prb < actCount acts Op.probe)
          && (if a.op = Op.set then d.operandGood a.op a.operand else a.operand == 0)
        else d.operandGood a.op a.operand && (a.op != Op.set || a.value.isSome))

/-- An action list that is not malformed (R137). -/
def Dev.actsGood (d : Dev) (acts : List Act) : Bool := acts.all (d.actGood acts)

/-- The tables that a rule's PROBE words name, in order (R135, R136). -/
def probeTables (rule : List Word) : List Nat :=
  ((ruleActs rule).filter (fun a => a.op == Op.probe)).map (fun a => bits a.operand 15 6)

/-- The RESULT word that a word with IND = 1 names; none when the probe did not hit (R135). -/
def Act.resultWord (a : Act) (probes : List (Option ProbeResult)) : Option Nat :=
  match probes.getD a.prb none with
  | some r => if r.hit then some (r.result.getD a.rw 0) else none
  | none => none

/-- The operand a word is applied with; none: the word is skipped (R135). -/
def Dev.operandOf (d : Dev) (probes : List (Option ProbeResult)) (a : Act) : Option Nat :=
  if !a.ind then some a.operand
  else
    match a.resultWord probes with
    | none => none
    | some v =>
      if a.op = Op.set then some a.operand
      else if d.operandGood a.op (bits v 0 21) then some (bits v 0 21) else none

/-- The value a SET writes (R136). -/
def Act.setValue (a : Act) (probes : List (Option ProbeResult)) : Nat :=
  if a.ind then (a.resultWord probes).getD 0 else a.value.getD 0

/-- The applied words of an opcode, with their operands, in word order. -/
def Dev.applied (d : Dev) (probes : List (Option ProbeResult)) (acts : List Act) (op : Nat) : List (Act × Nat) :=
  (acts.filter (fun a => a.op == op)).filterMap (fun a => (d.operandOf probes a).map (fun x => (a, x)))

/-- Bits of the APPLIED and SKIPPED maps (R154) of a word: its own, and that of a SET's value word. -/
def Act.mark (a : Act) : Nat := 2 ^ a.pos + (if a.value.isSome then 2 ^ (a.pos + 1) else 0)

end Sys2Proof.Machine
end

