-- ==== Sys2Proof/Machine/Tables.lean ====
section
/-!
DEFINITION. The forwarding tables (chapter 5): descriptors and keys, hashes, exact-match and LPM probes, insertion with
relocation and eviction, learning, ageing, notifications and the TBLG operations.
-/

namespace Sys2Proof.Machine

/-! ## Descriptors, profiles, hashes (R106, R110, R111) -/

def Dev.td (d : Dev) (t : Nat) : Nat := d.wget Page.tblg (0x100 + t)
def tdEn (v : Nat) : Bool := bitAt v 0
def tdKind (v : Nat) : Nat := bits v 1 2
def tdPriv (v : Nat) : Bool := bitAt v 3
def tdOldest (v : Nat) : Bool := bitAt v 4
def tdAgeEn (v : Nat) : Bool := bitAt v 5
def tdAgeNotify (v : Nat) : Bool := bitAt v 6
def tdLearnNotify (v : Nat) : Bool := bitAt v 7
def tdKeylen (v : Nat) : Nat := bits v 8 4
def tdAgeLimit (v : Nat) : Nat := bits v 16 8
def tdSeed (v : Nat) : Nat := bits v 32 32
def tdLog2 (v : Nat) : Nat := bits v 64 5
def tdBase (v : Nat) : Nat := bits v 72 15
def tdMask (v : Nat) : Nat := bits v 96 32

/-- Bytes of a table's key image (R106, R119). -/
def tdKeyBytes (v : Nat) : Nat := if tdKind v = 0 then 4 * tdKeylen v else if tdKind v = 1 then 8 else 20
/-- The greatest prefix length of an LPM table. -/
def tdMaxLen (v : Nat) : Nat := if tdKind v = 1 then 32 else 128

/-- The hash core (R110). -/
def tableHash (seed : Word) (k : List Byte) : Nat := (crcFeed (seed ^^^ 0xFFFFFFFF#32) k ^^^ 0xFFFFFFFF#32).toNat
def hash1 (v : Nat) (k : List Byte) : Nat := tableHash (BitVec.ofNat 32 (tdSeed v)) k
def hash2 (v : Nat) (k : List Byte) : Nat := tableHash (BitVec.ofNat 32 (tdSeed v) ^^^ 0x5BD1E995#32) k
def bucket1 (v : Nat) (k : List Byte) : Nat := hash1 v k % 2 ^ tdLog2 v
def bucket2 (v : Nat) (k : List Byte) : Nat :=
  let b := hash2 v k % 2 ^ tdLog2 v
  if b = bucket1 v k then b ^^^ 1 else b
/-- The home buckets of a key: one, or two for a privileged table. -/
def buckets (v : Nat) (k : List Byte) : List Nat := if tdPriv v then [bucket1 v k, bucket2 v k] else [bucket1 v k]

/-- The positions of the set bits of a 32-bit mask. -/
def setBitsOf (mask : Nat) : List Nat := (List.range 32).filter (bitAt mask)

/-- The bank that serves bucket `i` (R107). -/
def bankOf (v i : Nat) : Nat :=
  let on := setBitsOf (tdMask v)
  on.getD (i % on.length) 0

/-- Slot `j` of bucket `i`, in 64-byte units (R107, R113). -/
def slotOf (v i j : Nat) : Nat := tdBase v * 2 ^ 14 + i * 4 + j

/-- Segment words of a key profile (R111), and the key they build from metadata. -/
def Dev.profile (d : Dev) (t i : Nat) : Nat := bits (d.wget Page.tblg (0x140 + t)) (32 * i) 32
def segEn (s : Nat) : Bool := bitAt s 31
def segMoff (s : Nat) : Nat := bits s 24 7
def segLen (s : Nat) : Nat := bits s 16 6

def Dev.segments (d : Dev) (t : Nat) : List Nat := (List.range 4).map (d.profile t)

/-- Whether a table's key profile is well formed (R111). -/
def Dev.profileGood (d : Dev) (t : Nat) : Bool :=
  let v := d.td t
  let segs := (d.segments t).filter segEn
  segs.all (fun s => decide (1 ≤ segLen s ∧ segLen s ≤ 40) && decide (segMoff s + segLen s ≤ 128))
    && (if tdKind v = 0 then decide ((segs.map segLen).sum ≤ tdKeyBytes v)
      else segEn (d.profile t 0) && segEn (d.profile t 1) && !segEn (d.profile t 2) && !segEn (d.profile t 3)
        && segLen (d.profile t 0) == 2 && segLen (d.profile t 1) == (if tdKind v = 1 then 4 else 16))

/-- The bytes that a table's enabled segments take from metadata, in order. -/
def Dev.profileBytes (d : Dev) (t : Nat) (md : List Byte) : List Byte :=
  ((d.segments t).filter segEn).flatMap (fun s => cut md (segMoff s) (segLen s))

/-- The EM key image (R111). -/
def Dev.emKey (d : Dev) (t : Nat) (md : List Byte) : List Byte := cut (d.profileBytes t md) 0 (tdKeyBytes (d.td t))

/-- The bytes of an address with every bit beyond `len` cleared. -/
def maskAddr (addr : List Byte) (len : Nat) : List Byte :=
  let n := 8 * addr.length
  toBe addr.length (ofBe addr / 2 ^ (n - len) * 2 ^ (n - len))

/-- The LPM key image for a length (R119), from scope and address bytes. -/
def lpmImage (v len : Nat) (bs : List Byte) : List Byte :=
  cut ([BitVec.ofNat 8 len, 0] ++ bs.take 2 ++ maskAddr (bs.drop 2) len) 0 (tdKeyBytes v)

/-! ## Entries (R113) -/

def Dev.slotWords (d : Dev) (slot : Nat) : List Nat := (d.gwords (slot * 64) 16).map (·.toNat)
def eKey (ws : List Nat) : List Byte := (ws.take 10).flatMap (toLe 4)
def eAge (ws : List Nat) : Nat := bits (nth ws 14) 24 8
def eTable (ws : List Nat) : Nat := bits (nth ws 14) 18 6
def eStatic (ws : List Nat) : Bool := bitAt (nth ws 14) 17
def eOwner (ws : List Nat) : Nat := bits (nth ws 14) 4 12
def eOwnerMgr (ws : List Nat) : Bool := bitAt (nth ws 14) 3
def eValid (ws : List Nat) : Bool := bitAt (nth ws 15) 31
def eGen (ws : List Nat) : Nat := bits (nth ws 15) 0 16
def eResult (ws : List Nat) : List Nat := (ws.drop 10).take 4

/-- The number of ones of a 32-bit word. -/
def ones (n : Nat) : Nat := (List.range 32).countP (bitAt n)

/-- The entry with its PARITY bit set for even parity over all but AGE (R113). -/
def withParity (ws : List Nat) : List Nat :=
  let plain := ws.set 15 (setBits (nth ws 15) 30 1 0)
  let odd := ((plain.set 14 (bits (nth ws 14) 0 24)).map ones).sum % 2
  plain.set 15 (setBits (nth plain 15) 30 1 odd)

/-- Whether the PARITY check of an entry passes (R128). -/
def parityGood (ws : List Nat) : Bool := ((ws.set 14 (bits (nth ws 14) 0 24)).map ones).sum % 2 == 0

/-- Whether a slot holds a bad entry (R128). -/
def Dev.slotBad (d : Dev) (slot : Nat) : Bool := d.lineUncorrectable (slot * 64) || !parityGood (d.slotWords slot)

/-- Write an entry with one indivisible write; a written line can be read again. -/
def Dev.writeSlot (d : Dev) (slot : Nat) (ws : List Nat) : Dev :=
  (d.gwrite (slot * 64) (ws.flatMap (toLe 4))).renewLines (slot * 64) 64

/-- A slot to look at: its address, the bank that serves it, and its overflow way with the state of the tag when it is one. -/
structure Cand where
  slot : Nat
  bank : Nat := 0
  way : Option Nat := none
  tagBad : Bool := false
  deriving DecidableEq, Repr

/-- OVF_BASE, and the body of overflow way `w` (R114). -/
def Dev.ovfSlot (d : Dev) (w : Nat) : Nat := bits (d.wget Page.tblg 0x11) 0 15 * 2 ^ 14 + w
def Dev.ovfTag (d : Dev) (w : Nat) : Option (Nat × Nat) := Sparse.get (blank none) d.ovfTags w
def Dev.setOvfTag (d : Dev) (w : Nat) (v : Option (Nat × Nat)) : Dev := { d with ovfTags := Sparse.set (blank none) d.ovfTags w v }

/-- The overflow ways of a key's set (R110, R114). -/
def Dev.ovfWays (d : Dev) (t : Nat) (k : List Byte) : List Nat :=
  let v := d.td t
  let b := bankOf v (bucket1 v k)
  (List.range 8).map (fun w => b * 16384 + hash2 v k % 2048 * 8 + w)

/-- The slots of a bucket. -/
def bucketSlots (v i : Nat) : List Nat := (List.range 4).map (slotOf v i)

/-- What a probe reads, in order (R115): bucket slots, then the bodies of matching overflow tags and ways with bad tags. -/
def Dev.candidates (d : Dev) (t : Nat) (k : List Byte) : List Cand :=
  let v := d.td t
  (buckets v k).flatMap (fun b => (bucketSlots v b).map (fun s => { slot := s, bank := bankOf v b }))
    ++ (d.ovfWays t k).filterMap (fun w =>
      if d.ovfBad.contains w then some { slot := d.ovfSlot w, bank := w / 16384, way := some w, tagBad := true }
      else if d.ovfTag w = some (t, hash2 v k / 2048) then some { slot := d.ovfSlot w, bank := w / 16384, way := some w }
      else none)

/-- The banks that serve a key's buckets (R107). -/
def keyBanks (v : Nat) (k : List Byte) : List Nat := ((buckets v k).map (bankOf v)).eraseDups

/-- A bad entry is logged by its bank (R128): kind 0 parity, 1 uncorrectable, 2 overflow tag. -/
def Dev.logBad (d : Dev) (bank kind slot : Nat) : Dev :=
  let p := Page.tbl bank
  let d1 := d.countSat p Reg.TBL_PERR_CNT_CNT
  let d2 := if d1.fbit p Reg.TBL_PERR_ADDR_VALID then d1
    else ((d1.fset p Reg.TBL_PERR_ADDR_ADDR slot).fset p Reg.TBL_PERR_ADDR_KIND kind).fset p Reg.TBL_PERR_ADDR_VALID 1
  (d2.latchFault p (if kind = 1 then FaultBit.tbl_ENTRY_UE else FaultBit.tbl_ENTRY_PARITY)).pulse 194

/-- Whether an entry matches (R113). -/
def entryMatches (t : Nat) (k : List Byte) (ws : List Nat) : Bool :=
  eValid ws && eTable ws == t && (eKey ws).take k.length == k

/-- The first good matching candidate; bad ones met before it are logged by the banks that serve them (R107, R115). -/
def Dev.scan (d : Dev) (t : Nat) (k : List Byte) : List Cand → Option Cand × Bool × Dev
  | [] => (none, false, d)
  | c :: rest =>
    if c.tagBad then let r := (d.logBad c.bank 2 c.slot).scan t k rest; (r.1, true, r.2.2)
    else if d.slotBad c.slot then
      let r := (d.logBad c.bank (if d.lineUncorrectable (c.slot * 64) then 1 else 0) c.slot).scan t k rest
      (r.1, true, r.2.2)
    else if entryMatches t k (d.slotWords c.slot) then (some c, false, d)
    else d.scan t k rest

/-- Find a key (R115 without refresh). -/
def Dev.findKey (d : Dev) (t : Nat) (k : List Byte) : Option Cand × Bool × Dev :=
  d.scan t k (d.candidates t k)

/-! ## Probes -/

/-- The table epoch (R123). -/
def Dev.epoch (d : Dev) : Nat := d.fget Page.tblg Reg.TBLG_EPOCH_EPOCH

/-- A hit asks for an age refresh when its table ages and its stamp is old (R123). -/
def Dev.askRefresh (d : Dev) (v : Nat) (c : Cand) : Dev :=
  let ws := d.slotWords c.slot
  if tdAgeEn v ∧ eAge ws ≠ d.epoch then { d with refreshQ := d.refreshQ ++ [(c.slot, eGen ws)] } else d

/-- Count a served probe (R130, R132); whether its line reads missed the table cache is left open. -/
def Dev.countProbe (d : Dev) (bank reads : Nat) (hit : Bool) : Dev :=
  let p := Page.tbl bank
  let d1 := (d.count p Reg.TBL_PROBE_CNT_CNT).wcount Page.tblg 1
  let d2 := if hit then (d1.count p Reg.TBL_HIT_CNT_CNT).wcount Page.tblg 2 else d1
  d2.countMisses p Reg.TBL_CMISS_CNT_CNT reads

/-- A served probe for a key: what it finds, and its count in every bank that serves one of its buckets, the hit in the bank of the
entry (R107, R130; log entry 99: a privileged probe counts in each of its two banks). -/
def Dev.probeKey (d : Dev) (t : Nat) (k : List Byte) : Option Cand × Bool × Dev :=
  let read := (d.candidates t k).filter (fun c => !c.tagBad)
  let r := d.findKey t k
  (r.1, r.2.1, (keyBanks (d.td t) k).foldl (fun (d : Dev) b =>
    d.countProbe b (read.countP (·.bank == b)) (r.1.any (·.bank == b))) r.2.2)

/-- The result of a found candidate (R112). -/
def Dev.probeHit (d : Dev) (t : Nat) (c : Cand) (bad : Bool) (len : Nat) : ProbeResult :=
  { table := t, hit := true, bad := bad, len := len, slot := c.slot, result := eResult (d.slotWords c.slot) }

/-- Whether a probe of table `t` fails outright for its table or its profile (R111, R112). -/
def Dev.probeErr (d : Dev) (t : Nat) : Bool := !tdEn (d.td t) || !d.profileGood t

/-- Whether a bank that serves one of a key's buckets takes no probe. -/
def Dev.banksOut (d : Dev) (v : Nat) (k : List Byte) : Bool :=
  (keyBanks v k).any (fun b => !d.accepts (Page.tbl b) || !d.hasUnit puntyTbl b)

/-- An exact-match probe (R115) of table `t` for metadata `md`. -/
def Dev.emProbe (d : Dev) (t : Nat) (md : List Byte) : ProbeResult × Dev :=
  let v := d.td t
  let k := d.emKey t md
  if d.probeErr t || d.banksOut v k then ({ table := t, err := true }, d)
  else
    let r := d.probeKey t k
    match r.1 with
    | some c => (r.2.2.probeHit t c r.2.1 0, r.2.2.askRefresh v c)
    | none => ({ table := t, bad := r.2.1 }, r.2.2)

/-- Bloom bit i of a key (R110), in the filter of `base` and `log2`. -/
def bloomBit (v : Nat) (k : List Byte) (base log2 i : Nat) : Nat :=
  base * 512 + (hash1 v k + i * (hash2 v k ||| 1)) % 2 ^ log2

/-- Length descriptors (R120). -/
def lenIndex (t len : Nat) : Nat := 0x1000 + 256 * t + len
def Dev.ld (d : Dev) (t len : Nat) : Nat := d.wget Page.tblg (lenIndex t len)
def ldBase (v : Nat) : Nat := bits v 0 17
def ldLog2 (v : Nat) : Nat := bits v 17 5
def ldFilter (v : Nat) : Bool := bitAt v 23
def ldCount (v : Nat) : Nat := bits v 24 24
def Dev.setLdCount (d : Dev) (t len n : Nat) : Dev := d.wset Page.tblg (lenIndex t len) (setBits (d.ld t len) 24 24 n)

def Dev.bloomAt (d : Dev) (i : Nat) : Bool := Sparse.get (blank false) d.bloom i

/-- Set the three bits of a key in a filter (R120). -/
def Dev.bloomSet (d : Dev) (v : Nat) (k : List Byte) (base log2 : Nat) : Dev :=
  { d with bloom := (List.range 3).foldl (fun m i => Sparse.set (blank false) m (bloomBit v k base log2 i) true) d.bloom }

/-- The filter stage (R121): the lengths whose count is not 0 and whose filter may hold the image, longest first. -/
def Dev.lpmLengths (d : Dev) (t : Nat) (bs : List Byte) : List Nat :=
  let v := d.td t
  ((List.range (tdMaxLen v + 1)).reverse).filter (fun len =>
    let l := d.ld t len
    let k := lpmImage v len bs
    ldCount l != 0 && (!ldFilter l || (List.range 3).all (fun i => d.bloomAt (bloomBit v k (ldBase l) (ldLog2 l) i))))

/-- The candidate lengths probed in turn (R121). -/
def Dev.lpmTry (d : Dev) (t : Nat) (bs : List Byte) : List Nat → Bool → ProbeResult × Dev
  | [], bad => ({ table := t, bad := bad }, d)
  | len :: rest, bad =>
    let v := d.td t
    let k := lpmImage v len bs
    if d.banksOut v k then ({ table := t, err := true, bad := bad }, d)
    else
      let r := d.probeKey t k
      match r.1 with
      | some c => (r.2.2.probeHit t c (bad || r.2.1) len, r.2.2)
      | none =>
        let d2 := if r.2.1 then r.2.2 else r.2.2.count (Page.tbl (bankOf v (bucket1 v k))) Reg.TBL_BLOOM_FP_CNT
        d2.lpmTry t bs rest (bad || r.2.1)

/-- An LPM lookup (R121). -/
def Dev.lpmProbe (d : Dev) (t : Nat) (md : List Byte) : ProbeResult × Dev :=
  if d.probeErr t then ({ table := t, err := true }, d)
  else d.lpmTry t (d.profileBytes t md) (d.lpmLengths t (d.profileBytes t md)) false

/-- Store the result of probe `n` of packet `h`. -/
def Dev.storeProbe (d : Dev) (h n : Nat) (r : ProbeResult) : Dev :=
  d.modPacket h (fun p =>
    let all := (List.range (max (n + 1) p.probes.length)).map (fun i => if i = n then some r else p.probes.getD i none)
    { p with probes := all, touched := p.touched.filter (· != n) })

/-- Carry out probe `n` of a pass when its table is of the wanted kind and the probe has no result yet. -/
def Dev.runProbe (d : Dev) (h n : Nat) (lpm : Bool) : Dev :=
  let p := d.packet h
  match p.stage, (probeTables p.rule)[n]?, p.probes.getD n none with
  | .acting, some t, none =>
    if decide (tdKind (d.td t) = 0) = lpm ∨ !d.actsGood (ruleActs p.rule) then d
    else
      let r := if lpm then d.lpmProbe t p.md else d.emProbe t p.md
      r.2.storeProbe h n r.1
  | _, _, _ => d

/-- R115. -/
def execEmProbe (packet probe : Nat) (s : State) : Host.Outcome State Fault Refusal :=
  s.become (s.dev.runProbe packet probe false)

/-- R121. -/
def execLpmProbe (packet probe : Nat) (s : State) : Host.Outcome State Fault Refusal :=
  s.become (s.dev.runProbe packet probe true)

/-- A privileged probe that missed while a relocation wrote one of its buckets is repeated (R115). The repeat counts in the bank of
its first bucket (log entry 99). -/
def Dev.reprobe (d : Dev) (h n : Nat) : Dev :=
  let p := d.packet h
  match p.stage, (probeTables p.rule)[n]? with
  | .acting, some t =>
    if p.touched.contains n then
      let r := d.emProbe t p.md
      let v := d.td t
      ((r.2.storeProbe h n r.1).count (Page.tbl (bankOf v (bucket1 v (d.emKey t p.md)))) Reg.TBL_REPROBE_CNT_CNT).modPacket h
        (fun p => { p with repeats := p.repeats ++ [n] })
    else d
  | _, _ => d

/-- R115. -/
def execPrivilegedReprobe (packet probe : Nat) (s : State) : Host.Outcome State Fault Refusal :=
  s.become (s.dev.reprobe packet probe)

/-- The bank that serves slot `slot` of table `t`: through its bucket, or its overflow way. -/
def Dev.bankOfSlot (d : Dev) (t slot : Nat) : Nat :=
  let v := d.td t
  let first := tdBase v * 2 ^ 14
  if first ≤ slot ∧ slot < first + 4 * 2 ^ tdLog2 v then bankOf v ((slot - first) / 4)
  else (slot - d.ovfSlot 0) / 16384 % 32

/-- A hit refresh reaches the bank (R123): AGE is written when the slot still reads VALID with the GEN the probe saw. -/
def Dev.refreshAge (d : Dev) : Dev :=
  match d.refreshQ with
  | [] => d
  | (slot, gen) :: rest =>
    let d1 := { d with refreshQ := rest }
    let ws := d1.slotWords slot
    if eValid ws ∧ eGen ws = gen ∧ !d1.slotBad slot then d1.writeSlot slot (ws.set 14 (setBits (nth ws 14) 24 8 d1.epoch))
    else d1.count (Page.tbl (d1.bankOfSlot (eTable ws) slot)) Reg.TBL_REFRESH_STALE_CNT
/-- R123. -/
def execAgeRefresh (s : State) : Host.Outcome State Fault Refusal := s.become s.dev.refreshAge

/-! ## Notifications (R125-R127) -/

/-- The backlog has room. -/
def Dev.noteRoom (d : Dev) : Bool := decide (d.noteQ.length < 256)

/-- Count an operation withheld because the backlog is full (R127). -/
def Dev.noteHold (d : Dev) : Dev := d.count Page.tblg Reg.TBL_NOTE_HOLD_CNT

namespace Note
/-- Kinds of notification record (R126). -/
def learned : Nat := 1
def moved : Nat := 2
def evicted : Nat := 3
def aged : Nat := 4
end Note

/-- Write a notification record of `kind` for slot `slot`, which held `ws` before the event, about key `key` (R126). -/
def Dev.notify (d : Dev) (kind t slot : Nat) (ws key : List Nat) (owner : Nat) : Dev :=
  let age := (d.epoch + 256 - eAge ws) % 256
  let len := if tdKind (d.td t) = 0 then 0 else bits (nth key 0) 0 8
  let words := [kind * 2 ^ 24 + t * 2 ^ 16 + age * 2 ^ 8 + len, slot] ++ (List.range 10).map (nth key)
    ++ [d.tim.ns, d.tim.sec % 2 ^ 32, eGen ws + owner * 2 ^ 16, d.noteSeq % 2 ^ 32]
  let d1 := { d with noteQ := d.noteQ ++ [words], noteSeq := d.noteSeq + 1 }
  let d2 := d1.fset Page.tblg Reg.TBLG_NR_BACKLOG_DEPTH d1.noteQ.length
  if d1.noteQ.length = 256 then (d2.latchFault Page.tblg FaultBit.tblg_NOTE_FULL).pulse 197 else d2

/-- OWNER of a notification record from an entry. -/
def noteOwner (ws : List Nat) : Nat := eOwner ws + b2n (eOwnerMgr ws) * 2 ^ 12

/-- The head notification record is written to the ring when it has room and host port 0 can take it; till then it waits (R125,
R127, R296; log entry 100). -/
def Dev.writeNote (d : Dev) : Dev :=
  match d.noteQ with
  | [] => d
  | words :: rest =>
    let n := 2 ^ d.fget Page.tblg Reg.TBLG_NR_CTL_SIZE_LOG2
    let prod := d.fget Page.tblg Reg.TBLG_NR_PROD_PROD
    let cons := d.fget Page.tblg Reg.TBLG_NR_CONS_CONS
    if !d.fbit Page.tblg Reg.TBLG_NR_CTL_ENABLE ∨ n ≤ (prod + 2 ^ 32 - cons) % 2 ^ 32 ∨ !d.hostReady 0 then d
    else
      let phase := if prod / n % 2 = 0 then 2 ^ 31 else 0
      let d1 := { d with noteQ := rest }.fset Page.tblg Reg.TBLG_NR_BACKLOG_DEPTH rest.length
      let base := d.wget Page.tblg 0x10 % 2 ^ 64
      let image := ((nth words 0 + phase) :: words.drop 1).flatMap (toLe 4)
      ((d1.hwrite 0 (base + prod % n * 64) image {}).count Page.tblg Reg.TBLG_NR_PROD_PROD).pulse 198

/-- R125. -/
def execNotificationRecordWrite (s : State) : Host.Outcome State Fault Refusal := s.become s.dev.writeNote

/-- A write of TBLG_NR_CONS (R125). -/
def Dev.writeNoteCons (d : Dev) (v : Nat) : Dev :=
  if (d.fget Page.tblg Reg.TBLG_NR_PROD_PROD + 2 ^ 32 - v) % 2 ^ 32 ≤ 2 ^ d.fget Page.tblg Reg.TBLG_NR_CTL_SIZE_LOG2 then
    d.fset Page.tblg Reg.TBLG_NR_CONS_CONS v
  else d.accessFault Page.tblg

/-- R125. -/
def execNrConsWrite (req : Requester) (value : Word) (s : State) : Host.Outcome State Fault Refusal :=
  s.become (s.dev.onWrite req (Page.tblg + 0x124) (·.writeNoteCons value.toNat))

/-! ## Changing entries -/

/-- A slice's entries in use change by an entry gained or lost (R122, R307). -/
def Dev.ownEntry (d : Dev) (ws : List Nat) (gain : Bool) : Dev :=
  if eOwnerMgr ws then d
  else
    let s := d.slice (eOwner ws)
    d.setSlice (eOwner ws) { s with tblUsed := if gain then s.tblUsed + 1 else s.tblUsed - 1 }

/-- An LPM length's COUNT changes with an entry (R120). -/
def Dev.countPrefix (d : Dev) (t : Nat) (ws : List Nat) (gain : Bool) : Dev :=
  if tdKind (d.td t) = 0 then d
  else
    let len := bits (nth ws 0) 0 8
    let n := ldCount (d.ld t len)
    d.setLdCount t len (if gain then n + 1 else n - 1)

/-- OVF_USED of a bank changes; a rise above the threshold sets OVF_HIGH and pulses event 201 (R130). -/
def Dev.setOvfUsed (d : Dev) (bank n : Nat) : Dev :=
  let p := Page.tbl bank
  let thr := d.fget p Reg.TBL_OVF_THR_THR
  let old := d.fget p Reg.TBL_OVF_USED_USED
  let d1 := d.fset p Reg.TBL_OVF_USED_USED n
  if old ≤ thr ∧ thr < n then (d1.latchFault p FaultBit.tbl_OVF_HIGH).pulse 201 else d1

/-- Clear a slot (R116, R123): the tag of an overflow way first; the slot keeps its GEN only. COUNT and the owner's use follow the
entry's own table and owner; those of a bad slot cannot be told and stay as they are (log entry 101). -/
def Dev.clearEntry (d : Dev) (c : Cand) : Dev :=
  let ws := d.slotWords c.slot
  let known := !d.slotBad c.slot && eValid ws
  let d1 := if known then (d.ownEntry ws false).countPrefix (eTable ws) ws false else d
  let d2 := match c.way with
    | some w =>
      let used := d1.ovfTag w
      let d3 := { (d1.setOvfTag w none) with ovfBad := d1.ovfBad.filter (· != w) }
      if used.isSome then d3.setOvfUsed (w / 16384) (d3.fget (Page.tbl (w / 16384)) Reg.TBL_OVF_USED_USED - 1) else d3
    | none => d1
  let gen := if d.lineUncorrectable (c.slot * 64) then Config.unstated 45 [c.slot] % 2 ^ 16 else eGen ws
  d2.writeSlot c.slot (withParity (List.replicate 15 0 ++ [gen]))

/-- The entry words to write: key, result, TABLE, STATIC and owner of an image with the stamps that hardware computes. -/
def entryWords (image : List Nat) (age gen : Nat) (learned : Bool) : List Nat :=
  let w14 := setBits (setBits (nth image 14) 24 8 age) 16 1 (b2n learned)
  withParity ((image.take 14) ++ [w14, 2 ^ 31 + gen % 2 ^ 16])

/-- How an insert ended: code, whether the key existed, whether an occupant was evicted, whether it went to the overflow
store, moves made, and the slot. -/
structure Inserted where
  code : Nat
  found : Bool := false
  evicted : Bool := false
  ovf : Bool := false
  relocs : Nat := 0
  slot : Nat := 0
  deriving DecidableEq, Repr

/-- A free, good slot of a bucket (R117). -/
def Dev.freeSlot (d : Dev) (v b : Nat) : Option Nat :=
  (bucketSlots v b).find? (fun s => !d.slotBad s && !eValid (d.slotWords s))

/-- The next slot of bucket `b` from slot number `k` that holds a good entry (R117). -/
def Dev.goodSlot (d : Dev) (v b k : Nat) : Option Nat :=
  ((List.range 4).map (fun i => slotOf v b ((k + i) % 4))).find? (fun s => !d.slotBad s)

/-- The other bucket of an entry (R117). -/
def otherBucket (v : Nat) (ws : List Nat) (b : Nat) : Nat :=
  let k := (eKey ws).take (tdKeyBytes v)
  if bucket1 v k = b then bucket2 v k else bucket1 v k

/-- Carry out the moves of a relocation path, last first, into free slot `f`; answers the slot left free. -/
def Dev.moveAll (d : Dev) (f : Nat) : List (Nat × List Nat) → Nat × Dev
  | [] => (f, d)
  | (slot, ws) :: rest =>
    let d1 := (d.writeSlot f ws).writeSlot slot (withParity (ws.set 15 (setBits (nth ws 15) 31 1 0)))
    d1.moveAll slot rest

/-- The path of moves, last first, when the walk picks slot `s`. A walk that meets a slot of its path again goes on from that slot,
so that no move overwrites a key that another has just put there: each moved key stays present (R117; log entry 102). -/
def pathTo (path : List (Nat × List Nat)) (s : Nat) (ws : List Nat) : List (Nat × List Nat) :=
  (s, ws) :: (if path.any (·.1 == s) then (path.dropWhile (·.1 != s)).drop 1 else path)

/-- The relocation walk (R117): `path` holds the moves found so far, last first. Answers the freed slot, the number of moves
and the buckets written. -/
def Dev.relocate (d : Dev) (v : Nat) : Nat → Nat → List (Nat × List Nat) → Option (Nat × Nat × List Nat) × Dev
  | 0, _, _ => (none, d.pulse 202)
  | fuel + 1, cur, path =>
    let r := d.fresh
    match r.2.goodSlot v cur (r.1 % 4) with
    | none => (none, r.2)
    | some s =>
      let ws := r.2.slotWords s
      let alt := otherBucket v ws cur
      let path1 := pathTo path s ws
      match r.2.freeSlot v alt with
      | some f =>
        let m := r.2.moveAll f path1
        (some (m.1, path1.length, alt :: path1.map (fun e => (e.1 - slotOf v 0 0) / 4)), m.2)
      | none => r.2.relocate v fuel alt path1

/-- Mark the privileged probes that missed and whose buckets a relocation wrote, before ACT uses their results (R115): three repeats,
and one more once the insert has ended. -/
def Dev.markTouched (d : Dev) (t : Nat) (bs : List Nat) : Dev :=
  let v := d.td t
  { d with packets := d.packets.map (fun e =>
      let p := e.2
      let hit := (List.range (probeTables p.rule).length).filter (fun n =>
        (probeTables p.rule)[n]? == some t && decide (p.repeats.count n < 4) && !p.touched.contains n
          && (match p.probes.getD n none with | some r => !r.hit && !r.err | none => false)
          && (buckets v (d.emKey t p.md)).any bs.contains)
      if p.stage == Stage.acting && p.colours.isEmpty && !hit.isEmpty then (e.1, { p with touched := p.touched ++ hit }) else e) }

/-- The victim candidates of an insert (R118). -/
def Dev.victims (d : Dev) (t : Nat) (k : List Byte) : List Nat :=
  let v := d.td t
  ((buckets v k).flatMap (bucketSlots v)).filter (fun s =>
    let ws := d.slotWords s
    !d.slotBad s && eValid ws && eTable ws == t && !eStatic ws)

/-- The victim (R118): by the bank's LFSR, or the oldest with the lowest address. -/
def Dev.victim (d : Dev) (t : Nat) (k : List Byte) : Option Nat × Dev :=
  let v := d.td t
  let c := d.victims t k
  if c = [] then (none, d)
  else if tdOldest v then (argMax (fun s => (d.epoch + 256 - eAge (d.slotWords s)) % 256) (c.mergeSort (· ≤ ·)), d)
  else
    let r := d.fresh
    ((c.drop (r.1 % c.length)).head?, r.2)

/-- Write a new entry into a slot (R117): GEN advances, the prefix and owner counts follow, Bloom bits are set in the filter
and in one being rebuilt. -/
def Dev.putEntry (d : Dev) (t : Nat) (image : List Nat) (learned : Bool) (slot : Nat) : Dev :=
  let v := d.td t
  let ws := entryWords image d.epoch (eGen (d.slotWords slot) + 1) learned
  let d1 := ((d.writeSlot slot ws).ownEntry ws true).countPrefix t ws true
  if tdKind v = 0 then d1
  else
    let k := (eKey ws).take (tdKeyBytes v)
    let len := bits (nth ws 0) 0 8
    let d2 := d1.bloomSet v k (ldBase (d1.ld t len)) (ldLog2 (d1.ld t len))
    match d2.rebuild with
    | some (t', len', base, log2) => if t' = t ∧ len' = len then d2.bloomSet v k base log2 else d2
    | none => d2

/-- The number of prefixes of a kind on the device, and its limit (R119). -/
def Dev.prefixes (d : Dev) (kind : Nat) : Nat :=
  ((List.range 64).flatMap (fun t =>
    if tdKind (d.td t) = kind then (List.range (tdMaxLen (d.td t) + 1)).map (fun l => ldCount (d.ld t l)) else [])).sum
def prefixLimit (kind : Nat) : Nat := if kind = 1 then 4194304 else 2097152

/-- Whether a slice has used up its table quota (R122, R307). -/
def Dev.quotaReached (d : Dev) (s : Nat) : Bool := decide ((d.slice s).tableQuota ≤ (d.slice s).tblUsed)

/-- Insert a new key (R117): free slot, relocation, overflow, eviction. -/
def Dev.insertNew (d : Dev) (t : Nat) (image : List Nat) (k : List Byte) (noevict learned : Bool) : Inserted × Dev :=
  let v := d.td t
  let direct := (buckets v k).findSome? (d.freeSlot v)
  match direct with
  | some s => ({ code := Code.ok, slot := s }, d.putEntry t image learned s)
  | none =>
    let r0 := d.fresh
    let moved := if tdPriv v then
        r0.2.relocate v 32 (if r0.1 % 2 = 1 then bucket2 v k else bucket1 v k) []
      else (none, d)
    match moved.1 with
    | some (s, n, bs) =>
      ({ code := Code.ok, relocs := n, slot := s }, (moved.2.markTouched t bs).putEntry t image learned s)
    | none =>
      let d1 := moved.2
      match (d1.ovfWays t k).find? (fun w =>
          (d1.ovfTag w).isNone && !d1.ovfBad.contains w && !d1.slotBad (d1.ovfSlot w)) with
      | some w =>
        let d2 := (d1.putEntry t image learned (d1.ovfSlot w)).setOvfTag w (some (t, hash2 v k / 2048))
        ({ code := Code.ok, ovf := true, slot := d1.ovfSlot w },
          d2.setOvfUsed (w / 16384) (d2.fget (Page.tbl (w / 16384)) Reg.TBL_OVF_USED_USED + 1))
      | none =>
        if noevict then ({ code := Code.resource }, d1)
        else if !d1.noteRoom then ({ code := Code.resource }, d1.noteHold)
        else
          let vic := d1.victim t k
          match vic.1 with
          | none => ({ code := Code.resource }, vic.2)
          | some s =>
            let ws := vic.2.slotWords s
            let d2 := ((vic.2.notify Note.evicted t s ws ws (noteOwner ws)).count Page.tblg Reg.TBL_EVICT_CNT_CNT).pulse 195
            let d3 := (d2.ownEntry ws false).countPrefix t ws false
            ({ code := Code.ok, evicted := true, slot := s }, d3.putEntry t image learned s)

/-- INSERT (R117): replace the result of an existing key, or insert it. -/
def Dev.insertEntry (d : Dev) (t : Nat) (image : List Nat) (k : List Byte) (noevict : Bool) : Inserted × Dev :=
  let f := d.findKey t k
  let d0 := f.2.2
  let kind := tdKind (d0.td t)
  match f.1 with
  | some c =>
    let ws := d0.slotWords c.slot
    let new := entryWords image d0.epoch (eGen ws) false
    ({ code := Code.ok, found := true, ovf := c.way.isSome, slot := c.slot },
      ((d0.ownEntry ws false).writeSlot c.slot new).ownEntry new true)
  | none =>
    if (kind ≠ 0 ∧ prefixLimit kind ≤ d0.prefixes kind) ∨ (!eOwnerMgr image ∧ d0.quotaReached (eOwner image)) then
      ({ code := Code.resource }, d0)
    else d0.insertNew t image k noevict false

/-! ## TBLG operations (R116) -/

def opTable (o : PortOp) : Nat := bits o.word 8 6
def opArg (o : PortOp) : Nat := bits o.word 0 8
def opImage (o : PortOp) : List Nat := (o.buf.take 16).map (·.toNat)

/-- Whether an image is well formed for its operation (R116). An LPM image must be the key image of R119 for ARG: its first byte ARG
and its second 0 (log entry 103). -/
def Dev.imageGood (d : Dev) (o : PortOp) : Bool :=
  let t := opTable o
  let v := d.td t
  let ws := opImage o
  let n := tdKeyBytes v
  let key := eKey ws
  tdEn v && bits (nth ws 14) 0 3 == 0 && bits (nth ws 15) 16 14 == 0 && (key.drop n).all (· == 0) && eTable ws == t
    && (tdKind v == 0 || (decide (opArg o ≤ tdMaxLen v) && byteAt key 0 == opArg o && byteAt key 1 == 0
      && lpmImage v (opArg o) ((key.take (if tdKind v = 1 then 8 else 20)).drop 2) == key.take n))

/-- The key of an operation's image. -/
def Dev.opKey (d : Dev) (o : PortOp) : List Byte := (eKey (opImage o)).take (tdKeyBytes (d.td (opTable o)))

/-- Store the outcome fields of TBLG_OP_STAT and TBLG_OP_SLOT. -/
def Dev.opOutcome (d : Dev) (i : Inserted) : Dev :=
  let d1 := (d.fset Page.tblg Reg.TBLG_OP_STAT_FOUND (b2n i.found)).fset Page.tblg Reg.TBLG_OP_STAT_EVICTED (b2n i.evicted)
  let d2 := (d1.fset Page.tblg Reg.TBLG_OP_STAT_OVF (b2n i.ovf)).fset Page.tblg Reg.TBLG_OP_STAT_RELOCS i.relocs
  if i.code = Code.ok then d2.fset Page.tblg Reg.TBLG_OP_SLOT_SLOT i.slot else d2

/-- INSERT and INSERT_NOEVICT. -/
def Dev.opInsert (d : Dev) (o : PortOp) (noevict : Bool) : Nat × Dev :=
  if d.imageGood o then
    let r := d.insertEntry (opTable o) (opImage o) (d.opKey o) noevict
    (r.1.code, r.2.opOutcome r.1)
  else (Code.malformed, d.opOutcome { code := Code.malformed })

/-- R117. -/
def execInsert (s : State) : Host.Outcome State Fault Refusal :=
  s.become (s.dev.portExec portTblg 1 (fun d o => d.opInsert o false))

/-- R117. -/
def execInsertNoevict (s : State) : Host.Outcome State Fault Refusal :=
  s.become (s.dev.portExec portTblg 2 (fun d o => d.opInsert o true))

/-- DELETE (R116, R134). -/
def Dev.opDelete (d : Dev) (o : PortOp) : Nat × Dev :=
  if d.imageGood o then
    let f := d.findKey (opTable o) (d.opKey o)
    match f.1 with
    | some c => (Code.ok, (f.2.2.clearEntry c).opOutcome { code := Code.ok, found := true, slot := c.slot })
    | none => (Code.ok, f.2.2.opOutcome { code := Code.ok, slot := d.fget Page.tblg Reg.TBLG_OP_SLOT_SLOT })
  else (Code.malformed, d.opOutcome { code := Code.malformed })

/-- R116. -/
def execDelete (s : State) : Host.Outcome State Fault Refusal := s.become (s.dev.portExec portTblg 3 Dev.opDelete)

/-- Copy 16 words to TBLG_OPRES. -/
def Dev.tblgResult (d : Dev) (ws : List Nat) : Dev :=
  (List.range 16).foldl (fun (d : Dev) i => d.fset Page.tblg (Reg.TBLG_OPRES_DATA.nth 4 i) (nth ws i)) d

/-- LOOKUP (R116): the probe counts as one; no refresh. -/
def Dev.opLookup (d : Dev) (o : PortOp) : Nat × Dev :=
  if d.imageGood o then
    let f := d.probeKey (opTable o) (d.opKey o)
    match f.1 with
    | some c =>
      (Code.ok, (f.2.2.tblgResult (d.slotWords c.slot)).opOutcome
        { code := Code.ok, found := true, ovf := c.way.isSome, slot := c.slot })
    | none => (Code.ok, f.2.2.opOutcome { code := Code.ok, slot := d.fget Page.tblg Reg.TBLG_OP_SLOT_SLOT })
  else (Code.malformed, d.opOutcome { code := Code.malformed })

/-- R116. -/
def execLookup (s : State) : Host.Outcome State Fault Refusal := s.become (s.dev.portExec portTblg 4 Dev.opLookup)

/-- CLEAR_SLOT (R116, R128): a slot of the named table's buckets, or an overflow body. -/
def Dev.opClear (d : Dev) (o : PortOp) : Nat × Dev :=
  let t := opTable o
  let v := d.td t
  let slot := bits (nth (opImage o) 0) 0 29
  let first := tdBase v * 2 ^ 14
  if !tdEn v then (Code.malformed, d.opOutcome { code := Code.malformed })
  else if first ≤ slot ∧ slot < first + 4 * 2 ^ tdLog2 v then
    (Code.ok, (d.clearEntry { slot := slot }).opOutcome { code := Code.ok, slot := slot })
  else if d.ovfSlot 0 ≤ slot ∧ slot < d.ovfSlot 0 + 32 * 16384 then
    (Code.ok, (d.clearEntry { slot := slot, way := some (slot - d.ovfSlot 0) }).opOutcome { code := Code.ok, slot := slot })
  else (Code.malformed, d.opOutcome { code := Code.malformed })

/-- R116. -/
def execClearSlot (s : State) : Host.Outcome State Fault Refusal := s.become (s.dev.portExec portTblg 5 Dev.opClear)

/-- BLOOM_REBUILD starts its walk (R121); GO stays 1 until BLOOM_REBUILD_END. MALFORMED for a filter that does not fit the Bloom store
or whose size is out of range, no case of RESOURCE, OPBUF0 bits 31:22 ignored (log entry 104). -/
def Dev.startRebuild (d : Dev) : Dev :=
  match d.portRunning portTblg 6 with
  | none => d
  | some o =>
    let t := opTable o
    let v := d.td t
    let base := bits (nth (opImage o) 0) 0 17
    let log2 := bits (nth (opImage o) 0) 17 5
    if d.rebuild.isSome then d
    else if !tdEn v ∨ tdKind v = 0 ∨ tdMaxLen v < opArg o ∨ log2 < 9 ∨ 24 < log2 ∨ 67108864 < base * 512 + 2 ^ log2 then
      (d.opOutcome { code := Code.malformed }).portEnd portTblg Code.malformed
    else { d with rebuild := some (t, opArg o, base, log2) }

/-- R121. -/
def execBloomRebuild (s : State) : Host.Outcome State Fault Refusal := s.become s.dev.startRebuild

/-- The slots of a table that hold good valid entries: its buckets and its overflow ways, whose entries a rebuilt filter must pass
too (R121; log entry 104). -/
def Dev.entriesOf (d : Dev) (t : Nat) : List Nat :=
  let v := d.td t
  let all := (List.range (4 * 2 ^ tdLog2 v)).map (tdBase v * 2 ^ 14 + ·)
    ++ d.ovfTags.filterMap (fun e => match e.2 with
      | some (t', _) => if t' = t then some (d.ovfSlot e.1) else none
      | none => none)
  all.filter (fun s => !d.slotBad s && eValid (d.slotWords s) && eTable (d.slotWords s) == t)

/-- The end of a rebuild walk (R121): the filter holds every entry of the length, and the descriptor names it. With
TBLG_SWEEP_RATE = 0 the walk does not advance. -/
def Dev.endRebuild (d : Dev) : Dev :=
  match d.rebuild with
  | none => d
  | some (t, len, base, log2) =>
    if d.fget Page.tblg Reg.TBLG_SWEEP_RATE_RATE = 0 then d
    else
      let v := d.td t
      let d1 := (d.entriesOf t).foldl (fun (d : Dev) s =>
        let ws := d.slotWords s
        if bits (nth ws 0) 0 8 = len then d.bloomSet v ((eKey ws).take (tdKeyBytes v)) base log2 else d) d
      let l := setBits (setBits (d1.ld t len) 0 17 base) 17 5 log2
      ({ (d1.wset Page.tblg (lenIndex t len) l) with rebuild := none }.opOutcome
        { code := Code.ok, slot := d.fget Page.tblg Reg.TBLG_OP_SLOT_SLOT }).portEnd portTblg Code.ok

/-- R121. -/
def execBloomRebuildEnd (s : State) : Host.Outcome State Fault Refusal := s.become s.dev.endRebuild

/-! ## Learning (R122) -/

/-- A learn is dropped (R122). -/
def Dev.dropLearn (d : Dev) : Dev := (d.count Page.tblg Reg.TBL_LEARN_DROP_CNT).pulse 196

/-- Whether a table takes learns. -/
def Dev.learnable (d : Dev) (t : Nat) : Bool := tdEn (d.td t) && !tdPriv (d.td t) && tdKind (d.td t) == 0 && d.profileGood t

/-- Whether the stamp's slice has reached its table quota. -/
def Dev.stampQuota (d : Dev) (s : Stamp) : Bool :=
  match s with
  | none => false
  | some (n, _) => d.quotaReached n

/-- ACT issues a learn request (R122). -/
def Dev.askLearn (d : Dev) (l : Learn) : Dev :=
  if 4096 ≤ d.learnQ.length ∨ !d.learnable l.table ∨ d.stampQuota l.stamp then d.dropLearn
  else if !d.noteRoom then d.noteHold.dropLearn
  else
    let d1 := { d with learnQ := d.learnQ ++ [l] }
    d1.fset Page.tblg Reg.TBLG_LEARN_DEPTH_DEPTH d1.learnQ.length

/-- The image of a learned entry. -/
def learnImage (l : Learn) : List Nat :=
  let key := bytesWords 10 (cut l.key 0 40)
  key.map (·.toNat) ++ (List.range 4).map (nth l.result)
    ++ [l.table * 2 ^ 18 + stampSlice l.stamp * 2 ^ 4 + b2n (stampMgr l.stamp) * 2 ^ 3, 0]

/-- The learn engine executes the request at the head of its queue (R122). -/
def Dev.executeLearn (d : Dev) : Dev :=
  match d.learnQ with
  | [] => d
  | l :: rest =>
    let d0 := { d with learnQ := rest }.fset Page.tblg Reg.TBLG_LEARN_DEPTH_DEPTH rest.length
    let t := l.table
    let v := d0.td t
    let note := tdLearnNotify v
    if !d0.learnable t then d0.dropLearn
    else
      let f := d0.findKey t l.key
      let d1 := f.2.2
      match f.1 with
      | some c =>
        let ws := d1.slotWords c.slot
        if eStatic ws then d1.count Page.tblg Reg.TBL_LEARN_DROP_CNT
        else if eResult ws = (List.range 4).map (nth l.result) then d1.askRefresh v c
        else if note ∧ !d1.noteRoom then d1.noteHold.dropLearn
        else
          let new := withParity (((ws.take 10) ++ (List.range 4).map (nth l.result)
            ++ [setBits (nth ws 14) 24 8 d1.epoch, nth ws 15]))
          let d2 := (d1.writeSlot c.slot new).count Page.tblg Reg.TBL_LEARN_CNT_CNT
          if note then d2.notify Note.moved t c.slot ws ws (noteOwner ws) else d2
      | none =>
        if d1.stampQuota l.stamp then d1.dropLearn
        else if note ∧ !d1.noteRoom then d1.noteHold.dropLearn
        else
          let image := learnImage l
          let r := d1.insertNew t image l.key (note && decide (255 ≤ d1.noteQ.length)) true
          if r.1.code = Code.resource ∧ note ∧ 255 ≤ d1.noteQ.length then r.2.noteHold.dropLearn
          else if r.1.code ≠ Code.ok then r.2.dropLearn
          else
            let d2 := r.2.count Page.tblg Reg.TBL_LEARN_CNT_CNT
            let before := setBits (setBits 0 0 16 (eGen (d2.slotWords r.1.slot) + 65535)) 31 1 1
            if note then
              d2.notify Note.learned t r.1.slot ((List.replicate 14 0) ++ [d2.epoch * 2 ^ 24, before]) image (noteOwner image)
            else d2

/-- R122. -/
def execLearnExecute (s : State) : Host.Outcome State Fault Refusal := s.become s.dev.executeLearn

/-! ## Ageing (R123) -/

/-- The enabled tables with AGE_EN set, and the banks that serve any of them. -/
def Dev.agedTables (d : Dev) : List Nat := (List.range 64).filter (fun t => tdEn (d.td t) && tdAgeEn (d.td t) && tdKind (d.td t) == 0)
def Dev.agedBanks (d : Dev) : List Nat :=
  (List.range 32).filter (fun b => d.agedTables.any (fun t => bitAt (tdMask (d.td t)) b))

/-- Where a sweep goes after table `t` (the first table from `t` on), or to the overflow sets from bank `b`. -/
def Dev.sweepBank (d : Dev) (b : Nat) : Option SweepAt := (d.agedBanks.find? (fun k => decide (b ≤ k))).map (fun k => .set k 0)
def Dev.sweepTable (d : Dev) (t : Nat) : Option SweepAt :=
  match d.agedTables.find? (fun k => decide (t ≤ k)) with
  | some k => some (.bucket k 0)
  | none => d.sweepBank 0

/-- The next place of a sweep. -/
def Dev.sweepNext (d : Dev) : SweepAt → Option SweepAt
  | .bucket t i => if i + 1 < 2 ^ tdLog2 (d.td t) then some (.bucket t (i + 1)) else d.sweepTable (t + 1)
  | .set b i => if i + 1 < 2048 then some (.set b (i + 1)) else d.sweepBank (b + 1)

/-- Move the sweep to `at_`; a round that has no further place ends (R123, R131). -/
def Dev.setSweep (d : Dev) (at_ : Option SweepAt) : Dev :=
  match at_ with
  | some p =>
    let d1 := { d with sweep := some p }.fset Page.tblg Reg.TBLG_SWEEP_STAT_ACTIVE 1
    (match p with
      | .bucket t _ => d1.fset Page.tblg Reg.TBLG_SWEEP_STAT_TABLE t
      | .set _ _ => d1)
  | none => ({ d with sweep := none }.fset Page.tblg Reg.TBLG_SWEEP_STAT_ACTIVE 0).count Page.tblg Reg.TBLG_SWEEP_STAT_ROUND

/-- EPOCH_ADVANCE (R123): a round that has not ended runs on and is counted late. -/
def Dev.advanceEpoch (d : Dev) : Dev :=
  if d.fget Page.tblg Reg.TBLG_AGE_TICK_MS = 0 then d
  else
    let d1 := d.count Page.tblg Reg.TBLG_EPOCH_EPOCH
    match d1.sweep with
    | some _ =>
      (({ d1 with sweepAgain := true }.count Page.tblg Reg.TBL_SWEEP_LATE_CNT).latchFault Page.tblg
        FaultBit.tblg_SWEEP_LATE).pulse 200
    | none => d1.setSweep (d1.sweepTable 0)

/-- R123. -/
def execEpochAdvance (s : State) : Host.Outcome State Fault Refusal := s.become s.dev.advanceEpoch

/-- The compare-and-clears that a visit to a slot of table `t` asks for (R123). -/
def Dev.agedClears (d : Dev) (slot : Nat) (way : Option Nat) : List AgedClear :=
  let ws := d.slotWords slot
  let v := d.td (eTable ws)
  if !d.slotBad slot ∧ eValid ws ∧ !eStatic ws ∧ tdEn v ∧ tdAgeEn v ∧ tdAgeLimit v ≤ (d.epoch + 256 - eAge ws) % 256 then
    [{ table := eTable ws, slot := slot, way := way, age := eAge ws, gen := eGen ws }]
  else []

/-- A visit of the sweep (R123); it pauses while the notification backlog is full (R127) or the rate is 0 (R131). -/
def Dev.visitSweep (d : Dev) : Dev :=
  match d.sweep with
  | none => d
  | some p =>
    if d.fget Page.tblg Reg.TBLG_SWEEP_RATE_RATE = 0 then d
    else if !d.noteRoom then d.noteHold
    else
      let found := match p with
        | .bucket t i => (bucketSlots (d.td t) i).flatMap (fun s => d.agedClears s none)
        | .set b i =>
          ((List.range 8).map (fun w => b * 16384 + i * 8 + w)).flatMap (fun w =>
            if (d.ovfTag w).isSome && !d.ovfBad.contains w then d.agedClears (d.ovfSlot w) (some w) else [])
      let d1 := { d with clearQ := d.clearQ ++ found }.setSweep (d.sweepNext p)
      if d1.sweep.isNone ∧ d1.sweepAgain then { d1 with sweepAgain := false }.setSweep (d1.sweepTable 0) else d1

/-- R123. -/
def execSweepBucketVisit (s : State) : Host.Outcome State Fault Refusal := s.become s.dev.visitSweep

/-- A compare-and-clear reaches its bank (R123, R124). -/
def Dev.compareClear (d : Dev) : Dev :=
  match d.clearQ with
  | [] => d
  | c :: rest =>
    let ws := d.slotWords c.slot
    let v := d.td c.table
    if tdAgeNotify v ∧ !d.noteRoom then d.noteHold
    else
      let d1 := { d with clearQ := rest }
      if !d1.slotBad c.slot ∧ eValid ws ∧ eAge ws = c.age ∧ eGen ws = c.gen ∧ eTable ws = c.table then
        let d2 := if tdAgeNotify v then d1.notify Note.aged c.table c.slot ws ws (noteOwner ws) else d1
        (d2.clearEntry { slot := c.slot, way := c.way }).count Page.tblg Reg.TBL_AGE_DEL_CNT_CNT
      else
        (d1.count (Page.tbl (d1.bankOfSlot c.table c.slot)) Reg.TBL_AGE_RACE_CNT).wcount Page.tblg 3

/-- R123. -/
def execCompareAndClear (s : State) : Host.Outcome State Fault Refusal := s.become s.dev.compareClear

end Sys2Proof.Machine
end

