-- ==== Sys2Proof/Machine/Actions.lean ====
section
/-!
DEFINITION. The action engine (chapter 6): meters and counters (R147-R150), mirrors and the trace ring (R151-R153), and the
stages of a pass (R138) from the decision to the disposition.
-/

namespace Sys2Proof.Machine

/-! ## Meters (R147, R148) -/

def Dev.meterAddr (d : Dev) (m : Nat) : Nat := bits (d.wget Page.actg 0x13) 0 15 * 2 ^ 20 + m * 64

/-- The PTP time in nanoseconds, with seconds cut to 32 bits (R147). -/
def Dev.ptp32 (d : Dev) : Nat := d.tim.sec % 2 ^ 32 * 1000000000 + d.tim.ns

/-- Even parity over words 0-3 and 15 (R147). -/
def meterParityGood (ws : List Nat) : Bool :=
  ((ws.take 4).map ones).sum % 2 == ones (nth ws 15) % 2

/-- One update of a meter (R148): its colour, whether it asks RED_DROP, and its words after it. -/
def meterUpdate (ws : List Nat) (now len inCol : Nat) (aware : Bool) : Nat × List Nat :=
  let pkt := bitAt (nth ws 15) 0
  let last := nth ws 7 * 1000000000 + bits (nth ws 6) 0 30
  let dt := (now + 2 ^ 64 - last) % 2 ^ 64
  let unit := if pkt then 62500000 else 500000
  let tc := min (bits (nth ws 2) 0 24 * 16) (nth ws 4 + nth ws 0 * dt / unit)
  let tp := min (bits (nth ws 3) 0 24 * 16) (nth ws 5 + nth ws 1 * dt / unit)
  let s := (if pkt then 1 else len) * 16
  let c := if (aware ∧ inCol = red) ∨ tp < s then red
    else if (aware ∧ inCol = yellow) ∨ tc < s then yellow else green
  let tc' := if c = green then tc - s else tc
  let tp' := if c = red then tp else tp - s
  (c, ws.take 4 ++ [tc', tp', now % 1000000000, now / 1000000000]
    ++ (List.range 3).map (fun i => (nth ws (8 + i) + b2n (i == c)) % 2 ^ 32) ++ ws.drop 11)

/-- Write words to a table line. -/
def Dev.gsetWords (d : Dev) (a : Nat) (ws : List Nat) : Dev := d.gwrite a (ws.flatMap (toLe 4))

/-- An uncorrectable meter, counter or template line (R148, R164). -/
def Dev.lineUe (d : Dev) : Dev := d.latchFault Page.actg FaultBit.actg_LINE_UE

/-- Whether ACT may work on a pass: handed to it, ACTG accepts, and a good list has every probe's result, none of them to be
repeated (R112, R115). -/
def Dev.actStarted (d : Dev) (p : Packet) : Bool :=
  p.stage == .acting && d.accepts Page.actg
    && (!d.actsGood (ruleActs p.rule)
      || (List.range (probeTables p.rule).length).all (fun n => (p.probes.getD n none).isSome) && p.touched.isEmpty)

/-- The METER words a pass applies. -/
def Dev.passMeters (d : Dev) (p : Packet) : List (Act × Nat) := d.applied p.probes (ruleActs p.rule) Op.meter

/-- METER_UPDATE: the lane applies the pass's next METER word (R148).  An absent meter, or one whose line cannot be read
correctly, returns its in-colour and updates nothing. -/
def Dev.meterStep (d : Dev) (h : Nat) : Dev :=
  let p := d.packet h
  if !d.actStarted p ∨ !d.actsGood (ruleActs p.rule) then d
  else
    match (d.passMeters p)[p.colours.length]? with
    | none => d
    | some (_, x) =>
      let a := d.meterAddr (bits x 0 20)
      let ws := (d.gwords a 16).map (·.toNat)
      let inCol := d.passColour p
      let bad := d.lineUncorrectable a || (bitAt (nth ws 15) 31 && !meterParityGood ws)
      if bad ∨ !bitAt (nth ws 15) 31 then
        (if bad then d.lineUe else d).modPacket h (fun p => { p with colours := p.colours ++ [inCol] })
      else
        let r := meterUpdate ws d.ptp32 p.lenIn inCol (bitAt x 20)
        (d.gsetWords a r.2).modPacket h (fun p => { p with
          colours := p.colours ++ [r.1], redDrop := p.redDrop || (r.1 == red && bitAt (nth ws 15) 1) })

/-- R148. -/
def execMeterUpdate (packet : Nat) (s : State) : Host.Outcome State Fault Refusal := s.become (s.dev.meterStep packet)

/-! ## Counters (R149) -/

def Dev.counterAddr (d : Dev) (c : Nat) : Nat := bits (d.wget Page.actg 0x12) 0 15 * 2 ^ 20 + c * 16

/-- Add one packet and `n` bytes to counter `c`; a line that cannot be read correctly takes no update. -/
def Dev.counterAdd (d : Dev) (c n : Nat) : Dev :=
  let a := d.counterAddr c
  if d.lineUncorrectable a then d.lineUe else (d.gsetNum a 8 (d.gnum a 8 + 1)).gsetNum (a + 8) 8 (d.gnum (a + 8) 8 + n)

/-- COUNTER_UPDATE: the oldest update on its way to a lane lands (R149). -/
def Dev.counterStep (d : Dev) (lane : Nat) : Dev :=
  match d.counterQ.find? (fun e => e.1 % 16 == lane) with
  | none => d
  | some e => { d with counterQ := d.counterQ.erase e }.counterAdd e.1 e.2

/-- R149. -/
def execCounterUpdate (lane : Nat) (s : State) : Host.Outcome State Fault Refusal := s.become (s.dev.counterStep lane)

/-! ## The ACTG operation port (R150) -/

/-- Put result words into OPRES. -/
def Dev.actgResult (d : Dev) (ws : List Nat) : Dev :=
  (ws.zipIdx).foldl (fun (d : Dev) e => d.fset Page.actg (Reg.ACTG_OPRES_DATA.nth 4 e.2) e.1) d

def opIndex (o : PortOp) : Nat := bits o.word 0 21

/-- A counter as four words. -/
def Dev.counterWords (d : Dev) (c : Nat) : List Nat := (d.gwords (d.counterAddr c) 4).map (·.toNat)

/-- R150. -/
def execCntRead (s : State) : Host.Outcome State Fault Refusal :=
  s.become (s.dev.portExec portActg 1 (fun d o => (Code.ok, d.actgResult (d.counterWords (opIndex o)))))

/-- R150: read, then zero, in one lane cycle. -/
def execCntReadClear (s : State) : Host.Outcome State Fault Refusal :=
  s.become (s.dev.portExec portActg 2 (fun d o =>
    (Code.ok, (d.actgResult (d.counterWords (opIndex o))).gsetWords (d.counterAddr (opIndex o)) [0, 0, 0, 0])))

/-- R150. -/
def execCntPreset (s : State) : Host.Outcome State Fault Refusal :=
  s.become (s.dev.portExec portActg 3 (fun d o =>
    (Code.ok, d.gsetWords (d.counterAddr (opIndex o)) ((List.range 4).map (wordAt o.buf)))))

/-- The image of METER_WRITE is in range (R147). -/
def meterImageGood (o : PortOp) : Bool :=
  let w := wordAt o.buf
  decide (opIndex o < 2 ^ 20) && decide (w 0 ≤ w 1) && decide (1 ≤ w 2) && decide (w 2 ≤ w 3) && decide (w 3 < 2 ^ 24)
    && bits (w 15) 2 28 == 0

/-- Words 0-3 and 15 with the parity that hardware keeps (R147). -/
def meterWord15 (ws : List Nat) (w15 : Nat) : Nat :=
  let w := setBits w15 30 1 0
  setBits w 30 1 ((((ws.take 4).map ones).sum + ones w) % 2)

/-- METER_WRITE (R150). -/
def Dev.meterWrite (d : Dev) (o : PortOp) : Nat × Dev :=
  if !meterImageGood o then (Code.malformed, d)
  else
    let ws := (List.range 4).map (wordAt o.buf)
    let image := ws ++ [16 * nth ws 2, 16 * nth ws 3, d.ptp32 % 1000000000, d.ptp32 / 1000000000] ++ List.replicate 7 0
      ++ [meterWord15 ws (wordAt o.buf 15)]
    (Code.ok, d.gsetWords (d.meterAddr (opIndex o)) image)

/-- R150. -/
def execMeterWrite (s : State) : Host.Outcome State Fault Refusal := s.become (s.dev.portExec portActg 4 Dev.meterWrite)

/-- R150. -/
def execMeterRead (s : State) : Host.Outcome State Fault Refusal :=
  s.become (s.dev.portExec portActg 5 (fun d o =>
    if opIndex o < 2 ^ 20 then (Code.ok, d.actgResult ((d.gwords (d.meterAddr (opIndex o)) 16).map (·.toNat)))
    else (Code.malformed, d)))

/-- METER_DISABLE (R150). -/
def Dev.meterDisable (d : Dev) (o : PortOp) : Nat × Dev :=
  if 2 ^ 20 ≤ opIndex o then (Code.malformed, d)
  else
    let a := d.meterAddr (opIndex o)
    let ws := (d.gwords a 16).map (·.toNat)
    (Code.ok, d.gsetWord (a + 60) (meterWord15 ws (setBits (nth ws 15) 31 1 0)))

/-- R150. -/
def execMeterDisable (s : State) : Host.Outcome State Fault Refusal := s.become (s.dev.portExec portActg 6 Dev.meterDisable)

/-! ## Trace ring (R153) -/

/-- SIZE_LOG2 of the trace ring in slots. -/
def Dev.traceSize (d : Dev) : Nat := 2 ^ d.fget Page.actg Reg.ACTG_TRACE_CTL_SIZE_LOG2

/-- The record at the head of the backlog is written while the ring is enabled and not full (R153, R125). -/
def Dev.traceRecord (d : Dev) : Dev :=
  match d.traceQ with
  | [] => d
  | words :: rest =>
    let prod := d.fget Page.actg Reg.ACTG_TRACE_PROD_PROD
    let cons := d.fget Page.actg Reg.ACTG_TRACE_CONS_CONS
    let n := d.traceSize
    if !d.fbit Page.actg Reg.ACTG_TRACE_CTL_ENABLE ∨ (prod + 2 ^ 32 - cons) % 2 ^ 32 = n ∨ !d.hostReady 0 then d
    else
      let phase := if prod / n % 2 = 0 then 2 ^ 31 else 0
      let image := ((nth words 0 + phase) :: words.drop 1).flatMap (toLe 4)
      let d1 := { d with traceQ := rest }.hwrite 0 (d.wget Page.actg 0x10 + prod % n * 192) image {}
      (d1.fset Page.actg Reg.ACTG_TRACE_PROD_PROD (prod + 1)).pulse 212

/-- R153, R154. -/
def execTraceRecordWrite (s : State) : Host.Outcome State Fault Refusal := s.become s.dev.traceRecord

/-- A write of ACTG_TRACE_CONS (R153). -/
def Dev.writeTraceCons (d : Dev) (v : Nat) : Dev :=
  if (d.fget Page.actg Reg.ACTG_TRACE_PROD_PROD + 2 ^ 32 - v) % 2 ^ 32 ≤ d.traceSize then
    d.fset Page.actg Reg.ACTG_TRACE_CONS_CONS v
  else d.accessFault Page.actg

/-- R153. -/
def execTraceConsWrite (req : Requester) (value : Word) (s : State) : Host.Outcome State Fault Refusal :=
  s.become (s.dev.onWrite req (Page.actg + Reg.ACTG_TRACE_CONS_CONS.off) (·.writeTraceCons value.toNat))

/-! ## Copies -/

/-- Whether a copy may go to `dest` (FWD operand form) under the packet's tenant-clear mark (R218). -/
def Dev.clearAllows (d : Dev) (clear : Option Nat) (dest : Nat) : Bool :=
  match clear with
  | none => true
  | some s =>
    let id := bits dest 0 16
    let kind := bits dest 19 2
    if kind = 1 then !d.qManager id && d.qSlice id == s && (d.queue id).state != .free
    else if kind = 2 then bits dest 0 12 == s
    else kind == 3 && d.sesOwnedBy id s

/-- Make a copy whose bytes need `need` new on-die cells of its own; none: the cells are not free, and ACT waits (R160).  A copy that the
tenant-clear mark bars is discarded as CLEAR_DEST (R218). -/
def Dev.makeCopy (d : Dev) (c : Copy) (need : Nat) : Option Dev :=
  if !d.clearAllows (d.packet c.packet).clear c.dest then some (d.sxpDiscard 13)
  else if d.freeDie < need then none
  else
    let r := d.allocCells need
    some (r.2.addCopy { c with own := r.1 })

/-- A packet whose last pass has ended with no copy left ends as dropped for `reason`. -/
def Dev.endEmpty (d : Dev) (h reason : Nat) : Dev :=
  if (d.packet h).copies = 0 ∧ (d.packet h).stage = .leaving then (d.traceWrite h 3 reason).retire h else d

/-- New cells for bytes that differ from the held packet's: a head cell and the growth (R160). -/
def Packet.newCells (p : Packet) (bs : List Byte) : Nat :=
  if bs = p.bytes ∨ bs = p.bytes.take bs.length then 0 else 1 + (cellsOf bs.length - cellsOf p.bytes.length)

/-- The received FCS that a held wire packet ends in (R140), and the bytes before it. -/
def Packet.fcsLen (p : Packet) : Nat := if p.srcKind = 0 then 4 else 0
def Packet.fcs (p : Packet) (bs : List Byte) : List Byte := bs.drop (bs.length - p.fcsLen)
def Packet.body (p : Packet) (bs : List Byte) : List Byte := bs.take (bs.length - p.fcsLen)

/-! ## Templates (R142) -/

/-- Template `i`; none when a line of it cannot be read correctly or it is absent. -/
def Dev.template (d : Dev) (i : Nat) : Option Template :=
  let a := bits (d.wget Page.actg 0x11) 0 15 * 2 ^ 20 + i * 192
  let t : Template := { words := (d.gwords a 16).map (·.toNat), bytes := d.gread (a + 64) 128 }
  if d.lineUncorrectable a || d.lineUncorrectable (a + 64) || d.lineUncorrectable (a + 128) || !t.good then none else some t

/-- An absent template was used (R142). -/
def Dev.templateAbsent (d : Dev) (i : Nat) : Dev :=
  let a := bits (d.wget Page.actg 0x11) 0 15 * 2 ^ 20 + i * 192
  let d1 := if d.lineUncorrectable a || d.lineUncorrectable (a + 64) || d.lineUncorrectable (a + 128) then d.lineUe else d
  (d1.latchFault Page.actg FaultBit.actg_TMPL_ABSENT).pulse 220

/-- Whether an encapsulation takes an identification (R143). -/
def Template.takesId (t : Template) : Bool := t.hasIp && !t.v6 && !t.keepId
def Dev.advanceId (d : Dev) (n : Nat) : Dev := { d with encapId := (d.encapId + n) % 65536 }

/-! ## Mirrors (R151) -/

/-- Session descriptors. -/
def Dev.session (d : Dev) (s : Nat) : Nat := d.wget Page.actg (0x200 + s)
def ssEn (v : Nat) : Bool := bitAt v 0
def ssCopy (v : Nat) : Bool := bitAt v 1
def ssTrace (v : Nat) : Bool := bitAt v 2
def ssPoint (v : Nat) : Bool := bitAt v 3
def ssEncap (v : Nat) : Bool := bitAt v 4
def ssRate (v : Nat) : Nat := bits v 8 24
def ssTrunc (v : Nat) : Nat := bits v 32 16
def ssDest (v : Nat) : Nat := bits v 64 21
def ssTmpl (v : Nat) : Nat := bits v 96 18

/-- A sampler's draw (R151, R152): selected with probability 1/`rate`; 0 selects none. -/
def Dev.sample (d : Dev) (rate : Nat) : Bool × Dev :=
  if rate = 0 then (false, d) else (d.fresh.1 % rate == 0, d.fresh.2)

/-- Count one half of a session's statistics (R165): 0 selected, 1 suppressed. -/
def Dev.countSession (d : Dev) (s half : Nat) : Dev :=
  let v := d.wget Page.actg (0x100 + s)
  d.wset Page.actg (0x100 + s) (setBits v (64 * half) 64 (bits v (64 * half) 64 + 1))

/-- A mirror destination is a queue of the slice itself (R151). -/
def Dev.ownQueue (d : Dev) (dest s : Nat) : Bool :=
  if bits dest 19 2 = 1 then !d.qManager (bits dest 0 16) && d.qSlice (bits dest 0 16) == s
    && (d.queue (bits dest 0 16)).state != .free
  else bits dest 19 2 == 2 && bits dest 0 12 == s

/-- A confidentially bound packet makes no copy to `dest` (R151). -/
def Dev.mirrorBarred (d : Dev) (p : Packet) (dest : Nat) : Bool :=
  match p.stamp with
  | none => false
  | some (s, _) => (d.slice s).isLocked && !d.ownQueue dest s

/-- The mirror copy of session `s` from `bytes` (R151): cut, encapsulated, suppressed or dropped; none: ACT waits. -/
def Dev.mirrorCopy (d : Dev) (h s : Nat) (bytes : List Byte) (l3 : Option Nat) : Option Dev :=
  let p := d.packet h
  let v := d.session s
  if !ssCopy v then some d
  else if d.mirrorBarred p (ssDest v) then some ((d.countSession s 1).confRefused ((p.stamp.map (·.1)).getD 0))
  else
    let cutting := ssTrunc v ≠ 0 ∧ ssTrunc v < bytes.length
    let held := if cutting then bytes.take (ssTrunc v) else bytes
    let copy (bs : List Byte) (fcs : Bool) : Copy := {
      packet := h, gen := p.gen, bytes := bs, fcs := fcs, dest := ssDest v, colour := d.passColour p, mirror := true
      macsec := p.macsec }
    let hasFcs := p.srcKind == 0 && !cutting
    if !ssEncap v then d.makeCopy (copy held hasFcs) (p.newCells held)
    else
      match if p.noTemplate then none else d.template (ssTmpl v) with
      | none => some ((d.templateAbsent (ssTmpl v)).countDrop Drop.tmplAbsent)
      | some t =>
        let body := if hasFcs then p.body held else held
        match ({ bytes := body : Edit }).encap t p.md l3 true d.encapId with
        | .error _ => some (d.countDrop Drop.editRange)
        | .ok e =>
          let bs := e.bytes ++ (if hasFcs then p.fcs held else [])
          ((if t.takesId then d.advanceId 1 else d).makeCopy (copy bs hasFcs) (1 + (cellsOf bs.length - cellsOf held.length)))

/-- The mirror copies of a list of sessions. -/
def Dev.mirrorCopies (d : Dev) (h : Nat) (bytes : List Byte) (l3 : Option Nat) : List Nat → Option Dev
  | [] => some d
  | s :: rest =>
    match d.mirrorCopy h s bytes l3 with
    | none => none
    | some d1 => d1.mirrorCopies h bytes l3 rest

/-- The MIRROR samplers draw (R138, R151, R152): the sessions that select the pass; a session with TRACE traces it. -/
def Dev.drawMirrors (d : Dev) (h : Nat) : List Nat → List Nat × Dev
  | [] => ([], d)
  | s :: rest =>
    let r := d.sample (ssRate (d.session s))
    if !r.1 then r.2.drawMirrors h rest
    else
      let d1 := r.2.countSession s 0
      let d2 := if ssTrace (d.session s) then
          d1.modPacket h (fun p => { p with traceSession := some (p.traceSession.getD s) })
        else d1
      let q := d2.drawMirrors h rest
      (s :: q.1, q.2)

/-! ## Edits (stages 5-10) -/

/-- The edit stages of a pass: the segments, the APPLIED and SKIPPED marks, outer CE over inner Not-ECT seen, identifications
taken, and the drop reason once an edit fails. -/
structure EditRun where
  segs : List Edit
  applied : Nat := 0
  skipped : Nat := 0
  ce : Nat := 0
  idents : Nat := 0
  fail : Option Nat := none
  deriving DecidableEq, Repr

def EditFail.reason : EditFail → Nat
  | .range => Drop.editRange
  | .ttl => Drop.ttlExpired
  | .seg => Drop.segErr

/-- Apply `f` to every segment with its number. -/
def mapSegs (f : Nat → Edit → Except EditFail Edit) : Nat → List Edit → Except EditFail (List Edit)
  | _, [] => .ok []
  | i, e :: rest =>
    match f i e with
    | .error r => .error r
    | .ok e1 =>
      match mapSegs f (i + 1) rest with
      | .error r => .error r
      | .ok es => .ok (e1 :: es)

/-- A word of the edit stages: skipped on an indirect miss or after a drop (R154), otherwise `f` with its operand. -/
def Dev.runWord (d : Dev) (p : Packet) (f : Act → Nat → EditRun → EditRun) (r : EditRun) (a : Act) : EditRun :=
  match d.operandOf p.probes a with
  | none => { r with skipped := r.skipped + a.mark }
  | some x => if r.fail.isSome then { r with skipped := r.skipped + a.mark } else f a x r

/-- A word that edits each segment. -/
def EditRun.each (f : Nat → Edit → Except EditFail Edit) (a : Act) (r : EditRun) : EditRun :=
  match mapSegs f 0 r.segs with
  | .error e => { r with fail := some e.reason }
  | .ok es => { r with segs := es, applied := r.applied + a.mark }

def EditRun.first (r : EditRun) : Edit := r.segs.headD { bytes := [] }

def runDecap (md : List Byte) (a : Act) (x : Nat) (r : EditRun) : EditRun :=
  match r.first.decap md x with
  | .error e => { r with fail := some e.reason }
  | .ok (ce, e) => { r with segs := [e], ce := r.ce + b2n ce, applied := r.applied + a.mark }

def runTagPop (a : Act) (x : Nat) (r : EditRun) : EditRun :=
  match r.first.tagPop x with
  | .error e => { r with fail := some e.reason }
  | .ok (true, e) => { r with segs := [e], applied := r.applied + a.mark }
  | .ok (false, e) => { r with segs := [e], skipped := r.skipped + a.mark }

def runField (p : Packet) (a : Act) (x : Nat) (r : EditRun) : EditRun :=
  r.each (fun _ e => if a.op = Op.set then e.set p.md x (a.setValue p.probes) else e.ttlDec p.md x) a

def runSegment (p : Packet) (l3 : Nat) (a : Act) (x : Nat) (r : EditRun) : EditRun :=
  let mss := if bits x 0 16 ≠ 0 then bits x 0 16 else if p.srcKind = 0 then 0 else p.mss
  match r.first.segment (mapOffset r.first.moves l3) (bitAt x 20) mss with
  | .error e => { r with fail := some e.reason }
  | .ok none => { r with skipped := r.skipped + a.mark }
  | .ok (some es) => { r with segs := es, applied := r.applied + a.mark }

def runTagPush (a : Act) (x : Nat) (r : EditRun) : EditRun := r.each (fun _ e => e.tagPush x) a

def runEncap (tmpl : Option Template) (md : List Byte) (l3 ident : Nat) (a : Act) (_x : Nat) (r : EditRun) : EditRun :=
  match tmpl with
  | none => { r with fail := some Drop.tmplAbsent }
  | some t =>
    let r1 := r.each (fun i e => e.encap t md (mapOffset e.moves l3) false (ident + i)) a
    if t.takesId ∧ r1.fail = none then { r1 with idents := r1.segs.length } else r1

/-- The words of some opcodes, in word order. -/
def wordsOf (acts : List Act) (ops : List Nat) : List Act := acts.filter (fun a => ops.contains a.op)

/-- Stages 5 to 10 of a pass (R138); `abandon`: its template read was abandoned (R142). -/
def Dev.editStages (d : Dev) (p : Packet) (acts : List Act) (abandon : Bool) : EditRun :=
  let l3 := moff p.md (d.fget Page.actg Reg.ACTG_LAYOUT_L3_MOFF)
  let tmpl := match wordsOf acts [Op.encap] with
    | [] => none
    | a :: _ => if abandon then none else match d.operandOf p.probes a with
      | some x => d.template (bits x 0 18)
      | none => none
  let run f r ops := (wordsOf acts ops).foldl (d.runWord p f) r
  let r5 := run (runDecap p.md) { segs := [{ bytes := p.body p.bytes }] } [Op.decap]
  let r6 := run runTagPop r5 [Op.tagPop]
  let r7 := run (runField p) r6 [Op.set, Op.ttlDec]
  let r8 := run (runSegment p l3) r7 [Op.segment]
  let r9 := run runTagPush r8 [Op.tagPush]
  run (runEncap tmpl p.md l3 d.encapId) r9 [Op.encap]

/-! ## Disposition (stages 12 and 13) -/

/-- A reheat (R68, R98): the packet as edited is queued for dispatch with its pass number raised by one. -/
def Dev.reheat (d : Dev) (h hint : Nat) (bytes : List Byte) : Option Dev :=
  let p := d.packet h
  let need := p.newCells bytes
  if d.freeDie < need then none
  else
    let d1 := d.modPacket h (fun p => { p with actedAt := d.now, lenOut := bytes.length })
    let d2 := d1.traceWrite h 1 0
    let r := d2.allocCells need
    some ((r.2.modPacket h (fun p => { p with
      bytes := bytes, extra := p.extra ++ r.1, pass := p.pass + 1, hintWord := hint, segments := [], traceSession := none
      mirrors := [] })).queueReheat h)

/-- A segment that reheats on its own (R138, R146): a packet of the same source, stamp and batch with a head cell of its own, whose
payload stays in the cells of packet `h`, as whose copy it counts (log entry 105). -/
def Dev.reheatSegment (d : Dev) (h hint : Nat) (s : Segment) (last : Bool) : Option Dev :=
  let p := d.packet h
  if d.freeDie < s.heads then none
  else
    let r := d.allocCells s.heads
    let head := (r.1.headD (0, 0)).1
    let gen := Sparse.get (blank 0) r.2.headGen head + 1
    let d1 := ({ r.2 with headGen := Sparse.set (blank 0) r.2.headGen head gen }).modPacket h (fun p =>
      { p with copies := p.copies + 1 })
    some ((d1.setPacket head { p with
      gen := gen, bytes := s.bytes, cells := r.1, deepCells := [], extra := [], pool := none, parent := some h, copies := 0
      anyLeft := false, pass := p.pass + 1, hintWord := hint, segments := [], traceSession := none, mirrors := []
      wantTime := p.wantTime && last }).queueReheat head)

/-- Every segment reheats on its own. -/
def Dev.reheatSegments (d : Dev) (h hint : Nat) : List Segment → Option Dev
  | [] => some d
  | s :: rest =>
    match d.reheatSegment h hint s rest.isEmpty with
    | none => none
    | some d1 => d1.reheatSegments h hint rest

/-- A reheat of a segmented packet: its PASS record is written, and it ends with the last of its segments (R94, R152). -/
def Dev.reheatSplit (d : Dev) (h hint : Nat) (segs : List Segment) : Option Dev :=
  let d1 := d.modPacket h (fun p => { p with actedAt := d.now, lenOut := (segs.headD { bytes := [] }).bytes.length })
  ((d1.traceWrite h 1 0).reheatSegments h hint segs).map (fun d =>
    d.modPacket h (fun p => { p with stage := .leaving, split := true, wantTime := false }))

/-- The forwarded copies, one per segment (R16, R146). -/
def Dev.forward (d : Dev) (h dest : Nat) : List Segment → Option Dev
  | [] => some (d.endEmpty h Drop.lehr)
  | s :: rest =>
    let p := d.packet h
    let c : Copy := {
      packet := h, gen := p.gen, bytes := s.bytes, fcs := p.srcKind == 0, dest := dest, colour := d.passColour p
      wantTime := p.wantTime && rest.isEmpty, tag := p.tag, oneStep := p.oneStep, macsec := p.macsec }
    match d.makeCopy c (if s.heads = 0 then p.newCells s.bytes else s.heads) with
    | none => none
    | some d1 => d1.forward h dest rest

/-- Stages 12 and 13 for the segments that are left (R138): the copies at POINT 0, then reheat, forward, or NO_DEST. -/
def Dev.finishPass (d0 : Dev) (h : Nat) : Option Dev :=
  let p := d0.packet h
  let acts := ruleActs p.rule
  let segs := (p.segments.filter (fun s => s.cipher != 4)).map (fun s => { s with bytes := s.bytes ++ p.fcs p.bytes })
  match segs with
  | [] => some ((d0.traceWrite h 3 Drop.lehr).modPacket h (fun p => { p with stage := .leaving, recorded := p.copies != 0 })
      |> fun d => if (d.packet h).copies = 0 then d.retire h else d.departCounts (d0.packet h))
  | first :: _ =>
    match d0.mirrorCopies h first.bytes p.l3At p.mirrors with
    | none => none
    | some d =>
      let fwd := wordsOf acts [Op.fwd]
      match wordsOf acts [Op.reheat] with
      | a :: _ =>
        let d1 := d.modPacket h (fun p => { p with
          applied := p.applied + a.mark, skipped := p.skipped + (fwd.map Act.mark).sum })
        if first.heads = 0 then d1.reheat h (bits a.operand 0 8) first.bytes else d1.reheatSplit h (bits a.operand 0 8) segs
      | [] =>
        match fwd with
        | [] => some ((d.modPacket h (fun p => { p with actedAt := d.now })).dropPacket h Drop.noDest)
        | a :: _ =>
          match d.operandOf p.probes a with
          | none => some ((d.modPacket h (fun p => { p with actedAt := d.now, skipped := p.skipped + a.mark })).dropPacket h
              Drop.noDest)
          | some x =>
            (d.modPacket h (fun p => { p with
              applied := p.applied + a.mark, actedAt := d.now, lenOut := first.bytes.length, dest := some x
              stage := .leaving })).forward h x segs

/-! ## The pass -/

/-- A pass without a malformed list has been applied (R165). -/
def Dev.passApplied (d : Dev) : Dev := d.wcount Page.actg 1

/-- Marks of applied and of skipped words among `acts`. -/
def Dev.marks (d : Dev) (p : Packet) (acts : List Act) : Nat × Nat :=
  (((acts.filter (fun a => (d.operandOf p.probes a).isSome)).map Act.mark).sum,
    ((acts.filter (fun a => (d.operandOf p.probes a).isNone)).map Act.mark).sum)

/-- Add marks to a packet. -/
def Dev.mark (d : Dev) (h : Nat) (m : Nat × Nat) : Dev :=
  d.modPacket h (fun p => { p with applied := p.applied + m.1, skipped := p.skipped + m.2 })

/-- Drop the packet at a stage of its pass, with the words after it marked skipped (R154). -/
def Dev.dropAt (d : Dev) (h reason : Nat) (later : List Act) : Dev :=
  ((d.mark h (0, (later.map Act.mark).sum)).modPacket h (fun p => { p with actedAt := d.now })).passApplied.dropPacket h reason

/-- The global sampler draws when pass 0 reaches stage 3 (R152). -/
def Dev.drawGlobal (d : Dev) (h : Nat) : Dev :=
  if (d.packet h).pass ≠ 0 then d
  else
    let r := d.sample (d.fget Page.actg Reg.ACTG_TRACE_RATE_N)
    if r.1 then r.2.modPacket h (fun p => { p with traceGlobal := true }) else r.2

/-- LEARN at stage 4 (R122). -/
def Dev.learnWord (d : Dev) (p : Packet) (a : Act) : Dev :=
  let t := bits a.operand 15 6
  let roff := bits a.operand 8 7
  d.askLearn {
    table := t, key := d.emKey t p.md, result := (List.range 4).map (fun k => ofBe (cut p.md (roff + 4 * k) 4)), stamp := p.stamp }

/-- CIPHER (R205): SXP is asked to protect or verify every segment of the packet under the named SA. -/
def Dev.askCipher (d : Dev) (h x : Nat) : Dev :=
  let p := d.packet h
  let reqs := p.segments.zipIdx.map (fun e => {
    src := .packet h p.gen e.2, sa := bits x 0 20, dir := bits x 20 1, bytes := e.1.bytes : SxpReq })
  { d with sxp := { d.sxp with queue := d.sxp.queue ++ reqs } }

/-- Stages 5 onward (R138): edits, CIPHER, disposition. -/
def Dev.lateStages (d : Dev) (h : Nat) (acts : List Act) (abandon : Bool) : Option Dev :=
  let p := d.packet h
  let r := d.editStages p acts abandon
  let d1 := ((d.mark h (r.applied, r.skipped)).wcount Page.actg 3 r.ce).advanceId r.idents
  match r.fail with
  | some reason =>
    let d2 := if reason = Drop.tmplAbsent then
        d1.templateAbsent (((d.applied p.probes acts Op.encap).map (·.2)).headD 0)
      else d1
    some (d2.dropAt h reason (wordsOf acts [Op.cipher, Op.fwd, Op.reheat]))
  | none =>
    let l3 := mapOffset r.first.moves (moff p.md (d.fget Page.actg Reg.ACTG_LAYOUT_L3_MOFF))
    let d2 := d1.passApplied.modPacket h (fun p => { p with
      segments := r.segs.map (fun e => { bytes := e.bytes, heads := e.heads }), l3At := l3 })
    let c := wordsOf acts [Op.cipher]
    let d3 := d2.mark h (d.marks p c)
    match d.applied p.probes acts Op.cipher with
    | [] => d3.finishPass h
    | (_, x) :: _ => some ((d3.setStage h .cipher).askCipher h x)

/-- ACTION_APPLY (R137, R138); none: ACT waits for head cells (R160). -/
def Dev.applyPass (d : Dev) (h : Nat) (abandon : Bool) : Option Dev :=
  let p := d.packet h
  let acts := ruleActs p.rule
  if !d.actsGood acts then
    some ((((d.latchFault Page.actg FaultBit.actg_ACT_MALFORMED).pulse 219).modPacket h (fun p => { p with
      actedAt := d.now })).dropPacket h Drop.actMalformed)
  else
    let early := wordsOf acts [Op.nop, Op.probe, Op.meter, Op.count]
    let counts := (d.applied p.probes acts Op.count).map (fun e => (e.2, p.lenIn))
    let d1 := { d with counterQ := d.counterQ ++ counts }.mark h (d.marks p early)
    let late := wordsOf acts [Op.learn, Op.decap, Op.tagPop, Op.set, Op.ttlDec, Op.segment, Op.tagPush, Op.encap, Op.cipher,
      Op.fwd, Op.reheat]
    if p.pass = 3 ∧ actCount acts Op.reheat ≠ 0 then
      some (((d1.count Page.clsg Reg.CLS_REHEAT_LIMIT_DROP_CNT).pulse 180).dropAt h Drop.reheatLimit
        (late ++ wordsOf acts [Op.mirror, Op.drop]))
    else
      let d2 := d1.drawGlobal h
      let named := d2.applied p.probes acts Op.mirror
      let live := named.filter (fun e => ssEn (d2.session (bits e.2 0 8)))
      let dead := (wordsOf acts [Op.mirror]).filter (fun a => !(live.map (·.1)).contains a)
      let d3 := d2.mark h ((live.map (fun e => e.1.mark)).sum, (dead.map Act.mark).sum)
      let r := d3.drawMirrors h (live.map (fun e => bits e.2 0 8))
      let l3 := some (moff p.md (d.fget Page.actg Reg.ACTG_LAYOUT_L3_MOFF))
      match r.2.mirrorCopies h p.bytes l3 (r.1.filter (fun s => ssPoint (d.session s))) with
      | none => none
      | some d4 =>
        let d5 := (d4.modPacket h (fun p => { p with mirrors := r.1.filter (fun s => !ssPoint (d.session s)) })).mark h
          (d.marks p (wordsOf acts [Op.drop]))
        if actCount acts Op.drop ≠ 0 then some (d5.dropAt h Drop.rule late)
        else if p.redDrop then some (d5.dropAt h Drop.meterRed late)
        else
          let learns := wordsOf acts [Op.learn]
          let d6 := (learns.foldl (fun (d : Dev) a => d.learnWord p a) d5).mark h (d.marks p learns)
          d6.lateStages h acts abandon

/-- Whether every METER word of a pass has been applied. -/
def Dev.metersDone (d : Dev) (p : Packet) : Bool :=
  !d.actsGood (ruleActs p.rule) || p.colours.length == (d.passMeters p).length

/-- Whether a packet that arrived earlier from the same source is at ACT in the same pass: ACT keeps their order (R19). -/
def Dev.hasEarlier (d : Dev) (h : Nat) : Bool :=
  let p := d.packet h
  d.packets.any (fun e => e.1 != h && e.2.source == p.source && e.2.pass == p.pass && decide (e.2.seq < p.seq)
    && e.2.stage == .acting)

/-- Whether ACT can apply the pass at hand: its probes and meters are in, and it is its turn. -/
def Dev.actReady (d : Dev) (h : Nat) : Bool :=
  d.actStarted (d.packet h) && d.metersDone (d.packet h) && !d.hasEarlier h

/-- ACT applies the pass at hand. -/
def Dev.applyActions (d : Dev) (h : Nat) : Dev := if d.actReady h then (d.applyPass h false).getD d else d

/-- R137, R138. -/
def execActionApply (packet : Nat) (s : State) : Host.Outcome State Fault Refusal := s.become (s.dev.applyActions packet)

/-- A template read of the pass at hand is abandoned (R142): the one of its ENCAP word, of its mirror copies, or both; where it asks
for both kinds, which read is late is left open (log entry 106).  The pass is carried out with those templates absent. -/
def Dev.abandonTemplate (d : Dev) (h : Nat) : Dev :=
  let p := d.packet h
  let word := !(d.applied p.probes (ruleActs p.rule) Op.encap).isEmpty
  let copy := (d.applied p.probes (ruleActs p.rule) Op.mirror).any (fun e =>
    let v := d.session (bits e.2 0 8)
    ssEn v && ssCopy v && ssEncap v)
  if d.actReady h ∧ (word ∨ copy) then
    let r := if word ∧ copy then d.fresh else (if word then 0 else 1, d)
    ((if r.1 % 3 = 0 then r.2 else r.2.modPacket h (fun p => { p with noTemplate := true })).applyPass h (r.1 % 3 != 1)).getD d
  else d

/-- R142. -/
def execTemplateReadAbandon (packet : Nat) (s : State) : Host.Outcome State Fault Refusal :=
  s.become (s.dev.abandonTemplate packet)

end Sys2Proof.Machine
end

