-- ==== Sys2Proof/Machine/EventFabric.lean ====
section
/-!
DEFINITION. Meanings of the event-fabric commands (chapter 15).
-/

namespace Sys2Proof.Machine

/-- R354, R360: a Pulse source pulses; a Level source follows its condition; a reserved source is never asserted. -/
def execEventSourceAssert (source : Nat) (s : State) : Host.Outcome State Fault Refusal :=
  s.become (if isLevel source then s.dev.refreshLevel source else s.dev.pulse source)

/-- Clear PEND for every 1 of `mask` in word `word` (R360). -/
def Dev.clearPendWord (d : Dev) (word : Nat) (mask : Word) : Dev :=
  (List.range 32).foldl (fun (d : Dev) i => if mask.getLsbD i then d.clearPend (32 * word + i) else d) d

/-- R360, R368: a W1C write of EVT_PEND`word`. -/
def execPendClear (req : Requester) (word : Nat) (mask : Word) (s : State) : Host.Outcome State Fault Refusal :=
  s.become (s.dev.onWrite req (Page.evtState + 0x140 + 4 * word)
    (fun d => if word < 16 then d.clearPendWord word mask else d))

/-- MASK = 0 written to a source's route (R361): a set PEND is delivered once. -/
def Dev.unmaskRoute (d : Dev) (n : Nat) : Dev :=
  if d.masked n then (d.fset (routePage n) (routeFld Reg.EVT_RTB_MASK n) 0).deliverPending n else d

/-- R361. -/
def execRouteUnmask (req : Requester) (source : Nat) (s : State) : Host.Outcome State Fault Refusal :=
  s.become (s.dev.onWrite req (routePage source + (routeFld Reg.EVT_RTB_MASK source).off)
    (fun d => if source < 512 then d.unmaskRoute source else d))

/-- EVTG_SWSET (R368): bit n pulses source 16 + n. -/
def Dev.softwareEvents (d : Dev) (events : BitVec 16) : Dev :=
  (List.range 16).foldl (fun (d : Dev) i => if events.getLsbD i then d.pulse (16 + i) else d) d

/-- R368. -/
def execSoftwareEvent (req : Requester) (events : BitVec 16) (s : State) : Host.Outcome State Fault Refusal :=
  s.become (s.dev.onWrite req (Page.evtg + Reg.EVTG_SWSET_SW.off) (·.softwareEvents events))

/-! ## Board inputs -/

def binCfg (f : Fld) (n : Nat) : Fld := f.nth 8 n
def binStuckFld (n : Nat) : Fld := ⟨Reg.EVT_BIN_STAT_STUCK.off, 4 + n, 1⟩

/-- Whether an activation now falls within HOLDOFF µs of the last accepted one (R364). -/
def Dev.inHoldoff (d : Dev) (n : Nat) : Bool :=
  match (d.bin n).lastAccepted with
  | none => false
  | some t => decide (d.now < t + d.fget Page.evtAon (binCfg Reg.EVT_BIN_CFG_HOLDOFF n) * 1000)

/-- The conditioned level of BIN`n` becomes active (R364, R365): accepted, ignored in hold-off, or neither while the
input is masked as stuck or not yet re-armed. -/
def Dev.binActivate (d : Dev) (n : Nat) : Dev :=
  let b := d.bin n
  if b.active then d
  else if d.fbit Page.evtAon (binStuckFld n) ∨ b.needsInactive then d.setBin n { b with active := true }
  else if d.inHoldoff n then
    (d.setBin n { b with active := true }).count Page.evtAon Reg.EVT_BIN_HOLD_CNT_CNT
  else
    (d.setBin n { b with active := true, lastAccepted := some d.now, timing := true }).pulse (496 + n)

/-- R364. -/
def execBinActivation (input : Nat) (s : State) : Host.Outcome State Fault Refusal :=
  s.become (if input < 4 then s.dev.binActivate input else s.dev)

/-- The conditioned level has stayed active for STUCK ms since it was accepted; STUCK = 0 disables the check (R365). -/
def Dev.binStick (d : Dev) (n : Nat) : Dev :=
  let b := d.bin n
  if b.active ∧ b.timing ∧ d.fget Page.evtAon (binCfg Reg.EVT_BIN_STUCK_STUCK n) ≠ 0 then
    let d1 := (d.setBin n { b with timing := false, needsInactive := true }).fset Page.evtAon (binStuckFld n) 1
    (d1.pulse (500 + n)).latchFault Page.evtAon FaultBit.evtAon_BIN_STUCK
  else d

/-- R365. -/
def execBinStuck (input : Nat) (s : State) : Host.Outcome State Fault Refusal :=
  s.become (if input < 4 then s.dev.binStick input else s.dev)

/-- Writing 1 to BIN_STAT.STUCK unmasks (R365). -/
def Dev.binUnmask (d : Dev) (mask : BitVec 4) : Dev :=
  (List.range 4).foldl (fun (d : Dev) n => if mask.getLsbD n then d.fset Page.evtAon (binStuckFld n) 0 else d) d

/-- R365. -/
def execBinUnmask (req : Requester) (mask : BitVec 4) (s : State) : Host.Outcome State Fault Refusal :=
  s.become (s.dev.onWrite req (Page.evtAon + Reg.EVT_BIN_STAT_STUCK.off) (·.binUnmask mask))

/-- The conditioned level becomes inactive: a stuck input is re-armed (R364, R365). -/
def Dev.binDeactivate (d : Dev) (n : Nat) : Dev :=
  d.setBin n { d.bin n with active := false, timing := false, needsInactive := false }

/-- R364, R365. -/
def execBinInactive (input : Nat) (s : State) : Host.Outcome State Fault Refusal :=
  s.become (if input < 4 then s.dev.binDeactivate input else s.dev)

end Sys2Proof.Machine
end

