-- ==== Sys2Proof/Machine/Movers.lean ====
section
/-!
DEFINITION. The blowpipe movers (chapter 14): descriptors (R342-R344), running a chain (R345, R346), pacing (R347),
completion and errors (R349); FENCE and DCINV of the control processors (R294, R350).
-/

namespace Sys2Proof.Machine

namespace MoverErr
/-- BLP_STAT.ERR codes (R349). -/
def malformed : Nat := 0x01
def descUe : Nat := 0x02
def dataUe : Nat := 0x03
def hostAccess : Nat := 0x04
def hostTimeout : Nat := 0x05
def hostPoison : Nat := 0x06
def portBusy : Nat := 0x07
def limit : Nat := 0x08
def range : Nat := 0x09
end MoverErr

/-- The first address past a space (R341). -/
def spaceEnd (space : Nat) : Nat :=
  if space = 0 then 2 ^ 35 else if space = 1 then 0x02300000 else 2 ^ 64

/-- Whether a space number names a space a descriptor may use (R341): space 3 only with HOST_SPLIT. -/
def spaceGood (split : Bool) (space : Nat) : Bool := space < 3 || (space == 3 && split) || space == 4

/-- Descriptor control fields (R342). -/
def ctlSrcSpace (c : Nat) : Nat := bits c 0 3
def ctlDstSpace (c : Nat) : Nat := bits c 4 3
def ctlSwap (c : Nat) : Nat := bits c 8 2
def ctlFill (c : Nat) : Bool := bitAt c 10
def ctlPulse (c : Nat) : Bool := bitAt c 11
def ctlSliceEn (c : Nat) : Bool := bitAt c 12
def ctlSlice (c : Nat) : Nat := bits c 16 12

/-- The swap unit in bytes (R344). -/
def swapUnit (mode : Nat) : Nat := if mode = 0 then 1 else if mode = 1 then 2 else 4

/-- Which source byte of the descriptor lands at destination byte `i` (R344). -/
def swapIndex (mode i : Nat) : Nat :=
  if mode = 0 then i else if mode = 1 then i ^^^ 1 else if mode = 2 then i ^^^ 3 else i ^^^ 2

/-- The unit port that a destination address of space 4 names (R341). -/
def portNumber (dst : Nat) : Nat := bits dst 0 6

/-- Whether [a, a+n) and [b, b+m) meet. -/
def overlap (a n b m : Nat) : Bool := decide (a < b + m) && decide (b < a + n)

/-- Whether a GDDR6 range meets the configured deep crucible (R341; CRU wide value 0x0010). -/
def Dev.inDeepCrucible (d : Dev) (a n : Nat) : Bool :=
  let v := d.wget Page.cru 0x10
  let size := bits v 16 13 * 2 ^ 21
  size != 0 && overlap a n (bits v 0 15 * 2 ^ 20) size

/-- R343: a malformed descriptor. -/
def descMalformed (split : Bool) (src dst len32 control nxt : Nat) : Bool :=
  let len := bits len32 0 25
  let ss := ctlSrcSpace control
  let ds := ctlDstSpace control
  let fill := ctlFill control
  bits len32 25 7 != 0 || len == 0 || 2 ^ 24 < len
    || bitAt control 3 || bitAt control 7 || bits control 13 3 != 0 || bits control 28 4 != 0
    || bits nxt 2 3 != 0 || nxt / 2 ^ 35 != 0 || (bitAt nxt 0 && bits nxt 1 34 != 0)
    || (fill && (src / 2 ^ 32 != 0 || ss != 0))
    || !spaceGood split ss || !spaceGood split ds || ss == 4
    || (!fill && spaceEnd ss < src + len) || (ds != 4 && spaceEnd ds < dst + len)
    || (ds == 4 && (portNumber dst == 0 || 8 < portNumber dst))
    || (!fill && ss == ds && overlap src len dst len)
    || len % swapUnit (ctlSwap control) != 0
    || (ctlSliceEn control && !(ss == 2 || ss == 3 || ds == 2 || ds == 3))

/-- Release the unit ports that a mover serves (R347). -/
def Dev.releasePorts (d : Dev) (m : Nat) : Dev := { d with portOwner := d.portOwner.filter (fun e => e.2 != m + 1) }

/-- R349: the chain stops with an error; BLP_CUR and BLP_REMAIN stay at the failing descriptor, and there is no pulse. -/
def Dev.moverFail (d : Dev) (m code : Nat) : Dev :=
  let p := Page.blp m
  let d1 := ((d.setMoverState m moverError).fset p Reg.BLP_STAT_ERR code).countSat p Reg.BLP_ERR_CNT_CNT
  let d2 := (d1.setMover m { d1.mover m with fetched := false, acks := [] }).releasePorts m
  d2.latchFault p FaultBit.blp_XFER_ERR

/-- Whether any 64-byte line of a range of space 0 or 1 cannot be read. -/
def Dev.spaceUe (d : Dev) (space a n : Nat) : Bool :=
  if space = 0 then (List.range ((a % 64 + n + 63) / 64)).any (fun i => d.lineUncorrectable (a + 64 * i))
  else if space = 1 then d.ft.dieUncorrectable.any (fun l => overlap a n (l * 64) 64)
  else false

/-- `n` bytes of a space. -/
def Dev.spaceRead (d : Dev) (space a n : Nat) : List Byte :=
  if space = 0 then d.gread a n else if space = 1 then d.dread a n else d.hread (space - 2) a n

/-- Write bytes into a space; a unit port takes them in order (R347). -/
def Dev.spaceWrite (d : Dev) (space a : Nat) (bs : List Byte) (attr : ReqAttr) : Dev :=
  if space = 0 then d.gwrite a bs
  else if space = 1 then d.dwrite a bs
  else if space = 4 then
    { d with portData := Sparse.set (blank []) d.portData (portNumber a) (Sparse.get (blank []) d.portData (portNumber a) ++ bs) }
  else d.hwrite (space - 2) a bs attr

/-- The host port that a descriptor's request in space 2 or 3 uses (R342): the slice's own port with SLICE_EN. -/
def Dev.moverSpace (d : Dev) (control space : Nat) : Nat :=
  if ctlSliceEn control ∧ (space = 2 ∨ space = 3) then 2 + (d.slice (ctlSlice control)).hostPort else space

/-- The attributes of a descriptor's host requests (R281, R342): with SLICE_EN, the slice's PASID, on PF1. -/
def Dev.moverAttr (d : Dev) (control : Nat) : ReqAttr :=
  if ctlSliceEn control then { pf := 1, pasid := some (d.slice (ctlSlice control)).pasid } else {}

/-- The next descriptor is fetched and checked before any byte moves (R342, R343, R345, R347, R349).  A descriptor whose own
address passes the end of its space is malformed, and one in the deep crucible is refused with RANGE (log entry 123). -/
def Dev.fetchDescriptor (d : Dev) (m : Nat) : Dev :=
  let p := Page.blp m
  let st := d.mover m
  let max := d.fget p Reg.BLP_DESC_MAX_MAX
  if d.moverState m ≠ moverRun ∨ st.fetched ∨ st.acks.any (·.1) then d
  else if max ≠ 0 ∧ max ≤ d.fget p Reg.BLP_DESC_CNT_CNT then d.moverFail m MoverErr.limit
  else
    let space := st.nextDesc % 2
    let a := st.nextDesc / 32 * 32
    let d1 := (d.wr (p + Reg.BLP_CUR_LO_ADDR.off) (BitVec.ofNat 32 st.nextDesc)).fset p Reg.BLP_CUR_HI_ADDR (st.nextDesc / 2 ^ 32)
    if spaceEnd space < a + 32 then d1.moverFail m MoverErr.malformed
    else if space = 0 ∧ d.inDeepCrucible a 32 then d1.moverFail m MoverErr.range
    else if d.spaceUe space a 32 then d1.moverFail m MoverErr.descUe
    else
      let img := d.spaceRead space a 32
      let src := ofLe (cut img 0 8)
      let dst := ofLe (cut img 8 8)
      let len := ofLe (cut img 16 4)
      let control := ofLe (cut img 20 4)
      let nxt := ofLe (cut img 24 8)
      let d2 := d1.fset p Reg.BLP_REMAIN_BYTES len
      if descMalformed d.split src dst len control nxt then d2.moverFail m MoverErr.malformed
      else if (!ctlFill control ∧ ctlSrcSpace control = 0 ∧ d.inDeepCrucible src len)
          ∨ (ctlDstSpace control = 0 ∧ d.inDeepCrucible dst len) then d2.moverFail m MoverErr.range
      else
        let owner := Sparse.get (blank 0) d.portOwner (portNumber dst)
        if ctlDstSpace control = 4 ∧ owner ≠ 0 ∧ owner ≠ m + 1 then d2.moverFail m MoverErr.portBusy
        else
          let d3 := if ctlDstSpace control = 4 then
              { d2 with portOwner := Sparse.set (blank 0) d2.portOwner (portNumber dst) (m + 1) } else d2
          let next := if bitAt nxt 0 then st.nextDesc else bits nxt 5 30 * 32 + bits nxt 1 1
          d3.setMover m { st with fetched := true, src := src, dst := dst, len := len, control := control,
                                  nextWord := nxt, nextDesc := next }

/-- The bytes of the next burst: at most 256, ending at every 256-byte boundary of the source (R347). -/
def burstLen (src left : Nat) : Nat := min left (256 - src % 256)

/-- The data that lands at bytes [o, o+n) of a descriptor's destination (R342, R344). -/
def Dev.burstData (d : Dev) (st : MoverState) (o n : Nat) : List Byte :=
  if ctlFill st.control then
    (List.range n).map (fun j => BitVec.ofNat 8 (st.src / 2 ^ (8 * (swapIndex (ctlSwap st.control) (o + j) % 4))))
  else
    let space := d.moverSpace st.control (ctlSrcSpace st.control)
    (List.range n).map (fun j => (d.spaceRead space (st.src + swapIndex (ctlSwap st.control) (o + j)) 1).headD 0)

/-- The host port that a descriptor reads, none when its source is no host memory. -/
def Dev.moverSource (d : Dev) (control : Nat) : Option Nat :=
  let ss := d.moverSpace control (ctlSrcSpace control)
  if !ctlFill control ∧ (ss = 2 ∨ ss = 3) then some (ss - 2) else none

/-- The error of a mover whose host read ends with a code (R349). -/
def moverCode (code : Nat) : Nat :=
  if code = Code.timeout then MoverErr.hostTimeout else if code = Code.fault then MoverErr.hostPoison else MoverErr.hostAccess

/-- Why a descriptor's burst fails (R349), none when it may issue: a host request for a slice that is not ACTIVE or is
locked (the latter counted under R311), a function that cannot issue, an uncorrectable source. -/
def Dev.burstError (d : Dev) (st : MoverState) (o n : Nat) : Option Nat :=
  let c := st.control
  let ss := d.moverSpace c (ctlSrcSpace c)
  let ds := d.moverSpace c (ctlDstSpace c)
  let pf := (d.moverAttr c).pf
  let hostSrc := (d.moverSource c).isSome
  let hostDst := ds == 2 || ds == 3
  let v := d.slice (ctlSlice c)
  if ctlSliceEn c ∧ (v.state ≠ .active ∨ v.isLocked) then some MoverErr.hostAccess
  else if (hostSrc ∧ !d.fnReady (ss - 2) pf) ∨ (hostDst ∧ !d.fnReady (ds - 2) pf) then some MoverErr.hostAccess
  else if hostSrc then none
  else if !ctlFill c ∧ d.spaceUe ss (st.src + o) n then some MoverErr.dataUe
  else none

/-- A burst of `n` bytes at offset `o` is moved; with the last one the descriptor's last burst has issued. -/
def Dev.moveBurst (d : Dev) (m o n left : Nat) : Dev :=
  let p := Page.blp m
  let st := d.mover m
  let attr := d.moverAttr st.control
  let d0 := match d.moverSource st.control with
    | some port => (d.hostFetch port (st.src + o) n attr).2
    | none => d
  let d1 := (d0.setMoverState m moverRun).spaceWrite (d.moverSpace st.control (ctlDstSpace st.control))
    (if ctlDstSpace st.control = 4 then st.dst else st.dst + o) (d.burstData st o n) attr
  let d2 := (d1.wcount p 1 n).fset p Reg.BLP_REMAIN_BYTES (left - n)
  if left - n = 0 then
    let d3 := (d2.count p Reg.BLP_DESC_CNT_CNT).releasePorts m
    d3.setMover m { st with fetched := false, acks := st.acks ++ [(bitAt st.nextWord 0, ctlPulse st.control)] }
  else d2

/-- A burst issues, or the mover waits for its port's request (R345, R347). -/
def Dev.issueBurst (d : Dev) (m : Nat) (portReady : Bool) (answer : HostAnswer) : Dev :=
  let p := Page.blp m
  let st := d.mover m
  if !st.fetched ∨ ¬ (d.moverState m = moverRun ∨ d.moverState m = moverWait) then d
  else if ctlDstSpace st.control = 4 ∧ !portReady then d.setMoverState m moverWait
  else
    let left := d.fget p Reg.BLP_REMAIN_BYTES
    let o := st.len - left
    let n := burstLen (if ctlFill st.control then o else st.src + o) left
    match d.burstError st o n with
    | some code =>
      (if ctlSliceEn st.control then d.confRefused (ctlSlice st.control) else d).moverFail m code
    | none =>
      match d.moverSource st.control with
      | none => d.moveBurst m o n left
      | some port => d.onAnswer port (d.moverAttr st.control).pf (.mover m) answer (fun d => d.moveBurst m o n left)
          (fun code d => d.moverFail m (moverCode code))

/-- Once the writes of the oldest ended descriptor are acknowledged (R349): a PULSE descriptor pulses the mover's source;
the end of the chain pulses it, ends the chain, and starts the chain of a held trigger (R345, R346). -/
def Dev.endDescriptor (d : Dev) (m : Nat) : Dev :=
  let p := Page.blp m
  let st := d.mover m
  match st.acks with
  | [] => d
  | (isEnd, isPulse) :: rest =>
    let d1 := d.setMover m { st with acks := rest }
    if isEnd then
      let d2 := ((d1.wcount p 2).setMoverState m moverIdle).pulse (384 + m)
      if d2.fbit p Reg.BLP_STAT_TRIG_PEND then (d2.fset p Reg.BLP_STAT_TRIG_PEND 0).startChain m else d2
    else if isPulse then d1.pulse (384 + m)
    else d1

/-- GO (R345, R346): ignored and counted in RUN and WAIT, otherwise a chain starts. -/
def Dev.moverGo (d : Dev) (m : Nat) : Dev :=
  if !d.accepts (Page.blp m) then d
  else if d.moverState m = moverRun ∨ d.moverState m = moverWait then d.count (Page.blp m) Reg.BLP_GO_IGN_CNT
  else d.startChain m

/-- STOP (R345, R346): at the burst boundary the mover halts, BLP_CUR and BLP_REMAIN as they stand, without a pulse.  A
chain whose last burst has issued has no further burst boundary and ends as usual. -/
def Dev.moverStop (d : Dev) (m : Nat) : Dev :=
  let st := d.mover m
  if (d.moverState m = moverRun ∨ d.moverState m = moverWait) ∧ ¬ st.acks.any (·.1) then
    ((d.setMoverState m moverStopped).setMover m { st with fetched := false, acks := [] }).releasePorts m
  else d

/-- R345, R346; BLP_CTL is closed to the manager (R351). -/
def execMoverGo (req : Requester) (mover : Nat) (s : State) : Host.Outcome State Fault Refusal :=
  s.become (s.dev.onFirmwareWrite req (Page.blp mover + Reg.BLP_CTL_GO.off) (·.moverGo mover))

/-- R345, R346. -/
def execMoverStop (req : Requester) (mover : Nat) (s : State) : Host.Outcome State Fault Refusal :=
  s.become (s.dev.onFirmwareWrite req (Page.blp mover + Reg.BLP_CTL_STOP.off) (·.moverStop mover))

/-- R346. -/
def execMoverTrigger (mover : Nat) (s : State) : Host.Outcome State Fault Refusal := s.become (s.dev.trigger mover)

/-- R345. -/
def execDescriptorFetch (mover : Nat) (s : State) : Host.Outcome State Fault Refusal := s.become (s.dev.fetchDescriptor mover)

/-- R347. -/
def execBurstIssue (mover : Nat) (portReady : Bool) (answer : HostAnswer) (s : State) : Host.Outcome State Fault Refusal :=
  s.become (s.dev.issueBurst mover portReady answer)

/-- R349. -/
def execChainEnd (mover : Nat) (s : State) : Host.Outcome State Fault Refusal := s.become (s.dev.endDescriptor mover)

/-! ## FENCE and DCINV -/

/-- Stores of a pair drain in issue order; FENCE completes when the write buffer is empty and acknowledged (R294). -/
def Dev.drainPair (d : Dev) (pair : Nat) : Dev :=
  let c := d.pair pair
  let d1 := c.buffer.foldl (fun (d : Dev) e => d.spaceWrite (e.1 / 2 ^ 40) (e.1 % 2 ^ 40) e.2 {}) d
  d1.setPair pair { c with buffer := [] }

/-- R294. -/
def execFence (pair : Nat) (s : State) : Host.Outcome State Fault Refusal := s.become (s.dev.drainPair pair)

/-- DCINV drops the pair's cached lines of a range (R350): later loads read memory. -/
def Dev.invalidateLines (d : Dev) (pair a n : Nat) : Dev :=
  let c := d.pair pair
  d.setPair pair { c with cache := c.cache.filter (fun l => !overlap a n (l * 64) 64) }

/-- R350. -/
def execDcinv (pair addr len : Nat) (s : State) : Host.Outcome State Fault Refusal := s.become (s.dev.invalidateLines pair addr len)

end Sys2Proof.Machine
end

