-- ==== Sys2Proof/Machine/Boxes.lean ====
section
/-!
DEFINITION. Mailboxes (R386-R391, R394, R395, R398): ends, stamps, sends and pops.
-/

namespace Sys2Proof.Machine

/-! ## Ends -/

/-- The key of an end. -/
def mailKey : MailEnd → Nat
  | .manager c => c
  | .firmware c => 0x10000 + c
  | .x c => 0x20000 + c
  | .y c => 0x30000 + c
  | .tenant s => 0x40000 + s
  | .welbor s => 0x50000 + s

/-- The other end of the channel. -/
def mailOther : MailEnd → MailEnd
  | .manager c => .firmware c
  | .firmware c => .manager c
  | .x c => .y c
  | .y c => .x c
  | .tenant s => .welbor s
  | .welbor s => .tenant s

/-- Places in an end's receive queue (R386). -/
def mailDepth : MailEnd → Nat
  | .manager _ | .firmware _ => 16
  | .x _ | .y _ => 8
  | .tenant _ | .welbor _ => 2

/-- Whether the end exists; internal channels 14 and 15 are reserved (R386, R388). -/
def mailExists : MailEnd → Bool
  | .manager c | .firmware c => decide (c < 32)
  | .x c | .y c => decide (c < 14)
  | .tenant s | .welbor s => decide (s < 4096)

/-- The address of an end's registers in region 0, for the ends that have one (R388). -/
def mailBase : MailEnd → Option Nat
  | .manager c => some (Page.mbx c + 0x100)
  | .firmware c => some (Page.mbx c + 0x200)
  | .x c => some (Page.mbx c + 0x300)
  | .y c => some (Page.mbx c + 0x400)
  | .tenant _ | .welbor _ => none

/-- The two pairs of internal channels 4-9. -/
def mailPairs (c : Nat) : Nat × Nat := [(0, 1), (0, 2), (0, 3), (1, 2), (1, 3), (2, 3)].getD (c - 4) (0, 0)

/-- Whether CPX pair `p` holds the ends of pair `q`: it is `q` itself, or stands in for it (R428). -/
def Dev.pairHolds (d : Dev) (p q : Nat) : Bool := p == q || d.servingPair q == p

/-- Who may access an end (R388); the tenant end is reached through its window (R279). -/
def Dev.mailAllows (d : Dev) (req : Requester) (box : MailEnd) : Bool :=
  match box, req with
  | .manager _, .manager _ _ => true
  | .manager _, .firmware _ => true
  | .firmware _, .firmware _ => true
  | .x c, .firmware p =>
    if c < 4 then d.pairHolds p c else if c < 10 then d.pairHolds p (mailPairs c).1 else d.pairHolds p (c - 10)
  | .y c, .firmware p => decide (4 ≤ c) && decide (c < 10) && d.pairHolds p (mailPairs c).2
  | .y c, .welbor => decide (c < 4) || decide (10 ≤ c)
  | .tenant _, .manager _ _ => true
  | .welbor _, .welbor => true
  | _, _ => false

def Dev.mailBox (d : Dev) (box : MailEnd) : MailBox := Sparse.get (blank {}) d.mail (mailKey box)
def Dev.setMailBox (d : Dev) (box : MailEnd) (b : MailBox) : Dev :=
  { d with mail := Sparse.set (blank {}) d.mail (mailKey box) b }

/-- MBX_MSUM and MBX_FSUM, and the Level sources 489 and 490 (R394, R397). -/
def Dev.showMail (d : Dev) (box : MailEnd) : Dev :=
  let held := b2n (!(d.mailBox box).queue.isEmpty)
  match box with
  | .manager c => (d.fset (Page.mbx 0) ⟨Reg.MBX_MSUM_RX.off, c, 1⟩ held).refreshLevel 489
  | .firmware c => (d.fset (Page.mbx 0) ⟨Reg.MBX_FSUM_RX.off, c, 1⟩ held).refreshLevel 490
  | _ => d

/-- The stamp of a slice end's message for R312: a message from tenant `s` is stamped with the incarnation in its stamp. -/
def Message.stampOf (m : Message) : Stamp :=
  if bits m.stamp 58 3 = 1 then some (bits m.stamp 37 12, bits m.stamp 49 8) else none

/-! ## Sending and popping -/

/-- The stamp of a SEND (R390). -/
def Dev.mailStamp (d : Dev) (req : Requester) (box : MailEnd) (pasid : Option Nat) : Nat :=
  let pas := match pasid with
    | some p => p % 2 ^ 20 * 2 ^ 16 + 2 ^ 36
    | none => 0
  match req, box with
  | .manager port rid, .tenant s =>
    rid % 2 ^ 16 + pas + s * 2 ^ 37 + (d.slice s).incarnation * 2 ^ 49 + port * 2 ^ 57 + 2 ^ 58
  | .manager port rid, _ => rid % 2 ^ 16 + pas + port * 2 ^ 57
  | .firmware p, _ => p + 2 * 2 ^ 58
  | .welbor, _ => 3 * 2 ^ 58

/-- A full queue (R391): the message is not sent, MBX_DISC counts; event 491 for a host send, event 492 and a bus error for
an internal one; the host's write is an Advisory Non-Fatal error of the function it addressed (R295). -/
def Dev.mailFull (d : Dev) (req : Requester) (box : MailEnd) : Dev :=
  let b := d.mailBox box
  let d1 := d.setMailBox box { b with disc := min (2 ^ 32 - 1) (b.disc + 1) }
  match req with
  | .manager port rid =>
    let tenant := match box with
      | .tenant _ => 1
      | _ => 0
    (d1.pulse 491).aerError port tenant AerBit.unsupported true [mailKey box, rid]
  | _ => (d1.pulse 492).emit (.abort true)

/-- Whether the other end's queue has room. -/
def Dev.mailRoom (d : Dev) (box : MailEnd) : Bool :=
  decide ((d.mailBox (mailOther box)).queue.length < mailDepth (mailOther box))

/-- A message reaches an end (R389): it takes the tail of the queue; at a tenant end slice interrupt entry 15 is raised (R394);
a tenant's message is held in its slice's INFLIGHT (R309). -/
def Dev.mailPush (d : Dev) (box : MailEnd) (m : Message) : Dev :=
  let b := d.mailBox box
  let d1 := ((d.setMailBox box { b with queue := b.queue ++ [m] }).showMail box).holdSlice m.stampOf
  match box with
  | .tenant s => d1.sliceInterrupt s 15 (d.slice s).incarnation
  | _ => d1

/-- A SEND by an end's holder (R389, R391). -/
def Dev.mailSend (d : Dev) (req : Requester) (box : MailEnd) (pasid : Option Nat) : Dev :=
  if d.mailRoom box then d.mailPush (mailOther box) ⟨(d.mailBox box).tx, d.mailStamp req box pasid⟩
  else d.mailFull req box

/-- A POP removes the head message; it has no effect on an empty queue (R387). -/
def Dev.mailPop (d : Dev) (box : MailEnd) : Dev :=
  let b := d.mailBox box
  match b.queue with
  | [] => d
  | m :: rest => ((d.setMailBox box { b with queue := rest }).showMail box).releaseSlice m.stampOf

/-- An access to an end (R388, R391): closed to others; a powered-down domain also pulses event 493.  The slice ends share
Welbor's domain. -/
def Dev.onMail (d : Dev) (req : Requester) (box : MailEnd) (off : Nat) (f : Dev → Dev) : Dev :=
  if !mailExists box then d
  else
    match mailBase box with
    | some base =>
      let d1 := d.onWrite req (base + off) (fun d => if d.mailAllows req box then f d else d.closedWrite req (base + off))
      if d.unreachable (base + off) = some 2 then d1.pulse 493 else d1
    | none =>
      if !d.mailAllows req box then d
      else if !d.domainOn 0 then
        let d1 := (d.accessError req (0x2000 + off) true 2).pulse 493
        if req.isManager then d1 else d1.emit (.abort true)
      else f d

/-! ## Registers of an end (R387) -/

/-- MBX_STAT of an end. -/
def Dev.mailStat (d : Dev) (box : MailEnd) : Nat :=
  let other := mailOther box
  let used := (d.mailBox other).queue.length
  let mine := (d.mailBox box).queue.length
  b2n (used == mailDepth other) * 2 ^ 31 + (mailDepth other - used) * 2 ^ 24 + mine * 2 ^ 16 + b2n (mine != 0)

/-- The value at offset `off` of an end. -/
def Dev.mailReg (d : Dev) (box : MailEnd) (off : Nat) : Nat :=
  let b := d.mailBox box
  let head := b.queue.head?
  if off < 0x40 then b.tx.getD (off / 4) 0
  else if off = 0x44 then d.mailStat box
  else if off = 0x4C then b.disc
  else if 0x80 ≤ off ∧ off < 0xC0 then (head.map (fun m => m.words.getD ((off - 0x80) / 4) 0)).getD 0
  else if off = 0xC0 then (head.map (fun m => bits m.stamp 0 32)).getD 0
  else if off = 0xC4 then (head.map (fun m => bits m.stamp 32 32)).getD 0
  else 0

/-- A read of MBX_DISC clears it. -/
def Dev.mailClear (d : Dev) (box : MailEnd) (off : Nat) : Dev :=
  if off = 0x4C then d.setMailBox box { d.mailBox box with disc := 0 } else d

/-- Write a staging word under byte enables. -/
def Dev.mailStage (d : Dev) (box : MailEnd) (i v : Nat) : Dev :=
  let b := d.mailBox box
  d.setMailBox box { b with tx := b.tx.set i v }

/-- The end that an offset of MBX page `c` lies in, with the offset in the end (R388). -/
def mailAt (c off : Nat) : Option (MailEnd × Nat) :=
  if 0x100 ≤ off ∧ off < 0x200 then some (.manager c, off - 0x100)
  else if 0x200 ≤ off ∧ off < 0x300 then some (.firmware c, off - 0x200)
  else if 0x300 ≤ off ∧ off < 0x400 ∧ c < 16 then some (.x c, off - 0x300)
  else if 0x400 ≤ off ∧ off < 0x500 ∧ c < 16 then some (.y c, off - 0x400)
  else none

/-! ## Slice channels -/

def Dev.channel (d : Dev) (s : Nat) : SliceChannel := Sparse.get (blank {}) d.wel.channels s
def Dev.setChannel (d : Dev) (s : Nat) (c : SliceChannel) : Dev :=
  { d with wel := { d.wel with channels := Sparse.set (blank {}) d.wel.channels s c } }

/-- SPDM sessions that `sel` selects end, and their waiting requests with them (R377). -/
def Dev.endSessions (d : Dev) (sel : Nat → Transport → Bool) : Dev :=
  let w := d.wel
  let keep (n : Nat) (o : Option SpdmSession) : Bool := match o with
    | some v => !sel n v.via
    | none => false
  { d with wel := { w with
    sessions := w.sessions.filter (fun e => keep e.1 e.2)
    requests := w.requests.filter (fun r => !sel r.session r.via) } }

/-- Chunks that Welbor owes the tenant of slice `s`, stamped with the slice's incarnation (R390, R393). -/
def Dev.oweChunks (d : Dev) (s : Nat) (l : List (List Nat)) : Dev :=
  let c := d.channel s
  d.setChannel s { c with chunks := c.chunks ++ l.map (fun w => ((d.slice s).incarnation, w)) }

/-- The channel of a slice is set up for a new tenant (R305, R312); chunks that Welbor still holds for an earlier one stay, to be
discarded when they are delivered (R395). -/
def Dev.openChannel (d : Dev) (s : Nat) : Dev :=
  d.setChannel s { chunks := (d.channel s).chunks, incarnation := (d.slice s).incarnation }

/-- A slice's channel is emptied and its session ends (R308, R377, R395); what Welbor delivers later is discarded (R390). -/
def Dev.emptyChannel (d : Dev) (s : Nat) : Dev :=
  let pop (d : Dev) (box : MailEnd) := ((d.mailPop box).mailPop box)
  let d1 := pop (pop d (.tenant s)) (.welbor s)
  let c := d1.channel s
  (d1.setChannel s { chunks := c.chunks, incarnation := c.incarnation }).endSessions (fun _ via => via == .slice s)

end Sys2Proof.Machine
end

