-- ==== Sys2Proof/Machine/Scheduler.lean ====
section
/-!
DEFINITION. Schedulers (R156-R158): enqueueing copies under colour limits, the port schedulers with their shapers, and host
delivery in its three levels.
-/

namespace Sys2Proof.Machine

/-! ## State access -/

def Dev.schedOf (d : Dev) (m : Nat) : Sched := Sparse.get (blank {}) d.sched m
def Dev.setSched (d : Dev) (m : Nat) (v : Sched) : Dev := { d with sched := Sparse.set (blank {}) d.sched m v }
def Sched.tc (v : Sched) (t : Nat) : TcState := Sparse.get (blank {}) v.tcs t
def Sched.setTc (v : Sched) (t : Nat) (x : TcState) : Sched := { v with tcs := Sparse.set (blank {}) v.tcs t x }
def Dev.macOf (d : Dev) (m : Nat) : Mac := Sparse.get (blank {}) d.macs m
def Dev.setMac (d : Dev) (m : Nat) (v : Mac) : Dev := { d with macs := Sparse.set (blank {}) d.macs m v }

/-- Fields of TC `t` of a port page. -/
def schTc (f : Fld) (t : Nat) : Fld := f.nth 16 t

/-- The destination of a copy (R136). -/
def Copy.kind (c : Copy) : Nat := bits c.dest 19 2
def Copy.tc (c : Copy) : Nat := bits c.dest 16 3
def Copy.target (c : Copy) : Nat := bits c.dest 0 16

/-- Length with FCS, and with padding to the minimum frame (R156, R253). -/
def Copy.withFcs (c : Copy) : Nat := c.bytes.length + (if c.fcs then 0 else 4)
def Copy.wireLen (c : Copy) : Nat := max 64 c.withFcs
def Copy.cells (c : Copy) : Nat := cellsOf c.bytes.length
/-- The bytes without the received FCS. -/
def Copy.frame (c : Copy) : List Byte := if c.fcs then c.bytes.take (c.bytes.length - 4) else c.bytes

/-- Add to one 64-bit field of a 192-bit SCH value (R168): 0 enqueued, 1 sent, 2 dropped. -/
def Dev.countTc (d : Dev) (m t part : Nat) : Dev :=
  let v := d.wget (Page.sch m) (0x10 + t)
  d.wset (Page.sch m) (0x10 + t) (setBits v (64 * part) 64 (bits v (64 * part) 64 + 1))

def Dev.tcDepth (d : Dev) (m t : Nat) : Nat := d.fget (Page.sch m) (schTc Reg.SCH_TC_DEPTH_CELLS t)
def Dev.setTcDepth (d : Dev) (m t n : Nat) : Dev := d.fset (Page.sch m) (schTc Reg.SCH_TC_DEPTH_CELLS t) n

/-! ## Enqueue (R157, R158) -/

/-- The limit for a colour (R158). -/
def colourLimit (glim yfrac rfrac colour : Nat) : Nat :=
  if colour = green then glim else if colour = yellow then glim * yfrac / 256 else glim * rfrac / 256

/-- A copy is dropped at a queue: its reason counts and event 221 pulses (R155, R158). -/
def Dev.dropCopy (d : Dev) (n reason : Nat) : Dev := (d.endCopy n (some reason)).pulse 221

/-- A copy is dropped at a port (R168). -/
def Dev.dropAtPort (d : Dev) (n m t reason : Nat) : Dev :=
  (((d.dropCopy n reason).countTc m t 2).latchFault (Page.sch m) FaultBit.sch_TAIL_DROP)

/-- The port page whose colour fractions apply to the queue of a destination that is no port: the spec does not name it. -/
def colourPage (dest : Nat) : Nat := Page.sch (Config.unstated 43 [dest] % 16)

/-- The limit of a host queue or of the STO FIFO for a copy (R158). -/
def Dev.hostLimit (d : Dev) (glim : Nat) (c : Copy) : Nat :=
  colourLimit glim (d.fget (colourPage c.dest) Reg.SCH_COLOR_YFRAC) (d.fget (colourPage c.dest) Reg.SCH_COLOR_RFRAC) c.colour

/-- Enqueue a copy to a TC of a MAC. -/
def Dev.enqueuePort (d : Dev) (n : Nat) (c : Copy) : Dev :=
  let m := c.target
  let t := c.tc
  let p := Page.sch m
  let limit := colourLimit (d.fget p (schTc Reg.SCH_TC_GLIM_CELLS t)) (d.fget p Reg.SCH_COLOR_YFRAC)
    (d.fget p Reg.SCH_COLOR_RFRAC) c.colour
  if 16128 < c.withFcs then d.dropAtPort n m t Drop.oversize
  else if !d.accepts p then d.dropAtPort n m t Drop.destDown
  else if limit < d.tcDepth m t + c.cells then d.dropAtPort n m t Drop.qTail
  else
    let v := d.schedOf m
    let x := v.tc t
    let d1 := (d.setCopy n (some { c with queued := true })).setSched m (v.setTc t { x with fifo := x.fifo ++ [n] })
    (d1.setTcDepth m t (d.tcDepth m t + c.cells)).countTc m t 0

/-- The copies that wait for a device queue. -/
def Dev.hostFifo (d : Dev) (q : Nat) : List Nat := Sparse.get (blank []) d.host.queues q
def Dev.setHostFifo (d : Dev) (q : Nat) (l : List Nat) : Dev :=
  { d with host := { d.host with queues := Sparse.set (blank []) d.host.queues q l } }

/-- Cells of a list of copies. -/
def Dev.copiesCells (d : Dev) (l : List Nat) : Nat := (l.map (fun n => ((d.copy n).map Copy.cells).getD 0)).sum

/-- SCHH_DEPTH changes. -/
def Dev.addHostDepth (d : Dev) (n : Int) : Dev :=
  d.fset Page.schh Reg.SCHH_DEPTH_CELLS (Int.toNat ((d.fget Page.schh Reg.SCHH_DEPTH_CELLS : Nat) + n))

/-- Enqueue a copy toward device queue `q` (R157, R158, R335). -/
def Dev.enqueueHost (d : Dev) (n q : Nat) (c : Copy) : Dev :=
  let st := (d.queue q).state
  if 16128 < c.withFcs then d.dropCopy n Drop.oversize
  else if st = .free ∨ st = .halted ∨ ¬ (d.qType q = typeRx ∨ d.qType q = typeHandshake) ∨ !d.accepts Page.schh then
    d.dropCopy n Drop.destDown
  else if d.hostLimit (d.qGlim q) c < d.copiesCells (d.hostFifo q) + c.cells then d.dropCopy n Drop.qTail
  else
    ((d.setCopy n (some { c with queued := true, queue := q })).setHostFifo q (d.hostFifo q ++ [n])).addHostDepth c.cells

/-- Enqueue a copy for STO (R157). -/
def Dev.enqueueSto (d : Dev) (n : Nat) (c : Copy) : Dev :=
  if 16128 < c.withFcs then d.dropCopy n Drop.oversize
  else if !d.accepts Page.schh then d.dropCopy n Drop.destDown
  else if d.hostLimit (d.fget Page.schh Reg.SCHH_STO_LIM_CELLS) c < d.copiesCells d.host.sto + c.cells then
    d.dropCopy n Drop.qTail
  else
    let d1 := d.setCopy n (some { c with queued := true })
    { d1 with host := { d1.host with sto := d1.host.sto ++ [n] } }.addHostDepth c.cells

/-- The queue that a slice's default receive queue names: the spec does not define it (log entry 5). -/
def defaultQueue (slice : Nat) : Nat := Config.unstated 1 [slice] % 65536

/-- Whether a copy made earlier of a packet of the same source still waits for the same egress queue: their order is kept (R19). -/
def Dev.copyBehind (d : Dev) (n : Nat) (c : Copy) : Bool :=
  d.copies.any (fun e => decide (e.1 < n) && match e.2 with
    | some k => !k.queued && k.dest == c.dest && (d.packet k.packet).source == (d.packet c.packet).source
    | none => false)

/-- COPY_ENQUEUE (R157, R158).  A mirror destination that names a MAC beyond 15 has no queue: DEST_DOWN (log entry 107). -/
def Dev.enqueueCopy (d : Dev) (n : Nat) : Dev :=
  match d.copy n with
  | none => d
  | some c =>
    if c.queued ∨ d.copyBehind n c then d
    else if c.kind = 0 then (if c.target < 16 then d.enqueuePort n c else d.dropCopy n Drop.destDown)
    else if c.kind = 1 then d.enqueueHost n c.target c
    else if c.kind = 2 then d.enqueueHost n (defaultQueue (bits c.dest 0 12)) c
    else d.enqueueSto n c

/-- R157, R158. -/
def execCopyEnqueue (copy : Nat) (s : State) : Host.Outcome State Fault Refusal := s.become (s.dev.enqueueCopy copy)

/-! ## Port scheduling (R156) -/

/-- The rate of MAC `m` in kb/s (R249). -/
def Dev.macRate (d : Dev) (m : Nat) : Nat :=
  lanesPerMac (d.fget (Page.pcs (m / 8)) Reg.PCS_MODE_MODE) * 100000000

/-- The shapers refill up to now (R156); rates in kb/s are 10^-6 bit per ns. -/
def Dev.refillPort (d : Dev) (m : Nat) : Dev :=
  let p := Page.sch m
  let v := d.schedOf m
  let dt := d.now - v.at_
  let rate := d.fget p Reg.SCH_PORT_RATE_KBPS
  let tcs := (List.range 8).foldl (fun (v : Sched) t =>
    let r := d.fget p (schTc Reg.SCH_TC_RATE_KBPS t)
    v.setTc t { v.tc t with used := if r = 0 then 0 else (v.tc t).used - r * dt }) v
  d.setSched m { tcs with used := v.used - (if rate = 0 then d.macRate m else rate) * dt, at_ := d.now }

/-- The depth of a port's shapers in 10^-6 bit. -/
def Dev.burst (d : Dev) (m : Nat) : Nat := d.fget (Page.sch m) Reg.SCH_BURST_BYTES * 8000000

def Dev.tcPaused (d : Dev) (m t : Nat) : Bool := bitAt (d.fget (Page.sch m) Reg.SCH_PAUSED_TC) t
def Dev.tcStrict (d : Dev) (m t : Nat) : Bool := d.fbit (Page.sch m) (schTc Reg.SCH_TC_CFG_SP t)
def Dev.quantum (d : Dev) (m t : Nat) : Nat := d.fget (Page.sch m) (schTc Reg.SCH_TC_CFG_QUANTUM t)

/-- An eligible TC (R156): not empty, not paused, its shaper at 0 tokens or more. -/
def Dev.tcEligible (d : Dev) (m t : Nat) : Bool :=
  let x := (d.schedOf m).tc t
  !x.fifo.isEmpty && !d.tcPaused m t && decide (x.used ≤ d.burst m)

/-- The wire length of the copy at the head of a TC. -/
def Dev.headLen (d : Dev) (m t : Nat) : Nat :=
  match ((d.schedOf m).tc t).fifo with
  | [] => 0
  | n :: _ => ((d.copy n).map Copy.wireLen).getD 0

/-- Deficit round robin among `el` (R156): each visit adds QUANTUM, and the TC sends while its head fits. -/
def Dev.roundRobin (d : Dev) (m : Nat) (el : List Nat) : Nat → Sched → Option Nat × Sched
  | 0, v => (none, v)
  | fuel + 1, v =>
    let t := v.cur
    let next := { v with cur := (t + 1) % 8, visited := false }
    if !el.contains t then d.roundRobin m el fuel next
    else
      let x := v.tc t
      let def_ := if v.visited then x.deficit else x.deficit + d.quantum m t
      let len := d.headLen m t
      if len ≤ def_ then (some t, (v.setTc t { x with deficit := def_ - len }) |> fun v => { v with visited := true })
      else d.roundRobin m el fuel ({ next with tcs := (next.setTc t { x with deficit := def_ }).tcs })

/-- The TC to serve next, with the scheduler after the choice (R156). -/
def Dev.selectTc (d : Dev) (m : Nat) : Option Nat × Sched :=
  let v := d.schedOf m
  if d.burst m < v.used then (none, v)
  else
    let el := (List.range 8).filter (d.tcEligible m)
    match (el.filter (d.tcStrict m)).reverse with
    | t :: _ => (some t, v)
    | [] =>
      if el.any (fun t => d.quantum m t != 0 || decide (d.headLen m t ≤ (v.tc t).deficit)) then d.roundRobin m el 129040 v
      else (none, v)

/-- Take the head copy of a TC out of its FIFO; a TC that empties loses its deficit. -/
def Dev.popTc (d : Dev) (m t : Nat) : Dev :=
  let v := d.schedOf m
  let x := v.tc t
  let n := d.copiesCells (x.fifo.take 1)
  let x1 := { x with fifo := x.fifo.drop 1, deficit := if x.fifo.length ≤ 1 then 0 else x.deficit }
  (d.setSched m (v.setTc t x1)).setTcDepth m t (d.tcDepth m t - n)

/-- Charge both shapers of a port with a frame. -/
def Dev.chargePort (d : Dev) (m t len : Nat) : Dev :=
  let v := d.schedOf m
  let x := v.tc t
  d.setSched m { v.setTc t { x with used := x.used + len * 8000000 } with used := v.used + len * 8000000 }

/-- The highest TC that holds a copy. -/
def Dev.fullTc (d : Dev) (m : Nat) : Option Nat :=
  ((List.range 8).reverse).find? (fun t => !((d.schedOf m).tc t).fifo.isEmpty)

/-- Whether a MAC is enabled in effect: it exists, its page and its group's page accept, and no retune is in progress. -/
def Dev.macOn (d : Dev) (m : Nat) : Bool :=
  let g := Page.pcs (m / 8)
  d.macExists m && d.accepts (Page.mac m) && d.accepts g && !d.fbit g Reg.PCS_MODE_BUSY

/-- Whether a MAC may send: UP, enabled, transmit enabled (R255, R267, R269). -/
def Dev.mayTransmit (d : Dev) (m : Nat) : Bool :=
  d.fget (Page.mac m) Reg.MAC_LINK_STATE == 3 && d.macOn m && d.fbit (Page.mac m) Reg.MAC_CFG_TX_EN

/-- A copy in the MAC's hands that has not started is discarded as DEST_DOWN (R158). -/
def Dev.dropUnsent (d : Dev) (m : Nat) : Dev :=
  let v := d.macOf m
  let l := v.parked ++ (if v.sending.isNone then v.slot.toList else [])
  l.foldl (fun (d : Dev) n => d.dropAtPort n m (((d.copy n).map Copy.tc).getD 0) Drop.destDown)
    (d.setMac m { v with parked := [], slot := if v.sending.isNone then none else v.slot })

/-- Whether copies toward a MAC become DEST_DOWN: the link is not UP, the MAC is being disabled, TX_EN is 0, or the port page is
not enabled (R158, R255, R267, R269). -/
def Dev.portDown (d : Dev) (m : Nat) : Bool :=
  !d.fbit (Page.sch m) Reg.SCH_PAUSED_LINK_UP || !d.accepts (Page.sch m) || !d.mayTransmit m

/-- PORT_SCHEDULE (R156, R158, R159): while the link is down, a head copy is discarded as DEST_DOWN; otherwise the copy
selected is handed to the MAC. -/
def Dev.schedulePort (d0 : Dev) (m : Nat) : Dev :=
  let d := d0.refillPort m
  if d.portDown m then
    let d := if d.mayTransmit m then d else d.dropUnsent m
    match d.fullTc m with
    | none => d
    | some t =>
      match ((d.schedOf m).tc t).fifo with
      | [] => d
      | n :: _ => (d.popTc m t).dropAtPort n m t Drop.destDown
  else if (d.macOf m).slot.isSome then d
  else
    let r := d.selectTc m
    let d1 := d.setSched m r.2
    match r.1 with
    | none => d1
    | some t =>
      match ((d1.schedOf m).tc t).fifo with
      | [] => d1
      | n :: _ =>
        let d2 := d1.popTc m t
        match d2.copy n with
        | none => d2
        | some c =>
          if !d2.handleGood c.packet c.gen then d2.staleCopy n c
          else (d2.chargePort m t c.wireLen).setMac m { d2.macOf m with slot := some n }

/-- R156, R158. -/
def execPortSchedule (mac : Nat) (s : State) : Host.Outcome State Fault Refusal :=
  s.become (if mac < 16 then s.dev.schedulePort mac else s.dev)

/-! ## Host delivery (R157) -/

/-- The unused posted entries of a queue: RECV has posted them, and no frame has started in them. -/
def Dev.freeEntries (d : Dev) (q : Nat) : List QueueEntry :=
  (d.queue q).entries.filter (fun e => e.accepted && !e.started && e.ended.isNone)

/-- Whether the copies of a queue that became FREE, or that halted, are to be discarded. -/
def Dev.queueGone (d : Dev) (q : Nat) : Bool := (d.queue q).state == .free || (d.queue q).state == .halted

/-- Whether a frame can start to be placed in a queue: a posted buffer, no frame in progress, the link up. -/
def Dev.queueReady (d : Dev) (q : Nat) : Bool :=
  let st := (d.queue q).state
  !(d.hostFifo q).isEmpty && (st == .run || st == .error) && (d.queue q).placing.isNone && !(d.freeEntries q).isEmpty
    && (d.hostPort (d.qPort q)).linkUp

/-- The rate caps refill up to now. -/
def Dev.refillHost (d : Dev) : Dev :=
  let h := d.host
  let dt := d.now - h.at_
  let rate := d.fget Page.schh Reg.SCHH_MGR_RATE_KBPS
  let used := (h.sUsed.map (fun e =>
    let r := bits (d.wget Page.schh (0x1000 + e.1)) 32 32
    (e.1, if r = 0 then 0 else e.2 - r * dt))).filter (fun e => e.2 != 0)
  { d with host := { h with mgrUsed := if rate = 0 then 0 else h.mgrUsed - rate * dt, sUsed := used, at_ := d.now } }

def Dev.sliceUsed (d : Dev) (s : Nat) : Nat := Sparse.get (blank 0) d.host.sUsed s

/-- Bytes of the copy at the head of a queue's FIFO. -/
def Dev.hostHead (d : Dev) (q : Nat) : Nat :=
  match d.hostFifo q with
  | [] => 0
  | n :: _ => ((d.copy n).map (fun c => c.frame.length)).getD 0

/-- Deficit round robin over members `el` (R157), from member `cur`: a visit adds weight × 256 bytes (log entry 21), and the
member sends while its head fits.  Answers the member, the deficits, and whether its visit goes on. -/
def drr (el : List Nat) (weight head : Nat → Nat) : Nat → Nat → Bool → List (Nat × Nat) → Option Nat × List (Nat × Nat)
  | 0, _, _, df => (none, df)
  | fuel + 1, cur, visited, df =>
    let later := (el.filter (fun k => cur < k) ++ el).headD cur
    if !el.contains cur then drr el weight head fuel later false df
    else
      let have_ := Sparse.get (blank 0) df cur + (if visited then 0 else weight cur * 256)
      if head cur ≤ have_ then (some cur, Sparse.set (blank 0) df cur (have_ - head cur))
      else drr el weight head fuel later false (Sparse.set (blank 0) df cur have_)

/-- Begin to place a copy in its queue, after the check of R18 (R312, R330). -/
def Dev.beginPlacement (d : Dev) (q n : Nat) (c : Copy) : Dev :=
  let p := d.packet c.packet
  if !d.handleGood c.packet c.gen then d.staleCopy n c
  else if !d.qManager q ∧ !d.deliverable (d.qSlice q) (d.queue q).incarnation p.stamp then
    (d.discardStale kindPacket (d.qSlice q) (d.queue q).incarnation p.stamp).endCopy n (some Drop.staleId)
  else
    let d1 := if d.qManager q then d
      else d.wset Page.schh (0x2000 + d.qSlice q) ((d.wget Page.schh (0x2000 + d.qSlice q) + c.frame.length) % 2 ^ 64)
    d1.setQueue q { d1.queue q with placing := some {
      copy := n, bytes := c.frame, fromWire := p.rxTime.isSome, time := p.rxTime, tag := bits (wordAt p.rule 15) 0 24 } }

/-- Take the head copy of a host FIFO. -/
def Dev.popHost (d : Dev) (q : Nat) : Dev :=
  let n := d.copiesCells ((d.hostFifo q).take 1)
  (d.setHostFifo q ((d.hostFifo q).drop 1)).addHostDepth (-(n : Int))

/-- Serve the head copy of queue `q`. -/
def Dev.serveHost (d : Dev) (q : Nat) : Dev :=
  match d.hostFifo q with
  | [] => d
  | n :: _ =>
    match d.copy n with
    | none => d.popHost q
    | some c => (d.popHost q).beginPlacement q n c

/-- The slice queue that SCHH serves next, with its round robins (R157). -/
def Dev.selectSlice (d : Dev) (qs : List Nat) : Option Nat × HostSched :=
  let h := d.host
  let slices := ((qs.map d.qSlice).dedup).mergeSort (· ≤ ·) |>.filter (fun s => d.sliceUsed s == 0)
  let inSlice (s : Nat) := qs.filter (fun q => d.qSlice q == s)
  let qHead (s : Nat) : Nat :=
    ((drr (inSlice s) d.qWeight d.hostHead 129040 (Sparse.get (blank 0) h.queue s) (Sparse.get (blank false) h.qVisited s)
      h.qDeficit).1.map d.hostHead).getD 0
  let weight (s : Nat) := bits (d.wget Page.schh (0x1000 + s)) 0 16
  let r := drr (slices.filter (fun s => weight s != 0)) weight qHead 129040 h.slice h.sVisited h.sDeficit
  match r.1 with
  | none => (none, h)
  | some s =>
    let k := drr (inSlice s) d.qWeight d.hostHead 129040 (Sparse.get (blank 0) h.queue s) (Sparse.get (blank false) h.qVisited s)
      h.qDeficit
    match k.1 with
    | none => (none, h)
    | some q =>
      (some q, { h with
        slice := s, sVisited := true, sDeficit := r.2, qDeficit := k.2
        queue := Sparse.set (blank 0) h.queue s q, qVisited := Sparse.set (blank false) h.qVisited s true
        sUsed := Sparse.set (blank 0) h.sUsed s (if bits (d.wget Page.schh (0x1000 + s)) 32 32 = 0 then 0
          else d.sliceUsed s + d.hostHead q * 8000000) })

/-- HOST_DELIVERY (R157): copies of queues that are gone are discarded; manager queues go first, within SCHH_MGR_RATE; then
slices and their queues by DWRR. -/
def Dev.deliverHost (d0 : Dev) : Dev :=
  let d := d0.refillHost
  let all := (d.host.queues.map (·.1))
  match all.find? d.queueGone with
  | some q =>
    (match d.hostFifo q with
    | [] => d
    | n :: _ => (d.popHost q).dropCopy n Drop.destDown)
  | none =>
    if !d.accepts Page.schh then d
    else
      let ready := all.filter d.queueReady
      let mgr := ready.filter d.qManager
      match mgr, d.host.mgrUsed with
      | q :: _, 0 =>
        let len := if d.fget Page.schh Reg.SCHH_MGR_RATE_KBPS = 0 then 0 else d.hostHead q * 8000000
        { d with host := { d.host with mgrUsed := len } }.serveHost q
      | _, _ =>
        let r := d.selectSlice (ready.filter (fun q => !d.qManager q))
        match r.1 with
        | none => d
        | some q => { d with host := r.2 }.serveHost q

/-- R157. -/
def execHostDelivery (s : State) : Host.Outcome State Fault Refusal := s.become s.dev.deliverHost

end Sys2Proof.Machine
end

