-- ==== Sys2Proof/Machine/Crucible.lean ====
section
/-!
DEFINITION. Admission to the crucible (R159-R162): wire frames, host frames, and the return of unused cells.
-/

namespace Sys2Proof.Machine

/-- How CRU places a frame: nowhere for a reason, or so many cells on-die and deep (R161). -/
inductive Admission where
  | drop (reason : Nat)
  | take (die deep : Nat)
  deriving DecidableEq, Repr

/-- Free deep cells that admission may use. -/
def Dev.usableDeep (d : Dev) : Nat := if d.fbit Page.cru Reg.CRU_DEEP_CTL_ENABLE then d.freeDeep else 0

/-- Placement of `n` cells with `u` on-die cells usable (R161). -/
def Dev.placeCells (d : Dev) (n u : Nat) : Admission :=
  if n - 2 ≤ d.usableDeep ∧ (d.freeDie < d.fget Page.cru Reg.CRU_SPILL_THR_CELLS ∨ u < n) ∧ 2 ≤ u ∧ 2 < n then .take 2 (n - 2)
  else if n ≤ u then .take n 0
  else .drop Drop.admitNobuf

/-- The admission decision for pool `i` (R161). -/
def Dev.admission (d : Dev) (i : Nat) : Admission :=
  let reserve := d.fget Page.cru Reg.CRU_RESERVE_CELLS
  if !d.accepts Page.cru then .drop Drop.admitNobuf
  else if d.poolLossless i then
    if d.poolXoff i + d.poolHeadroom i ≤ d.poolUsage i then .drop Drop.admitHeadroom else d.placeCells 63 d.freeDie
  else if d.poolLimit i < d.poolUsage i + 63 then .drop Drop.admitSrcLimit
  else d.placeCells 63 (d.freeDie - reserve)

/-- Add to one part of a pool's statistics (R167): 0 admitted, 1 dropped, 2 spilled. -/
def Dev.countPool (d : Dev) (i part n : Nat) : Dev :=
  let v := d.wget Page.cru (0x200 + i)
  d.wset Page.cru (0x200 + i) (setBits v (64 * part) 64 (bits v (64 * part) 64 + n))

/-- Allocate the cells of a packet; its head cell takes its next generation (R159). -/
def Dev.newPacket (d : Dev) (die deep : Nat) (mk : Nat → List (Nat × Nat) → Packet) : Nat × Dev :=
  let r := d.allocCells die
  let head := (r.1.headD (0, 0)).1
  let gen := Sparse.get (blank 0) r.2.headGen head + 1
  let k := r.2.allocDeep deep
  let d1 := { k.2 with headGen := Sparse.set (blank 0) r.2.headGen head gen }
  (head, d1.setPacket head { mk gen r.1 with deepCells := k.1, arrived := d.now, sec := d.tim.sec, ns := d.tim.ns })

/-- The next sequence number of a source (R16). -/
def Dev.nextSeq (d : Dev) (source : Nat) : Nat × Dev :=
  let n := Sparse.get (blank 0) d.srcSeq source
  (n, { d with srcSeq := Sparse.set (blank 0) d.srcSeq source (n + 1) })

/-- The first bytes of a frame arrive from MAC `m` with priority `p` (R161): the head cell once admitted. -/
def Dev.admitFrame (d : Dev) (m p : Nat) (rx : Nat × Nat × Nat) : Option Nat × Dev :=
  let i := poolIndex m p
  match d.admission i with
  | .drop reason =>
    let d1 := ((d.countDrop reason).countPool i 1 1).pulse 217
    (none, if reason = Drop.admitHeadroom then (d1.latchFault Page.cru FaultBit.cru_HEADROOM).pulse 218 else d1)
  | .take die deep =>
    let r := d.newPacket die deep (fun gen cells => {
      gen := gen, srcKind := 0, srcId := m, pool := some i, cells := cells, rxTime := some rx })
    (some r.1, (r.2.countPool i 0 1).setPoolUsage i (d.poolUsage i + die + deep))

/-- Keep `n` cells of an admitted frame and return the rest (R161); the deep cells that it keeps count as spilled (R167). -/
def Dev.trimCells (d : Dev) (h n : Nat) : Dev :=
  let p := d.packet h
  let die := rangeCount p.cells
  let deep := min (rangeCount p.deepCells) (n - die)
  let keep := takeCells (min n die) p.cells
  let far := takeCells deep p.deepCells
  let left := rangeCount keep.2 + rangeCount far.2
  let d1 := ((d.setPacket h { p with cells := keep.1, deepCells := far.1 }).freeCells keep.2).returnDeep far.2
  let d2 := match p.pool with
    | some i => (d1.countSpill deep).countPool i 2 deep
    | none => d1
  d2.poolReturn p.pool left

/-- An admitted frame is discarded before it is complete (R252): its cells return. -/
def Dev.discardFrame (d : Dev) (h : Nat) : Dev := d.retire h

/-- A frame is complete: it keeps the cells it needs, takes its sequence number, and waits for dispatch (R16, R53). -/
def Dev.completeFrame (d : Dev) (h : Nat) (bytes : List Byte) : Dev :=
  let d1 := d.trimCells h (cellsOf bytes.length)
  let r := d1.nextSeq (d1.packet h).source
  (r.2.modPacket h (fun p => { p with bytes := bytes, seq := r.1 })).queueFirst h

end Sys2Proof.Machine
end

