-- ==== Sys2Proof/Machine/Mailbox.lean ====
section
/-!
DEFINITION. The wide-value mailbox of a page (R43): a selection, the captured data, and a selection that is refused.
-/

namespace Sys2Proof.Machine

/-- A write of WMB_SEL: SEQ advances, INDEX is recorded, VALID and ERR clear. -/
def Dev.wmbSelect (d : Dev) (p index : Nat) : Dev :=
  ((((d.count p Hdr.wmbSeq).fset p Hdr.wmbIndex index).fset p Hdr.wmbValid 0).fset p Hdr.wmbErr 0)

/-- The captured value stands in WMB_D0-WMB_D5, and VALID is set. -/
def Dev.wmbAnswer (d : Dev) (p v : Nat) : Dev :=
  ((List.range 6).foldl (fun (d : Dev) n => d.wr (p + Hdr.wmbData n) (BitVec.ofNat 32 (bits v (32 * n) 32))) d).fset
    p Hdr.wmbValid 1

/-- A commit is complete. -/
def Dev.wmbDone (d : Dev) (p : Nat) : Dev := d.fset p Hdr.wmbValid 1

/-- An undefined index or a refused commit: ERR, VALID and BLK_FAULT.ACCESS. -/
def Dev.wmbRefuse (d : Dev) (p : Nat) : Dev := ((d.fset p Hdr.wmbErr 1).fset p Hdr.wmbValid 1).accessFault p

/-- The value that WMB_D0-WMB_D5 hold. -/
def Dev.wmbData (d : Dev) (p : Nat) : Nat :=
  ((List.range 6).map (fun n => (d.rd (p + Hdr.wmbData n)).toNat * 2 ^ (32 * n))).sum

end Sys2Proof.Machine
end

