-- ==== Sys2Proof/Machine/Macs.lean ====
section
/-!
DEFINITION. MACs and port groups (chapter 10): receive checks, tags and priorities, link states, flow control and its
watchdog, transmit, statistics, timestamps, and the cages.
-/

namespace Sys2Proof.Machine

/-! ## Frames -/

/-- One bit step of the Ethernet FCS register (reflected polynomial 0xEDB8_8320, IEEE 802.3; log entry 4). -/
def fcsShift : Nat → Word → Word
  | 0, c => c
  | n + 1, c => fcsShift n (if c.getLsbD 0 then (c >>> 1) ^^^ 0xEDB88320#32 else c >>> 1)

/-- The FCS of a frame, as the four bytes that follow it. -/
def fcsOf (bs : List Byte) : List Byte :=
  toLe 4 (bs.foldl (fun c b => fcsShift 8 (c ^^^ b.zeroExtend 32)) 0xFFFFFFFF#32 ^^^ 0xFFFFFFFF#32).toNat

/-- A received frame whose last four bytes are its FCS. -/
def fcsGood (bs : List Byte) : Bool := decide (4 ≤ bs.length) && bs.drop (bs.length - 4) == fcsOf (bs.take (bs.length - 4))

/-- Pad a frame without FCS to 60 bytes (R253). -/
def padFrame (bs : List Byte) : List Byte := bs ++ List.replicate (60 - bs.length) 0

/-- A MAC control frame (R252). -/
def isControl (bs : List Byte) : Bool := be16 bs 12 == 0x8808

/-- The destination of PAUSE and PFC frames. -/
def pauseDa : List Byte := [0x01, 0x80, 0xC2, 0x00, 0x00, 0x01]

/-! ## Counters and registers -/

/-- Add `n` to live counter `idx` of the snapshot set (R260, R270). -/
def Dev.countMac (d : Dev) (m idx : Nat) (n : Nat := 1) : Dev :=
  let v := d.macOf m
  let c := Sparse.get (blank 0) v.counters idx
  d.setMac m { v with counters := Sparse.set (blank 0) v.counters idx ((c + n) % 2 ^ 64) }

/-- MAC_LINK.STATE (R255): 0 DISABLED, 1 DOWN, 2 ALIGN, 3 UP, 4 FAULT. -/
def Dev.linkState (d : Dev) (m : Nat) : Nat := d.fget (Page.mac m) Reg.MAC_LINK_STATE
def Dev.linkUpAt (d : Dev) (m : Nat) : Bool := d.linkState m == 3

/-- What a MAC sends (R255): outside UP, remote fault while it receives local fault or is in DOWN or ALIGN, and idles in FAULT
otherwise.  That a disabled MAC sends nothing is DESIGN CHOICE (log entry 120). -/
def Dev.lineSignal (d : Dev) (m : Nat) : LineSignal :=
  match d.linkState m with
  | 0 => .off
  | 3 => .traffic
  | 4 => if d.fbit (Page.mac m) Reg.MAC_LINK_RX_LOCAL_FAULT then .remoteFault else .idle
  | _ => .remoteFault

/-- A change of the link of MAC `m` by `f`, with what the wire shows of it. -/
def Dev.withSignal (d : Dev) (m : Nat) (f : Dev → Dev) : Dev :=
  let e := f d
  if e.lineSignal m = d.lineSignal m then e else e.emit (.signal m (e.lineSignal m))

/-- The PTP time as units of 2^-16 ns with a signed correction (R262). -/
def Dev.stampTime (d : Dev) (adj : Nat) : Nat × Nat × Nat :=
  let t : Int := ((d.tim.sec * 1000000000 + d.tim.ns) * 65536 + d.tim.frac : Nat)
  let u := Int.toNat (t + signed 32 adj)
  (u / 65536 / 1000000000 % 2 ^ 48, u / 65536 % 1000000000, u % 65536)

/-! ## Pause state (R256) -/

def Mac.timer (v : Mac) (n : Nat) : Nat := Sparse.get (blank 0) v.timers n
def Mac.setTimer (v : Mac) (n t : Nat) : Mac := { v with timers := Sparse.set (blank 0) v.timers n t }

/-- Whether the running timers stop TC `t`; 8 stands for the whole port under PAUSE. -/
def Mac.wants (v : Mac) (t : Nat) : Bool := v.timers.any (fun e => e.2 == t + 1)

/-- The time TC `t` (or the port, 8) has been stopped so far is added to its counter, saturating (R270). -/
def Dev.addPaused (d : Dev) (m t ns : Nat) : Dev :=
  let one (d : Dev) (k : Nat) : Dev :=
    let v := d.macOf m
    let c := Sparse.get (blank 0) v.counters (0x2C + k / 2)
    let lo := 32 * (k % 2)
    d.setMac m { v with counters := Sparse.set (blank 0) v.counters (0x2C + k / 2) (setBits c lo 32 (sat32 (bits c lo 32 + ns))) }
  if t = 8 then (List.range 8).foldl one d else one d t

/-- Whether a copy's TC, or the whole port, is stopped (R256). -/
def Dev.copyStopped (d : Dev) (m n : Nat) : Bool :=
  let st := (d.macOf m).stopped
  Sparse.get (blank 0) st 8 != 0 || Sparse.get (blank 0) st (((d.copy n).map Copy.tc).getD 0) != 0

/-- A selected copy that has not started when its TC stops is set aside, so that other TCs continue (R256); the oldest one set
aside whose TC has resumed takes a free slot. -/
def Dev.settleSlot (d : Dev) (m : Nat) : Dev :=
  let v := d.macOf m
  let aside := if v.sending.isNone then v.slot.toList.filter (d.copyStopped m) else []
  let held := v.parked ++ aside
  let slot := if aside.isEmpty then v.slot else none
  if slot.isSome then d
  else match held.find? (fun n => !d.copyStopped m n) with
    | some n => d.setMac m { v with slot := some n, parked := held.filter (· != n) }
    | none => d.setMac m { v with slot := none, parked := held }

/-- TCs follow their timers (R256): a running timer stops its TC at the end of the frame in transmission; a TC with no
timer resumes.  SCH_PAUSED.TC shows the stopped TCs, 0xFF under PAUSE. -/
def Dev.updatePaused (d : Dev) (m : Nat) : Dev :=
  let d1 := (List.range 9).foldl (fun (d : Dev) t =>
    let v := d.macOf m
    let since := Sparse.get (blank 0) v.stopped t
    if v.wants t then
      if since = 0 ∧ v.sending.isNone then d.setMac m { v with stopped := Sparse.set (blank 0) v.stopped t (d.now + 1) } else d
    else if since = 0 then d
    else (d.addPaused m t (d.now + 1 - since)) |> fun d =>
      d.setMac m { d.macOf m with stopped := Sparse.set (blank 0) (d.macOf m).stopped t 0 }) d
  let st := (d1.macOf m).stopped
  let on (t : Nat) : Nat := if Sparse.get (blank 0) st t = 0 then 0 else 2 ^ t
  let mask := if Sparse.get (blank 0) st 8 = 0 then ((List.range 8).map on).sum else 0xFF
  (d1.fset (Page.sch m) Reg.SCH_PAUSED_TC mask).settleSlot m

/-- Load a pause timer (R256): a time of 0 ends the pause at once. -/
def Dev.loadTimer (d : Dev) (m timer tc time : Nat) : Dev :=
  d.setMac m ((d.macOf m).setTimer timer (if time = 0 then 0 else tc + 1))

/-- TC paused by class `n` (R256). -/
def Dev.pfcTc (d : Dev) (m n : Nat) : Nat := bits (d.fget (Page.mac m) Reg.MAC_PFC_MAP_MAP) (3 * n) 3

/-- Whether received pause for a TC (8: the port) is ignored after the watchdog (R257). -/
def Dev.pauseIgnored (d : Dev) (m t : Nat) : Bool := bitAt (d.macOf m).ignored t

/-- A PAUSE frame with a valid FCS (R252, R256, R257). -/
def Dev.takePause (d : Dev) (m time : Nat) : Dev :=
  if d.fget (Page.mac m) Reg.MAC_CFG_FC_MODE ≠ 1 then d.countMac m 0x21
  else if d.linkState m ≠ 3 then d
  else if d.pauseIgnored m 8 then d.countMac m 0x21
  else (d.loadTimer m 8 8 time).updatePaused m

/-- A PFC frame with a valid FCS (R252, R256, R257). -/
def Dev.takePfc (d : Dev) (m : Nat) (bs : List Byte) : Dev :=
  let on := (List.range 8).filter (fun n => bitAt (be16 bs 16) n)
  let d1 := on.foldl (fun (d : Dev) n => d.countMac m (0x24 + n)) d
  if d.fget (Page.mac m) Reg.MAC_CFG_FC_MODE ≠ 2 then d1.countMac m 0x21
  else if d.linkState m ≠ 3 then d1
  else
    let d2 := if on.any (fun n => d.pauseIgnored m (d.pfcTc m n)) then d1.countMac m 0x21 else d1
    (on.foldl (fun (d : Dev) n =>
      if d.pauseIgnored m (d.pfcTc m n) then d else d.loadTimer m n (d.pfcTc m n) (be16 bs (18 + 2 * n))) d2).updatePaused m

/-- A control frame with a valid FCS is consumed (R252). -/
def Dev.takeControl (d : Dev) (m : Nat) (bs : List Byte) : Dev :=
  let d1 := d.countMac m 0x16
  if bs.take 6 = pauseDa ∧ be16 bs 14 = 0x0001 then d1.takePause m (be16 bs 16)
  else if bs.take 6 = pauseDa ∧ be16 bs 14 = 0x0101 then d1.takePfc m bs
  else d1.countMac m 0x17

/-! ## Receive (R252-R254) -/

/-- The tag that an untagged frame receives (R253), as MAC_TAG_CTL stands. -/
def Dev.pvidTag (d : Dev) (m : Nat) : Option (List Byte) :=
  let p := Page.mac m
  if d.fbit p Reg.MAC_TAG_CTL_RX_PVID_EN then
    some (toBe 2 (if d.fbit p Reg.MAC_TAG_CTL_RX_SVLAN then 0x88A8 else 0x8100) ++ toBe 2 (d.fget p Reg.MAC_TAG_TCI_PVID_TCI))
  else none

/-- The frame as the gaffer sees it, with the tag in effect at its first byte (R253, R267). -/
def taggedFrame (tag : Option (List Byte)) (bs : List Byte) : List Byte :=
  match tag with
  | some t => if !isTpid (be16 bs 12) ∧ 12 ≤ bs.length then bs.take 12 ++ t ++ bs.drop 12 else bs
  | none => bs

/-- The ingress priority of a frame after R253 (R254). -/
def Dev.priorityOf (d : Dev) (m : Nat) (bs : List Byte) : Nat :=
  if isTpid (be16 bs 12) ∧ 15 ≤ bs.length then bits (d.fget (Page.mac m) Reg.MAC_PCP_MAP_MAP) (3 * (byteAt bs 14 / 32)) 3
  else d.fget (Page.mac m) Reg.MAC_PCP_MAP_DEF_PRIO

/-- Whether a MAC takes frames: control frames also in FAULT (R252, R255, R267); none once its ENABLE is cleared. -/
def Dev.receives (d : Dev) (m : Nat) (control : Bool) : Bool :=
  d.macOn m && d.fbit (Page.mac m) Reg.MAC_CFG_RX_EN && (d.linkState m == 3 || (control && d.linkState m == 4))

/-- The first bytes of a frame arrive (R161, R254, R262): its receive time is taken and, unless it is a control frame, CRU
decides on its admission. -/
def Dev.arriveFrame (d : Dev) (m : Nat) (head : List Byte) : Dev :=
  let v := d.macOf m
  if v.rxBusy ∨ !d.receives m (isControl head) then d
  else
    let t := d.stampTime (d.fget (Page.mac m) Reg.MAC_TS_RX_ADJ_ADJ)
    let tag := d.pvidTag m
    let d1 := d.setMac m { v with rxBusy := true, rx := none, rxTime := t, rxTag := tag }
    if isControl head then d1
    else
      let r := d1.admitFrame m (d.priorityOf m (taggedFrame tag head)) t
      r.2.setMac m { r.2.macOf m with rx := r.1 }

/-- R161, R254. -/
def execFrameArrival (mac : Nat) (head : List Byte) (s : State) : Host.Outcome State Fault Refusal :=
  s.become (if mac < 16 then s.dev.arriveFrame mac head else s.dev)

/-- A frame in reception is discarded (R252): the counter of its cause, and its cells return. -/
def Dev.rejectFrame (d : Dev) (m idx : Nat) : Dev :=
  match (d.macOf m).rx with
  | some h => (d.countMac m idx).discardFrame h
  | none => d.countMac m idx

def Dev.setLink (d : Dev) (m st : Nat) : Dev :=
  d.withSignal m (fun d => (d.fset (Page.mac m) Reg.MAC_LINK_STATE st).fset (Page.sch m) Reg.SCH_PAUSED_LINK_UP (b2n (st == 3)))

/-- The copies in the MAC's hands end because the link left UP (R255): a frame being sent counts in TX_ABORT and as having left;
copies not yet started are discarded as DEST_DOWN (R158). -/
def Dev.abortTransmit (d : Dev) (m : Nat) : Dev :=
  let d1 := d.dropUnsent m
  let v := d1.macOf m
  let d2 := d1.setMac m { v with slot := none, sending := none, missed := false }
  match v.slot with
  | none => d2
  | some n => (d2.countMac m 0x1B).endCopy n none

/-- The link leaves UP (R255): event 115, LINK_DOWN and its count; a frame being received ends as a code error (R252). -/
def Dev.leaveUp (d : Dev) (m st : Nat) : Dev :=
  let d1 := if (d.macOf m).rxBusy then (d.rejectFrame m 0x15) |> fun d => d.setMac m { d.macOf m with rxBusy := false, rx := none }
    else d
  let d2 := ((d1.setLink m st).abortTransmit m).pulse 115
  ((d2.latchFault (Page.mac m) FaultBit.mac_LINK_DOWN).count (Page.mac m) Reg.MAC_LINKDOWN_CNT_CNT).updatePaused m

/-- Move to another link state, leaving UP when the link was up and entering it with event 115. -/
def Dev.moveLink (d : Dev) (m st : Nat) : Dev :=
  if d.linkState m = st then d
  else if d.linkState m = 3 then d.leaveUp m st
  else if st = 3 then (d.setLink m 3).pulse 115
  else d.setLink m st

def Dev.allLock (d : Dev) (m : Nat) : Bool := d.fbit (Page.mac m) Reg.MAC_LINK_ALL_LOCK

/-- A MAC in DOWN whose lanes are locked and aligned enters ALIGN (R255). -/
def Dev.alignMac (d : Dev) (m : Nat) : Dev := if d.linkState m = 1 ∧ d.allLock m then d.setLink m 2 else d

/-- A MAC follows its enables (R255, R267, R268): to DOWN, and on to ALIGN with lock; to DISABLED once the frames in progress
have ended. -/
def Dev.refreshMac (d : Dev) (m : Nat) : Dev :=
  if d.macOn m then
    if d.linkState m = 0 then (d.setLink m 1).alignMac m else d
  else if d.linkState m ≠ 0 ∧ (d.macOf m).sending.isNone ∧ !(d.macOf m).rxBusy then d.moveLink m 0 else d

/-- Every MAC of group `g` follows its enables. -/
def Dev.refreshGroup (d : Dev) (g : Nat) : Dev := (List.range 8).foldl (fun (d : Dev) i => d.refreshMac (8 * g + i)) d

/-- The end of a received frame (R252): code error, oversize, runt and FCS in this order (log entry 22).  A MAC whose ENABLE was
cleared meanwhile goes to DISABLED (R267). -/
def Dev.endFrame (d : Dev) (m : Nat) (bs : List Byte) (codeError : Bool) : Dev :=
  let v := d.macOf m
  if !v.rxBusy then d
  else
    let tagged := taggedFrame v.rxTag bs
    let d1 :=
      if codeError then d.rejectFrame m 0x15
      else if d.fget (Page.mac m) Reg.MAC_MAX_FRAME_BYTES < tagged.length then d.rejectFrame m 0x14
      else if bs.length < 64 then d.rejectFrame m 0x13
      else if !fcsGood bs then d.rejectFrame m 0x12
      else if isControl bs then
        (match v.rx with
        | some h => (d.discardFrame h).takeControl m bs
        | none => d.takeControl m bs)
      else
        let d2 := (d.countMac m 0x10).countMac m 0x11 bs.length
        match v.rx with
        | some h => d2.completeFrame h tagged
        | none => d2
    (d1.setMac m { d1.macOf m with rxBusy := false, rx := none, rxTag := none }).refreshMac m

/-- R252. -/
def execFrameReceiveEnd (mac : Nat) (bytes : List Byte) (codeError : Bool) (s : State) : Host.Outcome State Fault Refusal :=
  s.become (if mac < 16 then s.dev.endFrame mac bytes codeError else s.dev)

/-- A whole control frame of one opcode has been received: it is judged as every frame is (R252).  A frame in reception beside it
stays as it is. -/
def Dev.receiveControl (d : Dev) (m op : Nat) (bs : List Byte) : Dev :=
  if d.receives m true ∧ isControl bs ∧ bs.take 6 = pauseDa ∧ be16 bs 14 = op then
    let v := d.macOf m
    let e := (d.setMac m { v with rxBusy := true, rx := none, rxTag := d.pvidTag m }).endFrame m bs false
    if v.rx.isSome then e.setMac m { e.macOf m with rxBusy := v.rxBusy, rx := v.rx, rxTag := v.rxTag } else e
  else d

/-- R256. -/
def execPauseReceive (mac : Nat) (bytes : List Byte) (s : State) : Host.Outcome State Fault Refusal :=
  s.become (if mac < 16 then s.dev.receiveControl mac 0x0001 bytes else s.dev)

/-- R256. -/
def execPfcReceive (mac : Nat) (bytes : List Byte) (s : State) : Host.Outcome State Fault Refusal :=
  s.become (if mac < 16 then s.dev.receiveControl mac 0x0101 bytes else s.dev)

/-- R256: a pause timer reaches 0. -/
def execPauseTimerExpiry (mac timer : Nat) (s : State) : Host.Outcome State Fault Refusal :=
  s.become (if mac < 16 ∧ (s.dev.macOf mac).timer timer ≠ 0 then (s.dev.loadTimer mac timer 0 0).updatePaused mac else s.dev)

/-- The pause watchdog (R257): the TC's timers clear and it resumes; its pause is ignored for the hold time. -/
def Dev.pauseWatchdog (d : Dev) (m t : Nat) : Dev :=
  let v := d.macOf m
  if d.fget (Page.mac m) Reg.MAC_PAUSE_WDOG_US = 0 ∨ Sparse.get (blank 0) v.stopped t = 0 then d
  else
    let d1 := (d.setMac m { v with
      timers := v.timers.filter (fun e => e.2 != t + 1), ignored := if bitAt v.ignored t then v.ignored else v.ignored + 2 ^ t
      }).updatePaused m
    ((d1.count (Page.mac m) Reg.MAC_WDOG_CNT_CNT).latchFault (Page.mac m) FaultBit.mac_PAUSE_WDOG).pulse 116

/-- R257. -/
def execPauseWatchdog (mac tc : Nat) (s : State) : Host.Outcome State Fault Refusal :=
  s.become (if mac < 16 ∧ tc ≤ 8 then s.dev.pauseWatchdog mac tc else s.dev)

/-- R257: the hold ends. -/
def execPauseHoldEnd (mac tc : Nat) (s : State) : Host.Outcome State Fault Refusal :=
  s.become (
    let v := s.dev.macOf mac
    if mac < 16 ∧ bitAt v.ignored tc then s.dev.setMac mac { v with ignored := v.ignored - 2 ^ tc } else s.dev)

/-! ## Link state (R255, R268) -/

/-- The SerDes lanes of a MAC (R249). -/
def Dev.macLanes (d : Dev) (m : Nat) : List Nat :=
  if d.macExists m then (List.range (lanesPerMac (d.fget (Page.pcs (m / 8)) Reg.PCS_MODE_MODE))).map (m + ·) else []

/-- Lock is lost (R255): bit j of `lost` names a lane m + j that lost its clock, bit j of `dark` one whose signal went; with
none, the alignment-marker lock of FEC went. -/
def Dev.loseLock (d : Dev) (m lost dark : Nat) : Dev :=
  let d1 := (d.macLanes m).foldl (fun (d : Dev) k =>
    let v := d.lane k
    d.setLane k { v with lock := v.lock && !bitAt lost (k - m), signal := v.signal && !bitAt dark (k - m) }) d
  let d2 := d1.fset (Page.mac m) Reg.MAC_LINK_ALL_LOCK 0
  if d2.linkState m = 0 then d2 else d2.moveLink m 1

/-- The links of the MACs of `sel` lose lock and leave UP (R255, R266, R424), with the clock of their lanes and the signal on
them or without. -/
def Dev.dropMacs (d : Dev) (sel : Nat → Bool) (clock signal : Bool) : Dev :=
  (List.range 16).foldl (fun (d : Dev) m => if sel m then d.loseLock m (if clock then 0xFF else 0) (if signal then 0xFF else 0) else d) d

/-- R255. -/
def execLaneLockLoss (mac lost dark : Nat) (s : State) : Host.Outcome State Fault Refusal :=
  s.become (if mac < 16 then s.dev.loseLock mac lost dark else s.dev)

/-- Every lane of a MAC is locked and aligned (R255), with the receive SNR of each (R271). -/
def Dev.takeLock (d : Dev) (m : Nat) (snr : List Nat) : Dev :=
  let d1 := (d.macLanes m).foldl (fun (d : Dev) k =>
    d.setLane k { lock := true, signal := true, snr := snr.getD (k - m) 0 % 256 }) d
  (d1.fset (Page.mac m) Reg.MAC_LINK_ALL_LOCK 1).alignMac m

/-- R255. -/
def execLaneLockAcquire (mac : Nat) (snr : List Nat) (s : State) : Host.Outcome State Fault Refusal :=
  s.become (if mac < 16 then s.dev.takeLock mac snr else s.dev)

/-- Whether fault sequences are being received. -/
def Dev.rsFault (d : Dev) (m : Nat) : Bool :=
  d.fbit (Page.mac m) Reg.MAC_LINK_RX_LOCAL_FAULT || d.fbit (Page.mac m) Reg.MAC_LINK_RX_REMOTE_FAULT

/-- R255: UP_HOLD ms have passed in ALIGN or FAULT without fault sequences and with lock held. -/
def execUpHoldExpiry (mac : Nat) (s : State) : Host.Outcome State Fault Refusal :=
  s.become (
    let d := s.dev
    if mac < 16 ∧ (d.linkState mac = 2 ∨ d.linkState mac = 4) ∧ d.allLock mac ∧ !d.rsFault mac then d.moveLink mac 3 else d)

/-- R255: local or remote fault sequences start or stop. -/
def execFaultSequenceReceive (mac : Nat) (localFault remoteFault : Bool) (s : State) : Host.Outcome State Fault Refusal :=
  s.become (if mac < 16 then
    s.dev.withSignal mac (fun d => (d.fset (Page.mac mac) Reg.MAC_LINK_RX_LOCAL_FAULT (b2n localFault)).fset (Page.mac mac)
      Reg.MAC_LINK_RX_REMOTE_FAULT (b2n remoteFault)) |> fun d =>
    if d.linkState mac = 3 ∧ (localFault ∨ remoteFault) then d.moveLink mac 4 else d
  else s.dev)

/-- A window of 1 ms of FEC statistics ends (R255, R270). -/
def Dev.fecWindow (d : Dev) (m corrected uncorrectable symbols : Nat) : Dev :=
  let p := Page.mac m
  let d1 := ((d.countMac m 0x1E corrected).countMac m 0x1F uncorrectable).countMac m 0x20 symbols
  if d.fget p Reg.MAC_FEC_DEGRADE_THR < symbols then
    ((d1.fset p Reg.MAC_LINK_FEC_DEGRADED 1).latchFault p FaultBit.mac_FEC_DEGRADED).pulse 126
  else d1.fset p Reg.MAC_LINK_FEC_DEGRADED 0

/-- R255. -/
def execFecDegradeWindow (mac corrected uncorrectable symbols : Nat) (s : State) : Host.Outcome State Fault Refusal :=
  s.become (if mac < 16 then s.dev.fecWindow mac corrected uncorrectable symbols else s.dev)

/-! ## Flow control sent (R258) -/

/-- The source address of pause frames. -/
def Dev.macSa (d : Dev) (m : Nat) : List Byte :=
  toBe 2 (d.fget (Page.mac m) Reg.MAC_SA_HI_SA) ++ toBe 4 (d.fget (Page.mac m) Reg.MAC_SA_LO_SA)

/-- A PAUSE frame with a time, and a PFC frame for one class with a time (Annex 31B, IEEE 802.1Qbb). -/
def Dev.pauseFrame (d : Dev) (m time : Nat) : List Byte := pauseDa ++ d.macSa m ++ toBe 2 0x8808 ++ toBe 2 0x0001 ++ toBe 2 time
def Dev.pfcFrame (d : Dev) (m cls time : Nat) : List Byte :=
  pauseDa ++ d.macSa m ++ toBe 2 0x8808 ++ toBe 2 0x0101 ++ toBe 2 (2 ^ cls)
    ++ (List.range 8).flatMap (fun n => toBe 2 (if n = cls then time else 0))

/-- Send a flow-control frame. -/
def Dev.sendControl (d : Dev) (m : Nat) (bs : List Byte) : Dev :=
  (d.countMac m 0x1D).emit (.wire m (padFrame bs ++ fcsOf (padFrame bs)) true)

/-- Whether the MAC may start a frame now: it may send, and stands at a frame boundary. -/
def Dev.atBoundary (d : Dev) (m : Nat) : Bool := d.mayTransmit m && (d.macOf m).sending.isNone

/-- Whether any lossless pool of a MAC is in XOFF. -/
def Dev.anyXoff (d : Dev) (m : Nat) : Bool := (List.range 8).any (fun p => d.xoffOf (poolIndex m p))

/-- Whether a flow-control frame is due for a class (8: the port): its state differs from what the peer was told, or XOFF holds and
a refresh waits for the boundary (R258). -/
def Dev.flowDue (d : Dev) (m cls : Nat) : Bool :=
  let v := d.macOf m
  let on := if cls = 8 then d.anyXoff m else d.xoffOf (poolIndex m cls)
  on != bitAt v.told cls || (on && bitAt v.refresh cls)

/-- The peer of MAC `m` is told the state of a class (8: the port). -/
def Dev.tell (d : Dev) (m cls : Nat) (on : Bool) : Dev :=
  let v := d.macOf m
  d.setMac m { v with told := setBits v.told cls 1 (b2n on), refresh := setBits v.refresh cls 1 0 }

/-- FLOW_CONTROL_FRAME_SEND (R258): the first class for which a frame is due, or the port's frame. -/
def Dev.sendFlowControl (d : Dev) (m : Nat) : Dev :=
  let quanta := d.fget (Page.mac m) Reg.MAC_FC_TX_QUANTA
  let mode := d.fget (Page.mac m) Reg.MAC_CFG_FC_MODE
  if !d.atBoundary m then d
  else if mode = 2 then
    match (List.range 8).find? (d.flowDue m) with
    | none => d
    | some p =>
      let on := d.xoffOf (poolIndex m p)
      (d.tell m p on).sendControl m (d.pfcFrame m p (if on then quanta else 0))
  else if mode = 1 ∧ d.flowDue m 8 then
    (d.tell m 8 (d.anyXoff m)).sendControl m (d.pauseFrame m (if d.anyXoff m then quanta else 0))
  else d

/-- R258. -/
def execFlowControlFrameSend (mac : Nat) (s : State) : Host.Outcome State Fault Refusal :=
  s.become (if mac < 16 then s.dev.sendFlowControl mac else s.dev)

/-- Every flow-control frame that is due at a boundary is sent, ahead of the queued copies (R258). -/
def Dev.flushFlowControl (d : Dev) (m : Nat) : Dev := (List.range 8).foldl (fun (d : Dev) _ => d.sendFlowControl m) d

/-- A refresh of a class (8: the port) falls due: its frame goes at this boundary or at the next one. -/
def Dev.dueRefresh (d : Dev) (m cls : Nat) : Dev :=
  let v := d.macOf m
  (d.setMac m { v with refresh := setBits v.refresh cls 1 1 }).sendFlowControl m

/-- PFC_REFRESH (R258): while XOFF holds, the frame is repeated. -/
def Dev.refreshPfc (d : Dev) (m cls : Nat) : Dev :=
  let mode := d.fget (Page.mac m) Reg.MAC_CFG_FC_MODE
  if !d.mayTransmit m then d
  else if mode = 2 ∧ cls < 8 ∧ bitAt (d.macOf m).told cls ∧ d.xoffOf (poolIndex m cls) then d.dueRefresh m cls
  else if mode = 1 ∧ bitAt (d.macOf m).told 8 ∧ d.anyXoff m then d.dueRefresh m 8
  else d

/-- R258. -/
def execPfcRefresh (mac cls : Nat) (s : State) : Host.Outcome State Fault Refusal :=
  s.become (if mac < 16 then s.dev.refreshPfc mac cls else s.dev)

/-! ## Transmit (R253, R259, R264) -/

/-- Transmit tag operations (R253). -/
def Dev.txTags (d : Dev) (m : Nat) (bs : List Byte) : List Byte :=
  let p := Page.mac m
  let tpid := if d.fbit p Reg.MAC_TAG_CTL_TX_SVLAN then 0x88A8 else 0x8100
  let b1 := if d.fbit p Reg.MAC_TAG_CTL_TX_STRIP_EN ∧ be16 bs 12 = tpid ∧ 16 ≤ bs.length
      ∧ be16 bs 14 % 4096 = d.fget p Reg.MAC_TAG_CTL_UNTAG_VID then bs.take 12 ++ bs.drop 16 else bs
  if d.fbit p Reg.MAC_TAG_CTL_TX_PUSH_EN then
    b1.take 12 ++ toBe 2 tpid ++ toBe 2 (d.fget p Reg.MAC_TAG_TCI_PUSH_TCI) ++ b1.drop 12
  else b1

/-- The offset behind at most two tags of the EtherType (R264). -/
def typeOffset (bs : List Byte) : Nat :=
  if !isTpid (be16 bs 12) then 12 else if !isTpid (be16 bs 16) then 16 else 20

/-- The PTP header of a frame, with the IP header and UDP header when it is carried in UDP port 319 (R264). -/
def ptpHeader (bs : List Byte) : Option (Nat × Option (Nat × Nat)) :=
  let o := typeOffset bs
  let t := be16 bs o
  let ip := o + 2
  if t = 0x88F7 then some (ip, none)
  else
    let udp := if t = 0x0800 ∧ ipVersion bs ip = 4 ∧ byteAt bs ip % 16 = 5 then some (ip + 20)
      else if t = 0x86DD ∧ ipVersion bs ip = 6 then some (ip + 40) else none
    match udp with
    | none => none
    | some u => if ipProto bs ip = 17 ∧ be16 bs (u + 2) = 319 then some (u + 8, some (ip, u)) else none

/-- The Sync message of a frame with its originTimestamp and checksums written (R264); none when it holds no such message. -/
def oneStepFrame (bs : List Byte) (t : Nat × Nat × Nat) : Option (List Byte) :=
  match ptpHeader bs with
  | none => none
  | some (h, udp) =>
    if bs.length < h + 44 ∨ byteAt bs h % 16 ≠ 0 ∨ bitAt (byteAt bs (h + 6)) 1 then none
    else
      let b1 := overwrite bs (h + 34) (toBe 6 t.1 ++ toBe 4 t.2.1)
      let b2 := overwrite b1 (h + 8) (toBe 8 (ofBe (cut b1 (h + 8) 8) + t.2.2))
      match udp with
      | none => some b2
      | some (ip, u) =>
        let z := overwrite b2 (u + 6) [0, 0]
        if ipVersion bs ip = 4 then some z
        else
          let len := be16 bs (u + 4)
          some (overwrite z (u + 6) (toBe 2 (udpSum (checksum16 (pseudoSum z ip 17 len + sum16 (cut z u len))))))

/-- FRAME_TRANSMIT_START (R253, R256, R258, R259, R262, R264): flow-control frames that are due go first; a MAC that may not send
discards the copy. -/
def Dev.startTransmit (d0 : Dev) (m : Nat) : Dev :=
  let p := Page.mac m
  let d := d0.flushFlowControl m
  let v := d.macOf m
  match v.slot with
  | none => d
  | some n =>
    if v.sending.isSome then d
    else if !d.mayTransmit m then d.dropUnsent m
    else if d.copyStopped m n then d
    else
      match d.copy n with
      | none => d.setMac m { v with slot := none }
      | some c =>
        let bs := padFrame (if c.macsec ∨ c.oneStep then c.frame else d.txTags m c.frame)
        if d.fget p Reg.MAC_MAX_FRAME_BYTES < bs.length + 4 then
          ((d.setMac m { v with slot := none }).countMac m 0x1C).endCopy n (some Drop.oversize)
        else
          let t := d.stampTime (d.fget p Reg.MAC_TS_TX_ADJ_ADJ)
          let wanted := c.oneStep && d.fbit p Reg.MAC_TS_CFG_ONE_STEP_EN
          let r := if wanted ∧ !c.macsec then oneStepFrame bs t else none
          let out := r.getD bs
          d.setMac m { v with sending := some (out ++ fcsOf out), txTime := t, missed := wanted && r.isNone }

/-- R259. -/
def execFrameTransmitStart (mac : Nat) (s : State) : Host.Outcome State Fault Refusal :=
  s.become (if mac < 16 then s.dev.startTransmit mac else s.dev)

/-- A frame boundary: pauses that waited for it take effect, and so does a cleared ENABLE (R256, R267). -/
def Dev.frameBoundary (d : Dev) (m : Nat) : Dev := 
  ((d.setMac m { d.macOf m with slot := none, sending := none, missed := false }).updatePaused m).refreshMac m

/-- TX_UNDERRUN (R259): how many bytes had been sent is a free value (log entry 5). -/
def Dev.underrun (d : Dev) (m : Nat) : Dev :=
  let p := Page.mac m
  let v := d.macOf m
  match v.sending, v.slot with
  | some bs, some n =>
    let cur := d.fget p Reg.MAC_TX_START_CUR_BYTES
    if ((d.copy n).map Copy.oneStep).getD false ∨ bs.length ≤ cur then d
    else
      let r := d.fresh
      let part := bs.take (r.1 % bs.length)
      let ceil := d.fget p Reg.MAC_TX_START_CEIL_BYTES
      let d1 := (r.2.countMac m 0x1A).count p Reg.MAC_UNDERRUN_CNT_CNT
      let d2 := d1.fset p Reg.MAC_TX_START_CUR_BYTES (if ceil ≤ cur then cur else min (cur + 256) ceil)
      let d3 := (d2.emit (.wire m (part ++ (fcsOf part).map (fun b => ~~~b)) false)).endCopy n none
      ((d3.latchFault p FaultBit.mac_TX_UNDERRUN).pulse 117).frameBoundary m
  | _, _ => d

/-- R259. -/
def execTxUnderrun (mac : Nat) (s : State) : Host.Outcome State Fault Refusal :=
  s.become (if mac < 16 then s.dev.underrun mac else s.dev)

/-- The transmit counters of the slice whose stamp a copy bears (R261). -/
def Dev.countTxWire (d : Dev) (stamp : Stamp) (n : Nat) : Dev :=
  match stamp with
  | none => d
  | some (s, inc) =>
    let v := d.slice s
    let add (w : WireCounters) : WireCounters := { w with txf := (w.txf + 1) % 2 ^ 64, txb := (w.txb + n) % 2 ^ 64 }
    if inc = v.incarnation then d.setSlice s { v with mgrWire := add v.mgrWire, tenantWire := add v.tenantWire } else d

/-- MAC_TS_DEPTH follows the FIFO (R263). -/
def Dev.setStamps (d : Dev) (m : Nat) (l : List (Nat × Nat × Nat × Nat)) : Dev :=
  (d.setMac m { d.macOf m with stamps := l }).fset (Page.mac m) Reg.MAC_TS_DEPTH_DEPTH l.length

/-- The transmit time of a marked copy (R263): to the FIFO for a manager queue, to the entry's completion for a slice queue. -/
def Dev.recordTime (d : Dev) (m : Nat) (c : Copy) : Dev :=
  let p := d.packet c.packet
  let v := d.macOf m
  if !c.wantTime then d
  else
    match p.stamp, p.entry with
    | some _, some (q, i) =>
      { d with sentQ := d.sentQ ++ [{ queue := q, index := i, len := p.bytes.length, time := some v.txTime }] }
    | _, _ =>
      if v.stamps.length < 64 then (d.setStamps m (v.stamps ++ [(c.tag, v.txTime)])).pulse 119
      else ((d.countMac m 0x23).latchFault (Page.mac m) FaultBit.mac_TS_OVF).pulse 120

/-- FRAME_TRANSMIT_END (R94, R160, R260, R261, R263). -/
def Dev.endTransmit (d : Dev) (m : Nat) : Dev :=
  let v := d.macOf m
  match v.sending, v.slot with
  | some bs, some n =>
    match d.copy n with
    | none => d.frameBoundary m
    | some c =>
      let d0 := if v.missed then d.countMac m 0x22 else d
      let d1 := ((d0.countMac m 0x18).countMac m 0x19 bs.length).countTxWire (d.packet c.packet).stamp bs.length
      let d2 := (d1.countTc m c.tc 1).wcount (Page.sch m) (0x20 + c.tc) bs.length
      let d3 := (d2.recordTime m c).emit (.wire m bs true)
      (d3.endCopy n none).frameBoundary m
  | _, _ => d

/-- R94, R259-R263. -/
def execFrameTransmitEnd (mac : Nat) (s : State) : Host.Outcome State Fault Refusal :=
  s.become (if mac < 16 then s.dev.endTransmit mac else s.dev)

/-! ## Snapshots (R260) -/

/-- Copy the counters of a MAC into its shadows, with the PTP time. -/
def Dev.snapshotMac (d : Dev) (m : Nat) : Dev :=
  let p := Page.mac m
  let d0 := (List.range 9).foldl (fun (d : Dev) t =>
    let since := Sparse.get (blank 0) (d.macOf m).stopped t
    if since = 0 then d
    else (d.addPaused m t (d.now + 1 - since)) |> fun d =>
      d.setMac m { d.macOf m with stopped := Sparse.set (blank 0) (d.macOf m).stopped t (d.now + 1) }) d
  let d1 := (List.range 32).foldl (fun (d : Dev) i =>
    d.wset p (0x10 + i) (Sparse.get (blank 0) (d0.macOf m).counters (0x10 + i))) d0
  (d1.wset p 0x31 (d.tim.frac + d.tim.ns * 2 ^ 16 + d.tim.sec * 2 ^ 48)).count p Reg.MAC_SNAP_SEQ

/-- R260: MAC_SNAP.GO. -/
def execMacSnapshot (req : Requester) (mac : Nat) (s : State) : Host.Outcome State Fault Refusal :=
  s.become (if mac < 16 then
    s.dev.onWrite req (Page.mac mac + Reg.MAC_SNAP_GO.off) (fun d => (d.snapshotMac mac).pulse 118) else s.dev)

/-- MACG_SNAP.GO (R260, R268). -/
def Dev.snapshotAll (d : Dev) : Dev :=
  if !d.accepts Page.macg then d.accessFault Page.macg
  else (((List.range 16).foldl Dev.snapshotMac d).count Page.macg Reg.MACG_SNAP_SEQ).pulse 118

/-- R260, R268. -/
def execMacgSnapshot (req : Requester) (s : State) : Host.Outcome State Fault Refusal :=
  s.become (s.dev.onWrite req (Page.macg + Reg.MACG_SNAP_GO.off) (·.snapshotAll))

/-- A capture of the timestamp FIFO removes its head (R263, R270). -/
def Dev.captureStamp (d : Dev) (m : Nat) : Dev :=
  let p := Page.mac m
  let d1 := d.wmbSelect p 0x30
  match (d1.macOf m).stamps with
  | [] => d1.wmbAnswer p 0
  | (tag, sec, ns, frac) :: rest =>
    (d1.setStamps m rest).wmbAnswer p (tag + 2 ^ 16 + frac * 2 ^ 32 + ns * 2 ^ 48 + sec * 2 ^ 80)

/-- R263. -/
def execTsFifoCapture (req : Requester) (mac : Nat) (s : State) : Host.Outcome State Fault Refusal :=
  s.become (if mac < 16 then s.dev.onWrite req (Page.mac mac + 0x20) (·.captureStamp mac) else s.dev)

/-- MAC_TX_START_BASE (R259, R269): CUR follows; a value below 64 is stored as 64. -/
def Dev.setTxBase (d : Dev) (m v : Nat) : Dev :=
  let n := max 64 (v % 2 ^ 14)
  (d.fsetP (Page.mac m) Reg.MAC_TX_START_BASE_BYTES n).fset (Page.mac m) Reg.MAC_TX_START_CUR_BYTES n

/-- R259. -/
def execTxStartBaseWrite (req : Requester) (mac : Nat) (value : Word) (s : State) : Host.Outcome State Fault Refusal :=
  s.become (if mac < 16 then
    s.dev.onWrite req (Page.mac mac + Reg.MAC_TX_START_BASE_BYTES.off) (·.setTxBase mac value.toNat) else s.dev)

/-! ## Port groups (R250) -/

/-- Whether a MAC holds no accepted work: nothing received, selected or sent. -/
def Dev.macIdle (d : Dev) (m : Nat) : Bool :=
  let v := d.macOf m
  !v.rxBusy && v.slot.isNone && v.sending.isNone && v.parked.isEmpty

/-- A write of PCS_MODE (R250). -/
def Dev.writeMode (d : Dev) (g mode : Nat) : Dev :=
  let p := Page.pcs g
  let free := (List.range 8).all (fun i => !d.fbit (Page.mac (8 * g + i)) Hdr.enable && d.macIdle (8 * g + i))
  if free then (d.fsetP p Reg.PCS_MODE_MODE mode).fset p Reg.PCS_MODE_BUSY 1
  else (d.latchFault p FaultBit.pcs_MODE_REFUSED).accessFault p

/-- R250. -/
def execPcsModeWrite (req : Requester) (group : Nat) (mode : BitVec 2) (s : State) : Host.Outcome State Fault Refusal :=
  s.become (if group < 2 then
    s.dev.onWrite req (Page.pcs group + Reg.PCS_MODE_MODE.off) (·.writeMode group mode.toNat) else s.dev)

/-- R250: every lane has retuned; held writes of ENABLE = 1 take effect. -/
def Dev.retuneDone (d : Dev) (g : Nat) : Dev :=
  if !d.fbit (Page.pcs g) Reg.PCS_MODE_BUSY then d
  else
    let d1 := d.fset (Page.pcs g) Reg.PCS_MODE_BUSY 0
    let d2 := (List.range 8).foldl (fun (d : Dev) i =>
      let m := 8 * g + i
      let v := d.macOf m
      if !v.enableHeld then d
      else
        let e := d.setMac m { v with enableHeld := false }
        if e.macExists m then e.fsetP (Page.mac m) Hdr.enable 1 else e) d1
    d2.refreshGroup g

/-- R250. -/
def execPcsRetuneDone (group : Nat) (s : State) : Host.Outcome State Fault Refusal :=
  s.become (if group < 2 then s.dev.retuneDone group else s.dev)

/-! ## Cages (R265, R266) -/

/-- CAGE_TWI.GO (R265, R268): one transaction with device 0xA0, with the register as it stands now; a GO beside a running
transaction starts none (log entry 121). -/
def Dev.startTwi (d : Dev) (req : Requester) (g : Nat) : Dev :=
  let p := Page.pcs g
  if !d.accepts p then d.accessFault p
  else if d.fbit p Reg.CAGE_TWI_GO then d
  else
    ((d.fset p Reg.CAGE_TWI_GO 1).setPort p { d.port p with
        run := some { req := req, word := (d.rd (p + Reg.CAGE_TWI_GO.off)).toNat, buf := [] } }).emit
      (.twi g 0xA0 (d.fbit p Reg.CAGE_TWI_RD) (d.fget p Reg.CAGE_TWI_ADDR) (d.fget p Reg.CAGE_TWI_WDATA))

/-- R265. -/
def execCageTwiStart (req : Requester) (group : Nat) (s : State) : Host.Outcome State Fault Refusal :=
  s.become (if group < 2 then s.dev.onWrite req (Page.pcs group + Reg.CAGE_TWI_GO.off) (·.startTwi req group) else s.dev)

/-- The transaction ends (R265): with the module's byte on a read, or without acknowledge. -/
def Dev.endTwi (d : Dev) (g : Nat) (data : Option (BitVec 8)) : Dev :=
  let p := Page.pcs g
  if !d.fbit p Reg.CAGE_TWI_GO then d
  else
    let read := ((d.port p).run.map (fun o => bitAt o.word Reg.CAGE_TWI_RD.lo)).getD false
    let d1 := (d.fset p Reg.CAGE_TWI_GO 0).setPort p { d.port p with run := none }
    let d2 := match data with
      | none => (d1.fset p Reg.CAGE_TWI_STAT_NACK 1).latchFault p FaultBit.pcs_TWI_NACK
      | some b =>
        let e := d1.fset p Reg.CAGE_TWI_STAT_NACK 0
        if read then e.fset p Reg.CAGE_TWI_STAT_RDATA b.toNat else e
    d2.pulse 125

/-- R265. -/
def execCageTwiDone (group : Nat) (data : Option (BitVec 8)) (s : State) : Host.Outcome State Fault Refusal :=
  s.become (if group < 2 then s.dev.endTwi group data else s.dev)

/-- A module is inserted or removed (R265, R267). -/
def Dev.changePresence (d : Dev) (g : Nat) (present : Bool) : Dev :=
  let p := Page.pcs g
  if d.fbit p Reg.CAGE_STAT_PRESENT = present then d
  else
    let d1 := (d.fset p Reg.CAGE_STAT_PRESENT (b2n present)).latchFault p FaultBit.pcs_CAGE_PRESENT_CHG
    (if present then d1 else d1.dropMacs (fun m => m / 8 == g) true true).pulse 123

/-- R265. -/
def execCagePresenceChange (group : Nat) (present : Bool) (s : State) : Host.Outcome State Fault Refusal :=
  s.become (if group < 2 then s.dev.changePresence group present else s.dev)

/-- R265: CAGE_STAT.INT follows the module's interrupt as level event 121 or 122. -/
def execCageModuleInterrupt (group : Nat) (level : Bool) (s : State) : Host.Outcome State Fault Refusal :=
  s.become (if group < 2 then
    (s.dev.fset (Page.pcs group) Reg.CAGE_STAT_INT (b2n level)).refreshLevel (121 + group) else s.dev)

/-- The cage supply faults or trips (R266): PWR_EN clears, CAGE_PWR and event 124; the group's links leave UP. -/
def Dev.cageFault (d : Dev) (g : Nat) : Dev :=
  let p := Page.pcs g
  let d1 := ((d.fsetP p Reg.CAGE_CTL_PWR_EN 0).fset p Reg.CAGE_STAT_PWR_GOOD 0).latchFault p FaultBit.pcs_CAGE_PWR
  (d1.dropMacs (fun m => m / 8 == g) true true).pulse 124

/-- R266. -/
def execCageSupplyFault (group : Nat) (s : State) : Host.Outcome State Fault Refusal :=
  s.become (if group < 2 then s.dev.cageFault group else s.dev)

end Sys2Proof.Machine
end

