-- ==== Sys2Proof/Machine/Crypto.lean ====
section
/-!
DEFINITION. The AES modes of the lehr (R172, R176): FIPS 197 with 128- and 256-bit keys, SP 800-38A (CBC, CTR, CFB-128,
OFB), SP 800-38D (GCM), SP 800-38B (CMAC) and IEEE 1619 (XTS).  Byte streams are lists of bytes in stream order.
-/

namespace Sys2Proof.Machine.Aes

/-! ## The block cipher -/

/-- Multiply by x in GF(2^8). -/
def xtime (b : Byte) : Byte := if b.getLsbD 7 then (b <<< 1) ^^^ 0x1B#8 else b <<< 1

/-- Multiply in GF(2^8), taking the low `n` bits of `b`. -/
def gmulBits : Nat → Byte → Byte → Byte
  | 0, _, _ => 0
  | n + 1, a, b => (if b.getLsbD 0 then a else 0#8) ^^^ gmulBits n (xtime a) (b >>> 1)

def gmul (a b : Byte) : Byte := gmulBits 8 a b

/-- The multiplicative inverse, 0 for 0: a^254. -/
def ginv (a : Byte) : Byte :=
  let a2 := gmul a a
  let a4 := gmul a2 a2
  let a8 := gmul a4 a4
  let a16 := gmul a8 a8
  let a32 := gmul a16 a16
  let a64 := gmul a32 a32
  let a128 := gmul a64 a64
  gmul a128 (gmul a64 (gmul a32 (gmul a16 (gmul a8 (gmul a4 a2)))))

/-- SubBytes on one byte. -/
def sbox (a : Byte) : Byte :=
  let b := ginv a
  b ^^^ b.rotateLeft 1 ^^^ b.rotateLeft 2 ^^^ b.rotateLeft 3 ^^^ b.rotateLeft 4 ^^^ 0x63#8

/-- Inverse SubBytes on one byte. -/
def invSbox (a : Byte) : Byte := ginv (a.rotateLeft 1 ^^^ a.rotateLeft 3 ^^^ a.rotateLeft 6 ^^^ 0x05#8)

/-- XOR of two byte strings, as long as the shorter. -/
def xor (a b : List Byte) : List Byte := List.zipWith (· ^^^ ·) a b

/-- ShiftRows and its inverse: state byte `i` is row `i % 4`, column `i / 4`. -/
def shiftRows (s : List Byte) : List Byte := (List.range 16).map (fun i => s.getD ((i + 4 * (i % 4)) % 16) 0)
def invShiftRows (s : List Byte) : List Byte := (List.range 16).map (fun i => s.getD ((i + 12 * (i % 4)) % 16) 0)

/-- One column times the circulant of `m`. -/
def mixColumn (m : List Byte) (c : List Byte) : List Byte :=
  (List.range 4).map (fun r =>
    ((List.range 4).map (fun k => gmul (m.getD ((k + 4 - r) % 4) 0) (c.getD k 0))).foldl (· ^^^ ·) 0#8)

def mixWith (m : List Byte) (s : List Byte) : List Byte :=
  (List.range 4).flatMap (fun c => mixColumn m (cut s (4 * c) 4))

def mixColumns (s : List Byte) : List Byte := mixWith [2, 3, 1, 1] s
def invMixColumns (s : List Byte) : List Byte := mixWith [14, 11, 13, 9] s

/-- The round constant of key-expansion step `i` (from 1). -/
def rcon : Nat → Byte
  | 0 => 0x8D
  | n + 1 => xtime (rcon n)

/-- Extend a key schedule (4-byte words, oldest first) to `n` more words; `nk` is the key length in words. -/
def extendKey (nk : Nat) : Nat → List (List Byte) → List (List Byte)
  | 0, w => w
  | n + 1, w =>
    let i := w.length
    let last := w.getLastD []
    let t := if i % nk = 0 then
        xor ((last.drop 1 ++ last.take 1).map sbox) [rcon (i / nk), 0, 0, 0]
      else if 6 < nk ∧ i % nk = 4 then last.map sbox else last
    extendKey nk n (w ++ [xor (w.getD (i - nk) []) t])

/-- The round keys of a key of 16 or 32 bytes: 11 or 15 of 16 bytes each. -/
def roundKeys (key : List Byte) : List (List Byte) :=
  let nk := key.length / 4
  let rounds := nk + 6
  let w := extendKey nk (4 * (rounds + 1) - nk) ((List.range nk).map (fun i => cut key (4 * i) 4))
  (List.range (rounds + 1)).map (fun r => (w.drop (4 * r)).take 4 |>.flatten)

/-- The middle rounds of encryption. -/
def encRounds : List (List Byte) → List Byte → List Byte
  | [], s => s
  | [k], s => xor (shiftRows (s.map sbox)) k
  | k :: ks, s => encRounds ks (xor (mixColumns (shiftRows (s.map sbox))) k)

/-- Encrypt one block. -/
def encrypt (key block : List Byte) : List Byte :=
  match roundKeys key with
  | [] => block
  | k :: ks => encRounds ks (xor block k)

/-- The rounds of the inverse cipher, round keys last first. -/
def decRounds : List (List Byte) → List Byte → List Byte
  | [], s => s
  | [k], s => xor ((invShiftRows s).map invSbox) k
  | k :: ks, s => decRounds ks (invMixColumns (xor ((invShiftRows s).map invSbox) k))

/-- Decrypt one block. -/
def decrypt (key block : List Byte) : List Byte :=
  match (roundKeys key).reverse with
  | [] => block
  | k :: ks => decRounds ks (xor block k)

/-! ## Byte strings as blocks -/

/-- Cut a byte string into blocks of 16 bytes; the last may be short. -/
def blocks (bs : List Byte) : List (List Byte) :=
  (List.range ((bs.length + 15) / 16)).map (fun i => (bs.drop (16 * i)).take 16)

/-- A block padded with zeros to 16 bytes. -/
def pad (b : List Byte) : List Byte := cut b 0 16

/-- A counter block plus `n`: its low `w` bytes count as a big-endian number modulo 2^(8w). -/
def addCounter (w n : Nat) (c : List Byte) : List Byte :=
  c.take (16 - w) ++ toBe w ((ofBe (c.drop (16 - w)) + n) % 2 ^ (8 * w))

/-! ## SP 800-38A -/

def cbcEncrypt (key : List Byte) : List Byte → List (List Byte) → List Byte
  | _, [] => []
  | iv, b :: rest => let c := encrypt key (xor b iv); c ++ cbcEncrypt key c rest

def cbcDecrypt (key : List Byte) : List Byte → List (List Byte) → List Byte
  | _, [] => []
  | iv, b :: rest => xor (decrypt key b) iv ++ cbcDecrypt key b rest

/-- XOR with the keystream of consecutive counter blocks whose low `w` bytes count. -/
def ctrStream (key ctr : List Byte) (w : Nat) (bs : List Byte) : List Byte :=
  ((blocks bs).zipIdx).flatMap (fun e => xor e.1 (encrypt key (addCounter w e.2 ctr)))

def cfbEncrypt (key : List Byte) : List Byte → List (List Byte) → List Byte
  | _, [] => []
  | iv, b :: rest => let c := xor b (encrypt key iv); c ++ cfbEncrypt key c rest

def cfbDecrypt (key : List Byte) : List Byte → List (List Byte) → List Byte
  | _, [] => []
  | iv, b :: rest => xor b (encrypt key iv) ++ cfbDecrypt key b rest

def ofbStream (key : List Byte) : List Byte → List (List Byte) → List Byte
  | _, [] => []
  | iv, b :: rest => let o := encrypt key iv; xor b o ++ ofbStream key o rest

/-! ## GCM -/

/-- Multiply in GF(2^128) with the bit order of SP 800-38D: the top `n` bits of `x` are taken, `v` being `y` times the
next power. -/
def ghashMul : Nat → BitVec 128 → BitVec 128 → BitVec 128
  | 0, _, _ => 0
  | n + 1, x, v =>
    (if x.msb then v else 0#128) ^^^
      ghashMul n (x <<< 1) (if v.getLsbD 0 then (v >>> 1) ^^^ (0xE1#128 <<< 120) else v >>> 1)

def toBlock (b : List Byte) : BitVec 128 := BitVec.ofNat 128 (ofBe (pad b))

/-- GHASH under subkey `h` of a list of blocks (R184). -/
def ghash (h : BitVec 128) (xs : List (BitVec 128)) : BitVec 128 :=
  xs.foldl (fun acc x => ghashMul 128 (acc ^^^ x) h) 0

/-- The GHASH input of R184: padded AAD blocks, padded ciphertext blocks, the length block. -/
def ghashInput (aad ct : List Byte) : List (BitVec 128) :=
  (blocks aad).map toBlock ++ (blocks ct).map toBlock
    ++ [BitVec.ofNat 128 (aad.length * 8 * 2 ^ 64 + ct.length * 8)]

/-- J0 of a 96-bit IV. -/
def gcmJ0 (iv : List Byte) : List Byte := cut iv 0 12 ++ [0, 0, 0, 1]

/-- The full 16-byte tag of a ciphertext. -/
def gcmTag (key iv aad ct : List Byte) : List Byte :=
  let h := toBlock (encrypt key (List.replicate 16 0))
  xor (toBe 16 (ghash h (ghashInput aad ct)).toNat) (encrypt key (gcmJ0 iv))

/-- The GCM keystream applied to data. -/
def gcmCrypt (key iv data : List Byte) : List Byte := ctrStream key (addCounter 4 1 (gcmJ0 iv)) 4 data

/-! ## CMAC -/

/-- Doubling in GF(2^128) as SP 800-38B takes it (big-endian). -/
def cmacDouble (x : BitVec 128) : BitVec 128 := if x.msb then (x <<< 1) ^^^ 0x87#128 else x <<< 1

def cbcMac (key : List Byte) : List Byte → List (List Byte) → List Byte
  | acc, [] => acc
  | acc, b :: rest => cbcMac key (encrypt key (xor acc b)) rest

/-- The full 16-byte CMAC. -/
def cmac (key data : List Byte) : List Byte :=
  let l := toBlock (encrypt key (List.replicate 16 0))
  let k1 := cmacDouble l
  let bs := blocks data
  let last := bs.getLastD []
  let final := if last.length = 16 then xor last (toBe 16 k1.toNat)
    else xor (pad (last ++ [0x80])) (toBe 16 (cmacDouble k1).toNat)
  cbcMac key (List.replicate 16 0) (bs.dropLast ++ [final])

/-! ## XTS -/

/-- Multiply a tweak by x (IEEE 1619: byte 0 is least significant). -/
def xtsDouble (t : Nat) : Nat := if 2 ^ 127 ≤ t then (2 * t % 2 ^ 128) ^^^ 0x87 else 2 * t

def xtsBlocks (f : List Byte → List Byte) : Nat → List (List Byte) → List Byte
  | _, [] => []
  | t, b :: rest => let tw := toLe 16 t; xor (f (xor b tw)) tw ++ xtsBlocks f (xtsDouble t) rest

/-- One sector under data unit number `unit`. -/
def xtsSector (dec : Bool) (k1 k2 : List Byte) (unit : Nat) (sector : List Byte) : List Byte :=
  xtsBlocks (if dec then decrypt k1 else encrypt k1) (ofLe (encrypt k2 (toLe 16 unit))) (blocks sector)

/-- Whole sectors of `size` bytes under successive data unit numbers (R176). -/
def xts (dec : Bool) (k1 k2 : List Byte) (unit size : Nat) (data : List Byte) : List Byte :=
  (List.range (data.length / size)).flatMap (fun i =>
    xtsSector dec k1 k2 ((unit + i) % 2 ^ 128) ((data.drop (size * i)).take size))

end Sys2Proof.Machine.Aes
end

