-- ==== Sys2Proof/Machine/KeyStore.lean ====
section
/-!
DEFINITION. The key store (R188-R193): slot descriptors, wrapped records in GDDR6, the KEY operation port, the slot check of
a job, and the zeroising of retired slots.
-/

namespace Sys2Proof.Machine

def Dev.setLehr (d : Dev) (l : Lehr) : Dev := { d with lehr := l }

/-! ## Slots -/

def Dev.keySlot (d : Dev) (s : Nat) : KeySlot := Sparse.get (blank {}) d.lehr.keys s

/-- KEY_USED of the owner of a slot that is not EMPTY (R313). -/
def Dev.countKey (d : Dev) (v : KeySlot) (up : Bool) : Dev :=
  if v.state = 0 ∨ v.mgr then d
  else
    let w := d.slice v.owner
    d.setSlice v.owner { w with keyUsed := if up then w.keyUsed + 1 else w.keyUsed - 1 }

/-- Change a slot: KEY_IN_USE and the owner's KEY_USED follow. -/
def Dev.setKeySlot (d : Dev) (s : Nat) (v : KeySlot) : Dev :=
  let d1 := (d.countKey (d.keySlot s) false).countKey v true
  let d2 := d1.setLehr { d1.lehr with keys := Sparse.set (blank {}) d1.lehr.keys s v }
  d2.fset Page.key Reg.KEY_IN_USE_CNT (d2.lehr.keys.countP (fun e => e.2.state != 0))

/-- The descriptor words of a slot (R189). -/
def KeySlot.desc (v : KeySlot) : List Word :=
  [v.gen + v.state * 2 ^ 16 + b2n v.wide * 2 ^ 18 + b2n v.pair * 2 ^ 19 + v.modes * 2 ^ 20 + b2n v.enc * 2 ^ 27
      + b2n v.dec * 2 ^ 28 + b2n v.conf * 2 ^ 29,
    v.owner + b2n v.mgr * 2 ^ 12 + v.incarnation * 2 ^ 16, v.inflight,
    if v.state = 1 ∨ v.state = 2 then 2 ^ 31 else 0].map (BitVec.ofNat 32)

/-- The fields that INSTALL takes from a descriptor image. -/
def KeySlot.ofDesc (ws : List Word) : KeySlot :=
  let w0 := wordAt ws 0
  let w1 := wordAt ws 1
  { wide := bitAt w0 18, pair := bitAt w0 19, modes := bits w0 20 7, enc := bitAt w0 27, dec := bitAt w0 28
    conf := bitAt w0 29, owner := bits w1 0 12, mgr := bitAt w1 12, incarnation := bits w1 16 8 }

/-- A reserved field of a descriptor image is set. -/
def descReserved (ws : List Word) : Bool :=
  bits (wordAt ws 0) 30 2 != 0 || bits (wordAt ws 1) 13 3 != 0 || bits (wordAt ws 1) 24 8 != 0
    || bits (wordAt ws 2) 24 8 != 0 || bits (wordAt ws 3) 0 31 != 0

/-! ## Wrapped records (R188, R191) -/

def slotWrapped (s : Nat) : Bool := decide (65536 ≤ s)
def Dev.recordAddr (d : Dev) (s : Nat) : Nat := bits (d.wget Page.key 0x10) 0 15 * 2 ^ 20 + (s - 65536) * 128

/-- The device wrap key KW, drawn from the TRNG at each reset. -/
def Dev.wrapKey (d : Dev) : List Byte := cut (Config.secret 1 (toLe 8 d.lehr.kwDraws)) 0 32

/-- The record of a slot under a wrap count. -/
def wrapRecord (kw : List Byte) (s : Nat) (v : KeySlot) (count : Nat) : List Byte :=
  let header := toLe 8 (s + v.gen * 2 ^ 20) ++ toLe 8 count
  let iv := toLe 4 s ++ toLe 8 count
  let ct := Aes.gcmCrypt kw iv (cut v.key 0 64 ++ wordBytes v.desc)
  header ++ ct ++ Aes.gcmTag kw iv header ct ++ List.replicate 16 0

/-- The key material of a record whose tag, slot and GEN check. -/
def unwrapRecord (kw : List Byte) (s gen : Nat) (r : List Byte) : Option (List Byte) :=
  let header := cut r 0 16
  let iv := toLe 4 s ++ cut r 8 8
  let ct := cut r 16 80
  if ofLe (cut r 0 8) = s + gen * 2 ^ 20 ∧ cut r 96 16 = Aes.gcmTag kw iv header ct then
    some ((Aes.gcmCrypt kw iv ct).take 64)
  else none

/-- Unwrap slot `s`: none when the record does not check or cannot be read. -/
def Dev.unwrap (d : Dev) (s : Nat) : Option (List Byte) :=
  if d.lineUncorrectable (d.recordAddr s) || d.lineUncorrectable (d.recordAddr s + 64) then none
  else unwrapRecord d.wrapKey s (d.keySlot s).gen (d.gread (d.recordAddr s) 128)

/-- Install material and descriptor in an EMPTY slot, GEN advanced; a wrapped slot's record is written under the next wrap
count and its key is not kept. -/
def Dev.putSlot (d : Dev) (s : Nat) (v : KeySlot) (key : List Byte) : Dev :=
  let v1 := { v with gen := ((d.keySlot s).gen + 1) % 65536, state := 1, inflight := 0, key := key }
  if slotWrapped s then
    let count := d.lehr.wrapCount
    let d1 := (d.gwrite (d.recordAddr s) (wrapRecord d.wrapKey s v1 count)).setLehr { d.lehr with wrapCount := count + 1 }
    d1.setKeySlot s { v1 with key := [] }
  else d.setKeySlot s v1

/-- Zeroise a slot (R190): key, cache entries and wrapped record go, GEN stays, event 305. -/
def Dev.zeroiseSlot (d : Dev) (s : Nat) : Dev :=
  let v := d.keySlot s
  let caches := (d.lehr.caches.map (fun e => (e.1, e.2.filter (fun c => c.slot != s && !(v.pair && c.slot + 1 == s))))).filter
    (fun e => e.2 != [])
  let d1 := d.setLehr { d.lehr with caches := caches }
  let d2 := if slotWrapped s then d1.gwrite (d1.recordAddr s) (List.replicate 128 0) else d1
  (d2.setKeySlot s { gen := v.gen }).pulse 305

/-- SLOT_ZEROISE: a RETIRING slot whose jobs have ended; the odd slot of a pair also waits for the jobs of its even slot. -/
def Dev.zeroiseRetired (d : Dev) (s : Nat) : Dev :=
  let v := d.keySlot s
  if v.state = 2 ∧ v.inflight = 0 ∧ ¬ (v.pair ∧ (d.keySlot (s - 1)).state = 2 ∧ (d.keySlot (s - 1)).inflight ≠ 0) then
    d.zeroiseSlot s
  else d

/-- R190. -/
def execSlotZeroise (slot : Nat) (s : State) : Host.Outcome State Fault Refusal := s.become (s.dev.zeroiseRetired slot)

/-! ## Operations (R190) -/

/-- INSTALL of a descriptor image and key bytes, singly or as an XTS-AES-256 pair: EMPTY, then the form of the request, whose OP
word is `bad` when it has a reserved bit set (R190, R475). -/
def Dev.keyInstall (d : Dev) (slot : Nat) (pair bad : Bool) (desc : List Word) (even odd : List Byte) : Nat × Dev :=
  let v := KeySlot.ofDesc desc
  let code := firstFailure [
    ((d.keySlot slot).state == 0 && !(pair && (d.keySlot (slot + 1)).state != 0), Code.access),
    (!bad && !descReserved desc && !(pair && (slot % 2 == 1 || !v.wide || v.modes % 64 != 0)), Code.malformed)]
  if code ≠ Code.ok then (code, d)
  else if pair then (Code.ok, (d.putSlot (slot + 1) { v with pair := true } odd).putSlot slot v even)
  else (Code.ok, d.putSlot slot v even)

/-- RETIRE: READY becomes RETIRING, with the odd slot of a pair. -/
def Dev.keyRetire (d : Dev) (slot : Nat) : Dev :=
  let v := d.keySlot slot
  if v.state ≠ 1 then d
  else
    let d1 := d.setKeySlot slot { v with state := 2 }
    let w := d1.keySlot (slot + 1)
    if slot % 2 = 0 ∧ w.pair ∧ w.state = 1 then d1.setKeySlot (slot + 1) { w with state := 2 } else d1

/-- Whether a requester may RETIRE (QUERY) a slot as it stands. -/
def mayRetire (req : Requester) (v : KeySlot) : Bool := req == .welbor || v.state == 0 || (v.mgr && !v.conf)
def mayQuery (req : Requester) (v : KeySlot) : Bool := req == .welbor || v.state == 0 || !v.conf

/-- A QUERY or RETIRE of a CONF slot is refused on the manager's side (R190, R311). -/
def Dev.slotRefused (d : Dev) (v : KeySlot) : Nat × Dev := (Code.access, if v.conf ∧ !v.mgr then d.confRefused v.owner else d)

/-- KEY_OP has a reserved bit set, or PAIR with an operation that takes none. -/
def keyOpBad (word : Nat) (pairAllowed : Bool) : Bool :=
  bits word 28 3 != 0 || bits word 21 3 != 0 || (bitAt word 20 && !pairAllowed)

/-- Clear KEY_KBUF0-31. -/
def Dev.clearKbuf (d : Dev) : Dev :=
  (List.range 32).foldl (fun (d : Dev) i => d.wr (Page.key + Reg.KEY_KBUF_DATA.off + 4 * i) 0#32) d

/-- R190. -/
def execInstall (s : State) : Host.Outcome State Fault Refusal :=
  s.become (s.dev.portExec portKey 1 (fun d o =>
    let r := if o.req ≠ .welbor then (Code.access, d)
      else d.keyInstall (bits o.word 0 20) (bitAt o.word 20) (keyOpBad o.word true) (o.buf.take 4) (wordBytes ((o.buf.drop 4).take 16))
        (wordBytes (o.buf.drop 20))
    (r.1, r.2.clearKbuf)))

/-- R190. -/
def execRetire (s : State) : Host.Outcome State Fault Refusal :=
  s.become (s.dev.portExec portKey 2 (fun d o =>
    let slot := bits o.word 0 20
    if !mayRetire o.req (d.keySlot slot) then d.slotRefused (d.keySlot slot)
    else if keyOpBad o.word false then (Code.malformed, d)
    else (Code.ok, d.keyRetire slot)))

/-- R190. -/
def execQuery (s : State) : Host.Outcome State Fault Refusal :=
  s.become (s.dev.portExec portKey 3 (fun d o =>
    let v := d.keySlot (bits o.word 0 20)
    if !mayQuery o.req v then d.slotRefused v
    else if keyOpBad o.word false then (Code.malformed, d)
    else (Code.ok, (List.range 4).foldl (fun (d : Dev) i =>
      d.wr (Page.key + Reg.KEY_DESC_DATA.off + 4 * i) (v.desc.getD i 0#32)) d)))

/-! ## The check of a job (R193) -/

/-- Whether a job with the given mode, direction, expected GEN and requester may use a slot; `mgrId` is the OWNER and INCARNATION of
a manager's identity (R207). -/
def KeySlot.admits (v : KeySlot) (mode dir gen : Nat) (stamp : Stamp) (mgrId : Nat × Nat) : Bool :=
  v.state == 1 && !v.pair && v.gen == gen && bitAt v.modes mode && (if dir = 0 then v.enc else v.dec)
    && (match stamp with
      | none => v.mgr && (!v.conf || (v.owner, v.incarnation) == mgrId)
      | some (s, inc) => !v.mgr && v.owner == s && v.incarnation == inc)

/-- A GEN mismatch is counted and pulses event 306. -/
def Dev.staleKey (d : Dev) : Dev := (d.count Page.key Reg.KEY_STALE_CNT_CNT).pulse 306

/-- The key material of slot `s` with, for an XTS-AES-256 pair, that of its odd slot behind it (R189); where no odd slot is
marked PAIR the second key is not stated. -/
def keyWithPair (even : List Byte) (v w : KeySlot) (s : Nat) (odd : List Byte) : List Byte :=
  cut even 0 64 ++
    (if v.wide ∧ bitAt v.modes 6 then
      (if s % 2 = 0 ∧ w.pair ∧ w.state ≠ 0 then cut odd 0 64 else toLe 64 (Config.unstated 2 [s]))
    else [])

end Sys2Proof.Machine
end

