-- ==== Sys2Proof/Machine/Lehr.lean ====
section
/-!
DEFINITION. The lehr cipher farm (R171-R187, R192-R200): job checks, placement and striping, blocks on cells, spot checks and
verify mode, tests, fencing, reruns, and what a job computes.
-/

namespace Sys2Proof.Machine

/-! ## Job descriptors (R178) -/

def LehrJob.w (j : LehrJob) (i : Nat) : Nat := leWord j.desc i
def LehrJob.mode (j : LehrJob) : Nat := bits (j.w 0) 0 4
def LehrJob.dir (j : LehrJob) : Nat := bits (j.w 0) 4 1
def LehrJob.asksVerify (j : LehrJob) : Bool := bitAt (j.w 0) 5
def LehrJob.sectorSize (j : LehrJob) : Nat := if bitAt (j.w 0) 6 then 4096 else 512
def LehrJob.tagLen (j : LehrJob) : Nat := bits (j.w 0) 8 5
def LehrJob.maxCl (j : LehrJob) : Nat := bits (j.w 0) 16 5
def LehrJob.slot (j : LehrJob) : Nat := bits (j.w 1) 0 20
def LehrJob.gen (j : LehrJob) : Nat := bits (j.w 2) 0 16
def LehrJob.aadLen (j : LehrJob) : Nat := bits (j.w 2) 16 16
def LehrJob.dataLen (j : LehrJob) : Nat := bits (j.w 3) 0 24
def LehrJob.iv (j : LehrJob) : List Byte := cut j.desc 16 16

namespace Mode
def cbc : Nat := 0
def ctr : Nat := 1
def cfb : Nat := 2
def ofb : Nat := 3
def gcm : Nat := 4
def cmac : Nat := 5
def xts : Nat := 6
end Mode

/-- Length of the input and output streams of a descriptor (R177). -/
def LehrJob.inLen (j : LehrJob) : Nat :=
  j.aadLen + j.dataLen + (if j.dir = 1 ∧ (j.mode = Mode.gcm ∨ j.mode = Mode.cmac) then j.tagLen else 0)
def LehrJob.outLen (j : LehrJob) : Nat :=
  if j.mode = Mode.cmac then (if j.dir = 0 then j.tagLen else 0)
  else j.aadLen + j.dataLen + (if j.dir = 0 ∧ j.mode = Mode.gcm then j.tagLen else 0)

/-- A reserved field is non-zero, a field is outside R176 or R178, or the stream lengths disagree (R179). -/
def LehrJob.malformed (j : LehrJob) : Bool :=
  let m := j.mode
  j.badStream || bitAt (j.w 0) 7 || bits (j.w 0) 13 3 != 0 || bits (j.w 0) 21 11 != 0 || decide (6 < m) || decide (16 < j.maxCl)
    || bits (j.w 1) 20 12 != 0 || bits (j.w 3) 24 8 != 0
    || (m != Mode.xts && bitAt (j.w 0) 6) || (m != Mode.gcm && j.aadLen != 0)
    || (if m = Mode.gcm then decide (j.tagLen < 12) || decide (16 < j.tagLen)
        else if m = Mode.cmac then decide (j.tagLen < 4) || decide (16 < j.tagLen) else j.tagLen != 0)
    || (m == Mode.cbc && j.dataLen % 16 != 0)
    || (m == Mode.xts && (j.dataLen == 0 || j.dataLen % j.sectorSize != 0))
    || (m == Mode.gcm && (j.iv.drop 12).any (· != 0)) || (m == Mode.cmac && j.iv.any (· != 0))

/-- A chained job (R176). -/
def LehrJob.chained (j : LehrJob) : Bool :=
  j.mode == Mode.ofb || j.mode == Mode.cmac || ((j.mode == Mode.cbc || j.mode == Mode.cfb) && j.dir == 0)

/-- The blocks that cells compute, with the extra blocks of R176. -/
def LehrJob.blocks (j : LehrJob) : Nat :=
  let n := (j.dataLen + 15) / 16
  if j.mode = Mode.gcm then n + 1
  else if j.mode = Mode.cmac then max 1 n
  else if j.mode = Mode.xts then n + j.dataLen / j.sectorSize
  else n

/-! ## What a job computes (R176, R177, R180) -/

/-- XOR of a base nonce with 12 bytes of salt, or the 4-byte salt in front of it (R207, R211). -/
def LehrJob.nonce (j : LehrJob) (key : List Byte) : List Byte :=
  if j.salt = 1 then Aes.xor (cut j.iv 0 12) (cut key 32 12)
  else if j.salt = 2 then cut key 32 4 ++ cut j.iv 4 8
  else cut j.iv 0 12

/-- The code and the output stream of a job with key material `key`. -/
def LehrJob.result (j : LehrJob) (key : List Byte) : Nat × List Byte :=
  let k := cut key 0 (if j.wide then 32 else 16)
  let aad := cut j.input 0 j.aadLen
  let data := cut j.input j.aadLen j.dataLen
  let tag := cut j.input (j.aadLen + j.dataLen) j.tagLen
  let m := j.mode
  if m = Mode.gcm then
    let iv := j.nonce key
    if j.dir = 0 then
      let ct := Aes.gcmCrypt k iv data
      (Code.ok, aad ++ ct ++ (Aes.gcmTag k iv aad ct).take j.tagLen)
    else if tag = (Aes.gcmTag k iv aad data).take j.tagLen then (Code.ok, aad ++ Aes.gcmCrypt k iv data)
    else (Code.auth, aad ++ List.replicate j.dataLen 0)
  else if m = Mode.cmac then
    let full := (Aes.cmac k data).take j.tagLen
    if j.dir = 0 then (Code.ok, full) else if tag = full then (Code.ok, []) else (Code.auth, [])
  else if m = Mode.cbc then
    (Code.ok, if j.dir = 0 then Aes.cbcEncrypt k j.iv (Aes.blocks data) else Aes.cbcDecrypt k j.iv (Aes.blocks data))
  else if m = Mode.ctr then (Code.ok, Aes.ctrStream k j.iv 16 data)
  else if m = Mode.cfb then
    (Code.ok, if j.dir = 0 then Aes.cfbEncrypt k j.iv (Aes.blocks data) else Aes.cfbDecrypt k j.iv (Aes.blocks data))
  else if m = Mode.ofb then (Code.ok, Aes.ofbStream k j.iv (Aes.blocks data))
  else
    let k2 := if j.wide then cut key 64 32 else cut key 16 16
    (Code.ok, Aes.xts (j.dir == 1) k k2 (ofLe j.iv) j.sectorSize data)

/-! ## Jobs, cells, units -/

def Dev.job (d : Dev) (n : Nat) : Option LehrJob := Sparse.get (blank none) d.lehr.jobs n
def Dev.setJob (d : Dev) (n : Nat) (j : Option LehrJob) : Dev :=
  d.setLehr { d.lehr with jobs := Sparse.set (blank none) d.lehr.jobs n j }
def cellKey (unit cell : Nat) : Nat := unit * 256 + cell
def Dev.cell (d : Dev) (k : Nat) : Option CellWork := Sparse.get (blank none) d.lehr.cells k
def Dev.setCell (d : Dev) (k : Nat) (w : Option CellWork) : Dev :=
  d.setLehr { d.lehr with cells := Sparse.set (blank none) d.lehr.cells k w }
def Dev.cellTrace (d : Dev) (k : Nat) : List JobRef := Sparse.get (blank []) d.lehr.traces k
def Dev.setTrace (d : Dev) (k : Nat) (t : List JobRef) : Dev :=
  d.setLehr { d.lehr with traces := Sparse.set (blank []) d.lehr.traces k t }
def Dev.multiplier (d : Dev) (unit : Nat) : Multiplier := Sparse.get (blank {}) d.lehr.mults unit
def Dev.setMultiplier (d : Dev) (unit : Nat) (m : Multiplier) : Dev :=
  d.setLehr { d.lehr with mults := Sparse.set (blank {}) d.lehr.mults unit m }
def Dev.countdown (d : Dev) (k : Nat) : Nat := Sparse.get (blank 0) d.lehr.countdown k
def Dev.setCountdown (d : Dev) (k n : Nat) : Dev :=
  d.setLehr { d.lehr with countdown := Sparse.set (blank 0) d.lehr.countdown k n }
def Dev.cacheOf (d : Dev) (unit : Nat) : List CacheEntry := Sparse.get (blank []) d.lehr.caches unit
def Dev.setCache (d : Dev) (unit : Nat) (c : List CacheEntry) : Dev :=
  d.setLehr { d.lehr with caches := Sparse.set (blank []) d.lehr.caches unit c }

/-- The register page that a unit serves. -/
def Dev.lehPage (d : Dev) (unit : Nat) : Nat := Page.leh (d.pageOfUnit puntyLeh unit)

/-- Submit a job: it waits for LEHG's check (R179). -/
def Dev.submitJob (d : Dev) (j : LehrJob) : Dev := d.setLehr { d.lehr with submits := d.lehr.submits ++ [j] }

/-- Cells of a unit that may take a block: free, unfenced, not under test. -/
def Dev.freeCellsOf (d : Dev) (unit : Nat) : List Nat :=
  let busy := (d.lehr.cells.map (·.1)) ++ d.lehr.fenced ++ d.lehr.tests.flatMap (·.1)
  (List.range 128).filter (fun c => !busy.contains (cellKey unit c))

/-- Whether an instance takes new blocks: enabled, powered, not gated (R402), not fenced, with a unit (R424). -/
def Dev.lehReady (d : Dev) (n : Nat) : Bool :=
  d.accepts (Page.leh n) && d.domainOn (32 + n) && !bitAt d.pwr.lehGated n && d.hasUnit puntyLeh n
    && !d.lehr.fencedUnits.contains (d.unitOf puntyLeh n)

/-- The instances that take new blocks (R182). -/
def Dev.lehInstances (d : Dev) : List Nat := (List.range 64).filter d.lehReady

/-- Whether a unit's cells stall for randomness (R173). -/
def Dev.unitStalled (d : Dev) (unit : Nat) : Bool := d.lehr.stalled.any (fun s => s / 2 == unit)

/-- Generate requests of generator `g` (unit × 2 + generator) since its last reseed. -/
def Dev.requests (d : Dev) (g : Nat) : Nat := Sparse.get (blank 0) d.lehr.requests g

/-- Whether a unit's generators are due for a reseed: its cells wait for DRBG_RESEED (R173). -/
def Dev.reseedDue (d : Dev) (unit : Nat) : Bool :=
  decide (2 ^ 20 ≤ d.requests (unit * 2)) || decide (2 ^ 20 ≤ d.requests (unit * 2 + 1))

/-- The random values of a block take one generate request of each generator of the unit (R173; log entry 109). -/
def Dev.askRandom (d : Dev) (unit : Nat) : Dev :=
  let first := Sparse.set (blank 0) d.lehr.requests (unit * 2) (d.requests (unit * 2) + 1)
  d.setLehr { d.lehr with requests := Sparse.set (blank 0) first (unit * 2 + 1) (d.requests (unit * 2 + 1) + 1) }

/-- Whether a unit's key cache holds a job's slot with the right generation (R192). -/
def Dev.cached (d : Dev) (unit : Nat) (j : LehrJob) : Bool :=
  (d.cacheOf unit).any (fun e => e.slot == j.slot && e.gen == j.gen)

/-- Put an entry at the recent end of a unit's key cache of 512 (R171, R192). -/
def Dev.cachePut (d : Dev) (unit : Nat) (e : CacheEntry) : Dev :=
  d.setCache unit ((e :: (d.cacheOf unit).filter (fun c => c.slot != e.slot)).take 512)

/-- Verify mode of a job's next block (R194). -/
def Dev.verifying (d : Dev) (j : LehrJob) : Bool :=
  j.verify || j.asksVerify || d.fbit Page.lehg Reg.LEHG_CM_CTL_VERIFY_ALL

/-- Cells that a slice's jobs occupy, and its limit (R185). -/
def Dev.cellsInUse (d : Dev) (s : Nat) : Nat :=
  d.lehr.cells.countP (fun e => match e.2 with
    | none => false
    | some w => match d.job w.job with
      | none => false
      | some j => match j.stamp with
        | none => false
        | some (t, _) => t == s)
def Dev.cellRoom (d : Dev) (stamp : Stamp) (n : Nat) : Bool :=
  match stamp with
  | none => true
  | some (s, _) => decide (d.cellsInUse s + n ≤ bits (d.wget Page.lehg (0x1000 + s)) 0 14)

/-! ## Acceptance (R179, R181, R193) -/

/-- The code with which LEHG refuses a job, or OK. -/
def Dev.jobCode (d : Dev) (j : LehrJob) : Nat :=
  firstFailure [(!j.malformed, Code.malformed),
    ((d.keySlot j.slot).admits j.mode j.dir j.gen j.stamp j.mgrId, Code.access)]

/-- Count a job that ends with a code (R201). -/
def Dev.countJob (d : Dev) (code : Nat) : Dev :=
  let d1 := d.count Page.lehg Reg.LEHG_JOB_CNT_CNT
  if code = Code.auth then d1.count Page.lehg Reg.LEHG_AUTH_CNT_CNT
  else if code = Code.access then d1.count Page.lehg Reg.LEHG_ACCESS_CNT_CNT
  else if code = Code.malformed then d1.count Page.lehg Reg.LEHG_MALFORMED_CNT_CNT
  else if code = Code.fault then d1.countSat Page.lehg Reg.LEHG_FAULT_CNT_CNT
  else d1

def Dev.jobDepth (d : Dev) : Nat := d.fget Page.lehg Reg.LEHG_JOB_DEPTH_DEPTH

/-- Accept a job: INFLIGHT rises in the same step, the key of an on-chip slot is at hand. -/
def Dev.acceptJob (d : Dev) (j : LehrJob) : Dev :=
  let v := d.keySlot j.slot
  let key := if slotWrapped j.slot then none
    else some (keyWithPair v.key v (d.keySlot (j.slot + 1)) j.slot (d.keySlot (j.slot + 1)).key)
  let n := d.lehr.nextJob
  let d1 := (d.setKeySlot j.slot { v with inflight := v.inflight + 1 }).setJob n (some { j with wide := v.wide, key := key })
  ((d1.setLehr { d1.lehr with nextJob := n + 1 }).fset Page.lehg Reg.LEHG_JOB_DEPTH_DEPTH (d.jobDepth + 1)).holdSlice j.stamp

/-- LEHR_JOB_SUBMIT: the oldest submitted job is checked; a refused one is returned with its code.  While LEHG is full, or
takes no work, submitters stall (R13, R181). -/
def Dev.checkSubmitted (d : Dev) : Option (LehrJob × Nat) × Dev :=
  match d.lehr.submits with
  | [] => (none, d)
  | j :: rest =>
    if 16384 ≤ d.jobDepth ∨ !d.accepts Page.lehg then (none, d)
    else
      let d1 := d.setLehr { d.lehr with submits := rest }
      let code := d1.jobCode j
      if code = Code.ok then (none, d1.acceptJob j)
      else
        let stale := code == Code.access && (d1.keySlot j.slot).gen != j.gen
        (some (j, code), (if stale then d1.staleKey else d1).countJob code)

/-! ## Placement (R182, R183) -/

/-- The first instance with the most free cells. -/
def Dev.mostFree (d : Dev) : List Nat → Option Nat
  | [] => none
  | n :: rest =>
    match d.mostFree rest with
    | none => some n
    | some m =>
      if (d.freeCellsOf (d.unitOf puntyLeh m)).length ≤ (d.freeCellsOf (d.unitOf puntyLeh n)).length then some n else some m

/-- The next cluster in order of preference among `ns`: one that caches the slot and has `need` free cells, else any. -/
def Dev.preferred (d : Dev) (j : LehrJob) (need : Nat) (ns : List Nat) : Option Nat :=
  let near := ns.filter (fun n =>
    d.cached (d.unitOf puntyLeh n) j && decide (need ≤ (d.freeCellsOf (d.unitOf puntyLeh n)).length))
  match d.mostFree near with
  | some n => some n
  | none => d.mostFree ns

/-- `k` clusters in order of preference. -/
def Dev.pickClusters (d : Dev) (j : LehrJob) (need : Nat) : Nat → List Nat → List Nat
  | 0, _ => []
  | k + 1, ns =>
    match d.preferred j need ns with
    | none => []
    | some n => n :: d.pickClusters j need k (ns.filter (· != n))

/-- Clusters a job may use (R183). -/
def Dev.stripeWidth (d : Dev) (j : LehrJob) : Nat :=
  let cap := if j.maxCl = 0 then d.fget Page.lehg Reg.LEHG_STRIPE_MAXCL else j.maxCl
  let thr := max 1 (d.fget Page.lehg Reg.LEHG_STRIPE_THR)
  if j.chained then 1 else max 1 (min cap ((j.blocks + thr - 1) / thr))

/-- Cut `n` blocks over the clusters, longer segments first (R183). -/
def stripe (n : Nat) (clusters : List Nat) : List JobSeg :=
  let k := clusters.length
  clusters.zipIdx.map (fun e => { cluster := e.1, count := n / k + (if e.2 < n % k then 1 else 0) })

/-- The clusters that take a job: those whose multiplier gave none of its products wrong, while there are others (R198). -/
def Dev.jobInstances (d : Dev) (j : LehrJob) : List Nat :=
  let other := d.lehInstances.filter (fun n => !j.shun.contains (cellKey (d.unitOf puntyLeh n) 128))
  if other = [] then d.lehInstances else other

/-- Place a job; none while no cluster has the cells for its first step. -/
def Dev.placeJob (d : Dev) (j : LehrJob) : Option (List JobSeg) :=
  let need := if d.verifying j then 2 else 1
  match d.pickClusters j need (d.stripeWidth j) (d.jobInstances j) with
  | [] => none
  | n :: rest =>
    if (d.freeCellsOf (d.unitOf puntyLeh n)).length < need then none else some (stripe j.blocks (n :: rest))

/-! ## Issuing blocks (R172, R173, R183, R185, R195) -/

/-- A cell among `free`: at random, or the lowest with RANDCELL_OFF. -/
def Dev.drawCell (d : Dev) (free : List Nat) : Nat × Dev :=
  if d.fbit Page.lehg Reg.LEHG_CM_CTL_RANDCELL_OFF then (free.headD 0, d)
  else (free.getD (d.fresh.1 % max 1 free.length) 0, d.fresh.2)

/-- Dummy rounds of one block (R173), counted in LEHG wide value 0x0002. -/
def Dev.drawDummies (d : Dev) : Dev :=
  if d.fbit Page.lehg Reg.LEHG_CM_CTL_DUMMY_OFF then d else d.fresh.2.wcount Page.lehg 2 (d.fresh.1 % 5)

/-- The spot-check countdown of a cell takes one block: whether this block is checked (R195). -/
def Dev.spotDue (d : Dev) (k : Nat) : Bool × Dev :=
  if d.fbit Page.lehg Reg.LEHG_CM_CTL_SPOT_OFF then (false, d)
  else
    let r := if d.countdown k = 0 then (1 + d.fresh.1 % 256, d.fresh.2) else (d.countdown k, d)
    if r.1 = 1 then (true, r.2.setCountdown k 256) else (false, r.2.setCountdown k (r.1 - 1))

/-- `n` blocks draw their dummy rounds. -/
def Dev.drawMany (d : Dev) : Nat → Dev
  | 0 => d
  | n + 1 => d.drawDummies.drawMany n

/-- A free unwrap lane. -/
def Dev.freeLane (d : Dev) : Option Nat := (List.range 16).find? (fun l => !(d.lehr.lanes.map (·.1)).contains l)

/-- An unwrap starts on lane `l`: each of its six blocks is subject to the measures (R173, R191). -/
def Dev.startLane (d : Dev) (l unit n : Nat) : Dev :=
  (d.setLehr { d.lehr with lanes := d.lehr.lanes ++ [(l, unit, n)] }).drawMany 6

/-- A job asks for an unwrap: it takes a free lane, or waits for one. -/
def Dev.askUnwrap (d : Dev) (unit n : Nat) : Dev :=
  match d.freeLane with
  | some l => d.startLane l unit n
  | none => d.setLehr { d.lehr with unwraps := d.lehr.unwraps ++ [(unit, n)] }

/-- The key of a job at a unit: from the unit's cache, filled from an on-chip slot on a miss; a wrapped slot asks for an
unwrap and the block waits (R191, R192). -/
def Dev.fetchKey (d : Dev) (unit n : Nat) (j : LehrJob) : Bool × Dev :=
  match (d.cacheOf unit).find? (fun e => e.slot == j.slot && e.gen == j.gen) with
  | some e => (true, (d.cachePut unit e).setJob n (some { j with key := some (j.key.getD e.key) }))
  | none =>
    if slotWrapped j.slot then
      if d.lehr.unwraps.contains (unit, n) || d.lehr.lanes.any (fun e => e.2 == (unit, n)) then (false, d)
      else (false, (d.askUnwrap unit n).count (d.lehPage unit) Reg.LEH_CACHE_MISS_CNT)
    else (true, (d.cachePut unit ⟨j.slot, j.gen, j.key.getD []⟩).count (d.lehPage unit) Reg.LEH_CACHE_MISS_CNT)

/-- Change segment `i` of job `n`. -/
def Dev.modSeg (d : Dev) (n i : Nat) (f : JobSeg → JobSeg) : Dev :=
  match d.job n with
  | none => d
  | some j => d.setJob n (some { j with segs := j.segs.modify i f })

/-- A segment has a block to issue: one to compute again, or the next; a chained job issues one at a time. -/
def Dev.segReady (d : Dev) (n i : Nat) (j : LehrJob) (g : JobSeg) : Bool :=
  (g.again != 0 || decide (g.issued < g.count))
    && !(j.chained && d.lehr.cells.any (fun e => match e.2 with | some w => w.job == n && w.seg == i | none => false))

/-- The cells that may take the next block of a segment: not those whose blocks of the job were suspect (R198), and for a block
computed again not its first pair (R194). -/
def Dev.blockCells (d : Dev) (unit : Nat) (j : LehrJob) (g : JobSeg) : List Nat :=
  let pair := match g.again, g.avoid with
    | 0, _ => []
    | _, [] => []
    | _, p :: _ => [p.1, p.2]
  (d.freeCellsOf unit).filter (fun c => !j.shun.contains (cellKey unit c) && !pair.contains (cellKey unit c))

/-- Put the next block of segment `i` on a cell of `unit`, and on a second cell when it is checked; unchanged when the cells
are not free. -/
def Dev.startBlock (d : Dev) (unit n i : Nat) (j : LehrJob) (g : JobSeg) : Dev :=
  let free := d.blockCells unit j g
  let kept := match g.cell with
    | some c => if free.contains c then some c else none
    | none => none
  if free = [] ∨ (g.cell.isSome ∧ kept = none ∧ g.again = 0) then d
  else
    let r := match kept, g.again with
      | some c, 0 => (c, d)
      | _, _ => d.drawCell free
    let k := cellKey unit r.1
    let verify := d.verifying j || g.again != 0
    let s := if verify then (true, r.2) else r.2.spotDue k
    let rest := free.filter (· != r.1)
    let need := if s.1 then 2 else 1
    if (s.1 ∧ rest = []) ∨ !d.cellRoom j.stamp need then d
    else
      let w : CellWork := { job := n, seg := i, repeated := g.again != 0 }
      let d1 := (s.2.askRandom unit).drawDummies
      let d2 := if s.1 then
          let q := d1.drawCell rest
          let k2 := cellKey unit q.1
          ((q.2.askRandom unit).drawDummies.setCell k (some { w with partner := some k2 })).setCell k2 (some { w with second := true, partner := some k })
        else d1.setCell k (some w)
      d2.modSeg n i (fun g =>
        if g.again ≠ 0 then { g with again := g.again - 1, avoid := g.avoid.drop 1 }
        else { g with issued := g.issued + 1, cell := if j.chained then some r.1 else none })

/-- LEHR_BLOCK_ISSUE. -/
def Dev.issueBlock (d : Dev) (n i : Nat) : Dev :=
  match d.job n with
  | none => d
  | some j0 =>
    if j0.verdict.isSome ∨ !d.journalReached j0.journal ∨ !d.accepts Page.lehg then d
    else
      match (if j0.segs = [] then d.placeJob j0 else some j0.segs) with
      | none => d
      | some segs =>
        let j := { j0 with segs := segs }
        let d1 := d.setJob n (some j)
        match segs[i]? with
        | none => d
        | some g =>
          let unit := d1.unitOf puntyLeh g.cluster
          if !d1.segReady n i j g ∨ !d1.lehReady g.cluster ∨ d1.unitStalled unit ∨ d1.reseedDue unit then d
          else
            let r := d1.fetchKey unit n j
            if r.1 then r.2.startBlock unit n i j g else r.2

/-- R183. -/
def execLehrBlockIssue (job segment : Nat) (s : State) : Host.Outcome State Fault Refusal :=
  s.become (s.dev.issueBlock job segment)

/-! ## Reruns and fences (R196-R198) -/

/-- Release every cell that works for a job. -/
def Dev.releaseCells (d : Dev) (n : Nat) : Dev :=
  d.setLehr { d.lehr with cells := d.lehr.cells.filter (fun e => match e.2 with | some w => w.job != n | none => false) }

/-- The owner word of a fault record (R437). -/
def ownerWord (s : Stamp) : Nat := stampWord s
where stampWord : Stamp → Nat
  | none => 2 ^ 12
  | some (n, inc) => n + inc * 2 ^ 16

/-- A job with a suspect block reruns from its start on other cells, at most twice; a third attempt ends it with FAULT
(R198).  Each is journaled and pulses event 246. -/
def Dev.rerunJob (d : Dev) (n k : Nat) : Dev :=
  match d.job n with
  | none => d
  | some j =>
    if j.verdict.isSome then d
    else
      let last := decide (2 ≤ j.reruns)
      let d1 := (d.releaseCells n).journalAdd {
        typ := 0x1A, inst := d.pageOfUnit puntyLeh (k / 256), kind := Kind.lehrRerun, cls := 2, work := 3
        outcome := if last then Code.fault else 0xFF, ident := j.work, owner := ownerWord j.stamp
        detail := [k % 256, j.reruns + 2] }
      let pair := match d.cell k with
        | some w => w.partner.toList
        | none => []
      let j1 := if last then { j with verdict := some Code.fault }
        else { j with reruns := j.reruns + 1, segs := [], multAgain := none, shun := j.shun ++ k :: pair }
      let d2 := d1.setJob n (some { j1 with journal := d1.journal.accepted })
      (if last then d2 else d2.count Page.lehg Reg.LEHG_RERUN_CNT_CNT).pulse 246

/-- The jobs of a trace, each once, with its number of blocks. -/
def traceJobs (t : List JobRef) : List (JobRef × Nat) := (t.dedup).map (fun r => (r, t.countP (· == r)))

/-- A cell or multiplier has passed a check or test: it holds no suspect block (R197). -/
def Dev.cleanTrace (d : Dev) (k : Nat) : Dev :=
  if k % 256 = 128 then d.setMultiplier (k / 256) { d.multiplier (k / 256) with trace := [] } else d.setTrace k []

/-- The suspect blocks of a failed cell or multiplier (R197, R198): a job that has not ended reruns, one that has ended is
named in a journal record of class 5. -/
def Dev.suspect (d : Dev) (k : Nat) : Dev :=
  (if k % 256 = 128 then (d.multiplier (k / 256)).trace else traceJobs (d.cellTrace k)).foldl (fun (d : Dev) e =>
    match d.job e.1.job with
    | some _ => d.rerunJob e.1.job k
    | none => d.journalAdd {
        typ := 0x1A, inst := d.pageOfUnit puntyLeh (k / 256), kind := Kind.lehrEmitted, cls := 5, work := 3
        outcome := Code.ok, ident := e.1.work, owner := ownerWord e.1.stamp, detail := [k % 256, e.2] })
    (d.cleanTrace k)

/-- A whole cluster is fenced (R196): event 249, its jobs move, and the unit is taken out (R424, R435). -/
def Dev.fenceUnit (d : Dev) (unit : Nat) : Dev :=
  if d.lehr.fencedUnits.contains unit then d
  else
    let inst := d.pageOfUnit puntyLeh unit
    let on := (d.lehr.jobs.filter (fun e => match e.2 with
      | some j => j.segs.any (fun g => g.cluster == inst)
      | none => false)).map (·.1)
    let d1 := (d.setLehr { d.lehr with fencedUnits := d.lehr.fencedUnits ++ [unit] }).pulse 249
    (on.foldl (fun (d : Dev) n => d.rerunJob n (cellKey unit 128)) d1).svcAuto puntyLeh inst true

/-- The job of the block that a failed cell works on reruns. -/
def Dev.rerunWork (d : Dev) (k : Nat) : Dev :=
  match d.cell k with
  | some w => d.rerunJob w.job k
  | none => d

/-- A cluster with more than 4 fenced cells is fenced. -/
def Dev.fenceCrowded (d : Dev) (unit : Nat) : Dev :=
  if 4 < (d.lehr.fenced.filter (fun c => c / 256 == unit)).length then d.fenceUnit unit else d

/-- A cell is fenced (R196): CELL_FENCED, event 245; its block's job and its suspect blocks follow R198; more than 4 fenced
cells fence the cluster. -/
def Dev.fenceCell (d : Dev) (k : Nat) : Dev :=
  if d.lehr.fenced.contains k then d
  else
    let unit := k / 256
    let d1 := d.setLehr { d.lehr with fenced := d.lehr.fenced ++ [k] }
    let d2 := (d1.latchFault (d1.lehPage unit) FaultBit.leh_CELL_FENCED).pulse 245
    (((d2.rerunWork k).suspect k)).fenceCrowded unit

/-! ## Finishing blocks (R172, R194, R195) -/

/-- A comparison fails. -/
def Dev.mismatch (d : Dev) (unit : Nat) : Dev :=
  (d.countSat (d.lehPage unit) Reg.LEH_MISMATCH_CNT_CNT).latchFault (d.lehPage unit) FaultBit.leh_MISMATCH

/-- A block is done. -/
def Dev.blockDone (d : Dev) (unit n i : Nat) : Dev :=
  ((d.count (d.lehPage unit) Reg.LEH_BLOCK_CNT_CNT).wcount Page.lehg 1).modSeg n i (fun g => { g with done := g.done + 1 })

/-- The reference of a job for a cell's trace. -/
def LehrJob.ref (j : LehrJob) (n : Nat) : JobRef := ⟨n, j.work, j.stamp⟩

/-- LEHR_BLOCK_COMPLETE: the cell's block ends; `agree` is the comparison of a block computed twice. -/
def Dev.completeBlock (d : Dev) (unit c : Nat) (agree : Bool) : Dev :=
  let k := cellKey unit c
  match d.cell k with
  | none => d
  | some w =>
    match w.second, w.partner with
    | true, _ => d
    | false, none =>
      let d1 := (d.setCell k none).blockDone unit w.job w.seg
      match d.job w.job with
      | none => d1
      | some j => d1.setTrace k (d1.cellTrace k ++ [j.ref w.job])
    | false, some k2 =>
      let d0 := d.count (d.lehPage unit) Reg.LEH_CHECK_CNT_CNT
      let d1 := (d0.setCell k none).setCell k2 none
      if agree then ((d1.setTrace k []).setTrace k2 []).blockDone unit w.job w.seg
      else if w.repeated then (d0.mismatch unit).rerunJob w.job k
      else
        let d2 := (d1.mismatch unit).setLehr { d1.lehr with tests := d1.lehr.tests ++ [([k, k2], true)] }
        d2.modSeg w.job w.seg (fun g => { g with again := g.again + 1, avoid := g.avoid ++ [(k, k2)] })

/-- R172. -/
def execLehrBlockComplete (unit cell : Nat) (agree : Bool) (s : State) : Host.Outcome State Fault Refusal :=
  s.become (s.dev.completeBlock unit cell agree)

/-! ## Known-answer tests (R196) -/

/-- A cell of a pair under test has passed or failed; a pair that passed whole was a transient mismatch (R194). -/
def Dev.pairTested (d : Dev) (k : Nat) (pass : Bool) : Dev :=
  let tests := d.lehr.tests.map (fun t => if t.1.contains k then (t.1.filter (· != k), t.2 && pass) else t)
  let transient := tests.countP (fun t => t.1 == [] && t.2)
  (d.setLehr { d.lehr with tests := tests.filter (fun t => t.1 != []) }).wcount Page.lehg 3 transient

/-- KNOWN_ANSWER_TEST of a cell, or of the multiplier as cell 128. -/
def Dev.testCell (d : Dev) (unit c : Nat) (pass : Bool) : Dev :=
  let k := cellKey unit c
  if 64 < unit ∨ 128 < c ∨ (d.cell k).isSome ∨ d.lehr.fenced.contains k then d
  else
    let d1 := (d.count (d.lehPage unit) Reg.LEH_KAT_CNT_CNT).pairTested k pass
    if pass then d1.cleanTrace k
    else
      let d2 := (d1.latchFault (d.lehPage unit) FaultBit.leh_KAT_FAIL).pulse 247
      if c = 128 then ((d2.latchFault (d.lehPage unit) FaultBit.leh_GHASH_FAIL).suspect k).fenceUnit unit
      else d2.fenceCell k

/-- A cluster that comes back runs the known-answer test on every cell before the cell takes a block (R402, R433): its cells are
under test. -/
def Dev.testCluster (d : Dev) (unit : Nat) : Dev :=
  let cells := ((List.range 128).map (cellKey unit)).filter (fun k => !d.lehr.fenced.contains k)
  d.setLehr { d.lehr with tests := d.lehr.tests ++ cells.map (fun k => ([k], false)) }

/-- R196. -/
def execKnownAnswerTest (unit cell : Nat) (pass : Bool) (s : State) : Host.Outcome State Fault Refusal :=
  s.become (s.dev.testCell unit cell pass)

/-! ## Randomness (R173) -/

/-- A generator is reseeded, or the reseed cannot be obtained and the cluster's cells stall; event 248 pulses once per stall, also
when the other generator fails during it. -/
def Dev.reseed (d : Dev) (unit gen : Nat) (seeded : Bool) : Dev :=
  let k := unit * 2 + gen
  if 64 < unit ∨ 1 < gen then d
  else if seeded then d.setLehr { d.lehr with
    stalled := d.lehr.stalled.filter (· != k), requests := Sparse.set (blank 0) d.lehr.requests k 0 }
  else if d.lehr.stalled.contains k then d
  else
    let d1 := (d.setLehr { d.lehr with stalled := d.lehr.stalled ++ [k] }).latchFault Page.lehg FaultBit.lehg_DRBG_STALL
    if d.unitStalled unit then d1 else d1.pulse 248

/-- R173. -/
def execDrbgReseed (unit generator : Nat) (seeded : Bool) (s : State) : Host.Outcome State Fault Refusal :=
  s.become (s.dev.reseed unit generator seeded)

/-- Stalled clusters. -/
def Dev.stalledUnits (d : Dev) : Nat := ((d.lehr.stalled.map (· / 2)).dedup).length

/-- One nanosecond of stalled LEH cycles is added to LEHG_DRBG_STALL. -/
def Dev.countStall (d : Dev) : Dev :=
  let n := d.lehr.stallRest + d.clockMhz lehMhz / 200 * d.stalledUnits
  if d.lehr.stalled = [] then d
  else (d.setLehr { d.lehr with stallRest := n % 5 }).countSat Page.lehg Reg.LEHG_DRBG_STALL_CNT (n / 5)

/-! ## Unwraps (R191) -/

/-- Whether the odd slot of an XTS-AES-256 pair goes with slot `s`. -/
def Dev.slotPaired (d : Dev) (s : Nat) : Bool :=
  let v := d.keySlot s
  let w := d.keySlot (s + 1)
  v.wide && bitAt v.modes 6 && w.pair && w.state != 0

/-- An unwrap that does not check: the slot is zeroised at once as RETIRE does, with the odd slot of a pair, whichever record of the
two failed (log entry 108), and the job ends with FAULT. -/
def Dev.unwrapFailed (d : Dev) (n : Nat) (j : LehrJob) : Dev :=
  let d1 := if (d.keySlot j.slot).gen = j.gen ∧ (d.keySlot j.slot).state ≠ 0 then
      (if d.slotPaired j.slot then d.zeroiseSlot (j.slot + 1) else d).zeroiseSlot j.slot
    else d
  let d2 := ((d1.countSat Page.key Reg.KEY_UNWRAP_FAIL_CNT).latchFault Page.key FaultBit.key_UNWRAP_FAIL).pulse 308
  (d2.releaseCells n).setJob n (some { j with verdict := some Code.fault })

/-- An unwrap lane becomes free: the oldest waiting unwrap takes it. -/
def Dev.nextLane (d : Dev) (l : Nat) : Dev :=
  match d.lehr.unwraps with
  | [] => d
  | (unit, n) :: rest => (d.setLehr { d.lehr with unwraps := rest }).startLane l unit n

/-- KEY_UNWRAP: the oldest unwrap completes. -/
def Dev.completeUnwrap (d : Dev) : Dev :=
  match d.lehr.lanes with
  | [] => d
  | (l, unit, n) :: rest =>
    let d1 := (d.setLehr { d.lehr with lanes := rest }).nextLane l
    match d1.job n with
    | none => d1
    | some j =>
      let v := d1.keySlot j.slot
      let w := d1.keySlot (j.slot + 1)
      let odd := if d1.slotPaired j.slot then d1.unwrap (j.slot + 1) else some []
      match (if v.gen = j.gen ∧ v.state ≠ 0 then d1.unwrap j.slot else none), odd with
      | some k, some k2 =>
        let key := keyWithPair k v w j.slot k2
        (d1.setJob n (some { j with key := some key })).cachePut unit ⟨j.slot, j.gen, key⟩
      | _, _ => d1.unwrapFailed n j

/-- R191. -/
def execKeyUnwrap (s : State) : Host.Outcome State Fault Refusal := s.become s.dev.completeUnwrap

/-! ## The end of a job (R179, R181) -/

/-- The submitter of a job, for the order of R181: a slice, the manager, SXP or STO (R177). -/
def LehrJob.submitter (j : LehrJob) : Nat :=
  match j.src with
  | .cipher .. => stampSlice j.stamp + b2n (stampMgr j.stamp) * 2 ^ 12
  | .sxp _ => 65536
  | .sto .. => 65537

/-- An older job of the same submitter and slot has not ended. -/
def Dev.jobBehind (d : Dev) (n : Nat) (j : LehrJob) : Bool :=
  d.lehr.jobs.any (fun e => decide (e.1 < n) && (match e.2 with
    | some o => o.slot == j.slot && o.submitter == j.submitter
    | none => false))

/-- All blocks of a job are done. -/
def LehrJob.complete (j : LehrJob) : Bool :=
  j.verdict.isSome || j.blocks == 0 || (j.segs != [] && j.segs.all (fun g => g.done == g.count))

/-- A product of cluster `c` fails its comparison (R194): it is computed again while the multiplier is tested; when it fails again
the job reruns. -/
def Dev.productFailed (d : Dev) (n : Nat) (j : LehrJob) (c : Nat) : Dev :=
  let unit := d.unitOf puntyLeh c
  let d1 := (d.mismatch unit).latchFault (d.lehPage unit) FaultBit.leh_GHASH_FAIL
  if j.multAgain = some c then d1.rerunJob n (cellKey unit 128)
  else (d1.setLehr { d1.lehr with tests := d1.lehr.tests ++ [([cellKey unit 128], true)] }).setJob n
    (some { j with multAgain := some c })

/-- The GHASH products of segment `i` of a job on its cluster's multiplier: the AAD blocks fall to the first, with which J0 goes
(R183, R184). -/
def LehrJob.products (j : LehrJob) (i : Nat) : Nat :=
  let g := j.segs.getD i { cluster := 0, count := 0 }
  if i = 0 then (j.aadLen + 15) / 16 + (g.count - 1) else g.count

/-- Whether a product of the job on cluster `c` is compared: each in verify mode, else every 256th of the multiplier unless SPOT_OFF
is set (R174, R194, R195). -/
def Dev.productChecked (d : Dev) (j : LehrJob) (c : Nat) : Bool :=
  (j.segs.zipIdx).any (fun e => e.1.cluster == c && (d.verifying j || j.multAgain == some c
    || (!d.fbit Page.lehg Reg.LEHG_CM_CTL_SPOT_OFF
      && decide (256 ≤ (d.multiplier (d.unitOf puntyLeh c)).since + j.products e.2))))

/-- The products of a segment of a job that ended outside verify mode: suspect are those after the last checked one (R195, R197). -/
def Dev.countProducts (d : Dev) (n : Nat) (j : LehrJob) (i : Nat) (g : JobSeg) : Dev :=
  let unit := d.unitOf puntyLeh g.cluster
  let m := d.multiplier unit
  let k := j.products i
  if d.fbit Page.lehg Reg.LEHG_CM_CTL_SPOT_OFF then d.setMultiplier unit { m with trace := m.trace ++ [(j.ref n, k)] }
  else if m.since + k < 256 then d.setMultiplier unit { since := m.since + k, trace := m.trace ++ [(j.ref n, k)] }
  else
    let left := (m.since + k) % 256
    d.setMultiplier unit { since := left, trace := if left = 0 then [] else [(j.ref n, left)] }

/-- LEHR_JOB_END: a complete job ends in its turn; its source, code and output are returned.  `failed` names a cluster whose
multiplier gives a compared product that differs. -/
def Dev.takeEnded (d : Dev) (n : Nat) (failed : Option Nat) : Option (LehrJob × Nat × List Byte) × Dev :=
  match d.job n with
  | none => (none, d)
  | some j =>
    if !j.complete ∨ d.jobBehind n j ∨ !d.journalReached j.journal then (none, d)
    else
      match failed.filter (fun c => j.mode == Mode.gcm && j.verdict.isNone && d.productChecked j c) with
      | some c => (none, d.productFailed n j c)
      | none =>
        let r := match j.verdict with
          | some code => (code, [])
          | none => j.result (j.key.getD [])
        let v := d.keySlot j.slot
        let d1 := (d.releaseCells n).setJob n none
        let d2 := if v.gen = j.gen ∧ v.state ≠ 0 then d1.setKeySlot j.slot { v with inflight := v.inflight - 1 } else d1
        let d3 := ((d2.fset Page.lehg Reg.LEHG_JOB_DEPTH_DEPTH (d.jobDepth - 1)).countJob r.1).releaseSlice j.stamp
        let d4 := if j.mode = Mode.gcm ∧ !d.verifying j then
            j.segs.zipIdx.foldl (fun (d : Dev) e => d.countProducts n j e.2 e.1) d3
          else d3
        (some (j, r.1, r.2), d4)

end Sys2Proof.Machine
end

