-- ==== Sys2Proof/Machine/Sxp.lean ====
section
/-!
DEFINITION. Secure transports (chapter 8): the SA table (R206), the headers of MACsec, ESP and TLS (R211), prechecks and
postchecks (R209, R210), anti-replay (R214, R215), thresholds and rollover (R216, R217).  The commands that use these stand
behind storage, whose records pass through SXP.
-/

namespace Sys2Proof.Machine

def Dev.setSxp (d : Dev) (x : Sxp) : Dev := { d with sxp := x }

/-! ## The SA table -/

def Dev.saAddr (d : Dev) (s : Nat) : Nat := bits (d.wget Page.sxp 0x10) 0 15 * 2 ^ 20 + s * 128
def Dev.saWords (d : Dev) (s : Nat) : List Nat := (d.gwords (d.saAddr s) 32).map (·.toNat)
def Dev.saSet (d : Dev) (s : Nat) (ws : List Nat) : Dev := d.gsetWords (d.saAddr s) ws

namespace Sa
def proto (w : List Nat) : Nat := bits (nth w 0) 0 2
def dir (w : List Nat) : Nat := bits (nth w 0) 2 1
def ext (w : List Nat) : Bool := bitAt (nth w 0) 3
def tunnel (w : List Nat) : Bool := bitAt (nth w 0) 4
def udp (w : List Nat) : Bool := bitAt (nth w 0) 5
def verify (w : List Nat) : Bool := bitAt (nth w 0) 6
def conf (w : List Nat) : Bool := bitAt (nth w 0) 7
def sc (w : List Nat) : Bool := bitAt (nth w 0) 8
def es (w : List Nat) : Bool := bitAt (nth w 0) 9
def replayEn (w : List Nat) : Bool := bitAt (nth w 0) 10
def strict (w : List Nat) : Bool := bitAt (nth w 0) 11
def autoRoll (w : List Nat) : Bool := bitAt (nth w 0) 12
def icv (w : List Nat) : Nat := if proto w = 1 ∧ bitAt (nth w 0) 13 then 12 else 16
def an (w : List Nat) : Nat := bits (nth w 0) 14 2
def window (w : List Nat) : Nat := bits (nth w 0) 16 13
def slot (w : List Nat) : Nat := bits (nth w 1) 0 20
def gen (w : List Nat) : Nat := bits (nth w 2) 0 16
def owner (w : List Nat) : Nat := bits (nth w 3) 0 12
def mgr (w : List Nat) : Bool := bitAt (nth w 3) 12
def inc (w : List Nat) : Nat := bits (nth w 3) 16 8
def spi (w : List Nat) : Nat := nth w 4
def sci (w : List Nat) : Nat := nth w 5 + nth w 6 * 2 ^ 32
def tmpl (w : List Nat) : Nat := bits (nth w 7) 0 18
def succ (w : List Nat) : Nat := bits (nth w 8) 0 20
def succValid (w : List Nat) : Bool := bitAt (nth w 8) 20
def soft (w : List Nat) : Nat := nth w 9 + nth w 10 * 2 ^ 32
def hard (w : List Nat) : Nat := nth w 11 + nth w 12 * 2 ^ 32
def bmp (w : List Nat) : Nat := bits (nth w 13) 0 18
def seq (w : List Nat) : Nat := nth w 14 + nth w 15 * 2 ^ 32
/-- 0 ACTIVE, 1 ROLLED, 2 HOLD. -/
def state (w : List Nat) : Nat := bits (nth w 16) 0 2
def softHit (w : List Nat) : Bool := bitAt (nth w 16) 2
def hardHit (w : List Nat) : Bool := bitAt (nth w 16) 3
def inflight (w : List Nat) : Nat := bits (nth w 16) 8 15
def valid (w : List Nat) : Bool := bitAt (nth w 31) 31
/-- It keeps a replay bitmap: MACsec and ESP verify (R214; log entry 111). -/
def mapped (w : List Nat) : Bool := dir w == 1 && proto w != 2
/-- Its owner: OWNER, OWNER_MGR and INCARNATION. -/
def ident (w : List Nat) : Nat × Bool × Nat := (owner w, mgr w, inc w)
/-- The identity its jobs carry (R207). -/
def stamp (w : List Nat) : Stamp := if mgr w then none else some (owner w, inc w)
def setSeq (w : List Nat) (n : Nat) : List Nat := (w.set 14 (bits n 0 32)).set 15 (bits n 32 32)
def setState (w : List Nat) (n : Nat) : List Nat := w.set 16 (setBits (nth w 16) 0 2 n)
def setFlag (w : List Nat) (i : Nat) : List Nat := w.set 16 (setBits (nth w 16) i 1 1)
def setInflight (w : List Nat) (n : Nat) : List Nat := w.set 16 (setBits (nth w 16) 8 15 n)
/-- Add to one of the 64-bit counters in words 17-22. -/
def add (w : List Nat) (i n : Nat) : List Nat :=
  let v := (nth w i + nth w (i + 1) * 2 ^ 32 + n) % 2 ^ 64
  (w.set i (bits v 0 32)).set (i + 1) (bits v 32 32)
/-- Ones in words 0-13 and 31. -/
def ones (w : List Nat) : Nat := (((w.take 14) ++ [nth w 31]).map Machine.ones).sum
/-- Parity made even (bit 30 of word 31). -/
def sealed (w : List Nat) : List Nat :=
  let w0 := w.set 31 (setBits (nth w 31) 30 1 0)
  w0.set 31 (setBits (nth w0 31) 30 1 (ones w0))
end Sa

/-- An SA's lines cannot be read correctly (R220). -/
def Dev.saBad (d : Dev) (s : Nat) : Bool :=
  d.lineUncorrectable (d.saAddr s) || d.lineUncorrectable (d.saAddr s + 64) || Sa.ones (d.saWords s) % 2 != 0

/-- An access to SA `s` meets a line that cannot be read correctly (R220). -/
def Dev.noteSa (d : Dev) (s : Nat) : Dev := d.latchWhen (d.saBad s) Page.sxp FaultBit.sxp_SA_UE

/-- Whether SA `s` is valid as read. -/
def Dev.saValid (d : Dev) (s : Nat) : Bool := !d.saBad s && Sa.valid (d.saWords s)

/-- The SA that serves a precheck naming `s` (R217): SUCC while the SA is ROLLED; and whether the precheck waits for an older
SA of the chain to drain. -/
def Dev.saServing (d : Dev) : Nat → Nat → Nat × Bool
  | 0, s => (s, false)
  | fuel + 1, s =>
    let w := d.saWords s
    if d.saValid s ∧ Sa.state w = 1 then
      let r := d.saServing fuel (Sa.succ w)
      (r.1, r.2 || (Sa.dir w == 0 && Sa.inflight w != 0))
    else (s, false)

/-! ## Rolling (R216, R217) -/

/-- Push an entry into SXP_LIMIT_FIFO. -/
def Dev.pushLimit (d : Dev) (hard : Bool) (s : Nat) : Dev :=
  let d1 := if d.sxp.limit.length < 256 then d.setSxp { d.sxp with limit := d.sxp.limit ++ [(hard, s)] }
    else d.countSat Page.sxp Reg.SXP_LIMIT_LOST_CNT
  d1.pulse (if hard then 314 else 313)

/-- Whether a roll of SA `s` is well formed (R217); of an SA that cannot be read it is not (log entry 112). -/
def Dev.mayRoll (d : Dev) (s : Nat) : Bool :=
  let a := d.saWords s
  let b := d.saWords (Sa.succ a)
  !d.saBad s && (Sa.dir a == 0 || Sa.proto a == 2) && Sa.succValid a
    && d.saValid (Sa.succ a) && Sa.state b != 1 && Sa.proto a == Sa.proto b && Sa.dir a == Sa.dir b
    && Sa.ident a == Sa.ident b

/-- The roll itself: STATE becomes ROLLED. -/
def Dev.rollSa (d : Dev) (s : Nat) : Dev :=
  (d.saSet s (Sa.setState (d.saWords s) 1)).setSxp { d.sxp with rolling := d.sxp.rolling.filter (· != s) ++ [s] }

/-- A rolled SA has drained: event 315. -/
def Dev.rollDone (d : Dev) (s : Nat) : Dev :=
  if d.sxp.rolling.contains s ∧ Sa.inflight (d.saWords s) = 0 then
    (d.setSxp { d.sxp with rolling := d.sxp.rolling.filter (· != s) }).pulse 315
  else d

/-! ## Anti-replay (R214) -/

def Dev.bitmapAddr (d : Dev) (w : List Nat) : Nat := bits (d.wget Page.sxp 0x11) 0 15 * 2 ^ 20 + Sa.bmp w * 512
def Dev.replayBit (d : Dev) (w : List Nat) (n : Nat) : Bool :=
  bitAt (Memory.byte d.gddr (d.bitmapAddr w + n % 4096 / 8)).toNat (n % 8)
def Dev.setReplayBit (d : Dev) (w : List Nat) (n : Nat) (b : Bool) : Dev :=
  let a := d.bitmapAddr w + n % 4096 / 8
  d.gwrite a [BitVec.ofNat 8 (setBits (Memory.byte d.gddr a).toNat (n % 8) 1 (b2n b))]

/-- The discard reason of the window check, if it rejects `n`. -/
def Dev.windowReject (d : Dev) (w : List Nat) (n : Nat) : Option Nat :=
  let t := Sa.seq w
  if !Sa.replayEn w ∨ Sa.proto w = 2 then none
  else if n + Sa.window w ≤ t then some 6
  else if Sa.strict w ∧ 0 < Sa.window w ∧ n ≤ t ∧ d.replayBit w n then some 7
  else none

/-- window_update: T rises, with the bits between cleared, and the bit of `n` is set. -/
def Dev.windowUpdate (d : Dev) (s : Nat) (w : List Nat) (n : Nat) : Dev :=
  let t := Sa.seq w
  let d1 := if n ≤ t then d
    else (List.range (min 4096 (n - 1 - t))).foldl (fun (d : Dev) i => d.setReplayBit w (t + 1 + i) false) d
  let d2 := d1.setReplayBit w n true
  if t < n then d2.saSet s (Sa.setSeq (d2.saWords s) n) else d2

/-- The number inferred from the received low half. -/
def inferSeq (w : List Nat) (low : Nat) : Nat :=
  if !Sa.ext w then low
  else
    let t := Sa.seq w
    let th := t / 2 ^ 32
    let tl := t % 2 ^ 32
    let high := if Sa.window w ≤ tl + 1 then (if tl + 1 - Sa.window w ≤ low then th else th + 1)
      else if tl + 1 + 2 ^ 32 - Sa.window w ≤ low then th + 2 ^ 32 - 1 else th
    high % 2 ^ 32 * 2 ^ 32 + low

/-! ## Headers (R211) -/

/-- What a precheck hands to the lehr and keeps for the postcheck: the received low sequence bits, AAD, data, tag, IV and how
the salt enters the nonce, and the bytes in front of the output. -/
structure Located where
  low : Nat := 0
  aad : List Byte
  data : List Byte
  tag : List Byte := []
  iv : List Byte
  salt : Nat := 0
  front : List Byte := []
  deriving DecidableEq, Repr

/-- The nonce part of MACsec for packet number `n`. -/
def macsecIv (w : List Nat) (n : Nat) : List Byte :=
  if Sa.ext w then toBe 4 (Sa.spi w) ++ toBe 8 n else toBe 8 (Sa.sci w) ++ toBe 4 n
def macsecSalt (w : List Nat) : Nat := if Sa.ext w then 1 else 0

/-- MACsec protect of frame `bs` under number `n`. -/
def macsecProtect (w : List Nat) (bs : List Byte) (n : Nat) : Option Located :=
  if bs.length < 14 then none
  else
    let secure := bs.drop 12
    let tci := b2n (Sa.es w) * 64 + b2n (Sa.sc w) * 32 + b2n (Sa.conf w) * 12 + Sa.an w
    let tag := [0x88, 0xE5] ++ toBe 1 tci ++ toBe 1 (if secure.length < 48 then secure.length else 0) ++ toBe 4 n
      ++ (if Sa.sc w then toBe 8 (Sa.sci w) else [])
    let aad := bs.take 12 ++ tag
    some {
      aad := if Sa.conf w then aad else aad ++ secure, data := if Sa.conf w then secure else []
      iv := macsecIv w n, salt := macsecSalt w, front := if Sa.conf w then aad else [] }

/-- Length of a received SecTAG. -/
def secTagLen (bs : List Byte) : Nat := if bitAt (byteAt bs 14) 5 then 16 else 8

/-- MACsec verify: the frame located; the IV is filled in once the number is inferred. -/
def macsecVerify (w : List Nat) (bs : List Byte) : Option Located :=
  let tci := byteAt bs 14
  let sl := byteAt bs 15
  let hdr := 12 + secTagLen bs
  let len := if sl = 0 then bs.length - hdr - 16 else sl
  let pn := ofBe (cut bs 16 4)
  if bs.length < hdr + 16 ∨ be16 bs 12 ≠ 0x88E5 ∨ bitAt tci 7 ∨ tci % 4 ≠ Sa.an w
      ∨ bitAt tci 3 ≠ Sa.conf w ∨ bitAt tci 2 ≠ Sa.conf w ∨ pn = 0
      ∨ 48 ≤ sl ∨ (sl = 0 ∧ len < 48) ∨ bs.length < hdr + len + 16 then none
  else
    let secure := cut bs hdr len
    some {
      low := pn, aad := if Sa.conf w then bs.take hdr else bs.take (hdr + len), data := if Sa.conf w then secure else []
      tag := cut bs (hdr + len) 16, iv := [], salt := macsecSalt w, front := bs.take 12 }

/-- IPv6 next headers that are extension headers. -/
def isIp6Ext (n : Nat) : Bool := [0, 43, 44, 51, 60, 135, 139, 140, 253, 254].contains n

/-- The end of the IP packet at `o`: none when it is no whole, unfragmented IP packet without extension headers. -/
def ipEnd (bs : List Byte) (o : Nat) : Option Nat :=
  let v4 := ipVersion bs o == 4
  let total := if v4 then be16 bs (o + 2) else be16 bs (o + 4) + 40
  if ipVersion bs o = 0 ∨ bs.length < o + total ∨ total < ipLen bs o ∨ (v4 ∧ ipLen bs o < 20)
      ∨ (v4 ∧ be16 bs (o + 6) % 16384 ≠ 0) ∨ (!v4 ∧ isIp6Ext (byteAt bs (o + 6))) then none
  else some (o + total)

/-- Set protocol and length of the IP header at `o` of `bs`, whose packet ends at byte `fin`; the checksum follows. -/
def putIp (bs : List Byte) (o proto fin : Nat) : List Byte :=
  if ipVersion bs o = 4 then fixIp4 (overwrite (overwrite bs (o + 9) (toBe 1 proto)) (o + 2) (toBe 2 (fin - o))) o
  else overwrite (overwrite bs (o + 6) (toBe 1 proto)) (o + 4) (toBe 2 (fin - o - 40))

/-- The bytes padded as ESP pads them, with pad length and next header. -/
def espPadded (bs : List Byte) (nh : Nat) : List Byte :=
  let pad := (4 - (bs.length + 2) % 4) % 4
  bs ++ (List.range pad).map (fun i => BitVec.ofNat 8 (i + 1)) ++ toBe 1 pad ++ toBe 1 nh

/-- AAD of ESP. -/
def espAad (w : List Nat) (n : Nat) : List Byte := toBe 4 (Sa.spi w) ++ (if Sa.ext w then toBe 8 n else toBe 4 n)
/-- SPI, sequence number and IV in front of the ciphertext. -/
def espHeader (w : List Nat) (n : Nat) : List Byte := toBe 4 (Sa.spi w) ++ toBe 4 n ++ toBe 8 n

/-- ESP transport protect of the IP packet at `o`. -/
def espTransport (w : List Nat) (bs : List Byte) (o n : Nat) : Option Located :=
  match ipEnd bs o with
  | none => none
  | some fin =>
    let at_ := o + ipLen bs o
    let data := espPadded (cut bs at_ (fin - at_)) (ipProto bs o)
    let total := at_ + 16 + data.length + Sa.icv w
    some {
      aad := espAad w n, data := data, iv := List.replicate 4 0 ++ toBe 8 n, salt := 2
      front := (putIp (bs.take at_) o 50 total) ++ espHeader w n }

/-- ESP tunnel protect: all bytes from L3 at `o` on, behind template `t` (R211; log entry 23). -/
def espTunnel (w : List Nat) (t : Template) (md bs : List Byte) (o n ident : Nat) : Option Located :=
  if ipVersion bs o = 0 then none
  else
    let data := espPadded (bs.drop o) (if ipVersion bs o = 4 then 4 else 41)
    let head := t.bytes.take (if Sa.udp w then t.l4 + 8 else t.l3 + t.ipBytes)
    let t1 : Template := { t with words := t.words.set 0 (setBits (nth t.words 0) 13 1 0) }
    let whole := t1.finish md (head ++ List.replicate (16 + data.length + Sa.icv w) 0) (some (tosOf bs o)) ident
    some {
      aad := espAad w n, data := data, iv := List.replicate 4 0 ++ toBe 8 n, salt := 2
      front := whole.take head.length ++ espHeader w n }

/-- Where ESP starts in the IP packet at `o`, and where it ends. -/
def espAt (w : List Nat) (bs : List Byte) (o : Nat) : Option (Nat × Nat) :=
  match ipEnd bs o with
  | none => none
  | some fin =>
    let l4 := o + ipLen bs o
    let esp := if ipProto bs o = 50 then some l4
      else if Sa.udp w ∧ ipProto bs o = 17 ∧ be16 bs (l4 + 2) = 4500 then some (l4 + 8) else none
    match esp with
    | none => none
    | some e => if fin < e + 16 + Sa.icv w then none else some (e, fin)

/-- ESP verify of the IP packet at `o`; AAD and number follow the inference. -/
def espVerify (w : List Nat) (bs : List Byte) (o : Nat) : Option Located :=
  match espAt w bs o with
  | none => none
  | some (e, fin) =>
    let len := fin - e - 16 - Sa.icv w
    some {
      low := ofBe (cut bs (e + 4) 4), aad := [], data := cut bs (e + 16) len, tag := cut bs (e + 16 + len) (Sa.icv w)
      iv := List.replicate 4 0 ++ cut bs (e + 8) 8, salt := 2, front := bs.take (o + ipLen bs o) }

/-- Whether the SPI of a received ESP packet is another than the SA's. -/
def spiDiffers (w : List Nat) (bs : List Byte) (l3 : Option Nat) : Bool :=
  match l3.bind (espAt w bs) with
  | none => false
  | some (e, _) => ofBe (cut bs e 4) != Sa.spi w

/-- A template that a tunnel SA cannot use: absent, or without the headers that ESP stands behind. -/
def tunnelLacks (w : List Nat) (t : Option Template) : Bool :=
  match t with
  | none => true
  | some t => !t.hasIp || (Sa.udp w && t.l4 == 0)

/-- A TLS record: header and inner plaintext, or header, ciphertext and tag. -/
def tlsLocated (w : List Nat) (bs : List Byte) (n : Nat) : Option Located :=
  if Sa.dir w = 0 then
    some { aad := bs.take 5, data := bs.drop 5, iv := List.replicate 4 0 ++ toBe 8 n, salt := 1, front := bs.take 5 }
  else if bs.length < 5 + 16 then none
  else
    let len := bs.length - 21
    some {
      aad := bs.take 5, data := cut bs 5 len, tag := bs.drop (5 + len), iv := List.replicate 4 0 ++ toBe 8 n, salt := 1 }

/-! ## Prechecks (R210) -/

/-- What has become of a TLS record that STO submitted: a discard reason, or the code OK with its bytes (a verified record as
content and content type). -/
structure RecordEnd where
  session : Nat
  kind : Nat
  sa : Nat
  reason : Option Nat
  bytes : List Byte
  inner : Nat := 0
  deriving DecidableEq, Repr

/-- A segment of a packet has gone through SXP or was discarded there; after the last the pass goes on to stage 12 (none: ACT
waits for head cells). -/
def Dev.segmentEnd (d : Dev) (h seg cipher : Nat) (bytes : List Byte) : Option Dev :=
  let d1 := d.modPacket h (fun p => { p with segments := p.segments.modify seg (fun s => { s with bytes := bytes, cipher := cipher }) })
  if (d1.packet h).segments.all (fun s => 3 ≤ s.cipher) then d1.finishPass h else some d1

/-- A discard of a request for reason `n` (0: dropped without an SXP reason), charged to SA `sa` when one was read (R210). -/
def Dev.sxpRefuse (d : Dev) (src : SxpSource) (sa : Nat) (charged : Bool) (n : Nat) : Option (Option RecordEnd × Dev) :=
  let d1 := if charged then d.saSet sa (Sa.add (d.saWords sa) 21 1) else d
  match src with
  | .packet h gen seg =>
    let d2 := if n = 0 then d1 else d1.sxpDiscard n
    if d2.handleGood h gen then (d2.segmentEnd h seg 4 []).map (fun d => (none, d)) else some (none, d2.staleHandle)
  | .record ses kind => some (some ⟨ses, kind, sa, some n, [], 0⟩, d1.sxpDiscard n)

/-- The stamp of a request (R218). -/
def Dev.requestStamp (d : Dev) (src : SxpSource) : Stamp :=
  match src with
  | .packet h _ _ => (d.packet h).stamp
  | .record ses _ =>
    if bitAt (d.sesWord ses 1) 12 then none else some (bits (d.sesWord ses 1) 0 12, bits (d.sesWord ses 1) 16 8)

def SxpSource.isRecord : SxpSource → Bool
  | .packet .. => false
  | .record .. => true

/-- The L3 offset and metadata of a request. -/
def Dev.requestL3 (d : Dev) (src : SxpSource) : Option Nat × List Byte :=
  match src with
  | .packet h _ _ => ((d.packet h).l3At, (d.packet h).md)
  | .record .. => (none, [])

/-- Headers located for number `n` (protect) or the received number (verify). -/
def locate (w : List Nat) (t : Option Template) (bs md : List Byte) (l3 : Option Nat) (n ident : Nat) : Option Located :=
  if Sa.proto w = 2 then tlsLocated w bs n
  else if Sa.proto w = 0 then (if Sa.dir w = 0 then macsecProtect w bs n else macsecVerify w bs)
  else
    match l3 with
    | none => none
    | some o =>
      if Sa.dir w = 1 then espVerify w bs o
      else if Sa.tunnel w then (match t with
        | some t => espTunnel w t md bs o n ident
        | none => none)
      else espTransport w bs o n

/-- The located headers of a verify once the number is known. -/
def Located.atSeq (l : Located) (w : List Nat) (n : Nat) : Located :=
  if Sa.dir w = 0 then l
  else if Sa.proto w = 0 then { l with iv := macsecIv w n }
  else if Sa.proto w = 1 then { l with aad := espAad w n }
  else l

/-- A descriptor image (R178). -/
def jobDesc (mode dir tagLen slot gen aadLen dataLen : Nat) (wideSector : Bool) (iv : List Byte) : List Byte :=
  toLe 4 (mode + dir * 16 + b2n wideSector * 64 + tagLen * 2 ^ 8) ++ toLe 4 slot ++ toLe 4 (gen + aadLen * 2 ^ 16)
    ++ toLe 4 dataLen ++ cut iv 0 16

/-- The lehr job of a located request under SA `s`. -/
def sxpLehrJob (tag s : Nat) (w : List Nat) (l : Located) (n : Nat) : LehrJob := {
  src := .sxp tag
  desc := jobDesc Mode.gcm (Sa.dir w) (Sa.icv w) (Sa.slot w) (Sa.gen w) l.aad.length l.data.length false l.iv
  verify := Sa.verify w, salt := l.salt, input := l.aad ++ l.data ++ l.tag, stamp := Sa.stamp w
  mgrId := (Sa.owner w, Sa.inc w), work := 1 + s * 4 + n % 2 ^ 32 * 2 ^ 32 }

/-- SOFT and HARD thresholds at a precheck with number `n` (R216). -/
def Dev.touchLimits (d : Dev) (s n : Nat) (refused : Bool) : Dev :=
  let w := d.saWords s
  let soft := Sa.soft w ≤ n ∧ !Sa.softHit w ∧ (Sa.dir w = 1 ∨ !refused)
  let d1 := if soft then (d.saSet s (Sa.setFlag w 2)).pushLimit false s else d
  if refused ∧ !Sa.hardHit w then (d1.saSet s (Sa.setFlag (d1.saWords s) 3)).pushLimit true s else d1

/-- AUTO_ROLL once SOFT has been reached in this access (R217). -/
def Dev.autoRoll (d : Dev) (s : Nat) (before : List Nat) : Dev :=
  let w := d.saWords s
  if Sa.autoRoll w ∧ Sa.dir w = 0 ∧ !Sa.softHit before ∧ Sa.softHit w ∧ d.mayRoll s then d.rollSa s else d

/-- The checks of a precheck that need no number: the discard reason. -/
def Dev.saReason (d : Dev) (r : SxpReq) (s : Nat) : Option Nat :=
  let w := d.saWords s
  let l3 := (d.requestL3 r.src).1
  let stamp := d.requestStamp r.src
  if !d.saValid s then some 1
  else if Sa.dir w ≠ r.dir ∨ (Sa.proto w = 2) ≠ (r.src.isRecord = true) ∨ Sa.proto w = 3 then some 2
  else if !Sa.mgr w ∧ stamp ≠ some (Sa.owner w, Sa.inc w) then some 3
  else if Sa.proto w = 2 ∧ Sa.state w = 2 then some 15
  else if Sa.proto w = 1 ∧ Sa.dir w = 1 ∧ spiDiffers w r.bytes l3 then some 2
  else none

/-- Mark where a request's segment stands. -/
def Dev.markSegment (d : Dev) (src : SxpSource) (cipher : Nat) : Dev :=
  match src with
  | .packet h _ seg => d.modPacket h (fun p => { p with segments := p.segments.modify seg (fun s => { s with cipher := cipher }) })
  | .record .. => d

/-- Submit the job of a checked request. -/
def Dev.sxpSubmit (d : Dev) (r : SxpReq) (s n : Nat) (l : Located) : Dev :=
  let w := d.saWords s
  let w1 := Sa.setInflight (if Sa.dir w = 0 then Sa.setSeq w (n + 1) else w) (Sa.inflight w + 1)
  let tag := d.sxp.nextJob
  let job : SxpJob := {
    src := r.src, sa := s, words := w, seq := n, bytes := r.bytes, front := l.front, lenIn := r.bytes.length
    l3 := ((d.requestL3 r.src).1).getD 0 }
  let d1 := (d.saSet s w1).setSxp { d.sxp with
    jobs := Sparse.set (blank none) d.sxp.jobs tag (some job), nextJob := tag + 1 }
  (d1.markSegment r.src 2).submitJob (sxpLehrJob tag s w l n)

/-- A well-addressed request: parse, number, limits, window, job. -/
def Dev.sxpCheck (d : Dev) (r : SxpReq) (s : Nat) : Option (Option RecordEnd × Dev) :=
  let w := d.saWords s
  let pos := d.requestL3 r.src
  let needs := Sa.proto w == 1 && Sa.dir w == 0 && Sa.tunnel w
  let t := if needs then d.template (Sa.tmpl w) else none
  if needs && tunnelLacks w t then
    ((d.templateAbsent (Sa.tmpl w)).countDrop Drop.tmplAbsent).sxpRefuse r.src s false 0
  else
    match locate w t r.bytes pos.2 pos.1 (Sa.seq w) d.encapId with
    | none => d.sxpRefuse r.src s true 5
    | some l0 =>
      let n := if Sa.dir w = 0 ∨ Sa.proto w = 2 then Sa.seq w else inferSeq w l0.low
      let refused := Sa.hard w < n || Sa.hardHit w
      let d1 := d.touchLimits s n refused
      if refused then d1.sxpRefuse r.src s true 9
      else
        match (if Sa.dir w = 1 then d1.windowReject w n else none) with
        | some reason => d1.sxpRefuse r.src s true reason
        | none =>
          let l := l0.atSeq w n
          if 65535 < l.aad.length ∨ 2 ^ 24 ≤ l.data.length then d1.sxpRefuse r.src s true 11
          else
            let d2 := match t with
              | some t => if t.takesId then d1.advanceId 1 else d1
              | none => d1
            some (none, (d2.sxpSubmit r s n l).autoRoll s w)

/-- The SA that serves a request, and whether it waits. -/
def Dev.reqServing (d : Dev) (r : SxpReq) : Nat × Bool := d.saServing 1048576 r.sa

/-- Whether lane `lane` may take a request now. -/
def Dev.laneTakes (d : Dev) (lane : Nat) (r : SxpReq) : Bool :=
  let s := d.reqServing r
  s.1 % 32 == lane && !s.2 && decide (Sa.inflight (d.saWords s.1) < 2 ^ 15 - 1)

/-- SXP_PRECHECK: the oldest request that lane `lane` may take. -/
def Dev.precheck (d : Dev) (lane : Nat) : Option RecordEnd × Dev :=
  match d.sxp.queue.find? (d.laneTakes lane) with
  | none => (none, d)
  | some r =>
    if !d.accepts Page.sxp then (none, d)
    else
      let d1 := d.setSxp { d.sxp with queue := d.sxp.queue.erase r }
      let s := (d.reqServing r).1
      let d2 := d1.noteSa s
      let live := match r.src with
        | .packet h gen _ => d.handleGood h gen
        | .record .. => true
      if !live then (none, d1.staleHandle)
      else
        (match d2.saReason r s with
          | some n => d2.sxpRefuse r.src s (!d2.saBad s) n
          | none => d2.sxpCheck r s).getD (none, d)

/-! ## Postchecks (R210) -/

def Dev.sxpJob (d : Dev) (tag : Nat) : Option SxpJob := Sparse.get (blank none) d.sxp.jobs tag

/-- The bytes of a verified ESP packet, and whether it is a dummy; none: a bad trailer. -/
def espStrip (w : List Nat) (j : SxpJob) (plain : List Byte) : Option (List Byte × Bool) :=
  let n := plain.length
  let pad := byteAt plain (n - 2)
  let nh := byteAt plain (n - 1)
  let body := plain.take (n - 2 - pad)
  let good := decide (2 ≤ n) && decide (pad ≤ n - 2)
    && (plain.drop (n - 2 - pad)).take pad == (List.range pad).map (fun i => BitVec.ofNat 8 (i + 1))
  if !good ∨ (Sa.tunnel w ∧ nh ≠ 4 ∧ nh ≠ 41 ∧ nh ≠ 59) then none
  else some (putIp (j.front ++ body) j.l3 nh (j.front.length + body.length), nh == 59)

/-- Drop the zero padding of a TLS inner plaintext: content and type; none when it is all zeros. -/
def tlsInner (plain : List Byte) : Option (List Byte × Nat) :=
  match (plain.reverse).dropWhile (· == 0) with
  | [] => none
  | t :: rest => some (rest.reverse, t.toNat)

/-- The bytes that result from a job's output: none for a bad trailer; whether it is a dummy; the inner TLS type. -/
def sxpResult (j : SxpJob) (aadLen : Nat) (out : List Byte) : Option (List Byte × Bool × Nat) :=
  let w := j.words
  if Sa.dir w = 0 then
    some (if Sa.proto w = 0 ∧ !Sa.conf w then out else j.front ++ out.drop aadLen, false, 0)
  else if Sa.proto w = 0 then
    let hdr := 12 + secTagLen j.bytes
    some (j.front ++ out.drop hdr, false, 0)
  else if Sa.proto w = 1 then (espStrip w j (out.drop aadLen)).map (fun r => (r.1, r.2, 0))
  else (tlsInner (out.drop aadLen)).map (fun r => (r.1, false, r.2))

/-- AAD bytes at the front of a job's output. -/
def SxpJob.aadLen (j : SxpJob) : Nat :=
  let w := j.words
  if Sa.proto w = 0 then
    (if Sa.dir w = 0 then (if Sa.conf w then j.front.length else 0) else 12 + secTagLen j.bytes)
  else if Sa.proto w = 1 then (if Sa.ext w then 12 else 8)
  else 5

/-- The discard reason of a lehr code. -/
def codeReason (code : Nat) : Option Nat :=
  if code = Code.ok then none else if code = Code.auth then some 8 else if code = Code.access then some 4 else some 12

/-- An accepted packet or record is counted (R206, R222). -/
def Dev.sxpCount (d : Dev) (j : SxpJob) : Dev :=
  let w := Sa.add (Sa.add (d.saWords j.sa) 17 1) 19 j.lenIn
  (d.saSet j.sa w).wcount Page.sxp (if Sa.dir j.words = 0 then 1 else 2)

/-- The tenant-clear mark after a packet passes an SA (R218), and the MACsec mark (R211). -/
def Packet.afterSa (p : Packet) (w : List Nat) : Packet :=
  let clear := if Sa.mgr w then p.clear
    else if Sa.dir w = 1 then some (Sa.owner w)
    else if p.clear = some (Sa.owner w) then none else p.clear
  { p with clear := clear, macsec := if Sa.proto w = 0 then Sa.dir w == 0 else p.macsec }

/-- A verified record whose inner type is not 23 puts its SA in HOLD (R217); TLS verifies advance SEQ. -/
def Dev.tlsVerified (d : Dev) (j : SxpJob) (inner : Nat) : Dev :=
  let w := Sa.setSeq (d.saWords j.sa) (j.seq + 1)
  if inner = 23 then d.saSet j.sa w else (d.saSet j.sa (if Sa.state w = 0 then Sa.setState w 2 else w)).pulse 319

/-- Deliver what a job produced. -/
def Dev.sxpDeliver (d : Dev) (j : SxpJob) (bytes : List Byte) (inner : Nat) : Option (Option RecordEnd × Dev) :=
  match j.src with
  | .packet h _ seg => ((d.modPacket h (·.afterSa j.words)).segmentEnd h seg 3 bytes).map (fun d => (none, d))
  | .record ses kind => some (some ⟨ses, kind, j.sa, none, bytes, inner⟩, d)

/-- The final checks, update and delivery of a job that the lehr returned; an SA that cannot be read again is as one that is not
VALID (R220). -/
def Dev.sxpFinal (d : Dev) (j : SxpJob) (code : Nat) (out : List Byte) : Option (Option RecordEnd × Dev) :=
  let w := d.saWords j.sa
  let verify := Sa.dir j.words == 1
  match (if d.saBad j.sa then some 1 else codeReason code) with
  | some n => d.sxpRefuse j.src j.sa (!d.saBad j.sa) n
  | none =>
    match (if verify then d.windowReject w j.seq else none) with
    | some n => d.sxpRefuse j.src j.sa true n
    | none =>
      let d1 := if Sa.mapped w then d.windowUpdate j.sa w j.seq else d
      match sxpResult j j.aadLen out with
      | none => d1.sxpRefuse j.src j.sa true 10
      | some (bytes, dummy, inner) =>
        if 16124 < bytes.length ∧ !j.src.isRecord then d1.sxpRefuse j.src j.sa true 11
        else
          let d2 := d1.sxpCount j
          if dummy then d2.sxpRefuse j.src j.sa true 14
          else if verify ∧ Sa.proto w = 2 then (d2.tlsVerified j inner).sxpDeliver j bytes inner
          else d2.sxpDeliver j bytes inner

/-- The oldest returned job of a lane. -/
def Dev.doneOf (d : Dev) (lane : Nat) : Option (Nat × Nat × List Byte) :=
  d.sxp.done.find? (fun e => match d.sxpJob e.1 with
    | some j => j.sa % 32 == lane
    | none => false)

/-- SXP_POSTCHECK: the oldest job the lehr has returned for lane `lane`. -/
def Dev.postcheck (d : Dev) (lane : Nat) : Option RecordEnd × Dev :=
  match d.doneOf lane with
  | none => (none, d)
  | some (tag, code, out) =>
    match d.sxpJob tag with
    | none => (none, d)
    | some j =>
      let x := d.sxp
      let d1 := d.setSxp { x with done := x.done.erase (tag, code, out), jobs := Sparse.set (blank none) x.jobs tag none }
      let w := d1.saWords j.sa
      let d2 := (if d1.saBad j.sa then d1 else d1.saSet j.sa (Sa.setInflight w (Sa.inflight w - 1))).noteSa j.sa
      let live := match j.src with
        | .packet h gen _ => d.handleGood h gen
        | .record .. => true
      if !live then (none, d2.staleHandle) else (d2.sxpFinal j code out).getD (none, d)

/-! ## The operation port (R208) -/

/-- Fields of an SA image that must be zero. -/
def saReserved (w : List Nat) : Bool :=
  bits (nth w 0) 29 3 != 0 || bits (nth w 1) 20 12 != 0 || bits (nth w 2) 16 16 != 0 || bits (nth w 3) 13 3 != 0
    || bits (nth w 3) 24 8 != 0 || bits (nth w 7) 18 14 != 0 || bits (nth w 8) 21 11 != 0 || bits (nth w 13) 18 14 != 0
    || bits (nth w 16) 4 4 != 0 || bits (nth w 16) 23 9 != 0 || ((w.drop 23).take 8).any (· != 0) || bits (nth w 31) 0 30 != 0

/-- A malformed SA image (R206, R208). -/
def saMalformed (w : List Nat) : Bool :=
  let p := Sa.proto w
  let useMap := Sa.strict w && decide (0 < Sa.window w)
  saReserved w || p == 3 || (p == 2 && (!Sa.ext w || !Sa.conf w)) || (p == 1 && !Sa.conf w) || decide (4096 < Sa.window w)
    || (p == 1 && Sa.replayEn w && !Sa.strict w) || (!Sa.ext w && decide (2 ^ 32 ≤ Sa.hard w))
    || decide (Sa.hard w < Sa.soft w) || (Sa.udp w && !Sa.tunnel w)
    || (Sa.dir w == 0 && p != 2 && Sa.seq w == 0) || (useMap && bits (nth w 13) 0 32 ≥ 262144)

/-- WRITE (R208, R220).  VALID, INFLIGHT, the requester's rights and the image are checked in this order (log entry 67); the slot of
the SA's replay bitmap is zeroed (R214). -/
def Dev.saWrite (d : Dev) (welbor : Bool) (s : Nat) (w : List Nat) : Nat × Dev :=
  let old := d.saWords s
  let code := firstFailure [(!d.saValid s, Code.access), (Sa.inflight old == 0, Code.resource),
    (welbor || Sa.mgr w, Code.access), (!saMalformed w, Code.malformed)]
  if code ≠ Code.ok then (code, d.noteSa s)
  else
    let zero := (List.range 7).foldl (fun (w : List Nat) i => w.set (16 + i) 0) w
    let d0 := d.noteSa s
    let d1 := if Sa.mapped w then d0.gwrite (d0.bitmapAddr w) (List.replicate 512 0) else d0
    let d2 := (d1.saSet s (Sa.sealed zero)).renewLines (d1.saAddr s) 128
    (Code.ok, d2.setSxp { d2.sxp with rolling := d2.sxp.rolling.filter (· != s) })

/-- DISABLE. -/
def Dev.saDisable (d : Dev) (s : Nat) : Dev :=
  let w := d.saWords s
  if d.saBad s then d.noteSa s else d.saSet s (Sa.sealed (w.set 31 (setBits (nth w 31) 31 1 0)))

/-- ROLL. -/
def Dev.saRoll (d : Dev) (welbor : Bool) (s : Nat) : Nat × Dev :=
  let code := firstFailure [(welbor || Sa.mgr (d.saWords s), Code.access), (d.mayRoll s, Code.malformed)]
  (code, if code = Code.ok then d.rollSa s else d.noteSa s)

/-- READ: the words of an SA; one that cannot be read shows VALID = 0 (R220). -/
def Dev.saRead (d : Dev) (s : Nat) : List Nat :=
  let w := d.saWords s
  if d.saBad s then w.set 31 (setBits (nth w 31) 31 1 0) else w

end Sys2Proof.Machine
end

