-- ==== Sys2Proof/Machine/Sto.lean ====
section
/-!
DEFINITION. Storage offload (chapter 9), its ground: sessions and volumes (R229, R238), command slots (R233), the end of storage
entries (R236), session failure (R242), and the sending side of TCP (R225, R238, R241).
-/

namespace Sys2Proof.Machine

/-! ## Sessions and volumes -/

def Dev.ses (d : Dev) (s : Nat) : StoSession := Sparse.get (blank {}) d.sto.sessions s
def Dev.setSes (d : Dev) (s : Nat) (v : StoSession) : Dev :=
  { d with sto := { d.sto with sessions := Sparse.set (blank {}) d.sto.sessions s v } }
def Dev.modSes (d : Dev) (s : Nat) (f : StoSession → StoSession) : Dev := d.setSes s (f (d.ses s))
def Dev.sesSet (d : Dev) (s i v : Nat) : Dev := d.gsetWord (d.sesAddr s + 4 * i) v

/-- Even parity over the first `n` words. -/
def evenParity (ws : List Nat) (n : Nat) : Bool := ((ws.take n).map ones).sum % 2 == 0

/-- Words with bit 30 of word 0 making parity over the first `n` even. -/
def wordsSealed (ws : List Nat) (n : Nat) : List Nat :=
  let z := ws.set 0 (setBits (nth ws 0) 30 1 0)
  z.set 0 (setBits (nth z 0) 30 1 (((z.take n).map ones).sum))

def Dev.sesWords (d : Dev) (s : Nat) : List Nat := (List.range 32).map (d.sesWord s)
def Dev.sesBad (d : Dev) (s : Nat) : Bool :=
  d.lineUncorrectable (d.sesAddr s) || d.lineUncorrectable (d.sesAddr s + 64) || !evenParity (d.sesWords s) 24
/-- An uncorrectable session line is latched (R246). -/
def Dev.noteSes (d : Dev) (s : Nat) : Dev := d.latchWhen (d.sesBad s) Page.sto FaultBit.sto_LINE_UE
def Dev.sesValid (d : Dev) (s : Nat) : Bool := !d.sesBad s && bitAt (d.sesWord s 0) 31
def Dev.sesTls (d : Dev) (s : Nat) : Bool := bits (d.sesWord s 0) 0 2 == 1
def Dev.sesMgr (d : Dev) (s : Nat) : Bool := bitAt (d.sesWord s 1) 12
def Dev.sesStamp (d : Dev) (s : Nat) : Stamp :=
  if d.sesMgr s then none else some (bits (d.sesWord s 1) 0 12, bits (d.sesWord s 1) 16 8)
def Dev.sesState (d : Dev) (s : Nat) : Nat := bits (d.sesWord s 24) 0 3
def Dev.qdepth (d : Dev) (s : Nat) : Nat :=
  let q := bits (d.sesWord s 9) 16 10
  if q = 0 then 1024 else q
def Dev.maxIo (d : Dev) (s : Nat) : Nat := bits (d.sesWord s 10) 0 12 * 4096
def Dev.hsq (d : Dev) (s : Nat) : Nat := bits (d.sesWord s 13) 0 16
/-- The host port of a session's owner: a slice's by its charter, the manager's by the queue HSQ. -/
def Dev.sesPort (d : Dev) (s : Nat) : Nat :=
  if d.sesMgr s then d.qPort (d.hsq s) else (d.slice (bits (d.sesWord s 1) 0 12)).hostPort

/-- The attributes of requests for a session's owner (R281). -/
def Dev.sesAttr (d : Dev) (s : Nat) : ReqAttr := if d.sesMgr s then {} else d.sliceAttr (bits (d.sesWord s 1) 0 12)

namespace Ses
/-- Session states (R239). -/
def closed : Nat := 0
def connecting : Nat := 1
def handshake : Nat := 2
def icreq : Nat := 3
def connect : Nat := 4
def ready : Nat := 5
def draining : Nat := 6
def failed : Nat := 7
end Ses

/-- A session changes state: STO_READY follows. -/
def Dev.setSesState (d : Dev) (s st : Nat) : Dev :=
  let old := d.sesState s
  let n := d.fget Page.sto Reg.STO_READY_CNT
  let d1 := d.sesSet s 24 (setBits (d.sesWord s 24) 0 3 st)
  if old = Ses.ready ∧ st ≠ Ses.ready then d1.fset Page.sto Reg.STO_READY_CNT (n - 1)
  else if old ≠ Ses.ready ∧ st = Ses.ready then d1.fset Page.sto Reg.STO_READY_CNT (n + 1)
  else d1

def Dev.volAddr (d : Dev) (v : Nat) : Nat := bits (d.wget Page.sto 0x11) 0 15 * 2 ^ 20 + v * 64
def Dev.volWords (d : Dev) (v : Nat) : List Nat := (d.gwords (d.volAddr v) 16).map (·.toNat)
def Dev.volWord (d : Dev) (v i : Nat) : Nat := nth (d.volWords v) i
def Dev.volBad (d : Dev) (v : Nat) : Bool := d.lineUncorrectable (d.volAddr v) || !evenParity (d.volWords v) 12
/-- An uncorrectable volume line is latched (R246). -/
def Dev.noteVol (d : Dev) (v : Nat) : Dev := d.latchWhen (d.volBad v) Page.sto FaultBit.sto_LINE_UE
def Dev.volValid (d : Dev) (v : Nat) : Bool := !d.volBad v && bitAt (d.volWord v 0) 31
def Dev.volSector (d : Dev) (v : Nat) : Nat := if bitAt (d.volWord v 0) 2 then 4096 else 512
def Dev.volXts (d : Dev) (v : Nat) : Bool := bitAt (d.volWord v 0) 3
def Dev.volSession (d : Dev) (v : Nat) : Nat := bits (d.volWord v 2) 0 16
def Dev.volMgr (d : Dev) (v : Nat) : Bool := bitAt (d.volWord v 1) 12
def Dev.volStamp (d : Dev) (v : Nat) : Stamp :=
  if d.volMgr v then none else some (bits (d.volWord v 1) 0 12, bits (d.volWord v 1) 16 8)
/-- A 64-bit value of a volume. -/
def Dev.volLong (d : Dev) (v i : Nat) : Nat := d.volWord v i + d.volWord v (i + 1) * 2 ^ 32

/-! ## Command slots (R233) -/

def Dev.outstanding (d : Dev) (s : Nat) : Nat := bits (d.sesWord s 29) 0 11
def Dev.setOutstanding (d : Dev) (s n : Nat) : Dev := d.sesSet s 29 n

/-- Give wire command `n` the slot of its session that has been free longest. -/
def Dev.takeSlot (d : Dev) (n : Nat) (w : WireCmd) : Option Dev :=
  let v := d.ses w.session
  match v.freeSlots with
  | [] => none
  | k :: rest =>
    let g := (Sparse.get (blank 0) v.gens k + 1) % 64
    let d1 := d.setSes w.session { v with freeSlots := rest, gens := Sparse.set (blank 0) v.gens k g }
    some ((d1.setWire n (some { w with slot := k, gen := g, live := true })).setOutstanding w.session (d.outstanding w.session + 1))

/-- The slot of a wire command is free. -/
def Dev.releaseSlot (d : Dev) (n : Nat) : Dev :=
  match d.wire n with
  | none => d
  | some w =>
    if !w.live then d
    else
      ((d.modSes w.session (fun v => { v with freeSlots := v.freeSlots ++ [w.slot] })).setWire n
        (some { w with live := false })).setOutstanding w.session (d.outstanding w.session - 1)

/-- The wire command that a received CID names: its slot is allocated and GEN matches. -/
def Dev.wireOf (d : Dev) (s cid : Nat) : Option Nat :=
  (d.sto.wires.map (·.1)).find? (fun n => match d.wire n with
    | some w => w.live && w.session == s && w.slot == cid % 1024 && w.gen == cid / 1024
    | none => false)

/-- A message is discarded under R233. -/
def Dev.lateMessage (d : Dev) : Dev := (d.count Page.sto Reg.STO_LATE_CNT_CNT).pulse 324

/-! ## The end of storage entries (R227, R236) -/

/-- The wire commands of an entry, in issue order. -/
def Dev.wiresOf (d : Dev) (q idx : Nat) : List Nat :=
  (d.sto.wires.map (·.1)).filter (fun n => match d.wire n with
    | some w => w.op != 0 && w.queue == q && w.index == idx && !w.orphan
    | none => false)

def Dev.phaseOf (d : Dev) (n : Nat) : Option WirePhase := (d.wire n).map (·.phase)
def Dev.wireEnded (d : Dev) (n : Nat) : Bool := d.phaseOf n == some .settled || d.phaseOf n == some .failed

/-- DONE: the length of the longest run of leading wire commands that all settled OK. -/
def Dev.doneLen (d : Dev) : List Nat → Nat
  | [] => 0
  | n :: rest =>
    match d.wire n with
    | none => 0
    | some w => if w.phase = .settled then w.len + d.doneLen rest else 0

/-- Progress of an entry as its wire commands stand; FLUSH counts nothing. -/
def Dev.showProgress (d : Dev) (q idx : Nat) : Dev :=
  d.modEntry q idx (fun e => { e with progress := if e.opcode = 0x32 then 0 else d.doneLen (d.wiresOf q idx) })

/-- End an entry: its words, and its wire commands are gone. -/
def Dev.endStorage (d : Dev) (q idx code detail : Nat) : Dev :=
  match d.entry q idx with
  | none => d.discardResult
  | some e => ((d.wiresOf q idx).foldl (fun (d : Dev) n => d.dropWire n) d).endEntry q idx (e.stoWords code detail)

/-- The failure that an entry keeps when another is detected (R8): the first one; of two detected at the same time the one with
the lower Rank. -/
def QueueEntry.failing (e : QueueEntry) (now code detail : Nat) : QueueEntry :=
  match e.failure with
  | none => { e with failure := some (code, detail), failedAt := now }
  | some f => if e.failedAt = now ∧ codeRank code < codeRank f.1 then { e with failure := some (code, detail) } else e

/-- Record a failure of an entry as it is detected. -/
def Dev.noteFailure (d : Dev) (q idx code detail : Nat) : Dev := d.modEntry q idx (fun e => e.failing d.now code detail)

/-- Record the status of a failed CapsuleResp; the first one stays (R227). -/
def Dev.noteNvme (d : Dev) (q idx st : Nat) : Dev :=
  if st / 2 = 0 then d else d.modEntry q idx (fun e => if e.nvme = 0 then { e with nvme := st } else e)

/-- End an entry with its first failure, or the given one. -/
def Dev.failStorage (d : Dev) (q idx code detail : Nat) : Dev :=
  let d1 := (d.showProgress q idx).noteFailure q idx code detail
  match (d1.entry q idx).bind (·.failure) with
  | some (c, t) => d1.endStorage q idx c t
  | none => d1

/-- An entry ends when every wire command it issued has settled or failed. -/
def Dev.checkEntry (d : Dev) (q idx : Nat) : Dev :=
  let d1 := d.showProgress q idx
  if (d1.wiresOf q idx).all d1.wireEnded then
    match (d1.entry q idx).bind (·.failure) with
    | some (c, t) => d1.endStorage q idx c t
    | none => d1.endStorage q idx Code.ok 0
  else d1

/-! ## TCP segments (R225, R238) -/

def tcpFin : Nat := 0x01
def tcpSyn : Nat := 0x02
def tcpRst : Nat := 0x04
def tcpPsh : Nat := 0x08
def tcpAck : Nat := 0x10

def Dev.sndUna (d : Dev) (s : Nat) : Nat := d.sesWord s 26
def Dev.sndNxt (d : Dev) (s : Nat) : Nat := d.sesWord s 27
def Dev.rcvNxt (d : Dev) (s : Nat) : Nat := d.sesWord s 28
/-- Sequence numbers sent and not acknowledged. -/
def Dev.inFlight (d : Dev) (s : Nat) : Nat := (d.sndNxt s + 2 ^ 32 - d.sndUna s) % 2 ^ 32

/-- A TCP port of a session: STO writes ports, and the spec does not state their values (log entry 24). -/
def sesTcpPort (s side : Nat) : Nat := Config.unstated 20 [s, side] % 65536
/-- The timestamp clock, whose unit the spec does not state (log entry 24). -/
def Dev.tsClock (d : Dev) : Nat := Config.unstated 21 [d.now] % 2 ^ 32

/-- The Timestamps option, or nothing. -/
def Dev.tcpOptions (d : Dev) (s flags : Nat) : List Byte :=
  let v := d.ses s
  let ts := [0x08, 0x0A] ++ toBe 4 d.tsClock ++ toBe 4 v.recent
  if bitAt flags 1 then [0x02, 0x04] ++ toBe 2 (bits (d.sesWord s 9) 0 16) ++ [0x01, 0x03, 0x03, 0x03] ++ [0x01, 0x01] ++ ts
  else if v.stamps then [0x01, 0x01] ++ ts else []

/-- The advertised window: 262,144 bytes under scale 3; unscaled on a SYN (R241). -/
def tcpWindow (flags : Nat) : Nat := if bitAt flags 1 then 65535 else 262144 / 8

/-- A segment behind the session's template headers, with the fields STO writes. -/
def Dev.segmentOf (d : Dev) (s : Nat) (t : Template) (seq flags : Nat) (payload : List Byte) : List Byte :=
  let opts := d.tcpOptions s flags
  let tcp := toBe 2 (sesTcpPort s 0) ++ toBe 2 (sesTcpPort s 1) ++ toBe 4 seq
    ++ toBe 4 (if bitAt flags 4 then d.rcvNxt s else 0) ++ toBe 2 ((20 + opts.length) / 4 * 4096 + flags)
    ++ toBe 2 (tcpWindow flags) ++ [0, 0, 0, 0] ++ opts
  let whole := t.finish [] (t.bytes.take t.l4 ++ tcp ++ payload) none d.encapId
  let len := whole.length - t.l4
  overwrite whole (t.l4 + 16) (toBe 2 (checksum16 (pseudoSum whole t.l3 6 len + sum16 (whole.drop t.l4))))

/-- The metadata of a storage segment: no gaffer has run, and only the L3 offset that ACTG_LAYOUT names is set (log entry
24). -/
def Dev.segmentMeta (d : Dev) (l3 : Nat) : List Byte :=
  overwrite (List.replicate 128 0) (d.fget Page.actg Reg.ACTG_LAYOUT_L3_MOFF) (toBe 2 l3)

/-- A rule that holds the session's action words (R238). -/
def Dev.sesRule (d : Dev) (s : Nat) : List Word :=
  let acts := (List.range 4).map (fun i => BitVec.ofNat 32 (d.sesWord s (3 + i)))
  acts ++ List.replicate 10 0#32 ++ [BitVec.ofNat 32 (4 * 2 ^ 12), 0#32]

/-- Hand a segment to ACT at step 7 (R22); none when its template is absent or its cells are not free. -/
def Dev.sendSegment (d : Dev) (s seq flags : Nat) (payload : List Byte) : Option Dev :=
  match d.template (bits (d.sesWord s 2) 0 18) with
  | none => none
  | some t =>
    if t.l4 = 0 ∨ t.tun ≠ 0 then none
    else
      let bytes := d.segmentOf s t seq flags payload
      let reserve := d.fget Page.cru Reg.CRU_RESERVE_CELLS
      match d.placeCells (cellsOf bytes.length) (d.freeDie - reserve) with
      | .drop _ => none
      | .take die deep =>
        let stamp := d.sesStamp s
        let r := d.newPacket die deep (fun gen cells => {
          gen := gen, bytes := bytes, srcKind := 2, srcId := s, stamp := stamp, cells := cells, stage := .acting
          md := d.segmentMeta t.l3, rule := d.sesRule s, lenIn := bytes.length
          dispatched := d.now, accepted := d.now, actedAt := d.now })
        let q := (r.2.countSpill deep).nextSeq (2 * 65536 + s)
        some (((q.2.modPacket r.1 (fun p => { p with seq := q.1 })).holdSlice stamp).advanceId (b2n t.takesId))

/-- Send a segment that occupies no sequence number, when it can be sent. -/
def Dev.sendBare (d : Dev) (s seq flags : Nat) : Dev := (d.sendSegment s seq flags []).getD d
def Dev.sendAck (d : Dev) (s : Nat) : Dev := d.sendBare s (d.sndNxt s) tcpAck

/-- The payload that fits a segment. -/
def Dev.effMss (d : Dev) (s : Nat) : Nat :=
  let v := d.ses s
  max 1 (min v.mss (bits (d.sesWord s 9) 0 16) - (if v.stamps then 12 else 0))

/-- One segment of new data of at most `len` bytes. -/
def Dev.sendData (d : Dev) (s len : Nat) : Option Dev :=
  let v := d.ses s
  let fly := d.inFlight s
  let nxt := d.sndNxt s
  let payload := (v.sendBuf.drop fly).take len
  let flags := tcpAck + (if fly + payload.length = v.sendBuf.length then tcpPsh else 0)
  match d.sendSegment s nxt flags payload with
  | none => none
  | some d1 =>
    let fin := (nxt + payload.length) % 2 ^ 32
    some ((d1.sesSet s 27 fin).modSes s (fun v => { v with timed := some (v.timed.getD (fin, d.now)) }))

/-- Send what the windows allow, then the FIN. -/
def Dev.pump (d : Dev) (s : Nat) : Nat → Dev
  | 0 => d
  | fuel + 1 =>
    let v := d.ses s
    let fly := d.inFlight s
    let room := min v.cwnd v.window - fly
    if !v.open_ ∨ v.term ∨ d.sesState s < Ses.handshake then d
    else if fly < v.sendBuf.length then
      if room = 0 then d
      else
        match d.sendData s (min room (d.effMss s)) with
        | none => d
        | some d1 => d1.pump s fuel
    else if v.fin ∧ fly = v.sendBuf.length then
      match d.sendSegment s (d.sndNxt s) (tcpFin + tcpAck) [] with
      | none => d
      | some d1 => d1.sesSet s 27 ((d.sndNxt s + 1) % 2 ^ 32)
    else d

/-- Send everything that can be sent now. -/
def Dev.pumpAll (d : Dev) (s : Nat) : Dev := d.pump s ((d.ses s).sendBuf.length + 2)

/-- Append bytes to the TCP stream. -/
def Dev.tcpSend (d : Dev) (s : Nat) (bs : List Byte) : Dev :=
  if (d.ses s).open_ then (d.modSes s (fun v => { v with sendBuf := v.sendBuf ++ bs })).pumpAll s else d

/-- Cut content into TLS records of at most 2^14 bytes under TLS_TX (R211, R240). -/
def tlsRecords (kind : Nat) : Nat → List Byte → List (List Byte)
  | 0, _ => []
  | fuel + 1, bs =>
    if bs = [] then []
    else
      let inner := bs.take 16384 ++ [BitVec.ofNat 8 kind]
      ([0x17, 0x03, 0x03] ++ toBe 2 (inner.length + 16) ++ inner) :: tlsRecords kind fuel (bs.drop 16384)

/-- Submit records with content type `typ` to SXP under the source kind `kind`. -/
def Dev.tlsSubmit (d : Dev) (s kind typ : Nat) (bs : List Byte) : Dev :=
  let reqs := (tlsRecords typ (bs.length + 1) bs).map (fun r => {
    src := .record s kind, sa := bits (d.sesWord s 7) 0 20, dir := 0, bytes := r : SxpReq })
  d.setSxp { d.sxp with queue := d.sxp.queue ++ reqs }

def Dev.tlsSend (d : Dev) (s kind : Nat) (bs : List Byte) : Dev := d.tlsSubmit s kind kind bs

/-- The source kind of the record that carries the H2CTermReq of a failed session (R242). -/
def termKind : Nat := 24

/-- Send bytes of the PDU stream: as TLS records when PROT = 1, as TCP data otherwise. -/
def Dev.stoSend (d : Dev) (s : Nat) (bs : List Byte) : Dev := if d.sesTls s then d.tlsSend s 23 bs else d.tcpSend s bs

/-! ## Failure and reset of a session (R239, R242) -/

/-- What SXP still holds of a session's records leads nowhere; with `keep`, all but the one with its H2CTermReq. -/
def Dev.forgetRecords (d : Dev) (s : Nat) (keep : Bool) : Dev :=
  let gone : SxpSource → SxpSource
    | .record k kind => if k = s ∧ ¬ (keep ∧ kind = termKind) then .record 65536 kind else .record k kind
    | .packet h g i => .packet h g i
  d.setSxp { d.sxp with
    queue := d.sxp.queue.filter (fun r => match r.src with
      | .record k kind => k != s || (keep && kind == termKind)
      | .packet .. => true)
    jobs := d.sxp.jobs.map (fun e => (e.1, e.2.map (fun j => { j with src := gone j.src }))) }

/-- The entries of a session: queue and index of every wire command, each once. -/
def Dev.sesEntries (d : Dev) (s : Nat) : List (Nat × Nat) :=
  ((d.sto.wires.filterMap (fun e => match e.2 with
    | some w => if w.session = s ∧ w.op ≠ 0 ∧ !w.orphan then some (w.queue, w.index) else none
    | none => none))).dedup

/-- Whether an entry has wire commands outstanding. -/
def Dev.entryOut (d : Dev) (q idx : Nat) : Bool := (d.wiresOf q idx).any (fun n => d.phaseOf n == some .sent)

/-- The code and DETAIL of an entry whose session fails (R242): those of the failure when it has wire commands outstanding. -/
def Dev.entryFate (d : Dev) (code detail : Nat) (q idx : Nat) : Nat × Nat :=
  if d.entryOut q idx then (code, detail) else (Code.remote, 0x02)

/-- An RST, when a connection exists (R239, R242). -/
def Dev.sendRst (d : Dev) (s : Nat) : Dev :=
  if (d.ses s).open_ then d.sendBare s (d.sndNxt s) (tcpRst + tcpAck) else d

/-- The connection and every wire command of a session end, its entries as `fate` says; an RST is sent when a connection exists,
unless the session's H2CTermReq has still to go out first (`keep`). -/
def Dev.dropSession (d : Dev) (s : Nat) (keep : Bool) (fate : Dev → Nat → Nat → Nat × Nat) : Dev :=
  let d1 := if keep then d else d.sendRst s
  let d2 := (d1.sesEntries s).foldl (fun (d : Dev) e =>
    let f := fate d e.1 e.2
    d.failStorage e.1 e.2 f.1 f.2) d1
  let rest := (d2.sto.wires.filterMap (fun e => match e.2 with
    | some w => if w.session = s then some e.1 else none
    | none => none))
  let d3 := rest.foldl (fun (d : Dev) n => d.dropWire n) d2
  let v := d3.ses s
  let used := (List.range (d3.qdepth s)).filter (fun k => !v.freeSlots.contains k)
  let left : StoSession := { freeSlots := v.freeSlots ++ used, gens := v.gens }
  let kept : StoSession := { left with
    open_ := v.open_, stamps := v.stamps, recent := v.recent, mss := v.mss, scale := v.scale, window := v.window, term := true }
  ((d3.setSes s (if keep then kept else left)).setOutstanding s 0).forgetRecords s keep

/-- A session fails; with `keep`, its RST waits for its H2CTermReq. -/
def Dev.failSessionAs (d : Dev) (s : Nat) (keep : Bool) (code detail : Nat) : Dev :=
  if d.sesState s = Ses.closed ∨ d.sesState s = Ses.failed then d
  else
    let d1 := (d.dropSession s keep (fun d => d.entryFate code detail)).setSesState s Ses.failed
    let d2 := d1.sesSet s 24 (setBits (setBits (d1.sesWord s 24) 8 8 code) 16 8 detail)
    (d2.count Page.sto Reg.STO_SES_FAIL_CNT).pulse 323

/-- A session fails (R242). -/
def Dev.failSession (d : Dev) (s code detail : Nat) : Dev := d.failSessionAs s false code detail

/-- The H2CTermReq of a failed TLS session goes out as its last bytes, then the RST; SXP may have discarded its record. -/
def Dev.lastWords (d : Dev) (s : Nat) (bs : Option (List Byte)) : Dev :=
  let v := d.ses s
  if !v.term then d
  else
    let d1 := match bs with
      | some b => match d.sendSegment s (d.sndNxt s) (tcpAck + tcpPsh) b with
        | some d1 => d1.sesSet s 27 ((d.sndNxt s + b.length) % 2 ^ 32)
        | none => d
      | none => d
    (d1.sendRst s).setSes s { freeSlots := v.freeSlots, gens := v.gens }

/-- The target broke the protocol. -/
def Dev.protocolError (d : Dev) (s : Nat) : Dev := d.failSession s Code.remote 0x03

end Sys2Proof.Machine
end

