-- ==== Sys2Proof/Machine/StoPdu.lean ====
section
/-!
DEFINITION. NVMe/TCP PDUs and wire commands (R225, R231-R237): entries cut into wire commands, their issue, received PDUs, and
the XTS jobs of volumes.  PDU, command and Connect layouts are those of the NVM Express standards (log entry 25).
-/

namespace Sys2Proof.Machine

/-! ## PDUs -/

/-- Common header and the PDU-specific bytes. -/
def pduBytes (typ flags hlen pdo plen : Nat) (rest : List Byte) : List Byte :=
  toBe 1 typ ++ toBe 1 flags ++ toBe 1 hlen ++ toBe 1 pdo ++ toLe 4 plen ++ rest

/-- A PDU with header digest and data digest as the session uses them. -/
def buildPdu (digests typ flags hlen : Nat) (rest data : List Byte) : List Byte :=
  let hd := bitAt digests 0
  let dd := bitAt digests 1 && !data.isEmpty
  let pdo := if data = [] then 0 else hlen + (if hd then 4 else 0)
  let plen := hlen + (if hd then 4 else 0) + data.length + (if dd then 4 else 0)
  let header := pduBytes typ (flags + b2n hd + (if dd then 2 else 0)) hlen pdo plen rest
  header ++ (if hd then toLe 4 (crc32c header).toNat else []) ++ data ++ (if dd then toLe 4 (crc32c data).toNat else [])

/-- ICReq: PFV 0, HPDA 0, digests as requested, 16 outstanding R2Ts. -/
def Dev.icReq (d : Dev) (s : Nat) : List Byte :=
  pduBytes 0x00 0 128 0 128 (toLe 2 0 ++ [0] ++ toBe 1 (bits (d.sesWord s 0) 2 2) ++ toLe 4 15 ++ List.replicate 112 0)

/-- H2CTermReq for a failed header digest, with the header at fault. -/
def termReq (fes : Nat) (header : List Byte) : List Byte :=
  pduBytes 0x02 0 24 0 (24 + header.length) (toLe 2 fes ++ List.replicate 14 0 ++ header)

/-- A received PDU's fields. -/
def pduPlen (p : List Byte) : Nat := ofLe (cut p 4 4)
def pduCid (p : List Byte) : Nat := ofLe (cut p 8 2)

/-- Bytes of header behind which a digest stands: none for the PDUs that carry no digests. -/
def digestAt (digests : Nat) (p : List Byte) : Option Nat :=
  let t := byteAt p 0
  if bitAt digests 0 ∧ t ≠ 0x01 ∧ t ≠ 0x03 then some (byteAt p 2) else none

/-- Whether a PDU's header has the form of its type. -/
def pduFormGood (p : List Byte) : Bool :=
  let hlen := byteAt p 2
  (match byteAt p 0 with
    | 0x01 => hlen == 128 && pduPlen p == 128
    | 0x03 => hlen == 24
    | 0x05 => hlen == 24
    | 0x07 => hlen == 24
    | 0x09 => hlen == 24
    | _ => false) && decide (hlen ≤ pduPlen p)

/-- The next complete PDU of a session; one whose header is malformed needs its header only. -/
def Dev.nextPdu (d : Dev) (s : Nat) : Option (List Byte) :=
  let bs := (d.ses s).stream
  if bs.length < 8 then none
  else if !pduFormGood bs then some (bs.take 8)
  else if bs.length < pduPlen bs then none
  else some (bs.take (pduPlen bs))

/-- Whether the header digest of a PDU is right. -/
def headerGood (digests : Nat) (p : List Byte) : Bool :=
  match digestAt digests p with
  | none => true
  | some n => cut p n 4 == toLe 4 (crc32c (p.take n)).toNat

/-- A header digest failed: the H2CTermReq goes out, on a TLS session as a record, and then the RST (R242). -/
def Dev.headerFailed (d : Dev) (s : Nat) (p : List Byte) : Dev :=
  let d1 := (d.count Page.sto Reg.STO_HDGST_ERR_CNT).pulse 325
  let req := termReq 0x03 (p.take (byteAt p 2))
  if d1.sesTls s then (d1.tlsSubmit s termKind 23 req).failSessionAs s true Code.digest 0x07
  else (d1.tcpSend s req).failSession s Code.digest 0x07

/-- Receive the next PDU of session `s` when it has type `typ`, or, with `any`, when it is malformed or no PDU that a host
receives. -/
def Dev.receivePdu (d : Dev) (s typ : Nat) (any : Bool) (f : Dev → List Byte → Dev) : Dev :=
  match d.nextPdu s with
  | none => d
  | some p =>
    let good := pduFormGood p
    if !(good && byteAt p 0 == typ) && !(any && !good) then d
    else
      let d1 := d.modSes s (fun v => { v with stream := v.stream.drop p.length })
      if !good then d1.protocolError s
      else if !headerGood (d.ses s).digests p then d1.headerFailed s p
      else f d1 p

/-- The data of a PDU, and whether its data digest is right. -/
def pduData (digests : Nat) (p : List Byte) : List Byte × Bool :=
  let pdo := byteAt p 3
  let n := ofLe (cut p 16 4)
  let data := cut p pdo n
  (data, !bitAt digests 1 || cut p (pdo + n) 4 == toLe 4 (crc32c data).toNat)

/-- Whether the data of a C2HData PDU lies inside it. -/
def pduDataFits (digests : Nat) (p : List Byte) : Bool :=
  let n := ofLe (cut p 16 4)
  decide (24 ≤ byteAt p 3) && decide (byteAt p 3 + n + (if bitAt digests 1 then 4 else 0) ≤ p.length) && decide (0 < n)

/-! ## Commands -/

/-- A 64-byte command: opcode, CID, namespace, SGL, CDW10-15. -/
def sqe (op cid nsid : Nat) (sgl cdw : List Byte) : List Byte :=
  toBe 1 op ++ [0x40] ++ toLe 2 cid ++ toLe 4 nsid ++ List.replicate 16 0 ++ cut sgl 0 16 ++ cut cdw 0 24

/-- A transport data block descriptor, and an in-capsule one. -/
def sglData (len : Nat) : List Byte := toLe 8 0 ++ toLe 4 len ++ [0, 0, 0, 0x5A]
def sglCapsule (len : Nat) : List Byte := toLe 8 0 ++ toLe 4 len ++ [0, 0, 0, 0x01]

def WireCmd.cid (w : WireCmd) : Nat := w.gen * 1024 + w.slot

/-- The submission entry of a wire command, and its in-capsule data. -/
def Dev.wireSqe (d : Dev) (w : WireCmd) (fua : Bool) : List Byte × List Byte :=
  let nsid := d.volWord w.volume 3
  let slba := (d.volLong w.volume 4 + w.first) % 2 ^ 64
  let sectors := w.len / d.volSector w.volume
  if w.op = 0 then
    (toBe 1 0x7F ++ [0x40] ++ toLe 2 w.cid ++ [0x01] ++ List.replicate 19 0 ++ sglData 1024
      ++ toLe 2 0 ++ toLe 2 (bits (d.sesWord w.session 10) 16 16) ++ toLe 2 (d.qdepth w.session - 1) ++ List.replicate 18 0, [])
  else if w.op = 0x32 then (sqe 0x00 w.cid nsid [] [], [])
  else if w.op = 0x33 then
    (sqe 0x09 w.cid nsid (sglCapsule 16) (toLe 4 0 ++ toLe 4 4), toLe 4 0 ++ toLe 4 w.len ++ toLe 8 slba)
  else
    (sqe (if w.op = 0x30 then 0x02 else 0x01) w.cid nsid (sglData w.len)
      (toLe 8 slba ++ toLe 4 (sectors - 1 + b2n fua * 2 ^ 30)), [])

/-! ## Storage entries (R226, R231) -/

def QueueEntry.lba (e : QueueEntry) : Nat := ofLe (cut e.head 8 8)
def QueueEntry.total (e : QueueEntry) : Nat := (e.frags.map (·.2)).sum
def QueueEntry.trimCount (e : QueueEntry) : Nat := ofLe (cut e.head 16 4)
def QueueEntry.fua (e : QueueEntry) : Bool := bitAt (byteAt e.head 2) 0

/-- Check 1 of R231. -/
def Dev.stoFormGood (d : Dev) (e : QueueEntry) : Bool :=
  let sector := d.volSector e.volume
  let data := e.opcode == 0x30 || e.opcode == 0x31
  decide (byteAt e.head 2 ≤ (if e.opcode = 0x31 then 1 else 0)) && byteAt e.head 3 == 0
    && (data || bits (byteAt e.head 1) 0 4 == 0)
    && decide (ofLe (cut e.head 4 4) < 2 ^ 18)
    && (!data || (decide (0 < e.total) && decide (e.total ≤ 2 ^ 24) && e.total % sector == 0))
    && (e.opcode != 0x32 || (e.lba == 0 && (e.head.drop 16).all (· == 0)))
    && (e.opcode != 0x33 || (e.trimCount != 0 && (e.head.drop 20).all (· == 0)))

/-- Sectors an entry names. -/
def Dev.entrySectors (d : Dev) (e : QueueEntry) : Nat :=
  if e.opcode = 0x33 then e.trimCount else if e.opcode = 0x32 then 0 else e.total / d.volSector e.volume

/-- Check 2 of R231. -/
def Dev.stoAllowed (d : Dev) (q : Nat) (e : QueueEntry) : Bool :=
  let v := e.volume
  let s := d.volSession v
  let writes := e.opcode == 0x31 || e.opcode == 0x33
  d.volValid v
    && (if d.qManager q then d.volMgr v
        else !d.volMgr v && d.volStamp v == some (d.qSlice q, (d.queue q).incarnation))
    && decide (e.lba + d.entrySectors e ≤ d.volLong v 6)
    && !(writes && bitAt (d.volWord v 0) 0) && !(e.opcode == 0x33 && !bitAt (d.volWord v 0) 1)
    && (d.sesMgr s || !d.volMgr v && bits (d.sesWord s 1) 0 12 == bits (d.volWord v 1) 0 12)

/-- The wire commands of an accepted entry (R232, R236, R237): entry offset, length, first volume sector. -/
def Dev.cutEntry (d : Dev) (e : QueueEntry) : List (Nat × Nat × Nat) :=
  let io := max 4096 (d.maxIo (d.volSession e.volume))
  if e.opcode = 0x32 then [(0, 0, 0)]
  else if e.opcode = 0x33 then [(0, e.trimCount, e.lba)]
  else (List.range ((e.total + io - 1) / io)).map (fun j =>
    (j * io, min io (e.total - j * io), e.lba + j * io / d.volSector e.volume))

/-- Add a wire command; it is stamped with the entry's owner (R309). -/
def Dev.addWire (d : Dev) (w : WireCmd) : Dev :=
  { (d.setWire d.sto.nextWire (some w)) with
    sto := { (d.setWire d.sto.nextWire (some w)).sto with nextWire := d.sto.nextWire + 1 } }.holdSlice w.stamp

/-- An entry passes the checks of R231: its wire commands are made. -/
def Dev.acceptEntry (d : Dev) (q : Nat) (e : QueueEntry) : Dev :=
  let d1 := d.modEntry q e.index (fun e => { e with accepted := true, started := true })
  (d.cutEntry e).foldl (fun (d : Dev) c => d.addWire {
    session := d.volSession e.volume, queue := q, index := e.index, op := e.opcode, volume := e.volume, first := c.2.2
    off := c.1, len := c.2.1, stamp := d.qStamp q }) d1

/-- The oldest entry of a storage queue that has not been checked. -/
def Dev.nextStorage (d : Dev) (q : Nat) : Option QueueEntry :=
  (d.queue q).entries.find? (fun e => !e.accepted && e.ended.isNone)

/-- STO checks the next entry of queue `q` when its opcode is `op` (R231). -/
def Dev.takeStorage (d : Dev) (q op : Nat) : Dev :=
  match d.nextStorage q with
  | none => d
  | some e =>
    let st := d.sesState (d.volSession e.volume)
    let closed := st == Ses.closed || st == Ses.draining || st == Ses.failed || !d.sesValid (d.volSession e.volume)
    if e.opcode ≠ op ∨ d.qType q ≠ typeSto ∨ !d.accepts Page.sto ∨ ¬ ((d.queue q).state = .run ∨ (d.queue q).state = .error) then d
    else
      let d1 := (d.noteVol e.volume).latchWhen (d.volValid e.volume && d.sesBad (d.volSession e.volume)) Page.sto FaultBit.sto_LINE_UE
      if !d.stoFormGood e then d1.endStorage q e.index Code.malformed 0
      else if !d.stoAllowed q e then d1.endStorage q e.index Code.access 0
      else if closed then d1.endStorage q e.index Code.remote 0x02
      else d1.acceptEntry q e

/-! ## The tenant's buffers -/

/-- The pieces of `len` bytes from offset `off` of a fragment list: address and length. -/
def fragSpans : List (Nat × Nat) → Nat → Nat → List (Nat × Nat)
  | [], _, _ => []
  | (a, n) :: rest, off, len =>
    if len = 0 then []
    else if n ≤ off then fragSpans rest (off - n) len
    else
      let k := min len (n - off)
      (a + off, k) :: fragSpans rest 0 (len - k)

/-- Bytes read from pieces of host memory. -/
def Dev.gatherSpans (d : Dev) (port : Nat) (attr : ReqAttr) (spans : List (Nat × Nat)) : List Byte × Dev :=
  (spans.flatMap (fun s => d.hread port s.1 s.2), spans.foldl (fun (d : Dev) s => (d.hostFetch port s.1 s.2 attr).2) d)

/-- Bytes read from a queue's buffers. -/
def Dev.gatherBytes (d : Dev) (q : Nat) (spans : List (Nat × Nat)) : List Byte × Dev :=
  d.gatherSpans (d.qPort q) (d.qAttr q true) spans

/-- Write bytes over pieces of a queue's buffers (R291). -/
def Dev.scatterBytes (d : Dev) (q : Nat) : List (Nat × Nat) → List Byte → Dev
  | [], _ => d
  | (a, n) :: rest, bs =>
    if bs = [] then d
    else (d.hwrite (d.qPort q) a (bs.take n) (d.qAttr q true)).scatterBytes q rest (bs.drop n)

/-! ## Issue of wire commands (R232-R234, R237) -/

/-- A wire command of the same entry that precedes `n` has not been sent. -/
def Dev.earlierUnsent (d : Dev) (n : Nat) (w : WireCmd) : Bool :=
  (d.wiresOf w.queue w.index).any (fun k => decide (k < n) &&
    (d.phaseOf k == some .start || d.phaseOf k == some .encrypting || d.phaseOf k == some .ready))

/-- A FLUSH waits for the earlier entries of its queue on its session. -/
def Dev.flushWaits (d : Dev) (n : Nat) (w : WireCmd) : Bool :=
  w.op == 0x32 && d.sto.wires.any (fun e => match e.2 with
    | some o => decide (e.1 < n) && o.queue == w.queue && o.session == w.session && o.op != 0x32 && o.op != 0 && !o.orphan
    | none => false)

/-- A wire command fails before it is sent. -/
def Dev.failWire (d : Dev) (n : Nat) (w : WireCmd) (code detail : Nat) : Dev :=
  if w.op = 0 then d.failSession w.session code detail
  else
    let d1 := (d.freeHeld w).setWire n (some { w with phase := .failed, fail := some (code, detail), held := [], cells := [], deepCells := [] })
    (d1.noteFailure w.queue w.index code detail).checkEntry w.queue w.index

/-- The code of a failed XTS job (R228): FAULT when the lehr faulted, ACCESS otherwise. -/
def xtsCode (code : Nat) : Nat := if code = Code.fault then Code.fault else Code.access

/-- Send the CapsuleCmd of a prepared wire command: a slot of its session, in issue order. -/
def Dev.sendWire (d : Dev) (n : Nat) (w : WireCmd) : Dev :=
  if d.earlierUnsent n w ∨ d.flushWaits n w then d
  else
    match d.takeSlot n w with
    | none => d
    | some d1 =>
      match d1.wire n with
      | none => d
      | some w1 =>
        let fua := ((d.entry w.queue w.index).map (·.fua)).getD false
        let c := d1.wireSqe w1 (fua && w.op == 0x31)
        let d2 := (d1.setWire n (some { w1 with phase := .sent })).count Page.sto Reg.STO_CMD_CNT_CNT
        let d3 := if w.op = 0 ∨ w.op = 0x32 then d2
          else d2.modEntry w.queue w.index (fun e => { e with touched := max e.touched (w.off + w.len) })
        d3.stoSend w.session (buildPdu (d.ses w.session).digests 0x04 0 72 c.1 c.2)

/-- The XTS job over `data` of a wire command, from byte `off` of it (R234, R235). -/
def Dev.xtsJob (d : Dev) (n : Nat) (w : WireCmd) (dir off : Nat) (data : List Byte) : LehrJob :=
  let sector := d.volSector w.volume
  let dun := (w.first + off / sector + d.volLong w.volume 10) % 2 ^ 64
  { src := .sto n off
    desc := jobDesc Mode.xts dir 0 (bits (d.volWord w.volume 8) 0 20) (bits (d.volWord w.volume 9) 0 16) 0 data.length
      (sector == 4096) (toLe 16 dun)
    input := data, stamp := d.volStamp w.volume, work := 2 + w.session * 4 + n % 2 ^ 32 * 2 ^ 32 }

/-- Data fetched for a WRITE or Connect: held as it is, or encrypted first. -/
def Dev.holdData (d : Dev) (n : Nat) (w : WireCmd) (data : List Byte) : Dev :=
  if w.op = 0x31 ∧ d.volXts w.volume then
    (d.setWire n (some { w with phase := .encrypting })).submitJob (d.xtsJob n w 0 0 data)
  else (d.setWire n (some { w with phase := .ready, held := data })).sendWire n { w with phase := .ready, held := data }

/-- The pieces of host memory that a wire command's data comes from. -/
def Dev.wireSpans (d : Dev) (w : WireCmd) : List (Nat × Nat) :=
  if w.op = 0 then [(d.sesWord w.session 14 + d.sesWord w.session 15 * 2 ^ 32, 1024)]
  else fragSpans (((d.entry w.queue w.index).map (·.frags)).getD []) w.off w.len

/-- Read a wire command's data. -/
def Dev.readWire (d : Dev) (w : WireCmd) : List Byte × Dev :=
  if w.op = 0 then d.gatherSpans (d.sesPort w.session) (d.sesAttr w.session) (d.wireSpans w)
  else d.gatherBytes w.queue (d.wireSpans w)

/-- Host port and function that fetch a wire command's data. -/
def Dev.wirePort (d : Dev) (w : WireCmd) : Nat := if w.op = 0 then d.sesPort w.session else d.qPort w.queue
def Dev.wirePf (d : Dev) (w : WireCmd) : Nat := if w.op = 0 then (d.sesAttr w.session).pf else d.qPf w.queue

/-- Crucible cells for `len` bytes of storage data, on-die and deep; none while they are not free (R234, R235). -/
def Dev.storeCells (d : Dev) (len : Nat) : Option ((List (Nat × Nat) × List (Nat × Nat)) × Dev) :=
  match d.placeCells (cellsOf len) (d.freeDie - d.fget Page.cru Reg.CRU_RESERVE_CELLS) with
  | .drop _ => none
  | .take die deep =>
    let r := d.allocCells die
    let k := r.2.allocDeep deep
    some ((r.1, k.1), k.2.countSpill deep)

/-- Take the cells that hold a wire command's data; none while they are not free (R234). -/
def Dev.takeHeld (d : Dev) (n : Nat) (w : WireCmd) : Option (WireCmd × Dev) :=
  if rangeCount w.cells + rangeCount w.deepCells ≠ 0 then some (w, d)
  else
    match d.storeCells (if w.op = 0 then 1024 else w.len) with
    | none => none
    | some (c, d1) =>
      let w1 := { w with cells := c.1, deepCells := c.2 }
      some (w1, d1.setWire n (some w1))

/-- Fetch a wire command's data, as the host answers. -/
def Dev.fetchWire (d : Dev) (n : Nat) (w : WireCmd) (a : HostAnswer) : Dev :=
  if !d.fnReady (d.wirePort w) (d.wirePf w) then d
  else d.onAnswer (d.wirePort w) (d.wirePf w) (.wire n) a
    (fun d => match d.takeHeld n w with
      | none => d
      | some (w1, d1) => let r := d1.readWire w1; r.2.holdData n w1 r.1)
    (fun code d => d.failWire n w code 0)

/-- Whether a wire command's session can issue it. -/
def Dev.mayIssue (d : Dev) (w : WireCmd) : Bool :=
  let st := d.sesState w.session
  if w.op = 0 then st == Ses.connect else st == Ses.ready || st == Ses.draining

/-- WIRE_COMMAND_ISSUE: data fetched and encrypted where there is any, then a slot and the CapsuleCmd. -/
def Dev.issueWire (d : Dev) (n : Nat) (a : HostAnswer) : Dev :=
  match d.wire n with
  | none => d
  | some w =>
    if !d.mayIssue w ∨ w.orphan ∨ !d.accepts Page.sto then d
    else
      match w.phase with
      | .start => if w.op = 0x31 ∨ w.op = 0 then d.fetchWire n w a else d.sendWire n w
      | .ready => d.sendWire n w
      | _ => d

/-! ## The end of wire commands (R233, R236) -/

/-- Data of a READ is placed: the buffers from the command's offset. -/
def Dev.placeRead (d : Dev) (n : Nat) (off : Nat) (data : List Byte) : Dev :=
  match d.wire n with
  | none => d
  | some w =>
    let frags := ((d.entry w.queue w.index).map (·.frags)).getD []
    let d1 := d.scatterBytes w.queue (fragSpans frags (w.off + off) data.length) data
    let at_ := w.placed + data.length
    ((d1.freeRx (w.rx.filter (fun r => decide (r.1 ≤ at_)))).setWire n
      (some { w with placed := at_, rx := w.rx.filter (fun r => decide (at_ < r.1)) })).wcount Page.sto 1 data.length

/-- The wire command has answered, and its data is where it belongs: it settles, or it fails. -/
def Dev.settleWire (d : Dev) (n : Nat) : Dev :=
  match d.wire n with
  | none => d
  | some w =>
    match w.status with
    | none => d
    | some st =>
      let waiting := w.op == 0x30 && st / 2 == 0 && w.fail.isNone && decide (w.placed < w.len)
      if waiting ∨ w.phase ≠ .sent then d
      else
        let d0 := d.freeRx w.rx
        let failed := d0.setWire n (some { w with phase := .failed, rx := [] })
        match w.fail with
        | some (c, t) => (failed.noteFailure w.queue w.index c t).checkEntry w.queue w.index
        | none =>
          if st / 2 ≠ 0 then (failed.noteFailure w.queue w.index Code.remote 0x01).checkEntry w.queue w.index
          else
            ((d0.setWire n (some { w with phase := .settled, rx := [] })).wcount Page.sto 2
              (if w.op = 0x31 then w.len else 0)).checkEntry w.queue w.index

/-- A wire command is answered with NVMe status `st`: slot and held cells are freed. -/
def Dev.answerWire (d : Dev) (n st : Nat) : Dev :=
  match d.wire n with
  | none => d
  | some w =>
    if w.orphan then ((d.releaseSlot n).dropWire n).lateMessage
    else
      let d1 := (d.freeHeld w).setWire n (some { w with status := some st, held := [], cells := [], deepCells := [] })
      ((d1.noteNvme w.queue w.index st).releaseSlot n).settleWire n

/-- A READ takes no more data (R235): its failure is recorded as it is detected (R8). -/
def Dev.stopRead (d : Dev) (n : Nat) (w : WireCmd) (code detail : Nat) : Dev :=
  (d.setWire n (some { w with fail := some (w.fail.getD (code, detail)) })).noteFailure w.queue w.index code detail

/-- An XTS job of a wire command ends. -/
def Dev.stoJobEnd (d : Dev) (n off code : Nat) (out : List Byte) : Dev :=
  match d.wire n with
  | none => d
  | some w =>
    if w.op = 0x31 then
      if w.phase ≠ .encrypting then d
      else if code ≠ Code.ok then d.failWire n w (xtsCode code) 0x0B
      else (d.setWire n (some { w with phase := .ready, held := out })).sendWire n { w with phase := .ready, held := out }
    else if w.orphan ∨ w.fail.isSome then d
    else if code ≠ Code.ok then (d.stopRead n w (xtsCode code) 0x0B).settleWire n
    else (d.placeRead n off out).settleWire n

/-! ## Received PDUs -/

/-- Decrypt or place what a READ has received in whole sectors (R235). -/
def Dev.drainRead (d : Dev) (n : Nat) : Dev :=
  match d.wire n with
  | none => d
  | some w =>
    if d.volXts w.volume then
      let take := w.pending.length / d.volSector w.volume * d.volSector w.volume
      if take = 0 then d
      else
        (d.setWire n (some { w with pending := w.pending.drop take, submitted := w.submitted + take })).submitJob
          (d.xtsJob n w 1 w.submitted (w.pending.take take))
    else
      (d.setWire n (some { w with pending := [], submitted := w.submitted + w.pending.length })).placeRead n w.submitted w.pending

/-- A data digest failed: the PDU is discarded, and the wire command takes no more data. -/
def Dev.dataFailed (d : Dev) (n : Nat) (w : WireCmd) : Dev :=
  ((d.stopRead n w Code.digest 0x08).count Page.sto Reg.STO_DDGST_ERR_CNT).pulse 325

/-- C2HData for a READ that takes it. -/
def Dev.takeData (d : Dev) (n : Nat) (w : WireCmd) (s : Nat) (p : List Byte) : Dev :=
  let datao := ofLe (cut p 12 4)
  let datal := ofLe (cut p 16 4)
  let dg := (d.ses s).digests
  let last := bitAt (byteAt p 1) 3 && bitAt (byteAt p 1) 2
  if w.op ≠ 0x30 ∨ !pduDataFits dg p then d.protocolError s
  else if w.fail.isSome then (if last then d.answerWire n 0 else d)
  else if datao ≠ w.received ∨ w.len < datao + datal then d.protocolError s
  else
    let data := pduData dg p
    let d1 := match d.storeCells datal with
      | none => d
      | some (c, d0) =>
        if !data.2 then (d0.freeRx [(0, c.1, c.2)]).dataFailed n w
        else
          (d0.setWire n (some { w with
            received := w.received + datal, pending := w.pending ++ data.1, rx := w.rx ++ [(w.received + datal, c.1, c.2)] })).drainRead n
    if last then (if data.2 ∧ w.received + datal < w.len then d1.protocolError s else d1.answerWire n 0) else d1

/-- The next PDU is C2HData for which the crucible has no cells now. -/
def Dev.dataWaits (d : Dev) (s : Nat) : Bool :=
  match d.nextPdu s with
  | none => false
  | some p => pduFormGood p && byteAt p 0 == 0x07 && (d.storeCells (ofLe (cut p 16 4))).isNone

/-- C2HDATA_RECEIVE: the data waits while the crucible has no cells for it. -/
def Dev.receiveData (d : Dev) (s : Nat) : Dev :=
  if d.dataWaits s then d else d.receivePdu s 0x07 true (fun d p =>
    match d.wireOf s (pduCid p) with
    | none => d.lateMessage
    | some n =>
      match d.wire n with
      | none => d
      | some w => if w.orphan then d.lateMessage else d.takeData n w s p)

/-- The response to Connect (R239). -/
def Dev.connectAnswered (d : Dev) (n s st cntlid : Nat) : Dev :=
  if st / 2 ≠ 0 then d.failSession s Code.remote 0x01
  else
    let d1 := (d.releaseSlot n).dropWire n
    ((d1.sesSet s 25 (setBits (d1.sesWord s 25) 0 16 cntlid)).setSesState s Ses.ready).pulse 322

/-- CAPSULE_RESP_RECEIVE: a zero status without all data moved breaks the protocol. -/
def Dev.receiveResponse (d : Dev) (s : Nat) : Dev :=
  d.receivePdu s 0x05 false (fun d p =>
    let st := ofLe (cut p 22 2)
    match d.wireOf s (ofLe (cut p 20 2)) with
    | none => d.lateMessage
    | some n =>
      match d.wire n with
      | none => d
      | some w =>
        let short := st / 2 == 0 && w.fail.isNone && !w.orphan
          && ((w.op == 0x30 && decide (w.received < w.len)) || (w.op == 0x31 && decide (w.sentTo < w.len)))
        if w.op = 0 then d.connectAnswered n s st (ofLe (cut p 8 2))
        else if short then d.protocolError s
        else d.answerWire n st)

/-- H2CData PDUs of at most `most` bytes for bytes [off, off + len) of the held data. -/
def h2cData (digests cid ttag most : Nat) (held : List Byte) : Nat → Nat → Nat → List Byte
  | 0, _, _ => []
  | fuel + 1, off, len =>
    if len = 0 then []
    else
      let k := min most len
      buildPdu digests 0x06 (if k = len then 4 else 0) 24
        (toLe 2 cid ++ toLe 2 ttag ++ toLe 4 off ++ toLe 4 k ++ List.replicate 4 0) (cut held off k)
        ++ h2cData digests cid ttag most held fuel (off + k) (len - k)

/-- READY_TO_TRANSFER_RECEIVE: orphans are served as well. -/
def Dev.receiveR2t (d : Dev) (s : Nat) : Dev :=
  d.receivePdu s 0x09 false (fun d p =>
    let off := ofLe (cut p 12 4)
    let len := ofLe (cut p 16 4)
    match d.wireOf s (pduCid p) with
    | none => d.lateMessage
    | some n =>
      match d.wire n with
      | none => d
      | some w =>
        if (w.op ≠ 0x31 ∧ w.op ≠ 0) ∨ len = 0 ∨ w.held.length < off + len then d.protocolError s
        else
          let most := max 4096 (bits (d.sesWord s 25) 16 16 * 4096)
          let pdus := h2cData (d.ses s).digests w.cid (ofLe (cut p 10 2)) most w.held (len / most + 1) off len
          (d.setWire n (some { w with sentTo := max w.sentTo (off + len) })).stoSend s pdus)

/-- The CID that a C2HTermReq names: its data is the header of the PDU at fault, which names one when it is a CapsuleCmd or
H2CData (log entry 25). -/
def termCid (p : List Byte) : Option Nat :=
  let h := p.drop 24
  if byteAt h 0 = 0x04 ∧ 12 ≤ h.length then some (ofLe (cut h 10 2))
  else if byteAt h 0 = 0x06 ∧ 10 ≤ h.length then some (ofLe (cut h 8 2))
  else none

/-- C2HTERMREQ_RECEIVE: one that names a free slot or another GEN is late (R233). -/
def Dev.receiveTerm (d : Dev) (s : Nat) : Dev :=
  d.receivePdu s 0x03 false (fun d p =>
    match (termCid p).map (d.wireOf s) with
    | some none => d.lateMessage
    | _ => d.protocolError s)

/-- Complete PDUs of a stream that name a command slot. -/
def namingPdus : Nat → List Byte → Nat
  | 0, _ => 0
  | fuel + 1, bs =>
    if bs.length < 8 ∨ !pduFormGood bs ∨ bs.length < pduPlen bs then 0
    else b2n ([0x05, 0x07, 0x09].contains (byteAt bs 0)) + namingPdus fuel (bs.drop (pduPlen bs))

/-- ICRESP_RECEIVE: a valid ICResp moves the session to CONNECT, whose command is made. -/
def Dev.receiveIcResp (d : Dev) (s : Nat) : Dev :=
  d.receivePdu s 0x01 false (fun d p =>
    let asked := bits (d.sesWord s 0) 2 2
    let got := byteAt p 11
    let most := ofLe (cut p 12 4)
    if d.sesState s ≠ Ses.icreq ∨ ofLe (cut p 8 2) ≠ 0 ∨ byteAt p 10 ≠ 0 ∨ 3 < got ∨ got &&& asked ≠ got ∨ most < 4096 then
      d.protocolError s
    else
      let d1 := (d.sesSet s 25 (min (most / 4096) 65535 * 2 ^ 16)).modSes s (fun v => { v with digests := got })
      (d1.setSesState s Ses.connect).addWire { session := s, queue := 65536, index := 0, op := 0, len := 1024, stamp := d.sesStamp s })

/-- CMD_TIMEOUT of a wire command that was sent: an orphan's slot is freed, otherwise the session fails. -/
def Dev.timeoutWire (d : Dev) (n : Nat) : Dev :=
  match d.wire n with
  | none => d
  | some w =>
    if !w.live then d
    else if w.orphan then (d.releaseSlot n).dropWire n
    else d.failSession w.session Code.timeout 0x06

/-- An accepted entry has waited CMD_TIMEOUT for its session to open (R231). -/
def Dev.openTimeout (d : Dev) (q idx : Nat) : Dev :=
  match d.entry q idx with
  | none => d
  | some e =>
    let st := d.sesState (d.volSession e.volume)
    if e.accepted ∧ d.qType q = typeSto ∧ 1 ≤ st ∧ st ≤ 4 then d.endStorage q idx Code.timeout 0x06 else d

end Sys2Proof.Machine
end

