-- ==== Sys2Proof/Machine/StoRun.lean ====
section
/-!
DEFINITION. Storage at work: received TCP segments (R225, R241), TLS records and the handshake channel (R240), the STO and SXP
operation ports (R208, R245), and the meanings of their commands.
-/

namespace Sys2Proof.Machine

/-! ## Received records (R240) -/

/-- Whether the verify SA of a session is in HOLD. -/
def Dev.rxHeld (d : Dev) (s : Nat) : Bool := Sa.state (d.saWords (bits (d.sesWord s 8) 0 20)) == 2

/-- Submit the next complete TLS record of a session, one at a time. -/
def Dev.nextRecord (d : Dev) (s : Nat) : Dev :=
  let v := d.ses s
  let len := 5 + be16 v.raw 3
  if v.verifying ∨ v.raw.length < 5 ∨ v.raw.length < len ∨ (v.waits ∧ d.rxHeld s) then d
  else
    let r : SxpReq := { src := .record s 0, sa := bits (d.sesWord s 8) 0 20, dir := 1, bytes := v.raw.take len }
    let d1 := d.setSes s { v with raw := v.raw.drop len, verifying := true, waits := false }
    d1.setSxp { d1.sxp with queue := d1.sxp.queue ++ [r] }

/-- Sessions whose receive side waits for a roll look again. -/
def Dev.resumeRecords (d : Dev) : Dev :=
  (d.sto.sessions.map (·.1)).foldl (fun (d : Dev) s => if (d.ses s).waits then d.nextRecord s else d) d

/-- Queue received bytes for the owner on HSQ. -/
def Dev.queueHandshake (d : Dev) (s : Nat) (bs : List Byte) : Dev :=
  (d.modSes s (fun v => { v with hand := v.hand ++ [bs] })).pulse 326

/-- The failure that an SXP discard of a session's record means (R219, R228, R242).  DESIGN CHOICE (log entry 113): ACCESS and
FAULT, for which R228 lists no DETAIL but that of an XTS job, carry 0; records of a wrong form are protocol errors. -/
def recordFailure (reason : Nat) : Nat × Nat :=
  if reason = 8 then (Code.auth, 0x0A) else if reason = 6 ∨ reason = 7 then (Code.replay, 0x0A)
  else if reason = 9 then (Code.seqExhausted, 0x0A) else if reason = 12 then (Code.fault, 0)
  else if reason = 5 ∨ reason = 10 ∨ reason = 11 then (Code.remote, 0x03) else if reason = 15 then (Code.remote, 0x09)
  else (Code.access, 0)

/-- A verified record is delivered. -/
def Dev.takeRecord (d : Dev) (s inner : Nat) (bs : List Byte) : Dev :=
  let d1 := d.modSes s (fun v => { v with verifying := false })
  if inner = 23 then (d1.modSes s (fun v => { v with stream := v.stream ++ bs })).nextRecord s
  else if inner = 22 then (d1.modSes s (fun v => { v with waits := true })).queueHandshake s bs
  else d1.failSession s Code.remote 0x09

/-- SXP returns a record of a session. -/
def Dev.recordEnd (d : Dev) (r : RecordEnd) : Dev :=
  let st := d.sesState r.session
  if r.kind = termKind then d.lastWords r.session (if r.reason.isSome then none else some r.bytes)
  else if st < Ses.icreq ∨ st = Ses.failed then d
  else
    match r.reason with
    | some n => d.failSession r.session (recordFailure n).1 (recordFailure n).2
    | none => if r.kind = 0 then d.takeRecord r.session r.inner r.bytes else d.tcpSend r.session r.bytes

/-- Give a record's end, if there is one, to STO. -/
def Dev.recordEnded (r : Option RecordEnd × Dev) : Dev :=
  match r.1 with
  | some e => r.2.recordEnd e
  | none => r.2

/-! ## Handshake transmit (R240) -/

/-- The open session whose handshake channel is queue `q`. -/
def Dev.handshakeSession (d : Dev) (q : Nat) : Option Nat :=
  (d.sto.sessions.map (·.1)).find? (fun s => d.sesTls s && d.hsq s == q && decide (Ses.handshake ≤ d.sesState s)
    && decide (d.sesState s ≤ Ses.ready) && d.sesStamp s == d.qStamp q)

/-- Send the payload of a transmit entry on HSQ: TCP data in HANDSHAKE, type 22 records later. -/
def Dev.handshakeSend (d : Dev) (s : Nat) (bs : List Byte) : Dev :=
  if d.sesState s = Ses.handshake then d.tcpSend s bs else d.tlsSend s 22 bs

/-! ## TCP receive (R225, R241) -/

/-- The fields of a received segment: sequence number, acknowledgment, flags, window, options, payload. -/
structure Segmented where
  seq : Nat
  ack : Nat
  flags : Nat
  window : Nat
  options : List Byte
  payload : List Byte
  deriving DecidableEq, Repr

/-- The TCP segment of a frame whose IP header is at `o`; none when it is none, or its checksum is wrong. -/
def parseSegment (bs : List Byte) (o : Nat) : Option Segmented :=
  match ipEnd bs o with
  | none => none
  | some fin =>
    let l4 := o + ipLen bs o
    let hlen := byteAt bs (l4 + 12) / 16 * 4
    let len := fin - l4
    if ipProto bs o ≠ 6 ∨ len < 20 ∨ hlen < 20 ∨ len < hlen ∨ fold16 (pseudoSum bs o 6 len + sum16 (cut bs l4 len)) ≠ 65535 then
      none
    else
      some {
        seq := ofBe (cut bs (l4 + 4) 4), ack := ofBe (cut bs (l4 + 8) 4), flags := byteAt bs (l4 + 13) % 64
        window := be16 bs (l4 + 14), options := cut bs (l4 + 20) (hlen - 20), payload := cut bs (l4 + hlen) (len - hlen) }

/-- The content of TCP option `kind`. -/
def tcpOption (kind : Nat) : Nat → List Byte → Option (List Byte)
  | 0, _ => none
  | fuel + 1, bs =>
    let k := byteAt bs 0
    let n := byteAt bs 1
    if bs = [] ∨ k = 0 then none
    else if k = 1 then tcpOption kind fuel (bs.drop 1)
    else if n < 2 ∨ bs.length < n then none
    else if k = kind then some (cut bs 2 (n - 2))
    else tcpOption kind fuel (bs.drop n)

def Segmented.option (g : Segmented) (kind : Nat) : Option (List Byte) := tcpOption kind 40 g.options
def Segmented.syn (g : Segmented) : Bool := bitAt g.flags 1
def Segmented.rst (g : Segmented) : Bool := bitAt g.flags 2
def Segmented.acks (g : Segmented) : Bool := bitAt g.flags 4

/-- The segment at the head of STO's FIFO: its copy, its session, its fields. -/
def Dev.headSegment (d : Dev) : Option (Nat × Nat × Option Segmented) :=
  match d.host.sto with
  | [] => none
  | n :: _ =>
    match d.copy n with
    | none => some (n, 0, none)
    | some c => some (n, c.target, parseSegment c.frame (((d.packet c.packet).l3At).getD 14))

/-- The head of STO's FIFO leaves. -/
def Dev.popSto (d : Dev) (n : Nat) : Dev :=
  let cells := d.copiesCells [n]
  (({ d with host := { d.host with sto := d.host.sto.drop 1 } }).addHostDepth (-(cells : Int))).endCopy n none

/-- Clamp a retransmission timeout in µs (R241). -/
def Dev.clampRto (d : Dev) (s n : Nat) : Nat :=
  min (max n (bits (d.sesWord s 11) 0 16)) (bits (d.sesWord s 11) 16 16 * 1000)

/-- A round trip of `r` µs has been measured (RFC 6298). -/
def Dev.measureRtt (d : Dev) (s r : Nat) : Dev :=
  let v := d.ses s
  let e := match v.rtt with
    | none => (8 * r, 2 * r)
    | some (srtt, var) =>
      let delta := if srtt / 8 ≤ r then r - srtt / 8 else srtt / 8 - r
      (srtt - srtt / 8 + r, var - var / 4 + delta)
  d.setSes s { v with rtt := some e, timed := none, rto := d.clampRto s (e.1 / 8 + max 1 e.2) }

/-- Retransmit from SND_UNA. -/
def Dev.retransmit (d : Dev) (s : Nat) : Dev :=
  let v := d.ses s
  let st := d.sesState s
  let una := d.sndUna s
  let r := if st = Ses.connecting then d.sendSegment s una tcpSyn []
    else if v.sendBuf = [] then (if v.fin then d.sendSegment s una (tcpFin + tcpAck) [] else none)
    else d.sendSegment s una (tcpAck + tcpPsh) (v.sendBuf.take (min (d.inFlight s) (d.effMss s)))
  match r with
  | none => d
  | some d1 => ((d1.modSes s (fun v => { v with timed := none })).sesSet s 30 ((d.sesWord s 30 + 1) % 2 ^ 32)).count Page.sto
      Reg.STO_RETX_CNT_CNT

/-- Bytes in flight halved, at least two segments (RFC 5681). -/
def Dev.halfFlight (d : Dev) (s : Nat) : Nat := max (d.inFlight s / 2) (2 * d.effMss s)

/-- New data is acknowledged: the stream advances, and the congestion window grows or recovery goes on (RFC 5681, RFC 6582). -/
def Dev.ackNew (d : Dev) (s acked ack : Nat) : Dev :=
  let v := d.ses s
  let mss := d.effMss s
  let d0 := match v.timed with
    | some (q, t) => if (ack + 2 ^ 32 - q) % 2 ^ 32 < 2 ^ 31 then d.measureRtt s ((d.now - t) / 1000) else d
    | none => d
  let v0 := d0.ses s
  let finAcked := v.finAcked || (v.fin && decide (v.sendBuf.length < acked))
  let v1 := { v0 with sendBuf := v0.sendBuf.drop acked, expiries := 0, finAcked := finAcked }
  let d1 := d0.sesSet s 26 ack
  let whole := match v.recover with
    | some r => decide ((ack + 2 ^ 32 - r) % 2 ^ 32 < 2 ^ 31)
    | none => true
  if v.fast then
    if whole then d1.setSes s { v1 with fast := false, dupAcks := 0, cwnd := min v.ssthresh (max (d1.inFlight s) mss + mss) }
    else (d1.setSes s { v1 with cwnd := v.cwnd - acked + (if mss ≤ acked then mss else 0) }).retransmit s
  else
    let grow := if v.cwnd < v.ssthresh then min acked mss else max 1 (mss * mss / max 1 v.cwnd)
    let d2 := d1.setSes s { v1 with dupAcks := 0, cwnd := v.cwnd + grow }
    if whole then d2 else d2.retransmit s

/-- Whether what is acknowledged passes the last recovery point (RFC 6582). -/
def Dev.pastRecover (d : Dev) (s : Nat) : Bool :=
  match (d.ses s).recover with
  | none => true
  | some r => decide (0 < (d.sndUna s + 2 ^ 32 - r) % 2 ^ 32) && decide ((d.sndUna s + 2 ^ 32 - r) % 2 ^ 32 < 2 ^ 31)

/-- A duplicate ACK: the third starts fast retransmit (RFC 5681), once what is acknowledged has passed the last recovery point
(RFC 6582). -/
def Dev.ackDup (d : Dev) (s : Nat) : Dev :=
  let v := d.ses s
  let mss := d.effMss s
  if v.fast then d.setSes s { v with cwnd := v.cwnd + mss }
  else if v.dupAcks + 1 = 3 ∧ d.pastRecover s then
    (d.setSes s { v with
      dupAcks := 3, ssthresh := d.halfFlight s, cwnd := d.halfFlight s + 3 * mss, fast := true
      recover := some (d.sndNxt s) }).retransmit s
  else d.setSes s { v with dupAcks := v.dupAcks + 1 }

/-- The acknowledgment and window of a segment. -/
def Dev.takeAck (d : Dev) (s : Nat) (g : Segmented) : Dev :=
  let v := d.ses s
  let acked := (g.ack + 2 ^ 32 - d.sndUna s) % 2 ^ 32
  let window := g.window * 2 ^ v.scale
  if !g.acks ∨ d.inFlight s < acked then d
  else
    let d1 := if 0 < acked then d.ackNew s acked g.ack
      else if d.inFlight s ≠ 0 ∧ g.payload = [] ∧ window = v.window ∧ !bitAt g.flags 0 then d.ackDup s else d
    (d1.modSes s (fun v => { v with window := window })).pumpAll s

/-- Payload bytes in order: to HSQ in HANDSHAKE, to the record or PDU stream later. -/
def Dev.takePayload (d : Dev) (s : Nat) (bs : List Byte) : Dev :=
  let d1 := d.sesSet s 28 ((d.rcvNxt s + bs.length) % 2 ^ 32)
  if bs = [] then d1
  else if d.sesState s = Ses.handshake then d1.queueHandshake s bs
  else if d.sesTls s then (d1.modSes s (fun v => { v with raw := v.raw ++ bs })).nextRecord s
  else d1.modSes s (fun v => { v with stream := v.stream ++ bs })

/-- Whether a segment's timestamp is older than the last accepted one (RFC 7323). -/
def Dev.oldStamp (d : Dev) (s : Nat) (g : Segmented) : Bool :=
  match (d.ses s).stamps, g.option 8 with
  | true, some o => decide (2 ^ 31 ≤ (ofBe (cut o 0 4) + 2 ^ 32 - (d.ses s).recent) % 2 ^ 32)
  | _, _ => false

/-- Record the timestamp of an accepted segment. -/
def Dev.noteStamp (d : Dev) (s : Nat) (g : Segmented) : Dev :=
  match g.option 8 with
  | some o => d.modSes s (fun v => { v with recent := ofBe (cut o 0 4) })
  | none => d

/-- Data and FIN of a segment: what continues at RCV_NXT is accepted and acknowledged; anything else that occupies sequence
numbers is discarded with a duplicate ACK. -/
def Dev.takeSegment (d : Dev) (s : Nat) (g : Segmented) : Dev :=
  let fin := bitAt g.flags 0
  let skip := (d.rcvNxt s + 2 ^ 32 - g.seq) % 2 ^ 32
  if g.payload = [] ∧ !fin ∧ d.oldStamp s g then d.sendAck s
  else if g.payload = [] ∧ !fin then (if skip = 0 then (d.noteStamp s g).takeAck s g else (d.takeAck s g).sendAck s)
  else if d.oldStamp s g ∨ g.payload.length + b2n fin ≤ skip then
    ((d.takeAck s g).count Page.sto Reg.STO_OOO_DROP_CNT).sendAck s
  else
    let d1 := ((d.noteStamp s g).takeAck s g).takePayload s (g.payload.drop skip)
    let d2 := if fin then
        (d1.sesSet s 28 ((d1.rcvNxt s + 1) % 2 ^ 32)).modSes s (fun v => { v with closing := true })
      else d1
    d2.sendAck s

/-- TCP_SEGMENT_RECEIVE: the segment at the head of the FIFO, when it is neither a SYN ACK nor a RST. -/
def Dev.receiveSegment (d : Dev) : Dev :=
  match d.headSegment with
  | none => d
  | some (n, _, none) => d.popSto n
  | some (n, s, some g) =>
    if !d.accepts Page.sto ∨ (g.rst ∧ (d.ses s).open_) ∨ (g.syn ∧ d.sesState s = Ses.connecting) then d
    else if !(d.ses s).open_ ∨ (d.ses s).term ∨ d.sesState s = Ses.connecting ∨ g.rst ∨ g.syn then d.popSto n
    else (d.popSto n).takeSegment s g

/-- Whether an RST is in the window: at RCV_NXT, or acknowledging the SYN. -/
def Dev.rstGood (d : Dev) (s : Nat) (g : Segmented) : Bool :=
  if d.sesState s = Ses.connecting then g.acks && g.ack == d.sndNxt s else g.seq == d.rcvNxt s

/-- TCP_RST_RECEIVE: an RST in the window fails the session; another is discarded. -/
def Dev.receiveRst (d : Dev) : Dev :=
  match d.headSegment with
  | some (n, s, some g) =>
    if !g.rst ∨ !(d.ses s).open_ ∨ !d.accepts Page.sto then d
    else if d.rstGood s g ∧ (d.ses s).term then (d.popSto n).modSes s (fun v => { v with open_ := false })
    else if d.rstGood s g then (d.popSto n).failSession s Code.remote 0x04
    else d.popSto n
  | _ => d

/-- Enter ICREQ: the ICReq is sent (R239). -/
def Dev.sendIcReq (d : Dev) (s : Nat) : Dev := (d.setSesState s Ses.icreq).stoSend s (d.icReq s)

/-- The initial congestion window (RFC 5681). -/
def initialWindow (mss : Nat) : Nat := if 2190 < mss then 2 * mss else if 1095 < mss then 3 * mss else 4 * mss

/-- The connection is established: options of the SYN ACK are taken, it is acknowledged, and the session goes on.  After a lost
SYN the window starts at one segment (RFC 5681) and the timeout at 3 s, clamped (RFC 6298, 5.7; R241). -/
def Dev.establish (d : Dev) (s : Nat) (g : Segmented) : Dev :=
  let v := d.ses s
  let d0 := match v.timed with
    | some (_, t) => d.measureRtt s ((d.now - t) / 1000)
    | none => d
  let mss := match g.option 2 with | some o => ofBe o | none => 536
  let scale := match g.option 3 with | some o => min 14 (byteAt o 0) | none => 0
  let recent := match g.option 8 with | some o => ofBe (cut o 0 4) | none => 0
  let d1 := ((d0.sesSet s 26 g.ack).sesSet s 27 g.ack).sesSet s 28 ((g.seq + 1) % 2 ^ 32)
  let d2 := d1.modSes s (fun v => { v with
    mss := mss, scale := scale, stamps := (g.option 8).isSome, recent := recent, window := g.window, expiries := 0
    cwnd := if v.expiries = 0 then initialWindow mss else mss
    rto := if v.expiries = 0 then v.rto else d.clampRto s 3000000, ssthresh := 2 ^ 30, timed := none })
  let d3 := d2.setSesState s Ses.handshake
  if d.sesTls s then d3.sendAck s else d3.sendAck s |>.sendIcReq s

/-- SYN_ACK_RECEIVE. -/
def Dev.receiveSynAck (d : Dev) : Dev :=
  match d.headSegment with
  | some (n, s, some g) =>
    if !g.syn ∨ g.rst ∨ d.sesState s ≠ Ses.connecting ∨ !d.accepts Page.sto then d
    else if !g.acks ∨ g.ack ≠ d.sndNxt s then d.popSto n
    else (d.popSto n).establish s g
  | _ => d

/-- RETRANSMISSION_TIMEOUT: RETRIES expiries in a row fail the session; otherwise the oldest segment goes out again, or a window
probe when nothing is in flight. -/
def Dev.retransmitTimeout (d : Dev) (s : Nat) : Dev :=
  let v := d.ses s
  let fly := d.inFlight s
  if !v.open_ ∨ v.term ∨ (fly = 0 ∧ v.sendBuf = []) then d
  else if bits (d.sesWord s 12) 0 4 ≤ v.expiries + 1 then d.failSession s Code.timeout 0x05
  else
    let d1 := d.setSes s { v with
      expiries := v.expiries + 1, rto := d.clampRto s (2 * v.rto), timed := none
      ssthresh := d.halfFlight s, cwnd := d.effMss s, fast := false, dupAcks := 0
      recover := if fly = 0 then v.recover else some (d.sndNxt s) }
    if fly = 0 then (d1.sendData s 1).getD d1 else d1.retransmit s

/-! ## The STO operation port (R230, R245) -/

/-- Result words of an operation. -/
def Dev.stoResult (d : Dev) (ws : List Nat) : Dev :=
  (ws.zipIdx).foldl (fun (d : Dev) e => d.fset Page.sto (Reg.STO_OPRES_DATA.nth 4 e.2) e.1) d

/-- The index of a session operation is out of range. -/
def stoOpBad (o : PortOp) (session : Bool) : Bool := session && decide (65536 ≤ bits o.word 0 18)

/-- Whether a wire command of a volume is outstanding: it holds a slot of its session (R233, R238). -/
def Dev.volBusy (d : Dev) (v : Nat) : Bool :=
  d.sto.wires.any (fun e => match e.2 with
    | some w => w.op != 0 && w.volume == v && w.live
    | none => false)

/-- Fields of a volume image that must be zero. -/
def volReserved (w : List Nat) : Bool :=
  bits (nth w 0) 4 26 != 0 || bits (nth w 1) 13 3 != 0 || bits (nth w 1) 24 8 != 0 || bits (nth w 2) 16 16 != 0
    || bits (nth w 8) 20 12 != 0 || bits (nth w 9) 16 16 != 0 || (w.drop 12).any (· != 0)

/-- The Welbor fields of volume words `w` taken from `b`. -/
def withWelborFields (w b : List Nat) : List Nat :=
  let w0 := w.set 0 (setBits (nth w 0) 3 1 (bits (nth b 0) 3 1))
  (((w0.set 8 (nth b 8)).set 9 (nth b 9)).set 10 (nth b 10)).set 11 (nth b 11)

/-- VOL_WRITE (R230, R245).  DESIGN CHOICE (log entry 69): a volume that is VALID is refused with ACCESS, after the check of the
image; rights go by the image and by the volume that is VALID. -/
def Dev.volWrite (d : Dev) (welbor : Bool) (v : Nat) (w : List Nat) : Nat × Dev :=
  let mine := bitAt (nth w 1) 12 && (!d.volValid v || d.volMgr v)
  let code := firstFailure [(welbor || mine, Code.access), (!volReserved w, Code.malformed),
    (!d.volValid v, Code.access), (!d.volBusy v, Code.resource)]
  if code ≠ Code.ok then (code, d)
  else
    let w1 := if welbor then w else withWelborFields w (List.replicate 16 0)
    (Code.ok, d.gsetWords (d.volAddr v) (wordsSealed w1 12))

/-- VOL_BIND_KEY (R230, R244). -/
def Dev.volBindKey (d : Dev) (v : Nat) (b : List Nat) : Nat × Dev :=
  let code := firstFailure [(d.volValid v && !volReserved b, Code.malformed), (!d.volBusy v, Code.resource)]
  if code ≠ Code.ok then (code, d)
  else (Code.ok, d.gsetWords (d.volAddr v) (wordsSealed (withWelborFields (d.volWords v) b) 12))

/-- VOL_DISABLE. -/
def Dev.volDisable (d : Dev) (v : Nat) : Dev :=
  let w := d.volWords v
  d.gsetWords (d.volAddr v) (wordsSealed (w.set 0 (setBits (nth w 0) 31 1 0)) 12)

/-- Fields of a session image that must be zero, and fields out of range (R238). -/
def Dev.sesMalformed (d : Dev) (w : List Nat) : Bool :=
  let acts := parseActs 0 ((List.range 4).map (fun i => nth w (3 + i)))
  bits (nth w 0) 0 2 == 3 || bits (nth w 0) 4 26 != 0 || bits (nth w 1) 13 3 != 0 || bits (nth w 1) 24 8 != 0
    || bits (nth w 2) 18 14 != 0 || bits (nth w 7) 20 12 != 0 || bits (nth w 8) 20 12 != 0 || bits (nth w 9) 26 6 != 0
    || bits (nth w 10) 12 4 != 0 || bits (nth w 12) 4 12 != 0 || bits (nth w 13) 16 16 != 0
    || ((w.drop 16).take 8).any (· != 0)
    || decide (bits (nth w 9) 0 16 < 536) || decide (9000 < bits (nth w 9) 0 16) || bits (nth w 10) 0 12 == 0
    || bits (nth w 12) 16 16 == 0 || !d.actsGood acts
    || !acts.any (fun a => a.op == Op.fwd && !a.ind && bits a.operand 19 2 == 0)

/-- SES_WRITE (R245); a session that is VALID and not the manager's is no object of the manager or firmware, whatever the image
(log entry 69). -/
def Dev.sesWrite (d : Dev) (welbor : Bool) (s : Nat) (w : List Nat) : Nat × Dev :=
  let mine := bitAt (nth w 1) 12 && (!d.sesValid s || d.sesMgr s)
  let code := firstFailure [(welbor || mine, Code.access), (!d.sesMalformed w, Code.malformed),
    (d.sesState s == Ses.closed, Code.resource)]
  if code ≠ Code.ok then (code, d)
  else
    let d1 := d.gsetWords (d.sesAddr s) (wordsSealed (w.take 24) 24)
    (Code.ok, { d1 with sto := { d1.sto with written := Sparse.set (blank false) d1.sto.written s true } })

/-- SES_OPEN: SYN sent, with the TRNG's initial sequence number (R241). -/
def Dev.openSession (d : Dev) (s : Nat) : Dev :=
  let r := d.fresh
  let iss := r.1 % 2 ^ 32
  let v := d.ses s
  let all := List.range (d.qdepth s)
  let free := all.filter (fun k => !v.freeSlots.contains k) ++ v.freeSlots.filter (fun k => all.contains k)
  let nxt := (iss + 1) % 2 ^ 32
  let d1 := r.2.setSes s {
    open_ := true, freeSlots := free, gens := v.gens, rto := d.clampRto s (bits (d.sesWord s 11) 0 16 * 10)
    timed := some (nxt, d.now), stamps := true }
  let d2 := (((d1.sesSet s 26 iss).sesSet s 27 nxt).sesSet s 28 0).sesSet s 24 0
  let d3 := d2.setSesState s Ses.connecting
  (d3.sendSegment s iss tcpSyn []).getD d3

/-- Both SAs of a TLS session have its owner (R218, R238). -/
def Dev.sasMatch (d : Dev) (s : Nat) : Bool :=
  [7, 8].all (fun i =>
    let a := d.saWords (bits (d.sesWord s i) 0 20)
    Sa.stamp a == d.sesStamp s && Sa.mgr a == d.sesMgr s)

/-- The accepted entries of a session with no wire command sent end (R244). -/
def Dev.endWaiting (d : Dev) (s : Nat) : Dev :=
  (d.sesEntries s).foldl (fun (d : Dev) e =>
    if (d.wiresOf e.1 e.2).all (fun n => d.phaseOf n != some .sent && d.phaseOf n != some .settled) then
      d.failStorage e.1 e.2 Code.remote 0x02
    else d) d

/-- A session is reset: an RST if a connection exists, slots and held cells freed, CLOSED (R239); responses that wait in its
stream find their slots free (R244). -/
def Dev.resetSessionAs (d : Dev) (s : Nat) (fate : Dev → Nat → Nat → Nat × Nat) : Dev :=
  let late := namingPdus (d.ses s).stream.length (d.ses s).stream
  let d1 := ((d.dropSession s false fate).sesSet s 25 0).setSesState s Ses.closed
  (List.range late).foldl (fun (d : Dev) _ => d.lateMessage) d1

/-- SES_RESET. -/
def Dev.resetSession (d : Dev) (s : Nat) : Dev := d.resetSessionAs s (fun d => d.entryFate Code.remote 0x02)

/-- SESSION_DRAINED: a DRAINING session without outstanding commands sends its FIN, and is CLOSED once the FINs of both sides
have been exchanged (R239). -/
def Dev.drainSession (d : Dev) (s : Nat) : Dev :=
  let v := d.ses s
  if d.sesState s ≠ Ses.draining ∨ d.outstanding s ≠ 0 then d
  else if !v.open_ ∨ (v.finAcked ∧ v.closing) then
    (d.setSes s { freeSlots := v.freeSlots, gens := v.gens }).setSesState s Ses.closed
  else if v.fin then d
  else (d.setSes s { v with fin := true }).pumpAll s

/-- A session operation, with the rights of R245. -/
def Dev.sesOp (d : Dev) (op : Nat) (free : Bool) (good : Dev → Nat → Bool) (f : Dev → Nat → Dev) : Dev :=
  d.portExec portSto op (fun d0 o =>
    let s := bits o.word 0 18
    let d := d0.noteSes s
    if o.req ≠ .welbor ∧ !free ∧ !d.sesMgr s then (Code.access, d)
    else if stoOpBad o true ∨ !good d s then (Code.malformed, d)
    else (Code.ok, f d s))

/-- SES_GO: from HANDSHAKE, with SAs that match the session (R239, R245). -/
def Dev.sesGo (d : Dev) : Dev :=
  d.sesOp 8 false (fun d n => d.sesState n == Ses.handshake && d.sasMatch n) (fun d n => d.sendIcReq n)

/-- SES_CLOSE: from READY (R239, R244, R245). -/
def Dev.sesClose (d : Dev) : Dev :=
  d.sesOp 9 false (fun d n => d.sesState n == Ses.ready) (fun d n => (d.setSesState n Ses.draining).endWaiting n)

/-- SES_RESET (R239, R245). -/
def Dev.sesReset (d : Dev) : Dev := d.sesOp 10 true (fun _ _ => true) (fun d n => d.resetSession n)

/-! ## Meanings -/

/-- R209, R210. -/
def execSxpPrecheck (lane : Nat) (s : State) : Host.Outcome State Fault Refusal :=
  s.become (Dev.recordEnded (s.dev.precheck lane))

/-- R209, R210. -/
def execSxpPostcheck (lane : Nat) (s : State) : Host.Outcome State Fault Refusal :=
  s.become (Dev.recordEnded (s.dev.postcheck lane))

/-- R208. -/
def execSxpWrite (s : State) : Host.Outcome State Fault Refusal :=
  s.become (s.dev.portExec portSxp 1 (fun d o =>
    d.saWrite (o.req == .welbor) (bits o.word 0 20) ((List.range 32).map (wordAt o.buf))))

/-- R208. -/
def execSxpRead (s : State) : Host.Outcome State Fault Refusal :=
  s.become (s.dev.portExec portSxp 2 (fun d o =>
    let s := bits o.word 0 20
    (Code.ok, ((d.saRead s).zipIdx).foldl (fun (d : Dev) e => d.fset Page.sxp (Reg.SXP_OPRES_DATA.nth 4 e.2) e.1) (d.noteSa s))))

/-- R208. -/
def execSxpDisable (s : State) : Host.Outcome State Fault Refusal :=
  s.become (s.dev.portExec portSxp 3 (fun d o =>
    (Code.ok, d.saDisable (bits o.word 0 20))))

/-- R217. -/
def execSxpRoll (s : State) : Host.Outcome State Fault Refusal :=
  s.become (s.dev.portExec portSxp 4 (fun d o =>
    let r := d.saRoll (o.req == .welbor) (bits o.word 0 20)
    (r.1, r.2.resumeRecords)))

/-- R217. -/
def execRollComplete (sa : Nat) (s : State) : Host.Outcome State Fault Refusal := s.become (s.dev.rollDone sa)

/-- A read of SXP_LIMIT_FIFO pops one entry (R216, R221). -/
def Dev.popLimit (d : Dev) : Dev :=
  match d.sxp.limit with
  | [] => d.emit (.readData 0#32)
  | (hard, sa) :: rest =>
    (d.setSxp { d.sxp with limit := rest }).emit (.readData (BitVec.ofNat 32 (2 ^ 31 + b2n hard * 2 ^ 30 + sa)))


/-- R231, R232, R235. -/
def execRead (queue : Nat) (s : State) : Host.Outcome State Fault Refusal := s.become (s.dev.takeStorage queue 0x30)

/-- R231, R232, R234. -/
def execWrite (queue : Nat) (s : State) : Host.Outcome State Fault Refusal := s.become (s.dev.takeStorage queue 0x31)

/-- R231, R237. -/
def execFlush (queue : Nat) (s : State) : Host.Outcome State Fault Refusal := s.become (s.dev.takeStorage queue 0x32)

/-- R231, R236. -/
def execTrim (queue : Nat) (s : State) : Host.Outcome State Fault Refusal := s.become (s.dev.takeStorage queue 0x33)

/-- R232-R234. -/
def execWireCommandIssue (wire : Nat) (answer : HostAnswer) (s : State) : Host.Outcome State Fault Refusal :=
  s.become (s.dev.issueWire wire answer)

/-- R235. -/
def execC2hdataReceive (session : Nat) (s : State) : Host.Outcome State Fault Refusal := s.become (s.dev.receiveData session)

/-- R233, R236. -/
def execCapsuleRespReceive (session : Nat) (s : State) : Host.Outcome State Fault Refusal :=
  s.become (s.dev.receiveResponse session)

/-- R234. -/
def execReadyToTransferReceive (session : Nat) (s : State) : Host.Outcome State Fault Refusal :=
  s.become (s.dev.receiveR2t session)

/-- R242. -/
def execC2htermreqReceive (session : Nat) (s : State) : Host.Outcome State Fault Refusal := s.become (s.dev.receiveTerm session)

/-- R239. -/
def execIcrespReceive (session : Nat) (s : State) : Host.Outcome State Fault Refusal := s.become (s.dev.receiveIcResp session)

/-- R239. -/
def execSynAckReceive (s : State) : Host.Outcome State Fault Refusal := s.become s.dev.receiveSynAck

/-- R242. -/
def execTcpRstReceive (s : State) : Host.Outcome State Fault Refusal := s.become s.dev.receiveRst

/-- R225, R244. -/
def execTcpSegmentReceive (s : State) : Host.Outcome State Fault Refusal := s.become s.dev.receiveSegment

/-- R241. -/
def execRetransmissionTimeout (session : Nat) (s : State) : Host.Outcome State Fault Refusal :=
  s.become (s.dev.retransmitTimeout session)

/-- R242, R243. -/
def execCmdTimeout (wire : Nat) (s : State) : Host.Outcome State Fault Refusal := s.become (s.dev.timeoutWire wire)

/-- R231. -/
def execOpenWaitTimeout (queue index : Nat) (s : State) : Host.Outcome State Fault Refusal :=
  s.become (s.dev.openTimeout queue index)

/-- R230, R245. -/
def execVolWrite (s : State) : Host.Outcome State Fault Refusal :=
  s.become (s.dev.portExec portSto 1 (fun d o =>
    if stoOpBad o false then (Code.malformed, d)
    else (d.noteVol (bits o.word 0 18)).volWrite (o.req == .welbor) (bits o.word 0 18) ((List.range 16).map (wordAt o.buf))))

/-- R245. -/
def execVolRead (s : State) : Host.Outcome State Fault Refusal :=
  s.become (s.dev.portExec portSto 2 (fun d o =>
    if stoOpBad o false then (Code.malformed, d)
    else (Code.ok, (d.noteVol (bits o.word 0 18)).stoResult (d.volWords (bits o.word 0 18)))))

/-- R245. -/
def execVolDisable (s : State) : Host.Outcome State Fault Refusal :=
  s.become (s.dev.portExec portSto 3 (fun d o =>
    if stoOpBad o false then (Code.malformed, d) else (Code.ok, d.volDisable (bits o.word 0 18))))

/-- R230, R245. -/
def execStoVolBindKey (s : State) : Host.Outcome State Fault Refusal :=
  s.become (s.dev.portExec portSto 4 (fun d o =>
    if o.req ≠ .welbor then (Code.access, d)
    else if stoOpBad o false then (Code.malformed, d)
    else (d.noteVol (bits o.word 0 18)).volBindKey (bits o.word 0 18) ((List.range 16).map (wordAt o.buf))))

/-- R245. -/
def execSesWrite (s : State) : Host.Outcome State Fault Refusal :=
  s.become (s.dev.portExec portSto 5 (fun d o =>
    if stoOpBad o true then (Code.malformed, d)
    else (d.noteSes (bits o.word 0 18)).sesWrite (o.req == .welbor) (bits o.word 0 18) ((List.range 32).map (wordAt o.buf))))

/-- R245. -/
def execSesRead (s : State) : Host.Outcome State Fault Refusal :=
  s.become (s.dev.sesOp 6 true (fun _ _ => true) (fun d n => d.stoResult (d.sesWords n)))

/-- R239, R245. -/
def execSesOpen (s : State) : Host.Outcome State Fault Refusal :=
  s.become (s.dev.sesOp 7 false (fun d n => d.sesState n == Ses.closed && d.sesValid n) (fun d n => d.openSession n))

/-- R240, R245. -/
def execSesGo (s : State) : Host.Outcome State Fault Refusal :=
  s.become s.dev.sesGo

/-- R239, R244, R245. -/
def execSesClose (s : State) : Host.Outcome State Fault Refusal :=
  s.become s.dev.sesClose

/-- R239, R245. -/
def execSesReset (s : State) : Host.Outcome State Fault Refusal :=
  s.become s.dev.sesReset

/-- R239. -/
def execSessionDrained (session : Nat) (s : State) : Host.Outcome State Fault Refusal :=
  s.become (s.dev.drainSession session)

end Sys2Proof.Machine
end

