-- ==== Sys2Proof/Machine/QueueWork.lean ====
section
/-!
DEFINITION. The work of queues: operations on contexts (R318, R319), transmit, receive and cipher entries (R329-R331), and the
submission and end of lehr jobs (R179), whose results go to a cipher entry, to SXP or to STO.
-/

namespace Sys2Proof.Machine

/-! ## Contexts (R318, R319) -/

/-- A reserved field of a context image is set. -/
def ctxReserved (w : List Nat) : Bool :=
  bits (nth w 0) 6 2 != 0 || bits (nth w 0) 13 3 != 0 || bits (nth w 0) 21 11 != 0 || bits (nth w 1) 14 2 != 0
    || bits (nth w 1) 26 6 != 0 || bits (nth w 6) 11 5 != 0 || bits (nth w 6) 23 9 != 0 || bits (nth w 7) 10 22 != 0
    || bits (nth w 8) 16 16 != 0 || bits (nth w 9) 26 6 != 0 || bits (nth w 10) 14 1 != 0 || bits (nth w 10) 16 16 != 0
    || bits (nth w 11) 8 24 != 0 || bits (nth w 12) 3 29 != 0 || nth w 13 != 0 || nth w 14 != 0 || bits (nth w 15) 0 31 != 0

namespace Ctx
def typ (w : List Nat) : Nat := bits (nth w 0) 0 3
def mgr (w : List Nat) : Bool := bitAt (nth w 1) 12
def slice (w : List Nat) : Nat := bits (nth w 1) 0 12
def localNo (w : List Nat) : Nat := bits (nth w 1) 16 10
end Ctx

/-- The interrupt fields of a queue that raises interrupts are in range. -/
def ctxIrqGood (w : List Nat) : Bool :=
  !bitAt (nth w 0) 5 ||
    ((Ctx.mgr w || decide (bits (nth w 6) 0 11 < 15)) && decide (1 ≤ bits (nth w 6) 16 7) && decide (bits (nth w 6) 16 7 ≤ 64)
      && decide (bits (nth w 7) 0 10 ≤ 1000))

/-- The receive fields of an RX or HANDSHAKE queue are in range. -/
def ctxRxGood (w : List Nat) : Bool :=
  !(Ctx.typ w == typeRx || Ctx.typ w == typeHandshake) ||
    (nth w 8 != 0 && decide (bits (nth w 10) 0 14 ≤ 10000) && (bitAt (nth w 10) 15 || bits (nth w 10) 0 14 == 0))

/-- Whether the owner that an image names owns a storage session. -/
def Dev.ownsSession (d : Dev) (w : List Nat) : Bool :=
  (List.range 65536).any (fun s => d.sesValid s && (if Ctx.mgr w then d.sesMgr s else d.sesOwnedBy s (Ctx.slice w)))

/-- A malformed context image (R319). -/
def Dev.ctxMalformed (d : Dev) (w : List Nat) : Bool :=
  let log2Good := fun n => decide (6 ≤ n) && decide (n ≤ 16)
  let port := bitAt (nth w 1) 13
  ctxReserved w || Ctx.typ w == 0 || decide (5 < Ctx.typ w) || !log2Good (bits (nth w 0) 8 5) || !log2Good (bits (nth w 0) 16 5)
    || (Ctx.mgr w && (Ctx.slice w != 0 || Ctx.localNo w != 0)) || (!Ctx.mgr w && port) || (port && !d.split)
    || nth w 2 % 4096 != 0 || nth w 4 % 4096 != 0 || !ctxIrqGood w || !ctxRxGood w
    || (Ctx.typ w == typeHandshake && !d.ownsSession w)

/-- Write a context: the image with the hardware fields. -/
def Dev.putContext (d : Dev) (q : Nat) (w : List Nat) (qgen state : Nat) : Dev :=
  (d.gsetWords (d.ctxAddr q) (((w.set 11 qgen).set 12 state).set 15 (2 ^ 31))).renewLines (d.ctxAddr q) 64

/-- CREATE. -/
def Dev.createQueue (d : Dev) (welbor : Bool) (q : Nat) (w : List Nat) : Nat × Dev :=
  let s := Ctx.slice w
  let v := d.slice s
  let code := firstFailure [
    ((d.queue q).state == .free && (Ctx.mgr w || v.state == .active) && (welbor || Ctx.mgr w), Code.access),
    (!d.ctxMalformed w, Code.malformed),
    (Ctx.mgr w || (decide (v.queuesUsed < v.queueBudget) && (d.localQueue s (Ctx.localNo w)).isNone), Code.resource)]
  if code ≠ Code.ok then (code, d)
  else
    let g := ((d.queue q).qgen + 1) % 256
    let d1 := (d.putContext q w g 1).setQueue q { state := .idle, qgen := g, incarnation := if Ctx.mgr w then 0 else v.incarnation }
    let d2 := if Ctx.mgr w then d1 else d1.setSlice s { v with queuesUsed := v.queuesUsed + 1 }
    (Code.ok, d2.showQueueCount)

/-- The words of queue `q`'s context. -/
def Dev.ctxWords (d : Dev) (q : Nat) : List Nat := (List.range 16).map (d.ctx q)

/-- A context image with the fields that MODIFY may change, and the hardware fields, cleared. -/
def ctxFixed (w : List Nat) : List Nat :=
  (((((w.set 6 0).set 7 0).set 8 0).set 9 0).set 10 0).take 11

/-- MODIFY. -/
def Dev.modifyQueue (d : Dev) (welbor : Bool) (q : Nat) (w : List Nat) : Nat × Dev :=
  let code := firstFailure [((d.queue q).state != .free && (welbor || d.qManager q), Code.access),
    (!d.ctxMalformed w && ctxFixed w == ctxFixed (d.ctxWords q), Code.malformed)]
  if code ≠ Code.ok then (code, d) else (Code.ok, d.putContext q w (d.queue q).qgen (d.queue q).state.num)

/-- DESTROY. -/
def Dev.destroyQueue (d : Dev) (welbor : Bool) (q : Nat) : Nat × Dev :=
  if (d.queue q).state = .idle ∧ (welbor ∨ d.qManager q) then (Code.ok, d.freeQueue q) else (Code.access, d)

/-- READ: the manager and firmware receive no ring addresses of a locked slice (R311). -/
def Dev.readQueue (d : Dev) (welbor : Bool) (q : Nat) : Dev :=
  let hide := !welbor && !d.qManager q && (d.slice (d.qSlice q)).isLocked
  ((d.ctxWords q).zipIdx).foldl (fun (d : Dev) e =>
    d.fset Page.que (Reg.QUE_OPRES_DATA.nth 4 e.2) (if hide ∧ 2 ≤ e.2 ∧ e.2 ≤ 5 then 0 else e.1)) d

/-- An operation of the QUE port. -/
def Dev.queOp (d : Dev) (op : Nat) (f : Dev → Bool → Nat → List Nat → Nat × Dev) : Dev :=
  d.portExec portQue op (fun d o => f d (o.req == .welbor) (bits o.word 0 16) ((List.range 16).map (wordAt o.buf)))

/-- R318, R319. -/
def execQueCreate (s : State) : Host.Outcome State Fault Refusal :=
  s.become (s.dev.queOp 1 (fun d welbor q w => d.createQueue welbor q w))

/-- R318. -/
def execQueModify (s : State) : Host.Outcome State Fault Refusal :=
  s.become (s.dev.queOp 2 (fun d welbor q w => d.modifyQueue welbor q w))

/-- R318. -/
def execQueDestroy (s : State) : Host.Outcome State Fault Refusal :=
  s.become (s.dev.queOp 3 (fun d welbor q _ => d.destroyQueue welbor q))

/-- R318. -/
def execQueRead (s : State) : Host.Outcome State Fault Refusal :=
  s.become (s.dev.queOp 4 (fun d welbor q _ => (Code.ok, d.readQueue welbor q)))

/-! ## Transmit entries (R329) -/

/-- Whether a queue works on its entries (R320). -/
def Dev.working (d : Dev) (q : Nat) : Bool := (d.queue q).state == .run || (d.queue q).state == .error

/-- The oldest entry of a queue whose work has not begun, when its opcode is `op`. -/
def Dev.nextEntry (d : Dev) (q op : Nat) : Option QueueEntry :=
  match (d.queue q).entries.find? (fun e => !e.started && e.ended.isNone) with
  | some e => if e.opcode = op then some e else none
  | none => none

/-- What the host's answer to a data read means for the entry: ends it, holds it by a page request, or goes on. -/
def Dev.onData (d : Dev) (q : Nat) (e : QueueEntry) (a : HostAnswer) (f : Dev → Dev) : Dev :=
  d.onAnswer (d.qPort q) (d.qPf q) (.entry q e.index) a f (fun code d => d.endWith q e.index code 0)

/-- The opcode-specific bytes of a SEND entry of a TX queue. -/
def sendMalformed (img : List Byte) : Bool :=
  let b2 := byteAt img 2
  let mss := ofLe (cut img 4 2)
  decide (4 ≤ b2) || b2 == 3 || byteAt img 3 != 0 || (mss != 0 && (decide (mss < 64) || decide (16000 < mss)))
    || ((img.drop 8).take 8).any (· != 0)

/-- The pieces of an entry's buffers. -/
def QueueEntry.spans (e : QueueEntry) : List (Nat × Nat) := fragSpans e.frags 0 e.total

/-- A SEND entry's frame enters the crucible and waits for dispatch; its entry completes, unless it awaits a transmit time. -/
def Dev.enterFrame (d : Dev) (q : Nat) (e : QueueEntry) (die deep : Nat) : Dev :=
  let r := d.gatherBytes q e.spans
  let b2 := byteAt e.head 2
  let stamp := d.qStamp q
  let n := r.2.newPacket die deep (fun gen cells => {
    gen := gen, bytes := r.1, srcKind := 1, srcId := q, stamp := stamp, cells := cells, entry := some (q, e.index)
    mss := ofLe (cut e.head 4 2), wantTime := bitAt b2 0, tag := ofLe (cut e.head 6 2), oneStep := bitAt b2 1 })
  let k := (n.2.countSpill deep).nextSeq (65536 + q)
  let d1 := ((k.2.modPacket n.1 (fun p => { p with seq := k.1 })).holdSlice stamp).queueFirst n.1
  let d2 := d1.modEntry q e.index (fun e => { e with started := true, progress := r.1.length })
  if bitAt b2 0 ∧ !d.qManager q then d2 else d2.endWith q e.index Code.ok r.1.length

/-- An entry that waits for cells is counted once (R161). -/
def Dev.waitCells (d : Dev) (q : Nat) (e : QueueEntry) : Dev :=
  if e.counted then d
  else (d.modEntry q e.index (fun e => { e with counted := true })).count Page.cru Reg.CRU_HOST_WAIT_CNT

/-- SEND on a TX queue. -/
def Dev.sfinishFrame (d : Dev) (q : Nat) (e : QueueEntry) (a : HostAnswer) : Dev :=
  if sendMalformed e.head then d.endWith q e.index Code.malformed 0
  else if !d.accepts Page.cru then d
  else
    match d.placeCells (cellsOf e.total) (d.freeDie - d.fget Page.cru Reg.CRU_RESERVE_CELLS) with
    | .drop _ => d.waitCells q e
    | .take die deep => d.onData q e a (fun d => d.enterFrame q e die deep)

/-- SEND on a HANDSHAKE queue: the bytes become TCP payload of the queue's session. -/
def Dev.sendHandshake (d : Dev) (q : Nat) (e : QueueEntry) (a : HostAnswer) : Dev :=
  if ((e.head.drop 2).take 14).any (· != 0) then d.endWith q e.index Code.malformed 0
  else
    match d.handshakeSession q with
    | none => d
    | some s => d.onData q e a (fun d =>
        let r := d.gatherBytes q e.spans
        (r.2.handshakeSend s r.1).endWith q e.index Code.ok r.1.length)

/-- SEND: the next entry of a TX or HANDSHAKE queue. -/
def Dev.sendEntry (d : Dev) (q : Nat) (a : HostAnswer) : Dev :=
  match d.nextEntry q 0x01 with
  | none => d
  | some e =>
    if !d.working q ∨ !d.qReady q then d
    else if d.qType q = typeTx then d.sfinishFrame q e a
    else if d.qType q = typeHandshake then d.sendHandshake q e a
    else d

/-- R329. -/
def execSend (queue : Nat) (answer : HostAnswer) (s : State) : Host.Outcome State Fault Refusal :=
  s.become (s.dev.sendEntry queue answer)

/-! ## Receive entries (R330) -/

/-- RECV: the oldest fetched RECV entry that is not yet posted posts its buffer. -/
def Dev.postBuffer (d : Dev) (q : Nat) : Dev :=
  match (d.queue q).entries.find? (fun e => e.opcode == 0x10 && !e.accepted && e.ended.isNone) with
  | none => d
  | some e => if d.working q then d.modEntry q e.index (fun e => { e with accepted := true }) else d

/-- R330. -/
def execRecv (queue : Nat) (s : State) : Host.Outcome State Fault Refusal := s.become (s.dev.postBuffer queue)

/-- An entry is available: fetched and unused, or posted by a doorbell with credit left to fetch it. -/
def Dev.entryAvailable (d : Dev) (q : Nat) : Bool :=
  let v := d.queue q
  v.entries.any (fun e => e.opcode == 0x10 && !e.started && e.ended.isNone)
    || (v.state == .run && v.sqPi != v.sqCi && decide (v.entries.length + v.backlog.length < 64))

/-- Hold time of a queue in µs. -/
def Dev.holdTime (d : Dev) (q : Nat) : Nat := if bitAt (d.ctx q 10) 15 then bits (d.ctx q 10) 0 14 else 50

/-- The words of a receive completion. -/
def Dev.recvWords (d : Dev) (q : Nat) (p : Placement) (e : QueueEntry) (status : Nat) : List Nat :=
  let nbuf := if d.qType q = typeHandshake then 1 else p.used
  let t := match p.time with
    | some (sec, ns, frac) => (frac + 2 ^ 16, ns, sec % 2 ^ 32, sec / 2 ^ 32 % 2 ^ 16 * 2 ^ 16)
    | none => (0, 0, 0, 0)
  completionWords status e.opcode 0 e.index e.incarnation p.placed (t.1 + nbuf * 2 ^ 24) t.2.1 t.2.2.1 t.2.2.2 p.tag

/-- A frame ends: its first entry completes, the other entries it used are consumed with it, and its copy has left. -/
def Dev.finishFrame (d : Dev) (q : Nat) (p : Placement) (status : Nat) : Dev :=
  let d1 := (d.setQueue q { d.queue q with placing := none }).endCopy p.copy none
  match p.first.bind (d1.entry q) with
  | none => d1
  | some e =>
    let v := d1.queue q
    let rest := v.entries.filter (fun x => x.started && x.ended.isNone && x.index != e.index)
    let d2 := (d1.setQueue q { v with
      entries := v.entries.filter (fun x => !(x.started && x.ended.isNone) || x.index == e.index) }).releaseEntries rest.length (d.qStamp q)
    (d2.modEntry q e.index (fun e => { e with fromWire := p.fromWire })).endEntry q e.index (d.recvWords q p e status)

/-- The hold of a frame expires (R330). -/
def Dev.truncateFrame (d : Dev) (q : Nat) (p : Placement) : Dev :=
  ((d.finishFrame q p Code.truncated).count Page.que Reg.QUE_RX_TRUNC_CNT_CNT).pulse 357

/-- The frame needs an entry and none has been posted yet: the hold starts unless one is available. -/
def Dev.holdFrame (d : Dev) (q : Nat) (p : Placement) : Dev :=
  if d.entryAvailable q then d.setQueue q { d.queue q with placing := some { p with hold := false } }
  else if p.hold then d
  else if d.holdTime q = 0 then (d.pulse 356).truncateFrame q p
  else (d.setQueue q { d.queue q with placing := some { p with hold := true } }).pulse 356

/-- Place what remains of a frame into the posted entries; a malformed entry is skipped. -/
def Dev.placeInto (d : Dev) (q : Nat) : Nat → Placement → Dev
  | 0, _ => d
  | fuel + 1, p =>
    if p.bytes.length ≤ p.placed ∧ p.first.isSome then d.finishFrame q p Code.ok
    else
      match d.freeEntries q with
      | [] => if p.first.isSome then d.holdFrame q p else d.setQueue q { d.queue q with placing := some p }
      | e :: _ =>
        if ((e.head.drop 2).take 14).any (· != 0) then
          (d.endEntry q e.index (completionWords Code.malformed e.opcode 0 e.index e.incarnation 0 (2 ^ 24) 0 0 0 0)).placeInto q fuel p
        else
          let part := (p.bytes.drop p.placed).take e.total
          let d1 := (d.modEntry q e.index (fun e => { e with started := true })).scatterBytes q e.spans part
          d1.placeInto q fuel { p with
            first := some (p.first.getD e.index), used := p.used + 1, placed := p.placed + part.length, hold := false }

/-- The stamp of what is placed. -/
def Dev.placeStamp (d : Dev) (q : Nat) (p : Placement) : Stamp :=
  match d.copy p.copy with
  | some c => (d.packet c.packet).stamp
  | none => d.qStamp q

/-- A HANDSHAKE queue begins with the next received segment of its session (R240). -/
def Dev.beginHandshake (d : Dev) (q : Nat) : Dev :=
  match d.handshakeSession q with
  | none => d
  | some s =>
    match (d.ses s).hand with
    | [] => d
    | bs :: rest =>
      (d.modSes s (fun v => { v with hand := rest })).setQueue q { d.queue q with placing := some { copy := 0, bytes := bs } }

/-- FRAME_PLACEMENT: place the frame at hand, under the checks of R312 and R334. -/
def Dev.placeFrame (d0 : Dev) (q : Nat) : Dev :=
  if !d0.working q ∨ !d0.qReady q then d0
  else
    let d := if d0.qType q = typeHandshake ∧ (d0.queue q).placing.isNone then d0.beginHandshake q else d0
    match (d.queue q).placing with
    | none => d
    | some p =>
      let stamp := d.placeStamp q p
      if !d.qManager q ∧ !d.deliverable (d.qSlice q) (d.queue q).incarnation stamp then
        ((d.discardStale kindPacket (d.qSlice q) (d.queue q).incarnation stamp).setQueue q { d.queue q with placing := none }).endCopy p.copy
          (some Drop.staleId)
      else d.placeInto q 128 p

/-- R330. -/
def execFramePlacement (queue : Nat) (s : State) : Host.Outcome State Fault Refusal := s.become (s.dev.placeFrame queue)

/-- The hold timer expires: the frame is cut short, unless the entry it needs has become available (R336). -/
def Dev.holdExpires (d : Dev) (q : Nat) : Dev :=
  match (d.queue q).placing with
  | none => d
  | some p => if !p.hold then d else if d.entryAvailable q then d.placeFrame q else d.truncateFrame q p

/-- R330. -/
def execRxHoldExpiry (queue : Nat) (s : State) : Host.Outcome State Fault Refusal := s.become (s.dev.holdExpires queue)

/-! ## Cipher entries (R331) -/

/-- The opcode-specific bytes of a CIPHER entry. -/
def cipherMalformed (e : QueueEntry) : Bool :=
  let nin := ofLe (cut e.head 4 2)
  ofLe (cut e.head 2 2) != 0 || ofLe (cut e.head 6 2) != 0 || nin == 0 || decide (e.frags.length ≤ nin)
    || ofLe (cut e.head 8 8) % 32 != 0

/-- Input and output fragments of a CIPHER entry. -/
def QueueEntry.nin (e : QueueEntry) : Nat := ofLe (cut e.head 4 2)
def sumLen (frags : List (Nat × Nat)) : Nat := (frags.map (·.2)).sum

/-- Read the input and submit the job of the descriptor read with the entry. -/
def Dev.submitCipher (d : Dev) (q : Nat) (e : QueueEntry) : Dev :=
  let ins := e.frags.take e.nin
  let outs := e.frags.drop e.nin
  let i := d.gatherBytes q (fragSpans ins 0 (sumLen ins))
  let j : LehrJob := {
    src := .cipher q e.index e.qgen, desc := e.desc, input := i.1, stamp := d.qStamp q, work := q * 4 + e.index * 2 ^ 32 }
  let bad := j.inLen != sumLen ins || j.outLen != sumLen outs
  (i.2.modEntry q e.index (fun e => { e with started := true })).submitJob { j with badStream := bad }

/-- CIPHER: the next entry of a cipher queue. -/
def Dev.cipherEntry (d : Dev) (q : Nat) (a : HostAnswer) : Dev :=
  match d.nextEntry q 0x20 with
  | none => d
  | some e =>
    if !d.working q ∨ d.qType q ≠ typeCipher ∨ !d.qReady q then d
    else if cipherMalformed e then d.endWith q e.index Code.malformed 0
    else d.onData q e a (fun d => d.submitCipher q e)

/-- R331. -/
def execCipher (queue : Nat) (answer : HostAnswer) (s : State) : Host.Outcome State Fault Refusal :=
  s.become (s.dev.cipherEntry queue answer)

/-- The job of a CIPHER entry ends: its output is placed under the checks of R334, and the entry completes. -/
def Dev.cipherEnd (d : Dev) (q idx qgen code : Nat) (stamp : Stamp) (out : List Byte) : Dev :=
  match d.entry q idx with
  | none => d.discardLate q stamp
  | some e =>
    if e.qgen ≠ qgen ∨ (d.queue q).qgen ≠ qgen ∨ e.ended.isSome then d.discardLate q stamp
    else
      let outs := e.frags.drop e.nin
      let fresh := d.qManager q || d.deliverable (d.qSlice q) (d.queue q).incarnation (d.qStamp q)
      let d1 := if fresh then d.scatterBytes q (fragSpans outs 0 out.length) out else d
      d1.endWith q idx code out.length

/-! ## Lehr jobs (R179) -/

/-- Return a job to its submitter; one that STOP or RESET stopped has no further result (R327). -/
def Dev.deliverJob (d : Dev) (j : LehrJob) (code : Nat) (out : List Byte) : Dev :=
  match j.src with
  | .cipher q idx qgen => if code = Code.aborted then d else d.cipherEnd q idx qgen code j.stamp out
  | .sxp tag => d.setSxp { d.sxp with done := d.sxp.done ++ [(tag, code, out)] }
  | .sto wire off => d.stoJobEnd wire off code out

/-- LEHG checks the oldest submitted job; one it refuses is returned with its code. -/
def Dev.lehrSubmit (d : Dev) : Dev :=
  let r := d.checkSubmitted
  match r.1 with
  | some (j, code) => r.2.deliverJob j code []
  | none => r.2

/-- R179, R193. -/
def execLehrJobSubmit (s : State) : Host.Outcome State Fault Refusal := s.become s.dev.lehrSubmit

/-- A job ends. -/
def Dev.lehrEnd (d : Dev) (n : Nat) (failed : Option Nat) : Dev :=
  let r := d.takeEnded n failed
  match r.1 with
  | some (j, code, out) => r.2.deliverJob j code out
  | none => r.2

/-- R179-R181, R194. -/
def execLehrJobEnd (job : Nat) (failed : Option Nat) (s : State) : Host.Outcome State Fault Refusal :=
  s.become (s.dev.lehrEnd job failed)

end Sys2Proof.Machine
end

