-- ==== Sys2Proof/Machine/Slices.lean ====
section
/-!
DEFINITION. Tenant slices (chapter 12): charters and their log (R301-R303), the SLC operation port (R305-R308, R314), quarantine
(R309), the TDI of a slice (R304, R310), and the wire counters of the status page (R313).
-/

namespace Sys2Proof.Machine

/-! ## Charter images (R301) -/

/-- The highest value of each bit range that a charter image may hold: (word, low bit, width, highest value); a width of 0 ends
no range. -/
def charterReserved (w : List Nat) : Bool :=
  bitAt (nth w 0) 31 || bits (nth w 1) 20 12 != 0 || bits (nth w 2) 16 16 != 0 || bits (nth w 3) 11 21 != 0
    || bits (nth w 4) 16 16 != 0 || bits (nth w 6) 27 5 != 0 || bits (nth w 7) 21 11 != 0 || bits (nth w 8) 14 18 != 0
    || nth w 9 != 0 || (w.drop 17).any (· != 0)

/-- Every manager field is in range. -/
def charterInRange (w : List Nat) : Bool :=
  decide (bits (nth w 3) 0 11 ≤ 1024) && bits (nth w 4) 0 16 != 0 && decide (bits (nth w 6) 0 27 ≤ 67108864)
    && decide (bits (nth w 7) 0 21 ≤ 1048576) && decide (bits (nth w 8) 0 14 ≤ 8192)

/-- The image is well formed for slice `s` (R305). -/
def charterGood (s : Nat) (w : List Nat) : Bool :=
  bits (nth w 0) 0 8 == 1 && !charterReserved w && bits (nth w 0) 8 12 == s && charterInRange w

def charterPort (w : List Nat) : Nat := bits (nth w 0) 28 1
def charterPasid (w : List Nat) : Nat := bits (nth w 1) 0 20

/-- The image as SLC holds it: INCARNATION and SEQ are hardware's. -/
def charterStored (w : List Nat) (inc seq : Nat) : List Word :=
  (((w.take 32).set 0 (setBits (nth w 0) 20 8 inc)).set 16 seq).map (BitVec.ofNat 32)

/-- No other slice that is not FREE on the port uses the PASID (R305). -/
def Dev.pasidFree (d : Dev) (s port pasid : Nat) : Bool :=
  d.slices.all (fun e => e.1 == s || e.2.state == .free || e.2.hostPort != port || e.2.pasid != pasid)

/-- SLC_COUNT and SLC_QUAR (R314). -/
def Dev.showSlices (d : Dev) : Dev :=
  (d.fset Page.slc Reg.SLC_COUNT_CNT (d.slices.countP (fun e => e.2.state != .free))).fset Page.slc Reg.SLC_QUAR_CNT
    (d.slices.countP (fun e => e.2.state == .destroying || e.2.state == .quarantine))

/-- Welbor's log of a change (R302): DIGEST of the image, CHAIN over the last CHAIN, and the last 16 images, newest first. -/
def Slice.logged (v : Slice) (img : List Word) (seq : Nat) : Slice :=
  let dg := sha384 (wordBytes img)
  { v with digest := dg
           chain := sha384 (cut (if seq = 1 then [] else v.chain) 0 48 ++ dg)
           images := (img :: (if seq = 1 then [] else v.images)).take 16 }

/-- Drop the translations of a slice's PASID on a host port (R306, R308). -/
def Dev.dropPasid (d : Dev) (port pasid : Nat) : Dev :=
  let h := d.hostPort port
  d.setHostPort port { h with atc := h.atc.filter (fun t => !(t.pf == 1 && t.pasid == pasid)) }

/-- The slice's interrupt entries read VALID = 0 and MASK = 1. -/
def Dev.clearSit (d : Dev) (s : Nat) : Dev := { d with sit := d.sit.filter (fun e => e.1 / 16 != s) }

/-! ## The TDI -/

/-- The TDI of a slice changes (R304): event 86, and slice interrupt 15 except for the change that DESTROY makes; queues of a TDI
in ERROR halt (R285). -/
def Dev.setTdi (d : Dev) (s : Nat) (t : TdiState) (raise : Bool) : Dev :=
  let v := d.slice s
  if v.tdi = t then d
  else
    let d1 := (d.setSlice s { v with tdi := t, stream := if t = .locked ∨ t = .run then v.stream else none }).pulse 86
    let d2 := if raise then d1.sliceInterrupt s 15 v.incarnation else d1
    if t = .error then d2.haltQueues (fun q => !d2.qManager q && d2.qSlice q == s) else d2

/-! ## Operations (R305-R308) -/

/-- CREATE. -/
def Dev.sliceCreate (d : Dev) (s : Nat) (w : List Nat) : Nat × Dev :=
  let v := d.slice s
  let code := firstFailure [(v.state == .free, Code.access), (charterGood s w, Code.malformed),
    (charterPort w == 0 || d.split, Code.malformed), (d.pasidFree s (charterPort w) (charterPasid w), Code.resource)]
  if code ≠ Code.ok then (code, d)
  else
    let img := charterStored w v.incarnation 1
    let v1 : Slice := ({
      state := .active
      incarnation := v.incarnation
      charter := img
      inflight := v.inflight
      tblUsed := v.tblUsed
      keyUsed := v.keyUsed
      queuesUsed := v.queuesUsed } : Slice).logged img 1
    (Code.ok, ((((d.clearSit s).setSlice s v1).openChannel s).showSlices).pulse 81)

/-- The binding fields (R301). -/
def bindingFields (w : List Nat) : List Nat := [setBits (nth w 0) 20 8 0, nth w 1, nth w 2]

/-- Every queue of the slice is idle: none is in another state than FREE and IDLE. -/
def Dev.queuesIdle (d : Dev) (s : Nat) : Bool :=
  d.queues.all (fun e => e.2.state == .free || e.2.state == .idle || d.qManager e.1 || d.qSlice e.1 != s)

/-- A quota that is lowered leaves use above it (R307). -/
def Dev.lowered (d : Dev) (s : Nat) (old new : List Nat) : Bool :=
  let v := d.slice s
  [(3, 11, v.queuesUsed), (6, 27, v.tblUsed), (7, 21, v.keyUsed), (8, 14, d.cellsInUse s)].any (fun q =>
    let a := bits (nth old q.1) 0 q.2.1
    let b := bits (nth new q.1) 0 q.2.1
    decide (b < a) && decide (b < q.2.2))

/-- MODIFY. -/
def Dev.sliceModify (d : Dev) (s : Nat) (w : List Nat) : Nat × Dev :=
  let v := d.slice s
  let old := v.charter.map (·.toNat)
  let moves := charterPort w != v.hostPort || charterPasid w != v.pasid
  let form := [(v.state == .active, Code.access), (charterGood s w, Code.malformed), (charterPort w == 0 || d.split, Code.malformed)]
  let barred := v.isLocked && bindingFields w != bindingFields old
  let code := firstFailure (form ++ [(!barred, Code.access),
    (!moves || d.queuesIdle s, Code.access),
    (d.pasidFree s (charterPort w) (charterPasid w), Code.resource)])
  if code ≠ Code.ok then (code, if firstFailure form = Code.ok ∧ barred then d.confRefused s else d)
  else
    let img := charterStored w v.incarnation (v.seq + 1)
    let d1 := if moves then d.dropPasid v.hostPort v.pasid else d
    let d2 := d1.setSlice s ({ v with charter := img }.logged img (v.seq + 1))
    let d3 := if d.lowered s old w then d2.pulse 87 else d2
    (Code.ok, d3.sliceInterrupt s 15 v.incarnation)

/-- Reset a queue of a destroyed slice, and destroy it once IDLE (R308). -/
def Dev.endQueue (d : Dev) (q : Nat) : Dev :=
  match (d.queue q).state with
  | .free | .resetting => d
  | .idle => (d.resetQueue q).teardownQueue q
  | .run | .error => d.beginStop q .resetting
  | .stopping => (d.setQState q .resetting).settle q
  | .halted => d.resetQueue q

/-- The queues of a slice. -/
def Dev.queuesOf (d : Dev) (s : Nat) : List Nat :=
  (d.queues.filter (fun e => e.2.state != .free && !d.qManager e.1 && d.qSlice e.1 == s)).map (·.1)

/-- Welbor retires every key slot of a slice (R308, R190). -/
def Dev.retireKeys (d : Dev) (s : Nat) : Dev :=
  (d.lehr.keys.map (·.1)).foldl (fun (d : Dev) k =>
    let v := d.keySlot k
    if v.state = 1 ∧ !v.mgr ∧ v.owner = s then d.keyRetire k else d) d

/-- The image that Welbor logs for DESTROY (R308). -/
def destroyImage (s inc seq : Nat) : List Word :=
  ((List.replicate 32 0).set 0 (1 + s * 2 ^ 8 + inc * 2 ^ 20)).set 16 seq |>.map (BitVec.ofNat 32)

/-- DESTROY: the state changes at once, and teardown begins. -/
def Dev.sliceDestroy (d : Dev) (s : Nat) : Nat × Dev :=
  let v := d.slice s
  if v.state ≠ .active then (Code.access, d)
  else
    let v1 := { v with state := .destroying, incarnation := (v.incarnation + 1) % 256
                       keysRetired := false, firmwareDone := false, destroyedAt := d.now }.logged (destroyImage s v.incarnation (v.seq + 1)) (v.seq + 1)
    let d1 := (d.setSlice s v1).dropPasid v.hostPort v.pasid
    let d2 := if v.isLocked then d1.setTdi s .error false else d1
    let d3 := (d2.pulse 82).showSlices
    let d4 := ((((d3.queuesOf s).foldl Dev.endQueue d3).retireKeys s).clearSit s).emptyChannel s
    (Code.ok, (d4.setSlice s { d4.slice s with keysRetired := true }).endTeardown s)

/-- Event 84 for a change that returns OK (R314), then the port's outcome. -/
def Dev.charterChanged (r : Nat × Dev) : Nat × Dev := if r.1 = Code.ok then (r.1, r.2.pulse 84) else r

/-- READ: the charter to SLC_OPRES0-31. -/
def Dev.sliceRead (d : Dev) (s : Nat) : Dev :=
  (List.range 32).foldl (fun (d : Dev) i =>
    d.wr (Page.slc + Reg.SLC_OPRES_DATA.off + 4 * i) (((d.slice s).charter).getD i 0#32)) d

def slcSlice (o : PortOp) : Nat := bits o.word 0 12

/-- R305. -/
def execSlcCreate (s : State) : Host.Outcome State Fault Refusal :=
  s.become (s.dev.portExec portSlc 1 (fun d o => Dev.charterChanged (d.sliceCreate (slcSlice o) (o.buf.map (·.toNat)))))

/-- R307. -/
def execSlcModify (s : State) : Host.Outcome State Fault Refusal :=
  s.become (s.dev.portExec portSlc 2 (fun d o => Dev.charterChanged (d.sliceModify (slcSlice o) (o.buf.map (·.toNat)))))

/-- R308. -/
def execSlcDestroy (s : State) : Host.Outcome State Fault Refusal :=
  s.become (s.dev.portExec portSlc 3 (fun d o => Dev.charterChanged (d.sliceDestroy (slcSlice o))))

/-- R314. -/
def execSlcRead (s : State) : Host.Outcome State Fault Refusal :=
  s.become (s.dev.portExec portSlc 4 (fun d o => (Code.ok, d.sliceRead (slcSlice o))))

/-! ## Teardown and quarantine -/

/-- Firmware reports its steps of a teardown done (R308). -/
def Dev.firmwareDone (d : Dev) (s : Nat) : Dev :=
  let v := d.slice s
  if v.state = .destroying then (d.setSlice s { v with firmwareDone := true }).endTeardown s else d

/-- R308. -/
def execTeardownComplete (slice : Nat) (s : State) : Host.Outcome State Fault Refusal := s.become (s.dev.firmwareDone slice)

/-- The conditions under which a slice leaves QUARANTINE (R309). -/
def Dev.quarantineOver (d : Dev) (v : Slice) : Bool :=
  v.state == .quarantine && v.inflight == 0 && v.tblUsed == 0 && v.keyUsed == 0 && v.queuesUsed == 0
    && decide (v.destroyedAt + d.fget Page.slc Reg.SLC_QUAR_MIN_MS * 1000000 ≤ d.now)

/-- The end of quarantine (R309).  The wire counters stay until the ID's next CREATE (R261). -/
def Dev.endQuarantine (d : Dev) (s : Nat) : Dev :=
  let v := d.slice s
  if d.quarantineOver v then
    ((d.setSlice s { incarnation := v.incarnation, mgrWire := v.mgrWire, tenantWire := v.tenantWire }).showSlices).pulse 83
  else d

/-- R309. -/
def execQuarantineEnd (slice : Nat) (s : State) : Host.Outcome State Fault Refusal := s.become (s.dev.endQuarantine slice)

/-! ## Status page (R313) -/

/-- Counter `k` of a record: 0 TXF, 1 TXB, 2 RXF, 3 RXB. -/
def WireCounters.nth (c : WireCounters) (k : Nat) : Nat :=
  match k with
  | 0 => c.txf
  | 1 => c.txb
  | 2 => c.rxf
  | _ => c.rxb

def WireCounters.put (c : WireCounters) (k v : Nat) : WireCounters :=
  match k with
  | 0 => { c with txf := v }
  | 1 => { c with txb := v }
  | 2 => { c with rxf := v }
  | _ => { c with rxb := v }

/-- A read of a _LO register: the low word; the tenant copy clears and the high word is latched. -/
def Dev.readLo (d : Dev) (s k : Nat) (m : Nat := 0xFFFFFFFF) : Dev :=
  let v := d.slice s
  let n := v.tenantWire.nth k
  (d.setSlice s { v with tenantWire := v.tenantWire.put k 0, hiLatch := v.hiLatch.put k (bits n 32 32) }).emit
    (.readData (BitVec.ofNat 32 (n &&& m)))

/-- R313. -/
def execSliceCounterLoRead (slice counter : Nat) (s : State) : Host.Outcome State Fault Refusal :=
  s.become (if counter < 4 ∧ (s.dev.slice slice).state = .active then s.dev.readLo slice counter else s.dev)

/-- A TDI state as SLC_S_ID shows it. -/
def TdiState.num : TdiState → Nat
  | .unlocked => 0 | .locked => 1 | .run => 2 | .error => 3

def SliceState.num : SliceState → Nat
  | .free => 0 | .active => 1 | .destroying => 2 | .quarantine => 3

/-- A status register without a side effect. -/
def Dev.sliceStatus (d : Dev) (s off : Nat) : Nat :=
  let v := d.slice s
  let id := b2n v.isLocked * 2 ^ 31 + v.tdi.num * 2 ^ 28 + v.incarnation * 2 ^ 16 + s
  let low := [id, v.seq, v.queueBudget + v.queuesUsed * 2 ^ 16, v.tableQuota, v.tblUsed, v.keyQuota, v.keyUsed, v.lehrCells,
    v.weight, v.maxRate]
  if off < 0x28 then low.getD (off / 4) 0
  else if 0x40 ≤ off ∧ off < 0x60 ∧ off % 8 = 4 then v.hiLatch.nth ((off - 0x40) / 8)
  else 0

/-- Wide value 0x1000 + s of SLC (R315). -/
def Dev.sliceWide (d : Dev) (s : Nat) : Nat :=
  let v := d.slice s
  v.state.num + v.tdi.num * 2 ^ 2 + v.incarnation * 2 ^ 8 + v.inflight * 2 ^ 32 + v.tblUsed * 2 ^ 64 + v.keyUsed * 2 ^ 96
    + v.queuesUsed * 2 ^ 117

end Sys2Proof.Machine
end

