-- ==== Sys2Proof/Machine/HostLink.lean ====
section
/-!
DEFINITION. The host link (chapter 11): links (R296), functions (R277, R296), translations and page requests (R282, R283),
answers to reads (R295), slice windows (R278, R279), slice interrupt entries (R287-R289), MSI-X (R286), IDE streams and
TDISP (R284, R285, R310).
-/

namespace Sys2Proof.Machine

/-! ## Link and functions -/

/-- Whether host port `n` exists (R275). -/
def Dev.portExists (d : Dev) (n : Nat) : Bool := n == 0 || (n == 1 && d.split)

/-- The speeds, widths and modes at which a link can come up (R274). -/
def Dev.linkGood (d : Dev) (speed width : Nat) (flit : Bool) : Bool :=
  decide (1 ≤ speed) && decide (speed ≤ 6) && [1, 2, 4, 8, 16].contains width && !(width == 16 && d.split)
    && (flit || decide (speed < 6)) && (!flit || decide (3 ≤ speed))

/-- The data link comes up (R296); HIF_LINK shows it at the next edge of the service clock (R38, R297): not while PERST# is asserted or the HIF domain is off. -/
def Dev.linkUp (d : Dev) (n speed width : Nat) (flit : Bool) : Dev :=
  let h := d.hostPort n
  if !d.portExists n ∨ h.linkUp ∨ bitAt d.pwr.perst n ∨ !d.domainOn 2 ∨ !d.linkGood speed width flit then d
  else
    (d.setHostPort n { h with linkUp := true, l1 := false, speed := speed, width := width, flit := flit }).pulse 66

/-- R296. -/
def execLinkUp (port speed width : Nat) (flit : Bool) (s : State) : Host.Outcome State Fault Refusal :=
  s.become (s.dev.linkUp port speed width flit)

/-- What the loss of a link leaves (R296, R416): outstanding requests abandoned, every queue of the port halted. -/
def Dev.dropLink (d : Dev) (n : Nat) : Dev :=
  let d1 := d.setHostPort n { d.hostPort n with
    linkUp := false, l1 := false, speed := 0, width := 0, flit := false, pageRequests := [], invalidations := [] }
  d1.haltQueues (fun q => d1.qPort q == n)

/-- Loss or containment of the link (R296). -/
def Dev.linkDown (d : Dev) (n : Nat) : Dev :=
  if (d.hostPort n).linkUp then ((d.dropLink n).latchFault (Page.hif n) FaultBit.hif_LINK_LOST).pulse 66 else d

/-- R296. -/
def execLinkDown (port : Nat) (s : State) : Host.Outcome State Fault Refusal := s.become (s.dev.linkDown port)

/-- The configuration space of a function as a reset of the function leaves it: in D0, ATS and Page Request disabled, nothing held
by its page requests; for PF0 the MSI-X table too. -/
def HostPort.resetFunction (h : HostPort) (pf : Nat) : HostPort :=
  let h1 := { (h.setFn pf {}) with
    atc := h.atc.filter (fun t => t.pf != pf), invalidations := h.invalidations.filter (fun t => t.pf != pf)
    pageRequests := h.pageRequests.filter (fun e => e.1 / 512 != pf) }
  if pf = 0 then { h1 with msix := [], functionMask := false } else h1

/-- A Function Level Reset (R296): the function's configuration and its queues. -/
def Dev.resetFunction (d : Dev) (n pf : Nat) : Dev :=
  if !d.portExists n ∨ 1 < pf ∨ !(d.hostPort n).linkUp then d
  else
    let d1 := d.setHostPort n ((d.hostPort n).resetFunction pf)
    let d2 := d1.haltQueues (fun q => d1.qPort q == n && (d1.qManager q == (pf == 0)))
    (d2.latchFault (Page.hif n) FaultBit.hif_FLR).pulse (72 + pf)

/-- R296. -/
def execFunctionLevelReset (port pf : Nat) (s : State) : Host.Outcome State Fault Refusal :=
  s.become (s.dev.resetFunction port pf)

/-- A function moves to D3hot or to D0 (R277). -/
def Dev.setD3 (d : Dev) (n pf : Nat) (d3 : Bool) : Dev :=
  if !d.portExists n ∨ 1 < pf then d else d.modFn n pf (fun f => { f with d3 := d3 })

/-- R277. -/
def execPciPowerStateChange (port pf : Nat) (d3 : Bool) (s : State) : Host.Outcome State Fault Refusal :=
  s.become (s.dev.setD3 port pf d3)

/-! ## MSI-X -/

/-- Send a pending message of a vector that nothing masks any more (R286). -/
def Dev.msixFlush (d : Dev) (n v : Nat) : Dev :=
  let h := d.hostPort n
  let e := h.msixEntry v
  if e.pending ∧ !e.masked ∧ !h.functionMask ∧ d.hostReady n then
    ((d.setHostPort n (h.setMsix v { e with pending := false })).wcount (Page.hif n) 3).emit (.msix n v e.addr e.data)
  else d

/-- Clear the mask of a vector, or the Function Mask; each pending bit sends one message (R286). -/
def Dev.msixUnmask (d : Dev) (n : Nat) (vector : Option Nat) : Dev :=
  let h := d.hostPort n
  match vector with
  | some v => if v < 2048 then (d.setHostPort n (h.setMsix v { h.msixEntry v with masked := false })).msixFlush n v else d
  | none => (h.msix.map (·.1)).foldl (fun (d : Dev) v => d.msixFlush n v) (d.setHostPort n { h with functionMask := false })

/-- R286. -/
def execMsixUnmask (port : Nat) (vector : Option Nat) (s : State) : Host.Outcome State Fault Refusal :=
  s.become (if s.dev.portExists port then s.dev.msixUnmask port vector else s.dev)

/-- Word `i` of vector `v`'s entry is written: address low and high, data, mask (R286). -/
def Dev.msixWrite (d : Dev) (n v i x : Nat) : Dev :=
  let h := d.hostPort n
  let e := h.msixEntry v
  match i with
  | 0 => d.setHostPort n (h.setMsix v { e with addr := setBits e.addr 0 32 (x / 4 * 4) })
  | 1 => d.setHostPort n (h.setMsix v { e with addr := setBits e.addr 32 32 x })
  | 2 => d.setHostPort n (h.setMsix v { e with data := x })
  | _ => if bitAt x 0 then d.setHostPort n (h.setMsix v { e with masked := true }) else d.msixUnmask n (some v)

/-! ## Configuration space (R274, R277, R280) -/

/-- Extended capability IDs of a function, in the order of its list (R280). -/
def extCaps (pf : Nat) : List Nat :=
  if pf = 0 then [0x01, 0x19, 0x26, 0x2A, 0x31, 0x32, 0x25, 0x27, 0x03, 0x0D, 0x2E, 0x0F, 0x13, 0x30]
  else [0x01, 0x03, 0x0D, 0x2E, 0x1B, 0x0F, 0x13]

/-- Where the model places the register block of extended capability `i` of a list, and which capability holds an offset (log
entry 8). -/
def extBase (i : Nat) : Nat := 0x100 + 0x40 * i
def extCapAt (pf off : Nat) : Option Nat := if off < 0x100 then none else (extCaps pf)[(off - 0x100) / 0x40]?

/-- BAR sizes in log2 of bytes, BAR0, BAR2, BAR4 (R277): 0, not implemented. -/
def barLog2 (pf : Nat) : List Nat := if pf = 0 then [24, 20, 16] else [28, 0, 0]

/-- A dword of an extended capability (R280). -/
def Dev.extCapWord (d : Dev) (port pf off : Nat) : Nat :=
  let f := (d.hostPort port).fn pf
  let i := (off - 0x100) / 0x40
  let o := off % 0x40
  match extCapAt pf off with
  | none => 0
  | some id =>
    if o = 0 then id + 2 ^ 16 + (if i + 1 < (extCaps pf).length then extBase (i + 1) else 0) * 2 ^ 20
    else match id with
      | 0x01 =>
        if o = 0x1C ∨ o = 0x20 ∨ o = 0x24 ∨ o = 0x28 then bits (nth f.aer.header ((o - 0x1C) / 4)) 0 32
        else [0, f.aer.unc, f.aer.uncMask, f.aer.uncSev, f.aer.cor, f.aer.corMask, f.aer.first.getD 0].getD (o / 4) 0
      | 0x03 => if o = 4 then (d.rd (Page.otp + Reg.OTP_SERIAL_LO_SERIAL.off)).toNat
          else if o = 8 then (d.rd (Page.otp + Reg.OTP_SERIAL_HI_SERIAL.off)).toNat else 0
      | 0x0D => if o = 4 then 7 + f.acs * 2 ^ 16 else 0
      | 0x0F => if o = 4 then 0x20 + b2n f.ats * 2 ^ 31 else 0
      | 0x13 => if o = 4 then b2n f.pri else if o = 8 ∨ o = 12 then 512 else 0
      | 0x1B => if o = 4 then 0x1400 + b2n f.pasid * 2 ^ 16 else 0
      | _ => 0

/-- A dword of the configuration space of a function (R277, R280). -/
def Dev.configWord (d : Dev) (port pf off : Nat) : Nat :=
  let h := d.hostPort port
  let f := h.fn pf
  if 0x100 ≤ off then d.extCapWord port pf off
  else if 0x10 ≤ off ∧ off < 0x28 then
    let i := (off - 0x10) / 8
    if nth (barLog2 pf) i = 0 then 0 else if off % 8 = 0 then bits (nth f.bars i) 0 32 + 4 else bits (nth f.bars i) 32 32
  else match off with
    | 0x00 => 0x1E7C + (0x1600 + pf) * 2 ^ 16
    | 0x04 => 0x100000
    | 0x08 => 0x11 + (if pf = 0 then 0x020000 else 0x028000) * 2 ^ 8
    | 0x0C => 0x800000
    | 0x2C => 0x1E7C + 0x0048 * 2 ^ 16
    | 0x34 => 0x40
    | 0x40 => 0x01 + 0x50 * 2 ^ 8 + 3 * 2 ^ 16
    | 0x44 => if f.d3 then 3 else 0
    | 0x50 => 0x10 + (if pf = 0 then 0x90 else 0) * 2 ^ 8 + 2 * 2 ^ 16
    | 0x54 => 2 + 2 ^ 28 + pf * 2 ^ 30
    | 0x58 => f.control
    | 0x90 => if pf = 0 then 0x11 + 2047 * 2 ^ 16 + b2n h.functionMask * 2 ^ 30 + 2 ^ 31 else 0
    | 0x94 => if pf = 0 then 4 else 0
    | 0x98 => if pf = 0 then 0x8004 else 0
    | _ => 0

/-- A write of a dword of an extended capability of a function; status bits clear by writing 1. -/
def PciFunction.extWrite (f : PciFunction) (pf off v : Nat) : PciFunction :=
  let a := f.aer
  match extCapAt pf off, off % 0x40 with
  | some 0x01, 4 =>
    let first := match a.first with
      | some b => if bitAt v b then none else some b
      | none => none
    { f with aer := { a with unc := without a.unc v, first := first } }
  | some 0x01, 8 => { f with aer := { a with uncMask := v } }
  | some 0x01, 12 => { f with aer := { a with uncSev := v } }
  | some 0x01, 16 => { f with aer := { a with cor := without a.cor v } }
  | some 0x01, 20 => { f with aer := { a with corMask := v } }
  | some 0x0D, 4 => { f with acs := bits v 16 3 }
  | some 0x0F, 4 => { f with ats := bitAt v 31 }
  | some 0x13, 4 => { f with pri := bitAt v 0 }
  | some 0x1B, 4 => { f with pasid := bitAt v 16 }
  | _, _ => f

/-- A write of a dword of the configuration space of a function, `m` its enabled bytes: BARs, Device Control, the MSI-X Function
Mask, and the registers of extended capabilities. -/
def Dev.configWrite (d : Dev) (port pf off v m : Nat) : Dev :=
  let h := d.hostPort port
  let status := extCapAt pf off = some 0x01 ∧ (off % 0x40 = 4 ∨ off % 0x40 = 16)
  let w := if status then v &&& m else without (d.configWord port pf off) m + (v &&& m)
  if 0x100 ≤ off then d.modFn port pf (fun f => f.extWrite pf off w)
  else if 0x10 ≤ off ∧ off < 0x28 then
    let i := (off - 0x10) / 8
    let n := nth (barLog2 pf) i
    if n = 0 then d
    else d.modFn port pf (fun f =>
      let b := if off % 8 = 0 then setBits (nth f.bars i) 0 32 w else setBits (nth f.bars i) 32 32 w
      { f with bars := f.bars.set i (b / 2 ^ n * 2 ^ n) })
  else if off = 0x58 then d.modFn port pf (fun f => { f with control := bits w 0 15 })
  else if off = 0x90 ∧ pf = 0 ∧ bitAt m 30 then
    if bitAt w 30 then d.setHostPort port { h with functionMask := true } else d.msixUnmask port none
  else d

/-! ## Reads that are outstanding (R276) -/

/-- The function that issues a read, and its attributes. -/
def Dev.readAttr (d : Dev) (t : ReadTarget) : ReqAttr :=
  match t with
  | .fetch q => d.qAttr q false
  | .entry q _ => d.qAttr q true
  | .mover m => d.moverAttr (d.mover m).control
  | .wire n => match d.wire n with
    | some w => if w.op = 0 then d.sesAttr w.session else d.qAttr w.queue true
    | none => {}

/-- The spans of host memory that an outstanding read reads. -/
def Dev.readSpans (d : Dev) (t : ReadTarget) : List (Nat × Nat) :=
  match t with
  | .fetch q => [(d.sqBase q + (d.queue q).sqCi % d.sqSize q * 64, 64)]
  | .entry q idx => ((d.entry q idx).map (·.spans)).getD []
  | .mover m =>
    let st := d.mover m
    let left := d.fget (Page.blp m) Reg.BLP_REMAIN_BYTES
    [(st.src + st.len - left, left)]
  | .wire n => ((d.wire n).map d.wireSpans).getD []

/-- What tells a read of a target from a later one of the same target. -/
def Dev.readMark (d : Dev) (t : ReadTarget) : Nat :=
  match t with
  | .fetch q => (d.queue q).sqCi
  | .mover m => d.fget (Page.blp m) Reg.BLP_REMAIN_BYTES
  | _ => 0

/-- The reads outstanding on a host port, at most 4096: the next entry of each queue that has one, the data of entries and wire
commands whose work has not begun, bursts of movers. -/
def Dev.readsOn (d : Dev) (n : Nat) : List ReadTarget :=
  let queues := (d.queues.map (·.1)).filter (fun q => d.qPort q == n)
  let fetches := (queues.filter (fun q => (d.queue q).state == .run && (d.queue q).sqPi != (d.queue q).sqCi)).map ReadTarget.fetch
  let entries := queues.flatMap (fun q => ((d.queue q).entries.filter (fun e =>
    !e.started && e.ended.isNone && (e.opcode == 0x01 || e.opcode == 0x20))).map (fun e => ReadTarget.entry q e.index))
  let wires := ((d.sto.wires.map (·.1)).filter (fun k => match d.wire k with
    | some w => w.phase == .start && (w.op == 0x31 || w.op == 0) && !w.orphan && d.wirePort w == n
    | none => false)).map ReadTarget.wire
  let movers := ((d.movers.map (·.1)).filter (fun m => (d.mover m).fetched && d.moverSource (d.mover m).control == some n)).map
    ReadTarget.mover
  if (d.hostPort n).linkUp then ((fetches ++ entries ++ wires ++ movers).filter (fun t => !d.heldByPrg n t)).take 4096 else []

/-- Whether a read for this target can be outstanding on the port. -/
def Dev.readOpen (d : Dev) (n : Nat) (t : ReadTarget) : Bool := (d.readsOn n).contains t

/-! ## Translations and page requests -/

/-- Whether an invalidation covers a cached translation (R282). -/
def Invalidation.covers (v : Invalidation) (t : Translation) : Bool :=
  t.pf == v.pf && t.pasid == v.pasid && t.page / 2 ^ v.log2 == v.page / 2 ^ v.log2

/-- The outstanding reads that were issued under the cached entries an invalidation covers. -/
def Dev.readsUnder (d : Dev) (n : Nat) (v : Invalidation) : List (ReadTarget × Nat) :=
  let gone := (d.hostPort n).atc.filter v.covers
  ((d.readsOn n).filter (fun t =>
    let a := d.readAttr t
    a.pf == v.pf && a.pasid.getD 0 == v.pasid
      && (d.readSpans t).any (fun s => (pagesOfSpan s.1 s.2).any (fun p => gone.any (fun g => g.page == p))))).map
    (fun t => (t, d.readMark t))

/-- An Invalidation Request (R282): matching entries are no longer used, the request counts and pulses event 69. -/
def Dev.invalidate (d : Dev) (n : Nat) (v : Invalidation) : Dev :=
  let h := d.hostPort n
  if !h.linkUp then d
  else
    let d1 := d.setHostPort n { h with
      atc := h.atc.filter (fun t => !v.covers t), invalidations := h.invalidations ++ [{ v with reads := d.readsUnder n v }] }
    (d1.count (Page.hif n) Reg.HIF_ATS_INV_CNT_CNT).pulse 69

/-- The run of ones at the bottom of a number, `fuel` at most. -/
def lowOnes : Nat → Nat → Nat
  | 0, _ => 0
  | fuel + 1, n => if n % 2 = 0 then 0 else lowOnes fuel (n / 2) + 1

/-- R282.  `range` is bits [63:11] of the request's address: the page, above the S bit.  S = 0 names one page; otherwise the lowest 0
bit of the page gives the size of the range (PRESUMED: the Address Translation Services encoding, log entry 117). -/
def execAtsInvalidationRequest (port pf pasid range : Nat) (s : State) : Host.Outcome State Fault Refusal :=
  s.become (s.dev.invalidate port { pf := pf, pasid := pasid, page := range / 2, log2 := lowOnes 53 range })

/-- The Invalidation Completion of the oldest invalidation (R282), once every request issued under a matching entry has completed
or timed out. -/
def Dev.completeInvalidation (d : Dev) (n : Nat) : Dev :=
  let h := d.hostPort n
  match h.invalidations with
  | [] => d
  | v :: rest =>
    if v.reads.any (fun r => d.readOpen n r.1 && d.readMark r.1 == r.2) then d
    else (d.setHostPort n { h with invalidations := rest }).emit (.pcie 2 n v.page)

/-- R282. -/
def execAtsInvalidationComplete (port : Nat) (s : State) : Host.Outcome State Fault Refusal :=
  s.become (s.dev.completeInvalidation port)

/-- The effect of a failed read on what it was issued for, movers included (R283, R295, R349). -/
def Dev.failTarget (d : Dev) (t : ReadTarget) (fetchCode endCode moverCode : Nat) : Dev :=
  match t with
  | .mover m => if (d.mover m).fetched then d.moverFail m moverCode else d
  | .wire n => match d.wire n with
    | some w => if w.phase = .start then d.failWire n w endCode 0 else d
    | none => d
  | t => d.failRead t fetchCode endCode

/-- Take the page request of a group: what it holds, and the port without it. -/
def Dev.takeGroup (d : Dev) (n group : Nat) : Option (ReadTarget × Dev) :=
  let h := d.hostPort n
  match h.pageRequests.find? (fun e => e.1 == group) with
  | none => none
  | some e => some (e.2, d.setHostPort n { h with pageRequests := h.pageRequests.filter (fun e => e.1 != group) })

/-- A PRG response (R283): the held read may be issued again, or it fails with ACCESS; a response to an unknown group is
discarded. -/
def Dev.groupResponse (d : Dev) (n group : Nat) (success : Bool) : Dev :=
  match d.takeGroup n group with
  | none => d
  | some (t, d1) =>
    if success then d1
    else (d1.failTarget t QErr.fetchAccess Code.access MoverErr.hostAccess).pageFailed n

/-- R283. -/
def execPrgResponse (port group : Nat) (success : Bool) (s : State) : Host.Outcome State Fault Refusal :=
  s.become (s.dev.groupResponse port group success)

/-- No response within HIF_PRI_TO (R283). -/
def Dev.groupTimeout (d : Dev) (n group : Nat) : Dev :=
  match d.takeGroup n group with
  | none => d
  | some (t, d1) => (d1.failTarget t QErr.fetchTimeout Code.timeout MoverErr.hostTimeout).pageFailed n

/-- R283. -/
def execPageRequestTimeout (port group : Nat) (s : State) : Host.Outcome State Fault Refusal :=
  s.become (s.dev.groupTimeout port group)

/-- A completion times out (R295). -/
def Dev.readTimeout (d : Dev) (n : Nat) (t : ReadTarget) : Dev :=
  if d.readOpen n t then (d.failTarget t QErr.fetchTimeout Code.timeout MoverErr.hostTimeout).noteTimeout n (d.readAttr t).pf
  else d

/-- R295. -/
def execCompletionTimeout (port : Nat) (target : ReadTarget) (s : State) : Host.Outcome State Fault Refusal :=
  s.become (s.dev.readTimeout port target)

/-- A read completion arrives (R283, R295): good data is used by the work that asked for it. -/
def Dev.readCompletion (d : Dev) (n : Nat) (t : ReadTarget) (answer : HostAnswer) : Dev :=
  if !d.readOpen n t then d
  else
    match answer with
    | .data => (match t with
      | .fetch q => d.fetchEntry q .data
      | .mover m => d.issueBurst m true .data
      | .wire k => d.issueWire k .data
      | .entry q idx =>
        let op := if d.qType q = typeCipher then 0x20 else 0x01
        if (d.nextEntry q op).map (·.index) ≠ some idx then d
        else if op = 0x20 then d.cipherEntry q .data else d.sendEntry q .data)
    | .notPresent =>
      d.notPresent n (d.readAttr t).pf t (fun d => d.failTarget t QErr.fetchAccess Code.access MoverErr.hostAccess)
    | .discarded e => d.linkError n e
    | .refused => d.failTarget t QErr.fetchAccess Code.access MoverErr.hostAccess
    | .timeout => d.readTimeout n t
    | .poisoned => (d.failTarget t QErr.fetchPoison Code.fault MoverErr.hostPoison).notePoison n (d.readAttr t).pf

/-- R295. -/
def execReadCompletionReceive (port : Nat) (target : ReadTarget) (answer : HostAnswer) (s : State) :
    Host.Outcome State Fault Refusal :=
  s.become (s.dev.readCompletion port target answer)

/-! ## Slice interrupt entries -/

/-- An operation on an entry that R288 refuses: the slice is not ACTIVE or belongs to the other port; WRITE and CLEAR on a
locked slice, which also counts (R311). -/
def Dev.sitOp (d : Dev) (n op : Nat) (f : Dev → Nat → Nat → List Word → Dev) : Dev :=
  d.portExec (portSit n) op (fun d o =>
    let sel := wordAt o.buf 0
    let s := bits sel 4 12
    let v := d.slice s
    if v.state ≠ .active ∨ v.hostPort ≠ n then (Code.access, d)
    else if v.isLocked ∧ op ≠ 3 then (Code.access, d.confRefused s)
    else (Code.ok, f d s (bits sel 0 4) o.buf))

/-- R288. -/
def execSitWrite (port : Nat) (s : State) : Host.Outcome State Fault Refusal :=
  s.become (s.dev.sitOp port 1 (fun d s e buf => d.setSit s e {
    addr := wordAt buf 1 / 4 * 4 + wordAt buf 2 * 2 ^ 32
    data := wordAt buf 3
    incarnation := (d.slice s).incarnation
    valid := true }))

/-- R288. -/
def execSitClear (port : Nat) (s : State) : Host.Outcome State Fault Refusal :=
  s.become (s.dev.sitOp port 2 (fun d s e _ => d.setSit s e { d.sitEntry s e with valid := false, pending := false }))

/-- R288. -/
def execSitRead (port : Nat) (s : State) : Host.Outcome State Fault Refusal :=
  s.become (s.dev.sitOp port 3 (fun d s e _ =>
    let v := d.sitEntry s e
    let p := Page.hif port
    ((d.wr (p + Reg.HIF_SIT_ADDR_LO_ADDR.off) (BitVec.ofNat 32 v.addr)).wr (p + Reg.HIF_SIT_ADDR_HI_ADDR.off)
      (BitVec.ofNat 32 (v.addr / 2 ^ 32))).wr (p + Reg.HIF_SIT_DATA_DATA.off) (BitVec.ofNat 32 v.data)))

/-- R289. -/
def execSliceInterruptRaise (slice entry stamp : Nat) (s : State) : Host.Outcome State Fault Refusal :=
  s.become (if slice < 4096 ∧ entry < 16 then s.dev.sliceInterrupt slice entry stamp else s.dev)

/-- The tenant writes MASK of an entry (R289): unmasking with PENDING sends one message. -/
def Dev.sitMask (d : Dev) (s e : Nat) (m : Bool) : Dev :=
  let v := d.sitEntry s e
  if !m ∧ v.pending then (d.setSit s e { v with mask := false, pending := false }).sitSend s v
  else d.setSit s e { v with mask := m }

/-- R289. -/
def execSitMaskWrite (slice entry : Nat) (mask : Bool) (s : State) : Host.Outcome State Fault Refusal :=
  s.become (if slice < 4096 ∧ entry < 16 ∧ (s.dev.slice slice).state = .active then s.dev.sitMask slice entry mask else s.dev)

/-- The words of an entry as the tenant reads them (R287). -/
def SitEntry.word (v : SitEntry) (i : Nat) : Nat :=
  match i with
  | 0 => bits v.addr 0 32 / 4 * 4
  | 1 => bits v.addr 32 32
  | 2 => v.data
  | _ => v.incarnation * 2 ^ 8 + b2n v.valid * 4 + b2n v.pending * 2 + b2n v.mask

/-! ## Slice windows (R278, R279) -/

/-- What becomes of a window access (R279): 0 applied, 1 refused as the second row, 2 refused as the fourth row. -/
def Dev.windowOutcome (d : Dev) (port slice rid : Nat) (stream : Option Nat) (tbit : Bool) : Nat :=
  let v := d.slice slice
  if v.state ≠ .active ∨ v.hostPort ≠ port ∨ (bitAt (v.word 0) 29 ∧ rid % 2 ^ 16 ≠ bits (v.word 2) 0 16) then 1
  else if v.tdi = .error then 2
  else if v.isLocked ∧ ¬ (tbit ∧ stream.isSome ∧ stream = v.stream) then 2
  else 0

/-- A write that is applied: `m` holds the bits of its enabled bytes (R29, R323). -/
def Dev.windowWrite (d : Dev) (port slice off rid w m : Nat) : Dev :=
  let o := off % 0x1000
  match off / 0x1000 with
  | 0 => if m = 2 ^ 32 - 1 then d.doorbellWrite port (some slice) (o / 4) w else d.dropDoorbell
  | 2 =>
    d.onMail (.manager port rid) (.tenant slice) o (fun d =>
      if m = 0 then d
      else if o < 0x40 then
        d.mailStage (.tenant slice) (o / 4) (without ((d.mailBox (.tenant slice)).tx.getD (o / 4) 0) m + (w &&& m))
      else if o = 0x40 then d.mailSend (.manager port rid) (.tenant slice) (some (d.slice slice).pasid)
      else if o = 0x48 then d.mailPop (.tenant slice)
      else d)
  | 3 => if o < 0x100 ∧ o % 16 = 12 ∧ bitAt m 0 then d.sitMask slice (o / 16) (bitAt w 0) else d
  | _ => d

/-- A read that is applied, answered with its enabled bytes (R29). -/
def Dev.windowRead (d : Dev) (port slice off rid m : Nat) : Dev :=
  let o := off % 0x1000
  let answer (n : Nat) (d : Dev) : Dev := d.emit (.readData (BitVec.ofNat 32 (n &&& m)))
  match off / 0x1000 with
  | 0 => answer (d.doorbellValue port (some slice) (o / 4)) d
  | 1 => if 0x40 ≤ o ∧ o < 0x60 ∧ o % 8 = 0 then d.readLo slice ((o - 0x40) / 8) m else answer (d.sliceStatus slice o) d
  | 2 =>
    if d.domainOn 0 then (answer (d.mailReg (.tenant slice) o) d).mailClear (.tenant slice) o
    else (((d.aerError port 1 AerBit.completerAbort true [slice * 0x10000 + off, rid]).accessError (.manager port rid) (0x2000 + o)
      false 2).pulse 493).emit (.abort false)
  | 3 => answer (if o < 0x100 then (d.sitEntry slice (o / 16)).word (o % 16 / 4) else 0) d
  | _ => answer 0 d

/-- Whether a TLP arrives on a stream that has become Insecure (R284): stream 0 is the link stream, which carries what is on no
selective stream. -/
def Dev.onInsecure (d : Dev) (port : Nat) (stream : Option Nat) : Bool := (d.hostPort port).ideState (stream.getD 0) == .insecure

/-- A window access (R279): to a port whose link is up and whose PF1 is not in D3hot; a TLP on an Insecure stream is discarded
(R284). -/
def Dev.windowAccess (d : Dev) (port slice off rid : Nat) (write : Bool) (w m : Nat) (stream : Option Nat) (tbit : Bool) : Dev :=
  if !d.fnReady port 1 ∨ d.onInsecure port stream ∨ 4095 < slice ∨ 0xFFFF < off then d
  else
    let o := off / 4 * 4
    match d.windowOutcome port slice rid stream tbit with
    | 0 => if write then d.windowWrite port slice o rid w m else d.windowRead port slice o rid m
    | 1 =>
      let d1 := d.count (Page.hif port) Reg.HIF_UR_CNT_CNT
      if write then d1 else d1.emit (.readData 0#32)
    | _ =>
      let d1 := (((d.count (Page.hif port) Reg.HIF_TEE_REJ_CNT_CNT).confRefused slice).pulse 71).aerError port 1 AerBit.unsupported (!write)
        [slice * 0x10000 + off, rid]
      if write then d1 else d1.emit .unsupported

/-- R279. -/
def execSliceWindowAccess (port slice offset rid : Nat) (write : Bool) (value : Word) (be : BitVec 4) (stream : Option Nat)
    (tbit : Bool) (s : State) : Host.Outcome State Fault Refusal :=
  s.become (s.dev.windowAccess port slice offset rid write value.toNat (byteMask be) stream tbit)

/-! ## IDE and TDISP -/

/-- An integrity failure on a stream (R284). -/
def Dev.ideFailure (d : Dev) (n st : Nat) : Dev :=
  let h := d.hostPort n
  if h.ideState st ≠ .secure then d
  else
    let d1 := ((d.setHostPort n (h.setIde st .insecure)).latchFault (Page.hif n) FaultBit.hif_IDE_ERR).pulse 74
    (d1.slices.map (·.1)).foldl (fun (d : Dev) s =>
      let v := d.slice s
      if v.hostPort = n ∧ v.isLocked ∧ v.stream = some st then d.setTdi s .error true else d) d1

/-- R284. -/
def execIdeIntegrityFailure (port stream : Nat) (s : State) : Host.Outcome State Fault Refusal :=
  s.become (s.dev.ideFailure port stream)

/-- The numbers of the records of `size` bytes in an area that has a byte other than 0. -/
def Dev.recordsIn (d : Dev) (base size count : Nat) : List Nat :=
  ((d.gddr.filter (fun c => decide (base ≤ c.1) && decide (c.1 < base + size * count))).map (fun c => (c.1 - base) / size)).dedup

/-- Whether a slice owns an SA, a volume or a session (R310). -/
def Dev.ownsTransport (d : Dev) (s : Nat) : Bool :=
  (d.recordsIn (d.saAddr 0) 128 1048576).any (fun n => d.saValid n && !Sa.mgr (d.saWords n) && Sa.owner (d.saWords n) == s)
    || (d.recordsIn (d.volAddr 0) 64 262144).any (fun n => d.volValid n && !d.volMgr n && bits (d.volWord n 1) 0 12 == s)
    || (d.recordsIn (d.sesAddr 0) 128 65536).any (fun n => d.sesValid n && !d.sesMgr n && bits (d.sesWord n 1) 0 12 == s)

/-- Message codes of TDISP 1.0 that Welbor answers with (R285). -/
def tdispError : Nat := 0x7F
def tdispLock : Nat := 0x03
def tdispStart : Nat := 0x05
def tdispStop : Nat := 0x06

/-- The transport on which the TDISP messages of a slice arrive (R377). -/
def Dev.tdispVia (d : Dev) (s : Nat) : Transport := .pf1 (d.slice s).hostPort

/-- LOCK_INTERFACE_REQUEST (R310). -/
def Dev.lockInterface (d : Dev) (s st : Nat) : Dev :=
  let v := d.slice s
  if v.tdi = .unlocked ∧ v.state = .active ∧ bitAt (v.word 0) 30 ∧ d.queuesIdle s ∧ v.keyUsed = 0 ∧ !d.ownsTransport s
      ∧ 1 ≤ st ∧ st ≤ 8 then
    ((d.setSlice s { v with stream := some st }).setTdi s .locked true).emit (.spdm (d.tdispVia s) tdispLock [])
  else d.emit (.spdm (d.tdispVia s) tdispError [])

/-- R310. -/
def execLockInterfaceRequest (slice stream : Nat) (s : State) : Host.Outcome State Fault Refusal :=
  s.become (s.dev.lockInterface slice stream)

/-- START_INTERFACE_REQUEST: CONFIG_LOCKED to RUN (R285). -/
def Dev.startInterface (d : Dev) (s : Nat) : Dev :=
  if (d.slice s).tdi = .locked then (d.setTdi s .run true).emit (.spdm (d.tdispVia s) tdispStart [])
  else d.emit (.spdm (d.tdispVia s) tdispError [])

/-- R285. -/
def execStartInterfaceRequest (slice : Nat) (s : State) : Host.Outcome State Fault Refusal :=
  s.become (s.dev.startInterface slice)

/-- STOP_INTERFACE_REQUEST: back to CONFIG_UNLOCKED (R285). -/
def Dev.stopInterface (d : Dev) (s : Nat) : Dev :=
  (if (d.slice s).state = .active then d.setTdi s .unlocked true else d).emit (.spdm (d.tdispVia s) tdispStop [])

/-- R285. -/
def execStopInterfaceRequest (slice : Nat) (s : State) : Host.Outcome State Fault Refusal :=
  s.become (s.dev.stopInterface slice)

def Dev.spdmSession (d : Dev) (n : Nat) : Option SpdmSession := Sparse.get (blank none) d.wel.sessions n

/-- Whether a session is open, established, and on a DOE mailbox of a port (R284, R377). -/
def Dev.doeSession (d : Dev) (n port : Nat) : Bool :=
  match d.spdmSession n with
  | none => false
  | some v => v.finished && (v.via == .pf0 port || v.via == .pf1 port)

/-- IDE_KM (R284): KEY_PROG keys a stream, K_SET_GO makes a keyed stream secure; refused outside an SPDM session of the
port's DOE mailboxes. -/
def Dev.ideKm (d : Dev) (ses n st : Nat) (activate : Bool) : Dev :=
  let h := d.hostPort n
  if !d.doeSession ses n ∨ 8 < st then d.emit (.spdm (.pf0 n) 0x7F [])
  else if activate then
    if h.ideState st = .keyed then (d.setHostPort n (h.setIde st .secure)).emit (.spdm (.pf0 n) 0x06 [])
    else d.emit (.spdm (.pf0 n) 0x7F [])
  else (d.setHostPort n (h.setIde st .keyed)).emit (.spdm (.pf0 n) 0x03 [])

/-- R284. -/
def execIdeKmRequest (session port stream : Nat) (activate : Bool) (s : State) : Host.Outcome State Fault Refusal :=
  s.become (s.dev.ideKm session port stream activate)

end Sys2Proof.Machine
end

