-- ==== Sys2Proof/Machine/Welbor.lean ====
section
/-!
DEFINITION. Welbor and firmware as servants of mailboxes (chapter 16): boot (R370, R371, R384), measurements (R372), the
manager-firmware requests (R303, R374, R381, R385, R392), and the chunks of slice channels (R393).
-/

namespace Sys2Proof.Machine

def Dev.setWel (d : Dev) (w : Welbor) : Dev := { d with wel := w }

/-- OTP_BOOT.STAGE (R370). -/
def Dev.bootStage (d : Dev) : Nat := d.fget Page.otp Reg.OTP_BOOT_STAGE
def Dev.setBootStage (d : Dev) (n : Nat) : Dev := d.fset Page.otp Reg.OTP_BOOT_STAGE n

/-- OTP_STAT.LIFECYCLE (R373): the state in effect since the last reset. -/
def Dev.lifecycle (d : Dev) : Nat := d.fget Page.otp Reg.OTP_STAT_LIFECYCLE
def lifeManufacture : Nat := 0
def lifeDevelop : Nat := 1
def lifeReturn : Nat := 3
def lifeScrap : Nat := 4

/-! ## OTP generations (R382-R384) -/

/-- Keys and secrets of the device (R375, R383). -/
def useSeal : Nat := 2
def useCertificate : Nat := 3
def useRecord : Nat := 4
def useExchange : Nat := 5
def useSign : Nat := 6
def useRom : Nat := 7

/-- A generation's seal over its bytes 0-207. -/
def sealOf (g : List Byte) : List Byte := hmac384 (Config.secret useSeal []) (cut g 0 208)

def Dev.gen (d : Dev) (i : Nat) : List Byte := Sparse.get (blank []) d.wel.gens i
def genBlank (g : List Byte) : Bool := g.all (· == 0)

/-- A generation that passes its check (R384). -/
def genGood (i : Nat) (g : List Byte) : Bool :=
  ofLe (cut g 0 2) == 0xB71C && byteAt g 2 == i && byteAt g 3 == 1 && cut g 208 48 == sealOf g

/-- The walk of R384 over generations 7 to 0: the governing one, and the bitmaps of blank and skipped ones. -/
def Dev.govern (d : Dev) : List Nat → Nat → Nat → Option Nat × Nat × Nat
  | [], b, k => (none, b, k)
  | i :: rest, b, k =>
    if genBlank (d.gen i) then d.govern rest (b + 2 ^ i) k
    else if genGood i (d.gen i) then (some i, b, k)
    else d.govern rest b (k + 2 ^ i)

/-- The governing generation's bytes; none selects zeros. -/
def Dev.governing (d : Dev) : List Byte :=
  if d.fbit Page.otp Reg.OTP_STAT_DEFAULTS then List.replicate 256 0 else d.gen (d.fget Page.otp Reg.OTP_STAT_GOVERN)

/-- Stage 0 selects the governing generation and shows it (R384, R396); each skipped generation pulses event 4. -/
def Dev.selectGeneration (d : Dev) : Dev :=
  let r := d.govern [7, 6, 5, 4, 3, 2, 1, 0] 0 0
  let p := Page.otp
  let d1 := ((((d.fset p Reg.OTP_STAT_BLANK r.2.1).fset p Reg.OTP_STAT_SKIPPED r.2.2).fset p Reg.OTP_STAT_DEFAULTS
    (b2n r.1.isNone)).fset p Reg.OTP_STAT_GOVERN (r.1.getD 0))
  let g := d1.governing
  let d2 := ((d1.fset p Reg.OTP_LIVE0_BYTES4_7 (ofLe (cut g 4 4))).fset p Reg.OTP_LIVE1_PAD_LATCH (ofLe (cut g 8 4))).fset p
    Reg.OTP_LIVE2_SVN (ofLe (cut g 12 4))
  (List.range 8).foldl (fun (d : Dev) i =>
    if bitAt r.2.2 i then (d.pulse 4).latchFault p FaultBit.otp_GEN_SKIPPED else d) d2

/-- The settings of the governing generation reach their blocks (R275, R383). -/
def Dev.applyGeneration (d : Dev) : Dev :=
  let b := byteAt d.governing 4
  let d1 := ((d.fset (Page.hif 0) Reg.HIF_CFG_SPLIT (bits b 0 1)).fset (Page.hif 0) Reg.HIF_CFG_SRIS (bits b 1 1)).fset
    (Page.hif 1) Reg.HIF_CFG_SRIS (bits b 2 1)
  let d2 := (d1.fset (Page.hif 1) Reg.HIF_CFG_SPLIT (bits b 0 1)).setWel { d1.wel with eid := byteAt d.governing 6 }
  { d2 with ft := { d2.ft with oscUsed := bits b 3 1 } }

/-! ## Measurements (R372) and boot (R370, R371) -/

def Dev.block (d : Dev) (i : Nat) : List Byte := Sparse.get (blank []) d.wel.blocks i
def Dev.measure (d : Dev) (i : Nat) (bs : List Byte) : Dev :=
  d.setWel { d.wel with blocks := Sparse.set (blank []) d.wel.blocks i bs }

/-- Block 4: lifecycle, governing generation, SKIPPED, and the digest of bytes 0-207. -/
def Dev.hardwareBlock (d : Dev) : List Byte :=
  let none_ := d.fbit Page.otp Reg.OTP_STAT_DEFAULTS
  toLe 1 d.lifecycle ++ toLe 1 (if none_ then 0xFF else d.fget Page.otp Reg.OTP_STAT_GOVERN)
    ++ toLe 1 (d.fget Page.otp Reg.OTP_STAT_SKIPPED) ++ sha384 (cut d.governing 0 208)

/-- Why an image is not accepted: the ERR code of OTP_BOOT; 0 when it is accepted (R371). -/
def imageError (min : Nat) (im : BootImage) : Nat :=
  if im.magic ≠ 0x57424C58 ∨ !im.signed then 1
  else if sha384 (im.body.take im.length) ≠ im.digest then 2
  else if im.svn < min then 3
  else if (if im.kind = 1 then 262144 else 3145728) < im.length then 4
  else 0

/-- The image of a set and kind that the boot flash holds. -/
def imageOf (ims : List BootImage) (set kind : Nat) : Option BootImage := ims.find? (fun i => i.set == set && i.kind == kind)

/-- The firmware part of the control SRAM, and the banks that hold it (R341, R405). -/
def firmwareBase : Nat := 0x2000000
def firmwareBanks : List Nat := (List.range 12).map (628 + ·)

/-- Whether the retained body serves in place of that of the CPX image `im` (R405): WARM_FW, all banks retained, and the hash of
the header agrees with it. -/
def Dev.warmBody (d : Dev) (im : BootImage) : Bool :=
  d.fbit Page.pwr Reg.PWR_CFG_WARM_FW && firmwareBanks.all d.pwr.kept.contains && im.kind == 2 && decide (im.length ≤ 3145728)
    && sha384 (d.dread firmwareBase im.length) == im.digest

/-- The image that boot verifies: with the retained body, or as the boot flash holds it. -/
def Dev.bootImage (d : Dev) (ims : List BootImage) (set kind : Nat) : Option BootImage :=
  (imageOf ims set kind).map (fun im => if d.warmBody im then { im with body := d.dread firmwareBase im.length } else im)

def Dev.imageErr (d : Dev) (ims : List BootImage) (set kind : Nat) : Nat :=
  match d.bootImage ims set kind with
  | none => 1
  | some im => imageError (if kind = 1 then bits (d.rd (Page.otp + Reg.OTP_LIVE2_SVN.off)).toNat 0 16
      else bits (d.rd (Page.otp + Reg.OTP_LIVE2_SVN.off)).toNat 16 16) im

/-- A set is used only when both of its images are accepted. -/
def Dev.setErr (d : Dev) (ims : List BootImage) (set : Nat) : Nat :=
  if d.imageErr ims set 1 ≠ 0 then d.imageErr ims set 1 else d.imageErr ims set 2

/-- Boot fails (R371): STAGE 0xF with the code, BOOT_FAIL; the blocks report the digests that failed. -/
def Dev.bootFail (d : Dev) (err : Nat) (ims : List BootImage) (set : Nat) : Dev :=
  let dig (k : Nat) := ((imageOf ims set k).map (fun i => i.digest ++ toLe 2 i.svn)).getD []
  (((d.measure 2 (dig 1)).measure 3 (dig 2)).setBootStage 0xF).fset Page.otp Reg.OTP_BOOT_ERR err |>.latchFault Page.otp
    FaultBit.otp_BOOT_FAIL

/-- The end of stage 0: self-tests, governing generation, identity key; blocks 1 and 4. -/
def Dev.endRom (d : Dev) (pass : Bool) : Dev :=
  if d.lifecycle = lifeScrap then d
  else if !pass then d.bootFail 5 [] 0
  else
    let d1 := d.selectGeneration.applyGeneration
    ((d1.measure 1 (cut (Config.secret useRom []) 0 48)).measure 4 d1.hardwareBlock).setBootStage 1

/-- The end of stage 1: the set named by PREFER_B, then the other; block 2. -/
def Dev.endFirmware (d : Dev) (ims : List BootImage) : Dev :=
  let first := bits (byteAt d.governing 16) 1 1
  let use (set : Nat) : Dev :=
    let svn (k : Nat) := ((imageOf ims set k).map (·.svn)).getD 0
    let dig := ((imageOf ims set 1).map (·.digest)).getD []
    let d1 := (d.measure 2 (dig ++ toLe 2 (svn 1))).setWel
      { (d.measure 2 (dig ++ toLe 2 (svn 1))).wel with svnWelbor := svn 1, svnCpx := svn 2 }
    (d1.fset Page.otp Reg.OTP_BOOT_IMAGE set).setBootStage 2
  if d.setErr ims first = 0 then use first
  else if d.setErr ims (1 - first) = 0 then use (1 - first)
  else d.bootFail (d.setErr ims (1 - first)) ims (1 - first)

/-- The end of stage 2: the CPX image of the set in use is verified and stands in the firmware part of the control SRAM; block 3;
the four pairs run. -/
def Dev.endCpx (d : Dev) (ims : List BootImage) : Dev :=
  let set := d.fget Page.otp Reg.OTP_BOOT_IMAGE
  if d.imageErr ims set 2 ≠ 0 then d.bootFail (d.imageErr ims set 2) ims set
  else
    let im := d.bootImage ims set 2
    let d0 := match im with
      | none => d
      | some i => d.dwrite firmwareBase (i.body.take i.length)
    let d1 := d0.measure 3 ((im.map (fun i => i.digest ++ toLe 2 i.svn)).getD [])
    let d2 := (List.range 4).foldl (fun (d : Dev) p => d.fset (Page.cpx p) Reg.CPX_STAT_STATE 0) d1
    d2.setBootStage 3

/-- RST releases Welbor (R370, R416): stage 0 begins with the lifecycle state in effect since the last reset (R374). -/
def Dev.releaseWelbor (d : Dev) : Dev :=
  if d.pwr.welborReleased ∨ !d.domainOn 0 then d
  else
    let d1 := { d with pwr := { d.pwr with welborReleased := true } }
    (d1.fset Page.otp Reg.OTP_STAT_LIFECYCLE d.wel.inEffect).setBootStage 0

/-- The stage that runs ends. -/
def Dev.endStage (d : Dev) (pass : Bool) (ims : List BootImage) : Dev :=
  if !d.pwr.welborReleased then d
  else if d.bootStage = 0 then d.endRom pass
  else if d.bootStage = 1 then d.endFirmware ims
  else if d.bootStage = 2 then d.endCpx ims
  else d

/-- R370. -/
def execBootStageEnd (pass : Bool) (images : List BootImage) (s : State) : Host.Outcome State Fault Refusal :=
  s.become (s.dev.endStage pass images)

/-! ## Chunks of a slice channel (R393) -/

/-- The chunks of a message: word 0 and 1, then 56 bytes. -/
def chunksOf (typ : Nat) : Nat → Nat → List Byte → List (List Nat)
  | 0, _, _ => []
  | fuel + 1, seq, bs =>
    let part := bs.take 56
    let last := decide (bs.length ≤ 56)
    let w0 := 1 + b2n (seq == 0) * 2 ^ 8 + b2n last * 2 ^ 9 + seq % 256 * 2 ^ 16
    let w1 := part.length + (if seq = 0 then typ * 2 ^ 16 else 0)
    let c := [w0, w1] ++ (List.range 14).map (fun i => leWord part i)
    if last then [c] else c :: chunksOf typ fuel (seq + 1) (bs.drop 56)

/-- The payload of a chunk. -/
def chunkBytes (w : List Nat) : List Byte := ((w.drop 2).flatMap (toLe 4)).take (min 56 (bits (nth w 1) 0 6))

/-- Welbor takes a chunk (R390, R393): a stale one is discarded as kind 4; one out of sequence, or a FIRST while a response is
due, discards the partial message and is answered with one KIND 2 chunk. -/
def Dev.takeChunk (d : Dev) (s : Nat) (m : Message) : Dev :=
  let w := m.words
  let c := d.channel s
  let due := c.request.isSome || c.chunks.any (fun e => e.1 == (d.slice s).incarnation)
  if !d.stampGood s m.stampOf then d.discardStale kindMailbox s (d.slice s).incarnation m.stampOf
  else if bits (nth w 0) 0 8 = 2 then d.setChannel s { c with part := [], expect := 0 }
  else
    let first := bitAt (nth w 0) 8
    if bits (nth w 0) 0 8 ≠ 1 ∨ bits (nth w 0) 16 8 ≠ (if first then 0 else c.expect) ∨ (first ∧ due)
        ∨ (!first ∧ c.expect = 0) then
      (d.setChannel s { c with part := [], expect := 0 }).oweChunks s [(List.replicate 16 0).set 0 2]
    else
      let part := (if first then [] else c.part) ++ chunkBytes w
      if bitAt (nth w 0) 9 then d.setChannel s { c with part := [], expect := 0, request := some part }
      else d.setChannel s { c with part := part, expect := bits (nth w 0) 16 8 + 1 }


/-- Welbor stages the next chunk it owes a tenant, and SENDs it (R393); a full queue leaves it to be sent again (R391).  A chunk
whose slice has been destroyed meanwhile is a stale delivery of kind 4 (R312, R390, R395). -/
def Dev.sendChunk (d : Dev) (s : Nat) : Dev :=
  let c := d.channel s
  match c.chunks with
  | [] => d
  | (inc, w) :: rest =>
    if !d.deliverable s c.incarnation (some (s, inc)) then
      (d.setChannel s { c with chunks := rest }).discardStale kindMailbox s c.incarnation (some (s, inc))
    else
    let d1 := d.setMailBox (.welbor s) { d.mailBox (.welbor s) with tx := w }
    let d2 := d1.mailSend .welbor (.welbor s) none
    if d1.mailRoom (.welbor s) then d2.setChannel s { d2.channel s with chunks := rest } else d2

/-- R389, R391. -/
def execMbxSend (req : Requester) (box : MailEnd) (pasid : Option Nat) (s : State) : Host.Outcome State Fault Refusal :=
  s.become (s.dev.onMail req box 0x40 (fun d =>
    match box with
    | .welbor n => d.sendChunk n
    | .tenant n => if (d.slice n).state = .active then d.mailSend req box pasid else d
    | _ => d.mailSend req box pasid))

/-! ## Manager-firmware requests (R392) -/

def Message.bytes (m : Message) : List Byte := m.words.flatMap (toLe 4)
def Message.opcode (m : Message) : Nat := bits (nth m.words 0) 0 16
def Message.tag (m : Message) : Nat := bits (nth m.words 0) 16 8
/-- The host port that a message's sender used. -/
def Message.port (m : Message) : Nat := bits m.stamp 57 1
def Message.field (m : Message) (o n : Nat) : Nat := ofLe (cut m.bytes o n)

/-- A response of firmware: same OPCODE and TAG. -/
def Dev.fwAnswer (d : Dev) (c opcode tag code : Nat) : Dev :=
  d.mailPush (.manager c) ⟨(List.replicate 16 0).set 0 (opcode + tag * 2 ^ 16 + code * 2 ^ 24), d.mailStamp (.firmware 0) (.firmware c) none⟩

/-- The OPCODEs of requests that firmware knows (R392). -/
def fwOpcodes : List Nat := [0x0101, 0x0102, 0x0103, 0x0104, 0x0201, 0x0301, 0x0302]

/-- A POP by an end's holder: Welbor reads the chunk it pops; firmware answers a request with an unknown OPCODE with MALFORMED. -/
def Dev.popEnd (d : Dev) (box : MailEnd) : Dev :=
  match box, (d.mailBox box).queue with
  | .welbor s, m :: _ => (d.mailPop box).takeChunk s m
  | .firmware c, m :: _ =>
    let d1 := d.mailPop box
    if m.tag ≠ 0 ∧ !fwOpcodes.contains m.opcode ∧ d.mailRoom (.firmware c) then d1.fwAnswer c m.opcode m.tag Code.malformed
    else d1
  | _, _ => d.mailPop box

/-- R387, R395. -/
def execMbxPop (req : Requester) (box : MailEnd) (s : State) : Host.Outcome State Fault Refusal :=
  s.become (s.dev.onMail req box 0x48 (·.popEnd box))

/-- Firmware runs (R370, R428). -/
def Dev.fwRuns (d : Dev) : Bool := d.bootStage == 3 && d.domainOn 1

/-- Whether the head message of a channel's firmware end is a request with this OPCODE that can be answered; before FW_READY
requests wait (R370, R466). -/
def Dev.fwRequest (d : Dev) (c opcode : Nat) : Option Message :=
  match (d.mailBox (.firmware c)).queue with
  | [] => none
  | m :: _ => if d.fwRuns ∧ d.pwr.ready ∧ c < 32 ∧ m.opcode = opcode ∧ d.mailRoom (.firmware c) then some m else none

/-- Serve the head request of a channel: pop it, run it, answer it once. -/
def Dev.fwServe (d : Dev) (c opcode : Nat) (f : Dev → Message → Nat × Dev) : Dev :=
  match d.fwRequest c opcode with
  | none => d
  | some m => let r := f (d.mailPop (.firmware c)) m; r.2.fwAnswer c opcode m.tag r.1

/-- Whether a port is free for Welbor's operation. -/
def Dev.portFree (d : Dev) (i : PortInfo) : Bool := (d.port i.page).run.isNone

/-- Welbor issues an operation on SLC (R303): the registers, the operation, its outcome. -/
def Dev.slcIssue (d : Dev) (op s : Nat) (img : List Word) (f : Dev → Nat × Dev) : Nat × Dev :=
  let d1 := (List.range 32).foldl (fun (d : Dev) i => d.wr (Page.slc + Reg.SLC_OPBUF_DATA.off + 4 * i) (img.getD i 0#32)) d
  let d2 := (d1.fset Page.slc Reg.SLC_OP_OPCODE op).fset Page.slc Reg.SLC_OP_SLICE s
  let r := Dev.charterChanged (f d2)
  (r.1, r.2.portEnd portSlc r.1)

/-- The derived values that firmware writes after an OK (R303). -/
def Dev.deriveCharter (d : Dev) (s : Nat) : Dev :=
  let v := d.slice s
  (d.wset Page.schh (0x1000 + s) (v.weight + v.maxRate * 2 ^ 32)).wset Page.lehg (0x1000 + s) v.lehrCells

/-- SLICE_CREATE and SLICE_MODIFY: firmware reads the image, Welbor issues it, firmware writes the derived values. -/
def Dev.fwCharter (d : Dev) (c opcode op : Nat) (f : Dev → Nat → List Nat → Nat × Dev) : Dev :=
  if !d.portFree portSlc then d
  else d.fwServe c opcode (fun d m =>
    let s := m.field 16 2 % 4096
    let img := bytesWords 32 (d.hread m.port (m.field 8 8) 128)
    let r := (d.hostFetch m.port (m.field 8 8) 128 {}).2.slcIssue op s img (fun d => f d s (img.map (·.toNat)))
    (r.1, if r.1 = Code.ok then r.2.deriveCharter s else r.2))

/-- R303. -/
def execSliceCreate (channel : Nat) (s : State) : Host.Outcome State Fault Refusal :=
  s.become (s.dev.fwCharter channel 0x0101 1 Dev.sliceCreate)

/-- R303. -/
def execSliceModify (channel : Nat) (s : State) : Host.Outcome State Fault Refusal :=
  s.become (s.dev.fwCharter channel 0x0102 2 Dev.sliceModify)

/-- R303, R308. -/
def Dev.fwDestroy (d : Dev) (c : Nat) : Dev :=
  if !d.portFree portSlc then d
  else d.fwServe c 0x0103 (fun d m => d.slcIssue 3 (m.field 16 2 % 4096) [] (fun d => d.sliceDestroy (m.field 16 2 % 4096)))

/-- R303. -/
def execSliceDestroy (channel : Nat) (s : State) : Host.Outcome State Fault Refusal := s.become (s.dev.fwDestroy channel)

/-- The first member and the end of each kind of pool (R381, R392). -/
def poolRange (kind : Nat) : Nat × Nat := [(0, 65536), (65536, 1048576), (0, 1048576), (0, 262144)].getD kind (0, 0)

/-- POOL_SET (R381, R392). -/
def Dev.setPool (d : Dev) (m : Message) : Nat × Dev :=
  let kind := m.field 8 1
  let r := poolRange kind
  let first := m.field 12 4
  let n := m.field 16 4
  if 3 < kind ∨ first < r.1 ∨ r.2 < first + n then (Code.malformed, d)
  else (Code.ok, d.setWel { d.wel with pools := Sparse.set (blank (0, 0)) d.wel.pools kind (first, n) })

/-- R381. -/
def execPoolSet (channel : Nat) (s : State) : Host.Outcome State Fault Refusal :=
  s.become (s.dev.fwServe channel 0x0104 Dev.setPool)

/-- The GDDR6 ranges that MOVE may not touch (R392): the key record area, the slice mailbox area, the deep crucible. -/
def Dev.moveForbidden (d : Dev) (a n : Nat) : Bool :=
  overlap a n (bits (d.wget Page.key 0x10) 0 15 * 2 ^ 20) (983040 * 128)
    || overlap a n (bits (d.wget (Page.mbx 0) 0x10) 0 15 * 2 ^ 20) (2 * 2 ^ 20) || d.inDeepCrucible a n

/-- Run the bursts of a mover's descriptor to its end, or to a burst that moves nothing. -/
def Dev.runBursts (d : Dev) (mv : Nat) (answer : HostAnswer) : Nat → Dev
  | 0 => d
  | fuel + 1 =>
    if !(d.mover mv).fetched then d
    else
      let d1 := d.issueBurst mv true answer
      if d1.fget (Page.blp mv) Reg.BLP_REMAIN_BYTES = d.fget (Page.blp mv) Reg.BLP_REMAIN_BYTES then d1
      else d1.runBursts mv answer fuel

/-- MOVE begins (R392): it is refused with a code, or firmware gives a mover one descriptor with PULSE. -/
def Dev.beginMove (d : Dev) (c mv : Nat) (m : Message) : Option Nat × Dev :=
  let src := m.field 8 8
  let dst := m.field 16 8
  let len := m.field 24 4
  let spaces := m.field 28 1
  let ss := bits spaces 0 3
  let ds := bits spaces 4 3
  let ctl := ss + ds * 2 ^ 4 + bits (m.field 29 1) 0 2 * 2 ^ 8 + 2 ^ 11
  let bad (n : Nat) := !(n == 0 || n == 2 || n == 3)
  if bad ss ∨ bad ds then (some Code.malformed, d)
  else if (ss = 0 ∧ d.moveForbidden src len) ∨ (ds = 0 ∧ d.moveForbidden dst len) then (some Code.access, d)
  else
    let d0 := d.startChain mv
    if descMalformed d.split src dst len ctl 1 then (some Code.fault, d0.moverFail mv MoverErr.malformed)
    else
      (none, (d0.setMover mv { fetched := true, src := src, dst := dst, len := len, control := ctl, nextWord := 1,
                               move := some c }).fset (Page.blp mv) Reg.BLP_REMAIN_BYTES len)

/-- The mover of a MOVE goes on (R392): its code once the mover has pulsed or has failed, none while a read is held. -/
def Dev.runMove (d : Dev) (mv : Nat) (answer : HostAnswer) : Option Nat × Dev :=
  let d1 := d.runBursts mv answer ((d.mover mv).len / 256 + 2)
  let done (d : Dev) := d.setMover mv { d.mover mv with move := none }
  if (d1.mover mv).fetched then (none, d1)
  else if d1.moverState mv = moverError ∨ d1.moverState mv = moverStopped then (some Code.fault, done d1)
  else (some Code.ok, done (d1.endDescriptor mv))

/-- Whether a mover takes GO (R345). -/
def Dev.moverFree (d : Dev) (mv : Nat) : Bool :=
  decide (mv < 64) && d.accepts (Page.blp mv) && d.moverState mv != moverRun && d.moverState mv != moverWait

/-- MOVE (R392): the head request of a channel begins on a mover that takes GO, or goes on on its mover, and is answered once
the mover has ended it. -/
def Dev.fwMove (d : Dev) (c mv : Nat) (answer : HostAnswer) : Dev :=
  match d.fwRequest c 0x0201 with
  | none => d
  | some m =>
    let mine := (d.mover mv).move == some c
    if !mine ∧ (!d.moverFree mv ∨ d.movers.any (fun e => e.2.move == some c)) then d
    else
      let b := if mine then (none, d) else d.beginMove c mv m
      let r := match b.1 with
        | some code => (some code, b.2)
        | none => b.2.runMove mv answer
      match r.1 with
      | none => r.2
      | some code => r.2.fwServe c 0x0201 (fun d _ => (code, d))

/-- R392. -/
def execMove (channel mover : Nat) (answer : HostAnswer) (s : State) : Host.Outcome State Fault Refusal :=
  s.become (s.dev.fwMove channel mover answer)

/-! ## OTP requests -/

/-- The generation that OTP_WRITE programs: one above the highest that is not blank (R385). -/
def Dev.nextGen (d : Dev) : Nat := (([7, 6, 5, 4, 3, 2, 1, 0].find? (fun i => !genBlank (d.gen i))).map (· + 1)).getD 0

/-- The whole generation from its bytes 4-207: Welbor supplies MAGIC, INDEX, FORMAT and SEAL. -/
def genImage (i : Nat) (body : List Byte) : List Byte :=
  let g := toLe 2 0xB71C ++ toLe 1 i ++ [1] ++ cut body 0 204
  g ++ cut (sealOf g) 0 48

/-- Reserved bytes of a generation that must be 0 (R383). -/
def genReserved (g : List Byte) : Bool :=
  bits (byteAt g 4) 4 4 != 0 || bitAt (byteAt g 5) 7 || byteAt g 7 != 0 || bits (byteAt g 16) 2 6 != 0
    || (cut g 17 3).any (· != 0)

/-- An SVN minimum is lower than the governing one or higher than the SVN that runs (R385). -/
def Dev.genSvnBad (d : Dev) (g : List Byte) : Bool :=
  let w := ofLe (cut g 12 2)
  let c := ofLe (cut g 14 2)
  let o := d.governing
  decide (w < ofLe (cut o 12 2)) || decide (c < ofLe (cut o 14 2)) || decide (d.wel.svnWelbor < w) || decide (d.wel.svnCpx < c)

/-- OTP_WRITE (R385): refused with its response, or programming starts; one OTP request runs at a time (R395). -/
def Dev.otpWrite (d : Dev) (c : Nat) : Dev :=
  match d.fwRequest c 0x0301, d.wel.job with
  | some m, none =>
    let i := d.nextGen
    let g := genImage i (d.hread m.port (m.field 8 8) 204)
    let d1 := (d.hostFetch m.port (m.field 8 8) 204 {}).2.mailPop (.firmware c)
    if 8 ≤ i then d1.fwAnswer c 0x0301 m.tag Code.resource
    else if genReserved g ∨ d.genSvnBad g then d1.fwAnswer c 0x0301 m.tag Code.malformed
    else (d1.setWel { d1.wel with job := some ⟨c, m.tag, i, g⟩ }).fset Page.otp Reg.OTP_STAT_PROG_BUSY 1
  | _, _ => d

/-- R385. -/
def execOtpWrite (channel : Nat) (s : State) : Host.Outcome State Fault Refusal := s.become (s.dev.otpWrite channel)

/-- Programming ends (R385): the generation is written, and the response is sent. -/
def Dev.otpEnd (d : Dev) : Dev :=
  match d.wel.job with
  | none => d
  | some j =>
    if !d.mailRoom (.firmware j.channel) then d
    else
      let d1 := d.setWel { d.wel with job := none, gens := Sparse.set (blank []) d.wel.gens j.gen j.bytes }
      let d2 := (d1.fset Page.otp Reg.OTP_STAT_PROG_BUSY 0).fset Page.otp ⟨Reg.OTP_STAT_BLANK.off, 16 + j.gen, 1⟩ 0
      d2.fwAnswer j.channel 0x0301 j.tag Code.ok

/-- R385. -/
def execOtpProgramEnd (s : State) : Host.Outcome State Fault Refusal := s.become s.dev.otpEnd

/-- Whether the Xabrient RMA key has signed the token over the serial number (R374): outside the model. -/
def Dev.tokenGood (d : Dev) (token : List Byte) : Bool :=
  Config.unstated 30 ((d.rd (Page.otp + Reg.OTP_SERIAL_LO_SERIAL.off)).toNat ::
    (d.rd (Page.otp + Reg.OTP_SERIAL_HI_SERIAL.off)).toNat :: token.map (·.toNat)) % 2 == 1

/-- LIFECYCLE_ADVANCE (R374): a target above the present state; RETURN also needs its token.  The state takes effect at the
next reset; RETURN masks the UDS, SCRAP destroys it. -/
def Dev.lifecycleAdvance (d : Dev) (m : Message) : Nat × Dev :=
  let t := m.field 8 1
  let r := d.hostFetch m.port (m.field 16 8) (if t = lifeReturn then m.field 24 2 else 0) {}
  let token := r.1
  if t < 1 ∨ 4 < t then (Code.malformed, d)
  else if t ≤ d.wel.lifecycle ∨ (t = lifeReturn ∧ !d.tokenGood token) then (Code.access, r.2)
  else
    (Code.ok, r.2.setWel { d.wel with
      lifecycle := t
      udsMasked := d.wel.udsMasked || t == lifeReturn
      udsDestroyed := d.wel.udsDestroyed || t == lifeScrap })

/-- R374. -/
def execLifecycleAdvance (channel : Nat) (s : State) : Host.Outcome State Fault Refusal :=
  s.become (if s.dev.wel.job.isSome then s.dev else s.dev.fwServe channel 0x0302 Dev.lifecycleAdvance)

end Sys2Proof.Machine
end

