-- ==== Sys2Proof/Machine/Spdm.lean ====
section
/-!
DEFINITION. SPDM (R372, R376, R377) and the vendor requests of tenants and the manager (R379-R381).
-/

namespace Sys2Proof.Machine

/-! ## Responses -/

/-- The number of a transport in the tables of Welbor. -/
def viaKey : Transport → Nat
  | .pf0 p => p
  | .pf1 p => 0x10 + p
  | .mctp => 0x20
  | .slice s => 0x1000 + s

/-- SPDM response codes (DSP0274). -/
def rspError : Nat := 0x7F

/-- Whether a message can arrive on a transport: a port whose link is up, a slice with a complete request (R393). -/
def Dev.viaOpen (d : Dev) (via : Transport) : Bool :=
  match via with
  | .pf0 p => d.portExists p && (d.hostPort p).linkUp
  | .pf1 p => d.portExists p && (d.hostPort p).linkUp
  | .mctp => true
  | .slice s => (d.channel s).request.isSome

/-- Send the bytes of a message: on a slice channel as chunks, which end the request. -/
def Dev.viaSend (d : Dev) (via : Transport) (code typ : Nat) (bs : List Byte) : Dev :=
  match via with
  | .slice s => (d.setChannel s { d.channel s with request := none }).oweChunks s (chunksOf typ 74 0 bs)
  | via => d.emit (.spdm via code bs)

/-- An SPDM response outside a session: version 1.3, code, two parameters, the rest. -/
def Dev.spdmAnswer (d : Dev) (via : Transport) (code p1 p2 : Nat) (bs : List Byte) : Dev :=
  d.viaSend via code 5 (toLe 1 0x13 ++ toLe 1 code ++ toLe 1 p1 ++ toLe 1 p2 ++ bs)

/-- A response inside a session (R379): session ID, length, and the sealed message with its 16-byte MAC. -/
def Dev.sealedAnswer (d : Dev) (n : Nat) (via : Transport) (code p1 p2 : Nat) (bs : List Byte) : Dev :=
  let m := toLe 1 0x13 ++ toLe 1 code ++ toLe 1 p1 ++ toLe 1 p2 ++ bs
  let epoch := ((d.spdmSession n).map (·.epoch)).getD 0
  let body := Config.secret useRecord (toLe 4 n ++ toLe 4 epoch ++ m)
  d.viaSend via code 6 (toLe 4 n ++ toLe 2 (m.length + 18) ++ cut body 0 (m.length + 18))

def Dev.spdmError (d : Dev) (via : Transport) (code : Nat) : Dev := d.spdmAnswer via rspError code 0 []

namespace SpdmErr
/-- Error codes of SPDM (DSP0274). -/
def invalidRequest : Nat := 0x01
def unexpectedRequest : Nat := 0x04
def unspecified : Nat := 0x05
def decryptError : Nat := 0x06
def unsupported : Nat := 0x07
def sessionLimit : Nat := 0x0A
def sessionRequired : Nat := 0x0B
end SpdmErr

/-- How far the negotiation of a transport has come: 1 version, 2 capabilities, 3 algorithms. -/
def Dev.negotiated (d : Dev) (via : Transport) : Nat := Sparse.get (blank 0) d.wel.negotiated (viaKey via)
def Dev.setNegotiated (d : Dev) (via : Transport) (n : Nat) : Dev :=
  d.setWel { d.wel with negotiated := Sparse.set (blank 0) d.wel.negotiated (viaKey via) n }

/-- Welbor answers SPDM while it runs; in MANUFACTURE, and after a failed boot, with ERROR (R371, R373, R377). -/
def Dev.spdmServe (d : Dev) (via : Transport) (need : Nat) (f : Dev → Dev) : Dev :=
  if !d.viaOpen via ∨ !d.domainOn 0 ∨ !d.pwr.welborReleased ∨ d.bootStage < 2 then d
  else if d.lifecycle = lifeManufacture ∨ d.bootStage = 0xF then d.spdmError via SpdmErr.unspecified
  else if d.negotiated via < need then d.spdmError via SpdmErr.unexpectedRequest
  else f d

/-- Whether the identity key may be used (R373): not in RETURN, where the UDS is masked. -/
def Dev.identity (d : Dev) : Bool := d.lifecycle != lifeReturn && !d.wel.udsDestroyed

/-- A signature of the identity key (R375). -/
def Dev.signature (bs : List Byte) : List Byte := cut (Config.secret useSign (sha384 bs)) 0 96

/-! ## Negotiation and certificates -/

/-- R376: versions 1.2 and 1.3. -/
def execGetVersion (via : Transport) (s : State) : Host.Outcome State Fault Refusal :=
  s.become (s.dev.spdmServe via 0 (fun d => (d.setNegotiated via 1).spdmAnswer via 0x04 0 0 (toLe 2 0x0200 ++ toLe 2 0x1200 ++ toLe 2 0x1300)))

/-- R376: DataTransferSize and MaxSPDMmsgSize of 4096. -/
def execGetCapabilities (via : Transport) (s : State) : Host.Outcome State Fault Refusal :=
  s.become (s.dev.spdmServe via 1 (fun d => (d.setNegotiated via 2).spdmAnswer via 0x61 0 0 (toLe 4 0 ++ toLe 4 0 ++ toLe 4 4096 ++ toLe 4 4096)))

/-- R376: refused when the request offers none of the supported algorithms. -/
def execNegotiateAlgorithms (via : Transport) (supported : Bool) (s : State) : Host.Outcome State Fault Refusal :=
  s.become (s.dev.spdmServe via 2 (fun d =>
    if supported then (d.setNegotiated via 3).spdmAnswer via 0x63 0 0 [] else d.spdmError via SpdmErr.invalidRequest))

/-- The certificate chain of slot 0 (R375). -/
def certificate : List Byte := (Config.secret useCertificate []).take 1024

/-- R376. -/
def execGetDigests (via : Transport) (s : State) : Host.Outcome State Fault Refusal :=
  s.become (s.dev.spdmServe via 3 (fun d => d.spdmAnswer via 0x01 0 1 (cut (sha384 certificate) 0 48)))

/-- R376: slot 0 only. -/
def execGetCertificate (via : Transport) (slot offset length : Nat) (s : State) : Host.Outcome State Fault Refusal :=
  s.become (s.dev.spdmServe via 3 (fun d =>
    if slot ≠ 0 ∨ certificate.length < offset then d.spdmError via SpdmErr.invalidRequest
    else
      let part := (certificate.drop offset).take (min length 4000)
      d.spdmAnswer via 0x02 0 0 (toLe 2 part.length ++ toLe 2 (certificate.length - offset - part.length) ++ part)))

/-! ## Attestation -/

/-- Block 0x12: slice ID, incarnation, TDI state, SEQ. -/
def Dev.sliceBlock (d : Dev) (s : Nat) : List Byte :=
  let v := d.slice s
  toLe 2 s ++ toLe 1 v.incarnation ++ toLe 1 v.tdi.num ++ toLe 4 v.seq

/-- The value of a measurement block on a transport (R372): 0x10-0x12 only on the slice's own channel. -/
def Dev.blockOn (d : Dev) (via : Transport) (i : Nat) : Option (List Byte) :=
  match via with
  | .slice s =>
    if i = 0x10 then some (d.slice s).digest else if i = 0x11 then some (d.slice s).chain
    else if i = 0x12 then some (d.sliceBlock s) else if 1 ≤ i ∧ i ≤ 4 then some (d.block i) else none
  | _ => if 1 ≤ i ∧ i ≤ 4 then some (d.block i) else none

/-- The indices of the blocks of a transport. -/
def blockIndices (via : Transport) : List Nat :=
  match via with
  | .slice _ => [1, 2, 3, 4, 0x10, 0x11, 0x12]
  | _ => [1, 2, 3, 4]

/-- The type of a block in the DMTF format: digests of ROM and firmware, raw configuration (R372). -/
def blockType (i : Nat) : Nat := if i = 1 then 0 else if i = 2 ∨ i = 3 then 1 else if i = 4 then 0x83 else if i = 0x12 then 0x83 else 0x03

/-- A measurement block in the DMTF format. -/
def Dev.dmtfBlock (d : Dev) (via : Transport) (i : Nat) : List Byte :=
  match d.blockOn via i with
  | none => []
  | some v => toLe 1 i ++ toLe 1 1 ++ toLe 2 (v.length + 3) ++ toLe 1 (blockType i) ++ toLe 2 v.length ++ v

/-- All blocks of a transport: what a measurement summary hash covers. -/
def Dev.allBlocks (d : Dev) (via : Transport) : List Byte := (blockIndices via).flatMap (d.dmtfBlock via)

/-- R376: a signed answer with a fresh nonce. -/
def execChallenge (via : Transport) (slot : Nat) (nonce : List Byte) (s : State) : Host.Outcome State Fault Refusal :=
  s.become (s.dev.spdmServe via 3 (fun d =>
    if slot ≠ 0 then d.spdmError via SpdmErr.invalidRequest
    else if !d.identity then d.spdmError via SpdmErr.unspecified
    else
      let r := d.fresh
      let body := cut (sha384 certificate) 0 48 ++ toLe 32 r.1 ++ cut (sha384 (d.allBlocks via)) 0 48
      r.2.spdmAnswer via 0x03 0 1 (body ++ Dev.signature (nonce ++ body))))

/-- R372: index 0 asks for the number of blocks, 0xFF for all of them; signed when a nonce comes with the request. -/
def execGetMeasurements (via : Transport) (index : Nat) (nonce : Option (List Byte)) (s : State) :
    Host.Outcome State Fault Refusal :=
  s.become (s.dev.spdmServe via 3 (fun d =>
    let ids := blockIndices via
    if index ≠ 0 ∧ index ≠ 0xFF ∧ !ids.contains index then d.spdmError via SpdmErr.invalidRequest
    else if nonce.isSome ∧ !d.identity then d.spdmError via SpdmErr.unspecified
    else
      let bs := if index = 0 then [] else if index = 0xFF then d.allBlocks via else d.dmtfBlock via index
      let n := if index = 0 then ids.length else 0
      let head := toLe 1 (if index = 0 then 0 else if index = 0xFF then ids.length else 1) ++ toLe 3 bs.length ++ bs
      let r := d.fresh
      let body := head ++ toLe 32 r.1 ++ [0, 0]
      r.2.spdmAnswer via 0x60 n 0 (body ++ (match nonce with
        | some x => Dev.signature (x ++ body)
        | none => []))))

/-! ## Sessions -/

/-- Sessions at once on a transport (R377). -/
def sessionLimit : Transport → Nat
  | .pf0 _ | .pf1 _ => 4
  | .mctp => 2
  | .slice _ => 1

def Dev.sessionsOn (d : Dev) (via : Transport) : Nat :=
  d.wel.sessions.countP (fun e => (e.2.map (fun v => v.via == via)).getD false)

def Dev.setSpdmSession (d : Dev) (n : Nat) (v : Option SpdmSession) : Dev :=
  d.setWel { d.wel with sessions := Sparse.set (blank none) d.wel.sessions n v }

/-- KEY_EXCHANGE (R376, R377): a new session within the transport's limit. -/
def Dev.keyExchange (d : Dev) (via : Transport) (summary : Bool) : Dev :=
  if !d.identity then d.spdmError via SpdmErr.unspecified
  else if sessionLimit via ≤ d.sessionsOn via then d.spdmError via SpdmErr.sessionLimit
  else
    let n := d.wel.nextSession
    let r := d.fresh
    let d1 := r.2.setWel { r.2.wel with
      nextSession := n + 1
      sessions := Sparse.set (blank none) r.2.wel.sessions n (some { via := via }) }
    let body := toLe 2 n ++ [0, 0] ++ toLe 32 r.1 ++ cut (Config.secret useExchange (toLe 32 r.1)) 0 96
      ++ (if summary then cut (sha384 (d.allBlocks via)) 0 48 else [])
    d1.spdmAnswer via 0x64 60 0 (body ++ Dev.signature body ++ cut (Config.secret useRecord body) 0 48)

/-- R377. -/
def execKeyExchange (via : Transport) (summary : Bool) (s : State) : Host.Outcome State Fault Refusal :=
  s.become (s.dev.spdmServe via 3 (·.keyExchange via summary))

/-- A message inside a session: a message of a session that is not open cannot be read and is discarded. -/
def Dev.inSession (d : Dev) (n : Nat) (f : Dev → SpdmSession → Dev) : Dev :=
  match d.spdmSession n with
  | none => d
  | some v =>
    if !d.viaOpen v.via ∨ !d.domainOn 0 ∨ d.bootStage < 2 then d
    else f d v

/-- A session ends and its keys are erased (R377). -/
def Dev.endSession (d : Dev) (n : Nat) : Dev := d.endSessions (fun m _ => m == n)

/-- R376: FINISH establishes the session when its verify data is good. -/
def execFinish (session : Nat) (good : Bool) (s : State) : Host.Outcome State Fault Refusal :=
  s.become (s.dev.inSession session (fun d v =>
    if good ∧ !v.finished then
      (d.sealedAnswer session v.via 0x65 0 0 []).setSpdmSession session (some { v with finished := true })
    else (d.endSession session).spdmError v.via SpdmErr.decryptError))

/-- Inside an established session; before FINISH the request is unexpected. -/
def Dev.established (d : Dev) (n : Nat) (f : Dev → SpdmSession → Dev) : Dev :=
  d.inSession n (fun d v => if v.finished then f d v else d.spdmError v.via SpdmErr.unexpectedRequest)

/-- R377. -/
def execHeartbeat (session : Nat) (s : State) : Host.Outcome State Fault Refusal :=
  s.become (s.dev.established session (fun d v => d.sealedAnswer session v.via 0x68 0 0 []))

/-- R376: later messages use the next keys. -/
def execKeyUpdate (session : Nat) (s : State) : Host.Outcome State Fault Refusal :=
  s.become (s.dev.established session (fun d v =>
    (d.sealedAnswer session v.via 0x69 0 0 []).setSpdmSession session (some { v with epoch := v.epoch + 1 })))

/-- R377. -/
def execEndSession (session : Nat) (s : State) : Host.Outcome State Fault Refusal :=
  s.become (s.dev.established session (fun d v => (d.sealedAnswer session v.via 0x6C 0 0 []).endSession session))

/-- R377: two heartbeat periods without traffic. -/
def execSpdmSessionTimeout (session : Nat) (s : State) : Host.Outcome State Fault Refusal :=
  s.become (s.dev.endSession session)

/-- R377: AON answers MCTP control messages in every state with 3.3Vaux; Set Endpoint ID gives the endpoint ID. -/
def execMctpControlMessage (setEid : Option Nat) (s : State) : Host.Outcome State Fault Refusal :=
  s.become (
    let d := s.dev
    if !d.pwr.vaux then d
    else
      let eid := setEid.getD d.wel.eid % 256
      (d.setWel { d.wel with eid := eid }).emit (.spdm .mctp 0 (toLe 1 eid)))

/-! ## Vendor requests (R379, R380) -/

/-- The operations of R380. -/
def vendorOps : List Nat := [0x0001, 0x0002, 0x0003, 0x0010, 0x0011, 0x0012, 0x0013, 0x0020, 0x0030, 0x0031, 0x0040]

/-- The response payload in its 11-byte VENDOR_DEFINED_RESPONSE header: OP, STATUS, 0, the result. -/
def Dev.vendorAnswer (d : Dev) (r : VendorRequest) (code : Nat) (result : List Byte) : Dev :=
  let pay := cut r.payload 0 2 ++ toLe 1 code ++ [0] ++ result
  d.sealedAnswer r.session r.via 0x7E 0 0 (toLe 2 3 ++ toLe 1 2 ++ toLe 2 0x1E7C ++ toLe 2 pay.length ++ pay)

/-- A VENDOR_DEFINED_REQUEST (R379): outside a secure session it receives SessionRequired; a session is bound to its
transport (R377).  An OP that R380 does not list is MALFORMED (log entry 40). -/
def Dev.vendorRequest (d : Dev) (via : Transport) (session : Option Nat) (payload : List Byte) : Dev :=
  match session with
  | none => d.spdmServe via 0 (fun d => d.spdmError via SpdmErr.sessionRequired)
  | some n => d.established n (fun d v =>
      let r : VendorRequest := ⟨n, v.via, payload⟩
      if v.via ≠ via then d.spdmError via SpdmErr.sessionRequired
      else if vendorOps.contains (ofLe (cut payload 0 2)) then d.setWel { d.wel with requests := d.wel.requests ++ [r] }
      else d.vendorAnswer r Code.malformed [])

/-- R379. -/
def execVendorDefinedRequest (via : Transport) (session : Option Nat) (payload : List Byte) (s : State) :
    Host.Outcome State Fault Refusal :=
  s.become (s.dev.vendorRequest via session payload)

/-- The requester of R380: a slice, or PF0 (a PF0 DOE or MCTP session); a PF1 DOE session is neither. -/
def VendorRequest.owner (r : VendorRequest) : Option (Option Nat) :=
  match r.via with
  | .slice s => some (some s)
  | .pf0 _ | .mctp => some none
  | .pf1 _ => none

/-- The fields after OP and the two zero bytes. -/
def VendorRequest.field (r : VendorRequest) (o n : Nat) : Nat := ofLe (cut r.payload (4 + o) n)
/-- The payload is OP, two zero bytes and `n` bytes of fields. -/
def VendorRequest.sized (r : VendorRequest) (n : Nat) : Bool := r.payload.length == 4 + n && cut r.payload 2 2 == [0, 0]

/-- Welbor serves the oldest request when its OP is `op` and the ports it needs are free: `f` gives the code, the result and
the new state for the requester `owner` (none: PF0). -/
def Dev.vendorServe (d : Dev) (op : Nat) (ports : List PortInfo) (pf0 : Bool)
    (f : Dev → VendorRequest → Option Nat → Nat × List Byte × Dev) : Dev :=
  match d.wel.requests with
  | [] => d
  | r :: rest =>
    if ofLe (cut r.payload 0 2) ≠ op ∨ !(ports.all d.portFree) then d
    else
      let d1 := d.setWel { d.wel with requests := rest }
      match r.owner with
      | none => d1.vendorAnswer r Code.access []
      | some none =>
        if !pf0 then d1.vendorAnswer r Code.access []
        else let a := f d1 r none; a.2.2.vendorAnswer r a.1 a.2.1
      | some (some s) => let a := f d1 r (some s); a.2.2.vendorAnswer r a.1 a.2.1

/-- Whether key slot `k` belongs to the requester. -/
def Dev.ownsKey (d : Dev) (owner : Option Nat) (k : Nat) : Bool :=
  let v := d.keySlot k
  v.state != 0 && (match owner with
    | none => v.mgr
    | some s => !v.mgr && v.owner == s)

/-- Whether SA `n` (session `n`, volume `n`) belongs to slice `s`. -/
def Dev.ownsSa (d : Dev) (s n : Nat) : Bool := d.saValid n && !Sa.mgr (d.saWords n) && Sa.owner (d.saWords n) == s
def Dev.ownsSes (d : Dev) (s n : Nat) : Bool := d.sesValid n && !d.sesMgr n && bits (d.sesWord n 1) 0 12 == s
def Dev.ownsVol (d : Dev) (s n : Nat) : Bool := d.volValid n && !d.volMgr n && bits (d.volWord n 1) 0 12 == s

def Dev.pool (d : Dev) (kind : Nat) : Nat × Nat := Sparse.get (blank (0, 0)) d.wel.pools kind

/-- The lowest member of a pool that `free` accepts (R381). -/
def Dev.lowestFree (d : Dev) (kind : Nat) (free : Nat → Bool) : Option Nat :=
  let p := d.pool kind
  (List.range p.2).find? (fun i => free (p.1 + i)) |>.map (p.1 + ·)

/-- A member of a key pool is free (R381): EMPTY; for a pair an even slot whose odd partner in the pool is EMPTY too. -/
def Dev.keyFree (d : Dev) (pool : Nat × Nat) (pair : Bool) (k : Nat) : Bool :=
  (d.keySlot k).state == 0 && (!pair || (k % 2 == 0 && decide (k + 1 < pool.1 + pool.2) && (d.keySlot (k + 1)).state == 0))

/-- KEY_INSTALL (R380): lifecycle, form, quota, pool, then the INSTALL of R190. -/
def Dev.vendorInstall (d : Dev) (r : VendorRequest) (owner : Option Nat) : Nat × List Byte × Dev :=
  let w := r.field 0 4
  let pair := bitAt w 10
  let kind := if bitAt w 11 then 1 else 0
  let n := if pair then 2 else 1
  let v := d.slice (owner.getD 0)
  let code := firstFailure [(d.lifecycle == 1 || d.lifecycle == 2, Code.access),
    (r.sized (if pair then 132 else 68) && bits w 12 20 == 0, Code.malformed),
    (owner.isNone || decide (v.keyUsed + n ≤ v.keyQuota), Code.resource)]
  if code ≠ Code.ok then (code, [], d)
  else
    match d.lowestFree kind (d.keyFree (d.pool kind) pair) with
    | none => (Code.resource, [], d)
    | some k =>
      let d0 := bits w 0 1 * 2 ^ 18 + bits w 1 7 * 2 ^ 20 + bits w 8 1 * 2 ^ 27 + bits w 9 1 * 2 ^ 28
        + b2n (owner.isSome && v.isLocked) * 2 ^ 29
      let d1 := match owner with
        | some s => s + v.incarnation * 2 ^ 16
        | none => 2 ^ 12
      let a := d.keyInstall k pair false ([d0, d1, 0, 0].map (BitVec.ofNat 32)) (cut r.payload 8 64) (cut r.payload 72 64)
      let e := (a.2.clearKbuf).portEnd portKey a.1
      (a.1, if a.1 = Code.ok then toLe 4 k ++ toLe 2 (a.2.keySlot k).gen else [], e)

/-- R380. -/
def execKeyInstall (s : State) : Host.Outcome State Fault Refusal :=
  s.become (s.dev.vendorServe 0x0001 [portKey] true Dev.vendorInstall)

/-- R380. -/
def execKeyRetire (s : State) : Host.Outcome State Fault Refusal :=
  s.become (s.dev.vendorServe 0x0002 [portKey] true (fun d r owner =>
    let k := r.field 0 4
    if !r.sized 4 ∨ !d.ownsKey owner k then (Code.access, [], d)
    else (Code.ok, [], (d.keyRetire k).portEnd portKey Code.ok)))

/-- R380. -/
def execKeyQuery (s : State) : Host.Outcome State Fault Refusal :=
  s.become (s.dev.vendorServe 0x0003 [portKey] true (fun d r owner =>
    let k := r.field 0 4
    if !r.sized 4 ∨ !d.ownsKey owner k then (Code.access, [], d)
    else (Code.ok, wordBytes (d.keySlot k).desc, d.portEnd portKey Code.ok)))

/-- The SAs that a valid tenant SA names as successor, and the bitmap slots that SAs name (R381). -/
def Dev.saNames (d : Dev) (p : List Nat → Bool) : Bool :=
  (d.recordsIn (d.saAddr 0) 128 1048576).any (fun n => d.saValid n && p (d.saWords n))
def Dev.saFree (d : Dev) (n : Nat) : Bool :=
  !d.saValid n && !d.saNames (fun w => !Sa.mgr w && Sa.succValid w && Sa.succ w == n)
def Dev.bitmapFree (d : Dev) (n : Nat) : Bool := !d.saNames (fun w => Sa.mapped w && Sa.bmp w == n)

/-- SA_WRITE (R380): Welbor fills in the owner and the bitmap slot, and writes the lowest free SA of its pool. -/
def Dev.vendorSaWrite (d : Dev) (r : VendorRequest) (s : Nat) : Nat × List Byte × Dev :=
  let w := (List.range 32).map (fun i => leWord (r.payload.drop 4) i)
  let code := firstFailure [(r.sized 128, Code.malformed), (d.ownsKey (some s) (Sa.slot w), Code.access),
    (!Sa.succValid w || d.ownsSa s (Sa.succ w), Code.access)]
  if code ≠ Code.ok then (code, [], d)
  else
    match d.lowestFree 2 d.saFree, (if Sa.mapped w then d.lowestFree 3 d.bitmapFree else some (Sa.bmp w)) with
    | some n, some b =>
      let w1 := (w.set 3 (s + (d.slice s).incarnation * 2 ^ 16)).set 13 (setBits (nth w 13) 0 18 b)
      let a := d.saWrite true n w1
      (a.1, if a.1 = Code.ok then toLe 4 n else [], a.2.portEnd portSxp a.1)
    | _, _ => (Code.resource, [], d)

/-- R380. -/
def execSaWrite (s : State) : Host.Outcome State Fault Refusal :=
  s.become (s.dev.vendorServe 0x0010 [portSxp] false (fun d r owner => d.vendorSaWrite r (owner.getD 0)))

/-- A request that names one SA of the slice. -/
def Dev.vendorSa (d : Dev) (r : VendorRequest) (s : Nat) (f : Nat → Nat × List Byte × Dev) : Nat × List Byte × Dev :=
  let n := r.field 0 4
  if !r.sized 4 then (Code.access, [], d) else if !d.ownsSa s n then (Code.access, [], d.noteSa n) else let a := f n; (a.1, a.2.1, a.2.2.portEnd portSxp a.1)

/-- R380. -/
def execSaDisable (s : State) : Host.Outcome State Fault Refusal :=
  s.become (s.dev.vendorServe 0x0011 [portSxp] false (fun d r owner =>
    d.vendorSa r (owner.getD 0) (fun n => (Code.ok, [], d.saDisable n))))

/-- R380. -/
def execSaRoll (s : State) : Host.Outcome State Fault Refusal :=
  s.become (s.dev.vendorServe 0x0012 [portSxp] false (fun d r owner =>
    d.vendorSa r (owner.getD 0) (fun n => let a := d.saRoll true n; (a.1, [], a.2))))

/-- R380. -/
def execSaRead (s : State) : Host.Outcome State Fault Refusal :=
  s.become (s.dev.vendorServe 0x0013 [portSxp] false (fun d r owner =>
    d.vendorSa r (owner.getD 0) (fun n => (Code.ok, (d.saWords n).flatMap (toLe 4), d))))

/-- VOL_BIND_KEY (R380): an even XTS-capable slot of the slice, bound to its volume under R244. -/
def Dev.vendorVolBind (d : Dev) (r : VendorRequest) (s : Nat) : Nat × List Byte × Dev :=
  let v := r.field 0 4
  let k := r.field 4 4
  let key := d.keySlot k
  if !r.sized 16 then (Code.malformed, [], d)
  else if !d.ownsVol s v ∨ !d.ownsKey (some s) k ∨ k % 2 ≠ 0 ∨ !bitAt key.modes 6 then (Code.access, [], d)
  else
    let b := ((((List.replicate 16 0).set 0 8).set 8 k).set 9 key.gen).set 10 (r.field 8 4) |>.set 11 (r.field 12 4)
    let a := d.volBindKey v b
    (a.1, [], a.2.portEnd portSto a.1)

/-- R380. -/
def execVolBindKey (s : State) : Host.Outcome State Fault Refusal :=
  s.become (s.dev.vendorServe 0x0020 [portSto] false (fun d r owner => d.vendorVolBind r (owner.getD 0)))

/-- QUEUE_OP (R380): Welbor picks the lowest FREE device queue for CREATE and finds the others by LOCAL; it fills in the
owner. -/
def Dev.vendorQueue (d : Dev) (r : VendorRequest) (s : Nat) : Nat × List Byte × Dev :=
  let op := r.field 0 1
  let loc := r.field 4 2
  let w := (List.range 16).map (fun i => leWord (r.payload.drop 12) i)
  let w1 := w.set 1 (s + loc % 1024 * 2 ^ 16)
  let done (a : Nat × Dev) (res : List Byte) : Nat × List Byte × Dev := (a.1, if a.1 = Code.ok then res else [], a.2.portEnd portQue a.1)
  if !r.sized 72 ∨ r.field 1 3 ≠ 0 ∨ r.field 6 2 ≠ 0 ∨ 1023 < loc ∨ op = 0 ∨ 4 < op then (Code.malformed, [], d)
  else if op = 1 then
    match (List.range 65536).find? (fun q => (d.queue q).state == .free) with
    | none => (Code.resource, [], d)
    | some q => done (d.createQueue true q w1) (toLe 2 q)
  else
    match d.localQueue s loc with
    | none => (Code.access, [], d)
    | some q =>
      if op = 2 then done (d.modifyQueue true q w1) (toLe 2 q)
      else if op = 3 then done (d.destroyQueue true q) (toLe 2 q)
      else done (Code.ok, d.readQueue true q) ((d.ctxWords q).flatMap (toLe 4))

/-- R380. -/
def execQueueOp (s : State) : Host.Outcome State Fault Refusal :=
  s.become (s.dev.vendorServe 0x0030 [portQue] false (fun d r owner => d.vendorQueue r (owner.getD 0)))

/-- SES_CTL (R380): SES_GO, SES_CLOSE or SES_RESET as Welbor. -/
def Dev.vendorSes (d : Dev) (r : VendorRequest) (s : Nat) : Nat × List Byte × Dev :=
  let n := r.field 0 2
  let op := r.field 2 1
  if !r.sized 3 then (Code.malformed, [], d)
  else if !d.ownsSes s n then (Code.access, [], d)
  else if op < 8 ∨ 10 < op then (Code.malformed, [], d)
  else
    let d1 := d.setPort Page.sto { d.port Page.sto with run := some ⟨.welbor, op * 2 ^ 24 + n, []⟩ }
    let d2 := if op = 8 then d1.sesGo else if op = 9 then d1.sesClose else d1.sesReset
    (d2.fget Page.sto Reg.STO_OP_STAT_CODE, [], d2)

/-- R380. -/
def execSesCtl (s : State) : Host.Outcome State Fault Refusal :=
  s.become (s.dev.vendorServe 0x0031 [portSto] false (fun d r owner => d.vendorSes r (owner.getD 0)))

/-- R378, R380: the charter image N changes back. -/
def execCharterHistory (s : State) : Host.Outcome State Fault Refusal :=
  s.become (s.dev.vendorServe 0x0040 [] false (fun d r owner =>
    let v := d.slice (owner.getD 0)
    let n := r.field 0 1
    match v.images[n]? with
    | some img => if r.sized 1 ∧ n < 16 then (Code.ok, toLe 4 (wordAt img 16) ++ wordBytes img, d) else (Code.malformed, [], d)
    | none => (Code.malformed, [], d)))

end Sys2Proof.Machine
end

