-- ==== Sys2Proof/Machine/FaultTol.lean ====
section
/-!
DEFINITION. Fault tolerance (chapter 18): GDDR6 parity groups (R425-R427), control processor pairs (R428, R429), oscillators and
supplies (R423, R430, R431), service of units (R433-R436), logic and crossing faults (R424, R435), SRAM rows (R443) and ageing
(R442).
-/

namespace Sys2Proof.Machine

def Dev.setFt (d : Dev) (f : FaultTol) : Dev := { d with ft := f }

/-! ## GDDR6 -/

/-- A device is declared FAILED (R426). -/
def Dev.failDevice (d : Dev) (n cause : Nat) : Dev :=
  if d.memState n = 2 then d
  else
    let d1 := d.setFt { d.ft with memState := Sparse.set (fun _ => 0) d.ft.memState n 2 }
    let d2 := (d1.pulse 467).latchFault (Page.mem n) FaultBit.mem_DEV_FAILED
    d2.journalAdd { typ := 0x20, inst := n, kind := Kind.gddrDevFail, cls := 3, outcome := 0xFF, detail := [n, cause] }

/-- The rebuilds of a device within the last second, this one among them. -/
def Dev.recentRebuilds (d : Dev) (n : Nat) : List Nat :=
  (Sparse.get (blank []) d.ft.rebuilds n ++ [d.now]).filter (fun t => decide (d.now < t + 1000000000))

/-- A burst that SEC-DED cannot correct (R425), which MEM_UE_CNT counts (R446): rebuilt and written back, or uncorrectable when a further device of the group has
failed; 16 rebuilds within a second fail the device (R426). -/
def Dev.rebuildBurst (d : Dev) (n a : Nat) : Dev :=
  let p := Page.mem n
  if d.memState n ≠ 0 then d
  else
    let d0 := d.countSat p Reg.MEM_UE_CNT_CNT
    if d0.groupFailed n then
      if d0.ft.uncorrectable.contains (a / 64) then d0
      else d0.setFt { d0.ft with uncorrectable := d0.ft.uncorrectable ++ [a / 64] }
    else
      let times := d0.recentRebuilds n
      let d1 := d0.setFt { d0.ft with rebuilds := Sparse.set (blank []) d0.ft.rebuilds n times }
      let d2 := ((d1.count p Reg.MEM_REBUILD_CNT_CNT).latchFault p FaultBit.mem_BURST_UE).pulse 466
      let d3 := d2.journalAdd { typ := 0x20, inst := n, kind := Kind.gddrRebuild, cls := 2, work := 7, outcome := Code.ok,
                                ident := a, detail := [n] }
      if 16 ≤ times.length then d3.failDevice n 1 else d3

/-- R425, R426. -/
def execGddrBurstRebuild (device addr : Nat) (s : State) : Host.Outcome State Fault Refusal :=
  s.become (if device < 18 then s.dev.rebuildBurst device addr else s.dev)

/-- R426. -/
def execMemFailWrite (req : Requester) (device : Nat) (s : State) : Host.Outcome State Fault Refusal :=
  s.become (if device < 18 then s.dev.onWrite req (Page.mem device + Reg.MEM_CTL_FAIL.off) (·.failDevice device 3) else s.dev)

/-- A scrub round completes (R427): `corrected` bursts had a single-bit error and were rewritten, which MEM_CE_CNT counts
(R446).  A burst the round rebuilds is a GDDR_BURST_REBUILD of its own. -/
def Dev.scrubRound (d : Dev) (n corrected : Nat) : Dev :=
  if d.fget (Page.mem n) Reg.MEM_SCRUB_HOURS = 0 ∨ d.memState n ≠ 0 then d
  else (d.count (Page.mem n) Reg.MEM_CE_CNT_CNT corrected).pulse 468

/-- R427. -/
def execScrubRound (device corrected : Nat) (s : State) : Host.Outcome State Fault Refusal :=
  s.become (if device < 18 then s.dev.scrubRound device corrected else s.dev)

/-! ## Control processor pairs -/

def cpxRun : Nat := 0
def cpxFenced : Nat := 1
def cpxInBist : Nat := 2
def cpxFailed : Nat := 3
def cpxStandby : Nat := 4
def Dev.cpxState (d : Dev) (p : Nat) : Nat := d.fget (Page.cpx p) Reg.CPX_STAT_STATE

/-- The next pair in service in ascending order, wrapping; the pair itself when none is. -/
def Dev.takeover (d : Dev) (p : Nat) : Nat :=
  ([1, 2, 3].map (fun i => (p + i) % 4)).find? (fun q => d.cpxState q == cpxRun) |>.getD p

/-- A lockstep mismatch (R428): the pair is fenced and its work goes to the takeover pair, as does what it had itself taken
over. -/
def Dev.cpxMismatch (d : Dev) (p : Nat) : Dev :=
  if d.cpxState p ≠ cpxRun then d
  else
    let pg := Page.cpx p
    let d1 := d.fset pg Reg.CPX_STAT_STATE cpxFenced
    let t := d1.takeover p
    let d2 := [0, 1, 2, 3].foldl (fun (d : Dev) q =>
      if q = p ∨ (d.cpxState q ≠ cpxRun ∧ d.fget (Page.cpx q) Reg.CPX_STAT_TAKEOVER = p) then
        d.fset (Page.cpx q) Reg.CPX_STAT_TAKEOVER t else d) d1
    let d3 := ((d2.countSat pg Reg.CPX_MISMATCH_CNT_CNT).latchFault pg FaultBit.cpx_MISMATCH).pulse 481
    d3.journalAdd { typ := 0x21, inst := p, kind := Kind.cpxMismatch, cls := 2, outcome := 0xFF, detail := [p, t] }

/-- R428. -/
def execCpxMismatch (pair : Nat) (s : State) : Host.Outcome State Fault Refusal :=
  s.become (if pair < 4 then s.dev.cpxMismatch pair else s.dev)

/-- Fenced pairs begin their BIST (R428). -/
def Dev.startBists (d : Dev) : Dev :=
  [0, 1, 2, 3].foldl (fun (d : Dev) p =>
    if d.cpxState p = cpxFenced then d.fset (Page.cpx p) Reg.CPX_STAT_STATE cpxInBist else d) d

/-- The BIST of a fenced pair ends (R428). -/
def Dev.cpxBist (d : Dev) (p : Nat) (pass : Bool) : Dev :=
  if d.cpxState p ≠ cpxFenced ∧ d.cpxState p ≠ cpxInBist then d
  else if pass then d.fset (Page.cpx p) Reg.CPX_STAT_STATE cpxStandby
  else ((d.fset (Page.cpx p) Reg.CPX_STAT_STATE cpxFailed).latchFault (Page.cpx p) FaultBit.cpx_BIST_FAIL).pulse 485

/-- R428. -/
def execCpxBistEnd (pair : Nat) (pass : Bool) (s : State) : Host.Outcome State Fault Refusal :=
  s.become (if pair < 4 then s.dev.cpxBist pair pass else s.dev)

/-- CPX_RETURN.GO on a STANDBY pair (R429). -/
def Dev.cpxReturn (d : Dev) (p : Nat) : Dev :=
  if d.cpxState p = cpxStandby then d.fset (Page.cpx p) Reg.CPX_STAT_STATE cpxRun else d

/-- R429. -/
def execCpxReturn (req : Requester) (pair : Nat) (s : State) : Host.Outcome State Fault Refusal :=
  s.become (if pair < 4 then s.dev.onWrite req (Page.cpx pair + Reg.CPX_RETURN_GO.off) (·.cpxReturn pair) else s.dev)

/-! ## Clocks and supplies -/

/-- A record that names the oscillator in use (R430, R459). -/
def Dev.noteOscillator (d : Dev) (n : Nat) : Dev :=
  d.journalAdd { typ := 0x04, inst := 0, kind := Kind.oscSwitch, cls := 3, outcome := 0xFF, detail := [n] }

/-- A reference oscillator is declared failed (R430): the other takes over; with both failed the PLLs hold over. -/
def Dev.oscillatorFail (d : Dev) (n : Nat) : Dev :=
  let f := if n = 0 then { d.ft with osc0Failed := true } else { d.ft with osc1Failed := true }
  if f.osc0Failed ∧ f.osc1Failed then d.setFt { f with holdover := true }
  else if f.oscUsed = n then (d.setFt { f with oscUsed := 1 - n }).noteOscillator (1 - n)
  else d.setFt f

/-- R430. -/
def execOscillatorFail (oscillator : Nat) (s : State) : Host.Outcome State Fault Refusal :=
  s.become (if oscillator < 2 then s.dev.oscillatorFail oscillator else s.dev)

/-- Holdover ends (R424, R430): links lose lock and leave UP. -/
def Dev.holdoverEnd (d : Dev) : Dev := if d.ft.holdover then d.dropMacs (fun _ => true) true false else d

/-- R430. -/
def execHoldoverExpiry (s : State) : Host.Outcome State Fault Refusal := s.become s.dev.holdoverEnd

/-- The 10 MHz input in use shows no edge (R459): the timing clock takes the selected module oscillator until REF is written. -/
def Dev.refLoss (d : Dev) : Dev :=
  if d.fbit Page.tim Reg.TIM_CTL_REF ∧ !d.tim.refLost then
    { d with tim := { d.tim with refLost := true } }.noteOscillator d.ft.oscUsed
  else d

/-- R459. -/
def execRefInputLoss (s : State) : Host.Outcome State Fault Refusal := s.become s.dev.refLoss

/-- A converter phase fails and is shed until reset (R423, R431). -/
def Dev.shedPhase (d : Dev) (rail phase : Nat) : Dev :=
  if d.ft.shed.contains (rail, phase) then d
  else (d.setFt { d.ft with shed := d.ft.shed ++ [(rail, phase)] }).journalAdd
    { typ := 0x05, inst := 0, kind := Kind.phaseShed, cls := 3, outcome := 0xFF, detail := [rail, phase] }

/-- R423. -/
def execPhaseShed (rail phase : Nat) (s : State) : Host.Outcome State Fault Refusal := s.become (s.dev.shedPhase rail phase)

/-! ## Service of units (R433-R436) -/

/-- SVC_PUNTY.STATE and UNIT_STATE. -/
def svcFree : Nat := 0
def svcSync : Nat := 1
def svcStanding : Nat := 3
def svcReturn : Nat := 4
def unitDrain : Nat := 0
def unitBist : Nat := 1
def unitPassed : Nat := 2
def unitFailed : Nat := 3

/-- The code of an OUT request (R433). -/
def Dev.svcOutCode (d : Dev) (req : Requester) (code inst : Nat) : Nat :=
  match puntyOfType code with
  | none => Code.malformed
  | some t => firstFailure [(d.fget Page.svc (puntyState t) == svcFree && !(d.punty t).failed, Code.resource),
      (decide (inst < puntyCount t), Code.malformed), (t != puntyBlp || !req.isManager, Code.access)]

/-- A write of SVC_REQ with GO = 1. -/
def Dev.svcRequest (d : Dev) (req : Requester) (action code inst : Nat) (f : Dev → Nat × Dev) : Dev :=
  d.onWrite req (Page.svc + Reg.SVC_REQ_GO.off) (fun d =>
    let d1 := ((d.fset Page.svc Reg.SVC_REQ_ACTION action).fset Page.svc Reg.SVC_REQ_TYPE code).fset Page.svc
      Reg.SVC_REQ_INSTANCE inst
    let r := f d1
    r.2.fset Page.svc Reg.SVC_REQ_STAT_CODE r.1)

/-- OUT (R433): SYNC starts. -/
def Dev.svcOut (d : Dev) (req : Requester) (code inst : Nat) : Dev :=
  d.svcRequest req 0 code inst (fun d =>
    let c := d.svcOutCode req code inst
    (c, if c = Code.ok then d.svcStart ((puntyOfType code).getD 0) inst else d))

/-- R433. -/
def execSvcOut (req : Requester) (type inst : Nat) (s : State) : Host.Outcome State Fault Refusal :=
  s.become (s.dev.svcOut req type inst)

/-- The unit returns (R433): SYNC in the opposite direction. -/
def Dev.svcBack (d : Dev) (t : Nat) : Dev :=
  (d.fset Page.svc (puntyState t) svcReturn).setPunty t { d.punty t with switchedBack := false }

/-- IN (R433): of a PASSED unit; a FAILED one, or one that is not out of service and PASSED, is refused with ACCESS (log
entry 41). -/
def Dev.svcIn (d : Dev) (req : Requester) (code inst : Nat) : Dev :=
  d.svcRequest req 1 code inst (fun d =>
    match puntyOfType code with
    | none => (Code.malformed, d)
    | some t =>
      if puntyCount t ≤ inst then (Code.malformed, d)
      else if d.fget Page.svc (puntyState t) = svcStanding ∧ d.fget Page.svc (puntyInst t) = inst
          ∧ d.fget Page.svc (puntyUnitState t) = unitPassed then (Code.ok, d.svcBack t)
      else (Code.access, d))

/-- R433. -/
def execSvcIn (req : Requester) (type inst : Nat) (s : State) : Host.Outcome State Fault Refusal :=
  s.become (s.dev.svcIn req type inst)

/-- Copy a gaffer unit's program store to another unit. -/
def Dev.copyStore (d : Dev) (src dst : Nat) : Dev :=
  let keep := d.store.filter (fun e => e.1 / 4096 != dst)
  let mine := (d.store.filter (fun e => e.1 / 4096 == src)).map (fun e => (dst * 4096 + e.1 % 4096, e.2))
  let lower := keep.filter (fun e => decide (e.1 < dst * 4096))
  let upper := keep.filter (fun e => decide (dst * 4096 + 4096 ≤ e.1))
  { d with store := lower ++ mine ++ upper }

/-- Whether a gaffer cluster's active-bank CRC equals GAFG_ACTIVE_CRC (R433, R75). -/
def Dev.crcGood (d : Dev) (n : Nat) : Bool :=
  d.fget (Page.gaf n) (crcFld d.activeBank) == d.fget Page.gafg Reg.GAFG_ACTIVE_CRC_CRC

/-- SYNC ends and the switch takes place (R433, R434); the cells of the LEH cluster that now takes work run their known-answer
tests. -/
def Dev.svcSynced (d : Dev) (t : Nat) : Dev :=
  let st := d.fget Page.svc (puntyState t)
  let n := d.fget Page.svc (puntyInst t)
  if st = svcSync then
    let d1 := if t = puntyGaf then d.copyStore n (puntyCount t) else if t = puntyLeh then d.testCluster (puntyCount t) else d
    (d1.fset Page.svc (puntyState t) svcStanding).fset Page.svc (puntyUnitState t) unitDrain
  else if st = svcReturn ∧ !(d.punty t).switchedBack ∧ (t ≠ puntyGaf ∨ d.crcGood n) then
    let d1 := if t = puntyGaf then d.copyStore (puntyCount t) n else if t = puntyLeh then d.testCluster n else d
    d1.setPunty t { d1.punty t with switchedBack := true }
  else d

/-- R433. -/
def execSvcSyncEnd (unit : Nat) (s : State) : Host.Outcome State Fault Refusal :=
  s.become (if unit < 5 then s.dev.svcSynced unit else s.dev)

/-- Whether a unit still has work that it had accepted. -/
def Dev.unitBusy (d : Dev) (t u : Nat) : Bool :=
  if t = puntyGaf then d.ctxs.any (fun e => e.1 / 128 == u)
  else if t = puntyCls then d.packets.any (fun e => e.2.stage == .walking u)
  else if t = puntyLeh then d.lehr.cells.any (fun e => e.1 / 256 == u)
  else false

/-- An SVC record (R433, R438). -/
def Dev.svcRecord (d : Dev) (t n action step : Nat) (failed : Bool) : Dev :=
  (d.pulse 484).journalAdd { typ := puntyTypeCode t, inst := n, kind := Kind.svc, cls := if failed then 4 else 2, outcome := 0xFF,
                             detail := [action + step * 2 ^ 8 + b2n failed * 2 ^ 16] }

/-- DRAIN ends (R433): BIST starts; on the way back the punty is FREE. -/
def Dev.svcDrained (d : Dev) (t : Nat) : Dev :=
  let st := d.fget Page.svc (puntyState t)
  let n := d.fget Page.svc (puntyInst t)
  if st = svcStanding ∧ d.fget Page.svc (puntyUnitState t) = unitDrain ∧ !d.unitBusy t n then
    d.fset Page.svc (puntyUnitState t) unitBist
  else if st = svcReturn ∧ (d.punty t).switchedBack ∧ !d.unitBusy t (puntyCount t) then
    ((d.fset Page.svc (puntyState t) svcFree).setPunty t {}).svcRecord t n 1 4 false
  else d

/-- R433. -/
def execSvcDrainEnd (unit : Nat) (s : State) : Host.Outcome State Fault Refusal :=
  s.become (if unit < 5 then s.dev.svcDrained unit else s.dev)

/-- The fences of a unit are cleared (R73, R196, R433). -/
def Dev.clearFences (d : Dev) (t n : Nat) : Dev :=
  let d1 := d.setFt { d.ft with fenced := d.ft.fenced.filter (· != t * 256 + n) }
  if t = puntyGaf then
    { d1 with fencedCtx := d1.fencedCtx.filter (fun c => c / 128 != n), gafStopped := d1.gafStopped.filter (· != n) }
  else if t = puntyLeh then
    d1.setLehr { d1.lehr with fenced := d1.lehr.fenced.filter (fun c => c / 256 != n)
                              fencedUnits := d1.lehr.fencedUnits.filter (· != n) }
  else d1

/-- BIST of a gated cluster ungates it for its time (R436). -/
def Dev.bistGate (d : Dev) (t n : Nat) : Dev :=
  if (t = puntyGaf ∧ bitAt d.pwr.gafGated n) ∨ (t = puntyLeh ∧ bitAt d.pwr.lehGated n) then (d.pulse 37).pulse 37 else d

/-- BIST ends (R433, R435). -/
def Dev.svcTested (d : Dev) (t : Nat) (pass : Bool) : Dev :=
  let n := d.fget Page.svc (puntyInst t)
  if d.fget Page.svc (puntyState t) ≠ svcStanding ∨ d.fget Page.svc (puntyUnitState t) ≠ unitBist then d
  else if pass then
    let d1 := (((d.bistGate t n).fset Page.svc (puntyUnitState t) unitPassed).clearFences t n).svcRecord t n 0 5 false
    if d1.fbit Page.svc Reg.SVC_CTL_AUTO_RETURN then d1.svcBack t else d1
  else (((d.bistGate t n).fset Page.svc (puntyUnitState t) unitFailed).pulse 485).svcRecord t n 0 5 true

/-- R433. -/
def execSvcBistEnd (unit : Nat) (pass : Bool) (s : State) : Host.Outcome State Fault Refusal :=
  s.become (if unit < 5 then s.dev.svcTested unit pass else s.dev)

/-! ## Logic and crossing faults (R424, R435, R36) -/

/-- The punty type of a page's units. -/
def puntyOfKind (k : PageKind) : Option Nat :=
  match k with
  | .gaf => some puntyGaf
  | .cls => some puntyCls
  | .tbl => some puntyTbl
  | .leh => some puntyLeh
  | .blp => some puntyBlp
  | _ => none

/-- Walks on a faulting engine are issued again on another one (R435). -/
def Dev.moveWalks (d : Dev) (e : Nat) : Dev :=
  let other := ((List.range 16).find? (fun k => k != e && d.accepts (Page.cls k) && d.hasUnit puntyCls k)).getD (puntyCount puntyCls)
  (d.packets.map (·.1)).foldl (fun (d : Dev) h =>
    let p := d.packet h
    if p.stage = .walking e then d.setPacket h { p with stage := .walking other } else d) d

/-- A unit of the five types faults (R435): its work moves, and it is taken out or fenced; a mover without a stand-in ends in
ERROR (R424). -/
def Dev.unitFault (d : Dev) (t n : Nat) : Dev :=
  let d1 := if t = puntyCls then d.moveWalks n else d
  let d2 := d1.svcAuto t n true
  if t = puntyBlp ∧ !d2.hasUnit t n ∧ (d2.moverState n = moverRun ∨ d2.moverState n = moverWait) then
    d2.moverFail n MoverErr.dataUe
  else d2

/-- A not-covered record for a piece of work (R424, R437). -/
def logicRecord (typ inst check work ident : Nat) (stamp : Stamp) : FaultRecord :=
  { typ := typ, inst := inst, kind := Kind.logic, cls := 5, work := work, outcome := Code.fault, ident := ident
    owner := ownerWord stamp, detail := [check] }

/-- The packets held in a pipeline, at most 64, are lost: dropped as CELL_UE (R424) once their records have reached MRAM (R439). -/
def Dev.dropPipeline (d : Dev) (typ inst check : Nat) (sel : Packet → Bool) : Dev :=
  let hs := ((d.packets.filter (fun e => sel e.2)).map (·.1)).take 64
  hs.foldl (fun (d : Dev) h =>
    let d1 := d.journalAdd (logicRecord typ inst check 1 (handleWord h (d.packet h).gen + 2 ^ 32) (d.packet h).stamp)
    d1.setStage h (.lost d1.journal.accepted)) d

/-- Whether a packet is lost and its record has reached MRAM. -/
def Dev.lostKnown (d : Dev) (p : Packet) : Bool :=
  match p.stage with
  | .lost n => d.journalReached n
  | _ => false

/-- The lost packets whose records have reached MRAM are dropped (R424, R439). -/
def Dev.dropLost (d : Dev) : Dev :=
  ((d.packets.filter (fun e => d.lostKnown e.2)).map (·.1)).foldl (fun (d : Dev) h => d.dropPacket h Drop.cellUe) d

/-- R439, R437: one queued fault record reaches MRAM. -/
def execJournalRecordWrite (s : State) : Host.Outcome State Fault Refusal := s.become s.dev.journalWrite.dropLost

/-- Queue entries on which work has begun end with FAULT after their record (R424, R439). -/
def Dev.faultEntries (d : Dev) (typ inst check : Nat) (sel : Nat → Bool) : Dev :=
  (d.queues.map (·.1)).foldl (fun (d : Dev) q =>
    if !sel q then d
    else ((d.queue q).entries.filter (fun e => e.started && e.ended.isNone)).foldl (fun (d : Dev) e =>
      let d1 := d.journalAdd (logicRecord typ inst check 2 (q + e.qgen * 2 ^ 16 + e.index * 2 ^ 32) (d.qStamp q))
      (d1.modEntry q e.index (fun x => { x with journal := d1.journal.accepted })).endWith q e.index Code.fault 0) d) d

/-- Whether the progress of a storage entry is known when an internal fault stops it: none of its wire commands has data between
the wire and the tenant's buffers, in the lehr or not yet placed.  DESIGN CHOICE (log entry 114). -/
def Dev.progressKnown (d : Dev) (q idx : Nat) : Bool :=
  (d.wiresOf q idx).all (fun n => match d.wire n with
    | some w => w.phase != .encrypting && w.placed == w.received
    | none => true)

/-- Code and DETAIL of a storage entry that an internal fault interrupts (R244). -/
def Dev.faultFate (d : Dev) (q idx : Nat) : Nat × Nat :=
  if d.progressKnown q idx then (Code.partialDone, 0x0D) else (Code.fault, 0)

/-- Sessions with wire commands under way are reset, and their entries end with PARTIAL, DETAIL 0x0D, or with FAULT (R244,
R424). -/
def Dev.stoFault (d : Dev) (check : Nat) : Dev :=
  let ses := (d.sto.wires.filterMap (fun e => e.2.map (·.session))).dedup
  ses.foldl (fun (d : Dev) s =>
    let d1 := (d.sesEntries s).foldl (fun (d : Dev) e =>
      let r := d.journalAdd { logicRecord 0x1D 0 check 2 (e.1 + e.2 * 2 ^ 32) (d.qStamp e.1) with outcome := (d.faultFate e.1 e.2).1 }
      r.modEntry e.1 e.2 (fun x => { x with journal := r.journal.accepted })) d
    d1.resetSessionAs s (fun d => d.faultFate)) d

/-- A fault of a block without a punty (R424). -/
def Dev.blockFault (d : Dev) (k : PageKind) (inst check : Nat) : Dev :=
  match k with
  | .actg | .cru => d.dropPipeline k.typeCode inst check (fun p => p.stage == .acting)
  | .sxp => d.dropPipeline k.typeCode inst check (fun p => p.stage == .cipher)
  | .sto => d.stoFault check
  | .que => d.faultEntries k.typeCode inst check (fun _ => true)
  | .hif => (d.faultEntries k.typeCode inst check (fun q => d.qPort q == inst)).aerError inst 0 AerBit.internal false []
  | .mac => d.dropMacs (fun m => m == inst) false false
  | .pcs => d.dropMacs (fun m => m / 8 == inst) true false
  | k => d.journalAdd (logicRecord k.typeCode inst check 0 0 none)

/-- A logic parity fault in the block of a page (R424, R435). -/
def Dev.logicFault (d : Dev) (page check : Nat) : Dev :=
  match d.pageAt page with
  | none => d
  | some (k, n) =>
    if !d.pagePowered k n then d
    else match puntyOfKind k with
      | some t => (d.journalAdd { typ := k.typeCode, inst := n, kind := Kind.logic, cls := 2, outcome := 0xFF,
                                  detail := [check] }).unitFault t n
      | none => d.blockFault k n check

/-- R435. -/
def execLogicParityFault (page checkPoint : Nat) (s : State) : Host.Outcome State Fault Refusal :=
  s.become (s.dev.logicFault page checkPoint)

/-- A parity error on a crossing into a block (R36, R423): retried once; a retry that fails is a unit fault. -/
def Dev.crossingError (d : Dev) (page sender : Nat) (good : Bool) : Dev :=
  match d.pageAt page with
  | none => d
  | some (k, n) =>
    if !d.pagePowered k n then d
    else if good then
      let d1 := d.latchFault (pageBase page) faultXing
      if k = .hif then d1.aerCorrectable n 0 AerBit.correctedInternal [] else d1
    else
      let d1 := d.journalAdd { typ := k.typeCode, inst := n, kind := Kind.xingFail, cls := 2, outcome := 0xFF, detail := [sender] }
      match puntyOfKind k with
      | some t => d1.unitFault t n
      | none => d1.blockFault k n 0

/-- R36. -/
def execCrossingParityError (page sender : Nat) (retryGood : Bool) (s : State) : Host.Outcome State Fault Refusal :=
  s.become (s.dev.crossingError page sender retryGood)

/-! ## SRAM rows (R443) -/

def Dev.sparesLeft (d : Dev) (bank : Nat) : Nat := 16 - Sparse.get (fun _ => 0) d.ft.sparesUsed bank

/-- FLT_SPARE_MIN: the bank with the fewest spares left. -/
def Dev.showSpares (d : Dev) (bank : Nat) : Dev :=
  let left := d.sparesLeft bank
  if left < d.fget Page.flt Reg.FLT_SPARE_MIN_LEFT then
    (d.fset Page.flt Reg.FLT_SPARE_MIN_LEFT left).fset Page.flt Reg.FLT_SPARE_MIN_BANK bank
  else d

/-- A row is spared, journaled and kept in the MRAM; the last spare sets SPARES_OUT and pulses event 487. -/
def Dev.spareRow (d : Dev) (bank row : Nat) : Dev :=
  if d.sparesLeft bank = 0 then d
  else
    let d1 := d.setFt { d.ft with
      sparesUsed := Sparse.set (fun _ => 0) d.ft.sparesUsed bank (16 - d.sparesLeft bank + 1)
      spared := d.ft.spared ++ [bank * 1024 + row]
      rowErrors := Sparse.set (blank []) d.ft.rowErrors (bank * 1024 + row) [] }
    let left := d1.sparesLeft bank
    let d2 := (d1.journalAdd { typ := 0x08, inst := 0, kind := Kind.rowSpared, cls := 1, outcome := 0xFF,
                               detail := [bank, row, left] }).showSpares bank
    if left = 0 then (d2.latchFault Page.flt FaultBit.flt_SPARES_OUT).pulse 487 else d2

/-- 24 hours in ns. -/
def dayNs : Nat := 86400000000000

/-- The line of the on-die store that an uncorrectable word of a tree-store row lies in; which of the row's four lines is not
stated. -/
def treeLine (bank row : Nat) : Nat := (bank - 384) * 4096 + row * 4 + Config.unstated 40 [bank, row] % 4

/-- An uncorrectable word in the table SRAM (R128, R405). Its row holds words of the table cache, which GDDR6 gives again, of the Bloom
store, or of the overflow tags; which is not stated, nor which tag. -/
def Dev.tableError (d : Dev) (bank row : Nat) : Dev :=
  let w := Config.unstated 42 [bank, row] % 1572864
  if w < 524288 ∧ !d.ovfBad.contains w then { d with ovfBad := d.ovfBad ++ [w] } else d

/-- An SRAM error (R36, R443): three corrected errors of a row within 24 hours, or one uncorrectable error, spare the row. -/
def Dev.sramError (d : Dev) (bank row page : Nat) (corrected : Bool) : Dev :=
  match d.pageAt page with
  | none => d
  | some (k, n) =>
    if corrected then
      let key := bank * 1024 + row
      let times := (Sparse.get (blank []) d.ft.rowErrors key ++ [d.now]).filter (fun t => decide (d.now < t + dayNs))
      let d1 := (d.setFt { d.ft with rowErrors := Sparse.set (blank []) d.ft.rowErrors key times }).latchFault (pageBase page) faultSramCe
      if 3 ≤ times.length then d1.spareRow bank row else d1
    else
      let d1 := (d.latchFault (pageBase page) faultSramUe).journalAdd
        { typ := k.typeCode, inst := n, kind := Kind.sramUe, cls := 2, outcome := 0xFF, detail := [bank, row] }
      let line := treeLine bank row
      let d1 := if 512 ≤ bank ∧ bank < 608 then d1.tableError bank row else d1
      let d2 := if 384 ≤ bank ∧ bank < 512 ∧ !d1.ft.dieUncorrectable.contains line then
          d1.setFt { d1.ft with dieUncorrectable := d1.ft.dieUncorrectable ++ [line] } else d1
      d2.spareRow bank row

/-- R443: banks 0-639 of 1024 rows. -/
def execSramError (bank row page : Nat) (corrected : Bool) (s : State) : Host.Outcome State Fault Refusal :=
  s.become (if bank < 640 ∧ row < 1024 then s.dev.sramError bank row page corrected else s.dev)

/-! ## Ageing (R442) -/

/-- The islands of R11. -/
def islandCount : Nat := 9

/-- An island's supply in mV; 790 until the first step (log entry 42). -/
def Dev.supply (d : Dev) (i : Nat) : Nat := Sparse.get (fun _ => 790) d.ft.supply i

/-- FLT_AGE_MIN: the island with the least margin. -/
def Dev.showMargin (d : Dev) : Dev :=
  match d.ft.margin with
  | [] => d
  | m :: rest =>
    let least := rest.foldl (fun (a b : Nat × Nat) => if b.2 < a.2 then b else a) m
    (d.fset Page.flt Reg.FLT_AGE_MIN_ISLAND least.1).fset Page.flt Reg.FLT_AGE_MIN_MARGIN least.2

/-- The margin of an island, in 0.1 % (R442): its supply follows in steps of 5 mV within 750-830 mV. -/
def Dev.avsStep (d : Dev) (i margin : Nat) : Dev :=
  let v := d.supply i
  let new := if margin < 30 ∧ v < 830 then v + 5 else if 60 < margin ∧ 750 < v then v - 5 else v
  let d1 := (d.setFt { d.ft with
    supply := Sparse.set (fun _ => 790) d.ft.supply i new
    margin := (d.ft.margin.filter (fun e => e.1 != i)) ++ [(i, margin)] }).showMargin
  let d2 := if new ≠ v then d1.journalAdd { typ := 0x08, inst := 0, kind := Kind.avs, cls := 2, outcome := 0xFF,
                                            detail := [i, new] } else d1
  if v = 830 ∧ margin < 20 then (d2.latchFault Page.flt FaultBit.flt_AGE_LIMIT).pulse 487 else d2

/-- R442. -/
def execAvsStep (island margin : Nat) (s : State) : Host.Outcome State Fault Refusal :=
  s.become (if island < islandCount then s.dev.avsStep island margin else s.dev)

end Sys2Proof.Machine
end

