-- ==== Sys2Proof/Machine/TimeBase.lean ====
section
/-!
DEFINITION. The time base (R411-R414, R459): the PTP clock, PPS, the AON counter and its slow sources, the entry record and the
restoration of the clock.
-/

namespace Sys2Proof.Machine

def Dev.setTim (d : Dev) (t : Time) : Dev := { d with tim := t }

/-- PTP time in the layout of TIM wide value 0x0001 (R420). -/
def Time.layout (t : Time) : Nat := t.frac % 2 ^ 16 + t.ns % 2 ^ 32 * 2 ^ 16 + t.sec % 2 ^ 48 * 2 ^ 48

/-- PTP time as a number of 2^-16 ns. -/
def Time.units (t : Time) : Nat := (t.sec * 1000000000 + t.ns) * 65536 + t.frac

/-- Set the PTP time to a number of 2^-16 ns; seconds wrap at 2^48. -/
def Time.ofUnits (t : Time) (u : Nat) : Time :=
  { t with frac := u % 65536, ns := u / 65536 % 1000000000, sec := u / 65536 / 1000000000 % 2 ^ 48 }

/-- Nanoseconds wrap into seconds (R411): event 6, and PPS out rises when it is enabled. -/
def Dev.secondWrap (d : Dev) : Dev :=
  let t := d.tim
  (d.setTim { t with sec := (t.sec + 1) % 2 ^ 48, ns := t.ns - 1000000000
                     ppsOut := t.ppsOut || d.fbit Page.tim Reg.TIM_CTL_PPS_OUT_EN }).pulse 6

/-- R411: the clock reaches its next second. -/
def execPtpSecondWrap (s : State) : Host.Outcome State Fault Refusal :=
  s.become (if s.dev.domainOn 5 then
    (s.dev.setTim { s.dev.tim with ns := 1000000000, frac := 0 }).secondWrap else s.dev)

/-- R411: PPS out falls PPS_WIDTH after it rose. -/
def execPpsWidthExpiry (s : State) : Host.Outcome State Fault Refusal :=
  s.become (s.dev.setTim { s.dev.tim with ppsOut := false })

/-- R357, R411: a rising edge of PPS in pulses source 504; its time is TIM wide value 0x0004. -/
def execPpsInEdge (s : State) : Host.Outcome State Fault Refusal :=
  s.become ((if s.dev.domainOn 5 then s.dev.wset Page.tim 4 s.dev.tim.layout else s.dev).pulse 504)

/-- TIM_COARSE is cleared; event 7 pulses when it was set (R356, R412, R414). -/
def Dev.clearCoarse (d : Dev) : Dev :=
  if d.fbit Page.tim Reg.TIM_COARSE_COARSE then (d.fset Page.tim Reg.TIM_COARSE_COARSE 0).pulse 7 else d

/-- A commit of wide value 0x0002 loads the clock (R412). -/
def Dev.loadClock (d : Dev) (v : Nat) : Dev :=
  ((d.wset Page.tim 2 (v % 2 ^ 96)).setTim { d.tim with frac := bits v 0 16, ns := bits v 16 32, sec := bits v 48 48, rest := 0 }).clearCoarse

/-- A commit of wide value 0x0003 adds a signed offset in 2^-16 ns (R412); the clock wraps at 2^48 seconds. -/
def Dev.offsetClock (d : Dev) (v : Nat) : Dev :=
  let whole : Int := 2 ^ 48 * 1000000000 * 65536
  let u := ((d.tim.units : Int) + signed 64 v) % whole
  ((d.wset Page.tim 3 (v % 2 ^ 64)).setTim (d.tim.ofUnits u.toNat)).clearCoarse

/-- A commit of a TIM wide value through its mailbox (R43). -/
def Dev.timCommit (d : Dev) (req : Requester) (index : Nat) (f : Dev → Nat → Dev) : Dev :=
  d.onWrite req (Page.tim + 0x20) (fun d =>
    let d1 := d.wmbSelect Page.tim index
    (f d1 (d1.wmbData Page.tim)).wmbDone Page.tim)

/-- R412. -/
def execPtpClockLoad (req : Requester) (s : State) : Host.Outcome State Fault Refusal :=
  s.become (s.dev.timCommit req 2 Dev.loadClock)

/-- R412. -/
def execPtpOffsetAdjust (req : Requester) (s : State) : Host.Outcome State Fault Refusal :=
  s.become (s.dev.timCommit req 3 Dev.offsetClock)

/-- No crystal edge for 4 windows (R413): the slow clock switches to the RC oscillator until a reset. -/
def Dev.crystalFail (d : Dev) : Dev :=
  if d.tim.slowRc ∨ !d.pwr.vaux then d
  else (d.setTim { d.tim with slowRc := true, switchedAt := some d.tim.aonCount }).pulse 40

/-- R413. -/
def execSlowCrystalFail (s : State) : Host.Outcome State Fault Refusal := s.become s.dev.crystalFail

/-- R413: a frequency measured over 2^20 slow cycles, in RUN, LEAN and DOZE, of a source that runs. -/
def execSlowFreqMeasure (source : Nat) (frequency : BitVec 64) (s : State) : Host.Outcome State Fault Refusal :=
  s.become (if source < 2 ∧ s.dev.domainOn 5 ∧ ¬ (source = 0 ∧ s.dev.tim.slowRc) then
    s.dev.wset Page.tim (0x10 + source) frequency.toNat else s.dev)

/-- The entry record (R413). -/
def Dev.captureEntry (d : Dev) : Dev :=
  let t := d.tim
  d.setTim { t with record := some {
    sec := t.sec
    ns := t.ns
    frac := t.frac
    count := t.aonCount
    source := b2n t.slowRc
    freq0 := d.wget Page.tim 0x10
    freq1 := d.wget Page.tim 0x11 } }

/-- The nanoseconds that `counts` slow cycles take at a frequency in 2^-32 Hz; not stated for a source that has never been
measured. -/
def slowNs (counts freq : Nat) : Nat :=
  if counts = 0 then 0 else if freq = 0 then Config.unstated 41 [counts] else counts * 1000000000 * 2 ^ 32 / freq

/-- The counts of a sleep that ran on the crystal and on the RC oscillator (R414). -/
def Time.segments (t : Time) (r : EntryRecord) : Nat × Nat :=
  let total := (t.aonCount + 2 ^ 48 - r.count) % 2 ^ 48
  if r.source = 1 then (0, total)
  else
    match t.switchedAt with
    | none => (total, 0)
    | some c => if c < r.count then (total, 0) else (c - r.count, t.aonCount - c)

/-- The clock is restored at a slow edge (R414): T0 plus the elapsed time, TIM_COARSE, event 7, the elapsed time and its bound. -/
def Dev.restoreClock (d : Dev) : Dev :=
  match d.tim.record with
  | none => if d.fbit Page.tim Reg.TIM_COARSE_COARSE then d else (d.fset Page.tim Reg.TIM_COARSE_COARSE 1).pulse 7
  | some r =>
    let seg := d.tim.segments r
    let a := slowNs seg.1 r.freq0
    let b := slowNs seg.2 r.freq1
    let bound := 30600 + a * 20 / 1000000 + b * 1000 / 1000000
    let t := d.tim.ofUnits (((r.sec * 1000000000 + r.ns) + a + b) * 65536 + r.frac)
    let d1 := (d.setTim { t with record := none }).fset Page.tim Reg.TIM_COARSE_COARSE 1
    (((d1.wset Page.tim 0x10 r.freq0).wset Page.tim 0x11 r.freq1).wset Page.tim 0x12 (a + b)).wset Page.tim 0x13 bound |>.pulse 7

end Sys2Proof.Machine
end

