-- ==== Sys2Proof/Machine/Power.lean ====
section
/-!
DEFINITION. Power states (R399-R410, R415), gating (R402), pads (R407), feeds (R451-R454, R463), and the resets (R416, R417).
-/

namespace Sys2Proof.Machine

def PowerState.num : PowerState → Nat
  | .run => 0 | .lean => 1 | .doze => 2 | .standby | .off => 3

/-! ## Enables (R34, R35) -/

/-- The enable or the safe state of a page has changed: a MAC or the MACs of its group follow it (R268), and a route page that is
enabled again delivers its pending sources (R362). -/
def Dev.enableChanged (d : Dev) (was : Bool) (k : PageKind) (n base : Nat) : Dev :=
  match k with
  | .mac => d.refreshMac n
  | .pcs => d.refreshGroup n
  | .evtRoute =>
    if !was ∧ d.accepts base then (List.range 128).foldl (fun (d : Dev) i => d.deliverPending (128 * (n - 1) + i)) d else d
  | _ => d

/-- A page is enabled, as by a write of BLK_CTL.ENABLE (R34). -/
def Dev.enablePage (d : Dev) (base : Nat) : Dev :=
  match d.pageAt base with
  | none => d
  | some (k, n) => (d.fsetP base Hdr.enable 1).enableChanged (d.accepts base) k n base

/-! ## Idle blocks (R35) -/

/-- Whether the block of a page holds no accepted work. -/
def Dev.blockIdle (d : Dev) (k : PageKind) (n : Nat) : Bool :=
  match k with
  | .gaf => !d.unitBusy puntyGaf (d.unitOf puntyGaf n)
  | .cls => !d.unitBusy puntyCls (d.unitOf puntyCls n)
  | .leh => !d.unitBusy puntyLeh (d.unitOf puntyLeh n)
  | .gafg => d.dispatchQ.isEmpty && d.reheatQ.isEmpty && d.excQ.isEmpty
  | .clsg => d.packets.all (fun e => e.2.stage != .walked)
  | .tblg => d.learnQ.isEmpty && d.noteQ.isEmpty && d.refreshQ.isEmpty && d.clearQ.isEmpty && d.rebuild.isNone
      && (d.port Page.tblg).run.isNone
  | .actg => d.packets.all (fun e => e.2.stage != .acting && e.2.stage != .cipher) && d.counterQ.isEmpty && d.traceQ.isEmpty
      && (d.port Page.actg).run.isNone
  | .cru => d.packets.isEmpty
  | .sch => (Sparse.get (blank {}) d.sched n).tcs.all (fun e => e.2.fifo.isEmpty)
  | .schh => d.host.queues.isEmpty && d.host.sto.isEmpty
  | .lehg => d.lehr.submits.isEmpty && d.lehr.jobs.isEmpty
  | .key => (d.port Page.key).run.isNone && d.lehr.keys.all (fun e => e.2.state != 2)
  | .sxp => d.sxp.queue.isEmpty && d.sxp.jobs.isEmpty && (d.port Page.sxp).run.isNone
  | .sto => d.sto.wires.isEmpty && (d.port Page.sto).run.isNone
  | .que => d.queues.all (fun e => e.2.entries.isEmpty && e.2.backlog.isEmpty && e.2.placing.isNone) && (d.port Page.que).run.isNone
  | .hif => (d.hostPort n).pageRequests.isEmpty && (d.hostPort n).invalidations.isEmpty && (d.port (Page.hif n)).run.isNone
  | .slc => (d.port Page.slc).run.isNone
  | .blp => d.moverState n != moverRun && d.moverState n != moverWait
  | .mac => d.macIdle n
  | .pcs => !d.fbit (Page.pcs n) Reg.PCS_MODE_BUSY && !d.fbit (Page.pcs n) Reg.CAGE_TWI_GO
  | .cpx => (d.pair n).buffer.isEmpty
  | .flt => d.journal.queue.isEmpty && d.journal.waiting.isEmpty
  | .svc => (d.port Page.svc).run.isNone && [0, 1, 2, 3, 4].all (fun t => d.fget Page.svc (puntyState t) == 0)
  | .otp => !d.fbit Page.otp Reg.OTP_STAT_PROG_BUSY
  | .pwr => d.pwr.trans == .none
  | _ => true

/-- The populated pages of a region. -/
def Dev.pagesOf (d : Dev) (r : Nat) : List (Nat × PageKind × Nat) :=
  (List.range 66).filterMap (fun p => (pageKind d.split r p).map (fun k => (r * 0x100000 + p * 0x1000, k)))

/-- Whether every populated page of regions 1-13 is idle (R404). -/
def Dev.allIdle (d : Dev) : Bool :=
  (List.range 13).all (fun r => (d.pagesOf (r + 1)).all (fun e => d.blockIdle e.2.1 e.2.2))

/-! ## Pads (R407) -/

/-- The pad groups of a domain. -/
def padGroups (domain : Nat) : List Nat :=
  if domain = 1 then [22, 24] else if domain = 4 then (List.range 18).map (· + 4) else if domain = 5 then [23]
  else if domain = 6 then [0, 2] else if domain = 7 then [1, 3] else []

/-- The levels that the logic drives: the control pads of cage `g` as CAGE_CTL bits [2:0], its link LED, the module LED (R407, R460). -/
def Dev.cageDriven (d : Dev) (g : Nat) : Nat := bits (d.rd (Page.pcs g + Reg.CAGE_CTL_PWR_EN.off)).toNat 0 3
def Dev.linkLedDriven (d : Dev) (g : Nat) : Led :=
  let st (k : Nat) := (List.range 8).any (fun i => d.linkState (8 * g + i) == k)
  if !d.fwRuns then .dark else if st 3 then .green else if st 4 then .amber else .dark
def Dev.moduleLedDriven (d : Dev) : Led :=
  if !d.fwRuns then .dark else if d.ft.degraded then .amber else .green

/-- AON latches the pads of a domain that goes off, where PAD_LATCH says so, with the levels that they have. -/
def Dev.latchPads (d : Dev) (domains : List Nat) : Dev :=
  let want := (d.rd (Page.otp + Reg.OTP_LIVE1_PAD_LATCH.off)).toNat
  let new := (domains.flatMap padGroups).filter (fun g => bitAt want g && !bitAt d.pwr.padHeld g)
  let p := d.pwr
  (d.setPwr { p with
    padHeld := p.padHeld + (new.map (fun g => 2 ^ g)).sum
    padCage := [0, 1].foldl (fun l g => if new.contains g then Sparse.set (fun _ => 0) l g (d.cageDriven g) else l) p.padCage
    padPps := if new.contains 23 then d.tim.ppsOut else p.padPps
    padLeds := if new.contains 24 then [d.linkLedDriven 0, d.linkLedDriven 1, d.moduleLedDriven] else p.padLeds }).refreshLevel 43

/-- The level of a cage's control pads: held by AON, driven by the logic, or floating, which the module pulls low (R407, R461). -/
def Dev.cagePads (d : Dev) (g : Nat) : Nat :=
  if bitAt d.pwr.padHeld g then Sparse.get (fun _ => 0) d.pwr.padCage g else if d.domainOn (6 + g) then d.cageDriven g else 0

/-- The level of PPS out (R407, R459, R461). -/
def Dev.ppsPad (d : Dev) : Bool :=
  if bitAt d.pwr.padHeld 23 then d.pwr.padPps else d.domainOn 5 && d.tim.ppsOut

/-- The link LED of a cage, and the module LED, which flashes in STANDBY (R460; log entry 126). -/
def Dev.linkLed (d : Dev) (g : Nat) : Led :=
  if bitAt d.pwr.padHeld 24 then d.pwr.padLeds.getD g .dark else if d.domainOn 1 then d.linkLedDriven g else .dark
def Dev.moduleLed (d : Dev) : Led :=
  if d.pwr.state = .standby then .flashing
  else if bitAt d.pwr.padHeld 24 then d.pwr.padLeds.getD 2 .dark
  else if d.domainOn 1 then d.moduleLedDriven else .dark

/-- PWR_PAD_RELEASE: the written groups go back to the logic. -/
def Dev.releasePads (d : Dev) (groups : Nat) : Dev :=
  let held := ((List.range 25).filter (fun g => bitAt d.pwr.padHeld g && !bitAt groups g)).map (fun g => 2 ^ g)
  (d.setPwr { d.pwr with padHeld := held.sum }).refreshLevel 43

/-- R407. -/
def execPadRelease (req : Requester) (groups : Word) (s : State) : Host.Outcome State Fault Refusal :=
  s.become (s.dev.onWrite req (Page.pwr + Reg.PWR_PAD_RELEASE_GROUP.off) (·.releasePads groups.toNat))

/-! ## What switched domains lose -/

/-- Every switched domain (R399). -/
def allDomains : Nat := 2 ^ 96 - 1

/-- Whether a register of a page is kept when every switched domain loses its state: those of AON. -/
def aonAddress (a : Nat) : Bool :=
  match pageKind true (regionOf a) (pageNumber a) with
  | some (k, n) => (pageDomain k n).isNone
  | none => false

/-- The SRAM banks that PWR_RET0-31 keep (R405): entries for banks 608-627, and further entries for a bank, are not used. -/
def Dev.retained (d : Dev) : List Nat :=
  (List.range 32).foldl (fun (bs : List Nat) n =>
    let b := d.fget Page.pwr (Reg.PWR_RET_BANK.nth 4 n)
    if d.fbit Page.pwr (Reg.PWR_RET_VALID.nth 4 n) ∧ ¬ (608 ≤ b ∧ b ≤ 627) ∧ !bs.contains b then bs ++ [b] else bs) []

/-- PWR_RET_REFUSED: the VALID entries that are not used (R405). -/
def Dev.retRefused (d : Dev) : Nat :=
  ((List.range 32).filter (fun n =>
    let b := d.fget Page.pwr (Reg.PWR_RET_BANK.nth 4 n)
    d.fbit Page.pwr (Reg.PWR_RET_VALID.nth 4 n) && ((decide (608 ≤ b) && decide (b ≤ 627)) ||
      (List.range n).any (fun m => d.fbit Page.pwr (Reg.PWR_RET_VALID.nth 4 m) && d.fget Page.pwr (Reg.PWR_RET_BANK.nth 4 m) == b)))).map
    (fun n => 2 ^ n) |>.sum

/-- The SRAM bank of a byte of the on-die store: the tree store, then the firmware part of the control SRAM (R405, R341). -/
def dieBank (a : Nat) : Nat := if a < 0x2000000 then 384 + a / 0x40000 else 628 + (a - 0x2000000) / 0x40000

/-- A host port across the loss of its domain: AON keeps the shadow of configuration space (R399). -/
def HostPort.shadow (h : HostPort) : HostPort :=
  { linkUp := h.linkUp, speed := h.speed, width := h.width, flit := h.flit, pf0 := h.pf0, pf1 := h.pf1, l1 := h.l1 }

/-- OTP, and what of Welbor is fuses (R382), survive; the MCTP endpoint ID is held for AON (R377). -/
def Welbor.fuses (w : Welbor) : Welbor :=
  { lifecycle := w.lifecycle, inEffect := w.inEffect, gens := w.gens, udsMasked := w.udsMasked, udsDestroyed := w.udsDestroyed
    eid := w.eid }

/-- A programming that is cut short leaves a torn generation (R385, R395), whose bits are not stated. -/
def Welbor.torn (w : Welbor) : Welbor :=
  match w.job with
  | none => w
  | some j => { w with job := none, gens := Sparse.set (blank []) w.gens j.gen (toLe 256 (Config.unstated 31 (j.gen :: j.bytes.map (·.toNat)))) }

/-- What every block of the switched domains loses; AON, OTP, the MRAM and the host stay. -/
def Dev.loseSwitched (d : Dev) (keepGddr : Bool) (banks : List Nat) : Dev :=
  { now := d.now
    regs := d.regs.filter (fun e => aonAddress e.1)
    badParity := d.badParity.filter aonAddress
    seenParity := d.seenParity.filter aonAddress
    gddr := if keepGddr then d.gddr else []
    die := d.die.filter (fun c => banks.contains (dieBank c.1))
    host0 := d.host0
    host1 := d.host1
    out := d.out
    free := d.free
    bins := d.bins
    boutHeld := d.boutHeld
    journal := { mram := d.journal.mram, seq := d.journal.seq }
    pwr := d.pwr
    tim := { aonCount := d.tim.aonCount, slowRc := d.tim.slowRc, switchedAt := d.tim.switchedAt, record := d.tim.record }
    ft := { d.ft with
      rebuilds := []
      uncorrectable := if keepGddr then d.ft.uncorrectable else []
      dieUncorrectable := []
      punty := []
      fenced := []
      supply := []
      margin := []
      scans := d.ft.scans.filter (fun e => aonAddress e.1) }
    hif := d.hif.map (fun e => (e.1, e.2.shadow)) |>.filter (fun e => e.2 != {})
    lehr := { kwDraws := d.lehr.kwDraws + 1 }
    wel := d.wel.torn.fuses }

/-- FLT_HEAD continues from the MRAM (R437, R444). -/
def Dev.showJournal (d : Dev) : Dev := d.fset Page.flt Reg.FLT_HEAD_SEQ d.journal.seq

/-! ## Port groups in DOZE (R403) -/

/-- The registers of port group `g`. -/
def groupAddress (g a : Nat) : Bool :=
  regionOf a == 2 && (pageNumber a / 8 == g && decide (pageNumber a < 16) || pageNumber a == 16 + g)

/-- The domain of port group `g` goes off: its links leave UP, its state is lost, its pads latch. -/
def Dev.groupOff (d : Dev) (g : Nat) : Dev :=
  let d1 := (d.dropMacs (fun m => m / 8 == g) true true).latchPads [6 + g]
  { d1 with
    regs := d1.regs.filter (fun e => !groupAddress g e.1)
    badParity := d1.badParity.filter (fun a => !groupAddress g a)
    seenParity := d1.seenParity.filter (fun a => !groupAddress g a)
    macs := d1.macs.filter (fun e => e.1 / 8 != g)
    lanes := d1.lanes.filter (fun e => e.1 / 8 != g)
    ports := d1.ports.filter (fun e => e.1 != Page.pcs g)
    pwr := { d1.pwr with domains := d1.pwr.domains - (if bitAt d1.pwr.domains (6 + g) then 2 ^ (6 + g) else 0) } }

/-- The GDDR6 devices from `first` on that are not FAILED enter or leave self-refresh (R400): parity group 1 is 9-17. -/
def Dev.setDevices (d : Dev) (first st : Nat) : Dev :=
  (List.range (18 - first)).foldl (fun (d : Dev) i =>
    if d.memState (first + i) = 2 then d
    else d.setFt { d.ft with memState := Sparse.set (fun _ => 0) d.ft.memState (first + i) st }) d

/-! ## Requests and moves (R404) -/

/-- PWR_STATE.BUSY. -/
def Dev.powerBusy (d : Dev) : Bool := d.pwr.trans != .none

/-- The state that PWR_REQ.TARGET names. -/
def powerTarget (n : Nat) : Option PowerState := [PowerState.run, .lean, .doze, .standby][n]?

/-- Whether the DOZE_GROUP group may be switched off (R404). -/
def Dev.groupQuiet (d : Dev) (g : Nat) : Bool :=
  (List.range 8).all (fun i => !d.fbit (Page.mac (8 * g + i)) Hdr.enable && d.macIdle (8 * g + i))

/-- A refused power request. -/
def Dev.refusePower (d : Dev) (cause : Nat) : Dev :=
  ((d.fset Page.pwr Reg.PWR_REQ_STAT_REFUSED 1).fset Page.pwr Reg.PWR_REQ_STAT_CAUSE cause).pulse 36

/-- PWR_REQ.GO (R404): the conditions in the order of the table; step 2 of R406 captures the entry record. -/
def Dev.powerRequest (d : Dev) (target : Nat) : Dev :=
  let d := d.fset Page.pwr Reg.PWR_REQ_TARGET target
  match powerTarget target with
  | none => d.refusePower 3
  | some t =>
    if (t = .standby ∧ !d.allIdle) ∨ (t = .doze ∧ !d.groupQuiet (d.fget Page.pwr Reg.PWR_CFG_DOZE_GROUP)) then d.refusePower 1
    else if d.pwr.state = .standby ∨ d.pwr.state = .off then d.refusePower 3
    else if d.powerBusy then d.refusePower 4
    else if d.fbit Page.otp Reg.OTP_STAT_PROG_BUSY then d.refusePower 5
    else if t = .standby then
      let d1 := d.captureEntry
      d1.setPwr { d1.pwr with trans := .entry 3, l12 := 0, wakeLatched := none }
    else d.setPwr { d.pwr with trans := .move t, wakeLatched := none }

/-- R404. -/
def execPowerRequest (req : Requester) (target : BitVec 3) (s : State) : Host.Outcome State Fault Refusal :=
  s.become (s.dev.onWrite req (Page.pwr + Reg.PWR_REQ_GO.off) (·.powerRequest target.toNat))

/-- A wake latched during an entry starts the exit (R408): event 34, REPLAYED. -/
def Dev.replayWake (d : Dev) : Dev :=
  match d.pwr.wakeLatched with
  | none => d
  | some w => ((d.setPwr { d.pwr with wakeLatched := none }).startExit w.1 w.2 true).pulse 34

/-- Clusters gated by LEAN are on again in RUN; each pulses event 37. -/
def Dev.ungateAll (d : Dev) : Dev :=
  let lehs := (List.range 64).filter (bitAt d.pwr.lehGated)
  let n := ((List.range 24).filter (bitAt d.pwr.gafGated)).length + lehs.length
  let d1 := lehs.foldl Dev.testCluster (d.setPwr { d.pwr with gafGated := 0, lehGated := 0, gafIdle := [], lehIdle := [] })
  (List.range n).foldl (fun (d : Dev) _ => d.pulse 37) d1

/-- Leaving DOZE: the port group and GDDR6 group 1 are back, and a held demand completes (R403). -/
def Dev.leaveDoze (d : Dev) : Dev :=
  if d.pwr.state = .doze then (d.setPwr { d.pwr with domains := allDomains, demand := none }).setDevices 9 0 else d

/-- A move among RUN, LEAN and DOZE completes (R404): event 33. -/
def Dev.finishMove (d : Dev) : Dev :=
  match d.pwr.trans with
  | .move t =>
    let d1 := match t with
      | PowerState.doze => if d.pwr.state = PowerState.doze then d
          else (d.groupOff (d.fget Page.pwr Reg.PWR_CFG_DOZE_GROUP)).setDevices 9 1
      | .run => d.leaveDoze.ungateAll
      | _ => d.leaveDoze
    ((d1.setPwr { d1.pwr with state := t, trans := .none }).pulse 33).replayWake
  | _ => d

/-- R404. -/
def execPowerTransitionComplete (s : State) : Host.Outcome State Fault Refusal := s.become s.dev.finishMove

/-! ## STANDBY (R406) -/

/-- A port reaches L1.2 (R406 step 3). -/
def Dev.reachL12 (d : Dev) (n : Nat) : Dev :=
  let h := d.hostPort n
  if d.pwr.trans = .entry 3 ∧ h.linkUp ∧ !bitAt d.pwr.l12 n then
    (d.setHostPort n { h with l1 := true }).setPwr { d.pwr with l12 := d.pwr.l12 + 2 ^ n }
  else d

/-- R406. -/
def execLinkL12Entry (port : Nat) (s : State) : Host.Outcome State Fault Refusal :=
  s.become (if port < 2 then s.dev.reachL12 port else s.dev)

/-- A port has not reached L1.2 in time (R404 CAUSE 2): the request is refused. -/
def Dev.l12Expire (d : Dev) (n : Nat) : Dev :=
  if d.pwr.trans = .entry 3 ∧ (d.hostPort n).linkUp ∧ !bitAt d.pwr.l12 n then
    (d.setPwr { d.pwr with trans := .none, wakeLatched := none }).refusePower 2
  else d

/-- R404. -/
def execL12WaitExpiry (port : Nat) (s : State) : Host.Outcome State Fault Refusal :=
  s.become (if port < 2 then s.dev.l12Expire port else s.dev)

/-- Whether every host port with a link is in L1.2. -/
def Dev.allL12 (d : Dev) : Bool := [0, 1].all (fun n => !(d.hostPort n).linkUp || bitAt d.pwr.l12 n)

/-- The levels of mode-0 board outputs that AON holds (R366). -/
def Dev.holdBouts (d : Dev) : Dev :=
  { d with boutHeld := (((List.range 4).filter d.boutRouted).map (fun b => 2 ^ b)).sum }

/-- Everything off (R406 steps 4 to 9): the devices are in self-refresh, and every MAC stops. -/
def Dev.sleep (d : Dev) (keepGddr : Bool) : Dev :=
  let d1 := ((((List.range 4).foldl Dev.drainPair d).dropMacs (fun _ => true) true true).holdBouts.latchPads [1, 4, 5, 6, 7]).setDevices 0 1
  let d2 := d1.loseSwitched keepGddr d1.retained
  d2.setPwr { d2.pwr with state := .standby, trans := .none, domains := 0, gafGated := 0, lehGated := 0, gafIdle := [], lehIdle := []
                          demand := none, ready := false, welborReleased := false, warm := keepGddr, kept := d1.retained }

/-- STANDBY entry completes (R406); a wake that arrived meanwhile starts the exit (R408). -/
def Dev.finishEntry (d : Dev) : Dev :=
  match d.pwr.trans with
  | .entry _ => if d.allL12 then ((d.sleep true).pulse 33).replayWake else d
  | _ => d

/-- R406. -/
def execStandbyEntryComplete (s : State) : Host.Outcome State Fault Refusal := s.become s.dev.finishEntry

/-! ## Wake and exit (R408, R409) -/

/-- A wake request (R408): an enabled source, a host exit from L1.2, or MCTP. -/
def Dev.wake (d : Dev) (kind source : Nat) : Dev :=
  if kind = 1 then d.wakeOf source
  else if kind = 2 then
    let h := d.hostPort source
    if h.l1 then (d.setHostPort source { h with l1 := false }).requestWake 2 0 else d
  else if kind = 4 then d.requestWake 4 0
  else d

/-- R408. -/
def execWakeRequest (kind source : Nat) (s : State) : Host.Outcome State Fault Refusal := s.become (s.dev.wake kind source)

/-- PWR_WAKE_FAIL as a word. -/
def wakeFailWord (attempts step unit : Nat) : Nat := 2 ^ 31 + attempts % 256 * 2 ^ 8 + step % 16 * 2 ^ 4 + unit % 16

/-- A wake fails (R409): STANDBY, PWR_WAKE_FAIL, event 35, the alert pin, one MCTP message. -/
def Dev.wakeFail (d : Dev) (attempts step unit : Nat) : Dev :=
  let w := wakeFailWord attempts step unit
  let d1 := d.wr (Page.pwr + Reg.PWR_WAKE_FAIL_FAIL.off) (BitVec.ofNat 32 w)
  let d2 := d1.setPwr { d1.pwr with trans := .none, wakeFailed := true, alert := true, attempts := 0, alternate := false }
  (d2.pulse 35).emit (.spdm .mctp 0x7E (toLe 2 0x1E7C ++ toLe 4 w))

/-- A regulator (step 1) or oscillator (step 2) misses its limit (R409): up to 4 attempts, then the alternate with as many. -/
def Dev.exitTimeout (d : Dev) (step unit : Nat) : Dev :=
  match d.pwr.trans with
  | .exit cur =>
    if step < cur ∨ 2 < step ∨ step = 0 then d
    else
      let p := if step = cur then d.pwr else { d.pwr with trans := .exit step, attempts := 0, alternate := false }
      let n := p.attempts + 1
      if n < 4 then ((d.setPwr { p with attempts := n }).count Page.pwr Reg.PWR_RETRY_CNT_CNT).pulse 39
      else if !p.alternate then d.setPwr { p with attempts := 0, alternate := true }
      else (d.setPwr p).wakeFail 8 step unit
  | _ => d

/-- R409. -/
def execExitStepTimeout (step unit : Nat) (s : State) : Host.Outcome State Fault Refusal :=
  s.become (s.dev.exitTimeout step unit)

/-- Steps 3 to 5 of the exit (R409): domains on, GDDR6 out of self-refresh, the PTP clock restored; an alternate oscillator
that made step 2 succeed is the one in use. -/
def Dev.powerUp (d : Dev) : Dev :=
  match d.pwr.trans with
  | .exit step =>
    if step = 6 then d
    else
      let used := if step = 2 ∧ d.pwr.alternate then 1 - d.ft.oscUsed else d.ft.oscUsed
      let d1 := d.setFt { d.ft with oscUsed := used }
      let d2 := d1.setPwr { d1.pwr with domains := allDomains, trans := .exit 6, l12 := 0 }
      (d2.showJournal.setDevices 0 0).restoreClock
  | _ => d

/-- R370, R409, R416: RST releases Welbor once its domain is on. -/
def execWelborRelease (s : State) : Host.Outcome State Fault Refusal := s.become s.dev.powerUp.releaseWelbor

/-- STANDBY exit completes once Welbor's boot has ended (R409). -/
def Dev.finishExit (d : Dev) : Dev :=
  if d.pwr.trans = .exit 6 ∧ (d.bootStage = 3 ∨ d.bootStage = 0xF) then
    (d.setPwr { d.pwr with state := .run, trans := .none }).pulse 33
  else d

/-- R409. -/
def execStandbyExitComplete (s : State) : Host.Outcome State Fault Refusal := s.become s.dev.finishExit

/-! ## LEAN and DOZE (R402, R403) -/

/-- The next idle time of a cluster, in µs. -/
def idleNext (old : Nat) (busy : Bool) : Nat := if busy then 0 else old + 1

/-- The idle times of `n` clusters after another microsecond. -/
def idleTimes (old : List (Nat × Nat)) (n : Nat) (busy : Nat → Bool) : List (Nat × Nat) :=
  ((List.range n).map (fun c => (c, idleNext (Sparse.get (fun _ => 0) old c) (busy c)))).filter (fun e => e.2 != 0)

/-- The cluster to ungate, or to gate: the lowest gated; the highest on one that has been idle long enough. -/
def gateChoice (n gated depth up on least us : Nat) (counts : Nat → Bool) (idle : List (Nat × Nat)) : Option (Nat × Bool) :=
  if up < depth ∧ gated ≠ 0 then ((List.range n).find? (bitAt gated)).map (fun c => (c, false))
  else if least < on then
    ((List.range n).reverse.find? (fun c => counts c && !bitAt gated c && decide (us ≤ Sparse.get (fun _ => 0) idle c))).map (fun c => (c, true))
  else none

/-- A LEH cluster is gated with its key cache zeroised. -/
def Dev.dropCache (d : Dev) (c : Nat) : Dev := d.setLehr { d.lehr with caches := d.lehr.caches.filter (fun e => e.1 != c) }

/-- Gate or ungate a LEH cluster: event 37. -/
def Dev.gateLeh (d : Dev) (c : Nat) (gate : Bool) : Dev :=
  let d1 := if gate then d.dropCache c else d.testCluster c
  (d1.setPwr { d1.pwr with lehGated := if gate then d1.pwr.lehGated + 2 ^ c else d1.pwr.lehGated - 2 ^ c }).pulse 37

/-- One decision of R402. -/
def Dev.leanStep (d : Dev) : Dev :=
  if d.pwr.state ≠ .lean ∧ d.pwr.state ≠ .doze then d
  else
    let p := Page.pwr
    let us := d.fget p Reg.PWR_LEAN_IDLE_US
    let gi := idleTimes d.pwr.gafIdle 24 (d.unitBusy puntyGaf)
    let li := idleTimes d.pwr.lehIdle 64 (d.unitBusy puntyLeh)
    let inGaf (c : Nat) := d.hasUnit puntyGaf c && d.diverted puntyGaf != some c
    let inLeh (c : Nat) := d.hasUnit puntyLeh c && d.diverted puntyLeh != some c && !d.lehr.fencedUnits.contains c
    let onGaf := ((List.range 24).filter (fun c => inGaf c && !bitAt d.pwr.gafGated c)).length
    let onLeh := ((List.range 64).filter (fun c => inLeh c && !bitAt d.pwr.lehGated c)).length
    let g := gateChoice 24 d.pwr.gafGated d.dispatchQ.length (d.fget p Reg.PWR_LEAN_THR_GAF_UP) onGaf (d.fget p Reg.PWR_LEAN_GAF_MIN) us inGaf gi
    let l := gateChoice 64 d.pwr.lehGated d.jobDepth (d.fget p Reg.PWR_LEAN_THR_LEH_UP) onLeh (d.fget p Reg.PWR_LEAN_LEH_MIN) us inLeh li
    let d1 := d.setPwr { d.pwr with gafIdle := gi, lehIdle := li }
    let d2 := match g with
      | some (c, b) => d1.gateGaf c b
      | none => d1
    match l with
    | some (c, b) => d2.gateLeh c b
    | none => d2

/-- R402. -/
def execLeanStep (s : State) : Host.Outcome State Fault Refusal := s.become s.dev.leanStep

/-- An access to GDDR6 group 1 in DOZE (R403): held, counted, event 38, and DOZE ends. -/
def Dev.demand (d : Dev) (a : Nat) : Dev :=
  if d.pwr.state = .doze ∧ 2 ^ 34 ≤ a ∧ a < 2 ^ 35 ∧ d.pwr.demand.isNone then
    (((d.setPwr { d.pwr with demand := some a }).count Page.pwr Reg.PWR_DEMAND_CNT_CNT).pulse 38).requestWake 3 0
  else d

/-- R403. -/
def execDozeDemand (addr : Nat) (s : State) : Host.Outcome State Fault Refusal := s.become (s.dev.demand addr)

/-- HIF requests L1 after L1_IDLE without traffic in DOZE (R403). -/
def Dev.enterL1 (d : Dev) (n : Nat) : Dev :=
  let h := d.hostPort n
  if d.pwr.state = .doze ∧ h.linkUp then d.setHostPort n { h with l1 := true } else d

/-- R403. -/
def execL1IdleTimeout (port : Nat) (s : State) : Host.Outcome State Fault Refusal :=
  s.become (if port < 2 then s.dev.enterL1 port else s.dev)

/-! ## Feeds (R451-R454, R463, R464) -/

/-- A feed is declared good (R451, R454): a wake request; after both were lost it also starts a new exit of a failed wake. -/
def Dev.feedGood (d : Dev) (feed : Nat) : Dev :=
  let good := if feed = 0 then d.pwr.feedA else d.pwr.feedB
  if good ∨ 1 < feed ∨ d.pwr.tripped then d
  else
    let p := if feed = 0 then { d.pwr with feedA := true, busHoldUp := false } else { d.pwr with feedB := true, busHoldUp := false }
    let d1 := d.setPwr p
    let d2 := if p.vaux then d1.requestWake 5 0 else d1
    d2.setPwr { d2.pwr with bothLost := false }

/-- R451, R454. -/
def execFeedGood (feed : Nat) (s : State) : Host.Outcome State Fault Refusal := s.become (s.dev.feedGood feed)

/-- A feed is declared lost (R452): PWR_FEED, event 41 or 42, FEED_LOST; with both lost the bus holds the module (R453). -/
def Dev.feedLost (d : Dev) (feed : Nat) : Dev :=
  let good := if feed = 0 then d.pwr.feedA else d.pwr.feedB
  if !good ∨ 1 < feed then d
  else
    let p := if feed = 0 then { d.pwr with feedA := false } else { d.pwr with feedB := false }
    let both := !p.feedA && !p.feedB
    let d1 := (d.setPwr { p with bothLost := p.bothLost || both, busHoldUp := both && p.state != .standby }).pulse (41 + feed)
    d1.journalAdd { typ := 0x05, inst := 0, kind := Kind.feedLost, cls := 3, outcome := 0xFF, detail := [feed] }

/-- R452. -/
def execFeedLost (feed : Nat) (s : State) : Host.Outcome State Fault Refusal := s.become (s.dev.feedLost feed)

/-- Neither host port has a link when the module has lost power (R415). -/
def Dev.unlinkPorts (d : Dev) : Dev :=
  (List.range 2).foldl (fun (d : Dev) n => d.setHostPort n { d.hostPort n with linkUp := false, l1 := false, speed := 0, width := 0, flit := false }) d

/-- The hold-up of the bus and a latched wake are over (R415). -/
def Dev.endHoldUp (d : Dev) : Dev := d.setPwr { d.pwr with busHoldUp := false, wakeLatched := none }

/-- The module loses power (R415, R453): STANDBY uncontrolled; GDDR6 is not retained. -/
def Dev.powerLost (d : Dev) : Dev :=
  if d.pwr.busHoldUp ∧ !d.pwr.feedA ∧ !d.pwr.feedB then (d.unlinkPorts.sleep false).endHoldUp else d

/-- R453, R415. -/
def execBusHoldUpExpiry (s : State) : Host.Outcome State Fault Refusal := s.become s.dev.powerLost

/-- R463: a hardware trip opens both feed switches; the result is the both-feeds case. -/
def execThermalTrip (s : State) : Host.Outcome State Fault Refusal :=
  s.become (
    let d := (s.dev.feedLost 0).feedLost 1
    d.setPwr { d.pwr with tripped := true })

/-! ## Resets (R416, R417) -/

/-- 3.3Vaux is lost (R464): OFF; OTP and the MRAM keep their contents. -/
def Dev.auxLoss (d : Dev) : Dev :=
  if !d.pwr.vaux then d
  else
    let lost := { d with hif := [] }.loseSwitched false []
    { lost with
      regs := []
      badParity := []
      seenParity := []
      bins := []
      boutHeld := 0
      tim := {}
      ft := { sparesUsed := d.ft.sparesUsed, spared := d.ft.spared }
      pwr := { state := .off, vaux := false, feedA := d.pwr.feedA, feedB := d.pwr.feedB, perst := d.pwr.perst } }

/-- R464. -/
def execAuxPowerLoss (s : State) : Host.Outcome State Fault Refusal := s.become s.dev.auxLoss

/-- 3.3Vaux rises (R416): the power-on reset; the fuses' lifecycle state takes effect; a feed that is good wakes the adapter. -/
def Dev.auxOn (d : Dev) : Dev :=
  if d.pwr.vaux then d
  else
    let p : Power := { feedA := d.pwr.feedA, feedB := d.pwr.feedB, perst := d.pwr.perst }
    let d1 := ({ d with pwr := p, wel := { d.wel with inEffect := d.wel.lifecycle } }).showJournal
    if p.feedA ∨ p.feedB then d1.requestWake 5 0 else d1

/-- R416. -/
def execAuxPowerOn (s : State) : Host.Outcome State Fault Refusal := s.become s.dev.auxOn

/-- A host port is reset (R416): configuration of both functions, the MSI-X table, the ATS cache, IDE streams, the link; its
queues halt and locked TDIs of its slices enter ERROR. -/
def Dev.resetPort (d : Dev) (n : Nat) : Dev :=
  let up := (d.hostPort n).linkUp
  let d1 := (d.dropLink n).setHostPort n {}
  let d2 := (d1.slices.map (·.1)).foldl (fun (d : Dev) s =>
    let v := d.slice s
    if v.hostPort = n ∧ v.isLocked then d.setTdi s .error true else d) d1
  let d3 := d2.fset Page.rst (if n = 0 then Reg.RST_CAUSE_HOST0 else Reg.RST_CAUSE_HOST1) 1
  if up then d3.pulse 66 else d3

/-- PERST# of a host port is asserted (R416, R457). -/
def Dev.perstOn (d : Dev) (n : Nat) : Dev :=
  if !d.portExists n ∨ bitAt d.pwr.perst n then d
  else
    let d1 := d.setPwr { d.pwr with perst := d.pwr.perst + 2 ^ n }
    d1.resetPort n

/-- R416. -/
def execPerstAssert (port : Nat) (s : State) : Host.Outcome State Fault Refusal := s.become (s.dev.perstOn port)

/-- PERST# is released (R454): the link may train. -/
def Dev.perstOff (d : Dev) (n : Nat) : Dev :=
  if n < 2 ∧ bitAt d.pwr.perst n then d.setPwr { d.pwr with perst := d.pwr.perst - 2 ^ n } else d

/-- R454. -/
def execPerstDeassert (port : Nat) (s : State) : Host.Outcome State Fault Refusal := s.become (s.dev.perstOff port)

/-- A discarded write of RST_CTL (R417). -/
def Dev.rstRefused (d : Dev) : Dev := d.accessFault Page.rst

/-- RST_CAUSE.SRC of a requester. -/
def resetSource (req : Requester) : Nat :=
  match req with
  | .manager port _ => port
  | .firmware _ => 2
  | .welbor => 3

/-- The device reset (R417): every switched domain, with the clock restored and Welbor to be released; firmware's
initialisation follows. -/
def Dev.deviceReset (d : Dev) (req : Requester) (confirm : Nat) : Dev :=
  if confirm ≠ 0xA5D2 ∨ d.pwr.state = .standby then d.rstRefused
  else
    let p := Page.rst
    let d1 := (((d.fset p Reg.RST_CAUSE_LAST 2).fset p Reg.RST_CAUSE_SRC (resetSource req)).countSat p Reg.RST_CNT_CNT).captureEntry
    let d2 := (({ d1 with hif := [] } : Dev).dropMacs (fun _ => true) true true).loseSwitched false []
    let d3 := { d2 with
      ft := { d2.ft with memState := [], shed := [], osc0Failed := false, osc1Failed := false, holdover := false, degraded := false }
      wel := { d2.wel with inEffect := d2.wel.lifecycle } }
    let d4 := d3.setPwr { d3.pwr with
      state := .run, trans := .none, domains := allDomains, gafGated := 0, lehGated := 0, gafIdle := [], lehIdle := []
      demand := none, ready := false, welborReleased := false, warm := false, kept := [], wakeLatched := none }
    d4.showJournal.restoreClock

/-- R417: RST_CTL with GO, KIND = 1. -/
def execDeviceReset (req : Requester) (confirm : BitVec 16) (s : State) : Host.Outcome State Fault Refusal :=
  s.become (s.dev.onWrite req (Page.rst + Reg.RST_CTL_GO.off) (·.deviceReset req confirm.toNat))

/-- A write of RST_CTL with GO and a KIND other than 1 (R417). -/
def Dev.portReset (d : Dev) (kind confirm : Nat) : Dev :=
  if confirm ≠ 0xA5D2 ∨ ¬ (kind = 2 ∨ (kind = 3 ∧ d.split)) then d.rstRefused else d.resetPort (kind - 2)

/-- R417: KIND 1 names the device reset. -/
def execHostPortReset (req : Requester) (kind : BitVec 4) (confirm : BitVec 16) (s : State) :
    Host.Outcome State Fault Refusal :=
  s.become (s.dev.onWrite req (Page.rst + Reg.RST_CTL_GO.off) (fun d =>
    if kind = 1 then d.deviceReset req confirm.toNat else d.portReset kind.toNat confirm.toNat))

/-- A fault of the Welbor core (R416, R424): boot resumes at stage 1, every SPDM session ends; what the core had of messages is
lost; key slots stay. -/
def Dev.welborRestart (d : Dev) : Dev :=
  if !d.domainOn 0 ∨ !d.pwr.welborReleased then d
  else
    let w := d.wel.torn
    let chans := (w.channels.map (fun e => (e.1, ({ incarnation := e.2.incarnation } : SliceChannel)))).filter (fun e => e.2 != {})
    let d1 := d.setWel { w with sessions := [], negotiated := [], requests := [], channels := chans }
    ((d1.fset Page.otp Reg.OTP_STAT_PROG_BUSY 0).fset Page.rst Reg.RST_CAUSE_WELBOR 1).setBootStage 1

/-- R416. -/
def execWelborRestart (s : State) : Host.Outcome State Fault Refusal := s.become s.dev.welborRestart

/-! ## Firmware ready (R466-R468) -/

/-- The memory layout of R468, as (page, wide index, value). -/
def fwLayout : List (Nat × Nat × Nat) := [
  (Page.que, 0x10, 512), (Page.mbx 0, 0x10, 516), (Page.sto, 0x10, 518), (Page.sto, 0x11, 526), (Page.sxp, 0x10, 542),
  (Page.sxp, 0x11, 670), (Page.key, 0x10, 798), (Page.actg, 0x11, 918), (Page.actg, 0x12, 966), (Page.actg, 0x13, 998),
  (Page.tblg, 0x11, 1062)]

/-- Whether a byte lies in the areas that firmware zeroes (R467): queue contexts, slice mailboxes, sessions, volumes, SAs and
bitmaps, on a cold start the key records, and the overflow bodies. -/
def fwZeroes (warm : Bool) (a : Nat) : Bool :=
  let m := a / 2 ^ 20
  (decide (512 ≤ m) && decide (m < 798)) || (!warm && decide (798 ≤ m) && decide (m < 918)) || (decide (1062 ≤ m) && decide (m < 1094))

/-- The pages that firmware enables (R467): regions 1 and 3-13, and PCS and MACG. -/
def Dev.fwPages (d : Dev) : List Nat :=
  ([1, 3, 4, 5, 6, 7, 8, 9, 10, 11, 12, 13].flatMap (fun r => (d.pagesOf r).map (·.1))) ++ [Page.pcs 0, Page.pcs 1, Page.macg]

/-- The FW_READY message (R466). -/
def Dev.readyMessage (d : Dev) (result : Nat) : Message :=
  let pay := toLe 1 (d.fget Page.otp Reg.OTP_BOOT_IMAGE) ++ toLe 1 (b2n d.pwr.warm) ++ toLe 2 d.wel.svnCpx ++ toLe 1 result
  ⟨[0x8002, 5] ++ (List.range 14).map (fun i => leWord pay i), d.mailStamp (.firmware 0) (.firmware 0) none⟩

/-- Firmware's initialisation ends (R466, R467): failed devices are declared, the layout is committed, areas are zeroed, pages
enabled, and FW_READY is sent, once. -/
def Dev.fwReady (d : Dev) (result : Nat) (failed : List Nat) : Dev :=
  if !d.fwRuns ∨ d.pwr.ready ∨ !d.mailRoom (.firmware 0) then d
  else
    let d1 := (failed.filter (· < 18)).foldl (fun (d : Dev) n => d.failDevice n 2) d
    let d2 := fwLayout.foldl (fun (d : Dev) e => d.wset e.1 e.2.1 e.2.2) d1
    let d3 := ((d2.setDeepCrucible (0x2000 + 0x1000 * 2 ^ 16)).fsetP Page.clsg Reg.CLS_RULE_BASE_SEG 0).fsetP Page.cru Reg.CRU_DEEP_CTL_ENABLE 1
    let d4 := { d3 with gddr := d3.gddr.filter (fun c => !fwZeroes d.pwr.warm c.1), sto := { d3.sto with zeroed := true } }
    let d5 := d4.fwPages.foldl Dev.enablePage (d4.setPwr { d4.pwr with ready := true })
    let m := d5.readyMessage result
    let d6 : Dev := d5.mailPush (.manager 0) m
    if d6.split && d6.mailRoom (MailEnd.firmware 16) then d6.mailPush (.manager 16) m else d6

/-- R466. -/
def execFwReady (result : Nat) (failed : List Nat) (s : State) : Host.Outcome State Fault Refusal :=
  s.become (s.dev.fwReady result failed)

end Sys2Proof.Machine
end

