-- ==== Sys2Proof/Machine/RegRead.lean ====
section
/-!
DEFINITION. What registers read as (R28, R29, R35, R37, R48 and the register tables of the owning chapters), what a read clears
(R37), and the fields closed to a requester (R48).
-/

namespace Sys2Proof.Machine

/-! ## Masks -/

/-- The bits of a field in its register. -/
def FieldRow.mask (r : FieldRow) : Nat := (2 ^ r.w - 1) * 2 ^ r.lo

/-- The bits of a body register (or block-specific header register) whose access type satisfies `p`. -/
def PageKind.accMask (k : PageKind) (off : Nat) (p : Access → Bool) : Nat :=
  (((k.fieldsAt off).filter (fun r => p r.acc)).map FieldRow.mask).sum

/-- The implemented bits of BLK_FAULT and BLK_FAULT_EN of a page (R36). -/
def PageKind.faultMask (k : PageKind) : Nat := k.faultBits + 0x1F

/-- The RWP bits of a register (R34, R36, R40). -/
def PageKind.rwpMask (k : PageKind) (off : Nat) : Nat :=
  if off = Hdr.ctl then 0xF else if off = Hdr.faultEn then k.faultMask
  else if off < 0x40 then 0 else k.accMask off (· == .rwp)

/-- The bits that act on being written: WO and SC fields (R48). -/
def PageKind.actMask (k : PageKind) (off : Nat) : Nat := k.accMask off (fun a => a == .wo || a == .sc)

/-! ## Closed fields -/

/-- The bits of a register that its owning chapter closes to a requester (R48): the CPX and mover fields of routes (R358), the
firmware summary (R397), a mover's head, control and limit (R351), the key buffer (R202), and outside DEVELOP the measure-off bits
(R174). -/
def Dev.closedMask (d : Dev) (req : Requester) (k : PageKind) (off : Nat) : Nat :=
  match k with
  | .evtRoute => if !req.isManager ∨ off < 0x100 then 0 else if off % 8 = 0 then 0xB03F else 0xBF0000
  | .mbx => if req.isManager && off == 0x44 then 0xFFFFFFFF else 0
  | .blp => if req.isManager && (decide (0x100 ≤ off ∧ off ≤ 0x108) || off == 0x120) then 0xFFFFFFFF else 0
  | .key => if req != .welbor && decide (0x140 ≤ off ∧ off < 0x1C0) then 0xFFFFFFFF else 0
  | .lehg => if d.lifecycle ≠ lifeDevelop ∧ off = 0x100 then 0x1E else 0
  | _ => 0

/-! ## BLK_STAT (R35) -/

/-- Whether ENABLE has taken effect and SAFE is 0. -/
def Dev.enabledNow (d : Dev) (k : PageKind) (n base : Nat) : Bool :=
  match k with
  | .gaf => d.gafEnabled (d.unitOf puntyGaf n)
  | .mac => d.macOn n
  | _ => d.accepts base

/-- The block-specific bits of BLK_STAT (R77, R101, R200, R269). -/
def Dev.blockBits (d : Dev) (k : PageKind) (n : Nat) : Nat :=
  match k with
  | .gaf =>
    let u := d.unitOf puntyGaf n
    d.fencedCtx.countP (fun c => ctxUnit c == u) * 2 ^ 24 + d.busyCtx u * 2 ^ 16
  | .cls => d.packets.countP (fun e => e.2.stage == .walking (d.unitOf puntyCls n)) * 2 ^ 16
  | .leh =>
    let u := d.unitOf puntyLeh n
    d.lehr.fenced.countP (fun c => c / 256 == u) * 2 ^ 24 + d.lehr.cells.countP (fun e => e.1 / 256 == u) * 2 ^ 16
  | .mac => (if d.macExists n then lanesPerMac (d.fget (Page.pcs (n / 8)) Reg.PCS_MODE_MODE) else 0) * 2 ^ 8
  | _ => 0

/-- BLK_STAT. -/
def Dev.blockStat (d : Dev) (k : PageKind) (n base : Nat) : Nat :=
  d.blockBits k n + b2n (d.fbit base Hdr.detach) * 8 + b2n (d.fbit base Hdr.safe) * 4 + b2n (d.blockIdle k n) * 2
    + b2n (d.enabledNow k n base)

/-! ## Registers that show the state of a unit -/

/-- The bits of `n` keys from `first` on that a list holds. -/
def memberMap (l : List Nat) (first n : Nat) : Nat := ((List.range n).map (fun i => if l.contains (first + i) then 2 ^ i else 0)).sum

/-- The registers of the queue that QUE_QSEL selects (R337). -/
def Dev.queueReg (d : Dev) (off : Nat) : Nat :=
  let v := d.queue (d.fget Page.que Reg.QUE_QSEL_QUEUE)
  if off = 0x10C then b2n v.enable
  else if off = 0x110 then
    v.state.num + v.qgen % 256 * 2 ^ 8 + (v.entries.length + v.backlog.length) % 128 * 2 ^ 16
      + b2n (match v.placing with | some p => p.hold | none => false) * 2 ^ 23 + v.backlog.length % 128 * 2 ^ 24
  else if off = 0x114 then v.errIdx else if off = 0x118 then v.errCode else if off = 0x11C then v.sqPi
  else if off = 0x120 then v.sqCi else if off = 0x124 then v.cqPi else v.cqCi

/-- The registers of a mailbox page (R387, R388, R397); an end reads 0 to a requester it is closed to. -/
def Dev.mailPageReg (d : Dev) (req : Requester) (c off : Nat) : Nat :=
  if off < 0x100 then (if off = 0x40 ∨ off = 0x44 then (d.rd (Page.mbx 0 + off)).toNat else 0)
  else
    match mailAt c off with
    | some (box, o) => if mailExists box && d.mailAllows req box then d.mailReg box o else 0
    | none => 0

/-- The head of the limit FIFO (R221). -/
def Dev.limitWord (d : Dev) : Nat :=
  match d.sxp.limit with
  | [] => 0
  | (hard, sa) :: _ => 2 ^ 31 + b2n hard * 2 ^ 30 + sa

/-- A body register as it stands. -/
def Dev.bodyReg (d : Dev) (req : Requester) (k : PageKind) (n base off : Nat) : Nat :=
  let stored := (d.rd (base + off)).toNat
  match k with
  | .mbx => d.mailPageReg req n off
  | .que => if 0x10C ≤ off ∧ off ≤ 0x128 then d.queueReg off else stored
  | .gaf =>
    if off = 0x104 then (d.storeRead n).1.toNat
    else if 0x120 ≤ off ∧ off ≤ 0x12C then memberMap d.fencedCtx (d.unitOf puntyGaf n * 128 + 8 * (off - 0x120)) 32
    else stored
  | .leh => if 0x100 ≤ off ∧ off ≤ 0x10C then memberMap d.lehr.fenced (d.unitOf puntyLeh n * 256 + 8 * (off - 0x100)) 32 else stored
  | .hif => if off = 0x13C then (d.readsOn n).length else stored
  | .actg => if off = 0x120 then d.traceQ.length % 2 ^ 10 else stored
  | .sxp => if off = 0x108 then d.limitWord else stored
  | .pwr => if off = 0x200 then d.retRefused else stored
  | .mem => if off = 0x104 ∧ (n = 8 ∨ n = 17) then stored + 2 ^ 8 else stored
  | _ => stored

/-- What a register reads as (R37, R48): WO fields and closed fields read 0. -/
def Dev.readReg (d : Dev) (req : Requester) (k : PageKind) (n base off : Nat) : Nat :=
  if off = Hdr.stat then d.blockStat k n base
  else if off = 0x20 then 0
  else if off < 0x40 then (if 0x20 ≤ off ∧ !k.hasWmb then 0 else (d.rd (base + off)).toNat)
  else without (d.bodyReg req k n base off) (d.closedMask req k off ||| k.accMask off (· == .wo))

/-! ## What a read does (R37) -/

/-- An RC field is cleared, or reloaded with the present value where its description says so (R78, R166). -/
def Dev.clearRc (d : Dev) (k : PageKind) (base off : Nat) (r : FieldRow) : Dev :=
  let v :=
    if k = .gafg ∧ off = Reg.GAFG_DISP_PEAK_PEAK.off then d.fget Page.gafg Reg.GAFG_DISP_DEPTH_DEPTH
    else if k = .cru ∧ off = Reg.CRU_FREE_MIN_CELLS.off then d.freeDie
    else 0
  d.fset base ⟨off, r.lo, r.w⟩ v

/-- The effects of a direct read: RC fields clear, GAF_PS_DATA advances WORD (R77), SXP_LIMIT_FIFO loses its head (R221), and
MBX_DISC of an end that the requester may access clears (R387). -/
def Dev.readEffect (d : Dev) (req : Requester) (k : PageKind) (n base off : Nat) : Dev :=
  if off < 0x40 then d
  else if k = .gaf ∧ off = 0x104 then d.nextStoreWord base
  else if k = .sxp ∧ off = 0x108 then d.setSxp { d.sxp with limit := d.sxp.limit.drop 1 }
  else if k = .mbx ∧ 0x100 ≤ off then
    match mailAt n off with
    | some (box, o) => if mailExists box && d.mailAllows req box then d.mailClear box o else d
    | none => d
  else ((k.fieldsAt off).filter (fun r => r.acc == .rc)).foldl (fun (d : Dev) r => d.clearRc k base off r) d

/-- What an access to a powered-down page or mailbox end answers (R48, R391). -/
def Dev.powerAbort (d : Dev) (req : Requester) (addr : Nat) : Dev :=
  let d1 := (match req with
    | .manager port rid => d.aerError port 0 AerBit.completerAbort true [addr, rid]
    | _ => d).accessError req addr false 2
  let isEnd := match d.pageAt addr with
    | some (.mbx, _) => decide (0x100 ≤ effOffset 10 (offsetOf addr))
    | _ => false
  (if isEnd then d1.pulse 493 else d1).emit (.abort false)

/-- A read of a register: `f` is its effect and answer when its page is reached; otherwise it is answered as R48 says, and a PF0 in
D3hot answers with Unsupported Request (R277). -/
def Dev.onRead (d : Dev) (req : Requester) (addr : Nat) (f : Dev → Dev) : Dev :=
  if d.asleep req then d.emit .unsupported
  else match d.unreachable addr with
  | none => f d
  | some 2 => d.powerAbort req addr
  | some kind => (d.accessError req addr false kind).emit (.readData 0#32)

/-- R48, R391. -/
def execPoweredDownPageRead (req : Requester) (addr : Nat) (s : State) : Host.Outcome State Fault Refusal :=
  s.become (if s.dev.unreachable addr = some 2 then s.dev.onRead req addr (fun d => d) else s.dev)

/-- R77. -/
def execProgramStoreRead (req : Requester) (cluster : Nat) (s : State) : Host.Outcome State Fault Refusal :=
  s.become (s.dev.onRead req (Page.gaf cluster + 0x104) (fun d => (d.storeRead cluster).2.emit (.readData (d.storeRead cluster).1)))

/-- R221. -/
def execLimitFifoPop (req : Requester) (s : State) : Host.Outcome State Fault Refusal :=
  s.become (s.dev.onRead req (Page.sxp + Reg.SXP_LIMIT_FIFO_VALID.off) Dev.popLimit)

end Sys2Proof.Machine
end

