-- ==== Sys2Proof/Machine/WideValues.lean ====
section
/-!
DEFINITION. The wide values of every page (R43): which indices are defined, their widths and access types, what a capture takes
and what a commit accepts (R72, R76, R79, R103, R106, R111, R120, R125, R132, R151, R153, R162, R165, R167-R169, R201, R202, R222,
R247, R261, R263, R270, R297, R315, R338, R352, R397, R412, R420).
-/

namespace Sys2Proof.Machine

/-- A defined wide value: its width, and whether it can be written. -/
structure WideKind where
  width : Nat
  writable : Bool
  deriving DecidableEq, Repr

def roWide (w : Nat) : Option WideKind := some ⟨w, false⟩
def rwWide (w : Nat) : Option WideKind := some ⟨w, true⟩

/-- Whether `i` lies in [lo, hi]. -/
def within (i lo hi : Nat) : Bool := decide (lo ≤ i) && decide (i ≤ hi)

/-- The wide value of index `i` of a page, none when the index is not defined. -/
def Dev.wideKind (d : Dev) (k : PageKind) (n i : Nat) : Option WideKind :=
  match k with
  | .gafg =>
    if i = 3 then roWide 128 else if within i 1 4 then roWide 64 else if within i 0x40 0x7F then roWide 128
    else if within i 0x100 0x10F then rwWide (if i % 2 = 0 then 192 else 128) else none
  | .clsg => if within i 1 2 || within i 0x10 0x1F then roWide 64 else none
  | .tblg =>
    if within i 1 3 then roWide 64 else if within i 0x10 0x11 then rwWide 64 else if within i 0x100 0x17F then rwWide 128
    else if within i 0x1000 0x4FFF then
      let v := d.td ((i - 0x1000) / 256)
      if tdKind v ≠ 0 ∧ (i - 0x1000) % 256 ≤ tdMaxLen v then rwWide 64 else none
    else none
  | .actg =>
    if within i 1 3 then roWide 64 else if within i 0x10 0x13 then rwWide 64 else if within i 0x100 0x1FF then roWide 128
    else if within i 0x200 0x2FF then rwWide 128 else none
  | .cru =>
    if within i 1 2 then roWide 64 else if i = 0x10 then rwWide 64 else if within i 0x100 0x17F then rwWide 128
    else if within i 0x200 0x27F then roWide 192 else if within i 0x300 0x37F then roWide 32 else none
  | .sch => if within i 0x10 0x17 then roWide 192 else if within i 0x20 0x27 then roWide 64 else none
  | .schh => if within i 0x1000 0x1FFF then rwWide 64 else if within i 0x2000 0x2FFF then roWide 64 else none
  | .lehg => if within i 1 3 then roWide 64 else if within i 0x1000 0x1FFF then rwWide 64 else none
  | .key => if i = 0x10 then rwWide 64 else none
  | .sxp | .sto => if within i 1 2 then roWide 64 else if within i 0x10 0x11 then rwWide 64 else none
  | .que =>
    if within i 1 2 then roWide 64 else if i = 0x10 then rwWide 64 else if within i 0x1000 0x1FFF then roWide 64 else none
  | .mac => if within i 0x10 0x2F then roWide 64 else if i = 0x30 then roWide 128 else if i = 0x31 then roWide 96 else none
  | .macg => if within i 0x1000 0x2FFF then roWide 128 else none
  | .hif => if within i 1 3 then roWide 64 else none
  | .slc => if within i 1 4 then roWide 64 else if within i 0x1000 0x1FFF then roWide 128 else none
  | .blp => if within i 1 2 then roWide 64 else none
  | .tim =>
    if i = 1 ∨ i = 4 then roWide 96 else if i = 2 then rwWide 96 else if i = 3 then rwWide 64
    else if within i 0x10 0x13 then roWide 64 else none
  | .mbx => if n = 0 ∧ i = 0x10 then rwWide 64 else none
  | _ => none

/-- Wide values closed to a requester (R168, R169, R201): the per-slice weights, rates and cell limits are firmware's. -/
def wideClosed (req : Requester) (k : PageKind) (i : Nat) : Bool :=
  !req.isFirmware && (k == .schh || k == .lehg) && within i 0x1000 0x1FFF

/-! ## Captures -/

/-- QUE wide value 0x1000 + s (R338). -/
def Dev.queueWide (d : Dev) (s : Nat) : Nat :=
  let mine := d.queuesOf s
  mine.length % 2 ^ 11
    + mine.countP (fun q => (d.queue q).state == .error || (d.queue q).state == .halted) % 2 ^ 11 * 2 ^ 32

/-- The manager's copy of a slice's wire counters, cleared by the capture (R261, R271). -/
def Dev.captureWire (d : Dev) (i : Nat) : Nat × Dev :=
  let s := i % 0x1000
  let v := d.slice s
  let w := v.mgrWire
  if i < 0x2000 then (w.txf + w.txb * 2 ^ 64, d.setSlice s { v with mgrWire := { w with txf := 0, txb := 0 } })
  else (w.rxf + w.rxb * 2 ^ 64, d.setSlice s { v with mgrWire := { w with rxf := 0, rxb := 0 } })

/-- What a capture takes, and its effect on the source. -/
def Dev.wideTake (d : Dev) (k : PageKind) (base i : Nat) : Nat × Dev :=
  match k with
  | .macg => d.captureWire i
  | .que => (if 0x1000 ≤ i then d.queueWide (i - 0x1000) else d.wget base i, d)
  | .slc => (if 0x1000 ≤ i then d.sliceWide (i - 0x1000) else d.wget base i, d)
  | .tim => (if i = 1 then d.tim.layout else d.wget base i, d)
  | _ => (d.wget base i, d)

/-- A capture (R43): an undefined index is refused; a closed value reads 0 (R48). -/
def Dev.wmbCapture (d : Dev) (req : Requester) (k : PageKind) (n base i : Nat) : Dev :=
  if k = .mac ∧ i = 0x30 then d.captureStamp n
  else
    let d1 := d.wmbSelect base i
    match d1.wideKind k n i with
    | none => d1.wmbRefuse base
    | some w =>
      if wideClosed req k i then d1.wmbAnswer base 0
      else let r := d1.wideTake k base i; r.2.wmbAnswer base (r.1 % 2 ^ w.width)

/-! ## Commits -/

/-- The reserved fields of a table descriptor are 0 and its fields are in range (R106). -/
def tableFormGood (v : Nat) : Bool :=
  bits v 12 4 == 0 && bits v 24 8 == 0 && bits v 69 3 == 0 && bits v 87 9 == 0 && tdKind v != 3
    && (tdKind v == 0 || (!tdPriv v && !tdAgeEn v))
    && (tdKind v != 0 || (decide (1 ≤ tdKeylen v) && decide (tdKeylen v ≤ 10)))
    && (!tdAgeEn v || tdAgeLimit v != 0)
    && decide (8 ≤ tdLog2 v) && decide (tdLog2 v ≤ 24) && tdMask v != 0

/-- A descriptor without the fields that may change while the table is enabled (R106). -/
def tableFixed (v : Nat) : Nat := setBits (setBits (setBits v 0 1 0) 4 4 0) 16 8 0

/-- The other tables. -/
def otherTables (t : Nat) : List Nat := (List.range 64).filter (· != t)

/-- The entries of an enabled EM table. -/
def tableEntries (v : Nat) : Nat := if tdEn v ∧ tdKind v = 0 then 4 * 2 ^ tdLog2 v else 0

/-- Whether a commit of a table descriptor is accepted (R106). -/
def Dev.tableAccepts (d : Dev) (t v : Nat) : Bool :=
  let old := d.td t
  let others := (otherTables t).map d.td
  tableFormGood v && (!tdPriv v || decide (others.countP tdPriv < 4))
    && (!tdEn old || tableFixed old == tableFixed v)
    && decide (tableEntries v + (others.map tableEntries).sum ≤ 67108864)

/-- Whether any key slot held in GDDR6 is READY or RETIRING (R202). -/
def Dev.wrappedInUse (d : Dev) : Bool := d.lehr.keys.any (fun e => decide (65536 ≤ e.1) && (e.2.state == 1 || e.2.state == 2))

/-- Whether deep cells are in use (R162). -/
def Dev.deepInUse (d : Dev) : Bool := d.freeDeep != bits (d.wget Page.cru 0x10) 16 13 * 8192

/-- Whether the page accepts a commit of `v` to a writable index now. A length descriptor is taken with any BLOOM_LOG2 (R120; log
entry 104). -/
def Dev.wideAccepts (d : Dev) (k : PageKind) (base i v : Nat) : Bool :=
  match k with
  | .gafg => d.bankWritable ((i - 0x100) / 8)
  | .tblg =>
    if i = 0x10 then v % 64 == 0 && !d.fbit Page.tblg Reg.TBLG_NR_CTL_ENABLE
    else if i = 0x11 then (List.range 64).all (fun t => !tdEn (d.td t))
    else if i < 0x140 then d.tableAccepts (i - 0x100) v
    else if i < 0x180 then !tdEn (d.td (i - 0x140))
    else !tdEn (d.td ((i - 0x1000) / 256))
  | .actg =>
    if i = 0x10 then v % 64 == 0 && !d.fbit Page.actg Reg.ACTG_TRACE_CTL_ENABLE
    else if i < 0x200 then !d.fbit base Hdr.enable
    else true
  | .cru =>
    if i = 0x10 then !d.fbit Page.cru Reg.CRU_DEEP_CTL_ENABLE && !d.deepInUse && within (bits v 16 13) 1 4096 else true
  | .key => !d.wrappedInUse
  | .sxp | .sto => !d.fbit base Hdr.enable
  | .que => d.fget Page.que Reg.QUE_COUNT_CNT == 0
  | .mbx => d.fget Page.slc Reg.SLC_COUNT_CNT == 0
  | _ => true

/-- A written value without the bits that the value's layout does not have. -/
def Dev.wideStored (d : Dev) (k : PageKind) (base i v : Nat) : Nat :=
  let mib := bits v 0 15
  match k with
  | .tblg =>
    if i = 0x11 then mib
    else if 0x1000 ≤ i then
      bits v 0 22 + bits v 23 1 * 2 ^ 23 + bits (d.wget base i) 24 24 * 2 ^ 24
    else if 0x140 ≤ i then v &&& 0xFF3F0000FF3F0000FF3F0000FF3F0000
    else v
  | .actg =>
    if i = 0x10 then v else if i < 0x200 then mib
    else bits v 0 5 + bits v 8 40 * 2 ^ 8 + bits v 64 21 * 2 ^ 64 + bits v 96 18 * 2 ^ 96
  | .cru => bits v 0 26 + bits v 32 26 * 2 ^ 32 + bits v 64 26 * 2 ^ 64 + bits v 96 26 * 2 ^ 96 + bits v 127 1 * 2 ^ 127
  | .schh => bits v 0 16 + bits v 32 32 * 2 ^ 32
  | .lehg => bits v 0 14
  | .key | .sxp | .sto | .que | .mbx => mib
  | _ => v

/-- The effect of an accepted commit. -/
def Dev.widePut (d : Dev) (k : PageKind) (base i v : Nat) : Dev :=
  if k = .tim then (if i = 2 then d.loadClock v else d.offsetClock v)
  else if k = .cru ∧ i = 0x10 then d.setDeepCrucible v
  else if k = .schh then d.refillHost.wset base i (d.wideStored k base i v)
  else d.wset base i (d.wideStored k base i v)

/-- A commit (R43): an undefined index, a read-only value or a value the page does not accept now is refused; a value closed to
its requester is not changed (R48).  `addr` is where WMB_SEL was written. -/
def Dev.wmbCommit (d : Dev) (req : Requester) (addr : Nat) (k : PageKind) (n base i : Nat) : Dev :=
  let d1 := d.wmbSelect base i
  match d1.wideKind k n i with
  | none => d1.wmbRefuse base
  | some w =>
    let v := d1.wmbData base % 2 ^ w.width
    if !w.writable then d1.wmbRefuse base
    else if wideClosed req k i then (if v = 0 then d1.wmbDone base else (d1.wmbRefuse base).accessError req addr true 3)
    else if d1.wideAccepts k base i v then (d1.widePut k base i v).wmbDone base
    else d1.wmbRefuse base

/-- An operation on the mailbox of a page that has one. -/
def Dev.onWmb (d : Dev) (req : Requester) (page : Nat) (f : Dev → PageKind → Nat → Nat → Dev) : Dev :=
  d.onWrite req (pageBase page + 0x20) (fun d =>
    match d.pageAt page with
    | some (k, n) => if k.hasWmb then f d k n (pageBase page) else d
    | none => d)

/-- R43. -/
def execWmbCapture (req : Requester) (page : Nat) (index : BitVec 16) (s : State) : Host.Outcome State Fault Refusal :=
  s.become (s.dev.onWmb req page (fun d k n base => d.wmbCapture req k n base index.toNat))

/-- R43. -/
def execWmbCommit (req : Requester) (page : Nat) (index : BitVec 16) (s : State) : Host.Outcome State Fault Refusal :=
  s.become (s.dev.onWmb req page (fun d k n base => d.wmbCommit req (pageBase page + 0x20) k n base index.toNat))

end Sys2Proof.Machine
end

