-- ==== Sys2Proof/Machine/Parity.lean ====
section
/-!
DEFINITION. Configuration parity and the safe state (R40-R42), and the parity of group masks (R474).
-/

namespace Sys2Proof.Machine

/-- One upset: bit `i` of the register at `a` turns over when `mask` covers it (other numbers name the parity bit); the stored
parity stops matching, or matches again. -/
def Dev.upset (d : Dev) (mask a i : Nat) : Dev :=
  if i < 32 ∧ !bitAt mask i then d
  else
    let d1 := if i < 32 then d.wr a (d.rd a ^^^ BitVec.ofNat 32 (2 ^ i)) else d
    if d1.badParity.contains a then d1.setParity a else { d1 with badParity := addTo a d1.badParity }

/-! ## The safe state (R34, R35) -/

/-- SAFE takes a value. -/
def Dev.setSafe (d : Dev) (k : PageKind) (n base : Nat) (v : Bool) : Dev :=
  (d.fset base Hdr.safe (b2n v)).enableChanged (d.accepts base) k n base

/-! ## Mismatches (R40) -/

/-- The journal record of a mismatch (R437, R438). -/
def Dev.parityRecord (d : Dev) (k : PageKind) (n a : Nat) : FaultRecord :=
  let off := offsetOf a
  let v := (d.rd a).toNat
  { typ := k.typeCode, inst := n, kind := Kind.cfgParity, cls := 1, work := 6, outcome := 0xFF
    ident := regionOf a + pageNumber a * 2 ^ 4 + off * 2 ^ 12
    detail := [v, 1 - ones (v &&& k.rwpMask off) % 2] }

/-- A mismatch is counted, latched and reported, and the block enters its safe state unless PARITY_CONT says otherwise. -/
def Dev.parityFound (d : Dev) (k : PageKind) (n a : Nat) : Dev :=
  let base := pageBase a
  let d1 := ({ d with seenParity := addTo a d.seenParity }).countSat base Hdr.errCnt
  let d2 := if d1.fbit base ⟨Hdr.fault, faultCfgParity, 1⟩ then d1 else d1.fset base Hdr.firstOffset (offsetOf a)
  let d3 := (d2.latchFault base faultCfgParity).journalAdd (d2.parityRecord k n a)
  if d3.fbit base Hdr.parityCont then d3 else d3.setSafe k n base true

/-- The registers of a page whose parity does not match. -/
def Dev.badOf (d : Dev) (base : Nat) : List Nat := d.badParity.filter (fun a => pageBase a == base)

/-- Counts and latches the mismatches of a page: those not yet counted, or with `again` all of them. -/
def Dev.parityCheck (d : Dev) (k : PageKind) (n base : Nat) (again : Bool) : Dev :=
  ((d.badOf base).filter (fun a => again || !d.seenParity.contains a)).foldl (fun (d : Dev) a => d.parityFound k n a) d

/-- The background scan of a page: the upsets since the last one, then the check (R40). -/
def Dev.backgroundScan (d : Dev) (page : Nat) (upsets : List (Nat × Nat)) : Dev :=
  match d.unreachable page, d.pageAt page with
  | none, some (k, n) =>
    let base := pageBase page
    let d1 := upsets.foldl (fun (d : Dev) u =>
      let off := effOffset k.bodyLog2 (u.1 / 4 * 4 % 0x1000)
      if k.rwpMask off = 0 then d else d.upset (k.rwpMask off) (base + off) u.2) d
    d1.parityCheck k n base false
  | _, _ => d

/-- R40. -/
def execParityBackgroundScan (page : Nat) (upsets : List (Nat × Nat)) (s : State) : Host.Outcome State Fault Refusal :=
  s.become (s.dev.backgroundScan page upsets)

/-- Island cycles within which a scan of a page ends (R41), taken as nanoseconds (log entry 13). -/
def PageKind.scanTime (k : PageKind) : Nat := 2 ^ k.bodyLog2 / 4 + 16

/-- A scan or recheck of a page runs: SCAN_BUSY reads 1 until it ends (R41). -/
def Dev.scanBegins (d : Dev) (k : PageKind) (base : Nat) : Dev :=
  let d1 := d.fset base Hdr.scanBusy 1
  { d1 with ft := { d1.ft with scans := Sparse.set (fun _ => 0) d1.ft.scans base (d1.now + k.scanTime) } }

/-- SCAN_NOW is written 1 (R41): a scan that only reports starts, unless a scan or recheck runs. -/
def Dev.scanNow (d : Dev) (k : PageKind) (n base : Nat) : Dev :=
  if d.fbit base Hdr.scanBusy then d
  else ((d.fset base Hdr.scanNow 1).scanBegins k base).parityCheck k n base true

/-- The scans and rechecks whose time has come end. -/
def Dev.endScans (d : Dev) : Dev :=
  let ended := d.ft.scans.filter (fun e => decide (e.2 ≤ d.now))
  if ended.isEmpty then d
  else
    let d1 := ended.foldl (fun (d : Dev) e => (d.fset e.1 Hdr.scanBusy 0).fset e.1 Hdr.scanNow 0) d
    { d1 with ft := { d1.ft with scans := d1.ft.scans.filter (fun e => decide (d.now < e.2)) } }

/-- A write to a header register of a page that is there. -/
def Dev.onHeader (d : Dev) (req : Requester) (page off : Nat) (f : Dev → PageKind → Nat → Nat → Dev) : Dev :=
  d.onWrite req (pageBase page + off) (fun d =>
    match d.pageAt page with
    | some (k, n) => f d k n (pageBase page)
    | none => d)

/-- R41: a scan that only reports. -/
def execScanNow (req : Requester) (page : Nat) (s : State) : Host.Outcome State Fault Refusal :=
  s.become (s.dev.onHeader req page Hdr.parity (fun d k n base => d.scanNow k n base))

/-- The recheck (R42): with no mismatch left, SAFE clears. -/
def Dev.recheck (d : Dev) (k : PageKind) (n base : Nat) : Dev :=
  if (d.badOf base).isEmpty then (if d.fbit base Hdr.safe then d.setSafe k n base false else d)
  else d.parityCheck k n base true

/-- A write of 1 to BLK_FAULT.CFG_PARITY (R42): the bit clears and the recheck runs. -/
def Dev.clearCfgParity (d : Dev) (k : PageKind) (n base : Nat) : Dev :=
  (((d.fset base ⟨Hdr.fault, faultCfgParity, 1⟩ 0).scanBegins k base).recheck k n base).refreshFault base

/-- R42. -/
def execCfgParityRecheck (req : Requester) (page : Nat) (s : State) : Host.Outcome State Fault Refusal :=
  s.become (s.dev.onHeader req page Hdr.fault (fun d k n base => d.clearCfgParity k n base))

/-! ## Group masks (R45, R474) -/

/-- The mask registers of group page `g` of a region. -/
def groupMask (region g i : Nat) : Nat := region * 0x100000 + (0xF0 + g) * 0x1000 + 0x40 + 4 * i

/-- The instances of a mask register that a region has. -/
def groupBits (region i : Nat) : Nat := 2 ^ min 32 (broadcastCount region - 32 * i) - 1

/-- A mask mismatch is counted and latched in GCTL. -/
def Dev.groupFound (d : Dev) (region g a : Nat) : Dev :=
  let d1 := ({ d with seenParity := addTo a d.seenParity }).countSat Page.gctl Hdr.errCnt
  let d2 := if d1.fbit Page.gctl Reg.GCTL_GRP_PERR_VALID then d1
    else ((d1.fset Page.gctl Reg.GCTL_GRP_PERR_VALID 1).fset Page.gctl Reg.GCTL_GRP_PERR_REGION region).fset Page.gctl
      Reg.GCTL_GRP_PERR_GROUP g
  d2.latchFault Page.gctl FaultBit.gctl_GRP_PARITY

/-- The masks of a group page are checked. -/
def Dev.groupCheck (d : Dev) (region g : Nat) : Dev :=
  ([groupMask region g 0, groupMask region g 1].filter (fun a => d.badParity.contains a && !d.seenParity.contains a)).foldl
    (fun (d : Dev) a => d.groupFound region g a) d

/-- Whether both masks check. -/
def Dev.groupGood (d : Dev) (region g : Nat) : Bool :=
  !d.badParity.contains (groupMask region g 0) && !d.badParity.contains (groupMask region g 1)

/-- The instances that a group page selects. -/
def Dev.groupOf (d : Dev) (region g : Nat) : Nat :=
  (d.rd (groupMask region g 0)).toNat + (d.rd (groupMask region g 1)).toNat * 2 ^ 32

/-- The background scan of a group page's masks: upsets as (mask register, bit). -/
def Dev.groupScan (d : Dev) (region g : Nat) (upsets : List (Nat × Nat)) : Dev :=
  if 14 ≤ region ∨ 15 ≤ g then d
  else
    (upsets.foldl (fun (d : Dev) u => d.upset (groupBits region (u.1 % 2)) (groupMask region g (u.1 % 2)) u.2) d).groupCheck region g

/-- R474. -/
def execGroupMaskParityScan (region group : Nat) (upsets : List (Nat × Nat)) (s : State) : Host.Outcome State Fault Refusal :=
  s.become (s.dev.groupScan region group upsets)

end Sys2Proof.Machine
end

