-- ==== Sys2Proof/Machine/RegAccess.lean ====
section
/-!
DEFINITION. Reads and writes of registers (R25-R49): access types with byte enables, what each written register does, closed
fields, broadcast and group pages.
-/

namespace Sys2Proof.Machine

/-! ## Stored fields (R29, R37) -/

/-- What is stored for a written value. -/
def Fix.apply (f : Fix) (v : Nat) : Nat :=
  match f with
  | .keep => v
  | .atLeast lo => max lo v
  | .atMost hi => min hi v
  | .clamp lo hi => max lo (min hi v)
  | .within lo hi other => if lo ≤ v ∧ v ≤ hi then v else other

/-- A field after a write of `v` under the enabled bits `m`. -/
def FieldRow.write (r : FieldRow) (old v m : Nat) : Nat :=
  let fm := bits m r.lo r.w
  let fv := bits v r.lo r.w &&& fm
  let fo := bits old r.lo r.w
  if fm = 0 then old
  else
    match r.acc with
    | .rw | .rwp => setBits old r.lo r.w (r.fix.apply (without fo fm + fv))
    | .w1c => setBits old r.lo r.w (without fo fv)
    | _ => old

/-- The stored fields of a body register after a write; an RWP register's parity is set afresh. -/
def Dev.storeFields (d : Dev) (k : PageKind) (base off v m : Nat) : Dev :=
  let new := (k.fieldsAt off).foldl (fun (old : Nat) r => r.write old v m) (d.rd (base + off)).toNat
  let d1 := d.wr (base + off) (BitVec.ofNat 32 new)
  if k.rwpMask off &&& m = 0 then d1 else d1.setParity (base + off)

/-- Whether a written field is 1. -/
def Fld.one (f : Fld) (v : Nat) : Bool := bits v f.lo f.w != 0

/-! ## Header registers -/

/-- The ENABLE bit that a MAC keeps (R249, R250): 0 for a MAC that does not exist; a 1 written during a retune is held. -/
def Dev.macEnable (d : Dev) (n new : Nat) : Nat × Dev :=
  if !d.macExists n then (setBits new 0 1 0, d)
  else
    let old := d.fbit (Page.mac n) Hdr.enable
    let hold := bitAt new 0 && !old && d.fbit (Page.pcs (n / 8)) Reg.PCS_MODE_BUSY
    (if hold then setBits new 0 1 0 else new, d.setMac n { d.macOf n with enableHeld := hold })

/-- A write of BLK_CTL (R34). -/
def Dev.writeCtl (d : Dev) (k : PageKind) (n base v m : Nat) : Dev :=
  let old := (d.rd (base + Hdr.ctl)).toNat
  let new := merge old v (m &&& 0xF)
  let r := if k = .mac ∧ bitAt m 0 then d.macEnable n new else (new, d)
  let d1 := ((r.2.wr (base + Hdr.ctl) (BitVec.ofNat 32 r.1)).setParity (base + Hdr.ctl)).enableChanged (d.accepts base) k n base
  if k = .gaf ∧ bitAt (v &&& m) 0 then d1.restartCluster n else d1

/-- A write of BLK_FAULT (R36, R42). -/
def Dev.writeFault (d : Dev) (k : PageKind) (n base v m : Nat) : Dev :=
  let ones := v &&& m &&& k.faultMask
  let d1 := d.clearBitsAt (base + Hdr.fault) (BitVec.ofNat 32 (without ones 1))
  if bitAt ones 0 then d1.clearCfgParity k n base else d1.refreshFault base

/-- A write of BLK_FAULT_EN (R36). -/
def Dev.writeFaultEn (d : Dev) (k : PageKind) (base v m : Nat) : Dev :=
  let mask := m &&& k.faultMask
  let old := (d.rd (base + Hdr.faultEn)).toNat
  ((d.wr (base + Hdr.faultEn) (BitVec.ofNat 32 (merge old v mask))).setParity (base + Hdr.faultEn)).refreshFault base

/-- A write of the wide-value mailbox (R43). -/
def Dev.writeWmb (d : Dev) (req : Requester) (addr : Nat) (k : PageKind) (n base off v m : Nat) : Dev :=
  if !k.hasWmb then d
  else if off = 0x20 then
    let sel := v &&& m
    if bitAt sel 31 then d.wmbCommit req addr k n base (bits sel 0 16) else d.wmbCapture req k n base (bits sel 0 16)
  else if off = 0x24 then d
  else d.wr (base + off) (BitVec.ofNat 32 (merge (d.rd (base + off)).toNat v m))

/-- A write of a header register (R31). -/
def Dev.writeHeader (d : Dev) (req : Requester) (addr : Nat) (k : PageKind) (n base off v m : Nat) : Dev :=
  if off = Hdr.ctl then d.writeCtl k n base v m
  else if off = Hdr.fault then d.writeFault k n base v m
  else if off = Hdr.faultEn then d.writeFaultEn k base v m
  else if off = Hdr.parity then (if bitAt (v &&& m) 0 then d.scanNow k n base else d)
  else if 0x20 ≤ off then d.writeWmb req addr k n base off v m
  else d

/-! ## Registers whose write acts -/

/-- A write of an operation port's OP register, whose fields are stored: the port sees the written reserved bits too (R190), then
GO (R116). -/
def Dev.writePort (d : Dev) (req : Requester) (k : PageKind) (i : PortInfo) (v : Nat) : Dev :=
  let d1 := d.setPort i.page { d.port i.page with stray := without v (k.accMask i.go.off (fun _ => true)) }
  if i.go.one v then d1.portGo i req else d1

/-- A route word (R358, R361, R368): HOST_PORT is stored as 0 without a split link; clearing MASK delivers. -/
def Dev.writeRoute (d : Dev) (n base off v m : Nat) : Dev :=
  let src := 128 * (n - 1) + (off - 0x100) / 8
  let was := d.masked src
  let d1 := d.storeFields .evtRoute base off v m
  let d2 := if !d1.split then d1.fset base (routeFld Reg.EVT_RTA_HOST_PORT src) 0 else d1
  if was && !d2.masked src then d2.deliverPending src else d2

/-- The bits of the fields of an end at an offset (R387). -/
def mailBits (o : Nat) : Nat :=
  if o < 0x40 ∨ (0x80 ≤ o ∧ o < 0xC0) ∨ [0x40, 0x48, 0x4C, 0xC0, 0xC4].contains o then 2 ^ 32 - 1
  else if o = 0x44 then 0x9F1F0001
  else 0

/-- A write of `v` reaches a field of an end that is closed to its requester (R48): MBX_SEND and MBX_POP act on being written. -/
def reachesEnd (o v : Nat) : Bool := o == 0x40 || o == 0x48 || v &&& mailBits o != 0

/-- An end's register (R387, R388); `addr` is where the access was made. -/
def Dev.writeEnd (d : Dev) (req : Requester) (addr c base off v m : Nat) : Dev :=
  match mailAt c off with
  | none => d
  | some (box, o) =>
    if !mailExists box then d
    else if !d.mailAllows req box then
      (if reachesEnd o v then (d.accessFault base).accessError req addr true 3 else d)
    else if o < 0x40 then d.mailStage box (o / 4) (merge ((d.mailBox box).tx.getD (o / 4) 0) v m)
    else if o = 0x40 then d.mailSend req box none
    else if o = 0x48 then d.popEnd box
    else d

/-- RST_CTL (R417, R418). -/
def Dev.writeRst (d : Dev) (req : Requester) (v : Nat) : Dev :=
  if !Reg.RST_CTL_GO.one v then d
  else if bits v 0 4 = 1 then d.deviceReset req (bits v 12 16)
  else d.portReset (bits v 0 4) (bits v 12 16)

/-- CLS_BATCH_STAGE (R92, R102), after its fields are stored. -/
def Dev.writeStage (d : Dev) (v : Nat) : Dev :=
  if !Reg.CLS_BATCH_STAGE_GO.one v then d
  else if d.fbit Page.clsg Reg.CLS_BATCH_STAGE_UNSTAGE then d.unstageBatch (d.fget Page.clsg Reg.CLS_BATCH_STAGE_N)
  else d.stageBatch (d.fget Page.clsg Reg.CLS_BATCH_STAGE_N)

/-- A CLSG register. -/
def Dev.writeClsg (d : Dev) (base off v m : Nat) : Dev :=
  let stored := d.storeFields .clsg base off v m
  if off = 0x104 then
    (if Reg.CLS_BATCH_SWAP_GO.one v then stored.swapBatch (stored.fget Page.clsg Reg.CLS_BATCH_SWAP_NEW) else stored)
  else if off = 0x108 then stored.writeStage v
  else if off = 0x10C then d.clearRetiredMask (bits v 0 16)
  else if 0x1C0 ≤ off ∧ off < 0x2C0 ∧ d.batchState ((off - 0x1C0) / 16 % 16) ≠ 0 then d.accessFault base
  else stored

/-- The magnitude of a signed byte. -/
def tapSize (v i : Nat) : Nat := (signed 8 (bits v (8 * i) 8)).natAbs

/-- A PCS register (R250, R265, R266, R268, R271). -/
def Dev.writePcs (d : Dev) (req : Requester) (g base off v m : Nat) : Dev :=
  let stored := d.storeFields .pcs base off v m
  if off = 0x100 then (if bits m 0 8 = 0 then d else d.writeMode g (bits v 0 2))
  else if 0x140 ≤ off ∧ off < 0x160 then
    let w := (stored.rd (base + off)).toNat
    if 64 < tapSize w 0 + tapSize w 1 + tapSize w 2 + tapSize w 3 then d.accessFault base else stored
  else if off = 0x180 then stored.fset base Reg.CAGE_STAT_PWR_GOOD (stored.fget base Reg.CAGE_CTL_PWR_EN)
  else if off = 0x188 ∧ Reg.CAGE_TWI_GO.one v then stored.startTwi req g
  else stored

/-- SLC_OP (R314): a GO with an opcode other than READ is Welbor's; `addr` is where the access was made. -/
def Dev.writeSlc (d : Dev) (req : Requester) (addr base off v m : Nat) : Dev :=
  let stored := d.storeFields .slc base off v m
  if off ≠ 0x100 then stored
  else if Reg.SLC_OP_GO.one v ∧ req ≠ .welbor ∧ stored.fget base Reg.SLC_OP_OPCODE ≠ 4 then
    (d.accessFault base).accessError req addr true 3
  else stored.writePort req .slc portSlc v

/-- QUE_QCTL on the selected queue (R321): RESET, else RESUME, acts alone; ENABLE is recorded. -/
def Dev.writeQctl (d : Dev) (req : Requester) (v m : Nat) : Dev :=
  if bits m 0 8 = 0 then d
  else
    let q := d.fget Page.que Reg.QUE_QSEL_QUEUE
    d.commandQueue (some req) q (fun d =>
      let d1 := d.recordEnable (some req) q (bitAt v 0)
      if bitAt v 1 then d1.resetQueue q
      else if bitAt v 2 then d1.resumeQueue q
      else if bitAt v 0 then d1.startQueue q
      else d1.stopQueue q)

/-- SVC_REQ (R433, R445). -/
def Dev.writeSvc (d : Dev) (req : Requester) (v : Nat) : Dev :=
  if !Reg.SVC_REQ_GO.one v then d
  else if bits v 24 1 = 0 then d.svcOut req (bits v 16 8) (bits v 0 8)
  else d.svcIn req (bits v 16 8) (bits v 0 8)

/-- BLP_CTL (R345, R351). -/
def Dev.writeMover (d : Dev) (n v : Nat) : Dev :=
  let d1 := if Reg.BLP_CTL_STOP.one v then d.moverStop n else d
  if Reg.BLP_CTL_GO.one v then d1.moverGo n else d1

/-- A MAC register (R259, R260, R269). -/
def Dev.writeMac (d : Dev) (n base off v m : Nat) : Dev :=
  if off = 0x14C ∧ Reg.MAC_SNAP_GO.one v then (d.snapshotMac n).pulse 118
  else
    let stored := d.storeFields .mac base off v m
    if off = 0x11C ∧ bits m 0 16 ≠ 0 then stored.setTxBase n (stored.fget base Reg.MAC_TX_START_BASE_BYTES) else stored

/-- A PWR register (R404, R405, R407, R419). -/
def Dev.writePwr (d : Dev) (base off v m : Nat) : Dev :=
  if off = 0x12C then d.releasePads v
  else
    let stored := d.storeFields .pwr base off v m
    if off = 0x104 ∧ Reg.PWR_REQ_GO.one v then stored.powerRequest (stored.fget Page.pwr Reg.PWR_REQ_TARGET) else stored

/-- A TIM register: another reference takes over the work of one that was lost (R411); clearing TIM_COARSE pulses event 7
(R356). -/
def Dev.writeTim (d : Dev) (base off v m : Nat) : Dev :=
  let stored := d.storeFields .tim base off v m
  if off = 0x100 ∧ bitAt m 0 then stored.setTim { stored.tim with refLost := false }
  else if off = 0x108 ∧ bitAt v 0 then d.clearCoarse
  else stored

/-- A CLS reheat share, and the credit under its ceiling (R99, R102). -/
def Dev.clampCredit (d : Dev) : Dev :=
  let cap := d.fget Page.clsg Reg.CLS_REHEAT_SHARE_CAP
  if (cap : Int) < d.credit then d.setCredit cap else d

/-- A write of `v` to body register `off` of a page under the enabled bits `m`, made at `addr`; `v` is 0 outside them, and closed
fields are outside them. -/
def Dev.writeBody (d : Dev) (req : Requester) (addr : Nat) (k : PageKind) (n base off v m : Nat) : Dev :=
  let stored := d.storeFields k base off v m
  match k with
  | .rst => if off = 0x100 then d.writeRst req v else stored
  | .pwr => d.writePwr base off v m
  | .tim => d.writeTim base off v m
  | .evtg => if off = 0x100 then d.softwareEvents (BitVec.ofNat 16 v) else stored
  | .evtRoute => if 0x100 ≤ off then d.writeRoute n base off v m else stored
  | .evtState => if 0x140 ≤ off ∧ off < 0x180 then d.clearPendWord ((off - 0x140) / 4) (BitVec.ofNat 32 v) else stored
  | .evtAon => if off = 0x120 then d.binUnmask (BitVec.ofNat 4 (bits v 4 4)) else stored
  | .mbx => if 0x100 ≤ off then d.writeEnd req addr n base off v m else d
  | .flt => if off = 0x104 ∧ m ≠ 0 then stored.journalSelect (stored.fget Page.flt Reg.FLT_RD_SEQ_SEQ) else stored
  | .svc => if off = 0x100 then stored.writeSvc req v else stored
  | .hif => if off = 0x130 then stored.writePort req k (portSit n) v else stored
  | .slc => d.writeSlc req addr base off v m
  | .mac => d.writeMac n base off v m
  | .pcs => d.writePcs req n base off v m
  | .macg => if off = 0x100 ∧ Reg.MACG_SNAP_GO.one v then d.snapshotAll else stored
  | .gaf => if off = 0x104 then d.storeWrite n (BitVec.ofNat 32 (merge (d.storeRead n).1.toNat v m)) else stored
  | .gafg => if off = 0x104 ∧ Reg.GAFG_FLIP_GO.one v then d.requestFlip else stored
  | .clsg => (d.writeClsg base off v m).clampCredit
  | .tblg =>
    if off = 0x100 then stored.writePort req k portTblg v
    else if off = 0x124 then d.writeNoteCons (merge (d.rd (base + off)).toNat v m) else stored
  | .sch => (d.refillPort n).storeFields k base off v m
  | .schh => d.refillHost.storeFields k base off v m
  | .actg =>
    if off = 0x100 then stored.writePort req k portActg v
    else if off = 0x118 then d.writeTraceCons (merge (d.rd (base + off)).toNat v m) else stored
  | .key =>
    if off = 0x100 then stored.writePort req k portKey v
    else if 0x140 ≤ off ∧ off < 0x1C0 then d.wr (base + off) (BitVec.ofNat 32 v)
    else stored
  | .sxp => if off = 0x100 then stored.writePort req k portSxp v else stored
  | .sto => if off = 0x100 then stored.writePort req k portSto v else stored
  | .que => if off = 0x100 then stored.writePort req k portQue v else if off = 0x10C then d.writeQctl req v m else stored
  | .blp => if off = 0x108 then stored.writeMover n v else stored
  | .mem => if off = 0x100 ∧ Reg.MEM_CTL_FAIL.one v then d.failDevice n 3 else stored
  | .cpx => if off = 0x108 ∧ Reg.CPX_RETURN_GO.one v then d.cpxReturn n else stored
  | .gctl | .otp | .cls | .tbl | .cru | .leh | .lehg => stored

/-! ## Accesses -/

/-- A write reaches a closed field (R48): a field that acts on being written, or a value that is not 0. -/
def Dev.reachesClosed (d : Dev) (req : Requester) (k : PageKind) (off v m : Nat) : Bool :=
  let closed := d.closedMask req k off &&& m
  (closed &&& k.actMask off) != 0 || (closed &&& v) != 0

/-- A write of the register at effective offset `off` of a populated, powered page; `addr` is where the access was made. -/
def Dev.writeReg (d : Dev) (req : Requester) (addr : Nat) (k : PageKind) (n base off v m : Nat) : Dev :=
  if m = 0 then d
  else if off < 0x40 then d.writeHeader req addr k n base off v m
  else
    let open_ := without m (d.closedMask req k off)
    let d1 := if d.reachesClosed req k off (v &&& m) m then (d.accessFault base).accessError req addr true 3 else d
    if open_ = 0 then d1 else d1.writeBody req addr k n base off (v &&& open_) open_

/-! ## Broadcast and group pages (R45-R47, R474) -/

/-- Whether an address lies in a group page or the broadcast page of a region that has a broadcast type (R26, R27). -/
def isForwarding (a : Nat) : Bool := decide (regionOf a < 14) && decide (0xF0 ≤ pageNumber a)

/-- The mask register of a group page at an address, with its number. -/
def maskRegister (a : Nat) : Option Nat :=
  if pageNumber a = 0xFF then none
  else if offsetOf a = 0x40 ∨ offsetOf a = 0xC0 then some 0
  else if offsetOf a = 0x44 ∨ offsetOf a = 0xC4 then some 1
  else none

/-- The instances that an access to a forwarding page selects: all, or those of the masks when they check. -/
def Dev.selected (d : Dev) (a : Nat) : Nat :=
  if pageNumber a = 0xFF then 2 ^ 64 - 1
  else if d.groupGood (regionOf a) (pageNumber a - 0xF0) then d.groupOf (regionOf a) (pageNumber a - 0xF0)
  else 0

/-- The targets of a forwarded access: populated, attached, powered instances. -/
def Dev.targets (d : Dev) (a : Nat) : List Nat :=
  let sel := d.selected a
  ((List.range (broadcastCount (regionOf a))).filter (bitAt sel)).filterMap (fun n =>
    let p := broadcastPage (regionOf a) n
    if (d.unreachable p).isNone && !d.fbit p Hdr.detach then some p else none)

/-- The masks are checked at a forwarded access that uses them. -/
def Dev.checkMasks (d : Dev) (a : Nat) : Dev := if pageNumber a = 0xFF then d else d.groupCheck (regionOf a) (pageNumber a - 0xF0)

/-- Whether an effective offset is in the wide-value mailbox. -/
def isWmb (off : Nat) : Bool := decide (0x20 ≤ off) && decide (off < 0x40)

/-- A forwarded write at one target (R46). -/
def Dev.forwardWrite (d : Dev) (req : Requester) (addr p v m : Nat) : Dev :=
  match d.pageAt p with
  | none => d
  | some (k, n) =>
    let off := effOffset k.bodyLog2 (offsetOf addr / 4 * 4)
    if isWmb off then (if k.hasWmb then d.accessFault p else d) else d.writeReg req addr k n p off v m

/-- A write to a broadcast or group page. -/
def Dev.broadcastWrite (d : Dev) (req : Requester) (addr v m : Nat) : Dev :=
  match maskRegister addr with
  | some i =>
    let a := groupMask (regionOf addr) (pageNumber addr - 0xF0) i
    let mask := m &&& groupBits (regionOf addr) i
    if m = 0 then d
    else (d.wr a (BitVec.ofNat 32 (merge (d.rd a).toNat v mask))).setParity a
  | none =>
    let d1 := d.checkMasks addr
    (d1.targets addr).foldl (fun (d : Dev) p => d.forwardWrite req addr p v m) d1

/-- What one target of a forwarded read gives, and the effect that is no RC clear: GAF_PS_DATA advances (R46, R77). -/
def Dev.forwardRead (d : Dev) (req : Requester) (addr p : Nat) : Nat × Dev :=
  match d.pageAt p with
  | none => (0, d)
  | some (k, n) =>
    let off := effOffset k.bodyLog2 (offsetOf addr / 4 * 4)
    if isWmb off then (0, d)
    else (d.readReg req k n p off, if k = .gaf ∧ off = 0x104 then d.nextStoreWord p else d)

/-- A read of a broadcast or group page: the OR of the targets' values. -/
def Dev.broadcastRead (d : Dev) (req : Requester) (addr : Nat) : Nat × Dev :=
  match maskRegister addr with
  | some i => ((d.rd (groupMask (regionOf addr) (pageNumber addr - 0xF0) i)).toNat, d)
  | none =>
    let d1 := d.checkMasks addr
    (d1.targets addr).foldl (fun (r : Nat × Dev) p => let x := r.2.forwardRead req addr p; (r.1 ||| x.1, x.2)) (0, d1)

/-- R46, R47. -/
def execBroadcastWrite (req : Requester) (addr : Nat) (value : Word) (be : BitVec 4) (s : State) :
    Host.Outcome State Fault Refusal :=
  s.become (if isForwarding addr ∧ !s.dev.asleep req then s.dev.broadcastWrite req addr value.toNat (byteMask be) else s.dev)

/-- R46. -/
def execBroadcastRead (req : Requester) (addr : Nat) (s : State) : Host.Outcome State Fault Refusal :=
  s.become (if s.dev.asleep req then s.dev.emit .unsupported
  else if isForwarding addr then
    let r := s.dev.broadcastRead req addr
    r.2.emit (.readData (BitVec.ofNat 32 r.1))
  else s.dev)

/-! ## What lies outside the register map -/

/-- Where the model places what the manager reaches by other accesses than BAR0 (log entry 8): PF0 BAR4 with the MSI-X table
(R286), the configuration space of PF0 and, 4 KiB above, of PF1 (R277, R280), and PF0 BAR2 with the manager
doorbells as whole words (R323). -/
def msixSpace : Nat := 2 ^ 32
def configSpace : Nat := 2 ^ 33
def doorbellSpace : Nat := 2 ^ 34

/-- A write outside the register map: the MSI-X table by dwords, or an enable. -/
def Dev.writeOutside (d : Dev) (req : Requester) (addr v m : Nat) : Dev :=
  match req with
  | .manager port _ =>
    if !(d.hostPort port).linkUp ∨ !d.portExists port ∨ (d.asleep req ∧ ¬ (configSpace ≤ addr ∧ addr < configSpace + 0x2000)) then d
    else
      if msixSpace ≤ addr ∧ addr < msixSpace + 0x8000 then
        d.msixWrite port ((addr - msixSpace) / 16) ((addr - msixSpace) / 4 % 4) (v &&& m)
      else if configSpace ≤ addr ∧ addr < configSpace + 0x2000 then
        d.configWrite port ((addr - configSpace) / 0x1000) (addr % 0x1000) v m
      else if doorbellSpace ≤ addr ∧ addr < doorbellSpace + 0x40000 then
        (if m = 2 ^ 32 - 1 then d.doorbellWrite port none ((addr - doorbellSpace) / 4) v else d.dropDoorbell)
      else d
  | _ => d

/-- A read outside the register map. -/
def Dev.readOutside (d : Dev) (req : Requester) (addr : Nat) : Nat :=
  match req with
  | .manager port _ =>
    let h := d.hostPort port
    if !d.portExists port then 0
    else if msixSpace ≤ addr ∧ addr < msixSpace + 0x8000 then
      let e := h.msixEntry ((addr - msixSpace) / 16)
      [bits e.addr 0 32, bits e.addr 32 32, e.data, b2n e.masked].getD ((addr - msixSpace) / 4 % 4) 0
    else if msixSpace + 0x8000 ≤ addr ∧ addr < msixSpace + 0x8100 then
      memberMap ((h.msix.filter (fun e => e.2.pending)).map (·.1)) (8 * (addr - msixSpace - 0x8000)) 32
    else if configSpace ≤ addr ∧ addr < configSpace + 0x2000 then
      d.configWord port ((addr - configSpace) / 0x1000) (addr % 0x1000)
    else if doorbellSpace ≤ addr ∧ addr < doorbellSpace + 0x40000 then d.doorbellValue port none ((addr - doorbellSpace) / 4)
    else 0
  | _ => 0

/-! ## The two commands -/

/-- A write by a requester at an address. -/
def Dev.writeAt (d : Dev) (req : Requester) (addr v m : Nat) : Dev :=
  if 0x1000000 ≤ addr then d.writeOutside req addr v m
  else if d.asleep req then d
  else if isForwarding addr then d.broadcastWrite req addr v m
  else
    d.onWrite req addr (fun d =>
      match d.pageAt addr with
      | none => d
      | some (k, n) => d.writeReg req addr k n (pageBase addr) (effOffset k.bodyLog2 (offsetOf addr / 4 * 4)) v m)

/-- R28-R30, R37, R48. -/
def execRegisterWrite (req : Requester) (addr : Nat) (value : Word) (be : BitVec 4) (s : State) :
    Host.Outcome State Fault Refusal :=
  s.become (s.dev.writeAt req addr value.toNat (byteMask be))

/-- A read by a requester at an address: the value, and the state after its effects. -/
def Dev.readAt (d : Dev) (req : Requester) (addr : Nat) : Nat × Dev :=
  match d.pageAt addr with
  | none => (0, d.accessError req addr false 1)
  | some (k, n) =>
    let off := effOffset k.bodyLog2 (offsetOf addr / 4 * 4)
    (d.readReg req k n (pageBase addr) off, d.readEffect req k n (pageBase addr) off)

/-- A read, answered with its enabled bytes. -/
def Dev.answerRead (d : Dev) (req : Requester) (addr m : Nat) : Dev :=
  if d.asleep req ∧ ¬ (configSpace ≤ addr ∧ addr < configSpace + 0x2000) then d.emit .unsupported
  else if 0x1000000 ≤ addr then d.emit (.readData (BitVec.ofNat 32 (d.readOutside req addr &&& m)))
  else if isForwarding addr then
    let r := d.broadcastRead req addr
    r.2.emit (.readData (BitVec.ofNat 32 (r.1 &&& m)))
  else if d.unreachable addr = some 2 then d.powerAbort req addr
  else
    let r := d.readAt req addr
    r.2.emit (.readData (BitVec.ofNat 32 (r.1 &&& m)))

/-- R28-R30, R37, R48. -/
def execCounterReadClear (req : Requester) (addr : Nat) (be : BitVec 4) (s : State) : Host.Outcome State Fault Refusal :=
  s.become (s.dev.answerRead req addr (byteMask be))

end Sys2Proof.Machine
end

