-- ==== Sys2Proof/Machine/Dispatch.lean ====
section
/-!
DEFINITION. The meaning of every command, one arm each.
-/

namespace Sys2Proof.Machine

open Sys2Proof

def exec (i : Instr) (s : State) : Host.Outcome State Fault Refusal :=
  match i with
  | .registerWrite req addr value be => Sys2Proof.Machine.execRegisterWrite req addr value be s
  | .counterReadClear req addr be => Sys2Proof.Machine.execCounterReadClear req addr be s
  | .parityBackgroundScan page upsets => Sys2Proof.Machine.execParityBackgroundScan page upsets s
  | .scanNow req page => Sys2Proof.Machine.execScanNow req page s
  | .cfgParityRecheck req page => Sys2Proof.Machine.execCfgParityRecheck req page s
  | .wmbCapture req page index => Sys2Proof.Machine.execWmbCapture req page index s
  | .wmbCommit req page index => Sys2Proof.Machine.execWmbCommit req page index s
  | .broadcastWrite req addr value be => Sys2Proof.Machine.execBroadcastWrite req addr value be s
  | .broadcastRead req addr => Sys2Proof.Machine.execBroadcastRead req addr s
  | .groupMaskParityScan region group upsets => Sys2Proof.Machine.execGroupMaskParityScan region group upsets s
  | .packetDispatch packet => Sys2Proof.Machine.execPacketDispatch packet s
  | .ill core => Sys2Proof.Machine.execIll core s
  | .add core => Sys2Proof.Machine.execAdd core s
  | .sub core => Sys2Proof.Machine.execSub core s
  | .and core => Sys2Proof.Machine.execAnd core s
  | .or core => Sys2Proof.Machine.execOr core s
  | .xor core => Sys2Proof.Machine.execXor core s
  | .shl core => Sys2Proof.Machine.execShl core s
  | .shr core => Sys2Proof.Machine.execShr core s
  | .mov core => Sys2Proof.Machine.execMov core s
  | .addi core => Sys2Proof.Machine.execAddi core s
  | .andi core => Sys2Proof.Machine.execAndi core s
  | .ori core => Sys2Proof.Machine.execOri core s
  | .xori core => Sys2Proof.Machine.execXori core s
  | .shli core => Sys2Proof.Machine.execShli core s
  | .shri core => Sys2Proof.Machine.execShri core s
  | .movi core => Sys2Proof.Machine.execMovi core s
  | .movhi core => Sys2Proof.Machine.execMovhi core s
  | .ext core => Sys2Proof.Machine.execExt core s
  | .ins core => Sys2Proof.Machine.execIns core s
  | .ld8 core => Sys2Proof.Machine.execLd8 core s
  | .ld16 core => Sys2Proof.Machine.execLd16 core s
  | .ld32 core => Sys2Proof.Machine.execLd32 core s
  | .extw core => Sys2Proof.Machine.execExtw core s
  | .curset core => Sys2Proof.Machine.execCurset core s
  | .curadd core => Sys2Proof.Machine.execCuradd core s
  | .curget core => Sys2Proof.Machine.execCurget core s
  | .wext core => Sys2Proof.Machine.execWext core s
  | .wextResume ctx => Sys2Proof.Machine.execWextResume ctx s
  | .br core => Sys2Proof.Machine.execBr core s
  | .bri core => Sys2Proof.Machine.execBri core s
  | .bf core => Sys2Proof.Machine.execBf core s
  | .j core => Sys2Proof.Machine.execJ core s
  | .call core => Sys2Proof.Machine.execCall core s
  | .ret core => Sys2Proof.Machine.execRet core s
  | .disp core => Sys2Proof.Machine.execDisp core s
  | .dmat core => Sys2Proof.Machine.execDmat core s
  | .hinit core => Sys2Proof.Machine.execHinit core s
  | .hcrc core => Sys2Proof.Machine.execHcrc core s
  | .hcrcr core => Sys2Proof.Machine.execHcrcr core s
  | .htoe core => Sys2Proof.Machine.execHtoe core s
  | .htoer core => Sys2Proof.Machine.execHtoer core s
  | .hrd core => Sys2Proof.Machine.execHrd core s
  | .emit core => Sys2Proof.Machine.execEmit core s
  | .emitw core => Sys2Proof.Machine.execEmitw core s
  | .fset core => Sys2Proof.Machine.execFset core s
  | .fclr core => Sys2Proof.Machine.execFclr core s
  | .rhint core => Sys2Proof.Machine.execRhint core s
  | .done core => Sys2Proof.Machine.execDone core s
  | .nop core => Sys2Proof.Machine.execNop core s
  | .contextParityError ctx => Sys2Proof.Machine.execContextParityError ctx s
  | .programStoreUe ctx => Sys2Proof.Machine.execProgramStoreUe ctx s
  | .recordRelease packet => Sys2Proof.Machine.execRecordRelease packet s
  | .exceptionDelivery => Sys2Proof.Machine.execExceptionDelivery s
  | .programStoreWrite req cluster value => Sys2Proof.Machine.execProgramStoreWrite req cluster value s
  | .programStoreRead req cluster => Sys2Proof.Machine.execProgramStoreRead req cluster s
  | .psCrcRecompute cluster bank => Sys2Proof.Machine.execPsCrcRecompute cluster bank s
  | .flipRequest req => Sys2Proof.Machine.execFlipRequest req s
  | .flipCheck => Sys2Proof.Machine.execFlipCheck s
  | .oldBankFree => Sys2Proof.Machine.execOldBankFree s
  | .recordAccept packet => Sys2Proof.Machine.execRecordAccept packet s
  | .treeWalk packet => Sys2Proof.Machine.execTreeWalk packet s
  | .resultHandoff packet => Sys2Proof.Machine.execResultHandoff packet s
  | .batchStage req batch => Sys2Proof.Machine.execBatchStage req batch s
  | .batchUnstage req batch => Sys2Proof.Machine.execBatchUnstage req batch s
  | .batchSwap req batch => Sys2Proof.Machine.execBatchSwap req batch s
  | .batchRetire batch => Sys2Proof.Machine.execBatchRetire batch s
  | .batchRetiredClear req mask => Sys2Proof.Machine.execBatchRetiredClear req mask s
  | .emProbe packet probe => Sys2Proof.Machine.execEmProbe packet probe s
  | .privilegedReprobe packet probe => Sys2Proof.Machine.execPrivilegedReprobe packet probe s
  | .lpmProbe packet probe => Sys2Proof.Machine.execLpmProbe packet probe s
  | .ageRefresh => Sys2Proof.Machine.execAgeRefresh s
  | .insert => Sys2Proof.Machine.execInsert s
  | .insertNoevict => Sys2Proof.Machine.execInsertNoevict s
  | .delete => Sys2Proof.Machine.execDelete s
  | .lookup => Sys2Proof.Machine.execLookup s
  | .clearSlot => Sys2Proof.Machine.execClearSlot s
  | .bloomRebuild => Sys2Proof.Machine.execBloomRebuild s
  | .bloomRebuildEnd => Sys2Proof.Machine.execBloomRebuildEnd s
  | .heldOperationStart page => Sys2Proof.Machine.execHeldOperationStart page s
  | .learnExecute => Sys2Proof.Machine.execLearnExecute s
  | .epochAdvance => Sys2Proof.Machine.execEpochAdvance s
  | .sweepBucketVisit => Sys2Proof.Machine.execSweepBucketVisit s
  | .compareAndClear => Sys2Proof.Machine.execCompareAndClear s
  | .notificationRecordWrite => Sys2Proof.Machine.execNotificationRecordWrite s
  | .nrConsWrite req value => Sys2Proof.Machine.execNrConsWrite req value s
  | .actionApply packet => Sys2Proof.Machine.execActionApply packet s
  | .meterUpdate packet => Sys2Proof.Machine.execMeterUpdate packet s
  | .counterUpdate lane => Sys2Proof.Machine.execCounterUpdate lane s
  | .templateReadAbandon packet => Sys2Proof.Machine.execTemplateReadAbandon packet s
  | .traceRecordWrite => Sys2Proof.Machine.execTraceRecordWrite s
  | .traceConsWrite req value => Sys2Proof.Machine.execTraceConsWrite req value s
  | .cntRead => Sys2Proof.Machine.execCntRead s
  | .cntReadClear => Sys2Proof.Machine.execCntReadClear s
  | .cntPreset => Sys2Proof.Machine.execCntPreset s
  | .meterWrite => Sys2Proof.Machine.execMeterWrite s
  | .meterRead => Sys2Proof.Machine.execMeterRead s
  | .meterDisable => Sys2Proof.Machine.execMeterDisable s
  | .copyEnqueue copy => Sys2Proof.Machine.execCopyEnqueue copy s
  | .portSchedule mac => Sys2Proof.Machine.execPortSchedule mac s
  | .hostDelivery => Sys2Proof.Machine.execHostDelivery s
  | .frameArrival mac head => Sys2Proof.Machine.execFrameArrival mac head s
  | .lehrJobSubmit => Sys2Proof.Machine.execLehrJobSubmit s
  | .lehrBlockIssue job segment => Sys2Proof.Machine.execLehrBlockIssue job segment s
  | .lehrBlockComplete unit cell agree => Sys2Proof.Machine.execLehrBlockComplete unit cell agree s
  | .lehrJobEnd job failed => Sys2Proof.Machine.execLehrJobEnd job failed s
  | .knownAnswerTest unit cell pass => Sys2Proof.Machine.execKnownAnswerTest unit cell pass s
  | .drbgReseed unit generator seeded => Sys2Proof.Machine.execDrbgReseed unit generator seeded s
  | .keyUnwrap => Sys2Proof.Machine.execKeyUnwrap s
  | .install => Sys2Proof.Machine.execInstall s
  | .retire => Sys2Proof.Machine.execRetire s
  | .query => Sys2Proof.Machine.execQuery s
  | .slotZeroise slot => Sys2Proof.Machine.execSlotZeroise slot s
  | .sxpPrecheck lane => Sys2Proof.Machine.execSxpPrecheck lane s
  | .sxpPostcheck lane => Sys2Proof.Machine.execSxpPostcheck lane s
  | .sxpWrite => Sys2Proof.Machine.execSxpWrite s
  | .sxpRead => Sys2Proof.Machine.execSxpRead s
  | .sxpDisable => Sys2Proof.Machine.execSxpDisable s
  | .sxpRoll => Sys2Proof.Machine.execSxpRoll s
  | .rollComplete sa => Sys2Proof.Machine.execRollComplete sa s
  | .limitFifoPop req => Sys2Proof.Machine.execLimitFifoPop req s
  | .read queue => Sys2Proof.Machine.execRead queue s
  | .write queue => Sys2Proof.Machine.execWrite queue s
  | .flush queue => Sys2Proof.Machine.execFlush queue s
  | .trim queue => Sys2Proof.Machine.execTrim queue s
  | .wireCommandIssue wire answer => Sys2Proof.Machine.execWireCommandIssue wire answer s
  | .c2hdataReceive session => Sys2Proof.Machine.execC2hdataReceive session s
  | .capsuleRespReceive session => Sys2Proof.Machine.execCapsuleRespReceive session s
  | .readyToTransferReceive session => Sys2Proof.Machine.execReadyToTransferReceive session s
  | .c2htermreqReceive session => Sys2Proof.Machine.execC2htermreqReceive session s
  | .icrespReceive session => Sys2Proof.Machine.execIcrespReceive session s
  | .synAckReceive => Sys2Proof.Machine.execSynAckReceive s
  | .tcpRstReceive => Sys2Proof.Machine.execTcpRstReceive s
  | .tcpSegmentReceive => Sys2Proof.Machine.execTcpSegmentReceive s
  | .retransmissionTimeout session => Sys2Proof.Machine.execRetransmissionTimeout session s
  | .cmdTimeout wire => Sys2Proof.Machine.execCmdTimeout wire s
  | .openWaitTimeout queue index => Sys2Proof.Machine.execOpenWaitTimeout queue index s
  | .volWrite => Sys2Proof.Machine.execVolWrite s
  | .volRead => Sys2Proof.Machine.execVolRead s
  | .volDisable => Sys2Proof.Machine.execVolDisable s
  | .stoVolBindKey => Sys2Proof.Machine.execStoVolBindKey s
  | .sesWrite => Sys2Proof.Machine.execSesWrite s
  | .sesRead => Sys2Proof.Machine.execSesRead s
  | .sesOpen => Sys2Proof.Machine.execSesOpen s
  | .sesGo => Sys2Proof.Machine.execSesGo s
  | .sesClose => Sys2Proof.Machine.execSesClose s
  | .sesReset => Sys2Proof.Machine.execSesReset s
  | .sessionDrained session => Sys2Proof.Machine.execSessionDrained session s
  | .frameReceiveEnd mac bytes codeError => Sys2Proof.Machine.execFrameReceiveEnd mac bytes codeError s
  | .pauseReceive mac bytes => Sys2Proof.Machine.execPauseReceive mac bytes s
  | .pfcReceive mac bytes => Sys2Proof.Machine.execPfcReceive mac bytes s
  | .pauseTimerExpiry mac timer => Sys2Proof.Machine.execPauseTimerExpiry mac timer s
  | .pauseWatchdog mac tc => Sys2Proof.Machine.execPauseWatchdog mac tc s
  | .pauseHoldEnd mac tc => Sys2Proof.Machine.execPauseHoldEnd mac tc s
  | .laneLockLoss mac lost dark => Sys2Proof.Machine.execLaneLockLoss mac lost dark s
  | .laneLockAcquire mac snr => Sys2Proof.Machine.execLaneLockAcquire mac snr s
  | .upHoldExpiry mac => Sys2Proof.Machine.execUpHoldExpiry mac s
  | .faultSequenceReceive mac localFault remoteFault => Sys2Proof.Machine.execFaultSequenceReceive mac localFault remoteFault s
  | .fecDegradeWindow mac corrected uncorrectable symbols => Sys2Proof.Machine.execFecDegradeWindow mac corrected uncorrectable symbols s
  | .flowControlFrameSend mac => Sys2Proof.Machine.execFlowControlFrameSend mac s
  | .pfcRefresh mac cls => Sys2Proof.Machine.execPfcRefresh mac cls s
  | .frameTransmitStart mac => Sys2Proof.Machine.execFrameTransmitStart mac s
  | .txUnderrun mac => Sys2Proof.Machine.execTxUnderrun mac s
  | .frameTransmitEnd mac => Sys2Proof.Machine.execFrameTransmitEnd mac s
  | .macSnapshot req mac => Sys2Proof.Machine.execMacSnapshot req mac s
  | .macgSnapshot req => Sys2Proof.Machine.execMacgSnapshot req s
  | .tsFifoCapture req mac => Sys2Proof.Machine.execTsFifoCapture req mac s
  | .txStartBaseWrite req mac value => Sys2Proof.Machine.execTxStartBaseWrite req mac value s
  | .pcsModeWrite req group mode => Sys2Proof.Machine.execPcsModeWrite req group mode s
  | .pcsRetuneDone group => Sys2Proof.Machine.execPcsRetuneDone group s
  | .cageTwiStart req group => Sys2Proof.Machine.execCageTwiStart req group s
  | .cageTwiDone group data => Sys2Proof.Machine.execCageTwiDone group data s
  | .cagePresenceChange group present => Sys2Proof.Machine.execCagePresenceChange group present s
  | .cageModuleInterrupt group level => Sys2Proof.Machine.execCageModuleInterrupt group level s
  | .cageSupplyFault group => Sys2Proof.Machine.execCageSupplyFault group s
  | .sliceCounterLoRead slice counter => Sys2Proof.Machine.execSliceCounterLoRead slice counter s
  | .linkUp port speed width flit => Sys2Proof.Machine.execLinkUp port speed width flit s
  | .linkDown port => Sys2Proof.Machine.execLinkDown port s
  | .functionLevelReset port pf => Sys2Proof.Machine.execFunctionLevelReset port pf s
  | .atsInvalidationRequest port pf pasid range => Sys2Proof.Machine.execAtsInvalidationRequest port pf pasid range s
  | .atsInvalidationComplete port => Sys2Proof.Machine.execAtsInvalidationComplete port s
  | .prgResponse port group success => Sys2Proof.Machine.execPrgResponse port group success s
  | .pageRequestTimeout port group => Sys2Proof.Machine.execPageRequestTimeout port group s
  | .readCompletionReceive port target answer => Sys2Proof.Machine.execReadCompletionReceive port target answer s
  | .completionTimeout port target => Sys2Proof.Machine.execCompletionTimeout port target s
  | .sliceWindowAccess port slice offset rid write value be stream tbit => Sys2Proof.Machine.execSliceWindowAccess port slice offset rid write value be stream tbit s
  | .sitWrite port => Sys2Proof.Machine.execSitWrite port s
  | .sitClear port => Sys2Proof.Machine.execSitClear port s
  | .sitRead port => Sys2Proof.Machine.execSitRead port s
  | .sliceInterruptRaise slice entry stamp => Sys2Proof.Machine.execSliceInterruptRaise slice entry stamp s
  | .sitMaskWrite slice entry mask => Sys2Proof.Machine.execSitMaskWrite slice entry mask s
  | .msixUnmask port vector => Sys2Proof.Machine.execMsixUnmask port vector s
  | .ideIntegrityFailure port stream => Sys2Proof.Machine.execIdeIntegrityFailure port stream s
  | .lockInterfaceRequest slice stream => Sys2Proof.Machine.execLockInterfaceRequest slice stream s
  | .slcCreate => Sys2Proof.Machine.execSlcCreate s
  | .slcModify => Sys2Proof.Machine.execSlcModify s
  | .slcDestroy => Sys2Proof.Machine.execSlcDestroy s
  | .slcRead => Sys2Proof.Machine.execSlcRead s
  | .teardownComplete slice => Sys2Proof.Machine.execTeardownComplete slice s
  | .quarantineEnd slice => Sys2Proof.Machine.execQuarantineEnd slice s
  | .queCreate => Sys2Proof.Machine.execQueCreate s
  | .queModify => Sys2Proof.Machine.execQueModify s
  | .queDestroy => Sys2Proof.Machine.execQueDestroy s
  | .queRead => Sys2Proof.Machine.execQueRead s
  | .sqPiDoorbell port queue owner value => Sys2Proof.Machine.execSqPiDoorbell port queue owner value s
  | .cqCiDoorbell port queue owner value => Sys2Proof.Machine.execCqCiDoorbell port queue owner value s
  | .queueStart req queue => Sys2Proof.Machine.execQueueStart req queue s
  | .queueStop req queue => Sys2Proof.Machine.execQueueStop req queue s
  | .queueReset req queue => Sys2Proof.Machine.execQueueReset req queue s
  | .queueResume req queue => Sys2Proof.Machine.execQueueResume req queue s
  | .doorbellRead port queue owner => Sys2Proof.Machine.execDoorbellRead port queue owner s
  | .entryFetch queue answer => Sys2Proof.Machine.execEntryFetch queue answer s
  | .send queue answer => Sys2Proof.Machine.execSend queue answer s
  | .recv queue => Sys2Proof.Machine.execRecv queue s
  | .cipher queue answer => Sys2Proof.Machine.execCipher queue answer s
  | .completionWrite queue => Sys2Proof.Machine.execCompletionWrite queue s
  | .irqDelayExpiry queue => Sys2Proof.Machine.execIrqDelayExpiry queue s
  | .framePlacement queue => Sys2Proof.Machine.execFramePlacement queue s
  | .rxHoldExpiry queue => Sys2Proof.Machine.execRxHoldExpiry queue s
  | .moverGo req mover => Sys2Proof.Machine.execMoverGo req mover s
  | .moverStop req mover => Sys2Proof.Machine.execMoverStop req mover s
  | .moverTrigger mover => Sys2Proof.Machine.execMoverTrigger mover s
  | .descriptorFetch mover => Sys2Proof.Machine.execDescriptorFetch mover s
  | .burstIssue mover portReady answer => Sys2Proof.Machine.execBurstIssue mover portReady answer s
  | .chainEnd mover => Sys2Proof.Machine.execChainEnd mover s
  | .fence pair => Sys2Proof.Machine.execFence pair s
  | .dcinv pair addr len => Sys2Proof.Machine.execDcinv pair addr len s
  | .eventSourceAssert source => Sys2Proof.Machine.execEventSourceAssert source s
  | .pendClear req word mask => Sys2Proof.Machine.execPendClear req word mask s
  | .routeUnmask req source => Sys2Proof.Machine.execRouteUnmask req source s
  | .softwareEvent req events => Sys2Proof.Machine.execSoftwareEvent req events s
  | .binActivation input => Sys2Proof.Machine.execBinActivation input s
  | .binStuck input => Sys2Proof.Machine.execBinStuck input s
  | .binUnmask req mask => Sys2Proof.Machine.execBinUnmask req mask s
  | .mbxSend req box pasid => Sys2Proof.Machine.execMbxSend req box pasid s
  | .mbxPop req box => Sys2Proof.Machine.execMbxPop req box s
  | .sliceCreate channel => Sys2Proof.Machine.execSliceCreate channel s
  | .sliceModify channel => Sys2Proof.Machine.execSliceModify channel s
  | .sliceDestroy channel => Sys2Proof.Machine.execSliceDestroy channel s
  | .poolSet channel => Sys2Proof.Machine.execPoolSet channel s
  | .move channel mover answer => Sys2Proof.Machine.execMove channel mover answer s
  | .otpWrite channel => Sys2Proof.Machine.execOtpWrite channel s
  | .otpProgramEnd => Sys2Proof.Machine.execOtpProgramEnd s
  | .lifecycleAdvance channel => Sys2Proof.Machine.execLifecycleAdvance channel s
  | .fwReady result failed => Sys2Proof.Machine.execFwReady result failed s
  | .keyInstall => Sys2Proof.Machine.execKeyInstall s
  | .keyRetire => Sys2Proof.Machine.execKeyRetire s
  | .keyQuery => Sys2Proof.Machine.execKeyQuery s
  | .saWrite => Sys2Proof.Machine.execSaWrite s
  | .saDisable => Sys2Proof.Machine.execSaDisable s
  | .saRoll => Sys2Proof.Machine.execSaRoll s
  | .saRead => Sys2Proof.Machine.execSaRead s
  | .volBindKey => Sys2Proof.Machine.execVolBindKey s
  | .queueOp => Sys2Proof.Machine.execQueueOp s
  | .sesCtl => Sys2Proof.Machine.execSesCtl s
  | .charterHistory => Sys2Proof.Machine.execCharterHistory s
  | .getVersion via => Sys2Proof.Machine.execGetVersion via s
  | .getCapabilities via => Sys2Proof.Machine.execGetCapabilities via s
  | .negotiateAlgorithms via supported => Sys2Proof.Machine.execNegotiateAlgorithms via supported s
  | .getDigests via => Sys2Proof.Machine.execGetDigests via s
  | .getCertificate via slot offset length => Sys2Proof.Machine.execGetCertificate via slot offset length s
  | .challenge via slot nonce => Sys2Proof.Machine.execChallenge via slot nonce s
  | .getMeasurements via index nonce => Sys2Proof.Machine.execGetMeasurements via index nonce s
  | .keyExchange via summary => Sys2Proof.Machine.execKeyExchange via summary s
  | .finish session good => Sys2Proof.Machine.execFinish session good s
  | .heartbeat session => Sys2Proof.Machine.execHeartbeat session s
  | .keyUpdate session => Sys2Proof.Machine.execKeyUpdate session s
  | .endSession session => Sys2Proof.Machine.execEndSession session s
  | .vendorDefinedRequest via session payload => Sys2Proof.Machine.execVendorDefinedRequest via session payload s
  | .spdmSessionTimeout session => Sys2Proof.Machine.execSpdmSessionTimeout session s
  | .welborRelease => Sys2Proof.Machine.execWelborRelease s
  | .bootStageEnd pass images => Sys2Proof.Machine.execBootStageEnd pass images s
  | .powerRequest req target => Sys2Proof.Machine.execPowerRequest req target s
  | .powerTransitionComplete => Sys2Proof.Machine.execPowerTransitionComplete s
  | .standbyEntryComplete => Sys2Proof.Machine.execStandbyEntryComplete s
  | .leanStep => Sys2Proof.Machine.execLeanStep s
  | .dozeDemand addr => Sys2Proof.Machine.execDozeDemand addr s
  | .l1IdleTimeout port => Sys2Proof.Machine.execL1IdleTimeout port s
  | .wakeRequest kind source => Sys2Proof.Machine.execWakeRequest kind source s
  | .exitStepTimeout step unit => Sys2Proof.Machine.execExitStepTimeout step unit s
  | .standbyExitComplete => Sys2Proof.Machine.execStandbyExitComplete s
  | .padRelease req groups => Sys2Proof.Machine.execPadRelease req groups s
  | .feedGood feed => Sys2Proof.Machine.execFeedGood feed s
  | .feedLost feed => Sys2Proof.Machine.execFeedLost feed s
  | .auxPowerOn => Sys2Proof.Machine.execAuxPowerOn s
  | .auxPowerLoss => Sys2Proof.Machine.execAuxPowerLoss s
  | .perstAssert port => Sys2Proof.Machine.execPerstAssert port s
  | .deviceReset req confirm => Sys2Proof.Machine.execDeviceReset req confirm s
  | .hostPortReset req kind confirm => Sys2Proof.Machine.execHostPortReset req kind confirm s
  | .welborRestart => Sys2Proof.Machine.execWelborRestart s
  | .thermalTrip => Sys2Proof.Machine.execThermalTrip s
  | .ptpSecondWrap => Sys2Proof.Machine.execPtpSecondWrap s
  | .ppsInEdge => Sys2Proof.Machine.execPpsInEdge s
  | .ptpClockLoad req => Sys2Proof.Machine.execPtpClockLoad req s
  | .ptpOffsetAdjust req => Sys2Proof.Machine.execPtpOffsetAdjust req s
  | .slowCrystalFail => Sys2Proof.Machine.execSlowCrystalFail s
  | .slowFreqMeasure source frequency => Sys2Proof.Machine.execSlowFreqMeasure source frequency s
  | .refInputLoss => Sys2Proof.Machine.execRefInputLoss s
  | .oscillatorFail oscillator => Sys2Proof.Machine.execOscillatorFail oscillator s
  | .gddrBurstRebuild device addr => Sys2Proof.Machine.execGddrBurstRebuild device addr s
  | .memFailWrite req device => Sys2Proof.Machine.execMemFailWrite req device s
  | .scrubRound device corrected => Sys2Proof.Machine.execScrubRound device corrected s
  | .cpxMismatch pair => Sys2Proof.Machine.execCpxMismatch pair s
  | .cpxBistEnd pair pass => Sys2Proof.Machine.execCpxBistEnd pair pass s
  | .cpxReturn req pair => Sys2Proof.Machine.execCpxReturn req pair s
  | .svcOut req type inst => Sys2Proof.Machine.execSvcOut req type inst s
  | .svcIn req type inst => Sys2Proof.Machine.execSvcIn req type inst s
  | .svcSyncEnd unit => Sys2Proof.Machine.execSvcSyncEnd unit s
  | .svcDrainEnd unit => Sys2Proof.Machine.execSvcDrainEnd unit s
  | .svcBistEnd unit pass => Sys2Proof.Machine.execSvcBistEnd unit pass s
  | .logicParityFault page checkPoint => Sys2Proof.Machine.execLogicParityFault page checkPoint s
  | .crossingParityError page sender retryGood => Sys2Proof.Machine.execCrossingParityError page sender retryGood s
  | .phaseShed rail phase => Sys2Proof.Machine.execPhaseShed rail phase s
  | .sramError bank row page corrected => Sys2Proof.Machine.execSramError bank row page corrected s
  | .journalRecordWrite => Sys2Proof.Machine.execJournalRecordWrite s
  | .journalRead req seq => Sys2Proof.Machine.execJournalRead req seq s
  | .avsStep island margin => Sys2Proof.Machine.execAvsStep island margin s
  | .startInterfaceRequest slice => Sys2Proof.Machine.execStartInterfaceRequest slice s
  | .stopInterfaceRequest slice => Sys2Proof.Machine.execStopInterfaceRequest slice s
  | .ideKmRequest session port stream activate => Sys2Proof.Machine.execIdeKmRequest session port stream activate s
  | .mctpControlMessage setEid => Sys2Proof.Machine.execMctpControlMessage setEid s
  | .pciPowerStateChange port pf d3 => Sys2Proof.Machine.execPciPowerStateChange port pf d3 s
  | .perstDeassert port => Sys2Proof.Machine.execPerstDeassert port s
  | .binInactive input => Sys2Proof.Machine.execBinInactive input s
  | .ppsWidthExpiry => Sys2Proof.Machine.execPpsWidthExpiry s
  | .holdoverExpiry => Sys2Proof.Machine.execHoldoverExpiry s
  | .l12WaitExpiry port => Sys2Proof.Machine.execL12WaitExpiry port s
  | .linkL12Entry port => Sys2Proof.Machine.execLinkL12Entry port s
  | .busHoldUpExpiry => Sys2Proof.Machine.execBusHoldUpExpiry s
  | .poweredDownPageRead req addr => Sys2Proof.Machine.execPoweredDownPageRead req addr s

end Sys2Proof.Machine
end

