-- ==== Sys2Proof/Machine/Tick.lean ====
section
/-!
DEFINITION. The passing of time: one nanosecond of every clock that the model keeps (log entry 7).  The PTP clock (R411), the slow
clock with the AON counter and the RS copies taken at its edges (R38, R413), the service clock's copies (R38), the reheat credit
(R99), the stall counter (R173), the ends of parity scans (R41) and the start of a fenced pair's BIST (R428).  Every other timed happening is a command.
-/

namespace Sys2Proof.Machine

/-- A nanosecond of the timing clock (R411): TIM_FREQ changes its rate by 2^-8 ppb. -/
def Time.tick (t : Time) (adj : Int) : Time :=
  let whole : Int := 1000000000
  let total := (t.rest : Int) + 65536 * whole + adj * 256
  let u := t.frac + (total / whole).toNat
  { t with rest := (total % whole).toNat, frac := u % 65536, ns := t.ns + u / 65536 }

/-- The PTP clock counts while the TIMING domain is on. -/
def Dev.tickPtp (d : Dev) : Dev :=
  if !d.domainOn 5 then d
  else
    let d1 := d.setTim (d.tim.tick (signed 32 (d.rd (Page.tim + Reg.TIM_FREQ_ADJ.off)).toNat))
    if 1000000000 ≤ d1.tim.ns then d1.secondWrap else d1

/-- Rising edges of the 32.768 kHz slow clock in the first `t` nanoseconds. -/
def slowEdges (t : Nat) : Nat := t * 32768 / 1000000000

/-- The state being entered. -/
def Transition.target : Transition → Nat
  | .none => 0
  | .move t => t.num
  | .entry _ => 3
  | .exit _ => 0

/-- The domains that are on, without gated clusters (R402, R419). -/
def Power.shown (p : Power) : Nat :=
  p.domains - (p.domains &&& (p.gafGated * 2 ^ 8 + p.lehGated * 2 ^ 32))

/-- The RS registers of AON take their copies (R38, R365, R407, R413, R419, R420). -/
def Dev.captureAon (d : Dev) : Dev :=
  let p := d.pwr
  let w (d : Dev) (f : Fld) (v : Nat) : Dev := d.fset Page.pwr f v
  let d1 := w (w (w d Reg.PWR_STATE_BUSY (b2n d.powerBusy)) Reg.PWR_STATE_TARGET p.trans.target) Reg.PWR_STATE_STATE p.state.num
  let d2 := w (w (w d1 Reg.PWR_WAKE_CAUSE_KIND p.causeKind) Reg.PWR_WAKE_CAUSE_REPLAYED (b2n p.replayed))
    Reg.PWR_WAKE_CAUSE_SOURCE p.causeSource
  let d3 := w (w (w d2 Reg.PWR_FEED_A_GOOD (b2n p.feedA)) Reg.PWR_FEED_B_GOOD (b2n p.feedB)) Reg.PWR_PAD_HELD_GROUP p.padHeld
  let d4 := (List.range 3).foldl (fun (d : Dev) i => w d (Reg.PWR_DOM_ON.nth 4 i) (bits p.shown (32 * i) 32)) d3
  let levels := ((List.range 4).map (fun n => b2n (d.bin n).active * 2 ^ n)).sum
  let d5 := d4.fset Page.evtAon Reg.EVT_BIN_STAT_LEVEL levels
  if !d.domainOn 5 then d5
  else
    (((d5.fset Page.tim Reg.TIM_SLOW_XTAL_OK (b2n !d.tim.slowRc)).fset Page.tim Reg.TIM_SLOW_SRC (b2n d.tim.slowRc)).fset
      Page.tim Reg.TIM_AON_LO_CNT (d.tim.aonCount % 2 ^ 32)).fset Page.tim Reg.TIM_AON_HI_CNT (d.tim.aonCount / 2 ^ 32)

/-- An edge of the slow clock, while 3.3Vaux is present. -/
def Dev.slowEdge (d : Dev) : Dev :=
  if !d.pwr.vaux then d
  else (d.setTim { d.tim with aonCount := (d.tim.aonCount + 1) % 2 ^ 48 }).captureAon

/-- The RS registers of the GDDR6 interfaces take their copies (R446). -/
def Dev.captureMem (d : Dev) : Dev :=
  if !d.domainOn 4 then d
  else (List.range 18).foldl (fun (d : Dev) n => d.fset (Page.mem n) Reg.MEM_STAT_STATE (d.memState n)) d

/-- Those of the host ports (R297). -/
def Dev.captureHif (d : Dev) : Dev :=
  if !d.domainOn 2 then d
  else (List.range 2).foldl (fun (d : Dev) n =>
    let p := Page.hif n
    let h := d.hostPort n
    (((d.fset p Reg.HIF_LINK_DL_UP (b2n h.linkUp)).fset p Reg.HIF_LINK_FLIT (b2n h.flit)).fset p Reg.HIF_LINK_WIDTH h.width).fset p
      Reg.HIF_LINK_SPEED h.speed) d

/-- Those of the SerDes lanes (R271). -/
def Dev.captureLanes (d : Dev) : Dev :=
  (List.range 16).foldl (fun (d : Dev) k =>
    if !d.domainOn (6 + k / 8) then d
    else
      let p := Page.pcs (k / 8)
      let v := d.lane k
      ((d.fset p (Reg.PCS_LANE_STAT_CDR_LOCK.nth 4 (k % 8)) (b2n v.lock)).fset p (Reg.PCS_LANE_STAT_SIGNAL.nth 4 (k % 8))
        (b2n v.signal)).fset p (Reg.PCS_LANE_STAT_SNR.nth 4 (k % 8)) v.snr) d

/-- An edge of the 25 MHz service clock (R38). -/
def Dev.captureService (d : Dev) : Dev := d.captureMem.captureHif.captureLanes

/-- The reheat credit of the GAF cycles of one nanosecond (R99). -/
def Dev.addCredit (d : Dev) : Dev :=
  if !d.domainOn 3 then d
  else
    let c := d.credit + d.clockMhz gafMhz / 1000 * d.fget Page.clsg Reg.CLS_REHEAT_SHARE_RATE
    let cap := d.fget Page.clsg Reg.CLS_REHEAT_SHARE_CAP
    let new := if (cap : Int) < c then (cap : Int) else c
    if new = d.credit then d else d.setCredit new

/-- One nanosecond passes. -/
def Dev.advance (d : Dev) : Dev :=
  let d1 := { d with now := d.now + 1 }.tickPtp
  let d2 := if slowEdges (d.now + 1) = slowEdges d.now then d1 else d1.slowEdge
  let d3 := if (d.now + 1) % 40 = 0 then d2.captureService else d2
  d3.endScans.startBists.addCredit.countStall

end Sys2Proof.Machine
end

