-- ==== Sys2Proof/Safety.lean ====
section
/-!
DEFINITION. What statements are made in terms of: runs of the block, the effect of a list of commands, and which context of a
gaffer core issues which word, the parts of the device, and which of them each command may change.
-/

namespace Sys2Proof.Machine

/-- The state after `k` steps, none once a step faults or refuses. -/
def runs : Nat → State → Option State
  | 0, s => some s
  | k + 1, s =>
    match step s with
    | .next t => runs k t
    | .fault _ => none
    | .refused _ => none

/-- The state after the commands of a list have been carried out one after the other, the queue left alone. -/
def carryOut : List Instr → State → Option State
  | [], s => some s
  | c :: cs, s =>
    match exec c s with
    | .next t => carryOut cs t
    | .fault _ => none
    | .refused _ => none

/-- A safe run: no step of it faults or refuses. -/
def Safe (s : State) : Prop := ∀ k, (runs k s).isSome

/-- Core `core` issues next from its context `c`, in state `x`, the word `w` of the bank that stamps the pass, and `cost` more
cycles do not pass the limit (R52, R54, R70). -/
def Dev.issues (d : Dev) (core c : Nat) (x : Ctx) (w cost : Nat) : Bool :=
  d.readyCtx core == some (c, x) && decide (x.pc ≤ 2047) && (d.storeWord (ctxUnit c) x.bank x.pc).toNat == w
    && decide (x.charged + cost ≤ d.fget Page.gafg Reg.GAFG_CYCLE_LIMIT_LIMIT)

/-- The state in which core `core` has issued from its context `c`, which now is `x` (R52). -/
def Dev.issued (d : Dev) (core c : Nat) (x : Ctx) : Dev :=
  { d with lastIssued := Sparse.set (blank 3) d.lastIssued core (c % 4) }.setCtx c (some x)

/-- The window bytes of a context: the first WLEN bytes of its packet (R55). -/
def Dev.windowOf (d : Dev) (x : Ctx) : List Byte := ((d.packet x.packet).bytes.take 512).take x.wlen

/-! ## Parts of the device -/

/-- The parts of the device: the fields of `Dev`. -/
inductive Part where
  | now | regs | wide | badParity | seenParity | gddr | die | host0 | host1 | out | free | bins | boutHeld | movers
  | portOwner | portData | journal | pwr | tim | ft | cpx | hif | sit | slices | queues | ports | store | crcBusy
  | ctxs | lastIssued | fencedCtx | ctxErrors | gafStopped | flips | packets | headGen | srcSeq | dispatchQ
  | reheatQ | reheatSeen | credit | excQ | acceptNo | cullet | copies | nextCopy | traceQ | xoffAsked | ovfTags
  | ovfBad | bloom | noteQ | noteSeq | learnQ | refreshQ | clearQ | sweep | sweepAgain | rebuild | encapId
  | counterQ | sched | host | macs | lanes | sentQ | lehr | sxp | sto | mail | wel
  deriving DecidableEq, Repr

/-- Two devices hold the same in a part. -/
def Dev.same (d e : Dev) (p : Part) : Prop :=
  match p with
  | .now => d.now = e.now
  | .regs => d.regs = e.regs
  | .wide => d.wide = e.wide
  | .badParity => d.badParity = e.badParity
  | .seenParity => d.seenParity = e.seenParity
  | .gddr => d.gddr = e.gddr
  | .die => d.die = e.die
  | .host0 => d.host0 = e.host0
  | .host1 => d.host1 = e.host1
  | .out => d.out = e.out
  | .free => d.free = e.free
  | .bins => d.bins = e.bins
  | .boutHeld => d.boutHeld = e.boutHeld
  | .movers => d.movers = e.movers
  | .portOwner => d.portOwner = e.portOwner
  | .portData => d.portData = e.portData
  | .journal => d.journal = e.journal
  | .pwr => d.pwr = e.pwr
  | .tim => d.tim = e.tim
  | .ft => d.ft = e.ft
  | .cpx => d.cpx = e.cpx
  | .hif => d.hif = e.hif
  | .sit => d.sit = e.sit
  | .slices => d.slices = e.slices
  | .queues => d.queues = e.queues
  | .ports => d.ports = e.ports
  | .store => d.store = e.store
  | .crcBusy => d.crcBusy = e.crcBusy
  | .ctxs => d.ctxs = e.ctxs
  | .lastIssued => d.lastIssued = e.lastIssued
  | .fencedCtx => d.fencedCtx = e.fencedCtx
  | .ctxErrors => d.ctxErrors = e.ctxErrors
  | .gafStopped => d.gafStopped = e.gafStopped
  | .flips => d.flips = e.flips
  | .packets => d.packets = e.packets
  | .headGen => d.headGen = e.headGen
  | .srcSeq => d.srcSeq = e.srcSeq
  | .dispatchQ => d.dispatchQ = e.dispatchQ
  | .reheatQ => d.reheatQ = e.reheatQ
  | .reheatSeen => d.reheatSeen = e.reheatSeen
  | .credit => d.credit = e.credit
  | .excQ => d.excQ = e.excQ
  | .acceptNo => d.acceptNo = e.acceptNo
  | .cullet => d.cullet = e.cullet
  | .copies => d.copies = e.copies
  | .nextCopy => d.nextCopy = e.nextCopy
  | .traceQ => d.traceQ = e.traceQ
  | .xoffAsked => d.xoffAsked = e.xoffAsked
  | .ovfTags => d.ovfTags = e.ovfTags
  | .ovfBad => d.ovfBad = e.ovfBad
  | .bloom => d.bloom = e.bloom
  | .noteQ => d.noteQ = e.noteQ
  | .noteSeq => d.noteSeq = e.noteSeq
  | .learnQ => d.learnQ = e.learnQ
  | .refreshQ => d.refreshQ = e.refreshQ
  | .clearQ => d.clearQ = e.clearQ
  | .sweep => d.sweep = e.sweep
  | .sweepAgain => d.sweepAgain = e.sweepAgain
  | .rebuild => d.rebuild = e.rebuild
  | .encapId => d.encapId = e.encapId
  | .counterQ => d.counterQ = e.counterQ
  | .sched => d.sched = e.sched
  | .host => d.host = e.host
  | .macs => d.macs = e.macs
  | .lanes => d.lanes = e.lanes
  | .sentQ => d.sentQ = e.sentQ
  | .lehr => d.lehr = e.lehr
  | .sxp => d.sxp = e.sxp
  | .sto => d.sto = e.sto
  | .mail => d.mail = e.mail
  | .wel => d.wel = e.wel

/-- Every part. -/
def allParts : List Part :=
  [.now, .regs, .wide, .badParity, .seenParity, .gddr, .die, .host0, .host1, .out, .free, .bins, .boutHeld,
   .movers, .portOwner, .portData, .journal, .pwr, .tim, .ft, .cpx, .hif, .sit, .slices, .queues, .ports, .store,
   .crcBusy, .ctxs, .lastIssued, .fencedCtx, .ctxErrors, .gafStopped, .flips, .packets, .headGen, .srcSeq,
   .dispatchQ, .reheatQ, .reheatSeen, .credit, .excQ, .acceptNo, .cullet, .copies, .nextCopy, .traceQ, .xoffAsked,
   .ovfTags, .ovfBad, .bloom, .noteQ, .noteSeq, .learnQ, .refreshQ, .clearQ, .sweep, .sweepAgain, .rebuild,
   .encapId, .counterQ, .sched, .host, .macs, .lanes, .sentQ, .lehr, .sxp, .sto, .mail, .wel]

/-- Every part but those named. -/
def partsBut (l : List Part) : List Part := allParts.filter (fun p => !l.contains p)

/-- What the pulse of an event may change: registers and wide values (PEND bits, counters), the outputs, the movers' triggers,
a wake, and MSI-X entries (R358, R360). -/
def eventParts : List Part := [.regs, .wide, .out, .movers, .pwr, .hif]

/-- The parts of the device that a command may change; every other part keeps its value. -/
def commandParts : Instr → List Part
  | .registerWrite .. | .broadcastWrite .. | .deviceReset .. | .hostPortReset .. =>
    partsBut [.now, .host0, .host1, .free, .bins, .boutHeld]
  | .counterReadClear .. =>
    eventParts ++ [.seenParity, .sxp, .mail]
  | .parityBackgroundScan .. =>
    eventParts ++ [.badParity, .seenParity, .journal, .slices, .packets, .cullet, .copies, .traceQ, .xoffAsked,
    .macs, .sentQ]
  | .scanNow .. | .cfgParityRecheck .. =>
    eventParts ++ [.seenParity, .journal, .ft, .slices, .packets, .cullet, .copies, .traceQ, .xoffAsked, .macs,
    .sentQ]
  | .wmbCapture .. =>
    eventParts ++ [.slices, .macs]
  | .wmbCommit .. =>
    eventParts ++ [.tim, .cullet, .host]
  | .broadcastRead .. =>
    eventParts ++ [.seenParity]
  | .groupMaskParityScan .. | .batchSwap .. | .txStartBaseWrite .. | .pcsModeWrite .. =>
    eventParts ++ [.badParity, .seenParity]
  | .poweredDownPageRead .. | .eventSourceAssert .. | .pendClear .. | .routeUnmask .. | .softwareEvent .. |
    .binUnmask .. | .moverGo .. | .chainEnd .. | .dozeDemand .. | .exitStepTimeout .. | .standbyExitComplete |
    .padRelease .. | .ppsInEdge | .l12WaitExpiry .. | .scrubRound .. | .cpxBistEnd .. | .cpxReturn .. |
    .journalRead .. | .linkUp .. | .atsInvalidationRequest .. | .programStoreRead .. | .oldBankFree |
    .batchStage .. | .batchUnstage .. | .batchRetire .. | .batchRetiredClear .. | .nrConsWrite .. |
    .traceConsWrite .. | .cageModuleInterrupt .. =>
    eventParts
  | .binActivation .. | .binStuck .. =>
    eventParts ++ [.bins]
  | .binInactive .. =>
    [.bins]
  | .moverStop .. | .descriptorFetch .. =>
    eventParts ++ [.portOwner]
  | .moverTrigger .. =>
    [.regs, .movers]
  | .burstIssue .. =>
    eventParts ++ [.gddr, .die, .host0, .host1, .portOwner, .portData]
  | .fence .. =>
    [.wide, .gddr, .die, .host0, .host1, .out, .portData, .cpx, .hif]
  | .dcinv .. =>
    [.cpx]
  | .powerRequest .. | .ptpSecondWrap | .ptpClockLoad .. | .ptpOffsetAdjust .. | .slowCrystalFail =>
    eventParts ++ [.tim]
  | .powerTransitionComplete =>
    eventParts ++ [.badParity, .seenParity, .ft, .slices, .ports, .packets, .cullet, .copies, .traceQ, .xoffAsked,
    .macs, .lanes, .sentQ, .lehr]
  | .standbyEntryComplete | .busHoldUpExpiry =>
    partsBut [.now, .free, .bins]
  | .leanStep | .drbgReseed .. =>
    eventParts ++ [.lehr]
  | .l1IdleTimeout .. | .pciPowerStateChange .. =>
    [.hif]
  | .wakeRequest .. | .linkL12Entry .. =>
    [.pwr, .hif]
  | .feedGood .. | .perstDeassert .. =>
    [.pwr]
  | .feedLost .. | .thermalTrip | .cpxMismatch .. =>
    eventParts ++ [.journal]
  | .auxPowerOn =>
    [.regs, .pwr, .wel]
  | .auxPowerLoss =>
    partsBut [.now, .host0, .host1, .out, .free]
  | .perstAssert .. | .ideIntegrityFailure .. | .lockInterfaceRequest .. | .startInterfaceRequest .. |
    .stopInterfaceRequest .. =>
    eventParts ++ [.gddr, .sit, .slices, .queues, .packets, .cullet, .copies, .traceQ, .xoffAsked, .sentQ, .sto]
  | .welborRestart =>
    [.regs, .wel]
  | .slowFreqMeasure .. =>
    [.wide]
  | .refInputLoss =>
    eventParts ++ [.journal, .tim]
  | .oscillatorFail .. | .gddrBurstRebuild .. | .memFailWrite .. | .svcDrainEnd .. | .phaseShed .. | .avsStep .. =>
    eventParts ++ [.journal, .ft]
  | .ppsWidthExpiry =>
    [.tim]
  | .holdoverExpiry | .laneLockLoss .. | .cagePresenceChange .. =>
    eventParts ++ [.slices, .packets, .cullet, .copies, .traceQ, .xoffAsked, .macs, .lanes, .sentQ]
  | .svcOut .. | .svcIn .. =>
    eventParts ++ [.ft]
  | .svcSyncEnd .. =>
    [.regs, .ft, .store, .lehr]
  | .svcBistEnd .. =>
    eventParts ++ [.journal, .ft, .fencedCtx, .gafStopped, .lehr]
  | .logicParityFault .. | .crossingParityError .. =>
    eventParts ++ [.gddr, .portOwner, .journal, .ft, .slices, .queues, .packets, .headGen, .srcSeq, .cullet,
    .copies, .traceQ, .xoffAsked, .encapId, .macs, .lanes, .sentQ, .sxp, .sto]
  | .sramError .. =>
    eventParts ++ [.journal, .ft, .ovfBad]
  | .journalRecordWrite =>
    eventParts ++ [.journal, .ft, .slices, .packets, .cullet, .traceQ, .xoffAsked, .sentQ]
  | .sliceWindowAccess .. =>
    eventParts ++ [.gddr, .sit, .slices, .queues, .packets, .cullet, .copies, .traceQ, .xoffAsked, .sentQ, .lehr,
    .sto, .mail]
  | .sitWrite .. | .sitClear .. =>
    eventParts ++ [.sit, .ports]
  | .sitRead .. | .slcRead | .queRead | .heldOperationStart .. | .cntRead | .meterRead | .cageTwiStart .. |
    .cageTwiDone .. | .query | .sxpRead | .volRead | .sesRead =>
    eventParts ++ [.ports]
  | .sliceInterruptRaise .. =>
    eventParts ++ [.sit]
  | .sitMaskWrite .. =>
    [.wide, .out, .sit]
  | .msixUnmask .. =>
    [.wide, .out, .hif]
  | .ideKmRequest .. | .atsInvalidationComplete .. =>
    [.out, .hif]
  | .linkDown .. | .functionLevelReset .. =>
    eventParts ++ [.gddr, .slices, .queues, .packets, .cullet, .copies, .traceQ, .xoffAsked, .sentQ, .sto]
  | .prgResponse .. | .pageRequestTimeout .. | .completionTimeout .. =>
    eventParts ++ [.gddr, .portOwner, .slices, .queues, .packets, .headGen, .srcSeq, .cullet, .encapId, .sxp, .sto]
  | .readCompletionReceive .. =>
    eventParts ++ [.gddr, .die, .host0, .host1, .portOwner, .portData, .slices, .queues, .packets, .headGen,
    .srcSeq, .dispatchQ, .cullet, .encapId, .lehr, .sxp, .sto]
  | .slcCreate =>
    eventParts ++ [.sit, .slices, .ports, .wel]
  | .slcModify =>
    eventParts ++ [.sit, .slices, .ports]
  | .slcDestroy | .sliceDestroy .. =>
    eventParts ++ [.gddr, .sit, .slices, .queues, .ports, .packets, .cullet, .copies, .traceQ, .xoffAsked, .sentQ,
    .lehr, .sto, .mail, .wel]
  | .teardownComplete .. =>
    [.slices]
  | .quarantineEnd .. =>
    eventParts ++ [.slices]
  | .sliceCounterLoRead .. =>
    [.out, .slices]
  | .queCreate =>
    eventParts ++ [.gddr, .ft, .slices, .queues, .ports]
  | .queModify =>
    eventParts ++ [.gddr, .ft, .ports]
  | .queDestroy =>
    eventParts ++ [.gddr, .slices, .queues, .ports, .packets, .cullet, .copies, .traceQ, .xoffAsked, .sentQ]
  | .sqPiDoorbell .. | .cqCiDoorbell .. | .queueStop .. | .queueReset .. =>
    eventParts ++ [.gddr, .slices, .queues, .packets, .cullet, .copies, .traceQ, .xoffAsked, .sentQ, .lehr, .sto]
  | .queueStart .. | .queueResume .. =>
    eventParts ++ [.gddr, .queues]
  | .doorbellRead .. =>
    [.out]
  | .entryFetch .. =>
    eventParts ++ [.gddr, .slices, .queues]
  | .send .. =>
    eventParts ++ [.gddr, .slices, .queues, .packets, .headGen, .srcSeq, .dispatchQ, .cullet, .encapId, .sxp, .sto]
  | .recv .. =>
    [.queues]
  | .cipher .. =>
    eventParts ++ [.queues, .lehr]
  | .completionWrite .. =>
    eventParts ++ [.gddr, .host0, .host1, .sit, .slices, .queues, .packets, .cullet, .copies, .traceQ, .xoffAsked,
    .sentQ]
  | .irqDelayExpiry .. =>
    eventParts ++ [.sit, .queues]
  | .framePlacement .. | .rxHoldExpiry .. =>
    eventParts ++ [.host0, .host1, .slices, .queues, .packets, .cullet, .copies, .traceQ, .xoffAsked, .sentQ, .sto]
  | .ill .. | .add .. | .sub .. | .and .. | .or .. | .xor .. | .shl .. | .shr .. | .mov .. | .addi .. | .andi .. |
    .ori .. | .xori .. | .shli .. | .shri .. | .movi .. | .movhi .. | .ext .. | .ins .. | .ld8 .. | .ld16 .. |
    .ld32 .. | .extw .. | .curset .. | .curadd .. | .curget .. | .wext .. | .br .. | .bri .. | .bf .. | .j .. |
    .call .. | .ret .. | .disp .. | .dmat .. | .hinit .. | .hcrc .. | .hcrcr .. | .htoe .. | .htoer .. | .hrd .. |
    .emit .. | .emitw .. | .fset .. | .fclr .. | .rhint .. | .done .. | .nop .. =>
    eventParts ++ [.slices, .ctxs, .lastIssued, .packets, .credit, .excQ, .cullet, .traceQ, .xoffAsked, .sentQ]
  | .packetDispatch .. =>
    eventParts ++ [.slices, .ctxs, .fencedCtx, .packets, .dispatchQ, .reheatQ, .reheatSeen, .credit, .excQ,
    .cullet, .traceQ, .xoffAsked, .sentQ]
  | .wextResume .. =>
    [.ctxs]
  | .contextParityError .. =>
    eventParts ++ [.journal, .ft, .slices, .ctxs, .fencedCtx, .ctxErrors, .packets, .credit, .excQ, .cullet,
    .traceQ, .xoffAsked, .sentQ]
  | .programStoreUe .. =>
    eventParts ++ [.journal, .ft, .slices, .ctxs, .fencedCtx, .gafStopped, .packets, .credit, .excQ, .cullet,
    .traceQ, .xoffAsked, .sentQ]
  | .recordRelease .. | .resultHandoff .. =>
    [.packets]
  | .exceptionDelivery =>
    eventParts ++ [.slices, .packets, .excQ, .cullet, .traceQ, .xoffAsked, .sentQ]
  | .programStoreWrite .. =>
    eventParts ++ [.store, .crcBusy]
  | .psCrcRecompute .. =>
    [.regs, .crcBusy]
  | .flipRequest .. | .flipCheck =>
    eventParts ++ [.flips]
  | .recordAccept .. =>
    eventParts ++ [.slices, .packets, .excQ, .acceptNo, .cullet, .traceQ, .xoffAsked, .sentQ]
  | .treeWalk .. =>
    eventParts ++ [.free, .slices, .packets, .cullet, .traceQ, .xoffAsked, .sentQ]
  | .emProbe .. | .privilegedReprobe .. | .lpmProbe .. =>
    eventParts ++ [.free, .packets, .refreshQ]
  | .ageRefresh =>
    [.regs, .gddr, .ft, .refreshQ]
  | .insert | .insertNoevict =>
    eventParts ++ [.gddr, .free, .ft, .slices, .ports, .packets, .ovfTags, .bloom, .noteQ, .noteSeq]
  | .delete | .clearSlot =>
    eventParts ++ [.gddr, .ft, .slices, .ports, .ovfTags, .ovfBad]
  | .lookup =>
    eventParts ++ [.free, .ports]
  | .bloomRebuild =>
    eventParts ++ [.ports, .rebuild]
  | .bloomRebuildEnd =>
    eventParts ++ [.ports, .bloom, .rebuild]
  | .learnExecute =>
    eventParts ++ [.gddr, .free, .ft, .slices, .packets, .ovfTags, .bloom, .noteQ, .noteSeq, .learnQ, .refreshQ]
  | .epochAdvance =>
    eventParts ++ [.sweep, .sweepAgain]
  | .sweepBucketVisit =>
    [.regs, .clearQ, .sweep, .sweepAgain]
  | .compareAndClear =>
    eventParts ++ [.gddr, .ft, .slices, .ovfTags, .ovfBad, .noteQ, .noteSeq, .clearQ]
  | .notificationRecordWrite =>
    eventParts ++ [.host0, .host1, .noteQ]
  | .actionApply .. | .templateReadAbandon .. =>
    eventParts ++ [.free, .slices, .packets, .headGen, .reheatQ, .cullet, .copies, .nextCopy, .traceQ, .xoffAsked,
    .learnQ, .encapId, .counterQ, .sentQ, .sxp]
  | .meterUpdate .. =>
    eventParts ++ [.gddr, .packets]
  | .counterUpdate .. =>
    eventParts ++ [.gddr, .counterQ]
  | .traceRecordWrite =>
    eventParts ++ [.host0, .host1, .traceQ]
  | .cntReadClear | .cntPreset | .meterWrite | .meterDisable | .sxpDisable | .volWrite | .volDisable |
    .stoVolBindKey =>
    eventParts ++ [.gddr, .ports]
  | .copyEnqueue .. =>
    eventParts ++ [.slices, .packets, .cullet, .copies, .traceQ, .xoffAsked, .sched, .host, .sentQ]
  | .portSchedule .. =>
    eventParts ++ [.slices, .packets, .cullet, .copies, .traceQ, .xoffAsked, .sched, .macs, .sentQ]
  | .hostDelivery =>
    eventParts ++ [.slices, .queues, .packets, .cullet, .copies, .traceQ, .xoffAsked, .host, .sentQ]
  | .frameArrival .. =>
    eventParts ++ [.packets, .headGen, .cullet, .xoffAsked, .macs]
  | .frameReceiveEnd .. | .pauseReceive .. | .pfcReceive .. =>
    eventParts ++ [.slices, .packets, .srcSeq, .dispatchQ, .cullet, .copies, .traceQ, .xoffAsked, .macs, .sentQ]
  | .pauseTimerExpiry .. =>
    [.regs, .macs]
  | .pauseWatchdog .. | .fecDegradeWindow .. | .macSnapshot .. | .macgSnapshot .. | .tsFifoCapture .. =>
    eventParts ++ [.macs]
  | .pauseHoldEnd .. =>
    [.macs]
  | .laneLockAcquire .. =>
    [.regs, .out, .lanes]
  | .upHoldExpiry .. | .faultSequenceReceive .. | .frameTransmitStart .. | .frameTransmitEnd .. =>
    eventParts ++ [.slices, .packets, .cullet, .copies, .traceQ, .xoffAsked, .macs, .sentQ]
  | .flowControlFrameSend .. | .pfcRefresh .. =>
    [.out, .macs]
  | .txUnderrun .. =>
    eventParts ++ [.free, .slices, .packets, .cullet, .copies, .traceQ, .xoffAsked, .macs, .sentQ]
  | .pcsRetuneDone .. =>
    eventParts ++ [.badParity, .seenParity, .slices, .packets, .cullet, .copies, .traceQ, .xoffAsked, .macs, .sentQ]
  | .cageSupplyFault .. =>
    eventParts ++ [.badParity, .seenParity, .slices, .packets, .cullet, .copies, .traceQ, .xoffAsked, .macs,
    .lanes, .sentQ]
  | .lehrJobSubmit | .c2hdataReceive .. =>
    eventParts ++ [.gddr, .host0, .host1, .slices, .queues, .packets, .headGen, .srcSeq, .cullet, .encapId, .lehr,
    .sxp, .sto]
  | .lehrBlockIssue .. =>
    [.regs, .wide, .free, .lehr]
  | .lehrBlockComplete .. =>
    eventParts ++ [.journal, .lehr]
  | .lehrJobEnd .. =>
    eventParts ++ [.gddr, .host0, .host1, .journal, .slices, .queues, .packets, .headGen, .srcSeq, .cullet,
    .encapId, .lehr, .sxp, .sto]
  | .knownAnswerTest .. =>
    eventParts ++ [.journal, .ft, .lehr]
  | .keyUnwrap =>
    eventParts ++ [.gddr, .free, .slices, .lehr]
  | .install =>
    eventParts ++ [.gddr, .slices, .ports, .lehr]
  | .retire =>
    eventParts ++ [.slices, .ports, .lehr]
  | .slotZeroise .. =>
    eventParts ++ [.gddr, .slices, .lehr]
  | .sxpPrecheck .. =>
    eventParts ++ [.gddr, .slices, .queues, .packets, .headGen, .srcSeq, .reheatQ, .cullet, .copies, .nextCopy,
    .traceQ, .xoffAsked, .encapId, .sentQ, .lehr, .sxp, .sto]
  | .sxpPostcheck .. =>
    eventParts ++ [.gddr, .slices, .queues, .packets, .headGen, .srcSeq, .reheatQ, .cullet, .copies, .nextCopy,
    .traceQ, .xoffAsked, .encapId, .sentQ, .sxp, .sto]
  | .sxpWrite =>
    eventParts ++ [.gddr, .ft, .ports, .sxp]
  | .sxpRoll =>
    eventParts ++ [.gddr, .ports, .sxp, .sto]
  | .rollComplete .. | .limitFifoPop .. =>
    eventParts ++ [.sxp]
  | .read .. | .write .. | .flush .. | .trim .. | .openWaitTimeout .. =>
    eventParts ++ [.slices, .queues, .cullet, .sto]
  | .wireCommandIssue .. =>
    eventParts ++ [.gddr, .slices, .queues, .packets, .headGen, .srcSeq, .cullet, .encapId, .lehr, .sxp, .sto]
  | .capsuleRespReceive .. | .readyToTransferReceive .. | .c2htermreqReceive .. | .icrespReceive .. |
    .retransmissionTimeout .. | .cmdTimeout .. =>
    eventParts ++ [.gddr, .slices, .queues, .packets, .headGen, .srcSeq, .cullet, .encapId, .sxp, .sto]
  | .synAckReceive | .tcpSegmentReceive =>
    eventParts ++ [.gddr, .slices, .packets, .headGen, .srcSeq, .cullet, .copies, .traceQ, .xoffAsked, .encapId,
    .host, .sentQ, .sxp, .sto]
  | .tcpRstReceive =>
    eventParts ++ [.gddr, .slices, .queues, .packets, .headGen, .srcSeq, .cullet, .copies, .traceQ, .xoffAsked,
    .encapId, .host, .sentQ, .sxp, .sto]
  | .sesWrite =>
    eventParts ++ [.gddr, .ports, .sto]
  | .sesOpen =>
    eventParts ++ [.gddr, .free, .slices, .ports, .packets, .headGen, .srcSeq, .cullet, .encapId, .sto]
  | .sesGo =>
    eventParts ++ [.gddr, .slices, .ports, .packets, .headGen, .srcSeq, .cullet, .encapId, .sxp, .sto]
  | .sesClose =>
    eventParts ++ [.gddr, .slices, .queues, .ports, .cullet, .sto]
  | .sesReset =>
    eventParts ++ [.gddr, .slices, .queues, .ports, .packets, .headGen, .srcSeq, .cullet, .encapId, .sxp, .sto]
  | .sessionDrained .. =>
    eventParts ++ [.gddr, .slices, .packets, .headGen, .srcSeq, .cullet, .encapId, .sto]
  | .mbxSend .. | .mbxPop .. | .poolSet .. | .otpWrite .. | .otpProgramEnd | .lifecycleAdvance .. =>
    eventParts ++ [.sit, .slices, .mail, .wel]
  | .sliceCreate .. =>
    eventParts ++ [.sit, .slices, .ports, .mail, .wel]
  | .sliceModify .. =>
    eventParts ++ [.sit, .slices, .ports, .mail]
  | .move .. =>
    eventParts ++ [.gddr, .die, .host0, .host1, .portOwner, .portData, .sit, .slices, .mail]
  | .fwReady .. =>
    eventParts ++ [.badParity, .seenParity, .gddr, .journal, .ft, .sit, .slices, .packets, .cullet, .copies,
    .traceQ, .xoffAsked, .macs, .sentQ, .sto, .mail]
  | .keyInstall =>
    eventParts ++ [.gddr, .slices, .ports, .lehr, .wel]
  | .keyRetire =>
    eventParts ++ [.slices, .ports, .lehr, .wel]
  | .keyQuery | .saRead =>
    eventParts ++ [.ports, .wel]
  | .saWrite =>
    eventParts ++ [.gddr, .ft, .ports, .sxp, .wel]
  | .saDisable | .volBindKey =>
    eventParts ++ [.gddr, .ports, .wel]
  | .saRoll =>
    eventParts ++ [.gddr, .ports, .sxp, .wel]
  | .queueOp =>
    eventParts ++ [.gddr, .ft, .slices, .queues, .ports, .packets, .cullet, .copies, .traceQ, .xoffAsked, .sentQ,
    .wel]
  | .sesCtl =>
    eventParts ++ [.gddr, .slices, .queues, .ports, .packets, .headGen, .srcSeq, .cullet, .encapId, .sxp, .sto,
    .wel]
  | .charterHistory | .getVersion .. | .getCapabilities .. | .negotiateAlgorithms .. | .getDigests .. |
    .getCertificate .. | .finish .. | .heartbeat .. | .keyUpdate .. | .endSession .. | .vendorDefinedRequest .. |
    .mctpControlMessage .. =>
    [.out, .wel]
  | .challenge .. | .getMeasurements .. | .keyExchange .. =>
    [.out, .free, .wel]
  | .spdmSessionTimeout .. =>
    [.wel]
  | .welborRelease =>
    eventParts ++ [.tim, .ft]
  | .bootStageEnd .. =>
    eventParts ++ [.die, .ft, .wel]

/-- The core of a gaffer instruction. -/
def gafferCore : Instr → Option Nat
  | .ill core | .add core | .sub core | .and core | .or core | .xor core | .shl core | .shr core | .mov core |
    .addi core | .andi core | .ori core | .xori core | .shli core | .shri core | .movi core | .movhi core |
    .ext core | .ins core | .ld8 core | .ld16 core | .ld32 core | .extw core | .curset core | .curadd core |
    .curget core | .wext core | .br core | .bri core | .bf core | .j core | .call core | .ret core | .disp core |
    .dmat core | .hinit core | .hcrc core | .hcrcr core | .htoe core | .htoer core | .hrd core | .emit core |
    .emitw core | .fset core | .fclr core | .rhint core | .done core | .nop core => some core
  | _ => none

/-- The four memories have their canonical form (R341, R290). -/
def Dev.memoryWf (d : Dev) : Bool := Memory.wf d.gddr && Memory.wf d.die && Memory.wf d.host0 && Memory.wf d.host1

end Sys2Proof.Machine
end

