-- ==== Sys2Proof/Certificates/Slice0/Obligations.lean ====
section
/-!
DEFINITION. The statements about the machine: the block as a whole first, then what each family of commands does.
-/

open Sys2Proof Sys2Proof.Machine


/-- A step carries out the command at the front of the queue. -/
def Obligations.StepRunsTheFrontCommand : Prop :=
  ∀ (c : Instr) (s : State), step { s with pending := c :: s.pending } = exec c s

/-- With nothing waiting, a step is one nanosecond (the model's choice, log entries 1 and 7). -/
def Obligations.TimePassesWhenNothingWaits : Prop :=
  ∀ d : Dev, step { dev := d, pending := [] } = .next { dev := d.advance, pending := [] } ∧ d.advance.now = d.now + 1

/-- Every command completes, and its effect is a function of the device alone. -/
def Obligations.EveryCommandIsAnEffectOnTheDevice : Prop :=
  ∀ c : Instr, ∃ f : Dev → Dev, ∀ s : State, exec c s = .next { s with dev := f s.dev }

/-- No run of the block stops, whatever its state and its queue. -/
def Obligations.EveryRunIsSafe : Prop :=
  ∀ s : State, Safe s

/-- A queue of commands runs to its end, first in, first out. -/
def Obligations.QueueRunsInOrder : Prop :=
  ∀ (cs rest : List Instr) (d : Dev), ∃ e : Dev,
    carryOut cs { dev := d, pending := rest } = some { dev := e, pending := rest } ∧
    runs cs.length { dev := d, pending := cs ++ rest } = some { dev := e, pending := rest }

/-- What every command leaves unchanged. -/
def Obligations.FrameOfEveryCommand : Prop :=
  ∀ (c : Instr) (s t : State), exec c s = .next t →
    (∀ p : Part, p ∉ commandParts c → t.dev.same s.dev p) ∧ t.pending = s.pending

/-- Every step keeps the canonical form of the four memories. -/
def Obligations.MemoriesStayCanonical : Prop :=
  ∀ s t : State, s.dev.memoryWf = true → step s = .next t → t.dev.memoryWf = true

/-- The state after the power-on reset. -/
def Obligations.ResetLeaves : Prop :=
  State.reset.pending = [] ∧ State.reset.dev.now = 0 ∧ State.reset.dev.out = [] ∧ State.reset.dev.memoryWf = true ∧
  State.reset.dev.pwr.state = .standby ∧ State.reset.dev.pwr.vaux = true ∧ State.reset.dev.pwr.feedA = false ∧
  State.reset.dev.pwr.feedB = false ∧ State.reset.dev.pwr.domains = 0 ∧
  (∀ a, State.reset.dev.rd a = resetWord a) ∧ State.reset.dev.rd 0x4 = 0x101#32 ∧
  (∀ i, i < 128 → State.reset.dev.wget Page.cru (0x100 + i) = 0x3000) ∧
  (∀ n, n < 4096 → State.reset.dev.wget Page.lehg (0x1000 + n) = 8192) ∧
  (∀ x, State.reset.dev.gread x 1 = [0] ∧ State.reset.dev.dread x 1 = [0]) ∧
  (∀ c, State.reset.dev.ctxAt c = none) ∧ (∀ s, (State.reset.dev.slice s).state = .free ∧ (State.reset.dev.slice s).incarnation = 0) ∧
  (∀ q, (State.reset.dev.queue q).state = .free)

/-- No step takes the lifecycle state in the fuses back. -/
def Obligations.LifecycleNeverGoesBack : Prop :=
  ∀ s t : State, step s = .next t → s.dev.wel.lifecycle ≤ t.dev.wel.lifecycle

/-- Only an idle step moves the clock (the model's choice, log entry 7). -/
def Obligations.CommandsTakeNoTime : Prop :=
  (∀ (c : Instr) (s t : State), exec c s = .next t → t.dev.now = s.dev.now) ∧
  (∀ s t : State, step s = .next t → s.dev.now ≤ t.dev.now)

/-- A gaffer instruction touches no context of another core. -/
def Obligations.ContextsOfOtherCoresStay : Prop :=
  ∀ (c : Instr) (k : Nat) (s t : State), gafferCore c = some k → exec c s = .next t →
    ∀ i, i / 4 ≠ k → t.dev.ctxAt i = s.dev.ctxAt i

/-- A byte of memory reads back what was written last. -/
def Obligations.MemoryReadsBackWhatWasWritten : Prop :=
  (∀ (d : Dev) (a x : Nat) (bs : List Byte), d.memoryWf = true →
    Memory.byte (d.gwrite a bs).gddr x = if a ≤ x ∧ x < a + bs.length then bs.getD (x - a) 0 else Memory.byte d.gddr x) ∧
  (∀ (d : Dev) (a x : Nat) (bs : List Byte), d.memoryWf = true →
    Memory.byte (d.dwrite a bs).die x = if a ≤ x ∧ x < a + bs.length then bs.getD (x - a) 0 else Memory.byte d.die x) ∧
  (∀ (d : Dev) (a x : Nat) (bs : List Byte) (attr : ReqAttr), d.memoryWf = true →
    Memory.byte (d.hwrite 0 a bs attr).host0 x
      = if a ≤ x ∧ x < a + bs.length then bs.getD (x - a) 0 else Memory.byte d.host0 x)

/-- A register field reads back what was written, and its neighbours stay. -/
def Obligations.RegisterFieldsReadBack : Prop :=
  (∀ (d : Dev) (p v : Nat) (f : Fld), Sparse.wf resetWord d.regs = true → f.lo + f.w ≤ 32 →
    (d.fset p f v).fget p f = v % 2 ^ f.w) ∧
  (∀ (d : Dev) (p q v : Nat) (f g : Fld), Sparse.wf resetWord d.regs = true → f.lo + f.w ≤ 32 →
    (q + g.off ≠ p + f.off ∨ g.lo + g.w ≤ f.lo ∨ f.lo + f.w ≤ g.lo) →
    (d.fset p f v).fget q g = d.fget q g)

/-- Counters wrap after their maximum; saturating ones stay there. -/
def Obligations.CountersWrapOrSaturate : Prop :=
  (∀ (d : Dev) (p n : Nat) (f : Fld), Sparse.wf resetWord d.regs = true → f.lo + f.w ≤ 32 →
    (d.count p f n).fget p f = (d.fget p f + n) % 2 ^ f.w) ∧
  (∀ (d : Dev) (p n : Nat) (f : Fld), Sparse.wf resetWord d.regs = true → f.lo + f.w ≤ 32 →
    (d.countSat p f n).fget p f = min (2 ^ f.w - 1) (d.fget p f + n)) ∧
  (∀ (d : Dev) (p n : Nat) (f : Fld), Sparse.wf resetWord d.regs = true → f.lo + f.w ≤ 32 →
    d.fget p f = 2 ^ f.w - 1 → (d.countSat p f n).fget p f = d.fget p f)

/-- What a write does to a field of each access type, bit by bit, under byte enables. -/
def Obligations.AccessTypesOfAWrite : Prop :=
  ∀ (r : FieldRow) (old v m i : Nat), old < 2 ^ 32 → r.lo + r.w ≤ 32 → r.fix = .keep → i < 32 →
    bitAt (r.write old v m) i =
      if r.lo ≤ i ∧ i < r.lo + r.w ∧ bitAt m i = true then
        (match r.acc with
          | .rw | .rwp => bitAt v i
          | .w1c => bitAt old i && !bitAt v i
          | _ => bitAt old i)
      else bitAt old i

/-- The hash core of TBL and the values derived from it. -/
def Obligations.TableHashes : Prop :=
  (∀ (seed : Word) (k : List Byte), tableHash seed k = (k.foldl crcByte (seed ^^^ 0xFFFFFFFF#32) ^^^ 0xFFFFFFFF#32).toNat) ∧
  tableHash 0#32 [0x31#8, 0x32#8, 0x33#8, 0x34#8, 0x35#8, 0x36#8, 0x37#8, 0x38#8, 0x39#8] = 0xE3069283 ∧
  (∀ (v : Nat) (k : List Byte), hash1 v k = tableHash (BitVec.ofNat 32 (tdSeed v)) k ∧
    hash2 v k = tableHash (BitVec.ofNat 32 (tdSeed v) ^^^ 0x5BD1E995#32) k ∧ bucket1 v k = hash1 v k % 2 ^ tdLog2 v) ∧
  (∀ (v : Nat) (k : List Byte), (hash2 v k % 2 ^ tdLog2 v = bucket1 v k → bucket2 v k = bucket1 v k ^^^ 1) ∧
    (hash2 v k % 2 ^ tdLog2 v ≠ bucket1 v k → bucket2 v k = hash2 v k % 2 ^ tdLog2 v)) ∧
  (∀ (d : Dev) (t : Nat) (k : List Byte), d.ovfWays t k = (List.range 8).map (fun w =>
    bankOf (d.td t) (bucket1 (d.td t) k) * 16384 + hash2 (d.td t) k % 2048 * 8 + w)) ∧
  (∀ (v : Nat) (k : List Byte) (base log2 i : Nat), bloomBit v k base log2 i
    = base * 512 + (hash1 v k + i * (hash2 v k ||| 1)) % 2 ^ log2)

/-- The eight conditions of BR and BRI. -/
def Obligations.BranchConditions : Prop :=
  (∀ (v : View) (x : Ctx) (a b : Word), a = x.reg (bits v.word 22 4) → b = x.reg (bits v.word 18 4) →
    (insBr v x).next = (if condHolds (bits v.word 15 3) a b then { x with pc := bits v.word 0 11 } else { x with pc := x.pc + 1 })) ∧
  (∀ (v : View) (x : Ctx) (a b : Word), a = x.reg (bits v.word 22 4) → b = BitVec.ofNat 32 (bits v.word 11 8) →
    (insBri v x).next = (if condHolds (bits v.word 19 3) a b then { x with pc := bits v.word 0 11 } else { x with pc := x.pc + 1 })) ∧
  (∀ (a b : Word), (condHolds 0 a b = true ↔ a = b) ∧ (condHolds 1 a b = true ↔ a ≠ b) ∧
    (condHolds 2 a b = true ↔ a.toNat < b.toNat) ∧ (condHolds 3 a b = true ↔ b.toNat ≤ a.toNat) ∧
    (condHolds 4 a b = true ↔ a.toInt < b.toInt) ∧ (condHolds 5 a b = true ↔ b.toInt ≤ a.toInt) ∧
    (condHolds 6 a b = true ↔ a &&& b ≠ 0#32) ∧ (condHolds 7 a b = true ↔ a &&& b = 0#32))

/-- A wrapped key record gives back the key it was made from, and no other slot's or generation's. -/
def Obligations.WrappedRecordUnwraps : Prop :=
  ∀ (kw : List Byte) (s s' gen' count : Nat) (v : KeySlot), kw.length = 32 → s < 2 ^ 20 → v.gen < 2 ^ 16 → count < 2 ^ 64 →
    s' < 2 ^ 20 → gen' < 2 ^ 16 →
    (wrapRecord kw s v count).length = 128 ∧
    unwrapRecord kw s v.gen (wrapRecord kw s v count) = some (cut v.key 0 64) ∧
    (s' ≠ s ∨ gen' ≠ v.gen → unwrapRecord kw s' gen' (wrapRecord kw s v count) = none)

/-- A pulse that finds its PEND bit set only counts. -/
def Obligations.PendingPulsesMerge : Prop :=
  ∀ (d : Dev) (n : Nat), isReserved n = false → (d.wakeOf n).domainOn 1 = true →
    ((d.wakeOf n).pend n = true → d.pulse n = (d.wakeOf n).count Page.evtg Reg.EVTG_MERGE_CNT_CNT) ∧
    ((d.wakeOf n).pend n = false → ((d.wakeOf n).setPend n true).masked n = true → d.pulse n = (d.wakeOf n).setPend n true) ∧
    ((d.wakeOf n).pend n = false → ((d.wakeOf n).setPend n true).masked n = false →
      d.pulse n = ((d.wakeOf n).setPend n true).deliver n)

/-- A GO write while an operation runs is held once, and further ones have no effect. -/
def Obligations.PortsHoldOneOperation : Prop :=
  ∀ (d : Dev) (i : PortInfo) (req : Requester) (o : PortOp), (d.port i.page).run = some o →
    ((d.port i.page).held = none → d.portGo i req = d.setPort i.page { d.port i.page with held := some req }) ∧
    ((d.port i.page).held ≠ none → d.portGo i req = d)

/-- What the register access commands answer. Completion: for each of these constructors a clause concludes that exec answers
a next state, under conditions on the state and the operands alone: registerWrite, counterReadClear, parityBackgroundScan,
scanNow, cfgParityRecheck, wmbCapture, wmbCommit, broadcastWrite, broadcastRead, groupMaskParityScan, poweredDownPageRead. -/
def Obligations.RegisterCommandsComplete : Prop :=
  (∀ (s : State) (req : Requester) (addr : Nat) (value : Word) (be : BitVec 4) (k : PageKind) (n : Nat),
      addr < 0x1000000 →
      isForwarding addr = false →
      s.dev.pageAt addr = some (k, n) →
      s.dev.pagePowered k n = true →
      k = .gctl ∨ k = .otp ∨ k = .cls ∨ k = .tbl ∨ k = .cru ∨ k = .leh ∨ k = .lehg →
      0x40 ≤ effOffset k.bodyLog2 (offsetOf addr / 4 * 4) →
      byteMask be ≠ 0 →
      s.dev.closedMask req k (effOffset k.bodyLog2 (offsetOf addr / 4 * 4)) = 0 →
      s.dev.asleep req = false →
      exec (.registerWrite req addr value be) s = .next { s with
        dev := s.dev.storeFields k (pageBase addr) (effOffset k.bodyLog2 (offsetOf addr / 4 * 4)) (value.toNat &&& byteMask be) (byteMask be) }) ∧
  (∀ (s : State) (req : Requester) (addr : Nat) (be : BitVec 4) (k : PageKind) (n : Nat),
      addr < 0x1000000 →
      isForwarding addr = false →
      s.dev.pageAt addr = some (k, n) →
      s.dev.pagePowered k n = true →
      s.dev.asleep req = false →
      exec (.counterReadClear req addr be) s = .next { s with
        dev := (s.dev.readEffect req k n (pageBase addr) (effOffset k.bodyLog2 (offsetOf addr / 4 * 4))).emit (.readData (BitVec.ofNat 32
              (s.dev.readReg req k n (pageBase addr) (effOffset k.bodyLog2 (offsetOf addr / 4 * 4)) &&& byteMask be))) }) ∧
  (∀ (s : State) (page : Nat) (upsets : List (Nat × Nat)) (k : PageKind) (n : Nat),
      s.dev.pageAt page = some (k, n) →
      s.dev.pagePowered k n = true →
      exec (.parityBackgroundScan page upsets) s = .next { s with
        dev := (upsets.foldl (fun (d : Dev) u =>
              if k.rwpMask (effOffset k.bodyLog2 (u.1 / 4 * 4 % 0x1000)) = 0 then d
              else d.upset (k.rwpMask (effOffset k.bodyLog2 (u.1 / 4 * 4 % 0x1000)))
                (pageBase page + effOffset k.bodyLog2 (u.1 / 4 * 4 % 0x1000)) u.2) s.dev).parityCheck k n (pageBase page) false }) ∧
  (∀ (s : State) (req : Requester) (page : Nat) (k : PageKind) (n : Nat),
      s.dev.pageAt (pageBase page + 0x1C) = some (k, n) →
      s.dev.pageAt (pageBase page + 0x14) = some (k, n) →
      s.dev.pageAt page = some (k, n) →
      s.dev.pagePowered k n = true →
      s.dev.fbit (pageBase page) Hdr.scanBusy = false →
      s.dev.asleep req = false →
      exec (.scanNow req page) s = .next { s with
        dev := ((s.dev.fset (pageBase page) Hdr.scanNow 1).scanBegins k (pageBase page)).parityCheck k n (pageBase page) true } ∧
      exec (.cfgParityRecheck req page) s = .next { s with
        dev := (((s.dev.fset (pageBase page) ⟨Hdr.fault, faultCfgParity, 1⟩ 0).scanBegins k (pageBase page)).recheck k n
              (pageBase page)).refreshFault (pageBase page) }) ∧
  (∀ (s : State) (req : Requester) (page : Nat) (index : BitVec 16) (k : PageKind) (n : Nat) (w : WideKind),
      s.dev.pageAt (pageBase page + 0x20) = some (k, n) →
      s.dev.pageAt page = some (k, n) →
      s.dev.pagePowered k n = true →
      k.hasWmb = true →
      k ≠ .mac →
      (s.dev.wmbSelect (pageBase page) index.toNat).wideKind k n index.toNat = some w →
      wideClosed req k index.toNat = false →
      s.dev.asleep req = false →
      exec (.wmbCapture req page index) s = .next { s with
        dev := ((s.dev.wmbSelect (pageBase page) index.toNat).wideTake k (pageBase page) index.toNat).2.wmbAnswer
            (pageBase page)
            (((s.dev.wmbSelect (pageBase page) index.toNat).wideTake k (pageBase page) index.toNat).1 % 2 ^ w.width) }) ∧
  (∀ (s : State) (req : Requester) (page : Nat) (index : BitVec 16) (k : PageKind) (n : Nat) (w : WideKind),
      s.dev.pageAt (pageBase page + 0x20) = some (k, n) →
      s.dev.pageAt page = some (k, n) →
      s.dev.pagePowered k n = true →
      k.hasWmb = true →
      (s.dev.wmbSelect (pageBase page) index.toNat).wideKind k n index.toNat = some w →
      w.writable = true →
      wideClosed req k index.toNat = false →
      (s.dev.wmbSelect (pageBase page) index.toNat).wideAccepts k (pageBase page) index.toNat
      ((s.dev.wmbSelect (pageBase page) index.toNat).wmbData (pageBase page) % 2 ^ w.width) = true →
      s.dev.asleep req = false →
      exec (.wmbCommit req page index) s = .next { s with
        dev := ((s.dev.wmbSelect (pageBase page) index.toNat).widePut k (pageBase page) index.toNat
            ((s.dev.wmbSelect (pageBase page) index.toNat).wmbData (pageBase page) % 2 ^ w.width)).wmbDone (pageBase page) }) ∧
  (∀ (s : State) (req : Requester) (addr : Nat) (value : Word) (be : BitVec 4),
      isForwarding addr = true →
      maskRegister addr = none →
      s.dev.asleep req = false →
      exec (.broadcastWrite req addr value be) s = .next { s with
        dev := ((s.dev.checkMasks addr).targets addr).foldl (fun (d : Dev) p => d.forwardWrite req addr p value.toNat (byteMask be))
              (s.dev.checkMasks addr) }) ∧
  (∀ (s : State) (req : Requester) (addr : Nat),
      isForwarding addr = true →
      s.dev.asleep req = false →
      exec (.broadcastRead req addr) s = .next { s with
        dev := (s.dev.broadcastRead req addr).2.emit (.readData (BitVec.ofNat 32 (s.dev.broadcastRead req addr).1)) }) ∧
  (∀ (s : State) (region group : Nat) (upsets : List (Nat × Nat)),
      region < 14 →
      group < 15 →
      exec (.groupMaskParityScan region group upsets) s = .next { s with
        dev := (upsets.foldl (fun (d : Dev) u => d.upset (groupBits region (u.1 % 2)) (groupMask region group (u.1 % 2)) u.2) s.dev).groupCheck
              region group }) ∧
  (∀ (s : State) (req : Requester) (addr : Nat),
      s.dev.asleep req = false →
      s.dev.unreachable addr = some 2 →
      exec (.poweredDownPageRead req addr) s = .next { s with
        dev := s.dev.powerAbort req addr })

/-- Gaffer instructions on two registers. Completion: for each of these constructors a clause concludes that exec answers a
next state, under conditions on the state and the operands alone: add, sub, and, or, xor, shl, shr, mov. -/
def Obligations.GafferRegisterInstructions : Prop :=
  (∀ (s : State) (core c w : Nat) (x : Ctx),
      s.dev.issues core c x w 1 = true →
      opcodeOf w = 0x01 →
      bits w 0 14 = 0 →
      exec (.add core) s = .next { s with
        dev := let a := x.reg (bits w 18 4)
          let b := x.reg (bits w 14 4)
          s.dev.issued core c { x with
            g := x.g.set (bits w 22 4) (a + b)
            z := a + b == 0#32
            c := decide (2 ^ 32 ≤ a.toNat + b.toNat)
            pc := x.pc + 1
            charged := x.charged + 1 } }) ∧
  (∀ (s : State) (core c w : Nat) (x : Ctx),
      s.dev.issues core c x w 1 = true →
      opcodeOf w = 0x02 →
      bits w 0 14 = 0 →
      exec (.sub core) s = .next { s with
        dev := let a := x.reg (bits w 18 4)
          let b := x.reg (bits w 14 4)
          s.dev.issued core c { x with
            g := x.g.set (bits w 22 4) (a - b)
            z := a - b == 0#32
            c := decide (a.toNat < b.toNat)
            pc := x.pc + 1
            charged := x.charged + 1 } }) ∧
  (∀ (s : State) (core c w : Nat) (x : Ctx),
      s.dev.issues core c x w 1 = true →
      opcodeOf w = 0x03 →
      bits w 0 14 = 0 →
      exec (.and core) s = .next { s with
        dev := let a := x.reg (bits w 18 4)
          let b := x.reg (bits w 14 4)
          s.dev.issued core c { x with
            g := x.g.set (bits w 22 4) (a &&& b)
            z := a &&& b == 0#32
            c := false
            pc := x.pc + 1
            charged := x.charged + 1 } }) ∧
  (∀ (s : State) (core c w : Nat) (x : Ctx),
      s.dev.issues core c x w 1 = true →
      opcodeOf w = 0x04 →
      bits w 0 14 = 0 →
      exec (.or core) s = .next { s with
        dev := let a := x.reg (bits w 18 4)
          let b := x.reg (bits w 14 4)
          s.dev.issued core c { x with
            g := x.g.set (bits w 22 4) (a ||| b)
            z := a ||| b == 0#32
            c := false
            pc := x.pc + 1
            charged := x.charged + 1 } }) ∧
  (∀ (s : State) (core c w : Nat) (x : Ctx),
      s.dev.issues core c x w 1 = true →
      opcodeOf w = 0x05 →
      bits w 0 14 = 0 →
      exec (.xor core) s = .next { s with
        dev := let a := x.reg (bits w 18 4)
          let b := x.reg (bits w 14 4)
          s.dev.issued core c { x with
            g := x.g.set (bits w 22 4) (a ^^^ b)
            z := a ^^^ b == 0#32
            c := false
            pc := x.pc + 1
            charged := x.charged + 1 } }) ∧
  (∀ (s : State) (core c w : Nat) (x : Ctx),
      s.dev.issues core c x w 1 = true →
      opcodeOf w = 0x06 →
      bits w 0 14 = 0 →
      exec (.shl core) s = .next { s with
        dev := let a := x.reg (bits w 18 4)
          let b := x.reg (bits w 14 4)
          s.dev.issued core c { x with
            g := x.g.set (bits w 22 4) (a <<< (b.toNat % 32))
            z := a <<< (b.toNat % 32) == 0#32
            c := false
            pc := x.pc + 1
            charged := x.charged + 1 } }) ∧
  (∀ (s : State) (core c w : Nat) (x : Ctx),
      s.dev.issues core c x w 1 = true →
      opcodeOf w = 0x07 →
      bits w 0 14 = 0 →
      exec (.shr core) s = .next { s with
        dev := let a := x.reg (bits w 18 4)
          let b := x.reg (bits w 14 4)
          s.dev.issued core c { x with
            g := x.g.set (bits w 22 4) (a >>> (b.toNat % 32))
            z := a >>> (b.toNat % 32) == 0#32
            c := false
            pc := x.pc + 1
            charged := x.charged + 1 } }) ∧
  (∀ (s : State) (core c w : Nat) (x : Ctx),
      s.dev.issues core c x w 1 = true →
      opcodeOf w = 0x08 →
      bits w 0 18 = 0 →
      exec (.mov core) s = .next { s with
        dev := s.dev.issued core c { x with
            g := x.g.set (bits w 22 4) (x.reg (bits w 18 4))
            pc := x.pc + 1
            charged := x.charged + 1 } })

/-- Gaffer instructions with an immediate and on bit fields. Completion: for each of these constructors a clause concludes
that exec answers a next state, under conditions on the state and the operands alone: addi, andi, ori, xori, shli, shri,
movi, movhi, ext, ins. -/
def Obligations.GafferImmediateInstructions : Prop :=
  (∀ (s : State) (core c w : Nat) (x : Ctx),
      s.dev.issues core c x w 1 = true →
      opcodeOf w = 0x09 →
      exec (.addi core) s = .next { s with
        dev := let a := x.reg (bits w 18 4)
          let b := BitVec.ofInt 32 (signed 18 (bits w 0 18))
          s.dev.issued core c { x with
            g := x.g.set (bits w 22 4) (a + b)
            z := a + b == 0#32
            c := decide (2 ^ 32 ≤ a.toNat + b.toNat)
            pc := x.pc + 1
            charged := x.charged + 1 } }) ∧
  (∀ (s : State) (core c w : Nat) (x : Ctx),
      s.dev.issues core c x w 1 = true →
      opcodeOf w = 0x0A →
      exec (.andi core) s = .next { s with
        dev := let a := x.reg (bits w 18 4)
          let b := BitVec.ofNat 32 (bits w 0 18)
          s.dev.issued core c { x with
            g := x.g.set (bits w 22 4) (a &&& b)
            z := a &&& b == 0#32
            c := false
            pc := x.pc + 1
            charged := x.charged + 1 } }) ∧
  (∀ (s : State) (core c w : Nat) (x : Ctx),
      s.dev.issues core c x w 1 = true →
      opcodeOf w = 0x0B →
      exec (.ori core) s = .next { s with
        dev := let a := x.reg (bits w 18 4)
          let b := BitVec.ofNat 32 (bits w 0 18)
          s.dev.issued core c { x with
            g := x.g.set (bits w 22 4) (a ||| b)
            z := a ||| b == 0#32
            c := false
            pc := x.pc + 1
            charged := x.charged + 1 } }) ∧
  (∀ (s : State) (core c w : Nat) (x : Ctx),
      s.dev.issues core c x w 1 = true →
      opcodeOf w = 0x0C →
      exec (.xori core) s = .next { s with
        dev := let a := x.reg (bits w 18 4)
          let b := BitVec.ofNat 32 (bits w 0 18)
          s.dev.issued core c { x with
            g := x.g.set (bits w 22 4) (a ^^^ b)
            z := a ^^^ b == 0#32
            c := false
            pc := x.pc + 1
            charged := x.charged + 1 } }) ∧
  (∀ (s : State) (core c w : Nat) (x : Ctx),
      s.dev.issues core c x w 1 = true →
      opcodeOf w = 0x0D →
      bits w 5 13 = 0 →
      exec (.shli core) s = .next { s with
        dev := let a := x.reg (bits w 18 4)
          let b := BitVec.ofNat 32 (bits w 0 18)
          s.dev.issued core c { x with
            g := x.g.set (bits w 22 4) (a <<< (b.toNat % 32))
            z := a <<< (b.toNat % 32) == 0#32
            c := false
            pc := x.pc + 1
            charged := x.charged + 1 } }) ∧
  (∀ (s : State) (core c w : Nat) (x : Ctx),
      s.dev.issues core c x w 1 = true →
      opcodeOf w = 0x0E →
      bits w 5 13 = 0 →
      exec (.shri core) s = .next { s with
        dev := let a := x.reg (bits w 18 4)
          let b := BitVec.ofNat 32 (bits w 0 18)
          s.dev.issued core c { x with
            g := x.g.set (bits w 22 4) (a >>> (b.toNat % 32))
            z := a >>> (b.toNat % 32) == 0#32
            c := false
            pc := x.pc + 1
            charged := x.charged + 1 } }) ∧
  (∀ (s : State) (core c w : Nat) (x : Ctx),
      s.dev.issues core c x w 1 = true →
      opcodeOf w = 0x0F →
      bits w 18 4 = 0 →
      exec (.movi core) s = .next { s with
        dev := s.dev.issued core c { x with
            g := x.g.set (bits w 22 4) (BitVec.ofNat 32 (bits w 0 18))
            pc := x.pc + 1
            charged := x.charged + 1 } }) ∧
  (∀ (s : State) (core c w : Nat) (x : Ctx),
      s.dev.issues core c x w 1 = true →
      opcodeOf w = 0x10 →
      bits w 18 4 = 0 →
      bits w 16 2 = 0 →
      exec (.movhi core) s = .next { s with
        dev := s.dev.issued core c { x with
            g := x.g.set (bits w 22 4) (BitVec.ofNat 32 (bits w 0 16 * 2 ^ 16 + (x.reg (bits w 22 4)).toNat % 2 ^ 16))
            pc := x.pc + 1
            charged := x.charged + 1 } }) ∧
  (∀ (s : State) (core c w : Nat) (x : Ctx),
      s.dev.issues core c x w 1 = true →
      opcodeOf w = 0x11 →
      bits w 0 8 = 0 →
      bits w 13 5 + (bits w 8 5 + 1) ≤ 32 →
      exec (.ext core) s = .next { s with
        dev := let r := BitVec.ofNat 32 (bits (x.reg (bits w 18 4)).toNat (bits w 13 5) (bits w 8 5 + 1))
          s.dev.issued core c { x with
            g := x.g.set (bits w 22 4) r
            z := r == 0#32
            pc := x.pc + 1
            charged := x.charged + 1 } }) ∧
  (∀ (s : State) (core c w : Nat) (x : Ctx),
      s.dev.issues core c x w 1 = true →
      opcodeOf w = 0x12 →
      bits w 0 8 = 0 →
      bits w 13 5 + (bits w 8 5 + 1) ≤ 32 →
      exec (.ins core) s = .next { s with
        dev := s.dev.issued core c { x with
            g := x.g.set (bits w 22 4) (BitVec.ofNat 32 (setBits (x.reg (bits w 22 4)).toNat (bits w 13 5) (bits w 8 5 + 1) (x.reg (bits w 18 4)).toNat))
            pc := x.pc + 1
            charged := x.charged + 1 } })

/-- Gaffer loads, the cursor and WEXT. Completion: for each of these constructors a clause concludes that exec answers a next
state, under conditions on the state and the operands alone: ld8, ld16, ld32, extw, curset, curadd, curget, wext. -/
def Obligations.GafferWindowInstructions : Prop :=
  (∀ (s : State) (core c w : Nat) (x : Ctx),
      s.dev.issues core c x w 1 = true →
      opcodeOf w = 0x14 →
      bits w 0 11 = 0 →
      x.offset (bitAt w 12) (bits w 13 9) + 1 ≤ x.wlen →
      exec (.ld8 core) s = .next { s with
        dev := let r := BitVec.ofNat 32 (ofBe (cut (s.dev.windowOf x) (x.offset (bitAt w 12) (bits w 13 9)) 1))
          s.dev.issued core c { x with
            g := x.g.set (bits w 22 4) r
            z := r == 0#32
            o := false
            pc := x.pc + 1
            charged := x.charged + 1 } }) ∧
  (∀ (s : State) (core c w : Nat) (x : Ctx),
      s.dev.issues core c x w 1 = true →
      opcodeOf w = 0x15 →
      bits w 0 11 = 0 →
      x.offset (bitAt w 12) (bits w 13 9) + 2 ≤ x.wlen →
      exec (.ld16 core) s = .next { s with
        dev := let r := BitVec.ofNat 32 (ofBe (cut (s.dev.windowOf x) (x.offset (bitAt w 12) (bits w 13 9)) 2))
          s.dev.issued core c { x with
            g := x.g.set (bits w 22 4) r
            z := r == 0#32
            o := false
            pc := x.pc + 1
            charged := x.charged + 1 } }) ∧
  (∀ (s : State) (core c w : Nat) (x : Ctx),
      s.dev.issues core c x w 1 = true →
      opcodeOf w = 0x16 →
      bits w 0 11 = 0 →
      x.offset (bitAt w 12) (bits w 13 9) + 4 ≤ x.wlen →
      exec (.ld32 core) s = .next { s with
        dev := let r := BitVec.ofNat 32 (ofBe (cut (s.dev.windowOf x) (x.offset (bitAt w 12) (bits w 13 9)) 4))
          s.dev.issued core c { x with
            g := x.g.set (bits w 22 4) r
            z := r == 0#32
            o := false
            pc := x.pc + 1
            charged := x.charged + 1 } }) ∧
  (∀ (s : State) (core c w : Nat) (x : Ctx),
      s.dev.issues core c x w 1 = true →
      opcodeOf w = 0x14 →
      bitAt w 0 = false →
      bits w 1 10 = 0 →
      bitAt w 11 = true →
      x.wlen < x.offset (bitAt w 12) (bits w 13 9) + 1 →
      exec (.ld8 core) s = .next { s with
        dev := let r := BitVec.ofNat 32 (ofBe (cut (s.dev.windowOf x) (x.offset (bitAt w 12) (bits w 13 9)) 1))
          s.dev.issued core c { x with
            g := x.g.set (bits w 22 4) r
            z := r == 0#32
            o := true
            flags := setBits x.flags 59 1 1
            pc := x.pc + 1
            charged := x.charged + 1 } }) ∧
  (∀ (s : State) (core c w : Nat) (x : Ctx),
      s.dev.issues core c x w 1 = true →
      opcodeOf w = 0x15 →
      bitAt w 0 = false →
      bits w 1 10 = 0 →
      bitAt w 11 = true →
      x.wlen < x.offset (bitAt w 12) (bits w 13 9) + 2 →
      exec (.ld16 core) s = .next { s with
        dev := let r := BitVec.ofNat 32 (ofBe (cut (s.dev.windowOf x) (x.offset (bitAt w 12) (bits w 13 9)) 2))
          s.dev.issued core c { x with
            g := x.g.set (bits w 22 4) r
            z := r == 0#32
            o := true
            flags := setBits x.flags 59 1 1
            pc := x.pc + 1
            charged := x.charged + 1 } }) ∧
  (∀ (s : State) (core c w : Nat) (x : Ctx),
      s.dev.issues core c x w 1 = true →
      opcodeOf w = 0x16 →
      bitAt w 0 = false →
      bits w 1 10 = 0 →
      bitAt w 11 = true →
      x.wlen < x.offset (bitAt w 12) (bits w 13 9) + 4 →
      exec (.ld32 core) s = .next { s with
        dev := let r := BitVec.ofNat 32 (ofBe (cut (s.dev.windowOf x) (x.offset (bitAt w 12) (bits w 13 9)) 4))
          s.dev.issued core c { x with
            g := x.g.set (bits w 22 4) r
            z := r == 0#32
            o := true
            flags := setBits x.flags 59 1 1
            pc := x.pc + 1
            charged := x.charged + 1 } }) ∧
  (∀ (s : State) (core c w : Nat) (x : Ctx),
      s.dev.issues core c x w 1 = true →
      opcodeOf w = 0x17 →
      bitAt w 0 = false →
      bits w 6 5 + (bits w 1 5 + 1) ≤ 32 →
      x.offset (bitAt w 12) (bits w 13 9) + 4 ≤ x.wlen →
      exec (.extw core) s = .next { s with
        dev := let r := BitVec.ofNat 32 (bits (ofBe (cut (s.dev.windowOf x) (x.offset (bitAt w 12) (bits w 13 9)) 4)) (bits w 6 5) (bits w 1 5 + 1))
          s.dev.issued core c { x with
            g := x.g.set (bits w 22 4) r
            z := r == 0#32
            o := false
            pc := x.pc + 1
            charged := x.charged + 1 } }) ∧
  (∀ (s : State) (core c w : Nat) (x : Ctx),
      s.dev.issues core c x w 1 = true →
      opcodeOf w = 0x18 →
      bits w 22 4 = 0 →
      bits w 10 7 = 0 →
      bitAt w 17 = true →
      exec (.curset core) s = .next { s with
        dev := s.dev.issued core c { x with
            cur := ((x.reg (bits w 18 4)).toNat + bits w 0 10) % 2 ^ 16
            pc := x.pc + 1
            charged := x.charged + 1 } }) ∧
  (∀ (s : State) (core c w : Nat) (x : Ctx),
      s.dev.issues core c x w 1 = true →
      opcodeOf w = 0x18 →
      bits w 22 4 = 0 →
      bits w 10 7 = 0 →
      bitAt w 17 = false →
      bits w 18 4 = 0 →
      exec (.curset core) s = .next { s with
        dev := s.dev.issued core c { x with
            cur := bits w 0 10 % 2 ^ 16
            pc := x.pc + 1
            charged := x.charged + 1 } }) ∧
  (∀ (s : State) (core c w : Nat) (x : Ctx),
      s.dev.issues core c x w 1 = true →
      opcodeOf w = 0x19 →
      bits w 22 4 = 0 →
      bits w 10 7 = 0 →
      bitAt w 17 = true →
      exec (.curadd core) s = .next { s with
        dev := s.dev.issued core c { x with
            cur := (x.cur + (x.reg (bits w 18 4)).toNat + bits w 0 10) % 2 ^ 16
            pc := x.pc + 1
            charged := x.charged + 1 } }) ∧
  (∀ (s : State) (core c w : Nat) (x : Ctx),
      s.dev.issues core c x w 1 = true →
      opcodeOf w = 0x1A →
      bits w 0 22 = 0 →
      exec (.curget core) s = .next { s with
        dev := s.dev.issued core c { x with
            g := x.g.set (bits w 22 4) (BitVec.ofNat 32 x.cur)
            pc := x.pc + 1
            charged := x.charged + 1 } }) ∧
  (∀ (s : State) (core c w : Nat) (x : Ctx),
      s.dev.issues core c x w 1 = true →
      opcodeOf w = 0x1B →
      bits w 0 26 = 0 →
      256 < x.frameLen →
      x.extended = false →
      exec (.wext core) s = .next { s with
        dev := s.dev.issued core c { x with
            wlen := min x.frameLen 512
            flags := setBits x.flags 62 1 1
            extended := true
            suspended := true
            pc := x.pc + 1
            charged := x.charged + 1 } })

/-- Gaffer jumps, calls and tables. Completion: for each of these constructors a clause concludes that exec answers a next
state, under conditions on the state and the operands alone: br, bri, bf, j, call, ret, disp, dmat. -/
def Obligations.GafferControlInstructions : Prop :=
  (∀ (s : State) (core c w : Nat) (x : Ctx),
      s.dev.issues core c x w 2 = true →
      opcodeOf w = 0x1C →
      bits w 11 4 = 0 →
      condHolds (bits w 15 3) (x.reg (bits w 22 4)) (x.reg (bits w 18 4)) = true →
      16 ≤ bits w 0 11 →
      exec (.br core) s = .next { s with
        dev := s.dev.issued core c { x with
            pc := bits w 0 11
            charged := x.charged + 2 } }) ∧
  (∀ (s : State) (core c w : Nat) (x : Ctx),
      s.dev.issues core c x w 1 = true →
      opcodeOf w = 0x1C →
      bits w 11 4 = 0 →
      condHolds (bits w 15 3) (x.reg (bits w 22 4)) (x.reg (bits w 18 4)) = false →
      exec (.br core) s = .next { s with
        dev := s.dev.issued core c { x with
            pc := x.pc + 1
            charged := x.charged + 1 } }) ∧
  (∀ (s : State) (core c w : Nat) (x : Ctx),
      s.dev.issues core c x w 2 = true →
      opcodeOf w = 0x1D →
      condHolds (bits w 19 3) (x.reg (bits w 22 4)) (BitVec.ofNat 32 (bits w 11 8)) = true →
      16 ≤ bits w 0 11 →
      exec (.bri core) s = .next { s with
        dev := s.dev.issued core c { x with
            pc := bits w 0 11
            charged := x.charged + 2 } }) ∧
  (∀ (s : State) (core c w : Nat) (x : Ctx),
      s.dev.issues core c x w 1 = true →
      opcodeOf w = 0x1D →
      condHolds (bits w 19 3) (x.reg (bits w 22 4)) (BitVec.ofNat 32 (bits w 11 8)) = false →
      exec (.bri core) s = .next { s with
        dev := s.dev.issued core c { x with
            pc := x.pc + 1
            charged := x.charged + 1 } }) ∧
  (∀ (s : State) (core c w : Nat) (x : Ctx),
      s.dev.issues core c x w 2 = true →
      opcodeOf w = 0x1E →
      bits w 11 6 = 0 →
      bits w 24 2 = 3 →
      bitAt x.flags (bits w 17 6) = bitAt w 23 →
      16 ≤ bits w 0 11 →
      exec (.bf core) s = .next { s with
        dev := s.dev.issued core c { x with
            pc := bits w 0 11
            charged := x.charged + 2 } }) ∧
  (∀ (s : State) (core c w : Nat) (x : Ctx),
      s.dev.issues core c x w 1 = true →
      opcodeOf w = 0x1E →
      bits w 11 6 = 0 →
      bits w 24 2 = 0 →
      bits w 17 6 = 0 →
      x.z ≠ bitAt w 23 →
      exec (.bf core) s = .next { s with
        dev := s.dev.issued core c { x with
            pc := x.pc + 1
            charged := x.charged + 1 } }) ∧
  (∀ (s : State) (core c w : Nat) (x : Ctx),
      s.dev.issues core c x w 2 = true →
      opcodeOf w = 0x1F →
      bits w 11 15 = 0 →
      16 ≤ bits w 0 11 →
      exec (.j core) s = .next { s with
        dev := s.dev.issued core c { x with
            pc := bits w 0 11
            charged := x.charged + 2 } }) ∧
  (∀ (s : State) (core c w : Nat) (x : Ctx),
      s.dev.issues core c x w 2 = true →
      opcodeOf w = 0x20 →
      bits w 11 15 = 0 →
      x.stack.length < 4 →
      16 ≤ bits w 0 11 →
      exec (.call core) s = .next { s with
        dev := s.dev.issued core c { x with
            stack := (x.pc + 1) :: x.stack
            pc := bits w 0 11
            charged := x.charged + 2 } }) ∧
  (∀ (s : State) (core c w : Nat) (x : Ctx) (a : Nat) (rest : List Nat),
      s.dev.issues core c x w 2 = true →
      opcodeOf w = 0x21 →
      bits w 0 26 = 0 →
      x.stack = a :: rest →
      exec (.ret core) s = .next { s with
        dev := s.dev.issued core c { x with
            stack := rest
            pc := a
            charged := x.charged + 2 } }) ∧
  (∀ (s : State) (core c w : Nat) (x : Ctx) (t : Nat),
      s.dev.issues core c x w 3 = true →
      opcodeOf w = 0x22 →
      bits w 0 17 = 0 →
      1 ≤ bits w 17 5 →
      bits w 17 5 ≤ 8 →
      x.pc + 2 ^ bits w 17 5 ≤ 2047 →
      (s.dev.storeWord (ctxUnit c) x.bank (x.pc + 1 + (x.reg (bits w 22 4)).toNat % 2 ^ bits w 17 5)).toNat = t →
      16 ≤ t →
      t < 2048 →
      exec (.disp core) s = .next { s with
        dev := s.dev.issued core c { x with
            pc := t
            charged := x.charged + 3 } }) ∧
  (∀ (s : State) (core c w : Nat) (x : Ctx),
      s.dev.issues core c x w (if bits w 17 5 ≤ 8 then 2 else 3) = true →
      opcodeOf w = 0x23 →
      bits w 0 17 = 0 →
      1 ≤ bits w 17 5 →
      bits w 17 5 ≤ 16 →
      x.pc + bits w 17 5 ≤ 2047 →
      (((s.dev.view c x).table.take (bits w 17 5)).find? (fun t => bits t 16 16 == (x.reg (bits w 22 4)).toNat % 2 ^ 16)) = none →
      exec (.dmat core) s = .next { s with
        dev := s.dev.issued core c { x with
            pc := x.pc + 1 + bits w 17 5
            charged := x.charged + (if bits w 17 5 ≤ 8 then 2 else 3) } }) ∧
  (∀ (s : State) (core c w : Nat) (x : Ctx) (t : Nat),
      s.dev.issues core c x w (if bits w 17 5 ≤ 8 then 2 else 3) = true →
      opcodeOf w = 0x23 →
      bits w 0 17 = 0 →
      1 ≤ bits w 17 5 →
      bits w 17 5 ≤ 16 →
      x.pc + bits w 17 5 ≤ 2047 →
      (((s.dev.view c x).table.take (bits w 17 5)).find? (fun t => bits t 16 16 == (x.reg (bits w 22 4)).toNat % 2 ^ 16)) = some t →
      bits t 11 5 = 0 →
      16 ≤ bits t 0 11 →
      exec (.dmat core) s = .next { s with
        dev := s.dev.issued core c { x with
            pc := bits t 0 11
            charged := x.charged + (if bits w 17 5 ≤ 8 then 2 else 3) } })

/-- Gaffer hash units, the record and the end of a pass. Completion: for each of these constructors a clause concludes that
exec answers a next state, under conditions on the state and the operands alone: hinit, hcrc, htoe, hcrcr, htoer, hrd,
emit, emitw, fset, fclr, rhint, nop, done, ill. -/
def Obligations.GafferHashAndRecordInstructions : Prop :=
  (∀ (s : State) (core c w : Nat) (x : Ctx),
      s.dev.issues core c x w 1 = true →
      opcodeOf w = 0x24 →
      bits w 0 20 = 0 →
      bits w 22 4 = 0 →
      exec (.hinit core) s = .next { s with
        dev := s.dev.issued core c { x with
            crc := 0xFFFFFFFF#32
            toe := 0#32
            toeBytes := 0
            toeKey := bits w 20 2
            pc := x.pc + 1
            charged := x.charged + 1 } }) ∧
  (∀ (s : State) (core c w : Nat) (x : Ctx),
      s.dev.issues core c x w (1 + (bits w 20 6 + 1 + 7) / 8) = true →
      opcodeOf w = 0x25 →
      bits w 0 10 = 0 →
      x.offset (bitAt w 10) (bits w 11 9) + (bits w 20 6 + 1) ≤ x.wlen →
      exec (.hcrc core) s = .next { s with
        dev := s.dev.issued core c { x with
            crc := crcFeed x.crc (cut (s.dev.windowOf x) (x.offset (bitAt w 10) (bits w 11 9)) (bits w 20 6 + 1))
            o := false
            pc := x.pc + 1
            charged := x.charged + (1 + (bits w 20 6 + 1 + 7) / 8) } }) ∧
  (∀ (s : State) (core c w : Nat) (x : Ctx),
      s.dev.issues core c x w (1 + (bits w 20 6 + 1 + 3) / 4) = true →
      opcodeOf w = 0x27 →
      bits w 0 10 = 0 →
      x.offset (bitAt w 10) (bits w 11 9) + (bits w 20 6 + 1) ≤ x.wlen →
      x.toeBytes + (bits w 20 6 + 1) ≤ 36 →
      exec (.htoe core) s = .next { s with
        dev := s.dev.issued core c { x with
            toe := toeplitzFeed (s.dev.toeplitzKey x.bank x.toeKey) x.toe x.toeBytes (cut (s.dev.windowOf x) (x.offset (bitAt w 10) (bits w 11 9)) (bits w 20 6 + 1))
            toeBytes := x.toeBytes + (bits w 20 6 + 1)
            o := false
            pc := x.pc + 1
            charged := x.charged + (1 + (bits w 20 6 + 1 + 3) / 4) } }) ∧
  (∀ (s : State) (core c w : Nat) (x : Ctx),
      s.dev.issues core c x w (1 + (bits w 20 6 + 1 + 7) / 8) = true →
      opcodeOf w = 0x25 →
      bits w 0 9 = 0 →
      bitAt w 9 = true →
      x.wlen < x.offset (bitAt w 10) (bits w 11 9) + (bits w 20 6 + 1) →
      exec (.hcrc core) s = .next { s with
        dev := s.dev.issued core c { x with
            crc := crcFeed x.crc (((s.dev.windowOf x).drop (x.offset (bitAt w 10) (bits w 11 9))).take (bits w 20 6 + 1))
            o := true
            flags := setBits x.flags 59 1 1
            pc := x.pc + 1
            charged := x.charged + (1 + (bits w 20 6 + 1 + 7) / 8) } }) ∧
  (∀ (s : State) (core c w : Nat) (x : Ctx),
      s.dev.issues core c x w (1 + (bits w 20 6 + 1 + 3) / 4) = true →
      opcodeOf w = 0x27 →
      bits w 0 9 = 0 →
      bitAt w 9 = true →
      x.wlen < x.offset (bitAt w 10) (bits w 11 9) + (bits w 20 6 + 1) →
      x.toeBytes + (((s.dev.windowOf x).drop (x.offset (bitAt w 10) (bits w 11 9))).take (bits w 20 6 + 1)).length ≤ 36 →
      exec (.htoe core) s = .next { s with
        dev := s.dev.issued core c { x with
            toe := toeplitzFeed (s.dev.toeplitzKey x.bank x.toeKey) x.toe x.toeBytes (((s.dev.windowOf x).drop (x.offset (bitAt w 10) (bits w 11 9))).take (bits w 20 6 + 1))
            toeBytes := x.toeBytes + (((s.dev.windowOf x).drop (x.offset (bitAt w 10) (bits w 11 9))).take (bits w 20 6 + 1)).length
            o := true
            flags := setBits x.flags 59 1 1
            pc := x.pc + 1
            charged := x.charged + (1 + (bits w 20 6 + 1 + 3) / 4) } }) ∧
  (∀ (s : State) (core c w : Nat) (x : Ctx),
      s.dev.issues core c x w 1 = true →
      opcodeOf w = 0x26 →
      bits w 0 20 = 0 →
      bits w 20 2 ≠ 3 →
      exec (.hcrcr core) s = .next { s with
        dev := s.dev.issued core c { x with
            crc := crcFeed x.crc (toBe (2 ^ bits w 20 2) (x.reg (bits w 22 4)).toNat)
            pc := x.pc + 1
            charged := x.charged + 1 } }) ∧
  (∀ (s : State) (core c w : Nat) (x : Ctx),
      s.dev.issues core c x w 1 = true →
      opcodeOf w = 0x28 →
      bits w 0 20 = 0 →
      bits w 20 2 ≠ 3 →
      x.toeBytes + (toBe (2 ^ bits w 20 2) (x.reg (bits w 22 4)).toNat).length ≤ 36 →
      exec (.htoer core) s = .next { s with
        dev := s.dev.issued core c { x with
            toe := toeplitzFeed (s.dev.toeplitzKey x.bank x.toeKey) x.toe x.toeBytes (toBe (2 ^ bits w 20 2) (x.reg (bits w 22 4)).toNat)
            toeBytes := x.toeBytes + (toBe (2 ^ bits w 20 2) (x.reg (bits w 22 4)).toNat).length
            pc := x.pc + 1
            charged := x.charged + 1 } }) ∧
  (∀ (s : State) (core c w : Nat) (x : Ctx),
      s.dev.issues core c x w 1 = true →
      opcodeOf w = 0x29 →
      bits w 0 20 = 0 →
      bitAt w 21 = false →
      exec (.hrd core) s = .next { s with
        dev := s.dev.issued core c { x with
            g := x.g.set (bits w 22 4) (if bitAt w 20 then x.toe else x.crc ^^^ 0xFFFFFFFF#32)
            pc := x.pc + 1
            charged := x.charged + 1 } }) ∧
  (∀ (s : State) (core c w : Nat) (x : Ctx),
      s.dev.issues core c x w 1 = true →
      opcodeOf w = 0x2A →
      bits w 0 13 = 0 →
      bits w 13 2 ≠ 3 →
      16 ≤ bits w 15 7 →
      bits w 15 7 + 2 ^ bits w 13 2 ≤ 128 →
      exec (.emit core) s = .next { s with
        dev := s.dev.issued core c { x with
            md := overwrite x.md (bits w 15 7) (toBe (2 ^ bits w 13 2) (x.reg (bits w 22 4)).toNat)
            pc := x.pc + 1
            charged := x.charged + 1 } }) ∧
  (∀ (s : State) (core c w : Nat) (x : Ctx),
      s.dev.issues core c x w (if bits w 21 5 + 1 ≤ 16 then 1 else 2) = true →
      opcodeOf w = 0x2B →
      bits w 0 4 = 0 →
      16 ≤ bits w 14 7 →
      bits w 14 7 + (bits w 21 5 + 1) ≤ 128 →
      x.offset (bitAt w 4) (bits w 5 9) + (bits w 21 5 + 1) ≤ x.wlen →
      exec (.emitw core) s = .next { s with
        dev := s.dev.issued core c { x with
            md := overwrite x.md (bits w 14 7) (cut (s.dev.windowOf x) (x.offset (bitAt w 4) (bits w 5 9)) (bits w 21 5 + 1))
            o := false
            pc := x.pc + 1
            charged := x.charged + (if bits w 21 5 + 1 ≤ 16 then 1 else 2) } }) ∧
  (∀ (s : State) (core c w : Nat) (x : Ctx),
      s.dev.issues core c x w (if bits w 21 5 + 1 ≤ 16 then 1 else 2) = true →
      opcodeOf w = 0x2B →
      bits w 0 3 = 0 →
      bitAt w 3 = true →
      16 ≤ bits w 14 7 →
      bits w 14 7 + (bits w 21 5 + 1) ≤ 128 →
      x.wlen < x.offset (bitAt w 4) (bits w 5 9) + (bits w 21 5 + 1) →
      exec (.emitw core) s = .next { s with
        dev := s.dev.issued core c { x with
            md := overwrite x.md (bits w 14 7) (cut (s.dev.windowOf x) (x.offset (bitAt w 4) (bits w 5 9)) (bits w 21 5 + 1))
            o := true
            flags := setBits x.flags 59 1 1
            pc := x.pc + 1
            charged := x.charged + (if bits w 21 5 + 1 ≤ 16 then 1 else 2) } }) ∧
  (∀ (s : State) (core c w : Nat) (x : Ctx),
      s.dev.issues core c x w 1 = true →
      opcodeOf w = 0x2C →
      bits w 0 18 = 0 →
      bits w 18 8 < 56 →
      exec (.fset core) s = .next { s with
        dev := s.dev.issued core c { x with
            flags := setBits x.flags (bits w 18 8) 1 1
            pc := x.pc + 1
            charged := x.charged + 1 } }) ∧
  (∀ (s : State) (core c w : Nat) (x : Ctx),
      s.dev.issues core c x w 1 = true →
      opcodeOf w = 0x2D →
      bits w 0 18 = 0 →
      bits w 18 8 < 56 →
      exec (.fclr core) s = .next { s with
        dev := s.dev.issued core c { x with
            flags := setBits x.flags (bits w 18 8) 1 0
            pc := x.pc + 1
            charged := x.charged + 1 } }) ∧
  (∀ (s : State) (core c w : Nat) (x : Ctx),
      s.dev.issues core c x w 1 = true →
      opcodeOf w = 0x2E →
      bits w 0 18 = 0 →
      exec (.rhint core) s = .next { s with
        dev := s.dev.issued core c { x with
            md := overwrite x.md 13 [BitVec.ofNat 8 (bits w 18 8)]
            flags := setBits x.flags 61 1 1
            pc := x.pc + 1
            charged := x.charged + 1 } }) ∧
  (∀ (s : State) (core c w : Nat) (x : Ctx),
      s.dev.issues core c x w 1 = true →
      opcodeOf w = 0x30 →
      bits w 0 26 = 0 →
      exec (.nop core) s = .next { s with
        dev := s.dev.issued core c { x with
            pc := x.pc + 1
            charged := x.charged + 1 } }) ∧
  (∀ (s : State) (core c w : Nat) (x : Ctx),
      s.dev.issues core c x w 1 = true →
      opcodeOf w = 0x2F →
      bits w 0 26 = 0 →
      exec (.done core) s = .next { s with
        dev := ({ s.dev with
            lastIssued := Sparse.set (blank 3) s.dev.lastIssued core (c % 4) } : Dev).donePass c { x with
            pc := x.pc + 1, charged := x.charged + 1 } }) ∧
  (∀ (s : State) (core c w : Nat) (x : Ctx),
      s.dev.issues core c x w 1 = true →
      opcodeOf w = 0x00 →
      exec (.ill core) s = .next { s with
        dev := ({ s.dev with
            lastIssued := Sparse.set (blank 3) s.dev.lastIssued core (c % 4) } : Dev).raise c x excIllegal 1 x.pc })

/-- Gaffer dispatch, errors, release and exception delivery. Completion: for each of these constructors a clause concludes
that exec answers a next state, under conditions on the state and the operands alone: packetDispatch, wextResume,
contextParityError, programStoreUe, recordRelease, exceptionDelivery. -/
def Obligations.GafferFarmCommands : Prop :=
  (∀ (s : State) (h c : Nat),
      (s.dev.packet h).restart = none →
      s.dev.reheatQ = [] →
      s.dev.releaseDepth < 4096 →
      s.dev.chooseCtx s.dev.gafUnits = some c →
      s.dev.dispatchQ.contains h = true →
      s.dev.firstOfSource h = true →
      exec (.packetDispatch h) s = .next { s with
        dev := let d := { s.dev with dispatchQ := s.dev.dispatchQ.filter (· != h) }
          (d.fset Page.gafg Reg.GAFG_DISP_DEPTH_DEPTH d.dispDepth).dispatchPass h c }) ∧
  (∀ (s : State) (h c : Nat) (rest : List Nat),
      (s.dev.packet h).restart = none →
      s.dev.reheatQ = h :: rest →
      0 < s.dev.credit →
      s.dev.releaseDepth < 4096 →
      s.dev.chooseCtx s.dev.gafUnits = some c →
      exec (.packetDispatch h) s = .next { s with
        dev := let d := { s.dev with reheatQ := rest, reheatSeen := false }
          (d.fset Page.gafg Reg.GAFG_DISP_DEPTH_DEPTH d.dispDepth).dispatchPass h c }) ∧
  (∀ (s : State) (h c : Nat) (r : Restart),
      (s.dev.packet h).restart = some r →
      s.dev.reheatQ = [] →
      r.journal ≤ s.dev.journal.written →
      s.dev.restartCtx r.left r.same = some c →
      exec (.packetDispatch h) s = .next { s with
        dev := (s.dev.setPacket h { s.dev.packet h with restart := none }).place h c ((s.dev.packet h).bank.getD 0) (s.dev.packet h).entryHint
            (s.dev.packet h).md (fun y => { y with
              flags := setBits y.flags 60 1 1, before := r.before, parityHits := r.parityHits, storeHits := r.storeHits }) }) ∧
  (∀ (s : State) (c : Nat) (x : Ctx),
      s.dev.ctxAt c = some x →
      exec (.wextResume c) s = .next { s with
        dev := s.dev.setCtx c (some { x with suspended := false }) }) ∧
  (∀ (s : State) (c : Nat) (x : Ctx) (d : Dev),
      s.dev.ctxAt c = some x →
      ((s.dev.countSat (s.dev.gafPage (ctxUnit c)) Reg.GAF_PARITY_CNT_CNT).latchFault (s.dev.gafPage (ctxUnit c)) FaultBit.gaf_CTX_PARITY).noteCtxError c = d →
      x.parityHits = 0 →
      exec (.contextParityError c) s = .next { s with
        dev := (d.endForRestart x c 1 0 true).restart x.packet }) ∧
  (∀ (s : State) (c : Nat) (x : Ctx),
      s.dev.ctxAt c = some x →
      x.parityHits ≠ 0 →
      exec (.contextParityError c) s = .next { s with
        dev := (((s.dev.countSat (s.dev.gafPage (ctxUnit c)) Reg.GAF_PARITY_CNT_CNT).latchFault (s.dev.gafPage (ctxUnit c))
            FaultBit.gaf_CTX_PARITY).noteCtxError c).raise c x excParity 1 x.pc }) ∧
  (∀ (s : State) (c : Nat) (x : Ctx) (d : Dev),
      s.dev.ctxAt c = some x →
      (({ s.dev with gafStopped := if s.dev.gafStopped.contains (ctxUnit c) then s.dev.gafStopped else s.dev.gafStopped ++ [ctxUnit c] } : Dev).latchFault
      (s.dev.gafPage (ctxUnit c)) FaultBit.gaf_PS_UE).svcAuto puntyGaf (s.dev.pageOfUnit puntyGaf (ctxUnit c)) false = d →
      x.storeHits ≠ 0 →
      exec (.programStoreUe c) s = .next { s with
        dev := d.raise c x excParity 2 x.pc }) ∧
  (∀ (s : State) (c : Nat) (x : Ctx) (d : Dev),
      s.dev.ctxAt c = some x →
      (({ s.dev with gafStopped := if s.dev.gafStopped.contains (ctxUnit c) then s.dev.gafStopped else s.dev.gafStopped ++ [ctxUnit c] } : Dev).latchFault
      (s.dev.gafPage (ctxUnit c)) FaultBit.gaf_PS_UE).svcAuto puntyGaf (s.dev.pageOfUnit puntyGaf (ctxUnit c)) false = d →
      x.storeHits = 0 →
      exec (.programStoreUe c) s = .next { s with
        dev := (d.endForRestart x c 0 1 false).restart x.packet }) ∧
  (∀ (s : State) (h : Nat),
      (s.dev.packet h).stage = .done →
      s.dev.hasPredecessor h = false →
      exec (.recordRelease h) s = .next { s with
        dev := s.dev.setStage h .released }) ∧
  (∀ (s : State) (h : Nat) (rest : List Nat),
      s.dev.excQ = h :: rest →
      s.dev.fbit Page.gafg Reg.GAFG_EXC_CTL_DELIVER = true →
      (s.dev.packet h).stage = .exception →
      exec (.exceptionDelivery) s = .next { s with
        dev := s.dev.setStage h .offered }) ∧
  (∀ (s : State) (h : Nat) (rest : List Nat),
      s.dev.excQ = h :: rest →
      s.dev.fbit Page.gafg Reg.GAFG_EXC_CTL_DELIVER = false →
      exec (.exceptionDelivery) s = .next { s with
        dev := (((({ s.dev with excQ := rest } : Dev).fset Page.gafg Reg.GAFG_EXC_DEPTH_DEPTH rest.length).count Page.gafg
            Reg.GAFG_EXC_DROP_CNT).pulse 154).dropPacket h Drop.gafExc })

/-- Program stores, their CRCs and the flip of banks. Completion: for each of these constructors a clause concludes that exec
answers a next state, under conditions on the state and the operands alone: programStoreWrite, programStoreRead,
psCrcRecompute, flipRequest, flipCheck, oldBankFree. -/
def Obligations.ProgramStoreAndFlipCommands : Prop :=
  (∀ (s : State) (req : Requester) (n : Nat) (v : Word),
      s.dev.unreachable (Page.gaf n + 0x104) = none →
      s.dev.storeWritable (s.dev.unitOf puntyGaf n) (s.dev.fget (Page.gaf n) Reg.GAF_PS_ADDR_BANK) = true →
      s.dev.asleep req = false →
      exec (.programStoreWrite req n v) s = .next { s with
        dev := let u := s.dev.unitOf puntyGaf n
          let b := s.dev.fget (Page.gaf n) Reg.GAF_PS_ADDR_BANK
          let w := s.dev.fget (Page.gaf n) Reg.GAF_PS_ADDR_WORD
          let d0 := if bitAt s.dev.pwr.gafGated n then s.dev.gateGaf n false else s.dev
          let d := (d0.setStoreWord u b w v).fset (Page.gaf n) Reg.GAF_PS_STAT_CRC_BUSY 1
          let d3 := { d with crcBusy := if d.crcBusy.contains (u * 2 + b) then d.crcBusy else d.crcBusy ++ [u * 2 + b] }
          ((if d3.fget Page.svc (puntyState puntyGaf) = 1 ∧ d3.fget Page.svc (puntyInst puntyGaf) = n then d3.setStoreWord 24 b w v
            else d3).fset (Page.gaf n) Reg.GAF_PS_DATA_INSN v.toNat).nextStoreWord (Page.gaf n) }) ∧
  (∀ (s : State) (req : Requester) (n : Nat) (v : Word),
      s.dev.unreachable (Page.gaf n + 0x104) = none →
      s.dev.storeWritable (s.dev.unitOf puntyGaf n) (s.dev.fget (Page.gaf n) Reg.GAF_PS_ADDR_BANK) = false →
      s.dev.asleep req = false →
      exec (.programStoreWrite req n v) s = .next { s with
        dev := (((s.dev.fset (Page.gaf n) Reg.GAF_PS_STAT_WR_REJ 1).accessFault (Page.gaf n)).fset (Page.gaf n)
            Reg.GAF_PS_DATA_INSN v.toNat).nextStoreWord (Page.gaf n) }) ∧
  (∀ (s : State) (req : Requester) (n : Nat),
      s.dev.unreachable (Page.gaf n + 0x104) = none →
      s.dev.asleep req = false →
      exec (.programStoreRead req n) s = .next { s with
        dev := (s.dev.nextStoreWord (Page.gaf n)).emit (.readData (s.dev.storeWord (s.dev.unitOf puntyGaf n)
            (s.dev.fget (Page.gaf n) Reg.GAF_PS_ADDR_BANK) (s.dev.fget (Page.gaf n) Reg.GAF_PS_ADDR_WORD))) }) ∧
  (∀ (s : State) (n b : Nat),
      s.dev.crcBusy = [s.dev.unitOf puntyGaf n * 2 + b] →
      b < 2 →
      exec (.psCrcRecompute n b) s = .next { s with
        dev := ((({ s.dev with crcBusy := [] } : Dev).fset (Page.gaf n) (crcFld b) (crc32c ((List.range 2048).flatMap
            (fun w => toLe 4 (s.dev.storeWord (s.dev.unitOf puntyGaf n) b w).toNat))).toNat).fset (Page.gaf n) Reg.GAF_PS_STAT_CRC_BUSY 0) }) ∧
  (∀ (s : State) (req : Requester),
      s.dev.unreachable (Page.gafg + 0x104) = none →
      s.dev.asleep req = false →
      exec (.flipRequest req) s = .next { s with
        dev := ({ s.dev with flips := s.dev.flips + 1 } : Dev).fset Page.gafg Reg.GAFG_FLIP_GO 1 }) ∧
  (∀ (s : State),
      s.dev.flips ≠ 0 →
      s.dev.crcBusy = [] →
      s.dev.flipCause = 0 →
      exec (.flipCheck) s = .next { s with
        dev := ((({ s.dev with flips := s.dev.flips - 1 } : Dev).fset Page.gafg Reg.GAFG_BANK_ACTIVE (1 - s.dev.activeBank)).fset Page.gafg
            Reg.GAFG_ACTIVE_CRC_CRC (s.dev.rd (Page.gafg + Reg.GAFG_IMAGE_CRC_CRC.off)).toNat).fset Page.gafg Reg.GAFG_BANK_OLD_BUSY 1 }) ∧
  (∀ (s : State),
      s.dev.flips ≠ 0 →
      s.dev.crcBusy = [] →
      s.dev.flipCause = 2 ∨ s.dev.flipCause = 3 →
      exec (.flipCheck) s = .next { s with
        dev := let d := (((({ s.dev with flips := s.dev.flips - 1 } : Dev).fset Page.gafg Reg.GAFG_BANK_FLIP_ERR 1).fset Page.gafg
            Reg.GAFG_BANK_ERR_CAUSE s.dev.flipCause).latchFault Page.gafg FaultBit.gafg_FLIP_REFUSED).pulse 156
          if d.flips ≠ 0 then d else d.fset Page.gafg Reg.GAFG_FLIP_GO 0 }) ∧
  (∀ (s : State),
      s.dev.flips ≠ 0 →
      s.dev.crcBusy = [] →
      s.dev.flipCause = 1 →
      exec (.flipCheck) s = .next { s with
        dev := (((({ s.dev with flips := s.dev.flips - 1 } : Dev).fset Page.gafg Reg.GAFG_BANK_FLIP_ERR 1).fset Page.gafg
            Reg.GAFG_BANK_ERR_CAUSE 1).latchFault Page.gafg FaultBit.gafg_FLIP_REFUSED).pulse 156 }) ∧
  (∀ (s : State),
      s.dev.fbit Page.gafg Reg.GAFG_BANK_OLD_BUSY = true →
      s.dev.fget Page.gafg (inflightBank (1 - s.dev.activeBank)) = 0 →
      exec (.oldBankFree) s = .next { s with
        dev := let d := (s.dev.fset Page.gafg Reg.GAFG_BANK_OLD_BUSY 0).pulse 155
          if d.flips = 0 then d.fset Page.gafg Reg.GAFG_FLIP_GO 0 else d })

/-- Acceptance, tree walks and hand-off. Completion: for each of these constructors a clause concludes that exec answers a
next state, under conditions on the state and the operands alone: recordAccept, treeWalk, resultHandoff. -/
def Obligations.ClassifierRecordCommands : Prop :=
  (∀ (s : State) (h e : Nat),
      (s.dev.packet h).stage = .released →
      s.dev.accepts Page.clsg = true →
      s.dev.earlierReleased h = false →
      s.dev.packets.countP (fun e => e.2.stage == .walked) < 4096 →
      s.dev.chooseEngine = some e →
      (s.dev.packet h).pass = 0 →
      s.dev.fbit Page.clsg Reg.CLS_BATCH_CUR_CUR_VALID = true →
      exec (.recordAccept h) s = .next { s with
        dev := let cur := s.dev.fget Page.clsg Reg.CLS_BATCH_CUR_CUR
          { (((s.dev.count Page.clsg (inflightBatch cur)).wcount Page.clsg (0x10 + cur)).setPacket h { s.dev.packet h with
            batch := some cur, md := overwrite (s.dev.packet h).md 7 [BitVec.ofNat 8 (setBits (setBits (byteAt (s.dev.packet h).md 7) 5 1 1) 0 4 cur)],
            stage := .walking e, accepted := s.dev.now, order := s.dev.acceptNo }) with acceptNo := s.dev.acceptNo + 1 } }) ∧
  (∀ (s : State) (h e : Nat),
      (s.dev.packet h).stage = .released →
      s.dev.accepts Page.clsg = true →
      s.dev.earlierReleased h = false →
      s.dev.packets.countP (fun e => e.2.stage == .walked) < 4096 →
      s.dev.chooseEngine = some e →
      (s.dev.packet h).pass = 0 →
      s.dev.fbit Page.clsg Reg.CLS_BATCH_CUR_CUR_VALID = false →
      exec (.recordAccept h) s = .next { s with
        dev := s.dev.clsDrop h }) ∧
  (∀ (s : State) (h e : Nat) (w : Walk) (p : Packet) (d : Dev),
      s.dev.packet h = p →
      p.stage = .walking e →
      s.dev.walk p.md p.flags (p.batch.getD 0) = w →
      w.outcome = 0 →
      (((s.dev.count (Page.cls (s.dev.pageOfUnit puntyCls e)) Reg.CLS_WALK_CNT_CNT).count (Page.cls (s.dev.pageOfUnit puntyCls e))
      Reg.CLS_NODE_CNT_CNT w.nodes).wcount Page.clsg 1).wcount Page.clsg 2 w.nodes = d →
      ∃ d3 : Dev, d3 = (((d.countMisses (Page.cls (s.dev.pageOfUnit puntyCls e)) Reg.CLS_RULE_GDDR_CNT_CNT w.rules).count Page.clsg
          Reg.CLS_ABSENT_CNT_CNT w.absent).latchWhen w.treeUe (Page.cls (s.dev.pageOfUnit puntyCls e)) FaultBit.cls_TREE_UE).latchWhen
          w.ruleUe (Page.cls (s.dev.pageOfUnit puntyCls e)) FaultBit.cls_RULE_UE ∧
        exec (.treeWalk h) s = .next { s with dev := d3.setPacket h { p with
          stage := .walked, ruleIndex := w.rule, rule := ((d3.readRule w.rule).getD []).map (BitVec.ofNat 32) } }) ∧
  (∀ (s : State) (h e r : Nat) (w : Walk) (p : Packet) (d d3 d5 : Dev),
      s.dev.packet h = p →
      p.stage = .walking e →
      s.dev.walk p.md p.flags (p.batch.getD 0) = w →
      w.outcome ≠ 0 →
      (((s.dev.count (Page.cls (s.dev.pageOfUnit puntyCls e)) Reg.CLS_WALK_CNT_CNT).count (Page.cls (s.dev.pageOfUnit puntyCls e))
      Reg.CLS_NODE_CNT_CNT w.nodes).wcount Page.clsg 1).wcount Page.clsg 2 w.nodes = d →
      (((d.countMisses (Page.cls (s.dev.pageOfUnit puntyCls e)) Reg.CLS_RULE_GDDR_CNT_CNT w.rules).count Page.clsg
      Reg.CLS_ABSENT_CNT_CNT w.absent).latchWhen w.treeUe (Page.cls (s.dev.pageOfUnit puntyCls e)) FaultBit.cls_TREE_UE).latchWhen
      w.ruleUe (Page.cls (s.dev.pageOfUnit puntyCls e)) FaultBit.cls_RULE_UE = d3 →
      d3.fget Page.clsg (if w.outcome = 1 then bdMiss (p.batch.getD 0) else bdErr (p.batch.getD 0)) = r →
      (if w.outcome = 2 then (d3.count Page.clsg (if w.outcome = 1 then Reg.CLS_MISS_CNT_CNT else Reg.CLS_ERR_CNT_CNT)).pulse 182
      else d3.count Page.clsg (if w.outcome = 1 then Reg.CLS_MISS_CNT_CNT else Reg.CLS_ERR_CNT_CNT)).countMisses
      (Page.cls (s.dev.pageOfUnit puntyCls e)) Reg.CLS_RULE_GDDR_CNT_CNT 1 = d5 →
      exec (.treeWalk h) s = .next { s with
        dev := match d5.readRule r with
            | none => (d5.latchFault (Page.cls (s.dev.pageOfUnit puntyCls e)) FaultBit.cls_RULE_UE).clsDrop h
            | some ws => if ruleGood ws = false then d5.clsDrop h
              else if ruleValid ws then d5.setPacket h { p with stage := .walked, ruleIndex := r, rule := ws.map (BitVec.ofNat 32) }
              else (d5.count Page.clsg Reg.CLS_ABSENT_CNT_CNT).clsDrop h }) ∧
  (∀ (s : State) (h : Nat),
      (∀ e, (s.dev.packet h).stage ≠ .walking e) →
      exec (.treeWalk h) s = .next { s with
        dev := s.dev }) ∧
  (∀ (s : State) (h : Nat),
      (s.dev.packet h).stage = .walked →
      s.dev.packets.any (fun e => e.1 != h && e.2.source == (s.dev.packet h).source && e.2.pass == (s.dev.packet h).pass &&
      decide (e.2.order < (s.dev.packet h).order) && (match e.2.stage with | .walking _ => true | .walked => true | _ => false)) = false →
      exec (.resultHandoff h) s = .next { s with
        dev := s.dev.setStage h .acting })

/-- Staging, swapping and retiring batches. Completion: for each of these constructors a clause concludes that exec answers a
next state, under conditions on the state and the operands alone: batchStage, batchUnstage, batchSwap, batchRetire,
batchRetiredClear. -/
def Obligations.BatchCommands : Prop :=
  (∀ (s : State) (req : Requester) (b : BitVec 4) (d : Dev),
      s.dev.unreachable (Page.clsg + 0x108) = none →
      s.dev.stageFields b.toNat 0 = d →
      d.batchState b.toNat = 0 →
      0 < d.fget Page.clsg (bdNroot b.toNat) →
      d.fget Page.clsg (bdNroot b.toNat) ≤ 4096 →
      d.fget Page.clsg (bdRoot b.toNat) + d.fget Page.clsg (bdNroot b.toNat) ≤ 524288 →
      s.dev.asleep req = false →
      exec (.batchStage req b) s = .next { s with
        dev := d.setBatchState b.toNat 1 }) ∧
  (∀ (s : State) (req : Requester) (b : BitVec 4) (d : Dev),
      s.dev.unreachable (Page.clsg + 0x108) = none →
      s.dev.stageFields b.toNat 0 = d →
      d.batchState b.toNat ≠ 0 →
      s.dev.asleep req = false →
      exec (.batchStage req b) s = .next { s with
        dev := d.refuseBatch b.toNat 1 }) ∧
  (∀ (s : State) (req : Requester) (b : BitVec 4) (d : Dev),
      s.dev.unreachable (Page.clsg + 0x108) = none →
      s.dev.stageFields b.toNat 1 = d →
      d.batchState b.toNat = 1 →
      s.dev.asleep req = false →
      exec (.batchUnstage req b) s = .next { s with
        dev := d.setBatchState b.toNat 0 }) ∧
  (∀ (s : State) (req : Requester) (b : BitVec 4) (d : Dev),
      s.dev.unreachable (Page.clsg + 0x104) = none →
      s.dev.fsetP Page.clsg Reg.CLS_BATCH_SWAP_NEW b.toNat = d →
      d.batchState b.toNat = 1 →
      s.dev.asleep req = false →
      exec (.batchSwap req b) s = .next { s with
        dev := (((if d.fbit Page.clsg Reg.CLS_BATCH_CUR_CUR_VALID then
            d.setBatchState (d.fget Page.clsg Reg.CLS_BATCH_CUR_CUR) 3 else d).setBatchState b.toNat 2).fset Page.clsg Reg.CLS_BATCH_CUR_CUR
            b.toNat).fset Page.clsg Reg.CLS_BATCH_CUR_CUR_VALID 1 }) ∧
  (∀ (s : State) (b : BitVec 4),
      s.dev.batchState b.toNat = 3 →
      s.dev.fget Page.clsg (inflightBatch b.toNat) = 0 →
      exec (.batchRetire b) s = .next { s with
        dev := ((s.dev.setBatchState b.toNat 4).fset Page.clsg ⟨Reg.CLS_BATCH_RETIRED_MAP.off, b.toNat, 1⟩ 1).pulse 178 }) ∧
  (∀ (s : State) (req : Requester) (m : BitVec 16),
      s.dev.unreachable (Page.clsg + 0x10C) = none →
      s.dev.asleep req = false →
      exec (.batchRetiredClear req m) s = .next { s with
        dev := (List.range 16).foldl (fun (d : Dev) b => if bitAt m.toNat b then (if d.batchState b = 4 then
            (d.setBatchState b 0).fset Page.clsg ⟨Reg.CLS_BATCH_RETIRED_MAP.off, b, 1⟩ 0 else d) else d) s.dev })

/-- Probes of the tables and age refreshes. Completion: for each of these constructors a clause concludes that exec answers a
next state, under conditions on the state and the operands alone: emProbe, lpmProbe, privilegedReprobe, ageRefresh. -/
def Obligations.TableProbeCommands : Prop :=
  (∀ (s : State) (h n t : Nat) (p : Packet),
      s.dev.packet h = p →
      p.stage = .acting →
      (probeTables p.rule)[n]? = some t →
      p.probes.getD n none = none →
      tdKind (s.dev.td t) = 0 →
      s.dev.actsGood (ruleActs p.rule) = true →
      s.dev.probeErr t = false →
      s.dev.banksOut (s.dev.td t) (s.dev.emKey t p.md) = false →
      exec (.emProbe h n) s = .next { s with
        dev := let k := s.dev.emKey t p.md
          let f := s.dev.probeKey t k
          match f.1 with
          | some c => (f.2.2.askRefresh (s.dev.td t) c).storeProbe h n (f.2.2.probeHit t c f.2.1 0)
          | none => f.2.2.storeProbe h n { table := t, bad := f.2.1 } }) ∧
  (∀ (s : State) (h n t : Nat) (p : Packet),
      s.dev.packet h = p →
      p.stage = .acting →
      (probeTables p.rule)[n]? = some t →
      p.probes.getD n none = none →
      tdKind (s.dev.td t) = 0 →
      s.dev.actsGood (ruleActs p.rule) = true →
      (s.dev.probeErr t || s.dev.banksOut (s.dev.td t) (s.dev.emKey t p.md)) = true →
      exec (.emProbe h n) s = .next { s with
        dev := s.dev.storeProbe h n { table := t, err := true } }) ∧
  (∀ (s : State) (h n t : Nat) (p : Packet),
      s.dev.packet h = p →
      p.stage = .acting →
      (probeTables p.rule)[n]? = some t →
      p.probes.getD n none = none →
      tdKind (s.dev.td t) ≠ 0 →
      s.dev.actsGood (ruleActs p.rule) = true →
      s.dev.probeErr t = false →
      exec (.lpmProbe h n) s = .next { s with
        dev := let r := s.dev.lpmTry t (s.dev.profileBytes t p.md) (s.dev.lpmLengths t (s.dev.profileBytes t p.md)) false
          r.2.storeProbe h n r.1 }) ∧
  (∀ (s : State) (h n t : Nat) (p : Packet),
      s.dev.packet h = p →
      p.stage = .acting →
      (probeTables p.rule)[n]? = some t →
      p.touched.contains n = true →
      exec (.privilegedReprobe h n) s = .next { s with
        dev := let r := s.dev.emProbe t p.md
          ((r.2.storeProbe h n r.1).count (Page.tbl (bankOf (s.dev.td t) (bucket1 (s.dev.td t) (s.dev.emKey t p.md)))) Reg.TBL_REPROBE_CNT_CNT).modPacket h
            (fun p => { p with repeats := p.repeats ++ [n] }) }) ∧
  (∀ (s : State) (slot gen : Nat) (rest : List (Nat × Nat)) (d : Dev),
      s.dev.refreshQ = (slot, gen) :: rest →
      { s.dev with refreshQ := rest } = d →
      exec (.ageRefresh) s = .next { s with
        dev := if eValid (d.slotWords slot) ∧ eGen (d.slotWords slot) = gen ∧ !d.slotBad slot then
            d.writeSlot slot ((d.slotWords slot).set 14 (setBits (nth (d.slotWords slot) 14) 24 8 d.epoch))
          else d.count (Page.tbl (d.bankOfSlot (eTable (d.slotWords slot)) slot)) Reg.TBL_REFRESH_STALE_CNT })

/-- Operations of the TBLG port. Completion: for each of these constructors a clause concludes that exec answers a next state,
under conditions on the state and the operands alone: insert, insertNoevict, delete, lookup, clearSlot, bloomRebuild,
bloomRebuildEnd. -/
def Obligations.TableOperationCommands : Prop :=
  (∀ (s : State) (o : PortOp) (c : Cand),
      s.dev.portRunning portTblg 1 = some o →
      s.dev.imageGood o = true →
      (s.dev.findKey (opTable o) (s.dev.opKey o)).1 = some c →
      exec (.insert) s = .next { s with
        dev := let d := (s.dev.findKey (opTable o) (s.dev.opKey o)).2.2
          let new := entryWords (opImage o) d.epoch (eGen (d.slotWords c.slot)) false
          ((((d.ownEntry (d.slotWords c.slot) false).writeSlot c.slot new).ownEntry new true).opOutcome
            { code := Code.ok, found := true, ovf := c.way.isSome, slot := c.slot }).portEnd portTblg Code.ok }) ∧
  (∀ (s : State) (o : PortOp) (c : Cand),
      s.dev.portRunning portTblg 2 = some o →
      s.dev.imageGood o = true →
      (s.dev.findKey (opTable o) (s.dev.opKey o)).1 = some c →
      exec (.insertNoevict) s = .next { s with
        dev := let d := (s.dev.findKey (opTable o) (s.dev.opKey o)).2.2
          let new := entryWords (opImage o) d.epoch (eGen (d.slotWords c.slot)) false
          ((((d.ownEntry (d.slotWords c.slot) false).writeSlot c.slot new).ownEntry new true).opOutcome
            { code := Code.ok, found := true, ovf := c.way.isSome, slot := c.slot }).portEnd portTblg Code.ok }) ∧
  (∀ (s : State) (o : PortOp) (d : Dev) (slot : Nat),
      s.dev.portRunning portTblg 1 = some o →
      s.dev.imageGood o = true →
      (s.dev.findKey (opTable o) (s.dev.opKey o)).1 = none →
      (s.dev.findKey (opTable o) (s.dev.opKey o)).2.2 = d →
      ¬ ((tdKind (d.td (opTable o)) ≠ 0 ∧ prefixLimit (tdKind (d.td (opTable o))) ≤ d.prefixes (tdKind (d.td (opTable o)))) ∨
      (!eOwnerMgr (opImage o) ∧ d.quotaReached (eOwner (opImage o)))) →
      (buckets (d.td (opTable o)) (s.dev.opKey o)).findSome? (d.freeSlot (d.td (opTable o))) = some slot →
      exec (.insert) s = .next { s with
        dev := ((d.putEntry (opTable o) (opImage o) false slot).opOutcome { code := Code.ok, slot := slot }).portEnd portTblg Code.ok }) ∧
  (∀ (s : State) (o : PortOp) (d : Dev) (slot : Nat),
      s.dev.portRunning portTblg 2 = some o →
      s.dev.imageGood o = true →
      (s.dev.findKey (opTable o) (s.dev.opKey o)).1 = none →
      (s.dev.findKey (opTable o) (s.dev.opKey o)).2.2 = d →
      ¬ ((tdKind (d.td (opTable o)) ≠ 0 ∧ prefixLimit (tdKind (d.td (opTable o))) ≤ d.prefixes (tdKind (d.td (opTable o)))) ∨
      (!eOwnerMgr (opImage o) ∧ d.quotaReached (eOwner (opImage o)))) →
      (buckets (d.td (opTable o)) (s.dev.opKey o)).findSome? (d.freeSlot (d.td (opTable o))) = some slot →
      exec (.insertNoevict) s = .next { s with
        dev := ((d.putEntry (opTable o) (opImage o) false slot).opOutcome { code := Code.ok, slot := slot }).portEnd portTblg Code.ok }) ∧
  (∀ (s : State) (o : PortOp) (d : Dev),
      s.dev.portRunning portTblg 1 = some o →
      s.dev.imageGood o = true →
      (s.dev.findKey (opTable o) (s.dev.opKey o)).1 = none →
      (s.dev.findKey (opTable o) (s.dev.opKey o)).2.2 = d →
      (tdKind (d.td (opTable o)) ≠ 0 ∧ prefixLimit (tdKind (d.td (opTable o))) ≤ d.prefixes (tdKind (d.td (opTable o)))) ∨
      (!eOwnerMgr (opImage o) ∧ d.quotaReached (eOwner (opImage o))) →
      exec (.insert) s = .next { s with
        dev := (d.opOutcome { code := Code.resource }).portEnd portTblg Code.resource }) ∧
  (∀ (s : State) (o : PortOp) (d : Dev),
      s.dev.portRunning portTblg 2 = some o →
      s.dev.imageGood o = true →
      (s.dev.findKey (opTable o) (s.dev.opKey o)).1 = none →
      (s.dev.findKey (opTable o) (s.dev.opKey o)).2.2 = d →
      (tdKind (d.td (opTable o)) ≠ 0 ∧ prefixLimit (tdKind (d.td (opTable o))) ≤ d.prefixes (tdKind (d.td (opTable o)))) ∨
      (!eOwnerMgr (opImage o) ∧ d.quotaReached (eOwner (opImage o))) →
      exec (.insertNoevict) s = .next { s with
        dev := (d.opOutcome { code := Code.resource }).portEnd portTblg Code.resource }) ∧
  (∀ (s : State) (o : PortOp),
      s.dev.portRunning portTblg 1 = some o →
      s.dev.imageGood o = false →
      exec (.insert) s = .next { s with
        dev := (s.dev.opOutcome { code := Code.malformed }).portEnd portTblg Code.malformed }) ∧
  (∀ (s : State) (o : PortOp),
      s.dev.portRunning portTblg 2 = some o →
      s.dev.imageGood o = false →
      exec (.insertNoevict) s = .next { s with
        dev := (s.dev.opOutcome { code := Code.malformed }).portEnd portTblg Code.malformed }) ∧
  (∀ (s : State) (o : PortOp),
      s.dev.portRunning portTblg 3 = some o →
      s.dev.imageGood o = false →
      exec (.delete) s = .next { s with
        dev := (s.dev.opOutcome { code := Code.malformed }).portEnd portTblg Code.malformed }) ∧
  (∀ (s : State) (o : PortOp),
      s.dev.portRunning portTblg 4 = some o →
      s.dev.imageGood o = false →
      exec (.lookup) s = .next { s with
        dev := (s.dev.opOutcome { code := Code.malformed }).portEnd portTblg Code.malformed }) ∧
  (∀ (s : State) (o : PortOp) (c : Cand),
      s.dev.portRunning portTblg 3 = some o →
      s.dev.imageGood o = true →
      (s.dev.findKey (opTable o) (s.dev.opKey o)).1 = some c →
      exec (.delete) s = .next { s with
        dev := (((s.dev.findKey (opTable o) (s.dev.opKey o)).2.2.clearEntry c).opOutcome { code := Code.ok, found := true, slot := c.slot }).portEnd portTblg Code.ok }) ∧
  (∀ (s : State) (o : PortOp),
      s.dev.portRunning portTblg 3 = some o →
      s.dev.imageGood o = true →
      (s.dev.findKey (opTable o) (s.dev.opKey o)).1 = none →
      exec (.delete) s = .next { s with
        dev := ((s.dev.findKey (opTable o) (s.dev.opKey o)).2.2.opOutcome { code := Code.ok, slot := s.dev.fget Page.tblg Reg.TBLG_OP_SLOT_SLOT }).portEnd portTblg Code.ok }) ∧
  (∀ (s : State) (o : PortOp) (c : Cand),
      s.dev.portRunning portTblg 4 = some o →
      s.dev.imageGood o = true →
      (s.dev.probeKey (opTable o) (s.dev.opKey o)).1 = some c →
      exec (.lookup) s = .next { s with
        dev := (((s.dev.probeKey (opTable o) (s.dev.opKey o)).2.2.tblgResult (s.dev.slotWords c.slot)).opOutcome { code := Code.ok, found := true, ovf := c.way.isSome, slot := c.slot }).portEnd
            portTblg Code.ok }) ∧
  (∀ (s : State) (o : PortOp),
      s.dev.portRunning portTblg 5 = some o →
      tdEn (s.dev.td (opTable o)) = true →
      tdBase (s.dev.td (opTable o)) * 2 ^ 14 ≤ bits (nth (opImage o) 0) 0 29 →
      bits (nth (opImage o) 0) 0 29 < tdBase (s.dev.td (opTable o)) * 2 ^ 14 + 4 * 2 ^ tdLog2 (s.dev.td (opTable o)) →
      exec (.clearSlot) s = .next { s with
        dev := ((s.dev.clearEntry { slot := bits (nth (opImage o) 0) 0 29 }).opOutcome
            { code := Code.ok, slot := bits (nth (opImage o) 0) 0 29 }).portEnd portTblg Code.ok }) ∧
  (∀ (s : State) (o : PortOp),
      s.dev.portRunning portTblg 6 = some o →
      s.dev.rebuild = none →
      tdEn (s.dev.td (opTable o)) = true →
      tdKind (s.dev.td (opTable o)) ≠ 0 →
      opArg o ≤ tdMaxLen (s.dev.td (opTable o)) →
      9 ≤ bits (nth (opImage o) 0) 17 5 →
      bits (nth (opImage o) 0) 17 5 ≤ 24 →
      bits (nth (opImage o) 0) 0 17 * 512 + 2 ^ bits (nth (opImage o) 0) 17 5 ≤ 67108864 →
      exec (.bloomRebuild) s = .next { s with
        dev := { s.dev with
            rebuild := some (opTable o, opArg o, bits (nth (opImage o) 0) 0 17, bits (nth (opImage o) 0) 17 5) } }) ∧
  (∀ (s : State) (t len base log2 : Nat) (d : Dev),
      s.dev.rebuild = some (t, len, base, log2) →
      s.dev.fget Page.tblg Reg.TBLG_SWEEP_RATE_RATE ≠ 0 →
      (s.dev.entriesOf t).foldl (fun (d : Dev) k => if bits (nth (d.slotWords k) 0) 0 8 = len then
      d.bloomSet (s.dev.td t) ((eKey (d.slotWords k)).take (tdKeyBytes (s.dev.td t))) base log2 else d) s.dev = d →
      exec (.bloomRebuildEnd) s = .next { s with
        dev := (({ (d.wset Page.tblg (lenIndex t len) (setBits (setBits (d.ld t len) 0 17 base) 17 5 log2)) with
            rebuild := none } : Dev).opOutcome { code := Code.ok, slot := s.dev.fget Page.tblg Reg.TBLG_OP_SLOT_SLOT }).portEnd portTblg Code.ok })

/-- Learning, ageing and notification of the tables. Completion: for each of these constructors a clause concludes that exec
answers a next state, under conditions on the state and the operands alone: learnExecute, epochAdvance, sweepBucketVisit,
compareAndClear, notificationRecordWrite, nrConsWrite. -/
def Obligations.TableUpkeepCommands : Prop :=
  (∀ (s : State) (l : Learn) (rest : List Learn) (d : Dev),
      s.dev.learnQ = l :: rest →
      ({ s.dev with learnQ := rest } : Dev).fset Page.tblg Reg.TBLG_LEARN_DEPTH_DEPTH rest.length = d →
      d.learnable l.table = false →
      exec (.learnExecute) s = .next { s with
        dev := (d.count Page.tblg Reg.TBL_LEARN_DROP_CNT).pulse 196 }) ∧
  (∀ (s : State) (l : Learn) (rest : List Learn) (d d1 : Dev),
      s.dev.learnQ = l :: rest →
      ({ s.dev with learnQ := rest } : Dev).fset Page.tblg Reg.TBLG_LEARN_DEPTH_DEPTH rest.length = d →
      d.learnable l.table = true →
      (d.findKey l.table l.key).1 = none →
      (d.findKey l.table l.key).2.2 = d1 →
      d1.stampQuota l.stamp = false →
      d1.noteQ.length < 255 →
      (d1.insertNew l.table (learnImage l) l.key false true).1.code = Code.ok →
      exec (.learnExecute) s = .next { s with
        dev := let i := d1.insertNew l.table (learnImage l) l.key false true
          let d3 := i.2.count Page.tblg Reg.TBL_LEARN_CNT_CNT
          if tdLearnNotify (d.td l.table) then
            d3.notify Note.learned l.table i.1.slot (List.replicate 14 0 ++ [d3.epoch * 2 ^ 24,
              setBits (setBits 0 0 16 (eGen (d3.slotWords i.1.slot) + 65535)) 31 1 1]) (learnImage l) (noteOwner (learnImage l))
          else d3 }) ∧
  (∀ (s : State),
      s.dev.fget Page.tblg Reg.TBLG_AGE_TICK_MS ≠ 0 →
      s.dev.sweep = none →
      exec (.epochAdvance) s = .next { s with
        dev := let d := s.dev.count Page.tblg Reg.TBLG_EPOCH_EPOCH
          d.setSweep (d.sweepTable 0) }) ∧
  (∀ (s : State) (p : SweepAt),
      s.dev.fget Page.tblg Reg.TBLG_AGE_TICK_MS ≠ 0 →
      s.dev.sweep = some p →
      exec (.epochAdvance) s = .next { s with
        dev := (((({ (s.dev.count Page.tblg Reg.TBLG_EPOCH_EPOCH) with sweepAgain := true } : Dev).count Page.tblg
            Reg.TBL_SWEEP_LATE_CNT).latchFault Page.tblg FaultBit.tblg_SWEEP_LATE).pulse 200) }) ∧
  (∀ (s : State) (t i : Nat) (d : Dev),
      s.dev.sweep = some (.bucket t i) →
      s.dev.fget Page.tblg Reg.TBLG_SWEEP_RATE_RATE ≠ 0 →
      s.dev.noteRoom = true →
      ({ s.dev with clearQ := s.dev.clearQ ++ (bucketSlots (s.dev.td t) i).flatMap (fun k => s.dev.agedClears k none) } : Dev).setSweep
      (s.dev.sweepNext (.bucket t i)) = d →
      exec (.sweepBucketVisit) s = .next { s with
        dev := if d.sweep.isNone ∧ d.sweepAgain then ({ d with sweepAgain := false } : Dev).setSweep (d.sweepTable 0) else d }) ∧
  (∀ (s : State) (c : AgedClear) (rest : List AgedClear) (d : Dev),
      s.dev.clearQ = c :: rest →
      s.dev.noteRoom = true →
      { s.dev with clearQ := rest } = d →
      d.slotBad c.slot = false →
      eValid (s.dev.slotWords c.slot) = true →
      eAge (s.dev.slotWords c.slot) = c.age →
      eGen (s.dev.slotWords c.slot) = c.gen →
      eTable (s.dev.slotWords c.slot) = c.table →
      exec (.compareAndClear) s = .next { s with
        dev := ((if tdAgeNotify (s.dev.td c.table) then d.notify Note.aged c.table c.slot (s.dev.slotWords c.slot) (s.dev.slotWords c.slot)
            (noteOwner (s.dev.slotWords c.slot)) else d).clearEntry { slot := c.slot, way := c.way }).count Page.tblg Reg.TBL_AGE_DEL_CNT_CNT }) ∧
  (∀ (s : State) (c : AgedClear) (rest : List AgedClear) (d : Dev),
      s.dev.clearQ = c :: rest →
      s.dev.noteRoom = true →
      { s.dev with clearQ := rest } = d →
      eGen (s.dev.slotWords c.slot) ≠ c.gen →
      exec (.compareAndClear) s = .next { s with
        dev := (d.count (Page.tbl (d.bankOfSlot c.table c.slot)) Reg.TBL_AGE_RACE_CNT).wcount Page.tblg 3 }) ∧
  (∀ (s : State) (words : List Nat) (rest : List (List Nat)) (n : Nat),
      s.dev.noteQ = words :: rest →
      2 ^ s.dev.fget Page.tblg Reg.TBLG_NR_CTL_SIZE_LOG2 = n →
      s.dev.fbit Page.tblg Reg.TBLG_NR_CTL_ENABLE = true →
      (s.dev.fget Page.tblg Reg.TBLG_NR_PROD_PROD + 2 ^ 32 - s.dev.fget Page.tblg Reg.TBLG_NR_CONS_CONS) % 2 ^ 32 < n →
      s.dev.hostReady 0 = true →
      exec (.notificationRecordWrite) s = .next { s with
        dev := (((({ s.dev with noteQ := rest } : Dev).fset Page.tblg Reg.TBLG_NR_BACKLOG_DEPTH rest.length).hwrite 0
            (s.dev.wget Page.tblg 0x10 % 2 ^ 64 + s.dev.fget Page.tblg Reg.TBLG_NR_PROD_PROD % n * 64)
            (((nth words 0 + (if s.dev.fget Page.tblg Reg.TBLG_NR_PROD_PROD / n % 2 = 0 then 2 ^ 31 else 0)) :: words.drop 1).flatMap (toLe 4))
            {}).count Page.tblg Reg.TBLG_NR_PROD_PROD).pulse 198 }) ∧
  (∀ (s : State) (req : Requester) (v : Word),
      s.dev.unreachable (Page.tblg + 0x124) = none →
      s.dev.asleep req = false →
      exec (.nrConsWrite req v) s = .next { s with
        dev := if (s.dev.fget Page.tblg Reg.TBLG_NR_PROD_PROD + 2 ^ 32 - v.toNat) % 2 ^ 32 ≤
              2 ^ s.dev.fget Page.tblg Reg.TBLG_NR_CTL_SIZE_LOG2 then s.dev.fset Page.tblg Reg.TBLG_NR_CONS_CONS v.toNat
            else s.dev.accessFault Page.tblg })

/-- The action engine: passes, meters and counter updates. Completion: for each of these constructors a clause concludes that
exec answers a next state, under conditions on the state and the operands alone: actionApply, templateReadAbandon,
meterUpdate, counterUpdate. -/
def Obligations.ActionCommands : Prop :=
  (∀ (s : State) (h : Nat),
      s.dev.actReady h = true →
      s.dev.actsGood (ruleActs (s.dev.packet h).rule) = false →
      exec (.actionApply h) s = .next { s with
        dev := (((s.dev.latchFault Page.actg FaultBit.actg_ACT_MALFORMED).pulse 219).modPacket h (fun p => { p with
            actedAt := s.dev.now })).dropPacket h Drop.actMalformed }) ∧
  (∀ (s : State) (h : Nat) (d : Dev),
      s.dev.actReady h = true →
      s.dev.actsGood (ruleActs (s.dev.packet h).rule) = true →
      s.dev.applyPass h false = some d →
      exec (.actionApply h) s = .next { s with
        dev := d }) ∧
  (∀ (s : State) (h : Nat) (p : Packet) (acts : List Act) (d d1 : Dev),
      s.dev.actReady h = true →
      s.dev.packet h = p →
      ruleActs p.rule = acts →
      s.dev.actsGood acts = true →
      actCount acts Op.reheat = 0 →
      actCount acts Op.drop ≠ 0 →
      wordsOf acts [Op.mirror] = [] →
      ({ s.dev with counterQ := s.dev.counterQ ++ (s.dev.applied p.probes acts Op.count).map (fun e => (e.2, p.lenIn)) } : Dev).mark h
      (s.dev.marks p (wordsOf acts [Op.nop, Op.probe, Op.meter, Op.count])) = d →
      (((d.drawGlobal h).mark h (0, 0)).modPacket h (fun p => { p with mirrors := [] })).mark h (s.dev.marks p (wordsOf acts [Op.drop])) = d1 →
      exec (.actionApply h) s = .next { s with
        dev := d1.dropAt h Drop.rule (wordsOf acts [Op.learn, Op.decap, Op.tagPop, Op.set, Op.ttlDec, Op.segment, Op.tagPush,
            Op.encap, Op.cipher, Op.fwd, Op.reheat]) }) ∧
  (∀ (s : State) (h : Nat) (d : Dev),
      s.dev.actReady h = true →
      s.dev.applied (s.dev.packet h).probes (ruleActs (s.dev.packet h).rule) Op.encap ≠ [] →
      (s.dev.applied (s.dev.packet h).probes (ruleActs (s.dev.packet h).rule) Op.mirror).any (fun e => ssEn (s.dev.session (bits e.2 0 8)) &&
      ssCopy (s.dev.session (bits e.2 0 8)) && ssEncap (s.dev.session (bits e.2 0 8))) = false →
      s.dev.applyPass h true = some d →
      exec (.templateReadAbandon h) s = .next { s with
        dev := d }) ∧
  (∀ (s : State) (h x : Nat) (a : Act) (ws : List Nat),
      s.dev.actStarted (s.dev.packet h) = true →
      s.dev.actsGood (ruleActs (s.dev.packet h).rule) = true →
      (s.dev.passMeters (s.dev.packet h))[(s.dev.packet h).colours.length]? = some (a, x) →
      (s.dev.gwords (s.dev.meterAddr (bits x 0 20)) 16).map (·.toNat) = ws →
      s.dev.lineUncorrectable (s.dev.meterAddr (bits x 0 20)) = false →
      bitAt (nth ws 15) 31 = true →
      meterParityGood ws = true →
      exec (.meterUpdate h) s = .next { s with
        dev := let r := Machine.meterUpdate ws s.dev.ptp32 (s.dev.packet h).lenIn (s.dev.passColour (s.dev.packet h)) (bitAt x 20)
          (s.dev.gsetWords (s.dev.meterAddr (bits x 0 20)) r.2).modPacket h (fun p => { p with
            colours := p.colours ++ [r.1], redDrop := p.redDrop || (r.1 == red && bitAt (nth ws 15) 1) }) }) ∧
  (∀ (s : State) (h x : Nat) (a : Act),
      s.dev.actStarted (s.dev.packet h) = true →
      s.dev.actsGood (ruleActs (s.dev.packet h).rule) = true →
      (s.dev.passMeters (s.dev.packet h))[(s.dev.packet h).colours.length]? = some (a, x) →
      s.dev.lineUncorrectable (s.dev.meterAddr (bits x 0 20)) = false →
      bitAt (nth ((s.dev.gwords (s.dev.meterAddr (bits x 0 20)) 16).map (·.toNat)) 15) 31 = false →
      exec (.meterUpdate h) s = .next { s with
        dev := s.dev.modPacket h (fun p => { p with colours := p.colours ++ [s.dev.passColour (s.dev.packet h)] }) }) ∧
  (∀ (s : State) (lane c n : Nat),
      s.dev.counterQ.find? (fun e => e.1 % 16 == lane) = some (c, n) →
      s.dev.lineUncorrectable (s.dev.counterAddr c) = false →
      exec (.counterUpdate lane) s = .next { s with
        dev := let d := { s.dev with counterQ := s.dev.counterQ.erase (c, n) }
          (d.gsetNum (s.dev.counterAddr c) 8 (s.dev.gnum (s.dev.counterAddr c) 8 + 1)).gsetNum (s.dev.counterAddr c + 8) 8
            (s.dev.gnum (s.dev.counterAddr c + 8) 8 + n) })

/-- Counters, meters and the trace ring. Completion: for each of these constructors a clause concludes that exec answers a
next state, under conditions on the state and the operands alone: cntRead, cntReadClear, cntPreset, meterWrite, meterRead,
meterDisable, traceRecordWrite, traceConsWrite. -/
def Obligations.ActionPortCommands : Prop :=
  (∀ (s : State) (o : PortOp),
      s.dev.portRunning portActg 1 = some o →
      exec (.cntRead) s = .next { s with
        dev := (s.dev.actgResult (s.dev.counterWords (bits o.word 0 21))).portEnd portActg Code.ok }) ∧
  (∀ (s : State) (o : PortOp),
      s.dev.portRunning portActg 2 = some o →
      exec (.cntReadClear) s = .next { s with
        dev := ((s.dev.actgResult (s.dev.counterWords (bits o.word 0 21))).gsetWords (s.dev.counterAddr (bits o.word 0 21)) [0, 0, 0, 0]).portEnd portActg Code.ok }) ∧
  (∀ (s : State) (o : PortOp),
      s.dev.portRunning portActg 3 = some o →
      exec (.cntPreset) s = .next { s with
        dev := (s.dev.gsetWords (s.dev.counterAddr (bits o.word 0 21)) ((List.range 4).map (wordAt o.buf))).portEnd portActg Code.ok }) ∧
  (∀ (s : State) (o : PortOp),
      s.dev.portRunning portActg 4 = some o →
      meterImageGood o = true →
      exec (.meterWrite) s = .next { s with
        dev := (s.dev.gsetWords (s.dev.meterAddr (bits o.word 0 21)) ((List.range 4).map (wordAt o.buf) ++
              [16 * wordAt o.buf 2, 16 * wordAt o.buf 3, s.dev.ptp32 % 1000000000, s.dev.ptp32 / 1000000000] ++ List.replicate 7 0 ++
              [meterWord15 ((List.range 4).map (wordAt o.buf)) (wordAt o.buf 15)])).portEnd portActg Code.ok }) ∧
  (∀ (s : State) (o : PortOp),
      s.dev.portRunning portActg 5 = some o →
      bits o.word 0 21 < 2 ^ 20 →
      exec (.meterRead) s = .next { s with
        dev := (s.dev.actgResult ((s.dev.gwords (s.dev.meterAddr (bits o.word 0 21)) 16).map (·.toNat))).portEnd portActg Code.ok }) ∧
  (∀ (s : State) (o : PortOp),
      s.dev.portRunning portActg 6 = some o →
      bits o.word 0 21 < 2 ^ 20 →
      exec (.meterDisable) s = .next { s with
        dev := let ws := (s.dev.gwords (s.dev.meterAddr (bits o.word 0 21)) 16).map (·.toNat)
          (s.dev.gsetWord (s.dev.meterAddr (bits o.word 0 21) + 60) (meterWord15 ws (setBits (nth ws 15) 31 1 0))).portEnd portActg Code.ok }) ∧
  (∀ (s : State) (o : PortOp),
      s.dev.portRunning portActg 4 = some o →
      meterImageGood o = false →
      exec (.meterWrite) s = .next { s with
        dev := s.dev.portEnd portActg Code.malformed }) ∧
  (∀ (s : State) (o : PortOp),
      s.dev.portRunning portActg 5 = some o →
      2 ^ 20 ≤ bits o.word 0 21 →
      exec (.meterRead) s = .next { s with
        dev := s.dev.portEnd portActg Code.malformed }) ∧
  (∀ (s : State) (o : PortOp),
      s.dev.portRunning portActg 6 = some o →
      2 ^ 20 ≤ bits o.word 0 21 →
      exec (.meterDisable) s = .next { s with
        dev := s.dev.portEnd portActg Code.malformed }) ∧
  (∀ (s : State) (words : List Nat) (rest : List (List Nat)),
      s.dev.traceQ = words :: rest →
      s.dev.fbit Page.actg Reg.ACTG_TRACE_CTL_ENABLE = true →
      (s.dev.fget Page.actg Reg.ACTG_TRACE_PROD_PROD + 2 ^ 32 - s.dev.fget Page.actg Reg.ACTG_TRACE_CONS_CONS) % 2 ^ 32 ≠ s.dev.traceSize →
      s.dev.hostReady 0 = true →
      exec (.traceRecordWrite) s = .next { s with
        dev := ((({ s.dev with traceQ := rest } : Dev).hwrite 0
            (s.dev.wget Page.actg 0x10 + s.dev.fget Page.actg Reg.ACTG_TRACE_PROD_PROD % s.dev.traceSize * 192)
            (((nth words 0 + (if s.dev.fget Page.actg Reg.ACTG_TRACE_PROD_PROD / s.dev.traceSize % 2 = 0 then 2 ^ 31 else 0)) ::
              words.drop 1).flatMap (toLe 4)) {}).fset Page.actg Reg.ACTG_TRACE_PROD_PROD
            (s.dev.fget Page.actg Reg.ACTG_TRACE_PROD_PROD + 1)).pulse 212 }) ∧
  (∀ (s : State) (req : Requester) (v : Word),
      s.dev.unreachable (Page.actg + Reg.ACTG_TRACE_CONS_CONS.off) = none →
      s.dev.asleep req = false →
      exec (.traceConsWrite req v) s = .next { s with
        dev := if (s.dev.fget Page.actg Reg.ACTG_TRACE_PROD_PROD + 2 ^ 32 - v.toNat) % 2 ^ 32 ≤ s.dev.traceSize then
            s.dev.fset Page.actg Reg.ACTG_TRACE_CONS_CONS v.toNat else s.dev.accessFault Page.actg })

/-- Enqueueing of copies, port scheduling, host delivery and frame admission. Completion: for each of these constructors a
clause concludes that exec answers a next state, under conditions on the state and the operands alone: copyEnqueue,
portSchedule, hostDelivery, frameArrival. -/
def Obligations.SchedulerCommands : Prop :=
  (∀ (s : State) (n : Nat) (c : Copy),
      s.dev.copy n = some c →
      c.queued = false →
      s.dev.copyBehind n c = false →
      c.kind = 0 →
      c.target < 16 →
      c.withFcs ≤ 16128 →
      s.dev.accepts (Page.sch c.target) = true →
      s.dev.tcDepth c.target c.tc + c.cells ≤ colourLimit (s.dev.fget (Page.sch c.target) (schTc Reg.SCH_TC_GLIM_CELLS c.tc))
      (s.dev.fget (Page.sch c.target) Reg.SCH_COLOR_YFRAC) (s.dev.fget (Page.sch c.target) Reg.SCH_COLOR_RFRAC) c.colour →
      exec (.copyEnqueue n) s = .next { s with
        dev := ((((s.dev.setCopy n (some { c with queued := true })).setSched c.target ((s.dev.schedOf c.target).setTc c.tc {
            ((s.dev.schedOf c.target).tc c.tc) with fifo := ((s.dev.schedOf c.target).tc c.tc).fifo ++ [n] })).setTcDepth c.target c.tc
            (s.dev.tcDepth c.target c.tc + c.cells)).countTc c.target c.tc 0) }) ∧
  (∀ (s : State) (n : Nat) (c : Copy),
      s.dev.copy n = some c →
      c.queued = false →
      s.dev.copyBehind n c = false →
      c.kind = 0 →
      c.target < 16 →
      c.withFcs ≤ 16128 →
      s.dev.accepts (Page.sch c.target) = true →
      colourLimit (s.dev.fget (Page.sch c.target) (schTc Reg.SCH_TC_GLIM_CELLS c.tc))
      (s.dev.fget (Page.sch c.target) Reg.SCH_COLOR_YFRAC) (s.dev.fget (Page.sch c.target) Reg.SCH_COLOR_RFRAC) c.colour <
      s.dev.tcDepth c.target c.tc + c.cells →
      exec (.copyEnqueue n) s = .next { s with
        dev := (((s.dev.endCopy n (some Drop.qTail)).pulse 221).countTc c.target c.tc 2).latchFault (Page.sch c.target)
            FaultBit.sch_TAIL_DROP }) ∧
  (∀ (s : State) (m t n : Nat) (rest : List Nat) (d : Dev),
      m < 16 →
      s.dev.refillPort m = d →
      d.portDown m = true →
      d.mayTransmit m = true →
      d.fullTc m = some t →
      ((d.schedOf m).tc t).fifo = n :: rest →
      exec (.portSchedule m) s = .next { s with
        dev := (d.popTc m t).dropAtPort n m t Drop.destDown }) ∧
  (∀ (s : State) (m t n : Nat) (rest : List Nat) (d : Dev) (c : Copy),
      m < 16 →
      s.dev.refillPort m = d →
      d.portDown m = false →
      (d.macOf m).slot = none →
      (d.selectTc m).1 = some t →
      (((d.setSched m (d.selectTc m).2).schedOf m).tc t).fifo = n :: rest →
      ((d.setSched m (d.selectTc m).2).popTc m t).copy n = some c →
      ((d.setSched m (d.selectTc m).2).popTc m t).handleGood c.packet c.gen = true →
      exec (.portSchedule m) s = .next { s with
        dev := (((d.setSched m (d.selectTc m).2).popTc m t).chargePort m t c.wireLen).setMac m {
            ((d.setSched m (d.selectTc m).2).popTc m t).macOf m with slot := some n } }) ∧
  (∀ (s : State) (q n : Nat) (rest : List Nat) (d : Dev),
      s.dev.refillHost = d →
      (d.host.queues.map (·.1)).find? d.queueGone = some q →
      d.hostFifo q = n :: rest →
      exec (.hostDelivery) s = .next { s with
        dev := (d.popHost q).dropCopy n Drop.destDown }) ∧
  (∀ (s : State) (q : Nat) (rest : List Nat) (d : Dev),
      s.dev.refillHost = d →
      (d.host.queues.map (·.1)).find? d.queueGone = none →
      d.accepts Page.schh = true →
      ((d.host.queues.map (·.1)).filter d.queueReady).filter d.qManager = q :: rest →
      d.host.mgrUsed = 0 →
      exec (.hostDelivery) s = .next { s with
        dev := let used := if d.fget Page.schh Reg.SCHH_MGR_RATE_KBPS = 0 then 0 else d.hostHead q * 8000000
          ({ d with host := { d.host with mgrUsed := used } } : Dev).serveHost q }) ∧
  (∀ (s : State) (m : Nat) (head : List Byte) (d : Dev),
      m < 16 →
      (s.dev.macOf m).rxBusy = false →
      isControl head = false →
      s.dev.receives m false = true →
      s.dev.setMac m { s.dev.macOf m with
      rxBusy := true, rx := none, rxTime := s.dev.stampTime (s.dev.fget (Page.mac m) Reg.MAC_TS_RX_ADJ_ADJ),
      rxTag := s.dev.pvidTag m } = d →
      exec (.frameArrival m head) s = .next { s with
        dev := let r := d.admitFrame m (s.dev.priorityOf m (taggedFrame (s.dev.pvidTag m) head)) (s.dev.stampTime (s.dev.fget (Page.mac m)
            Reg.MAC_TS_RX_ADJ_ADJ))
          r.2.setMac m { r.2.macOf m with rx := r.1 } })

/-- Secure transports: prechecks, postchecks and the SA table. Completion: for each of these constructors a clause concludes
that exec answers a next state, under conditions on the state and the operands alone: sxpPrecheck, sxpPostcheck,
rollComplete, limitFifoPop, sxpWrite, sxpRead, sxpDisable, sxpRoll. -/
def Obligations.SecureTransportCommands : Prop :=
  (∀ (s : State) (lane ses kind sa : Nat) (r : SxpReq) (d : Dev),
      s.dev.sxp.queue.find? (s.dev.laneTakes lane) = some r →
      s.dev.accepts Page.sxp = true →
      r.src = .record ses kind →
      (s.dev.reqServing r).1 = sa →
      s.dev.setSxp { s.dev.sxp with queue := s.dev.sxp.queue.erase r } = d →
      d.saBad sa = false →
      d.saValid sa = false →
      exec (.sxpPrecheck lane) s = .next { s with
        dev := ((d.saSet sa (Sa.add (d.saWords sa) 21 1)).sxpDiscard 1).recordEnd ⟨ses, kind, sa, some 1, [], 0⟩ }) ∧
  (∀ (s : State) (lane ses kind sa : Nat) (r : SxpReq) (d : Dev) (w : List Nat) (l : Located),
      s.dev.sxp.queue.find? (s.dev.laneTakes lane) = some r →
      s.dev.accepts Page.sxp = true →
      r.src = .record ses kind →
      (s.dev.reqServing r).1 = sa →
      s.dev.setSxp { s.dev.sxp with queue := s.dev.sxp.queue.erase r } = d →
      d.saBad sa = false →
      d.saReason r sa = none →
      d.saWords sa = w →
      Sa.proto w = 2 →
      Sa.dir w = 0 →
      Sa.seq w < Sa.soft w →
      Sa.seq w ≤ Sa.hard w →
      Sa.hardHit w = false →
      tlsLocated w r.bytes (Sa.seq w) = some l →
      l.aad.length ≤ 65535 →
      l.data.length < 2 ^ 24 →
      exec (.sxpPrecheck lane) s = .next { s with
        dev := (d.sxpSubmit r sa (Sa.seq w) l).autoRoll sa w }) ∧
  (∀ (s : State) (lane ses kind tag code n : Nat) (out : List Byte) (j : SxpJob) (d e : Dev),
      s.dev.doneOf lane = some (tag, code, out) →
      s.dev.sxpJob tag = some j →
      j.src = .record ses kind →
      codeReason code = some n →
      s.dev.setSxp { s.dev.sxp with done := s.dev.sxp.done.erase (tag, code, out), jobs := Sparse.set (blank none) s.dev.sxp.jobs tag none } = d →
      d.saBad j.sa = false →
      d.saSet j.sa (Sa.setInflight (d.saWords j.sa) (Sa.inflight (d.saWords j.sa) - 1)) = e →
      e.saBad j.sa = false →
      exec (.sxpPostcheck lane) s = .next { s with
        dev := 
          ((e.saSet j.sa (Sa.add (e.saWords j.sa) 21 1)).sxpDiscard n).recordEnd ⟨ses, kind, j.sa, some n, [], 0⟩ }) ∧
  (∀ (s : State) (lane ses kind tag : Nat) (out : List Byte) (j : SxpJob) (d e : Dev),
      s.dev.doneOf lane = some (tag, Code.ok, out) →
      s.dev.sxpJob tag = some j →
      j.src = .record ses kind →
      Sa.dir j.words = 0 →
      Sa.proto j.words = 2 →
      s.dev.setSxp { s.dev.sxp with done := s.dev.sxp.done.erase (tag, Code.ok, out), jobs := Sparse.set (blank none) s.dev.sxp.jobs tag none } = d →
      d.saBad j.sa = false →
      d.saSet j.sa (Sa.setInflight (d.saWords j.sa) (Sa.inflight (d.saWords j.sa) - 1)) = e →
      e.saBad j.sa = false →
      Sa.mapped (e.saWords j.sa) = false →
      exec (.sxpPostcheck lane) s = .next { s with
        dev := 
          (e.sxpCount j).recordEnd
            ⟨ses, kind, j.sa, none, j.front ++ out.drop 5, 0⟩ }) ∧
  (∀ (s : State) (sa : Nat),
      s.dev.sxp.rolling.contains sa = true →
      Sa.inflight (s.dev.saWords sa) = 0 →
      exec (.rollComplete sa) s = .next { s with
        dev := (s.dev.setSxp { s.dev.sxp with rolling := s.dev.sxp.rolling.filter (· != sa) }).pulse 315 }) ∧
  (∀ (s : State) (req : Requester) (hard : Bool) (sa : Nat) (rest : List (Bool × Nat)),
      s.dev.unreachable (Page.sxp + Reg.SXP_LIMIT_FIFO_VALID.off) = none →
      s.dev.sxp.limit = (hard, sa) :: rest →
      s.dev.asleep req = false →
      exec (.limitFifoPop req) s = .next { s with
        dev := (s.dev.setSxp { s.dev.sxp with limit := rest }).emit
            (.readData (BitVec.ofNat 32 (2 ^ 31 + b2n hard * 2 ^ 30 + sa))) }) ∧
  (∀ (s : State) (req : Requester),
      s.dev.unreachable (Page.sxp + Reg.SXP_LIMIT_FIFO_VALID.off) = none →
      s.dev.sxp.limit = [] →
      s.dev.asleep req = false →
      exec (.limitFifoPop req) s = .next { s with
        dev := s.dev.emit (.readData 0#32) }) ∧
  (∀ (s : State) (o : PortOp),
      s.dev.portRunning portSxp 1 = some o →
      exec (.sxpWrite) s = .next { s with
        dev := (s.dev.saWrite (o.req == .welbor) (bits o.word 0 20) ((List.range 32).map (wordAt o.buf))).2.portEnd portSxp
            (s.dev.saWrite (o.req == .welbor) (bits o.word 0 20) ((List.range 32).map (wordAt o.buf))).1 }) ∧
  (∀ (s : State) (o : PortOp),
      s.dev.portRunning portSxp 2 = some o →
      exec (.sxpRead) s = .next { s with
        dev := ((s.dev.saRead (bits o.word 0 20)).zipIdx.foldl (fun (d : Dev) e =>
            d.fset Page.sxp (Reg.SXP_OPRES_DATA.nth 4 e.2) e.1) (s.dev.noteSa (bits o.word 0 20))).portEnd portSxp Code.ok }) ∧
  (∀ (s : State) (o : PortOp),
      s.dev.portRunning portSxp 3 = some o →
      exec (.sxpDisable) s = .next { s with
        dev := (s.dev.saDisable (bits o.word 0 20)).portEnd portSxp Code.ok }) ∧
  (∀ (s : State) (o : PortOp),
      s.dev.portRunning portSxp 4 = some o →
      (o.req == .welbor || Sa.mgr (s.dev.saWords (bits o.word 0 20))) = true →
      s.dev.mayRoll (bits o.word 0 20) = true →
      exec (.sxpRoll) s = .next { s with
        dev := (s.dev.rollSa (bits o.word 0 20)).resumeRecords.portEnd portSxp Code.ok }) ∧
  (∀ (s : State) (o : PortOp),
      s.dev.portRunning portSxp 4 = some o →
      (o.req == .welbor || Sa.mgr (s.dev.saWords (bits o.word 0 20))) = false →
      exec (.sxpRoll) s = .next { s with
        dev := (s.dev.noteSa (bits o.word 0 20)).resumeRecords.portEnd portSxp Code.access }) ∧
  (∀ (s : State) (o : PortOp),
      s.dev.portRunning portSxp 4 = some o →
      (o.req == .welbor || Sa.mgr (s.dev.saWords (bits o.word 0 20))) = true →
      s.dev.mayRoll (bits o.word 0 20) = false →
      exec (.sxpRoll) s = .next { s with
        dev := (s.dev.noteSa (bits o.word 0 20)).resumeRecords.portEnd portSxp Code.malformed })

/-- Cipher jobs: submission, blocks and their end. Completion: for each of these constructors a clause concludes that exec
answers a next state, under conditions on the state and the operands alone: lehrJobSubmit, lehrBlockIssue,
lehrBlockComplete, lehrJobEnd. -/
def Obligations.LehrJobCommands : Prop :=
  (∀ (s : State) (j : LehrJob) (rest : List LehrJob) (d : Dev),
      s.dev.lehr.submits = j :: rest →
      s.dev.jobDepth < 16384 →
      s.dev.accepts Page.lehg = true →
      s.dev.setLehr { s.dev.lehr with submits := rest } = d →
      d.jobCode j = Code.ok →
      exec (.lehrJobSubmit) s = .next { s with
        dev := d.acceptJob j }) ∧
  (∀ (s : State) (j : LehrJob) (rest : List LehrJob) (d : Dev),
      s.dev.lehr.submits = j :: rest →
      s.dev.jobDepth < 16384 →
      s.dev.accepts Page.lehg = true →
      s.dev.setLehr { s.dev.lehr with submits := rest } = d →
      d.jobCode j = Code.malformed →
      exec (.lehrJobSubmit) s = .next { s with
        dev := (d.countJob Code.malformed).deliverJob j Code.malformed [] }) ∧
  (∀ (s : State) (n i unit : Nat) (j : LehrJob) (g : JobSeg) (d : Dev),
      s.dev.job n = some j →
      j.verdict = none →
      s.dev.journalReached j.journal = true →
      s.dev.accepts Page.lehg = true →
      j.segs ≠ [] →
      j.segs[i]? = some g →
      s.dev.setJob n (some j) = d →
      d.unitOf puntyLeh g.cluster = unit →
      d.segReady n i j g = true →
      d.lehReady g.cluster = true →
      d.unitStalled unit = false →
      d.reseedDue unit = false →
      (d.fetchKey unit n j).1 = true →
      exec (.lehrBlockIssue n i) s = .next { s with
        dev := (d.fetchKey unit n j).2.startBlock unit n i j g }) ∧
  (∀ (s : State) (unit c : Nat) (w : CellWork) (agree : Bool) (d : Dev),
      s.dev.cell (cellKey unit c) = some w →
      w.second = false →
      w.partner = none →
      (((s.dev.setCell (cellKey unit c) none).count ((s.dev.setCell (cellKey unit c) none).lehPage unit) Reg.LEH_BLOCK_CNT_CNT).wcount Page.lehg 1).modSeg
      w.job w.seg (fun g => { g with done := g.done + 1 }) = d →
      exec (.lehrBlockComplete unit c agree) s = .next { s with
        dev := match s.dev.job w.job with
          | none => d
          | some j => d.setTrace (cellKey unit c) (d.cellTrace (cellKey unit c) ++ [j.ref w.job]) }) ∧
  (∀ (s : State) (unit c k2 : Nat) (w : CellWork) (d : Dev),
      s.dev.cell (cellKey unit c) = some w →
      w.second = false →
      w.partner = some k2 →
      w.repeated = false →
      ((s.dev.setCell (cellKey unit c) none).setCell k2 none).count (s.dev.lehPage unit) Reg.LEH_CHECK_CNT_CNT = d →
      exec (.lehrBlockComplete unit c true) s = .next { s with
        dev := ((d.setTrace (cellKey unit c) []).setTrace k2 []).blockDone unit w.job w.seg } ∧
      exec (.lehrBlockComplete unit c false) s = .next { s with
        dev := ((d.mismatch unit).setLehr { d.lehr with tests := d.lehr.tests ++ [([cellKey unit c, k2], true)] }).modSeg
            w.job w.seg (fun g => { g with again := g.again + 1, avoid := g.avoid ++ [(cellKey unit c, k2)] }) }) ∧
  (∀ (s : State) (n code : Nat) (out : List Byte) (j : LehrJob) (d : Dev),
      s.dev.takeEnded n none = (some (j, code, out), d) →
      exec (.lehrJobEnd n none) s = .next { s with
        dev := d.deliverJob j code out }) ∧
  (∀ (s : State) (n : Nat) (j : LehrJob),
      s.dev.job n = some j →
      j.complete = false →
      exec (.lehrJobEnd n none) s = .next { s with
        dev := s.dev })

/-- Tests, randomness, unwraps and the key store. Completion: for each of these constructors a clause concludes that exec
answers a next state, under conditions on the state and the operands alone: knownAnswerTest, drbgReseed, keyUnwrap,
slotZeroise, install, retire, query. -/
def Obligations.LehrUpkeepAndKeyCommands : Prop :=
  (∀ (s : State) (unit c : Nat),
      unit ≤ 64 →
      c ≤ 128 →
      s.dev.cell (cellKey unit c) = none →
      s.dev.lehr.fenced.contains (cellKey unit c) = false →
      exec (.knownAnswerTest unit c true) s = .next { s with
        dev := ((s.dev.count (s.dev.lehPage unit) Reg.LEH_KAT_CNT_CNT).pairTested (cellKey unit c) true).cleanTrace (cellKey unit c) }) ∧
  (∀ (s : State) (unit c : Nat) (d : Dev),
      unit ≤ 64 →
      c < 128 →
      s.dev.cell (cellKey unit c) = none →
      s.dev.lehr.fenced.contains (cellKey unit c) = false →
      (s.dev.count (s.dev.lehPage unit) Reg.LEH_KAT_CNT_CNT).pairTested (cellKey unit c) false = d →
      exec (.knownAnswerTest unit c false) s = .next { s with
        dev := ((d.latchFault (s.dev.lehPage unit) FaultBit.leh_KAT_FAIL).pulse 247).fenceCell (cellKey unit c) }) ∧
  (∀ (s : State) (unit gen : Nat),
      unit ≤ 64 →
      gen < 2 →
      exec (.drbgReseed unit gen true) s = .next { s with
        dev := s.dev.setLehr { s.dev.lehr with stalled := s.dev.lehr.stalled.filter (· != unit * 2 + gen), requests := Sparse.set (blank 0) s.dev.lehr.requests (unit * 2 + gen) 0 } }) ∧
  (∀ (s : State) (unit gen : Nat),
      unit ≤ 64 →
      gen < 2 →
      s.dev.unitStalled unit = false →
      s.dev.lehr.stalled.contains (unit * 2 + gen) = false →
      exec (.drbgReseed unit gen false) s = .next { s with
        dev := ((s.dev.setLehr { s.dev.lehr with stalled := s.dev.lehr.stalled ++ [unit * 2 + gen] }).latchFault Page.lehg
            FaultBit.lehg_DRBG_STALL).pulse 248 }) ∧
  (∀ (s : State) (l unit n : Nat) (j : LehrJob) (rest : List (Nat × Nat × Nat)) (d : Dev),
      s.dev.lehr.lanes = (l, unit, n) :: rest →
      (s.dev.setLehr { s.dev.lehr with lanes := rest }).nextLane l = d →
      d.job n = some j →
      (d.keySlot j.slot).wide = false →
      (d.keySlot j.slot).gen = j.gen →
      (d.keySlot j.slot).state ≠ 0 →
      exec (.keyUnwrap) s = .next { s with
        dev := match d.unwrap j.slot with
          | some key =>
            let k := keyWithPair key (d.keySlot j.slot) (d.keySlot (j.slot + 1)) j.slot []
            (d.setJob n (some { j with key := some k })).cachePut unit ⟨j.slot, j.gen, k⟩
          | none =>
            ((((d.zeroiseSlot j.slot).countSat Page.key Reg.KEY_UNWRAP_FAIL_CNT).latchFault Page.key
              FaultBit.key_UNWRAP_FAIL).pulse 308 |> (Dev.releaseCells · n)).setJob n (some { j with verdict := some Code.fault }) }) ∧
  (∀ (s : State) (l unit n : Nat) (j : LehrJob) (rest : List (Nat × Nat × Nat)) (d : Dev),
      s.dev.lehr.lanes = (l, unit, n) :: rest →
      (s.dev.setLehr { s.dev.lehr with lanes := rest }).nextLane l = d →
      d.job n = some j →
      (d.keySlot j.slot).gen ≠ j.gen →
      exec (.keyUnwrap) s = .next { s with
        dev := ((((d.countSat Page.key Reg.KEY_UNWRAP_FAIL_CNT).latchFault Page.key FaultBit.key_UNWRAP_FAIL).pulse 308).releaseCells
            n).setJob n (some { j with verdict := some Code.fault }) }) ∧
  (∀ (s : State) (k : Nat),
      (s.dev.keySlot k).state = 2 →
      (s.dev.keySlot k).inflight = 0 →
      (s.dev.keySlot k).pair = false →
      exec (.slotZeroise k) s = .next { s with
        dev := s.dev.zeroiseSlot k }) ∧
  (∀ (s : State) (o : PortOp),
      s.dev.portRunning portKey 1 = some o →
      o.req = .welbor →
      exec (.install) s = .next { s with
        dev := (s.dev.keyInstall (bits o.word 0 20) (bitAt o.word 20) (keyOpBad o.word true) (o.buf.take 4)
            (wordBytes ((o.buf.drop 4).take 16)) (wordBytes (o.buf.drop 20))).2.clearKbuf.portEnd portKey
            (s.dev.keyInstall (bits o.word 0 20) (bitAt o.word 20) (keyOpBad o.word true) (o.buf.take 4)
            (wordBytes ((o.buf.drop 4).take 16)) (wordBytes (o.buf.drop 20))).1 }) ∧
  (∀ (s : State) (o : PortOp),
      s.dev.portRunning portKey 1 = some o →
      o.req ≠ .welbor →
      exec (.install) s = .next { s with
        dev := s.dev.clearKbuf.portEnd portKey Code.access }) ∧
  (∀ (s : State) (o : PortOp),
      s.dev.portRunning portKey 2 = some o →
      mayRetire o.req (s.dev.keySlot (bits o.word 0 20)) = true →
      keyOpBad o.word false = false →
      (s.dev.keySlot (bits o.word 0 20)).state = 1 →
      (s.dev.keySlot (bits o.word 0 20 + 1)).pair = false →
      bits o.word 0 20 % 2 = 1 →
      exec (.retire) s = .next { s with
        dev := (s.dev.setKeySlot (bits o.word 0 20) { s.dev.keySlot (bits o.word 0 20) with
            state := 2 }).portEnd portKey Code.ok }) ∧
  (∀ (s : State) (o : PortOp),
      s.dev.portRunning portKey 2 = some o →
      mayRetire o.req (s.dev.keySlot (bits o.word 0 20)) = false →
      exec (.retire) s = .next { s with
        dev := (s.dev.slotRefused (s.dev.keySlot (bits o.word 0 20))).2.portEnd portKey Code.access }) ∧
  (∀ (s : State) (o : PortOp),
      s.dev.portRunning portKey 3 = some o →
      mayQuery o.req (s.dev.keySlot (bits o.word 0 20)) = true →
      keyOpBad o.word false = false →
      exec (.query) s = .next { s with
        dev := ((List.range 4).foldl (fun (d : Dev) i =>
            d.wr (Page.key + Reg.KEY_DESC_DATA.off + 4 * i) ((s.dev.keySlot (bits o.word 0 20)).desc.getD i 0#32)) s.dev).portEnd portKey Code.ok })

/-- Storage entries, their wire commands and time-outs. Completion: for each of these constructors a clause concludes that
exec answers a next state, under conditions on the state and the operands alone: read, write, flush, trim,
wireCommandIssue, c2hdataReceive, capsuleRespReceive, readyToTransferReceive, cmdTimeout, openWaitTimeout. -/
def Obligations.StorageEntryCommands : Prop :=
  (∀ (s : State) (q : Nat) (e : QueueEntry) (d : Dev),
      s.dev.nextStorage q = some e →
      e.opcode = 0x30 →
      s.dev.qType q = typeSto →
      s.dev.accepts Page.sto = true →
      (s.dev.queue q).state = .run ∨ (s.dev.queue q).state = .error →
      (s.dev.noteVol e.volume).latchWhen (s.dev.volValid e.volume && s.dev.sesBad (s.dev.volSession e.volume)) Page.sto FaultBit.sto_LINE_UE = d →
      s.dev.stoFormGood e = false →
      exec (.read q) s = .next { s with
        dev := d.endStorage q e.index Code.malformed 0 }) ∧
  (∀ (s : State) (q : Nat) (e : QueueEntry) (d : Dev),
      s.dev.nextStorage q = some e →
      e.opcode = 0x31 →
      s.dev.qType q = typeSto →
      s.dev.accepts Page.sto = true →
      (s.dev.queue q).state = .run ∨ (s.dev.queue q).state = .error →
      (s.dev.noteVol e.volume).latchWhen (s.dev.volValid e.volume && s.dev.sesBad (s.dev.volSession e.volume)) Page.sto FaultBit.sto_LINE_UE = d →
      s.dev.stoFormGood e = false →
      exec (.write q) s = .next { s with
        dev := d.endStorage q e.index Code.malformed 0 }) ∧
  (∀ (s : State) (q : Nat) (e : QueueEntry) (d : Dev),
      s.dev.nextStorage q = some e →
      e.opcode = 0x32 →
      s.dev.qType q = typeSto →
      s.dev.accepts Page.sto = true →
      (s.dev.queue q).state = .run ∨ (s.dev.queue q).state = .error →
      (s.dev.noteVol e.volume).latchWhen (s.dev.volValid e.volume && s.dev.sesBad (s.dev.volSession e.volume)) Page.sto FaultBit.sto_LINE_UE = d →
      s.dev.stoFormGood e = false →
      exec (.flush q) s = .next { s with
        dev := d.endStorage q e.index Code.malformed 0 }) ∧
  (∀ (s : State) (q : Nat) (e : QueueEntry) (d : Dev),
      s.dev.nextStorage q = some e →
      e.opcode = 0x33 →
      s.dev.qType q = typeSto →
      s.dev.accepts Page.sto = true →
      (s.dev.queue q).state = .run ∨ (s.dev.queue q).state = .error →
      (s.dev.noteVol e.volume).latchWhen (s.dev.volValid e.volume && s.dev.sesBad (s.dev.volSession e.volume)) Page.sto FaultBit.sto_LINE_UE = d →
      s.dev.stoFormGood e = false →
      exec (.trim q) s = .next { s with
        dev := d.endStorage q e.index Code.malformed 0 }) ∧
  (∀ (s : State) (q : Nat) (e : QueueEntry) (d : Dev),
      s.dev.nextStorage q = some e →
      e.opcode = 0x30 →
      s.dev.qType q = typeSto →
      s.dev.accepts Page.sto = true →
      (s.dev.queue q).state = .run ∨ (s.dev.queue q).state = .error →
      (s.dev.noteVol e.volume).latchWhen (s.dev.volValid e.volume && s.dev.sesBad (s.dev.volSession e.volume)) Page.sto FaultBit.sto_LINE_UE = d →
      s.dev.stoFormGood e = true →
      s.dev.stoAllowed q e = false →
      exec (.read q) s = .next { s with
        dev := d.endStorage q e.index Code.access 0 }) ∧
  (∀ (s : State) (q : Nat) (e : QueueEntry) (d : Dev),
      s.dev.nextStorage q = some e →
      e.opcode = 0x31 →
      s.dev.qType q = typeSto →
      s.dev.accepts Page.sto = true →
      (s.dev.queue q).state = .run ∨ (s.dev.queue q).state = .error →
      (s.dev.noteVol e.volume).latchWhen (s.dev.volValid e.volume && s.dev.sesBad (s.dev.volSession e.volume)) Page.sto FaultBit.sto_LINE_UE = d →
      s.dev.stoFormGood e = true →
      s.dev.stoAllowed q e = false →
      exec (.write q) s = .next { s with
        dev := d.endStorage q e.index Code.access 0 }) ∧
  (∀ (s : State) (q : Nat) (e : QueueEntry) (d : Dev),
      s.dev.nextStorage q = some e →
      e.opcode = 0x32 →
      s.dev.qType q = typeSto →
      s.dev.accepts Page.sto = true →
      (s.dev.queue q).state = .run ∨ (s.dev.queue q).state = .error →
      (s.dev.noteVol e.volume).latchWhen (s.dev.volValid e.volume && s.dev.sesBad (s.dev.volSession e.volume)) Page.sto FaultBit.sto_LINE_UE = d →
      s.dev.stoFormGood e = true →
      s.dev.stoAllowed q e = false →
      exec (.flush q) s = .next { s with
        dev := d.endStorage q e.index Code.access 0 }) ∧
  (∀ (s : State) (q : Nat) (e : QueueEntry) (d : Dev),
      s.dev.nextStorage q = some e →
      e.opcode = 0x33 →
      s.dev.qType q = typeSto →
      s.dev.accepts Page.sto = true →
      (s.dev.queue q).state = .run ∨ (s.dev.queue q).state = .error →
      (s.dev.noteVol e.volume).latchWhen (s.dev.volValid e.volume && s.dev.sesBad (s.dev.volSession e.volume)) Page.sto FaultBit.sto_LINE_UE = d →
      s.dev.stoFormGood e = true →
      s.dev.stoAllowed q e = false →
      exec (.trim q) s = .next { s with
        dev := d.endStorage q e.index Code.access 0 }) ∧
  (∀ (s : State) (q : Nat) (e : QueueEntry) (d : Dev),
      s.dev.nextStorage q = some e →
      e.opcode = 0x30 →
      s.dev.qType q = typeSto →
      s.dev.accepts Page.sto = true →
      (s.dev.queue q).state = .run ∨ (s.dev.queue q).state = .error →
      (s.dev.noteVol e.volume).latchWhen (s.dev.volValid e.volume && s.dev.sesBad (s.dev.volSession e.volume)) Page.sto FaultBit.sto_LINE_UE = d →
      s.dev.stoFormGood e = true →
      s.dev.stoAllowed q e = true →
      s.dev.sesState (s.dev.volSession e.volume) = Ses.draining ∨ s.dev.sesState (s.dev.volSession e.volume) = Ses.failed ∨ s.dev.sesState (s.dev.volSession e.volume) = Ses.closed →
      exec (.read q) s = .next { s with
        dev := d.endStorage q e.index Code.remote 0x02 }) ∧
  (∀ (s : State) (q : Nat) (e : QueueEntry) (d : Dev),
      s.dev.nextStorage q = some e →
      e.opcode = 0x31 →
      s.dev.qType q = typeSto →
      s.dev.accepts Page.sto = true →
      (s.dev.queue q).state = .run ∨ (s.dev.queue q).state = .error →
      (s.dev.noteVol e.volume).latchWhen (s.dev.volValid e.volume && s.dev.sesBad (s.dev.volSession e.volume)) Page.sto FaultBit.sto_LINE_UE = d →
      s.dev.stoFormGood e = true →
      s.dev.stoAllowed q e = true →
      s.dev.sesState (s.dev.volSession e.volume) = Ses.draining ∨ s.dev.sesState (s.dev.volSession e.volume) = Ses.failed ∨ s.dev.sesState (s.dev.volSession e.volume) = Ses.closed →
      exec (.write q) s = .next { s with
        dev := d.endStorage q e.index Code.remote 0x02 }) ∧
  (∀ (s : State) (q : Nat) (e : QueueEntry) (d : Dev),
      s.dev.nextStorage q = some e →
      e.opcode = 0x32 →
      s.dev.qType q = typeSto →
      s.dev.accepts Page.sto = true →
      (s.dev.queue q).state = .run ∨ (s.dev.queue q).state = .error →
      (s.dev.noteVol e.volume).latchWhen (s.dev.volValid e.volume && s.dev.sesBad (s.dev.volSession e.volume)) Page.sto FaultBit.sto_LINE_UE = d →
      s.dev.stoFormGood e = true →
      s.dev.stoAllowed q e = true →
      s.dev.sesState (s.dev.volSession e.volume) = Ses.draining ∨ s.dev.sesState (s.dev.volSession e.volume) = Ses.failed ∨ s.dev.sesState (s.dev.volSession e.volume) = Ses.closed →
      exec (.flush q) s = .next { s with
        dev := d.endStorage q e.index Code.remote 0x02 }) ∧
  (∀ (s : State) (q : Nat) (e : QueueEntry) (d : Dev),
      s.dev.nextStorage q = some e →
      e.opcode = 0x33 →
      s.dev.qType q = typeSto →
      s.dev.accepts Page.sto = true →
      (s.dev.queue q).state = .run ∨ (s.dev.queue q).state = .error →
      (s.dev.noteVol e.volume).latchWhen (s.dev.volValid e.volume && s.dev.sesBad (s.dev.volSession e.volume)) Page.sto FaultBit.sto_LINE_UE = d →
      s.dev.stoFormGood e = true →
      s.dev.stoAllowed q e = true →
      s.dev.sesState (s.dev.volSession e.volume) = Ses.draining ∨ s.dev.sesState (s.dev.volSession e.volume) = Ses.failed ∨ s.dev.sesState (s.dev.volSession e.volume) = Ses.closed →
      exec (.trim q) s = .next { s with
        dev := d.endStorage q e.index Code.remote 0x02 }) ∧
  (∀ (s : State) (q : Nat) (e : QueueEntry) (d : Dev),
      s.dev.nextStorage q = some e →
      e.opcode = 0x30 →
      s.dev.qType q = typeSto →
      s.dev.accepts Page.sto = true →
      (s.dev.queue q).state = .run ∨ (s.dev.queue q).state = .error →
      (s.dev.noteVol e.volume).latchWhen (s.dev.volValid e.volume && s.dev.sesBad (s.dev.volSession e.volume)) Page.sto FaultBit.sto_LINE_UE = d →
      s.dev.stoFormGood e = true →
      s.dev.stoAllowed q e = true →
      Ses.connecting ≤ s.dev.sesState (s.dev.volSession e.volume) →
      s.dev.sesState (s.dev.volSession e.volume) ≤ Ses.ready →
      s.dev.sesValid (s.dev.volSession e.volume) = true →
      exec (.read q) s = .next { s with
        dev := d.acceptEntry q e }) ∧
  (∀ (s : State) (q : Nat) (e : QueueEntry) (d : Dev),
      s.dev.nextStorage q = some e →
      e.opcode = 0x31 →
      s.dev.qType q = typeSto →
      s.dev.accepts Page.sto = true →
      (s.dev.queue q).state = .run ∨ (s.dev.queue q).state = .error →
      (s.dev.noteVol e.volume).latchWhen (s.dev.volValid e.volume && s.dev.sesBad (s.dev.volSession e.volume)) Page.sto FaultBit.sto_LINE_UE = d →
      s.dev.stoFormGood e = true →
      s.dev.stoAllowed q e = true →
      Ses.connecting ≤ s.dev.sesState (s.dev.volSession e.volume) →
      s.dev.sesState (s.dev.volSession e.volume) ≤ Ses.ready →
      s.dev.sesValid (s.dev.volSession e.volume) = true →
      exec (.write q) s = .next { s with
        dev := d.acceptEntry q e }) ∧
  (∀ (s : State) (q : Nat) (e : QueueEntry) (d : Dev),
      s.dev.nextStorage q = some e →
      e.opcode = 0x32 →
      s.dev.qType q = typeSto →
      s.dev.accepts Page.sto = true →
      (s.dev.queue q).state = .run ∨ (s.dev.queue q).state = .error →
      (s.dev.noteVol e.volume).latchWhen (s.dev.volValid e.volume && s.dev.sesBad (s.dev.volSession e.volume)) Page.sto FaultBit.sto_LINE_UE = d →
      s.dev.stoFormGood e = true →
      s.dev.stoAllowed q e = true →
      Ses.connecting ≤ s.dev.sesState (s.dev.volSession e.volume) →
      s.dev.sesState (s.dev.volSession e.volume) ≤ Ses.ready →
      s.dev.sesValid (s.dev.volSession e.volume) = true →
      exec (.flush q) s = .next { s with
        dev := d.acceptEntry q e }) ∧
  (∀ (s : State) (q : Nat) (e : QueueEntry) (d : Dev),
      s.dev.nextStorage q = some e →
      e.opcode = 0x33 →
      s.dev.qType q = typeSto →
      s.dev.accepts Page.sto = true →
      (s.dev.queue q).state = .run ∨ (s.dev.queue q).state = .error →
      (s.dev.noteVol e.volume).latchWhen (s.dev.volValid e.volume && s.dev.sesBad (s.dev.volSession e.volume)) Page.sto FaultBit.sto_LINE_UE = d →
      s.dev.stoFormGood e = true →
      s.dev.stoAllowed q e = true →
      Ses.connecting ≤ s.dev.sesState (s.dev.volSession e.volume) →
      s.dev.sesState (s.dev.volSession e.volume) ≤ Ses.ready →
      s.dev.sesValid (s.dev.volSession e.volume) = true →
      exec (.trim q) s = .next { s with
        dev := d.acceptEntry q e }) ∧
  (∀ (s : State) (n : Nat) (a : HostAnswer) (w w1 : WireCmd) (d : Dev),
      s.dev.wire n = some w →
      s.dev.mayIssue w = true →
      w.orphan = false →
      s.dev.accepts Page.sto = true →
      w.phase = .ready ∨ (w.phase = .start ∧ w.op ≠ 0x31 ∧ w.op ≠ 0) →
      s.dev.earlierUnsent n w = false →
      s.dev.flushWaits n w = false →
      s.dev.takeSlot n w = some d →
      d.wire n = some w1 →
      exec (.wireCommandIssue n a) s = .next { s with
        dev := 
          let c := d.wireSqe w1 (((s.dev.entry w.queue w.index).map (·.fua)).getD false && w.op == 0x31)
          let d1 := (d.setWire n (some { w1 with phase := .sent })).count Page.sto Reg.STO_CMD_CNT_CNT
          (if w.op = 0 ∨ w.op = 0x32 then d1
            else d1.modEntry w.queue w.index (fun e => { e with touched := max e.touched (w.off + w.len) })).stoSend w.session
              (buildPdu (s.dev.ses w.session).digests 0x04 0 72 c.1 c.2) }) ∧
  (∀ (s : State) (n : Nat) (a : HostAnswer) (w : WireCmd),
      s.dev.wire n = some w →
      w.phase = .ready ∨ (w.phase = .start ∧ w.op ≠ 0x31 ∧ w.op ≠ 0) →
      s.dev.earlierUnsent n w = true ∨ s.dev.flushWaits n w = true ∨ s.dev.takeSlot n w = none →
      exec (.wireCommandIssue n a) s = .next { s with
        dev := s.dev }) ∧
  (∀ (s : State) (ses n : Nat) (p : List Byte) (w : WireCmd) (c : List (Nat × Nat) × List (Nat × Nat)) (d d0 : Dev),
      s.dev.dataWaits ses = false →
      s.dev.nextPdu ses = some p →
      pduFormGood p = true →
      byteAt p 0 = 0x07 →
      headerGood (s.dev.ses ses).digests p = true →
      s.dev.modSes ses (fun v => { v with stream := v.stream.drop p.length }) = d →
      d.wireOf ses (pduCid p) = some n →
      d.wire n = some w →
      w.orphan = false →
      w.op = 0x30 →
      w.fail = none →
      pduDataFits (d.ses ses).digests p = true →
      ofLe (cut p 12 4) = w.received →
      w.received + ofLe (cut p 16 4) ≤ w.len →
      (pduData (d.ses ses).digests p).2 = true →
      bitAt (byteAt p 1) 2 = false →
      d.storeCells (ofLe (cut p 16 4)) = some (c, d0) →
      exec (.c2hdataReceive ses) s = .next { s with
        dev := (d0.setWire n (some { w with
            received := w.received + ofLe (cut p 16 4), pending := w.pending ++ (pduData (d.ses ses).digests p).1
            rx := w.rx ++ [(w.received + ofLe (cut p 16 4), c.1, c.2)] })).drainRead n }) ∧
  (∀ (s : State) (ses : Nat) (p : List Byte) (d : Dev),
      s.dev.dataWaits ses = false →
      s.dev.nextPdu ses = some p →
      pduFormGood p = true →
      byteAt p 0 = 0x07 →
      headerGood (s.dev.ses ses).digests p = true →
      s.dev.modSes ses (fun v => { v with stream := v.stream.drop p.length }) = d →
      d.wireOf ses (if byteAt p 0 = 0x05 then ofLe (cut p 20 2) else pduCid p) = none →
      exec (.c2hdataReceive ses) s = .next { s with
        dev := d.lateMessage }) ∧
  (∀ (s : State) (ses : Nat) (p : List Byte) (d : Dev),
      s.dev.nextPdu ses = some p →
      pduFormGood p = true →
      byteAt p 0 = 0x05 →
      headerGood (s.dev.ses ses).digests p = true →
      s.dev.modSes ses (fun v => { v with stream := v.stream.drop p.length }) = d →
      d.wireOf ses (if byteAt p 0 = 0x05 then ofLe (cut p 20 2) else pduCid p) = none →
      exec (.capsuleRespReceive ses) s = .next { s with
        dev := d.lateMessage }) ∧
  (∀ (s : State) (ses : Nat) (p : List Byte) (d : Dev),
      s.dev.nextPdu ses = some p →
      pduFormGood p = true →
      byteAt p 0 = 0x09 →
      headerGood (s.dev.ses ses).digests p = true →
      s.dev.modSes ses (fun v => { v with stream := v.stream.drop p.length }) = d →
      d.wireOf ses (if byteAt p 0 = 0x05 then ofLe (cut p 20 2) else pduCid p) = none →
      exec (.readyToTransferReceive ses) s = .next { s with
        dev := d.lateMessage }) ∧
  (∀ (s : State) (ses n : Nat) (p : List Byte) (w : WireCmd) (d : Dev),
      s.dev.nextPdu ses = some p →
      pduFormGood p = true →
      byteAt p 0 = 0x05 →
      headerGood (s.dev.ses ses).digests p = true →
      s.dev.modSes ses (fun v => { v with stream := v.stream.drop p.length }) = d →
      d.wireOf ses (ofLe (cut p 20 2)) = some n →
      d.wire n = some w →
      w.op = 0x32 ∨ w.op = 0x33 →
      exec (.capsuleRespReceive ses) s = .next { s with
        dev := d.answerWire n (ofLe (cut p 22 2)) }) ∧
  (∀ (s : State) (ses n off len most : Nat) (p : List Byte) (w : WireCmd) (d : Dev),
      s.dev.nextPdu ses = some p →
      pduFormGood p = true →
      byteAt p 0 = 0x09 →
      headerGood (s.dev.ses ses).digests p = true →
      s.dev.modSes ses (fun v => { v with stream := v.stream.drop p.length }) = d →
      d.wireOf ses (pduCid p) = some n →
      d.wire n = some w →
      w.op = 0x31 ∨ w.op = 0 →
      ofLe (cut p 12 4) = off →
      ofLe (cut p 16 4) = len →
      0 < len →
      off + len ≤ w.held.length →
      max 4096 (bits (d.sesWord ses 25) 16 16 * 4096) = most →
      exec (.readyToTransferReceive ses) s = .next { s with
        dev := (d.setWire n (some { w with sentTo := max w.sentTo (off + len) })).stoSend ses
            (h2cData (d.ses ses).digests w.cid (ofLe (cut p 10 2)) most w.held (len / most + 1) off len) }) ∧
  (∀ (s : State) (n : Nat) (w : WireCmd),
      s.dev.wire n = some w →
      w.live = true →
      exec (.cmdTimeout n) s = .next { s with
        dev := if w.orphan then (s.dev.releaseSlot n).dropWire n else s.dev.failSession w.session Code.timeout 0x06 }) ∧
  (∀ (s : State) (q i : Nat) (e : QueueEntry),
      s.dev.entry q i = some e →
      e.accepted = true →
      s.dev.qType q = typeSto →
      Ses.connecting ≤ s.dev.sesState (s.dev.volSession e.volume) →
      s.dev.sesState (s.dev.volSession e.volume) ≤ Ses.connect →
      exec (.openWaitTimeout q i) s = .next { s with
        dev := s.dev.endStorage q i Code.timeout 0x06 })

/-- Sessions, their TCP connections and the storage port. Completion: for each of these constructors a clause concludes that
exec answers a next state, under conditions on the state and the operands alone: icrespReceive, c2htermreqReceive,
synAckReceive, tcpRstReceive, tcpSegmentReceive, retransmissionTimeout, sessionDrained, volWrite, volRead, volDisable,
stoVolBindKey, sesWrite, sesRead, sesOpen, sesGo, sesClose, sesReset. -/
def Obligations.StorageSessionCommands : Prop :=
  (∀ (s : State) (ses : Nat) (p : List Byte) (d : Dev),
      s.dev.nextPdu ses = some p →
      pduFormGood p = true →
      byteAt p 0 = 0x01 →
      headerGood (s.dev.ses ses).digests p = true →
      s.dev.modSes ses (fun v => { v with stream := v.stream.drop p.length }) = d →
      d.sesState ses = Ses.icreq →
      ofLe (cut p 8 2) = 0 →
      byteAt p 10 = 0 →
      byteAt p 11 = 0 →
      4096 ≤ ofLe (cut p 12 4) →
      exec (.icrespReceive ses) s = .next { s with
        dev := (((d.sesSet ses 25 (min (ofLe (cut p 12 4) / 4096) 65535 * 2 ^ 16)).modSes ses (fun v =>
            { v with digests := 0 })).setSesState ses Ses.connect).addWire
              { session := ses, queue := 65536, index := 0, op := 0, len := 1024, stamp := d.sesStamp ses } }) ∧
  (∀ (s : State) (ses : Nat) (p : List Byte) (d : Dev),
      s.dev.nextPdu ses = some p →
      pduFormGood p = true →
      byteAt p 0 = 0x03 →
      headerGood (s.dev.ses ses).digests p = true →
      s.dev.modSes ses (fun v => { v with stream := v.stream.drop p.length }) = d →
      exec (.c2htermreqReceive ses) s = .next { s with
        dev := if (termCid p).map (d.wireOf ses) = some none then d.lateMessage else d.failSession ses Code.remote 0x03 }) ∧
  (∀ (s : State) (n ses : Nat) (g : Segmented),
      s.dev.headSegment = some (n, ses, some g) →
      g.syn = true →
      g.rst = false →
      s.dev.sesState ses = Ses.connecting →
      s.dev.accepts Page.sto = true →
      exec (.synAckReceive) s = .next { s with
        dev := if g.acks = true ∧ g.ack = s.dev.sndNxt ses then (s.dev.popSto n).establish ses g else s.dev.popSto n }) ∧
  (∀ (s : State) (n ses : Nat) (g : Segmented),
      s.dev.headSegment = some (n, ses, some g) →
      g.rst = true →
      (s.dev.ses ses).open_ = true →
      (s.dev.ses ses).term = false →
      s.dev.accepts Page.sto = true →
      exec (.tcpRstReceive) s = .next { s with
        dev := if s.dev.rstGood ses g then (s.dev.popSto n).failSession ses Code.remote 0x04 else s.dev.popSto n }) ∧
  (∀ (s : State) (n ses : Nat) (g : Segmented),
      s.dev.headSegment = some (n, ses, some g) →
      g.rst = false →
      g.syn = false →
      (s.dev.ses ses).open_ = true →
      (s.dev.ses ses).term = false →
      s.dev.sesState ses ≠ Ses.connecting →
      s.dev.accepts Page.sto = true →
      exec (.tcpSegmentReceive) s = .next { s with
        dev := (s.dev.popSto n).takeSegment ses g }) ∧
  (∀ (s : State) (n ses : Nat),
      s.dev.headSegment = some (n, ses, none) →
      exec (.tcpSegmentReceive) s = .next { s with
        dev := s.dev.popSto n }) ∧
  (∀ (s : State) (ses : Nat),
      (s.dev.ses ses).open_ = true →
      (s.dev.ses ses).term = false →
      0 < s.dev.inFlight ses →
      bits (s.dev.sesWord ses 12) 0 4 ≤ (s.dev.ses ses).expiries + 1 →
      exec (.retransmissionTimeout ses) s = .next { s with
        dev := s.dev.failSession ses Code.timeout 0x05 }) ∧
  (∀ (s : State) (ses : Nat),
      (s.dev.ses ses).open_ = true →
      (s.dev.ses ses).term = false →
      0 < s.dev.inFlight ses →
      (s.dev.ses ses).expiries + 1 < bits (s.dev.sesWord ses 12) 0 4 →
      exec (.retransmissionTimeout ses) s = .next { s with
        dev := (s.dev.setSes ses { s.dev.ses ses with
            expiries := (s.dev.ses ses).expiries + 1, rto := s.dev.clampRto ses (2 * (s.dev.ses ses).rto), timed := none
            ssthresh := s.dev.halfFlight ses, cwnd := s.dev.effMss ses, fast := false, dupAcks := 0, recover := some (s.dev.sndNxt ses) }).retransmit ses }) ∧
  (∀ (s : State) (ses : Nat),
      s.dev.sesState ses = Ses.draining →
      s.dev.outstanding ses = 0 →
      (s.dev.ses ses).open_ = true →
      (s.dev.ses ses).fin = false →
      (s.dev.ses ses).finAcked = false →
      exec (.sessionDrained ses) s = .next { s with
        dev := (s.dev.setSes ses { s.dev.ses ses with fin := true }).pumpAll ses }) ∧
  (∀ (s : State) (ses : Nat),
      s.dev.sesState ses = Ses.draining →
      s.dev.outstanding ses = 0 →
      (s.dev.ses ses).finAcked = true →
      (s.dev.ses ses).closing = true →
      exec (.sessionDrained ses) s = .next { s with
        dev := (s.dev.setSes ses { freeSlots := (s.dev.ses ses).freeSlots, gens := (s.dev.ses ses).gens }).setSesState
            ses Ses.closed }) ∧
  (∀ (s : State) (o : PortOp),
      s.dev.portRunning portSto 1 = some o →
      stoOpBad o false = false →
      exec (.volWrite) s = .next { s with
        dev := ((s.dev.noteVol (bits o.word 0 18)).volWrite (o.req == .welbor) (bits o.word 0 18) ((List.range 16).map (wordAt o.buf))).2.portEnd portSto ((s.dev.noteVol (bits o.word 0 18)).volWrite (o.req == .welbor) (bits o.word 0 18) ((List.range 16).map (wordAt o.buf))).1 }) ∧
  (∀ (s : State) (o : PortOp),
      s.dev.portRunning portSto 2 = some o →
      stoOpBad o false = false →
      exec (.volRead) s = .next { s with
        dev := ((s.dev.noteVol (bits o.word 0 18)).stoResult (s.dev.volWords (bits o.word 0 18))).portEnd portSto Code.ok }) ∧
  (∀ (s : State) (o : PortOp),
      s.dev.portRunning portSto 3 = some o →
      stoOpBad o false = false →
      exec (.volDisable) s = .next { s with
        dev := (s.dev.volDisable (bits o.word 0 18)).portEnd portSto Code.ok }) ∧
  (∀ (s : State) (o : PortOp),
      s.dev.portRunning portSto 4 = some o →
      o.req = .welbor →
      stoOpBad o false = false →
      exec (.stoVolBindKey) s = .next { s with
        dev := ((s.dev.noteVol (bits o.word 0 18)).volBindKey (bits o.word 0 18) ((List.range 16).map (wordAt o.buf))).2.portEnd portSto ((s.dev.noteVol (bits o.word 0 18)).volBindKey (bits o.word 0 18) ((List.range 16).map (wordAt o.buf))).1 }) ∧
  (∀ (s : State) (o : PortOp),
      s.dev.portRunning portSto 4 = some o →
      o.req ≠ .welbor →
      exec (.stoVolBindKey) s = .next { s with
        dev := s.dev.portEnd portSto Code.access }) ∧
  (∀ (s : State) (o : PortOp),
      s.dev.portRunning portSto 5 = some o →
      stoOpBad o true = false →
      exec (.sesWrite) s = .next { s with
        dev := ((s.dev.noteSes (bits o.word 0 18)).sesWrite (o.req == .welbor) (bits o.word 0 18) ((List.range 32).map (wordAt o.buf))).2.portEnd portSto ((s.dev.noteSes (bits o.word 0 18)).sesWrite (o.req == .welbor) (bits o.word 0 18) ((List.range 32).map (wordAt o.buf))).1 }) ∧
  (∀ (s : State) (o : PortOp),
      s.dev.portRunning portSto 6 = some o →
      stoOpBad o true = false →
      exec (.sesRead) s = .next { s with
        dev := ((s.dev.noteSes (bits o.word 0 18)).stoResult ((s.dev.noteSes (bits o.word 0 18)).sesWords (bits o.word 0 18))).portEnd portSto Code.ok }) ∧
  (∀ (s : State) (o : PortOp) (d : Dev),
      s.dev.portRunning portSto 7 = some o →
      s.dev.noteSes (bits o.word 0 18) = d →
      o.req = .welbor ∨ d.sesMgr (bits o.word 0 18) = true →
      stoOpBad o true = false →
      d.sesState (bits o.word 0 18) = Ses.closed →
      d.sesValid (bits o.word 0 18) = true →
      exec (.sesOpen) s = .next { s with
        dev := (d.openSession (bits o.word 0 18)).portEnd portSto Code.ok }) ∧
  (∀ (s : State) (o : PortOp) (d : Dev),
      s.dev.portRunning portSto 8 = some o →
      s.dev.noteSes (bits o.word 0 18) = d →
      o.req = .welbor ∨ d.sesMgr (bits o.word 0 18) = true →
      stoOpBad o true = false →
      d.sesState (bits o.word 0 18) = Ses.handshake →
      d.sasMatch (bits o.word 0 18) = true →
      exec (.sesGo) s = .next { s with
        dev := (d.sendIcReq (bits o.word 0 18)).portEnd portSto Code.ok }) ∧
  (∀ (s : State) (o : PortOp) (d : Dev),
      s.dev.portRunning portSto 9 = some o →
      s.dev.noteSes (bits o.word 0 18) = d →
      o.req = .welbor ∨ d.sesMgr (bits o.word 0 18) = true →
      stoOpBad o true = false →
      d.sesState (bits o.word 0 18) = Ses.ready →
      exec (.sesClose) s = .next { s with
        dev := ((d.setSesState (bits o.word 0 18) Ses.draining).endWaiting (bits o.word 0 18)).portEnd portSto Code.ok }) ∧
  (∀ (s : State) (o : PortOp) (d : Dev),
      s.dev.portRunning portSto 9 = some o →
      s.dev.noteSes (bits o.word 0 18) = d →
      o.req = .welbor ∨ d.sesMgr (bits o.word 0 18) = true →
      d.sesState (bits o.word 0 18) ≠ Ses.ready →
      exec (.sesClose) s = .next { s with
        dev := d.portEnd portSto Code.malformed }) ∧
  (∀ (s : State) (o : PortOp),
      s.dev.portRunning portSto 10 = some o →
      stoOpBad o true = false →
      exec (.sesReset) s = .next { s with
        dev := ((s.dev.noteSes (bits o.word 0 18)).resetSession (bits o.word 0 18)).portEnd portSto Code.ok })

/-- Ends of received frames, pause and PFC. Completion: for each of these constructors a clause concludes that exec answers a
next state, under conditions on the state and the operands alone: frameReceiveEnd, pauseReceive, pfcReceive,
pauseTimerExpiry, pauseWatchdog, pauseHoldEnd. -/
def Obligations.MacReceiveCommands : Prop :=
  (∀ (s : State) (m h : Nat) (bs : List Byte) (d : Dev),
      m < 16 →
      (s.dev.macOf m).rxBusy = true →
      (s.dev.macOf m).rx = some h →
      (taggedFrame (s.dev.macOf m).rxTag bs).length ≤ s.dev.fget (Page.mac m) Reg.MAC_MAX_FRAME_BYTES →
      64 ≤ bs.length →
      fcsGood bs = true →
      isControl bs = false →
      ((s.dev.countMac m 0x10).countMac m 0x11 bs.length).completeFrame h (taggedFrame (s.dev.macOf m).rxTag bs) = d →
      exec (.frameReceiveEnd m bs false) s = .next { s with
        dev := (d.setMac m { d.macOf m with rxBusy := false, rx := none, rxTag := none }).refreshMac m }) ∧
  (∀ (s : State) (m h : Nat) (bs : List Byte) (d : Dev),
      m < 16 →
      (s.dev.macOf m).rxBusy = true →
      (s.dev.macOf m).rx = some h →
      (s.dev.countMac m 0x15).discardFrame h = d →
      exec (.frameReceiveEnd m bs true) s = .next { s with
        dev := (d.setMac m { d.macOf m with rxBusy := false, rx := none, rxTag := none }).refreshMac m }) ∧
  (∀ (s : State) (m h : Nat) (bs : List Byte) (d : Dev),
      m < 16 →
      (s.dev.macOf m).rxBusy = true →
      (s.dev.macOf m).rx = some h →
      (taggedFrame (s.dev.macOf m).rxTag bs).length ≤ s.dev.fget (Page.mac m) Reg.MAC_MAX_FRAME_BYTES →
      64 ≤ bs.length →
      fcsGood bs = false →
      (s.dev.countMac m 0x12).discardFrame h = d →
      exec (.frameReceiveEnd m bs false) s = .next { s with
        dev := (d.setMac m { d.macOf m with rxBusy := false, rx := none, rxTag := none }).refreshMac m }) ∧
  (∀ (s : State) (m : Nat) (bs : List Byte) (d d1 : Dev),
      m < 16 →
      (s.dev.macOf m).rxBusy = true →
      (s.dev.macOf m).rx = none →
      (taggedFrame (s.dev.macOf m).rxTag bs).length ≤ s.dev.fget (Page.mac m) Reg.MAC_MAX_FRAME_BYTES →
      64 ≤ bs.length →
      fcsGood bs = true →
      isControl bs = true →
      bs.take 6 = pauseDa →
      be16 bs 14 = 0x0001 →
      s.dev.countMac m 0x16 = d →
      d.fget (Page.mac m) Reg.MAC_CFG_FC_MODE = 1 →
      d.linkState m = 3 →
      d.pauseIgnored m 8 = false →
      (d.setMac m ((d.macOf m).setTimer 8 (if be16 bs 16 = 0 then 0 else 9))).updatePaused m = d1 →
      exec (.frameReceiveEnd m bs false) s = .next { s with
        dev := (d1.setMac m { d1.macOf m with rxBusy := false, rx := none, rxTag := none }).refreshMac m }) ∧
  (∀ (s : State) (m : Nat) (bs : List Byte) (d d1 : Dev),
      m < 16 →
      (s.dev.macOf m).rxBusy = true →
      (s.dev.macOf m).rx = none →
      (taggedFrame (s.dev.macOf m).rxTag bs).length ≤ s.dev.fget (Page.mac m) Reg.MAC_MAX_FRAME_BYTES →
      64 ≤ bs.length →
      fcsGood bs = true →
      isControl bs = true →
      bs.take 6 = pauseDa →
      be16 bs 14 = 0x0101 →
      s.dev.countMac m 0x16 = d →
      d.fget (Page.mac m) Reg.MAC_CFG_FC_MODE ≠ 2 →
      (((List.range 8).filter (fun n => bitAt (be16 bs 16) n)).foldl (fun (d : Dev) n => d.countMac m (0x24 + n)) d).countMac m 0x21 = d1 →
      exec (.frameReceiveEnd m bs false) s = .next { s with
        dev := (d1.setMac m { d1.macOf m with rxBusy := false, rx := none, rxTag := none }).refreshMac m }) ∧
  (∀ (s : State) (m : Nat) (bs : List Byte) (d : Dev),
      m < 16 →
      s.dev.receives m true = true →
      isControl bs = true →
      bs.take 6 = pauseDa →
      be16 bs 14 = 0x0001 →
      (s.dev.macOf m).rx = none →
      s.dev.setMac m { s.dev.macOf m with rxBusy := true, rx := none, rxTag := s.dev.pvidTag m } = d →
      exec (.pauseReceive m bs) s = .next { s with
        dev := d.endFrame m bs false }) ∧
  (∀ (s : State) (m : Nat) (bs : List Byte) (d : Dev),
      m < 16 →
      s.dev.receives m true = true →
      isControl bs = true →
      bs.take 6 = pauseDa →
      be16 bs 14 = 0x0101 →
      (s.dev.macOf m).rx = none →
      s.dev.setMac m { s.dev.macOf m with rxBusy := true, rx := none, rxTag := s.dev.pvidTag m } = d →
      exec (.pfcReceive m bs) s = .next { s with
        dev := d.endFrame m bs false }) ∧
  (∀ (s : State) (m n : Nat),
      m < 16 →
      (s.dev.macOf m).timer n ≠ 0 →
      exec (.pauseTimerExpiry m n) s = .next { s with
        dev := (s.dev.setMac m ((s.dev.macOf m).setTimer n 0)).updatePaused m }) ∧
  (∀ (s : State) (m t : Nat),
      m < 16 →
      t ≤ 8 →
      s.dev.fget (Page.mac m) Reg.MAC_PAUSE_WDOG_US ≠ 0 →
      Sparse.get (blank 0) (s.dev.macOf m).stopped t ≠ 0 →
      bitAt (s.dev.macOf m).ignored t = false →
      exec (.pauseWatchdog m t) s = .next { s with
        dev := (((((s.dev.setMac m { s.dev.macOf m with
            timers := (s.dev.macOf m).timers.filter (fun e => e.2 != t + 1), ignored := (s.dev.macOf m).ignored + 2 ^ t }).updatePaused m).count
            (Page.mac m) Reg.MAC_WDOG_CNT_CNT).latchFault (Page.mac m) FaultBit.mac_PAUSE_WDOG).pulse 116) }) ∧
  (∀ (s : State) (m t : Nat),
      m < 16 →
      bitAt (s.dev.macOf m).ignored t = true →
      exec (.pauseHoldEnd m t) s = .next { s with
        dev := s.dev.setMac m { s.dev.macOf m with ignored := (s.dev.macOf m).ignored - 2 ^ t } })

/-- Link states, port groups and cages. Completion: for each of these constructors a clause concludes that exec answers a next
state, under conditions on the state and the operands alone: laneLockLoss, laneLockAcquire, upHoldExpiry,
faultSequenceReceive, fecDegradeWindow, pcsModeWrite, pcsRetuneDone, cageTwiStart, cageTwiDone, cagePresenceChange,
cageModuleInterrupt, cageSupplyFault. -/
def Obligations.MacLinkCommands : Prop :=
  (∀ (s : State) (m : Nat) (lost dark : Nat) (d : Dev),
      m < 16 →
      ((s.dev.macLanes m).foldl (fun (d : Dev) k => d.setLane k { d.lane k with
      lock := (d.lane k).lock && !bitAt lost (k - m), signal := (d.lane k).signal && !bitAt dark (k - m) }) s.dev).fset (Page.mac m)
      Reg.MAC_LINK_ALL_LOCK 0 = d →
      exec (.laneLockLoss m lost dark) s = .next { s with
        dev := if d.linkState m = 0 then d else d.moveLink m 1 }) ∧
  (∀ (s : State) (m : Nat) (snr : List Nat) (d : Dev),
      m < 16 →
      ((s.dev.macLanes m).foldl (fun (d : Dev) k => d.setLane k { lock := true, signal := true, snr := snr.getD (k - m) 0 % 256 }) s.dev).fset
      (Page.mac m) Reg.MAC_LINK_ALL_LOCK 1 = d →
      exec (.laneLockAcquire m snr) s = .next { s with
        dev := if d.linkState m = 1 ∧ d.allLock m then d.setLink m 2 else d }) ∧
  (∀ (s : State) (m : Nat),
      m < 16 →
      s.dev.linkState m = 2 ∨ s.dev.linkState m = 4 →
      s.dev.allLock m = true →
      s.dev.rsFault m = false →
      exec (.upHoldExpiry m) s = .next { s with
        dev := (s.dev.setLink m 3).pulse 115 }) ∧
  (∀ (s : State) (m : Nat) (lf rf : Bool) (d : Dev),
      m < 16 →
      s.dev.withSignal m (fun d => (d.fset (Page.mac m) Reg.MAC_LINK_RX_LOCAL_FAULT (b2n lf)).fset (Page.mac m) Reg.MAC_LINK_RX_REMOTE_FAULT (b2n rf)) = d →
      exec (.faultSequenceReceive m lf rf) s = .next { s with
        dev := if d.linkState m = 3 ∧ (lf ∨ rf) then d.leaveUp m 4 else d }) ∧
  (∀ (s : State) (m cor unc sym : Nat),
      m < 16 →
      exec (.fecDegradeWindow m cor unc sym) s = .next { s with
        dev := let d := ((s.dev.countMac m 0x1E cor).countMac m 0x1F unc).countMac m 0x20 sym
          if s.dev.fget (Page.mac m) Reg.MAC_FEC_DEGRADE_THR < sym then
            ((d.fset (Page.mac m) Reg.MAC_LINK_FEC_DEGRADED 1).latchFault (Page.mac m) FaultBit.mac_FEC_DEGRADED).pulse 126
          else d.fset (Page.mac m) Reg.MAC_LINK_FEC_DEGRADED 0 }) ∧
  (∀ (s : State) (req : Requester) (g : Nat) (mode : BitVec 2),
      g < 2 →
      s.dev.unreachable (Page.pcs g + Reg.PCS_MODE_MODE.off) = none →
      s.dev.asleep req = false →
      exec (.pcsModeWrite req g mode) s = .next { s with
        dev := if (List.range 8).all (fun i => !s.dev.fbit (Page.mac (8 * g + i)) Hdr.enable && s.dev.macIdle (8 * g + i)) then
            (s.dev.fsetP (Page.pcs g) Reg.PCS_MODE_MODE mode.toNat).fset (Page.pcs g) Reg.PCS_MODE_BUSY 1
          else (s.dev.latchFault (Page.pcs g) FaultBit.pcs_MODE_REFUSED).accessFault (Page.pcs g) }) ∧
  (∀ (s : State) (g : Nat),
      g < 2 →
      s.dev.fbit (Page.pcs g) Reg.PCS_MODE_BUSY = true →
      exec (.pcsRetuneDone g) s = .next { s with
        dev := ((List.range 8).foldl (fun (d : Dev) i =>
            if !(d.macOf (8 * g + i)).enableHeld then d
            else
              let e := d.setMac (8 * g + i) { d.macOf (8 * g + i) with enableHeld := false }
              if e.macExists (8 * g + i) then e.fsetP (Page.mac (8 * g + i)) Hdr.enable 1 else e)
            (s.dev.fset (Page.pcs g) Reg.PCS_MODE_BUSY 0)).refreshGroup g }) ∧
  (∀ (s : State) (req : Requester) (g : Nat),
      g < 2 →
      s.dev.unreachable (Page.pcs g + Reg.CAGE_TWI_GO.off) = none →
      s.dev.fbit (Page.pcs g) Reg.CAGE_TWI_GO = false →
      s.dev.asleep req = false →
      exec (.cageTwiStart req g) s = .next { s with
        dev := if s.dev.accepts (Page.pcs g) then
            ((s.dev.fset (Page.pcs g) Reg.CAGE_TWI_GO 1).setPort (Page.pcs g) { s.dev.port (Page.pcs g) with
              run := some { req := req, word := (s.dev.rd (Page.pcs g + Reg.CAGE_TWI_GO.off)).toNat, buf := [] } }).emit
              (.twi g 0xA0 (s.dev.fbit (Page.pcs g) Reg.CAGE_TWI_RD) (s.dev.fget (Page.pcs g) Reg.CAGE_TWI_ADDR)
                (s.dev.fget (Page.pcs g) Reg.CAGE_TWI_WDATA))
          else s.dev.accessFault (Page.pcs g) }) ∧
  (∀ (s : State) (g : Nat) (data : BitVec 8) (o : PortOp) (d : Dev),
      g < 2 →
      s.dev.fbit (Page.pcs g) Reg.CAGE_TWI_GO = true →
      (s.dev.port (Page.pcs g)).run = some o →
      (s.dev.fset (Page.pcs g) Reg.CAGE_TWI_GO 0).setPort (Page.pcs g) { s.dev.port (Page.pcs g) with run := none } = d →
      exec (.cageTwiDone g none) s = .next { s with
        dev := ((d.fset (Page.pcs g) Reg.CAGE_TWI_STAT_NACK 1).latchFault (Page.pcs g) FaultBit.pcs_TWI_NACK).pulse 125 } ∧
      exec (.cageTwiDone g (some data)) s = .next { s with
        dev := (if bitAt o.word Reg.CAGE_TWI_RD.lo
          then (d.fset (Page.pcs g) Reg.CAGE_TWI_STAT_NACK 0).fset (Page.pcs g) Reg.CAGE_TWI_STAT_RDATA data.toNat
          else d.fset (Page.pcs g) Reg.CAGE_TWI_STAT_NACK 0).pulse 125 }) ∧
  (∀ (s : State) (g : Nat) (p : Bool),
      g < 2 →
      s.dev.fbit (Page.pcs g) Reg.CAGE_STAT_PRESENT ≠ p →
      exec (.cagePresenceChange g p) s = .next { s with
        dev := (let d := (s.dev.fset (Page.pcs g) Reg.CAGE_STAT_PRESENT (b2n p)).latchFault (Page.pcs g) FaultBit.pcs_CAGE_PRESENT_CHG
          if p then d else d.dropMacs (fun m => m / 8 == g) true true).pulse 123 }) ∧
  (∀ (s : State) (g : Nat) (level : Bool),
      g < 2 →
      exec (.cageModuleInterrupt g level) s = .next { s with
        dev := (s.dev.fset (Page.pcs g) Reg.CAGE_STAT_INT (b2n level)).refreshLevel (121 + g) }) ∧
  (∀ (s : State) (g : Nat),
      g < 2 →
      exec (.cageSupplyFault g) s = .next { s with
        dev := ((((s.dev.fsetP (Page.pcs g) Reg.CAGE_CTL_PWR_EN 0).fset (Page.pcs g)
            Reg.CAGE_STAT_PWR_GOOD 0).latchFault (Page.pcs g) FaultBit.pcs_CAGE_PWR).dropMacs (fun m => m / 8 == g) true true).pulse 124 })

/-- Transmission, flow control sent, snapshots and timestamps. Completion: for each of these constructors a clause concludes
that exec answers a next state, under conditions on the state and the operands alone: flowControlFrameSend, pfcRefresh,
frameTransmitStart, txUnderrun, frameTransmitEnd, macSnapshot, macgSnapshot, tsFifoCapture, txStartBaseWrite. -/
def Obligations.MacTransmitCommands : Prop :=
  (∀ (s : State) (m : Nat),
      m < 16 →
      s.dev.atBoundary m = true →
      s.dev.fget (Page.mac m) Reg.MAC_CFG_FC_MODE = 1 →
      s.dev.flowDue m 8 = true →
      exec (.flowControlFrameSend m) s = .next { s with
        dev := (s.dev.setMac m { s.dev.macOf m with
            told := setBits (s.dev.macOf m).told 8 1 (b2n (s.dev.anyXoff m)), refresh := setBits (s.dev.macOf m).refresh 8 1 0 }).sendControl
            m (s.dev.pauseFrame m (if s.dev.anyXoff m then s.dev.fget (Page.mac m) Reg.MAC_FC_TX_QUANTA else 0)) }) ∧
  (∀ (s : State) (m p : Nat),
      m < 16 →
      s.dev.atBoundary m = true →
      s.dev.fget (Page.mac m) Reg.MAC_CFG_FC_MODE = 2 →
      (List.range 8).find? (s.dev.flowDue m) = some p →
      exec (.flowControlFrameSend m) s = .next { s with
        dev := (s.dev.setMac m { s.dev.macOf m with
            told := setBits (s.dev.macOf m).told p 1 (b2n (s.dev.xoffOf (poolIndex m p))), refresh := setBits (s.dev.macOf m).refresh p 1 0 }).sendControl
            m (s.dev.pfcFrame m p (if s.dev.xoffOf (poolIndex m p) then s.dev.fget (Page.mac m) Reg.MAC_FC_TX_QUANTA else 0)) }) ∧
  (∀ (s : State) (m p : Nat),
      m < 16 →
      s.dev.mayTransmit m = true →
      s.dev.fget (Page.mac m) Reg.MAC_CFG_FC_MODE = 2 →
      p < 8 →
      bitAt (s.dev.macOf m).told p = true →
      s.dev.xoffOf (poolIndex m p) = true →
      exec (.pfcRefresh m p) s = .next { s with
        dev := (s.dev.setMac m { s.dev.macOf m with refresh := setBits (s.dev.macOf m).refresh p 1 1 }).sendFlowControl m }) ∧
  (∀ (s : State) (m n : Nat) (c : Copy) (bs : List Byte) (d : Dev),
      m < 16 →
      s.dev.flushFlowControl m = d →
      (d.macOf m).slot = some n →
      (d.macOf m).sending = none →
      d.mayTransmit m = true →
      d.copyStopped m n = false →
      d.copy n = some c →
      c.oneStep = false →
      padFrame (if c.macsec then c.frame else d.txTags m c.frame) = bs →
      bs.length + 4 ≤ d.fget (Page.mac m) Reg.MAC_MAX_FRAME_BYTES →
      exec (.frameTransmitStart m) s = .next { s with
        dev := d.setMac m { d.macOf m with
            sending := some (bs ++ fcsOf bs), txTime := d.stampTime (d.fget (Page.mac m) Reg.MAC_TS_TX_ADJ_ADJ), missed := false } }) ∧
  (∀ (s : State) (m n : Nat) (bs : List Byte) (p cur ceil : Nat) (d : Dev),
      m < 16 →
      (s.dev.macOf m).sending = some bs →
      (s.dev.macOf m).slot = some n →
      ((s.dev.copy n).map Copy.oneStep).getD false = false →
      s.dev.fget (Page.mac m) Reg.MAC_TX_START_CUR_BYTES = cur →
      s.dev.fget (Page.mac m) Reg.MAC_TX_START_CEIL_BYTES = ceil →
      cur < bs.length →
      s.dev.fresh = (p, d) →
      exec (.txUnderrun m) s = .next { s with
        dev := ((((((((d.countMac m 0x1A).count (Page.mac m) Reg.MAC_UNDERRUN_CNT_CNT).fset (Page.mac m) Reg.MAC_TX_START_CUR_BYTES
            (if ceil ≤ cur then cur else min (cur + 256) ceil)).emit (.wire m (bs.take (p % bs.length) ++ (fcsOf (bs.take (p % bs.length))).map
            (fun b => ~~~b)) false)).endCopy n none).latchFault (Page.mac m) FaultBit.mac_TX_UNDERRUN).pulse 117).frameBoundary m) }) ∧
  (∀ (s : State) (m n : Nat) (bs : List Byte) (c : Copy),
      m < 16 →
      (s.dev.macOf m).sending = some bs →
      (s.dev.macOf m).slot = some n →
      s.dev.copy n = some c →
      exec (.frameTransmitEnd m) s = .next { s with
        dev := (((((((((if (s.dev.macOf m).missed then s.dev.countMac m 0x22 else s.dev).countMac m 0x18).countMac m 0x19 bs.length).countTxWire (s.dev.packet c.packet).stamp bs.length).countTc
            m c.tc 1).wcount (Page.sch m) (0x20 + c.tc) bs.length).recordTime m c).emit (.wire m bs true)).endCopy n none).frameBoundary m }) ∧
  (∀ (s : State) (req : Requester) (m : Nat),
      m < 16 →
      s.dev.unreachable (Page.mac m + Reg.MAC_SNAP_GO.off) = none →
      s.dev.asleep req = false →
      exec (.macSnapshot req m) s = .next { s with
        dev := (s.dev.snapshotMac m).pulse 118 }) ∧
  (∀ (s : State) (req : Requester),
      s.dev.unreachable (Page.macg + Reg.MACG_SNAP_GO.off) = none →
      s.dev.asleep req = false →
      exec (.macgSnapshot req) s = .next { s with
        dev := if s.dev.accepts Page.macg then
            (((List.range 16).foldl Dev.snapshotMac s.dev).count Page.macg Reg.MACG_SNAP_SEQ).pulse 118 else s.dev.accessFault Page.macg }) ∧
  (∀ (s : State) (req : Requester) (m tag sec ns frac : Nat) (rest : List (Nat × Nat × Nat × Nat)),
      m < 16 →
      s.dev.unreachable (Page.mac m + 0x20) = none →
      ((s.dev.wmbSelect (Page.mac m) 0x30).macOf m).stamps = (tag, sec, ns, frac) :: rest →
      s.dev.asleep req = false →
      exec (.tsFifoCapture req m) s = .next { s with
        dev := ((s.dev.wmbSelect (Page.mac m) 0x30).setStamps m rest).wmbAnswer (Page.mac m)
            (tag + 2 ^ 16 + frac * 2 ^ 32 + ns * 2 ^ 48 + sec * 2 ^ 80) }) ∧
  (∀ (s : State) (req : Requester) (m : Nat) (v : Word),
      m < 16 →
      s.dev.unreachable (Page.mac m + Reg.MAC_TX_START_BASE_BYTES.off) = none →
      s.dev.asleep req = false →
      exec (.txStartBaseWrite req m v) s = .next { s with
        dev := (s.dev.fsetP (Page.mac m) Reg.MAC_TX_START_BASE_BYTES (max 64 (v.toNat % 2 ^ 14))).fset (Page.mac m)
            Reg.MAC_TX_START_CUR_BYTES (max 64 (v.toNat % 2 ^ 14)) })

/-- The host link, its functions, translations, page requests and read completions. Completion: for each of these constructors
a clause concludes that exec answers a next state, under conditions on the state and the operands alone: linkUp, linkDown,
functionLevelReset, pciPowerStateChange, atsInvalidationRequest, atsInvalidationComplete, prgResponse, pageRequestTimeout,
completionTimeout, readCompletionReceive, msixUnmask. -/
def Obligations.LinkAndTranslationCommands : Prop :=
  (∀ (s : State) (port speed width : Nat) (flit : Bool),
      s.dev.portExists port = true →
      (s.dev.hostPort port).linkUp = false →
      bitAt s.dev.pwr.perst port = false →
      s.dev.domainOn 2 = true →
      s.dev.linkGood speed width flit = true →
      exec (.linkUp port speed width flit) s = .next { s with
        dev := (s.dev.setHostPort port { s.dev.hostPort port with
            linkUp := true, l1 := false, speed := speed, width := width, flit := flit }).pulse 66 }) ∧
  (∀ (s : State) (port : Nat),
      (s.dev.hostPort port).linkUp = true →
      exec (.linkDown port) s = .next { s with
        dev := ((s.dev.dropLink port).latchFault (Page.hif port) FaultBit.hif_LINK_LOST).pulse 66 }) ∧
  (∀ (s : State) (port pf : Nat),
      s.dev.portExists port = true →
      pf < 2 →
      (s.dev.hostPort port).linkUp = true →
      exec (.functionLevelReset port pf) s = .next { s with
        dev := (((s.dev.setHostPort port ((s.dev.hostPort port).resetFunction pf)).haltQueues (fun q =>
            (s.dev.setHostPort port ((s.dev.hostPort port).resetFunction pf)).qPort q == port
              && ((s.dev.setHostPort port ((s.dev.hostPort port).resetFunction pf)).qManager q == (pf == 0)))).latchFault (Page.hif port)
            FaultBit.hif_FLR).pulse (72 + pf) }) ∧
  (∀ (s : State) (port : Nat) (d3 : Bool),
      s.dev.portExists port = true →
      exec (.pciPowerStateChange port 0 d3) s = .next { s with
        dev := s.dev.setHostPort port { s.dev.hostPort port with pf0 := { (s.dev.hostPort port).pf0 with d3 := d3 } } } ∧
      exec (.pciPowerStateChange port 1 d3) s = .next { s with
        dev := s.dev.setHostPort port { s.dev.hostPort port with pf1 := { (s.dev.hostPort port).pf1 with d3 := d3 } } }) ∧
  (∀ (s : State) (port pf pasid range : Nat) (v : Invalidation),
      (s.dev.hostPort port).linkUp = true →
      ({ pf := pf, pasid := pasid, page := range / 2, log2 := lowOnes 53 range } : Invalidation) = v →
      exec (.atsInvalidationRequest port pf pasid range) s = .next { s with
        dev := ((s.dev.setHostPort port { s.dev.hostPort port with
            atc := (s.dev.hostPort port).atc.filter (fun t => !v.covers t)
            invalidations := (s.dev.hostPort port).invalidations ++ [{ v with reads := s.dev.readsUnder port v }] }).count
              (Page.hif port) Reg.HIF_ATS_INV_CNT_CNT).pulse 69 }) ∧
  (∀ (s : State) (port : Nat) (t : Invalidation) (rest : List Invalidation),
      (s.dev.hostPort port).invalidations = t :: rest →
      t.reads.any (fun r => s.dev.readOpen port r.1 && s.dev.readMark r.1 == r.2) = false →
      exec (.atsInvalidationComplete port) s = .next { s with
        dev := (s.dev.setHostPort port { s.dev.hostPort port with invalidations := rest }).emit (.pcie 2 port t.page) }) ∧
  (∀ (s : State) (port group : Nat) (t : ReadTarget) (d : Dev),
      s.dev.takeGroup port group = some (t, d) →
      exec (.prgResponse port group true) s = .next { s with
        dev := d } ∧
      exec (.prgResponse port group false) s = .next { s with
        dev := ((d.failTarget t QErr.fetchAccess Code.access MoverErr.hostAccess).count (Page.hif port)
            Reg.HIF_PRI_FAIL_CNT_CNT).pulse 70 } ∧
      exec (.pageRequestTimeout port group) s = .next { s with
        dev := ((d.failTarget t QErr.fetchTimeout Code.timeout MoverErr.hostTimeout).count (Page.hif port)
            Reg.HIF_PRI_FAIL_CNT_CNT).pulse 70 }) ∧
  (∀ (s : State) (port : Nat) (target : ReadTarget),
      s.dev.readOpen port target = true →
      exec (.completionTimeout port target) s = .next { s with
        dev := (s.dev.failTarget target QErr.fetchTimeout Code.timeout MoverErr.hostTimeout).noteTimeout port
            (s.dev.readAttr target).pf }) ∧
  (∀ (s : State) (port q : Nat),
      s.dev.readOpen port (.fetch q) = true →
      exec (.readCompletionReceive port (.fetch q) .data) s = .next { s with
        dev := s.dev.fetchEntry q .data }) ∧
  (∀ (s : State) (port m : Nat),
      s.dev.readOpen port (.mover m) = true →
      exec (.readCompletionReceive port (.mover m) .data) s = .next { s with
        dev := s.dev.issueBurst m true .data } ∧
      exec (.readCompletionReceive port (.mover m) .poisoned) s = .next { s with
        dev := (s.dev.failTarget (.mover m) QErr.fetchPoison Code.fault
            MoverErr.hostPoison).notePoison port (s.dev.readAttr (.mover m)).pf }) ∧
  (∀ (s : State) (port v : Nat),
      s.dev.portExists port = true →
      v < 2048 →
      exec (.msixUnmask port (some v)) s = .next { s with
        dev := (s.dev.setHostPort port ((s.dev.hostPort port).setMsix v
            { (s.dev.hostPort port).msixEntry v with masked := false })).msixFlush port v } ∧
      exec (.msixUnmask port none) s = .next { s with
        dev := ((s.dev.hostPort port).msix.map (·.1)).foldl (fun (d : Dev) v => d.msixFlush port v)
            (s.dev.setHostPort port { s.dev.hostPort port with functionMask := false }) })

/-- Slice windows, slice interrupt entries, IDE streams and the TDI. Completion: for each of these constructors a clause
concludes that exec answers a next state, under conditions on the state and the operands alone: sitWrite, sitClear,
sitRead, sliceInterruptRaise, sitMaskWrite, sliceWindowAccess, ideIntegrityFailure, lockInterfaceRequest,
startInterfaceRequest, stopInterfaceRequest, ideKmRequest. -/
def Obligations.SliceWindowCommands : Prop :=
  (∀ (s : State) (port : Nat) (o : PortOp),
      s.dev.portRunning (portSit port) 1 = some o →
      (s.dev.slice (bits (wordAt o.buf 0) 4 12)).state = .active →
      (s.dev.slice (bits (wordAt o.buf 0) 4 12)).hostPort = port →
      (s.dev.slice (bits (wordAt o.buf 0) 4 12)).isLocked = false →
      exec (.sitWrite port) s = .next { s with
        dev := (s.dev.setSit (bits (wordAt o.buf 0) 4 12) (bits (wordAt o.buf 0) 0 4) {
            addr := wordAt o.buf 1 / 4 * 4 + wordAt o.buf 2 * 2 ^ 32
            data := wordAt o.buf 3
            incarnation := (s.dev.slice (bits (wordAt o.buf 0) 4 12)).incarnation
            valid := true }).portEnd (portSit port) Code.ok }) ∧
  (∀ (s : State) (port n e : Nat) (o : PortOp),
      s.dev.portRunning (portSit port) 2 = some o →
      bits (wordAt o.buf 0) 4 12 = n →
      bits (wordAt o.buf 0) 0 4 = e →
      (s.dev.slice n).state = .active →
      (s.dev.slice n).hostPort = port →
      (s.dev.slice n).isLocked = false →
      exec (.sitClear port) s = .next { s with
        dev := (s.dev.setSit n e { s.dev.sitEntry n e with valid := false, pending := false }).portEnd (portSit port) Code.ok }) ∧
  (∀ (s : State) (port n e : Nat) (o : PortOp),
      s.dev.portRunning (portSit port) 3 = some o →
      bits (wordAt o.buf 0) 4 12 = n →
      bits (wordAt o.buf 0) 0 4 = e →
      (s.dev.slice n).state = .active →
      (s.dev.slice n).hostPort = port →
      exec (.sitRead port) s = .next { s with
        dev := (((s.dev.wr (Page.hif port + Reg.HIF_SIT_ADDR_LO_ADDR.off) (BitVec.ofNat 32 (s.dev.sitEntry n e).addr)).wr
            (Page.hif port + Reg.HIF_SIT_ADDR_HI_ADDR.off) (BitVec.ofNat 32 ((s.dev.sitEntry n e).addr / 2 ^ 32))).wr
            (Page.hif port + Reg.HIF_SIT_DATA_DATA.off) (BitVec.ofNat 32 (s.dev.sitEntry n e).data)).portEnd (portSit port) Code.ok }) ∧
  (∀ (s : State) (slice entry stamp : Nat),
      slice < 4096 →
      entry < 16 →
      (s.dev.sitEntry slice entry).valid = true →
      s.dev.deliverable slice (s.dev.sitEntry slice entry).incarnation (some (slice, stamp)) = true →
      exec (.sliceInterruptRaise slice entry stamp) s = .next { s with
        dev := if (s.dev.sitEntry slice entry).mask
            then s.dev.setSit slice entry { s.dev.sitEntry slice entry with pending := true }
            else s.dev.sitSend slice (s.dev.sitEntry slice entry) }) ∧
  (∀ (s : State) (slice entry : Nat) (mask : Bool),
      slice < 4096 →
      entry < 16 →
      (s.dev.slice slice).state = .active →
      exec (.sitMaskWrite slice entry mask) s = .next { s with
        dev := if mask = false ∧ (s.dev.sitEntry slice entry).pending
            then (s.dev.setSit slice entry { s.dev.sitEntry slice entry with mask := false, pending := false }).sitSend slice
              (s.dev.sitEntry slice entry)
            else s.dev.setSit slice entry { s.dev.sitEntry slice entry with mask := mask } }) ∧
  (∀ (s : State) (port slice offset rid : Nat) (value : Word) (be : BitVec 4) (stream : Option Nat) (tbit : Bool),
      s.dev.fnReady port 1 = true →
      s.dev.onInsecure port stream = false →
      slice < 4096 →
      offset < 0x10000 →
      s.dev.windowOutcome port slice rid stream tbit = 0 →
      exec (.sliceWindowAccess port slice offset rid true value be stream tbit) s = .next { s with
        dev := s.dev.windowWrite port slice (offset / 4 * 4) rid value.toNat
            (byteMask be) } ∧
      exec (.sliceWindowAccess port slice offset rid false value be stream tbit) s = .next { s with
        dev := s.dev.windowRead port slice (offset / 4 * 4) rid (byteMask be) }) ∧
  (∀ (s : State) (port slice offset rid : Nat) (value : Word) (be : BitVec 4) (stream : Option Nat) (tbit : Bool),
      s.dev.fnReady port 1 = true →
      s.dev.onInsecure port stream = false →
      slice < 4096 →
      offset < 0x10000 →
      s.dev.windowOutcome port slice rid stream tbit = 1 →
      exec (.sliceWindowAccess port slice offset rid true value be stream tbit) s = .next { s with
        dev := s.dev.count (Page.hif port) Reg.HIF_UR_CNT_CNT } ∧
      exec (.sliceWindowAccess port slice offset rid false value be stream tbit) s = .next { s with
        dev := (s.dev.count (Page.hif port) Reg.HIF_UR_CNT_CNT).emit (.readData 0#32) }) ∧
  (∀ (s : State) (port slice offset rid : Nat) (value : Word) (be : BitVec 4) (stream : Option Nat) (tbit : Bool),
      s.dev.fnReady port 1 = true →
      s.dev.onInsecure port stream = false →
      slice < 4096 →
      offset < 0x10000 →
      s.dev.windowOutcome port slice rid stream tbit = 2 →
      exec (.sliceWindowAccess port slice offset rid true value be stream tbit) s = .next { s with
        dev := (((s.dev.count (Page.hif port) Reg.HIF_TEE_REJ_CNT_CNT).confRefused
            slice).pulse 71).aerError port 1 AerBit.unsupported false [slice * 0x10000 + offset, rid] } ∧
      exec (.sliceWindowAccess port slice offset rid false value be stream tbit) s = .next { s with
        dev := ((((s.dev.count (Page.hif port) Reg.HIF_TEE_REJ_CNT_CNT).confRefused
            slice).pulse 71).aerError port 1 AerBit.unsupported true [slice * 0x10000 + offset, rid]).emit .unsupported }) ∧
  (∀ (s : State) (port stream : Nat),
      (s.dev.hostPort port).ideState stream = .secure →
      exec (.ideIntegrityFailure port stream) s = .next { s with
        dev := let d1 := ((s.dev.setHostPort port ((s.dev.hostPort port).setIde stream .insecure)).latchFault
            (Page.hif port) FaultBit.hif_IDE_ERR).pulse 74
          (d1.slices.map (·.1)).foldl (fun (d : Dev) s =>
            if (d.slice s).hostPort = port ∧ (d.slice s).isLocked ∧ (d.slice s).stream = some stream then d.setTdi s .error true else d) d1 }) ∧
  (∀ (s : State) (slice stream : Nat),
      (s.dev.slice slice).tdi = .unlocked →
      (s.dev.slice slice).state = .active →
      bitAt ((s.dev.slice slice).word 0) 30 = true →
      s.dev.queuesIdle slice = true →
      (s.dev.slice slice).keyUsed = 0 →
      s.dev.ownsTransport slice = false →
      1 ≤ stream →
      stream ≤ 8 →
      exec (.lockInterfaceRequest slice stream) s = .next { s with
        dev := ((s.dev.setSlice slice { s.dev.slice slice with stream := some stream }).setTdi slice .locked true).emit
            (.spdm (.pf1 (s.dev.slice slice).hostPort) 0x03 []) }) ∧
  (∀ (s : State) (slice : Nat),
      (s.dev.slice slice).tdi = .locked →
      exec (.startInterfaceRequest slice) s = .next { s with
        dev := (s.dev.setTdi slice .run true).emit (.spdm (.pf1 (s.dev.slice slice).hostPort) 0x05 []) }) ∧
  (∀ (s : State) (slice : Nat),
      (s.dev.slice slice).state = .active →
      exec (.stopInterfaceRequest slice) s = .next { s with
        dev := (s.dev.setTdi slice .unlocked true).emit (.spdm (.pf1 (s.dev.slice slice).hostPort) 0x06 []) }) ∧
  (∀ (s : State) (session port stream : Nat),
      s.dev.doeSession session port = true →
      stream ≤ 8 →
      exec (.ideKmRequest session port stream false) s = .next { s with
        dev := (s.dev.setHostPort port ((s.dev.hostPort port).setIde stream .keyed)).emit (.spdm (.pf0 port) 0x03 []) }) ∧
  (∀ (s : State) (session port stream : Nat),
      s.dev.doeSession session port = true →
      stream ≤ 8 →
      (s.dev.hostPort port).ideState stream = .keyed →
      exec (.ideKmRequest session port stream true) s = .next { s with
        dev := (s.dev.setHostPort port ((s.dev.hostPort port).setIde stream .secure)).emit (.spdm (.pf0 port) 0x06 []) })

/-- The slice operation port, teardown, quarantine and the tenant's counters. Completion: for each of these constructors a
clause concludes that exec answers a next state, under conditions on the state and the operands alone: slcCreate,
slcModify, slcDestroy, slcRead, teardownComplete, quarantineEnd, sliceCounterLoRead. -/
def Obligations.SliceCommands : Prop :=
  (∀ (s : State) (o : PortOp),
      s.dev.portRunning portSlc 1 = some o →
      (s.dev.slice (bits o.word 0 12)).state = .free →
      charterGood (bits o.word 0 12) (o.buf.map (·.toNat)) = true →
      charterPort (o.buf.map (·.toNat)) = 0 →
      s.dev.pasidFree (bits o.word 0 12) 0 (charterPasid (o.buf.map (·.toNat))) = true →
      exec (.slcCreate) s = .next { s with
        dev := ((((((s.dev.clearSit (bits o.word 0 12)).setSlice (bits o.word 0 12) (({
            state := .active
            incarnation := (s.dev.slice (bits o.word 0 12)).incarnation
            charter := charterStored (o.buf.map (·.toNat)) (s.dev.slice (bits o.word 0 12)).incarnation 1
            inflight := (s.dev.slice (bits o.word 0 12)).inflight
            tblUsed := (s.dev.slice (bits o.word 0 12)).tblUsed
            keyUsed := (s.dev.slice (bits o.word 0 12)).keyUsed
            queuesUsed := (s.dev.slice (bits o.word 0 12)).queuesUsed } : Slice).logged
              (charterStored (o.buf.map (·.toNat)) (s.dev.slice (bits o.word 0 12)).incarnation 1) 1)).openChannel
            (bits o.word 0 12)).showSlices).pulse 81).pulse 84).portEnd
            portSlc Code.ok }) ∧
  (∀ (s : State) (o : PortOp) (w : List Nat) (n : Nat),
      s.dev.portRunning portSlc 2 = some o →
      o.buf.map (·.toNat) = w →
      bits o.word 0 12 = n →
      (s.dev.slice n).state = .active →
      charterGood n w = true →
      charterPort w = 0 →
      (s.dev.slice n).isLocked = false →
      (s.dev.slice n).hostPort = 0 →
      (s.dev.slice n).pasid = charterPasid w →
      s.dev.pasidFree n 0 (charterPasid w) = true →
      s.dev.lowered n ((s.dev.slice n).charter.map (·.toNat)) w = false →
      exec (.slcModify) s = .next { s with
        dev := (((s.dev.setSlice n ({ s.dev.slice n with
              charter := charterStored w (s.dev.slice n).incarnation ((s.dev.slice n).seq + 1) }.logged
              (charterStored w (s.dev.slice n).incarnation ((s.dev.slice n).seq + 1)) ((s.dev.slice n).seq + 1))).sliceInterrupt n 15
            (s.dev.slice n).incarnation).pulse 84).portEnd portSlc Code.ok }) ∧
  (∀ (s : State) (o : PortOp),
      s.dev.portRunning portSlc 3 = some o →
      (s.dev.slice (bits o.word 0 12)).state = .active →
      exec (.slcDestroy) s = .next { s with
        dev := let n := bits o.word 0 12
          let v := s.dev.slice n
          let v1 := { v with
            state := .destroying
            incarnation := (v.incarnation + 1) % 256
            keysRetired := false
            firmwareDone := false
            destroyedAt := s.dev.now }.logged (destroyImage n v.incarnation (v.seq + 1)) (v.seq + 1)
          let d1 := (s.dev.setSlice n v1).dropPasid v.hostPort v.pasid
          let d2 := ((if v.isLocked then d1.setTdi n .error false else d1).pulse 82).showSlices
          let d3 := ((((d2.queuesOf n).foldl Dev.endQueue d2).retireKeys n).clearSit n).emptyChannel n
          (((d3.setSlice n { d3.slice n with keysRetired := true }).endTeardown n).pulse 84).portEnd portSlc Code.ok }) ∧
  (∀ (s : State) (o : PortOp),
      s.dev.portRunning portSlc 4 = some o →
      exec (.slcRead) s = .next { s with
        dev := ((List.range 32).foldl (fun (d : Dev) i =>
            d.wr (Page.slc + Reg.SLC_OPRES_DATA.off + 4 * i) (((d.slice (bits o.word 0 12)).charter).getD i 0#32)) s.dev).portEnd portSlc Code.ok }) ∧
  (∀ (s : State) (slice : Nat),
      (s.dev.slice slice).state = .destroying →
      exec (.teardownComplete slice) s = .next { s with
        dev := (s.dev.setSlice slice { s.dev.slice slice with firmwareDone := true }).endTeardown slice }) ∧
  (∀ (s : State) (slice : Nat),
      (s.dev.slice slice).state = .quarantine →
      (s.dev.slice slice).inflight = 0 →
      (s.dev.slice slice).tblUsed = 0 →
      (s.dev.slice slice).keyUsed = 0 →
      (s.dev.slice slice).queuesUsed = 0 →
      (s.dev.slice slice).destroyedAt + s.dev.fget Page.slc Reg.SLC_QUAR_MIN_MS * 1000000 ≤ s.dev.now →
      exec (.quarantineEnd slice) s = .next { s with
        dev := ((s.dev.setSlice slice { incarnation := (s.dev.slice slice).incarnation, mgrWire := (s.dev.slice slice).mgrWire, tenantWire := (s.dev.slice slice).tenantWire }).showSlices).pulse 83 }) ∧
  (∀ (s : State) (slice counter : Nat),
      counter < 4 →
      (s.dev.slice slice).state = .active →
      exec (.sliceCounterLoRead slice counter) s = .next { s with
        dev := (s.dev.setSlice slice { s.dev.slice slice with
            tenantWire := (s.dev.slice slice).tenantWire.put counter 0
            hiLatch := (s.dev.slice slice).hiLatch.put counter (bits ((s.dev.slice slice).tenantWire.nth counter) 32 32) }).emit
            (.readData (BitVec.ofNat 32 ((s.dev.slice slice).tenantWire.nth counter &&& 0xFFFFFFFF))) })

/-- Operations on queue contexts, doorbells and queue commands. Completion: for each of these constructors a clause concludes
that exec answers a next state, under conditions on the state and the operands alone: queCreate, queModify, queDestroy,
queRead, sqPiDoorbell, cqCiDoorbell, queueStart, queueStop, queueReset, queueResume, doorbellRead. -/
def Obligations.QueueCommandsComplete : Prop :=
  (∀ (s : State) (o : PortOp) (q : Nat) (w : List Nat),
      s.dev.portRunning portQue 1 = some o →
      bits o.word 0 16 = q →
      (List.range 16).map (wordAt o.buf) = w →
      (s.dev.queue q).state = .free →
      Ctx.mgr w = true →
      s.dev.ctxMalformed w = false →
      exec (.queCreate) s = .next { s with
        dev := (((s.dev.putContext q w (((s.dev.queue q).qgen + 1) % 256) 1).setQueue q
            { state := .idle, qgen := ((s.dev.queue q).qgen + 1) % 256, incarnation := 0 }).showQueueCount).portEnd portQue Code.ok }) ∧
  (∀ (s : State) (o : PortOp) (q : Nat) (w : List Nat),
      s.dev.portRunning portQue 2 = some o →
      bits o.word 0 16 = q →
      (List.range 16).map (wordAt o.buf) = w →
      (s.dev.queue q).state ≠ .free →
      s.dev.qManager q = true →
      s.dev.ctxMalformed w = false →
      ctxFixed w = ctxFixed (s.dev.ctxWords q) →
      exec (.queModify) s = .next { s with
        dev := (s.dev.putContext q w (s.dev.queue q).qgen (s.dev.queue q).state.num).portEnd portQue Code.ok }) ∧
  (∀ (s : State) (o : PortOp),
      s.dev.portRunning portQue 3 = some o →
      (s.dev.queue (bits o.word 0 16)).state = .idle →
      s.dev.qManager (bits o.word 0 16) = true →
      exec (.queDestroy) s = .next { s with
        dev := (s.dev.freeQueue (bits o.word 0 16)).portEnd portQue Code.ok }) ∧
  (∀ (s : State) (o : PortOp),
      s.dev.portRunning portQue 4 = some o →
      exec (.queRead) s = .next { s with
        dev := (((s.dev.ctxWords (bits o.word 0 16)).zipIdx).foldl (fun (d : Dev) e => d.fset Page.que (Reg.QUE_OPRES_DATA.nth 4 e.2)
            (if (o.req != .welbor && !s.dev.qManager (bits o.word 0 16) && (s.dev.slice (s.dev.qSlice (bits o.word 0 16))).isLocked) = true
              ∧ 2 ≤ e.2 ∧ e.2 ≤ 5 then 0 else e.1)) s.dev).portEnd portQue Code.ok }) ∧
  (∀ (s : State) (port queue q : Nat) (owner : Option Nat) (value : BitVec 17),
      s.dev.doorbellOpen port owner = true →
      s.dev.doorbellQueue port owner queue = some q →
      (rebuildIndex (s.dev.queue q).sqPi value.toNat + 2 ^ 32 - (s.dev.queue q).sqCi) % 2 ^ 32 ≤ s.dev.sqSize q →
      exec (.sqPiDoorbell port queue owner value) s = .next { s with
        dev := s.dev.setQueue q { s.dev.queue q with sqPi := rebuildIndex (s.dev.queue q).sqPi value.toNat } }) ∧
  (∀ (s : State) (port queue q : Nat) (owner : Option Nat) (value : BitVec 17),
      s.dev.doorbellOpen port owner = true →
      s.dev.doorbellQueue port owner queue = some q →
      ((s.dev.queue q).cqPi + 2 ^ 32 - rebuildIndex (s.dev.queue q).cqCi value.toNat) % 2 ^ 32
      ≤ ((s.dev.queue q).cqPi + 2 ^ 32 - (s.dev.queue q).cqCi) % 2 ^ 32 →
      exec (.cqCiDoorbell port queue owner value) s = .next { s with
        dev := s.dev.setQueue q { s.dev.queue q with cqCi := rebuildIndex (s.dev.queue q).cqCi value.toNat } }) ∧
  (∀ (s : State) (queue : Nat),
      s.dev.qReady queue = true →
      (s.dev.queue queue).state = .idle →
      exec (.queueStart none queue) s = .next { s with
        dev := s.dev.setQState queue .run } ∧
      exec (.queueReset none queue) s = .next { s with
        dev := (s.dev.setQueue queue { s.dev.queue queue with
            sqPi := 0, sqCi := 0, cqPi := 0, cqCi := 0, waited := false }).setQGen queue ((s.dev.queue queue).qgen + 1) }) ∧
  (∀ (s : State) (queue : Nat),
      s.dev.qReady queue = true →
      (s.dev.queue queue).state = .run →
      exec (.queueStop none queue) s = .next { s with
        dev := s.dev.beginStop queue .stopping }) ∧
  (∀ (s : State) (queue : Nat),
      s.dev.qReady queue = true →
      (s.dev.queue queue).state = .error →
      (s.dev.queue queue).errCode ≠ QErr.context →
      exec (.queueResume none queue) s = .next { s with
        dev := s.dev.setQState queue .run } ∧
      exec (.queueReset none queue) s = .next { s with
        dev := s.dev.beginStop queue .resetting }) ∧
  (∀ (s : State) (queue : Nat) (r : Requester),
      s.dev.unreachable (Page.que + Reg.QUE_QCTL_ENABLE.off) = none →
      s.dev.qManager queue = true →
      ((s.dev.setQueue queue { s.dev.queue queue with enable := true }).queue queue).state = .idle →
      s.dev.asleep r = false →
      exec (.queueStart (some r) queue) s = .next { s with
        dev := (s.dev.setQueue queue { s.dev.queue queue with enable := true }).setQState queue .run }) ∧
  (∀ (s : State) (port queue q : Nat) (owner : Option Nat),
      s.dev.doorbellOpen port owner = true →
      s.dev.doorbellQueue port owner queue = some q →
      exec (.doorbellRead port queue owner) s = .next { s with
        dev := s.dev.emit (.readData (BitVec.ofNat 32 ((s.dev.queue q).state.num * 2 ^ 29
            + (s.dev.queue q).qgen * 2 ^ 21 + (s.dev.queue q).sqCi % 2 ^ 17))) })

/-- The work of queues: fetch, transmit, receive, cipher, completions, interrupts and held operations. Completion: for each of
these constructors a clause concludes that exec answers a next state, under conditions on the state and the operands
alone: entryFetch, send, recv, framePlacement, rxHoldExpiry, cipher, completionWrite, irqDelayExpiry, heldOperationStart. -/
def Obligations.QueueWorkCommands : Prop :=
  (∀ (s : State) (queue : Nat) (img desc : List Byte) (d d1 : Dev),
      s.dev.mayFetch queue = true →
      s.dev.lineUncorrectable (s.dev.ctxAddr queue) = false →
      s.dev.hostFetch (s.dev.qPort queue) (s.dev.sqBase queue + (s.dev.queue queue).sqCi % s.dev.sqSize queue * 64) 64
      (s.dev.qAttr queue false) = (img, d) →
      s.dev.readsTable queue img = false →
      d.fetchDesc queue img = (desc, d1) →
      exec (.entryFetch queue .data) s = .next { s with
        dev := d1.takeEntry queue img desc }) ∧
  (∀ (s : State) (queue : Nat) (e : QueueEntry) (die deep : Nat),
      s.dev.nextEntry queue 0x01 = some e →
      s.dev.working queue = true →
      s.dev.qReady queue = true →
      s.dev.qType queue = typeTx →
      sendMalformed e.head = false →
      s.dev.accepts Page.cru = true →
      s.dev.placeCells (cellsOf e.total) (s.dev.freeDie - s.dev.fget Page.cru Reg.CRU_RESERVE_CELLS) = .take die deep →
      s.dev.heldByPrg (s.dev.qPort queue) (.entry queue e.index) = false →
      exec (.send queue .data) s = .next { s with
        dev := s.dev.enterFrame queue e die deep }) ∧
  (∀ (s : State) (queue : Nat) (e : QueueEntry),
      (s.dev.queue queue).entries.find? (fun e => e.opcode == 0x10 && !e.accepted && e.ended.isNone) = some e →
      s.dev.working queue = true →
      exec (.recv queue) s = .next { s with
        dev := s.dev.modEntry queue e.index (fun e => { e with accepted := true }) }) ∧
  (∀ (s : State) (queue : Nat) (p : Placement),
      s.dev.working queue = true →
      s.dev.qReady queue = true →
      (s.dev.queue queue).placing = some p →
      s.dev.qManager queue = true →
      exec (.framePlacement queue) s = .next { s with
        dev := s.dev.placeInto queue 128 p }) ∧
  (∀ (s : State) (queue : Nat) (p : Placement),
      (s.dev.queue queue).placing = some p →
      p.hold = true →
      s.dev.entryAvailable queue = false →
      exec (.rxHoldExpiry queue) s = .next { s with
        dev := ((s.dev.finishFrame queue p Code.truncated).count Page.que Reg.QUE_RX_TRUNC_CNT_CNT).pulse 357 }) ∧
  (∀ (s : State) (queue : Nat) (e : QueueEntry),
      s.dev.nextEntry queue 0x20 = some e →
      s.dev.working queue = true →
      s.dev.qReady queue = true →
      s.dev.qType queue = typeCipher →
      cipherMalformed e = false →
      s.dev.heldByPrg (s.dev.qPort queue) (.entry queue e.index) = false →
      exec (.cipher queue .data) s = .next { s with
        dev := s.dev.submitCipher queue e }) ∧
  (∀ (s : State) (queue : Nat) (c : Completion) (rest : List Completion) (w : Nat) (ws : List Nat) (d : Dev),
      (s.dev.takeSent queue).abortUnfetched queue = d →
      (d.queue queue).backlog = c :: rest →
      c.words = w :: ws →
      d.journalReached c.journal = true →
      (d.queue queue).state = .run →
      c.qgen = (d.queue queue).qgen →
      d.qManager queue = true →
      d.cqFull queue = false →
      d.qReady queue = true →
      exec (.completionWrite queue) s = .next { s with
        dev := let v := d.queue queue
          let d1 := d.setQueue queue { v with
            backlog := rest
            waited := v.waited && rest != []
            cqPi := (v.cqPi + 1) % 2 ^ 32 }
          let d2 := d1.hwrite (d.qPort queue) (d.cqBase queue + v.cqPi % d.cqSize queue * 32)
            (((w + if v.cqPi / d.cqSize queue % 2 = 0 then 2 ^ 31 else 0) :: ws).flatMap (toLe 4)) (d.qAttr queue false)
          ((((d2.wcount Page.que 2).countRxWire queue c).countIrq queue).releaseSlice none).settle queue }) ∧
  (∀ (s : State) (queue t : Nat),
      (s.dev.queue queue).irqFrom = some t →
      s.dev.qIrqEn queue = true →
      s.dev.qIrqUs queue ≠ 0 →
      t + s.dev.qIrqUs queue * 1000 ≤ s.dev.now →
      exec (.irqDelayExpiry queue) s = .next { s with
        dev := s.dev.raiseQueueIrq queue }) ∧
  (∀ (s : State) (page : Nat) (i : PortInfo) (req : Requester),
      portOf page = some i →
      (s.dev.port i.page).run = none →
      (s.dev.port i.page).held = some req →
      exec (.heldOperationStart page) s = .next { s with
        dev := (s.dev.setPort i.page { s.dev.port i.page with held := none }).portStart i req })

/-- Movers: GO, STOP, triggers, descriptor fetch, bursts and chain ends. Completion: for each of these constructors a clause
concludes that exec answers a next state, under conditions on the state and the operands alone: moverGo, moverStop,
moverTrigger, descriptorFetch, burstIssue, chainEnd, fence, dcinv. -/
def Obligations.MoverCommands : Prop :=
  (∀ (s : State) (req : Requester) (mover : Nat),
      req.isManager = false →
      s.dev.unreachable (Page.blp mover + Reg.BLP_CTL_GO.off) = none →
      s.dev.accepts (Page.blp mover) = true →
      s.dev.moverState mover ≠ moverRun →
      s.dev.moverState mover ≠ moverWait →
      s.dev.asleep req = false →
      exec (.moverGo req mover) s = .next { s with
        dev := (((((s.dev.fset (Page.blp mover) Reg.BLP_STAT_ERR 0).fset (Page.blp mover) Reg.BLP_DESC_CNT_CNT 0).fset
            (Page.blp mover) Reg.BLP_REMAIN_BYTES 0).setMoverState mover moverRun).setMover mover { nextDesc := s.dev.moverHead mover }) }) ∧
  (∀ (s : State) (req : Requester) (mover : Nat),
      req.isManager = false →
      s.dev.unreachable (Page.blp mover + Reg.BLP_CTL_GO.off) = none →
      s.dev.accepts (Page.blp mover) = true →
      s.dev.moverState mover = moverRun ∨ s.dev.moverState mover = moverWait →
      s.dev.asleep req = false →
      exec (.moverGo req mover) s = .next { s with
        dev := s.dev.count (Page.blp mover) Reg.BLP_GO_IGN_CNT }) ∧
  (∀ (s : State) (req : Requester) (mover : Nat),
      req.isManager = false →
      s.dev.unreachable (Page.blp mover + Reg.BLP_CTL_STOP.off) = none →
      s.dev.moverState mover = moverRun ∨ s.dev.moverState mover = moverWait →
      (s.dev.mover mover).acks.any (·.1) = false →
      s.dev.asleep req = false →
      exec (.moverStop req mover) s = .next { s with
        dev := ((s.dev.setMoverState mover moverStopped).setMover mover
            { s.dev.mover mover with fetched := false, acks := [] }).releasePorts mover }) ∧
  (∀ (s : State) (mover : Nat),
      s.dev.accepts (Page.blp mover) = true →
      s.dev.fbit (Page.blp mover) Reg.BLP_CTL_TRIG_EN = true →
      s.dev.fbit (Page.blp mover) Reg.BLP_STAT_TRIG_PEND = false →
      exec (.moverTrigger mover) s = .next { s with
        dev := if s.dev.moverState mover = moverRun ∨ s.dev.moverState mover = moverWait
            then s.dev.fset (Page.blp mover) Reg.BLP_STAT_TRIG_PEND 1 else s.dev.startChain mover }) ∧
  (∀ (s : State) (mover src dst len control nxt : Nat),
      s.dev.moverState mover = moverRun →
      (s.dev.mover mover).fetched = false →
      (s.dev.mover mover).acks = [] →
      s.dev.fget (Page.blp mover) Reg.BLP_DESC_MAX_MAX = 0 →
      (s.dev.mover mover).nextDesc % 2 = 0 →
      (s.dev.mover mover).nextDesc / 32 * 32 + 32 ≤ spaceEnd 0 →
      s.dev.inDeepCrucible ((s.dev.mover mover).nextDesc / 32 * 32) 32 = false →
      s.dev.spaceUe 0 ((s.dev.mover mover).nextDesc / 32 * 32) 32 = false →
      ofLe (cut (s.dev.gread ((s.dev.mover mover).nextDesc / 32 * 32) 32) 0 8) = src →
      ofLe (cut (s.dev.gread ((s.dev.mover mover).nextDesc / 32 * 32) 32) 8 8) = dst →
      ofLe (cut (s.dev.gread ((s.dev.mover mover).nextDesc / 32 * 32) 32) 16 4) = len →
      ofLe (cut (s.dev.gread ((s.dev.mover mover).nextDesc / 32 * 32) 32) 20 4) = control →
      ofLe (cut (s.dev.gread ((s.dev.mover mover).nextDesc / 32 * 32) 32) 24 8) = nxt →
      descMalformed s.dev.split src dst len control nxt = false →
      s.dev.inDeepCrucible src len = false →
      s.dev.inDeepCrucible dst len = false →
      ctlDstSpace control ≠ 4 →
      exec (.descriptorFetch mover) s = .next { s with
        dev := (((s.dev.wr (Page.blp mover + Reg.BLP_CUR_LO_ADDR.off) (BitVec.ofNat 32 (s.dev.mover mover).nextDesc)).fset
            (Page.blp mover) Reg.BLP_CUR_HI_ADDR ((s.dev.mover mover).nextDesc / 2 ^ 32)).fset (Page.blp mover) Reg.BLP_REMAIN_BYTES len).setMover
            mover { s.dev.mover mover with
              fetched := true, src := src, dst := dst, len := len, control := control, nextWord := nxt
              nextDesc := if bitAt nxt 0 then (s.dev.mover mover).nextDesc else bits nxt 5 30 * 32 + bits nxt 1 1 } }) ∧
  (∀ (s : State) (mover : Nat) (portReady : Bool) (answer : HostAnswer),
      (s.dev.mover mover).fetched = true →
      s.dev.moverState mover = moverRun →
      ctlDstSpace (s.dev.mover mover).control ≠ 4 →
      s.dev.burstError (s.dev.mover mover) ((s.dev.mover mover).len - s.dev.fget (Page.blp mover) Reg.BLP_REMAIN_BYTES)
      (burstLen (if ctlFill (s.dev.mover mover).control then (s.dev.mover mover).len - s.dev.fget (Page.blp mover) Reg.BLP_REMAIN_BYTES
      else (s.dev.mover mover).src + ((s.dev.mover mover).len - s.dev.fget (Page.blp mover) Reg.BLP_REMAIN_BYTES))
      (s.dev.fget (Page.blp mover) Reg.BLP_REMAIN_BYTES)) = none →
      s.dev.moverSource (s.dev.mover mover).control = none →
      burstLen (if ctlFill (s.dev.mover mover).control then (s.dev.mover mover).len - s.dev.fget (Page.blp mover) Reg.BLP_REMAIN_BYTES
      else (s.dev.mover mover).src + ((s.dev.mover mover).len - s.dev.fget (Page.blp mover) Reg.BLP_REMAIN_BYTES))
      (s.dev.fget (Page.blp mover) Reg.BLP_REMAIN_BYTES) < s.dev.fget (Page.blp mover) Reg.BLP_REMAIN_BYTES →
      exec (.burstIssue mover portReady answer) s = .next { s with
        dev := let left := s.dev.fget (Page.blp mover) Reg.BLP_REMAIN_BYTES
          let st := s.dev.mover mover
          let o := st.len - left
          let n := burstLen (if ctlFill st.control then o else st.src + o) left
          ((((s.dev.setMoverState mover moverRun).spaceWrite (s.dev.moverSpace st.control (ctlDstSpace st.control)) (st.dst + o)
            (s.dev.burstData st o n) (s.dev.moverAttr st.control)).wcount (Page.blp mover) 1 n).fset (Page.blp mover) Reg.BLP_REMAIN_BYTES (left - n)) }) ∧
  (∀ (s : State) (mover : Nat) (pulse : Bool) (rest : List (Bool × Bool)),
      (s.dev.mover mover).acks = (true, pulse) :: rest →
      ((((s.dev.setMover mover { s.dev.mover mover with acks := rest }).wcount (Page.blp mover) 2).setMoverState mover moverIdle).pulse
      (384 + mover)).fbit (Page.blp mover) Reg.BLP_STAT_TRIG_PEND = false →
      exec (.chainEnd mover) s = .next { s with
        dev := (((s.dev.setMover mover { s.dev.mover mover with acks := rest }).wcount (Page.blp mover) 2).setMoverState mover
            moverIdle).pulse (384 + mover) }) ∧
  (∀ (s : State) (pair : Nat),
      exec (.fence pair) s = .next { s with
        dev := (((s.dev.pair pair).buffer.foldl (fun (d : Dev) e => d.spaceWrite (e.1 / 2 ^ 40) (e.1 % 2 ^ 40) e.2 {}) s.dev)).setPair
            pair { s.dev.pair pair with buffer := [] } }) ∧
  (∀ (s : State) (pair addr len : Nat),
      exec (.dcinv pair addr len) s = .next { s with
        dev := s.dev.setPair pair { s.dev.pair pair with
            cache := (s.dev.pair pair).cache.filter (fun l => !overlap addr len (l * 64) 64) } })

/-- Sources, PEND, routes and software events. Completion: for each of these constructors a clause concludes that exec answers
a next state, under conditions on the state and the operands alone: eventSourceAssert, pendClear, routeUnmask,
softwareEvent. -/
def Obligations.EventSourceCommands : Prop :=
  (∀ (s : State) (source : Nat),
      isLevel source = false →
      isReserved source = false →
      s.dev.wakeEnabled source = false →
      s.dev.domainOn 1 = true →
      s.dev.pend source = false →
      exec (.eventSourceAssert source) s = .next { s with
        dev := if (s.dev.setPend source true).masked source then s.dev.setPend source true
            else (s.dev.setPend source true).deliver source }) ∧
  (∀ (s : State) (source : Nat),
      isLevel source = false →
      isReserved source = false →
      s.dev.wakeEnabled source = false →
      s.dev.domainOn 1 = true →
      s.dev.pend source = true →
      exec (.eventSourceAssert source) s = .next { s with
        dev := s.dev.count Page.evtg Reg.EVTG_MERGE_CNT_CNT }) ∧
  (∀ (s : State) (source : Nat),
      isLevel source = true →
      exec (.eventSourceAssert source) s = .next { s with
        dev := s.dev.refreshLevel source }) ∧
  (∀ (s : State) (req : Requester) (word : Nat) (mask : Word),
      word < 16 →
      s.dev.unreachable (Page.evtState + 0x140 + 4 * word) = none →
      s.dev.asleep req = false →
      exec (.pendClear req word mask) s = .next { s with
        dev := (List.range 32).foldl (fun (d : Dev) i =>
            if mask.getLsbD i then (if d.pend (32 * word + i) then (d.setPend (32 * word + i) false).refreshLevel (32 * word + i) else d)
            else d) s.dev }) ∧
  (∀ (s : State) (req : Requester) (source : Nat),
      source < 512 →
      s.dev.unreachable (routePage source + (routeFld Reg.EVT_RTB_MASK source).off) = none →
      s.dev.masked source = true →
      s.dev.asleep req = false →
      exec (.routeUnmask req source) s = .next { s with
        dev := (s.dev.fset (routePage source) (routeFld Reg.EVT_RTB_MASK source) 0).deliverPending source }) ∧
  (∀ (s : State) (req : Requester) (events : BitVec 16),
      s.dev.unreachable (Page.evtg + Reg.EVTG_SWSET_SW.off) = none →
      s.dev.asleep req = false →
      exec (.softwareEvent req events) s = .next { s with
        dev := (List.range 16).foldl (fun (d : Dev) i => if events.getLsbD i then d.pulse (16 + i) else d) s.dev })

/-- Board inputs: activation, hold-off, stuck inputs and re-arming. Completion: for each of these constructors a clause
concludes that exec answers a next state, under conditions on the state and the operands alone: binActivation, binStuck,
binUnmask, binInactive. -/
def Obligations.BoardInputCommands : Prop :=
  (∀ (s : State) (input : Nat),
      input < 4 →
      (s.dev.bin input).active = false →
      s.dev.fbit Page.evtAon (binStuckFld input) = false →
      (s.dev.bin input).needsInactive = false →
      s.dev.inHoldoff input = false →
      exec (.binActivation input) s = .next { s with
        dev := (s.dev.setBin input { s.dev.bin input with
              active := true, lastAccepted := some s.dev.now
              timing := true }).pulse (496 + input) }) ∧
  (∀ (s : State) (input : Nat),
      input < 4 →
      (s.dev.bin input).active = false →
      s.dev.fbit Page.evtAon (binStuckFld input) = false →
      (s.dev.bin input).needsInactive = false →
      s.dev.inHoldoff input = true →
      exec (.binActivation input) s = .next { s with
        dev := (s.dev.setBin input { s.dev.bin input with active := true }).count Page.evtAon Reg.EVT_BIN_HOLD_CNT_CNT }) ∧
  (∀ (s : State) (input : Nat),
      input < 4 →
      (s.dev.bin input).active = false →
      (s.dev.bin input).needsInactive = true →
      exec (.binActivation input) s = .next { s with
        dev := s.dev.setBin input { s.dev.bin input with active := true } }) ∧
  (∀ (s : State) (input : Nat),
      input < 4 →
      (s.dev.bin input).active = true →
      (s.dev.bin input).timing = true →
      s.dev.fget Page.evtAon (binCfg Reg.EVT_BIN_STUCK_STUCK input) ≠ 0 →
      exec (.binStuck input) s = .next { s with
        dev := (((s.dev.setBin input { s.dev.bin input with timing := false, needsInactive := true }).fset Page.evtAon
            (binStuckFld input) 1).pulse (500 + input)).latchFault Page.evtAon FaultBit.evtAon_BIN_STUCK }) ∧
  (∀ (s : State) (req : Requester) (mask : BitVec 4),
      s.dev.unreachable (Page.evtAon + Reg.EVT_BIN_STAT_STUCK.off) = none →
      s.dev.asleep req = false →
      exec (.binUnmask req mask) s = .next { s with
        dev := (List.range 4).foldl (fun (d : Dev) n =>
            if mask.getLsbD n then d.fset Page.evtAon (binStuckFld n) 0 else d) s.dev }) ∧
  (∀ (s : State) (input : Nat),
      input < 4 →
      exec (.binInactive input) s = .next { s with
        dev := s.dev.setBin input { s.dev.bin input with active := false, timing := false, needsInactive := false } })

/-- Mailboxes and the requests that firmware serves. Completion: for each of these constructors a clause concludes that exec
answers a next state, under conditions on the state and the operands alone: mbxSend, mbxPop, sliceCreate, sliceModify,
sliceDestroy, poolSet, move, otpWrite, otpProgramEnd, lifecycleAdvance. -/
def Obligations.MailboxCommands : Prop :=
  (∀ (s : State) (req : Requester) (box : MailEnd) (base : Nat) (pasid : Option Nat),
      mailExists box = true →
      mailBase box = some base →
      s.dev.mailAllows req box = true →
      s.dev.unreachable (base + 0x40) = none →
      s.dev.mailRoom box = true →
      s.dev.asleep req = false →
      exec (.mbxSend req box pasid) s = .next { s with
        dev := s.dev.mailPush (mailOther box) ⟨(s.dev.mailBox box).tx, s.dev.mailStamp req box pasid⟩ }) ∧
  (∀ (s : State) (req : Requester) (box : MailEnd) (base : Nat) (pasid : Option Nat),
      mailExists box = true →
      mailBase box = some base →
      s.dev.mailAllows req box = true →
      s.dev.unreachable (base + 0x40) = none →
      s.dev.mailRoom box = false →
      s.dev.asleep req = false →
      exec (.mbxSend req box pasid) s = .next { s with
        dev := s.dev.mailFull req box }) ∧
  (∀ (s : State) (port rid n : Nat) (pasid : Option Nat),
      n < 4096 →
      s.dev.domainOn 0 = true →
      (s.dev.slice n).state = .active →
      s.dev.mailRoom (.tenant n) = true →
      exec (.mbxSend (.manager port rid) (.tenant n) pasid) s = .next { s with
        dev := s.dev.mailPush (.welbor n) ⟨(s.dev.mailBox (.tenant n)).tx, s.dev.mailStamp (.manager port rid) (.tenant n) pasid⟩ }) ∧
  (∀ (s : State) (n inc : Nat) (w : List Nat) (rest : List (Nat × List Nat)) (d : Dev),
      n < 4096 →
      s.dev.domainOn 0 = true →
      (s.dev.channel n).chunks = (inc, w) :: rest →
      s.dev.deliverable n (s.dev.channel n).incarnation (some (n, inc)) = true →
      s.dev.setMailBox (.welbor n) { s.dev.mailBox (.welbor n) with tx := w } = d →
      d.mailRoom (.welbor n) = true →
      exec (.mbxSend .welbor (.welbor n) none) s = .next { s with
        dev := (d.mailSend .welbor (.welbor n) none).setChannel n
            { (d.mailSend .welbor (.welbor n) none).channel n with chunks := rest } }) ∧
  (∀ (s : State) (req : Requester) (c base : Nat) (m : Message) (rest : List Message),
      mailExists (.manager c) = true →
      mailBase (.manager c) = some base →
      s.dev.mailAllows req (.manager c) = true →
      s.dev.unreachable (base + 0x48) = none →
      (s.dev.mailBox (.manager c)).queue = m :: rest →
      s.dev.asleep req = false →
      exec (.mbxPop req (.manager c)) s = .next { s with
        dev := ((s.dev.setMailBox (.manager c) { s.dev.mailBox (.manager c) with queue := rest }).showMail (.manager c)).releaseSlice m.stampOf }) ∧
  (∀ (s : State) (req : Requester) (c base : Nat) (m : Message) (rest : List Message),
      mailExists (.x c) = true →
      mailBase (.x c) = some base →
      s.dev.mailAllows req (.x c) = true →
      s.dev.unreachable (base + 0x48) = none →
      (s.dev.mailBox (.x c)).queue = m :: rest →
      s.dev.asleep req = false →
      exec (.mbxPop req (.x c)) s = .next { s with
        dev := ((s.dev.setMailBox (.x c) { s.dev.mailBox (.x c) with queue := rest }).showMail (.x c)).releaseSlice m.stampOf }) ∧
  (∀ (s : State) (req : Requester) (c base : Nat) (m : Message) (rest : List Message),
      mailExists (.y c) = true →
      mailBase (.y c) = some base →
      s.dev.mailAllows req (.y c) = true →
      s.dev.unreachable (base + 0x48) = none →
      (s.dev.mailBox (.y c)).queue = m :: rest →
      s.dev.asleep req = false →
      exec (.mbxPop req (.y c)) s = .next { s with
        dev := ((s.dev.setMailBox (.y c) { s.dev.mailBox (.y c) with queue := rest }).showMail (.y c)).releaseSlice m.stampOf }) ∧
  (∀ (s : State) (req : Requester) (c : Nat) (m : Message) (rest : List Message),
      c < 32 →
      s.dev.mailAllows req (.firmware c) = true →
      s.dev.unreachable (Page.mbx c + 0x200 + 0x48) = none →
      (s.dev.mailBox (.firmware c)).queue = m :: rest →
      s.dev.asleep req = false →
      exec (.mbxPop req (.firmware c)) s = .next { s with
        dev := 
          if m.tag ≠ 0 ∧ fwOpcodes.contains m.opcode = false ∧ s.dev.mailRoom (.firmware c) = true then
            (s.dev.mailPop (.firmware c)).fwAnswer c m.opcode m.tag Code.malformed
          else s.dev.mailPop (.firmware c) }) ∧
  (∀ (s : State) (n : Nat) (m : Message) (rest : List Message),
      n < 4096 →
      s.dev.domainOn 0 = true →
      (s.dev.mailBox (.welbor n)).queue = m :: rest →
      exec (.mbxPop .welbor (.welbor n)) s = .next { s with
        dev := (s.dev.mailPop (.welbor n)).takeChunk n m }) ∧
  (∀ (s : State) (c : Nat) (m : Message) (d : Dev) (n : Nat) (img : List Word) (e : Dev) (code : Nat),
      s.dev.fwRequest c 0x0101 = some m →
      s.dev.mailPop (.firmware c) = d →
      s.dev.portFree portSlc = true →
      m.field 16 2 % 4096 = n →
      bytesWords 32 (d.hread m.port (m.field 8 8) 128) = img →
      ((d.hostFetch m.port (m.field 8 8) 128 {}).2.slcIssue 1 n img (fun d => Dev.sliceCreate d n (img.map (·.toNat)))).1 = code →
      ((d.hostFetch m.port (m.field 8 8) 128 {}).2.slcIssue 1 n img (fun d => Dev.sliceCreate d n (img.map (·.toNat)))).2 = e →
      exec (.sliceCreate c) s = .next { s with
        dev := (if code = Code.ok then e.deriveCharter n else e).fwAnswer c 0x0101 m.tag code }) ∧
  (∀ (s : State) (c : Nat) (m : Message) (d : Dev) (n : Nat) (img : List Word) (e : Dev) (code : Nat),
      s.dev.fwRequest c 0x0102 = some m →
      s.dev.mailPop (.firmware c) = d →
      s.dev.portFree portSlc = true →
      m.field 16 2 % 4096 = n →
      bytesWords 32 (d.hread m.port (m.field 8 8) 128) = img →
      ((d.hostFetch m.port (m.field 8 8) 128 {}).2.slcIssue 2 n img (fun d => Dev.sliceModify d n (img.map (·.toNat)))).1 = code →
      ((d.hostFetch m.port (m.field 8 8) 128 {}).2.slcIssue 2 n img (fun d => Dev.sliceModify d n (img.map (·.toNat)))).2 = e →
      exec (.sliceModify c) s = .next { s with
        dev := (if code = Code.ok then e.deriveCharter n else e).fwAnswer c 0x0102 m.tag code }) ∧
  (∀ (s : State) (c : Nat) (m : Message) (d : Dev),
      s.dev.fwRequest c 0x0103 = some m →
      s.dev.mailPop (.firmware c) = d →
      s.dev.portFree portSlc = true →
      exec (.sliceDestroy c) s = .next { s with
        dev := 
          (d.slcIssue 3 (m.field 16 2 % 4096) [] (fun d => d.sliceDestroy (m.field 16 2 % 4096))).2.fwAnswer c 0x0103 m.tag
            (d.slcIssue 3 (m.field 16 2 % 4096) [] (fun d => d.sliceDestroy (m.field 16 2 % 4096))).1 }) ∧
  (∀ (s : State) (c : Nat) (m : Message) (d : Dev),
      s.dev.fwRequest c 0x0104 = some m →
      s.dev.mailPop (.firmware c) = d →
      m.field 8 1 ≤ 3 →
      (poolRange (m.field 8 1)).1 ≤ m.field 12 4 →
      m.field 12 4 + m.field 16 4 ≤ (poolRange (m.field 8 1)).2 →
      exec (.poolSet c) s = .next { s with
        dev := (d.setWel { d.wel with pools := Sparse.set (blank (0, 0)) d.wel.pools (m.field 8 1) (m.field 12 4, m.field 16 4) }).fwAnswer
            c 0x0104 m.tag Code.ok }) ∧
  (∀ (s : State) (c : Nat) (m : Message) (d : Dev),
      s.dev.fwRequest c 0x0104 = some m →
      s.dev.mailPop (.firmware c) = d →
      3 < m.field 8 1 ∨ m.field 12 4 < (poolRange (m.field 8 1)).1 ∨ (poolRange (m.field 8 1)).2 < m.field 12 4 + m.field 16 4 →
      exec (.poolSet c) s = .next { s with
        dev := d.fwAnswer c 0x0104 m.tag Code.malformed }) ∧
  (∀ (s : State) (c : Nat) (m : Message) (mv : Nat) (a : HostAnswer) (src dst len ctl : Nat) (d1 d2 d3 : Dev),
      s.dev.fwRequest c 0x0201 = some m →
      (s.dev.mover mv).move ≠ some c →
      s.dev.movers.any (fun e => e.2.move == some c) = false →
      s.dev.moverFree mv = true →
      m.field 8 8 = src →
      m.field 16 8 = dst →
      m.field 24 4 = len →
      bits (m.field 28 1) 0 3 + bits (m.field 28 1) 4 3 * 2 ^ 4 + bits (m.field 29 1) 0 2 * 2 ^ 8 + 2 ^ 11 = ctl →
      bits (m.field 28 1) 0 3 = 0 ∨ bits (m.field 28 1) 0 3 = 2 ∨ bits (m.field 28 1) 0 3 = 3 →
      bits (m.field 28 1) 4 3 = 0 ∨ bits (m.field 28 1) 4 3 = 2 ∨ bits (m.field 28 1) 4 3 = 3 →
      ¬ (bits (m.field 28 1) 0 3 = 0 ∧ s.dev.moveForbidden src len = true) →
      ¬ (bits (m.field 28 1) 4 3 = 0 ∧ s.dev.moveForbidden dst len = true) →
      descMalformed s.dev.split src dst len ctl 1 = false →
      (((s.dev.startChain mv).setMover mv { fetched := true, src := src, dst := dst, len := len, control := ctl, nextWord := 1, move := some c }).fset (Page.blp mv) Reg.BLP_REMAIN_BYTES len) = d1 →
      d1.runBursts mv a ((d1.mover mv).len / 256 + 2) = d2 →
      (d2.mover mv).fetched = false →
      d2.moverState mv ≠ moverError →
      d2.moverState mv ≠ moverStopped →
      (d2.endDescriptor mv).setMover mv { (d2.endDescriptor mv).mover mv with move := none } = d3 →
      d3.fwRequest c 0x0201 = some m →
      exec (.move c mv a) s = .next { s with
        dev := (d3.mailPop (.firmware c)).fwAnswer c 0x0201 m.tag Code.ok }) ∧
  (∀ (s : State) (c : Nat) (m : Message) (mv : Nat) (a : HostAnswer),
      s.dev.fwRequest c 0x0201 = some m →
      (s.dev.mover mv).move ≠ some c →
      s.dev.movers.any (fun e => e.2.move == some c) = false →
      s.dev.moverFree mv = true →
      bits (m.field 28 1) 0 3 = 1 ∨ 4 ≤ bits (m.field 28 1) 0 3 →
      exec (.move c mv a) s = .next { s with
        dev := (s.dev.mailPop (.firmware c)).fwAnswer c 0x0201 m.tag Code.malformed }) ∧
  (∀ (s : State) (c : Nat) (m : Message) (d : Dev) (g : List Byte),
      s.dev.fwRequest c 0x0301 = some m →
      (s.dev.hostFetch m.port (m.field 8 8) 204 {}).2.mailPop (.firmware c) = d →
      s.dev.wel.job = none →
      s.dev.nextGen < 8 →
      genImage s.dev.nextGen (s.dev.hread m.port (m.field 8 8) 204) = g →
      genReserved g = false →
      s.dev.genSvnBad g = false →
      exec (.otpWrite c) s = .next { s with
        dev := (d.setWel { d.wel with job := some ⟨c, m.tag, s.dev.nextGen, g⟩ }).fset Page.otp Reg.OTP_STAT_PROG_BUSY 1 }) ∧
  (∀ (s : State) (c : Nat) (m : Message) (d : Dev),
      s.dev.fwRequest c 0x0301 = some m →
      (s.dev.hostFetch m.port (m.field 8 8) 204 {}).2.mailPop (.firmware c) = d →
      s.dev.wel.job = none →
      8 ≤ s.dev.nextGen →
      exec (.otpWrite c) s = .next { s with
        dev := d.fwAnswer c 0x0301 m.tag Code.resource }) ∧
  (∀ (s : State) (j : OtpJob),
      s.dev.wel.job = some j →
      s.dev.mailRoom (.firmware j.channel) = true →
      exec (.otpProgramEnd) s = .next { s with
        dev := (((s.dev.setWel { s.dev.wel with job := none, gens := Sparse.set (blank []) s.dev.wel.gens j.gen j.bytes }).fset
            Page.otp Reg.OTP_STAT_PROG_BUSY 0).fset Page.otp ⟨Reg.OTP_STAT_BLANK.off, 16 + j.gen, 1⟩ 0).fwAnswer j.channel 0x0301 j.tag Code.ok }) ∧
  (∀ (s : State) (c : Nat) (m : Message) (d : Dev) (t : Nat),
      s.dev.fwRequest c 0x0302 = some m →
      s.dev.mailPop (.firmware c) = d →
      s.dev.wel.job = none →
      m.field 8 1 = t →
      d.wel.lifecycle < t →
      1 ≤ t →
      t ≤ 4 →
      t ≠ lifeReturn →
      exec (.lifecycleAdvance c) s = .next { s with
        dev := ((d.hostFetch m.port (m.field 16 8) 0 {}).2.setWel { d.wel with lifecycle := t, udsDestroyed := d.wel.udsDestroyed || t == lifeScrap }).fwAnswer
            c 0x0302 m.tag Code.ok }) ∧
  (∀ (s : State) (c : Nat) (m : Message) (d : Dev),
      s.dev.fwRequest c 0x0302 = some m →
      s.dev.mailPop (.firmware c) = d →
      s.dev.wel.job = none →
      m.field 8 1 ≤ d.wel.lifecycle →
      1 ≤ m.field 8 1 →
      m.field 8 1 ≤ 4 →
      exec (.lifecycleAdvance c) s = .next { s with
        dev := (d.hostFetch m.port (m.field 16 8) (if m.field 8 1 = lifeReturn then m.field 24 2 else 0) {}).2.fwAnswer c 0x0302 m.tag
            Code.access })

/-- The vendor requests that Welbor serves for tenants and the manager. Completion: for each of these constructors a clause
concludes that exec answers a next state, under conditions on the state and the operands alone: keyInstall, keyRetire,
keyQuery, saWrite, saDisable, saRoll, saRead, volBindKey, queueOp, sesCtl, charterHistory. -/
def Obligations.VendorRequestCommands : Prop :=
  (∀ (s : State) (n : Nat) (r : VendorRequest) (rest : List VendorRequest) (d : Dev) (k : Nat) (e : Dev),
      s.dev.wel.requests = r :: rest →
      ofLe (cut r.payload 0 2) = 0x0001 →
      s.dev.portFree portKey = true →
      r.via = .slice n →
      s.dev.setWel { s.dev.wel with requests := rest } = d →
      d.lifecycle = 1 ∨ d.lifecycle = 2 →
      r.sized 68 = true →
      bits (r.field 0 4) 12 20 = 0 →
      bitAt (r.field 0 4) 10 = false →
      (d.slice n).keyUsed + 1 ≤ (d.slice n).keyQuota →
      d.lowestFree (if bitAt (r.field 0 4) 11 then 1 else 0) (d.keyFree (d.pool (if bitAt (r.field 0 4) 11 then 1 else 0)) false) = some k →
      (d.keyInstall k false false ([bits (r.field 0 4) 0 1 * 2 ^ 18 + bits (r.field 0 4) 1 7 * 2 ^ 20 + bits (r.field 0 4) 8 1 * 2 ^ 27 + bits (r.field 0 4) 9 1 * 2 ^ 28
      + b2n (d.slice n).isLocked * 2 ^ 29, n + (d.slice n).incarnation * 2 ^ 16, 0, 0].map (BitVec.ofNat 32)) (cut r.payload 8 64) (cut r.payload 72 64)).1 = Code.ok →
      (d.keyInstall k false false ([bits (r.field 0 4) 0 1 * 2 ^ 18 + bits (r.field 0 4) 1 7 * 2 ^ 20 + bits (r.field 0 4) 8 1 * 2 ^ 27 + bits (r.field 0 4) 9 1 * 2 ^ 28
      + b2n (d.slice n).isLocked * 2 ^ 29, n + (d.slice n).incarnation * 2 ^ 16, 0, 0].map (BitVec.ofNat 32)) (cut r.payload 8 64) (cut r.payload 72 64)).2 = e →
      exec (.keyInstall) s = .next { s with
        dev := ((e.clearKbuf).portEnd portKey Code.ok).vendorAnswer r Code.ok (toLe 4 k ++ toLe 2 (e.keySlot k).gen) }) ∧
  (∀ (s : State) (n : Nat) (r : VendorRequest) (rest : List VendorRequest) (d : Dev),
      s.dev.wel.requests = r :: rest →
      ofLe (cut r.payload 0 2) = 0x0001 →
      s.dev.portFree portKey = true →
      r.via = .slice n →
      s.dev.setWel { s.dev.wel with requests := rest } = d →
      d.lifecycle ≠ 1 →
      d.lifecycle ≠ 2 →
      exec (.keyInstall) s = .next { s with
        dev := d.vendorAnswer r Code.access [] }) ∧
  (∀ (s : State) (n : Nat) (r : VendorRequest) (rest : List VendorRequest) (d : Dev),
      s.dev.wel.requests = r :: rest →
      ofLe (cut r.payload 0 2) = 0x0002 →
      s.dev.portFree portKey = true →
      r.via = .slice n →
      s.dev.setWel { s.dev.wel with requests := rest } = d →
      r.sized 4 = true →
      d.ownsKey (some n) (r.field 0 4) = true →
      exec (.keyRetire) s = .next { s with
        dev := ((d.keyRetire (r.field 0 4)).portEnd portKey Code.ok).vendorAnswer r Code.ok [] }) ∧
  (∀ (s : State) (n : Nat) (r : VendorRequest) (rest : List VendorRequest) (d : Dev),
      s.dev.wel.requests = r :: rest →
      ofLe (cut r.payload 0 2) = 0x0003 →
      s.dev.portFree portKey = true →
      r.via = .slice n →
      s.dev.setWel { s.dev.wel with requests := rest } = d →
      r.sized 4 = true →
      d.ownsKey (some n) (r.field 0 4) = true →
      exec (.keyQuery) s = .next { s with
        dev := (d.portEnd portKey Code.ok).vendorAnswer r Code.ok (wordBytes (d.keySlot (r.field 0 4)).desc) }) ∧
  (∀ (s : State) (n : Nat) (r : VendorRequest) (rest : List VendorRequest) (d : Dev),
      s.dev.wel.requests = r :: rest →
      ofLe (cut r.payload 0 2) = 0x0003 →
      s.dev.portFree portKey = true →
      r.via = .slice n →
      s.dev.setWel { s.dev.wel with requests := rest } = d →
      d.ownsKey (some n) (r.field 0 4) = false →
      exec (.keyQuery) s = .next { s with
        dev := d.vendorAnswer r Code.access [] }) ∧
  (∀ (s : State) (n : Nat) (r : VendorRequest) (rest : List VendorRequest) (d : Dev) (w : List Nat) (k code : Nat) (e : Dev),
      s.dev.wel.requests = r :: rest →
      ofLe (cut r.payload 0 2) = 0x0010 →
      s.dev.portFree portSxp = true →
      r.via = .slice n →
      s.dev.setWel { s.dev.wel with requests := rest } = d →
      (List.range 32).map (fun i => leWord (r.payload.drop 4) i) = w →
      r.sized 128 = true →
      d.ownsKey (some n) (Sa.slot w) = true →
      Sa.succValid w = false →
      Sa.mapped w = false →
      d.lowestFree 2 d.saFree = some k →
      (d.saWrite true k ((w.set 3 (n + (d.slice n).incarnation * 2 ^ 16)).set 13 (setBits (nth w 13) 0 18 (Sa.bmp w)))).1 = code →
      (d.saWrite true k ((w.set 3 (n + (d.slice n).incarnation * 2 ^ 16)).set 13 (setBits (nth w 13) 0 18 (Sa.bmp w)))).2 = e →
      exec (.saWrite) s = .next { s with
        dev := (e.portEnd portSxp code).vendorAnswer r code (if code = Code.ok then toLe 4 k else []) }) ∧
  (∀ (s : State) (n : Nat) (r : VendorRequest) (rest : List VendorRequest) (d : Dev),
      s.dev.wel.requests = r :: rest →
      ofLe (cut r.payload 0 2) = 0x0011 →
      s.dev.portFree portSxp = true →
      r.via = .slice n →
      s.dev.setWel { s.dev.wel with requests := rest } = d →
      r.sized 4 = true →
      d.ownsSa n (r.field 0 4) = true →
      exec (.saDisable) s = .next { s with
        dev := ((d.saDisable (r.field 0 4)).portEnd portSxp Code.ok).vendorAnswer r Code.ok [] }) ∧
  (∀ (s : State) (n : Nat) (r : VendorRequest) (rest : List VendorRequest) (d : Dev),
      s.dev.wel.requests = r :: rest →
      ofLe (cut r.payload 0 2) = 0x0012 →
      s.dev.portFree portSxp = true →
      r.via = .slice n →
      s.dev.setWel { s.dev.wel with requests := rest } = d →
      r.sized 4 = true →
      d.ownsSa n (r.field 0 4) = true →
      (d.saRoll true (r.field 0 4)).1 = Code.ok →
      exec (.saRoll) s = .next { s with
        dev := ((d.saRoll true (r.field 0 4)).2.portEnd portSxp Code.ok).vendorAnswer r Code.ok [] }) ∧
  (∀ (s : State) (n : Nat) (r : VendorRequest) (rest : List VendorRequest) (d : Dev),
      s.dev.wel.requests = r :: rest →
      ofLe (cut r.payload 0 2) = 0x0013 →
      s.dev.portFree portSxp = true →
      r.via = .slice n →
      s.dev.setWel { s.dev.wel with requests := rest } = d →
      r.sized 4 = true →
      d.ownsSa n (r.field 0 4) = true →
      exec (.saRead) s = .next { s with
        dev := (d.portEnd portSxp Code.ok).vendorAnswer r Code.ok ((d.saWords (r.field 0 4)).flatMap (toLe 4)) }) ∧
  (∀ (s : State) (n : Nat) (r : VendorRequest) (rest : List VendorRequest) (d : Dev),
      s.dev.wel.requests = r :: rest →
      ofLe (cut r.payload 0 2) = 0x0013 →
      s.dev.portFree portSxp = true →
      r.via = .slice n →
      s.dev.setWel { s.dev.wel with requests := rest } = d →
      d.ownsSa n (r.field 0 4) = false →
      r.sized 4 = true →
      exec (.saRead) s = .next { s with
        dev := (d.noteSa (r.field 0 4)).vendorAnswer r Code.access [] }) ∧
  (∀ (s : State) (n : Nat) (r : VendorRequest) (rest : List VendorRequest) (d : Dev) (v k code : Nat) (e : Dev),
      s.dev.wel.requests = r :: rest →
      ofLe (cut r.payload 0 2) = 0x0020 →
      s.dev.portFree portSto = true →
      r.via = .slice n →
      s.dev.setWel { s.dev.wel with requests := rest } = d →
      r.field 0 4 = v →
      r.field 4 4 = k →
      r.sized 16 = true →
      d.ownsVol n v = true →
      d.ownsKey (some n) k = true →
      k % 2 = 0 →
      bitAt (d.keySlot k).modes 6 = true →
      (d.volBindKey v (((((List.replicate 16 0).set 0 8).set 8 k).set 9 (d.keySlot k).gen).set 10 (r.field 8 4) |>.set 11 (r.field 12 4))).1 = code →
      (d.volBindKey v (((((List.replicate 16 0).set 0 8).set 8 k).set 9 (d.keySlot k).gen).set 10 (r.field 8 4) |>.set 11 (r.field 12 4))).2 = e →
      exec (.volBindKey) s = .next { s with
        dev := (e.portEnd portSto code).vendorAnswer r code [] }) ∧
  (∀ (s : State) (n : Nat) (r : VendorRequest) (rest : List VendorRequest) (d : Dev) (q : Nat) (w : List Nat),
      s.dev.wel.requests = r :: rest →
      ofLe (cut r.payload 0 2) = 0x0030 →
      s.dev.portFree portQue = true →
      r.via = .slice n →
      s.dev.setWel { s.dev.wel with requests := rest } = d →
      r.sized 72 = true →
      r.field 1 3 = 0 →
      r.field 6 2 = 0 →
      r.field 4 2 ≤ 1023 →
      (List.range 16).map (fun i => leWord (r.payload.drop 12) i) = w →
      r.field 0 1 = 2 →
      d.localQueue n (r.field 4 2) = some q →
      exec (.queueOp) s = .next { s with
        dev := ((d.modifyQueue true q (w.set 1 (n + r.field 4 2 % 1024 * 2 ^ 16))).2.portEnd portQue (d.modifyQueue true q (w.set 1 (n + r.field 4 2 % 1024 * 2 ^ 16))).1).vendorAnswer r (d.modifyQueue true q (w.set 1 (n + r.field 4 2 % 1024 * 2 ^ 16))).1 (if (d.modifyQueue true q (w.set 1 (n + r.field 4 2 % 1024 * 2 ^ 16))).1 = Code.ok then toLe 2 q else []) }) ∧
  (∀ (s : State) (n : Nat) (r : VendorRequest) (rest : List VendorRequest) (d : Dev) (q : Nat) (w : List Nat),
      s.dev.wel.requests = r :: rest →
      ofLe (cut r.payload 0 2) = 0x0030 →
      s.dev.portFree portQue = true →
      r.via = .slice n →
      s.dev.setWel { s.dev.wel with requests := rest } = d →
      r.sized 72 = true →
      r.field 1 3 = 0 →
      r.field 6 2 = 0 →
      r.field 4 2 ≤ 1023 →
      (List.range 16).map (fun i => leWord (r.payload.drop 12) i) = w →
      r.field 0 1 = 3 →
      d.localQueue n (r.field 4 2) = some q →
      exec (.queueOp) s = .next { s with
        dev := ((d.destroyQueue true q).2.portEnd portQue (d.destroyQueue true q).1).vendorAnswer r (d.destroyQueue true q).1 (if (d.destroyQueue true q).1 = Code.ok then toLe 2 q else []) }) ∧
  (∀ (s : State) (n : Nat) (r : VendorRequest) (rest : List VendorRequest) (d : Dev) (q : Nat) (w : List Nat),
      s.dev.wel.requests = r :: rest →
      ofLe (cut r.payload 0 2) = 0x0030 →
      s.dev.portFree portQue = true →
      r.via = .slice n →
      s.dev.setWel { s.dev.wel with requests := rest } = d →
      r.sized 72 = true →
      r.field 1 3 = 0 →
      r.field 6 2 = 0 →
      r.field 4 2 ≤ 1023 →
      (List.range 16).map (fun i => leWord (r.payload.drop 12) i) = w →
      r.field 0 1 = 1 →
      (List.range 65536).find? (fun q => (d.queue q).state == .free) = some q →
      exec (.queueOp) s = .next { s with
        dev := ((d.createQueue true q (w.set 1 (n + r.field 4 2 % 1024 * 2 ^ 16))).2.portEnd portQue (d.createQueue true q (w.set 1 (n + r.field 4 2 % 1024 * 2 ^ 16))).1).vendorAnswer r
            (d.createQueue true q (w.set 1 (n + r.field 4 2 % 1024 * 2 ^ 16))).1 (if (d.createQueue true q (w.set 1 (n + r.field 4 2 % 1024 * 2 ^ 16))).1 = Code.ok then toLe 2 q else []) }) ∧
  (∀ (s : State) (n : Nat) (r : VendorRequest) (rest : List VendorRequest) (d : Dev) (q : Nat),
      s.dev.wel.requests = r :: rest →
      ofLe (cut r.payload 0 2) = 0x0030 →
      s.dev.portFree portQue = true →
      r.via = .slice n →
      s.dev.setWel { s.dev.wel with requests := rest } = d →
      r.sized 72 = true →
      r.field 1 3 = 0 →
      r.field 6 2 = 0 →
      r.field 4 2 ≤ 1023 →
      r.field 0 1 = 4 →
      d.localQueue n (r.field 4 2) = some q →
      exec (.queueOp) s = .next { s with
        dev := ((d.readQueue true q).portEnd portQue Code.ok).vendorAnswer r Code.ok ((d.ctxWords q).flatMap (toLe 4)) }) ∧
  (∀ (s : State) (n : Nat) (r : VendorRequest) (rest : List VendorRequest) (d : Dev) (e : Dev),
      s.dev.wel.requests = r :: rest →
      ofLe (cut r.payload 0 2) = 0x0031 →
      s.dev.portFree portSto = true →
      r.via = .slice n →
      s.dev.setWel { s.dev.wel with requests := rest } = d →
      r.sized 3 = true →
      r.field 2 1 = 8 →
      d.ownsSes n (r.field 0 2) = true →
      (d.setPort Page.sto { d.port Page.sto with run := some ⟨.welbor, 8 * 2 ^ 24 + r.field 0 2, []⟩ }).sesGo = e →
      exec (.sesCtl) s = .next { s with
        dev := e.vendorAnswer r (e.fget Page.sto Reg.STO_OP_STAT_CODE) [] }) ∧
  (∀ (s : State) (n : Nat) (r : VendorRequest) (rest : List VendorRequest) (d : Dev) (e : Dev),
      s.dev.wel.requests = r :: rest →
      ofLe (cut r.payload 0 2) = 0x0031 →
      s.dev.portFree portSto = true →
      r.via = .slice n →
      s.dev.setWel { s.dev.wel with requests := rest } = d →
      r.sized 3 = true →
      r.field 2 1 = 9 →
      d.ownsSes n (r.field 0 2) = true →
      (d.setPort Page.sto { d.port Page.sto with run := some ⟨.welbor, 9 * 2 ^ 24 + r.field 0 2, []⟩ }).sesClose = e →
      exec (.sesCtl) s = .next { s with
        dev := e.vendorAnswer r (e.fget Page.sto Reg.STO_OP_STAT_CODE) [] }) ∧
  (∀ (s : State) (n : Nat) (r : VendorRequest) (rest : List VendorRequest) (d : Dev) (e : Dev),
      s.dev.wel.requests = r :: rest →
      ofLe (cut r.payload 0 2) = 0x0031 →
      s.dev.portFree portSto = true →
      r.via = .slice n →
      s.dev.setWel { s.dev.wel with requests := rest } = d →
      r.sized 3 = true →
      r.field 2 1 = 10 →
      d.ownsSes n (r.field 0 2) = true →
      (d.setPort Page.sto { d.port Page.sto with run := some ⟨.welbor, 10 * 2 ^ 24 + r.field 0 2, []⟩ }).sesReset = e →
      exec (.sesCtl) s = .next { s with
        dev := e.vendorAnswer r (e.fget Page.sto Reg.STO_OP_STAT_CODE) [] }) ∧
  (∀ (s : State) (n : Nat) (r : VendorRequest) (rest : List VendorRequest) (d : Dev) (img : List Word),
      s.dev.wel.requests = r :: rest →
      ofLe (cut r.payload 0 2) = 0x0040 →
      r.via = .slice n →
      s.dev.setWel { s.dev.wel with requests := rest } = d →
      r.sized 1 = true →
      r.field 0 1 < 16 →
      (d.slice n).images[r.field 0 1]? = some img →
      exec (.charterHistory) s = .next { s with
        dev := d.vendorAnswer r Code.ok (toLe 4 (wordAt img 16) ++ wordBytes img) }) ∧
  (∀ (s : State) (n : Nat) (r : VendorRequest) (rest : List VendorRequest) (d : Dev),
      s.dev.wel.requests = r :: rest →
      ofLe (cut r.payload 0 2) = 0x0040 →
      r.via = .slice n →
      s.dev.setWel { s.dev.wel with requests := rest } = d →
      (d.slice n).images.length ≤ r.field 0 1 →
      exec (.charterHistory) s = .next { s with
        dev := d.vendorAnswer r Code.malformed [] })

/-- SPDM, boot and MCTP: attestation answers, sessions, and the stages of boot. Completion: for each of these constructors a
clause concludes that exec answers a next state, under conditions on the state and the operands alone: getVersion,
getCapabilities, negotiateAlgorithms, getDigests, getCertificate, challenge, getMeasurements, keyExchange, finish,
heartbeat, keyUpdate, endSession, vendorDefinedRequest, spdmSessionTimeout, mctpControlMessage, bootStageEnd. -/
def Obligations.SpdmCommands : Prop :=
  (∀ (s : State) (via : Transport),
      s.dev.viaOpen via = true →
      s.dev.domainOn 0 = true →
      s.dev.pwr.welborReleased = true →
      2 ≤ s.dev.bootStage →
      s.dev.lifecycle ≠ lifeManufacture →
      s.dev.bootStage ≠ 0xF →
      exec (.getVersion via) s = .next { s with
        dev := (s.dev.setNegotiated via 1).spdmAnswer via 0x04 0 0 (toLe 2 0x0200 ++ toLe 2 0x1200 ++ toLe 2 0x1300) }) ∧
  (∀ (s : State) (via : Transport),
      s.dev.viaOpen via = true →
      s.dev.domainOn 0 = true →
      s.dev.pwr.welborReleased = true →
      2 ≤ s.dev.bootStage →
      s.dev.lifecycle ≠ lifeManufacture →
      s.dev.bootStage ≠ 0xF →
      1 ≤ s.dev.negotiated via →
      exec (.getCapabilities via) s = .next { s with
        dev := (s.dev.setNegotiated via 2).spdmAnswer via 0x61 0 0 (toLe 4 0 ++ toLe 4 0 ++ toLe 4 4096 ++ toLe 4 4096) }) ∧
  (∀ (s : State) (via : Transport) (b : Bool),
      s.dev.viaOpen via = true →
      s.dev.domainOn 0 = true →
      s.dev.pwr.welborReleased = true →
      2 ≤ s.dev.bootStage →
      s.dev.lifecycle ≠ lifeManufacture →
      s.dev.bootStage ≠ 0xF →
      2 ≤ s.dev.negotiated via →
      exec (.negotiateAlgorithms via b) s = .next { s with
        dev := if b then (s.dev.setNegotiated via 3).spdmAnswer via 0x63 0 0 [] else s.dev.spdmAnswer via 0x7F 0x01 0 [] }) ∧
  (∀ (s : State) (via : Transport),
      s.dev.viaOpen via = true →
      s.dev.domainOn 0 = true →
      s.dev.pwr.welborReleased = true →
      2 ≤ s.dev.bootStage →
      s.dev.lifecycle ≠ lifeManufacture →
      s.dev.bootStage ≠ 0xF →
      3 ≤ s.dev.negotiated via →
      exec (.getDigests via) s = .next { s with
        dev := s.dev.spdmAnswer via 0x01 0 1 (cut (sha384 certificate) 0 48) }) ∧
  (∀ (s : State) (via : Transport) (off len : Nat),
      s.dev.viaOpen via = true →
      s.dev.domainOn 0 = true →
      s.dev.pwr.welborReleased = true →
      2 ≤ s.dev.bootStage →
      s.dev.lifecycle ≠ lifeManufacture →
      s.dev.bootStage ≠ 0xF →
      3 ≤ s.dev.negotiated via →
      off ≤ certificate.length →
      exec (.getCertificate via 0 off len) s = .next { s with
        dev := s.dev.spdmAnswer via 0x02 0 0 (toLe 2 (min (min len 4000) (certificate.length - off)) ++
            toLe 2 (certificate.length - off - min (min len 4000) (certificate.length - off)) ++ (certificate.drop off).take (min len 4000)) }) ∧
  (∀ (s : State) (via : Transport) (slot off len : Nat),
      s.dev.viaOpen via = true →
      s.dev.domainOn 0 = true →
      s.dev.pwr.welborReleased = true →
      2 ≤ s.dev.bootStage →
      s.dev.lifecycle ≠ lifeManufacture →
      s.dev.bootStage ≠ 0xF →
      3 ≤ s.dev.negotiated via →
      slot ≠ 0 →
      exec (.getCertificate via slot off len) s = .next { s with
        dev := s.dev.spdmAnswer via 0x7F 0x01 0 [] }) ∧
  (∀ (s : State) (via : Transport) (nonce : List Byte),
      s.dev.viaOpen via = true →
      s.dev.domainOn 0 = true →
      s.dev.pwr.welborReleased = true →
      2 ≤ s.dev.bootStage →
      s.dev.lifecycle ≠ lifeManufacture →
      s.dev.bootStage ≠ 0xF →
      3 ≤ s.dev.negotiated via →
      s.dev.identity = true →
      exec (.challenge via 0 nonce) s = .next { s with
        dev := 
          let body := cut (sha384 certificate) 0 48 ++ toLe 32 s.dev.fresh.1 ++ cut (sha384 (s.dev.allBlocks via)) 0 48
          s.dev.fresh.2.spdmAnswer via 0x03 0 1 (body ++ Dev.signature (nonce ++ body)) }) ∧
  (∀ (s : State) (via : Transport) (nonce : List Byte),
      s.dev.viaOpen via = true →
      s.dev.domainOn 0 = true →
      s.dev.pwr.welborReleased = true →
      2 ≤ s.dev.bootStage →
      s.dev.lifecycle ≠ lifeManufacture →
      s.dev.bootStage ≠ 0xF →
      3 ≤ s.dev.negotiated via →
      s.dev.identity = false →
      exec (.challenge via 0 nonce) s = .next { s with
        dev := s.dev.spdmAnswer via 0x7F 0x05 0 [] }) ∧
  (∀ (s : State) (via : Transport) (i : Nat),
      s.dev.viaOpen via = true →
      s.dev.domainOn 0 = true →
      s.dev.pwr.welborReleased = true →
      2 ≤ s.dev.bootStage →
      s.dev.lifecycle ≠ lifeManufacture →
      s.dev.bootStage ≠ 0xF →
      3 ≤ s.dev.negotiated via →
      1 ≤ i →
      i ≤ 4 →
      exec (.getMeasurements via i none) s = .next { s with
        dev := 
          let bs := s.dev.dmtfBlock via i
          s.dev.fresh.2.spdmAnswer via 0x60 0 0 (toLe 1 1 ++ toLe 3 bs.length ++ bs ++ toLe 32 s.dev.fresh.1 ++ [0, 0]) }) ∧
  (∀ (s : State) (via : Transport) (b : Bool),
      s.dev.viaOpen via = true →
      s.dev.domainOn 0 = true →
      s.dev.pwr.welborReleased = true →
      2 ≤ s.dev.bootStage →
      s.dev.lifecycle ≠ lifeManufacture →
      s.dev.bootStage ≠ 0xF →
      3 ≤ s.dev.negotiated via →
      s.dev.identity = true →
      sessionLimit via ≤ s.dev.sessionsOn via →
      exec (.keyExchange via b) s = .next { s with
        dev := s.dev.spdmAnswer via 0x7F 0x0A 0 [] }) ∧
  (∀ (s : State) (via : Transport) (n nonce : Nat) (d : Dev),
      s.dev.viaOpen via = true →
      s.dev.domainOn 0 = true →
      s.dev.pwr.welborReleased = true →
      2 ≤ s.dev.bootStage →
      s.dev.lifecycle ≠ lifeManufacture →
      s.dev.bootStage ≠ 0xF →
      3 ≤ s.dev.negotiated via →
      s.dev.identity = true →
      s.dev.sessionsOn via < sessionLimit via →
      s.dev.wel.nextSession = n →
      s.dev.fresh = (nonce, d) →
      exec (.keyExchange via false) s = .next { s with
        dev := 
          let d1 := d.setWel { d.wel with nextSession := n + 1, sessions := Sparse.set (blank none) d.wel.sessions n (some { via := via }) }
          let body := toLe 2 n ++ [0, 0] ++ toLe 32 nonce ++ cut (Config.secret useExchange (toLe 32 nonce)) 0 96
          d1.spdmAnswer via 0x64 60 0 (body ++ Dev.signature body ++ cut (Config.secret useRecord body) 0 48) }) ∧
  (∀ (s : State) (via : Transport),
      s.dev.viaOpen via = true →
      s.dev.domainOn 0 = true →
      s.dev.pwr.welborReleased = true →
      2 ≤ s.dev.bootStage →
      s.dev.lifecycle = lifeManufacture ∨ s.dev.bootStage = 0xF →
      exec (.getVersion via) s = .next { s with
        dev := s.dev.spdmAnswer via 0x7F 0x05 0 [] }) ∧
  (∀ (s : State) (via : Transport),
      s.dev.viaOpen via = true →
      s.dev.domainOn 0 = true →
      s.dev.pwr.welborReleased = true →
      2 ≤ s.dev.bootStage →
      s.dev.lifecycle = lifeManufacture ∨ s.dev.bootStage = 0xF →
      exec (.getCapabilities via) s = .next { s with
        dev := s.dev.spdmAnswer via 0x7F 0x05 0 [] }) ∧
  (∀ (s : State) (via : Transport),
      s.dev.viaOpen via = true →
      s.dev.domainOn 0 = true →
      s.dev.pwr.welborReleased = true →
      2 ≤ s.dev.bootStage →
      s.dev.lifecycle = lifeManufacture ∨ s.dev.bootStage = 0xF →
      exec (.getDigests via) s = .next { s with
        dev := s.dev.spdmAnswer via 0x7F 0x05 0 [] }) ∧
  (∀ (s : State) (via : Transport),
      s.dev.viaOpen via = true →
      s.dev.domainOn 0 = true →
      s.dev.pwr.welborReleased = true →
      2 ≤ s.dev.bootStage →
      s.dev.lifecycle = lifeManufacture ∨ s.dev.bootStage = 0xF →
      exec (.negotiateAlgorithms via true) s = .next { s with
        dev := s.dev.spdmAnswer via 0x7F 0x05 0 [] }) ∧
  (∀ (s : State) (via : Transport),
      s.dev.viaOpen via = true →
      s.dev.domainOn 0 = true →
      s.dev.pwr.welborReleased = true →
      2 ≤ s.dev.bootStage →
      s.dev.lifecycle = lifeManufacture ∨ s.dev.bootStage = 0xF →
      exec (.getCertificate via 0 0 0) s = .next { s with
        dev := s.dev.spdmAnswer via 0x7F 0x05 0 [] }) ∧
  (∀ (s : State) (via : Transport),
      s.dev.viaOpen via = true →
      s.dev.domainOn 0 = true →
      s.dev.pwr.welborReleased = true →
      2 ≤ s.dev.bootStage →
      s.dev.lifecycle = lifeManufacture ∨ s.dev.bootStage = 0xF →
      exec (.challenge via 0 []) s = .next { s with
        dev := s.dev.spdmAnswer via 0x7F 0x05 0 [] }) ∧
  (∀ (s : State) (via : Transport),
      s.dev.viaOpen via = true →
      s.dev.domainOn 0 = true →
      s.dev.pwr.welborReleased = true →
      2 ≤ s.dev.bootStage →
      s.dev.lifecycle = lifeManufacture ∨ s.dev.bootStage = 0xF →
      exec (.getMeasurements via 0 none) s = .next { s with
        dev := s.dev.spdmAnswer via 0x7F 0x05 0 [] }) ∧
  (∀ (s : State) (via : Transport),
      s.dev.viaOpen via = true →
      s.dev.domainOn 0 = true →
      s.dev.pwr.welborReleased = true →
      2 ≤ s.dev.bootStage →
      s.dev.lifecycle = lifeManufacture ∨ s.dev.bootStage = 0xF →
      exec (.keyExchange via true) s = .next { s with
        dev := s.dev.spdmAnswer via 0x7F 0x05 0 [] }) ∧
  (∀ (s : State) (n : Nat) (v : SpdmSession),
      s.dev.spdmSession n = some v →
      s.dev.viaOpen v.via = true →
      s.dev.domainOn 0 = true →
      2 ≤ s.dev.bootStage →
      v.finished = false →
      exec (.finish n true) s = .next { s with
        dev := (s.dev.sealedAnswer n v.via 0x65 0 0 []).setSpdmSession n (some { v with finished := true }) }) ∧
  (∀ (s : State) (n : Nat) (v : SpdmSession),
      s.dev.spdmSession n = some v →
      s.dev.viaOpen v.via = true →
      s.dev.domainOn 0 = true →
      2 ≤ s.dev.bootStage →
      exec (.finish n false) s = .next { s with
        dev := (s.dev.endSession n).spdmAnswer v.via 0x7F 0x06 0 [] }) ∧
  (∀ (s : State) (n : Nat) (v : SpdmSession),
      s.dev.spdmSession n = some v →
      s.dev.viaOpen v.via = true →
      s.dev.domainOn 0 = true →
      2 ≤ s.dev.bootStage →
      v.finished = true →
      exec (.heartbeat n) s = .next { s with
        dev := s.dev.sealedAnswer n v.via 0x68 0 0 [] }) ∧
  (∀ (s : State) (n : Nat) (v : SpdmSession),
      s.dev.spdmSession n = some v →
      s.dev.viaOpen v.via = true →
      s.dev.domainOn 0 = true →
      2 ≤ s.dev.bootStage →
      v.finished = true →
      exec (.keyUpdate n) s = .next { s with
        dev := (s.dev.sealedAnswer n v.via 0x69 0 0 []).setSpdmSession n (some { v with epoch := v.epoch + 1 }) }) ∧
  (∀ (s : State) (n : Nat) (v : SpdmSession),
      s.dev.spdmSession n = some v →
      s.dev.viaOpen v.via = true →
      s.dev.domainOn 0 = true →
      2 ≤ s.dev.bootStage →
      v.finished = true →
      exec (.endSession n) s = .next { s with
        dev := (s.dev.sealedAnswer n v.via 0x6C 0 0 []).endSession n }) ∧
  (∀ (s : State) (n : Nat) (v : SpdmSession),
      s.dev.spdmSession n = some v →
      s.dev.viaOpen v.via = true →
      s.dev.domainOn 0 = true →
      2 ≤ s.dev.bootStage →
      v.finished = false →
      exec (.heartbeat n) s = .next { s with
        dev := s.dev.spdmAnswer v.via 0x7F 0x04 0 [] }) ∧
  (∀ (s : State) (n : Nat) (v : SpdmSession),
      s.dev.spdmSession n = some v →
      s.dev.viaOpen v.via = true →
      s.dev.domainOn 0 = true →
      2 ≤ s.dev.bootStage →
      v.finished = false →
      exec (.keyUpdate n) s = .next { s with
        dev := s.dev.spdmAnswer v.via 0x7F 0x04 0 [] }) ∧
  (∀ (s : State) (n : Nat) (v : SpdmSession),
      s.dev.spdmSession n = some v →
      s.dev.viaOpen v.via = true →
      s.dev.domainOn 0 = true →
      2 ≤ s.dev.bootStage →
      v.finished = false →
      exec (.endSession n) s = .next { s with
        dev := s.dev.spdmAnswer v.via 0x7F 0x04 0 [] }) ∧
  (∀ (s : State) (n : Nat) (v : SpdmSession) (pay : List Byte),
      s.dev.spdmSession n = some v →
      s.dev.viaOpen v.via = true →
      s.dev.domainOn 0 = true →
      2 ≤ s.dev.bootStage →
      v.finished = true →
      vendorOps.contains (ofLe (cut pay 0 2)) = true →
      exec (.vendorDefinedRequest v.via (some n) pay) s = .next { s with
        dev := s.dev.setWel { s.dev.wel with requests := s.dev.wel.requests ++ [⟨n, v.via, pay⟩] } }) ∧
  (∀ (s : State) (n : Nat) (v : SpdmSession) (pay : List Byte),
      s.dev.spdmSession n = some v →
      s.dev.viaOpen v.via = true →
      s.dev.domainOn 0 = true →
      2 ≤ s.dev.bootStage →
      v.finished = true →
      vendorOps.contains (ofLe (cut pay 0 2)) = false →
      exec (.vendorDefinedRequest v.via (some n) pay) s = .next { s with
        dev := s.dev.vendorAnswer ⟨n, v.via, pay⟩ Code.malformed [] }) ∧
  (∀ (s : State) (n : Nat),
      exec (.spdmSessionTimeout n) s = .next { s with
        dev := s.dev.endSessions (fun m _ => m == n) }) ∧
  (∀ (s : State) (e : Option Nat),
      s.dev.pwr.vaux = true →
      exec (.mctpControlMessage e) s = .next { s with
        dev := (s.dev.setWel { s.dev.wel with eid := e.getD s.dev.wel.eid % 256 }).emit (.spdm .mctp 0 (toLe 1 (e.getD s.dev.wel.eid % 256))) }) ∧
  (∀ (s : State) (e : Option Nat),
      s.dev.pwr.vaux = false →
      exec (.mctpControlMessage e) s = .next { s with
        dev := s.dev }) ∧
  (∀ (s : State) (ims : List BootImage),
      s.dev.pwr.welborReleased = true →
      s.dev.bootStage = 0 →
      s.dev.lifecycle ≠ lifeScrap →
      exec (.bootStageEnd true ims) s = .next { s with
        dev := 
          let d1 := s.dev.selectGeneration.applyGeneration
          ((d1.measure 1 (cut (Config.secret useRom []) 0 48)).measure 4 d1.hardwareBlock).setBootStage 1 } ∧
      exec (.bootStageEnd false ims) s = .next { s with
        dev := s.dev.bootFail 5 [] 0 }) ∧
  (∀ (s : State) (pass : Bool) (ims : List BootImage),
      s.dev.pwr.welborReleased = true →
      s.dev.bootStage = 0 →
      s.dev.lifecycle = lifeScrap →
      exec (.bootStageEnd pass ims) s = .next { s with
        dev := s.dev }) ∧
  (∀ (s : State) (pass : Bool) (ims : List BootImage) (set svn1 svn2 : Nat) (dig : List Byte) (d : Dev),
      s.dev.pwr.welborReleased = true →
      s.dev.bootStage = 1 →
      bits (byteAt s.dev.governing 16) 1 1 = set →
      s.dev.setErr ims set = 0 →
      ((imageOf ims set 1).map (·.svn)).getD 0 = svn1 →
      ((imageOf ims set 2).map (·.svn)).getD 0 = svn2 →
      ((imageOf ims set 1).map (·.digest)).getD [] = dig →
      s.dev.measure 2 (dig ++ toLe 2 svn1) = d →
      exec (.bootStageEnd pass ims) s = .next { s with
        dev := ((d.setWel { d.wel with svnWelbor := svn1, svnCpx := svn2 }).fset Page.otp Reg.OTP_BOOT_IMAGE set).setBootStage 2 }) ∧
  (∀ (s : State) (pass : Bool) (ims : List BootImage) (set : Nat),
      s.dev.pwr.welborReleased = true →
      s.dev.bootStage = 1 →
      bits (byteAt s.dev.governing 16) 1 1 = set →
      s.dev.setErr ims set ≠ 0 →
      s.dev.setErr ims (1 - set) ≠ 0 →
      exec (.bootStageEnd pass ims) s = .next { s with
        dev := s.dev.bootFail (s.dev.setErr ims (1 - set)) ims (1 - set) }) ∧
  (∀ (s : State) (pass : Bool) (ims : List BootImage) (set : Nat) (i : BootImage),
      s.dev.pwr.welborReleased = true →
      s.dev.bootStage = 2 →
      s.dev.fget Page.otp Reg.OTP_BOOT_IMAGE = set →
      s.dev.imageErr ims set 2 = 0 →
      s.dev.bootImage ims set 2 = some i →
      exec (.bootStageEnd pass ims) s = .next { s with
        dev := ((List.range 4).foldl (fun (d : Dev) p => d.fset (Page.cpx p) Reg.CPX_STAT_STATE 0)
            ((s.dev.dwrite firmwareBase (i.body.take i.length)).measure 3 (i.digest ++ toLe 2 i.svn))).setBootStage 3 }) ∧
  (∀ (s : State) (pass : Bool) (ims : List BootImage) (set : Nat),
      s.dev.pwr.welborReleased = true →
      s.dev.bootStage = 2 →
      s.dev.fget Page.otp Reg.OTP_BOOT_IMAGE = set →
      s.dev.imageErr ims set 2 ≠ 0 →
      exec (.bootStageEnd pass ims) s = .next { s with
        dev := s.dev.bootFail (s.dev.imageErr ims set 2) ims set })

/-- Power requests, moves, STANDBY entry and exit, LEAN and DOZE. Completion: for each of these constructors a clause
concludes that exec answers a next state, under conditions on the state and the operands alone: powerRequest,
powerTransitionComplete, standbyEntryComplete, leanStep, dozeDemand, l1IdleTimeout, wakeRequest, exitStepTimeout,
standbyExitComplete, padRelease, linkL12Entry, l12WaitExpiry. -/
def Obligations.PowerStateCommands : Prop :=
  (∀ (s : State) (req : Requester) (target : BitVec 3) (t : PowerState),
      s.dev.unreachable (Page.pwr + Reg.PWR_REQ_GO.off) = none →
      powerTarget target.toNat = some t →
      t = .run ∨ t = .lean →
      s.dev.pwr.state ≠ .standby →
      s.dev.pwr.state ≠ .off →
      s.dev.pwr.trans = .none →
      (s.dev.fset Page.pwr Reg.PWR_REQ_TARGET target.toNat).fbit Page.otp Reg.OTP_STAT_PROG_BUSY = false →
      s.dev.asleep req = false →
      exec (.powerRequest req target) s = .next { s with
        dev := (s.dev.fset Page.pwr Reg.PWR_REQ_TARGET target.toNat).setPwr
            { s.dev.pwr with trans := .move t, wakeLatched := none } }) ∧
  (∀ (s : State) (req : Requester) (target : BitVec 3),
      s.dev.unreachable (Page.pwr + Reg.PWR_REQ_GO.off) = none →
      powerTarget target.toNat = some .doze →
      (s.dev.fset Page.pwr Reg.PWR_REQ_TARGET target.toNat).groupQuiet ((s.dev.fset Page.pwr Reg.PWR_REQ_TARGET target.toNat).fget
      Page.pwr Reg.PWR_CFG_DOZE_GROUP) = true →
      s.dev.pwr.state ≠ .standby →
      s.dev.pwr.state ≠ .off →
      s.dev.pwr.trans = .none →
      (s.dev.fset Page.pwr Reg.PWR_REQ_TARGET target.toNat).fbit Page.otp Reg.OTP_STAT_PROG_BUSY = false →
      s.dev.asleep req = false →
      exec (.powerRequest req target) s = .next { s with
        dev := (s.dev.fset Page.pwr Reg.PWR_REQ_TARGET target.toNat).setPwr
            { s.dev.pwr with trans := .move .doze, wakeLatched := none } }) ∧
  (∀ (s : State) (req : Requester) (target : BitVec 3),
      s.dev.unreachable (Page.pwr + Reg.PWR_REQ_GO.off) = none →
      powerTarget target.toNat = some .standby →
      (s.dev.fset Page.pwr Reg.PWR_REQ_TARGET target.toNat).allIdle = true →
      s.dev.pwr.state ≠ .standby →
      s.dev.pwr.state ≠ .off →
      s.dev.pwr.trans = .none →
      (s.dev.fset Page.pwr Reg.PWR_REQ_TARGET target.toNat).fbit Page.otp Reg.OTP_STAT_PROG_BUSY = false →
      s.dev.asleep req = false →
      exec (.powerRequest req target) s = .next { s with
        dev := (s.dev.fset Page.pwr Reg.PWR_REQ_TARGET target.toNat).captureEntry.setPwr
            { s.dev.pwr with trans := .entry 3, l12 := 0, wakeLatched := none } }) ∧
  (∀ (s : State),
      s.dev.pwr.trans = .move .run →
      exec (.powerTransitionComplete) s = .next { s with
        dev := ((s.dev.leaveDoze.ungateAll.setPwr
            { s.dev.leaveDoze.ungateAll.pwr with state := .run, trans := .none }).pulse 33).replayWake }) ∧
  (∀ (s : State),
      s.dev.pwr.trans = .move .doze →
      s.dev.pwr.state ≠ .doze →
      exec (.powerTransitionComplete) s = .next { s with
        dev := let d := (s.dev.groupOff (s.dev.fget Page.pwr Reg.PWR_CFG_DOZE_GROUP)).setDevices 9 1
          ((d.setPwr { d.pwr with state := .doze, trans := .none }).pulse 33).replayWake }) ∧
  (∀ (s : State) (n : Nat),
      s.dev.pwr.trans = .entry n →
      s.dev.allL12 = true →
      exec (.standbyEntryComplete) s = .next { s with
        dev := ((s.dev.sleep true).pulse 33).replayWake }) ∧
  (∀ (s : State),
      s.dev.pwr.state = .lean →
      s.dev.fget Page.pwr Reg.PWR_LEAN_GAF_MIN ≥ 24 →
      s.dev.fget Page.pwr Reg.PWR_LEAN_LEH_MIN ≥ 64 →
      s.dev.pwr.gafGated = 0 →
      s.dev.pwr.lehGated = 0 →
      exec (.leanStep) s = .next { s with
        dev := s.dev.setPwr { s.dev.pwr with
            gafIdle := idleTimes s.dev.pwr.gafIdle 24 (s.dev.unitBusy puntyGaf)
            lehIdle := idleTimes s.dev.pwr.lehIdle 64 (s.dev.unitBusy puntyLeh) } }) ∧
  (∀ (s : State) (addr : Nat),
      s.dev.pwr.state = .doze →
      2 ^ 34 ≤ addr →
      addr < 2 ^ 35 →
      s.dev.pwr.demand = none →
      exec (.dozeDemand addr) s = .next { s with
        dev := (((s.dev.setPwr { s.dev.pwr with demand := some addr }).count Page.pwr Reg.PWR_DEMAND_CNT_CNT).pulse 38).requestWake 3 0 }) ∧
  (∀ (s : State) (port : Nat),
      port < 2 →
      s.dev.pwr.state = .doze →
      (s.dev.hostPort port).linkUp = true →
      exec (.l1IdleTimeout port) s = .next { s with
        dev := s.dev.setHostPort port { s.dev.hostPort port with l1 := true } }) ∧
  (∀ (s : State) (source : Nat),
      s.dev.wakeEnabled source = true →
      s.dev.pwr.trans = .none →
      s.dev.pwr.state = .standby →
      s.dev.pwr.wakeFailed = false →
      exec (.wakeRequest 1 source) s = .next { s with
        dev := { s.dev with
            pwr := { s.dev.pwr.cause 1 source false with trans := .exit 1, attempts := 0, alternate := false, wakeFailed := false, alert := false } } }) ∧
  (∀ (s : State),
      s.dev.pwr.trans = .entry 3 →
      s.dev.pwr.wakeLatched = none →
      exec (.wakeRequest 4 0) s = .next { s with
        dev := { s.dev with pwr := { s.dev.pwr with wakeLatched := some (4, 0) } } }) ∧
  (∀ (s : State) (step unit : Nat),
      s.dev.pwr.trans = .exit step →
      step = 1 ∨ step = 2 →
      s.dev.pwr.attempts < 3 →
      exec (.exitStepTimeout step unit) s = .next { s with
        dev := ((s.dev.setPwr { s.dev.pwr with attempts := s.dev.pwr.attempts + 1 }).count Page.pwr
            Reg.PWR_RETRY_CNT_CNT).pulse 39 }) ∧
  (∀ (s : State) (step unit : Nat),
      s.dev.pwr.trans = .exit step →
      step = 1 ∨ step = 2 →
      s.dev.pwr.attempts = 3 →
      s.dev.pwr.alternate = false →
      exec (.exitStepTimeout step unit) s = .next { s with
        dev := s.dev.setPwr { s.dev.pwr with attempts := 0, alternate := true } }) ∧
  (∀ (s : State) (step unit : Nat),
      s.dev.pwr.trans = .exit step →
      step = 1 ∨ step = 2 →
      s.dev.pwr.attempts = 3 →
      s.dev.pwr.alternate = true →
      exec (.exitStepTimeout step unit) s = .next { s with
        dev := (s.dev.setPwr s.dev.pwr).wakeFail 8 step unit }) ∧
  (∀ (s : State),
      s.dev.pwr.trans = .exit 6 →
      s.dev.bootStage = 3 →
      exec (.standbyExitComplete) s = .next { s with
        dev := (s.dev.setPwr { s.dev.pwr with state := .run, trans := .none }).pulse 33 }) ∧
  (∀ (s : State) (req : Requester) (groups : Word),
      s.dev.unreachable (Page.pwr + Reg.PWR_PAD_RELEASE_GROUP.off) = none →
      s.dev.asleep req = false →
      exec (.padRelease req groups) s = .next { s with
        dev := (s.dev.setPwr { s.dev.pwr with
            padHeld := (((List.range 25).filter (fun g => bitAt s.dev.pwr.padHeld g && !bitAt groups.toNat g)).map (fun g => 2 ^ g)).sum }).refreshLevel 43 }) ∧
  (∀ (s : State) (port : Nat),
      port < 2 →
      s.dev.pwr.trans = .entry 3 →
      (s.dev.hostPort port).linkUp = true →
      bitAt s.dev.pwr.l12 port = false →
      exec (.linkL12Entry port) s = .next { s with
        dev := (s.dev.setHostPort port { s.dev.hostPort port with l1 := true }).setPwr
            { s.dev.pwr with l12 := s.dev.pwr.l12 + 2 ^ port } }) ∧
  (∀ (s : State) (port : Nat),
      port < 2 →
      s.dev.pwr.trans = .entry 3 →
      (s.dev.hostPort port).linkUp = true →
      bitAt s.dev.pwr.l12 port = false →
      exec (.l12WaitExpiry port) s = .next { s with
        dev := ((((s.dev.setPwr { s.dev.pwr with trans := .none, wakeLatched := none }).fset Page.pwr
            Reg.PWR_REQ_STAT_REFUSED 1).fset Page.pwr Reg.PWR_REQ_STAT_CAUSE 2).pulse 36) })

/-- Feeds, the auxiliary supply, the resets and firmware's initialisation. Completion: for each of these constructors a clause
concludes that exec answers a next state, under conditions on the state and the operands alone: feedGood, feedLost,
auxPowerOn, auxPowerLoss, perstAssert, perstDeassert, deviceReset, hostPortReset, welborRestart, welborRelease,
thermalTrip, busHoldUpExpiry, fwReady. -/
def Obligations.SupplyAndResetCommands : Prop :=
  (∀ (s : State),
      s.dev.pwr.feedA = false →
      s.dev.pwr.tripped = false →
      s.dev.pwr.vaux = true →
      exec (.feedGood 0) s = .next { s with
        dev := let d := (s.dev.setPwr { s.dev.pwr with feedA := true, busHoldUp := false }).requestWake 5 0
          d.setPwr { d.pwr with bothLost := false } }) ∧
  (∀ (s : State),
      s.dev.pwr.feedB = false →
      s.dev.pwr.tripped = false →
      s.dev.pwr.vaux = true →
      exec (.feedGood 1) s = .next { s with
        dev := let d := (s.dev.setPwr { s.dev.pwr with feedB := true, busHoldUp := false }).requestWake 5 0
          d.setPwr { d.pwr with bothLost := false } }) ∧
  (∀ (s : State),
      s.dev.pwr.feedA = true →
      exec (.feedLost 0) s = .next { s with
        dev := ((s.dev.setPwr { s.dev.pwr with
            feedA := false, bothLost := s.dev.pwr.bothLost || !s.dev.pwr.feedB
            busHoldUp := !s.dev.pwr.feedB && s.dev.pwr.state != .standby }).pulse 41).journalAdd
            { typ := 0x05, inst := 0, kind := Kind.feedLost, cls := 3, outcome := 0xFF, detail := [0] } }) ∧
  (∀ (s : State),
      s.dev.pwr.feedB = true →
      exec (.feedLost 1) s = .next { s with
        dev := ((s.dev.setPwr { s.dev.pwr with
            feedB := false, bothLost := s.dev.pwr.bothLost || !s.dev.pwr.feedA
            busHoldUp := !s.dev.pwr.feedA && s.dev.pwr.state != .standby }).pulse 42).journalAdd
            { typ := 0x05, inst := 0, kind := Kind.feedLost, cls := 3, outcome := 0xFF, detail := [1] } }) ∧
  (∀ (s : State),
      s.dev.pwr.vaux = false →
      s.dev.pwr.feedA = false →
      s.dev.pwr.feedB = false →
      exec (.auxPowerOn) s = .next { s with
        dev := ({ s.dev with
            pwr := { perst := s.dev.pwr.perst }
            wel := { s.dev.wel with inEffect := s.dev.wel.lifecycle } } : Dev).showJournal }) ∧
  (∀ (s : State),
      s.dev.pwr.vaux = true →
      exec (.auxPowerLoss) s = .next { s with
        dev := { ({ s.dev with hif := [] } : Dev).loseSwitched false [] with
            regs := []
            badParity := []
            seenParity := []
            bins := []
            boutHeld := 0
            tim := {}
            ft := { sparesUsed := s.dev.ft.sparesUsed, spared := s.dev.ft.spared }
            pwr := { state := .off, vaux := false, feedA := s.dev.pwr.feedA, feedB := s.dev.pwr.feedB, perst := s.dev.pwr.perst } } }) ∧
  (∀ (s : State) (port : Nat),
      s.dev.portExists port = true →
      bitAt s.dev.pwr.perst port = false →
      exec (.perstAssert port) s = .next { s with
        dev := (s.dev.setPwr { s.dev.pwr with perst := s.dev.pwr.perst + 2 ^ port }).resetPort port }) ∧
  (∀ (s : State) (port : Nat),
      port < 2 →
      bitAt s.dev.pwr.perst port = true →
      exec (.perstDeassert port) s = .next { s with
        dev := s.dev.setPwr { s.dev.pwr with perst := s.dev.pwr.perst - 2 ^ port } }) ∧
  (∀ (s : State) (req : Requester),
      s.dev.unreachable (Page.rst + Reg.RST_CTL_GO.off) = none →
      s.dev.pwr.state ≠ .standby →
      s.dev.asleep req = false →
      exec (.deviceReset req 0xA5D2#16) s = .next { s with
        dev := let d1 := (((s.dev.fset Page.rst Reg.RST_CAUSE_LAST 2).fset Page.rst Reg.RST_CAUSE_SRC
            (resetSource req)).countSat Page.rst Reg.RST_CNT_CNT).captureEntry
          let d2 := (({ d1 with hif := [] } : Dev).dropMacs (fun _ => true) true true).loseSwitched false []
          let d3 : Dev := { d2 with
            ft := { d2.ft with memState := [], shed := [], osc0Failed := false, osc1Failed := false, holdover := false, degraded := false }
            wel := { d2.wel with inEffect := d2.wel.lifecycle } }
          (d3.setPwr { d3.pwr with
            state := .run, trans := .none, domains := allDomains, gafGated := 0, lehGated := 0, gafIdle := [], lehIdle := []
            demand := none, ready := false, welborReleased := false, warm := false, kept := [], wakeLatched := none }).showJournal.restoreClock }) ∧
  (∀ (s : State) (req : Requester),
      s.dev.unreachable (Page.rst + Reg.RST_CTL_GO.off) = none →
      s.dev.asleep req = false →
      exec (.hostPortReset req 2#4 0xA5D2#16) s = .next { s with
        dev := s.dev.resetPort 0 }) ∧
  (∀ (s : State),
      s.dev.domainOn 0 = true →
      s.dev.pwr.welborReleased = true →
      exec (.welborRestart) s = .next { s with
        dev := let chans := (s.dev.wel.torn.channels.map (fun e => (e.1, ({ incarnation := e.2.incarnation } : SliceChannel)))).filter (fun e => e.2 != {})
          (((s.dev.setWel { s.dev.wel.torn with sessions := [], negotiated := [], requests := [], channels := chans }).fset
            Page.otp Reg.OTP_STAT_PROG_BUSY 0).fset Page.rst Reg.RST_CAUSE_WELBOR 1).setBootStage 1 }) ∧
  (∀ (s : State),
      s.dev.pwr.trans = .none →
      s.dev.pwr.welborReleased = false →
      s.dev.domainOn 0 = true →
      exec (.welborRelease) s = .next { s with
        dev := (({ s.dev with pwr := { s.dev.pwr with welborReleased := true } } : Dev).fset Page.otp Reg.OTP_STAT_LIFECYCLE
            s.dev.wel.inEffect).setBootStage 0 }) ∧
  (∀ (s : State),
      exec (.thermalTrip) s = .next { s with
        dev := ((s.dev.feedLost 0).feedLost 1).setPwr { ((s.dev.feedLost 0).feedLost 1).pwr with tripped := true } }) ∧
  (∀ (s : State),
      s.dev.pwr.busHoldUp = true →
      s.dev.pwr.feedA = false →
      s.dev.pwr.feedB = false →
      exec (.busHoldUpExpiry) s = .next { s with
        dev := (s.dev.unlinkPorts.sleep false).endHoldUp }) ∧
  (∀ (s : State) (result : Nat),
      s.dev.fwRuns = true →
      s.dev.mailRoom (.firmware 0) = true →
      s.dev.split = false →
      s.dev.pwr.ready = false →
      exec (.fwReady result []) s = .next { s with
        dev := let d2 := fwLayout.foldl (fun (d : Dev) e => d.wset e.1 e.2.1 e.2.2) s.dev
          let d3 := ((d2.setDeepCrucible (0x2000 + 0x1000 * 2 ^ 16)).fsetP Page.clsg Reg.CLS_RULE_BASE_SEG 0).fsetP Page.cru Reg.CRU_DEEP_CTL_ENABLE 1
          let d4 : Dev := { d3 with gddr := d3.gddr.filter (fun c => !fwZeroes s.dev.pwr.warm c.1), sto := { d3.sto with zeroed := true } }
          let d5 := d4.fwPages.foldl Dev.enablePage (d4.setPwr { d4.pwr with ready := true })
          let d6 := d5.mailPush (.manager 0) (d5.readyMessage result)
          if d6.split && d6.mailRoom (MailEnd.firmware 16) then d6.mailPush (.manager 16) (d5.readyMessage result) else d6 })

/-- The PTP clock, PPS and the slow clock's sources. Completion: for each of these constructors a clause concludes that exec
answers a next state, under conditions on the state and the operands alone: ptpSecondWrap, ppsWidthExpiry, ppsInEdge,
ptpClockLoad, ptpOffsetAdjust, slowCrystalFail, slowFreqMeasure. -/
def Obligations.TimeBaseCommands : Prop :=
  (∀ (s : State),
      s.dev.domainOn 5 = true →
      exec (.ptpSecondWrap) s = .next { s with
        dev := (s.dev.setTim { s.dev.tim with
            sec := (s.dev.tim.sec + 1) % 2 ^ 48, ns := 0, frac := 0
            ppsOut := s.dev.tim.ppsOut || s.dev.fbit Page.tim Reg.TIM_CTL_PPS_OUT_EN }).pulse 6 }) ∧
  (∀ (s : State),
      exec (.ppsWidthExpiry) s = .next { s with
        dev := s.dev.setTim { s.dev.tim with ppsOut := false } }) ∧
  (∀ (s : State),
      s.dev.domainOn 5 = true →
      exec (.ppsInEdge) s = .next { s with
        dev := (s.dev.wset Page.tim 4 s.dev.tim.layout).pulse 504 }) ∧
  (∀ (s : State) (req : Requester),
      s.dev.unreachable (Page.tim + 0x20) = none →
      s.dev.asleep req = false →
      exec (.ptpClockLoad req) s = .next { s with
        dev := let d := s.dev.wmbSelect Page.tim 2
          let v := d.wmbData Page.tim
          (((d.wset Page.tim 2 (v % 2 ^ 96)).setTim { s.dev.tim with
              frac := bits v 0 16, ns := bits v 16 32, sec := bits v 48 48, rest := 0 }).clearCoarse).wmbDone Page.tim }) ∧
  (∀ (s : State) (req : Requester),
      s.dev.unreachable (Page.tim + 0x20) = none →
      s.dev.asleep req = false →
      exec (.ptpOffsetAdjust req) s = .next { s with
        dev := let d := s.dev.wmbSelect Page.tim 3
          let v := d.wmbData Page.tim
          (((d.wset Page.tim 3 (v % 2 ^ 64)).setTim (s.dev.tim.ofUnits
            (((s.dev.tim.units : Int) + signed 64 v) % (2 ^ 48 * 1000000000 * 65536)).toNat)).clearCoarse).wmbDone Page.tim }) ∧
  (∀ (s : State),
      s.dev.tim.slowRc = false →
      s.dev.pwr.vaux = true →
      exec (.slowCrystalFail) s = .next { s with
        dev := (s.dev.setTim { s.dev.tim with slowRc := true, switchedAt := some s.dev.tim.aonCount }).pulse 40 }) ∧
  (∀ (s : State) (source : Nat) (frequency : BitVec 64),
      source < 2 →
      s.dev.domainOn 5 = true →
      (source = 0 → s.dev.tim.slowRc = false) →
      exec (.slowFreqMeasure source frequency) s = .next { s with
        dev := s.dev.wset Page.tim (0x10 + source) frequency.toNat })

/-- GDDR6 devices, control processor pairs, oscillators and converter phases. Completion: for each of these constructors a
clause concludes that exec answers a next state, under conditions on the state and the operands alone: gddrBurstRebuild,
memFailWrite, scrubRound, cpxMismatch, cpxBistEnd, cpxReturn, oscillatorFail, refInputLoss, holdoverExpiry, phaseShed. -/
def Obligations.DeviceAndPairFaults : Prop :=
  (∀ (s : State) (device addr : Nat),
      device < 18 →
      s.dev.memState device = 0 →
      s.dev.groupFailed device = false →
      (s.dev.recentRebuilds device).length < 16 →
      exec (.gddrBurstRebuild device addr) s = .next { s with
        dev := let d := s.dev.countSat (Page.mem device) Reg.MEM_UE_CNT_CNT
          ((((d.setFt { d.ft with
            rebuilds := Sparse.set (blank []) s.dev.ft.rebuilds device (s.dev.recentRebuilds device) }).count (Page.mem device)
            Reg.MEM_REBUILD_CNT_CNT).latchFault (Page.mem device) FaultBit.mem_BURST_UE).pulse 466).journalAdd
            { typ := 0x20, inst := device, kind := Kind.gddrRebuild, cls := 2, work := 7, outcome := Code.ok, ident := addr, detail := [device] } }) ∧
  (∀ (s : State) (device addr : Nat),
      device < 18 →
      s.dev.memState device = 0 →
      s.dev.groupFailed device = false →
      16 ≤ (s.dev.recentRebuilds device).length →
      exec (.gddrBurstRebuild device addr) s = .next { s with
        dev := let d := s.dev.countSat (Page.mem device) Reg.MEM_UE_CNT_CNT
          (((((d.setFt { d.ft with
            rebuilds := Sparse.set (blank []) s.dev.ft.rebuilds device (s.dev.recentRebuilds device) }).count (Page.mem device)
            Reg.MEM_REBUILD_CNT_CNT).latchFault (Page.mem device) FaultBit.mem_BURST_UE).pulse 466).journalAdd
            { typ := 0x20, inst := device, kind := Kind.gddrRebuild, cls := 2, work := 7, outcome := Code.ok, ident := addr,
              detail := [device] }).failDevice device 1 }) ∧
  (∀ (s : State) (req : Requester) (device : Nat),
      device < 18 →
      s.dev.unreachable (Page.mem device + Reg.MEM_CTL_FAIL.off) = none →
      s.dev.memState device ≠ 2 →
      s.dev.asleep req = false →
      exec (.memFailWrite req device) s = .next { s with
        dev := (((s.dev.setFt { s.dev.ft with
            memState := Sparse.set (fun _ => 0) s.dev.ft.memState device 2 }).pulse 467).latchFault (Page.mem device)
            FaultBit.mem_DEV_FAILED).journalAdd { typ := 0x20, inst := device, kind := Kind.gddrDevFail, cls := 3, outcome := 0xFF, detail := [device, 3] } }) ∧
  (∀ (s : State) (device corrected : Nat),
      device < 18 →
      s.dev.fget (Page.mem device) Reg.MEM_SCRUB_HOURS ≠ 0 →
      s.dev.memState device = 0 →
      exec (.scrubRound device corrected) s = .next { s with
        dev := (s.dev.count (Page.mem device) Reg.MEM_CE_CNT_CNT corrected).pulse 468 }) ∧
  (∀ (s : State) (pair : Nat),
      pair < 4 →
      s.dev.cpxState pair = cpxRun →
      exec (.cpxMismatch pair) s = .next { s with
        dev := let d1 := s.dev.fset (Page.cpx pair) Reg.CPX_STAT_STATE cpxFenced
          let t := d1.takeover pair
          let d2 := [0, 1, 2, 3].foldl (fun (d : Dev) q =>
            if q = pair ∨ (d.cpxState q ≠ cpxRun ∧ d.fget (Page.cpx q) Reg.CPX_STAT_TAKEOVER = pair) then
              d.fset (Page.cpx q) Reg.CPX_STAT_TAKEOVER t else d) d1
          (((d2.countSat (Page.cpx pair) Reg.CPX_MISMATCH_CNT_CNT).latchFault (Page.cpx pair) FaultBit.cpx_MISMATCH).pulse 481).journalAdd
            { typ := 0x21, inst := pair, kind := Kind.cpxMismatch, cls := 2, outcome := 0xFF, detail := [pair, t] } }) ∧
  (∀ (s : State) (pair : Nat),
      pair < 4 →
      s.dev.cpxState pair = cpxFenced →
      exec (.cpxBistEnd pair true) s = .next { s with
        dev := s.dev.fset (Page.cpx pair) Reg.CPX_STAT_STATE cpxStandby } ∧
      exec (.cpxBistEnd pair false) s = .next { s with
        dev := ((s.dev.fset (Page.cpx pair) Reg.CPX_STAT_STATE cpxFailed).latchFault (Page.cpx pair)
            FaultBit.cpx_BIST_FAIL).pulse 485 }) ∧
  (∀ (s : State) (req : Requester) (pair : Nat),
      pair < 4 →
      s.dev.unreachable (Page.cpx pair + Reg.CPX_RETURN_GO.off) = none →
      s.dev.cpxState pair = cpxStandby →
      s.dev.asleep req = false →
      exec (.cpxReturn req pair) s = .next { s with
        dev := s.dev.fset (Page.cpx pair) Reg.CPX_STAT_STATE cpxRun }) ∧
  (∀ (s : State),
      s.dev.ft.osc1Failed = false →
      s.dev.ft.oscUsed = 0 →
      exec (.oscillatorFail 0) s = .next { s with
        dev := (s.dev.setFt { s.dev.ft with osc0Failed := true, oscUsed := 1 }).noteOscillator 1 }) ∧
  (∀ (s : State),
      s.dev.ft.osc0Failed = true →
      exec (.oscillatorFail 1) s = .next { s with
        dev := s.dev.setFt { s.dev.ft with osc1Failed := true, holdover := true } }) ∧
  (∀ (s : State),
      s.dev.fbit Page.tim Reg.TIM_CTL_REF = true →
      s.dev.tim.refLost = false →
      exec (.refInputLoss) s = .next { s with
        dev := ({ s.dev with tim := { s.dev.tim with refLost := true } } : Dev).noteOscillator s.dev.ft.oscUsed }) ∧
  (∀ (s : State),
      s.dev.ft.holdover = true →
      exec (.holdoverExpiry) s = .next { s with
        dev := s.dev.dropMacs (fun _ => true) true false }) ∧
  (∀ (s : State) (rail phase : Nat),
      s.dev.ft.shed.contains (rail, phase) = false →
      exec (.phaseShed rail phase) s = .next { s with
        dev := (s.dev.setFt { s.dev.ft with shed := s.dev.ft.shed ++ [(rail, phase)] }).journalAdd
            { typ := 0x05, inst := 0, kind := Kind.phaseShed, cls := 3, outcome := 0xFF, detail := [rail, phase] } })

/-- Service of units, faults of logic and SRAM, the journal and ageing. Completion: for each of these constructors a clause
concludes that exec answers a next state, under conditions on the state and the operands alone: svcOut, svcIn, svcSyncEnd,
svcDrainEnd, svcBistEnd, logicParityFault, crossingParityError, sramError, journalRecordWrite, journalRead, avsStep. -/
def Obligations.ServiceAndJournalCommands : Prop :=
  (∀ (s : State) (req : Requester) (type inst t : Nat),
      s.dev.unreachable (Page.svc + Reg.SVC_REQ_GO.off) = none →
      puntyOfType type = some t →
      (((s.dev.fset Page.svc Reg.SVC_REQ_ACTION 0).fset Page.svc Reg.SVC_REQ_TYPE type).fset Page.svc Reg.SVC_REQ_INSTANCE inst).svcOutCode
      req type inst = Code.ok →
      s.dev.asleep req = false →
      exec (.svcOut req type inst) s = .next { s with
        dev := (((((s.dev.fset Page.svc Reg.SVC_REQ_ACTION 0).fset Page.svc Reg.SVC_REQ_TYPE type).fset Page.svc
            Reg.SVC_REQ_INSTANCE inst).svcStart t inst).fset Page.svc Reg.SVC_REQ_STAT_CODE Code.ok) }) ∧
  (∀ (s : State) (req : Requester) (type inst t : Nat),
      s.dev.unreachable (Page.svc + Reg.SVC_REQ_GO.off) = none →
      puntyOfType type = some t →
      inst < puntyCount t →
      (((s.dev.fset Page.svc Reg.SVC_REQ_ACTION 1).fset Page.svc Reg.SVC_REQ_TYPE type).fset Page.svc Reg.SVC_REQ_INSTANCE inst).fget
      Page.svc (puntyState t) = svcStanding →
      (((s.dev.fset Page.svc Reg.SVC_REQ_ACTION 1).fset Page.svc Reg.SVC_REQ_TYPE type).fset Page.svc Reg.SVC_REQ_INSTANCE inst).fget
      Page.svc (puntyInst t) = inst →
      (((s.dev.fset Page.svc Reg.SVC_REQ_ACTION 1).fset Page.svc Reg.SVC_REQ_TYPE type).fset Page.svc Reg.SVC_REQ_INSTANCE inst).fget
      Page.svc (puntyUnitState t) = unitPassed →
      s.dev.asleep req = false →
      exec (.svcIn req type inst) s = .next { s with
        dev := (((((s.dev.fset Page.svc Reg.SVC_REQ_ACTION 1).fset Page.svc Reg.SVC_REQ_TYPE type).fset Page.svc
            Reg.SVC_REQ_INSTANCE inst).svcBack t).fset Page.svc Reg.SVC_REQ_STAT_CODE Code.ok) }) ∧
  (∀ (s : State) (unit : Nat),
      unit < 5 →
      unit ≠ puntyGaf →
      unit ≠ puntyLeh →
      s.dev.fget Page.svc (puntyState unit) = svcSync →
      exec (.svcSyncEnd unit) s = .next { s with
        dev := (s.dev.fset Page.svc (puntyState unit) svcStanding).fset Page.svc (puntyUnitState unit) unitDrain }) ∧
  (∀ (s : State),
      s.dev.fget Page.svc (puntyState puntyLeh) = svcSync →
      exec (.svcSyncEnd puntyLeh) s = .next { s with
        dev := ((s.dev.testCluster 64).fset Page.svc (puntyState puntyLeh) svcStanding).fset Page.svc
            (puntyUnitState puntyLeh) unitDrain }) ∧
  (∀ (s : State) (unit : Nat),
      unit < 5 →
      s.dev.fget Page.svc (puntyState unit) = svcStanding →
      s.dev.fget Page.svc (puntyUnitState unit) = unitDrain →
      s.dev.unitBusy unit (s.dev.fget Page.svc (puntyInst unit)) = false →
      exec (.svcDrainEnd unit) s = .next { s with
        dev := s.dev.fset Page.svc (puntyUnitState unit) unitBist }) ∧
  (∀ (s : State) (unit : Nat),
      unit < 5 →
      unit ≠ puntyGaf →
      unit ≠ puntyLeh →
      s.dev.fget Page.svc (puntyState unit) = svcReturn →
      (s.dev.punty unit).switchedBack = false →
      exec (.svcSyncEnd unit) s = .next { s with
        dev := s.dev.setPunty unit { s.dev.punty unit with switchedBack := true } }) ∧
  (∀ (s : State) (unit : Nat),
      unit < 5 →
      s.dev.fget Page.svc (puntyState unit) = svcReturn →
      (s.dev.punty unit).switchedBack = true →
      s.dev.unitBusy unit (puntyCount unit) = false →
      exec (.svcDrainEnd unit) s = .next { s with
        dev := ((s.dev.fset Page.svc (puntyState unit) svcFree).setPunty unit {}).svcRecord unit
            (s.dev.fget Page.svc (puntyInst unit)) 1 4 false }) ∧
  (∀ (s : State) (unit : Nat),
      unit < 5 →
      s.dev.fget Page.svc (puntyState unit) = svcStanding →
      s.dev.fget Page.svc (puntyUnitState unit) = unitBist →
      exec (.svcBistEnd unit false) s = .next { s with
        dev := (((s.dev.bistGate unit (s.dev.fget Page.svc (puntyInst unit))).fset Page.svc (puntyUnitState unit)
            unitFailed).pulse 485).svcRecord unit (s.dev.fget Page.svc (puntyInst unit)) 0 5 true }) ∧
  (∀ (s : State) (unit : Nat),
      unit < 5 →
      s.dev.fget Page.svc (puntyState unit) = svcStanding →
      s.dev.fget Page.svc (puntyUnitState unit) = unitBist →
      exec (.svcBistEnd unit true) s = .next { s with
        dev := let n := s.dev.fget Page.svc (puntyInst unit)
          let d1 := (((s.dev.bistGate unit n).fset Page.svc (puntyUnitState unit) unitPassed).clearFences unit n).svcRecord unit n 0 5 false
          if d1.fbit Page.svc Reg.SVC_CTL_AUTO_RETURN then d1.svcBack unit else d1 }) ∧
  (∀ (s : State) (page checkPoint t : Nat) (k : PageKind) (n : Nat),
      s.dev.pageAt page = some (k, n) →
      s.dev.pagePowered k n = true →
      puntyOfKind k = some t →
      exec (.logicParityFault page checkPoint) s = .next { s with
        dev := (s.dev.journalAdd
            { typ := k.typeCode, inst := n, kind := Kind.logic, cls := 2, outcome := 0xFF, detail := [checkPoint] }).unitFault t n }) ∧
  (∀ (s : State) (page sender : Nat) (k : PageKind) (n : Nat),
      s.dev.pageAt page = some (k, n) →
      s.dev.pagePowered k n = true →
      k ≠ .hif →
      exec (.crossingParityError page sender true) s = .next { s with
        dev := s.dev.latchFault (pageBase page) faultXing }) ∧
  (∀ (s : State) (page sender n : Nat),
      s.dev.pageAt page = some (.hif, n) →
      s.dev.pagePowered .hif n = true →
      exec (.crossingParityError page sender true) s = .next { s with
        dev := (s.dev.latchFault (pageBase page) faultXing).aerCorrectable n 0 AerBit.correctedInternal [] }) ∧
  (∀ (s : State) (bank row page : Nat) (k : PageKind) (n : Nat),
      bank < 384 →
      row < 1024 →
      s.dev.pageAt page = some (k, n) →
      exec (.sramError bank row page false) s = .next { s with
        dev := ((s.dev.latchFault (pageBase page) faultSramUe).journalAdd
            { typ := k.typeCode, inst := n, kind := Kind.sramUe, cls := 2, outcome := 0xFF, detail := [bank, row] }).spareRow bank row }) ∧
  (∀ (s : State) (bank row page : Nat) (k : PageKind) (n : Nat),
      bank < 640 →
      row < 1024 →
      s.dev.pageAt page = some (k, n) →
      ((Sparse.get (blank []) s.dev.ft.rowErrors (bank * 1024 + row) ++ [s.dev.now]).filter
      (fun t => decide (s.dev.now < t + dayNs))).length < 3 →
      exec (.sramError bank row page true) s = .next { s with
        dev := (s.dev.setFt { s.dev.ft with
            rowErrors := Sparse.set (blank []) s.dev.ft.rowErrors (bank * 1024 + row)
              ((Sparse.get (blank []) s.dev.ft.rowErrors (bank * 1024 + row) ++ [s.dev.now]).filter (fun t => decide (s.dev.now < t + dayNs))) }).latchFault
            (pageBase page) faultSramCe }) ∧
  (∀ (s : State) (bank row page : Nat) (k : PageKind) (n : Nat),
      bank < 640 →
      row < 1024 →
      s.dev.pageAt page = some (k, n) →
      3 ≤ ((Sparse.get (blank []) s.dev.ft.rowErrors (bank * 1024 + row) ++ [s.dev.now]).filter
      (fun t => decide (s.dev.now < t + dayNs))).length →
      exec (.sramError bank row page true) s = .next { s with
        dev := ((s.dev.setFt { s.dev.ft with
            rowErrors := Sparse.set (blank []) s.dev.ft.rowErrors (bank * 1024 + row)
              ((Sparse.get (blank []) s.dev.ft.rowErrors (bank * 1024 + row) ++ [s.dev.now]).filter (fun t => decide (s.dev.now < t + dayNs))) }).latchFault
            (pageBase page) faultSramCe).spareRow bank row }) ∧
  (∀ (s : State) (r : FaultRecord) (rest : List FaultRecord),
      s.dev.journal.queue = r :: rest →
      s.dev.journal.suppressed.any (· != 0) = false →
      exec (.journalRecordWrite) s = .next { s with
        dev := ({ s.dev.journalPut r with
            journal := { (s.dev.journalPut r).journal with
              queue := rest ++ (s.dev.journalPut r).journal.waiting.take 1
              waiting := (s.dev.journalPut r).journal.waiting.drop 1
              written := (s.dev.journalPut r).journal.written + 1 } } : Dev).showQueueDepth.dropLost }) ∧
  (∀ (s : State) (req : Requester) (seq : Word),
      s.dev.unreachable (Page.flt + Reg.FLT_RD_SEQ_SEQ.off) = none →
      131072 < (s.dev.journal.seq + 2 ^ 32 - seq.toNat) % 2 ^ 32 →
      s.dev.asleep req = false →
      exec (.journalRead req seq) s = .next { s with
        dev := ((s.dev.fset Page.flt Reg.FLT_RD_SEQ_SEQ seq.toNat).fset Page.flt Reg.FLT_RD_STAT_VALID 0).fset Page.flt
            Reg.FLT_RD_STAT_GONE 1 }) ∧
  (∀ (s : State) (req : Requester) (seq : Word),
      s.dev.unreachable (Page.flt + Reg.FLT_RD_SEQ_SEQ.off) = none →
      1 ≤ (s.dev.journal.seq + 2 ^ 32 - seq.toNat) % 2 ^ 32 →
      (s.dev.journal.seq + 2 ^ 32 - seq.toNat) % 2 ^ 32 ≤ 131072 →
      (Sparse.get (blank []) s.dev.journal.mram (seq.toNat % 131072)).getD 0 0 = seq →
      Sparse.get (blank []) s.dev.journal.mram (seq.toNat % 131072) ≠ [] →
      s.dev.asleep req = false →
      exec (.journalRead req seq) s = .next { s with
        dev := (((List.range 16).foldl (fun (d : Dev) i => d.fset Page.flt (Reg.FLT_RD_DATA.nth 4 i)
            (wordAt (Sparse.get (blank []) s.dev.journal.mram (seq.toNat % 131072)) i)) (s.dev.fset Page.flt Reg.FLT_RD_SEQ_SEQ seq.toNat)).fset
            Page.flt Reg.FLT_RD_STAT_VALID 1).fset Page.flt Reg.FLT_RD_STAT_GONE 0 }) ∧
  (∀ (s : State) (island margin : Nat),
      island < islandCount →
      margin < 30 →
      s.dev.supply island < 830 →
      exec (.avsStep island margin) s = .next { s with
        dev := ((s.dev.setFt { s.dev.ft with
            supply := Sparse.set (fun _ => 790) s.dev.ft.supply island (s.dev.supply island + 5)
            margin := (s.dev.ft.margin.filter (fun e => e.1 != island)) ++ [(island, margin)] }).showMargin).journalAdd
            { typ := 0x08, inst := 0, kind := Kind.avs, cls := 2, outcome := 0xFF, detail := [island, s.dev.supply island + 5] } }) ∧
  (∀ (s : State) (island margin : Nat),
      island < islandCount →
      60 < margin →
      750 < s.dev.supply island →
      exec (.avsStep island margin) s = .next { s with
        dev := ((s.dev.setFt { s.dev.ft with
            supply := Sparse.set (fun _ => 790) s.dev.ft.supply island (s.dev.supply island - 5)
            margin := (s.dev.ft.margin.filter (fun e => e.1 != island)) ++ [(island, margin)] }).showMargin).journalAdd
            { typ := 0x08, inst := 0, kind := Kind.avs, cls := 2, outcome := 0xFF, detail := [island, s.dev.supply island - 5] } }) ∧
  (∀ (s : State) (island margin : Nat),
      island < islandCount →
      30 ≤ margin ∨ s.dev.supply island = 830 →
      margin ≤ 60 ∨ s.dev.supply island = 750 →
      20 ≤ margin →
      exec (.avsStep island margin) s = .next { s with
        dev := (s.dev.setFt { s.dev.ft with
            supply := Sparse.set (fun _ => 790) s.dev.ft.supply island (s.dev.supply island)
            margin := (s.dev.ft.margin.filter (fun e => e.1 != island)) ++ [(island, margin)] }).showMargin })
end

