-- ==== Sys2Proof/Laws/Parts.lean ====
section
/-!
SUPPORT. Sets of parts as bits of a number, the device with a set of parts blanked, and what the update of a field leaves alone.
-/

namespace Sys2Proof.Machine

set_option linter.all false

/-- Every part of `a` is a part of `b`, as bit sets. -/
def subParts (a b : Nat) : Bool := a &&& b == a
/-- The device with the parts of the bit set `T` (part `k` is bit `k`) blanked. -/
def Dev.mask (T : Nat) (d : Dev) : Dev :=
  { now := if T.testBit 0 then ({} : Dev).now else d.now
    regs := if T.testBit 1 then ({} : Dev).regs else d.regs
    wide := if T.testBit 2 then ({} : Dev).wide else d.wide
    badParity := if T.testBit 3 then ({} : Dev).badParity else d.badParity
    seenParity := if T.testBit 4 then ({} : Dev).seenParity else d.seenParity
    gddr := if T.testBit 5 then ({} : Dev).gddr else d.gddr
    die := if T.testBit 6 then ({} : Dev).die else d.die
    host0 := if T.testBit 7 then ({} : Dev).host0 else d.host0
    host1 := if T.testBit 8 then ({} : Dev).host1 else d.host1
    out := if T.testBit 9 then ({} : Dev).out else d.out
    free := if T.testBit 10 then ({} : Dev).free else d.free
    bins := if T.testBit 11 then ({} : Dev).bins else d.bins
    boutHeld := if T.testBit 12 then ({} : Dev).boutHeld else d.boutHeld
    movers := if T.testBit 13 then ({} : Dev).movers else d.movers
    portOwner := if T.testBit 14 then ({} : Dev).portOwner else d.portOwner
    portData := if T.testBit 15 then ({} : Dev).portData else d.portData
    journal := if T.testBit 16 then ({} : Dev).journal else d.journal
    pwr := if T.testBit 17 then ({} : Dev).pwr else d.pwr
    tim := if T.testBit 18 then ({} : Dev).tim else d.tim
    ft := if T.testBit 19 then ({} : Dev).ft else d.ft
    cpx := if T.testBit 20 then ({} : Dev).cpx else d.cpx
    hif := if T.testBit 21 then ({} : Dev).hif else d.hif
    sit := if T.testBit 22 then ({} : Dev).sit else d.sit
    slices := if T.testBit 23 then ({} : Dev).slices else d.slices
    queues := if T.testBit 24 then ({} : Dev).queues else d.queues
    ports := if T.testBit 25 then ({} : Dev).ports else d.ports
    store := if T.testBit 26 then ({} : Dev).store else d.store
    crcBusy := if T.testBit 27 then ({} : Dev).crcBusy else d.crcBusy
    ctxs := if T.testBit 28 then ({} : Dev).ctxs else d.ctxs
    lastIssued := if T.testBit 29 then ({} : Dev).lastIssued else d.lastIssued
    fencedCtx := if T.testBit 30 then ({} : Dev).fencedCtx else d.fencedCtx
    ctxErrors := if T.testBit 31 then ({} : Dev).ctxErrors else d.ctxErrors
    gafStopped := if T.testBit 32 then ({} : Dev).gafStopped else d.gafStopped
    flips := if T.testBit 33 then ({} : Dev).flips else d.flips
    packets := if T.testBit 34 then ({} : Dev).packets else d.packets
    headGen := if T.testBit 35 then ({} : Dev).headGen else d.headGen
    srcSeq := if T.testBit 36 then ({} : Dev).srcSeq else d.srcSeq
    dispatchQ := if T.testBit 37 then ({} : Dev).dispatchQ else d.dispatchQ
    reheatQ := if T.testBit 38 then ({} : Dev).reheatQ else d.reheatQ
    reheatSeen := if T.testBit 39 then ({} : Dev).reheatSeen else d.reheatSeen
    credit := if T.testBit 40 then ({} : Dev).credit else d.credit
    excQ := if T.testBit 41 then ({} : Dev).excQ else d.excQ
    acceptNo := if T.testBit 42 then ({} : Dev).acceptNo else d.acceptNo
    cullet := if T.testBit 43 then ({} : Dev).cullet else d.cullet
    copies := if T.testBit 44 then ({} : Dev).copies else d.copies
    nextCopy := if T.testBit 45 then ({} : Dev).nextCopy else d.nextCopy
    traceQ := if T.testBit 46 then ({} : Dev).traceQ else d.traceQ
    xoffAsked := if T.testBit 47 then ({} : Dev).xoffAsked else d.xoffAsked
    ovfTags := if T.testBit 48 then ({} : Dev).ovfTags else d.ovfTags
    ovfBad := if T.testBit 49 then ({} : Dev).ovfBad else d.ovfBad
    bloom := if T.testBit 50 then ({} : Dev).bloom else d.bloom
    noteQ := if T.testBit 51 then ({} : Dev).noteQ else d.noteQ
    noteSeq := if T.testBit 52 then ({} : Dev).noteSeq else d.noteSeq
    learnQ := if T.testBit 53 then ({} : Dev).learnQ else d.learnQ
    refreshQ := if T.testBit 54 then ({} : Dev).refreshQ else d.refreshQ
    clearQ := if T.testBit 55 then ({} : Dev).clearQ else d.clearQ
    sweep := if T.testBit 56 then ({} : Dev).sweep else d.sweep
    sweepAgain := if T.testBit 57 then ({} : Dev).sweepAgain else d.sweepAgain
    rebuild := if T.testBit 58 then ({} : Dev).rebuild else d.rebuild
    encapId := if T.testBit 59 then ({} : Dev).encapId else d.encapId
    counterQ := if T.testBit 60 then ({} : Dev).counterQ else d.counterQ
    sched := if T.testBit 61 then ({} : Dev).sched else d.sched
    host := if T.testBit 62 then ({} : Dev).host else d.host
    macs := if T.testBit 63 then ({} : Dev).macs else d.macs
    lanes := if T.testBit 64 then ({} : Dev).lanes else d.lanes
    sentQ := if T.testBit 65 then ({} : Dev).sentQ else d.sentQ
    lehr := if T.testBit 66 then ({} : Dev).lehr else d.lehr
    sxp := if T.testBit 67 then ({} : Dev).sxp else d.sxp
    sto := if T.testBit 68 then ({} : Dev).sto else d.sto
    mail := if T.testBit 69 then ({} : Dev).mail else d.mail
    wel := if T.testBit 70 then ({} : Dev).wel else d.wel }

theorem subParts_trans {a b c : Nat} (h : subParts a b = true) (k : subParts b c = true) : subParts a c = true := by
  simp only [subParts, beq_iff_eq] at *
  rw [← h, Nat.land_assoc, k]

theorem testBit_of_subParts {k T : Nat} (h : subParts (2 ^ k) T = true) : T.testBit k = true := by
  simp only [subParts, beq_iff_eq] at h
  have := congrArg (Nat.testBit · k) h
  simpa [Nat.testBit_and] using this

theorem testBit_of_subParts' {a b i : Nat} (k : subParts a b = true) (h : a.testBit i = true) : b.testBit i = true := by
  simp only [subParts, beq_iff_eq] at k
  have := congrArg (Nat.testBit · i) k
  simpa [Nat.testBit_and, h] using this

theorem Dev.mask_mask {a b : Nat} (d : Dev) (k : subParts a b = true) : (d.mask a).mask b = d.mask b := by
  have key : ∀ {α : Type} (i : Nat) (x y : α),
      (if b.testBit i = true then x else if a.testBit i = true then x else y) = if b.testBit i = true then x else y := by
    intro α i x y
    split
    · rfl
    · split
      · exact absurd (testBit_of_subParts' k ‹_›) ‹_›
      · rfl
  simp only [Dev.mask, key]

theorem Dev.mask_mono {a b : Nat} {d e : Dev} (h : d.mask a = e.mask a) (k : subParts a b = true) : d.mask b = e.mask b := by
  rw [← Dev.mask_mask d k, ← Dev.mask_mask e k, h]

theorem Dev.mask_ite {T : Nat} (c : Prop) [Decidable c] (a b : Dev) :
    (if c then a else b).mask T = if c then a.mask T else b.mask T := by split <;> rfl

theorem Dev.mask_getD {T : Nat} {o : Option Dev} {d : Dev} (h : ∀ r, o = some r → r.mask T = d.mask T) :
    (o.getD d).mask T = d.mask T := by
  cases o with
  | none => rfl
  | some r => exact h r rfl

theorem Dev.mask_foldl {T : Nat} {α : Type} {f : Dev → α → Dev} (h : ∀ d a, (f d a).mask T = d.mask T) :
    ∀ (l : List α) (d : Dev), (l.foldl f d).mask T = d.mask T
  | [], _ => rfl
  | a :: l, d => (Dev.mask_foldl h l (f d a)).trans (h d a)
theorem Dev.mask_now {T : Nat} (h : subParts (2 ^ 0) T = true) (d : Dev) (v) : Dev.mask T { d with now := v } = d.mask T := by
  simp only [Dev.mask, testBit_of_subParts h, if_true]
theorem Dev.mask_regs {T : Nat} (h : subParts (2 ^ 1) T = true) (d : Dev) (v) : Dev.mask T { d with regs := v } = d.mask T := by
  simp only [Dev.mask, testBit_of_subParts h, if_true]
theorem Dev.mask_wide {T : Nat} (h : subParts (2 ^ 2) T = true) (d : Dev) (v) : Dev.mask T { d with wide := v } = d.mask T := by
  simp only [Dev.mask, testBit_of_subParts h, if_true]
theorem Dev.mask_badParity {T : Nat} (h : subParts (2 ^ 3) T = true) (d : Dev) (v) : Dev.mask T { d with badParity := v } = d.mask T := by
  simp only [Dev.mask, testBit_of_subParts h, if_true]
theorem Dev.mask_seenParity {T : Nat} (h : subParts (2 ^ 4) T = true) (d : Dev) (v) : Dev.mask T { d with seenParity := v } = d.mask T := by
  simp only [Dev.mask, testBit_of_subParts h, if_true]
theorem Dev.mask_gddr {T : Nat} (h : subParts (2 ^ 5) T = true) (d : Dev) (v) : Dev.mask T { d with gddr := v } = d.mask T := by
  simp only [Dev.mask, testBit_of_subParts h, if_true]
theorem Dev.mask_die {T : Nat} (h : subParts (2 ^ 6) T = true) (d : Dev) (v) : Dev.mask T { d with die := v } = d.mask T := by
  simp only [Dev.mask, testBit_of_subParts h, if_true]
theorem Dev.mask_host0 {T : Nat} (h : subParts (2 ^ 7) T = true) (d : Dev) (v) : Dev.mask T { d with host0 := v } = d.mask T := by
  simp only [Dev.mask, testBit_of_subParts h, if_true]
theorem Dev.mask_host1 {T : Nat} (h : subParts (2 ^ 8) T = true) (d : Dev) (v) : Dev.mask T { d with host1 := v } = d.mask T := by
  simp only [Dev.mask, testBit_of_subParts h, if_true]
theorem Dev.mask_out {T : Nat} (h : subParts (2 ^ 9) T = true) (d : Dev) (v) : Dev.mask T { d with out := v } = d.mask T := by
  simp only [Dev.mask, testBit_of_subParts h, if_true]
theorem Dev.mask_free {T : Nat} (h : subParts (2 ^ 10) T = true) (d : Dev) (v) : Dev.mask T { d with free := v } = d.mask T := by
  simp only [Dev.mask, testBit_of_subParts h, if_true]
theorem Dev.mask_bins {T : Nat} (h : subParts (2 ^ 11) T = true) (d : Dev) (v) : Dev.mask T { d with bins := v } = d.mask T := by
  simp only [Dev.mask, testBit_of_subParts h, if_true]
theorem Dev.mask_boutHeld {T : Nat} (h : subParts (2 ^ 12) T = true) (d : Dev) (v) : Dev.mask T { d with boutHeld := v } = d.mask T := by
  simp only [Dev.mask, testBit_of_subParts h, if_true]
theorem Dev.mask_movers {T : Nat} (h : subParts (2 ^ 13) T = true) (d : Dev) (v) : Dev.mask T { d with movers := v } = d.mask T := by
  simp only [Dev.mask, testBit_of_subParts h, if_true]
theorem Dev.mask_portOwner {T : Nat} (h : subParts (2 ^ 14) T = true) (d : Dev) (v) : Dev.mask T { d with portOwner := v } = d.mask T := by
  simp only [Dev.mask, testBit_of_subParts h, if_true]
theorem Dev.mask_portData {T : Nat} (h : subParts (2 ^ 15) T = true) (d : Dev) (v) : Dev.mask T { d with portData := v } = d.mask T := by
  simp only [Dev.mask, testBit_of_subParts h, if_true]
theorem Dev.mask_journal {T : Nat} (h : subParts (2 ^ 16) T = true) (d : Dev) (v) : Dev.mask T { d with journal := v } = d.mask T := by
  simp only [Dev.mask, testBit_of_subParts h, if_true]
theorem Dev.mask_pwr {T : Nat} (h : subParts (2 ^ 17) T = true) (d : Dev) (v) : Dev.mask T { d with pwr := v } = d.mask T := by
  simp only [Dev.mask, testBit_of_subParts h, if_true]
theorem Dev.mask_tim {T : Nat} (h : subParts (2 ^ 18) T = true) (d : Dev) (v) : Dev.mask T { d with tim := v } = d.mask T := by
  simp only [Dev.mask, testBit_of_subParts h, if_true]
theorem Dev.mask_ft {T : Nat} (h : subParts (2 ^ 19) T = true) (d : Dev) (v) : Dev.mask T { d with ft := v } = d.mask T := by
  simp only [Dev.mask, testBit_of_subParts h, if_true]
theorem Dev.mask_cpx {T : Nat} (h : subParts (2 ^ 20) T = true) (d : Dev) (v) : Dev.mask T { d with cpx := v } = d.mask T := by
  simp only [Dev.mask, testBit_of_subParts h, if_true]
theorem Dev.mask_hif {T : Nat} (h : subParts (2 ^ 21) T = true) (d : Dev) (v) : Dev.mask T { d with hif := v } = d.mask T := by
  simp only [Dev.mask, testBit_of_subParts h, if_true]
theorem Dev.mask_sit {T : Nat} (h : subParts (2 ^ 22) T = true) (d : Dev) (v) : Dev.mask T { d with sit := v } = d.mask T := by
  simp only [Dev.mask, testBit_of_subParts h, if_true]
theorem Dev.mask_slices {T : Nat} (h : subParts (2 ^ 23) T = true) (d : Dev) (v) : Dev.mask T { d with slices := v } = d.mask T := by
  simp only [Dev.mask, testBit_of_subParts h, if_true]
theorem Dev.mask_queues {T : Nat} (h : subParts (2 ^ 24) T = true) (d : Dev) (v) : Dev.mask T { d with queues := v } = d.mask T := by
  simp only [Dev.mask, testBit_of_subParts h, if_true]
theorem Dev.mask_ports {T : Nat} (h : subParts (2 ^ 25) T = true) (d : Dev) (v) : Dev.mask T { d with ports := v } = d.mask T := by
  simp only [Dev.mask, testBit_of_subParts h, if_true]
theorem Dev.mask_store {T : Nat} (h : subParts (2 ^ 26) T = true) (d : Dev) (v) : Dev.mask T { d with store := v } = d.mask T := by
  simp only [Dev.mask, testBit_of_subParts h, if_true]
theorem Dev.mask_crcBusy {T : Nat} (h : subParts (2 ^ 27) T = true) (d : Dev) (v) : Dev.mask T { d with crcBusy := v } = d.mask T := by
  simp only [Dev.mask, testBit_of_subParts h, if_true]
theorem Dev.mask_ctxs {T : Nat} (h : subParts (2 ^ 28) T = true) (d : Dev) (v) : Dev.mask T { d with ctxs := v } = d.mask T := by
  simp only [Dev.mask, testBit_of_subParts h, if_true]
theorem Dev.mask_lastIssued {T : Nat} (h : subParts (2 ^ 29) T = true) (d : Dev) (v) : Dev.mask T { d with lastIssued := v } = d.mask T := by
  simp only [Dev.mask, testBit_of_subParts h, if_true]
theorem Dev.mask_fencedCtx {T : Nat} (h : subParts (2 ^ 30) T = true) (d : Dev) (v) : Dev.mask T { d with fencedCtx := v } = d.mask T := by
  simp only [Dev.mask, testBit_of_subParts h, if_true]
theorem Dev.mask_ctxErrors {T : Nat} (h : subParts (2 ^ 31) T = true) (d : Dev) (v) : Dev.mask T { d with ctxErrors := v } = d.mask T := by
  simp only [Dev.mask, testBit_of_subParts h, if_true]
theorem Dev.mask_gafStopped {T : Nat} (h : subParts (2 ^ 32) T = true) (d : Dev) (v) : Dev.mask T { d with gafStopped := v } = d.mask T := by
  simp only [Dev.mask, testBit_of_subParts h, if_true]
theorem Dev.mask_flips {T : Nat} (h : subParts (2 ^ 33) T = true) (d : Dev) (v) : Dev.mask T { d with flips := v } = d.mask T := by
  simp only [Dev.mask, testBit_of_subParts h, if_true]
theorem Dev.mask_packets {T : Nat} (h : subParts (2 ^ 34) T = true) (d : Dev) (v) : Dev.mask T { d with packets := v } = d.mask T := by
  simp only [Dev.mask, testBit_of_subParts h, if_true]
theorem Dev.mask_headGen {T : Nat} (h : subParts (2 ^ 35) T = true) (d : Dev) (v) : Dev.mask T { d with headGen := v } = d.mask T := by
  simp only [Dev.mask, testBit_of_subParts h, if_true]
theorem Dev.mask_srcSeq {T : Nat} (h : subParts (2 ^ 36) T = true) (d : Dev) (v) : Dev.mask T { d with srcSeq := v } = d.mask T := by
  simp only [Dev.mask, testBit_of_subParts h, if_true]
theorem Dev.mask_dispatchQ {T : Nat} (h : subParts (2 ^ 37) T = true) (d : Dev) (v) : Dev.mask T { d with dispatchQ := v } = d.mask T := by
  simp only [Dev.mask, testBit_of_subParts h, if_true]
theorem Dev.mask_reheatQ {T : Nat} (h : subParts (2 ^ 38) T = true) (d : Dev) (v) : Dev.mask T { d with reheatQ := v } = d.mask T := by
  simp only [Dev.mask, testBit_of_subParts h, if_true]
theorem Dev.mask_reheatSeen {T : Nat} (h : subParts (2 ^ 39) T = true) (d : Dev) (v) : Dev.mask T { d with reheatSeen := v } = d.mask T := by
  simp only [Dev.mask, testBit_of_subParts h, if_true]
theorem Dev.mask_credit {T : Nat} (h : subParts (2 ^ 40) T = true) (d : Dev) (v) : Dev.mask T { d with credit := v } = d.mask T := by
  simp only [Dev.mask, testBit_of_subParts h, if_true]
theorem Dev.mask_excQ {T : Nat} (h : subParts (2 ^ 41) T = true) (d : Dev) (v) : Dev.mask T { d with excQ := v } = d.mask T := by
  simp only [Dev.mask, testBit_of_subParts h, if_true]
theorem Dev.mask_acceptNo {T : Nat} (h : subParts (2 ^ 42) T = true) (d : Dev) (v) : Dev.mask T { d with acceptNo := v } = d.mask T := by
  simp only [Dev.mask, testBit_of_subParts h, if_true]
theorem Dev.mask_cullet {T : Nat} (h : subParts (2 ^ 43) T = true) (d : Dev) (v) : Dev.mask T { d with cullet := v } = d.mask T := by
  simp only [Dev.mask, testBit_of_subParts h, if_true]
theorem Dev.mask_copies {T : Nat} (h : subParts (2 ^ 44) T = true) (d : Dev) (v) : Dev.mask T { d with copies := v } = d.mask T := by
  simp only [Dev.mask, testBit_of_subParts h, if_true]
theorem Dev.mask_nextCopy {T : Nat} (h : subParts (2 ^ 45) T = true) (d : Dev) (v) : Dev.mask T { d with nextCopy := v } = d.mask T := by
  simp only [Dev.mask, testBit_of_subParts h, if_true]
theorem Dev.mask_traceQ {T : Nat} (h : subParts (2 ^ 46) T = true) (d : Dev) (v) : Dev.mask T { d with traceQ := v } = d.mask T := by
  simp only [Dev.mask, testBit_of_subParts h, if_true]
theorem Dev.mask_xoffAsked {T : Nat} (h : subParts (2 ^ 47) T = true) (d : Dev) (v) : Dev.mask T { d with xoffAsked := v } = d.mask T := by
  simp only [Dev.mask, testBit_of_subParts h, if_true]
theorem Dev.mask_ovfTags {T : Nat} (h : subParts (2 ^ 48) T = true) (d : Dev) (v) : Dev.mask T { d with ovfTags := v } = d.mask T := by
  simp only [Dev.mask, testBit_of_subParts h, if_true]
theorem Dev.mask_ovfBad {T : Nat} (h : subParts (2 ^ 49) T = true) (d : Dev) (v) : Dev.mask T { d with ovfBad := v } = d.mask T := by
  simp only [Dev.mask, testBit_of_subParts h, if_true]
theorem Dev.mask_bloom {T : Nat} (h : subParts (2 ^ 50) T = true) (d : Dev) (v) : Dev.mask T { d with bloom := v } = d.mask T := by
  simp only [Dev.mask, testBit_of_subParts h, if_true]
theorem Dev.mask_noteQ {T : Nat} (h : subParts (2 ^ 51) T = true) (d : Dev) (v) : Dev.mask T { d with noteQ := v } = d.mask T := by
  simp only [Dev.mask, testBit_of_subParts h, if_true]
theorem Dev.mask_noteSeq {T : Nat} (h : subParts (2 ^ 52) T = true) (d : Dev) (v) : Dev.mask T { d with noteSeq := v } = d.mask T := by
  simp only [Dev.mask, testBit_of_subParts h, if_true]
theorem Dev.mask_learnQ {T : Nat} (h : subParts (2 ^ 53) T = true) (d : Dev) (v) : Dev.mask T { d with learnQ := v } = d.mask T := by
  simp only [Dev.mask, testBit_of_subParts h, if_true]
theorem Dev.mask_refreshQ {T : Nat} (h : subParts (2 ^ 54) T = true) (d : Dev) (v) : Dev.mask T { d with refreshQ := v } = d.mask T := by
  simp only [Dev.mask, testBit_of_subParts h, if_true]
theorem Dev.mask_clearQ {T : Nat} (h : subParts (2 ^ 55) T = true) (d : Dev) (v) : Dev.mask T { d with clearQ := v } = d.mask T := by
  simp only [Dev.mask, testBit_of_subParts h, if_true]
theorem Dev.mask_sweep {T : Nat} (h : subParts (2 ^ 56) T = true) (d : Dev) (v) : Dev.mask T { d with sweep := v } = d.mask T := by
  simp only [Dev.mask, testBit_of_subParts h, if_true]
theorem Dev.mask_sweepAgain {T : Nat} (h : subParts (2 ^ 57) T = true) (d : Dev) (v) : Dev.mask T { d with sweepAgain := v } = d.mask T := by
  simp only [Dev.mask, testBit_of_subParts h, if_true]
theorem Dev.mask_rebuild {T : Nat} (h : subParts (2 ^ 58) T = true) (d : Dev) (v) : Dev.mask T { d with rebuild := v } = d.mask T := by
  simp only [Dev.mask, testBit_of_subParts h, if_true]
theorem Dev.mask_encapId {T : Nat} (h : subParts (2 ^ 59) T = true) (d : Dev) (v) : Dev.mask T { d with encapId := v } = d.mask T := by
  simp only [Dev.mask, testBit_of_subParts h, if_true]
theorem Dev.mask_counterQ {T : Nat} (h : subParts (2 ^ 60) T = true) (d : Dev) (v) : Dev.mask T { d with counterQ := v } = d.mask T := by
  simp only [Dev.mask, testBit_of_subParts h, if_true]
theorem Dev.mask_sched {T : Nat} (h : subParts (2 ^ 61) T = true) (d : Dev) (v) : Dev.mask T { d with sched := v } = d.mask T := by
  simp only [Dev.mask, testBit_of_subParts h, if_true]
theorem Dev.mask_host {T : Nat} (h : subParts (2 ^ 62) T = true) (d : Dev) (v) : Dev.mask T { d with host := v } = d.mask T := by
  simp only [Dev.mask, testBit_of_subParts h, if_true]
theorem Dev.mask_macs {T : Nat} (h : subParts (2 ^ 63) T = true) (d : Dev) (v) : Dev.mask T { d with macs := v } = d.mask T := by
  simp only [Dev.mask, testBit_of_subParts h, if_true]
theorem Dev.mask_lanes {T : Nat} (h : subParts (2 ^ 64) T = true) (d : Dev) (v) : Dev.mask T { d with lanes := v } = d.mask T := by
  simp only [Dev.mask, testBit_of_subParts h, if_true]
theorem Dev.mask_sentQ {T : Nat} (h : subParts (2 ^ 65) T = true) (d : Dev) (v) : Dev.mask T { d with sentQ := v } = d.mask T := by
  simp only [Dev.mask, testBit_of_subParts h, if_true]
theorem Dev.mask_lehr {T : Nat} (h : subParts (2 ^ 66) T = true) (d : Dev) (v) : Dev.mask T { d with lehr := v } = d.mask T := by
  simp only [Dev.mask, testBit_of_subParts h, if_true]
theorem Dev.mask_sxp {T : Nat} (h : subParts (2 ^ 67) T = true) (d : Dev) (v) : Dev.mask T { d with sxp := v } = d.mask T := by
  simp only [Dev.mask, testBit_of_subParts h, if_true]
theorem Dev.mask_sto {T : Nat} (h : subParts (2 ^ 68) T = true) (d : Dev) (v) : Dev.mask T { d with sto := v } = d.mask T := by
  simp only [Dev.mask, testBit_of_subParts h, if_true]
theorem Dev.mask_mail {T : Nat} (h : subParts (2 ^ 69) T = true) (d : Dev) (v) : Dev.mask T { d with mail := v } = d.mask T := by
  simp only [Dev.mask, testBit_of_subParts h, if_true]
theorem Dev.mask_wel {T : Nat} (h : subParts (2 ^ 70) T = true) (d : Dev) (v) : Dev.mask T { d with wel := v } = d.mask T := by
  simp only [Dev.mask, testBit_of_subParts h, if_true]
theorem Dev.mask_noteQ_noteSeq {T : Nat} (h : subParts 6755399441055744 T = true) (d : Dev) (v0) (v1) :
    Dev.mask T { d with noteQ := v0, noteSeq := v1 } = d.mask T :=
  Dev.mask_mono (a := 6755399441055744) rfl h
theorem Dev.mask_reheatQ_reheatSeen {T : Nat} (h : subParts 824633720832 T = true) (d : Dev) (v0) (v1) :
    Dev.mask T { d with reheatQ := v0, reheatSeen := v1 } = d.mask T :=
  Dev.mask_mono (a := 824633720832) rfl h
theorem Dev.mask_regs_badParity_seenParity_bins_boutHeld_pwr_tim_ft {T : Nat} (h : subParts 923674 T = true) (d : Dev) (v0) (v1) (v2) (v3) (v4) (v5) (v6) (v7) :
    Dev.mask T { d with regs := v0, badParity := v1, seenParity := v2, bins := v3, boutHeld := v4, pwr := v5, tim := v6, ft := v7 } = d.mask T :=
  Dev.mask_mono (a := 923674) rfl h
theorem Dev.mask_regs_badParity_seenParity_pwr_ports_macs_lanes {T : Nat} (h : subParts 27670116110598012954 T = true) (d : Dev) (v0) (v1) (v2) (v3) (v4) (v5) (v6) :
    Dev.mask T { d with regs := v0, badParity := v1, seenParity := v2, pwr := v3, ports := v4, macs := v5, lanes := v6 } = d.mask T :=
  Dev.mask_mono (a := 27670116110598012954) rfl h
theorem Dev.mask_gddr_sto {T : Nat} (h : subParts 295147905179352825888 T = true) (d : Dev) (v0) (v1) :
    Dev.mask T { d with gddr := v0, sto := v1 } = d.mask T :=
  Dev.mask_mono (a := 295147905179352825888) rfl h
theorem Dev.mask_pwr_wel {T : Nat} (h : subParts 1180591620717411434496 T = true) (d : Dev) (v0) (v1) :
    Dev.mask T { d with pwr := v0, wel := v1 } = d.mask T :=
  Dev.mask_mono (a := 1180591620717411434496) rfl h
theorem Dev.mask_ft_wel {T : Nat} (h : subParts 1180591620717411827712 T = true) (d : Dev) (v0) (v1) :
    Dev.mask T { d with ft := v0, wel := v1 } = d.mask T :=
  Dev.mask_mono (a := 1180591620717411827712) rfl h
theorem Dev.mask_fencedCtx_gafStopped {T : Nat} (h : subParts 5368709120 T = true) (d : Dev) (v0) (v1) :
    Dev.mask T { d with fencedCtx := v0, gafStopped := v1 } = d.mask T :=
  Dev.mask_mono (a := 5368709120) rfl h
theorem Dev.mask_badParity_seenParity {T : Nat} (h : subParts 24 T = true) (d : Dev) (v0) (v1) :
    Dev.mask T { d with badParity := v0, seenParity := v1 } = d.mask T :=
  Dev.mask_mono (a := 24) rfl h

/-- The number of a part. -/
def Part.index : Part → Nat
  | .now => 0
  | .regs => 1
  | .wide => 2
  | .badParity => 3
  | .seenParity => 4
  | .gddr => 5
  | .die => 6
  | .host0 => 7
  | .host1 => 8
  | .out => 9
  | .free => 10
  | .bins => 11
  | .boutHeld => 12
  | .movers => 13
  | .portOwner => 14
  | .portData => 15
  | .journal => 16
  | .pwr => 17
  | .tim => 18
  | .ft => 19
  | .cpx => 20
  | .hif => 21
  | .sit => 22
  | .slices => 23
  | .queues => 24
  | .ports => 25
  | .store => 26
  | .crcBusy => 27
  | .ctxs => 28
  | .lastIssued => 29
  | .fencedCtx => 30
  | .ctxErrors => 31
  | .gafStopped => 32
  | .flips => 33
  | .packets => 34
  | .headGen => 35
  | .srcSeq => 36
  | .dispatchQ => 37
  | .reheatQ => 38
  | .reheatSeen => 39
  | .credit => 40
  | .excQ => 41
  | .acceptNo => 42
  | .cullet => 43
  | .copies => 44
  | .nextCopy => 45
  | .traceQ => 46
  | .xoffAsked => 47
  | .ovfTags => 48
  | .ovfBad => 49
  | .bloom => 50
  | .noteQ => 51
  | .noteSeq => 52
  | .learnQ => 53
  | .refreshQ => 54
  | .clearQ => 55
  | .sweep => 56
  | .sweepAgain => 57
  | .rebuild => 58
  | .encapId => 59
  | .counterQ => 60
  | .sched => 61
  | .host => 62
  | .macs => 63
  | .lanes => 64
  | .sentQ => 65
  | .lehr => 66
  | .sxp => 67
  | .sto => 68
  | .mail => 69
  | .wel => 70

/-- A list of parts as a bit set. -/
def partSet (l : List Part) : Nat := l.foldr (fun p n => n ||| 2 ^ p.index) 0

theorem Part.index_injective {p q : Part} (h : p.index = q.index) : p = q := by
  cases p <;> cases q <;> first | rfl | (exact absurd h (by decide))

theorem testBit_partSet (p : Part) : ∀ l : List Part, p ∉ l → (partSet l).testBit p.index = false
  | [], _ => by simp [partSet]
  | q :: l, h => by
    simp only [List.mem_cons, not_or] at h
    have ih := testBit_partSet p l h.2
    have hq : (2 ^ q.index).testBit p.index = false := by
      rw [Nat.testBit_two_pow]
      simp only [decide_eq_false_iff_not]
      exact fun e => h.1 (Part.index_injective e.symm)
    simp only [partSet, List.foldr_cons, Nat.testBit_or, Bool.or_eq_false_iff] at ih ⊢
    exact ⟨ih, hq⟩

/-- A part that is not blanked is the same in two devices that agree once blanked. -/
theorem Dev.same_of_mask {T : Nat} {d e : Dev} (h : d.mask T = e.mask T) (p : Part) (hp : T.testBit p.index = false) :
    d.same e p := by
  cases p
  · have := congrArg Dev.now h
    show d.now = e.now
    simpa [Dev.mask, show T.testBit 0 = false from hp] using this
  · have := congrArg Dev.regs h
    show d.regs = e.regs
    simpa [Dev.mask, show T.testBit 1 = false from hp] using this
  · have := congrArg Dev.wide h
    show d.wide = e.wide
    simpa [Dev.mask, show T.testBit 2 = false from hp] using this
  · have := congrArg Dev.badParity h
    show d.badParity = e.badParity
    simpa [Dev.mask, show T.testBit 3 = false from hp] using this
  · have := congrArg Dev.seenParity h
    show d.seenParity = e.seenParity
    simpa [Dev.mask, show T.testBit 4 = false from hp] using this
  · have := congrArg Dev.gddr h
    show d.gddr = e.gddr
    simpa [Dev.mask, show T.testBit 5 = false from hp] using this
  · have := congrArg Dev.die h
    show d.die = e.die
    simpa [Dev.mask, show T.testBit 6 = false from hp] using this
  · have := congrArg Dev.host0 h
    show d.host0 = e.host0
    simpa [Dev.mask, show T.testBit 7 = false from hp] using this
  · have := congrArg Dev.host1 h
    show d.host1 = e.host1
    simpa [Dev.mask, show T.testBit 8 = false from hp] using this
  · have := congrArg Dev.out h
    show d.out = e.out
    simpa [Dev.mask, show T.testBit 9 = false from hp] using this
  · have := congrArg Dev.free h
    show d.free = e.free
    simpa [Dev.mask, show T.testBit 10 = false from hp] using this
  · have := congrArg Dev.bins h
    show d.bins = e.bins
    simpa [Dev.mask, show T.testBit 11 = false from hp] using this
  · have := congrArg Dev.boutHeld h
    show d.boutHeld = e.boutHeld
    simpa [Dev.mask, show T.testBit 12 = false from hp] using this
  · have := congrArg Dev.movers h
    show d.movers = e.movers
    simpa [Dev.mask, show T.testBit 13 = false from hp] using this
  · have := congrArg Dev.portOwner h
    show d.portOwner = e.portOwner
    simpa [Dev.mask, show T.testBit 14 = false from hp] using this
  · have := congrArg Dev.portData h
    show d.portData = e.portData
    simpa [Dev.mask, show T.testBit 15 = false from hp] using this
  · have := congrArg Dev.journal h
    show d.journal = e.journal
    simpa [Dev.mask, show T.testBit 16 = false from hp] using this
  · have := congrArg Dev.pwr h
    show d.pwr = e.pwr
    simpa [Dev.mask, show T.testBit 17 = false from hp] using this
  · have := congrArg Dev.tim h
    show d.tim = e.tim
    simpa [Dev.mask, show T.testBit 18 = false from hp] using this
  · have := congrArg Dev.ft h
    show d.ft = e.ft
    simpa [Dev.mask, show T.testBit 19 = false from hp] using this
  · have := congrArg Dev.cpx h
    show d.cpx = e.cpx
    simpa [Dev.mask, show T.testBit 20 = false from hp] using this
  · have := congrArg Dev.hif h
    show d.hif = e.hif
    simpa [Dev.mask, show T.testBit 21 = false from hp] using this
  · have := congrArg Dev.sit h
    show d.sit = e.sit
    simpa [Dev.mask, show T.testBit 22 = false from hp] using this
  · have := congrArg Dev.slices h
    show d.slices = e.slices
    simpa [Dev.mask, show T.testBit 23 = false from hp] using this
  · have := congrArg Dev.queues h
    show d.queues = e.queues
    simpa [Dev.mask, show T.testBit 24 = false from hp] using this
  · have := congrArg Dev.ports h
    show d.ports = e.ports
    simpa [Dev.mask, show T.testBit 25 = false from hp] using this
  · have := congrArg Dev.store h
    show d.store = e.store
    simpa [Dev.mask, show T.testBit 26 = false from hp] using this
  · have := congrArg Dev.crcBusy h
    show d.crcBusy = e.crcBusy
    simpa [Dev.mask, show T.testBit 27 = false from hp] using this
  · have := congrArg Dev.ctxs h
    show d.ctxs = e.ctxs
    simpa [Dev.mask, show T.testBit 28 = false from hp] using this
  · have := congrArg Dev.lastIssued h
    show d.lastIssued = e.lastIssued
    simpa [Dev.mask, show T.testBit 29 = false from hp] using this
  · have := congrArg Dev.fencedCtx h
    show d.fencedCtx = e.fencedCtx
    simpa [Dev.mask, show T.testBit 30 = false from hp] using this
  · have := congrArg Dev.ctxErrors h
    show d.ctxErrors = e.ctxErrors
    simpa [Dev.mask, show T.testBit 31 = false from hp] using this
  · have := congrArg Dev.gafStopped h
    show d.gafStopped = e.gafStopped
    simpa [Dev.mask, show T.testBit 32 = false from hp] using this
  · have := congrArg Dev.flips h
    show d.flips = e.flips
    simpa [Dev.mask, show T.testBit 33 = false from hp] using this
  · have := congrArg Dev.packets h
    show d.packets = e.packets
    simpa [Dev.mask, show T.testBit 34 = false from hp] using this
  · have := congrArg Dev.headGen h
    show d.headGen = e.headGen
    simpa [Dev.mask, show T.testBit 35 = false from hp] using this
  · have := congrArg Dev.srcSeq h
    show d.srcSeq = e.srcSeq
    simpa [Dev.mask, show T.testBit 36 = false from hp] using this
  · have := congrArg Dev.dispatchQ h
    show d.dispatchQ = e.dispatchQ
    simpa [Dev.mask, show T.testBit 37 = false from hp] using this
  · have := congrArg Dev.reheatQ h
    show d.reheatQ = e.reheatQ
    simpa [Dev.mask, show T.testBit 38 = false from hp] using this
  · have := congrArg Dev.reheatSeen h
    show d.reheatSeen = e.reheatSeen
    simpa [Dev.mask, show T.testBit 39 = false from hp] using this
  · have := congrArg Dev.credit h
    show d.credit = e.credit
    simpa [Dev.mask, show T.testBit 40 = false from hp] using this
  · have := congrArg Dev.excQ h
    show d.excQ = e.excQ
    simpa [Dev.mask, show T.testBit 41 = false from hp] using this
  · have := congrArg Dev.acceptNo h
    show d.acceptNo = e.acceptNo
    simpa [Dev.mask, show T.testBit 42 = false from hp] using this
  · have := congrArg Dev.cullet h
    show d.cullet = e.cullet
    simpa [Dev.mask, show T.testBit 43 = false from hp] using this
  · have := congrArg Dev.copies h
    show d.copies = e.copies
    simpa [Dev.mask, show T.testBit 44 = false from hp] using this
  · have := congrArg Dev.nextCopy h
    show d.nextCopy = e.nextCopy
    simpa [Dev.mask, show T.testBit 45 = false from hp] using this
  · have := congrArg Dev.traceQ h
    show d.traceQ = e.traceQ
    simpa [Dev.mask, show T.testBit 46 = false from hp] using this
  · have := congrArg Dev.xoffAsked h
    show d.xoffAsked = e.xoffAsked
    simpa [Dev.mask, show T.testBit 47 = false from hp] using this
  · have := congrArg Dev.ovfTags h
    show d.ovfTags = e.ovfTags
    simpa [Dev.mask, show T.testBit 48 = false from hp] using this
  · have := congrArg Dev.ovfBad h
    show d.ovfBad = e.ovfBad
    simpa [Dev.mask, show T.testBit 49 = false from hp] using this
  · have := congrArg Dev.bloom h
    show d.bloom = e.bloom
    simpa [Dev.mask, show T.testBit 50 = false from hp] using this
  · have := congrArg Dev.noteQ h
    show d.noteQ = e.noteQ
    simpa [Dev.mask, show T.testBit 51 = false from hp] using this
  · have := congrArg Dev.noteSeq h
    show d.noteSeq = e.noteSeq
    simpa [Dev.mask, show T.testBit 52 = false from hp] using this
  · have := congrArg Dev.learnQ h
    show d.learnQ = e.learnQ
    simpa [Dev.mask, show T.testBit 53 = false from hp] using this
  · have := congrArg Dev.refreshQ h
    show d.refreshQ = e.refreshQ
    simpa [Dev.mask, show T.testBit 54 = false from hp] using this
  · have := congrArg Dev.clearQ h
    show d.clearQ = e.clearQ
    simpa [Dev.mask, show T.testBit 55 = false from hp] using this
  · have := congrArg Dev.sweep h
    show d.sweep = e.sweep
    simpa [Dev.mask, show T.testBit 56 = false from hp] using this
  · have := congrArg Dev.sweepAgain h
    show d.sweepAgain = e.sweepAgain
    simpa [Dev.mask, show T.testBit 57 = false from hp] using this
  · have := congrArg Dev.rebuild h
    show d.rebuild = e.rebuild
    simpa [Dev.mask, show T.testBit 58 = false from hp] using this
  · have := congrArg Dev.encapId h
    show d.encapId = e.encapId
    simpa [Dev.mask, show T.testBit 59 = false from hp] using this
  · have := congrArg Dev.counterQ h
    show d.counterQ = e.counterQ
    simpa [Dev.mask, show T.testBit 60 = false from hp] using this
  · have := congrArg Dev.sched h
    show d.sched = e.sched
    simpa [Dev.mask, show T.testBit 61 = false from hp] using this
  · have := congrArg Dev.host h
    show d.host = e.host
    simpa [Dev.mask, show T.testBit 62 = false from hp] using this
  · have := congrArg Dev.macs h
    show d.macs = e.macs
    simpa [Dev.mask, show T.testBit 63 = false from hp] using this
  · have := congrArg Dev.lanes h
    show d.lanes = e.lanes
    simpa [Dev.mask, show T.testBit 64 = false from hp] using this
  · have := congrArg Dev.sentQ h
    show d.sentQ = e.sentQ
    simpa [Dev.mask, show T.testBit 65 = false from hp] using this
  · have := congrArg Dev.lehr h
    show d.lehr = e.lehr
    simpa [Dev.mask, show T.testBit 66 = false from hp] using this
  · have := congrArg Dev.sxp h
    show d.sxp = e.sxp
    simpa [Dev.mask, show T.testBit 67 = false from hp] using this
  · have := congrArg Dev.sto h
    show d.sto = e.sto
    simpa [Dev.mask, show T.testBit 68 = false from hp] using this
  · have := congrArg Dev.mail h
    show d.mail = e.mail
    simpa [Dev.mask, show T.testBit 69 = false from hp] using this
  · have := congrArg Dev.wel h
    show d.wel = e.wel
    simpa [Dev.mask, show T.testBit 70 = false from hp] using this

theorem Dev.same_of_parts {l : List Part} {d e : Dev} (h : d.mask (partSet l) = e.mask (partSet l)) (p : Part) (hp : p ∉ l) :
    d.same e p := Dev.same_of_mask h p (testBit_partSet p l hp)

end Sys2Proof.Machine
end

