-- ==== Sys2Proof/Laws/Frame1.lean ====
section
/-!
SUPPORT. What each operation of the model may change (part 1 of 4, in the order in which the operations build on each
other): blanking the parts named by a set that holds at least the operation's own, the device is as before.
-/

namespace Sys2Proof.Machine

set_option linter.all false

theorem Dev.fresh_mask {T : Nat} (hT : subParts 1024 T = true) (d : Dev) : (Dev.fresh d).2.mask T = d.mask T := by
  refine Dev.mask_mono (a := 1024) ?_ hT
  unfold Dev.fresh
  repeat' (first | with_reducible rfl | (simp (disch := decide) only [Dev.mask_ite, ite_self, Dev.mask_free]; done) | split | (dsimp only; split) | rfl)
theorem Dev.startExit_mask {T : Nat} (hT : subParts 131072 T = true) (d : Dev) (kind : ℕ) (source : ℕ) (replayed : Bool) : (Dev.startExit d kind source replayed).mask T = d.mask T := by
  refine Dev.mask_mono (a := 131072) ?_ hT
  unfold Dev.startExit
  repeat' (first | with_reducible rfl | (simp (disch := decide) only [Dev.mask_ite, ite_self, Dev.mask_pwr]; done) | split | (dsimp only; split) | rfl)
theorem Dev.requestWake_mask {T : Nat} (hT : subParts 131072 T = true) (d : Dev) (kind : ℕ) (source : ℕ) : (Dev.requestWake d kind source).mask T = d.mask T := by
  refine Dev.mask_mono (a := 131072) ?_ hT
  unfold Dev.requestWake
  repeat' (first | with_reducible rfl | (simp (disch := decide) only [Dev.mask_ite, ite_self, Dev.mask_pwr, Dev.startExit_mask]; done) | split | (dsimp only; split) | rfl)
theorem Dev.wakeOf_mask {T : Nat} (hT : subParts 131072 T = true) (d : Dev) (n : ℕ) : (Dev.wakeOf d n).mask T = d.mask T := by
  refine Dev.mask_mono (a := 131072) ?_ hT
  unfold Dev.wakeOf
  repeat' (first | with_reducible rfl | (simp (disch := decide) only [Dev.mask_ite, ite_self, Dev.requestWake_mask]; done) | split | (dsimp only; split) | rfl)
theorem Dev.wr_mask {T : Nat} (hT : subParts 2 T = true) (d : Dev) (a : ℕ) (v : Word) : (Dev.wr d a v).mask T = d.mask T := by
  refine Dev.mask_mono (a := 2) ?_ hT
  unfold Dev.wr
  repeat' (first | with_reducible rfl | (simp (disch := decide) only [Dev.mask_ite, ite_self, Dev.mask_regs]; done) | split | (dsimp only; split) | rfl)
theorem Dev.fset_mask {T : Nat} (hT : subParts 2 T = true) (d : Dev) (p : ℕ) (f : Fld) (v : ℕ) : (Dev.fset d p f v).mask T = d.mask T := by
  refine Dev.mask_mono (a := 2) ?_ hT
  unfold Dev.fset
  repeat' (first | with_reducible rfl | (simp (disch := decide) only [Dev.mask_ite, ite_self, Dev.wr_mask]; done) | split | (dsimp only; split) | rfl)
theorem Dev.count_mask {T : Nat} (hT : subParts 2 T = true) (d : Dev) (p : ℕ) (f : Fld) (n : optParam ℕ 1) : (Dev.count d p f n).mask T = d.mask T := by
  refine Dev.mask_mono (a := 2) ?_ hT
  unfold Dev.count
  repeat' (first | with_reducible rfl | (simp (disch := decide) only [Dev.mask_ite, ite_self, Dev.fset_mask]; done) | split | (dsimp only; split) | rfl)
theorem Dev.setPend_mask {T : Nat} (hT : subParts 2 T = true) (d : Dev) (n : ℕ) (b : Bool) : (Dev.setPend d n b).mask T = d.mask T := by
  refine Dev.mask_mono (a := 2) ?_ hT
  unfold Dev.setPend
  repeat' (first | with_reducible rfl | (simp (disch := decide) only [Dev.mask_ite, ite_self, Dev.fset_mask]; done) | split | (dsimp only; split) | rfl)
theorem Dev.setHostPort_mask {T : Nat} (hT : subParts 2097152 T = true) (d : Dev) (n : ℕ) (h : HostPort) : (Dev.setHostPort d n h).mask T = d.mask T := by
  refine Dev.mask_mono (a := 2097152) ?_ hT
  unfold Dev.setHostPort
  repeat' (first | with_reducible rfl | (simp (disch := decide) only [Dev.mask_ite, ite_self, Dev.mask_hif]; done) | split | (dsimp only; split) | rfl)
theorem Dev.emit_mask {T : Nat} (hT : subParts 512 T = true) (d : Dev) (o : Output) : (Dev.emit d o).mask T = d.mask T := by
  refine Dev.mask_mono (a := 512) ?_ hT
  unfold Dev.emit
  repeat' (first | with_reducible rfl | (simp (disch := decide) only [Dev.mask_ite, ite_self, Dev.mask_out]; done) | split | (dsimp only; split) | rfl)
theorem Dev.wset_mask {T : Nat} (hT : subParts 4 T = true) (d : Dev) (p : ℕ) (index : ℕ) (v : ℕ) : (Dev.wset d p index v).mask T = d.mask T := by
  refine Dev.mask_mono (a := 4) ?_ hT
  unfold Dev.wset
  repeat' (first | with_reducible rfl | (simp (disch := decide) only [Dev.mask_ite, ite_self, Dev.mask_wide]; done) | split | (dsimp only; split) | rfl)
theorem Dev.wcount_mask {T : Nat} (hT : subParts 4 T = true) (d : Dev) (p : ℕ) (index : ℕ) (n : optParam ℕ 1) : (Dev.wcount d p index n).mask T = d.mask T := by
  refine Dev.mask_mono (a := 4) ?_ hT
  unfold Dev.wcount
  repeat' (first | with_reducible rfl | (simp (disch := decide) only [Dev.mask_ite, ite_self, Dev.wset_mask]; done) | split | (dsimp only; split) | rfl)
theorem Dev.msixRaise_mask {T : Nat} (hT : subParts 2097668 T = true) (d : Dev) (port : ℕ) (v : ℕ) : (Dev.msixRaise d port v).mask T = d.mask T := by
  refine Dev.mask_mono (a := 2097668) ?_ hT
  unfold Dev.msixRaise
  repeat' (first | with_reducible rfl | (simp (disch := decide) only [Dev.mask_ite, ite_self, Dev.setHostPort_mask, Dev.emit_mask, Dev.wcount_mask]; done) | split | (dsimp only; split) | rfl)
theorem Dev.setMover_mask {T : Nat} (hT : subParts 8192 T = true) (d : Dev) (n : ℕ) (m : MoverState) : (Dev.setMover d n m).mask T = d.mask T := by
  refine Dev.mask_mono (a := 8192) ?_ hT
  unfold Dev.setMover
  repeat' (first | with_reducible rfl | (simp (disch := decide) only [Dev.mask_ite, ite_self, Dev.mask_movers]; done) | split | (dsimp only; split) | rfl)
theorem Dev.setMoverState_mask {T : Nat} (hT : subParts 2 T = true) (d : Dev) (m : ℕ) (st : ℕ) : (Dev.setMoverState d m st).mask T = d.mask T := by
  refine Dev.mask_mono (a := 2) ?_ hT
  unfold Dev.setMoverState
  repeat' (first | with_reducible rfl | (simp (disch := decide) only [Dev.mask_ite, ite_self, Dev.fset_mask]; done) | split | (dsimp only; split) | rfl)
theorem Dev.startChain_mask {T : Nat} (hT : subParts 8194 T = true) (d : Dev) (m : ℕ) : (Dev.startChain d m).mask T = d.mask T := by
  refine Dev.mask_mono (a := 8194) ?_ hT
  unfold Dev.startChain
  repeat' (first | with_reducible rfl | (simp (disch := decide) only [Dev.mask_ite, ite_self, Dev.fset_mask, Dev.setMover_mask, Dev.setMoverState_mask]; done) | split | (dsimp only; split) | rfl)
theorem Dev.trigger_mask {T : Nat} (hT : subParts 8194 T = true) (d : Dev) (m : ℕ) : (Dev.trigger d m).mask T = d.mask T := by
  refine Dev.mask_mono (a := 8194) ?_ hT
  unfold Dev.trigger
  repeat' (first | with_reducible rfl | (simp (disch := decide) only [Dev.mask_ite, ite_self, Dev.count_mask, Dev.fset_mask, Dev.startChain_mask]; done) | split | (dsimp only; split) | rfl)
theorem Dev.deliver_mask {T : Nat} (hT : subParts 2105862 T = true) (d : Dev) (n : ℕ) : (Dev.deliver d n).mask T = d.mask T := by
  refine Dev.mask_mono (a := 2105862) ?_ hT
  unfold Dev.deliver
  repeat' (first | with_reducible rfl | (simp (disch := decide) only [Dev.mask_ite, ite_self, Dev.msixRaise_mask, Dev.trigger_mask, Dev.setPend_mask]; done) | split | (dsimp only; split) | rfl)
theorem Dev.pulse_mask {T : Nat} (hT : subParts 2236934 T = true) (d : Dev) (n : ℕ) : (Dev.pulse d n).mask T = d.mask T := by
  refine Dev.mask_mono (a := 2236934) ?_ hT
  unfold Dev.pulse
  repeat' (first | with_reducible rfl | (simp (disch := decide) only [Dev.mask_ite, ite_self, Dev.wakeOf_mask, Dev.count_mask, Dev.setPend_mask, Dev.deliver_mask]; done) | split | (dsimp only; split) | rfl)
theorem Dev.setRaw_mask {T : Nat} (hT : subParts 2 T = true) (d : Dev) (n : ℕ) (b : Bool) : (Dev.setRaw d n b).mask T = d.mask T := by
  refine Dev.mask_mono (a := 2) ?_ hT
  unfold Dev.setRaw
  repeat' (first | with_reducible rfl | (simp (disch := decide) only [Dev.mask_ite, ite_self, Dev.fset_mask]; done) | split | (dsimp only; split) | rfl)
theorem Dev.refreshLevel_mask {T : Nat} (hT : subParts 2236934 T = true) (d : Dev) (n : ℕ) : (Dev.refreshLevel d n).mask T = d.mask T := by
  refine Dev.mask_mono (a := 2236934) ?_ hT
  unfold Dev.refreshLevel
  repeat' (first | with_reducible rfl | (simp (disch := decide) only [Dev.mask_ite, ite_self, Dev.wakeOf_mask, Dev.setRaw_mask, Dev.setPend_mask, Dev.deliver_mask]; done) | split | (dsimp only; split) | rfl)
theorem Dev.refreshFault_mask {T : Nat} (hT : subParts 2236934 T = true) (d : Dev) (p : ℕ) : (Dev.refreshFault d p).mask T = d.mask T := by
  refine Dev.mask_mono (a := 2236934) ?_ hT
  unfold Dev.refreshFault
  repeat' (first | with_reducible rfl | (simp (disch := decide) only [Dev.mask_ite, ite_self, Dev.refreshLevel_mask]; done) | split | (dsimp only; split) | rfl)
theorem Dev.latchFault_mask {T : Nat} (hT : subParts 2236934 T = true) (d : Dev) (p : ℕ) (bit : ℕ) : (Dev.latchFault d p bit).mask T = d.mask T := by
  refine Dev.mask_mono (a := 2236934) ?_ hT
  unfold Dev.latchFault
  repeat' (first | with_reducible rfl | (simp (disch := decide) only [Dev.mask_ite, ite_self, Dev.refreshFault_mask, Dev.fset_mask]; done) | split | (dsimp only; split) | rfl)
theorem Dev.traceAdd_mask {T : Nat} (hT : subParts 70368746414598 T = true) (d : Dev) (words : List ℕ) : (Dev.traceAdd d words).mask T = d.mask T := by
  refine Dev.mask_mono (a := 70368746414598) ?_ hT
  unfold Dev.traceAdd
  repeat' (first | with_reducible rfl | (simp (disch := decide) only [Dev.mask_ite, ite_self, Dev.mask_traceQ, Dev.pulse_mask, Dev.latchFault_mask, Dev.count_mask]; done) | split | (dsimp only; split) | rfl)
theorem Dev.traceWrite_mask {T : Nat} (hT : subParts 70368746414598 T = true) (d : Dev) (h : ℕ) (kind : ℕ) (reason : ℕ) : (Dev.traceWrite d h kind reason).mask T = d.mask T := by
  refine Dev.mask_mono (a := 70368746414598) ?_ hT
  unfold Dev.traceWrite
  repeat' (first | with_reducible rfl | (simp (disch := decide) only [Dev.mask_ite, ite_self, Dev.traceAdd_mask]; done) | split | (dsimp only; split) | rfl)
theorem Dev.countDrop_mask {T : Nat} (hT : subParts 2 T = true) (d : Dev) (reason : ℕ) : (Dev.countDrop d reason).mask T = d.mask T := by
  refine Dev.mask_mono (a := 2) ?_ hT
  unfold Dev.countDrop
  repeat' (first | with_reducible rfl | (simp (disch := decide) only [Dev.mask_ite, ite_self, Dev.count_mask]; done) | split | (dsimp only; split) | rfl)
theorem Dev.setPoolUsage_mask {T : Nat} (hT : subParts 140737488355332 T = true) (d : Dev) (i : ℕ) (u : ℕ) : (Dev.setPoolUsage d i u).mask T = d.mask T := by
  refine Dev.mask_mono (a := 140737488355332) ?_ hT
  unfold Dev.setPoolUsage
  repeat' (first | with_reducible rfl | (simp (disch := decide) only [Dev.mask_ite, ite_self, Dev.mask_xoffAsked, Dev.wset_mask]; done) | split | (dsimp only; split) | rfl)
theorem Dev.poolReturn_mask {T : Nat} (hT : subParts 140737488355332 T = true) (d : Dev) (pool : Option ℕ) (n : ℕ) : (Dev.poolReturn d pool n).mask T = d.mask T := by
  refine Dev.mask_mono (a := 140737488355332) ?_ hT
  unfold Dev.poolReturn
  repeat' (first | with_reducible rfl | (simp (disch := decide) only [Dev.mask_ite, ite_self, Dev.setPoolUsage_mask]; done) | split | (dsimp only; split) | rfl)
theorem Dev.returnDeep_mask {T : Nat} (hT : subParts 8796093022210 T = true) (d : Dev) (rs : List (ℕ × ℕ)) : (Dev.returnDeep d rs).mask T = d.mask T := by
  refine Dev.mask_mono (a := 8796093022210) ?_ hT
  unfold Dev.returnDeep
  repeat' (first | with_reducible rfl | (simp (disch := decide) only [Dev.mask_ite, ite_self, Dev.mask_cullet, Dev.fset_mask]; done) | split | (dsimp only; split) | rfl)
theorem Dev.setFreeDie_mask {T : Nat} (hT : subParts 2236934 T = true) (d : Dev) (n : ℕ) : (Dev.setFreeDie d n).mask T = d.mask T := by
  refine Dev.mask_mono (a := 2236934) ?_ hT
  unfold Dev.setFreeDie
  repeat' (first | with_reducible rfl | (simp (disch := decide) only [Dev.mask_ite, ite_self, Dev.fset_mask, Dev.pulse_mask]; done) | split | (dsimp only; split) | rfl)
theorem Dev.freeCells_mask {T : Nat} (hT : subParts 8796095259142 T = true) (d : Dev) (rs : List (ℕ × ℕ)) : (Dev.freeCells d rs).mask T = d.mask T := by
  refine Dev.mask_mono (a := 8796095259142) ?_ hT
  unfold Dev.freeCells
  repeat' (first | with_reducible rfl | (simp (disch := decide) only [Dev.mask_ite, ite_self, Dev.mask_cullet, Dev.setFreeDie_mask]; done) | split | (dsimp only; split) | rfl)
theorem Dev.uncount_mask {T : Nat} (hT : subParts 2 T = true) (d : Dev) (p : ℕ) (f : Fld) : (Dev.uncount d p f).mask T = d.mask T := by
  refine Dev.mask_mono (a := 2) ?_ hT
  unfold Dev.uncount
  repeat' (first | with_reducible rfl | (simp (disch := decide) only [Dev.mask_ite, ite_self, Dev.fset_mask]; done) | split | (dsimp only; split) | rfl)
theorem Dev.departCounts_mask {T : Nat} (hT : subParts 2 T = true) (d : Dev) (p : Packet) : (Dev.departCounts d p).mask T = d.mask T := by
  refine Dev.mask_mono (a := 2) ?_ hT
  unfold Dev.departCounts
  repeat' (first | with_reducible rfl | (simp (disch := decide) only [Dev.mask_ite, ite_self, Dev.uncount_mask]; done) | split | (dsimp only; split) | rfl)
theorem Dev.noteGone_mask {T : Nat} (hT : subParts 36893488147419103232 T = true) (d : Dev) (p : Packet) : (Dev.noteGone d p).mask T = d.mask T := by
  refine Dev.mask_mono (a := 36893488147419103232) ?_ hT
  unfold Dev.noteGone
  repeat' (first | with_reducible rfl | (simp (disch := decide) only [Dev.mask_ite, ite_self, Dev.mask_sentQ]; done) | split | (dsimp only; split) | rfl)
theorem Dev.setPacket_mask {T : Nat} (hT : subParts 17179869184 T = true) (d : Dev) (h : ℕ) (p : Packet) : (Dev.setPacket d h p).mask T = d.mask T := by
  refine Dev.mask_mono (a := 17179869184) ?_ hT
  unfold Dev.setPacket
  repeat' (first | with_reducible rfl | (simp (disch := decide) only [Dev.mask_ite, ite_self, Dev.mask_packets]; done) | split | (dsimp only; split) | rfl)
theorem Dev.setSlice_mask {T : Nat} (hT : subParts 8388608 T = true) (d : Dev) (s : ℕ) (v : Slice) : (Dev.setSlice d s v).mask T = d.mask T := by
  refine Dev.mask_mono (a := 8388608) ?_ hT
  unfold Dev.setSlice
  repeat' (first | with_reducible rfl | (simp (disch := decide) only [Dev.mask_ite, ite_self, Dev.mask_slices]; done) | split | (dsimp only; split) | rfl)
theorem Dev.releaseSlice_mask {T : Nat} (hT : subParts 8388608 T = true) (d : Dev) (stamp : Stamp) : (Dev.releaseSlice d stamp).mask T = d.mask T := by
  refine Dev.mask_mono (a := 8388608) ?_ hT
  unfold Dev.releaseSlice
  repeat' (first | with_reducible rfl | (simp (disch := decide) only [Dev.mask_ite, ite_self, Dev.setSlice_mask]; done) | split | (dsimp only; split) | rfl)
theorem Dev.retireOne_mask {T : Nat} (hT : subParts 36893637698190975494 T = true) (d : Dev) (h : ℕ) : (Dev.retireOne d h).mask T = d.mask T := by
  refine Dev.mask_mono (a := 36893637698190975494) ?_ hT
  unfold Dev.retireOne
  repeat' (first | with_reducible rfl | (simp (disch := decide) only [Dev.mask_ite, ite_self, Dev.poolReturn_mask, Dev.returnDeep_mask, Dev.freeCells_mask, Dev.departCounts_mask, Dev.noteGone_mask, Dev.setPacket_mask, Dev.releaseSlice_mask]; done) | split | (dsimp only; split) | rfl)
theorem Dev.retireUp_mask {T : Nat} (hT : subParts 36893637698190975494 T = true) (d : Dev) (h : ℕ) (x2 : ℕ) : (Dev.retireUp d h x2).mask T = d.mask T := by
  refine Dev.mask_mono (a := 36893637698190975494) ?_ hT
  clear hT
  induction x2 generalizing d h <;> unfold Dev.retireUp
  repeat' (first | with_reducible rfl | (simp (disch := decide) only [Dev.mask_ite, ite_self, *, Dev.retireOne_mask, Dev.setPacket_mask]; done) | split | (dsimp only; split) | rfl)
theorem Dev.retire_mask {T : Nat} (hT : subParts 36893637698190975494 T = true) (d : Dev) (h : ℕ) : (Dev.retire d h).mask T = d.mask T := by
  refine Dev.mask_mono (a := 36893637698190975494) ?_ hT
  unfold Dev.retire
  repeat' (first | with_reducible rfl | (simp (disch := decide) only [Dev.mask_ite, ite_self, Dev.retireUp_mask]; done) | split | (dsimp only; split) | rfl)
theorem Dev.dropPacket_mask {T : Nat} (hT : subParts 36893708066935153158 T = true) (d : Dev) (h : ℕ) (reason : ℕ) : (Dev.dropPacket d h reason).mask T = d.mask T := by
  refine Dev.mask_mono (a := 36893708066935153158) ?_ hT
  unfold Dev.dropPacket
  repeat' (first | with_reducible rfl | (simp (disch := decide) only [Dev.mask_ite, ite_self, Dev.traceWrite_mask, Dev.countDrop_mask, Dev.retire_mask, Dev.setPacket_mask, Dev.departCounts_mask]; done) | split | (dsimp only; split) | rfl)
theorem Dev.modPacket_mask {T : Nat} (hT : subParts 17179869184 T = true) (d : Dev) (h : ℕ) (f : Packet → Packet) : (Dev.modPacket d h f).mask T = d.mask T := by
  refine Dev.mask_mono (a := 17179869184) ?_ hT
  unfold Dev.modPacket
  repeat' (first | with_reducible rfl | (simp (disch := decide) only [Dev.mask_ite, ite_self, Dev.setPacket_mask]; done) | split | (dsimp only; split) | rfl)
theorem Dev.mark_mask {T : Nat} (hT : subParts 17179869184 T = true) (d : Dev) (h : ℕ) (m : ℕ × ℕ) : (Dev.mark d h m).mask T = d.mask T := by
  refine Dev.mask_mono (a := 17179869184) ?_ hT
  unfold Dev.mark
  repeat' (first | with_reducible rfl | (simp (disch := decide) only [Dev.mask_ite, ite_self, Dev.modPacket_mask]; done) | split | (dsimp only; split) | rfl)
theorem Dev.passApplied_mask {T : Nat} (hT : subParts 4 T = true) (d : Dev) : (Dev.passApplied d).mask T = d.mask T := by
  refine Dev.mask_mono (a := 4) ?_ hT
  unfold Dev.passApplied
  repeat' (first | with_reducible rfl | (simp (disch := decide) only [Dev.mask_ite, ite_self, Dev.wcount_mask]; done) | split | (dsimp only; split) | rfl)
theorem Dev.dropAt_mask {T : Nat} (hT : subParts 36893708066935153158 T = true) (d : Dev) (h : ℕ) (reason : ℕ) (later : List Act) : (Dev.dropAt d h reason later).mask T = d.mask T := by
  refine Dev.mask_mono (a := 36893708066935153158) ?_ hT
  unfold Dev.dropAt
  repeat' (first | with_reducible rfl | (simp (disch := decide) only [Dev.mask_ite, ite_self, Dev.dropPacket_mask, Dev.passApplied_mask, Dev.modPacket_mask, Dev.mark_mask]; done) | split | (dsimp only; split) | rfl)
theorem Dev.sample_mask {T : Nat} (hT : subParts 1024 T = true) (d : Dev) (rate : ℕ) : (Dev.sample d rate).2.mask T = d.mask T := by
  refine Dev.mask_mono (a := 1024) ?_ hT
  unfold Dev.sample
  repeat' (first | with_reducible rfl | (simp (disch := decide) only [Dev.mask_ite, ite_self, Dev.fresh_mask]; done) | split | (dsimp only; split) | rfl)
theorem Dev.drawGlobal_mask {T : Nat} (hT : subParts 17179870208 T = true) (d : Dev) (h : ℕ) : (Dev.drawGlobal d h).mask T = d.mask T := by
  refine Dev.mask_mono (a := 17179870208) ?_ hT
  unfold Dev.drawGlobal
  repeat' (first | with_reducible rfl | (simp (disch := decide) only [Dev.mask_ite, ite_self, Dev.sample_mask, Dev.modPacket_mask]; done) | split | (dsimp only; split) | rfl)
theorem Dev.countSession_mask {T : Nat} (hT : subParts 4 T = true) (d : Dev) (s : ℕ) (half : ℕ) : (Dev.countSession d s half).mask T = d.mask T := by
  refine Dev.mask_mono (a := 4) ?_ hT
  unfold Dev.countSession
  repeat' (first | with_reducible rfl | (simp (disch := decide) only [Dev.mask_ite, ite_self, Dev.wset_mask]; done) | split | (dsimp only; split) | rfl)
theorem Dev.drawMirrors_mask {T : Nat} (hT : subParts 17179870212 T = true) (d : Dev) (h : ℕ) (x2 : List ℕ) : (Dev.drawMirrors d h x2).2.mask T = d.mask T := by
  refine Dev.mask_mono (a := 17179870212) ?_ hT
  clear hT
  induction x2 generalizing d h <;> unfold Dev.drawMirrors
  repeat' (first | with_reducible rfl | (simp (disch := decide) only [Dev.mask_ite, ite_self, *, Dev.countSession_mask, Dev.modPacket_mask, Dev.sample_mask]; done) | split | (dsimp only; split) | rfl)
theorem Dev.confRefused_mask {T : Nat} (hT : subParts 2 T = true) (d : Dev) (s : ℕ) : (Dev.confRefused d s).mask T = d.mask T := by
  refine Dev.mask_mono (a := 2) ?_ hT
  unfold Dev.confRefused
  repeat' (first | with_reducible rfl | (simp (disch := decide) only [Dev.mask_ite, ite_self, Dev.count_mask]; done) | split | (dsimp only; split) | rfl)
theorem Dev.sxpDiscard_mask {T : Nat} (hT : subParts 2236934 T = true) (d : Dev) (n : ℕ) : (Dev.sxpDiscard d n).mask T = d.mask T := by
  refine Dev.mask_mono (a := 2236934) ?_ hT
  unfold Dev.sxpDiscard
  repeat' (first | with_reducible rfl | (simp (disch := decide) only [Dev.mask_ite, ite_self, Dev.pulse_mask, Dev.countDrop_mask, Dev.count_mask]; done) | split | (dsimp only; split) | rfl)
theorem Dev.allocCells_mask {T : Nat} (hT : subParts 8796095259142 T = true) (d : Dev) (n : ℕ) : (Dev.allocCells d n).2.mask T = d.mask T := by
  refine Dev.mask_mono (a := 8796095259142) ?_ hT
  unfold Dev.allocCells
  repeat' (first | with_reducible rfl | (simp (disch := decide) only [Dev.mask_ite, ite_self, Dev.mask_cullet, Dev.wcount_mask, Dev.setFreeDie_mask]; done) | split | (dsimp only; split) | rfl)
theorem Dev.setCopy_mask {T : Nat} (hT : subParts 17592186044416 T = true) (d : Dev) (c : ℕ) (v : Option Copy) : (Dev.setCopy d c v).mask T = d.mask T := by
  refine Dev.mask_mono (a := 17592186044416) ?_ hT
  unfold Dev.setCopy
  repeat' (first | with_reducible rfl | (simp (disch := decide) only [Dev.mask_ite, ite_self, Dev.mask_copies]; done) | split | (dsimp only; split) | rfl)
theorem Dev.addCopy_mask {T : Nat} (hT : subParts 52793738002436 T = true) (d : Dev) (c : Copy) : (Dev.addCopy d c).mask T = d.mask T := by
  refine Dev.mask_mono (a := 52793738002436) ?_ hT
  unfold Dev.addCopy
  repeat' (first | with_reducible rfl | (simp (disch := decide) only [Dev.mask_ite, ite_self, Dev.mask_copies, Dev.mask_nextCopy, Dev.setCopy_mask, Dev.wcount_mask, Dev.modPacket_mask]; done) | split | (dsimp only; split) | rfl)
theorem Dev.makeCopy_mask {T : Nat} (hT : subParts 61589833261574 T = true) {d : Dev} {c : Copy} {need : ℕ} {r} (e : Dev.makeCopy d c need = some r) : r.mask T = d.mask T := by
  refine Dev.mask_mono (a := 61589833261574) ?_ hT
  unfold Dev.makeCopy at e
  all_goals try dsimp only at e
  all_goals repeat' (split at e)
  all_goals first | (cases e; done) | (cases e; with_reducible rfl) | (cases e; simp (disch := decide) only [Dev.mask_ite, ite_self, Dev.sxpDiscard_mask, Dev.allocCells_mask, Dev.addCopy_mask]; done)
theorem Dev.lineUe_mask {T : Nat} (hT : subParts 2236934 T = true) (d : Dev) : (Dev.lineUe d).mask T = d.mask T := by
  refine Dev.mask_mono (a := 2236934) ?_ hT
  unfold Dev.lineUe
  repeat' (first | with_reducible rfl | (simp (disch := decide) only [Dev.mask_ite, ite_self, Dev.latchFault_mask]; done) | split | (dsimp only; split) | rfl)
theorem Dev.templateAbsent_mask {T : Nat} (hT : subParts 2236934 T = true) (d : Dev) (i : ℕ) : (Dev.templateAbsent d i).mask T = d.mask T := by
  refine Dev.mask_mono (a := 2236934) ?_ hT
  unfold Dev.templateAbsent
  repeat' (first | with_reducible rfl | (simp (disch := decide) only [Dev.mask_ite, ite_self, Dev.lineUe_mask, Dev.pulse_mask, Dev.latchFault_mask]; done) | split | (dsimp only; split) | rfl)
theorem Dev.advanceId_mask {T : Nat} (hT : subParts 576460752303423488 T = true) (d : Dev) (n : ℕ) : (Dev.advanceId d n).mask T = d.mask T := by
  refine Dev.mask_mono (a := 576460752303423488) ?_ hT
  unfold Dev.advanceId
  repeat' (first | with_reducible rfl | (simp (disch := decide) only [Dev.mask_ite, ite_self, Dev.mask_encapId]; done) | split | (dsimp only; split) | rfl)
theorem Dev.mirrorCopy_mask {T : Nat} (hT : subParts 576522342136685062 T = true) {d : Dev} {h : ℕ} {s : ℕ} {bytes : List Byte} {l3 : Option ℕ} {r} (e : Dev.mirrorCopy d h s bytes l3 = some r) : r.mask T = d.mask T := by
  refine Dev.mask_mono (a := 576522342136685062) ?_ hT
  unfold Dev.mirrorCopy at e
  all_goals try dsimp only at e
  all_goals repeat' (split at e)
  all_goals first | (cases e; done) | (cases e; with_reducible rfl) | (cases e; simp (disch := decide) only [Dev.mask_ite, ite_self, Dev.confRefused_mask, Dev.countSession_mask, Dev.countDrop_mask, Dev.templateAbsent_mask, Dev.advanceId_mask]; done) | (cases e; exact Dev.makeCopy_mask (by decide) (by assumption)) | (cases e; simp (disch := decide) only [Dev.mask_ite, ite_self, Dev.confRefused_mask, Dev.countSession_mask, Dev.countDrop_mask, Dev.templateAbsent_mask, Dev.advanceId_mask]; exact Dev.makeCopy_mask (by decide) (by assumption)) | exact Dev.makeCopy_mask (by decide) e | exact (Dev.makeCopy_mask (by decide) e).trans (by simp (disch := decide) only [Dev.mask_ite, ite_self, Dev.confRefused_mask, Dev.countSession_mask, Dev.countDrop_mask, Dev.templateAbsent_mask, Dev.advanceId_mask]) | exact (Dev.makeCopy_mask (by decide) e).trans (by simp (disch := decide) only [Dev.mask_ite, ite_self, Dev.confRefused_mask, Dev.countSession_mask, Dev.countDrop_mask, Dev.templateAbsent_mask, Dev.advanceId_mask]; exact Dev.makeCopy_mask (by decide) (by assumption)) | exact (Dev.makeCopy_mask (by decide) e).trans (Dev.makeCopy_mask (by decide) (by assumption))
theorem Dev.mirrorCopies_mask {T : Nat} (hT : subParts 576522342136685062 T = true) {d : Dev} {h : ℕ} {bytes : List Byte} {l3 : Option ℕ} {x4 : List ℕ} {r} (e : Dev.mirrorCopies d h bytes l3 x4 = some r) : r.mask T = d.mask T := by
  refine Dev.mask_mono (a := 576522342136685062) ?_ hT
  clear hT
  induction x4 generalizing d with
  | nil => cases e; rfl
  | cons a l ih =>
    unfold Dev.mirrorCopies at e
    split at e
    · cases e
    · exact (ih e).trans (Dev.mirrorCopy_mask (by decide) (by assumption))
theorem Dev.dropLearn_mask {T : Nat} (hT : subParts 2236934 T = true) (d : Dev) : (Dev.dropLearn d).mask T = d.mask T := by
  refine Dev.mask_mono (a := 2236934) ?_ hT
  unfold Dev.dropLearn
  repeat' (first | with_reducible rfl | (simp (disch := decide) only [Dev.mask_ite, ite_self, Dev.pulse_mask, Dev.count_mask]; done) | split | (dsimp only; split) | rfl)
theorem Dev.noteHold_mask {T : Nat} (hT : subParts 2 T = true) (d : Dev) : (Dev.noteHold d).mask T = d.mask T := by
  refine Dev.mask_mono (a := 2) ?_ hT
  unfold Dev.noteHold
  repeat' (first | with_reducible rfl | (simp (disch := decide) only [Dev.mask_ite, ite_self, Dev.count_mask]; done) | split | (dsimp only; split) | rfl)
theorem Dev.askLearn_mask {T : Nat} (hT : subParts 9007199256977926 T = true) (d : Dev) (l : Learn) : (Dev.askLearn d l).mask T = d.mask T := by
  refine Dev.mask_mono (a := 9007199256977926) ?_ hT
  unfold Dev.askLearn
  repeat' (first | with_reducible rfl | (simp (disch := decide) only [Dev.mask_ite, ite_self, Dev.mask_learnQ, Dev.dropLearn_mask, Dev.noteHold_mask, Dev.fset_mask]; done) | split | (dsimp only; split) | rfl)
theorem Dev.learnWord_mask {T : Nat} (hT : subParts 9007199256977926 T = true) (d : Dev) (p : Packet) (a : Act) : (Dev.learnWord d p a).mask T = d.mask T := by
  refine Dev.mask_mono (a := 9007199256977926) ?_ hT
  unfold Dev.learnWord
  repeat' (first | with_reducible rfl | (simp (disch := decide) only [Dev.mask_ite, ite_self, Dev.askLearn_mask]; done) | split | (dsimp only; split) | rfl)
theorem Dev.depthRose_mask {T : Nat} (hT : subParts 2236934 T = true) (d : Dev) : (Dev.depthRose d).mask T = d.mask T := by
  refine Dev.mask_mono (a := 2236934) ?_ hT
  unfold Dev.depthRose
  repeat' (first | with_reducible rfl | (simp (disch := decide) only [Dev.mask_ite, ite_self, Dev.fset_mask, Dev.pulse_mask]; done) | split | (dsimp only; split) | rfl)
theorem Dev.setStage_mask {T : Nat} (hT : subParts 17179869184 T = true) (d : Dev) (h : ℕ) (st : Stage) : (Dev.setStage d h st).mask T = d.mask T := by
  refine Dev.mask_mono (a := 17179869184) ?_ hT
  unfold Dev.setStage
  repeat' (first | with_reducible rfl | (simp (disch := decide) only [Dev.mask_ite, ite_self, Dev.modPacket_mask]; done) | split | (dsimp only; split) | rfl)
theorem Dev.queueReheat_mask {T : Nat} (hT : subParts 292060013062 T = true) (d : Dev) (h : ℕ) : (Dev.queueReheat d h).mask T = d.mask T := by
  refine Dev.mask_mono (a := 292060013062) ?_ hT
  unfold Dev.queueReheat
  repeat' (first | with_reducible rfl | (simp (disch := decide) only [Dev.mask_ite, ite_self, Dev.mask_reheatQ, Dev.depthRose_mask, Dev.setStage_mask]; done) | split | (dsimp only; split) | rfl)
theorem Dev.reheat_mask {T : Nat} (hT : subParts 79456897212934 T = true) {d : Dev} {h : ℕ} {hint : ℕ} {bytes : List Byte} {r} (e : Dev.reheat d h hint bytes = some r) : r.mask T = d.mask T := by
  refine Dev.mask_mono (a := 79456897212934) ?_ hT
  unfold Dev.reheat at e
  all_goals try dsimp only at e
  all_goals repeat' (split at e)
  all_goals first | (cases e; done) | (cases e; with_reducible rfl) | (cases e; simp (disch := decide) only [Dev.mask_ite, ite_self, Dev.modPacket_mask, Dev.traceWrite_mask, Dev.allocCells_mask, Dev.queueReheat_mask]; done)
theorem Dev.reheatSegment_mask {T : Nat} (hT : subParts 9122512773638 T = true) {d : Dev} {h : ℕ} {hint : ℕ} {s : Segment} {last : Bool} {r} (e : Dev.reheatSegment d h hint s last = some r) : r.mask T = d.mask T := by
  refine Dev.mask_mono (a := 9122512773638) ?_ hT
  unfold Dev.reheatSegment at e
  all_goals try dsimp only at e
  all_goals repeat' (split at e)
  all_goals first | (cases e; done) | (cases e; with_reducible rfl) | (cases e; simp (disch := decide) only [Dev.mask_ite, ite_self, Dev.mask_headGen, Dev.allocCells_mask, Dev.modPacket_mask, Dev.queueReheat_mask, Dev.setPacket_mask]; done)
theorem Dev.reheatSegments_mask {T : Nat} (hT : subParts 9122512773638 T = true) {d : Dev} {h : ℕ} {hint : ℕ} {x3 : List Segment} {r} (e : Dev.reheatSegments d h hint x3 = some r) : r.mask T = d.mask T := by
  refine Dev.mask_mono (a := 9122512773638) ?_ hT
  clear hT
  induction x3 generalizing d with
  | nil => cases e; rfl
  | cons a l ih =>
    unfold Dev.reheatSegments at e
    split at e
    · cases e
    · exact (ih e).trans (Dev.reheatSegment_mask (by decide) (by assumption))
theorem Dev.reheatSplit_mask {T : Nat} (hT : subParts 79491256951302 T = true) {d : Dev} {h : ℕ} {hint : ℕ} {segs : List Segment} {r} (e : Dev.reheatSplit d h hint segs = some r) : r.mask T = d.mask T := by
  refine Dev.mask_mono (a := 79491256951302) ?_ hT
  unfold Dev.reheatSplit at e
  dsimp only at e
  rw [Option.map_eq_some_iff] at e
  obtain ⟨a, ha, rfl⟩ := e
  rw [Dev.modPacket_mask (by decide), Dev.reheatSegments_mask (by decide) ha]
  simp (disch := decide) only [Dev.mask_ite, ite_self, Dev.modPacket_mask, Dev.traceWrite_mask]
theorem Dev.endEmpty_mask {T : Nat} (hT : subParts 36893708066935153158 T = true) (d : Dev) (h : ℕ) (reason : ℕ) : (Dev.endEmpty d h reason).mask T = d.mask T := by
  refine Dev.mask_mono (a := 36893708066935153158) ?_ hT
  unfold Dev.endEmpty
  repeat' (first | with_reducible rfl | (simp (disch := decide) only [Dev.mask_ite, ite_self, Dev.retire_mask, Dev.traceWrite_mask]; done) | split | (dsimp only; split) | rfl)
theorem Dev.forward_mask {T : Nat} (hT : subParts 36893760843493286406 T = true) {d : Dev} {h : ℕ} {dest : ℕ} {x3 : List Segment} {r} (e : Dev.forward d h dest x3 = some r) : r.mask T = d.mask T := by
  refine Dev.mask_mono (a := 36893760843493286406) ?_ hT
  clear hT
  induction x3 generalizing d with
  | nil => unfold Dev.forward at e; cases e; exact Dev.endEmpty_mask (by decide) _ _ _
  | cons a l ih =>
    unfold Dev.forward at e
    dsimp only at e
    split at e
    · cases e
    · exact (ih e).trans (Dev.makeCopy_mask (by decide) (by assumption))
theorem Dev.finishPass_mask {T : Nat} (hT : subParts 37470221905034355206 T = true) {d0 : Dev} {h : ℕ} {r} (e : Dev.finishPass d0 h = some r) : r.mask T = d0.mask T := by
  refine Dev.mask_mono (a := 37470221905034355206) ?_ hT
  unfold Dev.finishPass at e
  dsimp only at e
  split at e
  · cases e
    simp (disch := decide) only [Dev.mask_ite, ite_self, Dev.retire_mask, Dev.departCounts_mask, Dev.modPacket_mask, Dev.traceWrite_mask, Dev.dropPacket_mask, Dev.mark_mask]
  · split at e
    · cases e
    · rename_i hm
      have hm := Dev.mirrorCopies_mask (T := 37470221905034355206) (by decide) hm
      split at e
      · split at e
        · exact (Dev.reheat_mask (by decide) e).trans ((by simp (disch := decide) only [Dev.mask_ite, ite_self, Dev.retire_mask, Dev.departCounts_mask, Dev.modPacket_mask, Dev.traceWrite_mask, Dev.dropPacket_mask, Dev.mark_mask] : _ = _).trans hm)
        · exact (Dev.reheatSplit_mask (by decide) e).trans ((by simp (disch := decide) only [Dev.mask_ite, ite_self, Dev.retire_mask, Dev.departCounts_mask, Dev.modPacket_mask, Dev.traceWrite_mask, Dev.dropPacket_mask, Dev.mark_mask] : _ = _).trans hm)
      · split at e
        · cases e; rw [← hm]; simp (disch := decide) only [Dev.mask_ite, ite_self, Dev.retire_mask, Dev.departCounts_mask, Dev.modPacket_mask, Dev.traceWrite_mask, Dev.dropPacket_mask, Dev.mark_mask]
        · split at e
          · cases e; rw [← hm]; simp (disch := decide) only [Dev.mask_ite, ite_self, Dev.retire_mask, Dev.departCounts_mask, Dev.modPacket_mask, Dev.traceWrite_mask, Dev.dropPacket_mask, Dev.mark_mask]
          · exact (Dev.forward_mask (by decide) e).trans ((by simp (disch := decide) only [Dev.mask_ite, ite_self, Dev.retire_mask, Dev.departCounts_mask, Dev.modPacket_mask, Dev.traceWrite_mask, Dev.dropPacket_mask, Dev.mark_mask] : _ = _).trans hm)
theorem Dev.askCipher_mask {T : Nat} (hT : subParts 147573952589676412928 T = true) (d : Dev) (h : ℕ) (x : ℕ) : (Dev.askCipher d h x).mask T = d.mask T := by
  refine Dev.mask_mono (a := 147573952589676412928) ?_ hT
  unfold Dev.askCipher
  repeat' (first | with_reducible rfl | (simp (disch := decide) only [Dev.mask_ite, ite_self, Dev.mask_sxp]; done) | split | (dsimp only; split) | rfl)
theorem Dev.lateStages_mask {T : Nat} (hT : subParts 185044174494710768134 T = true) {d : Dev} {h : ℕ} {acts : List Act} {abandon : Bool} {r} (e : Dev.lateStages d h acts abandon = some r) : r.mask T = d.mask T := by
  refine Dev.mask_mono (a := 185044174494710768134) ?_ hT
  unfold Dev.lateStages at e
  all_goals try dsimp only at e
  all_goals repeat' (split at e)
  all_goals first | (cases e; done) | (cases e; with_reducible rfl) | (cases e; simp (disch := decide) only [Dev.mask_ite, ite_self, Dev.advanceId_mask, Dev.wcount_mask, Dev.mark_mask, Dev.templateAbsent_mask, Dev.dropAt_mask, Dev.modPacket_mask, Dev.passApplied_mask, Dev.askCipher_mask, Dev.setStage_mask]; done) | (cases e; exact Dev.finishPass_mask (by decide) (by assumption)) | (cases e; simp (disch := decide) only [Dev.mask_ite, ite_self, Dev.advanceId_mask, Dev.wcount_mask, Dev.mark_mask, Dev.templateAbsent_mask, Dev.dropAt_mask, Dev.modPacket_mask, Dev.passApplied_mask, Dev.askCipher_mask, Dev.setStage_mask]; exact Dev.finishPass_mask (by decide) (by assumption)) | (cases e; exact Dev.reheat_mask (by decide) (by assumption)) | (cases e; simp (disch := decide) only [Dev.mask_ite, ite_self, Dev.advanceId_mask, Dev.wcount_mask, Dev.mark_mask, Dev.templateAbsent_mask, Dev.dropAt_mask, Dev.modPacket_mask, Dev.passApplied_mask, Dev.askCipher_mask, Dev.setStage_mask]; exact Dev.reheat_mask (by decide) (by assumption)) | exact Dev.finishPass_mask (by decide) e | exact (Dev.finishPass_mask (by decide) e).trans (by simp (disch := decide) only [Dev.mask_ite, ite_self, Dev.advanceId_mask, Dev.wcount_mask, Dev.mark_mask, Dev.templateAbsent_mask, Dev.dropAt_mask, Dev.modPacket_mask, Dev.passApplied_mask, Dev.askCipher_mask, Dev.setStage_mask]) | exact (Dev.finishPass_mask (by decide) e).trans (by simp (disch := decide) only [Dev.mask_ite, ite_self, Dev.advanceId_mask, Dev.wcount_mask, Dev.mark_mask, Dev.templateAbsent_mask, Dev.dropAt_mask, Dev.modPacket_mask, Dev.passApplied_mask, Dev.askCipher_mask, Dev.setStage_mask]; exact Dev.finishPass_mask (by decide) (by assumption)) | exact (Dev.finishPass_mask (by decide) e).trans (by simp (disch := decide) only [Dev.mask_ite, ite_self, Dev.advanceId_mask, Dev.wcount_mask, Dev.mark_mask, Dev.templateAbsent_mask, Dev.dropAt_mask, Dev.modPacket_mask, Dev.passApplied_mask, Dev.askCipher_mask, Dev.setStage_mask]; exact Dev.reheat_mask (by decide) (by assumption)) | exact (Dev.finishPass_mask (by decide) e).trans (Dev.finishPass_mask (by decide) (by assumption)) | exact (Dev.finishPass_mask (by decide) e).trans (Dev.reheat_mask (by decide) (by assumption)) | exact Dev.reheat_mask (by decide) e | exact (Dev.reheat_mask (by decide) e).trans (by simp (disch := decide) only [Dev.mask_ite, ite_self, Dev.advanceId_mask, Dev.wcount_mask, Dev.mark_mask, Dev.templateAbsent_mask, Dev.dropAt_mask, Dev.modPacket_mask, Dev.passApplied_mask, Dev.askCipher_mask, Dev.setStage_mask]) | exact (Dev.reheat_mask (by decide) e).trans (by simp (disch := decide) only [Dev.mask_ite, ite_self, Dev.advanceId_mask, Dev.wcount_mask, Dev.mark_mask, Dev.templateAbsent_mask, Dev.dropAt_mask, Dev.modPacket_mask, Dev.passApplied_mask, Dev.askCipher_mask, Dev.setStage_mask]; exact Dev.finishPass_mask (by decide) (by assumption)) | exact (Dev.reheat_mask (by decide) e).trans (by simp (disch := decide) only [Dev.mask_ite, ite_self, Dev.advanceId_mask, Dev.wcount_mask, Dev.mark_mask, Dev.templateAbsent_mask, Dev.dropAt_mask, Dev.modPacket_mask, Dev.passApplied_mask, Dev.askCipher_mask, Dev.setStage_mask]; exact Dev.reheat_mask (by decide) (by assumption)) | exact (Dev.reheat_mask (by decide) e).trans (Dev.finishPass_mask (by decide) (by assumption)) | exact (Dev.reheat_mask (by decide) e).trans (Dev.reheat_mask (by decide) (by assumption))
theorem Dev.applyPass_mask {T : Nat} (hT : subParts 186206103198572357126 T = true) {d : Dev} {h : ℕ} {abandon : Bool} {r} (e : Dev.applyPass d h abandon = some r) : r.mask T = d.mask T := by
  refine Dev.mask_mono (a := 186206103198572357126) ?_ hT
  unfold Dev.applyPass at e
  dsimp only at e
  split at e
  · cases e
    simp (disch := decide) only [Dev.mask_ite, ite_self, Dev.mask_counterQ, Dev.dropPacket_mask, Dev.modPacket_mask, Dev.pulse_mask, Dev.latchFault_mask, Dev.mark_mask, Dev.dropAt_mask, Dev.count_mask, Dev.drawGlobal_mask, Dev.drawMirrors_mask, Dev.learnWord_mask]
  · split at e
    · cases e
      simp (disch := decide) only [Dev.mask_ite, ite_self, Dev.mask_counterQ, Dev.dropPacket_mask, Dev.modPacket_mask, Dev.pulse_mask, Dev.latchFault_mask, Dev.mark_mask, Dev.dropAt_mask, Dev.count_mask, Dev.drawGlobal_mask, Dev.drawMirrors_mask, Dev.learnWord_mask]
    · split at e
      · cases e
      · rename_i hm
        have hm := (Dev.mirrorCopies_mask (T := 186206103198572357126) (by decide) hm).trans (by simp (disch := decide) only [Dev.mask_ite, ite_self, Dev.mask_counterQ, Dev.dropPacket_mask, Dev.modPacket_mask, Dev.pulse_mask, Dev.latchFault_mask, Dev.mark_mask, Dev.dropAt_mask, Dev.count_mask, Dev.drawGlobal_mask, Dev.drawMirrors_mask, Dev.learnWord_mask] : _ = d.mask 186206103198572357126)
        split at e
        · cases e; rw [← hm]; simp (disch := decide) only [Dev.mask_ite, ite_self, Dev.mask_counterQ, Dev.dropPacket_mask, Dev.modPacket_mask, Dev.pulse_mask, Dev.latchFault_mask, Dev.mark_mask, Dev.dropAt_mask, Dev.count_mask, Dev.drawGlobal_mask, Dev.drawMirrors_mask, Dev.learnWord_mask]
        · split at e
          · cases e; rw [← hm]; simp (disch := decide) only [Dev.mask_ite, ite_self, Dev.mask_counterQ, Dev.dropPacket_mask, Dev.modPacket_mask, Dev.pulse_mask, Dev.latchFault_mask, Dev.mark_mask, Dev.dropAt_mask, Dev.count_mask, Dev.drawGlobal_mask, Dev.drawMirrors_mask, Dev.learnWord_mask]
          · refine (Dev.lateStages_mask (by decide) e).trans ?_
            rw [← hm]
            simp (disch := first | decide | (intro d a; exact Dev.learnWord_mask (by decide) _ _ _)) only [Dev.mask_foldl, Dev.mark_mask, Dev.modPacket_mask]
theorem Dev.abandonTemplate_mask {T : Nat} (hT : subParts 186206103198572357126 T = true) (d : Dev) (h : ℕ) : (Dev.abandonTemplate d h).mask T = d.mask T := by
  refine Dev.mask_mono (a := 186206103198572357126) ?_ hT
  unfold Dev.abandonTemplate
  extract_lets p word copy
  split
  · rename_i r _
    have hr : r.2.mask 186206103198572357126 = d.mask 186206103198572357126 := by
      simp only [r]
      split
      · simp (disch := decide) only [Dev.mask_ite, ite_self, Dev.fresh_mask, Dev.modPacket_mask]
      · rfl
    clear_value r
    refine Dev.mask_getD ?_
    intro x hx
    rw [Dev.applyPass_mask (by decide) hx]
    split
    · exact hr
    · exact (Dev.modPacket_mask (by decide) _ _ _).trans hr
  · rfl
theorem Dev.countTc_mask {T : Nat} (hT : subParts 4 T = true) (d : Dev) (m : ℕ) (t : ℕ) (part : ℕ) : (Dev.countTc d m t part).mask T = d.mask T := by
  refine Dev.mask_mono (a := 4) ?_ hT
  unfold Dev.countTc
  repeat' (first | with_reducible rfl | (simp (disch := decide) only [Dev.mask_ite, ite_self, Dev.wset_mask]; done) | split | (dsimp only; split) | rfl)
theorem Dev.copyGone_mask {T : Nat} (hT : subParts 36893708066935153158 T = true) (d : Dev) (h : ℕ) (reason : Option ℕ) : (Dev.copyGone d h reason).mask T = d.mask T := by
  refine Dev.mask_mono (a := 36893708066935153158) ?_ hT
  unfold Dev.copyGone
  repeat' (first | with_reducible rfl | (simp (disch := decide) only [Dev.mask_ite, ite_self, Dev.countDrop_mask, Dev.setPacket_mask, Dev.traceWrite_mask, Dev.retire_mask]; done) | split | (dsimp only; split) | rfl)
theorem Dev.closeCopy_mask {T : Nat} (hT : subParts 26388281303558 T = true) (d : Dev) (c : ℕ) (v : Copy) : (Dev.closeCopy d c v).mask T = d.mask T := by
  refine Dev.mask_mono (a := 26388281303558) ?_ hT
  unfold Dev.closeCopy
  repeat' (first | with_reducible rfl | (simp (disch := decide) only [Dev.mask_ite, ite_self, Dev.freeCells_mask, Dev.setCopy_mask]; done) | split | (dsimp only; split) | rfl)
theorem Dev.endCopy_mask {T : Nat} (hT : subParts 36893725659121197574 T = true) (d : Dev) (c : ℕ) (reason : Option ℕ) : (Dev.endCopy d c reason).mask T = d.mask T := by
  refine Dev.mask_mono (a := 36893725659121197574) ?_ hT
  unfold Dev.endCopy
  repeat' (first | with_reducible rfl | (simp (disch := decide) only [Dev.mask_ite, ite_self, Dev.copyGone_mask, Dev.closeCopy_mask]; done) | split | (dsimp only; split) | rfl)
theorem Dev.dropCopy_mask {T : Nat} (hT : subParts 36893725659121197574 T = true) (d : Dev) (n : ℕ) (reason : ℕ) : (Dev.dropCopy d n reason).mask T = d.mask T := by
  refine Dev.mask_mono (a := 36893725659121197574) ?_ hT
  unfold Dev.dropCopy
  repeat' (first | with_reducible rfl | (simp (disch := decide) only [Dev.mask_ite, ite_self, Dev.pulse_mask, Dev.endCopy_mask]; done) | split | (dsimp only; split) | rfl)
theorem Dev.dropAtPort_mask {T : Nat} (hT : subParts 36893725659121197574 T = true) (d : Dev) (n : ℕ) (m : ℕ) (t : ℕ) (reason : ℕ) : (Dev.dropAtPort d n m t reason).mask T = d.mask T := by
  refine Dev.mask_mono (a := 36893725659121197574) ?_ hT
  unfold Dev.dropAtPort
  repeat' (first | with_reducible rfl | (simp (disch := decide) only [Dev.mask_ite, ite_self, Dev.latchFault_mask, Dev.countTc_mask, Dev.dropCopy_mask]; done) | split | (dsimp only; split) | rfl)
theorem Dev.setMac_mask {T : Nat} (hT : subParts 9223372036854775808 T = true) (d : Dev) (m : ℕ) (v : Mac) : (Dev.setMac d m v).mask T = d.mask T := by
  refine Dev.mask_mono (a := 9223372036854775808) ?_ hT
  unfold Dev.setMac
  repeat' (first | with_reducible rfl | (simp (disch := decide) only [Dev.mask_ite, ite_self, Dev.mask_macs]; done) | split | (dsimp only; split) | rfl)
theorem Dev.dropUnsent_mask {T : Nat} (hT : subParts 46117097695975973382 T = true) (d : Dev) (m : ℕ) : (Dev.dropUnsent d m).mask T = d.mask T := by
  refine Dev.mask_mono (a := 46117097695975973382) ?_ hT
  unfold Dev.dropUnsent
  repeat' (first | with_reducible rfl | (simp (disch := first | decide | (intros; simp (disch := decide) only [Dev.mask_ite, ite_self, Dev.dropAtPort_mask, Dev.setMac_mask])) only [Dev.mask_foldl, Dev.mask_ite, ite_self, Dev.dropAtPort_mask, Dev.setMac_mask]; done) | split | (dsimp only; split) | rfl | (refine (Dev.mask_foldl ?_ _ _).trans ?_ <;> try intro d a))
theorem Dev.countMac_mask {T : Nat} (hT : subParts 9223372036854775808 T = true) (d : Dev) (m : ℕ) (idx : ℕ) (n : optParam ℕ 1) : (Dev.countMac d m idx n).mask T = d.mask T := by
  refine Dev.mask_mono (a := 9223372036854775808) ?_ hT
  unfold Dev.countMac
  repeat' (first | with_reducible rfl | (simp (disch := decide) only [Dev.mask_ite, ite_self, Dev.setMac_mask]; done) | split | (dsimp only; split) | rfl)
theorem Dev.abortTransmit_mask {T : Nat} (hT : subParts 46117097695975973382 T = true) (d : Dev) (m : ℕ) : (Dev.abortTransmit d m).mask T = d.mask T := by
  refine Dev.mask_mono (a := 46117097695975973382) ?_ hT
  unfold Dev.abortTransmit
  repeat' (first | with_reducible rfl | (simp (disch := decide) only [Dev.mask_ite, ite_self, Dev.dropUnsent_mask, Dev.setMac_mask, Dev.endCopy_mask, Dev.countMac_mask]; done) | split | (dsimp only; split) | rfl)
theorem Dev.setQueue_mask {T : Nat} (hT : subParts 16777216 T = true) (d : Dev) (q : ℕ) (v : Queue) : (Dev.setQueue d q v).mask T = d.mask T := by
  refine Dev.mask_mono (a := 16777216) ?_ hT
  unfold Dev.setQueue
  repeat' (first | with_reducible rfl | (simp (disch := decide) only [Dev.mask_ite, ite_self, Dev.mask_queues]; done) | split | (dsimp only; split) | rfl)
theorem Dev.pushCompletion_mask {T : Nat} (hT : subParts 19014150 T = true) (d : Dev) (q : ℕ) (c : Completion) : (Dev.pushCompletion d q c).mask T = d.mask T := by
  refine Dev.mask_mono (a := 19014150) ?_ hT
  unfold Dev.pushCompletion
  repeat' (first | with_reducible rfl | (simp (disch := decide) only [Dev.mask_ite, ite_self, Dev.setQueue_mask, Dev.count_mask, Dev.pulse_mask]; done) | split | (dsimp only; split) | rfl)
theorem Dev.holdSlice_mask {T : Nat} (hT : subParts 8388608 T = true) (d : Dev) (stamp : Stamp) : (Dev.holdSlice d stamp).mask T = d.mask T := by
  refine Dev.mask_mono (a := 8388608) ?_ hT
  unfold Dev.holdSlice
  repeat' (first | with_reducible rfl | (simp (disch := decide) only [Dev.mask_ite, ite_self, Dev.setSlice_mask]; done) | split | (dsimp only; split) | rfl)
theorem Dev.abortUnfetched_mask {T : Nat} (hT : subParts 27402758 T = true) (d : Dev) (q : ℕ) : (Dev.abortUnfetched d q).mask T = d.mask T := by
  refine Dev.mask_mono (a := 27402758) ?_ hT
  unfold Dev.abortUnfetched
  repeat' (first | with_reducible rfl | (simp (disch := decide) only [Dev.mask_ite, ite_self, Dev.setQueue_mask, Dev.pushCompletion_mask, Dev.holdSlice_mask]; done) | split | (dsimp only; split) | rfl)
theorem Dev.modEntry_mask {T : Nat} (hT : subParts 16777216 T = true) (d : Dev) (q : ℕ) (idx : ℕ) (f : QueueEntry → QueueEntry) : (Dev.modEntry d q idx f).mask T = d.mask T := by
  refine Dev.mask_mono (a := 16777216) ?_ hT
  unfold Dev.modEntry
  repeat' (first | with_reducible rfl | (simp (disch := decide) only [Dev.mask_ite, ite_self, Dev.setQueue_mask]; done) | split | (dsimp only; split) | rfl)
theorem Dev.setWire_mask {T : Nat} (hT : subParts 295147905179352825856 T = true) (d : Dev) (n : ℕ) (w : Option WireCmd) : (Dev.setWire d n w).mask T = d.mask T := by
  refine Dev.mask_mono (a := 295147905179352825856) ?_ hT
  unfold Dev.setWire
  repeat' (first | with_reducible rfl | (simp (disch := decide) only [Dev.mask_ite, ite_self, Dev.mask_sto]; done) | split | (dsimp only; split) | rfl)
theorem Dev.addWire_mask {T : Nat} (hT : subParts 295147905179361214464 T = true) (d : Dev) (w : WireCmd) : (Dev.addWire d w).mask T = d.mask T := by
  refine Dev.mask_mono (a := 295147905179361214464) ?_ hT
  unfold Dev.addWire
  repeat' (first | with_reducible rfl | (simp (disch := decide) only [Dev.mask_ite, ite_self, Dev.mask_sto, Dev.holdSlice_mask, Dev.setWire_mask]; done) | split | (dsimp only; split) | rfl)
theorem Dev.acceptEntry_mask {T : Nat} (hT : subParts 295147905179377991680 T = true) (d : Dev) (q : ℕ) (e : QueueEntry) : (Dev.acceptEntry d q e).mask T = d.mask T := by
  refine Dev.mask_mono (a := 295147905179377991680) ?_ hT
  unfold Dev.acceptEntry
  repeat' (first | with_reducible rfl | (simp (disch := first | decide | (intros; simp (disch := decide) only [Dev.mask_ite, ite_self, Dev.modEntry_mask, Dev.addWire_mask])) only [Dev.mask_foldl, Dev.mask_ite, ite_self, Dev.modEntry_mask, Dev.addWire_mask]; done) | split | (dsimp only; split) | rfl | (refine (Dev.mask_foldl ?_ _ _).trans ?_ <;> try intro d a))
theorem Dev.setLehr_mask {T : Nat} (hT : subParts 73786976294838206464 T = true) (d : Dev) (l : Lehr) : (Dev.setLehr d l).mask T = d.mask T := by
  refine Dev.mask_mono (a := 73786976294838206464) ?_ hT
  unfold Dev.setLehr
  repeat' (first | with_reducible rfl | (simp (disch := decide) only [Dev.mask_ite, ite_self, Dev.mask_lehr]; done) | split | (dsimp only; split) | rfl)
theorem Dev.setJob_mask {T : Nat} (hT : subParts 73786976294838206464 T = true) (d : Dev) (n : ℕ) (j : Option LehrJob) : (Dev.setJob d n j).mask T = d.mask T := by
  refine Dev.mask_mono (a := 73786976294838206464) ?_ hT
  unfold Dev.setJob
  repeat' (first | with_reducible rfl | (simp (disch := decide) only [Dev.mask_ite, ite_self, Dev.setLehr_mask]; done) | split | (dsimp only; split) | rfl)
theorem Dev.countKey_mask {T : Nat} (hT : subParts 8388608 T = true) (d : Dev) (v : KeySlot) (up : Bool) : (Dev.countKey d v up).mask T = d.mask T := by
  refine Dev.mask_mono (a := 8388608) ?_ hT
  unfold Dev.countKey
  repeat' (first | with_reducible rfl | (simp (disch := decide) only [Dev.mask_ite, ite_self, Dev.setSlice_mask]; done) | split | (dsimp only; split) | rfl)
theorem Dev.setKeySlot_mask {T : Nat} (hT : subParts 73786976294846595074 T = true) (d : Dev) (s : ℕ) (v : KeySlot) : (Dev.setKeySlot d s v).mask T = d.mask T := by
  refine Dev.mask_mono (a := 73786976294846595074) ?_ hT
  unfold Dev.setKeySlot
  repeat' (first | with_reducible rfl | (simp (disch := decide) only [Dev.mask_ite, ite_self, Dev.countKey_mask, Dev.setLehr_mask, Dev.fset_mask]; done) | split | (dsimp only; split) | rfl)
theorem Dev.acceptJob_mask {T : Nat} (hT : subParts 73786976294846595074 T = true) (d : Dev) (j : LehrJob) : (Dev.acceptJob d j).mask T = d.mask T := by
  refine Dev.mask_mono (a := 73786976294846595074) ?_ hT
  unfold Dev.acceptJob
  repeat' (first | with_reducible rfl | (simp (disch := decide) only [Dev.mask_ite, ite_self, Dev.setJob_mask, Dev.setKeySlot_mask, Dev.holdSlice_mask, Dev.fset_mask, Dev.setLehr_mask]; done) | split | (dsimp only; split) | rfl)
theorem Dev.leaveExcQ_mask {T : Nat} (hT : subParts 2199023255554 T = true) (d : Dev) (h : ℕ) : (Dev.leaveExcQ d h).mask T = d.mask T := by
  refine Dev.mask_mono (a := 2199023255554) ?_ hT
  unfold Dev.leaveExcQ
  repeat' (first | with_reducible rfl | (simp (disch := decide) only [Dev.mask_ite, ite_self, Dev.mask_excQ, Dev.fset_mask]; done) | split | (dsimp only; split) | rfl)
theorem Dev.clsDrop_mask {T : Nat} (hT : subParts 36893708066935153158 T = true) (d : Dev) (h : ℕ) : (Dev.clsDrop d h).mask T = d.mask T := by
  refine Dev.mask_mono (a := 36893708066935153158) ?_ hT
  unfold Dev.clsDrop
  repeat' (first | with_reducible rfl | (simp (disch := decide) only [Dev.mask_ite, ite_self, Dev.dropPacket_mask, Dev.pulse_mask, Dev.latchFault_mask, Dev.count_mask]; done) | split | (dsimp only; split) | rfl)
theorem Dev.acceptRecord_mask {T : Nat} (hT : subParts 36893714664004919814 T = true) (d : Dev) (h : ℕ) : (Dev.acceptRecord d h).mask T = d.mask T := by
  refine Dev.mask_mono (a := 36893714664004919814) ?_ hT
  unfold Dev.acceptRecord
  repeat' (first | with_reducible rfl | (simp (disch := decide) only [Dev.mask_ite, ite_self, Dev.mask_acceptNo, Dev.leaveExcQ_mask, Dev.clsDrop_mask, Dev.wcount_mask, Dev.count_mask, Dev.setPacket_mask]; done) | split | (dsimp only; split) | rfl)
theorem Dev.countSat_mask {T : Nat} (hT : subParts 2 T = true) (d : Dev) (p : ℕ) (f : Fld) (n : optParam ℕ 1) : (Dev.countSat d p f n).mask T = d.mask T := by
  refine Dev.mask_mono (a := 2) ?_ hT
  unfold Dev.countSat
  repeat' (first | with_reducible rfl | (simp (disch := decide) only [Dev.mask_ite, ite_self, Dev.fset_mask]; done) | split | (dsimp only; split) | rfl)
theorem Dev.accessError_mask {T : Nat} (hT : subParts 2236934 T = true) (d : Dev) (req : Requester) (addr : ℕ) (write : Bool) (kind : ℕ) : (Dev.accessError d req addr write kind).mask T = d.mask T := by
  refine Dev.mask_mono (a := 2236934) ?_ hT
  unfold Dev.accessError
  repeat' (first | with_reducible rfl | (simp (disch := decide) only [Dev.mask_ite, ite_self, Dev.countSat_mask, Dev.fset_mask, Dev.pulse_mask]; done) | split | (dsimp only; split) | rfl)
theorem Dev.accessFault_mask {T : Nat} (hT : subParts 2236934 T = true) (d : Dev) (p : ℕ) : (Dev.accessFault d p).mask T = d.mask T := by
  refine Dev.mask_mono (a := 2236934) ?_ hT
  unfold Dev.accessFault
  repeat' (first | with_reducible rfl | (simp (disch := decide) only [Dev.mask_ite, ite_self, Dev.latchFault_mask]; done) | split | (dsimp only; split) | rfl)
theorem Dev.setSes_mask {T : Nat} (hT : subParts 295147905179352825856 T = true) (d : Dev) (s : ℕ) (v : StoSession) : (Dev.setSes d s v).mask T = d.mask T := by
  refine Dev.mask_mono (a := 295147905179352825856) ?_ hT
  unfold Dev.setSes
  repeat' (first | with_reducible rfl | (simp (disch := decide) only [Dev.mask_ite, ite_self, Dev.mask_sto]; done) | split | (dsimp only; split) | rfl)
theorem Dev.allocDeep_mask {T : Nat} (hT : subParts 8796095259142 T = true) (d : Dev) (n : ℕ) : (Dev.allocDeep d n).2.mask T = d.mask T := by
  refine Dev.mask_mono (a := 8796095259142) ?_ hT
  unfold Dev.allocDeep
  repeat' (first | with_reducible rfl | (simp (disch := decide) only [Dev.mask_ite, ite_self, Dev.mask_cullet, Dev.fset_mask, Dev.pulse_mask, Dev.latchFault_mask]; done) | split | (dsimp only; split) | rfl)
theorem Dev.newPacket_mask {T : Nat} (hT : subParts 8847634866694 T = true) (d : Dev) (die : ℕ) (deep : ℕ) (mk : ℕ → List (ℕ × ℕ) → Packet) : (Dev.newPacket d die deep mk).2.mask T = d.mask T := by
  refine Dev.mask_mono (a := 8847634866694) ?_ hT
  unfold Dev.newPacket
  repeat' (first | with_reducible rfl | (simp (disch := decide) only [Dev.mask_ite, ite_self, Dev.mask_headGen, Dev.allocCells_mask, Dev.allocDeep_mask, Dev.setPacket_mask]; done) | split | (dsimp only; split) | rfl)
theorem Dev.nextSeq_mask {T : Nat} (hT : subParts 68719476736 T = true) (d : Dev) (source : ℕ) : (Dev.nextSeq d source).2.mask T = d.mask T := by
  refine Dev.mask_mono (a := 68719476736) ?_ hT
  unfold Dev.nextSeq
  repeat' (first | with_reducible rfl | (simp (disch := decide) only [Dev.mask_ite, ite_self, Dev.mask_srcSeq]; done) | split | (dsimp only; split) | rfl)
theorem Dev.countSpill_mask {T : Nat} (hT : subParts 4 T = true) (d : Dev) (n : ℕ) : (Dev.countSpill d n).mask T = d.mask T := by
  refine Dev.mask_mono (a := 4) ?_ hT
  unfold Dev.countSpill
  repeat' (first | with_reducible rfl | (simp (disch := decide) only [Dev.mask_ite, ite_self, Dev.wcount_mask]; done) | split | (dsimp only; split) | rfl)
theorem Dev.sendSegment_mask {T : Nat} (hT : subParts 576469668666155526 T = true) {d : Dev} {s : ℕ} {seq : ℕ} {flags : ℕ} {payload : List Byte} {r} (e : Dev.sendSegment d s seq flags payload = some r) : r.mask T = d.mask T := by
  refine Dev.mask_mono (a := 576469668666155526) ?_ hT
  unfold Dev.sendSegment at e
  all_goals try dsimp only at e
  all_goals repeat' (split at e)
  all_goals first | (cases e; done) | (cases e; with_reducible rfl) | (cases e; simp (disch := decide) only [Dev.mask_ite, ite_self, Dev.newPacket_mask, Dev.nextSeq_mask, Dev.countSpill_mask, Dev.advanceId_mask, Dev.holdSlice_mask, Dev.modPacket_mask]; done)
theorem Dev.gwrite_mask {T : Nat} (hT : subParts 32 T = true) (d : Dev) (a : ℕ) (bs : List Byte) : (Dev.gwrite d a bs).mask T = d.mask T := by
  refine Dev.mask_mono (a := 32) ?_ hT
  unfold Dev.gwrite
  repeat' (first | with_reducible rfl | (simp (disch := decide) only [Dev.mask_ite, ite_self, Dev.mask_gddr]; done) | split | (dsimp only; split) | rfl)
theorem Dev.gsetNum_mask {T : Nat} (hT : subParts 32 T = true) (d : Dev) (a : ℕ) (n : ℕ) (v : ℕ) : (Dev.gsetNum d a n v).mask T = d.mask T := by
  refine Dev.mask_mono (a := 32) ?_ hT
  unfold Dev.gsetNum
  repeat' (first | with_reducible rfl | (simp (disch := decide) only [Dev.mask_ite, ite_self, Dev.gwrite_mask]; done) | split | (dsimp only; split) | rfl)
theorem Dev.gsetWord_mask {T : Nat} (hT : subParts 32 T = true) (d : Dev) (a : ℕ) (v : ℕ) : (Dev.gsetWord d a v).mask T = d.mask T := by
  refine Dev.mask_mono (a := 32) ?_ hT
  unfold Dev.gsetWord
  repeat' (first | with_reducible rfl | (simp (disch := decide) only [Dev.mask_ite, ite_self, Dev.gsetNum_mask]; done) | split | (dsimp only; split) | rfl)
theorem Dev.sesSet_mask {T : Nat} (hT : subParts 32 T = true) (d : Dev) (s : ℕ) (i : ℕ) (v : ℕ) : (Dev.sesSet d s i v).mask T = d.mask T := by
  refine Dev.mask_mono (a := 32) ?_ hT
  unfold Dev.sesSet
  repeat' (first | with_reducible rfl | (simp (disch := decide) only [Dev.mask_ite, ite_self, Dev.gsetWord_mask]; done) | split | (dsimp only; split) | rfl)
theorem Dev.modSes_mask {T : Nat} (hT : subParts 295147905179352825856 T = true) (d : Dev) (s : ℕ) (f : StoSession → StoSession) : (Dev.modSes d s f).mask T = d.mask T := by
  refine Dev.mask_mono (a := 295147905179352825856) ?_ hT
  unfold Dev.modSes
  repeat' (first | with_reducible rfl | (simp (disch := decide) only [Dev.mask_ite, ite_self, Dev.setSes_mask]; done) | split | (dsimp only; split) | rfl)
theorem Dev.retransmit_mask {T : Nat} (hT : subParts 295724374848018981414 T = true) (d : Dev) (s : ℕ) : (Dev.retransmit d s).mask T = d.mask T := by
  refine Dev.mask_mono (a := 295724374848018981414) ?_ hT
  unfold Dev.retransmit
  dsimp only
  split
  · rfl
  · rename_i hm
    rename_i d1
    have hm : Dev.mask 295724374848018981414 d1 = d.mask 295724374848018981414 := by
      split at hm
      · exact Dev.sendSegment_mask (by decide) hm
      · split at hm
        · split at hm
          · exact Dev.sendSegment_mask (by decide) hm
          · cases hm
        · exact Dev.sendSegment_mask (by decide) hm
    rw [← hm]
    simp (disch := decide) only [Dev.mask_ite, ite_self, Dev.count_mask, Dev.sesSet_mask, Dev.modSes_mask]
theorem Dev.ackDup_mask {T : Nat} (hT : subParts 295724374848018981414 T = true) (d : Dev) (s : ℕ) : (Dev.ackDup d s).mask T = d.mask T := by
  refine Dev.mask_mono (a := 295724374848018981414) ?_ hT
  unfold Dev.ackDup
  repeat' (first | with_reducible rfl | (simp (disch := decide) only [Dev.mask_ite, ite_self, Dev.setSes_mask, Dev.retransmit_mask]; done) | split | (dsimp only; split) | rfl)
theorem Dev.measureRtt_mask {T : Nat} (hT : subParts 295147905179352825856 T = true) (d : Dev) (s : ℕ) (r : ℕ) : (Dev.measureRtt d s r).mask T = d.mask T := by
  refine Dev.mask_mono (a := 295147905179352825856) ?_ hT
  unfold Dev.measureRtt
  repeat' (first | with_reducible rfl | (simp (disch := decide) only [Dev.mask_ite, ite_self, Dev.setSes_mask]; done) | split | (dsimp only; split) | rfl)
theorem Dev.ackNew_mask {T : Nat} (hT : subParts 295724374848018981414 T = true) (d : Dev) (s : ℕ) (acked : ℕ) (ack : ℕ) : (Dev.ackNew d s acked ack).mask T = d.mask T := by
  refine Dev.mask_mono (a := 295724374848018981414) ?_ hT
  unfold Dev.ackNew
  repeat' (first | with_reducible rfl | (simp (disch := decide) only [Dev.mask_ite, ite_self, Dev.measureRtt_mask, Dev.sesSet_mask, Dev.setSes_mask, Dev.retransmit_mask]; done) | split | (dsimp only; split) | rfl)
theorem Dev.actgResult_mask {T : Nat} (hT : subParts 2 T = true) (d : Dev) (ws : List ℕ) : (Dev.actgResult d ws).mask T = d.mask T := by
  refine Dev.mask_mono (a := 2) ?_ hT
  unfold Dev.actgResult
  repeat' (first | with_reducible rfl | (simp (disch := first | decide | (intros; simp (disch := decide) only [Dev.mask_ite, ite_self, Dev.fset_mask])) only [Dev.mask_foldl, Dev.mask_ite, ite_self, Dev.fset_mask]; done) | split | (dsimp only; split) | rfl | (refine (Dev.mask_foldl ?_ _ _).trans ?_ <;> try intro d a))
theorem Dev.setCredit_mask {T : Nat} (hT : subParts 1099513864710 T = true) (d : Dev) (c : ℤ) : (Dev.setCredit d c).mask T = d.mask T := by
  refine Dev.mask_mono (a := 1099513864710) ?_ hT
  unfold Dev.setCredit
  repeat' (first | with_reducible rfl | (simp (disch := decide) only [Dev.mask_ite, ite_self, Dev.mask_credit, Dev.fset_mask, Dev.pulse_mask]; done) | split | (dsimp only; split) | rfl)
theorem Dev.addCredit_mask {T : Nat} (hT : subParts 1099513864710 T = true) (d : Dev) : (Dev.addCredit d).mask T = d.mask T := by
  refine Dev.mask_mono (a := 1099513864710) ?_ hT
  unfold Dev.addCredit
  repeat' (first | with_reducible rfl | (simp (disch := decide) only [Dev.mask_ite, ite_self, Dev.setCredit_mask]; done) | split | (dsimp only; split) | rfl)
theorem Dev.addHostDepth_mask {T : Nat} (hT : subParts 2 T = true) (d : Dev) (n : ℤ) : (Dev.addHostDepth d n).mask T = d.mask T := by
  refine Dev.mask_mono (a := 2) ?_ hT
  unfold Dev.addHostDepth
  repeat' (first | with_reducible rfl | (simp (disch := decide) only [Dev.mask_ite, ite_self, Dev.fset_mask]; done) | split | (dsimp only; split) | rfl)
theorem Dev.addPaused_mask {T : Nat} (hT : subParts 9223372036854775808 T = true) (d : Dev) (m : ℕ) (t : ℕ) (ns : ℕ) : (Dev.addPaused d m t ns).mask T = d.mask T := by
  refine Dev.mask_mono (a := 9223372036854775808) ?_ hT
  unfold Dev.addPaused
  repeat' (first | with_reducible rfl | (simp (disch := first | decide | (intros; simp (disch := decide) only [Dev.mask_ite, ite_self, Dev.setMac_mask])) only [Dev.mask_foldl, Dev.mask_ite, ite_self, Dev.setMac_mask]; done) | split | (dsimp only; split) | rfl | (refine (Dev.mask_foldl ?_ _ _).trans ?_ <;> try intro d a))
theorem Dev.countPool_mask {T : Nat} (hT : subParts 4 T = true) (d : Dev) (i : ℕ) (part : ℕ) (n : ℕ) : (Dev.countPool d i part n).mask T = d.mask T := by
  refine Dev.mask_mono (a := 4) ?_ hT
  unfold Dev.countPool
  repeat' (first | with_reducible rfl | (simp (disch := decide) only [Dev.mask_ite, ite_self, Dev.wset_mask]; done) | split | (dsimp only; split) | rfl)
theorem Dev.admitFrame_mask {T : Nat} (hT : subParts 149585123222022 T = true) (d : Dev) (m : ℕ) (p : ℕ) (rx : ℕ × ℕ × ℕ) : (Dev.admitFrame d m p rx).2.mask T = d.mask T := by
  refine Dev.mask_mono (a := 149585123222022) ?_ hT
  unfold Dev.admitFrame
  repeat' (first | with_reducible rfl | (simp (disch := decide) only [Dev.mask_ite, ite_self, Dev.pulse_mask, Dev.countPool_mask, Dev.countDrop_mask, Dev.latchFault_mask, Dev.newPacket_mask, Dev.setPoolUsage_mask]; done) | split | (dsimp only; split) | rfl)
theorem Dev.setTim_mask {T : Nat} (hT : subParts 262144 T = true) (d : Dev) (t : Time) : (Dev.setTim d t).mask T = d.mask T := by
  refine Dev.mask_mono (a := 262144) ?_ hT
  unfold Dev.setTim
  repeat' (first | with_reducible rfl | (simp (disch := decide) only [Dev.mask_ite, ite_self, Dev.mask_tim]; done) | split | (dsimp only; split) | rfl)
theorem Dev.secondWrap_mask {T : Nat} (hT : subParts 2499078 T = true) (d : Dev) : (Dev.secondWrap d).mask T = d.mask T := by
  refine Dev.mask_mono (a := 2499078) ?_ hT
  unfold Dev.secondWrap
  repeat' (first | with_reducible rfl | (simp (disch := decide) only [Dev.mask_ite, ite_self, Dev.pulse_mask, Dev.setTim_mask]; done) | split | (dsimp only; split) | rfl)
theorem Dev.tickPtp_mask {T : Nat} (hT : subParts 2499078 T = true) (d : Dev) : (Dev.tickPtp d).mask T = d.mask T := by
  refine Dev.mask_mono (a := 2499078) ?_ hT
  unfold Dev.tickPtp
  repeat' (first | with_reducible rfl | (simp (disch := decide) only [Dev.mask_ite, ite_self, Dev.setTim_mask, Dev.secondWrap_mask]; done) | split | (dsimp only; split) | rfl)
theorem Dev.captureAon_mask {T : Nat} (hT : subParts 2 T = true) (d : Dev) : (Dev.captureAon d).mask T = d.mask T := by
  refine Dev.mask_mono (a := 2) ?_ hT
  unfold Dev.captureAon
  repeat' (first | with_reducible rfl | (simp (disch := first | decide | (intros; simp (disch := decide) only [Dev.mask_ite, ite_self, Dev.fset_mask])) only [Dev.mask_foldl, Dev.mask_ite, ite_self, Dev.fset_mask]; done) | split | (dsimp only; split) | rfl | (refine (Dev.mask_foldl ?_ _ _).trans ?_ <;> try intro d a))
theorem Dev.slowEdge_mask {T : Nat} (hT : subParts 262146 T = true) (d : Dev) : (Dev.slowEdge d).mask T = d.mask T := by
  refine Dev.mask_mono (a := 262146) ?_ hT
  unfold Dev.slowEdge
  repeat' (first | with_reducible rfl | (simp (disch := decide) only [Dev.mask_ite, ite_self, Dev.captureAon_mask, Dev.setTim_mask]; done) | split | (dsimp only; split) | rfl)
theorem Dev.captureLanes_mask {T : Nat} (hT : subParts 2 T = true) (d : Dev) : (Dev.captureLanes d).mask T = d.mask T := by
  refine Dev.mask_mono (a := 2) ?_ hT
  unfold Dev.captureLanes
  repeat' (first | with_reducible rfl | (simp (disch := first | decide | (intros; simp (disch := decide) only [Dev.mask_ite, ite_self, Dev.fset_mask])) only [Dev.mask_foldl, Dev.mask_ite, ite_self, Dev.fset_mask]; done) | split | (dsimp only; split) | rfl | (refine (Dev.mask_foldl ?_ _ _).trans ?_ <;> try intro d a))
theorem Dev.captureHif_mask {T : Nat} (hT : subParts 2 T = true) (d : Dev) : (Dev.captureHif d).mask T = d.mask T := by
  refine Dev.mask_mono (a := 2) ?_ hT
  unfold Dev.captureHif
  repeat' (first | with_reducible rfl | (simp (disch := first | decide | (intros; simp (disch := decide) only [Dev.mask_ite, ite_self, Dev.fset_mask])) only [Dev.mask_foldl, Dev.mask_ite, ite_self, Dev.fset_mask]; done) | split | (dsimp only; split) | rfl | (refine (Dev.mask_foldl ?_ _ _).trans ?_ <;> try intro d a))
theorem Dev.captureMem_mask {T : Nat} (hT : subParts 2 T = true) (d : Dev) : (Dev.captureMem d).mask T = d.mask T := by
  refine Dev.mask_mono (a := 2) ?_ hT
  unfold Dev.captureMem
  repeat' (first | with_reducible rfl | (simp (disch := first | decide | (intros; simp (disch := decide) only [Dev.mask_ite, ite_self, Dev.fset_mask])) only [Dev.mask_foldl, Dev.mask_ite, ite_self, Dev.fset_mask]; done) | split | (dsimp only; split) | rfl | (refine (Dev.mask_foldl ?_ _ _).trans ?_ <;> try intro d a))
theorem Dev.captureService_mask {T : Nat} (hT : subParts 2 T = true) (d : Dev) : (Dev.captureService d).mask T = d.mask T := by
  refine Dev.mask_mono (a := 2) ?_ hT
  unfold Dev.captureService
  repeat' (first | with_reducible rfl | (simp (disch := decide) only [Dev.mask_ite, ite_self, Dev.captureLanes_mask, Dev.captureHif_mask, Dev.captureMem_mask]; done) | split | (dsimp only; split) | rfl)
theorem Dev.countStall_mask {T : Nat} (hT : subParts 73786976294838206466 T = true) (d : Dev) : (Dev.countStall d).mask T = d.mask T := by
  refine Dev.mask_mono (a := 73786976294838206466) ?_ hT
  unfold Dev.countStall
  repeat' (first | with_reducible rfl | (simp (disch := decide) only [Dev.mask_ite, ite_self, Dev.countSat_mask, Dev.setLehr_mask]; done) | split | (dsimp only; split) | rfl)
theorem Dev.startBists_mask {T : Nat} (hT : subParts 2 T = true) (d : Dev) : (Dev.startBists d).mask T = d.mask T := by
  refine Dev.mask_mono (a := 2) ?_ hT
  unfold Dev.startBists
  repeat' (first | with_reducible rfl | (simp (disch := first | decide | (intros; simp (disch := decide) only [Dev.mask_ite, ite_self, Dev.fset_mask])) only [Dev.mask_foldl, Dev.mask_ite, ite_self, Dev.fset_mask]; done) | split | (dsimp only; split) | rfl | (refine (Dev.mask_foldl ?_ _ _).trans ?_ <;> try intro d a))
theorem Dev.endScans_mask {T : Nat} (hT : subParts 524290 T = true) (d : Dev) : (Dev.endScans d).mask T = d.mask T := by
  refine Dev.mask_mono (a := 524290) ?_ hT
  unfold Dev.endScans
  repeat' (first | with_reducible rfl | (simp (disch := first | decide | (intros; simp (disch := decide) only [Dev.mask_ite, ite_self, Dev.mask_ft, Dev.fset_mask])) only [Dev.mask_foldl, Dev.mask_ite, ite_self, Dev.mask_ft, Dev.fset_mask]; done) | split | (dsimp only; split) | rfl | (refine (Dev.mask_foldl ?_ _ _).trans ?_ <;> try intro d a))
theorem Dev.advance_mask {T : Nat} (hT : subParts 73786977394352857607 T = true) (d : Dev) : (Dev.advance d).mask T = d.mask T := by
  refine Dev.mask_mono (a := 73786977394352857607) ?_ hT
  unfold Dev.advance
  repeat' (first | with_reducible rfl | (simp (disch := decide) only [Dev.mask_ite, ite_self, Dev.mask_now, Dev.tickPtp_mask, Dev.slowEdge_mask, Dev.captureService_mask, Dev.countStall_mask, Dev.addCredit_mask, Dev.startBists_mask, Dev.endScans_mask]; done) | split | (dsimp only; split) | rfl)
theorem Dev.setSweep_mask {T : Nat} (hT : subParts 72057594037927938 T = true) (d : Dev) (at_ : Option SweepAt) : (Dev.setSweep d at_).mask T = d.mask T := by
  refine Dev.mask_mono (a := 72057594037927938) ?_ hT
  unfold Dev.setSweep
  repeat' (first | with_reducible rfl | (simp (disch := decide) only [Dev.mask_ite, ite_self, Dev.mask_sweep, Dev.fset_mask, Dev.count_mask]; done) | split | (dsimp only; split) | rfl)
theorem Dev.advanceEpoch_mask {T : Nat} (hT : subParts 216172782116020742 T = true) (d : Dev) : (Dev.advanceEpoch d).mask T = d.mask T := by
  refine Dev.mask_mono (a := 216172782116020742) ?_ hT
  unfold Dev.advanceEpoch
  repeat' (first | with_reducible rfl | (simp (disch := decide) only [Dev.mask_ite, ite_self, Dev.mask_sweepAgain, Dev.count_mask, Dev.pulse_mask, Dev.latchFault_mask, Dev.setSweep_mask]; done) | split | (dsimp only; split) | rfl)
theorem Dev.modFn_mask {T : Nat} (hT : subParts 2097152 T = true) (d : Dev) (port : ℕ) (pf : ℕ) (f : PciFunction → PciFunction) : (Dev.modFn d port pf f).mask T = d.mask T := by
  refine Dev.mask_mono (a := 2097152) ?_ hT
  unfold Dev.modFn
  repeat' (first | with_reducible rfl | (simp (disch := decide) only [Dev.mask_ite, ite_self, Dev.setHostPort_mask]; done) | split | (dsimp only; split) | rfl)
theorem Dev.aerCorrectable_mask {T : Nat} (hT : subParts 2097664 T = true) (d : Dev) (port : ℕ) (pf : ℕ) (bit : ℕ) (header : List ℕ) : (Dev.aerCorrectable d port pf bit header).mask T = d.mask T := by
  refine Dev.mask_mono (a := 2097664) ?_ hT
  unfold Dev.aerCorrectable
  repeat' (first | with_reducible rfl | (simp (disch := decide) only [Dev.mask_ite, ite_self, Dev.modFn_mask, Dev.emit_mask]; done) | split | (dsimp only; split) | rfl)
theorem Dev.aerError_mask {T : Nat} (hT : subParts 2097664 T = true) (d : Dev) (port : ℕ) (pf : ℕ) (bit : ℕ) (advisory : Bool) (header : List ℕ) : (Dev.aerError d port pf bit advisory header).mask T = d.mask T := by
  refine Dev.mask_mono (a := 2097664) ?_ hT
  unfold Dev.aerError
  repeat' (first | with_reducible rfl | (simp (disch := decide) only [Dev.mask_ite, ite_self, Dev.modFn_mask, Dev.emit_mask]; done) | split | (dsimp only; split) | rfl)
theorem Dev.withSignal_mask {T : Nat} (hT : subParts 512 T = true) (d : Dev) (m : ℕ) (f : Dev → Dev) (hf : ∀ d, (f d).mask T = d.mask T) : (Dev.withSignal d m f).mask T = d.mask T := by
  unfold Dev.withSignal
  repeat' (first | with_reducible rfl | (simp (disch := exact subParts_trans (by decide) hT) only [Dev.mask_ite, ite_self, Dev.emit_mask, hf]; done) | split | (dsimp only; split) | rfl)
theorem Dev.setLink_mask {T : Nat} (hT : subParts 514 T = true) (d : Dev) (m : ℕ) (st : ℕ) : (Dev.setLink d m st).mask T = d.mask T := by
  refine Dev.mask_mono (a := 514) ?_ hT
  unfold Dev.setLink
  repeat' (first | with_reducible rfl | (simp (disch := first | decide | (intros; (repeat' (first | with_reducible rfl | (simp (disch := decide) only [Dev.mask_ite, ite_self, Dev.withSignal_mask, Dev.fset_mask]; done) | split | (dsimp only; split))))) only [Dev.mask_foldl, Dev.mask_ite, ite_self, Dev.withSignal_mask, Dev.fset_mask]; done) | split | (dsimp only; split) | rfl | (refine (Dev.mask_foldl ?_ _ _).trans ?_ <;> try intro d a))
theorem Dev.alignMac_mask {T : Nat} (hT : subParts 514 T = true) (d : Dev) (m : ℕ) : (Dev.alignMac d m).mask T = d.mask T := by
  refine Dev.mask_mono (a := 514) ?_ hT
  unfold Dev.alignMac
  repeat' (first | with_reducible rfl | (simp (disch := decide) only [Dev.mask_ite, ite_self, Dev.setLink_mask]; done) | split | (dsimp only; split) | rfl)
theorem Dev.groupFound_mask {T : Nat} (hT : subParts 2236950 T = true) (d : Dev) (region : ℕ) (g : ℕ) (a : ℕ) : (Dev.groupFound d region g a).mask T = d.mask T := by
  refine Dev.mask_mono (a := 2236950) ?_ hT
  unfold Dev.groupFound
  repeat' (first | with_reducible rfl | (simp (disch := decide) only [Dev.mask_ite, ite_self, Dev.mask_seenParity, Dev.countSat_mask, Dev.fset_mask, Dev.latchFault_mask]; done) | split | (dsimp only; split) | rfl)
theorem Dev.groupCheck_mask {T : Nat} (hT : subParts 2236950 T = true) (d : Dev) (region : ℕ) (g : ℕ) : (Dev.groupCheck d region g).mask T = d.mask T := by
  refine Dev.mask_mono (a := 2236950) ?_ hT
  unfold Dev.groupCheck
  repeat' (first | with_reducible rfl | (simp (disch := first | decide | (intros; simp (disch := decide) only [Dev.mask_ite, ite_self, Dev.groupFound_mask])) only [Dev.mask_foldl, Dev.mask_ite, ite_self, Dev.groupFound_mask]; done) | split | (dsimp only; split) | rfl | (refine (Dev.mask_foldl ?_ _ _).trans ?_ <;> try intro d a))
theorem Dev.checkMasks_mask {T : Nat} (hT : subParts 2236950 T = true) (d : Dev) (a : ℕ) : (Dev.checkMasks d a).mask T = d.mask T := by
  refine Dev.mask_mono (a := 2236950) ?_ hT
  unfold Dev.checkMasks
  repeat' (first | with_reducible rfl | (simp (disch := decide) only [Dev.mask_ite, ite_self, Dev.groupCheck_mask]; done) | split | (dsimp only; split) | rfl)
theorem Dev.nextStoreWord_mask {T : Nat} (hT : subParts 2 T = true) (d : Dev) (page : ℕ) : (Dev.nextStoreWord d page).mask T = d.mask T := by
  refine Dev.mask_mono (a := 2) ?_ hT
  unfold Dev.nextStoreWord
  repeat' (first | with_reducible rfl | (simp (disch := decide) only [Dev.mask_ite, ite_self, Dev.count_mask]; done) | split | (dsimp only; split) | rfl)
theorem Dev.forwardRead_mask {T : Nat} (hT : subParts 2 T = true) (d : Dev) (req : Requester) (addr : ℕ) (p : ℕ) : (Dev.forwardRead d req addr p).2.mask T = d.mask T := by
  refine Dev.mask_mono (a := 2) ?_ hT
  unfold Dev.forwardRead
  repeat' (first | with_reducible rfl | (simp (disch := decide) only [Dev.mask_ite, ite_self, Dev.nextStoreWord_mask]; done) | split | (dsimp only; split) | rfl)
theorem Dev.broadcastRead_mask {T : Nat} (hT : subParts 2236950 T = true) (d : Dev) (req : Requester) (addr : ℕ) : (Dev.broadcastRead d req addr).2.mask T = d.mask T := by
  refine Dev.mask_mono (a := 2236950) ?_ hT
  unfold Dev.broadcastRead
  split
  · rfl
  · dsimp only
    have h : ∀ (l : List Nat) (r : Nat × Dev), (l.foldl (fun (r : Nat × Dev) p => let x := r.2.forwardRead req addr p; (r.1 ||| x.1, x.2)) r).2.mask 2236950
        = r.2.mask 2236950 := by
      intro l
      induction l with
      | nil => intro r; rfl
      | cons a l ih => intro r; exact (ih _).trans (Dev.forwardRead_mask (by decide) _ _ _ _)
    exact (h _ _).trans (Dev.checkMasks_mask (by decide) _ _)
theorem Dev.powerAbort_mask {T : Nat} (hT : subParts 2236934 T = true) (d : Dev) (req : Requester) (addr : ℕ) : (Dev.powerAbort d req addr).mask T = d.mask T := by
  refine Dev.mask_mono (a := 2236934) ?_ hT
  unfold Dev.powerAbort
  repeat' (first | with_reducible rfl | (simp (disch := decide) only [Dev.mask_ite, ite_self, Dev.accessError_mask, Dev.aerError_mask, Dev.emit_mask, Dev.pulse_mask]; done) | split | (dsimp only; split) | rfl)
theorem Dev.setSxp_mask {T : Nat} (hT : subParts 147573952589676412928 T = true) (d : Dev) (x : Sxp) : (Dev.setSxp d x).mask T = d.mask T := by
  refine Dev.mask_mono (a := 147573952589676412928) ?_ hT
  unfold Dev.setSxp
  repeat' (first | with_reducible rfl | (simp (disch := decide) only [Dev.mask_ite, ite_self, Dev.mask_sxp]; done) | split | (dsimp only; split) | rfl)
theorem Dev.setMailBox_mask {T : Nat} (hT : subParts 590295810358705651712 T = true) (d : Dev) (box : MailEnd) (b : MailBox) : (Dev.setMailBox d box b).mask T = d.mask T := by
  refine Dev.mask_mono (a := 590295810358705651712) ?_ hT
  unfold Dev.setMailBox
  repeat' (first | with_reducible rfl | (simp (disch := decide) only [Dev.mask_ite, ite_self, Dev.mask_mail]; done) | split | (dsimp only; split) | rfl)
theorem Dev.mailClear_mask {T : Nat} (hT : subParts 590295810358705651712 T = true) (d : Dev) (box : MailEnd) (off : ℕ) : (Dev.mailClear d box off).mask T = d.mask T := by
  refine Dev.mask_mono (a := 590295810358705651712) ?_ hT
  unfold Dev.mailClear
  repeat' (first | with_reducible rfl | (simp (disch := decide) only [Dev.mask_ite, ite_self, Dev.setMailBox_mask]; done) | split | (dsimp only; split) | rfl)
theorem Dev.clearRc_mask {T : Nat} (hT : subParts 2 T = true) (d : Dev) (k : PageKind) (base : ℕ) (off : ℕ) (r : FieldRow) : (Dev.clearRc d k base off r).mask T = d.mask T := by
  refine Dev.mask_mono (a := 2) ?_ hT
  unfold Dev.clearRc
  repeat' (first | with_reducible rfl | (simp (disch := decide) only [Dev.mask_ite, ite_self, Dev.fset_mask]; done) | split | (dsimp only; split) | rfl)
theorem Dev.readEffect_mask {T : Nat} (hT : subParts 737869762948382064642 T = true) (d : Dev) (req : Requester) (k : PageKind) (n : ℕ) (base : ℕ) (off : ℕ) : (Dev.readEffect d req k n base off).mask T = d.mask T := by
  refine Dev.mask_mono (a := 737869762948382064642) ?_ hT
  unfold Dev.readEffect
  repeat' (first | with_reducible rfl | (simp (disch := first | decide | (intros; simp (disch := decide) only [Dev.mask_ite, ite_self, Dev.nextStoreWord_mask, Dev.setSxp_mask, Dev.mailClear_mask, Dev.clearRc_mask])) only [Dev.mask_foldl, Dev.mask_ite, ite_self, Dev.nextStoreWord_mask, Dev.setSxp_mask, Dev.mailClear_mask, Dev.clearRc_mask]; done) | split | (dsimp only; split) | rfl | (refine (Dev.mask_foldl ?_ _ _).trans ?_ <;> try intro d a))
theorem Dev.readAt_mask {T : Nat} (hT : subParts 737869762948384301574 T = true) (d : Dev) (req : Requester) (addr : ℕ) : (Dev.readAt d req addr).2.mask T = d.mask T := by
  refine Dev.mask_mono (a := 737869762948384301574) ?_ hT
  unfold Dev.readAt
  repeat' (first | with_reducible rfl | (simp (disch := decide) only [Dev.mask_ite, ite_self, Dev.accessError_mask, Dev.readEffect_mask]; done) | split | (dsimp only; split) | rfl)
theorem Dev.answerRead_mask {T : Nat} (hT : subParts 737869762948384301590 T = true) (d : Dev) (req : Requester) (addr : ℕ) (m : ℕ) : (Dev.answerRead d req addr m).mask T = d.mask T := by
  refine Dev.mask_mono (a := 737869762948384301590) ?_ hT
  unfold Dev.answerRead
  repeat' (first | with_reducible rfl | (simp (disch := decide) only [Dev.mask_ite, ite_self, Dev.emit_mask, Dev.broadcastRead_mask, Dev.powerAbort_mask, Dev.readAt_mask]; done) | split | (dsimp only; split) | rfl)
theorem Dev.lateMessage_mask {T : Nat} (hT : subParts 2236934 T = true) (d : Dev) : (Dev.lateMessage d).mask T = d.mask T := by
  refine Dev.mask_mono (a := 2236934) ?_ hT
  unfold Dev.lateMessage
  repeat' (first | with_reducible rfl | (simp (disch := decide) only [Dev.mask_ite, ite_self, Dev.pulse_mask, Dev.count_mask]; done) | split | (dsimp only; split) | rfl)
theorem Dev.freeRx_mask {T : Nat} (hT : subParts 8796095259142 T = true) (d : Dev) (rx : List (ℕ × List (ℕ × ℕ) × List (ℕ × ℕ))) : (Dev.freeRx d rx).mask T = d.mask T := by
  refine Dev.mask_mono (a := 8796095259142) ?_ hT
  unfold Dev.freeRx
  repeat' (first | with_reducible rfl | (simp (disch := first | decide | (intros; simp (disch := decide) only [Dev.mask_ite, ite_self, Dev.returnDeep_mask, Dev.freeCells_mask])) only [Dev.mask_foldl, Dev.mask_ite, ite_self, Dev.returnDeep_mask, Dev.freeCells_mask]; done) | split | (dsimp only; split) | rfl | (refine (Dev.mask_foldl ?_ _ _).trans ?_ <;> try intro d a))
theorem Dev.freeHeld_mask {T : Nat} (hT : subParts 8796095259142 T = true) (d : Dev) (w : WireCmd) : (Dev.freeHeld d w).mask T = d.mask T := by
  refine Dev.mask_mono (a := 8796095259142) ?_ hT
  unfold Dev.freeHeld
  repeat' (first | with_reducible rfl | (simp (disch := decide) only [Dev.mask_ite, ite_self, Dev.returnDeep_mask, Dev.freeCells_mask]; done) | split | (dsimp only; split) | rfl)
theorem Dev.dropWire_mask {T : Nat} (hT : subParts 295147913975456473606 T = true) (d : Dev) (n : ℕ) : (Dev.dropWire d n).mask T = d.mask T := by
  refine Dev.mask_mono (a := 295147913975456473606) ?_ hT
  unfold Dev.dropWire
  repeat' (first | with_reducible rfl | (simp (disch := decide) only [Dev.mask_ite, ite_self, Dev.releaseSlice_mask, Dev.setWire_mask, Dev.freeRx_mask, Dev.freeHeld_mask]; done) | split | (dsimp only; split) | rfl)
theorem Dev.setOutstanding_mask {T : Nat} (hT : subParts 32 T = true) (d : Dev) (s : ℕ) (n : ℕ) : (Dev.setOutstanding d s n).mask T = d.mask T := by
  refine Dev.mask_mono (a := 32) ?_ hT
  unfold Dev.setOutstanding
  repeat' (first | with_reducible rfl | (simp (disch := decide) only [Dev.mask_ite, ite_self, Dev.sesSet_mask]; done) | split | (dsimp only; split) | rfl)
theorem Dev.releaseSlot_mask {T : Nat} (hT : subParts 295147905179352825888 T = true) (d : Dev) (n : ℕ) : (Dev.releaseSlot d n).mask T = d.mask T := by
  refine Dev.mask_mono (a := 295147905179352825888) ?_ hT
  unfold Dev.releaseSlot
  repeat' (first | with_reducible rfl | (simp (disch := decide) only [Dev.mask_ite, ite_self, Dev.setOutstanding_mask, Dev.setWire_mask, Dev.modSes_mask]; done) | split | (dsimp only; split) | rfl)
theorem Dev.showProgress_mask {T : Nat} (hT : subParts 16777216 T = true) (d : Dev) (q : ℕ) (idx : ℕ) : (Dev.showProgress d q idx).mask T = d.mask T := by
  refine Dev.mask_mono (a := 16777216) ?_ hT
  unfold Dev.showProgress
  repeat' (first | with_reducible rfl | (simp (disch := decide) only [Dev.mask_ite, ite_self, Dev.modEntry_mask]; done) | split | (dsimp only; split) | rfl)
theorem Dev.discardResult_mask {T : Nat} (hT : subParts 2236934 T = true) (d : Dev) : (Dev.discardResult d).mask T = d.mask T := by
  refine Dev.mask_mono (a := 2236934) ?_ hT
  unfold Dev.discardResult
  repeat' (first | with_reducible rfl | (simp (disch := decide) only [Dev.mask_ite, ite_self, Dev.pulse_mask, Dev.count_mask]; done) | split | (dsimp only; split) | rfl)
theorem Dev.flushEnded_mask {T : Nat} (hT : subParts 19014150 T = true) (d : Dev) (q : ℕ) (x2 : ℕ) : (Dev.flushEnded d q x2).mask T = d.mask T := by
  refine Dev.mask_mono (a := 19014150) ?_ hT
  clear hT
  induction x2 generalizing d q <;> unfold Dev.flushEnded
  repeat' (first | with_reducible rfl | (simp (disch := decide) only [Dev.mask_ite, ite_self, *, Dev.pushCompletion_mask, Dev.setQueue_mask]; done) | split | (dsimp only; split) | rfl)
theorem Dev.endEntry_mask {T : Nat} (hT : subParts 19014150 T = true) (d : Dev) (q : ℕ) (idx : ℕ) (words : List ℕ) : (Dev.endEntry d q idx words).mask T = d.mask T := by
  refine Dev.mask_mono (a := 19014150) ?_ hT
  unfold Dev.endEntry
  repeat' (first | with_reducible rfl | (simp (disch := decide) only [Dev.mask_ite, ite_self, Dev.discardResult_mask, Dev.flushEnded_mask, Dev.modEntry_mask]; done) | split | (dsimp only; split) | rfl)
theorem Dev.endStorage_mask {T : Nat} (hT : subParts 295147913975473250822 T = true) (d : Dev) (q : ℕ) (idx : ℕ) (code : ℕ) (detail : ℕ) : (Dev.endStorage d q idx code detail).mask T = d.mask T := by
  refine Dev.mask_mono (a := 295147913975473250822) ?_ hT
  unfold Dev.endStorage
  repeat' (first | with_reducible rfl | (simp (disch := first | decide | (intros; simp (disch := decide) only [Dev.mask_ite, ite_self, Dev.discardResult_mask, Dev.endEntry_mask, Dev.dropWire_mask])) only [Dev.mask_foldl, Dev.mask_ite, ite_self, Dev.discardResult_mask, Dev.endEntry_mask, Dev.dropWire_mask]; done) | split | (dsimp only; split) | rfl | (refine (Dev.mask_foldl ?_ _ _).trans ?_ <;> try intro d a))
theorem Dev.checkEntry_mask {T : Nat} (hT : subParts 295147913975473250822 T = true) (d : Dev) (q : ℕ) (idx : ℕ) : (Dev.checkEntry d q idx).mask T = d.mask T := by
  refine Dev.mask_mono (a := 295147913975473250822) ?_ hT
  unfold Dev.checkEntry
  repeat' (first | with_reducible rfl | (simp (disch := decide) only [Dev.mask_ite, ite_self, Dev.showProgress_mask, Dev.endStorage_mask]; done) | split | (dsimp only; split) | rfl)
theorem Dev.noteFailure_mask {T : Nat} (hT : subParts 16777216 T = true) (d : Dev) (q : ℕ) (idx : ℕ) (code : ℕ) (detail : ℕ) : (Dev.noteFailure d q idx code detail).mask T = d.mask T := by
  refine Dev.mask_mono (a := 16777216) ?_ hT
  unfold Dev.noteFailure
  repeat' (first | with_reducible rfl | (simp (disch := decide) only [Dev.mask_ite, ite_self, Dev.modEntry_mask]; done) | split | (dsimp only; split) | rfl)
theorem Dev.settleWire_mask {T : Nat} (hT : subParts 295147913975473250822 T = true) (d : Dev) (n : ℕ) : (Dev.settleWire d n).mask T = d.mask T := by
  refine Dev.mask_mono (a := 295147913975473250822) ?_ hT
  unfold Dev.settleWire
  repeat' (first | with_reducible rfl | (simp (disch := decide) only [Dev.mask_ite, ite_self, Dev.freeRx_mask, Dev.setWire_mask, Dev.checkEntry_mask, Dev.noteFailure_mask, Dev.wcount_mask]; done) | split | (dsimp only; split) | rfl)
theorem Dev.noteNvme_mask {T : Nat} (hT : subParts 16777216 T = true) (d : Dev) (q : ℕ) (idx : ℕ) (st : ℕ) : (Dev.noteNvme d q idx st).mask T = d.mask T := by
  refine Dev.mask_mono (a := 16777216) ?_ hT
  unfold Dev.noteNvme
  repeat' (first | with_reducible rfl | (simp (disch := decide) only [Dev.mask_ite, ite_self, Dev.modEntry_mask]; done) | split | (dsimp only; split) | rfl)
theorem Dev.answerWire_mask {T : Nat} (hT : subParts 295147913975473250854 T = true) (d : Dev) (n : ℕ) (st : ℕ) : (Dev.answerWire d n st).mask T = d.mask T := by
  refine Dev.mask_mono (a := 295147913975473250854) ?_ hT
  unfold Dev.answerWire
  repeat' (first | with_reducible rfl | (simp (disch := decide) only [Dev.mask_ite, ite_self, Dev.lateMessage_mask, Dev.dropWire_mask, Dev.releaseSlot_mask, Dev.setWire_mask, Dev.freeHeld_mask, Dev.settleWire_mask, Dev.noteNvme_mask]; done) | split | (dsimp only; split) | rfl)
theorem Dev.applyActions_mask {T : Nat} (hT : subParts 186206103198572357126 T = true) (d : Dev) (h : ℕ) : (Dev.applyActions d h).mask T = d.mask T := by
  refine Dev.mask_mono (a := 186206103198572357126) ?_ hT
  unfold Dev.applyActions
  repeat' (first | with_reducible rfl | (simp (disch := decide) only [Dev.mask_ite, ite_self]; done) | (simp (disch := decide) only [Dev.mask_ite, ite_self]; exact Dev.applyPass_mask (by decide) (by assumption)) | (exact Dev.applyPass_mask (by decide) (by assumption)) | (refine Dev.mask_getD ?_; intro r hr; exact Dev.applyPass_mask (by decide) hr) | (simp (disch := decide) only [Dev.mask_ite, ite_self]; refine Dev.mask_getD ?_; intro r hr; exact Dev.applyPass_mask (by decide) hr) | split | (dsimp only; split) | rfl)
theorem Dev.setWel_mask {T : Nat} (hT : subParts 1180591620717411303424 T = true) (d : Dev) (w : Welbor) : (Dev.setWel d w).mask T = d.mask T := by
  refine Dev.mask_mono (a := 1180591620717411303424) ?_ hT
  unfold Dev.setWel
  repeat' (first | with_reducible rfl | (simp (disch := decide) only [Dev.mask_ite, ite_self, Dev.mask_wel]; done) | split | (dsimp only; split) | rfl)
theorem Dev.applyGeneration_mask {T : Nat} (hT : subParts 1180591620717411827714 T = true) (d : Dev) : (Dev.applyGeneration d).mask T = d.mask T := by
  refine Dev.mask_mono (a := 1180591620717411827714) ?_ hT
  unfold Dev.applyGeneration
  repeat' (first | with_reducible rfl | (simp (disch := decide) only [Dev.mask_ite, ite_self, Dev.mask_ft, Dev.fset_mask, Dev.setWel_mask]; done) | split | (dsimp only; split) | rfl)
theorem Dev.arriveFrame_mask {T : Nat} (hT : subParts 9223521621977997830 T = true) (d : Dev) (m : ℕ) (head : List Byte) : (Dev.arriveFrame d m head).mask T = d.mask T := by
  refine Dev.mask_mono (a := 9223521621977997830) ?_ hT
  unfold Dev.arriveFrame
  repeat' (first | with_reducible rfl | (simp (disch := decide) only [Dev.mask_ite, ite_self, Dev.setMac_mask, Dev.admitFrame_mask]; done) | split | (dsimp only; split) | rfl)
theorem Dev.askRandom_mask {T : Nat} (hT : subParts 73786976294838206464 T = true) (d : Dev) (unit : ℕ) : (Dev.askRandom d unit).mask T = d.mask T := by
  refine Dev.mask_mono (a := 73786976294838206464) ?_ hT
  unfold Dev.askRandom
  repeat' (first | with_reducible rfl | (simp (disch := decide) only [Dev.mask_ite, ite_self, Dev.setLehr_mask]; done) | split | (dsimp only; split) | rfl)
theorem Dev.askRefresh_mask {T : Nat} (hT : subParts 18014398509481984 T = true) (d : Dev) (v : ℕ) (c : Cand) : (Dev.askRefresh d v c).mask T = d.mask T := by
  refine Dev.mask_mono (a := 18014398509481984) ?_ hT
  unfold Dev.askRefresh
  repeat' (first | with_reducible rfl | (simp (disch := decide) only [Dev.mask_ite, ite_self, Dev.mask_refreshQ]; done) | split | (dsimp only; split) | rfl)
theorem Dev.drawDummies_mask {T : Nat} (hT : subParts 1028 T = true) (d : Dev) : (Dev.drawDummies d).mask T = d.mask T := by
  refine Dev.mask_mono (a := 1028) ?_ hT
  unfold Dev.drawDummies
  repeat' (first | with_reducible rfl | (simp (disch := decide) only [Dev.mask_ite, ite_self, Dev.wcount_mask, Dev.fresh_mask]; done) | split | (dsimp only; split) | rfl)
theorem Dev.drawMany_mask {T : Nat} (hT : subParts 1028 T = true) (d : Dev) (x1 : ℕ) : (Dev.drawMany d x1).mask T = d.mask T := by
  refine Dev.mask_mono (a := 1028) ?_ hT
  clear hT
  induction x1 generalizing d <;> unfold Dev.drawMany
  repeat' (first | with_reducible rfl | (simp (disch := decide) only [Dev.mask_ite, ite_self, *, Dev.drawDummies_mask]; done) | split | (dsimp only; split) | rfl)
theorem Dev.startLane_mask {T : Nat} (hT : subParts 73786976294838207492 T = true) (d : Dev) (l : ℕ) (unit : ℕ) (n : ℕ) : (Dev.startLane d l unit n).mask T = d.mask T := by
  refine Dev.mask_mono (a := 73786976294838207492) ?_ hT
  unfold Dev.startLane
  repeat' (first | with_reducible rfl | (simp (disch := decide) only [Dev.mask_ite, ite_self, Dev.drawMany_mask, Dev.setLehr_mask]; done) | split | (dsimp only; split) | rfl)
theorem Dev.askUnwrap_mask {T : Nat} (hT : subParts 73786976294838207492 T = true) (d : Dev) (unit : ℕ) (n : ℕ) : (Dev.askUnwrap d unit n).mask T = d.mask T := by
  refine Dev.mask_mono (a := 73786976294838207492) ?_ hT
  unfold Dev.askUnwrap
  repeat' (first | with_reducible rfl | (simp (disch := decide) only [Dev.mask_ite, ite_self, Dev.startLane_mask, Dev.setLehr_mask]; done) | split | (dsimp only; split) | rfl)
theorem Dev.gsetWords_mask {T : Nat} (hT : subParts 32 T = true) (d : Dev) (a : ℕ) (ws : List ℕ) : (Dev.gsetWords d a ws).mask T = d.mask T := by
  refine Dev.mask_mono (a := 32) ?_ hT
  unfold Dev.gsetWords
  repeat' (first | with_reducible rfl | (simp (disch := decide) only [Dev.mask_ite, ite_self, Dev.gwrite_mask]; done) | split | (dsimp only; split) | rfl)
theorem Dev.saSet_mask {T : Nat} (hT : subParts 32 T = true) (d : Dev) (s : ℕ) (ws : List ℕ) : (Dev.saSet d s ws).mask T = d.mask T := by
  refine Dev.mask_mono (a := 32) ?_ hT
  unfold Dev.saSet
  repeat' (first | with_reducible rfl | (simp (disch := decide) only [Dev.mask_ite, ite_self, Dev.gsetWords_mask]; done) | split | (dsimp only; split) | rfl)
theorem Dev.rollSa_mask {T : Nat} (hT : subParts 147573952589676412960 T = true) (d : Dev) (s : ℕ) : (Dev.rollSa d s).mask T = d.mask T := by
  refine Dev.mask_mono (a := 147573952589676412960) ?_ hT
  unfold Dev.rollSa
  repeat' (first | with_reducible rfl | (simp (disch := decide) only [Dev.mask_ite, ite_self, Dev.setSxp_mask, Dev.saSet_mask]; done) | split | (dsimp only; split) | rfl)
theorem Dev.autoRoll_mask {T : Nat} (hT : subParts 147573952589676412960 T = true) (d : Dev) (s : ℕ) (before : List ℕ) : (Dev.autoRoll d s before).mask T = d.mask T := by
  refine Dev.mask_mono (a := 147573952589676412960) ?_ hT
  unfold Dev.autoRoll
  repeat' (first | with_reducible rfl | (simp (disch := decide) only [Dev.mask_ite, ite_self, Dev.rollSa_mask]; done) | split | (dsimp only; split) | rfl)
theorem Dev.loseSwitched_mask {T : Nat} (hT : subParts 2361183241434822467710 T = true) (d : Dev) (keepGddr : Bool) (banks : List ℕ) : (Dev.loseSwitched d keepGddr banks).mask T = d.mask T := by
  refine Dev.mask_mono (a := 2361183241434822467710) ?_ hT
  unfold Dev.loseSwitched
  repeat' (first | with_reducible rfl | (simp (disch := decide) only [Dev.mask_ite, ite_self, Dev.mask_badParity, Dev.mask_die, Dev.mask_ft, Dev.mask_gddr, Dev.mask_hif, Dev.mask_journal, Dev.mask_lehr, Dev.mask_regs, Dev.mask_seenParity, Dev.mask_tim, Dev.mask_wel, Dev.mask_ft_wel, Dev.mask_badParity_seenParity]; done) | split | (dsimp only; split) | rfl)
theorem Dev.auxLoss_mask {T : Nat} (hT : subParts 2361183241434822604926 T = true) (d : Dev) : (Dev.auxLoss d).mask T = d.mask T := by
  refine Dev.mask_mono (a := 2361183241434822604926) ?_ hT
  unfold Dev.auxLoss
  repeat' (first | with_reducible rfl | (simp (disch := decide) only [Dev.mask_ite, ite_self, Dev.mask_badParity, Dev.mask_bins, Dev.mask_boutHeld, Dev.mask_ft, Dev.mask_hif, Dev.mask_pwr, Dev.mask_regs, Dev.mask_seenParity, Dev.mask_tim, Dev.mask_regs_badParity_seenParity_bins_boutHeld_pwr_tim_ft, Dev.mask_badParity_seenParity, Dev.loseSwitched_mask]; done) | split | (dsimp only; split) | rfl)
theorem Dev.showJournal_mask {T : Nat} (hT : subParts 2 T = true) (d : Dev) : (Dev.showJournal d).mask T = d.mask T := by
  refine Dev.mask_mono (a := 2) ?_ hT
  unfold Dev.showJournal
  repeat' (first | with_reducible rfl | (simp (disch := decide) only [Dev.mask_ite, ite_self, Dev.fset_mask]; done) | split | (dsimp only; split) | rfl)
theorem Dev.auxOn_mask {T : Nat} (hT : subParts 1180591620717411434498 T = true) (d : Dev) : (Dev.auxOn d).mask T = d.mask T := by
  refine Dev.mask_mono (a := 1180591620717411434498) ?_ hT
  unfold Dev.auxOn
  repeat' (first | with_reducible rfl | (simp (disch := decide) only [Dev.mask_ite, ite_self, Dev.mask_pwr, Dev.mask_wel, Dev.mask_pwr_wel, Dev.showJournal_mask, Dev.requestWake_mask]; done) | split | (dsimp only; split) | rfl)
theorem Dev.showMargin_mask {T : Nat} (hT : subParts 2 T = true) (d : Dev) : (Dev.showMargin d).mask T = d.mask T := by
  refine Dev.mask_mono (a := 2) ?_ hT
  unfold Dev.showMargin
  repeat' (first | with_reducible rfl | (simp (disch := first | decide | (intros; simp (disch := decide) only [Dev.mask_ite, ite_self, Dev.fset_mask])) only [Dev.mask_foldl, Dev.mask_ite, ite_self, Dev.fset_mask]; done) | split | (dsimp only; split) | rfl | (refine (Dev.mask_foldl ?_ _ _).trans ?_ <;> try intro d a))
theorem Dev.setFt_mask {T : Nat} (hT : subParts 524288 T = true) (d : Dev) (f : FaultTol) : (Dev.setFt d f).mask T = d.mask T := by
  refine Dev.mask_mono (a := 524288) ?_ hT
  unfold Dev.setFt
  repeat' (first | with_reducible rfl | (simp (disch := decide) only [Dev.mask_ite, ite_self, Dev.mask_ft]; done) | split | (dsimp only; split) | rfl)
theorem Dev.showQueueDepth_mask {T : Nat} (hT : subParts 2 T = true) (d : Dev) : (Dev.showQueueDepth d).mask T = d.mask T := by
  refine Dev.mask_mono (a := 2) ?_ hT
  unfold Dev.showQueueDepth
  repeat' (first | with_reducible rfl | (simp (disch := decide) only [Dev.mask_ite, ite_self, Dev.fset_mask]; done) | split | (dsimp only; split) | rfl)
theorem Dev.journalAdd_mask {T : Nat} (hT : subParts 2302470 T = true) (d : Dev) (r : FaultRecord) : (Dev.journalAdd d r).mask T = d.mask T := by
  refine Dev.mask_mono (a := 2302470) ?_ hT
  unfold Dev.journalAdd
  repeat' (first | with_reducible rfl | (simp (disch := decide) only [Dev.mask_ite, ite_self, Dev.mask_journal, Dev.countSat_mask, Dev.showQueueDepth_mask, Dev.latchFault_mask]; done) | split | (dsimp only; split) | rfl)
theorem Dev.avsStep_mask {T : Nat} (hT : subParts 2826758 T = true) (d : Dev) (i : ℕ) (margin : ℕ) : (Dev.avsStep d i margin).mask T = d.mask T := by
  refine Dev.mask_mono (a := 2826758) ?_ hT
  unfold Dev.avsStep
  repeat' (first | with_reducible rfl | (simp (disch := decide) only [Dev.mask_ite, ite_self, Dev.showMargin_mask, Dev.setFt_mask, Dev.journalAdd_mask, Dev.pulse_mask, Dev.latchFault_mask]; done) | split | (dsimp only; split) | rfl)
theorem Dev.setParity_mask {T : Nat} (hT : subParts 24 T = true) (d : Dev) (a : ℕ) : (Dev.setParity d a).mask T = d.mask T := by
  refine Dev.mask_mono (a := 24) ?_ hT
  unfold Dev.setParity
  repeat' (first | with_reducible rfl | (simp (disch := decide) only [Dev.mask_ite, ite_self, Dev.mask_badParity, Dev.mask_seenParity, Dev.mask_badParity_seenParity]; done) | split | (dsimp only; split) | rfl)
theorem Dev.upset_mask {T : Nat} (hT : subParts 26 T = true) (d : Dev) (mask : ℕ) (a : ℕ) (i : ℕ) : (Dev.upset d mask a i).mask T = d.mask T := by
  refine Dev.mask_mono (a := 26) ?_ hT
  unfold Dev.upset
  repeat' (first | with_reducible rfl | (simp (disch := decide) only [Dev.mask_ite, ite_self, Dev.mask_badParity, Dev.wr_mask, Dev.setParity_mask]; done) | split | (dsimp only; split) | rfl)
theorem Dev.discardFrame_mask {T : Nat} (hT : subParts 36893637698190975494 T = true) (d : Dev) (h : ℕ) : (Dev.discardFrame d h).mask T = d.mask T := by
  refine Dev.mask_mono (a := 36893637698190975494) ?_ hT
  unfold Dev.discardFrame
  repeat' (first | with_reducible rfl | (simp (disch := decide) only [Dev.mask_ite, ite_self, Dev.retire_mask]; done) | split | (dsimp only; split) | rfl)
theorem Dev.rejectFrame_mask {T : Nat} (hT : subParts 46117009735045751302 T = true) (d : Dev) (m : ℕ) (idx : ℕ) : (Dev.rejectFrame d m idx).mask T = d.mask T := by
  refine Dev.mask_mono (a := 46117009735045751302) ?_ hT
  unfold Dev.rejectFrame
  repeat' (first | with_reducible rfl | (simp (disch := decide) only [Dev.mask_ite, ite_self, Dev.discardFrame_mask, Dev.countMac_mask]; done) | split | (dsimp only; split) | rfl)
theorem Dev.settleSlot_mask {T : Nat} (hT : subParts 9223372036854775808 T = true) (d : Dev) (m : ℕ) : (Dev.settleSlot d m).mask T = d.mask T := by
  refine Dev.mask_mono (a := 9223372036854775808) ?_ hT
  unfold Dev.settleSlot
  repeat' (first | with_reducible rfl | (simp (disch := decide) only [Dev.mask_ite, ite_self, Dev.setMac_mask]; done) | split | (dsimp only; split) | rfl)
theorem Dev.updatePaused_mask {T : Nat} (hT : subParts 9223372036854775810 T = true) (d : Dev) (m : ℕ) : (Dev.updatePaused d m).mask T = d.mask T := by
  refine Dev.mask_mono (a := 9223372036854775810) ?_ hT
  unfold Dev.updatePaused
  repeat' (first | with_reducible rfl | (simp (disch := first | decide | (intros; simp (disch := decide) only [Dev.mask_ite, ite_self, Dev.setMac_mask, Dev.addPaused_mask, Dev.settleSlot_mask, Dev.fset_mask])) only [Dev.mask_foldl, Dev.mask_ite, ite_self, Dev.setMac_mask, Dev.addPaused_mask, Dev.settleSlot_mask, Dev.fset_mask]; done) | split | (dsimp only; split) | rfl | (refine (Dev.mask_foldl ?_ _ _).trans ?_ <;> try intro d a))
theorem Dev.leaveUp_mask {T : Nat} (hT : subParts 46117097695975973382 T = true) (d : Dev) (m : ℕ) (st : ℕ) : (Dev.leaveUp d m st).mask T = d.mask T := by
  refine Dev.mask_mono (a := 46117097695975973382) ?_ hT
  unfold Dev.leaveUp
  repeat' (first | with_reducible rfl | (simp (disch := decide) only [Dev.mask_ite, ite_self, Dev.setMac_mask, Dev.rejectFrame_mask, Dev.pulse_mask, Dev.abortTransmit_mask, Dev.setLink_mask, Dev.updatePaused_mask, Dev.count_mask, Dev.latchFault_mask]; done) | split | (dsimp only; split) | rfl)
theorem Dev.moveLink_mask {T : Nat} (hT : subParts 46117097695975973382 T = true) (d : Dev) (m : ℕ) (st : ℕ) : (Dev.moveLink d m st).mask T = d.mask T := by
  refine Dev.mask_mono (a := 46117097695975973382) ?_ hT
  unfold Dev.moveLink
  repeat' (first | with_reducible rfl | (simp (disch := decide) only [Dev.mask_ite, ite_self, Dev.leaveUp_mask, Dev.pulse_mask, Dev.setLink_mask]; done) | split | (dsimp only; split) | rfl)
theorem Dev.refreshMac_mask {T : Nat} (hT : subParts 46117097695975973382 T = true) (d : Dev) (m : ℕ) : (Dev.refreshMac d m).mask T = d.mask T := by
  refine Dev.mask_mono (a := 46117097695975973382) ?_ hT
  unfold Dev.refreshMac
  repeat' (first | with_reducible rfl | (simp (disch := decide) only [Dev.mask_ite, ite_self, Dev.alignMac_mask, Dev.setLink_mask, Dev.moveLink_mask]; done) | split | (dsimp only; split) | rfl)
theorem Dev.refreshGroup_mask {T : Nat} (hT : subParts 46117097695975973382 T = true) (d : Dev) (g : ℕ) : (Dev.refreshGroup d g).mask T = d.mask T := by
  refine Dev.mask_mono (a := 46117097695975973382) ?_ hT
  unfold Dev.refreshGroup
  repeat' (first | with_reducible rfl | (simp (disch := first | decide | (intros; simp (disch := decide) only [Dev.mask_ite, ite_self, Dev.refreshMac_mask])) only [Dev.mask_foldl, Dev.mask_ite, ite_self, Dev.refreshMac_mask]; done) | split | (dsimp only; split) | rfl | (refine (Dev.mask_foldl ?_ _ _).trans ?_ <;> try intro d a))
theorem Dev.deliverPending_mask {T : Nat} (hT : subParts 2105862 T = true) (d : Dev) (n : ℕ) : (Dev.deliverPending d n).mask T = d.mask T := by
  refine Dev.mask_mono (a := 2105862) ?_ hT
  unfold Dev.deliverPending
  repeat' (first | with_reducible rfl | (simp (disch := decide) only [Dev.mask_ite, ite_self, Dev.deliver_mask]; done) | split | (dsimp only; split) | rfl)
theorem Dev.enableChanged_mask {T : Nat} (hT : subParts 46117097695975973382 T = true) (d : Dev) (was : Bool) (k : PageKind) (n : ℕ) (base : ℕ) : (Dev.enableChanged d was k n base).mask T = d.mask T := by
  refine Dev.mask_mono (a := 46117097695975973382) ?_ hT
  unfold Dev.enableChanged
  repeat' (first | with_reducible rfl | (simp (disch := first | decide | (intros; simp (disch := decide) only [Dev.mask_ite, ite_self, Dev.refreshMac_mask, Dev.refreshGroup_mask, Dev.deliverPending_mask])) only [Dev.mask_foldl, Dev.mask_ite, ite_self, Dev.refreshMac_mask, Dev.refreshGroup_mask, Dev.deliverPending_mask]; done) | split | (dsimp only; split) | rfl | (refine (Dev.mask_foldl ?_ _ _).trans ?_ <;> try intro d a))
theorem Dev.setSafe_mask {T : Nat} (hT : subParts 46117097695975973382 T = true) (d : Dev) (k : PageKind) (n : ℕ) (base : ℕ) (v : Bool) : (Dev.setSafe d k n base v).mask T = d.mask T := by
  refine Dev.mask_mono (a := 46117097695975973382) ?_ hT
  unfold Dev.setSafe
  repeat' (first | with_reducible rfl | (simp (disch := decide) only [Dev.mask_ite, ite_self, Dev.enableChanged_mask, Dev.fset_mask]; done) | split | (dsimp only; split) | rfl)
theorem Dev.parityFound_mask {T : Nat} (hT : subParts 46117097695976038934 T = true) (d : Dev) (k : PageKind) (n : ℕ) (a : ℕ) : (Dev.parityFound d k n a).mask T = d.mask T := by
  refine Dev.mask_mono (a := 46117097695976038934) ?_ hT
  unfold Dev.parityFound
  repeat' (first | with_reducible rfl | (simp (disch := decide) only [Dev.mask_ite, ite_self, Dev.mask_seenParity, Dev.countSat_mask, Dev.fset_mask, Dev.journalAdd_mask, Dev.latchFault_mask, Dev.setSafe_mask]; done) | split | (dsimp only; split) | rfl)
theorem Dev.parityCheck_mask {T : Nat} (hT : subParts 46117097695976038934 T = true) (d : Dev) (k : PageKind) (n : ℕ) (base : ℕ) (again : Bool) : (Dev.parityCheck d k n base again).mask T = d.mask T := by
  refine Dev.mask_mono (a := 46117097695976038934) ?_ hT
  unfold Dev.parityCheck
  repeat' (first | with_reducible rfl | (simp (disch := first | decide | (intros; simp (disch := decide) only [Dev.mask_ite, ite_self, Dev.parityFound_mask])) only [Dev.mask_foldl, Dev.mask_ite, ite_self, Dev.parityFound_mask]; done) | split | (dsimp only; split) | rfl | (refine (Dev.mask_foldl ?_ _ _).trans ?_ <;> try intro d a))
theorem Dev.backgroundScan_mask {T : Nat} (hT : subParts 46117097695976038942 T = true) (d : Dev) (page : ℕ) (upsets : List (ℕ × ℕ)) : (Dev.backgroundScan d page upsets).mask T = d.mask T := by
  refine Dev.mask_mono (a := 46117097695976038942) ?_ hT
  unfold Dev.backgroundScan
  repeat' (first | with_reducible rfl | (simp (disch := first | decide | (intros; simp (disch := decide) only [Dev.mask_ite, ite_self, Dev.upset_mask, Dev.parityCheck_mask])) only [Dev.mask_foldl, Dev.mask_ite, ite_self, Dev.upset_mask, Dev.parityCheck_mask]; done) | split | (dsimp only; split) | rfl | (refine (Dev.mask_foldl ?_ _ _).trans ?_ <;> try intro d a))
theorem Dev.beginHandshake_mask {T : Nat} (hT : subParts 295147905179369603072 T = true) (d : Dev) (q : ℕ) : (Dev.beginHandshake d q).mask T = d.mask T := by
  refine Dev.mask_mono (a := 295147905179369603072) ?_ hT
  unfold Dev.beginHandshake
  repeat' (first | with_reducible rfl | (simp (disch := decide) only [Dev.mask_ite, ite_self, Dev.setQueue_mask, Dev.modSes_mask]; done) | split | (dsimp only; split) | rfl)
theorem Dev.releasePorts_mask {T : Nat} (hT : subParts 16384 T = true) (d : Dev) (m : ℕ) : (Dev.releasePorts d m).mask T = d.mask T := by
  refine Dev.mask_mono (a := 16384) ?_ hT
  unfold Dev.releasePorts
  repeat' (first | with_reducible rfl | (simp (disch := decide) only [Dev.mask_ite, ite_self, Dev.mask_portOwner]; done) | split | (dsimp only; split) | rfl)
theorem Dev.moverFail_mask {T : Nat} (hT : subParts 2253318 T = true) (d : Dev) (m : ℕ) (code : ℕ) : (Dev.moverFail d m code).mask T = d.mask T := by
  refine Dev.mask_mono (a := 2253318) ?_ hT
  unfold Dev.moverFail
  repeat' (first | with_reducible rfl | (simp (disch := decide) only [Dev.mask_ite, ite_self, Dev.countSat_mask, Dev.fset_mask, Dev.setMoverState_mask, Dev.releasePorts_mask, Dev.setMover_mask, Dev.latchFault_mask]; done) | split | (dsimp only; split) | rfl)
theorem Dev.beginMove_mask {T : Nat} (hT : subParts 2253318 T = true) (d : Dev) (c : ℕ) (mv : ℕ) (m : Message) : (Dev.beginMove d c mv m).2.mask T = d.mask T := by
  refine Dev.mask_mono (a := 2253318) ?_ hT
  unfold Dev.beginMove
  repeat' (first | with_reducible rfl | (simp (disch := decide) only [Dev.mask_ite, ite_self, Dev.startChain_mask, Dev.moverFail_mask, Dev.fset_mask, Dev.setMover_mask]; done) | split | (dsimp only; split) | rfl)

end Sys2Proof.Machine
end

