-- ==== Sys2Proof/Laws/Frame2.lean ====
section
/-!
SUPPORT. What each operation of the model may change (part 2 of 4, in the order in which the operations build on each
other): blanking the parts named by a set that holds at least the operation's own, the device is as before.
-/

namespace Sys2Proof.Machine

set_option linter.all false

theorem Dev.staleHandle_mask {T : Nat} (hT : subParts 2236934 T = true) (d : Dev) : (Dev.staleHandle d).mask T = d.mask T := by
  refine Dev.mask_mono (a := 2236934) ?_ hT
  unfold Dev.staleHandle
  repeat' (first | with_reducible rfl | (simp (disch := decide) only [Dev.mask_ite, ite_self, Dev.pulse_mask, Dev.latchFault_mask, Dev.count_mask]; done) | split | (dsimp only; split) | rfl)
theorem Dev.staleCopy_mask {T : Nat} (hT : subParts 26388281303558 T = true) (d : Dev) (c : ℕ) (v : Copy) : (Dev.staleCopy d c v).mask T = d.mask T := by
  refine Dev.mask_mono (a := 26388281303558) ?_ hT
  unfold Dev.staleCopy
  repeat' (first | with_reducible rfl | (simp (disch := decide) only [Dev.mask_ite, ite_self, Dev.staleHandle_mask, Dev.closeCopy_mask]; done) | split | (dsimp only; split) | rfl)
theorem Dev.discardStale_mask {T : Nat} (hT : subParts 2236934 T = true) (d : Dev) (kind : ℕ) (t : ℕ) (target : ℕ) (stamp : Stamp) : (Dev.discardStale d kind t target stamp).mask T = d.mask T := by
  refine Dev.mask_mono (a := 2236934) ?_ hT
  unfold Dev.discardStale
  repeat' (first | with_reducible rfl | (simp (disch := decide) only [Dev.mask_ite, ite_self, Dev.wcount_mask, Dev.count_mask, Dev.fset_mask, Dev.pulse_mask]; done) | split | (dsimp only; split) | rfl)
theorem Dev.beginPlacement_mask {T : Nat} (hT : subParts 36893725659137974790 T = true) (d : Dev) (q : ℕ) (n : ℕ) (c : Copy) : (Dev.beginPlacement d q n c).mask T = d.mask T := by
  refine Dev.mask_mono (a := 36893725659137974790) ?_ hT
  unfold Dev.beginPlacement
  repeat' (first | with_reducible rfl | (simp (disch := decide) only [Dev.mask_ite, ite_self, Dev.staleCopy_mask, Dev.endCopy_mask, Dev.discardStale_mask, Dev.wset_mask, Dev.setQueue_mask]; done) | split | (dsimp only; split) | rfl)
theorem Dev.cancelJobs_mask {T : Nat} (hT : subParts 73786976294838206464 T = true) (d : Dev) (q : ℕ) : (Dev.cancelJobs d q).mask T = d.mask T := by
  refine Dev.mask_mono (a := 73786976294838206464) ?_ hT
  unfold Dev.cancelJobs
  repeat' (first | with_reducible rfl | (simp (disch := decide) only [Dev.mask_ite, ite_self, Dev.mask_lehr]; done) | split | (dsimp only; split) | rfl)
theorem Dev.orphanWires_mask {T : Nat} (hT : subParts 295147913975456473606 T = true) (d : Dev) (q : ℕ) : (Dev.orphanWires d q).mask T = d.mask T := by
  refine Dev.mask_mono (a := 295147913975456473606) ?_ hT
  unfold Dev.orphanWires
  repeat' (first | with_reducible rfl | (simp (disch := first | decide | (intros; simp (disch := decide) only [Dev.mask_ite, ite_self, Dev.count_mask, Dev.setWire_mask, Dev.dropWire_mask])) only [Dev.mask_foldl, Dev.mask_ite, ite_self, Dev.count_mask, Dev.setWire_mask, Dev.dropWire_mask]; done) | split | (dsimp only; split) | rfl | (refine (Dev.mask_foldl ?_ _ _).trans ?_ <;> try intro d a))
theorem Dev.cutPlacement_mask {T : Nat} (hT : subParts 36893725659137974790 T = true) (d : Dev) (q : ℕ) : (Dev.cutPlacement d q).mask T = d.mask T := by
  refine Dev.mask_mono (a := 36893725659137974790) ?_ hT
  unfold Dev.cutPlacement
  repeat' (first | with_reducible rfl | (simp (disch := decide) only [Dev.mask_ite, ite_self, Dev.endCopy_mask, Dev.setQueue_mask, Dev.count_mask, Dev.modEntry_mask]; done) | split | (dsimp only; split) | rfl)
theorem Dev.setQState_mask {T : Nat} (hT : subParts 16777248 T = true) (d : Dev) (q : ℕ) (st : QueueState) : (Dev.setQState d q st).mask T = d.mask T := by
  refine Dev.mask_mono (a := 16777248) ?_ hT
  unfold Dev.setQState
  repeat' (first | with_reducible rfl | (simp (disch := decide) only [Dev.mask_ite, ite_self, Dev.gsetWord_mask, Dev.setQueue_mask]; done) | split | (dsimp only; split) | rfl)
theorem Dev.setQGen_mask {T : Nat} (hT : subParts 16777248 T = true) (d : Dev) (q : ℕ) (g : ℕ) : (Dev.setQGen d q g).mask T = d.mask T := by
  refine Dev.mask_mono (a := 16777248) ?_ hT
  unfold Dev.setQGen
  repeat' (first | with_reducible rfl | (simp (disch := decide) only [Dev.mask_ite, ite_self, Dev.gsetWord_mask, Dev.setQueue_mask]; done) | split | (dsimp only; split) | rfl)
theorem Dev.endTeardown_mask {T : Nat} (hT : subParts 8388608 T = true) (d : Dev) (s : ℕ) : (Dev.endTeardown d s).mask T = d.mask T := by
  refine Dev.mask_mono (a := 8388608) ?_ hT
  unfold Dev.endTeardown
  repeat' (first | with_reducible rfl | (simp (disch := decide) only [Dev.mask_ite, ite_self, Dev.setSlice_mask]; done) | split | (dsimp only; split) | rfl)
theorem Dev.showQueueCount_mask {T : Nat} (hT : subParts 2 T = true) (d : Dev) : (Dev.showQueueCount d).mask T = d.mask T := by
  refine Dev.mask_mono (a := 2) ?_ hT
  unfold Dev.showQueueCount
  repeat' (first | with_reducible rfl | (simp (disch := decide) only [Dev.mask_ite, ite_self, Dev.fset_mask]; done) | split | (dsimp only; split) | rfl)
theorem Dev.freeQueue_mask {T : Nat} (hT : subParts 36893725659137974822 T = true) (d0 : Dev) (q : ℕ) : (Dev.freeQueue d0 q).mask T = d0.mask T := by
  refine Dev.mask_mono (a := 36893725659137974822) ?_ hT
  unfold Dev.freeQueue
  repeat' (first | with_reducible rfl | (simp (disch := decide) only [Dev.mask_ite, ite_self, Dev.endCopy_mask, Dev.setSlice_mask, Dev.showQueueCount_mask, Dev.gsetWord_mask, Dev.setQueue_mask]; done) | split | (dsimp only; split) | rfl)
theorem Dev.teardownQueue_mask {T : Nat} (hT : subParts 36893725659137974822 T = true) (d : Dev) (q : ℕ) : (Dev.teardownQueue d q).mask T = d.mask T := by
  refine Dev.mask_mono (a := 36893725659137974822) ?_ hT
  unfold Dev.teardownQueue
  repeat' (first | with_reducible rfl | (simp (disch := decide) only [Dev.mask_ite, ite_self, Dev.endTeardown_mask, Dev.freeQueue_mask]; done) | split | (dsimp only; split) | rfl)
theorem Dev.settle_mask {T : Nat} (hT : subParts 36893725659137974822 T = true) (d : Dev) (q : ℕ) : (Dev.settle d q).mask T = d.mask T := by
  refine Dev.mask_mono (a := 36893725659137974822) ?_ hT
  unfold Dev.settle
  repeat' (first | with_reducible rfl | (simp (disch := decide) only [Dev.mask_ite, ite_self, Dev.setQGen_mask, Dev.setQueue_mask, Dev.teardownQueue_mask, Dev.pulse_mask, Dev.setQState_mask]; done) | split | (dsimp only; split) | rfl)
theorem Dev.beginStop_mask {T : Nat} (hT : subParts 405828607133329007142 T = true) (d : Dev) (q : ℕ) (st : QueueState) : (Dev.beginStop d q st).mask T = d.mask T := by
  refine Dev.mask_mono (a := 405828607133329007142) ?_ hT
  unfold Dev.beginStop
  repeat' (first | with_reducible rfl | (simp (disch := decide) only [Dev.mask_ite, ite_self, Dev.cancelJobs_mask, Dev.orphanWires_mask, Dev.cutPlacement_mask, Dev.setQState_mask, Dev.setQueue_mask, Dev.settle_mask, Dev.flushEnded_mask]; done) | split | (dsimp only; split) | rfl)
theorem Dev.setBin_mask {T : Nat} (hT : subParts 2048 T = true) (d : Dev) (n : ℕ) (b : BinState) : (Dev.setBin d n b).mask T = d.mask T := by
  refine Dev.mask_mono (a := 2048) ?_ hT
  unfold Dev.setBin
  repeat' (first | with_reducible rfl | (simp (disch := decide) only [Dev.mask_ite, ite_self, Dev.mask_bins]; done) | split | (dsimp only; split) | rfl)
theorem Dev.binActivate_mask {T : Nat} (hT : subParts 2238982 T = true) (d : Dev) (n : ℕ) : (Dev.binActivate d n).mask T = d.mask T := by
  refine Dev.mask_mono (a := 2238982) ?_ hT
  unfold Dev.binActivate
  repeat' (first | with_reducible rfl | (simp (disch := decide) only [Dev.mask_ite, ite_self, Dev.setBin_mask, Dev.count_mask, Dev.pulse_mask]; done) | split | (dsimp only; split) | rfl)
theorem Dev.binDeactivate_mask {T : Nat} (hT : subParts 2048 T = true) (d : Dev) (n : ℕ) : (Dev.binDeactivate d n).mask T = d.mask T := by
  refine Dev.mask_mono (a := 2048) ?_ hT
  unfold Dev.binDeactivate
  repeat' (first | with_reducible rfl | (simp (disch := decide) only [Dev.mask_ite, ite_self, Dev.setBin_mask]; done) | split | (dsimp only; split) | rfl)
theorem Dev.binStick_mask {T : Nat} (hT : subParts 2238982 T = true) (d : Dev) (n : ℕ) : (Dev.binStick d n).mask T = d.mask T := by
  refine Dev.mask_mono (a := 2238982) ?_ hT
  unfold Dev.binStick
  repeat' (first | with_reducible rfl | (simp (disch := decide) only [Dev.mask_ite, ite_self, Dev.fset_mask, Dev.setBin_mask, Dev.latchFault_mask, Dev.pulse_mask]; done) | split | (dsimp only; split) | rfl)
theorem Dev.binUnmask_mask {T : Nat} (hT : subParts 2 T = true) (d : Dev) (mask : BitVec 4) : (Dev.binUnmask d mask).mask T = d.mask T := by
  refine Dev.mask_mono (a := 2) ?_ hT
  unfold Dev.binUnmask
  repeat' (first | with_reducible rfl | (simp (disch := first | decide | (intros; simp (disch := decide) only [Dev.mask_ite, ite_self, Dev.fset_mask])) only [Dev.mask_foldl, Dev.mask_ite, ite_self, Dev.fset_mask]; done) | split | (dsimp only; split) | rfl | (refine (Dev.mask_foldl ?_ _ _).trans ?_ <;> try intro d a))
theorem Dev.bistGate_mask {T : Nat} (hT : subParts 2236934 T = true) (d : Dev) (t : ℕ) (n : ℕ) : (Dev.bistGate d t n).mask T = d.mask T := by
  refine Dev.mask_mono (a := 2236934) ?_ hT
  unfold Dev.bistGate
  repeat' (first | with_reducible rfl | (simp (disch := decide) only [Dev.mask_ite, ite_self, Dev.pulse_mask]; done) | split | (dsimp only; split) | rfl)
theorem Dev.modSeg_mask {T : Nat} (hT : subParts 73786976294838206464 T = true) (d : Dev) (n : ℕ) (i : ℕ) (f : JobSeg → JobSeg) : (Dev.modSeg d n i f).mask T = d.mask T := by
  refine Dev.mask_mono (a := 73786976294838206464) ?_ hT
  unfold Dev.modSeg
  repeat' (first | with_reducible rfl | (simp (disch := decide) only [Dev.mask_ite, ite_self, Dev.setJob_mask]; done) | split | (dsimp only; split) | rfl)
theorem Dev.blockDone_mask {T : Nat} (hT : subParts 73786976294838206470 T = true) (d : Dev) (unit : ℕ) (n : ℕ) (i : ℕ) : (Dev.blockDone d unit n i).mask T = d.mask T := by
  refine Dev.mask_mono (a := 73786976294838206470) ?_ hT
  unfold Dev.blockDone
  repeat' (first | with_reducible rfl | (simp (disch := decide) only [Dev.mask_ite, ite_self, Dev.modSeg_mask, Dev.wcount_mask, Dev.count_mask]; done) | split | (dsimp only; split) | rfl)
theorem Dev.dropPipeline_mask {T : Nat} (hT : subParts 17182171654 T = true) (d : Dev) (typ : ℕ) (inst : ℕ) (check : ℕ) (sel : Packet → Bool) : (Dev.dropPipeline d typ inst check sel).mask T = d.mask T := by
  refine Dev.mask_mono (a := 17182171654) ?_ hT
  unfold Dev.dropPipeline
  repeat' (first | with_reducible rfl | (simp (disch := first | decide | (intros; simp (disch := decide) only [Dev.mask_ite, ite_self, Dev.journalAdd_mask, Dev.setStage_mask])) only [Dev.mask_foldl, Dev.mask_ite, ite_self, Dev.journalAdd_mask, Dev.setStage_mask]; done) | split | (dsimp only; split) | rfl | (refine (Dev.mask_foldl ?_ _ _).trans ?_ <;> try intro d a))
theorem Dev.setSesState_mask {T : Nat} (hT : subParts 34 T = true) (d : Dev) (s : ℕ) (st : ℕ) : (Dev.setSesState d s st).mask T = d.mask T := by
  refine Dev.mask_mono (a := 34) ?_ hT
  unfold Dev.setSesState
  repeat' (first | with_reducible rfl | (simp (disch := decide) only [Dev.mask_ite, ite_self, Dev.sesSet_mask, Dev.fset_mask]; done) | split | (dsimp only; split) | rfl)
theorem Dev.sendBare_mask {T : Nat} (hT : subParts 576469668666155526 T = true) (d : Dev) (s : ℕ) (seq : ℕ) (flags : ℕ) : (Dev.sendBare d s seq flags).mask T = d.mask T := by
  refine Dev.mask_mono (a := 576469668666155526) ?_ hT
  unfold Dev.sendBare
  repeat' (first | with_reducible rfl | (simp (disch := decide) only [Dev.mask_ite, ite_self]; done) | (simp (disch := decide) only [Dev.mask_ite, ite_self]; exact Dev.sendSegment_mask (by decide) (by assumption)) | (exact Dev.sendSegment_mask (by decide) (by assumption)) | (refine Dev.mask_getD ?_; intro r hr; exact Dev.sendSegment_mask (by decide) hr) | (simp (disch := decide) only [Dev.mask_ite, ite_self]; refine Dev.mask_getD ?_; intro r hr; exact Dev.sendSegment_mask (by decide) hr) | split | (dsimp only; split) | rfl)
theorem Dev.sendRst_mask {T : Nat} (hT : subParts 576469668666155526 T = true) (d : Dev) (s : ℕ) : (Dev.sendRst d s).mask T = d.mask T := by
  refine Dev.mask_mono (a := 576469668666155526) ?_ hT
  unfold Dev.sendRst
  repeat' (first | with_reducible rfl | (simp (disch := decide) only [Dev.mask_ite, ite_self, Dev.sendBare_mask]; done) | split | (dsimp only; split) | rfl)
theorem Dev.failStorage_mask {T : Nat} (hT : subParts 295147913975473250822 T = true) (d : Dev) (q : ℕ) (idx : ℕ) (code : ℕ) (detail : ℕ) : (Dev.failStorage d q idx code detail).mask T = d.mask T := by
  refine Dev.mask_mono (a := 295147913975473250822) ?_ hT
  unfold Dev.failStorage
  repeat' (first | with_reducible rfl | (simp (disch := decide) only [Dev.mask_ite, ite_self, Dev.noteFailure_mask, Dev.showProgress_mask, Dev.endStorage_mask]; done) | split | (dsimp only; split) | rfl)
theorem Dev.forgetRecords_mask {T : Nat} (hT : subParts 147573952589676412928 T = true) (d : Dev) (s : ℕ) (keep : Bool) : (Dev.forgetRecords d s keep).mask T = d.mask T := by
  refine Dev.mask_mono (a := 147573952589676412928) ?_ hT
  unfold Dev.forgetRecords
  repeat' (first | with_reducible rfl | (simp (disch := decide) only [Dev.mask_ite, ite_self, Dev.setSxp_mask]; done) | split | (dsimp only; split) | rfl)
theorem Dev.dropSession_mask {T : Nat} (hT : subParts 443298327437712171558 T = true) (d : Dev) (s : ℕ) (keep : Bool) (fate : Dev → ℕ → ℕ → ℕ × ℕ) : (Dev.dropSession d s keep fate).mask T = d.mask T := by
  refine Dev.mask_mono (a := 443298327437712171558) ?_ hT
  unfold Dev.dropSession
  repeat' (first | with_reducible rfl | (simp (disch := first | decide | (intros; simp (disch := decide) only [Dev.mask_ite, ite_self, Dev.sendRst_mask, Dev.failStorage_mask, Dev.dropWire_mask, Dev.forgetRecords_mask, Dev.setOutstanding_mask, Dev.setSes_mask])) only [Dev.mask_foldl, Dev.mask_ite, ite_self, Dev.sendRst_mask, Dev.failStorage_mask, Dev.dropWire_mask, Dev.forgetRecords_mask, Dev.setOutstanding_mask, Dev.setSes_mask]; done) | split | (dsimp only; split) | rfl | (refine (Dev.mask_foldl ?_ _ _).trans ?_ <;> try intro d a))
theorem Dev.resetSessionAs_mask {T : Nat} (hT : subParts 443298327437712171558 T = true) (d : Dev) (s : ℕ) (fate : Dev → ℕ → ℕ → ℕ × ℕ) : (Dev.resetSessionAs d s fate).mask T = d.mask T := by
  refine Dev.mask_mono (a := 443298327437712171558) ?_ hT
  unfold Dev.resetSessionAs
  repeat' (first | with_reducible rfl | (simp (disch := first | decide | (intros; simp (disch := decide) only [Dev.mask_ite, ite_self, Dev.setSesState_mask, Dev.sesSet_mask, Dev.dropSession_mask, Dev.lateMessage_mask])) only [Dev.mask_foldl, Dev.mask_ite, ite_self, Dev.setSesState_mask, Dev.sesSet_mask, Dev.dropSession_mask, Dev.lateMessage_mask]; done) | split | (dsimp only; split) | rfl | (refine (Dev.mask_foldl ?_ _ _).trans ?_ <;> try intro d a))
theorem Dev.stoFault_mask {T : Nat} (hT : subParts 443298327437712237094 T = true) (d : Dev) (check : ℕ) : (Dev.stoFault d check).mask T = d.mask T := by
  refine Dev.mask_mono (a := 443298327437712237094) ?_ hT
  unfold Dev.stoFault
  repeat' (first | with_reducible rfl | (simp (disch := first | decide | (intros; simp (disch := decide) only [Dev.mask_ite, ite_self, Dev.mask_journal, Dev.journalAdd_mask, Dev.modEntry_mask, Dev.resetSessionAs_mask])) only [Dev.mask_foldl, Dev.mask_ite, ite_self, Dev.mask_journal, Dev.journalAdd_mask, Dev.modEntry_mask, Dev.resetSessionAs_mask]; done) | split | (dsimp only; split) | rfl | (refine (Dev.mask_foldl ?_ _ _).trans ?_ <;> try intro d a))
theorem Dev.endWith_mask {T : Nat} (hT : subParts 19014150 T = true) (d : Dev) (q : ℕ) (idx : ℕ) (code : ℕ) (w2 : ℕ) : (Dev.endWith d q idx code w2).mask T = d.mask T := by
  refine Dev.mask_mono (a := 19014150) ?_ hT
  unfold Dev.endWith
  repeat' (first | with_reducible rfl | (simp (disch := decide) only [Dev.mask_ite, ite_self, Dev.discardResult_mask, Dev.endEntry_mask]; done) | split | (dsimp only; split) | rfl)
theorem Dev.faultEntries_mask {T : Nat} (hT : subParts 19079686 T = true) (d : Dev) (typ : ℕ) (inst : ℕ) (check : ℕ) (sel : ℕ → Bool) : (Dev.faultEntries d typ inst check sel).mask T = d.mask T := by
  refine Dev.mask_mono (a := 19079686) ?_ hT
  unfold Dev.faultEntries
  repeat' (first | with_reducible rfl | (simp (disch := first | decide | (intros; simp (disch := decide) only [Dev.mask_ite, ite_self, Dev.mask_journal, Dev.journalAdd_mask, Dev.endWith_mask, Dev.modEntry_mask])) only [Dev.mask_foldl, Dev.mask_ite, ite_self, Dev.mask_journal, Dev.journalAdd_mask, Dev.endWith_mask, Dev.modEntry_mask]; done) | split | (dsimp only; split) | rfl | (refine (Dev.mask_foldl ?_ _ _).trans ?_ <;> try intro d a))
theorem Dev.setLane_mask {T : Nat} (hT : subParts 18446744073709551616 T = true) (d : Dev) (k : ℕ) (v : Lane) : (Dev.setLane d k v).mask T = d.mask T := by
  refine Dev.mask_mono (a := 18446744073709551616) ?_ hT
  unfold Dev.setLane
  repeat' (first | with_reducible rfl | (simp (disch := decide) only [Dev.mask_ite, ite_self, Dev.mask_lanes]; done) | split | (dsimp only; split) | rfl)
theorem Dev.loseLock_mask {T : Nat} (hT : subParts 64563841769685524998 T = true) (d : Dev) (m : ℕ) (lost : ℕ) (dark : ℕ) : (Dev.loseLock d m lost dark).mask T = d.mask T := by
  refine Dev.mask_mono (a := 64563841769685524998) ?_ hT
  unfold Dev.loseLock
  repeat' (first | with_reducible rfl | (simp (disch := first | decide | (intros; simp (disch := decide) only [Dev.mask_ite, ite_self, Dev.setLane_mask, Dev.fset_mask, Dev.moveLink_mask])) only [Dev.mask_foldl, Dev.mask_ite, ite_self, Dev.setLane_mask, Dev.fset_mask, Dev.moveLink_mask]; done) | split | (dsimp only; split) | rfl | (refine (Dev.mask_foldl ?_ _ _).trans ?_ <;> try intro d a))
theorem Dev.dropMacs_mask {T : Nat} (hT : subParts 64563841769685524998 T = true) (d : Dev) (sel : ℕ → Bool) (clock : Bool) (signal : Bool) : (Dev.dropMacs d sel clock signal).mask T = d.mask T := by
  refine Dev.mask_mono (a := 64563841769685524998) ?_ hT
  unfold Dev.dropMacs
  repeat' (first | with_reducible rfl | (simp (disch := first | decide | (intros; simp (disch := decide) only [Dev.mask_ite, ite_self, Dev.loseLock_mask])) only [Dev.mask_foldl, Dev.mask_ite, ite_self, Dev.loseLock_mask]; done) | split | (dsimp only; split) | rfl | (refine (Dev.mask_foldl ?_ _ _).trans ?_ <;> try intro d a))
theorem Dev.blockFault_mask {T : Nat} (hT : subParts 507862160394114245158 T = true) (d : Dev) (k : PageKind) (inst : ℕ) (check : ℕ) : (Dev.blockFault d k inst check).mask T = d.mask T := by
  refine Dev.mask_mono (a := 507862160394114245158) ?_ hT
  unfold Dev.blockFault
  repeat' (first | with_reducible rfl | (simp (disch := decide) only [Dev.mask_ite, ite_self, Dev.dropPipeline_mask, Dev.stoFault_mask, Dev.faultEntries_mask, Dev.aerError_mask, Dev.dropMacs_mask, Dev.journalAdd_mask]; done) | split | (dsimp only; split) | rfl)
theorem Dev.bloomSet_mask {T : Nat} (hT : subParts 1125899906842624 T = true) (d : Dev) (v : ℕ) (k : List Byte) (base : ℕ) (log2 : ℕ) : (Dev.bloomSet d v k base log2).mask T = d.mask T := by
  refine Dev.mask_mono (a := 1125899906842624) ?_ hT
  unfold Dev.bloomSet
  repeat' (first | with_reducible rfl | (simp (disch := first | decide | (intros; simp (disch := decide) only [Dev.mask_ite, ite_self, Dev.mask_bloom])) only [Dev.mask_foldl, Dev.mask_ite, ite_self, Dev.mask_bloom]; done) | split | (dsimp only; split) | rfl | (refine (Dev.mask_foldl ?_ _ _).trans ?_ <;> try intro d a))
theorem Dev.setBootStage_mask {T : Nat} (hT : subParts 2 T = true) (d : Dev) (n : ℕ) : (Dev.setBootStage d n).mask T = d.mask T := by
  refine Dev.mask_mono (a := 2) ?_ hT
  unfold Dev.setBootStage
  repeat' (first | with_reducible rfl | (simp (disch := decide) only [Dev.mask_ite, ite_self, Dev.fset_mask]; done) | split | (dsimp only; split) | rfl)
theorem Dev.measure_mask {T : Nat} (hT : subParts 1180591620717411303424 T = true) (d : Dev) (i : ℕ) (bs : List Byte) : (Dev.measure d i bs).mask T = d.mask T := by
  refine Dev.mask_mono (a := 1180591620717411303424) ?_ hT
  unfold Dev.measure
  repeat' (first | with_reducible rfl | (simp (disch := decide) only [Dev.mask_ite, ite_self, Dev.setWel_mask]; done) | split | (dsimp only; split) | rfl)
theorem Dev.bootFail_mask {T : Nat} (hT : subParts 1180591620717413540358 T = true) (d : Dev) (err : ℕ) (ims : List BootImage) (set : ℕ) : (Dev.bootFail d err ims set).mask T = d.mask T := by
  refine Dev.mask_mono (a := 1180591620717413540358) ?_ hT
  unfold Dev.bootFail
  repeat' (first | with_reducible rfl | (simp (disch := decide) only [Dev.mask_ite, ite_self, Dev.latchFault_mask, Dev.fset_mask, Dev.setBootStage_mask, Dev.measure_mask]; done) | split | (dsimp only; split) | rfl)
theorem Dev.macEnable_mask {T : Nat} (hT : subParts 9223372036854775808 T = true) (d : Dev) (n : ℕ) (new : ℕ) : (Dev.macEnable d n new).2.mask T = d.mask T := by
  refine Dev.mask_mono (a := 9223372036854775808) ?_ hT
  unfold Dev.macEnable
  repeat' (first | with_reducible rfl | (simp (disch := decide) only [Dev.mask_ite, ite_self, Dev.setMac_mask]; done) | split | (dsimp only; split) | rfl)
theorem Dev.restartCluster_mask {T : Nat} (hT : subParts 4294967296 T = true) (d : Dev) (n : ℕ) : (Dev.restartCluster d n).mask T = d.mask T := by
  refine Dev.mask_mono (a := 4294967296) ?_ hT
  unfold Dev.restartCluster
  repeat' (first | with_reducible rfl | (simp (disch := decide) only [Dev.mask_ite, ite_self, Dev.mask_gafStopped]; done) | split | (dsimp only; split) | rfl)
theorem Dev.writeCtl_mask {T : Nat} (hT : subParts 46117097700270940702 T = true) (d : Dev) (k : PageKind) (n : ℕ) (base : ℕ) (v : ℕ) (m : ℕ) : (Dev.writeCtl d k n base v m).mask T = d.mask T := by
  refine Dev.mask_mono (a := 46117097700270940702) ?_ hT
  unfold Dev.writeCtl
  repeat' (first | with_reducible rfl | (simp (disch := decide) only [Dev.mask_ite, ite_self, Dev.macEnable_mask, Dev.enableChanged_mask, Dev.setParity_mask, Dev.wr_mask, Dev.restartCluster_mask]; done) | split | (dsimp only; split) | rfl)
theorem Dev.clearBitsAt_mask {T : Nat} (hT : subParts 2 T = true) (d : Dev) (a : ℕ) (mask : Word) : (Dev.clearBitsAt d a mask).mask T = d.mask T := by
  refine Dev.mask_mono (a := 2) ?_ hT
  unfold Dev.clearBitsAt
  repeat' (first | with_reducible rfl | (simp (disch := decide) only [Dev.mask_ite, ite_self, Dev.wr_mask]; done) | split | (dsimp only; split) | rfl)
theorem Dev.recheck_mask {T : Nat} (hT : subParts 46117097695976038934 T = true) (d : Dev) (k : PageKind) (n : ℕ) (base : ℕ) : (Dev.recheck d k n base).mask T = d.mask T := by
  refine Dev.mask_mono (a := 46117097695976038934) ?_ hT
  unfold Dev.recheck
  repeat' (first | with_reducible rfl | (simp (disch := decide) only [Dev.mask_ite, ite_self, Dev.setSafe_mask, Dev.parityCheck_mask]; done) | split | (dsimp only; split) | rfl)
theorem Dev.scanBegins_mask {T : Nat} (hT : subParts 524290 T = true) (d : Dev) (k : PageKind) (base : ℕ) : (Dev.scanBegins d k base).mask T = d.mask T := by
  refine Dev.mask_mono (a := 524290) ?_ hT
  unfold Dev.scanBegins
  repeat' (first | with_reducible rfl | (simp (disch := decide) only [Dev.mask_ite, ite_self, Dev.mask_ft, Dev.fset_mask]; done) | split | (dsimp only; split) | rfl)
theorem Dev.clearCfgParity_mask {T : Nat} (hT : subParts 46117097695976563222 T = true) (d : Dev) (k : PageKind) (n : ℕ) (base : ℕ) : (Dev.clearCfgParity d k n base).mask T = d.mask T := by
  refine Dev.mask_mono (a := 46117097695976563222) ?_ hT
  unfold Dev.clearCfgParity
  repeat' (first | with_reducible rfl | (simp (disch := decide) only [Dev.mask_ite, ite_self, Dev.refreshFault_mask, Dev.recheck_mask, Dev.scanBegins_mask, Dev.fset_mask]; done) | split | (dsimp only; split) | rfl)
theorem Dev.writeFault_mask {T : Nat} (hT : subParts 46117097695976563222 T = true) (d : Dev) (k : PageKind) (n : ℕ) (base : ℕ) (v : ℕ) (m : ℕ) : (Dev.writeFault d k n base v m).mask T = d.mask T := by
  refine Dev.mask_mono (a := 46117097695976563222) ?_ hT
  unfold Dev.writeFault
  repeat' (first | with_reducible rfl | (simp (disch := decide) only [Dev.mask_ite, ite_self, Dev.clearBitsAt_mask, Dev.clearCfgParity_mask, Dev.refreshFault_mask]; done) | split | (dsimp only; split) | rfl)
theorem Dev.writeFaultEn_mask {T : Nat} (hT : subParts 2236958 T = true) (d : Dev) (k : PageKind) (base : ℕ) (v : ℕ) (m : ℕ) : (Dev.writeFaultEn d k base v m).mask T = d.mask T := by
  refine Dev.mask_mono (a := 2236958) ?_ hT
  unfold Dev.writeFaultEn
  repeat' (first | with_reducible rfl | (simp (disch := decide) only [Dev.mask_ite, ite_self, Dev.refreshFault_mask, Dev.setParity_mask, Dev.wr_mask]; done) | split | (dsimp only; split) | rfl)
theorem Dev.scanNow_mask {T : Nat} (hT : subParts 46117097695976563222 T = true) (d : Dev) (k : PageKind) (n : ℕ) (base : ℕ) : (Dev.scanNow d k n base).mask T = d.mask T := by
  refine Dev.mask_mono (a := 46117097695976563222) ?_ hT
  unfold Dev.scanNow
  repeat' (first | with_reducible rfl | (simp (disch := decide) only [Dev.mask_ite, ite_self, Dev.parityCheck_mask, Dev.scanBegins_mask, Dev.fset_mask]; done) | split | (dsimp only; split) | rfl)
theorem Dev.wmbSelect_mask {T : Nat} (hT : subParts 2 T = true) (d : Dev) (p : ℕ) (index : ℕ) : (Dev.wmbSelect d p index).mask T = d.mask T := by
  refine Dev.mask_mono (a := 2) ?_ hT
  unfold Dev.wmbSelect
  repeat' (first | with_reducible rfl | (simp (disch := decide) only [Dev.mask_ite, ite_self, Dev.fset_mask, Dev.count_mask]; done) | split | (dsimp only; split) | rfl)
theorem Dev.wmbRefuse_mask {T : Nat} (hT : subParts 2236934 T = true) (d : Dev) (p : ℕ) : (Dev.wmbRefuse d p).mask T = d.mask T := by
  refine Dev.mask_mono (a := 2236934) ?_ hT
  unfold Dev.wmbRefuse
  repeat' (first | with_reducible rfl | (simp (disch := decide) only [Dev.mask_ite, ite_self, Dev.accessFault_mask, Dev.fset_mask]; done) | split | (dsimp only; split) | rfl)
theorem Dev.wmbDone_mask {T : Nat} (hT : subParts 2 T = true) (d : Dev) (p : ℕ) : (Dev.wmbDone d p).mask T = d.mask T := by
  refine Dev.mask_mono (a := 2) ?_ hT
  unfold Dev.wmbDone
  repeat' (first | with_reducible rfl | (simp (disch := decide) only [Dev.mask_ite, ite_self, Dev.fset_mask]; done) | split | (dsimp only; split) | rfl)
theorem Dev.clearCoarse_mask {T : Nat} (hT : subParts 2236934 T = true) (d : Dev) : (Dev.clearCoarse d).mask T = d.mask T := by
  refine Dev.mask_mono (a := 2236934) ?_ hT
  unfold Dev.clearCoarse
  repeat' (first | with_reducible rfl | (simp (disch := decide) only [Dev.mask_ite, ite_self, Dev.pulse_mask, Dev.fset_mask]; done) | split | (dsimp only; split) | rfl)
theorem Dev.loadClock_mask {T : Nat} (hT : subParts 2499078 T = true) (d : Dev) (v : ℕ) : (Dev.loadClock d v).mask T = d.mask T := by
  refine Dev.mask_mono (a := 2499078) ?_ hT
  unfold Dev.loadClock
  repeat' (first | with_reducible rfl | (simp (disch := decide) only [Dev.mask_ite, ite_self, Dev.clearCoarse_mask, Dev.setTim_mask, Dev.wset_mask]; done) | split | (dsimp only; split) | rfl)
theorem Dev.offsetClock_mask {T : Nat} (hT : subParts 2499078 T = true) (d : Dev) (v : ℕ) : (Dev.offsetClock d v).mask T = d.mask T := by
  refine Dev.mask_mono (a := 2499078) ?_ hT
  unfold Dev.offsetClock
  repeat' (first | with_reducible rfl | (simp (disch := decide) only [Dev.mask_ite, ite_self, Dev.clearCoarse_mask, Dev.setTim_mask, Dev.wset_mask]; done) | split | (dsimp only; split) | rfl)
theorem Dev.setDeepCrucible_mask {T : Nat} (hT : subParts 8796093022214 T = true) (d : Dev) (v : ℕ) : (Dev.setDeepCrucible d v).mask T = d.mask T := by
  refine Dev.mask_mono (a := 8796093022214) ?_ hT
  unfold Dev.setDeepCrucible
  repeat' (first | with_reducible rfl | (simp (disch := decide) only [Dev.mask_ite, ite_self, Dev.mask_cullet, Dev.fset_mask, Dev.wset_mask]; done) | split | (dsimp only; split) | rfl)
theorem Dev.refillHost_mask {T : Nat} (hT : subParts 4611686018427387904 T = true) (d : Dev) : (Dev.refillHost d).mask T = d.mask T := by
  refine Dev.mask_mono (a := 4611686018427387904) ?_ hT
  unfold Dev.refillHost
  repeat' (first | with_reducible rfl | (simp (disch := decide) only [Dev.mask_ite, ite_self, Dev.mask_host]; done) | split | (dsimp only; split) | rfl)
theorem Dev.widePut_mask {T : Nat} (hT : subParts 4611694814522909190 T = true) (d : Dev) (k : PageKind) (base : ℕ) (i : ℕ) (v : ℕ) : (Dev.widePut d k base i v).mask T = d.mask T := by
  refine Dev.mask_mono (a := 4611694814522909190) ?_ hT
  unfold Dev.widePut
  repeat' (first | with_reducible rfl | (simp (disch := decide) only [Dev.mask_ite, ite_self, Dev.loadClock_mask, Dev.offsetClock_mask, Dev.setDeepCrucible_mask, Dev.wset_mask, Dev.refillHost_mask]; done) | split | (dsimp only; split) | rfl)
theorem Dev.wmbCommit_mask {T : Nat} (hT : subParts 4611694814522909190 T = true) (d : Dev) (req : Requester) (addr : ℕ) (k : PageKind) (n : ℕ) (base : ℕ) (i : ℕ) : (Dev.wmbCommit d req addr k n base i).mask T = d.mask T := by
  refine Dev.mask_mono (a := 4611694814522909190) ?_ hT
  unfold Dev.wmbCommit
  repeat' (first | with_reducible rfl | (simp (disch := decide) only [Dev.mask_ite, ite_self, Dev.wmbSelect_mask, Dev.wmbRefuse_mask, Dev.wmbDone_mask, Dev.accessError_mask, Dev.widePut_mask]; done) | split | (dsimp only; split) | rfl)
theorem Dev.wmbAnswer_mask {T : Nat} (hT : subParts 2 T = true) (d : Dev) (p : ℕ) (v : ℕ) : (Dev.wmbAnswer d p v).mask T = d.mask T := by
  refine Dev.mask_mono (a := 2) ?_ hT
  unfold Dev.wmbAnswer
  repeat' (first | with_reducible rfl | (simp (disch := first | decide | (intros; simp (disch := decide) only [Dev.mask_ite, ite_self, Dev.fset_mask, Dev.wr_mask])) only [Dev.mask_foldl, Dev.mask_ite, ite_self, Dev.fset_mask, Dev.wr_mask]; done) | split | (dsimp only; split) | rfl | (refine (Dev.mask_foldl ?_ _ _).trans ?_ <;> try intro d a))
theorem Dev.setStamps_mask {T : Nat} (hT : subParts 9223372036854775810 T = true) (d : Dev) (m : ℕ) (l : List (ℕ × ℕ × ℕ × ℕ)) : (Dev.setStamps d m l).mask T = d.mask T := by
  refine Dev.mask_mono (a := 9223372036854775810) ?_ hT
  unfold Dev.setStamps
  repeat' (first | with_reducible rfl | (simp (disch := decide) only [Dev.mask_ite, ite_self, Dev.fset_mask, Dev.setMac_mask]; done) | split | (dsimp only; split) | rfl)
theorem Dev.captureStamp_mask {T : Nat} (hT : subParts 9223372036854775810 T = true) (d : Dev) (m : ℕ) : (Dev.captureStamp d m).mask T = d.mask T := by
  refine Dev.mask_mono (a := 9223372036854775810) ?_ hT
  unfold Dev.captureStamp
  repeat' (first | with_reducible rfl | (simp (disch := decide) only [Dev.mask_ite, ite_self, Dev.wmbSelect_mask, Dev.wmbAnswer_mask, Dev.setStamps_mask]; done) | split | (dsimp only; split) | rfl)
theorem Dev.captureWire_mask {T : Nat} (hT : subParts 8388608 T = true) (d : Dev) (i : ℕ) : (Dev.captureWire d i).2.mask T = d.mask T := by
  refine Dev.mask_mono (a := 8388608) ?_ hT
  unfold Dev.captureWire
  repeat' (first | with_reducible rfl | (simp (disch := decide) only [Dev.mask_ite, ite_self, Dev.setSlice_mask]; done) | split | (dsimp only; split) | rfl)
theorem Dev.wideTake_mask {T : Nat} (hT : subParts 8388608 T = true) (d : Dev) (k : PageKind) (base : ℕ) (i : ℕ) : (Dev.wideTake d k base i).2.mask T = d.mask T := by
  refine Dev.mask_mono (a := 8388608) ?_ hT
  unfold Dev.wideTake
  repeat' (first | with_reducible rfl | (simp (disch := decide) only [Dev.mask_ite, ite_self, Dev.captureWire_mask]; done) | split | (dsimp only; split) | rfl)
theorem Dev.wmbCapture_mask {T : Nat} (hT : subParts 9223372036865401350 T = true) (d : Dev) (req : Requester) (k : PageKind) (n : ℕ) (base : ℕ) (i : ℕ) : (Dev.wmbCapture d req k n base i).mask T = d.mask T := by
  refine Dev.mask_mono (a := 9223372036865401350) ?_ hT
  unfold Dev.wmbCapture
  repeat' (first | with_reducible rfl | (simp (disch := decide) only [Dev.mask_ite, ite_self, Dev.captureStamp_mask, Dev.wmbSelect_mask, Dev.wmbRefuse_mask, Dev.wmbAnswer_mask, Dev.wideTake_mask]; done) | split | (dsimp only; split) | rfl)
theorem Dev.writeWmb_mask {T : Nat} (hT : subParts 13835066851386073606 T = true) (d : Dev) (req : Requester) (addr : ℕ) (k : PageKind) (n : ℕ) (base : ℕ) (off : ℕ) (v : ℕ) (m : ℕ) : (Dev.writeWmb d req addr k n base off v m).mask T = d.mask T := by
  refine Dev.mask_mono (a := 13835066851386073606) ?_ hT
  unfold Dev.writeWmb
  repeat' (first | with_reducible rfl | (simp (disch := decide) only [Dev.mask_ite, ite_self, Dev.wmbCommit_mask, Dev.wmbCapture_mask, Dev.wr_mask]; done) | split | (dsimp only; split) | rfl)
theorem Dev.writeHeader_mask {T : Nat} (hT : subParts 50728783718699180574 T = true) (d : Dev) (req : Requester) (addr : ℕ) (k : PageKind) (n : ℕ) (base : ℕ) (off : ℕ) (v : ℕ) (m : ℕ) : (Dev.writeHeader d req addr k n base off v m).mask T = d.mask T := by
  refine Dev.mask_mono (a := 50728783718699180574) ?_ hT
  unfold Dev.writeHeader
  repeat' (first | with_reducible rfl | (simp (disch := decide) only [Dev.mask_ite, ite_self, Dev.writeCtl_mask, Dev.writeFault_mask, Dev.writeFaultEn_mask, Dev.scanNow_mask, Dev.writeWmb_mask]; done) | split | (dsimp only; split) | rfl)
theorem Dev.storeFields_mask {T : Nat} (hT : subParts 26 T = true) (d : Dev) (k : PageKind) (base : ℕ) (off : ℕ) (v : ℕ) (m : ℕ) : (Dev.storeFields d k base off v m).mask T = d.mask T := by
  refine Dev.mask_mono (a := 26) ?_ hT
  unfold Dev.storeFields
  repeat' (first | with_reducible rfl | (simp (disch := first | decide | (intros; simp (disch := decide) only [Dev.mask_ite, ite_self, Dev.wr_mask, Dev.setParity_mask])) only [Dev.mask_foldl, Dev.mask_ite, ite_self, Dev.wr_mask, Dev.setParity_mask]; done) | split | (dsimp only; split) | rfl | (refine (Dev.mask_foldl ?_ _ _).trans ?_ <;> try intro d a))
theorem Dev.rstRefused_mask {T : Nat} (hT : subParts 2236934 T = true) (d : Dev) : (Dev.rstRefused d).mask T = d.mask T := by
  refine Dev.mask_mono (a := 2236934) ?_ hT
  unfold Dev.rstRefused
  repeat' (first | with_reducible rfl | (simp (disch := decide) only [Dev.mask_ite, ite_self, Dev.accessFault_mask]; done) | split | (dsimp only; split) | rfl)
theorem Dev.captureEntry_mask {T : Nat} (hT : subParts 262144 T = true) (d : Dev) : (Dev.captureEntry d).mask T = d.mask T := by
  refine Dev.mask_mono (a := 262144) ?_ hT
  unfold Dev.captureEntry
  repeat' (first | with_reducible rfl | (simp (disch := decide) only [Dev.mask_ite, ite_self, Dev.setTim_mask]; done) | split | (dsimp only; split) | rfl)
theorem Dev.setPwr_mask {T : Nat} (hT : subParts 131072 T = true) (d : Dev) (p : Power) : (Dev.setPwr d p).mask T = d.mask T := by
  refine Dev.mask_mono (a := 131072) ?_ hT
  unfold Dev.setPwr
  repeat' (first | with_reducible rfl | (simp (disch := decide) only [Dev.mask_ite, ite_self, Dev.mask_pwr]; done) | split | (dsimp only; split) | rfl)
theorem Dev.restoreClock_mask {T : Nat} (hT : subParts 2499078 T = true) (d : Dev) : (Dev.restoreClock d).mask T = d.mask T := by
  refine Dev.mask_mono (a := 2499078) ?_ hT
  unfold Dev.restoreClock
  repeat' (first | with_reducible rfl | (simp (disch := decide) only [Dev.mask_ite, ite_self, Dev.pulse_mask, Dev.fset_mask, Dev.setTim_mask, Dev.wset_mask]; done) | split | (dsimp only; split) | rfl)
theorem Dev.deviceReset_mask {T : Nat} (hT : subParts 2361183241434822599294 T = true) (d : Dev) (req : Requester) (confirm : ℕ) : (Dev.deviceReset d req confirm).mask T = d.mask T := by
  refine Dev.mask_mono (a := 2361183241434822599294) ?_ hT
  unfold Dev.deviceReset
  repeat' (first | with_reducible rfl | (simp (disch := decide) only [Dev.mask_ite, ite_self, Dev.mask_ft, Dev.mask_hif, Dev.mask_wel, Dev.mask_ft_wel, Dev.rstRefused_mask, Dev.captureEntry_mask, Dev.countSat_mask, Dev.fset_mask, Dev.loseSwitched_mask, Dev.dropMacs_mask, Dev.setPwr_mask, Dev.restoreClock_mask, Dev.showJournal_mask]; done) | split | (dsimp only; split) | rfl)
theorem Dev.releaseEntries_mask {T : Nat} (hT : subParts 8388608 T = true) (d : Dev) (n : ℕ) (stamp : Stamp) : (Dev.releaseEntries d n stamp).mask T = d.mask T := by
  refine Dev.mask_mono (a := 8388608) ?_ hT
  unfold Dev.releaseEntries
  repeat' (first | with_reducible rfl | (simp (disch := first | decide | (intros; simp (disch := decide) only [Dev.mask_ite, ite_self, Dev.releaseSlice_mask])) only [Dev.mask_foldl, Dev.mask_ite, ite_self, Dev.releaseSlice_mask]; done) | split | (dsimp only; split) | rfl | (refine (Dev.mask_foldl ?_ _ _).trans ?_ <;> try intro d a))
theorem Dev.haltQueue_mask {T : Nat} (hT : subParts 332041630838490800678 T = true) (d : Dev) (q : ℕ) : (Dev.haltQueue d q).mask T = d.mask T := by
  refine Dev.mask_mono (a := 332041630838490800678) ?_ hT
  unfold Dev.haltQueue
  repeat' (first | with_reducible rfl | (simp (disch := decide) only [Dev.mask_ite, ite_self, Dev.endCopy_mask, Dev.releaseEntries_mask, Dev.orphanWires_mask, Dev.setQueue_mask, Dev.pulse_mask, Dev.setQState_mask]; done) | split | (dsimp only; split) | rfl)
theorem Dev.haltQueues_mask {T : Nat} (hT : subParts 332041630838490800678 T = true) (d : Dev) (sel : ℕ → Bool) : (Dev.haltQueues d sel).mask T = d.mask T := by
  refine Dev.mask_mono (a := 332041630838490800678) ?_ hT
  unfold Dev.haltQueues
  repeat' (first | with_reducible rfl | (simp (disch := first | decide | (intros; simp (disch := decide) only [Dev.mask_ite, ite_self, Dev.haltQueue_mask])) only [Dev.mask_foldl, Dev.mask_ite, ite_self, Dev.haltQueue_mask]; done) | split | (dsimp only; split) | rfl | (refine (Dev.mask_foldl ?_ _ _).trans ?_ <;> try intro d a))
theorem Dev.dropLink_mask {T : Nat} (hT : subParts 332041630838490800678 T = true) (d : Dev) (n : ℕ) : (Dev.dropLink d n).mask T = d.mask T := by
  refine Dev.mask_mono (a := 332041630838490800678) ?_ hT
  unfold Dev.dropLink
  repeat' (first | with_reducible rfl | (simp (disch := decide) only [Dev.mask_ite, ite_self, Dev.setHostPort_mask, Dev.haltQueues_mask]; done) | split | (dsimp only; split) | rfl)
theorem Dev.setSit_mask {T : Nat} (hT : subParts 4194304 T = true) (d : Dev) (s : ℕ) (e : ℕ) (v : SitEntry) : (Dev.setSit d s e v).mask T = d.mask T := by
  refine Dev.mask_mono (a := 4194304) ?_ hT
  unfold Dev.setSit
  repeat' (first | with_reducible rfl | (simp (disch := decide) only [Dev.mask_ite, ite_self, Dev.mask_sit]; done) | split | (dsimp only; split) | rfl)
theorem Dev.sitSend_mask {T : Nat} (hT : subParts 516 T = true) (d : Dev) (s : ℕ) (e : SitEntry) : (Dev.sitSend d s e).mask T = d.mask T := by
  refine Dev.mask_mono (a := 516) ?_ hT
  unfold Dev.sitSend
  repeat' (first | with_reducible rfl | (simp (disch := decide) only [Dev.mask_ite, ite_self, Dev.emit_mask, Dev.wcount_mask]; done) | split | (dsimp only; split) | rfl)
theorem Dev.sliceInterrupt_mask {T : Nat} (hT : subParts 6431238 T = true) (d : Dev) (s : ℕ) (e : ℕ) (inc : ℕ) : (Dev.sliceInterrupt d s e inc).mask T = d.mask T := by
  refine Dev.mask_mono (a := 6431238) ?_ hT
  unfold Dev.sliceInterrupt
  repeat' (first | with_reducible rfl | (simp (disch := decide) only [Dev.mask_ite, ite_self, Dev.discardStale_mask, Dev.setSit_mask, Dev.sitSend_mask]; done) | split | (dsimp only; split) | rfl)
theorem Dev.setTdi_mask {T : Nat} (hT : subParts 332041630838494994982 T = true) (d : Dev) (s : ℕ) (t : TdiState) (raise : Bool) : (Dev.setTdi d s t raise).mask T = d.mask T := by
  refine Dev.mask_mono (a := 332041630838494994982) ?_ hT
  unfold Dev.setTdi
  repeat' (first | with_reducible rfl | (simp (disch := decide) only [Dev.mask_ite, ite_self, Dev.pulse_mask, Dev.setSlice_mask, Dev.sliceInterrupt_mask, Dev.haltQueues_mask]; done) | split | (dsimp only; split) | rfl)
theorem Dev.resetPort_mask {T : Nat} (hT : subParts 332041630838494994982 T = true) (d : Dev) (n : ℕ) : (Dev.resetPort d n).mask T = d.mask T := by
  refine Dev.mask_mono (a := 332041630838494994982) ?_ hT
  unfold Dev.resetPort
  repeat' (first | with_reducible rfl | (simp (disch := first | decide | (intros; simp (disch := decide) only [Dev.mask_ite, ite_self, Dev.setHostPort_mask, Dev.dropLink_mask, Dev.setTdi_mask, Dev.fset_mask, Dev.pulse_mask])) only [Dev.mask_foldl, Dev.mask_ite, ite_self, Dev.setHostPort_mask, Dev.dropLink_mask, Dev.setTdi_mask, Dev.fset_mask, Dev.pulse_mask]; done) | split | (dsimp only; split) | rfl | (refine (Dev.mask_foldl ?_ _ _).trans ?_ <;> try intro d a))
theorem Dev.portReset_mask {T : Nat} (hT : subParts 332041630838494994982 T = true) (d : Dev) (kind : ℕ) (confirm : ℕ) : (Dev.portReset d kind confirm).mask T = d.mask T := by
  refine Dev.mask_mono (a := 332041630838494994982) ?_ hT
  unfold Dev.portReset
  repeat' (first | with_reducible rfl | (simp (disch := decide) only [Dev.mask_ite, ite_self, Dev.rstRefused_mask, Dev.resetPort_mask]; done) | split | (dsimp only; split) | rfl)
theorem Dev.writeRst_mask {T : Nat} (hT : subParts 2361183241434822599294 T = true) (d : Dev) (req : Requester) (v : ℕ) : (Dev.writeRst d req v).mask T = d.mask T := by
  refine Dev.mask_mono (a := 2361183241434822599294) ?_ hT
  unfold Dev.writeRst
  repeat' (first | with_reducible rfl | (simp (disch := decide) only [Dev.mask_ite, ite_self, Dev.deviceReset_mask, Dev.portReset_mask]; done) | split | (dsimp only; split) | rfl)
theorem Dev.releasePads_mask {T : Nat} (hT : subParts 2236934 T = true) (d : Dev) (groups : ℕ) : (Dev.releasePads d groups).mask T = d.mask T := by
  refine Dev.mask_mono (a := 2236934) ?_ hT
  unfold Dev.releasePads
  repeat' (first | with_reducible rfl | (simp (disch := decide) only [Dev.mask_ite, ite_self, Dev.refreshLevel_mask, Dev.setPwr_mask]; done) | split | (dsimp only; split) | rfl)
theorem Dev.refusePower_mask {T : Nat} (hT : subParts 2236934 T = true) (d : Dev) (cause : ℕ) : (Dev.refusePower d cause).mask T = d.mask T := by
  refine Dev.mask_mono (a := 2236934) ?_ hT
  unfold Dev.refusePower
  repeat' (first | with_reducible rfl | (simp (disch := decide) only [Dev.mask_ite, ite_self, Dev.pulse_mask, Dev.fset_mask]; done) | split | (dsimp only; split) | rfl)
theorem Dev.powerRequest_mask {T : Nat} (hT : subParts 2499078 T = true) (d : Dev) (target : ℕ) : (Dev.powerRequest d target).mask T = d.mask T := by
  refine Dev.mask_mono (a := 2499078) ?_ hT
  unfold Dev.powerRequest
  repeat' (first | with_reducible rfl | (simp (disch := decide) only [Dev.mask_ite, ite_self, Dev.fset_mask, Dev.refusePower_mask, Dev.captureEntry_mask, Dev.setPwr_mask]; done) | split | (dsimp only; split) | rfl)
theorem Dev.writePwr_mask {T : Nat} (hT : subParts 2499102 T = true) (d : Dev) (base : ℕ) (off : ℕ) (v : ℕ) (m : ℕ) : (Dev.writePwr d base off v m).mask T = d.mask T := by
  refine Dev.mask_mono (a := 2499102) ?_ hT
  unfold Dev.writePwr
  repeat' (first | with_reducible rfl | (simp (disch := decide) only [Dev.mask_ite, ite_self, Dev.releasePads_mask, Dev.storeFields_mask, Dev.powerRequest_mask]; done) | split | (dsimp only; split) | rfl)
theorem Dev.writeTim_mask {T : Nat} (hT : subParts 2499102 T = true) (d : Dev) (base : ℕ) (off : ℕ) (v : ℕ) (m : ℕ) : (Dev.writeTim d base off v m).mask T = d.mask T := by
  refine Dev.mask_mono (a := 2499102) ?_ hT
  unfold Dev.writeTim
  repeat' (first | with_reducible rfl | (simp (disch := decide) only [Dev.mask_ite, ite_self, Dev.storeFields_mask, Dev.setTim_mask, Dev.clearCoarse_mask]; done) | split | (dsimp only; split) | rfl)
theorem Dev.softwareEvents_mask {T : Nat} (hT : subParts 2236934 T = true) (d : Dev) (events : BitVec 16) : (Dev.softwareEvents d events).mask T = d.mask T := by
  refine Dev.mask_mono (a := 2236934) ?_ hT
  unfold Dev.softwareEvents
  repeat' (first | with_reducible rfl | (simp (disch := first | decide | (intros; simp (disch := decide) only [Dev.mask_ite, ite_self, Dev.pulse_mask])) only [Dev.mask_foldl, Dev.mask_ite, ite_self, Dev.pulse_mask]; done) | split | (dsimp only; split) | rfl | (refine (Dev.mask_foldl ?_ _ _).trans ?_ <;> try intro d a))
theorem Dev.writeRoute_mask {T : Nat} (hT : subParts 2105886 T = true) (d : Dev) (n : ℕ) (base : ℕ) (off : ℕ) (v : ℕ) (m : ℕ) : (Dev.writeRoute d n base off v m).mask T = d.mask T := by
  refine Dev.mask_mono (a := 2105886) ?_ hT
  unfold Dev.writeRoute
  repeat' (first | with_reducible rfl | (simp (disch := decide) only [Dev.mask_ite, ite_self, Dev.storeFields_mask, Dev.fset_mask, Dev.deliverPending_mask]; done) | split | (dsimp only; split) | rfl)
theorem Dev.clearPend_mask {T : Nat} (hT : subParts 2236934 T = true) (d : Dev) (n : ℕ) : (Dev.clearPend d n).mask T = d.mask T := by
  refine Dev.mask_mono (a := 2236934) ?_ hT
  unfold Dev.clearPend
  repeat' (first | with_reducible rfl | (simp (disch := decide) only [Dev.mask_ite, ite_self, Dev.refreshLevel_mask, Dev.setPend_mask]; done) | split | (dsimp only; split) | rfl)
theorem Dev.clearPendWord_mask {T : Nat} (hT : subParts 2236934 T = true) (d : Dev) (word : ℕ) (mask : Word) : (Dev.clearPendWord d word mask).mask T = d.mask T := by
  refine Dev.mask_mono (a := 2236934) ?_ hT
  unfold Dev.clearPendWord
  repeat' (first | with_reducible rfl | (simp (disch := first | decide | (intros; simp (disch := decide) only [Dev.mask_ite, ite_self, Dev.clearPend_mask])) only [Dev.mask_foldl, Dev.mask_ite, ite_self, Dev.clearPend_mask]; done) | split | (dsimp only; split) | rfl | (refine (Dev.mask_foldl ?_ _ _).trans ?_ <;> try intro d a))
theorem Dev.mailStage_mask {T : Nat} (hT : subParts 590295810358705651712 T = true) (d : Dev) (box : MailEnd) (i : ℕ) (v : ℕ) : (Dev.mailStage d box i v).mask T = d.mask T := by
  refine Dev.mask_mono (a := 590295810358705651712) ?_ hT
  unfold Dev.mailStage
  repeat' (first | with_reducible rfl | (simp (disch := decide) only [Dev.mask_ite, ite_self, Dev.setMailBox_mask]; done) | split | (dsimp only; split) | rfl)
theorem Dev.showMail_mask {T : Nat} (hT : subParts 2236934 T = true) (d : Dev) (box : MailEnd) : (Dev.showMail d box).mask T = d.mask T := by
  refine Dev.mask_mono (a := 2236934) ?_ hT
  unfold Dev.showMail
  repeat' (first | with_reducible rfl | (simp (disch := decide) only [Dev.mask_ite, ite_self, Dev.refreshLevel_mask, Dev.fset_mask]; done) | split | (dsimp only; split) | rfl)
theorem Dev.mailPush_mask {T : Nat} (hT : subParts 590295810358720471558 T = true) (d : Dev) (box : MailEnd) (m : Message) : (Dev.mailPush d box m).mask T = d.mask T := by
  refine Dev.mask_mono (a := 590295810358720471558) ?_ hT
  unfold Dev.mailPush
  repeat' (first | with_reducible rfl | (simp (disch := decide) only [Dev.mask_ite, ite_self, Dev.holdSlice_mask, Dev.showMail_mask, Dev.setMailBox_mask, Dev.sliceInterrupt_mask]; done) | split | (dsimp only; split) | rfl)
theorem Dev.mailFull_mask {T : Nat} (hT : subParts 590295810358707888646 T = true) (d : Dev) (req : Requester) (box : MailEnd) : (Dev.mailFull d req box).mask T = d.mask T := by
  refine Dev.mask_mono (a := 590295810358707888646) ?_ hT
  unfold Dev.mailFull
  repeat' (first | with_reducible rfl | (simp (disch := decide) only [Dev.mask_ite, ite_self, Dev.setMailBox_mask, Dev.aerError_mask, Dev.pulse_mask, Dev.emit_mask]; done) | split | (dsimp only; split) | rfl)
theorem Dev.mailSend_mask {T : Nat} (hT : subParts 590295810358720471558 T = true) (d : Dev) (req : Requester) (box : MailEnd) (pasid : Option ℕ) : (Dev.mailSend d req box pasid).mask T = d.mask T := by
  refine Dev.mask_mono (a := 590295810358720471558) ?_ hT
  unfold Dev.mailSend
  repeat' (first | with_reducible rfl | (simp (disch := decide) only [Dev.mask_ite, ite_self, Dev.mailPush_mask, Dev.mailFull_mask]; done) | split | (dsimp only; split) | rfl)
theorem Dev.setChannel_mask {T : Nat} (hT : subParts 1180591620717411303424 T = true) (d : Dev) (s : ℕ) (c : SliceChannel) : (Dev.setChannel d s c).mask T = d.mask T := by
  refine Dev.mask_mono (a := 1180591620717411303424) ?_ hT
  unfold Dev.setChannel
  repeat' (first | with_reducible rfl | (simp (disch := decide) only [Dev.mask_ite, ite_self, Dev.mask_wel]; done) | split | (dsimp only; split) | rfl)
theorem Dev.oweChunks_mask {T : Nat} (hT : subParts 1180591620717411303424 T = true) (d : Dev) (s : ℕ) (l : List (List ℕ)) : (Dev.oweChunks d s l).mask T = d.mask T := by
  refine Dev.mask_mono (a := 1180591620717411303424) ?_ hT
  unfold Dev.oweChunks
  repeat' (first | with_reducible rfl | (simp (disch := decide) only [Dev.mask_ite, ite_self, Dev.setChannel_mask]; done) | split | (dsimp only; split) | rfl)
theorem Dev.takeChunk_mask {T : Nat} (hT : subParts 1180591620717413540358 T = true) (d : Dev) (s : ℕ) (m : Message) : (Dev.takeChunk d s m).mask T = d.mask T := by
  refine Dev.mask_mono (a := 1180591620717413540358) ?_ hT
  unfold Dev.takeChunk
  repeat' (first | with_reducible rfl | (simp (disch := decide) only [Dev.mask_ite, ite_self, Dev.discardStale_mask, Dev.setChannel_mask, Dev.oweChunks_mask]; done) | split | (dsimp only; split) | rfl)
theorem Dev.mailPop_mask {T : Nat} (hT : subParts 590295810358716277254 T = true) (d : Dev) (box : MailEnd) : (Dev.mailPop d box).mask T = d.mask T := by
  refine Dev.mask_mono (a := 590295810358716277254) ?_ hT
  unfold Dev.mailPop
  repeat' (first | with_reducible rfl | (simp (disch := decide) only [Dev.mask_ite, ite_self, Dev.releaseSlice_mask, Dev.showMail_mask, Dev.setMailBox_mask]; done) | split | (dsimp only; split) | rfl)
theorem Dev.fwAnswer_mask {T : Nat} (hT : subParts 590295810358720471558 T = true) (d : Dev) (c : ℕ) (opcode : ℕ) (tag : ℕ) (code : ℕ) : (Dev.fwAnswer d c opcode tag code).mask T = d.mask T := by
  refine Dev.mask_mono (a := 590295810358720471558) ?_ hT
  unfold Dev.fwAnswer
  repeat' (first | with_reducible rfl | (simp (disch := decide) only [Dev.mask_ite, ite_self, Dev.mailPush_mask]; done) | split | (dsimp only; split) | rfl)
theorem Dev.popEnd_mask {T : Nat} (hT : subParts 1770887431076131774982 T = true) (d : Dev) (box : MailEnd) : (Dev.popEnd d box).mask T = d.mask T := by
  refine Dev.mask_mono (a := 1770887431076131774982) ?_ hT
  unfold Dev.popEnd
  repeat' (first | with_reducible rfl | (simp (disch := decide) only [Dev.mask_ite, ite_self, Dev.takeChunk_mask, Dev.mailPop_mask, Dev.fwAnswer_mask]; done) | split | (dsimp only; split) | rfl)
theorem Dev.writeEnd_mask {T : Nat} (hT : subParts 1770887431076131774982 T = true) (d : Dev) (req : Requester) (addr : ℕ) (c : ℕ) (base : ℕ) (off : ℕ) (v : ℕ) (m : ℕ) : (Dev.writeEnd d req addr c base off v m).mask T = d.mask T := by
  refine Dev.mask_mono (a := 1770887431076131774982) ?_ hT
  unfold Dev.writeEnd
  repeat' (first | with_reducible rfl | (simp (disch := decide) only [Dev.mask_ite, ite_self, Dev.accessError_mask, Dev.accessFault_mask, Dev.mailStage_mask, Dev.mailSend_mask, Dev.popEnd_mask]; done) | split | (dsimp only; split) | rfl)
theorem Dev.journalSelect_mask {T : Nat} (hT : subParts 2 T = true) (d : Dev) (seq : ℕ) : (Dev.journalSelect d seq).mask T = d.mask T := by
  refine Dev.mask_mono (a := 2) ?_ hT
  unfold Dev.journalSelect
  repeat' (first | with_reducible rfl | (simp (disch := first | decide | (intros; simp (disch := decide) only [Dev.mask_ite, ite_self, Dev.fset_mask])) only [Dev.mask_foldl, Dev.mask_ite, ite_self, Dev.fset_mask]; done) | split | (dsimp only; split) | rfl | (refine (Dev.mask_foldl ?_ _ _).trans ?_ <;> try intro d a))
theorem Dev.onWrite_mask {T : Nat} (hT : subParts 2236934 T = true) (d : Dev) (req : Requester) (addr : ℕ) (f : Dev → Dev) (hf : ∀ d, (f d).mask T = d.mask T) : (Dev.onWrite d req addr f).mask T = d.mask T := by
  unfold Dev.onWrite
  repeat' (first | with_reducible rfl | (simp (disch := exact subParts_trans (by decide) hT) only [Dev.mask_ite, ite_self, Dev.accessError_mask, Dev.emit_mask, hf]; done) | split | (dsimp only; split) | rfl)
theorem Dev.svcRequest_mask {T : Nat} (hT : subParts 2236934 T = true) (d : Dev) (req : Requester) (action : ℕ) (code : ℕ) (inst : ℕ) (f : Dev → ℕ × Dev) (hf : ∀ d, (f d).2.mask T = d.mask T) : (Dev.svcRequest d req action code inst f).mask T = d.mask T := by
  unfold Dev.svcRequest
  repeat' (first | with_reducible rfl | (simp (disch := first | exact subParts_trans (by decide) hT | (intros; (repeat' (first | with_reducible rfl | (simp (disch := exact subParts_trans (by decide) hT) only [Dev.mask_ite, ite_self, Dev.onWrite_mask, Dev.fset_mask, hf]; done) | split | (dsimp only; split))))) only [Dev.mask_foldl, Dev.mask_ite, ite_self, Dev.onWrite_mask, Dev.fset_mask, hf]; done) | split | (dsimp only; split) | rfl | (refine (Dev.mask_foldl ?_ _ _).trans ?_ <;> try intro d a))
theorem Dev.setPunty_mask {T : Nat} (hT : subParts 524288 T = true) (d : Dev) (t : ℕ) (p : Punty) : (Dev.setPunty d t p).mask T = d.mask T := by
  refine Dev.mask_mono (a := 524288) ?_ hT
  unfold Dev.setPunty
  repeat' (first | with_reducible rfl | (simp (disch := decide) only [Dev.mask_ite, ite_self, Dev.mask_ft]; done) | split | (dsimp only; split) | rfl)
theorem Dev.svcStart_mask {T : Nat} (hT : subParts 524290 T = true) (d : Dev) (t : ℕ) (n : ℕ) : (Dev.svcStart d t n).mask T = d.mask T := by
  refine Dev.mask_mono (a := 524290) ?_ hT
  unfold Dev.svcStart
  repeat' (first | with_reducible rfl | (simp (disch := decide) only [Dev.mask_ite, ite_self, Dev.fset_mask, Dev.setPunty_mask]; done) | split | (dsimp only; split) | rfl)
theorem Dev.svcOut_mask {T : Nat} (hT : subParts 2761222 T = true) (d : Dev) (req : Requester) (code : ℕ) (inst : ℕ) : (Dev.svcOut d req code inst).mask T = d.mask T := by
  refine Dev.mask_mono (a := 2761222) ?_ hT
  unfold Dev.svcOut
  repeat' (first | with_reducible rfl | (simp (disch := first | decide | (intros; (repeat' (first | with_reducible rfl | (simp (disch := decide) only [Dev.mask_ite, ite_self, Dev.svcRequest_mask, Dev.svcStart_mask]; done) | split | (dsimp only; split))))) only [Dev.mask_foldl, Dev.mask_ite, ite_self, Dev.svcRequest_mask, Dev.svcStart_mask]; done) | split | (dsimp only; split) | rfl | (refine (Dev.mask_foldl ?_ _ _).trans ?_ <;> try intro d a))
theorem Dev.svcBack_mask {T : Nat} (hT : subParts 524290 T = true) (d : Dev) (t : ℕ) : (Dev.svcBack d t).mask T = d.mask T := by
  refine Dev.mask_mono (a := 524290) ?_ hT
  unfold Dev.svcBack
  repeat' (first | with_reducible rfl | (simp (disch := decide) only [Dev.mask_ite, ite_self, Dev.setPunty_mask, Dev.fset_mask]; done) | split | (dsimp only; split) | rfl)
theorem Dev.svcIn_mask {T : Nat} (hT : subParts 2761222 T = true) (d : Dev) (req : Requester) (code : ℕ) (inst : ℕ) : (Dev.svcIn d req code inst).mask T = d.mask T := by
  refine Dev.mask_mono (a := 2761222) ?_ hT
  unfold Dev.svcIn
  repeat' (first | with_reducible rfl | (simp (disch := first | decide | (intros; (repeat' (first | with_reducible rfl | (simp (disch := decide) only [Dev.mask_ite, ite_self, Dev.svcRequest_mask, Dev.svcBack_mask]; done) | split | (dsimp only; split))))) only [Dev.mask_foldl, Dev.mask_ite, ite_self, Dev.svcRequest_mask, Dev.svcBack_mask]; done) | split | (dsimp only; split) | rfl | (refine (Dev.mask_foldl ?_ _ _).trans ?_ <;> try intro d a))
theorem Dev.writeSvc_mask {T : Nat} (hT : subParts 2761222 T = true) (d : Dev) (req : Requester) (v : ℕ) : (Dev.writeSvc d req v).mask T = d.mask T := by
  refine Dev.mask_mono (a := 2761222) ?_ hT
  unfold Dev.writeSvc
  repeat' (first | with_reducible rfl | (simp (disch := decide) only [Dev.mask_ite, ite_self, Dev.svcOut_mask, Dev.svcIn_mask]; done) | split | (dsimp only; split) | rfl)
theorem Dev.setPort_mask {T : Nat} (hT : subParts 33554432 T = true) (d : Dev) (p : ℕ) (v : PortState) : (Dev.setPort d p v).mask T = d.mask T := by
  refine Dev.mask_mono (a := 33554432) ?_ hT
  unfold Dev.setPort
  repeat' (first | with_reducible rfl | (simp (disch := decide) only [Dev.mask_ite, ite_self, Dev.mask_ports]; done) | split | (dsimp only; split) | rfl)
theorem Dev.latchWhen_mask {T : Nat} (hT : subParts 2236934 T = true) (d : Dev) (c : Bool) (p : ℕ) (bit : ℕ) : (Dev.latchWhen d c p bit).mask T = d.mask T := by
  refine Dev.mask_mono (a := 2236934) ?_ hT
  unfold Dev.latchWhen
  repeat' (first | with_reducible rfl | (simp (disch := decide) only [Dev.mask_ite, ite_self, Dev.latchFault_mask]; done) | split | (dsimp only; split) | rfl)
theorem Dev.portEnd_mask {T : Nat} (hT : subParts 35791366 T = true) (d : Dev) (i : PortInfo) (code : ℕ) : (Dev.portEnd d i code).mask T = d.mask T := by
  refine Dev.mask_mono (a := 35791366) ?_ hT
  unfold Dev.portEnd
  repeat' (first | with_reducible rfl | (simp (disch := decide) only [Dev.mask_ite, ite_self, Dev.fset_mask, Dev.setPort_mask, Dev.latchWhen_mask, Dev.pulse_mask]; done) | split | (dsimp only; split) | rfl)
theorem Dev.portStart_mask {T : Nat} (hT : subParts 35791366 T = true) (d : Dev) (i : PortInfo) (req : Requester) : (Dev.portStart d i req).mask T = d.mask T := by
  refine Dev.mask_mono (a := 35791366) ?_ hT
  unfold Dev.portStart
  repeat' (first | with_reducible rfl | (simp (disch := first | decide | (intros; simp (disch := decide) only [Dev.mask_ite, ite_self, Dev.fset_mask, Dev.setPort_mask, Dev.portEnd_mask])) only [Dev.mask_foldl, Dev.mask_ite, ite_self, Dev.fset_mask, Dev.setPort_mask, Dev.portEnd_mask]; done) | split | (dsimp only; split) | rfl | (refine (Dev.mask_foldl ?_ _ _).trans ?_ <;> try intro d a))
theorem Dev.portGo_mask {T : Nat} (hT : subParts 35791366 T = true) (d : Dev) (i : PortInfo) (req : Requester) : (Dev.portGo d i req).mask T = d.mask T := by
  refine Dev.mask_mono (a := 35791366) ?_ hT
  unfold Dev.portGo
  repeat' (first | with_reducible rfl | (simp (disch := decide) only [Dev.mask_ite, ite_self, Dev.portStart_mask, Dev.setPort_mask]; done) | split | (dsimp only; split) | rfl)
theorem Dev.writePort_mask {T : Nat} (hT : subParts 35791366 T = true) (d : Dev) (req : Requester) (k : PageKind) (i : PortInfo) (v : ℕ) : (Dev.writePort d req k i v).mask T = d.mask T := by
  refine Dev.mask_mono (a := 35791366) ?_ hT
  unfold Dev.writePort
  repeat' (first | with_reducible rfl | (simp (disch := decide) only [Dev.mask_ite, ite_self, Dev.setPort_mask, Dev.portGo_mask]; done) | split | (dsimp only; split) | rfl)
theorem Dev.writeSlc_mask {T : Nat} (hT : subParts 35791390 T = true) (d : Dev) (req : Requester) (addr : ℕ) (base : ℕ) (off : ℕ) (v : ℕ) (m : ℕ) : (Dev.writeSlc d req addr base off v m).mask T = d.mask T := by
  refine Dev.mask_mono (a := 35791390) ?_ hT
  unfold Dev.writeSlc
  repeat' (first | with_reducible rfl | (simp (disch := decide) only [Dev.mask_ite, ite_self, Dev.storeFields_mask, Dev.accessError_mask, Dev.accessFault_mask, Dev.writePort_mask]; done) | split | (dsimp only; split) | rfl)
theorem Dev.snapshotMac_mask {T : Nat} (hT : subParts 9223372036854775814 T = true) (d : Dev) (m : ℕ) : (Dev.snapshotMac d m).mask T = d.mask T := by
  refine Dev.mask_mono (a := 9223372036854775814) ?_ hT
  unfold Dev.snapshotMac
  repeat' (first | with_reducible rfl | (simp (disch := first | decide | (intros; simp (disch := decide) only [Dev.mask_ite, ite_self, Dev.setMac_mask, Dev.addPaused_mask, Dev.wset_mask, Dev.count_mask])) only [Dev.mask_foldl, Dev.mask_ite, ite_self, Dev.setMac_mask, Dev.addPaused_mask, Dev.wset_mask, Dev.count_mask]; done) | split | (dsimp only; split) | rfl | (refine (Dev.mask_foldl ?_ _ _).trans ?_ <;> try intro d a))
theorem Dev.fsetP_mask {T : Nat} (hT : subParts 26 T = true) (d : Dev) (p : ℕ) (f : Fld) (v : ℕ) : (Dev.fsetP d p f v).mask T = d.mask T := by
  refine Dev.mask_mono (a := 26) ?_ hT
  unfold Dev.fsetP
  repeat' (first | with_reducible rfl | (simp (disch := decide) only [Dev.mask_ite, ite_self, Dev.setParity_mask, Dev.fset_mask]; done) | split | (dsimp only; split) | rfl)
theorem Dev.setTxBase_mask {T : Nat} (hT : subParts 26 T = true) (d : Dev) (m : ℕ) (v : ℕ) : (Dev.setTxBase d m v).mask T = d.mask T := by
  refine Dev.mask_mono (a := 26) ?_ hT
  unfold Dev.setTxBase
  repeat' (first | with_reducible rfl | (simp (disch := decide) only [Dev.mask_ite, ite_self, Dev.fset_mask, Dev.fsetP_mask]; done) | split | (dsimp only; split) | rfl)
theorem Dev.writeMac_mask {T : Nat} (hT : subParts 9223372036857012766 T = true) (d : Dev) (n : ℕ) (base : ℕ) (off : ℕ) (v : ℕ) (m : ℕ) : (Dev.writeMac d n base off v m).mask T = d.mask T := by
  refine Dev.mask_mono (a := 9223372036857012766) ?_ hT
  unfold Dev.writeMac
  repeat' (first | with_reducible rfl | (simp (disch := decide) only [Dev.mask_ite, ite_self, Dev.pulse_mask, Dev.snapshotMac_mask, Dev.storeFields_mask, Dev.setTxBase_mask]; done) | split | (dsimp only; split) | rfl)
theorem Dev.writeMode_mask {T : Nat} (hT : subParts 2236958 T = true) (d : Dev) (g : ℕ) (mode : ℕ) : (Dev.writeMode d g mode).mask T = d.mask T := by
  refine Dev.mask_mono (a := 2236958) ?_ hT
  unfold Dev.writeMode
  repeat' (first | with_reducible rfl | (simp (disch := decide) only [Dev.mask_ite, ite_self, Dev.fset_mask, Dev.fsetP_mask, Dev.accessFault_mask, Dev.latchFault_mask]; done) | split | (dsimp only; split) | rfl)
theorem Dev.startTwi_mask {T : Nat} (hT : subParts 35791366 T = true) (d : Dev) (req : Requester) (g : ℕ) : (Dev.startTwi d req g).mask T = d.mask T := by
  refine Dev.mask_mono (a := 35791366) ?_ hT
  unfold Dev.startTwi
  repeat' (first | with_reducible rfl | (simp (disch := decide) only [Dev.mask_ite, ite_self, Dev.accessFault_mask, Dev.emit_mask, Dev.setPort_mask, Dev.fset_mask]; done) | split | (dsimp only; split) | rfl)
theorem Dev.writePcs_mask {T : Nat} (hT : subParts 35791390 T = true) (d : Dev) (req : Requester) (g : ℕ) (base : ℕ) (off : ℕ) (v : ℕ) (m : ℕ) : (Dev.writePcs d req g base off v m).mask T = d.mask T := by
  refine Dev.mask_mono (a := 35791390) ?_ hT
  unfold Dev.writePcs
  repeat' (first | with_reducible rfl | (simp (disch := decide) only [Dev.mask_ite, ite_self, Dev.storeFields_mask, Dev.writeMode_mask, Dev.accessFault_mask, Dev.fset_mask, Dev.startTwi_mask]; done) | split | (dsimp only; split) | rfl)
theorem Dev.snapshotAll_mask {T : Nat} (hT : subParts 9223372036857012742 T = true) (d : Dev) : (Dev.snapshotAll d).mask T = d.mask T := by
  refine Dev.mask_mono (a := 9223372036857012742) ?_ hT
  unfold Dev.snapshotAll
  repeat' (first | with_reducible rfl | (simp (disch := first | decide | (intros; simp (disch := decide) only [Dev.mask_ite, ite_self, Dev.accessFault_mask, Dev.pulse_mask, Dev.count_mask, Dev.snapshotMac_mask])) only [Dev.mask_foldl, Dev.mask_ite, ite_self, Dev.accessFault_mask, Dev.pulse_mask, Dev.count_mask, Dev.snapshotMac_mask]; done) | split | (dsimp only; split) | rfl | (refine (Dev.mask_foldl ?_ _ _).trans ?_ <;> try intro d a))
theorem Dev.gateGaf_mask {T : Nat} (hT : subParts 2236934 T = true) (d : Dev) (c : ℕ) (gate : Bool) : (Dev.gateGaf d c gate).mask T = d.mask T := by
  refine Dev.mask_mono (a := 2236934) ?_ hT
  unfold Dev.gateGaf
  repeat' (first | with_reducible rfl | (simp (disch := decide) only [Dev.mask_ite, ite_self, Dev.pulse_mask, Dev.setPwr_mask]; done) | split | (dsimp only; split) | rfl)
theorem Dev.setStoreWord_mask {T : Nat} (hT : subParts 67108864 T = true) (d : Dev) (u : ℕ) (b : ℕ) (w : ℕ) (v : Word) : (Dev.setStoreWord d u b w v).mask T = d.mask T := by
  refine Dev.mask_mono (a := 67108864) ?_ hT
  unfold Dev.setStoreWord
  repeat' (first | with_reducible rfl | (simp (disch := decide) only [Dev.mask_ite, ite_self, Dev.mask_store]; done) | split | (dsimp only; split) | rfl)
theorem Dev.storeWrite_mask {T : Nat} (hT : subParts 203563526 T = true) (d : Dev) (n : ℕ) (v : Word) : (Dev.storeWrite d n v).mask T = d.mask T := by
  refine Dev.mask_mono (a := 203563526) ?_ hT
  unfold Dev.storeWrite
  repeat' (first | with_reducible rfl | (simp (disch := decide) only [Dev.mask_ite, ite_self, Dev.mask_crcBusy, Dev.gateGaf_mask, Dev.fset_mask, Dev.setStoreWord_mask, Dev.accessFault_mask, Dev.nextStoreWord_mask]; done) | split | (dsimp only; split) | rfl)
theorem Dev.storeRead_mask {T : Nat} (hT : subParts 2 T = true) (d : Dev) (n : ℕ) : (Dev.storeRead d n).2.mask T = d.mask T := by
  refine Dev.mask_mono (a := 2) ?_ hT
  unfold Dev.storeRead
  repeat' (first | with_reducible rfl | (simp (disch := decide) only [Dev.mask_ite, ite_self, Dev.nextStoreWord_mask]; done) | split | (dsimp only; split) | rfl)
theorem Dev.requestFlip_mask {T : Nat} (hT : subParts 8589934594 T = true) (d : Dev) : (Dev.requestFlip d).mask T = d.mask T := by
  refine Dev.mask_mono (a := 8589934594) ?_ hT
  unfold Dev.requestFlip
  repeat' (first | with_reducible rfl | (simp (disch := decide) only [Dev.mask_ite, ite_self, Dev.mask_flips, Dev.fset_mask]; done) | split | (dsimp only; split) | rfl)
theorem Dev.clampCredit_mask {T : Nat} (hT : subParts 1099513864710 T = true) (d : Dev) : (Dev.clampCredit d).mask T = d.mask T := by
  refine Dev.mask_mono (a := 1099513864710) ?_ hT
  unfold Dev.clampCredit
  repeat' (first | with_reducible rfl | (simp (disch := decide) only [Dev.mask_ite, ite_self, Dev.setCredit_mask]; done) | split | (dsimp only; split) | rfl)
theorem Dev.refuseBatch_mask {T : Nat} (hT : subParts 2236934 T = true) (d : Dev) (b : ℕ) (cause : ℕ) : (Dev.refuseBatch d b cause).mask T = d.mask T := by
  refine Dev.mask_mono (a := 2236934) ?_ hT
  unfold Dev.refuseBatch
  repeat' (first | with_reducible rfl | (simp (disch := decide) only [Dev.mask_ite, ite_self, Dev.fset_mask, Dev.pulse_mask, Dev.latchFault_mask]; done) | split | (dsimp only; split) | rfl)
theorem Dev.setBatchState_mask {T : Nat} (hT : subParts 2 T = true) (d : Dev) (b : ℕ) (st : ℕ) : (Dev.setBatchState d b st).mask T = d.mask T := by
  refine Dev.mask_mono (a := 2) ?_ hT
  unfold Dev.setBatchState
  repeat' (first | with_reducible rfl | (simp (disch := decide) only [Dev.mask_ite, ite_self, Dev.fset_mask]; done) | split | (dsimp only; split) | rfl)
theorem Dev.swapBatch_mask {T : Nat} (hT : subParts 2236934 T = true) (d : Dev) (b : ℕ) : (Dev.swapBatch d b).mask T = d.mask T := by
  refine Dev.mask_mono (a := 2236934) ?_ hT
  unfold Dev.swapBatch
  repeat' (first | with_reducible rfl | (simp (disch := decide) only [Dev.mask_ite, ite_self, Dev.refuseBatch_mask, Dev.setBatchState_mask, Dev.fset_mask]; done) | split | (dsimp only; split) | rfl)
theorem Dev.unstageBatch_mask {T : Nat} (hT : subParts 2236934 T = true) (d : Dev) (b : ℕ) : (Dev.unstageBatch d b).mask T = d.mask T := by
  refine Dev.mask_mono (a := 2236934) ?_ hT
  unfold Dev.unstageBatch
  repeat' (first | with_reducible rfl | (simp (disch := decide) only [Dev.mask_ite, ite_self, Dev.setBatchState_mask, Dev.refuseBatch_mask]; done) | split | (dsimp only; split) | rfl)
theorem Dev.stageBatch_mask {T : Nat} (hT : subParts 2236934 T = true) (d : Dev) (b : ℕ) : (Dev.stageBatch d b).mask T = d.mask T := by
  refine Dev.mask_mono (a := 2236934) ?_ hT
  unfold Dev.stageBatch
  repeat' (first | with_reducible rfl | (simp (disch := decide) only [Dev.mask_ite, ite_self, Dev.refuseBatch_mask, Dev.setBatchState_mask]; done) | split | (dsimp only; split) | rfl)
theorem Dev.writeStage_mask {T : Nat} (hT : subParts 2236934 T = true) (d : Dev) (v : ℕ) : (Dev.writeStage d v).mask T = d.mask T := by
  refine Dev.mask_mono (a := 2236934) ?_ hT
  unfold Dev.writeStage
  repeat' (first | with_reducible rfl | (simp (disch := decide) only [Dev.mask_ite, ite_self, Dev.unstageBatch_mask, Dev.stageBatch_mask]; done) | split | (dsimp only; split) | rfl)
theorem Dev.clearRetired_mask {T : Nat} (hT : subParts 2 T = true) (d : Dev) (b : ℕ) : (Dev.clearRetired d b).mask T = d.mask T := by
  refine Dev.mask_mono (a := 2) ?_ hT
  unfold Dev.clearRetired
  repeat' (first | with_reducible rfl | (simp (disch := decide) only [Dev.mask_ite, ite_self, Dev.fset_mask, Dev.setBatchState_mask]; done) | split | (dsimp only; split) | rfl)
theorem Dev.clearRetiredMask_mask {T : Nat} (hT : subParts 2 T = true) (d : Dev) (mask : ℕ) : (Dev.clearRetiredMask d mask).mask T = d.mask T := by
  refine Dev.mask_mono (a := 2) ?_ hT
  unfold Dev.clearRetiredMask
  repeat' (first | with_reducible rfl | (simp (disch := first | decide | (intros; simp (disch := decide) only [Dev.mask_ite, ite_self, Dev.clearRetired_mask])) only [Dev.mask_foldl, Dev.mask_ite, ite_self, Dev.clearRetired_mask]; done) | split | (dsimp only; split) | rfl | (refine (Dev.mask_foldl ?_ _ _).trans ?_ <;> try intro d a))
theorem Dev.writeClsg_mask {T : Nat} (hT : subParts 2236958 T = true) (d : Dev) (base : ℕ) (off : ℕ) (v : ℕ) (m : ℕ) : (Dev.writeClsg d base off v m).mask T = d.mask T := by
  refine Dev.mask_mono (a := 2236958) ?_ hT
  unfold Dev.writeClsg
  repeat' (first | with_reducible rfl | (simp (disch := decide) only [Dev.mask_ite, ite_self, Dev.storeFields_mask, Dev.swapBatch_mask, Dev.writeStage_mask, Dev.clearRetiredMask_mask, Dev.accessFault_mask]; done) | split | (dsimp only; split) | rfl)
theorem Dev.writeNoteCons_mask {T : Nat} (hT : subParts 2236934 T = true) (d : Dev) (v : ℕ) : (Dev.writeNoteCons d v).mask T = d.mask T := by
  refine Dev.mask_mono (a := 2236934) ?_ hT
  unfold Dev.writeNoteCons
  repeat' (first | with_reducible rfl | (simp (disch := decide) only [Dev.mask_ite, ite_self, Dev.fset_mask, Dev.accessFault_mask]; done) | split | (dsimp only; split) | rfl)
theorem Dev.setSched_mask {T : Nat} (hT : subParts 2305843009213693952 T = true) (d : Dev) (m : ℕ) (v : Sched) : (Dev.setSched d m v).mask T = d.mask T := by
  refine Dev.mask_mono (a := 2305843009213693952) ?_ hT
  unfold Dev.setSched
  repeat' (first | with_reducible rfl | (simp (disch := decide) only [Dev.mask_ite, ite_self, Dev.mask_sched]; done) | split | (dsimp only; split) | rfl)
theorem Dev.refillPort_mask {T : Nat} (hT : subParts 2305843009213693952 T = true) (d : Dev) (m : ℕ) : (Dev.refillPort d m).mask T = d.mask T := by
  refine Dev.mask_mono (a := 2305843009213693952) ?_ hT
  unfold Dev.refillPort
  repeat' (first | with_reducible rfl | (simp (disch := first | decide | (intros; simp (disch := decide) only [Dev.mask_ite, ite_self, Dev.setSched_mask])) only [Dev.mask_foldl, Dev.mask_ite, ite_self, Dev.setSched_mask]; done) | split | (dsimp only; split) | rfl | (refine (Dev.mask_foldl ?_ _ _).trans ?_ <;> try intro d a))
theorem Dev.writeTraceCons_mask {T : Nat} (hT : subParts 2236934 T = true) (d : Dev) (v : ℕ) : (Dev.writeTraceCons d v).mask T = d.mask T := by
  refine Dev.mask_mono (a := 2236934) ?_ hT
  unfold Dev.writeTraceCons
  repeat' (first | with_reducible rfl | (simp (disch := decide) only [Dev.mask_ite, ite_self, Dev.fset_mask, Dev.accessFault_mask]; done) | split | (dsimp only; split) | rfl)
theorem Dev.dropDoorbell_mask {T : Nat} (hT : subParts 2236934 T = true) (d : Dev) : (Dev.dropDoorbell d).mask T = d.mask T := by
  refine Dev.mask_mono (a := 2236934) ?_ hT
  unfold Dev.dropDoorbell
  repeat' (first | with_reducible rfl | (simp (disch := decide) only [Dev.mask_ite, ite_self, Dev.pulse_mask, Dev.count_mask]; done) | split | (dsimp only; split) | rfl)
theorem Dev.closedWrite_mask {T : Nat} (hT : subParts 2236934 T = true) (d : Dev) (req : Requester) (addr : ℕ) : (Dev.closedWrite d req addr).mask T = d.mask T := by
  refine Dev.mask_mono (a := 2236934) ?_ hT
  unfold Dev.closedWrite
  repeat' (first | with_reducible rfl | (simp (disch := decide) only [Dev.mask_ite, ite_self, Dev.accessError_mask, Dev.accessFault_mask]; done) | split | (dsimp only; split) | rfl)
theorem Dev.commandQueue_mask {T : Nat} (hT : subParts 2236934 T = true) (d : Dev) (req : Option Requester) (q : ℕ) (f : Dev → Dev) (hf : ∀ d, (f d).mask T = d.mask T) : (Dev.commandQueue d req q f).mask T = d.mask T := by
  unfold Dev.commandQueue
  repeat' (first | with_reducible rfl | (simp (disch := first | exact subParts_trans (by decide) hT | (intros; (repeat' (first | with_reducible rfl | (simp (disch := exact subParts_trans (by decide) hT) only [Dev.mask_ite, ite_self, Dev.dropDoorbell_mask, Dev.onWrite_mask, Dev.count_mask, Dev.closedWrite_mask, hf]; done) | split | (dsimp only; split))))) only [Dev.mask_foldl, Dev.mask_ite, ite_self, Dev.dropDoorbell_mask, Dev.onWrite_mask, Dev.count_mask, Dev.closedWrite_mask, hf]; done) | split | (dsimp only; split) | rfl | (refine (Dev.mask_foldl ?_ _ _).trans ?_ <;> try intro d a))
theorem Dev.recordEnable_mask {T : Nat} (hT : subParts 16777216 T = true) (d : Dev) (req : Option Requester) (q : ℕ) (b : Bool) : (Dev.recordEnable d req q b).mask T = d.mask T := by
  refine Dev.mask_mono (a := 16777216) ?_ hT
  unfold Dev.recordEnable
  repeat' (first | with_reducible rfl | (simp (disch := decide) only [Dev.mask_ite, ite_self, Dev.setQueue_mask]; done) | split | (dsimp only; split) | rfl)
theorem Dev.ignoreCommand_mask {T : Nat} (hT : subParts 2236934 T = true) (d : Dev) : (Dev.ignoreCommand d).mask T = d.mask T := by
  refine Dev.mask_mono (a := 2236934) ?_ hT
  unfold Dev.ignoreCommand
  repeat' (first | with_reducible rfl | (simp (disch := decide) only [Dev.mask_ite, ite_self, Dev.pulse_mask, Dev.count_mask]; done) | split | (dsimp only; split) | rfl)
theorem Dev.resetQueue_mask {T : Nat} (hT : subParts 405828607133329007142 T = true) (d : Dev) (q : ℕ) : (Dev.resetQueue d q).mask T = d.mask T := by
  refine Dev.mask_mono (a := 405828607133329007142) ?_ hT
  unfold Dev.resetQueue
  repeat' (first | with_reducible rfl | (simp (disch := decide) only [Dev.mask_ite, ite_self, Dev.beginStop_mask, Dev.settle_mask, Dev.setQState_mask, Dev.setQGen_mask, Dev.setQueue_mask, Dev.ignoreCommand_mask]; done) | split | (dsimp only; split) | rfl)
theorem Dev.resumeQueue_mask {T : Nat} (hT : subParts 19014182 T = true) (d : Dev) (q : ℕ) : (Dev.resumeQueue d q).mask T = d.mask T := by
  refine Dev.mask_mono (a := 19014182) ?_ hT
  unfold Dev.resumeQueue
  repeat' (first | with_reducible rfl | (simp (disch := decide) only [Dev.mask_ite, ite_self, Dev.setQState_mask, Dev.ignoreCommand_mask]; done) | split | (dsimp only; split) | rfl)
theorem Dev.startQueue_mask {T : Nat} (hT : subParts 19014182 T = true) (d : Dev) (q : ℕ) : (Dev.startQueue d q).mask T = d.mask T := by
  refine Dev.mask_mono (a := 19014182) ?_ hT
  unfold Dev.startQueue
  repeat' (first | with_reducible rfl | (simp (disch := decide) only [Dev.mask_ite, ite_self, Dev.setQState_mask, Dev.ignoreCommand_mask]; done) | split | (dsimp only; split) | rfl)
theorem Dev.stopQueue_mask {T : Nat} (hT : subParts 405828607133329007142 T = true) (d : Dev) (q : ℕ) : (Dev.stopQueue d q).mask T = d.mask T := by
  refine Dev.mask_mono (a := 405828607133329007142) ?_ hT
  unfold Dev.stopQueue
  repeat' (first | with_reducible rfl | (simp (disch := decide) only [Dev.mask_ite, ite_self, Dev.beginStop_mask, Dev.ignoreCommand_mask]; done) | split | (dsimp only; split) | rfl)
theorem Dev.writeQctl_mask {T : Nat} (hT : subParts 405828607133329007142 T = true) (d : Dev) (req : Requester) (v : ℕ) (m : ℕ) : (Dev.writeQctl d req v m).mask T = d.mask T := by
  refine Dev.mask_mono (a := 405828607133329007142) ?_ hT
  unfold Dev.writeQctl
  repeat' (first | with_reducible rfl | (simp (disch := first | decide | (intros; (repeat' (first | with_reducible rfl | (simp (disch := decide) only [Dev.mask_ite, ite_self, Dev.commandQueue_mask, Dev.recordEnable_mask, Dev.resetQueue_mask, Dev.resumeQueue_mask, Dev.startQueue_mask, Dev.stopQueue_mask]; done) | split | (dsimp only; split))))) only [Dev.mask_foldl, Dev.mask_ite, ite_self, Dev.commandQueue_mask, Dev.recordEnable_mask, Dev.resetQueue_mask, Dev.resumeQueue_mask, Dev.startQueue_mask, Dev.stopQueue_mask]; done) | split | (dsimp only; split) | rfl | (refine (Dev.mask_foldl ?_ _ _).trans ?_ <;> try intro d a))
theorem Dev.moverStop_mask {T : Nat} (hT : subParts 24578 T = true) (d : Dev) (m : ℕ) : (Dev.moverStop d m).mask T = d.mask T := by
  refine Dev.mask_mono (a := 24578) ?_ hT
  unfold Dev.moverStop
  repeat' (first | with_reducible rfl | (simp (disch := decide) only [Dev.mask_ite, ite_self, Dev.releasePorts_mask, Dev.setMover_mask, Dev.setMoverState_mask]; done) | split | (dsimp only; split) | rfl)
theorem Dev.moverGo_mask {T : Nat} (hT : subParts 8194 T = true) (d : Dev) (m : ℕ) : (Dev.moverGo d m).mask T = d.mask T := by
  refine Dev.mask_mono (a := 8194) ?_ hT
  unfold Dev.moverGo
  repeat' (first | with_reducible rfl | (simp (disch := decide) only [Dev.mask_ite, ite_self, Dev.count_mask, Dev.startChain_mask]; done) | split | (dsimp only; split) | rfl)
theorem Dev.writeMover_mask {T : Nat} (hT : subParts 24578 T = true) (d : Dev) (n : ℕ) (v : ℕ) : (Dev.writeMover d n v).mask T = d.mask T := by
  refine Dev.mask_mono (a := 24578) ?_ hT
  unfold Dev.writeMover
  repeat' (first | with_reducible rfl | (simp (disch := decide) only [Dev.mask_ite, ite_self, Dev.moverStop_mask, Dev.moverGo_mask]; done) | split | (dsimp only; split) | rfl)
theorem Dev.failDevice_mask {T : Nat} (hT : subParts 2826758 T = true) (d : Dev) (n : ℕ) (cause : ℕ) : (Dev.failDevice d n cause).mask T = d.mask T := by
  refine Dev.mask_mono (a := 2826758) ?_ hT
  unfold Dev.failDevice
  repeat' (first | with_reducible rfl | (simp (disch := decide) only [Dev.mask_ite, ite_self, Dev.setFt_mask, Dev.latchFault_mask, Dev.pulse_mask, Dev.journalAdd_mask]; done) | split | (dsimp only; split) | rfl)
theorem Dev.cpxReturn_mask {T : Nat} (hT : subParts 2 T = true) (d : Dev) (p : ℕ) : (Dev.cpxReturn d p).mask T = d.mask T := by
  refine Dev.mask_mono (a := 2) ?_ hT
  unfold Dev.cpxReturn
  repeat' (first | with_reducible rfl | (simp (disch := decide) only [Dev.mask_ite, ite_self, Dev.fset_mask]; done) | split | (dsimp only; split) | rfl)
theorem Dev.writeBody_mask {T : Nat} (hT : subParts 2361183241434822599294 T = true) (d : Dev) (req : Requester) (addr : ℕ) (k : PageKind) (n : ℕ) (base : ℕ) (off : ℕ) (v : ℕ) (m : ℕ) : (Dev.writeBody d req addr k n base off v m).mask T = d.mask T := by
  refine Dev.mask_mono (a := 2361183241434822599294) ?_ hT
  unfold Dev.writeBody
  repeat' (first | with_reducible rfl | (simp (disch := decide) only [Dev.mask_ite, ite_self, Dev.storeFields_mask, Dev.writeRst_mask, Dev.writePwr_mask, Dev.writeTim_mask, Dev.softwareEvents_mask, Dev.writeRoute_mask, Dev.clearPendWord_mask, Dev.binUnmask_mask, Dev.writeEnd_mask, Dev.journalSelect_mask, Dev.writeSvc_mask, Dev.writePort_mask, Dev.writeSlc_mask, Dev.writeMac_mask, Dev.writePcs_mask, Dev.snapshotAll_mask, Dev.storeWrite_mask, Dev.storeRead_mask, Dev.requestFlip_mask, Dev.clampCredit_mask, Dev.writeClsg_mask, Dev.writeNoteCons_mask, Dev.refillPort_mask, Dev.refillHost_mask, Dev.writeTraceCons_mask, Dev.wr_mask, Dev.writeQctl_mask, Dev.writeMover_mask, Dev.failDevice_mask, Dev.cpxReturn_mask]; done) | split | (dsimp only; split) | rfl)
theorem Dev.writeReg_mask {T : Nat} (hT : subParts 2361183241434822599294 T = true) (d : Dev) (req : Requester) (addr : ℕ) (k : PageKind) (n : ℕ) (base : ℕ) (off : ℕ) (v : ℕ) (m : ℕ) : (Dev.writeReg d req addr k n base off v m).mask T = d.mask T := by
  refine Dev.mask_mono (a := 2361183241434822599294) ?_ hT
  unfold Dev.writeReg
  repeat' (first | with_reducible rfl | (simp (disch := decide) only [Dev.mask_ite, ite_self, Dev.writeHeader_mask, Dev.accessError_mask, Dev.accessFault_mask, Dev.writeBody_mask]; done) | split | (dsimp only; split) | rfl)
theorem Dev.forwardWrite_mask {T : Nat} (hT : subParts 2361183241434822599294 T = true) (d : Dev) (req : Requester) (addr : ℕ) (p : ℕ) (v : ℕ) (m : ℕ) : (Dev.forwardWrite d req addr p v m).mask T = d.mask T := by
  refine Dev.mask_mono (a := 2361183241434822599294) ?_ hT
  unfold Dev.forwardWrite
  repeat' (first | with_reducible rfl | (simp (disch := decide) only [Dev.mask_ite, ite_self, Dev.accessFault_mask, Dev.writeReg_mask]; done) | split | (dsimp only; split) | rfl)
theorem Dev.broadcastWrite_mask {T : Nat} (hT : subParts 2361183241434822599294 T = true) (d : Dev) (req : Requester) (addr : ℕ) (v : ℕ) (m : ℕ) : (Dev.broadcastWrite d req addr v m).mask T = d.mask T := by
  refine Dev.mask_mono (a := 2361183241434822599294) ?_ hT
  unfold Dev.broadcastWrite
  repeat' (first | with_reducible rfl | (simp (disch := first | decide | (intros; simp (disch := decide) only [Dev.mask_ite, ite_self, Dev.setParity_mask, Dev.wr_mask, Dev.checkMasks_mask, Dev.forwardWrite_mask])) only [Dev.mask_foldl, Dev.mask_ite, ite_self, Dev.setParity_mask, Dev.wr_mask, Dev.checkMasks_mask, Dev.forwardWrite_mask]; done) | split | (dsimp only; split) | rfl | (refine (Dev.mask_foldl ?_ _ _).trans ?_ <;> try intro d a))
theorem Dev.setCache_mask {T : Nat} (hT : subParts 73786976294838206464 T = true) (d : Dev) (unit : ℕ) (c : List CacheEntry) : (Dev.setCache d unit c).mask T = d.mask T := by
  refine Dev.mask_mono (a := 73786976294838206464) ?_ hT
  unfold Dev.setCache
  repeat' (first | with_reducible rfl | (simp (disch := decide) only [Dev.mask_ite, ite_self, Dev.setLehr_mask]; done) | split | (dsimp only; split) | rfl)
theorem Dev.cachePut_mask {T : Nat} (hT : subParts 73786976294838206464 T = true) (d : Dev) (unit : ℕ) (e : CacheEntry) : (Dev.cachePut d unit e).mask T = d.mask T := by
  refine Dev.mask_mono (a := 73786976294838206464) ?_ hT
  unfold Dev.cachePut
  repeat' (first | with_reducible rfl | (simp (disch := decide) only [Dev.mask_ite, ite_self, Dev.setCache_mask]; done) | split | (dsimp only; split) | rfl)
theorem Dev.cageFault_mask {T : Nat} (hT : subParts 64563841769685525022 T = true) (d : Dev) (g : ℕ) : (Dev.cageFault d g).mask T = d.mask T := by
  refine Dev.mask_mono (a := 64563841769685525022) ?_ hT
  unfold Dev.cageFault
  repeat' (first | with_reducible rfl | (simp (disch := decide) only [Dev.mask_ite, ite_self, Dev.latchFault_mask, Dev.fset_mask, Dev.fsetP_mask, Dev.pulse_mask, Dev.dropMacs_mask]; done) | split | (dsimp only; split) | rfl)
theorem Dev.cellUe_mask {T : Nat} (hT : subParts 36893708066935153158 T = true) (d : Dev) (h : ℕ) : (Dev.cellUe d h).mask T = d.mask T := by
  refine Dev.mask_mono (a := 36893708066935153158) ?_ hT
  unfold Dev.cellUe
  repeat' (first | with_reducible rfl | (simp (disch := decide) only [Dev.mask_ite, ite_self, Dev.dropPacket_mask, Dev.latchFault_mask, Dev.countSat_mask]; done) | split | (dsimp only; split) | rfl)
theorem Dev.changePresence_mask {T : Nat} (hT : subParts 64563841769685524998 T = true) (d : Dev) (g : ℕ) (present : Bool) : (Dev.changePresence d g present).mask T = d.mask T := by
  refine Dev.mask_mono (a := 64563841769685524998) ?_ hT
  unfold Dev.changePresence
  repeat' (first | with_reducible rfl | (simp (disch := decide) only [Dev.mask_ite, ite_self, Dev.latchFault_mask, Dev.fset_mask, Dev.pulse_mask, Dev.dropMacs_mask]; done) | split | (dsimp only; split) | rfl)
theorem Dev.chargePort_mask {T : Nat} (hT : subParts 2305843009213693952 T = true) (d : Dev) (m : ℕ) (t : ℕ) (len : ℕ) : (Dev.chargePort d m t len).mask T = d.mask T := by
  refine Dev.mask_mono (a := 2305843009213693952) ?_ hT
  unfold Dev.chargePort
  repeat' (first | with_reducible rfl | (simp (disch := decide) only [Dev.mask_ite, ite_self, Dev.setSched_mask]; done) | split | (dsimp only; split) | rfl)
theorem Dev.charterChanged_mask {T : Nat} (hT : subParts 2236934 T = true) (r : ℕ × Dev) :
    (Dev.charterChanged r).2.mask T = r.2.mask T := by
  unfold Dev.charterChanged
  split
  · exact Dev.pulse_mask (subParts_trans (by decide) hT) _ _
  · rfl
theorem Dev.checkFlip_mask {T : Nat} (hT : subParts 8592171526 T = true) (d : Dev) : (Dev.checkFlip d).mask T = d.mask T := by
  refine Dev.mask_mono (a := 8592171526) ?_ hT
  unfold Dev.checkFlip
  repeat' (first | with_reducible rfl | (simp (disch := decide) only [Dev.mask_ite, ite_self, Dev.mask_flips, Dev.fset_mask, Dev.pulse_mask, Dev.latchFault_mask]; done) | split | (dsimp only; split) | rfl)
theorem Dev.countJob_mask {T : Nat} (hT : subParts 2 T = true) (d : Dev) (code : ℕ) : (Dev.countJob d code).mask T = d.mask T := by
  refine Dev.mask_mono (a := 2) ?_ hT
  unfold Dev.countJob
  repeat' (first | with_reducible rfl | (simp (disch := decide) only [Dev.mask_ite, ite_self, Dev.count_mask, Dev.countSat_mask]; done) | split | (dsimp only; split) | rfl)
theorem Dev.staleKey_mask {T : Nat} (hT : subParts 2236934 T = true) (d : Dev) : (Dev.staleKey d).mask T = d.mask T := by
  refine Dev.mask_mono (a := 2236934) ?_ hT
  unfold Dev.staleKey
  repeat' (first | with_reducible rfl | (simp (disch := decide) only [Dev.mask_ite, ite_self, Dev.pulse_mask, Dev.count_mask]; done) | split | (dsimp only; split) | rfl)
theorem Dev.checkSubmitted_mask {T : Nat} (hT : subParts 73786976294848832006 T = true) (d : Dev) : (Dev.checkSubmitted d).2.mask T = d.mask T := by
  refine Dev.mask_mono (a := 73786976294848832006) ?_ hT
  unfold Dev.checkSubmitted
  repeat' (first | with_reducible rfl | (simp (disch := decide) only [Dev.mask_ite, ite_self, Dev.setLehr_mask, Dev.acceptJob_mask, Dev.countJob_mask, Dev.staleKey_mask]; done) | split | (dsimp only; split) | rfl)
theorem Dev.discardLate_mask {T : Nat} (hT : subParts 2236934 T = true) (d : Dev) (q : ℕ) (stamp : Stamp) : (Dev.discardLate d q stamp).mask T = d.mask T := by
  refine Dev.mask_mono (a := 2236934) ?_ hT
  unfold Dev.discardLate
  repeat' (first | with_reducible rfl | (simp (disch := decide) only [Dev.mask_ite, ite_self, Dev.discardResult_mask, Dev.discardStale_mask]; done) | split | (dsimp only; split) | rfl)
theorem Dev.translatePage_mask {T : Nat} (hT : subParts 2097664 T = true) (d : Dev) (port : ℕ) (t : Translation) : (Dev.translatePage d port t).mask T = d.mask T := by
  refine Dev.mask_mono (a := 2097664) ?_ hT
  unfold Dev.translatePage
  repeat' (first | with_reducible rfl | (simp (disch := decide) only [Dev.mask_ite, ite_self, Dev.emit_mask, Dev.setHostPort_mask]; done) | split | (dsimp only; split) | rfl)
theorem Dev.translate_mask {T : Nat} (hT : subParts 2097664 T = true) (d : Dev) (port : ℕ) (attr : ReqAttr) (a : ℕ) (n : ℕ) : (Dev.translate d port attr a n).mask T = d.mask T := by
  refine Dev.mask_mono (a := 2097664) ?_ hT
  unfold Dev.translate
  repeat' (first | with_reducible rfl | (simp (disch := first | decide | (intros; simp (disch := decide) only [Dev.mask_ite, ite_self, Dev.translatePage_mask])) only [Dev.mask_foldl, Dev.mask_ite, ite_self, Dev.translatePage_mask]; done) | split | (dsimp only; split) | rfl | (refine (Dev.mask_foldl ?_ _ _).trans ?_ <;> try intro d a))
theorem Dev.hwrite_mask {T : Nat} (hT : subParts 2098052 T = true) (d0 : Dev) (port : ℕ) (a : ℕ) (bs : List Byte) (attr : ReqAttr) : (Dev.hwrite d0 port a bs attr).mask T = d0.mask T := by
  refine Dev.mask_mono (a := 2098052) ?_ hT
  unfold Dev.hwrite
  repeat' (first | with_reducible rfl | (simp (disch := decide) only [Dev.mask_ite, ite_self, Dev.mask_host0, Dev.mask_host1, Dev.mask_out, Dev.translate_mask, Dev.wcount_mask]; done) | split | (dsimp only; split) | rfl)
theorem Dev.scatterBytes_mask {T : Nat} (hT : subParts 2098052 T = true) (d : Dev) (q : ℕ) (x2 : List (ℕ × ℕ)) (x3 : List Byte) : (Dev.scatterBytes d q x2 x3).mask T = d.mask T := by
  refine Dev.mask_mono (a := 2098052) ?_ hT
  clear hT
  induction x2 generalizing d q x3 <;> unfold Dev.scatterBytes
  repeat' (first | with_reducible rfl | (simp (disch := decide) only [Dev.mask_ite, ite_self, *, Dev.hwrite_mask]; done) | split | (dsimp only; split) | rfl)
theorem Dev.cipherEnd_mask {T : Nat} (hT : subParts 19014534 T = true) (d : Dev) (q : ℕ) (idx : ℕ) (qgen : ℕ) (code : ℕ) (stamp : Stamp) (out : List Byte) : (Dev.cipherEnd d q idx qgen code stamp out).mask T = d.mask T := by
  refine Dev.mask_mono (a := 19014534) ?_ hT
  unfold Dev.cipherEnd
  repeat' (first | with_reducible rfl | (simp (disch := decide) only [Dev.mask_ite, ite_self, Dev.discardLate_mask, Dev.scatterBytes_mask, Dev.endWith_mask]; done) | split | (dsimp only; split) | rfl)
theorem Dev.sendPageRequest_mask {T : Nat} (hT : subParts 2097664 T = true) (d : Dev) (port : ℕ) (pf : ℕ) (t : ReadTarget) : (Dev.sendPageRequest d port pf t).mask T = d.mask T := by
  refine Dev.mask_mono (a := 2097664) ?_ hT
  unfold Dev.sendPageRequest
  repeat' (first | with_reducible rfl | (simp (disch := decide) only [Dev.mask_ite, ite_self, Dev.emit_mask, Dev.setHostPort_mask]; done) | split | (dsimp only; split) | rfl)
theorem Dev.pageFailed_mask {T : Nat} (hT : subParts 2236934 T = true) (d : Dev) (port : ℕ) : (Dev.pageFailed d port).mask T = d.mask T := by
  refine Dev.mask_mono (a := 2236934) ?_ hT
  unfold Dev.pageFailed
  repeat' (first | with_reducible rfl | (simp (disch := decide) only [Dev.mask_ite, ite_self, Dev.pulse_mask, Dev.count_mask]; done) | split | (dsimp only; split) | rfl)
theorem Dev.notPresent_mask {T : Nat} (hT : subParts 2236934 T = true) (d : Dev) (port : ℕ) (pf : ℕ) (t : ReadTarget) (fail : Dev → Dev) (hfail : ∀ d, (fail d).mask T = d.mask T) : (Dev.notPresent d port pf t fail).mask T = d.mask T := by
  unfold Dev.notPresent
  repeat' (first | with_reducible rfl | (simp (disch := exact subParts_trans (by decide) hT) only [Dev.mask_ite, ite_self, Dev.sendPageRequest_mask, Dev.pageFailed_mask, hfail]; done) | split | (dsimp only; split) | rfl)
theorem Dev.linkError_mask {T : Nat} (hT : subParts 2097664 T = true) (d : Dev) (port : ℕ) (e : LinkError) : (Dev.linkError d port e).mask T = d.mask T := by
  refine Dev.mask_mono (a := 2097664) ?_ hT
  unfold Dev.linkError
  repeat' (first | with_reducible rfl | (simp (disch := decide) only [Dev.mask_ite, ite_self, Dev.aerError_mask]; done) | split | (dsimp only; split) | rfl)
theorem Dev.noteTimeout_mask {T : Nat} (hT : subParts 2236934 T = true) (d : Dev) (port : ℕ) (pf : ℕ) : (Dev.noteTimeout d port pf).mask T = d.mask T := by
  refine Dev.mask_mono (a := 2236934) ?_ hT
  unfold Dev.noteTimeout
  repeat' (first | with_reducible rfl | (simp (disch := decide) only [Dev.mask_ite, ite_self, Dev.aerError_mask, Dev.pulse_mask, Dev.latchFault_mask, Dev.count_mask]; done) | split | (dsimp only; split) | rfl)
theorem Dev.notePoison_mask {T : Nat} (hT : subParts 2236934 T = true) (d : Dev) (port : ℕ) (pf : ℕ) : (Dev.notePoison d port pf).mask T = d.mask T := by
  refine Dev.mask_mono (a := 2236934) ?_ hT
  unfold Dev.notePoison
  repeat' (first | with_reducible rfl | (simp (disch := decide) only [Dev.mask_ite, ite_self, Dev.aerError_mask, Dev.pulse_mask, Dev.latchFault_mask, Dev.count_mask]; done) | split | (dsimp only; split) | rfl)
theorem Dev.noteAnswer_mask {T : Nat} (hT : subParts 2236934 T = true) (d : Dev) (port : ℕ) (pf : ℕ) (a : HostAnswer) : (Dev.noteAnswer d port pf a).mask T = d.mask T := by
  refine Dev.mask_mono (a := 2236934) ?_ hT
  unfold Dev.noteAnswer
  repeat' (first | with_reducible rfl | (simp (disch := decide) only [Dev.mask_ite, ite_self, Dev.noteTimeout_mask, Dev.notePoison_mask, Dev.linkError_mask]; done) | split | (dsimp only; split) | rfl)
theorem Dev.onAnswer_mask {T : Nat} (hT : subParts 2236934 T = true) (d : Dev) (port pf : Nat) (t : ReadTarget) (a : HostAnswer)
    {f : Dev → Dev} {fail : Nat → Dev → Dev} (hf : ∀ d, (f d).mask T = d.mask T) (hg : ∀ c d, (fail c d).mask T = d.mask T) :
    (d.onAnswer port pf t a f fail).mask T = d.mask T := by
  unfold Dev.onAnswer
  split
  · rfl
  · split
    · exact hf _
    · exact Dev.notPresent_mask (subParts_trans (by decide) hT) _ _ _ _ _ (hg _)
    · exact Dev.linkError_mask (subParts_trans (by decide) hT) _ _ _
    · rw [hg]; exact Dev.noteAnswer_mask (subParts_trans (by decide) hT) _ _ _ _
theorem Dev.onData_mask {T : Nat} (hT : subParts 19014150 T = true) (d : Dev) (q : Nat) (x : QueueEntry) (a : HostAnswer)
    {f : Dev → Dev} (hf : ∀ d, (f d).mask T = d.mask T) : (d.onData q x a f).mask T = d.mask T := by
  exact Dev.onAnswer_mask (subParts_trans (by decide) hT) _ _ _ _ _ hf (fun _ _ => Dev.endWith_mask (subParts_trans (by decide) hT) _ _ _ _ _)
theorem Dev.hostFetch_mask {T : Nat} (hT : subParts 2097668 T = true) (d : Dev) (port : ℕ) (a : ℕ) (n : ℕ) (attr : ReqAttr) : (Dev.hostFetch d port a n attr).2.mask T = d.mask T := by
  refine Dev.mask_mono (a := 2097668) ?_ hT
  unfold Dev.hostFetch
  repeat' (first | with_reducible rfl | (simp (disch := decide) only [Dev.mask_ite, ite_self, Dev.mask_out, Dev.wcount_mask, Dev.translate_mask]; done) | split | (dsimp only; split) | rfl)
theorem Dev.gatherSpans_mask {T : Nat} (hT : subParts 2097668 T = true) (d : Dev) (port : ℕ) (attr : ReqAttr) (spans : List (ℕ × ℕ)) : (Dev.gatherSpans d port attr spans).2.mask T = d.mask T := by
  refine Dev.mask_mono (a := 2097668) ?_ hT
  unfold Dev.gatherSpans
  repeat' (first | with_reducible rfl | (simp (disch := first | decide | (intros; simp (disch := decide) only [Dev.mask_ite, ite_self, Dev.hostFetch_mask])) only [Dev.mask_foldl, Dev.mask_ite, ite_self, Dev.hostFetch_mask]; done) | split | (dsimp only; split) | rfl | (refine (Dev.mask_foldl ?_ _ _).trans ?_ <;> try intro d a))
theorem Dev.gatherBytes_mask {T : Nat} (hT : subParts 2097668 T = true) (d : Dev) (q : ℕ) (spans : List (ℕ × ℕ)) : (Dev.gatherBytes d q spans).2.mask T = d.mask T := by
  refine Dev.mask_mono (a := 2097668) ?_ hT
  unfold Dev.gatherBytes
  repeat' (first | with_reducible rfl | (simp (disch := decide) only [Dev.mask_ite, ite_self, Dev.gatherSpans_mask]; done) | split | (dsimp only; split) | rfl)
theorem Dev.submitJob_mask {T : Nat} (hT : subParts 73786976294838206464 T = true) (d : Dev) (j : LehrJob) : (Dev.submitJob d j).mask T = d.mask T := by
  refine Dev.mask_mono (a := 73786976294838206464) ?_ hT
  unfold Dev.submitJob
  repeat' (first | with_reducible rfl | (simp (disch := decide) only [Dev.mask_ite, ite_self, Dev.setLehr_mask]; done) | split | (dsimp only; split) | rfl)
theorem Dev.submitCipher_mask {T : Nat} (hT : subParts 73786976294857081348 T = true) (d : Dev) (q : ℕ) (e : QueueEntry) : (Dev.submitCipher d q e).mask T = d.mask T := by
  refine Dev.mask_mono (a := 73786976294857081348) ?_ hT
  unfold Dev.submitCipher
  repeat' (first | with_reducible rfl | (simp (disch := decide) only [Dev.mask_ite, ite_self, Dev.gatherBytes_mask, Dev.submitJob_mask, Dev.modEntry_mask]; done) | split | (dsimp only; split) | rfl)
theorem Dev.cipherEntry_mask {T : Nat} (hT : subParts 73786976294857220614 T = true) (d : Dev) (q : ℕ) (a : HostAnswer) : (Dev.cipherEntry d q a).mask T = d.mask T := by
  refine Dev.mask_mono (a := 73786976294857220614) ?_ hT
  unfold Dev.cipherEntry
  repeat' (first | with_reducible rfl | (simp (disch := first | decide | (intros; (repeat' (first | with_reducible rfl | (simp (disch := decide) only [Dev.mask_ite, ite_self, Dev.endWith_mask, Dev.onData_mask, Dev.submitCipher_mask]; done) | split | (dsimp only; split))))) only [Dev.mask_foldl, Dev.mask_ite, ite_self, Dev.endWith_mask, Dev.onData_mask, Dev.submitCipher_mask]; done) | split | (dsimp only; split) | rfl | (refine (Dev.mask_foldl ?_ _ _).trans ?_ <;> try intro d a))
theorem Dev.setMultiplier_mask {T : Nat} (hT : subParts 73786976294838206464 T = true) (d : Dev) (unit : ℕ) (m : Multiplier) : (Dev.setMultiplier d unit m).mask T = d.mask T := by
  refine Dev.mask_mono (a := 73786976294838206464) ?_ hT
  unfold Dev.setMultiplier
  repeat' (first | with_reducible rfl | (simp (disch := decide) only [Dev.mask_ite, ite_self, Dev.setLehr_mask]; done) | split | (dsimp only; split) | rfl)
theorem Dev.setTrace_mask {T : Nat} (hT : subParts 73786976294838206464 T = true) (d : Dev) (k : ℕ) (t : List JobRef) : (Dev.setTrace d k t).mask T = d.mask T := by
  refine Dev.mask_mono (a := 73786976294838206464) ?_ hT
  unfold Dev.setTrace
  repeat' (first | with_reducible rfl | (simp (disch := decide) only [Dev.mask_ite, ite_self, Dev.setLehr_mask]; done) | split | (dsimp only; split) | rfl)
theorem Dev.cleanTrace_mask {T : Nat} (hT : subParts 73786976294838206464 T = true) (d : Dev) (k : ℕ) : (Dev.cleanTrace d k).mask T = d.mask T := by
  refine Dev.mask_mono (a := 73786976294838206464) ?_ hT
  unfold Dev.cleanTrace
  repeat' (first | with_reducible rfl | (simp (disch := decide) only [Dev.mask_ite, ite_self, Dev.setMultiplier_mask, Dev.setTrace_mask]; done) | split | (dsimp only; split) | rfl)
theorem Dev.setLdCount_mask {T : Nat} (hT : subParts 4 T = true) (d : Dev) (t : ℕ) (len : ℕ) (n : ℕ) : (Dev.setLdCount d t len n).mask T = d.mask T := by
  refine Dev.mask_mono (a := 4) ?_ hT
  unfold Dev.setLdCount
  repeat' (first | with_reducible rfl | (simp (disch := decide) only [Dev.mask_ite, ite_self, Dev.wset_mask]; done) | split | (dsimp only; split) | rfl)
theorem Dev.countPrefix_mask {T : Nat} (hT : subParts 4 T = true) (d : Dev) (t : ℕ) (ws : List ℕ) (gain : Bool) : (Dev.countPrefix d t ws gain).mask T = d.mask T := by
  refine Dev.mask_mono (a := 4) ?_ hT
  unfold Dev.countPrefix
  repeat' (first | with_reducible rfl | (simp (disch := decide) only [Dev.mask_ite, ite_self, Dev.setLdCount_mask]; done) | split | (dsimp only; split) | rfl)
theorem Dev.ownEntry_mask {T : Nat} (hT : subParts 8388608 T = true) (d : Dev) (ws : List ℕ) (gain : Bool) : (Dev.ownEntry d ws gain).mask T = d.mask T := by
  refine Dev.mask_mono (a := 8388608) ?_ hT
  unfold Dev.ownEntry
  repeat' (first | with_reducible rfl | (simp (disch := decide) only [Dev.mask_ite, ite_self, Dev.setSlice_mask]; done) | split | (dsimp only; split) | rfl)
theorem Dev.setOvfTag_mask {T : Nat} (hT : subParts 281474976710656 T = true) (d : Dev) (w : ℕ) (v : Option (ℕ × ℕ)) : (Dev.setOvfTag d w v).mask T = d.mask T := by
  refine Dev.mask_mono (a := 281474976710656) ?_ hT
  unfold Dev.setOvfTag
  repeat' (first | with_reducible rfl | (simp (disch := decide) only [Dev.mask_ite, ite_self, Dev.mask_ovfTags]; done) | split | (dsimp only; split) | rfl)
theorem Dev.setOvfUsed_mask {T : Nat} (hT : subParts 2236934 T = true) (d : Dev) (bank : ℕ) (n : ℕ) : (Dev.setOvfUsed d bank n).mask T = d.mask T := by
  refine Dev.mask_mono (a := 2236934) ?_ hT
  unfold Dev.setOvfUsed
  repeat' (first | with_reducible rfl | (simp (disch := decide) only [Dev.mask_ite, ite_self, Dev.fset_mask, Dev.pulse_mask, Dev.latchFault_mask]; done) | split | (dsimp only; split) | rfl)
theorem Dev.renewLines_mask {T : Nat} (hT : subParts 524288 T = true) (d : Dev) (a : ℕ) (n : ℕ) : (Dev.renewLines d a n).mask T = d.mask T := by
  refine Dev.mask_mono (a := 524288) ?_ hT
  unfold Dev.renewLines
  repeat' (first | with_reducible rfl | (simp (disch := decide) only [Dev.mask_ite, ite_self, Dev.mask_ft]; done) | split | (dsimp only; split) | rfl)
theorem Dev.writeSlot_mask {T : Nat} (hT : subParts 524320 T = true) (d : Dev) (slot : ℕ) (ws : List ℕ) : (Dev.writeSlot d slot ws).mask T = d.mask T := by
  refine Dev.mask_mono (a := 524320) ?_ hT
  unfold Dev.writeSlot
  repeat' (first | with_reducible rfl | (simp (disch := decide) only [Dev.mask_ite, ite_self, Dev.renewLines_mask, Dev.gwrite_mask]; done) | split | (dsimp only; split) | rfl)
theorem Dev.clearEntry_mask {T : Nat} (hT : subParts 844424941281830 T = true) (d : Dev) (c : Cand) : (Dev.clearEntry d c).mask T = d.mask T := by
  refine Dev.mask_mono (a := 844424941281830) ?_ hT
  unfold Dev.clearEntry
  repeat' (first | with_reducible rfl | (simp (disch := decide) only [Dev.mask_ite, ite_self, Dev.mask_ovfBad, Dev.countPrefix_mask, Dev.ownEntry_mask, Dev.setOvfTag_mask, Dev.setOvfUsed_mask, Dev.writeSlot_mask]; done) | split | (dsimp only; split) | rfl)
theorem Dev.clearFences_mask {T : Nat} (hT : subParts 73786976300207439872 T = true) (d : Dev) (t : ℕ) (n : ℕ) : (Dev.clearFences d t n).mask T = d.mask T := by
  refine Dev.mask_mono (a := 73786976300207439872) ?_ hT
  unfold Dev.clearFences
  repeat' (first | with_reducible rfl | (simp (disch := decide) only [Dev.mask_ite, ite_self, Dev.mask_fencedCtx, Dev.mask_gafStopped, Dev.mask_fencedCtx_gafStopped, Dev.setFt_mask, Dev.setLehr_mask]; done) | split | (dsimp only; split) | rfl)
theorem Dev.clearKbuf_mask {T : Nat} (hT : subParts 2 T = true) (d : Dev) : (Dev.clearKbuf d).mask T = d.mask T := by
  refine Dev.mask_mono (a := 2) ?_ hT
  unfold Dev.clearKbuf
  repeat' (first | with_reducible rfl | (simp (disch := first | decide | (intros; simp (disch := decide) only [Dev.mask_ite, ite_self, Dev.wr_mask])) only [Dev.mask_foldl, Dev.mask_ite, ite_self, Dev.wr_mask]; done) | split | (dsimp only; split) | rfl | (refine (Dev.mask_foldl ?_ _ _).trans ?_ <;> try intro d a))
theorem Dev.clearSit_mask {T : Nat} (hT : subParts 4194304 T = true) (d : Dev) (s : ℕ) : (Dev.clearSit d s).mask T = d.mask T := by
  refine Dev.mask_mono (a := 4194304) ?_ hT
  unfold Dev.clearSit
  repeat' (first | with_reducible rfl | (simp (disch := decide) only [Dev.mask_ite, ite_self, Dev.mask_sit]; done) | split | (dsimp only; split) | rfl)
theorem Dev.notify_mask {T : Nat} (hT : subParts 6755399443292678 T = true) (d : Dev) (kind : ℕ) (t : ℕ) (slot : ℕ) (ws : List ℕ) (key : List ℕ) (owner : ℕ) : (Dev.notify d kind t slot ws key owner).mask T = d.mask T := by
  refine Dev.mask_mono (a := 6755399443292678) ?_ hT
  unfold Dev.notify
  repeat' (first | with_reducible rfl | (simp (disch := decide) only [Dev.mask_ite, ite_self, Dev.mask_noteQ, Dev.mask_noteSeq, Dev.mask_noteQ_noteSeq, Dev.fset_mask, Dev.pulse_mask, Dev.latchFault_mask]; done) | split | (dsimp only; split) | rfl)
theorem Dev.compareClear_mask {T : Nat} (hT : subParts 43628621401301542 T = true) (d : Dev) : (Dev.compareClear d).mask T = d.mask T := by
  refine Dev.mask_mono (a := 43628621401301542) ?_ hT
  unfold Dev.compareClear
  repeat' (first | with_reducible rfl | (simp (disch := decide) only [Dev.mask_ite, ite_self, Dev.mask_clearQ, Dev.noteHold_mask, Dev.notify_mask, Dev.count_mask, Dev.clearEntry_mask, Dev.wcount_mask]; done) | split | (dsimp only; split) | rfl)
theorem Dev.setCell_mask {T : Nat} (hT : subParts 73786976294838206464 T = true) (d : Dev) (k : ℕ) (w : Option CellWork) : (Dev.setCell d k w).mask T = d.mask T := by
  refine Dev.mask_mono (a := 73786976294838206464) ?_ hT
  unfold Dev.setCell
  repeat' (first | with_reducible rfl | (simp (disch := decide) only [Dev.mask_ite, ite_self, Dev.setLehr_mask]; done) | split | (dsimp only; split) | rfl)
theorem Dev.releaseCells_mask {T : Nat} (hT : subParts 73786976294838206464 T = true) (d : Dev) (n : ℕ) : (Dev.releaseCells d n).mask T = d.mask T := by
  refine Dev.mask_mono (a := 73786976294838206464) ?_ hT
  unfold Dev.releaseCells
  repeat' (first | with_reducible rfl | (simp (disch := decide) only [Dev.mask_ite, ite_self, Dev.setLehr_mask]; done) | split | (dsimp only; split) | rfl)
theorem Dev.rerunJob_mask {T : Nat} (hT : subParts 73786976294840508934 T = true) (d : Dev) (n : ℕ) (k : ℕ) : (Dev.rerunJob d n k).mask T = d.mask T := by
  refine Dev.mask_mono (a := 73786976294840508934) ?_ hT
  unfold Dev.rerunJob
  repeat' (first | with_reducible rfl | (simp (disch := decide) only [Dev.mask_ite, ite_self, Dev.mask_journal, Dev.journalAdd_mask, Dev.releaseCells_mask, Dev.setJob_mask, Dev.pulse_mask, Dev.count_mask]; done) | split | (dsimp only; split) | rfl)
theorem Dev.mismatch_mask {T : Nat} (hT : subParts 2236934 T = true) (d : Dev) (unit : ℕ) : (Dev.mismatch d unit).mask T = d.mask T := by
  refine Dev.mask_mono (a := 2236934) ?_ hT
  unfold Dev.mismatch
  repeat' (first | with_reducible rfl | (simp (disch := decide) only [Dev.mask_ite, ite_self, Dev.latchFault_mask, Dev.countSat_mask]; done) | split | (dsimp only; split) | rfl)
theorem Dev.completeBlock_mask {T : Nat} (hT : subParts 73786976294840508934 T = true) (d : Dev) (unit : ℕ) (c : ℕ) (agree : Bool) : (Dev.completeBlock d unit c agree).mask T = d.mask T := by
  refine Dev.mask_mono (a := 73786976294840508934) ?_ hT
  unfold Dev.completeBlock
  repeat' (first | with_reducible rfl | (simp (disch := decide) only [Dev.mask_ite, ite_self, Dev.blockDone_mask, Dev.setCell_mask, Dev.setTrace_mask, Dev.count_mask, Dev.rerunJob_mask, Dev.mismatch_mask, Dev.setLehr_mask, Dev.modSeg_mask]; done) | split | (dsimp only; split) | rfl)
theorem Dev.trimCells_mask {T : Nat} (hT : subParts 149550763483654 T = true) (d : Dev) (h : ℕ) (n : ℕ) : (Dev.trimCells d h n).mask T = d.mask T := by
  refine Dev.mask_mono (a := 149550763483654) ?_ hT
  unfold Dev.trimCells
  repeat' (first | with_reducible rfl | (simp (disch := decide) only [Dev.mask_ite, ite_self, Dev.returnDeep_mask, Dev.freeCells_mask, Dev.setPacket_mask, Dev.countPool_mask, Dev.countSpill_mask, Dev.poolReturn_mask]; done) | split | (dsimp only; split) | rfl)
theorem Dev.queueFirst_mask {T : Nat} (hT : subParts 154621059590 T = true) (d : Dev) (h : ℕ) : (Dev.queueFirst d h).mask T = d.mask T := by
  refine Dev.mask_mono (a := 154621059590) ?_ hT
  unfold Dev.queueFirst
  repeat' (first | with_reducible rfl | (simp (disch := decide) only [Dev.mask_ite, ite_self, Dev.mask_dispatchQ, Dev.depthRose_mask, Dev.setStage_mask]; done) | split | (dsimp only; split) | rfl)
theorem Dev.completeFrame_mask {T : Nat} (hT : subParts 149756921913862 T = true) (d : Dev) (h : ℕ) (bytes : List Byte) : (Dev.completeFrame d h bytes).mask T = d.mask T := by
  refine Dev.mask_mono (a := 149756921913862) ?_ hT
  unfold Dev.completeFrame
  repeat' (first | with_reducible rfl | (simp (disch := decide) only [Dev.mask_ite, ite_self, Dev.trimCells_mask, Dev.nextSeq_mask, Dev.queueFirst_mask, Dev.modPacket_mask]; done) | split | (dsimp only; split) | rfl)
theorem Dev.completeInvalidation_mask {T : Nat} (hT : subParts 2097664 T = true) (d : Dev) (n : ℕ) : (Dev.completeInvalidation d n).mask T = d.mask T := by
  refine Dev.mask_mono (a := 2097664) ?_ hT
  unfold Dev.completeInvalidation
  repeat' (first | with_reducible rfl | (simp (disch := decide) only [Dev.mask_ite, ite_self, Dev.emit_mask, Dev.setHostPort_mask]; done) | split | (dsimp only; split) | rfl)

end Sys2Proof.Machine
end

