-- ==== Sys2Proof/Laws/Frame3.lean ====
section
/-!
SUPPORT. What each operation of the model may change (part 3 of 4, in the order in which the operations build on each
other): blanking the parts named by a set that holds at least the operation's own, the device is as before.
-/

namespace Sys2Proof.Machine

set_option linter.all false

theorem Dev.nextLane_mask {T : Nat} (hT : subParts 73786976294838207492 T = true) (d : Dev) (l : ℕ) : (Dev.nextLane d l).mask T = d.mask T := by
  refine Dev.mask_mono (a := 73786976294838207492) ?_ hT
  unfold Dev.nextLane
  repeat' (first | with_reducible rfl | (simp (disch := decide) only [Dev.mask_ite, ite_self, Dev.startLane_mask, Dev.setLehr_mask]; done) | split | (dsimp only; split) | rfl)
theorem Dev.zeroiseSlot_mask {T : Nat} (hT : subParts 73786976294848832038 T = true) (d : Dev) (s : ℕ) : (Dev.zeroiseSlot d s).mask T = d.mask T := by
  refine Dev.mask_mono (a := 73786976294848832038) ?_ hT
  unfold Dev.zeroiseSlot
  repeat' (first | with_reducible rfl | (simp (disch := decide) only [Dev.mask_ite, ite_self, Dev.setLehr_mask, Dev.gwrite_mask, Dev.pulse_mask, Dev.setKeySlot_mask]; done) | split | (dsimp only; split) | rfl)
theorem Dev.unwrapFailed_mask {T : Nat} (hT : subParts 73786976294848832038 T = true) (d : Dev) (n : ℕ) (j : LehrJob) : (Dev.unwrapFailed d n j).mask T = d.mask T := by
  refine Dev.mask_mono (a := 73786976294848832038) ?_ hT
  unfold Dev.unwrapFailed
  repeat' (first | with_reducible rfl | (simp (disch := decide) only [Dev.mask_ite, ite_self, Dev.zeroiseSlot_mask, Dev.pulse_mask, Dev.latchFault_mask, Dev.countSat_mask, Dev.setJob_mask, Dev.releaseCells_mask]; done) | split | (dsimp only; split) | rfl)
theorem Dev.completeUnwrap_mask {T : Nat} (hT : subParts 73786976294848833062 T = true) (d : Dev) : (Dev.completeUnwrap d).mask T = d.mask T := by
  refine Dev.mask_mono (a := 73786976294848833062) ?_ hT
  unfold Dev.completeUnwrap
  repeat' (first | with_reducible rfl | (simp (disch := decide) only [Dev.mask_ite, ite_self, Dev.nextLane_mask, Dev.setLehr_mask, Dev.cachePut_mask, Dev.setJob_mask, Dev.unwrapFailed_mask]; done) | split | (dsimp only; split) | rfl)
theorem Dev.msixFlush_mask {T : Nat} (hT : subParts 2097668 T = true) (d : Dev) (n : ℕ) (v : ℕ) : (Dev.msixFlush d n v).mask T = d.mask T := by
  refine Dev.mask_mono (a := 2097668) ?_ hT
  unfold Dev.msixFlush
  repeat' (first | with_reducible rfl | (simp (disch := decide) only [Dev.mask_ite, ite_self, Dev.emit_mask, Dev.wcount_mask, Dev.setHostPort_mask]; done) | split | (dsimp only; split) | rfl)
theorem Dev.msixUnmask_mask {T : Nat} (hT : subParts 2097668 T = true) (d : Dev) (n : ℕ) (vector : Option ℕ) : (Dev.msixUnmask d n vector).mask T = d.mask T := by
  refine Dev.mask_mono (a := 2097668) ?_ hT
  unfold Dev.msixUnmask
  repeat' (first | with_reducible rfl | (simp (disch := first | decide | (intros; simp (disch := decide) only [Dev.mask_ite, ite_self, Dev.msixFlush_mask, Dev.setHostPort_mask])) only [Dev.mask_foldl, Dev.mask_ite, ite_self, Dev.msixFlush_mask, Dev.setHostPort_mask]; done) | split | (dsimp only; split) | rfl | (refine (Dev.mask_foldl ?_ _ _).trans ?_ <;> try intro d a))
theorem Dev.configWrite_mask {T : Nat} (hT : subParts 2097668 T = true) (d : Dev) (port : ℕ) (pf : ℕ) (off : ℕ) (v : ℕ) (m : ℕ) : (Dev.configWrite d port pf off v m).mask T = d.mask T := by
  refine Dev.mask_mono (a := 2097668) ?_ hT
  unfold Dev.configWrite
  repeat' (first | with_reducible rfl | (simp (disch := decide) only [Dev.mask_ite, ite_self, Dev.modFn_mask, Dev.setHostPort_mask, Dev.msixUnmask_mask]; done) | split | (dsimp only; split) | rfl)
theorem Dev.failSessionAs_mask {T : Nat} (hT : subParts 443298327437712171558 T = true) (d : Dev) (s : ℕ) (keep : Bool) (code : ℕ) (detail : ℕ) : (Dev.failSessionAs d s keep code detail).mask T = d.mask T := by
  refine Dev.mask_mono (a := 443298327437712171558) ?_ hT
  unfold Dev.failSessionAs
  repeat' (first | with_reducible rfl | (simp (disch := decide) only [Dev.mask_ite, ite_self, Dev.setSesState_mask, Dev.dropSession_mask, Dev.sesSet_mask, Dev.pulse_mask, Dev.count_mask]; done) | split | (dsimp only; split) | rfl)
theorem Dev.failSession_mask {T : Nat} (hT : subParts 443298327437712171558 T = true) (d : Dev) (s : ℕ) (code : ℕ) (detail : ℕ) : (Dev.failSession d s code detail).mask T = d.mask T := by
  refine Dev.mask_mono (a := 443298327437712171558) ?_ hT
  unfold Dev.failSession
  repeat' (first | with_reducible rfl | (simp (disch := decide) only [Dev.mask_ite, ite_self, Dev.failSessionAs_mask]; done) | split | (dsimp only; split) | rfl)
theorem Dev.connectAnswered_mask {T : Nat} (hT : subParts 443298327437712171558 T = true) (d : Dev) (n : ℕ) (s : ℕ) (st : ℕ) (cntlid : ℕ) : (Dev.connectAnswered d n s st cntlid).mask T = d.mask T := by
  refine Dev.mask_mono (a := 443298327437712171558) ?_ hT
  unfold Dev.connectAnswered
  repeat' (first | with_reducible rfl | (simp (disch := decide) only [Dev.mask_ite, ite_self, Dev.failSession_mask, Dev.dropWire_mask, Dev.releaseSlot_mask, Dev.pulse_mask, Dev.setSesState_mask, Dev.sesSet_mask]; done) | split | (dsimp only; split) | rfl)
theorem Dev.copyStore_mask {T : Nat} (hT : subParts 67108864 T = true) (d : Dev) (src : ℕ) (dst : ℕ) : (Dev.copyStore d src dst).mask T = d.mask T := by
  refine Dev.mask_mono (a := 67108864) ?_ hT
  unfold Dev.copyStore
  repeat' (first | with_reducible rfl | (simp (disch := decide) only [Dev.mask_ite, ite_self, Dev.mask_store]; done) | split | (dsimp only; split) | rfl)
theorem Dev.raiseQueueIrq_mask {T : Nat} (hT : subParts 23208454 T = true) (d : Dev) (q : ℕ) : (Dev.raiseQueueIrq d q).mask T = d.mask T := by
  refine Dev.mask_mono (a := 23208454) ?_ hT
  unfold Dev.raiseQueueIrq
  repeat' (first | with_reducible rfl | (simp (disch := decide) only [Dev.mask_ite, ite_self, Dev.setQueue_mask, Dev.msixRaise_mask, Dev.sliceInterrupt_mask]; done) | split | (dsimp only; split) | rfl)
theorem Dev.countIrq_mask {T : Nat} (hT : subParts 23208454 T = true) (d : Dev) (q : ℕ) : (Dev.countIrq d q).mask T = d.mask T := by
  refine Dev.mask_mono (a := 23208454) ?_ hT
  unfold Dev.countIrq
  repeat' (first | with_reducible rfl | (simp (disch := decide) only [Dev.mask_ite, ite_self, Dev.setQueue_mask, Dev.raiseQueueIrq_mask]; done) | split | (dsimp only; split) | rfl)
theorem Dev.countMisses_mask {T : Nat} (hT : subParts 1026 T = true) (d : Dev) (p : ℕ) (f : Fld) (x3 : ℕ) : (Dev.countMisses d p f x3).mask T = d.mask T := by
  refine Dev.mask_mono (a := 1026) ?_ hT
  clear hT
  induction x3 generalizing d p f <;> unfold Dev.countMisses
  repeat' (first | with_reducible rfl | (simp (disch := decide) only [Dev.mask_ite, ite_self, *, Dev.count_mask, Dev.fresh_mask]; done) | split | (dsimp only; split) | rfl)
theorem Dev.countProbe_mask {T : Nat} (hT : subParts 1030 T = true) (d : Dev) (bank : ℕ) (reads : ℕ) (hit : Bool) : (Dev.countProbe d bank reads hit).mask T = d.mask T := by
  refine Dev.mask_mono (a := 1030) ?_ hT
  unfold Dev.countProbe
  repeat' (first | with_reducible rfl | (simp (disch := decide) only [Dev.mask_ite, ite_self, Dev.wcount_mask, Dev.count_mask, Dev.countMisses_mask]; done) | split | (dsimp only; split) | rfl)
theorem Dev.countProducts_mask {T : Nat} (hT : subParts 73786976294838206464 T = true) (d : Dev) (n : ℕ) (j : LehrJob) (i : ℕ) (g : JobSeg) : (Dev.countProducts d n j i g).mask T = d.mask T := by
  refine Dev.mask_mono (a := 73786976294838206464) ?_ hT
  unfold Dev.countProducts
  repeat' (first | with_reducible rfl | (simp (disch := decide) only [Dev.mask_ite, ite_self, Dev.setMultiplier_mask]; done) | split | (dsimp only; split) | rfl)
theorem Dev.countRxWire_mask {T : Nat} (hT : subParts 8388608 T = true) (d : Dev) (q : ℕ) (c : Completion) : (Dev.countRxWire d q c).mask T = d.mask T := by
  refine Dev.mask_mono (a := 8388608) ?_ hT
  unfold Dev.countRxWire
  repeat' (first | with_reducible rfl | (simp (disch := decide) only [Dev.mask_ite, ite_self, Dev.setSlice_mask]; done) | split | (dsimp only; split) | rfl)
theorem Dev.countTxWire_mask {T : Nat} (hT : subParts 8388608 T = true) (d : Dev) (stamp : Stamp) (n : ℕ) : (Dev.countTxWire d stamp n).mask T = d.mask T := by
  refine Dev.mask_mono (a := 8388608) ?_ hT
  unfold Dev.countTxWire
  repeat' (first | with_reducible rfl | (simp (disch := decide) only [Dev.mask_ite, ite_self, Dev.setSlice_mask]; done) | split | (dsimp only; split) | rfl)
theorem Dev.counterAdd_mask {T : Nat} (hT : subParts 2236966 T = true) (d : Dev) (c : ℕ) (n : ℕ) : (Dev.counterAdd d c n).mask T = d.mask T := by
  refine Dev.mask_mono (a := 2236966) ?_ hT
  unfold Dev.counterAdd
  repeat' (first | with_reducible rfl | (simp (disch := decide) only [Dev.mask_ite, ite_self, Dev.lineUe_mask, Dev.gsetNum_mask]; done) | split | (dsimp only; split) | rfl)
theorem Dev.counterStep_mask {T : Nat} (hT : subParts 1152921504609083942 T = true) (d : Dev) (lane : ℕ) : (Dev.counterStep d lane).mask T = d.mask T := by
  refine Dev.mask_mono (a := 1152921504609083942) ?_ hT
  unfold Dev.counterStep
  repeat' (first | with_reducible rfl | (simp (disch := decide) only [Dev.mask_ite, ite_self, Dev.mask_counterQ, Dev.counterAdd_mask]; done) | split | (dsimp only; split) | rfl)
theorem Dev.cpxBist_mask {T : Nat} (hT : subParts 2236934 T = true) (d : Dev) (p : ℕ) (pass : Bool) : (Dev.cpxBist d p pass).mask T = d.mask T := by
  refine Dev.mask_mono (a := 2236934) ?_ hT
  unfold Dev.cpxBist
  repeat' (first | with_reducible rfl | (simp (disch := decide) only [Dev.mask_ite, ite_self, Dev.fset_mask, Dev.pulse_mask, Dev.latchFault_mask]; done) | split | (dsimp only; split) | rfl)
theorem Dev.cpxMismatch_mask {T : Nat} (hT : subParts 2302470 T = true) (d : Dev) (p : ℕ) : (Dev.cpxMismatch d p).mask T = d.mask T := by
  refine Dev.mask_mono (a := 2302470) ?_ hT
  unfold Dev.cpxMismatch
  repeat' (first | with_reducible rfl | (simp (disch := first | decide | (intros; simp (disch := decide) only [Dev.mask_ite, ite_self, Dev.fset_mask, Dev.pulse_mask, Dev.latchFault_mask, Dev.countSat_mask, Dev.journalAdd_mask])) only [Dev.mask_foldl, Dev.mask_ite, ite_self, Dev.fset_mask, Dev.pulse_mask, Dev.latchFault_mask, Dev.countSat_mask, Dev.journalAdd_mask]; done) | split | (dsimp only; split) | rfl | (refine (Dev.mask_foldl ?_ _ _).trans ?_ <;> try intro d a))
theorem Dev.queueError_mask {T : Nat} (hT : subParts 19014182 T = true) (d : Dev) (q : ℕ) (idx : ℕ) (code : ℕ) : (Dev.queueError d q idx code).mask T = d.mask T := by
  refine Dev.mask_mono (a := 19014182) ?_ hT
  unfold Dev.queueError
  repeat' (first | with_reducible rfl | (simp (disch := decide) only [Dev.mask_ite, ite_self, Dev.setQState_mask, Dev.setQueue_mask, Dev.pulse_mask, Dev.count_mask]; done) | split | (dsimp only; split) | rfl)
theorem Dev.cqDoorbell_mask {T : Nat} (hT : subParts 19014182 T = true) (d : Dev) (q : ℕ) (value : ℕ) : (Dev.cqDoorbell d q value).mask T = d.mask T := by
  refine Dev.mask_mono (a := 19014182) ?_ hT
  unfold Dev.cqDoorbell
  repeat' (first | with_reducible rfl | (simp (disch := decide) only [Dev.mask_ite, ite_self, Dev.setQueue_mask, Dev.queueError_mask, Dev.dropDoorbell_mask]; done) | split | (dsimp only; split) | rfl)
theorem Dev.putContext_mask {T : Nat} (hT : subParts 524320 T = true) (d : Dev) (q : ℕ) (w : List ℕ) (qgen : ℕ) (state : ℕ) : (Dev.putContext d q w qgen state).mask T = d.mask T := by
  refine Dev.mask_mono (a := 524320) ?_ hT
  unfold Dev.putContext
  repeat' (first | with_reducible rfl | (simp (disch := decide) only [Dev.mask_ite, ite_self, Dev.renewLines_mask, Dev.gsetWords_mask]; done) | split | (dsimp only; split) | rfl)
theorem Dev.createQueue_mask {T : Nat} (hT : subParts 25690146 T = true) (d : Dev) (welbor : Bool) (q : ℕ) (w : List ℕ) : (Dev.createQueue d welbor q w).2.mask T = d.mask T := by
  refine Dev.mask_mono (a := 25690146) ?_ hT
  unfold Dev.createQueue
  repeat' (first | with_reducible rfl | (simp (disch := decide) only [Dev.mask_ite, ite_self, Dev.setQueue_mask, Dev.putContext_mask, Dev.setSlice_mask, Dev.showQueueCount_mask]; done) | split | (dsimp only; split) | rfl)
theorem Dev.moveWalks_mask {T : Nat} (hT : subParts 17179869184 T = true) (d : Dev) (e : ℕ) : (Dev.moveWalks d e).mask T = d.mask T := by
  refine Dev.mask_mono (a := 17179869184) ?_ hT
  unfold Dev.moveWalks
  repeat' (first | with_reducible rfl | (simp (disch := first | decide | (intros; simp (disch := decide) only [Dev.mask_ite, ite_self, Dev.setPacket_mask])) only [Dev.mask_foldl, Dev.mask_ite, ite_self, Dev.setPacket_mask]; done) | split | (dsimp only; split) | rfl | (refine (Dev.mask_foldl ?_ _ _).trans ?_ <;> try intro d a))
theorem Dev.svcAuto_mask {T : Nat} (hT : subParts 524290 T = true) (d : Dev) (t : ℕ) (n : ℕ) (fence : Bool) : (Dev.svcAuto d t n fence).mask T = d.mask T := by
  refine Dev.mask_mono (a := 524290) ?_ hT
  unfold Dev.svcAuto
  repeat' (first | with_reducible rfl | (simp (disch := decide) only [Dev.mask_ite, ite_self, Dev.mask_ft, Dev.svcStart_mask, Dev.setPunty_mask]; done) | split | (dsimp only; split) | rfl)
theorem Dev.unitFault_mask {T : Nat} (hT : subParts 17182646790 T = true) (d : Dev) (t : ℕ) (n : ℕ) : (Dev.unitFault d t n).mask T = d.mask T := by
  refine Dev.mask_mono (a := 17182646790) ?_ hT
  unfold Dev.unitFault
  repeat' (first | with_reducible rfl | (simp (disch := decide) only [Dev.mask_ite, ite_self, Dev.moveWalks_mask, Dev.svcAuto_mask, Dev.moverFail_mask]; done) | split | (dsimp only; split) | rfl)
theorem Dev.crossingError_mask {T : Nat} (hT : subParts 507862160394114785830 T = true) (d : Dev) (page : ℕ) (sender : ℕ) (good : Bool) : (Dev.crossingError d page sender good).mask T = d.mask T := by
  refine Dev.mask_mono (a := 507862160394114785830) ?_ hT
  unfold Dev.crossingError
  repeat' (first | with_reducible rfl | (simp (disch := decide) only [Dev.mask_ite, ite_self, Dev.latchFault_mask, Dev.aerCorrectable_mask, Dev.journalAdd_mask, Dev.unitFault_mask, Dev.blockFault_mask]; done) | split | (dsimp only; split) | rfl)
theorem Dev.crystalFail_mask {T : Nat} (hT : subParts 2499078 T = true) (d : Dev) : (Dev.crystalFail d).mask T = d.mask T := by
  refine Dev.mask_mono (a := 2499078) ?_ hT
  unfold Dev.crystalFail
  repeat' (first | with_reducible rfl | (simp (disch := decide) only [Dev.mask_ite, ite_self, Dev.pulse_mask, Dev.setTim_mask]; done) | split | (dsimp only; split) | rfl)
theorem Dev.noteCtxError_mask {T : Nat} (hT : subParts 3223986694 T = true) (d : Dev) (c : ℕ) : (Dev.noteCtxError d c).mask T = d.mask T := by
  refine Dev.mask_mono (a := 3223986694) ?_ hT
  have h : ∀ (d : Dev) (a : List (Nat × List Nat)) (b : List Nat), Dev.mask 3223986694 { d with ctxErrors := a, fencedCtx := b } = d.mask 3223986694 := fun _ _ _ => rfl
  unfold Dev.noteCtxError
  dsimp only
  split
  · split
    · simp (disch := decide) only [Dev.svcAuto_mask, Dev.pulse_mask, Dev.latchFault_mask, h]
    · simp (disch := decide) only [Dev.pulse_mask, Dev.latchFault_mask, h]
  · simp (disch := decide) only [Dev.mask_ctxErrors]
theorem Dev.setCtx_mask {T : Nat} (hT : subParts 268435456 T = true) (d : Dev) (c : ℕ) (x : Option Ctx) : (Dev.setCtx d c x).mask T = d.mask T := by
  refine Dev.mask_mono (a := 268435456) ?_ hT
  unfold Dev.setCtx
  repeat' (first | with_reducible rfl | (simp (disch := decide) only [Dev.mask_ite, ite_self, Dev.mask_ctxs]; done) | split | (dsimp only; split) | rfl)
theorem Dev.writeExcRecord_mask {T : Nat} (hT : subParts 2236934 T = true) (d : Dev) (r : ℕ) : (Dev.writeExcRecord d r).mask T = d.mask T := by
  refine Dev.mask_mono (a := 2236934) ?_ hT
  unfold Dev.writeExcRecord
  repeat' (first | with_reducible rfl | (simp (disch := decide) only [Dev.mask_ite, ite_self, Dev.fset_mask, Dev.wset_mask, Dev.pulse_mask, Dev.count_mask]; done) | split | (dsimp only; split) | rfl)
theorem Dev.excEnqueue_mask {T : Nat} (hT : subParts 36893710265958408710 T = true) (d : Dev) (h : ℕ) : (Dev.excEnqueue d h).mask T = d.mask T := by
  refine Dev.mask_mono (a := 36893710265958408710) ?_ hT
  unfold Dev.excEnqueue
  repeat' (first | with_reducible rfl | (simp (disch := decide) only [Dev.mask_ite, ite_self, Dev.mask_excQ, Dev.setStage_mask, Dev.fset_mask, Dev.latchWhen_mask, Dev.pulse_mask, Dev.count_mask, Dev.dropPacket_mask]; done) | split | (dsimp only; split) | rfl)
theorem Dev.passEnded_mask {T : Nat} (hT : subParts 1099513864710 T = true) (d : Dev) (c : ℕ) (pass : ℕ) (charged : ℕ) (before : ℕ) : (Dev.passEnded d c pass charged before).mask T = d.mask T := by
  refine Dev.mask_mono (a := 1099513864710) ?_ hT
  unfold Dev.passEnded
  repeat' (first | with_reducible rfl | (simp (disch := decide) only [Dev.mask_ite, ite_self, Dev.wcount_mask, Dev.count_mask, Dev.setCredit_mask]; done) | split | (dsimp only; split) | rfl)
theorem Dev.raise_mask {T : Nat} (hT : subParts 36893711365738471942 T = true) (d : Dev) (c : ℕ) (x : Ctx) (code : ℕ) (sub : ℕ) (pc : ℕ) : (Dev.raise d c x code sub pc).mask T = d.mask T := by
  refine Dev.mask_mono (a := 36893711365738471942) ?_ hT
  unfold Dev.raise
  repeat' (first | with_reducible rfl | (simp (disch := decide) only [Dev.mask_ite, ite_self, Dev.count_mask, Dev.setPacket_mask, Dev.setCtx_mask, Dev.wset_mask, Dev.writeExcRecord_mask, Dev.excEnqueue_mask, Dev.passEnded_mask]; done) | split | (dsimp only; split) | rfl)
theorem Dev.place_mask {T : Nat} (hT : subParts 36893711365738471942 T = true) (d : Dev) (h : ℕ) (c : ℕ) (bank : ℕ) (hint : ℕ) (md : List Byte) (prior : Ctx → Ctx) : (Dev.place d h c bank hint md prior).mask T = d.mask T := by
  refine Dev.mask_mono (a := 36893711365738471942) ?_ hT
  unfold Dev.place
  repeat' (first | with_reducible rfl | (simp (disch := decide) only [Dev.mask_ite, ite_self, Dev.setStage_mask, Dev.setCtx_mask, Dev.raise_mask]; done) | split | (dsimp only; split) | rfl)
theorem Dev.restart_mask {T : Nat} (hT : subParts 36893711366812213766 T = true) (d : Dev) (h : ℕ) : (Dev.restart d h).mask T = d.mask T := by
  refine Dev.mask_mono (a := 36893711366812213766) ?_ hT
  clear hT
  induction h generalizing d <;> unfold Dev.restart
  repeat' (first | with_reducible rfl | (simp (disch := decide) only [Dev.mask_ite, ite_self, *, Dev.place_mask, Dev.setPacket_mask]; done) | split | (dsimp only; split) | rfl)
theorem Dev.endForRestart_mask {T : Nat} (hT : subParts 17450607110 T = true) (d : Dev) (x : Ctx) (c : ℕ) (parity : ℕ) (store : ℕ) (same : Bool) : (Dev.endForRestart d x c parity store same).mask T = d.mask T := by
  refine Dev.mask_mono (a := 17450607110) ?_ hT
  unfold Dev.endForRestart
  repeat' (first | with_reducible rfl | (simp (disch := decide) only [Dev.mask_ite, ite_self, Dev.wcount_mask, Dev.count_mask, Dev.setCtx_mask, Dev.journalAdd_mask, Dev.setPacket_mask]; done) | split | (dsimp only; split) | rfl)
theorem Dev.ctxParity_mask {T : Nat} (hT : subParts 36893711368960287238 T = true) (d : Dev) (c : ℕ) : (Dev.ctxParity d c).mask T = d.mask T := by
  refine Dev.mask_mono (a := 36893711368960287238) ?_ hT
  unfold Dev.ctxParity
  repeat' (first | with_reducible rfl | (simp (disch := decide) only [Dev.mask_ite, ite_self, Dev.noteCtxError_mask, Dev.latchFault_mask, Dev.countSat_mask, Dev.raise_mask, Dev.restart_mask, Dev.endForRestart_mask]; done) | split | (dsimp only; split) | rfl)
theorem Dev.stopRead_mask {T : Nat} (hT : subParts 295147905179369603072 T = true) (d : Dev) (n : ℕ) (w : WireCmd) (code : ℕ) (detail : ℕ) : (Dev.stopRead d n w code detail).mask T = d.mask T := by
  refine Dev.mask_mono (a := 295147905179369603072) ?_ hT
  unfold Dev.stopRead
  repeat' (first | with_reducible rfl | (simp (disch := decide) only [Dev.mask_ite, ite_self, Dev.noteFailure_mask, Dev.setWire_mask]; done) | split | (dsimp only; split) | rfl)
theorem Dev.dataFailed_mask {T : Nat} (hT : subParts 295147905179371840006 T = true) (d : Dev) (n : ℕ) (w : WireCmd) : (Dev.dataFailed d n w).mask T = d.mask T := by
  refine Dev.mask_mono (a := 295147905179371840006) ?_ hT
  unfold Dev.dataFailed
  repeat' (first | with_reducible rfl | (simp (disch := decide) only [Dev.mask_ite, ite_self, Dev.pulse_mask, Dev.count_mask, Dev.stopRead_mask]; done) | split | (dsimp only; split) | rfl)
theorem Dev.deferReheat_mask {T : Nat} (hT : subParts 549755813890 T = true) (d : Dev) : (Dev.deferReheat d).mask T = d.mask T := by
  refine Dev.mask_mono (a := 549755813890) ?_ hT
  unfold Dev.deferReheat
  repeat' (first | with_reducible rfl | (simp (disch := decide) only [Dev.mask_ite, ite_self, Dev.mask_reheatSeen, Dev.count_mask]; done) | split | (dsimp only; split) | rfl)
theorem Dev.setHostFifo_mask {T : Nat} (hT : subParts 4611686018427387904 T = true) (d : Dev) (q : ℕ) (l : List ℕ) : (Dev.setHostFifo d q l).mask T = d.mask T := by
  refine Dev.mask_mono (a := 4611686018427387904) ?_ hT
  unfold Dev.setHostFifo
  repeat' (first | with_reducible rfl | (simp (disch := decide) only [Dev.mask_ite, ite_self, Dev.mask_host]; done) | split | (dsimp only; split) | rfl)
theorem Dev.popHost_mask {T : Nat} (hT : subParts 4611686018427387906 T = true) (d : Dev) (q : ℕ) : (Dev.popHost d q).mask T = d.mask T := by
  refine Dev.mask_mono (a := 4611686018427387906) ?_ hT
  unfold Dev.popHost
  repeat' (first | with_reducible rfl | (simp (disch := decide) only [Dev.mask_ite, ite_self, Dev.addHostDepth_mask, Dev.setHostFifo_mask]; done) | split | (dsimp only; split) | rfl)
theorem Dev.serveHost_mask {T : Nat} (hT : subParts 41505411677565362694 T = true) (d : Dev) (q : ℕ) : (Dev.serveHost d q).mask T = d.mask T := by
  refine Dev.mask_mono (a := 41505411677565362694) ?_ hT
  unfold Dev.serveHost
  repeat' (first | with_reducible rfl | (simp (disch := decide) only [Dev.mask_ite, ite_self, Dev.popHost_mask, Dev.beginPlacement_mask]; done) | split | (dsimp only; split) | rfl)
theorem Dev.deliverHost_mask {T : Nat} (hT : subParts 41505411677565362694 T = true) (d0 : Dev) : (Dev.deliverHost d0).mask T = d0.mask T := by
  refine Dev.mask_mono (a := 41505411677565362694) ?_ hT
  unfold Dev.deliverHost
  repeat' (first | with_reducible rfl | (simp (disch := decide) only [Dev.mask_ite, ite_self, Dev.mask_host, Dev.refillHost_mask, Dev.dropCopy_mask, Dev.popHost_mask, Dev.serveHost_mask]; done) | split | (dsimp only; split) | rfl)
theorem Dev.failWire_mask {T : Nat} (hT : subParts 443298327437712171558 T = true) (d : Dev) (n : ℕ) (w : WireCmd) (code : ℕ) (detail : ℕ) : (Dev.failWire d n w code detail).mask T = d.mask T := by
  refine Dev.mask_mono (a := 443298327437712171558) ?_ hT
  unfold Dev.failWire
  repeat' (first | with_reducible rfl | (simp (disch := decide) only [Dev.mask_ite, ite_self, Dev.failSession_mask, Dev.setWire_mask, Dev.freeHeld_mask, Dev.checkEntry_mask, Dev.noteFailure_mask]; done) | split | (dsimp only; split) | rfl)
theorem Dev.takeSlot_mask {T : Nat} (hT : subParts 295147905179352825888 T = true) {d : Dev} {n : ℕ} {w : WireCmd} {r} (e : Dev.takeSlot d n w = some r) : r.mask T = d.mask T := by
  refine Dev.mask_mono (a := 295147905179352825888) ?_ hT
  unfold Dev.takeSlot at e
  all_goals try dsimp only at e
  all_goals repeat' (split at e)
  all_goals first | (cases e; done) | (cases e; with_reducible rfl) | (cases e; simp (disch := decide) only [Dev.mask_ite, ite_self, Dev.setSes_mask, Dev.setOutstanding_mask, Dev.setWire_mask]; done)
theorem Dev.tlsSubmit_mask {T : Nat} (hT : subParts 147573952589676412928 T = true) (d : Dev) (s : ℕ) (kind : ℕ) (typ : ℕ) (bs : List Byte) : (Dev.tlsSubmit d s kind typ bs).mask T = d.mask T := by
  refine Dev.mask_mono (a := 147573952589676412928) ?_ hT
  unfold Dev.tlsSubmit
  repeat' (first | with_reducible rfl | (simp (disch := decide) only [Dev.mask_ite, ite_self, Dev.setSxp_mask]; done) | split | (dsimp only; split) | rfl)
theorem Dev.tlsSend_mask {T : Nat} (hT : subParts 147573952589676412928 T = true) (d : Dev) (s : ℕ) (kind : ℕ) (bs : List Byte) : (Dev.tlsSend d s kind bs).mask T = d.mask T := by
  refine Dev.mask_mono (a := 147573952589676412928) ?_ hT
  unfold Dev.tlsSend
  repeat' (first | with_reducible rfl | (simp (disch := decide) only [Dev.mask_ite, ite_self, Dev.tlsSubmit_mask]; done) | split | (dsimp only; split) | rfl)
theorem Dev.sendData_mask {T : Nat} (hT : subParts 295724374848018981414 T = true) {d : Dev} {s : ℕ} {len : ℕ} {r} (e : Dev.sendData d s len = some r) : r.mask T = d.mask T := by
  refine Dev.mask_mono (a := 295724374848018981414) ?_ hT
  unfold Dev.sendData at e
  all_goals try dsimp only at e
  all_goals repeat' (split at e)
  all_goals first | (cases e; done) | (cases e; with_reducible rfl) | (cases e; simp (disch := decide) only [Dev.mask_ite, ite_self, Dev.modSes_mask, Dev.sesSet_mask]; done) | (cases e; exact Dev.sendSegment_mask (by decide) (by assumption)) | (cases e; simp (disch := decide) only [Dev.mask_ite, ite_self, Dev.modSes_mask, Dev.sesSet_mask]; exact Dev.sendSegment_mask (by decide) (by assumption)) | exact Dev.sendSegment_mask (by decide) e | exact (Dev.sendSegment_mask (by decide) e).trans (by simp (disch := decide) only [Dev.mask_ite, ite_self, Dev.modSes_mask, Dev.sesSet_mask]) | exact (Dev.sendSegment_mask (by decide) e).trans (by simp (disch := decide) only [Dev.mask_ite, ite_self, Dev.modSes_mask, Dev.sesSet_mask]; exact Dev.sendSegment_mask (by decide) (by assumption)) | exact (Dev.sendSegment_mask (by decide) e).trans (Dev.sendSegment_mask (by decide) (by assumption))
theorem Dev.pump_mask {T : Nat} (hT : subParts 295724374848018981414 T = true) (d : Dev) (s : ℕ) (x2 : ℕ) : (Dev.pump d s x2).mask T = d.mask T := by
  refine Dev.mask_mono (a := 295724374848018981414) ?_ hT
  clear hT
  induction x2 generalizing d with
  | zero => rfl
  | succ k ih =>
    unfold Dev.pump
    dsimp only
    split
    · rfl
    · split
      · split
        · rfl
        · split
          · rfl
          · rw [ih]; exact Dev.sendData_mask (by decide) (by assumption)
      · split
        · split
          · rfl
          · rw [Dev.sesSet_mask (by decide)]; exact Dev.sendSegment_mask (by decide) (by assumption)
        · rfl
theorem Dev.pumpAll_mask {T : Nat} (hT : subParts 295724374848018981414 T = true) (d : Dev) (s : ℕ) : (Dev.pumpAll d s).mask T = d.mask T := by
  refine Dev.mask_mono (a := 295724374848018981414) ?_ hT
  unfold Dev.pumpAll
  repeat' (first | with_reducible rfl | (simp (disch := decide) only [Dev.mask_ite, ite_self, Dev.pump_mask]; done) | split | (dsimp only; split) | rfl)
theorem Dev.tcpSend_mask {T : Nat} (hT : subParts 295724374848018981414 T = true) (d : Dev) (s : ℕ) (bs : List Byte) : (Dev.tcpSend d s bs).mask T = d.mask T := by
  refine Dev.mask_mono (a := 295724374848018981414) ?_ hT
  unfold Dev.tcpSend
  repeat' (first | with_reducible rfl | (simp (disch := decide) only [Dev.mask_ite, ite_self, Dev.pumpAll_mask, Dev.modSes_mask]; done) | split | (dsimp only; split) | rfl)
theorem Dev.stoSend_mask {T : Nat} (hT : subParts 443298327437695394342 T = true) (d : Dev) (s : ℕ) (bs : List Byte) : (Dev.stoSend d s bs).mask T = d.mask T := by
  refine Dev.mask_mono (a := 443298327437695394342) ?_ hT
  unfold Dev.stoSend
  repeat' (first | with_reducible rfl | (simp (disch := decide) only [Dev.mask_ite, ite_self, Dev.tlsSend_mask, Dev.tcpSend_mask]; done) | split | (dsimp only; split) | rfl)
theorem Dev.sendWire_mask {T : Nat} (hT : subParts 443298327437712171558 T = true) (d : Dev) (n : ℕ) (w : WireCmd) : (Dev.sendWire d n w).mask T = d.mask T := by
  refine Dev.mask_mono (a := 443298327437712171558) ?_ hT
  unfold Dev.sendWire
  repeat' (first | with_reducible rfl | (simp (disch := decide) only [Dev.mask_ite, ite_self, Dev.count_mask, Dev.setWire_mask, Dev.modEntry_mask, Dev.stoSend_mask]; done) | (simp (disch := decide) only [Dev.mask_ite, ite_self, Dev.count_mask, Dev.setWire_mask, Dev.modEntry_mask, Dev.stoSend_mask]; exact Dev.takeSlot_mask (by decide) (by assumption)) | (exact Dev.takeSlot_mask (by decide) (by assumption)) | (refine Dev.mask_getD ?_; intro r hr; exact Dev.takeSlot_mask (by decide) hr) | (simp (disch := decide) only [Dev.mask_ite, ite_self, Dev.count_mask, Dev.setWire_mask, Dev.modEntry_mask, Dev.stoSend_mask]; refine Dev.mask_getD ?_; intro r hr; exact Dev.takeSlot_mask (by decide) hr) | split | (dsimp only; split) | rfl)
theorem Dev.placeRead_mask {T : Nat} (hT : subParts 295147913975448085382 T = true) (d : Dev) (n : ℕ) (off : ℕ) (data : List Byte) : (Dev.placeRead d n off data).mask T = d.mask T := by
  refine Dev.mask_mono (a := 295147913975448085382) ?_ hT
  unfold Dev.placeRead
  repeat' (first | with_reducible rfl | (simp (disch := decide) only [Dev.mask_ite, ite_self, Dev.scatterBytes_mask, Dev.wcount_mask, Dev.setWire_mask, Dev.freeRx_mask]; done) | split | (dsimp only; split) | rfl)
theorem Dev.stoJobEnd_mask {T : Nat} (hT : subParts 443298327437712171942 T = true) (d : Dev) (n : ℕ) (off : ℕ) (code : ℕ) (out : List Byte) : (Dev.stoJobEnd d n off code out).mask T = d.mask T := by
  refine Dev.mask_mono (a := 443298327437712171942) ?_ hT
  unfold Dev.stoJobEnd
  repeat' (first | with_reducible rfl | (simp (disch := decide) only [Dev.mask_ite, ite_self, Dev.failWire_mask, Dev.sendWire_mask, Dev.setWire_mask, Dev.settleWire_mask, Dev.stopRead_mask, Dev.placeRead_mask]; done) | split | (dsimp only; split) | rfl)
theorem Dev.deliverJob_mask {T : Nat} (hT : subParts 443298327437712171942 T = true) (d : Dev) (j : LehrJob) (code : ℕ) (out : List Byte) : (Dev.deliverJob d j code out).mask T = d.mask T := by
  refine Dev.mask_mono (a := 443298327437712171942) ?_ hT
  unfold Dev.deliverJob
  repeat' (first | with_reducible rfl | (simp (disch := decide) only [Dev.mask_ite, ite_self, Dev.cipherEnd_mask, Dev.setSxp_mask, Dev.stoJobEnd_mask]; done) | split | (dsimp only; split) | rfl)
theorem Dev.demand_mask {T : Nat} (hT : subParts 2236934 T = true) (d : Dev) (a : ℕ) : (Dev.demand d a).mask T = d.mask T := by
  refine Dev.mask_mono (a := 2236934) ?_ hT
  unfold Dev.demand
  repeat' (first | with_reducible rfl | (simp (disch := decide) only [Dev.mask_ite, ite_self, Dev.requestWake_mask, Dev.pulse_mask, Dev.count_mask, Dev.setPwr_mask]; done) | split | (dsimp only; split) | rfl)
theorem Dev.deriveCharter_mask {T : Nat} (hT : subParts 4 T = true) (d : Dev) (s : ℕ) : (Dev.deriveCharter d s).mask T = d.mask T := by
  refine Dev.mask_mono (a := 4) ?_ hT
  unfold Dev.deriveCharter
  repeat' (first | with_reducible rfl | (simp (disch := decide) only [Dev.mask_ite, ite_self, Dev.wset_mask]; done) | split | (dsimp only; split) | rfl)
theorem Dev.destroyQueue_mask {T : Nat} (hT : subParts 36893725659137974822 T = true) (d : Dev) (welbor : Bool) (q : ℕ) : (Dev.destroyQueue d welbor q).2.mask T = d.mask T := by
  refine Dev.mask_mono (a := 36893725659137974822) ?_ hT
  unfold Dev.destroyQueue
  repeat' (first | with_reducible rfl | (simp (disch := decide) only [Dev.mask_ite, ite_self, Dev.freeQueue_mask]; done) | split | (dsimp only; split) | rfl)
theorem Dev.dispatchPass_mask {T : Nat} (hT : subParts 36893711365738471942 T = true) (d : Dev) (h : ℕ) (c : ℕ) : (Dev.dispatchPass d h c).mask T = d.mask T := by
  refine Dev.mask_mono (a := 36893711365738471942) ?_ hT
  unfold Dev.dispatchPass
  repeat' (first | with_reducible rfl | (simp (disch := decide) only [Dev.mask_ite, ite_self, Dev.count_mask, Dev.place_mask, Dev.setPacket_mask]; done) | split | (dsimp only; split) | rfl)
theorem Dev.dispatch_mask {T : Nat} (hT : subParts 36893712328884888070 T = true) (d0 : Dev) (h : ℕ) : (Dev.dispatch d0 h).mask T = d0.mask T := by
  refine Dev.mask_mono (a := 36893712328884888070) ?_ hT
  unfold Dev.dispatch
  repeat' (first | with_reducible rfl | (simp (disch := decide) only [Dev.mask_ite, ite_self, Dev.mask_dispatchQ, Dev.mask_reheatQ, Dev.mask_reheatSeen, Dev.mask_reheatQ_reheatSeen, Dev.deferReheat_mask, Dev.restart_mask, Dev.dispatchPass_mask, Dev.fset_mask]; done) | split | (dsimp only; split) | rfl)
theorem Dev.donePass_mask {T : Nat} (hT : subParts 1116962169350 T = true) (d : Dev) (c : ℕ) (x : Ctx) : (Dev.donePass d c x).mask T = d.mask T := by
  refine Dev.mask_mono (a := 1116962169350) ?_ hT
  unfold Dev.donePass
  repeat' (first | with_reducible rfl | (simp (disch := decide) only [Dev.mask_ite, ite_self, Dev.passEnded_mask, Dev.setPacket_mask, Dev.setCtx_mask]; done) | split | (dsimp only; split) | rfl)
theorem Dev.sqDoorbell_mask {T : Nat} (hT : subParts 19014182 T = true) (d : Dev) (q : ℕ) (value : ℕ) : (Dev.sqDoorbell d q value).mask T = d.mask T := by
  refine Dev.mask_mono (a := 19014182) ?_ hT
  unfold Dev.sqDoorbell
  repeat' (first | with_reducible rfl | (simp (disch := decide) only [Dev.mask_ite, ite_self, Dev.setQueue_mask, Dev.queueError_mask, Dev.dropDoorbell_mask]; done) | split | (dsimp only; split) | rfl)
theorem Dev.doorbellWrite_mask {T : Nat} (hT : subParts 405828607133329007142 T = true) (d : Dev) (port : ℕ) (owner : Option ℕ) (n : ℕ) (w : ℕ) : (Dev.doorbellWrite d port owner n w).mask T = d.mask T := by
  refine Dev.mask_mono (a := 405828607133329007142) ?_ hT
  unfold Dev.doorbellWrite
  repeat' (first | with_reducible rfl | (simp (disch := decide) only [Dev.mask_ite, ite_self, Dev.dropDoorbell_mask, Dev.sqDoorbell_mask, Dev.cqDoorbell_mask, Dev.startQueue_mask, Dev.stopQueue_mask, Dev.resetQueue_mask, Dev.resumeQueue_mask]; done) | split | (dsimp only; split) | rfl)
theorem Dev.dwrite_mask {T : Nat} (hT : subParts 64 T = true) (d : Dev) (a : ℕ) (bs : List Byte) : (Dev.dwrite d a bs).mask T = d.mask T := by
  refine Dev.mask_mono (a := 64) ?_ hT
  unfold Dev.dwrite
  repeat' (first | with_reducible rfl | (simp (disch := decide) only [Dev.mask_ite, ite_self, Dev.mask_die]; done) | split | (dsimp only; split) | rfl)
theorem Dev.spaceWrite_mask {T : Nat} (hT : subParts 2130916 T = true) (d : Dev) (space : ℕ) (a : ℕ) (bs : List Byte) (attr : ReqAttr) : (Dev.spaceWrite d space a bs attr).mask T = d.mask T := by
  refine Dev.mask_mono (a := 2130916) ?_ hT
  unfold Dev.spaceWrite
  repeat' (first | with_reducible rfl | (simp (disch := decide) only [Dev.mask_ite, ite_self, Dev.mask_portData, Dev.gwrite_mask, Dev.dwrite_mask, Dev.hwrite_mask]; done) | split | (dsimp only; split) | rfl)
theorem Dev.setPair_mask {T : Nat} (hT : subParts 1048576 T = true) (d : Dev) (n : ℕ) (c : CpxPair) : (Dev.setPair d n c).mask T = d.mask T := by
  refine Dev.mask_mono (a := 1048576) ?_ hT
  unfold Dev.setPair
  repeat' (first | with_reducible rfl | (simp (disch := decide) only [Dev.mask_ite, ite_self, Dev.mask_cpx]; done) | split | (dsimp only; split) | rfl)
theorem Dev.drainPair_mask {T : Nat} (hT : subParts 3179492 T = true) (d : Dev) (pair : ℕ) : (Dev.drainPair d pair).mask T = d.mask T := by
  refine Dev.mask_mono (a := 3179492) ?_ hT
  unfold Dev.drainPair
  repeat' (first | with_reducible rfl | (simp (disch := first | decide | (intros; simp (disch := decide) only [Dev.mask_ite, ite_self, Dev.spaceWrite_mask, Dev.setPair_mask])) only [Dev.mask_foldl, Dev.mask_ite, ite_self, Dev.spaceWrite_mask, Dev.setPair_mask]; done) | split | (dsimp only; split) | rfl | (refine (Dev.mask_foldl ?_ _ _).trans ?_ <;> try intro d a))
theorem Dev.drainRead_mask {T : Nat} (hT : subParts 368934890270286291846 T = true) (d : Dev) (n : ℕ) : (Dev.drainRead d n).mask T = d.mask T := by
  refine Dev.mask_mono (a := 368934890270286291846) ?_ hT
  unfold Dev.drainRead
  repeat' (first | with_reducible rfl | (simp (disch := decide) only [Dev.mask_ite, ite_self, Dev.submitJob_mask, Dev.setWire_mask, Dev.placeRead_mask]; done) | split | (dsimp only; split) | rfl)
theorem Dev.drainSession_mask {T : Nat} (hT : subParts 295724374848018981414 T = true) (d : Dev) (s : ℕ) : (Dev.drainSession d s).mask T = d.mask T := by
  refine Dev.mask_mono (a := 295724374848018981414) ?_ hT
  unfold Dev.drainSession
  repeat' (first | with_reducible rfl | (simp (disch := decide) only [Dev.mask_ite, ite_self, Dev.setSesState_mask, Dev.setSes_mask, Dev.pumpAll_mask]; done) | split | (dsimp only; split) | rfl)
theorem Dev.drawCell_mask {T : Nat} (hT : subParts 1024 T = true) (d : Dev) (free : List ℕ) : (Dev.drawCell d free).2.mask T = d.mask T := by
  refine Dev.mask_mono (a := 1024) ?_ hT
  unfold Dev.drawCell
  repeat' (first | with_reducible rfl | (simp (disch := decide) only [Dev.mask_ite, ite_self, Dev.fresh_mask]; done) | split | (dsimp only; split) | rfl)
theorem Dev.dropCache_mask {T : Nat} (hT : subParts 73786976294838206464 T = true) (d : Dev) (c : ℕ) : (Dev.dropCache d c).mask T = d.mask T := by
  refine Dev.mask_mono (a := 73786976294838206464) ?_ hT
  unfold Dev.dropCache
  repeat' (first | with_reducible rfl | (simp (disch := decide) only [Dev.mask_ite, ite_self, Dev.setLehr_mask]; done) | split | (dsimp only; split) | rfl)
theorem Dev.dropLost_mask {T : Nat} (hT : subParts 36893708066935153158 T = true) (d : Dev) : (Dev.dropLost d).mask T = d.mask T := by
  refine Dev.mask_mono (a := 36893708066935153158) ?_ hT
  unfold Dev.dropLost
  repeat' (first | with_reducible rfl | (simp (disch := first | decide | (intros; simp (disch := decide) only [Dev.mask_ite, ite_self, Dev.dropPacket_mask])) only [Dev.mask_foldl, Dev.mask_ite, ite_self, Dev.dropPacket_mask]; done) | split | (dsimp only; split) | rfl | (refine (Dev.mask_foldl ?_ _ _).trans ?_ <;> try intro d a))
theorem Dev.dropPasid_mask {T : Nat} (hT : subParts 2097152 T = true) (d : Dev) (port : ℕ) (pasid : ℕ) : (Dev.dropPasid d port pasid).mask T = d.mask T := by
  refine Dev.mask_mono (a := 2097152) ?_ hT
  unfold Dev.dropPasid
  repeat' (first | with_reducible rfl | (simp (disch := decide) only [Dev.mask_ite, ite_self, Dev.setHostPort_mask]; done) | split | (dsimp only; split) | rfl)
theorem Dev.sendControl_mask {T : Nat} (hT : subParts 9223372036854776320 T = true) (d : Dev) (m : ℕ) (bs : List Byte) : (Dev.sendControl d m bs).mask T = d.mask T := by
  refine Dev.mask_mono (a := 9223372036854776320) ?_ hT
  unfold Dev.sendControl
  repeat' (first | with_reducible rfl | (simp (disch := decide) only [Dev.mask_ite, ite_self, Dev.emit_mask, Dev.countMac_mask]; done) | split | (dsimp only; split) | rfl)
theorem Dev.tell_mask {T : Nat} (hT : subParts 9223372036854775808 T = true) (d : Dev) (m : ℕ) (cls : ℕ) (on : Bool) : (Dev.tell d m cls on).mask T = d.mask T := by
  refine Dev.mask_mono (a := 9223372036854775808) ?_ hT
  unfold Dev.tell
  repeat' (first | with_reducible rfl | (simp (disch := decide) only [Dev.mask_ite, ite_self, Dev.setMac_mask]; done) | split | (dsimp only; split) | rfl)
theorem Dev.sendFlowControl_mask {T : Nat} (hT : subParts 9223372036854776320 T = true) (d : Dev) (m : ℕ) : (Dev.sendFlowControl d m).mask T = d.mask T := by
  refine Dev.mask_mono (a := 9223372036854776320) ?_ hT
  unfold Dev.sendFlowControl
  repeat' (first | with_reducible rfl | (simp (disch := decide) only [Dev.mask_ite, ite_self, Dev.sendControl_mask, Dev.tell_mask]; done) | split | (dsimp only; split) | rfl)
theorem Dev.dueRefresh_mask {T : Nat} (hT : subParts 9223372036854776320 T = true) (d : Dev) (m : ℕ) (cls : ℕ) : (Dev.dueRefresh d m cls).mask T = d.mask T := by
  refine Dev.mask_mono (a := 9223372036854776320) ?_ hT
  unfold Dev.dueRefresh
  repeat' (first | with_reducible rfl | (simp (disch := decide) only [Dev.mask_ite, ite_self, Dev.sendFlowControl_mask, Dev.setMac_mask]; done) | split | (dsimp only; split) | rfl)
theorem Dev.logBad_mask {T : Nat} (hT : subParts 2236934 T = true) (d : Dev) (bank : ℕ) (kind : ℕ) (slot : ℕ) : (Dev.logBad d bank kind slot).mask T = d.mask T := by
  refine Dev.mask_mono (a := 2236934) ?_ hT
  unfold Dev.logBad
  repeat' (first | with_reducible rfl | (simp (disch := decide) only [Dev.mask_ite, ite_self, Dev.countSat_mask, Dev.fset_mask, Dev.pulse_mask, Dev.latchFault_mask]; done) | split | (dsimp only; split) | rfl)
theorem Dev.scan_mask {T : Nat} (hT : subParts 2236934 T = true) (d : Dev) (t : ℕ) (k : List Byte) (x3 : List Cand) : (Dev.scan d t k x3).2.2.mask T = d.mask T := by
  refine Dev.mask_mono (a := 2236934) ?_ hT
  clear hT
  induction x3 generalizing d t k <;> unfold Dev.scan
  repeat' (first | with_reducible rfl | (simp (disch := decide) only [Dev.mask_ite, ite_self, *, Dev.logBad_mask]; done) | split | (dsimp only; split) | rfl)
theorem Dev.findKey_mask {T : Nat} (hT : subParts 2236934 T = true) (d : Dev) (t : ℕ) (k : List Byte) : (Dev.findKey d t k).2.2.mask T = d.mask T := by
  refine Dev.mask_mono (a := 2236934) ?_ hT
  unfold Dev.findKey
  repeat' (first | with_reducible rfl | (simp (disch := decide) only [Dev.mask_ite, ite_self, Dev.scan_mask]; done) | split | (dsimp only; split) | rfl)
theorem Dev.probeKey_mask {T : Nat} (hT : subParts 2237958 T = true) (d : Dev) (t : ℕ) (k : List Byte) : (Dev.probeKey d t k).2.2.mask T = d.mask T := by
  refine Dev.mask_mono (a := 2237958) ?_ hT
  unfold Dev.probeKey
  repeat' (first | with_reducible rfl | (simp (disch := first | decide | (intros; simp (disch := decide) only [Dev.mask_ite, ite_self, Dev.findKey_mask, Dev.countProbe_mask])) only [Dev.mask_foldl, Dev.mask_ite, ite_self, Dev.findKey_mask, Dev.countProbe_mask]; done) | split | (dsimp only; split) | rfl | (refine (Dev.mask_foldl ?_ _ _).trans ?_ <;> try intro d a))
theorem Dev.emProbe_mask {T : Nat} (hT : subParts 18014398511719942 T = true) (d : Dev) (t : ℕ) (md : List Byte) : (Dev.emProbe d t md).2.mask T = d.mask T := by
  refine Dev.mask_mono (a := 18014398511719942) ?_ hT
  unfold Dev.emProbe
  repeat' (first | with_reducible rfl | (simp (disch := decide) only [Dev.mask_ite, ite_self, Dev.probeKey_mask, Dev.askRefresh_mask]; done) | split | (dsimp only; split) | rfl)
theorem Dev.endSessions_mask {T : Nat} (hT : subParts 1180591620717411303424 T = true) (d : Dev) (sel : ℕ → Transport → Bool) : (Dev.endSessions d sel).mask T = d.mask T := by
  refine Dev.mask_mono (a := 1180591620717411303424) ?_ hT
  unfold Dev.endSessions
  repeat' (first | with_reducible rfl | (simp (disch := decide) only [Dev.mask_ite, ite_self, Dev.mask_wel]; done) | split | (dsimp only; split) | rfl)
theorem Dev.emptyChannel_mask {T : Nat} (hT : subParts 1770887431076127580678 T = true) (d : Dev) (s : ℕ) : (Dev.emptyChannel d s).mask T = d.mask T := by
  refine Dev.mask_mono (a := 1770887431076127580678) ?_ hT
  unfold Dev.emptyChannel
  repeat' (first | with_reducible rfl | (simp (disch := decide) only [Dev.mask_ite, ite_self, Dev.mailPop_mask, Dev.endSessions_mask, Dev.setChannel_mask]; done) | split | (dsimp only; split) | rfl)
theorem Dev.enablePage_mask {T : Nat} (hT : subParts 46117097695975973406 T = true) (d : Dev) (base : ℕ) : (Dev.enablePage d base).mask T = d.mask T := by
  refine Dev.mask_mono (a := 46117097695975973406) ?_ hT
  unfold Dev.enablePage
  repeat' (first | with_reducible rfl | (simp (disch := decide) only [Dev.mask_ite, ite_self, Dev.enableChanged_mask, Dev.fsetP_mask]; done) | split | (dsimp only; split) | rfl)
theorem Dev.endCpx_mask {T : Nat} (hT : subParts 1180591620717413540422 T = true) (d : Dev) (ims : List BootImage) : (Dev.endCpx d ims).mask T = d.mask T := by
  refine Dev.mask_mono (a := 1180591620717413540422) ?_ hT
  unfold Dev.endCpx
  repeat' (first | with_reducible rfl | (simp (disch := first | decide | (intros; simp (disch := decide) only [Dev.mask_ite, ite_self, Dev.bootFail_mask, Dev.dwrite_mask, Dev.measure_mask, Dev.fset_mask, Dev.setBootStage_mask])) only [Dev.mask_foldl, Dev.mask_ite, ite_self, Dev.bootFail_mask, Dev.dwrite_mask, Dev.measure_mask, Dev.fset_mask, Dev.setBootStage_mask]; done) | split | (dsimp only; split) | rfl | (refine (Dev.mask_foldl ?_ _ _).trans ?_ <;> try intro d a))
theorem Dev.endDescriptor_mask {T : Nat} (hT : subParts 2236934 T = true) (d : Dev) (m : ℕ) : (Dev.endDescriptor d m).mask T = d.mask T := by
  refine Dev.mask_mono (a := 2236934) ?_ hT
  unfold Dev.endDescriptor
  repeat' (first | with_reducible rfl | (simp (disch := decide) only [Dev.mask_ite, ite_self, Dev.setMover_mask, Dev.pulse_mask, Dev.setMoverState_mask, Dev.wcount_mask, Dev.startChain_mask, Dev.fset_mask]; done) | split | (dsimp only; split) | rfl)
theorem Dev.endFirmware_mask {T : Nat} (hT : subParts 1180591620717413540358 T = true) (d : Dev) (ims : List BootImage) : (Dev.endFirmware d ims).mask T = d.mask T := by
  refine Dev.mask_mono (a := 1180591620717413540358) ?_ hT
  unfold Dev.endFirmware
  repeat' (first | with_reducible rfl | (simp (disch := decide) only [Dev.mask_ite, ite_self, Dev.setWel_mask, Dev.measure_mask, Dev.setBootStage_mask, Dev.fset_mask, Dev.bootFail_mask]; done) | split | (dsimp only; split) | rfl)
theorem Dev.loadTimer_mask {T : Nat} (hT : subParts 9223372036854775808 T = true) (d : Dev) (m : ℕ) (timer : ℕ) (tc : ℕ) (time : ℕ) : (Dev.loadTimer d m timer tc time).mask T = d.mask T := by
  refine Dev.mask_mono (a := 9223372036854775808) ?_ hT
  unfold Dev.loadTimer
  repeat' (first | with_reducible rfl | (simp (disch := decide) only [Dev.mask_ite, ite_self, Dev.setMac_mask]; done) | split | (dsimp only; split) | rfl)
theorem Dev.takePause_mask {T : Nat} (hT : subParts 9223372036854775810 T = true) (d : Dev) (m : ℕ) (time : ℕ) : (Dev.takePause d m time).mask T = d.mask T := by
  refine Dev.mask_mono (a := 9223372036854775810) ?_ hT
  unfold Dev.takePause
  repeat' (first | with_reducible rfl | (simp (disch := decide) only [Dev.mask_ite, ite_self, Dev.countMac_mask, Dev.updatePaused_mask, Dev.loadTimer_mask]; done) | split | (dsimp only; split) | rfl)
theorem Dev.takePfc_mask {T : Nat} (hT : subParts 9223372036854775810 T = true) (d : Dev) (m : ℕ) (bs : List Byte) : (Dev.takePfc d m bs).mask T = d.mask T := by
  refine Dev.mask_mono (a := 9223372036854775810) ?_ hT
  unfold Dev.takePfc
  repeat' (first | with_reducible rfl | (simp (disch := first | decide | (intros; simp (disch := decide) only [Dev.mask_ite, ite_self, Dev.countMac_mask, Dev.updatePaused_mask, Dev.loadTimer_mask])) only [Dev.mask_foldl, Dev.mask_ite, ite_self, Dev.countMac_mask, Dev.updatePaused_mask, Dev.loadTimer_mask]; done) | split | (dsimp only; split) | rfl | (refine (Dev.mask_foldl ?_ _ _).trans ?_ <;> try intro d a))
theorem Dev.takeControl_mask {T : Nat} (hT : subParts 9223372036854775810 T = true) (d : Dev) (m : ℕ) (bs : List Byte) : (Dev.takeControl d m bs).mask T = d.mask T := by
  refine Dev.mask_mono (a := 9223372036854775810) ?_ hT
  unfold Dev.takeControl
  repeat' (first | with_reducible rfl | (simp (disch := decide) only [Dev.mask_ite, ite_self, Dev.countMac_mask, Dev.takePause_mask, Dev.takePfc_mask]; done) | split | (dsimp only; split) | rfl)
theorem Dev.endFrame_mask {T : Nat} (hT : subParts 46117097902134403590 T = true) (d : Dev) (m : ℕ) (bs : List Byte) (codeError : Bool) : (Dev.endFrame d m bs codeError).mask T = d.mask T := by
  refine Dev.mask_mono (a := 46117097902134403590) ?_ hT
  unfold Dev.endFrame
  repeat' (first | with_reducible rfl | (simp (disch := decide) only [Dev.mask_ite, ite_self, Dev.rejectFrame_mask, Dev.takeControl_mask, Dev.discardFrame_mask, Dev.countMac_mask, Dev.completeFrame_mask, Dev.refreshMac_mask, Dev.setMac_mask]; done) | split | (dsimp only; split) | rfl)
theorem Dev.endHoldUp_mask {T : Nat} (hT : subParts 131072 T = true) (d : Dev) : (Dev.endHoldUp d).mask T = d.mask T := by
  refine Dev.mask_mono (a := 131072) ?_ hT
  unfold Dev.endHoldUp
  repeat' (first | with_reducible rfl | (simp (disch := decide) only [Dev.mask_ite, ite_self, Dev.setPwr_mask]; done) | split | (dsimp only; split) | rfl)
theorem Dev.showSlices_mask {T : Nat} (hT : subParts 2 T = true) (d : Dev) : (Dev.showSlices d).mask T = d.mask T := by
  refine Dev.mask_mono (a := 2) ?_ hT
  unfold Dev.showSlices
  repeat' (first | with_reducible rfl | (simp (disch := decide) only [Dev.mask_ite, ite_self, Dev.fset_mask]; done) | split | (dsimp only; split) | rfl)
theorem Dev.endQuarantine_mask {T : Nat} (hT : subParts 10625542 T = true) (d : Dev) (s : ℕ) : (Dev.endQuarantine d s).mask T = d.mask T := by
  refine Dev.mask_mono (a := 10625542) ?_ hT
  unfold Dev.endQuarantine
  repeat' (first | with_reducible rfl | (simp (disch := decide) only [Dev.mask_ite, ite_self, Dev.pulse_mask, Dev.showSlices_mask, Dev.setSlice_mask]; done) | split | (dsimp only; split) | rfl)
theorem Dev.endQueue_mask {T : Nat} (hT : subParts 405828607133329007142 T = true) (d : Dev) (q : ℕ) : (Dev.endQueue d q).mask T = d.mask T := by
  refine Dev.mask_mono (a := 405828607133329007142) ?_ hT
  unfold Dev.endQueue
  repeat' (first | with_reducible rfl | (simp (disch := decide) only [Dev.mask_ite, ite_self, Dev.teardownQueue_mask, Dev.resetQueue_mask, Dev.beginStop_mask, Dev.settle_mask, Dev.setQState_mask]; done) | split | (dsimp only; split) | rfl)
theorem Dev.opOutcome_mask {T : Nat} (hT : subParts 2 T = true) (d : Dev) (i : Inserted) : (Dev.opOutcome d i).mask T = d.mask T := by
  refine Dev.mask_mono (a := 2) ?_ hT
  unfold Dev.opOutcome
  repeat' (first | with_reducible rfl | (simp (disch := decide) only [Dev.mask_ite, ite_self, Dev.fset_mask]; done) | split | (dsimp only; split) | rfl)
theorem Dev.endRebuild_mask {T : Nat} (hT : subParts 289356276094345734 T = true) (d : Dev) : (Dev.endRebuild d).mask T = d.mask T := by
  refine Dev.mask_mono (a := 289356276094345734) ?_ hT
  unfold Dev.endRebuild
  repeat' (first | with_reducible rfl | (simp (disch := first | decide | (intros; simp (disch := decide) only [Dev.mask_ite, ite_self, Dev.mask_rebuild, Dev.bloomSet_mask, Dev.portEnd_mask, Dev.opOutcome_mask, Dev.wset_mask])) only [Dev.mask_foldl, Dev.mask_ite, ite_self, Dev.mask_rebuild, Dev.bloomSet_mask, Dev.portEnd_mask, Dev.opOutcome_mask, Dev.wset_mask]; done) | split | (dsimp only; split) | rfl | (refine (Dev.mask_foldl ?_ _ _).trans ?_ <;> try intro d a))
theorem Dev.selectGeneration_mask {T : Nat} (hT : subParts 2236934 T = true) (d : Dev) : (Dev.selectGeneration d).mask T = d.mask T := by
  refine Dev.mask_mono (a := 2236934) ?_ hT
  unfold Dev.selectGeneration
  repeat' (first | with_reducible rfl | (simp (disch := first | decide | (intros; simp (disch := decide) only [Dev.mask_ite, ite_self, Dev.fset_mask, Dev.latchFault_mask, Dev.pulse_mask])) only [Dev.mask_foldl, Dev.mask_ite, ite_self, Dev.fset_mask, Dev.latchFault_mask, Dev.pulse_mask]; done) | split | (dsimp only; split) | rfl | (refine (Dev.mask_foldl ?_ _ _).trans ?_ <;> try intro d a))
theorem Dev.endRom_mask {T : Nat} (hT : subParts 1180591620717414064646 T = true) (d : Dev) (pass : Bool) : (Dev.endRom d pass).mask T = d.mask T := by
  refine Dev.mask_mono (a := 1180591620717414064646) ?_ hT
  unfold Dev.endRom
  repeat' (first | with_reducible rfl | (simp (disch := decide) only [Dev.mask_ite, ite_self, Dev.bootFail_mask, Dev.applyGeneration_mask, Dev.selectGeneration_mask, Dev.setBootStage_mask, Dev.measure_mask]; done) | split | (dsimp only; split) | rfl)
theorem Dev.endSession_mask {T : Nat} (hT : subParts 1180591620717411303424 T = true) (d : Dev) (n : ℕ) : (Dev.endSession d n).mask T = d.mask T := by
  refine Dev.mask_mono (a := 1180591620717411303424) ?_ hT
  unfold Dev.endSession
  repeat' (first | with_reducible rfl | (simp (disch := decide) only [Dev.mask_ite, ite_self, Dev.endSessions_mask]; done) | split | (dsimp only; split) | rfl)
theorem Dev.endStage_mask {T : Nat} (hT : subParts 1180591620717414064710 T = true) (d : Dev) (pass : Bool) (ims : List BootImage) : (Dev.endStage d pass ims).mask T = d.mask T := by
  refine Dev.mask_mono (a := 1180591620717414064710) ?_ hT
  unfold Dev.endStage
  repeat' (first | with_reducible rfl | (simp (disch := decide) only [Dev.mask_ite, ite_self, Dev.endRom_mask, Dev.endFirmware_mask, Dev.endCpx_mask]; done) | split | (dsimp only; split) | rfl)
theorem Dev.frameBoundary_mask {T : Nat} (hT : subParts 46117097695975973382 T = true) (d : Dev) (m : ℕ) : (Dev.frameBoundary d m).mask T = d.mask T := by
  refine Dev.mask_mono (a := 46117097695975973382) ?_ hT
  unfold Dev.frameBoundary
  repeat' (first | with_reducible rfl | (simp (disch := decide) only [Dev.mask_ite, ite_self, Dev.refreshMac_mask, Dev.updatePaused_mask, Dev.setMac_mask]; done) | split | (dsimp only; split) | rfl)
theorem Dev.recordTime_mask {T : Nat} (hT : subParts 46116860184276115974 T = true) (d : Dev) (m : ℕ) (c : Copy) : (Dev.recordTime d m c).mask T = d.mask T := by
  refine Dev.mask_mono (a := 46116860184276115974) ?_ hT
  unfold Dev.recordTime
  repeat' (first | with_reducible rfl | (simp (disch := decide) only [Dev.mask_ite, ite_self, Dev.mask_sentQ, Dev.pulse_mask, Dev.setStamps_mask, Dev.latchFault_mask, Dev.countMac_mask]; done) | split | (dsimp only; split) | rfl)
theorem Dev.endTransmit_mask {T : Nat} (hT : subParts 46117097695975973382 T = true) (d : Dev) (m : ℕ) : (Dev.endTransmit d m).mask T = d.mask T := by
  refine Dev.mask_mono (a := 46117097695975973382) ?_ hT
  unfold Dev.endTransmit
  repeat' (first | with_reducible rfl | (simp (disch := decide) only [Dev.mask_ite, ite_self, Dev.frameBoundary_mask, Dev.countMac_mask, Dev.countTxWire_mask, Dev.wcount_mask, Dev.countTc_mask, Dev.emit_mask, Dev.recordTime_mask, Dev.endCopy_mask]; done) | split | (dsimp only; split) | rfl)
theorem Dev.endTwi_mask {T : Nat} (hT : subParts 35791366 T = true) (d : Dev) (g : ℕ) (data : Option (BitVec 8)) : (Dev.endTwi d g data).mask T = d.mask T := by
  refine Dev.mask_mono (a := 35791366) ?_ hT
  unfold Dev.endTwi
  repeat' (first | with_reducible rfl | (simp (disch := decide) only [Dev.mask_ite, ite_self, Dev.setPort_mask, Dev.fset_mask, Dev.latchFault_mask, Dev.pulse_mask]; done) | split | (dsimp only; split) | rfl)
theorem Dev.endWaiting_mask {T : Nat} (hT : subParts 295147913975473250822 T = true) (d : Dev) (s : ℕ) : (Dev.endWaiting d s).mask T = d.mask T := by
  refine Dev.mask_mono (a := 295147913975473250822) ?_ hT
  unfold Dev.endWaiting
  repeat' (first | with_reducible rfl | (simp (disch := first | decide | (intros; simp (disch := decide) only [Dev.mask_ite, ite_self, Dev.failStorage_mask])) only [Dev.mask_foldl, Dev.mask_ite, ite_self, Dev.failStorage_mask]; done) | split | (dsimp only; split) | rfl | (refine (Dev.mask_foldl ?_ _ _).trans ?_ <;> try intro d a))
theorem Dev.endWalk_mask {T : Nat} (hT : subParts 36893708066935154182 T = true) (d : Dev) (h : ℕ) (e : ℕ) (w : Walk) : (Dev.endWalk d h e w).mask T = d.mask T := by
  refine Dev.mask_mono (a := 36893708066935154182) ?_ hT
  unfold Dev.endWalk
  repeat' (first | with_reducible rfl | (simp (disch := decide) only [Dev.mask_ite, ite_self, Dev.wcount_mask, Dev.count_mask, Dev.countMisses_mask, Dev.latchWhen_mask, Dev.setPacket_mask, Dev.pulse_mask, Dev.clsDrop_mask, Dev.latchFault_mask]; done) | split | (dsimp only; split) | rfl)
theorem Dev.setTcDepth_mask {T : Nat} (hT : subParts 2 T = true) (d : Dev) (m : ℕ) (t : ℕ) (n : ℕ) : (Dev.setTcDepth d m t n).mask T = d.mask T := by
  refine Dev.mask_mono (a := 2) ?_ hT
  unfold Dev.setTcDepth
  repeat' (first | with_reducible rfl | (simp (disch := decide) only [Dev.mask_ite, ite_self, Dev.fset_mask]; done) | split | (dsimp only; split) | rfl)
theorem Dev.enqueuePort_mask {T : Nat} (hT : subParts 39199568668334891526 T = true) (d : Dev) (n : ℕ) (c : Copy) : (Dev.enqueuePort d n c).mask T = d.mask T := by
  refine Dev.mask_mono (a := 39199568668334891526) ?_ hT
  unfold Dev.enqueuePort
  repeat' (first | with_reducible rfl | (simp (disch := decide) only [Dev.mask_ite, ite_self, Dev.dropAtPort_mask, Dev.setSched_mask, Dev.setCopy_mask, Dev.countTc_mask, Dev.setTcDepth_mask]; done) | split | (dsimp only; split) | rfl)
theorem Dev.enqueueHost_mask {T : Nat} (hT : subParts 41505411677548585478 T = true) (d : Dev) (n : ℕ) (q : ℕ) (c : Copy) : (Dev.enqueueHost d n q c).mask T = d.mask T := by
  refine Dev.mask_mono (a := 41505411677548585478) ?_ hT
  unfold Dev.enqueueHost
  repeat' (first | with_reducible rfl | (simp (disch := decide) only [Dev.mask_ite, ite_self, Dev.dropCopy_mask, Dev.addHostDepth_mask, Dev.setHostFifo_mask, Dev.setCopy_mask]; done) | split | (dsimp only; split) | rfl)
theorem Dev.enqueueSto_mask {T : Nat} (hT : subParts 41505411677548585478 T = true) (d : Dev) (n : ℕ) (c : Copy) : (Dev.enqueueSto d n c).mask T = d.mask T := by
  refine Dev.mask_mono (a := 41505411677548585478) ?_ hT
  unfold Dev.enqueueSto
  repeat' (first | with_reducible rfl | (simp (disch := decide) only [Dev.mask_ite, ite_self, Dev.mask_host, Dev.dropCopy_mask, Dev.setCopy_mask, Dev.addHostDepth_mask]; done) | split | (dsimp only; split) | rfl)
theorem Dev.enqueueCopy_mask {T : Nat} (hT : subParts 43811254686762279430 T = true) (d : Dev) (n : ℕ) : (Dev.enqueueCopy d n).mask T = d.mask T := by
  refine Dev.mask_mono (a := 43811254686762279430) ?_ hT
  unfold Dev.enqueueCopy
  repeat' (first | with_reducible rfl | (simp (disch := decide) only [Dev.mask_ite, ite_self, Dev.enqueuePort_mask, Dev.dropCopy_mask, Dev.enqueueHost_mask, Dev.enqueueSto_mask]; done) | split | (dsimp only; split) | rfl)
theorem Dev.enterFrame_mask {T : Nat} (hT : subParts 9053818462726 T = true) (d : Dev) (q : ℕ) (e : QueueEntry) (die : ℕ) (deep : ℕ) : (Dev.enterFrame d q e die deep).mask T = d.mask T := by
  refine Dev.mask_mono (a := 9053818462726) ?_ hT
  unfold Dev.enterFrame
  repeat' (first | with_reducible rfl | (simp (disch := decide) only [Dev.mask_ite, ite_self, Dev.gatherBytes_mask, Dev.newPacket_mask, Dev.nextSeq_mask, Dev.countSpill_mask, Dev.queueFirst_mask, Dev.holdSlice_mask, Dev.modPacket_mask, Dev.modEntry_mask, Dev.endWith_mask]; done) | split | (dsimp only; split) | rfl)
theorem Dev.enterL1_mask {T : Nat} (hT : subParts 2097152 T = true) (d : Dev) (n : ℕ) : (Dev.enterL1 d n).mask T = d.mask T := by
  refine Dev.mask_mono (a := 2097152) ?_ hT
  unfold Dev.enterL1
  repeat' (first | with_reducible rfl | (simp (disch := decide) only [Dev.mask_ite, ite_self, Dev.setHostPort_mask]; done) | split | (dsimp only; split) | rfl)
theorem Dev.sendAck_mask {T : Nat} (hT : subParts 576469668666155526 T = true) (d : Dev) (s : ℕ) : (Dev.sendAck d s).mask T = d.mask T := by
  refine Dev.mask_mono (a := 576469668666155526) ?_ hT
  unfold Dev.sendAck
  repeat' (first | with_reducible rfl | (simp (disch := decide) only [Dev.mask_ite, ite_self, Dev.sendBare_mask]; done) | split | (dsimp only; split) | rfl)
theorem Dev.sendIcReq_mask {T : Nat} (hT : subParts 443298327437695394342 T = true) (d : Dev) (s : ℕ) : (Dev.sendIcReq d s).mask T = d.mask T := by
  refine Dev.mask_mono (a := 443298327437695394342) ?_ hT
  unfold Dev.sendIcReq
  repeat' (first | with_reducible rfl | (simp (disch := decide) only [Dev.mask_ite, ite_self, Dev.stoSend_mask, Dev.setSesState_mask]; done) | split | (dsimp only; split) | rfl)
theorem Dev.establish_mask {T : Nat} (hT : subParts 443298327437695394342 T = true) (d : Dev) (s : ℕ) (g : Segmented) : (Dev.establish d s g).mask T = d.mask T := by
  refine Dev.mask_mono (a := 443298327437695394342) ?_ hT
  unfold Dev.establish
  repeat' (first | with_reducible rfl | (simp (disch := decide) only [Dev.mask_ite, ite_self, Dev.measureRtt_mask, Dev.sesSet_mask, Dev.modSes_mask, Dev.setSesState_mask, Dev.sendAck_mask, Dev.sendIcReq_mask]; done) | split | (dsimp only; split) | rfl)
theorem Dev.inSession_mask {T : Nat} (hT : subParts 0 T = true) (d : Dev) (n : ℕ) (f : Dev → SpdmSession → Dev) (hf : ∀ d a0, (f d a0).mask T = d.mask T) : (Dev.inSession d n f).mask T = d.mask T := by
  unfold Dev.inSession
  repeat' (first | with_reducible rfl | (simp (disch := exact subParts_trans (by decide) hT) only [Dev.mask_ite, ite_self, hf]; done) | split | (dsimp only; split) | rfl)
theorem Dev.viaSend_mask {T : Nat} (hT : subParts 1180591620717411303936 T = true) (d : Dev) (via : Transport) (code : ℕ) (typ : ℕ) (bs : List Byte) : (Dev.viaSend d via code typ bs).mask T = d.mask T := by
  refine Dev.mask_mono (a := 1180591620717411303936) ?_ hT
  unfold Dev.viaSend
  repeat' (first | with_reducible rfl | (simp (disch := decide) only [Dev.mask_ite, ite_self, Dev.oweChunks_mask, Dev.setChannel_mask, Dev.emit_mask]; done) | split | (dsimp only; split) | rfl)
theorem Dev.spdmAnswer_mask {T : Nat} (hT : subParts 1180591620717411303936 T = true) (d : Dev) (via : Transport) (code : ℕ) (p1 : ℕ) (p2 : ℕ) (bs : List Byte) : (Dev.spdmAnswer d via code p1 p2 bs).mask T = d.mask T := by
  refine Dev.mask_mono (a := 1180591620717411303936) ?_ hT
  unfold Dev.spdmAnswer
  repeat' (first | with_reducible rfl | (simp (disch := decide) only [Dev.mask_ite, ite_self, Dev.viaSend_mask]; done) | split | (dsimp only; split) | rfl)
theorem Dev.spdmError_mask {T : Nat} (hT : subParts 1180591620717411303936 T = true) (d : Dev) (via : Transport) (code : ℕ) : (Dev.spdmError d via code).mask T = d.mask T := by
  refine Dev.mask_mono (a := 1180591620717411303936) ?_ hT
  unfold Dev.spdmError
  repeat' (first | with_reducible rfl | (simp (disch := decide) only [Dev.mask_ite, ite_self, Dev.spdmAnswer_mask]; done) | split | (dsimp only; split) | rfl)
theorem Dev.established_mask {T : Nat} (hT : subParts 1180591620717411303936 T = true) (d : Dev) (n : ℕ) (f : Dev → SpdmSession → Dev) (hf : ∀ d a0, (f d a0).mask T = d.mask T) : (Dev.established d n f).mask T = d.mask T := by
  unfold Dev.established
  repeat' (first | with_reducible rfl | (simp (disch := first | exact subParts_trans (by decide) hT | (intros; (repeat' (first | with_reducible rfl | (simp (disch := exact subParts_trans (by decide) hT) only [Dev.mask_ite, ite_self, Dev.inSession_mask, Dev.spdmError_mask, hf]; done) | split | (dsimp only; split))))) only [Dev.mask_foldl, Dev.mask_ite, ite_self, Dev.inSession_mask, Dev.spdmError_mask, hf]; done) | split | (dsimp only; split) | rfl | (refine (Dev.mask_foldl ?_ _ _).trans ?_ <;> try intro d a))
theorem Dev.putEntry_mask {T : Nat} (hT : subParts 1125899915755556 T = true) (d : Dev) (t : ℕ) (image : List ℕ) (learned : Bool) (slot : ℕ) : (Dev.putEntry d t image learned slot).mask T = d.mask T := by
  refine Dev.mask_mono (a := 1125899915755556) ?_ hT
  unfold Dev.putEntry
  repeat' (first | with_reducible rfl | (simp (disch := decide) only [Dev.mask_ite, ite_self, Dev.countPrefix_mask, Dev.ownEntry_mask, Dev.writeSlot_mask, Dev.bloomSet_mask]; done) | split | (dsimp only; split) | rfl)
theorem Dev.moveAll_mask {T : Nat} (hT : subParts 524320 T = true) (d : Dev) (f : ℕ) (x2 : List (ℕ × List ℕ)) : (Dev.moveAll d f x2).2.mask T = d.mask T := by
  refine Dev.mask_mono (a := 524320) ?_ hT
  clear hT
  induction x2 generalizing d f <;> unfold Dev.moveAll
  repeat' (first | with_reducible rfl | (simp (disch := decide) only [Dev.mask_ite, ite_self, *, Dev.writeSlot_mask]; done) | split | (dsimp only; split) | rfl)
theorem Dev.relocate_mask {T : Nat} (hT : subParts 2762278 T = true) (d : Dev) (v : ℕ) (x2 : ℕ) (x3 : ℕ) (x4 : List (ℕ × List ℕ)) : (Dev.relocate d v x2 x3 x4).2.mask T = d.mask T := by
  refine Dev.mask_mono (a := 2762278) ?_ hT
  clear hT
  induction x2 generalizing d v x3 x4 <;> unfold Dev.relocate
  repeat' (first | with_reducible rfl | (simp (disch := decide) only [Dev.mask_ite, ite_self, *, Dev.fresh_mask, Dev.moveAll_mask, Dev.pulse_mask]; done) | split | (dsimp only; split) | rfl)
theorem Dev.markTouched_mask {T : Nat} (hT : subParts 17179869184 T = true) (d : Dev) (t : ℕ) (bs : List ℕ) : (Dev.markTouched d t bs).mask T = d.mask T := by
  refine Dev.mask_mono (a := 17179869184) ?_ hT
  unfold Dev.markTouched
  repeat' (first | with_reducible rfl | (simp (disch := decide) only [Dev.mask_ite, ite_self, Dev.mask_packets]; done) | split | (dsimp only; split) | rfl)
theorem Dev.victim_mask {T : Nat} (hT : subParts 1024 T = true) (d : Dev) (t : ℕ) (k : List Byte) : (Dev.victim d t k).2.mask T = d.mask T := by
  refine Dev.mask_mono (a := 1024) ?_ hT
  unfold Dev.victim
  repeat' (first | with_reducible rfl | (simp (disch := decide) only [Dev.mask_ite, ite_self, Dev.fresh_mask]; done) | split | (dsimp only; split) | rfl)
theorem Dev.insertNew_mask {T : Nat} (hT : subParts 8162791515629094 T = true) (d : Dev) (t : ℕ) (image : List ℕ) (k : List Byte) (noevict : Bool) (learned : Bool) : (Dev.insertNew d t image k noevict learned).2.mask T = d.mask T := by
  refine Dev.mask_mono (a := 8162791515629094) ?_ hT
  unfold Dev.insertNew
  repeat' (first | with_reducible rfl | (simp (disch := decide) only [Dev.mask_ite, ite_self, Dev.putEntry_mask, Dev.fresh_mask, Dev.relocate_mask, Dev.markTouched_mask, Dev.setOvfTag_mask, Dev.setOvfUsed_mask, Dev.noteHold_mask, Dev.victim_mask, Dev.pulse_mask, Dev.count_mask, Dev.notify_mask, Dev.countPrefix_mask, Dev.ownEntry_mask]; done) | split | (dsimp only; split) | rfl)
theorem Dev.executeLearn_mask {T : Nat} (hT : subParts 35184389279852070 T = true) (d : Dev) : (Dev.executeLearn d).mask T = d.mask T := by
  refine Dev.mask_mono (a := 35184389279852070) ?_ hT
  unfold Dev.executeLearn
  repeat' (first | with_reducible rfl | (simp (disch := decide) only [Dev.mask_ite, ite_self, Dev.mask_learnQ, Dev.fset_mask, Dev.dropLearn_mask, Dev.findKey_mask, Dev.count_mask, Dev.askRefresh_mask, Dev.noteHold_mask, Dev.writeSlot_mask, Dev.notify_mask, Dev.insertNew_mask]; done) | split | (dsimp only; split) | rfl)
theorem Dev.wakeFail_mask {T : Nat} (hT : subParts 2236934 T = true) (d : Dev) (attempts : ℕ) (step : ℕ) (unit : ℕ) : (Dev.wakeFail d attempts step unit).mask T = d.mask T := by
  refine Dev.mask_mono (a := 2236934) ?_ hT
  unfold Dev.wakeFail
  repeat' (first | with_reducible rfl | (simp (disch := decide) only [Dev.mask_ite, ite_self, Dev.wr_mask, Dev.setPwr_mask, Dev.emit_mask, Dev.pulse_mask]; done) | split | (dsimp only; split) | rfl)
theorem Dev.exitTimeout_mask {T : Nat} (hT : subParts 2236934 T = true) (d : Dev) (step : ℕ) (unit : ℕ) : (Dev.exitTimeout d step unit).mask T = d.mask T := by
  refine Dev.mask_mono (a := 2236934) ?_ hT
  unfold Dev.exitTimeout
  repeat' (first | with_reducible rfl | (simp (disch := decide) only [Dev.mask_ite, ite_self, Dev.pulse_mask, Dev.count_mask, Dev.setPwr_mask, Dev.wakeFail_mask]; done) | split | (dsimp only; split) | rfl)
theorem Dev.failRead_mask {T : Nat} (hT : subParts 19014182 T = true) (d : Dev) (t : ReadTarget) (fetchCode : ℕ) (endCode : ℕ) : (Dev.failRead d t fetchCode endCode).mask T = d.mask T := by
  refine Dev.mask_mono (a := 19014182) ?_ hT
  unfold Dev.failRead
  repeat' (first | with_reducible rfl | (simp (disch := decide) only [Dev.mask_ite, ite_self, Dev.queueError_mask, Dev.endWith_mask]; done) | split | (dsimp only; split) | rfl)
theorem Dev.failTarget_mask {T : Nat} (hT : subParts 443298327437712187942 T = true) (d : Dev) (t : ReadTarget) (fetchCode : ℕ) (endCode : ℕ) (moverCode : ℕ) : (Dev.failTarget d t fetchCode endCode moverCode).mask T = d.mask T := by
  refine Dev.mask_mono (a := 443298327437712187942) ?_ hT
  unfold Dev.failTarget
  repeat' (first | with_reducible rfl | (simp (disch := decide) only [Dev.mask_ite, ite_self, Dev.moverFail_mask, Dev.failWire_mask, Dev.failRead_mask]; done) | split | (dsimp only; split) | rfl)
theorem Dev.fecWindow_mask {T : Nat} (hT : subParts 9223372036857012742 T = true) (d : Dev) (m : ℕ) (corrected : ℕ) (uncorrectable : ℕ) (symbols : ℕ) : (Dev.fecWindow d m corrected uncorrectable symbols).mask T = d.mask T := by
  refine Dev.mask_mono (a := 9223372036857012742) ?_ hT
  unfold Dev.fecWindow
  repeat' (first | with_reducible rfl | (simp (disch := decide) only [Dev.mask_ite, ite_self, Dev.countMac_mask, Dev.pulse_mask, Dev.latchFault_mask, Dev.fset_mask]; done) | split | (dsimp only; split) | rfl)
theorem Dev.feedGood_mask {T : Nat} (hT : subParts 131072 T = true) (d : Dev) (feed : ℕ) : (Dev.feedGood d feed).mask T = d.mask T := by
  refine Dev.mask_mono (a := 131072) ?_ hT
  unfold Dev.feedGood
  repeat' (first | with_reducible rfl | (simp (disch := decide) only [Dev.mask_ite, ite_self, Dev.setPwr_mask, Dev.requestWake_mask]; done) | split | (dsimp only; split) | rfl)
theorem Dev.feedLost_mask {T : Nat} (hT : subParts 2302470 T = true) (d : Dev) (feed : ℕ) : (Dev.feedLost d feed).mask T = d.mask T := by
  refine Dev.mask_mono (a := 2302470) ?_ hT
  unfold Dev.feedLost
  repeat' (first | with_reducible rfl | (simp (disch := decide) only [Dev.mask_ite, ite_self, Dev.pulse_mask, Dev.setPwr_mask, Dev.journalAdd_mask]; done) | split | (dsimp only; split) | rfl)
theorem Dev.fenceUnit_mask {T : Nat} (hT : subParts 73786976294841033222 T = true) (d : Dev) (unit : ℕ) : (Dev.fenceUnit d unit).mask T = d.mask T := by
  refine Dev.mask_mono (a := 73786976294841033222) ?_ hT
  unfold Dev.fenceUnit
  repeat' (first | with_reducible rfl | (simp (disch := first | decide | (intros; simp (disch := decide) only [Dev.mask_ite, ite_self, Dev.pulse_mask, Dev.setLehr_mask, Dev.svcAuto_mask, Dev.rerunJob_mask])) only [Dev.mask_foldl, Dev.mask_ite, ite_self, Dev.pulse_mask, Dev.setLehr_mask, Dev.svcAuto_mask, Dev.rerunJob_mask]; done) | split | (dsimp only; split) | rfl | (refine (Dev.mask_foldl ?_ _ _).trans ?_ <;> try intro d a))
theorem Dev.fenceCrowded_mask {T : Nat} (hT : subParts 73786976294841033222 T = true) (d : Dev) (unit : ℕ) : (Dev.fenceCrowded d unit).mask T = d.mask T := by
  refine Dev.mask_mono (a := 73786976294841033222) ?_ hT
  unfold Dev.fenceCrowded
  repeat' (first | with_reducible rfl | (simp (disch := decide) only [Dev.mask_ite, ite_self, Dev.fenceUnit_mask]; done) | split | (dsimp only; split) | rfl)
theorem Dev.suspect_mask {T : Nat} (hT : subParts 73786976294840508934 T = true) (d : Dev) (k : ℕ) : (Dev.suspect d k).mask T = d.mask T := by
  refine Dev.mask_mono (a := 73786976294840508934) ?_ hT
  unfold Dev.suspect
  repeat' (first | with_reducible rfl | (simp (disch := first | decide | (intros; simp (disch := decide) only [Dev.mask_ite, ite_self, Dev.rerunJob_mask, Dev.journalAdd_mask, Dev.cleanTrace_mask])) only [Dev.mask_foldl, Dev.mask_ite, ite_self, Dev.rerunJob_mask, Dev.journalAdd_mask, Dev.cleanTrace_mask]; done) | split | (dsimp only; split) | rfl | (refine (Dev.mask_foldl ?_ _ _).trans ?_ <;> try intro d a))
theorem Dev.rerunWork_mask {T : Nat} (hT : subParts 73786976294840508934 T = true) (d : Dev) (k : ℕ) : (Dev.rerunWork d k).mask T = d.mask T := by
  refine Dev.mask_mono (a := 73786976294840508934) ?_ hT
  unfold Dev.rerunWork
  repeat' (first | with_reducible rfl | (simp (disch := decide) only [Dev.mask_ite, ite_self, Dev.rerunJob_mask]; done) | split | (dsimp only; split) | rfl)
theorem Dev.fenceCell_mask {T : Nat} (hT : subParts 73786976294841033222 T = true) (d : Dev) (k : ℕ) : (Dev.fenceCell d k).mask T = d.mask T := by
  refine Dev.mask_mono (a := 73786976294841033222) ?_ hT
  unfold Dev.fenceCell
  repeat' (first | with_reducible rfl | (simp (disch := decide) only [Dev.mask_ite, ite_self, Dev.setLehr_mask, Dev.pulse_mask, Dev.latchFault_mask, Dev.fenceCrowded_mask, Dev.suspect_mask, Dev.rerunWork_mask]; done) | split | (dsimp only; split) | rfl)
theorem Dev.fetchDesc_mask {T : Nat} (hT : subParts 2097668 T = true) (d : Dev) (q : ℕ) (img : List Byte) : (Dev.fetchDesc d q img).2.mask T = d.mask T := by
  refine Dev.mask_mono (a := 2097668) ?_ hT
  unfold Dev.fetchDesc
  repeat' (first | with_reducible rfl | (simp (disch := decide) only [Dev.mask_ite, ite_self, Dev.hostFetch_mask]; done) | split | (dsimp only; split) | rfl)
theorem Dev.fetchDescriptor_mask {T : Nat} (hT : subParts 2253318 T = true) (d : Dev) (m : ℕ) : (Dev.fetchDescriptor d m).mask T = d.mask T := by
  refine Dev.mask_mono (a := 2253318) ?_ hT
  unfold Dev.fetchDescriptor
  extract_lets p st max space a d1 img src dst len control nxt d2 owner d3 next
  have h1 : d1.mask 2253318 = d.mask 2253318 := by simp only [d1]; simp (disch := decide) only [Dev.mask_ite, ite_self, Dev.mask_portOwner, Dev.moverFail_mask, Dev.fset_mask, Dev.wr_mask, Dev.setMover_mask]
  have h2 : d2.mask 2253318 = d.mask 2253318 := (Dev.fset_mask (by decide) _ _ _ _).trans h1
  have h3 : d3.mask 2253318 = d.mask 2253318 := by
    refine Eq.trans ?_ h2
    simp only [d3]
    split
    · exact Dev.mask_portOwner (by decide) _ _
    · rfl
  have hf : ∀ (e : Dev) (c : Nat), e.mask 2253318 = d.mask 2253318 → (e.moverFail m c).mask 2253318 = d.mask 2253318 := fun e c h =>
    (Dev.moverFail_mask (by decide) _ _ _).trans h
  clear_value next owner nxt control len dst src img d1 d2 d3
  repeat' split
  all_goals first
    | rfl
    | exact hf _ _ rfl
    | exact hf _ _ h1
    | exact hf _ _ h2
    | exact (Dev.setMover_mask (by decide) _ _ _).trans h3
theorem Dev.takeEntry_mask {T : Nat} (hT : subParts 27402790 T = true) (d : Dev) (q : ℕ) (img : List Byte) (desc : List Byte) : (Dev.takeEntry d q img desc).mask T = d.mask T := by
  refine Dev.mask_mono (a := 27402790) ?_ hT
  unfold Dev.takeEntry
  repeat' (first | with_reducible rfl | (simp (disch := decide) only [Dev.mask_ite, ite_self, Dev.queueError_mask, Dev.setQueue_mask, Dev.holdSlice_mask, Dev.wcount_mask]; done) | split | (dsimp only; split) | rfl)
theorem Dev.fetchEntry_mask {T : Nat} (hT : subParts 27402790 T = true) (d : Dev) (q : ℕ) (answer : HostAnswer) : (Dev.fetchEntry d q answer).mask T = d.mask T := by
  refine Dev.mask_mono (a := 27402790) ?_ hT
  unfold Dev.fetchEntry
  repeat' (first | with_reducible rfl | (simp (disch := first | decide | (intros; (repeat' (first | with_reducible rfl | (simp (disch := decide) only [Dev.mask_ite, ite_self, Dev.latchFault_mask, Dev.queueError_mask, Dev.hostFetch_mask, Dev.fetchDesc_mask, Dev.takeEntry_mask, Dev.notPresent_mask, Dev.noteTimeout_mask, Dev.notePoison_mask, Dev.linkError_mask]; done) | split | (dsimp only; split))))) only [Dev.mask_foldl, Dev.mask_ite, ite_self, Dev.latchFault_mask, Dev.queueError_mask, Dev.hostFetch_mask, Dev.fetchDesc_mask, Dev.takeEntry_mask, Dev.notPresent_mask, Dev.noteTimeout_mask, Dev.notePoison_mask, Dev.linkError_mask]; done) | split | (dsimp only; split) | rfl | (refine (Dev.mask_foldl ?_ _ _).trans ?_ <;> try intro d a))
theorem Dev.fetchKey_mask {T : Nat} (hT : subParts 73786976294838207494 T = true) (d : Dev) (unit : ℕ) (n : ℕ) (j : LehrJob) : (Dev.fetchKey d unit n j).2.mask T = d.mask T := by
  refine Dev.mask_mono (a := 73786976294838207494) ?_ hT
  unfold Dev.fetchKey
  repeat' (first | with_reducible rfl | (simp (disch := decide) only [Dev.mask_ite, ite_self, Dev.setJob_mask, Dev.cachePut_mask, Dev.count_mask, Dev.askUnwrap_mask]; done) | split | (dsimp only; split) | rfl)
theorem Dev.storeCells_mask {T : Nat} (hT : subParts 8796095259142 T = true) {d : Dev} {len : ℕ} {r} (e : Dev.storeCells d len = some r) : r.2.mask T = d.mask T := by
  refine Dev.mask_mono (a := 8796095259142) ?_ hT
  unfold Dev.storeCells at e
  all_goals try dsimp only at e
  all_goals repeat' (split at e)
  all_goals first | (cases e; done) | (cases e; with_reducible rfl) | (cases e; simp (disch := decide) only [Dev.mask_ite, ite_self, Dev.allocCells_mask, Dev.allocDeep_mask, Dev.countSpill_mask]; done)
theorem Dev.takeHeld_mask {T : Nat} (hT : subParts 295147913975448084998 T = true) {d : Dev} {n : ℕ} {w : WireCmd} {r} (e : Dev.takeHeld d n w = some r) : r.2.mask T = d.mask T := by
  refine Dev.mask_mono (a := 295147913975448084998) ?_ hT
  unfold Dev.takeHeld at e
  split at e
  · cases e; rfl
  · split at e
    · cases e
    · rename_i hm
      have hm := Dev.storeCells_mask (T := 295147913975448084998) (by decide) hm
      cases e
      exact (Dev.setWire_mask (by decide) _ _ _).trans hm
theorem Dev.readWire_mask {T : Nat} (hT : subParts 2097668 T = true) (d : Dev) (w : WireCmd) : (Dev.readWire d w).2.mask T = d.mask T := by
  refine Dev.mask_mono (a := 2097668) ?_ hT
  unfold Dev.readWire
  repeat' (first | with_reducible rfl | (simp (disch := decide) only [Dev.mask_ite, ite_self, Dev.gatherSpans_mask, Dev.gatherBytes_mask]; done) | split | (dsimp only; split) | rfl)
theorem Dev.holdData_mask {T : Nat} (hT : subParts 517085303732550378022 T = true) (d : Dev) (n : ℕ) (w : WireCmd) (data : List Byte) : (Dev.holdData d n w data).mask T = d.mask T := by
  refine Dev.mask_mono (a := 517085303732550378022) ?_ hT
  unfold Dev.holdData
  repeat' (first | with_reducible rfl | (simp (disch := decide) only [Dev.mask_ite, ite_self, Dev.submitJob_mask, Dev.setWire_mask, Dev.sendWire_mask]; done) | split | (dsimp only; split) | rfl)
theorem Dev.fetchWire_mask {T : Nat} (hT : subParts 517085303732550378022 T = true) (d : Dev) (n : ℕ) (w : WireCmd) (a : HostAnswer) : (Dev.fetchWire d n w a).mask T = d.mask T := by
  refine Dev.mask_mono (a := 517085303732550378022) ?_ hT
  unfold Dev.fetchWire
  split
  · rfl
  · refine Dev.onAnswer_mask (by decide) _ _ _ _ _ ?_ ?_
    · intro d
      dsimp only
      split
      · rfl
      · rename_i hm
        have hm := Dev.takeHeld_mask (T := 517085303732550378022) (by decide) hm
        rw [Dev.holdData_mask (by decide), Dev.readWire_mask (by decide)]
        exact hm
    · intros; simp (disch := decide) only [Dev.mask_ite, ite_self, Dev.onAnswer_mask, Dev.readWire_mask, Dev.holdData_mask, Dev.failWire_mask]
theorem Dev.replayWake_mask {T : Nat} (hT : subParts 2236934 T = true) (d : Dev) : (Dev.replayWake d).mask T = d.mask T := by
  refine Dev.mask_mono (a := 2236934) ?_ hT
  unfold Dev.replayWake
  repeat' (first | with_reducible rfl | (simp (disch := decide) only [Dev.mask_ite, ite_self, Dev.pulse_mask, Dev.startExit_mask, Dev.setPwr_mask]; done) | split | (dsimp only; split) | rfl)
theorem Dev.setDevices_mask {T : Nat} (hT : subParts 524288 T = true) (d : Dev) (first : ℕ) (st : ℕ) : (Dev.setDevices d first st).mask T = d.mask T := by
  refine Dev.mask_mono (a := 524288) ?_ hT
  unfold Dev.setDevices
  repeat' (first | with_reducible rfl | (simp (disch := first | decide | (intros; simp (disch := decide) only [Dev.mask_ite, ite_self, Dev.setFt_mask])) only [Dev.mask_foldl, Dev.mask_ite, ite_self, Dev.setFt_mask]; done) | split | (dsimp only; split) | rfl | (refine (Dev.mask_foldl ?_ _ _).trans ?_ <;> try intro d a))
theorem Dev.latchPads_mask {T : Nat} (hT : subParts 2236934 T = true) (d : Dev) (domains : List ℕ) : (Dev.latchPads d domains).mask T = d.mask T := by
  refine Dev.mask_mono (a := 2236934) ?_ hT
  unfold Dev.latchPads
  repeat' (first | with_reducible rfl | (simp (disch := first | decide | (intros; simp (disch := decide) only [Dev.mask_ite, ite_self, Dev.refreshLevel_mask, Dev.setPwr_mask])) only [Dev.mask_foldl, Dev.mask_ite, ite_self, Dev.refreshLevel_mask, Dev.setPwr_mask]; done) | split | (dsimp only; split) | rfl | (refine (Dev.mask_foldl ?_ _ _).trans ?_ <;> try intro d a))
theorem Dev.holdBouts_mask {T : Nat} (hT : subParts 4096 T = true) (d : Dev) : (Dev.holdBouts d).mask T = d.mask T := by
  refine Dev.mask_mono (a := 4096) ?_ hT
  unfold Dev.holdBouts
  repeat' (first | with_reducible rfl | (simp (disch := decide) only [Dev.mask_ite, ite_self, Dev.mask_boutHeld]; done) | split | (dsimp only; split) | rfl)
theorem Dev.sleep_mask {T : Nat} (hT : subParts 2361183241434822603774 T = true) (d : Dev) (keepGddr : Bool) : (Dev.sleep d keepGddr).mask T = d.mask T := by
  refine Dev.mask_mono (a := 2361183241434822603774) ?_ hT
  unfold Dev.sleep
  repeat' (first | with_reducible rfl | (simp (disch := first | decide | (intros; simp (disch := decide) only [Dev.mask_ite, ite_self, Dev.setDevices_mask, Dev.latchPads_mask, Dev.holdBouts_mask, Dev.dropMacs_mask, Dev.drainPair_mask, Dev.loseSwitched_mask, Dev.setPwr_mask])) only [Dev.mask_foldl, Dev.mask_ite, ite_self, Dev.setDevices_mask, Dev.latchPads_mask, Dev.holdBouts_mask, Dev.dropMacs_mask, Dev.drainPair_mask, Dev.loseSwitched_mask, Dev.setPwr_mask]; done) | split | (dsimp only; split) | rfl | (refine (Dev.mask_foldl ?_ _ _).trans ?_ <;> try intro d a))
theorem Dev.finishEntry_mask {T : Nat} (hT : subParts 2361183241434822603774 T = true) (d : Dev) : (Dev.finishEntry d).mask T = d.mask T := by
  refine Dev.mask_mono (a := 2361183241434822603774) ?_ hT
  unfold Dev.finishEntry
  repeat' (first | with_reducible rfl | (simp (disch := decide) only [Dev.mask_ite, ite_self, Dev.replayWake_mask, Dev.pulse_mask, Dev.sleep_mask]; done) | split | (dsimp only; split) | rfl)
theorem Dev.finishExit_mask {T : Nat} (hT : subParts 2236934 T = true) (d : Dev) : (Dev.finishExit d).mask T = d.mask T := by
  refine Dev.mask_mono (a := 2236934) ?_ hT
  unfold Dev.finishExit
  repeat' (first | with_reducible rfl | (simp (disch := decide) only [Dev.mask_ite, ite_self, Dev.pulse_mask, Dev.setPwr_mask]; done) | split | (dsimp only; split) | rfl)
theorem Dev.finishFrame_mask {T : Nat} (hT : subParts 36893725659137974790 T = true) (d : Dev) (q : ℕ) (p : Placement) (status : ℕ) : (Dev.finishFrame d q p status).mask T = d.mask T := by
  refine Dev.mask_mono (a := 36893725659137974790) ?_ hT
  unfold Dev.finishFrame
  repeat' (first | with_reducible rfl | (simp (disch := decide) only [Dev.mask_ite, ite_self, Dev.endCopy_mask, Dev.setQueue_mask, Dev.releaseEntries_mask, Dev.endEntry_mask, Dev.modEntry_mask]; done) | split | (dsimp only; split) | rfl)
theorem Dev.groupOff_mask {T : Nat} (hT : subParts 64563841769719079454 T = true) (d : Dev) (g : ℕ) : (Dev.groupOff d g).mask T = d.mask T := by
  refine Dev.mask_mono (a := 64563841769719079454) ?_ hT
  unfold Dev.groupOff
  repeat' (first | with_reducible rfl | (simp (disch := decide) only [Dev.mask_ite, ite_self, Dev.mask_badParity, Dev.mask_lanes, Dev.mask_macs, Dev.mask_ports, Dev.mask_pwr, Dev.mask_regs, Dev.mask_seenParity, Dev.mask_regs_badParity_seenParity_pwr_ports_macs_lanes, Dev.mask_badParity_seenParity, Dev.latchPads_mask, Dev.dropMacs_mask]; done) | split | (dsimp only; split) | rfl)
theorem Dev.testCluster_mask {T : Nat} (hT : subParts 73786976294838206464 T = true) (d : Dev) (unit : ℕ) : (Dev.testCluster d unit).mask T = d.mask T := by
  refine Dev.mask_mono (a := 73786976294838206464) ?_ hT
  unfold Dev.testCluster
  repeat' (first | with_reducible rfl | (simp (disch := decide) only [Dev.mask_ite, ite_self, Dev.setLehr_mask]; done) | split | (dsimp only; split) | rfl)
theorem Dev.ungateAll_mask {T : Nat} (hT : subParts 73786976294840443398 T = true) (d : Dev) : (Dev.ungateAll d).mask T = d.mask T := by
  refine Dev.mask_mono (a := 73786976294840443398) ?_ hT
  unfold Dev.ungateAll
  repeat' (first | with_reducible rfl | (simp (disch := first | decide | (intros; simp (disch := decide) only [Dev.mask_ite, ite_self, Dev.testCluster_mask, Dev.setPwr_mask, Dev.pulse_mask])) only [Dev.mask_foldl, Dev.mask_ite, ite_self, Dev.testCluster_mask, Dev.setPwr_mask, Dev.pulse_mask]; done) | split | (dsimp only; split) | rfl | (refine (Dev.mask_foldl ?_ _ _).trans ?_ <;> try intro d a))
theorem Dev.leaveDoze_mask {T : Nat} (hT : subParts 655360 T = true) (d : Dev) : (Dev.leaveDoze d).mask T = d.mask T := by
  refine Dev.mask_mono (a := 655360) ?_ hT
  unfold Dev.leaveDoze
  repeat' (first | with_reducible rfl | (simp (disch := decide) only [Dev.mask_ite, ite_self, Dev.setDevices_mask, Dev.setPwr_mask]; done) | split | (dsimp only; split) | rfl)
theorem Dev.finishMove_mask {T : Nat} (hT : subParts 138350818064557810206 T = true) (d : Dev) : (Dev.finishMove d).mask T = d.mask T := by
  refine Dev.mask_mono (a := 138350818064557810206) ?_ hT
  unfold Dev.finishMove
  repeat' (first | with_reducible rfl | (simp (disch := decide) only [Dev.mask_ite, ite_self, Dev.setDevices_mask, Dev.groupOff_mask, Dev.ungateAll_mask, Dev.leaveDoze_mask, Dev.replayWake_mask, Dev.pulse_mask, Dev.setPwr_mask]; done) | split | (dsimp only; split) | rfl)
theorem Dev.firmwareDone_mask {T : Nat} (hT : subParts 8388608 T = true) (d : Dev) (s : ℕ) : (Dev.firmwareDone d s).mask T = d.mask T := by
  refine Dev.mask_mono (a := 8388608) ?_ hT
  unfold Dev.firmwareDone
  repeat' (first | with_reducible rfl | (simp (disch := decide) only [Dev.mask_ite, ite_self, Dev.endTeardown_mask, Dev.setSlice_mask]; done) | split | (dsimp only; split) | rfl)
theorem Dev.flushFlowControl_mask {T : Nat} (hT : subParts 9223372036854776320 T = true) (d : Dev) (m : ℕ) : (Dev.flushFlowControl d m).mask T = d.mask T := by
  refine Dev.mask_mono (a := 9223372036854776320) ?_ hT
  unfold Dev.flushFlowControl
  repeat' (first | with_reducible rfl | (simp (disch := first | decide | (intros; simp (disch := decide) only [Dev.mask_ite, ite_self, Dev.sendFlowControl_mask])) only [Dev.mask_foldl, Dev.mask_ite, ite_self, Dev.sendFlowControl_mask]; done) | split | (dsimp only; split) | rfl | (refine (Dev.mask_foldl ?_ _ _).trans ?_ <;> try intro d a))
theorem Dev.freeOldBank_mask {T : Nat} (hT : subParts 2236934 T = true) (d : Dev) : (Dev.freeOldBank d).mask T = d.mask T := by
  refine Dev.mask_mono (a := 2236934) ?_ hT
  unfold Dev.freeOldBank
  repeat' (first | with_reducible rfl | (simp (disch := decide) only [Dev.mask_ite, ite_self, Dev.pulse_mask, Dev.fset_mask]; done) | split | (dsimp only; split) | rfl)
theorem Dev.fwServe_mask {T : Nat} (hT : subParts 590295810358720471558 T = true) (d : Dev) (c : ℕ) (opcode : ℕ) (f : Dev → Message → ℕ × Dev) (hf : ∀ d a0, (f d a0).2.mask T = d.mask T) : (Dev.fwServe d c opcode f).mask T = d.mask T := by
  unfold Dev.fwServe
  repeat' (first | with_reducible rfl | (simp (disch := exact subParts_trans (by decide) hT) only [Dev.mask_ite, ite_self, Dev.mailPop_mask, Dev.fwAnswer_mask, hf]; done) | split | (dsimp only; split) | rfl)
theorem Dev.slcIssue_mask {T : Nat} (hT : subParts 35791366 T = true) (d : Dev) (op : ℕ) (s : ℕ) (img : List Word) (f : Dev → ℕ × Dev) (hf : ∀ d, (f d).2.mask T = d.mask T) : (Dev.slcIssue d op s img f).2.mask T = d.mask T := by
  unfold Dev.slcIssue
  repeat' (first | with_reducible rfl | (simp (disch := first | exact subParts_trans (by decide) hT | (intros; simp (disch := exact subParts_trans (by decide) hT) only [Dev.mask_ite, ite_self, Dev.wr_mask, Dev.fset_mask, Dev.charterChanged_mask, Dev.portEnd_mask, hf])) only [Dev.mask_foldl, Dev.mask_ite, ite_self, Dev.wr_mask, Dev.fset_mask, Dev.charterChanged_mask, Dev.portEnd_mask, hf]; done) | split | (dsimp only; split) | rfl | (refine (Dev.mask_foldl ?_ _ _).trans ?_ <;> try intro d a))
theorem Dev.fwCharter_mask {T : Nat} (hT : subParts 590295810358754025990 T = true) (d : Dev) (c opcode op : Nat) {f : Dev → Nat → List Nat → Nat × Dev}
    (hf : ∀ d a b, (f d a b).2.mask T = d.mask T) : (d.fwCharter c opcode op f).mask T = d.mask T := by
  have h : ∀ (d : Dev) (s : Nat) (img : List Word), (d.slcIssue op s img (fun d => f d s (img.map (·.toNat)))).2.mask T = d.mask T :=
    fun d s img => Dev.slcIssue_mask (subParts_trans (by decide) hT) d op s img _ (fun d => hf d _ _)
  unfold Dev.fwCharter
  split
  · rfl
  · refine Dev.fwServe_mask (subParts_trans (by decide) hT) _ _ _ _ ?_
    intro d m
    dsimp only
    split
    · rw [Dev.deriveCharter_mask (subParts_trans (by decide) hT), h, Dev.hostFetch_mask (subParts_trans (by decide) hT)]
    · rw [h, Dev.hostFetch_mask (subParts_trans (by decide) hT)]
theorem Dev.keyRetire_mask {T : Nat} (hT : subParts 73786976294846595074 T = true) (d : Dev) (slot : ℕ) : (Dev.keyRetire d slot).mask T = d.mask T := by
  refine Dev.mask_mono (a := 73786976294846595074) ?_ hT
  unfold Dev.keyRetire
  repeat' (first | with_reducible rfl | (simp (disch := decide) only [Dev.mask_ite, ite_self, Dev.setKeySlot_mask]; done) | split | (dsimp only; split) | rfl)
theorem Dev.retireKeys_mask {T : Nat} (hT : subParts 73786976294846595074 T = true) (d : Dev) (s : ℕ) : (Dev.retireKeys d s).mask T = d.mask T := by
  refine Dev.mask_mono (a := 73786976294846595074) ?_ hT
  unfold Dev.retireKeys
  repeat' (first | with_reducible rfl | (simp (disch := first | decide | (intros; simp (disch := decide) only [Dev.mask_ite, ite_self, Dev.keyRetire_mask])) only [Dev.mask_foldl, Dev.mask_ite, ite_self, Dev.keyRetire_mask]; done) | split | (dsimp only; split) | rfl | (refine (Dev.mask_foldl ?_ _ _).trans ?_ <;> try intro d a))
theorem Dev.sliceDestroy_mask {T : Nat} (hT : subParts 2176716038209450156582 T = true) (d : Dev) (s : ℕ) : (Dev.sliceDestroy d s).2.mask T = d.mask T := by
  refine Dev.mask_mono (a := 2176716038209450156582) ?_ hT
  unfold Dev.sliceDestroy
  repeat' (first | with_reducible rfl | (simp (disch := first | decide | (intros; simp (disch := decide) only [Dev.mask_ite, ite_self, Dev.dropPasid_mask, Dev.setSlice_mask, Dev.setTdi_mask, Dev.showSlices_mask, Dev.pulse_mask, Dev.emptyChannel_mask, Dev.clearSit_mask, Dev.retireKeys_mask, Dev.endQueue_mask, Dev.endTeardown_mask])) only [Dev.mask_foldl, Dev.mask_ite, ite_self, Dev.dropPasid_mask, Dev.setSlice_mask, Dev.setTdi_mask, Dev.showSlices_mask, Dev.pulse_mask, Dev.emptyChannel_mask, Dev.clearSit_mask, Dev.retireKeys_mask, Dev.endQueue_mask, Dev.endTeardown_mask]; done) | split | (dsimp only; split) | rfl | (refine (Dev.mask_foldl ?_ _ _).trans ?_ <;> try intro d a))
theorem Dev.fwDestroy_mask {T : Nat} (hT : subParts 2176716038209483711014 T = true) (d : Dev) (c : ℕ) : (Dev.fwDestroy d c).mask T = d.mask T := by
  refine Dev.mask_mono (a := 2176716038209483711014) ?_ hT
  unfold Dev.fwDestroy
  split
  · rfl
  · refine Dev.fwServe_mask (by decide) _ _ _ _ ?_
    intro d m
    exact Dev.slcIssue_mask (by decide) d _ _ _ _ (fun d => Dev.sliceDestroy_mask (by decide) d _)
theorem Dev.moveBurst_mask {T : Nat} (hT : subParts 2155494 T = true) (d : Dev) (m : ℕ) (o : ℕ) (n : ℕ) (left : ℕ) : (Dev.moveBurst d m o n left).mask T = d.mask T := by
  refine Dev.mask_mono (a := 2155494) ?_ hT
  unfold Dev.moveBurst
  repeat' (first | with_reducible rfl | (simp (disch := decide) only [Dev.mask_ite, ite_self, Dev.hostFetch_mask, Dev.spaceWrite_mask, Dev.setMoverState_mask, Dev.fset_mask, Dev.wcount_mask, Dev.releasePorts_mask, Dev.count_mask, Dev.setMover_mask]; done) | split | (dsimp only; split) | rfl)
theorem Dev.issueBurst_mask {T : Nat} (hT : subParts 2286566 T = true) (d : Dev) (m : ℕ) (portReady : Bool) (answer : HostAnswer) : (Dev.issueBurst d m portReady answer).mask T = d.mask T := by
  refine Dev.mask_mono (a := 2286566) ?_ hT
  unfold Dev.issueBurst
  dsimp only
  split
  · rfl
  · split
    · simp (disch := decide) only [Dev.mask_ite, ite_self, Dev.setMoverState_mask, Dev.moverFail_mask, Dev.confRefused_mask, Dev.moveBurst_mask, Dev.onAnswer_mask]
    · split
      · split <;> simp (disch := decide) only [Dev.mask_ite, ite_self, Dev.setMoverState_mask, Dev.moverFail_mask, Dev.confRefused_mask, Dev.moveBurst_mask, Dev.onAnswer_mask]
      · split
        · simp (disch := decide) only [Dev.mask_ite, ite_self, Dev.setMoverState_mask, Dev.moverFail_mask, Dev.confRefused_mask, Dev.moveBurst_mask, Dev.onAnswer_mask]
        · refine Dev.onAnswer_mask (by decide) _ _ _ _ _ ?_ ?_ <;> intros <;> simp (disch := decide) only [Dev.mask_ite, ite_self, Dev.setMoverState_mask, Dev.moverFail_mask, Dev.confRefused_mask, Dev.moveBurst_mask, Dev.onAnswer_mask]
theorem Dev.runBursts_mask {T : Nat} (hT : subParts 2286566 T = true) (d : Dev) (mv : ℕ) (answer : HostAnswer) (x3 : ℕ) : (Dev.runBursts d mv answer x3).mask T = d.mask T := by
  refine Dev.mask_mono (a := 2286566) ?_ hT
  clear hT
  induction x3 generalizing d mv answer <;> unfold Dev.runBursts
  repeat' (first | with_reducible rfl | (simp (disch := decide) only [Dev.mask_ite, ite_self, *, Dev.issueBurst_mask]; done) | split | (dsimp only; split) | rfl)
theorem Dev.runMove_mask {T : Nat} (hT : subParts 2286566 T = true) (d : Dev) (mv : ℕ) (answer : HostAnswer) : (Dev.runMove d mv answer).2.mask T = d.mask T := by
  refine Dev.mask_mono (a := 2286566) ?_ hT
  unfold Dev.runMove
  repeat' (first | with_reducible rfl | (simp (disch := decide) only [Dev.mask_ite, ite_self, Dev.runBursts_mask, Dev.setMover_mask, Dev.endDescriptor_mask]; done) | split | (dsimp only; split) | rfl)
theorem Dev.fwMove_mask {T : Nat} (hT : subParts 590295810358720521190 T = true) (d : Dev) (c : ℕ) (mv : ℕ) (answer : HostAnswer) : (Dev.fwMove d c mv answer).mask T = d.mask T := by
  refine Dev.mask_mono (a := 590295810358720521190) ?_ hT
  unfold Dev.fwMove
  repeat' (first | with_reducible rfl | (simp (disch := first | decide | (intros; (repeat' (first | with_reducible rfl | (simp (disch := decide) only [Dev.mask_ite, ite_self, Dev.beginMove_mask, Dev.runMove_mask, Dev.fwServe_mask]; done) | split | (dsimp only; split))))) only [Dev.mask_foldl, Dev.mask_ite, ite_self, Dev.beginMove_mask, Dev.runMove_mask, Dev.fwServe_mask]; done) | split | (dsimp only; split) | rfl | (refine (Dev.mask_foldl ?_ _ _).trans ?_ <;> try intro d a))
theorem Dev.fwReady_mask {T : Nat} (hT : subParts 931560813234039235134 T = true) (d : Dev) (result : ℕ) (failed : List ℕ) : (Dev.fwReady d result failed).mask T = d.mask T := by
  refine Dev.mask_mono (a := 931560813234039235134) ?_ hT
  unfold Dev.fwReady
  repeat' (first | with_reducible rfl | (simp (disch := first | decide | (intros; simp (disch := decide) only [Dev.mask_ite, ite_self, Dev.mask_gddr, Dev.mask_sto, Dev.mask_gddr_sto, Dev.failDevice_mask, Dev.wset_mask, Dev.fsetP_mask, Dev.setDeepCrucible_mask, Dev.enablePage_mask, Dev.setPwr_mask, Dev.mailPush_mask])) only [Dev.mask_foldl, Dev.mask_ite, ite_self, Dev.mask_gddr, Dev.mask_sto, Dev.mask_gddr_sto, Dev.failDevice_mask, Dev.wset_mask, Dev.fsetP_mask, Dev.setDeepCrucible_mask, Dev.enablePage_mask, Dev.setPwr_mask, Dev.mailPush_mask]; done) | split | (dsimp only; split) | rfl | (refine (Dev.mask_foldl ?_ _ _).trans ?_ <;> try intro d a))
theorem Dev.gateLeh_mask {T : Nat} (hT : subParts 73786976294840443398 T = true) (d : Dev) (c : ℕ) (gate : Bool) : (Dev.gateLeh d c gate).mask T = d.mask T := by
  refine Dev.mask_mono (a := 73786976294840443398) ?_ hT
  unfold Dev.gateLeh
  repeat' (first | with_reducible rfl | (simp (disch := decide) only [Dev.mask_ite, ite_self, Dev.dropCache_mask, Dev.testCluster_mask, Dev.pulse_mask, Dev.setPwr_mask]; done) | split | (dsimp only; split) | rfl)
theorem Dev.takeGroup_mask {T : Nat} (hT : subParts 2097152 T = true) {d : Dev} {n : ℕ} {group : ℕ} {r} (e : Dev.takeGroup d n group = some r) : r.2.mask T = d.mask T := by
  refine Dev.mask_mono (a := 2097152) ?_ hT
  unfold Dev.takeGroup at e
  all_goals try dsimp only at e
  all_goals repeat' (split at e)
  all_goals first | (cases e; done) | (cases e; with_reducible rfl) | (cases e; simp (disch := decide) only [Dev.mask_ite, ite_self, Dev.setHostPort_mask]; done)
theorem Dev.groupResponse_mask {T : Nat} (hT : subParts 443298327437712187942 T = true) (d : Dev) (n : ℕ) (group : ℕ) (success : Bool) : (Dev.groupResponse d n group success).mask T = d.mask T := by
  refine Dev.mask_mono (a := 443298327437712187942) ?_ hT
  unfold Dev.groupResponse
  split
  · rfl
  · rename_i hm
    have hm := Dev.takeGroup_mask (T := 443298327437712187942) (by decide) hm
    dsimp only at hm
    split
    · exact hm
    · rw [← hm]; simp (disch := decide) only [Dev.mask_ite, ite_self, Dev.pageFailed_mask, Dev.failTarget_mask]
theorem Dev.groupScan_mask {T : Nat} (hT : subParts 2236958 T = true) (d : Dev) (region : ℕ) (g : ℕ) (upsets : List (ℕ × ℕ)) : (Dev.groupScan d region g upsets).mask T = d.mask T := by
  refine Dev.mask_mono (a := 2236958) ?_ hT
  unfold Dev.groupScan
  repeat' (first | with_reducible rfl | (simp (disch := first | decide | (intros; simp (disch := decide) only [Dev.mask_ite, ite_self, Dev.groupCheck_mask, Dev.upset_mask])) only [Dev.mask_foldl, Dev.mask_ite, ite_self, Dev.groupCheck_mask, Dev.upset_mask]; done) | split | (dsimp only; split) | rfl | (refine (Dev.mask_foldl ?_ _ _).trans ?_ <;> try intro d a))
theorem Dev.groupTimeout_mask {T : Nat} (hT : subParts 443298327437712187942 T = true) (d : Dev) (n : ℕ) (group : ℕ) : (Dev.groupTimeout d n group).mask T = d.mask T := by
  refine Dev.mask_mono (a := 443298327437712187942) ?_ hT
  unfold Dev.groupTimeout
  split
  · rfl
  · rename_i hm
    have hm := Dev.takeGroup_mask (T := 443298327437712187942) (by decide) hm
    dsimp only at hm
    rw [← hm]; simp (disch := decide) only [Dev.mask_ite, ite_self, Dev.pageFailed_mask, Dev.failTarget_mask]
theorem Dev.handOff_mask {T : Nat} (hT : subParts 17179869184 T = true) (d : Dev) (h : ℕ) : (Dev.handOff d h).mask T = d.mask T := by
  refine Dev.mask_mono (a := 17179869184) ?_ hT
  unfold Dev.handOff
  repeat' (first | with_reducible rfl | (simp (disch := decide) only [Dev.mask_ite, ite_self, Dev.setStage_mask]; done) | split | (dsimp only; split) | rfl)
theorem Dev.handshakeSend_mask {T : Nat} (hT : subParts 443298327437695394342 T = true) (d : Dev) (s : ℕ) (bs : List Byte) : (Dev.handshakeSend d s bs).mask T = d.mask T := by
  refine Dev.mask_mono (a := 443298327437695394342) ?_ hT
  unfold Dev.handshakeSend
  repeat' (first | with_reducible rfl | (simp (disch := decide) only [Dev.mask_ite, ite_self, Dev.tcpSend_mask, Dev.tlsSend_mask]; done) | split | (dsimp only; split) | rfl)
theorem Dev.headerFailed_mask {T : Nat} (hT : subParts 443298327437712171558 T = true) (d : Dev) (s : ℕ) (p : List Byte) : (Dev.headerFailed d s p).mask T = d.mask T := by
  refine Dev.mask_mono (a := 443298327437712171558) ?_ hT
  unfold Dev.headerFailed
  repeat' (first | with_reducible rfl | (simp (disch := decide) only [Dev.mask_ite, ite_self, Dev.pulse_mask, Dev.count_mask, Dev.failSessionAs_mask, Dev.tlsSubmit_mask, Dev.failSession_mask, Dev.tcpSend_mask]; done) | split | (dsimp only; split) | rfl)
theorem Dev.truncateFrame_mask {T : Nat} (hT : subParts 36893725659137974790 T = true) (d : Dev) (q : ℕ) (p : Placement) : (Dev.truncateFrame d q p).mask T = d.mask T := by
  refine Dev.mask_mono (a := 36893725659137974790) ?_ hT
  unfold Dev.truncateFrame
  repeat' (first | with_reducible rfl | (simp (disch := decide) only [Dev.mask_ite, ite_self, Dev.pulse_mask, Dev.count_mask, Dev.finishFrame_mask]; done) | split | (dsimp only; split) | rfl)
theorem Dev.holdFrame_mask {T : Nat} (hT : subParts 36893725659137974790 T = true) (d : Dev) (q : ℕ) (p : Placement) : (Dev.holdFrame d q p).mask T = d.mask T := by
  refine Dev.mask_mono (a := 36893725659137974790) ?_ hT
  unfold Dev.holdFrame
  repeat' (first | with_reducible rfl | (simp (disch := decide) only [Dev.mask_ite, ite_self, Dev.setQueue_mask, Dev.truncateFrame_mask, Dev.pulse_mask]; done) | split | (dsimp only; split) | rfl)
theorem Dev.placeInto_mask {T : Nat} (hT : subParts 36893725659137975174 T = true) (d : Dev) (q : ℕ) (x2 : ℕ) (x3 : Placement) : (Dev.placeInto d q x2 x3).mask T = d.mask T := by
  refine Dev.mask_mono (a := 36893725659137975174) ?_ hT
  clear hT
  induction x2 generalizing d q x3 <;> unfold Dev.placeInto
  repeat' (first | with_reducible rfl | (simp (disch := decide) only [Dev.mask_ite, ite_self, *, Dev.endEntry_mask, Dev.setQueue_mask, Dev.finishFrame_mask, Dev.modEntry_mask, Dev.scatterBytes_mask, Dev.holdFrame_mask]; done) | split | (dsimp only; split) | rfl)
theorem Dev.placeFrame_mask {T : Nat} (hT : subParts 332041630838490801030 T = true) (d0 : Dev) (q : ℕ) : (Dev.placeFrame d0 q).mask T = d0.mask T := by
  refine Dev.mask_mono (a := 332041630838490801030) ?_ hT
  unfold Dev.placeFrame
  repeat' (first | with_reducible rfl | (simp (disch := decide) only [Dev.mask_ite, ite_self, Dev.beginHandshake_mask, Dev.endCopy_mask, Dev.setQueue_mask, Dev.discardStale_mask, Dev.placeInto_mask]; done) | split | (dsimp only; split) | rfl)
theorem Dev.holdExpires_mask {T : Nat} (hT : subParts 332041630838490801030 T = true) (d : Dev) (q : ℕ) : (Dev.holdExpires d q).mask T = d.mask T := by
  refine Dev.mask_mono (a := 332041630838490801030) ?_ hT
  unfold Dev.holdExpires
  repeat' (first | with_reducible rfl | (simp (disch := decide) only [Dev.mask_ite, ite_self, Dev.placeFrame_mask, Dev.truncateFrame_mask]; done) | split | (dsimp only; split) | rfl)
theorem Dev.holdoverEnd_mask {T : Nat} (hT : subParts 64563841769685524998 T = true) (d : Dev) : (Dev.holdoverEnd d).mask T = d.mask T := by
  refine Dev.mask_mono (a := 64563841769685524998) ?_ hT
  unfold Dev.holdoverEnd
  repeat' (first | with_reducible rfl | (simp (disch := decide) only [Dev.mask_ite, ite_self, Dev.dropMacs_mask]; done) | split | (dsimp only; split) | rfl)
theorem Dev.ideFailure_mask {T : Nat} (hT : subParts 332041630838494994982 T = true) (d : Dev) (n : ℕ) (st : ℕ) : (Dev.ideFailure d n st).mask T = d.mask T := by
  refine Dev.mask_mono (a := 332041630838494994982) ?_ hT
  unfold Dev.ideFailure
  repeat' (first | with_reducible rfl | (simp (disch := first | decide | (intros; simp (disch := decide) only [Dev.mask_ite, ite_self, Dev.pulse_mask, Dev.latchFault_mask, Dev.setHostPort_mask, Dev.setTdi_mask])) only [Dev.mask_foldl, Dev.mask_ite, ite_self, Dev.pulse_mask, Dev.latchFault_mask, Dev.setHostPort_mask, Dev.setTdi_mask]; done) | split | (dsimp only; split) | rfl | (refine (Dev.mask_foldl ?_ _ _).trans ?_ <;> try intro d a))
theorem Dev.ideKm_mask {T : Nat} (hT : subParts 2097664 T = true) (d : Dev) (ses : ℕ) (n : ℕ) (st : ℕ) (activate : Bool) : (Dev.ideKm d ses n st activate).mask T = d.mask T := by
  refine Dev.mask_mono (a := 2097664) ?_ hT
  unfold Dev.ideKm
  repeat' (first | with_reducible rfl | (simp (disch := decide) only [Dev.mask_ite, ite_self, Dev.emit_mask, Dev.setHostPort_mask]; done) | split | (dsimp only; split) | rfl)
theorem Dev.insertEntry_mask {T : Nat} (hT : subParts 8162791515629094 T = true) (d : Dev) (t : ℕ) (image : List ℕ) (k : List Byte) (noevict : Bool) : (Dev.insertEntry d t image k noevict).2.mask T = d.mask T := by
  refine Dev.mask_mono (a := 8162791515629094) ?_ hT
  unfold Dev.insertEntry
  repeat' (first | with_reducible rfl | (simp (disch := decide) only [Dev.mask_ite, ite_self, Dev.findKey_mask, Dev.ownEntry_mask, Dev.writeSlot_mask, Dev.insertNew_mask]; done) | split | (dsimp only; split) | rfl)
theorem Dev.invalidate_mask {T : Nat} (hT : subParts 2236934 T = true) (d : Dev) (n : ℕ) (v : Invalidation) : (Dev.invalidate d n v).mask T = d.mask T := by
  refine Dev.mask_mono (a := 2236934) ?_ hT
  unfold Dev.invalidate
  repeat' (first | with_reducible rfl | (simp (disch := decide) only [Dev.mask_ite, ite_self, Dev.setHostPort_mask, Dev.pulse_mask, Dev.count_mask]; done) | split | (dsimp only; split) | rfl)
theorem Dev.invalidateLines_mask {T : Nat} (hT : subParts 1048576 T = true) (d : Dev) (pair : ℕ) (a : ℕ) (n : ℕ) : (Dev.invalidateLines d pair a n).mask T = d.mask T := by
  refine Dev.mask_mono (a := 1048576) ?_ hT
  unfold Dev.invalidateLines
  repeat' (first | with_reducible rfl | (simp (disch := decide) only [Dev.mask_ite, ite_self, Dev.setPair_mask]; done) | split | (dsimp only; split) | rfl)
theorem Dev.irqDelay_mask {T : Nat} (hT : subParts 23208454 T = true) (d : Dev) (q : ℕ) : (Dev.irqDelay d q).mask T = d.mask T := by
  refine Dev.mask_mono (a := 23208454) ?_ hT
  unfold Dev.irqDelay
  repeat' (first | with_reducible rfl | (simp (disch := decide) only [Dev.mask_ite, ite_self, Dev.raiseQueueIrq_mask]; done) | split | (dsimp only; split) | rfl)
theorem Dev.settleIssue_mask {T : Nat} (hT : subParts 36893711365738471942 T = true) (d : Dev) (c : ℕ) (x : Ctx) (r : Issued) : (Dev.settleIssue d c x r).mask T = d.mask T := by
  refine Dev.mask_mono (a := 36893711365738471942) ?_ hT
  unfold Dev.settleIssue
  repeat' (first | with_reducible rfl | (simp (disch := decide) only [Dev.mask_ite, ite_self, Dev.raise_mask, Dev.donePass_mask, Dev.setCtx_mask]; done) | split | (dsimp only; split) | rfl)
theorem Dev.issue_mask {T : Nat} (hT : subParts 36893711366275342854 T = true) (d : Dev) (k : ℕ) (op : ℕ) (f : View → Ctx → Issued) : (Dev.issue d k op f).mask T = d.mask T := by
  refine Dev.mask_mono (a := 36893711366275342854) ?_ hT
  unfold Dev.issue
  repeat' (first | with_reducible rfl | (simp (disch := decide) only [Dev.mask_ite, ite_self, Dev.mask_lastIssued, Dev.settleIssue_mask]; done) | split | (dsimp only; split) | rfl)
theorem Dev.setCountdown_mask {T : Nat} (hT : subParts 73786976294838206464 T = true) (d : Dev) (k : ℕ) (n : ℕ) : (Dev.setCountdown d k n).mask T = d.mask T := by
  refine Dev.mask_mono (a := 73786976294838206464) ?_ hT
  unfold Dev.setCountdown
  repeat' (first | with_reducible rfl | (simp (disch := decide) only [Dev.mask_ite, ite_self, Dev.setLehr_mask]; done) | split | (dsimp only; split) | rfl)
theorem Dev.spotDue_mask {T : Nat} (hT : subParts 73786976294838207488 T = true) (d : Dev) (k : ℕ) : (Dev.spotDue d k).2.mask T = d.mask T := by
  refine Dev.mask_mono (a := 73786976294838207488) ?_ hT
  unfold Dev.spotDue
  repeat' (first | with_reducible rfl | (simp (disch := decide) only [Dev.mask_ite, ite_self, Dev.fresh_mask, Dev.setCountdown_mask]; done) | split | (dsimp only; split) | rfl)
theorem Dev.startBlock_mask {T : Nat} (hT : subParts 73786976294838207492 T = true) (d : Dev) (unit : ℕ) (n : ℕ) (i : ℕ) (j : LehrJob) (g : JobSeg) : (Dev.startBlock d unit n i j g).mask T = d.mask T := by
  refine Dev.mask_mono (a := 73786976294838207492) ?_ hT
  have h1 : ∀ (d : Dev) (o : Option Nat) (k : Nat) (free : List Nat), (match o, k with
      | some c, 0 => (c, d)
      | _, _ => d.drawCell free).2.mask 73786976294838207492 = d.mask 73786976294838207492 := by
    intro d o k free; split
    · rfl
    · exact Dev.drawCell_mask (by decide) _ _
  unfold Dev.startBlock
  extract_lets free kept r k verify s rest need w d1 q k2 d2
  have hr : r.2.mask 73786976294838207492 = d.mask 73786976294838207492 := h1 d kept g.again free
  have hs : s.2.mask 73786976294838207492 = d.mask 73786976294838207492 := by
    simp only [s]; split
    · exact hr
    · exact (Dev.spotDue_mask (by decide) _ _).trans hr
  have hd1 : d1.mask 73786976294838207492 = d.mask 73786976294838207492 := (Dev.drawDummies_mask (by decide) _).trans ((Dev.askRandom_mask (by decide) _ _).trans hs)
  have hd2 : d2.mask 73786976294838207492 = d.mask 73786976294838207492 := by
    simp only [d2]; split
    · rw [Dev.setCell_mask (by decide), Dev.setCell_mask (by decide), Dev.drawDummies_mask (by decide), Dev.askRandom_mask (by decide), Dev.drawCell_mask (by decide)]; exact hd1
    · rw [Dev.setCell_mask (by decide)]; exact hd1
  split
  · rfl
  · split
    · rfl
    · rw [Dev.modSeg_mask (by decide)]; exact hd2

end Sys2Proof.Machine
end

