-- ==== Sys2Proof/Laws/Frame4.lean ====
section
/-!
SUPPORT. What each operation of the model may change (part 4 of 4, in the order in which the operations build on each
other): blanking the parts named by a set that holds at least the operation's own, the device is as before.
-/

namespace Sys2Proof.Machine

set_option linter.all false

theorem Dev.issueBlock_mask {T : Nat} (hT : subParts 73786976294838207494 T = true) (d : Dev) (n : ℕ) (i : ℕ) : (Dev.issueBlock d n i).mask T = d.mask T := by
  refine Dev.mask_mono (a := 73786976294838207494) ?_ hT
  unfold Dev.issueBlock
  repeat' (first | with_reducible rfl | (simp (disch := decide) only [Dev.mask_ite, ite_self, Dev.setJob_mask, Dev.fetchKey_mask, Dev.startBlock_mask]; done) | split | (dsimp only; split) | rfl)
theorem Dev.issueWire_mask {T : Nat} (hT : subParts 517085303732550378022 T = true) (d : Dev) (n : ℕ) (a : HostAnswer) : (Dev.issueWire d n a).mask T = d.mask T := by
  refine Dev.mask_mono (a := 517085303732550378022) ?_ hT
  unfold Dev.issueWire
  repeat' (first | with_reducible rfl | (simp (disch := decide) only [Dev.mask_ite, ite_self, Dev.fetchWire_mask, Dev.sendWire_mask]; done) | split | (dsimp only; split) | rfl)
theorem Dev.journalPut_mask {T : Nat} (hT : subParts 2826758 T = true) (d : Dev) (r : FaultRecord) : (Dev.journalPut d r).mask T = d.mask T := by
  refine Dev.mask_mono (a := 2826758) ?_ hT
  unfold Dev.journalPut
  extract_lets j d0 f d1 d2
  have h0 : d0.mask 2826758 = d.mask 2826758 := Dev.mask_journal (by decide) _ _
  have h1 : d1.mask 2826758 = d.mask 2826758 := by
    refine Eq.trans ?_ h0
    simp only [d1]
    split
    · exact Dev.mask_ft (by decide) _ _
    · rfl
  have h2 : d2.mask 2826758 = d.mask 2826758 := by
    refine Eq.trans ?_ h1
    simp only [d2]
    simp (disch := decide) only [Dev.mask_ite, ite_self, Dev.mask_ft, Dev.mask_journal, Dev.pulse_mask, Dev.fset_mask]
  split
  · exact (Dev.pulse_mask (by decide) _ _).trans h2
  · exact h2
theorem Dev.journalWrite_mask {T : Nat} (hT : subParts 2826758 T = true) (d : Dev) : (Dev.journalWrite d).mask T = d.mask T := by
  refine Dev.mask_mono (a := 2826758) ?_ hT
  unfold Dev.journalWrite
  repeat' (first | with_reducible rfl | (simp (disch := decide) only [Dev.mask_ite, ite_self, Dev.mask_journal, Dev.journalPut_mask, Dev.showQueueDepth_mask]; done) | split | (dsimp only; split) | rfl)
theorem Dev.keyExchange_mask {T : Nat} (hT : subParts 1180591620717411304960 T = true) (d : Dev) (via : Transport) (summary : Bool) : (Dev.keyExchange d via summary).mask T = d.mask T := by
  refine Dev.mask_mono (a := 1180591620717411304960) ?_ hT
  unfold Dev.keyExchange
  repeat' (first | with_reducible rfl | (simp (disch := decide) only [Dev.mask_ite, ite_self, Dev.spdmError_mask, Dev.fresh_mask, Dev.setWel_mask, Dev.spdmAnswer_mask]; done) | split | (dsimp only; split) | rfl)
theorem Dev.putSlot_mask {T : Nat} (hT : subParts 73786976294846595106 T = true) (d : Dev) (s : ℕ) (v : KeySlot) (key : List Byte) : (Dev.putSlot d s v key).mask T = d.mask T := by
  refine Dev.mask_mono (a := 73786976294846595106) ?_ hT
  unfold Dev.putSlot
  repeat' (first | with_reducible rfl | (simp (disch := decide) only [Dev.mask_ite, ite_self, Dev.setLehr_mask, Dev.gwrite_mask, Dev.setKeySlot_mask]; done) | split | (dsimp only; split) | rfl)
theorem Dev.keyInstall_mask {T : Nat} (hT : subParts 73786976294846595106 T = true) (d : Dev) (slot : ℕ) (pair : Bool) (bad : Bool) (desc : List Word) (even : List Byte) (odd : List Byte) : (Dev.keyInstall d slot pair bad desc even odd).2.mask T = d.mask T := by
  refine Dev.mask_mono (a := 73786976294846595106) ?_ hT
  unfold Dev.keyInstall
  repeat' (first | with_reducible rfl | (simp (disch := decide) only [Dev.mask_ite, ite_self, Dev.putSlot_mask]; done) | split | (dsimp only; split) | rfl)
theorem Dev.l12Expire_mask {T : Nat} (hT : subParts 2236934 T = true) (d : Dev) (n : ℕ) : (Dev.l12Expire d n).mask T = d.mask T := by
  refine Dev.mask_mono (a := 2236934) ?_ hT
  unfold Dev.l12Expire
  repeat' (first | with_reducible rfl | (simp (disch := decide) only [Dev.mask_ite, ite_self, Dev.refusePower_mask, Dev.setPwr_mask]; done) | split | (dsimp only; split) | rfl)
theorem Dev.lastWords_mask {T : Nat} (hT : subParts 295724374848018981414 T = true) (d : Dev) (s : ℕ) (bs : Option (List Byte)) : (Dev.lastWords d s bs).mask T = d.mask T := by
  refine Dev.mask_mono (a := 295724374848018981414) ?_ hT
  unfold Dev.lastWords
  repeat' (first | with_reducible rfl | (simp (disch := decide) only [Dev.mask_ite, ite_self, Dev.sesSet_mask, Dev.setSes_mask, Dev.sendRst_mask]; done) | (simp (disch := decide) only [Dev.mask_ite, ite_self, Dev.sesSet_mask, Dev.setSes_mask, Dev.sendRst_mask]; exact Dev.sendSegment_mask (by decide) (by assumption)) | (exact Dev.sendSegment_mask (by decide) (by assumption)) | split | (dsimp only; split) | rfl)
theorem Dev.leanStep_mask {T : Nat} (hT : subParts 73786976294840443398 T = true) (d : Dev) : (Dev.leanStep d).mask T = d.mask T := by
  refine Dev.mask_mono (a := 73786976294840443398) ?_ hT
  unfold Dev.leanStep
  repeat' (first | with_reducible rfl | (simp (disch := decide) only [Dev.mask_ite, ite_self, Dev.setPwr_mask, Dev.gateGaf_mask, Dev.gateLeh_mask]; done) | split | (dsimp only; split) | rfl)
theorem Dev.productFailed_mask {T : Nat} (hT : subParts 73786976294840508934 T = true) (d : Dev) (n : ℕ) (j : LehrJob) (c : ℕ) : (Dev.productFailed d n j c).mask T = d.mask T := by
  refine Dev.mask_mono (a := 73786976294840508934) ?_ hT
  unfold Dev.productFailed
  repeat' (first | with_reducible rfl | (simp (disch := decide) only [Dev.mask_ite, ite_self, Dev.latchFault_mask, Dev.mismatch_mask, Dev.rerunJob_mask, Dev.setJob_mask, Dev.setLehr_mask]; done) | split | (dsimp only; split) | rfl)
theorem Dev.takeEnded_mask {T : Nat} (hT : subParts 73786976294848897542 T = true) (d : Dev) (n : ℕ) (failed : Option ℕ) : (Dev.takeEnded d n failed).2.mask T = d.mask T := by
  refine Dev.mask_mono (a := 73786976294848897542) ?_ hT
  unfold Dev.takeEnded
  repeat' (first | with_reducible rfl | (simp (disch := first | decide | (intros; simp (disch := decide) only [Dev.mask_ite, ite_self, Dev.productFailed_mask, Dev.setJob_mask, Dev.releaseCells_mask, Dev.setKeySlot_mask, Dev.releaseSlice_mask, Dev.countJob_mask, Dev.fset_mask, Dev.countProducts_mask])) only [Dev.mask_foldl, Dev.mask_ite, ite_self, Dev.productFailed_mask, Dev.setJob_mask, Dev.releaseCells_mask, Dev.setKeySlot_mask, Dev.releaseSlice_mask, Dev.countJob_mask, Dev.fset_mask, Dev.countProducts_mask]; done) | split | (dsimp only; split) | rfl | (refine (Dev.mask_foldl ?_ _ _).trans ?_ <;> try intro d a))
theorem Dev.lehrEnd_mask {T : Nat} (hT : subParts 517085303732550443942 T = true) (d : Dev) (n : ℕ) (failed : Option ℕ) : (Dev.lehrEnd d n failed).mask T = d.mask T := by
  refine Dev.mask_mono (a := 517085303732550443942) ?_ hT
  unfold Dev.lehrEnd
  repeat' (first | with_reducible rfl | (simp (disch := decide) only [Dev.mask_ite, ite_self, Dev.takeEnded_mask, Dev.deliverJob_mask]; done) | split | (dsimp only; split) | rfl)
theorem Dev.lehrSubmit_mask {T : Nat} (hT : subParts 517085303732550378406 T = true) (d : Dev) : (Dev.lehrSubmit d).mask T = d.mask T := by
  refine Dev.mask_mono (a := 517085303732550378406) ?_ hT
  unfold Dev.lehrSubmit
  repeat' (first | with_reducible rfl | (simp (disch := decide) only [Dev.mask_ite, ite_self, Dev.checkSubmitted_mask, Dev.deliverJob_mask]; done) | split | (dsimp only; split) | rfl)
theorem Dev.lifecycleAdvance_mask {T : Nat} (hT : subParts 1180591620717413401092 T = true) (d : Dev) (m : Message) : (Dev.lifecycleAdvance d m).2.mask T = d.mask T := by
  refine Dev.mask_mono (a := 1180591620717413401092) ?_ hT
  unfold Dev.lifecycleAdvance
  repeat' (first | with_reducible rfl | (simp (disch := decide) only [Dev.mask_ite, ite_self, Dev.hostFetch_mask, Dev.setWel_mask]; done) | split | (dsimp only; split) | rfl)
theorem Dev.linkDown_mask {T : Nat} (hT : subParts 332041630838490800678 T = true) (d : Dev) (n : ℕ) : (Dev.linkDown d n).mask T = d.mask T := by
  refine Dev.mask_mono (a := 332041630838490800678) ?_ hT
  unfold Dev.linkDown
  repeat' (first | with_reducible rfl | (simp (disch := decide) only [Dev.mask_ite, ite_self, Dev.pulse_mask, Dev.latchFault_mask, Dev.dropLink_mask]; done) | split | (dsimp only; split) | rfl)
theorem Dev.linkUp_mask {T : Nat} (hT : subParts 2236934 T = true) (d : Dev) (n : ℕ) (speed : ℕ) (width : ℕ) (flit : Bool) : (Dev.linkUp d n speed width flit).mask T = d.mask T := by
  refine Dev.mask_mono (a := 2236934) ?_ hT
  unfold Dev.linkUp
  repeat' (first | with_reducible rfl | (simp (disch := decide) only [Dev.mask_ite, ite_self, Dev.pulse_mask, Dev.setHostPort_mask]; done) | split | (dsimp only; split) | rfl)
theorem Dev.lockInterface_mask {T : Nat} (hT : subParts 332041630838494994982 T = true) (d : Dev) (s : ℕ) (st : ℕ) : (Dev.lockInterface d s st).mask T = d.mask T := by
  refine Dev.mask_mono (a := 332041630838494994982) ?_ hT
  unfold Dev.lockInterface
  repeat' (first | with_reducible rfl | (simp (disch := decide) only [Dev.mask_ite, ite_self, Dev.emit_mask, Dev.setTdi_mask, Dev.setSlice_mask]; done) | split | (dsimp only; split) | rfl)
theorem Dev.logicFault_mask {T : Nat} (hT : subParts 507862160394114785830 T = true) (d : Dev) (page : ℕ) (check : ℕ) : (Dev.logicFault d page check).mask T = d.mask T := by
  refine Dev.mask_mono (a := 507862160394114785830) ?_ hT
  unfold Dev.logicFault
  repeat' (first | with_reducible rfl | (simp (disch := decide) only [Dev.mask_ite, ite_self, Dev.unitFault_mask, Dev.journalAdd_mask, Dev.blockFault_mask]; done) | split | (dsimp only; split) | rfl)
theorem Dev.lpmTry_mask {T : Nat} (hT : subParts 2237958 T = true) (d : Dev) (t : ℕ) (bs : List Byte) (x3 : List ℕ) (x4 : Bool) : (Dev.lpmTry d t bs x3 x4).2.mask T = d.mask T := by
  refine Dev.mask_mono (a := 2237958) ?_ hT
  clear hT
  induction x3 generalizing d t bs x4 <;> unfold Dev.lpmTry
  repeat' (first | with_reducible rfl | (simp (disch := decide) only [Dev.mask_ite, ite_self, *, Dev.count_mask, Dev.probeKey_mask]; done) | split | (dsimp only; split) | rfl)
theorem Dev.lpmProbe_mask {T : Nat} (hT : subParts 2237958 T = true) (d : Dev) (t : ℕ) (md : List Byte) : (Dev.lpmProbe d t md).2.mask T = d.mask T := by
  refine Dev.mask_mono (a := 2237958) ?_ hT
  unfold Dev.lpmProbe
  repeat' (first | with_reducible rfl | (simp (disch := decide) only [Dev.mask_ite, ite_self, Dev.lpmTry_mask]; done) | split | (dsimp only; split) | rfl)
theorem Dev.markSegment_mask {T : Nat} (hT : subParts 17179869184 T = true) (d : Dev) (src : SxpSource) (cipher : ℕ) : (Dev.markSegment d src cipher).mask T = d.mask T := by
  refine Dev.mask_mono (a := 17179869184) ?_ hT
  unfold Dev.markSegment
  repeat' (first | with_reducible rfl | (simp (disch := decide) only [Dev.mask_ite, ite_self, Dev.modPacket_mask]; done) | split | (dsimp only; split) | rfl)
theorem Dev.meterDisable_mask {T : Nat} (hT : subParts 32 T = true) (d : Dev) (o : PortOp) : (Dev.meterDisable d o).2.mask T = d.mask T := by
  refine Dev.mask_mono (a := 32) ?_ hT
  unfold Dev.meterDisable
  repeat' (first | with_reducible rfl | (simp (disch := decide) only [Dev.mask_ite, ite_self, Dev.gsetWord_mask]; done) | split | (dsimp only; split) | rfl)
theorem Dev.meterStep_mask {T : Nat} (hT : subParts 17182106150 T = true) (d : Dev) (h : ℕ) : (Dev.meterStep d h).mask T = d.mask T := by
  refine Dev.mask_mono (a := 17182106150) ?_ hT
  unfold Dev.meterStep
  repeat' (first | with_reducible rfl | (simp (disch := decide) only [Dev.mask_ite, ite_self, Dev.modPacket_mask, Dev.lineUe_mask, Dev.gsetWords_mask]; done) | split | (dsimp only; split) | rfl)
theorem Dev.meterWrite_mask {T : Nat} (hT : subParts 32 T = true) (d : Dev) (o : PortOp) : (Dev.meterWrite d o).2.mask T = d.mask T := by
  refine Dev.mask_mono (a := 32) ?_ hT
  unfold Dev.meterWrite
  repeat' (first | with_reducible rfl | (simp (disch := decide) only [Dev.mask_ite, ite_self, Dev.gsetWords_mask]; done) | split | (dsimp only; split) | rfl)
theorem Dev.modifyQueue_mask {T : Nat} (hT : subParts 524320 T = true) (d : Dev) (welbor : Bool) (q : ℕ) (w : List ℕ) : (Dev.modifyQueue d welbor q w).2.mask T = d.mask T := by
  refine Dev.mask_mono (a := 524320) ?_ hT
  unfold Dev.modifyQueue
  repeat' (first | with_reducible rfl | (simp (disch := decide) only [Dev.mask_ite, ite_self, Dev.putContext_mask]; done) | split | (dsimp only; split) | rfl)
theorem Dev.msixWrite_mask {T : Nat} (hT : subParts 2097668 T = true) (d : Dev) (n : ℕ) (v : ℕ) (i : ℕ) (x : ℕ) : (Dev.msixWrite d n v i x).mask T = d.mask T := by
  refine Dev.mask_mono (a := 2097668) ?_ hT
  unfold Dev.msixWrite
  repeat' (first | with_reducible rfl | (simp (disch := decide) only [Dev.mask_ite, ite_self, Dev.setHostPort_mask, Dev.msixUnmask_mask]; done) | split | (dsimp only; split) | rfl)
theorem Dev.nextRecord_mask {T : Nat} (hT : subParts 442721857769029238784 T = true) (d : Dev) (s : ℕ) : (Dev.nextRecord d s).mask T = d.mask T := by
  refine Dev.mask_mono (a := 442721857769029238784) ?_ hT
  unfold Dev.nextRecord
  repeat' (first | with_reducible rfl | (simp (disch := decide) only [Dev.mask_ite, ite_self, Dev.setSes_mask, Dev.setSxp_mask]; done) | split | (dsimp only; split) | rfl)
theorem Dev.noteOscillator_mask {T : Nat} (hT : subParts 2302470 T = true) (d : Dev) (n : ℕ) : (Dev.noteOscillator d n).mask T = d.mask T := by
  refine Dev.mask_mono (a := 2302470) ?_ hT
  unfold Dev.noteOscillator
  repeat' (first | with_reducible rfl | (simp (disch := decide) only [Dev.mask_ite, ite_self, Dev.journalAdd_mask]; done) | split | (dsimp only; split) | rfl)
theorem Dev.noteSa_mask {T : Nat} (hT : subParts 2236934 T = true) (d : Dev) (s : ℕ) : (Dev.noteSa d s).mask T = d.mask T := by
  refine Dev.mask_mono (a := 2236934) ?_ hT
  unfold Dev.noteSa
  repeat' (first | with_reducible rfl | (simp (disch := decide) only [Dev.mask_ite, ite_self, Dev.latchWhen_mask]; done) | split | (dsimp only; split) | rfl)
theorem Dev.noteSes_mask {T : Nat} (hT : subParts 2236934 T = true) (d : Dev) (s : ℕ) : (Dev.noteSes d s).mask T = d.mask T := by
  refine Dev.mask_mono (a := 2236934) ?_ hT
  unfold Dev.noteSes
  repeat' (first | with_reducible rfl | (simp (disch := decide) only [Dev.mask_ite, ite_self, Dev.latchWhen_mask]; done) | split | (dsimp only; split) | rfl)
theorem Dev.noteStamp_mask {T : Nat} (hT : subParts 295147905179352825856 T = true) (d : Dev) (s : ℕ) (g : Segmented) : (Dev.noteStamp d s g).mask T = d.mask T := by
  refine Dev.mask_mono (a := 295147905179352825856) ?_ hT
  unfold Dev.noteStamp
  repeat' (first | with_reducible rfl | (simp (disch := decide) only [Dev.mask_ite, ite_self, Dev.modSes_mask]; done) | split | (dsimp only; split) | rfl)
theorem Dev.noteVol_mask {T : Nat} (hT : subParts 2236934 T = true) (d : Dev) (v : ℕ) : (Dev.noteVol d v).mask T = d.mask T := by
  refine Dev.mask_mono (a := 2236934) ?_ hT
  unfold Dev.noteVol
  repeat' (first | with_reducible rfl | (simp (disch := decide) only [Dev.mask_ite, ite_self, Dev.latchWhen_mask]; done) | split | (dsimp only; split) | rfl)
theorem Dev.offerException_mask {T : Nat} (hT : subParts 36893710265958408710 T = true) (d : Dev) : (Dev.offerException d).mask T = d.mask T := by
  refine Dev.mask_mono (a := 36893710265958408710) ?_ hT
  unfold Dev.offerException
  repeat' (first | with_reducible rfl | (simp (disch := decide) only [Dev.mask_ite, ite_self, Dev.mask_excQ, Dev.setStage_mask, Dev.fset_mask, Dev.dropPacket_mask, Dev.pulse_mask, Dev.count_mask]; done) | split | (dsimp only; split) | rfl)
theorem Dev.onFirmwareWrite_mask {T : Nat} (hT : subParts 2236934 T = true) (d : Dev) (req : Requester) (addr : ℕ) (f : Dev → Dev) (hf : ∀ d, (f d).mask T = d.mask T) : (Dev.onFirmwareWrite d req addr f).mask T = d.mask T := by
  unfold Dev.onFirmwareWrite
  repeat' (first | with_reducible rfl | (simp (disch := first | exact subParts_trans (by decide) hT | (intros; (repeat' (first | with_reducible rfl | (simp (disch := exact subParts_trans (by decide) hT) only [Dev.mask_ite, ite_self, Dev.onWrite_mask, Dev.closedWrite_mask, hf]; done) | split | (dsimp only; split))))) only [Dev.mask_foldl, Dev.mask_ite, ite_self, Dev.onWrite_mask, Dev.closedWrite_mask, hf]; done) | split | (dsimp only; split) | rfl | (refine (Dev.mask_foldl ?_ _ _).trans ?_ <;> try intro d a))
theorem Dev.onHeader_mask {T : Nat} (hT : subParts 2236934 T = true) (d : Dev) (req : Requester) (page : ℕ) (off : ℕ) (f : Dev → PageKind → ℕ → ℕ → Dev) (hf : ∀ d a0 a1 a2, (f d a0 a1 a2).mask T = d.mask T) : (Dev.onHeader d req page off f).mask T = d.mask T := by
  unfold Dev.onHeader
  repeat' (first | with_reducible rfl | (simp (disch := first | exact subParts_trans (by decide) hT | (intros; (repeat' (first | with_reducible rfl | (simp (disch := exact subParts_trans (by decide) hT) only [Dev.mask_ite, ite_self, Dev.onWrite_mask, hf]; done) | split | (dsimp only; split))))) only [Dev.mask_foldl, Dev.mask_ite, ite_self, Dev.onWrite_mask, hf]; done) | split | (dsimp only; split) | rfl | (refine (Dev.mask_foldl ?_ _ _).trans ?_ <;> try intro d a))
theorem Dev.onMail_mask {T : Nat} (hT : subParts 2236934 T = true) (d : Dev) (req : Requester) (box : MailEnd) (off : ℕ) (f : Dev → Dev) (hf : ∀ d, (f d).mask T = d.mask T) : (Dev.onMail d req box off f).mask T = d.mask T := by
  unfold Dev.onMail
  repeat' (first | with_reducible rfl | (simp (disch := first | exact subParts_trans (by decide) hT | (intros; (repeat' (first | with_reducible rfl | (simp (disch := exact subParts_trans (by decide) hT) only [Dev.mask_ite, ite_self, Dev.onWrite_mask, Dev.closedWrite_mask, Dev.pulse_mask, Dev.accessError_mask, Dev.emit_mask, hf]; done) | split | (dsimp only; split))))) only [Dev.mask_foldl, Dev.mask_ite, ite_self, Dev.onWrite_mask, Dev.closedWrite_mask, Dev.pulse_mask, Dev.accessError_mask, Dev.emit_mask, hf]; done) | split | (dsimp only; split) | rfl | (refine (Dev.mask_foldl ?_ _ _).trans ?_ <;> try intro d a))
theorem Dev.onRead_mask {T : Nat} (hT : subParts 2236934 T = true) (d : Dev) (req : Requester) (addr : ℕ) (f : Dev → Dev) (hf : ∀ d, (f d).mask T = d.mask T) : (Dev.onRead d req addr f).mask T = d.mask T := by
  unfold Dev.onRead
  repeat' (first | with_reducible rfl | (simp (disch := exact subParts_trans (by decide) hT) only [Dev.mask_ite, ite_self, Dev.emit_mask, Dev.powerAbort_mask, Dev.accessError_mask, hf]; done) | split | (dsimp only; split) | rfl)
theorem Dev.onWmb_mask {T : Nat} (hT : subParts 2236934 T = true) (d : Dev) (req : Requester) (page : ℕ) (f : Dev → PageKind → ℕ → ℕ → Dev) (hf : ∀ d a0 a1 a2, (f d a0 a1 a2).mask T = d.mask T) : (Dev.onWmb d req page f).mask T = d.mask T := by
  unfold Dev.onWmb
  repeat' (first | with_reducible rfl | (simp (disch := first | exact subParts_trans (by decide) hT | (intros; (repeat' (first | with_reducible rfl | (simp (disch := exact subParts_trans (by decide) hT) only [Dev.mask_ite, ite_self, Dev.onWrite_mask, hf]; done) | split | (dsimp only; split))))) only [Dev.mask_foldl, Dev.mask_ite, ite_self, Dev.onWrite_mask, hf]; done) | split | (dsimp only; split) | rfl | (refine (Dev.mask_foldl ?_ _ _).trans ?_ <;> try intro d a))
theorem Dev.opClear_mask {T : Nat} (hT : subParts 844424941281830 T = true) (d : Dev) (o : PortOp) : (Dev.opClear d o).2.mask T = d.mask T := by
  refine Dev.mask_mono (a := 844424941281830) ?_ hT
  unfold Dev.opClear
  repeat' (first | with_reducible rfl | (simp (disch := decide) only [Dev.mask_ite, ite_self, Dev.opOutcome_mask, Dev.clearEntry_mask]; done) | split | (dsimp only; split) | rfl)
theorem Dev.opDelete_mask {T : Nat} (hT : subParts 844424941281830 T = true) (d : Dev) (o : PortOp) : (Dev.opDelete d o).2.mask T = d.mask T := by
  refine Dev.mask_mono (a := 844424941281830) ?_ hT
  unfold Dev.opDelete
  repeat' (first | with_reducible rfl | (simp (disch := decide) only [Dev.mask_ite, ite_self, Dev.findKey_mask, Dev.opOutcome_mask, Dev.clearEntry_mask]; done) | split | (dsimp only; split) | rfl)
theorem Dev.opInsert_mask {T : Nat} (hT : subParts 8162791515629094 T = true) (d : Dev) (o : PortOp) (noevict : Bool) : (Dev.opInsert d o noevict).2.mask T = d.mask T := by
  refine Dev.mask_mono (a := 8162791515629094) ?_ hT
  unfold Dev.opInsert
  repeat' (first | with_reducible rfl | (simp (disch := decide) only [Dev.mask_ite, ite_self, Dev.insertEntry_mask, Dev.opOutcome_mask]; done) | split | (dsimp only; split) | rfl)
theorem Dev.tblgResult_mask {T : Nat} (hT : subParts 2 T = true) (d : Dev) (ws : List ℕ) : (Dev.tblgResult d ws).mask T = d.mask T := by
  refine Dev.mask_mono (a := 2) ?_ hT
  unfold Dev.tblgResult
  repeat' (first | with_reducible rfl | (simp (disch := first | decide | (intros; simp (disch := decide) only [Dev.mask_ite, ite_self, Dev.fset_mask])) only [Dev.mask_foldl, Dev.mask_ite, ite_self, Dev.fset_mask]; done) | split | (dsimp only; split) | rfl | (refine (Dev.mask_foldl ?_ _ _).trans ?_ <;> try intro d a))
theorem Dev.opLookup_mask {T : Nat} (hT : subParts 2237958 T = true) (d : Dev) (o : PortOp) : (Dev.opLookup d o).2.mask T = d.mask T := by
  refine Dev.mask_mono (a := 2237958) ?_ hT
  unfold Dev.opLookup
  repeat' (first | with_reducible rfl | (simp (disch := decide) only [Dev.mask_ite, ite_self, Dev.probeKey_mask, Dev.opOutcome_mask, Dev.tblgResult_mask]; done) | split | (dsimp only; split) | rfl)
theorem Dev.openChannel_mask {T : Nat} (hT : subParts 1180591620717411303424 T = true) (d : Dev) (s : ℕ) : (Dev.openChannel d s).mask T = d.mask T := by
  refine Dev.mask_mono (a := 1180591620717411303424) ?_ hT
  unfold Dev.openChannel
  repeat' (first | with_reducible rfl | (simp (disch := decide) only [Dev.mask_ite, ite_self, Dev.setChannel_mask]; done) | split | (dsimp only; split) | rfl)
theorem Dev.openSession_mask {T : Nat} (hT : subParts 295724374848018982438 T = true) (d : Dev) (s : ℕ) : (Dev.openSession d s).mask T = d.mask T := by
  refine Dev.mask_mono (a := 295724374848018982438) ?_ hT
  unfold Dev.openSession
  dsimp only
  refine (Dev.mask_getD ?_).trans ?_
  · intro r hr; exact Dev.sendSegment_mask (by decide) hr
  · simp (disch := decide) only [Dev.mask_ite, ite_self, Dev.mask_free, Dev.fresh_mask, Dev.setSes_mask, Dev.sesSet_mask, Dev.setSesState_mask]
theorem Dev.openTimeout_mask {T : Nat} (hT : subParts 295147913975473250822 T = true) (d : Dev) (q : ℕ) (idx : ℕ) : (Dev.openTimeout d q idx).mask T = d.mask T := by
  refine Dev.mask_mono (a := 295147913975473250822) ?_ hT
  unfold Dev.openTimeout
  repeat' (first | with_reducible rfl | (simp (disch := decide) only [Dev.mask_ite, ite_self, Dev.endStorage_mask]; done) | split | (dsimp only; split) | rfl)
theorem Dev.oscillatorFail_mask {T : Nat} (hT : subParts 2826758 T = true) (d : Dev) (n : ℕ) : (Dev.oscillatorFail d n).mask T = d.mask T := by
  refine Dev.mask_mono (a := 2826758) ?_ hT
  unfold Dev.oscillatorFail
  repeat' (first | with_reducible rfl | (simp (disch := decide) only [Dev.mask_ite, ite_self, Dev.setFt_mask, Dev.noteOscillator_mask]; done) | split | (dsimp only; split) | rfl)
theorem Dev.otpEnd_mask {T : Nat} (hT : subParts 1770887431076131774982 T = true) (d : Dev) : (Dev.otpEnd d).mask T = d.mask T := by
  refine Dev.mask_mono (a := 1770887431076131774982) ?_ hT
  unfold Dev.otpEnd
  repeat' (first | with_reducible rfl | (simp (disch := decide) only [Dev.mask_ite, ite_self, Dev.setWel_mask, Dev.fset_mask, Dev.fwAnswer_mask]; done) | split | (dsimp only; split) | rfl)
theorem Dev.otpWrite_mask {T : Nat} (hT : subParts 1770887431076131774982 T = true) (d : Dev) (c : ℕ) : (Dev.otpWrite d c).mask T = d.mask T := by
  refine Dev.mask_mono (a := 1770887431076131774982) ?_ hT
  unfold Dev.otpWrite
  repeat' (first | with_reducible rfl | (simp (disch := decide) only [Dev.mask_ite, ite_self, Dev.mailPop_mask, Dev.hostFetch_mask, Dev.fwAnswer_mask, Dev.fset_mask, Dev.setWel_mask]; done) | split | (dsimp only; split) | rfl)
theorem Dev.pairTested_mask {T : Nat} (hT : subParts 73786976294838206468 T = true) (d : Dev) (k : ℕ) (pass : Bool) : (Dev.pairTested d k pass).mask T = d.mask T := by
  refine Dev.mask_mono (a := 73786976294838206468) ?_ hT
  unfold Dev.pairTested
  repeat' (first | with_reducible rfl | (simp (disch := decide) only [Dev.mask_ite, ite_self, Dev.wcount_mask, Dev.setLehr_mask]; done) | split | (dsimp only; split) | rfl)
theorem Dev.pauseWatchdog_mask {T : Nat} (hT : subParts 9223372036857012742 T = true) (d : Dev) (m : ℕ) (t : ℕ) : (Dev.pauseWatchdog d m t).mask T = d.mask T := by
  refine Dev.mask_mono (a := 9223372036857012742) ?_ hT
  unfold Dev.pauseWatchdog
  repeat' (first | with_reducible rfl | (simp (disch := decide) only [Dev.mask_ite, ite_self, Dev.updatePaused_mask, Dev.setMac_mask, Dev.pulse_mask, Dev.latchFault_mask, Dev.count_mask]; done) | split | (dsimp only; split) | rfl)
theorem Dev.perstOff_mask {T : Nat} (hT : subParts 131072 T = true) (d : Dev) (n : ℕ) : (Dev.perstOff d n).mask T = d.mask T := by
  refine Dev.mask_mono (a := 131072) ?_ hT
  unfold Dev.perstOff
  repeat' (first | with_reducible rfl | (simp (disch := decide) only [Dev.mask_ite, ite_self, Dev.setPwr_mask]; done) | split | (dsimp only; split) | rfl)
theorem Dev.perstOn_mask {T : Nat} (hT : subParts 332041630838494994982 T = true) (d : Dev) (n : ℕ) : (Dev.perstOn d n).mask T = d.mask T := by
  refine Dev.mask_mono (a := 332041630838494994982) ?_ hT
  unfold Dev.perstOn
  repeat' (first | with_reducible rfl | (simp (disch := decide) only [Dev.mask_ite, ite_self, Dev.setPwr_mask, Dev.resetPort_mask]; done) | split | (dsimp only; split) | rfl)
theorem Dev.popLimit_mask {T : Nat} (hT : subParts 147573952589676413440 T = true) (d : Dev) : (Dev.popLimit d).mask T = d.mask T := by
  refine Dev.mask_mono (a := 147573952589676413440) ?_ hT
  unfold Dev.popLimit
  repeat' (first | with_reducible rfl | (simp (disch := decide) only [Dev.mask_ite, ite_self, Dev.emit_mask, Dev.setSxp_mask]; done) | split | (dsimp only; split) | rfl)
theorem Dev.popSto_mask {T : Nat} (hT : subParts 41505411677548585478 T = true) (d : Dev) (n : ℕ) : (Dev.popSto d n).mask T = d.mask T := by
  refine Dev.mask_mono (a := 41505411677548585478) ?_ hT
  unfold Dev.popSto
  repeat' (first | with_reducible rfl | (simp (disch := decide) only [Dev.mask_ite, ite_self, Dev.mask_host, Dev.endCopy_mask, Dev.addHostDepth_mask]; done) | split | (dsimp only; split) | rfl)
theorem Dev.popTc_mask {T : Nat} (hT : subParts 2305843009213693954 T = true) (d : Dev) (m : ℕ) (t : ℕ) : (Dev.popTc d m t).mask T = d.mask T := by
  refine Dev.mask_mono (a := 2305843009213693954) ?_ hT
  unfold Dev.popTc
  repeat' (first | with_reducible rfl | (simp (disch := decide) only [Dev.mask_ite, ite_self, Dev.setTcDepth_mask, Dev.setSched_mask]; done) | split | (dsimp only; split) | rfl)
theorem Dev.portExec_mask {T : Nat} (hT : subParts 35791366 T = true) (d : Dev) (i : PortInfo) (op : ℕ) (f : Dev → PortOp → ℕ × Dev) (hf : ∀ d a0, (f d a0).2.mask T = d.mask T) : (Dev.portExec d i op f).mask T = d.mask T := by
  unfold Dev.portExec
  repeat' (first | with_reducible rfl | (simp (disch := exact subParts_trans (by decide) hT) only [Dev.mask_ite, ite_self, Dev.portEnd_mask, hf]; done) | split | (dsimp only; split) | rfl)
theorem Dev.portHeldStart_mask {T : Nat} (hT : subParts 35791366 T = true) (d : Dev) (i : PortInfo) : (Dev.portHeldStart d i).mask T = d.mask T := by
  refine Dev.mask_mono (a := 35791366) ?_ hT
  unfold Dev.portHeldStart
  repeat' (first | with_reducible rfl | (simp (disch := decide) only [Dev.mask_ite, ite_self, Dev.portStart_mask, Dev.setPort_mask]; done) | split | (dsimp only; split) | rfl)
theorem Dev.postBuffer_mask {T : Nat} (hT : subParts 16777216 T = true) (d : Dev) (q : ℕ) : (Dev.postBuffer d q).mask T = d.mask T := by
  refine Dev.mask_mono (a := 16777216) ?_ hT
  unfold Dev.postBuffer
  repeat' (first | with_reducible rfl | (simp (disch := decide) only [Dev.mask_ite, ite_self, Dev.modEntry_mask]; done) | split | (dsimp only; split) | rfl)
theorem Dev.segmentEnd_mask {T : Nat} (hT : subParts 37470221905034355206 T = true) {d : Dev} {h : ℕ} {seg : ℕ} {cipher : ℕ} {bytes : List Byte} {r} (e : Dev.segmentEnd d h seg cipher bytes = some r) : r.mask T = d.mask T := by
  refine Dev.mask_mono (a := 37470221905034355206) ?_ hT
  unfold Dev.segmentEnd at e
  all_goals try dsimp only at e
  all_goals repeat' (split at e)
  all_goals first | (cases e; done) | (cases e; with_reducible rfl) | (cases e; simp (disch := decide) only [Dev.mask_ite, ite_self, Dev.modPacket_mask]; done) | (cases e; exact Dev.finishPass_mask (by decide) (by assumption)) | (cases e; simp (disch := decide) only [Dev.mask_ite, ite_self, Dev.modPacket_mask]; exact Dev.finishPass_mask (by decide) (by assumption)) | exact Dev.finishPass_mask (by decide) e | exact (Dev.finishPass_mask (by decide) e).trans (by simp (disch := decide) only [Dev.mask_ite, ite_self, Dev.modPacket_mask]) | exact (Dev.finishPass_mask (by decide) e).trans (by simp (disch := decide) only [Dev.mask_ite, ite_self, Dev.modPacket_mask]; exact Dev.finishPass_mask (by decide) (by assumption)) | exact (Dev.finishPass_mask (by decide) e).trans (Dev.finishPass_mask (by decide) (by assumption))
theorem Dev.sxpRefuse_mask {T : Nat} (hT : subParts 37470221905034355238 T = true) {d : Dev} {src : SxpSource} {sa : ℕ} {charged : Bool} {n : ℕ} {r} (e : Dev.sxpRefuse d src sa charged n = some r) : r.2.mask T = d.mask T := by
  refine Dev.mask_mono (a := 37470221905034355238) ?_ hT
  unfold Dev.sxpRefuse at e
  extract_lets d1 at e
  have h1 : d1.mask 37470221905034355238 = d.mask 37470221905034355238 := by
    simp only [d1]; split
    · simp (disch := decide) only [Dev.mask_ite, ite_self, Dev.saSet_mask, Dev.sxpDiscard_mask, Dev.staleHandle_mask]
    · rfl
  rw [← h1]
  clear_value d1
  have h2 : (if n = 0 then d1 else d1.sxpDiscard n).mask 37470221905034355238 = d1.mask 37470221905034355238 := by
    split
    · rfl
    · exact Dev.sxpDiscard_mask (by decide) _ _
  rw [← h2]
  split at e
  · rename_i d2 _ _ _ _
    change d2.mask 37470221905034355238 = _ at h2
    change _ = d2.mask 37470221905034355238
    clear_value d2
    split at e
    · rw [Option.map_eq_some_iff] at e
      obtain ⟨a, ha, rfl⟩ := e
      exact Dev.segmentEnd_mask (by decide) ha
    · cases e; exact Dev.staleHandle_mask (by decide) _
  · cases e; rw [h2]; exact Dev.sxpDiscard_mask (by decide) _ _
theorem Dev.setReplayBit_mask {T : Nat} (hT : subParts 32 T = true) (d : Dev) (w : List ℕ) (n : ℕ) (b : Bool) : (Dev.setReplayBit d w n b).mask T = d.mask T := by
  refine Dev.mask_mono (a := 32) ?_ hT
  unfold Dev.setReplayBit
  repeat' (first | with_reducible rfl | (simp (disch := decide) only [Dev.mask_ite, ite_self, Dev.gwrite_mask]; done) | split | (dsimp only; split) | rfl)
theorem Dev.windowUpdate_mask {T : Nat} (hT : subParts 32 T = true) (d : Dev) (s : ℕ) (w : List ℕ) (n : ℕ) : (Dev.windowUpdate d s w n).mask T = d.mask T := by
  refine Dev.mask_mono (a := 32) ?_ hT
  unfold Dev.windowUpdate
  repeat' (first | with_reducible rfl | (simp (disch := first | decide | (intros; simp (disch := decide) only [Dev.mask_ite, ite_self, Dev.setReplayBit_mask, Dev.saSet_mask])) only [Dev.mask_foldl, Dev.mask_ite, ite_self, Dev.setReplayBit_mask, Dev.saSet_mask]; done) | split | (dsimp only; split) | rfl | (refine (Dev.mask_foldl ?_ _ _).trans ?_ <;> try intro d a))
theorem Dev.sxpCount_mask {T : Nat} (hT : subParts 36 T = true) (d : Dev) (j : SxpJob) : (Dev.sxpCount d j).mask T = d.mask T := by
  refine Dev.mask_mono (a := 36) ?_ hT
  unfold Dev.sxpCount
  repeat' (first | with_reducible rfl | (simp (disch := decide) only [Dev.mask_ite, ite_self, Dev.wcount_mask, Dev.saSet_mask]; done) | split | (dsimp only; split) | rfl)
theorem Dev.sxpDeliver_mask {T : Nat} (hT : subParts 37470221905034355206 T = true) {d : Dev} {j : SxpJob} {bytes : List Byte} {inner : ℕ} {r} (e : Dev.sxpDeliver d j bytes inner = some r) : r.2.mask T = d.mask T := by
  refine Dev.mask_mono (a := 37470221905034355206) ?_ hT
  unfold Dev.sxpDeliver at e
  split at e
  · rw [Option.map_eq_some_iff] at e
    obtain ⟨a, ha, rfl⟩ := e
    exact (Dev.segmentEnd_mask (by decide) ha).trans (Dev.modPacket_mask (by decide) _ _ _)
  · cases e; rfl
theorem Dev.tlsVerified_mask {T : Nat} (hT : subParts 2236966 T = true) (d : Dev) (j : SxpJob) (inner : ℕ) : (Dev.tlsVerified d j inner).mask T = d.mask T := by
  refine Dev.mask_mono (a := 2236966) ?_ hT
  unfold Dev.tlsVerified
  repeat' (first | with_reducible rfl | (simp (disch := decide) only [Dev.mask_ite, ite_self, Dev.saSet_mask, Dev.pulse_mask]; done) | split | (dsimp only; split) | rfl)
theorem Dev.sxpFinal_mask {T : Nat} (hT : subParts 37470221905034355238 T = true) {d : Dev} {j : SxpJob} {code : ℕ} {out : List Byte} {r} (e : Dev.sxpFinal d j code out = some r) : r.2.mask T = d.mask T := by
  refine Dev.mask_mono (a := 37470221905034355238) ?_ hT
  unfold Dev.sxpFinal at e
  dsimp only at e
  split at e
  · exact Dev.sxpRefuse_mask (by decide) e
  · split at e
    · exact Dev.sxpRefuse_mask (by decide) e
    · have h1 : ∀ (c : Prop) [Decidable c] (a b : _) (x : Nat), (if c then d.windowUpdate a b x else d).mask 37470221905034355238 = d.mask 37470221905034355238 := by
        intro c _ a b x; split
        · exact Dev.windowUpdate_mask (by decide) _ _ _ _
        · rfl
      split at e
      · exact (Dev.sxpRefuse_mask (by decide) e).trans (h1 _ _ _ _)
      · split at e
        · exact (Dev.sxpRefuse_mask (by decide) e).trans (h1 _ _ _ _)
        · split at e
          · exact (Dev.sxpRefuse_mask (by decide) e).trans ((Dev.sxpCount_mask (by decide) _ _).trans (h1 _ _ _ _))
          · split at e
            · exact (Dev.sxpDeliver_mask (by decide) e).trans ((Dev.tlsVerified_mask (by decide) _ _ _).trans ((Dev.sxpCount_mask (by decide) _ _).trans (h1 _ _ _ _)))
            · exact (Dev.sxpDeliver_mask (by decide) e).trans ((Dev.sxpCount_mask (by decide) _ _).trans (h1 _ _ _ _))
theorem Dev.mask_getD_pair {T : Nat} {α : Type} {o : Option (α × Dev)} {x : α} {d : Dev}
    (h : ∀ r, o = some r → r.2.mask T = d.mask T) : (o.getD (x, d)).2.mask T = d.mask T := by
  cases o with
  | none => rfl
  | some r => exact h r rfl
theorem Dev.postcheck_mask {T : Nat} (hT : subParts 185044174494710768166 T = true) (d : Dev) (lane : ℕ) : (Dev.postcheck d lane).2.mask T = d.mask T := by
  refine Dev.mask_mono (a := 185044174494710768166) ?_ hT
  unfold Dev.postcheck
  split
  · rfl
  · split
    · rfl
    · dsimp only
      split
      · split
        · simp (disch := decide) only [Dev.mask_ite, ite_self, Dev.setSxp_mask, Dev.noteSa_mask, Dev.saSet_mask, Dev.staleHandle_mask]
        · refine Dev.mask_getD_pair ?_
          intro r hr
          exact (Dev.sxpFinal_mask (by decide) hr).trans (by simp (disch := decide) only [Dev.mask_ite, ite_self, Dev.setSxp_mask, Dev.noteSa_mask, Dev.saSet_mask, Dev.staleHandle_mask])
      · split
        · simp (disch := decide) only [Dev.mask_ite, ite_self, Dev.setSxp_mask, Dev.noteSa_mask, Dev.saSet_mask, Dev.staleHandle_mask]
        · refine Dev.mask_getD_pair ?_
          intro r hr
          exact (Dev.sxpFinal_mask (by decide) hr).trans (by simp (disch := decide) only [Dev.mask_ite, ite_self, Dev.setSxp_mask, Dev.noteSa_mask, Dev.saSet_mask, Dev.staleHandle_mask])
theorem Dev.unlinkPorts_mask {T : Nat} (hT : subParts 2097152 T = true) (d : Dev) : (Dev.unlinkPorts d).mask T = d.mask T := by
  refine Dev.mask_mono (a := 2097152) ?_ hT
  unfold Dev.unlinkPorts
  repeat' (first | with_reducible rfl | (simp (disch := first | decide | (intros; simp (disch := decide) only [Dev.mask_ite, ite_self, Dev.setHostPort_mask])) only [Dev.mask_foldl, Dev.mask_ite, ite_self, Dev.setHostPort_mask]; done) | split | (dsimp only; split) | rfl | (refine (Dev.mask_foldl ?_ _ _).trans ?_ <;> try intro d a))
theorem Dev.powerLost_mask {T : Nat} (hT : subParts 2361183241434822603774 T = true) (d : Dev) : (Dev.powerLost d).mask T = d.mask T := by
  refine Dev.mask_mono (a := 2361183241434822603774) ?_ hT
  unfold Dev.powerLost
  repeat' (first | with_reducible rfl | (simp (disch := decide) only [Dev.mask_ite, ite_self, Dev.endHoldUp_mask, Dev.sleep_mask, Dev.unlinkPorts_mask]; done) | split | (dsimp only; split) | rfl)
theorem Dev.powerUp_mask {T : Nat} (hT : subParts 3023366 T = true) (d : Dev) : (Dev.powerUp d).mask T = d.mask T := by
  refine Dev.mask_mono (a := 3023366) ?_ hT
  unfold Dev.powerUp
  repeat' (first | with_reducible rfl | (simp (disch := decide) only [Dev.mask_ite, ite_self, Dev.setFt_mask, Dev.setPwr_mask, Dev.restoreClock_mask, Dev.setDevices_mask, Dev.showJournal_mask]; done) | split | (dsimp only; split) | rfl)
theorem Dev.pushLimit_mask {T : Nat} (hT : subParts 147573952589678649862 T = true) (d : Dev) (hard : Bool) (s : ℕ) : (Dev.pushLimit d hard s).mask T = d.mask T := by
  refine Dev.mask_mono (a := 147573952589678649862) ?_ hT
  unfold Dev.pushLimit
  repeat' (first | with_reducible rfl | (simp (disch := decide) only [Dev.mask_ite, ite_self, Dev.setSxp_mask, Dev.countSat_mask, Dev.pulse_mask]; done) | split | (dsimp only; split) | rfl)
theorem Dev.touchLimits_mask {T : Nat} (hT : subParts 147573952589678649894 T = true) (d : Dev) (s : ℕ) (n : ℕ) (refused : Bool) : (Dev.touchLimits d s n refused).mask T = d.mask T := by
  refine Dev.mask_mono (a := 147573952589678649894) ?_ hT
  unfold Dev.touchLimits
  repeat' (first | with_reducible rfl | (simp (disch := decide) only [Dev.mask_ite, ite_self, Dev.pushLimit_mask, Dev.saSet_mask]; done) | split | (dsimp only; split) | rfl)
theorem Dev.sxpSubmit_mask {T : Nat} (hT : subParts 221360928901694488608 T = true) (d : Dev) (r : SxpReq) (s : ℕ) (n : ℕ) (l : Located) : (Dev.sxpSubmit d r s n l).mask T = d.mask T := by
  refine Dev.mask_mono (a := 221360928901694488608) ?_ hT
  unfold Dev.sxpSubmit
  repeat' (first | with_reducible rfl | (simp (disch := decide) only [Dev.mask_ite, ite_self, Dev.setSxp_mask, Dev.saSet_mask, Dev.submitJob_mask, Dev.markSegment_mask]; done) | split | (dsimp only; split) | rfl)
theorem Dev.sxpCheck_mask {T : Nat} (hT : subParts 258831150789548974630 T = true) {d : Dev} {r : SxpReq} {s : ℕ} {z} (e : Dev.sxpCheck d r s = some z) : z.2.mask T = d.mask T := by
  refine Dev.mask_mono (a := 258831150789548974630) ?_ hT
  unfold Dev.sxpCheck at e
  extract_lets w pos needs t at e
  clear_value w pos needs t
  split at e
  · exact (Dev.sxpRefuse_mask (by decide) e).trans (by simp (disch := decide) only [Dev.mask_ite, ite_self, Dev.countDrop_mask, Dev.templateAbsent_mask, Dev.touchLimits_mask, Dev.advanceId_mask, Dev.autoRoll_mask, Dev.sxpSubmit_mask])
  · split at e
    · exact Dev.sxpRefuse_mask (by decide) e
    · extract_lets n refused d1 at e
      have h1 : d1.mask 258831150789548974630 = d.mask 258831150789548974630 := Dev.touchLimits_mask (by decide) _ _ _ _
      rw [← h1]
      split at e
      · exact Dev.sxpRefuse_mask (by decide) e
      · split at e
        · exact Dev.sxpRefuse_mask (by decide) e
        · split at e
          · exact Dev.sxpRefuse_mask (by decide) e
          · cases e
            rw [Dev.autoRoll_mask (by decide), Dev.sxpSubmit_mask (by decide)]
            rename_i d2 _ _ _ _
            simp only [d2]
            split
            · split
              · simp (disch := decide) only [Dev.mask_ite, ite_self, Dev.countDrop_mask, Dev.templateAbsent_mask, Dev.touchLimits_mask, Dev.advanceId_mask, Dev.autoRoll_mask, Dev.sxpSubmit_mask]
              · rfl
            · rfl
theorem Dev.precheck_mask {T : Nat} (hT : subParts 258831150789548974630 T = true) (d : Dev) (lane : ℕ) : (Dev.precheck d lane).2.mask T = d.mask T := by
  refine Dev.mask_mono (a := 258831150789548974630) ?_ hT
  unfold Dev.precheck
  split
  · rfl
  · rename_i r hr
    clear hr
    split
    · rfl
    · extract_lets q d1 s d2 live
      have h2 : d2.mask 258831150789548974630 = d.mask 258831150789548974630 := by
        simp only [d2, d1, q]
        simp (disch := decide) only [Dev.mask_ite, ite_self, Dev.setSxp_mask, Dev.noteSa_mask, Dev.staleHandle_mask]
      clear_value live s
      split
      · simp only [d1, q]
        simp (disch := decide) only [Dev.mask_ite, ite_self, Dev.setSxp_mask, Dev.noteSa_mask, Dev.staleHandle_mask]
      · refine Dev.mask_getD_pair ?_
        intro r hr
        rw [← h2]
        split at hr
        · exact Dev.sxpRefuse_mask (by decide) hr
        · exact Dev.sxpCheck_mask (by decide) hr
theorem Dev.protocolError_mask {T : Nat} (hT : subParts 443298327437712171558 T = true) (d : Dev) (s : ℕ) : (Dev.protocolError d s).mask T = d.mask T := by
  refine Dev.mask_mono (a := 443298327437712171558) ?_ hT
  unfold Dev.protocolError
  repeat' (first | with_reducible rfl | (simp (disch := decide) only [Dev.mask_ite, ite_self, Dev.failSession_mask]; done) | split | (dsimp only; split) | rfl)
theorem Dev.queOp_mask {T : Nat} (hT : subParts 35791366 T = true) (d : Dev) (op : ℕ) (f : Dev → Bool → ℕ → List ℕ → ℕ × Dev) (hf : ∀ d a0 a1 a2, (f d a0 a1 a2).2.mask T = d.mask T) : (Dev.queOp d op f).mask T = d.mask T := by
  unfold Dev.queOp
  repeat' (first | with_reducible rfl | (simp (disch := first | exact subParts_trans (by decide) hT | (intros; (repeat' (first | with_reducible rfl | (simp (disch := exact subParts_trans (by decide) hT) only [Dev.mask_ite, ite_self, Dev.portExec_mask, hf]; done) | split | (dsimp only; split))))) only [Dev.mask_foldl, Dev.mask_ite, ite_self, Dev.portExec_mask, hf]; done) | split | (dsimp only; split) | rfl | (refine (Dev.mask_foldl ?_ _ _).trans ?_ <;> try intro d a))
theorem Dev.queueHandshake_mask {T : Nat} (hT : subParts 295147905179355062790 T = true) (d : Dev) (s : ℕ) (bs : List Byte) : (Dev.queueHandshake d s bs).mask T = d.mask T := by
  refine Dev.mask_mono (a := 295147905179355062790) ?_ hT
  unfold Dev.queueHandshake
  repeat' (first | with_reducible rfl | (simp (disch := decide) only [Dev.mask_ite, ite_self, Dev.pulse_mask, Dev.modSes_mask]; done) | split | (dsimp only; split) | rfl)
theorem Dev.reachL12_mask {T : Nat} (hT : subParts 2228224 T = true) (d : Dev) (n : ℕ) : (Dev.reachL12 d n).mask T = d.mask T := by
  refine Dev.mask_mono (a := 2228224) ?_ hT
  unfold Dev.reachL12
  repeat' (first | with_reducible rfl | (simp (disch := decide) only [Dev.mask_ite, ite_self, Dev.setPwr_mask, Dev.setHostPort_mask]; done) | split | (dsimp only; split) | rfl)
theorem Dev.waitCells_mask {T : Nat} (hT : subParts 16777218 T = true) (d : Dev) (q : ℕ) (e : QueueEntry) : (Dev.waitCells d q e).mask T = d.mask T := by
  refine Dev.mask_mono (a := 16777218) ?_ hT
  unfold Dev.waitCells
  repeat' (first | with_reducible rfl | (simp (disch := decide) only [Dev.mask_ite, ite_self, Dev.count_mask, Dev.modEntry_mask]; done) | split | (dsimp only; split) | rfl)
theorem Dev.sfinishFrame_mask {T : Nat} (hT : subParts 9053818462726 T = true) (d : Dev) (q : ℕ) (e : QueueEntry) (a : HostAnswer) : (Dev.sfinishFrame d q e a).mask T = d.mask T := by
  refine Dev.mask_mono (a := 9053818462726) ?_ hT
  unfold Dev.sfinishFrame
  repeat' (first | with_reducible rfl | (simp (disch := first | decide | (intros; (repeat' (first | with_reducible rfl | (simp (disch := decide) only [Dev.mask_ite, ite_self, Dev.endWith_mask, Dev.waitCells_mask, Dev.onData_mask, Dev.enterFrame_mask]; done) | split | (dsimp only; split))))) only [Dev.mask_foldl, Dev.mask_ite, ite_self, Dev.endWith_mask, Dev.waitCells_mask, Dev.onData_mask, Dev.enterFrame_mask]; done) | split | (dsimp only; split) | rfl | (refine (Dev.mask_foldl ?_ _ _).trans ?_ <;> try intro d a))
theorem Dev.sendHandshake_mask {T : Nat} (hT : subParts 443298327437712171558 T = true) (d : Dev) (q : ℕ) (e : QueueEntry) (a : HostAnswer) : (Dev.sendHandshake d q e a).mask T = d.mask T := by
  refine Dev.mask_mono (a := 443298327437712171558) ?_ hT
  unfold Dev.sendHandshake
  repeat' (first | with_reducible rfl | (simp (disch := first | decide | (intros; (repeat' (first | with_reducible rfl | (simp (disch := decide) only [Dev.mask_ite, ite_self, Dev.endWith_mask, Dev.onData_mask, Dev.gatherBytes_mask, Dev.handshakeSend_mask]; done) | split | (dsimp only; split))))) only [Dev.mask_foldl, Dev.mask_ite, ite_self, Dev.endWith_mask, Dev.onData_mask, Dev.gatherBytes_mask, Dev.handshakeSend_mask]; done) | split | (dsimp only; split) | rfl | (refine (Dev.mask_foldl ?_ _ _).trans ?_ <;> try intro d a))
theorem Dev.sendEntry_mask {T : Nat} (hT : subParts 443298327575151125030 T = true) (d : Dev) (q : ℕ) (a : HostAnswer) : (Dev.sendEntry d q a).mask T = d.mask T := by
  refine Dev.mask_mono (a := 443298327575151125030) ?_ hT
  unfold Dev.sendEntry
  repeat' (first | with_reducible rfl | (simp (disch := decide) only [Dev.mask_ite, ite_self, Dev.sfinishFrame_mask, Dev.sendHandshake_mask]; done) | split | (dsimp only; split) | rfl)
theorem Dev.readTimeout_mask {T : Nat} (hT : subParts 443298327437712187942 T = true) (d : Dev) (n : ℕ) (t : ReadTarget) : (Dev.readTimeout d n t).mask T = d.mask T := by
  refine Dev.mask_mono (a := 443298327437712187942) ?_ hT
  unfold Dev.readTimeout
  repeat' (first | with_reducible rfl | (simp (disch := decide) only [Dev.mask_ite, ite_self, Dev.noteTimeout_mask, Dev.failTarget_mask]; done) | split | (dsimp only; split) | rfl)
theorem Dev.readCompletion_mask {T : Nat} (hT : subParts 517085303869989381094 T = true) (d : Dev) (n : ℕ) (t : ReadTarget) (answer : HostAnswer) : (Dev.readCompletion d n t answer).mask T = d.mask T := by
  refine Dev.mask_mono (a := 517085303869989381094) ?_ hT
  unfold Dev.readCompletion
  repeat' (first | with_reducible rfl | (simp (disch := first | decide | (intros; (repeat' (first | with_reducible rfl | (simp (disch := decide) only [Dev.mask_ite, ite_self, Dev.fetchEntry_mask, Dev.issueBurst_mask, Dev.issueWire_mask, Dev.cipherEntry_mask, Dev.sendEntry_mask, Dev.notPresent_mask, Dev.failTarget_mask, Dev.linkError_mask, Dev.readTimeout_mask, Dev.notePoison_mask]; done) | split | (dsimp only; split))))) only [Dev.mask_foldl, Dev.mask_ite, ite_self, Dev.fetchEntry_mask, Dev.issueBurst_mask, Dev.issueWire_mask, Dev.cipherEntry_mask, Dev.sendEntry_mask, Dev.notPresent_mask, Dev.failTarget_mask, Dev.linkError_mask, Dev.readTimeout_mask, Dev.notePoison_mask]; done) | split | (dsimp only; split) | rfl | (refine (Dev.mask_foldl ?_ _ _).trans ?_ <;> try intro d a))
theorem Dev.readLo_mask {T : Nat} (hT : subParts 8389120 T = true) (d : Dev) (s : ℕ) (k : ℕ) (m : optParam ℕ 4294967295) : (Dev.readLo d s k m).mask T = d.mask T := by
  refine Dev.mask_mono (a := 8389120) ?_ hT
  unfold Dev.readLo
  repeat' (first | with_reducible rfl | (simp (disch := decide) only [Dev.mask_ite, ite_self, Dev.emit_mask, Dev.setSlice_mask]; done) | split | (dsimp only; split) | rfl)
theorem Dev.readQueue_mask {T : Nat} (hT : subParts 2 T = true) (d : Dev) (welbor : Bool) (q : ℕ) : (Dev.readQueue d welbor q).mask T = d.mask T := by
  refine Dev.mask_mono (a := 2) ?_ hT
  unfold Dev.readQueue
  repeat' (first | with_reducible rfl | (simp (disch := first | decide | (intros; simp (disch := decide) only [Dev.mask_ite, ite_self, Dev.fset_mask])) only [Dev.mask_foldl, Dev.mask_ite, ite_self, Dev.fset_mask]; done) | split | (dsimp only; split) | rfl | (refine (Dev.mask_foldl ?_ _ _).trans ?_ <;> try intro d a))
theorem Dev.rebuildBurst_mask {T : Nat} (hT : subParts 2826758 T = true) (d : Dev) (n : ℕ) (a : ℕ) : (Dev.rebuildBurst d n a).mask T = d.mask T := by
  refine Dev.mask_mono (a := 2826758) ?_ hT
  unfold Dev.rebuildBurst
  repeat' (first | with_reducible rfl | (simp (disch := decide) only [Dev.mask_ite, ite_self, Dev.countSat_mask, Dev.setFt_mask, Dev.pulse_mask, Dev.latchFault_mask, Dev.count_mask, Dev.journalAdd_mask, Dev.failDevice_mask]; done) | split | (dsimp only; split) | rfl)
theorem Dev.receiveControl_mask {T : Nat} (hT : subParts 46117097902134403590 T = true) (d : Dev) (m : ℕ) (op : ℕ) (bs : List Byte) : (Dev.receiveControl d m op bs).mask T = d.mask T := by
  refine Dev.mask_mono (a := 46117097902134403590) ?_ hT
  unfold Dev.receiveControl
  repeat' (first | with_reducible rfl | (simp (disch := decide) only [Dev.mask_ite, ite_self, Dev.endFrame_mask, Dev.setMac_mask]; done) | split | (dsimp only; split) | rfl)
theorem Dev.receivePdu_mask {T : Nat} (hT : subParts 443298327437712171558 T = true) (d : Dev) (s : ℕ) (typ : ℕ) (any : Bool) (f : Dev → List Byte → Dev) (hf : ∀ d a0, (f d a0).mask T = d.mask T) : (Dev.receivePdu d s typ any f).mask T = d.mask T := by
  unfold Dev.receivePdu
  repeat' (first | with_reducible rfl | (simp (disch := exact subParts_trans (by decide) hT) only [Dev.mask_ite, ite_self, Dev.modSes_mask, Dev.protocolError_mask, Dev.headerFailed_mask, hf]; done) | split | (dsimp only; split) | rfl)
theorem Dev.takeData_mask {T : Nat} (hT : subParts 517085303732550378406 T = true) (d : Dev) (n : ℕ) (w : WireCmd) (s : ℕ) (p : List Byte) : (Dev.takeData d n w s p).mask T = d.mask T := by
  refine Dev.mask_mono (a := 517085303732550378406) ?_ hT
  unfold Dev.takeData
  extract_lets datao datal dg last data d1
  have h1 : d1.mask 517085303732550378406 = d.mask 517085303732550378406 := by
    simp only [d1]
    split
    · rfl
    · rename_i hm
      have hm := Dev.storeCells_mask (T := 517085303732550378406) (by decide) hm
      refine Eq.trans ?_ hm
      split <;> simp (disch := decide) only [Dev.mask_ite, ite_self, Dev.protocolError_mask, Dev.answerWire_mask, Dev.dataFailed_mask, Dev.freeRx_mask, Dev.drainRead_mask, Dev.setWire_mask]
  clear_value d1
  split
  · simp (disch := decide) only [Dev.mask_ite, ite_self, Dev.protocolError_mask, Dev.answerWire_mask, Dev.dataFailed_mask, Dev.freeRx_mask, Dev.drainRead_mask, Dev.setWire_mask]
  · split
    · split
      · simp (disch := decide) only [Dev.mask_ite, ite_self, Dev.protocolError_mask, Dev.answerWire_mask, Dev.dataFailed_mask, Dev.freeRx_mask, Dev.drainRead_mask, Dev.setWire_mask]
      · rfl
    · split
      · simp (disch := decide) only [Dev.mask_ite, ite_self, Dev.protocolError_mask, Dev.answerWire_mask, Dev.dataFailed_mask, Dev.freeRx_mask, Dev.drainRead_mask, Dev.setWire_mask]
      · split
        · split
          · exact (Dev.protocolError_mask (by decide) _ _).trans h1
          · exact (Dev.answerWire_mask (by decide) _ _ _).trans h1
        · exact h1
theorem Dev.receiveData_mask {T : Nat} (hT : subParts 517085303732550378406 T = true) (d : Dev) (s : ℕ) : (Dev.receiveData d s).mask T = d.mask T := by
  refine Dev.mask_mono (a := 517085303732550378406) ?_ hT
  unfold Dev.receiveData
  repeat' (first | with_reducible rfl | (simp (disch := first | decide | (intros; (repeat' (first | with_reducible rfl | (simp (disch := decide) only [Dev.mask_ite, ite_self, Dev.receivePdu_mask, Dev.lateMessage_mask, Dev.takeData_mask]; done) | split | (dsimp only; split))))) only [Dev.mask_foldl, Dev.mask_ite, ite_self, Dev.receivePdu_mask, Dev.lateMessage_mask, Dev.takeData_mask]; done) | split | (dsimp only; split) | rfl | (refine (Dev.mask_foldl ?_ _ _).trans ?_ <;> try intro d a))
theorem Dev.receiveIcResp_mask {T : Nat} (hT : subParts 443298327437712171558 T = true) (d : Dev) (s : ℕ) : (Dev.receiveIcResp d s).mask T = d.mask T := by
  refine Dev.mask_mono (a := 443298327437712171558) ?_ hT
  unfold Dev.receiveIcResp
  repeat' (first | with_reducible rfl | (simp (disch := first | decide | (intros; (repeat' (first | with_reducible rfl | (simp (disch := decide) only [Dev.mask_ite, ite_self, Dev.receivePdu_mask, Dev.protocolError_mask, Dev.modSes_mask, Dev.sesSet_mask, Dev.addWire_mask, Dev.setSesState_mask]; done) | split | (dsimp only; split))))) only [Dev.mask_foldl, Dev.mask_ite, ite_self, Dev.receivePdu_mask, Dev.protocolError_mask, Dev.modSes_mask, Dev.sesSet_mask, Dev.addWire_mask, Dev.setSesState_mask]; done) | split | (dsimp only; split) | rfl | (refine (Dev.mask_foldl ?_ _ _).trans ?_ <;> try intro d a))
theorem Dev.receiveR2t_mask {T : Nat} (hT : subParts 443298327437712171558 T = true) (d : Dev) (s : ℕ) : (Dev.receiveR2t d s).mask T = d.mask T := by
  refine Dev.mask_mono (a := 443298327437712171558) ?_ hT
  unfold Dev.receiveR2t
  repeat' (first | with_reducible rfl | (simp (disch := first | decide | (intros; (repeat' (first | with_reducible rfl | (simp (disch := decide) only [Dev.mask_ite, ite_self, Dev.receivePdu_mask, Dev.lateMessage_mask, Dev.protocolError_mask, Dev.stoSend_mask, Dev.setWire_mask]; done) | split | (dsimp only; split))))) only [Dev.mask_foldl, Dev.mask_ite, ite_self, Dev.receivePdu_mask, Dev.lateMessage_mask, Dev.protocolError_mask, Dev.stoSend_mask, Dev.setWire_mask]; done) | split | (dsimp only; split) | rfl | (refine (Dev.mask_foldl ?_ _ _).trans ?_ <;> try intro d a))
theorem Dev.receiveResponse_mask {T : Nat} (hT : subParts 443298327437712171558 T = true) (d : Dev) (s : ℕ) : (Dev.receiveResponse d s).mask T = d.mask T := by
  refine Dev.mask_mono (a := 443298327437712171558) ?_ hT
  unfold Dev.receiveResponse
  repeat' (first | with_reducible rfl | (simp (disch := first | decide | (intros; (repeat' (first | with_reducible rfl | (simp (disch := decide) only [Dev.mask_ite, ite_self, Dev.receivePdu_mask, Dev.lateMessage_mask, Dev.connectAnswered_mask, Dev.protocolError_mask, Dev.answerWire_mask]; done) | split | (dsimp only; split))))) only [Dev.mask_foldl, Dev.mask_ite, ite_self, Dev.receivePdu_mask, Dev.lateMessage_mask, Dev.connectAnswered_mask, Dev.protocolError_mask, Dev.answerWire_mask]; done) | split | (dsimp only; split) | rfl | (refine (Dev.mask_foldl ?_ _ _).trans ?_ <;> try intro d a))
theorem Dev.receiveRst_mask {T : Nat} (hT : subParts 484803730301977240102 T = true) (d : Dev) : (Dev.receiveRst d).mask T = d.mask T := by
  refine Dev.mask_mono (a := 484803730301977240102) ?_ hT
  unfold Dev.receiveRst
  repeat' (first | with_reducible rfl | (simp (disch := decide) only [Dev.mask_ite, ite_self, Dev.modSes_mask, Dev.popSto_mask, Dev.failSession_mask]; done) | split | (dsimp only; split) | rfl)
theorem Dev.takeAck_mask {T : Nat} (hT : subParts 295724374848018981414 T = true) (d : Dev) (s : ℕ) (g : Segmented) : (Dev.takeAck d s g).mask T = d.mask T := by
  refine Dev.mask_mono (a := 295724374848018981414) ?_ hT
  unfold Dev.takeAck
  repeat' (first | with_reducible rfl | (simp (disch := decide) only [Dev.mask_ite, ite_self, Dev.ackNew_mask, Dev.ackDup_mask, Dev.pumpAll_mask, Dev.modSes_mask]; done) | split | (dsimp only; split) | rfl)
theorem Dev.takePayload_mask {T : Nat} (hT : subParts 442721857769031475750 T = true) (d : Dev) (s : ℕ) (bs : List Byte) : (Dev.takePayload d s bs).mask T = d.mask T := by
  refine Dev.mask_mono (a := 442721857769031475750) ?_ hT
  unfold Dev.takePayload
  repeat' (first | with_reducible rfl | (simp (disch := decide) only [Dev.mask_ite, ite_self, Dev.sesSet_mask, Dev.queueHandshake_mask, Dev.nextRecord_mask, Dev.modSes_mask]; done) | split | (dsimp only; split) | rfl)
theorem Dev.takeSegment_mask {T : Nat} (hT : subParts 443298327437695394342 T = true) (d : Dev) (s : ℕ) (g : Segmented) : (Dev.takeSegment d s g).mask T = d.mask T := by
  refine Dev.mask_mono (a := 443298327437695394342) ?_ hT
  unfold Dev.takeSegment
  repeat' (first | with_reducible rfl | (simp (disch := decide) only [Dev.mask_ite, ite_self, Dev.sendAck_mask, Dev.takeAck_mask, Dev.noteStamp_mask, Dev.count_mask, Dev.takePayload_mask, Dev.modSes_mask, Dev.sesSet_mask]; done) | split | (dsimp only; split) | rfl)
theorem Dev.receiveSegment_mask {T : Nat} (hT : subParts 484803730301960462886 T = true) (d : Dev) : (Dev.receiveSegment d).mask T = d.mask T := by
  refine Dev.mask_mono (a := 484803730301960462886) ?_ hT
  unfold Dev.receiveSegment
  repeat' (first | with_reducible rfl | (simp (disch := decide) only [Dev.mask_ite, ite_self, Dev.popSto_mask, Dev.takeSegment_mask]; done) | split | (dsimp only; split) | rfl)
theorem Dev.receiveSynAck_mask {T : Nat} (hT : subParts 484803730301960462886 T = true) (d : Dev) : (Dev.receiveSynAck d).mask T = d.mask T := by
  refine Dev.mask_mono (a := 484803730301960462886) ?_ hT
  unfold Dev.receiveSynAck
  repeat' (first | with_reducible rfl | (simp (disch := decide) only [Dev.mask_ite, ite_self, Dev.popSto_mask, Dev.establish_mask]; done) | split | (dsimp only; split) | rfl)
theorem Dev.receiveTerm_mask {T : Nat} (hT : subParts 443298327437712171558 T = true) (d : Dev) (s : ℕ) : (Dev.receiveTerm d s).mask T = d.mask T := by
  refine Dev.mask_mono (a := 443298327437712171558) ?_ hT
  unfold Dev.receiveTerm
  repeat' (first | with_reducible rfl | (simp (disch := first | decide | (intros; (repeat' (first | with_reducible rfl | (simp (disch := decide) only [Dev.mask_ite, ite_self, Dev.receivePdu_mask, Dev.lateMessage_mask, Dev.protocolError_mask]; done) | split | (dsimp only; split))))) only [Dev.mask_foldl, Dev.mask_ite, ite_self, Dev.receivePdu_mask, Dev.lateMessage_mask, Dev.protocolError_mask]; done) | split | (dsimp only; split) | rfl | (refine (Dev.mask_foldl ?_ _ _).trans ?_ <;> try intro d a))
theorem Dev.recomputeCrc_mask {T : Nat} (hT : subParts 134217730 T = true) (d : Dev) (n : ℕ) (b : ℕ) : (Dev.recomputeCrc d n b).mask T = d.mask T := by
  refine Dev.mask_mono (a := 134217730) ?_ hT
  unfold Dev.recomputeCrc
  repeat' (first | with_reducible rfl | (simp (disch := decide) only [Dev.mask_ite, ite_self, Dev.mask_crcBusy, Dev.fset_mask]; done) | split | (dsimp only; split) | rfl)
theorem Dev.takeRecord_mask {T : Nat} (hT : subParts 443298327437712171558 T = true) (d : Dev) (s : ℕ) (inner : ℕ) (bs : List Byte) : (Dev.takeRecord d s inner bs).mask T = d.mask T := by
  refine Dev.mask_mono (a := 443298327437712171558) ?_ hT
  unfold Dev.takeRecord
  repeat' (first | with_reducible rfl | (simp (disch := decide) only [Dev.mask_ite, ite_self, Dev.modSes_mask, Dev.nextRecord_mask, Dev.queueHandshake_mask, Dev.failSession_mask]; done) | split | (dsimp only; split) | rfl)
theorem Dev.recordEnd_mask {T : Nat} (hT : subParts 443298327437712171558 T = true) (d : Dev) (r : RecordEnd) : (Dev.recordEnd d r).mask T = d.mask T := by
  refine Dev.mask_mono (a := 443298327437712171558) ?_ hT
  unfold Dev.recordEnd
  repeat' (first | with_reducible rfl | (simp (disch := decide) only [Dev.mask_ite, ite_self, Dev.lastWords_mask, Dev.failSession_mask, Dev.takeRecord_mask, Dev.tcpSend_mask]; done) | split | (dsimp only; split) | rfl)
theorem Dev.recordEnded_mask {T : Nat} (hT : subParts 443298327437712171558 T = true) (r : Option RecordEnd × Dev) :
    (Dev.recordEnded r).mask T = r.2.mask T := by
  unfold Dev.recordEnded
  split
  · exact Dev.recordEnd_mask hT _ _
  · rfl
theorem Dev.refLoss_mask {T : Nat} (hT : subParts 2564614 T = true) (d : Dev) : (Dev.refLoss d).mask T = d.mask T := by
  refine Dev.mask_mono (a := 2564614) ?_ hT
  unfold Dev.refLoss
  repeat' (first | with_reducible rfl | (simp (disch := decide) only [Dev.mask_ite, ite_self, Dev.mask_tim, Dev.noteOscillator_mask]; done) | split | (dsimp only; split) | rfl)
theorem Dev.refreshAge_mask {T : Nat} (hT : subParts 18014398510006306 T = true) (d : Dev) : (Dev.refreshAge d).mask T = d.mask T := by
  refine Dev.mask_mono (a := 18014398510006306) ?_ hT
  unfold Dev.refreshAge
  repeat' (first | with_reducible rfl | (simp (disch := decide) only [Dev.mask_ite, ite_self, Dev.mask_refreshQ, Dev.writeSlot_mask, Dev.count_mask]; done) | split | (dsimp only; split) | rfl)
theorem Dev.refreshPfc_mask {T : Nat} (hT : subParts 9223372036854776320 T = true) (d : Dev) (m : ℕ) (cls : ℕ) : (Dev.refreshPfc d m cls).mask T = d.mask T := by
  refine Dev.mask_mono (a := 9223372036854776320) ?_ hT
  unfold Dev.refreshPfc
  repeat' (first | with_reducible rfl | (simp (disch := decide) only [Dev.mask_ite, ite_self, Dev.dueRefresh_mask]; done) | split | (dsimp only; split) | rfl)
theorem Dev.releaseRecord_mask {T : Nat} (hT : subParts 17179869184 T = true) (d : Dev) (h : ℕ) : (Dev.releaseRecord d h).mask T = d.mask T := by
  refine Dev.mask_mono (a := 17179869184) ?_ hT
  unfold Dev.releaseRecord
  repeat' (first | with_reducible rfl | (simp (disch := decide) only [Dev.mask_ite, ite_self, Dev.setStage_mask]; done) | split | (dsimp only; split) | rfl)
theorem Dev.releaseWelbor_mask {T : Nat} (hT : subParts 131074 T = true) (d : Dev) : (Dev.releaseWelbor d).mask T = d.mask T := by
  refine Dev.mask_mono (a := 131074) ?_ hT
  unfold Dev.releaseWelbor
  repeat' (first | with_reducible rfl | (simp (disch := decide) only [Dev.mask_ite, ite_self, Dev.mask_pwr, Dev.setBootStage_mask, Dev.fset_mask]; done) | split | (dsimp only; split) | rfl)
theorem Dev.storeProbe_mask {T : Nat} (hT : subParts 17179869184 T = true) (d : Dev) (h : ℕ) (n : ℕ) (r : ProbeResult) : (Dev.storeProbe d h n r).mask T = d.mask T := by
  refine Dev.mask_mono (a := 17179869184) ?_ hT
  unfold Dev.storeProbe
  repeat' (first | with_reducible rfl | (simp (disch := decide) only [Dev.mask_ite, ite_self, Dev.modPacket_mask]; done) | split | (dsimp only; split) | rfl)
theorem Dev.reprobe_mask {T : Nat} (hT : subParts 18014415691589126 T = true) (d : Dev) (h : ℕ) (n : ℕ) : (Dev.reprobe d h n).mask T = d.mask T := by
  refine Dev.mask_mono (a := 18014415691589126) ?_ hT
  unfold Dev.reprobe
  repeat' (first | with_reducible rfl | (simp (disch := decide) only [Dev.mask_ite, ite_self, Dev.emProbe_mask, Dev.modPacket_mask, Dev.count_mask, Dev.storeProbe_mask]; done) | split | (dsimp only; split) | rfl)
theorem Dev.reseed_mask {T : Nat} (hT : subParts 73786976294840443398 T = true) (d : Dev) (unit : ℕ) (gen : ℕ) (seeded : Bool) : (Dev.reseed d unit gen seeded).mask T = d.mask T := by
  refine Dev.mask_mono (a := 73786976294840443398) ?_ hT
  unfold Dev.reseed
  repeat' (first | with_reducible rfl | (simp (disch := decide) only [Dev.mask_ite, ite_self, Dev.setLehr_mask, Dev.latchFault_mask, Dev.pulse_mask]; done) | split | (dsimp only; split) | rfl)
theorem Dev.resetFunction_mask {T : Nat} (hT : subParts 332041630838490800678 T = true) (d : Dev) (n : ℕ) (pf : ℕ) : (Dev.resetFunction d n pf).mask T = d.mask T := by
  refine Dev.mask_mono (a := 332041630838490800678) ?_ hT
  unfold Dev.resetFunction
  repeat' (first | with_reducible rfl | (simp (disch := decide) only [Dev.mask_ite, ite_self, Dev.setHostPort_mask, Dev.haltQueues_mask, Dev.pulse_mask, Dev.latchFault_mask]; done) | split | (dsimp only; split) | rfl)
theorem Dev.resetSession_mask {T : Nat} (hT : subParts 443298327437712171558 T = true) (d : Dev) (s : ℕ) : (Dev.resetSession d s).mask T = d.mask T := by
  refine Dev.mask_mono (a := 443298327437712171558) ?_ hT
  unfold Dev.resetSession
  repeat' (first | with_reducible rfl | (simp (disch := decide) only [Dev.mask_ite, ite_self, Dev.resetSessionAs_mask]; done) | split | (dsimp only; split) | rfl)
theorem Dev.resumeRecords_mask {T : Nat} (hT : subParts 442721857769029238784 T = true) (d : Dev) : (Dev.resumeRecords d).mask T = d.mask T := by
  refine Dev.mask_mono (a := 442721857769029238784) ?_ hT
  unfold Dev.resumeRecords
  repeat' (first | with_reducible rfl | (simp (disch := first | decide | (intros; simp (disch := decide) only [Dev.mask_ite, ite_self, Dev.nextRecord_mask])) only [Dev.mask_foldl, Dev.mask_ite, ite_self, Dev.nextRecord_mask]; done) | split | (dsimp only; split) | rfl | (refine (Dev.mask_foldl ?_ _ _).trans ?_ <;> try intro d a))
theorem Dev.retireBatch_mask {T : Nat} (hT : subParts 2236934 T = true) (d : Dev) (b : ℕ) : (Dev.retireBatch d b).mask T = d.mask T := by
  refine Dev.mask_mono (a := 2236934) ?_ hT
  unfold Dev.retireBatch
  repeat' (first | with_reducible rfl | (simp (disch := decide) only [Dev.mask_ite, ite_self, Dev.pulse_mask, Dev.fset_mask, Dev.setBatchState_mask]; done) | split | (dsimp only; split) | rfl)
theorem Dev.retransmitTimeout_mask {T : Nat} (hT : subParts 443298327437712171558 T = true) (d : Dev) (s : ℕ) : (Dev.retransmitTimeout d s).mask T = d.mask T := by
  refine Dev.mask_mono (a := 443298327437712171558) ?_ hT
  unfold Dev.retransmitTimeout
  repeat' (first | with_reducible rfl | (simp (disch := decide) only [Dev.mask_ite, ite_self, Dev.failSession_mask, Dev.setSes_mask, Dev.retransmit_mask]; done) | (simp (disch := decide) only [Dev.mask_ite, ite_self, Dev.failSession_mask, Dev.setSes_mask, Dev.retransmit_mask]; exact Dev.sendData_mask (by decide) (by assumption)) | (exact Dev.sendData_mask (by decide) (by assumption)) | (refine Dev.mask_getD ?_; intro r hr; exact Dev.sendData_mask (by decide) hr) | (simp (disch := decide) only [Dev.mask_ite, ite_self, Dev.failSession_mask, Dev.setSes_mask, Dev.retransmit_mask]; refine Dev.mask_getD ?_; intro r hr; exact Dev.sendData_mask (by decide) hr) | split | (dsimp only; split) | rfl)
theorem Dev.retuneDone_mask {T : Nat} (hT : subParts 46117097695975973406 T = true) (d : Dev) (g : ℕ) : (Dev.retuneDone d g).mask T = d.mask T := by
  refine Dev.mask_mono (a := 46117097695975973406) ?_ hT
  unfold Dev.retuneDone
  repeat' (first | with_reducible rfl | (simp (disch := first | decide | (intros; simp (disch := decide) only [Dev.mask_ite, ite_self, Dev.fset_mask, Dev.setMac_mask, Dev.fsetP_mask, Dev.refreshGroup_mask])) only [Dev.mask_foldl, Dev.mask_ite, ite_self, Dev.fset_mask, Dev.setMac_mask, Dev.fsetP_mask, Dev.refreshGroup_mask]; done) | split | (dsimp only; split) | rfl | (refine (Dev.mask_foldl ?_ _ _).trans ?_ <;> try intro d a))
theorem Dev.rollDone_mask {T : Nat} (hT : subParts 147573952589678649862 T = true) (d : Dev) (s : ℕ) : (Dev.rollDone d s).mask T = d.mask T := by
  refine Dev.mask_mono (a := 147573952589678649862) ?_ hT
  unfold Dev.rollDone
  repeat' (first | with_reducible rfl | (simp (disch := decide) only [Dev.mask_ite, ite_self, Dev.pulse_mask, Dev.setSxp_mask]; done) | split | (dsimp only; split) | rfl)
theorem Dev.runProbe_mask {T : Nat} (hT : subParts 18014415691589126 T = true) (d : Dev) (h : ℕ) (n : ℕ) (lpm : Bool) : (Dev.runProbe d h n lpm).mask T = d.mask T := by
  refine Dev.mask_mono (a := 18014415691589126) ?_ hT
  unfold Dev.runProbe
  repeat' (first | with_reducible rfl | (simp (disch := decide) only [Dev.mask_ite, ite_self, Dev.lpmProbe_mask, Dev.emProbe_mask, Dev.storeProbe_mask]; done) | split | (dsimp only; split) | rfl)
theorem Dev.saDisable_mask {T : Nat} (hT : subParts 2236966 T = true) (d : Dev) (s : ℕ) : (Dev.saDisable d s).mask T = d.mask T := by
  refine Dev.mask_mono (a := 2236966) ?_ hT
  unfold Dev.saDisable
  repeat' (first | with_reducible rfl | (simp (disch := decide) only [Dev.mask_ite, ite_self, Dev.noteSa_mask, Dev.saSet_mask]; done) | split | (dsimp only; split) | rfl)
theorem Dev.saRoll_mask {T : Nat} (hT : subParts 147573952589678649894 T = true) (d : Dev) (welbor : Bool) (s : ℕ) : (Dev.saRoll d welbor s).2.mask T = d.mask T := by
  refine Dev.mask_mono (a := 147573952589678649894) ?_ hT
  unfold Dev.saRoll
  repeat' (first | with_reducible rfl | (simp (disch := decide) only [Dev.mask_ite, ite_self, Dev.rollSa_mask, Dev.noteSa_mask]; done) | split | (dsimp only; split) | rfl)
theorem Dev.saWrite_mask {T : Nat} (hT : subParts 147573952589679174182 T = true) (d : Dev) (welbor : Bool) (s : ℕ) (w : List ℕ) : (Dev.saWrite d welbor s w).2.mask T = d.mask T := by
  refine Dev.mask_mono (a := 147573952589679174182) ?_ hT
  unfold Dev.saWrite
  repeat' (first | with_reducible rfl | (simp (disch := first | decide | (intros; simp (disch := decide) only [Dev.mask_ite, ite_self, Dev.noteSa_mask, Dev.gwrite_mask, Dev.renewLines_mask, Dev.saSet_mask, Dev.setSxp_mask])) only [Dev.mask_foldl, Dev.mask_ite, ite_self, Dev.noteSa_mask, Dev.gwrite_mask, Dev.renewLines_mask, Dev.saSet_mask, Dev.setSxp_mask]; done) | split | (dsimp only; split) | rfl | (refine (Dev.mask_foldl ?_ _ _).trans ?_ <;> try intro d a))
theorem Dev.schedulePort_mask {T : Nat} (hT : subParts 48422940705189667334 T = true) (d0 : Dev) (m : ℕ) : (Dev.schedulePort d0 m).mask T = d0.mask T := by
  refine Dev.mask_mono (a := 48422940705189667334) ?_ hT
  unfold Dev.schedulePort
  extract_lets d d1 r d2
  have h0 : d.mask 48422940705189667334 = d0.mask 48422940705189667334 := Dev.refillPort_mask (by decide) _ _
  have h1 : d1.mask 48422940705189667334 = d0.mask 48422940705189667334 := by
    refine Eq.trans ?_ h0
    simp only [d1]
    split
    · rfl
    · exact Dev.dropUnsent_mask (by decide) _ _
  have h2 : d2.mask 48422940705189667334 = d0.mask 48422940705189667334 := (Dev.setSched_mask (by decide) _ _ _).trans h0
  clear_value d2 r d1 d
  split
  · split
    · exact h1
    · split
      · exact h1
      · refine Eq.trans ?_ h1
        simp (disch := decide) only [Dev.mask_ite, ite_self, Dev.refillPort_mask, Dev.dropUnsent_mask, Dev.dropAtPort_mask, Dev.popTc_mask, Dev.setSched_mask, Dev.staleCopy_mask, Dev.setMac_mask, Dev.chargePort_mask]
  · split
    · exact h0
    · split
      · exact h2
      · split
        · exact h2
        · extract_lets d3
          have h3 : d3.mask 48422940705189667334 = d0.mask 48422940705189667334 := (Dev.popTc_mask (by decide) _ _ _).trans h2
          refine Eq.trans ?_ h3
          clear_value d3
          split
          · rfl
          · split
            · simp (disch := decide) only [Dev.mask_ite, ite_self, Dev.refillPort_mask, Dev.dropUnsent_mask, Dev.dropAtPort_mask, Dev.popTc_mask, Dev.setSched_mask, Dev.staleCopy_mask, Dev.setMac_mask, Dev.chargePort_mask]
            · simp (disch := decide) only [Dev.mask_ite, ite_self, Dev.refillPort_mask, Dev.dropUnsent_mask, Dev.dropAtPort_mask, Dev.popTc_mask, Dev.setSched_mask, Dev.staleCopy_mask, Dev.setMac_mask, Dev.chargePort_mask]
theorem Dev.scrubRound_mask {T : Nat} (hT : subParts 2236934 T = true) (d : Dev) (n : ℕ) (corrected : ℕ) : (Dev.scrubRound d n corrected).mask T = d.mask T := by
  refine Dev.mask_mono (a := 2236934) ?_ hT
  unfold Dev.scrubRound
  repeat' (first | with_reducible rfl | (simp (disch := decide) only [Dev.mask_ite, ite_self, Dev.pulse_mask, Dev.count_mask]; done) | split | (dsimp only; split) | rfl)
theorem Dev.sealedAnswer_mask {T : Nat} (hT : subParts 1180591620717411303936 T = true) (d : Dev) (n : ℕ) (via : Transport) (code : ℕ) (p1 : ℕ) (p2 : ℕ) (bs : List Byte) : (Dev.sealedAnswer d n via code p1 p2 bs).mask T = d.mask T := by
  refine Dev.mask_mono (a := 1180591620717411303936) ?_ hT
  unfold Dev.sealedAnswer
  repeat' (first | with_reducible rfl | (simp (disch := decide) only [Dev.mask_ite, ite_self, Dev.viaSend_mask]; done) | split | (dsimp only; split) | rfl)
theorem Dev.sendChunk_mask {T : Nat} (hT : subParts 1770887431076131774982 T = true) (d : Dev) (s : ℕ) : (Dev.sendChunk d s).mask T = d.mask T := by
  refine Dev.mask_mono (a := 1770887431076131774982) ?_ hT
  unfold Dev.sendChunk
  repeat' (first | with_reducible rfl | (simp (disch := decide) only [Dev.mask_ite, ite_self, Dev.discardStale_mask, Dev.setChannel_mask, Dev.setMailBox_mask, Dev.mailSend_mask]; done) | split | (dsimp only; split) | rfl)
theorem Dev.sesOp_mask {T : Nat} (hT : subParts 35791366 T = true) (d : Dev) (op : ℕ) (free : Bool) (good : Dev → ℕ → Bool) (f : Dev → ℕ → Dev) (hf : ∀ d a0, (f d a0).mask T = d.mask T) : (Dev.sesOp d op free good f).mask T = d.mask T := by
  unfold Dev.sesOp
  repeat' (first | with_reducible rfl | (simp (disch := first | exact subParts_trans (by decide) hT | (intros; (repeat' (first | with_reducible rfl | (simp (disch := exact subParts_trans (by decide) hT) only [Dev.mask_ite, ite_self, Dev.portExec_mask, Dev.noteSes_mask, hf]; done) | split | (dsimp only; split))))) only [Dev.mask_foldl, Dev.mask_ite, ite_self, Dev.portExec_mask, Dev.noteSes_mask, hf]; done) | split | (dsimp only; split) | rfl | (refine (Dev.mask_foldl ?_ _ _).trans ?_ <;> try intro d a))
theorem Dev.sesClose_mask {T : Nat} (hT : subParts 295147913975506805286 T = true) (d : Dev) : (Dev.sesClose d).mask T = d.mask T := by
  refine Dev.mask_mono (a := 295147913975506805286) ?_ hT
  unfold Dev.sesClose
  repeat' (first | with_reducible rfl | (simp (disch := first | decide | (intros; (repeat' (first | with_reducible rfl | (simp (disch := decide) only [Dev.mask_ite, ite_self, Dev.sesOp_mask, Dev.endWaiting_mask, Dev.setSesState_mask]; done) | split | (dsimp only; split))))) only [Dev.mask_foldl, Dev.mask_ite, ite_self, Dev.sesOp_mask, Dev.endWaiting_mask, Dev.setSesState_mask]; done) | split | (dsimp only; split) | rfl | (refine (Dev.mask_foldl ?_ _ _).trans ?_ <;> try intro d a))
theorem Dev.sesGo_mask {T : Nat} (hT : subParts 443298327437728948774 T = true) (d : Dev) : (Dev.sesGo d).mask T = d.mask T := by
  refine Dev.mask_mono (a := 443298327437728948774) ?_ hT
  unfold Dev.sesGo
  repeat' (first | with_reducible rfl | (simp (disch := first | decide | (intros; (repeat' (first | with_reducible rfl | (simp (disch := decide) only [Dev.mask_ite, ite_self, Dev.sesOp_mask, Dev.sendIcReq_mask]; done) | split | (dsimp only; split))))) only [Dev.mask_foldl, Dev.mask_ite, ite_self, Dev.sesOp_mask, Dev.sendIcReq_mask]; done) | split | (dsimp only; split) | rfl | (refine (Dev.mask_foldl ?_ _ _).trans ?_ <;> try intro d a))
theorem Dev.sesReset_mask {T : Nat} (hT : subParts 443298327437745725990 T = true) (d : Dev) : (Dev.sesReset d).mask T = d.mask T := by
  refine Dev.mask_mono (a := 443298327437745725990) ?_ hT
  unfold Dev.sesReset
  repeat' (first | with_reducible rfl | (simp (disch := first | decide | (intros; (repeat' (first | with_reducible rfl | (simp (disch := decide) only [Dev.mask_ite, ite_self, Dev.sesOp_mask, Dev.resetSession_mask]; done) | split | (dsimp only; split))))) only [Dev.mask_foldl, Dev.mask_ite, ite_self, Dev.sesOp_mask, Dev.resetSession_mask]; done) | split | (dsimp only; split) | rfl | (refine (Dev.mask_foldl ?_ _ _).trans ?_ <;> try intro d a))
theorem Dev.sesWrite_mask {T : Nat} (hT : subParts 295147905179352825888 T = true) (d : Dev) (welbor : Bool) (s : ℕ) (w : List ℕ) : (Dev.sesWrite d welbor s w).2.mask T = d.mask T := by
  refine Dev.mask_mono (a := 295147905179352825888) ?_ hT
  unfold Dev.sesWrite
  repeat' (first | with_reducible rfl | (simp (disch := decide) only [Dev.mask_ite, ite_self, Dev.mask_sto, Dev.gsetWords_mask]; done) | split | (dsimp only; split) | rfl)
theorem Dev.setBitsAt_mask {T : Nat} (hT : subParts 2 T = true) (d : Dev) (a : ℕ) (mask : Word) : (Dev.setBitsAt d a mask).mask T = d.mask T := by
  refine Dev.mask_mono (a := 2) ?_ hT
  unfold Dev.setBitsAt
  repeat' (first | with_reducible rfl | (simp (disch := decide) only [Dev.mask_ite, ite_self, Dev.wr_mask]; done) | split | (dsimp only; split) | rfl)
theorem Dev.setD3_mask {T : Nat} (hT : subParts 2097152 T = true) (d : Dev) (n : ℕ) (pf : ℕ) (d3 : Bool) : (Dev.setD3 d n pf d3).mask T = d.mask T := by
  refine Dev.mask_mono (a := 2097152) ?_ hT
  unfold Dev.setD3
  repeat' (first | with_reducible rfl | (simp (disch := decide) only [Dev.mask_ite, ite_self, Dev.modFn_mask]; done) | split | (dsimp only; split) | rfl)
theorem Dev.setNegotiated_mask {T : Nat} (hT : subParts 1180591620717411303424 T = true) (d : Dev) (via : Transport) (n : ℕ) : (Dev.setNegotiated d via n).mask T = d.mask T := by
  refine Dev.mask_mono (a := 1180591620717411303424) ?_ hT
  unfold Dev.setNegotiated
  repeat' (first | with_reducible rfl | (simp (disch := decide) only [Dev.mask_ite, ite_self, Dev.setWel_mask]; done) | split | (dsimp only; split) | rfl)
theorem Dev.setPool_mask {T : Nat} (hT : subParts 1180591620717411303424 T = true) (d : Dev) (m : Message) : (Dev.setPool d m).2.mask T = d.mask T := by
  refine Dev.mask_mono (a := 1180591620717411303424) ?_ hT
  unfold Dev.setPool
  repeat' (first | with_reducible rfl | (simp (disch := decide) only [Dev.mask_ite, ite_self, Dev.setWel_mask]; done) | split | (dsimp only; split) | rfl)
theorem Dev.setSpdmSession_mask {T : Nat} (hT : subParts 1180591620717411303424 T = true) (d : Dev) (n : ℕ) (v : Option SpdmSession) : (Dev.setSpdmSession d n v).mask T = d.mask T := by
  refine Dev.mask_mono (a := 1180591620717411303424) ?_ hT
  unfold Dev.setSpdmSession
  repeat' (first | with_reducible rfl | (simp (disch := decide) only [Dev.mask_ite, ite_self, Dev.setWel_mask]; done) | split | (dsimp only; split) | rfl)
theorem Dev.shedPhase_mask {T : Nat} (hT : subParts 2826758 T = true) (d : Dev) (rail : ℕ) (phase : ℕ) : (Dev.shedPhase d rail phase).mask T = d.mask T := by
  refine Dev.mask_mono (a := 2826758) ?_ hT
  unfold Dev.shedPhase
  repeat' (first | with_reducible rfl | (simp (disch := decide) only [Dev.mask_ite, ite_self, Dev.journalAdd_mask, Dev.setFt_mask]; done) | split | (dsimp only; split) | rfl)
theorem Dev.showSpares_mask {T : Nat} (hT : subParts 2 T = true) (d : Dev) (bank : ℕ) : (Dev.showSpares d bank).mask T = d.mask T := by
  refine Dev.mask_mono (a := 2) ?_ hT
  unfold Dev.showSpares
  repeat' (first | with_reducible rfl | (simp (disch := decide) only [Dev.mask_ite, ite_self, Dev.fset_mask]; done) | split | (dsimp only; split) | rfl)
theorem Dev.sitMask_mask {T : Nat} (hT : subParts 4194820 T = true) (d : Dev) (s : ℕ) (e : ℕ) (m : Bool) : (Dev.sitMask d s e m).mask T = d.mask T := by
  refine Dev.mask_mono (a := 4194820) ?_ hT
  unfold Dev.sitMask
  repeat' (first | with_reducible rfl | (simp (disch := decide) only [Dev.mask_ite, ite_self, Dev.sitSend_mask, Dev.setSit_mask]; done) | split | (dsimp only; split) | rfl)
theorem Dev.sitOp_mask {T : Nat} (hT : subParts 35791366 T = true) (d : Dev) (n : ℕ) (op : ℕ) (f : Dev → ℕ → ℕ → List Word → Dev) (hf : ∀ d a0 a1 a2, (f d a0 a1 a2).mask T = d.mask T) : (Dev.sitOp d n op f).mask T = d.mask T := by
  unfold Dev.sitOp
  repeat' (first | with_reducible rfl | (simp (disch := first | exact subParts_trans (by decide) hT | (intros; (repeat' (first | with_reducible rfl | (simp (disch := exact subParts_trans (by decide) hT) only [Dev.mask_ite, ite_self, Dev.portExec_mask, Dev.confRefused_mask, hf]; done) | split | (dsimp only; split))))) only [Dev.mask_foldl, Dev.mask_ite, ite_self, Dev.portExec_mask, Dev.confRefused_mask, hf]; done) | split | (dsimp only; split) | rfl | (refine (Dev.mask_foldl ?_ _ _).trans ?_ <;> try intro d a))
theorem Dev.sliceCreate_mask {T : Nat} (hT : subParts 1180591620717426123270 T = true) (d : Dev) (s : ℕ) (w : List ℕ) : (Dev.sliceCreate d s w).2.mask T = d.mask T := by
  refine Dev.mask_mono (a := 1180591620717426123270) ?_ hT
  unfold Dev.sliceCreate
  repeat' (first | with_reducible rfl | (simp (disch := decide) only [Dev.mask_ite, ite_self, Dev.pulse_mask, Dev.showSlices_mask, Dev.openChannel_mask, Dev.setSlice_mask, Dev.clearSit_mask]; done) | split | (dsimp only; split) | rfl)
theorem Dev.sliceModify_mask {T : Nat} (hT : subParts 14819846 T = true) (d : Dev) (s : ℕ) (w : List ℕ) : (Dev.sliceModify d s w).2.mask T = d.mask T := by
  refine Dev.mask_mono (a := 14819846) ?_ hT
  unfold Dev.sliceModify
  repeat' (first | with_reducible rfl | (simp (disch := decide) only [Dev.mask_ite, ite_self, Dev.confRefused_mask, Dev.dropPasid_mask, Dev.setSlice_mask, Dev.pulse_mask, Dev.sliceInterrupt_mask]; done) | split | (dsimp only; split) | rfl)
theorem Dev.sliceRead_mask {T : Nat} (hT : subParts 2 T = true) (d : Dev) (s : ℕ) : (Dev.sliceRead d s).mask T = d.mask T := by
  refine Dev.mask_mono (a := 2) ?_ hT
  unfold Dev.sliceRead
  repeat' (first | with_reducible rfl | (simp (disch := first | decide | (intros; simp (disch := decide) only [Dev.mask_ite, ite_self, Dev.wr_mask])) only [Dev.mask_foldl, Dev.mask_ite, ite_self, Dev.wr_mask]; done) | split | (dsimp only; split) | rfl | (refine (Dev.mask_foldl ?_ _ _).trans ?_ <;> try intro d a))
theorem Dev.slotRefused_mask {T : Nat} (hT : subParts 2 T = true) (d : Dev) (v : KeySlot) : (Dev.slotRefused d v).2.mask T = d.mask T := by
  refine Dev.mask_mono (a := 2) ?_ hT
  unfold Dev.slotRefused
  repeat' (first | with_reducible rfl | (simp (disch := decide) only [Dev.mask_ite, ite_self, Dev.confRefused_mask]; done) | split | (dsimp only; split) | rfl)
theorem Dev.spareRow_mask {T : Nat} (hT : subParts 2826758 T = true) (d : Dev) (bank : ℕ) (row : ℕ) : (Dev.spareRow d bank row).mask T = d.mask T := by
  refine Dev.mask_mono (a := 2826758) ?_ hT
  unfold Dev.spareRow
  repeat' (first | with_reducible rfl | (simp (disch := decide) only [Dev.mask_ite, ite_self, Dev.mask_ft, Dev.setFt_mask, Dev.showSpares_mask, Dev.journalAdd_mask, Dev.pulse_mask, Dev.latchFault_mask]; done) | split | (dsimp only; split) | rfl)
theorem Dev.spdmServe_mask {T : Nat} (hT : subParts 1180591620717411303936 T = true) (d : Dev) (via : Transport) (need : ℕ) (f : Dev → Dev) (hf : ∀ d, (f d).mask T = d.mask T) : (Dev.spdmServe d via need f).mask T = d.mask T := by
  unfold Dev.spdmServe
  repeat' (first | with_reducible rfl | (simp (disch := exact subParts_trans (by decide) hT) only [Dev.mask_ite, ite_self, Dev.spdmError_mask, hf]; done) | split | (dsimp only; split) | rfl)
theorem Dev.tableError_mask {T : Nat} (hT : subParts 562949953421312 T = true) (d : Dev) (bank : ℕ) (row : ℕ) : (Dev.tableError d bank row).mask T = d.mask T := by
  refine Dev.mask_mono (a := 562949953421312) ?_ hT
  unfold Dev.tableError
  repeat' (first | with_reducible rfl | (simp (disch := decide) only [Dev.mask_ite, ite_self, Dev.mask_ovfBad]; done) | split | (dsimp only; split) | rfl)
theorem Dev.sramError_mask {T : Nat} (hT : subParts 562949956248070 T = true) (d : Dev) (bank : ℕ) (row : ℕ) (page : ℕ) (corrected : Bool) : (Dev.sramError d bank row page corrected).mask T = d.mask T := by
  refine Dev.mask_mono (a := 562949956248070) ?_ hT
  unfold Dev.sramError
  repeat' (first | with_reducible rfl | (simp (disch := decide) only [Dev.mask_ite, ite_self, Dev.latchFault_mask, Dev.setFt_mask, Dev.spareRow_mask, Dev.journalAdd_mask, Dev.tableError_mask]; done) | split | (dsimp only; split) | rfl)
theorem Dev.stageFields_mask {T : Nat} (hT : subParts 2 T = true) (d : Dev) (b : ℕ) (unstage : ℕ) : (Dev.stageFields d b unstage).mask T = d.mask T := by
  refine Dev.mask_mono (a := 2) ?_ hT
  unfold Dev.stageFields
  repeat' (first | with_reducible rfl | (simp (disch := decide) only [Dev.mask_ite, ite_self, Dev.fset_mask]; done) | split | (dsimp only; split) | rfl)
theorem Dev.startInterface_mask {T : Nat} (hT : subParts 332041630838494994982 T = true) (d : Dev) (s : ℕ) : (Dev.startInterface d s).mask T = d.mask T := by
  refine Dev.mask_mono (a := 332041630838494994982) ?_ hT
  unfold Dev.startInterface
  repeat' (first | with_reducible rfl | (simp (disch := decide) only [Dev.mask_ite, ite_self, Dev.emit_mask, Dev.setTdi_mask]; done) | split | (dsimp only; split) | rfl)
theorem Dev.startRebuild_mask {T : Nat} (hT : subParts 288230376187503110 T = true) (d : Dev) : (Dev.startRebuild d).mask T = d.mask T := by
  refine Dev.mask_mono (a := 288230376187503110) ?_ hT
  unfold Dev.startRebuild
  repeat' (first | with_reducible rfl | (simp (disch := decide) only [Dev.mask_ite, ite_self, Dev.mask_rebuild, Dev.portEnd_mask, Dev.opOutcome_mask]; done) | split | (dsimp only; split) | rfl)
theorem Dev.startTransmit_mask {T : Nat} (hT : subParts 46117097695975973382 T = true) (d0 : Dev) (m : ℕ) : (Dev.startTransmit d0 m).mask T = d0.mask T := by
  refine Dev.mask_mono (a := 46117097695975973382) ?_ hT
  unfold Dev.startTransmit
  repeat' (first | with_reducible rfl | (simp (disch := decide) only [Dev.mask_ite, ite_self, Dev.mask_out, Dev.flushFlowControl_mask, Dev.dropUnsent_mask, Dev.setMac_mask, Dev.endCopy_mask, Dev.countMac_mask]; done) | split | (dsimp only; split) | rfl)
theorem Dev.stoResult_mask {T : Nat} (hT : subParts 2 T = true) (d : Dev) (ws : List ℕ) : (Dev.stoResult d ws).mask T = d.mask T := by
  refine Dev.mask_mono (a := 2) ?_ hT
  unfold Dev.stoResult
  repeat' (first | with_reducible rfl | (simp (disch := first | decide | (intros; simp (disch := decide) only [Dev.mask_ite, ite_self, Dev.fset_mask])) only [Dev.mask_foldl, Dev.mask_ite, ite_self, Dev.fset_mask]; done) | split | (dsimp only; split) | rfl | (refine (Dev.mask_foldl ?_ _ _).trans ?_ <;> try intro d a))
theorem Dev.stopInterface_mask {T : Nat} (hT : subParts 332041630838494994982 T = true) (d : Dev) (s : ℕ) : (Dev.stopInterface d s).mask T = d.mask T := by
  refine Dev.mask_mono (a := 332041630838494994982) ?_ hT
  unfold Dev.stopInterface
  repeat' (first | with_reducible rfl | (simp (disch := decide) only [Dev.mask_ite, ite_self, Dev.emit_mask, Dev.setTdi_mask]; done) | split | (dsimp only; split) | rfl)
theorem Dev.storeUe_mask {T : Nat} (hT : subParts 36893711371107770886 T = true) (d : Dev) (c : ℕ) : (Dev.storeUe d c).mask T = d.mask T := by
  refine Dev.mask_mono (a := 36893711371107770886) ?_ hT
  unfold Dev.storeUe
  repeat' (first | with_reducible rfl | (simp (disch := decide) only [Dev.mask_ite, ite_self, Dev.mask_gafStopped, Dev.svcAuto_mask, Dev.latchFault_mask, Dev.raise_mask, Dev.restart_mask, Dev.endForRestart_mask]; done) | split | (dsimp only; split) | rfl)
theorem Dev.svcRecord_mask {T : Nat} (hT : subParts 2302470 T = true) (d : Dev) (t : ℕ) (n : ℕ) (action : ℕ) (step : ℕ) (failed : Bool) : (Dev.svcRecord d t n action step failed).mask T = d.mask T := by
  refine Dev.mask_mono (a := 2302470) ?_ hT
  unfold Dev.svcRecord
  repeat' (first | with_reducible rfl | (simp (disch := decide) only [Dev.mask_ite, ite_self, Dev.journalAdd_mask, Dev.pulse_mask]; done) | split | (dsimp only; split) | rfl)
theorem Dev.svcDrained_mask {T : Nat} (hT : subParts 2826758 T = true) (d : Dev) (t : ℕ) : (Dev.svcDrained d t).mask T = d.mask T := by
  refine Dev.mask_mono (a := 2826758) ?_ hT
  unfold Dev.svcDrained
  repeat' (first | with_reducible rfl | (simp (disch := decide) only [Dev.mask_ite, ite_self, Dev.fset_mask, Dev.svcRecord_mask, Dev.setPunty_mask]; done) | split | (dsimp only; split) | rfl)
theorem Dev.svcSynced_mask {T : Nat} (hT : subParts 73786976294905839618 T = true) (d : Dev) (t : ℕ) : (Dev.svcSynced d t).mask T = d.mask T := by
  refine Dev.mask_mono (a := 73786976294905839618) ?_ hT
  unfold Dev.svcSynced
  repeat' (first | with_reducible rfl | (simp (disch := decide) only [Dev.mask_ite, ite_self, Dev.copyStore_mask, Dev.testCluster_mask, Dev.fset_mask, Dev.setPunty_mask]; done) | split | (dsimp only; split) | rfl)
theorem Dev.svcTested_mask {T : Nat} (hT : subParts 73786976300209742342 T = true) (d : Dev) (t : ℕ) (pass : Bool) : (Dev.svcTested d t pass).mask T = d.mask T := by
  refine Dev.mask_mono (a := 73786976300209742342) ?_ hT
  unfold Dev.svcTested
  repeat' (first | with_reducible rfl | (simp (disch := decide) only [Dev.mask_ite, ite_self, Dev.svcRecord_mask, Dev.clearFences_mask, Dev.fset_mask, Dev.bistGate_mask, Dev.svcBack_mask, Dev.pulse_mask]; done) | split | (dsimp only; split) | rfl)
theorem Dev.takeLock_mask {T : Nat} (hT : subParts 18446744073709552130 T = true) (d : Dev) (m : ℕ) (snr : List ℕ) : (Dev.takeLock d m snr).mask T = d.mask T := by
  refine Dev.mask_mono (a := 18446744073709552130) ?_ hT
  unfold Dev.takeLock
  repeat' (first | with_reducible rfl | (simp (disch := first | decide | (intros; simp (disch := decide) only [Dev.mask_ite, ite_self, Dev.setLane_mask, Dev.alignMac_mask, Dev.fset_mask])) only [Dev.mask_foldl, Dev.mask_ite, ite_self, Dev.setLane_mask, Dev.alignMac_mask, Dev.fset_mask]; done) | split | (dsimp only; split) | rfl | (refine (Dev.mask_foldl ?_ _ _).trans ?_ <;> try intro d a))
theorem Dev.takeSent_mask {T : Nat} (hT : subParts 36893488147438117382 T = true) (d : Dev) (q : ℕ) : (Dev.takeSent d q).mask T = d.mask T := by
  refine Dev.mask_mono (a := 36893488147438117382) ?_ hT
  unfold Dev.takeSent
  repeat' (first | with_reducible rfl | (simp (disch := first | decide | (intros; simp (disch := decide) only [Dev.mask_ite, ite_self, Dev.mask_sentQ, Dev.discardResult_mask, Dev.endEntry_mask])) only [Dev.mask_foldl, Dev.mask_ite, ite_self, Dev.mask_sentQ, Dev.discardResult_mask, Dev.endEntry_mask]; done) | split | (dsimp only; split) | rfl | (refine (Dev.mask_foldl ?_ _ _).trans ?_ <;> try intro d a))
theorem Dev.takeStorage_mask {T : Nat} (hT : subParts 295147913975473250822 T = true) (d : Dev) (q : ℕ) (op : ℕ) : (Dev.takeStorage d q op).mask T = d.mask T := by
  refine Dev.mask_mono (a := 295147913975473250822) ?_ hT
  unfold Dev.takeStorage
  repeat' (first | with_reducible rfl | (simp (disch := decide) only [Dev.mask_ite, ite_self, Dev.latchWhen_mask, Dev.noteVol_mask, Dev.endStorage_mask, Dev.acceptEntry_mask]; done) | split | (dsimp only; split) | rfl)
theorem Dev.testCell_mask {T : Nat} (hT : subParts 73786976294841033222 T = true) (d : Dev) (unit : ℕ) (c : ℕ) (pass : Bool) : (Dev.testCell d unit c pass).mask T = d.mask T := by
  refine Dev.mask_mono (a := 73786976294841033222) ?_ hT
  unfold Dev.testCell
  repeat' (first | with_reducible rfl | (simp (disch := decide) only [Dev.mask_ite, ite_self, Dev.pairTested_mask, Dev.count_mask, Dev.cleanTrace_mask, Dev.pulse_mask, Dev.latchFault_mask, Dev.fenceUnit_mask, Dev.suspect_mask, Dev.fenceCell_mask]; done) | split | (dsimp only; split) | rfl)
theorem Dev.timCommit_mask {T : Nat} (hT : subParts 2236934 T = true) (d : Dev) (req : Requester) (index : ℕ) (f : Dev → ℕ → Dev) (hf : ∀ d a0, (f d a0).mask T = d.mask T) : (Dev.timCommit d req index f).mask T = d.mask T := by
  unfold Dev.timCommit
  repeat' (first | with_reducible rfl | (simp (disch := first | exact subParts_trans (by decide) hT | (intros; (repeat' (first | with_reducible rfl | (simp (disch := exact subParts_trans (by decide) hT) only [Dev.mask_ite, ite_self, Dev.onWrite_mask, Dev.wmbSelect_mask, Dev.wmbDone_mask, hf]; done) | split | (dsimp only; split))))) only [Dev.mask_foldl, Dev.mask_ite, ite_self, Dev.onWrite_mask, Dev.wmbSelect_mask, Dev.wmbDone_mask, hf]; done) | split | (dsimp only; split) | rfl | (refine (Dev.mask_foldl ?_ _ _).trans ?_ <;> try intro d a))
theorem Dev.timeoutWire_mask {T : Nat} (hT : subParts 443298327437712171558 T = true) (d : Dev) (n : ℕ) : (Dev.timeoutWire d n).mask T = d.mask T := by
  refine Dev.mask_mono (a := 443298327437712171558) ?_ hT
  unfold Dev.timeoutWire
  repeat' (first | with_reducible rfl | (simp (disch := decide) only [Dev.mask_ite, ite_self, Dev.dropWire_mask, Dev.releaseSlot_mask, Dev.failSession_mask]; done) | split | (dsimp only; split) | rfl)
theorem Dev.traceRecord_mask {T : Nat} (hT : subParts 70368746414982 T = true) (d : Dev) : (Dev.traceRecord d).mask T = d.mask T := by
  refine Dev.mask_mono (a := 70368746414982) ?_ hT
  unfold Dev.traceRecord
  repeat' (first | with_reducible rfl | (simp (disch := decide) only [Dev.mask_ite, ite_self, Dev.mask_traceQ, Dev.hwrite_mask, Dev.pulse_mask, Dev.fset_mask]; done) | split | (dsimp only; split) | rfl)
theorem Dev.underrun_mask {T : Nat} (hT : subParts 46117097695975974406 T = true) (d : Dev) (m : ℕ) : (Dev.underrun d m).mask T = d.mask T := by
  refine Dev.mask_mono (a := 46117097695975974406) ?_ hT
  unfold Dev.underrun
  repeat' (first | with_reducible rfl | (simp (disch := decide) only [Dev.mask_ite, ite_self, Dev.fresh_mask, Dev.count_mask, Dev.countMac_mask, Dev.fset_mask, Dev.endCopy_mask, Dev.emit_mask, Dev.frameBoundary_mask, Dev.pulse_mask, Dev.latchFault_mask]; done) | split | (dsimp only; split) | rfl)
theorem Dev.unmaskRoute_mask {T : Nat} (hT : subParts 2105862 T = true) (d : Dev) (n : ℕ) : (Dev.unmaskRoute d n).mask T = d.mask T := by
  refine Dev.mask_mono (a := 2105862) ?_ hT
  unfold Dev.unmaskRoute
  repeat' (first | with_reducible rfl | (simp (disch := decide) only [Dev.mask_ite, ite_self, Dev.deliverPending_mask, Dev.fset_mask]; done) | split | (dsimp only; split) | rfl)
theorem Dev.vendorAnswer_mask {T : Nat} (hT : subParts 1180591620717411303936 T = true) (d : Dev) (r : VendorRequest) (code : ℕ) (result : List Byte) : (Dev.vendorAnswer d r code result).mask T = d.mask T := by
  refine Dev.mask_mono (a := 1180591620717411303936) ?_ hT
  unfold Dev.vendorAnswer
  repeat' (first | with_reducible rfl | (simp (disch := decide) only [Dev.mask_ite, ite_self, Dev.sealedAnswer_mask]; done) | split | (dsimp only; split) | rfl)
theorem Dev.vendorInstall_mask {T : Nat} (hT : subParts 73786976294882386470 T = true) (d : Dev) (r : VendorRequest) (owner : Option ℕ) : (Dev.vendorInstall d r owner).2.2.mask T = d.mask T := by
  refine Dev.mask_mono (a := 73786976294882386470) ?_ hT
  unfold Dev.vendorInstall
  repeat' (first | with_reducible rfl | (simp (disch := decide) only [Dev.mask_ite, ite_self, Dev.keyInstall_mask, Dev.portEnd_mask, Dev.clearKbuf_mask]; done) | split | (dsimp only; split) | rfl)
theorem Dev.vendorQueue_mask {T : Nat} (hT : subParts 36893725659172053542 T = true) (d : Dev) (r : VendorRequest) (s : ℕ) : (Dev.vendorQueue d r s).2.2.mask T = d.mask T := by
  refine Dev.mask_mono (a := 36893725659172053542) ?_ hT
  unfold Dev.vendorQueue
  repeat' (first | with_reducible rfl | (simp (disch := decide) only [Dev.mask_ite, ite_self, Dev.portEnd_mask, Dev.createQueue_mask, Dev.modifyQueue_mask, Dev.destroyQueue_mask, Dev.readQueue_mask]; done) | split | (dsimp only; split) | rfl)
theorem Dev.vendorRequest_mask {T : Nat} (hT : subParts 1180591620717411303936 T = true) (d : Dev) (via : Transport) (session : Option ℕ) (payload : List Byte) : (Dev.vendorRequest d via session payload).mask T = d.mask T := by
  refine Dev.mask_mono (a := 1180591620717411303936) ?_ hT
  unfold Dev.vendorRequest
  repeat' (first | with_reducible rfl | (simp (disch := first | decide | (intros; (repeat' (first | with_reducible rfl | (simp (disch := decide) only [Dev.mask_ite, ite_self, Dev.spdmServe_mask, Dev.spdmError_mask, Dev.established_mask, Dev.setWel_mask, Dev.vendorAnswer_mask]; done) | split | (dsimp only; split))))) only [Dev.mask_foldl, Dev.mask_ite, ite_self, Dev.spdmServe_mask, Dev.spdmError_mask, Dev.established_mask, Dev.setWel_mask, Dev.vendorAnswer_mask]; done) | split | (dsimp only; split) | rfl | (refine (Dev.mask_foldl ?_ _ _).trans ?_ <;> try intro d a))
theorem Dev.vendorSa_mask {T : Nat} (hT : subParts 35791366 T = true) (d : Dev) (r : VendorRequest) (s : Nat)
    {f : Nat → Nat × List Byte × Dev} (hf : ∀ n, (f n).2.2.mask T = d.mask T) : (d.vendorSa r s f).2.2.mask T = d.mask T := by
  unfold Dev.vendorSa
  dsimp only
  split
  · rfl
  · split
    · exact Dev.noteSa_mask (subParts_trans (by decide) hT) _ _
    · exact (Dev.portEnd_mask (subParts_trans (by decide) hT) _ _ _).trans (hf _)
theorem Dev.vendorSaWrite_mask {T : Nat} (hT : subParts 147573952589712728614 T = true) (d : Dev) (r : VendorRequest) (s : ℕ) : (Dev.vendorSaWrite d r s).2.2.mask T = d.mask T := by
  refine Dev.mask_mono (a := 147573952589712728614) ?_ hT
  unfold Dev.vendorSaWrite
  repeat' (first | with_reducible rfl | (simp (disch := decide) only [Dev.mask_ite, ite_self, Dev.saWrite_mask, Dev.portEnd_mask]; done) | split | (dsimp only; split) | rfl)
theorem Dev.vendorServe_mask {T : Nat} (hT : subParts 1180591620717411303936 T = true) (d : Dev) (op : ℕ) (ports : List PortInfo) (pf0 : Bool) (f : Dev → VendorRequest → Option ℕ → ℕ × List Byte × Dev) (hf : ∀ d a0 a1, (f d a0 a1).2.2.mask T = d.mask T) : (Dev.vendorServe d op ports pf0 f).mask T = d.mask T := by
  unfold Dev.vendorServe
  repeat' (first | with_reducible rfl | (simp (disch := exact subParts_trans (by decide) hT) only [Dev.mask_ite, ite_self, Dev.setWel_mask, Dev.vendorAnswer_mask, hf]; done) | split | (dsimp only; split) | rfl)
theorem Dev.vendorSes_mask {T : Nat} (hT : subParts 443298327437745725990 T = true) (d : Dev) (r : VendorRequest) (s : ℕ) : (Dev.vendorSes d r s).2.2.mask T = d.mask T := by
  refine Dev.mask_mono (a := 443298327437745725990) ?_ hT
  unfold Dev.vendorSes
  repeat' (first | with_reducible rfl | (simp (disch := decide) only [Dev.mask_ite, ite_self, Dev.setPort_mask, Dev.sesGo_mask, Dev.sesClose_mask, Dev.sesReset_mask]; done) | split | (dsimp only; split) | rfl)
theorem Dev.volBindKey_mask {T : Nat} (hT : subParts 32 T = true) (d : Dev) (v : ℕ) (b : List ℕ) : (Dev.volBindKey d v b).2.mask T = d.mask T := by
  refine Dev.mask_mono (a := 32) ?_ hT
  unfold Dev.volBindKey
  repeat' (first | with_reducible rfl | (simp (disch := decide) only [Dev.mask_ite, ite_self, Dev.gsetWords_mask]; done) | split | (dsimp only; split) | rfl)
theorem Dev.vendorVolBind_mask {T : Nat} (hT : subParts 35791398 T = true) (d : Dev) (r : VendorRequest) (s : ℕ) : (Dev.vendorVolBind d r s).2.2.mask T = d.mask T := by
  refine Dev.mask_mono (a := 35791398) ?_ hT
  unfold Dev.vendorVolBind
  repeat' (first | with_reducible rfl | (simp (disch := decide) only [Dev.mask_ite, ite_self, Dev.volBindKey_mask, Dev.portEnd_mask]; done) | split | (dsimp only; split) | rfl)
theorem Dev.visitSweep_mask {T : Nat} (hT : subParts 252201579132747778 T = true) (d : Dev) : (Dev.visitSweep d).mask T = d.mask T := by
  refine Dev.mask_mono (a := 252201579132747778) ?_ hT
  unfold Dev.visitSweep
  repeat' (first | with_reducible rfl | (simp (disch := decide) only [Dev.mask_ite, ite_self, Dev.mask_clearQ, Dev.mask_sweepAgain, Dev.noteHold_mask, Dev.setSweep_mask]; done) | split | (dsimp only; split) | rfl)
theorem Dev.volDisable_mask {T : Nat} (hT : subParts 32 T = true) (d : Dev) (v : ℕ) : (Dev.volDisable d v).mask T = d.mask T := by
  refine Dev.mask_mono (a := 32) ?_ hT
  unfold Dev.volDisable
  repeat' (first | with_reducible rfl | (simp (disch := decide) only [Dev.mask_ite, ite_self, Dev.gsetWords_mask]; done) | split | (dsimp only; split) | rfl)
theorem Dev.volWrite_mask {T : Nat} (hT : subParts 32 T = true) (d : Dev) (welbor : Bool) (v : ℕ) (w : List ℕ) : (Dev.volWrite d welbor v w).2.mask T = d.mask T := by
  refine Dev.mask_mono (a := 32) ?_ hT
  unfold Dev.volWrite
  repeat' (first | with_reducible rfl | (simp (disch := decide) only [Dev.mask_ite, ite_self, Dev.gsetWords_mask]; done) | split | (dsimp only; split) | rfl)
theorem Dev.wake_mask {T : Nat} (hT : subParts 2228224 T = true) (d : Dev) (kind : ℕ) (source : ℕ) : (Dev.wake d kind source).mask T = d.mask T := by
  refine Dev.mask_mono (a := 2228224) ?_ hT
  unfold Dev.wake
  repeat' (first | with_reducible rfl | (simp (disch := decide) only [Dev.mask_ite, ite_self, Dev.wakeOf_mask, Dev.requestWake_mask, Dev.setHostPort_mask]; done) | split | (dsimp only; split) | rfl)
theorem Dev.welborRestart_mask {T : Nat} (hT : subParts 1180591620717411303426 T = true) (d : Dev) : (Dev.welborRestart d).mask T = d.mask T := by
  refine Dev.mask_mono (a := 1180591620717411303426) ?_ hT
  unfold Dev.welborRestart
  repeat' (first | with_reducible rfl | (simp (disch := decide) only [Dev.mask_ite, ite_self, Dev.setWel_mask, Dev.setBootStage_mask, Dev.fset_mask]; done) | split | (dsimp only; split) | rfl)
theorem Dev.windowWrite_mask {T : Nat} (hT : subParts 996124417492038853158 T = true) (d : Dev) (port : ℕ) (slice : ℕ) (off : ℕ) (rid : ℕ) (w : ℕ) (m : ℕ) : (Dev.windowWrite d port slice off rid w m).mask T = d.mask T := by
  refine Dev.mask_mono (a := 996124417492038853158) ?_ hT
  unfold Dev.windowWrite
  repeat' (first | with_reducible rfl | (simp (disch := first | decide | (intros; (repeat' (first | with_reducible rfl | (simp (disch := decide) only [Dev.mask_ite, ite_self, Dev.doorbellWrite_mask, Dev.dropDoorbell_mask, Dev.onMail_mask, Dev.mailStage_mask, Dev.mailSend_mask, Dev.mailPop_mask, Dev.sitMask_mask]; done) | split | (dsimp only; split))))) only [Dev.mask_foldl, Dev.mask_ite, ite_self, Dev.doorbellWrite_mask, Dev.dropDoorbell_mask, Dev.onMail_mask, Dev.mailStage_mask, Dev.mailSend_mask, Dev.mailPop_mask, Dev.sitMask_mask]; done) | split | (dsimp only; split) | rfl | (refine (Dev.mask_foldl ?_ _ _).trans ?_ <;> try intro d a))
theorem Dev.windowRead_mask {T : Nat} (hT : subParts 590295810358716277254 T = true) (d : Dev) (port : ℕ) (slice : ℕ) (off : ℕ) (rid : ℕ) (m : ℕ) : (Dev.windowRead d port slice off rid m).mask T = d.mask T := by
  refine Dev.mask_mono (a := 590295810358716277254) ?_ hT
  unfold Dev.windowRead
  repeat' (first | with_reducible rfl | (simp (disch := decide) only [Dev.mask_ite, ite_self, Dev.emit_mask, Dev.readLo_mask, Dev.mailClear_mask, Dev.pulse_mask, Dev.accessError_mask, Dev.aerError_mask]; done) | split | (dsimp only; split) | rfl)
theorem Dev.windowAccess_mask {T : Nat} (hT : subParts 996124417492038853158 T = true) (d : Dev) (port : ℕ) (slice : ℕ) (off : ℕ) (rid : ℕ) (write : Bool) (w : ℕ) (m : ℕ) (stream : Option ℕ) (tbit : Bool) : (Dev.windowAccess d port slice off rid write w m stream tbit).mask T = d.mask T := by
  refine Dev.mask_mono (a := 996124417492038853158) ?_ hT
  unfold Dev.windowAccess
  repeat' (first | with_reducible rfl | (simp (disch := decide) only [Dev.mask_ite, ite_self, Dev.windowWrite_mask, Dev.windowRead_mask, Dev.count_mask, Dev.emit_mask, Dev.aerError_mask, Dev.pulse_mask, Dev.confRefused_mask]; done) | split | (dsimp only; split) | rfl)
theorem Dev.writeOutside_mask {T : Nat} (hT : subParts 405828607133329007142 T = true) (d : Dev) (req : Requester) (addr : ℕ) (v : ℕ) (m : ℕ) : (Dev.writeOutside d req addr v m).mask T = d.mask T := by
  refine Dev.mask_mono (a := 405828607133329007142) ?_ hT
  unfold Dev.writeOutside
  repeat' (first | with_reducible rfl | (simp (disch := decide) only [Dev.mask_ite, ite_self, Dev.msixWrite_mask, Dev.configWrite_mask, Dev.doorbellWrite_mask, Dev.dropDoorbell_mask, Dev.linkUp_mask]; done) | split | (dsimp only; split) | rfl)
theorem Dev.writeAt_mask {T : Nat} (hT : subParts 2361183241434822599294 T = true) (d : Dev) (req : Requester) (addr : ℕ) (v : ℕ) (m : ℕ) : (Dev.writeAt d req addr v m).mask T = d.mask T := by
  refine Dev.mask_mono (a := 2361183241434822599294) ?_ hT
  unfold Dev.writeAt
  repeat' (first | with_reducible rfl | (simp (disch := first | decide | (intros; (repeat' (first | with_reducible rfl | (simp (disch := decide) only [Dev.mask_ite, ite_self, Dev.writeOutside_mask, Dev.broadcastWrite_mask, Dev.onWrite_mask, Dev.writeReg_mask]; done) | split | (dsimp only; split))))) only [Dev.mask_foldl, Dev.mask_ite, ite_self, Dev.writeOutside_mask, Dev.broadcastWrite_mask, Dev.onWrite_mask, Dev.writeReg_mask]; done) | split | (dsimp only; split) | rfl | (refine (Dev.mask_foldl ?_ _ _).trans ?_ <;> try intro d a))
theorem Dev.writeCompletion_mask {T : Nat} (hT : subParts 36893725659142169510 T = true) (d0 : Dev) (q : ℕ) : (Dev.writeCompletion d0 q).mask T = d0.mask T := by
  refine Dev.mask_mono (a := 36893725659142169510) ?_ hT
  unfold Dev.writeCompletion
  repeat' (first | with_reducible rfl | (simp (disch := decide) only [Dev.mask_ite, ite_self, Dev.abortUnfetched_mask, Dev.takeSent_mask, Dev.settle_mask, Dev.releaseSlice_mask, Dev.discardLate_mask, Dev.setQueue_mask, Dev.discardStale_mask, Dev.hwrite_mask, Dev.countRxWire_mask, Dev.wcount_mask, Dev.countIrq_mask]; done) | split | (dsimp only; split) | rfl)
theorem Dev.writeNote_mask {T : Nat} (hT : subParts 2251799815922566 T = true) (d : Dev) : (Dev.writeNote d).mask T = d.mask T := by
  refine Dev.mask_mono (a := 2251799815922566) ?_ hT
  unfold Dev.writeNote
  repeat' (first | with_reducible rfl | (simp (disch := decide) only [Dev.mask_ite, ite_self, Dev.mask_noteQ, Dev.fset_mask, Dev.pulse_mask, Dev.count_mask, Dev.hwrite_mask]; done) | split | (dsimp only; split) | rfl)
theorem Dev.zeroiseRetired_mask {T : Nat} (hT : subParts 73786976294848832038 T = true) (d : Dev) (s : ℕ) : (Dev.zeroiseRetired d s).mask T = d.mask T := by
  refine Dev.mask_mono (a := 73786976294848832038) ?_ hT
  unfold Dev.zeroiseRetired
  repeat' (first | with_reducible rfl | (simp (disch := decide) only [Dev.mask_ite, ite_self, Dev.zeroiseSlot_mask]; done) | split | (dsimp only; split) | rfl)

end Sys2Proof.Machine
end

