-- ==== Sys2Proof/Laws/Commands.lean ====
section
/-!
SUPPORT. The frame of every command: the parts it may change, and that it leaves the queue alone.
-/

namespace Sys2Proof.Machine

set_option linter.all false

theorem State.become_frame {T : Nat} {s t : State} {d : Dev} (h : s.become d = .next t) (hd : d.mask T = s.dev.mask T) :
    t.dev.mask T = s.dev.mask T ∧ t.pending = s.pending := by
  cases h
  exact ⟨hd, rfl⟩
theorem execActionApply_frame {T : Nat} (hT : subParts 186206103198572357126 T = true) {packet : Nat} {s : State} {t : State} (h : execActionApply packet s = .next t) :
    t.dev.mask T = s.dev.mask T ∧ t.pending = s.pending := by
  refine State.become_frame h (Dev.mask_mono (a := 186206103198572357126) ?_ hT)
  repeat' (first | with_reducible rfl | (simp (disch := decide) only [Dev.mask_ite, ite_self, Dev.applyActions_mask]; done) | split | (dsimp only; split) | rfl)
theorem execAdd_frame {T : Nat} (hT : subParts 36893711366275342854 T = true) {core : Nat} {s : State} {t : State} (h : execAdd core s = .next t) :
    t.dev.mask T = s.dev.mask T ∧ t.pending = s.pending := by
  refine State.become_frame h (Dev.mask_mono (a := 36893711366275342854) ?_ hT)
  repeat' (first | with_reducible rfl | (simp (disch := decide) only [Dev.mask_ite, ite_self, Dev.issue_mask]; done) | split | (dsimp only; split) | rfl)
theorem execAddi_frame {T : Nat} (hT : subParts 36893711366275342854 T = true) {core : Nat} {s : State} {t : State} (h : execAddi core s = .next t) :
    t.dev.mask T = s.dev.mask T ∧ t.pending = s.pending := by
  refine State.become_frame h (Dev.mask_mono (a := 36893711366275342854) ?_ hT)
  repeat' (first | with_reducible rfl | (simp (disch := decide) only [Dev.mask_ite, ite_self, Dev.issue_mask]; done) | split | (dsimp only; split) | rfl)
theorem execAgeRefresh_frame {T : Nat} (hT : subParts 18014398510006306 T = true) {s : State} {t : State} (h : execAgeRefresh s = .next t) :
    t.dev.mask T = s.dev.mask T ∧ t.pending = s.pending := by
  refine State.become_frame h (Dev.mask_mono (a := 18014398510006306) ?_ hT)
  repeat' (first | with_reducible rfl | (simp (disch := decide) only [Dev.mask_ite, ite_self, Dev.refreshAge_mask]; done) | split | (dsimp only; split) | rfl)
theorem execAnd_frame {T : Nat} (hT : subParts 36893711366275342854 T = true) {core : Nat} {s : State} {t : State} (h : execAnd core s = .next t) :
    t.dev.mask T = s.dev.mask T ∧ t.pending = s.pending := by
  refine State.become_frame h (Dev.mask_mono (a := 36893711366275342854) ?_ hT)
  repeat' (first | with_reducible rfl | (simp (disch := decide) only [Dev.mask_ite, ite_self, Dev.issue_mask]; done) | split | (dsimp only; split) | rfl)
theorem execAndi_frame {T : Nat} (hT : subParts 36893711366275342854 T = true) {core : Nat} {s : State} {t : State} (h : execAndi core s = .next t) :
    t.dev.mask T = s.dev.mask T ∧ t.pending = s.pending := by
  refine State.become_frame h (Dev.mask_mono (a := 36893711366275342854) ?_ hT)
  repeat' (first | with_reducible rfl | (simp (disch := decide) only [Dev.mask_ite, ite_self, Dev.issue_mask]; done) | split | (dsimp only; split) | rfl)
theorem execAtsInvalidationComplete_frame {T : Nat} (hT : subParts 2097664 T = true) {port : Nat} {s : State} {t : State} (h : execAtsInvalidationComplete port s = .next t) :
    t.dev.mask T = s.dev.mask T ∧ t.pending = s.pending := by
  refine State.become_frame h (Dev.mask_mono (a := 2097664) ?_ hT)
  repeat' (first | with_reducible rfl | (simp (disch := decide) only [Dev.mask_ite, ite_self, Dev.completeInvalidation_mask]; done) | split | (dsimp only; split) | rfl)
theorem execAtsInvalidationRequest_frame {T : Nat} (hT : subParts 2236934 T = true) {port pf pasid range : Nat} {s : State} {t : State} (h : execAtsInvalidationRequest port pf pasid range s = .next t) :
    t.dev.mask T = s.dev.mask T ∧ t.pending = s.pending := by
  refine State.become_frame h (Dev.mask_mono (a := 2236934) ?_ hT)
  repeat' (first | with_reducible rfl | (simp (disch := decide) only [Dev.mask_ite, ite_self, Dev.invalidate_mask]; done) | split | (dsimp only; split) | rfl)
theorem execAuxPowerLoss_frame {T : Nat} (hT : subParts 2361183241434822604926 T = true) {s : State} {t : State} (h : execAuxPowerLoss s = .next t) :
    t.dev.mask T = s.dev.mask T ∧ t.pending = s.pending := by
  refine State.become_frame h (Dev.mask_mono (a := 2361183241434822604926) ?_ hT)
  repeat' (first | with_reducible rfl | (simp (disch := decide) only [Dev.mask_ite, ite_self, Dev.auxLoss_mask]; done) | split | (dsimp only; split) | rfl)
theorem execAuxPowerOn_frame {T : Nat} (hT : subParts 1180591620717411434498 T = true) {s : State} {t : State} (h : execAuxPowerOn s = .next t) :
    t.dev.mask T = s.dev.mask T ∧ t.pending = s.pending := by
  refine State.become_frame h (Dev.mask_mono (a := 1180591620717411434498) ?_ hT)
  repeat' (first | with_reducible rfl | (simp (disch := decide) only [Dev.mask_ite, ite_self, Dev.auxOn_mask]; done) | split | (dsimp only; split) | rfl)
theorem execAvsStep_frame {T : Nat} (hT : subParts 2826758 T = true) {island margin : Nat} {s : State} {t : State} (h : execAvsStep island margin s = .next t) :
    t.dev.mask T = s.dev.mask T ∧ t.pending = s.pending := by
  refine State.become_frame h (Dev.mask_mono (a := 2826758) ?_ hT)
  repeat' (first | with_reducible rfl | (simp (disch := decide) only [Dev.mask_ite, ite_self, Dev.avsStep_mask]; done) | split | (dsimp only; split) | rfl)
theorem execBatchRetire_frame {T : Nat} (hT : subParts 2236934 T = true) {batch : BitVec 4} {s : State} {t : State} (h : execBatchRetire batch s = .next t) :
    t.dev.mask T = s.dev.mask T ∧ t.pending = s.pending := by
  refine State.become_frame h (Dev.mask_mono (a := 2236934) ?_ hT)
  repeat' (first | with_reducible rfl | (simp (disch := decide) only [Dev.mask_ite, ite_self, Dev.retireBatch_mask]; done) | split | (dsimp only; split) | rfl)
theorem execBatchRetiredClear_frame {T : Nat} (hT : subParts 2236934 T = true) {req : Requester} {mask : BitVec 16} {s : State} {t : State} (h : execBatchRetiredClear req mask s = .next t) :
    t.dev.mask T = s.dev.mask T ∧ t.pending = s.pending := by
  refine State.become_frame h (Dev.mask_mono (a := 2236934) ?_ hT)
  repeat' (first | with_reducible rfl | (simp (disch := first | decide | (intros; (repeat' (first | with_reducible rfl | (simp (disch := decide) only [Dev.mask_ite, ite_self, Dev.clearRetiredMask_mask, Dev.onWrite_mask]; done) | split | (dsimp only; split))))) only [Dev.mask_foldl, Dev.mask_ite, ite_self, Dev.clearRetiredMask_mask, Dev.onWrite_mask]; done) | split | (dsimp only; split) | rfl)
theorem execBatchStage_frame {T : Nat} (hT : subParts 2236934 T = true) {req : Requester} {batch : BitVec 4} {s : State} {t : State} (h : execBatchStage req batch s = .next t) :
    t.dev.mask T = s.dev.mask T ∧ t.pending = s.pending := by
  refine State.become_frame h (Dev.mask_mono (a := 2236934) ?_ hT)
  repeat' (first | with_reducible rfl | (simp (disch := first | decide | (intros; (repeat' (first | with_reducible rfl | (simp (disch := decide) only [Dev.mask_ite, ite_self, Dev.onWrite_mask, Dev.stageBatch_mask, Dev.stageFields_mask]; done) | split | (dsimp only; split))))) only [Dev.mask_foldl, Dev.mask_ite, ite_self, Dev.onWrite_mask, Dev.stageBatch_mask, Dev.stageFields_mask]; done) | split | (dsimp only; split) | rfl)
theorem execBatchSwap_frame {T : Nat} (hT : subParts 2236958 T = true) {req : Requester} {batch : BitVec 4} {s : State} {t : State} (h : execBatchSwap req batch s = .next t) :
    t.dev.mask T = s.dev.mask T ∧ t.pending = s.pending := by
  refine State.become_frame h (Dev.mask_mono (a := 2236958) ?_ hT)
  repeat' (first | with_reducible rfl | (simp (disch := first | decide | (intros; (repeat' (first | with_reducible rfl | (simp (disch := decide) only [Dev.mask_ite, ite_self, Dev.fsetP_mask, Dev.onWrite_mask, Dev.swapBatch_mask]; done) | split | (dsimp only; split))))) only [Dev.mask_foldl, Dev.mask_ite, ite_self, Dev.fsetP_mask, Dev.onWrite_mask, Dev.swapBatch_mask]; done) | split | (dsimp only; split) | rfl)
theorem execBatchUnstage_frame {T : Nat} (hT : subParts 2236934 T = true) {req : Requester} {batch : BitVec 4} {s : State} {t : State} (h : execBatchUnstage req batch s = .next t) :
    t.dev.mask T = s.dev.mask T ∧ t.pending = s.pending := by
  refine State.become_frame h (Dev.mask_mono (a := 2236934) ?_ hT)
  repeat' (first | with_reducible rfl | (simp (disch := first | decide | (intros; (repeat' (first | with_reducible rfl | (simp (disch := decide) only [Dev.mask_ite, ite_self, Dev.onWrite_mask, Dev.stageFields_mask, Dev.unstageBatch_mask]; done) | split | (dsimp only; split))))) only [Dev.mask_foldl, Dev.mask_ite, ite_self, Dev.onWrite_mask, Dev.stageFields_mask, Dev.unstageBatch_mask]; done) | split | (dsimp only; split) | rfl)
theorem execBf_frame {T : Nat} (hT : subParts 36893711366275342854 T = true) {core : Nat} {s : State} {t : State} (h : execBf core s = .next t) :
    t.dev.mask T = s.dev.mask T ∧ t.pending = s.pending := by
  refine State.become_frame h (Dev.mask_mono (a := 36893711366275342854) ?_ hT)
  repeat' (first | with_reducible rfl | (simp (disch := decide) only [Dev.mask_ite, ite_self, Dev.issue_mask]; done) | split | (dsimp only; split) | rfl)
theorem execBinActivation_frame {T : Nat} (hT : subParts 2238982 T = true) {input : Nat} {s : State} {t : State} (h : execBinActivation input s = .next t) :
    t.dev.mask T = s.dev.mask T ∧ t.pending = s.pending := by
  refine State.become_frame h (Dev.mask_mono (a := 2238982) ?_ hT)
  repeat' (first | with_reducible rfl | (simp (disch := decide) only [Dev.mask_ite, ite_self, Dev.binActivate_mask]; done) | split | (dsimp only; split) | rfl)
theorem execBinInactive_frame {T : Nat} (hT : subParts 2048 T = true) {input : Nat} {s : State} {t : State} (h : execBinInactive input s = .next t) :
    t.dev.mask T = s.dev.mask T ∧ t.pending = s.pending := by
  refine State.become_frame h (Dev.mask_mono (a := 2048) ?_ hT)
  repeat' (first | with_reducible rfl | (simp (disch := decide) only [Dev.mask_ite, ite_self, Dev.binDeactivate_mask]; done) | split | (dsimp only; split) | rfl)
theorem execBinStuck_frame {T : Nat} (hT : subParts 2238982 T = true) {input : Nat} {s : State} {t : State} (h : execBinStuck input s = .next t) :
    t.dev.mask T = s.dev.mask T ∧ t.pending = s.pending := by
  refine State.become_frame h (Dev.mask_mono (a := 2238982) ?_ hT)
  repeat' (first | with_reducible rfl | (simp (disch := decide) only [Dev.mask_ite, ite_self, Dev.binStick_mask]; done) | split | (dsimp only; split) | rfl)
theorem execBinUnmask_frame {T : Nat} (hT : subParts 2236934 T = true) {req : Requester} {mask : BitVec 4} {s : State} {t : State} (h : execBinUnmask req mask s = .next t) :
    t.dev.mask T = s.dev.mask T ∧ t.pending = s.pending := by
  refine State.become_frame h (Dev.mask_mono (a := 2236934) ?_ hT)
  repeat' (first | with_reducible rfl | (simp (disch := first | decide | (intros; (repeat' (first | with_reducible rfl | (simp (disch := decide) only [Dev.mask_ite, ite_self, Dev.binUnmask_mask, Dev.onWrite_mask]; done) | split | (dsimp only; split))))) only [Dev.mask_foldl, Dev.mask_ite, ite_self, Dev.binUnmask_mask, Dev.onWrite_mask]; done) | split | (dsimp only; split) | rfl)
theorem execBloomRebuild_frame {T : Nat} (hT : subParts 288230376187503110 T = true) {s : State} {t : State} (h : execBloomRebuild s = .next t) :
    t.dev.mask T = s.dev.mask T ∧ t.pending = s.pending := by
  refine State.become_frame h (Dev.mask_mono (a := 288230376187503110) ?_ hT)
  repeat' (first | with_reducible rfl | (simp (disch := decide) only [Dev.mask_ite, ite_self, Dev.startRebuild_mask]; done) | split | (dsimp only; split) | rfl)
theorem execBloomRebuildEnd_frame {T : Nat} (hT : subParts 289356276094345734 T = true) {s : State} {t : State} (h : execBloomRebuildEnd s = .next t) :
    t.dev.mask T = s.dev.mask T ∧ t.pending = s.pending := by
  refine State.become_frame h (Dev.mask_mono (a := 289356276094345734) ?_ hT)
  repeat' (first | with_reducible rfl | (simp (disch := decide) only [Dev.mask_ite, ite_self, Dev.endRebuild_mask]; done) | split | (dsimp only; split) | rfl)
theorem execBootStageEnd_frame {T : Nat} (hT : subParts 1180591620717414064710 T = true) {pass : Bool} {images : List BootImage} {s : State} {t : State} (h : execBootStageEnd pass images s = .next t) :
    t.dev.mask T = s.dev.mask T ∧ t.pending = s.pending := by
  refine State.become_frame h (Dev.mask_mono (a := 1180591620717414064710) ?_ hT)
  repeat' (first | with_reducible rfl | (simp (disch := decide) only [Dev.mask_ite, ite_self, Dev.endStage_mask]; done) | split | (dsimp only; split) | rfl)
theorem execBr_frame {T : Nat} (hT : subParts 36893711366275342854 T = true) {core : Nat} {s : State} {t : State} (h : execBr core s = .next t) :
    t.dev.mask T = s.dev.mask T ∧ t.pending = s.pending := by
  refine State.become_frame h (Dev.mask_mono (a := 36893711366275342854) ?_ hT)
  repeat' (first | with_reducible rfl | (simp (disch := decide) only [Dev.mask_ite, ite_self, Dev.issue_mask]; done) | split | (dsimp only; split) | rfl)
theorem execBri_frame {T : Nat} (hT : subParts 36893711366275342854 T = true) {core : Nat} {s : State} {t : State} (h : execBri core s = .next t) :
    t.dev.mask T = s.dev.mask T ∧ t.pending = s.pending := by
  refine State.become_frame h (Dev.mask_mono (a := 36893711366275342854) ?_ hT)
  repeat' (first | with_reducible rfl | (simp (disch := decide) only [Dev.mask_ite, ite_self, Dev.issue_mask]; done) | split | (dsimp only; split) | rfl)
theorem execBroadcastRead_frame {T : Nat} (hT : subParts 2236950 T = true) {req : Requester} {addr : Nat} {s : State} {t : State} (h : execBroadcastRead req addr s = .next t) :
    t.dev.mask T = s.dev.mask T ∧ t.pending = s.pending := by
  refine State.become_frame h (Dev.mask_mono (a := 2236950) ?_ hT)
  repeat' (first | with_reducible rfl | (simp (disch := decide) only [Dev.mask_ite, ite_self, Dev.broadcastRead_mask, Dev.emit_mask]; done) | split | (dsimp only; split) | rfl)
theorem execBroadcastWrite_frame {T : Nat} (hT : subParts 2361183241434822599294 T = true) {req : Requester} {addr : Nat} {value : Word} {be : BitVec 4} {s : State} {t : State} (h : execBroadcastWrite req addr value be s = .next t) :
    t.dev.mask T = s.dev.mask T ∧ t.pending = s.pending := by
  refine State.become_frame h (Dev.mask_mono (a := 2361183241434822599294) ?_ hT)
  repeat' (first | with_reducible rfl | (simp (disch := decide) only [Dev.mask_ite, ite_self, Dev.broadcastWrite_mask]; done) | split | (dsimp only; split) | rfl)
theorem execBurstIssue_frame {T : Nat} (hT : subParts 2286566 T = true) {mover : Nat} {portReady : Bool} {answer : HostAnswer} {s : State} {t : State} (h : execBurstIssue mover portReady answer s = .next t) :
    t.dev.mask T = s.dev.mask T ∧ t.pending = s.pending := by
  refine State.become_frame h (Dev.mask_mono (a := 2286566) ?_ hT)
  repeat' (first | with_reducible rfl | (simp (disch := decide) only [Dev.mask_ite, ite_self, Dev.issueBurst_mask]; done) | split | (dsimp only; split) | rfl)
theorem execBusHoldUpExpiry_frame {T : Nat} (hT : subParts 2361183241434822603774 T = true) {s : State} {t : State} (h : execBusHoldUpExpiry s = .next t) :
    t.dev.mask T = s.dev.mask T ∧ t.pending = s.pending := by
  refine State.become_frame h (Dev.mask_mono (a := 2361183241434822603774) ?_ hT)
  repeat' (first | with_reducible rfl | (simp (disch := decide) only [Dev.mask_ite, ite_self, Dev.powerLost_mask]; done) | split | (dsimp only; split) | rfl)
theorem execC2hdataReceive_frame {T : Nat} (hT : subParts 517085303732550378406 T = true) {session : Nat} {s : State} {t : State} (h : execC2hdataReceive session s = .next t) :
    t.dev.mask T = s.dev.mask T ∧ t.pending = s.pending := by
  refine State.become_frame h (Dev.mask_mono (a := 517085303732550378406) ?_ hT)
  repeat' (first | with_reducible rfl | (simp (disch := decide) only [Dev.mask_ite, ite_self, Dev.receiveData_mask]; done) | split | (dsimp only; split) | rfl)
theorem execC2htermreqReceive_frame {T : Nat} (hT : subParts 443298327437712171558 T = true) {session : Nat} {s : State} {t : State} (h : execC2htermreqReceive session s = .next t) :
    t.dev.mask T = s.dev.mask T ∧ t.pending = s.pending := by
  refine State.become_frame h (Dev.mask_mono (a := 443298327437712171558) ?_ hT)
  repeat' (first | with_reducible rfl | (simp (disch := decide) only [Dev.mask_ite, ite_self, Dev.receiveTerm_mask]; done) | split | (dsimp only; split) | rfl)
theorem execCageModuleInterrupt_frame {T : Nat} (hT : subParts 2236934 T = true) {group : Nat} {level : Bool} {s : State} {t : State} (h : execCageModuleInterrupt group level s = .next t) :
    t.dev.mask T = s.dev.mask T ∧ t.pending = s.pending := by
  refine State.become_frame h (Dev.mask_mono (a := 2236934) ?_ hT)
  repeat' (first | with_reducible rfl | (simp (disch := decide) only [Dev.mask_ite, ite_self, Dev.fset_mask, Dev.refreshLevel_mask]; done) | split | (dsimp only; split) | rfl)
theorem execCagePresenceChange_frame {T : Nat} (hT : subParts 64563841769685524998 T = true) {group : Nat} {present : Bool} {s : State} {t : State} (h : execCagePresenceChange group present s = .next t) :
    t.dev.mask T = s.dev.mask T ∧ t.pending = s.pending := by
  refine State.become_frame h (Dev.mask_mono (a := 64563841769685524998) ?_ hT)
  repeat' (first | with_reducible rfl | (simp (disch := decide) only [Dev.mask_ite, ite_self, Dev.changePresence_mask]; done) | split | (dsimp only; split) | rfl)
theorem execCageSupplyFault_frame {T : Nat} (hT : subParts 64563841769685525022 T = true) {group : Nat} {s : State} {t : State} (h : execCageSupplyFault group s = .next t) :
    t.dev.mask T = s.dev.mask T ∧ t.pending = s.pending := by
  refine State.become_frame h (Dev.mask_mono (a := 64563841769685525022) ?_ hT)
  repeat' (first | with_reducible rfl | (simp (disch := decide) only [Dev.mask_ite, ite_self, Dev.cageFault_mask]; done) | split | (dsimp only; split) | rfl)
theorem execCageTwiDone_frame {T : Nat} (hT : subParts 35791366 T = true) {group : Nat} {data : Option (BitVec 8)} {s : State} {t : State} (h : execCageTwiDone group data s = .next t) :
    t.dev.mask T = s.dev.mask T ∧ t.pending = s.pending := by
  refine State.become_frame h (Dev.mask_mono (a := 35791366) ?_ hT)
  repeat' (first | with_reducible rfl | (simp (disch := decide) only [Dev.mask_ite, ite_self, Dev.endTwi_mask]; done) | split | (dsimp only; split) | rfl)
theorem execCageTwiStart_frame {T : Nat} (hT : subParts 35791366 T = true) {req : Requester} {group : Nat} {s : State} {t : State} (h : execCageTwiStart req group s = .next t) :
    t.dev.mask T = s.dev.mask T ∧ t.pending = s.pending := by
  refine State.become_frame h (Dev.mask_mono (a := 35791366) ?_ hT)
  repeat' (first | with_reducible rfl | (simp (disch := first | decide | (intros; (repeat' (first | with_reducible rfl | (simp (disch := decide) only [Dev.mask_ite, ite_self, Dev.onWrite_mask, Dev.startTwi_mask]; done) | split | (dsimp only; split))))) only [Dev.mask_foldl, Dev.mask_ite, ite_self, Dev.onWrite_mask, Dev.startTwi_mask]; done) | split | (dsimp only; split) | rfl)
theorem execCall_frame {T : Nat} (hT : subParts 36893711366275342854 T = true) {core : Nat} {s : State} {t : State} (h : execCall core s = .next t) :
    t.dev.mask T = s.dev.mask T ∧ t.pending = s.pending := by
  refine State.become_frame h (Dev.mask_mono (a := 36893711366275342854) ?_ hT)
  repeat' (first | with_reducible rfl | (simp (disch := decide) only [Dev.mask_ite, ite_self, Dev.issue_mask]; done) | split | (dsimp only; split) | rfl)
theorem execCapsuleRespReceive_frame {T : Nat} (hT : subParts 443298327437712171558 T = true) {session : Nat} {s : State} {t : State} (h : execCapsuleRespReceive session s = .next t) :
    t.dev.mask T = s.dev.mask T ∧ t.pending = s.pending := by
  refine State.become_frame h (Dev.mask_mono (a := 443298327437712171558) ?_ hT)
  repeat' (first | with_reducible rfl | (simp (disch := decide) only [Dev.mask_ite, ite_self, Dev.receiveResponse_mask]; done) | split | (dsimp only; split) | rfl)
theorem execCfgParityRecheck_frame {T : Nat} (hT : subParts 46117097695976563222 T = true) {req : Requester} {page : Nat} {s : State} {t : State} (h : execCfgParityRecheck req page s = .next t) :
    t.dev.mask T = s.dev.mask T ∧ t.pending = s.pending := by
  refine State.become_frame h (Dev.mask_mono (a := 46117097695976563222) ?_ hT)
  repeat' (first | with_reducible rfl | (simp (disch := first | decide | (intros; (repeat' (first | with_reducible rfl | (simp (disch := decide) only [Dev.mask_ite, ite_self, Dev.clearCfgParity_mask, Dev.onHeader_mask]; done) | split | (dsimp only; split))))) only [Dev.mask_foldl, Dev.mask_ite, ite_self, Dev.clearCfgParity_mask, Dev.onHeader_mask]; done) | split | (dsimp only; split) | rfl)
theorem execChainEnd_frame {T : Nat} (hT : subParts 2236934 T = true) {mover : Nat} {s : State} {t : State} (h : execChainEnd mover s = .next t) :
    t.dev.mask T = s.dev.mask T ∧ t.pending = s.pending := by
  refine State.become_frame h (Dev.mask_mono (a := 2236934) ?_ hT)
  repeat' (first | with_reducible rfl | (simp (disch := decide) only [Dev.mask_ite, ite_self, Dev.endDescriptor_mask]; done) | split | (dsimp only; split) | rfl)
theorem execChallenge_frame {T : Nat} (hT : subParts 1180591620717411304960 T = true) {via : Transport} {slot : Nat} {nonce : List Byte} {s : State} {t : State} (h : execChallenge via slot nonce s = .next t) :
    t.dev.mask T = s.dev.mask T ∧ t.pending = s.pending := by
  refine State.become_frame h (Dev.mask_mono (a := 1180591620717411304960) ?_ hT)
  repeat' (first | with_reducible rfl | (simp (disch := first | decide | (intros; (repeat' (first | with_reducible rfl | (simp (disch := decide) only [Dev.mask_ite, ite_self, Dev.fresh_mask, Dev.spdmAnswer_mask, Dev.spdmError_mask, Dev.spdmServe_mask]; done) | split | (dsimp only; split))))) only [Dev.mask_foldl, Dev.mask_ite, ite_self, Dev.fresh_mask, Dev.spdmAnswer_mask, Dev.spdmError_mask, Dev.spdmServe_mask]; done) | split | (dsimp only; split) | rfl)
theorem execCharterHistory_frame {T : Nat} (hT : subParts 1180591620717411303936 T = true) {s : State} {t : State} (h : execCharterHistory s = .next t) :
    t.dev.mask T = s.dev.mask T ∧ t.pending = s.pending := by
  refine State.become_frame h (Dev.mask_mono (a := 1180591620717411303936) ?_ hT)
  repeat' (first | with_reducible rfl | (simp (disch := first | decide | (intros; (repeat' (first | with_reducible rfl | (simp (disch := decide) only [Dev.mask_ite, ite_self, Dev.vendorServe_mask]; done) | split | (dsimp only; split))))) only [Dev.mask_foldl, Dev.mask_ite, ite_self, Dev.vendorServe_mask]; done) | split | (dsimp only; split) | rfl)
theorem execCipher_frame {T : Nat} (hT : subParts 73786976294857220614 T = true) {queue : Nat} {answer : HostAnswer} {s : State} {t : State} (h : execCipher queue answer s = .next t) :
    t.dev.mask T = s.dev.mask T ∧ t.pending = s.pending := by
  refine State.become_frame h (Dev.mask_mono (a := 73786976294857220614) ?_ hT)
  repeat' (first | with_reducible rfl | (simp (disch := decide) only [Dev.mask_ite, ite_self, Dev.cipherEntry_mask]; done) | split | (dsimp only; split) | rfl)
theorem execClearSlot_frame {T : Nat} (hT : subParts 844424974836262 T = true) {s : State} {t : State} (h : execClearSlot s = .next t) :
    t.dev.mask T = s.dev.mask T ∧ t.pending = s.pending := by
  refine State.become_frame h (Dev.mask_mono (a := 844424974836262) ?_ hT)
  repeat' (first | with_reducible rfl | (simp (disch := first | decide | (intros; (repeat' (first | with_reducible rfl | (simp (disch := decide) only [Dev.mask_ite, ite_self, Dev.opClear_mask, Dev.portExec_mask]; done) | split | (dsimp only; split))))) only [Dev.mask_foldl, Dev.mask_ite, ite_self, Dev.opClear_mask, Dev.portExec_mask]; done) | split | (dsimp only; split) | rfl)
theorem execCmdTimeout_frame {T : Nat} (hT : subParts 443298327437712171558 T = true) {wire : Nat} {s : State} {t : State} (h : execCmdTimeout wire s = .next t) :
    t.dev.mask T = s.dev.mask T ∧ t.pending = s.pending := by
  refine State.become_frame h (Dev.mask_mono (a := 443298327437712171558) ?_ hT)
  repeat' (first | with_reducible rfl | (simp (disch := decide) only [Dev.mask_ite, ite_self, Dev.timeoutWire_mask]; done) | split | (dsimp only; split) | rfl)
theorem execCntPreset_frame {T : Nat} (hT : subParts 35791398 T = true) {s : State} {t : State} (h : execCntPreset s = .next t) :
    t.dev.mask T = s.dev.mask T ∧ t.pending = s.pending := by
  refine State.become_frame h (Dev.mask_mono (a := 35791398) ?_ hT)
  repeat' (first | with_reducible rfl | (simp (disch := first | decide | (intros; (repeat' (first | with_reducible rfl | (simp (disch := decide) only [Dev.mask_ite, ite_self, Dev.gsetWords_mask, Dev.portExec_mask]; done) | split | (dsimp only; split))))) only [Dev.mask_foldl, Dev.mask_ite, ite_self, Dev.gsetWords_mask, Dev.portExec_mask]; done) | split | (dsimp only; split) | rfl)
theorem execCntRead_frame {T : Nat} (hT : subParts 35791366 T = true) {s : State} {t : State} (h : execCntRead s = .next t) :
    t.dev.mask T = s.dev.mask T ∧ t.pending = s.pending := by
  refine State.become_frame h (Dev.mask_mono (a := 35791366) ?_ hT)
  repeat' (first | with_reducible rfl | (simp (disch := first | decide | (intros; (repeat' (first | with_reducible rfl | (simp (disch := decide) only [Dev.mask_ite, ite_self, Dev.actgResult_mask, Dev.portExec_mask]; done) | split | (dsimp only; split))))) only [Dev.mask_foldl, Dev.mask_ite, ite_self, Dev.actgResult_mask, Dev.portExec_mask]; done) | split | (dsimp only; split) | rfl)
theorem execCntReadClear_frame {T : Nat} (hT : subParts 35791398 T = true) {s : State} {t : State} (h : execCntReadClear s = .next t) :
    t.dev.mask T = s.dev.mask T ∧ t.pending = s.pending := by
  refine State.become_frame h (Dev.mask_mono (a := 35791398) ?_ hT)
  repeat' (first | with_reducible rfl | (simp (disch := first | decide | (intros; (repeat' (first | with_reducible rfl | (simp (disch := decide) only [Dev.mask_ite, ite_self, Dev.actgResult_mask, Dev.gsetWords_mask, Dev.portExec_mask]; done) | split | (dsimp only; split))))) only [Dev.mask_foldl, Dev.mask_ite, ite_self, Dev.actgResult_mask, Dev.gsetWords_mask, Dev.portExec_mask]; done) | split | (dsimp only; split) | rfl)
theorem execCompareAndClear_frame {T : Nat} (hT : subParts 43628621401301542 T = true) {s : State} {t : State} (h : execCompareAndClear s = .next t) :
    t.dev.mask T = s.dev.mask T ∧ t.pending = s.pending := by
  refine State.become_frame h (Dev.mask_mono (a := 43628621401301542) ?_ hT)
  repeat' (first | with_reducible rfl | (simp (disch := decide) only [Dev.mask_ite, ite_self, Dev.compareClear_mask]; done) | split | (dsimp only; split) | rfl)
theorem execCompletionTimeout_frame {T : Nat} (hT : subParts 443298327437712187942 T = true) {port : Nat} {target : ReadTarget} {s : State} {t : State} (h : execCompletionTimeout port target s = .next t) :
    t.dev.mask T = s.dev.mask T ∧ t.pending = s.pending := by
  refine State.become_frame h (Dev.mask_mono (a := 443298327437712187942) ?_ hT)
  repeat' (first | with_reducible rfl | (simp (disch := decide) only [Dev.mask_ite, ite_self, Dev.readTimeout_mask]; done) | split | (dsimp only; split) | rfl)
theorem execCompletionWrite_frame {T : Nat} (hT : subParts 36893725659142169510 T = true) {queue : Nat} {s : State} {t : State} (h : execCompletionWrite queue s = .next t) :
    t.dev.mask T = s.dev.mask T ∧ t.pending = s.pending := by
  refine State.become_frame h (Dev.mask_mono (a := 36893725659142169510) ?_ hT)
  repeat' (first | with_reducible rfl | (simp (disch := decide) only [Dev.mask_ite, ite_self, Dev.writeCompletion_mask]; done) | split | (dsimp only; split) | rfl)
theorem execContextParityError_frame {T : Nat} (hT : subParts 36893711368960287238 T = true) {ctx : Nat} {s : State} {t : State} (h : execContextParityError ctx s = .next t) :
    t.dev.mask T = s.dev.mask T ∧ t.pending = s.pending := by
  refine State.become_frame h (Dev.mask_mono (a := 36893711368960287238) ?_ hT)
  repeat' (first | with_reducible rfl | (simp (disch := decide) only [Dev.mask_ite, ite_self, Dev.ctxParity_mask]; done) | split | (dsimp only; split) | rfl)
theorem execCopyEnqueue_frame {T : Nat} (hT : subParts 43811254686762279430 T = true) {copy : Nat} {s : State} {t : State} (h : execCopyEnqueue copy s = .next t) :
    t.dev.mask T = s.dev.mask T ∧ t.pending = s.pending := by
  refine State.become_frame h (Dev.mask_mono (a := 43811254686762279430) ?_ hT)
  repeat' (first | with_reducible rfl | (simp (disch := decide) only [Dev.mask_ite, ite_self, Dev.enqueueCopy_mask]; done) | split | (dsimp only; split) | rfl)
theorem execCounterReadClear_frame {T : Nat} (hT : subParts 737869762948384301590 T = true) {req : Requester} {addr : Nat} {be : BitVec 4} {s : State} {t : State} (h : execCounterReadClear req addr be s = .next t) :
    t.dev.mask T = s.dev.mask T ∧ t.pending = s.pending := by
  refine State.become_frame h (Dev.mask_mono (a := 737869762948384301590) ?_ hT)
  repeat' (first | with_reducible rfl | (simp (disch := decide) only [Dev.mask_ite, ite_self, Dev.answerRead_mask]; done) | split | (dsimp only; split) | rfl)
theorem execCounterUpdate_frame {T : Nat} (hT : subParts 1152921504609083942 T = true) {lane : Nat} {s : State} {t : State} (h : execCounterUpdate lane s = .next t) :
    t.dev.mask T = s.dev.mask T ∧ t.pending = s.pending := by
  refine State.become_frame h (Dev.mask_mono (a := 1152921504609083942) ?_ hT)
  repeat' (first | with_reducible rfl | (simp (disch := decide) only [Dev.mask_ite, ite_self, Dev.counterStep_mask]; done) | split | (dsimp only; split) | rfl)
theorem execCpxBistEnd_frame {T : Nat} (hT : subParts 2236934 T = true) {pair : Nat} {pass : Bool} {s : State} {t : State} (h : execCpxBistEnd pair pass s = .next t) :
    t.dev.mask T = s.dev.mask T ∧ t.pending = s.pending := by
  refine State.become_frame h (Dev.mask_mono (a := 2236934) ?_ hT)
  repeat' (first | with_reducible rfl | (simp (disch := decide) only [Dev.mask_ite, ite_self, Dev.cpxBist_mask]; done) | split | (dsimp only; split) | rfl)
theorem execCpxMismatch_frame {T : Nat} (hT : subParts 2302470 T = true) {pair : Nat} {s : State} {t : State} (h : execCpxMismatch pair s = .next t) :
    t.dev.mask T = s.dev.mask T ∧ t.pending = s.pending := by
  refine State.become_frame h (Dev.mask_mono (a := 2302470) ?_ hT)
  repeat' (first | with_reducible rfl | (simp (disch := decide) only [Dev.mask_ite, ite_self, Dev.cpxMismatch_mask]; done) | split | (dsimp only; split) | rfl)
theorem execCpxReturn_frame {T : Nat} (hT : subParts 2236934 T = true) {req : Requester} {pair : Nat} {s : State} {t : State} (h : execCpxReturn req pair s = .next t) :
    t.dev.mask T = s.dev.mask T ∧ t.pending = s.pending := by
  refine State.become_frame h (Dev.mask_mono (a := 2236934) ?_ hT)
  repeat' (first | with_reducible rfl | (simp (disch := first | decide | (intros; (repeat' (first | with_reducible rfl | (simp (disch := decide) only [Dev.mask_ite, ite_self, Dev.cpxReturn_mask, Dev.onWrite_mask]; done) | split | (dsimp only; split))))) only [Dev.mask_foldl, Dev.mask_ite, ite_self, Dev.cpxReturn_mask, Dev.onWrite_mask]; done) | split | (dsimp only; split) | rfl)
theorem execCqCiDoorbell_frame {T : Nat} (hT : subParts 405828607133329007142 T = true) {port queue : Nat} {owner : Option Nat} {value : BitVec 17} {s : State} {t : State} (h : execCqCiDoorbell port queue owner value s = .next t) :
    t.dev.mask T = s.dev.mask T ∧ t.pending = s.pending := by
  refine State.become_frame h (Dev.mask_mono (a := 405828607133329007142) ?_ hT)
  repeat' (first | with_reducible rfl | (simp (disch := decide) only [Dev.mask_ite, ite_self, Dev.doorbellWrite_mask]; done) | split | (dsimp only; split) | rfl)
theorem execCrossingParityError_frame {T : Nat} (hT : subParts 507862160394114785830 T = true) {page sender : Nat} {retryGood : Bool} {s : State} {t : State} (h : execCrossingParityError page sender retryGood s = .next t) :
    t.dev.mask T = s.dev.mask T ∧ t.pending = s.pending := by
  refine State.become_frame h (Dev.mask_mono (a := 507862160394114785830) ?_ hT)
  repeat' (first | with_reducible rfl | (simp (disch := decide) only [Dev.mask_ite, ite_self, Dev.crossingError_mask]; done) | split | (dsimp only; split) | rfl)
theorem execCuradd_frame {T : Nat} (hT : subParts 36893711366275342854 T = true) {core : Nat} {s : State} {t : State} (h : execCuradd core s = .next t) :
    t.dev.mask T = s.dev.mask T ∧ t.pending = s.pending := by
  refine State.become_frame h (Dev.mask_mono (a := 36893711366275342854) ?_ hT)
  repeat' (first | with_reducible rfl | (simp (disch := decide) only [Dev.mask_ite, ite_self, Dev.issue_mask]; done) | split | (dsimp only; split) | rfl)
theorem execCurget_frame {T : Nat} (hT : subParts 36893711366275342854 T = true) {core : Nat} {s : State} {t : State} (h : execCurget core s = .next t) :
    t.dev.mask T = s.dev.mask T ∧ t.pending = s.pending := by
  refine State.become_frame h (Dev.mask_mono (a := 36893711366275342854) ?_ hT)
  repeat' (first | with_reducible rfl | (simp (disch := decide) only [Dev.mask_ite, ite_self, Dev.issue_mask]; done) | split | (dsimp only; split) | rfl)
theorem execCurset_frame {T : Nat} (hT : subParts 36893711366275342854 T = true) {core : Nat} {s : State} {t : State} (h : execCurset core s = .next t) :
    t.dev.mask T = s.dev.mask T ∧ t.pending = s.pending := by
  refine State.become_frame h (Dev.mask_mono (a := 36893711366275342854) ?_ hT)
  repeat' (first | with_reducible rfl | (simp (disch := decide) only [Dev.mask_ite, ite_self, Dev.issue_mask]; done) | split | (dsimp only; split) | rfl)
theorem execDcinv_frame {T : Nat} (hT : subParts 1048576 T = true) {pair addr len : Nat} {s : State} {t : State} (h : execDcinv pair addr len s = .next t) :
    t.dev.mask T = s.dev.mask T ∧ t.pending = s.pending := by
  refine State.become_frame h (Dev.mask_mono (a := 1048576) ?_ hT)
  repeat' (first | with_reducible rfl | (simp (disch := decide) only [Dev.mask_ite, ite_self, Dev.invalidateLines_mask]; done) | split | (dsimp only; split) | rfl)
theorem execDelete_frame {T : Nat} (hT : subParts 844424974836262 T = true) {s : State} {t : State} (h : execDelete s = .next t) :
    t.dev.mask T = s.dev.mask T ∧ t.pending = s.pending := by
  refine State.become_frame h (Dev.mask_mono (a := 844424974836262) ?_ hT)
  repeat' (first | with_reducible rfl | (simp (disch := first | decide | (intros; (repeat' (first | with_reducible rfl | (simp (disch := decide) only [Dev.mask_ite, ite_self, Dev.opDelete_mask, Dev.portExec_mask]; done) | split | (dsimp only; split))))) only [Dev.mask_foldl, Dev.mask_ite, ite_self, Dev.opDelete_mask, Dev.portExec_mask]; done) | split | (dsimp only; split) | rfl)
theorem execDescriptorFetch_frame {T : Nat} (hT : subParts 2253318 T = true) {mover : Nat} {s : State} {t : State} (h : execDescriptorFetch mover s = .next t) :
    t.dev.mask T = s.dev.mask T ∧ t.pending = s.pending := by
  refine State.become_frame h (Dev.mask_mono (a := 2253318) ?_ hT)
  repeat' (first | with_reducible rfl | (simp (disch := decide) only [Dev.mask_ite, ite_self, Dev.fetchDescriptor_mask]; done) | split | (dsimp only; split) | rfl)
theorem execDeviceReset_frame {T : Nat} (hT : subParts 2361183241434822599294 T = true) {req : Requester} {confirm : BitVec 16} {s : State} {t : State} (h : execDeviceReset req confirm s = .next t) :
    t.dev.mask T = s.dev.mask T ∧ t.pending = s.pending := by
  refine State.become_frame h (Dev.mask_mono (a := 2361183241434822599294) ?_ hT)
  repeat' (first | with_reducible rfl | (simp (disch := first | decide | (intros; (repeat' (first | with_reducible rfl | (simp (disch := decide) only [Dev.mask_ite, ite_self, Dev.deviceReset_mask, Dev.onWrite_mask]; done) | split | (dsimp only; split))))) only [Dev.mask_foldl, Dev.mask_ite, ite_self, Dev.deviceReset_mask, Dev.onWrite_mask]; done) | split | (dsimp only; split) | rfl)
theorem execDisp_frame {T : Nat} (hT : subParts 36893711366275342854 T = true) {core : Nat} {s : State} {t : State} (h : execDisp core s = .next t) :
    t.dev.mask T = s.dev.mask T ∧ t.pending = s.pending := by
  refine State.become_frame h (Dev.mask_mono (a := 36893711366275342854) ?_ hT)
  repeat' (first | with_reducible rfl | (simp (disch := decide) only [Dev.mask_ite, ite_self, Dev.issue_mask]; done) | split | (dsimp only; split) | rfl)
theorem execDmat_frame {T : Nat} (hT : subParts 36893711366275342854 T = true) {core : Nat} {s : State} {t : State} (h : execDmat core s = .next t) :
    t.dev.mask T = s.dev.mask T ∧ t.pending = s.pending := by
  refine State.become_frame h (Dev.mask_mono (a := 36893711366275342854) ?_ hT)
  repeat' (first | with_reducible rfl | (simp (disch := decide) only [Dev.mask_ite, ite_self, Dev.issue_mask]; done) | split | (dsimp only; split) | rfl)
theorem execDone_frame {T : Nat} (hT : subParts 36893711366275342854 T = true) {core : Nat} {s : State} {t : State} (h : execDone core s = .next t) :
    t.dev.mask T = s.dev.mask T ∧ t.pending = s.pending := by
  refine State.become_frame h (Dev.mask_mono (a := 36893711366275342854) ?_ hT)
  repeat' (first | with_reducible rfl | (simp (disch := decide) only [Dev.mask_ite, ite_self, Dev.issue_mask]; done) | split | (dsimp only; split) | rfl)
theorem execDoorbellRead_frame {T : Nat} (hT : subParts 512 T = true) {port queue : Nat} {owner : Option Nat} {s : State} {t : State} (h : execDoorbellRead port queue owner s = .next t) :
    t.dev.mask T = s.dev.mask T ∧ t.pending = s.pending := by
  refine State.become_frame h (Dev.mask_mono (a := 512) ?_ hT)
  repeat' (first | with_reducible rfl | (simp (disch := decide) only [Dev.mask_ite, ite_self, Dev.emit_mask]; done) | split | (dsimp only; split) | rfl)
theorem execDozeDemand_frame {T : Nat} (hT : subParts 2236934 T = true) {addr : Nat} {s : State} {t : State} (h : execDozeDemand addr s = .next t) :
    t.dev.mask T = s.dev.mask T ∧ t.pending = s.pending := by
  refine State.become_frame h (Dev.mask_mono (a := 2236934) ?_ hT)
  repeat' (first | with_reducible rfl | (simp (disch := decide) only [Dev.mask_ite, ite_self, Dev.demand_mask]; done) | split | (dsimp only; split) | rfl)
theorem execDrbgReseed_frame {T : Nat} (hT : subParts 73786976294840443398 T = true) {unit generator : Nat} {seeded : Bool} {s : State} {t : State} (h : execDrbgReseed unit generator seeded s = .next t) :
    t.dev.mask T = s.dev.mask T ∧ t.pending = s.pending := by
  refine State.become_frame h (Dev.mask_mono (a := 73786976294840443398) ?_ hT)
  repeat' (first | with_reducible rfl | (simp (disch := decide) only [Dev.mask_ite, ite_self, Dev.reseed_mask]; done) | split | (dsimp only; split) | rfl)
theorem execEmProbe_frame {T : Nat} (hT : subParts 18014415691589126 T = true) {packet probe : Nat} {s : State} {t : State} (h : execEmProbe packet probe s = .next t) :
    t.dev.mask T = s.dev.mask T ∧ t.pending = s.pending := by
  refine State.become_frame h (Dev.mask_mono (a := 18014415691589126) ?_ hT)
  repeat' (first | with_reducible rfl | (simp (disch := decide) only [Dev.mask_ite, ite_self, Dev.runProbe_mask]; done) | split | (dsimp only; split) | rfl)
theorem execEmit_frame {T : Nat} (hT : subParts 36893711366275342854 T = true) {core : Nat} {s : State} {t : State} (h : execEmit core s = .next t) :
    t.dev.mask T = s.dev.mask T ∧ t.pending = s.pending := by
  refine State.become_frame h (Dev.mask_mono (a := 36893711366275342854) ?_ hT)
  repeat' (first | with_reducible rfl | (simp (disch := decide) only [Dev.mask_ite, ite_self, Dev.issue_mask]; done) | split | (dsimp only; split) | rfl)
theorem execEmitw_frame {T : Nat} (hT : subParts 36893711366275342854 T = true) {core : Nat} {s : State} {t : State} (h : execEmitw core s = .next t) :
    t.dev.mask T = s.dev.mask T ∧ t.pending = s.pending := by
  refine State.become_frame h (Dev.mask_mono (a := 36893711366275342854) ?_ hT)
  repeat' (first | with_reducible rfl | (simp (disch := decide) only [Dev.mask_ite, ite_self, Dev.issue_mask]; done) | split | (dsimp only; split) | rfl)
theorem execEndSession_frame {T : Nat} (hT : subParts 1180591620717411303936 T = true) {session : Nat} {s : State} {t : State} (h : execEndSession session s = .next t) :
    t.dev.mask T = s.dev.mask T ∧ t.pending = s.pending := by
  refine State.become_frame h (Dev.mask_mono (a := 1180591620717411303936) ?_ hT)
  repeat' (first | with_reducible rfl | (simp (disch := first | decide | (intros; (repeat' (first | with_reducible rfl | (simp (disch := decide) only [Dev.mask_ite, ite_self, Dev.endSession_mask, Dev.established_mask, Dev.sealedAnswer_mask]; done) | split | (dsimp only; split))))) only [Dev.mask_foldl, Dev.mask_ite, ite_self, Dev.endSession_mask, Dev.established_mask, Dev.sealedAnswer_mask]; done) | split | (dsimp only; split) | rfl)
theorem execEntryFetch_frame {T : Nat} (hT : subParts 27402790 T = true) {queue : Nat} {answer : HostAnswer} {s : State} {t : State} (h : execEntryFetch queue answer s = .next t) :
    t.dev.mask T = s.dev.mask T ∧ t.pending = s.pending := by
  refine State.become_frame h (Dev.mask_mono (a := 27402790) ?_ hT)
  repeat' (first | with_reducible rfl | (simp (disch := decide) only [Dev.mask_ite, ite_self, Dev.fetchEntry_mask]; done) | split | (dsimp only; split) | rfl)
theorem execEpochAdvance_frame {T : Nat} (hT : subParts 216172782116020742 T = true) {s : State} {t : State} (h : execEpochAdvance s = .next t) :
    t.dev.mask T = s.dev.mask T ∧ t.pending = s.pending := by
  refine State.become_frame h (Dev.mask_mono (a := 216172782116020742) ?_ hT)
  repeat' (first | with_reducible rfl | (simp (disch := decide) only [Dev.mask_ite, ite_self, Dev.advanceEpoch_mask]; done) | split | (dsimp only; split) | rfl)
theorem execEventSourceAssert_frame {T : Nat} (hT : subParts 2236934 T = true) {source : Nat} {s : State} {t : State} (h : execEventSourceAssert source s = .next t) :
    t.dev.mask T = s.dev.mask T ∧ t.pending = s.pending := by
  refine State.become_frame h (Dev.mask_mono (a := 2236934) ?_ hT)
  repeat' (first | with_reducible rfl | (simp (disch := decide) only [Dev.mask_ite, ite_self, Dev.pulse_mask, Dev.refreshLevel_mask]; done) | split | (dsimp only; split) | rfl)
theorem execExceptionDelivery_frame {T : Nat} (hT : subParts 36893710265958408710 T = true) {s : State} {t : State} (h : execExceptionDelivery s = .next t) :
    t.dev.mask T = s.dev.mask T ∧ t.pending = s.pending := by
  refine State.become_frame h (Dev.mask_mono (a := 36893710265958408710) ?_ hT)
  repeat' (first | with_reducible rfl | (simp (disch := decide) only [Dev.mask_ite, ite_self, Dev.offerException_mask]; done) | split | (dsimp only; split) | rfl)
theorem execExitStepTimeout_frame {T : Nat} (hT : subParts 2236934 T = true) {step unit : Nat} {s : State} {t : State} (h : execExitStepTimeout step unit s = .next t) :
    t.dev.mask T = s.dev.mask T ∧ t.pending = s.pending := by
  refine State.become_frame h (Dev.mask_mono (a := 2236934) ?_ hT)
  repeat' (first | with_reducible rfl | (simp (disch := decide) only [Dev.mask_ite, ite_self, Dev.exitTimeout_mask]; done) | split | (dsimp only; split) | rfl)
theorem execExt_frame {T : Nat} (hT : subParts 36893711366275342854 T = true) {core : Nat} {s : State} {t : State} (h : execExt core s = .next t) :
    t.dev.mask T = s.dev.mask T ∧ t.pending = s.pending := by
  refine State.become_frame h (Dev.mask_mono (a := 36893711366275342854) ?_ hT)
  repeat' (first | with_reducible rfl | (simp (disch := decide) only [Dev.mask_ite, ite_self, Dev.issue_mask]; done) | split | (dsimp only; split) | rfl)
theorem execExtw_frame {T : Nat} (hT : subParts 36893711366275342854 T = true) {core : Nat} {s : State} {t : State} (h : execExtw core s = .next t) :
    t.dev.mask T = s.dev.mask T ∧ t.pending = s.pending := by
  refine State.become_frame h (Dev.mask_mono (a := 36893711366275342854) ?_ hT)
  repeat' (first | with_reducible rfl | (simp (disch := decide) only [Dev.mask_ite, ite_self, Dev.issue_mask]; done) | split | (dsimp only; split) | rfl)
theorem execFaultSequenceReceive_frame {T : Nat} (hT : subParts 46117097695975973382 T = true) {mac : Nat} {localFault remoteFault : Bool} {s : State} {t : State} (h : execFaultSequenceReceive mac localFault remoteFault s = .next t) :
    t.dev.mask T = s.dev.mask T ∧ t.pending = s.pending := by
  refine State.become_frame h (Dev.mask_mono (a := 46117097695975973382) ?_ hT)
  repeat' (first | with_reducible rfl | (simp (disch := first | decide | (intros; (repeat' (first | with_reducible rfl | (simp (disch := decide) only [Dev.mask_ite, ite_self, Dev.fset_mask, Dev.moveLink_mask, Dev.withSignal_mask]; done) | split | (dsimp only; split))))) only [Dev.mask_foldl, Dev.mask_ite, ite_self, Dev.fset_mask, Dev.moveLink_mask, Dev.withSignal_mask]; done) | split | (dsimp only; split) | rfl)
theorem execFclr_frame {T : Nat} (hT : subParts 36893711366275342854 T = true) {core : Nat} {s : State} {t : State} (h : execFclr core s = .next t) :
    t.dev.mask T = s.dev.mask T ∧ t.pending = s.pending := by
  refine State.become_frame h (Dev.mask_mono (a := 36893711366275342854) ?_ hT)
  repeat' (first | with_reducible rfl | (simp (disch := decide) only [Dev.mask_ite, ite_self, Dev.issue_mask]; done) | split | (dsimp only; split) | rfl)
theorem execFecDegradeWindow_frame {T : Nat} (hT : subParts 9223372036857012742 T = true) {mac corrected uncorrectable symbols : Nat} {s : State} {t : State} (h : execFecDegradeWindow mac corrected uncorrectable symbols s = .next t) :
    t.dev.mask T = s.dev.mask T ∧ t.pending = s.pending := by
  refine State.become_frame h (Dev.mask_mono (a := 9223372036857012742) ?_ hT)
  repeat' (first | with_reducible rfl | (simp (disch := decide) only [Dev.mask_ite, ite_self, Dev.fecWindow_mask]; done) | split | (dsimp only; split) | rfl)
theorem execFeedGood_frame {T : Nat} (hT : subParts 131072 T = true) {feed : Nat} {s : State} {t : State} (h : execFeedGood feed s = .next t) :
    t.dev.mask T = s.dev.mask T ∧ t.pending = s.pending := by
  refine State.become_frame h (Dev.mask_mono (a := 131072) ?_ hT)
  repeat' (first | with_reducible rfl | (simp (disch := decide) only [Dev.mask_ite, ite_self, Dev.feedGood_mask]; done) | split | (dsimp only; split) | rfl)
theorem execFeedLost_frame {T : Nat} (hT : subParts 2302470 T = true) {feed : Nat} {s : State} {t : State} (h : execFeedLost feed s = .next t) :
    t.dev.mask T = s.dev.mask T ∧ t.pending = s.pending := by
  refine State.become_frame h (Dev.mask_mono (a := 2302470) ?_ hT)
  repeat' (first | with_reducible rfl | (simp (disch := decide) only [Dev.mask_ite, ite_self, Dev.feedLost_mask]; done) | split | (dsimp only; split) | rfl)
theorem execFence_frame {T : Nat} (hT : subParts 3179492 T = true) {pair : Nat} {s : State} {t : State} (h : execFence pair s = .next t) :
    t.dev.mask T = s.dev.mask T ∧ t.pending = s.pending := by
  refine State.become_frame h (Dev.mask_mono (a := 3179492) ?_ hT)
  repeat' (first | with_reducible rfl | (simp (disch := decide) only [Dev.mask_ite, ite_self, Dev.drainPair_mask]; done) | split | (dsimp only; split) | rfl)
theorem execFinish_frame {T : Nat} (hT : subParts 1180591620717411303936 T = true) {session : Nat} {good : Bool} {s : State} {t : State} (h : execFinish session good s = .next t) :
    t.dev.mask T = s.dev.mask T ∧ t.pending = s.pending := by
  refine State.become_frame h (Dev.mask_mono (a := 1180591620717411303936) ?_ hT)
  repeat' (first | with_reducible rfl | (simp (disch := first | decide | (intros; (repeat' (first | with_reducible rfl | (simp (disch := decide) only [Dev.mask_ite, ite_self, Dev.endSession_mask, Dev.inSession_mask, Dev.sealedAnswer_mask, Dev.setSpdmSession_mask, Dev.spdmError_mask]; done) | split | (dsimp only; split))))) only [Dev.mask_foldl, Dev.mask_ite, ite_self, Dev.endSession_mask, Dev.inSession_mask, Dev.sealedAnswer_mask, Dev.setSpdmSession_mask, Dev.spdmError_mask]; done) | split | (dsimp only; split) | rfl)
theorem execFlipCheck_frame {T : Nat} (hT : subParts 8592171526 T = true) {s : State} {t : State} (h : execFlipCheck s = .next t) :
    t.dev.mask T = s.dev.mask T ∧ t.pending = s.pending := by
  refine State.become_frame h (Dev.mask_mono (a := 8592171526) ?_ hT)
  repeat' (first | with_reducible rfl | (simp (disch := decide) only [Dev.mask_ite, ite_self, Dev.checkFlip_mask]; done) | split | (dsimp only; split) | rfl)
theorem execFlipRequest_frame {T : Nat} (hT : subParts 8592171526 T = true) {req : Requester} {s : State} {t : State} (h : execFlipRequest req s = .next t) :
    t.dev.mask T = s.dev.mask T ∧ t.pending = s.pending := by
  refine State.become_frame h (Dev.mask_mono (a := 8592171526) ?_ hT)
  repeat' (first | with_reducible rfl | (simp (disch := first | decide | (intros; (repeat' (first | with_reducible rfl | (simp (disch := decide) only [Dev.mask_ite, ite_self, Dev.onWrite_mask, Dev.requestFlip_mask]; done) | split | (dsimp only; split))))) only [Dev.mask_foldl, Dev.mask_ite, ite_self, Dev.onWrite_mask, Dev.requestFlip_mask]; done) | split | (dsimp only; split) | rfl)
theorem execFlowControlFrameSend_frame {T : Nat} (hT : subParts 9223372036854776320 T = true) {mac : Nat} {s : State} {t : State} (h : execFlowControlFrameSend mac s = .next t) :
    t.dev.mask T = s.dev.mask T ∧ t.pending = s.pending := by
  refine State.become_frame h (Dev.mask_mono (a := 9223372036854776320) ?_ hT)
  repeat' (first | with_reducible rfl | (simp (disch := decide) only [Dev.mask_ite, ite_self, Dev.sendFlowControl_mask]; done) | split | (dsimp only; split) | rfl)
theorem execFlush_frame {T : Nat} (hT : subParts 295147913975473250822 T = true) {queue : Nat} {s : State} {t : State} (h : execFlush queue s = .next t) :
    t.dev.mask T = s.dev.mask T ∧ t.pending = s.pending := by
  refine State.become_frame h (Dev.mask_mono (a := 295147913975473250822) ?_ hT)
  repeat' (first | with_reducible rfl | (simp (disch := decide) only [Dev.mask_ite, ite_self, Dev.takeStorage_mask]; done) | split | (dsimp only; split) | rfl)
theorem execFrameArrival_frame {T : Nat} (hT : subParts 9223521621977997830 T = true) {mac : Nat} {head : List Byte} {s : State} {t : State} (h : execFrameArrival mac head s = .next t) :
    t.dev.mask T = s.dev.mask T ∧ t.pending = s.pending := by
  refine State.become_frame h (Dev.mask_mono (a := 9223521621977997830) ?_ hT)
  repeat' (first | with_reducible rfl | (simp (disch := decide) only [Dev.mask_ite, ite_self, Dev.arriveFrame_mask]; done) | split | (dsimp only; split) | rfl)
theorem execFramePlacement_frame {T : Nat} (hT : subParts 332041630838490801030 T = true) {queue : Nat} {s : State} {t : State} (h : execFramePlacement queue s = .next t) :
    t.dev.mask T = s.dev.mask T ∧ t.pending = s.pending := by
  refine State.become_frame h (Dev.mask_mono (a := 332041630838490801030) ?_ hT)
  repeat' (first | with_reducible rfl | (simp (disch := decide) only [Dev.mask_ite, ite_self, Dev.placeFrame_mask]; done) | split | (dsimp only; split) | rfl)
theorem execFrameReceiveEnd_frame {T : Nat} (hT : subParts 46117097902134403590 T = true) {mac : Nat} {bytes : List Byte} {codeError : Bool} {s : State} {t : State} (h : execFrameReceiveEnd mac bytes codeError s = .next t) :
    t.dev.mask T = s.dev.mask T ∧ t.pending = s.pending := by
  refine State.become_frame h (Dev.mask_mono (a := 46117097902134403590) ?_ hT)
  repeat' (first | with_reducible rfl | (simp (disch := decide) only [Dev.mask_ite, ite_self, Dev.endFrame_mask]; done) | split | (dsimp only; split) | rfl)
theorem execFrameTransmitEnd_frame {T : Nat} (hT : subParts 46117097695975973382 T = true) {mac : Nat} {s : State} {t : State} (h : execFrameTransmitEnd mac s = .next t) :
    t.dev.mask T = s.dev.mask T ∧ t.pending = s.pending := by
  refine State.become_frame h (Dev.mask_mono (a := 46117097695975973382) ?_ hT)
  repeat' (first | with_reducible rfl | (simp (disch := decide) only [Dev.mask_ite, ite_self, Dev.endTransmit_mask]; done) | split | (dsimp only; split) | rfl)
theorem execFrameTransmitStart_frame {T : Nat} (hT : subParts 46117097695975973382 T = true) {mac : Nat} {s : State} {t : State} (h : execFrameTransmitStart mac s = .next t) :
    t.dev.mask T = s.dev.mask T ∧ t.pending = s.pending := by
  refine State.become_frame h (Dev.mask_mono (a := 46117097695975973382) ?_ hT)
  repeat' (first | with_reducible rfl | (simp (disch := decide) only [Dev.mask_ite, ite_self, Dev.startTransmit_mask]; done) | split | (dsimp only; split) | rfl)
theorem execFset_frame {T : Nat} (hT : subParts 36893711366275342854 T = true) {core : Nat} {s : State} {t : State} (h : execFset core s = .next t) :
    t.dev.mask T = s.dev.mask T ∧ t.pending = s.pending := by
  refine State.become_frame h (Dev.mask_mono (a := 36893711366275342854) ?_ hT)
  repeat' (first | with_reducible rfl | (simp (disch := decide) only [Dev.mask_ite, ite_self, Dev.issue_mask]; done) | split | (dsimp only; split) | rfl)
theorem execFunctionLevelReset_frame {T : Nat} (hT : subParts 332041630838490800678 T = true) {port pf : Nat} {s : State} {t : State} (h : execFunctionLevelReset port pf s = .next t) :
    t.dev.mask T = s.dev.mask T ∧ t.pending = s.pending := by
  refine State.become_frame h (Dev.mask_mono (a := 332041630838490800678) ?_ hT)
  repeat' (first | with_reducible rfl | (simp (disch := decide) only [Dev.mask_ite, ite_self, Dev.resetFunction_mask]; done) | split | (dsimp only; split) | rfl)
theorem execFwReady_frame {T : Nat} (hT : subParts 931560813234039235134 T = true) {result : Nat} {failed : List Nat} {s : State} {t : State} (h : execFwReady result failed s = .next t) :
    t.dev.mask T = s.dev.mask T ∧ t.pending = s.pending := by
  refine State.become_frame h (Dev.mask_mono (a := 931560813234039235134) ?_ hT)
  repeat' (first | with_reducible rfl | (simp (disch := decide) only [Dev.mask_ite, ite_self, Dev.fwReady_mask]; done) | split | (dsimp only; split) | rfl)
theorem execGddrBurstRebuild_frame {T : Nat} (hT : subParts 2826758 T = true) {device addr : Nat} {s : State} {t : State} (h : execGddrBurstRebuild device addr s = .next t) :
    t.dev.mask T = s.dev.mask T ∧ t.pending = s.pending := by
  refine State.become_frame h (Dev.mask_mono (a := 2826758) ?_ hT)
  repeat' (first | with_reducible rfl | (simp (disch := decide) only [Dev.mask_ite, ite_self, Dev.rebuildBurst_mask]; done) | split | (dsimp only; split) | rfl)
theorem execGetCapabilities_frame {T : Nat} (hT : subParts 1180591620717411303936 T = true) {via : Transport} {s : State} {t : State} (h : execGetCapabilities via s = .next t) :
    t.dev.mask T = s.dev.mask T ∧ t.pending = s.pending := by
  refine State.become_frame h (Dev.mask_mono (a := 1180591620717411303936) ?_ hT)
  repeat' (first | with_reducible rfl | (simp (disch := first | decide | (intros; (repeat' (first | with_reducible rfl | (simp (disch := decide) only [Dev.mask_ite, ite_self, Dev.setNegotiated_mask, Dev.spdmAnswer_mask, Dev.spdmServe_mask]; done) | split | (dsimp only; split))))) only [Dev.mask_foldl, Dev.mask_ite, ite_self, Dev.setNegotiated_mask, Dev.spdmAnswer_mask, Dev.spdmServe_mask]; done) | split | (dsimp only; split) | rfl)
theorem execGetCertificate_frame {T : Nat} (hT : subParts 1180591620717411303936 T = true) {via : Transport} {slot offset length : Nat} {s : State} {t : State} (h : execGetCertificate via slot offset length s = .next t) :
    t.dev.mask T = s.dev.mask T ∧ t.pending = s.pending := by
  refine State.become_frame h (Dev.mask_mono (a := 1180591620717411303936) ?_ hT)
  repeat' (first | with_reducible rfl | (simp (disch := first | decide | (intros; (repeat' (first | with_reducible rfl | (simp (disch := decide) only [Dev.mask_ite, ite_self, Dev.spdmAnswer_mask, Dev.spdmError_mask, Dev.spdmServe_mask]; done) | split | (dsimp only; split))))) only [Dev.mask_foldl, Dev.mask_ite, ite_self, Dev.spdmAnswer_mask, Dev.spdmError_mask, Dev.spdmServe_mask]; done) | split | (dsimp only; split) | rfl)
theorem execGetDigests_frame {T : Nat} (hT : subParts 1180591620717411303936 T = true) {via : Transport} {s : State} {t : State} (h : execGetDigests via s = .next t) :
    t.dev.mask T = s.dev.mask T ∧ t.pending = s.pending := by
  refine State.become_frame h (Dev.mask_mono (a := 1180591620717411303936) ?_ hT)
  repeat' (first | with_reducible rfl | (simp (disch := first | decide | (intros; (repeat' (first | with_reducible rfl | (simp (disch := decide) only [Dev.mask_ite, ite_self, Dev.spdmAnswer_mask, Dev.spdmServe_mask]; done) | split | (dsimp only; split))))) only [Dev.mask_foldl, Dev.mask_ite, ite_self, Dev.spdmAnswer_mask, Dev.spdmServe_mask]; done) | split | (dsimp only; split) | rfl)
theorem execGetMeasurements_frame {T : Nat} (hT : subParts 1180591620717411304960 T = true) {via : Transport} {index : Nat} {nonce : Option (List Byte)} {s : State} {t : State} (h : execGetMeasurements via index nonce s = .next t) :
    t.dev.mask T = s.dev.mask T ∧ t.pending = s.pending := by
  refine State.become_frame h (Dev.mask_mono (a := 1180591620717411304960) ?_ hT)
  repeat' (first | with_reducible rfl | (simp (disch := first | decide | (intros; (repeat' (first | with_reducible rfl | (simp (disch := decide) only [Dev.mask_ite, ite_self, Dev.fresh_mask, Dev.spdmAnswer_mask, Dev.spdmError_mask, Dev.spdmServe_mask]; done) | split | (dsimp only; split))))) only [Dev.mask_foldl, Dev.mask_ite, ite_self, Dev.fresh_mask, Dev.spdmAnswer_mask, Dev.spdmError_mask, Dev.spdmServe_mask]; done) | split | (dsimp only; split) | rfl)
theorem execGetVersion_frame {T : Nat} (hT : subParts 1180591620717411303936 T = true) {via : Transport} {s : State} {t : State} (h : execGetVersion via s = .next t) :
    t.dev.mask T = s.dev.mask T ∧ t.pending = s.pending := by
  refine State.become_frame h (Dev.mask_mono (a := 1180591620717411303936) ?_ hT)
  repeat' (first | with_reducible rfl | (simp (disch := first | decide | (intros; (repeat' (first | with_reducible rfl | (simp (disch := decide) only [Dev.mask_ite, ite_self, Dev.setNegotiated_mask, Dev.spdmAnswer_mask, Dev.spdmServe_mask]; done) | split | (dsimp only; split))))) only [Dev.mask_foldl, Dev.mask_ite, ite_self, Dev.setNegotiated_mask, Dev.spdmAnswer_mask, Dev.spdmServe_mask]; done) | split | (dsimp only; split) | rfl)
theorem execGroupMaskParityScan_frame {T : Nat} (hT : subParts 2236958 T = true) {region group : Nat} {upsets : List (Nat × Nat)} {s : State} {t : State} (h : execGroupMaskParityScan region group upsets s = .next t) :
    t.dev.mask T = s.dev.mask T ∧ t.pending = s.pending := by
  refine State.become_frame h (Dev.mask_mono (a := 2236958) ?_ hT)
  repeat' (first | with_reducible rfl | (simp (disch := decide) only [Dev.mask_ite, ite_self, Dev.groupScan_mask]; done) | split | (dsimp only; split) | rfl)
theorem execHcrc_frame {T : Nat} (hT : subParts 36893711366275342854 T = true) {core : Nat} {s : State} {t : State} (h : execHcrc core s = .next t) :
    t.dev.mask T = s.dev.mask T ∧ t.pending = s.pending := by
  refine State.become_frame h (Dev.mask_mono (a := 36893711366275342854) ?_ hT)
  repeat' (first | with_reducible rfl | (simp (disch := decide) only [Dev.mask_ite, ite_self, Dev.issue_mask]; done) | split | (dsimp only; split) | rfl)
theorem execHcrcr_frame {T : Nat} (hT : subParts 36893711366275342854 T = true) {core : Nat} {s : State} {t : State} (h : execHcrcr core s = .next t) :
    t.dev.mask T = s.dev.mask T ∧ t.pending = s.pending := by
  refine State.become_frame h (Dev.mask_mono (a := 36893711366275342854) ?_ hT)
  repeat' (first | with_reducible rfl | (simp (disch := decide) only [Dev.mask_ite, ite_self, Dev.issue_mask]; done) | split | (dsimp only; split) | rfl)
theorem execHeartbeat_frame {T : Nat} (hT : subParts 1180591620717411303936 T = true) {session : Nat} {s : State} {t : State} (h : execHeartbeat session s = .next t) :
    t.dev.mask T = s.dev.mask T ∧ t.pending = s.pending := by
  refine State.become_frame h (Dev.mask_mono (a := 1180591620717411303936) ?_ hT)
  repeat' (first | with_reducible rfl | (simp (disch := first | decide | (intros; (repeat' (first | with_reducible rfl | (simp (disch := decide) only [Dev.mask_ite, ite_self, Dev.established_mask, Dev.sealedAnswer_mask]; done) | split | (dsimp only; split))))) only [Dev.mask_foldl, Dev.mask_ite, ite_self, Dev.established_mask, Dev.sealedAnswer_mask]; done) | split | (dsimp only; split) | rfl)
theorem execHeldOperationStart_frame {T : Nat} (hT : subParts 35791366 T = true) {page : Nat} {s : State} {t : State} (h : execHeldOperationStart page s = .next t) :
    t.dev.mask T = s.dev.mask T ∧ t.pending = s.pending := by
  refine State.become_frame h (Dev.mask_mono (a := 35791366) ?_ hT)
  repeat' (first | with_reducible rfl | (simp (disch := decide) only [Dev.mask_ite, ite_self, Dev.portHeldStart_mask]; done) | split | (dsimp only; split) | rfl)
theorem execHinit_frame {T : Nat} (hT : subParts 36893711366275342854 T = true) {core : Nat} {s : State} {t : State} (h : execHinit core s = .next t) :
    t.dev.mask T = s.dev.mask T ∧ t.pending = s.pending := by
  refine State.become_frame h (Dev.mask_mono (a := 36893711366275342854) ?_ hT)
  repeat' (first | with_reducible rfl | (simp (disch := decide) only [Dev.mask_ite, ite_self, Dev.issue_mask]; done) | split | (dsimp only; split) | rfl)
theorem execHoldoverExpiry_frame {T : Nat} (hT : subParts 64563841769685524998 T = true) {s : State} {t : State} (h : execHoldoverExpiry s = .next t) :
    t.dev.mask T = s.dev.mask T ∧ t.pending = s.pending := by
  refine State.become_frame h (Dev.mask_mono (a := 64563841769685524998) ?_ hT)
  repeat' (first | with_reducible rfl | (simp (disch := decide) only [Dev.mask_ite, ite_self, Dev.holdoverEnd_mask]; done) | split | (dsimp only; split) | rfl)
theorem execHostDelivery_frame {T : Nat} (hT : subParts 41505411677565362694 T = true) {s : State} {t : State} (h : execHostDelivery s = .next t) :
    t.dev.mask T = s.dev.mask T ∧ t.pending = s.pending := by
  refine State.become_frame h (Dev.mask_mono (a := 41505411677565362694) ?_ hT)
  repeat' (first | with_reducible rfl | (simp (disch := decide) only [Dev.mask_ite, ite_self, Dev.deliverHost_mask]; done) | split | (dsimp only; split) | rfl)
theorem execHostPortReset_frame {T : Nat} (hT : subParts 2361183241434822599294 T = true) {req : Requester} {kind : BitVec 4} {confirm : BitVec 16} {s : State} {t : State} (h : execHostPortReset req kind confirm s = .next t) :
    t.dev.mask T = s.dev.mask T ∧ t.pending = s.pending := by
  refine State.become_frame h (Dev.mask_mono (a := 2361183241434822599294) ?_ hT)
  repeat' (first | with_reducible rfl | (simp (disch := first | decide | (intros; (repeat' (first | with_reducible rfl | (simp (disch := decide) only [Dev.mask_ite, ite_self, Dev.deviceReset_mask, Dev.onWrite_mask, Dev.portReset_mask]; done) | split | (dsimp only; split))))) only [Dev.mask_foldl, Dev.mask_ite, ite_self, Dev.deviceReset_mask, Dev.onWrite_mask, Dev.portReset_mask]; done) | split | (dsimp only; split) | rfl)
theorem execHrd_frame {T : Nat} (hT : subParts 36893711366275342854 T = true) {core : Nat} {s : State} {t : State} (h : execHrd core s = .next t) :
    t.dev.mask T = s.dev.mask T ∧ t.pending = s.pending := by
  refine State.become_frame h (Dev.mask_mono (a := 36893711366275342854) ?_ hT)
  repeat' (first | with_reducible rfl | (simp (disch := decide) only [Dev.mask_ite, ite_self, Dev.issue_mask]; done) | split | (dsimp only; split) | rfl)
theorem execHtoe_frame {T : Nat} (hT : subParts 36893711366275342854 T = true) {core : Nat} {s : State} {t : State} (h : execHtoe core s = .next t) :
    t.dev.mask T = s.dev.mask T ∧ t.pending = s.pending := by
  refine State.become_frame h (Dev.mask_mono (a := 36893711366275342854) ?_ hT)
  repeat' (first | with_reducible rfl | (simp (disch := decide) only [Dev.mask_ite, ite_self, Dev.issue_mask]; done) | split | (dsimp only; split) | rfl)
theorem execHtoer_frame {T : Nat} (hT : subParts 36893711366275342854 T = true) {core : Nat} {s : State} {t : State} (h : execHtoer core s = .next t) :
    t.dev.mask T = s.dev.mask T ∧ t.pending = s.pending := by
  refine State.become_frame h (Dev.mask_mono (a := 36893711366275342854) ?_ hT)
  repeat' (first | with_reducible rfl | (simp (disch := decide) only [Dev.mask_ite, ite_self, Dev.issue_mask]; done) | split | (dsimp only; split) | rfl)
theorem execIcrespReceive_frame {T : Nat} (hT : subParts 443298327437712171558 T = true) {session : Nat} {s : State} {t : State} (h : execIcrespReceive session s = .next t) :
    t.dev.mask T = s.dev.mask T ∧ t.pending = s.pending := by
  refine State.become_frame h (Dev.mask_mono (a := 443298327437712171558) ?_ hT)
  repeat' (first | with_reducible rfl | (simp (disch := decide) only [Dev.mask_ite, ite_self, Dev.receiveIcResp_mask]; done) | split | (dsimp only; split) | rfl)
theorem execIdeIntegrityFailure_frame {T : Nat} (hT : subParts 332041630838494994982 T = true) {port stream : Nat} {s : State} {t : State} (h : execIdeIntegrityFailure port stream s = .next t) :
    t.dev.mask T = s.dev.mask T ∧ t.pending = s.pending := by
  refine State.become_frame h (Dev.mask_mono (a := 332041630838494994982) ?_ hT)
  repeat' (first | with_reducible rfl | (simp (disch := decide) only [Dev.mask_ite, ite_self, Dev.ideFailure_mask]; done) | split | (dsimp only; split) | rfl)
theorem execIdeKmRequest_frame {T : Nat} (hT : subParts 2097664 T = true) {session port stream : Nat} {activate : Bool} {s : State} {t : State} (h : execIdeKmRequest session port stream activate s = .next t) :
    t.dev.mask T = s.dev.mask T ∧ t.pending = s.pending := by
  refine State.become_frame h (Dev.mask_mono (a := 2097664) ?_ hT)
  repeat' (first | with_reducible rfl | (simp (disch := decide) only [Dev.mask_ite, ite_self, Dev.ideKm_mask]; done) | split | (dsimp only; split) | rfl)
theorem execIll_frame {T : Nat} (hT : subParts 36893711366275342854 T = true) {core : Nat} {s : State} {t : State} (h : execIll core s = .next t) :
    t.dev.mask T = s.dev.mask T ∧ t.pending = s.pending := by
  refine State.become_frame h (Dev.mask_mono (a := 36893711366275342854) ?_ hT)
  repeat' (first | with_reducible rfl | (simp (disch := decide) only [Dev.mask_ite, ite_self, Dev.issue_mask]; done) | split | (dsimp only; split) | rfl)
theorem execIns_frame {T : Nat} (hT : subParts 36893711366275342854 T = true) {core : Nat} {s : State} {t : State} (h : execIns core s = .next t) :
    t.dev.mask T = s.dev.mask T ∧ t.pending = s.pending := by
  refine State.become_frame h (Dev.mask_mono (a := 36893711366275342854) ?_ hT)
  repeat' (first | with_reducible rfl | (simp (disch := decide) only [Dev.mask_ite, ite_self, Dev.issue_mask]; done) | split | (dsimp only; split) | rfl)
theorem execInsert_frame {T : Nat} (hT : subParts 8162791549183526 T = true) {s : State} {t : State} (h : execInsert s = .next t) :
    t.dev.mask T = s.dev.mask T ∧ t.pending = s.pending := by
  refine State.become_frame h (Dev.mask_mono (a := 8162791549183526) ?_ hT)
  repeat' (first | with_reducible rfl | (simp (disch := first | decide | (intros; (repeat' (first | with_reducible rfl | (simp (disch := decide) only [Dev.mask_ite, ite_self, Dev.opInsert_mask, Dev.portExec_mask]; done) | split | (dsimp only; split))))) only [Dev.mask_foldl, Dev.mask_ite, ite_self, Dev.opInsert_mask, Dev.portExec_mask]; done) | split | (dsimp only; split) | rfl)
theorem execInsertNoevict_frame {T : Nat} (hT : subParts 8162791549183526 T = true) {s : State} {t : State} (h : execInsertNoevict s = .next t) :
    t.dev.mask T = s.dev.mask T ∧ t.pending = s.pending := by
  refine State.become_frame h (Dev.mask_mono (a := 8162791549183526) ?_ hT)
  repeat' (first | with_reducible rfl | (simp (disch := first | decide | (intros; (repeat' (first | with_reducible rfl | (simp (disch := decide) only [Dev.mask_ite, ite_self, Dev.opInsert_mask, Dev.portExec_mask]; done) | split | (dsimp only; split))))) only [Dev.mask_foldl, Dev.mask_ite, ite_self, Dev.opInsert_mask, Dev.portExec_mask]; done) | split | (dsimp only; split) | rfl)
theorem execInstall_frame {T : Nat} (hT : subParts 73786976294882386470 T = true) {s : State} {t : State} (h : execInstall s = .next t) :
    t.dev.mask T = s.dev.mask T ∧ t.pending = s.pending := by
  refine State.become_frame h (Dev.mask_mono (a := 73786976294882386470) ?_ hT)
  repeat' (first | with_reducible rfl | (simp (disch := first | decide | (intros; (repeat' (first | with_reducible rfl | (simp (disch := decide) only [Dev.mask_ite, ite_self, Dev.clearKbuf_mask, Dev.keyInstall_mask, Dev.portExec_mask]; done) | split | (dsimp only; split))))) only [Dev.mask_foldl, Dev.mask_ite, ite_self, Dev.clearKbuf_mask, Dev.keyInstall_mask, Dev.portExec_mask]; done) | split | (dsimp only; split) | rfl)
theorem execIrqDelayExpiry_frame {T : Nat} (hT : subParts 23208454 T = true) {queue : Nat} {s : State} {t : State} (h : execIrqDelayExpiry queue s = .next t) :
    t.dev.mask T = s.dev.mask T ∧ t.pending = s.pending := by
  refine State.become_frame h (Dev.mask_mono (a := 23208454) ?_ hT)
  repeat' (first | with_reducible rfl | (simp (disch := decide) only [Dev.mask_ite, ite_self, Dev.irqDelay_mask]; done) | split | (dsimp only; split) | rfl)
theorem execJ_frame {T : Nat} (hT : subParts 36893711366275342854 T = true) {core : Nat} {s : State} {t : State} (h : execJ core s = .next t) :
    t.dev.mask T = s.dev.mask T ∧ t.pending = s.pending := by
  refine State.become_frame h (Dev.mask_mono (a := 36893711366275342854) ?_ hT)
  repeat' (first | with_reducible rfl | (simp (disch := decide) only [Dev.mask_ite, ite_self, Dev.issue_mask]; done) | split | (dsimp only; split) | rfl)
theorem execJournalRead_frame {T : Nat} (hT : subParts 2236934 T = true) {req : Requester} {seq : Word} {s : State} {t : State} (h : execJournalRead req seq s = .next t) :
    t.dev.mask T = s.dev.mask T ∧ t.pending = s.pending := by
  refine State.become_frame h (Dev.mask_mono (a := 2236934) ?_ hT)
  repeat' (first | with_reducible rfl | (simp (disch := first | decide | (intros; (repeat' (first | with_reducible rfl | (simp (disch := decide) only [Dev.mask_ite, ite_self, Dev.journalSelect_mask, Dev.onWrite_mask]; done) | split | (dsimp only; split))))) only [Dev.mask_foldl, Dev.mask_ite, ite_self, Dev.journalSelect_mask, Dev.onWrite_mask]; done) | split | (dsimp only; split) | rfl)
theorem execJournalRecordWrite_frame {T : Nat} (hT : subParts 36893708066935742982 T = true) {s : State} {t : State} (h : execJournalRecordWrite s = .next t) :
    t.dev.mask T = s.dev.mask T ∧ t.pending = s.pending := by
  refine State.become_frame h (Dev.mask_mono (a := 36893708066935742982) ?_ hT)
  repeat' (first | with_reducible rfl | (simp (disch := decide) only [Dev.mask_ite, ite_self, Dev.dropLost_mask, Dev.journalWrite_mask]; done) | split | (dsimp only; split) | rfl)
theorem execKeyExchange_frame {T : Nat} (hT : subParts 1180591620717411304960 T = true) {via : Transport} {summary : Bool} {s : State} {t : State} (h : execKeyExchange via summary s = .next t) :
    t.dev.mask T = s.dev.mask T ∧ t.pending = s.pending := by
  refine State.become_frame h (Dev.mask_mono (a := 1180591620717411304960) ?_ hT)
  repeat' (first | with_reducible rfl | (simp (disch := first | decide | (intros; (repeat' (first | with_reducible rfl | (simp (disch := decide) only [Dev.mask_ite, ite_self, Dev.keyExchange_mask, Dev.spdmServe_mask]; done) | split | (dsimp only; split))))) only [Dev.mask_foldl, Dev.mask_ite, ite_self, Dev.keyExchange_mask, Dev.spdmServe_mask]; done) | split | (dsimp only; split) | rfl)
theorem execKeyInstall_frame {T : Nat} (hT : subParts 1254378597012293689894 T = true) {s : State} {t : State} (h : execKeyInstall s = .next t) :
    t.dev.mask T = s.dev.mask T ∧ t.pending = s.pending := by
  refine State.become_frame h (Dev.mask_mono (a := 1254378597012293689894) ?_ hT)
  repeat' (first | with_reducible rfl | (simp (disch := first | decide | (intros; (repeat' (first | with_reducible rfl | (simp (disch := decide) only [Dev.mask_ite, ite_self, Dev.vendorInstall_mask, Dev.vendorServe_mask]; done) | split | (dsimp only; split))))) only [Dev.mask_foldl, Dev.mask_ite, ite_self, Dev.vendorInstall_mask, Dev.vendorServe_mask]; done) | split | (dsimp only; split) | rfl)
theorem execKeyQuery_frame {T : Nat} (hT : subParts 1180591620717447094790 T = true) {s : State} {t : State} (h : execKeyQuery s = .next t) :
    t.dev.mask T = s.dev.mask T ∧ t.pending = s.pending := by
  refine State.become_frame h (Dev.mask_mono (a := 1180591620717447094790) ?_ hT)
  repeat' (first | with_reducible rfl | (simp (disch := first | decide | (intros; (repeat' (first | with_reducible rfl | (simp (disch := decide) only [Dev.mask_ite, ite_self, Dev.portEnd_mask, Dev.vendorServe_mask]; done) | split | (dsimp only; split))))) only [Dev.mask_foldl, Dev.mask_ite, ite_self, Dev.portEnd_mask, Dev.vendorServe_mask]; done) | split | (dsimp only; split) | rfl)
theorem execKeyRetire_frame {T : Nat} (hT : subParts 1254378597012293689862 T = true) {s : State} {t : State} (h : execKeyRetire s = .next t) :
    t.dev.mask T = s.dev.mask T ∧ t.pending = s.pending := by
  refine State.become_frame h (Dev.mask_mono (a := 1254378597012293689862) ?_ hT)
  repeat' (first | with_reducible rfl | (simp (disch := first | decide | (intros; (repeat' (first | with_reducible rfl | (simp (disch := decide) only [Dev.mask_ite, ite_self, Dev.keyRetire_mask, Dev.portEnd_mask, Dev.vendorServe_mask]; done) | split | (dsimp only; split))))) only [Dev.mask_foldl, Dev.mask_ite, ite_self, Dev.keyRetire_mask, Dev.portEnd_mask, Dev.vendorServe_mask]; done) | split | (dsimp only; split) | rfl)
theorem execKeyUnwrap_frame {T : Nat} (hT : subParts 73786976294848833062 T = true) {s : State} {t : State} (h : execKeyUnwrap s = .next t) :
    t.dev.mask T = s.dev.mask T ∧ t.pending = s.pending := by
  refine State.become_frame h (Dev.mask_mono (a := 73786976294848833062) ?_ hT)
  repeat' (first | with_reducible rfl | (simp (disch := decide) only [Dev.mask_ite, ite_self, Dev.completeUnwrap_mask]; done) | split | (dsimp only; split) | rfl)
theorem execKeyUpdate_frame {T : Nat} (hT : subParts 1180591620717411303936 T = true) {session : Nat} {s : State} {t : State} (h : execKeyUpdate session s = .next t) :
    t.dev.mask T = s.dev.mask T ∧ t.pending = s.pending := by
  refine State.become_frame h (Dev.mask_mono (a := 1180591620717411303936) ?_ hT)
  repeat' (first | with_reducible rfl | (simp (disch := first | decide | (intros; (repeat' (first | with_reducible rfl | (simp (disch := decide) only [Dev.mask_ite, ite_self, Dev.established_mask, Dev.sealedAnswer_mask, Dev.setSpdmSession_mask]; done) | split | (dsimp only; split))))) only [Dev.mask_foldl, Dev.mask_ite, ite_self, Dev.established_mask, Dev.sealedAnswer_mask, Dev.setSpdmSession_mask]; done) | split | (dsimp only; split) | rfl)
theorem execKnownAnswerTest_frame {T : Nat} (hT : subParts 73786976294841033222 T = true) {unit cell : Nat} {pass : Bool} {s : State} {t : State} (h : execKnownAnswerTest unit cell pass s = .next t) :
    t.dev.mask T = s.dev.mask T ∧ t.pending = s.pending := by
  refine State.become_frame h (Dev.mask_mono (a := 73786976294841033222) ?_ hT)
  repeat' (first | with_reducible rfl | (simp (disch := decide) only [Dev.mask_ite, ite_self, Dev.testCell_mask]; done) | split | (dsimp only; split) | rfl)
theorem execL12WaitExpiry_frame {T : Nat} (hT : subParts 2236934 T = true) {port : Nat} {s : State} {t : State} (h : execL12WaitExpiry port s = .next t) :
    t.dev.mask T = s.dev.mask T ∧ t.pending = s.pending := by
  refine State.become_frame h (Dev.mask_mono (a := 2236934) ?_ hT)
  repeat' (first | with_reducible rfl | (simp (disch := decide) only [Dev.mask_ite, ite_self, Dev.l12Expire_mask]; done) | split | (dsimp only; split) | rfl)
theorem execL1IdleTimeout_frame {T : Nat} (hT : subParts 2097152 T = true) {port : Nat} {s : State} {t : State} (h : execL1IdleTimeout port s = .next t) :
    t.dev.mask T = s.dev.mask T ∧ t.pending = s.pending := by
  refine State.become_frame h (Dev.mask_mono (a := 2097152) ?_ hT)
  repeat' (first | with_reducible rfl | (simp (disch := decide) only [Dev.mask_ite, ite_self, Dev.enterL1_mask]; done) | split | (dsimp only; split) | rfl)
theorem execLaneLockAcquire_frame {T : Nat} (hT : subParts 18446744073709552130 T = true) {mac : Nat} {snr : List Nat} {s : State} {t : State} (h : execLaneLockAcquire mac snr s = .next t) :
    t.dev.mask T = s.dev.mask T ∧ t.pending = s.pending := by
  refine State.become_frame h (Dev.mask_mono (a := 18446744073709552130) ?_ hT)
  repeat' (first | with_reducible rfl | (simp (disch := decide) only [Dev.mask_ite, ite_self, Dev.takeLock_mask]; done) | split | (dsimp only; split) | rfl)
theorem execLaneLockLoss_frame {T : Nat} (hT : subParts 64563841769685524998 T = true) {mac lost dark : Nat} {s : State} {t : State} (h : execLaneLockLoss mac lost dark s = .next t) :
    t.dev.mask T = s.dev.mask T ∧ t.pending = s.pending := by
  refine State.become_frame h (Dev.mask_mono (a := 64563841769685524998) ?_ hT)
  repeat' (first | with_reducible rfl | (simp (disch := decide) only [Dev.mask_ite, ite_self, Dev.loseLock_mask]; done) | split | (dsimp only; split) | rfl)
theorem execLd16_frame {T : Nat} (hT : subParts 36893711366275342854 T = true) {core : Nat} {s : State} {t : State} (h : execLd16 core s = .next t) :
    t.dev.mask T = s.dev.mask T ∧ t.pending = s.pending := by
  refine State.become_frame h (Dev.mask_mono (a := 36893711366275342854) ?_ hT)
  repeat' (first | with_reducible rfl | (simp (disch := decide) only [Dev.mask_ite, ite_self, Dev.issue_mask]; done) | split | (dsimp only; split) | rfl)
theorem execLd32_frame {T : Nat} (hT : subParts 36893711366275342854 T = true) {core : Nat} {s : State} {t : State} (h : execLd32 core s = .next t) :
    t.dev.mask T = s.dev.mask T ∧ t.pending = s.pending := by
  refine State.become_frame h (Dev.mask_mono (a := 36893711366275342854) ?_ hT)
  repeat' (first | with_reducible rfl | (simp (disch := decide) only [Dev.mask_ite, ite_self, Dev.issue_mask]; done) | split | (dsimp only; split) | rfl)
theorem execLd8_frame {T : Nat} (hT : subParts 36893711366275342854 T = true) {core : Nat} {s : State} {t : State} (h : execLd8 core s = .next t) :
    t.dev.mask T = s.dev.mask T ∧ t.pending = s.pending := by
  refine State.become_frame h (Dev.mask_mono (a := 36893711366275342854) ?_ hT)
  repeat' (first | with_reducible rfl | (simp (disch := decide) only [Dev.mask_ite, ite_self, Dev.issue_mask]; done) | split | (dsimp only; split) | rfl)
theorem execLeanStep_frame {T : Nat} (hT : subParts 73786976294840443398 T = true) {s : State} {t : State} (h : execLeanStep s = .next t) :
    t.dev.mask T = s.dev.mask T ∧ t.pending = s.pending := by
  refine State.become_frame h (Dev.mask_mono (a := 73786976294840443398) ?_ hT)
  repeat' (first | with_reducible rfl | (simp (disch := decide) only [Dev.mask_ite, ite_self, Dev.leanStep_mask]; done) | split | (dsimp only; split) | rfl)
theorem execLearnExecute_frame {T : Nat} (hT : subParts 35184389279852070 T = true) {s : State} {t : State} (h : execLearnExecute s = .next t) :
    t.dev.mask T = s.dev.mask T ∧ t.pending = s.pending := by
  refine State.become_frame h (Dev.mask_mono (a := 35184389279852070) ?_ hT)
  repeat' (first | with_reducible rfl | (simp (disch := decide) only [Dev.mask_ite, ite_self, Dev.executeLearn_mask]; done) | split | (dsimp only; split) | rfl)
theorem execLehrBlockComplete_frame {T : Nat} (hT : subParts 73786976294840508934 T = true) {unit cell : Nat} {agree : Bool} {s : State} {t : State} (h : execLehrBlockComplete unit cell agree s = .next t) :
    t.dev.mask T = s.dev.mask T ∧ t.pending = s.pending := by
  refine State.become_frame h (Dev.mask_mono (a := 73786976294840508934) ?_ hT)
  repeat' (first | with_reducible rfl | (simp (disch := decide) only [Dev.mask_ite, ite_self, Dev.completeBlock_mask]; done) | split | (dsimp only; split) | rfl)
theorem execLehrBlockIssue_frame {T : Nat} (hT : subParts 73786976294838207494 T = true) {job segment : Nat} {s : State} {t : State} (h : execLehrBlockIssue job segment s = .next t) :
    t.dev.mask T = s.dev.mask T ∧ t.pending = s.pending := by
  refine State.become_frame h (Dev.mask_mono (a := 73786976294838207494) ?_ hT)
  repeat' (first | with_reducible rfl | (simp (disch := decide) only [Dev.mask_ite, ite_self, Dev.issueBlock_mask]; done) | split | (dsimp only; split) | rfl)
theorem execLehrJobEnd_frame {T : Nat} (hT : subParts 517085303732550443942 T = true) {job : Nat} {failed : Option Nat} {s : State} {t : State} (h : execLehrJobEnd job failed s = .next t) :
    t.dev.mask T = s.dev.mask T ∧ t.pending = s.pending := by
  refine State.become_frame h (Dev.mask_mono (a := 517085303732550443942) ?_ hT)
  repeat' (first | with_reducible rfl | (simp (disch := decide) only [Dev.mask_ite, ite_self, Dev.lehrEnd_mask]; done) | split | (dsimp only; split) | rfl)
theorem execLehrJobSubmit_frame {T : Nat} (hT : subParts 517085303732550378406 T = true) {s : State} {t : State} (h : execLehrJobSubmit s = .next t) :
    t.dev.mask T = s.dev.mask T ∧ t.pending = s.pending := by
  refine State.become_frame h (Dev.mask_mono (a := 517085303732550378406) ?_ hT)
  repeat' (first | with_reducible rfl | (simp (disch := decide) only [Dev.mask_ite, ite_self, Dev.lehrSubmit_mask]; done) | split | (dsimp only; split) | rfl)
theorem execLifecycleAdvance_frame {T : Nat} (hT : subParts 1770887431076131774982 T = true) {channel : Nat} {s : State} {t : State} (h : execLifecycleAdvance channel s = .next t) :
    t.dev.mask T = s.dev.mask T ∧ t.pending = s.pending := by
  refine State.become_frame h (Dev.mask_mono (a := 1770887431076131774982) ?_ hT)
  repeat' (first | with_reducible rfl | (simp (disch := first | decide | (intros; (repeat' (first | with_reducible rfl | (simp (disch := decide) only [Dev.mask_ite, ite_self, Dev.fwServe_mask, Dev.lifecycleAdvance_mask]; done) | split | (dsimp only; split))))) only [Dev.mask_foldl, Dev.mask_ite, ite_self, Dev.fwServe_mask, Dev.lifecycleAdvance_mask]; done) | split | (dsimp only; split) | rfl)
theorem execLimitFifoPop_frame {T : Nat} (hT : subParts 147573952589678649862 T = true) {req : Requester} {s : State} {t : State} (h : execLimitFifoPop req s = .next t) :
    t.dev.mask T = s.dev.mask T ∧ t.pending = s.pending := by
  refine State.become_frame h (Dev.mask_mono (a := 147573952589678649862) ?_ hT)
  repeat' (first | with_reducible rfl | (simp (disch := first | decide | (intros; (repeat' (first | with_reducible rfl | (simp (disch := decide) only [Dev.mask_ite, ite_self, Dev.onRead_mask, Dev.popLimit_mask]; done) | split | (dsimp only; split))))) only [Dev.mask_foldl, Dev.mask_ite, ite_self, Dev.onRead_mask, Dev.popLimit_mask]; done) | split | (dsimp only; split) | rfl)
theorem execLinkDown_frame {T : Nat} (hT : subParts 332041630838490800678 T = true) {port : Nat} {s : State} {t : State} (h : execLinkDown port s = .next t) :
    t.dev.mask T = s.dev.mask T ∧ t.pending = s.pending := by
  refine State.become_frame h (Dev.mask_mono (a := 332041630838490800678) ?_ hT)
  repeat' (first | with_reducible rfl | (simp (disch := decide) only [Dev.mask_ite, ite_self, Dev.linkDown_mask]; done) | split | (dsimp only; split) | rfl)
theorem execLinkL12Entry_frame {T : Nat} (hT : subParts 2228224 T = true) {port : Nat} {s : State} {t : State} (h : execLinkL12Entry port s = .next t) :
    t.dev.mask T = s.dev.mask T ∧ t.pending = s.pending := by
  refine State.become_frame h (Dev.mask_mono (a := 2228224) ?_ hT)
  repeat' (first | with_reducible rfl | (simp (disch := decide) only [Dev.mask_ite, ite_self, Dev.reachL12_mask]; done) | split | (dsimp only; split) | rfl)
theorem execLinkUp_frame {T : Nat} (hT : subParts 2236934 T = true) {port speed width : Nat} {flit : Bool} {s : State} {t : State} (h : execLinkUp port speed width flit s = .next t) :
    t.dev.mask T = s.dev.mask T ∧ t.pending = s.pending := by
  refine State.become_frame h (Dev.mask_mono (a := 2236934) ?_ hT)
  repeat' (first | with_reducible rfl | (simp (disch := decide) only [Dev.mask_ite, ite_self, Dev.linkUp_mask]; done) | split | (dsimp only; split) | rfl)
theorem execLockInterfaceRequest_frame {T : Nat} (hT : subParts 332041630838494994982 T = true) {slice stream : Nat} {s : State} {t : State} (h : execLockInterfaceRequest slice stream s = .next t) :
    t.dev.mask T = s.dev.mask T ∧ t.pending = s.pending := by
  refine State.become_frame h (Dev.mask_mono (a := 332041630838494994982) ?_ hT)
  repeat' (first | with_reducible rfl | (simp (disch := decide) only [Dev.mask_ite, ite_self, Dev.lockInterface_mask]; done) | split | (dsimp only; split) | rfl)
theorem execLogicParityFault_frame {T : Nat} (hT : subParts 507862160394114785830 T = true) {page checkPoint : Nat} {s : State} {t : State} (h : execLogicParityFault page checkPoint s = .next t) :
    t.dev.mask T = s.dev.mask T ∧ t.pending = s.pending := by
  refine State.become_frame h (Dev.mask_mono (a := 507862160394114785830) ?_ hT)
  repeat' (first | with_reducible rfl | (simp (disch := decide) only [Dev.mask_ite, ite_self, Dev.logicFault_mask]; done) | split | (dsimp only; split) | rfl)
theorem execLookup_frame {T : Nat} (hT : subParts 35792390 T = true) {s : State} {t : State} (h : execLookup s = .next t) :
    t.dev.mask T = s.dev.mask T ∧ t.pending = s.pending := by
  refine State.become_frame h (Dev.mask_mono (a := 35792390) ?_ hT)
  repeat' (first | with_reducible rfl | (simp (disch := first | decide | (intros; (repeat' (first | with_reducible rfl | (simp (disch := decide) only [Dev.mask_ite, ite_self, Dev.opLookup_mask, Dev.portExec_mask]; done) | split | (dsimp only; split))))) only [Dev.mask_foldl, Dev.mask_ite, ite_self, Dev.opLookup_mask, Dev.portExec_mask]; done) | split | (dsimp only; split) | rfl)
theorem execLpmProbe_frame {T : Nat} (hT : subParts 18014415691589126 T = true) {packet probe : Nat} {s : State} {t : State} (h : execLpmProbe packet probe s = .next t) :
    t.dev.mask T = s.dev.mask T ∧ t.pending = s.pending := by
  refine State.become_frame h (Dev.mask_mono (a := 18014415691589126) ?_ hT)
  repeat' (first | with_reducible rfl | (simp (disch := decide) only [Dev.mask_ite, ite_self, Dev.runProbe_mask]; done) | split | (dsimp only; split) | rfl)
theorem execMacSnapshot_frame {T : Nat} (hT : subParts 9223372036857012742 T = true) {req : Requester} {mac : Nat} {s : State} {t : State} (h : execMacSnapshot req mac s = .next t) :
    t.dev.mask T = s.dev.mask T ∧ t.pending = s.pending := by
  refine State.become_frame h (Dev.mask_mono (a := 9223372036857012742) ?_ hT)
  repeat' (first | with_reducible rfl | (simp (disch := first | decide | (intros; (repeat' (first | with_reducible rfl | (simp (disch := decide) only [Dev.mask_ite, ite_self, Dev.onWrite_mask, Dev.pulse_mask, Dev.snapshotMac_mask]; done) | split | (dsimp only; split))))) only [Dev.mask_foldl, Dev.mask_ite, ite_self, Dev.onWrite_mask, Dev.pulse_mask, Dev.snapshotMac_mask]; done) | split | (dsimp only; split) | rfl)
theorem execMacgSnapshot_frame {T : Nat} (hT : subParts 9223372036857012742 T = true) {req : Requester} {s : State} {t : State} (h : execMacgSnapshot req s = .next t) :
    t.dev.mask T = s.dev.mask T ∧ t.pending = s.pending := by
  refine State.become_frame h (Dev.mask_mono (a := 9223372036857012742) ?_ hT)
  repeat' (first | with_reducible rfl | (simp (disch := first | decide | (intros; (repeat' (first | with_reducible rfl | (simp (disch := decide) only [Dev.mask_ite, ite_self, Dev.onWrite_mask, Dev.snapshotAll_mask]; done) | split | (dsimp only; split))))) only [Dev.mask_foldl, Dev.mask_ite, ite_self, Dev.onWrite_mask, Dev.snapshotAll_mask]; done) | split | (dsimp only; split) | rfl)
theorem execMbxPop_frame {T : Nat} (hT : subParts 1770887431076131774982 T = true) {req : Requester} {box : MailEnd} {s : State} {t : State} (h : execMbxPop req box s = .next t) :
    t.dev.mask T = s.dev.mask T ∧ t.pending = s.pending := by
  refine State.become_frame h (Dev.mask_mono (a := 1770887431076131774982) ?_ hT)
  repeat' (first | with_reducible rfl | (simp (disch := first | decide | (intros; (repeat' (first | with_reducible rfl | (simp (disch := decide) only [Dev.mask_ite, ite_self, Dev.onMail_mask, Dev.popEnd_mask]; done) | split | (dsimp only; split))))) only [Dev.mask_foldl, Dev.mask_ite, ite_self, Dev.onMail_mask, Dev.popEnd_mask]; done) | split | (dsimp only; split) | rfl)
theorem execMbxSend_frame {T : Nat} (hT : subParts 1770887431076131774982 T = true) {req : Requester} {box : MailEnd} {pasid : Option Nat} {s : State} {t : State} (h : execMbxSend req box pasid s = .next t) :
    t.dev.mask T = s.dev.mask T ∧ t.pending = s.pending := by
  refine State.become_frame h (Dev.mask_mono (a := 1770887431076131774982) ?_ hT)
  repeat' (first | with_reducible rfl | (simp (disch := first | decide | (intros; (repeat' (first | with_reducible rfl | (simp (disch := decide) only [Dev.mask_ite, ite_self, Dev.mailSend_mask, Dev.onMail_mask, Dev.sendChunk_mask]; done) | split | (dsimp only; split))))) only [Dev.mask_foldl, Dev.mask_ite, ite_self, Dev.mailSend_mask, Dev.onMail_mask, Dev.sendChunk_mask]; done) | split | (dsimp only; split) | rfl)
theorem execMctpControlMessage_frame {T : Nat} (hT : subParts 1180591620717411303936 T = true) {setEid : Option Nat} {s : State} {t : State} (h : execMctpControlMessage setEid s = .next t) :
    t.dev.mask T = s.dev.mask T ∧ t.pending = s.pending := by
  refine State.become_frame h (Dev.mask_mono (a := 1180591620717411303936) ?_ hT)
  repeat' (first | with_reducible rfl | (simp (disch := decide) only [Dev.mask_ite, ite_self, Dev.emit_mask, Dev.setWel_mask]; done) | split | (dsimp only; split) | rfl)
theorem execMemFailWrite_frame {T : Nat} (hT : subParts 2826758 T = true) {req : Requester} {device : Nat} {s : State} {t : State} (h : execMemFailWrite req device s = .next t) :
    t.dev.mask T = s.dev.mask T ∧ t.pending = s.pending := by
  refine State.become_frame h (Dev.mask_mono (a := 2826758) ?_ hT)
  repeat' (first | with_reducible rfl | (simp (disch := first | decide | (intros; (repeat' (first | with_reducible rfl | (simp (disch := decide) only [Dev.mask_ite, ite_self, Dev.failDevice_mask, Dev.onWrite_mask]; done) | split | (dsimp only; split))))) only [Dev.mask_foldl, Dev.mask_ite, ite_self, Dev.failDevice_mask, Dev.onWrite_mask]; done) | split | (dsimp only; split) | rfl)
theorem execMeterDisable_frame {T : Nat} (hT : subParts 35791398 T = true) {s : State} {t : State} (h : execMeterDisable s = .next t) :
    t.dev.mask T = s.dev.mask T ∧ t.pending = s.pending := by
  refine State.become_frame h (Dev.mask_mono (a := 35791398) ?_ hT)
  repeat' (first | with_reducible rfl | (simp (disch := first | decide | (intros; (repeat' (first | with_reducible rfl | (simp (disch := decide) only [Dev.mask_ite, ite_self, Dev.meterDisable_mask, Dev.portExec_mask]; done) | split | (dsimp only; split))))) only [Dev.mask_foldl, Dev.mask_ite, ite_self, Dev.meterDisable_mask, Dev.portExec_mask]; done) | split | (dsimp only; split) | rfl)
theorem execMeterRead_frame {T : Nat} (hT : subParts 35791366 T = true) {s : State} {t : State} (h : execMeterRead s = .next t) :
    t.dev.mask T = s.dev.mask T ∧ t.pending = s.pending := by
  refine State.become_frame h (Dev.mask_mono (a := 35791366) ?_ hT)
  repeat' (first | with_reducible rfl | (simp (disch := first | decide | (intros; (repeat' (first | with_reducible rfl | (simp (disch := decide) only [Dev.mask_ite, ite_self, Dev.actgResult_mask, Dev.portExec_mask]; done) | split | (dsimp only; split))))) only [Dev.mask_foldl, Dev.mask_ite, ite_self, Dev.actgResult_mask, Dev.portExec_mask]; done) | split | (dsimp only; split) | rfl)
theorem execMeterUpdate_frame {T : Nat} (hT : subParts 17182106150 T = true) {packet : Nat} {s : State} {t : State} (h : execMeterUpdate packet s = .next t) :
    t.dev.mask T = s.dev.mask T ∧ t.pending = s.pending := by
  refine State.become_frame h (Dev.mask_mono (a := 17182106150) ?_ hT)
  repeat' (first | with_reducible rfl | (simp (disch := decide) only [Dev.mask_ite, ite_self, Dev.meterStep_mask]; done) | split | (dsimp only; split) | rfl)
theorem execMeterWrite_frame {T : Nat} (hT : subParts 35791398 T = true) {s : State} {t : State} (h : execMeterWrite s = .next t) :
    t.dev.mask T = s.dev.mask T ∧ t.pending = s.pending := by
  refine State.become_frame h (Dev.mask_mono (a := 35791398) ?_ hT)
  repeat' (first | with_reducible rfl | (simp (disch := first | decide | (intros; (repeat' (first | with_reducible rfl | (simp (disch := decide) only [Dev.mask_ite, ite_self, Dev.meterWrite_mask, Dev.portExec_mask]; done) | split | (dsimp only; split))))) only [Dev.mask_foldl, Dev.mask_ite, ite_self, Dev.meterWrite_mask, Dev.portExec_mask]; done) | split | (dsimp only; split) | rfl)
theorem execMov_frame {T : Nat} (hT : subParts 36893711366275342854 T = true) {core : Nat} {s : State} {t : State} (h : execMov core s = .next t) :
    t.dev.mask T = s.dev.mask T ∧ t.pending = s.pending := by
  refine State.become_frame h (Dev.mask_mono (a := 36893711366275342854) ?_ hT)
  repeat' (first | with_reducible rfl | (simp (disch := decide) only [Dev.mask_ite, ite_self, Dev.issue_mask]; done) | split | (dsimp only; split) | rfl)
theorem execMove_frame {T : Nat} (hT : subParts 590295810358720521190 T = true) {channel mover : Nat} {answer : HostAnswer} {s : State} {t : State} (h : execMove channel mover answer s = .next t) :
    t.dev.mask T = s.dev.mask T ∧ t.pending = s.pending := by
  refine State.become_frame h (Dev.mask_mono (a := 590295810358720521190) ?_ hT)
  repeat' (first | with_reducible rfl | (simp (disch := decide) only [Dev.mask_ite, ite_self, Dev.fwMove_mask]; done) | split | (dsimp only; split) | rfl)
theorem execMoverGo_frame {T : Nat} (hT : subParts 2236934 T = true) {req : Requester} {mover : Nat} {s : State} {t : State} (h : execMoverGo req mover s = .next t) :
    t.dev.mask T = s.dev.mask T ∧ t.pending = s.pending := by
  refine State.become_frame h (Dev.mask_mono (a := 2236934) ?_ hT)
  repeat' (first | with_reducible rfl | (simp (disch := first | decide | (intros; (repeat' (first | with_reducible rfl | (simp (disch := decide) only [Dev.mask_ite, ite_self, Dev.moverGo_mask, Dev.onFirmwareWrite_mask]; done) | split | (dsimp only; split))))) only [Dev.mask_foldl, Dev.mask_ite, ite_self, Dev.moverGo_mask, Dev.onFirmwareWrite_mask]; done) | split | (dsimp only; split) | rfl)
theorem execMoverStop_frame {T : Nat} (hT : subParts 2253318 T = true) {req : Requester} {mover : Nat} {s : State} {t : State} (h : execMoverStop req mover s = .next t) :
    t.dev.mask T = s.dev.mask T ∧ t.pending = s.pending := by
  refine State.become_frame h (Dev.mask_mono (a := 2253318) ?_ hT)
  repeat' (first | with_reducible rfl | (simp (disch := first | decide | (intros; (repeat' (first | with_reducible rfl | (simp (disch := decide) only [Dev.mask_ite, ite_self, Dev.moverStop_mask, Dev.onFirmwareWrite_mask]; done) | split | (dsimp only; split))))) only [Dev.mask_foldl, Dev.mask_ite, ite_self, Dev.moverStop_mask, Dev.onFirmwareWrite_mask]; done) | split | (dsimp only; split) | rfl)
theorem execMoverTrigger_frame {T : Nat} (hT : subParts 8194 T = true) {mover : Nat} {s : State} {t : State} (h : execMoverTrigger mover s = .next t) :
    t.dev.mask T = s.dev.mask T ∧ t.pending = s.pending := by
  refine State.become_frame h (Dev.mask_mono (a := 8194) ?_ hT)
  repeat' (first | with_reducible rfl | (simp (disch := decide) only [Dev.mask_ite, ite_self, Dev.trigger_mask]; done) | split | (dsimp only; split) | rfl)
theorem execMovhi_frame {T : Nat} (hT : subParts 36893711366275342854 T = true) {core : Nat} {s : State} {t : State} (h : execMovhi core s = .next t) :
    t.dev.mask T = s.dev.mask T ∧ t.pending = s.pending := by
  refine State.become_frame h (Dev.mask_mono (a := 36893711366275342854) ?_ hT)
  repeat' (first | with_reducible rfl | (simp (disch := decide) only [Dev.mask_ite, ite_self, Dev.issue_mask]; done) | split | (dsimp only; split) | rfl)
theorem execMovi_frame {T : Nat} (hT : subParts 36893711366275342854 T = true) {core : Nat} {s : State} {t : State} (h : execMovi core s = .next t) :
    t.dev.mask T = s.dev.mask T ∧ t.pending = s.pending := by
  refine State.become_frame h (Dev.mask_mono (a := 36893711366275342854) ?_ hT)
  repeat' (first | with_reducible rfl | (simp (disch := decide) only [Dev.mask_ite, ite_self, Dev.issue_mask]; done) | split | (dsimp only; split) | rfl)
theorem execMsixUnmask_frame {T : Nat} (hT : subParts 2097668 T = true) {port : Nat} {vector : Option Nat} {s : State} {t : State} (h : execMsixUnmask port vector s = .next t) :
    t.dev.mask T = s.dev.mask T ∧ t.pending = s.pending := by
  refine State.become_frame h (Dev.mask_mono (a := 2097668) ?_ hT)
  repeat' (first | with_reducible rfl | (simp (disch := decide) only [Dev.mask_ite, ite_self, Dev.msixUnmask_mask]; done) | split | (dsimp only; split) | rfl)
theorem execNegotiateAlgorithms_frame {T : Nat} (hT : subParts 1180591620717411303936 T = true) {via : Transport} {supported : Bool} {s : State} {t : State} (h : execNegotiateAlgorithms via supported s = .next t) :
    t.dev.mask T = s.dev.mask T ∧ t.pending = s.pending := by
  refine State.become_frame h (Dev.mask_mono (a := 1180591620717411303936) ?_ hT)
  repeat' (first | with_reducible rfl | (simp (disch := first | decide | (intros; (repeat' (first | with_reducible rfl | (simp (disch := decide) only [Dev.mask_ite, ite_self, Dev.setNegotiated_mask, Dev.spdmAnswer_mask, Dev.spdmError_mask, Dev.spdmServe_mask]; done) | split | (dsimp only; split))))) only [Dev.mask_foldl, Dev.mask_ite, ite_self, Dev.setNegotiated_mask, Dev.spdmAnswer_mask, Dev.spdmError_mask, Dev.spdmServe_mask]; done) | split | (dsimp only; split) | rfl)
theorem execNop_frame {T : Nat} (hT : subParts 36893711366275342854 T = true) {core : Nat} {s : State} {t : State} (h : execNop core s = .next t) :
    t.dev.mask T = s.dev.mask T ∧ t.pending = s.pending := by
  refine State.become_frame h (Dev.mask_mono (a := 36893711366275342854) ?_ hT)
  repeat' (first | with_reducible rfl | (simp (disch := decide) only [Dev.mask_ite, ite_self, Dev.issue_mask]; done) | split | (dsimp only; split) | rfl)
theorem execNotificationRecordWrite_frame {T : Nat} (hT : subParts 2251799815922566 T = true) {s : State} {t : State} (h : execNotificationRecordWrite s = .next t) :
    t.dev.mask T = s.dev.mask T ∧ t.pending = s.pending := by
  refine State.become_frame h (Dev.mask_mono (a := 2251799815922566) ?_ hT)
  repeat' (first | with_reducible rfl | (simp (disch := decide) only [Dev.mask_ite, ite_self, Dev.writeNote_mask]; done) | split | (dsimp only; split) | rfl)
theorem execNrConsWrite_frame {T : Nat} (hT : subParts 2236934 T = true) {req : Requester} {value : Word} {s : State} {t : State} (h : execNrConsWrite req value s = .next t) :
    t.dev.mask T = s.dev.mask T ∧ t.pending = s.pending := by
  refine State.become_frame h (Dev.mask_mono (a := 2236934) ?_ hT)
  repeat' (first | with_reducible rfl | (simp (disch := first | decide | (intros; (repeat' (first | with_reducible rfl | (simp (disch := decide) only [Dev.mask_ite, ite_self, Dev.onWrite_mask, Dev.writeNoteCons_mask]; done) | split | (dsimp only; split))))) only [Dev.mask_foldl, Dev.mask_ite, ite_self, Dev.onWrite_mask, Dev.writeNoteCons_mask]; done) | split | (dsimp only; split) | rfl)
theorem execOldBankFree_frame {T : Nat} (hT : subParts 2236934 T = true) {s : State} {t : State} (h : execOldBankFree s = .next t) :
    t.dev.mask T = s.dev.mask T ∧ t.pending = s.pending := by
  refine State.become_frame h (Dev.mask_mono (a := 2236934) ?_ hT)
  repeat' (first | with_reducible rfl | (simp (disch := decide) only [Dev.mask_ite, ite_self, Dev.freeOldBank_mask]; done) | split | (dsimp only; split) | rfl)
theorem execOpenWaitTimeout_frame {T : Nat} (hT : subParts 295147913975473250822 T = true) {queue index : Nat} {s : State} {t : State} (h : execOpenWaitTimeout queue index s = .next t) :
    t.dev.mask T = s.dev.mask T ∧ t.pending = s.pending := by
  refine State.become_frame h (Dev.mask_mono (a := 295147913975473250822) ?_ hT)
  repeat' (first | with_reducible rfl | (simp (disch := decide) only [Dev.mask_ite, ite_self, Dev.openTimeout_mask]; done) | split | (dsimp only; split) | rfl)
theorem execOr_frame {T : Nat} (hT : subParts 36893711366275342854 T = true) {core : Nat} {s : State} {t : State} (h : execOr core s = .next t) :
    t.dev.mask T = s.dev.mask T ∧ t.pending = s.pending := by
  refine State.become_frame h (Dev.mask_mono (a := 36893711366275342854) ?_ hT)
  repeat' (first | with_reducible rfl | (simp (disch := decide) only [Dev.mask_ite, ite_self, Dev.issue_mask]; done) | split | (dsimp only; split) | rfl)
theorem execOri_frame {T : Nat} (hT : subParts 36893711366275342854 T = true) {core : Nat} {s : State} {t : State} (h : execOri core s = .next t) :
    t.dev.mask T = s.dev.mask T ∧ t.pending = s.pending := by
  refine State.become_frame h (Dev.mask_mono (a := 36893711366275342854) ?_ hT)
  repeat' (first | with_reducible rfl | (simp (disch := decide) only [Dev.mask_ite, ite_self, Dev.issue_mask]; done) | split | (dsimp only; split) | rfl)
theorem execOscillatorFail_frame {T : Nat} (hT : subParts 2826758 T = true) {oscillator : Nat} {s : State} {t : State} (h : execOscillatorFail oscillator s = .next t) :
    t.dev.mask T = s.dev.mask T ∧ t.pending = s.pending := by
  refine State.become_frame h (Dev.mask_mono (a := 2826758) ?_ hT)
  repeat' (first | with_reducible rfl | (simp (disch := decide) only [Dev.mask_ite, ite_self, Dev.oscillatorFail_mask]; done) | split | (dsimp only; split) | rfl)
theorem execOtpProgramEnd_frame {T : Nat} (hT : subParts 1770887431076131774982 T = true) {s : State} {t : State} (h : execOtpProgramEnd s = .next t) :
    t.dev.mask T = s.dev.mask T ∧ t.pending = s.pending := by
  refine State.become_frame h (Dev.mask_mono (a := 1770887431076131774982) ?_ hT)
  repeat' (first | with_reducible rfl | (simp (disch := decide) only [Dev.mask_ite, ite_self, Dev.otpEnd_mask]; done) | split | (dsimp only; split) | rfl)
theorem execOtpWrite_frame {T : Nat} (hT : subParts 1770887431076131774982 T = true) {channel : Nat} {s : State} {t : State} (h : execOtpWrite channel s = .next t) :
    t.dev.mask T = s.dev.mask T ∧ t.pending = s.pending := by
  refine State.become_frame h (Dev.mask_mono (a := 1770887431076131774982) ?_ hT)
  repeat' (first | with_reducible rfl | (simp (disch := decide) only [Dev.mask_ite, ite_self, Dev.otpWrite_mask]; done) | split | (dsimp only; split) | rfl)
theorem execPacketDispatch_frame {T : Nat} (hT : subParts 36893712328884888070 T = true) {packet : Nat} {s : State} {t : State} (h : execPacketDispatch packet s = .next t) :
    t.dev.mask T = s.dev.mask T ∧ t.pending = s.pending := by
  refine State.become_frame h (Dev.mask_mono (a := 36893712328884888070) ?_ hT)
  repeat' (first | with_reducible rfl | (simp (disch := decide) only [Dev.mask_ite, ite_self, Dev.dispatch_mask]; done) | split | (dsimp only; split) | rfl)
theorem execPadRelease_frame {T : Nat} (hT : subParts 2236934 T = true) {req : Requester} {groups : Word} {s : State} {t : State} (h : execPadRelease req groups s = .next t) :
    t.dev.mask T = s.dev.mask T ∧ t.pending = s.pending := by
  refine State.become_frame h (Dev.mask_mono (a := 2236934) ?_ hT)
  repeat' (first | with_reducible rfl | (simp (disch := first | decide | (intros; (repeat' (first | with_reducible rfl | (simp (disch := decide) only [Dev.mask_ite, ite_self, Dev.onWrite_mask, Dev.releasePads_mask]; done) | split | (dsimp only; split))))) only [Dev.mask_foldl, Dev.mask_ite, ite_self, Dev.onWrite_mask, Dev.releasePads_mask]; done) | split | (dsimp only; split) | rfl)
theorem execPageRequestTimeout_frame {T : Nat} (hT : subParts 443298327437712187942 T = true) {port group : Nat} {s : State} {t : State} (h : execPageRequestTimeout port group s = .next t) :
    t.dev.mask T = s.dev.mask T ∧ t.pending = s.pending := by
  refine State.become_frame h (Dev.mask_mono (a := 443298327437712187942) ?_ hT)
  repeat' (first | with_reducible rfl | (simp (disch := decide) only [Dev.mask_ite, ite_self, Dev.groupTimeout_mask]; done) | split | (dsimp only; split) | rfl)
theorem execParityBackgroundScan_frame {T : Nat} (hT : subParts 46117097695976038942 T = true) {page : Nat} {upsets : List (Nat × Nat)} {s : State} {t : State} (h : execParityBackgroundScan page upsets s = .next t) :
    t.dev.mask T = s.dev.mask T ∧ t.pending = s.pending := by
  refine State.become_frame h (Dev.mask_mono (a := 46117097695976038942) ?_ hT)
  repeat' (first | with_reducible rfl | (simp (disch := decide) only [Dev.mask_ite, ite_self, Dev.backgroundScan_mask]; done) | split | (dsimp only; split) | rfl)
theorem execPauseHoldEnd_frame {T : Nat} (hT : subParts 9223372036854775808 T = true) {mac tc : Nat} {s : State} {t : State} (h : execPauseHoldEnd mac tc s = .next t) :
    t.dev.mask T = s.dev.mask T ∧ t.pending = s.pending := by
  refine State.become_frame h (Dev.mask_mono (a := 9223372036854775808) ?_ hT)
  repeat' (first | with_reducible rfl | (simp (disch := decide) only [Dev.mask_ite, ite_self, Dev.setMac_mask]; done) | split | (dsimp only; split) | rfl)
theorem execPauseReceive_frame {T : Nat} (hT : subParts 46117097902134403590 T = true) {mac : Nat} {bytes : List Byte} {s : State} {t : State} (h : execPauseReceive mac bytes s = .next t) :
    t.dev.mask T = s.dev.mask T ∧ t.pending = s.pending := by
  refine State.become_frame h (Dev.mask_mono (a := 46117097902134403590) ?_ hT)
  repeat' (first | with_reducible rfl | (simp (disch := decide) only [Dev.mask_ite, ite_self, Dev.receiveControl_mask]; done) | split | (dsimp only; split) | rfl)
theorem execPauseTimerExpiry_frame {T : Nat} (hT : subParts 9223372036854775810 T = true) {mac timer : Nat} {s : State} {t : State} (h : execPauseTimerExpiry mac timer s = .next t) :
    t.dev.mask T = s.dev.mask T ∧ t.pending = s.pending := by
  refine State.become_frame h (Dev.mask_mono (a := 9223372036854775810) ?_ hT)
  repeat' (first | with_reducible rfl | (simp (disch := decide) only [Dev.mask_ite, ite_self, Dev.loadTimer_mask, Dev.updatePaused_mask]; done) | split | (dsimp only; split) | rfl)
theorem execPauseWatchdog_frame {T : Nat} (hT : subParts 9223372036857012742 T = true) {mac tc : Nat} {s : State} {t : State} (h : execPauseWatchdog mac tc s = .next t) :
    t.dev.mask T = s.dev.mask T ∧ t.pending = s.pending := by
  refine State.become_frame h (Dev.mask_mono (a := 9223372036857012742) ?_ hT)
  repeat' (first | with_reducible rfl | (simp (disch := decide) only [Dev.mask_ite, ite_self, Dev.pauseWatchdog_mask]; done) | split | (dsimp only; split) | rfl)
theorem execPciPowerStateChange_frame {T : Nat} (hT : subParts 2097152 T = true) {port pf : Nat} {d3 : Bool} {s : State} {t : State} (h : execPciPowerStateChange port pf d3 s = .next t) :
    t.dev.mask T = s.dev.mask T ∧ t.pending = s.pending := by
  refine State.become_frame h (Dev.mask_mono (a := 2097152) ?_ hT)
  repeat' (first | with_reducible rfl | (simp (disch := decide) only [Dev.mask_ite, ite_self, Dev.setD3_mask]; done) | split | (dsimp only; split) | rfl)
theorem execPcsModeWrite_frame {T : Nat} (hT : subParts 2236958 T = true) {req : Requester} {group : Nat} {mode : BitVec 2} {s : State} {t : State} (h : execPcsModeWrite req group mode s = .next t) :
    t.dev.mask T = s.dev.mask T ∧ t.pending = s.pending := by
  refine State.become_frame h (Dev.mask_mono (a := 2236958) ?_ hT)
  repeat' (first | with_reducible rfl | (simp (disch := first | decide | (intros; (repeat' (first | with_reducible rfl | (simp (disch := decide) only [Dev.mask_ite, ite_self, Dev.onWrite_mask, Dev.writeMode_mask]; done) | split | (dsimp only; split))))) only [Dev.mask_foldl, Dev.mask_ite, ite_self, Dev.onWrite_mask, Dev.writeMode_mask]; done) | split | (dsimp only; split) | rfl)
theorem execPcsRetuneDone_frame {T : Nat} (hT : subParts 46117097695975973406 T = true) {group : Nat} {s : State} {t : State} (h : execPcsRetuneDone group s = .next t) :
    t.dev.mask T = s.dev.mask T ∧ t.pending = s.pending := by
  refine State.become_frame h (Dev.mask_mono (a := 46117097695975973406) ?_ hT)
  repeat' (first | with_reducible rfl | (simp (disch := decide) only [Dev.mask_ite, ite_self, Dev.retuneDone_mask]; done) | split | (dsimp only; split) | rfl)
theorem execPendClear_frame {T : Nat} (hT : subParts 2236934 T = true) {req : Requester} {word : Nat} {mask : Word} {s : State} {t : State} (h : execPendClear req word mask s = .next t) :
    t.dev.mask T = s.dev.mask T ∧ t.pending = s.pending := by
  refine State.become_frame h (Dev.mask_mono (a := 2236934) ?_ hT)
  repeat' (first | with_reducible rfl | (simp (disch := first | decide | (intros; (repeat' (first | with_reducible rfl | (simp (disch := decide) only [Dev.mask_ite, ite_self, Dev.clearPendWord_mask, Dev.onWrite_mask]; done) | split | (dsimp only; split))))) only [Dev.mask_foldl, Dev.mask_ite, ite_self, Dev.clearPendWord_mask, Dev.onWrite_mask]; done) | split | (dsimp only; split) | rfl)
theorem execPerstAssert_frame {T : Nat} (hT : subParts 332041630838494994982 T = true) {port : Nat} {s : State} {t : State} (h : execPerstAssert port s = .next t) :
    t.dev.mask T = s.dev.mask T ∧ t.pending = s.pending := by
  refine State.become_frame h (Dev.mask_mono (a := 332041630838494994982) ?_ hT)
  repeat' (first | with_reducible rfl | (simp (disch := decide) only [Dev.mask_ite, ite_self, Dev.perstOn_mask]; done) | split | (dsimp only; split) | rfl)
theorem execPerstDeassert_frame {T : Nat} (hT : subParts 131072 T = true) {port : Nat} {s : State} {t : State} (h : execPerstDeassert port s = .next t) :
    t.dev.mask T = s.dev.mask T ∧ t.pending = s.pending := by
  refine State.become_frame h (Dev.mask_mono (a := 131072) ?_ hT)
  repeat' (first | with_reducible rfl | (simp (disch := decide) only [Dev.mask_ite, ite_self, Dev.perstOff_mask]; done) | split | (dsimp only; split) | rfl)
theorem execPfcReceive_frame {T : Nat} (hT : subParts 46117097902134403590 T = true) {mac : Nat} {bytes : List Byte} {s : State} {t : State} (h : execPfcReceive mac bytes s = .next t) :
    t.dev.mask T = s.dev.mask T ∧ t.pending = s.pending := by
  refine State.become_frame h (Dev.mask_mono (a := 46117097902134403590) ?_ hT)
  repeat' (first | with_reducible rfl | (simp (disch := decide) only [Dev.mask_ite, ite_self, Dev.receiveControl_mask]; done) | split | (dsimp only; split) | rfl)
theorem execPfcRefresh_frame {T : Nat} (hT : subParts 9223372036854776320 T = true) {mac cls : Nat} {s : State} {t : State} (h : execPfcRefresh mac cls s = .next t) :
    t.dev.mask T = s.dev.mask T ∧ t.pending = s.pending := by
  refine State.become_frame h (Dev.mask_mono (a := 9223372036854776320) ?_ hT)
  repeat' (first | with_reducible rfl | (simp (disch := decide) only [Dev.mask_ite, ite_self, Dev.refreshPfc_mask]; done) | split | (dsimp only; split) | rfl)
theorem execPhaseShed_frame {T : Nat} (hT : subParts 2826758 T = true) {rail phase : Nat} {s : State} {t : State} (h : execPhaseShed rail phase s = .next t) :
    t.dev.mask T = s.dev.mask T ∧ t.pending = s.pending := by
  refine State.become_frame h (Dev.mask_mono (a := 2826758) ?_ hT)
  repeat' (first | with_reducible rfl | (simp (disch := decide) only [Dev.mask_ite, ite_self, Dev.shedPhase_mask]; done) | split | (dsimp only; split) | rfl)
theorem execPoolSet_frame {T : Nat} (hT : subParts 1770887431076131774982 T = true) {channel : Nat} {s : State} {t : State} (h : execPoolSet channel s = .next t) :
    t.dev.mask T = s.dev.mask T ∧ t.pending = s.pending := by
  refine State.become_frame h (Dev.mask_mono (a := 1770887431076131774982) ?_ hT)
  repeat' (first | with_reducible rfl | (simp (disch := first | decide | (intros; (repeat' (first | with_reducible rfl | (simp (disch := decide) only [Dev.mask_ite, ite_self, Dev.fwServe_mask, Dev.setPool_mask]; done) | split | (dsimp only; split))))) only [Dev.mask_foldl, Dev.mask_ite, ite_self, Dev.fwServe_mask, Dev.setPool_mask]; done) | split | (dsimp only; split) | rfl)
theorem execPortSchedule_frame {T : Nat} (hT : subParts 48422940705189667334 T = true) {mac : Nat} {s : State} {t : State} (h : execPortSchedule mac s = .next t) :
    t.dev.mask T = s.dev.mask T ∧ t.pending = s.pending := by
  refine State.become_frame h (Dev.mask_mono (a := 48422940705189667334) ?_ hT)
  repeat' (first | with_reducible rfl | (simp (disch := decide) only [Dev.mask_ite, ite_self, Dev.schedulePort_mask]; done) | split | (dsimp only; split) | rfl)
theorem execPowerRequest_frame {T : Nat} (hT : subParts 2499078 T = true) {req : Requester} {target : BitVec 3} {s : State} {t : State} (h : execPowerRequest req target s = .next t) :
    t.dev.mask T = s.dev.mask T ∧ t.pending = s.pending := by
  refine State.become_frame h (Dev.mask_mono (a := 2499078) ?_ hT)
  repeat' (first | with_reducible rfl | (simp (disch := first | decide | (intros; (repeat' (first | with_reducible rfl | (simp (disch := decide) only [Dev.mask_ite, ite_self, Dev.onWrite_mask, Dev.powerRequest_mask]; done) | split | (dsimp only; split))))) only [Dev.mask_foldl, Dev.mask_ite, ite_self, Dev.onWrite_mask, Dev.powerRequest_mask]; done) | split | (dsimp only; split) | rfl)
theorem execPowerTransitionComplete_frame {T : Nat} (hT : subParts 138350818064557810206 T = true) {s : State} {t : State} (h : execPowerTransitionComplete s = .next t) :
    t.dev.mask T = s.dev.mask T ∧ t.pending = s.pending := by
  refine State.become_frame h (Dev.mask_mono (a := 138350818064557810206) ?_ hT)
  repeat' (first | with_reducible rfl | (simp (disch := decide) only [Dev.mask_ite, ite_self, Dev.finishMove_mask]; done) | split | (dsimp only; split) | rfl)
theorem execPoweredDownPageRead_frame {T : Nat} (hT : subParts 2236934 T = true) {req : Requester} {addr : Nat} {s : State} {t : State} (h : execPoweredDownPageRead req addr s = .next t) :
    t.dev.mask T = s.dev.mask T ∧ t.pending = s.pending := by
  refine State.become_frame h (Dev.mask_mono (a := 2236934) ?_ hT)
  repeat' (first | with_reducible rfl | (simp (disch := first | decide | (intros; (repeat' (first | with_reducible rfl | (simp (disch := decide) only [Dev.mask_ite, ite_self, Dev.onRead_mask]; done) | split | (dsimp only; split))))) only [Dev.mask_foldl, Dev.mask_ite, ite_self, Dev.onRead_mask]; done) | split | (dsimp only; split) | rfl)
theorem execPpsInEdge_frame {T : Nat} (hT : subParts 2236934 T = true) {s : State} {t : State} (h : execPpsInEdge s = .next t) :
    t.dev.mask T = s.dev.mask T ∧ t.pending = s.pending := by
  refine State.become_frame h (Dev.mask_mono (a := 2236934) ?_ hT)
  repeat' (first | with_reducible rfl | (simp (disch := decide) only [Dev.mask_ite, ite_self, Dev.pulse_mask, Dev.wset_mask]; done) | split | (dsimp only; split) | rfl)
theorem execPpsWidthExpiry_frame {T : Nat} (hT : subParts 262144 T = true) {s : State} {t : State} (h : execPpsWidthExpiry s = .next t) :
    t.dev.mask T = s.dev.mask T ∧ t.pending = s.pending := by
  refine State.become_frame h (Dev.mask_mono (a := 262144) ?_ hT)
  repeat' (first | with_reducible rfl | (simp (disch := decide) only [Dev.mask_ite, ite_self, Dev.setTim_mask]; done) | split | (dsimp only; split) | rfl)
theorem execPrgResponse_frame {T : Nat} (hT : subParts 443298327437712187942 T = true) {port group : Nat} {success : Bool} {s : State} {t : State} (h : execPrgResponse port group success s = .next t) :
    t.dev.mask T = s.dev.mask T ∧ t.pending = s.pending := by
  refine State.become_frame h (Dev.mask_mono (a := 443298327437712187942) ?_ hT)
  repeat' (first | with_reducible rfl | (simp (disch := decide) only [Dev.mask_ite, ite_self, Dev.groupResponse_mask]; done) | split | (dsimp only; split) | rfl)
theorem execPrivilegedReprobe_frame {T : Nat} (hT : subParts 18014415691589126 T = true) {packet probe : Nat} {s : State} {t : State} (h : execPrivilegedReprobe packet probe s = .next t) :
    t.dev.mask T = s.dev.mask T ∧ t.pending = s.pending := by
  refine State.become_frame h (Dev.mask_mono (a := 18014415691589126) ?_ hT)
  repeat' (first | with_reducible rfl | (simp (disch := decide) only [Dev.mask_ite, ite_self, Dev.reprobe_mask]; done) | split | (dsimp only; split) | rfl)
theorem execProgramStoreRead_frame {T : Nat} (hT : subParts 2236934 T = true) {req : Requester} {cluster : Nat} {s : State} {t : State} (h : execProgramStoreRead req cluster s = .next t) :
    t.dev.mask T = s.dev.mask T ∧ t.pending = s.pending := by
  refine State.become_frame h (Dev.mask_mono (a := 2236934) ?_ hT)
  repeat' (first | with_reducible rfl | (simp (disch := first | decide | (intros; (repeat' (first | with_reducible rfl | (simp (disch := decide) only [Dev.mask_ite, ite_self, Dev.emit_mask, Dev.onRead_mask, Dev.storeRead_mask]; done) | split | (dsimp only; split))))) only [Dev.mask_foldl, Dev.mask_ite, ite_self, Dev.emit_mask, Dev.onRead_mask, Dev.storeRead_mask]; done) | split | (dsimp only; split) | rfl)
theorem execProgramStoreUe_frame {T : Nat} (hT : subParts 36893711371107770886 T = true) {ctx : Nat} {s : State} {t : State} (h : execProgramStoreUe ctx s = .next t) :
    t.dev.mask T = s.dev.mask T ∧ t.pending = s.pending := by
  refine State.become_frame h (Dev.mask_mono (a := 36893711371107770886) ?_ hT)
  repeat' (first | with_reducible rfl | (simp (disch := decide) only [Dev.mask_ite, ite_self, Dev.storeUe_mask]; done) | split | (dsimp only; split) | rfl)
theorem execProgramStoreWrite_frame {T : Nat} (hT : subParts 203563526 T = true) {req : Requester} {cluster : Nat} {value : Word} {s : State} {t : State} (h : execProgramStoreWrite req cluster value s = .next t) :
    t.dev.mask T = s.dev.mask T ∧ t.pending = s.pending := by
  refine State.become_frame h (Dev.mask_mono (a := 203563526) ?_ hT)
  repeat' (first | with_reducible rfl | (simp (disch := first | decide | (intros; (repeat' (first | with_reducible rfl | (simp (disch := decide) only [Dev.mask_ite, ite_self, Dev.onWrite_mask, Dev.storeWrite_mask]; done) | split | (dsimp only; split))))) only [Dev.mask_foldl, Dev.mask_ite, ite_self, Dev.onWrite_mask, Dev.storeWrite_mask]; done) | split | (dsimp only; split) | rfl)
theorem execPsCrcRecompute_frame {T : Nat} (hT : subParts 134217730 T = true) {cluster bank : Nat} {s : State} {t : State} (h : execPsCrcRecompute cluster bank s = .next t) :
    t.dev.mask T = s.dev.mask T ∧ t.pending = s.pending := by
  refine State.become_frame h (Dev.mask_mono (a := 134217730) ?_ hT)
  repeat' (first | with_reducible rfl | (simp (disch := decide) only [Dev.mask_ite, ite_self, Dev.recomputeCrc_mask]; done) | split | (dsimp only; split) | rfl)
theorem execPtpClockLoad_frame {T : Nat} (hT : subParts 2499078 T = true) {req : Requester} {s : State} {t : State} (h : execPtpClockLoad req s = .next t) :
    t.dev.mask T = s.dev.mask T ∧ t.pending = s.pending := by
  refine State.become_frame h (Dev.mask_mono (a := 2499078) ?_ hT)
  repeat' (first | with_reducible rfl | (simp (disch := first | decide | (intros; (repeat' (first | with_reducible rfl | (simp (disch := decide) only [Dev.mask_ite, ite_self, Dev.loadClock_mask, Dev.timCommit_mask]; done) | split | (dsimp only; split))))) only [Dev.mask_foldl, Dev.mask_ite, ite_self, Dev.loadClock_mask, Dev.timCommit_mask]; done) | split | (dsimp only; split) | rfl)
theorem execPtpOffsetAdjust_frame {T : Nat} (hT : subParts 2499078 T = true) {req : Requester} {s : State} {t : State} (h : execPtpOffsetAdjust req s = .next t) :
    t.dev.mask T = s.dev.mask T ∧ t.pending = s.pending := by
  refine State.become_frame h (Dev.mask_mono (a := 2499078) ?_ hT)
  repeat' (first | with_reducible rfl | (simp (disch := first | decide | (intros; (repeat' (first | with_reducible rfl | (simp (disch := decide) only [Dev.mask_ite, ite_self, Dev.offsetClock_mask, Dev.timCommit_mask]; done) | split | (dsimp only; split))))) only [Dev.mask_foldl, Dev.mask_ite, ite_self, Dev.offsetClock_mask, Dev.timCommit_mask]; done) | split | (dsimp only; split) | rfl)
theorem execPtpSecondWrap_frame {T : Nat} (hT : subParts 2499078 T = true) {s : State} {t : State} (h : execPtpSecondWrap s = .next t) :
    t.dev.mask T = s.dev.mask T ∧ t.pending = s.pending := by
  refine State.become_frame h (Dev.mask_mono (a := 2499078) ?_ hT)
  repeat' (first | with_reducible rfl | (simp (disch := decide) only [Dev.mask_ite, ite_self, Dev.secondWrap_mask, Dev.setTim_mask]; done) | split | (dsimp only; split) | rfl)
theorem execQuarantineEnd_frame {T : Nat} (hT : subParts 10625542 T = true) {slice : Nat} {s : State} {t : State} (h : execQuarantineEnd slice s = .next t) :
    t.dev.mask T = s.dev.mask T ∧ t.pending = s.pending := by
  refine State.become_frame h (Dev.mask_mono (a := 10625542) ?_ hT)
  repeat' (first | with_reducible rfl | (simp (disch := decide) only [Dev.mask_ite, ite_self, Dev.endQuarantine_mask]; done) | split | (dsimp only; split) | rfl)
theorem execQueCreate_frame {T : Nat} (hT : subParts 61481510 T = true) {s : State} {t : State} (h : execQueCreate s = .next t) :
    t.dev.mask T = s.dev.mask T ∧ t.pending = s.pending := by
  refine State.become_frame h (Dev.mask_mono (a := 61481510) ?_ hT)
  repeat' (first | with_reducible rfl | (simp (disch := first | decide | (intros; (repeat' (first | with_reducible rfl | (simp (disch := decide) only [Dev.mask_ite, ite_self, Dev.createQueue_mask, Dev.queOp_mask]; done) | split | (dsimp only; split))))) only [Dev.mask_foldl, Dev.mask_ite, ite_self, Dev.createQueue_mask, Dev.queOp_mask]; done) | split | (dsimp only; split) | rfl)
theorem execQueDestroy_frame {T : Nat} (hT : subParts 36893725659171529254 T = true) {s : State} {t : State} (h : execQueDestroy s = .next t) :
    t.dev.mask T = s.dev.mask T ∧ t.pending = s.pending := by
  refine State.become_frame h (Dev.mask_mono (a := 36893725659171529254) ?_ hT)
  repeat' (first | with_reducible rfl | (simp (disch := first | decide | (intros; (repeat' (first | with_reducible rfl | (simp (disch := decide) only [Dev.mask_ite, ite_self, Dev.destroyQueue_mask, Dev.queOp_mask]; done) | split | (dsimp only; split))))) only [Dev.mask_foldl, Dev.mask_ite, ite_self, Dev.destroyQueue_mask, Dev.queOp_mask]; done) | split | (dsimp only; split) | rfl)
theorem execQueModify_frame {T : Nat} (hT : subParts 36315686 T = true) {s : State} {t : State} (h : execQueModify s = .next t) :
    t.dev.mask T = s.dev.mask T ∧ t.pending = s.pending := by
  refine State.become_frame h (Dev.mask_mono (a := 36315686) ?_ hT)
  repeat' (first | with_reducible rfl | (simp (disch := first | decide | (intros; (repeat' (first | with_reducible rfl | (simp (disch := decide) only [Dev.mask_ite, ite_self, Dev.modifyQueue_mask, Dev.queOp_mask]; done) | split | (dsimp only; split))))) only [Dev.mask_foldl, Dev.mask_ite, ite_self, Dev.modifyQueue_mask, Dev.queOp_mask]; done) | split | (dsimp only; split) | rfl)
theorem execQueRead_frame {T : Nat} (hT : subParts 35791366 T = true) {s : State} {t : State} (h : execQueRead s = .next t) :
    t.dev.mask T = s.dev.mask T ∧ t.pending = s.pending := by
  refine State.become_frame h (Dev.mask_mono (a := 35791366) ?_ hT)
  repeat' (first | with_reducible rfl | (simp (disch := first | decide | (intros; (repeat' (first | with_reducible rfl | (simp (disch := decide) only [Dev.mask_ite, ite_self, Dev.queOp_mask, Dev.readQueue_mask]; done) | split | (dsimp only; split))))) only [Dev.mask_foldl, Dev.mask_ite, ite_self, Dev.queOp_mask, Dev.readQueue_mask]; done) | split | (dsimp only; split) | rfl)
theorem execQuery_frame {T : Nat} (hT : subParts 35791366 T = true) {s : State} {t : State} (h : execQuery s = .next t) :
    t.dev.mask T = s.dev.mask T ∧ t.pending = s.pending := by
  refine State.become_frame h (Dev.mask_mono (a := 35791366) ?_ hT)
  refine Dev.portExec_mask (by decide) _ _ _ _ ?_
  intro d a
  dsimp only
  split
  · exact Dev.slotRefused_mask (by decide) _ _
  · split
    · rfl
    · exact Dev.mask_foldl (fun d a => Dev.wr_mask (by decide) _ _ _) _ _
theorem execQueueOp_frame {T : Nat} (hT : subParts 1217485346376583356966 T = true) {s : State} {t : State} (h : execQueueOp s = .next t) :
    t.dev.mask T = s.dev.mask T ∧ t.pending = s.pending := by
  refine State.become_frame h (Dev.mask_mono (a := 1217485346376583356966) ?_ hT)
  repeat' (first | with_reducible rfl | (simp (disch := first | decide | (intros; (repeat' (first | with_reducible rfl | (simp (disch := decide) only [Dev.mask_ite, ite_self, Dev.vendorQueue_mask, Dev.vendorServe_mask]; done) | split | (dsimp only; split))))) only [Dev.mask_foldl, Dev.mask_ite, ite_self, Dev.vendorQueue_mask, Dev.vendorServe_mask]; done) | split | (dsimp only; split) | rfl)
theorem execQueueReset_frame {T : Nat} (hT : subParts 405828607133329007142 T = true) {req : Option Requester} {queue : Nat} {s : State} {t : State} (h : execQueueReset req queue s = .next t) :
    t.dev.mask T = s.dev.mask T ∧ t.pending = s.pending := by
  refine State.become_frame h (Dev.mask_mono (a := 405828607133329007142) ?_ hT)
  repeat' (first | with_reducible rfl | (simp (disch := first | decide | (intros; (repeat' (first | with_reducible rfl | (simp (disch := decide) only [Dev.mask_ite, ite_self, Dev.commandQueue_mask, Dev.resetQueue_mask]; done) | split | (dsimp only; split))))) only [Dev.mask_foldl, Dev.mask_ite, ite_self, Dev.commandQueue_mask, Dev.resetQueue_mask]; done) | split | (dsimp only; split) | rfl)
theorem execQueueResume_frame {T : Nat} (hT : subParts 19014182 T = true) {req : Option Requester} {queue : Nat} {s : State} {t : State} (h : execQueueResume req queue s = .next t) :
    t.dev.mask T = s.dev.mask T ∧ t.pending = s.pending := by
  refine State.become_frame h (Dev.mask_mono (a := 19014182) ?_ hT)
  repeat' (first | with_reducible rfl | (simp (disch := first | decide | (intros; (repeat' (first | with_reducible rfl | (simp (disch := decide) only [Dev.mask_ite, ite_self, Dev.commandQueue_mask, Dev.resumeQueue_mask]; done) | split | (dsimp only; split))))) only [Dev.mask_foldl, Dev.mask_ite, ite_self, Dev.commandQueue_mask, Dev.resumeQueue_mask]; done) | split | (dsimp only; split) | rfl)
theorem execQueueStart_frame {T : Nat} (hT : subParts 19014182 T = true) {req : Option Requester} {queue : Nat} {s : State} {t : State} (h : execQueueStart req queue s = .next t) :
    t.dev.mask T = s.dev.mask T ∧ t.pending = s.pending := by
  refine State.become_frame h (Dev.mask_mono (a := 19014182) ?_ hT)
  repeat' (first | with_reducible rfl | (simp (disch := first | decide | (intros; (repeat' (first | with_reducible rfl | (simp (disch := decide) only [Dev.mask_ite, ite_self, Dev.commandQueue_mask, Dev.recordEnable_mask, Dev.startQueue_mask]; done) | split | (dsimp only; split))))) only [Dev.mask_foldl, Dev.mask_ite, ite_self, Dev.commandQueue_mask, Dev.recordEnable_mask, Dev.startQueue_mask]; done) | split | (dsimp only; split) | rfl)
theorem execQueueStop_frame {T : Nat} (hT : subParts 405828607133329007142 T = true) {req : Option Requester} {queue : Nat} {s : State} {t : State} (h : execQueueStop req queue s = .next t) :
    t.dev.mask T = s.dev.mask T ∧ t.pending = s.pending := by
  refine State.become_frame h (Dev.mask_mono (a := 405828607133329007142) ?_ hT)
  repeat' (first | with_reducible rfl | (simp (disch := first | decide | (intros; (repeat' (first | with_reducible rfl | (simp (disch := decide) only [Dev.mask_ite, ite_self, Dev.commandQueue_mask, Dev.recordEnable_mask, Dev.stopQueue_mask]; done) | split | (dsimp only; split))))) only [Dev.mask_foldl, Dev.mask_ite, ite_self, Dev.commandQueue_mask, Dev.recordEnable_mask, Dev.stopQueue_mask]; done) | split | (dsimp only; split) | rfl)
theorem execRead_frame {T : Nat} (hT : subParts 295147913975473250822 T = true) {queue : Nat} {s : State} {t : State} (h : execRead queue s = .next t) :
    t.dev.mask T = s.dev.mask T ∧ t.pending = s.pending := by
  refine State.become_frame h (Dev.mask_mono (a := 295147913975473250822) ?_ hT)
  repeat' (first | with_reducible rfl | (simp (disch := decide) only [Dev.mask_ite, ite_self, Dev.takeStorage_mask]; done) | split | (dsimp only; split) | rfl)
theorem execReadCompletionReceive_frame {T : Nat} (hT : subParts 517085303869989381094 T = true) {port : Nat} {target : ReadTarget} {answer : HostAnswer} {s : State} {t : State} (h : execReadCompletionReceive port target answer s = .next t) :
    t.dev.mask T = s.dev.mask T ∧ t.pending = s.pending := by
  refine State.become_frame h (Dev.mask_mono (a := 517085303869989381094) ?_ hT)
  repeat' (first | with_reducible rfl | (simp (disch := decide) only [Dev.mask_ite, ite_self, Dev.readCompletion_mask]; done) | split | (dsimp only; split) | rfl)
theorem execReadyToTransferReceive_frame {T : Nat} (hT : subParts 443298327437712171558 T = true) {session : Nat} {s : State} {t : State} (h : execReadyToTransferReceive session s = .next t) :
    t.dev.mask T = s.dev.mask T ∧ t.pending = s.pending := by
  refine State.become_frame h (Dev.mask_mono (a := 443298327437712171558) ?_ hT)
  repeat' (first | with_reducible rfl | (simp (disch := decide) only [Dev.mask_ite, ite_self, Dev.receiveR2t_mask]; done) | split | (dsimp only; split) | rfl)
theorem execRecordAccept_frame {T : Nat} (hT : subParts 36893714664004919814 T = true) {packet : Nat} {s : State} {t : State} (h : execRecordAccept packet s = .next t) :
    t.dev.mask T = s.dev.mask T ∧ t.pending = s.pending := by
  refine State.become_frame h (Dev.mask_mono (a := 36893714664004919814) ?_ hT)
  repeat' (first | with_reducible rfl | (simp (disch := decide) only [Dev.mask_ite, ite_self, Dev.acceptRecord_mask]; done) | split | (dsimp only; split) | rfl)
theorem execRecordRelease_frame {T : Nat} (hT : subParts 17179869184 T = true) {packet : Nat} {s : State} {t : State} (h : execRecordRelease packet s = .next t) :
    t.dev.mask T = s.dev.mask T ∧ t.pending = s.pending := by
  refine State.become_frame h (Dev.mask_mono (a := 17179869184) ?_ hT)
  repeat' (first | with_reducible rfl | (simp (disch := decide) only [Dev.mask_ite, ite_self, Dev.releaseRecord_mask]; done) | split | (dsimp only; split) | rfl)
theorem execRecv_frame {T : Nat} (hT : subParts 16777216 T = true) {queue : Nat} {s : State} {t : State} (h : execRecv queue s = .next t) :
    t.dev.mask T = s.dev.mask T ∧ t.pending = s.pending := by
  refine State.become_frame h (Dev.mask_mono (a := 16777216) ?_ hT)
  repeat' (first | with_reducible rfl | (simp (disch := decide) only [Dev.mask_ite, ite_self, Dev.postBuffer_mask]; done) | split | (dsimp only; split) | rfl)
theorem execRefInputLoss_frame {T : Nat} (hT : subParts 2564614 T = true) {s : State} {t : State} (h : execRefInputLoss s = .next t) :
    t.dev.mask T = s.dev.mask T ∧ t.pending = s.pending := by
  refine State.become_frame h (Dev.mask_mono (a := 2564614) ?_ hT)
  repeat' (first | with_reducible rfl | (simp (disch := decide) only [Dev.mask_ite, ite_self, Dev.refLoss_mask]; done) | split | (dsimp only; split) | rfl)
theorem execRegisterWrite_frame {T : Nat} (hT : subParts 2361183241434822599294 T = true) {req : Requester} {addr : Nat} {value : Word} {be : BitVec 4} {s : State} {t : State} (h : execRegisterWrite req addr value be s = .next t) :
    t.dev.mask T = s.dev.mask T ∧ t.pending = s.pending := by
  refine State.become_frame h (Dev.mask_mono (a := 2361183241434822599294) ?_ hT)
  repeat' (first | with_reducible rfl | (simp (disch := decide) only [Dev.mask_ite, ite_self, Dev.writeAt_mask]; done) | split | (dsimp only; split) | rfl)
theorem execResultHandoff_frame {T : Nat} (hT : subParts 17179869184 T = true) {packet : Nat} {s : State} {t : State} (h : execResultHandoff packet s = .next t) :
    t.dev.mask T = s.dev.mask T ∧ t.pending = s.pending := by
  refine State.become_frame h (Dev.mask_mono (a := 17179869184) ?_ hT)
  repeat' (first | with_reducible rfl | (simp (disch := decide) only [Dev.mask_ite, ite_self, Dev.handOff_mask]; done) | split | (dsimp only; split) | rfl)
theorem execRet_frame {T : Nat} (hT : subParts 36893711366275342854 T = true) {core : Nat} {s : State} {t : State} (h : execRet core s = .next t) :
    t.dev.mask T = s.dev.mask T ∧ t.pending = s.pending := by
  refine State.become_frame h (Dev.mask_mono (a := 36893711366275342854) ?_ hT)
  repeat' (first | with_reducible rfl | (simp (disch := decide) only [Dev.mask_ite, ite_self, Dev.issue_mask]; done) | split | (dsimp only; split) | rfl)
theorem execRetire_frame {T : Nat} (hT : subParts 73786976294882386438 T = true) {s : State} {t : State} (h : execRetire s = .next t) :
    t.dev.mask T = s.dev.mask T ∧ t.pending = s.pending := by
  refine State.become_frame h (Dev.mask_mono (a := 73786976294882386438) ?_ hT)
  repeat' (first | with_reducible rfl | (simp (disch := first | decide | (intros; (repeat' (first | with_reducible rfl | (simp (disch := decide) only [Dev.mask_ite, ite_self, Dev.keyRetire_mask, Dev.portExec_mask, Dev.slotRefused_mask]; done) | split | (dsimp only; split))))) only [Dev.mask_foldl, Dev.mask_ite, ite_self, Dev.keyRetire_mask, Dev.portExec_mask, Dev.slotRefused_mask]; done) | split | (dsimp only; split) | rfl)
theorem execRetransmissionTimeout_frame {T : Nat} (hT : subParts 443298327437712171558 T = true) {session : Nat} {s : State} {t : State} (h : execRetransmissionTimeout session s = .next t) :
    t.dev.mask T = s.dev.mask T ∧ t.pending = s.pending := by
  refine State.become_frame h (Dev.mask_mono (a := 443298327437712171558) ?_ hT)
  repeat' (first | with_reducible rfl | (simp (disch := decide) only [Dev.mask_ite, ite_self, Dev.retransmitTimeout_mask]; done) | split | (dsimp only; split) | rfl)
theorem execRhint_frame {T : Nat} (hT : subParts 36893711366275342854 T = true) {core : Nat} {s : State} {t : State} (h : execRhint core s = .next t) :
    t.dev.mask T = s.dev.mask T ∧ t.pending = s.pending := by
  refine State.become_frame h (Dev.mask_mono (a := 36893711366275342854) ?_ hT)
  repeat' (first | with_reducible rfl | (simp (disch := decide) only [Dev.mask_ite, ite_self, Dev.issue_mask]; done) | split | (dsimp only; split) | rfl)
theorem execRollComplete_frame {T : Nat} (hT : subParts 147573952589678649862 T = true) {sa : Nat} {s : State} {t : State} (h : execRollComplete sa s = .next t) :
    t.dev.mask T = s.dev.mask T ∧ t.pending = s.pending := by
  refine State.become_frame h (Dev.mask_mono (a := 147573952589678649862) ?_ hT)
  repeat' (first | with_reducible rfl | (simp (disch := decide) only [Dev.mask_ite, ite_self, Dev.rollDone_mask]; done) | split | (dsimp only; split) | rfl)
theorem execRouteUnmask_frame {T : Nat} (hT : subParts 2236934 T = true) {req : Requester} {source : Nat} {s : State} {t : State} (h : execRouteUnmask req source s = .next t) :
    t.dev.mask T = s.dev.mask T ∧ t.pending = s.pending := by
  refine State.become_frame h (Dev.mask_mono (a := 2236934) ?_ hT)
  repeat' (first | with_reducible rfl | (simp (disch := first | decide | (intros; (repeat' (first | with_reducible rfl | (simp (disch := decide) only [Dev.mask_ite, ite_self, Dev.onWrite_mask, Dev.unmaskRoute_mask]; done) | split | (dsimp only; split))))) only [Dev.mask_foldl, Dev.mask_ite, ite_self, Dev.onWrite_mask, Dev.unmaskRoute_mask]; done) | split | (dsimp only; split) | rfl)
theorem execRxHoldExpiry_frame {T : Nat} (hT : subParts 332041630838490801030 T = true) {queue : Nat} {s : State} {t : State} (h : execRxHoldExpiry queue s = .next t) :
    t.dev.mask T = s.dev.mask T ∧ t.pending = s.pending := by
  refine State.become_frame h (Dev.mask_mono (a := 332041630838490801030) ?_ hT)
  repeat' (first | with_reducible rfl | (simp (disch := decide) only [Dev.mask_ite, ite_self, Dev.holdExpires_mask]; done) | split | (dsimp only; split) | rfl)
theorem execSaDisable_frame {T : Nat} (hT : subParts 1180591620717447094822 T = true) {s : State} {t : State} (h : execSaDisable s = .next t) :
    t.dev.mask T = s.dev.mask T ∧ t.pending = s.pending := by
  refine State.become_frame h (Dev.mask_mono (a := 1180591620717447094822) ?_ hT)
  refine Dev.vendorServe_mask (by decide) _ _ _ _ _ ?_
  intro d a b
  exact Dev.vendorSa_mask (by decide) _ _ _ (fun n => by exact Dev.saDisable_mask (by decide) _ _)
theorem execSaRead_frame {T : Nat} (hT : subParts 1180591620717447094790 T = true) {s : State} {t : State} (h : execSaRead s = .next t) :
    t.dev.mask T = s.dev.mask T ∧ t.pending = s.pending := by
  refine State.become_frame h (Dev.mask_mono (a := 1180591620717447094790) ?_ hT)
  refine Dev.vendorServe_mask (by decide) _ _ _ _ _ ?_
  intro d a b
  exact Dev.vendorSa_mask (by decide) _ _ _ (fun n => by rfl)
theorem execSaRoll_frame {T : Nat} (hT : subParts 1328165573307123507750 T = true) {s : State} {t : State} (h : execSaRoll s = .next t) :
    t.dev.mask T = s.dev.mask T ∧ t.pending = s.pending := by
  refine State.become_frame h (Dev.mask_mono (a := 1328165573307123507750) ?_ hT)
  refine Dev.vendorServe_mask (by decide) _ _ _ _ _ ?_
  intro d a b
  exact Dev.vendorSa_mask (by decide) _ _ _ (fun n => by exact Dev.saRoll_mask (by decide) _ _ _)
theorem execSaWrite_frame {T : Nat} (hT : subParts 1328165573307124032038 T = true) {s : State} {t : State} (h : execSaWrite s = .next t) :
    t.dev.mask T = s.dev.mask T ∧ t.pending = s.pending := by
  refine State.become_frame h (Dev.mask_mono (a := 1328165573307124032038) ?_ hT)
  repeat' (first | with_reducible rfl | (simp (disch := first | decide | (intros; (repeat' (first | with_reducible rfl | (simp (disch := decide) only [Dev.mask_ite, ite_self, Dev.vendorSaWrite_mask, Dev.vendorServe_mask]; done) | split | (dsimp only; split))))) only [Dev.mask_foldl, Dev.mask_ite, ite_self, Dev.vendorSaWrite_mask, Dev.vendorServe_mask]; done) | split | (dsimp only; split) | rfl)
theorem execScanNow_frame {T : Nat} (hT : subParts 46117097695976563222 T = true) {req : Requester} {page : Nat} {s : State} {t : State} (h : execScanNow req page s = .next t) :
    t.dev.mask T = s.dev.mask T ∧ t.pending = s.pending := by
  refine State.become_frame h (Dev.mask_mono (a := 46117097695976563222) ?_ hT)
  repeat' (first | with_reducible rfl | (simp (disch := first | decide | (intros; (repeat' (first | with_reducible rfl | (simp (disch := decide) only [Dev.mask_ite, ite_self, Dev.onHeader_mask, Dev.scanNow_mask]; done) | split | (dsimp only; split))))) only [Dev.mask_foldl, Dev.mask_ite, ite_self, Dev.onHeader_mask, Dev.scanNow_mask]; done) | split | (dsimp only; split) | rfl)
theorem execScrubRound_frame {T : Nat} (hT : subParts 2236934 T = true) {device corrected : Nat} {s : State} {t : State} (h : execScrubRound device corrected s = .next t) :
    t.dev.mask T = s.dev.mask T ∧ t.pending = s.pending := by
  refine State.become_frame h (Dev.mask_mono (a := 2236934) ?_ hT)
  repeat' (first | with_reducible rfl | (simp (disch := decide) only [Dev.mask_ite, ite_self, Dev.scrubRound_mask]; done) | split | (dsimp only; split) | rfl)
theorem execSend_frame {T : Nat} (hT : subParts 443298327575151125030 T = true) {queue : Nat} {answer : HostAnswer} {s : State} {t : State} (h : execSend queue answer s = .next t) :
    t.dev.mask T = s.dev.mask T ∧ t.pending = s.pending := by
  refine State.become_frame h (Dev.mask_mono (a := 443298327575151125030) ?_ hT)
  repeat' (first | with_reducible rfl | (simp (disch := decide) only [Dev.mask_ite, ite_self, Dev.sendEntry_mask]; done) | split | (dsimp only; split) | rfl)
theorem execSesClose_frame {T : Nat} (hT : subParts 295147913975506805286 T = true) {s : State} {t : State} (h : execSesClose s = .next t) :
    t.dev.mask T = s.dev.mask T ∧ t.pending = s.pending := by
  refine State.become_frame h (Dev.mask_mono (a := 295147913975506805286) ?_ hT)
  repeat' (first | with_reducible rfl | (simp (disch := decide) only [Dev.mask_ite, ite_self, Dev.sesClose_mask]; done) | split | (dsimp only; split) | rfl)
theorem execSesCtl_frame {T : Nat} (hT : subParts 1623889948155157029414 T = true) {s : State} {t : State} (h : execSesCtl s = .next t) :
    t.dev.mask T = s.dev.mask T ∧ t.pending = s.pending := by
  refine State.become_frame h (Dev.mask_mono (a := 1623889948155157029414) ?_ hT)
  repeat' (first | with_reducible rfl | (simp (disch := first | decide | (intros; (repeat' (first | with_reducible rfl | (simp (disch := decide) only [Dev.mask_ite, ite_self, Dev.vendorServe_mask, Dev.vendorSes_mask]; done) | split | (dsimp only; split))))) only [Dev.mask_foldl, Dev.mask_ite, ite_self, Dev.vendorServe_mask, Dev.vendorSes_mask]; done) | split | (dsimp only; split) | rfl)
theorem execSesGo_frame {T : Nat} (hT : subParts 443298327437728948774 T = true) {s : State} {t : State} (h : execSesGo s = .next t) :
    t.dev.mask T = s.dev.mask T ∧ t.pending = s.pending := by
  refine State.become_frame h (Dev.mask_mono (a := 443298327437728948774) ?_ hT)
  repeat' (first | with_reducible rfl | (simp (disch := decide) only [Dev.mask_ite, ite_self, Dev.sesGo_mask]; done) | split | (dsimp only; split) | rfl)
theorem execSesOpen_frame {T : Nat} (hT : subParts 295724374848052536870 T = true) {s : State} {t : State} (h : execSesOpen s = .next t) :
    t.dev.mask T = s.dev.mask T ∧ t.pending = s.pending := by
  refine State.become_frame h (Dev.mask_mono (a := 295724374848052536870) ?_ hT)
  repeat' (first | with_reducible rfl | (simp (disch := first | decide | (intros; (repeat' (first | with_reducible rfl | (simp (disch := decide) only [Dev.mask_ite, ite_self, Dev.openSession_mask, Dev.sesOp_mask]; done) | split | (dsimp only; split))))) only [Dev.mask_foldl, Dev.mask_ite, ite_self, Dev.openSession_mask, Dev.sesOp_mask]; done) | split | (dsimp only; split) | rfl)
theorem execSesRead_frame {T : Nat} (hT : subParts 35791366 T = true) {s : State} {t : State} (h : execSesRead s = .next t) :
    t.dev.mask T = s.dev.mask T ∧ t.pending = s.pending := by
  refine State.become_frame h (Dev.mask_mono (a := 35791366) ?_ hT)
  repeat' (first | with_reducible rfl | (simp (disch := first | decide | (intros; (repeat' (first | with_reducible rfl | (simp (disch := decide) only [Dev.mask_ite, ite_self, Dev.sesOp_mask, Dev.stoResult_mask]; done) | split | (dsimp only; split))))) only [Dev.mask_foldl, Dev.mask_ite, ite_self, Dev.sesOp_mask, Dev.stoResult_mask]; done) | split | (dsimp only; split) | rfl)
theorem execSesReset_frame {T : Nat} (hT : subParts 443298327437745725990 T = true) {s : State} {t : State} (h : execSesReset s = .next t) :
    t.dev.mask T = s.dev.mask T ∧ t.pending = s.pending := by
  refine State.become_frame h (Dev.mask_mono (a := 443298327437745725990) ?_ hT)
  repeat' (first | with_reducible rfl | (simp (disch := decide) only [Dev.mask_ite, ite_self, Dev.sesReset_mask]; done) | split | (dsimp only; split) | rfl)
theorem execSesWrite_frame {T : Nat} (hT : subParts 295147905179388617254 T = true) {s : State} {t : State} (h : execSesWrite s = .next t) :
    t.dev.mask T = s.dev.mask T ∧ t.pending = s.pending := by
  refine State.become_frame h (Dev.mask_mono (a := 295147905179388617254) ?_ hT)
  repeat' (first | with_reducible rfl | (simp (disch := first | decide | (intros; (repeat' (first | with_reducible rfl | (simp (disch := decide) only [Dev.mask_ite, ite_self, Dev.noteSes_mask, Dev.portExec_mask, Dev.sesWrite_mask]; done) | split | (dsimp only; split))))) only [Dev.mask_foldl, Dev.mask_ite, ite_self, Dev.noteSes_mask, Dev.portExec_mask, Dev.sesWrite_mask]; done) | split | (dsimp only; split) | rfl)
theorem execSessionDrained_frame {T : Nat} (hT : subParts 295724374848018981414 T = true) {session : Nat} {s : State} {t : State} (h : execSessionDrained session s = .next t) :
    t.dev.mask T = s.dev.mask T ∧ t.pending = s.pending := by
  refine State.become_frame h (Dev.mask_mono (a := 295724374848018981414) ?_ hT)
  repeat' (first | with_reducible rfl | (simp (disch := decide) only [Dev.mask_ite, ite_self, Dev.drainSession_mask]; done) | split | (dsimp only; split) | rfl)
theorem execShl_frame {T : Nat} (hT : subParts 36893711366275342854 T = true) {core : Nat} {s : State} {t : State} (h : execShl core s = .next t) :
    t.dev.mask T = s.dev.mask T ∧ t.pending = s.pending := by
  refine State.become_frame h (Dev.mask_mono (a := 36893711366275342854) ?_ hT)
  repeat' (first | with_reducible rfl | (simp (disch := decide) only [Dev.mask_ite, ite_self, Dev.issue_mask]; done) | split | (dsimp only; split) | rfl)
theorem execShli_frame {T : Nat} (hT : subParts 36893711366275342854 T = true) {core : Nat} {s : State} {t : State} (h : execShli core s = .next t) :
    t.dev.mask T = s.dev.mask T ∧ t.pending = s.pending := by
  refine State.become_frame h (Dev.mask_mono (a := 36893711366275342854) ?_ hT)
  repeat' (first | with_reducible rfl | (simp (disch := decide) only [Dev.mask_ite, ite_self, Dev.issue_mask]; done) | split | (dsimp only; split) | rfl)
theorem execShr_frame {T : Nat} (hT : subParts 36893711366275342854 T = true) {core : Nat} {s : State} {t : State} (h : execShr core s = .next t) :
    t.dev.mask T = s.dev.mask T ∧ t.pending = s.pending := by
  refine State.become_frame h (Dev.mask_mono (a := 36893711366275342854) ?_ hT)
  repeat' (first | with_reducible rfl | (simp (disch := decide) only [Dev.mask_ite, ite_self, Dev.issue_mask]; done) | split | (dsimp only; split) | rfl)
theorem execShri_frame {T : Nat} (hT : subParts 36893711366275342854 T = true) {core : Nat} {s : State} {t : State} (h : execShri core s = .next t) :
    t.dev.mask T = s.dev.mask T ∧ t.pending = s.pending := by
  refine State.become_frame h (Dev.mask_mono (a := 36893711366275342854) ?_ hT)
  repeat' (first | with_reducible rfl | (simp (disch := decide) only [Dev.mask_ite, ite_self, Dev.issue_mask]; done) | split | (dsimp only; split) | rfl)
theorem execSitClear_frame {T : Nat} (hT : subParts 39985670 T = true) {port : Nat} {s : State} {t : State} (h : execSitClear port s = .next t) :
    t.dev.mask T = s.dev.mask T ∧ t.pending = s.pending := by
  refine State.become_frame h (Dev.mask_mono (a := 39985670) ?_ hT)
  repeat' (first | with_reducible rfl | (simp (disch := first | decide | (intros; (repeat' (first | with_reducible rfl | (simp (disch := decide) only [Dev.mask_ite, ite_self, Dev.setSit_mask, Dev.sitOp_mask]; done) | split | (dsimp only; split))))) only [Dev.mask_foldl, Dev.mask_ite, ite_self, Dev.setSit_mask, Dev.sitOp_mask]; done) | split | (dsimp only; split) | rfl)
theorem execSitMaskWrite_frame {T : Nat} (hT : subParts 4194820 T = true) {slice entry : Nat} {mask : Bool} {s : State} {t : State} (h : execSitMaskWrite slice entry mask s = .next t) :
    t.dev.mask T = s.dev.mask T ∧ t.pending = s.pending := by
  refine State.become_frame h (Dev.mask_mono (a := 4194820) ?_ hT)
  repeat' (first | with_reducible rfl | (simp (disch := decide) only [Dev.mask_ite, ite_self, Dev.sitMask_mask]; done) | split | (dsimp only; split) | rfl)
theorem execSitRead_frame {T : Nat} (hT : subParts 35791366 T = true) {port : Nat} {s : State} {t : State} (h : execSitRead port s = .next t) :
    t.dev.mask T = s.dev.mask T ∧ t.pending = s.pending := by
  refine State.become_frame h (Dev.mask_mono (a := 35791366) ?_ hT)
  repeat' (first | with_reducible rfl | (simp (disch := first | decide | (intros; (repeat' (first | with_reducible rfl | (simp (disch := decide) only [Dev.mask_ite, ite_self, Dev.sitOp_mask, Dev.wr_mask]; done) | split | (dsimp only; split))))) only [Dev.mask_foldl, Dev.mask_ite, ite_self, Dev.sitOp_mask, Dev.wr_mask]; done) | split | (dsimp only; split) | rfl)
theorem execSitWrite_frame {T : Nat} (hT : subParts 39985670 T = true) {port : Nat} {s : State} {t : State} (h : execSitWrite port s = .next t) :
    t.dev.mask T = s.dev.mask T ∧ t.pending = s.pending := by
  refine State.become_frame h (Dev.mask_mono (a := 39985670) ?_ hT)
  repeat' (first | with_reducible rfl | (simp (disch := first | decide | (intros; (repeat' (first | with_reducible rfl | (simp (disch := decide) only [Dev.mask_ite, ite_self, Dev.setSit_mask, Dev.sitOp_mask]; done) | split | (dsimp only; split))))) only [Dev.mask_foldl, Dev.mask_ite, ite_self, Dev.setSit_mask, Dev.sitOp_mask]; done) | split | (dsimp only; split) | rfl)
theorem execSlcCreate_frame {T : Nat} (hT : subParts 1180591620717459677702 T = true) {s : State} {t : State} (h : execSlcCreate s = .next t) :
    t.dev.mask T = s.dev.mask T ∧ t.pending = s.pending := by
  refine State.become_frame h (Dev.mask_mono (a := 1180591620717459677702) ?_ hT)
  repeat' (first | with_reducible rfl | (simp (disch := first | decide | (intros; (repeat' (first | with_reducible rfl | (simp (disch := decide) only [Dev.mask_ite, ite_self, Dev.charterChanged_mask, Dev.portExec_mask, Dev.sliceCreate_mask]; done) | split | (dsimp only; split))))) only [Dev.mask_foldl, Dev.mask_ite, ite_self, Dev.charterChanged_mask, Dev.portExec_mask, Dev.sliceCreate_mask]; done) | split | (dsimp only; split) | rfl)
theorem execSlcDestroy_frame {T : Nat} (hT : subParts 2176716038209483711014 T = true) {s : State} {t : State} (h : execSlcDestroy s = .next t) :
    t.dev.mask T = s.dev.mask T ∧ t.pending = s.pending := by
  refine State.become_frame h (Dev.mask_mono (a := 2176716038209483711014) ?_ hT)
  repeat' (first | with_reducible rfl | (simp (disch := first | decide | (intros; (repeat' (first | with_reducible rfl | (simp (disch := decide) only [Dev.mask_ite, ite_self, Dev.charterChanged_mask, Dev.portExec_mask, Dev.sliceDestroy_mask]; done) | split | (dsimp only; split))))) only [Dev.mask_foldl, Dev.mask_ite, ite_self, Dev.charterChanged_mask, Dev.portExec_mask, Dev.sliceDestroy_mask]; done) | split | (dsimp only; split) | rfl)
theorem execSlcModify_frame {T : Nat} (hT : subParts 48374278 T = true) {s : State} {t : State} (h : execSlcModify s = .next t) :
    t.dev.mask T = s.dev.mask T ∧ t.pending = s.pending := by
  refine State.become_frame h (Dev.mask_mono (a := 48374278) ?_ hT)
  repeat' (first | with_reducible rfl | (simp (disch := first | decide | (intros; (repeat' (first | with_reducible rfl | (simp (disch := decide) only [Dev.mask_ite, ite_self, Dev.charterChanged_mask, Dev.portExec_mask, Dev.sliceModify_mask]; done) | split | (dsimp only; split))))) only [Dev.mask_foldl, Dev.mask_ite, ite_self, Dev.charterChanged_mask, Dev.portExec_mask, Dev.sliceModify_mask]; done) | split | (dsimp only; split) | rfl)
theorem execSlcRead_frame {T : Nat} (hT : subParts 35791366 T = true) {s : State} {t : State} (h : execSlcRead s = .next t) :
    t.dev.mask T = s.dev.mask T ∧ t.pending = s.pending := by
  refine State.become_frame h (Dev.mask_mono (a := 35791366) ?_ hT)
  repeat' (first | with_reducible rfl | (simp (disch := first | decide | (intros; (repeat' (first | with_reducible rfl | (simp (disch := decide) only [Dev.mask_ite, ite_self, Dev.portExec_mask, Dev.sliceRead_mask]; done) | split | (dsimp only; split))))) only [Dev.mask_foldl, Dev.mask_ite, ite_self, Dev.portExec_mask, Dev.sliceRead_mask]; done) | split | (dsimp only; split) | rfl)
theorem execSliceCounterLoRead_frame {T : Nat} (hT : subParts 8389120 T = true) {slice counter : Nat} {s : State} {t : State} (h : execSliceCounterLoRead slice counter s = .next t) :
    t.dev.mask T = s.dev.mask T ∧ t.pending = s.pending := by
  refine State.become_frame h (Dev.mask_mono (a := 8389120) ?_ hT)
  repeat' (first | with_reducible rfl | (simp (disch := decide) only [Dev.mask_ite, ite_self, Dev.readLo_mask]; done) | split | (dsimp only; split) | rfl)
theorem execSliceCreate_frame {T : Nat} (hT : subParts 1770887431076165329414 T = true) {channel : Nat} {s : State} {t : State} (h : execSliceCreate channel s = .next t) :
    t.dev.mask T = s.dev.mask T ∧ t.pending = s.pending := by
  refine State.become_frame h (Dev.mask_mono (a := 1770887431076165329414) ?_ hT)
  repeat' (first | with_reducible rfl | (simp (disch := first | decide | (intros; (repeat' (first | with_reducible rfl | (simp (disch := decide) only [Dev.mask_ite, ite_self, Dev.fwCharter_mask, Dev.sliceCreate_mask]; done) | split | (dsimp only; split))))) only [Dev.mask_foldl, Dev.mask_ite, ite_self, Dev.fwCharter_mask, Dev.sliceCreate_mask]; done) | split | (dsimp only; split) | rfl)
theorem execSliceDestroy_frame {T : Nat} (hT : subParts 2176716038209483711014 T = true) {channel : Nat} {s : State} {t : State} (h : execSliceDestroy channel s = .next t) :
    t.dev.mask T = s.dev.mask T ∧ t.pending = s.pending := by
  refine State.become_frame h (Dev.mask_mono (a := 2176716038209483711014) ?_ hT)
  repeat' (first | with_reducible rfl | (simp (disch := decide) only [Dev.mask_ite, ite_self, Dev.fwDestroy_mask]; done) | split | (dsimp only; split) | rfl)
theorem execSliceInterruptRaise_frame {T : Nat} (hT : subParts 6431238 T = true) {slice entry stamp : Nat} {s : State} {t : State} (h : execSliceInterruptRaise slice entry stamp s = .next t) :
    t.dev.mask T = s.dev.mask T ∧ t.pending = s.pending := by
  refine State.become_frame h (Dev.mask_mono (a := 6431238) ?_ hT)
  repeat' (first | with_reducible rfl | (simp (disch := decide) only [Dev.mask_ite, ite_self, Dev.sliceInterrupt_mask]; done) | split | (dsimp only; split) | rfl)
theorem execSliceModify_frame {T : Nat} (hT : subParts 590295810358754025990 T = true) {channel : Nat} {s : State} {t : State} (h : execSliceModify channel s = .next t) :
    t.dev.mask T = s.dev.mask T ∧ t.pending = s.pending := by
  refine State.become_frame h (Dev.mask_mono (a := 590295810358754025990) ?_ hT)
  repeat' (first | with_reducible rfl | (simp (disch := first | decide | (intros; (repeat' (first | with_reducible rfl | (simp (disch := decide) only [Dev.mask_ite, ite_self, Dev.fwCharter_mask, Dev.sliceModify_mask]; done) | split | (dsimp only; split))))) only [Dev.mask_foldl, Dev.mask_ite, ite_self, Dev.fwCharter_mask, Dev.sliceModify_mask]; done) | split | (dsimp only; split) | rfl)
theorem execSliceWindowAccess_frame {T : Nat} (hT : subParts 996124417492038853158 T = true) {port slice offset rid : Nat} {write : Bool} {value : Word} {be : BitVec 4} {stream : Option Nat} {tbit : Bool} {s : State} {t : State} (h : execSliceWindowAccess port slice offset rid write value be stream tbit s = .next t) :
    t.dev.mask T = s.dev.mask T ∧ t.pending = s.pending := by
  refine State.become_frame h (Dev.mask_mono (a := 996124417492038853158) ?_ hT)
  repeat' (first | with_reducible rfl | (simp (disch := decide) only [Dev.mask_ite, ite_self, Dev.windowAccess_mask]; done) | split | (dsimp only; split) | rfl)
theorem execSlotZeroise_frame {T : Nat} (hT : subParts 73786976294848832038 T = true) {slot : Nat} {s : State} {t : State} (h : execSlotZeroise slot s = .next t) :
    t.dev.mask T = s.dev.mask T ∧ t.pending = s.pending := by
  refine State.become_frame h (Dev.mask_mono (a := 73786976294848832038) ?_ hT)
  repeat' (first | with_reducible rfl | (simp (disch := decide) only [Dev.mask_ite, ite_self, Dev.zeroiseRetired_mask]; done) | split | (dsimp only; split) | rfl)
theorem execSlowCrystalFail_frame {T : Nat} (hT : subParts 2499078 T = true) {s : State} {t : State} (h : execSlowCrystalFail s = .next t) :
    t.dev.mask T = s.dev.mask T ∧ t.pending = s.pending := by
  refine State.become_frame h (Dev.mask_mono (a := 2499078) ?_ hT)
  repeat' (first | with_reducible rfl | (simp (disch := decide) only [Dev.mask_ite, ite_self, Dev.crystalFail_mask]; done) | split | (dsimp only; split) | rfl)
theorem execSlowFreqMeasure_frame {T : Nat} (hT : subParts 4 T = true) {source : Nat} {frequency : BitVec 64} {s : State} {t : State} (h : execSlowFreqMeasure source frequency s = .next t) :
    t.dev.mask T = s.dev.mask T ∧ t.pending = s.pending := by
  refine State.become_frame h (Dev.mask_mono (a := 4) ?_ hT)
  repeat' (first | with_reducible rfl | (simp (disch := decide) only [Dev.mask_ite, ite_self, Dev.wset_mask]; done) | split | (dsimp only; split) | rfl)
theorem execSoftwareEvent_frame {T : Nat} (hT : subParts 2236934 T = true) {req : Requester} {events : BitVec 16} {s : State} {t : State} (h : execSoftwareEvent req events s = .next t) :
    t.dev.mask T = s.dev.mask T ∧ t.pending = s.pending := by
  refine State.become_frame h (Dev.mask_mono (a := 2236934) ?_ hT)
  repeat' (first | with_reducible rfl | (simp (disch := first | decide | (intros; (repeat' (first | with_reducible rfl | (simp (disch := decide) only [Dev.mask_ite, ite_self, Dev.onWrite_mask, Dev.softwareEvents_mask]; done) | split | (dsimp only; split))))) only [Dev.mask_foldl, Dev.mask_ite, ite_self, Dev.onWrite_mask, Dev.softwareEvents_mask]; done) | split | (dsimp only; split) | rfl)
theorem execSpdmSessionTimeout_frame {T : Nat} (hT : subParts 1180591620717411303424 T = true) {session : Nat} {s : State} {t : State} (h : execSpdmSessionTimeout session s = .next t) :
    t.dev.mask T = s.dev.mask T ∧ t.pending = s.pending := by
  refine State.become_frame h (Dev.mask_mono (a := 1180591620717411303424) ?_ hT)
  repeat' (first | with_reducible rfl | (simp (disch := decide) only [Dev.mask_ite, ite_self, Dev.endSession_mask]; done) | split | (dsimp only; split) | rfl)
theorem execSqPiDoorbell_frame {T : Nat} (hT : subParts 405828607133329007142 T = true) {port queue : Nat} {owner : Option Nat} {value : BitVec 17} {s : State} {t : State} (h : execSqPiDoorbell port queue owner value s = .next t) :
    t.dev.mask T = s.dev.mask T ∧ t.pending = s.pending := by
  refine State.become_frame h (Dev.mask_mono (a := 405828607133329007142) ?_ hT)
  repeat' (first | with_reducible rfl | (simp (disch := decide) only [Dev.mask_ite, ite_self, Dev.doorbellWrite_mask]; done) | split | (dsimp only; split) | rfl)
theorem execSramError_frame {T : Nat} (hT : subParts 562949956248070 T = true) {bank row page : Nat} {corrected : Bool} {s : State} {t : State} (h : execSramError bank row page corrected s = .next t) :
    t.dev.mask T = s.dev.mask T ∧ t.pending = s.pending := by
  refine State.become_frame h (Dev.mask_mono (a := 562949956248070) ?_ hT)
  repeat' (first | with_reducible rfl | (simp (disch := decide) only [Dev.mask_ite, ite_self, Dev.sramError_mask]; done) | split | (dsimp only; split) | rfl)
theorem execStandbyEntryComplete_frame {T : Nat} (hT : subParts 2361183241434822603774 T = true) {s : State} {t : State} (h : execStandbyEntryComplete s = .next t) :
    t.dev.mask T = s.dev.mask T ∧ t.pending = s.pending := by
  refine State.become_frame h (Dev.mask_mono (a := 2361183241434822603774) ?_ hT)
  repeat' (first | with_reducible rfl | (simp (disch := decide) only [Dev.mask_ite, ite_self, Dev.finishEntry_mask]; done) | split | (dsimp only; split) | rfl)
theorem execStandbyExitComplete_frame {T : Nat} (hT : subParts 2236934 T = true) {s : State} {t : State} (h : execStandbyExitComplete s = .next t) :
    t.dev.mask T = s.dev.mask T ∧ t.pending = s.pending := by
  refine State.become_frame h (Dev.mask_mono (a := 2236934) ?_ hT)
  repeat' (first | with_reducible rfl | (simp (disch := decide) only [Dev.mask_ite, ite_self, Dev.finishExit_mask]; done) | split | (dsimp only; split) | rfl)
theorem execStartInterfaceRequest_frame {T : Nat} (hT : subParts 332041630838494994982 T = true) {slice : Nat} {s : State} {t : State} (h : execStartInterfaceRequest slice s = .next t) :
    t.dev.mask T = s.dev.mask T ∧ t.pending = s.pending := by
  refine State.become_frame h (Dev.mask_mono (a := 332041630838494994982) ?_ hT)
  repeat' (first | with_reducible rfl | (simp (disch := decide) only [Dev.mask_ite, ite_self, Dev.startInterface_mask]; done) | split | (dsimp only; split) | rfl)
theorem execStoVolBindKey_frame {T : Nat} (hT : subParts 35791398 T = true) {s : State} {t : State} (h : execStoVolBindKey s = .next t) :
    t.dev.mask T = s.dev.mask T ∧ t.pending = s.pending := by
  refine State.become_frame h (Dev.mask_mono (a := 35791398) ?_ hT)
  repeat' (first | with_reducible rfl | (simp (disch := first | decide | (intros; (repeat' (first | with_reducible rfl | (simp (disch := decide) only [Dev.mask_ite, ite_self, Dev.noteVol_mask, Dev.portExec_mask, Dev.volBindKey_mask]; done) | split | (dsimp only; split))))) only [Dev.mask_foldl, Dev.mask_ite, ite_self, Dev.noteVol_mask, Dev.portExec_mask, Dev.volBindKey_mask]; done) | split | (dsimp only; split) | rfl)
theorem execStopInterfaceRequest_frame {T : Nat} (hT : subParts 332041630838494994982 T = true) {slice : Nat} {s : State} {t : State} (h : execStopInterfaceRequest slice s = .next t) :
    t.dev.mask T = s.dev.mask T ∧ t.pending = s.pending := by
  refine State.become_frame h (Dev.mask_mono (a := 332041630838494994982) ?_ hT)
  repeat' (first | with_reducible rfl | (simp (disch := decide) only [Dev.mask_ite, ite_self, Dev.stopInterface_mask]; done) | split | (dsimp only; split) | rfl)
theorem execSub_frame {T : Nat} (hT : subParts 36893711366275342854 T = true) {core : Nat} {s : State} {t : State} (h : execSub core s = .next t) :
    t.dev.mask T = s.dev.mask T ∧ t.pending = s.pending := by
  refine State.become_frame h (Dev.mask_mono (a := 36893711366275342854) ?_ hT)
  repeat' (first | with_reducible rfl | (simp (disch := decide) only [Dev.mask_ite, ite_self, Dev.issue_mask]; done) | split | (dsimp only; split) | rfl)
theorem execSvcBistEnd_frame {T : Nat} (hT : subParts 73786976300209742342 T = true) {unit : Nat} {pass : Bool} {s : State} {t : State} (h : execSvcBistEnd unit pass s = .next t) :
    t.dev.mask T = s.dev.mask T ∧ t.pending = s.pending := by
  refine State.become_frame h (Dev.mask_mono (a := 73786976300209742342) ?_ hT)
  repeat' (first | with_reducible rfl | (simp (disch := decide) only [Dev.mask_ite, ite_self, Dev.svcTested_mask]; done) | split | (dsimp only; split) | rfl)
theorem execSvcDrainEnd_frame {T : Nat} (hT : subParts 2826758 T = true) {unit : Nat} {s : State} {t : State} (h : execSvcDrainEnd unit s = .next t) :
    t.dev.mask T = s.dev.mask T ∧ t.pending = s.pending := by
  refine State.become_frame h (Dev.mask_mono (a := 2826758) ?_ hT)
  repeat' (first | with_reducible rfl | (simp (disch := decide) only [Dev.mask_ite, ite_self, Dev.svcDrained_mask]; done) | split | (dsimp only; split) | rfl)
theorem execSvcIn_frame {T : Nat} (hT : subParts 2761222 T = true) {req : Requester} {type inst : Nat} {s : State} {t : State} (h : execSvcIn req type inst s = .next t) :
    t.dev.mask T = s.dev.mask T ∧ t.pending = s.pending := by
  refine State.become_frame h (Dev.mask_mono (a := 2761222) ?_ hT)
  repeat' (first | with_reducible rfl | (simp (disch := decide) only [Dev.mask_ite, ite_self, Dev.svcIn_mask]; done) | split | (dsimp only; split) | rfl)
theorem execSvcOut_frame {T : Nat} (hT : subParts 2761222 T = true) {req : Requester} {type inst : Nat} {s : State} {t : State} (h : execSvcOut req type inst s = .next t) :
    t.dev.mask T = s.dev.mask T ∧ t.pending = s.pending := by
  refine State.become_frame h (Dev.mask_mono (a := 2761222) ?_ hT)
  repeat' (first | with_reducible rfl | (simp (disch := decide) only [Dev.mask_ite, ite_self, Dev.svcOut_mask]; done) | split | (dsimp only; split) | rfl)
theorem execSvcSyncEnd_frame {T : Nat} (hT : subParts 73786976294905839618 T = true) {unit : Nat} {s : State} {t : State} (h : execSvcSyncEnd unit s = .next t) :
    t.dev.mask T = s.dev.mask T ∧ t.pending = s.pending := by
  refine State.become_frame h (Dev.mask_mono (a := 73786976294905839618) ?_ hT)
  repeat' (first | with_reducible rfl | (simp (disch := decide) only [Dev.mask_ite, ite_self, Dev.svcSynced_mask]; done) | split | (dsimp only; split) | rfl)
theorem execSweepBucketVisit_frame {T : Nat} (hT : subParts 252201579132747778 T = true) {s : State} {t : State} (h : execSweepBucketVisit s = .next t) :
    t.dev.mask T = s.dev.mask T ∧ t.pending = s.pending := by
  refine State.become_frame h (Dev.mask_mono (a := 252201579132747778) ?_ hT)
  repeat' (first | with_reducible rfl | (simp (disch := decide) only [Dev.mask_ite, ite_self, Dev.visitSweep_mask]; done) | split | (dsimp only; split) | rfl)
theorem execSxpDisable_frame {T : Nat} (hT : subParts 35791398 T = true) {s : State} {t : State} (h : execSxpDisable s = .next t) :
    t.dev.mask T = s.dev.mask T ∧ t.pending = s.pending := by
  refine State.become_frame h (Dev.mask_mono (a := 35791398) ?_ hT)
  repeat' (first | with_reducible rfl | (simp (disch := first | decide | (intros; (repeat' (first | with_reducible rfl | (simp (disch := decide) only [Dev.mask_ite, ite_self, Dev.portExec_mask, Dev.saDisable_mask]; done) | split | (dsimp only; split))))) only [Dev.mask_foldl, Dev.mask_ite, ite_self, Dev.portExec_mask, Dev.saDisable_mask]; done) | split | (dsimp only; split) | rfl)
theorem execSxpPostcheck_frame {T : Nat} (hT : subParts 480192079742799847974 T = true) {lane : Nat} {s : State} {t : State} (h : execSxpPostcheck lane s = .next t) :
    t.dev.mask T = s.dev.mask T ∧ t.pending = s.pending := by
  refine State.become_frame h (Dev.mask_mono (a := 480192079742799847974) ?_ hT)
  repeat' (first | with_reducible rfl | (simp (disch := decide) only [Dev.mask_ite, ite_self, Dev.postcheck_mask, Dev.recordEnded_mask]; done) | split | (dsimp only; split) | rfl)
theorem execSxpPrecheck_frame {T : Nat} (hT : subParts 553979056037638054438 T = true) {lane : Nat} {s : State} {t : State} (h : execSxpPrecheck lane s = .next t) :
    t.dev.mask T = s.dev.mask T ∧ t.pending = s.pending := by
  refine State.become_frame h (Dev.mask_mono (a := 553979056037638054438) ?_ hT)
  repeat' (first | with_reducible rfl | (simp (disch := decide) only [Dev.mask_ite, ite_self, Dev.precheck_mask, Dev.recordEnded_mask]; done) | split | (dsimp only; split) | rfl)
theorem execSxpRead_frame {T : Nat} (hT : subParts 35791366 T = true) {s : State} {t : State} (h : execSxpRead s = .next t) :
    t.dev.mask T = s.dev.mask T ∧ t.pending = s.pending := by
  refine State.become_frame h (Dev.mask_mono (a := 35791366) ?_ hT)
  refine Dev.portExec_mask (by decide) _ _ _ _ ?_
  intro d a
  exact (Dev.mask_foldl (fun d a => Dev.fset_mask (by decide) _ _ _ _) _ _).trans (Dev.noteSa_mask (by decide) _ _)
theorem execSxpRoll_frame {T : Nat} (hT : subParts 442721857769065030182 T = true) {s : State} {t : State} (h : execSxpRoll s = .next t) :
    t.dev.mask T = s.dev.mask T ∧ t.pending = s.pending := by
  refine State.become_frame h (Dev.mask_mono (a := 442721857769065030182) ?_ hT)
  repeat' (first | with_reducible rfl | (simp (disch := first | decide | (intros; (repeat' (first | with_reducible rfl | (simp (disch := decide) only [Dev.mask_ite, ite_self, Dev.portExec_mask, Dev.resumeRecords_mask, Dev.saRoll_mask]; done) | split | (dsimp only; split))))) only [Dev.mask_foldl, Dev.mask_ite, ite_self, Dev.portExec_mask, Dev.resumeRecords_mask, Dev.saRoll_mask]; done) | split | (dsimp only; split) | rfl)
theorem execSxpWrite_frame {T : Nat} (hT : subParts 147573952589712728614 T = true) {s : State} {t : State} (h : execSxpWrite s = .next t) :
    t.dev.mask T = s.dev.mask T ∧ t.pending = s.pending := by
  refine State.become_frame h (Dev.mask_mono (a := 147573952589712728614) ?_ hT)
  repeat' (first | with_reducible rfl | (simp (disch := first | decide | (intros; (repeat' (first | with_reducible rfl | (simp (disch := decide) only [Dev.mask_ite, ite_self, Dev.portExec_mask, Dev.saWrite_mask]; done) | split | (dsimp only; split))))) only [Dev.mask_foldl, Dev.mask_ite, ite_self, Dev.portExec_mask, Dev.saWrite_mask]; done) | split | (dsimp only; split) | rfl)
theorem execSynAckReceive_frame {T : Nat} (hT : subParts 484803730301960462886 T = true) {s : State} {t : State} (h : execSynAckReceive s = .next t) :
    t.dev.mask T = s.dev.mask T ∧ t.pending = s.pending := by
  refine State.become_frame h (Dev.mask_mono (a := 484803730301960462886) ?_ hT)
  repeat' (first | with_reducible rfl | (simp (disch := decide) only [Dev.mask_ite, ite_self, Dev.receiveSynAck_mask]; done) | split | (dsimp only; split) | rfl)
theorem execTcpRstReceive_frame {T : Nat} (hT : subParts 484803730301977240102 T = true) {s : State} {t : State} (h : execTcpRstReceive s = .next t) :
    t.dev.mask T = s.dev.mask T ∧ t.pending = s.pending := by
  refine State.become_frame h (Dev.mask_mono (a := 484803730301977240102) ?_ hT)
  repeat' (first | with_reducible rfl | (simp (disch := decide) only [Dev.mask_ite, ite_self, Dev.receiveRst_mask]; done) | split | (dsimp only; split) | rfl)
theorem execTcpSegmentReceive_frame {T : Nat} (hT : subParts 484803730301960462886 T = true) {s : State} {t : State} (h : execTcpSegmentReceive s = .next t) :
    t.dev.mask T = s.dev.mask T ∧ t.pending = s.pending := by
  refine State.become_frame h (Dev.mask_mono (a := 484803730301960462886) ?_ hT)
  repeat' (first | with_reducible rfl | (simp (disch := decide) only [Dev.mask_ite, ite_self, Dev.receiveSegment_mask]; done) | split | (dsimp only; split) | rfl)
theorem execTeardownComplete_frame {T : Nat} (hT : subParts 8388608 T = true) {slice : Nat} {s : State} {t : State} (h : execTeardownComplete slice s = .next t) :
    t.dev.mask T = s.dev.mask T ∧ t.pending = s.pending := by
  refine State.become_frame h (Dev.mask_mono (a := 8388608) ?_ hT)
  repeat' (first | with_reducible rfl | (simp (disch := decide) only [Dev.mask_ite, ite_self, Dev.firmwareDone_mask]; done) | split | (dsimp only; split) | rfl)
theorem execTemplateReadAbandon_frame {T : Nat} (hT : subParts 186206103198572357126 T = true) {packet : Nat} {s : State} {t : State} (h : execTemplateReadAbandon packet s = .next t) :
    t.dev.mask T = s.dev.mask T ∧ t.pending = s.pending := by
  refine State.become_frame h (Dev.mask_mono (a := 186206103198572357126) ?_ hT)
  repeat' (first | with_reducible rfl | (simp (disch := decide) only [Dev.mask_ite, ite_self, Dev.abandonTemplate_mask]; done) | split | (dsimp only; split) | rfl)
theorem execThermalTrip_frame {T : Nat} (hT : subParts 2302470 T = true) {s : State} {t : State} (h : execThermalTrip s = .next t) :
    t.dev.mask T = s.dev.mask T ∧ t.pending = s.pending := by
  refine State.become_frame h (Dev.mask_mono (a := 2302470) ?_ hT)
  repeat' (first | with_reducible rfl | (simp (disch := decide) only [Dev.mask_ite, ite_self, Dev.feedLost_mask, Dev.setPwr_mask]; done) | split | (dsimp only; split) | rfl)
theorem execTraceConsWrite_frame {T : Nat} (hT : subParts 2236934 T = true) {req : Requester} {value : Word} {s : State} {t : State} (h : execTraceConsWrite req value s = .next t) :
    t.dev.mask T = s.dev.mask T ∧ t.pending = s.pending := by
  refine State.become_frame h (Dev.mask_mono (a := 2236934) ?_ hT)
  repeat' (first | with_reducible rfl | (simp (disch := first | decide | (intros; (repeat' (first | with_reducible rfl | (simp (disch := decide) only [Dev.mask_ite, ite_self, Dev.onWrite_mask, Dev.writeTraceCons_mask]; done) | split | (dsimp only; split))))) only [Dev.mask_foldl, Dev.mask_ite, ite_self, Dev.onWrite_mask, Dev.writeTraceCons_mask]; done) | split | (dsimp only; split) | rfl)
theorem execTraceRecordWrite_frame {T : Nat} (hT : subParts 70368746414982 T = true) {s : State} {t : State} (h : execTraceRecordWrite s = .next t) :
    t.dev.mask T = s.dev.mask T ∧ t.pending = s.pending := by
  refine State.become_frame h (Dev.mask_mono (a := 70368746414982) ?_ hT)
  repeat' (first | with_reducible rfl | (simp (disch := decide) only [Dev.mask_ite, ite_self, Dev.traceRecord_mask]; done) | split | (dsimp only; split) | rfl)
theorem execTreeWalk_frame {T : Nat} (hT : subParts 36893708066935154182 T = true) {packet : Nat} {s : State} {t : State} (h : execTreeWalk packet s = .next t) :
    t.dev.mask T = s.dev.mask T ∧ t.pending = s.pending := by
  refine State.become_frame h (Dev.mask_mono (a := 36893708066935154182) ?_ hT)
  repeat' (first | with_reducible rfl | (simp (disch := decide) only [Dev.mask_ite, ite_self, Dev.endWalk_mask]; done) | split | (dsimp only; split) | rfl)
theorem execTrim_frame {T : Nat} (hT : subParts 295147913975473250822 T = true) {queue : Nat} {s : State} {t : State} (h : execTrim queue s = .next t) :
    t.dev.mask T = s.dev.mask T ∧ t.pending = s.pending := by
  refine State.become_frame h (Dev.mask_mono (a := 295147913975473250822) ?_ hT)
  repeat' (first | with_reducible rfl | (simp (disch := decide) only [Dev.mask_ite, ite_self, Dev.takeStorage_mask]; done) | split | (dsimp only; split) | rfl)
theorem execTsFifoCapture_frame {T : Nat} (hT : subParts 9223372036857012742 T = true) {req : Requester} {mac : Nat} {s : State} {t : State} (h : execTsFifoCapture req mac s = .next t) :
    t.dev.mask T = s.dev.mask T ∧ t.pending = s.pending := by
  refine State.become_frame h (Dev.mask_mono (a := 9223372036857012742) ?_ hT)
  repeat' (first | with_reducible rfl | (simp (disch := first | decide | (intros; (repeat' (first | with_reducible rfl | (simp (disch := decide) only [Dev.mask_ite, ite_self, Dev.captureStamp_mask, Dev.onWrite_mask]; done) | split | (dsimp only; split))))) only [Dev.mask_foldl, Dev.mask_ite, ite_self, Dev.captureStamp_mask, Dev.onWrite_mask]; done) | split | (dsimp only; split) | rfl)
theorem execTxStartBaseWrite_frame {T : Nat} (hT : subParts 2236958 T = true) {req : Requester} {mac : Nat} {value : Word} {s : State} {t : State} (h : execTxStartBaseWrite req mac value s = .next t) :
    t.dev.mask T = s.dev.mask T ∧ t.pending = s.pending := by
  refine State.become_frame h (Dev.mask_mono (a := 2236958) ?_ hT)
  repeat' (first | with_reducible rfl | (simp (disch := first | decide | (intros; (repeat' (first | with_reducible rfl | (simp (disch := decide) only [Dev.mask_ite, ite_self, Dev.onWrite_mask, Dev.setTxBase_mask]; done) | split | (dsimp only; split))))) only [Dev.mask_foldl, Dev.mask_ite, ite_self, Dev.onWrite_mask, Dev.setTxBase_mask]; done) | split | (dsimp only; split) | rfl)
theorem execTxUnderrun_frame {T : Nat} (hT : subParts 46117097695975974406 T = true) {mac : Nat} {s : State} {t : State} (h : execTxUnderrun mac s = .next t) :
    t.dev.mask T = s.dev.mask T ∧ t.pending = s.pending := by
  refine State.become_frame h (Dev.mask_mono (a := 46117097695975974406) ?_ hT)
  repeat' (first | with_reducible rfl | (simp (disch := decide) only [Dev.mask_ite, ite_self, Dev.underrun_mask]; done) | split | (dsimp only; split) | rfl)
theorem execUpHoldExpiry_frame {T : Nat} (hT : subParts 46117097695975973382 T = true) {mac : Nat} {s : State} {t : State} (h : execUpHoldExpiry mac s = .next t) :
    t.dev.mask T = s.dev.mask T ∧ t.pending = s.pending := by
  refine State.become_frame h (Dev.mask_mono (a := 46117097695975973382) ?_ hT)
  repeat' (first | with_reducible rfl | (simp (disch := decide) only [Dev.mask_ite, ite_self, Dev.moveLink_mask]; done) | split | (dsimp only; split) | rfl)
theorem execVendorDefinedRequest_frame {T : Nat} (hT : subParts 1180591620717411303936 T = true) {via : Transport} {session : Option Nat} {payload : List Byte} {s : State} {t : State} (h : execVendorDefinedRequest via session payload s = .next t) :
    t.dev.mask T = s.dev.mask T ∧ t.pending = s.pending := by
  refine State.become_frame h (Dev.mask_mono (a := 1180591620717411303936) ?_ hT)
  repeat' (first | with_reducible rfl | (simp (disch := decide) only [Dev.mask_ite, ite_self, Dev.vendorRequest_mask]; done) | split | (dsimp only; split) | rfl)
theorem execVolBindKey_frame {T : Nat} (hT : subParts 1180591620717447094822 T = true) {s : State} {t : State} (h : execVolBindKey s = .next t) :
    t.dev.mask T = s.dev.mask T ∧ t.pending = s.pending := by
  refine State.become_frame h (Dev.mask_mono (a := 1180591620717447094822) ?_ hT)
  repeat' (first | with_reducible rfl | (simp (disch := first | decide | (intros; (repeat' (first | with_reducible rfl | (simp (disch := decide) only [Dev.mask_ite, ite_self, Dev.vendorServe_mask, Dev.vendorVolBind_mask]; done) | split | (dsimp only; split))))) only [Dev.mask_foldl, Dev.mask_ite, ite_self, Dev.vendorServe_mask, Dev.vendorVolBind_mask]; done) | split | (dsimp only; split) | rfl)
theorem execVolDisable_frame {T : Nat} (hT : subParts 35791398 T = true) {s : State} {t : State} (h : execVolDisable s = .next t) :
    t.dev.mask T = s.dev.mask T ∧ t.pending = s.pending := by
  refine State.become_frame h (Dev.mask_mono (a := 35791398) ?_ hT)
  repeat' (first | with_reducible rfl | (simp (disch := first | decide | (intros; (repeat' (first | with_reducible rfl | (simp (disch := decide) only [Dev.mask_ite, ite_self, Dev.portExec_mask, Dev.volDisable_mask]; done) | split | (dsimp only; split))))) only [Dev.mask_foldl, Dev.mask_ite, ite_self, Dev.portExec_mask, Dev.volDisable_mask]; done) | split | (dsimp only; split) | rfl)
theorem execVolRead_frame {T : Nat} (hT : subParts 35791366 T = true) {s : State} {t : State} (h : execVolRead s = .next t) :
    t.dev.mask T = s.dev.mask T ∧ t.pending = s.pending := by
  refine State.become_frame h (Dev.mask_mono (a := 35791366) ?_ hT)
  repeat' (first | with_reducible rfl | (simp (disch := first | decide | (intros; (repeat' (first | with_reducible rfl | (simp (disch := decide) only [Dev.mask_ite, ite_self, Dev.noteVol_mask, Dev.portExec_mask, Dev.stoResult_mask]; done) | split | (dsimp only; split))))) only [Dev.mask_foldl, Dev.mask_ite, ite_self, Dev.noteVol_mask, Dev.portExec_mask, Dev.stoResult_mask]; done) | split | (dsimp only; split) | rfl)
theorem execVolWrite_frame {T : Nat} (hT : subParts 35791398 T = true) {s : State} {t : State} (h : execVolWrite s = .next t) :
    t.dev.mask T = s.dev.mask T ∧ t.pending = s.pending := by
  refine State.become_frame h (Dev.mask_mono (a := 35791398) ?_ hT)
  repeat' (first | with_reducible rfl | (simp (disch := first | decide | (intros; (repeat' (first | with_reducible rfl | (simp (disch := decide) only [Dev.mask_ite, ite_self, Dev.noteVol_mask, Dev.portExec_mask, Dev.volWrite_mask]; done) | split | (dsimp only; split))))) only [Dev.mask_foldl, Dev.mask_ite, ite_self, Dev.noteVol_mask, Dev.portExec_mask, Dev.volWrite_mask]; done) | split | (dsimp only; split) | rfl)
theorem execWakeRequest_frame {T : Nat} (hT : subParts 2228224 T = true) {kind source : Nat} {s : State} {t : State} (h : execWakeRequest kind source s = .next t) :
    t.dev.mask T = s.dev.mask T ∧ t.pending = s.pending := by
  refine State.become_frame h (Dev.mask_mono (a := 2228224) ?_ hT)
  repeat' (first | with_reducible rfl | (simp (disch := decide) only [Dev.mask_ite, ite_self, Dev.wake_mask]; done) | split | (dsimp only; split) | rfl)
theorem execWelborRelease_frame {T : Nat} (hT : subParts 3023366 T = true) {s : State} {t : State} (h : execWelborRelease s = .next t) :
    t.dev.mask T = s.dev.mask T ∧ t.pending = s.pending := by
  refine State.become_frame h (Dev.mask_mono (a := 3023366) ?_ hT)
  repeat' (first | with_reducible rfl | (simp (disch := decide) only [Dev.mask_ite, ite_self, Dev.powerUp_mask, Dev.releaseWelbor_mask]; done) | split | (dsimp only; split) | rfl)
theorem execWelborRestart_frame {T : Nat} (hT : subParts 1180591620717411303426 T = true) {s : State} {t : State} (h : execWelborRestart s = .next t) :
    t.dev.mask T = s.dev.mask T ∧ t.pending = s.pending := by
  refine State.become_frame h (Dev.mask_mono (a := 1180591620717411303426) ?_ hT)
  repeat' (first | with_reducible rfl | (simp (disch := decide) only [Dev.mask_ite, ite_self, Dev.welborRestart_mask]; done) | split | (dsimp only; split) | rfl)
theorem execWext_frame {T : Nat} (hT : subParts 36893711366275342854 T = true) {core : Nat} {s : State} {t : State} (h : execWext core s = .next t) :
    t.dev.mask T = s.dev.mask T ∧ t.pending = s.pending := by
  refine State.become_frame h (Dev.mask_mono (a := 36893711366275342854) ?_ hT)
  repeat' (first | with_reducible rfl | (simp (disch := decide) only [Dev.mask_ite, ite_self, Dev.issue_mask]; done) | split | (dsimp only; split) | rfl)
theorem execWextResume_frame {T : Nat} (hT : subParts 268435456 T = true) {ctx : Nat} {s : State} {t : State} (h : execWextResume ctx s = .next t) :
    t.dev.mask T = s.dev.mask T ∧ t.pending = s.pending := by
  refine State.become_frame h (Dev.mask_mono (a := 268435456) ?_ hT)
  repeat' (first | with_reducible rfl | (simp (disch := decide) only [Dev.mask_ite, ite_self, Dev.setCtx_mask]; done) | split | (dsimp only; split) | rfl)
theorem execWireCommandIssue_frame {T : Nat} (hT : subParts 517085303732550378022 T = true) {wire : Nat} {answer : HostAnswer} {s : State} {t : State} (h : execWireCommandIssue wire answer s = .next t) :
    t.dev.mask T = s.dev.mask T ∧ t.pending = s.pending := by
  refine State.become_frame h (Dev.mask_mono (a := 517085303732550378022) ?_ hT)
  repeat' (first | with_reducible rfl | (simp (disch := decide) only [Dev.mask_ite, ite_self, Dev.issueWire_mask]; done) | split | (dsimp only; split) | rfl)
theorem execWmbCapture_frame {T : Nat} (hT : subParts 9223372036865401350 T = true) {req : Requester} {page : Nat} {index : BitVec 16} {s : State} {t : State} (h : execWmbCapture req page index s = .next t) :
    t.dev.mask T = s.dev.mask T ∧ t.pending = s.pending := by
  refine State.become_frame h (Dev.mask_mono (a := 9223372036865401350) ?_ hT)
  repeat' (first | with_reducible rfl | (simp (disch := first | decide | (intros; (repeat' (first | with_reducible rfl | (simp (disch := decide) only [Dev.mask_ite, ite_self, Dev.onWmb_mask, Dev.wmbCapture_mask]; done) | split | (dsimp only; split))))) only [Dev.mask_foldl, Dev.mask_ite, ite_self, Dev.onWmb_mask, Dev.wmbCapture_mask]; done) | split | (dsimp only; split) | rfl)
theorem execWmbCommit_frame {T : Nat} (hT : subParts 4611694814522909190 T = true) {req : Requester} {page : Nat} {index : BitVec 16} {s : State} {t : State} (h : execWmbCommit req page index s = .next t) :
    t.dev.mask T = s.dev.mask T ∧ t.pending = s.pending := by
  refine State.become_frame h (Dev.mask_mono (a := 4611694814522909190) ?_ hT)
  repeat' (first | with_reducible rfl | (simp (disch := first | decide | (intros; (repeat' (first | with_reducible rfl | (simp (disch := decide) only [Dev.mask_ite, ite_self, Dev.onWmb_mask, Dev.wmbCommit_mask]; done) | split | (dsimp only; split))))) only [Dev.mask_foldl, Dev.mask_ite, ite_self, Dev.onWmb_mask, Dev.wmbCommit_mask]; done) | split | (dsimp only; split) | rfl)
theorem execWrite_frame {T : Nat} (hT : subParts 295147913975473250822 T = true) {queue : Nat} {s : State} {t : State} (h : execWrite queue s = .next t) :
    t.dev.mask T = s.dev.mask T ∧ t.pending = s.pending := by
  refine State.become_frame h (Dev.mask_mono (a := 295147913975473250822) ?_ hT)
  repeat' (first | with_reducible rfl | (simp (disch := decide) only [Dev.mask_ite, ite_self, Dev.takeStorage_mask]; done) | split | (dsimp only; split) | rfl)
theorem execXor_frame {T : Nat} (hT : subParts 36893711366275342854 T = true) {core : Nat} {s : State} {t : State} (h : execXor core s = .next t) :
    t.dev.mask T = s.dev.mask T ∧ t.pending = s.pending := by
  refine State.become_frame h (Dev.mask_mono (a := 36893711366275342854) ?_ hT)
  repeat' (first | with_reducible rfl | (simp (disch := decide) only [Dev.mask_ite, ite_self, Dev.issue_mask]; done) | split | (dsimp only; split) | rfl)
theorem execXori_frame {T : Nat} (hT : subParts 36893711366275342854 T = true) {core : Nat} {s : State} {t : State} (h : execXori core s = .next t) :
    t.dev.mask T = s.dev.mask T ∧ t.pending = s.pending := by
  refine State.become_frame h (Dev.mask_mono (a := 36893711366275342854) ?_ hT)
  repeat' (first | with_reducible rfl | (simp (disch := decide) only [Dev.mask_ite, ite_self, Dev.issue_mask]; done) | split | (dsimp only; split) | rfl)

theorem subParts_of {a b n : Nat} (h : b = n) (k : subParts a n = true) : subParts a b = true := h ▸ k

/-- A command changes no part but those `commandParts` names, and leaves the queue alone. -/
theorem exec_frame {c : Instr} {s t : State} (h : exec c s = .next t) :
    t.dev.mask (partSet (commandParts c)) = s.dev.mask (partSet (commandParts c)) ∧ t.pending = s.pending :=
  match c, h with
  | .registerWrite .., h => execRegisterWrite_frame (subParts_of (n := 2361183241434822599294) rfl (by decide)) h
  | .counterReadClear .., h => execCounterReadClear_frame (subParts_of (n := 737869762948384301590) rfl (by decide)) h
  | .parityBackgroundScan .., h => execParityBackgroundScan_frame (subParts_of (n := 46117097695976038942) rfl (by decide)) h
  | .scanNow .., h => execScanNow_frame (subParts_of (n := 46117097695976563222) rfl (by decide)) h
  | .cfgParityRecheck .., h => execCfgParityRecheck_frame (subParts_of (n := 46117097695976563222) rfl (by decide)) h
  | .wmbCapture .., h => execWmbCapture_frame (subParts_of (n := 9223372036865401350) rfl (by decide)) h
  | .wmbCommit .., h => execWmbCommit_frame (subParts_of (n := 4611694814522909190) rfl (by decide)) h
  | .broadcastWrite .., h => execBroadcastWrite_frame (subParts_of (n := 2361183241434822599294) rfl (by decide)) h
  | .broadcastRead .., h => execBroadcastRead_frame (subParts_of (n := 2236950) rfl (by decide)) h
  | .groupMaskParityScan .., h => execGroupMaskParityScan_frame (subParts_of (n := 2236958) rfl (by decide)) h
  | .poweredDownPageRead .., h => execPoweredDownPageRead_frame (subParts_of (n := 2236934) rfl (by decide)) h
  | .eventSourceAssert .., h => execEventSourceAssert_frame (subParts_of (n := 2236934) rfl (by decide)) h
  | .pendClear .., h => execPendClear_frame (subParts_of (n := 2236934) rfl (by decide)) h
  | .routeUnmask .., h => execRouteUnmask_frame (subParts_of (n := 2236934) rfl (by decide)) h
  | .softwareEvent .., h => execSoftwareEvent_frame (subParts_of (n := 2236934) rfl (by decide)) h
  | .binActivation .., h => execBinActivation_frame (subParts_of (n := 2238982) rfl (by decide)) h
  | .binStuck .., h => execBinStuck_frame (subParts_of (n := 2238982) rfl (by decide)) h
  | .binUnmask .., h => execBinUnmask_frame (subParts_of (n := 2236934) rfl (by decide)) h
  | .binInactive .., h => execBinInactive_frame (subParts_of (n := 2048) rfl (by decide)) h
  | .moverGo .., h => execMoverGo_frame (subParts_of (n := 2236934) rfl (by decide)) h
  | .moverStop .., h => execMoverStop_frame (subParts_of (n := 2253318) rfl (by decide)) h
  | .moverTrigger .., h => execMoverTrigger_frame (subParts_of (n := 8194) rfl (by decide)) h
  | .descriptorFetch .., h => execDescriptorFetch_frame (subParts_of (n := 2253318) rfl (by decide)) h
  | .burstIssue .., h => execBurstIssue_frame (subParts_of (n := 2286566) rfl (by decide)) h
  | .chainEnd .., h => execChainEnd_frame (subParts_of (n := 2236934) rfl (by decide)) h
  | .fence .., h => execFence_frame (subParts_of (n := 3179492) rfl (by decide)) h
  | .dcinv .., h => execDcinv_frame (subParts_of (n := 1048576) rfl (by decide)) h
  | .powerRequest .., h => execPowerRequest_frame (subParts_of (n := 2499078) rfl (by decide)) h
  | .powerTransitionComplete, h => execPowerTransitionComplete_frame (subParts_of (n := 138350818064557810206) rfl (by decide)) h
  | .standbyEntryComplete, h => execStandbyEntryComplete_frame (subParts_of (n := 2361183241434822603774) rfl (by decide)) h
  | .leanStep, h => execLeanStep_frame (subParts_of (n := 73786976294840443398) rfl (by decide)) h
  | .dozeDemand .., h => execDozeDemand_frame (subParts_of (n := 2236934) rfl (by decide)) h
  | .l1IdleTimeout .., h => execL1IdleTimeout_frame (subParts_of (n := 2097152) rfl (by decide)) h
  | .wakeRequest .., h => execWakeRequest_frame (subParts_of (n := 2228224) rfl (by decide)) h
  | .exitStepTimeout .., h => execExitStepTimeout_frame (subParts_of (n := 2236934) rfl (by decide)) h
  | .standbyExitComplete, h => execStandbyExitComplete_frame (subParts_of (n := 2236934) rfl (by decide)) h
  | .padRelease .., h => execPadRelease_frame (subParts_of (n := 2236934) rfl (by decide)) h
  | .feedGood .., h => execFeedGood_frame (subParts_of (n := 131072) rfl (by decide)) h
  | .feedLost .., h => execFeedLost_frame (subParts_of (n := 2302470) rfl (by decide)) h
  | .auxPowerOn, h => execAuxPowerOn_frame (subParts_of (n := 1180591620717411434498) rfl (by decide)) h
  | .auxPowerLoss, h => execAuxPowerLoss_frame (subParts_of (n := 2361183241434822604926) rfl (by decide)) h
  | .perstAssert .., h => execPerstAssert_frame (subParts_of (n := 332041630838494994982) rfl (by decide)) h
  | .perstDeassert .., h => execPerstDeassert_frame (subParts_of (n := 131072) rfl (by decide)) h
  | .deviceReset .., h => execDeviceReset_frame (subParts_of (n := 2361183241434822599294) rfl (by decide)) h
  | .hostPortReset .., h => execHostPortReset_frame (subParts_of (n := 2361183241434822599294) rfl (by decide)) h
  | .welborRestart, h => execWelborRestart_frame (subParts_of (n := 1180591620717411303426) rfl (by decide)) h
  | .thermalTrip, h => execThermalTrip_frame (subParts_of (n := 2302470) rfl (by decide)) h
  | .ptpSecondWrap, h => execPtpSecondWrap_frame (subParts_of (n := 2499078) rfl (by decide)) h
  | .ppsInEdge, h => execPpsInEdge_frame (subParts_of (n := 2236934) rfl (by decide)) h
  | .ptpClockLoad .., h => execPtpClockLoad_frame (subParts_of (n := 2499078) rfl (by decide)) h
  | .ptpOffsetAdjust .., h => execPtpOffsetAdjust_frame (subParts_of (n := 2499078) rfl (by decide)) h
  | .slowCrystalFail, h => execSlowCrystalFail_frame (subParts_of (n := 2499078) rfl (by decide)) h
  | .slowFreqMeasure .., h => execSlowFreqMeasure_frame (subParts_of (n := 4) rfl (by decide)) h
  | .refInputLoss, h => execRefInputLoss_frame (subParts_of (n := 2564614) rfl (by decide)) h
  | .oscillatorFail .., h => execOscillatorFail_frame (subParts_of (n := 2826758) rfl (by decide)) h
  | .l12WaitExpiry .., h => execL12WaitExpiry_frame (subParts_of (n := 2236934) rfl (by decide)) h
  | .linkL12Entry .., h => execLinkL12Entry_frame (subParts_of (n := 2228224) rfl (by decide)) h
  | .busHoldUpExpiry, h => execBusHoldUpExpiry_frame (subParts_of (n := 2361183241434822603774) rfl (by decide)) h
  | .ppsWidthExpiry, h => execPpsWidthExpiry_frame (subParts_of (n := 262144) rfl (by decide)) h
  | .holdoverExpiry, h => execHoldoverExpiry_frame (subParts_of (n := 64563841769685524998) rfl (by decide)) h
  | .gddrBurstRebuild .., h => execGddrBurstRebuild_frame (subParts_of (n := 2826758) rfl (by decide)) h
  | .memFailWrite .., h => execMemFailWrite_frame (subParts_of (n := 2826758) rfl (by decide)) h
  | .scrubRound .., h => execScrubRound_frame (subParts_of (n := 2236934) rfl (by decide)) h
  | .cpxMismatch .., h => execCpxMismatch_frame (subParts_of (n := 2302470) rfl (by decide)) h
  | .cpxBistEnd .., h => execCpxBistEnd_frame (subParts_of (n := 2236934) rfl (by decide)) h
  | .cpxReturn .., h => execCpxReturn_frame (subParts_of (n := 2236934) rfl (by decide)) h
  | .svcOut .., h => execSvcOut_frame (subParts_of (n := 2761222) rfl (by decide)) h
  | .svcIn .., h => execSvcIn_frame (subParts_of (n := 2761222) rfl (by decide)) h
  | .svcSyncEnd .., h => execSvcSyncEnd_frame (subParts_of (n := 73786976294905839618) rfl (by decide)) h
  | .svcDrainEnd .., h => execSvcDrainEnd_frame (subParts_of (n := 2826758) rfl (by decide)) h
  | .svcBistEnd .., h => execSvcBistEnd_frame (subParts_of (n := 73786976300209742342) rfl (by decide)) h
  | .logicParityFault .., h => execLogicParityFault_frame (subParts_of (n := 507862160394114785830) rfl (by decide)) h
  | .crossingParityError .., h => execCrossingParityError_frame (subParts_of (n := 507862160394114785830) rfl (by decide)) h
  | .phaseShed .., h => execPhaseShed_frame (subParts_of (n := 2826758) rfl (by decide)) h
  | .sramError .., h => execSramError_frame (subParts_of (n := 562949956248070) rfl (by decide)) h
  | .journalRecordWrite, h => execJournalRecordWrite_frame (subParts_of (n := 36893708066935742982) rfl (by decide)) h
  | .journalRead .., h => execJournalRead_frame (subParts_of (n := 2236934) rfl (by decide)) h
  | .avsStep .., h => execAvsStep_frame (subParts_of (n := 2826758) rfl (by decide)) h
  | .sliceWindowAccess .., h => execSliceWindowAccess_frame (subParts_of (n := 996124417492038853158) rfl (by decide)) h
  | .sitWrite .., h => execSitWrite_frame (subParts_of (n := 39985670) rfl (by decide)) h
  | .sitClear .., h => execSitClear_frame (subParts_of (n := 39985670) rfl (by decide)) h
  | .sitRead .., h => execSitRead_frame (subParts_of (n := 35791366) rfl (by decide)) h
  | .sliceInterruptRaise .., h => execSliceInterruptRaise_frame (subParts_of (n := 6431238) rfl (by decide)) h
  | .sitMaskWrite .., h => execSitMaskWrite_frame (subParts_of (n := 4194820) rfl (by decide)) h
  | .msixUnmask .., h => execMsixUnmask_frame (subParts_of (n := 2097668) rfl (by decide)) h
  | .ideIntegrityFailure .., h => execIdeIntegrityFailure_frame (subParts_of (n := 332041630838494994982) rfl (by decide)) h
  | .lockInterfaceRequest .., h => execLockInterfaceRequest_frame (subParts_of (n := 332041630838494994982) rfl (by decide)) h
  | .startInterfaceRequest .., h => execStartInterfaceRequest_frame (subParts_of (n := 332041630838494994982) rfl (by decide)) h
  | .stopInterfaceRequest .., h => execStopInterfaceRequest_frame (subParts_of (n := 332041630838494994982) rfl (by decide)) h
  | .ideKmRequest .., h => execIdeKmRequest_frame (subParts_of (n := 2097664) rfl (by decide)) h
  | .pciPowerStateChange .., h => execPciPowerStateChange_frame (subParts_of (n := 2097152) rfl (by decide)) h
  | .linkUp .., h => execLinkUp_frame (subParts_of (n := 2236934) rfl (by decide)) h
  | .linkDown .., h => execLinkDown_frame (subParts_of (n := 332041630838490800678) rfl (by decide)) h
  | .functionLevelReset .., h => execFunctionLevelReset_frame (subParts_of (n := 332041630838490800678) rfl (by decide)) h
  | .atsInvalidationRequest .., h => execAtsInvalidationRequest_frame (subParts_of (n := 2236934) rfl (by decide)) h
  | .atsInvalidationComplete .., h => execAtsInvalidationComplete_frame (subParts_of (n := 2097664) rfl (by decide)) h
  | .prgResponse .., h => execPrgResponse_frame (subParts_of (n := 443298327437712187942) rfl (by decide)) h
  | .pageRequestTimeout .., h => execPageRequestTimeout_frame (subParts_of (n := 443298327437712187942) rfl (by decide)) h
  | .readCompletionReceive .., h => execReadCompletionReceive_frame (subParts_of (n := 517085303869989381094) rfl (by decide)) h
  | .completionTimeout .., h => execCompletionTimeout_frame (subParts_of (n := 443298327437712187942) rfl (by decide)) h
  | .slcCreate, h => execSlcCreate_frame (subParts_of (n := 1180591620717459677702) rfl (by decide)) h
  | .slcModify, h => execSlcModify_frame (subParts_of (n := 48374278) rfl (by decide)) h
  | .slcDestroy, h => execSlcDestroy_frame (subParts_of (n := 2176716038209483711014) rfl (by decide)) h
  | .slcRead, h => execSlcRead_frame (subParts_of (n := 35791366) rfl (by decide)) h
  | .teardownComplete .., h => execTeardownComplete_frame (subParts_of (n := 8388608) rfl (by decide)) h
  | .quarantineEnd .., h => execQuarantineEnd_frame (subParts_of (n := 10625542) rfl (by decide)) h
  | .sliceCounterLoRead .., h => execSliceCounterLoRead_frame (subParts_of (n := 8389120) rfl (by decide)) h
  | .queCreate, h => execQueCreate_frame (subParts_of (n := 61481510) rfl (by decide)) h
  | .queModify, h => execQueModify_frame (subParts_of (n := 36315686) rfl (by decide)) h
  | .queDestroy, h => execQueDestroy_frame (subParts_of (n := 36893725659171529254) rfl (by decide)) h
  | .queRead, h => execQueRead_frame (subParts_of (n := 35791366) rfl (by decide)) h
  | .sqPiDoorbell .., h => execSqPiDoorbell_frame (subParts_of (n := 405828607133329007142) rfl (by decide)) h
  | .cqCiDoorbell .., h => execCqCiDoorbell_frame (subParts_of (n := 405828607133329007142) rfl (by decide)) h
  | .queueStart .., h => execQueueStart_frame (subParts_of (n := 19014182) rfl (by decide)) h
  | .queueStop .., h => execQueueStop_frame (subParts_of (n := 405828607133329007142) rfl (by decide)) h
  | .queueReset .., h => execQueueReset_frame (subParts_of (n := 405828607133329007142) rfl (by decide)) h
  | .queueResume .., h => execQueueResume_frame (subParts_of (n := 19014182) rfl (by decide)) h
  | .doorbellRead .., h => execDoorbellRead_frame (subParts_of (n := 512) rfl (by decide)) h
  | .entryFetch .., h => execEntryFetch_frame (subParts_of (n := 27402790) rfl (by decide)) h
  | .send .., h => execSend_frame (subParts_of (n := 443298327575151125030) rfl (by decide)) h
  | .recv .., h => execRecv_frame (subParts_of (n := 16777216) rfl (by decide)) h
  | .cipher .., h => execCipher_frame (subParts_of (n := 73786976294857220614) rfl (by decide)) h
  | .completionWrite .., h => execCompletionWrite_frame (subParts_of (n := 36893725659142169510) rfl (by decide)) h
  | .irqDelayExpiry .., h => execIrqDelayExpiry_frame (subParts_of (n := 23208454) rfl (by decide)) h
  | .framePlacement .., h => execFramePlacement_frame (subParts_of (n := 332041630838490801030) rfl (by decide)) h
  | .rxHoldExpiry .., h => execRxHoldExpiry_frame (subParts_of (n := 332041630838490801030) rfl (by decide)) h
  | .heldOperationStart .., h => execHeldOperationStart_frame (subParts_of (n := 35791366) rfl (by decide)) h
  | .ill .., h => execIll_frame (subParts_of (n := 36893711366275342854) rfl (by decide)) h
  | .add .., h => execAdd_frame (subParts_of (n := 36893711366275342854) rfl (by decide)) h
  | .sub .., h => execSub_frame (subParts_of (n := 36893711366275342854) rfl (by decide)) h
  | .and .., h => execAnd_frame (subParts_of (n := 36893711366275342854) rfl (by decide)) h
  | .or .., h => execOr_frame (subParts_of (n := 36893711366275342854) rfl (by decide)) h
  | .xor .., h => execXor_frame (subParts_of (n := 36893711366275342854) rfl (by decide)) h
  | .shl .., h => execShl_frame (subParts_of (n := 36893711366275342854) rfl (by decide)) h
  | .shr .., h => execShr_frame (subParts_of (n := 36893711366275342854) rfl (by decide)) h
  | .mov .., h => execMov_frame (subParts_of (n := 36893711366275342854) rfl (by decide)) h
  | .addi .., h => execAddi_frame (subParts_of (n := 36893711366275342854) rfl (by decide)) h
  | .andi .., h => execAndi_frame (subParts_of (n := 36893711366275342854) rfl (by decide)) h
  | .ori .., h => execOri_frame (subParts_of (n := 36893711366275342854) rfl (by decide)) h
  | .xori .., h => execXori_frame (subParts_of (n := 36893711366275342854) rfl (by decide)) h
  | .shli .., h => execShli_frame (subParts_of (n := 36893711366275342854) rfl (by decide)) h
  | .shri .., h => execShri_frame (subParts_of (n := 36893711366275342854) rfl (by decide)) h
  | .movi .., h => execMovi_frame (subParts_of (n := 36893711366275342854) rfl (by decide)) h
  | .movhi .., h => execMovhi_frame (subParts_of (n := 36893711366275342854) rfl (by decide)) h
  | .ext .., h => execExt_frame (subParts_of (n := 36893711366275342854) rfl (by decide)) h
  | .ins .., h => execIns_frame (subParts_of (n := 36893711366275342854) rfl (by decide)) h
  | .ld8 .., h => execLd8_frame (subParts_of (n := 36893711366275342854) rfl (by decide)) h
  | .ld16 .., h => execLd16_frame (subParts_of (n := 36893711366275342854) rfl (by decide)) h
  | .ld32 .., h => execLd32_frame (subParts_of (n := 36893711366275342854) rfl (by decide)) h
  | .extw .., h => execExtw_frame (subParts_of (n := 36893711366275342854) rfl (by decide)) h
  | .curset .., h => execCurset_frame (subParts_of (n := 36893711366275342854) rfl (by decide)) h
  | .curadd .., h => execCuradd_frame (subParts_of (n := 36893711366275342854) rfl (by decide)) h
  | .curget .., h => execCurget_frame (subParts_of (n := 36893711366275342854) rfl (by decide)) h
  | .wext .., h => execWext_frame (subParts_of (n := 36893711366275342854) rfl (by decide)) h
  | .br .., h => execBr_frame (subParts_of (n := 36893711366275342854) rfl (by decide)) h
  | .bri .., h => execBri_frame (subParts_of (n := 36893711366275342854) rfl (by decide)) h
  | .bf .., h => execBf_frame (subParts_of (n := 36893711366275342854) rfl (by decide)) h
  | .j .., h => execJ_frame (subParts_of (n := 36893711366275342854) rfl (by decide)) h
  | .call .., h => execCall_frame (subParts_of (n := 36893711366275342854) rfl (by decide)) h
  | .ret .., h => execRet_frame (subParts_of (n := 36893711366275342854) rfl (by decide)) h
  | .disp .., h => execDisp_frame (subParts_of (n := 36893711366275342854) rfl (by decide)) h
  | .dmat .., h => execDmat_frame (subParts_of (n := 36893711366275342854) rfl (by decide)) h
  | .hinit .., h => execHinit_frame (subParts_of (n := 36893711366275342854) rfl (by decide)) h
  | .hcrc .., h => execHcrc_frame (subParts_of (n := 36893711366275342854) rfl (by decide)) h
  | .hcrcr .., h => execHcrcr_frame (subParts_of (n := 36893711366275342854) rfl (by decide)) h
  | .htoe .., h => execHtoe_frame (subParts_of (n := 36893711366275342854) rfl (by decide)) h
  | .htoer .., h => execHtoer_frame (subParts_of (n := 36893711366275342854) rfl (by decide)) h
  | .hrd .., h => execHrd_frame (subParts_of (n := 36893711366275342854) rfl (by decide)) h
  | .emit .., h => execEmit_frame (subParts_of (n := 36893711366275342854) rfl (by decide)) h
  | .emitw .., h => execEmitw_frame (subParts_of (n := 36893711366275342854) rfl (by decide)) h
  | .fset .., h => execFset_frame (subParts_of (n := 36893711366275342854) rfl (by decide)) h
  | .fclr .., h => execFclr_frame (subParts_of (n := 36893711366275342854) rfl (by decide)) h
  | .rhint .., h => execRhint_frame (subParts_of (n := 36893711366275342854) rfl (by decide)) h
  | .done .., h => execDone_frame (subParts_of (n := 36893711366275342854) rfl (by decide)) h
  | .nop .., h => execNop_frame (subParts_of (n := 36893711366275342854) rfl (by decide)) h
  | .packetDispatch .., h => execPacketDispatch_frame (subParts_of (n := 36893712328884888070) rfl (by decide)) h
  | .wextResume .., h => execWextResume_frame (subParts_of (n := 268435456) rfl (by decide)) h
  | .contextParityError .., h => execContextParityError_frame (subParts_of (n := 36893711368960287238) rfl (by decide)) h
  | .programStoreUe .., h => execProgramStoreUe_frame (subParts_of (n := 36893711371107770886) rfl (by decide)) h
  | .recordRelease .., h => execRecordRelease_frame (subParts_of (n := 17179869184) rfl (by decide)) h
  | .exceptionDelivery, h => execExceptionDelivery_frame (subParts_of (n := 36893710265958408710) rfl (by decide)) h
  | .programStoreWrite .., h => execProgramStoreWrite_frame (subParts_of (n := 203563526) rfl (by decide)) h
  | .programStoreRead .., h => execProgramStoreRead_frame (subParts_of (n := 2236934) rfl (by decide)) h
  | .psCrcRecompute .., h => execPsCrcRecompute_frame (subParts_of (n := 134217730) rfl (by decide)) h
  | .flipRequest .., h => execFlipRequest_frame (subParts_of (n := 8592171526) rfl (by decide)) h
  | .flipCheck, h => execFlipCheck_frame (subParts_of (n := 8592171526) rfl (by decide)) h
  | .oldBankFree, h => execOldBankFree_frame (subParts_of (n := 2236934) rfl (by decide)) h
  | .recordAccept .., h => execRecordAccept_frame (subParts_of (n := 36893714664004919814) rfl (by decide)) h
  | .treeWalk .., h => execTreeWalk_frame (subParts_of (n := 36893708066935154182) rfl (by decide)) h
  | .resultHandoff .., h => execResultHandoff_frame (subParts_of (n := 17179869184) rfl (by decide)) h
  | .batchStage .., h => execBatchStage_frame (subParts_of (n := 2236934) rfl (by decide)) h
  | .batchUnstage .., h => execBatchUnstage_frame (subParts_of (n := 2236934) rfl (by decide)) h
  | .batchSwap .., h => execBatchSwap_frame (subParts_of (n := 2236958) rfl (by decide)) h
  | .batchRetire .., h => execBatchRetire_frame (subParts_of (n := 2236934) rfl (by decide)) h
  | .batchRetiredClear .., h => execBatchRetiredClear_frame (subParts_of (n := 2236934) rfl (by decide)) h
  | .emProbe .., h => execEmProbe_frame (subParts_of (n := 18014415691589126) rfl (by decide)) h
  | .privilegedReprobe .., h => execPrivilegedReprobe_frame (subParts_of (n := 18014415691589126) rfl (by decide)) h
  | .lpmProbe .., h => execLpmProbe_frame (subParts_of (n := 18014415691589126) rfl (by decide)) h
  | .ageRefresh, h => execAgeRefresh_frame (subParts_of (n := 18014398510006306) rfl (by decide)) h
  | .insert, h => execInsert_frame (subParts_of (n := 8162791549183526) rfl (by decide)) h
  | .insertNoevict, h => execInsertNoevict_frame (subParts_of (n := 8162791549183526) rfl (by decide)) h
  | .delete, h => execDelete_frame (subParts_of (n := 844424974836262) rfl (by decide)) h
  | .lookup, h => execLookup_frame (subParts_of (n := 35792390) rfl (by decide)) h
  | .clearSlot, h => execClearSlot_frame (subParts_of (n := 844424974836262) rfl (by decide)) h
  | .bloomRebuild, h => execBloomRebuild_frame (subParts_of (n := 288230376187503110) rfl (by decide)) h
  | .bloomRebuildEnd, h => execBloomRebuildEnd_frame (subParts_of (n := 289356276094345734) rfl (by decide)) h
  | .learnExecute, h => execLearnExecute_frame (subParts_of (n := 35184389279852070) rfl (by decide)) h
  | .epochAdvance, h => execEpochAdvance_frame (subParts_of (n := 216172782116020742) rfl (by decide)) h
  | .sweepBucketVisit, h => execSweepBucketVisit_frame (subParts_of (n := 252201579132747778) rfl (by decide)) h
  | .compareAndClear, h => execCompareAndClear_frame (subParts_of (n := 43628621401301542) rfl (by decide)) h
  | .notificationRecordWrite, h => execNotificationRecordWrite_frame (subParts_of (n := 2251799815922566) rfl (by decide)) h
  | .nrConsWrite .., h => execNrConsWrite_frame (subParts_of (n := 2236934) rfl (by decide)) h
  | .actionApply .., h => execActionApply_frame (subParts_of (n := 186206103198572357126) rfl (by decide)) h
  | .meterUpdate .., h => execMeterUpdate_frame (subParts_of (n := 17182106150) rfl (by decide)) h
  | .counterUpdate .., h => execCounterUpdate_frame (subParts_of (n := 1152921504609083942) rfl (by decide)) h
  | .templateReadAbandon .., h => execTemplateReadAbandon_frame (subParts_of (n := 186206103198572357126) rfl (by decide)) h
  | .traceRecordWrite, h => execTraceRecordWrite_frame (subParts_of (n := 70368746414982) rfl (by decide)) h
  | .traceConsWrite .., h => execTraceConsWrite_frame (subParts_of (n := 2236934) rfl (by decide)) h
  | .cntRead, h => execCntRead_frame (subParts_of (n := 35791366) rfl (by decide)) h
  | .cntReadClear, h => execCntReadClear_frame (subParts_of (n := 35791398) rfl (by decide)) h
  | .cntPreset, h => execCntPreset_frame (subParts_of (n := 35791398) rfl (by decide)) h
  | .meterWrite, h => execMeterWrite_frame (subParts_of (n := 35791398) rfl (by decide)) h
  | .meterRead, h => execMeterRead_frame (subParts_of (n := 35791366) rfl (by decide)) h
  | .meterDisable, h => execMeterDisable_frame (subParts_of (n := 35791398) rfl (by decide)) h
  | .copyEnqueue .., h => execCopyEnqueue_frame (subParts_of (n := 43811254686762279430) rfl (by decide)) h
  | .portSchedule .., h => execPortSchedule_frame (subParts_of (n := 48422940705189667334) rfl (by decide)) h
  | .hostDelivery, h => execHostDelivery_frame (subParts_of (n := 41505411677565362694) rfl (by decide)) h
  | .frameArrival .., h => execFrameArrival_frame (subParts_of (n := 9223521621977997830) rfl (by decide)) h
  | .frameReceiveEnd .., h => execFrameReceiveEnd_frame (subParts_of (n := 46117097902134403590) rfl (by decide)) h
  | .pauseReceive .., h => execPauseReceive_frame (subParts_of (n := 46117097902134403590) rfl (by decide)) h
  | .pfcReceive .., h => execPfcReceive_frame (subParts_of (n := 46117097902134403590) rfl (by decide)) h
  | .pauseTimerExpiry .., h => execPauseTimerExpiry_frame (subParts_of (n := 9223372036854775810) rfl (by decide)) h
  | .pauseWatchdog .., h => execPauseWatchdog_frame (subParts_of (n := 9223372036857012742) rfl (by decide)) h
  | .pauseHoldEnd .., h => execPauseHoldEnd_frame (subParts_of (n := 9223372036854775808) rfl (by decide)) h
  | .laneLockLoss .., h => execLaneLockLoss_frame (subParts_of (n := 64563841769685524998) rfl (by decide)) h
  | .laneLockAcquire .., h => execLaneLockAcquire_frame (subParts_of (n := 18446744073709552130) rfl (by decide)) h
  | .upHoldExpiry .., h => execUpHoldExpiry_frame (subParts_of (n := 46117097695975973382) rfl (by decide)) h
  | .faultSequenceReceive .., h => execFaultSequenceReceive_frame (subParts_of (n := 46117097695975973382) rfl (by decide)) h
  | .fecDegradeWindow .., h => execFecDegradeWindow_frame (subParts_of (n := 9223372036857012742) rfl (by decide)) h
  | .flowControlFrameSend .., h => execFlowControlFrameSend_frame (subParts_of (n := 9223372036854776320) rfl (by decide)) h
  | .pfcRefresh .., h => execPfcRefresh_frame (subParts_of (n := 9223372036854776320) rfl (by decide)) h
  | .frameTransmitStart .., h => execFrameTransmitStart_frame (subParts_of (n := 46117097695975973382) rfl (by decide)) h
  | .txUnderrun .., h => execTxUnderrun_frame (subParts_of (n := 46117097695975974406) rfl (by decide)) h
  | .frameTransmitEnd .., h => execFrameTransmitEnd_frame (subParts_of (n := 46117097695975973382) rfl (by decide)) h
  | .macSnapshot .., h => execMacSnapshot_frame (subParts_of (n := 9223372036857012742) rfl (by decide)) h
  | .macgSnapshot .., h => execMacgSnapshot_frame (subParts_of (n := 9223372036857012742) rfl (by decide)) h
  | .tsFifoCapture .., h => execTsFifoCapture_frame (subParts_of (n := 9223372036857012742) rfl (by decide)) h
  | .txStartBaseWrite .., h => execTxStartBaseWrite_frame (subParts_of (n := 2236958) rfl (by decide)) h
  | .pcsModeWrite .., h => execPcsModeWrite_frame (subParts_of (n := 2236958) rfl (by decide)) h
  | .pcsRetuneDone .., h => execPcsRetuneDone_frame (subParts_of (n := 46117097695975973406) rfl (by decide)) h
  | .cageTwiStart .., h => execCageTwiStart_frame (subParts_of (n := 35791366) rfl (by decide)) h
  | .cageTwiDone .., h => execCageTwiDone_frame (subParts_of (n := 35791366) rfl (by decide)) h
  | .cagePresenceChange .., h => execCagePresenceChange_frame (subParts_of (n := 64563841769685524998) rfl (by decide)) h
  | .cageModuleInterrupt .., h => execCageModuleInterrupt_frame (subParts_of (n := 2236934) rfl (by decide)) h
  | .cageSupplyFault .., h => execCageSupplyFault_frame (subParts_of (n := 64563841769685525022) rfl (by decide)) h
  | .lehrJobSubmit, h => execLehrJobSubmit_frame (subParts_of (n := 517085303732550378406) rfl (by decide)) h
  | .lehrBlockIssue .., h => execLehrBlockIssue_frame (subParts_of (n := 73786976294838207494) rfl (by decide)) h
  | .lehrBlockComplete .., h => execLehrBlockComplete_frame (subParts_of (n := 73786976294840508934) rfl (by decide)) h
  | .lehrJobEnd .., h => execLehrJobEnd_frame (subParts_of (n := 517085303732550443942) rfl (by decide)) h
  | .knownAnswerTest .., h => execKnownAnswerTest_frame (subParts_of (n := 73786976294841033222) rfl (by decide)) h
  | .drbgReseed .., h => execDrbgReseed_frame (subParts_of (n := 73786976294840443398) rfl (by decide)) h
  | .keyUnwrap, h => execKeyUnwrap_frame (subParts_of (n := 73786976294848833062) rfl (by decide)) h
  | .install, h => execInstall_frame (subParts_of (n := 73786976294882386470) rfl (by decide)) h
  | .retire, h => execRetire_frame (subParts_of (n := 73786976294882386438) rfl (by decide)) h
  | .query, h => execQuery_frame (subParts_of (n := 35791366) rfl (by decide)) h
  | .slotZeroise .., h => execSlotZeroise_frame (subParts_of (n := 73786976294848832038) rfl (by decide)) h
  | .sxpPrecheck .., h => execSxpPrecheck_frame (subParts_of (n := 553979056037638054438) rfl (by decide)) h
  | .sxpPostcheck .., h => execSxpPostcheck_frame (subParts_of (n := 480192079742799847974) rfl (by decide)) h
  | .sxpWrite, h => execSxpWrite_frame (subParts_of (n := 147573952589712728614) rfl (by decide)) h
  | .sxpRead, h => execSxpRead_frame (subParts_of (n := 35791366) rfl (by decide)) h
  | .sxpDisable, h => execSxpDisable_frame (subParts_of (n := 35791398) rfl (by decide)) h
  | .sxpRoll, h => execSxpRoll_frame (subParts_of (n := 442721857769065030182) rfl (by decide)) h
  | .rollComplete .., h => execRollComplete_frame (subParts_of (n := 147573952589678649862) rfl (by decide)) h
  | .limitFifoPop .., h => execLimitFifoPop_frame (subParts_of (n := 147573952589678649862) rfl (by decide)) h
  | .read .., h => execRead_frame (subParts_of (n := 295147913975473250822) rfl (by decide)) h
  | .write .., h => execWrite_frame (subParts_of (n := 295147913975473250822) rfl (by decide)) h
  | .flush .., h => execFlush_frame (subParts_of (n := 295147913975473250822) rfl (by decide)) h
  | .trim .., h => execTrim_frame (subParts_of (n := 295147913975473250822) rfl (by decide)) h
  | .wireCommandIssue .., h => execWireCommandIssue_frame (subParts_of (n := 517085303732550378022) rfl (by decide)) h
  | .c2hdataReceive .., h => execC2hdataReceive_frame (subParts_of (n := 517085303732550378406) rfl (by decide)) h
  | .capsuleRespReceive .., h => execCapsuleRespReceive_frame (subParts_of (n := 443298327437712171558) rfl (by decide)) h
  | .readyToTransferReceive .., h => execReadyToTransferReceive_frame (subParts_of (n := 443298327437712171558) rfl (by decide)) h
  | .c2htermreqReceive .., h => execC2htermreqReceive_frame (subParts_of (n := 443298327437712171558) rfl (by decide)) h
  | .icrespReceive .., h => execIcrespReceive_frame (subParts_of (n := 443298327437712171558) rfl (by decide)) h
  | .synAckReceive, h => execSynAckReceive_frame (subParts_of (n := 484803730301960462886) rfl (by decide)) h
  | .tcpRstReceive, h => execTcpRstReceive_frame (subParts_of (n := 484803730301977240102) rfl (by decide)) h
  | .tcpSegmentReceive, h => execTcpSegmentReceive_frame (subParts_of (n := 484803730301960462886) rfl (by decide)) h
  | .retransmissionTimeout .., h => execRetransmissionTimeout_frame (subParts_of (n := 443298327437712171558) rfl (by decide)) h
  | .cmdTimeout .., h => execCmdTimeout_frame (subParts_of (n := 443298327437712171558) rfl (by decide)) h
  | .openWaitTimeout .., h => execOpenWaitTimeout_frame (subParts_of (n := 295147913975473250822) rfl (by decide)) h
  | .volWrite, h => execVolWrite_frame (subParts_of (n := 35791398) rfl (by decide)) h
  | .volRead, h => execVolRead_frame (subParts_of (n := 35791366) rfl (by decide)) h
  | .volDisable, h => execVolDisable_frame (subParts_of (n := 35791398) rfl (by decide)) h
  | .stoVolBindKey, h => execStoVolBindKey_frame (subParts_of (n := 35791398) rfl (by decide)) h
  | .sesWrite, h => execSesWrite_frame (subParts_of (n := 295147905179388617254) rfl (by decide)) h
  | .sesRead, h => execSesRead_frame (subParts_of (n := 35791366) rfl (by decide)) h
  | .sesOpen, h => execSesOpen_frame (subParts_of (n := 295724374848052536870) rfl (by decide)) h
  | .sesGo, h => execSesGo_frame (subParts_of (n := 443298327437728948774) rfl (by decide)) h
  | .sesClose, h => execSesClose_frame (subParts_of (n := 295147913975506805286) rfl (by decide)) h
  | .sesReset, h => execSesReset_frame (subParts_of (n := 443298327437745725990) rfl (by decide)) h
  | .sessionDrained .., h => execSessionDrained_frame (subParts_of (n := 295724374848018981414) rfl (by decide)) h
  | .mbxSend .., h => execMbxSend_frame (subParts_of (n := 1770887431076131774982) rfl (by decide)) h
  | .mbxPop .., h => execMbxPop_frame (subParts_of (n := 1770887431076131774982) rfl (by decide)) h
  | .sliceCreate .., h => execSliceCreate_frame (subParts_of (n := 1770887431076165329414) rfl (by decide)) h
  | .sliceModify .., h => execSliceModify_frame (subParts_of (n := 590295810358754025990) rfl (by decide)) h
  | .sliceDestroy .., h => execSliceDestroy_frame (subParts_of (n := 2176716038209483711014) rfl (by decide)) h
  | .poolSet .., h => execPoolSet_frame (subParts_of (n := 1770887431076131774982) rfl (by decide)) h
  | .move .., h => execMove_frame (subParts_of (n := 590295810358720521190) rfl (by decide)) h
  | .otpWrite .., h => execOtpWrite_frame (subParts_of (n := 1770887431076131774982) rfl (by decide)) h
  | .otpProgramEnd, h => execOtpProgramEnd_frame (subParts_of (n := 1770887431076131774982) rfl (by decide)) h
  | .lifecycleAdvance .., h => execLifecycleAdvance_frame (subParts_of (n := 1770887431076131774982) rfl (by decide)) h
  | .fwReady .., h => execFwReady_frame (subParts_of (n := 931560813234039235134) rfl (by decide)) h
  | .keyInstall, h => execKeyInstall_frame (subParts_of (n := 1254378597012293689894) rfl (by decide)) h
  | .keyRetire, h => execKeyRetire_frame (subParts_of (n := 1254378597012293689862) rfl (by decide)) h
  | .keyQuery, h => execKeyQuery_frame (subParts_of (n := 1180591620717447094790) rfl (by decide)) h
  | .saWrite, h => execSaWrite_frame (subParts_of (n := 1328165573307124032038) rfl (by decide)) h
  | .saDisable, h => execSaDisable_frame (subParts_of (n := 1180591620717447094822) rfl (by decide)) h
  | .saRoll, h => execSaRoll_frame (subParts_of (n := 1328165573307123507750) rfl (by decide)) h
  | .saRead, h => execSaRead_frame (subParts_of (n := 1180591620717447094790) rfl (by decide)) h
  | .volBindKey, h => execVolBindKey_frame (subParts_of (n := 1180591620717447094822) rfl (by decide)) h
  | .queueOp, h => execQueueOp_frame (subParts_of (n := 1217485346376583356966) rfl (by decide)) h
  | .sesCtl, h => execSesCtl_frame (subParts_of (n := 1623889948155157029414) rfl (by decide)) h
  | .charterHistory, h => execCharterHistory_frame (subParts_of (n := 1180591620717411303936) rfl (by decide)) h
  | .getVersion .., h => execGetVersion_frame (subParts_of (n := 1180591620717411303936) rfl (by decide)) h
  | .getCapabilities .., h => execGetCapabilities_frame (subParts_of (n := 1180591620717411303936) rfl (by decide)) h
  | .negotiateAlgorithms .., h => execNegotiateAlgorithms_frame (subParts_of (n := 1180591620717411303936) rfl (by decide)) h
  | .getDigests .., h => execGetDigests_frame (subParts_of (n := 1180591620717411303936) rfl (by decide)) h
  | .getCertificate .., h => execGetCertificate_frame (subParts_of (n := 1180591620717411303936) rfl (by decide)) h
  | .challenge .., h => execChallenge_frame (subParts_of (n := 1180591620717411304960) rfl (by decide)) h
  | .getMeasurements .., h => execGetMeasurements_frame (subParts_of (n := 1180591620717411304960) rfl (by decide)) h
  | .keyExchange .., h => execKeyExchange_frame (subParts_of (n := 1180591620717411304960) rfl (by decide)) h
  | .finish .., h => execFinish_frame (subParts_of (n := 1180591620717411303936) rfl (by decide)) h
  | .heartbeat .., h => execHeartbeat_frame (subParts_of (n := 1180591620717411303936) rfl (by decide)) h
  | .keyUpdate .., h => execKeyUpdate_frame (subParts_of (n := 1180591620717411303936) rfl (by decide)) h
  | .endSession .., h => execEndSession_frame (subParts_of (n := 1180591620717411303936) rfl (by decide)) h
  | .vendorDefinedRequest .., h => execVendorDefinedRequest_frame (subParts_of (n := 1180591620717411303936) rfl (by decide)) h
  | .spdmSessionTimeout .., h => execSpdmSessionTimeout_frame (subParts_of (n := 1180591620717411303424) rfl (by decide)) h
  | .welborRelease, h => execWelborRelease_frame (subParts_of (n := 3023366) rfl (by decide)) h
  | .bootStageEnd .., h => execBootStageEnd_frame (subParts_of (n := 1180591620717414064710) rfl (by decide)) h
  | .mctpControlMessage .., h => execMctpControlMessage_frame (subParts_of (n := 1180591620717411303936) rfl (by decide)) h
end Sys2Proof.Machine
end

