-- ==== Sys2Proof/Laws/Contexts.lean ====
section
/-!
SUPPORT. The contexts that issuing an instruction of a gaffer core leaves alone (R51, R52).
-/

namespace Sys2Proof.Machine

/-- Every part of the device but the contexts. -/
def notContexts : Nat := partSet (partsBut [.ctxs])

theorem Dev.ctxs_of_mask {d e : Dev} (h : d.mask notContexts = e.mask notContexts) : d.ctxs = e.ctxs :=
  Dev.same_of_mask h .ctxs (by decide)

/-- A table reads as before at every other key, in canonical form or not. -/
theorem Sparse.get_set_ne {α : Type} [DecidableEq α] {f : Nat → α} (k : Nat) (v : α) {j : Nat} (h : j ≠ k) :
    ∀ m : List (Nat × α), Sparse.get f (Sparse.set f m k v) j = Sparse.get f m j
  | [] => by
    simp only [Sparse.set]
    split
    · rfl
    · simp [Sparse.get, h]
  | (k', v') :: r => by
    simp only [Sparse.set]
    split
    · split
      · rfl
      · simp [Sparse.get, h]
    · split
      · rename_i e
        subst e
        split <;> simp [Sparse.get, h]
      · simp only [Sparse.get]
        split
        · rfl
        · exact Sparse.get_set_ne k v h r

theorem Dev.ctxAt_setCtx_ne (d : Dev) (c : Nat) (x : Option Ctx) {i : Nat} (h : i ≠ c) : (d.setCtx c x).ctxAt i = d.ctxAt i :=
  Sparse.get_set_ne c x h d.ctxs

theorem Dev.ctxAt_raise_ne (d : Dev) (c : Nat) (x : Ctx) (code sub pc : Nat) {i : Nat} (h : i ≠ c) :
    (d.raise c x code sub pc).ctxAt i = d.ctxAt i := by
  have e : (d.raise c x code sub pc).mask notContexts = (d.setCtx c none).mask notContexts := by
    simp (disch := decide) only [Dev.raise, Dev.excEnqueue_mask, Dev.passEnded_mask, Dev.writeExcRecord_mask, Dev.wset_mask,
      Dev.count_mask, Dev.setPacket_mask]
  have e2 := Dev.ctxs_of_mask e
  rw [Dev.ctxAt, e2]
  exact d.ctxAt_setCtx_ne c none h

theorem Dev.ctxAt_donePass_ne (d : Dev) (c : Nat) (x : Ctx) {i : Nat} (h : i ≠ c) : (d.donePass c x).ctxAt i = d.ctxAt i := by
  have e : (d.donePass c x).mask notContexts = (d.setCtx c none).mask notContexts := by
    simp (disch := decide) only [Dev.donePass, Dev.passEnded_mask, Dev.setPacket_mask]
  have e2 := Dev.ctxs_of_mask e
  rw [Dev.ctxAt, e2]
  exact d.ctxAt_setCtx_ne c none h

theorem Dev.ctxAt_settleIssue_ne (d : Dev) (c : Nat) (x : Ctx) (r : Issued) {i : Nat} (h : i ≠ c) :
    (d.settleIssue c x r).ctxAt i = d.ctxAt i := by
  unfold Dev.settleIssue
  dsimp only
  split
  · exact d.ctxAt_raise_ne c x _ _ _ h
  · split
    · exact d.ctxAt_raise_ne c x _ _ _ h
    · split
      · exact d.ctxAt_raise_ne c x _ _ _ h
      · split
        · exact d.ctxAt_donePass_ne c _ h
        · exact d.ctxAt_setCtx_ne c _ h

/-- The context that issues is one of its core's four. -/
theorem Dev.readyCtx_core {d : Dev} {k c : Nat} {x : Ctx} (h : d.readyCtx k = some (c, x)) : c / 4 = k := by
  have hm := List.mem_of_mem_head? (Option.mem_def.2 h)
  rw [List.mem_filterMap] at hm
  obtain ⟨i, -, hi⟩ := hm
  dsimp only at hi
  split at hi
  · split at hi
    · cases hi
    · cases hi
      omega
  · cases hi

/-- Whatever core `k` issues, the contexts of every other core stay as they are. -/
theorem Dev.ctxAt_issue_ne (d : Dev) (k op : Nat) (f : View → Ctx → Issued) {i : Nat} (h : i / 4 ≠ k) :
    (d.issue k op f).ctxAt i = d.ctxAt i := by
  unfold Dev.issue
  split
  · rfl
  · rename_i c x hr
    have hc := Dev.readyCtx_core hr
    have hi : i ≠ c := fun e => h (e ▸ hc)
    dsimp only
    split
    · split
      · exact Dev.ctxAt_settleIssue_ne _ c x _ hi
      · rfl
    · split
      · exact Dev.ctxAt_settleIssue_ne _ c x _ hi
      · rfl

end Sys2Proof.Machine
end

