-- ==== Sys2Proof/Laws/Crypto.lean ====
section
/-!
SUPPORT. Lengths of the AES operations, and that a keystream applied twice gives the data back (R184, R191).
-/

namespace Sys2Proof.Machine

theorem toLe_length : ∀ n v : Nat, (toLe n v).length = n
  | 0, _ => rfl
  | n + 1, v => by simp [toLe, toLe_length n]

theorem cut_length (bs : List Byte) (o n : Nat) : (cut bs o n).length = n := by
  simp only [cut, List.length_append, List.length_replicate, List.length_take, List.length_drop]
  omega

/-- Bytes that lie within a string are cut out of it. -/
theorem cut_append (a b c : List Byte) : cut (a ++ b ++ c) a.length b.length = b := by
  simp [cut]

theorem ofLe_toLe : ∀ n v : Nat, ofLe (toLe n v) = v % 256 ^ n
  | 0, v => by simp [ofLe, toLe, Nat.mod_one]
  | n + 1, v => by
    simp only [toLe, ofLe, ofLe_toLe n, BitVec.toNat_ofNat]
    rw [show 2 ^ 8 = 256 from rfl, show 256 ^ (n + 1) = 256 * 256 ^ n by rw [Nat.pow_succ, Nat.mul_comm], Nat.mod_mul]

theorem Aes.xor_length (a b : List Byte) : (Aes.xor a b).length = min a.length b.length := by
  simp [Aes.xor]

/-- XOR with the same string twice. -/
theorem Aes.xor_xor : ∀ a b : List Byte, a.length ≤ b.length → Aes.xor (Aes.xor a b) b = a
  | [], _, _ => by simp [Aes.xor]
  | x :: a, [], h => by simp at h
  | x :: a, y :: b, h => by
    have ih := Aes.xor_xor a b (by simpa using h)
    simp only [Aes.xor, List.zipWith_cons_cons, List.cons.injEq] at ih ⊢
    exact ⟨by rw [BitVec.xor_assoc, BitVec.xor_self, BitVec.xor_zero], ih⟩

/-- Every word of a key schedule has 4 bytes, and the schedule has the words asked for. -/
theorem Aes.extendKey_words (nk : Nat) (hk : 0 < nk) : ∀ (n : Nat) (w : List (List Byte)), nk ≤ w.length →
    (∀ x ∈ w, x.length = 4) → (Aes.extendKey nk n w).length = w.length + n ∧ ∀ x ∈ Aes.extendKey nk n w, x.length = 4
  | 0, w, _, h => ⟨rfl, h⟩
  | n + 1, w, hl, h => by
    have hlast : (w.getLastD []).length = 4 := by
      have hne : w ≠ [] := by intro e; subst e; simp at hl; omega
      rw [List.getLastD_eq_getLast?, List.getLast?_eq_some_getLast hne]
      exact h _ (List.getLast_mem hne)
    have hprev : (w.getD (w.length - nk) []).length = 4 := by
      have hi : w.length - nk < w.length := by omega
      rw [List.getD_eq_getElem _ _ hi]
      exact h _ (List.getElem_mem hi)
    simp only [Aes.extendKey]
    generalize ht : (if w.length % nk = 0 then
        Aes.xor ((List.drop 1 (w.getLastD []) ++ List.take 1 (w.getLastD [])).map Aes.sbox) [Aes.rcon (w.length / nk), 0, 0, 0]
      else if 6 < nk ∧ w.length % nk = 4 then (w.getLastD []).map Aes.sbox else w.getLastD []) = t
    have htl : t.length = 4 := by
      rw [← ht]
      split
      · rw [Aes.xor_length, List.length_map, List.length_append, List.length_drop, List.length_take, hlast]
        rfl
      · split
        · simpa using hlast
        · exact hlast
    have ih := Aes.extendKey_words nk hk n (w ++ [Aes.xor (w.getD (w.length - nk) []) t]) (by simp; omega) (by
      intro x hx
      rcases List.mem_append.1 hx with hx | hx
      · exact h x hx
      · rw [List.mem_singleton.1 hx, Aes.xor_length, hprev, htl]; rfl)
    refine ⟨?_, ih.2⟩
    rw [ih.1]
    simp
    omega

theorem Aes.flatten_length : ∀ (l : List (List Byte)), (∀ x ∈ l, x.length = 4) → l.flatten.length = 4 * l.length
  | [], _ => rfl
  | x :: l, h => by
    simp only [List.flatten_cons, List.length_append, List.length_cons]
    rw [h x (by simp), Aes.flatten_length l (fun y hy => h y (by simp [hy]))]
    omega

/-- A 32-byte key has 15 round keys of 16 bytes. -/
theorem Aes.roundKeys_words (key : List Byte) (h : key.length = 32) :
    (Aes.roundKeys key).length = 15 ∧ ∀ k ∈ Aes.roundKeys key, k.length = 16 := by
  have hw := Aes.extendKey_words 8 (by omega) 52 ((List.range 8).map (fun i => cut key (4 * i) 4)) (by simp) (by
    intro x hx
    obtain ⟨i, -, rfl⟩ := List.mem_map.1 hx
    exact cut_length _ _ _)
  simp only [Aes.roundKeys, h]
  refine ⟨by simp, ?_⟩
  intro k hk
  obtain ⟨r, hr, rfl⟩ := List.mem_map.1 hk
  rw [Aes.flatten_length _ (fun x hx => hw.2 x (List.mem_of_mem_drop (List.mem_of_mem_take hx)))]
  have hlen := hw.1
  simp only [List.length_map, List.length_range] at hlen
  simp only [List.length_take, List.length_drop]
  have hr' := List.mem_range.1 hr
  have : (Aes.extendKey (32 / 4) (4 * (32 / 4 + 6 + 1) - 32 / 4) ((List.range (32 / 4)).map (fun i => cut key (4 * i) 4))).length = 60 := hlen
  rw [this]
  omega

theorem Aes.encRounds_length : ∀ (ks : List (List Byte)) (s : List Byte), ks ≠ [] → (∀ k ∈ ks, k.length = 16) →
    (Aes.encRounds ks s).length = 16
  | [], _, h, _ => absurd rfl h
  | [k], s, _, h => by
    simp [Aes.encRounds, Aes.xor_length, Aes.shiftRows, h k (by simp)]
  | k :: k' :: ks, s, _, h => by
    simp only [Aes.encRounds]
    exact Aes.encRounds_length (k' :: ks) _ (by simp) (fun x hx => h x (by simp [hx]))

theorem Aes.encrypt_length (key b : List Byte) (h : key.length = 32) : (Aes.encrypt key b).length = 16 := by
  have hk := Aes.roundKeys_words key h
  unfold Aes.encrypt
  split
  · rename_i e
    rw [e] at hk
    simp at hk
  · rename_i k ks e
    rw [e] at hk
    refine Aes.encRounds_length ks _ ?_ (fun x hx => hk.2 x (by simp [hx]))
    rintro rfl
    simp at hk

theorem toBe_length (n v : Nat) : (toBe n v).length = n := by simp [toBe, toLe_length]

theorem Aes.gcmTag_length (key iv aad ct : List Byte) (h : key.length = 32) : (Aes.gcmTag key iv aad ct).length = 16 := by
  simp [Aes.gcmTag, Aes.xor_length, Aes.encrypt_length key _ h, toBe_length]

/-- The blocks of whole blocks put together. -/
theorem Aes.blocks_flatMap (g : Nat → List Byte) : ∀ n : Nat, (∀ i, (g i).length = 16) →
    Aes.blocks ((List.range n).flatMap g) = (List.range n).map g := by
  intro n hg
  have hl : ∀ n, ((List.range n).flatMap g).length = 16 * n := by
    intro n
    induction n with
    | zero => rfl
    | succ n ih => rw [List.range_succ, List.flatMap_append, List.length_append, ih]; simp [hg]; omega
  have hd : ∀ n i, i < n → (((List.range n).flatMap g).drop (16 * i)).take 16 = g i := by
    intro n
    induction n with
    | zero => intro i h; omega
    | succ n ih =>
      intro i h
      rw [List.range_succ, List.flatMap_append]
      by_cases hi : i < n
      · rw [List.drop_append_of_le_length (by rw [hl]; omega), List.take_append_of_le_length (by rw [List.length_drop, hl]; omega)]
        exact ih i hi
      · have : i = n := by omega
        subst this
        rw [List.drop_append, hl]
        rw [List.drop_of_length_le (by rw [hl])]
        simp [hg]
  unfold Aes.blocks
  rw [hl, show (16 * n + 15) / 16 = n by omega]
  apply List.map_congr_left
  intro i hi
  exact hd n i (List.mem_range.1 hi)

/-- The keystream over whole blocks, block by block. -/
theorem Aes.ctrStream_eq (key ctr : List Byte) (w : Nat) (bs : List Byte) :
    Aes.ctrStream key ctr w bs = (List.range ((bs.length + 15) / 16)).flatMap
      (fun i => Aes.xor ((bs.drop (16 * i)).take 16) (Aes.encrypt key (Aes.addCounter w i ctr))) := by
  simp only [Aes.ctrStream, Aes.blocks]
  rw [List.zipIdx_eq_zip_range', List.length_map, List.length_range]
  have : (List.range' 0 ((bs.length + 15) / 16)) = List.range ((bs.length + 15) / 16) := List.range_eq_range'.symm
  rw [this]
  generalize (bs.length + 15) / 16 = n
  have hz : ∀ (l : List Nat) (f : Nat → List Byte), ((l.map f).zip l) = l.map (fun i => (f i, i)) := by
    intro l f
    induction l with
    | nil => rfl
    | cons a l ih => simp [ih]
  rw [hz, List.flatMap_map]

/-- The keystream applied twice to whole blocks gives them back. -/
theorem Aes.ctrStream_twice (key ctr : List Byte) (w n : Nat) (bs : List Byte) (hk : key.length = 32) (hb : bs.length = 16 * n) :
    (Aes.ctrStream key ctr w bs).length = 16 * n ∧ Aes.ctrStream key ctr w (Aes.ctrStream key ctr w bs) = bs := by
  have hg : ∀ i, i < n → (Aes.xor ((bs.drop (16 * i)).take 16) (Aes.encrypt key (Aes.addCounter w i ctr))).length = 16 := by
    intro i hi
    rw [Aes.xor_length, Aes.encrypt_length key _ hk, List.length_take, List.length_drop, hb]
    omega
  let g : Nat → List Byte := fun i => if i < n then Aes.xor ((bs.drop (16 * i)).take 16) (Aes.encrypt key (Aes.addCounter w i ctr))
    else List.replicate 16 0
  have hgl : ∀ i, (g i).length = 16 := by
    intro i
    simp only [g]
    split
    · exact hg i ‹_›
    · simp
  have hs : Aes.ctrStream key ctr w bs = (List.range n).flatMap g := by
    rw [Aes.ctrStream_eq, hb, show (16 * n + 15) / 16 = n by omega]
    apply List.flatMap_congr
    intro i hi
    simp only [g, if_pos (List.mem_range.1 hi)]
  have hlen : ∀ n, ((List.range n).flatMap g).length = 16 * n := by
    intro n
    induction n with
    | zero => rfl
    | succ n ih => rw [List.range_succ, List.flatMap_append, List.length_append, ih]; simp [hgl]; omega
  refine ⟨by rw [hs, hlen], ?_⟩
  rw [hs]
  simp only [Aes.ctrStream]
  rw [Aes.blocks_flatMap g n hgl, List.zipIdx_eq_zip_range', List.length_map, List.length_range, ← List.range_eq_range']
  have hz : ∀ (l : List Nat) (f : Nat → List Byte), ((l.map f).zip l) = l.map (fun i => (f i, i)) := by
    intro l f
    induction l with
    | nil => rfl
    | cons a l ih => simp [ih]
  rw [hz, List.flatMap_map]
  have hx : ∀ i, i < n → Aes.xor (g i) (Aes.encrypt key (Aes.addCounter w i ctr)) = (bs.drop (16 * i)).take 16 := by
    intro i hi
    simp only [g, if_pos hi]
    exact Aes.xor_xor _ _ (by rw [Aes.encrypt_length key _ hk, List.length_take]; omega)
  have hj : ∀ m, m ≤ n → (List.range m).flatMap (fun i => Aes.xor (g i) (Aes.encrypt key (Aes.addCounter w i ctr))) = bs.take (16 * m) := by
    intro m
    induction m with
    | zero => intro _; simp
    | succ m ih =>
      intro hm
      rw [List.range_succ, List.flatMap_append, ih (by omega)]
      simp only [List.flatMap_cons, List.flatMap_nil, List.append_nil]
      rw [hx m (by omega), show 16 * (m + 1) = 16 * m + 16 by omega, List.take_add]
  have := hj n (Nat.le_refl _)
  rw [← hb, List.take_length] at this
  exact this

/-- GCM encryption and decryption of whole blocks are inverse. -/
theorem Aes.gcmCrypt_twice (key iv bs : List Byte) (n : Nat) (hk : key.length = 32) (hb : bs.length = 16 * n) :
    (Aes.gcmCrypt key iv bs).length = 16 * n ∧ Aes.gcmCrypt key iv (Aes.gcmCrypt key iv bs) = bs :=
  Aes.ctrStream_twice key _ 4 n bs hk hb

end Sys2Proof.Machine
end

