-- ==== Sys2Proof/Laws/Gaffer.lean ====
section
/-!
SUPPORT. What issuing an instruction of a gaffer core does (R52, R70), once for every instruction.
-/

namespace Sys2Proof.Machine

/-- What `issues` says. -/
theorem Dev.issues_iff (d : Dev) (core c : Nat) (x : Ctx) (w cost : Nat) :
    d.issues core c x w cost = true ↔ d.readyCtx core = some (c, x) ∧ x.pc ≤ 2047
      ∧ (d.storeWord (ctxUnit c) x.bank x.pc).toNat = w
      ∧ x.charged + cost ≤ d.fget Page.gafg Reg.GAFG_CYCLE_LIMIT_LIMIT := by
  simp [Dev.issues, and_assoc]

/-- An instruction that breaks no rule and does not end the pass: the context takes its new state and its cost. -/
theorem Dev.issue_next {d : Dev} {core c w op : Nat} {x : Ctx} {f : View → Ctx → Issued}
    (h : d.issues core c x w (f (d.view c x) x).cost = true) (hop : opcodeOf w = op)
    (hill : (f (d.view c x) x).illegal = []) (hov : (f (d.view c x) x).overrun = none)
    (hend : (f (d.view c x) x).ends = false) :
    d.issue core op f
      = d.issued core c { (f (d.view c x) x).next with charged := x.charged + (f (d.view c x) x).cost } := by
  obtain ⟨hr, hp, hw, hc⟩ := (d.issues_iff core c x w _).1 h
  have hv : (d.view c x).word = w := hw
  have hpc : ¬ 2047 < x.pc := by omega
  simp only [Dev.issue, hr, if_neg hpc, hv, hop, if_true]
  have hl : ∀ a, ({ d with lastIssued := a } : Dev).fget Page.gafg Reg.GAFG_CYCLE_LIMIT_LIMIT
      = d.fget Page.gafg Reg.GAFG_CYCLE_LIMIT_LIMIT := fun _ => rfl
  have hn : ¬ d.fget Page.gafg Reg.GAFG_CYCLE_LIMIT_LIMIT < x.charged + (f (d.view c x) x).cost := by omega
  simp only [Dev.settleIssue, hl, if_neg hn, hill, hov, hend]
  rfl

/-- A field inside bits that are 0 is 0. -/
theorem bits_of_bits (n m a k : Nat) (h : bits n 0 m = 0) (hk : a + k ≤ m) : bits n a k = 0 := by
  simp only [bits, Nat.pow_zero, Nat.div_one] at *
  obtain ⟨q, rfl⟩ := Nat.dvd_of_mod_eq_zero h
  obtain ⟨j, rfl⟩ := Nat.exists_eq_add_of_le hk
  rw [show 2 ^ (a + k + j) * q = 2 ^ a * (2 ^ k * (2 ^ j * q)) by rw [Nat.pow_add, Nat.pow_add]; ring, Nat.mul_div_cancel_left _ (by positivity)]
  exact Nat.mul_mod_right _ _

/-- A bit inside bits that are 0 is 0. -/
theorem bitAt_of_bits (n m i : Nat) (h : bits n 0 m = 0) (hk : i < m) : bitAt n i = false := by
  have := bits_of_bits n m i 1 h hk
  simp only [bits, bitAt, Nat.pow_one] at *
  simp [this]

end Sys2Proof.Machine
end

