-- ==== Sys2Proof/Laws/Lifecycle.lean ====
section
/-!
SUPPORT. The lifecycle state in the fuses (R374) never falls: kept by every operation and by every command.
-/

namespace Sys2Proof.Machine

set_option linter.all false


/-- Every part of the device but what Welbor holds. -/
def notWelbor : Nat := 1180591620717411303423

/-- The fuses hold a lifecycle state of at least `lv`. -/
def Dev.lifeFrom (lv : Nat) (d : Dev) : Bool := decide (lv ≤ d.wel.lifecycle)

variable {lv : Nat}

theorem Dev.life_of {d : Dev} (h : (d.mask notWelbor).lifeFrom lv = true) : lv ≤ d.wel.lifecycle := of_decide_eq_true h

theorem Dev.life_intro {d : Dev} (h : lv ≤ d.wel.lifecycle) : (d.mask notWelbor).lifeFrom lv = true := decide_eq_true h

theorem Dev.setWel_life (d : Dev) (v : Welbor) (h : lv ≤ v.lifecycle) : ((d.setWel v).mask notWelbor).lifeFrom lv = true := decide_eq_true h

theorem Dev.life_foldl {α : Type} {f : Dev → α → Dev} (h : ∀ d a, (d.mask notWelbor).lifeFrom lv = true → ((f d a).mask notWelbor).lifeFrom lv = true) :
    ∀ (l : List α) (d : Dev), (d.mask notWelbor).lifeFrom lv = true → ((l.foldl f d).mask notWelbor).lifeFrom lv = true
  | [], _, w => w
  | a :: l, d, w => Dev.life_foldl h l (f d a) (h d a w)

theorem Dev.life_getD {o : Option Dev} {d : Dev} (h : ∀ r, o = some r → (r.mask notWelbor).lifeFrom lv = true) (w : (d.mask notWelbor).lifeFrom lv = true) :
    ((o.getD d).mask notWelbor).lifeFrom lv = true := by
  cases o with
  | none => exact w
  | some r => exact h r rfl
theorem Dev.life_getD_pair {α : Type} {o : Option (α × Dev)} {x : α} {d : Dev} (h : ∀ r, o = some r → (r.2.mask notWelbor).lifeFrom lv = true) (w : (d.mask notWelbor).lifeFrom lv = true) :
    ((o.getD (x, d)).2.mask notWelbor).lifeFrom lv = true := by
  cases o with
  | none => exact w
  | some r => exact h r rfl

theorem Dev.withSignal_life (d : Dev) (m : ℕ) (f : Dev → Dev) (hf : ∀ d, (d.mask notWelbor).lifeFrom lv = true → ((f d).mask notWelbor).lifeFrom lv = true) (hw : (d.mask notWelbor).lifeFrom lv = true) : ((Dev.withSignal d m f).mask notWelbor).lifeFrom lv = true := by
  unfold Dev.withSignal
  all_goals (repeat' (first | with_reducible assumption | with_reducible apply hf | intro _ | with_reducible apply Dev.setWel_life | with_reducible apply Dev.life_of | (simp (disch := decide) only [Dev.emit_mask]) | exact Dev.life_of (by assumption) | split | (dsimp only; split)))



theorem Dev.applyGeneration_life (d : Dev) (hw : (d.mask notWelbor).lifeFrom lv = true) : ((Dev.applyGeneration d).mask notWelbor).lifeFrom lv = true := by
  unfold Dev.applyGeneration
  all_goals (repeat' (first | with_reducible assumption | intro _ | with_reducible apply Dev.setWel_life | with_reducible apply Dev.life_of | (simp (disch := decide) only [Dev.mask_ft, Dev.fset_mask]) | with_reducible apply Dev.setWel_life | exact Dev.life_of (by assumption) | split | (dsimp only; split)))

theorem Welbor.torn_lifecycle (w : Welbor) : w.torn.lifecycle = w.lifecycle := by
  unfold Welbor.torn
  split <;> rfl
theorem Welbor.fuses_lifecycle (w : Welbor) : w.fuses.lifecycle = w.lifecycle := rfl
theorem Dev.loseSwitched_life (d : Dev) (keepGddr : Bool) (banks : List ℕ) (hw : (d.mask notWelbor).lifeFrom lv = true) : ((Dev.loseSwitched d keepGddr banks).mask notWelbor).lifeFrom lv = true := by
  apply Dev.life_intro
  have h := Dev.life_of hw
  simpa only [Dev.loseSwitched, Welbor.fuses_lifecycle, Welbor.torn_lifecycle] using h

theorem Dev.auxLoss_life (d : Dev) (hw : (d.mask notWelbor).lifeFrom lv = true) : ((Dev.auxLoss d).mask notWelbor).lifeFrom lv = true := by
  unfold Dev.auxLoss
  all_goals (repeat' (first | with_reducible assumption | intro _ | with_reducible apply Dev.setWel_life | with_reducible apply Dev.life_of | (simp (disch := decide) only [Dev.mask_badParity, Dev.mask_bins, Dev.mask_boutHeld, Dev.mask_ft, Dev.mask_hif, Dev.mask_pwr, Dev.mask_regs, Dev.mask_seenParity, Dev.mask_tim, Dev.mask_regs_badParity_seenParity_bins_boutHeld_pwr_tim_ft, Dev.mask_badParity_seenParity]) | with_reducible apply Dev.loseSwitched_life | exact Dev.life_of (by assumption) | split | (dsimp only; split)))

theorem Dev.auxOn_life (d : Dev)  (hw : (d.mask notWelbor).lifeFrom lv = true) : ((Dev.auxOn d ).mask notWelbor).lifeFrom lv = true := by
  unfold Dev.auxOn
  split
  · exact hw
  · extract_lets p w d1
    have h1 : (d1.mask notWelbor).lifeFrom lv = true := by
      simp (disch := decide) only [d1, Dev.showJournal_mask]
      exact Dev.life_intro (Dev.life_of hw)
    split
    · simp (disch := decide) only [Dev.requestWake_mask]; exact h1
    · exact h1

theorem Dev.measure_life (d : Dev) (i : ℕ) (bs : List Byte) (hw : (d.mask notWelbor).lifeFrom lv = true) : ((Dev.measure d i bs).mask notWelbor).lifeFrom lv = true := by
  unfold Dev.measure
  all_goals (repeat' (first | with_reducible assumption | intro _ | with_reducible apply Dev.setWel_life | with_reducible apply Dev.life_of | with_reducible apply Dev.setWel_life | exact Dev.life_of (by assumption) | split | (dsimp only; split)))

theorem Dev.bootFail_life (d : Dev) (err : ℕ) (ims : List BootImage) (set : ℕ) (hw : (d.mask notWelbor).lifeFrom lv = true) : ((Dev.bootFail d err ims set).mask notWelbor).lifeFrom lv = true := by
  unfold Dev.bootFail
  all_goals (repeat' (first | with_reducible assumption | intro _ | with_reducible apply Dev.setWel_life | with_reducible apply Dev.life_of | (simp (disch := decide) only [Dev.latchFault_mask, Dev.fset_mask, Dev.setBootStage_mask]) | with_reducible apply Dev.measure_life | with_reducible apply Dev.life_getD | with_reducible apply Dev.life_getD_pair | exact Dev.life_of (by assumption) | split | (dsimp only; split)))

theorem Dev.deviceReset_life (d : Dev) (req : Requester) (confirm : ℕ) (hw : (d.mask notWelbor).lifeFrom lv = true) : ((Dev.deviceReset d req confirm).mask notWelbor).lifeFrom lv = true := by
  unfold Dev.deviceReset
  split
  · simp (disch := decide) only [Dev.rstRefused_mask]; exact hw
  · extract_lets p d1 d2 d2f d2w d3 d3p d4
    have h1 : (d1.mask notWelbor).lifeFrom lv = true := by
      simp (disch := decide) only [d1, Dev.captureEntry_mask, Dev.countSat_mask, Dev.fset_mask]; exact hw
    have h2 : (d2.mask notWelbor).lifeFrom lv = true := by
      apply Dev.loseSwitched_life
      simp (disch := decide) only [Dev.dropMacs_mask, Dev.mask_hif]; exact h1
    clear_value d2
    have h3 : (d3.mask notWelbor).lifeFrom lv = true := Dev.life_intro (Dev.life_of h2)
    clear_value d3
    simp (disch := decide) only [Dev.restoreClock_mask, Dev.showJournal_mask, d4, Dev.setPwr_mask]
    exact h3

theorem Dev.writeRst_life (d : Dev) (req : Requester) (v : ℕ) (hw : (d.mask notWelbor).lifeFrom lv = true) : ((Dev.writeRst d req v).mask notWelbor).lifeFrom lv = true := by
  unfold Dev.writeRst
  all_goals (repeat' (first | with_reducible assumption | intro _ | with_reducible apply Dev.setWel_life | with_reducible apply Dev.life_of | (simp (disch := decide) only [Dev.portReset_mask]) | with_reducible apply Dev.deviceReset_life | exact Dev.life_of (by assumption) | split | (dsimp only; split)))

theorem Dev.setChannel_life (d : Dev) (s : ℕ) (c : SliceChannel) (hw : (d.mask notWelbor).lifeFrom lv = true) : ((Dev.setChannel d s c).mask notWelbor).lifeFrom lv = true := by
  exact Dev.life_intro (Dev.life_of hw)

theorem Dev.oweChunks_life (d : Dev) (s : ℕ) (l : List (List ℕ)) (hw : (d.mask notWelbor).lifeFrom lv = true) : ((Dev.oweChunks d s l).mask notWelbor).lifeFrom lv = true := by
  unfold Dev.oweChunks
  all_goals (repeat' (first | with_reducible assumption | intro _ | with_reducible apply Dev.setWel_life | with_reducible apply Dev.life_of | with_reducible apply Dev.setChannel_life | exact Dev.life_of (by assumption) | split | (dsimp only; split)))

theorem Dev.takeChunk_life (d : Dev) (s : ℕ) (m : Message) (hw : (d.mask notWelbor).lifeFrom lv = true) : ((Dev.takeChunk d s m).mask notWelbor).lifeFrom lv = true := by
  unfold Dev.takeChunk
  all_goals (repeat' (first | with_reducible assumption | intro _ | with_reducible apply Dev.setWel_life | with_reducible apply Dev.life_of | (simp (disch := decide) only [Dev.discardStale_mask]) | with_reducible apply Dev.setChannel_life | with_reducible apply Dev.oweChunks_life | exact Dev.life_of (by assumption) | split | (dsimp only; split)))

theorem Dev.popEnd_life (d : Dev) (box : MailEnd) (hw : (d.mask notWelbor).lifeFrom lv = true) : ((Dev.popEnd d box).mask notWelbor).lifeFrom lv = true := by
  unfold Dev.popEnd
  all_goals (repeat' (first | with_reducible assumption | intro _ | with_reducible apply Dev.setWel_life | with_reducible apply Dev.life_of | (simp (disch := decide) only [Dev.mailPop_mask, Dev.fwAnswer_mask]) | with_reducible apply Dev.takeChunk_life | exact Dev.life_of (by assumption) | split | (dsimp only; split)))

theorem Dev.writeEnd_life (d : Dev) (req : Requester) (addr : ℕ) (c : ℕ) (base : ℕ) (off : ℕ) (v : ℕ) (m : ℕ) (hw : (d.mask notWelbor).lifeFrom lv = true) : ((Dev.writeEnd d req addr c base off v m).mask notWelbor).lifeFrom lv = true := by
  unfold Dev.writeEnd
  all_goals (repeat' (first | with_reducible assumption | intro _ | with_reducible apply Dev.setWel_life | with_reducible apply Dev.life_of | (simp (disch := decide) only [Dev.accessError_mask, Dev.accessFault_mask, Dev.mailStage_mask, Dev.mailSend_mask]) | with_reducible apply Dev.popEnd_life | with_reducible apply Dev.life_getD | with_reducible apply Dev.life_getD_pair | exact Dev.life_of (by assumption) | split | (dsimp only; split)))

theorem Dev.onWrite_life (d : Dev) (req : Requester) (addr : ℕ) (f : Dev → Dev) (hf : ∀ d, (d.mask notWelbor).lifeFrom lv = true → ((f d).mask notWelbor).lifeFrom lv = true) (hw : (d.mask notWelbor).lifeFrom lv = true) : ((Dev.onWrite d req addr f).mask notWelbor).lifeFrom lv = true := by
  unfold Dev.onWrite
  all_goals (repeat' (first | with_reducible assumption | with_reducible apply hf | intro _ | with_reducible apply Dev.setWel_life | with_reducible apply Dev.life_of | (simp (disch := decide) only [Dev.accessError_mask, Dev.emit_mask]) | exact Dev.life_of (by assumption) | split | (dsimp only; split)))

theorem Dev.svcRequest_life (d : Dev) (req : Requester) (action : ℕ) (code : ℕ) (inst : ℕ) (f : Dev → ℕ × Dev) (hf : ∀ d, (d.mask notWelbor).lifeFrom lv = true → ((f d).2.mask notWelbor).lifeFrom lv = true) (hw : (d.mask notWelbor).lifeFrom lv = true) : ((Dev.svcRequest d req action code inst f).mask notWelbor).lifeFrom lv = true := by
  unfold Dev.svcRequest
  all_goals (repeat' (first | with_reducible assumption | with_reducible apply hf | intro _ | with_reducible apply Dev.setWel_life | with_reducible apply Dev.life_of | (simp (disch := decide) only [Dev.fset_mask]) | with_reducible apply Dev.onWrite_life | exact Dev.life_of (by assumption) | split | (dsimp only; split)))

theorem Dev.commandQueue_life (d : Dev) (req : Option Requester) (q : ℕ) (f : Dev → Dev) (hf : ∀ d, (d.mask notWelbor).lifeFrom lv = true → ((f d).mask notWelbor).lifeFrom lv = true) (hw : (d.mask notWelbor).lifeFrom lv = true) : ((Dev.commandQueue d req q f).mask notWelbor).lifeFrom lv = true := by
  unfold Dev.commandQueue
  all_goals (repeat' (first | with_reducible assumption | with_reducible apply hf | intro _ | with_reducible apply Dev.setWel_life | with_reducible apply Dev.life_of | (simp (disch := decide) only [Dev.dropDoorbell_mask, Dev.count_mask, Dev.closedWrite_mask]) | with_reducible apply Dev.onWrite_life | exact Dev.life_of (by assumption) | split | (dsimp only; split)))

theorem Dev.writeBody_life (d : Dev) (req : Requester) (addr : ℕ) (k : PageKind) (n : ℕ) (base : ℕ) (off : ℕ) (v : ℕ) (m : ℕ) (hw : (d.mask notWelbor).lifeFrom lv = true) : ((Dev.writeBody d req addr k n base off v m).mask notWelbor).lifeFrom lv = true := by
  unfold Dev.writeBody
  all_goals (repeat' (first | with_reducible assumption | intro _ | with_reducible apply Dev.setWel_life | with_reducible apply Dev.life_of | (simp (disch := decide) only [Dev.storeFields_mask, Dev.writePwr_mask, Dev.writeTim_mask, Dev.softwareEvents_mask, Dev.writeRoute_mask, Dev.clearPendWord_mask, Dev.binUnmask_mask, Dev.journalSelect_mask, Dev.writeSvc_mask, Dev.writePort_mask, Dev.writeSlc_mask, Dev.writeMac_mask, Dev.writePcs_mask, Dev.snapshotAll_mask, Dev.storeWrite_mask, Dev.storeRead_mask, Dev.requestFlip_mask, Dev.clampCredit_mask, Dev.writeClsg_mask, Dev.writeNoteCons_mask, Dev.refillPort_mask, Dev.refillHost_mask, Dev.writeTraceCons_mask, Dev.wr_mask, Dev.writeQctl_mask, Dev.writeMover_mask, Dev.failDevice_mask, Dev.cpxReturn_mask]) | with_reducible apply Dev.writeRst_life | with_reducible apply Dev.writeEnd_life | exact Dev.life_of (by assumption) | split | (dsimp only; split)))

theorem Dev.writeReg_life (d : Dev) (req : Requester) (addr : ℕ) (k : PageKind) (n : ℕ) (base : ℕ) (off : ℕ) (v : ℕ) (m : ℕ) (hw : (d.mask notWelbor).lifeFrom lv = true) : ((Dev.writeReg d req addr k n base off v m).mask notWelbor).lifeFrom lv = true := by
  unfold Dev.writeReg
  all_goals (repeat' (first | with_reducible assumption | intro _ | with_reducible apply Dev.setWel_life | with_reducible apply Dev.life_of | (simp (disch := decide) only [Dev.writeHeader_mask, Dev.accessError_mask, Dev.accessFault_mask]) | with_reducible apply Dev.writeBody_life | exact Dev.life_of (by assumption) | split | (dsimp only; split)))

theorem Dev.forwardWrite_life (d : Dev) (req : Requester) (addr : ℕ) (p : ℕ) (v : ℕ) (m : ℕ) (hw : (d.mask notWelbor).lifeFrom lv = true) : ((Dev.forwardWrite d req addr p v m).mask notWelbor).lifeFrom lv = true := by
  unfold Dev.forwardWrite
  all_goals (repeat' (first | with_reducible assumption | intro _ | with_reducible apply Dev.setWel_life | with_reducible apply Dev.life_of | (simp (disch := decide) only [Dev.accessFault_mask]) | with_reducible apply Dev.writeReg_life | exact Dev.life_of (by assumption) | split | (dsimp only; split)))

theorem Dev.broadcastWrite_life (d : Dev) (req : Requester) (addr : ℕ) (v : ℕ) (m : ℕ) (hw : (d.mask notWelbor).lifeFrom lv = true) : ((Dev.broadcastWrite d req addr v m).mask notWelbor).lifeFrom lv = true := by
  unfold Dev.broadcastWrite
  all_goals (repeat' (first | with_reducible assumption | intro _ | with_reducible apply Dev.setWel_life | with_reducible apply Dev.life_of | (simp (disch := decide) only [Dev.setParity_mask, Dev.wr_mask, Dev.checkMasks_mask]) | with_reducible apply Dev.forwardWrite_life | with_reducible apply Dev.life_foldl | exact Dev.life_of (by assumption) | split | (dsimp only; split)))

theorem Dev.notPresent_life (d : Dev) (port : ℕ) (pf : ℕ) (t : ReadTarget) (fail : Dev → Dev) (hfail : ∀ d, (d.mask notWelbor).lifeFrom lv = true → ((fail d).mask notWelbor).lifeFrom lv = true) (hw : (d.mask notWelbor).lifeFrom lv = true) : ((Dev.notPresent d port pf t fail).mask notWelbor).lifeFrom lv = true := by
  unfold Dev.notPresent
  all_goals (repeat' (first | with_reducible assumption | with_reducible apply hfail | intro _ | with_reducible apply Dev.setWel_life | with_reducible apply Dev.life_of | (simp (disch := decide) only [Dev.sendPageRequest_mask, Dev.pageFailed_mask]) | exact Dev.life_of (by assumption) | split | (dsimp only; split)))

theorem Dev.onAnswer_life (d : Dev) (port pf : Nat) (t : ReadTarget) (a : HostAnswer) {f : Dev → Dev} {fail : Nat → Dev → Dev}
    (hw : (d.mask notWelbor).lifeFrom lv = true)
    (hf : ∀ d, (d.mask notWelbor).lifeFrom lv = true → ((f d).mask notWelbor).lifeFrom lv = true)
    (hg : ∀ c d, (d.mask notWelbor).lifeFrom lv = true → ((fail c d).mask notWelbor).lifeFrom lv = true) :
    ((d.onAnswer port pf t a f fail).mask notWelbor).lifeFrom lv = true := by
  unfold Dev.onAnswer
  split
  · exact hw
  · split
    · exact hf _ hw
    · exact Dev.notPresent_life _ _ _ _ _ (hg _) hw
    · rw [Dev.linkError_mask (by decide)]; exact hw
    · exact hg _ _ (by rw [Dev.noteAnswer_mask (by decide)]; exact hw)

theorem Dev.onData_life (d : Dev) (q : Nat) (x : QueueEntry) (a : HostAnswer) (f : Dev → Dev)
    (hf : ∀ d, (d.mask notWelbor).lifeFrom lv = true → ((f d).mask notWelbor).lifeFrom lv = true) (hw : (d.mask notWelbor).lifeFrom lv = true) :
    ((d.onData q x a f).mask notWelbor).lifeFrom lv = true :=
  Dev.onAnswer_life _ _ _ _ _ hw hf (fun _ _ h => by rw [Dev.endWith_mask (by decide)]; exact h)

theorem Dev.endSessions_life (d : Dev) (sel : ℕ → Transport → Bool) (hw : (d.mask notWelbor).lifeFrom lv = true) : ((Dev.endSessions d sel).mask notWelbor).lifeFrom lv = true := by
  exact Dev.life_intro (Dev.life_of hw)

theorem Dev.emptyChannel_life (d : Dev) (s : ℕ) (hw : (d.mask notWelbor).lifeFrom lv = true) : ((Dev.emptyChannel d s).mask notWelbor).lifeFrom lv = true := by
  unfold Dev.emptyChannel
  all_goals (repeat' (first | with_reducible assumption | intro _ | with_reducible apply Dev.setWel_life | with_reducible apply Dev.life_of | (simp (disch := decide) only [Dev.mailPop_mask]) | with_reducible apply Dev.endSessions_life | with_reducible apply Dev.setChannel_life | exact Dev.life_of (by assumption) | split | (dsimp only; split)))

theorem Dev.endCpx_life (d : Dev) (ims : List BootImage) (hw : (d.mask notWelbor).lifeFrom lv = true) : ((Dev.endCpx d ims).mask notWelbor).lifeFrom lv = true := by
  unfold Dev.endCpx
  all_goals (repeat' (first | with_reducible assumption | intro _ | with_reducible apply Dev.setWel_life | with_reducible apply Dev.life_of | (simp (disch := decide) only [Dev.dwrite_mask, Dev.fset_mask, Dev.setBootStage_mask]) | with_reducible apply Dev.bootFail_life | with_reducible apply Dev.measure_life | with_reducible apply Dev.life_foldl | with_reducible apply Dev.life_getD | with_reducible apply Dev.life_getD_pair | exact Dev.life_of (by assumption) | split | (dsimp only; split)))

theorem Dev.endFirmware_life (d : Dev) (ims : List BootImage) (hw : (d.mask notWelbor).lifeFrom lv = true) : ((Dev.endFirmware d ims).mask notWelbor).lifeFrom lv = true := by
  unfold Dev.endFirmware
  all_goals (repeat' (first | with_reducible assumption | intro _ | with_reducible apply Dev.setWel_life | with_reducible apply Dev.life_of | (simp (disch := decide) only [Dev.setBootStage_mask, Dev.fset_mask]) | with_reducible apply Dev.setWel_life | with_reducible apply Dev.measure_life | with_reducible apply Dev.bootFail_life | with_reducible apply Dev.life_getD | with_reducible apply Dev.life_getD_pair | exact Dev.life_of (by assumption) | split | (dsimp only; split)))

theorem Dev.endRom_life (d : Dev) (pass : Bool) (hw : (d.mask notWelbor).lifeFrom lv = true) : ((Dev.endRom d pass).mask notWelbor).lifeFrom lv = true := by
  unfold Dev.endRom
  all_goals (repeat' (first | with_reducible assumption | intro _ | with_reducible apply Dev.setWel_life | with_reducible apply Dev.life_of | (simp (disch := decide) only [Dev.selectGeneration_mask, Dev.setBootStage_mask]) | with_reducible apply Dev.bootFail_life | with_reducible apply Dev.applyGeneration_life | with_reducible apply Dev.measure_life | exact Dev.life_of (by assumption) | split | (dsimp only; split)))

theorem Dev.endSession_life (d : Dev) (n : ℕ) (hw : (d.mask notWelbor).lifeFrom lv = true) : ((Dev.endSession d n).mask notWelbor).lifeFrom lv = true := by
  unfold Dev.endSession
  all_goals (repeat' (first | with_reducible assumption | intro _ | with_reducible apply Dev.setWel_life | with_reducible apply Dev.life_of | with_reducible apply Dev.endSessions_life | exact Dev.life_of (by assumption) | split | (dsimp only; split)))

theorem Dev.endStage_life (d : Dev) (pass : Bool) (ims : List BootImage) (hw : (d.mask notWelbor).lifeFrom lv = true) : ((Dev.endStage d pass ims).mask notWelbor).lifeFrom lv = true := by
  unfold Dev.endStage
  all_goals (repeat' (first | with_reducible assumption | intro _ | with_reducible apply Dev.setWel_life | with_reducible apply Dev.life_of | with_reducible apply Dev.endRom_life | with_reducible apply Dev.endFirmware_life | with_reducible apply Dev.endCpx_life | exact Dev.life_of (by assumption) | split | (dsimp only; split)))

theorem Dev.inSession_life (d : Dev) (n : ℕ) (f : Dev → SpdmSession → Dev) (hf : ∀ d a0, (d.mask notWelbor).lifeFrom lv = true → ((f d a0).mask notWelbor).lifeFrom lv = true) (hw : (d.mask notWelbor).lifeFrom lv = true) : ((Dev.inSession d n f).mask notWelbor).lifeFrom lv = true := by
  unfold Dev.inSession
  all_goals (repeat' (first | with_reducible assumption | with_reducible apply hf | intro _ | with_reducible apply Dev.setWel_life | with_reducible apply Dev.life_of | exact Dev.life_of (by assumption) | split | (dsimp only; split)))

theorem Dev.viaSend_life (d : Dev) (via : Transport) (code : ℕ) (typ : ℕ) (bs : List Byte) (hw : (d.mask notWelbor).lifeFrom lv = true) : ((Dev.viaSend d via code typ bs).mask notWelbor).lifeFrom lv = true := by
  unfold Dev.viaSend
  all_goals (repeat' (first | with_reducible assumption | intro _ | with_reducible apply Dev.setWel_life | with_reducible apply Dev.life_of | (simp (disch := decide) only [Dev.emit_mask]) | with_reducible apply Dev.oweChunks_life | with_reducible apply Dev.setChannel_life | exact Dev.life_of (by assumption) | split | (dsimp only; split)))

theorem Dev.spdmAnswer_life (d : Dev) (via : Transport) (code : ℕ) (p1 : ℕ) (p2 : ℕ) (bs : List Byte) (hw : (d.mask notWelbor).lifeFrom lv = true) : ((Dev.spdmAnswer d via code p1 p2 bs).mask notWelbor).lifeFrom lv = true := by
  unfold Dev.spdmAnswer
  all_goals (repeat' (first | with_reducible assumption | intro _ | with_reducible apply Dev.setWel_life | with_reducible apply Dev.life_of | with_reducible apply Dev.viaSend_life | exact Dev.life_of (by assumption) | split | (dsimp only; split)))

theorem Dev.spdmError_life (d : Dev) (via : Transport) (code : ℕ) (hw : (d.mask notWelbor).lifeFrom lv = true) : ((Dev.spdmError d via code).mask notWelbor).lifeFrom lv = true := by
  unfold Dev.spdmError
  all_goals (repeat' (first | with_reducible assumption | intro _ | with_reducible apply Dev.setWel_life | with_reducible apply Dev.life_of | with_reducible apply Dev.spdmAnswer_life | exact Dev.life_of (by assumption) | split | (dsimp only; split)))

theorem Dev.established_life (d : Dev) (n : ℕ) (f : Dev → SpdmSession → Dev) (hf : ∀ d a0, (d.mask notWelbor).lifeFrom lv = true → ((f d a0).mask notWelbor).lifeFrom lv = true) (hw : (d.mask notWelbor).lifeFrom lv = true) : ((Dev.established d n f).mask notWelbor).lifeFrom lv = true := by
  unfold Dev.established
  all_goals (repeat' (first | with_reducible assumption | with_reducible apply hf | intro _ | with_reducible apply Dev.setWel_life | with_reducible apply Dev.life_of | with_reducible apply Dev.inSession_life | with_reducible apply Dev.spdmError_life | exact Dev.life_of (by assumption) | split | (dsimp only; split)))

theorem Dev.sleep_life (d : Dev) (keepGddr : Bool) (hw : (d.mask notWelbor).lifeFrom lv = true) : ((Dev.sleep d keepGddr).mask notWelbor).lifeFrom lv = true := by
  unfold Dev.sleep
  all_goals (repeat' (first | with_reducible assumption | intro _ | with_reducible apply Dev.setWel_life | with_reducible apply Dev.life_of | (simp (disch := decide) only [Dev.setDevices_mask, Dev.latchPads_mask, Dev.holdBouts_mask, Dev.dropMacs_mask, Dev.drainPair_mask, Dev.setPwr_mask]) | with_reducible apply Dev.loseSwitched_life | with_reducible apply Dev.life_foldl | exact Dev.life_of (by assumption) | split | (dsimp only; split)))

theorem Dev.finishEntry_life (d : Dev) (hw : (d.mask notWelbor).lifeFrom lv = true) : ((Dev.finishEntry d).mask notWelbor).lifeFrom lv = true := by
  unfold Dev.finishEntry
  all_goals (repeat' (first | with_reducible assumption | intro _ | with_reducible apply Dev.setWel_life | with_reducible apply Dev.life_of | (simp (disch := decide) only [Dev.replayWake_mask, Dev.pulse_mask]) | with_reducible apply Dev.sleep_life | exact Dev.life_of (by assumption) | split | (dsimp only; split)))

theorem Dev.fwServe_life (d : Dev) (c : ℕ) (opcode : ℕ) (f : Dev → Message → ℕ × Dev) (hf : ∀ d a0, (d.mask notWelbor).lifeFrom lv = true → ((f d a0).2.mask notWelbor).lifeFrom lv = true) (hw : (d.mask notWelbor).lifeFrom lv = true) : ((Dev.fwServe d c opcode f).mask notWelbor).lifeFrom lv = true := by
  unfold Dev.fwServe
  all_goals (repeat' (first | with_reducible assumption | with_reducible apply hf | intro _ | with_reducible apply Dev.setWel_life | with_reducible apply Dev.life_of | (simp (disch := decide) only [Dev.mailPop_mask, Dev.fwAnswer_mask]) | exact Dev.life_of (by assumption) | split | (dsimp only; split)))

theorem Dev.slcIssue_life (d : Dev) (op : ℕ) (s : ℕ) (img : List Word) (f : Dev → ℕ × Dev) (hf : ∀ d, (d.mask notWelbor).lifeFrom lv = true → ((f d).2.mask notWelbor).lifeFrom lv = true) (hw : (d.mask notWelbor).lifeFrom lv = true) : ((Dev.slcIssue d op s img f).2.mask notWelbor).lifeFrom lv = true := by
  unfold Dev.slcIssue
  all_goals (repeat' (first | with_reducible assumption | with_reducible apply hf | intro _ | with_reducible apply Dev.setWel_life | with_reducible apply Dev.life_of | (simp (disch := decide) only [Dev.wr_mask, Dev.fset_mask, Dev.charterChanged_mask, Dev.portEnd_mask]) | with_reducible apply Dev.life_foldl | with_reducible apply Dev.life_getD | with_reducible apply Dev.life_getD_pair | exact Dev.life_of (by assumption) | split | (dsimp only; split)))

theorem Dev.fwCharter_life (d : Dev) (c : ℕ) (opcode : ℕ) (op : ℕ) (f : Dev → ℕ → List ℕ → ℕ × Dev) (hf : ∀ d a0 a1, (d.mask notWelbor).lifeFrom lv = true → ((f d a0 a1).2.mask notWelbor).lifeFrom lv = true) (hw : (d.mask notWelbor).lifeFrom lv = true) : ((Dev.fwCharter d c opcode op f).mask notWelbor).lifeFrom lv = true := by
  unfold Dev.fwCharter
  all_goals (repeat' (first | with_reducible assumption | with_reducible apply hf | intro _ | with_reducible apply Dev.setWel_life | with_reducible apply Dev.life_of | (simp (disch := decide) only [Dev.hostFetch_mask, Dev.deriveCharter_mask]) | with_reducible apply Dev.fwServe_life | with_reducible apply Dev.slcIssue_life | exact Dev.life_of (by assumption) | split | (dsimp only; split)))

theorem Dev.sliceDestroy_life (d : Dev) (s : ℕ) (hw : (d.mask notWelbor).lifeFrom lv = true) : ((Dev.sliceDestroy d s).2.mask notWelbor).lifeFrom lv = true := by
  unfold Dev.sliceDestroy
  all_goals (repeat' (first | with_reducible assumption | intro _ | with_reducible apply Dev.setWel_life | with_reducible apply Dev.life_of | (simp (disch := decide) only [Dev.dropPasid_mask, Dev.setSlice_mask, Dev.setTdi_mask, Dev.showSlices_mask, Dev.pulse_mask, Dev.clearSit_mask, Dev.retireKeys_mask, Dev.endQueue_mask, Dev.endTeardown_mask]) | with_reducible apply Dev.emptyChannel_life | with_reducible apply Dev.life_foldl | exact Dev.life_of (by assumption) | split | (dsimp only; split)))

theorem Dev.fwDestroy_life (d : Dev) (c : ℕ) (hw : (d.mask notWelbor).lifeFrom lv = true) : ((Dev.fwDestroy d c).mask notWelbor).lifeFrom lv = true := by
  unfold Dev.fwDestroy
  all_goals (repeat' (first | with_reducible assumption | intro _ | with_reducible apply Dev.setWel_life | with_reducible apply Dev.life_of | with_reducible apply Dev.fwServe_life | with_reducible apply Dev.slcIssue_life | with_reducible apply Dev.sliceDestroy_life | exact Dev.life_of (by assumption) | split | (dsimp only; split)))

theorem Dev.keyExchange_life (d : Dev) (via : Transport) (summary : Bool) (hw : (d.mask notWelbor).lifeFrom lv = true) : ((Dev.keyExchange d via summary).mask notWelbor).lifeFrom lv = true := by
  unfold Dev.keyExchange
  all_goals (repeat' (first | with_reducible assumption | intro _ | with_reducible apply Dev.setWel_life | with_reducible apply Dev.life_of | (simp (disch := decide) only [Dev.fresh_mask]) | with_reducible apply Dev.spdmError_life | with_reducible apply Dev.setWel_life | with_reducible apply Dev.spdmAnswer_life | exact Dev.life_of (by assumption) | split | (dsimp only; split)))

theorem Dev.lifecycleAdvance_life (d : Dev) (m : Message) (hw : (d.mask notWelbor).lifeFrom lv = true) : ((Dev.lifecycleAdvance d m).2.mask notWelbor).lifeFrom lv = true := by
  unfold Dev.lifecycleAdvance
  extract_lets t r token
  have hr : (r.2.mask notWelbor).lifeFrom lv = true := by
    simp only [r]
    rw [Dev.hostFetch_mask (by decide)]; exact hw
  split
  · exact hw
  · split
    · exact hr
    · have h := Dev.life_of hw
      apply Dev.setWel_life
      dsimp only
      omega

theorem Dev.onFirmwareWrite_life (d : Dev) (req : Requester) (addr : ℕ) (f : Dev → Dev) (hf : ∀ d, (d.mask notWelbor).lifeFrom lv = true → ((f d).mask notWelbor).lifeFrom lv = true) (hw : (d.mask notWelbor).lifeFrom lv = true) : ((Dev.onFirmwareWrite d req addr f).mask notWelbor).lifeFrom lv = true := by
  unfold Dev.onFirmwareWrite
  all_goals (repeat' (first | with_reducible assumption | with_reducible apply hf | intro _ | with_reducible apply Dev.setWel_life | with_reducible apply Dev.life_of | (simp (disch := decide) only [Dev.closedWrite_mask]) | with_reducible apply Dev.onWrite_life | exact Dev.life_of (by assumption) | split | (dsimp only; split)))

theorem Dev.onHeader_life (d : Dev) (req : Requester) (page : ℕ) (off : ℕ) (f : Dev → PageKind → ℕ → ℕ → Dev) (hf : ∀ d a0 a1 a2, (d.mask notWelbor).lifeFrom lv = true → ((f d a0 a1 a2).mask notWelbor).lifeFrom lv = true) (hw : (d.mask notWelbor).lifeFrom lv = true) : ((Dev.onHeader d req page off f).mask notWelbor).lifeFrom lv = true := by
  unfold Dev.onHeader
  all_goals (repeat' (first | with_reducible assumption | with_reducible apply hf | intro _ | with_reducible apply Dev.setWel_life | with_reducible apply Dev.life_of | with_reducible apply Dev.onWrite_life | exact Dev.life_of (by assumption) | split | (dsimp only; split)))

theorem Dev.onMail_life (d : Dev) (req : Requester) (box : MailEnd) (off : ℕ) (f : Dev → Dev) (hf : ∀ d, (d.mask notWelbor).lifeFrom lv = true → ((f d).mask notWelbor).lifeFrom lv = true) (hw : (d.mask notWelbor).lifeFrom lv = true) : ((Dev.onMail d req box off f).mask notWelbor).lifeFrom lv = true := by
  unfold Dev.onMail
  all_goals (repeat' (first | with_reducible assumption | with_reducible apply hf | intro _ | with_reducible apply Dev.setWel_life | with_reducible apply Dev.life_of | (simp (disch := decide) only [Dev.closedWrite_mask, Dev.pulse_mask, Dev.accessError_mask, Dev.emit_mask]) | with_reducible apply Dev.onWrite_life | exact Dev.life_of (by assumption) | split | (dsimp only; split)))

theorem Dev.onRead_life (d : Dev) (req : Requester) (addr : ℕ) (f : Dev → Dev) (hf : ∀ d, (d.mask notWelbor).lifeFrom lv = true → ((f d).mask notWelbor).lifeFrom lv = true) (hw : (d.mask notWelbor).lifeFrom lv = true) : ((Dev.onRead d req addr f).mask notWelbor).lifeFrom lv = true := by
  unfold Dev.onRead
  all_goals (repeat' (first | with_reducible assumption | with_reducible apply hf | intro _ | with_reducible apply Dev.setWel_life | with_reducible apply Dev.life_of | (simp (disch := decide) only [Dev.emit_mask, Dev.powerAbort_mask, Dev.accessError_mask]) | exact Dev.life_of (by assumption) | split | (dsimp only; split)))

theorem Dev.onWmb_life (d : Dev) (req : Requester) (page : ℕ) (f : Dev → PageKind → ℕ → ℕ → Dev) (hf : ∀ d a0 a1 a2, (d.mask notWelbor).lifeFrom lv = true → ((f d a0 a1 a2).mask notWelbor).lifeFrom lv = true) (hw : (d.mask notWelbor).lifeFrom lv = true) : ((Dev.onWmb d req page f).mask notWelbor).lifeFrom lv = true := by
  unfold Dev.onWmb
  all_goals (repeat' (first | with_reducible assumption | with_reducible apply hf | intro _ | with_reducible apply Dev.setWel_life | with_reducible apply Dev.life_of | with_reducible apply Dev.onWrite_life | exact Dev.life_of (by assumption) | split | (dsimp only; split)))

theorem Dev.openChannel_life (d : Dev) (s : ℕ) (hw : (d.mask notWelbor).lifeFrom lv = true) : ((Dev.openChannel d s).mask notWelbor).lifeFrom lv = true := by
  unfold Dev.openChannel
  all_goals (repeat' (first | with_reducible assumption | intro _ | with_reducible apply Dev.setWel_life | with_reducible apply Dev.life_of | with_reducible apply Dev.setChannel_life | exact Dev.life_of (by assumption) | split | (dsimp only; split)))

theorem Dev.otpEnd_life (d : Dev) (hw : (d.mask notWelbor).lifeFrom lv = true) : ((Dev.otpEnd d).mask notWelbor).lifeFrom lv = true := by
  unfold Dev.otpEnd
  all_goals (repeat' (first | with_reducible assumption | intro _ | with_reducible apply Dev.setWel_life | with_reducible apply Dev.life_of | (simp (disch := decide) only [Dev.fset_mask, Dev.fwAnswer_mask]) | with_reducible apply Dev.setWel_life | exact Dev.life_of (by assumption) | split | (dsimp only; split)))

theorem Dev.otpWrite_life (d : Dev) (c : ℕ) (hw : (d.mask notWelbor).lifeFrom lv = true) : ((Dev.otpWrite d c).mask notWelbor).lifeFrom lv = true := by
  unfold Dev.otpWrite
  all_goals (repeat' (first | with_reducible assumption | intro _ | with_reducible apply Dev.setWel_life | with_reducible apply Dev.life_of | (simp (disch := decide) only [Dev.mailPop_mask, Dev.hostFetch_mask, Dev.fwAnswer_mask, Dev.fset_mask]) | with_reducible apply Dev.setWel_life | exact Dev.life_of (by assumption) | split | (dsimp only; split)))

theorem Dev.portExec_life (d : Dev) (i : PortInfo) (op : ℕ) (f : Dev → PortOp → ℕ × Dev) (hf : ∀ d a0, (d.mask notWelbor).lifeFrom lv = true → ((f d a0).2.mask notWelbor).lifeFrom lv = true) (hw : (d.mask notWelbor).lifeFrom lv = true) : ((Dev.portExec d i op f).mask notWelbor).lifeFrom lv = true := by
  unfold Dev.portExec
  all_goals (repeat' (first | with_reducible assumption | with_reducible apply hf | intro _ | with_reducible apply Dev.setWel_life | with_reducible apply Dev.life_of | (simp (disch := decide) only [Dev.portEnd_mask]) | exact Dev.life_of (by assumption) | split | (dsimp only; split)))

theorem Dev.powerLost_life (d : Dev) (hw : (d.mask notWelbor).lifeFrom lv = true) : ((Dev.powerLost d).mask notWelbor).lifeFrom lv = true := by
  unfold Dev.powerLost
  all_goals (repeat' (first | with_reducible assumption | intro _ | with_reducible apply Dev.setWel_life | with_reducible apply Dev.life_of | (simp (disch := decide) only [Dev.endHoldUp_mask, Dev.unlinkPorts_mask]) | with_reducible apply Dev.sleep_life | exact Dev.life_of (by assumption) | split | (dsimp only; split)))

theorem Dev.queOp_life (d : Dev) (op : ℕ) (f : Dev → Bool → ℕ → List ℕ → ℕ × Dev) (hf : ∀ d a0 a1 a2, (d.mask notWelbor).lifeFrom lv = true → ((f d a0 a1 a2).2.mask notWelbor).lifeFrom lv = true) (hw : (d.mask notWelbor).lifeFrom lv = true) : ((Dev.queOp d op f).mask notWelbor).lifeFrom lv = true := by
  unfold Dev.queOp
  all_goals (repeat' (first | with_reducible assumption | with_reducible apply hf | intro _ | with_reducible apply Dev.setWel_life | with_reducible apply Dev.life_of | with_reducible apply Dev.portExec_life | exact Dev.life_of (by assumption) | split | (dsimp only; split)))

theorem Dev.receivePdu_life (d : Dev) (s : ℕ) (typ : ℕ) (any : Bool) (f : Dev → List Byte → Dev) (hf : ∀ d a0, (d.mask notWelbor).lifeFrom lv = true → ((f d a0).mask notWelbor).lifeFrom lv = true) (hw : (d.mask notWelbor).lifeFrom lv = true) : ((Dev.receivePdu d s typ any f).mask notWelbor).lifeFrom lv = true := by
  unfold Dev.receivePdu
  all_goals (repeat' (first | with_reducible assumption | with_reducible apply hf | intro _ | with_reducible apply Dev.setWel_life | with_reducible apply Dev.life_of | (simp (disch := decide) only [Dev.modSes_mask, Dev.protocolError_mask, Dev.headerFailed_mask]) | exact Dev.life_of (by assumption) | split | (dsimp only; split)))

theorem Dev.sealedAnswer_life (d : Dev) (n : ℕ) (via : Transport) (code : ℕ) (p1 : ℕ) (p2 : ℕ) (bs : List Byte) (hw : (d.mask notWelbor).lifeFrom lv = true) : ((Dev.sealedAnswer d n via code p1 p2 bs).mask notWelbor).lifeFrom lv = true := by
  unfold Dev.sealedAnswer
  all_goals (repeat' (first | with_reducible assumption | intro _ | with_reducible apply Dev.setWel_life | with_reducible apply Dev.life_of | with_reducible apply Dev.viaSend_life | with_reducible apply Dev.life_getD | with_reducible apply Dev.life_getD_pair | exact Dev.life_of (by assumption) | split | (dsimp only; split)))

theorem Dev.sendChunk_life (d : Dev) (s : ℕ) (hw : (d.mask notWelbor).lifeFrom lv = true) : ((Dev.sendChunk d s).mask notWelbor).lifeFrom lv = true := by
  unfold Dev.sendChunk
  all_goals (repeat' (first | with_reducible assumption | intro _ | with_reducible apply Dev.setWel_life | with_reducible apply Dev.life_of | (simp (disch := decide) only [Dev.discardStale_mask, Dev.setMailBox_mask, Dev.mailSend_mask]) | with_reducible apply Dev.setChannel_life | exact Dev.life_of (by assumption) | split | (dsimp only; split)))

theorem Dev.sesOp_life (d : Dev) (op : ℕ) (free : Bool) (good : Dev → ℕ → Bool) (f : Dev → ℕ → Dev) (hf : ∀ d a0, (d.mask notWelbor).lifeFrom lv = true → ((f d a0).mask notWelbor).lifeFrom lv = true) (hw : (d.mask notWelbor).lifeFrom lv = true) : ((Dev.sesOp d op free good f).mask notWelbor).lifeFrom lv = true := by
  unfold Dev.sesOp
  all_goals (repeat' (first | with_reducible assumption | with_reducible apply hf | intro _ | with_reducible apply Dev.setWel_life | with_reducible apply Dev.life_of | (simp (disch := decide) only [Dev.noteSes_mask]) | with_reducible apply Dev.portExec_life | exact Dev.life_of (by assumption) | split | (dsimp only; split)))

theorem Dev.setNegotiated_life (d : Dev) (via : Transport) (n : ℕ) (hw : (d.mask notWelbor).lifeFrom lv = true) : ((Dev.setNegotiated d via n).mask notWelbor).lifeFrom lv = true := by
  unfold Dev.setNegotiated
  all_goals (repeat' (first | with_reducible assumption | intro _ | with_reducible apply Dev.setWel_life | with_reducible apply Dev.life_of | with_reducible apply Dev.setWel_life | exact Dev.life_of (by assumption) | split | (dsimp only; split)))

theorem Dev.setPool_life (d : Dev) (m : Message) (hw : (d.mask notWelbor).lifeFrom lv = true) : ((Dev.setPool d m).2.mask notWelbor).lifeFrom lv = true := by
  unfold Dev.setPool
  all_goals (repeat' (first | with_reducible assumption | intro _ | with_reducible apply Dev.setWel_life | with_reducible apply Dev.life_of | with_reducible apply Dev.setWel_life | exact Dev.life_of (by assumption) | split | (dsimp only; split)))

theorem Dev.setSpdmSession_life (d : Dev) (n : ℕ) (v : Option SpdmSession) (hw : (d.mask notWelbor).lifeFrom lv = true) : ((Dev.setSpdmSession d n v).mask notWelbor).lifeFrom lv = true := by
  unfold Dev.setSpdmSession
  all_goals (repeat' (first | with_reducible assumption | intro _ | with_reducible apply Dev.setWel_life | with_reducible apply Dev.life_of | with_reducible apply Dev.setWel_life | exact Dev.life_of (by assumption) | split | (dsimp only; split)))

theorem Dev.sitOp_life (d : Dev) (n : ℕ) (op : ℕ) (f : Dev → ℕ → ℕ → List Word → Dev) (hf : ∀ d a0 a1 a2, (d.mask notWelbor).lifeFrom lv = true → ((f d a0 a1 a2).mask notWelbor).lifeFrom lv = true) (hw : (d.mask notWelbor).lifeFrom lv = true) : ((Dev.sitOp d n op f).mask notWelbor).lifeFrom lv = true := by
  unfold Dev.sitOp
  all_goals (repeat' (first | with_reducible assumption | with_reducible apply hf | intro _ | with_reducible apply Dev.setWel_life | with_reducible apply Dev.life_of | (simp (disch := decide) only [Dev.confRefused_mask]) | with_reducible apply Dev.portExec_life | exact Dev.life_of (by assumption) | split | (dsimp only; split)))

theorem Dev.sliceCreate_life (d : Dev) (s : ℕ) (w : List ℕ) (hw : (d.mask notWelbor).lifeFrom lv = true) : ((Dev.sliceCreate d s w).2.mask notWelbor).lifeFrom lv = true := by
  unfold Dev.sliceCreate
  all_goals (repeat' (first | with_reducible assumption | intro _ | with_reducible apply Dev.setWel_life | with_reducible apply Dev.life_of | (simp (disch := decide) only [Dev.pulse_mask, Dev.showSlices_mask, Dev.setSlice_mask, Dev.clearSit_mask]) | with_reducible apply Dev.openChannel_life | exact Dev.life_of (by assumption) | split | (dsimp only; split)))

theorem Dev.spdmServe_life (d : Dev) (via : Transport) (need : ℕ) (f : Dev → Dev) (hf : ∀ d, (d.mask notWelbor).lifeFrom lv = true → ((f d).mask notWelbor).lifeFrom lv = true) (hw : (d.mask notWelbor).lifeFrom lv = true) : ((Dev.spdmServe d via need f).mask notWelbor).lifeFrom lv = true := by
  unfold Dev.spdmServe
  all_goals (repeat' (first | with_reducible assumption | with_reducible apply hf | intro _ | with_reducible apply Dev.setWel_life | with_reducible apply Dev.life_of | with_reducible apply Dev.spdmError_life | exact Dev.life_of (by assumption) | split | (dsimp only; split)))

theorem Dev.timCommit_life (d : Dev) (req : Requester) (index : ℕ) (f : Dev → ℕ → Dev) (hf : ∀ d a0, (d.mask notWelbor).lifeFrom lv = true → ((f d a0).mask notWelbor).lifeFrom lv = true) (hw : (d.mask notWelbor).lifeFrom lv = true) : ((Dev.timCommit d req index f).mask notWelbor).lifeFrom lv = true := by
  unfold Dev.timCommit
  all_goals (repeat' (first | with_reducible assumption | with_reducible apply hf | intro _ | with_reducible apply Dev.setWel_life | with_reducible apply Dev.life_of | (simp (disch := decide) only [Dev.wmbSelect_mask, Dev.wmbDone_mask]) | with_reducible apply Dev.onWrite_life | exact Dev.life_of (by assumption) | split | (dsimp only; split)))

theorem Dev.vendorAnswer_life (d : Dev) (r : VendorRequest) (code : ℕ) (result : List Byte) (hw : (d.mask notWelbor).lifeFrom lv = true) : ((Dev.vendorAnswer d r code result).mask notWelbor).lifeFrom lv = true := by
  unfold Dev.vendorAnswer
  all_goals (repeat' (first | with_reducible assumption | intro _ | with_reducible apply Dev.setWel_life | with_reducible apply Dev.life_of | with_reducible apply Dev.sealedAnswer_life | exact Dev.life_of (by assumption) | split | (dsimp only; split)))

theorem Dev.vendorRequest_life (d : Dev) (via : Transport) (session : Option ℕ) (payload : List Byte) (hw : (d.mask notWelbor).lifeFrom lv = true) : ((Dev.vendorRequest d via session payload).mask notWelbor).lifeFrom lv = true := by
  unfold Dev.vendorRequest
  all_goals (repeat' (first | with_reducible assumption | intro _ | with_reducible apply Dev.setWel_life | with_reducible apply Dev.life_of | with_reducible apply Dev.spdmServe_life | with_reducible apply Dev.spdmError_life | with_reducible apply Dev.established_life | with_reducible apply Dev.setWel_life | with_reducible apply Dev.vendorAnswer_life | exact Dev.life_of (by assumption) | split | (dsimp only; split)))

theorem Dev.vendorSa_life (d : Dev) (r : VendorRequest) (s : ℕ) (f : ℕ → ℕ × List Byte × Dev) (hf : ∀ a0, ((f a0).2.2.mask notWelbor).lifeFrom lv = true) (hw : (d.mask notWelbor).lifeFrom lv = true) : ((Dev.vendorSa d r s f).2.2.mask notWelbor).lifeFrom lv = true := by
  unfold Dev.vendorSa
  all_goals (repeat' (first | with_reducible assumption | with_reducible apply hf | intro _ | with_reducible apply Dev.setWel_life | with_reducible apply Dev.life_of | (simp (disch := decide) only [Dev.noteSa_mask, Dev.portEnd_mask]) | exact Dev.life_of (by assumption) | split | (dsimp only; split)))

theorem Dev.vendorServe_life (d : Dev) (op : ℕ) (ports : List PortInfo) (pf0 : Bool) (f : Dev → VendorRequest → Option ℕ → ℕ × List Byte × Dev) (hf : ∀ d a0 a1, (d.mask notWelbor).lifeFrom lv = true → ((f d a0 a1).2.2.mask notWelbor).lifeFrom lv = true) (hw : (d.mask notWelbor).lifeFrom lv = true) : ((Dev.vendorServe d op ports pf0 f).mask notWelbor).lifeFrom lv = true := by
  unfold Dev.vendorServe
  all_goals (repeat' (first | with_reducible assumption | with_reducible apply hf | intro _ | with_reducible apply Dev.setWel_life | with_reducible apply Dev.life_of | with_reducible apply Dev.setWel_life | with_reducible apply Dev.vendorAnswer_life | exact Dev.life_of (by assumption) | split | (dsimp only; split)))

theorem Dev.welborRestart_life (d : Dev)  (hw : (d.mask notWelbor).lifeFrom lv = true) : ((Dev.welborRestart d ).mask notWelbor).lifeFrom lv = true := by
  unfold Dev.welborRestart
  split
  · exact hw
  · simp (disch := decide) only [Dev.setBootStage_mask, Dev.fset_mask]
    apply Dev.setWel_life
    have h := Dev.life_of hw
    simpa only [Welbor.torn_lifecycle] using h

theorem Dev.writeAt_life (d : Dev) (req : Requester) (addr : ℕ) (v : ℕ) (m : ℕ) (hw : (d.mask notWelbor).lifeFrom lv = true) : ((Dev.writeAt d req addr v m).mask notWelbor).lifeFrom lv = true := by
  unfold Dev.writeAt
  all_goals (repeat' (first | with_reducible assumption | intro _ | with_reducible apply Dev.setWel_life | with_reducible apply Dev.life_of | (simp (disch := decide) only [Dev.writeOutside_mask]) | with_reducible apply Dev.broadcastWrite_life | with_reducible apply Dev.onWrite_life | with_reducible apply Dev.writeReg_life | exact Dev.life_of (by assumption) | split | (dsimp only; split)))

theorem State.become_life {s t : State} {d : Dev} (h : s.become d = .next t) (hd : (d.mask notWelbor).lifeFrom lv = true) : t.dev.lifeFrom lv = true := by
  cases h
  exact hd
theorem execAuxPowerLoss_life {s : State} {t : State} (w : s.dev.lifeFrom lv = true) (h : execAuxPowerLoss s = .next t) : t.dev.lifeFrom lv = true := by
  refine State.become_life h ?_
  replace w : (s.dev.mask notWelbor).lifeFrom lv = true := w
  clear h
  repeat' (first | with_reducible assumption | intro _ | with_reducible apply Dev.setWel_life | with_reducible apply Dev.life_of | with_reducible apply Dev.auxLoss_life | exact Dev.life_of (by assumption) | split | (dsimp only; split))
theorem execAuxPowerOn_life {s : State} {t : State} (w : s.dev.lifeFrom lv = true) (h : execAuxPowerOn s = .next t) : t.dev.lifeFrom lv = true := by
  refine State.become_life h ?_
  replace w : (s.dev.mask notWelbor).lifeFrom lv = true := w
  clear h
  repeat' (first | with_reducible assumption | intro _ | with_reducible apply Dev.setWel_life | with_reducible apply Dev.life_of | with_reducible apply Dev.auxOn_life | exact Dev.life_of (by assumption) | split | (dsimp only; split))
theorem execBootStageEnd_life {pass : Bool} {images : List BootImage} {s : State} {t : State} (w : s.dev.lifeFrom lv = true) (h : execBootStageEnd pass images s = .next t) : t.dev.lifeFrom lv = true := by
  refine State.become_life h ?_
  replace w : (s.dev.mask notWelbor).lifeFrom lv = true := w
  clear h
  repeat' (first | with_reducible assumption | intro _ | with_reducible apply Dev.setWel_life | with_reducible apply Dev.life_of | with_reducible apply Dev.endStage_life | exact Dev.life_of (by assumption) | split | (dsimp only; split))
theorem execBroadcastWrite_life {req : Requester} {addr : Nat} {value : Word} {be : BitVec 4} {s : State} {t : State} (w : s.dev.lifeFrom lv = true) (h : execBroadcastWrite req addr value be s = .next t) : t.dev.lifeFrom lv = true := by
  refine State.become_life h ?_
  replace w : (s.dev.mask notWelbor).lifeFrom lv = true := w
  clear h
  repeat' (first | with_reducible assumption | intro _ | with_reducible apply Dev.setWel_life | with_reducible apply Dev.life_of | with_reducible apply Dev.broadcastWrite_life | exact Dev.life_of (by assumption) | split | (dsimp only; split))
theorem execBusHoldUpExpiry_life {s : State} {t : State} (w : s.dev.lifeFrom lv = true) (h : execBusHoldUpExpiry s = .next t) : t.dev.lifeFrom lv = true := by
  refine State.become_life h ?_
  replace w : (s.dev.mask notWelbor).lifeFrom lv = true := w
  clear h
  repeat' (first | with_reducible assumption | intro _ | with_reducible apply Dev.setWel_life | with_reducible apply Dev.life_of | with_reducible apply Dev.powerLost_life | exact Dev.life_of (by assumption) | split | (dsimp only; split))
theorem execChallenge_life {via : Transport} {slot : Nat} {nonce : List Byte} {s : State} {t : State} (w : s.dev.lifeFrom lv = true) (h : execChallenge via slot nonce s = .next t) : t.dev.lifeFrom lv = true := by
  refine State.become_life h ?_
  replace w : (s.dev.mask notWelbor).lifeFrom lv = true := w
  clear h
  repeat' (first | with_reducible assumption | intro _ | with_reducible apply Dev.setWel_life | with_reducible apply Dev.life_of | (simp (disch := decide) only [Dev.fresh_mask]) | with_reducible apply Dev.spdmAnswer_life | with_reducible apply Dev.spdmError_life | with_reducible apply Dev.spdmServe_life | exact Dev.life_of (by assumption) | split | (dsimp only; split))
theorem execCharterHistory_life {s : State} {t : State} (w : s.dev.lifeFrom lv = true) (h : execCharterHistory s = .next t) : t.dev.lifeFrom lv = true := by
  refine State.become_life h ?_
  replace w : (s.dev.mask notWelbor).lifeFrom lv = true := w
  clear h
  repeat' (first | with_reducible assumption | intro _ | with_reducible apply Dev.setWel_life | with_reducible apply Dev.life_of | with_reducible apply Dev.vendorServe_life | with_reducible apply Dev.life_getD | with_reducible apply Dev.life_getD_pair | exact Dev.life_of (by assumption) | split | (dsimp only; split))
theorem execDeviceReset_life {req : Requester} {confirm : BitVec 16} {s : State} {t : State} (w : s.dev.lifeFrom lv = true) (h : execDeviceReset req confirm s = .next t) : t.dev.lifeFrom lv = true := by
  refine State.become_life h ?_
  replace w : (s.dev.mask notWelbor).lifeFrom lv = true := w
  clear h
  repeat' (first | with_reducible assumption | intro _ | with_reducible apply Dev.setWel_life | with_reducible apply Dev.life_of | with_reducible apply Dev.deviceReset_life | with_reducible apply Dev.onWrite_life | exact Dev.life_of (by assumption) | split | (dsimp only; split))
theorem execEndSession_life {session : Nat} {s : State} {t : State} (w : s.dev.lifeFrom lv = true) (h : execEndSession session s = .next t) : t.dev.lifeFrom lv = true := by
  refine State.become_life h ?_
  replace w : (s.dev.mask notWelbor).lifeFrom lv = true := w
  clear h
  repeat' (first | with_reducible assumption | intro _ | with_reducible apply Dev.setWel_life | with_reducible apply Dev.life_of | with_reducible apply Dev.endSession_life | with_reducible apply Dev.established_life | with_reducible apply Dev.sealedAnswer_life | exact Dev.life_of (by assumption) | split | (dsimp only; split))
theorem execFinish_life {session : Nat} {good : Bool} {s : State} {t : State} (w : s.dev.lifeFrom lv = true) (h : execFinish session good s = .next t) : t.dev.lifeFrom lv = true := by
  refine State.become_life h ?_
  replace w : (s.dev.mask notWelbor).lifeFrom lv = true := w
  clear h
  repeat' (first | with_reducible assumption | intro _ | with_reducible apply Dev.setWel_life | with_reducible apply Dev.life_of | with_reducible apply Dev.endSession_life | with_reducible apply Dev.inSession_life | with_reducible apply Dev.sealedAnswer_life | with_reducible apply Dev.setSpdmSession_life | with_reducible apply Dev.spdmError_life | exact Dev.life_of (by assumption) | split | (dsimp only; split))
theorem execGetCapabilities_life {via : Transport} {s : State} {t : State} (w : s.dev.lifeFrom lv = true) (h : execGetCapabilities via s = .next t) : t.dev.lifeFrom lv = true := by
  refine State.become_life h ?_
  replace w : (s.dev.mask notWelbor).lifeFrom lv = true := w
  clear h
  repeat' (first | with_reducible assumption | intro _ | with_reducible apply Dev.setWel_life | with_reducible apply Dev.life_of | with_reducible apply Dev.setNegotiated_life | with_reducible apply Dev.spdmAnswer_life | with_reducible apply Dev.spdmServe_life | exact Dev.life_of (by assumption) | split | (dsimp only; split))
theorem execGetCertificate_life {via : Transport} {slot offset length : Nat} {s : State} {t : State} (w : s.dev.lifeFrom lv = true) (h : execGetCertificate via slot offset length s = .next t) : t.dev.lifeFrom lv = true := by
  refine State.become_life h ?_
  replace w : (s.dev.mask notWelbor).lifeFrom lv = true := w
  clear h
  repeat' (first | with_reducible assumption | intro _ | with_reducible apply Dev.setWel_life | with_reducible apply Dev.life_of | with_reducible apply Dev.spdmAnswer_life | with_reducible apply Dev.spdmError_life | with_reducible apply Dev.spdmServe_life | exact Dev.life_of (by assumption) | split | (dsimp only; split))
theorem execGetDigests_life {via : Transport} {s : State} {t : State} (w : s.dev.lifeFrom lv = true) (h : execGetDigests via s = .next t) : t.dev.lifeFrom lv = true := by
  refine State.become_life h ?_
  replace w : (s.dev.mask notWelbor).lifeFrom lv = true := w
  clear h
  repeat' (first | with_reducible assumption | intro _ | with_reducible apply Dev.setWel_life | with_reducible apply Dev.life_of | with_reducible apply Dev.spdmAnswer_life | with_reducible apply Dev.spdmServe_life | exact Dev.life_of (by assumption) | split | (dsimp only; split))
theorem execGetMeasurements_life {via : Transport} {index : Nat} {nonce : Option (List Byte)} {s : State} {t : State} (w : s.dev.lifeFrom lv = true) (h : execGetMeasurements via index nonce s = .next t) : t.dev.lifeFrom lv = true := by
  refine State.become_life h ?_
  replace w : (s.dev.mask notWelbor).lifeFrom lv = true := w
  clear h
  repeat' (first | with_reducible assumption | intro _ | with_reducible apply Dev.setWel_life | with_reducible apply Dev.life_of | (simp (disch := decide) only [Dev.fresh_mask]) | with_reducible apply Dev.spdmAnswer_life | with_reducible apply Dev.spdmError_life | with_reducible apply Dev.spdmServe_life | exact Dev.life_of (by assumption) | split | (dsimp only; split))
theorem execGetVersion_life {via : Transport} {s : State} {t : State} (w : s.dev.lifeFrom lv = true) (h : execGetVersion via s = .next t) : t.dev.lifeFrom lv = true := by
  refine State.become_life h ?_
  replace w : (s.dev.mask notWelbor).lifeFrom lv = true := w
  clear h
  repeat' (first | with_reducible assumption | intro _ | with_reducible apply Dev.setWel_life | with_reducible apply Dev.life_of | with_reducible apply Dev.setNegotiated_life | with_reducible apply Dev.spdmAnswer_life | with_reducible apply Dev.spdmServe_life | exact Dev.life_of (by assumption) | split | (dsimp only; split))
theorem execHeartbeat_life {session : Nat} {s : State} {t : State} (w : s.dev.lifeFrom lv = true) (h : execHeartbeat session s = .next t) : t.dev.lifeFrom lv = true := by
  refine State.become_life h ?_
  replace w : (s.dev.mask notWelbor).lifeFrom lv = true := w
  clear h
  repeat' (first | with_reducible assumption | intro _ | with_reducible apply Dev.setWel_life | with_reducible apply Dev.life_of | with_reducible apply Dev.established_life | with_reducible apply Dev.sealedAnswer_life | exact Dev.life_of (by assumption) | split | (dsimp only; split))
theorem execHostPortReset_life {req : Requester} {kind : BitVec 4} {confirm : BitVec 16} {s : State} {t : State} (w : s.dev.lifeFrom lv = true) (h : execHostPortReset req kind confirm s = .next t) : t.dev.lifeFrom lv = true := by
  refine State.become_life h ?_
  replace w : (s.dev.mask notWelbor).lifeFrom lv = true := w
  clear h
  repeat' (first | with_reducible assumption | intro _ | with_reducible apply Dev.setWel_life | with_reducible apply Dev.life_of | (simp (disch := decide) only [Dev.portReset_mask]) | with_reducible apply Dev.deviceReset_life | with_reducible apply Dev.onWrite_life | exact Dev.life_of (by assumption) | split | (dsimp only; split))
theorem execKeyExchange_life {via : Transport} {summary : Bool} {s : State} {t : State} (w : s.dev.lifeFrom lv = true) (h : execKeyExchange via summary s = .next t) : t.dev.lifeFrom lv = true := by
  refine State.become_life h ?_
  replace w : (s.dev.mask notWelbor).lifeFrom lv = true := w
  clear h
  repeat' (first | with_reducible assumption | intro _ | with_reducible apply Dev.setWel_life | with_reducible apply Dev.life_of | with_reducible apply Dev.keyExchange_life | with_reducible apply Dev.spdmServe_life | exact Dev.life_of (by assumption) | split | (dsimp only; split))
theorem execKeyInstall_life {s : State} {t : State} (w : s.dev.lifeFrom lv = true) (h : execKeyInstall s = .next t) : t.dev.lifeFrom lv = true := by
  refine State.become_life h ?_
  replace w : (s.dev.mask notWelbor).lifeFrom lv = true := w
  clear h
  repeat' (first | with_reducible assumption | intro _ | with_reducible apply Dev.setWel_life | with_reducible apply Dev.life_of | (simp (disch := decide) only [Dev.vendorInstall_mask]) | with_reducible apply Dev.vendorServe_life | exact Dev.life_of (by assumption) | split | (dsimp only; split))
theorem execKeyQuery_life {s : State} {t : State} (w : s.dev.lifeFrom lv = true) (h : execKeyQuery s = .next t) : t.dev.lifeFrom lv = true := by
  refine State.become_life h ?_
  replace w : (s.dev.mask notWelbor).lifeFrom lv = true := w
  clear h
  repeat' (first | with_reducible assumption | intro _ | with_reducible apply Dev.setWel_life | with_reducible apply Dev.life_of | (simp (disch := decide) only [Dev.portEnd_mask]) | with_reducible apply Dev.vendorServe_life | exact Dev.life_of (by assumption) | split | (dsimp only; split))
theorem execKeyRetire_life {s : State} {t : State} (w : s.dev.lifeFrom lv = true) (h : execKeyRetire s = .next t) : t.dev.lifeFrom lv = true := by
  refine State.become_life h ?_
  replace w : (s.dev.mask notWelbor).lifeFrom lv = true := w
  clear h
  repeat' (first | with_reducible assumption | intro _ | with_reducible apply Dev.setWel_life | with_reducible apply Dev.life_of | (simp (disch := decide) only [Dev.keyRetire_mask, Dev.portEnd_mask]) | with_reducible apply Dev.vendorServe_life | exact Dev.life_of (by assumption) | split | (dsimp only; split))
theorem execKeyUpdate_life {session : Nat} {s : State} {t : State} (w : s.dev.lifeFrom lv = true) (h : execKeyUpdate session s = .next t) : t.dev.lifeFrom lv = true := by
  refine State.become_life h ?_
  replace w : (s.dev.mask notWelbor).lifeFrom lv = true := w
  clear h
  repeat' (first | with_reducible assumption | intro _ | with_reducible apply Dev.setWel_life | with_reducible apply Dev.life_of | with_reducible apply Dev.established_life | with_reducible apply Dev.sealedAnswer_life | with_reducible apply Dev.setSpdmSession_life | exact Dev.life_of (by assumption) | split | (dsimp only; split))
theorem execLifecycleAdvance_life {channel : Nat} {s : State} {t : State} (w : s.dev.lifeFrom lv = true) (h : execLifecycleAdvance channel s = .next t) : t.dev.lifeFrom lv = true := by
  refine State.become_life h ?_
  replace w : (s.dev.mask notWelbor).lifeFrom lv = true := w
  clear h
  repeat' (first | with_reducible assumption | intro _ | with_reducible apply Dev.setWel_life | with_reducible apply Dev.life_of | with_reducible apply Dev.fwServe_life | with_reducible apply Dev.lifecycleAdvance_life | exact Dev.life_of (by assumption) | split | (dsimp only; split))
theorem execMbxPop_life {req : Requester} {box : MailEnd} {s : State} {t : State} (w : s.dev.lifeFrom lv = true) (h : execMbxPop req box s = .next t) : t.dev.lifeFrom lv = true := by
  refine State.become_life h ?_
  replace w : (s.dev.mask notWelbor).lifeFrom lv = true := w
  clear h
  repeat' (first | with_reducible assumption | intro _ | with_reducible apply Dev.setWel_life | with_reducible apply Dev.life_of | with_reducible apply Dev.onMail_life | with_reducible apply Dev.popEnd_life | exact Dev.life_of (by assumption) | split | (dsimp only; split))
theorem execMbxSend_life {req : Requester} {box : MailEnd} {pasid : Option Nat} {s : State} {t : State} (w : s.dev.lifeFrom lv = true) (h : execMbxSend req box pasid s = .next t) : t.dev.lifeFrom lv = true := by
  refine State.become_life h ?_
  replace w : (s.dev.mask notWelbor).lifeFrom lv = true := w
  clear h
  repeat' (first | with_reducible assumption | intro _ | with_reducible apply Dev.setWel_life | with_reducible apply Dev.life_of | (simp (disch := decide) only [Dev.mailSend_mask]) | with_reducible apply Dev.onMail_life | with_reducible apply Dev.sendChunk_life | exact Dev.life_of (by assumption) | split | (dsimp only; split))
theorem execMctpControlMessage_life {setEid : Option Nat} {s : State} {t : State} (w : s.dev.lifeFrom lv = true) (h : execMctpControlMessage setEid s = .next t) : t.dev.lifeFrom lv = true := by
  refine State.become_life h ?_
  replace w : (s.dev.mask notWelbor).lifeFrom lv = true := w
  clear h
  repeat' (first | with_reducible assumption | intro _ | with_reducible apply Dev.setWel_life | with_reducible apply Dev.life_of | (simp (disch := decide) only [Dev.emit_mask]) | with_reducible apply Dev.setWel_life | with_reducible apply Dev.life_getD | with_reducible apply Dev.life_getD_pair | exact Dev.life_of (by assumption) | split | (dsimp only; split))
theorem execNegotiateAlgorithms_life {via : Transport} {supported : Bool} {s : State} {t : State} (w : s.dev.lifeFrom lv = true) (h : execNegotiateAlgorithms via supported s = .next t) : t.dev.lifeFrom lv = true := by
  refine State.become_life h ?_
  replace w : (s.dev.mask notWelbor).lifeFrom lv = true := w
  clear h
  repeat' (first | with_reducible assumption | intro _ | with_reducible apply Dev.setWel_life | with_reducible apply Dev.life_of | with_reducible apply Dev.setNegotiated_life | with_reducible apply Dev.spdmAnswer_life | with_reducible apply Dev.spdmError_life | with_reducible apply Dev.spdmServe_life | exact Dev.life_of (by assumption) | split | (dsimp only; split))
theorem execOtpProgramEnd_life {s : State} {t : State} (w : s.dev.lifeFrom lv = true) (h : execOtpProgramEnd s = .next t) : t.dev.lifeFrom lv = true := by
  refine State.become_life h ?_
  replace w : (s.dev.mask notWelbor).lifeFrom lv = true := w
  clear h
  repeat' (first | with_reducible assumption | intro _ | with_reducible apply Dev.setWel_life | with_reducible apply Dev.life_of | with_reducible apply Dev.otpEnd_life | exact Dev.life_of (by assumption) | split | (dsimp only; split))
theorem execOtpWrite_life {channel : Nat} {s : State} {t : State} (w : s.dev.lifeFrom lv = true) (h : execOtpWrite channel s = .next t) : t.dev.lifeFrom lv = true := by
  refine State.become_life h ?_
  replace w : (s.dev.mask notWelbor).lifeFrom lv = true := w
  clear h
  repeat' (first | with_reducible assumption | intro _ | with_reducible apply Dev.setWel_life | with_reducible apply Dev.life_of | with_reducible apply Dev.otpWrite_life | exact Dev.life_of (by assumption) | split | (dsimp only; split))
theorem execPoolSet_life {channel : Nat} {s : State} {t : State} (w : s.dev.lifeFrom lv = true) (h : execPoolSet channel s = .next t) : t.dev.lifeFrom lv = true := by
  refine State.become_life h ?_
  replace w : (s.dev.mask notWelbor).lifeFrom lv = true := w
  clear h
  repeat' (first | with_reducible assumption | intro _ | with_reducible apply Dev.setWel_life | with_reducible apply Dev.life_of | with_reducible apply Dev.fwServe_life | with_reducible apply Dev.setPool_life | exact Dev.life_of (by assumption) | split | (dsimp only; split))
theorem execQueueOp_life {s : State} {t : State} (w : s.dev.lifeFrom lv = true) (h : execQueueOp s = .next t) : t.dev.lifeFrom lv = true := by
  refine State.become_life h ?_
  replace w : (s.dev.mask notWelbor).lifeFrom lv = true := w
  clear h
  repeat' (first | with_reducible assumption | intro _ | with_reducible apply Dev.setWel_life | with_reducible apply Dev.life_of | (simp (disch := decide) only [Dev.vendorQueue_mask]) | with_reducible apply Dev.vendorServe_life | with_reducible apply Dev.life_getD | with_reducible apply Dev.life_getD_pair | exact Dev.life_of (by assumption) | split | (dsimp only; split))
theorem execRegisterWrite_life {req : Requester} {addr : Nat} {value : Word} {be : BitVec 4} {s : State} {t : State} (w : s.dev.lifeFrom lv = true) (h : execRegisterWrite req addr value be s = .next t) : t.dev.lifeFrom lv = true := by
  refine State.become_life h ?_
  replace w : (s.dev.mask notWelbor).lifeFrom lv = true := w
  clear h
  repeat' (first | with_reducible assumption | intro _ | with_reducible apply Dev.setWel_life | with_reducible apply Dev.life_of | with_reducible apply Dev.writeAt_life | exact Dev.life_of (by assumption) | split | (dsimp only; split))
theorem execSaDisable_life {s : State} {t : State} (w : s.dev.lifeFrom lv = true) (h : execSaDisable s = .next t) : t.dev.lifeFrom lv = true := by
  refine State.become_life h ?_
  replace w : (s.dev.mask notWelbor).lifeFrom lv = true := w
  clear h
  repeat' (first | with_reducible assumption | intro _ | with_reducible apply Dev.setWel_life | with_reducible apply Dev.life_of | (simp (disch := decide) only [Dev.saDisable_mask]) | with_reducible apply Dev.vendorSa_life | with_reducible apply Dev.vendorServe_life | with_reducible apply Dev.life_getD | with_reducible apply Dev.life_getD_pair | exact Dev.life_of (by assumption) | split | (dsimp only; split))
theorem execSaRead_life {s : State} {t : State} (w : s.dev.lifeFrom lv = true) (h : execSaRead s = .next t) : t.dev.lifeFrom lv = true := by
  refine State.become_life h ?_
  replace w : (s.dev.mask notWelbor).lifeFrom lv = true := w
  clear h
  repeat' (first | with_reducible assumption | intro _ | with_reducible apply Dev.setWel_life | with_reducible apply Dev.life_of | with_reducible apply Dev.vendorSa_life | with_reducible apply Dev.vendorServe_life | with_reducible apply Dev.life_getD | with_reducible apply Dev.life_getD_pair | exact Dev.life_of (by assumption) | split | (dsimp only; split))
theorem execSaRoll_life {s : State} {t : State} (w : s.dev.lifeFrom lv = true) (h : execSaRoll s = .next t) : t.dev.lifeFrom lv = true := by
  refine State.become_life h ?_
  replace w : (s.dev.mask notWelbor).lifeFrom lv = true := w
  clear h
  repeat' (first | with_reducible assumption | intro _ | with_reducible apply Dev.setWel_life | with_reducible apply Dev.life_of | (simp (disch := decide) only [Dev.saRoll_mask]) | with_reducible apply Dev.vendorSa_life | with_reducible apply Dev.vendorServe_life | with_reducible apply Dev.life_getD | with_reducible apply Dev.life_getD_pair | exact Dev.life_of (by assumption) | split | (dsimp only; split))
theorem execSaWrite_life {s : State} {t : State} (w : s.dev.lifeFrom lv = true) (h : execSaWrite s = .next t) : t.dev.lifeFrom lv = true := by
  refine State.become_life h ?_
  replace w : (s.dev.mask notWelbor).lifeFrom lv = true := w
  clear h
  repeat' (first | with_reducible assumption | intro _ | with_reducible apply Dev.setWel_life | with_reducible apply Dev.life_of | (simp (disch := decide) only [Dev.vendorSaWrite_mask]) | with_reducible apply Dev.vendorServe_life | with_reducible apply Dev.life_getD | with_reducible apply Dev.life_getD_pair | exact Dev.life_of (by assumption) | split | (dsimp only; split))
theorem execSesCtl_life {s : State} {t : State} (w : s.dev.lifeFrom lv = true) (h : execSesCtl s = .next t) : t.dev.lifeFrom lv = true := by
  refine State.become_life h ?_
  replace w : (s.dev.mask notWelbor).lifeFrom lv = true := w
  clear h
  repeat' (first | with_reducible assumption | intro _ | with_reducible apply Dev.setWel_life | with_reducible apply Dev.life_of | (simp (disch := decide) only [Dev.vendorSes_mask]) | with_reducible apply Dev.vendorServe_life | with_reducible apply Dev.life_getD | with_reducible apply Dev.life_getD_pair | exact Dev.life_of (by assumption) | split | (dsimp only; split))
theorem execSlcCreate_life {s : State} {t : State} (w : s.dev.lifeFrom lv = true) (h : execSlcCreate s = .next t) : t.dev.lifeFrom lv = true := by
  refine State.become_life h ?_
  replace w : (s.dev.mask notWelbor).lifeFrom lv = true := w
  clear h
  repeat' (first | with_reducible assumption | intro _ | with_reducible apply Dev.setWel_life | with_reducible apply Dev.life_of | (simp (disch := decide) only [Dev.charterChanged_mask]) | with_reducible apply Dev.portExec_life | with_reducible apply Dev.sliceCreate_life | exact Dev.life_of (by assumption) | split | (dsimp only; split))
theorem execSlcDestroy_life {s : State} {t : State} (w : s.dev.lifeFrom lv = true) (h : execSlcDestroy s = .next t) : t.dev.lifeFrom lv = true := by
  refine State.become_life h ?_
  replace w : (s.dev.mask notWelbor).lifeFrom lv = true := w
  clear h
  repeat' (first | with_reducible assumption | intro _ | with_reducible apply Dev.setWel_life | with_reducible apply Dev.life_of | (simp (disch := decide) only [Dev.charterChanged_mask]) | with_reducible apply Dev.portExec_life | with_reducible apply Dev.sliceDestroy_life | exact Dev.life_of (by assumption) | split | (dsimp only; split))
theorem execSliceCreate_life {channel : Nat} {s : State} {t : State} (w : s.dev.lifeFrom lv = true) (h : execSliceCreate channel s = .next t) : t.dev.lifeFrom lv = true := by
  refine State.become_life h ?_
  replace w : (s.dev.mask notWelbor).lifeFrom lv = true := w
  clear h
  repeat' (first | with_reducible assumption | intro _ | with_reducible apply Dev.setWel_life | with_reducible apply Dev.life_of | with_reducible apply Dev.fwCharter_life | with_reducible apply Dev.sliceCreate_life | exact Dev.life_of (by assumption) | split | (dsimp only; split))
theorem execSliceDestroy_life {channel : Nat} {s : State} {t : State} (w : s.dev.lifeFrom lv = true) (h : execSliceDestroy channel s = .next t) : t.dev.lifeFrom lv = true := by
  refine State.become_life h ?_
  replace w : (s.dev.mask notWelbor).lifeFrom lv = true := w
  clear h
  repeat' (first | with_reducible assumption | intro _ | with_reducible apply Dev.setWel_life | with_reducible apply Dev.life_of | with_reducible apply Dev.fwDestroy_life | exact Dev.life_of (by assumption) | split | (dsimp only; split))
theorem execSpdmSessionTimeout_life {session : Nat} {s : State} {t : State} (w : s.dev.lifeFrom lv = true) (h : execSpdmSessionTimeout session s = .next t) : t.dev.lifeFrom lv = true := by
  refine State.become_life h ?_
  replace w : (s.dev.mask notWelbor).lifeFrom lv = true := w
  clear h
  repeat' (first | with_reducible assumption | intro _ | with_reducible apply Dev.setWel_life | with_reducible apply Dev.life_of | with_reducible apply Dev.endSession_life | exact Dev.life_of (by assumption) | split | (dsimp only; split))
theorem execStandbyEntryComplete_life {s : State} {t : State} (w : s.dev.lifeFrom lv = true) (h : execStandbyEntryComplete s = .next t) : t.dev.lifeFrom lv = true := by
  refine State.become_life h ?_
  replace w : (s.dev.mask notWelbor).lifeFrom lv = true := w
  clear h
  repeat' (first | with_reducible assumption | intro _ | with_reducible apply Dev.setWel_life | with_reducible apply Dev.life_of | with_reducible apply Dev.finishEntry_life | exact Dev.life_of (by assumption) | split | (dsimp only; split))
theorem execVendorDefinedRequest_life {via : Transport} {session : Option Nat} {payload : List Byte} {s : State} {t : State} (w : s.dev.lifeFrom lv = true) (h : execVendorDefinedRequest via session payload s = .next t) : t.dev.lifeFrom lv = true := by
  refine State.become_life h ?_
  replace w : (s.dev.mask notWelbor).lifeFrom lv = true := w
  clear h
  repeat' (first | with_reducible assumption | intro _ | with_reducible apply Dev.setWel_life | with_reducible apply Dev.life_of | with_reducible apply Dev.vendorRequest_life | exact Dev.life_of (by assumption) | split | (dsimp only; split))
theorem execVolBindKey_life {s : State} {t : State} (w : s.dev.lifeFrom lv = true) (h : execVolBindKey s = .next t) : t.dev.lifeFrom lv = true := by
  refine State.become_life h ?_
  replace w : (s.dev.mask notWelbor).lifeFrom lv = true := w
  clear h
  repeat' (first | with_reducible assumption | intro _ | with_reducible apply Dev.setWel_life | with_reducible apply Dev.life_of | (simp (disch := decide) only [Dev.vendorVolBind_mask]) | with_reducible apply Dev.vendorServe_life | with_reducible apply Dev.life_getD | with_reducible apply Dev.life_getD_pair | exact Dev.life_of (by assumption) | split | (dsimp only; split))
theorem execWelborRestart_life {s : State} {t : State} (w : s.dev.lifeFrom lv = true) (h : execWelborRestart s = .next t) : t.dev.lifeFrom lv = true := by
  refine State.become_life h ?_
  replace w : (s.dev.mask notWelbor).lifeFrom lv = true := w
  clear h
  repeat' (first | with_reducible assumption | intro _ | with_reducible apply Dev.setWel_life | with_reducible apply Dev.life_of | with_reducible apply Dev.welborRestart_life | exact Dev.life_of (by assumption) | split | (dsimp only; split))

/-- A command that does not change what Welbor holds keeps the lifecycle state. -/
theorem exec_life_of_parts {c : Instr} {s t : State} (w : s.dev.lifeFrom lv = true) (h : exec c s = .next t)
    (hp : (commandParts c).contains .wel = false) : t.dev.lifeFrom lv = true := by
  have e : t.dev.wel = s.dev.wel := Dev.same_of_parts (exec_frame h).1 .wel (by
    intro hm
    rw [List.contains_iff_mem.2 hm] at hp
    cases hp)
  rw [Dev.lifeFrom, e]
  exact w

end Sys2Proof.Machine
end

