-- ==== Sys2Proof/Laws/State.lean ====
section
/-!
SUPPORT. One lemma per field per update of the device and of the state.
-/

namespace Sys2Proof.Machine

@[simp] theorem State.become_eq (s : State) (d : Dev) : s.become d = .next { s with dev := d } := rfl
theorem State.become_dev {s t : State} {d : Dev} (h : s.become d = .next t) : t.dev = d := by cases h; rfl
theorem State.become_pending {s t : State} {d : Dev} (h : s.become d = .next t) : t.pending = s.pending := by cases h; rfl

@[simp] theorem Dev.wr_now (d : Dev) (a : Nat) (v : Word) : (d.wr a v).now = d.now := rfl
@[simp] theorem Dev.wr_wide (d : Dev) (a : Nat) (v : Word) : (d.wr a v).wide = d.wide := rfl
@[simp] theorem Dev.wr_badParity (d : Dev) (a : Nat) (v : Word) : (d.wr a v).badParity = d.badParity := rfl
@[simp] theorem Dev.wr_seenParity (d : Dev) (a : Nat) (v : Word) : (d.wr a v).seenParity = d.seenParity := rfl
@[simp] theorem Dev.wr_gddr (d : Dev) (a : Nat) (v : Word) : (d.wr a v).gddr = d.gddr := rfl
@[simp] theorem Dev.wr_die (d : Dev) (a : Nat) (v : Word) : (d.wr a v).die = d.die := rfl
@[simp] theorem Dev.wr_host0 (d : Dev) (a : Nat) (v : Word) : (d.wr a v).host0 = d.host0 := rfl
@[simp] theorem Dev.wr_host1 (d : Dev) (a : Nat) (v : Word) : (d.wr a v).host1 = d.host1 := rfl
@[simp] theorem Dev.wr_out (d : Dev) (a : Nat) (v : Word) : (d.wr a v).out = d.out := rfl
@[simp] theorem Dev.wr_free (d : Dev) (a : Nat) (v : Word) : (d.wr a v).free = d.free := rfl
@[simp] theorem Dev.wr_bins (d : Dev) (a : Nat) (v : Word) : (d.wr a v).bins = d.bins := rfl
@[simp] theorem Dev.wr_boutHeld (d : Dev) (a : Nat) (v : Word) : (d.wr a v).boutHeld = d.boutHeld := rfl
@[simp] theorem Dev.wr_movers (d : Dev) (a : Nat) (v : Word) : (d.wr a v).movers = d.movers := rfl
@[simp] theorem Dev.wr_portOwner (d : Dev) (a : Nat) (v : Word) : (d.wr a v).portOwner = d.portOwner := rfl
@[simp] theorem Dev.wr_portData (d : Dev) (a : Nat) (v : Word) : (d.wr a v).portData = d.portData := rfl
@[simp] theorem Dev.wr_journal (d : Dev) (a : Nat) (v : Word) : (d.wr a v).journal = d.journal := rfl
@[simp] theorem Dev.wr_pwr (d : Dev) (a : Nat) (v : Word) : (d.wr a v).pwr = d.pwr := rfl
@[simp] theorem Dev.wr_tim (d : Dev) (a : Nat) (v : Word) : (d.wr a v).tim = d.tim := rfl
@[simp] theorem Dev.wr_ft (d : Dev) (a : Nat) (v : Word) : (d.wr a v).ft = d.ft := rfl
@[simp] theorem Dev.wr_cpx (d : Dev) (a : Nat) (v : Word) : (d.wr a v).cpx = d.cpx := rfl
@[simp] theorem Dev.wr_hif (d : Dev) (a : Nat) (v : Word) : (d.wr a v).hif = d.hif := rfl
@[simp] theorem Dev.wr_sit (d : Dev) (a : Nat) (v : Word) : (d.wr a v).sit = d.sit := rfl
@[simp] theorem Dev.wr_slices (d : Dev) (a : Nat) (v : Word) : (d.wr a v).slices = d.slices := rfl
@[simp] theorem Dev.wr_queues (d : Dev) (a : Nat) (v : Word) : (d.wr a v).queues = d.queues := rfl
@[simp] theorem Dev.wr_ports (d : Dev) (a : Nat) (v : Word) : (d.wr a v).ports = d.ports := rfl
@[simp] theorem Dev.wr_store (d : Dev) (a : Nat) (v : Word) : (d.wr a v).store = d.store := rfl
@[simp] theorem Dev.wr_crcBusy (d : Dev) (a : Nat) (v : Word) : (d.wr a v).crcBusy = d.crcBusy := rfl
@[simp] theorem Dev.wr_ctxs (d : Dev) (a : Nat) (v : Word) : (d.wr a v).ctxs = d.ctxs := rfl
@[simp] theorem Dev.wr_lastIssued (d : Dev) (a : Nat) (v : Word) : (d.wr a v).lastIssued = d.lastIssued := rfl
@[simp] theorem Dev.wr_fencedCtx (d : Dev) (a : Nat) (v : Word) : (d.wr a v).fencedCtx = d.fencedCtx := rfl
@[simp] theorem Dev.wr_ctxErrors (d : Dev) (a : Nat) (v : Word) : (d.wr a v).ctxErrors = d.ctxErrors := rfl
@[simp] theorem Dev.wr_gafStopped (d : Dev) (a : Nat) (v : Word) : (d.wr a v).gafStopped = d.gafStopped := rfl
@[simp] theorem Dev.wr_flips (d : Dev) (a : Nat) (v : Word) : (d.wr a v).flips = d.flips := rfl
@[simp] theorem Dev.wr_packets (d : Dev) (a : Nat) (v : Word) : (d.wr a v).packets = d.packets := rfl
@[simp] theorem Dev.wr_headGen (d : Dev) (a : Nat) (v : Word) : (d.wr a v).headGen = d.headGen := rfl
@[simp] theorem Dev.wr_srcSeq (d : Dev) (a : Nat) (v : Word) : (d.wr a v).srcSeq = d.srcSeq := rfl
@[simp] theorem Dev.wr_dispatchQ (d : Dev) (a : Nat) (v : Word) : (d.wr a v).dispatchQ = d.dispatchQ := rfl
@[simp] theorem Dev.wr_reheatQ (d : Dev) (a : Nat) (v : Word) : (d.wr a v).reheatQ = d.reheatQ := rfl
@[simp] theorem Dev.wr_reheatSeen (d : Dev) (a : Nat) (v : Word) : (d.wr a v).reheatSeen = d.reheatSeen := rfl
@[simp] theorem Dev.wr_credit (d : Dev) (a : Nat) (v : Word) : (d.wr a v).credit = d.credit := rfl
@[simp] theorem Dev.wr_excQ (d : Dev) (a : Nat) (v : Word) : (d.wr a v).excQ = d.excQ := rfl
@[simp] theorem Dev.wr_acceptNo (d : Dev) (a : Nat) (v : Word) : (d.wr a v).acceptNo = d.acceptNo := rfl
@[simp] theorem Dev.wr_cullet (d : Dev) (a : Nat) (v : Word) : (d.wr a v).cullet = d.cullet := rfl
@[simp] theorem Dev.wr_copies (d : Dev) (a : Nat) (v : Word) : (d.wr a v).copies = d.copies := rfl
@[simp] theorem Dev.wr_nextCopy (d : Dev) (a : Nat) (v : Word) : (d.wr a v).nextCopy = d.nextCopy := rfl
@[simp] theorem Dev.wr_traceQ (d : Dev) (a : Nat) (v : Word) : (d.wr a v).traceQ = d.traceQ := rfl
@[simp] theorem Dev.wr_xoffAsked (d : Dev) (a : Nat) (v : Word) : (d.wr a v).xoffAsked = d.xoffAsked := rfl
@[simp] theorem Dev.wr_ovfTags (d : Dev) (a : Nat) (v : Word) : (d.wr a v).ovfTags = d.ovfTags := rfl
@[simp] theorem Dev.wr_ovfBad (d : Dev) (a : Nat) (v : Word) : (d.wr a v).ovfBad = d.ovfBad := rfl
@[simp] theorem Dev.wr_bloom (d : Dev) (a : Nat) (v : Word) : (d.wr a v).bloom = d.bloom := rfl
@[simp] theorem Dev.wr_noteQ (d : Dev) (a : Nat) (v : Word) : (d.wr a v).noteQ = d.noteQ := rfl
@[simp] theorem Dev.wr_noteSeq (d : Dev) (a : Nat) (v : Word) : (d.wr a v).noteSeq = d.noteSeq := rfl
@[simp] theorem Dev.wr_learnQ (d : Dev) (a : Nat) (v : Word) : (d.wr a v).learnQ = d.learnQ := rfl
@[simp] theorem Dev.wr_refreshQ (d : Dev) (a : Nat) (v : Word) : (d.wr a v).refreshQ = d.refreshQ := rfl
@[simp] theorem Dev.wr_clearQ (d : Dev) (a : Nat) (v : Word) : (d.wr a v).clearQ = d.clearQ := rfl
@[simp] theorem Dev.wr_sweep (d : Dev) (a : Nat) (v : Word) : (d.wr a v).sweep = d.sweep := rfl
@[simp] theorem Dev.wr_sweepAgain (d : Dev) (a : Nat) (v : Word) : (d.wr a v).sweepAgain = d.sweepAgain := rfl
@[simp] theorem Dev.wr_rebuild (d : Dev) (a : Nat) (v : Word) : (d.wr a v).rebuild = d.rebuild := rfl
@[simp] theorem Dev.wr_encapId (d : Dev) (a : Nat) (v : Word) : (d.wr a v).encapId = d.encapId := rfl
@[simp] theorem Dev.wr_counterQ (d : Dev) (a : Nat) (v : Word) : (d.wr a v).counterQ = d.counterQ := rfl
@[simp] theorem Dev.wr_sched (d : Dev) (a : Nat) (v : Word) : (d.wr a v).sched = d.sched := rfl
@[simp] theorem Dev.wr_host (d : Dev) (a : Nat) (v : Word) : (d.wr a v).host = d.host := rfl
@[simp] theorem Dev.wr_macs (d : Dev) (a : Nat) (v : Word) : (d.wr a v).macs = d.macs := rfl
@[simp] theorem Dev.wr_lanes (d : Dev) (a : Nat) (v : Word) : (d.wr a v).lanes = d.lanes := rfl
@[simp] theorem Dev.wr_sentQ (d : Dev) (a : Nat) (v : Word) : (d.wr a v).sentQ = d.sentQ := rfl
@[simp] theorem Dev.wr_lehr (d : Dev) (a : Nat) (v : Word) : (d.wr a v).lehr = d.lehr := rfl
@[simp] theorem Dev.wr_sxp (d : Dev) (a : Nat) (v : Word) : (d.wr a v).sxp = d.sxp := rfl
@[simp] theorem Dev.wr_sto (d : Dev) (a : Nat) (v : Word) : (d.wr a v).sto = d.sto := rfl
@[simp] theorem Dev.wr_mail (d : Dev) (a : Nat) (v : Word) : (d.wr a v).mail = d.mail := rfl
@[simp] theorem Dev.wr_wel (d : Dev) (a : Nat) (v : Word) : (d.wr a v).wel = d.wel := rfl

@[simp] theorem Dev.wset_now (d : Dev) (p i v : Nat) : (d.wset p i v).now = d.now := rfl
@[simp] theorem Dev.wset_regs (d : Dev) (p i v : Nat) : (d.wset p i v).regs = d.regs := rfl
@[simp] theorem Dev.wset_badParity (d : Dev) (p i v : Nat) : (d.wset p i v).badParity = d.badParity := rfl
@[simp] theorem Dev.wset_seenParity (d : Dev) (p i v : Nat) : (d.wset p i v).seenParity = d.seenParity := rfl
@[simp] theorem Dev.wset_gddr (d : Dev) (p i v : Nat) : (d.wset p i v).gddr = d.gddr := rfl
@[simp] theorem Dev.wset_die (d : Dev) (p i v : Nat) : (d.wset p i v).die = d.die := rfl
@[simp] theorem Dev.wset_host0 (d : Dev) (p i v : Nat) : (d.wset p i v).host0 = d.host0 := rfl
@[simp] theorem Dev.wset_host1 (d : Dev) (p i v : Nat) : (d.wset p i v).host1 = d.host1 := rfl
@[simp] theorem Dev.wset_out (d : Dev) (p i v : Nat) : (d.wset p i v).out = d.out := rfl
@[simp] theorem Dev.wset_free (d : Dev) (p i v : Nat) : (d.wset p i v).free = d.free := rfl
@[simp] theorem Dev.wset_bins (d : Dev) (p i v : Nat) : (d.wset p i v).bins = d.bins := rfl
@[simp] theorem Dev.wset_boutHeld (d : Dev) (p i v : Nat) : (d.wset p i v).boutHeld = d.boutHeld := rfl
@[simp] theorem Dev.wset_movers (d : Dev) (p i v : Nat) : (d.wset p i v).movers = d.movers := rfl
@[simp] theorem Dev.wset_portOwner (d : Dev) (p i v : Nat) : (d.wset p i v).portOwner = d.portOwner := rfl
@[simp] theorem Dev.wset_portData (d : Dev) (p i v : Nat) : (d.wset p i v).portData = d.portData := rfl
@[simp] theorem Dev.wset_journal (d : Dev) (p i v : Nat) : (d.wset p i v).journal = d.journal := rfl
@[simp] theorem Dev.wset_pwr (d : Dev) (p i v : Nat) : (d.wset p i v).pwr = d.pwr := rfl
@[simp] theorem Dev.wset_tim (d : Dev) (p i v : Nat) : (d.wset p i v).tim = d.tim := rfl
@[simp] theorem Dev.wset_ft (d : Dev) (p i v : Nat) : (d.wset p i v).ft = d.ft := rfl
@[simp] theorem Dev.wset_cpx (d : Dev) (p i v : Nat) : (d.wset p i v).cpx = d.cpx := rfl
@[simp] theorem Dev.wset_hif (d : Dev) (p i v : Nat) : (d.wset p i v).hif = d.hif := rfl
@[simp] theorem Dev.wset_sit (d : Dev) (p i v : Nat) : (d.wset p i v).sit = d.sit := rfl
@[simp] theorem Dev.wset_slices (d : Dev) (p i v : Nat) : (d.wset p i v).slices = d.slices := rfl
@[simp] theorem Dev.wset_queues (d : Dev) (p i v : Nat) : (d.wset p i v).queues = d.queues := rfl
@[simp] theorem Dev.wset_ports (d : Dev) (p i v : Nat) : (d.wset p i v).ports = d.ports := rfl
@[simp] theorem Dev.wset_store (d : Dev) (p i v : Nat) : (d.wset p i v).store = d.store := rfl
@[simp] theorem Dev.wset_crcBusy (d : Dev) (p i v : Nat) : (d.wset p i v).crcBusy = d.crcBusy := rfl
@[simp] theorem Dev.wset_ctxs (d : Dev) (p i v : Nat) : (d.wset p i v).ctxs = d.ctxs := rfl
@[simp] theorem Dev.wset_lastIssued (d : Dev) (p i v : Nat) : (d.wset p i v).lastIssued = d.lastIssued := rfl
@[simp] theorem Dev.wset_fencedCtx (d : Dev) (p i v : Nat) : (d.wset p i v).fencedCtx = d.fencedCtx := rfl
@[simp] theorem Dev.wset_ctxErrors (d : Dev) (p i v : Nat) : (d.wset p i v).ctxErrors = d.ctxErrors := rfl
@[simp] theorem Dev.wset_gafStopped (d : Dev) (p i v : Nat) : (d.wset p i v).gafStopped = d.gafStopped := rfl
@[simp] theorem Dev.wset_flips (d : Dev) (p i v : Nat) : (d.wset p i v).flips = d.flips := rfl
@[simp] theorem Dev.wset_packets (d : Dev) (p i v : Nat) : (d.wset p i v).packets = d.packets := rfl
@[simp] theorem Dev.wset_headGen (d : Dev) (p i v : Nat) : (d.wset p i v).headGen = d.headGen := rfl
@[simp] theorem Dev.wset_srcSeq (d : Dev) (p i v : Nat) : (d.wset p i v).srcSeq = d.srcSeq := rfl
@[simp] theorem Dev.wset_dispatchQ (d : Dev) (p i v : Nat) : (d.wset p i v).dispatchQ = d.dispatchQ := rfl
@[simp] theorem Dev.wset_reheatQ (d : Dev) (p i v : Nat) : (d.wset p i v).reheatQ = d.reheatQ := rfl
@[simp] theorem Dev.wset_reheatSeen (d : Dev) (p i v : Nat) : (d.wset p i v).reheatSeen = d.reheatSeen := rfl
@[simp] theorem Dev.wset_credit (d : Dev) (p i v : Nat) : (d.wset p i v).credit = d.credit := rfl
@[simp] theorem Dev.wset_excQ (d : Dev) (p i v : Nat) : (d.wset p i v).excQ = d.excQ := rfl
@[simp] theorem Dev.wset_acceptNo (d : Dev) (p i v : Nat) : (d.wset p i v).acceptNo = d.acceptNo := rfl
@[simp] theorem Dev.wset_cullet (d : Dev) (p i v : Nat) : (d.wset p i v).cullet = d.cullet := rfl
@[simp] theorem Dev.wset_copies (d : Dev) (p i v : Nat) : (d.wset p i v).copies = d.copies := rfl
@[simp] theorem Dev.wset_nextCopy (d : Dev) (p i v : Nat) : (d.wset p i v).nextCopy = d.nextCopy := rfl
@[simp] theorem Dev.wset_traceQ (d : Dev) (p i v : Nat) : (d.wset p i v).traceQ = d.traceQ := rfl
@[simp] theorem Dev.wset_xoffAsked (d : Dev) (p i v : Nat) : (d.wset p i v).xoffAsked = d.xoffAsked := rfl
@[simp] theorem Dev.wset_ovfTags (d : Dev) (p i v : Nat) : (d.wset p i v).ovfTags = d.ovfTags := rfl
@[simp] theorem Dev.wset_ovfBad (d : Dev) (p i v : Nat) : (d.wset p i v).ovfBad = d.ovfBad := rfl
@[simp] theorem Dev.wset_bloom (d : Dev) (p i v : Nat) : (d.wset p i v).bloom = d.bloom := rfl
@[simp] theorem Dev.wset_noteQ (d : Dev) (p i v : Nat) : (d.wset p i v).noteQ = d.noteQ := rfl
@[simp] theorem Dev.wset_noteSeq (d : Dev) (p i v : Nat) : (d.wset p i v).noteSeq = d.noteSeq := rfl
@[simp] theorem Dev.wset_learnQ (d : Dev) (p i v : Nat) : (d.wset p i v).learnQ = d.learnQ := rfl
@[simp] theorem Dev.wset_refreshQ (d : Dev) (p i v : Nat) : (d.wset p i v).refreshQ = d.refreshQ := rfl
@[simp] theorem Dev.wset_clearQ (d : Dev) (p i v : Nat) : (d.wset p i v).clearQ = d.clearQ := rfl
@[simp] theorem Dev.wset_sweep (d : Dev) (p i v : Nat) : (d.wset p i v).sweep = d.sweep := rfl
@[simp] theorem Dev.wset_sweepAgain (d : Dev) (p i v : Nat) : (d.wset p i v).sweepAgain = d.sweepAgain := rfl
@[simp] theorem Dev.wset_rebuild (d : Dev) (p i v : Nat) : (d.wset p i v).rebuild = d.rebuild := rfl
@[simp] theorem Dev.wset_encapId (d : Dev) (p i v : Nat) : (d.wset p i v).encapId = d.encapId := rfl
@[simp] theorem Dev.wset_counterQ (d : Dev) (p i v : Nat) : (d.wset p i v).counterQ = d.counterQ := rfl
@[simp] theorem Dev.wset_sched (d : Dev) (p i v : Nat) : (d.wset p i v).sched = d.sched := rfl
@[simp] theorem Dev.wset_host (d : Dev) (p i v : Nat) : (d.wset p i v).host = d.host := rfl
@[simp] theorem Dev.wset_macs (d : Dev) (p i v : Nat) : (d.wset p i v).macs = d.macs := rfl
@[simp] theorem Dev.wset_lanes (d : Dev) (p i v : Nat) : (d.wset p i v).lanes = d.lanes := rfl
@[simp] theorem Dev.wset_sentQ (d : Dev) (p i v : Nat) : (d.wset p i v).sentQ = d.sentQ := rfl
@[simp] theorem Dev.wset_lehr (d : Dev) (p i v : Nat) : (d.wset p i v).lehr = d.lehr := rfl
@[simp] theorem Dev.wset_sxp (d : Dev) (p i v : Nat) : (d.wset p i v).sxp = d.sxp := rfl
@[simp] theorem Dev.wset_sto (d : Dev) (p i v : Nat) : (d.wset p i v).sto = d.sto := rfl
@[simp] theorem Dev.wset_mail (d : Dev) (p i v : Nat) : (d.wset p i v).mail = d.mail := rfl
@[simp] theorem Dev.wset_wel (d : Dev) (p i v : Nat) : (d.wset p i v).wel = d.wel := rfl

@[simp] theorem Dev.gwrite_now (d : Dev) (a : Nat) (bs : List Byte) : (d.gwrite a bs).now = d.now := rfl
@[simp] theorem Dev.gwrite_regs (d : Dev) (a : Nat) (bs : List Byte) : (d.gwrite a bs).regs = d.regs := rfl
@[simp] theorem Dev.gwrite_wide (d : Dev) (a : Nat) (bs : List Byte) : (d.gwrite a bs).wide = d.wide := rfl
@[simp] theorem Dev.gwrite_badParity (d : Dev) (a : Nat) (bs : List Byte) : (d.gwrite a bs).badParity = d.badParity := rfl
@[simp] theorem Dev.gwrite_seenParity (d : Dev) (a : Nat) (bs : List Byte) : (d.gwrite a bs).seenParity = d.seenParity := rfl
@[simp] theorem Dev.gwrite_die (d : Dev) (a : Nat) (bs : List Byte) : (d.gwrite a bs).die = d.die := rfl
@[simp] theorem Dev.gwrite_host0 (d : Dev) (a : Nat) (bs : List Byte) : (d.gwrite a bs).host0 = d.host0 := rfl
@[simp] theorem Dev.gwrite_host1 (d : Dev) (a : Nat) (bs : List Byte) : (d.gwrite a bs).host1 = d.host1 := rfl
@[simp] theorem Dev.gwrite_out (d : Dev) (a : Nat) (bs : List Byte) : (d.gwrite a bs).out = d.out := rfl
@[simp] theorem Dev.gwrite_free (d : Dev) (a : Nat) (bs : List Byte) : (d.gwrite a bs).free = d.free := rfl
@[simp] theorem Dev.gwrite_bins (d : Dev) (a : Nat) (bs : List Byte) : (d.gwrite a bs).bins = d.bins := rfl
@[simp] theorem Dev.gwrite_boutHeld (d : Dev) (a : Nat) (bs : List Byte) : (d.gwrite a bs).boutHeld = d.boutHeld := rfl
@[simp] theorem Dev.gwrite_movers (d : Dev) (a : Nat) (bs : List Byte) : (d.gwrite a bs).movers = d.movers := rfl
@[simp] theorem Dev.gwrite_portOwner (d : Dev) (a : Nat) (bs : List Byte) : (d.gwrite a bs).portOwner = d.portOwner := rfl
@[simp] theorem Dev.gwrite_portData (d : Dev) (a : Nat) (bs : List Byte) : (d.gwrite a bs).portData = d.portData := rfl
@[simp] theorem Dev.gwrite_journal (d : Dev) (a : Nat) (bs : List Byte) : (d.gwrite a bs).journal = d.journal := rfl
@[simp] theorem Dev.gwrite_pwr (d : Dev) (a : Nat) (bs : List Byte) : (d.gwrite a bs).pwr = d.pwr := rfl
@[simp] theorem Dev.gwrite_tim (d : Dev) (a : Nat) (bs : List Byte) : (d.gwrite a bs).tim = d.tim := rfl
@[simp] theorem Dev.gwrite_ft (d : Dev) (a : Nat) (bs : List Byte) : (d.gwrite a bs).ft = d.ft := rfl
@[simp] theorem Dev.gwrite_cpx (d : Dev) (a : Nat) (bs : List Byte) : (d.gwrite a bs).cpx = d.cpx := rfl
@[simp] theorem Dev.gwrite_hif (d : Dev) (a : Nat) (bs : List Byte) : (d.gwrite a bs).hif = d.hif := rfl
@[simp] theorem Dev.gwrite_sit (d : Dev) (a : Nat) (bs : List Byte) : (d.gwrite a bs).sit = d.sit := rfl
@[simp] theorem Dev.gwrite_slices (d : Dev) (a : Nat) (bs : List Byte) : (d.gwrite a bs).slices = d.slices := rfl
@[simp] theorem Dev.gwrite_queues (d : Dev) (a : Nat) (bs : List Byte) : (d.gwrite a bs).queues = d.queues := rfl
@[simp] theorem Dev.gwrite_ports (d : Dev) (a : Nat) (bs : List Byte) : (d.gwrite a bs).ports = d.ports := rfl
@[simp] theorem Dev.gwrite_store (d : Dev) (a : Nat) (bs : List Byte) : (d.gwrite a bs).store = d.store := rfl
@[simp] theorem Dev.gwrite_crcBusy (d : Dev) (a : Nat) (bs : List Byte) : (d.gwrite a bs).crcBusy = d.crcBusy := rfl
@[simp] theorem Dev.gwrite_ctxs (d : Dev) (a : Nat) (bs : List Byte) : (d.gwrite a bs).ctxs = d.ctxs := rfl
@[simp] theorem Dev.gwrite_lastIssued (d : Dev) (a : Nat) (bs : List Byte) : (d.gwrite a bs).lastIssued = d.lastIssued := rfl
@[simp] theorem Dev.gwrite_fencedCtx (d : Dev) (a : Nat) (bs : List Byte) : (d.gwrite a bs).fencedCtx = d.fencedCtx := rfl
@[simp] theorem Dev.gwrite_ctxErrors (d : Dev) (a : Nat) (bs : List Byte) : (d.gwrite a bs).ctxErrors = d.ctxErrors := rfl
@[simp] theorem Dev.gwrite_gafStopped (d : Dev) (a : Nat) (bs : List Byte) : (d.gwrite a bs).gafStopped = d.gafStopped := rfl
@[simp] theorem Dev.gwrite_flips (d : Dev) (a : Nat) (bs : List Byte) : (d.gwrite a bs).flips = d.flips := rfl
@[simp] theorem Dev.gwrite_packets (d : Dev) (a : Nat) (bs : List Byte) : (d.gwrite a bs).packets = d.packets := rfl
@[simp] theorem Dev.gwrite_headGen (d : Dev) (a : Nat) (bs : List Byte) : (d.gwrite a bs).headGen = d.headGen := rfl
@[simp] theorem Dev.gwrite_srcSeq (d : Dev) (a : Nat) (bs : List Byte) : (d.gwrite a bs).srcSeq = d.srcSeq := rfl
@[simp] theorem Dev.gwrite_dispatchQ (d : Dev) (a : Nat) (bs : List Byte) : (d.gwrite a bs).dispatchQ = d.dispatchQ := rfl
@[simp] theorem Dev.gwrite_reheatQ (d : Dev) (a : Nat) (bs : List Byte) : (d.gwrite a bs).reheatQ = d.reheatQ := rfl
@[simp] theorem Dev.gwrite_reheatSeen (d : Dev) (a : Nat) (bs : List Byte) : (d.gwrite a bs).reheatSeen = d.reheatSeen := rfl
@[simp] theorem Dev.gwrite_credit (d : Dev) (a : Nat) (bs : List Byte) : (d.gwrite a bs).credit = d.credit := rfl
@[simp] theorem Dev.gwrite_excQ (d : Dev) (a : Nat) (bs : List Byte) : (d.gwrite a bs).excQ = d.excQ := rfl
@[simp] theorem Dev.gwrite_acceptNo (d : Dev) (a : Nat) (bs : List Byte) : (d.gwrite a bs).acceptNo = d.acceptNo := rfl
@[simp] theorem Dev.gwrite_cullet (d : Dev) (a : Nat) (bs : List Byte) : (d.gwrite a bs).cullet = d.cullet := rfl
@[simp] theorem Dev.gwrite_copies (d : Dev) (a : Nat) (bs : List Byte) : (d.gwrite a bs).copies = d.copies := rfl
@[simp] theorem Dev.gwrite_nextCopy (d : Dev) (a : Nat) (bs : List Byte) : (d.gwrite a bs).nextCopy = d.nextCopy := rfl
@[simp] theorem Dev.gwrite_traceQ (d : Dev) (a : Nat) (bs : List Byte) : (d.gwrite a bs).traceQ = d.traceQ := rfl
@[simp] theorem Dev.gwrite_xoffAsked (d : Dev) (a : Nat) (bs : List Byte) : (d.gwrite a bs).xoffAsked = d.xoffAsked := rfl
@[simp] theorem Dev.gwrite_ovfTags (d : Dev) (a : Nat) (bs : List Byte) : (d.gwrite a bs).ovfTags = d.ovfTags := rfl
@[simp] theorem Dev.gwrite_ovfBad (d : Dev) (a : Nat) (bs : List Byte) : (d.gwrite a bs).ovfBad = d.ovfBad := rfl
@[simp] theorem Dev.gwrite_bloom (d : Dev) (a : Nat) (bs : List Byte) : (d.gwrite a bs).bloom = d.bloom := rfl
@[simp] theorem Dev.gwrite_noteQ (d : Dev) (a : Nat) (bs : List Byte) : (d.gwrite a bs).noteQ = d.noteQ := rfl
@[simp] theorem Dev.gwrite_noteSeq (d : Dev) (a : Nat) (bs : List Byte) : (d.gwrite a bs).noteSeq = d.noteSeq := rfl
@[simp] theorem Dev.gwrite_learnQ (d : Dev) (a : Nat) (bs : List Byte) : (d.gwrite a bs).learnQ = d.learnQ := rfl
@[simp] theorem Dev.gwrite_refreshQ (d : Dev) (a : Nat) (bs : List Byte) : (d.gwrite a bs).refreshQ = d.refreshQ := rfl
@[simp] theorem Dev.gwrite_clearQ (d : Dev) (a : Nat) (bs : List Byte) : (d.gwrite a bs).clearQ = d.clearQ := rfl
@[simp] theorem Dev.gwrite_sweep (d : Dev) (a : Nat) (bs : List Byte) : (d.gwrite a bs).sweep = d.sweep := rfl
@[simp] theorem Dev.gwrite_sweepAgain (d : Dev) (a : Nat) (bs : List Byte) : (d.gwrite a bs).sweepAgain = d.sweepAgain := rfl
@[simp] theorem Dev.gwrite_rebuild (d : Dev) (a : Nat) (bs : List Byte) : (d.gwrite a bs).rebuild = d.rebuild := rfl
@[simp] theorem Dev.gwrite_encapId (d : Dev) (a : Nat) (bs : List Byte) : (d.gwrite a bs).encapId = d.encapId := rfl
@[simp] theorem Dev.gwrite_counterQ (d : Dev) (a : Nat) (bs : List Byte) : (d.gwrite a bs).counterQ = d.counterQ := rfl
@[simp] theorem Dev.gwrite_sched (d : Dev) (a : Nat) (bs : List Byte) : (d.gwrite a bs).sched = d.sched := rfl
@[simp] theorem Dev.gwrite_host (d : Dev) (a : Nat) (bs : List Byte) : (d.gwrite a bs).host = d.host := rfl
@[simp] theorem Dev.gwrite_macs (d : Dev) (a : Nat) (bs : List Byte) : (d.gwrite a bs).macs = d.macs := rfl
@[simp] theorem Dev.gwrite_lanes (d : Dev) (a : Nat) (bs : List Byte) : (d.gwrite a bs).lanes = d.lanes := rfl
@[simp] theorem Dev.gwrite_sentQ (d : Dev) (a : Nat) (bs : List Byte) : (d.gwrite a bs).sentQ = d.sentQ := rfl
@[simp] theorem Dev.gwrite_lehr (d : Dev) (a : Nat) (bs : List Byte) : (d.gwrite a bs).lehr = d.lehr := rfl
@[simp] theorem Dev.gwrite_sxp (d : Dev) (a : Nat) (bs : List Byte) : (d.gwrite a bs).sxp = d.sxp := rfl
@[simp] theorem Dev.gwrite_sto (d : Dev) (a : Nat) (bs : List Byte) : (d.gwrite a bs).sto = d.sto := rfl
@[simp] theorem Dev.gwrite_mail (d : Dev) (a : Nat) (bs : List Byte) : (d.gwrite a bs).mail = d.mail := rfl
@[simp] theorem Dev.gwrite_wel (d : Dev) (a : Nat) (bs : List Byte) : (d.gwrite a bs).wel = d.wel := rfl

@[simp] theorem Dev.dwrite_now (d : Dev) (a : Nat) (bs : List Byte) : (d.dwrite a bs).now = d.now := rfl
@[simp] theorem Dev.dwrite_regs (d : Dev) (a : Nat) (bs : List Byte) : (d.dwrite a bs).regs = d.regs := rfl
@[simp] theorem Dev.dwrite_wide (d : Dev) (a : Nat) (bs : List Byte) : (d.dwrite a bs).wide = d.wide := rfl
@[simp] theorem Dev.dwrite_badParity (d : Dev) (a : Nat) (bs : List Byte) : (d.dwrite a bs).badParity = d.badParity := rfl
@[simp] theorem Dev.dwrite_seenParity (d : Dev) (a : Nat) (bs : List Byte) : (d.dwrite a bs).seenParity = d.seenParity := rfl
@[simp] theorem Dev.dwrite_gddr (d : Dev) (a : Nat) (bs : List Byte) : (d.dwrite a bs).gddr = d.gddr := rfl
@[simp] theorem Dev.dwrite_host0 (d : Dev) (a : Nat) (bs : List Byte) : (d.dwrite a bs).host0 = d.host0 := rfl
@[simp] theorem Dev.dwrite_host1 (d : Dev) (a : Nat) (bs : List Byte) : (d.dwrite a bs).host1 = d.host1 := rfl
@[simp] theorem Dev.dwrite_out (d : Dev) (a : Nat) (bs : List Byte) : (d.dwrite a bs).out = d.out := rfl
@[simp] theorem Dev.dwrite_free (d : Dev) (a : Nat) (bs : List Byte) : (d.dwrite a bs).free = d.free := rfl
@[simp] theorem Dev.dwrite_bins (d : Dev) (a : Nat) (bs : List Byte) : (d.dwrite a bs).bins = d.bins := rfl
@[simp] theorem Dev.dwrite_boutHeld (d : Dev) (a : Nat) (bs : List Byte) : (d.dwrite a bs).boutHeld = d.boutHeld := rfl
@[simp] theorem Dev.dwrite_movers (d : Dev) (a : Nat) (bs : List Byte) : (d.dwrite a bs).movers = d.movers := rfl
@[simp] theorem Dev.dwrite_portOwner (d : Dev) (a : Nat) (bs : List Byte) : (d.dwrite a bs).portOwner = d.portOwner := rfl
@[simp] theorem Dev.dwrite_portData (d : Dev) (a : Nat) (bs : List Byte) : (d.dwrite a bs).portData = d.portData := rfl
@[simp] theorem Dev.dwrite_journal (d : Dev) (a : Nat) (bs : List Byte) : (d.dwrite a bs).journal = d.journal := rfl
@[simp] theorem Dev.dwrite_pwr (d : Dev) (a : Nat) (bs : List Byte) : (d.dwrite a bs).pwr = d.pwr := rfl
@[simp] theorem Dev.dwrite_tim (d : Dev) (a : Nat) (bs : List Byte) : (d.dwrite a bs).tim = d.tim := rfl
@[simp] theorem Dev.dwrite_ft (d : Dev) (a : Nat) (bs : List Byte) : (d.dwrite a bs).ft = d.ft := rfl
@[simp] theorem Dev.dwrite_cpx (d : Dev) (a : Nat) (bs : List Byte) : (d.dwrite a bs).cpx = d.cpx := rfl
@[simp] theorem Dev.dwrite_hif (d : Dev) (a : Nat) (bs : List Byte) : (d.dwrite a bs).hif = d.hif := rfl
@[simp] theorem Dev.dwrite_sit (d : Dev) (a : Nat) (bs : List Byte) : (d.dwrite a bs).sit = d.sit := rfl
@[simp] theorem Dev.dwrite_slices (d : Dev) (a : Nat) (bs : List Byte) : (d.dwrite a bs).slices = d.slices := rfl
@[simp] theorem Dev.dwrite_queues (d : Dev) (a : Nat) (bs : List Byte) : (d.dwrite a bs).queues = d.queues := rfl
@[simp] theorem Dev.dwrite_ports (d : Dev) (a : Nat) (bs : List Byte) : (d.dwrite a bs).ports = d.ports := rfl
@[simp] theorem Dev.dwrite_store (d : Dev) (a : Nat) (bs : List Byte) : (d.dwrite a bs).store = d.store := rfl
@[simp] theorem Dev.dwrite_crcBusy (d : Dev) (a : Nat) (bs : List Byte) : (d.dwrite a bs).crcBusy = d.crcBusy := rfl
@[simp] theorem Dev.dwrite_ctxs (d : Dev) (a : Nat) (bs : List Byte) : (d.dwrite a bs).ctxs = d.ctxs := rfl
@[simp] theorem Dev.dwrite_lastIssued (d : Dev) (a : Nat) (bs : List Byte) : (d.dwrite a bs).lastIssued = d.lastIssued := rfl
@[simp] theorem Dev.dwrite_fencedCtx (d : Dev) (a : Nat) (bs : List Byte) : (d.dwrite a bs).fencedCtx = d.fencedCtx := rfl
@[simp] theorem Dev.dwrite_ctxErrors (d : Dev) (a : Nat) (bs : List Byte) : (d.dwrite a bs).ctxErrors = d.ctxErrors := rfl
@[simp] theorem Dev.dwrite_gafStopped (d : Dev) (a : Nat) (bs : List Byte) : (d.dwrite a bs).gafStopped = d.gafStopped := rfl
@[simp] theorem Dev.dwrite_flips (d : Dev) (a : Nat) (bs : List Byte) : (d.dwrite a bs).flips = d.flips := rfl
@[simp] theorem Dev.dwrite_packets (d : Dev) (a : Nat) (bs : List Byte) : (d.dwrite a bs).packets = d.packets := rfl
@[simp] theorem Dev.dwrite_headGen (d : Dev) (a : Nat) (bs : List Byte) : (d.dwrite a bs).headGen = d.headGen := rfl
@[simp] theorem Dev.dwrite_srcSeq (d : Dev) (a : Nat) (bs : List Byte) : (d.dwrite a bs).srcSeq = d.srcSeq := rfl
@[simp] theorem Dev.dwrite_dispatchQ (d : Dev) (a : Nat) (bs : List Byte) : (d.dwrite a bs).dispatchQ = d.dispatchQ := rfl
@[simp] theorem Dev.dwrite_reheatQ (d : Dev) (a : Nat) (bs : List Byte) : (d.dwrite a bs).reheatQ = d.reheatQ := rfl
@[simp] theorem Dev.dwrite_reheatSeen (d : Dev) (a : Nat) (bs : List Byte) : (d.dwrite a bs).reheatSeen = d.reheatSeen := rfl
@[simp] theorem Dev.dwrite_credit (d : Dev) (a : Nat) (bs : List Byte) : (d.dwrite a bs).credit = d.credit := rfl
@[simp] theorem Dev.dwrite_excQ (d : Dev) (a : Nat) (bs : List Byte) : (d.dwrite a bs).excQ = d.excQ := rfl
@[simp] theorem Dev.dwrite_acceptNo (d : Dev) (a : Nat) (bs : List Byte) : (d.dwrite a bs).acceptNo = d.acceptNo := rfl
@[simp] theorem Dev.dwrite_cullet (d : Dev) (a : Nat) (bs : List Byte) : (d.dwrite a bs).cullet = d.cullet := rfl
@[simp] theorem Dev.dwrite_copies (d : Dev) (a : Nat) (bs : List Byte) : (d.dwrite a bs).copies = d.copies := rfl
@[simp] theorem Dev.dwrite_nextCopy (d : Dev) (a : Nat) (bs : List Byte) : (d.dwrite a bs).nextCopy = d.nextCopy := rfl
@[simp] theorem Dev.dwrite_traceQ (d : Dev) (a : Nat) (bs : List Byte) : (d.dwrite a bs).traceQ = d.traceQ := rfl
@[simp] theorem Dev.dwrite_xoffAsked (d : Dev) (a : Nat) (bs : List Byte) : (d.dwrite a bs).xoffAsked = d.xoffAsked := rfl
@[simp] theorem Dev.dwrite_ovfTags (d : Dev) (a : Nat) (bs : List Byte) : (d.dwrite a bs).ovfTags = d.ovfTags := rfl
@[simp] theorem Dev.dwrite_ovfBad (d : Dev) (a : Nat) (bs : List Byte) : (d.dwrite a bs).ovfBad = d.ovfBad := rfl
@[simp] theorem Dev.dwrite_bloom (d : Dev) (a : Nat) (bs : List Byte) : (d.dwrite a bs).bloom = d.bloom := rfl
@[simp] theorem Dev.dwrite_noteQ (d : Dev) (a : Nat) (bs : List Byte) : (d.dwrite a bs).noteQ = d.noteQ := rfl
@[simp] theorem Dev.dwrite_noteSeq (d : Dev) (a : Nat) (bs : List Byte) : (d.dwrite a bs).noteSeq = d.noteSeq := rfl
@[simp] theorem Dev.dwrite_learnQ (d : Dev) (a : Nat) (bs : List Byte) : (d.dwrite a bs).learnQ = d.learnQ := rfl
@[simp] theorem Dev.dwrite_refreshQ (d : Dev) (a : Nat) (bs : List Byte) : (d.dwrite a bs).refreshQ = d.refreshQ := rfl
@[simp] theorem Dev.dwrite_clearQ (d : Dev) (a : Nat) (bs : List Byte) : (d.dwrite a bs).clearQ = d.clearQ := rfl
@[simp] theorem Dev.dwrite_sweep (d : Dev) (a : Nat) (bs : List Byte) : (d.dwrite a bs).sweep = d.sweep := rfl
@[simp] theorem Dev.dwrite_sweepAgain (d : Dev) (a : Nat) (bs : List Byte) : (d.dwrite a bs).sweepAgain = d.sweepAgain := rfl
@[simp] theorem Dev.dwrite_rebuild (d : Dev) (a : Nat) (bs : List Byte) : (d.dwrite a bs).rebuild = d.rebuild := rfl
@[simp] theorem Dev.dwrite_encapId (d : Dev) (a : Nat) (bs : List Byte) : (d.dwrite a bs).encapId = d.encapId := rfl
@[simp] theorem Dev.dwrite_counterQ (d : Dev) (a : Nat) (bs : List Byte) : (d.dwrite a bs).counterQ = d.counterQ := rfl
@[simp] theorem Dev.dwrite_sched (d : Dev) (a : Nat) (bs : List Byte) : (d.dwrite a bs).sched = d.sched := rfl
@[simp] theorem Dev.dwrite_host (d : Dev) (a : Nat) (bs : List Byte) : (d.dwrite a bs).host = d.host := rfl
@[simp] theorem Dev.dwrite_macs (d : Dev) (a : Nat) (bs : List Byte) : (d.dwrite a bs).macs = d.macs := rfl
@[simp] theorem Dev.dwrite_lanes (d : Dev) (a : Nat) (bs : List Byte) : (d.dwrite a bs).lanes = d.lanes := rfl
@[simp] theorem Dev.dwrite_sentQ (d : Dev) (a : Nat) (bs : List Byte) : (d.dwrite a bs).sentQ = d.sentQ := rfl
@[simp] theorem Dev.dwrite_lehr (d : Dev) (a : Nat) (bs : List Byte) : (d.dwrite a bs).lehr = d.lehr := rfl
@[simp] theorem Dev.dwrite_sxp (d : Dev) (a : Nat) (bs : List Byte) : (d.dwrite a bs).sxp = d.sxp := rfl
@[simp] theorem Dev.dwrite_sto (d : Dev) (a : Nat) (bs : List Byte) : (d.dwrite a bs).sto = d.sto := rfl
@[simp] theorem Dev.dwrite_mail (d : Dev) (a : Nat) (bs : List Byte) : (d.dwrite a bs).mail = d.mail := rfl
@[simp] theorem Dev.dwrite_wel (d : Dev) (a : Nat) (bs : List Byte) : (d.dwrite a bs).wel = d.wel := rfl

@[simp] theorem Dev.emit_now (d : Dev) (o : Output) : (d.emit o).now = d.now := rfl
@[simp] theorem Dev.emit_regs (d : Dev) (o : Output) : (d.emit o).regs = d.regs := rfl
@[simp] theorem Dev.emit_wide (d : Dev) (o : Output) : (d.emit o).wide = d.wide := rfl
@[simp] theorem Dev.emit_badParity (d : Dev) (o : Output) : (d.emit o).badParity = d.badParity := rfl
@[simp] theorem Dev.emit_seenParity (d : Dev) (o : Output) : (d.emit o).seenParity = d.seenParity := rfl
@[simp] theorem Dev.emit_gddr (d : Dev) (o : Output) : (d.emit o).gddr = d.gddr := rfl
@[simp] theorem Dev.emit_die (d : Dev) (o : Output) : (d.emit o).die = d.die := rfl
@[simp] theorem Dev.emit_host0 (d : Dev) (o : Output) : (d.emit o).host0 = d.host0 := rfl
@[simp] theorem Dev.emit_host1 (d : Dev) (o : Output) : (d.emit o).host1 = d.host1 := rfl
@[simp] theorem Dev.emit_free (d : Dev) (o : Output) : (d.emit o).free = d.free := rfl
@[simp] theorem Dev.emit_bins (d : Dev) (o : Output) : (d.emit o).bins = d.bins := rfl
@[simp] theorem Dev.emit_boutHeld (d : Dev) (o : Output) : (d.emit o).boutHeld = d.boutHeld := rfl
@[simp] theorem Dev.emit_movers (d : Dev) (o : Output) : (d.emit o).movers = d.movers := rfl
@[simp] theorem Dev.emit_portOwner (d : Dev) (o : Output) : (d.emit o).portOwner = d.portOwner := rfl
@[simp] theorem Dev.emit_portData (d : Dev) (o : Output) : (d.emit o).portData = d.portData := rfl
@[simp] theorem Dev.emit_journal (d : Dev) (o : Output) : (d.emit o).journal = d.journal := rfl
@[simp] theorem Dev.emit_pwr (d : Dev) (o : Output) : (d.emit o).pwr = d.pwr := rfl
@[simp] theorem Dev.emit_tim (d : Dev) (o : Output) : (d.emit o).tim = d.tim := rfl
@[simp] theorem Dev.emit_ft (d : Dev) (o : Output) : (d.emit o).ft = d.ft := rfl
@[simp] theorem Dev.emit_cpx (d : Dev) (o : Output) : (d.emit o).cpx = d.cpx := rfl
@[simp] theorem Dev.emit_hif (d : Dev) (o : Output) : (d.emit o).hif = d.hif := rfl
@[simp] theorem Dev.emit_sit (d : Dev) (o : Output) : (d.emit o).sit = d.sit := rfl
@[simp] theorem Dev.emit_slices (d : Dev) (o : Output) : (d.emit o).slices = d.slices := rfl
@[simp] theorem Dev.emit_queues (d : Dev) (o : Output) : (d.emit o).queues = d.queues := rfl
@[simp] theorem Dev.emit_ports (d : Dev) (o : Output) : (d.emit o).ports = d.ports := rfl
@[simp] theorem Dev.emit_store (d : Dev) (o : Output) : (d.emit o).store = d.store := rfl
@[simp] theorem Dev.emit_crcBusy (d : Dev) (o : Output) : (d.emit o).crcBusy = d.crcBusy := rfl
@[simp] theorem Dev.emit_ctxs (d : Dev) (o : Output) : (d.emit o).ctxs = d.ctxs := rfl
@[simp] theorem Dev.emit_lastIssued (d : Dev) (o : Output) : (d.emit o).lastIssued = d.lastIssued := rfl
@[simp] theorem Dev.emit_fencedCtx (d : Dev) (o : Output) : (d.emit o).fencedCtx = d.fencedCtx := rfl
@[simp] theorem Dev.emit_ctxErrors (d : Dev) (o : Output) : (d.emit o).ctxErrors = d.ctxErrors := rfl
@[simp] theorem Dev.emit_gafStopped (d : Dev) (o : Output) : (d.emit o).gafStopped = d.gafStopped := rfl
@[simp] theorem Dev.emit_flips (d : Dev) (o : Output) : (d.emit o).flips = d.flips := rfl
@[simp] theorem Dev.emit_packets (d : Dev) (o : Output) : (d.emit o).packets = d.packets := rfl
@[simp] theorem Dev.emit_headGen (d : Dev) (o : Output) : (d.emit o).headGen = d.headGen := rfl
@[simp] theorem Dev.emit_srcSeq (d : Dev) (o : Output) : (d.emit o).srcSeq = d.srcSeq := rfl
@[simp] theorem Dev.emit_dispatchQ (d : Dev) (o : Output) : (d.emit o).dispatchQ = d.dispatchQ := rfl
@[simp] theorem Dev.emit_reheatQ (d : Dev) (o : Output) : (d.emit o).reheatQ = d.reheatQ := rfl
@[simp] theorem Dev.emit_reheatSeen (d : Dev) (o : Output) : (d.emit o).reheatSeen = d.reheatSeen := rfl
@[simp] theorem Dev.emit_credit (d : Dev) (o : Output) : (d.emit o).credit = d.credit := rfl
@[simp] theorem Dev.emit_excQ (d : Dev) (o : Output) : (d.emit o).excQ = d.excQ := rfl
@[simp] theorem Dev.emit_acceptNo (d : Dev) (o : Output) : (d.emit o).acceptNo = d.acceptNo := rfl
@[simp] theorem Dev.emit_cullet (d : Dev) (o : Output) : (d.emit o).cullet = d.cullet := rfl
@[simp] theorem Dev.emit_copies (d : Dev) (o : Output) : (d.emit o).copies = d.copies := rfl
@[simp] theorem Dev.emit_nextCopy (d : Dev) (o : Output) : (d.emit o).nextCopy = d.nextCopy := rfl
@[simp] theorem Dev.emit_traceQ (d : Dev) (o : Output) : (d.emit o).traceQ = d.traceQ := rfl
@[simp] theorem Dev.emit_xoffAsked (d : Dev) (o : Output) : (d.emit o).xoffAsked = d.xoffAsked := rfl
@[simp] theorem Dev.emit_ovfTags (d : Dev) (o : Output) : (d.emit o).ovfTags = d.ovfTags := rfl
@[simp] theorem Dev.emit_ovfBad (d : Dev) (o : Output) : (d.emit o).ovfBad = d.ovfBad := rfl
@[simp] theorem Dev.emit_bloom (d : Dev) (o : Output) : (d.emit o).bloom = d.bloom := rfl
@[simp] theorem Dev.emit_noteQ (d : Dev) (o : Output) : (d.emit o).noteQ = d.noteQ := rfl
@[simp] theorem Dev.emit_noteSeq (d : Dev) (o : Output) : (d.emit o).noteSeq = d.noteSeq := rfl
@[simp] theorem Dev.emit_learnQ (d : Dev) (o : Output) : (d.emit o).learnQ = d.learnQ := rfl
@[simp] theorem Dev.emit_refreshQ (d : Dev) (o : Output) : (d.emit o).refreshQ = d.refreshQ := rfl
@[simp] theorem Dev.emit_clearQ (d : Dev) (o : Output) : (d.emit o).clearQ = d.clearQ := rfl
@[simp] theorem Dev.emit_sweep (d : Dev) (o : Output) : (d.emit o).sweep = d.sweep := rfl
@[simp] theorem Dev.emit_sweepAgain (d : Dev) (o : Output) : (d.emit o).sweepAgain = d.sweepAgain := rfl
@[simp] theorem Dev.emit_rebuild (d : Dev) (o : Output) : (d.emit o).rebuild = d.rebuild := rfl
@[simp] theorem Dev.emit_encapId (d : Dev) (o : Output) : (d.emit o).encapId = d.encapId := rfl
@[simp] theorem Dev.emit_counterQ (d : Dev) (o : Output) : (d.emit o).counterQ = d.counterQ := rfl
@[simp] theorem Dev.emit_sched (d : Dev) (o : Output) : (d.emit o).sched = d.sched := rfl
@[simp] theorem Dev.emit_host (d : Dev) (o : Output) : (d.emit o).host = d.host := rfl
@[simp] theorem Dev.emit_macs (d : Dev) (o : Output) : (d.emit o).macs = d.macs := rfl
@[simp] theorem Dev.emit_lanes (d : Dev) (o : Output) : (d.emit o).lanes = d.lanes := rfl
@[simp] theorem Dev.emit_sentQ (d : Dev) (o : Output) : (d.emit o).sentQ = d.sentQ := rfl
@[simp] theorem Dev.emit_lehr (d : Dev) (o : Output) : (d.emit o).lehr = d.lehr := rfl
@[simp] theorem Dev.emit_sxp (d : Dev) (o : Output) : (d.emit o).sxp = d.sxp := rfl
@[simp] theorem Dev.emit_sto (d : Dev) (o : Output) : (d.emit o).sto = d.sto := rfl
@[simp] theorem Dev.emit_mail (d : Dev) (o : Output) : (d.emit o).mail = d.mail := rfl
@[simp] theorem Dev.emit_wel (d : Dev) (o : Output) : (d.emit o).wel = d.wel := rfl

@[simp] theorem Dev.emit_out (d : Dev) (o : Output) : (d.emit o).out = d.out ++ [o] := rfl

end Sys2Proof.Machine
end

