-- ==== Sys2Proof/Laws/Store.lean ====
section
/-!
SUPPORT. Reading after writing: tables held as canonical lists, memories, bit fields and registers; and the canonical form,
which every update keeps.
-/

namespace Sys2Proof.Machine

/-! ## Tables -/

theorem Sparse.get_of_lt {α : Type} [DecidableEq α] {f : Nat → α} : ∀ {m : List (Nat × α)} {lo k : Nat},
    Sparse.wfFrom f lo m = true → k < lo → Sparse.get f m k = f k
  | [], _, _, _, _ => rfl
  | (k', v') :: r, lo, k, w, h => by
    simp only [Sparse.wfFrom, Bool.and_eq_true, decide_eq_true_eq] at w
    simp only [Sparse.get]
    rw [if_neg (by omega)]
    exact Sparse.get_of_lt w.2 (by omega)

/-- What a table in canonical form reads after an update: the new value at the key, the old value elsewhere. -/
theorem Sparse.get_set {α : Type} [DecidableEq α] {f : Nat → α} (k : Nat) (v : α) (j : Nat) : ∀ {m : List (Nat × α)} {lo : Nat},
    Sparse.wfFrom f lo m = true → Sparse.get f (Sparse.set f m k v) j = if j = k then v else Sparse.get f m j
  | [], _, _ => by
    simp only [Sparse.set]
    split
    · rename_i h
      simp only [Sparse.get]
      split
      · rename_i e; rw [e, h]
      · rfl
    · rfl
  | (k', v') :: r, lo, w => by
    simp only [Sparse.wfFrom, Bool.and_eq_true, decide_eq_true_eq] at w
    simp only [Sparse.set]
    split
    · rename_i hlt
      split
      · rename_i hd
        split
        · rename_i e
          subst e
          simp only [Sparse.get]
          rw [if_neg (by omega), Sparse.get_of_lt w.2 (by omega), hd]
        · rfl
      · simp only [Sparse.get]
    · split
      · rename_i hlt he
        subst he
        split
        · rename_i hd
          split
          · rename_i e
            subst e
            rw [Sparse.get_of_lt w.2 (by omega), hd]
          · rename_i e
            simp only [Sparse.get, if_neg e]
        · rename_i hd
          simp only [Sparse.get]
          split <;> rfl
      · rename_i hlt he
        simp only [Sparse.get]
        rw [Sparse.get_set k v j w.2]
        split
        · rename_i e
          rw [if_neg (by omega)]
        · rfl

theorem Sparse.wfFrom_mono {α : Type} [DecidableEq α] {f : Nat → α} {a b : Nat} (h : a ≤ b) : ∀ {m : List (Nat × α)}, Sparse.wfFrom f b m = true → Sparse.wfFrom f a m = true
  | [], _ => rfl
  | (k, v) :: r, w => by
    simp only [Sparse.wfFrom, Bool.and_eq_true, decide_eq_true_eq] at w ⊢
    exact ⟨⟨by omega, w.1.2⟩, w.2⟩

theorem Sparse.wfFrom_filter {α : Type} [DecidableEq α] {f : Nat → α} (p : Nat × α → Bool) : ∀ {m : List (Nat × α)} {a : Nat}, Sparse.wfFrom f a m = true → Sparse.wfFrom f a (m.filter p) = true
  | [], _, _ => rfl
  | (k, v) :: r, a, w => by
    simp only [Sparse.wfFrom, Bool.and_eq_true, decide_eq_true_eq] at w
    have ih := Sparse.wfFrom_filter p w.2
    simp only [List.filter_cons]
    split
    · simp only [Sparse.wfFrom, Bool.and_eq_true, decide_eq_true_eq]
      exact ⟨w.1, ih⟩
    · exact Sparse.wfFrom_mono (by omega) ih

theorem Sparse.wfFrom_set {α : Type} [DecidableEq α] {f : Nat → α} (k : Nat) (v : α) : ∀ {m : List (Nat × α)} {a : Nat}, a ≤ k → Sparse.wfFrom f a m = true → Sparse.wfFrom f a (Sparse.set f m k v) = true
  | [], a, h, _ => by
    simp only [Sparse.set]
    split
    · rfl
    · rename_i hv
      simp [Sparse.wfFrom, h, hv]
  | (k', v') :: r, a, h, w => by
    simp only [Sparse.wfFrom, Bool.and_eq_true, decide_eq_true_eq] at w
    simp only [Sparse.set]
    split
    · split
      · simp [Sparse.wfFrom, w.1.1, w.1.2, w.2]
      · rename_i h1 h2
        simp only [Sparse.wfFrom, Bool.and_eq_true, decide_eq_true_eq]
        exact ⟨⟨h, h2⟩, ⟨by omega, w.1.2⟩, w.2⟩
    · split
      · split
        · exact Sparse.wfFrom_mono (by omega) w.2
        · rename_i h1 h2 h3
          subst h2
          simp only [Sparse.wfFrom, Bool.and_eq_true, decide_eq_true_eq]
          exact ⟨⟨h, h3⟩, w.2⟩
      · simp only [Sparse.wfFrom, Bool.and_eq_true, decide_eq_true_eq]
        exact ⟨w.1, Sparse.wfFrom_set k v (by omega) w.2⟩

theorem Memory.wf_write : ∀ (bs : List Byte) (m : List Host.Cell) (a : Nat), Memory.wf m = true → Memory.wf (Memory.write m a bs) = true
  | [], _, _, h => h
  | b :: bs, m, a, h => Memory.wf_write bs _ (a + 1) (Sparse.wfFrom_set a b (Nat.zero_le _) h)

theorem Memory.wf_filter (p : Host.Cell → Bool) {m : List Host.Cell} (h : Memory.wf m = true) : Memory.wf (m.filter p) = true :=
  Sparse.wfFrom_filter p h

/-! ## Memories -/

theorem Memory.byte_write : ∀ (bs : List Byte) (m : List Host.Cell) (a x : Nat), Memory.wf m = true →
    Memory.byte (Memory.write m a bs) x = if a ≤ x ∧ x < a + bs.length then bs.getD (x - a) 0 else Memory.byte m x
  | [], m, a, x, _ => by
    rw [if_neg (by simp)]
    rfl
  | b :: bs, m, a, x, w => by
    have w1 : Memory.wf (Memory.setByte m a b) = true := Sparse.wfFrom_set a b (Nat.zero_le _) w
    have hg : Memory.byte (Memory.setByte m a b) x = if x = a then b else Memory.byte m x := Sparse.get_set a b x w
    simp only [Memory.write]
    rw [Memory.byte_write bs _ (a + 1) x w1, hg]
    by_cases h1 : x = a
    · subst h1
      rw [if_neg (by omega), if_pos rfl, if_pos (by simp)]
      simp
    · by_cases h2 : a ≤ x ∧ x < a + (b :: bs).length
      · rw [if_pos (by simp only [List.length_cons] at h2; omega), if_pos h2]
        obtain ⟨j, rfl⟩ : ∃ j, x = a + 1 + j := ⟨x - a - 1, by omega⟩
        rw [show a + 1 + j - a = j + 1 by omega, show a + 1 + j - (a + 1) = j by omega]
        rfl
      · rw [if_neg (by simp only [List.length_cons] at h2; omega), if_neg h2, if_neg h1]

theorem Memory.read_length : ∀ (n : Nat) (m : List Host.Cell) (a : Nat), (Memory.read m a n).length = n
  | 0, _, _ => rfl
  | n + 1, m, a => by simp [Memory.read, Memory.read_length n]

/-! ## Bit fields -/

/-- A field read back after it was set holds the low bits of what was written. -/
theorem bits_setBits_same (n lo w v : Nat) : bits (setBits n lo w v) lo w = v % 2 ^ w := by
  unfold bits setBits
  have h1 : n % 2 ^ lo < 2 ^ lo := Nat.mod_lt _ (by positivity)
  rw [show n % 2 ^ lo + v % 2 ^ w * 2 ^ lo + n / 2 ^ (lo + w) * 2 ^ (lo + w)
    = n % 2 ^ lo + 2 ^ lo * (v % 2 ^ w + n / 2 ^ (lo + w) * 2 ^ w) by rw [Nat.pow_add]; ring]
  rw [Nat.add_mul_div_left _ _ (by positivity), Nat.div_eq_of_lt h1, Nat.zero_add, Nat.add_mul_mod_self_right, Nat.mod_mod]

/-- The fields below and above are as they were. -/
theorem bits_setBits_below (n lo w v lo' w' : Nat) (h : lo' + w' ≤ lo) : bits (setBits n lo w v) lo' w' = bits n lo' w' := by
  unfold bits setBits
  obtain ⟨c, rfl⟩ := Nat.exists_eq_add_of_le h
  have e : n % 2 ^ (lo' + w' + c) + v % 2 ^ w * 2 ^ (lo' + w' + c) + n / 2 ^ (lo' + w' + c + w) * 2 ^ (lo' + w' + c + w)
      = n % 2 ^ (lo' + w' + c) + 2 ^ lo' * (2 ^ w' * (2 ^ c * (v % 2 ^ w) + 2 ^ c * 2 ^ w * (n / 2 ^ (lo' + w' + c + w)))) := by
    simp only [Nat.pow_add]; ring
  rw [e, Nat.add_mul_div_left _ _ (by positivity), Nat.add_mul_mod_self_left]
  rw [show 2 ^ (lo' + w' + c) = 2 ^ lo' * (2 ^ w' * 2 ^ c) by simp only [Nat.pow_add]; ring]
  rw [Nat.mod_mul_right_div_self, Nat.mod_mul_right_mod]

theorem bits_setBits_above (n lo w v lo' w' : Nat) (h : lo + w ≤ lo') : bits (setBits n lo w v) lo' w' = bits n lo' w' := by
  unfold bits setBits
  obtain ⟨c, rfl⟩ := Nat.exists_eq_add_of_le h
  have h1 : n % 2 ^ lo + v % 2 ^ w * 2 ^ lo < 2 ^ (lo + w) := by
    have a := Nat.mod_lt n (show 0 < 2 ^ lo by positivity)
    have b := Nat.mod_lt v (show 0 < 2 ^ w by positivity)
    rw [Nat.pow_add]
    calc n % 2 ^ lo + v % 2 ^ w * 2 ^ lo < 2 ^ lo + v % 2 ^ w * 2 ^ lo := by omega
      _ = (v % 2 ^ w + 1) * 2 ^ lo := by ring
      _ ≤ 2 ^ w * 2 ^ lo := Nat.mul_le_mul_right _ b
      _ = 2 ^ lo * 2 ^ w := by ring
  rw [Nat.pow_add 2 (lo + w) c, ← Nat.div_div_eq_div_mul, ← Nat.div_div_eq_div_mul]
  rw [Nat.mul_comm (n / 2 ^ (lo + w)), Nat.add_mul_div_left _ _ (by positivity), Nat.div_eq_of_lt h1, Nat.zero_add]

theorem setBits_lt (n lo w v : Nat) (hn : n < 2 ^ 32) (h : lo + w ≤ 32) : setBits n lo w v < 2 ^ 32 := by
  unfold setBits
  obtain ⟨c, hc⟩ := Nat.exists_eq_add_of_le h
  have h1 : n % 2 ^ lo + v % 2 ^ w * 2 ^ lo < 2 ^ (lo + w) := by
    have a := Nat.mod_lt n (show 0 < 2 ^ lo by positivity)
    have b := Nat.mod_lt v (show 0 < 2 ^ w by positivity)
    rw [Nat.pow_add]
    calc n % 2 ^ lo + v % 2 ^ w * 2 ^ lo < 2 ^ lo + v % 2 ^ w * 2 ^ lo := by omega
      _ = (v % 2 ^ w + 1) * 2 ^ lo := by ring
      _ ≤ 2 ^ w * 2 ^ lo := Nat.mul_le_mul_right _ b
      _ = 2 ^ lo * 2 ^ w := by ring
  have h2 : n / 2 ^ (lo + w) + 1 ≤ 2 ^ c := by
    have : n / 2 ^ (lo + w) < 2 ^ c := by
      rw [Nat.div_lt_iff_lt_mul (by positivity), ← Nat.pow_add, Nat.add_comm c, ← hc]
      exact hn
    omega
  calc n % 2 ^ lo + v % 2 ^ w * 2 ^ lo + n / 2 ^ (lo + w) * 2 ^ (lo + w)
      < 2 ^ (lo + w) + n / 2 ^ (lo + w) * 2 ^ (lo + w) := by omega
    _ = (n / 2 ^ (lo + w) + 1) * 2 ^ (lo + w) := by ring
    _ ≤ 2 ^ c * 2 ^ (lo + w) := Nat.mul_le_mul_right _ h2
    _ = 2 ^ 32 := by rw [← Nat.pow_add, Nat.add_comm c, ← hc]

/-! ## Bits -/

theorem bitAt_eq (n i : Nat) : bitAt n i = n.testBit i := by
  rw [Nat.testBit_eq_decide_div_mod_eq, bitAt]
  rfl

theorem bits_testBit (n lo w j : Nat) : (bits n lo w).testBit j = (decide (j < w) && n.testBit (lo + j)) := by
  rw [bits, Nat.testBit_mod_two_pow, Nat.testBit_div_two_pow, Nat.add_comm lo]

/-- Numbers with no bit in common add without carries. -/
theorem add_eq_or {a b : Nat} (h : a &&& b = 0) : a + b = a ||| b := by
  have hlt : a + b < 2 ^ (a + b) := Nat.lt_two_pow_self
  have ha : a < 2 ^ (a + b) := by omega
  have hb : b < 2 ^ (a + b) := by omega
  have h2 : BitVec.ofNat (a + b) a &&& BitVec.ofNat (a + b) b = 0#(a + b) := by
    apply BitVec.eq_of_toNat_eq
    rw [BitVec.toNat_and, BitVec.toNat_ofNat, BitVec.toNat_ofNat, Nat.mod_eq_of_lt ha, Nat.mod_eq_of_lt hb, h]
    simp
  have h3 := congrArg BitVec.toNat (BitVec.add_eq_or_of_and_eq_zero _ _ h2)
  rw [BitVec.toNat_add, BitVec.toNat_or, BitVec.toNat_ofNat, BitVec.toNat_ofNat, Nat.mod_eq_of_lt ha, Nat.mod_eq_of_lt hb,
    Nat.mod_eq_of_lt hlt] at h3
  exact h3

theorem without_testBit (a b i : Nat) : (without a b).testBit i = (a.testBit i && !b.testBit i) := by
  have h : a &&& b &&& (a ^^^ (a &&& b)) = 0 := by
    apply Nat.eq_of_testBit_eq
    intro j
    simp only [Nat.testBit_and, Nat.testBit_xor, Nat.zero_testBit]
    cases a.testBit j <;> cases b.testBit j <;> rfl
  have h2 := add_eq_or h
  have h3 : a &&& b ||| (a ^^^ (a &&& b)) = a := by
    apply Nat.eq_of_testBit_eq
    intro j
    simp only [Nat.testBit_and, Nat.testBit_xor, Nat.testBit_or]
    cases a.testBit j <;> cases b.testBit j <;> rfl
  rw [h3] at h2
  have h4 : without a b = a ^^^ (a &&& b) := by rw [without]; omega
  rw [h4, Nat.testBit_xor, Nat.testBit_and]
  cases a.testBit i <;> cases b.testBit i <;> rfl

theorem testBit_eq_bits (n i : Nat) : n.testBit i = decide (bits n i 1 = 1) := by
  rw [Nat.testBit_eq_decide_div_mod_eq, bits, Nat.pow_one]

theorem setBits_testBit (n lo w v i : Nat) :
    (setBits n lo w v).testBit i = if lo ≤ i ∧ i < lo + w then v.testBit (i - lo) else n.testBit i := by
  split
  · rename_i h
    have e := congrArg (Nat.testBit · (i - lo)) (bits_setBits_same n lo w v)
    simp only [bits_testBit, Nat.testBit_mod_two_pow, show lo + (i - lo) = i by omega, show i - lo < w by omega, decide_true,
      Bool.true_and] at e
    exact e
  · rw [testBit_eq_bits, testBit_eq_bits]
    by_cases h : i < lo
    · rw [bits_setBits_below _ _ _ _ _ _ (by omega)]
    · rw [bits_setBits_above _ _ _ _ _ _ (by omega)]

/-! ## Registers -/

theorem Dev.rd_wr (d : Dev) (a b : Nat) (v : Word) (w : Sparse.wf resetWord d.regs = true) :
    (d.wr a v).rd b = if b = a then v else d.rd b := Sparse.get_set a v b w

theorem Dev.wr_regsWf (d : Dev) (a : Nat) (v : Word) (w : Sparse.wf resetWord d.regs = true) :
    Sparse.wf resetWord (d.wr a v).regs = true := Sparse.wfFrom_set a v (Nat.zero_le _) w

/-- The word of a register after one of its fields was set. -/
theorem Dev.rd_fset (d : Dev) (p : Nat) (f : Fld) (v a : Nat) (w : Sparse.wf resetWord d.regs = true) (hf : f.lo + f.w ≤ 32) :
    ((d.fset p f v).rd a).toNat = if a = p + f.off then setBits (d.rd (p + f.off)).toNat f.lo f.w v else (d.rd a).toNat := by
  simp only [Dev.fset, Dev.rd_wr _ _ _ _ w]
  split
  · rw [BitVec.toNat_ofNat, Nat.mod_eq_of_lt (setBits_lt _ _ _ _ (BitVec.isLt _) hf)]
  · rfl

theorem Dev.fget_fset (d : Dev) (p : Nat) (f : Fld) (v : Nat) (w : Sparse.wf resetWord d.regs = true) (hf : f.lo + f.w ≤ 32) :
    (d.fset p f v).fget p f = v % 2 ^ f.w := by
  simp only [Dev.fget, Dev.rd_fset d p f v _ w hf, if_true, bits_setBits_same]

/-- Another field, of the same register or of another one, is as it was. -/
theorem Dev.fget_fset_other (d : Dev) (p q : Nat) (f g : Fld) (v : Nat) (w : Sparse.wf resetWord d.regs = true) (hf : f.lo + f.w ≤ 32)
    (h : q + g.off ≠ p + f.off ∨ g.lo + g.w ≤ f.lo ∨ f.lo + f.w ≤ g.lo) : (d.fset p f v).fget q g = d.fget q g := by
  simp only [Dev.fget, Dev.rd_fset d p f v _ w hf]
  split
  · rename_i e
    rw [e]
    rcases h with h | h | h
    · exact absurd e h
    · exact bits_setBits_below _ _ _ _ _ _ h
    · exact bits_setBits_above _ _ _ _ _ _ h
  · rfl

end Sys2Proof.Machine
end

