-- ==== Sys2Proof/Laws/Memory.lean ====
section
/-!
SUPPORT. The canonical form of the four memories, kept by every operation and by every command.
-/

namespace Sys2Proof.Machine

set_option linter.all false


/-- Every part of the device but the four memories. -/
def notMemory : Nat := 2361183241434822606367

theorem Dev.memoryWf_mask (d : Dev) : (d.mask notMemory).memoryWf = d.memoryWf := rfl

theorem Dev.mem_foldl {α : Type} {f : Dev → α → Dev} (h : ∀ d a, (d.mask notMemory).memoryWf = true → ((f d a).mask notMemory).memoryWf = true) :
    ∀ (l : List α) (d : Dev), (d.mask notMemory).memoryWf = true → ((l.foldl f d).mask notMemory).memoryWf = true
  | [], _, w => w
  | a :: l, d, w => Dev.mem_foldl h l (f d a) (h d a w)

theorem Dev.mem_getD {o : Option Dev} {d : Dev} (h : ∀ r, o = some r → (r.mask notMemory).memoryWf = true) (w : (d.mask notMemory).memoryWf = true) :
    ((o.getD d).mask notMemory).memoryWf = true := by
  cases o with
  | none => exact w
  | some r => exact h r rfl
theorem Dev.mem_getD_pair {α : Type} {o : Option (α × Dev)} {x : α} {d : Dev} (h : ∀ r, o = some r → (r.2.mask notMemory).memoryWf = true) (w : (d.mask notMemory).memoryWf = true) :
    ((o.getD (x, d)).2.mask notMemory).memoryWf = true := by
  cases o with
  | none => exact w
  | some r => exact h r rfl

theorem Dev.gwrite_mem (d : Dev) (a : Nat) (bs : List Byte) (h : (d.mask notMemory).memoryWf = true) : ((d.gwrite a bs).mask notMemory).memoryWf = true := by
  rw [Dev.memoryWf_mask] at *
  simp only [Dev.memoryWf, Dev.gwrite, Bool.and_eq_true] at *
  exact ⟨⟨⟨Memory.wf_write _ _ _ h.1.1.1, h.1.1.2⟩, h.1.2⟩, h.2⟩

theorem Dev.gsetNum_mem (d : Dev) (a : ℕ) (n : ℕ) (v : ℕ) (hw : (d.mask notMemory).memoryWf = true) : ((Dev.gsetNum d a n v).mask notMemory).memoryWf = true := by
  unfold Dev.gsetNum
  all_goals (repeat' (first | with_reducible assumption | intro _ | with_reducible apply Dev.gwrite_mem | split | (dsimp only; split)))

theorem Dev.gsetWord_mem (d : Dev) (a : ℕ) (v : ℕ) (hw : (d.mask notMemory).memoryWf = true) : ((Dev.gsetWord d a v).mask notMemory).memoryWf = true := by
  unfold Dev.gsetWord
  all_goals (repeat' (first | with_reducible assumption | intro _ | with_reducible apply Dev.gsetNum_mem | split | (dsimp only; split)))

theorem Dev.sesSet_mem (d : Dev) (s : ℕ) (i : ℕ) (v : ℕ) (hw : (d.mask notMemory).memoryWf = true) : ((Dev.sesSet d s i v).mask notMemory).memoryWf = true := by
  unfold Dev.sesSet
  all_goals (repeat' (first | with_reducible assumption | intro _ | with_reducible apply Dev.gsetWord_mem | split | (dsimp only; split)))

theorem Dev.retransmit_mem (d : Dev) (s : ℕ) (hw : (d.mask notMemory).memoryWf = true) : ((Dev.retransmit d s).mask notMemory).memoryWf = true := by
  unfold Dev.retransmit
  dsimp only
  split
  · exact hw
  · rename_i hm
    rename_i d1
    have hm : Dev.mask notMemory d1 = d.mask notMemory := by
      split at hm
      · exact Dev.sendSegment_mask (by decide) hm
      · split at hm
        · split at hm
          · exact Dev.sendSegment_mask (by decide) hm
          · cases hm
        · exact Dev.sendSegment_mask (by decide) hm
    simp (disch := decide) only [Dev.count_mask]
    apply Dev.sesSet_mem
    rw [Dev.modSes_mask (by decide), hm]
    exact hw

theorem Dev.ackDup_mem (d : Dev) (s : ℕ) (hw : (d.mask notMemory).memoryWf = true) : ((Dev.ackDup d s).mask notMemory).memoryWf = true := by
  unfold Dev.ackDup
  all_goals (repeat' (first | with_reducible assumption | intro _ | (simp (disch := decide) only [Dev.setSes_mask]) | with_reducible apply Dev.retransmit_mem | split | (dsimp only; split)))

theorem Dev.ackNew_mem (d : Dev) (s : ℕ) (acked : ℕ) (ack : ℕ) (hw : (d.mask notMemory).memoryWf = true) : ((Dev.ackNew d s acked ack).mask notMemory).memoryWf = true := by
  unfold Dev.ackNew
  all_goals (repeat' (first | with_reducible assumption | intro _ | (simp (disch := decide) only [Dev.measureRtt_mask, Dev.setSes_mask]) | with_reducible apply Dev.sesSet_mem | with_reducible apply Dev.retransmit_mem | split | (dsimp only; split)))

theorem Dev.withSignal_mem (d : Dev) (m : ℕ) (f : Dev → Dev) (hf : ∀ d, (d.mask notMemory).memoryWf = true → ((f d).mask notMemory).memoryWf = true) (hw : (d.mask notMemory).memoryWf = true) : ((Dev.withSignal d m f).mask notMemory).memoryWf = true := by
  unfold Dev.withSignal
  all_goals (repeat' (first | with_reducible assumption | with_reducible apply hf | intro _ | (simp (disch := decide) only [Dev.emit_mask]) | split | (dsimp only; split)))

theorem Dev.setOutstanding_mem (d : Dev) (s : ℕ) (n : ℕ) (hw : (d.mask notMemory).memoryWf = true) : ((Dev.setOutstanding d s n).mask notMemory).memoryWf = true := by
  unfold Dev.setOutstanding
  all_goals (repeat' (first | with_reducible assumption | intro _ | with_reducible apply Dev.sesSet_mem | split | (dsimp only; split)))

theorem Dev.releaseSlot_mem (d : Dev) (n : ℕ) (hw : (d.mask notMemory).memoryWf = true) : ((Dev.releaseSlot d n).mask notMemory).memoryWf = true := by
  unfold Dev.releaseSlot
  all_goals (repeat' (first | with_reducible assumption | intro _ | (simp (disch := decide) only [Dev.setWire_mask, Dev.modSes_mask]) | with_reducible apply Dev.setOutstanding_mem | split | (dsimp only; split)))

theorem Dev.answerWire_mem (d : Dev) (n : ℕ) (st : ℕ) (hw : (d.mask notMemory).memoryWf = true) : ((Dev.answerWire d n st).mask notMemory).memoryWf = true := by
  unfold Dev.answerWire
  all_goals (repeat' (first | with_reducible assumption | intro _ | (simp (disch := decide) only [Dev.lateMessage_mask, Dev.dropWire_mask, Dev.setWire_mask, Dev.freeHeld_mask, Dev.settleWire_mask, Dev.noteNvme_mask]) | with_reducible apply Dev.releaseSlot_mem | split | (dsimp only; split)))

theorem Dev.gsetWords_mem (d : Dev) (a : ℕ) (ws : List ℕ) (hw : (d.mask notMemory).memoryWf = true) : ((Dev.gsetWords d a ws).mask notMemory).memoryWf = true := by
  unfold Dev.gsetWords
  all_goals (repeat' (first | with_reducible assumption | intro _ | with_reducible apply Dev.gwrite_mem | split | (dsimp only; split)))

theorem Dev.saSet_mem (d : Dev) (s : ℕ) (ws : List ℕ) (hw : (d.mask notMemory).memoryWf = true) : ((Dev.saSet d s ws).mask notMemory).memoryWf = true := by
  unfold Dev.saSet
  all_goals (repeat' (first | with_reducible assumption | intro _ | with_reducible apply Dev.gsetWords_mem | split | (dsimp only; split)))

theorem Dev.rollSa_mem (d : Dev) (s : ℕ) (hw : (d.mask notMemory).memoryWf = true) : ((Dev.rollSa d s).mask notMemory).memoryWf = true := by
  unfold Dev.rollSa
  all_goals (repeat' (first | with_reducible assumption | intro _ | (simp (disch := decide) only [Dev.setSxp_mask]) | with_reducible apply Dev.saSet_mem | split | (dsimp only; split)))

theorem Dev.autoRoll_mem (d : Dev) (s : ℕ) (before : List ℕ) (hw : (d.mask notMemory).memoryWf = true) : ((Dev.autoRoll d s before).mask notMemory).memoryWf = true := by
  unfold Dev.autoRoll
  all_goals (repeat' (first | with_reducible assumption | intro _ | with_reducible apply Dev.rollSa_mem | split | (dsimp only; split)))

theorem Dev.loseSwitched_mem (d : Dev) (keepGddr : Bool) (banks : List Nat) (hw : (d.mask notMemory).memoryWf = true) : ((d.loseSwitched keepGddr banks).mask notMemory).memoryWf = true := by
  rw [Dev.memoryWf_mask] at *
  simp only [Dev.memoryWf, Dev.loseSwitched, Bool.and_eq_true] at *
  refine ⟨⟨⟨?_, Memory.wf_filter _ hw.1.1.2⟩, hw.1.2⟩, hw.2⟩
  split
  · exact hw.1.1.1
  · rfl

theorem Dev.auxLoss_mem (d : Dev) (hw : (d.mask notMemory).memoryWf = true) : ((Dev.auxLoss d).mask notMemory).memoryWf = true := by
  unfold Dev.auxLoss
  all_goals (repeat' (first | with_reducible assumption | intro _ | (simp (disch := decide) only [Dev.mask_badParity, Dev.mask_bins, Dev.mask_boutHeld, Dev.mask_ft, Dev.mask_hif, Dev.mask_pwr, Dev.mask_regs, Dev.mask_seenParity, Dev.mask_tim, Dev.mask_regs_badParity_seenParity_bins_boutHeld_pwr_tim_ft, Dev.mask_badParity_seenParity]) | with_reducible apply Dev.loseSwitched_mem | split | (dsimp only; split)))

theorem Dev.setQState_mem (d : Dev) (q : ℕ) (st : QueueState) (hw : (d.mask notMemory).memoryWf = true) : ((Dev.setQState d q st).mask notMemory).memoryWf = true := by
  unfold Dev.setQState
  all_goals (repeat' (first | with_reducible assumption | intro _ | (simp (disch := decide) only [Dev.setQueue_mask]) | with_reducible apply Dev.gsetWord_mem | split | (dsimp only; split)))

theorem Dev.setQGen_mem (d : Dev) (q : ℕ) (g : ℕ) (hw : (d.mask notMemory).memoryWf = true) : ((Dev.setQGen d q g).mask notMemory).memoryWf = true := by
  unfold Dev.setQGen
  all_goals (repeat' (first | with_reducible assumption | intro _ | (simp (disch := decide) only [Dev.setQueue_mask]) | with_reducible apply Dev.gsetWord_mem | split | (dsimp only; split)))

theorem Dev.freeQueue_mem (d0 : Dev) (q : ℕ) (hw : (d0.mask notMemory).memoryWf = true) : ((Dev.freeQueue d0 q).mask notMemory).memoryWf = true := by
  unfold Dev.freeQueue
  all_goals (repeat' (first | with_reducible assumption | intro _ | (simp (disch := decide) only [Dev.endCopy_mask, Dev.setSlice_mask, Dev.showQueueCount_mask, Dev.setQueue_mask]) | with_reducible apply Dev.gsetWord_mem | split | (dsimp only; split)))

theorem Dev.teardownQueue_mem (d : Dev) (q : ℕ) (hw : (d.mask notMemory).memoryWf = true) : ((Dev.teardownQueue d q).mask notMemory).memoryWf = true := by
  unfold Dev.teardownQueue
  all_goals (repeat' (first | with_reducible assumption | intro _ | (simp (disch := decide) only [Dev.endTeardown_mask]) | with_reducible apply Dev.freeQueue_mem | split | (dsimp only; split)))

theorem Dev.settle_mem (d : Dev) (q : ℕ) (hw : (d.mask notMemory).memoryWf = true) : ((Dev.settle d q).mask notMemory).memoryWf = true := by
  unfold Dev.settle
  all_goals (repeat' (first | with_reducible assumption | intro _ | (simp (disch := decide) only [Dev.setQueue_mask, Dev.pulse_mask]) | with_reducible apply Dev.setQGen_mem | with_reducible apply Dev.teardownQueue_mem | with_reducible apply Dev.setQState_mem | split | (dsimp only; split)))

theorem Dev.beginStop_mem (d : Dev) (q : ℕ) (st : QueueState) (hw : (d.mask notMemory).memoryWf = true) : ((Dev.beginStop d q st).mask notMemory).memoryWf = true := by
  unfold Dev.beginStop
  all_goals (repeat' (first | with_reducible assumption | intro _ | (simp (disch := decide) only [Dev.cancelJobs_mask, Dev.orphanWires_mask, Dev.cutPlacement_mask, Dev.setQueue_mask, Dev.flushEnded_mask]) | with_reducible apply Dev.setQState_mem | with_reducible apply Dev.settle_mem | split | (dsimp only; split)))

theorem Dev.setSesState_mem (d : Dev) (s : ℕ) (st : ℕ) (hw : (d.mask notMemory).memoryWf = true) : ((Dev.setSesState d s st).mask notMemory).memoryWf = true := by
  unfold Dev.setSesState
  all_goals (repeat' (first | with_reducible assumption | intro _ | (simp (disch := decide) only [Dev.fset_mask]) | with_reducible apply Dev.sesSet_mem | split | (dsimp only; split)))

theorem Dev.dropSession_mem (d : Dev) (s : ℕ) (keep : Bool) (fate : Dev → ℕ → ℕ → ℕ × ℕ) (hw : (d.mask notMemory).memoryWf = true) : ((Dev.dropSession d s keep fate).mask notMemory).memoryWf = true := by
  unfold Dev.dropSession
  all_goals (repeat' (first | with_reducible assumption | intro _ | (simp (disch := decide) only [Dev.sendRst_mask, Dev.failStorage_mask, Dev.dropWire_mask, Dev.forgetRecords_mask, Dev.setSes_mask]) | with_reducible apply Dev.setOutstanding_mem | with_reducible apply Dev.mem_foldl | split | (dsimp only; split)))

theorem Dev.resetSessionAs_mem (d : Dev) (s : ℕ) (fate : Dev → ℕ → ℕ → ℕ × ℕ) (hw : (d.mask notMemory).memoryWf = true) : ((Dev.resetSessionAs d s fate).mask notMemory).memoryWf = true := by
  unfold Dev.resetSessionAs
  all_goals (repeat' (first | with_reducible assumption | intro _ | (simp (disch := decide) only [Dev.lateMessage_mask]) | with_reducible apply Dev.setSesState_mem | with_reducible apply Dev.sesSet_mem | with_reducible apply Dev.dropSession_mem | with_reducible apply Dev.mem_foldl | split | (dsimp only; split)))

theorem Dev.stoFault_mem (d : Dev) (check : ℕ) (hw : (d.mask notMemory).memoryWf = true) : ((Dev.stoFault d check).mask notMemory).memoryWf = true := by
  unfold Dev.stoFault
  all_goals (repeat' (first | with_reducible assumption | intro _ | (simp (disch := decide) only [Dev.mask_journal, Dev.journalAdd_mask, Dev.modEntry_mask]) | with_reducible apply Dev.resetSessionAs_mem | with_reducible apply Dev.mem_foldl | split | (dsimp only; split)))

theorem Dev.blockFault_mem (d : Dev) (k : PageKind) (inst : ℕ) (check : ℕ) (hw : (d.mask notMemory).memoryWf = true) : ((Dev.blockFault d k inst check).mask notMemory).memoryWf = true := by
  unfold Dev.blockFault
  all_goals (repeat' (first | with_reducible assumption | intro _ | (simp (disch := decide) only [Dev.dropPipeline_mask, Dev.faultEntries_mask, Dev.aerError_mask, Dev.dropMacs_mask, Dev.journalAdd_mask]) | with_reducible apply Dev.stoFault_mem | split | (dsimp only; split)))

theorem Dev.deviceReset_mem (d : Dev) (req : Requester) (confirm : ℕ) (hw : (d.mask notMemory).memoryWf = true) : ((Dev.deviceReset d req confirm).mask notMemory).memoryWf = true := by
  unfold Dev.deviceReset
  all_goals (repeat' (first | with_reducible assumption | intro _ | (simp (disch := decide) only [Dev.mask_ft, Dev.mask_hif, Dev.mask_wel, Dev.mask_ft_wel, Dev.rstRefused_mask, Dev.captureEntry_mask, Dev.countSat_mask, Dev.fset_mask, Dev.dropMacs_mask, Dev.setPwr_mask, Dev.restoreClock_mask, Dev.showJournal_mask]) | with_reducible apply Dev.loseSwitched_mem | split | (dsimp only; split)))

theorem Dev.haltQueue_mem (d : Dev) (q : ℕ) (hw : (d.mask notMemory).memoryWf = true) : ((Dev.haltQueue d q).mask notMemory).memoryWf = true := by
  unfold Dev.haltQueue
  all_goals (repeat' (first | with_reducible assumption | intro _ | (simp (disch := decide) only [Dev.endCopy_mask, Dev.releaseEntries_mask, Dev.orphanWires_mask, Dev.setQueue_mask, Dev.pulse_mask]) | with_reducible apply Dev.setQState_mem | split | (dsimp only; split)))

theorem Dev.haltQueues_mem (d : Dev) (sel : ℕ → Bool) (hw : (d.mask notMemory).memoryWf = true) : ((Dev.haltQueues d sel).mask notMemory).memoryWf = true := by
  unfold Dev.haltQueues
  all_goals (repeat' (first | with_reducible assumption | intro _ | with_reducible apply Dev.haltQueue_mem | with_reducible apply Dev.mem_foldl | split | (dsimp only; split)))

theorem Dev.dropLink_mem (d : Dev) (n : ℕ) (hw : (d.mask notMemory).memoryWf = true) : ((Dev.dropLink d n).mask notMemory).memoryWf = true := by
  unfold Dev.dropLink
  all_goals (repeat' (first | with_reducible assumption | intro _ | (simp (disch := decide) only [Dev.setHostPort_mask]) | with_reducible apply Dev.haltQueues_mem | split | (dsimp only; split)))

theorem Dev.setTdi_mem (d : Dev) (s : ℕ) (t : TdiState) (raise : Bool) (hw : (d.mask notMemory).memoryWf = true) : ((Dev.setTdi d s t raise).mask notMemory).memoryWf = true := by
  unfold Dev.setTdi
  all_goals (repeat' (first | with_reducible assumption | intro _ | (simp (disch := decide) only [Dev.pulse_mask, Dev.setSlice_mask, Dev.sliceInterrupt_mask]) | with_reducible apply Dev.haltQueues_mem | split | (dsimp only; split)))

theorem Dev.resetPort_mem (d : Dev) (n : ℕ) (hw : (d.mask notMemory).memoryWf = true) : ((Dev.resetPort d n).mask notMemory).memoryWf = true := by
  unfold Dev.resetPort
  all_goals (repeat' (first | with_reducible assumption | intro _ | (simp (disch := decide) only [Dev.setHostPort_mask, Dev.fset_mask, Dev.pulse_mask]) | with_reducible apply Dev.dropLink_mem | with_reducible apply Dev.setTdi_mem | with_reducible apply Dev.mem_foldl | split | (dsimp only; split)))

theorem Dev.portReset_mem (d : Dev) (kind : ℕ) (confirm : ℕ) (hw : (d.mask notMemory).memoryWf = true) : ((Dev.portReset d kind confirm).mask notMemory).memoryWf = true := by
  unfold Dev.portReset
  all_goals (repeat' (first | with_reducible assumption | intro _ | (simp (disch := decide) only [Dev.rstRefused_mask]) | with_reducible apply Dev.resetPort_mem | split | (dsimp only; split)))

theorem Dev.writeRst_mem (d : Dev) (req : Requester) (v : ℕ) (hw : (d.mask notMemory).memoryWf = true) : ((Dev.writeRst d req v).mask notMemory).memoryWf = true := by
  unfold Dev.writeRst
  all_goals (repeat' (first | with_reducible assumption | intro _ | with_reducible apply Dev.deviceReset_mem | with_reducible apply Dev.portReset_mem | split | (dsimp only; split)))

theorem Dev.onWrite_mem (d : Dev) (req : Requester) (addr : ℕ) (f : Dev → Dev) (hf : ∀ d, (d.mask notMemory).memoryWf = true → ((f d).mask notMemory).memoryWf = true) (hw : (d.mask notMemory).memoryWf = true) : ((Dev.onWrite d req addr f).mask notMemory).memoryWf = true := by
  unfold Dev.onWrite
  all_goals (repeat' (first | with_reducible assumption | with_reducible apply hf | intro _ | (simp (disch := decide) only [Dev.accessError_mask, Dev.emit_mask]) | split | (dsimp only; split)))

theorem Dev.svcRequest_mem (d : Dev) (req : Requester) (action : ℕ) (code : ℕ) (inst : ℕ) (f : Dev → ℕ × Dev) (hf : ∀ d, (d.mask notMemory).memoryWf = true → ((f d).2.mask notMemory).memoryWf = true) (hw : (d.mask notMemory).memoryWf = true) : ((Dev.svcRequest d req action code inst f).mask notMemory).memoryWf = true := by
  unfold Dev.svcRequest
  all_goals (repeat' (first | with_reducible assumption | with_reducible apply hf | intro _ | (simp (disch := decide) only [Dev.fset_mask]) | with_reducible apply Dev.onWrite_mem | split | (dsimp only; split)))

theorem Dev.commandQueue_mem (d : Dev) (req : Option Requester) (q : ℕ) (f : Dev → Dev) (hf : ∀ d, (d.mask notMemory).memoryWf = true → ((f d).mask notMemory).memoryWf = true) (hw : (d.mask notMemory).memoryWf = true) : ((Dev.commandQueue d req q f).mask notMemory).memoryWf = true := by
  unfold Dev.commandQueue
  all_goals (repeat' (first | with_reducible assumption | with_reducible apply hf | intro _ | (simp (disch := decide) only [Dev.dropDoorbell_mask, Dev.count_mask, Dev.closedWrite_mask]) | with_reducible apply Dev.onWrite_mem | split | (dsimp only; split)))

theorem Dev.resetQueue_mem (d : Dev) (q : ℕ) (hw : (d.mask notMemory).memoryWf = true) : ((Dev.resetQueue d q).mask notMemory).memoryWf = true := by
  unfold Dev.resetQueue
  all_goals (repeat' (first | with_reducible assumption | intro _ | (simp (disch := decide) only [Dev.setQueue_mask, Dev.ignoreCommand_mask]) | with_reducible apply Dev.beginStop_mem | with_reducible apply Dev.settle_mem | with_reducible apply Dev.setQState_mem | with_reducible apply Dev.setQGen_mem | split | (dsimp only; split)))

theorem Dev.resumeQueue_mem (d : Dev) (q : ℕ) (hw : (d.mask notMemory).memoryWf = true) : ((Dev.resumeQueue d q).mask notMemory).memoryWf = true := by
  unfold Dev.resumeQueue
  all_goals (repeat' (first | with_reducible assumption | intro _ | (simp (disch := decide) only [Dev.ignoreCommand_mask]) | with_reducible apply Dev.setQState_mem | split | (dsimp only; split)))

theorem Dev.startQueue_mem (d : Dev) (q : ℕ) (hw : (d.mask notMemory).memoryWf = true) : ((Dev.startQueue d q).mask notMemory).memoryWf = true := by
  unfold Dev.startQueue
  all_goals (repeat' (first | with_reducible assumption | intro _ | (simp (disch := decide) only [Dev.ignoreCommand_mask]) | with_reducible apply Dev.setQState_mem | split | (dsimp only; split)))

theorem Dev.stopQueue_mem (d : Dev) (q : ℕ) (hw : (d.mask notMemory).memoryWf = true) : ((Dev.stopQueue d q).mask notMemory).memoryWf = true := by
  unfold Dev.stopQueue
  all_goals (repeat' (first | with_reducible assumption | intro _ | (simp (disch := decide) only [Dev.ignoreCommand_mask]) | with_reducible apply Dev.beginStop_mem | split | (dsimp only; split)))

theorem Dev.writeQctl_mem (d : Dev) (req : Requester) (v : ℕ) (m : ℕ) (hw : (d.mask notMemory).memoryWf = true) : ((Dev.writeQctl d req v m).mask notMemory).memoryWf = true := by
  unfold Dev.writeQctl
  all_goals (repeat' (first | with_reducible assumption | intro _ | (simp (disch := decide) only [Dev.recordEnable_mask]) | with_reducible apply Dev.commandQueue_mem | with_reducible apply Dev.resetQueue_mem | with_reducible apply Dev.resumeQueue_mem | with_reducible apply Dev.startQueue_mem | with_reducible apply Dev.stopQueue_mem | split | (dsimp only; split)))

theorem Dev.writeBody_mem (d : Dev) (req : Requester) (addr : ℕ) (k : PageKind) (n : ℕ) (base : ℕ) (off : ℕ) (v : ℕ) (m : ℕ) (hw : (d.mask notMemory).memoryWf = true) : ((Dev.writeBody d req addr k n base off v m).mask notMemory).memoryWf = true := by
  unfold Dev.writeBody
  all_goals (repeat' (first | with_reducible assumption | intro _ | (simp (disch := decide) only [Dev.storeFields_mask, Dev.writePwr_mask, Dev.writeTim_mask, Dev.softwareEvents_mask, Dev.writeRoute_mask, Dev.clearPendWord_mask, Dev.binUnmask_mask, Dev.writeEnd_mask, Dev.journalSelect_mask, Dev.writeSvc_mask, Dev.writePort_mask, Dev.writeSlc_mask, Dev.writeMac_mask, Dev.writePcs_mask, Dev.snapshotAll_mask, Dev.storeWrite_mask, Dev.storeRead_mask, Dev.requestFlip_mask, Dev.clampCredit_mask, Dev.writeClsg_mask, Dev.writeNoteCons_mask, Dev.refillPort_mask, Dev.refillHost_mask, Dev.writeTraceCons_mask, Dev.wr_mask, Dev.writeMover_mask, Dev.failDevice_mask, Dev.cpxReturn_mask]) | with_reducible apply Dev.writeRst_mem | with_reducible apply Dev.writeQctl_mem | split | (dsimp only; split)))

theorem Dev.writeReg_mem (d : Dev) (req : Requester) (addr : ℕ) (k : PageKind) (n : ℕ) (base : ℕ) (off : ℕ) (v : ℕ) (m : ℕ) (hw : (d.mask notMemory).memoryWf = true) : ((Dev.writeReg d req addr k n base off v m).mask notMemory).memoryWf = true := by
  unfold Dev.writeReg
  all_goals (repeat' (first | with_reducible assumption | intro _ | (simp (disch := decide) only [Dev.writeHeader_mask, Dev.accessError_mask, Dev.accessFault_mask]) | with_reducible apply Dev.writeBody_mem | split | (dsimp only; split)))

theorem Dev.forwardWrite_mem (d : Dev) (req : Requester) (addr : ℕ) (p : ℕ) (v : ℕ) (m : ℕ) (hw : (d.mask notMemory).memoryWf = true) : ((Dev.forwardWrite d req addr p v m).mask notMemory).memoryWf = true := by
  unfold Dev.forwardWrite
  all_goals (repeat' (first | with_reducible assumption | intro _ | (simp (disch := decide) only [Dev.accessFault_mask]) | with_reducible apply Dev.writeReg_mem | split | (dsimp only; split)))

theorem Dev.broadcastWrite_mem (d : Dev) (req : Requester) (addr : ℕ) (v : ℕ) (m : ℕ) (hw : (d.mask notMemory).memoryWf = true) : ((Dev.broadcastWrite d req addr v m).mask notMemory).memoryWf = true := by
  unfold Dev.broadcastWrite
  all_goals (repeat' (first | with_reducible assumption | intro _ | (simp (disch := decide) only [Dev.setParity_mask, Dev.wr_mask, Dev.checkMasks_mask]) | with_reducible apply Dev.forwardWrite_mem | with_reducible apply Dev.mem_foldl | split | (dsimp only; split)))

theorem Dev.hwrite_mem (d : Dev) (port a : Nat) (bs : List Byte) (attr : ReqAttr) (hw : (d.mask notMemory).memoryWf = true) : ((d.hwrite port a bs attr).mask notMemory).memoryWf = true := by
  have h : ∀ d : Dev, (d.mask notMemory).memoryWf = true → ((if port = 0 then { d with host0 := Memory.write d.host0 a bs } else { d with host1 := Memory.write d.host1 a bs } : Dev).mask notMemory).memoryWf = true := by
    intro d h
    rw [Dev.memoryWf_mask] at *
    simp only [Dev.memoryWf, Bool.and_eq_true] at h
    split <;> simp only [Dev.memoryWf, Bool.and_eq_true]
    · exact ⟨⟨h.1.1, Memory.wf_write _ _ _ h.1.2⟩, h.2⟩
    · exact ⟨h.1, Memory.wf_write _ _ _ h.2⟩
  unfold Dev.hwrite
  simp (disch := decide) only [Dev.mask_out, Dev.wcount_mask]
  exact h _ (by rw [Dev.translate_mask (by decide)]; exact hw)

theorem Dev.scatterBytes_mem (d : Dev) (q : ℕ) (x2 : List (ℕ × ℕ)) (x3 : List Byte) (hw : (d.mask notMemory).memoryWf = true) : ((Dev.scatterBytes d q x2 x3).mask notMemory).memoryWf = true := by
  induction x2 generalizing d q x3 with
  | nil => unfold Dev.scatterBytes; repeat' (first | with_reducible assumption | intro _ | with_reducible apply Dev.hwrite_mem | split | (dsimp only; split))
  | cons a l ih => unfold Dev.scatterBytes; repeat' (first | with_reducible assumption | with_reducible apply ih | intro _ | with_reducible apply Dev.hwrite_mem | split | (dsimp only; split))

theorem Dev.cipherEnd_mem (d : Dev) (q : ℕ) (idx : ℕ) (qgen : ℕ) (code : ℕ) (stamp : Stamp) (out : List Byte) (hw : (d.mask notMemory).memoryWf = true) : ((Dev.cipherEnd d q idx qgen code stamp out).mask notMemory).memoryWf = true := by
  unfold Dev.cipherEnd
  all_goals (repeat' (first | with_reducible assumption | intro _ | (simp (disch := decide) only [Dev.discardLate_mask, Dev.endWith_mask]) | with_reducible apply Dev.scatterBytes_mem | split | (dsimp only; split)))

theorem Dev.notPresent_mem (d : Dev) (port : ℕ) (pf : ℕ) (t : ReadTarget) (fail : Dev → Dev) (hfail : ∀ d, (d.mask notMemory).memoryWf = true → ((fail d).mask notMemory).memoryWf = true) (hw : (d.mask notMemory).memoryWf = true) : ((Dev.notPresent d port pf t fail).mask notMemory).memoryWf = true := by
  unfold Dev.notPresent
  all_goals (repeat' (first | with_reducible assumption | with_reducible apply hfail | intro _ | (simp (disch := decide) only [Dev.sendPageRequest_mask, Dev.pageFailed_mask]) | split | (dsimp only; split)))

theorem Dev.onAnswer_mem (d : Dev) (port pf : Nat) (t : ReadTarget) (a : HostAnswer) {f : Dev → Dev} {fail : Nat → Dev → Dev}
    (hw : (d.mask notMemory).memoryWf = true)
    (hf : ∀ d, (d.mask notMemory).memoryWf = true → ((f d).mask notMemory).memoryWf = true)
    (hg : ∀ c d, (d.mask notMemory).memoryWf = true → ((fail c d).mask notMemory).memoryWf = true) :
    ((d.onAnswer port pf t a f fail).mask notMemory).memoryWf = true := by
  unfold Dev.onAnswer
  split
  · exact hw
  · split
    · exact hf _ hw
    · exact Dev.notPresent_mem _ _ _ _ _ (hg _) hw
    · rw [Dev.linkError_mask (by decide)]; exact hw
    · exact hg _ _ (by rw [Dev.noteAnswer_mask (by decide)]; exact hw)

theorem Dev.onData_mem (d : Dev) (q : Nat) (x : QueueEntry) (a : HostAnswer) (f : Dev → Dev)
    (hf : ∀ d, (d.mask notMemory).memoryWf = true → ((f d).mask notMemory).memoryWf = true) (hw : (d.mask notMemory).memoryWf = true) :
    ((d.onData q x a f).mask notMemory).memoryWf = true :=
  Dev.onAnswer_mem _ _ _ _ _ hw hf (fun _ _ h => by rw [Dev.endWith_mask (by decide)]; exact h)

theorem Dev.writeSlot_mem (d : Dev) (slot : ℕ) (ws : List ℕ) (hw : (d.mask notMemory).memoryWf = true) : ((Dev.writeSlot d slot ws).mask notMemory).memoryWf = true := by
  unfold Dev.writeSlot
  all_goals (repeat' (first | with_reducible assumption | intro _ | (simp (disch := decide) only [Dev.renewLines_mask]) | with_reducible apply Dev.gwrite_mem | split | (dsimp only; split)))

theorem Dev.clearEntry_mem (d : Dev) (c : Cand) (hw : (d.mask notMemory).memoryWf = true) : ((Dev.clearEntry d c).mask notMemory).memoryWf = true := by
  unfold Dev.clearEntry
  all_goals (repeat' (first | with_reducible assumption | intro _ | (simp (disch := decide) only [Dev.mask_ovfBad, Dev.countPrefix_mask, Dev.ownEntry_mask, Dev.setOvfTag_mask, Dev.setOvfUsed_mask]) | with_reducible apply Dev.writeSlot_mem | split | (dsimp only; split)))

theorem Dev.compareClear_mem (d : Dev) (hw : (d.mask notMemory).memoryWf = true) : ((Dev.compareClear d).mask notMemory).memoryWf = true := by
  unfold Dev.compareClear
  all_goals (repeat' (first | with_reducible assumption | intro _ | (simp (disch := decide) only [Dev.mask_clearQ, Dev.noteHold_mask, Dev.notify_mask, Dev.count_mask, Dev.wcount_mask]) | with_reducible apply Dev.clearEntry_mem | split | (dsimp only; split)))

theorem Dev.zeroiseSlot_mem (d : Dev) (s : ℕ) (hw : (d.mask notMemory).memoryWf = true) : ((Dev.zeroiseSlot d s).mask notMemory).memoryWf = true := by
  unfold Dev.zeroiseSlot
  all_goals (repeat' (first | with_reducible assumption | intro _ | (simp (disch := decide) only [Dev.setLehr_mask, Dev.pulse_mask, Dev.setKeySlot_mask]) | with_reducible apply Dev.gwrite_mem | split | (dsimp only; split)))

theorem Dev.unwrapFailed_mem (d : Dev) (n : ℕ) (j : LehrJob) (hw : (d.mask notMemory).memoryWf = true) : ((Dev.unwrapFailed d n j).mask notMemory).memoryWf = true := by
  unfold Dev.unwrapFailed
  all_goals (repeat' (first | with_reducible assumption | intro _ | (simp (disch := decide) only [Dev.pulse_mask, Dev.latchFault_mask, Dev.countSat_mask, Dev.setJob_mask, Dev.releaseCells_mask]) | with_reducible apply Dev.zeroiseSlot_mem | split | (dsimp only; split)))

theorem Dev.completeUnwrap_mem (d : Dev) (hw : (d.mask notMemory).memoryWf = true) : ((Dev.completeUnwrap d).mask notMemory).memoryWf = true := by
  unfold Dev.completeUnwrap
  all_goals (repeat' (first | with_reducible assumption | intro _ | (simp (disch := decide) only [Dev.nextLane_mask, Dev.setLehr_mask, Dev.cachePut_mask, Dev.setJob_mask]) | with_reducible apply Dev.unwrapFailed_mem | split | (dsimp only; split)))

theorem Dev.failSessionAs_mem (d : Dev) (s : ℕ) (keep : Bool) (code : ℕ) (detail : ℕ) (hw : (d.mask notMemory).memoryWf = true) : ((Dev.failSessionAs d s keep code detail).mask notMemory).memoryWf = true := by
  unfold Dev.failSessionAs
  all_goals (repeat' (first | with_reducible assumption | intro _ | (simp (disch := decide) only [Dev.pulse_mask, Dev.count_mask]) | with_reducible apply Dev.setSesState_mem | with_reducible apply Dev.dropSession_mem | with_reducible apply Dev.sesSet_mem | split | (dsimp only; split)))

theorem Dev.failSession_mem (d : Dev) (s : ℕ) (code : ℕ) (detail : ℕ) (hw : (d.mask notMemory).memoryWf = true) : ((Dev.failSession d s code detail).mask notMemory).memoryWf = true := by
  unfold Dev.failSession
  all_goals (repeat' (first | with_reducible assumption | intro _ | with_reducible apply Dev.failSessionAs_mem | split | (dsimp only; split)))

theorem Dev.connectAnswered_mem (d : Dev) (n : ℕ) (s : ℕ) (st : ℕ) (cntlid : ℕ) (hw : (d.mask notMemory).memoryWf = true) : ((Dev.connectAnswered d n s st cntlid).mask notMemory).memoryWf = true := by
  unfold Dev.connectAnswered
  all_goals (repeat' (first | with_reducible assumption | intro _ | (simp (disch := decide) only [Dev.dropWire_mask, Dev.pulse_mask]) | with_reducible apply Dev.failSession_mem | with_reducible apply Dev.releaseSlot_mem | with_reducible apply Dev.setSesState_mem | with_reducible apply Dev.sesSet_mem | split | (dsimp only; split)))

theorem Dev.counterAdd_mem (d : Dev) (c : ℕ) (n : ℕ) (hw : (d.mask notMemory).memoryWf = true) : ((Dev.counterAdd d c n).mask notMemory).memoryWf = true := by
  unfold Dev.counterAdd
  all_goals (repeat' (first | with_reducible assumption | intro _ | (simp (disch := decide) only [Dev.lineUe_mask]) | with_reducible apply Dev.gsetNum_mem | split | (dsimp only; split)))

theorem Dev.counterStep_mem (d : Dev) (lane : ℕ) (hw : (d.mask notMemory).memoryWf = true) : ((Dev.counterStep d lane).mask notMemory).memoryWf = true := by
  unfold Dev.counterStep
  all_goals (repeat' (first | with_reducible assumption | intro _ | (simp (disch := decide) only [Dev.mask_counterQ]) | with_reducible apply Dev.counterAdd_mem | split | (dsimp only; split)))

theorem Dev.queueError_mem (d : Dev) (q : ℕ) (idx : ℕ) (code : ℕ) (hw : (d.mask notMemory).memoryWf = true) : ((Dev.queueError d q idx code).mask notMemory).memoryWf = true := by
  unfold Dev.queueError
  all_goals (repeat' (first | with_reducible assumption | intro _ | (simp (disch := decide) only [Dev.setQueue_mask, Dev.pulse_mask, Dev.count_mask]) | with_reducible apply Dev.setQState_mem | split | (dsimp only; split)))

theorem Dev.cqDoorbell_mem (d : Dev) (q : ℕ) (value : ℕ) (hw : (d.mask notMemory).memoryWf = true) : ((Dev.cqDoorbell d q value).mask notMemory).memoryWf = true := by
  unfold Dev.cqDoorbell
  all_goals (repeat' (first | with_reducible assumption | intro _ | (simp (disch := decide) only [Dev.setQueue_mask, Dev.dropDoorbell_mask]) | with_reducible apply Dev.queueError_mem | split | (dsimp only; split)))

theorem Dev.putContext_mem (d : Dev) (q : ℕ) (w : List ℕ) (qgen : ℕ) (state : ℕ) (hw : (d.mask notMemory).memoryWf = true) : ((Dev.putContext d q w qgen state).mask notMemory).memoryWf = true := by
  unfold Dev.putContext
  all_goals (repeat' (first | with_reducible assumption | intro _ | (simp (disch := decide) only [Dev.renewLines_mask]) | with_reducible apply Dev.gsetWords_mem | split | (dsimp only; split)))

theorem Dev.createQueue_mem (d : Dev) (welbor : Bool) (q : ℕ) (w : List ℕ) (hw : (d.mask notMemory).memoryWf = true) : ((Dev.createQueue d welbor q w).2.mask notMemory).memoryWf = true := by
  unfold Dev.createQueue
  all_goals (repeat' (first | with_reducible assumption | intro _ | (simp (disch := decide) only [Dev.setQueue_mask, Dev.setSlice_mask, Dev.showQueueCount_mask]) | with_reducible apply Dev.putContext_mem | split | (dsimp only; split)))

theorem Dev.crossingError_mem (d : Dev) (page : ℕ) (sender : ℕ) (good : Bool) (hw : (d.mask notMemory).memoryWf = true) : ((Dev.crossingError d page sender good).mask notMemory).memoryWf = true := by
  unfold Dev.crossingError
  all_goals (repeat' (first | with_reducible assumption | intro _ | (simp (disch := decide) only [Dev.latchFault_mask, Dev.aerCorrectable_mask, Dev.journalAdd_mask, Dev.unitFault_mask]) | with_reducible apply Dev.blockFault_mem | split | (dsimp only; split)))

theorem Dev.failWire_mem (d : Dev) (n : ℕ) (w : WireCmd) (code : ℕ) (detail : ℕ) (hw : (d.mask notMemory).memoryWf = true) : ((Dev.failWire d n w code detail).mask notMemory).memoryWf = true := by
  unfold Dev.failWire
  all_goals (repeat' (first | with_reducible assumption | intro _ | (simp (disch := decide) only [Dev.setWire_mask, Dev.freeHeld_mask, Dev.checkEntry_mask, Dev.noteFailure_mask]) | with_reducible apply Dev.failSession_mem | split | (dsimp only; split)))

theorem Dev.takeSlot_mem {d : Dev} {n : ℕ} {w : WireCmd} {r} (hw : (d.mask notMemory).memoryWf = true) (e : Dev.takeSlot d n w = some r) : (r.mask notMemory).memoryWf = true := by
  unfold Dev.takeSlot at e
  all_goals try dsimp only at e
  all_goals repeat' (split at e)
  all_goals first | (cases e; done) | (cases e; try dsimp only) | skip
  all_goals (repeat' (first | with_reducible assumption | intro _ | (simp (disch := decide) only [Dev.setSes_mask, Dev.setWire_mask]) | with_reducible apply Dev.setOutstanding_mem | split | (dsimp only; split)))

theorem Dev.sendData_mem {d : Dev} {s : ℕ} {len : ℕ} {r} (hw : (d.mask notMemory).memoryWf = true) (e : Dev.sendData d s len = some r) : (r.mask notMemory).memoryWf = true := by
  unfold Dev.sendData at e
  all_goals try dsimp only at e
  all_goals repeat' (split at e)
  all_goals first | (cases e; done) | (cases e; try dsimp only) | (rw [Dev.sendSegment_mask (by decide) e]) | skip
  all_goals (repeat' (first | with_reducible assumption | intro _ | (simp (disch := decide) only [Dev.modSes_mask]) | with_reducible apply Dev.sesSet_mem | (refine (congrArg (fun x : Dev => x.memoryWf = true) (Dev.sendSegment_mask (T := notMemory) (by decide) (by assumption))).mpr ?_) | with_reducible apply Dev.mem_getD | with_reducible apply Dev.mem_getD_pair | split | (dsimp only; split)))

theorem Dev.pump_mem (d : Dev) (s : ℕ) (x2 : ℕ) (hw : (d.mask notMemory).memoryWf = true) : ((Dev.pump d s x2).mask notMemory).memoryWf = true := by
  induction x2 generalizing d s with
  | zero => unfold Dev.pump; repeat' (first | with_reducible assumption | intro _ | (refine Dev.sendData_mem ?_ (by assumption)) | with_reducible apply Dev.sesSet_mem | (refine (congrArg (fun x : Dev => x.memoryWf = true) (Dev.sendSegment_mask (T := notMemory) (by decide) (by assumption))).mpr ?_) | split | (dsimp only; split))
  | succ k ih => unfold Dev.pump; repeat' (first | with_reducible assumption | with_reducible apply ih | intro _ | (refine Dev.sendData_mem ?_ (by assumption)) | with_reducible apply Dev.sesSet_mem | (refine (congrArg (fun x : Dev => x.memoryWf = true) (Dev.sendSegment_mask (T := notMemory) (by decide) (by assumption))).mpr ?_) | split | (dsimp only; split))

theorem Dev.pumpAll_mem (d : Dev) (s : ℕ) (hw : (d.mask notMemory).memoryWf = true) : ((Dev.pumpAll d s).mask notMemory).memoryWf = true := by
  unfold Dev.pumpAll
  all_goals (repeat' (first | with_reducible assumption | intro _ | with_reducible apply Dev.pump_mem | split | (dsimp only; split)))

theorem Dev.tcpSend_mem (d : Dev) (s : ℕ) (bs : List Byte) (hw : (d.mask notMemory).memoryWf = true) : ((Dev.tcpSend d s bs).mask notMemory).memoryWf = true := by
  unfold Dev.tcpSend
  all_goals (repeat' (first | with_reducible assumption | intro _ | (simp (disch := decide) only [Dev.modSes_mask]) | with_reducible apply Dev.pumpAll_mem | split | (dsimp only; split)))

theorem Dev.stoSend_mem (d : Dev) (s : ℕ) (bs : List Byte) (hw : (d.mask notMemory).memoryWf = true) : ((Dev.stoSend d s bs).mask notMemory).memoryWf = true := by
  unfold Dev.stoSend
  all_goals (repeat' (first | with_reducible assumption | intro _ | (simp (disch := decide) only [Dev.tlsSend_mask]) | with_reducible apply Dev.tcpSend_mem | split | (dsimp only; split)))

theorem Dev.sendWire_mem (d : Dev) (n : ℕ) (w : WireCmd) (hw : (d.mask notMemory).memoryWf = true) : ((Dev.sendWire d n w).mask notMemory).memoryWf = true := by
  unfold Dev.sendWire
  all_goals (repeat' (first | with_reducible assumption | intro _ | (simp (disch := decide) only [Dev.count_mask, Dev.setWire_mask, Dev.modEntry_mask]) | (refine Dev.takeSlot_mem ?_ (by assumption)) | with_reducible apply Dev.stoSend_mem | with_reducible apply Dev.mem_getD | with_reducible apply Dev.mem_getD_pair | split | (dsimp only; split)))

theorem Dev.placeRead_mem (d : Dev) (n : ℕ) (off : ℕ) (data : List Byte) (hw : (d.mask notMemory).memoryWf = true) : ((Dev.placeRead d n off data).mask notMemory).memoryWf = true := by
  unfold Dev.placeRead
  all_goals (repeat' (first | with_reducible assumption | intro _ | (simp (disch := decide) only [Dev.wcount_mask, Dev.setWire_mask, Dev.freeRx_mask]) | with_reducible apply Dev.scatterBytes_mem | with_reducible apply Dev.mem_getD | with_reducible apply Dev.mem_getD_pair | split | (dsimp only; split)))

theorem Dev.stoJobEnd_mem (d : Dev) (n : ℕ) (off : ℕ) (code : ℕ) (out : List Byte) (hw : (d.mask notMemory).memoryWf = true) : ((Dev.stoJobEnd d n off code out).mask notMemory).memoryWf = true := by
  unfold Dev.stoJobEnd
  all_goals (repeat' (first | with_reducible assumption | intro _ | (simp (disch := decide) only [Dev.setWire_mask, Dev.settleWire_mask, Dev.stopRead_mask]) | with_reducible apply Dev.failWire_mem | with_reducible apply Dev.sendWire_mem | with_reducible apply Dev.placeRead_mem | split | (dsimp only; split)))

theorem Dev.deliverJob_mem (d : Dev) (j : LehrJob) (code : ℕ) (out : List Byte) (hw : (d.mask notMemory).memoryWf = true) : ((Dev.deliverJob d j code out).mask notMemory).memoryWf = true := by
  unfold Dev.deliverJob
  all_goals (repeat' (first | with_reducible assumption | intro _ | (simp (disch := decide) only [Dev.setSxp_mask]) | with_reducible apply Dev.cipherEnd_mem | with_reducible apply Dev.stoJobEnd_mem | split | (dsimp only; split)))

theorem Dev.destroyQueue_mem (d : Dev) (welbor : Bool) (q : ℕ) (hw : (d.mask notMemory).memoryWf = true) : ((Dev.destroyQueue d welbor q).2.mask notMemory).memoryWf = true := by
  unfold Dev.destroyQueue
  all_goals (repeat' (first | with_reducible assumption | intro _ | with_reducible apply Dev.freeQueue_mem | split | (dsimp only; split)))

theorem Dev.sqDoorbell_mem (d : Dev) (q : ℕ) (value : ℕ) (hw : (d.mask notMemory).memoryWf = true) : ((Dev.sqDoorbell d q value).mask notMemory).memoryWf = true := by
  unfold Dev.sqDoorbell
  all_goals (repeat' (first | with_reducible assumption | intro _ | (simp (disch := decide) only [Dev.setQueue_mask, Dev.dropDoorbell_mask]) | with_reducible apply Dev.queueError_mem | split | (dsimp only; split)))

theorem Dev.doorbellWrite_mem (d : Dev) (port : ℕ) (owner : Option ℕ) (n : ℕ) (w : ℕ) (hw : (d.mask notMemory).memoryWf = true) : ((Dev.doorbellWrite d port owner n w).mask notMemory).memoryWf = true := by
  unfold Dev.doorbellWrite
  all_goals (repeat' (first | with_reducible assumption | intro _ | (simp (disch := decide) only [Dev.dropDoorbell_mask]) | with_reducible apply Dev.sqDoorbell_mem | with_reducible apply Dev.cqDoorbell_mem | with_reducible apply Dev.startQueue_mem | with_reducible apply Dev.stopQueue_mem | with_reducible apply Dev.resetQueue_mem | with_reducible apply Dev.resumeQueue_mem | split | (dsimp only; split)))

theorem Dev.dwrite_mem (d : Dev) (a : Nat) (bs : List Byte) (h : (d.mask notMemory).memoryWf = true) : ((d.dwrite a bs).mask notMemory).memoryWf = true := by
  rw [Dev.memoryWf_mask] at *
  simp only [Dev.memoryWf, Dev.dwrite, Bool.and_eq_true] at *
  exact ⟨⟨⟨h.1.1.1, Memory.wf_write _ _ _ h.1.1.2⟩, h.1.2⟩, h.2⟩

theorem Dev.spaceWrite_mem (d : Dev) (space : ℕ) (a : ℕ) (bs : List Byte) (attr : ReqAttr) (hw : (d.mask notMemory).memoryWf = true) : ((Dev.spaceWrite d space a bs attr).mask notMemory).memoryWf = true := by
  unfold Dev.spaceWrite
  all_goals (repeat' (first | with_reducible assumption | intro _ | (simp (disch := decide) only [Dev.mask_portData]) | with_reducible apply Dev.gwrite_mem | with_reducible apply Dev.dwrite_mem | with_reducible apply Dev.hwrite_mem | split | (dsimp only; split)))

theorem Dev.drainPair_mem (d : Dev) (pair : ℕ) (hw : (d.mask notMemory).memoryWf = true) : ((Dev.drainPair d pair).mask notMemory).memoryWf = true := by
  unfold Dev.drainPair
  all_goals (repeat' (first | with_reducible assumption | intro _ | (simp (disch := decide) only [Dev.setPair_mask]) | with_reducible apply Dev.spaceWrite_mem | with_reducible apply Dev.mem_foldl | split | (dsimp only; split)))

theorem Dev.drainRead_mem (d : Dev) (n : ℕ) (hw : (d.mask notMemory).memoryWf = true) : ((Dev.drainRead d n).mask notMemory).memoryWf = true := by
  unfold Dev.drainRead
  all_goals (repeat' (first | with_reducible assumption | intro _ | (simp (disch := decide) only [Dev.submitJob_mask, Dev.setWire_mask]) | with_reducible apply Dev.placeRead_mem | split | (dsimp only; split)))

theorem Dev.drainSession_mem (d : Dev) (s : ℕ) (hw : (d.mask notMemory).memoryWf = true) : ((Dev.drainSession d s).mask notMemory).memoryWf = true := by
  unfold Dev.drainSession
  all_goals (repeat' (first | with_reducible assumption | intro _ | (simp (disch := decide) only [Dev.setSes_mask]) | with_reducible apply Dev.setSesState_mem | with_reducible apply Dev.pumpAll_mem | split | (dsimp only; split)))

theorem Dev.endCpx_mem (d : Dev) (ims : List BootImage) (hw : (d.mask notMemory).memoryWf = true) : ((Dev.endCpx d ims).mask notMemory).memoryWf = true := by
  unfold Dev.endCpx
  all_goals (repeat' (first | with_reducible assumption | intro _ | (simp (disch := decide) only [Dev.bootFail_mask, Dev.measure_mask, Dev.fset_mask, Dev.setBootStage_mask]) | with_reducible apply Dev.dwrite_mem | with_reducible apply Dev.mem_foldl | with_reducible apply Dev.mem_getD | with_reducible apply Dev.mem_getD_pair | split | (dsimp only; split)))

theorem Dev.endQueue_mem (d : Dev) (q : ℕ) (hw : (d.mask notMemory).memoryWf = true) : ((Dev.endQueue d q).mask notMemory).memoryWf = true := by
  unfold Dev.endQueue
  all_goals (repeat' (first | with_reducible assumption | intro _ | with_reducible apply Dev.teardownQueue_mem | with_reducible apply Dev.resetQueue_mem | with_reducible apply Dev.beginStop_mem | with_reducible apply Dev.settle_mem | with_reducible apply Dev.setQState_mem | split | (dsimp only; split)))

theorem Dev.endStage_mem (d : Dev) (pass : Bool) (ims : List BootImage) (hw : (d.mask notMemory).memoryWf = true) : ((Dev.endStage d pass ims).mask notMemory).memoryWf = true := by
  unfold Dev.endStage
  all_goals (repeat' (first | with_reducible assumption | intro _ | (simp (disch := decide) only [Dev.endRom_mask, Dev.endFirmware_mask]) | with_reducible apply Dev.endCpx_mem | split | (dsimp only; split)))

theorem Dev.sendIcReq_mem (d : Dev) (s : ℕ) (hw : (d.mask notMemory).memoryWf = true) : ((Dev.sendIcReq d s).mask notMemory).memoryWf = true := by
  unfold Dev.sendIcReq
  all_goals (repeat' (first | with_reducible assumption | intro _ | with_reducible apply Dev.stoSend_mem | with_reducible apply Dev.setSesState_mem | split | (dsimp only; split)))

theorem Dev.establish_mem (d : Dev) (s : ℕ) (g : Segmented) (hw : (d.mask notMemory).memoryWf = true) : ((Dev.establish d s g).mask notMemory).memoryWf = true := by
  unfold Dev.establish
  all_goals (repeat' (first | with_reducible assumption | intro _ | (simp (disch := decide) only [Dev.measureRtt_mask, Dev.modSes_mask, Dev.sendAck_mask]) | with_reducible apply Dev.sesSet_mem | with_reducible apply Dev.setSesState_mem | with_reducible apply Dev.sendIcReq_mem | split | (dsimp only; split)))

theorem Dev.inSession_mem (d : Dev) (n : ℕ) (f : Dev → SpdmSession → Dev) (hf : ∀ d a0, (d.mask notMemory).memoryWf = true → ((f d a0).mask notMemory).memoryWf = true) (hw : (d.mask notMemory).memoryWf = true) : ((Dev.inSession d n f).mask notMemory).memoryWf = true := by
  unfold Dev.inSession
  all_goals (repeat' (first | with_reducible assumption | with_reducible apply hf | intro _ | split | (dsimp only; split)))

theorem Dev.established_mem (d : Dev) (n : ℕ) (f : Dev → SpdmSession → Dev) (hf : ∀ d a0, (d.mask notMemory).memoryWf = true → ((f d a0).mask notMemory).memoryWf = true) (hw : (d.mask notMemory).memoryWf = true) : ((Dev.established d n f).mask notMemory).memoryWf = true := by
  unfold Dev.established
  all_goals (repeat' (first | with_reducible assumption | with_reducible apply hf | intro _ | (simp (disch := decide) only [Dev.spdmError_mask]) | with_reducible apply Dev.inSession_mem | split | (dsimp only; split)))

theorem Dev.putEntry_mem (d : Dev) (t : ℕ) (image : List ℕ) (learned : Bool) (slot : ℕ) (hw : (d.mask notMemory).memoryWf = true) : ((Dev.putEntry d t image learned slot).mask notMemory).memoryWf = true := by
  unfold Dev.putEntry
  all_goals (repeat' (first | with_reducible assumption | intro _ | (simp (disch := decide) only [Dev.countPrefix_mask, Dev.ownEntry_mask, Dev.bloomSet_mask]) | with_reducible apply Dev.writeSlot_mem | split | (dsimp only; split)))

theorem Dev.moveAll_mem (d : Dev) (f : ℕ) (x2 : List (ℕ × List ℕ)) (hw : (d.mask notMemory).memoryWf = true) : ((Dev.moveAll d f x2).2.mask notMemory).memoryWf = true := by
  induction x2 generalizing d f with
  | nil => unfold Dev.moveAll; repeat' (first | with_reducible assumption | intro _ | with_reducible apply Dev.writeSlot_mem | split | (dsimp only; split))
  | cons a l ih => unfold Dev.moveAll; repeat' (first | with_reducible assumption | with_reducible apply ih | intro _ | with_reducible apply Dev.writeSlot_mem | split | (dsimp only; split))

theorem Dev.relocate_mem (d : Dev) (v : ℕ) (x2 : ℕ) (x3 : ℕ) (x4 : List (ℕ × List ℕ)) (hw : (d.mask notMemory).memoryWf = true) : ((Dev.relocate d v x2 x3 x4).2.mask notMemory).memoryWf = true := by
  induction x2 generalizing d v x3 x4 with
  | zero => unfold Dev.relocate; repeat' (first | with_reducible assumption | intro _ | (simp (disch := decide) only [Dev.fresh_mask, Dev.pulse_mask]) | with_reducible apply Dev.moveAll_mem | split | (dsimp only; split))
  | succ k ih => unfold Dev.relocate; repeat' (first | with_reducible assumption | with_reducible apply ih | intro _ | (simp (disch := decide) only [Dev.fresh_mask, Dev.pulse_mask]) | with_reducible apply Dev.moveAll_mem | split | (dsimp only; split))

theorem Dev.insertNew_mem (d : Dev) (t : ℕ) (image : List ℕ) (k : List Byte) (noevict : Bool) (learned : Bool) (hw : (d.mask notMemory).memoryWf = true) : ((Dev.insertNew d t image k noevict learned).2.mask notMemory).memoryWf = true := by
  unfold Dev.insertNew
  all_goals (repeat' (first | with_reducible assumption | intro _ | (simp (disch := decide) only [Dev.fresh_mask, Dev.markTouched_mask, Dev.setOvfTag_mask, Dev.setOvfUsed_mask, Dev.noteHold_mask, Dev.victim_mask, Dev.pulse_mask, Dev.count_mask, Dev.notify_mask, Dev.countPrefix_mask, Dev.ownEntry_mask]) | with_reducible apply Dev.putEntry_mem | with_reducible apply Dev.relocate_mem | split | (dsimp only; split)))

theorem Dev.executeLearn_mem (d : Dev) (hw : (d.mask notMemory).memoryWf = true) : ((Dev.executeLearn d).mask notMemory).memoryWf = true := by
  unfold Dev.executeLearn
  all_goals (repeat' (first | with_reducible assumption | intro _ | (simp (disch := decide) only [Dev.mask_learnQ, Dev.fset_mask, Dev.dropLearn_mask, Dev.findKey_mask, Dev.count_mask, Dev.askRefresh_mask, Dev.noteHold_mask, Dev.notify_mask]) | with_reducible apply Dev.writeSlot_mem | with_reducible apply Dev.insertNew_mem | split | (dsimp only; split)))

theorem Dev.failRead_mem (d : Dev) (t : ReadTarget) (fetchCode : ℕ) (endCode : ℕ) (hw : (d.mask notMemory).memoryWf = true) : ((Dev.failRead d t fetchCode endCode).mask notMemory).memoryWf = true := by
  unfold Dev.failRead
  all_goals (repeat' (first | with_reducible assumption | intro _ | (simp (disch := decide) only [Dev.endWith_mask]) | with_reducible apply Dev.queueError_mem | split | (dsimp only; split)))

theorem Dev.failTarget_mem (d : Dev) (t : ReadTarget) (fetchCode : ℕ) (endCode : ℕ) (moverCode : ℕ) (hw : (d.mask notMemory).memoryWf = true) : ((Dev.failTarget d t fetchCode endCode moverCode).mask notMemory).memoryWf = true := by
  unfold Dev.failTarget
  all_goals (repeat' (first | with_reducible assumption | intro _ | (simp (disch := decide) only [Dev.moverFail_mask]) | with_reducible apply Dev.failWire_mem | with_reducible apply Dev.failRead_mem | split | (dsimp only; split)))

theorem Dev.takeEntry_mem (d : Dev) (q : ℕ) (img : List Byte) (desc : List Byte) (hw : (d.mask notMemory).memoryWf = true) : ((Dev.takeEntry d q img desc).mask notMemory).memoryWf = true := by
  unfold Dev.takeEntry
  all_goals (repeat' (first | with_reducible assumption | intro _ | (simp (disch := decide) only [Dev.setQueue_mask, Dev.holdSlice_mask, Dev.wcount_mask]) | with_reducible apply Dev.queueError_mem | split | (dsimp only; split)))

theorem Dev.fetchEntry_mem (d : Dev) (q : ℕ) (answer : HostAnswer) (hw : (d.mask notMemory).memoryWf = true) : ((Dev.fetchEntry d q answer).mask notMemory).memoryWf = true := by
  unfold Dev.fetchEntry
  all_goals (repeat' (first | with_reducible assumption | intro _ | (simp (disch := decide) only [Dev.latchFault_mask, Dev.hostFetch_mask, Dev.fetchDesc_mask, Dev.noteTimeout_mask, Dev.notePoison_mask, Dev.linkError_mask]) | with_reducible apply Dev.queueError_mem | with_reducible apply Dev.takeEntry_mem | with_reducible apply Dev.notPresent_mem | split | (dsimp only; split)))

theorem Dev.holdData_mem (d : Dev) (n : ℕ) (w : WireCmd) (data : List Byte) (hw : (d.mask notMemory).memoryWf = true) : ((Dev.holdData d n w data).mask notMemory).memoryWf = true := by
  unfold Dev.holdData
  all_goals (repeat' (first | with_reducible assumption | intro _ | (simp (disch := decide) only [Dev.submitJob_mask, Dev.setWire_mask]) | with_reducible apply Dev.sendWire_mem | split | (dsimp only; split)))

theorem Dev.fetchWire_mem (d : Dev) (n : Nat) (w : WireCmd) (a : HostAnswer) (hw : (d.mask notMemory).memoryWf = true) :
    ((d.fetchWire n w a).mask notMemory).memoryWf = true := by
  unfold Dev.fetchWire
  split
  · exact hw
  · refine Dev.onAnswer_mem _ _ _ _ _ hw ?_ ?_
    · intro d hw
      dsimp only
      split
      · exact hw
      · rename_i hm
        have hm := Dev.takeHeld_mask (T := notMemory) (by decide) hm
        refine Dev.holdData_mem _ _ _ _ ?_
        rw [Dev.readWire_mask (by decide), hm]
        exact hw
    · intro c d hw
      exact Dev.failWire_mem _ _ _ _ _ hw

theorem Dev.sleep_mem (d : Dev) (keepGddr : Bool) (hw : (d.mask notMemory).memoryWf = true) : ((Dev.sleep d keepGddr).mask notMemory).memoryWf = true := by
  unfold Dev.sleep
  all_goals (repeat' (first | with_reducible assumption | intro _ | (simp (disch := decide) only [Dev.setDevices_mask, Dev.latchPads_mask, Dev.holdBouts_mask, Dev.dropMacs_mask, Dev.setPwr_mask]) | with_reducible apply Dev.drainPair_mem | with_reducible apply Dev.loseSwitched_mem | with_reducible apply Dev.mem_foldl | split | (dsimp only; split)))

theorem Dev.finishEntry_mem (d : Dev) (hw : (d.mask notMemory).memoryWf = true) : ((Dev.finishEntry d).mask notMemory).memoryWf = true := by
  unfold Dev.finishEntry
  all_goals (repeat' (first | with_reducible assumption | intro _ | (simp (disch := decide) only [Dev.replayWake_mask, Dev.pulse_mask]) | with_reducible apply Dev.sleep_mem | split | (dsimp only; split)))

theorem Dev.fwServe_mem (d : Dev) (c : ℕ) (opcode : ℕ) (f : Dev → Message → ℕ × Dev) (hf : ∀ d a0, (d.mask notMemory).memoryWf = true → ((f d a0).2.mask notMemory).memoryWf = true) (hw : (d.mask notMemory).memoryWf = true) : ((Dev.fwServe d c opcode f).mask notMemory).memoryWf = true := by
  unfold Dev.fwServe
  all_goals (repeat' (first | with_reducible assumption | with_reducible apply hf | intro _ | (simp (disch := decide) only [Dev.mailPop_mask, Dev.fwAnswer_mask]) | split | (dsimp only; split)))

theorem Dev.slcIssue_mem (d : Dev) (op : ℕ) (s : ℕ) (img : List Word) (f : Dev → ℕ × Dev) (hf : ∀ d, (d.mask notMemory).memoryWf = true → ((f d).2.mask notMemory).memoryWf = true) (hw : (d.mask notMemory).memoryWf = true) : ((Dev.slcIssue d op s img f).2.mask notMemory).memoryWf = true := by
  unfold Dev.slcIssue
  all_goals (repeat' (first | with_reducible assumption | with_reducible apply hf | intro _ | (simp (disch := decide) only [Dev.wr_mask, Dev.fset_mask, Dev.charterChanged_mask, Dev.portEnd_mask]) | with_reducible apply Dev.mem_foldl | with_reducible apply Dev.mem_getD | with_reducible apply Dev.mem_getD_pair | split | (dsimp only; split)))

theorem Dev.fwCharter_mem (d : Dev) (c : ℕ) (opcode : ℕ) (op : ℕ) (f : Dev → ℕ → List ℕ → ℕ × Dev) (hf : ∀ d a0 a1, (d.mask notMemory).memoryWf = true → ((f d a0 a1).2.mask notMemory).memoryWf = true) (hw : (d.mask notMemory).memoryWf = true) : ((Dev.fwCharter d c opcode op f).mask notMemory).memoryWf = true := by
  unfold Dev.fwCharter
  all_goals (repeat' (first | with_reducible assumption | with_reducible apply hf | intro _ | (simp (disch := decide) only [Dev.hostFetch_mask, Dev.deriveCharter_mask]) | with_reducible apply Dev.fwServe_mem | with_reducible apply Dev.slcIssue_mem | split | (dsimp only; split)))

theorem Dev.sliceDestroy_mem (d : Dev) (s : ℕ) (hw : (d.mask notMemory).memoryWf = true) : ((Dev.sliceDestroy d s).2.mask notMemory).memoryWf = true := by
  unfold Dev.sliceDestroy
  all_goals (repeat' (first | with_reducible assumption | intro _ | (simp (disch := decide) only [Dev.dropPasid_mask, Dev.setSlice_mask, Dev.showSlices_mask, Dev.pulse_mask, Dev.emptyChannel_mask, Dev.clearSit_mask, Dev.retireKeys_mask, Dev.endTeardown_mask]) | with_reducible apply Dev.setTdi_mem | with_reducible apply Dev.endQueue_mem | with_reducible apply Dev.mem_foldl | split | (dsimp only; split)))

theorem Dev.fwDestroy_mem (d : Dev) (c : ℕ) (hw : (d.mask notMemory).memoryWf = true) : ((Dev.fwDestroy d c).mask notMemory).memoryWf = true := by
  unfold Dev.fwDestroy
  all_goals (repeat' (first | with_reducible assumption | intro _ | with_reducible apply Dev.fwServe_mem | with_reducible apply Dev.slcIssue_mem | with_reducible apply Dev.sliceDestroy_mem | split | (dsimp only; split)))

theorem Dev.moveBurst_mem (d : Dev) (m : ℕ) (o : ℕ) (n : ℕ) (left : ℕ) (hw : (d.mask notMemory).memoryWf = true) : ((Dev.moveBurst d m o n left).mask notMemory).memoryWf = true := by
  unfold Dev.moveBurst
  all_goals (repeat' (first | with_reducible assumption | intro _ | (simp (disch := decide) only [Dev.hostFetch_mask, Dev.setMoverState_mask, Dev.fset_mask, Dev.wcount_mask, Dev.releasePorts_mask, Dev.count_mask, Dev.setMover_mask]) | with_reducible apply Dev.spaceWrite_mem | split | (dsimp only; split)))

theorem Dev.issueBurst_mem (d : Dev) (m : Nat) (portReady : Bool) (answer : HostAnswer) (hw : (d.mask notMemory).memoryWf = true) :
    ((d.issueBurst m portReady answer).mask notMemory).memoryWf = true := by
  unfold Dev.issueBurst
  dsimp only
  split
  · exact hw
  · split
    · rw [Dev.setMoverState_mask (by decide)]; exact hw
    · split
      · rw [Dev.moverFail_mask (by decide)]
        split
        · rw [Dev.confRefused_mask (by decide)]; exact hw
        · exact hw
      · split
        · exact Dev.moveBurst_mem _ _ _ _ _ hw
        · exact Dev.onAnswer_mem _ _ _ _ _ hw (fun d h => Dev.moveBurst_mem _ _ _ _ _ h)
            (fun c d h => by rw [Dev.moverFail_mask (by decide)]; exact h)

theorem Dev.runBursts_mem (d : Dev) (mv : ℕ) (answer : HostAnswer) (x3 : ℕ) (hw : (d.mask notMemory).memoryWf = true) : ((Dev.runBursts d mv answer x3).mask notMemory).memoryWf = true := by
  induction x3 generalizing d mv answer with
  | zero => unfold Dev.runBursts; repeat' (first | with_reducible assumption | intro _ | with_reducible apply Dev.issueBurst_mem | split | (dsimp only; split))
  | succ k ih => unfold Dev.runBursts; repeat' (first | with_reducible assumption | with_reducible apply ih | intro _ | with_reducible apply Dev.issueBurst_mem | split | (dsimp only; split))

theorem Dev.runMove_mem (d : Dev) (mv : ℕ) (answer : HostAnswer) (hw : (d.mask notMemory).memoryWf = true) : ((Dev.runMove d mv answer).2.mask notMemory).memoryWf = true := by
  unfold Dev.runMove
  all_goals (repeat' (first | with_reducible assumption | intro _ | (simp (disch := decide) only [Dev.setMover_mask, Dev.endDescriptor_mask]) | with_reducible apply Dev.runBursts_mem | split | (dsimp only; split)))

theorem Dev.fwMove_mem (d : Dev) (c : ℕ) (mv : ℕ) (answer : HostAnswer) (hw : (d.mask notMemory).memoryWf = true) : ((Dev.fwMove d c mv answer).mask notMemory).memoryWf = true := by
  unfold Dev.fwMove
  all_goals (repeat' (first | with_reducible assumption | intro _ | (simp (disch := decide) only [Dev.beginMove_mask]) | with_reducible apply Dev.runMove_mem | with_reducible apply Dev.fwServe_mem | split | (dsimp only; split)))

theorem Dev.fwReady_mem (d : Dev) (result : ℕ) (failed : List ℕ) (hw : (d.mask notMemory).memoryWf = true) : ((Dev.fwReady d result failed).mask notMemory).memoryWf = true := by
  unfold Dev.fwReady
  split
  · exact hw
  · extract_lets d1 d2 d3 st d4 pw d5 m d6
    have h1 : (d1.mask notMemory).memoryWf = true :=
      Dev.mem_foldl (fun d a h => by rw [Dev.failDevice_mask (by decide)]; exact h) _ _ hw
    have h2 : (d2.mask notMemory).memoryWf = true :=
      Dev.mem_foldl (fun d a h => by rw [Dev.wset_mask (by decide)]; exact h) _ _ h1
    have h3 : (d3.mask notMemory).memoryWf = true := by
      simp only [d3]
      rw [Dev.fsetP_mask (by decide), Dev.fsetP_mask (by decide), Dev.setDeepCrucible_mask (by decide)]
      exact h2
    have h4 : (d4.mask notMemory).memoryWf = true := by
      rw [Dev.memoryWf_mask] at h3 ⊢
      simp only [Dev.memoryWf, Bool.and_eq_true] at h3
      simp only [Dev.memoryWf, d4, Bool.and_eq_true]
      exact ⟨⟨⟨Memory.wf_filter _ h3.1.1.1, h3.1.1.2⟩, h3.1.2⟩, h3.2⟩
    have h5 : (d5.mask notMemory).memoryWf = true :=
      Dev.mem_foldl (fun d a h => by rw [Dev.enablePage_mask (by decide)]; exact h) _ _ (by rw [Dev.setPwr_mask (by decide)]; exact h4)
    have h6 : (d6.mask notMemory).memoryWf = true := by
      simp only [d6]
      rw [Dev.mailPush_mask (by decide)]; exact h5
    clear_value d6
    split
    · rw [Dev.mailPush_mask (by decide)]; exact h6
    · exact h6

theorem Dev.groupResponse_mem (d : Dev) (n : ℕ) (group : ℕ) (success : Bool) (hw : (d.mask notMemory).memoryWf = true) : ((Dev.groupResponse d n group success).mask notMemory).memoryWf = true := by
  unfold Dev.groupResponse
  all_goals (repeat' (first | with_reducible assumption | intro _ | (simp (disch := decide) only [Dev.pageFailed_mask]) | with_reducible apply Dev.failTarget_mem | (refine (congrArg (fun x : Dev => x.memoryWf = true) (Dev.takeGroup_mask (T := notMemory) (by decide) (by assumption))).mpr ?_) | split | (dsimp only; split)))

theorem Dev.groupTimeout_mem (d : Dev) (n : ℕ) (group : ℕ) (hw : (d.mask notMemory).memoryWf = true) : ((Dev.groupTimeout d n group).mask notMemory).memoryWf = true := by
  unfold Dev.groupTimeout
  all_goals (repeat' (first | with_reducible assumption | intro _ | (simp (disch := decide) only [Dev.pageFailed_mask]) | with_reducible apply Dev.failTarget_mem | (refine (congrArg (fun x : Dev => x.memoryWf = true) (Dev.takeGroup_mask (T := notMemory) (by decide) (by assumption))).mpr ?_) | split | (dsimp only; split)))

theorem Dev.handshakeSend_mem (d : Dev) (s : ℕ) (bs : List Byte) (hw : (d.mask notMemory).memoryWf = true) : ((Dev.handshakeSend d s bs).mask notMemory).memoryWf = true := by
  unfold Dev.handshakeSend
  all_goals (repeat' (first | with_reducible assumption | intro _ | (simp (disch := decide) only [Dev.tlsSend_mask]) | with_reducible apply Dev.tcpSend_mem | split | (dsimp only; split)))

theorem Dev.headerFailed_mem (d : Dev) (s : ℕ) (p : List Byte) (hw : (d.mask notMemory).memoryWf = true) : ((Dev.headerFailed d s p).mask notMemory).memoryWf = true := by
  unfold Dev.headerFailed
  all_goals (repeat' (first | with_reducible assumption | intro _ | (simp (disch := decide) only [Dev.pulse_mask, Dev.count_mask, Dev.tlsSubmit_mask]) | with_reducible apply Dev.failSessionAs_mem | with_reducible apply Dev.failSession_mem | with_reducible apply Dev.tcpSend_mem | split | (dsimp only; split)))

theorem Dev.placeInto_mem (d : Dev) (q : ℕ) (x2 : ℕ) (x3 : Placement) (hw : (d.mask notMemory).memoryWf = true) : ((Dev.placeInto d q x2 x3).mask notMemory).memoryWf = true := by
  induction x2 generalizing d q x3 with
  | zero => unfold Dev.placeInto; repeat' (first | with_reducible assumption | intro _ | (simp (disch := decide) only [Dev.endEntry_mask, Dev.setQueue_mask, Dev.finishFrame_mask, Dev.modEntry_mask, Dev.holdFrame_mask]) | with_reducible apply Dev.scatterBytes_mem | with_reducible apply Dev.mem_getD | with_reducible apply Dev.mem_getD_pair | split | (dsimp only; split))
  | succ k ih => unfold Dev.placeInto; repeat' (first | with_reducible assumption | with_reducible apply ih | intro _ | (simp (disch := decide) only [Dev.endEntry_mask, Dev.setQueue_mask, Dev.finishFrame_mask, Dev.modEntry_mask, Dev.holdFrame_mask]) | with_reducible apply Dev.scatterBytes_mem | with_reducible apply Dev.mem_getD | with_reducible apply Dev.mem_getD_pair | split | (dsimp only; split))

theorem Dev.placeFrame_mem (d0 : Dev) (q : ℕ) (hw : (d0.mask notMemory).memoryWf = true) : ((Dev.placeFrame d0 q).mask notMemory).memoryWf = true := by
  unfold Dev.placeFrame
  all_goals (repeat' (first | with_reducible assumption | intro _ | (simp (disch := decide) only [Dev.beginHandshake_mask, Dev.endCopy_mask, Dev.setQueue_mask, Dev.discardStale_mask]) | with_reducible apply Dev.placeInto_mem | split | (dsimp only; split)))

theorem Dev.holdExpires_mem (d : Dev) (q : ℕ) (hw : (d.mask notMemory).memoryWf = true) : ((Dev.holdExpires d q).mask notMemory).memoryWf = true := by
  unfold Dev.holdExpires
  all_goals (repeat' (first | with_reducible assumption | intro _ | (simp (disch := decide) only [Dev.truncateFrame_mask]) | with_reducible apply Dev.placeFrame_mem | split | (dsimp only; split)))

theorem Dev.ideFailure_mem (d : Dev) (n : ℕ) (st : ℕ) (hw : (d.mask notMemory).memoryWf = true) : ((Dev.ideFailure d n st).mask notMemory).memoryWf = true := by
  unfold Dev.ideFailure
  all_goals (repeat' (first | with_reducible assumption | intro _ | (simp (disch := decide) only [Dev.pulse_mask, Dev.latchFault_mask, Dev.setHostPort_mask]) | with_reducible apply Dev.setTdi_mem | with_reducible apply Dev.mem_foldl | split | (dsimp only; split)))

theorem Dev.insertEntry_mem (d : Dev) (t : ℕ) (image : List ℕ) (k : List Byte) (noevict : Bool) (hw : (d.mask notMemory).memoryWf = true) : ((Dev.insertEntry d t image k noevict).2.mask notMemory).memoryWf = true := by
  unfold Dev.insertEntry
  all_goals (repeat' (first | with_reducible assumption | intro _ | (simp (disch := decide) only [Dev.findKey_mask, Dev.ownEntry_mask]) | with_reducible apply Dev.writeSlot_mem | with_reducible apply Dev.insertNew_mem | split | (dsimp only; split)))

theorem Dev.issueWire_mem (d : Dev) (n : ℕ) (a : HostAnswer) (hw : (d.mask notMemory).memoryWf = true) : ((Dev.issueWire d n a).mask notMemory).memoryWf = true := by
  unfold Dev.issueWire
  all_goals (repeat' (first | with_reducible assumption | intro _ | with_reducible apply Dev.fetchWire_mem | with_reducible apply Dev.sendWire_mem | split | (dsimp only; split)))

theorem Dev.putSlot_mem (d : Dev) (s : ℕ) (v : KeySlot) (key : List Byte) (hw : (d.mask notMemory).memoryWf = true) : ((Dev.putSlot d s v key).mask notMemory).memoryWf = true := by
  unfold Dev.putSlot
  all_goals (repeat' (first | with_reducible assumption | intro _ | (simp (disch := decide) only [Dev.setLehr_mask, Dev.setKeySlot_mask]) | with_reducible apply Dev.gwrite_mem | split | (dsimp only; split)))

theorem Dev.keyInstall_mem (d : Dev) (slot : ℕ) (pair : Bool) (bad : Bool) (desc : List Word) (even : List Byte) (odd : List Byte) (hw : (d.mask notMemory).memoryWf = true) : ((Dev.keyInstall d slot pair bad desc even odd).2.mask notMemory).memoryWf = true := by
  unfold Dev.keyInstall
  all_goals (repeat' (first | with_reducible assumption | intro _ | with_reducible apply Dev.putSlot_mem | split | (dsimp only; split)))

theorem Dev.lastWords_mem (d : Dev) (s : ℕ) (bs : Option (List Byte)) (hw : (d.mask notMemory).memoryWf = true) : ((Dev.lastWords d s bs).mask notMemory).memoryWf = true := by
  unfold Dev.lastWords
  all_goals (repeat' (first | with_reducible assumption | intro _ | (simp (disch := decide) only [Dev.setSes_mask, Dev.sendRst_mask]) | with_reducible apply Dev.sesSet_mem | (refine (congrArg (fun x : Dev => x.memoryWf = true) (Dev.sendSegment_mask (T := notMemory) (by decide) (by assumption))).mpr ?_) | split | (dsimp only; split)))

theorem Dev.lehrEnd_mem (d : Dev) (n : ℕ) (failed : Option ℕ) (hw : (d.mask notMemory).memoryWf = true) : ((Dev.lehrEnd d n failed).mask notMemory).memoryWf = true := by
  unfold Dev.lehrEnd
  all_goals (repeat' (first | with_reducible assumption | intro _ | (simp (disch := decide) only [Dev.takeEnded_mask]) | with_reducible apply Dev.deliverJob_mem | split | (dsimp only; split)))

theorem Dev.lehrSubmit_mem (d : Dev) (hw : (d.mask notMemory).memoryWf = true) : ((Dev.lehrSubmit d).mask notMemory).memoryWf = true := by
  unfold Dev.lehrSubmit
  all_goals (repeat' (first | with_reducible assumption | intro _ | (simp (disch := decide) only [Dev.checkSubmitted_mask]) | with_reducible apply Dev.deliverJob_mem | split | (dsimp only; split)))

theorem Dev.linkDown_mem (d : Dev) (n : ℕ) (hw : (d.mask notMemory).memoryWf = true) : ((Dev.linkDown d n).mask notMemory).memoryWf = true := by
  unfold Dev.linkDown
  all_goals (repeat' (first | with_reducible assumption | intro _ | (simp (disch := decide) only [Dev.pulse_mask, Dev.latchFault_mask]) | with_reducible apply Dev.dropLink_mem | split | (dsimp only; split)))

theorem Dev.lockInterface_mem (d : Dev) (s : ℕ) (st : ℕ) (hw : (d.mask notMemory).memoryWf = true) : ((Dev.lockInterface d s st).mask notMemory).memoryWf = true := by
  unfold Dev.lockInterface
  all_goals (repeat' (first | with_reducible assumption | intro _ | (simp (disch := decide) only [Dev.emit_mask, Dev.setSlice_mask]) | with_reducible apply Dev.setTdi_mem | split | (dsimp only; split)))

theorem Dev.logicFault_mem (d : Dev) (page : ℕ) (check : ℕ) (hw : (d.mask notMemory).memoryWf = true) : ((Dev.logicFault d page check).mask notMemory).memoryWf = true := by
  unfold Dev.logicFault
  all_goals (repeat' (first | with_reducible assumption | intro _ | (simp (disch := decide) only [Dev.unitFault_mask, Dev.journalAdd_mask]) | with_reducible apply Dev.blockFault_mem | split | (dsimp only; split)))

theorem Dev.meterDisable_mem (d : Dev) (o : PortOp) (hw : (d.mask notMemory).memoryWf = true) : ((Dev.meterDisable d o).2.mask notMemory).memoryWf = true := by
  unfold Dev.meterDisable
  all_goals (repeat' (first | with_reducible assumption | intro _ | with_reducible apply Dev.gsetWord_mem | split | (dsimp only; split)))

theorem Dev.meterStep_mem (d : Dev) (h : ℕ) (hw : (d.mask notMemory).memoryWf = true) : ((Dev.meterStep d h).mask notMemory).memoryWf = true := by
  unfold Dev.meterStep
  all_goals (repeat' (first | with_reducible assumption | intro _ | (simp (disch := decide) only [Dev.modPacket_mask, Dev.lineUe_mask]) | with_reducible apply Dev.gsetWords_mem | split | (dsimp only; split)))

theorem Dev.meterWrite_mem (d : Dev) (o : PortOp) (hw : (d.mask notMemory).memoryWf = true) : ((Dev.meterWrite d o).2.mask notMemory).memoryWf = true := by
  unfold Dev.meterWrite
  all_goals (repeat' (first | with_reducible assumption | intro _ | with_reducible apply Dev.gsetWords_mem | split | (dsimp only; split)))

theorem Dev.modifyQueue_mem (d : Dev) (welbor : Bool) (q : ℕ) (w : List ℕ) (hw : (d.mask notMemory).memoryWf = true) : ((Dev.modifyQueue d welbor q w).2.mask notMemory).memoryWf = true := by
  unfold Dev.modifyQueue
  all_goals (repeat' (first | with_reducible assumption | intro _ | with_reducible apply Dev.putContext_mem | split | (dsimp only; split)))

theorem Dev.onFirmwareWrite_mem (d : Dev) (req : Requester) (addr : ℕ) (f : Dev → Dev) (hf : ∀ d, (d.mask notMemory).memoryWf = true → ((f d).mask notMemory).memoryWf = true) (hw : (d.mask notMemory).memoryWf = true) : ((Dev.onFirmwareWrite d req addr f).mask notMemory).memoryWf = true := by
  unfold Dev.onFirmwareWrite
  all_goals (repeat' (first | with_reducible assumption | with_reducible apply hf | intro _ | (simp (disch := decide) only [Dev.closedWrite_mask]) | with_reducible apply Dev.onWrite_mem | split | (dsimp only; split)))

theorem Dev.onHeader_mem (d : Dev) (req : Requester) (page : ℕ) (off : ℕ) (f : Dev → PageKind → ℕ → ℕ → Dev) (hf : ∀ d a0 a1 a2, (d.mask notMemory).memoryWf = true → ((f d a0 a1 a2).mask notMemory).memoryWf = true) (hw : (d.mask notMemory).memoryWf = true) : ((Dev.onHeader d req page off f).mask notMemory).memoryWf = true := by
  unfold Dev.onHeader
  all_goals (repeat' (first | with_reducible assumption | with_reducible apply hf | intro _ | with_reducible apply Dev.onWrite_mem | split | (dsimp only; split)))

theorem Dev.onMail_mem (d : Dev) (req : Requester) (box : MailEnd) (off : ℕ) (f : Dev → Dev) (hf : ∀ d, (d.mask notMemory).memoryWf = true → ((f d).mask notMemory).memoryWf = true) (hw : (d.mask notMemory).memoryWf = true) : ((Dev.onMail d req box off f).mask notMemory).memoryWf = true := by
  unfold Dev.onMail
  all_goals (repeat' (first | with_reducible assumption | with_reducible apply hf | intro _ | (simp (disch := decide) only [Dev.closedWrite_mask, Dev.pulse_mask, Dev.accessError_mask, Dev.emit_mask]) | with_reducible apply Dev.onWrite_mem | split | (dsimp only; split)))

theorem Dev.onRead_mem (d : Dev) (req : Requester) (addr : ℕ) (f : Dev → Dev) (hf : ∀ d, (d.mask notMemory).memoryWf = true → ((f d).mask notMemory).memoryWf = true) (hw : (d.mask notMemory).memoryWf = true) : ((Dev.onRead d req addr f).mask notMemory).memoryWf = true := by
  unfold Dev.onRead
  all_goals (repeat' (first | with_reducible assumption | with_reducible apply hf | intro _ | (simp (disch := decide) only [Dev.emit_mask, Dev.powerAbort_mask, Dev.accessError_mask]) | split | (dsimp only; split)))

theorem Dev.onWmb_mem (d : Dev) (req : Requester) (page : ℕ) (f : Dev → PageKind → ℕ → ℕ → Dev) (hf : ∀ d a0 a1 a2, (d.mask notMemory).memoryWf = true → ((f d a0 a1 a2).mask notMemory).memoryWf = true) (hw : (d.mask notMemory).memoryWf = true) : ((Dev.onWmb d req page f).mask notMemory).memoryWf = true := by
  unfold Dev.onWmb
  all_goals (repeat' (first | with_reducible assumption | with_reducible apply hf | intro _ | with_reducible apply Dev.onWrite_mem | split | (dsimp only; split)))

theorem Dev.opClear_mem (d : Dev) (o : PortOp) (hw : (d.mask notMemory).memoryWf = true) : ((Dev.opClear d o).2.mask notMemory).memoryWf = true := by
  unfold Dev.opClear
  all_goals (repeat' (first | with_reducible assumption | intro _ | (simp (disch := decide) only [Dev.opOutcome_mask]) | with_reducible apply Dev.clearEntry_mem | split | (dsimp only; split)))

theorem Dev.opDelete_mem (d : Dev) (o : PortOp) (hw : (d.mask notMemory).memoryWf = true) : ((Dev.opDelete d o).2.mask notMemory).memoryWf = true := by
  unfold Dev.opDelete
  all_goals (repeat' (first | with_reducible assumption | intro _ | (simp (disch := decide) only [Dev.findKey_mask, Dev.opOutcome_mask]) | with_reducible apply Dev.clearEntry_mem | split | (dsimp only; split)))

theorem Dev.opInsert_mem (d : Dev) (o : PortOp) (noevict : Bool) (hw : (d.mask notMemory).memoryWf = true) : ((Dev.opInsert d o noevict).2.mask notMemory).memoryWf = true := by
  unfold Dev.opInsert
  all_goals (repeat' (first | with_reducible assumption | intro _ | (simp (disch := decide) only [Dev.opOutcome_mask]) | with_reducible apply Dev.insertEntry_mem | split | (dsimp only; split)))

theorem Dev.openSession_mem (d : Dev) (s : ℕ) (hw : (d.mask notMemory).memoryWf = true) : ((Dev.openSession d s).mask notMemory).memoryWf = true := by
  unfold Dev.openSession
  all_goals (repeat' (first | with_reducible assumption | intro _ | (simp (disch := decide) only [Dev.mask_free, Dev.fresh_mask, Dev.setSes_mask]) | with_reducible apply Dev.sesSet_mem | with_reducible apply Dev.setSesState_mem | (refine (congrArg (fun x : Dev => x.memoryWf = true) (Dev.sendSegment_mask (T := notMemory) (by decide) (by assumption))).mpr ?_) | with_reducible apply Dev.mem_getD | with_reducible apply Dev.mem_getD_pair | split | (dsimp only; split)))

theorem Dev.perstOn_mem (d : Dev) (n : ℕ) (hw : (d.mask notMemory).memoryWf = true) : ((Dev.perstOn d n).mask notMemory).memoryWf = true := by
  unfold Dev.perstOn
  all_goals (repeat' (first | with_reducible assumption | intro _ | (simp (disch := decide) only [Dev.setPwr_mask]) | with_reducible apply Dev.resetPort_mem | split | (dsimp only; split)))

theorem Dev.portExec_mem (d : Dev) (i : PortInfo) (op : ℕ) (f : Dev → PortOp → ℕ × Dev) (hf : ∀ d a0, (d.mask notMemory).memoryWf = true → ((f d a0).2.mask notMemory).memoryWf = true) (hw : (d.mask notMemory).memoryWf = true) : ((Dev.portExec d i op f).mask notMemory).memoryWf = true := by
  unfold Dev.portExec
  all_goals (repeat' (first | with_reducible assumption | with_reducible apply hf | intro _ | (simp (disch := decide) only [Dev.portEnd_mask]) | split | (dsimp only; split)))

theorem Dev.sxpRefuse_mem {d : Dev} {src : SxpSource} {sa : ℕ} {charged : Bool} {n : ℕ} {r} (hw : (d.mask notMemory).memoryWf = true) (e : Dev.sxpRefuse d src sa charged n = some r) : (r.2.mask notMemory).memoryWf = true := by
  unfold Dev.sxpRefuse at e
  extract_lets d1 at e
  have h1 : (d1.mask notMemory).memoryWf = true := by
    simp only [d1]; split
    · exact Dev.saSet_mem _ _ _ hw
    · exact hw
  clear_value d1
  have h2 : ((if n = 0 then d1 else d1.sxpDiscard n).mask notMemory).memoryWf = true := by
    split
    · exact h1
    · rw [Dev.sxpDiscard_mask (by decide)]; exact h1
  split at e
  · rename_i d2 _ _ _ _
    change (d2.mask notMemory).memoryWf = true at h2
    clear_value d2
    split at e
    · rw [Option.map_eq_some_iff] at e
      obtain ⟨a, ha, rfl⟩ := e
      have := Dev.segmentEnd_mask (T := notMemory) (by decide) ha
      rw [this]; exact h2
    · cases e; rw [Dev.staleHandle_mask (by decide)]; exact h2
  · cases e; rw [Dev.sxpDiscard_mask (by decide)]; exact h1

theorem Dev.setReplayBit_mem (d : Dev) (w : List ℕ) (n : ℕ) (b : Bool) (hw : (d.mask notMemory).memoryWf = true) : ((Dev.setReplayBit d w n b).mask notMemory).memoryWf = true := by
  unfold Dev.setReplayBit
  all_goals (repeat' (first | with_reducible assumption | intro _ | with_reducible apply Dev.gwrite_mem | split | (dsimp only; split)))

theorem Dev.windowUpdate_mem (d : Dev) (s : ℕ) (w : List ℕ) (n : ℕ) (hw : (d.mask notMemory).memoryWf = true) : ((Dev.windowUpdate d s w n).mask notMemory).memoryWf = true := by
  unfold Dev.windowUpdate
  all_goals (repeat' (first | with_reducible assumption | intro _ | with_reducible apply Dev.setReplayBit_mem | with_reducible apply Dev.saSet_mem | with_reducible apply Dev.mem_foldl | split | (dsimp only; split)))

theorem Dev.sxpCount_mem (d : Dev) (j : SxpJob) (hw : (d.mask notMemory).memoryWf = true) : ((Dev.sxpCount d j).mask notMemory).memoryWf = true := by
  unfold Dev.sxpCount
  all_goals (repeat' (first | with_reducible assumption | intro _ | (simp (disch := decide) only [Dev.wcount_mask]) | with_reducible apply Dev.saSet_mem | split | (dsimp only; split)))

theorem Dev.tlsVerified_mem (d : Dev) (j : SxpJob) (inner : ℕ) (hw : (d.mask notMemory).memoryWf = true) : ((Dev.tlsVerified d j inner).mask notMemory).memoryWf = true := by
  unfold Dev.tlsVerified
  all_goals (repeat' (first | with_reducible assumption | intro _ | (simp (disch := decide) only [Dev.pulse_mask]) | with_reducible apply Dev.saSet_mem | split | (dsimp only; split)))

theorem Dev.sxpFinal_mem {d : Dev} {j : SxpJob} {code : ℕ} {out : List Byte} {r} (hw : (d.mask notMemory).memoryWf = true) (e : Dev.sxpFinal d j code out = some r) : (r.2.mask notMemory).memoryWf = true := by
  unfold Dev.sxpFinal at e
  dsimp only at e
  split at e
  · exact Dev.sxpRefuse_mem hw e
  · split at e
    · exact Dev.sxpRefuse_mem hw e
    · have h1 : ∀ (c : Prop) [Decidable c] (a b : _) (x : Nat), ((if c then d.windowUpdate a b x else d).mask notMemory).memoryWf = true := by
        intro c _ a b x; split
        · exact Dev.windowUpdate_mem _ _ _ _ hw
        · exact hw
      split at e
      · exact Dev.sxpRefuse_mem (h1 _ _ _ _) e
      · split at e
        · exact Dev.sxpRefuse_mem (h1 _ _ _ _) e
        · split at e
          · exact Dev.sxpRefuse_mem (Dev.sxpCount_mem _ _ (h1 _ _ _ _)) e
          · split at e
            · rw [Dev.sxpDeliver_mask (by decide) e]; exact Dev.tlsVerified_mem _ _ _ (Dev.sxpCount_mem _ _ (h1 _ _ _ _))
            · rw [Dev.sxpDeliver_mask (by decide) e]; exact Dev.sxpCount_mem _ _ (h1 _ _ _ _)

theorem Dev.postcheck_mem (d : Dev) (lane : ℕ) (hw : (d.mask notMemory).memoryWf = true) : ((Dev.postcheck d lane).2.mask notMemory).memoryWf = true := by
  unfold Dev.postcheck
  split
  · exact hw
  · split
    · exact hw
    · extract_lets x d1 w d2 live
      have h1 : (d1.mask notMemory).memoryWf = true := by
        rw [show d1 = d.setSxp _ from rfl, Dev.setSxp_mask (by decide)]; exact hw
      have h2 : (d2.mask notMemory).memoryWf = true := by
        simp only [d2]
        rw [Dev.noteSa_mask (by decide)]
        split
        · exact h1
        · exact Dev.saSet_mem _ _ _ h1
      clear_value d2
      split
      · rw [Dev.staleHandle_mask (by decide)]; exact h2
      · exact Dev.mem_getD_pair (fun r hr => Dev.sxpFinal_mem h2 hr) hw

theorem Dev.powerLost_mem (d : Dev) (hw : (d.mask notMemory).memoryWf = true) : ((Dev.powerLost d).mask notMemory).memoryWf = true := by
  unfold Dev.powerLost
  all_goals (repeat' (first | with_reducible assumption | intro _ | (simp (disch := decide) only [Dev.endHoldUp_mask, Dev.unlinkPorts_mask]) | with_reducible apply Dev.sleep_mem | split | (dsimp only; split)))

theorem Dev.touchLimits_mem (d : Dev) (s : ℕ) (n : ℕ) (refused : Bool) (hw : (d.mask notMemory).memoryWf = true) : ((Dev.touchLimits d s n refused).mask notMemory).memoryWf = true := by
  unfold Dev.touchLimits
  all_goals (repeat' (first | with_reducible assumption | intro _ | (simp (disch := decide) only [Dev.pushLimit_mask]) | with_reducible apply Dev.saSet_mem | split | (dsimp only; split)))

theorem Dev.sxpSubmit_mem (d : Dev) (r : SxpReq) (s : ℕ) (n : ℕ) (l : Located) (hw : (d.mask notMemory).memoryWf = true) : ((Dev.sxpSubmit d r s n l).mask notMemory).memoryWf = true := by
  unfold Dev.sxpSubmit
  all_goals (repeat' (first | with_reducible assumption | intro _ | (simp (disch := decide) only [Dev.setSxp_mask, Dev.submitJob_mask, Dev.markSegment_mask]) | with_reducible apply Dev.saSet_mem | with_reducible apply Dev.mem_getD | with_reducible apply Dev.mem_getD_pair | split | (dsimp only; split)))

theorem Dev.sxpCheck_mem {d : Dev} {r : SxpReq} {s : ℕ} {z} (hw : (d.mask notMemory).memoryWf = true) (e : Dev.sxpCheck d r s = some z) : (z.2.mask notMemory).memoryWf = true := by
  unfold Dev.sxpCheck at e
  extract_lets w pos needs t at e
  clear_value w pos needs t
  split at e
  · exact Dev.sxpRefuse_mem (by rw [Dev.countDrop_mask (by decide), Dev.templateAbsent_mask (by decide)]; exact hw) e
  · split at e
    · exact Dev.sxpRefuse_mem hw e
    · extract_lets n refused d1 at e
      have h1 : (d1.mask notMemory).memoryWf = true := Dev.touchLimits_mem _ _ _ _ hw
      split at e
      · exact Dev.sxpRefuse_mem h1 e
      · split at e
        · exact Dev.sxpRefuse_mem h1 e
        · split at e
          · exact Dev.sxpRefuse_mem h1 e
          · cases e
            refine Dev.autoRoll_mem _ _ _ (Dev.sxpSubmit_mem _ _ _ _ _ ?_)
            rename_i d2 _ _ _ _
            simp only [d2]
            split
            · split
              · rw [Dev.advanceId_mask (by decide)]; exact h1
              · exact h1
            · exact h1

theorem Dev.precheck_mem (d : Dev) (lane : ℕ) (hw : (d.mask notMemory).memoryWf = true) : ((Dev.precheck d lane).2.mask notMemory).memoryWf = true := by
  unfold Dev.precheck
  split
  · exact hw
  · rename_i r hr
    clear hr
    split
    · exact hw
    · extract_lets q d1 s d2 live
      have h1 : (d1.mask notMemory).memoryWf = true := by
        simp (disch := decide) only [d1, Dev.setSxp_mask]; exact hw
      have h2 : (d2.mask notMemory).memoryWf = true := by
        simp (disch := decide) only [d2, Dev.noteSa_mask]; exact h1
      clear_value live s
      split
      · rw [Dev.staleHandle_mask (by decide)]; exact h1
      · refine Dev.mem_getD_pair ?_ hw
        intro r hr
        split at hr
        · exact Dev.sxpRefuse_mem h2 hr
        · exact Dev.sxpCheck_mem h2 hr

theorem Dev.protocolError_mem (d : Dev) (s : ℕ) (hw : (d.mask notMemory).memoryWf = true) : ((Dev.protocolError d s).mask notMemory).memoryWf = true := by
  unfold Dev.protocolError
  all_goals (repeat' (first | with_reducible assumption | intro _ | with_reducible apply Dev.failSession_mem | split | (dsimp only; split)))

theorem Dev.queOp_mem (d : Dev) (op : ℕ) (f : Dev → Bool → ℕ → List ℕ → ℕ × Dev) (hf : ∀ d a0 a1 a2, (d.mask notMemory).memoryWf = true → ((f d a0 a1 a2).2.mask notMemory).memoryWf = true) (hw : (d.mask notMemory).memoryWf = true) : ((Dev.queOp d op f).mask notMemory).memoryWf = true := by
  unfold Dev.queOp
  all_goals (repeat' (first | with_reducible assumption | with_reducible apply hf | intro _ | with_reducible apply Dev.portExec_mem | split | (dsimp only; split)))

theorem Dev.sendHandshake_mem (d : Dev) (q : ℕ) (e : QueueEntry) (a : HostAnswer) (hw : (d.mask notMemory).memoryWf = true) : ((Dev.sendHandshake d q e a).mask notMemory).memoryWf = true := by
  unfold Dev.sendHandshake
  all_goals (repeat' (first | with_reducible assumption | intro _ | (simp (disch := decide) only [Dev.endWith_mask, Dev.gatherBytes_mask]) | with_reducible apply Dev.onData_mem | with_reducible apply Dev.handshakeSend_mem | split | (dsimp only; split)))

theorem Dev.sendEntry_mem (d : Dev) (q : ℕ) (a : HostAnswer) (hw : (d.mask notMemory).memoryWf = true) : ((Dev.sendEntry d q a).mask notMemory).memoryWf = true := by
  unfold Dev.sendEntry
  all_goals (repeat' (first | with_reducible assumption | intro _ | (simp (disch := decide) only [Dev.sfinishFrame_mask]) | with_reducible apply Dev.sendHandshake_mem | split | (dsimp only; split)))

theorem Dev.readTimeout_mem (d : Dev) (n : ℕ) (t : ReadTarget) (hw : (d.mask notMemory).memoryWf = true) : ((Dev.readTimeout d n t).mask notMemory).memoryWf = true := by
  unfold Dev.readTimeout
  all_goals (repeat' (first | with_reducible assumption | intro _ | (simp (disch := decide) only [Dev.noteTimeout_mask]) | with_reducible apply Dev.failTarget_mem | split | (dsimp only; split)))

theorem Dev.readCompletion_mem (d : Dev) (n : ℕ) (t : ReadTarget) (answer : HostAnswer) (hw : (d.mask notMemory).memoryWf = true) : ((Dev.readCompletion d n t answer).mask notMemory).memoryWf = true := by
  unfold Dev.readCompletion
  all_goals (repeat' (first | with_reducible assumption | intro _ | (simp (disch := decide) only [Dev.cipherEntry_mask, Dev.linkError_mask, Dev.notePoison_mask]) | with_reducible apply Dev.fetchEntry_mem | with_reducible apply Dev.issueBurst_mem | with_reducible apply Dev.issueWire_mem | with_reducible apply Dev.sendEntry_mem | with_reducible apply Dev.notPresent_mem | with_reducible apply Dev.failTarget_mem | with_reducible apply Dev.readTimeout_mem | split | (dsimp only; split)))

theorem Dev.receivePdu_mem (d : Dev) (s : ℕ) (typ : ℕ) (any : Bool) (f : Dev → List Byte → Dev) (hf : ∀ d a0, (d.mask notMemory).memoryWf = true → ((f d a0).mask notMemory).memoryWf = true) (hw : (d.mask notMemory).memoryWf = true) : ((Dev.receivePdu d s typ any f).mask notMemory).memoryWf = true := by
  unfold Dev.receivePdu
  all_goals (repeat' (first | with_reducible assumption | with_reducible apply hf | intro _ | (simp (disch := decide) only [Dev.modSes_mask]) | with_reducible apply Dev.protocolError_mem | with_reducible apply Dev.headerFailed_mem | split | (dsimp only; split)))

theorem Dev.takeData_mem (d : Dev) (n : Nat) (w : WireCmd) (s : Nat) (p : List Byte) (hw : (d.mask notMemory).memoryWf = true) :
    ((d.takeData n w s p).mask notMemory).memoryWf = true := by
  unfold Dev.takeData
  extract_lets datao datal dg last data d1
  have h1 : (d1.mask notMemory).memoryWf = true := by
    simp only [d1]
    split
    · exact hw
    · rename_i hm
      have hm := Dev.storeCells_mask (T := notMemory) (by decide) hm
      have h0 := (congrArg (fun x : Dev => x.memoryWf = true) hm).mpr hw
      split
      · rw [Dev.dataFailed_mask (by decide), Dev.freeRx_mask (by decide)]; exact h0
      · exact Dev.drainRead_mem _ _ (by rw [Dev.setWire_mask (by decide)]; exact h0)
  clear_value d1
  split
  · exact Dev.protocolError_mem _ _ hw
  · split
    · split
      · exact Dev.answerWire_mem _ _ _ hw
      · exact hw
    · split
      · exact Dev.protocolError_mem _ _ hw
      · split
        · split
          · exact Dev.protocolError_mem _ _ h1
          · exact Dev.answerWire_mem _ _ _ h1
        · exact h1

theorem Dev.receiveData_mem (d : Dev) (s : ℕ) (hw : (d.mask notMemory).memoryWf = true) : ((Dev.receiveData d s).mask notMemory).memoryWf = true := by
  unfold Dev.receiveData
  all_goals (repeat' (first | with_reducible assumption | intro _ | (simp (disch := decide) only [Dev.lateMessage_mask]) | with_reducible apply Dev.receivePdu_mem | with_reducible apply Dev.takeData_mem | split | (dsimp only; split)))

theorem Dev.receiveIcResp_mem (d : Dev) (s : ℕ) (hw : (d.mask notMemory).memoryWf = true) : ((Dev.receiveIcResp d s).mask notMemory).memoryWf = true := by
  unfold Dev.receiveIcResp
  all_goals (repeat' (first | with_reducible assumption | intro _ | (simp (disch := decide) only [Dev.modSes_mask, Dev.addWire_mask]) | with_reducible apply Dev.receivePdu_mem | with_reducible apply Dev.protocolError_mem | with_reducible apply Dev.sesSet_mem | with_reducible apply Dev.setSesState_mem | split | (dsimp only; split)))

theorem Dev.receiveR2t_mem (d : Dev) (s : ℕ) (hw : (d.mask notMemory).memoryWf = true) : ((Dev.receiveR2t d s).mask notMemory).memoryWf = true := by
  unfold Dev.receiveR2t
  all_goals (repeat' (first | with_reducible assumption | intro _ | (simp (disch := decide) only [Dev.lateMessage_mask, Dev.setWire_mask]) | with_reducible apply Dev.receivePdu_mem | with_reducible apply Dev.protocolError_mem | with_reducible apply Dev.stoSend_mem | split | (dsimp only; split)))

theorem Dev.receiveResponse_mem (d : Dev) (s : ℕ) (hw : (d.mask notMemory).memoryWf = true) : ((Dev.receiveResponse d s).mask notMemory).memoryWf = true := by
  unfold Dev.receiveResponse
  all_goals (repeat' (first | with_reducible assumption | intro _ | (simp (disch := decide) only [Dev.lateMessage_mask]) | with_reducible apply Dev.receivePdu_mem | with_reducible apply Dev.connectAnswered_mem | with_reducible apply Dev.protocolError_mem | with_reducible apply Dev.answerWire_mem | split | (dsimp only; split)))

theorem Dev.receiveRst_mem (d : Dev) (hw : (d.mask notMemory).memoryWf = true) : ((Dev.receiveRst d).mask notMemory).memoryWf = true := by
  unfold Dev.receiveRst
  all_goals (repeat' (first | with_reducible assumption | intro _ | (simp (disch := decide) only [Dev.modSes_mask, Dev.popSto_mask]) | with_reducible apply Dev.failSession_mem | split | (dsimp only; split)))

theorem Dev.takeAck_mem (d : Dev) (s : ℕ) (g : Segmented) (hw : (d.mask notMemory).memoryWf = true) : ((Dev.takeAck d s g).mask notMemory).memoryWf = true := by
  unfold Dev.takeAck
  all_goals (repeat' (first | with_reducible assumption | intro _ | (simp (disch := decide) only [Dev.modSes_mask]) | with_reducible apply Dev.ackNew_mem | with_reducible apply Dev.ackDup_mem | with_reducible apply Dev.pumpAll_mem | split | (dsimp only; split)))

theorem Dev.takePayload_mem (d : Dev) (s : ℕ) (bs : List Byte) (hw : (d.mask notMemory).memoryWf = true) : ((Dev.takePayload d s bs).mask notMemory).memoryWf = true := by
  unfold Dev.takePayload
  all_goals (repeat' (first | with_reducible assumption | intro _ | (simp (disch := decide) only [Dev.queueHandshake_mask, Dev.nextRecord_mask, Dev.modSes_mask]) | with_reducible apply Dev.sesSet_mem | split | (dsimp only; split)))

theorem Dev.takeSegment_mem (d : Dev) (s : ℕ) (g : Segmented) (hw : (d.mask notMemory).memoryWf = true) : ((Dev.takeSegment d s g).mask notMemory).memoryWf = true := by
  unfold Dev.takeSegment
  all_goals (repeat' (first | with_reducible assumption | intro _ | (simp (disch := decide) only [Dev.sendAck_mask, Dev.noteStamp_mask, Dev.count_mask, Dev.modSes_mask]) | with_reducible apply Dev.takeAck_mem | with_reducible apply Dev.takePayload_mem | with_reducible apply Dev.sesSet_mem | split | (dsimp only; split)))

theorem Dev.receiveSegment_mem (d : Dev) (hw : (d.mask notMemory).memoryWf = true) : ((Dev.receiveSegment d).mask notMemory).memoryWf = true := by
  unfold Dev.receiveSegment
  all_goals (repeat' (first | with_reducible assumption | intro _ | (simp (disch := decide) only [Dev.popSto_mask]) | with_reducible apply Dev.takeSegment_mem | split | (dsimp only; split)))

theorem Dev.receiveSynAck_mem (d : Dev) (hw : (d.mask notMemory).memoryWf = true) : ((Dev.receiveSynAck d).mask notMemory).memoryWf = true := by
  unfold Dev.receiveSynAck
  all_goals (repeat' (first | with_reducible assumption | intro _ | (simp (disch := decide) only [Dev.popSto_mask]) | with_reducible apply Dev.establish_mem | split | (dsimp only; split)))

theorem Dev.receiveTerm_mem (d : Dev) (s : ℕ) (hw : (d.mask notMemory).memoryWf = true) : ((Dev.receiveTerm d s).mask notMemory).memoryWf = true := by
  unfold Dev.receiveTerm
  all_goals (repeat' (first | with_reducible assumption | intro _ | (simp (disch := decide) only [Dev.lateMessage_mask]) | with_reducible apply Dev.receivePdu_mem | with_reducible apply Dev.protocolError_mem | split | (dsimp only; split)))

theorem Dev.takeRecord_mem (d : Dev) (s : ℕ) (inner : ℕ) (bs : List Byte) (hw : (d.mask notMemory).memoryWf = true) : ((Dev.takeRecord d s inner bs).mask notMemory).memoryWf = true := by
  unfold Dev.takeRecord
  all_goals (repeat' (first | with_reducible assumption | intro _ | (simp (disch := decide) only [Dev.modSes_mask, Dev.nextRecord_mask, Dev.queueHandshake_mask]) | with_reducible apply Dev.failSession_mem | split | (dsimp only; split)))

theorem Dev.recordEnd_mem (d : Dev) (r : RecordEnd) (hw : (d.mask notMemory).memoryWf = true) : ((Dev.recordEnd d r).mask notMemory).memoryWf = true := by
  unfold Dev.recordEnd
  all_goals (repeat' (first | with_reducible assumption | intro _ | with_reducible apply Dev.lastWords_mem | with_reducible apply Dev.failSession_mem | with_reducible apply Dev.takeRecord_mem | with_reducible apply Dev.tcpSend_mem | split | (dsimp only; split)))

theorem Dev.recordEnded_mem (r : Option RecordEnd × Dev) (h : (r.2.mask notMemory).memoryWf = true) : ((Dev.recordEnded r).mask notMemory).memoryWf = true := by
  unfold Dev.recordEnded
  repeat' (first | with_reducible assumption | intro _ | with_reducible apply Dev.recordEnd_mem | split | (dsimp only; split))

theorem Dev.refreshAge_mem (d : Dev) (hw : (d.mask notMemory).memoryWf = true) : ((Dev.refreshAge d).mask notMemory).memoryWf = true := by
  unfold Dev.refreshAge
  all_goals (repeat' (first | with_reducible assumption | intro _ | (simp (disch := decide) only [Dev.mask_refreshQ, Dev.count_mask]) | with_reducible apply Dev.writeSlot_mem | split | (dsimp only; split)))

theorem Dev.resetFunction_mem (d : Dev) (n : ℕ) (pf : ℕ) (hw : (d.mask notMemory).memoryWf = true) : ((Dev.resetFunction d n pf).mask notMemory).memoryWf = true := by
  unfold Dev.resetFunction
  all_goals (repeat' (first | with_reducible assumption | intro _ | (simp (disch := decide) only [Dev.setHostPort_mask, Dev.pulse_mask, Dev.latchFault_mask]) | with_reducible apply Dev.haltQueues_mem | split | (dsimp only; split)))

theorem Dev.resetSession_mem (d : Dev) (s : ℕ) (hw : (d.mask notMemory).memoryWf = true) : ((Dev.resetSession d s).mask notMemory).memoryWf = true := by
  unfold Dev.resetSession
  all_goals (repeat' (first | with_reducible assumption | intro _ | with_reducible apply Dev.resetSessionAs_mem | split | (dsimp only; split)))

theorem Dev.retransmitTimeout_mem (d : Dev) (s : ℕ) (hw : (d.mask notMemory).memoryWf = true) : ((Dev.retransmitTimeout d s).mask notMemory).memoryWf = true := by
  unfold Dev.retransmitTimeout
  all_goals (repeat' (first | with_reducible assumption | intro _ | (simp (disch := decide) only [Dev.setSes_mask]) | with_reducible apply Dev.failSession_mem | (refine Dev.sendData_mem ?_ (by assumption)) | with_reducible apply Dev.retransmit_mem | with_reducible apply Dev.mem_getD | with_reducible apply Dev.mem_getD_pair | split | (dsimp only; split)))

theorem Dev.saDisable_mem (d : Dev) (s : ℕ) (hw : (d.mask notMemory).memoryWf = true) : ((Dev.saDisable d s).mask notMemory).memoryWf = true := by
  unfold Dev.saDisable
  all_goals (repeat' (first | with_reducible assumption | intro _ | (simp (disch := decide) only [Dev.noteSa_mask]) | with_reducible apply Dev.saSet_mem | split | (dsimp only; split)))

theorem Dev.saRoll_mem (d : Dev) (welbor : Bool) (s : ℕ) (hw : (d.mask notMemory).memoryWf = true) : ((Dev.saRoll d welbor s).2.mask notMemory).memoryWf = true := by
  unfold Dev.saRoll
  all_goals (repeat' (first | with_reducible assumption | intro _ | (simp (disch := decide) only [Dev.noteSa_mask]) | with_reducible apply Dev.rollSa_mem | split | (dsimp only; split)))

theorem Dev.saWrite_mem (d : Dev) (welbor : Bool) (s : ℕ) (w : List ℕ) (hw : (d.mask notMemory).memoryWf = true) : ((Dev.saWrite d welbor s w).2.mask notMemory).memoryWf = true := by
  unfold Dev.saWrite
  all_goals (repeat' (first | with_reducible assumption | intro _ | (simp (disch := decide) only [Dev.noteSa_mask, Dev.renewLines_mask, Dev.setSxp_mask]) | with_reducible apply Dev.gwrite_mem | with_reducible apply Dev.saSet_mem | with_reducible apply Dev.mem_foldl | split | (dsimp only; split)))

theorem Dev.sesOp_mem (d : Dev) (op : ℕ) (free : Bool) (good : Dev → ℕ → Bool) (f : Dev → ℕ → Dev) (hf : ∀ d a0, (d.mask notMemory).memoryWf = true → ((f d a0).mask notMemory).memoryWf = true) (hw : (d.mask notMemory).memoryWf = true) : ((Dev.sesOp d op free good f).mask notMemory).memoryWf = true := by
  unfold Dev.sesOp
  all_goals (repeat' (first | with_reducible assumption | with_reducible apply hf | intro _ | (simp (disch := decide) only [Dev.noteSes_mask]) | with_reducible apply Dev.portExec_mem | split | (dsimp only; split)))

theorem Dev.sesClose_mem (d : Dev) (hw : (d.mask notMemory).memoryWf = true) : ((Dev.sesClose d).mask notMemory).memoryWf = true := by
  unfold Dev.sesClose
  all_goals (repeat' (first | with_reducible assumption | intro _ | (simp (disch := decide) only [Dev.endWaiting_mask]) | with_reducible apply Dev.sesOp_mem | with_reducible apply Dev.setSesState_mem | split | (dsimp only; split)))

theorem Dev.sesGo_mem (d : Dev) (hw : (d.mask notMemory).memoryWf = true) : ((Dev.sesGo d).mask notMemory).memoryWf = true := by
  unfold Dev.sesGo
  all_goals (repeat' (first | with_reducible assumption | intro _ | with_reducible apply Dev.sesOp_mem | with_reducible apply Dev.sendIcReq_mem | split | (dsimp only; split)))

theorem Dev.sesReset_mem (d : Dev) (hw : (d.mask notMemory).memoryWf = true) : ((Dev.sesReset d).mask notMemory).memoryWf = true := by
  unfold Dev.sesReset
  all_goals (repeat' (first | with_reducible assumption | intro _ | with_reducible apply Dev.sesOp_mem | with_reducible apply Dev.resetSession_mem | split | (dsimp only; split)))

theorem Dev.sesWrite_mem (d : Dev) (welbor : Bool) (s : ℕ) (w : List ℕ) (hw : (d.mask notMemory).memoryWf = true) : ((Dev.sesWrite d welbor s w).2.mask notMemory).memoryWf = true := by
  unfold Dev.sesWrite
  all_goals (repeat' (first | with_reducible assumption | intro _ | (simp (disch := decide) only [Dev.mask_sto]) | with_reducible apply Dev.gsetWords_mem | split | (dsimp only; split)))

theorem Dev.sitOp_mem (d : Dev) (n : ℕ) (op : ℕ) (f : Dev → ℕ → ℕ → List Word → Dev) (hf : ∀ d a0 a1 a2, (d.mask notMemory).memoryWf = true → ((f d a0 a1 a2).mask notMemory).memoryWf = true) (hw : (d.mask notMemory).memoryWf = true) : ((Dev.sitOp d n op f).mask notMemory).memoryWf = true := by
  unfold Dev.sitOp
  all_goals (repeat' (first | with_reducible assumption | with_reducible apply hf | intro _ | (simp (disch := decide) only [Dev.confRefused_mask]) | with_reducible apply Dev.portExec_mem | split | (dsimp only; split)))

theorem Dev.spdmServe_mem (d : Dev) (via : Transport) (need : ℕ) (f : Dev → Dev) (hf : ∀ d, (d.mask notMemory).memoryWf = true → ((f d).mask notMemory).memoryWf = true) (hw : (d.mask notMemory).memoryWf = true) : ((Dev.spdmServe d via need f).mask notMemory).memoryWf = true := by
  unfold Dev.spdmServe
  all_goals (repeat' (first | with_reducible assumption | with_reducible apply hf | intro _ | (simp (disch := decide) only [Dev.spdmError_mask]) | split | (dsimp only; split)))

theorem Dev.startInterface_mem (d : Dev) (s : ℕ) (hw : (d.mask notMemory).memoryWf = true) : ((Dev.startInterface d s).mask notMemory).memoryWf = true := by
  unfold Dev.startInterface
  all_goals (repeat' (first | with_reducible assumption | intro _ | (simp (disch := decide) only [Dev.emit_mask]) | with_reducible apply Dev.setTdi_mem | split | (dsimp only; split)))

theorem Dev.stopInterface_mem (d : Dev) (s : ℕ) (hw : (d.mask notMemory).memoryWf = true) : ((Dev.stopInterface d s).mask notMemory).memoryWf = true := by
  unfold Dev.stopInterface
  all_goals (repeat' (first | with_reducible assumption | intro _ | (simp (disch := decide) only [Dev.emit_mask]) | with_reducible apply Dev.setTdi_mem | split | (dsimp only; split)))

theorem Dev.timCommit_mem (d : Dev) (req : Requester) (index : ℕ) (f : Dev → ℕ → Dev) (hf : ∀ d a0, (d.mask notMemory).memoryWf = true → ((f d a0).mask notMemory).memoryWf = true) (hw : (d.mask notMemory).memoryWf = true) : ((Dev.timCommit d req index f).mask notMemory).memoryWf = true := by
  unfold Dev.timCommit
  all_goals (repeat' (first | with_reducible assumption | with_reducible apply hf | intro _ | (simp (disch := decide) only [Dev.wmbSelect_mask, Dev.wmbDone_mask]) | with_reducible apply Dev.onWrite_mem | split | (dsimp only; split)))

theorem Dev.timeoutWire_mem (d : Dev) (n : ℕ) (hw : (d.mask notMemory).memoryWf = true) : ((Dev.timeoutWire d n).mask notMemory).memoryWf = true := by
  unfold Dev.timeoutWire
  all_goals (repeat' (first | with_reducible assumption | intro _ | (simp (disch := decide) only [Dev.dropWire_mask]) | with_reducible apply Dev.releaseSlot_mem | with_reducible apply Dev.failSession_mem | split | (dsimp only; split)))

theorem Dev.traceRecord_mem (d : Dev) (hw : (d.mask notMemory).memoryWf = true) : ((Dev.traceRecord d).mask notMemory).memoryWf = true := by
  unfold Dev.traceRecord
  all_goals (repeat' (first | with_reducible assumption | intro _ | (simp (disch := decide) only [Dev.mask_traceQ, Dev.pulse_mask, Dev.fset_mask]) | with_reducible apply Dev.hwrite_mem | split | (dsimp only; split)))

theorem Dev.vendorInstall_mem (d : Dev) (r : VendorRequest) (owner : Option ℕ) (hw : (d.mask notMemory).memoryWf = true) : ((Dev.vendorInstall d r owner).2.2.mask notMemory).memoryWf = true := by
  unfold Dev.vendorInstall
  all_goals (repeat' (first | with_reducible assumption | intro _ | (simp (disch := decide) only [Dev.portEnd_mask, Dev.clearKbuf_mask]) | with_reducible apply Dev.keyInstall_mem | with_reducible apply Dev.mem_getD | with_reducible apply Dev.mem_getD_pair | split | (dsimp only; split)))

theorem Dev.vendorQueue_mem (d : Dev) (r : VendorRequest) (s : ℕ) (hw : (d.mask notMemory).memoryWf = true) : ((Dev.vendorQueue d r s).2.2.mask notMemory).memoryWf = true := by
  unfold Dev.vendorQueue
  all_goals (repeat' (first | with_reducible assumption | intro _ | (simp (disch := decide) only [Dev.portEnd_mask, Dev.readQueue_mask]) | with_reducible apply Dev.createQueue_mem | with_reducible apply Dev.modifyQueue_mem | with_reducible apply Dev.destroyQueue_mem | split | (dsimp only; split)))

theorem Dev.vendorSa_mem (d : Dev) (r : VendorRequest) (s : ℕ) (f : ℕ → ℕ × List Byte × Dev) (hf : ∀ a0, ((f a0).2.2.mask notMemory).memoryWf = true) (hw : (d.mask notMemory).memoryWf = true) : ((Dev.vendorSa d r s f).2.2.mask notMemory).memoryWf = true := by
  unfold Dev.vendorSa
  all_goals (repeat' (first | with_reducible assumption | with_reducible apply hf | intro _ | (simp (disch := decide) only [Dev.noteSa_mask, Dev.portEnd_mask]) | split | (dsimp only; split)))

theorem Dev.vendorSaWrite_mem (d : Dev) (r : VendorRequest) (s : ℕ) (hw : (d.mask notMemory).memoryWf = true) : ((Dev.vendorSaWrite d r s).2.2.mask notMemory).memoryWf = true := by
  unfold Dev.vendorSaWrite
  all_goals (repeat' (first | with_reducible assumption | intro _ | (simp (disch := decide) only [Dev.portEnd_mask]) | with_reducible apply Dev.saWrite_mem | split | (dsimp only; split)))

theorem Dev.vendorServe_mem (d : Dev) (op : ℕ) (ports : List PortInfo) (pf0 : Bool) (f : Dev → VendorRequest → Option ℕ → ℕ × List Byte × Dev) (hf : ∀ d a0 a1, (d.mask notMemory).memoryWf = true → ((f d a0 a1).2.2.mask notMemory).memoryWf = true) (hw : (d.mask notMemory).memoryWf = true) : ((Dev.vendorServe d op ports pf0 f).mask notMemory).memoryWf = true := by
  unfold Dev.vendorServe
  all_goals (repeat' (first | with_reducible assumption | with_reducible apply hf | intro _ | (simp (disch := decide) only [Dev.setWel_mask, Dev.vendorAnswer_mask]) | split | (dsimp only; split)))

theorem Dev.vendorSes_mem (d : Dev) (r : VendorRequest) (s : ℕ) (hw : (d.mask notMemory).memoryWf = true) : ((Dev.vendorSes d r s).2.2.mask notMemory).memoryWf = true := by
  unfold Dev.vendorSes
  all_goals (repeat' (first | with_reducible assumption | intro _ | (simp (disch := decide) only [Dev.setPort_mask]) | with_reducible apply Dev.sesGo_mem | with_reducible apply Dev.sesClose_mem | with_reducible apply Dev.sesReset_mem | split | (dsimp only; split)))

theorem Dev.volBindKey_mem (d : Dev) (v : ℕ) (b : List ℕ) (hw : (d.mask notMemory).memoryWf = true) : ((Dev.volBindKey d v b).2.mask notMemory).memoryWf = true := by
  unfold Dev.volBindKey
  all_goals (repeat' (first | with_reducible assumption | intro _ | with_reducible apply Dev.gsetWords_mem | split | (dsimp only; split)))

theorem Dev.vendorVolBind_mem (d : Dev) (r : VendorRequest) (s : ℕ) (hw : (d.mask notMemory).memoryWf = true) : ((Dev.vendorVolBind d r s).2.2.mask notMemory).memoryWf = true := by
  unfold Dev.vendorVolBind
  all_goals (repeat' (first | with_reducible assumption | intro _ | (simp (disch := decide) only [Dev.portEnd_mask]) | with_reducible apply Dev.volBindKey_mem | split | (dsimp only; split)))

theorem Dev.volDisable_mem (d : Dev) (v : ℕ) (hw : (d.mask notMemory).memoryWf = true) : ((Dev.volDisable d v).mask notMemory).memoryWf = true := by
  unfold Dev.volDisable
  all_goals (repeat' (first | with_reducible assumption | intro _ | with_reducible apply Dev.gsetWords_mem | split | (dsimp only; split)))

theorem Dev.volWrite_mem (d : Dev) (welbor : Bool) (v : ℕ) (w : List ℕ) (hw : (d.mask notMemory).memoryWf = true) : ((Dev.volWrite d welbor v w).2.mask notMemory).memoryWf = true := by
  unfold Dev.volWrite
  all_goals (repeat' (first | with_reducible assumption | intro _ | with_reducible apply Dev.gsetWords_mem | split | (dsimp only; split)))

theorem Dev.windowWrite_mem (d : Dev) (port : ℕ) (slice : ℕ) (off : ℕ) (rid : ℕ) (w : ℕ) (m : ℕ) (hw : (d.mask notMemory).memoryWf = true) : ((Dev.windowWrite d port slice off rid w m).mask notMemory).memoryWf = true := by
  unfold Dev.windowWrite
  all_goals (repeat' (first | with_reducible assumption | intro _ | (simp (disch := decide) only [Dev.dropDoorbell_mask, Dev.mailStage_mask, Dev.mailSend_mask, Dev.mailPop_mask, Dev.sitMask_mask]) | with_reducible apply Dev.doorbellWrite_mem | with_reducible apply Dev.onMail_mem | with_reducible apply Dev.mem_getD | with_reducible apply Dev.mem_getD_pair | split | (dsimp only; split)))

theorem Dev.windowAccess_mem (d : Dev) (port : ℕ) (slice : ℕ) (off : ℕ) (rid : ℕ) (write : Bool) (w : ℕ) (m : ℕ) (stream : Option ℕ) (tbit : Bool) (hw : (d.mask notMemory).memoryWf = true) : ((Dev.windowAccess d port slice off rid write w m stream tbit).mask notMemory).memoryWf = true := by
  unfold Dev.windowAccess
  all_goals (repeat' (first | with_reducible assumption | intro _ | (simp (disch := decide) only [Dev.windowRead_mask, Dev.count_mask, Dev.emit_mask, Dev.aerError_mask, Dev.pulse_mask, Dev.confRefused_mask]) | with_reducible apply Dev.windowWrite_mem | split | (dsimp only; split)))

theorem Dev.writeOutside_mem (d : Dev) (req : Requester) (addr : ℕ) (v : ℕ) (m : ℕ) (hw : (d.mask notMemory).memoryWf = true) : ((Dev.writeOutside d req addr v m).mask notMemory).memoryWf = true := by
  unfold Dev.writeOutside
  all_goals (repeat' (first | with_reducible assumption | intro _ | (simp (disch := decide) only [Dev.msixWrite_mask, Dev.configWrite_mask, Dev.dropDoorbell_mask, Dev.linkUp_mask]) | with_reducible apply Dev.doorbellWrite_mem | split | (dsimp only; split)))

theorem Dev.writeAt_mem (d : Dev) (req : Requester) (addr : ℕ) (v : ℕ) (m : ℕ) (hw : (d.mask notMemory).memoryWf = true) : ((Dev.writeAt d req addr v m).mask notMemory).memoryWf = true := by
  unfold Dev.writeAt
  all_goals (repeat' (first | with_reducible assumption | intro _ | with_reducible apply Dev.writeOutside_mem | with_reducible apply Dev.broadcastWrite_mem | with_reducible apply Dev.onWrite_mem | with_reducible apply Dev.writeReg_mem | split | (dsimp only; split)))

theorem Dev.writeCompletion_mem (d0 : Dev) (q : ℕ) (hw : (d0.mask notMemory).memoryWf = true) : ((Dev.writeCompletion d0 q).mask notMemory).memoryWf = true := by
  unfold Dev.writeCompletion
  all_goals (repeat' (first | with_reducible assumption | intro _ | (simp (disch := decide) only [Dev.abortUnfetched_mask, Dev.takeSent_mask, Dev.releaseSlice_mask, Dev.discardLate_mask, Dev.setQueue_mask, Dev.discardStale_mask, Dev.countRxWire_mask, Dev.wcount_mask, Dev.countIrq_mask]) | with_reducible apply Dev.settle_mem | with_reducible apply Dev.hwrite_mem | split | (dsimp only; split)))

theorem Dev.writeNote_mem (d : Dev) (hw : (d.mask notMemory).memoryWf = true) : ((Dev.writeNote d).mask notMemory).memoryWf = true := by
  unfold Dev.writeNote
  all_goals (repeat' (first | with_reducible assumption | intro _ | (simp (disch := decide) only [Dev.mask_noteQ, Dev.fset_mask, Dev.pulse_mask, Dev.count_mask]) | with_reducible apply Dev.hwrite_mem | split | (dsimp only; split)))

theorem Dev.zeroiseRetired_mem (d : Dev) (s : ℕ) (hw : (d.mask notMemory).memoryWf = true) : ((Dev.zeroiseRetired d s).mask notMemory).memoryWf = true := by
  unfold Dev.zeroiseRetired
  all_goals (repeat' (first | with_reducible assumption | intro _ | with_reducible apply Dev.zeroiseSlot_mem | split | (dsimp only; split)))

theorem State.become_mem {s t : State} {d : Dev} (h : s.become d = .next t) (hd : (d.mask notMemory).memoryWf = true) : t.dev.memoryWf = true := by
  cases h
  exact hd
theorem execAgeRefresh_mem {s : State} {t : State} (w : s.dev.memoryWf = true) (h : execAgeRefresh s = .next t) : t.dev.memoryWf = true := by
  refine State.become_mem h ?_
  rw [← Dev.memoryWf_mask] at w
  clear h
  repeat' (first | with_reducible assumption | intro _ | with_reducible apply Dev.refreshAge_mem | split | (dsimp only; split))
theorem execAuxPowerLoss_mem {s : State} {t : State} (w : s.dev.memoryWf = true) (h : execAuxPowerLoss s = .next t) : t.dev.memoryWf = true := by
  refine State.become_mem h ?_
  rw [← Dev.memoryWf_mask] at w
  clear h
  repeat' (first | with_reducible assumption | intro _ | with_reducible apply Dev.auxLoss_mem | split | (dsimp only; split))
theorem execBootStageEnd_mem {pass : Bool} {images : List BootImage} {s : State} {t : State} (w : s.dev.memoryWf = true) (h : execBootStageEnd pass images s = .next t) : t.dev.memoryWf = true := by
  refine State.become_mem h ?_
  rw [← Dev.memoryWf_mask] at w
  clear h
  repeat' (first | with_reducible assumption | intro _ | with_reducible apply Dev.endStage_mem | split | (dsimp only; split))
theorem execBroadcastWrite_mem {req : Requester} {addr : Nat} {value : Word} {be : BitVec 4} {s : State} {t : State} (w : s.dev.memoryWf = true) (h : execBroadcastWrite req addr value be s = .next t) : t.dev.memoryWf = true := by
  refine State.become_mem h ?_
  rw [← Dev.memoryWf_mask] at w
  clear h
  repeat' (first | with_reducible assumption | intro _ | with_reducible apply Dev.broadcastWrite_mem | split | (dsimp only; split))
theorem execBurstIssue_mem {mover : Nat} {portReady : Bool} {answer : HostAnswer} {s : State} {t : State} (w : s.dev.memoryWf = true) (h : execBurstIssue mover portReady answer s = .next t) : t.dev.memoryWf = true := by
  refine State.become_mem h ?_
  rw [← Dev.memoryWf_mask] at w
  clear h
  repeat' (first | with_reducible assumption | intro _ | with_reducible apply Dev.issueBurst_mem | split | (dsimp only; split))
theorem execBusHoldUpExpiry_mem {s : State} {t : State} (w : s.dev.memoryWf = true) (h : execBusHoldUpExpiry s = .next t) : t.dev.memoryWf = true := by
  refine State.become_mem h ?_
  rw [← Dev.memoryWf_mask] at w
  clear h
  repeat' (first | with_reducible assumption | intro _ | with_reducible apply Dev.powerLost_mem | split | (dsimp only; split))
theorem execC2hdataReceive_mem {session : Nat} {s : State} {t : State} (w : s.dev.memoryWf = true) (h : execC2hdataReceive session s = .next t) : t.dev.memoryWf = true := by
  refine State.become_mem h ?_
  rw [← Dev.memoryWf_mask] at w
  clear h
  repeat' (first | with_reducible assumption | intro _ | with_reducible apply Dev.receiveData_mem | split | (dsimp only; split))
theorem execC2htermreqReceive_mem {session : Nat} {s : State} {t : State} (w : s.dev.memoryWf = true) (h : execC2htermreqReceive session s = .next t) : t.dev.memoryWf = true := by
  refine State.become_mem h ?_
  rw [← Dev.memoryWf_mask] at w
  clear h
  repeat' (first | with_reducible assumption | intro _ | with_reducible apply Dev.receiveTerm_mem | split | (dsimp only; split))
theorem execCapsuleRespReceive_mem {session : Nat} {s : State} {t : State} (w : s.dev.memoryWf = true) (h : execCapsuleRespReceive session s = .next t) : t.dev.memoryWf = true := by
  refine State.become_mem h ?_
  rw [← Dev.memoryWf_mask] at w
  clear h
  repeat' (first | with_reducible assumption | intro _ | with_reducible apply Dev.receiveResponse_mem | split | (dsimp only; split))
theorem execClearSlot_mem {s : State} {t : State} (w : s.dev.memoryWf = true) (h : execClearSlot s = .next t) : t.dev.memoryWf = true := by
  refine State.become_mem h ?_
  rw [← Dev.memoryWf_mask] at w
  clear h
  repeat' (first | with_reducible assumption | intro _ | with_reducible apply Dev.opClear_mem | with_reducible apply Dev.portExec_mem | split | (dsimp only; split))
theorem execCmdTimeout_mem {wire : Nat} {s : State} {t : State} (w : s.dev.memoryWf = true) (h : execCmdTimeout wire s = .next t) : t.dev.memoryWf = true := by
  refine State.become_mem h ?_
  rw [← Dev.memoryWf_mask] at w
  clear h
  repeat' (first | with_reducible assumption | intro _ | with_reducible apply Dev.timeoutWire_mem | split | (dsimp only; split))
theorem execCntPreset_mem {s : State} {t : State} (w : s.dev.memoryWf = true) (h : execCntPreset s = .next t) : t.dev.memoryWf = true := by
  refine State.become_mem h ?_
  rw [← Dev.memoryWf_mask] at w
  clear h
  repeat' (first | with_reducible assumption | intro _ | with_reducible apply Dev.gsetWords_mem | with_reducible apply Dev.portExec_mem | split | (dsimp only; split))
theorem execCntReadClear_mem {s : State} {t : State} (w : s.dev.memoryWf = true) (h : execCntReadClear s = .next t) : t.dev.memoryWf = true := by
  refine State.become_mem h ?_
  rw [← Dev.memoryWf_mask] at w
  clear h
  repeat' (first | with_reducible assumption | intro _ | (simp (disch := decide) only [Dev.actgResult_mask]) | with_reducible apply Dev.gsetWords_mem | with_reducible apply Dev.portExec_mem | split | (dsimp only; split))
theorem execCompareAndClear_mem {s : State} {t : State} (w : s.dev.memoryWf = true) (h : execCompareAndClear s = .next t) : t.dev.memoryWf = true := by
  refine State.become_mem h ?_
  rw [← Dev.memoryWf_mask] at w
  clear h
  repeat' (first | with_reducible assumption | intro _ | with_reducible apply Dev.compareClear_mem | split | (dsimp only; split))
theorem execCompletionTimeout_mem {port : Nat} {target : ReadTarget} {s : State} {t : State} (w : s.dev.memoryWf = true) (h : execCompletionTimeout port target s = .next t) : t.dev.memoryWf = true := by
  refine State.become_mem h ?_
  rw [← Dev.memoryWf_mask] at w
  clear h
  repeat' (first | with_reducible assumption | intro _ | with_reducible apply Dev.readTimeout_mem | split | (dsimp only; split))
theorem execCompletionWrite_mem {queue : Nat} {s : State} {t : State} (w : s.dev.memoryWf = true) (h : execCompletionWrite queue s = .next t) : t.dev.memoryWf = true := by
  refine State.become_mem h ?_
  rw [← Dev.memoryWf_mask] at w
  clear h
  repeat' (first | with_reducible assumption | intro _ | with_reducible apply Dev.writeCompletion_mem | split | (dsimp only; split))
theorem execCounterUpdate_mem {lane : Nat} {s : State} {t : State} (w : s.dev.memoryWf = true) (h : execCounterUpdate lane s = .next t) : t.dev.memoryWf = true := by
  refine State.become_mem h ?_
  rw [← Dev.memoryWf_mask] at w
  clear h
  repeat' (first | with_reducible assumption | intro _ | with_reducible apply Dev.counterStep_mem | split | (dsimp only; split))
theorem execCqCiDoorbell_mem {port queue : Nat} {owner : Option Nat} {value : BitVec 17} {s : State} {t : State} (w : s.dev.memoryWf = true) (h : execCqCiDoorbell port queue owner value s = .next t) : t.dev.memoryWf = true := by
  refine State.become_mem h ?_
  rw [← Dev.memoryWf_mask] at w
  clear h
  repeat' (first | with_reducible assumption | intro _ | with_reducible apply Dev.doorbellWrite_mem | split | (dsimp only; split))
theorem execCrossingParityError_mem {page sender : Nat} {retryGood : Bool} {s : State} {t : State} (w : s.dev.memoryWf = true) (h : execCrossingParityError page sender retryGood s = .next t) : t.dev.memoryWf = true := by
  refine State.become_mem h ?_
  rw [← Dev.memoryWf_mask] at w
  clear h
  repeat' (first | with_reducible assumption | intro _ | with_reducible apply Dev.crossingError_mem | split | (dsimp only; split))
theorem execDelete_mem {s : State} {t : State} (w : s.dev.memoryWf = true) (h : execDelete s = .next t) : t.dev.memoryWf = true := by
  refine State.become_mem h ?_
  rw [← Dev.memoryWf_mask] at w
  clear h
  repeat' (first | with_reducible assumption | intro _ | with_reducible apply Dev.opDelete_mem | with_reducible apply Dev.portExec_mem | split | (dsimp only; split))
theorem execDeviceReset_mem {req : Requester} {confirm : BitVec 16} {s : State} {t : State} (w : s.dev.memoryWf = true) (h : execDeviceReset req confirm s = .next t) : t.dev.memoryWf = true := by
  refine State.become_mem h ?_
  rw [← Dev.memoryWf_mask] at w
  clear h
  repeat' (first | with_reducible assumption | intro _ | with_reducible apply Dev.deviceReset_mem | with_reducible apply Dev.onWrite_mem | split | (dsimp only; split))
theorem execEntryFetch_mem {queue : Nat} {answer : HostAnswer} {s : State} {t : State} (w : s.dev.memoryWf = true) (h : execEntryFetch queue answer s = .next t) : t.dev.memoryWf = true := by
  refine State.become_mem h ?_
  rw [← Dev.memoryWf_mask] at w
  clear h
  repeat' (first | with_reducible assumption | intro _ | with_reducible apply Dev.fetchEntry_mem | split | (dsimp only; split))
theorem execFence_mem {pair : Nat} {s : State} {t : State} (w : s.dev.memoryWf = true) (h : execFence pair s = .next t) : t.dev.memoryWf = true := by
  refine State.become_mem h ?_
  rw [← Dev.memoryWf_mask] at w
  clear h
  repeat' (first | with_reducible assumption | intro _ | with_reducible apply Dev.drainPair_mem | split | (dsimp only; split))
theorem execFramePlacement_mem {queue : Nat} {s : State} {t : State} (w : s.dev.memoryWf = true) (h : execFramePlacement queue s = .next t) : t.dev.memoryWf = true := by
  refine State.become_mem h ?_
  rw [← Dev.memoryWf_mask] at w
  clear h
  repeat' (first | with_reducible assumption | intro _ | with_reducible apply Dev.placeFrame_mem | split | (dsimp only; split))
theorem execFunctionLevelReset_mem {port pf : Nat} {s : State} {t : State} (w : s.dev.memoryWf = true) (h : execFunctionLevelReset port pf s = .next t) : t.dev.memoryWf = true := by
  refine State.become_mem h ?_
  rw [← Dev.memoryWf_mask] at w
  clear h
  repeat' (first | with_reducible assumption | intro _ | with_reducible apply Dev.resetFunction_mem | split | (dsimp only; split))
theorem execFwReady_mem {result : Nat} {failed : List Nat} {s : State} {t : State} (w : s.dev.memoryWf = true) (h : execFwReady result failed s = .next t) : t.dev.memoryWf = true := by
  refine State.become_mem h ?_
  rw [← Dev.memoryWf_mask] at w
  clear h
  repeat' (first | with_reducible assumption | intro _ | with_reducible apply Dev.fwReady_mem | split | (dsimp only; split))
theorem execHostPortReset_mem {req : Requester} {kind : BitVec 4} {confirm : BitVec 16} {s : State} {t : State} (w : s.dev.memoryWf = true) (h : execHostPortReset req kind confirm s = .next t) : t.dev.memoryWf = true := by
  refine State.become_mem h ?_
  rw [← Dev.memoryWf_mask] at w
  clear h
  repeat' (first | with_reducible assumption | intro _ | with_reducible apply Dev.deviceReset_mem | with_reducible apply Dev.onWrite_mem | with_reducible apply Dev.portReset_mem | split | (dsimp only; split))
theorem execIcrespReceive_mem {session : Nat} {s : State} {t : State} (w : s.dev.memoryWf = true) (h : execIcrespReceive session s = .next t) : t.dev.memoryWf = true := by
  refine State.become_mem h ?_
  rw [← Dev.memoryWf_mask] at w
  clear h
  repeat' (first | with_reducible assumption | intro _ | with_reducible apply Dev.receiveIcResp_mem | split | (dsimp only; split))
theorem execIdeIntegrityFailure_mem {port stream : Nat} {s : State} {t : State} (w : s.dev.memoryWf = true) (h : execIdeIntegrityFailure port stream s = .next t) : t.dev.memoryWf = true := by
  refine State.become_mem h ?_
  rw [← Dev.memoryWf_mask] at w
  clear h
  repeat' (first | with_reducible assumption | intro _ | with_reducible apply Dev.ideFailure_mem | split | (dsimp only; split))
theorem execInsert_mem {s : State} {t : State} (w : s.dev.memoryWf = true) (h : execInsert s = .next t) : t.dev.memoryWf = true := by
  refine State.become_mem h ?_
  rw [← Dev.memoryWf_mask] at w
  clear h
  repeat' (first | with_reducible assumption | intro _ | with_reducible apply Dev.opInsert_mem | with_reducible apply Dev.portExec_mem | split | (dsimp only; split))
theorem execInsertNoevict_mem {s : State} {t : State} (w : s.dev.memoryWf = true) (h : execInsertNoevict s = .next t) : t.dev.memoryWf = true := by
  refine State.become_mem h ?_
  rw [← Dev.memoryWf_mask] at w
  clear h
  repeat' (first | with_reducible assumption | intro _ | with_reducible apply Dev.opInsert_mem | with_reducible apply Dev.portExec_mem | split | (dsimp only; split))
theorem execInstall_mem {s : State} {t : State} (w : s.dev.memoryWf = true) (h : execInstall s = .next t) : t.dev.memoryWf = true := by
  refine State.become_mem h ?_
  rw [← Dev.memoryWf_mask] at w
  clear h
  repeat' (first | with_reducible assumption | intro _ | (simp (disch := decide) only [Dev.clearKbuf_mask]) | with_reducible apply Dev.keyInstall_mem | with_reducible apply Dev.portExec_mem | split | (dsimp only; split))
theorem execKeyInstall_mem {s : State} {t : State} (w : s.dev.memoryWf = true) (h : execKeyInstall s = .next t) : t.dev.memoryWf = true := by
  refine State.become_mem h ?_
  rw [← Dev.memoryWf_mask] at w
  clear h
  repeat' (first | with_reducible assumption | intro _ | with_reducible apply Dev.vendorInstall_mem | with_reducible apply Dev.vendorServe_mem | split | (dsimp only; split))
theorem execKeyUnwrap_mem {s : State} {t : State} (w : s.dev.memoryWf = true) (h : execKeyUnwrap s = .next t) : t.dev.memoryWf = true := by
  refine State.become_mem h ?_
  rw [← Dev.memoryWf_mask] at w
  clear h
  repeat' (first | with_reducible assumption | intro _ | with_reducible apply Dev.completeUnwrap_mem | split | (dsimp only; split))
theorem execLearnExecute_mem {s : State} {t : State} (w : s.dev.memoryWf = true) (h : execLearnExecute s = .next t) : t.dev.memoryWf = true := by
  refine State.become_mem h ?_
  rw [← Dev.memoryWf_mask] at w
  clear h
  repeat' (first | with_reducible assumption | intro _ | with_reducible apply Dev.executeLearn_mem | split | (dsimp only; split))
theorem execLehrJobEnd_mem {job : Nat} {failed : Option Nat} {s : State} {t : State} (w : s.dev.memoryWf = true) (h : execLehrJobEnd job failed s = .next t) : t.dev.memoryWf = true := by
  refine State.become_mem h ?_
  rw [← Dev.memoryWf_mask] at w
  clear h
  repeat' (first | with_reducible assumption | intro _ | with_reducible apply Dev.lehrEnd_mem | split | (dsimp only; split))
theorem execLehrJobSubmit_mem {s : State} {t : State} (w : s.dev.memoryWf = true) (h : execLehrJobSubmit s = .next t) : t.dev.memoryWf = true := by
  refine State.become_mem h ?_
  rw [← Dev.memoryWf_mask] at w
  clear h
  repeat' (first | with_reducible assumption | intro _ | with_reducible apply Dev.lehrSubmit_mem | split | (dsimp only; split))
theorem execLinkDown_mem {port : Nat} {s : State} {t : State} (w : s.dev.memoryWf = true) (h : execLinkDown port s = .next t) : t.dev.memoryWf = true := by
  refine State.become_mem h ?_
  rw [← Dev.memoryWf_mask] at w
  clear h
  repeat' (first | with_reducible assumption | intro _ | with_reducible apply Dev.linkDown_mem | split | (dsimp only; split))
theorem execLockInterfaceRequest_mem {slice stream : Nat} {s : State} {t : State} (w : s.dev.memoryWf = true) (h : execLockInterfaceRequest slice stream s = .next t) : t.dev.memoryWf = true := by
  refine State.become_mem h ?_
  rw [← Dev.memoryWf_mask] at w
  clear h
  repeat' (first | with_reducible assumption | intro _ | with_reducible apply Dev.lockInterface_mem | split | (dsimp only; split))
theorem execLogicParityFault_mem {page checkPoint : Nat} {s : State} {t : State} (w : s.dev.memoryWf = true) (h : execLogicParityFault page checkPoint s = .next t) : t.dev.memoryWf = true := by
  refine State.become_mem h ?_
  rw [← Dev.memoryWf_mask] at w
  clear h
  repeat' (first | with_reducible assumption | intro _ | with_reducible apply Dev.logicFault_mem | split | (dsimp only; split))
theorem execMeterDisable_mem {s : State} {t : State} (w : s.dev.memoryWf = true) (h : execMeterDisable s = .next t) : t.dev.memoryWf = true := by
  refine State.become_mem h ?_
  rw [← Dev.memoryWf_mask] at w
  clear h
  repeat' (first | with_reducible assumption | intro _ | with_reducible apply Dev.meterDisable_mem | with_reducible apply Dev.portExec_mem | split | (dsimp only; split))
theorem execMeterUpdate_mem {packet : Nat} {s : State} {t : State} (w : s.dev.memoryWf = true) (h : execMeterUpdate packet s = .next t) : t.dev.memoryWf = true := by
  refine State.become_mem h ?_
  rw [← Dev.memoryWf_mask] at w
  clear h
  repeat' (first | with_reducible assumption | intro _ | with_reducible apply Dev.meterStep_mem | split | (dsimp only; split))
theorem execMeterWrite_mem {s : State} {t : State} (w : s.dev.memoryWf = true) (h : execMeterWrite s = .next t) : t.dev.memoryWf = true := by
  refine State.become_mem h ?_
  rw [← Dev.memoryWf_mask] at w
  clear h
  repeat' (first | with_reducible assumption | intro _ | with_reducible apply Dev.meterWrite_mem | with_reducible apply Dev.portExec_mem | split | (dsimp only; split))
theorem execMove_mem {channel mover : Nat} {answer : HostAnswer} {s : State} {t : State} (w : s.dev.memoryWf = true) (h : execMove channel mover answer s = .next t) : t.dev.memoryWf = true := by
  refine State.become_mem h ?_
  rw [← Dev.memoryWf_mask] at w
  clear h
  repeat' (first | with_reducible assumption | intro _ | with_reducible apply Dev.fwMove_mem | split | (dsimp only; split))
theorem execNotificationRecordWrite_mem {s : State} {t : State} (w : s.dev.memoryWf = true) (h : execNotificationRecordWrite s = .next t) : t.dev.memoryWf = true := by
  refine State.become_mem h ?_
  rw [← Dev.memoryWf_mask] at w
  clear h
  repeat' (first | with_reducible assumption | intro _ | with_reducible apply Dev.writeNote_mem | split | (dsimp only; split))
theorem execPageRequestTimeout_mem {port group : Nat} {s : State} {t : State} (w : s.dev.memoryWf = true) (h : execPageRequestTimeout port group s = .next t) : t.dev.memoryWf = true := by
  refine State.become_mem h ?_
  rw [← Dev.memoryWf_mask] at w
  clear h
  repeat' (first | with_reducible assumption | intro _ | with_reducible apply Dev.groupTimeout_mem | split | (dsimp only; split))
theorem execPerstAssert_mem {port : Nat} {s : State} {t : State} (w : s.dev.memoryWf = true) (h : execPerstAssert port s = .next t) : t.dev.memoryWf = true := by
  refine State.become_mem h ?_
  rw [← Dev.memoryWf_mask] at w
  clear h
  repeat' (first | with_reducible assumption | intro _ | with_reducible apply Dev.perstOn_mem | split | (dsimp only; split))
theorem execPrgResponse_mem {port group : Nat} {success : Bool} {s : State} {t : State} (w : s.dev.memoryWf = true) (h : execPrgResponse port group success s = .next t) : t.dev.memoryWf = true := by
  refine State.become_mem h ?_
  rw [← Dev.memoryWf_mask] at w
  clear h
  repeat' (first | with_reducible assumption | intro _ | with_reducible apply Dev.groupResponse_mem | split | (dsimp only; split))
theorem execQueCreate_mem {s : State} {t : State} (w : s.dev.memoryWf = true) (h : execQueCreate s = .next t) : t.dev.memoryWf = true := by
  refine State.become_mem h ?_
  rw [← Dev.memoryWf_mask] at w
  clear h
  repeat' (first | with_reducible assumption | intro _ | with_reducible apply Dev.createQueue_mem | with_reducible apply Dev.queOp_mem | split | (dsimp only; split))
theorem execQueDestroy_mem {s : State} {t : State} (w : s.dev.memoryWf = true) (h : execQueDestroy s = .next t) : t.dev.memoryWf = true := by
  refine State.become_mem h ?_
  rw [← Dev.memoryWf_mask] at w
  clear h
  repeat' (first | with_reducible assumption | intro _ | with_reducible apply Dev.destroyQueue_mem | with_reducible apply Dev.queOp_mem | split | (dsimp only; split))
theorem execQueModify_mem {s : State} {t : State} (w : s.dev.memoryWf = true) (h : execQueModify s = .next t) : t.dev.memoryWf = true := by
  refine State.become_mem h ?_
  rw [← Dev.memoryWf_mask] at w
  clear h
  repeat' (first | with_reducible assumption | intro _ | with_reducible apply Dev.modifyQueue_mem | with_reducible apply Dev.queOp_mem | split | (dsimp only; split))
theorem execQueueOp_mem {s : State} {t : State} (w : s.dev.memoryWf = true) (h : execQueueOp s = .next t) : t.dev.memoryWf = true := by
  refine State.become_mem h ?_
  rw [← Dev.memoryWf_mask] at w
  clear h
  repeat' (first | with_reducible assumption | intro _ | with_reducible apply Dev.vendorQueue_mem | with_reducible apply Dev.vendorServe_mem | with_reducible apply Dev.mem_getD | with_reducible apply Dev.mem_getD_pair | split | (dsimp only; split))
theorem execQueueReset_mem {req : Option Requester} {queue : Nat} {s : State} {t : State} (w : s.dev.memoryWf = true) (h : execQueueReset req queue s = .next t) : t.dev.memoryWf = true := by
  refine State.become_mem h ?_
  rw [← Dev.memoryWf_mask] at w
  clear h
  repeat' (first | with_reducible assumption | intro _ | with_reducible apply Dev.commandQueue_mem | with_reducible apply Dev.resetQueue_mem | split | (dsimp only; split))
theorem execQueueResume_mem {req : Option Requester} {queue : Nat} {s : State} {t : State} (w : s.dev.memoryWf = true) (h : execQueueResume req queue s = .next t) : t.dev.memoryWf = true := by
  refine State.become_mem h ?_
  rw [← Dev.memoryWf_mask] at w
  clear h
  repeat' (first | with_reducible assumption | intro _ | with_reducible apply Dev.commandQueue_mem | with_reducible apply Dev.resumeQueue_mem | split | (dsimp only; split))
theorem execQueueStart_mem {req : Option Requester} {queue : Nat} {s : State} {t : State} (w : s.dev.memoryWf = true) (h : execQueueStart req queue s = .next t) : t.dev.memoryWf = true := by
  refine State.become_mem h ?_
  rw [← Dev.memoryWf_mask] at w
  clear h
  repeat' (first | with_reducible assumption | intro _ | (simp (disch := decide) only [Dev.recordEnable_mask]) | with_reducible apply Dev.commandQueue_mem | with_reducible apply Dev.startQueue_mem | split | (dsimp only; split))
theorem execQueueStop_mem {req : Option Requester} {queue : Nat} {s : State} {t : State} (w : s.dev.memoryWf = true) (h : execQueueStop req queue s = .next t) : t.dev.memoryWf = true := by
  refine State.become_mem h ?_
  rw [← Dev.memoryWf_mask] at w
  clear h
  repeat' (first | with_reducible assumption | intro _ | (simp (disch := decide) only [Dev.recordEnable_mask]) | with_reducible apply Dev.commandQueue_mem | with_reducible apply Dev.stopQueue_mem | split | (dsimp only; split))
theorem execReadCompletionReceive_mem {port : Nat} {target : ReadTarget} {answer : HostAnswer} {s : State} {t : State} (w : s.dev.memoryWf = true) (h : execReadCompletionReceive port target answer s = .next t) : t.dev.memoryWf = true := by
  refine State.become_mem h ?_
  rw [← Dev.memoryWf_mask] at w
  clear h
  repeat' (first | with_reducible assumption | intro _ | with_reducible apply Dev.readCompletion_mem | split | (dsimp only; split))
theorem execReadyToTransferReceive_mem {session : Nat} {s : State} {t : State} (w : s.dev.memoryWf = true) (h : execReadyToTransferReceive session s = .next t) : t.dev.memoryWf = true := by
  refine State.become_mem h ?_
  rw [← Dev.memoryWf_mask] at w
  clear h
  repeat' (first | with_reducible assumption | intro _ | with_reducible apply Dev.receiveR2t_mem | split | (dsimp only; split))
theorem execRegisterWrite_mem {req : Requester} {addr : Nat} {value : Word} {be : BitVec 4} {s : State} {t : State} (w : s.dev.memoryWf = true) (h : execRegisterWrite req addr value be s = .next t) : t.dev.memoryWf = true := by
  refine State.become_mem h ?_
  rw [← Dev.memoryWf_mask] at w
  clear h
  repeat' (first | with_reducible assumption | intro _ | with_reducible apply Dev.writeAt_mem | split | (dsimp only; split))
theorem execRetransmissionTimeout_mem {session : Nat} {s : State} {t : State} (w : s.dev.memoryWf = true) (h : execRetransmissionTimeout session s = .next t) : t.dev.memoryWf = true := by
  refine State.become_mem h ?_
  rw [← Dev.memoryWf_mask] at w
  clear h
  repeat' (first | with_reducible assumption | intro _ | with_reducible apply Dev.retransmitTimeout_mem | split | (dsimp only; split))
theorem execRxHoldExpiry_mem {queue : Nat} {s : State} {t : State} (w : s.dev.memoryWf = true) (h : execRxHoldExpiry queue s = .next t) : t.dev.memoryWf = true := by
  refine State.become_mem h ?_
  rw [← Dev.memoryWf_mask] at w
  clear h
  repeat' (first | with_reducible assumption | intro _ | with_reducible apply Dev.holdExpires_mem | split | (dsimp only; split))
theorem execSaDisable_mem {s : State} {t : State} (w : s.dev.memoryWf = true) (h : execSaDisable s = .next t) : t.dev.memoryWf = true := by
  refine State.become_mem h ?_
  rw [← Dev.memoryWf_mask] at w
  clear h
  repeat' (first | with_reducible assumption | intro _ | with_reducible apply Dev.saDisable_mem | with_reducible apply Dev.vendorSa_mem | with_reducible apply Dev.vendorServe_mem | with_reducible apply Dev.mem_getD | with_reducible apply Dev.mem_getD_pair | split | (dsimp only; split))
theorem execSaRoll_mem {s : State} {t : State} (w : s.dev.memoryWf = true) (h : execSaRoll s = .next t) : t.dev.memoryWf = true := by
  refine State.become_mem h ?_
  rw [← Dev.memoryWf_mask] at w
  clear h
  repeat' (first | with_reducible assumption | intro _ | with_reducible apply Dev.saRoll_mem | with_reducible apply Dev.vendorSa_mem | with_reducible apply Dev.vendorServe_mem | with_reducible apply Dev.mem_getD | with_reducible apply Dev.mem_getD_pair | split | (dsimp only; split))
theorem execSaWrite_mem {s : State} {t : State} (w : s.dev.memoryWf = true) (h : execSaWrite s = .next t) : t.dev.memoryWf = true := by
  refine State.become_mem h ?_
  rw [← Dev.memoryWf_mask] at w
  clear h
  repeat' (first | with_reducible assumption | intro _ | with_reducible apply Dev.vendorSaWrite_mem | with_reducible apply Dev.vendorServe_mem | with_reducible apply Dev.mem_getD | with_reducible apply Dev.mem_getD_pair | split | (dsimp only; split))
theorem execSend_mem {queue : Nat} {answer : HostAnswer} {s : State} {t : State} (w : s.dev.memoryWf = true) (h : execSend queue answer s = .next t) : t.dev.memoryWf = true := by
  refine State.become_mem h ?_
  rw [← Dev.memoryWf_mask] at w
  clear h
  repeat' (first | with_reducible assumption | intro _ | with_reducible apply Dev.sendEntry_mem | split | (dsimp only; split))
theorem execSesClose_mem {s : State} {t : State} (w : s.dev.memoryWf = true) (h : execSesClose s = .next t) : t.dev.memoryWf = true := by
  refine State.become_mem h ?_
  rw [← Dev.memoryWf_mask] at w
  clear h
  repeat' (first | with_reducible assumption | intro _ | with_reducible apply Dev.sesClose_mem | split | (dsimp only; split))
theorem execSesCtl_mem {s : State} {t : State} (w : s.dev.memoryWf = true) (h : execSesCtl s = .next t) : t.dev.memoryWf = true := by
  refine State.become_mem h ?_
  rw [← Dev.memoryWf_mask] at w
  clear h
  repeat' (first | with_reducible assumption | intro _ | with_reducible apply Dev.vendorServe_mem | with_reducible apply Dev.vendorSes_mem | with_reducible apply Dev.mem_getD | with_reducible apply Dev.mem_getD_pair | split | (dsimp only; split))
theorem execSesGo_mem {s : State} {t : State} (w : s.dev.memoryWf = true) (h : execSesGo s = .next t) : t.dev.memoryWf = true := by
  refine State.become_mem h ?_
  rw [← Dev.memoryWf_mask] at w
  clear h
  repeat' (first | with_reducible assumption | intro _ | with_reducible apply Dev.sesGo_mem | split | (dsimp only; split))
theorem execSesOpen_mem {s : State} {t : State} (w : s.dev.memoryWf = true) (h : execSesOpen s = .next t) : t.dev.memoryWf = true := by
  refine State.become_mem h ?_
  rw [← Dev.memoryWf_mask] at w
  clear h
  repeat' (first | with_reducible assumption | intro _ | with_reducible apply Dev.openSession_mem | with_reducible apply Dev.sesOp_mem | split | (dsimp only; split))
theorem execSesReset_mem {s : State} {t : State} (w : s.dev.memoryWf = true) (h : execSesReset s = .next t) : t.dev.memoryWf = true := by
  refine State.become_mem h ?_
  rw [← Dev.memoryWf_mask] at w
  clear h
  repeat' (first | with_reducible assumption | intro _ | with_reducible apply Dev.sesReset_mem | split | (dsimp only; split))
theorem execSesWrite_mem {s : State} {t : State} (w : s.dev.memoryWf = true) (h : execSesWrite s = .next t) : t.dev.memoryWf = true := by
  refine State.become_mem h ?_
  rw [← Dev.memoryWf_mask] at w
  clear h
  repeat' (first | with_reducible assumption | intro _ | (simp (disch := decide) only [Dev.noteSes_mask]) | with_reducible apply Dev.portExec_mem | with_reducible apply Dev.sesWrite_mem | split | (dsimp only; split))
theorem execSessionDrained_mem {session : Nat} {s : State} {t : State} (w : s.dev.memoryWf = true) (h : execSessionDrained session s = .next t) : t.dev.memoryWf = true := by
  refine State.become_mem h ?_
  rw [← Dev.memoryWf_mask] at w
  clear h
  repeat' (first | with_reducible assumption | intro _ | with_reducible apply Dev.drainSession_mem | split | (dsimp only; split))
theorem execSlcDestroy_mem {s : State} {t : State} (w : s.dev.memoryWf = true) (h : execSlcDestroy s = .next t) : t.dev.memoryWf = true := by
  refine State.become_mem h ?_
  rw [← Dev.memoryWf_mask] at w
  clear h
  repeat' (first | with_reducible assumption | intro _ | (simp (disch := decide) only [Dev.charterChanged_mask]) | with_reducible apply Dev.portExec_mem | with_reducible apply Dev.sliceDestroy_mem | split | (dsimp only; split))
theorem execSliceDestroy_mem {channel : Nat} {s : State} {t : State} (w : s.dev.memoryWf = true) (h : execSliceDestroy channel s = .next t) : t.dev.memoryWf = true := by
  refine State.become_mem h ?_
  rw [← Dev.memoryWf_mask] at w
  clear h
  repeat' (first | with_reducible assumption | intro _ | with_reducible apply Dev.fwDestroy_mem | split | (dsimp only; split))
theorem execSliceWindowAccess_mem {port slice offset rid : Nat} {write : Bool} {value : Word} {be : BitVec 4} {stream : Option Nat} {tbit : Bool} {s : State} {t : State} (w : s.dev.memoryWf = true) (h : execSliceWindowAccess port slice offset rid write value be stream tbit s = .next t) : t.dev.memoryWf = true := by
  refine State.become_mem h ?_
  rw [← Dev.memoryWf_mask] at w
  clear h
  repeat' (first | with_reducible assumption | intro _ | with_reducible apply Dev.windowAccess_mem | split | (dsimp only; split))
theorem execSlotZeroise_mem {slot : Nat} {s : State} {t : State} (w : s.dev.memoryWf = true) (h : execSlotZeroise slot s = .next t) : t.dev.memoryWf = true := by
  refine State.become_mem h ?_
  rw [← Dev.memoryWf_mask] at w
  clear h
  repeat' (first | with_reducible assumption | intro _ | with_reducible apply Dev.zeroiseRetired_mem | split | (dsimp only; split))
theorem execSqPiDoorbell_mem {port queue : Nat} {owner : Option Nat} {value : BitVec 17} {s : State} {t : State} (w : s.dev.memoryWf = true) (h : execSqPiDoorbell port queue owner value s = .next t) : t.dev.memoryWf = true := by
  refine State.become_mem h ?_
  rw [← Dev.memoryWf_mask] at w
  clear h
  repeat' (first | with_reducible assumption | intro _ | with_reducible apply Dev.doorbellWrite_mem | split | (dsimp only; split))
theorem execStandbyEntryComplete_mem {s : State} {t : State} (w : s.dev.memoryWf = true) (h : execStandbyEntryComplete s = .next t) : t.dev.memoryWf = true := by
  refine State.become_mem h ?_
  rw [← Dev.memoryWf_mask] at w
  clear h
  repeat' (first | with_reducible assumption | intro _ | with_reducible apply Dev.finishEntry_mem | split | (dsimp only; split))
theorem execStartInterfaceRequest_mem {slice : Nat} {s : State} {t : State} (w : s.dev.memoryWf = true) (h : execStartInterfaceRequest slice s = .next t) : t.dev.memoryWf = true := by
  refine State.become_mem h ?_
  rw [← Dev.memoryWf_mask] at w
  clear h
  repeat' (first | with_reducible assumption | intro _ | with_reducible apply Dev.startInterface_mem | split | (dsimp only; split))
theorem execStoVolBindKey_mem {s : State} {t : State} (w : s.dev.memoryWf = true) (h : execStoVolBindKey s = .next t) : t.dev.memoryWf = true := by
  refine State.become_mem h ?_
  rw [← Dev.memoryWf_mask] at w
  clear h
  repeat' (first | with_reducible assumption | intro _ | (simp (disch := decide) only [Dev.noteVol_mask]) | with_reducible apply Dev.portExec_mem | with_reducible apply Dev.volBindKey_mem | split | (dsimp only; split))
theorem execStopInterfaceRequest_mem {slice : Nat} {s : State} {t : State} (w : s.dev.memoryWf = true) (h : execStopInterfaceRequest slice s = .next t) : t.dev.memoryWf = true := by
  refine State.become_mem h ?_
  rw [← Dev.memoryWf_mask] at w
  clear h
  repeat' (first | with_reducible assumption | intro _ | with_reducible apply Dev.stopInterface_mem | split | (dsimp only; split))
theorem execSxpDisable_mem {s : State} {t : State} (w : s.dev.memoryWf = true) (h : execSxpDisable s = .next t) : t.dev.memoryWf = true := by
  refine State.become_mem h ?_
  rw [← Dev.memoryWf_mask] at w
  clear h
  repeat' (first | with_reducible assumption | intro _ | with_reducible apply Dev.portExec_mem | with_reducible apply Dev.saDisable_mem | split | (dsimp only; split))
theorem execSxpPostcheck_mem {lane : Nat} {s : State} {t : State} (w : s.dev.memoryWf = true) (h : execSxpPostcheck lane s = .next t) : t.dev.memoryWf = true := by
  refine State.become_mem h ?_
  rw [← Dev.memoryWf_mask] at w
  clear h
  repeat' (first | with_reducible assumption | intro _ | with_reducible apply Dev.postcheck_mem | with_reducible apply Dev.recordEnded_mem | split | (dsimp only; split))
theorem execSxpPrecheck_mem {lane : Nat} {s : State} {t : State} (w : s.dev.memoryWf = true) (h : execSxpPrecheck lane s = .next t) : t.dev.memoryWf = true := by
  refine State.become_mem h ?_
  rw [← Dev.memoryWf_mask] at w
  clear h
  repeat' (first | with_reducible assumption | intro _ | with_reducible apply Dev.precheck_mem | with_reducible apply Dev.recordEnded_mem | split | (dsimp only; split))
theorem execSxpRoll_mem {s : State} {t : State} (w : s.dev.memoryWf = true) (h : execSxpRoll s = .next t) : t.dev.memoryWf = true := by
  refine State.become_mem h ?_
  rw [← Dev.memoryWf_mask] at w
  clear h
  repeat' (first | with_reducible assumption | intro _ | (simp (disch := decide) only [Dev.resumeRecords_mask]) | with_reducible apply Dev.portExec_mem | with_reducible apply Dev.saRoll_mem | split | (dsimp only; split))
theorem execSxpWrite_mem {s : State} {t : State} (w : s.dev.memoryWf = true) (h : execSxpWrite s = .next t) : t.dev.memoryWf = true := by
  refine State.become_mem h ?_
  rw [← Dev.memoryWf_mask] at w
  clear h
  repeat' (first | with_reducible assumption | intro _ | with_reducible apply Dev.portExec_mem | with_reducible apply Dev.saWrite_mem | split | (dsimp only; split))
theorem execSynAckReceive_mem {s : State} {t : State} (w : s.dev.memoryWf = true) (h : execSynAckReceive s = .next t) : t.dev.memoryWf = true := by
  refine State.become_mem h ?_
  rw [← Dev.memoryWf_mask] at w
  clear h
  repeat' (first | with_reducible assumption | intro _ | with_reducible apply Dev.receiveSynAck_mem | split | (dsimp only; split))
theorem execTcpRstReceive_mem {s : State} {t : State} (w : s.dev.memoryWf = true) (h : execTcpRstReceive s = .next t) : t.dev.memoryWf = true := by
  refine State.become_mem h ?_
  rw [← Dev.memoryWf_mask] at w
  clear h
  repeat' (first | with_reducible assumption | intro _ | with_reducible apply Dev.receiveRst_mem | split | (dsimp only; split))
theorem execTcpSegmentReceive_mem {s : State} {t : State} (w : s.dev.memoryWf = true) (h : execTcpSegmentReceive s = .next t) : t.dev.memoryWf = true := by
  refine State.become_mem h ?_
  rw [← Dev.memoryWf_mask] at w
  clear h
  repeat' (first | with_reducible assumption | intro _ | with_reducible apply Dev.receiveSegment_mem | split | (dsimp only; split))
theorem execTraceRecordWrite_mem {s : State} {t : State} (w : s.dev.memoryWf = true) (h : execTraceRecordWrite s = .next t) : t.dev.memoryWf = true := by
  refine State.become_mem h ?_
  rw [← Dev.memoryWf_mask] at w
  clear h
  repeat' (first | with_reducible assumption | intro _ | with_reducible apply Dev.traceRecord_mem | split | (dsimp only; split))
theorem execVolBindKey_mem {s : State} {t : State} (w : s.dev.memoryWf = true) (h : execVolBindKey s = .next t) : t.dev.memoryWf = true := by
  refine State.become_mem h ?_
  rw [← Dev.memoryWf_mask] at w
  clear h
  repeat' (first | with_reducible assumption | intro _ | with_reducible apply Dev.vendorServe_mem | with_reducible apply Dev.vendorVolBind_mem | with_reducible apply Dev.mem_getD | with_reducible apply Dev.mem_getD_pair | split | (dsimp only; split))
theorem execVolDisable_mem {s : State} {t : State} (w : s.dev.memoryWf = true) (h : execVolDisable s = .next t) : t.dev.memoryWf = true := by
  refine State.become_mem h ?_
  rw [← Dev.memoryWf_mask] at w
  clear h
  repeat' (first | with_reducible assumption | intro _ | with_reducible apply Dev.portExec_mem | with_reducible apply Dev.volDisable_mem | split | (dsimp only; split))
theorem execVolWrite_mem {s : State} {t : State} (w : s.dev.memoryWf = true) (h : execVolWrite s = .next t) : t.dev.memoryWf = true := by
  refine State.become_mem h ?_
  rw [← Dev.memoryWf_mask] at w
  clear h
  repeat' (first | with_reducible assumption | intro _ | (simp (disch := decide) only [Dev.noteVol_mask]) | with_reducible apply Dev.portExec_mem | with_reducible apply Dev.volWrite_mem | split | (dsimp only; split))
theorem execWireCommandIssue_mem {wire : Nat} {answer : HostAnswer} {s : State} {t : State} (w : s.dev.memoryWf = true) (h : execWireCommandIssue wire answer s = .next t) : t.dev.memoryWf = true := by
  refine State.become_mem h ?_
  rw [← Dev.memoryWf_mask] at w
  clear h
  repeat' (first | with_reducible assumption | intro _ | with_reducible apply Dev.issueWire_mem | split | (dsimp only; split))

/-- A command that changes none of the memories keeps their form. -/
theorem exec_mem_of_parts {c : Instr} {s t : State} (w : s.dev.memoryWf = true) (h : exec c s = .next t)
    (hp : (commandParts c).all (fun p => ! [Part.gddr, .die, .host0, .host1].contains p) = true) : t.dev.memoryWf = true := by
  have k : ∀ p, [Part.gddr, .die, .host0, .host1].contains p = true → p ∉ commandParts c := by
    intro p hm hc
    have := List.all_eq_true.1 hp p hc
    rw [hm] at this
    cases this
  have e := fun p hm => Dev.same_of_parts (exec_frame h).1 p (k p hm)
  have e0 : t.dev.gddr = s.dev.gddr := e .gddr rfl
  have e1 : t.dev.die = s.dev.die := e .die rfl
  have e2 : t.dev.host0 = s.dev.host0 := e .host0 rfl
  have e3 : t.dev.host1 = s.dev.host1 := e .host1 rfl
  rw [Dev.memoryWf, e0, e1, e2, e3]
  exact w

end Sys2Proof.Machine
end

