-- ==== Sys2Proof/WellFormed.lean ====
section
/-!
DEFINITION. Which commands name parts that the adapter has: a check of the operands against the numbers of units, ports,
queues and addresses that the spec states.  It stops nothing: a command with an operand out of range is one whose happening
cannot occur, and its meaning leaves the block as it is (log entry 2).
-/

namespace Sys2Proof

/-- R30, R48, R275: a manager stands on one of two host ports and has a 16-bit requester ID, firmware on one of four pairs. -/
def Requester.inRange : Requester → Bool
  | .manager port rid => decide (port < 2) && decide (rid < 65536)
  | .firmware n => decide (n < 4)
  | .welbor => true

/-- R377, R23: two host ports and 4096 slices. -/
def Transport.inRange : Transport → Bool
  | .pf0 n => decide (n < 2)
  | .pf1 n => decide (n < 2)
  | .mctp => true
  | .slice n => decide (n < 4096)

/-- R388, R23: 32 manager channels, 16 internal channels and 4096 slices. -/
def MailEnd.inRange : MailEnd → Bool
  | .manager n => decide (n < 32)
  | .firmware n => decide (n < 32)
  | .x n => decide (n < 16)
  | .y n => decide (n < 16)
  | .tenant n => decide (n < 4096)
  | .welbor n => decide (n < 4096)

/-- R23, R295: 65,536 queues and 64 movers. -/
def ReadTarget.inRange : ReadTarget → Bool
  | .fetch n => decide (n < 65536)
  | .entry n _ => decide (n < 65536)
  | .mover n => decide (n < 64)
  | .wire _ => true

/-- The operands name parts that the adapter has (the counts of R23, R25, R249, R278, R361). -/
def Instr.wellFormed : Instr → Bool
  | .registerWrite req addr _ _ => req.inRange && decide (addr < 68719476736)
  | .counterReadClear req addr _ => req.inRange && decide (addr < 68719476736)
  | .parityBackgroundScan page _ => decide (page < 16777216)
  | .scanNow req page => req.inRange && decide (page < 16777216)
  | .cfgParityRecheck req page => req.inRange && decide (page < 16777216)
  | .wmbCapture req page _ => req.inRange && decide (page < 16777216)
  | .wmbCommit req page _ => req.inRange && decide (page < 16777216)
  | .broadcastWrite req addr _ _ => req.inRange && decide (addr < 68719476736)
  | .broadcastRead req addr => req.inRange && decide (addr < 68719476736)
  | .groupMaskParityScan region group _ => decide (region < 14) && decide (group < 15)
  | .poweredDownPageRead req addr => req.inRange && decide (addr < 68719476736)
  | .eventSourceAssert source => decide (source < 512)
  | .pendClear req word _ => req.inRange && decide (word < 16)
  | .routeUnmask req source => req.inRange && decide (source < 512)
  | .softwareEvent req _ => req.inRange
  | .binActivation input => decide (input < 4)
  | .binStuck input => decide (input < 4)
  | .binUnmask req _ => req.inRange
  | .binInactive input => decide (input < 4)
  | .moverGo req mover => req.inRange && decide (mover < 64)
  | .moverStop req mover => req.inRange && decide (mover < 64)
  | .moverTrigger mover => decide (mover < 64)
  | .descriptorFetch mover => decide (mover < 64)
  | .burstIssue mover _ _ => decide (mover < 64)
  | .chainEnd mover => decide (mover < 64)
  | .fence pair => decide (pair < 4)
  | .dcinv pair _ _ => decide (pair < 4)
  | .powerRequest req _ => req.inRange
  | .powerTransitionComplete => true
  | .standbyEntryComplete => true
  | .leanStep => true
  | .dozeDemand addr => decide (addr < 34359738368)
  | .l1IdleTimeout port => decide (port < 2)
  | .wakeRequest kind source => decide (kind < 5) && decide (source < 512)
  | .exitStepTimeout step unit => decide (step < 3) && decide (unit < 16)
  | .standbyExitComplete => true
  | .padRelease req _ => req.inRange
  | .feedGood feed => decide (feed < 2)
  | .feedLost feed => decide (feed < 2)
  | .auxPowerOn => true
  | .auxPowerLoss => true
  | .perstAssert port => decide (port < 2)
  | .perstDeassert port => decide (port < 2)
  | .deviceReset req _ => req.inRange
  | .hostPortReset req _ _ => req.inRange
  | .welborRestart => true
  | .thermalTrip => true
  | .ptpSecondWrap => true
  | .ppsInEdge => true
  | .ptpClockLoad req => req.inRange
  | .ptpOffsetAdjust req => req.inRange
  | .slowCrystalFail => true
  | .slowFreqMeasure source _ => decide (source < 2)
  | .refInputLoss => true
  | .oscillatorFail oscillator => decide (oscillator < 2)
  | .l12WaitExpiry port => decide (port < 2)
  | .linkL12Entry port => decide (port < 2)
  | .busHoldUpExpiry => true
  | .ppsWidthExpiry => true
  | .holdoverExpiry => true
  | .gddrBurstRebuild device addr => decide (device < 18) && decide (addr < 34359738368)
  | .memFailWrite req device => req.inRange && decide (device < 18)
  | .scrubRound device _ => decide (device < 18)
  | .cpxMismatch pair => decide (pair < 4)
  | .cpxBistEnd pair _ => decide (pair < 4)
  | .cpxReturn req pair => req.inRange && decide (pair < 4)
  | .svcOut req type inst => req.inRange && decide (type < 256) && decide (inst < 256)
  | .svcIn req type inst => req.inRange && decide (type < 256) && decide (inst < 256)
  | .svcSyncEnd unit => decide (unit < 5)
  | .svcDrainEnd unit => decide (unit < 5)
  | .svcBistEnd unit _ => decide (unit < 5)
  | .logicParityFault page _ => decide (page < 16777216)
  | .crossingParityError page _ _ => decide (page < 16777216)
  | .phaseShed _ _ => true
  | .sramError bank row page _ => decide (bank < 640) && decide (row < 1024) && decide (page < 16777216)
  | .journalRecordWrite => true
  | .journalRead req _ => req.inRange
  | .avsStep island _ => decide (island < 9)
  | .sliceWindowAccess port slice offset rid _ _ _ stream _ => decide (port < 2) && decide (slice < 4096) && decide (offset < 65536) && decide (rid < 65536) && (stream.all (fun x => decide (x < 9)))
  | .sitWrite port => decide (port < 2)
  | .sitClear port => decide (port < 2)
  | .sitRead port => decide (port < 2)
  | .sliceInterruptRaise slice entry _ => decide (slice < 4096) && decide (entry < 16)
  | .sitMaskWrite slice entry _ => decide (slice < 4096) && decide (entry < 16)
  | .msixUnmask port vector => decide (port < 2) && (vector.all (fun x => decide (x < 2048)))
  | .ideIntegrityFailure port stream => decide (port < 2) && decide (stream < 9)
  | .lockInterfaceRequest slice stream => decide (slice < 4096) && decide (stream < 9)
  | .startInterfaceRequest slice => decide (slice < 4096)
  | .stopInterfaceRequest slice => decide (slice < 4096)
  | .ideKmRequest _ port stream _ => decide (port < 2) && decide (stream < 9)
  | .pciPowerStateChange port pf _ => decide (port < 2) && decide (pf < 2)
  | .linkUp port _ _ _ => decide (port < 2)
  | .linkDown port => decide (port < 2)
  | .functionLevelReset port pf => decide (port < 2) && decide (pf < 2)
  | .atsInvalidationRequest port pf pasid range => decide (port < 2) && decide (pf < 2) && decide (pasid < 1048576) && decide (range < 9007199254740992)
  | .atsInvalidationComplete port => decide (port < 2)
  | .prgResponse port group _ => decide (port < 2) && decide (group < 1024)
  | .pageRequestTimeout port group => decide (port < 2) && decide (group < 1024)
  | .readCompletionReceive port target _ => decide (port < 2) && target.inRange
  | .completionTimeout port target => decide (port < 2) && target.inRange
  | .slcCreate => true
  | .slcModify => true
  | .slcDestroy => true
  | .slcRead => true
  | .teardownComplete slice => decide (slice < 4096)
  | .quarantineEnd slice => decide (slice < 4096)
  | .sliceCounterLoRead slice counter => decide (slice < 4096) && decide (counter < 4)
  | .queCreate => true
  | .queModify => true
  | .queDestroy => true
  | .queRead => true
  | .sqPiDoorbell port queue owner _ => decide (port < 2) && decide (queue < 65536) && (owner.all (fun x => decide (x < 4096)))
  | .cqCiDoorbell port queue owner _ => decide (port < 2) && decide (queue < 65536) && (owner.all (fun x => decide (x < 4096)))
  | .queueStart req queue => (req.all Requester.inRange) && decide (queue < 65536)
  | .queueStop req queue => (req.all Requester.inRange) && decide (queue < 65536)
  | .queueReset req queue => (req.all Requester.inRange) && decide (queue < 65536)
  | .queueResume req queue => (req.all Requester.inRange) && decide (queue < 65536)
  | .doorbellRead port queue owner => decide (port < 2) && decide (queue < 65536) && (owner.all (fun x => decide (x < 4096)))
  | .entryFetch queue _ => decide (queue < 65536)
  | .send queue _ => decide (queue < 65536)
  | .recv queue => decide (queue < 65536)
  | .cipher queue _ => decide (queue < 65536)
  | .completionWrite queue => decide (queue < 65536)
  | .irqDelayExpiry queue => decide (queue < 65536)
  | .framePlacement queue => decide (queue < 65536)
  | .rxHoldExpiry queue => decide (queue < 65536)
  | .heldOperationStart page => decide (page < 16777216)
  | .ill core => decide (core < 800)
  | .add core => decide (core < 800)
  | .sub core => decide (core < 800)
  | .and core => decide (core < 800)
  | .or core => decide (core < 800)
  | .xor core => decide (core < 800)
  | .shl core => decide (core < 800)
  | .shr core => decide (core < 800)
  | .mov core => decide (core < 800)
  | .addi core => decide (core < 800)
  | .andi core => decide (core < 800)
  | .ori core => decide (core < 800)
  | .xori core => decide (core < 800)
  | .shli core => decide (core < 800)
  | .shri core => decide (core < 800)
  | .movi core => decide (core < 800)
  | .movhi core => decide (core < 800)
  | .ext core => decide (core < 800)
  | .ins core => decide (core < 800)
  | .ld8 core => decide (core < 800)
  | .ld16 core => decide (core < 800)
  | .ld32 core => decide (core < 800)
  | .extw core => decide (core < 800)
  | .curset core => decide (core < 800)
  | .curadd core => decide (core < 800)
  | .curget core => decide (core < 800)
  | .wext core => decide (core < 800)
  | .br core => decide (core < 800)
  | .bri core => decide (core < 800)
  | .bf core => decide (core < 800)
  | .j core => decide (core < 800)
  | .call core => decide (core < 800)
  | .ret core => decide (core < 800)
  | .disp core => decide (core < 800)
  | .dmat core => decide (core < 800)
  | .hinit core => decide (core < 800)
  | .hcrc core => decide (core < 800)
  | .hcrcr core => decide (core < 800)
  | .htoe core => decide (core < 800)
  | .htoer core => decide (core < 800)
  | .hrd core => decide (core < 800)
  | .emit core => decide (core < 800)
  | .emitw core => decide (core < 800)
  | .fset core => decide (core < 800)
  | .fclr core => decide (core < 800)
  | .rhint core => decide (core < 800)
  | .done core => decide (core < 800)
  | .nop core => decide (core < 800)
  | .packetDispatch _ => true
  | .wextResume ctx => decide (ctx < 3200)
  | .contextParityError ctx => decide (ctx < 3200)
  | .programStoreUe ctx => decide (ctx < 3200)
  | .recordRelease _ => true
  | .exceptionDelivery => true
  | .programStoreWrite req cluster _ => req.inRange && decide (cluster < 24)
  | .programStoreRead req cluster => req.inRange && decide (cluster < 24)
  | .psCrcRecompute cluster bank => decide (cluster < 24) && decide (bank < 2)
  | .flipRequest req => req.inRange
  | .flipCheck => true
  | .oldBankFree => true
  | .recordAccept _ => true
  | .treeWalk _ => true
  | .resultHandoff _ => true
  | .batchStage req _ => req.inRange
  | .batchUnstage req _ => req.inRange
  | .batchSwap req _ => req.inRange
  | .batchRetire _ => true
  | .batchRetiredClear req _ => req.inRange
  | .emProbe _ _ => true
  | .privilegedReprobe _ _ => true
  | .lpmProbe _ _ => true
  | .ageRefresh => true
  | .insert => true
  | .insertNoevict => true
  | .delete => true
  | .lookup => true
  | .clearSlot => true
  | .bloomRebuild => true
  | .bloomRebuildEnd => true
  | .learnExecute => true
  | .epochAdvance => true
  | .sweepBucketVisit => true
  | .compareAndClear => true
  | .notificationRecordWrite => true
  | .nrConsWrite req _ => req.inRange
  | .actionApply _ => true
  | .meterUpdate _ => true
  | .counterUpdate lane => decide (lane < 16)
  | .templateReadAbandon _ => true
  | .traceRecordWrite => true
  | .traceConsWrite req _ => req.inRange
  | .cntRead => true
  | .cntReadClear => true
  | .cntPreset => true
  | .meterWrite => true
  | .meterRead => true
  | .meterDisable => true
  | .copyEnqueue _ => true
  | .portSchedule mac => decide (mac < 16)
  | .hostDelivery => true
  | .frameArrival mac _ => decide (mac < 16)
  | .frameReceiveEnd mac _ _ => decide (mac < 16)
  | .pauseReceive mac _ => decide (mac < 16)
  | .pfcReceive mac _ => decide (mac < 16)
  | .pauseTimerExpiry mac timer => decide (mac < 16) && decide (timer < 9)
  | .pauseWatchdog mac tc => decide (mac < 16) && decide (tc < 8)
  | .pauseHoldEnd mac tc => decide (mac < 16) && decide (tc < 8)
  | .laneLockLoss mac _ _ => decide (mac < 16)
  | .laneLockAcquire mac _ => decide (mac < 16)
  | .upHoldExpiry mac => decide (mac < 16)
  | .faultSequenceReceive mac _ _ => decide (mac < 16)
  | .fecDegradeWindow mac _ _ _ => decide (mac < 16)
  | .flowControlFrameSend mac => decide (mac < 16)
  | .pfcRefresh mac cls => decide (mac < 16) && decide (cls < 8)
  | .frameTransmitStart mac => decide (mac < 16)
  | .txUnderrun mac => decide (mac < 16)
  | .frameTransmitEnd mac => decide (mac < 16)
  | .macSnapshot req mac => req.inRange && decide (mac < 16)
  | .macgSnapshot req => req.inRange
  | .tsFifoCapture req mac => req.inRange && decide (mac < 16)
  | .txStartBaseWrite req mac _ => req.inRange && decide (mac < 16)
  | .pcsModeWrite req group _ => req.inRange && decide (group < 2)
  | .pcsRetuneDone group => decide (group < 2)
  | .cageTwiStart req group => req.inRange && decide (group < 2)
  | .cageTwiDone group _ => decide (group < 2)
  | .cagePresenceChange group _ => decide (group < 2)
  | .cageModuleInterrupt group _ => decide (group < 2)
  | .cageSupplyFault group => decide (group < 2)
  | .lehrJobSubmit => true
  | .lehrBlockIssue _ _ => true
  | .lehrBlockComplete unit cell _ => decide (unit < 65) && decide (cell < 129)
  | .lehrJobEnd _ _ => true
  | .knownAnswerTest unit cell _ => decide (unit < 65) && decide (cell < 129)
  | .drbgReseed unit generator _ => decide (unit < 65) && decide (generator < 2)
  | .keyUnwrap => true
  | .install => true
  | .retire => true
  | .query => true
  | .slotZeroise slot => decide (slot < 1048576)
  | .sxpPrecheck lane => decide (lane < 32)
  | .sxpPostcheck lane => decide (lane < 32)
  | .sxpWrite => true
  | .sxpRead => true
  | .sxpDisable => true
  | .sxpRoll => true
  | .rollComplete sa => decide (sa < 1048576)
  | .limitFifoPop req => req.inRange
  | .read queue => decide (queue < 65536)
  | .write queue => decide (queue < 65536)
  | .flush queue => decide (queue < 65536)
  | .trim queue => decide (queue < 65536)
  | .wireCommandIssue _ _ => true
  | .c2hdataReceive session => decide (session < 65536)
  | .capsuleRespReceive session => decide (session < 65536)
  | .readyToTransferReceive session => decide (session < 65536)
  | .c2htermreqReceive session => decide (session < 65536)
  | .icrespReceive session => decide (session < 65536)
  | .synAckReceive => true
  | .tcpRstReceive => true
  | .tcpSegmentReceive => true
  | .retransmissionTimeout session => decide (session < 65536)
  | .cmdTimeout _ => true
  | .openWaitTimeout queue _ => decide (queue < 65536)
  | .volWrite => true
  | .volRead => true
  | .volDisable => true
  | .stoVolBindKey => true
  | .sesWrite => true
  | .sesRead => true
  | .sesOpen => true
  | .sesGo => true
  | .sesClose => true
  | .sesReset => true
  | .sessionDrained session => decide (session < 65536)
  | .mbxSend req box pasid => req.inRange && box.inRange && (pasid.all (fun x => decide (x < 1048576)))
  | .mbxPop req box => req.inRange && box.inRange
  | .sliceCreate channel => decide (channel < 32)
  | .sliceModify channel => decide (channel < 32)
  | .sliceDestroy channel => decide (channel < 32)
  | .poolSet channel => decide (channel < 32)
  | .move channel mover _ => decide (channel < 32) && decide (mover < 64)
  | .otpWrite channel => decide (channel < 32)
  | .otpProgramEnd => true
  | .lifecycleAdvance channel => decide (channel < 32)
  | .fwReady _ _ => true
  | .keyInstall => true
  | .keyRetire => true
  | .keyQuery => true
  | .saWrite => true
  | .saDisable => true
  | .saRoll => true
  | .saRead => true
  | .volBindKey => true
  | .queueOp => true
  | .sesCtl => true
  | .charterHistory => true
  | .getVersion via => via.inRange
  | .getCapabilities via => via.inRange
  | .negotiateAlgorithms via _ => via.inRange
  | .getDigests via => via.inRange
  | .getCertificate via _ _ _ => via.inRange
  | .challenge via _ _ => via.inRange
  | .getMeasurements via _ _ => via.inRange
  | .keyExchange via _ => via.inRange
  | .finish _ _ => true
  | .heartbeat _ => true
  | .keyUpdate _ => true
  | .endSession _ => true
  | .vendorDefinedRequest via _ _ => via.inRange
  | .spdmSessionTimeout _ => true
  | .welborRelease => true
  | .bootStageEnd _ _ => true
  | .mctpControlMessage setEid => (setEid.all (fun x => decide (x < 256)))

end Sys2Proof
end

