-- ==== Sys2Proof/Tests/Slice0.lean ====
section
/-!
SUPPORT. Tests: ill-formed terms that WellFormed refuses, values worked in the spec, and for every statement that has
hypotheses a state and operands that meet them together.
-/

namespace Sys2Proof.Machine

open Sys2Proof

set_option maxRecDepth 100000
set_option Elab.async false
set_option linter.all false

/-! ## WellFormed -/

/-- Each term breaks one check of WellFormed. -/
theorem test_wellFormed_refuses_1 : Instr.wellFormed (.registerWrite (.manager 2 0) 0 0#32 0#4) = false ∧
    Instr.wellFormed (.registerWrite .welbor 68719476736 0#32 0#4) = false ∧
    Instr.wellFormed (.parityBackgroundScan 16777216 []) = false ∧
    Instr.wellFormed (.groupMaskParityScan 14 0 []) = false ∧
    Instr.wellFormed (.groupMaskParityScan 0 15 []) = false ∧
    Instr.wellFormed (.eventSourceAssert 512) = false ∧
    Instr.wellFormed (.pendClear .welbor 16 0#32) = false ∧
    Instr.wellFormed (.binActivation 4) = false ∧
    Instr.wellFormed (.moverGo .welbor 64) = false ∧
    Instr.wellFormed (.fence 4) = false ∧
    Instr.wellFormed (.dozeDemand 34359738368) = false ∧
    Instr.wellFormed (.l1IdleTimeout 2) = false ∧
    Instr.wellFormed (.wakeRequest 5 0) = false ∧
    Instr.wellFormed (.exitStepTimeout 3 0) = false ∧
    Instr.wellFormed (.exitStepTimeout 0 16) = false ∧
    Instr.wellFormed (.feedGood 2) = false := by
  decide

/-- Each term breaks one check of WellFormed. -/
theorem test_wellFormed_refuses_2 : Instr.wellFormed (.slowFreqMeasure 2 0#64) = false ∧
    Instr.wellFormed (.oscillatorFail 2) = false ∧
    Instr.wellFormed (.gddrBurstRebuild 18 0) = false ∧
    Instr.wellFormed (.svcOut .welbor 256 0) = false ∧
    Instr.wellFormed (.svcOut .welbor 0 256) = false ∧
    Instr.wellFormed (.svcSyncEnd 5) = false ∧
    Instr.wellFormed (.sramError 640 0 0 false) = false ∧
    Instr.wellFormed (.sramError 0 1024 0 false) = false ∧
    Instr.wellFormed (.avsStep 9 0) = false ∧
    Instr.wellFormed (.sliceWindowAccess 0 4096 0 0 false 0#32 0#4 none false) = false ∧
    Instr.wellFormed (.sliceWindowAccess 0 0 65536 0 false 0#32 0#4 none false) = false ∧
    Instr.wellFormed (.sliceWindowAccess 0 0 0 65536 false 0#32 0#4 none false) = false ∧
    Instr.wellFormed (.sliceWindowAccess 0 0 0 0 false 0#32 0#4 (some 9) false) = false ∧
    Instr.wellFormed (.sliceInterruptRaise 0 16 0) = false ∧
    Instr.wellFormed (.msixUnmask 0 (some 2048)) = false ∧
    Instr.wellFormed (.ideIntegrityFailure 0 9) = false := by
  decide

/-- Each term breaks one check of WellFormed. -/
theorem test_wellFormed_refuses_3 : Instr.wellFormed (.pciPowerStateChange 0 2 false) = false ∧
    Instr.wellFormed (.atsInvalidationRequest 0 0 1048576 0) = false ∧
    Instr.wellFormed (.atsInvalidationRequest 0 0 0 9007199254740992) = false ∧
    Instr.wellFormed (.prgResponse 0 1024 false) = false ∧
    Instr.wellFormed (.readCompletionReceive 0 (.mover 64) .data) = false ∧
    Instr.wellFormed (.sliceCounterLoRead 0 4) = false ∧
    Instr.wellFormed (.sqPiDoorbell 0 65536 none 0#17) = false ∧
    Instr.wellFormed (.sqPiDoorbell 0 0 (some 4096) 0#17) = false ∧
    Instr.wellFormed (.queueStart (some (.firmware 4)) 0) = false ∧
    Instr.wellFormed (.ill 800) = false ∧
    Instr.wellFormed (.wextResume 3200) = false ∧
    Instr.wellFormed (.programStoreWrite .welbor 24 0#32) = false ∧
    Instr.wellFormed (.psCrcRecompute 0 2) = false ∧
    Instr.wellFormed (.counterUpdate 16) = false ∧
    Instr.wellFormed (.portSchedule 16) = false ∧
    Instr.wellFormed (.pauseTimerExpiry 0 9) = false := by
  decide

/-- Each term breaks one check of WellFormed. -/
theorem test_wellFormed_refuses_4 : Instr.wellFormed (.pauseWatchdog 0 8) = false ∧
    Instr.wellFormed (.pfcRefresh 0 8) = false ∧
    Instr.wellFormed (.pcsModeWrite .welbor 2 0#2) = false ∧
    Instr.wellFormed (.lehrBlockComplete 65 0 false) = false ∧
    Instr.wellFormed (.lehrBlockComplete 0 129 false) = false ∧
    Instr.wellFormed (.drbgReseed 0 2 false) = false ∧
    Instr.wellFormed (.slotZeroise 1048576) = false ∧
    Instr.wellFormed (.sxpPrecheck 32) = false ∧
    Instr.wellFormed (.rollComplete 1048576) = false ∧
    Instr.wellFormed (.c2hdataReceive 65536) = false ∧
    Instr.wellFormed (.mbxSend .welbor (.manager 32) none) = false ∧
    Instr.wellFormed (.mbxSend .welbor (.x 0) (some 1048576)) = false ∧
    Instr.wellFormed (.sliceCreate 32) = false ∧
    Instr.wellFormed (.getVersion (.slice 4096)) = false ∧
    Instr.wellFormed (.mctpControlMessage (some 256)) = false := by
  decide

/-- Terms whose operands are at the ends of their ranges. -/
theorem test_wellFormed_accepts : Instr.wellFormed (.add 799) = true ∧ Instr.wellFormed (.moverGo .welbor 63) = true ∧
    Instr.wellFormed (.sitClear 1) = true ∧ Instr.wellFormed (.getVersion (.slice 4095)) = true := by
  decide

/-! ## Values of the spec -/

/-- R28: the offsets worked for a BLP page, and a read of 0x088 returns BLK_CAP. -/
theorem test_effective_offset : effOffset 9 0x7A4 = 0x1A4 ∧ effOffset 9 0x3A4 = 0x1A4 ∧ effOffset 9 0x0C4 = 0x044 ∧ effOffset 9 0x088 = 0x008 := by
  decide

/-- R3: GCTL_ID reads 0x1600_0011, right after reset and through its header alias. -/
theorem test_gctl_id : ((State.reset.dev.answerRead (.manager 0 0) 0x40 0xFFFFFFFF).out, (State.reset.dev.answerRead (.manager 0 0) 0xC0 0xFFFFFFFF).out)
    = ([.readData 0x16000011#32], [.readData 0x16000011#32]) := by
  decide +kernel

/-- R61: over the nine ASCII bytes of the rule, HRD returns 0xE306_9283. -/
theorem test_crc32c : crcFeed 0xFFFFFFFF#32 [0x31, 0x32, 0x33, 0x34, 0x35, 0x36, 0x37, 0x38, 0x39] ^^^ 0xFFFFFFFF#32 = 0xE3069283#32 := by
  decide +kernel

/-- R85: the fields of step 1 of the worked walk of chapter 4. -/
theorem test_cut_fields : let md := (List.replicate 60 0) ++ [0x01, 0x01, 0x23, 0x45] ++ List.replicate 4 0 ++ [0x08, 0x00, 0x01, 0x06] ++ List.replicate 56 0
    (cutField md 0 (60 * 2 ^ 24 + 24 * 2 ^ 19 + 2 * 2 ^ 16), cutField md 0 (68 * 2 ^ 24 + 8 * 2 ^ 19 + 2 * 2 ^ 16)) = (1, 1) := by
  decide +kernel

/-- The key images of lengths 28 and 20 in the worked lookup of chapter 5 (R119). -/
theorem test_lpm_images : lpmImage (1 + 2 + 2 * 2 ^ 8) 28 [0x23, 0x45, 0xC6, 0x33, 0x64, 0x07] = [0x1C, 0x00, 0x23, 0x45, 0xC6, 0x33, 0x64, 0x00] := by
  decide +kernel

/-- Steps 1, 2 and 7 of the worked ESN inference of chapter 8. -/
theorem test_esn_inference : let sa := fun t => Sa.setSeq ([2 ^ 3 + 1024 * 2 ^ 16] ++ List.replicate 31 0) t
    (inferSeq (sa 0x1FFFFFF80) 0x10, inferSeq (sa 0x1FFFFFF80) 0xFFFFFFF0, inferSeq (sa 0x200000010) 0xFFFFFC00)
      = (0x200000010, 0x1FFFFFFF0, 0x2FFFFFC00) := by
  decide +kernel

/-- The striped TLS record of chapter 7: 8 segments of 114 blocks and one of 113. -/
theorem test_stripe : (stripe 1025 [0, 1, 2, 3, 4, 5, 6, 7, 8]).map (·.count) = [114, 114, 114, 114, 114, 114, 114, 114, 113] := by
  decide

/-- Step 3 of the worked queue example of chapter 13: the submission PI. -/
theorem test_doorbell_rebuild : rebuildIndex 0xFFFFFFFE 0x00001 = 0x00000001 := by
  decide

/-- The worked group access of chapter 2: after steps 1 and 3 banks 4 to 7 have ENABLE and bank 3 does not. -/
theorem test_group_write : let d := { ({} : Dev) with pwr := { domains := 2 ^ 96 - 1 } }
    let d1 := (d.writeAt (.manager 0 0) 0x5F2040 0xF0 0xFFFFFFFF).writeAt (.manager 0 0) 0x5F200C 1 0xFFFFFFFF
    [3, 4, 5, 6, 7, 8].map (fun n => d1.fget (Page.tbl n) Hdr.enable) = [0, 1, 1, 1, 1, 0] := by
  decide +kernel

/-- FIPS 197, appendix C.1. -/
theorem test_aes128 : Aes.encrypt [0, 1, 2, 3, 4, 5, 6, 7, 8, 9, 10, 11, 12, 13, 14, 15]
      [0x00, 0x11, 0x22, 0x33, 0x44, 0x55, 0x66, 0x77, 0x88, 0x99, 0xaa, 0xbb, 0xcc, 0xdd, 0xee, 0xff]
    = [0x69, 0xc4, 0xe0, 0xd8, 0x6a, 0x7b, 0x04, 0x30, 0xd8, 0xcd, 0xb7, 0x80, 0x70, 0xb4, 0xc5, 0x5a] := by
  decide +kernel

/-- Test case 1 of the GCM specification: the tag of no data under the zero key. -/
theorem test_gcm_tag : Aes.gcmTag (List.replicate 16 0) (List.replicate 12 0) [] []
    = [0x58, 0xe2, 0xfc, 0xce, 0xfa, 0x7e, 0x30, 0x61, 0x36, 0x7f, 0x1d, 0x57, 0xa4, 0xe7, 0x45, 0x5a] := by
  decide +kernel

/-- FIPS 180-4: the first bytes of SHA-384 of "abc". -/
theorem test_sha384 : (sha384 [0x61, 0x62, 0x63]).take 8 = [0xcb, 0x00, 0x75, 0x3f, 0x45, 0xa3, 0x5e, 0x8b] := by
  decide +kernel

/-- IEEE 802.3: the check value of CRC-32, least significant byte first. -/
theorem test_fcs : fcsOf [0x31, 0x32, 0x33, 0x34, 0x35, 0x36, 0x37, 0x38, 0x39] = [0x26, 0x39, 0xF4, 0xCB] := by
  decide +kernel

/-- The front of the queue is carried out, and the rest stays (log entry 1). -/
theorem test_step_takes_front : (match step { State.reset with pending := [.auxPowerLoss, .leanStep] } with
    | .next t => t.pending
    | _ => []) = [.leanStep] := by
  decide +kernel

/-- R37: an RC counter gives its count once. -/
theorem test_rc_counter : let d := ({} : Dev).fset 0 Reg.GCTL_AERR_CNT_CNT 41
    let d1 := d.answerRead .welbor 0x44 0xFFFFFFFF
    ((d1.out, (d1.answerRead .welbor 0x44 0xFFFFFFFF).out.length, d1.fget 0 Reg.GCTL_AERR_CNT_CNT)) = ([.readData 41#32], 2, 0) := by
  decide +kernel

/-! ## States for the witnesses -/

/-- Every domain on, RUN, both host links up; `f` changes what the case at hand needs. -/
def Test.ready (f : Dev → Dev) : State :=
  { dev := f { pwr := { state := .run, domains := 2 ^ 96 - 1, ready := true }, hif := [(0, { linkUp := true }), (1, { linkUp := true })] }
    pending := [] }
/-- MAC `m` and its group are enabled, it sends and receives, and its link is UP. -/
def Test.macUp (m : Nat) (d : Dev) : Dev :=
  ((((d.fset (Page.mac m) Hdr.enable 1).fset (Page.pcs (m / 8)) Hdr.enable 1).fset (Page.mac m) Reg.MAC_CFG_RX_EN 1).fset (Page.mac m)
    Reg.MAC_CFG_TX_EN 1).fset (Page.mac m) Reg.MAC_LINK_STATE 3
/-- A rule of the given action words. -/
def Test.rule (ws : List Word) : List Word :=
  ws ++ List.replicate (14 - ws.length) 0#32 ++ [BitVec.ofNat 32 (ws.length * 4096), 0#32]
/-- Table 0 in service: exact match on 4 bytes, 8 buckets in bank 0. -/
def Test.table (d : Dev) : Dev :=
  ((d.wset Page.tblg 0x100 (1 + 1 * 2 ^ 8 + 3 * 2 ^ 64 + 1 * 2 ^ 96)).wset Page.tblg 0x140 (2 ^ 31 + 4 * 2 ^ 16)).fset (Page.tbl 0) Hdr.enable 1
/-- An operation of the TBLG port on the key 4, 3, 2, 1 of table 0. -/
def Test.tblOp (op : Nat) : PortOp :=
  { req := .welbor, word := op * 2 ^ portTblg.opcode.lo, buf := [0x01020304#32] ++ List.replicate 13 0#32 ++ [8#32, 0#32] }
/-- The operation runs; the table holds its key when `full`. -/
def Test.tblState (op : Nat) (full : Bool) : State :=
  Test.ready (fun d =>
    let d := (Test.table d).setPort portTblg.page { run := some (Test.tblOp op) }
    let v := d.td 0
    let slot := slotOf v (bucket1 v (toLe 4 0x01020304)) 0
    if full then d.putEntry 0 ([0x01020304] ++ List.replicate 13 0 ++ [8, 0]) false slot else d)

/-- A job on wrapped slot 70000, whose key the slot's record holds. -/
def Test.unwrapJob : LehrJob :=
  { src := .sxp 1, desc := jobDesc Mode.ctr 0 0 70000 1 0 16 false [], input := [], stamp := none }
def Test.unwrapState : State :=
  Test.ready (fun d =>
    let d := (d.putSlot 70000 { modes := 2 } (List.replicate 32 7)).setJob 1 (some Test.unwrapJob)
    d.setLehr { d.lehr with lanes := [(0, 0, 1)] })
/-- SA 32 protects TLS records for the manager; `x` changes its words. -/
def Test.sa (x : List Nat → List Nat) (d : Dev) : Dev :=
  d.saSet 32 (Sa.sealed (x (([2 + 8 + 128, 0, 0, 4096, 0, 0, 0, 0, 0, 100, 0, 200, 0, 0, 7, 0] ++ List.replicate 15 0) ++ [2 ^ 31])))
def Test.record : SxpReq := { src := .record 8 23, sa := 32, dir := 0, bytes := [0x17, 3, 3, 0, 18, 65, 23] }
def Test.saState (x : List Nat → List Nat) (f : Dev → Dev) : State :=
  Test.ready (fun d => f (Test.sa x (((d.gsetWord (8 * 128 + 4) 4096).fset Page.sxp Hdr.enable 1).fset Page.sto Hdr.enable 1)))
/-- The job of the record. -/
def Test.sxpJob : SxpJob :=
  { src := .record 8 23, sa := 32, words := [2 + 8 + 128, 0, 0, 4096], seq := 7, bytes := [0x17, 3, 3, 0, 18, 65, 23],
    front := [0x17, 3, 3, 0, 18], lenIn := 7, l3 := 0 }
/-- Volume 32 (read and write, TRIM allowed) on session 8, whose state is `st`, both the manager's; queue 0 is a manager's
storage queue. -/
def Test.sto (st : Nat) (d : Dev) : Dev :=
  let d1 := d.gsetWords (d.sesAddr 8) (wordsSealed ([2 ^ 31, 4096, 0, 0, 0, 0, 0, 0, 0, 1460, 256, 0, 15] ++ List.replicate 13 0 ++ [999, 1000, 5000]) 24)
  let d2 := d1.gsetWords (d.volAddr 32) (wordsSealed [2 ^ 31 + 2, 4096, 8, 1, 0, 0, 1000, 0, 0, 0, 0, 0, 0, 0, 0, 0] 12)
  ((((d2.sesSet 8 24 st).gsetWord 0 0x60603).gsetWord 4 0x1000).fset Page.sto Hdr.enable 1).fset Page.sxp Hdr.enable 1
def Test.stoState (st : Nat) (f : Dev → Dev) : State := Test.ready (fun d => f (Test.sto st d))
def Test.entry (op : Nat) : QueueEntry :=
  { index := 0, opcode := op, qgen := 0, incarnation := 0, frags := if op = 0x30 ∨ op = 0x31 then [(4096, 512)] else []
    head := [0, 0, 0, 0, 32] ++ List.replicate 11 0 ++ [if op = 0x33 then 1 else 0] ++ List.replicate 47 0 }
/-- A FLUSH. -/
def Test.wire : WireCmd := { session := 8, queue := 0, index := 0, op := 0x32, volume := 32 }
/-- A PDU of a header only: its CID, and that of a response, is 0; an R2T asks for bytes 0 to 511. -/
def Test.pdu (typ : Nat) : List Byte :=
  [BitVec.ofNat 8 typ, 0, 24, 0, 24, 0, 0, 0] ++ List.replicate 8 0 ++ [0, if typ = 9 then 2 else 0, 0, 0] ++ List.replicate 4 0
/-- 512 bytes of data for command 0, not the last. -/
def Test.dataPdu : List Byte :=
  [7, 0, 24, 24, 24, 2, 0, 0] ++ List.replicate 8 0 ++ [0, 2, 0, 0] ++ List.replicate 516 0
def Test.icResp : List Byte := [1, 0, 128, 0, 128, 0, 0, 0] ++ List.replicate 4 0 ++ [0, 16, 0, 0] ++ List.replicate 112 0
def Test.frame (flags : Nat) (payload : List Byte) : List Byte :=
  let bs := List.replicate 12 0 ++ [8, 0, 0x45, 0] ++ toBe 2 (40 + payload.length) ++ [0, 0, 0, 0, 64, 6] ++ List.replicate 14 0
    ++ toBe 4 5000 ++ toBe 4 1000 ++ toBe 2 (20480 + flags) ++ [255, 255, 0, 0, 0, 0] ++ payload
  overwrite bs 50 (toBe 2 (checksum16 (pseudoSum bs 14 6 (20 + payload.length) + sum16 (bs.drop 34))))
def Test.segment (flags : Nat) (payload : List Byte) : Segmented :=
  { seq := 5000, ack := 1000, flags := flags, window := 65535, options := [], payload := payload }
/-- A segment for session 8 stands at the head of STO's FIFO. -/
def Test.tcpIn (flags : Nat) (payload : List Byte) (d : Dev) : Dev :=
  let d1 := (d.setSes 8 { open_ := true }).setCopy 0 (some
    { packet := 0, gen := 1, bytes := Test.frame flags payload, dest := 6 * 2 ^ 16 + 8 })
  { d1 with host := { d1.host with sto := [0] } }
/-- Firmware channel 0 holds one request with these words. -/
def Test.fwState (ws : List Nat) (f : Dev → Dev) : State :=
  Test.ready (fun d => f ((d.setMailBox (.firmware 0) { queue := [⟨ws, 0⟩] }).setBootStage 3))
/-- A vendor request of slice 5. -/
def Test.vendor (pay : List Byte) : VendorRequest := ⟨0, .slice 5, pay⟩
def Test.vendorState (pay : List Byte) (f : Dev → Dev) : State :=
  Test.ready (fun d => let e := f d; e.setWel { e.wel with requests := [Test.vendor pay] })
/-- KEY_INSTALL of a key that encrypts with GCM. -/
def Test.keyPayload : List Byte := [1, 0, 0, 0, 2, 1, 0, 0] ++ List.replicate 64 9
/-- Welbor runs in PRODUCTION, and the negotiation on port 0's PF0 has come so far. -/
def Test.welborUp (d : Dev) : Dev :=
  { ((d.setBootStage 3).fset Page.otp Reg.OTP_STAT_LIFECYCLE 2) with pwr := { d.pwr with welborReleased := true } }
def Test.spdmState (n : Nat) : State := Test.ready (fun d => (Test.welborUp d).setNegotiated (.pf0 0) n)
def Test.spdmMasked : State :=
  { dev := (Test.spdmState 3).dev.setWel { (Test.spdmState 3).dev.wel with udsDestroyed := true }, pending := [] }
def Test.spdmFull : State :=
  { dev := (Test.spdmState 3).dev.setWel { (Test.spdmState 3).dev.wel with
      sessions := (List.range 4).map (fun n => (n, some { via := .pf0 0 })) }, pending := [] }
def Test.spdmSes (finished : Bool) : State :=
  { dev := (Test.spdmState 3).dev.setWel { (Test.spdmState 3).dev.wel with
      sessions := [(0, some { via := .pf0 0, finished := finished })] }, pending := [] }
def Test.bootState (n : Nat) : State := Test.ready (fun d => (Test.welborUp d).setBootStage n)
def Test.bootScrap : State := Test.ready (fun d => ((Test.welborUp d).setBootStage 0).fset Page.otp Reg.OTP_STAT_LIFECYCLE 4)
/-- Set 0 of boot images. -/
def Test.bootImages : List BootImage :=
  [1, 2].map (fun k => ⟨0, k, 0x57424C58, 0, 2, true, sha384 [7, 7], [7, 7]⟩)

/-! ## Witnesses -/

theorem witness_FrameOfEveryCommand : ∃ (c : Instr) (s t : State) (p : Part), exec c s = .next t ∧ p ∉ commandParts c :=
  ⟨.feedGood 0, State.reset, _, .gddr, rfl, by decide⟩

theorem witness_MemoriesStayCanonical : ∃ s t : State, s.dev.memoryWf = true ∧ step s = .next t :=
  ⟨State.reset, _, by decide, rfl⟩

theorem witness_ResetLeaves : ∃ i n : Nat, i < 128 ∧ n < 4096 :=
  ⟨127, 4095, by decide⟩

theorem witness_LifecycleNeverGoesBack : ∃ s t : State, step s = .next t := ⟨State.reset, _, rfl⟩

theorem witness_CommandsTakeNoTime : ∃ (c : Instr) (s t u : State), exec c s = .next t ∧ step s = .next u :=
  ⟨.feedGood 0, State.reset, _, _, rfl, rfl⟩

theorem witness_ContextsOfOtherCoresStay : ∃ (c : Instr) (k : Nat) (s t : State) (i : Nat),
    gafferCore c = some k ∧ exec c s = .next t ∧ i / 4 ≠ k :=
  ⟨.add 0, 0, State.reset, _, 4, rfl, rfl, by decide⟩

theorem witness_MemoryReadsBackWhatWasWritten_1 : ∃ (d : Dev) (a x : Nat) (bs : List Byte), d.memoryWf = true ∧ a ≤ x ∧ x < a + bs.length :=
  ⟨{}, 8, 8, [1#8], by decide⟩
theorem witness_MemoryReadsBackWhatWasWritten_2 : ∃ (d : Dev) (a x : Nat) (bs : List Byte), d.memoryWf = true ∧ x = a + bs.length :=
  ⟨{}, 8, 9, [1#8], by decide⟩
theorem witness_MemoryReadsBackWhatWasWritten_3 : ∃ (d : Dev) (a x : Nat) (bs : List Byte) (attr : ReqAttr), d.memoryWf = true ∧ x < a :=
  ⟨{}, 8, 7, [1#8], {}, by decide⟩

theorem witness_RegisterFieldsReadBack_1 : ∃ (d : Dev) (p v : Nat) (f : Fld), Sparse.wf resetWord d.regs = true ∧ f.lo + f.w ≤ 32 :=
  ⟨{}, 0, 5, ⟨0xC, 31, 1⟩, by decide⟩
theorem witness_RegisterFieldsReadBack_2 : ∃ (d : Dev) (p q v : Nat) (f g : Fld), Sparse.wf resetWord d.regs = true ∧
    f.lo + f.w ≤ 32 ∧ (q + g.off ≠ p + f.off ∨ g.lo + g.w ≤ f.lo ∨ f.lo + f.w ≤ g.lo) :=
  ⟨{}, 0, 0, 5, ⟨0xC, 8, 8⟩, ⟨0xC, 16, 4⟩, by decide⟩

theorem witness_CountersWrapOrSaturate_1 : ∃ (d : Dev) (p n : Nat) (f : Fld), Sparse.wf resetWord d.regs = true ∧ f.lo + f.w ≤ 32 :=
  ⟨{}, 0, 1, ⟨0x44, 0, 32⟩, by decide⟩
theorem witness_CountersWrapOrSaturate_3 : ∃ (d : Dev) (p n : Nat) (f : Fld), Sparse.wf resetWord d.regs = true ∧ f.lo + f.w ≤ 32 ∧
    d.fget p f = 2 ^ f.w - 1 :=
  ⟨({} : Dev).fset Page.rst Reg.RST_CNT_CNT (2 ^ 32 - 1), Page.rst, 1, Reg.RST_CNT_CNT, by decide +kernel⟩

theorem witness_AccessTypesOfAWrite_1 : ∃ (r : FieldRow) (old v m i : Nat), old < 2 ^ 32 ∧ r.lo + r.w ≤ 32 ∧ r.fix = .keep ∧ i < 32 ∧
    r.lo ≤ i ∧ i < r.lo + r.w ∧ bitAt m i = true :=
  ⟨⟨0x100, 0, 1, 24, 8, .w1c, 0, .keep⟩, 2 ^ 32 - 1, 2 ^ 31, 2 ^ 32 - 2 ^ 24, 31, by decide⟩
theorem witness_AccessTypesOfAWrite_2 : ∃ (r : FieldRow) (old v m i : Nat), old < 2 ^ 32 ∧ r.lo + r.w ≤ 32 ∧ r.fix = .keep ∧ i < 32 ∧
    ¬ (r.lo ≤ i ∧ i < r.lo + r.w ∧ bitAt m i = true) :=
  ⟨⟨0x100, 0, 1, 24, 8, .rw, 0, .keep⟩, 2 ^ 32 - 1, 2 ^ 31, 0, 23, by decide⟩

theorem witness_TableHashes_1 : ∃ (v : Nat) (k : List Byte), hash2 v k % 2 ^ tdLog2 v = bucket1 v k :=
  ⟨0, [], by decide +kernel⟩
theorem witness_TableHashes_2 : ∃ (v : Nat) (k : List Byte), hash2 v k % 2 ^ tdLog2 v ≠ bucket1 v k :=
  ⟨2 ^ 64 * 16, [1#8], by decide +kernel⟩

theorem witness_BranchConditions : ∃ (v : View) (x : Ctx) (a b : Word), a = x.reg (bits v.word 22 4) ∧ b = x.reg (bits v.word 18 4) ∧
    b = BitVec.ofNat 32 (bits v.word 11 8) :=
  ⟨{ word := 0, table := [], bytes := [], key := [] }, { packet := 1, bank := 0, g := [], wlen := 0, md := [], pc := 16 }, 0#32, 0#32, by decide +kernel⟩

theorem witness_WrappedRecordUnwraps : ∃ (kw : List Byte) (s s' gen' count : Nat) (v : KeySlot), kw.length = 32 ∧ s < 2 ^ 20 ∧ v.gen < 2 ^ 16 ∧
    count < 2 ^ 64 ∧ s' < 2 ^ 20 ∧ gen' < 2 ^ 16 ∧ (s' ≠ s ∨ gen' ≠ v.gen) :=
  ⟨List.replicate 32 0#8, 2 ^ 20 - 1, 0, 2 ^ 16 - 1, 2 ^ 64 - 1, {}, by decide⟩

theorem witness_PendingPulsesMerge_1 : ∃ (d : Dev) (n : Nat), isReserved n = false ∧ (d.wakeOf n).domainOn 1 = true ∧ (d.wakeOf n).pend n = true :=
  ⟨((Test.ready id).dev.setPend 3 true), 3, by decide +kernel⟩
theorem witness_PendingPulsesMerge_2 : ∃ (d : Dev) (n : Nat), isReserved n = false ∧ (d.wakeOf n).domainOn 1 = true ∧ (d.wakeOf n).pend n = false ∧
    ((d.wakeOf n).setPend n true).masked n = true :=
  ⟨(Test.ready id).dev, 3, by decide +kernel⟩
theorem witness_PendingPulsesMerge_3 : ∃ (d : Dev) (n : Nat), isReserved n = false ∧ (d.wakeOf n).domainOn 1 = true ∧ (d.wakeOf n).pend n = false ∧
    ((d.wakeOf n).setPend n true).masked n = false :=
  ⟨(Test.ready (fun d => d.fset (routePage 3) (routeFld Reg.EVT_RTB_MASK 3) 0)).dev, 3, by decide +kernel⟩

theorem witness_PortsHoldOneOperation_1 : ∃ (d : Dev) (i : PortInfo) (req : Requester) (o : PortOp), (d.port i.page).run = some o ∧ (d.port i.page).held = none :=
  ⟨({} : Dev).setPort portTblg.page { run := some (Test.tblOp 1) }, portTblg, .welbor, Test.tblOp 1, by decide +kernel⟩
theorem witness_PortsHoldOneOperation_2 : ∃ (d : Dev) (i : PortInfo) (req : Requester) (o : PortOp), (d.port i.page).run = some o ∧ (d.port i.page).held ≠ none :=
  ⟨({} : Dev).setPort portTblg.page { run := some (Test.tblOp 1), held := some .welbor }, portTblg, .welbor, Test.tblOp 1, by decide +kernel⟩

theorem witness_RegisterCommandsComplete_1 : ∃ (s : State) (req : Requester) (addr : Nat) (value : Word) (be : BitVec 4) (k : PageKind) (n : Nat),
    (addr < 0x1000000) ∧ (isForwarding addr = false) ∧ (s.dev.pageAt addr = some (k, n)) ∧ (s.dev.pagePowered k n = true) ∧ (k = .gctl ∨ k = .otp ∨ k = .cls ∨ k = .tbl ∨ k = .cru ∨ k = .leh ∨ k = .lehg) ∧ (0x40 ≤ effOffset k.bodyLog2 (offsetOf addr / 4 * 4)) ∧ (byteMask be ≠ 0) ∧ (s.dev.closedMask req k (effOffset k.bodyLog2 (offsetOf addr / 4 * 4)) = 0) ∧ (s.dev.asleep req = false) :=
  ⟨State.reset, .manager 0 0, 0x60, 1#32, 15#4, .gctl, 0, by decide +kernel⟩
theorem witness_RegisterCommandsComplete_2 : ∃ (s : State) (req : Requester) (addr : Nat) (be : BitVec 4) (k : PageKind) (n : Nat),
    (addr < 0x1000000) ∧ (isForwarding addr = false) ∧ (s.dev.pageAt addr = some (k, n)) ∧ (s.dev.pagePowered k n = true) ∧ (s.dev.asleep req = false) :=
  ⟨State.reset, .manager 0 0, 0x60, 15#4, .gctl, 0, by decide +kernel⟩
theorem witness_RegisterCommandsComplete_3 : ∃ (s : State) (page : Nat) (upsets : List (Nat × Nat)) (k : PageKind) (n : Nat),
    (s.dev.pageAt page = some (k, n)) ∧ (s.dev.pagePowered k n = true) :=
  ⟨State.reset, 0, [], .gctl, 0, by decide +kernel⟩
theorem witness_RegisterCommandsComplete_4 : ∃ (s : State) (req : Requester) (page : Nat) (k : PageKind) (n : Nat),
    (s.dev.pageAt (pageBase page + 0x1C) = some (k, n)) ∧ (s.dev.pageAt (pageBase page + 0x14) = some (k, n)) ∧ (s.dev.pageAt page = some (k, n)) ∧ (s.dev.pagePowered k n = true) ∧ (s.dev.fbit (pageBase page) Hdr.scanBusy = false) ∧ (s.dev.asleep req = false) :=
  ⟨State.reset, .welbor, 0, .gctl, 0, by decide +kernel⟩
theorem witness_RegisterCommandsComplete_5 : ∃ (s : State) (req : Requester) (page : Nat) (index : BitVec 16) (k : PageKind) (n : Nat) (w : WideKind),
    (s.dev.pageAt (pageBase page + 0x20) = some (k, n)) ∧ (s.dev.pageAt page = some (k, n)) ∧ (s.dev.pagePowered k n = true) ∧ (k.hasWmb = true) ∧ (k ≠ .mac) ∧ ((s.dev.wmbSelect (pageBase page) index.toNat).wideKind k n index.toNat = some w) ∧ (wideClosed req k index.toNat = false) ∧ (s.dev.asleep req = false) :=
  ⟨Test.ready id, .firmware 0, Page.lehg, 0x1000#16, .lehg, 0xFF, ⟨64, true⟩, by decide +kernel⟩
theorem witness_RegisterCommandsComplete_6 : ∃ (s : State) (req : Requester) (page : Nat) (index : BitVec 16) (k : PageKind) (n : Nat) (w : WideKind),
    (s.dev.pageAt (pageBase page + 0x20) = some (k, n)) ∧ (s.dev.pageAt page = some (k, n)) ∧ (s.dev.pagePowered k n = true) ∧ (k.hasWmb = true) ∧ ((s.dev.wmbSelect (pageBase page) index.toNat).wideKind k n index.toNat = some w) ∧ (w.writable = true) ∧ (wideClosed req k index.toNat = false) ∧ ((s.dev.wmbSelect (pageBase page) index.toNat).wideAccepts k (pageBase page) index.toNat ((s.dev.wmbSelect (pageBase page) index.toNat).wmbData (pageBase page) % 2 ^ w.width) = true) ∧ (s.dev.asleep req = false) :=
  ⟨Test.ready id, .firmware 0, Page.lehg, 0x1000#16, .lehg, 0xFF, ⟨64, true⟩, by decide +kernel⟩
theorem witness_RegisterCommandsComplete_7 : ∃ (s : State) (req : Requester) (addr : Nat) (value : Word) (be : BitVec 4),
    (isForwarding addr = true) ∧ (maskRegister addr = none) ∧ (s.dev.asleep req = false) :=
  ⟨State.reset, .welbor, 0x1FF040, 0#32, 15#4, by decide +kernel⟩
theorem witness_RegisterCommandsComplete_8 : ∃ (s : State) (req : Requester) (addr : Nat),
    (isForwarding addr = true) ∧ (s.dev.asleep req = false) :=
  ⟨State.reset, .welbor, 0x1FF040, by decide +kernel⟩
theorem witness_RegisterCommandsComplete_9 : ∃ (s : State) (region group : Nat) (upsets : List (Nat × Nat)),
    (region < 14) ∧ (group < 15) :=
  ⟨State.reset, 1, 0, [], by decide +kernel⟩
theorem witness_RegisterCommandsComplete_10 : ∃ (s : State) (req : Requester) (addr : Nat),
    (s.dev.asleep req = false) ∧ (s.dev.unreachable addr = some 2) :=
  ⟨State.reset, .welbor, 0x3000, by decide +kernel⟩

theorem witness_GafferRegisterInstructions_1 : ∃ (s : State) (core c w : Nat) (x : Ctx),
    (s.dev.issues core c x w 1 = true) ∧ (opcodeOf w = 0x01) ∧ (bits w 0 14 = 0) :=
  ⟨Test.ready (fun d => { (d.setStoreWord 0 0 16 0x4404000#32) with packets := [(1, { gen := 1, bytes := List.replicate 64 7 })], ctxs := [(3, some { packet := 1, bank := 0, g := [3, 3], wlen := 64, md := List.replicate 128 0, pc := 16 })] }), 0, 3, 0x4404000, { packet := 1, bank := 0, g := [3, 3], wlen := 64, md := List.replicate 128 0, pc := 16 }, by decide +kernel⟩
theorem witness_GafferRegisterInstructions_2 : ∃ (s : State) (core c w : Nat) (x : Ctx),
    (s.dev.issues core c x w 1 = true) ∧ (opcodeOf w = 0x02) ∧ (bits w 0 14 = 0) :=
  ⟨Test.ready (fun d => { (d.setStoreWord 0 0 16 0x8404000#32) with packets := [(1, { gen := 1, bytes := List.replicate 64 7 })], ctxs := [(3, some { packet := 1, bank := 0, g := [3, 3], wlen := 64, md := List.replicate 128 0, pc := 16 })] }), 0, 3, 0x8404000, { packet := 1, bank := 0, g := [3, 3], wlen := 64, md := List.replicate 128 0, pc := 16 }, by decide +kernel⟩
theorem witness_GafferRegisterInstructions_3 : ∃ (s : State) (core c w : Nat) (x : Ctx),
    (s.dev.issues core c x w 1 = true) ∧ (opcodeOf w = 0x03) ∧ (bits w 0 14 = 0) :=
  ⟨Test.ready (fun d => { (d.setStoreWord 0 0 16 0xc404000#32) with packets := [(1, { gen := 1, bytes := List.replicate 64 7 })], ctxs := [(3, some { packet := 1, bank := 0, g := [3, 3], wlen := 64, md := List.replicate 128 0, pc := 16 })] }), 0, 3, 0xc404000, { packet := 1, bank := 0, g := [3, 3], wlen := 64, md := List.replicate 128 0, pc := 16 }, by decide +kernel⟩
theorem witness_GafferRegisterInstructions_4 : ∃ (s : State) (core c w : Nat) (x : Ctx),
    (s.dev.issues core c x w 1 = true) ∧ (opcodeOf w = 0x04) ∧ (bits w 0 14 = 0) :=
  ⟨Test.ready (fun d => { (d.setStoreWord 0 0 16 0x10404000#32) with packets := [(1, { gen := 1, bytes := List.replicate 64 7 })], ctxs := [(3, some { packet := 1, bank := 0, g := [3, 3], wlen := 64, md := List.replicate 128 0, pc := 16 })] }), 0, 3, 0x10404000, { packet := 1, bank := 0, g := [3, 3], wlen := 64, md := List.replicate 128 0, pc := 16 }, by decide +kernel⟩
theorem witness_GafferRegisterInstructions_5 : ∃ (s : State) (core c w : Nat) (x : Ctx),
    (s.dev.issues core c x w 1 = true) ∧ (opcodeOf w = 0x05) ∧ (bits w 0 14 = 0) :=
  ⟨Test.ready (fun d => { (d.setStoreWord 0 0 16 0x14404000#32) with packets := [(1, { gen := 1, bytes := List.replicate 64 7 })], ctxs := [(3, some { packet := 1, bank := 0, g := [3, 3], wlen := 64, md := List.replicate 128 0, pc := 16 })] }), 0, 3, 0x14404000, { packet := 1, bank := 0, g := [3, 3], wlen := 64, md := List.replicate 128 0, pc := 16 }, by decide +kernel⟩
theorem witness_GafferRegisterInstructions_6 : ∃ (s : State) (core c w : Nat) (x : Ctx),
    (s.dev.issues core c x w 1 = true) ∧ (opcodeOf w = 0x06) ∧ (bits w 0 14 = 0) :=
  ⟨Test.ready (fun d => { (d.setStoreWord 0 0 16 0x18404000#32) with packets := [(1, { gen := 1, bytes := List.replicate 64 7 })], ctxs := [(3, some { packet := 1, bank := 0, g := [3, 3], wlen := 64, md := List.replicate 128 0, pc := 16 })] }), 0, 3, 0x18404000, { packet := 1, bank := 0, g := [3, 3], wlen := 64, md := List.replicate 128 0, pc := 16 }, by decide +kernel⟩
theorem witness_GafferRegisterInstructions_7 : ∃ (s : State) (core c w : Nat) (x : Ctx),
    (s.dev.issues core c x w 1 = true) ∧ (opcodeOf w = 0x07) ∧ (bits w 0 14 = 0) :=
  ⟨Test.ready (fun d => { (d.setStoreWord 0 0 16 0x1c404000#32) with packets := [(1, { gen := 1, bytes := List.replicate 64 7 })], ctxs := [(3, some { packet := 1, bank := 0, g := [3, 3], wlen := 64, md := List.replicate 128 0, pc := 16 })] }), 0, 3, 0x1c404000, { packet := 1, bank := 0, g := [3, 3], wlen := 64, md := List.replicate 128 0, pc := 16 }, by decide +kernel⟩
theorem witness_GafferRegisterInstructions_8 : ∃ (s : State) (core c w : Nat) (x : Ctx),
    (s.dev.issues core c x w 1 = true) ∧ (opcodeOf w = 0x08) ∧ (bits w 0 18 = 0) :=
  ⟨Test.ready (fun d => { (d.setStoreWord 0 0 16 0x20400000#32) with packets := [(1, { gen := 1, bytes := List.replicate 64 7 })], ctxs := [(3, some { packet := 1, bank := 0, g := [3, 3], wlen := 64, md := List.replicate 128 0, pc := 16 })] }), 0, 3, 0x20400000, { packet := 1, bank := 0, g := [3, 3], wlen := 64, md := List.replicate 128 0, pc := 16 }, by decide +kernel⟩

theorem witness_GafferImmediateInstructions_1 : ∃ (s : State) (core c w : Nat) (x : Ctx),
    (s.dev.issues core c x w 1 = true) ∧ (opcodeOf w = 0x09) :=
  ⟨Test.ready (fun d => { (d.setStoreWord 0 0 16 0x2440001f#32) with packets := [(1, { gen := 1, bytes := List.replicate 64 7 })], ctxs := [(3, some { packet := 1, bank := 0, g := [3, 3], wlen := 64, md := List.replicate 128 0, pc := 16 })] }), 0, 3, 0x2440001f, { packet := 1, bank := 0, g := [3, 3], wlen := 64, md := List.replicate 128 0, pc := 16 }, by decide +kernel⟩
theorem witness_GafferImmediateInstructions_2 : ∃ (s : State) (core c w : Nat) (x : Ctx),
    (s.dev.issues core c x w 1 = true) ∧ (opcodeOf w = 0x0A) :=
  ⟨Test.ready (fun d => { (d.setStoreWord 0 0 16 0x2840001f#32) with packets := [(1, { gen := 1, bytes := List.replicate 64 7 })], ctxs := [(3, some { packet := 1, bank := 0, g := [3, 3], wlen := 64, md := List.replicate 128 0, pc := 16 })] }), 0, 3, 0x2840001f, { packet := 1, bank := 0, g := [3, 3], wlen := 64, md := List.replicate 128 0, pc := 16 }, by decide +kernel⟩
theorem witness_GafferImmediateInstructions_3 : ∃ (s : State) (core c w : Nat) (x : Ctx),
    (s.dev.issues core c x w 1 = true) ∧ (opcodeOf w = 0x0B) :=
  ⟨Test.ready (fun d => { (d.setStoreWord 0 0 16 0x2c40001f#32) with packets := [(1, { gen := 1, bytes := List.replicate 64 7 })], ctxs := [(3, some { packet := 1, bank := 0, g := [3, 3], wlen := 64, md := List.replicate 128 0, pc := 16 })] }), 0, 3, 0x2c40001f, { packet := 1, bank := 0, g := [3, 3], wlen := 64, md := List.replicate 128 0, pc := 16 }, by decide +kernel⟩
theorem witness_GafferImmediateInstructions_4 : ∃ (s : State) (core c w : Nat) (x : Ctx),
    (s.dev.issues core c x w 1 = true) ∧ (opcodeOf w = 0x0C) :=
  ⟨Test.ready (fun d => { (d.setStoreWord 0 0 16 0x3040001f#32) with packets := [(1, { gen := 1, bytes := List.replicate 64 7 })], ctxs := [(3, some { packet := 1, bank := 0, g := [3, 3], wlen := 64, md := List.replicate 128 0, pc := 16 })] }), 0, 3, 0x3040001f, { packet := 1, bank := 0, g := [3, 3], wlen := 64, md := List.replicate 128 0, pc := 16 }, by decide +kernel⟩
theorem witness_GafferImmediateInstructions_5 : ∃ (s : State) (core c w : Nat) (x : Ctx),
    (s.dev.issues core c x w 1 = true) ∧ (opcodeOf w = 0x0D) ∧ (bits w 5 13 = 0) :=
  ⟨Test.ready (fun d => { (d.setStoreWord 0 0 16 0x3440001f#32) with packets := [(1, { gen := 1, bytes := List.replicate 64 7 })], ctxs := [(3, some { packet := 1, bank := 0, g := [3, 3], wlen := 64, md := List.replicate 128 0, pc := 16 })] }), 0, 3, 0x3440001f, { packet := 1, bank := 0, g := [3, 3], wlen := 64, md := List.replicate 128 0, pc := 16 }, by decide +kernel⟩
theorem witness_GafferImmediateInstructions_6 : ∃ (s : State) (core c w : Nat) (x : Ctx),
    (s.dev.issues core c x w 1 = true) ∧ (opcodeOf w = 0x0E) ∧ (bits w 5 13 = 0) :=
  ⟨Test.ready (fun d => { (d.setStoreWord 0 0 16 0x3840001f#32) with packets := [(1, { gen := 1, bytes := List.replicate 64 7 })], ctxs := [(3, some { packet := 1, bank := 0, g := [3, 3], wlen := 64, md := List.replicate 128 0, pc := 16 })] }), 0, 3, 0x3840001f, { packet := 1, bank := 0, g := [3, 3], wlen := 64, md := List.replicate 128 0, pc := 16 }, by decide +kernel⟩
theorem witness_GafferImmediateInstructions_7 : ∃ (s : State) (core c w : Nat) (x : Ctx),
    (s.dev.issues core c x w 1 = true) ∧ (opcodeOf w = 0x0F) ∧ (bits w 18 4 = 0) :=
  ⟨Test.ready (fun d => { (d.setStoreWord 0 0 16 0x3c43ffff#32) with packets := [(1, { gen := 1, bytes := List.replicate 64 7 })], ctxs := [(3, some { packet := 1, bank := 0, g := [3, 3], wlen := 64, md := List.replicate 128 0, pc := 16 })] }), 0, 3, 0x3c43ffff, { packet := 1, bank := 0, g := [3, 3], wlen := 64, md := List.replicate 128 0, pc := 16 }, by decide +kernel⟩
theorem witness_GafferImmediateInstructions_8 : ∃ (s : State) (core c w : Nat) (x : Ctx),
    (s.dev.issues core c x w 1 = true) ∧ (opcodeOf w = 0x10) ∧ (bits w 18 4 = 0) ∧ (bits w 16 2 = 0) :=
  ⟨Test.ready (fun d => { (d.setStoreWord 0 0 16 0x4040ffff#32) with packets := [(1, { gen := 1, bytes := List.replicate 64 7 })], ctxs := [(3, some { packet := 1, bank := 0, g := [3, 3], wlen := 64, md := List.replicate 128 0, pc := 16 })] }), 0, 3, 0x4040ffff, { packet := 1, bank := 0, g := [3, 3], wlen := 64, md := List.replicate 128 0, pc := 16 }, by decide +kernel⟩
theorem witness_GafferImmediateInstructions_9 : ∃ (s : State) (core c w : Nat) (x : Ctx),
    (s.dev.issues core c x w 1 = true) ∧ (opcodeOf w = 0x11) ∧ (bits w 0 8 = 0) ∧ (bits w 13 5 + (bits w 8 5 + 1) ≤ 32) :=
  ⟨Test.ready (fun d => { (d.setStoreWord 0 0 16 0x44401f00#32) with packets := [(1, { gen := 1, bytes := List.replicate 64 7 })], ctxs := [(3, some { packet := 1, bank := 0, g := [3, 3], wlen := 64, md := List.replicate 128 0, pc := 16 })] }), 0, 3, 0x44401f00, { packet := 1, bank := 0, g := [3, 3], wlen := 64, md := List.replicate 128 0, pc := 16 }, by decide +kernel⟩
theorem witness_GafferImmediateInstructions_10 : ∃ (s : State) (core c w : Nat) (x : Ctx),
    (s.dev.issues core c x w 1 = true) ∧ (opcodeOf w = 0x12) ∧ (bits w 0 8 = 0) ∧ (bits w 13 5 + (bits w 8 5 + 1) ≤ 32) :=
  ⟨Test.ready (fun d => { (d.setStoreWord 0 0 16 0x48401f00#32) with packets := [(1, { gen := 1, bytes := List.replicate 64 7 })], ctxs := [(3, some { packet := 1, bank := 0, g := [3, 3], wlen := 64, md := List.replicate 128 0, pc := 16 })] }), 0, 3, 0x48401f00, { packet := 1, bank := 0, g := [3, 3], wlen := 64, md := List.replicate 128 0, pc := 16 }, by decide +kernel⟩

theorem witness_GafferWindowInstructions_1 : ∃ (s : State) (core c w : Nat) (x : Ctx),
    (s.dev.issues core c x w 1 = true) ∧ (opcodeOf w = 0x14) ∧ (bits w 0 11 = 0) ∧ (x.offset (bitAt w 12) (bits w 13 9) + 1 ≤ x.wlen) :=
  ⟨Test.ready (fun d => { (d.setStoreWord 0 0 16 0x50408000#32) with packets := [(1, { gen := 1, bytes := List.replicate 64 7 })], ctxs := [(3, some { packet := 1, bank := 0, g := [3, 3], wlen := 64, md := List.replicate 128 0, pc := 16 })] }), 0, 3, 0x50408000, { packet := 1, bank := 0, g := [3, 3], wlen := 64, md := List.replicate 128 0, pc := 16 }, by decide +kernel⟩
theorem witness_GafferWindowInstructions_2 : ∃ (s : State) (core c w : Nat) (x : Ctx),
    (s.dev.issues core c x w 1 = true) ∧ (opcodeOf w = 0x15) ∧ (bits w 0 11 = 0) ∧ (x.offset (bitAt w 12) (bits w 13 9) + 2 ≤ x.wlen) :=
  ⟨Test.ready (fun d => { (d.setStoreWord 0 0 16 0x54408000#32) with packets := [(1, { gen := 1, bytes := List.replicate 64 7 })], ctxs := [(3, some { packet := 1, bank := 0, g := [3, 3], wlen := 64, md := List.replicate 128 0, pc := 16 })] }), 0, 3, 0x54408000, { packet := 1, bank := 0, g := [3, 3], wlen := 64, md := List.replicate 128 0, pc := 16 }, by decide +kernel⟩
theorem witness_GafferWindowInstructions_3 : ∃ (s : State) (core c w : Nat) (x : Ctx),
    (s.dev.issues core c x w 1 = true) ∧ (opcodeOf w = 0x16) ∧ (bits w 0 11 = 0) ∧ (x.offset (bitAt w 12) (bits w 13 9) + 4 ≤ x.wlen) :=
  ⟨Test.ready (fun d => { (d.setStoreWord 0 0 16 0x58408000#32) with packets := [(1, { gen := 1, bytes := List.replicate 64 7 })], ctxs := [(3, some { packet := 1, bank := 0, g := [3, 3], wlen := 64, md := List.replicate 128 0, pc := 16 })] }), 0, 3, 0x58408000, { packet := 1, bank := 0, g := [3, 3], wlen := 64, md := List.replicate 128 0, pc := 16 }, by decide +kernel⟩
theorem witness_GafferWindowInstructions_4 : ∃ (s : State) (core c w : Nat) (x : Ctx),
    (s.dev.issues core c x w 1 = true) ∧ (opcodeOf w = 0x14) ∧ (bitAt w 0 = false) ∧ (bits w 1 10 = 0) ∧ (bitAt w 11 = true) ∧ (x.wlen < x.offset (bitAt w 12) (bits w 13 9) + 1) :=
  ⟨Test.ready (fun d => { (d.setStoreWord 0 0 16 0x50480800#32) with packets := [(1, { gen := 1, bytes := List.replicate 64 7 })], ctxs := [(3, some { packet := 1, bank := 0, g := [3, 3], wlen := 64, md := List.replicate 128 0, pc := 16 })] }), 0, 3, 0x50480800, { packet := 1, bank := 0, g := [3, 3], wlen := 64, md := List.replicate 128 0, pc := 16 }, by decide +kernel⟩
theorem witness_GafferWindowInstructions_5 : ∃ (s : State) (core c w : Nat) (x : Ctx),
    (s.dev.issues core c x w 1 = true) ∧ (opcodeOf w = 0x15) ∧ (bitAt w 0 = false) ∧ (bits w 1 10 = 0) ∧ (bitAt w 11 = true) ∧ (x.wlen < x.offset (bitAt w 12) (bits w 13 9) + 2) :=
  ⟨Test.ready (fun d => { (d.setStoreWord 0 0 16 0x54480800#32) with packets := [(1, { gen := 1, bytes := List.replicate 64 7 })], ctxs := [(3, some { packet := 1, bank := 0, g := [3, 3], wlen := 64, md := List.replicate 128 0, pc := 16 })] }), 0, 3, 0x54480800, { packet := 1, bank := 0, g := [3, 3], wlen := 64, md := List.replicate 128 0, pc := 16 }, by decide +kernel⟩
theorem witness_GafferWindowInstructions_6 : ∃ (s : State) (core c w : Nat) (x : Ctx),
    (s.dev.issues core c x w 1 = true) ∧ (opcodeOf w = 0x16) ∧ (bitAt w 0 = false) ∧ (bits w 1 10 = 0) ∧ (bitAt w 11 = true) ∧ (x.wlen < x.offset (bitAt w 12) (bits w 13 9) + 4) :=
  ⟨Test.ready (fun d => { (d.setStoreWord 0 0 16 0x58480800#32) with packets := [(1, { gen := 1, bytes := List.replicate 64 7 })], ctxs := [(3, some { packet := 1, bank := 0, g := [3, 3], wlen := 64, md := List.replicate 128 0, pc := 16 })] }), 0, 3, 0x58480800, { packet := 1, bank := 0, g := [3, 3], wlen := 64, md := List.replicate 128 0, pc := 16 }, by decide +kernel⟩
theorem witness_GafferWindowInstructions_7 : ∃ (s : State) (core c w : Nat) (x : Ctx),
    (s.dev.issues core c x w 1 = true) ∧ (opcodeOf w = 0x17) ∧ (bitAt w 0 = false) ∧ (bits w 6 5 + (bits w 1 5 + 1) ≤ 32) ∧ (x.offset (bitAt w 12) (bits w 13 9) + 4 ≤ x.wlen) :=
  ⟨Test.ready (fun d => { (d.setStoreWord 0 0 16 0x5c40803e#32) with packets := [(1, { gen := 1, bytes := List.replicate 64 7 })], ctxs := [(3, some { packet := 1, bank := 0, g := [3, 3], wlen := 64, md := List.replicate 128 0, pc := 16 })] }), 0, 3, 0x5c40803e, { packet := 1, bank := 0, g := [3, 3], wlen := 64, md := List.replicate 128 0, pc := 16 }, by decide +kernel⟩
theorem witness_GafferWindowInstructions_8 : ∃ (s : State) (core c w : Nat) (x : Ctx),
    (s.dev.issues core c x w 1 = true) ∧ (opcodeOf w = 0x18) ∧ (bits w 22 4 = 0) ∧ (bits w 10 7 = 0) ∧ (bitAt w 17 = true) :=
  ⟨Test.ready (fun d => { (d.setStoreWord 0 0 16 0x60060007#32) with packets := [(1, { gen := 1, bytes := List.replicate 64 7 })], ctxs := [(3, some { packet := 1, bank := 0, g := [3, 3], wlen := 64, md := List.replicate 128 0, pc := 16 })] }), 0, 3, 0x60060007, { packet := 1, bank := 0, g := [3, 3], wlen := 64, md := List.replicate 128 0, pc := 16 }, by decide +kernel⟩
theorem witness_GafferWindowInstructions_9 : ∃ (s : State) (core c w : Nat) (x : Ctx),
    (s.dev.issues core c x w 1 = true) ∧ (opcodeOf w = 0x18) ∧ (bits w 22 4 = 0) ∧ (bits w 10 7 = 0) ∧ (bitAt w 17 = false) ∧ (bits w 18 4 = 0) :=
  ⟨Test.ready (fun d => { (d.setStoreWord 0 0 16 0x60000007#32) with packets := [(1, { gen := 1, bytes := List.replicate 64 7 })], ctxs := [(3, some { packet := 1, bank := 0, g := [3, 3], wlen := 64, md := List.replicate 128 0, pc := 16 })] }), 0, 3, 0x60000007, { packet := 1, bank := 0, g := [3, 3], wlen := 64, md := List.replicate 128 0, pc := 16 }, by decide +kernel⟩
theorem witness_GafferWindowInstructions_10 : ∃ (s : State) (core c w : Nat) (x : Ctx),
    (s.dev.issues core c x w 1 = true) ∧ (opcodeOf w = 0x19) ∧ (bits w 22 4 = 0) ∧ (bits w 10 7 = 0) ∧ (bitAt w 17 = true) :=
  ⟨Test.ready (fun d => { (d.setStoreWord 0 0 16 0x64060007#32) with packets := [(1, { gen := 1, bytes := List.replicate 64 7 })], ctxs := [(3, some { packet := 1, bank := 0, g := [3, 3], wlen := 64, md := List.replicate 128 0, pc := 16 })] }), 0, 3, 0x64060007, { packet := 1, bank := 0, g := [3, 3], wlen := 64, md := List.replicate 128 0, pc := 16 }, by decide +kernel⟩
theorem witness_GafferWindowInstructions_11 : ∃ (s : State) (core c w : Nat) (x : Ctx),
    (s.dev.issues core c x w 1 = true) ∧ (opcodeOf w = 0x1A) ∧ (bits w 0 22 = 0) :=
  ⟨Test.ready (fun d => { (d.setStoreWord 0 0 16 0x68400000#32) with packets := [(1, { gen := 1, bytes := List.replicate 64 7 })], ctxs := [(3, some { packet := 1, bank := 0, g := [3, 3], wlen := 64, md := List.replicate 128 0, pc := 16 })] }), 0, 3, 0x68400000, { packet := 1, bank := 0, g := [3, 3], wlen := 64, md := List.replicate 128 0, pc := 16 }, by decide +kernel⟩
theorem witness_GafferWindowInstructions_12 : ∃ (s : State) (core c w : Nat) (x : Ctx),
    (s.dev.issues core c x w 1 = true) ∧ (opcodeOf w = 0x1B) ∧ (bits w 0 26 = 0) ∧ (256 < x.frameLen) ∧ (x.extended = false) :=
  ⟨Test.ready (fun d => { (d.setStoreWord 0 0 16 0x6c000000#32) with packets := [(1, { gen := 1, bytes := List.replicate 64 7 })], ctxs := [(3, some { packet := 1, bank := 0, g := [3, 3], wlen := 64, md := [0, 0, 0, 0, 0, 2], pc := 16 })] }), 0, 3, 0x6c000000, { packet := 1, bank := 0, g := [3, 3], wlen := 64, md := [0, 0, 0, 0, 0, 2], pc := 16 }, by decide +kernel⟩

theorem witness_GafferControlInstructions_1 : ∃ (s : State) (core c w : Nat) (x : Ctx),
    (s.dev.issues core c x w 2 = true) ∧ (opcodeOf w = 0x1C) ∧ (bits w 11 4 = 0) ∧ (condHolds (bits w 15 3) (x.reg (bits w 22 4)) (x.reg (bits w 18 4)) = true) ∧ (16 ≤ bits w 0 11) :=
  ⟨Test.ready (fun d => { (d.setStoreWord 0 0 16 0x70040014#32) with packets := [(1, { gen := 1, bytes := List.replicate 64 7 })], ctxs := [(3, some { packet := 1, bank := 0, g := [3, 3], wlen := 64, md := List.replicate 128 0, pc := 16 })] }), 0, 3, 0x70040014, { packet := 1, bank := 0, g := [3, 3], wlen := 64, md := List.replicate 128 0, pc := 16 }, by decide +kernel⟩
theorem witness_GafferControlInstructions_2 : ∃ (s : State) (core c w : Nat) (x : Ctx),
    (s.dev.issues core c x w 1 = true) ∧ (opcodeOf w = 0x1C) ∧ (bits w 11 4 = 0) ∧ (condHolds (bits w 15 3) (x.reg (bits w 22 4)) (x.reg (bits w 18 4)) = false) :=
  ⟨Test.ready (fun d => { (d.setStoreWord 0 0 16 0x70048014#32) with packets := [(1, { gen := 1, bytes := List.replicate 64 7 })], ctxs := [(3, some { packet := 1, bank := 0, g := [3, 3], wlen := 64, md := List.replicate 128 0, pc := 16 })] }), 0, 3, 0x70048014, { packet := 1, bank := 0, g := [3, 3], wlen := 64, md := List.replicate 128 0, pc := 16 }, by decide +kernel⟩
theorem witness_GafferControlInstructions_3 : ∃ (s : State) (core c w : Nat) (x : Ctx),
    (s.dev.issues core c x w 2 = true) ∧ (opcodeOf w = 0x1D) ∧ (condHolds (bits w 19 3) (x.reg (bits w 22 4)) (BitVec.ofNat 32 (bits w 11 8)) = true) ∧ (16 ≤ bits w 0 11) :=
  ⟨Test.ready (fun d => { (d.setStoreWord 0 0 16 0x74001814#32) with packets := [(1, { gen := 1, bytes := List.replicate 64 7 })], ctxs := [(3, some { packet := 1, bank := 0, g := [3, 3], wlen := 64, md := List.replicate 128 0, pc := 16 })] }), 0, 3, 0x74001814, { packet := 1, bank := 0, g := [3, 3], wlen := 64, md := List.replicate 128 0, pc := 16 }, by decide +kernel⟩
theorem witness_GafferControlInstructions_4 : ∃ (s : State) (core c w : Nat) (x : Ctx),
    (s.dev.issues core c x w 1 = true) ∧ (opcodeOf w = 0x1D) ∧ (condHolds (bits w 19 3) (x.reg (bits w 22 4)) (BitVec.ofNat 32 (bits w 11 8)) = false) :=
  ⟨Test.ready (fun d => { (d.setStoreWord 0 0 16 0x74002014#32) with packets := [(1, { gen := 1, bytes := List.replicate 64 7 })], ctxs := [(3, some { packet := 1, bank := 0, g := [3, 3], wlen := 64, md := List.replicate 128 0, pc := 16 })] }), 0, 3, 0x74002014, { packet := 1, bank := 0, g := [3, 3], wlen := 64, md := List.replicate 128 0, pc := 16 }, by decide +kernel⟩
theorem witness_GafferControlInstructions_5 : ∃ (s : State) (core c w : Nat) (x : Ctx),
    (s.dev.issues core c x w 2 = true) ∧ (opcodeOf w = 0x1E) ∧ (bits w 11 6 = 0) ∧ (bits w 24 2 = 3) ∧ (bitAt x.flags (bits w 17 6) = bitAt w 23) ∧ (16 ≤ bits w 0 11) :=
  ⟨Test.ready (fun d => { (d.setStoreWord 0 0 16 0x7b000014#32) with packets := [(1, { gen := 1, bytes := List.replicate 64 7 })], ctxs := [(3, some { packet := 1, bank := 0, g := [3, 3], wlen := 64, md := List.replicate 128 0, pc := 16 })] }), 0, 3, 0x7b000014, { packet := 1, bank := 0, g := [3, 3], wlen := 64, md := List.replicate 128 0, pc := 16 }, by decide +kernel⟩
theorem witness_GafferControlInstructions_6 : ∃ (s : State) (core c w : Nat) (x : Ctx),
    (s.dev.issues core c x w 1 = true) ∧ (opcodeOf w = 0x1E) ∧ (bits w 11 6 = 0) ∧ (bits w 24 2 = 0) ∧ (bits w 17 6 = 0) ∧ (x.z ≠ bitAt w 23) :=
  ⟨Test.ready (fun d => { (d.setStoreWord 0 0 16 0x78800014#32) with packets := [(1, { gen := 1, bytes := List.replicate 64 7 })], ctxs := [(3, some { packet := 1, bank := 0, g := [3, 3], wlen := 64, md := List.replicate 128 0, pc := 16 })] }), 0, 3, 0x78800014, { packet := 1, bank := 0, g := [3, 3], wlen := 64, md := List.replicate 128 0, pc := 16 }, by decide +kernel⟩
theorem witness_GafferControlInstructions_7 : ∃ (s : State) (core c w : Nat) (x : Ctx),
    (s.dev.issues core c x w 2 = true) ∧ (opcodeOf w = 0x1F) ∧ (bits w 11 15 = 0) ∧ (16 ≤ bits w 0 11) :=
  ⟨Test.ready (fun d => { (d.setStoreWord 0 0 16 0x7c000014#32) with packets := [(1, { gen := 1, bytes := List.replicate 64 7 })], ctxs := [(3, some { packet := 1, bank := 0, g := [3, 3], wlen := 64, md := List.replicate 128 0, pc := 16 })] }), 0, 3, 0x7c000014, { packet := 1, bank := 0, g := [3, 3], wlen := 64, md := List.replicate 128 0, pc := 16 }, by decide +kernel⟩
theorem witness_GafferControlInstructions_8 : ∃ (s : State) (core c w : Nat) (x : Ctx),
    (s.dev.issues core c x w 2 = true) ∧ (opcodeOf w = 0x20) ∧ (bits w 11 15 = 0) ∧ (x.stack.length < 4) ∧ (16 ≤ bits w 0 11) :=
  ⟨Test.ready (fun d => { (d.setStoreWord 0 0 16 0x80000014#32) with packets := [(1, { gen := 1, bytes := List.replicate 64 7 })], ctxs := [(3, some { packet := 1, bank := 0, g := [3, 3], wlen := 64, md := List.replicate 128 0, pc := 16 })] }), 0, 3, 0x80000014, { packet := 1, bank := 0, g := [3, 3], wlen := 64, md := List.replicate 128 0, pc := 16 }, by decide +kernel⟩
theorem witness_GafferControlInstructions_9 : ∃ (s : State) (core c w : Nat) (x : Ctx) (a : Nat) (rest : List Nat),
    (s.dev.issues core c x w 2 = true) ∧ (opcodeOf w = 0x21) ∧ (bits w 0 26 = 0) ∧ (x.stack = a :: rest) :=
  ⟨Test.ready (fun d => { (d.setStoreWord 0 0 16 0x84000000#32) with packets := [(1, { gen := 1, bytes := List.replicate 64 7 })], ctxs := [(3, some { packet := 1, bank := 0, g := [3, 3], wlen := 64, md := List.replicate 128 0, pc := 16, stack := [30] })] }), 0, 3, 0x84000000, { packet := 1, bank := 0, g := [3, 3], wlen := 64, md := List.replicate 128 0, pc := 16, stack := [30] }, 30, [], by decide +kernel⟩
theorem witness_GafferControlInstructions_10 : ∃ (s : State) (core c w : Nat) (x : Ctx) (t : Nat),
    (s.dev.issues core c x w 3 = true) ∧ (opcodeOf w = 0x22) ∧ (bits w 0 17 = 0) ∧ (1 ≤ bits w 17 5) ∧ (bits w 17 5 ≤ 8) ∧ (x.pc + 2 ^ bits w 17 5 ≤ 2047) ∧ ((s.dev.storeWord (ctxUnit c) x.bank (x.pc + 1 + (x.reg (bits w 22 4)).toNat % 2 ^ bits w 17 5)).toNat = t) ∧ (16 ≤ t) ∧ (t < 2048) :=
  ⟨Test.ready (fun d => { ((d.setStoreWord 0 0 18 20#32).setStoreWord 0 0 16 0x88020000#32) with packets := [(1, { gen := 1, bytes := List.replicate 64 7 })], ctxs := [(3, some { packet := 1, bank := 0, g := [3, 3], wlen := 64, md := List.replicate 128 0, pc := 16 })] }), 0, 3, 0x88020000, { packet := 1, bank := 0, g := [3, 3], wlen := 64, md := List.replicate 128 0, pc := 16 }, 20, by decide +kernel⟩
theorem witness_GafferControlInstructions_11 : ∃ (s : State) (core c w : Nat) (x : Ctx),
    (s.dev.issues core c x w (if bits w 17 5 ≤ 8 then 2 else 3) = true) ∧ (opcodeOf w = 0x23) ∧ (bits w 0 17 = 0) ∧ (1 ≤ bits w 17 5) ∧ (bits w 17 5 ≤ 16) ∧ (x.pc + bits w 17 5 ≤ 2047) ∧ ((((s.dev.view c x).table.take (bits w 17 5)).find? (fun t => bits t 16 16 == (x.reg (bits w 22 4)).toNat % 2 ^ 16)) = none) :=
  ⟨Test.ready (fun d => { (d.setStoreWord 0 0 16 0x8c200000#32) with packets := [(1, { gen := 1, bytes := List.replicate 64 7 })], ctxs := [(3, some { packet := 1, bank := 0, g := [3, 3], wlen := 64, md := List.replicate 128 0, pc := 16 })] }), 0, 3, 0x8c200000, { packet := 1, bank := 0, g := [3, 3], wlen := 64, md := List.replicate 128 0, pc := 16 }, by decide +kernel⟩
theorem witness_GafferControlInstructions_12 : ∃ (s : State) (core c w : Nat) (x : Ctx) (t : Nat),
    (s.dev.issues core c x w (if bits w 17 5 ≤ 8 then 2 else 3) = true) ∧ (opcodeOf w = 0x23) ∧ (bits w 0 17 = 0) ∧ (1 ≤ bits w 17 5) ∧ (bits w 17 5 ≤ 16) ∧ (x.pc + bits w 17 5 ≤ 2047) ∧ ((((s.dev.view c x).table.take (bits w 17 5)).find? (fun t => bits t 16 16 == (x.reg (bits w 22 4)).toNat % 2 ^ 16)) = some t) ∧ (bits t 11 5 = 0) ∧ (16 ≤ bits t 0 11) :=
  ⟨Test.ready (fun d => { ((d.setStoreWord 0 0 17 0x30014#32).setStoreWord 0 0 16 0x8c020000#32) with packets := [(1, { gen := 1, bytes := List.replicate 64 7 })], ctxs := [(3, some { packet := 1, bank := 0, g := [3, 3], wlen := 64, md := List.replicate 128 0, pc := 16 })] }), 0, 3, 0x8c020000, { packet := 1, bank := 0, g := [3, 3], wlen := 64, md := List.replicate 128 0, pc := 16 }, 0x30014, by decide +kernel⟩

theorem witness_GafferHashAndRecordInstructions_1 : ∃ (s : State) (core c w : Nat) (x : Ctx),
    (s.dev.issues core c x w 1 = true) ∧ (opcodeOf w = 0x24) ∧ (bits w 0 20 = 0) ∧ (bits w 22 4 = 0) :=
  ⟨Test.ready (fun d => { (d.setStoreWord 0 0 16 0x90300000#32) with packets := [(1, { gen := 1, bytes := List.replicate 64 7 })], ctxs := [(3, some { packet := 1, bank := 0, g := [3, 3], wlen := 64, md := List.replicate 128 0, pc := 16 })] }), 0, 3, 0x90300000, { packet := 1, bank := 0, g := [3, 3], wlen := 64, md := List.replicate 128 0, pc := 16 }, by decide +kernel⟩
theorem witness_GafferHashAndRecordInstructions_2 : ∃ (s : State) (core c w : Nat) (x : Ctx),
    (s.dev.issues core c x w (1 + (bits w 20 6 + 1 + 7) / 8) = true) ∧ (opcodeOf w = 0x25) ∧ (bits w 0 10 = 0) ∧ (x.offset (bitAt w 10) (bits w 11 9) + (bits w 20 6 + 1) ≤ x.wlen) :=
  ⟨Test.ready (fun d => { (d.setStoreWord 0 0 16 0x97f00000#32) with packets := [(1, { gen := 1, bytes := List.replicate 64 7 })], ctxs := [(3, some { packet := 1, bank := 0, g := [3, 3], wlen := 64, md := List.replicate 128 0, pc := 16 })] }), 0, 3, 0x97f00000, { packet := 1, bank := 0, g := [3, 3], wlen := 64, md := List.replicate 128 0, pc := 16 }, by decide +kernel⟩
theorem witness_GafferHashAndRecordInstructions_3 : ∃ (s : State) (core c w : Nat) (x : Ctx),
    (s.dev.issues core c x w (1 + (bits w 20 6 + 1 + 3) / 4) = true) ∧ (opcodeOf w = 0x27) ∧ (bits w 0 10 = 0) ∧ (x.offset (bitAt w 10) (bits w 11 9) + (bits w 20 6 + 1) ≤ x.wlen) ∧ (x.toeBytes + (bits w 20 6 + 1) ≤ 36) :=
  ⟨Test.ready (fun d => { (d.setStoreWord 0 0 16 0x9e300000#32) with packets := [(1, { gen := 1, bytes := List.replicate 64 7 })], ctxs := [(3, some { packet := 1, bank := 0, g := [3, 3], wlen := 64, md := List.replicate 128 0, pc := 16 })] }), 0, 3, 0x9e300000, { packet := 1, bank := 0, g := [3, 3], wlen := 64, md := List.replicate 128 0, pc := 16 }, by decide +kernel⟩
theorem witness_GafferHashAndRecordInstructions_4 : ∃ (s : State) (core c w : Nat) (x : Ctx),
    (s.dev.issues core c x w (1 + (bits w 20 6 + 1 + 7) / 8) = true) ∧ (opcodeOf w = 0x25) ∧ (bits w 0 9 = 0) ∧ (bitAt w 9 = true) ∧ (x.wlen < x.offset (bitAt w 10) (bits w 11 9) + (bits w 20 6 + 1)) :=
  ⟨Test.ready (fun d => { (d.setStoreWord 0 0 16 0x97fffa00#32) with packets := [(1, { gen := 1, bytes := List.replicate 64 7 })], ctxs := [(3, some { packet := 1, bank := 0, g := [3, 3], wlen := 64, md := List.replicate 128 0, pc := 16 })] }), 0, 3, 0x97fffa00, { packet := 1, bank := 0, g := [3, 3], wlen := 64, md := List.replicate 128 0, pc := 16 }, by decide +kernel⟩
theorem witness_GafferHashAndRecordInstructions_5 : ∃ (s : State) (core c w : Nat) (x : Ctx),
    (s.dev.issues core c x w (1 + (bits w 20 6 + 1 + 3) / 4) = true) ∧ (opcodeOf w = 0x27) ∧ (bits w 0 9 = 0) ∧ (bitAt w 9 = true) ∧ (x.wlen < x.offset (bitAt w 10) (bits w 11 9) + (bits w 20 6 + 1)) ∧ (x.toeBytes + (((s.dev.windowOf x).drop (x.offset (bitAt w 10) (bits w 11 9))).take (bits w 20 6 + 1)).length ≤ 36) :=
  ⟨Test.ready (fun d => { (d.setStoreWord 0 0 16 0x9ff0f200#32) with packets := [(1, { gen := 1, bytes := List.replicate 64 7 })], ctxs := [(3, some { packet := 1, bank := 0, g := [3, 3], wlen := 64, md := List.replicate 128 0, pc := 16 })] }), 0, 3, 0x9ff0f200, { packet := 1, bank := 0, g := [3, 3], wlen := 64, md := List.replicate 128 0, pc := 16 }, by decide +kernel⟩
theorem witness_GafferHashAndRecordInstructions_6 : ∃ (s : State) (core c w : Nat) (x : Ctx),
    (s.dev.issues core c x w 1 = true) ∧ (opcodeOf w = 0x26) ∧ (bits w 0 20 = 0) ∧ (bits w 20 2 ≠ 3) :=
  ⟨Test.ready (fun d => { (d.setStoreWord 0 0 16 0x98200000#32) with packets := [(1, { gen := 1, bytes := List.replicate 64 7 })], ctxs := [(3, some { packet := 1, bank := 0, g := [3, 3], wlen := 64, md := List.replicate 128 0, pc := 16 })] }), 0, 3, 0x98200000, { packet := 1, bank := 0, g := [3, 3], wlen := 64, md := List.replicate 128 0, pc := 16 }, by decide +kernel⟩
theorem witness_GafferHashAndRecordInstructions_7 : ∃ (s : State) (core c w : Nat) (x : Ctx),
    (s.dev.issues core c x w 1 = true) ∧ (opcodeOf w = 0x28) ∧ (bits w 0 20 = 0) ∧ (bits w 20 2 ≠ 3) ∧ (x.toeBytes + (toBe (2 ^ bits w 20 2) (x.reg (bits w 22 4)).toNat).length ≤ 36) :=
  ⟨Test.ready (fun d => { (d.setStoreWord 0 0 16 0xa0200000#32) with packets := [(1, { gen := 1, bytes := List.replicate 64 7 })], ctxs := [(3, some { packet := 1, bank := 0, g := [3, 3], wlen := 64, md := List.replicate 128 0, pc := 16 })] }), 0, 3, 0xa0200000, { packet := 1, bank := 0, g := [3, 3], wlen := 64, md := List.replicate 128 0, pc := 16 }, by decide +kernel⟩
theorem witness_GafferHashAndRecordInstructions_8 : ∃ (s : State) (core c w : Nat) (x : Ctx),
    (s.dev.issues core c x w 1 = true) ∧ (opcodeOf w = 0x29) ∧ (bits w 0 20 = 0) ∧ (bitAt w 21 = false) :=
  ⟨Test.ready (fun d => { (d.setStoreWord 0 0 16 0xa4400000#32) with packets := [(1, { gen := 1, bytes := List.replicate 64 7 })], ctxs := [(3, some { packet := 1, bank := 0, g := [3, 3], wlen := 64, md := List.replicate 128 0, pc := 16 })] }), 0, 3, 0xa4400000, { packet := 1, bank := 0, g := [3, 3], wlen := 64, md := List.replicate 128 0, pc := 16 }, by decide +kernel⟩
theorem witness_GafferHashAndRecordInstructions_9 : ∃ (s : State) (core c w : Nat) (x : Ctx),
    (s.dev.issues core c x w 1 = true) ∧ (opcodeOf w = 0x2A) ∧ (bits w 0 13 = 0) ∧ (bits w 13 2 ≠ 3) ∧ (16 ≤ bits w 15 7) ∧ (bits w 15 7 + 2 ^ bits w 13 2 ≤ 128) :=
  ⟨Test.ready (fun d => { (d.setStoreWord 0 0 16 0xa83e4000#32) with packets := [(1, { gen := 1, bytes := List.replicate 64 7 })], ctxs := [(3, some { packet := 1, bank := 0, g := [3, 3], wlen := 64, md := List.replicate 128 0, pc := 16 })] }), 0, 3, 0xa83e4000, { packet := 1, bank := 0, g := [3, 3], wlen := 64, md := List.replicate 128 0, pc := 16 }, by decide +kernel⟩
theorem witness_GafferHashAndRecordInstructions_10 : ∃ (s : State) (core c w : Nat) (x : Ctx),
    (s.dev.issues core c x w (if bits w 21 5 + 1 ≤ 16 then 1 else 2) = true) ∧ (opcodeOf w = 0x2B) ∧ (bits w 0 4 = 0) ∧ (16 ≤ bits w 14 7) ∧ (bits w 14 7 + (bits w 21 5 + 1) ≤ 128) ∧ (x.offset (bitAt w 4) (bits w 5 9) + (bits w 21 5 + 1) ≤ x.wlen) :=
  ⟨Test.ready (fun d => { (d.setStoreWord 0 0 16 0xaff80000#32) with packets := [(1, { gen := 1, bytes := List.replicate 64 7 })], ctxs := [(3, some { packet := 1, bank := 0, g := [3, 3], wlen := 64, md := List.replicate 128 0, pc := 16 })] }), 0, 3, 0xaff80000, { packet := 1, bank := 0, g := [3, 3], wlen := 64, md := List.replicate 128 0, pc := 16 }, by decide +kernel⟩
theorem witness_GafferHashAndRecordInstructions_11 : ∃ (s : State) (core c w : Nat) (x : Ctx),
    (s.dev.issues core c x w (if bits w 21 5 + 1 ≤ 16 then 1 else 2) = true) ∧ (opcodeOf w = 0x2B) ∧ (bits w 0 3 = 0) ∧ (bitAt w 3 = true) ∧ (16 ≤ bits w 14 7) ∧ (bits w 14 7 + (bits w 21 5 + 1) ≤ 128) ∧ (x.wlen < x.offset (bitAt w 4) (bits w 5 9) + (bits w 21 5 + 1)) :=
  ⟨Test.ready (fun d => { (d.setStoreWord 0 0 16 0xaff83fe8#32) with packets := [(1, { gen := 1, bytes := List.replicate 64 7 })], ctxs := [(3, some { packet := 1, bank := 0, g := [3, 3], wlen := 64, md := List.replicate 128 0, pc := 16 })] }), 0, 3, 0xaff83fe8, { packet := 1, bank := 0, g := [3, 3], wlen := 64, md := List.replicate 128 0, pc := 16 }, by decide +kernel⟩
theorem witness_GafferHashAndRecordInstructions_12 : ∃ (s : State) (core c w : Nat) (x : Ctx),
    (s.dev.issues core c x w 1 = true) ∧ (opcodeOf w = 0x2C) ∧ (bits w 0 18 = 0) ∧ (bits w 18 8 < 56) :=
  ⟨Test.ready (fun d => { (d.setStoreWord 0 0 16 0xb0dc0000#32) with packets := [(1, { gen := 1, bytes := List.replicate 64 7 })], ctxs := [(3, some { packet := 1, bank := 0, g := [3, 3], wlen := 64, md := List.replicate 128 0, pc := 16 })] }), 0, 3, 0xb0dc0000, { packet := 1, bank := 0, g := [3, 3], wlen := 64, md := List.replicate 128 0, pc := 16 }, by decide +kernel⟩
theorem witness_GafferHashAndRecordInstructions_13 : ∃ (s : State) (core c w : Nat) (x : Ctx),
    (s.dev.issues core c x w 1 = true) ∧ (opcodeOf w = 0x2D) ∧ (bits w 0 18 = 0) ∧ (bits w 18 8 < 56) :=
  ⟨Test.ready (fun d => { (d.setStoreWord 0 0 16 0xb4dc0000#32) with packets := [(1, { gen := 1, bytes := List.replicate 64 7 })], ctxs := [(3, some { packet := 1, bank := 0, g := [3, 3], wlen := 64, md := List.replicate 128 0, pc := 16 })] }), 0, 3, 0xb4dc0000, { packet := 1, bank := 0, g := [3, 3], wlen := 64, md := List.replicate 128 0, pc := 16 }, by decide +kernel⟩
theorem witness_GafferHashAndRecordInstructions_14 : ∃ (s : State) (core c w : Nat) (x : Ctx),
    (s.dev.issues core c x w 1 = true) ∧ (opcodeOf w = 0x2E) ∧ (bits w 0 18 = 0) :=
  ⟨Test.ready (fun d => { (d.setStoreWord 0 0 16 0xbbfc0000#32) with packets := [(1, { gen := 1, bytes := List.replicate 64 7 })], ctxs := [(3, some { packet := 1, bank := 0, g := [3, 3], wlen := 64, md := List.replicate 128 0, pc := 16 })] }), 0, 3, 0xbbfc0000, { packet := 1, bank := 0, g := [3, 3], wlen := 64, md := List.replicate 128 0, pc := 16 }, by decide +kernel⟩
theorem witness_GafferHashAndRecordInstructions_15 : ∃ (s : State) (core c w : Nat) (x : Ctx),
    (s.dev.issues core c x w 1 = true) ∧ (opcodeOf w = 0x30) ∧ (bits w 0 26 = 0) :=
  ⟨Test.ready (fun d => { (d.setStoreWord 0 0 16 0xc0000000#32) with packets := [(1, { gen := 1, bytes := List.replicate 64 7 })], ctxs := [(3, some { packet := 1, bank := 0, g := [3, 3], wlen := 64, md := List.replicate 128 0, pc := 16 })] }), 0, 3, 0xc0000000, { packet := 1, bank := 0, g := [3, 3], wlen := 64, md := List.replicate 128 0, pc := 16 }, by decide +kernel⟩
theorem witness_GafferHashAndRecordInstructions_16 : ∃ (s : State) (core c w : Nat) (x : Ctx),
    (s.dev.issues core c x w 1 = true) ∧ (opcodeOf w = 0x2F) ∧ (bits w 0 26 = 0) :=
  ⟨Test.ready (fun d => { (d.setStoreWord 0 0 16 0xbc000000#32) with packets := [(1, { gen := 1, bytes := List.replicate 64 7 })], ctxs := [(3, some { packet := 1, bank := 0, g := [3, 3], wlen := 64, md := List.replicate 128 0, pc := 16 })] }), 0, 3, 0xbc000000, { packet := 1, bank := 0, g := [3, 3], wlen := 64, md := List.replicate 128 0, pc := 16 }, by decide +kernel⟩
theorem witness_GafferHashAndRecordInstructions_17 : ∃ (s : State) (core c w : Nat) (x : Ctx),
    (s.dev.issues core c x w 1 = true) ∧ (opcodeOf w = 0x00) :=
  ⟨Test.ready (fun d => { (d.setStoreWord 0 0 16 0x0#32) with packets := [(1, { gen := 1, bytes := List.replicate 64 7 })], ctxs := [(3, some { packet := 1, bank := 0, g := [3, 3], wlen := 64, md := List.replicate 128 0, pc := 16 })] }), 0, 3, 0x0, { packet := 1, bank := 0, g := [3, 3], wlen := 64, md := List.replicate 128 0, pc := 16 }, by decide +kernel⟩

theorem witness_GafferFarmCommands_1 : ∃ (s : State) (h c : Nat),
    ((s.dev.packet h).restart = none) ∧ (s.dev.reheatQ = []) ∧ (s.dev.releaseDepth < 4096) ∧ (s.dev.chooseCtx s.dev.gafUnits = some c) ∧ (s.dev.dispatchQ.contains h = true) ∧ (s.dev.firstOfSource h = true) :=
  ⟨Test.ready (fun d => { (d.fset (Page.gaf 0) Hdr.enable 1) with dispatchQ := [1], packets := [(1, { gen := 1, bytes := List.replicate 64 7 })] }), 1, 0, by decide +kernel⟩
theorem witness_GafferFarmCommands_2 : ∃ (s : State) (h c : Nat) (rest : List Nat),
    ((s.dev.packet h).restart = none) ∧ (s.dev.reheatQ = h :: rest) ∧ (0 < s.dev.credit) ∧ (s.dev.releaseDepth < 4096) ∧ (s.dev.chooseCtx s.dev.gafUnits = some c) :=
  ⟨Test.ready (fun d => { (d.fset (Page.gaf 0) Hdr.enable 1) with reheatQ := [1], credit := 5, packets := [(1, { gen := 1, bytes := List.replicate 64 7, pass := 1 })] }), 1, 0, [], by decide +kernel⟩
theorem witness_GafferFarmCommands_3 : ∃ (s : State) (h c : Nat) (r : Restart),
    ((s.dev.packet h).restart = some r) ∧ (s.dev.reheatQ = []) ∧ (r.journal ≤ s.dev.journal.written) ∧ (s.dev.restartCtx r.left r.same = some c) :=
  ⟨Test.ready (fun d => { (d.fset (Page.gaf 0) Hdr.enable 1) with packets := [(1, { gen := 1, bytes := List.replicate 64 7, restart := some ⟨0, true, 0, 1, 0, 0⟩ })] }), 1, 4, ⟨0, true, 0, 1, 0, 0⟩, by decide +kernel⟩
theorem witness_GafferFarmCommands_4 : ∃ (s : State) (c : Nat) (x : Ctx),
    (s.dev.ctxAt c = some x) :=
  ⟨Test.ready (fun d => d.setCtx 5 (some { packet := 1, bank := 0, g := [], wlen := 0, md := [], pc := 16, suspended := true })), 5, { packet := 1, bank := 0, g := [], wlen := 0, md := [], pc := 16, suspended := true }, by decide +kernel⟩
theorem witness_GafferFarmCommands_5 : ∃ (s : State) (c : Nat) (x : Ctx) (d : Dev),
    (s.dev.ctxAt c = some x) ∧ (((s.dev.countSat (s.dev.gafPage (ctxUnit c)) Reg.GAF_PARITY_CNT_CNT).latchFault (s.dev.gafPage (ctxUnit c)) FaultBit.gaf_CTX_PARITY).noteCtxError c = d) ∧ (x.parityHits = 0) :=
  ⟨Test.ready (fun d => (d.fset (Page.gaf 0) Hdr.enable 1).setCtx 0 (some { packet := 1, bank := 0, g := [], wlen := 0, md := [], pc := 16 })), 0, { packet := 1, bank := 0, g := [], wlen := 0, md := [], pc := 16 }, _, ⟨rfl, rfl, by decide +kernel⟩⟩
theorem witness_GafferFarmCommands_6 : ∃ (s : State) (c : Nat) (x : Ctx),
    (s.dev.ctxAt c = some x) ∧ (x.parityHits ≠ 0) :=
  ⟨Test.ready (fun d => d.setCtx 0 (some { packet := 1, bank := 0, g := [], wlen := 0, md := [], pc := 16, parityHits := 1 })), 0, { packet := 1, bank := 0, g := [], wlen := 0, md := [], pc := 16, parityHits := 1 }, by decide +kernel⟩
theorem witness_GafferFarmCommands_7 : ∃ (s : State) (c : Nat) (x : Ctx) (d : Dev),
    (s.dev.ctxAt c = some x) ∧ ((({ s.dev with gafStopped := if s.dev.gafStopped.contains (ctxUnit c) then s.dev.gafStopped else s.dev.gafStopped ++ [ctxUnit c] } : Dev).latchFault (s.dev.gafPage (ctxUnit c)) FaultBit.gaf_PS_UE).svcAuto puntyGaf (s.dev.pageOfUnit puntyGaf (ctxUnit c)) false = d) ∧ (x.storeHits ≠ 0) :=
  ⟨Test.ready (fun d => d.setCtx 0 (some { packet := 1, bank := 0, g := [], wlen := 0, md := [], pc := 16, storeHits := 1 })), 0, { packet := 1, bank := 0, g := [], wlen := 0, md := [], pc := 16, storeHits := 1 }, _, ⟨rfl, rfl, by decide⟩⟩
theorem witness_GafferFarmCommands_8 : ∃ (s : State) (c : Nat) (x : Ctx) (d : Dev),
    (s.dev.ctxAt c = some x) ∧ ((({ s.dev with gafStopped := if s.dev.gafStopped.contains (ctxUnit c) then s.dev.gafStopped else s.dev.gafStopped ++ [ctxUnit c] } : Dev).latchFault (s.dev.gafPage (ctxUnit c)) FaultBit.gaf_PS_UE).svcAuto puntyGaf (s.dev.pageOfUnit puntyGaf (ctxUnit c)) false = d) ∧ (x.storeHits = 0) :=
  ⟨Test.ready (fun d => (d.fset (Page.gaf 1) Hdr.enable 1).setCtx 0 (some { packet := 1, bank := 0, g := [], wlen := 0, md := [], pc := 16 })), 0, { packet := 1, bank := 0, g := [], wlen := 0, md := [], pc := 16 }, _, ⟨rfl, rfl, by decide +kernel⟩⟩
theorem witness_GafferFarmCommands_9 : ∃ (s : State) (h : Nat),
    ((s.dev.packet h).stage = .done) ∧ (s.dev.hasPredecessor h = false) :=
  ⟨Test.ready (fun d => d.setPacket 4 { stage := .done }), 4, by decide +kernel⟩
theorem witness_GafferFarmCommands_10 : ∃ (s : State) (h : Nat) (rest : List Nat),
    (s.dev.excQ = h :: rest) ∧ (s.dev.fbit Page.gafg Reg.GAFG_EXC_CTL_DELIVER = true) ∧ ((s.dev.packet h).stage = .exception) :=
  ⟨Test.ready (fun d => { ((d.setPacket 4 { stage := .exception }).fset Page.gafg Reg.GAFG_EXC_CTL_DELIVER 1) with excQ := [4] }), 4, [], by decide +kernel⟩
theorem witness_GafferFarmCommands_11 : ∃ (s : State) (h : Nat) (rest : List Nat),
    (s.dev.excQ = h :: rest) ∧ (s.dev.fbit Page.gafg Reg.GAFG_EXC_CTL_DELIVER = false) :=
  ⟨Test.ready (fun d => { (d.fset Page.gafg Reg.GAFG_EXC_CTL_DELIVER 0) with excQ := [4] }), 4, [], by decide +kernel⟩

theorem witness_ProgramStoreAndFlipCommands_1 : ∃ (s : State) (req : Requester) (n : Nat) (v : Word),
    (s.dev.unreachable (Page.gaf n + 0x104) = none) ∧ (s.dev.storeWritable (s.dev.unitOf puntyGaf n) (s.dev.fget (Page.gaf n) Reg.GAF_PS_ADDR_BANK) = true) ∧ (s.dev.asleep req = false) :=
  ⟨Test.ready (fun d => d.fset (Page.gaf 3) Reg.GAF_PS_ADDR_BANK 1), .welbor, 3, 0x1234#32, by decide +kernel⟩
theorem witness_ProgramStoreAndFlipCommands_2 : ∃ (s : State) (req : Requester) (n : Nat) (v : Word),
    (s.dev.unreachable (Page.gaf n + 0x104) = none) ∧ (s.dev.storeWritable (s.dev.unitOf puntyGaf n) (s.dev.fget (Page.gaf n) Reg.GAF_PS_ADDR_BANK) = false) ∧ (s.dev.asleep req = false) :=
  ⟨Test.ready (fun d => d.fset (Page.gaf 3) Hdr.enable 1), .welbor, 3, 0x1234#32, by decide +kernel⟩
theorem witness_ProgramStoreAndFlipCommands_3 : ∃ (s : State) (req : Requester) (n : Nat),
    (s.dev.unreachable (Page.gaf n + 0x104) = none) ∧ (s.dev.asleep req = false) :=
  ⟨Test.ready id, .welbor, 23, by decide +kernel⟩
theorem witness_ProgramStoreAndFlipCommands_4 : ∃ (s : State) (n b : Nat),
    (s.dev.crcBusy = [s.dev.unitOf puntyGaf n * 2 + b]) ∧ (b < 2) :=
  ⟨Test.ready (fun d => { d with crcBusy := [7] }), 3, 1, by decide +kernel⟩
theorem witness_ProgramStoreAndFlipCommands_5 : ∃ (s : State) (req : Requester),
    (s.dev.unreachable (Page.gafg + 0x104) = none) ∧ (s.dev.asleep req = false) :=
  ⟨Test.ready id, .welbor, by decide +kernel⟩
theorem witness_ProgramStoreAndFlipCommands_6 : ∃ (s : State),
    (s.dev.flips ≠ 0) ∧ (s.dev.crcBusy = []) ∧ (s.dev.flipCause = 0) :=
  ⟨Test.ready (fun d => { (((List.range 24).foldl (fun d n => d.setStoreWord n 1 0 0x80000010#32) d).wr (Page.gafg + Reg.GAFG_IMAGE_CRC_CRC.off) (d.rd (Page.gaf 0 + Reg.GAF_PS_CRC1_CRC.off))) with flips := 1 }), by decide +kernel⟩
theorem witness_ProgramStoreAndFlipCommands_7 : ∃ (s : State),
    (s.dev.flips ≠ 0) ∧ (s.dev.crcBusy = []) ∧ (s.dev.flipCause = 2 ∨ s.dev.flipCause = 3) :=
  ⟨Test.ready (fun d => { (d.wr (Page.gafg + Reg.GAFG_IMAGE_CRC_CRC.off) 7#32) with flips := 1 }), by decide +kernel⟩
theorem witness_ProgramStoreAndFlipCommands_8 : ∃ (s : State),
    (s.dev.flips ≠ 0) ∧ (s.dev.crcBusy = []) ∧ (s.dev.flipCause = 1) :=
  ⟨Test.ready (fun d => { (d.fset Page.gafg Reg.GAFG_BANK_OLD_BUSY 1) with flips := 1 }), by decide +kernel⟩
theorem witness_ProgramStoreAndFlipCommands_9 : ∃ (s : State),
    (s.dev.fbit Page.gafg Reg.GAFG_BANK_OLD_BUSY = true) ∧ (s.dev.fget Page.gafg (inflightBank (1 - s.dev.activeBank)) = 0) :=
  ⟨Test.ready (fun d => d.fset Page.gafg Reg.GAFG_BANK_OLD_BUSY 1), by decide +kernel⟩

theorem witness_ClassifierRecordCommands_1 : ∃ (s : State) (h e : Nat),
    ((s.dev.packet h).stage = .released) ∧ (s.dev.accepts Page.clsg = true) ∧ (s.dev.earlierReleased h = false) ∧ (s.dev.packets.countP (fun e => e.2.stage == .walked) < 4096) ∧ (s.dev.chooseEngine = some e) ∧ ((s.dev.packet h).pass = 0) ∧ (s.dev.fbit Page.clsg Reg.CLS_BATCH_CUR_CUR_VALID = true) :=
  ⟨Test.ready (fun d => (((d.fset Page.clsg Hdr.enable 1).fset (Page.cls 0) Hdr.enable 1).fset Page.clsg Reg.CLS_BATCH_CUR_CUR_VALID 1).setPacket 4 { stage := .released, md := List.replicate 128 0 }), 4, 0, by decide +kernel⟩
theorem witness_ClassifierRecordCommands_2 : ∃ (s : State) (h e : Nat),
    ((s.dev.packet h).stage = .released) ∧ (s.dev.accepts Page.clsg = true) ∧ (s.dev.earlierReleased h = false) ∧ (s.dev.packets.countP (fun e => e.2.stage == .walked) < 4096) ∧ (s.dev.chooseEngine = some e) ∧ ((s.dev.packet h).pass = 0) ∧ (s.dev.fbit Page.clsg Reg.CLS_BATCH_CUR_CUR_VALID = false) :=
  ⟨Test.ready (fun d => ((d.fset Page.clsg Hdr.enable 1).fset (Page.cls 0) Hdr.enable 1).setPacket 4 { stage := .released, md := List.replicate 128 0 }), 4, 0, by decide +kernel⟩
theorem witness_ClassifierRecordCommands_3 : ∃ (s : State) (h e : Nat) (w : Walk) (p : Packet) (d : Dev),
    (s.dev.packet h = p) ∧ (p.stage = .walking e) ∧ (s.dev.walk p.md p.flags (p.batch.getD 0) = w) ∧ (w.outcome = 0) ∧ ((((s.dev.count (Page.cls (s.dev.pageOfUnit puntyCls e)) Reg.CLS_WALK_CNT_CNT).count (Page.cls (s.dev.pageOfUnit puntyCls e)) Reg.CLS_NODE_CNT_CNT w.nodes).wcount Page.clsg 1).wcount Page.clsg 2 w.nodes = d) :=
  ⟨Test.ready (fun d => (((d.setPacket 4 { stage := .walking 2, md := List.replicate 128 0 }).fset Page.clsg (bdNroot 0) 1).dwrite 0 (toLe 4 (2 ^ 31 + 2 ^ 26) ++ List.replicate 56 0 ++ toLe 4 (2 ^ 31))).gwrite (d.ruleAddr 0) (List.replicate 60 0 ++ toLe 4 (2 ^ 31))), 4, 2, { outcome := 0, nodes := 1, rules := 1 }, { stage := .walking 2, md := List.replicate 128 0 }, _, ⟨by decide +kernel, by decide +kernel, by decide +kernel, rfl, rfl⟩⟩
theorem witness_ClassifierRecordCommands_4 : ∃ (s : State) (h e r : Nat) (w : Walk) (p : Packet) (d d3 d5 : Dev),
    (s.dev.packet h = p) ∧ (p.stage = .walking e) ∧ (s.dev.walk p.md p.flags (p.batch.getD 0) = w) ∧ (w.outcome ≠ 0) ∧ ((((s.dev.count (Page.cls (s.dev.pageOfUnit puntyCls e)) Reg.CLS_WALK_CNT_CNT).count (Page.cls (s.dev.pageOfUnit puntyCls e)) Reg.CLS_NODE_CNT_CNT w.nodes).wcount Page.clsg 1).wcount Page.clsg 2 w.nodes = d) ∧ ((((d.countMisses (Page.cls (s.dev.pageOfUnit puntyCls e)) Reg.CLS_RULE_GDDR_CNT_CNT w.rules).count Page.clsg Reg.CLS_ABSENT_CNT_CNT w.absent).latchWhen w.treeUe (Page.cls (s.dev.pageOfUnit puntyCls e)) FaultBit.cls_TREE_UE).latchWhen w.ruleUe (Page.cls (s.dev.pageOfUnit puntyCls e)) FaultBit.cls_RULE_UE = d3) ∧ (d3.fget Page.clsg (if w.outcome = 1 then bdMiss (p.batch.getD 0) else bdErr (p.batch.getD 0)) = r) ∧ ((if w.outcome = 2 then (d3.count Page.clsg (if w.outcome = 1 then Reg.CLS_MISS_CNT_CNT else Reg.CLS_ERR_CNT_CNT)).pulse 182 else d3.count Page.clsg (if w.outcome = 1 then Reg.CLS_MISS_CNT_CNT else Reg.CLS_ERR_CNT_CNT)).countMisses (Page.cls (s.dev.pageOfUnit puntyCls e)) Reg.CLS_RULE_GDDR_CNT_CNT 1 = d5) :=
  ⟨Test.ready (fun d => (d.setPacket 4 { stage := .walking 2, md := List.replicate 128 0 }).gwrite (d.ruleAddr 0) (List.replicate 60 0 ++ toLe 4 (2 ^ 31))), 4, 2, 0, {}, { stage := .walking 2, md := List.replicate 128 0 }, _, _, _, ⟨by decide +kernel, by decide +kernel, by decide +kernel, by decide +kernel, rfl, rfl, by decide +kernel, rfl⟩⟩
theorem witness_ClassifierRecordCommands_5 : ∃ (s : State) (h : Nat),
    (∀ e, (s.dev.packet h).stage ≠ .walking e) :=
  ⟨Test.ready (fun d => d.setPacket 4 { stage := .walked }), 4, by intro e h; have k : (((Test.ready (fun d => d.setPacket 4 { stage := .walked })).dev.packet 4).stage = .walked) := (by decide +kernel); rw [k] at h; cases h⟩
theorem witness_ClassifierRecordCommands_6 : ∃ (s : State) (h : Nat),
    ((s.dev.packet h).stage = .walked) ∧ (s.dev.packets.any (fun e => e.1 != h && e.2.source == (s.dev.packet h).source && e.2.pass == (s.dev.packet h).pass && decide (e.2.order < (s.dev.packet h).order) && (match e.2.stage with | .walking _ => true | .walked => true | _ => false)) = false) :=
  ⟨Test.ready (fun d => d.setPacket 4 { stage := .walked }), 4, by decide +kernel⟩

theorem witness_BatchCommands_1 : ∃ (s : State) (req : Requester) (b : BitVec 4) (d : Dev),
    (s.dev.unreachable (Page.clsg + 0x108) = none) ∧ (s.dev.stageFields b.toNat 0 = d) ∧ (d.batchState b.toNat = 0) ∧ (0 < d.fget Page.clsg (bdNroot b.toNat)) ∧ (d.fget Page.clsg (bdNroot b.toNat) ≤ 4096) ∧ (d.fget Page.clsg (bdRoot b.toNat) + d.fget Page.clsg (bdNroot b.toNat) ≤ 524288) ∧ (s.dev.asleep req = false) :=
  ⟨Test.ready (fun d => (d.fset Page.clsg (bdNroot 15) 4096).fset Page.clsg (bdRoot 15) 520192), .welbor, 15#4, _, ⟨by decide +kernel, rfl, by decide +kernel⟩⟩
theorem witness_BatchCommands_2 : ∃ (s : State) (req : Requester) (b : BitVec 4) (d : Dev),
    (s.dev.unreachable (Page.clsg + 0x108) = none) ∧ (s.dev.stageFields b.toNat 0 = d) ∧ (d.batchState b.toNat ≠ 0) ∧ (s.dev.asleep req = false) :=
  ⟨Test.ready (fun d => d.setBatchState 2 1), .welbor, 2#4, _, ⟨by decide +kernel, rfl, by decide +kernel⟩⟩
theorem witness_BatchCommands_3 : ∃ (s : State) (req : Requester) (b : BitVec 4) (d : Dev),
    (s.dev.unreachable (Page.clsg + 0x108) = none) ∧ (s.dev.stageFields b.toNat 1 = d) ∧ (d.batchState b.toNat = 1) ∧ (s.dev.asleep req = false) :=
  ⟨Test.ready (fun d => d.setBatchState 2 1), .welbor, 2#4, _, ⟨by decide +kernel, rfl, by decide +kernel⟩⟩
theorem witness_BatchCommands_4 : ∃ (s : State) (req : Requester) (b : BitVec 4) (d : Dev),
    (s.dev.unreachable (Page.clsg + 0x104) = none) ∧ (s.dev.fsetP Page.clsg Reg.CLS_BATCH_SWAP_NEW b.toNat = d) ∧ (d.batchState b.toNat = 1) ∧ (s.dev.asleep req = false) :=
  ⟨Test.ready (fun d => d.setBatchState 2 1), .welbor, 2#4, _, ⟨by decide +kernel, rfl, by decide +kernel⟩⟩
theorem witness_BatchCommands_5 : ∃ (s : State) (b : BitVec 4),
    (s.dev.batchState b.toNat = 3) ∧ (s.dev.fget Page.clsg (inflightBatch b.toNat) = 0) :=
  ⟨Test.ready (fun d => d.setBatchState 2 3), 2#4, by decide +kernel⟩
theorem witness_BatchCommands_6 : ∃ (s : State) (req : Requester) (m : BitVec 16),
    (s.dev.unreachable (Page.clsg + 0x10C) = none) ∧ (s.dev.asleep req = false) :=
  ⟨Test.ready id, .welbor, 0x8000#16, by decide +kernel⟩

theorem witness_TableProbeCommands_1 : ∃ (s : State) (h n t : Nat) (p : Packet),
    (s.dev.packet h = p) ∧ (p.stage = .acting) ∧ ((probeTables p.rule)[n]? = some t) ∧ (p.probes.getD n none = none) ∧ (tdKind (s.dev.td t) = 0) ∧ (s.dev.actsGood (ruleActs p.rule) = true) ∧ (s.dev.probeErr t = false) ∧ (s.dev.banksOut (s.dev.td t) (s.dev.emKey t p.md) = false) :=
  ⟨Test.ready (fun d => (Test.table d).setPacket 4 { stage := .acting, md := List.replicate 128 0, rule := Test.rule [0x04000000#32] }), 4, 0, 0, { stage := .acting, md := List.replicate 128 0, rule := Test.rule [0x04000000#32] }, by decide +kernel⟩
theorem witness_TableProbeCommands_2 : ∃ (s : State) (h n t : Nat) (p : Packet),
    (s.dev.packet h = p) ∧ (p.stage = .acting) ∧ ((probeTables p.rule)[n]? = some t) ∧ (p.probes.getD n none = none) ∧ (tdKind (s.dev.td t) = 0) ∧ (s.dev.actsGood (ruleActs p.rule) = true) ∧ ((s.dev.probeErr t || s.dev.banksOut (s.dev.td t) (s.dev.emKey t p.md)) = true) :=
  ⟨Test.ready (fun d => d.setPacket 4 { stage := .acting, md := List.replicate 128 0, rule := Test.rule [0x04000000#32] }), 4, 0, 0, { stage := .acting, md := List.replicate 128 0, rule := Test.rule [0x04000000#32] }, by decide +kernel⟩
theorem witness_TableProbeCommands_3 : ∃ (s : State) (h n t : Nat) (p : Packet),
    (s.dev.packet h = p) ∧ (p.stage = .acting) ∧ ((probeTables p.rule)[n]? = some t) ∧ (p.probes.getD n none = none) ∧ (tdKind (s.dev.td t) ≠ 0) ∧ (s.dev.actsGood (ruleActs p.rule) = true) ∧ (s.dev.probeErr t = false) :=
  ⟨Test.ready (fun d => (((d.wset Page.tblg 0x100 (1 + 2 + 2 ^ 96)).wset Page.tblg 0x140 (2 ^ 31 + 2 * 2 ^ 16 + (2 ^ 31 + 2 * 2 ^ 24 + 4 * 2 ^ 16) * 2 ^ 32)).fset (Page.tbl 0) Hdr.enable 1).setPacket 4 { stage := .acting, md := List.replicate 128 0, rule := Test.rule [0x04000000#32] }), 4, 0, 0, { stage := .acting, md := List.replicate 128 0, rule := Test.rule [0x04000000#32] }, by decide +kernel⟩
theorem witness_TableProbeCommands_4 : ∃ (s : State) (h n t : Nat) (p : Packet),
    (s.dev.packet h = p) ∧ (p.stage = .acting) ∧ ((probeTables p.rule)[n]? = some t) ∧ (p.touched.contains n = true) :=
  ⟨Test.ready (fun d => d.setPacket 4 { stage := .acting, touched := [0], rule := Test.rule [0x04000000#32] }), 4, 0, 0, { stage := .acting, touched := [0], rule := Test.rule [0x04000000#32] }, by decide +kernel⟩
theorem witness_TableProbeCommands_5 : ∃ (s : State) (slot gen : Nat) (rest : List (Nat × Nat)) (d : Dev),
    (s.dev.refreshQ = (slot, gen) :: rest) ∧ ({ s.dev with refreshQ := rest } = d) :=
  ⟨Test.ready (fun d => { d with refreshQ := [(5, 1)] }), 5, 1, [], _, ⟨rfl, rfl⟩⟩

theorem witness_TableOperationCommands_1 : ∃ (s : State) (o : PortOp) (c : Cand),
    (s.dev.portRunning portTblg 1 = some o) ∧ (s.dev.imageGood o = true) ∧ ((s.dev.findKey (opTable o) (s.dev.opKey o)).1 = some c) :=
  ⟨Test.tblState 1 true, Test.tblOp 1, { slot := 8 }, by decide +kernel⟩
theorem witness_TableOperationCommands_2 : ∃ (s : State) (o : PortOp) (c : Cand),
    (s.dev.portRunning portTblg 2 = some o) ∧ (s.dev.imageGood o = true) ∧ ((s.dev.findKey (opTable o) (s.dev.opKey o)).1 = some c) :=
  ⟨Test.tblState 2 true, Test.tblOp 2, { slot := 8 }, by decide +kernel⟩
theorem witness_TableOperationCommands_3 : ∃ (s : State) (o : PortOp) (d : Dev) (slot : Nat),
    (s.dev.portRunning portTblg 1 = some o) ∧ (s.dev.imageGood o = true) ∧ ((s.dev.findKey (opTable o) (s.dev.opKey o)).1 = none) ∧ ((s.dev.findKey (opTable o) (s.dev.opKey o)).2.2 = d) ∧ (¬ ((tdKind (d.td (opTable o)) ≠ 0 ∧ prefixLimit (tdKind (d.td (opTable o))) ≤ d.prefixes (tdKind (d.td (opTable o)))) ∨ (!eOwnerMgr (opImage o) ∧ d.quotaReached (eOwner (opImage o))))) ∧ ((buckets (d.td (opTable o)) (s.dev.opKey o)).findSome? (d.freeSlot (d.td (opTable o))) = some slot) :=
  ⟨Test.tblState 1 false, Test.tblOp 1, _, 8, ⟨by decide +kernel, by decide +kernel, by decide +kernel, rfl, by decide +kernel⟩⟩
theorem witness_TableOperationCommands_4 : ∃ (s : State) (o : PortOp) (d : Dev) (slot : Nat),
    (s.dev.portRunning portTblg 2 = some o) ∧ (s.dev.imageGood o = true) ∧ ((s.dev.findKey (opTable o) (s.dev.opKey o)).1 = none) ∧ ((s.dev.findKey (opTable o) (s.dev.opKey o)).2.2 = d) ∧ (¬ ((tdKind (d.td (opTable o)) ≠ 0 ∧ prefixLimit (tdKind (d.td (opTable o))) ≤ d.prefixes (tdKind (d.td (opTable o)))) ∨ (!eOwnerMgr (opImage o) ∧ d.quotaReached (eOwner (opImage o))))) ∧ ((buckets (d.td (opTable o)) (s.dev.opKey o)).findSome? (d.freeSlot (d.td (opTable o))) = some slot) :=
  ⟨Test.tblState 2 false, Test.tblOp 2, _, 8, ⟨by decide +kernel, by decide +kernel, by decide +kernel, rfl, by decide +kernel⟩⟩
theorem witness_TableOperationCommands_5 : ∃ (s : State) (o : PortOp) (d : Dev),
    (s.dev.portRunning portTblg 1 = some o) ∧ (s.dev.imageGood o = true) ∧ ((s.dev.findKey (opTable o) (s.dev.opKey o)).1 = none) ∧ ((s.dev.findKey (opTable o) (s.dev.opKey o)).2.2 = d) ∧ ((tdKind (d.td (opTable o)) ≠ 0 ∧ prefixLimit (tdKind (d.td (opTable o))) ≤ d.prefixes (tdKind (d.td (opTable o)))) ∨ (!eOwnerMgr (opImage o) ∧ d.quotaReached (eOwner (opImage o)))) :=
  ⟨{ (Test.tblState 1 false) with dev := (Test.tblState 1 false).dev.setPort portTblg.page { run := some { Test.tblOp 1 with buf := [0x01020304#32] ++ List.replicate 15 0#32 } } }, { Test.tblOp 1 with buf := [0x01020304#32] ++ List.replicate 15 0#32 }, _, ⟨by decide +kernel, by decide +kernel, by decide +kernel, rfl, by decide +kernel⟩⟩
theorem witness_TableOperationCommands_6 : ∃ (s : State) (o : PortOp) (d : Dev),
    (s.dev.portRunning portTblg 2 = some o) ∧ (s.dev.imageGood o = true) ∧ ((s.dev.findKey (opTable o) (s.dev.opKey o)).1 = none) ∧ ((s.dev.findKey (opTable o) (s.dev.opKey o)).2.2 = d) ∧ ((tdKind (d.td (opTable o)) ≠ 0 ∧ prefixLimit (tdKind (d.td (opTable o))) ≤ d.prefixes (tdKind (d.td (opTable o)))) ∨ (!eOwnerMgr (opImage o) ∧ d.quotaReached (eOwner (opImage o)))) :=
  ⟨{ (Test.tblState 2 false) with dev := (Test.tblState 2 false).dev.setPort portTblg.page { run := some { Test.tblOp 2 with buf := [0x01020304#32] ++ List.replicate 15 0#32 } } }, { Test.tblOp 2 with buf := [0x01020304#32] ++ List.replicate 15 0#32 }, _, ⟨by decide +kernel, by decide +kernel, by decide +kernel, rfl, by decide +kernel⟩⟩
theorem witness_TableOperationCommands_7 : ∃ (s : State) (o : PortOp),
    (s.dev.portRunning portTblg 1 = some o) ∧ (s.dev.imageGood o = false) :=
  ⟨Test.ready (fun d => d.setPort portTblg.page { run := some (Test.tblOp 1) }), Test.tblOp 1, by decide +kernel⟩
theorem witness_TableOperationCommands_8 : ∃ (s : State) (o : PortOp),
    (s.dev.portRunning portTblg 2 = some o) ∧ (s.dev.imageGood o = false) :=
  ⟨Test.ready (fun d => d.setPort portTblg.page { run := some (Test.tblOp 2) }), Test.tblOp 2, by decide +kernel⟩
theorem witness_TableOperationCommands_9 : ∃ (s : State) (o : PortOp),
    (s.dev.portRunning portTblg 3 = some o) ∧ (s.dev.imageGood o = false) :=
  ⟨Test.ready (fun d => d.setPort portTblg.page { run := some (Test.tblOp 3) }), Test.tblOp 3, by decide +kernel⟩
theorem witness_TableOperationCommands_10 : ∃ (s : State) (o : PortOp),
    (s.dev.portRunning portTblg 4 = some o) ∧ (s.dev.imageGood o = false) :=
  ⟨Test.ready (fun d => d.setPort portTblg.page { run := some (Test.tblOp 4) }), Test.tblOp 4, by decide +kernel⟩
theorem witness_TableOperationCommands_11 : ∃ (s : State) (o : PortOp) (c : Cand),
    (s.dev.portRunning portTblg 3 = some o) ∧ (s.dev.imageGood o = true) ∧ ((s.dev.findKey (opTable o) (s.dev.opKey o)).1 = some c) :=
  ⟨Test.tblState 3 true, Test.tblOp 3, { slot := 8 }, by decide +kernel⟩
theorem witness_TableOperationCommands_12 : ∃ (s : State) (o : PortOp),
    (s.dev.portRunning portTblg 3 = some o) ∧ (s.dev.imageGood o = true) ∧ ((s.dev.findKey (opTable o) (s.dev.opKey o)).1 = none) :=
  ⟨Test.tblState 3 false, Test.tblOp 3, by decide +kernel⟩
theorem witness_TableOperationCommands_13 : ∃ (s : State) (o : PortOp) (c : Cand),
    (s.dev.portRunning portTblg 4 = some o) ∧ (s.dev.imageGood o = true) ∧ ((s.dev.probeKey (opTable o) (s.dev.opKey o)).1 = some c) :=
  ⟨Test.tblState 4 true, Test.tblOp 4, { slot := 8 }, by decide +kernel⟩
theorem witness_TableOperationCommands_14 : ∃ (s : State) (o : PortOp),
    (s.dev.portRunning portTblg 5 = some o) ∧ (tdEn (s.dev.td (opTable o)) = true) ∧ (tdBase (s.dev.td (opTable o)) * 2 ^ 14 ≤ bits (nth (opImage o) 0) 0 29) ∧ (bits (nth (opImage o) 0) 0 29 < tdBase (s.dev.td (opTable o)) * 2 ^ 14 + 4 * 2 ^ tdLog2 (s.dev.td (opTable o))) :=
  ⟨Test.ready (fun d => (Test.table d).setPort portTblg.page { run := some { Test.tblOp 5 with buf := [31#32] } }), { Test.tblOp 5 with buf := [31#32] }, by decide +kernel⟩
theorem witness_TableOperationCommands_15 : ∃ (s : State) (o : PortOp),
    (s.dev.portRunning portTblg 6 = some o) ∧ (s.dev.rebuild = none) ∧ (tdEn (s.dev.td (opTable o)) = true) ∧ (tdKind (s.dev.td (opTable o)) ≠ 0) ∧ (opArg o ≤ tdMaxLen (s.dev.td (opTable o))) ∧ (9 ≤ bits (nth (opImage o) 0) 17 5) ∧ (bits (nth (opImage o) 0) 17 5 ≤ 24) ∧ (bits (nth (opImage o) 0) 0 17 * 512 + 2 ^ bits (nth (opImage o) 0) 17 5 ≤ 67108864) :=
  ⟨Test.ready (fun d => (d.wset Page.tblg 0x100 (1 + 2 + 2 ^ 96)).setPort portTblg.page { run := some { word := 6 * 2 ^ portTblg.opcode.lo, buf := [BitVec.ofNat 32 (9 * 2 ^ 17)], req := .welbor } }), { word := 6 * 2 ^ portTblg.opcode.lo, buf := [BitVec.ofNat 32 (9 * 2 ^ 17)], req := .welbor }, by decide +kernel⟩
theorem witness_TableOperationCommands_16 : ∃ (s : State) (t len base log2 : Nat) (d : Dev),
    (s.dev.rebuild = some (t, len, base, log2)) ∧ (s.dev.fget Page.tblg Reg.TBLG_SWEEP_RATE_RATE ≠ 0) ∧ ((s.dev.entriesOf t).foldl (fun (d : Dev) k => if bits (nth (d.slotWords k) 0) 0 8 = len then d.bloomSet (s.dev.td t) ((eKey (d.slotWords k)).take (tdKeyBytes (s.dev.td t))) base log2 else d) s.dev = d) :=
  ⟨Test.ready (fun d => { (d.fset Page.tblg Reg.TBLG_SWEEP_RATE_RATE 1) with rebuild := some (0, 8, 0, 9) }), 0, 8, 0, 9, _, ⟨rfl, by decide +kernel, rfl⟩⟩

theorem witness_TableUpkeepCommands_1 : ∃ (s : State) (l : Learn) (rest : List Learn) (d : Dev),
    (s.dev.learnQ = l :: rest) ∧ (({ s.dev with learnQ := rest } : Dev).fset Page.tblg Reg.TBLG_LEARN_DEPTH_DEPTH rest.length = d) ∧ (d.learnable l.table = false) :=
  ⟨Test.ready (fun d => { d with learnQ := [{ table := 3, key := [], result := [], stamp := none }] }), { table := 3, key := [], result := [], stamp := none }, [], _, ⟨rfl, rfl, by decide +kernel⟩⟩
theorem witness_TableUpkeepCommands_2 : ∃ (s : State) (l : Learn) (rest : List Learn) (d d1 : Dev),
    (s.dev.learnQ = l :: rest) ∧ (({ s.dev with learnQ := rest } : Dev).fset Page.tblg Reg.TBLG_LEARN_DEPTH_DEPTH rest.length = d) ∧ (d.learnable l.table = true) ∧ ((d.findKey l.table l.key).1 = none) ∧ ((d.findKey l.table l.key).2.2 = d1) ∧ (d1.stampQuota l.stamp = false) ∧ (d1.noteQ.length < 255) ∧ ((d1.insertNew l.table (learnImage l) l.key false true).1.code = Code.ok) :=
  ⟨Test.ready (fun d => { (Test.table d) with learnQ := [{ table := 0, key := [1, 2, 3, 4], result := [], stamp := none }] }), { table := 0, key := [1, 2, 3, 4], result := [], stamp := none }, [], _, _, ⟨rfl, rfl, by decide +kernel, by decide +kernel, rfl, by decide +kernel⟩⟩
theorem witness_TableUpkeepCommands_3 : ∃ (s : State),
    (s.dev.fget Page.tblg Reg.TBLG_AGE_TICK_MS ≠ 0) ∧ (s.dev.sweep = none) :=
  ⟨Test.ready (fun d => d.fset Page.tblg Reg.TBLG_AGE_TICK_MS 1), by decide +kernel⟩
theorem witness_TableUpkeepCommands_4 : ∃ (s : State) (p : SweepAt),
    (s.dev.fget Page.tblg Reg.TBLG_AGE_TICK_MS ≠ 0) ∧ (s.dev.sweep = some p) :=
  ⟨Test.ready (fun d => { (d.fset Page.tblg Reg.TBLG_AGE_TICK_MS 1) with sweep := some (.bucket 0 0) }), .bucket 0 0, by decide +kernel⟩
theorem witness_TableUpkeepCommands_5 : ∃ (s : State) (t i : Nat) (d : Dev),
    (s.dev.sweep = some (.bucket t i)) ∧ (s.dev.fget Page.tblg Reg.TBLG_SWEEP_RATE_RATE ≠ 0) ∧ (s.dev.noteRoom = true) ∧ (({ s.dev with clearQ := s.dev.clearQ ++ (bucketSlots (s.dev.td t) i).flatMap (fun k => s.dev.agedClears k none) } : Dev).setSweep (s.dev.sweepNext (.bucket t i)) = d) :=
  ⟨Test.ready (fun d => { (d.fset Page.tblg Reg.TBLG_SWEEP_RATE_RATE 1) with sweep := some (.bucket 0 0) }), 0, 0, _, ⟨rfl, by decide +kernel, by decide +kernel, rfl⟩⟩
theorem witness_TableUpkeepCommands_6 : ∃ (s : State) (c : AgedClear) (rest : List AgedClear) (d : Dev),
    (s.dev.clearQ = c :: rest) ∧ (s.dev.noteRoom = true) ∧ ({ s.dev with clearQ := rest } = d) ∧ (d.slotBad c.slot = false) ∧ (eValid (s.dev.slotWords c.slot) = true) ∧ (eAge (s.dev.slotWords c.slot) = c.age) ∧ (eGen (s.dev.slotWords c.slot) = c.gen) ∧ (eTable (s.dev.slotWords c.slot) = c.table) :=
  ⟨Test.ready (fun d => { (d.writeSlot 48 (withParity (List.replicate 14 0 ++ [7 * 2 ^ 24, 2 ^ 31 + 9]))) with clearQ := [{ table := 0, slot := 48, age := 7, gen := 9 }] }), { table := 0, slot := 48, age := 7, gen := 9 }, [], _, ⟨rfl, by decide +kernel, rfl, by decide +kernel⟩⟩
theorem witness_TableUpkeepCommands_7 : ∃ (s : State) (c : AgedClear) (rest : List AgedClear) (d : Dev),
    (s.dev.clearQ = c :: rest) ∧ (s.dev.noteRoom = true) ∧ ({ s.dev with clearQ := rest } = d) ∧ (eGen (s.dev.slotWords c.slot) ≠ c.gen) :=
  ⟨Test.ready (fun d => { d with clearQ := [{ table := 0, slot := 48, age := 7, gen := 9 }] }), { table := 0, slot := 48, age := 7, gen := 9 }, [], _, ⟨rfl, by decide +kernel, rfl, by decide +kernel⟩⟩
theorem witness_TableUpkeepCommands_8 : ∃ (s : State) (words : List Nat) (rest : List (List Nat)) (n : Nat),
    (s.dev.noteQ = words :: rest) ∧ (2 ^ s.dev.fget Page.tblg Reg.TBLG_NR_CTL_SIZE_LOG2 = n) ∧ (s.dev.fbit Page.tblg Reg.TBLG_NR_CTL_ENABLE = true) ∧ ((s.dev.fget Page.tblg Reg.TBLG_NR_PROD_PROD + 2 ^ 32 - s.dev.fget Page.tblg Reg.TBLG_NR_CONS_CONS) % 2 ^ 32 < n) ∧ (s.dev.hostReady 0 = true) :=
  ⟨Test.ready (fun d => { ((d.fset Page.tblg Reg.TBLG_NR_CTL_ENABLE 1).fset Page.tblg Reg.TBLG_NR_CTL_SIZE_LOG2 6) with noteQ := [[1]] }), [1], [], 64, by decide +kernel⟩
theorem witness_TableUpkeepCommands_9 : ∃ (s : State) (req : Requester) (v : Word),
    (s.dev.unreachable (Page.tblg + 0x124) = none) ∧ (s.dev.asleep req = false) :=
  ⟨Test.ready id, .firmware 0, 0#32, by decide +kernel⟩

theorem witness_ActionCommands_1 : ∃ (s : State) (h : Nat),
    (s.dev.actReady h = true) ∧ (s.dev.actsGood (ruleActs (s.dev.packet h).rule) = false) :=
  ⟨Test.ready (fun d => (d.fset Page.actg Hdr.enable 1).setPacket 4 { stage := .acting, rule := Test.rule [0xFC000000#32] }), 4, by decide +kernel⟩
theorem witness_ActionCommands_2 : ∃ (s : State) (h : Nat) (d : Dev),
    (s.dev.actReady h = true) ∧ (s.dev.actsGood (ruleActs (s.dev.packet h).rule) = true) ∧ (s.dev.applyPass h false = some d) :=
  ⟨Test.ready (fun d => (d.fset Page.actg Hdr.enable 1).setPacket 4 { stage := .acting, rule := Test.rule [0x0C000000#32] }), 4, _, ⟨by decide +kernel, by decide +kernel, rfl⟩⟩
theorem witness_ActionCommands_3 : ∃ (s : State) (h : Nat) (p : Packet) (acts : List Act) (d d1 : Dev),
    (s.dev.actReady h = true) ∧ (s.dev.packet h = p) ∧ (ruleActs p.rule = acts) ∧ (s.dev.actsGood acts = true) ∧ (actCount acts Op.reheat = 0) ∧ (actCount acts Op.drop ≠ 0) ∧ (wordsOf acts [Op.mirror] = []) ∧ (({ s.dev with counterQ := s.dev.counterQ ++ (s.dev.applied p.probes acts Op.count).map (fun e => (e.2, p.lenIn)) } : Dev).mark h (s.dev.marks p (wordsOf acts [Op.nop, Op.probe, Op.meter, Op.count])) = d) ∧ ((((d.drawGlobal h).mark h (0, 0)).modPacket h (fun p => { p with mirrors := [] })).mark h (s.dev.marks p (wordsOf acts [Op.drop])) = d1) :=
  ⟨Test.ready (fun d => (d.fset Page.actg Hdr.enable 1).setPacket 4 { stage := .acting, rule := Test.rule [0x0C000000#32] }), 4, _, _, _, _, ⟨by decide +kernel, rfl, rfl, by decide +kernel, by decide +kernel, by decide +kernel, by decide +kernel, rfl, rfl⟩⟩
theorem witness_ActionCommands_4 : ∃ (s : State) (h : Nat) (d : Dev),
    (s.dev.actReady h = true) ∧ (s.dev.applied (s.dev.packet h).probes (ruleActs (s.dev.packet h).rule) Op.encap ≠ []) ∧ ((s.dev.applied (s.dev.packet h).probes (ruleActs (s.dev.packet h).rule) Op.mirror).any (fun e => ssEn (s.dev.session (bits e.2 0 8)) && ssCopy (s.dev.session (bits e.2 0 8)) && ssEncap (s.dev.session (bits e.2 0 8))) = false) ∧ (s.dev.applyPass h true = some d) :=
  ⟨Test.ready (fun d => (d.fset Page.actg Hdr.enable 1).setPacket 4 { stage := .acting, rule := Test.rule [0x28000000#32] }), 4, _, ⟨by decide +kernel, by decide +kernel, by decide +kernel, rfl⟩⟩
theorem witness_ActionCommands_5 : ∃ (s : State) (h x : Nat) (a : Act) (ws : List Nat),
    (s.dev.actStarted (s.dev.packet h) = true) ∧ (s.dev.actsGood (ruleActs (s.dev.packet h).rule) = true) ∧ ((s.dev.passMeters (s.dev.packet h))[(s.dev.packet h).colours.length]? = some (a, x)) ∧ ((s.dev.gwords (s.dev.meterAddr (bits x 0 20)) 16).map (·.toNat) = ws) ∧ (s.dev.lineUncorrectable (s.dev.meterAddr (bits x 0 20)) = false) ∧ (bitAt (nth ws 15) 31 = true) ∧ (meterParityGood ws = true) :=
  ⟨Test.ready (fun d => ((d.fset Page.actg Hdr.enable 1).gsetWords (d.meterAddr 5) ([1, 1, 2, 2, 32, 32] ++ List.replicate 9 0 ++ [2 ^ 31 + 2 ^ 1 + 2 ^ 0 + 2 ^ 30])).setPacket 4 { stage := .acting, rule := Test.rule [0x14000005#32] }), 4, 5, actOf 0 0x14000005, [1, 1, 2, 2, 32, 32] ++ List.replicate 9 0 ++ [2 ^ 31 + 2 ^ 1 + 2 ^ 0 + 2 ^ 30], by decide +kernel⟩
theorem witness_ActionCommands_6 : ∃ (s : State) (h x : Nat) (a : Act),
    (s.dev.actStarted (s.dev.packet h) = true) ∧ (s.dev.actsGood (ruleActs (s.dev.packet h).rule) = true) ∧ ((s.dev.passMeters (s.dev.packet h))[(s.dev.packet h).colours.length]? = some (a, x)) ∧ (s.dev.lineUncorrectable (s.dev.meterAddr (bits x 0 20)) = false) ∧ (bitAt (nth ((s.dev.gwords (s.dev.meterAddr (bits x 0 20)) 16).map (·.toNat)) 15) 31 = false) :=
  ⟨Test.ready (fun d => (d.fset Page.actg Hdr.enable 1).setPacket 4 { stage := .acting, rule := Test.rule [0x14000005#32] }), 4, 5, actOf 0 0x14000005, by decide +kernel⟩
theorem witness_ActionCommands_7 : ∃ (s : State) (lane c n : Nat),
    (s.dev.counterQ.find? (fun e => e.1 % 16 == lane) = some (c, n)) ∧ (s.dev.lineUncorrectable (s.dev.counterAddr c) = false) :=
  ⟨Test.ready (fun d => { d with counterQ := [(17, 60)] }), 1, 17, 60, by decide +kernel⟩

theorem witness_ActionPortCommands_1 : ∃ (s : State) (o : PortOp),
    (s.dev.portRunning portActg 1 = some o) :=
  ⟨Test.ready (fun d => d.setPort portActg.page { run := some { req := .welbor, word := 1 * 2 ^ portActg.opcode.lo + 9, buf := [1#32] } }), { req := .welbor, word := 1 * 2 ^ portActg.opcode.lo + 9, buf := [1#32] }, by decide +kernel⟩
theorem witness_ActionPortCommands_2 : ∃ (s : State) (o : PortOp),
    (s.dev.portRunning portActg 2 = some o) :=
  ⟨Test.ready (fun d => d.setPort portActg.page { run := some { req := .welbor, word := 2 * 2 ^ portActg.opcode.lo + 9, buf := [1#32] } }), { req := .welbor, word := 2 * 2 ^ portActg.opcode.lo + 9, buf := [1#32] }, by decide +kernel⟩
theorem witness_ActionPortCommands_3 : ∃ (s : State) (o : PortOp),
    (s.dev.portRunning portActg 3 = some o) :=
  ⟨Test.ready (fun d => d.setPort portActg.page { run := some { req := .welbor, word := 3 * 2 ^ portActg.opcode.lo + 9, buf := [1#32] } }), { req := .welbor, word := 3 * 2 ^ portActg.opcode.lo + 9, buf := [1#32] }, by decide +kernel⟩
theorem witness_ActionPortCommands_4 : ∃ (s : State) (o : PortOp),
    (s.dev.portRunning portActg 4 = some o) ∧ (meterImageGood o = true) :=
  ⟨Test.ready (fun d => d.setPort portActg.page { run := some { req := .welbor, word := 4 * 2 ^ portActg.opcode.lo + 9, buf := [1#32, 1#32, 2#32, 2#32] } }), { req := .welbor, word := 4 * 2 ^ portActg.opcode.lo + 9, buf := [1#32, 1#32, 2#32, 2#32] }, by decide +kernel⟩
theorem witness_ActionPortCommands_5 : ∃ (s : State) (o : PortOp),
    (s.dev.portRunning portActg 5 = some o) ∧ (bits o.word 0 21 < 2 ^ 20) :=
  ⟨Test.ready (fun d => d.setPort portActg.page { run := some { req := .welbor, word := 5 * 2 ^ portActg.opcode.lo + 9, buf := [1#32] } }), { req := .welbor, word := 5 * 2 ^ portActg.opcode.lo + 9, buf := [1#32] }, by decide +kernel⟩
theorem witness_ActionPortCommands_6 : ∃ (s : State) (o : PortOp),
    (s.dev.portRunning portActg 6 = some o) ∧ (bits o.word 0 21 < 2 ^ 20) :=
  ⟨Test.ready (fun d => d.setPort portActg.page { run := some { req := .welbor, word := 6 * 2 ^ portActg.opcode.lo + 9, buf := [1#32] } }), { req := .welbor, word := 6 * 2 ^ portActg.opcode.lo + 9, buf := [1#32] }, by decide +kernel⟩
theorem witness_ActionPortCommands_7 : ∃ (s : State) (o : PortOp),
    (s.dev.portRunning portActg 4 = some o) ∧ (meterImageGood o = false) :=
  ⟨Test.ready (fun d => d.setPort portActg.page { run := some { req := .welbor, word := 4 * 2 ^ portActg.opcode.lo + 9, buf := [1#32] } }), { req := .welbor, word := 4 * 2 ^ portActg.opcode.lo + 9, buf := [1#32] }, by decide +kernel⟩
theorem witness_ActionPortCommands_8 : ∃ (s : State) (o : PortOp),
    (s.dev.portRunning portActg 5 = some o) ∧ (2 ^ 20 ≤ bits o.word 0 21) :=
  ⟨Test.ready (fun d => d.setPort portActg.page { run := some { req := .welbor, word := 5 * 2 ^ portActg.opcode.lo + 2 ^ 20, buf := [] } }), { req := .welbor, word := 5 * 2 ^ portActg.opcode.lo + 2 ^ 20, buf := [] }, by decide +kernel⟩
theorem witness_ActionPortCommands_9 : ∃ (s : State) (o : PortOp),
    (s.dev.portRunning portActg 6 = some o) ∧ (2 ^ 20 ≤ bits o.word 0 21) :=
  ⟨Test.ready (fun d => d.setPort portActg.page { run := some { req := .welbor, word := 6 * 2 ^ portActg.opcode.lo + 2 ^ 20, buf := [] } }), { req := .welbor, word := 6 * 2 ^ portActg.opcode.lo + 2 ^ 20, buf := [] }, by decide +kernel⟩
theorem witness_ActionPortCommands_10 : ∃ (s : State) (words : List Nat) (rest : List (List Nat)),
    (s.dev.traceQ = words :: rest) ∧ (s.dev.fbit Page.actg Reg.ACTG_TRACE_CTL_ENABLE = true) ∧ ((s.dev.fget Page.actg Reg.ACTG_TRACE_PROD_PROD + 2 ^ 32 - s.dev.fget Page.actg Reg.ACTG_TRACE_CONS_CONS) % 2 ^ 32 ≠ s.dev.traceSize) ∧ (s.dev.hostReady 0 = true) :=
  ⟨Test.ready (fun d => { ((d.fset Page.actg Reg.ACTG_TRACE_CTL_ENABLE 1).fset Page.actg Reg.ACTG_TRACE_CTL_SIZE_LOG2 6) with traceQ := [[1]] }), [1], [], by decide +kernel⟩
theorem witness_ActionPortCommands_11 : ∃ (s : State) (req : Requester) (v : Word),
    (s.dev.unreachable (Page.actg + Reg.ACTG_TRACE_CONS_CONS.off) = none) ∧ (s.dev.asleep req = false) :=
  ⟨Test.ready id, .firmware 0, 0#32, by decide +kernel⟩

theorem witness_SchedulerCommands_1 : ∃ (s : State) (n : Nat) (c : Copy),
    (s.dev.copy n = some c) ∧ (c.queued = false) ∧ (s.dev.copyBehind n c = false) ∧ (c.kind = 0) ∧ (c.target < 16) ∧ (c.withFcs ≤ 16128) ∧ (s.dev.accepts (Page.sch c.target) = true) ∧ (s.dev.tcDepth c.target c.tc + c.cells ≤ colourLimit (s.dev.fget (Page.sch c.target) (schTc Reg.SCH_TC_GLIM_CELLS c.tc)) (s.dev.fget (Page.sch c.target) Reg.SCH_COLOR_YFRAC) (s.dev.fget (Page.sch c.target) Reg.SCH_COLOR_RFRAC) c.colour) :=
  ⟨Test.ready (fun d => (((d.fset (Page.sch 3) Hdr.enable 1).fset (Page.sch 3) (schTc Reg.SCH_TC_GLIM_CELLS 2) 5).setCopy 7 (some { packet := 1, gen := 1, bytes := List.replicate 64 7, fcs := true, dest := 3 + 2 * 2 ^ 16, colour := 0 }))), 7, { packet := 1, gen := 1, bytes := List.replicate 64 7, fcs := true, dest := 3 + 2 * 2 ^ 16, colour := 0 }, by decide +kernel⟩
theorem witness_SchedulerCommands_2 : ∃ (s : State) (n : Nat) (c : Copy),
    (s.dev.copy n = some c) ∧ (c.queued = false) ∧ (s.dev.copyBehind n c = false) ∧ (c.kind = 0) ∧ (c.target < 16) ∧ (c.withFcs ≤ 16128) ∧ (s.dev.accepts (Page.sch c.target) = true) ∧ (colourLimit (s.dev.fget (Page.sch c.target) (schTc Reg.SCH_TC_GLIM_CELLS c.tc)) (s.dev.fget (Page.sch c.target) Reg.SCH_COLOR_YFRAC) (s.dev.fget (Page.sch c.target) Reg.SCH_COLOR_RFRAC) c.colour < s.dev.tcDepth c.target c.tc + c.cells) :=
  ⟨Test.ready (fun d => ((d.fset (Page.sch 3) Hdr.enable 1).fset (Page.sch 3) (schTc Reg.SCH_TC_GLIM_CELLS 2) 0).setCopy 7 (some { packet := 1, gen := 1, bytes := List.replicate 64 7, fcs := true, dest := 3 + 2 * 2 ^ 16, colour := 0 })), 7, { packet := 1, gen := 1, bytes := List.replicate 64 7, fcs := true, dest := 3 + 2 * 2 ^ 16, colour := 0 }, by decide +kernel⟩
theorem witness_SchedulerCommands_3 : ∃ (s : State) (m t n : Nat) (rest : List Nat) (d : Dev),
    (m < 16) ∧ (s.dev.refillPort m = d) ∧ (d.portDown m = true) ∧ (d.mayTransmit m = true) ∧ (d.fullTc m = some t) ∧ (((d.schedOf m).tc t).fifo = n :: rest) :=
  ⟨Test.ready (fun d => (Test.macUp 3 d).setSched 3 (({} : Sched).setTc 2 { fifo := [7] })), 3, 2, 7, [], _, ⟨by decide, rfl, by decide +kernel⟩⟩
theorem witness_SchedulerCommands_4 : ∃ (s : State) (m t n : Nat) (rest : List Nat) (d : Dev) (c : Copy),
    (m < 16) ∧ (s.dev.refillPort m = d) ∧ (d.portDown m = false) ∧ ((d.macOf m).slot = none) ∧ ((d.selectTc m).1 = some t) ∧ ((((d.setSched m (d.selectTc m).2).schedOf m).tc t).fifo = n :: rest) ∧ (((d.setSched m (d.selectTc m).2).popTc m t).copy n = some c) ∧ (((d.setSched m (d.selectTc m).2).popTc m t).handleGood c.packet c.gen = true) :=
  ⟨Test.ready (fun d => ((((((Test.macUp 3 d).fset (Page.sch 3) Hdr.enable 1).fset (Page.sch 3) Reg.SCH_PAUSED_LINK_UP 1).fset (Page.sch 3) (schTc Reg.SCH_TC_CFG_SP 2) 1).setSched 3 (({} : Sched).setTc 2 { fifo := [7] })).setCopy 7 (some { packet := 1, gen := 1, bytes := List.replicate 64 7, fcs := true, dest := 3 + 2 * 2 ^ 16, colour := 0 })).setPacket 1 { gen := 1 }), 3, 2, 7, [], _, { packet := 1, gen := 1, bytes := List.replicate 64 7, fcs := true, dest := 3 + 2 * 2 ^ 16, colour := 0 }, ⟨by decide, rfl, by decide +kernel⟩⟩
theorem witness_SchedulerCommands_5 : ∃ (s : State) (q n : Nat) (rest : List Nat) (d : Dev),
    (s.dev.refillHost = d) ∧ ((d.host.queues.map (·.1)).find? d.queueGone = some q) ∧ (d.hostFifo q = n :: rest) :=
  ⟨Test.ready (fun d => d.setHostFifo 9 [7]), 9, 7, [], _, ⟨rfl, by decide +kernel⟩⟩
theorem witness_SchedulerCommands_6 : ∃ (s : State) (q : Nat) (rest : List Nat) (d : Dev),
    (s.dev.refillHost = d) ∧ ((d.host.queues.map (·.1)).find? d.queueGone = none) ∧ (d.accepts Page.schh = true) ∧ (((d.host.queues.map (·.1)).filter d.queueReady).filter d.qManager = q :: rest) ∧ (d.host.mgrUsed = 0) :=
  ⟨Test.ready (fun d => (((d.fset Page.schh Hdr.enable 1).setHostFifo 9 [7]).gsetWords (d.ctxAddr 9) [1, 2 ^ 12]).setQueue 9 { (d.queue 9) with state := .run, entries := [{ index := 0, opcode := 0, head := [], frags := [], qgen := 0, incarnation := 0, accepted := true }] }), 9, [], _, ⟨rfl, by decide +kernel⟩⟩
theorem witness_SchedulerCommands_7 : ∃ (s : State) (m : Nat) (head : List Byte) (d : Dev),
    (m < 16) ∧ ((s.dev.macOf m).rxBusy = false) ∧ (isControl head = false) ∧ (s.dev.receives m false = true) ∧ (s.dev.setMac m { s.dev.macOf m with rxBusy := true, rx := none, rxTime := s.dev.stampTime (s.dev.fget (Page.mac m) Reg.MAC_TS_RX_ADJ_ADJ), rxTag := s.dev.pvidTag m } = d) :=
  ⟨Test.ready (Test.macUp 3), 3, List.replicate 64 7, _, ⟨by decide, by decide +kernel, by decide +kernel, by decide +kernel, rfl⟩⟩

theorem witness_SecureTransportCommands_1 : ∃ (s : State) (lane ses kind sa : Nat) (r : SxpReq) (d : Dev),
    (s.dev.sxp.queue.find? (s.dev.laneTakes lane) = some r) ∧ (s.dev.accepts Page.sxp = true) ∧ (r.src = .record ses kind) ∧ ((s.dev.reqServing r).1 = sa) ∧ (s.dev.setSxp { s.dev.sxp with queue := s.dev.sxp.queue.erase r } = d) ∧ (d.saBad sa = false) ∧ (d.saValid sa = false) :=
  ⟨Test.saState (fun w => w.set 31 0) (fun d => d.setSxp { d.sxp with queue := [Test.record] }), 0, 8, 23, 32, Test.record, _, ⟨by decide +kernel, by decide +kernel, rfl, by decide +kernel, rfl, by decide +kernel⟩⟩
theorem witness_SecureTransportCommands_2 : ∃ (s : State) (lane ses kind sa : Nat) (r : SxpReq) (d : Dev) (w : List Nat) (l : Located),
    (s.dev.sxp.queue.find? (s.dev.laneTakes lane) = some r) ∧ (s.dev.accepts Page.sxp = true) ∧ (r.src = .record ses kind) ∧ ((s.dev.reqServing r).1 = sa) ∧ (s.dev.setSxp { s.dev.sxp with queue := s.dev.sxp.queue.erase r } = d) ∧ (d.saBad sa = false) ∧ (d.saReason r sa = none) ∧ (d.saWords sa = w) ∧ (Sa.proto w = 2) ∧ (Sa.dir w = 0) ∧ (Sa.seq w < Sa.soft w) ∧ (Sa.seq w ≤ Sa.hard w) ∧ (Sa.hardHit w = false) ∧ (tlsLocated w r.bytes (Sa.seq w) = some l) ∧ (l.aad.length ≤ 65535) ∧ (l.data.length < 2 ^ 24) :=
  ⟨Test.saState id (fun d => d.setSxp { d.sxp with queue := [Test.record] }), 0, 8, 23, 32, Test.record, _, _, { aad := Test.record.bytes.take 5, data := Test.record.bytes.drop 5, iv := List.replicate 4 0 ++ toBe 8 7, salt := 1, front := Test.record.bytes.take 5 }, ⟨by decide +kernel, by decide +kernel, rfl, by decide +kernel, rfl, by decide +kernel, by decide +kernel, rfl, by decide +kernel⟩⟩
theorem witness_SecureTransportCommands_3 : ∃ (s : State) (lane ses kind tag code n : Nat) (out : List Byte) (j : SxpJob) (d e : Dev),
    (s.dev.doneOf lane = some (tag, code, out)) ∧ (s.dev.sxpJob tag = some j) ∧ (j.src = .record ses kind) ∧ (codeReason code = some n) ∧ (s.dev.setSxp { s.dev.sxp with done := s.dev.sxp.done.erase (tag, code, out), jobs := Sparse.set (blank none) s.dev.sxp.jobs tag none } = d) ∧ (d.saBad j.sa = false) ∧ (d.saSet j.sa (Sa.setInflight (d.saWords j.sa) (Sa.inflight (d.saWords j.sa) - 1)) = e) ∧ (e.saBad j.sa = false) :=
  ⟨Test.saState id (fun d => d.setSxp { d.sxp with jobs := [(0, some Test.sxpJob)], done := [(0, Code.fault, [])] }), 0, 8, 23, 0, Code.fault, 12, [], Test.sxpJob, _, _, ⟨by decide +kernel, by decide +kernel, rfl, by decide +kernel, rfl, by decide +kernel, rfl, by decide +kernel⟩⟩
theorem witness_SecureTransportCommands_4 : ∃ (s : State) (lane ses kind tag : Nat) (out : List Byte) (j : SxpJob) (d e : Dev),
    (s.dev.doneOf lane = some (tag, Code.ok, out)) ∧ (s.dev.sxpJob tag = some j) ∧ (j.src = .record ses kind) ∧ (Sa.dir j.words = 0) ∧ (Sa.proto j.words = 2) ∧ (s.dev.setSxp { s.dev.sxp with done := s.dev.sxp.done.erase (tag, Code.ok, out), jobs := Sparse.set (blank none) s.dev.sxp.jobs tag none } = d) ∧ (d.saBad j.sa = false) ∧ (d.saSet j.sa (Sa.setInflight (d.saWords j.sa) (Sa.inflight (d.saWords j.sa) - 1)) = e) ∧ (e.saBad j.sa = false) ∧ (Sa.mapped (e.saWords j.sa) = false) :=
  ⟨Test.saState id (fun d => d.setSxp { d.sxp with jobs := [(0, some Test.sxpJob)], done := [(0, Code.ok, [])] }), 0, 8, 23, 0, [], Test.sxpJob, _, _, ⟨by decide +kernel, by decide +kernel, rfl, by decide +kernel, by decide +kernel, rfl, by decide +kernel, rfl, by decide +kernel⟩⟩
theorem witness_SecureTransportCommands_5 : ∃ (s : State) (sa : Nat),
    (s.dev.sxp.rolling.contains sa = true) ∧ (Sa.inflight (s.dev.saWords sa) = 0) :=
  ⟨Test.saState id (fun d => d.setSxp { d.sxp with rolling := [32] }), 32, by decide +kernel⟩
theorem witness_SecureTransportCommands_6 : ∃ (s : State) (req : Requester) (hard : Bool) (sa : Nat) (rest : List (Bool × Nat)),
    (s.dev.unreachable (Page.sxp + Reg.SXP_LIMIT_FIFO_VALID.off) = none) ∧ (s.dev.sxp.limit = (hard, sa) :: rest) ∧ (s.dev.asleep req = false) :=
  ⟨Test.ready (fun d => d.setSxp { d.sxp with limit := [(true, 1048575)] }), .welbor, true, 1048575, [], by decide +kernel⟩
theorem witness_SecureTransportCommands_7 : ∃ (s : State) (req : Requester),
    (s.dev.unreachable (Page.sxp + Reg.SXP_LIMIT_FIFO_VALID.off) = none) ∧ (s.dev.sxp.limit = []) ∧ (s.dev.asleep req = false) :=
  ⟨Test.ready id, .welbor, by decide +kernel⟩
theorem witness_SecureTransportCommands_8 : ∃ (s : State) (o : PortOp),
    (s.dev.portRunning portSxp 1 = some o) :=
  ⟨Test.ready (fun d => (d).setPort portSxp.page { run := some { req := .welbor, word := 1 * 2 ^ portSxp.opcode.lo + 5, buf := [] } }), { req := .welbor, word := 1 * 2 ^ portSxp.opcode.lo + 5, buf := [] }, by decide +kernel⟩
theorem witness_SecureTransportCommands_9 : ∃ (s : State) (o : PortOp),
    (s.dev.portRunning portSxp 2 = some o) :=
  ⟨Test.ready (fun d => (d).setPort portSxp.page { run := some { req := .welbor, word := 2 * 2 ^ portSxp.opcode.lo + 5, buf := [] } }), { req := .welbor, word := 2 * 2 ^ portSxp.opcode.lo + 5, buf := [] }, by decide +kernel⟩
theorem witness_SecureTransportCommands_10 : ∃ (s : State) (o : PortOp),
    (s.dev.portRunning portSxp 3 = some o) :=
  ⟨Test.ready (fun d => (d).setPort portSxp.page { run := some { req := .welbor, word := 3 * 2 ^ portSxp.opcode.lo + 5, buf := [] } }), { req := .welbor, word := 3 * 2 ^ portSxp.opcode.lo + 5, buf := [] }, by decide +kernel⟩
theorem witness_SecureTransportCommands_11 : ∃ (s : State) (o : PortOp),
    (s.dev.portRunning portSxp 4 = some o) ∧ ((o.req == .welbor || Sa.mgr (s.dev.saWords (bits o.word 0 20))) = true) ∧ (s.dev.mayRoll (bits o.word 0 20) = true) :=
  ⟨Test.ready (fun d => (Test.sa (fun w => w.set 8 (33 + 2 ^ 20)) ((Test.sa id d).saSet 33 ((Test.sa id d).saWords 32))).setPort portSxp.page { run := some { req := .welbor, word := 4 * 2 ^ portSxp.opcode.lo + 32, buf := [] } }), { req := .welbor, word := 4 * 2 ^ portSxp.opcode.lo + 32, buf := [] }, by decide +kernel⟩
theorem witness_SecureTransportCommands_12 : ∃ (s : State) (o : PortOp),
    (s.dev.portRunning portSxp 4 = some o) ∧ ((o.req == .welbor || Sa.mgr (s.dev.saWords (bits o.word 0 20))) = false) :=
  ⟨Test.ready (fun d => (d).setPort portSxp.page { run := some { req := .manager 0 0, word := 4 * 2 ^ portSxp.opcode.lo + 2^19, buf := [] } }), { req := .manager 0 0, word := 4 * 2 ^ portSxp.opcode.lo + 2^19, buf := [] }, by decide +kernel⟩
theorem witness_SecureTransportCommands_13 : ∃ (s : State) (o : PortOp),
    (s.dev.portRunning portSxp 4 = some o) ∧ ((o.req == .welbor || Sa.mgr (s.dev.saWords (bits o.word 0 20))) = true) ∧ (s.dev.mayRoll (bits o.word 0 20) = false) :=
  ⟨Test.ready (fun d => (d).setPort portSxp.page { run := some { req := .welbor, word := 4 * 2 ^ portSxp.opcode.lo + 2^19, buf := [] } }), { req := .welbor, word := 4 * 2 ^ portSxp.opcode.lo + 2^19, buf := [] }, by decide +kernel⟩

theorem witness_LehrJobCommands_1 : ∃ (s : State) (j : LehrJob) (rest : List LehrJob) (d : Dev),
    (s.dev.lehr.submits = j :: rest) ∧ (s.dev.jobDepth < 16384) ∧ (s.dev.accepts Page.lehg = true) ∧ (s.dev.setLehr { s.dev.lehr with submits := rest } = d) ∧ (d.jobCode j = Code.ok) :=
  ⟨Test.ready (fun d => ((d.fset Page.lehg Hdr.enable 1).setLehr { d.lehr with keys := [(5, { gen := 2, state := 1, enc := true, modes := 2, mgr := true })], submits := [{ src := .sxp 1, desc := jobDesc Mode.ctr 0 0 5 2 0 16 false [], input := List.replicate 16 0, stamp := none }] })), { src := .sxp 1, desc := jobDesc Mode.ctr 0 0 5 2 0 16 false [], input := List.replicate 16 0, stamp := none }, [], _, ⟨rfl, by decide +kernel, by decide +kernel, rfl, by decide +kernel⟩⟩
theorem witness_LehrJobCommands_2 : ∃ (s : State) (j : LehrJob) (rest : List LehrJob) (d : Dev),
    (s.dev.lehr.submits = j :: rest) ∧ (s.dev.jobDepth < 16384) ∧ (s.dev.accepts Page.lehg = true) ∧ (s.dev.setLehr { s.dev.lehr with submits := rest } = d) ∧ (d.jobCode j = Code.malformed) :=
  ⟨Test.ready (fun d => (d.fset Page.lehg Hdr.enable 1).setLehr { d.lehr with submits := [{ src := .sxp 1, desc := List.replicate 32 255, input := [], stamp := none }] }), { src := .sxp 1, desc := List.replicate 32 255, input := [], stamp := none }, [], _, ⟨rfl, by decide +kernel, by decide +kernel, rfl, by decide +kernel⟩⟩
theorem witness_LehrJobCommands_3 : ∃ (s : State) (n i unit : Nat) (j : LehrJob) (g : JobSeg) (d : Dev),
    (s.dev.job n = some j) ∧ (j.verdict = none) ∧ (s.dev.journalReached j.journal = true) ∧ (s.dev.accepts Page.lehg = true) ∧ (j.segs ≠ []) ∧ (j.segs[i]? = some g) ∧ (s.dev.setJob n (some j) = d) ∧ (d.unitOf puntyLeh g.cluster = unit) ∧ (d.segReady n i j g = true) ∧ (d.lehReady g.cluster = true) ∧ (d.unitStalled unit = false) ∧ (d.reseedDue unit = false) ∧ ((d.fetchKey unit n j).1 = true) :=
  ⟨Test.ready (fun d => ((d.fset Page.lehg Hdr.enable 1).fset (Page.leh 0) Hdr.enable 1).setJob 1 (some { src := .sxp 1, desc := jobDesc Mode.ctr 0 0 5 2 0 16 false [], input := List.replicate 16 0, stamp := none, segs := [{ cluster := 0, count := 1 }] })), 1, 0, 0, { src := .sxp 1, desc := jobDesc Mode.ctr 0 0 5 2 0 16 false [], input := List.replicate 16 0, stamp := none, segs := [{ cluster := 0, count := 1 }] }, { cluster := 0, count := 1 }, _, ⟨by decide +kernel, rfl, by decide +kernel, by decide +kernel, by decide, rfl, rfl, by decide +kernel⟩⟩
theorem witness_LehrJobCommands_4 : ∃ (s : State) (unit c : Nat) (w : CellWork) (agree : Bool) (d : Dev),
    (s.dev.cell (cellKey unit c) = some w) ∧ (w.second = false) ∧ (w.partner = none) ∧ ((((s.dev.setCell (cellKey unit c) none).count ((s.dev.setCell (cellKey unit c) none).lehPage unit) Reg.LEH_BLOCK_CNT_CNT).wcount Page.lehg 1).modSeg w.job w.seg (fun g => { g with done := g.done + 1 }) = d) :=
  ⟨Test.ready (fun d => d.setCell 5 (some { job := 1, seg := 0 })), 0, 5, { job := 1, seg := 0 }, true, _, ⟨by decide +kernel, rfl, rfl, rfl⟩⟩
theorem witness_LehrJobCommands_5 : ∃ (s : State) (unit c k2 : Nat) (w : CellWork) (d : Dev),
    (s.dev.cell (cellKey unit c) = some w) ∧ (w.second = false) ∧ (w.partner = some k2) ∧ (w.repeated = false) ∧ (((s.dev.setCell (cellKey unit c) none).setCell k2 none).count (s.dev.lehPage unit) Reg.LEH_CHECK_CNT_CNT = d) :=
  ⟨Test.ready (fun d => d.setCell 5 (some { job := 1, seg := 0, partner := some 6 })), 0, 5, 6, { job := 1, seg := 0, partner := some 6 }, _, ⟨by decide +kernel, rfl, rfl, rfl, rfl⟩⟩
theorem witness_LehrJobCommands_6 : ∃ (s : State) (n code : Nat) (out : List Byte) (j : LehrJob) (d : Dev),
    (s.dev.takeEnded n none = (some (j, code, out), d)) :=
  ⟨Test.ready (fun d => d.setJob 1 (some { src := .sxp 1, desc := [], input := [], stamp := none, verdict := some Code.fault })), 1, Code.fault, [], { src := .sxp 1, desc := [], input := [], stamp := none, verdict := some Code.fault }, _, by rfl⟩
theorem witness_LehrJobCommands_7 : ∃ (s : State) (n : Nat) (j : LehrJob),
    (s.dev.job n = some j) ∧ (j.complete = false) :=
  ⟨Test.ready (fun d => d.setJob 1 (some { src := .sxp 1, desc := jobDesc Mode.ctr 0 0 5 2 0 16 false [], input := [], stamp := none })), 1, { src := .sxp 1, desc := jobDesc Mode.ctr 0 0 5 2 0 16 false [], input := [], stamp := none }, by decide +kernel⟩

theorem witness_LehrUpkeepAndKeyCommands_1 : ∃ (s : State) (unit c : Nat),
    (unit ≤ 64) ∧ (c ≤ 128) ∧ (s.dev.cell (cellKey unit c) = none) ∧ (s.dev.lehr.fenced.contains (cellKey unit c) = false) :=
  ⟨State.reset, 64, 128, by decide +kernel⟩
theorem witness_LehrUpkeepAndKeyCommands_2 : ∃ (s : State) (unit c : Nat) (d : Dev),
    (unit ≤ 64) ∧ (c < 128) ∧ (s.dev.cell (cellKey unit c) = none) ∧ (s.dev.lehr.fenced.contains (cellKey unit c) = false) ∧ ((s.dev.count (s.dev.lehPage unit) Reg.LEH_KAT_CNT_CNT).pairTested (cellKey unit c) false = d) :=
  ⟨State.reset, 64, 127, _, ⟨by decide, by decide, by decide +kernel, by decide +kernel, rfl⟩⟩
theorem witness_LehrUpkeepAndKeyCommands_3 : ∃ (s : State) (unit gen : Nat),
    (unit ≤ 64) ∧ (gen < 2) :=
  ⟨State.reset, 64, 1, by decide +kernel⟩
theorem witness_LehrUpkeepAndKeyCommands_4 : ∃ (s : State) (unit gen : Nat),
    (unit ≤ 64) ∧ (gen < 2) ∧ (s.dev.unitStalled unit = false) ∧ (s.dev.lehr.stalled.contains (unit * 2 + gen) = false) :=
  ⟨State.reset, 64, 1, by decide +kernel⟩
theorem witness_LehrUpkeepAndKeyCommands_5 : ∃ (s : State) (l unit n : Nat) (j : LehrJob) (rest : List (Nat × Nat × Nat)) (d : Dev),
    (s.dev.lehr.lanes = (l, unit, n) :: rest) ∧ ((s.dev.setLehr { s.dev.lehr with lanes := rest }).nextLane l = d) ∧ (d.job n = some j) ∧ ((d.keySlot j.slot).wide = false) ∧ ((d.keySlot j.slot).gen = j.gen) ∧ ((d.keySlot j.slot).state ≠ 0) :=
  ⟨Test.unwrapState, 0, 0, 1, Test.unwrapJob, [], _, ⟨by decide +kernel, by rfl, by decide +kernel⟩⟩
theorem witness_LehrUpkeepAndKeyCommands_6 : ∃ (s : State) (l unit n : Nat) (j : LehrJob) (rest : List (Nat × Nat × Nat)) (d : Dev),
    (s.dev.lehr.lanes = (l, unit, n) :: rest) ∧ ((s.dev.setLehr { s.dev.lehr with lanes := rest }).nextLane l = d) ∧ (d.job n = some j) ∧ ((d.keySlot j.slot).gen ≠ j.gen) :=
  ⟨Test.ready (fun d => (d.setJob 1 (some { src := .sxp 1, desc := jobDesc Mode.ctr 0 0 65536 2 0 16 false [], input := [], stamp := none })).setLehr { (d.setJob 1 (some { src := .sxp 1, desc := jobDesc Mode.ctr 0 0 65536 2 0 16 false [], input := [], stamp := none })).lehr with lanes := [(3, 0, 1)] }), 3, 0, 1, { src := .sxp 1, desc := jobDesc Mode.ctr 0 0 65536 2 0 16 false [], input := [], stamp := none }, [], _, ⟨rfl, rfl, by decide +kernel⟩⟩
theorem witness_LehrUpkeepAndKeyCommands_7 : ∃ (s : State) (k : Nat),
    ((s.dev.keySlot k).state = 2) ∧ ((s.dev.keySlot k).inflight = 0) ∧ ((s.dev.keySlot k).pair = false) :=
  ⟨Test.ready (fun d => d.setLehr { d.lehr with keys := [(5, { gen := 2, state := 2 })] }), 5, by decide +kernel⟩
theorem witness_LehrUpkeepAndKeyCommands_8 : ∃ (s : State) (o : PortOp),
    (s.dev.portRunning portKey 1 = some o) ∧ (o.req = .welbor) :=
  ⟨Test.ready (fun d => (d).setPort portKey.page { run := some { req := .welbor, word := 1 * 2 ^ portKey.opcode.lo + 5, buf := [] } }), { req := .welbor, word := 1 * 2 ^ portKey.opcode.lo + 5, buf := [] }, by decide +kernel⟩
theorem witness_LehrUpkeepAndKeyCommands_9 : ∃ (s : State) (o : PortOp),
    (s.dev.portRunning portKey 1 = some o) ∧ (o.req ≠ .welbor) :=
  ⟨Test.ready (fun d => (d).setPort portKey.page { run := some { req := .firmware 0, word := 1 * 2 ^ portKey.opcode.lo + 5, buf := [] } }), { req := .firmware 0, word := 1 * 2 ^ portKey.opcode.lo + 5, buf := [] }, by decide +kernel⟩
theorem witness_LehrUpkeepAndKeyCommands_10 : ∃ (s : State) (o : PortOp),
    (s.dev.portRunning portKey 2 = some o) ∧ (mayRetire o.req (s.dev.keySlot (bits o.word 0 20)) = true) ∧ (keyOpBad o.word false = false) ∧ ((s.dev.keySlot (bits o.word 0 20)).state = 1) ∧ ((s.dev.keySlot (bits o.word 0 20 + 1)).pair = false) ∧ (bits o.word 0 20 % 2 = 1) :=
  ⟨Test.ready (fun d => (d.setLehr { d.lehr with keys := [(5, { gen := 2, state := 1 })] }).setPort portKey.page { run := some { req := .welbor, word := 2 * 2 ^ portKey.opcode.lo + 5, buf := [] } }), { req := .welbor, word := 2 * 2 ^ portKey.opcode.lo + 5, buf := [] }, by decide +kernel⟩
theorem witness_LehrUpkeepAndKeyCommands_11 : ∃ (s : State) (o : PortOp),
    (s.dev.portRunning portKey 2 = some o) ∧ (mayRetire o.req (s.dev.keySlot (bits o.word 0 20)) = false) :=
  ⟨Test.ready (fun d => (d.setLehr { d.lehr with keys := [(5, { gen := 2, state := 1 })] }).setPort portKey.page { run := some { req := .firmware 0, word := 2 * 2 ^ portKey.opcode.lo + 5, buf := [] } }), { req := .firmware 0, word := 2 * 2 ^ portKey.opcode.lo + 5, buf := [] }, by decide +kernel⟩
theorem witness_LehrUpkeepAndKeyCommands_12 : ∃ (s : State) (o : PortOp),
    (s.dev.portRunning portKey 3 = some o) ∧ (mayQuery o.req (s.dev.keySlot (bits o.word 0 20)) = true) ∧ (keyOpBad o.word false = false) :=
  ⟨Test.ready (fun d => (d).setPort portKey.page { run := some { req := .welbor, word := 3 * 2 ^ portKey.opcode.lo + 5, buf := [] } }), { req := .welbor, word := 3 * 2 ^ portKey.opcode.lo + 5, buf := [] }, by decide +kernel⟩

theorem witness_StorageEntryCommands_1 : ∃ (s : State) (q : Nat) (e : QueueEntry) (d : Dev),
    (s.dev.nextStorage q = some e) ∧ (e.opcode = 0x30) ∧ (s.dev.qType q = typeSto) ∧ (s.dev.accepts Page.sto = true) ∧ ((s.dev.queue q).state = .run ∨ (s.dev.queue q).state = .error) ∧ ((s.dev.noteVol e.volume).latchWhen (s.dev.volValid e.volume && s.dev.sesBad (s.dev.volSession e.volume)) Page.sto FaultBit.sto_LINE_UE = d) ∧ (s.dev.stoFormGood e = false) :=
  ⟨Test.stoState 0 (fun d => d.setQueue 0 { state := .run, entries := [{ Test.entry 0x30 with head := List.replicate 64 255 }] }), 0, { Test.entry 0x30 with head := List.replicate 64 255 }, _, by (repeat' apply And.intro) <;> first | decide +kernel | rfl⟩
theorem witness_StorageEntryCommands_2 : ∃ (s : State) (q : Nat) (e : QueueEntry) (d : Dev),
    (s.dev.nextStorage q = some e) ∧ (e.opcode = 0x31) ∧ (s.dev.qType q = typeSto) ∧ (s.dev.accepts Page.sto = true) ∧ ((s.dev.queue q).state = .run ∨ (s.dev.queue q).state = .error) ∧ ((s.dev.noteVol e.volume).latchWhen (s.dev.volValid e.volume && s.dev.sesBad (s.dev.volSession e.volume)) Page.sto FaultBit.sto_LINE_UE = d) ∧ (s.dev.stoFormGood e = false) :=
  ⟨Test.stoState 0 (fun d => d.setQueue 0 { state := .run, entries := [{ Test.entry 0x31 with head := List.replicate 64 255 }] }), 0, { Test.entry 0x31 with head := List.replicate 64 255 }, _, by (repeat' apply And.intro) <;> first | decide +kernel | rfl⟩
theorem witness_StorageEntryCommands_3 : ∃ (s : State) (q : Nat) (e : QueueEntry) (d : Dev),
    (s.dev.nextStorage q = some e) ∧ (e.opcode = 0x32) ∧ (s.dev.qType q = typeSto) ∧ (s.dev.accepts Page.sto = true) ∧ ((s.dev.queue q).state = .run ∨ (s.dev.queue q).state = .error) ∧ ((s.dev.noteVol e.volume).latchWhen (s.dev.volValid e.volume && s.dev.sesBad (s.dev.volSession e.volume)) Page.sto FaultBit.sto_LINE_UE = d) ∧ (s.dev.stoFormGood e = false) :=
  ⟨Test.stoState 0 (fun d => d.setQueue 0 { state := .run, entries := [{ Test.entry 0x32 with head := List.replicate 64 255 }] }), 0, { Test.entry 0x32 with head := List.replicate 64 255 }, _, by (repeat' apply And.intro) <;> first | decide +kernel | rfl⟩
theorem witness_StorageEntryCommands_4 : ∃ (s : State) (q : Nat) (e : QueueEntry) (d : Dev),
    (s.dev.nextStorage q = some e) ∧ (e.opcode = 0x33) ∧ (s.dev.qType q = typeSto) ∧ (s.dev.accepts Page.sto = true) ∧ ((s.dev.queue q).state = .run ∨ (s.dev.queue q).state = .error) ∧ ((s.dev.noteVol e.volume).latchWhen (s.dev.volValid e.volume && s.dev.sesBad (s.dev.volSession e.volume)) Page.sto FaultBit.sto_LINE_UE = d) ∧ (s.dev.stoFormGood e = false) :=
  ⟨Test.stoState 0 (fun d => d.setQueue 0 { state := .run, entries := [{ Test.entry 0x33 with head := List.replicate 64 255 }] }), 0, { Test.entry 0x33 with head := List.replicate 64 255 }, _, by (repeat' apply And.intro) <;> first | decide +kernel | rfl⟩
theorem witness_StorageEntryCommands_5 : ∃ (s : State) (q : Nat) (e : QueueEntry) (d : Dev),
    (s.dev.nextStorage q = some e) ∧ (e.opcode = 0x30) ∧ (s.dev.qType q = typeSto) ∧ (s.dev.accepts Page.sto = true) ∧ ((s.dev.queue q).state = .run ∨ (s.dev.queue q).state = .error) ∧ ((s.dev.noteVol e.volume).latchWhen (s.dev.volValid e.volume && s.dev.sesBad (s.dev.volSession e.volume)) Page.sto FaultBit.sto_LINE_UE = d) ∧ (s.dev.stoFormGood e = true) ∧ (s.dev.stoAllowed q e = false) :=
  ⟨Test.stoState 0 (fun d => (d.gsetWord (d.volAddr 32) 0).setQueue 0 { state := .run, entries := [Test.entry 0x30] }), 0, Test.entry 0x30, _, by (repeat' apply And.intro) <;> first | decide +kernel | rfl⟩
theorem witness_StorageEntryCommands_6 : ∃ (s : State) (q : Nat) (e : QueueEntry) (d : Dev),
    (s.dev.nextStorage q = some e) ∧ (e.opcode = 0x31) ∧ (s.dev.qType q = typeSto) ∧ (s.dev.accepts Page.sto = true) ∧ ((s.dev.queue q).state = .run ∨ (s.dev.queue q).state = .error) ∧ ((s.dev.noteVol e.volume).latchWhen (s.dev.volValid e.volume && s.dev.sesBad (s.dev.volSession e.volume)) Page.sto FaultBit.sto_LINE_UE = d) ∧ (s.dev.stoFormGood e = true) ∧ (s.dev.stoAllowed q e = false) :=
  ⟨Test.stoState 0 (fun d => (d.gsetWord (d.volAddr 32) 0).setQueue 0 { state := .run, entries := [Test.entry 0x31] }), 0, Test.entry 0x31, _, by (repeat' apply And.intro) <;> first | decide +kernel | rfl⟩
theorem witness_StorageEntryCommands_7 : ∃ (s : State) (q : Nat) (e : QueueEntry) (d : Dev),
    (s.dev.nextStorage q = some e) ∧ (e.opcode = 0x32) ∧ (s.dev.qType q = typeSto) ∧ (s.dev.accepts Page.sto = true) ∧ ((s.dev.queue q).state = .run ∨ (s.dev.queue q).state = .error) ∧ ((s.dev.noteVol e.volume).latchWhen (s.dev.volValid e.volume && s.dev.sesBad (s.dev.volSession e.volume)) Page.sto FaultBit.sto_LINE_UE = d) ∧ (s.dev.stoFormGood e = true) ∧ (s.dev.stoAllowed q e = false) :=
  ⟨Test.stoState 0 (fun d => (d.gsetWord (d.volAddr 32) 0).setQueue 0 { state := .run, entries := [Test.entry 0x32] }), 0, Test.entry 0x32, _, by (repeat' apply And.intro) <;> first | decide +kernel | rfl⟩
theorem witness_StorageEntryCommands_8 : ∃ (s : State) (q : Nat) (e : QueueEntry) (d : Dev),
    (s.dev.nextStorage q = some e) ∧ (e.opcode = 0x33) ∧ (s.dev.qType q = typeSto) ∧ (s.dev.accepts Page.sto = true) ∧ ((s.dev.queue q).state = .run ∨ (s.dev.queue q).state = .error) ∧ ((s.dev.noteVol e.volume).latchWhen (s.dev.volValid e.volume && s.dev.sesBad (s.dev.volSession e.volume)) Page.sto FaultBit.sto_LINE_UE = d) ∧ (s.dev.stoFormGood e = true) ∧ (s.dev.stoAllowed q e = false) :=
  ⟨Test.stoState 0 (fun d => (d.gsetWord (d.volAddr 32) 0).setQueue 0 { state := .run, entries := [Test.entry 0x33] }), 0, Test.entry 0x33, _, by (repeat' apply And.intro) <;> first | decide +kernel | rfl⟩
theorem witness_StorageEntryCommands_9 : ∃ (s : State) (q : Nat) (e : QueueEntry) (d : Dev),
    (s.dev.nextStorage q = some e) ∧ (e.opcode = 0x30) ∧ (s.dev.qType q = typeSto) ∧ (s.dev.accepts Page.sto = true) ∧ ((s.dev.queue q).state = .run ∨ (s.dev.queue q).state = .error) ∧ ((s.dev.noteVol e.volume).latchWhen (s.dev.volValid e.volume && s.dev.sesBad (s.dev.volSession e.volume)) Page.sto FaultBit.sto_LINE_UE = d) ∧ (s.dev.stoFormGood e = true) ∧ (s.dev.stoAllowed q e = true) ∧ (s.dev.sesState (s.dev.volSession e.volume) = Ses.draining ∨ s.dev.sesState (s.dev.volSession e.volume) = Ses.failed ∨ s.dev.sesState (s.dev.volSession e.volume) = Ses.closed) :=
  ⟨Test.stoState 7 (fun d => d.setQueue 0 { state := .run, entries := [Test.entry 0x30] }), 0, Test.entry 0x30, _, by (repeat' apply And.intro) <;> first | decide +kernel | rfl⟩
theorem witness_StorageEntryCommands_10 : ∃ (s : State) (q : Nat) (e : QueueEntry) (d : Dev),
    (s.dev.nextStorage q = some e) ∧ (e.opcode = 0x31) ∧ (s.dev.qType q = typeSto) ∧ (s.dev.accepts Page.sto = true) ∧ ((s.dev.queue q).state = .run ∨ (s.dev.queue q).state = .error) ∧ ((s.dev.noteVol e.volume).latchWhen (s.dev.volValid e.volume && s.dev.sesBad (s.dev.volSession e.volume)) Page.sto FaultBit.sto_LINE_UE = d) ∧ (s.dev.stoFormGood e = true) ∧ (s.dev.stoAllowed q e = true) ∧ (s.dev.sesState (s.dev.volSession e.volume) = Ses.draining ∨ s.dev.sesState (s.dev.volSession e.volume) = Ses.failed ∨ s.dev.sesState (s.dev.volSession e.volume) = Ses.closed) :=
  ⟨Test.stoState 7 (fun d => d.setQueue 0 { state := .run, entries := [Test.entry 0x31] }), 0, Test.entry 0x31, _, by (repeat' apply And.intro) <;> first | decide +kernel | rfl⟩
theorem witness_StorageEntryCommands_11 : ∃ (s : State) (q : Nat) (e : QueueEntry) (d : Dev),
    (s.dev.nextStorage q = some e) ∧ (e.opcode = 0x32) ∧ (s.dev.qType q = typeSto) ∧ (s.dev.accepts Page.sto = true) ∧ ((s.dev.queue q).state = .run ∨ (s.dev.queue q).state = .error) ∧ ((s.dev.noteVol e.volume).latchWhen (s.dev.volValid e.volume && s.dev.sesBad (s.dev.volSession e.volume)) Page.sto FaultBit.sto_LINE_UE = d) ∧ (s.dev.stoFormGood e = true) ∧ (s.dev.stoAllowed q e = true) ∧ (s.dev.sesState (s.dev.volSession e.volume) = Ses.draining ∨ s.dev.sesState (s.dev.volSession e.volume) = Ses.failed ∨ s.dev.sesState (s.dev.volSession e.volume) = Ses.closed) :=
  ⟨Test.stoState 7 (fun d => d.setQueue 0 { state := .run, entries := [Test.entry 0x32] }), 0, Test.entry 0x32, _, by (repeat' apply And.intro) <;> first | decide +kernel | rfl⟩
theorem witness_StorageEntryCommands_12 : ∃ (s : State) (q : Nat) (e : QueueEntry) (d : Dev),
    (s.dev.nextStorage q = some e) ∧ (e.opcode = 0x33) ∧ (s.dev.qType q = typeSto) ∧ (s.dev.accepts Page.sto = true) ∧ ((s.dev.queue q).state = .run ∨ (s.dev.queue q).state = .error) ∧ ((s.dev.noteVol e.volume).latchWhen (s.dev.volValid e.volume && s.dev.sesBad (s.dev.volSession e.volume)) Page.sto FaultBit.sto_LINE_UE = d) ∧ (s.dev.stoFormGood e = true) ∧ (s.dev.stoAllowed q e = true) ∧ (s.dev.sesState (s.dev.volSession e.volume) = Ses.draining ∨ s.dev.sesState (s.dev.volSession e.volume) = Ses.failed ∨ s.dev.sesState (s.dev.volSession e.volume) = Ses.closed) :=
  ⟨Test.stoState 7 (fun d => d.setQueue 0 { state := .run, entries := [Test.entry 0x33] }), 0, Test.entry 0x33, _, by (repeat' apply And.intro) <;> first | decide +kernel | rfl⟩
theorem witness_StorageEntryCommands_13 : ∃ (s : State) (q : Nat) (e : QueueEntry) (d : Dev),
    (s.dev.nextStorage q = some e) ∧ (e.opcode = 0x30) ∧ (s.dev.qType q = typeSto) ∧ (s.dev.accepts Page.sto = true) ∧ ((s.dev.queue q).state = .run ∨ (s.dev.queue q).state = .error) ∧ ((s.dev.noteVol e.volume).latchWhen (s.dev.volValid e.volume && s.dev.sesBad (s.dev.volSession e.volume)) Page.sto FaultBit.sto_LINE_UE = d) ∧ (s.dev.stoFormGood e = true) ∧ (s.dev.stoAllowed q e = true) ∧ (Ses.connecting ≤ s.dev.sesState (s.dev.volSession e.volume)) ∧ (s.dev.sesState (s.dev.volSession e.volume) ≤ Ses.ready) ∧ (s.dev.sesValid (s.dev.volSession e.volume) = true) :=
  ⟨Test.stoState 5 (fun d => d.setQueue 0 { state := .run, entries := [Test.entry 0x30] }), 0, Test.entry 0x30, _, by (repeat' apply And.intro) <;> first | decide +kernel | rfl⟩
theorem witness_StorageEntryCommands_14 : ∃ (s : State) (q : Nat) (e : QueueEntry) (d : Dev),
    (s.dev.nextStorage q = some e) ∧ (e.opcode = 0x31) ∧ (s.dev.qType q = typeSto) ∧ (s.dev.accepts Page.sto = true) ∧ ((s.dev.queue q).state = .run ∨ (s.dev.queue q).state = .error) ∧ ((s.dev.noteVol e.volume).latchWhen (s.dev.volValid e.volume && s.dev.sesBad (s.dev.volSession e.volume)) Page.sto FaultBit.sto_LINE_UE = d) ∧ (s.dev.stoFormGood e = true) ∧ (s.dev.stoAllowed q e = true) ∧ (Ses.connecting ≤ s.dev.sesState (s.dev.volSession e.volume)) ∧ (s.dev.sesState (s.dev.volSession e.volume) ≤ Ses.ready) ∧ (s.dev.sesValid (s.dev.volSession e.volume) = true) :=
  ⟨Test.stoState 5 (fun d => d.setQueue 0 { state := .run, entries := [Test.entry 0x31] }), 0, Test.entry 0x31, _, by (repeat' apply And.intro) <;> first | decide +kernel | rfl⟩
theorem witness_StorageEntryCommands_15 : ∃ (s : State) (q : Nat) (e : QueueEntry) (d : Dev),
    (s.dev.nextStorage q = some e) ∧ (e.opcode = 0x32) ∧ (s.dev.qType q = typeSto) ∧ (s.dev.accepts Page.sto = true) ∧ ((s.dev.queue q).state = .run ∨ (s.dev.queue q).state = .error) ∧ ((s.dev.noteVol e.volume).latchWhen (s.dev.volValid e.volume && s.dev.sesBad (s.dev.volSession e.volume)) Page.sto FaultBit.sto_LINE_UE = d) ∧ (s.dev.stoFormGood e = true) ∧ (s.dev.stoAllowed q e = true) ∧ (Ses.connecting ≤ s.dev.sesState (s.dev.volSession e.volume)) ∧ (s.dev.sesState (s.dev.volSession e.volume) ≤ Ses.ready) ∧ (s.dev.sesValid (s.dev.volSession e.volume) = true) :=
  ⟨Test.stoState 5 (fun d => d.setQueue 0 { state := .run, entries := [Test.entry 0x32] }), 0, Test.entry 0x32, _, by (repeat' apply And.intro) <;> first | decide +kernel | rfl⟩
theorem witness_StorageEntryCommands_16 : ∃ (s : State) (q : Nat) (e : QueueEntry) (d : Dev),
    (s.dev.nextStorage q = some e) ∧ (e.opcode = 0x33) ∧ (s.dev.qType q = typeSto) ∧ (s.dev.accepts Page.sto = true) ∧ ((s.dev.queue q).state = .run ∨ (s.dev.queue q).state = .error) ∧ ((s.dev.noteVol e.volume).latchWhen (s.dev.volValid e.volume && s.dev.sesBad (s.dev.volSession e.volume)) Page.sto FaultBit.sto_LINE_UE = d) ∧ (s.dev.stoFormGood e = true) ∧ (s.dev.stoAllowed q e = true) ∧ (Ses.connecting ≤ s.dev.sesState (s.dev.volSession e.volume)) ∧ (s.dev.sesState (s.dev.volSession e.volume) ≤ Ses.ready) ∧ (s.dev.sesValid (s.dev.volSession e.volume) = true) :=
  ⟨Test.stoState 5 (fun d => d.setQueue 0 { state := .run, entries := [Test.entry 0x33] }), 0, Test.entry 0x33, _, by (repeat' apply And.intro) <;> first | decide +kernel | rfl⟩
theorem witness_StorageEntryCommands_17 : ∃ (s : State) (n : Nat) (a : HostAnswer) (w w1 : WireCmd) (d : Dev),
    (s.dev.wire n = some w) ∧ (s.dev.mayIssue w = true) ∧ (w.orphan = false) ∧ (s.dev.accepts Page.sto = true) ∧ (w.phase = .ready ∨ (w.phase = .start ∧ w.op ≠ 0x31 ∧ w.op ≠ 0)) ∧ (s.dev.earlierUnsent n w = false) ∧ (s.dev.flushWaits n w = false) ∧ (s.dev.takeSlot n w = some d) ∧ (d.wire n = some w1) :=
  ⟨Test.stoState 5 (fun d => (d.setSes 8 { open_ := true, freeSlots := [3] }).setWire 0 (some Test.wire)), 0, .data, Test.wire, { Test.wire with slot := 3, gen := 1, live := true }, _, by (repeat' apply And.intro) <;> first | decide +kernel | rfl⟩
theorem witness_StorageEntryCommands_18 : ∃ (s : State) (n : Nat) (a : HostAnswer) (w : WireCmd),
    (s.dev.wire n = some w) ∧ (w.phase = .ready ∨ (w.phase = .start ∧ w.op ≠ 0x31 ∧ w.op ≠ 0)) ∧ (s.dev.earlierUnsent n w = true ∨ s.dev.flushWaits n w = true ∨ s.dev.takeSlot n w = none) :=
  ⟨Test.stoState 5 (fun d => (d.setSes 8 { open_ := true }).setWire 0 (some Test.wire)), 0, .data, Test.wire, by decide +kernel⟩
theorem witness_StorageEntryCommands_19 : ∃ (s : State) (ses n : Nat) (p : List Byte) (w : WireCmd) (c : List (Nat × Nat) × List (Nat × Nat)) (d d0 : Dev),
    (s.dev.dataWaits ses = false) ∧ (s.dev.nextPdu ses = some p) ∧ (pduFormGood p = true) ∧ (byteAt p 0 = 0x07) ∧ (headerGood (s.dev.ses ses).digests p = true) ∧ (s.dev.modSes ses (fun v => { v with stream := v.stream.drop p.length }) = d) ∧ (d.wireOf ses (pduCid p) = some n) ∧ (d.wire n = some w) ∧ (w.orphan = false) ∧ (w.op = 0x30) ∧ (w.fail = none) ∧ (pduDataFits (d.ses ses).digests p = true) ∧ (ofLe (cut p 12 4) = w.received) ∧ (w.received + ofLe (cut p 16 4) ≤ w.len) ∧ ((pduData (d.ses ses).digests p).2 = true) ∧ (bitAt (byteAt p 1) 2 = false) ∧ (d.storeCells (ofLe (cut p 16 4)) = some (c, d0)) :=
  ⟨Test.stoState 5 (fun d => (d.setSes 8 { open_ := true, stream := Test.dataPdu }).setWire 0 (some { Test.wire with op := 0x30, len := 512, phase := .sent, live := true })), 8, 0, Test.dataPdu, { Test.wire with op := 0x30, len := 512, phase := .sent, live := true }, _, _, _, by (repeat' apply And.intro) <;> first | decide +kernel | rfl⟩
theorem witness_StorageEntryCommands_20 : ∃ (s : State) (ses : Nat) (p : List Byte) (d : Dev),
    (s.dev.dataWaits ses = false) ∧ (s.dev.nextPdu ses = some p) ∧ (pduFormGood p = true) ∧ (byteAt p 0 = 0x07) ∧ (headerGood (s.dev.ses ses).digests p = true) ∧ (s.dev.modSes ses (fun v => { v with stream := v.stream.drop p.length }) = d) ∧ (d.wireOf ses (if byteAt p 0 = 0x05 then ofLe (cut p 20 2) else pduCid p) = none) :=
  ⟨Test.stoState 5 (fun d => d.setSes 8 { open_ := true, stream := Test.pdu 0x07 }), 8, Test.pdu 0x07, _, by (repeat' apply And.intro) <;> first | decide +kernel | rfl⟩
theorem witness_StorageEntryCommands_21 : ∃ (s : State) (ses : Nat) (p : List Byte) (d : Dev),
    (s.dev.nextPdu ses = some p) ∧ (pduFormGood p = true) ∧ (byteAt p 0 = 0x05) ∧ (headerGood (s.dev.ses ses).digests p = true) ∧ (s.dev.modSes ses (fun v => { v with stream := v.stream.drop p.length }) = d) ∧ (d.wireOf ses (if byteAt p 0 = 0x05 then ofLe (cut p 20 2) else pduCid p) = none) :=
  ⟨Test.stoState 5 (fun d => d.setSes 8 { open_ := true, stream := Test.pdu 0x05 }), 8, Test.pdu 0x05, _, ⟨by decide +kernel, by decide +kernel, by decide +kernel, by decide +kernel, rfl, by decide +kernel⟩⟩
theorem witness_StorageEntryCommands_22 : ∃ (s : State) (ses : Nat) (p : List Byte) (d : Dev),
    (s.dev.nextPdu ses = some p) ∧ (pduFormGood p = true) ∧ (byteAt p 0 = 0x09) ∧ (headerGood (s.dev.ses ses).digests p = true) ∧ (s.dev.modSes ses (fun v => { v with stream := v.stream.drop p.length }) = d) ∧ (d.wireOf ses (if byteAt p 0 = 0x05 then ofLe (cut p 20 2) else pduCid p) = none) :=
  ⟨Test.stoState 5 (fun d => d.setSes 8 { open_ := true, stream := Test.pdu 0x09 }), 8, Test.pdu 0x09, _, ⟨by decide +kernel, by decide +kernel, by decide +kernel, by decide +kernel, rfl, by decide +kernel⟩⟩
theorem witness_StorageEntryCommands_23 : ∃ (s : State) (ses n : Nat) (p : List Byte) (w : WireCmd) (d : Dev),
    (s.dev.nextPdu ses = some p) ∧ (pduFormGood p = true) ∧ (byteAt p 0 = 0x05) ∧ (headerGood (s.dev.ses ses).digests p = true) ∧ (s.dev.modSes ses (fun v => { v with stream := v.stream.drop p.length }) = d) ∧ (d.wireOf ses (ofLe (cut p 20 2)) = some n) ∧ (d.wire n = some w) ∧ (w.op = 0x32 ∨ w.op = 0x33) :=
  ⟨Test.stoState 5 (fun d => (d.setSes 8 { open_ := true, stream := Test.pdu 5 }).setWire 0 (some { Test.wire with phase := .sent, live := true })), 8, 0, Test.pdu 5, { Test.wire with phase := .sent, live := true }, _, ⟨by decide +kernel, by decide +kernel, by decide +kernel, by decide +kernel, rfl, by decide +kernel⟩⟩
theorem witness_StorageEntryCommands_24 : ∃ (s : State) (ses n off len most : Nat) (p : List Byte) (w : WireCmd) (d : Dev),
    (s.dev.nextPdu ses = some p) ∧ (pduFormGood p = true) ∧ (byteAt p 0 = 0x09) ∧ (headerGood (s.dev.ses ses).digests p = true) ∧ (s.dev.modSes ses (fun v => { v with stream := v.stream.drop p.length }) = d) ∧ (d.wireOf ses (pduCid p) = some n) ∧ (d.wire n = some w) ∧ (w.op = 0x31 ∨ w.op = 0) ∧ (ofLe (cut p 12 4) = off) ∧ (ofLe (cut p 16 4) = len) ∧ (0 < len) ∧ (off + len ≤ w.held.length) ∧ (max 4096 (bits (d.sesWord ses 25) 16 16 * 4096) = most) :=
  ⟨Test.stoState 5 (fun d => (d.setSes 8 { open_ := true, stream := Test.pdu 9 }).setWire 0 (some { Test.wire with op := 0x31, len := 512, held := List.replicate 512 7, phase := .sent, live := true })), 8, 0, 0, 512, 4096, Test.pdu 9, { Test.wire with op := 0x31, len := 512, held := List.replicate 512 7, phase := .sent, live := true }, _, ⟨by decide +kernel, by decide +kernel, by decide +kernel, by decide +kernel, rfl, by decide +kernel⟩⟩
theorem witness_StorageEntryCommands_25 : ∃ (s : State) (n : Nat) (w : WireCmd),
    (s.dev.wire n = some w) ∧ (w.live = true) :=
  ⟨Test.stoState 5 (fun d => d.setWire 0 (some { Test.wire with live := true })), 0, { Test.wire with live := true }, by decide +kernel⟩
theorem witness_StorageEntryCommands_26 : ∃ (s : State) (q i : Nat) (e : QueueEntry),
    (s.dev.entry q i = some e) ∧ (e.accepted = true) ∧ (s.dev.qType q = typeSto) ∧ (Ses.connecting ≤ s.dev.sesState (s.dev.volSession e.volume)) ∧ (s.dev.sesState (s.dev.volSession e.volume) ≤ Ses.connect) :=
  ⟨Test.stoState 4 (fun d => d.setQueue 0 { state := .run, entries := [{ Test.entry 0x30 with accepted := true }] }), 0, 0, { Test.entry 0x30 with accepted := true }, by decide +kernel⟩

theorem witness_StorageSessionCommands_1 : ∃ (s : State) (ses : Nat) (p : List Byte) (d : Dev),
    (s.dev.nextPdu ses = some p) ∧ (pduFormGood p = true) ∧ (byteAt p 0 = 0x01) ∧ (headerGood (s.dev.ses ses).digests p = true) ∧ (s.dev.modSes ses (fun v => { v with stream := v.stream.drop p.length }) = d) ∧ (d.sesState ses = Ses.icreq) ∧ (ofLe (cut p 8 2) = 0) ∧ (byteAt p 10 = 0) ∧ (byteAt p 11 = 0) ∧ (4096 ≤ ofLe (cut p 12 4)) :=
  ⟨Test.stoState 3 (fun d => d.setSes 8 { open_ := true, stream := Test.icResp }), 8, Test.icResp, _, ⟨by decide +kernel, by decide +kernel, by decide +kernel, by decide +kernel, rfl, by decide +kernel⟩⟩
theorem witness_StorageSessionCommands_2 : ∃ (s : State) (ses : Nat) (p : List Byte) (d : Dev),
    (s.dev.nextPdu ses = some p) ∧ (pduFormGood p = true) ∧ (byteAt p 0 = 0x03) ∧ (headerGood (s.dev.ses ses).digests p = true) ∧ (s.dev.modSes ses (fun v => { v with stream := v.stream.drop p.length }) = d) :=
  ⟨Test.stoState 5 (fun d => d.setSes 8 { open_ := true, stream := Test.pdu 3 }), 8, Test.pdu 3, _, ⟨by decide +kernel, by decide +kernel, by decide +kernel, by decide +kernel, rfl⟩⟩
theorem witness_StorageSessionCommands_3 : ∃ (s : State) (n ses : Nat) (g : Segmented),
    (s.dev.headSegment = some (n, ses, some g)) ∧ (g.syn = true) ∧ (g.rst = false) ∧ (s.dev.sesState ses = Ses.connecting) ∧ (s.dev.accepts Page.sto = true) :=
  ⟨Test.stoState 1 (Test.tcpIn 0x12 []), 0, 8, Test.segment 0x12 [], by decide +kernel⟩
theorem witness_StorageSessionCommands_4 : ∃ (s : State) (n ses : Nat) (g : Segmented),
    (s.dev.headSegment = some (n, ses, some g)) ∧ (g.rst = true) ∧ ((s.dev.ses ses).open_ = true) ∧ ((s.dev.ses ses).term = false) ∧ (s.dev.accepts Page.sto = true) :=
  ⟨Test.stoState 5 (Test.tcpIn 0x04 []), 0, 8, Test.segment 0x04 [], by decide +kernel⟩
theorem witness_StorageSessionCommands_5 : ∃ (s : State) (n ses : Nat) (g : Segmented),
    (s.dev.headSegment = some (n, ses, some g)) ∧ (g.rst = false) ∧ (g.syn = false) ∧ ((s.dev.ses ses).open_ = true) ∧ ((s.dev.ses ses).term = false) ∧ (s.dev.sesState ses ≠ Ses.connecting) ∧ (s.dev.accepts Page.sto = true) :=
  ⟨Test.stoState 5 (Test.tcpIn 0x10 [1, 2, 3]), 0, 8, Test.segment 0x10 [1, 2, 3], by decide +kernel⟩
theorem witness_StorageSessionCommands_6 : ∃ (s : State) (n ses : Nat),
    (s.dev.headSegment = some (n, ses, none)) :=
  ⟨Test.stoState 5 (fun d => { d with host := { d.host with sto := [9] } }), 9, 0, by decide +kernel⟩
theorem witness_StorageSessionCommands_7 : ∃ (s : State) (ses : Nat),
    ((s.dev.ses ses).open_ = true) ∧ ((s.dev.ses ses).term = false) ∧ (0 < s.dev.inFlight ses) ∧ (bits (s.dev.sesWord ses 12) 0 4 ≤ (s.dev.ses ses).expiries + 1) :=
  ⟨Test.stoState 5 (fun d => (d.setSes 8 { open_ := true, expiries := 14 }).sesSet 8 27 2000), 8, by decide +kernel⟩
theorem witness_StorageSessionCommands_8 : ∃ (s : State) (ses : Nat),
    ((s.dev.ses ses).open_ = true) ∧ ((s.dev.ses ses).term = false) ∧ (0 < s.dev.inFlight ses) ∧ ((s.dev.ses ses).expiries + 1 < bits (s.dev.sesWord ses 12) 0 4) :=
  ⟨Test.stoState 5 (fun d => ((d.setSes 8 { open_ := true }).sesSet 8 27 2000).sesSet 8 12 15), 8, by decide +kernel⟩
theorem witness_StorageSessionCommands_9 : ∃ (s : State) (ses : Nat),
    (s.dev.sesState ses = Ses.draining) ∧ (s.dev.outstanding ses = 0) ∧ ((s.dev.ses ses).open_ = true) ∧ ((s.dev.ses ses).fin = false) ∧ ((s.dev.ses ses).finAcked = false) :=
  ⟨Test.stoState 6 (fun d => d.setSes 8 { open_ := true }), 8, by decide +kernel⟩
theorem witness_StorageSessionCommands_10 : ∃ (s : State) (ses : Nat),
    (s.dev.sesState ses = Ses.draining) ∧ (s.dev.outstanding ses = 0) ∧ ((s.dev.ses ses).finAcked = true) ∧ ((s.dev.ses ses).closing = true) :=
  ⟨Test.stoState 6 (fun d => d.setSes 8 { open_ := true, finAcked := true, closing := true }), 8, by decide +kernel⟩
theorem witness_StorageSessionCommands_11 : ∃ (s : State) (o : PortOp),
    (s.dev.portRunning portSto 1 = some o) ∧ (stoOpBad o false = false) :=
  ⟨Test.ready (fun d => (d).setPort portSto.page { run := some { req := .welbor, word := 1 * 2 ^ portSto.opcode.lo + 32, buf := [] } }), { req := .welbor, word := 1 * 2 ^ portSto.opcode.lo + 32, buf := [] }, by decide +kernel⟩
theorem witness_StorageSessionCommands_12 : ∃ (s : State) (o : PortOp),
    (s.dev.portRunning portSto 2 = some o) ∧ (stoOpBad o false = false) :=
  ⟨Test.ready (fun d => (d).setPort portSto.page { run := some { req := .welbor, word := 2 * 2 ^ portSto.opcode.lo + 32, buf := [] } }), { req := .welbor, word := 2 * 2 ^ portSto.opcode.lo + 32, buf := [] }, by decide +kernel⟩
theorem witness_StorageSessionCommands_13 : ∃ (s : State) (o : PortOp),
    (s.dev.portRunning portSto 3 = some o) ∧ (stoOpBad o false = false) :=
  ⟨Test.ready (fun d => (d).setPort portSto.page { run := some { req := .welbor, word := 3 * 2 ^ portSto.opcode.lo + 32, buf := [] } }), { req := .welbor, word := 3 * 2 ^ portSto.opcode.lo + 32, buf := [] }, by decide +kernel⟩
theorem witness_StorageSessionCommands_14 : ∃ (s : State) (o : PortOp),
    (s.dev.portRunning portSto 4 = some o) ∧ (o.req = .welbor) ∧ (stoOpBad o false = false) :=
  ⟨Test.ready (fun d => (d).setPort portSto.page { run := some { req := .welbor, word := 4 * 2 ^ portSto.opcode.lo + 32, buf := [] } }), { req := .welbor, word := 4 * 2 ^ portSto.opcode.lo + 32, buf := [] }, by decide +kernel⟩
theorem witness_StorageSessionCommands_15 : ∃ (s : State) (o : PortOp),
    (s.dev.portRunning portSto 4 = some o) ∧ (o.req ≠ .welbor) :=
  ⟨Test.ready (fun d => (d).setPort portSto.page { run := some { req := .firmware 0, word := 4 * 2 ^ portSto.opcode.lo + 32, buf := [] } }), { req := .firmware 0, word := 4 * 2 ^ portSto.opcode.lo + 32, buf := [] }, by decide +kernel⟩
theorem witness_StorageSessionCommands_16 : ∃ (s : State) (o : PortOp),
    (s.dev.portRunning portSto 5 = some o) ∧ (stoOpBad o true = false) :=
  ⟨Test.ready (fun d => (d).setPort portSto.page { run := some { req := .welbor, word := 5 * 2 ^ portSto.opcode.lo + 8, buf := [] } }), { req := .welbor, word := 5 * 2 ^ portSto.opcode.lo + 8, buf := [] }, by decide +kernel⟩
theorem witness_StorageSessionCommands_17 : ∃ (s : State) (o : PortOp),
    (s.dev.portRunning portSto 6 = some o) ∧ (stoOpBad o true = false) :=
  ⟨Test.ready (fun d => (d).setPort portSto.page { run := some { req := .welbor, word := 6 * 2 ^ portSto.opcode.lo + 8, buf := [] } }), { req := .welbor, word := 6 * 2 ^ portSto.opcode.lo + 8, buf := [] }, by decide +kernel⟩
theorem witness_StorageSessionCommands_18 : ∃ (s : State) (o : PortOp) (d : Dev),
    (s.dev.portRunning portSto 7 = some o) ∧ (s.dev.noteSes (bits o.word 0 18) = d) ∧ (o.req = .welbor ∨ d.sesMgr (bits o.word 0 18) = true) ∧ (stoOpBad o true = false) ∧ (d.sesState (bits o.word 0 18) = Ses.closed) ∧ (d.sesValid (bits o.word 0 18) = true) :=
  ⟨Test.ready (fun d => (Test.sto 0 d).setPort portSto.page { run := some { req := .welbor, word := 7 * 2 ^ portSto.opcode.lo + 8, buf := [] } }), { req := .welbor, word := 7 * 2 ^ portSto.opcode.lo + 8, buf := [] }, _, ⟨by decide +kernel, rfl, by decide +kernel⟩⟩
theorem witness_StorageSessionCommands_19 : ∃ (s : State) (o : PortOp) (d : Dev),
    (s.dev.portRunning portSto 8 = some o) ∧ (s.dev.noteSes (bits o.word 0 18) = d) ∧ (o.req = .welbor ∨ d.sesMgr (bits o.word 0 18) = true) ∧ (stoOpBad o true = false) ∧ (d.sesState (bits o.word 0 18) = Ses.handshake) ∧ (d.sasMatch (bits o.word 0 18) = true) :=
  ⟨Test.ready (fun d => ((Test.sa id (Test.sto 2 d)).gsetWords (d.sesAddr 8 + 28) [32, 32]).setPort portSto.page { run := some { req := .welbor, word := 8 * 2 ^ portSto.opcode.lo + 8, buf := [] } }), { req := .welbor, word := 8 * 2 ^ portSto.opcode.lo + 8, buf := [] }, _, ⟨by decide +kernel, rfl, by decide +kernel⟩⟩
theorem witness_StorageSessionCommands_20 : ∃ (s : State) (o : PortOp) (d : Dev),
    (s.dev.portRunning portSto 9 = some o) ∧ (s.dev.noteSes (bits o.word 0 18) = d) ∧ (o.req = .welbor ∨ d.sesMgr (bits o.word 0 18) = true) ∧ (stoOpBad o true = false) ∧ (d.sesState (bits o.word 0 18) = Ses.ready) :=
  ⟨Test.ready (fun d => (Test.sto 5 d).setPort portSto.page { run := some { req := .welbor, word := 9 * 2 ^ portSto.opcode.lo + 8, buf := [] } }), { req := .welbor, word := 9 * 2 ^ portSto.opcode.lo + 8, buf := [] }, _, ⟨by decide +kernel, rfl, by decide +kernel⟩⟩
theorem witness_StorageSessionCommands_21 : ∃ (s : State) (o : PortOp) (d : Dev),
    (s.dev.portRunning portSto 9 = some o) ∧ (s.dev.noteSes (bits o.word 0 18) = d) ∧ (o.req = .welbor ∨ d.sesMgr (bits o.word 0 18) = true) ∧ (d.sesState (bits o.word 0 18) ≠ Ses.ready) :=
  ⟨Test.ready (fun d => (Test.sto 4 d).setPort portSto.page { run := some { req := .welbor, word := 9 * 2 ^ portSto.opcode.lo + 8, buf := [] } }), { req := .welbor, word := 9 * 2 ^ portSto.opcode.lo + 8, buf := [] }, _, ⟨by decide +kernel, rfl, by decide +kernel⟩⟩
theorem witness_StorageSessionCommands_22 : ∃ (s : State) (o : PortOp),
    (s.dev.portRunning portSto 10 = some o) ∧ (stoOpBad o true = false) :=
  ⟨Test.ready (fun d => (d).setPort portSto.page { run := some { req := .welbor, word := 10 * 2 ^ portSto.opcode.lo + 8, buf := [] } }), { req := .welbor, word := 10 * 2 ^ portSto.opcode.lo + 8, buf := [] }, by decide +kernel⟩

theorem witness_MacReceiveCommands_1 : ∃ (s : State) (m h : Nat) (bs : List Byte) (d : Dev),
    (m < 16) ∧ ((s.dev.macOf m).rxBusy = true) ∧ ((s.dev.macOf m).rx = some h) ∧ ((taggedFrame (s.dev.macOf m).rxTag bs).length ≤ s.dev.fget (Page.mac m) Reg.MAC_MAX_FRAME_BYTES) ∧ (64 ≤ bs.length) ∧ (fcsGood bs = true) ∧ (isControl bs = false) ∧ (((s.dev.countMac m 0x10).countMac m 0x11 bs.length).completeFrame h (taggedFrame (s.dev.macOf m).rxTag bs) = d) :=
  ⟨Test.ready (fun d => (d.fset (Page.mac 3) Reg.MAC_MAX_FRAME_BYTES 1518).setMac 3 { rxBusy := true, rx := some 9 }), 3, 9, List.replicate 60 7 ++ fcsOf (List.replicate 60 7), _, ⟨by decide, by decide +kernel, by decide +kernel, by decide +kernel, by decide, by decide +kernel, by decide +kernel, rfl⟩⟩
theorem witness_MacReceiveCommands_2 : ∃ (s : State) (m h : Nat) (bs : List Byte) (d : Dev),
    (m < 16) ∧ ((s.dev.macOf m).rxBusy = true) ∧ ((s.dev.macOf m).rx = some h) ∧ ((s.dev.countMac m 0x15).discardFrame h = d) :=
  ⟨Test.ready (fun d => d.setMac 3 { rxBusy := true, rx := some 9 }), 3, 9, [], _, ⟨by decide, by decide +kernel, by decide +kernel, rfl⟩⟩
theorem witness_MacReceiveCommands_3 : ∃ (s : State) (m h : Nat) (bs : List Byte) (d : Dev),
    (m < 16) ∧ ((s.dev.macOf m).rxBusy = true) ∧ ((s.dev.macOf m).rx = some h) ∧ ((taggedFrame (s.dev.macOf m).rxTag bs).length ≤ s.dev.fget (Page.mac m) Reg.MAC_MAX_FRAME_BYTES) ∧ (64 ≤ bs.length) ∧ (fcsGood bs = false) ∧ ((s.dev.countMac m 0x12).discardFrame h = d) :=
  ⟨Test.ready (fun d => (d.fset (Page.mac 3) Reg.MAC_MAX_FRAME_BYTES 1518).setMac 3 { rxBusy := true, rx := some 9 }), 3, 9, List.replicate 64 7, _, ⟨by decide, by decide +kernel, by decide +kernel, by decide +kernel, by decide, by decide +kernel, rfl⟩⟩
theorem witness_MacReceiveCommands_4 : ∃ (s : State) (m : Nat) (bs : List Byte) (d d1 : Dev),
    (m < 16) ∧ ((s.dev.macOf m).rxBusy = true) ∧ ((s.dev.macOf m).rx = none) ∧ ((taggedFrame (s.dev.macOf m).rxTag bs).length ≤ s.dev.fget (Page.mac m) Reg.MAC_MAX_FRAME_BYTES) ∧ (64 ≤ bs.length) ∧ (fcsGood bs = true) ∧ (isControl bs = true) ∧ (bs.take 6 = pauseDa) ∧ (be16 bs 14 = 0x0001) ∧ (s.dev.countMac m 0x16 = d) ∧ (d.fget (Page.mac m) Reg.MAC_CFG_FC_MODE = 1) ∧ (d.linkState m = 3) ∧ (d.pauseIgnored m 8 = false) ∧ ((d.setMac m ((d.macOf m).setTimer 8 (if be16 bs 16 = 0 then 0 else 9))).updatePaused m = d1) :=
  ⟨Test.ready (fun d => (((d.fset (Page.mac 3) Reg.MAC_MAX_FRAME_BYTES 64).fset (Page.mac 3) Reg.MAC_CFG_FC_MODE 1).fset (Page.mac 3) Reg.MAC_LINK_STATE 3).setMac 3 { rxBusy := true }), 3, ((Test.ready id).dev.pauseFrame 3 5 |> padFrame) ++ fcsOf ((Test.ready id).dev.pauseFrame 3 5 |> padFrame), _, _, by (repeat' apply And.intro) <;> first | decide +kernel | rfl⟩
theorem witness_MacReceiveCommands_5 : ∃ (s : State) (m : Nat) (bs : List Byte) (d d1 : Dev),
    (m < 16) ∧ ((s.dev.macOf m).rxBusy = true) ∧ ((s.dev.macOf m).rx = none) ∧ ((taggedFrame (s.dev.macOf m).rxTag bs).length ≤ s.dev.fget (Page.mac m) Reg.MAC_MAX_FRAME_BYTES) ∧ (64 ≤ bs.length) ∧ (fcsGood bs = true) ∧ (isControl bs = true) ∧ (bs.take 6 = pauseDa) ∧ (be16 bs 14 = 0x0101) ∧ (s.dev.countMac m 0x16 = d) ∧ (d.fget (Page.mac m) Reg.MAC_CFG_FC_MODE ≠ 2) ∧ ((((List.range 8).filter (fun n => bitAt (be16 bs 16) n)).foldl (fun (d : Dev) n => d.countMac m (0x24 + n)) d).countMac m 0x21 = d1) :=
  ⟨Test.ready (fun d => ((d.fset (Page.mac 3) Reg.MAC_MAX_FRAME_BYTES 64).fset (Page.mac 3) Reg.MAC_CFG_FC_MODE 1).setMac 3 { rxBusy := true }), 3, ((Test.ready id).dev.pfcFrame 3 1 5 |> padFrame) ++ fcsOf ((Test.ready id).dev.pfcFrame 3 1 5 |> padFrame), _, _, by (repeat' apply And.intro) <;> first | decide +kernel | rfl⟩
theorem witness_MacReceiveCommands_6 : ∃ (s : State) (m : Nat) (bs : List Byte) (d : Dev),
    (m < 16) ∧ (s.dev.receives m true = true) ∧ (isControl bs = true) ∧ (bs.take 6 = pauseDa) ∧ (be16 bs 14 = 0x0001) ∧ ((s.dev.macOf m).rx = none) ∧ (s.dev.setMac m { s.dev.macOf m with rxBusy := true, rx := none, rxTag := s.dev.pvidTag m } = d) :=
  ⟨Test.ready (Test.macUp 3), 3, ((Test.ready id).dev.pauseFrame 3 5 |> padFrame) ++ fcsOf ((Test.ready id).dev.pauseFrame 3 5 |> padFrame), _, by (repeat' apply And.intro) <;> first | decide +kernel | rfl⟩
theorem witness_MacReceiveCommands_7 : ∃ (s : State) (m : Nat) (bs : List Byte) (d : Dev),
    (m < 16) ∧ (s.dev.receives m true = true) ∧ (isControl bs = true) ∧ (bs.take 6 = pauseDa) ∧ (be16 bs 14 = 0x0101) ∧ ((s.dev.macOf m).rx = none) ∧ (s.dev.setMac m { s.dev.macOf m with rxBusy := true, rx := none, rxTag := s.dev.pvidTag m } = d) :=
  ⟨Test.ready (Test.macUp 3), 3, ((Test.ready id).dev.pfcFrame 3 1 5 |> padFrame) ++ fcsOf ((Test.ready id).dev.pfcFrame 3 1 5 |> padFrame), _, by (repeat' apply And.intro) <;> first | decide +kernel | rfl⟩
theorem witness_MacReceiveCommands_8 : ∃ (s : State) (m n : Nat),
    (m < 16) ∧ ((s.dev.macOf m).timer n ≠ 0) :=
  ⟨Test.ready (fun d => d.setMac 3 (({} : Mac).setTimer 2 3)), 3, 2, by decide +kernel⟩
theorem witness_MacReceiveCommands_9 : ∃ (s : State) (m t : Nat),
    (m < 16) ∧ (t ≤ 8) ∧ (s.dev.fget (Page.mac m) Reg.MAC_PAUSE_WDOG_US ≠ 0) ∧ (Sparse.get (blank 0) (s.dev.macOf m).stopped t ≠ 0) ∧ (bitAt (s.dev.macOf m).ignored t = false) :=
  ⟨Test.ready (fun d => (d.fset (Page.mac 3) Reg.MAC_PAUSE_WDOG_US 1).setMac 3 { stopped := [(8, 1)] }), 3, 8, by decide +kernel⟩
theorem witness_MacReceiveCommands_10 : ∃ (s : State) (m t : Nat),
    (m < 16) ∧ (bitAt (s.dev.macOf m).ignored t = true) :=
  ⟨Test.ready (fun d => d.setMac 3 { ignored := 256 }), 3, 8, by decide +kernel⟩

theorem witness_MacLinkCommands_1 : ∃ (s : State) (m : Nat) (lost dark : Nat) (d : Dev),
    (m < 16) ∧ (((s.dev.macLanes m).foldl (fun (d : Dev) k => d.setLane k { d.lane k with lock := (d.lane k).lock && !bitAt lost (k - m), signal := (d.lane k).signal && !bitAt dark (k - m) }) s.dev).fset (Page.mac m) Reg.MAC_LINK_ALL_LOCK 0 = d) :=
  ⟨Test.ready id, 8, 1, 2, _, ⟨by decide, rfl⟩⟩
theorem witness_MacLinkCommands_2 : ∃ (s : State) (m : Nat) (snr : List Nat) (d : Dev),
    (m < 16) ∧ (((s.dev.macLanes m).foldl (fun (d : Dev) k => d.setLane k { lock := true, signal := true, snr := snr.getD (k - m) 0 % 256 }) s.dev).fset (Page.mac m) Reg.MAC_LINK_ALL_LOCK 1 = d) :=
  ⟨Test.ready id, 8, [], _, ⟨by decide, rfl⟩⟩
theorem witness_MacLinkCommands_3 : ∃ (s : State) (m : Nat),
    (m < 16) ∧ (s.dev.linkState m = 2 ∨ s.dev.linkState m = 4) ∧ (s.dev.allLock m = true) ∧ (s.dev.rsFault m = false) :=
  ⟨Test.ready (fun d => (d.fset (Page.mac 3) Reg.MAC_LINK_STATE 2).fset (Page.mac 3) Reg.MAC_LINK_ALL_LOCK 1), 3, by decide +kernel⟩
theorem witness_MacLinkCommands_4 : ∃ (s : State) (m : Nat) (lf rf : Bool) (d : Dev),
    (m < 16) ∧ (s.dev.withSignal m (fun d => (d.fset (Page.mac m) Reg.MAC_LINK_RX_LOCAL_FAULT (b2n lf)).fset (Page.mac m) Reg.MAC_LINK_RX_REMOTE_FAULT (b2n rf)) = d) :=
  ⟨Test.ready id, 3, true, false, _, ⟨by decide, rfl⟩⟩
theorem witness_MacLinkCommands_5 : ∃ (s : State) (m cor unc sym : Nat),
    (m < 16) :=
  ⟨State.reset, 15, 1, 2, 3, by decide +kernel⟩
theorem witness_MacLinkCommands_6 : ∃ (s : State) (req : Requester) (g : Nat) (mode : BitVec 2),
    (g < 2) ∧ (s.dev.unreachable (Page.pcs g + Reg.PCS_MODE_MODE.off) = none) ∧ (s.dev.asleep req = false) :=
  ⟨Test.ready id, .welbor, 1, 3#2, by decide +kernel⟩
theorem witness_MacLinkCommands_7 : ∃ (s : State) (g : Nat),
    (g < 2) ∧ (s.dev.fbit (Page.pcs g) Reg.PCS_MODE_BUSY = true) :=
  ⟨Test.ready (fun d => d.fset (Page.pcs 1) Reg.PCS_MODE_BUSY 1), 1, by decide +kernel⟩
theorem witness_MacLinkCommands_8 : ∃ (s : State) (req : Requester) (g : Nat),
    (g < 2) ∧ (s.dev.unreachable (Page.pcs g + Reg.CAGE_TWI_GO.off) = none) ∧ (s.dev.fbit (Page.pcs g) Reg.CAGE_TWI_GO = false) ∧ (s.dev.asleep req = false) :=
  ⟨Test.ready id, .welbor, 1, by decide +kernel⟩
theorem witness_MacLinkCommands_9 : ∃ (s : State) (g : Nat) (data : BitVec 8) (o : PortOp) (d : Dev),
    (g < 2) ∧ (s.dev.fbit (Page.pcs g) Reg.CAGE_TWI_GO = true) ∧ ((s.dev.port (Page.pcs g)).run = some o) ∧ ((s.dev.fset (Page.pcs g) Reg.CAGE_TWI_GO 0).setPort (Page.pcs g) { s.dev.port (Page.pcs g) with run := none } = d) :=
  ⟨Test.ready (fun d => (d.fset (Page.pcs 1) Reg.CAGE_TWI_GO 1).setPort (Page.pcs 1) { run := some { req := .welbor, word := 5, buf := [] } }), 1, 0xFF#8, { req := .welbor, word := 5, buf := [] }, _, ⟨by decide, by decide +kernel, by decide +kernel, rfl⟩⟩
theorem witness_MacLinkCommands_10 : ∃ (s : State) (g : Nat) (p : Bool),
    (g < 2) ∧ (s.dev.fbit (Page.pcs g) Reg.CAGE_STAT_PRESENT ≠ p) :=
  ⟨Test.ready (fun d => d.fset (Page.pcs 1) Reg.CAGE_STAT_PRESENT 1), 1, false, by decide +kernel⟩
theorem witness_MacLinkCommands_11 : ∃ (s : State) (g : Nat) (level : Bool),
    (g < 2) :=
  ⟨State.reset, 1, true, by decide +kernel⟩
theorem witness_MacLinkCommands_12 : ∃ (s : State) (g : Nat),
    (g < 2) :=
  ⟨State.reset, 1, by decide +kernel⟩

theorem witness_MacTransmitCommands_1 : ∃ (s : State) (m : Nat),
    (m < 16) ∧ (s.dev.atBoundary m = true) ∧ (s.dev.fget (Page.mac m) Reg.MAC_CFG_FC_MODE = 1) ∧ (s.dev.flowDue m 8 = true) :=
  ⟨Test.ready (fun d => { (Test.macUp 3 d).fset (Page.mac 3) Reg.MAC_CFG_FC_MODE 1 with xoffAsked := [(25, true)] }), 3, by decide +kernel⟩
theorem witness_MacTransmitCommands_2 : ∃ (s : State) (m p : Nat),
    (m < 16) ∧ (s.dev.atBoundary m = true) ∧ (s.dev.fget (Page.mac m) Reg.MAC_CFG_FC_MODE = 2) ∧ ((List.range 8).find? (s.dev.flowDue m) = some p) :=
  ⟨Test.ready (fun d => { (Test.macUp 3 d).fset (Page.mac 3) Reg.MAC_CFG_FC_MODE 2 with xoffAsked := [(25, true)] }), 3, 1, by decide +kernel⟩
theorem witness_MacTransmitCommands_3 : ∃ (s : State) (m p : Nat),
    (m < 16) ∧ (s.dev.mayTransmit m = true) ∧ (s.dev.fget (Page.mac m) Reg.MAC_CFG_FC_MODE = 2) ∧ (p < 8) ∧ (bitAt (s.dev.macOf m).told p = true) ∧ (s.dev.xoffOf (poolIndex m p) = true) :=
  ⟨Test.ready (fun d => ({ (Test.macUp 3 d).fset (Page.mac 3) Reg.MAC_CFG_FC_MODE 2 with xoffAsked := [(25, true)] } : Dev).setMac 3 { told := 2 }), 3, 1, by decide +kernel⟩
theorem witness_MacTransmitCommands_4 : ∃ (s : State) (m n : Nat) (c : Copy) (bs : List Byte) (d : Dev),
    (m < 16) ∧ (s.dev.flushFlowControl m = d) ∧ ((d.macOf m).slot = some n) ∧ ((d.macOf m).sending = none) ∧ (d.mayTransmit m = true) ∧ (d.copyStopped m n = false) ∧ (d.copy n = some c) ∧ (c.oneStep = false) ∧ (padFrame (if c.macsec then c.frame else d.txTags m c.frame) = bs) ∧ (bs.length + 4 ≤ d.fget (Page.mac m) Reg.MAC_MAX_FRAME_BYTES) :=
  ⟨Test.ready (fun d => (((Test.macUp 3 d).fset (Page.mac 3) Reg.MAC_MAX_FRAME_BYTES 1518).setMac 3 { slot := some 7 }).setCopy 7 (some { packet := 1, gen := 1, bytes := List.replicate 64 7, fcs := true, dest := 3, colour := 0 })), 3, 7, { packet := 1, gen := 1, bytes := List.replicate 64 7, fcs := true, dest := 3, colour := 0 }, List.replicate 60 7, _, ⟨by decide, rfl, by decide +kernel⟩⟩
theorem witness_MacTransmitCommands_5 : ∃ (s : State) (m n : Nat) (bs : List Byte) (p cur ceil : Nat) (d : Dev),
    (m < 16) ∧ ((s.dev.macOf m).sending = some bs) ∧ ((s.dev.macOf m).slot = some n) ∧ (((s.dev.copy n).map Copy.oneStep).getD false = false) ∧ (s.dev.fget (Page.mac m) Reg.MAC_TX_START_CUR_BYTES = cur) ∧ (s.dev.fget (Page.mac m) Reg.MAC_TX_START_CEIL_BYTES = ceil) ∧ (cur < bs.length) ∧ (s.dev.fresh = (p, d)) :=
  ⟨Test.ready (fun d => (d.fset (Page.mac 3) Reg.MAC_TX_START_CEIL_BYTES 512).setMac 3 { slot := some 7, sending := some (List.replicate 2000 7) }), 3, 7, List.replicate 2000 7, _, _, 512, _, ⟨by decide, by decide +kernel, by decide +kernel, by decide +kernel, rfl, by decide +kernel, by decide +kernel, rfl⟩⟩
theorem witness_MacTransmitCommands_6 : ∃ (s : State) (m n : Nat) (bs : List Byte) (c : Copy),
    (m < 16) ∧ ((s.dev.macOf m).sending = some bs) ∧ ((s.dev.macOf m).slot = some n) ∧ (s.dev.copy n = some c) :=
  ⟨Test.ready (fun d => (d.setMac 3 { slot := some 7, sending := some (List.replicate 64 7) }).setCopy 7 (some { packet := 1, gen := 1, bytes := List.replicate 64 7, fcs := true, dest := 3, colour := 0 })), 3, 7, List.replicate 64 7, { packet := 1, gen := 1, bytes := List.replicate 64 7, fcs := true, dest := 3, colour := 0 }, by decide +kernel⟩
theorem witness_MacTransmitCommands_7 : ∃ (s : State) (req : Requester) (m : Nat),
    (m < 16) ∧ (s.dev.unreachable (Page.mac m + Reg.MAC_SNAP_GO.off) = none) ∧ (s.dev.asleep req = false) :=
  ⟨Test.ready id, .welbor, 15, by decide +kernel⟩
theorem witness_MacTransmitCommands_8 : ∃ (s : State) (req : Requester),
    (s.dev.unreachable (Page.macg + Reg.MACG_SNAP_GO.off) = none) ∧ (s.dev.asleep req = false) :=
  ⟨Test.ready id, .welbor, by decide +kernel⟩
theorem witness_MacTransmitCommands_9 : ∃ (s : State) (req : Requester) (m tag sec ns frac : Nat) (rest : List (Nat × Nat × Nat × Nat)),
    (m < 16) ∧ (s.dev.unreachable (Page.mac m + 0x20) = none) ∧ (((s.dev.wmbSelect (Page.mac m) 0x30).macOf m).stamps = (tag, sec, ns, frac) :: rest) ∧ (s.dev.asleep req = false) :=
  ⟨Test.ready (fun d => d.setMac 3 { stamps := [(1, 2, 3, 4)] }), .welbor, 3, 1, 2, 3, 4, [], by decide +kernel⟩
theorem witness_MacTransmitCommands_10 : ∃ (s : State) (req : Requester) (m : Nat) (v : Word),
    (m < 16) ∧ (s.dev.unreachable (Page.mac m + Reg.MAC_TX_START_BASE_BYTES.off) = none) ∧ (s.dev.asleep req = false) :=
  ⟨Test.ready id, .welbor, 3, 10#32, by decide +kernel⟩

theorem witness_LinkAndTranslationCommands_1 : ∃ (s : State) (port speed width : Nat) (flit : Bool),
    (s.dev.portExists port = true) ∧ ((s.dev.hostPort port).linkUp = false) ∧ (bitAt s.dev.pwr.perst port = false) ∧ (s.dev.domainOn 2 = true) ∧ (s.dev.linkGood speed width flit = true) :=
  ⟨Test.ready (fun d => { d with pwr := { d.pwr with perst := 0 }, hif := [] }), 0, 6, 16, true, by decide +kernel⟩
theorem witness_LinkAndTranslationCommands_2 : ∃ (s : State) (port : Nat),
    ((s.dev.hostPort port).linkUp = true) :=
  ⟨Test.ready id, 1, by decide +kernel⟩
theorem witness_LinkAndTranslationCommands_3 : ∃ (s : State) (port pf : Nat),
    (s.dev.portExists port = true) ∧ (pf < 2) ∧ ((s.dev.hostPort port).linkUp = true) :=
  ⟨Test.ready id, 0, 1, by decide +kernel⟩
theorem witness_LinkAndTranslationCommands_4 : ∃ (s : State) (port : Nat) (d3 : Bool),
    (s.dev.portExists port = true) :=
  ⟨State.reset, 0, true, by decide +kernel⟩
theorem witness_LinkAndTranslationCommands_5 : ∃ (s : State) (port pf pasid range : Nat) (v : Invalidation),
    ((s.dev.hostPort port).linkUp = true) ∧ (({ pf := pf, pasid := pasid, page := range / 2, log2 := lowOnes 53 range } : Invalidation) = v) :=
  ⟨Test.ready id, 0, 1, 7, 10, _, ⟨by decide +kernel, rfl⟩⟩
theorem witness_LinkAndTranslationCommands_6 : ∃ (s : State) (port : Nat) (t : Invalidation) (rest : List Invalidation),
    ((s.dev.hostPort port).invalidations = t :: rest) ∧ (t.reads.any (fun r => s.dev.readOpen port r.1 && s.dev.readMark r.1 == r.2) = false) :=
  ⟨Test.ready (fun d => d.setHostPort 0 { invalidations := [{ pf := 1, pasid := 2, page := 3 }] }), 0, { pf := 1, pasid := 2, page := 3 }, [], by decide +kernel⟩
theorem witness_LinkAndTranslationCommands_7 : ∃ (s : State) (port group : Nat) (t : ReadTarget) (d : Dev),
    (s.dev.takeGroup port group = some (t, d)) :=
  ⟨Test.ready (fun d => d.setHostPort 0 { pageRequests := [(4, .mover 1)] }), 0, 4, .mover 1, (Test.ready (fun d => d.setHostPort 0 {})).dev, by decide +kernel⟩
theorem witness_LinkAndTranslationCommands_8 : ∃ (s : State) (port : Nat) (target : ReadTarget),
    (s.dev.readOpen port target = true) :=
  ⟨Test.ready (fun d => d.setMover 3 { fetched := true, control := 2 }), 0, .mover 3, by decide +kernel⟩
theorem witness_LinkAndTranslationCommands_9 : ∃ (s : State) (port q : Nat),
    (s.dev.readOpen port (.fetch q) = true) :=
  ⟨Test.ready (fun d => d.setQueue 3 { state := .run, sqPi := 1 }), 0, 3, by decide +kernel⟩
theorem witness_LinkAndTranslationCommands_10 : ∃ (s : State) (port m : Nat),
    (s.dev.readOpen port (.mover m) = true) :=
  ⟨Test.ready (fun d => d.setMover 3 { fetched := true, control := 2 }), 0, 3, by decide +kernel⟩
theorem witness_LinkAndTranslationCommands_11 : ∃ (s : State) (port v : Nat),
    (s.dev.portExists port = true) ∧ (v < 2048) :=
  ⟨Test.ready id, 0, 2047, by decide +kernel⟩

theorem witness_SliceWindowCommands_1 : ∃ (s : State) (port : Nat) (o : PortOp),
    (s.dev.portRunning (portSit port) 1 = some o) ∧ ((s.dev.slice (bits (wordAt o.buf 0) 4 12)).state = .active) ∧ ((s.dev.slice (bits (wordAt o.buf 0) 4 12)).hostPort = port) ∧ ((s.dev.slice (bits (wordAt o.buf 0) 4 12)).isLocked = false) :=
  ⟨Test.ready (fun d => (d.setSlice 0 { state := .active }).setPort (Page.hif 0) { run := some ⟨.manager 0 0, 1, []⟩ }), 0, ⟨.manager 0 0, 1, []⟩, by decide +kernel⟩
theorem witness_SliceWindowCommands_2 : ∃ (s : State) (port n e : Nat) (o : PortOp),
    (s.dev.portRunning (portSit port) 2 = some o) ∧ (bits (wordAt o.buf 0) 4 12 = n) ∧ (bits (wordAt o.buf 0) 0 4 = e) ∧ ((s.dev.slice n).state = .active) ∧ ((s.dev.slice n).hostPort = port) ∧ ((s.dev.slice n).isLocked = false) :=
  ⟨Test.ready (fun d => (d.setSlice 0 { state := .active }).setPort (Page.hif 0) { run := some ⟨.manager 0 0, 2, []⟩ }), 0, 0, 0, ⟨.manager 0 0, 2, []⟩, by decide +kernel⟩
theorem witness_SliceWindowCommands_3 : ∃ (s : State) (port n e : Nat) (o : PortOp),
    (s.dev.portRunning (portSit port) 3 = some o) ∧ (bits (wordAt o.buf 0) 4 12 = n) ∧ (bits (wordAt o.buf 0) 0 4 = e) ∧ ((s.dev.slice n).state = .active) ∧ ((s.dev.slice n).hostPort = port) :=
  ⟨Test.ready (fun d => (d.setSlice 0 { state := .active }).setPort (Page.hif 0) { run := some ⟨.manager 0 0, 3, []⟩ }), 0, 0, 0, ⟨.manager 0 0, 3, []⟩, by decide +kernel⟩
theorem witness_SliceWindowCommands_4 : ∃ (s : State) (slice entry stamp : Nat),
    (slice < 4096) ∧ (entry < 16) ∧ ((s.dev.sitEntry slice entry).valid = true) ∧ (s.dev.deliverable slice (s.dev.sitEntry slice entry).incarnation (some (slice, stamp)) = true) :=
  ⟨Test.ready (fun d => d.setSit 4095 15 { valid := true }), 4095, 15, 0, by decide +kernel⟩
theorem witness_SliceWindowCommands_5 : ∃ (s : State) (slice entry : Nat) (mask : Bool),
    (slice < 4096) ∧ (entry < 16) ∧ ((s.dev.slice slice).state = .active) :=
  ⟨Test.ready (fun d => d.setSlice 4095 { state := .active }), 4095, 15, false, by decide +kernel⟩
theorem witness_SliceWindowCommands_6 : ∃ (s : State) (port slice offset rid : Nat) (value : Word) (be : BitVec 4) (stream : Option Nat) (tbit : Bool),
    (s.dev.fnReady port 1 = true) ∧ (s.dev.onInsecure port stream = false) ∧ (slice < 4096) ∧ (offset < 0x10000) ∧ (s.dev.windowOutcome port slice rid stream tbit = 0) :=
  ⟨Test.ready (fun d => d.setSlice 4095 { state := .active }), 0, 4095, 0xFFFC, 0, 0#32, 15#4, none, false, by decide +kernel⟩
theorem witness_SliceWindowCommands_7 : ∃ (s : State) (port slice offset rid : Nat) (value : Word) (be : BitVec 4) (stream : Option Nat) (tbit : Bool),
    (s.dev.fnReady port 1 = true) ∧ (s.dev.onInsecure port stream = false) ∧ (slice < 4096) ∧ (offset < 0x10000) ∧ (s.dev.windowOutcome port slice rid stream tbit = 1) :=
  ⟨Test.ready id, 0, 4095, 0xFFFC, 0, 0#32, 15#4, none, false, by decide +kernel⟩
theorem witness_SliceWindowCommands_8 : ∃ (s : State) (port slice offset rid : Nat) (value : Word) (be : BitVec 4) (stream : Option Nat) (tbit : Bool),
    (s.dev.fnReady port 1 = true) ∧ (s.dev.onInsecure port stream = false) ∧ (slice < 4096) ∧ (offset < 0x10000) ∧ (s.dev.windowOutcome port slice rid stream tbit = 2) :=
  ⟨Test.ready (fun d => d.setSlice 4095 { state := .active, tdi := .error }), 0, 4095, 0xFFFC, 0, 0#32, 15#4, none, false, by decide +kernel⟩
theorem witness_SliceWindowCommands_9 : ∃ (s : State) (port stream : Nat),
    ((s.dev.hostPort port).ideState stream = .secure) :=
  ⟨Test.ready (fun d => d.setHostPort 0 { ide := [(1, .secure)] }), 0, 1, by decide +kernel⟩
theorem witness_SliceWindowCommands_10 : ∃ (s : State) (slice stream : Nat),
    ((s.dev.slice slice).tdi = .unlocked) ∧ ((s.dev.slice slice).state = .active) ∧ (bitAt ((s.dev.slice slice).word 0) 30 = true) ∧ (s.dev.queuesIdle slice = true) ∧ ((s.dev.slice slice).keyUsed = 0) ∧ (s.dev.ownsTransport slice = false) ∧ (1 ≤ stream) ∧ (stream ≤ 8) :=
  ⟨Test.ready (fun d => d.setSlice 5 { state := .active, charter := [0x40000000#32] }), 5, 8, by decide +kernel⟩
theorem witness_SliceWindowCommands_11 : ∃ (s : State) (slice : Nat),
    ((s.dev.slice slice).tdi = .locked) :=
  ⟨Test.ready (fun d => d.setSlice 5 { tdi := .locked }), 5, by decide +kernel⟩
theorem witness_SliceWindowCommands_12 : ∃ (s : State) (slice : Nat),
    ((s.dev.slice slice).state = .active) :=
  ⟨Test.ready (fun d => d.setSlice 5 { state := .active }), 5, by decide +kernel⟩
theorem witness_SliceWindowCommands_13 : ∃ (s : State) (session port stream : Nat),
    (s.dev.doeSession session port = true) ∧ (stream ≤ 8) :=
  ⟨Test.ready (fun d => { d with wel := { d.wel with sessions := [(1, some { via := .pf0 0, finished := true })] } }), 1, 0, 8, by decide +kernel⟩
theorem witness_SliceWindowCommands_14 : ∃ (s : State) (session port stream : Nat),
    (s.dev.doeSession session port = true) ∧ (stream ≤ 8) ∧ ((s.dev.hostPort port).ideState stream = .keyed) :=
  ⟨Test.ready (fun d => ({ d with wel := { d.wel with sessions := [(1, some { via := .pf0 0, finished := true })] } } : Dev).setHostPort 0 ((d.hostPort 0).setIde 8 .keyed)), 1, 0, 8, by decide +kernel⟩

theorem witness_SliceCommands_1 : ∃ (s : State) (o : PortOp),
    (s.dev.portRunning portSlc 1 = some o) ∧ ((s.dev.slice (bits o.word 0 12)).state = .free) ∧ (charterGood (bits o.word 0 12) (o.buf.map (·.toNat)) = true) ∧ (charterPort (o.buf.map (·.toNat)) = 0) ∧ (s.dev.pasidFree (bits o.word 0 12) 0 (charterPasid (o.buf.map (·.toNat))) = true) :=
  ⟨Test.ready (fun d => d.setPort Page.slc { run := some ⟨.welbor, 0x1000000, [1, 0, 0, 0, 1]⟩ }), ⟨.welbor, 0x1000000, [1, 0, 0, 0, 1]⟩, by decide +kernel⟩
theorem witness_SliceCommands_2 : ∃ (s : State) (o : PortOp) (w : List Nat) (n : Nat),
    (s.dev.portRunning portSlc 2 = some o) ∧ (o.buf.map (·.toNat) = w) ∧ (bits o.word 0 12 = n) ∧ ((s.dev.slice n).state = .active) ∧ (charterGood n w = true) ∧ (charterPort w = 0) ∧ ((s.dev.slice n).isLocked = false) ∧ ((s.dev.slice n).hostPort = 0) ∧ ((s.dev.slice n).pasid = charterPasid w) ∧ (s.dev.pasidFree n 0 (charterPasid w) = true) ∧ (s.dev.lowered n ((s.dev.slice n).charter.map (·.toNat)) w = false) :=
  ⟨Test.ready (fun d => (d.setSlice 0 { state := .active, charter := [1, 0, 0, 0, 1] }).setPort Page.slc { run := some ⟨.welbor, 0x2000000, [1, 0, 0, 0, 1]⟩ }), ⟨.welbor, 0x2000000, [1, 0, 0, 0, 1]⟩, [1, 0, 0, 0, 1], 0, by decide +kernel⟩
theorem witness_SliceCommands_3 : ∃ (s : State) (o : PortOp),
    (s.dev.portRunning portSlc 3 = some o) ∧ ((s.dev.slice (bits o.word 0 12)).state = .active) :=
  ⟨Test.ready (fun d => (d.setSlice 0 { state := .active }).setPort Page.slc { run := some ⟨.welbor, 0x3000000, []⟩ }), ⟨.welbor, 0x3000000, []⟩, by decide +kernel⟩
theorem witness_SliceCommands_4 : ∃ (s : State) (o : PortOp),
    (s.dev.portRunning portSlc 4 = some o) :=
  ⟨Test.ready (fun d => d.setPort Page.slc { run := some ⟨.welbor, 0x4000000, []⟩ }), ⟨.welbor, 0x4000000, []⟩, by decide +kernel⟩
theorem witness_SliceCommands_5 : ∃ (s : State) (slice : Nat),
    ((s.dev.slice slice).state = .destroying) :=
  ⟨Test.ready (fun d => d.setSlice 4095 { state := .destroying }), 4095, by decide +kernel⟩
theorem witness_SliceCommands_6 : ∃ (s : State) (slice : Nat),
    ((s.dev.slice slice).state = .quarantine) ∧ ((s.dev.slice slice).inflight = 0) ∧ ((s.dev.slice slice).tblUsed = 0) ∧ ((s.dev.slice slice).keyUsed = 0) ∧ ((s.dev.slice slice).queuesUsed = 0) ∧ ((s.dev.slice slice).destroyedAt + s.dev.fget Page.slc Reg.SLC_QUAR_MIN_MS * 1000000 ≤ s.dev.now) :=
  ⟨Test.ready (fun d => { d with now := 2 ^ 60 }.setSlice 4095 { state := .quarantine }), 4095, by decide +kernel⟩
theorem witness_SliceCommands_7 : ∃ (s : State) (slice counter : Nat),
    (counter < 4) ∧ ((s.dev.slice slice).state = .active) :=
  ⟨Test.ready (fun d => d.setSlice 0 { state := .active }), 0, 3, by decide +kernel⟩

theorem witness_QueueCommandsComplete_1 : ∃ (s : State) (o : PortOp) (q : Nat) (w : List Nat),
    (s.dev.portRunning portQue 1 = some o) ∧ (bits o.word 0 16 = q) ∧ ((List.range 16).map (wordAt o.buf) = w) ∧ ((s.dev.queue q).state = .free) ∧ (Ctx.mgr w = true) ∧ (s.dev.ctxMalformed w = false) :=
  ⟨Test.ready (fun d => d.setPort Page.que { run := some ⟨.manager 0 0, 0x1000003, [0x60601, 0x1000]⟩ }), ⟨.manager 0 0, 0x1000003, [0x60601, 0x1000]⟩, 3, [0x60601, 0x1000, 0, 0, 0, 0, 0, 0, 0, 0, 0, 0, 0, 0, 0, 0], by decide +kernel⟩
theorem witness_QueueCommandsComplete_2 : ∃ (s : State) (o : PortOp) (q : Nat) (w : List Nat),
    (s.dev.portRunning portQue 2 = some o) ∧ (bits o.word 0 16 = q) ∧ ((List.range 16).map (wordAt o.buf) = w) ∧ ((s.dev.queue q).state ≠ .free) ∧ (s.dev.qManager q = true) ∧ (s.dev.ctxMalformed w = false) ∧ (ctxFixed w = ctxFixed (s.dev.ctxWords q)) :=
  ⟨Test.ready (fun d => (((d.gsetWord 0 0x60601).gsetWord 4 0x1000).setQueue 0 { state := .idle }).setPort Page.que { run := some ⟨.manager 0 0, 0x2000000, [0x60601, 0x1000]⟩ }), ⟨.manager 0 0, 0x2000000, [0x60601, 0x1000]⟩, 0, [0x60601, 0x1000, 0, 0, 0, 0, 0, 0, 0, 0, 0, 0, 0, 0, 0, 0], by decide +kernel⟩
theorem witness_QueueCommandsComplete_3 : ∃ (s : State) (o : PortOp),
    (s.dev.portRunning portQue 3 = some o) ∧ ((s.dev.queue (bits o.word 0 16)).state = .idle) ∧ (s.dev.qManager (bits o.word 0 16) = true) :=
  ⟨Test.ready (fun d => ((d.gsetWord 4 0x1000).setQueue 0 { state := .idle }).setPort Page.que { run := some ⟨.manager 0 0, 0x3000000, []⟩ }), ⟨.manager 0 0, 0x3000000, []⟩, by decide +kernel⟩
theorem witness_QueueCommandsComplete_4 : ∃ (s : State) (o : PortOp),
    (s.dev.portRunning portQue 4 = some o) :=
  ⟨Test.ready (fun d => d.setPort Page.que { run := some ⟨.manager 0 0, 0x4000000, []⟩ }), ⟨.manager 0 0, 0x4000000, []⟩, by decide +kernel⟩
theorem witness_QueueCommandsComplete_5 : ∃ (s : State) (port queue q : Nat) (owner : Option Nat) (value : BitVec 17),
    (s.dev.doorbellOpen port owner = true) ∧ (s.dev.doorbellQueue port owner queue = some q) ∧ ((rebuildIndex (s.dev.queue q).sqPi value.toNat + 2 ^ 32 - (s.dev.queue q).sqCi) % 2 ^ 32 ≤ s.dev.sqSize q) :=
  ⟨Test.ready (fun d => (((d.gsetWord 0 0x60601).gsetWord 4 0x1000).setQueue 0 { state := .run })), 0, 0, 0, none, 64#17, by decide +kernel⟩
theorem witness_QueueCommandsComplete_6 : ∃ (s : State) (port queue q : Nat) (owner : Option Nat) (value : BitVec 17),
    (s.dev.doorbellOpen port owner = true) ∧ (s.dev.doorbellQueue port owner queue = some q) ∧ (((s.dev.queue q).cqPi + 2 ^ 32 - rebuildIndex (s.dev.queue q).cqCi value.toNat) % 2 ^ 32 ≤ ((s.dev.queue q).cqPi + 2 ^ 32 - (s.dev.queue q).cqCi) % 2 ^ 32) :=
  ⟨Test.ready (fun d => (((d.gsetWord 0 0x60601).gsetWord 4 0x1000).setQueue 0 { state := .run, cqPi := 3 })), 0, 0, 0, none, 3#17, by decide +kernel⟩
theorem witness_QueueCommandsComplete_7 : ∃ (s : State) (queue : Nat),
    (s.dev.qReady queue = true) ∧ ((s.dev.queue queue).state = .idle) :=
  ⟨Test.ready (fun d => d.setQueue 65535 { state := .idle }), 65535, by decide +kernel⟩
theorem witness_QueueCommandsComplete_8 : ∃ (s : State) (queue : Nat),
    (s.dev.qReady queue = true) ∧ ((s.dev.queue queue).state = .run) :=
  ⟨Test.ready (fun d => d.setQueue 65535 { state := .run }), 65535, by decide +kernel⟩
theorem witness_QueueCommandsComplete_9 : ∃ (s : State) (queue : Nat),
    (s.dev.qReady queue = true) ∧ ((s.dev.queue queue).state = .error) ∧ ((s.dev.queue queue).errCode ≠ QErr.context) :=
  ⟨Test.ready (fun d => d.setQueue 65535 { state := .error }), 65535, by decide +kernel⟩
theorem witness_QueueCommandsComplete_10 : ∃ (s : State) (queue : Nat) (r : Requester),
    (s.dev.unreachable (Page.que + Reg.QUE_QCTL_ENABLE.off) = none) ∧ (s.dev.qManager queue = true) ∧ (((s.dev.setQueue queue { s.dev.queue queue with enable := true }).queue queue).state = .idle) ∧ (s.dev.asleep r = false) :=
  ⟨Test.ready (fun d => (d.gsetWord 4 0x1000).setQueue 0 { state := .idle }), 0, .manager 0 0, by decide +kernel⟩
theorem witness_QueueCommandsComplete_11 : ∃ (s : State) (port queue q : Nat) (owner : Option Nat),
    (s.dev.doorbellOpen port owner = true) ∧ (s.dev.doorbellQueue port owner queue = some q) :=
  ⟨Test.ready (fun d => (((d.gsetWord 0 0x60601).gsetWord 4 0x1000).setQueue 0 { state := .run, cqPi := 3 })), 0, 0, 0, none, by decide +kernel⟩

theorem witness_QueueWorkCommands_1 : ∃ (s : State) (queue : Nat) (img desc : List Byte) (d d1 : Dev),
    (s.dev.mayFetch queue = true) ∧ (s.dev.lineUncorrectable (s.dev.ctxAddr queue) = false) ∧ (s.dev.hostFetch (s.dev.qPort queue) (s.dev.sqBase queue + (s.dev.queue queue).sqCi % s.dev.sqSize queue * 64) 64 (s.dev.qAttr queue false) = (img, d)) ∧ (s.dev.readsTable queue img = false) ∧ (d.fetchDesc queue img = (desc, d1)) :=
  ⟨Test.ready (fun d => (((d.gsetWord 0 0x60601).gsetWord 4 0x1000).setQueue 0 { state := .run, sqPi := 1 }).fset Page.que Hdr.enable 1), 0, _, _, _, _, ⟨by decide +kernel, by decide +kernel, rfl, by decide +kernel, rfl⟩⟩
theorem witness_QueueWorkCommands_2 : ∃ (s : State) (queue : Nat) (e : QueueEntry) (die deep : Nat),
    (s.dev.nextEntry queue 0x01 = some e) ∧ (s.dev.working queue = true) ∧ (s.dev.qReady queue = true) ∧ (s.dev.qType queue = typeTx) ∧ (sendMalformed e.head = false) ∧ (s.dev.accepts Page.cru = true) ∧ (s.dev.placeCells (cellsOf e.total) (s.dev.freeDie - s.dev.fget Page.cru Reg.CRU_RESERVE_CELLS) = .take die deep) ∧ (s.dev.heldByPrg (s.dev.qPort queue) (.entry queue e.index) = false) :=
  ⟨Test.ready (fun d => ((((d.gsetWord 0 0x60601).gsetWord 4 0x1000).setQueue 0 { state := .run, entries := [{ index := 0, opcode := 1, head := [1], frags := [(0, 64)], qgen := 0, incarnation := 0 }] }).fset Page.que Hdr.enable 1).fset Page.cru Hdr.enable 1), 0, { index := 0, opcode := 1, head := [1], frags := [(0, 64)], qgen := 0, incarnation := 0 }, 1, 0, by decide +kernel⟩
theorem witness_QueueWorkCommands_3 : ∃ (s : State) (queue : Nat) (e : QueueEntry),
    ((s.dev.queue queue).entries.find? (fun e => e.opcode == 0x10 && !e.accepted && e.ended.isNone) = some e) ∧ (s.dev.working queue = true) :=
  ⟨Test.ready (fun d => d.setQueue 9 { state := .run, entries := [{ index := 0, opcode := 0x10, head := [], frags := [], qgen := 0, incarnation := 0 }] }), 9, { index := 0, opcode := 0x10, head := [], frags := [], qgen := 0, incarnation := 0 }, by decide +kernel⟩
theorem witness_QueueWorkCommands_4 : ∃ (s : State) (queue : Nat) (p : Placement),
    (s.dev.working queue = true) ∧ (s.dev.qReady queue = true) ∧ ((s.dev.queue queue).placing = some p) ∧ (s.dev.qManager queue = true) :=
  ⟨Test.ready (fun d => (d.gsetWord 4 0x1000).setQueue 0 { state := .run, placing := some { copy := 1, bytes := [] } }), 0, { copy := 1, bytes := [] }, by decide +kernel⟩
theorem witness_QueueWorkCommands_5 : ∃ (s : State) (queue : Nat) (p : Placement),
    ((s.dev.queue queue).placing = some p) ∧ (p.hold = true) ∧ (s.dev.entryAvailable queue = false) :=
  ⟨Test.ready (fun d => d.setQueue 9 { state := .run, placing := some { copy := 1, bytes := [], hold := true } }), 9, { copy := 1, bytes := [], hold := true }, by decide +kernel⟩
theorem witness_QueueWorkCommands_6 : ∃ (s : State) (queue : Nat) (e : QueueEntry),
    (s.dev.nextEntry queue 0x20 = some e) ∧ (s.dev.working queue = true) ∧ (s.dev.qReady queue = true) ∧ (s.dev.qType queue = typeCipher) ∧ (cipherMalformed e = false) ∧ (s.dev.heldByPrg (s.dev.qPort queue) (.entry queue e.index) = false) :=
  ⟨Test.ready (fun d => ((d.gsetWord 0 0x60604).gsetWord 4 0x1000).setQueue 0 { state := .run, entries := [{ index := 0, opcode := 0x20, head := [0x20, 0, 0, 0, 1], frags := [(0, 64), (64, 64)], qgen := 0, incarnation := 0 }] }), 0, { index := 0, opcode := 0x20, head := [0x20, 0, 0, 0, 1], frags := [(0, 64), (64, 64)], qgen := 0, incarnation := 0 }, by decide +kernel⟩
theorem witness_QueueWorkCommands_7 : ∃ (s : State) (queue : Nat) (c : Completion) (rest : List Completion) (w : Nat) (ws : List Nat) (d : Dev),
    ((s.dev.takeSent queue).abortUnfetched queue = d) ∧ ((d.queue queue).backlog = c :: rest) ∧ (c.words = w :: ws) ∧ (d.journalReached c.journal = true) ∧ ((d.queue queue).state = .run) ∧ (c.qgen = (d.queue queue).qgen) ∧ (d.qManager queue = true) ∧ (d.cqFull queue = false) ∧ (d.qReady queue = true) :=
  ⟨Test.ready (fun d => (d.gsetWord 4 0x1000).setQueue 0 { state := .run, backlog := [{ words := [7], qgen := 0, incarnation := 0 }] }), 0, { words := [7], qgen := 0, incarnation := 0 }, [], 7, [], (Test.ready (fun d => (d.gsetWord 4 0x1000).setQueue 0 { state := .run, backlog := [{ words := [7], qgen := 0, incarnation := 0 }] })).dev, by decide +kernel⟩
theorem witness_QueueWorkCommands_8 : ∃ (s : State) (queue t : Nat),
    ((s.dev.queue queue).irqFrom = some t) ∧ (s.dev.qIrqEn queue = true) ∧ (s.dev.qIrqUs queue ≠ 0) ∧ (t + s.dev.qIrqUs queue * 1000 ≤ s.dev.now) :=
  ⟨Test.ready (fun d => ({ d with now := 10000000000 }.gsetWord 0 0x20 |>.gsetWord 28 5).setQueue 0 { irqFrom := some 3 }), 0, 3, by decide +kernel⟩
theorem witness_QueueWorkCommands_9 : ∃ (s : State) (page : Nat) (i : PortInfo) (req : Requester),
    (portOf page = some i) ∧ ((s.dev.port i.page).run = none) ∧ ((s.dev.port i.page).held = some req) :=
  ⟨Test.ready (fun d => d.setPort Page.sto { held := some .welbor }), Page.sto, portSto, .welbor, by decide +kernel⟩

theorem witness_MoverCommands_1 : ∃ (s : State) (req : Requester) (mover : Nat),
    (req.isManager = false) ∧ (s.dev.unreachable (Page.blp mover + Reg.BLP_CTL_GO.off) = none) ∧ (s.dev.accepts (Page.blp mover) = true) ∧ (s.dev.moverState mover ≠ moverRun) ∧ (s.dev.moverState mover ≠ moverWait) ∧ (s.dev.asleep req = false) :=
  ⟨Test.ready (fun d => d.fset (Page.blp 63) Hdr.enable 1), .welbor, 63, by decide +kernel⟩
theorem witness_MoverCommands_2 : ∃ (s : State) (req : Requester) (mover : Nat),
    (req.isManager = false) ∧ (s.dev.unreachable (Page.blp mover + Reg.BLP_CTL_GO.off) = none) ∧ (s.dev.accepts (Page.blp mover) = true) ∧ (s.dev.moverState mover = moverRun ∨ s.dev.moverState mover = moverWait) ∧ (s.dev.asleep req = false) :=
  ⟨Test.ready (fun d => (d.fset (Page.blp 0) Hdr.enable 1).fset (Page.blp 0) Reg.BLP_STAT_STATE 2), .firmware 0, 0, by decide +kernel⟩
theorem witness_MoverCommands_3 : ∃ (s : State) (req : Requester) (mover : Nat),
    (req.isManager = false) ∧ (s.dev.unreachable (Page.blp mover + Reg.BLP_CTL_STOP.off) = none) ∧ (s.dev.moverState mover = moverRun ∨ s.dev.moverState mover = moverWait) ∧ ((s.dev.mover mover).acks.any (·.1) = false) ∧ (s.dev.asleep req = false) :=
  ⟨Test.ready (fun d => d.fset (Page.blp 0) Reg.BLP_STAT_STATE 1), .firmware 0, 0, by decide +kernel⟩
theorem witness_MoverCommands_4 : ∃ (s : State) (mover : Nat),
    (s.dev.accepts (Page.blp mover) = true) ∧ (s.dev.fbit (Page.blp mover) Reg.BLP_CTL_TRIG_EN = true) ∧ (s.dev.fbit (Page.blp mover) Reg.BLP_STAT_TRIG_PEND = false) :=
  ⟨Test.ready (fun d => (d.fset (Page.blp 5) Hdr.enable 1).fset (Page.blp 5) Reg.BLP_CTL_TRIG_EN 1), 5, by decide +kernel⟩
theorem witness_MoverCommands_5 : ∃ (s : State) (mover src dst len control nxt : Nat),
    (s.dev.moverState mover = moverRun) ∧ ((s.dev.mover mover).fetched = false) ∧ ((s.dev.mover mover).acks = []) ∧ (s.dev.fget (Page.blp mover) Reg.BLP_DESC_MAX_MAX = 0) ∧ ((s.dev.mover mover).nextDesc % 2 = 0) ∧ ((s.dev.mover mover).nextDesc / 32 * 32 + 32 ≤ spaceEnd 0) ∧ (s.dev.inDeepCrucible ((s.dev.mover mover).nextDesc / 32 * 32) 32 = false) ∧ (s.dev.spaceUe 0 ((s.dev.mover mover).nextDesc / 32 * 32) 32 = false) ∧ (ofLe (cut (s.dev.gread ((s.dev.mover mover).nextDesc / 32 * 32) 32) 0 8) = src) ∧ (ofLe (cut (s.dev.gread ((s.dev.mover mover).nextDesc / 32 * 32) 32) 8 8) = dst) ∧ (ofLe (cut (s.dev.gread ((s.dev.mover mover).nextDesc / 32 * 32) 32) 16 4) = len) ∧ (ofLe (cut (s.dev.gread ((s.dev.mover mover).nextDesc / 32 * 32) 32) 20 4) = control) ∧ (ofLe (cut (s.dev.gread ((s.dev.mover mover).nextDesc / 32 * 32) 32) 24 8) = nxt) ∧ (descMalformed s.dev.split src dst len control nxt = false) ∧ (s.dev.inDeepCrucible src len = false) ∧ (s.dev.inDeepCrucible dst len = false) ∧ (ctlDstSpace control ≠ 4) :=
  ⟨Test.ready (fun d => ((d.fset (Page.blp 0) Reg.BLP_STAT_STATE 1).gsetNum 16 4 64).gsetNum 20 4 0x410 |>.gsetNum 24 8 1), 0, 0, 0, 64, 0x410, 1, by decide +kernel⟩
theorem witness_MoverCommands_6 : ∃ (s : State) (mover : Nat) (portReady : Bool) (answer : HostAnswer),
    ((s.dev.mover mover).fetched = true) ∧ (s.dev.moverState mover = moverRun) ∧ (ctlDstSpace (s.dev.mover mover).control ≠ 4) ∧ (s.dev.burstError (s.dev.mover mover) ((s.dev.mover mover).len - s.dev.fget (Page.blp mover) Reg.BLP_REMAIN_BYTES) (burstLen (if ctlFill (s.dev.mover mover).control then (s.dev.mover mover).len - s.dev.fget (Page.blp mover) Reg.BLP_REMAIN_BYTES else (s.dev.mover mover).src + ((s.dev.mover mover).len - s.dev.fget (Page.blp mover) Reg.BLP_REMAIN_BYTES)) (s.dev.fget (Page.blp mover) Reg.BLP_REMAIN_BYTES)) = none) ∧ (s.dev.moverSource (s.dev.mover mover).control = none) ∧ (burstLen (if ctlFill (s.dev.mover mover).control then (s.dev.mover mover).len - s.dev.fget (Page.blp mover) Reg.BLP_REMAIN_BYTES else (s.dev.mover mover).src + ((s.dev.mover mover).len - s.dev.fget (Page.blp mover) Reg.BLP_REMAIN_BYTES)) (s.dev.fget (Page.blp mover) Reg.BLP_REMAIN_BYTES) < s.dev.fget (Page.blp mover) Reg.BLP_REMAIN_BYTES) :=
  ⟨Test.ready (fun d => ((d.fset (Page.blp 0) Reg.BLP_STAT_STATE 1).fset (Page.blp 0) Reg.BLP_REMAIN_BYTES 1024).setMover 0 { fetched := true, dst := 4096, len := 1024, control := 0x400 }), 0, true, .data, by decide +kernel⟩
theorem witness_MoverCommands_7 : ∃ (s : State) (mover : Nat) (pulse : Bool) (rest : List (Bool × Bool)),
    ((s.dev.mover mover).acks = (true, pulse) :: rest) ∧ (((((s.dev.setMover mover { s.dev.mover mover with acks := rest }).wcount (Page.blp mover) 2).setMoverState mover moverIdle).pulse (384 + mover)).fbit (Page.blp mover) Reg.BLP_STAT_TRIG_PEND = false) :=
  ⟨Test.ready (fun d => d.setMover 2 { acks := [(true, false)] }), 2, false, [], by decide +kernel⟩

theorem witness_EventSourceCommands_1 : ∃ (s : State) (source : Nat),
    (isLevel source = false) ∧ (isReserved source = false) ∧ (s.dev.wakeEnabled source = false) ∧ (s.dev.domainOn 1 = true) ∧ (s.dev.pend source = false) :=
  ⟨Test.ready id, 16, by decide +kernel⟩
theorem witness_EventSourceCommands_2 : ∃ (s : State) (source : Nat),
    (isLevel source = false) ∧ (isReserved source = false) ∧ (s.dev.wakeEnabled source = false) ∧ (s.dev.domainOn 1 = true) ∧ (s.dev.pend source = true) :=
  ⟨Test.ready (fun d => d.setPend 16 true), 16, by decide +kernel⟩
theorem witness_EventSourceCommands_3 : ∃ (s : State) (source : Nat),
    (isLevel source = true) :=
  ⟨Test.ready id, 0, by decide +kernel⟩
theorem witness_EventSourceCommands_4 : ∃ (s : State) (req : Requester) (word : Nat) (mask : Word),
    (word < 16) ∧ (s.dev.unreachable (Page.evtState + 0x140 + 4 * word) = none) ∧ (s.dev.asleep req = false) :=
  ⟨Test.ready id, .manager 0 0, 3, 1#32, by decide +kernel⟩
theorem witness_EventSourceCommands_5 : ∃ (s : State) (req : Requester) (source : Nat),
    (source < 512) ∧ (s.dev.unreachable (routePage source + (routeFld Reg.EVT_RTB_MASK source).off) = none) ∧ (s.dev.masked source = true) ∧ (s.dev.asleep req = false) :=
  ⟨Test.ready id, .welbor, 7, by decide +kernel⟩
theorem witness_EventSourceCommands_6 : ∃ (s : State) (req : Requester) (events : BitVec 16),
    (s.dev.unreachable (Page.evtg + Reg.EVTG_SWSET_SW.off) = none) ∧ (s.dev.asleep req = false) :=
  ⟨Test.ready id, .welbor, 1#16, by decide +kernel⟩

theorem witness_BoardInputCommands_1 : ∃ (s : State) (input : Nat),
    (input < 4) ∧ ((s.dev.bin input).active = false) ∧ (s.dev.fbit Page.evtAon (binStuckFld input) = false) ∧ ((s.dev.bin input).needsInactive = false) ∧ (s.dev.inHoldoff input = false) :=
  ⟨State.reset, 3, by decide +kernel⟩
theorem witness_BoardInputCommands_2 : ∃ (s : State) (input : Nat),
    (input < 4) ∧ ((s.dev.bin input).active = false) ∧ (s.dev.fbit Page.evtAon (binStuckFld input) = false) ∧ ((s.dev.bin input).needsInactive = false) ∧ (s.dev.inHoldoff input = true) :=
  ⟨Test.ready (fun d => { (d.setBin 3 { lastAccepted := some 0 }).fset Page.evtAon (binCfg Reg.EVT_BIN_CFG_HOLDOFF 3) 1 with now := 999 }), 3, by decide +kernel⟩
theorem witness_BoardInputCommands_3 : ∃ (s : State) (input : Nat),
    (input < 4) ∧ ((s.dev.bin input).active = false) ∧ ((s.dev.bin input).needsInactive = true) :=
  ⟨Test.ready (fun d => d.setBin 0 { needsInactive := true }), 0, by decide +kernel⟩
theorem witness_BoardInputCommands_4 : ∃ (s : State) (input : Nat),
    (input < 4) ∧ ((s.dev.bin input).active = true) ∧ ((s.dev.bin input).timing = true) ∧ (s.dev.fget Page.evtAon (binCfg Reg.EVT_BIN_STUCK_STUCK input) ≠ 0) :=
  ⟨Test.ready (fun d => d.setBin 3 { active := true, timing := true }), 3, by decide +kernel⟩
theorem witness_BoardInputCommands_5 : ∃ (s : State) (req : Requester) (mask : BitVec 4),
    (s.dev.unreachable (Page.evtAon + Reg.EVT_BIN_STAT_STUCK.off) = none) ∧ (s.dev.asleep req = false) :=
  ⟨State.reset, .welbor, 15#4, by decide +kernel⟩
theorem witness_BoardInputCommands_6 : ∃ (s : State) (input : Nat),
    (input < 4) :=
  ⟨State.reset, 3, by decide +kernel⟩

theorem witness_MailboxCommands_1 : ∃ (s : State) (req : Requester) (box : MailEnd) (base : Nat) (pasid : Option Nat),
    (mailExists box = true) ∧ (mailBase box = some base) ∧ (s.dev.mailAllows req box = true) ∧ (s.dev.unreachable (base + 0x40) = none) ∧ (s.dev.mailRoom box = true) ∧ (s.dev.asleep req = false) :=
  ⟨Test.ready id, .manager 1 0, .manager 31, Page.mbx 31 + 0x100, none, by decide +kernel⟩
theorem witness_MailboxCommands_2 : ∃ (s : State) (req : Requester) (box : MailEnd) (base : Nat) (pasid : Option Nat),
    (mailExists box = true) ∧ (mailBase box = some base) ∧ (s.dev.mailAllows req box = true) ∧ (s.dev.unreachable (base + 0x40) = none) ∧ (s.dev.mailRoom box = false) ∧ (s.dev.asleep req = false) :=
  ⟨Test.ready (fun d => d.setMailBox (.firmware 31) { queue := List.replicate 16 ⟨[], 0⟩ }), .manager 1 0, .manager 31, Page.mbx 31 + 0x100, none, by decide +kernel⟩
theorem witness_MailboxCommands_3 : ∃ (s : State) (port rid n : Nat) (pasid : Option Nat),
    (n < 4096) ∧ (s.dev.domainOn 0 = true) ∧ ((s.dev.slice n).state = .active) ∧ (s.dev.mailRoom (.tenant n) = true) :=
  ⟨Test.ready (fun d => d.setSlice 4095 { state := .active }), 0, 9, 4095, some 3, by decide +kernel⟩
theorem witness_MailboxCommands_4 : ∃ (s : State) (n inc : Nat) (w : List Nat) (rest : List (Nat × List Nat)) (d : Dev),
    (n < 4096) ∧ (s.dev.domainOn 0 = true) ∧ ((s.dev.channel n).chunks = (inc, w) :: rest) ∧ (s.dev.deliverable n (s.dev.channel n).incarnation (some (n, inc)) = true) ∧ (s.dev.setMailBox (.welbor n) { s.dev.mailBox (.welbor n) with tx := w } = d) ∧ (d.mailRoom (.welbor n) = true) :=
  ⟨Test.ready (fun d => d.setChannel 4095 { chunks := [(0, [1])] }), 4095, 0, [1], [], _, ⟨by decide +kernel, by decide +kernel, by decide +kernel, by decide +kernel, rfl, by decide +kernel⟩⟩
theorem witness_MailboxCommands_5 : ∃ (s : State) (req : Requester) (c base : Nat) (m : Message) (rest : List Message),
    (mailExists (.manager c) = true) ∧ (mailBase (.manager c) = some base) ∧ (s.dev.mailAllows req (.manager c) = true) ∧ (s.dev.unreachable (base + 0x48) = none) ∧ ((s.dev.mailBox (.manager c)).queue = m :: rest) ∧ (s.dev.asleep req = false) :=
  ⟨Test.ready (fun d => d.setMailBox (.manager 31) { queue := [⟨[], 0⟩] }), .manager 1 0, 31, Page.mbx 31 + 0x100, ⟨[], 0⟩, [], by decide +kernel⟩
theorem witness_MailboxCommands_6 : ∃ (s : State) (req : Requester) (c base : Nat) (m : Message) (rest : List Message),
    (mailExists (.x c) = true) ∧ (mailBase (.x c) = some base) ∧ (s.dev.mailAllows req (.x c) = true) ∧ (s.dev.unreachable (base + 0x48) = none) ∧ ((s.dev.mailBox (.x c)).queue = m :: rest) ∧ (s.dev.asleep req = false) :=
  ⟨Test.ready (fun d => d.setMailBox (.x 3) { queue := [⟨[], 0⟩] }), .firmware 3, 3, Page.mbx 3 + 0x300, ⟨[], 0⟩, [], by decide +kernel⟩
theorem witness_MailboxCommands_7 : ∃ (s : State) (req : Requester) (c base : Nat) (m : Message) (rest : List Message),
    (mailExists (.y c) = true) ∧ (mailBase (.y c) = some base) ∧ (s.dev.mailAllows req (.y c) = true) ∧ (s.dev.unreachable (base + 0x48) = none) ∧ ((s.dev.mailBox (.y c)).queue = m :: rest) ∧ (s.dev.asleep req = false) :=
  ⟨Test.ready (fun d => d.setMailBox (.y 13) { queue := [⟨[], 0⟩] }), .welbor, 13, Page.mbx 13 + 0x400, ⟨[], 0⟩, [], by decide +kernel⟩
theorem witness_MailboxCommands_8 : ∃ (s : State) (req : Requester) (c : Nat) (m : Message) (rest : List Message),
    (c < 32) ∧ (s.dev.mailAllows req (.firmware c) = true) ∧ (s.dev.unreachable (Page.mbx c + 0x200 + 0x48) = none) ∧ ((s.dev.mailBox (.firmware c)).queue = m :: rest) ∧ (s.dev.asleep req = false) :=
  ⟨Test.ready (fun d => d.setMailBox (.firmware 31) { queue := [⟨[0x10777], 0⟩] }), .firmware 0, 31, ⟨[0x10777], 0⟩, [], by decide +kernel⟩
theorem witness_MailboxCommands_9 : ∃ (s : State) (n : Nat) (m : Message) (rest : List Message),
    (n < 4096) ∧ (s.dev.domainOn 0 = true) ∧ ((s.dev.mailBox (.welbor n)).queue = m :: rest) :=
  ⟨Test.ready (fun d => d.setMailBox (.welbor 4095) { queue := [⟨[1], 0⟩] }), 4095, ⟨[1], 0⟩, [], by decide +kernel⟩
theorem witness_MailboxCommands_10 : ∃ (s : State) (c : Nat) (m : Message) (d : Dev) (n : Nat) (img : List Word) (e : Dev) (code : Nat),
    (s.dev.fwRequest c 0x0101 = some m) ∧ (s.dev.mailPop (.firmware c) = d) ∧ (s.dev.portFree portSlc = true) ∧ (m.field 16 2 % 4096 = n) ∧ (bytesWords 32 (d.hread m.port (m.field 8 8) 128) = img) ∧ (((d.hostFetch m.port (m.field 8 8) 128 {}).2.slcIssue 1 n img (fun d => Dev.sliceCreate d n (img.map (·.toNat)))).1 = code) ∧ (((d.hostFetch m.port (m.field 8 8) 128 {}).2.slcIssue 1 n img (fun d => Dev.sliceCreate d n (img.map (·.toNat)))).2 = e) :=
  ⟨Test.fwState [0x0101 + 2 ^ 16, 0, 0, 0, 7] (fun d => d), 0, ⟨[0x0101 + 2 ^ 16, 0, 0, 0, 7], 0⟩, _, 7, _, _, _, ⟨by decide +kernel, rfl, by decide +kernel, by decide +kernel, rfl, rfl, rfl⟩⟩
theorem witness_MailboxCommands_11 : ∃ (s : State) (c : Nat) (m : Message) (d : Dev) (n : Nat) (img : List Word) (e : Dev) (code : Nat),
    (s.dev.fwRequest c 0x0102 = some m) ∧ (s.dev.mailPop (.firmware c) = d) ∧ (s.dev.portFree portSlc = true) ∧ (m.field 16 2 % 4096 = n) ∧ (bytesWords 32 (d.hread m.port (m.field 8 8) 128) = img) ∧ (((d.hostFetch m.port (m.field 8 8) 128 {}).2.slcIssue 2 n img (fun d => Dev.sliceModify d n (img.map (·.toNat)))).1 = code) ∧ (((d.hostFetch m.port (m.field 8 8) 128 {}).2.slcIssue 2 n img (fun d => Dev.sliceModify d n (img.map (·.toNat)))).2 = e) :=
  ⟨Test.fwState [0x0102 + 2 ^ 16, 0, 0, 0, 7] (fun d => d), 0, ⟨[0x0102 + 2 ^ 16, 0, 0, 0, 7], 0⟩, _, 7, _, _, _, ⟨by decide +kernel, rfl, by decide +kernel, by decide +kernel, rfl, rfl, rfl⟩⟩
theorem witness_MailboxCommands_12 : ∃ (s : State) (c : Nat) (m : Message) (d : Dev),
    (s.dev.fwRequest c 0x0103 = some m) ∧ (s.dev.mailPop (.firmware c) = d) ∧ (s.dev.portFree portSlc = true) :=
  ⟨Test.fwState [0x0103 + 2 ^ 16, 0, 0, 0, 7] (fun d => d), 0, ⟨[0x0103 + 2 ^ 16, 0, 0, 0, 7], 0⟩, _, ⟨by decide +kernel, rfl, by decide +kernel⟩⟩
theorem witness_MailboxCommands_13 : ∃ (s : State) (c : Nat) (m : Message) (d : Dev),
    (s.dev.fwRequest c 0x0104 = some m) ∧ (s.dev.mailPop (.firmware c) = d) ∧ (m.field 8 1 ≤ 3) ∧ ((poolRange (m.field 8 1)).1 ≤ m.field 12 4) ∧ (m.field 12 4 + m.field 16 4 ≤ (poolRange (m.field 8 1)).2) :=
  ⟨Test.fwState [0x0104 + 2 ^ 16, 0, 1, 2 ^ 16, 983040] (fun d => d), 0, ⟨[0x0104 + 2 ^ 16, 0, 1, 2 ^ 16, 983040], 0⟩, _, ⟨by decide +kernel, rfl, by decide +kernel⟩⟩
theorem witness_MailboxCommands_14 : ∃ (s : State) (c : Nat) (m : Message) (d : Dev),
    (s.dev.fwRequest c 0x0104 = some m) ∧ (s.dev.mailPop (.firmware c) = d) ∧ (3 < m.field 8 1 ∨ m.field 12 4 < (poolRange (m.field 8 1)).1 ∨ (poolRange (m.field 8 1)).2 < m.field 12 4 + m.field 16 4) :=
  ⟨Test.fwState [0x0104 + 2 ^ 16, 0, 1, 2 ^ 16, 983041] (fun d => d), 0, ⟨[0x0104 + 2 ^ 16, 0, 1, 2 ^ 16, 983041], 0⟩, _, ⟨by decide +kernel, rfl, by decide +kernel⟩⟩
theorem witness_MailboxCommands_15 : ∃ (s : State) (c : Nat) (m : Message) (mv : Nat) (a : HostAnswer) (src dst len ctl : Nat) (d1 d2 d3 : Dev),
    (s.dev.fwRequest c 0x0201 = some m) ∧ ((s.dev.mover mv).move ≠ some c) ∧ (s.dev.movers.any (fun e => e.2.move == some c) = false) ∧ (s.dev.moverFree mv = true) ∧ (m.field 8 8 = src) ∧ (m.field 16 8 = dst) ∧ (m.field 24 4 = len) ∧ (bits (m.field 28 1) 0 3 + bits (m.field 28 1) 4 3 * 2 ^ 4 + bits (m.field 29 1) 0 2 * 2 ^ 8 + 2 ^ 11 = ctl) ∧ (bits (m.field 28 1) 0 3 = 0 ∨ bits (m.field 28 1) 0 3 = 2 ∨ bits (m.field 28 1) 0 3 = 3) ∧ (bits (m.field 28 1) 4 3 = 0 ∨ bits (m.field 28 1) 4 3 = 2 ∨ bits (m.field 28 1) 4 3 = 3) ∧ (¬ (bits (m.field 28 1) 0 3 = 0 ∧ s.dev.moveForbidden src len = true)) ∧ (¬ (bits (m.field 28 1) 4 3 = 0 ∧ s.dev.moveForbidden dst len = true)) ∧ (descMalformed s.dev.split src dst len ctl 1 = false) ∧ ((((s.dev.startChain mv).setMover mv { fetched := true, src := src, dst := dst, len := len, control := ctl, nextWord := 1, move := some c }).fset (Page.blp mv) Reg.BLP_REMAIN_BYTES len) = d1) ∧ (d1.runBursts mv a ((d1.mover mv).len / 256 + 2) = d2) ∧ ((d2.mover mv).fetched = false) ∧ (d2.moverState mv ≠ moverError) ∧ (d2.moverState mv ≠ moverStopped) ∧ ((d2.endDescriptor mv).setMover mv { (d2.endDescriptor mv).mover mv with move := none } = d3) ∧ (d3.fwRequest c 0x0201 = some m) :=
  ⟨Test.fwState [0x0201 + 2 ^ 16, 0, 0x1000, 0, 0x2000, 0, 64, 0x22] (fun d => (d.fset (Page.blp 63) Hdr.enable 1)), 0, ⟨[0x0201 + 2 ^ 16, 0, 0x1000, 0, 0x2000, 0, 64, 0x22], 0⟩, 63, .data, 0x1000, 0x2000, 64, 2 + 2 * 16 + 2048, _, _, _, by (repeat' apply And.intro) <;> first | decide +kernel | rfl⟩
theorem witness_MailboxCommands_16 : ∃ (s : State) (c : Nat) (m : Message) (mv : Nat) (a : HostAnswer),
    (s.dev.fwRequest c 0x0201 = some m) ∧ ((s.dev.mover mv).move ≠ some c) ∧ (s.dev.movers.any (fun e => e.2.move == some c) = false) ∧ (s.dev.moverFree mv = true) ∧ (bits (m.field 28 1) 0 3 = 1 ∨ 4 ≤ bits (m.field 28 1) 0 3) :=
  ⟨Test.fwState [0x0201 + 2 ^ 16, 0, 0x1000, 0, 0x2000, 0, 64, 0x21] (fun d => (d.fset (Page.blp 63) Hdr.enable 1)), 0, ⟨[0x0201 + 2 ^ 16, 0, 0x1000, 0, 0x2000, 0, 64, 0x21], 0⟩, 63, .data, by decide +kernel⟩
theorem witness_MailboxCommands_17 : ∃ (s : State) (c : Nat) (m : Message) (d : Dev) (g : List Byte),
    (s.dev.fwRequest c 0x0301 = some m) ∧ ((s.dev.hostFetch m.port (m.field 8 8) 204 {}).2.mailPop (.firmware c) = d) ∧ (s.dev.wel.job = none) ∧ (s.dev.nextGen < 8) ∧ (genImage s.dev.nextGen (s.dev.hread m.port (m.field 8 8) 204) = g) ∧ (genReserved g = false) ∧ (s.dev.genSvnBad g = false) :=
  ⟨Test.fwState [0x0301 + 2 ^ 16, 0, 0x1000, 0] (fun d => d), 0, ⟨[0x0301 + 2 ^ 16, 0, 0x1000, 0], 0⟩, _, _, ⟨by decide +kernel, rfl, by decide +kernel, by decide +kernel, rfl, by decide +kernel⟩⟩
theorem witness_MailboxCommands_18 : ∃ (s : State) (c : Nat) (m : Message) (d : Dev),
    (s.dev.fwRequest c 0x0301 = some m) ∧ ((s.dev.hostFetch m.port (m.field 8 8) 204 {}).2.mailPop (.firmware c) = d) ∧ (s.dev.wel.job = none) ∧ (8 ≤ s.dev.nextGen) :=
  ⟨Test.fwState [0x0301 + 2 ^ 16, 0, 0x1000, 0] (fun d => d.setWel { d.wel with gens := [(7, [1])] }), 0, ⟨[0x0301 + 2 ^ 16, 0, 0x1000, 0], 0⟩, _, ⟨by decide +kernel, rfl, by decide +kernel⟩⟩
theorem witness_MailboxCommands_19 : ∃ (s : State) (j : OtpJob),
    (s.dev.wel.job = some j) ∧ (s.dev.mailRoom (.firmware j.channel) = true) :=
  ⟨Test.ready (fun d => d.setWel { d.wel with job := some ⟨0, 1, 7, [1]⟩ }), ⟨0, 1, 7, [1]⟩, by decide +kernel⟩
theorem witness_MailboxCommands_20 : ∃ (s : State) (c : Nat) (m : Message) (d : Dev) (t : Nat),
    (s.dev.fwRequest c 0x0302 = some m) ∧ (s.dev.mailPop (.firmware c) = d) ∧ (s.dev.wel.job = none) ∧ (m.field 8 1 = t) ∧ (d.wel.lifecycle < t) ∧ (1 ≤ t) ∧ (t ≤ 4) ∧ (t ≠ lifeReturn) :=
  ⟨Test.fwState [0x0302 + 2 ^ 16, 0, 4] (fun d => d), 0, ⟨[0x0302 + 2 ^ 16, 0, 4], 0⟩, _, 4, ⟨by decide +kernel, rfl, by decide +kernel⟩⟩
theorem witness_MailboxCommands_21 : ∃ (s : State) (c : Nat) (m : Message) (d : Dev),
    (s.dev.fwRequest c 0x0302 = some m) ∧ (s.dev.mailPop (.firmware c) = d) ∧ (s.dev.wel.job = none) ∧ (m.field 8 1 ≤ d.wel.lifecycle) ∧ (1 ≤ m.field 8 1) ∧ (m.field 8 1 ≤ 4) :=
  ⟨Test.fwState [0x0302 + 2 ^ 16, 0, 1] (fun d => d.setWel { d.wel with lifecycle := 4 }), 0, ⟨[0x0302 + 2 ^ 16, 0, 1], 0⟩, _, ⟨by decide +kernel, rfl, by decide +kernel⟩⟩

theorem witness_VendorRequestCommands_1 : ∃ (s : State) (n : Nat) (r : VendorRequest) (rest : List VendorRequest) (d : Dev) (k : Nat) (e : Dev),
    (s.dev.wel.requests = r :: rest) ∧ (ofLe (cut r.payload 0 2) = 0x0001) ∧ (s.dev.portFree portKey = true) ∧ (r.via = .slice n) ∧ (s.dev.setWel { s.dev.wel with requests := rest } = d) ∧ (d.lifecycle = 1 ∨ d.lifecycle = 2) ∧ (r.sized 68 = true) ∧ (bits (r.field 0 4) 12 20 = 0) ∧ (bitAt (r.field 0 4) 10 = false) ∧ ((d.slice n).keyUsed + 1 ≤ (d.slice n).keyQuota) ∧ (d.lowestFree (if bitAt (r.field 0 4) 11 then 1 else 0) (d.keyFree (d.pool (if bitAt (r.field 0 4) 11 then 1 else 0)) false) = some k) ∧ ((d.keyInstall k false false ([bits (r.field 0 4) 0 1 * 2 ^ 18 + bits (r.field 0 4) 1 7 * 2 ^ 20 + bits (r.field 0 4) 8 1 * 2 ^ 27 + bits (r.field 0 4) 9 1 * 2 ^ 28 + b2n (d.slice n).isLocked * 2 ^ 29, n + (d.slice n).incarnation * 2 ^ 16, 0, 0].map (BitVec.ofNat 32)) (cut r.payload 8 64) (cut r.payload 72 64)).1 = Code.ok) ∧ ((d.keyInstall k false false ([bits (r.field 0 4) 0 1 * 2 ^ 18 + bits (r.field 0 4) 1 7 * 2 ^ 20 + bits (r.field 0 4) 8 1 * 2 ^ 27 + bits (r.field 0 4) 9 1 * 2 ^ 28 + b2n (d.slice n).isLocked * 2 ^ 29, n + (d.slice n).incarnation * 2 ^ 16, 0, 0].map (BitVec.ofNat 32)) (cut r.payload 8 64) (cut r.payload 72 64)).2 = e) :=
  ⟨Test.vendorState (Test.keyPayload) (fun d => ((d.fset Page.otp Reg.OTP_STAT_LIFECYCLE 2).setSlice 5 { state := .active, charter := (List.replicate 7 0#32) ++ [4#32] }).setWel { ((d.fset Page.otp Reg.OTP_STAT_LIFECYCLE 2).setSlice 5 { state := .active, charter := (List.replicate 7 0#32) ++ [4#32] }).wel with pools := [(0, (100, 4))] }), 5, Test.vendor (Test.keyPayload), [], _, 100, _, by (repeat' apply And.intro) <;> first | decide +kernel | rfl⟩
theorem witness_VendorRequestCommands_2 : ∃ (s : State) (n : Nat) (r : VendorRequest) (rest : List VendorRequest) (d : Dev),
    (s.dev.wel.requests = r :: rest) ∧ (ofLe (cut r.payload 0 2) = 0x0001) ∧ (s.dev.portFree portKey = true) ∧ (r.via = .slice n) ∧ (s.dev.setWel { s.dev.wel with requests := rest } = d) ∧ (d.lifecycle ≠ 1) ∧ (d.lifecycle ≠ 2) :=
  ⟨Test.vendorState (Test.keyPayload) (fun d => d), 5, Test.vendor (Test.keyPayload), [], _, ⟨by decide +kernel, by decide +kernel, by decide +kernel, by decide +kernel, rfl, by decide +kernel⟩⟩
theorem witness_VendorRequestCommands_3 : ∃ (s : State) (n : Nat) (r : VendorRequest) (rest : List VendorRequest) (d : Dev),
    (s.dev.wel.requests = r :: rest) ∧ (ofLe (cut r.payload 0 2) = 0x0002) ∧ (s.dev.portFree portKey = true) ∧ (r.via = .slice n) ∧ (s.dev.setWel { s.dev.wel with requests := rest } = d) ∧ (r.sized 4 = true) ∧ (d.ownsKey (some n) (r.field 0 4) = true) :=
  ⟨Test.vendorState [2, 0, 0, 0, 100, 0, 0, 0] (fun d => d.setLehr { d.lehr with keys := [(100, { state := 1, owner := 5 })] }), 5, Test.vendor [2, 0, 0, 0, 100, 0, 0, 0], [], _, ⟨by decide +kernel, by decide +kernel, by decide +kernel, by decide +kernel, rfl, by decide +kernel⟩⟩
theorem witness_VendorRequestCommands_4 : ∃ (s : State) (n : Nat) (r : VendorRequest) (rest : List VendorRequest) (d : Dev),
    (s.dev.wel.requests = r :: rest) ∧ (ofLe (cut r.payload 0 2) = 0x0003) ∧ (s.dev.portFree portKey = true) ∧ (r.via = .slice n) ∧ (s.dev.setWel { s.dev.wel with requests := rest } = d) ∧ (r.sized 4 = true) ∧ (d.ownsKey (some n) (r.field 0 4) = true) :=
  ⟨Test.vendorState [3, 0, 0, 0, 100, 0, 0, 0] (fun d => d.setLehr { d.lehr with keys := [(100, { state := 1, owner := 5 })] }), 5, Test.vendor [3, 0, 0, 0, 100, 0, 0, 0], [], _, ⟨by decide +kernel, by decide +kernel, by decide +kernel, by decide +kernel, rfl, by decide +kernel⟩⟩
theorem witness_VendorRequestCommands_5 : ∃ (s : State) (n : Nat) (r : VendorRequest) (rest : List VendorRequest) (d : Dev),
    (s.dev.wel.requests = r :: rest) ∧ (ofLe (cut r.payload 0 2) = 0x0003) ∧ (s.dev.portFree portKey = true) ∧ (r.via = .slice n) ∧ (s.dev.setWel { s.dev.wel with requests := rest } = d) ∧ (d.ownsKey (some n) (r.field 0 4) = false) :=
  ⟨Test.vendorState [3, 0, 0, 0, 101, 0, 0, 0] (fun d => d.setLehr { d.lehr with keys := [(100, { state := 1, owner := 5 })] }), 5, Test.vendor [3, 0, 0, 0, 101, 0, 0, 0], [], _, ⟨by decide +kernel, by decide +kernel, by decide +kernel, by decide +kernel, rfl, by decide +kernel⟩⟩
theorem witness_VendorRequestCommands_6 : ∃ (s : State) (n : Nat) (r : VendorRequest) (rest : List VendorRequest) (d : Dev) (w : List Nat) (k code : Nat) (e : Dev),
    (s.dev.wel.requests = r :: rest) ∧ (ofLe (cut r.payload 0 2) = 0x0010) ∧ (s.dev.portFree portSxp = true) ∧ (r.via = .slice n) ∧ (s.dev.setWel { s.dev.wel with requests := rest } = d) ∧ ((List.range 32).map (fun i => leWord (r.payload.drop 4) i) = w) ∧ (r.sized 128 = true) ∧ (d.ownsKey (some n) (Sa.slot w) = true) ∧ (Sa.succValid w = false) ∧ (Sa.mapped w = false) ∧ (d.lowestFree 2 d.saFree = some k) ∧ ((d.saWrite true k ((w.set 3 (n + (d.slice n).incarnation * 2 ^ 16)).set 13 (setBits (nth w 13) 0 18 (Sa.bmp w)))).1 = code) ∧ ((d.saWrite true k ((w.set 3 (n + (d.slice n).incarnation * 2 ^ 16)).set 13 (setBits (nth w 13) 0 18 (Sa.bmp w)))).2 = e) :=
  ⟨Test.vendorState ([16, 0, 0, 0, 136, 0, 0, 0, 100] ++ List.replicate 123 0) (fun d => (d.setLehr { d.lehr with keys := [(100, { state := 1, owner := 5 })] }).setWel { (d.setLehr { d.lehr with keys := [(100, { state := 1, owner := 5 })] }).wel with pools := [(2, (100, 4))] }), 5, Test.vendor ([16, 0, 0, 0, 136, 0, 0, 0, 100] ++ List.replicate 123 0), [], _, _, 100, _, _, by (repeat' apply And.intro) <;> first | decide +kernel | rfl⟩
theorem witness_VendorRequestCommands_7 : ∃ (s : State) (n : Nat) (r : VendorRequest) (rest : List VendorRequest) (d : Dev),
    (s.dev.wel.requests = r :: rest) ∧ (ofLe (cut r.payload 0 2) = 0x0011) ∧ (s.dev.portFree portSxp = true) ∧ (r.via = .slice n) ∧ (s.dev.setWel { s.dev.wel with requests := rest } = d) ∧ (r.sized 4 = true) ∧ (d.ownsSa n (r.field 0 4) = true) :=
  ⟨Test.vendorState [17, 0, 0, 0, 32, 0, 0, 0] (fun d => Test.sa (fun w => (w.set 3 5).set 8 (33 + 2 ^ 20)) ((Test.sa (fun w => w.set 3 5) d).saSet 33 ((Test.sa (fun w => w.set 3 5) d).saWords 32))), 5, Test.vendor [17, 0, 0, 0, 32, 0, 0, 0], [], _, ⟨by decide +kernel, by decide +kernel, by decide +kernel, by decide +kernel, rfl, by decide +kernel⟩⟩
theorem witness_VendorRequestCommands_8 : ∃ (s : State) (n : Nat) (r : VendorRequest) (rest : List VendorRequest) (d : Dev),
    (s.dev.wel.requests = r :: rest) ∧ (ofLe (cut r.payload 0 2) = 0x0012) ∧ (s.dev.portFree portSxp = true) ∧ (r.via = .slice n) ∧ (s.dev.setWel { s.dev.wel with requests := rest } = d) ∧ (r.sized 4 = true) ∧ (d.ownsSa n (r.field 0 4) = true) ∧ ((d.saRoll true (r.field 0 4)).1 = Code.ok) :=
  ⟨Test.vendorState [18, 0, 0, 0, 32, 0, 0, 0] (fun d => Test.sa (fun w => (w.set 3 5).set 8 (33 + 2 ^ 20)) ((Test.sa (fun w => w.set 3 5) d).saSet 33 ((Test.sa (fun w => w.set 3 5) d).saWords 32))), 5, Test.vendor [18, 0, 0, 0, 32, 0, 0, 0], [], _, ⟨by decide +kernel, by decide +kernel, by decide +kernel, by decide +kernel, rfl, by decide +kernel⟩⟩
theorem witness_VendorRequestCommands_9 : ∃ (s : State) (n : Nat) (r : VendorRequest) (rest : List VendorRequest) (d : Dev),
    (s.dev.wel.requests = r :: rest) ∧ (ofLe (cut r.payload 0 2) = 0x0013) ∧ (s.dev.portFree portSxp = true) ∧ (r.via = .slice n) ∧ (s.dev.setWel { s.dev.wel with requests := rest } = d) ∧ (r.sized 4 = true) ∧ (d.ownsSa n (r.field 0 4) = true) :=
  ⟨Test.vendorState [19, 0, 0, 0, 32, 0, 0, 0] (fun d => Test.sa (fun w => (w.set 3 5).set 8 (33 + 2 ^ 20)) ((Test.sa (fun w => w.set 3 5) d).saSet 33 ((Test.sa (fun w => w.set 3 5) d).saWords 32))), 5, Test.vendor [19, 0, 0, 0, 32, 0, 0, 0], [], _, ⟨by decide +kernel, by decide +kernel, by decide +kernel, by decide +kernel, rfl, by decide +kernel⟩⟩
theorem witness_VendorRequestCommands_10 : ∃ (s : State) (n : Nat) (r : VendorRequest) (rest : List VendorRequest) (d : Dev),
    (s.dev.wel.requests = r :: rest) ∧ (ofLe (cut r.payload 0 2) = 0x0013) ∧ (s.dev.portFree portSxp = true) ∧ (r.via = .slice n) ∧ (s.dev.setWel { s.dev.wel with requests := rest } = d) ∧ (d.ownsSa n (r.field 0 4) = false) ∧ (r.sized 4 = true) :=
  ⟨Test.vendorState [19, 0, 0, 0, 34, 0, 0, 0] (fun d => Test.sa (fun w => (w.set 3 5).set 8 (33 + 2 ^ 20)) ((Test.sa (fun w => w.set 3 5) d).saSet 33 ((Test.sa (fun w => w.set 3 5) d).saWords 32))), 5, Test.vendor [19, 0, 0, 0, 34, 0, 0, 0], [], _, ⟨by decide +kernel, by decide +kernel, by decide +kernel, by decide +kernel, rfl, by decide +kernel⟩⟩
theorem witness_VendorRequestCommands_11 : ∃ (s : State) (n : Nat) (r : VendorRequest) (rest : List VendorRequest) (d : Dev) (v k code : Nat) (e : Dev),
    (s.dev.wel.requests = r :: rest) ∧ (ofLe (cut r.payload 0 2) = 0x0020) ∧ (s.dev.portFree portSto = true) ∧ (r.via = .slice n) ∧ (s.dev.setWel { s.dev.wel with requests := rest } = d) ∧ (r.field 0 4 = v) ∧ (r.field 4 4 = k) ∧ (r.sized 16 = true) ∧ (d.ownsVol n v = true) ∧ (d.ownsKey (some n) k = true) ∧ (k % 2 = 0) ∧ (bitAt (d.keySlot k).modes 6 = true) ∧ ((d.volBindKey v (((((List.replicate 16 0).set 0 8).set 8 k).set 9 (d.keySlot k).gen).set 10 (r.field 8 4) |>.set 11 (r.field 12 4))).1 = code) ∧ ((d.volBindKey v (((((List.replicate 16 0).set 0 8).set 8 k).set 9 (d.keySlot k).gen).set 10 (r.field 8 4) |>.set 11 (r.field 12 4))).2 = e) :=
  ⟨Test.vendorState [32, 0, 0, 0, 32, 0, 0, 0, 100, 0, 0, 0, 9, 0, 0, 0, 0, 0, 0, 0] (fun d => ((Test.sto 5 d).gsetWords ((Test.sto 5 d).volAddr 32) (wordsSealed [2 ^ 31 + 2, 5, 8, 1, 0, 0, 1000, 0, 0, 0, 0, 0, 0, 0, 0, 0] 12)).setLehr { d.lehr with keys := [(100, { state := 1, owner := 5, modes := 64 })] }), 5, Test.vendor [32, 0, 0, 0, 32, 0, 0, 0, 100, 0, 0, 0, 9, 0, 0, 0, 0, 0, 0, 0], [], _, 32, 100, _, _, by (repeat' apply And.intro) <;> first | decide +kernel | rfl⟩
theorem witness_VendorRequestCommands_12 : ∃ (s : State) (n : Nat) (r : VendorRequest) (rest : List VendorRequest) (d : Dev) (q : Nat) (w : List Nat),
    (s.dev.wel.requests = r :: rest) ∧ (ofLe (cut r.payload 0 2) = 0x0030) ∧ (s.dev.portFree portQue = true) ∧ (r.via = .slice n) ∧ (s.dev.setWel { s.dev.wel with requests := rest } = d) ∧ (r.sized 72 = true) ∧ (r.field 1 3 = 0) ∧ (r.field 6 2 = 0) ∧ (r.field 4 2 ≤ 1023) ∧ ((List.range 16).map (fun i => leWord (r.payload.drop 12) i) = w) ∧ (r.field 0 1 = 2) ∧ (d.localQueue n (r.field 4 2) = some q) :=
  ⟨Test.vendorState ([48, 0, 0, 0, 2, 0, 0, 0, 9, 0, 0, 0] ++ List.replicate 64 0) (fun d => ((d.gsetWord (3 * 64) 0x60601).gsetWord (3 * 64 + 4) (5 + 9 * 2 ^ 16)).setQueue 3 { state := .idle }), 5, Test.vendor ([48, 0, 0, 0, 2, 0, 0, 0, 9, 0, 0, 0] ++ List.replicate 64 0), [], _, 3, _, ⟨by decide +kernel, by decide +kernel, by decide +kernel, by decide +kernel, rfl, by decide +kernel, by decide +kernel, by decide +kernel, by decide +kernel, rfl, by decide +kernel⟩⟩
theorem witness_VendorRequestCommands_13 : ∃ (s : State) (n : Nat) (r : VendorRequest) (rest : List VendorRequest) (d : Dev) (q : Nat) (w : List Nat),
    (s.dev.wel.requests = r :: rest) ∧ (ofLe (cut r.payload 0 2) = 0x0030) ∧ (s.dev.portFree portQue = true) ∧ (r.via = .slice n) ∧ (s.dev.setWel { s.dev.wel with requests := rest } = d) ∧ (r.sized 72 = true) ∧ (r.field 1 3 = 0) ∧ (r.field 6 2 = 0) ∧ (r.field 4 2 ≤ 1023) ∧ ((List.range 16).map (fun i => leWord (r.payload.drop 12) i) = w) ∧ (r.field 0 1 = 3) ∧ (d.localQueue n (r.field 4 2) = some q) :=
  ⟨Test.vendorState ([48, 0, 0, 0, 3, 0, 0, 0, 9, 0, 0, 0] ++ List.replicate 64 0) (fun d => ((d.gsetWord (3 * 64) 0x60601).gsetWord (3 * 64 + 4) (5 + 9 * 2 ^ 16)).setQueue 3 { state := .idle }), 5, Test.vendor ([48, 0, 0, 0, 3, 0, 0, 0, 9, 0, 0, 0] ++ List.replicate 64 0), [], _, 3, _, ⟨by decide +kernel, by decide +kernel, by decide +kernel, by decide +kernel, rfl, by decide +kernel, by decide +kernel, by decide +kernel, by decide +kernel, rfl, by decide +kernel⟩⟩
theorem witness_VendorRequestCommands_14 : ∃ (s : State) (n : Nat) (r : VendorRequest) (rest : List VendorRequest) (d : Dev) (q : Nat) (w : List Nat),
    (s.dev.wel.requests = r :: rest) ∧ (ofLe (cut r.payload 0 2) = 0x0030) ∧ (s.dev.portFree portQue = true) ∧ (r.via = .slice n) ∧ (s.dev.setWel { s.dev.wel with requests := rest } = d) ∧ (r.sized 72 = true) ∧ (r.field 1 3 = 0) ∧ (r.field 6 2 = 0) ∧ (r.field 4 2 ≤ 1023) ∧ ((List.range 16).map (fun i => leWord (r.payload.drop 12) i) = w) ∧ (r.field 0 1 = 1) ∧ ((List.range 65536).find? (fun q => (d.queue q).state == .free) = some q) :=
  ⟨Test.vendorState ([48, 0, 0, 0, 1, 0, 0, 0, 9, 0, 0, 0] ++ List.replicate 64 0) (fun d => ((d.gsetWord (3 * 64) 0x60601).gsetWord (3 * 64 + 4) (5 + 9 * 2 ^ 16)).setQueue 3 { state := .idle }), 5, Test.vendor ([48, 0, 0, 0, 1, 0, 0, 0, 9, 0, 0, 0] ++ List.replicate 64 0), [], _, 0, _, ⟨by decide +kernel, by decide +kernel, by decide +kernel, by decide +kernel, rfl, by decide +kernel, by decide +kernel, by decide +kernel, by decide +kernel, rfl, by decide +kernel⟩⟩
theorem witness_VendorRequestCommands_15 : ∃ (s : State) (n : Nat) (r : VendorRequest) (rest : List VendorRequest) (d : Dev) (q : Nat),
    (s.dev.wel.requests = r :: rest) ∧ (ofLe (cut r.payload 0 2) = 0x0030) ∧ (s.dev.portFree portQue = true) ∧ (r.via = .slice n) ∧ (s.dev.setWel { s.dev.wel with requests := rest } = d) ∧ (r.sized 72 = true) ∧ (r.field 1 3 = 0) ∧ (r.field 6 2 = 0) ∧ (r.field 4 2 ≤ 1023) ∧ (r.field 0 1 = 4) ∧ (d.localQueue n (r.field 4 2) = some q) :=
  ⟨Test.vendorState ([48, 0, 0, 0, 4, 0, 0, 0, 9, 0, 0, 0] ++ List.replicate 64 0) (fun d => ((d.gsetWord (3 * 64) 0x60601).gsetWord (3 * 64 + 4) (5 + 9 * 2 ^ 16)).setQueue 3 { state := .idle }), 5, Test.vendor ([48, 0, 0, 0, 4, 0, 0, 0, 9, 0, 0, 0] ++ List.replicate 64 0), [], _, 3, ⟨by decide +kernel, by decide +kernel, by decide +kernel, by decide +kernel, rfl, by decide +kernel⟩⟩
theorem witness_VendorRequestCommands_16 : ∃ (s : State) (n : Nat) (r : VendorRequest) (rest : List VendorRequest) (d : Dev) (e : Dev),
    (s.dev.wel.requests = r :: rest) ∧ (ofLe (cut r.payload 0 2) = 0x0031) ∧ (s.dev.portFree portSto = true) ∧ (r.via = .slice n) ∧ (s.dev.setWel { s.dev.wel with requests := rest } = d) ∧ (r.sized 3 = true) ∧ (r.field 2 1 = 8) ∧ (d.ownsSes n (r.field 0 2) = true) ∧ ((d.setPort Page.sto { d.port Page.sto with run := some ⟨.welbor, 8 * 2 ^ 24 + r.field 0 2, []⟩ }).sesGo = e) :=
  ⟨Test.vendorState [49, 0, 0, 0, 8, 0, 8] (fun d => (Test.sto 5 d).gsetWords ((Test.sto 5 d).sesAddr 8) (wordsSealed (((Test.sto 5 d).sesWords 8).set 1 5) 24)), 5, Test.vendor [49, 0, 0, 0, 8, 0, 8], [], _, _, ⟨by decide +kernel, by decide +kernel, by decide +kernel, by decide +kernel, rfl, by decide +kernel, by decide +kernel, by decide +kernel, rfl⟩⟩
theorem witness_VendorRequestCommands_17 : ∃ (s : State) (n : Nat) (r : VendorRequest) (rest : List VendorRequest) (d : Dev) (e : Dev),
    (s.dev.wel.requests = r :: rest) ∧ (ofLe (cut r.payload 0 2) = 0x0031) ∧ (s.dev.portFree portSto = true) ∧ (r.via = .slice n) ∧ (s.dev.setWel { s.dev.wel with requests := rest } = d) ∧ (r.sized 3 = true) ∧ (r.field 2 1 = 9) ∧ (d.ownsSes n (r.field 0 2) = true) ∧ ((d.setPort Page.sto { d.port Page.sto with run := some ⟨.welbor, 9 * 2 ^ 24 + r.field 0 2, []⟩ }).sesClose = e) :=
  ⟨Test.vendorState [49, 0, 0, 0, 8, 0, 9] (fun d => (Test.sto 5 d).gsetWords ((Test.sto 5 d).sesAddr 8) (wordsSealed (((Test.sto 5 d).sesWords 8).set 1 5) 24)), 5, Test.vendor [49, 0, 0, 0, 8, 0, 9], [], _, _, ⟨by decide +kernel, by decide +kernel, by decide +kernel, by decide +kernel, rfl, by decide +kernel, by decide +kernel, by decide +kernel, rfl⟩⟩
theorem witness_VendorRequestCommands_18 : ∃ (s : State) (n : Nat) (r : VendorRequest) (rest : List VendorRequest) (d : Dev) (e : Dev),
    (s.dev.wel.requests = r :: rest) ∧ (ofLe (cut r.payload 0 2) = 0x0031) ∧ (s.dev.portFree portSto = true) ∧ (r.via = .slice n) ∧ (s.dev.setWel { s.dev.wel with requests := rest } = d) ∧ (r.sized 3 = true) ∧ (r.field 2 1 = 10) ∧ (d.ownsSes n (r.field 0 2) = true) ∧ ((d.setPort Page.sto { d.port Page.sto with run := some ⟨.welbor, 10 * 2 ^ 24 + r.field 0 2, []⟩ }).sesReset = e) :=
  ⟨Test.vendorState [49, 0, 0, 0, 8, 0, 10] (fun d => (Test.sto 5 d).gsetWords ((Test.sto 5 d).sesAddr 8) (wordsSealed (((Test.sto 5 d).sesWords 8).set 1 5) 24)), 5, Test.vendor [49, 0, 0, 0, 8, 0, 10], [], _, _, ⟨by decide +kernel, by decide +kernel, by decide +kernel, by decide +kernel, rfl, by decide +kernel, by decide +kernel, by decide +kernel, rfl⟩⟩
theorem witness_VendorRequestCommands_19 : ∃ (s : State) (n : Nat) (r : VendorRequest) (rest : List VendorRequest) (d : Dev) (img : List Word),
    (s.dev.wel.requests = r :: rest) ∧ (ofLe (cut r.payload 0 2) = 0x0040) ∧ (r.via = .slice n) ∧ (s.dev.setWel { s.dev.wel with requests := rest } = d) ∧ (r.sized 1 = true) ∧ (r.field 0 1 < 16) ∧ ((d.slice n).images[r.field 0 1]? = some img) :=
  ⟨Test.vendorState [64, 0, 0, 0, 1] (fun d => d.setSlice 5 { state := .active, images := [[1#32], [2#32]] }), 5, Test.vendor [64, 0, 0, 0, 1], [], _, [2#32], ⟨by decide +kernel, by decide +kernel, by decide +kernel, rfl, by decide +kernel⟩⟩
theorem witness_VendorRequestCommands_20 : ∃ (s : State) (n : Nat) (r : VendorRequest) (rest : List VendorRequest) (d : Dev),
    (s.dev.wel.requests = r :: rest) ∧ (ofLe (cut r.payload 0 2) = 0x0040) ∧ (r.via = .slice n) ∧ (s.dev.setWel { s.dev.wel with requests := rest } = d) ∧ ((d.slice n).images.length ≤ r.field 0 1) :=
  ⟨Test.vendorState [64, 0, 0, 0, 2] (fun d => d.setSlice 5 { state := .active, images := [[1#32], [2#32]] }), 5, Test.vendor [64, 0, 0, 0, 2], [], _, ⟨by decide +kernel, by decide +kernel, by decide +kernel, rfl, by decide +kernel⟩⟩

theorem witness_SpdmCommands_1 : ∃ (s : State) (via : Transport),
    (s.dev.viaOpen via = true) ∧ (s.dev.domainOn 0 = true) ∧ (s.dev.pwr.welborReleased = true) ∧ (2 ≤ s.dev.bootStage) ∧ (s.dev.lifecycle ≠ lifeManufacture) ∧ (s.dev.bootStage ≠ 0xF) :=
  ⟨Test.spdmState 0, .pf0 0, by decide +kernel⟩
theorem witness_SpdmCommands_2 : ∃ (s : State) (via : Transport),
    (s.dev.viaOpen via = true) ∧ (s.dev.domainOn 0 = true) ∧ (s.dev.pwr.welborReleased = true) ∧ (2 ≤ s.dev.bootStage) ∧ (s.dev.lifecycle ≠ lifeManufacture) ∧ (s.dev.bootStage ≠ 0xF) ∧ (1 ≤ s.dev.negotiated via) :=
  ⟨Test.spdmState 1, .pf0 0, by decide +kernel⟩
theorem witness_SpdmCommands_3 : ∃ (s : State) (via : Transport) (b : Bool),
    (s.dev.viaOpen via = true) ∧ (s.dev.domainOn 0 = true) ∧ (s.dev.pwr.welborReleased = true) ∧ (2 ≤ s.dev.bootStage) ∧ (s.dev.lifecycle ≠ lifeManufacture) ∧ (s.dev.bootStage ≠ 0xF) ∧ (2 ≤ s.dev.negotiated via) :=
  ⟨Test.spdmState 2, .pf0 0, true, by decide +kernel⟩
theorem witness_SpdmCommands_4 : ∃ (s : State) (via : Transport),
    (s.dev.viaOpen via = true) ∧ (s.dev.domainOn 0 = true) ∧ (s.dev.pwr.welborReleased = true) ∧ (2 ≤ s.dev.bootStage) ∧ (s.dev.lifecycle ≠ lifeManufacture) ∧ (s.dev.bootStage ≠ 0xF) ∧ (3 ≤ s.dev.negotiated via) :=
  ⟨Test.spdmState 3, .pf0 0, by decide +kernel⟩
theorem witness_SpdmCommands_5 : ∃ (s : State) (via : Transport) (off len : Nat),
    (s.dev.viaOpen via = true) ∧ (s.dev.domainOn 0 = true) ∧ (s.dev.pwr.welborReleased = true) ∧ (2 ≤ s.dev.bootStage) ∧ (s.dev.lifecycle ≠ lifeManufacture) ∧ (s.dev.bootStage ≠ 0xF) ∧ (3 ≤ s.dev.negotiated via) ∧ (off ≤ certificate.length) :=
  ⟨Test.spdmState 3, .pf0 0, 0, 4096, by (repeat' apply And.intro) <;> first | decide +kernel | rfl | exact Nat.zero_le _⟩
theorem witness_SpdmCommands_6 : ∃ (s : State) (via : Transport) (slot off len : Nat),
    (s.dev.viaOpen via = true) ∧ (s.dev.domainOn 0 = true) ∧ (s.dev.pwr.welborReleased = true) ∧ (2 ≤ s.dev.bootStage) ∧ (s.dev.lifecycle ≠ lifeManufacture) ∧ (s.dev.bootStage ≠ 0xF) ∧ (3 ≤ s.dev.negotiated via) ∧ (slot ≠ 0) :=
  ⟨Test.spdmState 3, .pf0 0, 1, 0, 4096, by decide +kernel⟩
theorem witness_SpdmCommands_7 : ∃ (s : State) (via : Transport) (nonce : List Byte),
    (s.dev.viaOpen via = true) ∧ (s.dev.domainOn 0 = true) ∧ (s.dev.pwr.welborReleased = true) ∧ (2 ≤ s.dev.bootStage) ∧ (s.dev.lifecycle ≠ lifeManufacture) ∧ (s.dev.bootStage ≠ 0xF) ∧ (3 ≤ s.dev.negotiated via) ∧ (s.dev.identity = true) :=
  ⟨Test.spdmState 3, .pf0 0, [1], by decide +kernel⟩
theorem witness_SpdmCommands_8 : ∃ (s : State) (via : Transport) (nonce : List Byte),
    (s.dev.viaOpen via = true) ∧ (s.dev.domainOn 0 = true) ∧ (s.dev.pwr.welborReleased = true) ∧ (2 ≤ s.dev.bootStage) ∧ (s.dev.lifecycle ≠ lifeManufacture) ∧ (s.dev.bootStage ≠ 0xF) ∧ (3 ≤ s.dev.negotiated via) ∧ (s.dev.identity = false) :=
  ⟨Test.spdmMasked, .pf0 0, [1], by decide +kernel⟩
theorem witness_SpdmCommands_9 : ∃ (s : State) (via : Transport) (i : Nat),
    (s.dev.viaOpen via = true) ∧ (s.dev.domainOn 0 = true) ∧ (s.dev.pwr.welborReleased = true) ∧ (2 ≤ s.dev.bootStage) ∧ (s.dev.lifecycle ≠ lifeManufacture) ∧ (s.dev.bootStage ≠ 0xF) ∧ (3 ≤ s.dev.negotiated via) ∧ (1 ≤ i) ∧ (i ≤ 4) :=
  ⟨Test.spdmState 3, .pf0 0, 4, by decide +kernel⟩
theorem witness_SpdmCommands_10 : ∃ (s : State) (via : Transport) (b : Bool),
    (s.dev.viaOpen via = true) ∧ (s.dev.domainOn 0 = true) ∧ (s.dev.pwr.welborReleased = true) ∧ (2 ≤ s.dev.bootStage) ∧ (s.dev.lifecycle ≠ lifeManufacture) ∧ (s.dev.bootStage ≠ 0xF) ∧ (3 ≤ s.dev.negotiated via) ∧ (s.dev.identity = true) ∧ (sessionLimit via ≤ s.dev.sessionsOn via) :=
  ⟨Test.spdmFull, .pf0 0, true, by decide +kernel⟩
theorem witness_SpdmCommands_11 : ∃ (s : State) (via : Transport) (n nonce : Nat) (d : Dev),
    (s.dev.viaOpen via = true) ∧ (s.dev.domainOn 0 = true) ∧ (s.dev.pwr.welborReleased = true) ∧ (2 ≤ s.dev.bootStage) ∧ (s.dev.lifecycle ≠ lifeManufacture) ∧ (s.dev.bootStage ≠ 0xF) ∧ (3 ≤ s.dev.negotiated via) ∧ (s.dev.identity = true) ∧ (s.dev.sessionsOn via < sessionLimit via) ∧ (s.dev.wel.nextSession = n) ∧ (s.dev.fresh = (nonce, d)) :=
  ⟨Test.spdmState 3, .pf0 0, _, _, _, by (repeat' apply And.intro) <;> first | decide +kernel | rfl⟩
theorem witness_SpdmCommands_12 : ∃ (s : State) (via : Transport),
    (s.dev.viaOpen via = true) ∧ (s.dev.domainOn 0 = true) ∧ (s.dev.pwr.welborReleased = true) ∧ (2 ≤ s.dev.bootStage) ∧ (s.dev.lifecycle = lifeManufacture ∨ s.dev.bootStage = 0xF) :=
  ⟨Test.ready (fun d => { (d.setBootStage 0xF) with pwr := { (d.setBootStage 0xF).pwr with welborReleased := true } }), .mctp, by decide +kernel⟩
theorem witness_SpdmCommands_13 : ∃ (s : State) (via : Transport),
    (s.dev.viaOpen via = true) ∧ (s.dev.domainOn 0 = true) ∧ (s.dev.pwr.welborReleased = true) ∧ (2 ≤ s.dev.bootStage) ∧ (s.dev.lifecycle = lifeManufacture ∨ s.dev.bootStage = 0xF) :=
  ⟨Test.ready (fun d => { (d.setBootStage 0xF) with pwr := { (d.setBootStage 0xF).pwr with welborReleased := true } }), .mctp, by decide +kernel⟩
theorem witness_SpdmCommands_14 : ∃ (s : State) (via : Transport),
    (s.dev.viaOpen via = true) ∧ (s.dev.domainOn 0 = true) ∧ (s.dev.pwr.welborReleased = true) ∧ (2 ≤ s.dev.bootStage) ∧ (s.dev.lifecycle = lifeManufacture ∨ s.dev.bootStage = 0xF) :=
  ⟨Test.ready (fun d => { (d.setBootStage 0xF) with pwr := { (d.setBootStage 0xF).pwr with welborReleased := true } }), .mctp, by decide +kernel⟩
theorem witness_SpdmCommands_15 : ∃ (s : State) (via : Transport),
    (s.dev.viaOpen via = true) ∧ (s.dev.domainOn 0 = true) ∧ (s.dev.pwr.welborReleased = true) ∧ (2 ≤ s.dev.bootStage) ∧ (s.dev.lifecycle = lifeManufacture ∨ s.dev.bootStage = 0xF) :=
  ⟨Test.ready (fun d => { (d.setBootStage 0xF) with pwr := { (d.setBootStage 0xF).pwr with welborReleased := true } }), .mctp, by decide +kernel⟩
theorem witness_SpdmCommands_16 : ∃ (s : State) (via : Transport),
    (s.dev.viaOpen via = true) ∧ (s.dev.domainOn 0 = true) ∧ (s.dev.pwr.welborReleased = true) ∧ (2 ≤ s.dev.bootStage) ∧ (s.dev.lifecycle = lifeManufacture ∨ s.dev.bootStage = 0xF) :=
  ⟨Test.ready (fun d => { (d.setBootStage 0xF) with pwr := { (d.setBootStage 0xF).pwr with welborReleased := true } }), .mctp, by decide +kernel⟩
theorem witness_SpdmCommands_17 : ∃ (s : State) (via : Transport),
    (s.dev.viaOpen via = true) ∧ (s.dev.domainOn 0 = true) ∧ (s.dev.pwr.welborReleased = true) ∧ (2 ≤ s.dev.bootStage) ∧ (s.dev.lifecycle = lifeManufacture ∨ s.dev.bootStage = 0xF) :=
  ⟨Test.ready (fun d => { (d.setBootStage 0xF) with pwr := { (d.setBootStage 0xF).pwr with welborReleased := true } }), .mctp, by decide +kernel⟩
theorem witness_SpdmCommands_18 : ∃ (s : State) (via : Transport),
    (s.dev.viaOpen via = true) ∧ (s.dev.domainOn 0 = true) ∧ (s.dev.pwr.welborReleased = true) ∧ (2 ≤ s.dev.bootStage) ∧ (s.dev.lifecycle = lifeManufacture ∨ s.dev.bootStage = 0xF) :=
  ⟨Test.ready (fun d => { (d.setBootStage 0xF) with pwr := { (d.setBootStage 0xF).pwr with welborReleased := true } }), .mctp, by decide +kernel⟩
theorem witness_SpdmCommands_19 : ∃ (s : State) (via : Transport),
    (s.dev.viaOpen via = true) ∧ (s.dev.domainOn 0 = true) ∧ (s.dev.pwr.welborReleased = true) ∧ (2 ≤ s.dev.bootStage) ∧ (s.dev.lifecycle = lifeManufacture ∨ s.dev.bootStage = 0xF) :=
  ⟨Test.ready (fun d => { (d.setBootStage 0xF) with pwr := { (d.setBootStage 0xF).pwr with welborReleased := true } }), .mctp, by decide +kernel⟩
theorem witness_SpdmCommands_20 : ∃ (s : State) (n : Nat) (v : SpdmSession),
    (s.dev.spdmSession n = some v) ∧ (s.dev.viaOpen v.via = true) ∧ (s.dev.domainOn 0 = true) ∧ (2 ≤ s.dev.bootStage) ∧ (v.finished = false) :=
  ⟨Test.spdmSes false, 0, { via := .pf0 0, finished := false }, by decide +kernel⟩
theorem witness_SpdmCommands_21 : ∃ (s : State) (n : Nat) (v : SpdmSession),
    (s.dev.spdmSession n = some v) ∧ (s.dev.viaOpen v.via = true) ∧ (s.dev.domainOn 0 = true) ∧ (2 ≤ s.dev.bootStage) :=
  ⟨Test.spdmSes false, 0, { via := .pf0 0, finished := false }, by decide +kernel⟩
theorem witness_SpdmCommands_22 : ∃ (s : State) (n : Nat) (v : SpdmSession),
    (s.dev.spdmSession n = some v) ∧ (s.dev.viaOpen v.via = true) ∧ (s.dev.domainOn 0 = true) ∧ (2 ≤ s.dev.bootStage) ∧ (v.finished = true) :=
  ⟨Test.spdmSes true, 0, { via := .pf0 0, finished := true }, by decide +kernel⟩
theorem witness_SpdmCommands_23 : ∃ (s : State) (n : Nat) (v : SpdmSession),
    (s.dev.spdmSession n = some v) ∧ (s.dev.viaOpen v.via = true) ∧ (s.dev.domainOn 0 = true) ∧ (2 ≤ s.dev.bootStage) ∧ (v.finished = true) :=
  ⟨Test.spdmSes true, 0, { via := .pf0 0, finished := true }, by decide +kernel⟩
theorem witness_SpdmCommands_24 : ∃ (s : State) (n : Nat) (v : SpdmSession),
    (s.dev.spdmSession n = some v) ∧ (s.dev.viaOpen v.via = true) ∧ (s.dev.domainOn 0 = true) ∧ (2 ≤ s.dev.bootStage) ∧ (v.finished = true) :=
  ⟨Test.spdmSes true, 0, { via := .pf0 0, finished := true }, by decide +kernel⟩
theorem witness_SpdmCommands_25 : ∃ (s : State) (n : Nat) (v : SpdmSession),
    (s.dev.spdmSession n = some v) ∧ (s.dev.viaOpen v.via = true) ∧ (s.dev.domainOn 0 = true) ∧ (2 ≤ s.dev.bootStage) ∧ (v.finished = false) :=
  ⟨Test.spdmSes false, 0, { via := .pf0 0, finished := false }, by decide +kernel⟩
theorem witness_SpdmCommands_26 : ∃ (s : State) (n : Nat) (v : SpdmSession),
    (s.dev.spdmSession n = some v) ∧ (s.dev.viaOpen v.via = true) ∧ (s.dev.domainOn 0 = true) ∧ (2 ≤ s.dev.bootStage) ∧ (v.finished = false) :=
  ⟨Test.spdmSes false, 0, { via := .pf0 0, finished := false }, by decide +kernel⟩
theorem witness_SpdmCommands_27 : ∃ (s : State) (n : Nat) (v : SpdmSession),
    (s.dev.spdmSession n = some v) ∧ (s.dev.viaOpen v.via = true) ∧ (s.dev.domainOn 0 = true) ∧ (2 ≤ s.dev.bootStage) ∧ (v.finished = false) :=
  ⟨Test.spdmSes false, 0, { via := .pf0 0, finished := false }, by decide +kernel⟩
theorem witness_SpdmCommands_28 : ∃ (s : State) (n : Nat) (v : SpdmSession) (pay : List Byte),
    (s.dev.spdmSession n = some v) ∧ (s.dev.viaOpen v.via = true) ∧ (s.dev.domainOn 0 = true) ∧ (2 ≤ s.dev.bootStage) ∧ (v.finished = true) ∧ (vendorOps.contains (ofLe (cut pay 0 2)) = true) :=
  ⟨Test.spdmSes true, 0, { via := .pf0 0, finished := true }, [64, 0], by decide +kernel⟩
theorem witness_SpdmCommands_29 : ∃ (s : State) (n : Nat) (v : SpdmSession) (pay : List Byte),
    (s.dev.spdmSession n = some v) ∧ (s.dev.viaOpen v.via = true) ∧ (s.dev.domainOn 0 = true) ∧ (2 ≤ s.dev.bootStage) ∧ (v.finished = true) ∧ (vendorOps.contains (ofLe (cut pay 0 2)) = false) :=
  ⟨Test.spdmSes true, 0, { via := .pf0 0, finished := true }, [65, 0], by decide +kernel⟩
theorem witness_SpdmCommands_31 : ∃ (s : State) (e : Option Nat),
    (s.dev.pwr.vaux = true) :=
  ⟨Test.ready (fun d => { d with pwr := { d.pwr with vaux := true } }), some 255, by decide +kernel⟩
theorem witness_SpdmCommands_32 : ∃ (s : State) (e : Option Nat),
    (s.dev.pwr.vaux = false) :=
  ⟨Test.ready (fun d => { d with pwr := { d.pwr with vaux := false } }), some 255, by decide +kernel⟩
theorem witness_SpdmCommands_33 : ∃ (s : State) (ims : List BootImage),
    (s.dev.pwr.welborReleased = true) ∧ (s.dev.bootStage = 0) ∧ (s.dev.lifecycle ≠ lifeScrap) :=
  ⟨Test.bootState 0, [], by decide +kernel⟩
theorem witness_SpdmCommands_34 : ∃ (s : State) (pass : Bool) (ims : List BootImage),
    (s.dev.pwr.welborReleased = true) ∧ (s.dev.bootStage = 0) ∧ (s.dev.lifecycle = lifeScrap) :=
  ⟨Test.bootScrap, true, [], by decide +kernel⟩
theorem witness_SpdmCommands_35 : ∃ (s : State) (pass : Bool) (ims : List BootImage) (set svn1 svn2 : Nat) (dig : List Byte) (d : Dev),
    (s.dev.pwr.welborReleased = true) ∧ (s.dev.bootStage = 1) ∧ (bits (byteAt s.dev.governing 16) 1 1 = set) ∧ (s.dev.setErr ims set = 0) ∧ (((imageOf ims set 1).map (·.svn)).getD 0 = svn1) ∧ (((imageOf ims set 2).map (·.svn)).getD 0 = svn2) ∧ (((imageOf ims set 1).map (·.digest)).getD [] = dig) ∧ (s.dev.measure 2 (dig ++ toLe 2 svn1) = d) :=
  ⟨Test.bootState 1, true, Test.bootImages, 0, 0, 0, sha384 [7, 7], _, by (repeat' apply And.intro) <;> first | decide +kernel | rfl⟩
theorem witness_SpdmCommands_36 : ∃ (s : State) (pass : Bool) (ims : List BootImage) (set : Nat),
    (s.dev.pwr.welborReleased = true) ∧ (s.dev.bootStage = 1) ∧ (bits (byteAt s.dev.governing 16) 1 1 = set) ∧ (s.dev.setErr ims set ≠ 0) ∧ (s.dev.setErr ims (1 - set) ≠ 0) :=
  ⟨Test.bootState 1, true, [], 0, by decide +kernel⟩
theorem witness_SpdmCommands_37 : ∃ (s : State) (pass : Bool) (ims : List BootImage) (set : Nat) (i : BootImage),
    (s.dev.pwr.welborReleased = true) ∧ (s.dev.bootStage = 2) ∧ (s.dev.fget Page.otp Reg.OTP_BOOT_IMAGE = set) ∧ (s.dev.imageErr ims set 2 = 0) ∧ (s.dev.bootImage ims set 2 = some i) :=
  ⟨Test.bootState 2, true, Test.bootImages, 0, ⟨0, 2, 0x57424C58, 0, 2, true, sha384 [7, 7], [7, 7]⟩, by decide +kernel⟩
theorem witness_SpdmCommands_38 : ∃ (s : State) (pass : Bool) (ims : List BootImage) (set : Nat),
    (s.dev.pwr.welborReleased = true) ∧ (s.dev.bootStage = 2) ∧ (s.dev.fget Page.otp Reg.OTP_BOOT_IMAGE = set) ∧ (s.dev.imageErr ims set 2 ≠ 0) :=
  ⟨Test.bootState 2, true, [], 0, by decide +kernel⟩

theorem witness_PowerStateCommands_1 : ∃ (s : State) (req : Requester) (target : BitVec 3) (t : PowerState),
    (s.dev.unreachable (Page.pwr + Reg.PWR_REQ_GO.off) = none) ∧ (powerTarget target.toNat = some t) ∧ (t = .run ∨ t = .lean) ∧ (s.dev.pwr.state ≠ .standby) ∧ (s.dev.pwr.state ≠ .off) ∧ (s.dev.pwr.trans = .none) ∧ ((s.dev.fset Page.pwr Reg.PWR_REQ_TARGET target.toNat).fbit Page.otp Reg.OTP_STAT_PROG_BUSY = false) ∧ (s.dev.asleep req = false) :=
  ⟨Test.ready id, .welbor, 1#3, .lean, by decide +kernel⟩
theorem witness_PowerStateCommands_2 : ∃ (s : State) (req : Requester) (target : BitVec 3),
    (s.dev.unreachable (Page.pwr + Reg.PWR_REQ_GO.off) = none) ∧ (powerTarget target.toNat = some .doze) ∧ ((s.dev.fset Page.pwr Reg.PWR_REQ_TARGET target.toNat).groupQuiet ((s.dev.fset Page.pwr Reg.PWR_REQ_TARGET target.toNat).fget Page.pwr Reg.PWR_CFG_DOZE_GROUP) = true) ∧ (s.dev.pwr.state ≠ .standby) ∧ (s.dev.pwr.state ≠ .off) ∧ (s.dev.pwr.trans = .none) ∧ ((s.dev.fset Page.pwr Reg.PWR_REQ_TARGET target.toNat).fbit Page.otp Reg.OTP_STAT_PROG_BUSY = false) ∧ (s.dev.asleep req = false) :=
  ⟨Test.ready id, .welbor, 2#3, by decide +kernel⟩
theorem witness_PowerStateCommands_3 : ∃ (s : State) (req : Requester) (target : BitVec 3),
    (s.dev.unreachable (Page.pwr + Reg.PWR_REQ_GO.off) = none) ∧ (powerTarget target.toNat = some .standby) ∧ ((s.dev.fset Page.pwr Reg.PWR_REQ_TARGET target.toNat).allIdle = true) ∧ (s.dev.pwr.state ≠ .standby) ∧ (s.dev.pwr.state ≠ .off) ∧ (s.dev.pwr.trans = .none) ∧ ((s.dev.fset Page.pwr Reg.PWR_REQ_TARGET target.toNat).fbit Page.otp Reg.OTP_STAT_PROG_BUSY = false) ∧ (s.dev.asleep req = false) :=
  ⟨Test.ready id, .welbor, 3#3, by decide +kernel⟩
theorem witness_PowerStateCommands_4 : ∃ (s : State),
    (s.dev.pwr.trans = .move .run) :=
  ⟨Test.ready (fun d => d.setPwr { d.pwr with state := .lean, trans := .move .run }), by decide +kernel⟩
theorem witness_PowerStateCommands_5 : ∃ (s : State),
    (s.dev.pwr.trans = .move .doze) ∧ (s.dev.pwr.state ≠ .doze) :=
  ⟨Test.ready (fun d => d.setPwr { d.pwr with trans := .move .doze }), by decide +kernel⟩
theorem witness_PowerStateCommands_6 : ∃ (s : State) (n : Nat),
    (s.dev.pwr.trans = .entry n) ∧ (s.dev.allL12 = true) :=
  ⟨Test.ready (fun d => d.setPwr { d.pwr with trans := .entry 3, l12 := 3 }), 3, by decide +kernel⟩
theorem witness_PowerStateCommands_7 : ∃ (s : State),
    (s.dev.pwr.state = .lean) ∧ (s.dev.fget Page.pwr Reg.PWR_LEAN_GAF_MIN ≥ 24) ∧ (s.dev.fget Page.pwr Reg.PWR_LEAN_LEH_MIN ≥ 64) ∧ (s.dev.pwr.gafGated = 0) ∧ (s.dev.pwr.lehGated = 0) :=
  ⟨Test.ready (fun d => ((d.fset Page.pwr Reg.PWR_LEAN_GAF_MIN 24).fset Page.pwr Reg.PWR_LEAN_LEH_MIN 64).setPwr { d.pwr with state := .lean }), by decide +kernel⟩
theorem witness_PowerStateCommands_8 : ∃ (s : State) (addr : Nat),
    (s.dev.pwr.state = .doze) ∧ (2 ^ 34 ≤ addr) ∧ (addr < 2 ^ 35) ∧ (s.dev.pwr.demand = none) :=
  ⟨Test.ready (fun d => d.setPwr { d.pwr with state := .doze }), 2 ^ 34, by decide +kernel⟩
theorem witness_PowerStateCommands_9 : ∃ (s : State) (port : Nat),
    (port < 2) ∧ (s.dev.pwr.state = .doze) ∧ ((s.dev.hostPort port).linkUp = true) :=
  ⟨Test.ready (fun d => d.setPwr { d.pwr with state := .doze }), 1, by decide +kernel⟩
theorem witness_PowerStateCommands_10 : ∃ (s : State) (source : Nat),
    (s.dev.wakeEnabled source = true) ∧ (s.dev.pwr.trans = .none) ∧ (s.dev.pwr.state = .standby) ∧ (s.dev.pwr.wakeFailed = false) :=
  ⟨{ State.reset with dev := State.reset.dev.wr (Page.evtAon + Reg.EVT_WAKE_EN.off) 1#32 }, 0, by decide +kernel⟩
theorem witness_PowerStateCommands_11 : ∃ (s : State),
    (s.dev.pwr.trans = .entry 3) ∧ (s.dev.pwr.wakeLatched = none) :=
  ⟨Test.ready (fun d => d.setPwr { d.pwr with trans := .entry 3 }), by decide +kernel⟩
theorem witness_PowerStateCommands_12 : ∃ (s : State) (step unit : Nat),
    (s.dev.pwr.trans = .exit step) ∧ (step = 1 ∨ step = 2) ∧ (s.dev.pwr.attempts < 3) :=
  ⟨Test.ready (fun d => d.setPwr { d.pwr with trans := .exit 2, attempts := 2 }), 2, 0, by decide +kernel⟩
theorem witness_PowerStateCommands_13 : ∃ (s : State) (step unit : Nat),
    (s.dev.pwr.trans = .exit step) ∧ (step = 1 ∨ step = 2) ∧ (s.dev.pwr.attempts = 3) ∧ (s.dev.pwr.alternate = false) :=
  ⟨Test.ready (fun d => d.setPwr { d.pwr with trans := .exit 2, attempts := 3 }), 2, 7, by decide +kernel⟩
theorem witness_PowerStateCommands_14 : ∃ (s : State) (step unit : Nat),
    (s.dev.pwr.trans = .exit step) ∧ (step = 1 ∨ step = 2) ∧ (s.dev.pwr.attempts = 3) ∧ (s.dev.pwr.alternate = true) :=
  ⟨Test.ready (fun d => d.setPwr { d.pwr with trans := .exit 1, attempts := 3, alternate := true }), 1, 7, by decide +kernel⟩
theorem witness_PowerStateCommands_15 : ∃ (s : State),
    (s.dev.pwr.trans = .exit 6) ∧ (s.dev.bootStage = 3) :=
  ⟨Test.ready (fun d => (d.setBootStage 3).setPwr { d.pwr with trans := .exit 6 }), by decide +kernel⟩
theorem witness_PowerStateCommands_16 : ∃ (s : State) (req : Requester) (groups : Word),
    (s.dev.unreachable (Page.pwr + Reg.PWR_PAD_RELEASE_GROUP.off) = none) ∧ (s.dev.asleep req = false) :=
  ⟨State.reset, .welbor, 1#32, by decide +kernel⟩
theorem witness_PowerStateCommands_17 : ∃ (s : State) (port : Nat),
    (port < 2) ∧ (s.dev.pwr.trans = .entry 3) ∧ ((s.dev.hostPort port).linkUp = true) ∧ (bitAt s.dev.pwr.l12 port = false) :=
  ⟨Test.ready (fun d => d.setPwr { d.pwr with trans := .entry 3 }), 1, by decide +kernel⟩
theorem witness_PowerStateCommands_18 : ∃ (s : State) (port : Nat),
    (port < 2) ∧ (s.dev.pwr.trans = .entry 3) ∧ ((s.dev.hostPort port).linkUp = true) ∧ (bitAt s.dev.pwr.l12 port = false) :=
  ⟨Test.ready (fun d => d.setPwr { d.pwr with trans := .entry 3 }), 0, by decide +kernel⟩

theorem witness_SupplyAndResetCommands_1 : ∃ (s : State),
    (s.dev.pwr.feedA = false) ∧ (s.dev.pwr.tripped = false) ∧ (s.dev.pwr.vaux = true) :=
  ⟨State.reset, by decide +kernel⟩
theorem witness_SupplyAndResetCommands_2 : ∃ (s : State),
    (s.dev.pwr.feedB = false) ∧ (s.dev.pwr.tripped = false) ∧ (s.dev.pwr.vaux = true) :=
  ⟨State.reset, by decide +kernel⟩
theorem witness_SupplyAndResetCommands_3 : ∃ (s : State),
    (s.dev.pwr.feedA = true) :=
  ⟨Test.ready (fun d => d.setPwr { d.pwr with feedA := true }), by decide +kernel⟩
theorem witness_SupplyAndResetCommands_4 : ∃ (s : State),
    (s.dev.pwr.feedB = true) :=
  ⟨Test.ready (fun d => d.setPwr { d.pwr with feedB := true }), by decide +kernel⟩
theorem witness_SupplyAndResetCommands_5 : ∃ (s : State),
    (s.dev.pwr.vaux = false) ∧ (s.dev.pwr.feedA = false) ∧ (s.dev.pwr.feedB = false) :=
  ⟨{ State.reset with dev := { State.reset.dev with pwr := { vaux := false } } }, by decide +kernel⟩
theorem witness_SupplyAndResetCommands_6 : ∃ (s : State),
    (s.dev.pwr.vaux = true) :=
  ⟨State.reset, by decide +kernel⟩
theorem witness_SupplyAndResetCommands_7 : ∃ (s : State) (port : Nat),
    (s.dev.portExists port = true) ∧ (bitAt s.dev.pwr.perst port = false) :=
  ⟨Test.ready (fun d => d.setPwr { d.pwr with perst := 0 }), 0, by decide +kernel⟩
theorem witness_SupplyAndResetCommands_8 : ∃ (s : State) (port : Nat),
    (port < 2) ∧ (bitAt s.dev.pwr.perst port = true) :=
  ⟨State.reset, 1, by decide +kernel⟩
theorem witness_SupplyAndResetCommands_9 : ∃ (s : State) (req : Requester),
    (s.dev.unreachable (Page.rst + Reg.RST_CTL_GO.off) = none) ∧ (s.dev.pwr.state ≠ .standby) ∧ (s.dev.asleep req = false) :=
  ⟨Test.ready id, .welbor, by decide +kernel⟩
theorem witness_SupplyAndResetCommands_10 : ∃ (s : State) (req : Requester),
    (s.dev.unreachable (Page.rst + Reg.RST_CTL_GO.off) = none) ∧ (s.dev.asleep req = false) :=
  ⟨Test.ready id, .manager 0 0, by decide +kernel⟩
theorem witness_SupplyAndResetCommands_11 : ∃ (s : State),
    (s.dev.domainOn 0 = true) ∧ (s.dev.pwr.welborReleased = true) :=
  ⟨Test.ready (fun d => d.setPwr { d.pwr with welborReleased := true }), by decide +kernel⟩
theorem witness_SupplyAndResetCommands_12 : ∃ (s : State),
    (s.dev.pwr.trans = .none) ∧ (s.dev.pwr.welborReleased = false) ∧ (s.dev.domainOn 0 = true) :=
  ⟨Test.ready id, by decide +kernel⟩
theorem witness_SupplyAndResetCommands_14 : ∃ (s : State),
    (s.dev.pwr.busHoldUp = true) ∧ (s.dev.pwr.feedA = false) ∧ (s.dev.pwr.feedB = false) :=
  ⟨Test.ready (fun d => d.setPwr { d.pwr with busHoldUp := true }), by decide +kernel⟩
theorem witness_SupplyAndResetCommands_15 : ∃ (s : State) (result : Nat),
    (s.dev.fwRuns = true) ∧ (s.dev.mailRoom (.firmware 0) = true) ∧ (s.dev.split = false) ∧ (s.dev.pwr.ready = false) :=
  ⟨Test.ready (fun d => (d.setBootStage 3).setPwr { d.pwr with ready := false }), 0, by decide +kernel⟩

theorem witness_TimeBaseCommands_1 : ∃ (s : State),
    (s.dev.domainOn 5 = true) :=
  ⟨Test.ready id, by decide +kernel⟩
theorem witness_TimeBaseCommands_3 : ∃ (s : State),
    (s.dev.domainOn 5 = true) :=
  ⟨Test.ready id, by decide +kernel⟩
theorem witness_TimeBaseCommands_4 : ∃ (s : State) (req : Requester),
    (s.dev.unreachable (Page.tim + 0x20) = none) ∧ (s.dev.asleep req = false) :=
  ⟨Test.ready id, .welbor, by decide +kernel⟩
theorem witness_TimeBaseCommands_5 : ∃ (s : State) (req : Requester),
    (s.dev.unreachable (Page.tim + 0x20) = none) ∧ (s.dev.asleep req = false) :=
  ⟨Test.ready id, .welbor, by decide +kernel⟩
theorem witness_TimeBaseCommands_6 : ∃ (s : State),
    (s.dev.tim.slowRc = false) ∧ (s.dev.pwr.vaux = true) :=
  ⟨State.reset, by decide +kernel⟩
theorem witness_TimeBaseCommands_7 : ∃ (s : State) (source : Nat) (frequency : BitVec 64),
    (source < 2) ∧ (s.dev.domainOn 5 = true) ∧ (source = 0 → s.dev.tim.slowRc = false) :=
  ⟨Test.ready id, 1, 7#64, by decide +kernel⟩

theorem witness_DeviceAndPairFaults_1 : ∃ (s : State) (device addr : Nat),
    (device < 18) ∧ (s.dev.memState device = 0) ∧ (s.dev.groupFailed device = false) ∧ ((s.dev.recentRebuilds device).length < 16) :=
  ⟨Test.ready id, 17, 0, by decide +kernel⟩
theorem witness_DeviceAndPairFaults_2 : ∃ (s : State) (device addr : Nat),
    (device < 18) ∧ (s.dev.memState device = 0) ∧ (s.dev.groupFailed device = false) ∧ (16 ≤ (s.dev.recentRebuilds device).length) :=
  ⟨Test.ready (fun d => d.setFt { d.ft with rebuilds := [(17, List.replicate 15 0)] }), 17, 0, by decide +kernel⟩
theorem witness_DeviceAndPairFaults_3 : ∃ (s : State) (req : Requester) (device : Nat),
    (device < 18) ∧ (s.dev.unreachable (Page.mem device + Reg.MEM_CTL_FAIL.off) = none) ∧ (s.dev.memState device ≠ 2) ∧ (s.dev.asleep req = false) :=
  ⟨Test.ready id, .welbor, 17, by decide +kernel⟩
theorem witness_DeviceAndPairFaults_4 : ∃ (s : State) (device corrected : Nat),
    (device < 18) ∧ (s.dev.fget (Page.mem device) Reg.MEM_SCRUB_HOURS ≠ 0) ∧ (s.dev.memState device = 0) :=
  ⟨Test.ready (fun d => d.fset (Page.mem 17) Reg.MEM_SCRUB_HOURS 24), 17, 3, by decide +kernel⟩
theorem witness_DeviceAndPairFaults_5 : ∃ (s : State) (pair : Nat),
    (pair < 4) ∧ (s.dev.cpxState pair = cpxRun) :=
  ⟨Test.ready id, 3, by decide +kernel⟩
theorem witness_DeviceAndPairFaults_6 : ∃ (s : State) (pair : Nat),
    (pair < 4) ∧ (s.dev.cpxState pair = cpxFenced) :=
  ⟨Test.ready (fun d => d.fset (Page.cpx 3) Reg.CPX_STAT_STATE 1), 3, by decide +kernel⟩
theorem witness_DeviceAndPairFaults_7 : ∃ (s : State) (req : Requester) (pair : Nat),
    (pair < 4) ∧ (s.dev.unreachable (Page.cpx pair + Reg.CPX_RETURN_GO.off) = none) ∧ (s.dev.cpxState pair = cpxStandby) ∧ (s.dev.asleep req = false) :=
  ⟨Test.ready (fun d => d.fset (Page.cpx 3) Reg.CPX_STAT_STATE 4), .welbor, 3, by decide +kernel⟩
theorem witness_DeviceAndPairFaults_8 : ∃ (s : State),
    (s.dev.ft.osc1Failed = false) ∧ (s.dev.ft.oscUsed = 0) :=
  ⟨State.reset, by decide +kernel⟩
theorem witness_DeviceAndPairFaults_9 : ∃ (s : State),
    (s.dev.ft.osc0Failed = true) :=
  ⟨Test.ready (fun d => d.setFt { d.ft with osc0Failed := true }), by decide +kernel⟩
theorem witness_DeviceAndPairFaults_10 : ∃ (s : State),
    (s.dev.fbit Page.tim Reg.TIM_CTL_REF = true) ∧ (s.dev.tim.refLost = false) :=
  ⟨Test.ready (fun d => d.fset Page.tim Reg.TIM_CTL_REF 1), by decide +kernel⟩
theorem witness_DeviceAndPairFaults_11 : ∃ (s : State),
    (s.dev.ft.holdover = true) :=
  ⟨Test.ready (fun d => d.setFt { d.ft with holdover := true }), by decide +kernel⟩
theorem witness_DeviceAndPairFaults_12 : ∃ (s : State) (rail phase : Nat),
    (s.dev.ft.shed.contains (rail, phase) = false) :=
  ⟨State.reset, 0, 0, by decide +kernel⟩

theorem witness_ServiceAndJournalCommands_1 : ∃ (s : State) (req : Requester) (type inst t : Nat),
    (s.dev.unreachable (Page.svc + Reg.SVC_REQ_GO.off) = none) ∧ (puntyOfType type = some t) ∧ ((((s.dev.fset Page.svc Reg.SVC_REQ_ACTION 0).fset Page.svc Reg.SVC_REQ_TYPE type).fset Page.svc Reg.SVC_REQ_INSTANCE inst).svcOutCode req type inst = Code.ok) ∧ (s.dev.asleep req = false) :=
  ⟨Test.ready id, .welbor, puntyTypeCode 0, 3, 0, by decide +kernel⟩
theorem witness_ServiceAndJournalCommands_2 : ∃ (s : State) (req : Requester) (type inst t : Nat),
    (s.dev.unreachable (Page.svc + Reg.SVC_REQ_GO.off) = none) ∧ (puntyOfType type = some t) ∧ (inst < puntyCount t) ∧ ((((s.dev.fset Page.svc Reg.SVC_REQ_ACTION 1).fset Page.svc Reg.SVC_REQ_TYPE type).fset Page.svc Reg.SVC_REQ_INSTANCE inst).fget Page.svc (puntyState t) = svcStanding) ∧ ((((s.dev.fset Page.svc Reg.SVC_REQ_ACTION 1).fset Page.svc Reg.SVC_REQ_TYPE type).fset Page.svc Reg.SVC_REQ_INSTANCE inst).fget Page.svc (puntyInst t) = inst) ∧ ((((s.dev.fset Page.svc Reg.SVC_REQ_ACTION 1).fset Page.svc Reg.SVC_REQ_TYPE type).fset Page.svc Reg.SVC_REQ_INSTANCE inst).fget Page.svc (puntyUnitState t) = unitPassed) ∧ (s.dev.asleep req = false) :=
  ⟨Test.ready (fun d => ((d.fset Page.svc (puntyState 0) 3).fset Page.svc (puntyInst 0) 23).fset Page.svc (puntyUnitState 0) 2), .welbor, puntyTypeCode 0, 23, 0, by decide +kernel⟩
theorem witness_ServiceAndJournalCommands_3 : ∃ (s : State) (unit : Nat),
    (unit < 5) ∧ (unit ≠ puntyGaf) ∧ (unit ≠ puntyLeh) ∧ (s.dev.fget Page.svc (puntyState unit) = svcSync) :=
  ⟨Test.ready (fun d => d.fset Page.svc (puntyState 4) 1), 4, by decide +kernel⟩
theorem witness_ServiceAndJournalCommands_4 : ∃ (s : State),
    (s.dev.fget Page.svc (puntyState puntyLeh) = svcSync) :=
  ⟨Test.ready (fun d => d.fset Page.svc (puntyState puntyLeh) 1), by decide +kernel⟩
theorem witness_ServiceAndJournalCommands_5 : ∃ (s : State) (unit : Nat),
    (unit < 5) ∧ (s.dev.fget Page.svc (puntyState unit) = svcStanding) ∧ (s.dev.fget Page.svc (puntyUnitState unit) = unitDrain) ∧ (s.dev.unitBusy unit (s.dev.fget Page.svc (puntyInst unit)) = false) :=
  ⟨Test.ready (fun d => d.fset Page.svc (puntyState 4) 3), 4, by decide +kernel⟩
theorem witness_ServiceAndJournalCommands_6 : ∃ (s : State) (unit : Nat),
    (unit < 5) ∧ (unit ≠ puntyGaf) ∧ (unit ≠ puntyLeh) ∧ (s.dev.fget Page.svc (puntyState unit) = svcReturn) ∧ ((s.dev.punty unit).switchedBack = false) :=
  ⟨Test.ready (fun d => d.fset Page.svc (puntyState 4) svcReturn), 4, by decide +kernel⟩
theorem witness_ServiceAndJournalCommands_7 : ∃ (s : State) (unit : Nat),
    (unit < 5) ∧ (s.dev.fget Page.svc (puntyState unit) = svcReturn) ∧ ((s.dev.punty unit).switchedBack = true) ∧ (s.dev.unitBusy unit (puntyCount unit) = false) :=
  ⟨Test.ready (fun d => (d.fset Page.svc (puntyState 4) svcReturn).setPunty 4 { switchedBack := true }), 4, by decide +kernel⟩
theorem witness_ServiceAndJournalCommands_8 : ∃ (s : State) (unit : Nat),
    (unit < 5) ∧ (s.dev.fget Page.svc (puntyState unit) = svcStanding) ∧ (s.dev.fget Page.svc (puntyUnitState unit) = unitBist) :=
  ⟨Test.ready (fun d => (d.fset Page.svc (puntyState 4) 3).fset Page.svc (puntyUnitState 4) 1), 4, by decide +kernel⟩
theorem witness_ServiceAndJournalCommands_9 : ∃ (s : State) (unit : Nat),
    (unit < 5) ∧ (s.dev.fget Page.svc (puntyState unit) = svcStanding) ∧ (s.dev.fget Page.svc (puntyUnitState unit) = unitBist) :=
  ⟨Test.ready (fun d => (d.fset Page.svc (puntyState 4) 3).fset Page.svc (puntyUnitState 4) 1), 4, by decide +kernel⟩
theorem witness_ServiceAndJournalCommands_10 : ∃ (s : State) (page checkPoint t : Nat) (k : PageKind) (n : Nat),
    (s.dev.pageAt page = some (k, n)) ∧ (s.dev.pagePowered k n = true) ∧ (puntyOfKind k = some t) :=
  ⟨Test.ready id, Page.gaf 23, 1, 0, .gaf, 23, by decide +kernel⟩
theorem witness_ServiceAndJournalCommands_11 : ∃ (s : State) (page sender : Nat) (k : PageKind) (n : Nat),
    (s.dev.pageAt page = some (k, n)) ∧ (s.dev.pagePowered k n = true) ∧ (k ≠ .hif) :=
  ⟨Test.ready id, Page.que, 0, .que, 0, by decide +kernel⟩
theorem witness_ServiceAndJournalCommands_12 : ∃ (s : State) (page sender n : Nat),
    (s.dev.pageAt page = some (.hif, n)) ∧ (s.dev.pagePowered .hif n = true) :=
  ⟨Test.ready id, Page.hif 0, 0, 0, by decide +kernel⟩
theorem witness_ServiceAndJournalCommands_13 : ∃ (s : State) (bank row page : Nat) (k : PageKind) (n : Nat),
    (bank < 384) ∧ (row < 1024) ∧ (s.dev.pageAt page = some (k, n)) :=
  ⟨Test.ready id, 383, 1023, Page.cru, .cru, 0, by decide +kernel⟩
theorem witness_ServiceAndJournalCommands_14 : ∃ (s : State) (bank row page : Nat) (k : PageKind) (n : Nat),
    (bank < 640) ∧ (row < 1024) ∧ (s.dev.pageAt page = some (k, n)) ∧ (((Sparse.get (blank []) s.dev.ft.rowErrors (bank * 1024 + row) ++ [s.dev.now]).filter (fun t => decide (s.dev.now < t + dayNs))).length < 3) :=
  ⟨Test.ready id, 639, 1023, Page.cru, .cru, 0, by decide +kernel⟩
theorem witness_ServiceAndJournalCommands_15 : ∃ (s : State) (bank row page : Nat) (k : PageKind) (n : Nat),
    (bank < 640) ∧ (row < 1024) ∧ (s.dev.pageAt page = some (k, n)) ∧ (3 ≤ ((Sparse.get (blank []) s.dev.ft.rowErrors (bank * 1024 + row) ++ [s.dev.now]).filter (fun t => decide (s.dev.now < t + dayNs))).length) :=
  ⟨Test.ready (fun d => d.setFt { d.ft with rowErrors := [(639 * 1024 + 1023, [0, 0])] }), 639, 1023, Page.cru, .cru, 0, by decide +kernel⟩
theorem witness_ServiceAndJournalCommands_16 : ∃ (s : State) (r : FaultRecord) (rest : List FaultRecord),
    (s.dev.journal.queue = r :: rest) ∧ (s.dev.journal.suppressed.any (· != 0) = false) :=
  ⟨Test.ready (fun d => { d with journal := { d.journal with queue := [{ typ := 0x05 }] } }), { typ := 0x05 }, [], by decide +kernel⟩
theorem witness_ServiceAndJournalCommands_17 : ∃ (s : State) (req : Requester) (seq : Word),
    (s.dev.unreachable (Page.flt + Reg.FLT_RD_SEQ_SEQ.off) = none) ∧ (131072 < (s.dev.journal.seq + 2 ^ 32 - seq.toNat) % 2 ^ 32) ∧ (s.dev.asleep req = false) :=
  ⟨Test.ready id, .welbor, 1#32, by decide +kernel⟩
theorem witness_ServiceAndJournalCommands_18 : ∃ (s : State) (req : Requester) (seq : Word),
    (s.dev.unreachable (Page.flt + Reg.FLT_RD_SEQ_SEQ.off) = none) ∧ (1 ≤ (s.dev.journal.seq + 2 ^ 32 - seq.toNat) % 2 ^ 32) ∧ ((s.dev.journal.seq + 2 ^ 32 - seq.toNat) % 2 ^ 32 ≤ 131072) ∧ ((Sparse.get (blank []) s.dev.journal.mram (seq.toNat % 131072)).getD 0 0 = seq) ∧ (Sparse.get (blank []) s.dev.journal.mram (seq.toNat % 131072) ≠ []) ∧ (s.dev.asleep req = false) :=
  ⟨Test.ready (fun d => { d with journal := { d.journal with seq := 1, mram := [(0, [0#32])] } }), .welbor, 0#32, by decide +kernel⟩
theorem witness_ServiceAndJournalCommands_19 : ∃ (s : State) (island margin : Nat),
    (island < islandCount) ∧ (margin < 30) ∧ (s.dev.supply island < 830) :=
  ⟨State.reset, 8, 29, by decide +kernel⟩
theorem witness_ServiceAndJournalCommands_20 : ∃ (s : State) (island margin : Nat),
    (island < islandCount) ∧ (60 < margin) ∧ (750 < s.dev.supply island) :=
  ⟨State.reset, 8, 61, by decide +kernel⟩
theorem witness_ServiceAndJournalCommands_21 : ∃ (s : State) (island margin : Nat),
    (island < islandCount) ∧ (30 ≤ margin ∨ s.dev.supply island = 830) ∧ (margin ≤ 60 ∨ s.dev.supply island = 750) ∧ (20 ≤ margin) :=
  ⟨State.reset, 8, 30, by decide +kernel⟩

end Sys2Proof.Machine
end

/-!
The block as a whole: the effect of every command on the device, its frame, the safety of every run, and memories that read
back what was written.
-/

namespace Sys2Proof.Machine

/-! ## Every command is an effect on the device -/

/-- What a command makes of the device: the device that `exec` answers when nothing else waits. -/
def effectOf (c : Instr) (d : Dev) : Dev :=
  match exec c { dev := d, pending := [] } with
  | .next t => t.dev
  | .fault _ | .refused _ => d

/-- The meaning of each command is a `become` of a device computed from the old device only, so it may be computed before an
empty queue. -/
theorem exec_eq_become (c : Instr) (s : State) : exec c s = s.become (effectOf c s.dev) := by
  cases c <;> rfl

/-- Settles O3: the effect is `effectOf`. -/
theorem everyCommandIsAnEffectOnTheDevice : Obligations.EveryCommandIsAnEffectOnTheDevice := by
  unfold Obligations.EveryCommandIsAnEffectOnTheDevice
  intro c
  exact ⟨effectOf c, fun s => (exec_eq_become c s).trans (State.become_eq s _)⟩

/-! ## No run stops -/

theorem step_idle {s : State} (h : s.pending = []) : step s = .next { s with dev := s.dev.advance } := by
  simp only [step, h, State.become_eq]

theorem step_command {s : State} {c : Instr} {rest : List Instr} (h : s.pending = c :: rest) :
    step s = .next { dev := effectOf c s.dev, pending := rest } := by
  simp only [step, h, exec_eq_become, State.become_eq]

theorem step_answers_next (s : State) : ∃ t, step s = .next t := by
  cases h : s.pending with
  | nil => exact ⟨_, step_idle h⟩
  | cons c rest => exact ⟨_, step_command h⟩

theorem runs_succ {k : Nat} {s t : State} (h : step s = .next t) : runs (k + 1) s = runs k t := by
  simp only [runs, h]

theorem runs_isSome (k : Nat) (s : State) : (runs k s).isSome := by
  induction k generalizing s with
  | zero => rfl
  | succ k ih =>
    obtain ⟨t, ht⟩ := step_answers_next s
    rw [runs_succ ht]
    exact ih t

/-- Settles O4, by induction on the number of steps: each of them answers a next state. -/
theorem everyRunIsSafe : Obligations.EveryRunIsSafe := by
  unfold Obligations.EveryRunIsSafe
  exact fun s k => runs_isSome k s

/-! ## The frame of every command -/

/-- Settles O6: a command keeps the device with the parts of `commandParts` blanked, hence every part outside them. -/
theorem frameOfEveryCommand : Obligations.FrameOfEveryCommand := by
  unfold Obligations.FrameOfEveryCommand
  intro c s t h
  obtain ⟨hmask, hpending⟩ := exec_frame h
  exact ⟨Dev.same_of_parts hmask, hpending⟩

/-! ## Memories -/

theorem Dev.memoryWf_iff (d : Dev) : d.memoryWf = true ↔
    Memory.wf d.gddr = true ∧ Memory.wf d.die = true ∧ Memory.wf d.host0 = true ∧ Memory.wf d.host1 = true := by
  simp only [Dev.memoryWf, Bool.and_eq_true, and_assoc]

/-- Translating the pages of a request (R282) writes no byte of the host's memory. -/
theorem Dev.translate_host0 (d : Dev) (port : Nat) (attr : ReqAttr) (a n : Nat) :
    (d.translate port attr a n).host0 = d.host0 :=
  Dev.same_of_mask (Dev.translate_mask (T := partSet (partsBut [.host0])) (by decide) d port attr a n) .host0 (by decide)

theorem Dev.hwrite_host0 (d : Dev) (a : Nat) (bs : List Byte) (attr : ReqAttr) :
    (d.hwrite 0 a bs attr).host0 = Memory.write d.host0 a bs :=
  congrArg (Memory.write · a bs) (d.translate_host0 0 attr a bs.length)

/-- Settles O12: each of the three writes is a `Memory.write`, which reads back by `Memory.byte_write`. -/
theorem memoryReadsBackWhatWasWritten : Obligations.MemoryReadsBackWhatWasWritten := by
  unfold Obligations.MemoryReadsBackWhatWasWritten
  refine ⟨fun d a x bs hwf => ?_, fun d a x bs hwf => ?_, fun d a x bs attr hwf => ?_⟩ <;>
    obtain ⟨hgddr, hdie, hhost0, -⟩ := d.memoryWf_iff.1 hwf
  · exact Memory.byte_write bs d.gddr a x hgddr
  · exact Memory.byte_write bs d.die a x hdie
  · rw [Dev.hwrite_host0]
    exact Memory.byte_write bs d.host0 a x hhost0

end Sys2Proof.Machine

/-!
Registers (R29, R37, R39): what a field reads after it was set or counted, and what a write of each access type leaves in it.
-/

namespace Sys2Proof.Machine

/-! ## Fields and counters -/

/-- Settles O13: a field of the written register is `setBits` of it, which `Dev.fget_fset` and `Dev.fget_fset_other` read. -/
theorem registerFieldsReadBack : Obligations.RegisterFieldsReadBack := by
  unfold Obligations.RegisterFieldsReadBack
  exact ⟨fun d p v f hwf hf => d.fget_fset p f v hwf hf, fun d p q v f g hwf hf hother => d.fget_fset_other p q f g v hwf hf hother⟩

theorem Dev.fget_count (d : Dev) (p n : Nat) (f : Fld) (hwf : Sparse.wf resetWord d.regs = true) (hf : f.lo + f.w ≤ 32) :
    (d.count p f n).fget p f = (d.fget p f + n) % 2 ^ f.w :=
  d.fget_fset p f _ hwf hf

theorem Dev.fget_countSat (d : Dev) (p n : Nat) (f : Fld) (hwf : Sparse.wf resetWord d.regs = true) (hf : f.lo + f.w ≤ 32) :
    (d.countSat p f n).fget p f = min (2 ^ f.w - 1) (d.fget p f + n) := by
  have hpos : 0 < 2 ^ f.w := Nat.two_pow_pos f.w
  have hfits : min (2 ^ f.w - 1) (d.fget p f + n) < 2 ^ f.w := by omega
  calc (d.countSat p f n).fget p f = min (2 ^ f.w - 1) (d.fget p f + n) % 2 ^ f.w := d.fget_fset p f _ hwf hf
    _ = min (2 ^ f.w - 1) (d.fget p f + n) := Nat.mod_eq_of_lt hfits

/-- Settles O14: a counter is set to the sum, of which its field keeps the low bits; a saturating one to a number that fits. -/
theorem countersWrapOrSaturate : Obligations.CountersWrapOrSaturate := by
  unfold Obligations.CountersWrapOrSaturate
  refine ⟨fun d p n f => d.fget_count p n f, fun d p n f => d.fget_countSat p n f, fun d p n f hwf hf hmax => ?_⟩
  rw [d.fget_countSat p n f hwf hf, hmax]
  exact Nat.min_eq_left (Nat.le_add_right _ n)

/-! ## Access types -/

/-- A bit of `v` where `m` is set, of `old` elsewhere: the bits of a written field (R29). -/
theorem without_add_and_testBit (old v m i : Nat) :
    (without old m + (v &&& m)).testBit i = if m.testBit i then v.testBit i else old.testBit i := by
  have hdisjoint : without old m &&& (v &&& m) = 0 := by
    apply Nat.eq_of_testBit_eq
    intro j
    simp only [Nat.testBit_and, without_testBit, Nat.zero_testBit]
    cases m.testBit j <;> simp
  rw [add_eq_or hdisjoint, Nat.testBit_or, Nat.testBit_and, without_testBit]
  cases m.testBit i <;> simp

/-- The bits of a register after its field at `lo` was set to an `x` whose bit is `b` where `m` is set and as before elsewhere. -/
theorem setBits_enabled_testBit {old x m lo w : Nat} {b : Nat → Bool} (i : Nat)
    (hx : ∀ j < w, x.testBit j = if m.testBit (lo + j) then b (lo + j) else old.testBit (lo + j)) :
    (setBits old lo w x).testBit i = if lo ≤ i ∧ i < lo + w ∧ m.testBit i = true then b i else old.testBit i := by
  rw [setBits_testBit]
  by_cases hin : lo ≤ i ∧ i < lo + w
  · obtain ⟨hlo, hhi⟩ := hin
    rw [if_pos ⟨hlo, hhi⟩, hx (i - lo) (by omega), show lo + (i - lo) = i by omega]
    simp only [hlo, hhi, true_and]
  · rw [if_neg hin, if_neg (fun h => hin ⟨h.1, h.2.1⟩)]

/-- An enabled bit of a field takes the written bit. -/
theorem setBits_merge_testBit (old v m lo w i : Nat) :
    (setBits old lo w (without (bits old lo w) (bits m lo w) + (bits v lo w &&& bits m lo w))).testBit i
      = if lo ≤ i ∧ i < lo + w ∧ m.testBit i = true then v.testBit i else old.testBit i :=
  setBits_enabled_testBit i fun j hj => by
    simp only [without_add_and_testBit, bits_testBit, hj, decide_true, Bool.true_and]

/-- An enabled bit of a field is cleared by a written 1. -/
theorem setBits_clear_testBit (old v m lo w i : Nat) :
    (setBits old lo w (without (bits old lo w) (bits v lo w &&& bits m lo w))).testBit i
      = if lo ≤ i ∧ i < lo + w ∧ m.testBit i = true then old.testBit i && !v.testBit i else old.testBit i :=
  setBits_enabled_testBit (b := fun i => old.testBit i && !v.testBit i) i fun j hj => by
    simp only [without_testBit, Nat.testBit_and, bits_testBit, hj, decide_true, Bool.true_and]
    cases m.testBit (lo + j) <;> simp

/-- A field with no enabled bit keeps its register (R29). -/
theorem FieldRow.write_disabled (r : FieldRow) (old v m : Nat) (h : bits m r.lo r.w = 0) : r.write old v m = old := by
  simp only [FieldRow.write, h, if_true]

/-- A field with no enabled bit covers no enabled bit. -/
theorem testBit_of_bits_eq_zero {m lo w i : Nat} (h : bits m lo w = 0) (hlo : lo ≤ i) (hhi : i < lo + w) : m.testBit i = false := by
  have hbit := bits_testBit m lo w (i - lo)
  rw [h, Nat.zero_testBit, show lo + (i - lo) = i by omega, decide_eq_true (show i - lo < w by omega), Bool.true_and] at hbit
  exact hbit.symm

theorem FieldRow.write_enabled (r : FieldRow) (old v m : Nat) (hm : bits m r.lo r.w ≠ 0) (hfix : r.fix = .keep) :
    r.write old v m =
      match r.acc with
      | .rw | .rwp => setBits old r.lo r.w (without (bits old r.lo r.w) (bits m r.lo r.w) + (bits v r.lo r.w &&& bits m r.lo r.w))
      | .w1c => setBits old r.lo r.w (without (bits old r.lo r.w) (bits v r.lo r.w &&& bits m r.lo r.w))
      | _ => old := by
  simp only [FieldRow.write, hm, if_false, hfix, Fix.apply] <;> rfl

/-- Settles O15, by the access types: RW and RWP merge, W1C clears, the others keep. -/
theorem accessTypesOfAWrite : Obligations.AccessTypesOfAWrite := by
  unfold Obligations.AccessTypesOfAWrite
  intro r old v m i _ _ hfix _
  simp only [bitAt_eq]
  by_cases hm : bits m r.lo r.w = 0
  · rw [r.write_disabled old v m hm, if_neg]
    rintro ⟨hlo, hhi, hbit⟩
    simp [testBit_of_bits_eq_zero hm hlo hhi] at hbit
  · rw [r.write_enabled old v m hm hfix]
    cases r.acc with
    | rw | rwp => exact setBits_merge_testBit old v m r.lo r.w i
    | w1c => exact setBits_clear_testBit old v m r.lo r.w i
    | ro | rc | sc | wo | rs => exact (ite_self _).symm

end Sys2Proof.Machine

/-!
Register accesses (R28-R30, R37, R40-R43, R46-R48, R474): when an access reaches its register, and what it does there.
-/

namespace Sys2Proof.Machine

/-! ## Accesses that reach their page -/

/-- A page that is populated and powered can be reached (R48). -/
theorem Dev.unreachable_of_powered {d : Dev} {a : Nat} {k : PageKind} {n : Nat} (hpage : d.pageAt a = some (k, n))
    (hpower : d.pagePowered k n = true) : d.unreachable a = none := by
  simp only [Dev.unreachable, hpage, hpower, if_true]

theorem Dev.onWrite_of_reached {d : Dev} {req : Requester} {a : Nat} (f : Dev → Dev) (hreach : d.unreachable a = none)
    (hawake : d.asleep req = false) : d.onWrite req a f = f d := by
  simp [Dev.onWrite, hreach, hawake]

theorem Dev.onHeader_of_reached {d : Dev} {req : Requester} {page off : Nat} {k : PageKind} {n : Nat}
    (f : Dev → PageKind → Nat → Nat → Dev) (hreach : d.unreachable (pageBase page + off) = none)
    (hpage : d.pageAt page = some (k, n)) (hawake : d.asleep req = false) :
    d.onHeader req page off f = f d k n (pageBase page) := by
  rw [Dev.onHeader, Dev.onWrite_of_reached _ hreach hawake]
  simp only [hpage]

theorem Dev.onWmb_of_reached {d : Dev} {req : Requester} {page : Nat} {k : PageKind} {n : Nat}
    (f : Dev → PageKind → Nat → Nat → Dev) (hreach : d.unreachable (pageBase page + 0x20) = none)
    (hpage : d.pageAt page = some (k, n)) (hwmb : k.hasWmb = true) (hawake : d.asleep req = false) :
    d.onWmb req page f = f d k n (pageBase page) := by
  rw [Dev.onWmb, Dev.onWrite_of_reached _ hreach hawake]
  simp only [hpage, hwmb, if_true]

/-! ## Writes and reads of a register -/

theorem without_zero (m : Nat) : without m 0 = m := by rw [without, Nat.and_zero, Nat.sub_zero]

/-- A write of a body register with no closed field writes the enabled bits of the value (R29, R48). -/
theorem Dev.writeReg_of_open {d : Dev} {req : Requester} {addr : Nat} {k : PageKind} {n base off v m : Nat} (hm : m ≠ 0)
    (hbody : 0x40 ≤ off) (hopen : d.closedMask req k off = 0) :
    d.writeReg req addr k n base off v m = d.writeBody req addr k n base off (v &&& m) m := by
  have hreach : d.reachesClosed req k off (v &&& m) m = false := by
    simp [Dev.reachesClosed, hopen]
  simp only [Dev.writeReg, if_neg hm, if_neg (Nat.not_lt.2 hbody), hopen, without_zero, hreach, Bool.false_eq_true, if_false]

/-- The kinds of page whose body registers do nothing but store what is written. -/
theorem Dev.writeBody_of_stores (d : Dev) (req : Requester) (addr : Nat) {k : PageKind} (n base off v m : Nat)
    (hk : k = .gctl ∨ k = .otp ∨ k = .cls ∨ k = .tbl ∨ k = .cru ∨ k = .leh ∨ k = .lehg) :
    d.writeBody req addr k n base off v m = d.storeFields k base off v m := by
  rcases hk with rfl | rfl | rfl | rfl | rfl | rfl | rfl <;> rfl

theorem Dev.writeAt_of_reached {d : Dev} {req : Requester} {addr : Nat} {k : PageKind} {n : Nat} (v m : Nat)
    (hmap : addr < 0x1000000) (hplain : isForwarding addr = false) (hpage : d.pageAt addr = some (k, n))
    (hpower : d.pagePowered k n = true) (hawake : d.asleep req = false) :
    d.writeAt req addr v m
      = d.writeReg req addr k n (pageBase addr) (effOffset k.bodyLog2 (offsetOf addr / 4 * 4)) v m := by
  simp only [Dev.writeAt, if_neg (Nat.not_le.2 hmap), hawake, hplain, Bool.false_eq_true, if_false,
    Dev.onWrite_of_reached _ (Dev.unreachable_of_powered hpage hpower) hawake, hpage]

theorem Dev.answerRead_of_reached {d : Dev} {req : Requester} {addr : Nat} {k : PageKind} {n : Nat} (m : Nat)
    (hmap : addr < 0x1000000) (hplain : isForwarding addr = false) (hpage : d.pageAt addr = some (k, n))
    (hpower : d.pagePowered k n = true) (hawake : d.asleep req = false) :
    d.answerRead req addr m =
      (d.readEffect req k n (pageBase addr) (effOffset k.bodyLog2 (offsetOf addr / 4 * 4))).emit (.readData (BitVec.ofNat 32
        (d.readReg req k n (pageBase addr) (effOffset k.bodyLog2 (offsetOf addr / 4 * 4)) &&& m))) := by
  have hreach := Dev.unreachable_of_powered hpage hpower
  simp [Dev.answerRead, Dev.readAt, hawake, hplain, hreach, hpage, Nat.not_le.2 hmap]

/-- A read of a powered-down page aborts (R48). -/
theorem Dev.onRead_of_poweredDown {d : Dev} {req : Requester} {addr : Nat} (f : Dev → Dev) (hdown : d.unreachable addr = some 2)
    (hawake : d.asleep req = false) : d.onRead req addr f = d.powerAbort req addr := by
  simp only [Dev.onRead, hawake, hdown, Bool.false_eq_true, if_false]

/-! ## Parity -/

theorem Dev.backgroundScan_of_powered {d : Dev} {page : Nat} {k : PageKind} {n : Nat} (upsets : List (Nat × Nat))
    (hpage : d.pageAt page = some (k, n)) (hpower : d.pagePowered k n = true) :
    d.backgroundScan page upsets = (upsets.foldl (fun (d : Dev) u =>
      if k.rwpMask (effOffset k.bodyLog2 (u.1 / 4 * 4 % 0x1000)) = 0 then d
      else d.upset (k.rwpMask (effOffset k.bodyLog2 (u.1 / 4 * 4 % 0x1000)))
        (pageBase page + effOffset k.bodyLog2 (u.1 / 4 * 4 % 0x1000)) u.2) d).parityCheck k n (pageBase page) false := by
  simp only [Dev.backgroundScan, Dev.unreachable_of_powered hpage hpower, hpage]

theorem Dev.scanNow_of_idle {d : Dev} {k : PageKind} {n base : Nat} (hidle : d.fbit base Hdr.scanBusy = false) :
    d.scanNow k n base = ((d.fset base Hdr.scanNow 1).scanBegins k base).parityCheck k n base true := by
  simp only [Dev.scanNow, hidle, Bool.false_eq_true, if_false]

theorem Dev.groupScan_of_group {d : Dev} {region g : Nat} (upsets : List (Nat × Nat)) (hregion : region < 14) (hg : g < 15) :
    d.groupScan region g upsets = (upsets.foldl (fun (d : Dev) u =>
      d.upset (groupBits region (u.1 % 2)) (groupMask region g (u.1 % 2)) u.2) d).groupCheck region g := by
  rw [Dev.groupScan, if_neg (by omega)]

/-! ## The wide-value mailbox -/

/-- A capture of an open index answers with the value that it takes (R43); only that of a MAC's stamp does more. -/
theorem Dev.wmbCapture_of_open {d : Dev} {req : Requester} {k : PageKind} {n base i : Nat} {w : WideKind} (hmac : k ≠ .mac)
    (hkind : (d.wmbSelect base i).wideKind k n i = some w) (hopen : wideClosed req k i = false) :
    d.wmbCapture req k n base i = ((d.wmbSelect base i).wideTake k base i).2.wmbAnswer base
      (((d.wmbSelect base i).wideTake k base i).1 % 2 ^ w.width) := by
  simp [Dev.wmbCapture, hmac, hkind, hopen]

/-- A commit of an open, writable index whose value the page accepts puts the value there (R43). -/
theorem Dev.wmbCommit_of_accepted {d : Dev} {req : Requester} {addr : Nat} {k : PageKind} {n base i : Nat} {w : WideKind}
    (hkind : (d.wmbSelect base i).wideKind k n i = some w) (hwritable : w.writable = true) (hopen : wideClosed req k i = false)
    (haccept : (d.wmbSelect base i).wideAccepts k base i ((d.wmbSelect base i).wmbData base % 2 ^ w.width) = true) :
    d.wmbCommit req addr k n base i
      = ((d.wmbSelect base i).widePut k base i ((d.wmbSelect base i).wmbData base % 2 ^ w.width)).wmbDone base := by
  simp [Dev.wmbCommit, hkind, hwritable, hopen, haccept]

/-! ## Forwarding pages -/

/-- A write to a forwarding page that is not of a mask writes every target (R46). -/
theorem Dev.broadcastWrite_of_targets {d : Dev} {req : Requester} {addr : Nat} (v m : Nat) (hmask : maskRegister addr = none) :
    d.broadcastWrite req addr v m
      = ((d.checkMasks addr).targets addr).foldl (fun (d : Dev) p => d.forwardWrite req addr p v m) (d.checkMasks addr) := by
  simp only [Dev.broadcastWrite, hmask]

/-! ## The commands -/

/-- Settles O21: each command reaches its page, and the rule of that access gives its answer. -/
theorem registerCommandsComplete : Obligations.RegisterCommandsComplete := by
  unfold Obligations.RegisterCommandsComplete
  refine ⟨?registerWrite, ?counterReadClear, ?parityBackgroundScan, ?scanNow, ?wmbCapture, ?wmbCommit, ?broadcastWrite,
    ?broadcastRead, ?groupMaskParityScan, ?poweredDownPageRead⟩
  case registerWrite =>
    intro s req addr value be k n hmap hplain hpage hpower hk hbody hm hopen hawake
    refine congrArg s.become ?_
    rw [Dev.writeAt_of_reached _ _ hmap hplain hpage hpower hawake, Dev.writeReg_of_open hm hbody hopen,
      Dev.writeBody_of_stores _ _ _ _ _ _ _ _ hk]
  case counterReadClear =>
    intro s req addr be k n hmap hplain hpage hpower hawake
    exact congrArg s.become (Dev.answerRead_of_reached (byteMask be) hmap hplain hpage hpower hawake)
  case parityBackgroundScan =>
    intro s page upsets k n hpage hpower
    exact congrArg s.become (Dev.backgroundScan_of_powered upsets hpage hpower)
  case scanNow =>
    intro s req page k n hparity hfault hpage hpower hidle hawake
    constructor
    · refine congrArg s.become ?_
      rw [Dev.onHeader_of_reached (off := Hdr.parity) _ (Dev.unreachable_of_powered hparity hpower) hpage hawake,
        Dev.scanNow_of_idle hidle]
    · refine congrArg s.become ?_
      rw [Dev.onHeader_of_reached (off := Hdr.fault) _ (Dev.unreachable_of_powered hfault hpower) hpage hawake,
        Dev.clearCfgParity]
  case wmbCapture =>
    intro s req page index k n w hsel hpage hpower hwmb hmac hkind hopen hawake
    refine congrArg s.become ?_
    rw [Dev.onWmb_of_reached _ (Dev.unreachable_of_powered hsel hpower) hpage hwmb hawake, Dev.wmbCapture_of_open hmac hkind hopen]
  case wmbCommit =>
    intro s req page index k n w hsel hpage hpower hwmb hkind hwritable hopen haccept hawake
    refine congrArg s.become ?_
    rw [Dev.onWmb_of_reached _ (Dev.unreachable_of_powered hsel hpower) hpage hwmb hawake,
      Dev.wmbCommit_of_accepted hkind hwritable hopen haccept]
  case broadcastWrite =>
    intro s req addr value be hforward hmask hawake
    refine congrArg s.become ?_
    rw [if_pos (by simp [hforward, hawake]), Dev.broadcastWrite_of_targets _ _ hmask]
  case broadcastRead =>
    intro s req addr hforward hawake
    refine congrArg s.become ?_
    simp only [hawake, hforward, Bool.false_eq_true, if_false, if_true]
  case groupMaskParityScan =>
    intro s region group upsets hregion hgroup
    exact congrArg s.become (Dev.groupScan_of_group upsets hregion hgroup)
  case poweredDownPageRead =>
    intro s req addr hawake hdown
    refine congrArg s.become ?_
    rw [if_pos hdown, Dev.onRead_of_poweredDown _ hdown hawake]

end Sys2Proof.Machine

/-!
Service, the journal, SRAM rows and ageing (R423, R433-R443): what each command makes of a device that is ready for it.
-/

namespace Sys2Proof.Machine

/-! ## Requests for service (R433) -/

/-- A request that is reached shows its fields, does what it is answered with, and shows the code. -/
theorem Dev.svcRequest_of_reached {d d' : Dev} {req : Requester} {action code inst c : Nat} {f : Dev → Nat × Dev}
    (hreach : d.unreachable (Page.svc + Reg.SVC_REQ_GO.off) = none) (hawake : d.asleep req = false)
    (hf : f (((d.fset Page.svc Reg.SVC_REQ_ACTION action).fset Page.svc Reg.SVC_REQ_TYPE code).fset Page.svc
      Reg.SVC_REQ_INSTANCE inst) = (c, d')) :
    d.svcRequest req action code inst f = d'.fset Page.svc Reg.SVC_REQ_STAT_CODE c := by
  rw [Dev.svcRequest, Dev.onWrite_of_reached _ hreach hawake]
  simp only [hf]

theorem Dev.svcOut_of_accepted {d : Dev} {req : Requester} {type inst t : Nat}
    (hreach : d.unreachable (Page.svc + Reg.SVC_REQ_GO.off) = none) (hawake : d.asleep req = false) (ht : puntyOfType type = some t)
    (hcode : (((d.fset Page.svc Reg.SVC_REQ_ACTION 0).fset Page.svc Reg.SVC_REQ_TYPE type).fset Page.svc Reg.SVC_REQ_INSTANCE
      inst).svcOutCode req type inst = Code.ok) :
    d.svcOut req type inst = ((((d.fset Page.svc Reg.SVC_REQ_ACTION 0).fset Page.svc Reg.SVC_REQ_TYPE type).fset Page.svc
      Reg.SVC_REQ_INSTANCE inst).svcStart t inst).fset Page.svc Reg.SVC_REQ_STAT_CODE Code.ok := by
  refine Dev.svcRequest_of_reached hreach hawake ?_
  simp only [hcode, if_true, ht, Option.getD_some]

theorem Dev.svcIn_of_passed {d : Dev} {req : Requester} {type inst t : Nat}
    (hreach : d.unreachable (Page.svc + Reg.SVC_REQ_GO.off) = none) (hawake : d.asleep req = false) (ht : puntyOfType type = some t)
    (hinst : inst < puntyCount t)
    (hout : (((d.fset Page.svc Reg.SVC_REQ_ACTION 1).fset Page.svc Reg.SVC_REQ_TYPE type).fset Page.svc Reg.SVC_REQ_INSTANCE
      inst).fget Page.svc (puntyState t) = svcStanding)
    (hmine : (((d.fset Page.svc Reg.SVC_REQ_ACTION 1).fset Page.svc Reg.SVC_REQ_TYPE type).fset Page.svc Reg.SVC_REQ_INSTANCE
      inst).fget Page.svc (puntyInst t) = inst)
    (hpassed : (((d.fset Page.svc Reg.SVC_REQ_ACTION 1).fset Page.svc Reg.SVC_REQ_TYPE type).fset Page.svc Reg.SVC_REQ_INSTANCE
      inst).fget Page.svc (puntyUnitState t) = unitPassed) :
    d.svcIn req type inst = ((((d.fset Page.svc Reg.SVC_REQ_ACTION 1).fset Page.svc Reg.SVC_REQ_TYPE type).fset Page.svc
      Reg.SVC_REQ_INSTANCE inst).svcBack t).fset Page.svc Reg.SVC_REQ_STAT_CODE Code.ok := by
  refine Dev.svcRequest_of_reached hreach hawake ?_
  simp only [ht, if_neg (Nat.not_le.2 hinst), hout, hmine, hpassed, and_self, if_true]

/-! ## The steps of service (R433-R436) -/

/-- The switch to the punty takes place when SYNC ends: of a gaffer or LEH cluster its program store or its tests come first. -/
theorem Dev.svcSynced_of_sync {d : Dev} {t : Nat} (hsync : d.fget Page.svc (puntyState t) = svcSync) :
    d.svcSynced t = ((if t = puntyGaf then d.copyStore (d.fget Page.svc (puntyInst t)) (puntyCount t)
      else if t = puntyLeh then d.testCluster (puntyCount t) else d).fset Page.svc (puntyState t) svcStanding).fset Page.svc
        (puntyUnitState t) unitDrain := by
  simp only [Dev.svcSynced, hsync, if_true]

/-- The switch back from the punty, of a unit with no state of its own. -/
theorem Dev.svcSynced_of_return {d : Dev} {t : Nat} (hgaf : t ≠ puntyGaf) (hleh : t ≠ puntyLeh)
    (hreturn : d.fget Page.svc (puntyState t) = svcReturn) (hswitch : (d.punty t).switchedBack = false) :
    d.svcSynced t = d.setPunty t { d.punty t with switchedBack := true } := by
  simp [Dev.svcSynced, hreturn, hswitch, hgaf, hleh, svcReturn, svcSync]

theorem Dev.svcDrained_of_standing {d : Dev} {t : Nat} (hout : d.fget Page.svc (puntyState t) = svcStanding)
    (hdrain : d.fget Page.svc (puntyUnitState t) = unitDrain) (hidle : d.unitBusy t (d.fget Page.svc (puntyInst t)) = false) :
    d.svcDrained t = d.fset Page.svc (puntyUnitState t) unitBist := by
  simp [Dev.svcDrained, hout, hdrain, hidle]

theorem Dev.svcDrained_of_return {d : Dev} {t : Nat} (hreturn : d.fget Page.svc (puntyState t) = svcReturn)
    (hswitch : (d.punty t).switchedBack = true) (hidle : d.unitBusy t (puntyCount t) = false) :
    d.svcDrained t = ((d.fset Page.svc (puntyState t) svcFree).setPunty t {}).svcRecord t (d.fget Page.svc (puntyInst t)) 1 4
      false := by
  simp [Dev.svcDrained, hreturn, hswitch, hidle, svcReturn, svcStanding]

/-- BIST of a unit that is out of service ends in FAILED or PASSED; a PASSED one returns by itself under AUTO_RETURN. -/
theorem Dev.svcTested_of_bist {d : Dev} {t : Nat} (pass : Bool) (hout : d.fget Page.svc (puntyState t) = svcStanding)
    (hbist : d.fget Page.svc (puntyUnitState t) = unitBist) :
    d.svcTested t pass =
      let n := d.fget Page.svc (puntyInst t)
      let passed := (((d.bistGate t n).fset Page.svc (puntyUnitState t) unitPassed).clearFences t n).svcRecord t n 0 5 false
      if pass then (if passed.fbit Page.svc Reg.SVC_CTL_AUTO_RETURN then passed.svcBack t else passed)
      else (((d.bistGate t n).fset Page.svc (puntyUnitState t) unitFailed).pulse 485).svcRecord t n 0 5 true := by
  simp only [Dev.svcTested, hout, hbist, ne_eq, not_true_eq_false, or_self, if_false]

/-! ## Logic and crossing faults -/

theorem Dev.logicFault_of_covered {d : Dev} {page t : Nat} {k : PageKind} {n : Nat} (check : Nat)
    (hpage : d.pageAt page = some (k, n)) (hpower : d.pagePowered k n = true) (ht : puntyOfKind k = some t) :
    d.logicFault page check = (d.journalAdd
      { typ := k.typeCode, inst := n, kind := Kind.logic, cls := 2, outcome := 0xFF, detail := [check] }).unitFault t n := by
  simp [Dev.logicFault, hpage, hpower, ht]

/-- A crossing error whose retry is good latches XING (R36), and is a corrected internal error of a host port. -/
theorem Dev.crossingError_of_good {d : Dev} {page : Nat} {k : PageKind} {n : Nat} (sender : Nat)
    (hpage : d.pageAt page = some (k, n)) (hpower : d.pagePowered k n = true) :
    d.crossingError page sender true = if k = .hif then
        (d.latchFault (pageBase page) faultXing).aerCorrectable n 0 AerBit.correctedInternal []
      else d.latchFault (pageBase page) faultXing := by
  simp [Dev.crossingError, hpage, hpower]

/-! ## SRAM rows -/

theorem execSramError_of_row {bank row : Nat} (page : Nat) (corrected : Bool) (s : State) (hbank : bank < 640) (hrow : row < 1024) :
    exec (.sramError bank row page corrected) s = s.become (s.dev.sramError bank row page corrected) :=
  congrArg s.become (if_pos ⟨hbank, hrow⟩)

/-- An uncorrectable error in a bank that holds neither tree store nor table SRAM. -/
theorem Dev.sramError_of_uncorrected {d : Dev} {bank page : Nat} {k : PageKind} {n : Nat} (row : Nat) (hbank : bank < 384)
    (hpage : d.pageAt page = some (k, n)) :
    d.sramError bank row page false = ((d.latchFault (pageBase page) faultSramUe).journalAdd
      { typ := k.typeCode, inst := n, kind := Kind.sramUe, cls := 2, outcome := 0xFF, detail := [bank, row] }).spareRow bank row := by
  simp [Dev.sramError, hpage, show ¬ 512 ≤ bank by omega, show ¬ 384 ≤ bank by omega]

/-- A corrected error joins those of its row within the last day; the third of them spares the row. -/
theorem Dev.sramError_of_corrected {d : Dev} {page : Nat} {k : PageKind} {n : Nat} (bank row : Nat)
    (hpage : d.pageAt page = some (k, n)) :
    d.sramError bank row page true =
      let times := (Sparse.get (blank []) d.ft.rowErrors (bank * 1024 + row) ++ [d.now]).filter
        (fun t => decide (d.now < t + dayNs))
      let latched := (d.setFt { d.ft with rowErrors := Sparse.set (blank []) d.ft.rowErrors (bank * 1024 + row) times }).latchFault
        (pageBase page) faultSramCe
      if 3 ≤ times.length then latched.spareRow bank row else latched := by
  simp only [Dev.sramError, hpage, if_true]

/-! ## The journal -/

/-- With no record suppressed, the head of the queue is written, and a waiting record takes the freed place (R439). -/
theorem Dev.journalWrite_of_queued {d : Dev} {r : FaultRecord} {rest : List FaultRecord} (hqueue : d.journal.queue = r :: rest)
    (hnone : d.journal.suppressed.any (· != 0) = false) :
    d.journalWrite = ({ d.journalPut r with
      journal := { (d.journalPut r).journal with
        queue := rest ++ (d.journalPut r).journal.waiting.take 1
        waiting := (d.journalPut r).journal.waiting.drop 1
        written := (d.journalPut r).journal.written + 1 } } : Dev).showQueueDepth := by
  simp only [Dev.journalWrite, hqueue, hnone, Bool.false_eq_true, if_false]

/-- A record that is not among the last 131,072 is gone (R440). -/
theorem Dev.journalSelect_of_old {d : Dev} {seq : Nat} (hage : 131072 < (d.journal.seq + 2 ^ 32 - seq) % 2 ^ 32) :
    d.journalSelect seq = ((d.fset Page.flt Reg.FLT_RD_SEQ_SEQ seq).fset Page.flt Reg.FLT_RD_STAT_VALID 0).fset Page.flt
      Reg.FLT_RD_STAT_GONE 1 :=
  if_neg fun ⟨_, hrecent, _⟩ => absurd hrecent (Nat.not_le.2 hage)

/-- A record among the last 131,072 that the MRAM holds is shown (R440). -/
theorem Dev.journalSelect_of_held {d : Dev} {seq : Nat} (hpast : 1 ≤ (d.journal.seq + 2 ^ 32 - seq) % 2 ^ 32)
    (hrecent : (d.journal.seq + 2 ^ 32 - seq) % 2 ^ 32 ≤ 131072)
    (hseq : (Sparse.get (blank []) d.journal.mram (seq % 131072)).getD 0 0 = BitVec.ofNat 32 seq)
    (hheld : Sparse.get (blank []) d.journal.mram (seq % 131072) ≠ []) :
    d.journalSelect seq = (((List.range 16).foldl (fun (d' : Dev) i => d'.fset Page.flt (Reg.FLT_RD_DATA.nth 4 i)
      (wordAt (Sparse.get (blank []) d.journal.mram (seq % 131072)) i)) (d.fset Page.flt Reg.FLT_RD_SEQ_SEQ seq)).fset Page.flt
        Reg.FLT_RD_STAT_VALID 1).fset Page.flt Reg.FLT_RD_STAT_GONE 0 :=
  if_pos ⟨hpast, hrecent, hseq, hheld⟩

/-! ## Ageing -/

/-- An island's supply and margin after a step, before it is journaled (R442). -/
def Dev.ageTo (d : Dev) (i margin supply : Nat) : Dev :=
  (d.setFt { d.ft with
    supply := Sparse.set (fun _ => 790) d.ft.supply i supply
    margin := (d.ft.margin.filter (fun e => e.1 != i)) ++ [(i, margin)] }).showMargin

/-- An island below its greatest supply, or with a margin that suffices, does not report its age. -/
theorem Dev.avsStep_of_young {d : Dev} {i margin v : Nat} (hyoung : d.supply i ≠ 830 ∨ 20 ≤ margin)
    (hv : (if margin < 30 ∧ d.supply i < 830 then d.supply i + 5
      else if 60 < margin ∧ 750 < d.supply i then d.supply i - 5 else d.supply i) = v) :
    d.avsStep i margin = if v ≠ d.supply i then (d.ageTo i margin v).journalAdd
        { typ := 0x08, inst := 0, kind := Kind.avs, cls := 2, outcome := 0xFF, detail := [i, v] }
      else d.ageTo i margin v := by
  simp only [Dev.avsStep, hv]
  exact if_neg (by omega)

/-- A supply that moves is journaled. -/
theorem Dev.avsStep_of_moved {d : Dev} {i margin v : Nat} (hyoung : d.supply i ≠ 830 ∨ 20 ≤ margin)
    (hv : (if margin < 30 ∧ d.supply i < 830 then d.supply i + 5
      else if 60 < margin ∧ 750 < d.supply i then d.supply i - 5 else d.supply i) = v) (hmoved : v ≠ d.supply i) :
    d.avsStep i margin = (d.ageTo i margin v).journalAdd
      { typ := 0x08, inst := 0, kind := Kind.avs, cls := 2, outcome := 0xFF, detail := [i, v] } := by
  rw [Dev.avsStep_of_young hyoung hv, if_pos hmoved]

theorem execAvsStep_of_island {island : Nat} (margin : Nat) (s : State) (h : island < islandCount) :
    exec (.avsStep island margin) s = s.become (s.dev.avsStep island margin) :=
  congrArg s.become (if_pos h)

/-! ## The commands -/

/-- Settles O60: each command finds its unit, page, record or row as the clause says, and the rule of that case gives its answer. -/
theorem serviceAndJournalCommands : Obligations.ServiceAndJournalCommands := by
  unfold Obligations.ServiceAndJournalCommands
  refine ⟨?svcOut, ?svcIn, ?svcSyncEnd, ?svcSyncEndLeh, ?svcDrainEnd, ?svcSyncEndBack, ?svcDrainEndBack, ?svcBistFailed,
    ?svcBistPassed, ?logicParityFault, ?crossingParityError, ?crossingParityErrorHif, ?sramUncorrected, ?sramCorrected,
    ?sramThird, ?journalRecordWrite, ?journalReadGone, ?journalReadHeld, ?avsRaised, ?avsLowered, ?avsKept⟩
  case svcOut =>
    intro s req type inst t hreach ht hcode hawake
    exact congrArg s.become (Dev.svcOut_of_accepted hreach hawake ht hcode)
  case svcIn =>
    intro s req type inst t hreach ht hinst hout hmine hpassed hawake
    exact congrArg s.become (Dev.svcIn_of_passed hreach hawake ht hinst hout hmine hpassed)
  case svcSyncEnd =>
    intro s unit hunit hgaf hleh hsync
    refine congrArg s.become ?_
    rw [if_pos hunit, Dev.svcSynced_of_sync hsync, if_neg hgaf, if_neg hleh]
  case svcSyncEndLeh =>
    intro s hsync
    exact congrArg s.become (Dev.svcSynced_of_sync hsync)
  case svcDrainEnd =>
    intro s unit hunit hout hdrain hidle
    refine congrArg s.become ?_
    rw [if_pos hunit, Dev.svcDrained_of_standing hout hdrain hidle]
  case svcSyncEndBack =>
    intro s unit hunit hgaf hleh hreturn hswitch
    refine congrArg s.become ?_
    rw [if_pos hunit, Dev.svcSynced_of_return hgaf hleh hreturn hswitch]
  case svcDrainEndBack =>
    intro s unit hunit hreturn hswitch hidle
    refine congrArg s.become ?_
    rw [if_pos hunit, Dev.svcDrained_of_return hreturn hswitch hidle]
  case svcBistFailed =>
    intro s unit hunit hout hbist
    exact congrArg s.become ((if_pos hunit).trans ((Dev.svcTested_of_bist false hout hbist).trans (if_neg Bool.false_ne_true)))
  case svcBistPassed =>
    intro s unit hunit hout hbist
    exact congrArg s.become ((if_pos hunit).trans ((Dev.svcTested_of_bist true hout hbist).trans (if_pos rfl)))
  case logicParityFault =>
    intro s page check t k n hpage hpower ht
    exact congrArg s.become (Dev.logicFault_of_covered check hpage hpower ht)
  case crossingParityError =>
    intro s page sender k n hpage hpower hk
    exact congrArg s.become ((Dev.crossingError_of_good sender hpage hpower).trans (if_neg hk))
  case crossingParityErrorHif =>
    intro s page sender n hpage hpower
    exact congrArg s.become (Dev.crossingError_of_good sender hpage hpower)
  case sramUncorrected =>
    intro s bank row page k n hbank hrow hpage
    rw [execSramError_of_row page false s (by omega) hrow, Dev.sramError_of_uncorrected row hbank hpage]
    rfl
  case sramCorrected =>
    intro s bank row page k n hbank hrow hpage hfew
    rw [execSramError_of_row page true s hbank hrow, Dev.sramError_of_corrected bank row hpage]
    exact congrArg s.become (if_neg (Nat.not_le.2 hfew))
  case sramThird =>
    intro s bank row page k n hbank hrow hpage hthree
    rw [execSramError_of_row page true s hbank hrow, Dev.sramError_of_corrected bank row hpage]
    exact congrArg s.become (if_pos hthree)
  case journalRecordWrite =>
    intro s r rest hqueue hnone
    exact congrArg (fun d => s.become d.dropLost) (Dev.journalWrite_of_queued hqueue hnone)
  case journalReadGone =>
    intro s req seq hreach hage hawake
    exact congrArg s.become ((Dev.onWrite_of_reached _ hreach hawake).trans (Dev.journalSelect_of_old hage))
  case journalReadHeld =>
    intro s req seq hreach hpast hrecent hseq hheld hawake
    refine congrArg s.become ((Dev.onWrite_of_reached _ hreach hawake).trans (Dev.journalSelect_of_held hpast hrecent ?_ hheld))
    rw [hseq, BitVec.ofNat_toNat, BitVec.setWidth_eq]
  case avsRaised =>
    intro s island margin hisland hmargin hsupply
    rw [execAvsStep_of_island margin s hisland,
      Dev.avsStep_of_moved (.inl (by omega)) (if_pos ⟨hmargin, hsupply⟩) (by omega)]
    rfl
  case avsLowered =>
    intro s island margin hisland hmargin hsupply
    rw [execAvsStep_of_island margin s hisland, Dev.avsStep_of_moved (.inr (by omega))
      (by rw [if_neg (by omega), if_pos ⟨hmargin, hsupply⟩]) (by omega)]
    rfl
  case avsKept =>
    intro s island margin hisland hhigh hlow hyoung
    rw [execAvsStep_of_island margin s hisland, Dev.avsStep_of_young (v := s.dev.supply island) (.inr hyoung)
      (by rw [if_neg (by omega), if_neg (by omega)]), if_neg (fun h => h rfl)]
    rfl

end Sys2Proof.Machine

/-!
Gaffer instructions (R51, R52, R55-R65, R67, R69, R70): what each does to its context when it breaks no rule, and what issuing it
makes of the device.
-/

namespace Sys2Proof.Machine

/-! ## The contexts of the other cores (R51) -/

/-- A gaffer command issues the next instruction of its core. -/
theorem exec_of_gafferCore {c : Instr} {k : Nat} (hcore : gafferCore c = some k) :
    ∃ (op : Nat) (f : View → Ctx → Issued), ∀ s, exec c s = s.become (s.dev.issue k op f) := by
  unfold gafferCore at hcore
  split at hcore <;> cases hcore <;> exact ⟨_, _, fun _ => rfl⟩

/-- Settles O11: a gaffer command is the issue of its core, which leaves the contexts of the others. -/
theorem contextsOfOtherCoresStay : Obligations.ContextsOfOtherCoresStay := by
  unfold Obligations.ContextsOfOtherCoresStay
  intro c k s t hcore hexec i hi
  obtain ⟨op, f, hissue⟩ := exec_of_gafferCore hcore
  rw [State.become_dev ((hissue s).symm.trans hexec)]
  exact s.dev.ctxAt_issue_ne k op f hi

/-! ## Conditions of branches (R59) -/

theorem condHolds_iff (a b : Word) : (condHolds 0 a b = true ↔ a = b) ∧ (condHolds 1 a b = true ↔ a ≠ b) ∧
    (condHolds 2 a b = true ↔ a.toNat < b.toNat) ∧ (condHolds 3 a b = true ↔ b.toNat ≤ a.toNat) ∧
    (condHolds 4 a b = true ↔ a.toInt < b.toInt) ∧ (condHolds 5 a b = true ↔ b.toInt ≤ a.toInt) ∧
    (condHolds 6 a b = true ↔ a &&& b ≠ 0#32) ∧ (condHolds 7 a b = true ↔ a &&& b = 0#32) :=
  ⟨beq_iff_eq, bne_iff_ne, decide_eq_true_iff, decide_eq_true_iff, decide_eq_true_iff, decide_eq_true_iff, bne_iff_ne,
    beq_iff_eq⟩

theorem insBr_next (v : View) (x : Ctx) : (insBr v x).next =
    if condHolds (bits v.word 15 3) (x.reg (bits v.word 22 4)) (x.reg (bits v.word 18 4)) then { x with pc := bits v.word 0 11 }
    else { x with pc := x.pc + 1 } := rfl

theorem insBri_next (v : View) (x : Ctx) : (insBri v x).next =
    if condHolds (bits v.word 19 3) (x.reg (bits v.word 22 4)) (BitVec.ofNat 32 (bits v.word 11 8)) then
      { x with pc := bits v.word 0 11 }
    else { x with pc := x.pc + 1 } := rfl

/-- Settles O17: each branch jumps when its condition holds, and each condition is the comparison it names. -/
theorem branchConditions : Obligations.BranchConditions := by
  unfold Obligations.BranchConditions
  refine ⟨fun v x a b ha hb => ?_, fun v x a b ha hb => ?_, condHolds_iff⟩
  · rw [insBr_next, ha, hb]
  · rw [insBri_next, ha, hb]

/-! ## Issue -/

/-- What a context sees when it issues the word `w`. -/
def Dev.viewOf (d : Dev) (c : Nat) (x : Ctx) (w : Nat) : View := { d.view c x with word := w }

theorem Dev.viewOf_of_issues {d : Dev} {core c w cost : Nat} {x : Ctx} (h : d.issues core c x w cost = true) :
    d.viewOf c x w = d.view c x := by
  obtain ⟨-, -, hw, -⟩ := (d.issues_iff core c x w cost).1 h
  subst hw
  rfl

/-- The core notes which of its contexts issued, and the instruction takes what effect R70 leaves it. -/
theorem Dev.issue_settles {d : Dev} {core c w op cost : Nat} {x : Ctx} (f : View → Ctx → Issued)
    (h : d.issues core c x w cost = true) (hop : opcodeOf w = op) :
    d.issue core op f = ({ d with lastIssued := Sparse.set (blank 3) d.lastIssued core (c % 4) } : Dev).settleIssue c x
      (f (d.viewOf c x w) x) := by
  rw [Dev.viewOf_of_issues h]
  obtain ⟨hready, hpc, hword, -⟩ := (d.issues_iff core c x w cost).1 h
  have hw : (d.view c x).word = w := hword
  simp only [Dev.issue, hready, if_neg (Nat.not_lt.2 hpc), hw, hop, if_true]

/-- DONE within the cycle limit ends the pass (R67). -/
theorem Dev.settleIssue_ends {d : Dev} {c cost : Nat} {x y : Ctx}
    (hlimit : x.charged + cost ≤ d.fget Page.gafg Reg.GAFG_CYCLE_LIMIT_LIMIT) :
    d.settleIssue c x { cost := cost, next := y, ends := true } = d.donePass c { y with charged := x.charged + cost } := by
  simp only [Dev.settleIssue, if_neg (Nat.not_lt.2 hlimit)]
  rfl

/-- An illegal instruction within the cycle limit ends the pass by ILLEGAL at its own word (R69, R70). -/
theorem Dev.settleIssue_illegal {d : Dev} {c cost sub : Nat} {x y : Ctx} (hpc : x.pc ≤ 2047)
    (hlimit : x.charged + cost ≤ d.fget Page.gafg Reg.GAFG_CYCLE_LIMIT_LIMIT) :
    d.settleIssue c x { cost := cost, illegal := [sub], next := y } = d.raise c x excIllegal sub x.pc := by
  simp only [Dev.settleIssue, if_neg (Nat.not_lt.2 hlimit), Nat.min_eq_left hpc]
  rfl

/-- An issued instruction that breaks no rule gives its context the state that it computes, and charges its cost (R70). -/
theorem Dev.issue_of_does {d : Dev} {core c w op cost : Nat} {x y : Ctx} {f : View → Ctx → Issued}
    (h : d.issues core c x w cost = true) (hop : opcodeOf w = op) (hdoes : f (d.viewOf c x w) x = { cost := cost, next := y }) :
    d.issue core op f = d.issued core c { y with charged := x.charged + cost } := by
  rw [Dev.viewOf_of_issues h] at hdoes
  have hcost : (f (d.view c x) x).cost = cost := by rw [hdoes]
  have hissue := Dev.issue_next (f := f) (by rwa [hcost]) hop (by rw [hdoes]) (by rw [hdoes]) (by rw [hdoes])
  rwa [hdoes] at hissue

section
variable {v : View} {x : Ctx}

/-- Reserved bits that are 0 raise nothing. -/
@[simp] theorem illIf_false (n : Nat) : illIf false n = [] := rfl

/-! ## Registers and immediates -/

theorem formA_legal (f : Word → Word → Word) (carry : Word → Word → Bool) (hres : bits v.word 0 14 = 0) :
    formA f carry v x =
      let a := x.reg (bits v.word 18 4)
      let b := x.reg (bits v.word 14 4)
      { next := { x with g := x.g.set (bits v.word 22 4) (f a b), z := f a b == 0#32, c := carry a b, pc := x.pc + 1 } } := by
  simp only [formA, hres, bne_self_eq_false, illIf_false]
  rfl

theorem formB_legal (f : Word → Word → Word) (carry : Word → Word → Bool) (imm : Nat → Word) {bad : Nat → Bool}
    (hres : bad v.word = false) :
    formB f carry imm bad v x =
      let a := x.reg (bits v.word 18 4)
      let b := imm (bits v.word 0 18)
      { next := { x with g := x.g.set (bits v.word 22 4) (f a b), z := f a b == 0#32, c := carry a b, pc := x.pc + 1 } } := by
  simp only [formB, hres, illIf_false]
  rfl

theorem insMov_legal (hres : bits v.word 0 18 = 0) : insMov v x =
    { next := { x with g := x.g.set (bits v.word 22 4) (x.reg (bits v.word 18 4)), pc := x.pc + 1 } } := by
  simp only [insMov, hres, bne_self_eq_false, illIf_false]
  rfl

theorem insMovi_legal (hres : bits v.word 18 4 = 0) : insMovi v x =
    { next := { x with g := x.g.set (bits v.word 22 4) (BitVec.ofNat 32 (bits v.word 0 18)), pc := x.pc + 1 } } := by
  simp only [insMovi, fS, hres, bne_self_eq_false, illIf_false]
  rfl

theorem insMovhi_legal (hsrc : bits v.word 18 4 = 0) (hres : bits v.word 16 2 = 0) : insMovhi v x =
    { next := { x with
        g := x.g.set (bits v.word 22 4) (BitVec.ofNat 32 (bits v.word 0 16 * 2 ^ 16 + (x.reg (bits v.word 22 4)).toNat % 2 ^ 16))
        pc := x.pc + 1 } } := by
  simp only [insMovhi, fS, hsrc, hres, bne_self_eq_false, Bool.or_self, illIf_false]
  rfl

/-- A bit field that lies in the register is legal (R57, R58). -/
theorem xIllegal_of_fits {w : Nat} (hres : bits w 0 8 = 0) (hfits : bits w 13 5 + (bits w 8 5 + 1) ≤ 32) : xIllegal w = [] := by
  have hinside : ¬ 32 < xPos w + xLen w := Nat.not_lt.2 hfits
  simp only [xIllegal, hres, bne_self_eq_false, decide_eq_false hinside, illIf_false, List.append_nil]

theorem insExt_legal (hres : bits v.word 0 8 = 0) (hfits : bits v.word 13 5 + (bits v.word 8 5 + 1) ≤ 32) : insExt v x =
    let r := BitVec.ofNat 32 (bits (x.reg (bits v.word 18 4)).toNat (bits v.word 13 5) (bits v.word 8 5 + 1))
    { next := { x with g := x.g.set (bits v.word 22 4) r, z := r == 0#32, pc := x.pc + 1 } } := by
  rw [insExt, xIllegal_of_fits hres hfits]
  rfl

theorem insIns_legal (hres : bits v.word 0 8 = 0) (hfits : bits v.word 13 5 + (bits v.word 8 5 + 1) ≤ 32) : insIns v x =
    { next := { x with
        g := x.g.set (bits v.word 22 4) (BitVec.ofNat 32 (setBits (x.reg (bits v.word 22 4)).toNat (bits v.word 13 5)
          (bits v.word 8 5 + 1) (x.reg (bits v.word 18 4)).toNat))
        pc := x.pc + 1 } } := by
  rw [insIns, xIllegal_of_fits hres hfits]
  rfl

/-! ## The header window (R55, R56) -/

/-- An access in bounds clears O. -/
theorem Ctx.access_of_inside {e n : Nat} (hin : e + n ≤ x.wlen) : x.access e n = { x with o := false } := by
  simp only [Ctx.access, Ctx.inBounds, decide_eq_true hin, if_true]

/-- An access out of bounds sets O and flag word bit 59. -/
theorem Ctx.access_of_outside {e n : Nat} (hout : x.wlen < e + n) :
    x.access e n = { x with o := true, flags := setBits x.flags 59 1 1 } := by
  simp only [Ctx.access, Ctx.inBounds, decide_eq_false (Nat.not_le.2 hout), Bool.false_eq_true, if_false]

/-- An access in bounds does not overrun, hard or soft. -/
theorem Ctx.overrun_of_inside {e n : Nat} (soft : Bool) (hin : e + n ≤ x.wlen) : x.overrun soft e n = none := by
  simp only [Ctx.overrun, Ctx.inBounds, decide_eq_true hin, Bool.or_true, if_true]

/-- A soft access does not overrun, wherever it lies. -/
@[simp] theorem Ctx.overrun_soft (e n : Nat) : x.overrun true e n = none := rfl

/-- What a load reads: `n` bytes at its offset, or with `field` a bit field of them. -/
def loaded (field : Bool) (n : Nat) (v : View) (x : Ctx) : Word :=
  let raw := ofBe (x.window v (x.offset (bitAt v.word 12) (bits v.word 13 9)) n)
  BitVec.ofNat 32 (if field then bits raw (bits v.word 6 5) (bits v.word 1 5 + 1) else raw)

/-- A load whose reserved bits are 0, whose bit field lies in the register and whose access does not overrun. -/
theorem insLoad_legal {field : Bool} {n : Nat} (h0 : bitAt v.word 0 = false) (hbytes : field = false → bits v.word 1 10 = 0)
    (hfits : field = true → bits v.word 6 5 + (bits v.word 1 5 + 1) ≤ 32)
    (hover : x.overrun (bitAt v.word 11) (x.offset (bitAt v.word 12) (bits v.word 13 9)) n = none) :
    insLoad n field v x =
      { next := (((x.access (x.offset (bitAt v.word 12) (bits v.word 13 9)) n).setReg (bits v.word 22 4)
          (loaded field n v x)).withZ (loaded field n v x)).advance } := by
  cases field with
  | false =>
    simp only [insLoad, h0, hover, hbytes rfl, bne_self_eq_false, Bool.and_false, Bool.false_and, Bool.or_self, illIf_false,
      List.append_nil]
    rfl
  | true =>
    simp only [insLoad, h0, hover, decide_eq_false (Nat.not_lt.2 (hfits rfl)), Bool.not_true, Bool.and_false, Bool.false_and,
      Bool.or_self, illIf_false, List.append_nil]
    rfl

theorem insLoad_inside {field : Bool} {n : Nat} (h0 : bitAt v.word 0 = false) (hbytes : field = false → bits v.word 1 10 = 0)
    (hfits : field = true → bits v.word 6 5 + (bits v.word 1 5 + 1) ≤ 32)
    (hin : x.offset (bitAt v.word 12) (bits v.word 13 9) + n ≤ x.wlen) :
    insLoad n field v x =
      { next := { x with
          g := x.g.set (bits v.word 22 4) (loaded field n v x), z := loaded field n v x == 0#32, o := false
          pc := x.pc + 1 } } := by
  rw [insLoad_legal h0 hbytes hfits (Ctx.overrun_of_inside _ hin), Ctx.access_of_inside hin]
  rfl

theorem insLoad_softOutside {field : Bool} {n : Nat} (h0 : bitAt v.word 0 = false) (hbytes : field = false → bits v.word 1 10 = 0)
    (hfits : field = true → bits v.word 6 5 + (bits v.word 1 5 + 1) ≤ 32) (hsoft : bitAt v.word 11 = true)
    (hout : x.wlen < x.offset (bitAt v.word 12) (bits v.word 13 9) + n) :
    insLoad n field v x =
      { next := { x with
          g := x.g.set (bits v.word 22 4) (loaded field n v x), z := loaded field n v x == 0#32, o := true
          flags := setBits x.flags 59 1 1, pc := x.pc + 1 } } := by
  rw [insLoad_legal h0 hbytes hfits (by rw [hsoft, Ctx.overrun_soft]), Ctx.access_of_outside hout]
  rfl

theorem insCurset_register (hdest : bits v.word 22 4 = 0) (hres : bits v.word 10 7 = 0) (hu : bitAt v.word 17 = true) :
    insCursor false v x =
      { next := { x with cur := ((x.reg (bits v.word 18 4)).toNat + bits v.word 0 10) % 2 ^ 16, pc := x.pc + 1 } } := by
  simp [insCursor, fD, fS, hdest, hres, hu, Ctx.advance]

theorem insCurset_immediate (hdest : bits v.word 22 4 = 0) (hres : bits v.word 10 7 = 0) (hu : bitAt v.word 17 = false)
    (hsrc : bits v.word 18 4 = 0) :
    insCursor false v x = { next := { x with cur := bits v.word 0 10 % 2 ^ 16, pc := x.pc + 1 } } := by
  simp [insCursor, fD, fS, hdest, hres, hu, hsrc, Ctx.advance]

theorem insCuradd_register (hdest : bits v.word 22 4 = 0) (hres : bits v.word 10 7 = 0) (hu : bitAt v.word 17 = true) :
    insCursor true v x =
      { next := { x with cur := (x.cur + (x.reg (bits v.word 18 4)).toNat + bits v.word 0 10) % 2 ^ 16, pc := x.pc + 1 } } := by
  simp [insCursor, fD, fS, hdest, hres, hu, Ctx.advance]

theorem insCurget_legal (hres : bits v.word 0 22 = 0) : insCurget v x =
    { next := { x with g := x.g.set (bits v.word 22 4) (BitVec.ofNat 32 x.cur), pc := x.pc + 1 } } := by
  simp only [insCurget, hres, bne_self_eq_false, illIf_false]
  rfl

/-- WEXT extends the window of a long frame once, and suspends its context (R55). -/
theorem insWext_extends (hres : bits v.word 0 26 = 0) (hlong : 256 < x.frameLen) (hfirst : x.extended = false) : insWext v x =
    { next := { x with
        wlen := min x.frameLen 512, flags := setBits x.flags 62 1 1, extended := true, suspended := true, pc := x.pc + 1 } } := by
  simp only [insWext, hres, hfirst, decide_eq_true hlong, bne_self_eq_false, illIf_false, Bool.not_false, Bool.and_self, if_true]
  rfl

/-! ## Control flow (R58-R60) -/

theorem badTarget_of_le {target : Nat} (take : Bool) (htarget : 16 ≤ target) : badTarget take target = [] := by
  simp only [badTarget, decide_eq_false (Nat.not_lt.2 htarget), Bool.and_false, illIf_false]

@[simp] theorem badTarget_not_taken (target : Nat) : badTarget false target = [] := rfl

theorem insBr_taken (hres : bits v.word 11 4 = 0)
    (htake : condHolds (bits v.word 15 3) (x.reg (bits v.word 22 4)) (x.reg (bits v.word 18 4)) = true)
    (htarget : 16 ≤ bits v.word 0 11) : insBr v x = { cost := 2, next := { x with pc := bits v.word 0 11 } } := by
  simp only [insBr, fD, fS, htake, hres, badTarget_of_le _ htarget, bne_self_eq_false, illIf_false, List.append_nil, if_true]
  rfl

theorem insBr_not_taken (hres : bits v.word 11 4 = 0)
    (htake : condHolds (bits v.word 15 3) (x.reg (bits v.word 22 4)) (x.reg (bits v.word 18 4)) = false) :
    insBr v x = { next := { x with pc := x.pc + 1 } } := by
  simp only [insBr, fD, fS, htake, hres, badTarget_not_taken, bne_self_eq_false, illIf_false, List.append_nil]
  rfl

theorem insBri_taken (htake : condHolds (bits v.word 19 3) (x.reg (bits v.word 22 4)) (BitVec.ofNat 32 (bits v.word 11 8)) = true)
    (htarget : 16 ≤ bits v.word 0 11) : insBri v x = { cost := 2, next := { x with pc := bits v.word 0 11 } } := by
  simp only [insBri, fD, htake, badTarget_of_le _ htarget, if_true]
  rfl

theorem insBri_not_taken
    (htake : condHolds (bits v.word 19 3) (x.reg (bits v.word 22 4)) (BitVec.ofNat 32 (bits v.word 11 8)) = false) :
    insBri v x = { next := { x with pc := x.pc + 1 } } := by
  simp only [insBri, fD, htake, badTarget_not_taken]
  rfl

/-- BF on a flag word bit that has the wanted value. -/
theorem insBf_flag_taken (hres : bits v.word 11 6 = 0) (hsel : bits v.word 24 2 = 3)
    (hflag : bitAt x.flags (bits v.word 17 6) = bitAt v.word 23) (htarget : 16 ≤ bits v.word 0 11) :
    insBf v x = { cost := 2, next := { x with pc := bits v.word 0 11 } } := by
  simp [insBf, hres, hsel, hflag, badTarget_of_le _ htarget, Ctx.jump]

/-- BF on a Z that does not have the wanted value. -/
theorem insBf_zero_not_taken (hres : bits v.word 11 6 = 0) (hsel : bits v.word 24 2 = 0) (hindex : bits v.word 17 6 = 0)
    (hz : x.z ≠ bitAt v.word 23) : insBf v x = { next := { x with pc := x.pc + 1 } } := by
  simp [insBf, hres, hsel, hindex, beq_eq_false_iff_ne.2 hz, Ctx.jump, Ctx.advance]

theorem insJ_legal (hres : bits v.word 11 15 = 0) (htarget : 16 ≤ bits v.word 0 11) :
    insJ v x = { cost := 2, next := { x with pc := bits v.word 0 11 } } := by
  simp only [insJ, hres, badTarget_of_le _ htarget, bne_self_eq_false, illIf_false, List.append_nil]
  rfl

theorem insCall_legal (hres : bits v.word 11 15 = 0) (hroom : x.stack.length < 4) (htarget : 16 ≤ bits v.word 0 11) :
    insCall v x = { cost := 2, next := { x with stack := (x.pc + 1) :: x.stack, pc := bits v.word 0 11 } } := by
  simp only [insCall, hres, badTarget_of_le _ htarget, decide_eq_false (Nat.not_le.2 hroom), bne_self_eq_false, illIf_false,
    List.append_nil]
  rfl

theorem insRet_legal {a : Nat} {rest : List Nat} (hres : bits v.word 0 26 = 0) (hstack : x.stack = a :: rest) :
    insRet v x = { cost := 2, next := { x with stack := rest, pc := a } } := by
  simp [insRet, hres, hstack, Ctx.jump]

/-- The words of a table that follows its instruction, up to word 2047 of the bank (R60). -/
theorem Dev.view_table_getD (d : Dev) (c : Nat) (x : Ctx) {i : Nat} (hshort : i < 256) (hlast : x.pc + 1 + i ≤ 2047) :
    (d.view c x).table.getD i 0 = (d.storeWord (ctxUnit c) x.bank (x.pc + 1 + i)).toNat := by
  have hi : i < min 256 (2047 - x.pc) := by omega
  simp [Dev.view, List.getD_eq_getElem?_getD, List.getElem?_range hi]

theorem insDisp_legal {t : Nat} (hres : bits v.word 0 17 = 0) (hpos : 1 ≤ bits v.word 17 5) (hmax : bits v.word 17 5 ≤ 8)
    (hfits : x.pc + 2 ^ bits v.word 17 5 ≤ 2047)
    (ht : v.table.getD ((x.reg (bits v.word 22 4)).toNat % 2 ^ bits v.word 17 5) 0 = t) (htarget : 16 ≤ t) (hword : t < 2048) :
    insDisp v x = { cost := 3, next := { x with pc := t } } := by
  have hzero : bits t 11 21 = 0 := by simp only [bits]; omega
  have hpc : bits t 0 11 = t := by simp only [bits]; omega
  have hk : (bits v.word 17 5 == 0) = false := beq_eq_false_iff_ne.2 (by omega)
  simp only [insDisp, fD, ht, hres, hzero, hpc, hk, decide_eq_false (Nat.not_lt.2 hmax), decide_eq_false (Nat.not_lt.2 hfits),
    decide_eq_false (Nat.not_lt.2 htarget), bne_self_eq_false, Bool.and_false, Bool.or_self, illIf_false, List.append_nil]
  rfl

/-- DMAT with no match goes past its table. -/
theorem insDmat_past (hres : bits v.word 0 17 = 0) (hpos : 1 ≤ bits v.word 17 5) (hmax : bits v.word 17 5 ≤ 16)
    (hfits : x.pc + bits v.word 17 5 ≤ 2047)
    (hnone : (v.table.take (bits v.word 17 5)).find? (fun t => bits t 16 16 == (x.reg (bits v.word 22 4)).toNat % 2 ^ 16) = none) :
    insDmat v x = { cost := if bits v.word 17 5 ≤ 8 then 2 else 3, next := { x with pc := x.pc + 1 + bits v.word 17 5 } } := by
  have hn : (bits v.word 17 5 == 0) = false := beq_eq_false_iff_ne.2 (by omega)
  simp only [insDmat, fD, hnone, hres, hn, decide_eq_false (Nat.not_lt.2 hmax), decide_eq_false (Nat.not_lt.2 hfits),
    bne_self_eq_false, Bool.or_self, illIf_false, List.append_nil]

/-- DMAT goes to the target of the first match. -/
theorem insDmat_match {t : Nat} (hres : bits v.word 0 17 = 0) (hpos : 1 ≤ bits v.word 17 5) (hmax : bits v.word 17 5 ≤ 16)
    (hfits : x.pc + bits v.word 17 5 ≤ 2047)
    (hfound : (v.table.take (bits v.word 17 5)).find? (fun t => bits t 16 16 == (x.reg (bits v.word 22 4)).toNat % 2 ^ 16) = some t)
    (hzero : bits t 11 5 = 0) (htarget : 16 ≤ bits t 0 11) :
    insDmat v x = { cost := if bits v.word 17 5 ≤ 8 then 2 else 3, next := { x with pc := bits t 0 11 } } := by
  have hn : (bits v.word 17 5 == 0) = false := beq_eq_false_iff_ne.2 (by omega)
  simp only [insDmat, fD, hfound, hres, hn, hzero, decide_eq_false (Nat.not_lt.2 hmax), decide_eq_false (Nat.not_lt.2 hfits),
    decide_eq_false (Nat.not_lt.2 htarget), bne_self_eq_false, Bool.or_self, illIf_false, List.append_nil]

/-! ## Hash units (R61, R62) -/

theorem insHinit_legal (hres : bits v.word 0 20 = 0) (hdest : bits v.word 22 4 = 0) : insHinit v x =
    { next := { x with crc := 0xFFFFFFFF#32, toe := 0#32, toeBytes := 0, toeKey := bits v.word 20 2, pc := x.pc + 1 } } := by
  simp only [insHinit, fD, hres, hdest, bne_self_eq_false, Bool.or_self, illIf_false]
  rfl

/-- The window bytes that HCRC and HTOE feed: those present of a soft access, all of a hard one. -/
def hashedBytes (v : View) (x : Ctx) : List Byte :=
  let e := x.offset (bitAt v.word 10) (bits v.word 11 9)
  if bitAt v.word 9 then x.windowPresent v e (bits v.word 20 6 + 1) else x.window v e (bits v.word 20 6 + 1)

theorem hashedBytes_hard (hhard : bitAt v.word 9 = false) : hashedBytes v x =
    x.window v (x.offset (bitAt v.word 10) (bits v.word 11 9)) (bits v.word 20 6 + 1) := by
  simp only [hashedBytes, hhard, Bool.false_eq_true, if_false]

theorem hashedBytes_soft (hsoft : bitAt v.word 9 = true) : hashedBytes v x =
    x.windowPresent v (x.offset (bitAt v.word 10) (bits v.word 11 9)) (bits v.word 20 6 + 1) := by
  simp only [hashedBytes, hsoft, if_true]

theorem insHcrc_legal (hres : bits v.word 0 9 = 0)
    (hover : x.overrun (bitAt v.word 9) (x.offset (bitAt v.word 10) (bits v.word 11 9)) (bits v.word 20 6 + 1) = none) :
    insHashWindow false v x =
      { cost := 1 + (bits v.word 20 6 + 1 + 7) / 8
        next := ((x.access (x.offset (bitAt v.word 10) (bits v.word 11 9)) (bits v.word 20 6 + 1)).feedCrc
          (hashedBytes v x)).advance } := by
  simp only [insHashWindow, hres, hover, bne_self_eq_false, Bool.false_and, illIf_false, List.append_nil]
  rfl

theorem insHtoe_eq (v : View) (x : Ctx) : insHashWindow true v x =
    let e := x.offset (bitAt v.word 10) (bits v.word 11 9)
    let n := bits v.word 20 6 + 1
    { cost := 1 + (n + 3) / 4
      illegal := illIf (bits v.word 0 9 != 0) 2 ++ illIf (decide (36 < x.toeBytes + (hashedBytes v x).length)) 6
      overrun := x.overrun (bitAt v.word 9) e n, next := ((x.access e n).feedToe v (hashedBytes v x)).advance } := rfl

theorem insHtoe_legal (hres : bits v.word 0 9 = 0) (hroom : x.toeBytes + (hashedBytes v x).length ≤ 36)
    (hover : x.overrun (bitAt v.word 9) (x.offset (bitAt v.word 10) (bits v.word 11 9)) (bits v.word 20 6 + 1) = none) :
    insHashWindow true v x =
      { cost := 1 + (bits v.word 20 6 + 1 + 3) / 4
        next := ((x.access (x.offset (bitAt v.word 10) (bits v.word 11 9)) (bits v.word 20 6 + 1)).feedToe v
          (hashedBytes v x)).advance } := by
  simp only [insHtoe_eq, hres, hover, decide_eq_false (Nat.not_lt.2 hroom), bne_self_eq_false, illIf_false, List.append_nil]

/-- HCRC in bounds, hard. -/
theorem insHcrc_inside (hres : bits v.word 0 10 = 0)
    (hin : x.offset (bitAt v.word 10) (bits v.word 11 9) + (bits v.word 20 6 + 1) ≤ x.wlen) :
    insHashWindow false v x =
      { cost := 1 + (bits v.word 20 6 + 1 + 7) / 8
        next := { x with
          crc := crcFeed x.crc (x.window v (x.offset (bitAt v.word 10) (bits v.word 11 9)) (bits v.word 20 6 + 1))
          o := false, pc := x.pc + 1 } } := by
  rw [insHcrc_legal (bits_of_bits _ 10 0 9 hres (by decide)) (Ctx.overrun_of_inside _ hin), Ctx.access_of_inside hin,
    hashedBytes_hard (bitAt_of_bits _ 10 9 hres (by decide))]
  rfl

theorem insHcrc_softOutside (hres : bits v.word 0 9 = 0) (hsoft : bitAt v.word 9 = true)
    (hout : x.wlen < x.offset (bitAt v.word 10) (bits v.word 11 9) + (bits v.word 20 6 + 1)) :
    insHashWindow false v x =
      { cost := 1 + (bits v.word 20 6 + 1 + 7) / 8
        next := { x with
          crc := crcFeed x.crc (x.windowPresent v (x.offset (bitAt v.word 10) (bits v.word 11 9)) (bits v.word 20 6 + 1))
          o := true, flags := setBits x.flags 59 1 1, pc := x.pc + 1 } } := by
  rw [insHcrc_legal hres (by rw [hsoft, Ctx.overrun_soft]), Ctx.access_of_outside hout, hashedBytes_soft hsoft]
  rfl

/-- HTOE in bounds, hard: it feeds as many bytes as it names. -/
theorem insHtoe_inside (hres : bits v.word 0 10 = 0)
    (hin : x.offset (bitAt v.word 10) (bits v.word 11 9) + (bits v.word 20 6 + 1) ≤ x.wlen)
    (hroom : x.toeBytes + (bits v.word 20 6 + 1) ≤ 36) :
    insHashWindow true v x =
      { cost := 1 + (bits v.word 20 6 + 1 + 3) / 4
        next := { x with
          toe := toeplitzFeed v.key x.toe x.toeBytes
            (x.window v (x.offset (bitAt v.word 10) (bits v.word 11 9)) (bits v.word 20 6 + 1))
          toeBytes := x.toeBytes + (bits v.word 20 6 + 1), o := false, pc := x.pc + 1 } } := by
  have hbytes := hashedBytes_hard (x := x) (bitAt_of_bits _ 10 9 hres (by decide))
  have hlength : (x.window v (x.offset (bitAt v.word 10) (bits v.word 11 9)) (bits v.word 20 6 + 1)).length
      = bits v.word 20 6 + 1 := cut_length _ _ _
  rw [insHtoe_legal (bits_of_bits _ 10 0 9 hres (by decide)) (by rwa [hbytes, hlength]) (Ctx.overrun_of_inside _ hin),
    Ctx.access_of_inside hin, hbytes, Ctx.feedToe, hlength]
  rfl

theorem insHtoe_softOutside (hres : bits v.word 0 9 = 0) (hsoft : bitAt v.word 9 = true)
    (hout : x.wlen < x.offset (bitAt v.word 10) (bits v.word 11 9) + (bits v.word 20 6 + 1))
    (hroom : x.toeBytes
      + (x.windowPresent v (x.offset (bitAt v.word 10) (bits v.word 11 9)) (bits v.word 20 6 + 1)).length ≤ 36) :
    insHashWindow true v x =
      { cost := 1 + (bits v.word 20 6 + 1 + 3) / 4
        next := { x with
          toe := toeplitzFeed v.key x.toe x.toeBytes
            (x.windowPresent v (x.offset (bitAt v.word 10) (bits v.word 11 9)) (bits v.word 20 6 + 1))
          toeBytes := x.toeBytes
            + (x.windowPresent v (x.offset (bitAt v.word 10) (bits v.word 11 9)) (bits v.word 20 6 + 1)).length
          o := true, flags := setBits x.flags 59 1 1, pc := x.pc + 1 } } := by
  have hbytes := hashedBytes_soft (x := x) hsoft
  rw [insHtoe_legal hres (by rwa [hbytes]) (by rw [hsoft, Ctx.overrun_soft]), Ctx.access_of_outside hout, hbytes]
  rfl

theorem insHashReg_legal {toe : Bool} (hres : bits v.word 0 20 = 0) (hsel : bits v.word 20 2 ≠ 3)
    (hroom : toe = true → x.toeBytes + (toBe (2 ^ bits v.word 20 2) (x.reg (bits v.word 22 4)).toNat).length ≤ 36) :
    insHashReg toe v x =
      { next := (if toe then x.feedToe v (toBe (2 ^ bits v.word 20 2) (x.reg (bits v.word 22 4)).toNat)
          else x.feedCrc (toBe (2 ^ bits v.word 20 2) (x.reg (bits v.word 22 4)).toNat)).advance } := by
  cases toe with
  | false =>
    simp only [insHashReg, hres, beq_eq_false_iff_ne.2 hsel, bne_self_eq_false, Bool.false_and, illIf_false, List.append_nil]
    rfl
  | true =>
    have hfits : decide (36 < x.toeBytes + (toBe (2 ^ bits v.word 20 2) (x.reg (fD v.word)).toNat).length) = false :=
      decide_eq_false (Nat.not_lt.2 (hroom rfl))
    simp only [insHashReg, hres, hfits, beq_eq_false_iff_ne.2 hsel, bne_self_eq_false, Bool.and_false, illIf_false,
      List.append_nil]
    rfl

theorem insHrd_legal (hres : bits v.word 0 20 = 0) (htop : bitAt v.word 21 = false) : insHrd v x =
    { next := { x with
        g := x.g.set (bits v.word 22 4) (if bitAt v.word 20 then x.toe else x.crc ^^^ 0xFFFFFFFF#32), pc := x.pc + 1 } } := by
  simp only [insHrd, hres, htop, bne_self_eq_false, Bool.or_self, illIf_false]
  rfl

/-! ## Metadata, flag word and the end of a pass (R64, R65, R67) -/

theorem insEmit_legal (hres : bits v.word 0 13 = 0) (hsize : bits v.word 13 2 ≠ 3) (hfrom : 16 ≤ bits v.word 15 7)
    (hto : bits v.word 15 7 + 2 ^ bits v.word 13 2 ≤ 128) : insEmit v x =
      { next := { x with
          md := overwrite x.md (bits v.word 15 7) (toBe (2 ^ bits v.word 13 2) (x.reg (bits v.word 22 4)).toNat)
          pc := x.pc + 1 } } := by
  simp only [insEmit, hres, beq_eq_false_iff_ne.2 hsize, decide_eq_false (Nat.not_lt.2 hfrom), decide_eq_false (Nat.not_lt.2 hto),
    bne_self_eq_false, Bool.or_self, illIf_false, List.append_nil]
  rfl

theorem insEmitw_legal (hres : bits v.word 0 3 = 0) (hfrom : 16 ≤ bits v.word 14 7)
    (hto : bits v.word 14 7 + (bits v.word 21 5 + 1) ≤ 128)
    (hover : x.overrun (bitAt v.word 3) (x.offset (bitAt v.word 4) (bits v.word 5 9)) (bits v.word 21 5 + 1) = none) :
    insEmitw v x =
      { cost := if bits v.word 21 5 + 1 ≤ 16 then 1 else 2
        next := ((x.access (x.offset (bitAt v.word 4) (bits v.word 5 9)) (bits v.word 21 5 + 1)).writeMeta (bits v.word 14 7)
          (x.window v (x.offset (bitAt v.word 4) (bits v.word 5 9)) (bits v.word 21 5 + 1))).advance } := by
  simp only [insEmitw, hres, hover, decide_eq_false (Nat.not_lt.2 hfrom), decide_eq_false (Nat.not_lt.2 hto), bne_self_eq_false,
    Bool.or_self, illIf_false, List.append_nil]

theorem insEmitw_inside (hres : bits v.word 0 4 = 0) (hfrom : 16 ≤ bits v.word 14 7)
    (hto : bits v.word 14 7 + (bits v.word 21 5 + 1) ≤ 128)
    (hin : x.offset (bitAt v.word 4) (bits v.word 5 9) + (bits v.word 21 5 + 1) ≤ x.wlen) :
    insEmitw v x =
      { cost := if bits v.word 21 5 + 1 ≤ 16 then 1 else 2
        next := { x with
          md := overwrite x.md (bits v.word 14 7) (x.window v (x.offset (bitAt v.word 4) (bits v.word 5 9)) (bits v.word 21 5 + 1))
          o := false, pc := x.pc + 1 } } := by
  rw [insEmitw_legal (bits_of_bits _ 4 0 3 hres (by decide)) hfrom hto (Ctx.overrun_of_inside _ hin), Ctx.access_of_inside hin]
  rfl

theorem insEmitw_softOutside (hres : bits v.word 0 3 = 0) (hsoft : bitAt v.word 3 = true) (hfrom : 16 ≤ bits v.word 14 7)
    (hto : bits v.word 14 7 + (bits v.word 21 5 + 1) ≤ 128)
    (hout : x.wlen < x.offset (bitAt v.word 4) (bits v.word 5 9) + (bits v.word 21 5 + 1)) :
    insEmitw v x =
      { cost := if bits v.word 21 5 + 1 ≤ 16 then 1 else 2
        next := { x with
          md := overwrite x.md (bits v.word 14 7) (x.window v (x.offset (bitAt v.word 4) (bits v.word 5 9)) (bits v.word 21 5 + 1))
          o := true, flags := setBits x.flags 59 1 1, pc := x.pc + 1 } } := by
  rw [insEmitw_legal hres hfrom hto (by rw [hsoft, Ctx.overrun_soft]), Ctx.access_of_outside hout]
  rfl

/-- FSET and FCLR write one of the flag bits below 56. -/
theorem insFlag_legal (value : Nat) (hres : bits v.word 0 18 = 0) (hbit : bits v.word 18 8 < 56) : insFlag value v x =
    { next := { x with flags := setBits x.flags (bits v.word 18 8) 1 value, pc := x.pc + 1 } } := by
  have hlow : bits (fV v.word) 0 6 = bits v.word 18 8 := by
    have : bits (fV v.word) 0 6 = bits v.word 18 8 % 64 := by simp [bits, fV]
    omega
  have hhigh : bits (fV v.word) 6 2 = 0 := by
    have : bits (fV v.word) 6 2 = bits v.word 18 8 / 64 % 4 := by simp [bits, fV]
    omega
  simp only [insFlag, hlow, hhigh, hres, decide_eq_false (Nat.not_le.2 hbit), bne_self_eq_false, Bool.or_self, illIf_false,
    List.append_nil]
  rfl

theorem insRhint_legal (hres : bits v.word 0 18 = 0) : insRhint v x =
    { next := { x with
        md := overwrite x.md 13 [BitVec.ofNat 8 (bits v.word 18 8)], flags := setBits x.flags 61 1 1, pc := x.pc + 1 } } := by
  simp only [insRhint, hres, bne_self_eq_false, illIf_false]
  rfl

theorem insNop_legal (hres : bits v.word 0 26 = 0) : insNop v x = { next := { x with pc := x.pc + 1 } } := by
  simp only [insNop, hres, bne_self_eq_false, illIf_false]
  rfl

theorem insDone_legal (hres : bits v.word 0 26 = 0) : insDone v x = { next := { x with pc := x.pc + 1 }, ends := true } := by
  simp only [insDone, hres, bne_self_eq_false, illIf_false]
  rfl

end

/-- Settles O22: each is a Format A instruction with its own result and carry, or MOV. -/
theorem gafferRegisterInstructions : Obligations.GafferRegisterInstructions := by
  unfold Obligations.GafferRegisterInstructions
  refine ⟨?add, ?sub, ?and, ?or, ?xor, ?shl, ?shr, ?mov⟩
  case add | sub | and | or | xor | shl | shr =>
    intro s core c w x h hop hres
    exact congrArg s.become (Dev.issue_of_does h hop (formA_legal _ _ hres))
  case mov =>
    intro s core c w x h hop hres
    exact congrArg s.become (Dev.issue_of_does h hop (insMov_legal hres))

/-- Settles O23: each is a Format B instruction with its own operand, result and carry, or the rule of its own. -/
theorem gafferImmediateInstructions : Obligations.GafferImmediateInstructions := by
  unfold Obligations.GafferImmediateInstructions
  refine ⟨?addi, ?andi, ?ori, ?xori, ?shli, ?shri, ?movi, ?movhi, ?ext, ?ins⟩
  case addi | andi | ori | xori =>
    intro s core c w x h hop
    exact congrArg s.become (Dev.issue_of_does h hop (formB_legal (bad := fun _ => false) _ _ _ rfl))
  case shli | shri =>
    intro s core c w x h hop hres
    exact congrArg s.become (Dev.issue_of_does h hop (formB_legal (bad := fun w => bits w 5 13 != 0) _ _ _
      (bne_eq_false_iff_eq.2 hres)))
  case movi =>
    intro s core c w x h hop hres
    exact congrArg s.become (Dev.issue_of_does h hop (insMovi_legal hres))
  case movhi =>
    intro s core c w x h hop hsrc hres
    exact congrArg s.become (Dev.issue_of_does h hop (insMovhi_legal hsrc hres))
  case ext =>
    intro s core c w x h hop hres hfits
    exact congrArg s.become (Dev.issue_of_does h hop (insExt_legal hres hfits))
  case ins =>
    intro s core c w x h hop hres hfits
    exact congrArg s.become (Dev.issue_of_does h hop (insIns_legal hres hfits))

/-- Settles O24: loads by whether their access lies in the window, the cursor and WEXT by their own rules. -/
theorem gafferWindowInstructions : Obligations.GafferWindowInstructions := by
  unfold Obligations.GafferWindowInstructions
  refine ⟨?ld8, ?ld16, ?ld32, ?ld8Soft, ?ld16Soft, ?ld32Soft, ?extw, ?cursetReg, ?curset, ?curadd, ?curget, ?wext⟩
  case ld8 | ld16 | ld32 =>
    intro s core c w x h hop hres hin
    exact congrArg s.become (Dev.issue_of_does h hop (insLoad_inside (bitAt_of_bits w 11 0 hres (by decide))
      (fun _ => bits_of_bits w 11 1 10 hres (by decide)) (by simp) hin))
  case ld8Soft | ld16Soft | ld32Soft =>
    intro s core c w x h hop h0 hbytes hsoft hout
    exact congrArg s.become (Dev.issue_of_does h hop (insLoad_softOutside h0 (fun _ => hbytes) (by simp) hsoft hout))
  case extw =>
    intro s core c w x h hop h0 hfits hin
    exact congrArg s.become (Dev.issue_of_does h hop (insLoad_inside h0 (by simp) (fun _ => hfits) hin))
  case cursetReg =>
    intro s core c w x h hop hdest hres hu
    exact congrArg s.become (Dev.issue_of_does h hop (insCurset_register hdest hres hu))
  case curset =>
    intro s core c w x h hop hdest hres hu hsrc
    exact congrArg s.become (Dev.issue_of_does h hop (insCurset_immediate hdest hres hu hsrc))
  case curadd =>
    intro s core c w x h hop hdest hres hu
    exact congrArg s.become (Dev.issue_of_does h hop (insCuradd_register hdest hres hu))
  case curget =>
    intro s core c w x h hop hres
    exact congrArg s.become (Dev.issue_of_does h hop (insCurget_legal hres))
  case wext =>
    intro s core c w x h hop hres hlong hfirst
    exact congrArg s.become (Dev.issue_of_does h hop (insWext_extends hres hlong hfirst))

/-- Settles O25: each branch by whether it is taken, each table by what it holds, the others by their own rules. -/
theorem gafferControlInstructions : Obligations.GafferControlInstructions := by
  unfold Obligations.GafferControlInstructions
  refine ⟨?br, ?brNot, ?bri, ?briNot, ?bf, ?bfNot, ?j, ?call, ?ret, ?disp, ?dmatPast, ?dmat⟩
  case br =>
    intro s core c w x h hop hres htake htarget
    exact congrArg s.become (Dev.issue_of_does h hop (insBr_taken hres htake htarget))
  case brNot =>
    intro s core c w x h hop hres htake
    exact congrArg s.become (Dev.issue_of_does h hop (insBr_not_taken hres htake))
  case bri =>
    intro s core c w x h hop htake htarget
    exact congrArg s.become (Dev.issue_of_does h hop (insBri_taken htake htarget))
  case briNot =>
    intro s core c w x h hop htake
    exact congrArg s.become (Dev.issue_of_does h hop (insBri_not_taken htake))
  case bf =>
    intro s core c w x h hop hres hsel hflag htarget
    exact congrArg s.become (Dev.issue_of_does h hop (insBf_flag_taken hres hsel hflag htarget))
  case bfNot =>
    intro s core c w x h hop hres hsel hindex hz
    exact congrArg s.become (Dev.issue_of_does h hop (insBf_zero_not_taken hres hsel hindex hz))
  case j =>
    intro s core c w x h hop hres htarget
    exact congrArg s.become (Dev.issue_of_does h hop (insJ_legal hres htarget))
  case call =>
    intro s core c w x h hop hres hroom htarget
    exact congrArg s.become (Dev.issue_of_does h hop (insCall_legal hres hroom htarget))
  case ret =>
    intro s core c w x a rest h hop hres hstack
    exact congrArg s.become (Dev.issue_of_does h hop (insRet_legal hres hstack))
  case disp =>
    intro s core c w x t h hop hres hpos hmax hfits ht htarget hword
    have hindex : (x.reg (bits w 22 4)).toNat % 2 ^ bits w 17 5 < 2 ^ bits w 17 5 := Nat.mod_lt _ (Nat.two_pow_pos _)
    have hsize : 2 ^ bits w 17 5 ≤ 2 ^ 8 := Nat.pow_le_pow_right (by decide) hmax
    have hentry := (s.dev.view_table_getD c x (by omega) (by omega)).trans ht
    exact congrArg s.become (Dev.issue_of_does h hop (insDisp_legal hres hpos hmax hfits hentry htarget hword))
  case dmatPast =>
    intro s core c w x h hop hres hpos hmax hfits hnone
    exact congrArg s.become (Dev.issue_of_does h hop (insDmat_past hres hpos hmax hfits hnone))
  case dmat =>
    intro s core c w x t h hop hres hpos hmax hfits hfound hzero htarget
    exact congrArg s.become (Dev.issue_of_does h hop (insDmat_match hres hpos hmax hfits hfound hzero htarget))

/-- Settles O26: each unit and record instruction by its own rule; DONE and ILL by how they end the pass. -/
theorem gafferHashAndRecordInstructions : Obligations.GafferHashAndRecordInstructions := by
  unfold Obligations.GafferHashAndRecordInstructions
  refine ⟨?hinit, ?hcrc, ?htoe, ?hcrcSoft, ?htoeSoft, ?hcrcr, ?htoer, ?hrd, ?emit, ?emitw, ?emitwSoft, ?fset, ?fclr, ?rhint,
    ?nop, ?done, ?ill⟩
  case hinit =>
    intro s core c w x h hop hres hdest
    exact congrArg s.become (Dev.issue_of_does h hop (insHinit_legal hres hdest))
  case hcrc =>
    intro s core c w x h hop hres hin
    exact congrArg s.become (Dev.issue_of_does h hop (insHcrc_inside hres hin))
  case htoe =>
    intro s core c w x h hop hres hin hroom
    exact congrArg s.become (Dev.issue_of_does h hop (insHtoe_inside hres hin hroom))
  case hcrcSoft =>
    intro s core c w x h hop hres hsoft hout
    exact congrArg s.become (Dev.issue_of_does h hop (insHcrc_softOutside hres hsoft hout))
  case htoeSoft =>
    intro s core c w x h hop hres hsoft hout hroom
    exact congrArg s.become (Dev.issue_of_does h hop (insHtoe_softOutside hres hsoft hout hroom))
  case hcrcr =>
    intro s core c w x h hop hres hsel
    exact congrArg s.become (Dev.issue_of_does h hop (insHashReg_legal hres hsel (by simp)))
  case htoer =>
    intro s core c w x h hop hres hsel hroom
    exact congrArg s.become (Dev.issue_of_does h hop (insHashReg_legal hres hsel (fun _ => hroom)))
  case hrd =>
    intro s core c w x h hop hres htop
    exact congrArg s.become (Dev.issue_of_does h hop (insHrd_legal hres htop))
  case emit =>
    intro s core c w x h hop hres hsize hfrom hto
    exact congrArg s.become (Dev.issue_of_does h hop (insEmit_legal hres hsize hfrom hto))
  case emitw =>
    intro s core c w x h hop hres hfrom hto hin
    exact congrArg s.become (Dev.issue_of_does h hop (insEmitw_inside hres hfrom hto hin))
  case emitwSoft =>
    intro s core c w x h hop hres hsoft hfrom hto hout
    exact congrArg s.become (Dev.issue_of_does h hop (insEmitw_softOutside hres hsoft hfrom hto hout))
  case fset | fclr =>
    intro s core c w x h hop hres hbit
    exact congrArg s.become (Dev.issue_of_does h hop (insFlag_legal _ hres hbit))
  case rhint =>
    intro s core c w x h hop hres
    exact congrArg s.become (Dev.issue_of_does h hop (insRhint_legal hres))
  case nop =>
    intro s core c w x h hop hres
    exact congrArg s.become (Dev.issue_of_does h hop (insNop_legal hres))
  case done =>
    intro s core c w x h hop hres
    obtain ⟨-, -, -, hlimit⟩ := (s.dev.issues_iff core c x w 1).1 h
    refine congrArg s.become ((Dev.issue_settles insDone h hop).trans ?_)
    rw [insDone_legal hres]
    exact Dev.settleIssue_ends hlimit
  case ill =>
    intro s core c w x h hop
    obtain ⟨-, hpc, -, hlimit⟩ := (s.dev.issues_iff core c x w 1).1 h
    exact congrArg s.become ((Dev.issue_settles insIll h hop).trans (Dev.settleIssue_illegal hpc hlimit))

end Sys2Proof.Machine

/-!
The gaffer farm (R53, R54, R67, R71, R73-R77, R100): dispatch, errors, release, exceptions, program stores and the flip of banks, in
the state in which each command applies.
-/

namespace Sys2Proof.Machine

/-! ## Dispatch (R53, R73, R100) -/

theorem Dev.deferReheat_of_none {d : Dev} (hnone : d.reheatQ = []) : d.deferReheat = d := by
  simp only [Dev.deferReheat, hnone]

theorem Dev.deferReheat_of_credit {d : Dev} (hcredit : 0 < d.credit) : d.deferReheat = d := by
  cases hq : d.reheatQ with
  | nil => exact Dev.deferReheat_of_none hq
  | cons r rest => simp only [Dev.deferReheat, hq, Int.not_le.2 hcredit, false_and, if_false]

/-- With no reheat waiting, the first packet of its source leaves the dispatch queue for the chosen context. -/
theorem Dev.dispatch_of_first {d : Dev} {h c : Nat} (hfresh : (d.packet h).restart = none) (hnone : d.reheatQ = [])
    (hroom : d.releaseDepth < 4096) (hchosen : d.chooseCtx d.gafUnits = some c) (hqueued : d.dispatchQ.contains h = true)
    (hfirst : d.firstOfSource h = true) :
    d.dispatch h =
      let e := { d with dispatchQ := d.dispatchQ.filter (· != h) }
      (e.fset Page.gafg Reg.GAFG_DISP_DEPTH_DEPTH e.dispDepth).dispatchPass h c := by
  simp only [Dev.dispatch, Dev.deferReheat_of_none hnone, hfresh, Option.isSome_none, Bool.false_eq_true, if_false,
    if_neg (Nat.not_le.2 hroom), hchosen, hnone, hqueued, hfirst, and_self, if_true]

/-- While there is credit the oldest reheat leaves its queue for the chosen context. -/
theorem Dev.dispatch_of_reheat {d : Dev} {h c : Nat} {rest : List Nat} (hfresh : (d.packet h).restart = none)
    (holdest : d.reheatQ = h :: rest) (hcredit : 0 < d.credit) (hroom : d.releaseDepth < 4096)
    (hchosen : d.chooseCtx d.gafUnits = some c) :
    d.dispatch h =
      let e := { d with reheatQ := rest, reheatSeen := false }
      (e.fset Page.gafg Reg.GAFG_DISP_DEPTH_DEPTH e.dispDepth).dispatchPass h c := by
  simp only [Dev.dispatch, Dev.deferReheat_of_credit hcredit, hfresh, Option.isSome_none, Bool.false_eq_true, if_false,
    if_neg (Nat.not_le.2 hroom), hchosen, holdest, hcredit, decide_true, if_true, ne_eq, not_true_eq_false]

/-- An ended pass whose record has reached MRAM restarts on the context found for it. -/
theorem Dev.restart_of_journaled {d : Dev} {h c : Nat} {r : Restart} (hended : (d.packet h).restart = some r)
    (hjournal : r.journal ≤ d.journal.written) (hctx : d.restartCtx r.left r.same = some c) :
    d.restart h =
      (d.setPacket h { d.packet h with restart := none }).place h c ((d.packet h).bank.getD 0) (d.packet h).entryHint
        (d.packet h).md (fun y => { y with
          flags := setBits y.flags 60 1 1, before := r.before, parityHits := r.parityHits, storeHits := r.storeHits }) := by
  have hreached : d.journalReached r.journal = true := decide_eq_true hjournal
  simp only [Dev.restart, hended, hreached, if_true, hctx]

theorem Dev.dispatch_of_ended {d : Dev} {h : Nat} {r : Restart} (hended : (d.packet h).restart = some r) (hnone : d.reheatQ = []) :
    d.dispatch h = d.restart h := by
  simp only [Dev.dispatch, Dev.deferReheat_of_none hnone, hended, Option.isSome_some, if_true]

/-! ## Errors (R73) -/

/-- The device after a parity error in context `c` was counted, latched and held against the context. -/
theorem Dev.ctxParity_of_running {d : Dev} {c : Nat} {x : Ctx} (hctx : d.ctxAt c = some x) :
    d.ctxParity c =
      let e := ((d.countSat (d.gafPage (ctxUnit c)) Reg.GAF_PARITY_CNT_CNT).latchFault (d.gafPage (ctxUnit c))
        FaultBit.gaf_CTX_PARITY).noteCtxError c
      if x.parityHits ≠ 0 then e.raise c x excParity 1 x.pc else (e.endForRestart x c 1 0 true).restart x.packet := by
  simp only [Dev.ctxParity, hctx]

theorem Dev.storeUe_of_running {d : Dev} {c : Nat} {x : Ctx} (hctx : d.ctxAt c = some x) :
    d.storeUe c =
      let u := ctxUnit c
      let e := (({ d with gafStopped := if d.gafStopped.contains u then d.gafStopped else d.gafStopped ++ [u] } : Dev).latchFault
        (d.gafPage u) FaultBit.gaf_PS_UE).svcAuto puntyGaf (d.pageOfUnit puntyGaf u) false
      if x.storeHits ≠ 0 then e.raise c x excParity 2 x.pc else (e.endForRestart x c 0 1 false).restart x.packet := by
  simp only [Dev.storeUe, hctx]

/-! ## Release and exceptions (R67, R71) -/

theorem Dev.releaseRecord_of_first {d : Dev} {h : Nat} (hdone : (d.packet h).stage = .done) (hfirst : d.hasPredecessor h = false) :
    d.releaseRecord h = d.setStage h .released := by
  simp only [Dev.releaseRecord, hdone, hfirst, Bool.not_false, and_self, if_true]

theorem Dev.offerException_of_deliver {d : Dev} {h : Nat} {rest : List Nat} (hhead : d.excQ = h :: rest)
    (hdeliver : d.fbit Page.gafg Reg.GAFG_EXC_CTL_DELIVER = true) (hstage : (d.packet h).stage = .exception) :
    d.offerException = d.setStage h .offered := by
  simp only [Dev.offerException, hhead, hdeliver, hstage, if_true]

theorem Dev.offerException_of_drop {d : Dev} {h : Nat} {rest : List Nat} (hhead : d.excQ = h :: rest)
    (hdrop : d.fbit Page.gafg Reg.GAFG_EXC_CTL_DELIVER = false) :
    d.offerException = (((({ d with excQ := rest } : Dev).fset Page.gafg Reg.GAFG_EXC_DEPTH_DEPTH rest.length).count Page.gafg
      Reg.GAFG_EXC_DROP_CNT).pulse 154).dropPacket h Drop.gafExc := by
  simp only [Dev.offerException, hhead, hdrop, Bool.false_eq_true, if_false]

/-- Settles O27: each command in the state in which it applies, an error by whether it is the first of its pass. -/
theorem gafferFarmCommands : Obligations.GafferFarmCommands := by
  unfold Obligations.GafferFarmCommands
  refine ⟨?first, ?reheat, ?restart, ?resume, ?parity, ?parityAgain, ?storeAgain, ?store, ?release, ?deliver, ?drop⟩
  case first =>
    intro s h c hfresh hnone hroom hchosen hqueued hfirst
    exact congrArg s.become (Dev.dispatch_of_first hfresh hnone hroom hchosen hqueued hfirst)
  case reheat =>
    intro s h c rest hfresh holdest hcredit hroom hchosen
    exact congrArg s.become (Dev.dispatch_of_reheat hfresh holdest hcredit hroom hchosen)
  case restart =>
    intro s h c r hended hnone hjournal hctx
    exact congrArg s.become ((Dev.dispatch_of_ended hended hnone).trans (Dev.restart_of_journaled hended hjournal hctx))
  case resume =>
    intro s c x hctx
    simp only [exec, execWextResume, hctx, State.become_eq]
  case parity =>
    rintro s c x _ hctx rfl hfirst
    exact congrArg s.become ((Dev.ctxParity_of_running hctx).trans (if_neg (not_not_intro hfirst)))
  case parityAgain =>
    intro s c x hctx hagain
    exact congrArg s.become ((Dev.ctxParity_of_running hctx).trans (if_pos hagain))
  case storeAgain =>
    rintro s c x _ hctx rfl hagain
    exact congrArg s.become ((Dev.storeUe_of_running hctx).trans (if_pos hagain))
  case store =>
    rintro s c x _ hctx rfl hfirst
    exact congrArg s.become ((Dev.storeUe_of_running hctx).trans (if_neg (not_not_intro hfirst)))
  case release =>
    intro s h hdone hfirst
    exact congrArg s.become (Dev.releaseRecord_of_first hdone hfirst)
  case deliver =>
    intro s h rest hhead hdeliver hstage
    exact congrArg s.become (Dev.offerException_of_deliver hhead hdeliver hstage)
  case drop =>
    intro s h rest hhead hdrop
    exact congrArg s.become (Dev.offerException_of_drop hhead hdrop)

/-! ## Program stores (R74, R76, R77) -/

theorem Dev.onRead_of_reached {d : Dev} {req : Requester} {a : Nat} (f : Dev → Dev) (hreach : d.unreachable a = none)
    (hawake : d.asleep req = false) : d.onRead req a f = f d := by
  simp only [Dev.onRead, hawake, hreach, Bool.false_eq_true, if_false]

/-- A write to a writable bank (R74): the word is stored, in the punty too while it takes over the cluster (R433). -/
theorem Dev.storeWrite_of_writable {d : Dev} {n : Nat} (v : Word)
    (hwritable : d.storeWritable (d.unitOf puntyGaf n) (d.fget (Page.gaf n) Reg.GAF_PS_ADDR_BANK) = true) :
    d.storeWrite n v =
      let u := d.unitOf puntyGaf n
      let b := d.fget (Page.gaf n) Reg.GAF_PS_ADDR_BANK
      let w := d.fget (Page.gaf n) Reg.GAF_PS_ADDR_WORD
      let d0 := if bitAt d.pwr.gafGated n then d.gateGaf n false else d
      let d2 := (d0.setStoreWord u b w v).fset (Page.gaf n) Reg.GAF_PS_STAT_CRC_BUSY 1
      let d3 := { d2 with crcBusy := if d2.crcBusy.contains (u * 2 + b) then d2.crcBusy else d2.crcBusy ++ [u * 2 + b] }
      ((if d3.fget Page.svc (puntyState puntyGaf) = 1 ∧ d3.fget Page.svc (puntyInst puntyGaf) = n then d3.setStoreWord 24 b w v
        else d3).fset (Page.gaf n) Reg.GAF_PS_DATA_INSN v.toNat).nextStoreWord (Page.gaf n) := by
  simp only [Dev.storeWrite, hwritable, if_true]

/-- A write to a bank that is not writable is rejected, and a fault (R74). -/
theorem Dev.storeWrite_of_rejected {d : Dev} {n : Nat} (v : Word)
    (hrejected : d.storeWritable (d.unitOf puntyGaf n) (d.fget (Page.gaf n) Reg.GAF_PS_ADDR_BANK) = false) :
    d.storeWrite n v = (((d.fset (Page.gaf n) Reg.GAF_PS_STAT_WR_REJ 1).accessFault (Page.gaf n)).fset (Page.gaf n)
      Reg.GAF_PS_DATA_INSN v.toNat).nextStoreWord (Page.gaf n) := by
  simp only [Dev.storeWrite, hrejected, Bool.false_eq_true, if_false]

/-- The last recomputation of all ends with no bank of the cluster left to recompute (R77). -/
theorem Dev.recomputeCrc_of_last {d : Dev} {n b : Nat} (hlast : d.crcBusy = [d.unitOf puntyGaf n * 2 + b]) :
    d.recomputeCrc n b = (({ d with crcBusy := [] } : Dev).fset (Page.gaf n) (crcFld b) (d.bankCrc (d.unitOf puntyGaf n)
      b).toNat).fset (Page.gaf n) Reg.GAF_PS_STAT_CRC_BUSY 0 := by
  have hrest : d.crcBusy.filter (· != d.unitOf puntyGaf n * 2 + b) = [] := by simp [hlast]
  have hthis : d.crcBusy.contains (d.unitOf puntyGaf n * 2 + b) = true := by simp [hlast]
  simp only [Dev.recomputeCrc, hthis, if_true, hrest]
  rfl

/-! ## The flip (R75) -/

/-- A flip that nothing refuses. -/
theorem Dev.checkFlip_of_passed {d : Dev} (hasked : d.flips ≠ 0) (hready : d.crcBusy = []) (hcause : d.flipCause = 0) :
    d.checkFlip = ((({ d with flips := d.flips - 1 } : Dev).fset Page.gafg Reg.GAFG_BANK_ACTIVE (1 - d.activeBank)).fset
      Page.gafg Reg.GAFG_ACTIVE_CRC_CRC (d.rd (Page.gafg + Reg.GAFG_IMAGE_CRC_CRC.off)).toNat).fset Page.gafg
        Reg.GAFG_BANK_OLD_BUSY 1 := by
  simp only [Dev.checkFlip, hasked, hready, hcause, ne_eq, not_true_eq_false, or_self, if_false]

/-- The device after a flip was refused for `cause`, GO not yet cleared. -/
def Dev.flipRefused (d : Dev) (cause : Nat) : Dev :=
  (((({ d with flips := d.flips - 1 } : Dev).fset Page.gafg Reg.GAFG_BANK_FLIP_ERR 1).fset Page.gafg Reg.GAFG_BANK_ERR_CAUSE
    cause).latchFault Page.gafg FaultBit.gafg_FLIP_REFUSED).pulse 156

theorem Dev.checkFlip_of_refused {d : Dev} (hasked : d.flips ≠ 0) (hready : d.crcBusy = []) (hcause : d.flipCause ≠ 0) :
    d.checkFlip = if d.flipCause = 1 ∨ (d.flipRefused d.flipCause).flips ≠ 0 then d.flipRefused d.flipCause
      else (d.flipRefused d.flipCause).fset Page.gafg Reg.GAFG_FLIP_GO 0 := by
  rw [Dev.checkFlip, if_neg (by simp [hasked, hready])]
  exact if_pos hcause

theorem Dev.freeOldBank_of_empty {d : Dev} (hbusy : d.fbit Page.gafg Reg.GAFG_BANK_OLD_BUSY = true)
    (hempty : d.fget Page.gafg (inflightBank (1 - d.activeBank)) = 0) :
    d.freeOldBank =
      let e := (d.fset Page.gafg Reg.GAFG_BANK_OLD_BUSY 0).pulse 155
      if e.flips = 0 then e.fset Page.gafg Reg.GAFG_FLIP_GO 0 else e := by
  rw [Dev.freeOldBank, if_pos ⟨hbusy, hempty⟩]

/-- Settles O28: an access by whether its bank is writable, a check of the flip by its cause. -/
theorem programStoreAndFlipCommands : Obligations.ProgramStoreAndFlipCommands := by
  unfold Obligations.ProgramStoreAndFlipCommands
  refine ⟨?write, ?rejected, ?read, ?recompute, ?request, ?flip, ?refused, ?refusedBusy, ?free⟩
  case write =>
    intro s req n v hreach hwritable hawake
    exact congrArg s.become ((Dev.onWrite_of_reached _ hreach hawake).trans (Dev.storeWrite_of_writable v hwritable))
  case rejected =>
    intro s req n v hreach hrejected hawake
    exact congrArg s.become ((Dev.onWrite_of_reached _ hreach hawake).trans (Dev.storeWrite_of_rejected v hrejected))
  case read =>
    intro s req n hreach hawake
    exact congrArg s.become (Dev.onRead_of_reached _ hreach hawake)
  case recompute =>
    intro s n b hlast _
    exact congrArg s.become (Dev.recomputeCrc_of_last hlast)
  case request =>
    intro s req hreach hawake
    exact congrArg s.become (Dev.onWrite_of_reached _ hreach hawake)
  case flip =>
    intro s hasked hready hcause
    exact congrArg s.become (Dev.checkFlip_of_passed hasked hready hcause)
  case refused =>
    intro s hasked hready hcause
    refine congrArg s.become ((Dev.checkFlip_of_refused hasked hready (by omega)).trans ?_)
    simp only [show s.dev.flipCause ≠ 1 by omega, false_or]
    rfl
  case refusedBusy =>
    intro s hasked hready hcause
    refine congrArg s.become ((Dev.checkFlip_of_refused hasked hready (by omega)).trans ?_)
    rw [if_pos (.inl hcause), hcause]
    rfl
  case free =>
    intro s hbusy hempty
    exact congrArg s.become (Dev.freeOldBank_of_empty hbusy hempty)

end Sys2Proof.Machine

/-!
The classifier (R84, R88-R93, R96, R97, R102): acceptance of records, ends of walks, hand-off, and the life of a batch from its
staging to the clearing of its RETIRED bit.
-/

namespace Sys2Proof.Machine

/-! ## Acceptance (R90, R93) -/

/-- A record of pass 0 starts on engine `e` under the stamp of the current batch. -/
def Dev.startFirstWalk (d : Dev) (h e : Nat) : Dev :=
  let p := d.packet h
  let cur := d.fget Page.clsg Reg.CLS_BATCH_CUR_CUR
  let stamp := setBits (setBits (byteAt p.md 7) 5 1 1) 0 4 cur
  { (((d.count Page.clsg (inflightBatch cur)).wcount Page.clsg (0x10 + cur)).setPacket h { p with
      batch := some cur, md := overwrite p.md 7 [BitVec.ofNat 8 stamp], stage := .walking e, accepted := d.now,
      order := d.acceptNo }) with acceptNo := d.acceptNo + 1 }

/-- What decides over a released record of pass 0, once an engine is chosen for it, is whether there is a current batch. -/
theorem Dev.acceptRecord_of_firstPass {d : Dev} {h e : Nat} (hreleased : (d.packet h).stage = .released)
    (haccepts : d.accepts Page.clsg = true) (hfirst : d.earlierReleased h = false)
    (hroom : d.packets.countP (fun e => e.2.stage == .walked) < 4096) (hengine : d.chooseEngine = some e)
    (hpass : (d.packet h).pass = 0) :
    d.acceptRecord h = if d.fbit Page.clsg Reg.CLS_BATCH_CUR_CUR_VALID then d.startFirstWalk h e else d.clsDrop h := by
  have htaken : ¬ (¬ ((d.packet h).stage = .released ∨ (d.packet h).stage = .offered) ∨ (!d.accepts Page.clsg) = true ∨
      d.earlierReleased h = true ∨ 4096 ≤ d.packets.countP (fun e => e.2.stage == .walked)) := by
    simp [hreleased, haccepts, hfirst, hroom]
  refine (if_neg htaken).trans ?_
  cases hcurrent : d.fbit Page.clsg Reg.CLS_BATCH_CUR_CUR_VALID with
  | true => simp [hengine, hreleased, hpass, hcurrent, Dev.startFirstWalk]
  | false => simp [hengine, hreleased, hpass, hcurrent]

/-! ## Ends of walks (R88, R89) -/

theorem execTreeWalk_of_walking {s : State} {h e : Nat} (hwalking : (s.dev.packet h).stage = .walking e) :
    execTreeWalk h s = s.become (s.dev.endWalk h e
      (s.dev.walk (s.dev.packet h).md (s.dev.packet h).flags ((s.dev.packet h).batch.getD 0))) := by
  simp only [execTreeWalk, hwalking]

/-- A packet that is not walking has no walk to end (log entry 2). -/
theorem execTreeWalk_of_notWalking {s : State} {h : Nat} (hidle : ∀ e, (s.dev.packet h).stage ≠ .walking e) :
    execTreeWalk h s = s.become s.dev := by
  cases hstage : (s.dev.packet h).stage with
  | walking e => exact absurd hstage (hidle e)
  | _ => simp only [execTreeWalk, hstage]

/-- The device when what walk `w` read is counted on the page of its engine and in the wide counters. -/
def Dev.countWalk (d : Dev) (page : Nat) (w : Walk) : Dev :=
  let d1 := (((d.count page Reg.CLS_WALK_CNT_CNT).count page Reg.CLS_NODE_CNT_CNT w.nodes).wcount Page.clsg 1).wcount Page.clsg 2
    w.nodes
  (((d1.countMisses page Reg.CLS_RULE_GDDR_CNT_CNT w.rules).count Page.clsg Reg.CLS_ABSENT_CNT_CNT w.absent).latchWhen w.treeUe
    page FaultBit.cls_TREE_UE).latchWhen w.ruleUe page FaultBit.cls_RULE_UE

/-- The device when a MISS (1) or an ERR (2) and the fetch of the rule that stands for it are counted. -/
def Dev.countDefault (d : Dev) (page outcome : Nat) : Dev :=
  let d1 := d.count Page.clsg (if outcome = 1 then Reg.CLS_MISS_CNT_CNT else Reg.CLS_ERR_CNT_CNT)
  (if outcome = 2 then d1.pulse 182 else d1).countMisses page Reg.CLS_RULE_GDDR_CNT_CNT 1

/-- Packet `h` takes the batch's rule `r` for a MISS or an ERR, or is dropped when that rule cannot be used. -/
def Dev.takeDefault (d : Dev) (h page r : Nat) (p : Packet) : Dev :=
  match d.readRule r with
  | none => (d.latchFault page FaultBit.cls_RULE_UE).clsDrop h
  | some ws => if ruleGood ws = false then d.clsDrop h
    else if ruleValid ws then d.setPacket h { p with stage := .walked, ruleIndex := r, rule := ws.map (BitVec.ofNat 32) }
    else (d.count Page.clsg Reg.CLS_ABSENT_CNT_CNT).clsDrop h

theorem Dev.endWalk_of_match {d : Dev} {h e : Nat} {w : Walk} (hmatch : w.outcome = 0) :
    d.endWalk h e w =
      let d3 := d.countWalk (Page.cls (d.pageOfUnit puntyCls e)) w
      d3.setPacket h { d.packet h with
        stage := .walked, ruleIndex := w.rule, rule := ((d3.readRule w.rule).getD []).map (BitVec.ofNat 32) } :=
  if_pos hmatch

theorem Dev.endWalk_of_noMatch {d : Dev} {h e : Nat} {w : Walk} (hnone : w.outcome ≠ 0) :
    d.endWalk h e w =
      let page := Page.cls (d.pageOfUnit puntyCls e)
      let b := (d.packet h).batch.getD 0
      let d3 := d.countWalk page w
      (d3.countDefault page w.outcome).takeDefault h page
        (d3.fget Page.clsg (if w.outcome = 1 then bdMiss b else bdErr b)) (d.packet h) := by
  refine (if_neg hnone).trans ?_
  simp only [Dev.takeDefault, Bool.not_eq_true']
  rfl

/-! ## Hand-off (R91) -/

theorem Dev.handOff_of_first {d : Dev} {h : Nat} (hwalked : (d.packet h).stage = .walked)
    (hfirst : d.packets.any (fun e => e.1 != h && e.2.source == (d.packet h).source && e.2.pass == (d.packet h).pass &&
      decide (e.2.order < (d.packet h).order) && (match e.2.stage with | .walking _ => true | .walked => true | _ => false)) = false) :
    d.handOff h = d.setStage h .acting :=
  if_pos ⟨hwalked, by rw [Bool.not_eq_true']; exact hfirst⟩

/-- Settles O29: acceptance by whether there is a current batch, the end of a walk by whether it matched. -/
theorem classifierRecordCommands : Obligations.ClassifierRecordCommands := by
  unfold Obligations.ClassifierRecordCommands
  refine ⟨?accept, ?noBatch, ?walkMatch, ?walkDefault, ?notWalking, ?handOff⟩
  case accept =>
    intro s h e hreleased haccepts hfirst hroom hengine hpass hcurrent
    exact congrArg s.become
      ((Dev.acceptRecord_of_firstPass hreleased haccepts hfirst hroom hengine hpass).trans (if_pos hcurrent))
  case noBatch =>
    intro s h e hreleased haccepts hfirst hroom hengine hpass hnone
    exact congrArg s.become
      ((Dev.acceptRecord_of_firstPass hreleased haccepts hfirst hroom hengine hpass).trans (if_neg (by simp [hnone])))
  case walkMatch =>
    rintro s h e _ _ _ rfl hwalking rfl hmatch rfl
    exact ⟨_, rfl, (execTreeWalk_of_walking hwalking).trans (congrArg s.become (Dev.endWalk_of_match hmatch))⟩
  case walkDefault =>
    rintro s h e _ _ _ _ _ _ rfl hwalking rfl hnone rfl rfl rfl rfl
    exact (execTreeWalk_of_walking hwalking).trans (congrArg s.become (Dev.endWalk_of_noMatch hnone))
  case notWalking =>
    intro s h hidle
    exact execTreeWalk_of_notWalking hidle
  case handOff =>
    intro s h hwalked hfirst
    exact congrArg s.become (Dev.handOff_of_first hwalked hfirst)

/-! ## Batches (R92, R96, R102) -/

/-- A FREE batch whose roots are 1 to 4096 and lie within the on-die store is staged. -/
theorem Dev.stageBatch_of_inRange {d : Dev} {b : Nat} (hfree : d.batchState b = 0) (hpos : 0 < d.fget Page.clsg (bdNroot b))
    (hmax : d.fget Page.clsg (bdNroot b) ≤ 4096)
    (hend : d.fget Page.clsg (bdRoot b) + d.fget Page.clsg (bdNroot b) ≤ 524288) : d.stageBatch b = d.setBatchState b 1 := by
  have hgood : ¬ (d.fget Page.clsg (bdNroot b) = 0 ∨ 4096 < d.fget Page.clsg (bdNroot b) ∨
      524288 < d.fget Page.clsg (bdRoot b) + d.fget Page.clsg (bdNroot b)) := by omega
  exact (if_neg (not_not_intro hfree)).trans (if_neg hgood)

theorem Dev.stageBatch_of_notFree {d : Dev} {b : Nat} (hstate : d.batchState b ≠ 0) : d.stageBatch b = d.refuseBatch b 1 :=
  if_pos hstate

theorem Dev.unstageBatch_of_staged {d : Dev} {b : Nat} (hstaged : d.batchState b = 1) :
    d.unstageBatch b = d.setBatchState b 0 :=
  if_pos hstaged

theorem Dev.swapBatch_of_staged {d : Dev} {b : Nat} (hstaged : d.batchState b = 1) :
    d.swapBatch b =
      (((if d.fbit Page.clsg Reg.CLS_BATCH_CUR_CUR_VALID then d.setBatchState (d.fget Page.clsg Reg.CLS_BATCH_CUR_CUR) 3
        else d).setBatchState b 2).fset Page.clsg Reg.CLS_BATCH_CUR_CUR b).fset Page.clsg Reg.CLS_BATCH_CUR_CUR_VALID 1 :=
  if_neg (not_not_intro hstaged)

theorem Dev.retireBatch_of_drained {d : Dev} {b : Nat} (hdraining : d.batchState b = 3)
    (hempty : d.fget Page.clsg (inflightBatch b) = 0) :
    d.retireBatch b = ((d.setBatchState b 4).fset Page.clsg ⟨Reg.CLS_BATCH_RETIRED_MAP.off, b, 1⟩ 1).pulse 178 :=
  if_pos ⟨hdraining, hempty⟩

/-- Settles O30: each request reaches its register, and the batch is in the state that the request asks for or, for the
refusal, is not. -/
theorem batchCommands : Obligations.BatchCommands := by
  unfold Obligations.BatchCommands
  refine ⟨?stage, ?refused, ?unstage, ?swap, ?retire, ?clear⟩
  case stage =>
    rintro s req b _ hreach rfl hfree hpos hmax hend hawake
    exact congrArg s.become
      ((Dev.onWrite_of_reached _ hreach hawake).trans (Dev.stageBatch_of_inRange hfree hpos hmax hend))
  case refused =>
    rintro s req b _ hreach rfl hstate hawake
    exact congrArg s.become ((Dev.onWrite_of_reached _ hreach hawake).trans (Dev.stageBatch_of_notFree hstate))
  case unstage =>
    rintro s req b _ hreach rfl hstaged hawake
    exact congrArg s.become ((Dev.onWrite_of_reached _ hreach hawake).trans (Dev.unstageBatch_of_staged hstaged))
  case swap =>
    rintro s req b _ hreach rfl hstaged hawake
    exact congrArg s.become ((Dev.onWrite_of_reached _ hreach hawake).trans (Dev.swapBatch_of_staged hstaged))
  case retire =>
    intro s b hdraining hempty
    exact congrArg s.become (Dev.retireBatch_of_drained hdraining hempty)
  case clear =>
    intro s req m hreach hawake
    exact congrArg s.become (Dev.onWrite_of_reached _ hreach hawake)

end Sys2Proof.Machine

/-!
The operation ports (R116): when an operation starts, is held, runs to its end, and starts after having been held.
-/

namespace Sys2Proof.Machine

theorem Dev.portGo_of_running {d : Dev} {i : PortInfo} {o : PortOp} (req : Requester) (hrun : (d.port i.page).run = some o) :
    d.portGo i req = match (d.port i.page).held with
      | none => d.setPort i.page { d.port i.page with held := some req }
      | some _ => d := by
  rw [Dev.portGo, hrun]
  cases (d.port i.page).held <;> rfl

theorem Dev.portExec_of_running {d e : Dev} {i : PortInfo} {op code : Nat} {o : PortOp} {f : Dev → PortOp → Nat × Dev}
    (hrun : d.portRunning i op = some o) (hresult : f d o = (code, e)) : d.portExec i op f = e.portEnd i code := by
  simp only [Dev.portExec, hrun, hresult]

theorem Dev.portHeldStart_of_held {d : Dev} {i : PortInfo} {req : Requester} (hfree : (d.port i.page).run = none)
    (hheld : (d.port i.page).held = some req) :
    d.portHeldStart i = (d.setPort i.page { d.port i.page with held := none }).portStart i req := by
  simp only [Dev.portHeldStart, hfree, hheld]

theorem execHeldOperationStart_of_port {s : State} {page : Nat} {i : PortInfo} (hport : portOf page = some i) :
    execHeldOperationStart page s = s.become (s.dev.portHeldStart i) := by
  simp only [execHeldOperationStart, hport]

/-- Settles O20, by whether a GO is already held. -/
theorem portsHoldOneOperation : Obligations.PortsHoldOneOperation := by
  unfold Obligations.PortsHoldOneOperation
  intro d i req o hrun
  rw [Dev.portGo_of_running req hrun]
  cases (d.port i.page).held with
  | none => exact ⟨fun _ => rfl, fun hheld => absurd rfl hheld⟩
  | some r => exact ⟨nofun, fun _ => rfl⟩

end Sys2Proof.Machine

/-!
Probes of the tables (R111, R112, R115, R121, R123, R130): when a probe of a pass runs, fails outright or is repeated, and what an
age refresh finds.
-/

namespace Sys2Proof.Machine

/-- A probe of an acting packet that has no result yet runs when it is a probe of the table's kind. -/
theorem Dev.runProbe_of_acting {d : Dev} {h n t : Nat} {lpm : Bool} (hacting : (d.packet h).stage = .acting)
    (htable : (probeTables (d.packet h).rule)[n]? = some t) (hfresh : (d.packet h).probes.getD n none = none)
    (hkind : decide (tdKind (d.td t) = 0) ≠ lpm) (hgood : d.actsGood (ruleActs (d.packet h).rule) = true) :
    d.runProbe h n lpm =
      let r := if lpm then d.lpmProbe t (d.packet h).md else d.emProbe t (d.packet h).md
      r.2.storeProbe h n r.1 := by
  simp only [Dev.runProbe, hacting, htable, hfresh]
  exact if_neg (by simp [hkind, hgood])

theorem Dev.emProbe_of_served {d : Dev} {t : Nat} {md : List Byte} (herr : d.probeErr t = false)
    (hbanks : d.banksOut (d.td t) (d.emKey t md) = false) :
    d.emProbe t md =
      let f := d.probeKey t (d.emKey t md)
      match f.1 with
      | some c => (f.2.2.probeHit t c f.2.1 0, f.2.2.askRefresh (d.td t) c)
      | none => ({ table := t, bad := f.2.1 }, f.2.2) :=
  if_neg (by simp [herr, hbanks])

theorem Dev.emProbe_of_failing {d : Dev} {t : Nat} {md : List Byte}
    (hfails : (d.probeErr t || d.banksOut (d.td t) (d.emKey t md)) = true) :
    d.emProbe t md = ({ table := t, err := true }, d) :=
  if_pos hfails

theorem Dev.lpmProbe_of_enabled {d : Dev} {t : Nat} (md : List Byte) (herr : d.probeErr t = false) :
    d.lpmProbe t md = d.lpmTry t (d.profileBytes t md) (d.lpmLengths t (d.profileBytes t md)) false :=
  if_neg (by simp [herr])

theorem Dev.reprobe_of_touched {d : Dev} {h n t : Nat} (hacting : (d.packet h).stage = .acting)
    (htable : (probeTables (d.packet h).rule)[n]? = some t) (htouched : (d.packet h).touched.contains n = true) :
    d.reprobe h n =
      let r := d.emProbe t (d.packet h).md
      ((r.2.storeProbe h n r.1).count
        (Page.tbl (bankOf (d.td t) (bucket1 (d.td t) (d.emKey t (d.packet h).md)))) Reg.TBL_REPROBE_CNT_CNT).modPacket h
        (fun p => { p with repeats := p.repeats ++ [n] }) := by
  simp only [Dev.reprobe, hacting, htable]
  exact if_pos htouched

theorem Dev.refreshAge_of_head {d : Dev} {slot gen : Nat} {rest : List (Nat × Nat)} (hhead : d.refreshQ = (slot, gen) :: rest) :
    d.refreshAge =
      let d1 := { d with refreshQ := rest }
      let ws := d1.slotWords slot
      if eValid ws ∧ eGen ws = gen ∧ !d1.slotBad slot then
        d1.writeSlot slot (ws.set 14 (setBits (nth ws 14) 24 8 d1.epoch))
      else d1.count (Page.tbl (d1.bankOfSlot (eTable ws) slot)) Reg.TBL_REFRESH_STALE_CNT := by
  simp only [Dev.refreshAge, hhead]

/-- Settles O31: each probe runs, and its table and banks decide what it stores. -/
theorem tableProbeCommands : Obligations.TableProbeCommands := by
  unfold Obligations.TableProbeCommands
  refine ⟨?exactMatch, ?failing, ?longestPrefix, ?repeated, ?refresh⟩
  case exactMatch =>
    rintro s h n t _ rfl hacting htable hfresh hkind hgood herr hbanks
    refine congrArg s.become ((Dev.runProbe_of_acting hacting htable hfresh (by simp [hkind]) hgood).trans ?_)
    simp only [Bool.false_eq_true, if_false, Dev.emProbe_of_served herr hbanks]
    cases (s.dev.probeKey t (s.dev.emKey t (s.dev.packet h).md)).1 <;> rfl
  case failing =>
    rintro s h n t _ rfl hacting htable hfresh hkind hgood hfails
    refine congrArg s.become ((Dev.runProbe_of_acting hacting htable hfresh (by simp [hkind]) hgood).trans ?_)
    simp only [Bool.false_eq_true, if_false, Dev.emProbe_of_failing hfails]
  case longestPrefix =>
    rintro s h n t _ rfl hacting htable hfresh hkind hgood herr
    refine congrArg s.become ((Dev.runProbe_of_acting hacting htable hfresh (by simp [hkind]) hgood).trans ?_)
    simp only [if_true, Dev.lpmProbe_of_enabled _ herr]
  case repeated =>
    rintro s h n t _ rfl hacting htable htouched
    exact congrArg s.become (Dev.reprobe_of_touched hacting htable htouched)
  case refresh =>
    rintro s slot gen rest _ hhead rfl
    exact congrArg s.become (Dev.refreshAge_of_head hhead)

end Sys2Proof.Machine

/-!
Operations of the TBLG port (R116, R117, R121, R128, R134): what each does with a well-formed image, by what its key finds, and the
walk of a rebuild.
-/

namespace Sys2Proof.Machine

/-! ## INSERT (R117) -/

theorem Dev.insertNew_of_free {d : Dev} {t slot : Nat} {image : List Nat} {k : List Byte} (noevict learned : Bool)
    (hfree : (buckets (d.td t) k).findSome? (d.freeSlot (d.td t)) = some slot) :
    d.insertNew t image k noevict learned = ({ code := Code.ok, slot := slot }, d.putEntry t image learned slot) := by
  simp only [Dev.insertNew, hfree]

/-- Whether an insert of `image` into table `t` finds the kind's prefix limit or its owner's quota used up (R119, R122). -/
def Dev.insertLimited (d : Dev) (t : Nat) (image : List Nat) : Prop :=
  (tdKind (d.td t) ≠ 0 ∧ prefixLimit (tdKind (d.td t)) ≤ d.prefixes (tdKind (d.td t))) ∨
    (!eOwnerMgr image ∧ d.quotaReached (eOwner image))

theorem Dev.insertEntry_of_found {d : Dev} {t : Nat} {image : List Nat} {k : List Byte} {c : Cand} (noevict : Bool)
    (hfound : (d.findKey t k).1 = some c) :
    d.insertEntry t image k noevict =
      let d0 := (d.findKey t k).2.2
      let new := entryWords image d0.epoch (eGen (d0.slotWords c.slot)) false
      ({ code := Code.ok, found := true, ovf := c.way.isSome, slot := c.slot },
        ((d0.ownEntry (d0.slotWords c.slot) false).writeSlot c.slot new).ownEntry new true) := by
  simp only [Dev.insertEntry, hfound]

theorem Dev.insertEntry_of_limited {d : Dev} {t : Nat} {image : List Nat} {k : List Byte} (noevict : Bool)
    (habsent : (d.findKey t k).1 = none) (hlimited : (d.findKey t k).2.2.insertLimited t image) :
    d.insertEntry t image k noevict = ({ code := Code.resource }, (d.findKey t k).2.2) := by
  simp only [Dev.insertEntry, habsent]
  exact if_pos hlimited

theorem Dev.insertEntry_of_room {d : Dev} {t : Nat} {image : List Nat} {k : List Byte} (noevict : Bool)
    (habsent : (d.findKey t k).1 = none) (hroom : ¬ (d.findKey t k).2.2.insertLimited t image) :
    d.insertEntry t image k noevict = (d.findKey t k).2.2.insertNew t image k noevict false := by
  simp only [Dev.insertEntry, habsent]
  exact if_neg hroom

theorem Dev.opInsert_of_good {d e : Dev} {o : PortOp} {i : Inserted} {noevict : Bool} (hgood : d.imageGood o = true)
    (hinsert : d.insertEntry (opTable o) (opImage o) (d.opKey o) noevict = (i, e)) :
    d.opInsert o noevict = (i.code, e.opOutcome i) := by
  simp only [Dev.opInsert, hgood, if_true, hinsert]

/-! ## Images that are not well formed (R116) -/

theorem Dev.opInsert_of_malformed {d : Dev} {o : PortOp} (noevict : Bool) (hbad : d.imageGood o = false) :
    d.opInsert o noevict = (Code.malformed, d.opOutcome { code := Code.malformed }) :=
  if_neg (by simp [hbad])

theorem Dev.opDelete_of_malformed {d : Dev} {o : PortOp} (hbad : d.imageGood o = false) :
    d.opDelete o = (Code.malformed, d.opOutcome { code := Code.malformed }) :=
  if_neg (by simp [hbad])

theorem Dev.opLookup_of_malformed {d : Dev} {o : PortOp} (hbad : d.imageGood o = false) :
    d.opLookup o = (Code.malformed, d.opOutcome { code := Code.malformed }) :=
  if_neg (by simp [hbad])

/-! ## DELETE, LOOKUP and CLEAR_SLOT (R116, R134) -/

theorem Dev.opDelete_of_found {d : Dev} {o : PortOp} {c : Cand} (hgood : d.imageGood o = true)
    (hfound : (d.findKey (opTable o) (d.opKey o)).1 = some c) :
    d.opDelete o = (Code.ok, ((d.findKey (opTable o) (d.opKey o)).2.2.clearEntry c).opOutcome
      { code := Code.ok, found := true, slot := c.slot }) := by
  simp only [Dev.opDelete, hgood, if_true, hfound]

theorem Dev.opDelete_of_absent {d : Dev} {o : PortOp} (hgood : d.imageGood o = true)
    (habsent : (d.findKey (opTable o) (d.opKey o)).1 = none) :
    d.opDelete o = (Code.ok, (d.findKey (opTable o) (d.opKey o)).2.2.opOutcome
      { code := Code.ok, slot := d.fget Page.tblg Reg.TBLG_OP_SLOT_SLOT }) := by
  simp only [Dev.opDelete, hgood, if_true, habsent]

theorem Dev.opLookup_of_found {d : Dev} {o : PortOp} {c : Cand} (hgood : d.imageGood o = true)
    (hfound : (d.probeKey (opTable o) (d.opKey o)).1 = some c) :
    d.opLookup o = (Code.ok, ((d.probeKey (opTable o) (d.opKey o)).2.2.tblgResult (d.slotWords c.slot)).opOutcome
      { code := Code.ok, found := true, ovf := c.way.isSome, slot := c.slot }) := by
  simp only [Dev.opLookup, hgood, if_true, hfound]

theorem Dev.opClear_of_bucketSlot {d : Dev} {o : PortOp} (henabled : tdEn (d.td (opTable o)) = true)
    (hfirst : tdBase (d.td (opTable o)) * 2 ^ 14 ≤ bits (nth (opImage o) 0) 0 29)
    (hlast : bits (nth (opImage o) 0) 0 29 < tdBase (d.td (opTable o)) * 2 ^ 14 + 4 * 2 ^ tdLog2 (d.td (opTable o))) :
    d.opClear o = (Code.ok, (d.clearEntry { slot := bits (nth (opImage o) 0) 0 29 }).opOutcome
      { code := Code.ok, slot := bits (nth (opImage o) 0) 0 29 }) :=
  (if_neg (by simp [henabled])).trans (if_pos ⟨hfirst, hlast⟩)

/-! ## BLOOM_REBUILD (R121) -/

/-- A rebuild of a length of an enabled LPM table, into a filter that fits the Bloom store, starts its walk. -/
theorem Dev.startRebuild_of_fits {d : Dev} {o : PortOp} (hrun : d.portRunning portTblg 6 = some o) (hidle : d.rebuild = none)
    (henabled : tdEn (d.td (opTable o)) = true) (hkind : tdKind (d.td (opTable o)) ≠ 0)
    (hlen : opArg o ≤ tdMaxLen (d.td (opTable o))) (hmin : 9 ≤ bits (nth (opImage o) 0) 17 5)
    (hmax : bits (nth (opImage o) 0) 17 5 ≤ 24)
    (hfits : bits (nth (opImage o) 0) 0 17 * 512 + 2 ^ bits (nth (opImage o) 0) 17 5 ≤ 67108864) :
    d.startRebuild = { d with
      rebuild := some (opTable o, opArg o, bits (nth (opImage o) 0) 0 17, bits (nth (opImage o) 0) 17 5) } := by
  simp only [Dev.startRebuild, hrun, hidle, Option.isSome_none, Bool.false_eq_true, if_false]
  exact if_neg (by simp only [henabled, hkind, Bool.not_true, Bool.false_eq_true, false_or]; omega)

/-- The Bloom filter of `base` and `log2` takes every entry of length `len` of table `t` (R121). -/
def Dev.rebuildFilter (d : Dev) (t len base log2 : Nat) : Dev :=
  (d.entriesOf t).foldl (fun (e : Dev) k => if bits (nth (e.slotWords k) 0) 0 8 = len then
    e.bloomSet (d.td t) ((eKey (e.slotWords k)).take (tdKeyBytes (d.td t))) base log2 else e) d

theorem Dev.endRebuild_of_walking {d : Dev} {t len base log2 : Nat} (hwalk : d.rebuild = some (t, len, base, log2))
    (hrate : d.fget Page.tblg Reg.TBLG_SWEEP_RATE_RATE ≠ 0) :
    d.endRebuild =
      let d1 := d.rebuildFilter t len base log2
      (({ (d1.wset Page.tblg (lenIndex t len) (setBits (setBits (d1.ld t len) 0 17 base) 17 5 log2)) with
        rebuild := none } : Dev).opOutcome { code := Code.ok, slot := d.fget Page.tblg Reg.TBLG_OP_SLOT_SLOT }).portEnd portTblg
          Code.ok := by
  simp only [Dev.endRebuild, hwalk]
  exact if_neg hrate

/-- Settles O32: an operation by whether its image is well formed, whether its key is found, and whether there is room. -/
theorem tableOperationCommands : Obligations.TableOperationCommands := by
  unfold Obligations.TableOperationCommands
  refine ⟨?insertFound, ?noevictFound, ?insertFree, ?noevictFree, ?insertLimited, ?noevictLimited, ?insertMalformed,
    ?noevictMalformed, ?deleteMalformed, ?lookupMalformed, ?deleteFound, ?deleteAbsent, ?lookupFound, ?clearSlot, ?rebuild,
    ?rebuildEnd⟩
  case insertFound =>
    intro s o c hrun hgood hfound
    exact congrArg s.become (Dev.portExec_of_running hrun (Dev.opInsert_of_good hgood (Dev.insertEntry_of_found false hfound)))
  case noevictFound =>
    intro s o c hrun hgood hfound
    exact congrArg s.become (Dev.portExec_of_running hrun (Dev.opInsert_of_good hgood (Dev.insertEntry_of_found true hfound)))
  case insertFree =>
    rintro s o _ slot hrun hgood habsent rfl hroom hfree
    exact congrArg s.become (Dev.portExec_of_running hrun
      (Dev.opInsert_of_good hgood ((Dev.insertEntry_of_room false habsent hroom).trans (Dev.insertNew_of_free false false hfree))))
  case noevictFree =>
    rintro s o _ slot hrun hgood habsent rfl hroom hfree
    exact congrArg s.become (Dev.portExec_of_running hrun
      (Dev.opInsert_of_good hgood ((Dev.insertEntry_of_room true habsent hroom).trans (Dev.insertNew_of_free true false hfree))))
  case insertLimited =>
    rintro s o _ hrun hgood habsent rfl hlimited
    exact congrArg s.become (Dev.portExec_of_running hrun
      (Dev.opInsert_of_good hgood (Dev.insertEntry_of_limited false habsent hlimited)))
  case noevictLimited =>
    rintro s o _ hrun hgood habsent rfl hlimited
    exact congrArg s.become (Dev.portExec_of_running hrun
      (Dev.opInsert_of_good hgood (Dev.insertEntry_of_limited true habsent hlimited)))
  case insertMalformed =>
    intro s o hrun hbad
    exact congrArg s.become (Dev.portExec_of_running hrun (Dev.opInsert_of_malformed false hbad))
  case noevictMalformed =>
    intro s o hrun hbad
    exact congrArg s.become (Dev.portExec_of_running hrun (Dev.opInsert_of_malformed true hbad))
  case deleteMalformed =>
    intro s o hrun hbad
    exact congrArg s.become (Dev.portExec_of_running hrun (Dev.opDelete_of_malformed hbad))
  case lookupMalformed =>
    intro s o hrun hbad
    exact congrArg s.become (Dev.portExec_of_running hrun (Dev.opLookup_of_malformed hbad))
  case deleteFound =>
    intro s o c hrun hgood hfound
    exact congrArg s.become (Dev.portExec_of_running hrun (Dev.opDelete_of_found hgood hfound))
  case deleteAbsent =>
    intro s o hrun hgood habsent
    exact congrArg s.become (Dev.portExec_of_running hrun (Dev.opDelete_of_absent hgood habsent))
  case lookupFound =>
    intro s o c hrun hgood hfound
    exact congrArg s.become (Dev.portExec_of_running hrun (Dev.opLookup_of_found hgood hfound))
  case clearSlot =>
    intro s o hrun henabled hfirst hlast
    exact congrArg s.become (Dev.portExec_of_running hrun (Dev.opClear_of_bucketSlot henabled hfirst hlast))
  case rebuild =>
    intro s o hrun hidle henabled hkind hlen hmin hmax hfits
    exact congrArg s.become (Dev.startRebuild_of_fits hrun hidle henabled hkind hlen hmin hmax hfits)
  case rebuildEnd =>
    rintro s t len base log2 _ hwalk hrate rfl
    exact congrArg s.become (Dev.endRebuild_of_walking hwalk hrate)

end Sys2Proof.Machine

/-!
Learning, ageing and notification of the tables (R122-R127, R131): what the head of each queue, the epoch and the sweep come to in
the state in which their command applies.
-/

namespace Sys2Proof.Machine

/-! ## Learning (R122) -/

/-- The device when the head of the learn queue is taken off and `rest` is left. -/
def Dev.takeLearn (d : Dev) (rest : List Learn) : Dev :=
  ({ d with learnQ := rest } : Dev).fset Page.tblg Reg.TBLG_LEARN_DEPTH_DEPTH rest.length

/-- A learn that made `i` of a new entry is counted, and notified when its table `v` asks for it (R122, R126). -/
def Dev.countLearned (d : Dev) (v : Nat) (l : Learn) (i : Inserted) : Dev :=
  let d1 := d.count Page.tblg Reg.TBL_LEARN_CNT_CNT
  if tdLearnNotify v then
    d1.notify Note.learned l.table i.slot (List.replicate 14 0 ++ [d1.epoch * 2 ^ 24,
      setBits (setBits 0 0 16 (eGen (d1.slotWords i.slot) + 65535)) 31 1 1]) (learnImage l) (noteOwner (learnImage l))
  else d1

theorem Dev.executeLearn_of_unlearnable {d d0 : Dev} {l : Learn} {rest : List Learn} (hhead : d.learnQ = l :: rest)
    (htaken : d.takeLearn rest = d0) (htable : d0.learnable l.table = false) : d.executeLearn = d0.dropLearn := by
  rw [Dev.takeLearn] at htaken
  simp only [Dev.executeLearn, hhead, htaken, htable, Bool.not_false, if_true]

/-- A learn of a new key, with quota and room for its notification, inserts its entry. -/
theorem Dev.executeLearn_of_new {d d0 d1 : Dev} {l : Learn} {rest : List Learn} (hhead : d.learnQ = l :: rest)
    (htaken : d.takeLearn rest = d0) (htable : d0.learnable l.table = true) (habsent : (d0.findKey l.table l.key).1 = none)
    (hfind : (d0.findKey l.table l.key).2.2 = d1) (hquota : d1.stampQuota l.stamp = false) (hnotes : d1.noteQ.length < 255)
    (hinserted : (d1.insertNew l.table (learnImage l) l.key false true).1.code = Code.ok) :
    d.executeLearn =
      let r := d1.insertNew l.table (learnImage l) l.key false true
      r.2.countLearned (d0.td l.table) l r.1 := by
  have hroom : d1.noteRoom = true := decide_eq_true (by omega)
  have hevict : ¬ 255 ≤ d1.noteQ.length := by omega
  have hok : Code.ok ≠ Code.resource := by decide
  rw [Dev.takeLearn] at htaken
  simp only [Dev.executeLearn, hhead, htaken, htable, habsent, hfind, hquota, hroom, hevict, hinserted, hok, decide_false,
    Bool.and_false, Bool.not_true, Bool.false_eq_true, and_false, ne_eq, not_true_eq_false, if_false]
  rfl

/-! ## Ageing (R123, R124, R131) -/

theorem Dev.advanceEpoch_of_idle {d : Dev} (htick : d.fget Page.tblg Reg.TBLG_AGE_TICK_MS ≠ 0) (hidle : d.sweep = none) :
    d.advanceEpoch =
      let d1 := d.count Page.tblg Reg.TBLG_EPOCH_EPOCH
      d1.setSweep (d1.sweepTable 0) := by
  have hstill : (d.count Page.tblg Reg.TBLG_EPOCH_EPOCH).sweep = none := hidle
  simp only [Dev.advanceEpoch, htick, if_false, hstill]

theorem Dev.advanceEpoch_of_sweeping {d : Dev} {p : SweepAt} (htick : d.fget Page.tblg Reg.TBLG_AGE_TICK_MS ≠ 0)
    (hsweep : d.sweep = some p) :
    d.advanceEpoch = ((({ (d.count Page.tblg Reg.TBLG_EPOCH_EPOCH) with sweepAgain := true } : Dev).count Page.tblg
      Reg.TBL_SWEEP_LATE_CNT).latchFault Page.tblg FaultBit.tblg_SWEEP_LATE).pulse 200 := by
  have hstill : (d.count Page.tblg Reg.TBLG_EPOCH_EPOCH).sweep = some p := hsweep
  simp only [Dev.advanceEpoch, htick, if_false, hstill]

theorem Dev.visitSweep_of_bucket {d : Dev} {t i : Nat} (hplace : d.sweep = some (.bucket t i))
    (hrate : d.fget Page.tblg Reg.TBLG_SWEEP_RATE_RATE ≠ 0) (hroom : d.noteRoom = true) :
    d.visitSweep =
      let d1 := ({ d with clearQ := d.clearQ ++ (bucketSlots (d.td t) i).flatMap (fun k => d.agedClears k none) } : Dev).setSweep
        (d.sweepNext (.bucket t i))
      if d1.sweep.isNone ∧ d1.sweepAgain then ({ d1 with sweepAgain := false } : Dev).setSweep (d1.sweepTable 0) else d1 := by
  simp only [Dev.visitSweep, hplace, hrate, if_false, hroom, Bool.not_true, Bool.false_eq_true]

/-- Whether the slot of a compare-and-clear still holds the entry that the sweep saw (R123). -/
def Dev.clearMatches (d : Dev) (c : AgedClear) : Prop :=
  d.slotBad c.slot = false ∧ eValid (d.slotWords c.slot) = true ∧ eAge (d.slotWords c.slot) = c.age ∧
    eGen (d.slotWords c.slot) = c.gen ∧ eTable (d.slotWords c.slot) = c.table

theorem Dev.compareClear_of_match {d : Dev} {c : AgedClear} {rest : List AgedClear} (hhead : d.clearQ = c :: rest)
    (hroom : d.noteRoom = true) (hmatch : d.clearMatches c) :
    d.compareClear =
      let ws := d.slotWords c.slot
      let d1 := { d with clearQ := rest }
      ((if tdAgeNotify (d.td c.table) then d1.notify Note.aged c.table c.slot ws ws (noteOwner ws) else d1).clearEntry
        { slot := c.slot, way := c.way }).count Page.tblg Reg.TBL_AGE_DEL_CNT_CNT := by
  obtain ⟨hgood, hvalid, hage, hgen, htable⟩ := hmatch
  have hgood' : Dev.slotBad { d with clearQ := rest } c.slot = false := hgood
  simp only [Dev.compareClear, hhead, hroom, Bool.not_true, Bool.false_eq_true, and_false, if_false]
  exact if_pos ⟨by rw [hgood', Bool.not_false], hvalid, hage, hgen, htable⟩

theorem Dev.compareClear_of_mismatch {d : Dev} {c : AgedClear} {rest : List AgedClear} (hhead : d.clearQ = c :: rest)
    (hroom : d.noteRoom = true) (hmismatch : ¬ d.clearMatches c) :
    d.compareClear =
      let d1 := { d with clearQ := rest }
      (d1.count (Page.tbl (d1.bankOfSlot c.table c.slot)) Reg.TBL_AGE_RACE_CNT).wcount Page.tblg 3 := by
  simp only [Dev.compareClear, hhead, hroom, Bool.not_true, Bool.false_eq_true, and_false, if_false]
  exact if_neg (by rw [Bool.not_eq_true']; exact hmismatch)

/-! ## Notifications (R125, R127) -/

theorem Dev.writeNote_of_room {d : Dev} {words : List Nat} {rest : List (List Nat)} (hhead : d.noteQ = words :: rest)
    (henabled : d.fbit Page.tblg Reg.TBLG_NR_CTL_ENABLE = true)
    (hroom : (d.fget Page.tblg Reg.TBLG_NR_PROD_PROD + 2 ^ 32 - d.fget Page.tblg Reg.TBLG_NR_CONS_CONS) % 2 ^ 32 <
      2 ^ d.fget Page.tblg Reg.TBLG_NR_CTL_SIZE_LOG2)
    (hready : d.hostReady 0 = true) :
    d.writeNote =
      let n := 2 ^ d.fget Page.tblg Reg.TBLG_NR_CTL_SIZE_LOG2
      let prod := d.fget Page.tblg Reg.TBLG_NR_PROD_PROD
      (((({ d with noteQ := rest } : Dev).fset Page.tblg Reg.TBLG_NR_BACKLOG_DEPTH rest.length).hwrite 0
        (d.wget Page.tblg 0x10 % 2 ^ 64 + prod % n * 64)
        (((nth words 0 + (if prod / n % 2 = 0 then 2 ^ 31 else 0)) :: words.drop 1).flatMap (toLe 4)) {}).count Page.tblg
          Reg.TBLG_NR_PROD_PROD).pulse 198 := by
  simp only [Dev.writeNote, hhead]
  exact if_neg (by simp only [henabled, hready, Bool.not_true, Bool.false_eq_true, false_or, or_false]; omega)

/-- Settles O33: each command takes the head of its queue, or the place of the sweep, and what it finds there decides. -/
theorem tableUpkeepCommands : Obligations.TableUpkeepCommands := by
  unfold Obligations.TableUpkeepCommands
  refine ⟨?unlearnable, ?learnNew, ?epochIdle, ?epochLate, ?sweepVisit, ?clearMatch, ?clearRace, ?noteWrite, ?consWrite⟩
  case unlearnable =>
    intro s l rest d0 hhead htaken htable
    exact congrArg s.become (Dev.executeLearn_of_unlearnable hhead htaken htable)
  case learnNew =>
    intro s l rest d0 d1 hhead htaken htable habsent hfind hquota hnotes hinserted
    exact congrArg s.become (Dev.executeLearn_of_new hhead htaken htable habsent hfind hquota hnotes hinserted)
  case epochIdle =>
    intro s htick hidle
    exact congrArg s.become (Dev.advanceEpoch_of_idle htick hidle)
  case epochLate =>
    intro s p htick hsweep
    exact congrArg s.become (Dev.advanceEpoch_of_sweeping htick hsweep)
  case sweepVisit =>
    rintro s t i _ hplace hrate hroom rfl
    exact congrArg s.become (Dev.visitSweep_of_bucket hplace hrate hroom)
  case clearMatch =>
    rintro s c rest _ hhead hroom rfl hgood hvalid hage hgen htable
    exact congrArg s.become (Dev.compareClear_of_match hhead hroom ⟨hgood, hvalid, hage, hgen, htable⟩)
  case clearRace =>
    rintro s c rest _ hhead hroom rfl hgen
    exact congrArg s.become (Dev.compareClear_of_mismatch hhead hroom fun ⟨_, _, _, hsame, _⟩ => hgen hsame)
  case noteWrite =>
    rintro s words rest _ hhead rfl henabled hroom hready
    exact congrArg s.become (Dev.writeNote_of_room hhead henabled hroom hready)
  case consWrite =>
    intro s req v hreach hawake
    exact congrArg s.become (Dev.onWrite_of_reached _ hreach hawake)

end Sys2Proof.Machine

/-!
The work of queues (R116, R326, R328-R331, R334, R439): the state in which a queue's next entry, frame, completion or interrupt is
dealt with, and the start of a held operation.
-/

namespace Sys2Proof.Machine

/-! ## Entries (R326, R329-R331) -/

/-- A fetch that reads no indirect table takes the entry with the descriptor read for it. -/
theorem Dev.fetchEntry_of_inline {d d1 d2 : Dev} {q : Nat} {img desc : List Byte} (hmay : d.mayFetch q = true)
    (hcontext : d.lineUncorrectable (d.ctxAddr q) = false)
    (hread : d.hostFetch (d.qPort q) (d.sqBase q + (d.queue q).sqCi % d.sqSize q * 64) 64 (d.qAttr q false) = (img, d1))
    (hinline : d.readsTable q img = false) (hdesc : d1.fetchDesc q img = (desc, d2)) :
    d.fetchEntry q .data = d2.takeEntry q img desc := by
  simp only [Dev.fetchEntry, hmay, hcontext, hread, hinline, hdesc, Bool.not_true, Bool.false_eq_true, if_false]

/-- Good data for a read that no page request holds goes on with `f`. -/
theorem Dev.onData_of_data {d : Dev} {q : Nat} {e : QueueEntry} (f : Dev → Dev)
    (hheld : d.heldByPrg (d.qPort q) (.entry q e.index) = false) : d.onData q e .data f = f d :=
  if_neg (by simp [hheld])

theorem Dev.sendEntry_of_tx {d : Dev} {q : Nat} {e : QueueEntry} (a : HostAnswer) (hnext : d.nextEntry q 0x01 = some e)
    (hworking : d.working q = true) (hready : d.qReady q = true) (htx : d.qType q = typeTx) :
    d.sendEntry q a = d.sfinishFrame q e a := by
  simp only [Dev.sendEntry, hnext, hworking, hready, htx, Bool.not_true, Bool.false_eq_true, or_self, if_false, if_true]

theorem Dev.sfinishFrame_of_cells {d : Dev} {q die deep : Nat} {e : QueueEntry} (a : HostAnswer)
    (hgood : sendMalformed e.head = false) (haccepts : d.accepts Page.cru = true)
    (hcells : d.placeCells (cellsOf e.total) (d.freeDie - d.fget Page.cru Reg.CRU_RESERVE_CELLS) = .take die deep) :
    d.sfinishFrame q e a = d.onData q e a (fun d => d.enterFrame q e die deep) := by
  simp only [Dev.sfinishFrame, hgood, haccepts, hcells, Bool.not_true, Bool.false_eq_true, if_false]

theorem Dev.postBuffer_of_working {d : Dev} {q : Nat} {e : QueueEntry}
    (holdest : (d.queue q).entries.find? (fun e => e.opcode == 0x10 && !e.accepted && e.ended.isNone) = some e)
    (hworking : d.working q = true) : d.postBuffer q = d.modEntry q e.index (fun e => { e with accepted := true }) := by
  simp only [Dev.postBuffer, holdest, hworking, if_true]

theorem Dev.cipherEntry_of_good {d : Dev} {q : Nat} {e : QueueEntry} (a : HostAnswer) (hnext : d.nextEntry q 0x20 = some e)
    (hworking : d.working q = true) (hready : d.qReady q = true) (htype : d.qType q = typeCipher)
    (hgood : cipherMalformed e = false) : d.cipherEntry q a = d.onData q e a (fun d => d.submitCipher q e) := by
  simp only [Dev.cipherEntry, hnext, hworking, hready, htype, hgood, Bool.not_true, Bool.false_eq_true, ne_eq,
    not_true_eq_false, or_self, if_false]

/-! ## Frames (R330) -/

/-- A frame at hand of a manager's queue is placed: the checks of its slice (R312) do not concern it. -/
theorem Dev.placeFrame_of_manager {d : Dev} {q : Nat} {p : Placement} (hworking : d.working q = true)
    (hready : d.qReady q = true) (hframe : (d.queue q).placing = some p) (hmanager : d.qManager q = true) :
    d.placeFrame q = d.placeInto q 128 p := by
  simp only [Dev.placeFrame, hworking, hready, hframe, hmanager, Option.isNone_some, Bool.not_true, Bool.false_eq_true,
    and_false, false_and, or_self, if_false]

theorem Dev.holdExpires_of_unavailable {d : Dev} {q : Nat} {p : Placement} (hframe : (d.queue q).placing = some p)
    (hhold : p.hold = true) (hnone : d.entryAvailable q = false) : d.holdExpires q = d.truncateFrame q p := by
  simp only [Dev.holdExpires, hframe, hhold, hnone, Bool.not_true, Bool.false_eq_true, if_false]

/-! ## Completions and interrupts (R328, R334, R439) -/

/-- The completion `c` at the head of a manager queue's backlog, with the words `w :: ws`, goes to the ring with the phase of its
lap; `rest` stays behind it (R328). -/
def Dev.putCompletion (d : Dev) (q : Nat) (c : Completion) (rest : List Completion) (w : Nat) (ws : List Nat) : Dev :=
  let v := d.queue q
  let d1 := d.setQueue q { v with
    backlog := rest
    waited := v.waited && rest != []
    cqPi := (v.cqPi + 1) % 2 ^ 32 }
  let d2 := d1.hwrite (d.qPort q) (d.cqBase q + v.cqPi % d.cqSize q * 32)
    (((w + if v.cqPi / d.cqSize q % 2 = 0 then 2 ^ 31 else 0) :: ws).flatMap (toLe 4)) (d.qAttr q false)
  ((((d2.wcount Page.que 2).countRxWire q c).countIrq q).releaseSlice none).settle q

/-- A manager queue in RUN writes a completion of its own generation whose journal records are in MRAM, as the ring has room. -/
theorem Dev.writeCompletion_of_manager {d d1 : Dev} {q w : Nat} {c : Completion} {rest : List Completion} {ws : List Nat}
    (hprepared : (d.takeSent q).abortUnfetched q = d1) (hhead : (d1.queue q).backlog = c :: rest) (hwords : c.words = w :: ws)
    (hjournal : d1.journalReached c.journal = true) (hrun : (d1.queue q).state = .run) (hgen : c.qgen = (d1.queue q).qgen)
    (hmanager : d1.qManager q = true) (hroom : d1.cqFull q = false) (hready : d1.qReady q = true) :
    d.writeCompletion q = d1.putCompletion q c rest w ws := by
  have hlive : ¬ ((d1.queue q).state = .free ∨ (d1.queue q).state = .idle ∨ (d1.queue q).state = .halted ∨
      c.qgen ≠ (d1.queue q).qgen) := by simp [hrun, hgen]
  simp only [Dev.writeCompletion, hprepared, hhead, hwords, hjournal, if_neg hlive, hmanager, hroom, hready, Bool.not_true,
    Bool.false_eq_true, false_and, or_self, if_false, if_true]
  rfl

theorem Dev.irqDelay_of_passed {d : Dev} {q t : Nat} (hfrom : (d.queue q).irqFrom = some t) (henabled : d.qIrqEn q = true)
    (hdelay : d.qIrqUs q ≠ 0) (hpassed : t + d.qIrqUs q * 1000 ≤ d.now) : d.irqDelay q = d.raiseQueueIrq q := by
  simp only [Dev.irqDelay, hfrom]
  exact if_pos ⟨henabled, hdelay, hpassed⟩

/-- Settles O49: each command finds the entry, frame or completion it deals with, and nothing that holds it back. -/
theorem queueWorkCommands : Obligations.QueueWorkCommands := by
  unfold Obligations.QueueWorkCommands
  refine ⟨?fetch, ?send, ?recv, ?place, ?holdExpiry, ?cipher, ?completion, ?interrupt, ?heldStart⟩
  case fetch =>
    intro s q img desc d1 d2 hmay hcontext hread hinline hdesc
    exact congrArg s.become (Dev.fetchEntry_of_inline hmay hcontext hread hinline hdesc)
  case send =>
    intro s q e die deep hnext hworking hready htx hgood haccepts hcells hheld
    exact congrArg s.become ((Dev.sendEntry_of_tx _ hnext hworking hready htx).trans
      ((Dev.sfinishFrame_of_cells _ hgood haccepts hcells).trans (Dev.onData_of_data _ hheld)))
  case recv =>
    intro s q e holdest hworking
    exact congrArg s.become (Dev.postBuffer_of_working holdest hworking)
  case place =>
    intro s q p hworking hready hframe hmanager
    exact congrArg s.become (Dev.placeFrame_of_manager hworking hready hframe hmanager)
  case holdExpiry =>
    intro s q p hframe hhold hnone
    exact congrArg s.become (Dev.holdExpires_of_unavailable hframe hhold hnone)
  case cipher =>
    intro s q e hnext hworking hready htype hgood hheld
    exact congrArg s.become
      ((Dev.cipherEntry_of_good _ hnext hworking hready htype hgood).trans (Dev.onData_of_data _ hheld))
  case completion =>
    intro s q c rest w ws d1 hprepared hhead hwords hjournal hrun hgen hmanager hroom hready
    exact congrArg s.become
      (Dev.writeCompletion_of_manager hprepared hhead hwords hjournal hrun hgen hmanager hroom hready)
  case interrupt =>
    intro s q t hfrom henabled hdelay hpassed
    exact congrArg s.become (Dev.irqDelay_of_passed hfrom henabled hdelay hpassed)
  case heldStart =>
    intro s page i req hport hfree hheld
    exact (execHeldOperationStart_of_port hport).trans (congrArg s.become (Dev.portHeldStart_of_held hfree hheld))

end Sys2Proof.Machine

/-!
The action engine (R135-R138, R142, R147-R149): when a pass is carried out, with its template or without it, and what its next METER
word and an update on its way to a counter come to.
-/

namespace Sys2Proof.Machine

/-! ## The pass (R137, R138) -/

theorem Dev.applyActions_of_ready {d e : Dev} {h : Nat} (hready : d.actReady h = true) (hpass : d.applyPass h false = some e) :
    d.applyActions h = e := by
  simp only [Dev.applyActions, hready, if_true, hpass, Option.getD_some]

theorem Dev.applyPass_of_malformed {d : Dev} {h : Nat} (abandon : Bool)
    (hbad : d.actsGood (ruleActs (d.packet h).rule) = false) :
    d.applyPass h abandon = some ((((d.latchFault Page.actg FaultBit.actg_ACT_MALFORMED).pulse 219).modPacket h (fun p => { p with
      actedAt := d.now })).dropPacket h Drop.actMalformed) :=
  if_pos (by simp [hbad])

theorem wordsOf_singleton (acts : List Act) (op : Nat) : wordsOf acts [op] = acts.filter (fun a => a.op == op) := by
  simp only [wordsOf, List.contains_cons, List.contains_nil, Bool.or_false]

theorem Dev.applied_of_noWord {acts : List Act} {op : Nat} (d : Dev) (probes : List (Option ProbeResult))
    (hnone : wordsOf acts [op] = []) : d.applied probes acts op = [] := by
  rw [Dev.applied, ← wordsOf_singleton, hnone, List.filterMap_nil]

/-- Stages 1 and 2 of the pass at hand (R138): its counter updates are on their way, and its early words are marked. -/
def Dev.earlyStages (d : Dev) (h : Nat) : Dev :=
  let p := d.packet h
  let acts := ruleActs p.rule
  ({ d with counterQ := d.counterQ ++ (d.applied p.probes acts Op.count).map (fun e => (e.2, p.lenIn)) } : Dev).mark h
    (d.marks p (wordsOf acts [Op.nop, Op.probe, Op.meter, Op.count]))

/-- Stage 3 of a pass whose list has no MIRROR word (R138, R151, R152): the global sampler draws, no session does, and the DROP word
gets the marks `m`. -/
def Dev.dropStage (d : Dev) (h : Nat) (m : Nat × Nat) : Dev :=
  (((d.drawGlobal h).mark h (0, 0)).modPacket h (fun p => { p with mirrors := [] })).mark h m

/-- A good list with a DROP word and neither MIRROR nor REHEAT drops the packet as RULE, its later words skipped. -/
theorem Dev.applyPass_of_drop {d : Dev} {h : Nat} {acts : List Act} (abandon : Bool)
    (hacts : ruleActs (d.packet h).rule = acts) (hgood : d.actsGood acts = true) (hreheat : actCount acts Op.reheat = 0)
    (hdrop : actCount acts Op.drop ≠ 0) (hmirror : wordsOf acts [Op.mirror] = []) :
    d.applyPass h abandon = some (((d.earlyStages h).dropStage h (d.marks (d.packet h) (wordsOf acts [Op.drop]))).dropAt h Drop.rule
      (wordsOf acts [Op.learn, Op.decap, Op.tagPop, Op.set, Op.ttlDec, Op.segment, Op.tagPush, Op.encap, Op.cipher, Op.fwd,
        Op.reheat])) := by
  subst hacts
  simp only [Dev.applyPass, hgood, hreheat, hdrop, hmirror, Dev.applied_of_noWord _ _ hmirror, Bool.not_true, Bool.false_eq_true,
    ne_eq, not_true_eq_false, not_false_eq_true, and_false, if_false, if_true, List.filter_nil, List.map_nil, Dev.drawMirrors,
    Dev.mirrorCopies]
  rfl

/-- An abandoned template read of an ENCAP word, where no mirror copy asks for one, carries the pass out with its template
absent. -/
theorem Dev.abandonTemplate_of_encap {d e : Dev} {h : Nat} (hready : d.actReady h = true)
    (hword : d.applied (d.packet h).probes (ruleActs (d.packet h).rule) Op.encap ≠ [])
    (hcopy : (d.applied (d.packet h).probes (ruleActs (d.packet h).rule) Op.mirror).any (fun e =>
      ssEn (d.session (bits e.2 0 8)) && ssCopy (d.session (bits e.2 0 8)) && ssEncap (d.session (bits e.2 0 8))) = false)
    (hpass : d.applyPass h true = some e) : d.abandonTemplate h = e := by
  have hasked : (d.applied (d.packet h).probes (ruleActs (d.packet h).rule) Op.encap).isEmpty = false :=
    List.isEmpty_eq_false_iff.2 hword
  simp only [Dev.abandonTemplate, hready, hasked, hcopy, Bool.not_false, Bool.false_eq_true, and_false, true_or, and_self, if_false,
    if_true, Nat.zero_mod]
  exact congrArg (Option.getD · d) hpass

/-! ## Meters (R147, R148) -/

theorem Dev.meterStep_of_present {d : Dev} {h x : Nat} {a : Act} {ws : List Nat} (hstarted : d.actStarted (d.packet h) = true)
    (hgood : d.actsGood (ruleActs (d.packet h).rule) = true)
    (hword : (d.passMeters (d.packet h))[(d.packet h).colours.length]? = some (a, x))
    (hwords : (d.gwords (d.meterAddr (bits x 0 20)) 16).map (·.toNat) = ws)
    (hline : d.lineUncorrectable (d.meterAddr (bits x 0 20)) = false) (hvalid : bitAt (nth ws 15) 31 = true)
    (hparity : meterParityGood ws = true) :
    d.meterStep h =
      let r := meterUpdate ws d.ptp32 (d.packet h).lenIn (d.passColour (d.packet h)) (bitAt x 20)
      (d.gsetWords (d.meterAddr (bits x 0 20)) r.2).modPacket h (fun p => { p with
        colours := p.colours ++ [r.1], redDrop := p.redDrop || (r.1 == red && bitAt (nth ws 15) 1) }) := by
  simp only [Dev.meterStep, hstarted, hgood, hword, hwords, hline, hvalid, hparity, Bool.not_true, Bool.and_false, Bool.or_false,
    Bool.false_eq_true, or_self, if_false]

/-- A meter whose VALID is 0 answers the colour it was given. -/
theorem Dev.meterStep_of_absent {d : Dev} {h x : Nat} {a : Act} (hstarted : d.actStarted (d.packet h) = true)
    (hgood : d.actsGood (ruleActs (d.packet h).rule) = true)
    (hword : (d.passMeters (d.packet h))[(d.packet h).colours.length]? = some (a, x))
    (hline : d.lineUncorrectable (d.meterAddr (bits x 0 20)) = false)
    (hinvalid : bitAt (nth ((d.gwords (d.meterAddr (bits x 0 20)) 16).map (·.toNat)) 15) 31 = false) :
    d.meterStep h = d.modPacket h (fun p => { p with colours := p.colours ++ [d.passColour (d.packet h)] }) := by
  simp only [Dev.meterStep, hstarted, hgood, hword, hline, hinvalid, Bool.not_true, Bool.not_false, Bool.false_and, Bool.or_self,
    Bool.false_eq_true, or_self, or_true, if_false, if_true]

/-! ## Counters (R149) -/

theorem Dev.counterStep_of_due {d : Dev} {lane : Nat} {e : Nat × Nat}
    (hdue : d.counterQ.find? (fun e => e.1 % 16 == lane) = some e) :
    d.counterStep lane = ({ d with counterQ := d.counterQ.erase e } : Dev).counterAdd e.1 e.2 := by
  simp only [Dev.counterStep, hdue]

theorem Dev.counterAdd_of_correctable {d : Dev} {c : Nat} (n : Nat) (hline : d.lineUncorrectable (d.counterAddr c) = false) :
    d.counterAdd c n = (d.gsetNum (d.counterAddr c) 8 (d.gnum (d.counterAddr c) 8 + 1)).gsetNum (d.counterAddr c + 8) 8
      (d.gnum (d.counterAddr c + 8) 8 + n) :=
  if_neg (by simp [hline])

/-- Settles O34: a pass by what its list holds, a METER word by whether its meter is present. -/
theorem actionCommands : Obligations.ActionCommands := by
  unfold Obligations.ActionCommands
  refine ⟨?malformed, ?applied, ?dropped, ?abandoned, ?meterPresent, ?meterAbsent, ?counter⟩
  case malformed =>
    intro s h hready hbad
    exact congrArg s.become (Dev.applyActions_of_ready hready (Dev.applyPass_of_malformed false hbad))
  case applied =>
    intro s h d hready _ hpass
    exact congrArg s.become (Dev.applyActions_of_ready hready hpass)
  case dropped =>
    rintro s h _ acts _ _ hready rfl hacts hgood hreheat hdrop hmirror rfl rfl
    subst hacts
    exact congrArg s.become
      (Dev.applyActions_of_ready hready (Dev.applyPass_of_drop false rfl hgood hreheat hdrop hmirror))
  case abandoned =>
    intro s h d hready hword hcopy hpass
    exact congrArg s.become (Dev.abandonTemplate_of_encap hready hword hcopy hpass)
  case meterPresent =>
    intro s h x a ws hstarted hgood hword hwords hline hvalid hparity
    exact congrArg s.become (Dev.meterStep_of_present hstarted hgood hword hwords hline hvalid hparity)
  case meterAbsent =>
    intro s h x a hstarted hgood hword hline hinvalid
    exact congrArg s.become (Dev.meterStep_of_absent hstarted hgood hword hline hinvalid)
  case counter =>
    intro s lane c n hdue hline
    exact congrArg s.become ((Dev.counterStep_of_due hdue).trans (Dev.counterAdd_of_correctable n hline))

end Sys2Proof.Machine

/-!
The ACTG port and the trace ring (R147, R149, R150, R153): meter operations by whether their image or index is in range, and the
state in which the ring takes a record.
-/

namespace Sys2Proof.Machine

/-! ## Meter operations (R147, R150) -/

theorem Dev.meterWrite_of_good {o : PortOp} (d : Dev) (hgood : meterImageGood o = true) :
    d.meterWrite o = (Code.ok, d.gsetWords (d.meterAddr (opIndex o)) ((List.range 4).map (wordAt o.buf) ++
      [16 * wordAt o.buf 2, 16 * wordAt o.buf 3, d.ptp32 % 1000000000, d.ptp32 / 1000000000] ++ List.replicate 7 0 ++
      [meterWord15 ((List.range 4).map (wordAt o.buf)) (wordAt o.buf 15)])) :=
  if_neg (by simp [hgood])

theorem Dev.meterWrite_of_malformed {o : PortOp} (d : Dev) (hbad : meterImageGood o = false) :
    d.meterWrite o = (Code.malformed, d) :=
  if_pos (by simp [hbad])

theorem Dev.meterDisable_of_inRange {o : PortOp} (d : Dev) (hindex : opIndex o < 2 ^ 20) :
    d.meterDisable o =
      let ws := (d.gwords (d.meterAddr (opIndex o)) 16).map (·.toNat)
      (Code.ok, d.gsetWord (d.meterAddr (opIndex o) + 60) (meterWord15 ws (setBits (nth ws 15) 31 1 0))) :=
  if_neg hindex.not_ge

theorem Dev.meterDisable_of_outOfRange {o : PortOp} (d : Dev) (hindex : 2 ^ 20 ≤ opIndex o) :
    d.meterDisable o = (Code.malformed, d) :=
  if_pos hindex

/-! ## Trace ring (R153) -/

theorem Dev.traceRecord_of_room {d : Dev} {words : List Nat} {rest : List (List Nat)} (hhead : d.traceQ = words :: rest)
    (henabled : d.fbit Page.actg Reg.ACTG_TRACE_CTL_ENABLE = true)
    (hroom : (d.fget Page.actg Reg.ACTG_TRACE_PROD_PROD + 2 ^ 32 - d.fget Page.actg Reg.ACTG_TRACE_CONS_CONS) % 2 ^ 32 ≠
      d.traceSize)
    (hready : d.hostReady 0 = true) :
    d.traceRecord =
      let prod := d.fget Page.actg Reg.ACTG_TRACE_PROD_PROD
      ((({ d with traceQ := rest } : Dev).hwrite 0 (d.wget Page.actg 0x10 + prod % d.traceSize * 192)
        (((nth words 0 + (if prod / d.traceSize % 2 = 0 then 2 ^ 31 else 0)) :: words.drop 1).flatMap (toLe 4)) {}).fset Page.actg
          Reg.ACTG_TRACE_PROD_PROD (prod + 1)).pulse 212 := by
  simp only [Dev.traceRecord, hhead]
  exact if_neg (by simp only [henabled, hready, hroom, Bool.not_true, Bool.false_eq_true, or_self, not_false_eq_true])

/-- Settles O35: an operation by its opcode and whether what it names is in range; a record by the room in the ring. -/
theorem actionPortCommands : Obligations.ActionPortCommands := by
  unfold Obligations.ActionPortCommands
  refine ⟨?read, ?readClear, ?preset, ?meterWrite, ?meterRead, ?meterDisable, ?writeMalformed, ?readMalformed, ?disableMalformed,
    ?record, ?cons⟩
  case read =>
    intro s o hrun
    exact congrArg s.become (Dev.portExec_of_running hrun rfl)
  case readClear =>
    intro s o hrun
    exact congrArg s.become (Dev.portExec_of_running hrun rfl)
  case preset =>
    intro s o hrun
    exact congrArg s.become (Dev.portExec_of_running hrun rfl)
  case meterWrite =>
    intro s o hrun hgood
    exact congrArg s.become (Dev.portExec_of_running hrun (s.dev.meterWrite_of_good hgood))
  case meterRead =>
    intro s o hrun hindex
    exact congrArg s.become (Dev.portExec_of_running hrun (if_pos hindex))
  case meterDisable =>
    intro s o hrun hindex
    exact congrArg s.become (Dev.portExec_of_running hrun (s.dev.meterDisable_of_inRange hindex))
  case writeMalformed =>
    intro s o hrun hbad
    exact congrArg s.become (Dev.portExec_of_running hrun (s.dev.meterWrite_of_malformed hbad))
  case readMalformed =>
    intro s o hrun hindex
    exact congrArg s.become (Dev.portExec_of_running hrun (if_neg hindex.not_gt))
  case disableMalformed =>
    intro s o hrun hindex
    exact congrArg s.become (Dev.portExec_of_running hrun (s.dev.meterDisable_of_outOfRange hindex))
  case record =>
    intro s words rest hhead henabled hroom hready
    exact congrArg s.become (Dev.traceRecord_of_room hhead henabled hroom hready)
  case cons =>
    intro s req v hreach hawake
    exact congrArg s.become (Dev.onWrite_of_reached _ hreach hawake)

end Sys2Proof.Machine

/-!
Schedulers and frame admission (R155-R158, R161, R252, R254, R262): where a copy goes by the limit of its colour, what a port and
the host's scheduler serve, and what the first bytes of a frame ask for.
-/

namespace Sys2Proof.Machine

/-! ## Copies toward a port (R157, R158) -/

/-- The limit of the TC of a copy toward a port, for the copy's colour (R158). -/
def Dev.portLimit (d : Dev) (c : Copy) : Nat :=
  colourLimit (d.fget (Page.sch c.target) (schTc Reg.SCH_TC_GLIM_CELLS c.tc)) (d.fget (Page.sch c.target) Reg.SCH_COLOR_YFRAC)
    (d.fget (Page.sch c.target) Reg.SCH_COLOR_RFRAC) c.colour

/-- A copy whose destination is a port that exists goes to that port, once no earlier copy of its source waits for it. -/
theorem Dev.enqueueCopy_of_port {d : Dev} {n : Nat} {c : Copy} (hcopy : d.copy n = some c) (hnew : c.queued = false)
    (hturn : d.copyBehind n c = false) (hkind : c.kind = 0) (hport : c.target < 16) : d.enqueueCopy n = d.enqueuePort n c := by
  simp only [Dev.enqueueCopy, hcopy, hnew, hturn, hkind, hport, Bool.false_eq_true, or_self, if_false, if_true]

theorem Dev.enqueuePort_of_room {d : Dev} {c : Copy} (n : Nat) (hsize : c.withFcs ≤ 16128)
    (haccepts : d.accepts (Page.sch c.target) = true) (hroom : d.tcDepth c.target c.tc + c.cells ≤ d.portLimit c) :
    d.enqueuePort n c =
      let x := (d.schedOf c.target).tc c.tc
      (((d.setCopy n (some { c with queued := true })).setSched c.target ((d.schedOf c.target).setTc c.tc { x with
        fifo := x.fifo ++ [n] })).setTcDepth c.target c.tc (d.tcDepth c.target c.tc + c.cells)).countTc c.target c.tc 0 := by
  simp only [Dev.enqueuePort, hsize.not_gt, haccepts, Bool.not_true, Bool.false_eq_true, if_false]
  exact if_neg hroom.not_gt

theorem Dev.enqueuePort_of_full {d : Dev} {c : Copy} (n : Nat) (hsize : c.withFcs ≤ 16128)
    (haccepts : d.accepts (Page.sch c.target) = true) (hfull : d.portLimit c < d.tcDepth c.target c.tc + c.cells) :
    d.enqueuePort n c = d.dropAtPort n c.target c.tc Drop.qTail := by
  simp only [Dev.enqueuePort, hsize.not_gt, haccepts, Bool.not_true, Bool.false_eq_true, if_false]
  exact if_pos hfull

/-! ## Port scheduling (R156, R158) -/

/-- A port that is down, while its MAC may still send, discards the head copy of its highest TC. -/
theorem Dev.schedulePort_of_down {d0 d : Dev} {m t n : Nat} {rest : List Nat} (hrefilled : d0.refillPort m = d)
    (hdown : d.portDown m = true) (hmay : d.mayTransmit m = true) (htc : d.fullTc m = some t)
    (hhead : ((d.schedOf m).tc t).fifo = n :: rest) :
    d0.schedulePort m = (d.popTc m t).dropAtPort n m t Drop.destDown := by
  simp only [Dev.schedulePort, hrefilled, hdown, hmay, htc, hhead, if_true]

/-- The port after its selection of a TC: the head copy of TC `t` is taken off (R156). -/
def Dev.takeSelected (d : Dev) (m t : Nat) : Dev := (d.setSched m (d.selectTc m).2).popTc m t

/-- A port that is up, and whose MAC holds no copy, hands the MAC the head copy of the selected TC and is charged for it. -/
theorem Dev.schedulePort_of_selected {d0 d : Dev} {m t n : Nat} {rest : List Nat} {c : Copy} (hrefilled : d0.refillPort m = d)
    (hup : d.portDown m = false) (hfree : (d.macOf m).slot = none) (hselected : (d.selectTc m).1 = some t)
    (hhead : (((d.setSched m (d.selectTc m).2).schedOf m).tc t).fifo = n :: rest) (hcopy : (d.takeSelected m t).copy n = some c)
    (hgood : (d.takeSelected m t).handleGood c.packet c.gen = true) :
    d0.schedulePort m = ((d.takeSelected m t).chargePort m t c.wireLen).setMac m { (d.takeSelected m t).macOf m with
      slot := some n } := by
  rw [Dev.takeSelected] at hcopy hgood ⊢
  simp only [Dev.schedulePort, hrefilled, hup, hfree, hselected, hhead, hcopy, hgood, Option.isSome_none, Bool.not_true,
    Bool.false_eq_true, if_false]

/-! ## Host delivery (R157) -/

theorem Dev.deliverHost_of_gone {d0 d : Dev} {q n : Nat} {rest : List Nat} (hrefilled : d0.refillHost = d)
    (hgone : (d.host.queues.map (·.1)).find? d.queueGone = some q) (hhead : d.hostFifo q = n :: rest) :
    d0.deliverHost = (d.popHost q).dropCopy n Drop.destDown := by
  simp only [Dev.deliverHost, hrefilled, hgone, hhead]

/-- With no queue gone, the first ready queue of the manager is served as soon as its rate has no debt. -/
theorem Dev.deliverHost_of_manager {d0 d : Dev} {q : Nat} {rest : List Nat} (hrefilled : d0.refillHost = d)
    (hstaying : (d.host.queues.map (·.1)).find? d.queueGone = none) (haccepts : d.accepts Page.schh = true)
    (hready : ((d.host.queues.map (·.1)).filter d.queueReady).filter d.qManager = q :: rest) (hpaid : d.host.mgrUsed = 0) :
    d0.deliverHost =
      let used := if d.fget Page.schh Reg.SCHH_MGR_RATE_KBPS = 0 then 0 else d.hostHead q * 8000000
      ({ d with host := { d.host with mgrUsed := used } } : Dev).serveHost q := by
  simp only [Dev.deliverHost, hrefilled, hstaying, haccepts, hready, hpaid, Bool.not_true, Bool.false_eq_true, if_false]

/-! ## Frame admission (R161, R252, R254, R262) -/

/-- The receive state of MAC `m` at the first byte of a frame (R253, R262). -/
def Dev.startReceive (d : Dev) (m : Nat) : Dev :=
  d.setMac m { d.macOf m with
    rxBusy := true, rx := none, rxTime := d.stampTime (d.fget (Page.mac m) Reg.MAC_TS_RX_ADJ_ADJ), rxTag := d.pvidTag m }

theorem Dev.arriveFrame_of_data {d : Dev} {m : Nat} {head : List Byte} (hidle : (d.macOf m).rxBusy = false)
    (hdata : isControl head = false) (hreceives : d.receives m false = true) :
    d.arriveFrame m head =
      let r := (d.startReceive m).admitFrame m (d.priorityOf m (taggedFrame (d.pvidTag m) head))
        (d.stampTime (d.fget (Page.mac m) Reg.MAC_TS_RX_ADJ_ADJ))
      r.2.setMac m { r.2.macOf m with rx := r.1 } := by
  simp only [Dev.arriveFrame, hidle, hdata, hreceives, Bool.not_true, Bool.false_eq_true, or_self, if_false]
  rfl

/-! ## The commands of one MAC -/

theorem execPortSchedule_of_mac {s : State} {m : Nat} (hmac : m < 16) :
    execPortSchedule m s = s.become (s.dev.schedulePort m) :=
  congrArg s.become (if_pos hmac)

theorem execFrameArrival_of_mac {s : State} {m : Nat} (head : List Byte) (hmac : m < 16) :
    execFrameArrival m head s = s.become (s.dev.arriveFrame m head) :=
  congrArg s.become (if_pos hmac)

/-- Settles O36: a copy by the limit of its colour, a port by whether it is down, the host by what its queues are ready for. -/
theorem schedulerCommands : Obligations.SchedulerCommands := by
  unfold Obligations.SchedulerCommands
  refine ⟨?enqueued, ?tailDropped, ?portDown, ?portSelected, ?queueGone, ?managerQueue, ?frame⟩
  case enqueued =>
    intro s n c hcopy hnew hturn hkind hport hsize haccepts hroom
    exact congrArg s.become
      ((Dev.enqueueCopy_of_port hcopy hnew hturn hkind hport).trans (Dev.enqueuePort_of_room n hsize haccepts hroom))
  case tailDropped =>
    intro s n c hcopy hnew hturn hkind hport hsize haccepts hfull
    exact congrArg s.become
      ((Dev.enqueueCopy_of_port hcopy hnew hturn hkind hport).trans (Dev.enqueuePort_of_full n hsize haccepts hfull))
  case portDown =>
    intro s m t n rest d hmac hrefilled hdown hmay htc hhead
    exact (execPortSchedule_of_mac hmac).trans
      (congrArg s.become (Dev.schedulePort_of_down hrefilled hdown hmay htc hhead))
  case portSelected =>
    intro s m t n rest d c hmac hrefilled hup hfree hselected hhead hcopy hgood
    exact (execPortSchedule_of_mac hmac).trans
      (congrArg s.become (Dev.schedulePort_of_selected hrefilled hup hfree hselected hhead hcopy hgood))
  case queueGone =>
    intro s q n rest d hrefilled hgone hhead
    exact congrArg s.become (Dev.deliverHost_of_gone hrefilled hgone hhead)
  case managerQueue =>
    intro s q rest d hrefilled hstaying haccepts hready hpaid
    exact congrArg s.become (Dev.deliverHost_of_manager hrefilled hstaying haccepts hready hpaid)
  case frame =>
    rintro s m head _ hmac hidle hdata hreceives rfl
    exact (execFrameArrival_of_mac head hmac).trans (congrArg s.become (Dev.arriveFrame_of_data hidle hdata hreceives))

end Sys2Proof.Machine

/-!
Wrapped key records (R188, R191): the parts of a record, and what unwrapping reads back of them.
-/

namespace Sys2Proof.Machine

/-- A part of known place and length is cut out of the string that holds it. -/
theorem cut_of_append {a b c : List Byte} {o n : Nat} (ho : a.length = o) (hn : b.length = n) : cut (a ++ (b ++ c)) o n = b := by
  subst ho hn
  rw [← List.append_assoc]
  exact cut_append a b c

theorem wordBytes_length (ws : List Word) : (wordBytes ws).length = 4 * ws.length := by
  induction ws with
  | nil => rfl
  | cons w ws ih =>
    rw [wordBytes, List.flatMap_cons, List.length_append, toLe_length, List.length_cons, ← wordBytes, ih]
    omega

/-- What a record encrypts: the key material and the slot's descriptor. -/
def KeySlot.payload (v : KeySlot) : List Byte := cut v.key 0 64 ++ wordBytes v.desc

theorem KeySlot.payload_length (v : KeySlot) : v.payload.length = 16 * 5 := by
  rw [payload, List.length_append, cut_length, wordBytes_length]
  rfl

theorem KeySlot.take_payload (v : KeySlot) : v.payload.take 64 = cut v.key 0 64 :=
  List.take_left' (cut_length _ _ _)

/-- The GCM initialisation vector of the record of slot `s` whose wrap count is spelled `count`. -/
def recordIv (s : Nat) (count : List Byte) : List Byte := toLe 4 s ++ count

/-- The first eight bytes of a record's header: its slot and GEN. -/
def recordOwner (s gen : Nat) : List Byte := toLe 8 (s + gen * 2 ^ 20)

/-- A record is its owner, its wrap count, the ciphertext, the tag over both, and padding. -/
theorem wrapRecord_eq (kw : List Byte) (s : Nat) (v : KeySlot) (count : Nat) :
    wrapRecord kw s v count =
      let ct := Aes.gcmCrypt kw (recordIv s (toLe 8 count)) v.payload
      recordOwner s v.gen ++ (toLe 8 count ++ (ct ++
        (Aes.gcmTag kw (recordIv s (toLe 8 count)) (recordOwner s v.gen ++ toLe 8 count) ct ++ List.replicate 16 0))) := by
  simp only [wrapRecord, recordIv, recordOwner, KeySlot.payload, List.append_assoc]

/-- Unwrapping a record given by its parts. -/
theorem unwrapRecord_of_parts (kw : List Byte) (s gen : Nat) {owner count ct tag pad : List Byte} (howner : owner.length = 8)
    (hcount : count.length = 8) (hct : ct.length = 80) (htag : tag.length = 16) :
    unwrapRecord kw s gen (owner ++ (count ++ (ct ++ (tag ++ pad)))) =
      if ofLe owner = s + gen * 2 ^ 20 ∧ tag = Aes.gcmTag kw (recordIv s count) (owner ++ count) ct then
        some ((Aes.gcmCrypt kw (recordIv s count) ct).take 64)
      else none := by
  have cutOwner : cut (owner ++ (count ++ (ct ++ (tag ++ pad)))) 0 8 = owner := cut_of_append (a := []) rfl howner
  have cutCount : cut (owner ++ (count ++ (ct ++ (tag ++ pad)))) 8 8 = count := cut_of_append howner hcount
  have cutHeader : cut (owner ++ (count ++ (ct ++ (tag ++ pad)))) 0 16 = owner ++ count := by
    rw [← List.append_assoc owner]
    exact cut_of_append (a := []) rfl (by rw [List.length_append, howner, hcount])
  have cutCt : cut (owner ++ (count ++ (ct ++ (tag ++ pad)))) 16 80 = ct := by
    rw [← List.append_assoc owner]
    exact cut_of_append (by rw [List.length_append, howner, hcount]) hct
  have cutTag : cut (owner ++ (count ++ (ct ++ (tag ++ pad)))) 96 16 = tag := by
    rw [← List.append_assoc count, ← List.append_assoc owner]
    exact cut_of_append (by simp only [List.length_append, howner, hcount, hct]) htag
  rw [unwrapRecord, cutOwner, cutCount, cutHeader, cutCt, cutTag]
  rfl

theorem recordOwner_length (s gen : Nat) : (recordOwner s gen).length = 8 := toLe_length _ _

theorem ofLe_recordOwner {s gen : Nat} (hs : s < 2 ^ 20) (hgen : gen < 2 ^ 16) : ofLe (recordOwner s gen) = s + gen * 2 ^ 20 := by
  rw [recordOwner, ofLe_toLe]
  exact Nat.mod_eq_of_lt (by omega)

section
variable {kw : List Byte} (hkw : kw.length = 32)
include hkw

theorem payload_crypt_length (iv : List Byte) (v : KeySlot) : (Aes.gcmCrypt kw iv v.payload).length = 80 :=
  (Aes.gcmCrypt_twice kw iv v.payload 5 hkw v.payload_length).1

theorem wrapRecord_length (s : Nat) (v : KeySlot) (count : Nat) : (wrapRecord kw s v count).length = 128 := by
  simp only [wrapRecord_eq, List.length_append, List.length_replicate, recordOwner_length, toLe_length,
    payload_crypt_length hkw, Aes.gcmTag_length kw _ _ _ hkw]

/-- A record has the key material for its own slot and GEN, behind the check of its tag for any other. -/
theorem unwrapRecord_wrapRecord {s : Nat} {v : KeySlot} (s' gen' count : Nat) (hs : s < 2 ^ 20) (hgen : v.gen < 2 ^ 16) :
    unwrapRecord kw s' gen' (wrapRecord kw s v count) =
      let ct := Aes.gcmCrypt kw (recordIv s (toLe 8 count)) v.payload
      let header := recordOwner s v.gen ++ toLe 8 count
      if s + v.gen * 2 ^ 20 = s' + gen' * 2 ^ 20 ∧ Aes.gcmTag kw (recordIv s (toLe 8 count)) header ct =
          Aes.gcmTag kw (recordIv s' (toLe 8 count)) header ct then
        some ((Aes.gcmCrypt kw (recordIv s' (toLe 8 count)) ct).take 64)
      else none := by
  rw [wrapRecord_eq, unwrapRecord_of_parts kw s' gen' (recordOwner_length s v.gen) (toLe_length 8 count)
    (payload_crypt_length hkw _ v) (Aes.gcmTag_length kw _ _ _ hkw), ofLe_recordOwner hs hgen]

theorem unwrapRecord_own {s : Nat} {v : KeySlot} (count : Nat) (hs : s < 2 ^ 20) (hgen : v.gen < 2 ^ 16) :
    unwrapRecord kw s v.gen (wrapRecord kw s v count) = some (cut v.key 0 64) := by
  rw [unwrapRecord_wrapRecord hkw s v.gen count hs hgen]
  dsimp only
  rw [if_pos ⟨rfl, rfl⟩, (Aes.gcmCrypt_twice kw _ v.payload 5 hkw v.payload_length).2, v.take_payload]

/-- The header of a record holds its slot and GEN apart, so it matches no other. -/
theorem unwrapRecord_other {s s' gen' : Nat} {v : KeySlot} (count : Nat) (hs : s < 2 ^ 20) (hgen : v.gen < 2 ^ 16)
    (hs' : s' < 2 ^ 20) (hother : s' ≠ s ∨ gen' ≠ v.gen) : unwrapRecord kw s' gen' (wrapRecord kw s v count) = none := by
  have hheader : s + v.gen * 2 ^ 20 ≠ s' + gen' * 2 ^ 20 := by omega
  rw [unwrapRecord_wrapRecord hkw s' gen' count hs hgen]
  exact if_neg fun h => hheader h.1

end

/-- Settles O18: GCM under the record's own vector is undone by itself, and the header tells slots and generations apart. -/
theorem wrappedRecordUnwraps : Obligations.WrappedRecordUnwraps := by
  unfold Obligations.WrappedRecordUnwraps
  intro kw s s' gen' count v hkw hs hgen _ hs' _
  exact ⟨wrapRecord_length hkw s v count, unwrapRecord_own hkw count hs hgen, unwrapRecord_other hkw count hs hgen hs'⟩

end Sys2Proof.Machine

/-!
Cipher jobs (R172, R173, R179-R183, R193-R195): their check, the blocks they put on cells, and their end.
-/

namespace Sys2Proof.Machine

/-! ## Submission (R179, R181, R193) -/

theorem Dev.lehrSubmit_of_accepted {d d1 : Dev} {j : LehrJob} {rest : List LehrJob} (holdest : d.lehr.submits = j :: rest)
    (hroom : d.jobDepth < 16384) (haccepts : d.accepts Page.lehg = true)
    (htaken : d.setLehr { d.lehr with submits := rest } = d1) (hcode : d1.jobCode j = Code.ok) :
    d.lehrSubmit = d1.acceptJob j := by
  simp only [Dev.lehrSubmit, Dev.checkSubmitted, holdest, hroom.not_ge, haccepts, htaken, hcode, Bool.not_true,
    Bool.false_eq_true, or_self, if_false, if_true]

/-- A malformed job is refused before its slot is looked at, so no stale GEN is counted. -/
theorem Dev.lehrSubmit_of_malformed {d d1 : Dev} {j : LehrJob} {rest : List LehrJob} (holdest : d.lehr.submits = j :: rest)
    (hroom : d.jobDepth < 16384) (haccepts : d.accepts Page.lehg = true)
    (htaken : d.setLehr { d.lehr with submits := rest } = d1) (hcode : d1.jobCode j = Code.malformed) :
    d.lehrSubmit = (d1.countJob Code.malformed).deliverJob j Code.malformed [] := by
  have hrefused : Code.malformed ≠ Code.ok := by decide
  have hfresh : (Code.malformed == Code.access) = false := by decide
  simp only [Dev.lehrSubmit, Dev.checkSubmitted, holdest, hroom.not_ge, haccepts, htaken, hcode, hrefused, hfresh, Bool.not_true,
    Bool.false_and, Bool.false_eq_true, or_self, if_false]

/-! ## Issuing a block (R173, R183) -/

theorem Dev.issueBlock_of_keyed {d d1 : Dev} {n i unit : Nat} {j : LehrJob} {g : JobSeg} (hjob : d.job n = some j)
    (hopen : j.verdict = none) (hjournal : d.journalReached j.journal = true) (haccepts : d.accepts Page.lehg = true)
    (hplaced : j.segs ≠ []) (hseg : j.segs[i]? = some g) (hset : d.setJob n (some j) = d1)
    (hunit : d1.unitOf puntyLeh g.cluster = unit) (hready : d1.segReady n i j g = true)
    (hcluster : d1.lehReady g.cluster = true) (hrandom : d1.unitStalled unit = false) (hseeded : d1.reseedDue unit = false)
    (hkey : (d1.fetchKey unit n j).1 = true) :
    d.issueBlock n i = (d1.fetchKey unit n j).2.startBlock unit n i j g := by
  have hundecided : j.verdict.isSome = false := Option.isSome_eq_false_iff.2 (Option.isNone_iff_eq_none.2 hopen)
  simp only [Dev.issueBlock, hjob, hundecided, hjournal, haccepts, hplaced, hseg, hset, hunit, hready, hcluster, hrandom, hseeded,
    hkey, Bool.not_true, Bool.false_eq_true, or_self, if_false, if_true]

/-! ## Finishing a block (R172, R194, R195) -/

/-- Counting writes a register and freeing a cell the farm: neither meets the other. -/
theorem Dev.count_setCell (d : Dev) (k : Nat) (w : Option CellWork) (p : Nat) (f : Fld) :
    (d.setCell k w).count p f = (d.count p f).setCell k w := rfl

theorem Dev.completeBlock_of_single {d : Dev} {unit c : Nat} {w : CellWork} (agree : Bool)
    (hcell : d.cell (cellKey unit c) = some w) (hfirst : w.second = false) (hsingle : w.partner = none) :
    d.completeBlock unit c agree =
      let d1 := (d.setCell (cellKey unit c) none).blockDone unit w.job w.seg
      match d.job w.job with
      | none => d1
      | some j => d1.setTrace (cellKey unit c) (d1.cellTrace (cellKey unit c) ++ [j.ref w.job]) := by
  cases hjob : d.job w.job with
  | none => simp only [Dev.completeBlock, hcell, hfirst, hsingle, hjob]
  | some j => simp only [Dev.completeBlock, hcell, hfirst, hsingle, hjob]

/-- A pair of cells that has computed one block: both are free and the check is counted. -/
def Dev.checkedPair (d : Dev) (unit c k2 : Nat) : Dev :=
  ((d.setCell (cellKey unit c) none).setCell k2 none).count (d.lehPage unit) Reg.LEH_CHECK_CNT_CNT

theorem Dev.completeBlock_of_agreed {d : Dev} {unit c k2 : Nat} {w : CellWork} (hcell : d.cell (cellKey unit c) = some w)
    (hfirst : w.second = false) (hpair : w.partner = some k2) :
    d.completeBlock unit c true =
      (((d.checkedPair unit c k2).setTrace (cellKey unit c) []).setTrace k2 []).blockDone unit w.job w.seg := by
  simp only [Dev.completeBlock, hcell, hfirst, hpair, if_true, Dev.checkedPair, Dev.count_setCell]

theorem Dev.completeBlock_of_differing {d : Dev} {unit c k2 : Nat} {w : CellWork} (hcell : d.cell (cellKey unit c) = some w)
    (hfirst : w.second = false) (hpair : w.partner = some k2) (hnew : w.repeated = false) :
    d.completeBlock unit c false =
      let d1 := d.checkedPair unit c k2
      ((d1.mismatch unit).setLehr { d1.lehr with tests := d1.lehr.tests ++ [([cellKey unit c, k2], true)] }).modSeg w.job w.seg
        (fun g => { g with again := g.again + 1, avoid := g.avoid ++ [(cellKey unit c, k2)] }) := by
  simp only [Dev.completeBlock, hcell, hfirst, hpair, hnew, Bool.false_eq_true, if_false, Dev.checkedPair, Dev.count_setCell]

/-! ## The end of a job (R179, R181) -/

theorem Dev.lehrEnd_of_ended {d d1 : Dev} {n code : Nat} {failed : Option Nat} {out : List Byte} {j : LehrJob}
    (hended : d.takeEnded n failed = (some (j, code, out), d1)) : d.lehrEnd n failed = d1.deliverJob j code out := by
  simp only [Dev.lehrEnd, hended]

theorem Dev.lehrEnd_of_incomplete {d : Dev} {n : Nat} {j : LehrJob} (failed : Option Nat) (hjob : d.job n = some j)
    (hopen : j.complete = false) : d.lehrEnd n failed = d := by
  have hstays : d.takeEnded n failed = (none, d) := by
    simp only [Dev.takeEnded, hjob, hopen, Bool.not_false, true_or, if_true]
  simp only [Dev.lehrEnd, hstays]

/-- Settles O38: each command by the lemma for its case, a pair's check counted before its cells are freed or after. -/
theorem lehrJobCommands : Obligations.LehrJobCommands := by
  unfold Obligations.LehrJobCommands
  refine ⟨?accepted, ?malformed, ?issued, ?single, ?pair, ?ended, ?incomplete⟩
  case accepted =>
    intro s j rest d holdest hroom haccepts htaken hcode
    exact congrArg s.become (Dev.lehrSubmit_of_accepted holdest hroom haccepts htaken hcode)
  case malformed =>
    intro s j rest d holdest hroom haccepts htaken hcode
    exact congrArg s.become (Dev.lehrSubmit_of_malformed holdest hroom haccepts htaken hcode)
  case issued =>
    intro s n i unit j g d hjob hopen hjournal haccepts hplaced hseg hset hunit hready hcluster hrandom hseeded hkey
    exact congrArg s.become (Dev.issueBlock_of_keyed hjob hopen hjournal haccepts hplaced hseg hset hunit hready hcluster hrandom
      hseeded hkey)
  case single =>
    rintro s unit c w agree _ hcell hfirst hsingle rfl
    exact congrArg s.become (Dev.completeBlock_of_single agree hcell hfirst hsingle)
  case pair =>
    rintro s unit c k2 w _ hcell hfirst hpair hnew rfl
    exact ⟨congrArg s.become (Dev.completeBlock_of_agreed hcell hfirst hpair),
      congrArg s.become (Dev.completeBlock_of_differing hcell hfirst hpair hnew)⟩
  case ended =>
    intro s n code out j d hended
    exact congrArg s.become (Dev.lehrEnd_of_ended hended)
  case incomplete =>
    intro s n j hjob hopen
    exact congrArg s.become (Dev.lehrEnd_of_incomplete none hjob hopen)

end Sys2Proof.Machine

/-!
Upkeep of the farm and the key store (R173, R188-R191, R194, R196, R197): tests of cells, reseeds, unwraps, and the operations
on slots.
-/

namespace Sys2Proof.Machine

/-! ## Known-answer tests (R194, R196, R197) -/

section
variable {d : Dev} {unit c : Nat} (hunit : unit ≤ 64) (hidle : d.cell (cellKey unit c) = none)
  (hkept : d.lehr.fenced.contains (cellKey unit c) = false)
include hunit hidle hkept

theorem Dev.testCell_of_passed (hc : c ≤ 128) :
    d.testCell unit c true =
      ((d.count (d.lehPage unit) Reg.LEH_KAT_CNT_CNT).pairTested (cellKey unit c) true).cleanTrace (cellKey unit c) := by
  simp only [Dev.testCell, hunit.not_gt, hc.not_gt, hidle, hkept, Option.isSome_none, Bool.false_eq_true, or_self, if_false, if_true]

theorem Dev.testCell_of_failed (hc : c < 128) :
    d.testCell unit c false =
      ((((d.count (d.lehPage unit) Reg.LEH_KAT_CNT_CNT).pairTested (cellKey unit c) false).latchFault (d.lehPage unit)
        FaultBit.leh_KAT_FAIL).pulse 247).fenceCell (cellKey unit c) := by
  simp only [Dev.testCell, hunit.not_gt, hc.le.not_gt, hc.ne, hidle, hkept, Option.isSome_none, Bool.false_eq_true, or_self,
    if_false]

end

/-! ## Reseeds (R173) -/

theorem Dev.reseed_of_seeded (d : Dev) {unit gen : Nat} (hunit : unit ≤ 64) (hgen : gen < 2) :
    d.reseed unit gen true = d.setLehr { d.lehr with
      stalled := d.lehr.stalled.filter (· != unit * 2 + gen)
      requests := Sparse.set (blank 0) d.lehr.requests (unit * 2 + gen) 0 } := by
  simp only [Dev.reseed, hunit.not_gt, (Nat.le_of_lt_succ hgen).not_gt, or_self, if_false, if_true]

theorem Dev.reseed_of_failed {d : Dev} {unit gen : Nat} (hunit : unit ≤ 64) (hgen : gen < 2)
    (hrunning : d.unitStalled unit = false) (hnew : d.lehr.stalled.contains (unit * 2 + gen) = false) :
    d.reseed unit gen false =
      ((d.setLehr { d.lehr with stalled := d.lehr.stalled ++ [unit * 2 + gen] }).latchFault Page.lehg
        FaultBit.lehg_DRBG_STALL).pulse 248 := by
  simp only [Dev.reseed, hunit.not_gt, (Nat.le_of_lt_succ hgen).not_gt, hrunning, hnew, Bool.false_eq_true, or_self, if_false]

/-! ## Unwraps (R191) -/

/-- A slot of 128-bit keys stands for itself alone. -/
theorem Dev.slotPaired_of_narrow {d : Dev} {k : Nat} (hnarrow : (d.keySlot k).wide = false) : d.slotPaired k = false := by
  simp only [Dev.slotPaired, hnarrow, Bool.false_and]

/-- The end with FAULT of a job whose record did not check, once its slot has been dealt with. -/
def Dev.endUnwrapFault (d : Dev) (n : Nat) (j : LehrJob) : Dev :=
  ((((d.countSat Page.key Reg.KEY_UNWRAP_FAIL_CNT).latchFault Page.key FaultBit.key_UNWRAP_FAIL).pulse 308).releaseCells n).setJob n
    (some { j with verdict := some Code.fault })

theorem Dev.unwrapFailed_of_narrow {d : Dev} (n : Nat) {j : LehrJob} (hnarrow : (d.keySlot j.slot).wide = false)
    (hgen : (d.keySlot j.slot).gen = j.gen) (hheld : (d.keySlot j.slot).state ≠ 0) :
    d.unwrapFailed n j = (d.zeroiseSlot j.slot).endUnwrapFault n j := by
  simp only [Dev.unwrapFailed, hgen, hheld, Dev.slotPaired_of_narrow hnarrow, Dev.endUnwrapFault, ne_eq, not_false_eq_true,
    and_self, Bool.false_eq_true, if_false, if_true]

/-- A slot that has moved on to another GEN is no longer the job's, and stays. -/
theorem Dev.unwrapFailed_of_stale {d : Dev} (n : Nat) {j : LehrJob} (hstale : (d.keySlot j.slot).gen ≠ j.gen) :
    d.unwrapFailed n j = d.endUnwrapFault n j := by
  simp only [Dev.unwrapFailed, hstale, Dev.endUnwrapFault, false_and, if_false]

section
variable {d d1 : Dev} {l unit n : Nat} {j : LehrJob} {rest : List (Nat × Nat × Nat)}
  (hlane : d.lehr.lanes = (l, unit, n) :: rest) (hnext : (d.setLehr { d.lehr with lanes := rest }).nextLane l = d1)
  (hjob : d1.job n = some j)
include hlane hnext hjob

theorem Dev.completeUnwrap_of_narrow (hnarrow : (d1.keySlot j.slot).wide = false) (hgen : (d1.keySlot j.slot).gen = j.gen)
    (hheld : (d1.keySlot j.slot).state ≠ 0) :
    d.completeUnwrap = match d1.unwrap j.slot with
      | some key =>
        let k := keyWithPair key (d1.keySlot j.slot) (d1.keySlot (j.slot + 1)) j.slot []
        (d1.setJob n (some { j with key := some k })).cachePut unit ⟨j.slot, j.gen, k⟩
      | none => (d1.zeroiseSlot j.slot).endUnwrapFault n j := by
  have hread : (if (d1.keySlot j.slot).gen = j.gen ∧ (d1.keySlot j.slot).state ≠ 0 then d1.unwrap j.slot else none) =
      d1.unwrap j.slot := if_pos ⟨hgen, hheld⟩
  simp only [Dev.completeUnwrap, hlane, hnext, hjob, hread, Dev.slotPaired_of_narrow hnarrow, Bool.false_eq_true, if_false]
  cases d1.unwrap j.slot with
  | some key => rfl
  | none => exact Dev.unwrapFailed_of_narrow n hnarrow hgen hheld

theorem Dev.completeUnwrap_of_stale (hstale : (d1.keySlot j.slot).gen ≠ j.gen) : d.completeUnwrap = d1.endUnwrapFault n j := by
  simp only [Dev.completeUnwrap, hlane, hnext, hjob, hstale, false_and, if_false]
  exact Dev.unwrapFailed_of_stale n hstale

end

/-! ## Slots (R189, R190) -/

theorem Dev.zeroiseRetired_of_drained {d : Dev} {k : Nat} (hretiring : (d.keySlot k).state = 2)
    (hdrained : (d.keySlot k).inflight = 0) (hsingle : (d.keySlot k).pair = false) : d.zeroiseRetired k = d.zeroiseSlot k := by
  simp only [Dev.zeroiseRetired, hretiring, hdrained, hsingle, Bool.false_eq_true, false_and, not_false_eq_true, and_self, if_true]

/-- An odd slot retires alone: a pair is named by its even slot. -/
theorem Dev.keyRetire_of_odd {d : Dev} {k : Nat} (hready : (d.keySlot k).state = 1) (hodd : k % 2 = 1) :
    d.keyRetire k = d.setKeySlot k { d.keySlot k with state := 2 } := by
  have heven : ¬ k % 2 = 0 := by omega
  simp only [Dev.keyRetire, hready, heven, ne_eq, not_true_eq_false, false_and, if_false]

/-- What INSTALL by Welbor makes of the key store: its code and the device. -/
def Dev.installed (d : Dev) (o : PortOp) : Nat × Dev :=
  d.keyInstall (bits o.word 0 20) (bitAt o.word 20) (keyOpBad o.word true) (o.buf.take 4) (wordBytes ((o.buf.drop 4).take 16))
    (wordBytes (o.buf.drop 20))

section
variable {s : State} {o : PortOp}

theorem execInstall_of_welbor (hrun : s.dev.portRunning portKey 1 = some o) (hwelbor : o.req = .welbor) :
    execInstall s = s.become ((s.dev.installed o).2.clearKbuf.portEnd portKey (s.dev.installed o).1) :=
  congrArg s.become (Dev.portExec_of_running hrun (by simp only [hwelbor, ne_eq, not_true_eq_false, if_false, Dev.installed]))

theorem execInstall_of_other (hrun : s.dev.portRunning portKey 1 = some o) (hother : o.req ≠ .welbor) :
    execInstall s = s.become (s.dev.clearKbuf.portEnd portKey Code.access) :=
  congrArg s.become (Dev.portExec_of_running hrun (by simp only [hother, ne_eq, not_false_eq_true, if_true]))

theorem execRetire_of_odd (hrun : s.dev.portRunning portKey 2 = some o)
    (hmay : mayRetire o.req (s.dev.keySlot (bits o.word 0 20)) = true) (hgood : keyOpBad o.word false = false)
    (hready : (s.dev.keySlot (bits o.word 0 20)).state = 1) (hodd : bits o.word 0 20 % 2 = 1) :
    execRetire s = s.become ((s.dev.setKeySlot (bits o.word 0 20) { s.dev.keySlot (bits o.word 0 20) with state := 2 }).portEnd
      portKey Code.ok) :=
  congrArg s.become (Dev.portExec_of_running hrun (by
    simp only [hmay, hgood, Dev.keyRetire_of_odd hready hodd, Bool.not_true, Bool.false_eq_true, if_false]))

theorem execRetire_of_refused (hrun : s.dev.portRunning portKey 2 = some o)
    (hmay : mayRetire o.req (s.dev.keySlot (bits o.word 0 20)) = false) :
    execRetire s = s.become ((s.dev.slotRefused (s.dev.keySlot (bits o.word 0 20))).2.portEnd portKey Code.access) :=
  congrArg s.become (Dev.portExec_of_running hrun (by simp only [hmay, Bool.not_false, if_true, Dev.slotRefused]))

/-- The descriptor of a slot in KEY_DESC0-3 (R189). -/
def Dev.showDesc (d : Dev) (v : KeySlot) : Dev :=
  (List.range 4).foldl (fun (d : Dev) i => d.wr (Page.key + Reg.KEY_DESC_DATA.off + 4 * i) (v.desc.getD i 0#32)) d

theorem execQuery_of_allowed (hrun : s.dev.portRunning portKey 3 = some o)
    (hmay : mayQuery o.req (s.dev.keySlot (bits o.word 0 20)) = true) (hgood : keyOpBad o.word false = false) :
    execQuery s = s.become ((s.dev.showDesc (s.dev.keySlot (bits o.word 0 20))).portEnd portKey Code.ok) :=
  congrArg s.become (Dev.portExec_of_running hrun (by
    simp only [hmay, hgood, Bool.not_true, Bool.false_eq_true, if_false, Dev.showDesc]))

end

/-- Settles O39: a test and a reseed by their outcome, an unwrap by the GEN of its slot, an operation by who asks for it. -/
theorem lehrUpkeepAndKeyCommands : Obligations.LehrUpkeepAndKeyCommands := by
  unfold Obligations.LehrUpkeepAndKeyCommands
  refine ⟨?passed, ?failed, ?seeded, ?stalled, ?unwrapped, ?stale, ?zeroised, ?installed, ?installRefused, ?retired, ?retireRefused,
    ?queried⟩
  case passed =>
    intro s unit c hunit hc hidle hkept
    exact congrArg s.become (Dev.testCell_of_passed hunit hidle hkept hc)
  case failed =>
    rintro s unit c _ hunit hc hidle hkept rfl
    exact congrArg s.become (Dev.testCell_of_failed hunit hidle hkept hc)
  case seeded =>
    intro s unit gen hunit hgen
    exact congrArg s.become (s.dev.reseed_of_seeded hunit hgen)
  case stalled =>
    intro s unit gen hunit hgen hrunning hnew
    exact congrArg s.become (Dev.reseed_of_failed hunit hgen hrunning hnew)
  case unwrapped =>
    intro s l unit n j rest d hlane hnext hjob hnarrow hgen hheld
    exact congrArg s.become (Dev.completeUnwrap_of_narrow hlane hnext hjob hnarrow hgen hheld)
  case stale =>
    intro s l unit n j rest d hlane hnext hjob hstale
    exact congrArg s.become (Dev.completeUnwrap_of_stale hlane hnext hjob hstale)
  case zeroised =>
    intro s k hretiring hdrained hsingle
    exact congrArg s.become (Dev.zeroiseRetired_of_drained hretiring hdrained hsingle)
  case installed =>
    intro s o hrun hwelbor
    exact execInstall_of_welbor hrun hwelbor
  case installRefused =>
    intro s o hrun hother
    exact execInstall_of_other hrun hother
  case retired =>
    intro s o hrun hmay hgood hready _ hodd
    exact execRetire_of_odd hrun hmay hgood hready hodd
  case retireRefused =>
    intro s o hrun hmay
    exact execRetire_of_refused hrun hmay
  case queried =>
    intro s o hrun hmay hgood
    exact execQuery_of_allowed hrun hmay hgood

end Sys2Proof.Machine

/-!
Secure transports (R206-R211, R216, R217, R219-R221): what the checks make of a record's request before and of its job after the
lehr, when the SA can be read; the rolls and the SA table's operation port.
-/

namespace Sys2Proof.Machine

/-- An SA whose lines can be read correctly latches no fault (R220). -/
theorem Dev.noteSa_of_readable {d : Dev} {sa : Nat} (hreadable : d.saBad sa = false) : d.noteSa sa = d := by
  simp only [Dev.noteSa, Dev.latchWhen, hreadable, Bool.false_eq_true, if_false]

/-! ## Prechecks (R210, R216) -/

theorem Dev.saReason_of_invalid {d : Dev} {r : SxpReq} {sa : Nat} (hinvalid : d.saValid sa = false) :
    d.saReason r sa = some 1 := by
  simp only [Dev.saReason, hinvalid, Bool.not_false, if_true]

/-- A number below SOFT that is not refused reaches no threshold. -/
theorem Dev.touchLimits_of_below {d : Dev} {sa n : Nat} (hbelow : n < Sa.soft (d.saWords sa)) :
    d.touchLimits sa n false = d := by
  simp only [Dev.touchLimits, hbelow.not_ge, Bool.false_eq_true, false_and, if_false]

/-- A TLS record to protect below both thresholds is located and submitted under SEQ. -/
theorem Dev.sxpCheck_of_tlsProtect {d : Dev} {r : SxpReq} {sa : Nat} {w : List Nat} {l : Located} (hwords : d.saWords sa = w)
    (htls : Sa.proto w = 2) (hprotect : Sa.dir w = 0) (hsoft : Sa.seq w < Sa.soft w) (hhard : Sa.seq w ≤ Sa.hard w)
    (hnotHit : Sa.hardHit w = false) (hlocated : tlsLocated w r.bytes (Sa.seq w) = some l) (haad : l.aad.length ≤ 65535)
    (hdata : l.data.length < 2 ^ 24) :
    d.sxpCheck r sa = some (none, (d.sxpSubmit r sa (Sa.seq w) l).autoRoll sa w) := by
  have hbelow : d.touchLimits sa (Sa.seq w) false = d := Dev.touchLimits_of_below (hwords.symm ▸ hsoft)
  simp only [Dev.sxpCheck, locate, Located.atSeq, hwords, htls, hprotect, hhard.not_gt, hnotHit, hlocated, hbelow, Nat.reduceBEq,
    haad.not_gt, hdata.not_ge, decide_false, Bool.false_and, Bool.or_self, Bool.false_eq_true, or_self, Nat.zero_ne_one,
    if_false, if_true]

section
variable {d d1 : Dev} {lane ses kind sa : Nat} {r : SxpReq} (holdest : d.sxp.queue.find? (d.laneTakes lane) = some r)
  (haccepts : d.accepts Page.sxp = true) (hrecord : r.src = .record ses kind) (hserving : (d.reqServing r).1 = sa)
  (htaken : d.setSxp { d.sxp with queue := d.sxp.queue.erase r } = d1) (hreadable : d1.saBad sa = false)
include holdest haccepts hrecord hserving htaken hreadable

theorem Dev.precheck_of_refused {n : Nat} (hreason : d1.saReason r sa = some n) :
    d.precheck lane =
      (some ⟨ses, kind, sa, some n, [], 0⟩, (d1.saSet sa (Sa.add (d1.saWords sa) 21 1)).sxpDiscard n) := by
  simp only [Dev.precheck, Dev.sxpRefuse, holdest, haccepts, hserving, htaken, hreadable, Dev.noteSa_of_readable hreadable, hreason,
    hrecord, Bool.not_true, Bool.not_false, Bool.false_eq_true, if_false, if_true, Option.getD_some]

theorem Dev.precheck_of_checked {e : Option RecordEnd × Dev} (hreason : d1.saReason r sa = none)
    (hcheck : d1.sxpCheck r sa = some e) : d.precheck lane = e := by
  simp only [Dev.precheck, holdest, haccepts, hserving, htaken, Dev.noteSa_of_readable hreadable, hreason, hrecord, hcheck,
    Bool.not_true, Bool.false_eq_true, if_false, Option.getD_some]

end

/-! ## Postchecks (R210, R219) -/

section
variable {d : Dev} {j : SxpJob} {ses kind : Nat} (out : List Byte) (hreadable : d.saBad j.sa = false)
  (hrecord : j.src = .record ses kind)
include hreadable hrecord

theorem Dev.sxpFinal_of_failed {code n : Nat} (hreason : codeReason code = some n) :
    d.sxpFinal j code out =
      some (some ⟨ses, kind, j.sa, some n, [], 0⟩, (d.saSet j.sa (Sa.add (d.saWords j.sa) 21 1)).sxpDiscard n) := by
  simp only [Dev.sxpFinal, Dev.sxpRefuse, hreadable, hreason, hrecord, Bool.not_false, Bool.false_eq_true, if_false, if_true]

theorem Dev.sxpFinal_of_tlsProtected (hprotect : Sa.dir j.words = 0) (htls : Sa.proto j.words = 2)
    (hunmapped : Sa.mapped (d.saWords j.sa) = false) :
    d.sxpFinal j Code.ok out =
      some (some ⟨ses, kind, j.sa, none, j.front ++ out.drop 5, 0⟩, d.sxpCount j) := by
  have hresult : sxpResult j j.aadLen out = some (j.front ++ out.drop 5, false, 0) := by
    simp [sxpResult, SxpJob.aadLen, hprotect, htls]
  simp only [Dev.sxpFinal, Dev.sxpDeliver, codeReason, hreadable, hprotect, hunmapped, hresult, hrecord, SxpSource.isRecord,
    Nat.reduceBEq, Bool.not_true, Bool.false_eq_true, and_false, false_and, if_false, if_true]

end

/-- A returned job of a record leaves the table of jobs and its SA's INFLIGHT; its final checks then decide. -/
theorem Dev.postcheck_of_record {d d1 d2 : Dev} {lane ses kind tag code : Nat} {out : List Byte} {j : SxpJob}
    {e : Option RecordEnd × Dev} (hdone : d.doneOf lane = some (tag, code, out)) (hjob : d.sxpJob tag = some j)
    (hrecord : j.src = .record ses kind)
    (htaken : d.setSxp { d.sxp with
      done := d.sxp.done.erase (tag, code, out), jobs := Sparse.set (blank none) d.sxp.jobs tag none } = d1)
    (hreadable : d1.saBad j.sa = false)
    (hlanded : d1.saSet j.sa (Sa.setInflight (d1.saWords j.sa) (Sa.inflight (d1.saWords j.sa) - 1)) = d2)
    (hstill : d2.saBad j.sa = false) (hfinal : d2.sxpFinal j code out = some e) : d.postcheck lane = e := by
  simp only [Dev.postcheck, hdone, hjob, hrecord, htaken, hreadable, hlanded, Dev.noteSa_of_readable hstill, hfinal, Bool.not_true,
    Bool.false_eq_true, if_false, Option.getD_some]

/-! ## Rolls and limits (R216, R217, R221) -/

theorem Dev.rollDone_of_drained {d : Dev} {sa : Nat} (hrolling : d.sxp.rolling.contains sa = true)
    (hdrained : Sa.inflight (d.saWords sa) = 0) :
    d.rollDone sa = (d.setSxp { d.sxp with rolling := d.sxp.rolling.filter (· != sa) }).pulse 315 :=
  if_pos ⟨hrolling, hdrained⟩

theorem Dev.popLimit_of_head {d : Dev} {hard : Bool} {sa : Nat} {rest : List (Bool × Nat)}
    (hhead : d.sxp.limit = (hard, sa) :: rest) :
    d.popLimit = (d.setSxp { d.sxp with limit := rest }).emit
      (.readData (BitVec.ofNat 32 (2 ^ 31 + b2n hard * 2 ^ 30 + sa))) := by
  simp only [Dev.popLimit, hhead]

theorem Dev.popLimit_of_empty {d : Dev} (hempty : d.sxp.limit = []) : d.popLimit = d.emit (.readData 0#32) := by
  simp only [Dev.popLimit, hempty]

theorem Dev.saRoll_of_formed {d : Dev} {welbor : Bool} {sa : Nat} (hmay : (welbor || Sa.mgr (d.saWords sa)) = true)
    (hformed : d.mayRoll sa = true) : d.saRoll welbor sa = (Code.ok, d.rollSa sa) := by
  simp only [Dev.saRoll, firstFailure, hmay, hformed, if_true]

/-- The requester's rights are looked at before the form of the roll (log entry 67). -/
theorem Dev.saRoll_of_barred {d : Dev} {welbor : Bool} {sa : Nat} (hbarred : (welbor || Sa.mgr (d.saWords sa)) = false) :
    d.saRoll welbor sa = (Code.access, d.noteSa sa) := by
  have hrefused : Code.access ≠ Code.ok := by decide
  simp only [Dev.saRoll, firstFailure, hbarred, hrefused, Bool.false_eq_true, if_false]

theorem Dev.saRoll_of_malformed {d : Dev} {welbor : Bool} {sa : Nat} (hmay : (welbor || Sa.mgr (d.saWords sa)) = true)
    (hbad : d.mayRoll sa = false) : d.saRoll welbor sa = (Code.malformed, d.noteSa sa) := by
  have hrefused : Code.malformed ≠ Code.ok := by decide
  simp only [Dev.saRoll, firstFailure, hmay, hbad, hrefused, Bool.false_eq_true, if_false, if_true]

/-! ## The commands -/

theorem execSxpPrecheck_of_precheck {s : State} {lane : Nat} {e : Option RecordEnd × Dev} (hcheck : s.dev.precheck lane = e) :
    execSxpPrecheck lane s = s.become (Dev.recordEnded e) := by
  rw [execSxpPrecheck, hcheck]

theorem execSxpPostcheck_of_postcheck {s : State} {lane : Nat} {e : Option RecordEnd × Dev} (hcheck : s.dev.postcheck lane = e) :
    execSxpPostcheck lane s = s.become (Dev.recordEnded e) := by
  rw [execSxpPostcheck, hcheck]

theorem execLimitFifoPop_of_reached {s : State} {req : Requester} {e : Dev}
    (hreach : s.dev.unreachable (Page.sxp + Reg.SXP_LIMIT_FIFO_VALID.off) = none) (hawake : s.dev.asleep req = false)
    (hpop : s.dev.popLimit = e) : execLimitFifoPop req s = s.become e := by
  rw [execLimitFifoPop, Dev.onRead_of_reached _ hreach hawake, hpop]

theorem execSxpRoll_of_rolled {s : State} {o : PortOp} {code : Nat} {e : Dev} (hrun : s.dev.portRunning portSxp 4 = some o)
    (hroll : s.dev.saRoll (o.req == .welbor) (bits o.word 0 20) = (code, e)) :
    execSxpRoll s = s.become (e.resumeRecords.portEnd portSxp code) :=
  congrArg s.become (Dev.portExec_of_running hrun (by simp only [hroll]))

/-- Settles O37: a record by its SA and the lehr's code, an operation by its opcode, a roll by rights and form. -/
theorem secureTransportCommands : Obligations.SecureTransportCommands := by
  unfold Obligations.SecureTransportCommands
  refine ⟨?discarded, ?submitted, ?failed, ?secured, ?drained, ?popped, ?noLimit, ?written, ?read, ?disabled, ?rolled,
    ?rollBarred, ?rollMalformed⟩
  case discarded =>
    intro s lane ses kind sa r d holdest haccepts hrecord hserving htaken hreadable hinvalid
    exact execSxpPrecheck_of_precheck (Dev.precheck_of_refused holdest haccepts hrecord hserving htaken hreadable
      (Dev.saReason_of_invalid hinvalid))
  case submitted =>
    intro s lane ses kind sa r d w l holdest haccepts hrecord hserving htaken hreadable hreason hwords htls hprotect hsoft hhard
      hnotHit hlocated haad hdata
    exact execSxpPrecheck_of_precheck (Dev.precheck_of_checked holdest haccepts hrecord hserving htaken hreadable hreason
      (Dev.sxpCheck_of_tlsProtect hwords htls hprotect hsoft hhard hnotHit hlocated haad hdata))
  case failed =>
    intro s lane ses kind tag code n out j d e hdone hjob hrecord hreason htaken hreadable hlanded hstill
    exact execSxpPostcheck_of_postcheck (Dev.postcheck_of_record hdone hjob hrecord htaken hreadable hlanded hstill
      (Dev.sxpFinal_of_failed out hstill hrecord hreason))
  case secured =>
    intro s lane ses kind tag out j d e hdone hjob hrecord hprotect htls htaken hreadable hlanded hstill hunmapped
    exact execSxpPostcheck_of_postcheck (Dev.postcheck_of_record hdone hjob hrecord htaken hreadable hlanded hstill
      (Dev.sxpFinal_of_tlsProtected out hstill hrecord hprotect htls hunmapped))
  case drained =>
    intro s sa hrolling hdrained
    exact congrArg s.become (Dev.rollDone_of_drained hrolling hdrained)
  case popped =>
    intro s req hard sa rest hreach hhead hawake
    exact execLimitFifoPop_of_reached hreach hawake (Dev.popLimit_of_head hhead)
  case noLimit =>
    intro s req hreach hempty hawake
    exact execLimitFifoPop_of_reached hreach hawake (Dev.popLimit_of_empty hempty)
  case written =>
    intro s o hrun
    exact congrArg s.become (Dev.portExec_of_running hrun rfl)
  case read =>
    intro s o hrun
    exact congrArg s.become (Dev.portExec_of_running hrun rfl)
  case disabled =>
    intro s o hrun
    exact congrArg s.become (Dev.portExec_of_running hrun rfl)
  case rolled =>
    intro s o hrun hmay hformed
    exact execSxpRoll_of_rolled hrun (Dev.saRoll_of_formed hmay hformed)
  case rollBarred =>
    intro s o hrun hbarred
    exact execSxpRoll_of_rolled hrun (Dev.saRoll_of_barred hbarred)
  case rollMalformed =>
    intro s o hrun hmay hbad
    exact execSxpRoll_of_rolled hrun (Dev.saRoll_of_malformed hmay hbad)

end Sys2Proof.Machine

/-!
Storage entries and their wire commands (R231-R237, R242, R243): the checks of an entry, the issue of a wire command, the PDUs
that a session receives for it, and its time-outs.
-/

namespace Sys2Proof.Machine

/-! ## Checks of an entry (R231) -/

section
variable {d d1 : Dev} {q op : Nat} {e : QueueEntry} (hnext : d.nextStorage q = some e) (hop : e.opcode = op)
  (htype : d.qType q = typeSto) (haccepts : d.accepts Page.sto = true)
  (hstate : (d.queue q).state = .run ∨ (d.queue q).state = .error)
  (hnoted : (d.noteVol e.volume).latchWhen (d.volValid e.volume && d.sesBad (d.volSession e.volume)) Page.sto
    FaultBit.sto_LINE_UE = d1)
include hnext hop htype haccepts hstate hnoted

theorem Dev.takeStorage_of_malformed (hform : d.stoFormGood e = false) :
    d.takeStorage q op = d1.endStorage q e.index Code.malformed 0 := by
  simp only [Dev.takeStorage, hnext, hop, htype, haccepts, hstate, hnoted, hform, ne_eq, not_true_eq_false, Bool.not_true,
    Bool.not_false, Bool.false_eq_true, or_self, if_false, if_true]

theorem Dev.takeStorage_of_barred (hform : d.stoFormGood e = true) (hbarred : d.stoAllowed q e = false) :
    d.takeStorage q op = d1.endStorage q e.index Code.access 0 := by
  simp only [Dev.takeStorage, hnext, hop, htype, haccepts, hstate, hnoted, hform, hbarred, ne_eq, not_true_eq_false, Bool.not_true,
    Bool.not_false, Bool.false_eq_true, or_self, if_false, if_true]

/-- An entry that passes the first two checks is accepted unless its session takes no more entries. -/
theorem Dev.takeStorage_of_allowed (hform : d.stoFormGood e = true) (hallowed : d.stoAllowed q e = true) :
    d.takeStorage q op =
      if d.sesState (d.volSession e.volume) = Ses.closed ∨ d.sesState (d.volSession e.volume) = Ses.draining
        ∨ d.sesState (d.volSession e.volume) = Ses.failed ∨ d.sesValid (d.volSession e.volume) = false
      then d1.endStorage q e.index Code.remote 0x02 else d1.acceptEntry q e := by
  simp only [Dev.takeStorage, hnext, hop, htype, haccepts, hstate, hnoted, hform, hallowed, ne_eq, not_true_eq_false, Bool.not_true,
    Bool.false_eq_true, or_self, if_false, Bool.or_eq_true, beq_iff_eq, Bool.not_eq_true', or_assoc]

theorem Dev.takeStorage_of_closed (hform : d.stoFormGood e = true) (hallowed : d.stoAllowed q e = true)
    (hclosed : d.sesState (d.volSession e.volume) = Ses.draining ∨ d.sesState (d.volSession e.volume) = Ses.failed
      ∨ d.sesState (d.volSession e.volume) = Ses.closed) :
    d.takeStorage q op = d1.endStorage q e.index Code.remote 0x02 := by
  rw [Dev.takeStorage_of_allowed hnext hop htype haccepts hstate hnoted hform hallowed, if_pos]
  rcases hclosed with hdraining | hfailed | hclosed
  · exact Or.inr (Or.inl hdraining)
  · exact Or.inr (Or.inr (Or.inl hfailed))
  · exact Or.inl hclosed

theorem Dev.takeStorage_of_open (hform : d.stoFormGood e = true) (hallowed : d.stoAllowed q e = true)
    (hfirst : Ses.connecting ≤ d.sesState (d.volSession e.volume)) (hlast : d.sesState (d.volSession e.volume) ≤ Ses.ready)
    (hvalid : d.sesValid (d.volSession e.volume) = true) :
    d.takeStorage q op = d1.acceptEntry q e := by
  rw [Dev.takeStorage_of_allowed hnext hop htype haccepts hstate hnoted hform hallowed, if_neg]
  simp only [Ses.connecting, Ses.ready] at hfirst hlast
  simp only [hvalid, Ses.closed, Ses.draining, Ses.failed, Bool.true_eq_false, or_false]
  omega

end

/-! ## Issue of a wire command (R232-R234, R237) -/

theorem Dev.sendWire_of_waiting {d : Dev} {n : Nat} {w : WireCmd}
    (hwaits : d.earlierUnsent n w = true ∨ d.flushWaits n w = true ∨ d.takeSlot n w = none) : d.sendWire n w = d := by
  rcases hwaits with hearlier | hflush | hslot
  · exact if_pos (Or.inl hearlier)
  · exact if_pos (Or.inr hflush)
  · simp only [Dev.sendWire, hslot, ite_self]

/-- A wire command that nothing holds back is sent under the slot that its session gives it. -/
theorem Dev.sendWire_of_slot {d d1 : Dev} {n : Nat} {w w1 : WireCmd} (hearlier : d.earlierUnsent n w = false)
    (hflush : d.flushWaits n w = false) (hslot : d.takeSlot n w = some d1) (hslotted : d1.wire n = some w1) :
    d.sendWire n w =
      let c := d1.wireSqe w1 (((d.entry w.queue w.index).map (·.fua)).getD false && w.op == 0x31)
      let d2 := (d1.setWire n (some { w1 with phase := .sent })).count Page.sto Reg.STO_CMD_CNT_CNT
      (if w.op = 0 ∨ w.op = 0x32 then d2
        else d2.modEntry w.queue w.index (fun e => { e with touched := max e.touched (w.off + w.len) })).stoSend w.session
          (buildPdu (d.ses w.session).digests 0x04 0 72 c.1 c.2) := by
  simp only [Dev.sendWire, hearlier, hflush, hslot, hslotted, Bool.false_eq_true, or_self, if_false]

/-- A wire command whose data is there, or that has none, is sent when its session can issue it. -/
theorem Dev.issueWire_of_prepared {d : Dev} {n : Nat} {w : WireCmd} (a : HostAnswer) (hwire : d.wire n = some w)
    (hprepared : w.phase = .ready ∨ (w.phase = .start ∧ w.op ≠ 0x31 ∧ w.op ≠ 0)) :
    d.issueWire n a = if !d.mayIssue w ∨ w.orphan ∨ !d.accepts Page.sto then d else d.sendWire n w := by
  rcases hprepared with hready | ⟨hstart, hwrite, hconnect⟩
  · simp only [Dev.issueWire, hwire, hready]
  · simp only [Dev.issueWire, hwire, hstart, hwrite, hconnect, or_self, if_false]

/-! ## Received PDUs (R233-R236) -/

theorem Dev.receivePdu_of_good {d d1 : Dev} {ses typ : Nat} {p : List Byte} (any : Bool) (f : Dev → List Byte → Dev)
    (hpdu : d.nextPdu ses = some p) (hform : pduFormGood p = true) (htype : byteAt p 0 = typ)
    (hheader : headerGood (d.ses ses).digests p = true)
    (htaken : d.modSes ses (fun v => { v with stream := v.stream.drop p.length }) = d1) :
    d.receivePdu ses typ any f = f d1 p := by
  simp only [Dev.receivePdu, hpdu, hform, htype, hheader, htaken, beq_self_eq_true, Bool.and_self, Bool.not_true,
    Bool.false_and, Bool.false_eq_true, if_false]

section
variable {d d1 : Dev} {ses : Nat} {p : List Byte} (hpdu : d.nextPdu ses = some p) (hform : pduFormGood p = true)
  (hheader : headerGood (d.ses ses).digests p = true)
  (htaken : d.modSes ses (fun v => { v with stream := v.stream.drop p.length }) = d1)
include hpdu hform hheader htaken

theorem Dev.receiveData_of_late (hcells : d.dataWaits ses = false) (htype : byteAt p 0 = 0x07)
    (hfree : d1.wireOf ses (pduCid p) = none) : d.receiveData ses = d1.lateMessage := by
  simp only [Dev.receiveData, hcells, Dev.receivePdu_of_good _ _ hpdu hform htype hheader htaken, hfree, Bool.false_eq_true,
    if_false]

theorem Dev.receiveData_of_live {n : Nat} {w : WireCmd} (hcells : d.dataWaits ses = false) (htype : byteAt p 0 = 0x07)
    (hnamed : d1.wireOf ses (pduCid p) = some n) (hwire : d1.wire n = some w) (hlive : w.orphan = false) :
    d.receiveData ses = d1.takeData n w ses p := by
  simp only [Dev.receiveData, hcells, Dev.receivePdu_of_good _ _ hpdu hform htype hheader htaken, hnamed, hwire, hlive,
    Bool.false_eq_true, if_false]

theorem Dev.receiveResponse_of_late (htype : byteAt p 0 = 0x05) (hfree : d1.wireOf ses (ofLe (cut p 20 2)) = none) :
    d.receiveResponse ses = d1.lateMessage := by
  simp only [Dev.receiveResponse, Dev.receivePdu_of_good _ _ hpdu hform htype hheader htaken, hfree]

/-- A command that moves no data is answered by its response, whatever the status. -/
theorem Dev.receiveResponse_of_dataless {n : Nat} {w : WireCmd} (htype : byteAt p 0 = 0x05)
    (hnamed : d1.wireOf ses (ofLe (cut p 20 2)) = some n) (hwire : d1.wire n = some w) (hop : w.op = 0x32 ∨ w.op = 0x33) :
    d.receiveResponse ses = d1.answerWire n (ofLe (cut p 22 2)) := by
  rw [Dev.receiveResponse, Dev.receivePdu_of_good _ _ hpdu hform htype hheader htaken]
  rcases hop with hflush | htrim
  · simp [hnamed, hwire, hflush]
  · simp [hnamed, hwire, htrim]

theorem Dev.receiveR2t_of_late (htype : byteAt p 0 = 0x09) (hfree : d1.wireOf ses (pduCid p) = none) :
    d.receiveR2t ses = d1.lateMessage := by
  simp only [Dev.receiveR2t, Dev.receivePdu_of_good _ _ hpdu hform htype hheader htaken, hfree]

/-- An R2T for bytes that are held has them sent in PDUs of at most MAXH2CDATA. -/
theorem Dev.receiveR2t_of_held {n off len most : Nat} {w : WireCmd} (htype : byteAt p 0 = 0x09)
    (hnamed : d1.wireOf ses (pduCid p) = some n) (hwire : d1.wire n = some w) (hop : w.op = 0x31 ∨ w.op = 0)
    (hoff : ofLe (cut p 12 4) = off) (hlen : ofLe (cut p 16 4) = len) (hsome : 0 < len) (hheld : off + len ≤ w.held.length)
    (hmost : max 4096 (bits (d1.sesWord ses 25) 16 16 * 4096) = most) :
    d.receiveR2t ses = (d1.setWire n (some { w with sentTo := max w.sentTo (off + len) })).stoSend ses
      (h2cData (d1.ses ses).digests w.cid (ofLe (cut p 10 2)) most w.held (len / most + 1) off len) := by
  have hasked : ¬((w.op ≠ 0x31 ∧ w.op ≠ 0) ∨ len = 0 ∨ w.held.length < off + len) := by omega
  simp only [Dev.receiveR2t, Dev.receivePdu_of_good _ _ hpdu hform htype hheader htaken, hnamed, hwire, hoff, hlen, hmost,
    if_neg hasked]

end

/-- Data that is not the last of a READ, continues what was received, and has the right digest is kept in cells and drained. -/
theorem Dev.takeData_of_continuing {d d0 : Dev} {ses n : Nat} {p : List Byte} {w : WireCmd}
    {c : List (Nat × Nat) × List (Nat × Nat)} (hread : w.op = 0x30) (hgood : w.fail = none)
    (hfits : pduDataFits (d.ses ses).digests p = true) (hnext : ofLe (cut p 12 4) = w.received)
    (hbound : w.received + ofLe (cut p 16 4) ≤ w.len) (hdigest : (pduData (d.ses ses).digests p).2 = true)
    (hmore : bitAt (byteAt p 1) 2 = false) (hcells : d.storeCells (ofLe (cut p 16 4)) = some (c, d0)) :
    d.takeData n w ses p = (d0.setWire n (some { w with
      received := w.received + ofLe (cut p 16 4), pending := w.pending ++ (pduData (d.ses ses).digests p).1
      rx := w.rx ++ [(w.received + ofLe (cut p 16 4), c.1, c.2)] })).drainRead n := by
  simp only [Dev.takeData, hread, hgood, hfits, hnext, hbound.not_gt, hdigest, hmore, hcells, ne_eq, not_true_eq_false,
    Bool.not_true, Bool.and_false, Option.isSome_none, Bool.false_eq_true, or_self, if_false]

/-! ## Time-outs (R231, R242, R243) -/

theorem Dev.timeoutWire_of_live {d : Dev} {n : Nat} {w : WireCmd} (hwire : d.wire n = some w) (hlive : w.live = true) :
    d.timeoutWire n =
      if w.orphan then (d.releaseSlot n).dropWire n else d.failSession w.session Code.timeout 0x06 := by
  simp only [Dev.timeoutWire, hwire, hlive, Bool.not_true, Bool.false_eq_true, if_false]

theorem Dev.openTimeout_of_waiting {d : Dev} {q i : Nat} {e : QueueEntry} (hentry : d.entry q i = some e)
    (haccepted : e.accepted = true) (htype : d.qType q = typeSto)
    (hfirst : Ses.connecting ≤ d.sesState (d.volSession e.volume))
    (hlast : d.sesState (d.volSession e.volume) ≤ Ses.connect) :
    d.openTimeout q i = d.endStorage q i Code.timeout 0x06 := by
  simp only [Dev.openTimeout, hentry]
  exact if_pos ⟨haccepted, htype, hfirst, hlast⟩

/-! ## The commands -/

/-- Settles O40: an entry by the first of its checks that fails, a wire command by whether it can be sent, a PDU by whether the
slot that it names is live. -/
theorem storageEntryCommands : Obligations.StorageEntryCommands := by
  unfold Obligations.StorageEntryCommands
  refine ⟨?readMalformed, ?writeMalformed, ?flushMalformed, ?trimMalformed, ?readBarred, ?writeBarred, ?flushBarred, ?trimBarred,
    ?readClosed, ?writeClosed, ?flushClosed, ?trimClosed, ?readOpen, ?writeOpen, ?flushOpen, ?trimOpen, ?issued, ?held, ?data,
    ?dataLate, ?responseLate, ?r2tLate, ?answered, ?r2t, ?timeout, ?openWait⟩
  case readMalformed | writeMalformed | flushMalformed | trimMalformed =>
    intro s q e d hnext hop htype haccepts hstate hnoted hform
    exact congrArg s.become (Dev.takeStorage_of_malformed hnext hop htype haccepts hstate hnoted hform)
  case readBarred | writeBarred | flushBarred | trimBarred =>
    intro s q e d hnext hop htype haccepts hstate hnoted hform hbarred
    exact congrArg s.become (Dev.takeStorage_of_barred hnext hop htype haccepts hstate hnoted hform hbarred)
  case readClosed | writeClosed | flushClosed | trimClosed =>
    intro s q e d hnext hop htype haccepts hstate hnoted hform hallowed hclosed
    exact congrArg s.become (Dev.takeStorage_of_closed hnext hop htype haccepts hstate hnoted hform hallowed hclosed)
  case readOpen | writeOpen | flushOpen | trimOpen =>
    intro s q e d hnext hop htype haccepts hstate hnoted hform hallowed hfirst hlast hvalid
    exact congrArg s.become (Dev.takeStorage_of_open hnext hop htype haccepts hstate hnoted hform hallowed hfirst hlast hvalid)
  case issued =>
    intro s n a w w1 d hwire hmay horphan haccepts hprepared hearlier hflush hslot hslotted
    have hissue : ¬(!s.dev.mayIssue w ∨ w.orphan ∨ !s.dev.accepts Page.sto) := by simp [hmay, horphan, haccepts]
    have hsent := (Dev.issueWire_of_prepared a hwire hprepared).trans (if_neg hissue)
    exact congrArg s.become (hsent.trans (Dev.sendWire_of_slot hearlier hflush hslot hslotted))
  case held =>
    intro s n a w hwire hprepared hwaits
    have hkept := Dev.issueWire_of_prepared a hwire hprepared
    rw [Dev.sendWire_of_waiting hwaits, ite_self] at hkept
    exact congrArg s.become hkept
  case data =>
    intro s ses n p w c d d0 hroom hpdu hform htype hheader htaken hnamed hwire hlive hread hgood hfits hnext hbound hdigest hmore
      hcells
    exact congrArg s.become ((Dev.receiveData_of_live hpdu hform hheader htaken hroom htype hnamed hwire hlive).trans
      (Dev.takeData_of_continuing hread hgood hfits hnext hbound hdigest hmore hcells))
  case dataLate =>
    intro s ses p d hroom hpdu hform htype hheader htaken hfree
    rw [htype, if_neg (by decide)] at hfree
    exact congrArg s.become (Dev.receiveData_of_late hpdu hform hheader htaken hroom htype hfree)
  case responseLate =>
    intro s ses p d hpdu hform htype hheader htaken hfree
    rw [if_pos htype] at hfree
    exact congrArg s.become (Dev.receiveResponse_of_late hpdu hform hheader htaken htype hfree)
  case r2tLate =>
    intro s ses p d hpdu hform htype hheader htaken hfree
    rw [htype, if_neg (by decide)] at hfree
    exact congrArg s.become (Dev.receiveR2t_of_late hpdu hform hheader htaken htype hfree)
  case answered =>
    intro s ses n p w d hpdu hform htype hheader htaken hnamed hwire hop
    exact congrArg s.become (Dev.receiveResponse_of_dataless hpdu hform hheader htaken htype hnamed hwire hop)
  case r2t =>
    intro s ses n off len most p w d hpdu hform htype hheader htaken hnamed hwire hop hoff hlen hsome hheld hmost
    exact congrArg s.become
      (Dev.receiveR2t_of_held hpdu hform hheader htaken htype hnamed hwire hop hoff hlen hsome hheld hmost)
  case timeout =>
    intro s n w hwire hlive
    exact congrArg s.become (Dev.timeoutWire_of_live hwire hlive)
  case openWait =>
    intro s q i e hentry haccepted htype hfirst hlast
    exact congrArg s.become (Dev.openTimeout_of_waiting hentry haccepted htype hfirst hlast)

end Sys2Proof.Machine

/-!
Storage sessions (R225, R230, R238-R242, R244, R245): the PDUs that open and break one, its TCP connection, its end, and the
operations on sessions and volumes.
-/

namespace Sys2Proof.Machine

/-! ## PDUs of the session itself (R239, R242) -/

section
variable {d d1 : Dev} {ses : Nat} {p : List Byte} (hpdu : d.nextPdu ses = some p) (hform : pduFormGood p = true)
  (hheader : headerGood (d.ses ses).digests p = true)
  (htaken : d.modSes ses (fun v => { v with stream := v.stream.drop p.length }) = d1)
include hpdu hform hheader htaken

/-- A valid ICResp that grants no digest opens the session. -/
theorem Dev.receiveIcResp_of_valid (htype : byteAt p 0 = 0x01) (hicreq : d1.sesState ses = Ses.icreq)
    (hversion : ofLe (cut p 8 2) = 0) (halign : byteAt p 10 = 0) (hplain : byteAt p 11 = 0) (hmost : 4096 ≤ ofLe (cut p 12 4)) :
    d.receiveIcResp ses =
      (((d1.sesSet ses 25 (min (ofLe (cut p 12 4) / 4096) 65535 * 2 ^ 16)).modSes ses (fun v =>
        { v with digests := 0 })).setSesState ses Ses.connect).addWire
          { session := ses, queue := 65536, index := 0, op := 0, len := 1024, stamp := d1.sesStamp ses } := by
  have hvalid : ¬(d1.sesState ses ≠ Ses.icreq ∨ ofLe (cut p 8 2) ≠ 0 ∨ byteAt p 10 ≠ 0 ∨ 3 < 0
      ∨ 0 &&& bits (d1.sesWord ses 0) 2 2 ≠ 0 ∨ ofLe (cut p 12 4) < 4096) := by
    simp [hicreq, hversion, halign, hmost]
  rw [Dev.receiveIcResp, Dev.receivePdu_of_good _ _ hpdu hform htype hheader htaken, hplain]
  exact if_neg hvalid

/-- A C2HTermReq breaks the protocol, unless it names a slot that is free or under another GEN. -/
theorem Dev.receiveTerm_of_good (htype : byteAt p 0 = 0x03) :
    d.receiveTerm ses =
      if (termCid p).map (d1.wireOf ses) = some none then d1.lateMessage else d1.failSession ses Code.remote 0x03 := by
  rw [Dev.receiveTerm, Dev.receivePdu_of_good _ _ hpdu hform htype hheader htaken]
  by_cases hlate : (termCid p).map (d1.wireOf ses) = some none
  · simp only [hlate, if_true]
  · simp only [hlate, if_false, Dev.protocolError]

end

/-! ## TCP segments (R225, R241, R242) -/

section
variable {d : Dev} {n ses : Nat} {g : Segmented} (hhead : d.headSegment = some (n, ses, some g))
  (haccepts : d.accepts Page.sto = true)
include hhead haccepts

theorem Dev.receiveSynAck_of_connecting (hsyn : g.syn = true) (hrst : g.rst = false)
    (hconnecting : d.sesState ses = Ses.connecting) :
    d.receiveSynAck = if g.acks = true ∧ g.ack = d.sndNxt ses then (d.popSto n).establish ses g else d.popSto n := by
  have hother : (!g.acks ∨ g.ack ≠ d.sndNxt ses) ↔ ¬(g.acks = true ∧ g.ack = d.sndNxt ses) := by
    rw [not_and_or, Bool.not_eq_true, Bool.not_eq_true']
  simp only [Dev.receiveSynAck, hhead, haccepts, hsyn, hrst, hconnecting, hother, ne_eq, not_true_eq_false, Bool.not_true,
    Bool.false_eq_true, or_self, if_false, ite_not]

theorem Dev.receiveRst_of_open (hrst : g.rst = true) (hopen : (d.ses ses).open_ = true) (hterm : (d.ses ses).term = false) :
    d.receiveRst = if d.rstGood ses g then (d.popSto n).failSession ses Code.remote 0x04 else d.popSto n := by
  simp only [Dev.receiveRst, hhead, haccepts, hrst, hopen, hterm, Bool.not_true, Bool.false_eq_true, and_false, or_self, if_false]

theorem Dev.receiveSegment_of_open (hrst : g.rst = false) (hsyn : g.syn = false) (hopen : (d.ses ses).open_ = true)
    (hterm : (d.ses ses).term = false) (hconnected : d.sesState ses ≠ Ses.connecting) :
    d.receiveSegment = (d.popSto n).takeSegment ses g := by
  simp only [Dev.receiveSegment, hhead, haccepts, hrst, hsyn, hopen, hterm, hconnected, Bool.not_true, Bool.false_eq_true,
    false_and, or_self, if_false]

end

/-- What is no TCP segment leaves the FIFO. -/
theorem Dev.receiveSegment_of_unparsed {d : Dev} {n ses : Nat} (hhead : d.headSegment = some (n, ses, none)) :
    d.receiveSegment = d.popSto n := by
  simp only [Dev.receiveSegment, hhead]

/-! ## The retransmission timer (R241, R242) -/

section
variable {d : Dev} {ses : Nat} (hopen : (d.ses ses).open_ = true) (hterm : (d.ses ses).term = false)
  (hfly : 0 < d.inFlight ses)
include hopen hterm hfly

theorem Dev.retransmitTimeout_of_last (hlast : bits (d.sesWord ses 12) 0 4 ≤ (d.ses ses).expiries + 1) :
    d.retransmitTimeout ses = d.failSession ses Code.timeout 0x05 := by
  simp only [Dev.retransmitTimeout, hopen, hterm, hfly.ne', hlast, Bool.not_true, Bool.false_eq_true, false_and, or_self, if_false,
    if_true]

theorem Dev.retransmitTimeout_of_again (hagain : (d.ses ses).expiries + 1 < bits (d.sesWord ses 12) 0 4) :
    d.retransmitTimeout ses = (d.setSes ses { d.ses ses with
      expiries := (d.ses ses).expiries + 1, rto := d.clampRto ses (2 * (d.ses ses).rto), timed := none
      ssthresh := d.halfFlight ses, cwnd := d.effMss ses, fast := false, dupAcks := 0
      recover := some (d.sndNxt ses) }).retransmit ses := by
  simp only [Dev.retransmitTimeout, hopen, hterm, hfly.ne', hagain.not_ge, Bool.not_true, Bool.false_eq_true, false_and, or_self,
    if_false]

end

/-! ## The end of a drained session (R239) -/

section
variable {d : Dev} {ses : Nat} (hdraining : d.sesState ses = Ses.draining) (hnone : d.outstanding ses = 0)
include hdraining hnone

theorem Dev.drainSession_of_unfinished (hopen : (d.ses ses).open_ = true) (hfin : (d.ses ses).fin = false)
    (hfinAcked : (d.ses ses).finAcked = false) :
    d.drainSession ses = (d.setSes ses { d.ses ses with fin := true }).pumpAll ses := by
  simp only [Dev.drainSession, hdraining, hnone, hopen, hfin, hfinAcked, ne_eq, not_true_eq_false, Bool.not_true,
    Bool.false_eq_true, false_and, or_self, if_false]

theorem Dev.drainSession_of_finished (hfinAcked : (d.ses ses).finAcked = true) (hclosing : (d.ses ses).closing = true) :
    d.drainSession ses =
      (d.setSes ses { freeSlots := (d.ses ses).freeSlots, gens := (d.ses ses).gens }).setSesState ses Ses.closed := by
  simp only [Dev.drainSession, hdraining, hnone, hfinAcked, hclosing, ne_eq, not_true_eq_false, and_self, or_true, or_self,
    if_false, if_true]

end

/-! ## Operations on volumes (R230, R245) -/

section
variable {s : State} {o : PortOp}

theorem execVolWrite_of_ranged (hrun : s.dev.portRunning portSto 1 = some o) (hrange : stoOpBad o false = false) :
    execVolWrite s =
      let r := (s.dev.noteVol (bits o.word 0 18)).volWrite (o.req == .welbor) (bits o.word 0 18)
        ((List.range 16).map (wordAt o.buf))
      s.become (r.2.portEnd portSto r.1) :=
  congrArg s.become (Dev.portExec_of_running hrun (by simp only [hrange, Bool.false_eq_true, if_false]))

theorem execVolRead_of_ranged (hrun : s.dev.portRunning portSto 2 = some o) (hrange : stoOpBad o false = false) :
    execVolRead s = s.become (((s.dev.noteVol (bits o.word 0 18)).stoResult (s.dev.volWords (bits o.word 0 18))).portEnd portSto
      Code.ok) :=
  congrArg s.become (Dev.portExec_of_running hrun (by simp only [hrange, Bool.false_eq_true, if_false]))

theorem execVolDisable_of_ranged (hrun : s.dev.portRunning portSto 3 = some o) (hrange : stoOpBad o false = false) :
    execVolDisable s = s.become ((s.dev.volDisable (bits o.word 0 18)).portEnd portSto Code.ok) :=
  congrArg s.become (Dev.portExec_of_running hrun (by simp only [hrange, Bool.false_eq_true, if_false]))

theorem execStoVolBindKey_of_welbor (hrun : s.dev.portRunning portSto 4 = some o) (hwelbor : o.req = .welbor)
    (hrange : stoOpBad o false = false) :
    execStoVolBindKey s =
      let r := (s.dev.noteVol (bits o.word 0 18)).volBindKey (bits o.word 0 18) ((List.range 16).map (wordAt o.buf))
      s.become (r.2.portEnd portSto r.1) :=
  congrArg s.become (Dev.portExec_of_running hrun (by
    simp only [hwelbor, hrange, ne_eq, not_true_eq_false, Bool.false_eq_true, if_false]))

theorem execStoVolBindKey_of_other (hrun : s.dev.portRunning portSto 4 = some o) (hother : o.req ≠ .welbor) :
    execStoVolBindKey s = s.become (s.dev.portEnd portSto Code.access) :=
  congrArg s.become (Dev.portExec_of_running hrun (if_pos hother))

/-! ## Operations on sessions (R239, R245) -/

theorem execSesWrite_of_ranged (hrun : s.dev.portRunning portSto 5 = some o) (hrange : stoOpBad o true = false) :
    execSesWrite s =
      let r := (s.dev.noteSes (bits o.word 0 18)).sesWrite (o.req == .welbor) (bits o.word 0 18)
        ((List.range 32).map (wordAt o.buf))
      s.become (r.2.portEnd portSto r.1) :=
  congrArg s.become (Dev.portExec_of_running hrun (by simp only [hrange, Bool.false_eq_true, if_false]))

end

section
variable {d d1 : Dev} {op : Nat} {o : PortOp} {free : Bool} {good : Dev → Nat → Bool} {f : Dev → Nat → Dev}
  (hrun : d.portRunning portSto op = some o) (hnoted : d.noteSes (bits o.word 0 18) = d1)
  (hmay : free = true ∨ o.req = .welbor ∨ d1.sesMgr (bits o.word 0 18) = true)
include hrun hnoted hmay

/-- An operation on a session that its requester may ask for is carried out when the session is in a state for it. -/
theorem Dev.sesOp_of_may :
    d.sesOp op free good f =
      if stoOpBad o true = true ∨ good d1 (bits o.word 0 18) = false then d1.portEnd portSto Code.malformed
      else (f d1 (bits o.word 0 18)).portEnd portSto Code.ok := by
  have hallowed : ¬(o.req ≠ .welbor ∧ free = false ∧ d1.sesMgr (bits o.word 0 18) = false) := by
    rcases hmay with hfree | hwelbor | hmgr
    · simp [hfree]
    · simp [hwelbor]
    · simp [hmgr]
  split
  case isTrue hbad =>
    exact Dev.portExec_of_running hrun (by simp only [hnoted, hallowed, hbad, Bool.not_eq_true', if_false, if_true])
  case isFalse hgood =>
    exact Dev.portExec_of_running hrun (by simp only [hnoted, hallowed, hgood, Bool.not_eq_true', if_false])

theorem Dev.sesOp_of_good (hrange : stoOpBad o true = false) (hgood : good d1 (bits o.word 0 18) = true) :
    d.sesOp op free good f = (f d1 (bits o.word 0 18)).portEnd portSto Code.ok := by
  rw [Dev.sesOp_of_may hrun hnoted hmay, if_neg (by simp [hrange, hgood])]

theorem Dev.sesOp_of_wrongState (hbad : good d1 (bits o.word 0 18) = false) :
    d.sesOp op free good f = d1.portEnd portSto Code.malformed := by
  rw [Dev.sesOp_of_may hrun hnoted hmay, if_pos (Or.inr hbad)]

end

/-! ## The commands -/

/-- Settles O41: a PDU and a segment by their form and the session's state, a timer by the expiries before it, an operation by
its requester and the state of its session. -/
theorem storageSessionCommands : Obligations.StorageSessionCommands := by
  unfold Obligations.StorageSessionCommands
  refine ⟨?icresp, ?term, ?synAck, ?rst, ?segment, ?unparsed, ?failed, ?again, ?drained, ?finished, ?volWrite, ?volRead,
    ?volDisable, ?bindKey, ?bindKeyRefused, ?sesWrite, ?sesRead, ?sesOpen, ?sesGo, ?sesClose, ?sesCloseMalformed, ?sesReset⟩
  case icresp =>
    intro s ses p d hpdu hform htype hheader htaken hicreq hversion halign hplain hmost
    exact congrArg s.become (Dev.receiveIcResp_of_valid hpdu hform hheader htaken htype hicreq hversion halign hplain hmost)
  case term =>
    intro s ses p d hpdu hform htype hheader htaken
    exact congrArg s.become (Dev.receiveTerm_of_good hpdu hform hheader htaken htype)
  case synAck =>
    intro s n ses g hhead hsyn hrst hconnecting haccepts
    exact congrArg s.become (Dev.receiveSynAck_of_connecting hhead haccepts hsyn hrst hconnecting)
  case rst =>
    intro s n ses g hhead hrst hopen hterm haccepts
    exact congrArg s.become (Dev.receiveRst_of_open hhead haccepts hrst hopen hterm)
  case segment =>
    intro s n ses g hhead hrst hsyn hopen hterm hconnected haccepts
    exact congrArg s.become (Dev.receiveSegment_of_open hhead haccepts hrst hsyn hopen hterm hconnected)
  case unparsed =>
    intro s n ses hhead
    exact congrArg s.become (Dev.receiveSegment_of_unparsed hhead)
  case failed =>
    intro s ses hopen hterm hfly hlast
    exact congrArg s.become (Dev.retransmitTimeout_of_last hopen hterm hfly hlast)
  case again =>
    intro s ses hopen hterm hfly hagain
    exact congrArg s.become (Dev.retransmitTimeout_of_again hopen hterm hfly hagain)
  case drained =>
    intro s ses hdraining hnone hopen hfin hfinAcked
    exact congrArg s.become (Dev.drainSession_of_unfinished hdraining hnone hopen hfin hfinAcked)
  case finished =>
    intro s ses hdraining hnone hfinAcked hclosing
    exact congrArg s.become (Dev.drainSession_of_finished hdraining hnone hfinAcked hclosing)
  case volWrite =>
    intro s o hrun hrange
    exact execVolWrite_of_ranged hrun hrange
  case volRead =>
    intro s o hrun hrange
    exact execVolRead_of_ranged hrun hrange
  case volDisable =>
    intro s o hrun hrange
    exact execVolDisable_of_ranged hrun hrange
  case bindKey =>
    intro s o hrun hwelbor hrange
    exact execStoVolBindKey_of_welbor hrun hwelbor hrange
  case bindKeyRefused =>
    intro s o hrun hother
    exact execStoVolBindKey_of_other hrun hother
  case sesWrite =>
    intro s o hrun hrange
    exact execSesWrite_of_ranged hrun hrange
  case sesRead =>
    intro s o hrun hrange
    exact congrArg s.become (Dev.sesOp_of_good hrun rfl (Or.inl rfl) hrange rfl)
  case sesOpen =>
    intro s o d hrun hnoted hmay hrange hclosed hvalid
    exact congrArg s.become (Dev.sesOp_of_good hrun hnoted (Or.inr hmay) hrange (by simp [hclosed, hvalid]))
  case sesGo =>
    intro s o d hrun hnoted hmay hrange hhandshake hmatch
    exact congrArg s.become (Dev.sesOp_of_good hrun hnoted (Or.inr hmay) hrange (by simp [hhandshake, hmatch]))
  case sesClose =>
    intro s o d hrun hnoted hmay hrange hready
    exact congrArg s.become (Dev.sesOp_of_good hrun hnoted (Or.inr hmay) hrange (beq_iff_eq.2 hready))
  case sesCloseMalformed =>
    intro s o d hrun hnoted hmay hunready
    exact congrArg s.become (Dev.sesOp_of_wrongState hrun hnoted (Or.inr hmay) (beq_eq_false_iff_ne.2 hunready))
  case sesReset =>
    intro s o hrun hrange
    exact congrArg s.become (Dev.sesOp_of_good hrun rfl (Or.inl rfl) hrange rfl)

end Sys2Proof.Machine

/-!
Reception at a MAC (R252, R256, R257): the end of a received frame, the pause that a control frame asks for, and the timers and the
watchdog that end it.
-/

namespace Sys2Proof.Machine

/-! ## The end of a received frame (R252) -/

/-- Nothing is in reception at a MAC any more; one whose ENABLE was cleared meanwhile follows it (R267). -/
def Dev.closeReception (d : Dev) (m : Nat) : Dev :=
  (d.setMac m { d.macOf m with rxBusy := false, rx := none, rxTag := none }).refreshMac m

theorem Dev.rejectFrame_of_admitted {d : Dev} {m h : Nat} (idx : Nat) (hrx : (d.macOf m).rx = some h) :
    d.rejectFrame m idx = (d.countMac m idx).discardFrame h := by
  simp only [Dev.rejectFrame, hrx]

section
variable {d : Dev} {m : Nat} {bs : List Byte} (hbusy : (d.macOf m).rxBusy = true)
include hbusy

theorem Dev.endFrame_of_codeError : d.endFrame m bs true = (d.rejectFrame m 0x15).closeReception m := by
  simp only [Dev.endFrame, hbusy, Bool.not_true, Bool.false_eq_true, if_false, if_true, Dev.closeReception]

variable (hmax : (taggedFrame (d.macOf m).rxTag bs).length ≤ d.fget (Page.mac m) Reg.MAC_MAX_FRAME_BYTES)
  (hmin : 64 ≤ bs.length)
include hmax hmin

theorem Dev.endFrame_of_badFcs (hfcs : fcsGood bs = false) :
    d.endFrame m bs false = (d.rejectFrame m 0x12).closeReception m := by
  simp only [Dev.endFrame, hbusy, hmax.not_gt, hmin.not_gt, hfcs, Bool.not_true, Bool.not_false, Bool.false_eq_true, if_false,
    if_true, Dev.closeReception]

theorem Dev.endFrame_of_goodData {h : Nat} (hfcs : fcsGood bs = true) (hdata : isControl bs = false)
    (hrx : (d.macOf m).rx = some h) :
    d.endFrame m bs false = (((d.countMac m 0x10).countMac m 0x11 bs.length).completeFrame h
      (taggedFrame (d.macOf m).rxTag bs)).closeReception m := by
  simp only [Dev.endFrame, hbusy, hmax.not_gt, hmin.not_gt, hfcs, hdata, hrx, Bool.not_true, Bool.false_eq_true, if_false,
    Dev.closeReception]

theorem Dev.endFrame_of_goodControl (hfcs : fcsGood bs = true) (hcontrol : isControl bs = true) (hrx : (d.macOf m).rx = none) :
    d.endFrame m bs false = (d.takeControl m bs).closeReception m := by
  simp only [Dev.endFrame, hbusy, hmax.not_gt, hmin.not_gt, hfcs, hcontrol, hrx, Bool.not_true, Bool.false_eq_true, if_false,
    if_true, Dev.closeReception]

end

/-! ## Pause and PFC frames (R252, R256) -/

theorem Dev.takeControl_of_pause (d : Dev) (m : Nat) {bs : List Byte} (hda : bs.take 6 = pauseDa) (hop : be16 bs 14 = 0x0001) :
    d.takeControl m bs = (d.countMac m 0x16).takePause m (be16 bs 16) :=
  if_pos ⟨hda, hop⟩

theorem Dev.takeControl_of_pfc (d : Dev) (m : Nat) {bs : List Byte} (hda : bs.take 6 = pauseDa) (hop : be16 bs 14 = 0x0101) :
    d.takeControl m bs = (d.countMac m 0x16).takePfc m bs := by
  have hpause : ¬(bs.take 6 = pauseDa ∧ be16 bs 14 = 0x0001) := by simp [hop]
  exact (if_neg hpause).trans (if_pos ⟨hda, hop⟩)

theorem Dev.takePause_of_obeyed {d : Dev} {m : Nat} (time : Nat) (hmode : d.fget (Page.mac m) Reg.MAC_CFG_FC_MODE = 1)
    (hup : d.linkState m = 3) (hobeyed : d.pauseIgnored m 8 = false) :
    d.takePause m time = (d.loadTimer m 8 8 time).updatePaused m := by
  simp only [Dev.takePause, hmode, hup, hobeyed, ne_eq, not_true_eq_false, Bool.false_eq_true, if_false]

/-- A PFC frame outside FC_MODE 2 counts its classes and as unused. -/
theorem Dev.takePfc_of_otherMode {d : Dev} {m : Nat} (bs : List Byte) (hmode : d.fget (Page.mac m) Reg.MAC_CFG_FC_MODE ≠ 2) :
    d.takePfc m bs = (((List.range 8).filter (fun n => bitAt (be16 bs 16) n)).foldl
      (fun (d : Dev) n => d.countMac m (0x24 + n)) d).countMac m 0x21 :=
  if_pos hmode

/-- A whole control frame that arrives beside no other is judged as every frame is. -/
theorem Dev.receiveControl_of_received {d : Dev} {m op : Nat} {bs : List Byte} (hreceives : d.receives m true = true)
    (hcontrol : isControl bs = true) (hda : bs.take 6 = pauseDa) (hop : be16 bs 14 = op) (hrx : (d.macOf m).rx = none) :
    d.receiveControl m op bs =
      (d.setMac m { d.macOf m with rxBusy := true, rx := none, rxTag := d.pvidTag m }).endFrame m bs false := by
  simp only [Dev.receiveControl, hreceives, hcontrol, hda, hop, hrx, and_self, if_true, Option.isSome_none, Bool.false_eq_true,
    if_false]

/-! ## The end of a pause (R256, R257) -/

theorem Dev.pauseWatchdog_of_stopped {d : Dev} {m t : Nat} (hwdog : d.fget (Page.mac m) Reg.MAC_PAUSE_WDOG_US ≠ 0)
    (hstopped : Sparse.get (blank 0) (d.macOf m).stopped t ≠ 0) (hobeyed : bitAt (d.macOf m).ignored t = false) :
    d.pauseWatchdog m t =
      ((((d.setMac m { d.macOf m with
          timers := (d.macOf m).timers.filter (fun e => e.2 != t + 1), ignored := (d.macOf m).ignored + 2 ^ t }).updatePaused
        m).count (Page.mac m) Reg.MAC_WDOG_CNT_CNT).latchFault (Page.mac m) FaultBit.mac_PAUSE_WDOG).pulse 116 := by
  simp only [Dev.pauseWatchdog, hwdog, hstopped, hobeyed, or_self, Bool.false_eq_true, if_false]

/-! ## The commands -/

/-- Settles O42: a frame by the first check that it fails, a control frame by its opcode and the flow control in force, and the ends
of a pause by the timer or the hold that runs. -/
theorem macReceiveCommands : Obligations.MacReceiveCommands := by
  unfold Obligations.MacReceiveCommands
  refine ⟨?good, ?codeError, ?badFcs, ?pause, ?pfc, ?pauseReceive, ?pfcReceive, ?timer, ?watchdog, ?hold⟩
  case good =>
    rintro s m h bs _ hm hbusy hrx hmax hmin hfcs hdata rfl
    exact congrArg s.become ((if_pos hm).trans (Dev.endFrame_of_goodData hbusy hmax hmin hfcs hdata hrx))
  case codeError =>
    rintro s m h bs _ hm hbusy hrx rfl
    rw [← Dev.rejectFrame_of_admitted _ hrx]
    exact congrArg s.become ((if_pos hm).trans (Dev.endFrame_of_codeError hbusy))
  case badFcs =>
    rintro s m h bs _ hm hbusy hrx hmax hmin hfcs rfl
    rw [← Dev.rejectFrame_of_admitted _ hrx]
    exact congrArg s.become ((if_pos hm).trans (Dev.endFrame_of_badFcs hbusy hmax hmin hfcs))
  case pause =>
    rintro s m bs _ _ hm hbusy hrx hmax hmin hfcs hcontrol hda hop rfl hmode hup hobeyed rfl
    refine congrArg s.become ((if_pos hm).trans ((Dev.endFrame_of_goodControl hbusy hmax hmin hfcs hcontrol hrx).trans ?_))
    rw [Dev.takeControl_of_pause _ _ hda hop, Dev.takePause_of_obeyed _ hmode hup hobeyed]
    rfl
  case pfc =>
    rintro s m bs _ _ hm hbusy hrx hmax hmin hfcs hcontrol hda hop rfl hmode rfl
    refine congrArg s.become ((if_pos hm).trans ((Dev.endFrame_of_goodControl hbusy hmax hmin hfcs hcontrol hrx).trans ?_))
    rw [Dev.takeControl_of_pfc _ _ hda hop, Dev.takePfc_of_otherMode _ hmode]
    rfl
  case pauseReceive =>
    rintro s m bs _ hm hreceives hcontrol hda hop hrx rfl
    exact congrArg s.become ((if_pos hm).trans (Dev.receiveControl_of_received hreceives hcontrol hda hop hrx))
  case pfcReceive =>
    rintro s m bs _ hm hreceives hcontrol hda hop hrx rfl
    exact congrArg s.become ((if_pos hm).trans (Dev.receiveControl_of_received hreceives hcontrol hda hop hrx))
  case timer =>
    intro s m n hm hruns
    exact congrArg s.become (if_pos ⟨hm, hruns⟩)
  case watchdog =>
    intro s m t hm ht hwdog hstopped hobeyed
    exact congrArg s.become ((if_pos ⟨hm, ht⟩).trans (Dev.pauseWatchdog_of_stopped hwdog hstopped hobeyed))
  case hold =>
    intro s m t hm hignored
    exact congrArg s.become (if_pos ⟨hm, hignored⟩)

end Sys2Proof.Machine

/-!
Links, port groups and cages (R250, R255, R265, R266): a link follows its lanes and fault sequences, a group its mode, a cage its
module and supply.
-/

namespace Sys2Proof.Machine

/-! ## Links (R255) -/

theorem Dev.moveLink_up {d : Dev} {m : Nat} (hdown : d.linkState m ≠ 3) : d.moveLink m 3 = (d.setLink m 3).pulse 115 := by
  simp only [Dev.moveLink, hdown, if_false, if_true]

theorem Dev.moveLink_of_up {d : Dev} {m st : Nat} (hup : d.linkState m = 3) (hleaves : st ≠ 3) :
    d.moveLink m st = d.leaveUp m st := by
  simp only [Dev.moveLink, hup, hleaves.symm, if_false, if_true]

/-- A link waits in ALIGN or FAULT, so the end of the hold time takes it to UP. -/
theorem execUpHoldExpiry_of_held {s : State} {m : Nat} (hm : m < 16) (hwaits : s.dev.linkState m = 2 ∨ s.dev.linkState m = 4)
    (hlock : s.dev.allLock m = true) (hquiet : s.dev.rsFault m = false) :
    execUpHoldExpiry m s = s.become ((s.dev.setLink m 3).pulse 115) := by
  have hdown : s.dev.linkState m ≠ 3 := by omega
  refine congrArg s.become ((if_pos ⟨hm, hwaits, hlock, ?_⟩).trans (Dev.moveLink_up hdown))
  rw [hquiet, Bool.not_false]

/-- Fault sequences that come while the link is up take it to FAULT. -/
theorem execFaultSequenceReceive_of_mac (s : State) {m : Nat} (lf rf : Bool) (hm : m < 16) :
    execFaultSequenceReceive m lf rf s = s.become (
      let d := s.dev.withSignal m (fun d => (d.fset (Page.mac m) Reg.MAC_LINK_RX_LOCAL_FAULT (b2n lf)).fset (Page.mac m)
        Reg.MAC_LINK_RX_REMOTE_FAULT (b2n rf))
      if d.linkState m = 3 ∧ (lf ∨ rf) then d.leaveUp m 4 else d) :=
  congrArg s.become ((if_pos hm).trans (ite_congr rfl (fun hup => Dev.moveLink_of_up hup.1 (by decide)) fun _ => rfl))

/-! ## Port groups (R250) -/

theorem Dev.retuneDone_of_busy {d : Dev} {g : Nat} (hbusy : d.fbit (Page.pcs g) Reg.PCS_MODE_BUSY = true) :
    d.retuneDone g = ((List.range 8).foldl (fun (d : Dev) i =>
        if !(d.macOf (8 * g + i)).enableHeld then d
        else
          let e := d.setMac (8 * g + i) { d.macOf (8 * g + i) with enableHeld := false }
          if e.macExists (8 * g + i) then e.fsetP (Page.mac (8 * g + i)) Hdr.enable 1 else e)
      (d.fset (Page.pcs g) Reg.PCS_MODE_BUSY 0)).refreshGroup g := by
  simp only [Dev.retuneDone, hbusy, Bool.not_true, Bool.false_eq_true, if_false]

/-! ## Cages (R265) -/

theorem Dev.startTwi_of_free {d : Dev} {g : Nat} (req : Requester) (hfree : d.fbit (Page.pcs g) Reg.CAGE_TWI_GO = false) :
    d.startTwi req g =
      if d.accepts (Page.pcs g) then
        ((d.fset (Page.pcs g) Reg.CAGE_TWI_GO 1).setPort (Page.pcs g) { d.port (Page.pcs g) with
          run := some { req := req, word := (d.rd (Page.pcs g + Reg.CAGE_TWI_GO.off)).toNat, buf := [] } }).emit
          (.twi g 0xA0 (d.fbit (Page.pcs g) Reg.CAGE_TWI_RD) (d.fget (Page.pcs g) Reg.CAGE_TWI_ADDR)
            (d.fget (Page.pcs g) Reg.CAGE_TWI_WDATA))
      else d.accessFault (Page.pcs g) := by
  cases haccepts : d.accepts (Page.pcs g) <;>
    simp only [Dev.startTwi, hfree, haccepts, Bool.not_true, Bool.not_false, Bool.false_eq_true, if_false, if_true]

section
variable {d d1 : Dev} {g : Nat} {o : PortOp} (hgo : d.fbit (Page.pcs g) Reg.CAGE_TWI_GO = true)
  (hended : (d.fset (Page.pcs g) Reg.CAGE_TWI_GO 0).setPort (Page.pcs g) { d.port (Page.pcs g) with run := none } = d1)
include hgo hended

theorem Dev.endTwi_of_nack :
    d.endTwi g none =
      ((d1.fset (Page.pcs g) Reg.CAGE_TWI_STAT_NACK 1).latchFault (Page.pcs g) FaultBit.pcs_TWI_NACK).pulse 125 := by
  simp only [Dev.endTwi, hgo, hended, Bool.not_true, Bool.false_eq_true, if_false]

theorem Dev.endTwi_of_answer (data : BitVec 8) (hrun : (d.port (Page.pcs g)).run = some o) :
    d.endTwi g (some data) = (if bitAt o.word Reg.CAGE_TWI_RD.lo
      then (d1.fset (Page.pcs g) Reg.CAGE_TWI_STAT_NACK 0).fset (Page.pcs g) Reg.CAGE_TWI_STAT_RDATA data.toNat
      else d1.fset (Page.pcs g) Reg.CAGE_TWI_STAT_NACK 0).pulse 125 := by
  simp only [Dev.endTwi, hgo, hended, hrun, Option.map_some, Option.getD_some, Bool.not_true, Bool.false_eq_true, if_false]

end

/-! ## The commands -/

/-- Settles O43: a link by the state it is in, a write of PCS_MODE and a GO by their page being reached, and a cage by what of it
changed. -/
theorem macLinkCommands : Obligations.MacLinkCommands := by
  unfold Obligations.MacLinkCommands
  refine ⟨?lockLoss, ?lockAcquire, ?upHold, ?faultSequence, ?fecWindow, ?pcsMode, ?retuned, ?twiStart, ?twiDone, ?presence,
    ?moduleInterrupt, ?supplyFault⟩
  case lockLoss =>
    rintro s m lost dark _ hm rfl
    exact congrArg s.become (if_pos hm)
  case lockAcquire =>
    rintro s m snr _ hm rfl
    exact congrArg s.become (if_pos hm)
  case upHold =>
    intro s m hm hwaits hlock hquiet
    exact execUpHoldExpiry_of_held hm hwaits hlock hquiet
  case faultSequence =>
    rintro s m lf rf _ hm rfl
    exact execFaultSequenceReceive_of_mac s lf rf hm
  case fecWindow =>
    intro s m cor unc sym hm
    exact congrArg s.become (if_pos hm)
  case pcsMode =>
    intro s req g mode hg hreach hawake
    exact congrArg s.become ((if_pos hg).trans (Dev.onWrite_of_reached _ hreach hawake))
  case retuned =>
    intro s g hg hbusy
    exact congrArg s.become ((if_pos hg).trans (Dev.retuneDone_of_busy hbusy))
  case twiStart =>
    intro s req g hg hreach hfree hawake
    exact congrArg s.become
      ((if_pos hg).trans ((Dev.onWrite_of_reached _ hreach hawake).trans (Dev.startTwi_of_free req hfree)))
  case twiDone =>
    intro s g data o d hg hgo hrun hended
    exact ⟨congrArg s.become ((if_pos hg).trans (Dev.endTwi_of_nack hgo hended)),
      congrArg s.become ((if_pos hg).trans (Dev.endTwi_of_answer hgo hended data hrun))⟩
  case presence =>
    intro s g p hg hchanged
    exact congrArg s.become ((if_pos hg).trans (if_neg hchanged))
  case moduleInterrupt =>
    intro s g level hg
    exact congrArg s.become (if_pos hg)
  case supplyFault =>
    intro s g hg
    exact congrArg s.become (if_pos hg)

end Sys2Proof.Machine

/-!
Transmission at a MAC (R253, R258-R260, R263, R264): the flow control it sends, the start and the ends of a frame, and the
registers that show its counters and times.
-/

namespace Sys2Proof.Machine

/-! ## Flow control sent (R258) -/

section
variable {d : Dev} {m : Nat} (hboundary : d.atBoundary m = true)
include hboundary

theorem Dev.sendFlowControl_of_pause (hmode : d.fget (Page.mac m) Reg.MAC_CFG_FC_MODE = 1) (hdue : d.flowDue m 8 = true) :
    d.sendFlowControl m = (d.tell m 8 (d.anyXoff m)).sendControl m
      (d.pauseFrame m (if d.anyXoff m then d.fget (Page.mac m) Reg.MAC_FC_TX_QUANTA else 0)) := by
  simp only [Dev.sendFlowControl, hboundary, hmode, hdue, Bool.not_true, Bool.false_eq_true, OfNat.one_ne_ofNat, and_self, if_false,
    if_true]

theorem Dev.sendFlowControl_of_pfc {p : Nat} (hmode : d.fget (Page.mac m) Reg.MAC_CFG_FC_MODE = 2)
    (hfirst : (List.range 8).find? (d.flowDue m) = some p) :
    d.sendFlowControl m = (d.tell m p (d.xoffOf (poolIndex m p))).sendControl m
      (d.pfcFrame m p (if d.xoffOf (poolIndex m p) then d.fget (Page.mac m) Reg.MAC_FC_TX_QUANTA else 0)) := by
  simp only [Dev.sendFlowControl, hboundary, hmode, hfirst, Bool.not_true, Bool.false_eq_true, if_false, if_true]

end

theorem Dev.refreshPfc_of_held {d : Dev} {m p : Nat} (hmay : d.mayTransmit m = true)
    (hmode : d.fget (Page.mac m) Reg.MAC_CFG_FC_MODE = 2) (hp : p < 8) (htold : bitAt (d.macOf m).told p = true)
    (hxoff : d.xoffOf (poolIndex m p) = true) : d.refreshPfc m p = d.dueRefresh m p := by
  simp only [Dev.refreshPfc, hmay, hmode, hp, htold, hxoff, Bool.not_true, Bool.false_eq_true, and_self, if_false, if_true]

/-! ## The start of a frame (R253, R259, R264) -/

/-- A copy that bears no one-step timestamp is sent with the transmit tags, unless the MACsec engine made the frame, with padding
and FCS. -/
theorem Dev.startTransmit_of_plain {d0 d : Dev} {m n : Nat} {c : Copy} {bs : List Byte} (hflushed : d0.flushFlowControl m = d)
    (hslot : (d.macOf m).slot = some n) (hidle : (d.macOf m).sending = none) (hmay : d.mayTransmit m = true)
    (hruns : d.copyStopped m n = false) (hcopy : d.copy n = some c) (hplain : c.oneStep = false)
    (hframe : padFrame (if c.macsec then c.frame else d.txTags m c.frame) = bs)
    (hmax : bs.length + 4 ≤ d.fget (Page.mac m) Reg.MAC_MAX_FRAME_BYTES) :
    d0.startTransmit m = d.setMac m { d.macOf m with
      sending := some (bs ++ fcsOf bs), txTime := d.stampTime (d.fget (Page.mac m) Reg.MAC_TS_TX_ADJ_ADJ), missed := false } := by
  simp only [Dev.startTransmit, hflushed, hslot, hidle, hmay, hruns, hcopy, hplain, hframe, hmax.not_gt, Option.isSome_none,
    Bool.not_true, Bool.false_and, Bool.false_eq_true, or_false, false_and, if_false, Option.getD_none]

/-! ## The ends of a frame (R259-R261, R263) -/

theorem Dev.underrun_of_long {d d1 : Dev} {m n p cur ceil : Nat} {bs : List Byte} (hsending : (d.macOf m).sending = some bs)
    (hslot : (d.macOf m).slot = some n) (hplain : ((d.copy n).map Copy.oneStep).getD false = false)
    (hcur : d.fget (Page.mac m) Reg.MAC_TX_START_CUR_BYTES = cur)
    (hceil : d.fget (Page.mac m) Reg.MAC_TX_START_CEIL_BYTES = ceil) (hlong : cur < bs.length) (hfresh : d.fresh = (p, d1)) :
    d.underrun m = (((((((d1.countMac m 0x1A).count (Page.mac m) Reg.MAC_UNDERRUN_CNT_CNT).fset (Page.mac m)
      Reg.MAC_TX_START_CUR_BYTES (if ceil ≤ cur then cur else min (cur + 256) ceil)).emit
      (.wire m (bs.take (p % bs.length) ++ (fcsOf (bs.take (p % bs.length))).map (fun b => ~~~b)) false)).endCopy n none).latchFault
      (Page.mac m) FaultBit.mac_TX_UNDERRUN).pulse 117).frameBoundary m := by
  simp only [Dev.underrun, hsending, hslot, hplain, hcur, hceil, hlong.not_ge, hfresh, Bool.false_eq_true, or_self, if_false]

theorem Dev.endTransmit_of_copy {d : Dev} {m n : Nat} {bs : List Byte} {c : Copy} (hsending : (d.macOf m).sending = some bs)
    (hslot : (d.macOf m).slot = some n) (hcopy : d.copy n = some c) :
    d.endTransmit m = (((((((((if (d.macOf m).missed then d.countMac m 0x22 else d).countMac m 0x18).countMac m 0x19
      bs.length).countTxWire (d.packet c.packet).stamp bs.length).countTc m c.tc 1).wcount (Page.sch m) (0x20 + c.tc)
      bs.length).recordTime m c).emit (.wire m bs true)).endCopy n none).frameBoundary m := by
  simp only [Dev.endTransmit, hsending, hslot, hcopy]

/-! ## Snapshots and timestamps (R260, R263) -/

theorem Dev.snapshotAll_eq (d : Dev) :
    d.snapshotAll =
      if d.accepts Page.macg then (((List.range 16).foldl Dev.snapshotMac d).count Page.macg Reg.MACG_SNAP_SEQ).pulse 118
      else d.accessFault Page.macg := by
  cases haccepts : d.accepts Page.macg <;>
    simp only [Dev.snapshotAll, haccepts, Bool.not_true, Bool.not_false, Bool.false_eq_true, if_false, if_true]

theorem Dev.captureStamp_of_head {d : Dev} {m tag sec ns frac : Nat} {rest : List (Nat × Nat × Nat × Nat)}
    (hstamps : ((d.wmbSelect (Page.mac m) 0x30).macOf m).stamps = (tag, sec, ns, frac) :: rest) :
    d.captureStamp m = ((d.wmbSelect (Page.mac m) 0x30).setStamps m rest).wmbAnswer (Page.mac m)
      (tag + 2 ^ 16 + frac * 2 ^ 32 + ns * 2 ^ 48 + sec * 2 ^ 80) := by
  simp only [Dev.captureStamp, hstamps]

/-! ## The commands -/

/-- Settles O44: a flow-control frame by the mode and what is due, a frame by its copy, and the writes of registers by their page
being reached. -/
theorem macTransmitCommands : Obligations.MacTransmitCommands := by
  unfold Obligations.MacTransmitCommands
  refine ⟨?pauseSend, ?pfcSend, ?pfcRefresh, ?start, ?underrun, ?ended, ?snapshot, ?snapshotAll, ?capture, ?txBase⟩
  case pauseSend =>
    intro s m hm hboundary hmode hdue
    exact congrArg s.become ((if_pos hm).trans (Dev.sendFlowControl_of_pause hboundary hmode hdue))
  case pfcSend =>
    intro s m p hm hboundary hmode hfirst
    exact congrArg s.become ((if_pos hm).trans (Dev.sendFlowControl_of_pfc hboundary hmode hfirst))
  case pfcRefresh =>
    intro s m p hm hmay hmode hp htold hxoff
    exact congrArg s.become ((if_pos hm).trans (Dev.refreshPfc_of_held hmay hmode hp htold hxoff))
  case start =>
    intro s m n c bs d hm hflushed hslot hidle hmay hruns hcopy hplain hframe hmax
    exact congrArg s.become
      ((if_pos hm).trans (Dev.startTransmit_of_plain hflushed hslot hidle hmay hruns hcopy hplain hframe hmax))
  case underrun =>
    intro s m n bs p cur ceil d hm hsending hslot hplain hcur hceil hlong hfresh
    exact congrArg s.become ((if_pos hm).trans (Dev.underrun_of_long hsending hslot hplain hcur hceil hlong hfresh))
  case ended =>
    intro s m n bs c hm hsending hslot hcopy
    exact congrArg s.become ((if_pos hm).trans (Dev.endTransmit_of_copy hsending hslot hcopy))
  case snapshot =>
    intro s req m hm hreach hawake
    exact congrArg s.become ((if_pos hm).trans (Dev.onWrite_of_reached _ hreach hawake))
  case snapshotAll =>
    intro s req hreach hawake
    exact congrArg s.become ((Dev.onWrite_of_reached _ hreach hawake).trans s.dev.snapshotAll_eq)
  case capture =>
    intro s req m tag sec ns frac rest hm hreach hstamps hawake
    exact congrArg s.become
      ((if_pos hm).trans ((Dev.onWrite_of_reached _ hreach hawake).trans (Dev.captureStamp_of_head hstamps)))
  case txBase =>
    intro s req m v hm hreach hawake
    exact congrArg s.become ((if_pos hm).trans (Dev.onWrite_of_reached _ hreach hawake))

end Sys2Proof.Machine

/-!
The canonical form of the four memories (R107, R290, R341, log entry 6): commands and the passing of time keep it.
-/

namespace Sys2Proof.Machine

/-- A command that writes a memory keeps the form by its own lemma, every other one by leaving the memories alone. -/
theorem exec_memoryWf {c : Instr} {s t : State} (w : s.dev.memoryWf = true) (h : exec c s = .next t) : t.dev.memoryWf = true := by
  cases c with
  | registerWrite => exact execRegisterWrite_mem w h
  | broadcastWrite => exact execBroadcastWrite_mem w h
  | ageRefresh => exact execAgeRefresh_mem w h
  | insert => exact execInsert_mem w h
  | insertNoevict => exact execInsertNoevict_mem w h
  | delete => exact execDelete_mem w h
  | clearSlot => exact execClearSlot_mem w h
  | learnExecute => exact execLearnExecute_mem w h
  | compareAndClear => exact execCompareAndClear_mem w h
  | notificationRecordWrite => exact execNotificationRecordWrite_mem w h
  | meterUpdate => exact execMeterUpdate_mem w h
  | counterUpdate => exact execCounterUpdate_mem w h
  | traceRecordWrite => exact execTraceRecordWrite_mem w h
  | cntReadClear => exact execCntReadClear_mem w h
  | cntPreset => exact execCntPreset_mem w h
  | meterWrite => exact execMeterWrite_mem w h
  | meterDisable => exact execMeterDisable_mem w h
  | lehrJobSubmit => exact execLehrJobSubmit_mem w h
  | lehrJobEnd => exact execLehrJobEnd_mem w h
  | keyUnwrap => exact execKeyUnwrap_mem w h
  | install => exact execInstall_mem w h
  | slotZeroise => exact execSlotZeroise_mem w h
  | sxpPrecheck => exact execSxpPrecheck_mem w h
  | sxpPostcheck => exact execSxpPostcheck_mem w h
  | sxpWrite => exact execSxpWrite_mem w h
  | sxpDisable => exact execSxpDisable_mem w h
  | sxpRoll => exact execSxpRoll_mem w h
  | wireCommandIssue => exact execWireCommandIssue_mem w h
  | c2hdataReceive => exact execC2hdataReceive_mem w h
  | capsuleRespReceive => exact execCapsuleRespReceive_mem w h
  | readyToTransferReceive => exact execReadyToTransferReceive_mem w h
  | c2htermreqReceive => exact execC2htermreqReceive_mem w h
  | icrespReceive => exact execIcrespReceive_mem w h
  | synAckReceive => exact execSynAckReceive_mem w h
  | tcpRstReceive => exact execTcpRstReceive_mem w h
  | tcpSegmentReceive => exact execTcpSegmentReceive_mem w h
  | retransmissionTimeout => exact execRetransmissionTimeout_mem w h
  | cmdTimeout => exact execCmdTimeout_mem w h
  | volWrite => exact execVolWrite_mem w h
  | volDisable => exact execVolDisable_mem w h
  | stoVolBindKey => exact execStoVolBindKey_mem w h
  | sesWrite => exact execSesWrite_mem w h
  | sesOpen => exact execSesOpen_mem w h
  | sesGo => exact execSesGo_mem w h
  | sesClose => exact execSesClose_mem w h
  | sesReset => exact execSesReset_mem w h
  | sessionDrained => exact execSessionDrained_mem w h
  | linkDown => exact execLinkDown_mem w h
  | functionLevelReset => exact execFunctionLevelReset_mem w h
  | prgResponse => exact execPrgResponse_mem w h
  | pageRequestTimeout => exact execPageRequestTimeout_mem w h
  | readCompletionReceive => exact execReadCompletionReceive_mem w h
  | completionTimeout => exact execCompletionTimeout_mem w h
  | sliceWindowAccess => exact execSliceWindowAccess_mem w h
  | ideIntegrityFailure => exact execIdeIntegrityFailure_mem w h
  | lockInterfaceRequest => exact execLockInterfaceRequest_mem w h
  | slcDestroy => exact execSlcDestroy_mem w h
  | queCreate => exact execQueCreate_mem w h
  | queModify => exact execQueModify_mem w h
  | queDestroy => exact execQueDestroy_mem w h
  | sqPiDoorbell => exact execSqPiDoorbell_mem w h
  | cqCiDoorbell => exact execCqCiDoorbell_mem w h
  | queueStart => exact execQueueStart_mem w h
  | queueStop => exact execQueueStop_mem w h
  | queueReset => exact execQueueReset_mem w h
  | queueResume => exact execQueueResume_mem w h
  | entryFetch => exact execEntryFetch_mem w h
  | send => exact execSend_mem w h
  | completionWrite => exact execCompletionWrite_mem w h
  | framePlacement => exact execFramePlacement_mem w h
  | rxHoldExpiry => exact execRxHoldExpiry_mem w h
  | burstIssue => exact execBurstIssue_mem w h
  | fence => exact execFence_mem w h
  | sliceDestroy => exact execSliceDestroy_mem w h
  | move => exact execMove_mem w h
  | fwReady => exact execFwReady_mem w h
  | keyInstall => exact execKeyInstall_mem w h
  | saWrite => exact execSaWrite_mem w h
  | saDisable => exact execSaDisable_mem w h
  | saRoll => exact execSaRoll_mem w h
  | volBindKey => exact execVolBindKey_mem w h
  | queueOp => exact execQueueOp_mem w h
  | sesCtl => exact execSesCtl_mem w h
  | bootStageEnd => exact execBootStageEnd_mem w h
  | standbyEntryComplete => exact execStandbyEntryComplete_mem w h
  | auxPowerLoss => exact execAuxPowerLoss_mem w h
  | perstAssert => exact execPerstAssert_mem w h
  | deviceReset => exact execDeviceReset_mem w h
  | hostPortReset => exact execHostPortReset_mem w h
  | logicParityFault => exact execLogicParityFault_mem w h
  | crossingParityError => exact execCrossingParityError_mem w h
  | startInterfaceRequest => exact execStartInterfaceRequest_mem w h
  | stopInterfaceRequest => exact execStopInterfaceRequest_mem w h
  | busHoldUpExpiry => exact execBusHoldUpExpiry_mem w h  | _ => exact exec_mem_of_parts w h rfl

/-- A nanosecond writes no memory. -/
theorem Dev.advance_memoryWf (d : Dev) : d.advance.memoryWf = d.memoryWf := by
  rw [← Dev.memoryWf_mask, Dev.advance_mask (by decide), Dev.memoryWf_mask]

/-- Settles O7: a step is a nanosecond or the command at the front of the queue, and each of them keeps the form. -/
theorem memoriesStayCanonical : Obligations.MemoriesStayCanonical := by
  unfold Obligations.MemoriesStayCanonical
  intro s t w h
  cases hqueue : s.pending with
  | nil =>
    rw [step_idle hqueue] at h
    cases h
    exact s.dev.advance_memoryWf.trans w
  | cons c rest =>
    have hexec : exec c { s with pending := rest } = .next t := by
      simpa only [step, hqueue] using h
    exact exec_memoryWf (s := { s with pending := rest }) w hexec

end Sys2Proof.Machine

/-!
The host link (R277, R282, R283, R286, R295, R296): links, functions, MSI-X masks, translations, page requests and completions.
-/

namespace Sys2Proof.Machine

/-! ## Links and functions (R277, R296) -/

theorem Dev.linkUp_of_good {d : Dev} {n speed width : Nat} {flit : Bool} (hexists : d.portExists n = true)
    (hdown : (d.hostPort n).linkUp = false) (hperst : bitAt d.pwr.perst n = false) (hpower : d.domainOn 2 = true)
    (hgood : d.linkGood speed width flit = true) :
    d.linkUp n speed width flit = (d.setHostPort n { d.hostPort n with
      linkUp := true, l1 := false, speed := speed, width := width, flit := flit }).pulse 66 :=
  if_neg (by simp [hexists, hdown, hperst, hpower, hgood])

theorem Dev.linkDown_of_up {d : Dev} {n : Nat} (hup : (d.hostPort n).linkUp = true) :
    d.linkDown n = ((d.dropLink n).latchFault (Page.hif n) FaultBit.hif_LINK_LOST).pulse 66 :=
  if_pos hup

theorem Dev.resetFunction_of_up {d : Dev} {n pf : Nat} (hexists : d.portExists n = true) (hpf : pf < 2)
    (hup : (d.hostPort n).linkUp = true) :
    d.resetFunction n pf =
      let d1 := d.setHostPort n ((d.hostPort n).resetFunction pf)
      ((d1.haltQueues (fun q => d1.qPort q == n && (d1.qManager q == (pf == 0)))).latchFault (Page.hif n)
        FaultBit.hif_FLR).pulse (72 + pf) :=
  if_neg (by simp [hexists, hup, Nat.le_of_lt_succ hpf])

theorem Dev.setD3_of_function {d : Dev} {n pf : Nat} (d3 : Bool) (hexists : d.portExists n = true) (hpf : pf < 2) :
    d.setD3 n pf d3 = d.modFn n pf (fun f => { f with d3 := d3 }) :=
  if_neg (by simp [hexists, Nat.le_of_lt_succ hpf])

/-! ## Translations (R282) -/

theorem Dev.invalidate_of_up {d : Dev} {n : Nat} (v : Invalidation) (hup : (d.hostPort n).linkUp = true) :
    d.invalidate n v = ((d.setHostPort n { d.hostPort n with
      atc := (d.hostPort n).atc.filter (fun t => !v.covers t)
      invalidations := (d.hostPort n).invalidations ++ [{ v with reads := d.readsUnder n v }] }).count (Page.hif n)
        Reg.HIF_ATS_INV_CNT_CNT).pulse 69 :=
  if_neg (by simp [hup])

theorem Dev.completeInvalidation_of_drained {d : Dev} {n : Nat} {v : Invalidation} {rest : List Invalidation}
    (holdest : (d.hostPort n).invalidations = v :: rest)
    (hdrained : v.reads.any (fun r => d.readOpen n r.1 && d.readMark r.1 == r.2) = false) :
    d.completeInvalidation n = (d.setHostPort n { d.hostPort n with invalidations := rest }).emit (.pcie 2 n v.page) := by
  simp only [Dev.completeInvalidation, holdest, hdrained, Bool.false_eq_true, if_false]

/-! ## Page requests (R283) -/

section
variable {d d1 : Dev} {n group : Nat} {t : ReadTarget} (hgroup : d.takeGroup n group = some (t, d1))
include hgroup

theorem Dev.groupResponse_of_success : d.groupResponse n group true = d1 := by
  simp only [Dev.groupResponse, hgroup, if_true]

theorem Dev.groupResponse_of_failure :
    d.groupResponse n group false = ((d1.failTarget t QErr.fetchAccess Code.access MoverErr.hostAccess).count (Page.hif n)
      Reg.HIF_PRI_FAIL_CNT_CNT).pulse 70 := by
  simp only [Dev.groupResponse, hgroup, Bool.false_eq_true, if_false, Dev.pageFailed]

theorem Dev.groupTimeout_of_group :
    d.groupTimeout n group = ((d1.failTarget t QErr.fetchTimeout Code.timeout MoverErr.hostTimeout).count (Page.hif n)
      Reg.HIF_PRI_FAIL_CNT_CNT).pulse 70 := by
  simp only [Dev.groupTimeout, hgroup, Dev.pageFailed]

end

/-! ## Completions of reads (R295) -/

section
variable {d : Dev} {n : Nat} {t : ReadTarget} (hopen : d.readOpen n t = true)
include hopen

theorem Dev.readTimeout_of_open :
    d.readTimeout n t =
      (d.failTarget t QErr.fetchTimeout Code.timeout MoverErr.hostTimeout).noteTimeout n (d.readAttr t).pf :=
  if_pos hopen

theorem Dev.readCompletion_of_poisoned :
    d.readCompletion n t .poisoned =
      (d.failTarget t QErr.fetchPoison Code.fault MoverErr.hostPoison).notePoison n (d.readAttr t).pf :=
  if_neg (by simp [hopen])

end

theorem Dev.readCompletion_fetch_of_open {d : Dev} {n q : Nat} (hopen : d.readOpen n (.fetch q) = true) :
    d.readCompletion n (.fetch q) .data = d.fetchEntry q .data :=
  if_neg (by simp [hopen])

theorem Dev.readCompletion_mover_of_open {d : Dev} {n m : Nat} (hopen : d.readOpen n (.mover m) = true) :
    d.readCompletion n (.mover m) .data = d.issueBurst m true .data :=
  if_neg (by simp [hopen])

/-! ## MSI-X masks (R286) -/

theorem Dev.msixUnmask_vector (d : Dev) (n : Nat) {v : Nat} (hv : v < 2048) :
    d.msixUnmask n (some v) =
      (d.setHostPort n ((d.hostPort n).setMsix v { (d.hostPort n).msixEntry v with masked := false })).msixFlush n v :=
  if_pos hv

/-! ## The commands -/

/-- Settles O45: a link and a function by their port, an invalidation (its range by log entry 117) by the reads issued under it, a
page request by its group, and a completion by the read being outstanding. -/
theorem linkAndTranslationCommands : Obligations.LinkAndTranslationCommands := by
  unfold Obligations.LinkAndTranslationCommands
  refine ⟨?up, ?down, ?functionReset, ?powerState, ?invalidation, ?invalidated, ?pageResponse, ?timeout, ?fetched, ?moved,
    ?unmask⟩
  case up =>
    intro s port speed width flit hexists hdown hperst hpower hgood
    exact congrArg s.become (Dev.linkUp_of_good hexists hdown hperst hpower hgood)
  case down =>
    intro s port hup
    exact congrArg s.become (Dev.linkDown_of_up hup)
  case functionReset =>
    intro s port pf hexists hpf hup
    exact congrArg s.become (Dev.resetFunction_of_up hexists hpf hup)
  case powerState =>
    intro s port d3 hexists
    exact ⟨congrArg s.become (Dev.setD3_of_function d3 hexists (by decide)),
      congrArg s.become (Dev.setD3_of_function d3 hexists (by decide))⟩
  case invalidation =>
    rintro s port pf pasid range _ hup rfl
    exact congrArg s.become (Dev.invalidate_of_up _ hup)
  case invalidated =>
    intro s port v rest holdest hdrained
    exact congrArg s.become (Dev.completeInvalidation_of_drained holdest hdrained)
  case pageResponse =>
    intro s port group t d hgroup
    exact ⟨congrArg s.become (Dev.groupResponse_of_success hgroup),
      congrArg s.become (Dev.groupResponse_of_failure hgroup),
      congrArg s.become (Dev.groupTimeout_of_group hgroup)⟩
  case timeout =>
    intro s port target hopen
    exact congrArg s.become (Dev.readTimeout_of_open hopen)
  case fetched =>
    intro s port q hopen
    exact congrArg s.become (Dev.readCompletion_fetch_of_open hopen)
  case moved =>
    intro s port m hopen
    exact ⟨congrArg s.become (Dev.readCompletion_mover_of_open hopen),
      congrArg s.become (Dev.readCompletion_of_poisoned hopen)⟩
  case unmask =>
    intro s port v hexists hv
    exact ⟨congrArg s.become ((if_pos hexists).trans (s.dev.msixUnmask_vector port hv)),
      congrArg s.become (if_pos hexists)⟩

end Sys2Proof.Machine

/-!
Slice interrupt entries (R288, R289), slice windows (R278, R279), IDE streams (R284) and the TDI (R285, R310).
-/

namespace Sys2Proof.Machine

/-! ## Slice interrupt entries (R288, R289) -/

/-- An operation on an entry of an ACTIVE slice of the port, unlocked unless the operation is READ, is answered OK. -/
theorem Dev.sitOp_of_allowed {d : Dev} {port op n e : Nat} {o : PortOp} (f : Dev → Nat → Nat → List Word → Dev)
    (hrun : d.portRunning (portSit port) op = some o) (hslice : bits (wordAt o.buf 0) 4 12 = n)
    (hentry : bits (wordAt o.buf 0) 0 4 = e) (hactive : (d.slice n).state = .active) (hport : (d.slice n).hostPort = port)
    (hunlocked : (d.slice n).isLocked = false ∨ op = 3) :
    d.sitOp port op f = (f d n e o.buf).portEnd (portSit port) Code.ok := by
  have hmay : ¬((d.slice n).state ≠ .active ∨ (d.slice n).hostPort ≠ port) := by simp [hactive, hport]
  have hopen : ¬((d.slice n).isLocked = true ∧ op ≠ 3) := by
    rintro ⟨hlocked, hop⟩
    rcases hunlocked with hfalse | hread
    · exact Bool.false_ne_true (hfalse.symm.trans hlocked)
    · exact hop hread
  refine Dev.portExec_of_running hrun ?_
  simp only [hslice, hentry]
  rw [if_neg hmay, if_neg hopen]

theorem Dev.sliceInterrupt_of_deliverable {d : Dev} {n e stamp : Nat} (hvalid : (d.sitEntry n e).valid = true)
    (hcurrent : d.deliverable n (d.sitEntry n e).incarnation (some (n, stamp)) = true) :
    d.sliceInterrupt n e stamp =
      if (d.sitEntry n e).mask then d.setSit n e { d.sitEntry n e with pending := true } else d.sitSend n (d.sitEntry n e) := by
  simp only [Dev.sliceInterrupt, hvalid, hcurrent, Bool.not_true, Bool.false_eq_true, if_false]

theorem Dev.sitMask_eq (d : Dev) (n e : Nat) (mask : Bool) :
    d.sitMask n e mask =
      if mask = false ∧ (d.sitEntry n e).pending then
        (d.setSit n e { d.sitEntry n e with mask := false, pending := false }).sitSend n (d.sitEntry n e)
      else d.setSit n e { d.sitEntry n e with mask := mask } := by
  simp only [Dev.sitMask, Bool.not_eq_true']

/-! ## Slice windows (R278, R279) -/

/-- What the fourth row of the table does before a read is answered (R279). -/
def Dev.windowRejected (d : Dev) (port n off rid : Nat) (write : Bool) : Dev :=
  (((d.count (Page.hif port) Reg.HIF_TEE_REJ_CNT_CNT).confRefused n).pulse 71).aerError port 1 AerBit.unsupported (!write)
    [n * 0x10000 + off, rid]

section
variable {d : Dev} {port n off rid : Nat} {stream : Option Nat} {tbit : Bool} (write : Bool) (w m : Nat)
  (hready : d.fnReady port 1 = true) (hsecure : d.onInsecure port stream = false) (hn : n < 4096) (hoff : off < 0x10000)
include hready hsecure hn hoff

/-- Nothing keeps the access from the window's page. -/
theorem Dev.windowAccess_not_dropped :
    ¬((!d.fnReady port 1) = true ∨ d.onInsecure port stream = true ∨ 4095 < n ∨ 0xFFFF < off) := by
  simp [hready, hsecure, Nat.le_of_lt_succ hn, Nat.le_of_lt_succ hoff]

theorem Dev.windowAccess_of_applied (houtcome : d.windowOutcome port n rid stream tbit = 0) :
    d.windowAccess port n off rid write w m stream tbit =
      if write then d.windowWrite port n (off / 4 * 4) rid w m else d.windowRead port n (off / 4 * 4) rid m := by
  rw [Dev.windowAccess, if_neg (Dev.windowAccess_not_dropped hready hsecure hn hoff)]
  simp only [houtcome]

theorem Dev.windowAccess_of_unsupported (houtcome : d.windowOutcome port n rid stream tbit = 1) :
    d.windowAccess port n off rid write w m stream tbit =
      if write then d.count (Page.hif port) Reg.HIF_UR_CNT_CNT
      else (d.count (Page.hif port) Reg.HIF_UR_CNT_CNT).emit (.readData 0#32) := by
  rw [Dev.windowAccess, if_neg (Dev.windowAccess_not_dropped hready hsecure hn hoff)]
  simp only [houtcome]

theorem Dev.windowAccess_of_rejected (houtcome : d.windowOutcome port n rid stream tbit = 2) :
    d.windowAccess port n off rid write w m stream tbit =
      if write then d.windowRejected port n off rid write else (d.windowRejected port n off rid write).emit .unsupported := by
  rw [Dev.windowAccess, if_neg (Dev.windowAccess_not_dropped hready hsecure hn hoff)]
  simp only [houtcome, Dev.windowRejected]

end

/-! ## IDE streams (R284) -/

theorem Dev.ideFailure_of_secure {d : Dev} {port stream : Nat} (hsecure : (d.hostPort port).ideState stream = .secure) :
    d.ideFailure port stream =
      let d1 := ((d.setHostPort port ((d.hostPort port).setIde stream .insecure)).latchFault (Page.hif port)
        FaultBit.hif_IDE_ERR).pulse 74
      (d1.slices.map (·.1)).foldl (fun (d : Dev) s =>
        if (d.slice s).hostPort = port ∧ (d.slice s).isLocked ∧ (d.slice s).stream = some stream then d.setTdi s .error true
        else d) d1 :=
  if_neg (not_not_intro hsecure)

section
variable {d : Dev} {ses port stream : Nat} (hsession : d.doeSession ses port = true) (hstream : stream ≤ 8)
include hsession hstream

theorem Dev.ideKm_keys :
    d.ideKm ses port stream false =
      (d.setHostPort port ((d.hostPort port).setIde stream .keyed)).emit (.spdm (.pf0 port) 0x03 []) := by
  simp only [Dev.ideKm, hsession, hstream.not_gt, Bool.not_true, Bool.false_eq_true, or_self, if_false]

theorem Dev.ideKm_activates (hkeyed : (d.hostPort port).ideState stream = .keyed) :
    d.ideKm ses port stream true =
      (d.setHostPort port ((d.hostPort port).setIde stream .secure)).emit (.spdm (.pf0 port) 0x06 []) := by
  simp only [Dev.ideKm, hsession, hstream.not_gt, hkeyed, Bool.not_true, Bool.false_eq_true, or_self, if_false, if_true]

end

/-! ## The TDI (R285, R310) -/

theorem Dev.lockInterface_of_ready {d : Dev} {n stream : Nat} (hunlocked : (d.slice n).tdi = .unlocked)
    (hactive : (d.slice n).state = .active) (hconf : bitAt ((d.slice n).word 0) 30 = true) (hidle : d.queuesIdle n = true)
    (hkeys : (d.slice n).keyUsed = 0) (htransport : d.ownsTransport n = false) (hlo : 1 ≤ stream) (hhi : stream ≤ 8) :
    d.lockInterface n stream =
      ((d.setSlice n { d.slice n with stream := some stream }).setTdi n .locked true).emit
        (.spdm (d.tdispVia n) tdispLock []) :=
  if_pos ⟨hunlocked, hactive, hconf, hidle, hkeys, by rw [htransport]; rfl, hlo, hhi⟩

theorem Dev.startInterface_of_locked {d : Dev} {n : Nat} (hlocked : (d.slice n).tdi = .locked) :
    d.startInterface n = (d.setTdi n .run true).emit (.spdm (d.tdispVia n) tdispStart []) :=
  if_pos hlocked

theorem Dev.stopInterface_of_active {d : Dev} {n : Nat} (hactive : (d.slice n).state = .active) :
    d.stopInterface n = (d.setTdi n .unlocked true).emit (.spdm (d.tdispVia n) tdispStop []) :=
  congrArg (Dev.emit · _) (if_pos hactive)

/-! ## The commands -/

/-- Settles O46: an operation on an entry by its slice, a window access by its outcome (log entry 34), a stream by its state, and
the TDI by the slice's. -/
theorem sliceWindowCommands : Obligations.SliceWindowCommands := by
  unfold Obligations.SliceWindowCommands
  refine ⟨?sitWrite, ?sitClear, ?sitRead, ?raise, ?mask, ?applied, ?unsupported, ?rejected, ?ideFailure, ?lock, ?start, ?stop,
    ?key, ?activate⟩
  case sitWrite =>
    intro s port o hrun hactive hport hunlocked
    exact congrArg s.become (Dev.sitOp_of_allowed _ hrun rfl rfl hactive hport (.inl hunlocked))
  case sitClear =>
    intro s port n e o hrun hslice hentry hactive hport hunlocked
    exact congrArg s.become (Dev.sitOp_of_allowed _ hrun hslice hentry hactive hport (.inl hunlocked))
  case sitRead =>
    intro s port n e o hrun hslice hentry hactive hport
    exact congrArg s.become (Dev.sitOp_of_allowed _ hrun hslice hentry hactive hport (.inr rfl))
  case raise =>
    intro s n e stamp hn he hvalid hcurrent
    exact congrArg s.become ((if_pos ⟨hn, he⟩).trans (Dev.sliceInterrupt_of_deliverable hvalid hcurrent))
  case mask =>
    intro s n e mask hn he hactive
    exact congrArg s.become ((if_pos ⟨hn, he, hactive⟩).trans (s.dev.sitMask_eq n e mask))
  case applied =>
    intro s port n off rid value be stream tbit hready hsecure hn hoff houtcome
    exact ⟨congrArg s.become (Dev.windowAccess_of_applied true _ _ hready hsecure hn hoff houtcome),
      congrArg s.become (Dev.windowAccess_of_applied false _ _ hready hsecure hn hoff houtcome)⟩
  case unsupported =>
    intro s port n off rid value be stream tbit hready hsecure hn hoff houtcome
    exact ⟨congrArg s.become (Dev.windowAccess_of_unsupported true _ _ hready hsecure hn hoff houtcome),
      congrArg s.become (Dev.windowAccess_of_unsupported false _ _ hready hsecure hn hoff houtcome)⟩
  case rejected =>
    intro s port n off rid value be stream tbit hready hsecure hn hoff houtcome
    exact ⟨congrArg s.become (Dev.windowAccess_of_rejected true _ _ hready hsecure hn hoff houtcome),
      congrArg s.become (Dev.windowAccess_of_rejected false _ _ hready hsecure hn hoff houtcome)⟩
  case ideFailure =>
    intro s port stream hsecure
    exact congrArg s.become (Dev.ideFailure_of_secure hsecure)
  case lock =>
    intro s n stream hunlocked hactive hconf hidle hkeys htransport hlo hhi
    exact congrArg s.become (Dev.lockInterface_of_ready hunlocked hactive hconf hidle hkeys htransport hlo hhi)
  case start =>
    intro s n hlocked
    exact congrArg s.become (Dev.startInterface_of_locked hlocked)
  case stop =>
    intro s n hactive
    exact congrArg s.become (Dev.stopInterface_of_active hactive)
  case key =>
    intro s session port stream hsession hstream
    exact congrArg s.become (Dev.ideKm_keys hsession hstream)
  case activate =>
    intro s session port stream hsession hstream hkeyed
    exact congrArg s.become (Dev.ideKm_activates hsession hstream hkeyed)

end Sys2Proof.Machine

/-!
Steps of the queue (R116, R389, log entries 1 and 7): what a step does, a queue run to its end, the clock, and the lifecycle
state in the fuses (R374), which no step takes back.
-/

namespace Sys2Proof.Machine

/-! ## The queue (log entry 1) -/

/-- Settles O1: `step` takes the front of the queue. -/
theorem stepRunsTheFrontCommand : Obligations.StepRunsTheFrontCommand := by
  unfold Obligations.StepRunsTheFrontCommand
  exact fun _ _ => rfl

theorem carryOut_cons (c : Instr) (cs : List Instr) (s : State) :
    carryOut (c :: cs) s = carryOut cs { s with dev := effectOf c s.dev } := by
  rw [carryOut, exec_eq_become, State.become_eq]

theorem carryOut_eq_foldl (cs : List Instr) (s : State) :
    carryOut cs s = some { s with dev := cs.foldl (fun d c => effectOf c d) s.dev } := by
  induction cs generalizing s with
  | nil => rfl
  | cons c cs ih => rw [carryOut_cons, ih, List.foldl_cons]

theorem runs_queue (cs rest : List Instr) (d : Dev) :
    runs cs.length { dev := d, pending := cs ++ rest } =
      some { dev := cs.foldl (fun d c => effectOf c d) d, pending := rest } := by
  induction cs generalizing d with
  | nil => rfl
  | cons c cs ih => exact (runs_succ (step_command rfl)).trans (ih _)

/-- Settles O5: both runs end in the fold of the commands' effects, by induction on the list. -/
theorem queueRunsInOrder : Obligations.QueueRunsInOrder := by
  unfold Obligations.QueueRunsInOrder
  exact fun cs rest d => ⟨_, carryOut_eq_foldl cs _, runs_queue cs rest d⟩

/-- A step is a nanosecond, or the command at the front of the queue on the state that waits behind it. -/
theorem step_cases {s t : State} (h : step s = .next t) :
    t.dev = s.dev.advance ∨ ∃ c rest, exec c { s with pending := rest } = .next t := by
  cases hqueue : s.pending with
  | nil =>
    rw [step_idle hqueue] at h
    cases h
    exact .inl rfl
  | cons c rest =>
    refine .inr ⟨c, rest, ?_⟩
    simpa only [step, hqueue] using h

/-! ## Time (R411, R413, log entry 7) -/

/-- A nanosecond first counts itself, and nothing that follows it counts again. -/
theorem Dev.advance_now (d : Dev) : d.advance.now = d.now + 1 := by
  have hmask : d.advance.mask (partSet (partsBut [.now])) = { d with now := d.now + 1 }.mask (partSet (partsBut [.now])) := by
    simp (disch := decide) only [Dev.advance, Dev.countStall_mask, Dev.addCredit_mask, Dev.startBists_mask, Dev.endScans_mask,
      Dev.mask_ite, Dev.captureService_mask, Dev.slowEdge_mask, Dev.tickPtp_mask, ite_self]
  exact Dev.same_of_mask hmask .now (by decide)

theorem commandParts_contains_now (c : Instr) : (commandParts c).contains .now = false := by
  cases c <;> rfl

theorem exec_now {c : Instr} {s t : State} (h : exec c s = .next t) : t.dev.now = s.dev.now :=
  Dev.same_of_parts (exec_frame h).1 .now (by simpa using commandParts_contains_now c)

/-- Settles O2: on an empty queue `step` is `Dev.advance`, which counts one nanosecond. -/
theorem timePassesWhenNothingWaits : Obligations.TimePassesWhenNothingWaits := by
  unfold Obligations.TimePassesWhenNothingWaits
  exact fun d => ⟨step_idle rfl, d.advance_now⟩

/-- Settles O10: a command keeps the clock, a nanosecond moves it on. -/
theorem commandsTakeNoTime : Obligations.CommandsTakeNoTime := by
  unfold Obligations.CommandsTakeNoTime
  refine ⟨fun c s t h => exec_now h, fun s t h => ?_⟩
  rcases step_cases h with hidle | ⟨c, rest, hexec⟩
  · rw [hidle, Dev.advance_now]
    exact Nat.le_succ _
  · exact (exec_now hexec).ge

/-! ## The lifecycle state (R374, R392) -/

/-- A command that changes what Welbor holds keeps the lifecycle state by its own lemma, every other one by leaving it alone. -/
theorem exec_life {c : Instr} {s t : State} {lv : Nat} (w : s.dev.lifeFrom lv = true) (h : exec c s = .next t) :
    t.dev.lifeFrom lv = true := by
  cases c with
  | auxPowerLoss => exact execAuxPowerLoss_life w h
  | auxPowerOn => exact execAuxPowerOn_life w h
  | bootStageEnd => exact execBootStageEnd_life w h
  | broadcastWrite => exact execBroadcastWrite_life w h
  | busHoldUpExpiry => exact execBusHoldUpExpiry_life w h
  | challenge => exact execChallenge_life w h
  | charterHistory => exact execCharterHistory_life w h
  | deviceReset => exact execDeviceReset_life w h
  | endSession => exact execEndSession_life w h
  | finish => exact execFinish_life w h
  | getCapabilities => exact execGetCapabilities_life w h
  | getCertificate => exact execGetCertificate_life w h
  | getDigests => exact execGetDigests_life w h
  | getMeasurements => exact execGetMeasurements_life w h
  | getVersion => exact execGetVersion_life w h
  | heartbeat => exact execHeartbeat_life w h
  | hostPortReset => exact execHostPortReset_life w h
  | keyExchange => exact execKeyExchange_life w h
  | keyInstall => exact execKeyInstall_life w h
  | keyQuery => exact execKeyQuery_life w h
  | keyRetire => exact execKeyRetire_life w h
  | keyUpdate => exact execKeyUpdate_life w h
  | lifecycleAdvance => exact execLifecycleAdvance_life w h
  | mbxPop => exact execMbxPop_life w h
  | mbxSend => exact execMbxSend_life w h
  | mctpControlMessage => exact execMctpControlMessage_life w h
  | negotiateAlgorithms => exact execNegotiateAlgorithms_life w h
  | otpProgramEnd => exact execOtpProgramEnd_life w h
  | otpWrite => exact execOtpWrite_life w h
  | poolSet => exact execPoolSet_life w h
  | queueOp => exact execQueueOp_life w h
  | registerWrite => exact execRegisterWrite_life w h
  | saDisable => exact execSaDisable_life w h
  | saRead => exact execSaRead_life w h
  | saRoll => exact execSaRoll_life w h
  | saWrite => exact execSaWrite_life w h
  | sesCtl => exact execSesCtl_life w h
  | slcCreate => exact execSlcCreate_life w h
  | slcDestroy => exact execSlcDestroy_life w h
  | sliceCreate => exact execSliceCreate_life w h
  | sliceDestroy => exact execSliceDestroy_life w h
  | spdmSessionTimeout => exact execSpdmSessionTimeout_life w h
  | standbyEntryComplete => exact execStandbyEntryComplete_life w h
  | vendorDefinedRequest => exact execVendorDefinedRequest_life w h
  | volBindKey => exact execVolBindKey_life w h
  | welborRestart => exact execWelborRestart_life w h
  | _ => exact exec_life_of_parts w h rfl

theorem Dev.advance_wel (d : Dev) : d.advance.wel = d.wel :=
  Dev.same_of_mask (Dev.advance_mask (T := partSet (partsBut [.wel])) (by decide) d) .wel (by decide)

/-- Settles O9: the fuses hold at least the state they held before, after a nanosecond and after every command. -/
theorem lifecycleNeverGoesBack : Obligations.LifecycleNeverGoesBack := by
  unfold Obligations.LifecycleNeverGoesBack
  intro s t h
  rcases step_cases h with hidle | ⟨c, rest, hexec⟩
  · rw [hidle, Dev.advance_wel]
  · exact of_decide_eq_true
      (exec_life (s := { s with pending := rest }) (lv := s.dev.wel.lifecycle) (decide_eq_true le_rfl) hexec)

end Sys2Proof.Machine

/-!
The event fabric (R354, R360-R365, R368): pulses and level sources, PEND, routes, software events and board inputs.
-/

namespace Sys2Proof.Machine

/-! ## Pulses (R360, R363) -/

section
variable {d : Dev} {n : Nat} (hsource : isReserved n = false) (hpower : (d.wakeOf n).domainOn 1 = true)
include hsource hpower

theorem Dev.pulse_of_pending (hpend : (d.wakeOf n).pend n = true) :
    d.pulse n = (d.wakeOf n).count Page.evtg Reg.EVTG_MERGE_CNT_CNT := by
  simp only [Dev.pulse, hsource, hpower, hpend, Bool.not_true, Bool.false_eq_true, if_false, if_true]

theorem Dev.pulse_of_clear (hclear : (d.wakeOf n).pend n = false) :
    d.pulse n = if ((d.wakeOf n).setPend n true).masked n then (d.wakeOf n).setPend n true
      else ((d.wakeOf n).setPend n true).deliver n := by
  simp only [Dev.pulse, hsource, hpower, hclear, Bool.not_true, Bool.false_eq_true, if_false]

end

/-- Settles O19, by PEND as the wake enables leave it and by the mask of the route. -/
theorem pendingPulsesMerge : Obligations.PendingPulsesMerge := by
  unfold Obligations.PendingPulsesMerge
  intro d n hsource hpower
  refine ⟨Dev.pulse_of_pending hsource hpower, fun hclear hmasked => ?_, fun hclear hopen => ?_⟩
  · rw [Dev.pulse_of_clear hsource hpower hclear, hmasked, if_pos rfl]
  · rw [Dev.pulse_of_clear hsource hpower hclear, hopen, if_neg Bool.false_ne_true]

/-! ## Sources, PEND and routes (R354, R360-R362) -/

theorem Dev.wakeOf_of_disabled {d : Dev} {n : Nat} (hwake : d.wakeEnabled n = false) : d.wakeOf n = d := by
  simp only [Dev.wakeOf, hwake, Bool.false_eq_true, if_false]

theorem execEventSourceAssert_of_pulse {s : State} {n : Nat} (hpulse : isLevel n = false) :
    execEventSourceAssert n s = s.become (s.dev.pulse n) := by
  simp only [execEventSourceAssert, hpulse, Bool.false_eq_true, if_false]

theorem Dev.unmaskRoute_of_masked {d : Dev} {n : Nat} (hmasked : d.masked n = true) :
    d.unmaskRoute n = (d.fset (routePage n) (routeFld Reg.EVT_RTB_MASK n) 0).deliverPending n :=
  if_pos hmasked

/-- Settles O51: a pulse by its PEND bit, a level source by its condition, and the writes of registers by their page being
reached. -/
theorem eventSourceCommands : Obligations.EventSourceCommands := by
  unfold Obligations.EventSourceCommands
  refine ⟨?pulse, ?merge, ?level, ?clear, ?unmask, ?software⟩
  case pulse =>
    intro s n hpulse hsource hwake hpower hclear
    rw [← Dev.wakeOf_of_disabled hwake] at hpower hclear
    refine (execEventSourceAssert_of_pulse hpulse).trans (congrArg s.become ((Dev.pulse_of_clear hsource hpower hclear).trans ?_))
    rw [Dev.wakeOf_of_disabled hwake]
  case merge =>
    intro s n hpulse hsource hwake hpower hpend
    rw [← Dev.wakeOf_of_disabled hwake] at hpower hpend
    refine (execEventSourceAssert_of_pulse hpulse).trans
      (congrArg s.become ((Dev.pulse_of_pending hsource hpower hpend).trans ?_))
    rw [Dev.wakeOf_of_disabled hwake]
  case level =>
    intro s n hlevel
    exact congrArg s.become (if_pos hlevel)
  case clear =>
    intro s req word mask hword hreach hawake
    exact congrArg s.become ((Dev.onWrite_of_reached _ hreach hawake).trans (if_pos hword))
  case unmask =>
    intro s req n hn hreach hmasked hawake
    exact congrArg s.become
      ((Dev.onWrite_of_reached _ hreach hawake).trans ((if_pos hn).trans (Dev.unmaskRoute_of_masked hmasked)))
  case software =>
    intro s req events hreach hawake
    exact congrArg s.become (Dev.onWrite_of_reached _ hreach hawake)

/-! ## Board inputs (R364, R365) -/

section
variable {d : Dev} {n : Nat} (hinactive : (d.bin n).active = false)
include hinactive

/-- An input that waits for its inactive level takes the level and nothing else. -/
theorem Dev.binActivate_of_needsInactive (hwaits : (d.bin n).needsInactive = true) :
    d.binActivate n = d.setBin n { d.bin n with active := true } := by
  simp only [Dev.binActivate, hinactive, hwaits, Bool.false_eq_true, or_true, if_false, if_true]

variable (hfree : d.fbit Page.evtAon (binStuckFld n) = false) (harmed : (d.bin n).needsInactive = false)
include hfree harmed

theorem Dev.binActivate_of_heldOff (hheld : d.inHoldoff n = true) :
    d.binActivate n = (d.setBin n { d.bin n with active := true }).count Page.evtAon Reg.EVT_BIN_HOLD_CNT_CNT := by
  simp only [Dev.binActivate, hinactive, hfree, harmed, hheld, Bool.false_eq_true, or_self, if_false, if_true]

theorem Dev.binActivate_of_accepted (hopen : d.inHoldoff n = false) :
    d.binActivate n =
      (d.setBin n { d.bin n with active := true, lastAccepted := some d.now, timing := true }).pulse (496 + n) := by
  simp only [Dev.binActivate, hinactive, hfree, harmed, hopen, Bool.false_eq_true, or_self, if_false]

end

theorem Dev.binStick_of_timing {d : Dev} {n : Nat} (hactive : (d.bin n).active = true) (htiming : (d.bin n).timing = true)
    (henabled : d.fget Page.evtAon (binCfg Reg.EVT_BIN_STUCK_STUCK n) ≠ 0) :
    d.binStick n = (((d.setBin n { d.bin n with timing := false, needsInactive := true }).fset Page.evtAon
      (binStuckFld n) 1).pulse (500 + n)).latchFault Page.evtAon FaultBit.evtAon_BIN_STUCK :=
  if_pos ⟨hactive, htiming, henabled⟩

/-- Settles O52: an activation by what the input waits for and by the hold-off, a stuck input by its timer. -/
theorem boardInputCommands : Obligations.BoardInputCommands := by
  unfold Obligations.BoardInputCommands
  refine ⟨?accepted, ?heldOff, ?waiting, ?stuck, ?unmask, ?inactive⟩
  case accepted =>
    intro s n hn hinactive hfree harmed hopen
    exact congrArg s.become ((if_pos hn).trans (Dev.binActivate_of_accepted hinactive hfree harmed hopen))
  case heldOff =>
    intro s n hn hinactive hfree harmed hheld
    exact congrArg s.become ((if_pos hn).trans (Dev.binActivate_of_heldOff hinactive hfree harmed hheld))
  case waiting =>
    intro s n hn hinactive hwaits
    exact congrArg s.become ((if_pos hn).trans (Dev.binActivate_of_needsInactive hinactive hwaits))
  case stuck =>
    intro s n hn hactive htiming henabled
    exact congrArg s.become ((if_pos hn).trans (Dev.binStick_of_timing hactive htiming henabled))
  case unmask =>
    intro s req mask hreach hawake
    exact congrArg s.become (Dev.onWrite_of_reached _ hreach hawake)
  case inactive =>
    intro s n hn
    exact congrArg s.become (if_pos hn)

end Sys2Proof.Machine

/-!
The time base (R357, R411-R413): the PTP clock, PPS and the sources of the slow clock.
-/

namespace Sys2Proof.Machine

/-- The wrap of a clock that has counted a whole second and no fraction (R411). -/
theorem Dev.secondWrap_of_full (d : Dev) :
    (d.setTim { d.tim with ns := 1000000000, frac := 0 }).secondWrap =
      (d.setTim { d.tim with sec := (d.tim.sec + 1) % 2 ^ 48, ns := 0, frac := 0,
                             ppsOut := d.tim.ppsOut || d.fbit Page.tim Reg.TIM_CTL_PPS_OUT_EN }).pulse 6 := by
  simp only [Dev.secondWrap, Dev.setTim, Nat.sub_self]
  rfl

theorem Dev.crystalFail_of_running {d : Dev} (hcrystal : d.tim.slowRc = false) (hpower : d.pwr.vaux = true) :
    d.crystalFail = (d.setTim { d.tim with slowRc := true, switchedAt := some d.tim.aonCount }).pulse 40 := by
  simp only [Dev.crystalFail, hcrystal, hpower, Bool.not_true, Bool.false_eq_true, or_self, if_false]

/-- Settles O58: the clock by its domain being on, a commit by its page being reached, the crystal and the measurement by the
source that runs (log entries 84 and 85). -/
theorem timeBaseCommands : Obligations.TimeBaseCommands := by
  unfold Obligations.TimeBaseCommands
  refine ⟨?secondWrap, ?widthExpiry, ?ppsIn, ?load, ?offset, ?crystal, ?measured⟩
  case secondWrap =>
    intro s hpower
    exact congrArg s.become ((if_pos hpower).trans s.dev.secondWrap_of_full)
  case widthExpiry =>
    intro s
    rfl
  case ppsIn =>
    intro s hpower
    exact congrArg (fun d : Dev => s.become (d.pulse 504)) (if_pos hpower)
  case load =>
    intro s req hreach hawake
    exact congrArg s.become (Dev.onWrite_of_reached _ hreach hawake)
  case offset =>
    intro s req hreach hawake
    exact congrArg s.become (Dev.onWrite_of_reached _ hreach hawake)
  case crystal =>
    intro s hcrystal hpower
    exact congrArg s.become (Dev.crystalFail_of_running hcrystal hpower)
  case measured =>
    intro s source frequency hsource hpower hcrystal
    refine congrArg s.become (if_pos ⟨hsource, hpower, ?_⟩)
    rintro ⟨hzero, hrc⟩
    exact Bool.false_ne_true ((hcrystal hzero).symm.trans hrc)

end Sys2Proof.Machine

/-!
The movers (R340, R342-R349) and the cache operations of the control processors (R294, R350): GO, STOP, triggers, descriptors,
bursts and the ends of chains.
-/

namespace Sys2Proof.Machine

/-! ## GO, STOP and triggers (R345, R346, R351) -/

theorem Dev.onFirmwareWrite_of_reached {d : Dev} {req : Requester} {a : Nat} (f : Dev → Dev) (hfirmware : req.isManager = false)
    (hreach : d.unreachable a = none) (hawake : d.asleep req = false) : d.onFirmwareWrite req a f = f d := by
  rw [Dev.onFirmwareWrite, Dev.onWrite_of_reached _ hreach hawake, hfirmware, if_neg Bool.false_ne_true]

section
variable {d : Dev} {m : Nat} (haccepts : d.accepts (Page.blp m) = true)
include haccepts

theorem Dev.moverGo_of_stopped (hrun : d.moverState m ≠ moverRun) (hwait : d.moverState m ≠ moverWait) :
    d.moverGo m = d.startChain m := by
  simp only [Dev.moverGo, haccepts, hrun, hwait, Bool.not_true, Bool.false_eq_true, or_self, if_false]

theorem Dev.moverGo_of_busy (hbusy : d.moverState m = moverRun ∨ d.moverState m = moverWait) :
    d.moverGo m = d.count (Page.blp m) Reg.BLP_GO_IGN_CNT := by
  simp only [Dev.moverGo, haccepts, hbusy, Bool.not_true, Bool.false_eq_true, if_false, if_true]

theorem Dev.trigger_of_enabled (henabled : d.fbit (Page.blp m) Reg.BLP_CTL_TRIG_EN = true)
    (hfree : d.fbit (Page.blp m) Reg.BLP_STAT_TRIG_PEND = false) :
    d.trigger m = if d.moverState m = moverRun ∨ d.moverState m = moverWait
      then d.fset (Page.blp m) Reg.BLP_STAT_TRIG_PEND 1 else d.startChain m := by
  simp only [Dev.trigger, haccepts, henabled, hfree, Bool.not_true, Bool.or_self, Bool.false_eq_true, if_false]

end

theorem Dev.moverStop_of_busy {d : Dev} {m : Nat} (hbusy : d.moverState m = moverRun ∨ d.moverState m = moverWait)
    (hnoEnd : (d.mover m).acks.any (·.1) = false) :
    d.moverStop m = ((d.setMoverState m moverStopped).setMover m
      { d.mover m with fetched := false, acks := [] }).releasePorts m :=
  if_pos ⟨hbusy, by rw [hnoEnd]; exact Bool.false_ne_true⟩

/-! ## Descriptors (R342, R343) -/

/-- A descriptor of GDDR6 that passes the checks and goes to no port becomes the mover's own. -/
theorem Dev.fetchDescriptor_of_good {d : Dev} {m src dst len control nxt : Nat} (hrun : d.moverState m = moverRun)
    (hfetched : (d.mover m).fetched = false) (hacks : (d.mover m).acks = [])
    (hmax : d.fget (Page.blp m) Reg.BLP_DESC_MAX_MAX = 0) (hspace : (d.mover m).nextDesc % 2 = 0)
    (hend : (d.mover m).nextDesc / 32 * 32 + 32 ≤ spaceEnd 0)
    (hdeep : d.inDeepCrucible ((d.mover m).nextDesc / 32 * 32) 32 = false)
    (hread : d.spaceUe 0 ((d.mover m).nextDesc / 32 * 32) 32 = false)
    (hsrc : ofLe (cut (d.gread ((d.mover m).nextDesc / 32 * 32) 32) 0 8) = src)
    (hdst : ofLe (cut (d.gread ((d.mover m).nextDesc / 32 * 32) 32) 8 8) = dst)
    (hlen : ofLe (cut (d.gread ((d.mover m).nextDesc / 32 * 32) 32) 16 4) = len)
    (hcontrol : ofLe (cut (d.gread ((d.mover m).nextDesc / 32 * 32) 32) 20 4) = control)
    (hnxt : ofLe (cut (d.gread ((d.mover m).nextDesc / 32 * 32) 32) 24 8) = nxt)
    (hgood : descMalformed d.split src dst len control nxt = false) (hsrcDeep : d.inDeepCrucible src len = false)
    (hdstDeep : d.inDeepCrucible dst len = false) (hport : ctlDstSpace control ≠ 4) :
    d.fetchDescriptor m = (((d.wr (Page.blp m + Reg.BLP_CUR_LO_ADDR.off) (BitVec.ofNat 32 (d.mover m).nextDesc)).fset
        (Page.blp m) Reg.BLP_CUR_HI_ADDR ((d.mover m).nextDesc / 2 ^ 32)).fset (Page.blp m) Reg.BLP_REMAIN_BYTES len).setMover m
      { d.mover m with
        fetched := true, src := src, dst := dst, len := len, control := control, nextWord := nxt
        nextDesc := if bitAt nxt 0 then (d.mover m).nextDesc else bits nxt 5 30 * 32 + bits nxt 1 1 } := by
  simp only [Dev.fetchDescriptor, hrun, hfetched, hacks, hmax, hspace, hend.not_gt, hdeep, hread, Dev.spaceRead, hsrc, hdst, hlen,
    hcontrol, hnxt, hgood, hsrcDeep, hdstDeep, hport, ne_eq, not_true_eq_false, List.any_nil, Bool.false_eq_true, or_self,
    false_and, and_false, if_false, if_true]

/-! ## Bursts (R347) -/

section
variable {d : Dev} {m o n left : Nat} (hsource : d.moverSource (d.mover m).control = none)
  (hport : ctlDstSpace (d.mover m).control ≠ 4)
include hsource hport

/-- A burst that reads no host memory and is not its descriptor's last. -/
theorem Dev.moveBurst_of_more (hmore : n < left) :
    d.moveBurst m o n left = (((d.setMoverState m moverRun).spaceWrite
      (d.moverSpace (d.mover m).control (ctlDstSpace (d.mover m).control)) ((d.mover m).dst + o) (d.burstData (d.mover m) o n)
      (d.moverAttr (d.mover m).control)).wcount (Page.blp m) 1 n).fset (Page.blp m) Reg.BLP_REMAIN_BYTES (left - n) := by
  have hrest : left - n ≠ 0 := by omega
  simp only [Dev.moveBurst, hsource, hport, hrest, if_false]

theorem Dev.issueBurst_of_good (portReady : Bool) (answer : HostAnswer) (hfetched : (d.mover m).fetched = true)
    (hrun : d.moverState m = moverRun) (hleft : d.fget (Page.blp m) Reg.BLP_REMAIN_BYTES = left)
    (ho : (d.mover m).len - left = o) (hn : burstLen (if ctlFill (d.mover m).control then o else (d.mover m).src + o) left = n)
    (hgood : d.burstError (d.mover m) o n = none) : d.issueBurst m portReady answer = d.moveBurst m o n left := by
  simp only [Dev.issueBurst, hfetched, hrun, hport, hleft, ho, hn, hgood, hsource, Bool.not_true, Bool.false_eq_true, true_or,
    not_true_eq_false, or_self, false_and, if_false]

end

/-! ## Ends of chains (R349) -/

theorem Dev.endDescriptor_of_end {d : Dev} {m : Nat} {pulse : Bool} {rest : List (Bool × Bool)}
    (hacks : (d.mover m).acks = (true, pulse) :: rest)
    (hfree : ((((d.setMover m { d.mover m with acks := rest }).wcount (Page.blp m) 2).setMoverState m moverIdle).pulse
      (384 + m)).fbit (Page.blp m) Reg.BLP_STAT_TRIG_PEND = false) :
    d.endDescriptor m =
      (((d.setMover m { d.mover m with acks := rest }).wcount (Page.blp m) 2).setMoverState m moverIdle).pulse (384 + m) := by
  simp only [Dev.endDescriptor, hacks, hfree, Bool.false_eq_true, if_false, if_true]

/-! ## The commands -/

/-- Settles O50: GO, STOP and a trigger by the mover's state, a descriptor and a burst by passing their checks, and the end of a
chain by no trigger being held. -/
theorem moverCommands : Obligations.MoverCommands := by
  unfold Obligations.MoverCommands
  refine ⟨?go, ?goBusy, ?stop, ?trigger, ?fetch, ?burst, ?chainEnd, ?fence, ?dcinv⟩
  case go =>
    intro s req m hfirmware hreach haccepts hrun hwait hawake
    exact congrArg s.become ((Dev.onFirmwareWrite_of_reached _ hfirmware hreach hawake).trans
      (Dev.moverGo_of_stopped haccepts hrun hwait))
  case goBusy =>
    intro s req m hfirmware hreach haccepts hbusy hawake
    exact congrArg s.become ((Dev.onFirmwareWrite_of_reached _ hfirmware hreach hawake).trans
      (Dev.moverGo_of_busy haccepts hbusy))
  case stop =>
    intro s req m hfirmware hreach hbusy hnoEnd hawake
    exact congrArg s.become ((Dev.onFirmwareWrite_of_reached _ hfirmware hreach hawake).trans
      (Dev.moverStop_of_busy hbusy hnoEnd))
  case trigger =>
    intro s m haccepts henabled hfree
    exact congrArg s.become (Dev.trigger_of_enabled haccepts henabled hfree)
  case fetch =>
    intro s m src dst len control nxt hrun hfetched hacks hmax hspace hend hdeep hread hsrc hdst hlen hcontrol hnxt hgood
      hsrcDeep hdstDeep hport
    exact congrArg s.become (Dev.fetchDescriptor_of_good hrun hfetched hacks hmax hspace hend hdeep hread hsrc hdst hlen hcontrol
      hnxt hgood hsrcDeep hdstDeep hport)
  case burst =>
    intro s m portReady answer hfetched hrun hport hgood hsource hmore
    exact congrArg s.become ((Dev.issueBurst_of_good hsource hport portReady answer hfetched hrun rfl rfl rfl hgood).trans
      (Dev.moveBurst_of_more hsource hport hmore))
  case chainEnd =>
    intro s m pulse rest hacks hfree
    exact congrArg s.become (Dev.endDescriptor_of_end hacks hfree)
  case fence =>
    intro s pair
    rfl
  case dcinv =>
    intro s pair addr len
    rfl

end Sys2Proof.Machine

/-!
Tenant slices (R300-R302, R305-R309, R313, R314): the operation port of the charters, teardown, quarantine and the counters of the
status page.
-/

namespace Sys2Proof.Machine

/-! ## Charters (R305, R307, R308) -/

theorem Dev.charterChanged_ok (d : Dev) : Dev.charterChanged (Code.ok, d) = (Code.ok, d.pulse 84) := if_pos rfl

theorem Dev.sliceCreate_of_good {d : Dev} {n : Nat} {w : List Nat} (hfree : (d.slice n).state = .free)
    (hgood : charterGood n w = true) (hport : charterPort w = 0) (hpasid : d.pasidFree n 0 (charterPasid w) = true) :
    d.sliceCreate n w = (Code.ok, ((((d.clearSit n).setSlice n (({
        state := .active
        incarnation := (d.slice n).incarnation
        charter := charterStored w (d.slice n).incarnation 1
        inflight := (d.slice n).inflight
        tblUsed := (d.slice n).tblUsed
        keyUsed := (d.slice n).keyUsed
        queuesUsed := (d.slice n).queuesUsed } : Slice).logged (charterStored w (d.slice n).incarnation 1) 1)).openChannel
        n).showSlices).pulse 81) := by
  simp only [Dev.sliceCreate, hfree, hgood, hport, hpasid, firstFailure, beq_self_eq_true, Bool.true_or, ne_eq, not_true_eq_false,
    if_false, if_true]

/-- MODIFY of an unlocked slice that keeps the host port and the PASID and lowers no quota below its use. -/
theorem Dev.sliceModify_of_good {d : Dev} {n : Nat} {w : List Nat} (hactive : (d.slice n).state = .active)
    (hgood : charterGood n w = true) (hport : charterPort w = 0) (hunlocked : (d.slice n).isLocked = false)
    (hkeepsPort : (d.slice n).hostPort = 0) (hkeepsPasid : (d.slice n).pasid = charterPasid w)
    (hpasid : d.pasidFree n 0 (charterPasid w) = true) (hquota : d.lowered n ((d.slice n).charter.map (·.toNat)) w = false) :
    d.sliceModify n w = (Code.ok, (d.setSlice n ({ d.slice n with
        charter := charterStored w (d.slice n).incarnation ((d.slice n).seq + 1) }.logged
        (charterStored w (d.slice n).incarnation ((d.slice n).seq + 1)) ((d.slice n).seq + 1))).sliceInterrupt n 15
        (d.slice n).incarnation) := by
  simp [Dev.sliceModify, hactive, hgood, hport, hunlocked, hkeepsPort, hkeepsPasid, hpasid, hquota, firstFailure]

theorem Dev.sliceDestroy_of_active {d : Dev} {n : Nat} (hactive : (d.slice n).state = .active) :
    d.sliceDestroy n = (Code.ok,
      let v := d.slice n
      let v1 := { v with
        state := .destroying
        incarnation := (v.incarnation + 1) % 256
        keysRetired := false
        firmwareDone := false
        destroyedAt := d.now }.logged (destroyImage n v.incarnation (v.seq + 1)) (v.seq + 1)
      let d1 := (d.setSlice n v1).dropPasid v.hostPort v.pasid
      let d2 := ((if v.isLocked then d1.setTdi n .error false else d1).pulse 82).showSlices
      let d3 := ((((d2.queuesOf n).foldl Dev.endQueue d2).retireKeys n).clearSit n).emptyChannel n
      (d3.setSlice n { d3.slice n with keysRetired := true }).endTeardown n) :=
  if_neg (not_not_intro hactive)

/-! ## Teardown, quarantine and the status page (R308, R309, R313) -/

theorem Dev.firmwareDone_of_destroying {d : Dev} {n : Nat} (hdestroying : (d.slice n).state = .destroying) :
    d.firmwareDone n = (d.setSlice n { d.slice n with firmwareDone := true }).endTeardown n :=
  if_pos hdestroying

theorem Dev.endQuarantine_of_over {d : Dev} {n : Nat} (hstate : (d.slice n).state = .quarantine)
    (hinflight : (d.slice n).inflight = 0) (htbl : (d.slice n).tblUsed = 0) (hkeys : (d.slice n).keyUsed = 0)
    (hqueues : (d.slice n).queuesUsed = 0)
    (htime : (d.slice n).destroyedAt + d.fget Page.slc Reg.SLC_QUAR_MIN_MS * 1000000 ≤ d.now) :
    d.endQuarantine n = ((d.setSlice n {
        incarnation := (d.slice n).incarnation
        mgrWire := (d.slice n).mgrWire
        tenantWire := (d.slice n).tenantWire }).showSlices).pulse 83 := by
  have hover : d.quarantineOver (d.slice n) = true := by
    simp only [Dev.quarantineOver, hstate, hinflight, htbl, hkeys, hqueues, htime, beq_self_eq_true, decide_true, Bool.and_self]
  exact if_pos hover

/-! ## The commands -/

/-- Settles O47: an operation by the checks of R305 and R307 and the state of its slice, teardown and quarantine by that state, a
counter by its slice being ACTIVE. -/
theorem sliceCommands : Obligations.SliceCommands := by
  unfold Obligations.SliceCommands
  refine ⟨?create, ?modify, ?destroy, ?read, ?teardown, ?quarantine, ?counter⟩
  case create =>
    intro s o hrun hfree hgood hport hpasid
    refine congrArg s.become (Dev.portExec_of_running hrun ?_)
    rw [slcSlice, Dev.sliceCreate_of_good hfree hgood hport hpasid, Dev.charterChanged_ok]
  case modify =>
    rintro s o _ _ hrun rfl rfl hactive hgood hport hunlocked hkeepsPort hkeepsPasid hpasid hquota
    refine congrArg s.become (Dev.portExec_of_running hrun ?_)
    rw [slcSlice, Dev.sliceModify_of_good hactive hgood hport hunlocked hkeepsPort hkeepsPasid hpasid hquota,
      Dev.charterChanged_ok]
  case destroy =>
    intro s o hrun hactive
    refine congrArg s.become (Dev.portExec_of_running hrun ?_)
    rw [slcSlice, Dev.sliceDestroy_of_active hactive, Dev.charterChanged_ok]
  case read =>
    intro s o hrun
    exact congrArg s.become (Dev.portExec_of_running hrun rfl)
  case teardown =>
    intro s n hdestroying
    exact congrArg s.become (Dev.firmwareDone_of_destroying hdestroying)
  case quarantine =>
    intro s n hstate hinflight htbl hkeys hqueues htime
    exact congrArg s.become (Dev.endQuarantine_of_over hstate hinflight htbl hkeys hqueues htime)
  case counter =>
    intro s n k hk hactive
    exact congrArg s.become (if_pos ⟨hk, hactive⟩)

end Sys2Proof.Machine

/-!
Queue contexts, doorbells and queue commands (R318-R324, R326, R327).
-/

namespace Sys2Proof.Machine

/-! ## Contexts (R318, R319) -/

/-- CREATE of a manager queue with a well-formed context. -/
theorem Dev.createQueue_of_good {d : Dev} {q : Nat} {w : List Nat} (welbor : Bool) (hfree : (d.queue q).state = .free)
    (hmanager : Ctx.mgr w = true) (hgood : d.ctxMalformed w = false) :
    d.createQueue welbor q w = (Code.ok, ((d.putContext q w (((d.queue q).qgen + 1) % 256) 1).setQueue q
      { state := .idle, qgen := ((d.queue q).qgen + 1) % 256, incarnation := 0 }).showQueueCount) := by
  simp [Dev.createQueue, hfree, hmanager, hgood, firstFailure]

/-- MODIFY of a manager queue that keeps what may not change. -/
theorem Dev.modifyQueue_of_good {d : Dev} {q : Nat} {w : List Nat} (welbor : Bool) (hexists : (d.queue q).state ≠ .free)
    (hmanager : d.qManager q = true) (hgood : d.ctxMalformed w = false) (hfixed : ctxFixed w = ctxFixed (d.ctxWords q)) :
    d.modifyQueue welbor q w = (Code.ok, d.putContext q w (d.queue q).qgen (d.queue q).state.num) := by
  have hstate : ((d.queue q).state != .free) = true := bne_iff_ne.2 hexists
  simp [Dev.modifyQueue, hstate, hmanager, hgood, hfixed, firstFailure]

theorem Dev.destroyQueue_of_idle {d : Dev} {q : Nat} (welbor : Bool) (hidle : (d.queue q).state = .idle)
    (hmanager : d.qManager q = true) : d.destroyQueue welbor q = (Code.ok, d.freeQueue q) :=
  if_pos ⟨hidle, .inr hmanager⟩

/-! ## Doorbells (R323, R324) -/

section
variable {d : Dev} {port n q : Nat} {owner : Option Nat} (hqueue : d.doorbellQueue port owner n = some q) (value : BitVec 17)
include hqueue

theorem Dev.doorbellWrite_kind0 : d.doorbellWrite port owner n value.toNat = d.sqDoorbell q value.toNat := by
  have hreserved : bits value.toNat 17 13 = 0 := by have := value.isLt; unfold bits; omega
  have hkind : bits value.toNat 30 2 = 0 := by have := value.isLt; unfold bits; omega
  have hindex : bits value.toNat 0 17 = value.toNat := by have := value.isLt; unfold bits; omega
  simp only [Dev.doorbellWrite, hqueue, hreserved, hkind, hindex, ne_eq, not_true_eq_false, OfNat.zero_ne_ofNat, or_self, if_false,
    if_true]

theorem Dev.doorbellWrite_kind1 : d.doorbellWrite port owner n (value.toNat + 2 ^ 30) = d.cqDoorbell q value.toNat := by
  have hreserved : bits (value.toNat + 2 ^ 30) 17 13 = 0 := by have := value.isLt; unfold bits; omega
  have hkind : bits (value.toNat + 2 ^ 30) 30 2 = 1 := by have := value.isLt; unfold bits; omega
  have hindex : bits (value.toNat + 2 ^ 30) 0 17 = value.toNat := by have := value.isLt; unfold bits; omega
  simp only [Dev.doorbellWrite, hqueue, hreserved, hkind, hindex, ne_eq, not_true_eq_false, OfNat.one_ne_ofNat, one_ne_zero, or_self,
    if_false, if_true]

theorem Dev.doorbellValue_of_owned : d.doorbellValue port owner n =
    (d.queue q).state.num * 2 ^ 29 + (d.queue q).qgen * 2 ^ 21 + (d.queue q).sqCi % 2 ^ 17 := by
  simp only [Dev.doorbellValue, hqueue]

end

/-! ## Queue commands (R320, R321, R326, R327) -/

section
variable {d : Dev} {q : Nat}

/-- A command of the owner's control doorbell on a queue whose function may issue requests. -/
theorem Dev.commandQueue_of_owner (f : Dev → Dev) (hready : d.qReady q = true) (hexists : (d.queue q).state ≠ .free) :
    d.commandQueue none q f = f d := by
  simp only [Dev.commandQueue, hready, hexists, if_false, if_true]

/-- A command through the registers on a manager queue. -/
theorem Dev.commandQueue_of_manager {r : Requester} (f : Dev → Dev)
    (hreach : d.unreachable (Page.que + Reg.QUE_QCTL_ENABLE.off) = none) (hmanager : d.qManager q = true)
    (hawake : d.asleep r = false) : d.commandQueue (some r) q f = f d := by
  simp only [Dev.commandQueue, Dev.onWrite_of_reached _ hreach hawake, hmanager, Bool.not_true, Bool.false_eq_true, false_and,
    and_false, if_false]

theorem Dev.startQueue_of_idle (hidle : (d.queue q).state = .idle) : d.startQueue q = d.setQState q .run := if_pos hidle

theorem Dev.stopQueue_of_run (hrun : (d.queue q).state = .run) : d.stopQueue q = d.beginStop q .stopping := if_pos (.inl hrun)

theorem Dev.resetQueue_of_idle (hidle : (d.queue q).state = .idle) :
    d.resetQueue q = (d.setQueue q { d.queue q with
      sqPi := 0, sqCi := 0, cqPi := 0, cqCi := 0, waited := false }).setQGen q ((d.queue q).qgen + 1) := by
  simp only [Dev.resetQueue, hidle, reduceCtorEq, if_false, if_true]

theorem Dev.resetQueue_of_error (herror : (d.queue q).state = .error) : d.resetQueue q = d.beginStop q .resetting := if_pos herror

theorem Dev.resumeQueue_of_error (herror : (d.queue q).state = .error) (hcode : (d.queue q).errCode ≠ QErr.context) :
    d.resumeQueue q = d.setQState q .run := if_pos ⟨herror, hcode⟩

end

/-! ## The commands -/

/-- Settles O48: an operation on a context by the checks of R318, a doorbell by the index it names, a command by the state of its
queue. -/
theorem queueCommandsComplete : Obligations.QueueCommandsComplete := by
  unfold Obligations.QueueCommandsComplete
  refine ⟨?create, ?modify, ?destroy, ?read, ?sqDoorbell, ?cqDoorbell, ?idle, ?stop, ?error, ?enable, ?doorbellRead⟩
  case create =>
    rintro s o _ _ hrun rfl rfl hfree hmanager hgood
    exact congrArg s.become (Dev.portExec_of_running hrun (Dev.createQueue_of_good _ hfree hmanager hgood))
  case modify =>
    rintro s o _ _ hrun rfl rfl hexists hmanager hgood hfixed
    exact congrArg s.become (Dev.portExec_of_running hrun (Dev.modifyQueue_of_good _ hexists hmanager hgood hfixed))
  case destroy =>
    intro s o hrun hidle hmanager
    exact congrArg s.become (Dev.portExec_of_running hrun (Dev.destroyQueue_of_idle _ hidle hmanager))
  case read =>
    intro s o hrun
    exact congrArg s.become (Dev.portExec_of_running hrun rfl)
  case sqDoorbell =>
    intro s port n q owner value hopen hqueue hroom
    exact congrArg s.become ((if_pos hopen).trans ((Dev.doorbellWrite_kind0 hqueue value).trans (if_pos hroom)))
  case cqDoorbell =>
    intro s port n q owner value hopen hqueue hroom
    exact congrArg s.become ((if_pos hopen).trans ((Dev.doorbellWrite_kind1 hqueue value).trans (if_pos hroom)))
  case idle =>
    intro s q hready hidle
    have hexists : (s.dev.queue q).state ≠ .free := by rw [hidle]; nofun
    exact ⟨congrArg s.become ((Dev.commandQueue_of_owner _ hready hexists).trans (Dev.startQueue_of_idle hidle)),
      congrArg s.become ((Dev.commandQueue_of_owner _ hready hexists).trans (Dev.resetQueue_of_idle hidle))⟩
  case stop =>
    intro s q hready hrun
    have hexists : (s.dev.queue q).state ≠ .free := by rw [hrun]; nofun
    exact congrArg s.become ((Dev.commandQueue_of_owner _ hready hexists).trans (Dev.stopQueue_of_run hrun))
  case error =>
    intro s q hready herror hcode
    have hexists : (s.dev.queue q).state ≠ .free := by rw [herror]; nofun
    exact ⟨congrArg s.become ((Dev.commandQueue_of_owner _ hready hexists).trans (Dev.resumeQueue_of_error herror hcode)),
      congrArg s.become ((Dev.commandQueue_of_owner _ hready hexists).trans (Dev.resetQueue_of_error herror))⟩
  case enable =>
    intro s q r hreach hmanager hidle hawake
    exact congrArg s.become
      ((Dev.commandQueue_of_manager _ hreach hmanager hawake).trans (Dev.startQueue_of_idle hidle))
  case doorbellRead =>
    intro s port n q owner hopen hqueue
    refine congrArg s.become ((if_pos hopen).trans ?_)
    rw [Dev.doorbellValue_of_owned hqueue]

end Sys2Proof.Machine

/-!
Mailboxes and the requests that firmware serves (R303, R374, R381, R385, R387-R392, R395).
-/

namespace Sys2Proof.Machine

/-! ## Accesses to an end (R388) -/

section
variable {d : Dev} {req : Requester} {box : MailEnd} {off : Nat} (f : Dev → Dev) (hexists : mailExists box = true)
  (hallows : d.mailAllows req box = true)
include hexists hallows

/-- An end that has registers, reached by a requester that may access it. -/
theorem Dev.onMail_of_reached {base : Nat} (hbase : mailBase box = some base) (hreach : d.unreachable (base + off) = none)
    (hawake : d.asleep req = false) : d.onMail req box off f = f d := by
  simp only [Dev.onMail, hexists, hbase, Dev.onWrite_of_reached _ hreach hawake, hallows, hreach, Bool.not_true, Bool.false_eq_true,
    reduceCtorEq, if_false, if_true]

/-- An end of a slice channel, in Welbor's domain. -/
theorem Dev.onMail_of_window (hbase : mailBase box = none) (hpower : d.domainOn 0 = true) : d.onMail req box off f = f d := by
  simp only [Dev.onMail, hexists, hbase, hallows, hpower, Bool.not_true, Bool.false_eq_true, if_false]

end

/-! ## SEND and POP (R387, R389, R391, R393, R395) -/

theorem Dev.mailSend_of_room {d : Dev} {box : MailEnd} (req : Requester) (pasid : Option Nat) (hroom : d.mailRoom box = true) :
    d.mailSend req box pasid = d.mailPush (mailOther box) ⟨(d.mailBox box).tx, d.mailStamp req box pasid⟩ :=
  if_pos hroom

theorem Dev.mailSend_of_full {d : Dev} {box : MailEnd} (req : Requester) (pasid : Option Nat) (hfull : d.mailRoom box = false) :
    d.mailSend req box pasid = d.mailFull req box :=
  if_neg (by rw [hfull]; exact Bool.false_ne_true)

theorem Dev.mailPop_of_head {d : Dev} {box : MailEnd} {m : Message} {rest : List Message}
    (hqueue : (d.mailBox box).queue = m :: rest) :
    d.mailPop box =
      ((d.setMailBox box { d.mailBox box with queue := rest }).showMail box).releaseSlice m.stampOf := by
  simp only [Dev.mailPop, hqueue]

/-- A SEND at an end that has registers is a `mailSend`. -/
theorem execMbxSend_of_reached {s : State} {req : Requester} {box : MailEnd} {base : Nat} (pasid : Option Nat)
    (hexists : mailExists box = true) (hbase : mailBase box = some base) (hallows : s.dev.mailAllows req box = true)
    (hreach : s.dev.unreachable (base + 0x40) = none) (hawake : s.dev.asleep req = false) :
    execMbxSend req box pasid s = s.become (s.dev.mailSend req box pasid) := by
  refine congrArg s.become ((Dev.onMail_of_reached _ hexists hallows hbase hreach hawake).trans ?_)
  cases box with
  | tenant | welbor => exact nomatch hbase
  | manager | firmware | x | y => rfl

/-- Welbor sends the next chunk that it owes a tenant. -/
theorem Dev.sendChunk_of_room {d e : Dev} {n inc : Nat} {w : List Nat} {rest : List (Nat × List Nat)}
    (hchunks : (d.channel n).chunks = (inc, w) :: rest)
    (hcurrent : d.deliverable n (d.channel n).incarnation (some (n, inc)) = true)
    (hstaged : d.setMailBox (.welbor n) { d.mailBox (.welbor n) with tx := w } = e) (hroom : e.mailRoom (.welbor n) = true) :
    d.sendChunk n = (e.mailSend .welbor (.welbor n) none).setChannel n
      { (e.mailSend .welbor (.welbor n) none).channel n with chunks := rest } := by
  simp only [Dev.sendChunk, hchunks, hcurrent, hstaged, hroom, Bool.not_true, Bool.false_eq_true, if_false, if_true]

theorem Dev.popEnd_firmware {d : Dev} {c : Nat} {m : Message} {rest : List Message}
    (hqueue : (d.mailBox (.firmware c)).queue = m :: rest) :
    d.popEnd (.firmware c) =
      if m.tag ≠ 0 ∧ fwOpcodes.contains m.opcode = false ∧ d.mailRoom (.firmware c) = true then
        (d.mailPop (.firmware c)).fwAnswer c m.opcode m.tag Code.malformed
      else d.mailPop (.firmware c) := by
  simp only [Dev.popEnd, hqueue, Bool.not_eq_true']

theorem Dev.popEnd_welbor {d : Dev} {n : Nat} {m : Message} {rest : List Message}
    (hqueue : (d.mailBox (.welbor n)).queue = m :: rest) :
    d.popEnd (.welbor n) = (d.mailPop (.welbor n)).takeChunk n m := by
  simp only [Dev.popEnd, hqueue]

/-! ## Requests to firmware (R303, R381, R392) -/

theorem Dev.fwServe_of_request {d : Dev} {c opcode : Nat} {m : Message} (f : Dev → Message → Nat × Dev)
    (hrequest : d.fwRequest c opcode = some m) :
    d.fwServe c opcode f =
      (f (d.mailPop (.firmware c)) m).2.fwAnswer c opcode m.tag (f (d.mailPop (.firmware c)) m).1 := by
  simp only [Dev.fwServe, hrequest]

section
variable {d : Dev} {c : Nat} (hfree : d.portFree portSlc = true)
include hfree

/-- SLICE_CREATE and SLICE_MODIFY with the SLC port free. -/
theorem Dev.fwCharter_of_request {opcode : Nat} {m : Message} (op : Nat) (f : Dev → Nat → List Nat → Nat × Dev) {n : Nat}
    {img : List Word} {r : Nat × Dev} (hrequest : d.fwRequest c opcode = some m) (hslice : m.field 16 2 % 4096 = n)
    (himg : bytesWords 32 ((d.mailPop (.firmware c)).hread m.port (m.field 8 8) 128) = img)
    (hissue : ((d.mailPop (.firmware c)).hostFetch m.port (m.field 8 8) 128 {}).2.slcIssue op n img
      (fun d => f d n (img.map (·.toNat))) = r) :
    d.fwCharter c opcode op f = (if r.1 = Code.ok then r.2.deriveCharter n else r.2).fwAnswer c opcode m.tag r.1 := by
  rw [Dev.fwCharter, hfree, Bool.not_true, if_neg Bool.false_ne_true, Dev.fwServe_of_request _ hrequest]
  simp only [hslice, himg, hissue]

theorem Dev.fwDestroy_of_request {m : Message} (hrequest : d.fwRequest c 0x0103 = some m) :
    d.fwDestroy c =
      ((d.mailPop (.firmware c)).slcIssue 3 (m.field 16 2 % 4096) [] (fun d => d.sliceDestroy (m.field 16 2 % 4096))).2.fwAnswer c
        0x0103 m.tag
        ((d.mailPop (.firmware c)).slcIssue 3 (m.field 16 2 % 4096) []
          (fun d => d.sliceDestroy (m.field 16 2 % 4096))).1 := by
  rw [Dev.fwDestroy, hfree, Bool.not_true, if_neg Bool.false_ne_true, Dev.fwServe_of_request _ hrequest]

end

theorem Dev.setPool_of_inRange (d : Dev) {m : Message} (hkind : m.field 8 1 ≤ 3)
    (hfirst : (poolRange (m.field 8 1)).1 ≤ m.field 12 4)
    (hlast : m.field 12 4 + m.field 16 4 ≤ (poolRange (m.field 8 1)).2) :
    d.setPool m = (Code.ok, d.setWel { d.wel with
      pools := Sparse.set (blank (0, 0)) d.wel.pools (m.field 8 1) (m.field 12 4, m.field 16 4) }) :=
  if_neg (by simp [hkind, hfirst, hlast])

theorem Dev.setPool_of_malformed (d : Dev) {m : Message}
    (hbad : 3 < m.field 8 1 ∨ m.field 12 4 < (poolRange (m.field 8 1)).1 ∨
      (poolRange (m.field 8 1)).2 < m.field 12 4 + m.field 16 4) : d.setPool m = (Code.malformed, d) :=
  if_pos hbad

/-! ## MOVE (R392, log entry 73) -/

/-- The space numbers that a MOVE may name. -/
theorem moveSpace_good {n : Nat} (hspace : n = 0 ∨ n = 2 ∨ n = 3) : (!(n == 0 || n == 2 || n == 3)) = false := by
  rcases hspace with rfl | rfl | rfl <;> rfl

theorem Dev.beginMove_of_good {d : Dev} {c mv src dst len ctl : Nat} {m : Message} (hsrc : m.field 8 8 = src)
    (hdst : m.field 16 8 = dst) (hlen : m.field 24 4 = len)
    (hctl : bits (m.field 28 1) 0 3 + bits (m.field 28 1) 4 3 * 2 ^ 4 + bits (m.field 29 1) 0 2 * 2 ^ 8 + 2 ^ 11 = ctl)
    (hss : bits (m.field 28 1) 0 3 = 0 ∨ bits (m.field 28 1) 0 3 = 2 ∨ bits (m.field 28 1) 0 3 = 3)
    (hds : bits (m.field 28 1) 4 3 = 0 ∨ bits (m.field 28 1) 4 3 = 2 ∨ bits (m.field 28 1) 4 3 = 3)
    (hsrcOpen : ¬(bits (m.field 28 1) 0 3 = 0 ∧ d.moveForbidden src len = true))
    (hdstOpen : ¬(bits (m.field 28 1) 4 3 = 0 ∧ d.moveForbidden dst len = true))
    (hgood : descMalformed d.split src dst len ctl 1 = false) :
    d.beginMove c mv m = (none, ((d.startChain mv).setMover mv
      { fetched := true, src := src, dst := dst, len := len, control := ctl, nextWord := 1, move := some c }).fset (Page.blp mv)
        Reg.BLP_REMAIN_BYTES len) := by
  simp only [Dev.beginMove, hsrc, hdst, hlen, hctl, moveSpace_good hss, moveSpace_good hds, hsrcOpen, hdstOpen, hgood,
    Bool.false_eq_true, or_self, if_false]

theorem Dev.beginMove_of_otherSpace (d : Dev) (c mv : Nat) {m : Message}
    (hspace : bits (m.field 28 1) 0 3 = 1 ∨ 4 ≤ bits (m.field 28 1) 0 3) : d.beginMove c mv m = (some Code.malformed, d) := by
  refine if_pos (.inl ?_)
  simp only [Bool.not_eq_true', Bool.or_eq_false_iff, beq_eq_false_iff_ne]
  omega

theorem Dev.runMove_of_ended {d e : Dev} {mv : Nat} {answer : HostAnswer}
    (hrun : d.runBursts mv answer ((d.mover mv).len / 256 + 2) = e) (hfetched : (e.mover mv).fetched = false)
    (herror : e.moverState mv ≠ moverError) (hstopped : e.moverState mv ≠ moverStopped) :
    d.runMove mv answer = (some Code.ok,
      (e.endDescriptor mv).setMover mv { (e.endDescriptor mv).mover mv with move := none }) := by
  simp only [Dev.runMove, hrun, hfetched, herror, hstopped, Bool.false_eq_true, or_self, if_false]

section
variable {d : Dev} {c mv : Nat} {m : Message} (answer : HostAnswer) (hrequest : d.fwRequest c 0x0201 = some m)
  (hother : (d.mover mv).move ≠ some c) (hnone : d.movers.any (fun e => e.2.move == some c) = false)
  (hfree : d.moverFree mv = true)
include hrequest hother hnone hfree

theorem Dev.fwMove_of_refused {e : Dev} {code : Nat} (hbegin : d.beginMove c mv m = (some code, e)) :
    d.fwMove c mv answer = e.fwServe c 0x0201 (fun d _ => (code, d)) := by
  simp only [Dev.fwMove, hrequest, beq_eq_false_iff_ne.2 hother, hnone, hfree, hbegin, Bool.not_true, Bool.false_eq_true, or_self,
    and_false, if_false]

theorem Dev.fwMove_of_begun {d1 d2 : Dev} {code : Nat} (hbegin : d.beginMove c mv m = (none, d1))
    (hrun : d1.runMove mv answer = (some code, d2)) :
    d.fwMove c mv answer = d2.fwServe c 0x0201 (fun d _ => (code, d)) := by
  simp only [Dev.fwMove, hrequest, beq_eq_false_iff_ne.2 hother, hnone, hfree, hbegin, hrun, Bool.not_true, Bool.false_eq_true,
    or_self, and_false, if_false]

end

/-! ## OTP requests (R374, R385) -/

section
variable {d : Dev} {c : Nat} {m : Message} (hrequest : d.fwRequest c 0x0301 = some m) (hfree : d.wel.job = none)
include hrequest hfree

theorem Dev.otpWrite_of_good {e : Dev} {g : List Byte} (hpop : (d.hostFetch m.port (m.field 8 8) 204 {}).2.mailPop (.firmware c) = e)
    (hroom : d.nextGen < 8) (himage : genImage d.nextGen (d.hread m.port (m.field 8 8) 204) = g)
    (hreserved : genReserved g = false) (hsvn : d.genSvnBad g = false) :
    d.otpWrite c = (e.setWel { e.wel with job := some ⟨c, m.tag, d.nextGen, g⟩ }).fset Page.otp Reg.OTP_STAT_PROG_BUSY 1 := by
  simp only [Dev.otpWrite, hrequest, hfree, hpop, himage, hroom.not_ge, hreserved, hsvn, Bool.false_eq_true, or_self, if_false]

theorem Dev.otpWrite_of_full {e : Dev} (hpop : (d.hostFetch m.port (m.field 8 8) 204 {}).2.mailPop (.firmware c) = e)
    (hfull : 8 ≤ d.nextGen) : d.otpWrite c = e.fwAnswer c 0x0301 m.tag Code.resource := by
  simp only [Dev.otpWrite, hrequest, hfree, hpop, hfull, if_true]

end

theorem Dev.otpEnd_of_room {d : Dev} {j : OtpJob} (hjob : d.wel.job = some j) (hroom : d.mailRoom (.firmware j.channel) = true) :
    d.otpEnd = (((d.setWel { d.wel with job := none, gens := Sparse.set (blank []) d.wel.gens j.gen j.bytes }).fset Page.otp
      Reg.OTP_STAT_PROG_BUSY 0).fset Page.otp ⟨Reg.OTP_STAT_BLANK.off, 16 + j.gen, 1⟩ 0).fwAnswer j.channel 0x0301 j.tag Code.ok := by
  simp only [Dev.otpEnd, hjob, hroom, Bool.not_true, Bool.false_eq_true, if_false]

/-- A target above the present state that needs no token. -/
theorem Dev.lifecycleAdvance_of_above {d : Dev} {m : Message} {t : Nat} (htarget : m.field 8 1 = t) (habove : d.wel.lifecycle < t)
    (hlo : 1 ≤ t) (hhi : t ≤ 4) (hplain : t ≠ lifeReturn) :
    d.lifecycleAdvance m = (Code.ok, (d.hostFetch m.port (m.field 16 8) 0 {}).2.setWel
      { d.wel with lifecycle := t, udsDestroyed := d.wel.udsDestroyed || t == lifeScrap }) := by
  simp only [Dev.lifecycleAdvance, htarget, hplain, hlo.not_gt, hhi.not_gt, habove.not_ge, beq_eq_false_iff_ne.2 hplain, Bool.or_false,
    false_and, or_self, if_false]

theorem Dev.lifecycleAdvance_of_below {d : Dev} {m : Message} (hbelow : m.field 8 1 ≤ d.wel.lifecycle) (hlo : 1 ≤ m.field 8 1)
    (hhi : m.field 8 1 ≤ 4) :
    d.lifecycleAdvance m =
      (Code.access, (d.hostFetch m.port (m.field 16 8) (if m.field 8 1 = lifeReturn then m.field 24 2 else 0) {}).2) := by
  simp only [Dev.lifecycleAdvance, hlo.not_gt, hhi.not_gt, hbelow, or_self, true_or, if_false, if_true]

theorem execLifecycleAdvance_of_free {s : State} {c : Nat} {m : Message} (hrequest : s.dev.fwRequest c 0x0302 = some m)
    (hfree : s.dev.wel.job = none) :
    execLifecycleAdvance c s = s.become
      (((s.dev.mailPop (.firmware c)).lifecycleAdvance m).2.fwAnswer c 0x0302 m.tag
        ((s.dev.mailPop (.firmware c)).lifecycleAdvance m).1) :=
  congrArg s.become ((if_neg (by simp [hfree])).trans (Dev.fwServe_of_request _ hrequest))

/-! ## The commands -/

/-- Settles O53: a SEND and a POP by the end's registers or window and the room there, a request by its OPCODE and the checks of
R374, R381, R385 and R392 (an unknown OPCODE and the other spaces of MOVE by log entry 73). -/
theorem mailboxCommands : Obligations.MailboxCommands := by
  unfold Obligations.MailboxCommands
  refine ⟨?send, ?sendFull, ?sendTenant, ?sendWelbor, ?popManager, ?popX, ?popY, ?popFirmware, ?popWelbor, ?create, ?modify, ?destroy,
    ?pool, ?poolMalformed, ?move, ?moveMalformed, ?otpWrite, ?otpFull, ?otpEnd, ?advance, ?advanceRefused⟩
  case send =>
    intro s req box base pasid hexists hbase hallows hreach hroom hawake
    exact (execMbxSend_of_reached pasid hexists hbase hallows hreach hawake).trans
      (congrArg s.become (Dev.mailSend_of_room req pasid hroom))
  case sendFull =>
    intro s req box base pasid hexists hbase hallows hreach hfull hawake
    exact (execMbxSend_of_reached pasid hexists hbase hallows hreach hawake).trans
      (congrArg s.become (Dev.mailSend_of_full req pasid hfull))
  case sendTenant =>
    intro s port rid n pasid hn hpower hactive hroom
    exact congrArg s.become ((Dev.onMail_of_window (box := .tenant n) _ (decide_eq_true hn) rfl rfl hpower).trans
      ((if_pos hactive).trans (Dev.mailSend_of_room _ pasid hroom)))
  case sendWelbor =>
    intro s n inc w rest d hn hpower hchunks hcurrent hstaged hroom
    exact congrArg s.become ((Dev.onMail_of_window (box := .welbor n) _ (decide_eq_true hn) rfl rfl hpower).trans
      (Dev.sendChunk_of_room hchunks hcurrent hstaged hroom))
  case popManager | popX | popY =>
    intro s req c base m rest hexists hbase hallows hreach hqueue hawake
    exact congrArg s.become ((Dev.onMail_of_reached _ hexists hallows hbase hreach hawake).trans (Dev.mailPop_of_head hqueue))
  case popFirmware =>
    intro s req c m rest hc hallows hreach hqueue hawake
    exact congrArg s.become
      ((Dev.onMail_of_reached (box := .firmware c) _ (decide_eq_true hc) hallows rfl hreach hawake).trans
        (Dev.popEnd_firmware hqueue))
  case popWelbor =>
    intro s n m rest hn hpower hqueue
    exact congrArg s.become
      ((Dev.onMail_of_window (box := .welbor n) _ (decide_eq_true hn) rfl rfl hpower).trans (Dev.popEnd_welbor hqueue))
  case create =>
    rintro s c m _ n img _ _ hrequest rfl hfree hslice himg rfl rfl
    exact congrArg s.become (Dev.fwCharter_of_request hfree 1 Dev.sliceCreate hrequest hslice himg rfl)
  case modify =>
    rintro s c m _ n img _ _ hrequest rfl hfree hslice himg rfl rfl
    exact congrArg s.become (Dev.fwCharter_of_request hfree 2 Dev.sliceModify hrequest hslice himg rfl)
  case destroy =>
    rintro s c m _ hrequest rfl hfree
    exact congrArg s.become (Dev.fwDestroy_of_request hfree hrequest)
  case pool =>
    rintro s c m _ hrequest rfl hkind hfirst hlast
    refine congrArg s.become ((Dev.fwServe_of_request _ hrequest).trans ?_)
    rw [Dev.setPool_of_inRange _ hkind hfirst hlast]
  case poolMalformed =>
    rintro s c m _ hrequest rfl hbad
    refine congrArg s.become ((Dev.fwServe_of_request _ hrequest).trans ?_)
    rw [Dev.setPool_of_malformed _ hbad]
  case move =>
    rintro s c m mv a src dst len ctl _ d2 _ hrequest hother hnone hfree hsrc hdst hlen hctl hss hds hsrcOpen hdstOpen hgood rfl hrun
      hfetched herror hstopped rfl hstill
    exact congrArg s.become ((Dev.fwMove_of_begun a hrequest hother hnone hfree
      (Dev.beginMove_of_good hsrc hdst hlen hctl hss hds hsrcOpen hdstOpen hgood)
      (Dev.runMove_of_ended hrun hfetched herror hstopped)).trans (Dev.fwServe_of_request _ hstill))
  case moveMalformed =>
    intro s c m mv a hrequest hother hnone hfree hspace
    exact congrArg s.become ((Dev.fwMove_of_refused a hrequest hother hnone hfree
      (Dev.beginMove_of_otherSpace _ c mv hspace)).trans (Dev.fwServe_of_request _ hrequest))
  case otpWrite =>
    intro s c m d g hrequest hpop hfree hroom himage hreserved hsvn
    exact congrArg s.become (Dev.otpWrite_of_good hrequest hfree hpop hroom himage hreserved hsvn)
  case otpFull =>
    intro s c m d hrequest hpop hfree hfull
    exact congrArg s.become (Dev.otpWrite_of_full hrequest hfree hpop hfull)
  case otpEnd =>
    intro s j hjob hroom
    exact congrArg s.become (Dev.otpEnd_of_room hjob hroom)
  case advance =>
    rintro s c m _ t hrequest rfl hfree htarget habove hlo hhi hplain
    refine (execLifecycleAdvance_of_free hrequest hfree).trans ?_
    rw [Dev.lifecycleAdvance_of_above htarget habove hlo hhi hplain, State.become_eq]
  case advanceRefused =>
    rintro s c m _ hrequest rfl hfree hbelow hlo hhi
    refine (execLifecycleAdvance_of_free hrequest hfree).trans ?_
    rw [Dev.lifecycleAdvance_of_below hbelow hlo hhi, State.become_eq]

end Sys2Proof.Machine

/-!
GDDR6 devices, control processor pairs, oscillators and converter phases (R423, R425-R431, R446, R459).
-/

namespace Sys2Proof.Machine

/-! ## GDDR6 (R425-R427, R446, log entry 79) -/

theorem Dev.failDevice_of_working {d : Dev} {n : Nat} (cause : Nat) (hworks : d.memState n ≠ 2) :
    d.failDevice n cause = (((d.setFt { d.ft with
      memState := Sparse.set (fun _ => 0) d.ft.memState n 2 }).pulse 467).latchFault (Page.mem n)
      FaultBit.mem_DEV_FAILED).journalAdd
        { typ := 0x20, inst := n, kind := Kind.gddrDevFail, cls := 3, outcome := 0xFF, detail := [n, cause] } :=
  if_neg hworks

/-- The rebuild of a burst, counted, reported and journalled. -/
def Dev.burstRebuilt (d : Dev) (n a : Nat) : Dev :=
  let d0 := d.countSat (Page.mem n) Reg.MEM_UE_CNT_CNT
  ((((d0.setFt { d0.ft with rebuilds := Sparse.set (blank []) d.ft.rebuilds n (d.recentRebuilds n) }).count (Page.mem n)
    Reg.MEM_REBUILD_CNT_CNT).latchFault (Page.mem n) FaultBit.mem_BURST_UE).pulse 466).journalAdd
      { typ := 0x20, inst := n, kind := Kind.gddrRebuild, cls := 2, work := 7, outcome := Code.ok, ident := a, detail := [n] }

/-- A burst of an ACTIVE device whose group has no other failed device is rebuilt; the sixteenth within a second fails it. -/
theorem Dev.rebuildBurst_of_active {d : Dev} {n : Nat} (a : Nat) (hactive : d.memState n = 0) (hgroup : d.groupFailed n = false) :
    d.rebuildBurst n a =
      if 16 ≤ (d.recentRebuilds n).length then (d.burstRebuilt n a).failDevice n 1 else d.burstRebuilt n a := by
  have hcounted : (d.countSat (Page.mem n) Reg.MEM_UE_CNT_CNT).groupFailed n = false := hgroup
  simp only [Dev.rebuildBurst, hactive, hcounted, ne_eq, not_true_eq_false, Bool.false_eq_true, if_false]
  rfl

theorem Dev.scrubRound_of_active {d : Dev} {n : Nat} (corrected : Nat) (hscrubs : d.fget (Page.mem n) Reg.MEM_SCRUB_HOURS ≠ 0)
    (hactive : d.memState n = 0) :
    d.scrubRound n corrected = (d.count (Page.mem n) Reg.MEM_CE_CNT_CNT corrected).pulse 468 :=
  if_neg (by simp [hscrubs, hactive])

/-! ## Control processor pairs (R428, R429, log entry 125) -/

theorem Dev.cpxMismatch_of_run {d : Dev} {p : Nat} (hrun : d.cpxState p = cpxRun) :
    d.cpxMismatch p =
      let d1 := d.fset (Page.cpx p) Reg.CPX_STAT_STATE cpxFenced
      let t := d1.takeover p
      let d2 := [0, 1, 2, 3].foldl (fun (d : Dev) q =>
        if q = p ∨ (d.cpxState q ≠ cpxRun ∧ d.fget (Page.cpx q) Reg.CPX_STAT_TAKEOVER = p) then
          d.fset (Page.cpx q) Reg.CPX_STAT_TAKEOVER t else d) d1
      (((d2.countSat (Page.cpx p) Reg.CPX_MISMATCH_CNT_CNT).latchFault (Page.cpx p) FaultBit.cpx_MISMATCH).pulse 481).journalAdd
        { typ := 0x21, inst := p, kind := Kind.cpxMismatch, cls := 2, outcome := 0xFF, detail := [p, t] } :=
  if_neg (not_not_intro hrun)

theorem Dev.cpxBist_of_fenced {d : Dev} {p : Nat} (pass : Bool) (hfenced : d.cpxState p = cpxFenced) :
    d.cpxBist p pass =
      if pass then d.fset (Page.cpx p) Reg.CPX_STAT_STATE cpxStandby
      else ((d.fset (Page.cpx p) Reg.CPX_STAT_STATE cpxFailed).latchFault (Page.cpx p) FaultBit.cpx_BIST_FAIL).pulse 485 :=
  if_neg (fun h => h.1 hfenced)

theorem Dev.cpxReturn_of_standby {d : Dev} {p : Nat} (hstandby : d.cpxState p = cpxStandby) :
    d.cpxReturn p = d.fset (Page.cpx p) Reg.CPX_STAT_STATE cpxRun :=
  if_pos hstandby

/-! ## Clocks and supplies (R423, R430, R431, R459, log entry 90) -/

theorem Dev.oscillatorFail_zero {d : Dev} (hother : d.ft.osc1Failed = false) (hused : d.ft.oscUsed = 0) :
    d.oscillatorFail 0 = (d.setFt { d.ft with osc0Failed := true, oscUsed := 1 }).noteOscillator 1 := by
  simp only [Dev.oscillatorFail, hother, hused, Bool.false_eq_true, and_false, if_false, if_true, Nat.sub_zero]

theorem Dev.oscillatorFail_one_of_zeroFailed {d : Dev} (hother : d.ft.osc0Failed = true) :
    d.oscillatorFail 1 = d.setFt { d.ft with osc1Failed := true, holdover := true } := by
  simp only [Dev.oscillatorFail, hother, one_ne_zero, and_self, if_false, if_true]

theorem Dev.refLoss_of_used {d : Dev} (hinput : d.fbit Page.tim Reg.TIM_CTL_REF = true) (hgood : d.tim.refLost = false) :
    d.refLoss = ({ d with tim := { d.tim with refLost := true } } : Dev).noteOscillator d.ft.oscUsed :=
  if_pos ⟨hinput, by rw [hgood]; rfl⟩

theorem Dev.shedPhase_of_working {d : Dev} {rail phase : Nat} (hworks : d.ft.shed.contains (rail, phase) = false) :
    d.shedPhase rail phase = (d.setFt { d.ft with shed := d.ft.shed ++ [(rail, phase)] }).journalAdd
      { typ := 0x05, inst := 0, kind := Kind.phaseShed, cls := 3, outcome := 0xFF, detail := [rail, phase] } :=
  if_neg (by rw [hworks]; exact Bool.false_ne_true)

/-! ## The commands -/

/-- Settles O59: a burst by the rebuilds of the last second, a pair by its state, an oscillator by the other one, a phase by not
being shed yet (log entries 79, 90 and 125). -/
theorem deviceAndPairFaults : Obligations.DeviceAndPairFaults := by
  unfold Obligations.DeviceAndPairFaults
  refine ⟨?rebuilt, ?sixteenth, ?fail, ?scrub, ?mismatch, ?bist, ?bringBack, ?switch, ?holdover, ?reference, ?holdoverEnd, ?shed⟩
  case rebuilt =>
    intro s n a hn hactive hgroup hfew
    exact congrArg s.become ((if_pos hn).trans ((Dev.rebuildBurst_of_active a hactive hgroup).trans (if_neg hfew.not_ge)))
  case sixteenth =>
    intro s n a hn hactive hgroup hmany
    exact congrArg s.become ((if_pos hn).trans ((Dev.rebuildBurst_of_active a hactive hgroup).trans (if_pos hmany)))
  case fail =>
    intro s req n hn hreach hworks hawake
    exact congrArg s.become
      ((if_pos hn).trans ((Dev.onWrite_of_reached _ hreach hawake).trans (Dev.failDevice_of_working 3 hworks)))
  case scrub =>
    intro s n corrected hn hscrubs hactive
    exact congrArg s.become ((if_pos hn).trans (Dev.scrubRound_of_active corrected hscrubs hactive))
  case mismatch =>
    intro s p hp hrun
    exact congrArg s.become ((if_pos hp).trans (Dev.cpxMismatch_of_run hrun))
  case bist =>
    intro s p hp hfenced
    exact ⟨congrArg s.become ((if_pos hp).trans (Dev.cpxBist_of_fenced true hfenced)),
      congrArg s.become ((if_pos hp).trans (Dev.cpxBist_of_fenced false hfenced))⟩
  case bringBack =>
    intro s req p hp hreach hstandby hawake
    exact congrArg s.become
      ((if_pos hp).trans ((Dev.onWrite_of_reached _ hreach hawake).trans (Dev.cpxReturn_of_standby hstandby)))
  case switch =>
    intro s hother hused
    exact congrArg s.become (Dev.oscillatorFail_zero hother hused)
  case holdover =>
    intro s hother
    exact congrArg s.become (Dev.oscillatorFail_one_of_zeroFailed hother)
  case reference =>
    intro s hinput hgood
    exact congrArg s.become (Dev.refLoss_of_used hinput hgood)
  case holdoverEnd =>
    intro s hholds
    exact congrArg s.become (if_pos hholds)
  case shed =>
    intro s rail phase hworks
    exact congrArg s.become (Dev.shedPhase_of_working hworks)

end Sys2Proof.Machine

/-!
Power states (R400, R402-R409): requests, moves, the entry into STANDBY and the exit from it, LEAN and DOZE.
-/

namespace Sys2Proof.Machine

/-! ## Requests (R404) -/

/-- A request that its own condition of the table admits, on a module that is on, in no transition and programming no OTP. -/
theorem Dev.powerRequest_of_admitted {d e : Dev} {target : Nat} {t : PowerState} (htarget : powerTarget target = some t)
    (hset : d.fset Page.pwr Reg.PWR_REQ_TARGET target = e)
    (hadmits : ¬((t = .standby ∧ !e.allIdle) ∨ (t = .doze ∧ !e.groupQuiet (e.fget Page.pwr Reg.PWR_CFG_DOZE_GROUP))))
    (hstandby : d.pwr.state ≠ .standby) (hoff : d.pwr.state ≠ .off) (hrests : d.pwr.trans = .none)
    (hotp : e.fbit Page.otp Reg.OTP_STAT_PROG_BUSY = false) :
    d.powerRequest target =
      if t = .standby then e.captureEntry.setPwr { d.pwr with trans := .entry 3, l12 := 0, wakeLatched := none }
      else e.setPwr { d.pwr with trans := .move t, wakeLatched := none } := by
  have hpwr : e.pwr = d.pwr := by rw [← hset]; rfl
  have hcaptured : e.captureEntry.pwr = d.pwr := hpwr
  have hidle : e.powerBusy = false := by rw [Dev.powerBusy, hpwr, hrests]; rfl
  simp only [Dev.powerRequest, htarget, hset, hadmits, hpwr, hcaptured, hstandby, hoff, hidle, hotp, Bool.false_eq_true, or_self,
    if_false]

/-- A refused request ends what it had begun (R404). -/
theorem Dev.l12Expire_of_waiting {d : Dev} {n : Nat} (hentry : d.pwr.trans = .entry 3) (hup : (d.hostPort n).linkUp = true)
    (hlate : bitAt d.pwr.l12 n = false) :
    d.l12Expire n = (d.setPwr { d.pwr with trans := .none, wakeLatched := none }).refusePower 2 :=
  if_pos ⟨hentry, hup, by rw [hlate]; rfl⟩

theorem Dev.reachL12_of_waiting {d : Dev} {n : Nat} (hentry : d.pwr.trans = .entry 3) (hup : (d.hostPort n).linkUp = true)
    (hlate : bitAt d.pwr.l12 n = false) :
    d.reachL12 n = (d.setHostPort n { d.hostPort n with l1 := true }).setPwr { d.pwr with l12 := d.pwr.l12 + 2 ^ n } :=
  if_pos ⟨hentry, hup, by rw [hlate]; rfl⟩

/-! ## Moves and the entry into STANDBY (R404, R406) -/

theorem Dev.finishMove_run {d : Dev} (hmove : d.pwr.trans = .move .run) :
    d.finishMove = ((d.leaveDoze.ungateAll.setPwr
      { d.leaveDoze.ungateAll.pwr with state := .run, trans := .none }).pulse 33).replayWake := by
  simp only [Dev.finishMove, hmove]

theorem Dev.finishMove_doze {d e : Dev} (hmove : d.pwr.trans = .move .doze) (hstate : d.pwr.state ≠ .doze)
    (hoff : (d.groupOff (d.fget Page.pwr Reg.PWR_CFG_DOZE_GROUP)).setDevices 9 1 = e) :
    d.finishMove = ((e.setPwr { e.pwr with state := .doze, trans := .none }).pulse 33).replayWake := by
  simp only [Dev.finishMove, hmove, hstate, if_false, hoff]

theorem Dev.finishEntry_of_allL12 {d : Dev} {n : Nat} (hentry : d.pwr.trans = .entry n) (hlinks : d.allL12 = true) :
    d.finishEntry = ((d.sleep true).pulse 33).replayWake := by
  simp only [Dev.finishEntry, hentry, hlinks, if_true]

/-! ## LEAN and DOZE (R402, R403) -/

/-- With no cluster gated and no more clusters on than the minimum, none is gated and none ungated. -/
theorem gateChoice_none {n depth up on least us : Nat} {counts : Nat → Bool} {idle : List (Nat × Nat)} (hmin : on ≤ least) :
    gateChoice n 0 depth up on least us counts idle = none := by
  simp only [gateChoice, ne_eq, not_true_eq_false, and_false, hmin.not_gt, if_false]

theorem length_filter_range_le (p : Nat → Bool) (n : Nat) : ((List.range n).filter p).length ≤ n :=
  (List.length_filter_le p _).trans_eq List.length_range

theorem Dev.leanStep_of_minimum {d : Dev} (hlean : d.pwr.state = .lean)
    (hgaf : d.fget Page.pwr Reg.PWR_LEAN_GAF_MIN ≥ 24) (hleh : d.fget Page.pwr Reg.PWR_LEAN_LEH_MIN ≥ 64)
    (hgafGated : d.pwr.gafGated = 0) (hlehGated : d.pwr.lehGated = 0) :
    d.leanStep = d.setPwr { d.pwr with
      gafIdle := idleTimes d.pwr.gafIdle 24 (d.unitBusy puntyGaf)
      lehIdle := idleTimes d.pwr.lehIdle 64 (d.unitBusy puntyLeh) } := by
  rw [Dev.leanStep, if_neg (by simp [hlean]), hgafGated, hlehGated]
  simp only [gateChoice_none ((length_filter_range_le _ _).trans hgaf), gateChoice_none ((length_filter_range_le _ _).trans hleh)]

theorem Dev.demand_of_doze {d : Dev} {a : Nat} (hdoze : d.pwr.state = .doze) (hlo : 2 ^ 34 ≤ a) (hhi : a < 2 ^ 35)
    (hfirst : d.pwr.demand = none) :
    d.demand a =
      (((d.setPwr { d.pwr with demand := some a }).count Page.pwr Reg.PWR_DEMAND_CNT_CNT).pulse 38).requestWake 3 0 :=
  if_pos ⟨hdoze, hlo, hhi, by rw [hfirst]; rfl⟩

/-! ## Wake and exit (R408, R409) -/

theorem Dev.requestWake_of_entering {d : Dev} (kind source : Nat) (hentering : d.pwr.trans.entering = true)
    (hfirst : d.pwr.wakeLatched = none) :
    d.requestWake kind source = { d with pwr := { d.pwr with wakeLatched := some (kind, source) } } := by
  simp only [Dev.requestWake, hentering, hfirst, if_true]

theorem Dev.requestWake_of_standby {d : Dev} (kind source : Nat) (hrests : d.pwr.trans = .none)
    (hstandby : d.pwr.state = .standby) (hfailed : d.pwr.wakeFailed = false) :
    d.requestWake kind source = d.startExit kind source false := by
  simp only [Dev.requestWake, hrests, hstandby, hfailed, Transition.entering, ne_eq, not_true_eq_false, Bool.false_eq_true,
    false_and, if_false, if_true]

section
variable {d : Dev} {step : Nat} (unit : Nat) (hexit : d.pwr.trans = .exit step) (hstep : step = 1 ∨ step = 2)
include hexit hstep

/-- A time-out of the step that the exit stands at. -/
theorem Dev.exitTimeout_of_current :
    d.exitTimeout step unit =
      if d.pwr.attempts + 1 < 4 then
        ((d.setPwr { d.pwr with attempts := d.pwr.attempts + 1 }).count Page.pwr Reg.PWR_RETRY_CNT_CNT).pulse 39
      else if !d.pwr.alternate then d.setPwr { d.pwr with attempts := 0, alternate := true }
      else (d.setPwr d.pwr).wakeFail 8 step unit := by
  have hcurrent : ¬(step < step ∨ 2 < step ∨ step = 0) := by omega
  simp only [Dev.exitTimeout, hexit, hcurrent, if_false, if_true]

theorem Dev.exitTimeout_of_few (hfew : d.pwr.attempts < 3) :
    d.exitTimeout step unit =
      ((d.setPwr { d.pwr with attempts := d.pwr.attempts + 1 }).count Page.pwr Reg.PWR_RETRY_CNT_CNT).pulse 39 := by
  rw [Dev.exitTimeout_of_current unit hexit hstep, if_pos (Nat.succ_lt_succ hfew)]

theorem Dev.exitTimeout_of_spent (hspent : d.pwr.attempts = 3) :
    d.exitTimeout step unit =
      if !d.pwr.alternate then d.setPwr { d.pwr with attempts := 0, alternate := true }
      else (d.setPwr d.pwr).wakeFail 8 step unit := by
  rw [Dev.exitTimeout_of_current unit hexit hstep, if_neg (by omega)]

end

/-! ## The commands -/

/-- Settles O56: a request by the conditions of R404, a move and an exit step by the transition under way, LEAN and DOZE by the
state (a tick of LEAN where the minima let no cluster be gated). -/
theorem powerStateCommands : Obligations.PowerStateCommands := by
  unfold Obligations.PowerStateCommands
  refine ⟨?request, ?requestDoze, ?requestStandby, ?moveRun, ?moveDoze, ?entered, ?lean, ?demand, ?l1, ?wakeSource, ?wakeLatched,
    ?retry, ?alternate, ?failed, ?exited, ?pads, ?l12, ?l12Expiry⟩
  case request =>
    rintro s req target t hreach htarget (rfl | rfl) hstandby hoff hrests hotp hawake <;>
    exact congrArg s.become ((Dev.onWrite_of_reached _ hreach hawake).trans
      (Dev.powerRequest_of_admitted htarget rfl (by simp) hstandby hoff hrests hotp))
  case requestDoze =>
    intro s req target hreach htarget hquiet hstandby hoff hrests hotp hawake
    exact congrArg s.become ((Dev.onWrite_of_reached _ hreach hawake).trans
      (Dev.powerRequest_of_admitted htarget rfl (by simp [hquiet]) hstandby hoff hrests hotp))
  case requestStandby =>
    intro s req target hreach htarget hidle hstandby hoff hrests hotp hawake
    exact congrArg s.become ((Dev.onWrite_of_reached _ hreach hawake).trans
      (Dev.powerRequest_of_admitted htarget rfl (by simp [hidle]) hstandby hoff hrests hotp))
  case moveRun =>
    intro s hmove
    exact congrArg s.become (Dev.finishMove_run hmove)
  case moveDoze =>
    intro s hmove hstate
    exact congrArg s.become (Dev.finishMove_doze hmove hstate rfl)
  case entered =>
    intro s n hentry hlinks
    exact congrArg s.become (Dev.finishEntry_of_allL12 hentry hlinks)
  case lean =>
    intro s hlean hgaf hleh hgafGated hlehGated
    exact congrArg s.become (Dev.leanStep_of_minimum hlean hgaf hleh hgafGated hlehGated)
  case demand =>
    intro s a hdoze hlo hhi hfirst
    exact congrArg s.become (Dev.demand_of_doze hdoze hlo hhi hfirst)
  case l1 =>
    intro s n hn hdoze hup
    exact congrArg s.become ((if_pos hn).trans (if_pos ⟨hdoze, hup⟩))
  case wakeSource =>
    intro s n henabled hrests hstandby hfailed
    exact congrArg s.become
      ((if_pos henabled).trans ((Dev.requestWake_of_standby 1 n hrests hstandby hfailed).trans (if_pos hstandby)))
  case wakeLatched =>
    intro s hentry hfirst
    exact congrArg s.become (Dev.requestWake_of_entering 4 0 (by rw [hentry]; rfl) hfirst)
  case retry =>
    intro s step unit hexit hstep hfew
    exact congrArg s.become (Dev.exitTimeout_of_few unit hexit hstep hfew)
  case alternate =>
    intro s step unit hexit hstep hspent hmain
    exact congrArg s.become ((Dev.exitTimeout_of_spent unit hexit hstep hspent).trans (if_pos (by rw [hmain]; rfl)))
  case failed =>
    intro s step unit hexit hstep hspent halternate
    exact congrArg s.become
      ((Dev.exitTimeout_of_spent unit hexit hstep hspent).trans (if_neg (by rw [halternate]; exact Bool.false_ne_true)))
  case exited =>
    intro s hexit hboot
    exact congrArg s.become (if_pos ⟨hexit, .inl hboot⟩)
  case pads =>
    intro s req groups hreach hawake
    exact congrArg s.become (Dev.onWrite_of_reached _ hreach hawake)
  case l12 =>
    intro s n hn hentry hup hlate
    exact congrArg s.become ((if_pos hn).trans (Dev.reachL12_of_waiting hentry hup hlate))
  case l12Expiry =>
    intro s n hn hentry hup hlate
    exact congrArg s.become ((if_pos hn).trans (Dev.l12Expire_of_waiting hentry hup hlate))

end Sys2Proof.Machine

/-!
Feeds, the auxiliary supply, the resets and firmware's initialisation (R370, R409, R415-R417, R451-R454, R463-R467).
-/

namespace Sys2Proof.Machine

/-! ## Feeds and the auxiliary supply (R415, R416, R451-R453, R464, log entry 83) -/

section
variable {d : Dev}

theorem Dev.feedGood_zero (hlost : d.pwr.feedA = false) (huntripped : d.pwr.tripped = false) (hvaux : d.pwr.vaux = true) :
    d.feedGood 0 =
      let e := (d.setPwr { d.pwr with feedA := true, busHoldUp := false }).requestWake 5 0
      e.setPwr { e.pwr with bothLost := false } := by
  simp only [Dev.feedGood, hlost, huntripped, hvaux, Bool.false_eq_true, not_lt_zero, or_self, if_false, if_true]

theorem Dev.feedGood_one (hlost : d.pwr.feedB = false) (huntripped : d.pwr.tripped = false) (hvaux : d.pwr.vaux = true) :
    d.feedGood 1 =
      let e := (d.setPwr { d.pwr with feedB := true, busHoldUp := false }).requestWake 5 0
      e.setPwr { e.pwr with bothLost := false } := by
  simp only [Dev.feedGood, hlost, huntripped, hvaux, one_ne_zero, Bool.false_eq_true, lt_irrefl, or_self, if_false, if_true]

theorem Dev.feedLost_zero (hgood : d.pwr.feedA = true) :
    d.feedLost 0 = ((d.setPwr { d.pwr with
        feedA := false, bothLost := d.pwr.bothLost || !d.pwr.feedB
        busHoldUp := !d.pwr.feedB && d.pwr.state != .standby }).pulse 41).journalAdd
      { typ := 0x05, inst := 0, kind := Kind.feedLost, cls := 3, outcome := 0xFF, detail := [0] } := by
  simp only [Dev.feedLost, hgood, Bool.not_true, Bool.not_false, Bool.true_and, Bool.false_eq_true, not_lt_zero, or_self, if_false,
    if_true, Nat.add_zero]

theorem Dev.feedLost_one (hgood : d.pwr.feedB = true) :
    d.feedLost 1 = ((d.setPwr { d.pwr with
        feedB := false, bothLost := d.pwr.bothLost || !d.pwr.feedA
        busHoldUp := !d.pwr.feedA && d.pwr.state != .standby }).pulse 42).journalAdd
      { typ := 0x05, inst := 0, kind := Kind.feedLost, cls := 3, outcome := 0xFF, detail := [1] } := by
  simp only [Dev.feedLost, hgood, one_ne_zero, Bool.not_true, Bool.not_false, Bool.and_true, Bool.false_eq_true, lt_irrefl, or_self,
    if_false]

/-- 3.3Vaux returns while neither feed is good, so nothing wakes the adapter. -/
theorem Dev.auxOn_of_off (hoff : d.pwr.vaux = false) (hfeedA : d.pwr.feedA = false) (hfeedB : d.pwr.feedB = false) :
    d.auxOn = ({ d with
      pwr := { perst := d.pwr.perst }
      wel := { d.wel with inEffect := d.wel.lifecycle } } : Dev).showJournal := by
  simp only [Dev.auxOn, hoff, hfeedA, hfeedB, Bool.false_eq_true, or_self, if_false]

theorem Dev.auxLoss_of_on (hon : d.pwr.vaux = true) :
    d.auxLoss = { ({ d with hif := [] } : Dev).loseSwitched false [] with
      regs := []
      badParity := []
      seenParity := []
      bins := []
      boutHeld := 0
      tim := {}
      ft := { sparesUsed := d.ft.sparesUsed, spared := d.ft.spared }
      pwr := { state := .off, vaux := false, feedA := d.pwr.feedA, feedB := d.pwr.feedB, perst := d.pwr.perst } } :=
  if_neg (by simp [hon])

theorem Dev.powerLost_of_drained (hheld : d.pwr.busHoldUp = true) (hfeedA : d.pwr.feedA = false) (hfeedB : d.pwr.feedB = false) :
    d.powerLost = (d.unlinkPorts.sleep false).endHoldUp :=
  if_pos (by simp [hheld, hfeedA, hfeedB])

/-! ## Resets (R370, R409, R416, R417, R454) -/

theorem Dev.perstOn_of_released {n : Nat} (hexists : d.portExists n = true) (hreleased : bitAt d.pwr.perst n = false) :
    d.perstOn n = (d.setPwr { d.pwr with perst := d.pwr.perst + 2 ^ n }).resetPort n :=
  if_neg (by simp [hexists, hreleased])

theorem Dev.deviceReset_of_confirmed (req : Requester) (hon : d.pwr.state ≠ .standby) :
    d.deviceReset req 0xA5D2 =
      let d1 := (((d.fset Page.rst Reg.RST_CAUSE_LAST 2).fset Page.rst Reg.RST_CAUSE_SRC (resetSource req)).countSat Page.rst
        Reg.RST_CNT_CNT).captureEntry
      let d2 := (({ d1 with hif := [] } : Dev).dropMacs (fun _ => true) true true).loseSwitched false []
      let d3 : Dev := { d2 with
        ft := { d2.ft with memState := [], shed := [], osc0Failed := false, osc1Failed := false, holdover := false, degraded := false }
        wel := { d2.wel with inEffect := d2.wel.lifecycle } }
      (d3.setPwr { d3.pwr with
        state := .run, trans := .none, domains := allDomains, gafGated := 0, lehGated := 0, gafIdle := [], lehIdle := []
        demand := none, ready := false, welborReleased := false, warm := false, kept := [],
        wakeLatched := none }).showJournal.restoreClock :=
  if_neg (by simp [hon])

theorem Dev.welborRestart_of_running (hpower : d.domainOn 0 = true) (hreleased : d.pwr.welborReleased = true) :
    d.welborRestart =
      let chans := (d.wel.torn.channels.map (fun e =>
        (e.1, ({ incarnation := e.2.incarnation } : SliceChannel)))).filter (fun e => e.2 != {})
      (((d.setWel { d.wel.torn with sessions := [], negotiated := [], requests := [], channels := chans }).fset Page.otp
        Reg.OTP_STAT_PROG_BUSY 0).fset Page.rst Reg.RST_CAUSE_WELBOR 1).setBootStage 1 :=
  if_neg (by simp [hpower, hreleased])

theorem Dev.powerUp_of_resting (hrests : d.pwr.trans = .none) : d.powerUp = d := by
  simp only [Dev.powerUp, hrests]

theorem Dev.releaseWelbor_of_held (hheld : d.pwr.welborReleased = false) (hpower : d.domainOn 0 = true) :
    d.releaseWelbor = (({ d with pwr := { d.pwr with welborReleased := true } } : Dev).fset Page.otp Reg.OTP_STAT_LIFECYCLE
      d.wel.inEffect).setBootStage 0 :=
  if_neg (by simp [hheld, hpower])

/-! ## Firmware ready (R466-R468, log entry 93) -/

/-- Initialisation that finds no failed device. -/
theorem Dev.fwReady_of_running (result : Nat) (hruns : d.fwRuns = true) (hroom : d.mailRoom (.firmware 0) = true)
    (hfirst : d.pwr.ready = false) :
    d.fwReady result [] =
      let d2 := fwLayout.foldl (fun (d : Dev) e => d.wset e.1 e.2.1 e.2.2) d
      let d3 := ((d2.setDeepCrucible (0x2000 + 0x1000 * 2 ^ 16)).fsetP Page.clsg Reg.CLS_RULE_BASE_SEG 0).fsetP Page.cru
        Reg.CRU_DEEP_CTL_ENABLE 1
      let d4 : Dev := { d3 with
        gddr := d3.gddr.filter (fun c => !fwZeroes d.pwr.warm c.1), sto := { d3.sto with zeroed := true } }
      let d5 := d4.fwPages.foldl Dev.enablePage (d4.setPwr { d4.pwr with ready := true })
      let d6 := d5.mailPush (.manager 0) (d5.readyMessage result)
      if d6.split && d6.mailRoom (MailEnd.firmware 16) then d6.mailPush (.manager 16) (d5.readyMessage result) else d6 :=
  if_neg (by simp [hruns, hroom, hfirst])

end

/-! ## The commands -/

/-- Settles O57: a feed and the auxiliary supply by what they were (log entry 83), a reset by its confirmation and the power of what
it resets, the initialisation by firmware running and not being ready yet (log entry 93). -/
theorem supplyAndResetCommands : Obligations.SupplyAndResetCommands := by
  unfold Obligations.SupplyAndResetCommands
  refine ⟨?feedAGood, ?feedBGood, ?feedALost, ?feedBLost, ?auxOn, ?auxLoss, ?perstOn, ?perstOff, ?deviceReset, ?portReset, ?restart,
    ?release, ?trip, ?holdUp, ?ready⟩
  case feedAGood =>
    intro s hlost huntripped hvaux
    exact congrArg s.become (Dev.feedGood_zero hlost huntripped hvaux)
  case feedBGood =>
    intro s hlost huntripped hvaux
    exact congrArg s.become (Dev.feedGood_one hlost huntripped hvaux)
  case feedALost =>
    intro s hgood
    exact congrArg s.become (Dev.feedLost_zero hgood)
  case feedBLost =>
    intro s hgood
    exact congrArg s.become (Dev.feedLost_one hgood)
  case auxOn =>
    intro s hoff hfeedA hfeedB
    exact congrArg s.become (Dev.auxOn_of_off hoff hfeedA hfeedB)
  case auxLoss =>
    intro s hon
    exact congrArg s.become (Dev.auxLoss_of_on hon)
  case perstOn =>
    intro s n hexists hreleased
    exact congrArg s.become (Dev.perstOn_of_released hexists hreleased)
  case perstOff =>
    intro s n hn hasserted
    exact congrArg s.become (if_pos ⟨hn, hasserted⟩)
  case deviceReset =>
    intro s req hreach hon hawake
    exact congrArg s.become ((Dev.onWrite_of_reached _ hreach hawake).trans (Dev.deviceReset_of_confirmed req hon))
  case portReset =>
    intro s req hreach hawake
    exact congrArg s.become ((Dev.onWrite_of_reached _ hreach hawake).trans (if_neg (by simp)))
  case restart =>
    intro s hpower hreleased
    exact congrArg s.become (Dev.welborRestart_of_running hpower hreleased)
  case release =>
    intro s hrests hheld hpower
    exact congrArg s.become ((congrArg Dev.releaseWelbor (Dev.powerUp_of_resting hrests)).trans
      (Dev.releaseWelbor_of_held hheld hpower))
  case trip =>
    intro s
    rfl
  case holdUp =>
    intro s hheld hfeedA hfeedB
    exact congrArg s.become (Dev.powerLost_of_drained hheld hfeedA hfeedB)
  case ready =>
    intro s result hruns hroom _ hfirst
    exact congrArg s.become (Dev.fwReady_of_running result hruns hroom hfirst)

end Sys2Proof.Machine

/-!
The vendor requests that Welbor serves for a slice (R303, R378-R381): the queue of requests, then one lemma per operation.
-/

namespace Sys2Proof.Machine

/-- Welbor takes the oldest request of a slice when its OP is the one served and the ports that it needs are free. -/
theorem Dev.vendorServe_of_slice {d e : Dev} {op n : Nat} {ports : List PortInfo} {pf0 : Bool} {r : VendorRequest}
    {rest : List VendorRequest} (f : Dev → VendorRequest → Option Nat → Nat × List Byte × Dev)
    (hrequests : d.wel.requests = r :: rest) (hop : ofLe (cut r.payload 0 2) = op) (hports : ports.all d.portFree = true)
    (hvia : r.via = .slice n) (hpop : d.setWel { d.wel with requests := rest } = e) :
    d.vendorServe op ports pf0 f = (f e r (some n)).2.2.vendorAnswer r (f e r (some n)).1 (f e r (some n)).2.1 := by
  simp [Dev.vendorServe, hrequests, hop, hports, VendorRequest.owner, hvia, hpop]

/-- The same with the answer of the operation named: its code, its result and the state it leaves. -/
theorem Dev.vendorServe_of_answer {d e e' : Dev} {op n code : Nat} {ports : List PortInfo} {pf0 : Bool} {r : VendorRequest}
    {rest : List VendorRequest} {result : List Byte} {f : Dev → VendorRequest → Option Nat → Nat × List Byte × Dev}
    (hrequests : d.wel.requests = r :: rest) (hop : ofLe (cut r.payload 0 2) = op) (hports : ports.all d.portFree = true)
    (hvia : r.via = .slice n) (hpop : d.setWel { d.wel with requests := rest } = e)
    (hanswer : f e r (some n) = (code, result, e')) :
    d.vendorServe op ports pf0 f = e'.vendorAnswer r code result := by
  rw [Dev.vendorServe_of_slice f hrequests hop hports hvia hpop, hanswer]

/-- A request that needs one port finds it free. -/
theorem Dev.all_portFree {d : Dev} {port : PortInfo} (hfree : d.portFree port = true) : [port].all d.portFree = true := by
  simp [hfree]

/-! ## Keys (R380) -/

section
variable {d e : Dev} {r : VendorRequest} {n k : Nat}

/-- The two descriptor words of a KEY_INSTALL that Welbor fills in, as the list of four that INSTALL takes. -/
def Dev.installWords (d : Dev) (r : VendorRequest) (n : Nat) : List Word :=
  [bits (r.field 0 4) 0 1 * 2 ^ 18 + bits (r.field 0 4) 1 7 * 2 ^ 20 + bits (r.field 0 4) 8 1 * 2 ^ 27
    + bits (r.field 0 4) 9 1 * 2 ^ 28 + b2n (d.slice n).isLocked * 2 ^ 29,
   n + (d.slice n).incarnation * 2 ^ 16, 0, 0].map (BitVec.ofNat 32)

theorem Dev.vendorInstall_of_good (hlife : d.lifecycle = 1 ∨ d.lifecycle = 2) (hsized : r.sized 68 = true)
    (hform : bits (r.field 0 4) 12 20 = 0) (hsingle : bitAt (r.field 0 4) 10 = false)
    (hquota : (d.slice n).keyUsed + 1 ≤ (d.slice n).keyQuota)
    (hpool : d.lowestFree (if bitAt (r.field 0 4) 11 then 1 else 0)
      (d.keyFree (d.pool (if bitAt (r.field 0 4) 11 then 1 else 0)) false) = some k)
    (hinstall : d.keyInstall k false false (d.installWords r n) (cut r.payload 8 64) (cut r.payload 72 64) = (Code.ok, e)) :
    d.vendorInstall r (some n) =
      (Code.ok, toLe 4 k ++ toLe 2 (e.keySlot k).gen, (e.clearKbuf).portEnd portKey Code.ok) := by
  have hlife' : (d.lifecycle == 1 || d.lifecycle == 2) = true := by simpa using hlife
  rw [Dev.installWords] at hinstall
  simp only [Dev.vendorInstall, hsingle, firstFailure, hlife', hsized, hform, Option.getD_some, Option.isNone_some,
    Option.isSome_some, Bool.false_or, Bool.true_and, decide_eq_true hquota, beq_self_eq_true, Bool.and_true, ne_eq,
    not_true_eq_false, Bool.false_eq_true, if_false, if_true, hpool, hinstall]

/-- Keys are installed in PROVISIONED and DEPLOYED only. -/
theorem Dev.vendorInstall_of_lifecycle (hprovisioned : d.lifecycle ≠ 1) (hdeployed : d.lifecycle ≠ 2) :
    d.vendorInstall r (some n) = (Code.access, [], d) := by
  simp [Dev.vendorInstall, firstFailure, hprovisioned, hdeployed, Code.access, Code.ok]

section
variable {answer : Nat × List Byte × Dev} {owner : Option Nat}

/-- KEY_RETIRE and KEY_QUERY serve the slots of their requester. -/
theorem Dev.vendorKey_of_owned (hsized : r.sized 4 = true) (howned : d.ownsKey owner k = true) :
    (if !r.sized 4 ∨ !d.ownsKey owner k then (Code.access, [], d) else answer) = answer :=
  if_neg (by simp [hsized, howned])

theorem Dev.vendorKey_of_foreign (hforeign : d.ownsKey owner k = false) :
    (if !r.sized 4 ∨ !d.ownsKey owner k then (Code.access, [], d) else answer) = (Code.access, [], d) :=
  if_pos (by simp [hforeign])

end

end

/-! ## Security associations (R380, R381) -/

section
variable {d e : Dev} {r : VendorRequest} {n k : Nat}

theorem Dev.vendorSaWrite_of_good {w : List Nat} {code : Nat}
    (hwords : (List.range 32).map (fun i => leWord (r.payload.drop 4) i) = w) (hsized : r.sized 128 = true)
    (hkey : d.ownsKey (some n) (Sa.slot w) = true) (hsucc : Sa.succValid w = false) (hmap : Sa.mapped w = false)
    (hpool : d.lowestFree 2 d.saFree = some k)
    (hwrite : d.saWrite true k ((w.set 3 (n + (d.slice n).incarnation * 2 ^ 16)).set 13 (setBits (nth w 13) 0 18 (Sa.bmp w))) =
      (code, e)) :
    d.vendorSaWrite r n = (code, if code = Code.ok then toLe 4 k else [], e.portEnd portSxp code) := by
  simp only [Dev.vendorSaWrite, hwords, firstFailure, hsized, hkey, hsucc, hmap, Bool.not_false, Bool.true_or, ne_eq,
    not_true_eq_false, Bool.false_eq_true, if_false, if_true, hpool, hwrite]

theorem Dev.vendorSa_of_owned {f : Nat → Nat × List Byte × Dev} (hsized : r.sized 4 = true)
    (howned : d.ownsSa n (r.field 0 4) = true) :
    d.vendorSa r n f = ((f (r.field 0 4)).1, (f (r.field 0 4)).2.1, (f (r.field 0 4)).2.2.portEnd portSxp (f (r.field 0 4)).1) := by
  simp only [Dev.vendorSa, hsized, howned, Bool.not_true, Bool.false_eq_true, if_false]

/-- A request for an SA of another owner is noted and refused. -/
theorem Dev.vendorSa_of_foreign {f : Nat → Nat × List Byte × Dev} (hsized : r.sized 4 = true)
    (hforeign : d.ownsSa n (r.field 0 4) = false) : d.vendorSa r n f = (Code.access, [], d.noteSa (r.field 0 4)) := by
  simp only [Dev.vendorSa, hsized, hforeign, Bool.not_true, Bool.not_false, Bool.false_eq_true, if_false, if_true]

end

/-! ## Volumes, queues and sessions (R244, R380) -/

section
variable {d e : Dev} {r : VendorRequest} {n : Nat}

/-- The words of the VOL_BIND_KEY that Welbor runs: OP 8, the key slot with its GEN, and the two fields of the request. -/
def Dev.bindWords (d : Dev) (r : VendorRequest) (k : Nat) : List Nat :=
  ((((List.replicate 16 0).set 0 8).set 8 k).set 9 (d.keySlot k).gen).set 10 (r.field 8 4) |>.set 11 (r.field 12 4)

theorem Dev.vendorVolBind_of_good {v k code : Nat} (hvol : r.field 0 4 = v) (hslot : r.field 4 4 = k) (hsized : r.sized 16 = true)
    (hownsVol : d.ownsVol n v = true) (hownsKey : d.ownsKey (some n) k = true) (heven : k % 2 = 0)
    (hxts : bitAt (d.keySlot k).modes 6 = true) (hbind : d.volBindKey v (d.bindWords r k) = (code, e)) :
    d.vendorVolBind r n = (code, [], e.portEnd portSto code) := by
  rw [Dev.bindWords] at hbind
  simp only [Dev.vendorVolBind, hvol, hslot, hsized, hownsVol, hownsKey, heven, hxts, hbind, Bool.not_true, Bool.false_eq_true,
    ne_eq, not_true_eq_false, or_self, if_false]

/-- The form that R380 asks of a QUEUE_OP. -/
structure VendorRequest.QueueForm (r : VendorRequest) (op : Nat) : Prop where
  sized : r.sized 72 = true
  zeroAfterOp : r.field 1 3 = 0
  zeroAfterLocal : r.field 6 2 = 0
  localBound : r.field 4 2 ≤ 1023
  opField : r.field 0 1 = op

/-- The context words of a QUEUE_OP with the owner that Welbor fills in. -/
def VendorRequest.queueWords (r : VendorRequest) (n : Nat) : List Nat :=
  ((List.range 16).map (fun i => leWord (r.payload.drop 12) i)).set 1 (n + r.field 4 2 % 1024 * 2 ^ 16)

/-- A queue operation ends with its code, the result of a success, and the queue port done. -/
def Dev.queueAnswer (a : Nat × Dev) (result : List Byte) : Nat × List Byte × Dev :=
  (a.1, if a.1 = Code.ok then result else [], a.2.portEnd portQue a.1)

/-- A well-formed QUEUE_OP is one of the four operations. -/
theorem VendorRequest.QueueForm.not_malformed {op : Nat} (hform : r.QueueForm op) (hpos : op ≠ 0) (hle : op ≤ 4) :
    ¬ (!r.sized 72 ∨ r.field 1 3 ≠ 0 ∨ r.field 6 2 ≠ 0 ∨ 1023 < r.field 4 2 ∨ r.field 0 1 = 0 ∨ 4 < r.field 0 1) := by
  have hlocal := hform.localBound
  simp only [hform.sized, hform.zeroAfterOp, hform.zeroAfterLocal, hform.opField, Bool.not_true, Bool.false_eq_true,
    ne_eq, not_true_eq_false, false_or]
  omega

/-- CREATE takes the lowest FREE device queue. -/
theorem Dev.vendorQueue_create {q : Nat} (hform : r.QueueForm 1)
    (hfree : (List.range 65536).find? (fun q => (d.queue q).state == .free) = some q) :
    d.vendorQueue r n = Dev.queueAnswer (d.createQueue true q (r.queueWords n)) (toLe 2 q) := by
  rw [Dev.vendorQueue, if_neg (hform.not_malformed (by decide) (by decide)), if_pos hform.opField, hfree]
  rfl

/-- The other operations find their queue by LOCAL. -/
theorem Dev.vendorQueue_of_local {q op : Nat} (hform : r.QueueForm op) (hop : op ∈ [2, 3, 4])
    (hlocal : d.localQueue n (r.field 4 2) = some q) :
    d.vendorQueue r n =
      if op = 2 then Dev.queueAnswer (d.modifyQueue true q (r.queueWords n)) (toLe 2 q)
      else if op = 3 then Dev.queueAnswer (d.destroyQueue true q) (toLe 2 q)
      else Dev.queueAnswer (Code.ok, d.readQueue true q) ((d.ctxWords q).flatMap (toLe 4)) := by
  have hbounds : 2 ≤ op ∧ op ≤ 4 := by
    simp only [List.mem_cons, List.not_mem_nil, or_false] at hop
    omega
  have hfield := hform.opField
  rw [Dev.vendorQueue, if_neg (hform.not_malformed (by omega) hbounds.2), if_neg (by omega), hlocal, hfield]
  rfl

/-- The storage port with a session operation that Welbor runs. -/
def Dev.withSesOp (d : Dev) (op n : Nat) : Dev :=
  d.setPort Page.sto { d.port Page.sto with run := some ⟨.welbor, op * 2 ^ 24 + n, []⟩ }

theorem Dev.vendorSes_of_owned {op : Nat} (hsized : r.sized 3 = true) (hop : r.field 2 1 = op) (hlow : 8 ≤ op) (hhigh : op ≤ 10)
    (howned : d.ownsSes n (r.field 0 2) = true)
    (hnext : (if op = 8 then (d.withSesOp op (r.field 0 2)).sesGo
      else if op = 9 then (d.withSesOp op (r.field 0 2)).sesClose else (d.withSesOp op (r.field 0 2)).sesReset) = e) :
    d.vendorSes r n = (e.fget Page.sto Reg.STO_OP_STAT_CODE, [], e) := by
  rw [Dev.withSesOp] at hnext
  simp only [Dev.vendorSes, hsized, howned, hop, Nat.not_lt.2 hlow, Nat.not_lt.2 hhigh, Bool.not_true, Bool.false_eq_true, or_self,
    if_false, hnext]

end

/-! ## The commands -/

/-- Settles O54: Welbor takes the oldest request, and each operation passes its checks or answers its refusal. What
CHARTER_HISTORY answers rests on log entry 77. -/
theorem vendorRequestCommands : Obligations.VendorRequestCommands := by
  unfold Obligations.VendorRequestCommands
  refine ⟨?install, ?installAccess, ?retire, ?query, ?queryAccess, ?saWrite, ?saDisable, ?saRoll, ?saRead, ?saReadForeign,
    ?volBind, ?queueModify, ?queueDestroy, ?queueCreate, ?queueRead, ?sesGo, ?sesClose, ?sesReset, ?history, ?historyMalformed⟩
  case install =>
    intro s n r rest d k e hrequests hop hfree hvia hpop hlife hsized hform hsingle hquota hpool hcode hnext
    exact congrArg s.become (Dev.vendorServe_of_answer hrequests hop (Dev.all_portFree hfree) hvia hpop
      (Dev.vendorInstall_of_good hlife hsized hform hsingle hquota hpool (Prod.ext hcode hnext)))
  case installAccess =>
    intro s n r rest d hrequests hop hfree hvia hpop hprovisioned hdeployed
    exact congrArg s.become (Dev.vendorServe_of_answer hrequests hop (Dev.all_portFree hfree) hvia hpop
      (Dev.vendorInstall_of_lifecycle hprovisioned hdeployed))
  case retire =>
    intro s n r rest d hrequests hop hfree hvia hpop hsized howned
    exact congrArg s.become (Dev.vendorServe_of_answer hrequests hop (Dev.all_portFree hfree) hvia hpop
      (Dev.vendorKey_of_owned hsized howned))
  case query =>
    intro s n r rest d hrequests hop hfree hvia hpop hsized howned
    exact congrArg s.become (Dev.vendorServe_of_answer hrequests hop (Dev.all_portFree hfree) hvia hpop
      (Dev.vendorKey_of_owned hsized howned))
  case queryAccess =>
    intro s n r rest d hrequests hop hfree hvia hpop hforeign
    exact congrArg s.become (Dev.vendorServe_of_answer hrequests hop (Dev.all_portFree hfree) hvia hpop
      (Dev.vendorKey_of_foreign hforeign))
  case saWrite =>
    intro s n r rest d w k code e hrequests hop hfree hvia hpop hwords hsized hkey hsucc hmap hpool hcode hnext
    exact congrArg s.become (Dev.vendorServe_of_answer hrequests hop (Dev.all_portFree hfree) hvia hpop
      (Dev.vendorSaWrite_of_good hwords hsized hkey hsucc hmap hpool (Prod.ext hcode hnext)))
  case saDisable =>
    intro s n r rest d hrequests hop hfree hvia hpop hsized howned
    exact congrArg s.become (Dev.vendorServe_of_answer hrequests hop (Dev.all_portFree hfree) hvia hpop
      (Dev.vendorSa_of_owned hsized howned))
  case saRoll =>
    intro s n r rest d hrequests hop hfree hvia hpop hsized howned hcode
    refine congrArg s.become (Dev.vendorServe_of_answer hrequests hop (Dev.all_portFree hfree) hvia hpop
      ((Dev.vendorSa_of_owned hsized howned).trans ?_))
    rw [hcode]
  case saRead =>
    intro s n r rest d hrequests hop hfree hvia hpop hsized howned
    exact congrArg s.become (Dev.vendorServe_of_answer hrequests hop (Dev.all_portFree hfree) hvia hpop
      (Dev.vendorSa_of_owned hsized howned))
  case saReadForeign =>
    intro s n r rest d hrequests hop hfree hvia hpop hforeign hsized
    exact congrArg s.become (Dev.vendorServe_of_answer hrequests hop (Dev.all_portFree hfree) hvia hpop
      (Dev.vendorSa_of_foreign hsized hforeign))
  case volBind =>
    intro s n r rest d v k code e hrequests hop hfree hvia hpop hvol hslot hsized hownsVol hownsKey heven hxts hcode hnext
    exact congrArg s.become (Dev.vendorServe_of_answer hrequests hop (Dev.all_portFree hfree) hvia hpop
      (Dev.vendorVolBind_of_good hvol hslot hsized hownsVol hownsKey heven hxts (Prod.ext hcode hnext)))
  case queueModify =>
    rintro s n r rest d q w hrequests hop hfree hvia hpop hsized hzero hzero' hlocal rfl hfield hqueue
    exact congrArg s.become (Dev.vendorServe_of_answer hrequests hop (Dev.all_portFree hfree) hvia hpop
      (Dev.vendorQueue_of_local ⟨hsized, hzero, hzero', hlocal, hfield⟩ (by decide) hqueue))
  case queueDestroy =>
    rintro s n r rest d q w hrequests hop hfree hvia hpop hsized hzero hzero' hlocal - hfield hqueue
    exact congrArg s.become (Dev.vendorServe_of_answer hrequests hop (Dev.all_portFree hfree) hvia hpop
      (Dev.vendorQueue_of_local ⟨hsized, hzero, hzero', hlocal, hfield⟩ (by decide) hqueue))
  case queueCreate =>
    rintro s n r rest d q w hrequests hop hfree hvia hpop hsized hzero hzero' hlocal rfl hfield hqueue
    exact congrArg s.become (Dev.vendorServe_of_answer hrequests hop (Dev.all_portFree hfree) hvia hpop
      (Dev.vendorQueue_create ⟨hsized, hzero, hzero', hlocal, hfield⟩ hqueue))
  case queueRead =>
    intro s n r rest d q hrequests hop hfree hvia hpop hsized hzero hzero' hlocal hfield hqueue
    exact congrArg s.become (Dev.vendorServe_of_answer hrequests hop (Dev.all_portFree hfree) hvia hpop
      (Dev.vendorQueue_of_local ⟨hsized, hzero, hzero', hlocal, hfield⟩ (by decide) hqueue))
  case sesGo =>
    intro s n r rest d e hrequests hop hfree hvia hpop hsized hfield howned hnext
    exact congrArg s.become (Dev.vendorServe_of_answer hrequests hop (Dev.all_portFree hfree) hvia hpop
      (Dev.vendorSes_of_owned hsized hfield (by decide) (by decide) howned hnext))
  case sesClose =>
    intro s n r rest d e hrequests hop hfree hvia hpop hsized hfield howned hnext
    exact congrArg s.become (Dev.vendorServe_of_answer hrequests hop (Dev.all_portFree hfree) hvia hpop
      (Dev.vendorSes_of_owned hsized hfield (by decide) (by decide) howned hnext))
  case sesReset =>
    intro s n r rest d e hrequests hop hfree hvia hpop hsized hfield howned hnext
    exact congrArg s.become (Dev.vendorServe_of_answer hrequests hop (Dev.all_portFree hfree) hvia hpop
      (Dev.vendorSes_of_owned hsized hfield (by decide) (by decide) howned hnext))
  case history =>
    intro s n r rest d img hrequests hop hvia hpop hsized hback himage
    refine congrArg s.become (Dev.vendorServe_of_answer hrequests hop rfl hvia hpop ?_)
    simp only [Option.getD_some, himage, if_pos (And.intro hsized hback)]
  case historyMalformed =>
    intro s n r rest d hrequests hop hvia hpop hold
    refine congrArg s.become (Dev.vendorServe_of_answer hrequests hop rfl hvia hpop ?_)
    simp only [Option.getD_some, List.getElem?_eq_none hold]

end Sys2Proof.Machine

/-!
SPDM, boot and MCTP (R370-R373, R375-R377, R379): when Welbor answers, what it answers, and how the stages of boot end.
-/

namespace Sys2Proof.Machine

/-! ## Requests outside a session (R371, R373, R376, R377) -/

/-- Welbor runs and has reached stage 2 of boot, and the transport can carry a message. -/
structure Dev.SpdmReached (d : Dev) (via : Transport) : Prop where
  viaOpen : d.viaOpen via = true
  power : d.domainOn 0 = true
  released : d.pwr.welborReleased = true
  stage : 2 ≤ d.bootStage

section
variable {d : Dev} {via : Transport} (hreached : d.SpdmReached via)
include hreached

/-- A request that Welbor can receive is not discarded. -/
theorem Dev.SpdmReached.not_discarded :
    ¬ (!d.viaOpen via ∨ !d.domainOn 0 ∨ !d.pwr.welborReleased ∨ d.bootStage < 2) := by
  simp only [hreached.viaOpen, hreached.power, hreached.released, Nat.not_lt.2 hreached.stage, Bool.not_true, Bool.false_eq_true,
    or_self, not_false_eq_true]

theorem Dev.spdmServe_of_negotiated {need : Nat} (f : Dev → Dev) (hlife : d.lifecycle ≠ lifeManufacture)
    (hboot : d.bootStage ≠ 0xF) (hneed : need ≤ d.negotiated via) : d.spdmServe via need f = f d := by
  rw [Dev.spdmServe, if_neg hreached.not_discarded, if_neg (not_or.2 ⟨hlife, hboot⟩), if_neg (Nat.not_lt.2 hneed)]

/-- In MANUFACTURE and after a failed boot every request is answered with ERROR (Unspecified). -/
theorem Dev.spdmServe_of_unready (need : Nat) (f : Dev → Dev) (hunready : d.lifecycle = lifeManufacture ∨ d.bootStage = 0xF) :
    d.spdmServe via need f = d.spdmAnswer via 0x7F 0x05 0 [] := by
  rw [Dev.spdmServe, if_neg hreached.not_discarded, if_pos hunready]
  rfl

end

/-- The blocks 1 to 4 are on every transport. -/
theorem blockIndices_common (via : Transport) {i : Nat} (hpos : 1 ≤ i) (hle : i ≤ 4) : (blockIndices via).contains i = true := by
  have hi : i = 1 ∨ i = 2 ∨ i = 3 ∨ i = 4 := by omega
  cases via with
  | slice n => rcases hi with rfl | rfl | rfl | rfl <;> rfl
  | pf0 p | pf1 p | mctp => rcases hi with rfl | rfl | rfl | rfl <;> rfl

theorem Dev.keyExchange_of_limit {d : Dev} {via : Transport} (summary : Bool) (hidentity : d.identity = true)
    (hlimit : sessionLimit via ≤ d.sessionsOn via) : d.keyExchange via summary = d.spdmAnswer via 0x7F 0x0A 0 [] := by
  rw [Dev.keyExchange, if_neg (by simp [hidentity]), if_pos hlimit]
  rfl

/-- A key exchange within the limit, without a summary of the measurements. -/
theorem Dev.keyExchange_of_room {d e : Dev} {via : Transport} {nonce : Nat} (hidentity : d.identity = true)
    (hroom : d.sessionsOn via < sessionLimit via) (hfresh : d.fresh = (nonce, e)) :
    d.keyExchange via false =
      let n := d.wel.nextSession
      let body := toLe 2 n ++ [0, 0] ++ toLe 32 nonce ++ cut (Config.secret useExchange (toLe 32 nonce)) 0 96
      (e.setWel { e.wel with
        nextSession := n + 1
        sessions := Sparse.set (blank none) e.wel.sessions n (some { via := via }) }).spdmAnswer via 0x64 60 0
          (body ++ Dev.signature body ++ cut (Config.secret useRecord body) 0 48) := by
  rw [Dev.keyExchange, if_neg (by simp [hidentity]), if_neg (Nat.not_le.2 hroom), hfresh]
  simp only [Bool.false_eq_true, if_false, List.append_nil]

/-! ## Requests inside a session (R377, R379) -/

/-- Session `n` is open and can receive a message. -/
structure Dev.SessionReached (d : Dev) (n : Nat) (v : SpdmSession) : Prop where
  isOpen : d.spdmSession n = some v
  viaOpen : d.viaOpen v.via = true
  power : d.domainOn 0 = true
  stage : 2 ≤ d.bootStage

section
variable {d : Dev} {n : Nat} {v : SpdmSession} (hreached : d.SessionReached n v)
include hreached

theorem Dev.inSession_of_reached (f : Dev → SpdmSession → Dev) : d.inSession n f = f d v := by
  simp only [Dev.inSession, hreached.isOpen, hreached.viaOpen, hreached.power, Nat.not_lt.2 hreached.stage, Bool.not_true,
    Bool.false_eq_true, or_self, if_false]

theorem Dev.established_of_finished (f : Dev → SpdmSession → Dev) (hfinished : v.finished = true) :
    d.established n f = f d v :=
  (Dev.inSession_of_reached hreached _).trans (if_pos hfinished)

/-- Before FINISH a request inside the session is answered with UnexpectedRequest. -/
theorem Dev.established_of_unfinished (f : Dev → SpdmSession → Dev) (hunfinished : v.finished = false) :
    d.established n f = d.spdmAnswer v.via 0x7F 0x04 0 [] :=
  (Dev.inSession_of_reached hreached _).trans (if_neg (by simp [hunfinished]))

/-- A vendor request that R380 lists waits its turn. -/
theorem Dev.vendorRequest_of_listed {payload : List Byte} (hfinished : v.finished = true)
    (hlisted : vendorOps.contains (ofLe (cut payload 0 2)) = true) :
    d.vendorRequest v.via (some n) payload = d.setWel { d.wel with requests := d.wel.requests ++ [⟨n, v.via, payload⟩] } :=
  (Dev.established_of_finished hreached _ hfinished).trans ((if_neg (not_not_intro rfl)).trans (if_pos hlisted))

theorem Dev.vendorRequest_of_unlisted {payload : List Byte} (hfinished : v.finished = true)
    (hunlisted : vendorOps.contains (ofLe (cut payload 0 2)) = false) :
    d.vendorRequest v.via (some n) payload = d.vendorAnswer ⟨n, v.via, payload⟩ Code.malformed [] :=
  (Dev.established_of_finished hreached _ hfinished).trans
    ((if_neg (not_not_intro rfl)).trans (if_neg (by rw [hunlisted]; exact Bool.false_ne_true)))

end

/-! ## The stages of boot (R370, R371) -/

section
variable {d : Dev}

section
variable (hreleased : d.pwr.welborReleased = true) (pass : Bool) (ims : List BootImage)
include hreleased

theorem Dev.endStage_zero (hstage : d.bootStage = 0) : d.endStage pass ims = d.endRom pass := by
  rw [Dev.endStage, if_neg (by simp [hreleased]), if_pos hstage]

theorem Dev.endStage_one (hstage : d.bootStage = 1) : d.endStage pass ims = d.endFirmware ims := by
  rw [Dev.endStage, if_neg (by simp [hreleased]), if_neg (by simp [hstage]), if_pos hstage]

theorem Dev.endStage_two (hstage : d.bootStage = 2) : d.endStage pass ims = d.endCpx ims := by
  rw [Dev.endStage, if_neg (by simp [hreleased]), if_neg (by simp [hstage]), if_neg (by simp [hstage]), if_pos hstage]

end

/-- The self-tests of stage 0 pass: the governing generation is in force, and blocks 1 and 4 are measured. -/
theorem Dev.endRom_pass (hlife : d.lifecycle ≠ lifeScrap) :
    d.endRom true =
      ((d.selectGeneration.applyGeneration.measure 1 (cut (Config.secret useRom []) 0 48)).measure 4
        d.selectGeneration.applyGeneration.hardwareBlock).setBootStage 1 :=
  (if_neg hlife).trans (if_neg (by decide))

theorem Dev.endRom_fail (hlife : d.lifecycle ≠ lifeScrap) : d.endRom false = d.bootFail 5 [] 0 :=
  (if_neg hlife).trans (if_pos rfl)

/-- Both images of the preferred set are accepted. -/
theorem Dev.endFirmware_of_preferred {ims : List BootImage} {set : Nat} (hset : bits (byteAt d.governing 16) 1 1 = set)
    (hgood : d.setErr ims set = 0) :
    d.endFirmware ims =
      let svn (k : Nat) := ((imageOf ims set k).map (·.svn)).getD 0
      let e := d.measure 2 (((imageOf ims set 1).map (·.digest)).getD [] ++ toLe 2 (svn 1))
      ((e.setWel { e.wel with svnWelbor := svn 1, svnCpx := svn 2 }).fset Page.otp Reg.OTP_BOOT_IMAGE set).setBootStage 2 := by
  subst hset
  exact if_pos hgood

/-- Neither set of images is accepted. -/
theorem Dev.endFirmware_of_bad {ims : List BootImage} {set : Nat} (hset : bits (byteAt d.governing 16) 1 1 = set)
    (hbad : d.setErr ims set ≠ 0) (hother : d.setErr ims (1 - set) ≠ 0) :
    d.endFirmware ims = d.bootFail (d.setErr ims (1 - set)) ims (1 - set) := by
  subst hset
  exact (if_neg hbad).trans (if_neg hother)

theorem Dev.endCpx_of_good {ims : List BootImage} {set : Nat} {i : BootImage} (hset : d.fget Page.otp Reg.OTP_BOOT_IMAGE = set)
    (hgood : d.imageErr ims set 2 = 0) (himage : d.bootImage ims set 2 = some i) :
    d.endCpx ims =
      ((List.range 4).foldl (fun (d : Dev) p => d.fset (Page.cpx p) Reg.CPX_STAT_STATE 0)
        ((d.dwrite firmwareBase (i.body.take i.length)).measure 3 (i.digest ++ toLe 2 i.svn))).setBootStage 3 := by
  rw [Dev.endCpx, hset, if_neg (not_not_intro hgood), himage]
  rfl

theorem Dev.endCpx_of_bad {ims : List BootImage} {set : Nat} (hset : d.fget Page.otp Reg.OTP_BOOT_IMAGE = set)
    (hbad : d.imageErr ims set 2 ≠ 0) : d.endCpx ims = d.bootFail (d.imageErr ims set 2) ims set := by
  subst hset
  exact if_pos hbad

end

/-! ## The commands -/

/-- Settles O55: a request is answered by how far boot and the negotiation have come, one in a session by the session, and a stage
of boot by its images. The second stage rests on log entry 77, the OP that R380 does not list on log entry 40, and the bytes of the
messages on log entries 4 and 78. -/
theorem spdmCommands : Obligations.SpdmCommands := by
  unfold Obligations.SpdmCommands
  refine ⟨?version, ?capabilities, ?algorithms, ?digests, ?certificate, ?certificateSlot, ?challenge, ?challengeIdentity,
    ?measurements, ?exchangeLimit, ?exchange, ?versionUnready, ?capabilitiesUnready, ?digestsUnready, ?algorithmsUnready,
    ?certificateUnready, ?challengeUnready, ?measurementsUnready, ?exchangeUnready, ?finish, ?finishBad, ?heartbeat, ?keyUpdate,
    ?endSession, ?heartbeatUnfinished, ?keyUpdateUnfinished, ?endSessionUnfinished, ?vendorListed, ?vendorUnlisted, ?timeout,
    ?mctp, ?mctpOff, ?bootRom, ?bootScrap, ?bootFirmware, ?bootFirmwareBad, ?bootCpx, ?bootCpxBad⟩
  case version =>
    intro s via hopen hpower hreleased hstage hlife hboot
    exact congrArg s.become (Dev.spdmServe_of_negotiated ⟨hopen, hpower, hreleased, hstage⟩ _ hlife hboot (Nat.zero_le _))
  case capabilities =>
    intro s via hopen hpower hreleased hstage hlife hboot hneed
    exact congrArg s.become (Dev.spdmServe_of_negotiated ⟨hopen, hpower, hreleased, hstage⟩ _ hlife hboot hneed)
  case algorithms =>
    intro s via b hopen hpower hreleased hstage hlife hboot hneed
    exact congrArg s.become (Dev.spdmServe_of_negotiated ⟨hopen, hpower, hreleased, hstage⟩ _ hlife hboot hneed)
  case digests =>
    intro s via hopen hpower hreleased hstage hlife hboot hneed
    exact congrArg s.become (Dev.spdmServe_of_negotiated ⟨hopen, hpower, hreleased, hstage⟩ _ hlife hboot hneed)
  case certificate =>
    intro s via off len hopen hpower hreleased hstage hlife hboot hneed hoff
    refine congrArg s.become
      ((Dev.spdmServe_of_negotiated ⟨hopen, hpower, hreleased, hstage⟩ _ hlife hboot hneed).trans ?_)
    rw [if_neg (by simpa using hoff)]
    simp only [List.length_take, List.length_drop]
  case certificateSlot =>
    intro s via slot off len hopen hpower hreleased hstage hlife hboot hneed hslot
    exact congrArg s.become
      ((Dev.spdmServe_of_negotiated ⟨hopen, hpower, hreleased, hstage⟩ _ hlife hboot hneed).trans (if_pos (.inl hslot)))
  case challenge =>
    intro s via nonce hopen hpower hreleased hstage hlife hboot hneed hidentity
    exact congrArg s.become
      ((Dev.spdmServe_of_negotiated ⟨hopen, hpower, hreleased, hstage⟩ _ hlife hboot hneed).trans
        ((if_neg (not_not_intro rfl)).trans (if_neg (by simp [hidentity]))))
  case challengeIdentity =>
    intro s via nonce hopen hpower hreleased hstage hlife hboot hneed hidentity
    exact congrArg s.become
      ((Dev.spdmServe_of_negotiated ⟨hopen, hpower, hreleased, hstage⟩ _ hlife hboot hneed).trans
        ((if_neg (not_not_intro rfl)).trans (if_pos (by simp [hidentity]))))
  case measurements =>
    intro s via i hopen hpower hreleased hstage hlife hboot hneed hpos hle
    refine congrArg s.become
      ((Dev.spdmServe_of_negotiated ⟨hopen, hpower, hreleased, hstage⟩ _ hlife hboot hneed).trans ?_)
    have hnonzero : i ≠ 0 := Nat.ne_of_gt hpos
    have hnotAll : i ≠ 0xFF := by omega
    simp only [blockIndices_common via hpos hle, hnonzero, hnotAll, Bool.not_true, Bool.false_eq_true, and_false, Option.isSome_none,
      false_and, if_false, List.append_nil]
  case exchangeLimit =>
    intro s via b hopen hpower hreleased hstage hlife hboot hneed hidentity hlimit
    exact congrArg s.become
      ((Dev.spdmServe_of_negotiated ⟨hopen, hpower, hreleased, hstage⟩ _ hlife hboot hneed).trans
        (Dev.keyExchange_of_limit b hidentity hlimit))
  case exchange =>
    rintro s via _ nonce d hopen hpower hreleased hstage hlife hboot hneed hidentity hroom rfl hfresh
    exact congrArg s.become
      ((Dev.spdmServe_of_negotiated ⟨hopen, hpower, hreleased, hstage⟩ _ hlife hboot hneed).trans
        (Dev.keyExchange_of_room hidentity hroom hfresh))
  case versionUnready | capabilitiesUnready | digestsUnready | algorithmsUnready | certificateUnready | challengeUnready |
      measurementsUnready | exchangeUnready =>
    intro s via hopen hpower hreleased hstage hunready
    exact congrArg s.become (Dev.spdmServe_of_unready ⟨hopen, hpower, hreleased, hstage⟩ _ _ hunready)
  case finish =>
    intro s n v hsession hopen hpower hstage hunfinished
    exact congrArg s.become ((Dev.inSession_of_reached ⟨hsession, hopen, hpower, hstage⟩ _).trans
      (if_pos ⟨rfl, by simp [hunfinished]⟩))
  case finishBad =>
    intro s n v hsession hopen hpower hstage
    exact congrArg s.become ((Dev.inSession_of_reached ⟨hsession, hopen, hpower, hstage⟩ _).trans (if_neg (by simp)))
  case heartbeat | keyUpdate | endSession =>
    intro s n v hsession hopen hpower hstage hfinished
    exact congrArg s.become (Dev.established_of_finished ⟨hsession, hopen, hpower, hstage⟩ _ hfinished)
  case heartbeatUnfinished | keyUpdateUnfinished | endSessionUnfinished =>
    intro s n v hsession hopen hpower hstage hunfinished
    exact congrArg s.become (Dev.established_of_unfinished ⟨hsession, hopen, hpower, hstage⟩ _ hunfinished)
  case vendorListed =>
    intro s n v payload hsession hopen hpower hstage hfinished hlisted
    exact congrArg s.become (Dev.vendorRequest_of_listed ⟨hsession, hopen, hpower, hstage⟩ hfinished hlisted)
  case vendorUnlisted =>
    intro s n v payload hsession hopen hpower hstage hfinished hunlisted
    exact congrArg s.become (Dev.vendorRequest_of_unlisted ⟨hsession, hopen, hpower, hstage⟩ hfinished hunlisted)
  case timeout =>
    intro s n
    rfl
  case mctp =>
    intro s eid hon
    exact congrArg s.become (if_neg (by simp [hon]))
  case mctpOff =>
    intro s eid hoff
    exact congrArg s.become (if_pos (by simp [hoff]))
  case bootRom =>
    intro s ims hreleased hstage hlife
    exact ⟨congrArg s.become ((Dev.endStage_zero hreleased true ims hstage).trans (Dev.endRom_pass hlife)),
      congrArg s.become ((Dev.endStage_zero hreleased false ims hstage).trans (Dev.endRom_fail hlife))⟩
  case bootScrap =>
    intro s pass ims hreleased hstage hlife
    exact congrArg s.become ((Dev.endStage_zero hreleased pass ims hstage).trans (if_pos hlife))
  case bootFirmware =>
    rintro s pass ims set _ _ _ _ hreleased hstage hset hgood rfl rfl rfl rfl
    exact congrArg s.become ((Dev.endStage_one hreleased pass ims hstage).trans (Dev.endFirmware_of_preferred hset hgood))
  case bootFirmwareBad =>
    intro s pass ims set hreleased hstage hset hbad hother
    exact congrArg s.become ((Dev.endStage_one hreleased pass ims hstage).trans (Dev.endFirmware_of_bad hset hbad hother))
  case bootCpx =>
    intro s pass ims set i hreleased hstage hset hgood himage
    exact congrArg s.become ((Dev.endStage_two hreleased pass ims hstage).trans (Dev.endCpx_of_good hset hgood himage))
  case bootCpxBad =>
    intro s pass ims set hreleased hstage hset hbad
    exact congrArg s.become ((Dev.endStage_two hreleased pass ims hstage).trans (Dev.endCpx_of_bad hset hbad))

end Sys2Proof.Machine
